-- ==== Sys2Proof/Word.lean ====
section
/-!
DEFINITION. The word types and their plainest arithmetic, and the sparse table every indexed part of the
state is held in.
-/

namespace Sys2Proof

/-- A 64-bit word: Tabirair time (R47), memory words (R465). -/
abbrev Word := BitVec 64

/-- A byte. -/
abbrev Byte := BitVec 8

/-- A sparse table: entries at strictly rising keys; a key that is not listed holds the table's default. -/
abbrev Map (α : Type) := List (Nat × α)

/-- What a table lists at a key, if anything. -/
def Map.find {α : Type} : Map α → Nat → Option α
  | [], _ => none
  | (k, v) :: m, j => if j = k then some v else Map.find m j

/-- The value of a table at a key; `d` is what an unlisted key holds. -/
def Map.get {α : Type} (d : α) (m : Map α) (k : Nat) : α := (Map.find m k).getD d

/-- Forget what is listed at a key. -/
def Map.erase {α : Type} : Map α → Nat → Map α
  | [], _ => []
  | (k, v) :: m, j => if j = k then Map.erase m j else (k, v) :: Map.erase m j

/-- Put an entry in front of the first larger key. -/
def Map.put {α : Type} : Map α → Nat → α → Map α
  | [], j, w => [(j, w)]
  | (k, v) :: m, j, w =>
    if j = k then (k, w) :: m
    else if j < k then (j, w) :: (k, v) :: m
    else (k, v) :: Map.put m j w

/-- Write a table in canonical form: writing the default removes the entry. -/
def Map.set {α : Type} [DecidableEq α] (d : α) (m : Map α) (k : Nat) (v : α) : Map α :=
  if v = d then Map.erase m k else Map.put m k v

/-- Keys all above a bound and strictly rising. -/
def Map.sortedFrom {α : Type} : Nat → Map α → Bool
  | _, [] => true
  | lo, (k, _) :: m => decide (lo ≤ k) && Map.sortedFrom (k + 1) m

/-- The canonical form of a table: keys strictly rising, and no entry equal to what an unlisted key holds. -/
def Map.wf {α : Type} [DecidableEq α] (d : α) (m : Map α) : Bool :=
  Map.sortedFrom 0 m && m.all (fun e => decide (e.2 ≠ d))

end Sys2Proof
end

