-- ==== Sys2Proof/Syntax.lean ====
section
/-!
DEFINITION. The commands the device takes: the types of their operands, and one constructor per row of
spec/opcode_table.json. Operands carry what the row names (an instance, an address, a value) and, for a row that
is an event of the world, what the world did (an error seen, a level sampled, a check's outcome).
-/

namespace Sys2Proof

/-- A fault an upset leaves on a stored word (R116, R466, R483): one flipped bit, more than can be corrected (the data bits it flipped), or the valid
bit's parity broken. -/
inductive Upset where
  | single (bit : Nat)
  | multi (flips : BitVec 64)
  | validParity
deriving DecidableEq, Repr

/-- The two ports of a RAM block (R109). -/
inductive RamPort where
  | a | b
deriving DecidableEq, Repr

/-- A write on one RAM port: word address at the port's width, byte enables, data (R110). -/
structure RamWrite where
  addr : Nat
  be : Nat
  din : Nat
deriving DecidableEq, Repr

/-- The inputs of a MAC slice at one edge (R121). -/
structure MacIn where
  ma : BitVec 27
  mp : BitVec 26
  mb : BitVec 27
  ad : BitVec 64
  op : BitVec 2
  en : Bool
  clr : Bool
deriving DecidableEq, Repr

/-- A data flit of a packet (R181, R182): 512 data bits and the POISON bit. -/
structure Flit where
  bits : Nat
  poison : Bool
deriving DecidableEq, Repr

/-- A packet (R188, R189): the fields of its header flit and its data flits, the last of which carries the end-to-end CRC in bits [511:480] (R193). `vc` is the virtual channel all its flits travel on (R188): 0 CT, 1 BG, 2 BE. -/
structure Packet where
  dest : Nat
  src : Nat
  prio : Nat := 0
  cls : Bool := false
  flow : Nat := 0
  epoch : Nat := 0
  len : Nat
  kind : Nat
  poison : Bool := false
  deadline : Nat := 0
  xdev : Bool := false
  destDev : Nat := 0
  srcDev : Nat := 0
  status : Nat := 0
  size : Nat := 0
  addr : Nat := 0
  tag : Nat := 0
  user : Nat := 0
  vc : Nat := 2
  data : List Flit
deriving DecidableEq, Repr

/-- What a router's input finds wrong with a packet it receives (R182, R201 to R205). Flits are counted from 0, the header. `ce` are the lanes it corrects, as (flit,
lane); `wires` the wires of the control field that are wrong, as (flit, bit of the field, which of its three wires); `dataUe` the uncorrectable lanes of data flits,
as (data flit, lane); `hdrUe` those of the header; `stray` says that a data flit with no packet open came before it, `cut` that another header came before its last
flit; `silent` are bits flipped in data flits that no check sees, as (data flit, flipped bits). -/
structure HopFault where
  ce : List (Nat × Nat) := []
  wires : List (Nat × Nat × Nat) := []
  dataUe : List (Nat × Nat) := []
  hdrUe : List Nat := []
  stray : Bool := false
  cut : Bool := false
  silent : List (Nat × Nat) := []
deriving DecidableEq, Repr

/-- One changed route-table entry (R197): router, entry, new value. -/
structure RouteChange where
  router : Nat
  entry : Nat
  value : Nat
deriving DecidableEq, Repr

/-- A stream message (R329): LENGTH, the payload bytes (byte 0 lowest), POISON and XDEV of its FLAGS, USER bits [399:256] of the
header flit, and for a received one the payload bytes that arrived poisoned. -/
structure StreamMsg where
  length : Nat
  payload : Nat
  poison : Bool
  xdev : Bool
  user : Nat
  badBytes : List Nat
deriving DecidableEq, Repr

/-- A block as a lane's receiver has it (R306, R307): eight characters of 8b/10b with the running disparity before them, or 66 bits with the 58 scrambled bits
that came before them, the latest in bit 0. -/
inductive LineBlock where
  | chars (c : BitVec 80) (rd : Bool)
  | bits (v : BitVec 66) (before : BitVec 58)
deriving DecidableEq, Repr

/-- A memory request (R467, R473, R503): byte address, length,
direction, data (byte 0 lowest), whether the data is poisoned, the requester. -/
structure MemReq where
  addr : Nat
  bytes : Nat
  write : Bool
  data : Nat
  poison : Bool
  req : Nat
deriving DecidableEq, Repr

/-- What a burst's read link ECC finds (R504). -/
inductive LinkErr where
  | ok | corrected | retried | failed
deriving DecidableEq, Repr

/-- The outcome of a channel's training (R510): the devices found (density code, ranks minus 1, MR5, MR6), or a FAILCODE. -/
inductive TrainEnd where
  | ok (density ranks mr5 mr6 : Nat)
  | fail (code : Nat)
deriving DecidableEq, Repr

/-- A configuration request of the host to a function (R523 to R525): a read of its IDs or its class code, a write of Bus Master Enable, of the
number of VFs enabled (PF1), of the power state, of MSI-X Enable and Function Mask, or any other. -/
inductive CfgAccess where
  | readId
  | readClass
  | busMaster (on : Bool)
  | numVfs (n : Fin 33)
  | power (d3 : Bool)
  | msix (on mask : Bool)
  | other
deriving DecidableEq, Repr

/-- What comes back to a DMA channel (R534): the host's completion for one of its outstanding host reads, counted from the oldest, with its data or
without success; or the device's response, which waits at the controller. -/
inductive DmaEvent where
  | hostData (k : Fin 16) (data : Nat) (poison : Bool)
  | hostError (k : Fin 16)
  | device
deriving DecidableEq, Repr

/-- How a DRW request frame arrives (R579 to R582): well formed; with a CRC or format error, which is answered ACK 3; or with a frame error, which is not
answered. -/
inductive DrwFrame where
  | ok | bad | broken
deriving DecidableEq, Repr

/-- What Sage finds in a debug grant (R571, R641, R642): whether its layout and length are right, whether its SERIAL and NONCE match, its KEYSEL, whether that
slot's stored keys hash to the fuses (R632), whether each signature verifies, its LEVEL. -/
structure GrantFacts where
  formed : Bool
  serial : Bool
  nonce : Bool
  keysel : Fin 16
  hashed : Bool
  rsa : Bool
  slh : Bool
  level : Fin 4
deriving DecidableEq, Repr

/-- The static fields of one flip-flop (R103). -/
structure FfCfg where
  ensel : Nat
  rssel : Nat
  async : Bool
  rsval : Bool
  sv : Bool
deriving DecidableEq, Repr

/-- The static fields of one cell (R99 to R103): `d0`, `d1` select a flip-flop's D (0 Y, 1 S or CO, 2 direct). -/
structure CellCfg where
  split : Bool
  t : BitVec 64
  d0 : Nat
  d1 : Nat
  z0S : Bool
  z1Co : Bool
  ff0 : FfCfg
  ff1 : FfCfg
deriving DecidableEq, Repr

/-- A port's read-during-write mode (R112). -/
inductive Rdw where
  | writeFirst | readFirst | noChange
deriving DecidableEq, Repr

/-- The static options of a RAM block (R109 to R117): data widths (a multiple of nine is of the nine family), read-during-write modes, output
registers, ECC, invalidate-on-configure. -/
structure RamCfg where
  widthA : Nat
  widthB : Nat
  rdwA : Rdw
  rdwB : Rdw
  outA : Bool
  outB : Bool
  ecc : Bool
  invOnCfg : Bool
deriving DecidableEq, Repr

/-- What frames set in a region (R590), each with the region's number in the package: a cell, a cluster's carry-in select, a multiplexer's select as
the inputs it picks, a RAM block's options and a word of its initial contents, a MAC slice's options, a spine route that starts in the region (its source
port, destination region and port, lateral links crossed, KEEP, border value), a DCQ channel that it writes (destination region and port), a connection of the
region to a plain-mode pin (the crossbar port that drives it, the pin as bank × 32 + pin, whether it is the output enable, border value), a connection from such a pin
(the crossbar port it drives, the pin). -/
inductive CfgItem where
  | cell (region cluster cell : Nat) (c : CellCfg)
  | carry (region cluster sel : Nat)
  | select (region mux : Nat) (inputs : List Nat)
  | ram (region block : Nat) (c : RamCfg)
  | ramWord (region block word : Nat) (data : BitVec 64) (nine : BitVec 8)
  | mac (region slice pre : Nat) (sat : Bool)
  | spine (region route srcPort dstRegion dstPort : Nat) (links : List Nat) (keep : Bool) (border : Nat)
  | dcq (region q dstRegion dstPort : Nat)
  | pad (region port pin : Nat) (enable : Bool) (border : Nat)
  | padIn (region port pin : Nat)
deriving DecidableEq, Repr

/-- A frame record (R603): its address, whose bits [3:0] are the die index, [12:4] the region and [20:13] the frame index, and its 4,096 data bits. -/
structure FrameRec where
  addr : BitVec 21
  data : Nat
deriving DecidableEq, Repr

/-- A register record (R603): address, value and write mask. -/
structure RegRec where
  addr : BitVec 48
  value : BitVec 32
  mask : BitVec 32
deriving DecidableEq, Repr

/-- An image segment (R601, R602): target, bytes after decoding, the stored bytes as one number, and COMP: they are in zero-word coding (R604). -/
structure Image where
  addr : BitVec 48
  bytes : Nat
  data : Nat
  comp : Bool := false
deriving DecidableEq, Repr

/-- An ERRATA segment (R601, R602, R623): the die type and revision it is for, its frame records, and what they set. -/
structure Errata where
  fd : Bool
  letter : BitVec 8
  digit : BitVec 8
  frames : List FrameRec
  items : List CfgItem
deriving DecidableEq, Repr

/-- The LPDDR5X settings of a header (R600). -/
structure LpxHdr where
  mode : Bool
  rate : BitVec 3
  inl : Bool
deriving DecidableEq, Repr

/-- A stream as Dawn has read it (R600 to R605, R622): a Yequemel stream or not, free of the faults of code 1, KIND, the header's flags and fields,
frames and what they set, errata, register records, images, Sage and Dusk firmware as (bytes, data), the key slot its trailer names, its digest; and whether a source word
came poisoned, or a Yequemel record failed its CRC. -/
structure Stream where
  legacy : Bool
  formed : Bool
  isPart : Bool
  enc : Bool
  sysidV : Bool
  relHold : Bool
  coreStart : Bool
  rbkOk : Bool
  minFlevel : BitVec 8
  sysid : BitVec 6
  lpx : LpxHdr
  mask : List (Fin 3072)
  frames : List FrameRec
  items : List CfgItem
  errata : List Errata
  regs : List RegRec
  images : List Image
  sageFw : Option (Nat × Nat)
  duskFw : Option (Nat × Nat)
  slot : BitVec 8
  digest : BitVec 384
  poisoned : Bool
  crcBad : Bool
deriving DecidableEq, Repr

/-- What Sage finds in verifying a stream (R637 to R639): whether the named slot's stored keys hash to its fuses, the GCM tag, the two signatures. -/
structure StreamCheck where
  hashed : Bool
  gcm : Bool
  rsa : Bool
  slh : Bool
deriving DecidableEq, Repr

/-- What the readback engine finds in a frame (R620): no error, one flipped bit (of a multiplexer's select, by its number in the region, or of something else),
or more. -/
inductive FrameCheck where
  | clean
  | single (mux : Option Nat)
  | multi
deriving DecidableEq, Repr

/-- What Sage finds in a signed command (R641, R642): whether it could be read, whether its layout, length and payload are right, whether its SERIAL and
NONCE match, its KEYSEL, whether that slot's stored keys hash to the fuses (R632), whether each signature verifies, the slot its payload names, whether an
ENROLL carries an OSK. -/
structure CmdFacts where
  read : Bool
  formed : Bool
  serial : Bool
  nonce : Bool
  keysel : Fin 16
  hashed : Bool
  rsa : Bool
  slh : Bool
  slot : BitVec 32
  osk : Bool
deriving DecidableEq, Repr

/-- How the fuses and the private NVM take a command's effect (R644 to R646): all of it; a slot's fuse fails before VALID, or a fuse that stands alone; the lifecycle
fuse fails after the rest; power fails in the middle. -/
inductive FuseRun where
  | ok | fails | stateFails | cut
deriving DecidableEq, Repr

/-- The commands, one constructor per row of the table, in the table's order. -/
inductive Instr where
  /-- REGISTER_WRITE (R4): A write to a register field that has no row of its own takes effect according to its access code. -/
  | registerWrite (addr : BitVec 48) (wide : Bool) (value : BitVec 64) (req : BitVec 16)
  /-- COUNTER_CLEARING_READ (R6): A read of an RC counter or status register with peek clear returns its value and clears it; with peek set it clears nothing. -/
  | counterClearingRead (addr : BitVec 48) (wide : Bool) (peek : Bool) (req : BitVec 16)
  /-- EVENT_RAISED (R27): A block raises an event code; the collector creates a record or merges it into the pending record of that code by incrementing REPEAT. -/
  | eventRaised (source : BitVec 16) (code : BitVec 16) (severity : BitVec 4) (detail : BitVec 128)
  /-- EVENT_RECORD_WRITE (R30): The collector writes a pending record to the ring in a background slot, or discards it and counts DROPS and sets OVF when the ring is full or EN is 0. -/
  | eventRecordWrite (source : BitVec 16) (code : BitVec 16)
  /-- EVENT_RING_CONFIG_WRITE (R31): A write of BASE or LOG2N is ignored while EN is 1, and a LOG2N change with EN at 0 sets WP and RP to 0. -/
  | eventRingConfigWrite (off : Nat) (value : BitVec 32)
  /-- EVENT_RING_RP_WRITE (R30): A write of RP stores the written value modulo 2^LOG2N. -/
  | eventRingRpWrite (value : BitVec 32)
  /-- EVENT_RING_OVF_CLEAR (R29): A write of 1 to OVF clears it and DROPS, unless a discard sets OVF in the same cycle. -/
  | eventRingOvfClear (discarded : Option (BitVec 16 × BitVec 16))
  /-- SYSID_WRITE (R18): A write of DEV_SYSID.ID takes effect only while no cross-device contract or DCL peer flow is open. -/
  | sysidWrite (value : BitVec 32)
  /-- DEV_RST_DEVICE (R34): A write of DEV_RST with CLASS 1 and the correct key performs a device reset. -/
  | devRstDevice (key : BitVec 16)
  /-- DEV_RST_WARM (R34): A write of DEV_RST with CLASS 2 and the correct key performs a warm fabric reset. -/
  | devRstWarm (key : BitVec 16)
  /-- POWER_ON_RESET (R730): A monitored rail falls below its threshold; power-on reset asserts within 1 us and resets everything except fuses. -/
  | powerOnReset
  /-- POWER_ON_RESET_END (R730): Power-on reset ends 2 ms after the last monitored rail comes up with TREF present; fuses load, straps are sampled and start-up begins. -/
  | powerOnResetEnd (syncrole : Bool) (bootsrc : Fin 4) (pullUp : Bool) (vio : BitVec 2)
  /-- RAM_RESTORE_DONE (R141): Restoration of RAM contents after a warm fabric reset ends, which fixes the release time T_r. -/
  | ramRestoreDone (rel : Nat)
  /-- TIME_COUNTER_START (R50): The counter starts at 0 on the first time-clock cycle after the master time PLL locks. -/
  | timeCounterStart
  /-- DESKEW_RECALIBRATE (R51): Every 2^20 time-clock cycles a die's deskew loop remeasures its distribution path and corrects its counter copy. -/
  | deskewRecalibrate (die : Fin 12) (inRange : Bool)
  /-- TBS_TIME_LO_READ (R53): A read of TBS_TIME_LO with peek clear returns counter bits [31:0] and captures bits [63:32] in the TIME_HI shadow. -/
  | tbsTimeLoRead (peek : Bool)
  /-- SET_TIME (R56): A write of 1 to SET_TIME steps a standalone device's time at once, or a master's time at the next frame's on-time point. -/
  | setTime
  /-- STEP_NOW (R75): A write of 1 to STEP_NOW permits one step while STEP_NEEDED is set. -/
  | stepNow
  /-- ROLE_WRITE (R57): A write of TBS_SYNC_CTL.ROLE changes the device's sync role and the state machine's state. -/
  | roleWrite (role : BitVec 2)
  /-- SYNC_FRAME_SEND (R60): The master sends the next 16-character sync frame with its TIME, type and sequence number. -/
  | syncFrameSend
  /-- SYNC_FRAME_RECEIVE (R62): A follower receives a sync frame, checks it, computes the phase error and advances its state machine. -/
  | syncFrameReceive (comma : BitVec 10) (body : BitVec 130) (check : BitVec 20)
  /-- SYNC_LOST (R67): LOSS_FRAMES frame periods pass without a good frame, and the follower enters HOLDOVER or FREE. -/
  | syncLost
  /-- HOLDOVER_LIMIT (R69): TBS_HOLD.FRAMES reaches a non-zero LIMIT and HOLDOVER_LIMIT is raised once per holdover. -/
  | holdoverLimit
  /-- TREF_LOST (R71): TREF is lost; the time PLL holds its control value, a master sends HOLD frames and TREF_LOST is raised. -/
  | trefLost
  /-- TREF_RESTORED (R71): TREF returns; the PLL resumes tracking without a phase step and TREF_RESTORED is raised. -/
  | trefRestored
  /-- TIME_PLL_LOCK_LOST (R73): The master time PLL loses lock while TREF is present and runs on its held control value. -/
  | timePllLockLost
  /-- TIME_PLL_LOCK_REGAINED (R73): The time PLL regains lock within 1 us and the counter stays valid. -/
  | timePllLockRegained
  /-- TIME_PLL_UNLOCK (R73): The time PLL stays unlocked for 1 us; scheduled actions stop until device reset and a master stops sending frames. -/
  | timePllUnlock
  /-- FAB_CG_APPLY (R90): APPLY checks a generator's pending settings and starts a retune, or ends FAILED at once. -/
  | fabCgApply (fd : Fin 8) (g : Fin 8)
  /-- RETUNE_COMMIT (R90): At the first falling output edge at or after AT the output stops low and the new settings become active. -/
  | retuneCommit (fd : Fin 8) (g : Fin 8)
  /-- CG_PLL_LOCKED (R90): The generator PLL locks to its active settings and the output restarts with a full-width high phase. -/
  | cgPllLocked (fd : Fin 8) (g : Fin 8)
  /-- CLKGEN_UNLOCK (R90): The generator PLL has not locked after 20 us; the output stays low, STATE shows FAILED and CLKGEN_UNLOCK is raised. -/
  | clkgenUnlock (fd : Fin 8) (g : Fin 8)
  /-- FAB_CG_ABORT (R90): ABORT ends a retune under the commit point rule. -/
  | fabCgAbort (fd : Fin 8) (g : Fin 8)
  /-- FAB_CG_ENABLE (R749): A write of EN from 0 to 1 starts the generator PLL at the active settings. -/
  | fabCgEnable (fd : Fin 8) (g : Fin 8)
  /-- FAB_CG_DISABLE (R749): A write of EN from 1 to 0 stops the output at its next falling edge and stops the PLL. -/
  | fabCgDisable (fd : Fin 8) (g : Fin 8)
  /-- PWCLK_SOURCE_WRITE (R88): A change of a package-wide clock's source while EN is 1 stops the clock low. -/
  | pwclkSourceWrite (n : Fin 4) (fd : BitVec 3) (g : BitVec 3) (en : Bool)
  /-- PWCLK_RESUME (R88): After 64 cycles of the new source the package-wide clock resumes from that source. -/
  | pwclkResume (n : Fin 4)
  /-- FAB_RAM_READ (R111): A RAM block port reads a word, which DOUT shows after the fixed latency, with ECC correction and status outputs. -/
  | fabRamRead (fd : Fin 8) (rgn_ : Fin 384) (b : Fin 4) (port : RamPort) (addr : Nat) (upset : Option Upset)
  /-- FAB_RAM_WRITE (R113): A RAM block port writes a word under its byte enables, with port A winning an overlapping two-port write and the collision counted. -/
  | fabRamWrite (fd : Fin 8) (rgn_ : Fin 384) (b : Fin 4) (pa : Option RamWrite) (pb : Option RamWrite)
  /-- MAC_UPDATE (R122): A MAC slice captures its operands and OP and updates ACC two edges later, setting OVF on overflow. -/
  | macUpdate (fd : Fin 8) (rgn_ : Fin 384) (slice : Fin 8) (inp : MacIn)
  /-- FAB_RO_TRIM (R127): A write of TRIM starts a trim of a ring oscillator. -/
  | fabRoTrim (fd : Fin 8) (g : Fin 8)
  /-- RO_TRIM_WINDOW_END (R127): A 2^27-tick trim window ends; the trim code is adjusted and the trim ends DONE, FAILED or continues. -/
  | roTrimWindowEnd (fd : Fin 8) (g : Fin 8) (within : Bool)
  /-- FAB_RO_ABORT (R127): ABORT ends a trim under the commit point rule. -/
  | fabRoAbort (fd : Fin 8) (g : Fin 8)
  /-- FAB_RO_FREQ_WRITE (R128): A write of FREQ takes effect at once and resets the trim code to 0x800. -/
  | fabRoFreqWrite (fd : Fin 8) (g : Fin 8) (freq : BitVec 10)
  /-- NVM_FABRIC_READ (R131): The fabric port captures a user NVM read, which completes after 3 fcyc or after the bank's write ends. -/
  | nvmFabricRead (fd : Fin 8) (addr : BitVec 15)
  /-- NVM_READ_COMPLETE (R131): A user NVM read completes and sets NVM_VALID with its data. -/
  | nvmReadComplete (fd : Fin 8) (upset : Option Upset)
  /-- NVM_FABRIC_WRITE (R132): The fabric port writes a word into the write buffer while a buffer entry is free. -/
  | nvmFabricWrite (fd : Fin 8) (addr : BitVec 15) (data : BitVec 64)
  /-- NVM_REGISTER_WRITE (R132): A posted write through the register window enters the write buffer, stalling while the buffer is full. -/
  | nvmRegisterWrite (fd : Fin 8) (byteAddr : BitVec 18) (wide : Bool) (data : BitVec 64)
  /-- NVM_WRITE_DRAIN (R132): A buffered write completes in the array after 200 ns and leaves the buffer. -/
  | nvmWriteDrain (fd : Fin 8) (bank : Fin 4)
  /-- NVM_LOCK_KEY (R136): A write to FAB_NVM_LOCK.KEY advances the lock sequence and sets LOCKED at its second key. -/
  | nvmLockKey (fd : Fin 8) (key : BitVec 16) (req : BitVec 16)
  /-- NVM_LOCK_TIMEOUT (R136): More than 64 cycles pass in the lock sequence, which returns to idle. -/
  | nvmLockTimeout (fd : Fin 8)
  /-- SP_DATA_PUSH (R137): A write of FAB_SPp_DATA pushes a byte to the transmit FIFO, or sets TXOVF when full. -/
  | spDataPush (fd : Fin 8) (p : Fin 8) (byte : BitVec 8)
  /-- SP_DATA_POP (R137): A read of FAB_SPp_DATA with peek clear pops the head byte of the receive FIFO. -/
  | spDataPop (fd : Fin 8) (p : Fin 8) (peek : Bool)
  /-- SP_MODE_APPLY (R138): A written MODE takes effect at the end of any byte in transfer. -/
  | spModeApply (fd : Fin 8) (p : Fin 8)
  /-- SP_ROUTE_APPLY (R138): A written ROUTE takes effect when BUSY falls, claiming or releasing the service-pin window. -/
  | spRouteApply (fd : Fin 8) (p : Fin 8)
  /-- SP_BYTE_RECEIVED (R137): A serial port receives a byte into its receive FIFO, or discards it with RXOVF or flags a line error. -/
  | spByteReceived (fd : Fin 8) (p : Fin 8) (byte : BitVec 8) (lineErr : Bool)
  /-- SP_BYTE_SENT (R137): A serial port finishes sending a byte from its transmit FIFO. -/
  | spByteSent (fd : Fin 8) (p : Fin 8) (lineErr : Bool)
  /-- OUTHOLD_RELEASE (R139): At T_r each released region releases OUTHOLD at its first clock edge and its outputs carry computed values. -/
  | outholdRelease (rel : Nat)
  /-- WRHOLD_RELEASE (R139): At T_r + S regions release WRHOLD and RAM and MAC writes are accepted. -/
  | wrholdRelease (rel : Nat)
  /-- STHOLD_RELEASE (R617): At T_r + 2S regions release STHOLD, cores are released when CORE_START is 1 and CFG_RELEASED is raised. -/
  | stholdRelease (rel : Nat)
  /-- DCQ_WRITE (R155): User logic writes an entry into a region-boundary DCQ channel on a write-clock edge. -/
  | dcqWrite (fd : Fin 8) (rgn_ : Fin 384) (q : Fin 4) (data : BitVec 72)
  /-- DCQ_ENTRY_PRESENT (R158): An entry first shows at the read side with R_VALID after its crossing latency. -/
  | dcqEntryPresent (fd : Fin 8) (rgn_ : Fin 384) (q : Fin 4)
  /-- DCQ_READ (R157): R_RD with R_VALID at 1 removes the head entry. -/
  | dcqRead (fd : Fin 8) (rgn_ : Fin 384) (q : Fin 4)
  /-- DCQ_REMOVAL_REPORT (R155): A removal is reported to the write side, which recomputes W_FULL. -/
  | dcqRemovalReport (fd : Fin 8) (rgn_ : Fin 384) (q : Fin 4)
  /-- XBAR_SEL_UPSET (R161): An upset makes a crossbar select non-one-hot; SELERR sets and XBAR_SEL_UPSET is raised. -/
  | xbarSelUpset (fd : Fin 8) (rgn_ : Fin 384) (mux : Nat) (bit : Nat)
  /-- NAP_TX_PACKET (R164): User logic sends a packet through the NAP, which fills ingress fields or discards it with NAP_TX_REJECT. -/
  | napTxPacket (fd : Fin 8) (rgn_ : Fin 384) (p : Packet)
  /-- NAP_RX_DELIVER (R165): A packet's flits are written into the NAP's receive DCQ and presented to user logic. -/
  | napRxDeliver (fd : Fin 8) (rgn_ : Fin 384)
  /-- NAP_MM_REQUEST (R168): The NAP presents a memory-mapped request to user logic. -/
  | napMmRequest (fd : Fin 8) (rgn_ : Fin 384)
  /-- NAP_MM_ACK (R168): User logic completes a memory-mapped request with MM_ACK, or with MM_ERR as a decode error. -/
  | napMmAck (fd : Fin 8) (rgn_ : Fin 384) (err : Bool) (rdata : BitVec 64)
  /-- NAP_MM_TIMEOUT (R168): MM_ACK has not come in time; the NAP answers with a decode error and raises NAP_MM_TIMEOUT. -/
  | napMmTimeout (fd : Fin 8) (rgn_ : Fin 384)
  /-- REGION_CLK_SEL_WRITE (R149): A write of FAB_RGN_CLK.SEL changes the region clock only while isolated, otherwise sets SEL_REJ. -/
  | regionClkSelWrite (fd : Fin 8) (rgn_ : Fin 384) (sel : BitVec 4) (clearRej : Bool)
  /-- FAB_RGN_ISO_REQ (R173): A write of REQ requests software isolation, or ends FAILED while a contract ends at the NAP. -/
  | fabRgnIsoReq (fd : Fin 8) (rgn_ : Fin 384)
  /-- FAB_RGN_ISO_EXIT (R174): A write of EXIT requests the end of a software isolation in mode 0 or 1. -/
  | fabRgnIsoExit (fd : Fin 8) (rgn_ : Fin 384) (mode : Bool)
  /-- FAB_RGN_ISO_ABORT (R172): ABORT ends a pending isolation request under the commit point rule. -/
  | fabRgnIsoAbort (fd : Fin 8) (rgn_ : Fin 384)
  /-- ISOLATION_COMMIT (R172): At the first region-clock edge at or after its time a region becomes isolated, drives border values and flushes its DCQ channels. -/
  | isolationCommit (fd : Fin 8) (rgn_ : Fin 384)
  /-- ISOLATION_EXIT_COMMIT (R174): At the exit edge the region resumes or starts a staged release. -/
  | isolationExitCommit (fd : Fin 8) (rgn_ : Fin 384)
  /-- ROUTER_PACKET_RECEIVE (R197): A router receives a packet, checks and corrects its flits and forwards it by its epoch's route table. -/
  | routerPacketReceive (n : Nat) (fault : HopFault)
  /-- PACKET_DELIVER (R206): The destination endpoint receives a packet, checks CRC and length and acts on its KIND. -/
  | packetDeliver (n : Nat)
  /-- WAKE_BUFFER_DRAIN (R212): The port becomes OPEN and the router delivers the buffered packets in order of arrival. -/
  | wakeBufferDrain (router : Fin 384) (port : Fin 32)
  /-- NOC_WAKE_TIMEOUT (R214): The port is not OPEN within twice its wake bound; held packets are answered and NOC_WAKE_FAIL is raised. -/
  | nocWakeTimeout (router : Fin 384) (port : Fin 32)
  /-- NOC_WAKE_REFUSED (R214): The power controller refuses a wake; held packets are answered and NOC_WAKE_FAIL is raised. -/
  | nocWakeRefused (router : Fin 384) (port : Fin 32) (thermal : Bool)
  /-- PORT_QUIET_OFF (R216): A CLOSING port sees no packet in progress for 16 ncyc and enters OFF, the power-down's network commit point. -/
  | portQuietOff (router : Fin 384) (port : Fin 32)
  /-- FORCED_CLOSE_TIMEOUT (R218): The 1,024th ncyc of a forced CLOSING passes and the port enters OFF, cutting packets in progress. -/
  | forcedCloseTimeout (router : Fin 384) (port : Fin 32)
  /-- ROUTE_UPDATE (R199): Thyme writes new routes to the idle bank and flips the ingress epoch, remapping affected contracts. -/
  | routeUpdate (changes : List RouteChange)
  /-- ROUTE_UPDATE_ABORT (R199): An abort ends a route update under the commit point rule. -/
  | routeUpdateAbort (n : Nat)
  /-- ROUTE_EPOCH_RELEASE (R199): The count of old-epoch packets reaches 0; the old bank becomes idle and NOC_EPOCH_SWITCH is raised. -/
  | routeEpochRelease
  /-- THY_ADMIT (R236): A mailbox ADMIT checks a contract request and admits it with slots and a bound, or refuses it. -/
  | thyAdmit (m : Fin 8) (answered : Bool)
  /-- THY_SUSPEND (R246): A mailbox SUSPEND stops the ingress accepting CLASS 1 packets of a LIVE contract. -/
  | thySuspend (m : Fin 8) (id : BitVec 12) (answered : Bool)
  /-- THY_RESUME (R247): A mailbox RESUME returns a SUSP_REQ contract to LIVE with its credit restored. -/
  | thyResume (m : Fin 8) (id : BitVec 12) (answered : Bool)
  /-- THY_TEARDOWN (R246): A mailbox TEARDOWN stops the flow and moves the contract to DRAINING. -/
  | thyTeardown (m : Fin 8) (id : BitVec 12) (answered : Bool)
  /-- THY_READMIT (R247): A mailbox READMIT places a SUSP_BREACH contract afresh and keeps its ID. -/
  | thyReadmit (m : Fin 8) (id : BitVec 12) (answered : Bool)
  /-- THY_ABORT (R248): ABORT ends a mailbox operation under the commit point rule. -/
  | thyAbort (m : Fin 8)
  /-- THY_TIMEOUT (R234): An ADMIT or READMIT not committed within 200 us ends FAILED with REASON 13. -/
  | thyTimeout (m : Fin 8)
  /-- CONTRACT_DRAIN_END (R246): B elapses after a teardown's commit point and the contract becomes FREE. -/
  | contractDrainEnd (id : BitVec 12)
  /-- INGRESS_ACCEPT (R243): An ingress accepts a contract packet's header against the credit, stamps DEADLINE or sends it as excess. -/
  | ingressAccept (p : Packet)
  /-- TIO_VECTOR_PACKET (R277): A timed I/O bank receives a vector packet and buffers its vectors or rejects it. -/
  | tioVectorPacket (bank : Fin 20)
  /-- TIO_VECTOR_START (R269): A buffered vector starts at its Tabirair time, taking its timeset and deskew, and the bank enters RUNNING. -/
  | tioVectorStart (bank : Fin 20)
  /-- TIO_EDGE_EVENT (R273): A drive event takes effect on the ball at its placed time. -/
  | tioEdgeEvent (bank : Fin 20) (pin : Fin 32)
  /-- TIO_STROBE (R286): An edge strobe samples the pin, or a window strobe opens or closes, at its placed time. -/
  | tioStrobe (bank : Fin 20) (pin : Fin 32) (high : Bool) (low : Bool)
  /-- TIO_VECTOR_END (R274): A vector ends; the pin enters the IDLE state in a gap and the bank goes IDLE after a LAST vector. -/
  | tioVectorEnd (bank : Fin 20)
  /-- TIO_RESULT_COMPLETE (R288): A vector's result record completes and enters the result buffer. -/
  | tioResultComplete (bank : Fin 20)
  /-- TIO_RESULT_FLUSH (R289): The oldest result record has waited FLUSH and the bank sends its result packet. -/
  | tioResultFlush (bank : Fin 20)
  /-- TIO_STOP (R281): A write of STOP schedules the stop of the run at STOP_AT, or at once. -/
  | tioStop (bank : Fin 20)
  /-- TIO_STOP_TAKE_EFFECT (R281): The stop time is reached; later vectors are discarded and the bank enters STOPPED. -/
  | tioStopTakeEffect (bank : Fin 20)
  /-- TIO_SRST (R282): A write of SRST discards both buffers, stops the scheduler and returns the bank to IDLE or keeps FAULT. -/
  | tioSrst (bank : Fin 20)
  /-- TIO_SUPPLY_MISMATCH (R262): The bank supply leaves the range IOSTD requires; drivers turn off and the bank enters FAULT. -/
  | tioSupplyMismatch (bank : Fin 20)
  /-- TIO_CALIBRATE (R284): The calibration engine revisits a pin and adjusts its delay-line codes. -/
  | tioCalibrate (bank : Fin 20) (pin : Fin 32) (inRange : Bool)
  /-- TIO_DELAY_APPLY (R266): A written ODLY or IDLY takes effect at the first capturing edge 8 time-clock cycles after the write. -/
  | tioDelayApply (bank : Fin 20) (pin : Fin 32)
  /-- LNE_CFG_WRITE (R296): A write of a lane's MODE or RATE sets its use or is refused with CFG_REJ. -/
  | lneCfgWrite (lane : Fin 160) (mode : BitVec 3) (rate : BitVec 4)
  /-- LANE_REF_LOST (R302): A lane group's reference is lost; REF_OK clears and its lanes lose CDR lock. -/
  | laneRefLost (g : Fin 20)
  /-- LANE_CDR_LOST (R302): A lane loses CDR lock for another reason. -/
  | laneCdrLost (lane : Fin 160)
  /-- LANE_SLIP (R301): A receive elastic buffer departs more than 6 entries from its level; data is lost and a DCL link retrains. -/
  | laneSlip (lane : Fin 160) (departure : Fin 17)
  /-- RAW_WORD_RECEIVE (R305): A raw lane presents a received word to the region, or discards it on overflow. -/
  | rawWordReceive (lane : Fin 160) (line : BitVec 80) (realign : Bool)
  /-- RAW_WORD_TRANSMIT (R305): User logic writes a word for transmission on a raw lane. -/
  | rawWordTransmit (lane : Fin 160) (word : BitVec 72)
  /-- DCL_ENABLE (R315): Setting DCL_CTL.EN moves a link from DISABLED to DETECT. -/
  | dclEnable (l : Fin 144)
  /-- DCL_DISABLE (R320): Clearing EN returns the link to DISABLED and discards its stream messages. -/
  | dclDisable (l : Fin 144)
  /-- DCL_RETRAIN_CMD (R319): A write of RETRAIN retrains a link from UP or leaves FAILED for DETECT. -/
  | dclRetrainCmd (l : Fin 144)
  /-- DCL_BLOCK_LOCK (R311): Two comma blocks arrive one alignment period apart and the receiver declares block lock. -/
  | dclBlockLock (l : Fin 144)
  /-- DCL_BLOCK_LOCK_LOST (R311): Block lock is lost and a link in UP retrains. -/
  | dclBlockLockLost (l : Fin 144)
  /-- DCL_ERROR_THRESHOLD (R319): THRESH errored blocks occur within a window and the link retrains. -/
  | dclErrorThreshold (l : Fin 144) (blocks : List (Nat × LineBlock))
  /-- DCL_CAP (R315): A received CAP block records the peer's capabilities and can settle the target rate. -/
  | dclCap (l : Fin 144) (maxRate : BitVec 8) (mask : BitVec 16) (dev : BitVec 6) (lantum : Bool)
  /-- DCL_RATE_REQ (R315): A received RATE_REQ is acknowledged with RATE_ACK. -/
  | dclRateReq (l : Fin 144) (rate : BitVec 8)
  /-- DCL_RATE_ACK (R316): A received RATE_ACK completes the exchange for a rate change. -/
  | dclRateAck (l : Fin 144) (rate : BitVec 8)
  /-- DCL_RATE_SWITCH (R316): After the next comma the transmitter switches rate and the receiver seeks block lock at the new rate. -/
  | dclRateSwitch (l : Fin 144)
  /-- DCL_EQ (R313): A received EQ block moves the local FFE coefficient or reports the peer trained. -/
  | dclEq (l : Fin 144) (req : BitVec 8) (peerTrained : Bool) (ownTrained : Bool)
  /-- DCL_TS_REQ (R321): A received TS_REQ is answered with TS_RSP carrying TURN. -/
  | dclTsReq (l : Fin 144) (seq : BitVec 8) (turn : BitVec 24)
  /-- DCL_TS_RSP (R321): A received TS_RSP yields a latency sample; after 16 exchanges the measurement is accepted or retried. -/
  | dclTsRsp (l : Fin 144) (seq : BitVec 8) (turn : BitVec 24) (elapsed : BitVec 32)
  /-- DCL_LATINFO (R313): A received LATINFO block gives the peer's latency values. -/
  | dclLatinfo (l : Fin 144) (tx : BitVec 24) (rx : BitVec 24)
  /-- DCL_TIME_HI (R324): A received TIME_HI block carries time bits [63:32] and the epoch. -/
  | dclTimeHi (l : Fin 144) (hi : BitVec 32) (epoch : BitVec 8)
  /-- DCL_TIME_LO (R325): A received TIME_LO block completes the peer time, and a Lantum peer updates DCL_TIMEDIFF. -/
  | dclTimeLo (l : Fin 144) (lo : BitVec 32)
  /-- DCL_MAP (R328): A received MAP block is compared with DCL_RXMAPID and sets MAP_OK. -/
  | dclMap (l : Fin 144) (id : BitVec 32)
  /-- DCL_STATUS (R314): A received STATUS block reports the peer's lock, time validity and error state. -/
  | dclStatus (l : Fin 144) (bits : BitVec 3)
  /-- DCL_RETRAIN_BLOCK (R319): A received RETRAIN block makes the link retrain. -/
  | dclRetrainBlock (l : Fin 144) (cause : BitVec 8)
  /-- DCL_IDLE (R313): A received IDLE control block carries nothing. -/
  | dclIdle (l : Fin 144)
  /-- DCL_CAPX_TIMEOUT (R318): CAPX exceeds 1 ms and the attempt fails, returning to DETECT. -/
  | dclCapxTimeout (l : Fin 144)
  /-- DCL_RELOCK_TIMEOUT (R317): Relock after a rate change exceeds 2 ms and both ends fall back to the last locked rate. -/
  | dclRelockTimeout (l : Fin 144)
  /-- DCL_EQTRAIN_TIMEOUT (R317): EQTRAIN exceeds 5 ms and both ends fall back to the last locked rate. -/
  | dclEqtrainTimeout (l : Fin 144)
  /-- DCL_LATMEAS_TIMEOUT (R318): A LATMEAS attempt exceeds 1 ms and fails. -/
  | dclLatmeasTimeout (l : Fin 144)
  /-- DCL_TX_PACKET (R331): The engine receives a MESSAGE packet for a transmit stream and queues it as a stream message. -/
  | dclTxPacket (engine : Fin 36)
  /-- DCL_MESSAGE_TRANSMIT (R332): A queued message begins in the stream's next owned slot and takes its slots until it ends. -/
  | dclMessageTransmit (stream : BitVec 12)
  /-- DCL_STREAM_MESSAGE_RECEIVE (R333): A complete received stream message is injected as a MESSAGE packet of its contract. -/
  | dclStreamMessageReceive (stream : BitVec 12) (blocks : List LineBlock) (uncorrectable : Bool) (corrected : BitVec 16)
  /-- DCL_MAP_WRITE (R327): A slot map or map ID write takes effect only while the link is DISABLED, otherwise sets MAP_REJ. -/
  | dclMapWrite (l : Fin 144) (off : BitVec 9) (value : BitVec 32)
  /-- DCL_STREAM_ENTRY_WRITE (R326): A stream table write is ignored with STR_REJ while a contract names the stream. -/
  | dclStreamEntryWrite (stream : BitVec 12) (value : BitVec 32)
  /-- DCL_ASYM_WRITE (R322): A write of DCL_ASYM takes effect in the latency registers and TIME content at once. -/
  | dclAsymWrite (l : Fin 144) (value : BitVec 16)
  /-- PGE_ARM (R354): ARM checks the outputs and bases, initialises the run state and starts the sequencer in BUSY. -/
  | pgeArm (n : Fin 16)
  /-- PGE_ABORT (R354): ABORT ends a run before its commit point with nothing sent, or sets ABORT_LATE. -/
  | pgeAbort (n : Fin 16)
  /-- PGE_STOP (R356): STOP forms no vector at or after STOP_AT, closes the outputs and ends STOPPED. -/
  | pgeStop (n : Fin 16)
  /-- PGE_SRST (R361): SRST returns the PGE to IDLE at once and discards unsent packets. -/
  | pgeSrst (n : Fin 16)
  /-- PGE_NOP (R364): NOP does nothing for one cycle. -/
  | pgeNop (n : Fin 16)
  /-- PGE_HALT (R355): HALT stops the sequencer, records CODE and marks the final vector LAST or sends a termination vector. -/
  | pgeHalt (n : Fin 16)
  /-- PGE_JMP (R364): JMP sets PC to TGT. -/
  | pgeJmp (n : Fin 16)
  /-- PGE_CALL (R366): CALL pushes PC + 1 and jumps, or fails at depth 8. -/
  | pgeCall (n : Fin 16)
  /-- PGE_RET (R366): RET pops PC, or fails at depth 0. -/
  | pgeRet (n : Fin 16)
  /-- PGE_BR (R364): BR jumps when the named flag equals POL. -/
  | pgeBr (n : Fin 16)
  /-- PGE_LDC (R365): LDC loads a loop counter. -/
  | pgeLdc (n : Fin 16)
  /-- PGE_DJNZ (R365): DJNZ decrements a counter and branches when it is not 0. -/
  | pgeDjnz (n : Fin 16)
  /-- PGE_TSET (R364): TSET sets the current timeset. -/
  | pgeTset (n : Fin 16)
  /-- PGE_SV (R370): SV emits stored vectors from the decoder, COUNT or until END. -/
  | pgeSv (n : Fin 16)
  /-- PGE_AV (R376): AV emits RPT + 1 algorithmic vectors and steps the address chain when STEP is 1. -/
  | pgeAv (n : Fin 16)
  /-- PGE_WAITT (R367): WAITT advances VT to a target time, opening a gap in vector time. -/
  | pgeWaitt (n : Fin 16)
  /-- PGE_WAITF (R367): WAITF closes forming packets and stalls until a flag equals POL. -/
  | pgeWaitf (n : Fin 16)
  /-- PGE_SYNCV (R367): SYNCV closes forming packets and stalls until FCEn reports the last vector complete. -/
  | pgeSyncv (n : Fin 16)
  /-- PGE_WAIT_END (R367): The condition of a WAITF or SYNCV holds; TMO clears and VT moves past the end time. -/
  | pgeWaitEnd (n : Fin 16)
  /-- PGE_WAIT_TIMEOUT (R367): A WAITF or SYNCV reaches TIMEOUT cycles; TMO sets and the sequencer continues. -/
  | pgeWaitTimeout (n : Fin 16)
  /-- PGE_LDG (R381): LDG writes a generator register for the next vector formed. -/
  | pgeLdg (n : Fin 16)
  /-- PGE_SFLAG (R364): SFLAG sets or clears the soft flags named in MASK. -/
  | pgeSflag (n : Fin 16)
  /-- PGE_SVPTR (R368): SVPTR points the decoder at a new record and resets the current vector. -/
  | pgeSvptr (n : Fin 16)
  /-- PGE_EVT (R364): EVT raises PGE_USER with CODE. -/
  | pgeEvt (n : Fin 16)
  /-- PGE_ILLEGAL_OPCODE (R364): An opcode from 0x12 to 0x3F ends the run FAILED with HCAUSE 2. -/
  | pgeIllegalOpcode (n : Fin 16)
  /-- PGE_RECORD_DELTA (R370): A DELTA record replaces named groups of the current vector and yields RPT + 1 vectors. -/
  | pgeRecordDelta (n : Fin 16)
  /-- PGE_RECORD_TOGGLE (R370): A TOGGLE record XORs states of named groups and yields RPT + 1 vectors. -/
  | pgeRecordToggle (n : Fin 16)
  /-- PGE_RECORD_END (R370): An END record sets SEND and yields no vector. -/
  | pgeRecordEnd (n : Fin 16)
  /-- PGE_LEAD_CLOSE (R348): Tabirair time reaches START − LEAD_MIN and the output's forming packet closes. -/
  | pgeLeadClose (n : Fin 16) (g : Fin 16)
  /-- PGE_PACKET_INJECT (R350): A closed packet is injected once time and credit allow; the first injection is the run's commit point. -/
  | pgePacketInject (n : Fin 16) (g : Fin 16)
  /-- PGE_FETCH_RESPONSE (R378): A fetch response fills a cache line or vector block, marking it bad or poisoned on error. -/
  | pgeFetchResponse (n : Fin 16)
  /-- PGE_BREACH_NOTICE (R359): A breach notice for an output contract is counted and makes the next packet TIMED. -/
  | pgeBreachNotice (n : Fin 16)
  /-- FCE_ARM (R389): ARM checks the descriptor and areas and enters BUSY to clear the run state. -/
  | fceArm (n : Fin 16)
  /-- FCE_ARM_COMPLETE (R389): Clearing ends and the FCE enters CAPTURING, raising FCE_CAPTURE_START. -/
  | fceArmComplete (n : Fin 16)
  /-- FCE_END (R390): A write of END moves the FCE to ANALYSING, or re-analyses from ABORTED. -/
  | fceEnd (n : Fin 16)
  /-- FCE_ABORT (R391): ABORT ends an analysis before its commit point, leaving banks unchanged. -/
  | fceAbort (n : Fin 16)
  /-- FCE_SRST (R392): SRST returns the FCE to IDLE and discards buffers and an unfinished analysis. -/
  | fceSrst (n : Fin 16)
  /-- FCE_INPUT_PACKET (R394): An FCE receives a result packet and buffers its records, or rejects or discards it. -/
  | fceInputPacket (n : Fin 16)
  /-- FCE_TRACE_ENTRY (R400): PGEn passes a trace entry for a vector it forms into the trace buffer. -/
  | fceTraceEntry (n : Fin 16)
  /-- FCE_RECORD_PROCESS (R396): The FCE processes a result record into site state, flags, log, bitmap and the RAU. -/
  | fceRecordProcess (n : Fin 16) (ue : List Nat)
  /-- FCE_ANALYSIS_COMMIT (R391): The last repair record is written and BANK flips; the FCE shows DONE and sends its notice. -/
  | fceAnalysisCommit (n : Fin 16) (ue : List Nat)
  /-- FCE_STAT_SNAPSHOT (R419): Every PERIOD frames the FCE takes a statistics snapshot, or skips it when the last is unsent. -/
  | fceStatSnapshot (n : Fin 16)
  /-- FCE_STAT_PACKET_INJECT (R419): A snapshot packet is injected once its contract's credit covers it. -/
  | fceStatPacketInject (n : Fin 16)
  /-- FCE_BREACH_NOTICE (R399): A breach notice for an input contract sets that input's BREACHED. -/
  | fceBreachNotice (n : Fin 16)
  /-- MSP_PARALLEL (R439): A parallel-format instruction performs one multiply operation and up to one X and one Y access. -/
  | mspParallel (m : Fin 128)
  /-- MSP_NOP (R440): NOP does nothing. -/
  | mspNop (m : Fin 128)
  /-- MSP_HALT (R457): HALT ends the member DONE with HCODE and raises MSP_HALT. -/
  | mspHalt (m : Fin 128)
  /-- MSP_BR (R441): BR jumps when COND holds, filling the repeat cache on a short backward branch. -/
  | mspBr (m : Fin 128)
  /-- MSP_CALL (R440): CALL pushes PC + 1 and jumps. -/
  | mspCall (m : Fin 128)
  /-- MSP_RET (R440): RET pops PC. -/
  | mspRet (m : Fin 128)
  /-- MSP_BDNZ (R440): BDNZ decrements Dc and branches when the result is not 0. -/
  | mspBdnz (m : Fin 128)
  /-- MSP_REPEAT (R444): REPEAT runs the next instruction N + 1 times without interruption. -/
  | mspRepeat (m : Fin 128)
  /-- MSP_WAIT_INBOX (R459): WAIT KIND 0 waits until an inbox holds a message. -/
  | mspWaitInbox (m : Fin 128)
  /-- MSP_WAIT_TIME (R459): WAIT KIND 1 waits until the seen Tabirair time reaches a 64-bit target. -/
  | mspWaitTime (m : Fin 128) (lag : Fin 2561)
  /-- MSP_WAIT_BARRIER (R460): WAIT KIND 2 arrives at the group barrier. -/
  | mspWaitBarrier (m : Fin 128)
  /-- MSP_WAIT_CHANNEL (R459): WAIT KIND 3 waits until a channel's PEND is 0. -/
  | mspWaitChannel (m : Fin 128)
  /-- MSP_WAIT_END (R459): The condition of a waiting WAIT holds and the member continues. -/
  | mspWaitEnd (m : Fin 128) (lag : Fin 2561)
  /-- MSP_SEND (R453): SEND queues a MESSAGE packet on a channel from X or Y memory, stalling while the queue is full. -/
  | mspSend (m : Fin 128)
  /-- MSP_SFLG (R440): SFLG sets the member's flag output. -/
  | mspSflg (m : Fin 128)
  /-- MSP_LDI (R440): LDI loads an immediate into a D register. -/
  | mspLdi (m : Fin 128)
  /-- MSP_MOV (R440): MOV copies a D register with its poison. -/
  | mspMov (m : Fin 128)
  /-- MSP_MOVP (R440): MOVP moves between a P and a D register. -/
  | mspMovp (m : Fin 128)
  /-- MSP_MOVS (R431): MOVS reads or writes a special register, including inbox RP and time. -/
  | mspMovs (m : Fin 128) (lag : Fin 2561)
  /-- MSP_LD (R440): LD loads from X or Y memory with post-modification. -/
  | mspLd (m : Fin 128)
  /-- MSP_ST (R440): ST stores to X or Y memory with post-modification. -/
  | mspSt (m : Fin 128)
  /-- MSP_ADD (R437): ADD adds two D registers and sets the flags. -/
  | mspAdd (m : Fin 128)
  /-- MSP_SUB (R437): SUB subtracts two D registers and sets the flags. -/
  | mspSub (m : Fin 128)
  /-- MSP_AND (R437): AND combines two D registers. -/
  | mspAnd (m : Fin 128)
  /-- MSP_OR (R437): OR combines two D registers. -/
  | mspOr (m : Fin 128)
  /-- MSP_XOR (R437): XOR combines two D registers. -/
  | mspXor (m : Fin 128)
  /-- MSP_ADDI (R437): ADDI adds an immediate to a D register. -/
  | mspAddi (m : Fin 128)
  /-- MSP_SHIFT (R437): SHIFT shifts or rotates a D register. -/
  | mspShift (m : Fin 128)
  /-- MSP_CMP (R437): CMP sets the flags of a subtraction. -/
  | mspCmp (m : Fin 128)
  /-- MSP_MIN (R440): MIN takes the signed minimum. -/
  | mspMin (m : Fin 128)
  /-- MSP_MAX (R440): MAX takes the signed maximum. -/
  | mspMax (m : Fin 128)
  /-- MSP_ABS (R436): ABS takes the absolute value, saturating at 2^31 − 1. -/
  | mspAbs (m : Fin 128)
  /-- MSP_MINIX (R446): MINIX tracks a minimum and its index, optionally loading the next value. -/
  | mspMinix (m : Fin 128)
  /-- MSP_MAXIX (R446): MAXIX tracks a maximum and its index, optionally loading the next value. -/
  | mspMaxix (m : Fin 128)
  /-- MSP_MACD (R440): MACD performs two multiply-accumulates into a pair of accumulators. -/
  | mspMacd (m : Fin 128)
  /-- MSP_ACC (R440): ACC performs an accumulator operation selected by KIND. -/
  | mspAcc (m : Fin 128)
  /-- MSP_STA (R436): STA stores a shifted, rounded and clamped accumulator into D registers. -/
  | mspSta (m : Fin 128)
  /-- MSP_ILLEGAL (R448): An OP from 0x20 to 0x2F raises the ILLEGAL exception. -/
  | mspIllegal (m : Fin 128)
  /-- MSP_GRP_GO (R457): GO arms the named members for a start at AT, or ends FAILED. -/
  | mspGrpGo (g : Fin 16) (mask : BitVec 8) (clr : Bool)
  /-- MSP_START_CYCLE (R457): In the start cycle every named member initialises and executes its first instruction together. -/
  | mspStartCycle (g : Fin 16)
  /-- MSP_GRP_ABORT (R457): ABORT ends a start before its start cycle, or sets ABORT_LATE. -/
  | mspGrpAbort (g : Fin 16) (mask : BitVec 8) (clr : Bool)
  /-- MSP_GRP_STOP (R458): STOP stops each named running member at its next instruction boundary. -/
  | mspGrpStop (g : Fin 16) (mask : BitVec 8) (clr : Bool)
  /-- MSP_GRP_RESUME (R458): RESUME returns named STOPPED members to RUNNING in one common cycle. -/
  | mspGrpResume (g : Fin 16) (mask : BitVec 8) (clr : Bool)
  /-- MSP_SRST (R458): MSP_CTL.SRST returns the MSP to IDLE at once. -/
  | mspSrst (m : Fin 128)
  /-- MSP_INBOX_MESSAGE (R452): A MESSAGE packet is written into the matching inbox ring, or dropped or rejected. -/
  | mspInboxMessage (g : Fin 16)
  /-- MSP_BREACH_NOTICE (R455): A BREACH packet sets BREACHED in the matching inbox or channels. -/
  | mspBreachNotice (g : Fin 16)
  /-- MSP_MEMORY_ACCESS (R433): The group serves a network READ_REQ or WRITE_REQ to an MSP memory under its arbitration. -/
  | mspMemoryAccess (g : Fin 16) (lost : Fin 256) (upset : Option Upset)
  /-- MSP_CHANNEL_INJECT (R454): A queued SEND packet is injected, waiting for credit when WAITCR is 1, and PEND clears. -/
  | mspChannelInject (m : Fin 128) (c : Fin 4)
  /-- SPD_ACCESS (R467): A request reaches a scratchpad bank and is checked against the owner and served or denied. -/
  | spdAccess (r : MemReq) (upset : Option Upset)
  /-- SPD_ALIAS_UPDATE (R473): A write through the bit-set or bit-clear alias updates each word atomically. -/
  | spdAliasUpdate (r : MemReq) (upset : Option Upset)
  /-- SPD_OWN_WRITE (R469): A write of SPD_OWNn starts a handover and the bank starts no new foreground request. -/
  | spdOwnWrite (bd : Fin 4) (bank : Fin 64) (ep : BitVec 16) (req : BitVec 16)
  /-- SPD_HANDOVER_COMMIT (R469): In the first bank cycle with no request in progress EP takes the new owner and waiting requests resume. -/
  | spdHandoverCommit (bd : Fin 4) (bank : Fin 64)
  /-- SPD_HANDOVER_ABORT (R470): A write with ABORT at 1 aborts a handover under the commit point rule. -/
  | spdHandoverAbort (bd : Fin 4) (bank : Fin 64) (req : BitVec 16)
  /-- SPD_INV (R480): SPD_INV.GO bulk-invalidates a scratchpad bank from its next cycle. -/
  | spdInv (bd : Fin 4) (bank : Fin 64) (req : BitVec 16)
  /-- ECC_INV (R480): ECC_INV.GO bulk-invalidates a unit of any class. -/
  | eccInv (bd : Fin 4) (cls : BitVec 2) (unit : BitVec 7) (req : BitVec 16)
  /-- INVALIDATE_SWEEP_END (R480): The 1,024-cycle sweep that clears stored valid bits ends. -/
  | invalidateSweepEnd (unit : Nat)
  /-- SPD_COPY_START (R476): START latches the requester and begins a copy, or ends FAILED with ERR 1. -/
  | spdCopyStart (bd : Fin 4) (c : Fin 8) (req : BitVec 16)
  /-- SPD_COPY_STOP (R479): STOP issues no further remote request and ends STOPPED after the chunks requested. -/
  | spdCopyStop (bd : Fin 4) (c : Fin 8)
  /-- SPD_COPY_RESPONSE (R477): A remote response arrives and the channel writes data or starts the next chunk. -/
  | spdCopyResponse (bd : Fin 4) (c : Fin 8)
  /-- REPAIR_QUEUE_REWRITE (R482): In a background cycle the repair queue rewrites a word corrected or as stored poison. -/
  | repairQueueRewrite (unit : Nat)
  /-- SCRUB_PASS_START (R486): Every PERIOD × 2^30 ticks the scrubber starts a pass of each unit, or skips it when one is running. -/
  | scrubPassStart (unit : Nat)
  /-- ROW_REMAP_COMMIT (R489): A suspect row has been copied to a spare; decode switches and a field-map entry is written. -/
  | rowRemapCommit (unit : Nat)
  /-- LPX_DEFAULT_TRAIN_START (R593): No valid header within 50 ms, so LPDDR5X training starts with reset values. -/
  | lpxDefaultTrainStart
  /-- LPX_TRAINING_END (R510): Channel training ends READY or FAILED with FAILCODE. -/
  | lpxTrainingEnd (n : Fin 16) (out : TrainEnd)
  /-- LPX_INIT_PASS_END (R509): The inline-ECC initialisation pass ends and the channel shows READY. -/
  | lpxInitPassEnd (n : Fin 16)
  /-- LPX_RETRAIN (R511): RETRAIN starts a full retraining from READY or FAILED. -/
  | lpxRetrain (n : Fin 16) (committed : Bool)
  /-- LPX_ABORT (R511): ABORT ends a retraining under the commit point rule. -/
  | lpxAbort (n : Fin 16)
  /-- LPX_RETRAIN_WAIT_TIMEOUT (R511): A best-effort request waits more than 20 ms during retraining and is answered with STATUS 3. -/
  | lpxRetrainWaitTimeout (n : Fin 16)
  /-- LPX_DET_WRITE (R513): A write of DET requests entry to or exit from deterministic mode, or is refused. -/
  | lpxDetWrite (n : Fin 16) (det : Bool)
  /-- LPX_DET_APPLY (R513): At the next frame start deterministic mode changes and LPX_DET_CHANGE is raised. -/
  | lpxDetApply (n : Fin 16)
  /-- LPX_MAP_WRITE (R502): A write of LPX_MAP.MODE takes effect only while no channel is READY. -/
  | lpxMapWrite (mode : Bool) (clearRej : Bool)
  /-- LPX_REFRESH_WINDOW (R514): In each frame's window the controller issues per-bank refreshes and oscillator commands. -/
  | lpxRefreshWindow (n : Fin 16) (refreshes : Fin 6)
  /-- LPX_MR4_UPDATE (R515): MR4 demands a new refresh rate and DET_DEGRADED sets or clears. -/
  | lpxMr4Update (n : Fin 16) (rr : BitVec 5) (aboveTwice : Bool)
  /-- LPX_OSC_PASS (R512): The WCK2DQ oscillators run and correct timing, raising LPX_RETRAIN_NEEDED on excess drift. -/
  | lpxOscPass (n : Fin 16) (excess : Bool)
  /-- LPX_ACCESS (R503): A channel serves a request as 64-byte bursts with link and inline ECC checks. -/
  | lpxAccess (r : MemReq) (link : LinkErr) (upset : Option Upset)
  /-- LPX_INLINE_WRITEBACK (R507): The controller writes back a corrected or poisoned word in its next idle cycle or window. -/
  | lpxInlineWriteback (n : Fin 16)
  /-- LPX_IDLE_POWER_DOWN (R516): A rank idle for PD_IDLE CK cycles enters power-down. -/
  | lpxIdlePowerDown (n : Fin 16) (rank : Fin 2)
  /-- PCIE_PERST_RISE (R524): PERST_N rises and link training starts. -/
  | pciePerstRise
  /-- PCIE_LINK_UP (R549): The link enters L0 and PCI_LINK_UP is raised. -/
  | pcieLinkUp (rate : Fin 6) (width : Fin 5) (flit : Bool) (degraded : Bool)
  /-- PCIE_LINK_DOWN (R545): The link goes down, triggering the PCIe hot reset class. -/
  | pcieLinkDown
  /-- PCIE_HOT_RESET (R545): A hot reset resets configuration space, windows, mailbox flags and DMA channels. -/
  | pcieHotReset (perst : Bool)
  /-- PCIE_CONFIG_REQUEST (R524): A function answers a configuration request. -/
  | pcieConfigRequest (func : Fin 34) (acc : CfgAccess)
  /-- PCIE_HOST_READ (R529): A host memory read through a window is split into READ_REQ packets. -/
  | pcieHostRead (func : Fin 34) (bar2 : Bool) (off : Nat) (bytes : Nat)
  /-- PCIE_HOST_WRITE (R531): A host memory write through a window is split into WRITE_REQ packets in order. -/
  | pcieHostWrite (func : Fin 34) (bar2 : Bool) (off : Nat) (bytes : Nat) (data : Nat) (poison : Bool)
  /-- PCIE_DEVICE_RESPONSE (R529): A network response returns and is mapped to a completion status. -/
  | pcieDeviceResponse
  /-- PCIE_DMA_START (R533): START begins a DMA transfer, or ends FAILED with ERR 1. -/
  | pcieDmaStart (c : Fin 8) (req : BitVec 16)
  /-- PCIE_DMA_STOP (R535): STOP issues no further request and ends STOPPED. -/
  | pcieDmaStop (c : Fin 8)
  /-- PCIE_DMA_RESPONSE (R534): A DMA completion or response arrives, advancing the transfer or halting it FAILED. -/
  | pcieDmaResponse (c : Fin 8) (ev : DmaEvent)
  /-- PCIE_MSIX_TRIGGER (R536): A write of PCI_MSIX_TRIG signals a function's vector or sets its pending bit. -/
  | pcieMsixTrigger (func : BitVec 6) (vec : BitVec 6)
  /-- PCIE_DOORBELL (R537): A host write to a doorbell sets the function's bit and raises PCIE_DB. -/
  | pcieDoorbell (func : Fin 34)
  /-- MBX_H2D_LEN_WRITE (R538): A write of H2D LEN sets FULL and raises PCIE_MBX, or sets REJ. -/
  | mbxH2dLenWrite (len : BitVec 13)
  /-- MBX_D2H_LEN_WRITE (R538): A write of D2H LEN sets FULL and signals PF0 vector 0, or sets REJ. -/
  | mbxD2hLenWrite (len : BitVec 13)
  /-- PCI_DBG_GO (R539): A debug mailbox request is sent to the debug module and its response signalled. -/
  | pciDbgGo (addr : BitVec 7) (op : BitVec 2) (peek : Bool)
  /-- PCI_STAGE_GO (R544): GO hands Dawn a staged stream for full or partial configuration. -/
  | pciStageGo (req : BitVec 16) (kind : Bool)
  /-- PCI_STAGE_ABORT (R544): ABORT aborts a staging operation under the commit point rule. -/
  | pciStageAbort (req : BitVec 16)
  /-- PCI_FLR (R546): A function level reset discards the function's reads, fails its DMA and clears its state. -/
  | pciFlr (func : Fin 34)
  /-- DOE_DISCOVERY (R540): The DOE instance answers a discovery request. -/
  | doeDiscovery (index : BitVec 8)
  /-- SPDM_GET_VERSION (R541): The SPDM responder answers GET_VERSION. -/
  | spdmGetVersion
  /-- SPDM_GET_CAPABILITIES (R541): The SPDM responder answers GET_CAPABILITIES. -/
  | spdmGetCapabilities
  /-- SPDM_NEGOTIATE_ALGORITHMS (R541): The SPDM responder answers NEGOTIATE_ALGORITHMS. -/
  | spdmNegotiateAlgorithms
  /-- SPDM_GET_DIGESTS (R541): The SPDM responder answers GET_DIGESTS. -/
  | spdmGetDigests
  /-- SPDM_GET_CERTIFICATE (R541): The SPDM responder returns the RSA identity certificate chain. -/
  | spdmGetCertificate (slot : BitVec 4)
  /-- SPDM_CHALLENGE (R628): The responder answers CHALLENGE with an RSA signature, or refuses in BLANK and RETIRED. -/
  | spdmChallenge (slot : BitVec 4)
  /-- SPDM_GET_MEASUREMENTS (R543): The responder returns measurement blocks, signed when requested and permitted. -/
  | spdmGetMeasurements (index : BitVec 8) (signed : Bool)
  /-- SPDM_CHUNK_SEND (R541): The responder accepts a chunk of a large request. -/
  | spdmChunkSend (handle : BitVec 8) (seq : BitVec 16) (last : Bool)
  /-- SPDM_CHUNK_GET (R541): The responder returns a chunk of a large response. -/
  | spdmChunkGet (handle : BitVec 8) (seq : BitVec 16) (last : Bool)
  /-- SPDM_UNSUPPORTED_REQUEST (R541): KEY_EXCHANGE, PSK_EXCHANGE, SET_CERTIFICATE and mutual authentication are answered with UnsupportedRequest. -/
  | spdmUnsupportedRequest (code : BitVec 8)
  /-- SPDM_GET_PQ_CERT (R542): The vendor request GET_PQ_CERT returns the SLH-DSA certificate chain. -/
  | spdmGetPqCert
  /-- SPDM_GET_PQ_SIG (R542): The vendor request GET_PQ_SIG returns the SLH-DSA signature over the last signed input. -/
  | spdmGetPqSig
  /-- MTIMECMP_MATCH (R555): mtime reaches a hart's mtimecmp and MTIP becomes pending. -/
  | mtimecmpMatch (hart : Fin 4)
  /-- PLIC_CLAIM (R556): A claim register read with peek clear claims the highest pending source. -/
  | plicClaim (ctx : Fin 8) (peek : Bool)
  /-- PLIC_COMPLETE (R556): A write of a source ID to the claim register completes it. -/
  | plicComplete (ctx : Fin 8) (id : BitVec 32)
  /-- PATCH_KEY_WRITE (R561): A write to CTL_xPATCH_KEY advances the patch-enable key sequence. -/
  | patchKeyWrite (dusk : Bool) (key : BitVec 16) (req : BitVec 16)
  /-- PATCH_EN_WRITE (R561): The mask write that completes the key sequence changes the patch enables and raises PATCH_CHANGED. -/
  | patchEnWrite (dusk : Bool) (mask : BitVec 16) (req : BitVec 16)
  /-- PATCH_KEY_TIMEOUT (R561): More than 64 ncyc pass in the patch key sequence, which returns to idle. -/
  | patchKeyTimeout (dusk : Bool)
  /-- WDT_KICK (R563): A write of 0x6B1C to KICK reloads COUNT and sets STAGE to 0. -/
  | wdtKick (w : Fin 6) (key : BitVec 16) (req : BitVec 16)
  /-- WDT_FIRST_EXPIRY (R563): COUNT reaches 0 with STAGE 0; STAGE becomes 1 and a control core's watchdog raises CORE_WDT_WARN. -/
  | wdtFirstExpiry (w : Fin 6)
  /-- WDT_SECOND_EXPIRY (R563): COUNT reaches 0 with STAGE 1 and the watchdog resets its processor. -/
  | wdtSecondExpiry (w : Fin 6)
  /-- HART_RESET_CMD (R586): CTL_HRSTn.GO resets hart n. -/
  | hartResetCmd (hart : Fin 4) (req : BitVec 16)
  /-- DM_HALTREQ (R567): A haltreq asks harts to halt after their outstanding accesses. -/
  | dmHaltreq (harts : BitVec 6)
  /-- DM_HART_HALTED (R567): A hart halts, drops its reservation and aborts its open key sequences. -/
  | dmHartHalted (hart : Fin 6)
  /-- DM_RESUMEREQ (R565): A resumereq resumes halted harts and ends watchdog pauses. -/
  | dmResumereq (harts : BitVec 6)
  /-- DM_NDMRESET (R568): A write of ndmreset performs a device reset, keeping a Full session. -/
  | dmNdmreset
  /-- DM_HARTRESET (R568): hartreset resets harts 0 to 3. -/
  | dmHartreset (harts : BitVec 6)
  /-- DM_ABSTRACT_COMMAND (R565): An Access Register abstract command runs, with optional program buffer execution. -/
  | dmAbstractCommand (cmd : BitVec 32) (exc : Bool)
  /-- DM_SYSTEM_BUS_ACCESS (R566): The debug module makes a system-bus access as endpoint 0x2D4C, as a peek read when requested. -/
  | dmSystemBusAccess (addr : BitVec 48) (size : Fin 4) (write : Bool) (data : BitVec 64) (peek : Bool)
  /-- DM_SESSION_CLOSE_WRITE (R574): A write of 1 to the session register closes the session. -/
  | dmSessionCloseWrite
  /-- AUTH_NONCE (R570): An authdata NONCE write makes Sage form a fresh nonce. -/
  | authNonce
  /-- AUTH_NONCE_READY (R570): Sage has formed the nonce and authbusy clears. -/
  | authNonceReady
  /-- AUTH_GRANT (R570): An authdata GRANT write delivers a grant for Sage to verify. -/
  | authGrant (len : BitVec 24)
  /-- AUTH_GRANT_RESULT (R571): Sage ends grant verification, raising the level or rejecting with a code. -/
  | authGrantResult (g : GrantFacts)
  /-- AUTH_DROP (R570): An authdata DROP write returns the level to the default. -/
  | authDrop
  /-- AUTH_LOCKOUT_END (R572): The 10 s lockout after four rejected grants ends. -/
  | authLockoutEnd
  /-- DEBUG_SESSION_TIMEOUT (R574): A session sees no valid frame or request for 1 s and closes. -/
  | debugSessionTimeout
  /-- DRW_ATTENTION (R576): A low on DRST_N outside a frame is classified, and an attention begins a frame. -/
  | drwAttention (lowNs : Nat) (sync : Option (BitVec 16))
  /-- DRW_RESET_LOW (R577): A low lasting 20 us asserts a device reset, or is counted as masked. -/
  | drwResetLow
  /-- DRW_RESET_RELEASE (R577): DRST_N rises after a reset low and the device leaves reset with DEV_RST_CAUSE.DRW set. -/
  | drwResetRelease
  /-- DRW_NOP (R582): A NOP control frame returns DBG_SESS. -/
  | drwNop (fr : DrwFrame)
  /-- DRW_OPEN (R573): An OPEN control frame opens a DRW session, or answers BUSY. -/
  | drwOpen (fr : DrwFrame)
  /-- DRW_CLOSE (R574): A CLOSE control frame closes the session. -/
  | drwClose (fr : DrwFrame)
  /-- DRW_MASK_SET (R582): A MASK_SET control frame sets the reset mask at Full level. -/
  | drwMaskSet (fr : DrwFrame)
  /-- DRW_MASK_CLEAR (R582): A MASK_CLEAR control frame clears the reset mask. -/
  | drwMaskClear (fr : DrwFrame)
  /-- DRW_READ (R581): A read frame reads a DMI register within the session's level. -/
  | drwRead (addr : BitVec 7) (peek : Bool) (fr : DrwFrame)
  /-- DRW_WRITE (R581): A write frame writes a DMI register within the session's level. -/
  | drwWrite (addr : BitVec 7) (data : BitVec 32) (peek : Bool) (fr : DrwFrame)
  /-- DAWN_BOOT_START (R592): Dawn claims its flash pins and reads the boot directory and stream header. -/
  | dawnBootStart (dir : Option (Bool × Fin 4)) (quad : Option (Bool × Fin 4)) (hdr : Option LpxHdr) (bad : List (Nat × Nat × Nat))
  /-- DAWN_FLASH_STALL (R599): The flash stops for 10 us; it is reset and reread, or the entry fails with code 14. -/
  | dawnFlashStall
  /-- DAWN_STREAM_READ_DONE (R606): The last trailer byte is read and signature verification begins. -/
  | dawnStreamReadDone (f : Stream)
  /-- DAWN_VERIFY_DONE (R607): Sage ends verification of a stream; on success Dawn commits, otherwise it fails. -/
  | dawnVerifyDone (v : StreamCheck)
  /-- DWN_GO (R611): DWN_CTL.GO starts a staged full or partial configuration. -/
  | dwnGo (part : Bool) (req : BitVec 16)
  /-- DWN_ABORT (R613): ABORT ends a staged operation before its commit point with CFG_ABORTED. -/
  | dwnAbort (req : BitVec 16)
  /-- DAWN_APPLY_DONE (R615): Frames and registers of a partial stream are written and the mask regions' release is scheduled. -/
  | dawnApplyDone (poison : Bool)
  /-- DWN_REL_GO (R618): DWN_REL_CTL.GO sets T_r to AT, or is refused with REJ. -/
  | dwnRelGo (req : BitVec 16)
  /-- DWN_RBK_READ (R619): A read of the DWN frame window returns the stored frame, or STATUS 2. -/
  | dwnRbkRead (word : Fin 128) (req : BitVec 16)
  /-- DAWN_READBACK_SCAN (R620): The readback engine checks a frame, correcting single-bit errors and acting on multi-bit errors. -/
  | dawnReadbackScan (fd : Fin 8) (rgn_ : Fin 384) (index : BitVec 8) (found : FrameCheck)
  /-- DAWN_RELOAD_ENABLE (R621): A write of DWN_RELOAD_CTL.EN makes Dawn hash the reload image. -/
  | dawnReloadEnable (en : Bool) (req : BitVec 16)
  /-- DAWN_RELOAD_HASH_DONE (R621): The reload image hash is compared with DWN_DIGEST and RELOAD_OK is set on a match. -/
  | dawnReloadHashDone (digest : BitVec 384)
  /-- SGE_NONCE_NEW (R643): A write of NEW makes Sage form a fresh command nonce. -/
  | sgeNonceNew (req : BitVec 16)
  /-- SGE_NONCE_READY (R643): The nonce is formed and shown in SGE_NONCEi. -/
  | sgeNonceReady
  /-- SGE_GENKEY (R634): GENKEY generates the identity keys in BLANK. -/
  | sgeGenkey (f : CmdFacts) (req : BitVec 16)
  /-- SGE_PROVISION (R642): PROVISION stores the certificate chains and blows PROV. -/
  | sgeProvision (f : CmdFacts) (req : BitVec 16)
  /-- SGE_ENROLL (R645): ENROLL enrols slot 0, stores the OSK and blows OWN. -/
  | sgeEnroll (f : CmdFacts) (req : BitVec 16)
  /-- SGE_ADD_SLOT (R642): ADD_SLOT enrols a further owner slot. -/
  | sgeAddSlot (f : CmdFacts) (req : BitVec 16)
  /-- SGE_REVOKE (R647): REVOKE blows a slot's REVOKED fuse. -/
  | sgeRevoke (f : CmdFacts) (req : BitVec 16)
  /-- SGE_SET_OSK (R640): SET_OSK stores a slot's owner stream key wrapped under the KEK. -/
  | sgeSetOsk (f : CmdFacts) (req : BitVec 16)
  /-- SGE_SET_LEGACY (R642): SET_LEGACY blows LEGACY_OK. -/
  | sgeSetLegacy (f : CmdFacts) (req : BitVec 16)
  /-- SGE_RETIRE (R646): RETIRE blows RET and erases the key material. -/
  | sgeRetire (f : CmdFacts) (req : BitVec 16)
  /-- SGE_CMD_ABORT (R644): ABORT ends a Sage command under the commit point rule. -/
  | sgeCmdAbort (req : BitVec 16)
  /-- SGE_VERIFY_DONE (R637): Sage ends verification of a signed command and performs its effect or reports a code. -/
  | sgeVerifyDone (run : FuseRun) (rspOk : Bool)
  /-- DSK_PWR_ON (R655): A slot on request wakes a domain, or fails with REASON 5 or 6. -/
  | dskPwrOn (dom : Fin 128) (req : BitVec 16)
  /-- DSK_PWR_OFF (R656): A slot off request checks the domain and starts closing its ports. -/
  | dskPwrOff (dom : Fin 128) (req : BitVec 16)
  /-- DSK_PWR_ABORT (R656): ABORT ends an off request under the commit point rule. -/
  | dskPwrAbort (req : BitVec 16)
  /-- POWER_REMOVED (R656): Power is removed from a domain after its commit point and PWR_DOMAIN_OFF is raised. -/
  | powerRemoved (dom : Fin 128)
  /-- POWER_DOMAIN_OPEN (R656): A woken domain's ports show OPEN, it resumes and PWR_DOMAIN_ON is raised. -/
  | powerDomainOpen (dom : Fin 128) (oscOk : Bool)
  /-- DSK_FORCE_KEY (R657): A write to DSK_FORCE_KEY advances the force key sequence. -/
  | dskForceKey (key : BitVec 16) (req : BitVec 16)
  /-- DSK_FORCE_SET (R657): The final write with SET 1 forces a domain off with forced power-down. -/
  | dskForceSet (dom : Fin 128) (req : BitVec 16)
  /-- DSK_FORCE_LIFT (R657): The final write with SET 0 lifts the force. -/
  | dskForceLift (dom : Fin 128) (req : BitVec 16)
  /-- FORCE_KEY_TIMEOUT (R657): More than 64 ncyc pass in the force sequence, which returns to idle. -/
  | forceKeyTimeout
  /-- SENSOR_SAMPLE (R662): Every 100 us the sampler reads all sensors, updates filters and zones and evaluates policy and thresholds. -/
  | sensorSample (x : List Int)
  /-- THERMAL_TRIP (R674): A hardware trip comparator fires and power is removed from all switched domains. -/
  | thermalTrip
  /-- THERM_STOP_CLEAR (R673): A write of 1 to THERM_STOP clears it only while every zone is below WARN. -/
  | thermStopClear (req : BitVec 16)
  /-- THROTTLE_APPLY (R669): A new throttle level takes effect at the next falling edge of the source clock. -/
  | throttleApply (dom : Fin 128)
  /-- ADC_CONVERSION (R666): The Dusk ADC converts the next enabled channel. -/
  | adcConversion (code : BitVec 12)
  /-- WAKE_TIMER_FIRE (R676): Tabirair time reaches DSK_WAKE_AT and an on request is made for the domain. -/
  | wakeTimerFire
  /-- DLK_WIRE_ERROR (R683): A corrected single-wire error is attributed to a wire and counted in its window. -/
  | dlkWireError (bd : Fin 4) (p : Fin 4) (group : Nat) (wire : Nat)
  /-- DLK_UNCORRECTABLE_CYCLE (R682): A group has an uncorrectable cycle, counted and handled for NoC or spine bundles. -/
  | dlkUncorrectableCycle (bd : Fin 4) (p : Fin 4) (group : Nat) (hit : List (Nat × Nat))
  /-- DLK_BLOCK_ERROR (R681): A 64-cycle block fails its CRC after correction and is counted. -/
  | dlkBlockError (bd : Fin 4) (p : Fin 4) (group : Nat)
  /-- DLK_SPARE_SWITCH (R684): At a block boundary the spare takes over the failing wire's signal. -/
  | dlkSpareSwitch (bd : Fin 4) (p : Fin 4) (group : Nat)
  /-- DLK_FOLD_COMMIT (R686): At the first even slot after exhaustion the link enters fold mode and contracts are re-evaluated. -/
  | dlkFoldCommit (bd : Fin 4) (p : Fin 4) (group : Nat)
  /-- MID_AUTO_TEST (R698): An automatic test of an eligible unit falls due. -/
  | midAutoTest (bd : Fin 4) (cls : Fin 6) (index : Nat)
  /-- MID_REQ_GO (R699): GO requests a test of a named unit. -/
  | midReqGo (bd : Fin 4) (force : Bool) (req : BitVec 16)
  /-- MID_REQ_ABORT (R699): ABORT ends a test request under the commit point rule. -/
  | midReqAbort (bd : Fin 4) (req : BitVec 16)
  /-- MID_DEADLINE (R699): The deadline arrives before eligibility; the request is deferred, refused or forced. -/
  | midDeadline (bd : Fin 4)
  /-- MID_TEST_START (R699): Midnight takes an eligible unit and starts its test. -/
  | midTestStart (bd : Fin 4)
  /-- MID_TEST_END (R700): A test ends PASS or FAIL and its result acts on the unit. -/
  | midTestEnd (bd : Fin 4) (cls : Fin 6) (index : Nat) (fail : Bool) (detail : BitVec 32) (rows : List Nat) (height : BitVec 8) (width : BitVec 8)
  /-- MID_UNIT_RELEASED (R697): An interrupted unit is restored and the waiting access proceeds. -/
  | midUnitReleased (bd : Fin 4) (cls : Fin 6) (index : Nat)
  /-- SVP_PIN_CFG_WRITE (R705): A write of SVP_PINn_CFG selects a function and electrical settings, unless locked. -/
  | svpPinCfgWrite (n : Fin 64) (value : BitVec 32) (req : BitVec 16)
  /-- SVP_FUNCTION_SWITCH (R715): At the next service-clock edge a pin applies arbitration and changes its effective function. -/
  | svpFunctionSwitch (n : Fin 64)
  /-- SVP_OUT_WRITE (R710): A write of SVP_OUT or SVP_OE changes only the bits of pins the writer owns. -/
  | svpOutWrite (oe : Bool) (part : Fin 3) (value : BitVec 64) (req : BitVec 16)
  /-- SVP_LOCK_KEY (R713): A write to SVP_LOCK_KEY advances the lock sequence. -/
  | svpLockKey (key : BitVec 16) (req : BitVec 16)
  /-- SVP_LOCK_SET (R714): The mask write completing the sequence locks the named pins and raises SVP_LOCKED. -/
  | svpLockSet (part : Fin 3) (value : BitVec 64) (req : BitVec 16)
  /-- SVP_LOCK_TIMEOUT (R713): More than 64 ncyc pass in the lock sequence, which returns to idle. -/
  | svpLockTimeout
  /-- SVP_WAKE_EDGE (R711): The selected edge on a WAKE pin interrupts Dusk firmware. -/
  | svpWakeEdge (n : Fin 64) (rising : Bool)
  /-- JTAG_BYPASS (R744): The BYPASS instruction is selected. -/
  | jtagBypass
  /-- JTAG_SAMPLE_PRELOAD (R744): The SAMPLE/PRELOAD instruction captures or loads the boundary register. -/
  | jtagSamplePreload (pins : Nat) (load : Nat)
  /-- JTAG_EXTEST (R745): EXTEST gives boundary cells control of the balls. -/
  | jtagExtest (pins : Nat) (load : Nat)
  /-- JTAG_EXTEST_PULSE (R745): EXTEST_PULSE drives IEEE 1149.6 pulses on the lane balls. -/
  | jtagExtestPulse (pins : Nat) (load : Nat)
  /-- JTAG_EXTEST_TRAIN (R745): EXTEST_TRAIN drives IEEE 1149.6 trains on the lane balls. -/
  | jtagExtestTrain (pins : Nat) (load : Nat)
  /-- JTAG_CLAMP (R745): CLAMP holds the balls from the boundary register with bypass selected. -/
  | jtagClamp
  /-- JTAG_HIGHZ (R745): HIGHZ places the covered balls in high impedance. -/
  | jtagHighz
  /-- JTAG_IDCODE (R744): IDCODE returns the device code including the feature level. -/
  | jtagIdcode
  /-- JTAG_TAP_RESET (R744): TRST_N low resets the TAP. -/
  | jtagTapReset
  /-- REGION_CLOCK_RISING_EDGE (R104): At a rising edge of a region's selected clock its flip-flops update by the precedence of STHOLD, set/reset and clock enable, and its fixed-delay spine and timed I/O plain-mode pipelines advance. -/
  | regionClockRisingEdge (fd : Fin 8) (rgn_ : Fin 384) (rxReady : Bool) (ports : List (Nat × Bool))
  /-- SCRUB_WORD_READ (R486): In a background cycle the scrubber reads a valid word of the unit being scrubbed, corrects and rewrites a single-bit error or converts an uncorrectable word to stored poison, and counts the CE in the row tracker. -/
  | scrubWordRead (unit : Nat) (upset : Option Upset)
  /-- LANE_CDR_LOCK (R302): A lane's reference returns within range and its CDR locks again, setting REF_OK and CDR_LOCK. -/
  | laneCdrLock (lane : Fin 160)
  /-- RAW_PCS_LOCK (R304): A raw lane in MODE 3 or 4 gains or loses comma alignment or block lock, which LNE_STAT.PCS_LOCK shows. -/
  | rawPcsLock (lane : Fin 160) (lock : Bool)
  /-- VIO_TB_SUPPLY_IN_RANGE (R262): A timed I/O bank's supply returns within the range its IOSTD requires and SUPPLY_OK sets, so a later SRST can leave FAULT. -/
  | vioTbSupplyInRange (bank : Fin 20)
  /-- COMPLETION_TIMEOUT (R534): A host completion for a PCIe DMA request does not arrive within the Device Control 2 timeout and the channel halts FAILED with ERR 2. -/
  | completionTimeout (c : Fin 8) (k : Fin 16)
deriving DecidableEq, Repr

end Sys2Proof
end

