-- ==== Sys2Proof/Config.lean ====
section
/-!
DEFINITION. What one device fixes, and the values the manual leaves open: each is a constant with no body, applied to
the state's count of values drawn, so that no proof can know one.
-/

namespace Sys2Proof.Config

/-- The steering value a follower's loop filter gives at a good frame (R66); the manual gives only its bound (R48). -/
opaque freeRate : Nat → BitVec 32

/-- The trim code a trim window leaves (R127). -/
opaque freeTrim : Nat → BitVec 12

/-- A word of LPDDR5X that nothing has initialised (R509), after a number of resets of the DRAM. -/
opaque freeDram : Nat → Nat → BitVec 64

/-- A nonce of Sage, of the debug session or of SPDM (R572, R643): its bits. -/
opaque freeNonce : Nat → BitVec 256

/-- A digest, a signature or a certificate the security processor forms. -/
opaque freeDigest : Nat → BitVec 384

/-- The ingress latency of an endpoint whose clock the manual gives no figure for (R95, R240), in ncyc. -/
opaque tInOpen : Nat → Nat

/-- The device key that the PUF and the helper data give (R633). -/
opaque deviceKey : BitVec 256

/-- HKDF-SHA-384 of RFC 5869 with an empty salt: the first 32 bytes made of a key and an info text (R633). -/
opaque hkdfSha384 : BitVec 256 → String → BitVec 256

/-- The identity public keys that GENKEY makes of an identity seed (R634): 388 bytes of RSA record and 48 bytes of SLH-DSA key. -/
opaque identityKeys : BitVec 256 → Nat

/-- The digest of a measurement block (R543) after a number of firmware changes. -/
opaque measured : Nat → Nat → BitVec 384

/-- How a repair table stands in its pool entry of 1 KB (R410): its must-repair rows and columns, its cells, its status. The manual gives no layout. -/
opaque tableImage : List Nat → List Nat → List (Nat × Nat) → Nat → BitVec 8192

/-- The rows, columns and cells that a pool entry shows which something else has written over (R387). -/
opaque tableRead : BitVec 8192 → List Nat × List Nat × List (Nat × Nat)

/-- A value that reads as an instrument of the analogue world shows it. -/
opaque freeWord : Nat → BitVec 64

end Sys2Proof.Config
end

