-- ==== Sys2Proof/Machine/State.lean ====
section
/-!
DEFINITION. The device's state as plain data, what it holds after reset, and the reasons a command can stop.
Register fields and the model's scalar state words are in `regs`, by field and element number (Machine/RegsA to D name
each with its rule); everything with more structure has a field of its own below.
-/

namespace Sys2Proof.Machine

/-- A pending event record (R26, R27): the key (SOURCE, CODE) is its place in the table. -/
structure EventRec where
  time : Nat
  severity : Nat
  repeats : Nat
  detail : Nat
deriving DecidableEq, Repr

/-- The bus response last given to a requester: the value read and the STATUS of R192. -/
structure Resp where
  data : Nat
  status : Nat
  poison : Bool
deriving DecidableEq, Repr

/-- The time base's parts that are no register fields: the sixteen characters of the last sync frame sent as they are on the wire, and the running disparity
after it (R59, R60); the RATE values of the last good frames, newest first, at most 1,024 (R66); the running disparity after the last frame received, with the reading
of the NoC clock at its arrival (R62), and the reading at the entry to HOLDOVER (R82). -/
structure TimeBase where
  frameOut : List (BitVec 10)
  disp : Bool
  rates : List Int
  rxEnd : Option (Bool × Nat)
  holdAt : Nat
deriving DecidableEq, Repr

/-- The outputs of one cell's flip-flops. -/
structure Ffs where
  q0 : Bool
  q1 : Bool
deriving DecidableEq, Repr

/-- One RAM word of 64 data bits and 8 check or ninth bits (R109), with the mark an upset left and its valid bit
(R117). -/
structure RamWord where
  data : BitVec 64
  nine : BitVec 8
  mark : Option Upset
  valid : Bool
deriving DecidableEq, Repr

/-- What a port's DOUT and status outputs show (R110), and the stages before it (R111). -/
structure RamOut where
  data : Nat
  ce : Bool
  ue : Bool
  poison : Bool
deriving DecidableEq, Repr

/-- A RAM block's static options and its output stages. Widths are the data widths of R109; a width that is a multiple
of nine is of the nine family. -/
structure RamBlk where
  widthA : Nat
  widthB : Nat
  rdwA : Rdw
  rdwB : Rdw
  outA : Bool
  outB : Bool
  ecc : Bool
  invOnCfg : Bool
  stA : Option RamOut
  stA2 : Option RamOut
  dA : RamOut
  stB : Option RamOut
  stB2 : Option RamOut
  dB : RamOut
deriving DecidableEq, Repr

/-- A MAC slice (R121 to R124): static PRE and SAT, the captured operands, the product with its OP, ACC, OVF, and what
the cascade needs: ACC before the last edge and the number of edges taken. -/
structure Mac where
  pre : Nat
  sat : Bool
  ma : BitVec 27
  mp : BitVec 26
  mb : BitVec 27
  ad : BitVec 64
  op : BitVec 2
  m : BitVec 64
  mop : BitVec 2
  acc : BitVec 64
  ovf : Bool
  prevAcc : BitVec 64
  edges : Nat
deriving DecidableEq, Repr

/-- A stored user NVM word (R130, R134). -/
structure NvmWord where
  data : BitVec 64
  mark : Option Upset
deriving DecidableEq, Repr

/-- A write in the user NVM write buffer (R132). -/
structure NvmWrite where
  addr : Nat
  data : BitVec 64
deriving DecidableEq, Repr

/-- A register write of the user NVM that stalls while the write buffer is full (R132), with the packet that brought it, where one did. -/
structure NvmStall where
  byteAddr : Nat
  wide : Bool
  data : BitVec 64
  pkt : Option Packet
deriving DecidableEq, Repr

/-- The user NVM block of one FD: write buffer in order, register writes that stall, outstanding fabric reads in order, each with whether it waits for the write
that its bank was making when it was captured (R131), the fabric port's outputs, and whether NVM_WERR is due at the next edge (R130 to R136). -/
structure Nvm where
  buf : List NvmWrite
  stall : List NvmStall
  reads : List (Nat × Bool)
  valid : Bool
  rdata : BitVec 64
  poison : Bool
  werr : Bool
  werrDue : Bool
deriving DecidableEq, Repr

/-- A hard serial port: its FIFOs (R137), the mode and route in effect (R138), and the levels that its region drives on its four lines (R125). -/
structure SerialPort where
  tx : List (BitVec 8)
  rx : List (BitVec 8)
  mode : Nat
  route : Nat
  lines : Nat
deriving DecidableEq, Repr

/-- A staged release that is under way (R139, R617): its regions, its time T_r, its step S, how many of its three steps are
done, whether cores start with it, and how far the RAM restoration of a restart is (R141): 0 it needs none or has it, 1 its RAM is to be restored, 2 its own RAM is, and other
restarts' is not yet. -/
structure Release where
  regions : List Nat
  tr : BitVec 64
  s : Nat
  done : Nat
  cores : Bool
  restoring : Nat
  cause : Nat
deriving DecidableEq, Repr

/-- The fabric: configured cells and flip-flops by cell number, cluster carry-in selects by cluster number, RAM words, RAM
blocks, MAC slices, user NVM, serial ports, staged releases, and the set/reset removal synchronisers that still hold a
flip-flop (R105), counted in edges. `ramOld` holds the RAM words that have been written since their region's last edge, as they were at it (R113). -/
structure Fabric where
  cells : Map CellCfg
  ffs : Map Ffs
  cin : Map Nat
  rsHold : Map Nat
  ramWords : Map RamWord
  ramInit : Map RamWord
  ramOld : Map RamWord
  rams : Map RamBlk
  macs : Map Mac
  nvmWords : Map NvmWord
  nvms : Map Nvm
  sps : Map SerialPort
  rels : Map Release
deriving DecidableEq, Repr

/-- An entry of a region-boundary DCQ channel is 72 bits (R154). A channel (R154 to R159): its read side, whether configured,
the entries in it (oldest first), how many of them have crossed to the read side, removals not yet reported back, and the
last entry presented. -/
structure Dcq where
  configured : Bool
  dstRegion : Nat
  dstPort : Nat
  entries : List (BitVec 72)
  present : Nat
  unreported : Nat
  last : BitVec 72
deriving DecidableEq, Repr

/-- A spine route (R143, R152, R162): source region and crossbar input, destination region and crossbar output, its
pipeline (newest first), the lateral links it crosses, its KEEP mark, whether it has lost its place, and the border
value of its output port (0, 1, or 2 for last value, R170) with the value held, and the source port's value just before the source
region's last edge with that edge's time. -/
structure Spine where
  srcRegion : Nat
  srcPort : Nat
  dstRegion : Nat
  dstPort : Nat
  pipe : List Bool
  links : List Nat
  keep : Bool
  lost : Bool
  border : Nat
  held : Bool
  tap : Bool
  tapAt : Nat
deriving DecidableEq, Repr

/-- A flit of the NAP's receive side (R163, R166). -/
structure RxFlit where
  bits : Nat
  sop : Bool
  eop : Bool
  poison : Bool
  crcErr : Bool
deriving DecidableEq, Repr

/-- A memory-mapped request a NAP presents (R166, R168): its packet, and the word it asks for. -/
structure MmReq where
  pkt : Packet
  presented : Bool
deriving DecidableEq, Repr

/-- A region's interconnect state: isolation causes in force, newest first (R177); isolations and exits that wait for their
time, as (cause, time); the NAP's receive DCQ in flits, and the flits of a best-effort packet that it holds back (R165); the memory-mapped requests waiting at the NAP,
the first presented; the flits of the packet that the TX interface is taking, its header first (R163). -/
structure RegionIc where
  causes : List Nat
  isoPend : List (Nat × Nat)
  rx : List RxFlit
  rxWait : List RxFlit
  mm : List MmReq
  tx : List Flit
deriving DecidableEq, Repr

/-- The fixed-delay interconnect: multiplexer selects by region and multiplexer number as the list of selected inputs
(R161), as they are and as configured, values presented at region crossbar output ports (R143), spine routes by route index, DCQ channels by write port,
and the regions. -/
structure Interconnect where
  sels : Map (List Nat)
  cfgSels : Map (List Nat)
  xbar : Map Bool
  spines : Map Spine
  dcqs : Map Dcq
  regions : Map RegionIc
deriving DecidableEq, Repr

/-- Where a packet in the network is: before or in a router's input buffer (0 N, 1 E, 2 S, 3 W, 4 local, 5 the router's own), or past
its last router, waiting to be written into its endpoint's receive queue. -/
inductive Place where
  | router (r : Nat) (input : Nat)
  | port (ep : Nat)
deriving DecidableEq, Repr

/-- A packet in the network; `late` says that a router has reported its deadline as passed (R250, cause 6), `out` the output that the router it stands at has chosen for
it once it has received it (0 to 3 mesh, 4 local), `slot` the slot in which it left the router before (R204). -/
structure NetPkt where
  pkt : Packet
  place : Place
  late : Bool
  out : Option Nat
  slot : Nat
deriving DecidableEq, Repr

/-- The network: packets on their way, in order of injection; route tables by router, bank and entry where they differ from
the dimension-order routes (R198); wake buffers by router (R212); queued route updates (R199); the packets delivered
to each hard endpoint that its engine has not yet taken; the NoC clock, in ticks of 1/512 ncyc since power-on, which no step or slew of Tabirair time moves (R195);
and the input that each output port served last, by output port × 16 + kind of turn (R196). -/
structure Noc where
  net : List NetPkt
  routes : Map Nat
  wake : Map (List Packet)
  updates : List (List RouteChange)
  inbox : Map (List Packet)
  clock : Nat
  turns : Map Nat
deriving DecidableEq, Repr

/-- The slots one contract owns on one output port (R228, R249). -/
structure PortSlots where
  port : Nat
  data : List Nat
  notice : List Nat
deriving DecidableEq, Repr

/-- What Thyme and the ingress keep of a contract beside its table entry (R255): the ports with its slots, those of the old
path while a route update drains (R254), the output ports each leg takes, F, the ingress credit in flits times PERIOD
frames' ticks (R243) with the NoC clock when it was last brought up to date and when DRAINING began, and the latency requested. -/
structure Contract where
  own : List PortSlots
  old : List PortSlots
  legs : List (List Nat)
  flits : Nat
  credit : Nat
  creditAt : Nat
  drainAt : Nat
  lat : Nat
deriving DecidableEq, Repr

/-- Thyme: contracts by ID, and the mailbox operations waiting, in the order Thyme takes them (R235), as (mailbox, OP, ID); and the breach notice that each detector last
sent of a contract to an end, as its frame and its TIME (R252). -/
structure Thyme where
  contracts : Map Contract
  queue : List (Nat × Nat × Nat)
  sent : Map (Nat × Nat)
deriving DecidableEq, Repr

/-- A buffered vector of a timed I/O bank (R276 to R279): whether it is the first of a TIMED packet, whether it begins a run, its start, and
whether it is late. -/
structure TioVec where
  state : Nat
  mask : Nat
  ts : Nat
  num : Nat
  last : Bool
  timed : Bool
  head : Bool
  start : Nat
  late : Bool
deriving DecidableEq, Repr

/-- A drive event that waits for its placed time (R271 to R273): pin, kind (0 D_ON, 1 D_DATA, 2 D_RET, 3 D_OFF), time, the level it sets, and the
number of its vector. -/
structure TioEv where
  pin : Nat
  kind : Nat
  time : Nat
  level : Bool
  num : Nat
deriving DecidableEq, Repr

/-- A strobe that waits for its placed time (R286): pin, 0 S0 or 1 S1, whether it bounds a window, time. -/
structure TioStrobe where
  pin : Nat
  which : Nat
  window : Bool
  time : Nat
deriving DecidableEq, Repr

/-- A vector that has started and whose record is not complete: its end, whether that has passed, its strobes, pins found failing, the two halves of
the raw word, and the flags SQUEEZED and UNCAL (R287, R288). -/
structure TioRun where
  vec : TioVec
  endT : Nat
  ended : Bool
  strobes : List TioStrobe
  fails : Nat
  raw0 : Nat
  raw1 : Nat
  squeezed : Bool
  uncal : Bool
deriving DecidableEq, Repr

/-- A result record in the buffer (R288 to R290), with the start of its vector, the time it completed, and whether it is the first of a run. -/
structure TioRec where
  word : Nat
  num : Nat
  flags : Nat
  start : Nat
  done : Nat
  first : Bool
deriving DecidableEq, Repr

/-- A timed I/O bank's parts that are no registers: the vector buffer, the reference vector's number and end (R277), vectors that have started, events
that wait, the result buffer, whether the next vector accepted begins a run, a scheduled stop, a stop that has taken effect while a
vector runs (R281), and the first buffered vectors whose events and strobes are placed already, because deskew may place them before the start (R272). -/
structure TioBank where
  buf : List TioVec
  ref : Option (Nat × Nat)
  runs : List TioRun
  evs : List TioEv
  res : List TioRec
  first : Bool
  stopAt : Option Nat
  stopping : Bool
  ahead : List TioRun
deriving DecidableEq, Repr

/-- A connection from a region to a plain-mode pin (R264, R265, R267): the pin, whether it is its output enable, the two bits on their way (launched at the rising
and at the falling edge; the second is the first's without DDR), the bits that the pin register has launched, each with the reading of the NoC clock at which it
reaches the ball, oldest first, the border value configured (0, 1, or 2 for last value) and the value held. -/
structure Pad where
  pin : Nat
  enable : Bool
  next : Bool
  next2 : Bool
  launched : List (Nat × Bool)
  border : Nat
  held : Bool
deriving DecidableEq, Repr

/-- Timed I/O: banks, plain-mode connections by region crossbar port, those to a region as their pins (R264, R265), the writes of timesets, periods and deskew that may not have taken effect, newest
first: the place written, the value before, and the time (R283), and the writes of delays that have not taken effect, oldest first: the pin, the NoC clock, ODLY and
IDLY (R266). -/
structure Tio where
  banks : Map TioBank
  pads : Map Pad
  padIns : Map Nat
  hist : List (Nat × Nat × Nat)
  dly : List (Nat × Nat × Nat × Nat)
deriving DecidableEq, Repr

/-- A DCL link's parts that are no registers (R309 to R325): A as read at entry to DETECT, the target rate, the rate of the exchange
in STEP, the last rate with block lock, excluded rates, identical CAPs received and the last of them, CAPs sent, RATE_ACK received and sent,
relocking after a rate change, own and peer's receiver trained, the FFE's taps as training has left them (R298), block lock, twice the D of each exchange, LATMEAS failures in a
row, failed attempts in a row, the TS_RSP last sent, the peer's latencies, the peer's time bits [63:32] and epoch, the peer's
STATUS, the link latency D accepted last, whether the skew was raised in this UP period, the cause of a retrain since the link was last UP, the ncyc in which it
left UP and the rate it had there (R319, R337), the peer's transmit map ID (R328), the superframe and the alignment period that this end sends (R309), the blocks last sent in a control slot as they
stand on the line, each as its header or 1 for a K character and its bytes (R306 to R308, R313, R314), and for R311 and R319 the blocks received and the places of errored ones. -/
structure Link where
  align : Nat
  target : Nat
  step : Nat
  lastRate : Nat
  excluded : List Nat
  capSame : Nat
  lastCap : Nat
  capSent : Nat
  ackRcvd : Bool
  ackSent : Bool
  relock : Bool
  ownTrained : Bool
  peerTrained : Bool
  taps : Option (Nat × Nat × Nat)
  lock : Bool
  samples : List Int
  measFails : Nat
  attempts : Nat
  tsRsp : Nat × Nat
  peerLat : Nat × Nat
  peerHi : Nat
  peerEpoch : Nat
  peerStatus : Nat
  latency : Option Int
  skewRaised : Bool
  retrainDue : Nat
  leftAt : Nat
  upRate : Nat
  peerMap : Option Nat
  superframe : Nat
  period : Nat
  sent : List (Nat × List Nat)
  blocks : Nat
  errAt : List Nat
deriving DecidableEq, Repr

/-- What comes in on a stream (R329, R330): the blocks of the message that is not complete, each with whether it is poisoned, and whether the receiver has lost its step. -/
structure StreamRx where
  part : List (Nat × Bool)
  search : Bool
deriving DecidableEq, Repr

/-- A raw lane (R304, R305): the receive buffer of 16 words, the word shown to the region with RX_VALID in bit 72, the words written for transmission, the word last sent,
the NoC clock at which that was settled and what has passed of the word period, the characters received short of a word, the running disparities and the scramblers
of both ways, what stands on the line, and its PAM4 symbols (R298). -/
structure RawLane where
  rx : List Nat
  shown : Nat
  tx : List Nat
  last : Nat
  at_ : Nat
  passed : Nat
  held : List (Option (Bool × Nat))
  rxRd : Bool
  txRd : Bool
  rxSc : Nat
  txSc : Nat
  line : Nat
  symbols : List Nat
deriving DecidableEq, Repr

/-- The lanes: DCL links by link number (lane − 16), messages queued by transmit stream, the blocks of the message last sent on a stream as they stand on the line, what comes in
on a stream and the complete messages that await injection (R334), streams that have raised a drop event in this outage, and raw lanes. -/
structure Lanes where
  links : Map Link
  txq : Map (List StreamMsg)
  sent : Map (List (Nat × List Nat))
  rx : Map StreamRx
  rxq : Map (List StreamMsg)
  outage : List Nat
  raw : Map RawLane
deriving DecidableEq, Repr

/-- A trace entry (R400): vector number, VT, L, A', Z, ADDRV. -/
structure TraceEnt where
  num : Nat
  vt : Nat
  l : Nat
  a : Nat
  z : Nat
  addrv : Bool
deriving DecidableEq, Repr

/-- A vector of one output's group (R344 to R346): states, masks, timeset, start. -/
structure PgeVec where
  state : Nat
  mask : Nat
  ts : Nat
  start : Nat
deriving DecidableEq, Repr

/-- A packet of an output (R346 to R357): its vectors, the number of the first, TIMED, LAST, whether it has closed, whether it is a termination
vector. -/
structure PgePkt where
  vecs : List PgeVec
  num : Nat
  timed : Bool
  last : Bool
  closed : Bool
  term : Bool
deriving DecidableEq, Repr

/-- An output of a pattern engine: its packets, at most two (R352), the end of its last vector formed, whether a breach notice came since the last
packet was formed (R349), the end and number of the last vector injected, MAXLEN as ARM read it, and whether LAST has been injected. -/
structure PgeOut where
  pkts : List PgePkt
  prevEnd : Option Nat
  breach : Bool
  sentEnd : Option Nat
  sentNum : Option Nat
  maxlen : Nat
  done : Bool
deriving DecidableEq, Repr

/-- A fetched line or block of eight words (R377, R378): its address, the words, which are poisoned, whether it is bad. -/
structure PgeLine where
  addr : Nat
  words : List Nat
  poison : List Nat
  bad : Bool
deriving DecidableEq, Repr

/-- A wait of a sequencer (R367): SYNCV or WAITF with its flag and level, TIMEOUT, and when it began. -/
structure PgeWait where
  sync : Bool
  flag : Nat
  pol : Bool
  timeout : Nat
  since : Nat
deriving DecidableEq, Repr

/-- A pattern engine's parts that are no registers (R345 to R378): call stack, current timeset, the current vector's states, masks and timeset,
repeats of it left, vectors the instruction has emitted, the instruction cache by line, stored-vector blocks by number, fetches
outstanding as (address, vector block), a count of runs that marks fetches, the wait, whether the sequencer has stopped and why (1 HALT, 2 STOP, 3
failure), STOP_AT of a STOP that was written, the next vector number, whether a vector has been formed, trace entries not yet passed to the FCE, the
outputs. -/
structure Pge where
  stack : List Nat
  ts : Nat
  cv : List Nat
  cm : List Nat
  cts : Nat
  rep : Nat
  prog : Nat
  lines : Map PgeLine
  blocks : Map PgeLine
  pend : List (Nat × Bool)
  gen : Nat
  wait : Option PgeWait
  ending : Nat
  stop : Option Nat
  num : Nat
  formed : Bool
  trace : List TraceEnt
  outs : Map PgeOut
deriving DecidableEq, Repr

/-- A result record in an FCE's input buffer (R288, R394, R396): its input, vector number, fail bits, flags, whether its flit arrived poisoned, and
whether it is the first of a TIMED packet. -/
structure FceRec where
  input : Nat
  num : Nat
  word : Nat
  flags : Nat
  poison : Bool
  timed : Bool
deriving DecidableEq, Repr

/-- An input's record order (R396, R403): the number expected, and the number last processed. -/
structure FceIn where
  expected : Option Nat
  done : Option Nat
deriving DecidableEq, Repr

/-- A repair domain's table (R410 to R414): its pool entry, must-repair rows and columns, distinct failing cells not covered, its status (0 tracked, 2
unrepairable, 3 overflow, 4 TABLE_ERR), fails applied and the first failing vector. -/
structure RauTable where
  entry : Nat
  rows : List Nat
  cols : List Nat
  cells : List (Nat × Nat)
  status : Nat
  fails : Nat
  ffv : Nat
deriving DecidableEq, Repr

/-- A fail-capture engine's parts that are no registers: input buffer, trace buffer, inputs' record order, tables by site × 65,536 + domain, untracked
domains, log entries by site, which once-per-run events have been raised, when the last statistics snapshot was due, and its packets not yet
sent. -/
structure Fce where
  buf : List FceRec
  trace : List TraceEnt
  ins : Map FceIn
  tables : Map RauTable
  untracked : List Nat
  logged : Map Nat
  onceLog : Bool
  oncePool : Bool
  onceSkip : Bool
  snapAt : Nat
  stat : List Packet
deriving DecidableEq, Repr

/-- A packet that SEND has queued (R453): its order among the group's SENDs, its size, the 64-bit word of X or Y it starts at, and whether Y. -/
structure MspSend where
  seq : Nat
  size : Nat
  word : Nat
  y : Bool
deriving DecidableEq, Repr

/-- A WAIT in progress (R459): KIND, ARG, the target of KIND 1, and when it began. -/
structure MspWait where
  kind : Nat
  arg : Nat
  target : Nat
  since : Nat
deriving DecidableEq, Repr

/-- An MSP's parts that are no registers (R430, R431, R434, R444, R445, R459): return stack, captured TIME_HI, the repeat cache as its first index and
words with their poison, the instruction under REPEAT, the register the last instruction wrote for addressing (n for Pn, 8 + n for Mn), the WAIT
in progress, whether a STOP and a RESUME wait for the end of a REPEAT, the channels' queues, the instruction fetched ahead with its 64-bit word, the
NoC clock when the last run was left, and since when a SEND has stalled. -/
structure Msp where
  stack : List Nat
  timeHi : Nat
  cacheLo : Nat
  cache : List (Nat × Bool)
  rep : Option (Nat × Bool)
  fresh : Option Nat
  wait : Option MspWait
  stopReq : Bool
  resumeReq : Bool
  queues : Map (List MspSend)
  ahead : Option (Nat × Nat × Bool)
  idle : Option Nat
  stall : Option Nat
deriving DecidableEq, Repr

/-- The condition of a stored word (R482, R483): clean, one flipped bit, more than one, or stored poison. -/
inductive Mark where
  | clean
  | single (bit : Nat)
  | multi
  | poison
deriving DecidableEq, Repr

/-- A stored 64-bit word of a memory unit, LPDDR5X or the system NVM (R466): data bits as stored, valid bit, condition. -/
structure MemWord where
  data : BitVec 64
  valid : Bool
  mark : Mark
deriving DecidableEq, Repr

/-- A live row-tracker entry (R487): the unit and row, the time of the first counted CE, the count. -/
structure TrkEntry where
  unit : Nat
  row : Nat
  first : Nat
  count : Nat
deriving DecidableEq, Repr

/-- A copy channel's progress (R476 to R479): the next chunk to request, the chunks requested and not answered, whether STOP was
written, and a count of STARTs that marks requests. -/
structure CopyCh where
  next : Nat
  outstanding : List Nat
  stopping : Bool
  gen : Nat
deriving DecidableEq, Repr

/-- The shared memories' machinery: repair queues by unit as (word number, uncorrectable), row trackers by base die, remapped
rows by unit as (row, spare), rows waiting to be remapped and, by unit × 65,536 + row, the words whose repair goes ahead of that (R475), rows that have reported NOSPARE, scrub passes in progress by unit
with the next word, sweeps in progress by unit, requests waiting at a bank in handover, copy channels by base die × 8 + channel, when the last
pass of a unit started, whether FIELD_MAP_FULL has been raised, and the factory fuse map (R492) by unit as (row, spare). -/
structure OnChip where
  queue : Map (List (Nat × Bool))
  trackers : Map (List TrkEntry)
  remaps : Map (List (Nat × Nat))
  suspects : List (Nat × Nat)
  ahead : Map (List Nat)
  nospare : List (Nat × Nat)
  scrub : Map Nat
  sweeps : List Nat
  waiting : List MemReq
  copies : Map CopyCh
  scrubAt : Map Nat
  mapFullRaised : Bool
  fuseMap : Map (List (Nat × Nat))
deriving DecidableEq, Repr

/-- An LPDDR5X channel's parts that are no registers: INLINE and RATE as read when training last started (R500, R506), whether
it trains after power-on or device reset, whether an initialisation pass is due, a change of deterministic mode that waits
for the frame start (R513) and the frame in which it was written, whether a retraining has reached its commit point, whether the drift was reported (R512), words to
write back (R507), requests that wait (R511), ranks in power-down (R516), and refreshes issued in the current window. -/
structure Lpx where
  inl : Bool
  rate : Nat
  afterReset : Bool
  initDue : Bool
  detPend : Option Bool
  detAt : Nat
  committed : Bool
  driftRaised : Bool
  wb : List (Nat × Bool)
  waiting : List MemReq
  powerDown : List Nat
  refreshes : Nat
deriving DecidableEq, Repr

/-- An MSI-X vector (R526, R536): table entry, mask, pending bit. -/
structure MsixVec where
  addr : Nat
  data : Nat
  masked : Bool
  pending : Bool
deriving DecidableEq, Repr

/-- A part of a host read (R529): address, bytes, and, once it has been answered, its STATUS, data and poison. -/
structure HostPart where
  addr : Nat
  size : Nat
  ans : Option (Nat × Nat × Bool)
deriving DecidableEq, Repr

/-- A host read (R529, R531): function, its place among the function's requests, whether its requests have been sent, the parts that have no completion
yet. -/
structure HostRead where
  fn : Nat
  seq : Nat
  issued : Bool
  parts : List HostPart
deriving DecidableEq, Repr

/-- A part of a host write that waits for its WRITE_RSP (R531, R532). -/
structure HostPut where
  fn : Nat
  seq : Nat
  addr : Nat
  size : Nat
deriving DecidableEq, Repr

/-- A memory write that the device sends to the host: a DMA chunk or an MSI-X message. -/
structure HostTlp where
  fn : Nat
  addr : Nat
  bytes : Nat
  data : Nat
deriving DecidableEq, Repr

/-- A DMA channel's parts that are no registers (R533 to R535): the next chunk to request, chunks requested of the first side and not yet passed on, what the host
has answered by chunk (ERR or 0, data), the chunk whose device write has no response yet, a STOP, an FLR that waits for that response, who
started it. -/
structure PcieDma where
  next : Nat
  out : List Nat
  ready : List (Nat × Nat × Nat)
  writing : Option Nat
  stopping : Bool
  flr : Bool
  starter : Nat
deriving DecidableEq, Repr

/-- The PCIe controller: PERST_N, functions with Bus Master Enable, VFs enabled, functions in D3hot, functions with MSI-X Enable and with Function Mask,
MSI-X vectors by function × 64 + vector, host reads and writes in progress, the count that orders them, DMA channels, AER bits by
function (1 Unsupported Request, 2 Completer Abort), the last memory write sent to the host, and the completions of host reads sent by the last command that
sent any, in order. -/
structure Pcie where
  perst : Bool
  bme : List Nat
  numVfs : Nat
  d3 : List Nat
  msixOn : List Nat
  msixMask : List Nat
  msix : Map MsixVec
  reads : List HostRead
  writes : List HostPut
  seq : Nat
  dma : Map PcieDma
  aer : Map Nat
  tlp : Option HostTlp
  cpls : List Resp
deriving DecidableEq, Repr

/-- The debug module (R565 to R574): authbusy for a nonce or for a grant, the unused nonce, nonce words not yet read, grant words to come, the last result; a DRW
frame in progress and a reset low in force (R576, R577); dmactive and hartsel; harts asked to halt, harts that halt after reset, harts with havereset and with
resumeack; data registers, program buffer, abstractauto, cmderr, the last command; the system bus port's sbaccess, autoincrement, readonaddr, readondata, error,
address and data; the registers of halted harts by hart × 65,536 + number; the system bus access in progress (whether a write, its address and size), and
sbbusyerror; the bytes of the last answer on DRW, status byte first, CRC-8 last (R582). -/
structure Dbg where
  forming : Bool
  verifying : Bool
  nonce : Option Nat
  nonceLeft : Nat
  grantLeft : Nat
  result : Nat
  frame : Bool
  resetLow : Bool
  dmactive : Bool
  hartsel : Nat
  haltreq : List Nat
  resetHalt : List Nat
  havereset : List Nat
  resumeack : List Nat
  data : Map Nat
  progbuf : Map Nat
  auto : Nat
  cmderr : Nat
  command : Nat
  sbaccess : Nat
  sbinc : Bool
  sbOnAddr : Bool
  sbOnData : Bool
  sberror : Nat
  sbaddr : Nat
  sbdata : Nat
  hregs : Map Nat
  sbBusy : Option (Bool × Nat × Nat)
  sbBusyErr : Bool
  reply : List Nat
deriving DecidableEq, Repr

/-- The configuration that Dawn has in hand (R609, R611, R615): partial or full, where it comes from (0 flash, 1 DWN page, 2 PCI page), the stream once it has been
read, and whether its commit point is past. -/
structure DawnOp where
  part : Bool
  src : Nat
  stream : Option Stream
  committed : Bool
deriving DecidableEq, Repr

/-- A release that waits for DWN_REL_CTL.GO (R618): its regions, the cause of isolation it ends, and whether cores start with it. -/
structure HeldRel where
  regions : List Nat
  cause : Nat
  cores : Bool
deriving DecidableEq, Repr

/-- A step that Dawn takes with its flash devices (R596): a command, in 1S-1S-1S or in 8D-8D-8D; the sequence of SFDP that enters 8D-8D-8D; or a read, by its
command (with its extension in the lower byte) at a flash address. With BOOTSRC 1 both devices receive it (R597). -/
inductive FlashStep where
  | command (octal : Bool) (code : Nat)
  | enterOctal
  | read (code addr : Nat)
deriving DecidableEq, Repr

/-- Dawn's parts that are no registers (R590, R607, R611, R618, R619): the operation in hand; configuration memory by frame address; whether frames may be read back;
the target ranges of image segments written and not yet opened, as (address, bytes); a held release; the register records of TIO banks and pins that wait
for the OUTHOLD release (R608); the configured items in effect, which a region's reload writes again (R621); and what Dawn has issued to its flash in reading the
boot directory (R596). -/
structure Dawn where
  op : Option DawnOp
  frames : Map Nat
  readable : Bool
  images : List (Nat × Nat)
  held : Option HeldRel
  late : List RegRec
  items : List CfgItem
  flash : List FlashStep
deriving DecidableEq, Repr

/-- A signed command that Sage verifies (R644): its OP, what Sage finds in it. -/
structure SageCmd where
  op : Nat
  facts : CmdFacts
deriving DecidableEq, Repr

/-- The keys that Sage holds from one start-up to the next reset (R633): the device key, the KEK and the identity seed. They never leave Sage. -/
structure DeviceKeys where
  key : BitVec 256
  kek : BitVec 256
  seed : BitVec 256
deriving DecidableEq, Repr

/-- Sage's parts that are no registers (R633, R634, R646, R541, R542): identity keys made, certificate chains stored, helper data and key store present, erase marker present; the
command in progress; the SPDM connection (0 none, 1 after VERSION, 2 after CAPABILITIES, 3 after ALGORITHMS), whether a signed message is kept, a large request that
arrives in chunks and a large response that leaves in chunks, each as (handle, next sequence number); the keys of this start-up, none once the helper data is gone. -/
structure Sage where
  keys : Bool
  chains : Bool
  store : Bool
  marker : Bool
  cmd : Option SageCmd
  spdm : Nat
  kept : Bool
  sending : Option (Nat × Nat)
  large : Option (Nat × Nat)
  dev : Option DeviceKeys
deriving DecidableEq, Repr

/-- What Sage reconstructs and derives at every power-on and device reset (R633). -/
def deviceKeys : DeviceKeys :=
  ⟨Config.deviceKey, Config.hkdfSha384 Config.deviceKey "LNT8-KEK", Config.hkdfSha384 Config.deviceKey "LNT8-ID"⟩

/-- The die links' parts that are no registers (R683 to R689): the count of each wire with the ncyc of its first counted error, by group entry × 128 + wire (127 is
the group's further count); failing wires that wait for their group's spare, by group entry, and folds that wait for their commit point, by link, each
with the ncyc it began (a fold with the parity of the exhausted group); the active half of folded NAP links (0 even, 1 odd). -/
structure DieLinks where
  wires : Map (Nat × Nat)
  pend : Map (Nat × Nat)
  folds : Map (Nat × Nat)
  napHalf : Map Nat
deriving DecidableEq, Repr

/-- A Midnight test in progress (R697, R699): base die, class, INDEX of R701, whether MID_REQ_CTL asked for it, and whether a foreground access has
ended it, so that the unit only waits for its release. -/
structure MidTest where
  bd : Nat
  cls : Nat
  index : Nat
  req : Bool
  ended : Bool
deriving DecidableEq, Repr

/-- The whole device. -/
structure State where
  /-- commands waiting, first in first out -/
  pending : List Instr
  /-- Tabirair time, the counter of R47 -/
  time : BitVec 64
  /-- the counter's fraction register (R48) -/
  frac : BitVec 32
  /-- the model's own: how many free values have been drawn -/
  free : Nat
  /-- register fields and scalar state words, by Field.key -/
  regs : Map Nat
  /-- the bus response last given -/
  resp : Resp
  /-- pending event records, by SOURCE × 65,536 + CODE (R27) -/
  events : Map EventRec
  /-- the time base -/
  tb : TimeBase
  /-- the fabric's cells, memories and hard blocks -/
  fab : Fabric
  /-- the fixed-delay interconnect and the regions -/
  ic : Interconnect
  /-- the Thyme network -/
  noc : Noc
  /-- contracts and mailbox operations -/
  thy : Thyme
  /-- words of the shared memories, LPDDR5X and system NVM, by address div 8 -/
  mem : Map MemWord
  /-- the shared memories' repair machinery -/
  chip : OnChip
  /-- LPDDR5X channels -/
  lpx : Map Lpx
  /-- lanes, DCL links and streams -/
  lanes : Lanes
  /-- timed I/O banks and plain-mode pins -/
  tio : Tio
  /-- pattern engines -/
  pge : Map Pge
  /-- fail-capture engines -/
  fce : Map Fce
  /-- the die links -/
  dlk : DieLinks
  /-- Midnight's tests in progress -/
  mid : List MidTest
  /-- measurement signal processors -/
  msp : Map Msp
  /-- the security processor -/
  sage : Sage
  /-- Dawn: start-up and configuration -/
  dawn : Dawn
  /-- the PCIe controller -/
  pcie : Pcie
  /-- the debug module -/
  dbg : Dbg
deriving DecidableEq, Repr

/-- Why the device stops with a fault. No meaning raises one: the manual has no event that stops the device as a whole. The one
constructor is for completeness of the interface and is safe: a stop proves nothing false. -/
inductive Fault where
  /-- Never raised; safe. -/
  | none
deriving DecidableEq, Repr

/-- Why a command has no outcome. -/
inductive Refusal where
  /-- Raised by exec's arm of a command that has no meaning yet, named by its mnemonic; safe. -/
  | notModelled (mnemonic : String)
deriving DecidableEq, Repr

/-- What a command answers. -/
abbrev Result := Host.Outcome State Fault Refusal

/-- The device right after power-on reset (R32, R730): every register at its table's reset value, nothing waiting, every
memory word invalid, no contract, no packet. -/
def State.reset : State where
  pending := []
  time := 0
  frac := 0
  free := 0
  regs := []
  resp := ⟨0, 0, false⟩
  events := []
  tb := ⟨[], false, [], none, 0⟩
  fab := ⟨[], [], [], [], [], [], [], [], [], [], [], [], []⟩
  ic := ⟨[], [], [], [], [], []⟩
  noc := ⟨[], [], [], [], [], 0, []⟩
  thy := ⟨[], [], []⟩
  mem := []
  chip := ⟨[], [], [], [], [], [], [], [], [], [], [], false, []⟩
  lpx := []
  lanes := ⟨[], [], [], [], [], [], []⟩
  tio := ⟨[], [], [], [], []⟩
  pge := []
  fce := []
  dlk := ⟨[], [], [], []⟩
  mid := []
  msp := []
  sage := ⟨false, false, true, false, none, 0, false, none, none, some deviceKeys⟩
  dawn := ⟨none, [], false, [], none, [], [], []⟩
  pcie := ⟨false, [], 0, [], [], [], [], [], [], 0, [], [], none, []⟩
  dbg := ⟨false, false, none, 0, 0, 0, false, false, false, 0, [], [], [0, 1, 2, 3, 4, 5], [], [], [], 0, 0, 0, 2, false, false, false, 0, 0, 0, [], none, false, []⟩


end Sys2Proof.Machine
end

