-- ==== Sys2Proof/Machine/Update.lean ====
section
/-!
DEFINITION. One update operation for each part of the state.
-/

namespace Sys2Proof.Machine

/-- Replace the state's pending by a function of it. -/
def State.modPending (s : State) (f : List Instr → List Instr) : State := { s with pending := f s.pending }

/-- Replace the state's time by a function of it. -/
def State.modTime (s : State) (f : BitVec 64 → BitVec 64) : State := { s with time := f s.time }

/-- Replace the state's frac by a function of it. -/
def State.modFrac (s : State) (f : BitVec 32 → BitVec 32) : State := { s with frac := f s.frac }

/-- Replace the state's free by a function of it. -/
def State.modFree (s : State) (f : Nat → Nat) : State := { s with free := f s.free }

/-- Replace the state's regs by a function of it. -/
def State.modRegs (s : State) (f : Map Nat → Map Nat) : State := { s with regs := f s.regs }

/-- Replace the state's resp by a function of it. -/
def State.modResp (s : State) (f : Resp → Resp) : State := { s with resp := f s.resp }

/-- Replace the state's events by a function of it. -/
def State.modEvents (s : State) (f : Map EventRec → Map EventRec) : State := { s with events := f s.events }

/-- Replace the state's tb by a function of it. -/
def State.modTb (s : State) (f : TimeBase → TimeBase) : State := { s with tb := f s.tb }

/-- Replace the state's fab by a function of it. -/
def State.modFab (s : State) (f : Fabric → Fabric) : State := { s with fab := f s.fab }

/-- Replace the state's ic by a function of it. -/
def State.modIc (s : State) (f : Interconnect → Interconnect) : State := { s with ic := f s.ic }

/-- Replace the state's noc by a function of it. -/
def State.modNoc (s : State) (f : Noc → Noc) : State := { s with noc := f s.noc }

/-- Replace the state's thy by a function of it. -/
def State.modThy (s : State) (f : Thyme → Thyme) : State := { s with thy := f s.thy }

/-- Replace the state's mem by a function of it. -/
def State.modMem (s : State) (f : Map MemWord → Map MemWord) : State := { s with mem := f s.mem }

/-- Replace the state's chip by a function of it. -/
def State.modChip (s : State) (f : OnChip → OnChip) : State := { s with chip := f s.chip }

/-- Replace the state's lpx by a function of it. -/
def State.modLpx (s : State) (f : Map Lpx → Map Lpx) : State := { s with lpx := f s.lpx }

/-- Replace the state's lanes by a function of it. -/
def State.modLanes (s : State) (f : Lanes → Lanes) : State := { s with lanes := f s.lanes }

/-- Replace the state's tio by a function of it. -/
def State.modTio (s : State) (f : Tio → Tio) : State := { s with tio := f s.tio }

/-- Replace the state's pge by a function of it. -/
def State.modPge (s : State) (f : Map Pge → Map Pge) : State := { s with pge := f s.pge }

/-- Replace the state's fce by a function of it. -/
def State.modFce (s : State) (f : Map Fce → Map Fce) : State := { s with fce := f s.fce }

/-- Replace the state's dlk by a function of it. -/
def State.modDlk (s : State) (f : DieLinks → DieLinks) : State := { s with dlk := f s.dlk }

/-- Replace the state's mid by a function of it. -/
def State.modMid (s : State) (f : List MidTest → List MidTest) : State := { s with mid := f s.mid }

/-- Replace the state's msp by a function of it. -/
def State.modMsp (s : State) (f : Map Msp → Map Msp) : State := { s with msp := f s.msp }

/-- Replace the state's sage by a function of it. -/
def State.modSage (s : State) (f : Sage → Sage) : State := { s with sage := f s.sage }

/-- Replace the state's dawn by a function of it. -/
def State.modDawn (s : State) (f : Dawn → Dawn) : State := { s with dawn := f s.dawn }

/-- Replace the state's pcie by a function of it. -/
def State.modPcie (s : State) (f : Pcie → Pcie) : State := { s with pcie := f s.pcie }

/-- Replace the state's dbg by a function of it. -/
def State.modDbg (s : State) (f : Dbg → Dbg) : State := { s with dbg := f s.dbg }

end Sys2Proof.Machine
end

