-- ==== Sys2Proof/Machine/Coding.lean ====
section
/-!
DEFINITION. The line codes: 8b/10b with running disparity (R59, R306), the 64b/66b block and its scrambler (R307), the cyclic checks of sync frames and of
control blocks (R60, R308), the superframe (R309), and the code words of PAM4 rates (R310). The tables of the 8b/10b code are the code's own, which the manual names and does not print (notes/assumptions/84).
-/

namespace Sys2Proof.Machine

/-! ### 8b/10b (R59, R61, R306) -/

/-- The six-bit half of each five-bit value at negative running disparity, the bit sent first on the left (the code's table). -/
def table6 : List Nat :=
  [0b100111, 0b011101, 0b101101, 0b110001, 0b110101, 0b101001, 0b011001, 0b111000,
   0b111001, 0b100101, 0b010101, 0b110100, 0b001101, 0b101100, 0b011100, 0b010111] ++
  [0b011011, 0b100011, 0b010011, 0b110010, 0b001011, 0b101010, 0b011010, 0b111010,
   0b110011, 0b100110, 0b010110, 0b110110, 0b001110, 0b101110, 0b011110, 0b101011]

/-- The four-bit half of each three-bit value of a data character at negative running disparity, the primary form of 7. -/
def table4 : List Nat := [0b1011, 0b1001, 0b0101, 0b1100, 0b1101, 0b1010, 0b0110, 0b1110]

/-- The same of a control character. -/
def tableK4 : List Nat := [0b1011, 0b0110, 0b1010, 0b1100, 0b1101, 0b0101, 0b1001, 0b0111]

/-- How many of the low n bits of a number are 1. -/
def ones (n v : Nat) : Nat := ((List.range n).filter (fun i => decide (v / 2 ^ i % 2 = 1))).length

/-- The running disparity after a half of n bits: a half with more ones than zeros leaves it positive, with fewer negative. -/
def dispAfter (n v : Nat) (rd : Bool) : Bool :=
  if ones n v * 2 = n then rd else decide (n < ones n v * 2)

/-- A half in the form for the running disparity: the form for the other one is the complement, where the half is not balanced or is the one that
alternates (`alt`). -/
def halfFor (n v : Nat) (alt rd : Bool) : Nat :=
  if rd && (alt || decide (ones n v * 2 ≠ n)) then 2 ^ n - 1 - v else v

/-- The six-bit half of a character. -/
def half6 (k : Bool) (x : Nat) (rd : Bool) : Nat :=
  if k && decide (x = 28) then halfFor 6 0b001111 false rd else halfFor 6 (table6.getD x 0) (decide (x = 7)) rd

/-- A data character takes the alternate form of 7. -/
def altSeven (x : Nat) (rd : Bool) : Bool :=
  if rd then decide (x = 11) || decide (x = 13) || decide (x = 14) else decide (x = 17) || decide (x = 18) || decide (x = 20)

/-- The four-bit half of a character; rd is the running disparity after the six-bit half. -/
def half4 (k : Bool) (x y : Nat) (rd : Bool) : Nat :=
  if k then halfFor 4 (tableK4.getD y 0) true rd
  else if decide (y = 7) && altSeven x rd then halfFor 4 0b0111 false rd
  else halfFor 4 (table4.getD y 0) (decide (y = 3)) rd

/-- The n bits of a number in the other order: the first sent becomes bit 0. -/
def mirror (n v : Nat) : Nat := (List.range n).foldl (fun a i => a + v / 2 ^ i % 2 * 2 ^ (n - 1 - i)) 0

/-- A character in 8b/10b and the running disparity after it: bit 0 of the ten is sent first. -/
def encode8b10b (k : Bool) (byte : Nat) (rd : Bool) : BitVec 10 × Bool :=
  let x := byte % 32
  let y := byte / 32 % 8
  let a := half6 k x rd
  let rd6 := dispAfter 6 a rd
  let b := half4 k x y rd6
  (BitVec.ofNat 10 (mirror 6 a + mirror 4 b * 64), dispAfter 4 b rd6)

/-- The control characters of the code: K28.0 to K28.7, K23.7, K27.7, K29.7 and K30.7. -/
def controlChars : List Nat := [0x1C, 0x3C, 0x5C, 0x7C, 0x9C, 0xBC, 0xDC, 0xFC, 0xF7, 0xFB, 0xFD, 0xFE]

/-- K28.5 and K28.2 (R60, R306). -/
def k285 : Nat := 0xBC
def k282 : Nat := 0x5C

/-- The character that ten bits are at a running disparity, as whether it is a control character and its byte: none where they are a code or disparity
violation. -/
def decode8b10b (c : BitVec 10) (rd : Bool) : Option (Bool × Nat) :=
  match controlChars.find? (fun b => decide ((encode8b10b true b rd).1 = c)) with
  | some b => some (true, b)
  | none =>
    match (List.range 32).find? (fun x => decide (mirror 6 (half6 false x rd) = c.toNat % 64)) with
    | none => none
    | some x =>
      match (List.range 8).find? (fun y => decide ((encode8b10b false (x + 32 * y) rd).1 = c)) with
      | none => none
      | some y => some (false, x + 32 * y)

/-- The running disparity after ten bits. -/
def disp10 (c : BitVec 10) (rd : Bool) : Bool := dispAfter 4 (mirror 4 (c.toNat / 64)) (dispAfter 6 (mirror 6 (c.toNat % 64)) rd)

/-- Characters (control or data, byte) in 8b/10b one after the other, and the running disparity after them. -/
def encodeChars : List (Bool × Nat) → Bool → List (BitVec 10) × Bool
  | [], rd => ([], rd)
  | (k, b) :: l, rd =>
    let e := encode8b10b k b rd
    let r := encodeChars l e.2
    (e.1 :: r.1, r.2)

/-- What a list of ten-bit characters decodes to, none for each violation; and the running disparity after it. -/
def decodeChars : List (BitVec 10) → Bool → List (Option (Bool × Nat)) × Bool
  | [], rd => ([], rd)
  | c :: l, rd =>
    let r := decodeChars l (disp10 c rd)
    (decode8b10b c rd :: r.1, r.2)

/-! ### Cyclic checks -/

/-- One bit into the CRC-16 of R60. -/
def crc16Bit (crc : Nat) (b : Bool) : Nat :=
  let top := decide (crc / 2 ^ 15 % 2 = 1) != b
  (crc * 2 % 2 ^ 16) ^^^ (if top then 0x1021 else 0)

/-- One byte, least-significant bit first. -/
def crc16Byte (crc byte : Nat) : Nat := (List.range 8).foldl (fun c i => crc16Bit c (decide (byte / 2 ^ i % 2 = 1))) crc

/-- The CRC-16 of R60 over a list of bytes. -/
def crc16 (bytes : List Nat) : Nat := bytes.foldl crc16Byte 0xFFFF

/-- One bit into the CRC-8 of R308. -/
def crc8Bit (crc : Nat) (b : Bool) : Nat :=
  let top := decide (crc / 2 ^ 7 % 2 = 1) != b
  (crc * 2 % 2 ^ 8) ^^^ (if top then 0x07 else 0)

/-- One byte, least-significant bit first. -/
def crc8Byte (crc byte : Nat) : Nat := (List.range 8).foldl (fun c i => crc8Bit c (decide (byte / 2 ^ i % 2 = 1))) crc

/-- The CRC-8 of R308 over a list of bytes. -/
def crc8 (bytes : List Nat) : Nat := bytes.foldl crc8Byte 0

/-! ### Blocks (R306 to R309) -/

/-- A block of a DCL link: a data block of eight bytes, a control block of a type and its content C0 to C5, a comma block of its alignment period count and A. -/
inductive DclBlock where
  | data (bytes : List Nat)
  | control (t : Nat) (c : List Nat)
  | comma (count a : Nat)
deriving DecidableEq, Repr

/-- Byte i of a number. -/
def byteAt (v i : Nat) : Nat := v / 256 ^ i % 256

/-- The first seven bytes of a control or comma block (R308). -/
def sevenBytes (b : DclBlock) : List Nat :=
  match b with
  | .data l => l.take 7
  | .control t c => t :: c.take 6
  | .comma n a => [0xBC, byteAt n 0, byteAt n 1, byteAt n 2, byteAt n 3, a, 0]

/-- The eight payload bytes of a block in 64b/66b (R308). -/
def payloadBytes (b : DclBlock) : List Nat :=
  match b with
  | .data l => l
  | b => sevenBytes b ++ [crc8 (sevenBytes b)]

/-- The characters of a block in 8b/10b, each as whether it is a control character and its byte (R306). -/
def blockChars (b : DclBlock) : List (Bool × Nat) :=
  match b with
  | .data l => l.map (fun v => (false, v))
  | .control t c => (true, k282) :: (t :: c.take 6).map (fun v => (false, v))
  | .comma n a => (true, k285) :: ((sevenBytes (.comma n a)).drop 1).map (fun v => (false, v)) ++ [(false, 0)]

/-- The block that eight characters are, none where it is errored (R306): a control character elsewhere, a violation, a comma block that does not end in 0x00. -/
def charsBlock (l : List (Option (Bool × Nat))) : Option DclBlock :=
  let rest := l.drop 1
  let bytes := rest.map (fun c => match c with
    | some (false, v) => v
    | _ => 0)
  if rest.any (fun c => match c with
      | some (false, _) => false
      | _ => true) then none
  else match l.head? with
    | some (some (false, v)) => some (.data (v :: bytes))
    | some (some (true, k)) =>
      if k = k282 then some (.control (bytes.headD 0) (bytes.drop 1))
      else if k = k285 then
        (if bytes.getD 6 1 = 0 then
          some (.comma (bytes.getD 0 0 + bytes.getD 1 0 * 2 ^ 8 + bytes.getD 2 0 * 2 ^ 16 + bytes.getD 3 0 * 2 ^ 24) (bytes.getD 4 0))
        else none)
      else none
    | _ => none

/-- A block as it is sent in 8b/10b, and the running disparity after it. -/
def encodeBlock8 (b : DclBlock) (rd : Bool) : List (BitVec 10) × Bool := encodeChars (blockChars b) rd

/-- The block that eight ten-bit characters are, and the running disparity after them. -/
def decodeBlock8 (l : List (BitVec 10)) (rd : Bool) : Option DclBlock × Bool := (charsBlock (decodeChars l rd).1, (decodeChars l rd).2)

/-- One bit through the scrambler x^58 + x^39 + 1: the state holds the last 58 bits sent, the latest in bit 0 (R307). -/
def scrambleBit (st : Nat) (b : Bool) : Bool := b != (decide (st / 2 ^ 38 % 2 = 1) != decide (st / 2 ^ 57 % 2 = 1))

/-- The state after a bit has been sent. -/
def scrambleNext (st : Nat) (out : Bool) : Nat := (st * 2 + (if out then 1 else 0)) % 2 ^ 58

/-- The low n bits of a payload, the least first, through the scrambler. -/
def scramble : Nat → Nat → Nat → Nat × Nat
  | 0, _, st => (0, st)
  | n + 1, v, st =>
    let o := scrambleBit st (decide (v % 2 = 1))
    let r := scramble n (v / 2) (scrambleNext st o)
    ((if o then 1 else 0) + 2 * r.1, r.2)

/-- The low n bits received, through the descrambler. -/
def descramble : Nat → Nat → Nat → Nat × Nat
  | 0, _, st => (0, st)
  | n + 1, v, st =>
    let i := decide (v % 2 = 1)
    let r := descramble n (v / 2) (scrambleNext st i)
    ((if scrambleBit st i then 1 else 0) + 2 * r.1, r.2)

/-- The header of a 66-bit block, H0 in bit 0, which is sent first (R307). -/
def headerOf (b : DclBlock) : Nat :=
  match b with
  | .data _ => 2
  | .control _ _ => 1
  | .comma _ _ => 3

/-- Bytes as one number, byte 0 lowest. -/
def ofBytes (l : List Nat) : Nat := l.foldr (fun v acc => v % 256 + 256 * acc) 0

/-- A 66-bit block as it is sent, the header in bits 0 and 1, and the scrambler after it. -/
def encodeBlock66 (b : DclBlock) (st : Nat) : BitVec 66 × Nat :=
  let r := scramble 64 (ofBytes (payloadBytes b)) st
  (BitVec.ofNat 66 (headerOf b + 4 * r.1), r.2)

/-- The block that 66 bits are, none where it is errored (header 00) or a control or comma block whose CRC-8 fails (R307, R308, R312); and the descrambler after it. -/
def decodeBlock66 (v : BitVec 66) (st : Nat) : Option DclBlock × Nat :=
  let r := descramble 64 (v.toNat / 4) st
  let l := (List.range 8).map (byteAt r.1)
  let good := decide (l.getD 7 0 = crc8 (l.take 7))
  (match v.toNat % 4 with
    | 2 => some (.data l)
    | 1 => if good then some (.control (l.getD 0 0) ((l.drop 1).take 6)) else none
    | 3 => if good then some (.comma (r.1 / 2 ^ 8 % 2 ^ 32) (l.getD 5 0)) else none
    | _ => none, r.2)

/-- A block as it stands on the line at a rate index, before scrambling: whether it begins with a K character, or its header, and its eight bytes with the
CRC-8 of 66-bit control and comma blocks (R306 to R308). -/
def lineForm (rate : Nat) (b : DclBlock) : Nat × List Nat :=
  if rate ≤ 7 then
    let c := blockChars b
    ((if c.any (fun x => x.1) then 1 else 0), c.map (fun x => x.2))
  else (headerOf b, payloadBytes b)

/-- The ten-bit characters of a received block, the first lowest. -/
def charsOf (c : BitVec 80) : List (BitVec 10) := (List.range 8).map (fun i => BitVec.ofNat 10 (c.toNat / 2 ^ (10 * i)))

/-- The block that a line block is at a rate index; none where it is errored, its CRC-8 fails, or its code is not that of the rate (R306 to R308, R312). -/
def decodeLine (rate : Nat) (b : LineBlock) : Option DclBlock :=
  match b with
  | .chars c rd => if rate ≤ 7 then (decodeBlock8 (charsOf c) rd).1 else none
  | .bits v before => if rate ≤ 7 then none else (decodeBlock66 v before.toNat).1

/-- The data that a line block in a data slot brings; none where it is errored or no data block (R312). -/
def decodeData (rate : Nat) (b : LineBlock) : Option Nat :=
  match decodeLine rate b with
  | some (.data l) => some (ofBytes l)
  | _ => none

/-- The PAM4 symbols of the low n pairs of bits: Gray-coded, the first-transmitted bit the most significant (R298). -/
def pam4 (n v : Nat) : List Nat :=
  (List.range n).map (fun i =>
    let hi := v / 2 ^ (2 * i) % 2
    2 * hi + (hi + v / 2 ^ (2 * i + 1)) % 2)

/-- What stands at block n of an alignment period of A (R309): the comma at 0, then 16A superframes of a control block and the data slots 0 to 63. -/
inductive BlockPlace where
  | comma
  | control (superframe : Nat)
  | slot (superframe slot : Nat)
deriving DecidableEq, Repr

/-- The place of block n after the start of an alignment period (R309). -/
def blockPlace (a n : Nat) : BlockPlace :=
  let k := n % (1040 * a + 1)
  if k = 0 then .comma
  else if (k - 1) % 65 = 0 then .control ((k - 1) / 65)
  else .slot ((k - 1) / 65) ((k - 1) % 65 - 1)

/-! ### The code words of PAM4 (R310) -/

/-- An element of GF(2^10) times x, modulo x^10 + x^3 + 1. -/
def gfX (a : Nat) : Nat := (if a / 2 ^ 9 % 2 = 1 then a * 2 % 2 ^ 10 ^^^ 0x009 else a * 2) % 2 ^ 10

/-- The product of two elements: the low n bits of the first times the second. -/
def gfMulN : Nat → Nat → Nat → Nat
  | 0, _, _ => 0
  | n + 1, a, b => (if a % 2 = 1 then b else 0) ^^^ gfMulN n (a / 2) (gfX b)

/-- The product in GF(2^10). -/
def gfMul (a b : Nat) : Nat := gfMulN 10 a b

/-- The generator polynomial's coefficients, the highest power first: the product of x - α^i for i below n. -/
def rsGen : Nat → List Nat
  | 0 => [1]
  | n + 1 =>
    let g := rsGen n
    let r := (List.range n).foldl (fun v _ => gfX v) 1
    List.zipWith (fun a b => a ^^^ b) (g ++ [0]) (0 :: g.map (gfMul r))

/-- One message symbol into the division by the generator polynomial. -/
def rsStep (par : List Nat) (m : Nat) : List Nat :=
  let f := m ^^^ par.headD 0
  List.zipWith (fun a b => a ^^^ b) (par.drop 1 ++ [0]) ((rsGen 8).drop 1 |>.map (gfMul f))

/-- The eight parity symbols that follow 128 message symbols; symbol 0 is the coefficient of the highest power (notes/assumptions/84). -/
def rsParity (msg : List Nat) : List Nat := msg.foldl rsStep (List.replicate 8 0)

/-- The remainder of a received code word: all 0 where its syndrome is zero (R311). -/
def rsSyndromeZero (word : List Nat) : Bool := (rsParity (word.take 128) == (word.drop 128).take 8)

/-- A code word's symbols: 19 blocks of 66 bits, and the codeword field with its index, in 128 symbols of 10 bits and their parity (R310). -/
def codeword (blocks : List (BitVec 66)) (index : Nat) : List Nat :=
  let m := (blocks.take 19).zipIdx.foldl (fun v e => v + e.1.toNat * 2 ^ (66 * e.2)) (index % 256 * 2 ^ 1254)
  let msg := (List.range 128).map (fun j => m / 2 ^ (10 * j) % 2 ^ 10)
  msg ++ rsParity msg

end Sys2Proof.Machine
end

