-- ==== Sys2Proof/Machine/Field.lean ====
section
/-!
DEFINITION. What a register field is: where it lies in its block's pages, how wide it is, how software may
access it (R4), and what it holds at reset.
-/

namespace Sys2Proof.Machine

/-- The blocks that own register pages (R20, R21, R22); `internal` is for the model's own scalar state words. -/
inductive Blk where
  | dev | tbs | dwn | sge | dsk | svp | dbg | pci | thy
  | rtr | pge | fce | msp | lpx | lnq | dcl | tio | spd | ecc | dlk | mid
  | rgn | cg | ro | nvmc | sp
  | internal
deriving DecidableEq, Repr

/-- The access codes of R4; `hidden` is a state word software cannot address. -/
inductive Acc where
  | rw | ro | wo | w1c | w1s | rwl | rc | hidden
deriving DecidableEq, Repr

/-- One register field. `dims` are the (byte stride, count) pairs of the arrays it lies in inside its page,
outermost first; `bits` is the (bit stride, count) of an array inside one register. `align` low bits read 0 and
ignore writes (R13, R29). `rst` is the reset value of each element. -/
structure Field where
  id : Nat
  blk : Blk
  off : Nat
  dims : List (Nat × Nat)
  bits : Nat × Nat
  lsb : Nat
  width : Nat
  align : Nat
  acc : Acc
  rst : Nat → Nat

/-- Field numbers stay below this. -/
def Field.idBound : Nat := 4096

/-- The key of element i of a field in the register store. -/
def Field.key (f : Field) (i : Nat) : Nat := f.id % Field.idBound + Field.idBound * i

/-- What a field holds when a value is put into it: the value cut to the width, the aligned low bits zero. -/
def Field.norm (f : Field) (v : Nat) : Nat := (v % 2 ^ f.width) / 2 ^ f.align * 2 ^ f.align

/-- The number of elements one page holds of a field. -/
def Field.perPage (f : Field) : Nat := (f.dims.foldl (fun n d => n * d.2) 1) * f.bits.2

/-- Which element a byte offset relative to the field's first byte names, and the byte offset inside it. -/
def Field.locateDims : List (Nat × Nat) → Nat → Nat → Option (Nat × Nat)
  | [], o, i => some (i, o)
  | (stride, count) :: ds, o, i =>
    if stride = 0 then none
    else if o / stride < count then Field.locateDims ds (o % stride) (i * count + o / stride)
    else none

/-- What is attached to a router's local port (R14, R185); the number is the instance in the package. -/
inductive EpKind where
  | nap (region : Nat)
  | pge (n : Nat) | fce (n : Nat) | lpx (n : Nat) | mspGroup (n : Nat) | tio (n : Nat) | spdPort (n : Nat) | dcl (n : Nat)
  | pcie | failMem (bd : Nat) | bdWindow (bd : Nat) | fdWindow (fd : Nat)
  | core (n : Nat) | sage | dusk | dawn | sysNvm | collector | thyme | pkgPages | debug
  | router | unassigned
deriving DecidableEq, Repr

/-- The quads whose lanes are bonded to PCIe, on BD0: 0 to 3, which leaves six DCL engines there (R21). -/
def pcieQuads : Nat := 4

/-- What is attached at port p of router n on base die k (R185). -/
def attached (k n p : Nat) : EpKind :=
  let r := n / 12
  let c := n % 12
  if n ≥ 96 || k ≥ 4 then .unassigned
  else if p < 8 then .nap ((2 * k + c / 6) * 384 + (2 * r + p / 4) * 24 + 4 * (c % 6) + p % 4)
  else if p = 31 then .router
  else if n % 24 = 0 && p = 8 then .pge (4 * k + n / 24)
  else if n % 24 = 0 && p = 9 then .fce (4 * k + n / 24)
  else if n % 24 = 0 && p = 10 then .lpx (4 * k + n / 24)
  else if n % 24 = 0 && p = 11 then .mspGroup (4 * k + n / 24)
  else if c = 6 && r < 5 && p = 8 then .tio (5 * k + r)
  else if c = 5 && p = 8 then .spdPort (8 * k + r)
  else if k = 0 && n = 11 && p = 8 then .pcie
  else if c = 11 && p = 8 then
    if k = 0 then (if r < pcieQuads then .unassigned else .dcl (r - pcieQuads)) else .dcl (6 + 10 * (k - 1) + r)
  else if c = 10 && r < 2 && p = 8 then
    if k = 0 then .dcl (r + 8 - pcieQuads) else .dcl (6 + 10 * (k - 1) + 8 + r)
  else if n = 84 && p = 8 then .failMem k
  else if n = 88 && p = 8 then .bdWindow k
  else if n = 88 && (p = 9 || p = 10) then .fdWindow (2 * k + (p - 9))
  else if k = 0 && n = 90 then
    if 8 ≤ p && p < 12 then .core (p - 8)
    else if p = 12 then .sage else if p = 13 then .dusk else if p = 14 then .dawn else if p = 15 then .sysNvm
    else if p = 16 then .collector else if p = 17 then .thyme else if p = 18 then .pkgPages
    else if p = 19 then .debug else .unassigned
  else .unassigned

/-- The state of a local port after reset (R211): a region is not configured and so CLOSED (3), an unassigned port is CLOSED,
any other is OPEN (0). The instance is router × 32 + port. -/
def portRst (i : Nat) : Nat :=
  match attached (i / 32 / 96) (i / 32 % 96) (i % 32) with
  | .nap _ => 3
  | .unassigned => 3
  | _ => 0

end Sys2Proof.Machine
end

