-- ==== Sys2Proof/Machine/RegsA.lean ====
section
/-!
DEFINITION. The register fields of the spec's register tables, one definition each, part A, and the
model's own scalar state words (access hidden: no address). A field's number is its place in the list;
power-on-class fields come first, then PCIe-hot-class fields, then the rest (R32).
-/

namespace Sys2Proof.Machine.Reg

/-- R16 (spec/01): Low or high 32 bits of the 64-bit device serial -/
def DEV_SERIAL_SERIAL : Field := ⟨0, .dev, 0, [], (0, 1), 0, 64, 0, .ro, fun _ => 0⟩

/-- R35 (spec/01): 1 makes a PCIe hot reset also trigger a warm fabric reset -/
def DEV_RST_CFG_HOT_WARM : Field := ⟨1, .dev, 260, [], (0, 1), 0, 1, 0, .rw, fun _ => 0⟩

/-- R36 (spec/01): Last power-on reset -/
def DEV_RST_CAUSE_POR : Field := ⟨2, .dev, 264, [], (0, 1), 0, 1, 0, .w1c, fun _ => 1⟩

/-- R36 (spec/01): Device reset by DRW long low -/
def DEV_RST_CAUSE_DRW : Field := ⟨3, .dev, 264, [], (0, 1), 1, 1, 0, .w1c, fun _ => 0⟩

/-- R36 (spec/01): Device reset by `DEV_RST` -/
def DEV_RST_CAUSE_SWDEV : Field := ⟨4, .dev, 264, [], (0, 1), 2, 1, 0, .w1c, fun _ => 0⟩

/-- R36 (spec/01): Warm fabric reset -/
def DEV_RST_CAUSE_WARM : Field := ⟨5, .dev, 264, [], (0, 1), 3, 1, 0, .w1c, fun _ => 0⟩

/-- R36 (spec/01): PCIe hot reset -/
def DEV_RST_CAUSE_HOT : Field := ⟨6, .dev, 264, [], (0, 1), 4, 1, 0, .w1c, fun _ => 0⟩

/-- R36 (spec/01): Device reset by the debug module's ndmreset (R568) -/
def DEV_RST_CAUSE_DBG : Field := ⟨7, .dev, 264, [], (0, 1), 5, 1, 0, .w1c, fun _ => 0⟩

/-- R36 (spec/01): Device reset after a thermal trip (R674) -/
def DEV_RST_CAUSE_TRIP : Field := ⟨8, .dev, 264, [], (0, 1), 6, 1, 0, .w1c, fun _ => 0⟩

/-- R36 (spec/01): Device reset on leaving a JTAG boundary instruction (R745) -/
def DEV_RST_CAUSE_JTAG : Field := ⟨9, .dev, 264, [], (0, 1), 7, 1, 0, .w1c, fun _ => 0⟩

/-- R36 (spec/01): `DEV_RST` written with a wrong key -/
def DEV_RST_CAUSE_BADKEY : Field := ⟨10, .dev, 264, [], (0, 1), 8, 1, 0, .w1c, fun _ => 0⟩

/-- R36 (spec/01): Device reset that woke the core domain of BD0 from package sleep (R660 -/
def DEV_RST_CAUSE_WAKE : Field := ⟨11, .dev, 264, [], (0, 1), 9, 1, 0, .w1c, fun _ => 0⟩

/-- R45 (spec/01): Revision letter, ASCII -/
def DEV_DIEREV_LETTER : Field := ⟨12, .dev, 64, [(4, 12)], (0, 1), 0, 8, 0, .ro, fun _ => 66⟩

/-- R45 (spec/01): Revision digit, ASCII -/
def DEV_DIEREV_DIGIT : Field := ⟨13, .dev, 64, [(4, 12)], (0, 1), 8, 8, 0, .ro, fun _ => 49⟩

/-- R45 (spec/01): Die feature level -/
def DEV_DIEREV_FLEVEL : Field := ⟨14, .dev, 64, [(4, 12)], (0, 1), 16, 8, 0, .ro, fun _ => 3⟩

/-- R45 (spec/01): Die-link generation -/
def DEV_DIEREV_LINKGEN : Field := ⟨15, .dev, 64, [(4, 12)], (0, 1), 24, 4, 0, .ro, fun _ => 2⟩

/-- R45 (spec/01): 0 base die, 1 fabric die -/
def DEV_DIEREV_TYPE : Field := ⟨16, .dev, 64, [(4, 12)], (0, 1), 28, 1, 0, .ro, fun i => if i < 4 then 0 else 1⟩

/-- R588 (spec/15): 0 none, 1 DRW, 2 mailbox; 3 never shown -/
def DBG_SESS_STATE : Field := ⟨17, .dbg, 0, [], (0, 1), 0, 2, 0, .ro, fun _ => 0⟩

/-- R588 (spec/15): 0 None, 1 Non-invasive, 2 Full -/
def DBG_SESS_LEVEL : Field := ⟨18, .dbg, 0, [], (0, 1), 2, 2, 0, .ro, fun _ => 0⟩

/-- R588 (spec/15): Reset mask in force -/
def DBG_SESS_MASK : Field := ⟨19, .dbg, 0, [], (0, 1), 4, 1, 0, .ro, fun _ => 0⟩

/-- R588 (spec/15): Consecutive rejected grants (R572) -/
def DBG_SESS_FAILS : Field := ⟨20, .dbg, 0, [], (0, 1), 8, 3, 0, .ro, fun _ => 0⟩

/-- R588 (spec/15): Service-pin lock -/
def DBG_SEQ_ABORT_SVP : Field := ⟨21, .dbg, 4, [], (0, 1), 0, 1, 0, .w1c, fun _ => 0⟩

/-- R588 (spec/15): Domain force -/
def DBG_SEQ_ABORT_FORCE : Field := ⟨22, .dbg, 4, [], (0, 1), 1, 1, 0, .w1c, fun _ => 0⟩

/-- R588 (spec/15): Sage patch enable -/
def DBG_SEQ_ABORT_SPATCH : Field := ⟨23, .dbg, 4, [], (0, 1), 2, 1, 0, .w1c, fun _ => 0⟩

/-- R588 (spec/15): Dusk patch enable -/
def DBG_SEQ_ABORT_DPATCH : Field := ⟨24, .dbg, 4, [], (0, 1), 3, 1, 0, .w1c, fun _ => 0⟩

/-- R588 (spec/15): Bit 8 + k: user NVM lock of FDk -/
def DBG_SEQ_ABORT_NVM : Field := ⟨25, .dbg, 4, [], (0, 1), 8, 8, 0, .w1c, fun _ => 0⟩

/-- R588 (spec/15): Frame errors, saturating -/
def DBG_DRW_STAT_FERR : Field := ⟨26, .dbg, 8, [], (0, 1), 0, 16, 0, .rc, fun _ => 0⟩

/-- R588 (spec/15): Masked reset lows, saturating -/
def DBG_DRW_STAT_MASKED : Field := ⟨27, .dbg, 8, [], (0, 1), 16, 16, 0, .rc, fun _ => 0⟩

/-- R588 (spec/15): Last bit period, in units of 1.25 ns -/
def DBG_DRW_T_T : Field := ⟨28, .dbg, 12, [], (0, 1), 0, 16, 0, .ro, fun _ => 0⟩

/-- R678 (spec/18): Domain of the slot request -/
def DSK_PWR_CTL_DOM : Field := ⟨29, .dsk, 0, [], (0, 1), 0, 7, 0, .rw, fun _ => 0⟩

/-- R678 (spec/18): 1 on, 2 off; 0 and 3 do nothing (R654) -/
def DSK_PWR_CTL_OP : Field := ⟨30, .dsk, 0, [], (0, 1), 8, 2, 0, .wo, fun _ => 0⟩

/-- R678 (spec/18): Per R656 -/
def DSK_PWR_CTL_ABORT : Field := ⟨31, .dsk, 0, [], (0, 1), 10, 1, 0, .wo, fun _ => 0⟩

/-- R678 (spec/18): Per R39 -/
def DSK_PWR_STAT_STATE : Field := ⟨32, .dsk, 4, [], (0, 1), 0, 3, 0, .ro, fun _ => 0⟩

/-- R678 (spec/18): Per R39 -/
def DSK_PWR_STAT_ABORT_LATE : Field := ⟨33, .dsk, 4, [], (0, 1), 3, 1, 0, .ro, fun _ => 0⟩

/-- R678 (spec/18): Per R655 -/
def DSK_PWR_STAT_REASON : Field := ⟨34, .dsk, 4, [], (0, 1), 4, 4, 0, .ro, fun _ => 0⟩

/-- R678 (spec/18): Domain acted on -/
def DSK_PWR_STAT_DOM : Field := ⟨35, .dsk, 4, [], (0, 1), 8, 7, 0, .ro, fun _ => 0⟩

/-- R678 (spec/18): Per R657 -/
def DSK_FORCE_KEY_KEY : Field := ⟨36, .dsk, 16, [], (0, 1), 0, 16, 0, .wo, fun _ => 0⟩

/-- R678 (spec/18): Per R657 -/
def DSK_FORCE_SET_DOM : Field := ⟨37, .dsk, 20, [], (0, 1), 0, 7, 0, .wo, fun _ => 0⟩

/-- R678 (spec/18): 1 force off, 0 lift -/
def DSK_FORCE_SET_SET : Field := ⟨38, .dsk, 20, [], (0, 1), 8, 1, 0, .wo, fun _ => 0⟩

/-- R678 (spec/18): °C; above 110 acts as 110 -/
def DSK_THR_WARN : Field := ⟨39, .dsk, 32, [], (0, 1), 0, 8, 0, .rw, fun _ => 95⟩

/-- R678 (spec/18): °C; below WARN + 1 acts as WARN + 1, above 112 as 112 -/
def DSK_THR_CRIT : Field := ⟨40, .dsk, 32, [], (0, 1), 8, 8, 0, .rw, fun _ => 105⟩

/-- R678 (spec/18): °C; 0 acts as 1 -/
def DSK_THR_HYST : Field := ⟨41, .dsk, 32, [], (0, 1), 16, 4, 0, .rw, fun _ => 3⟩

/-- R678 (spec/18): Per R671 -/
def DSK_THR_AUTO : Field := ⟨42, .dsk, 32, [], (0, 1), 20, 1, 0, .rw, fun _ => 1⟩

/-- R678 (spec/18): Bit d: die d at or above WARN -/
def DSK_ZSTAT_WARN : Field := ⟨43, .dsk, 36, [], (0, 1), 0, 12, 0, .ro, fun _ => 0⟩

/-- R678 (spec/18): Bit 16 + d: die d reached CRIT -/
def DSK_ZSTAT_CRIT : Field := ⟨44, .dsk, 36, [], (0, 1), 16, 12, 0, .ro, fun _ => 0⟩

/-- R678 (spec/18): Per R673 -/
def DSK_ZSTAT_THERM_STOP : Field := ⟨45, .dsk, 36, [], (0, 1), 28, 1, 0, .w1c, fun _ => 0⟩

/-- R678 (spec/18): Per R674 -/
def DSK_ZSTAT_TRIP : Field := ⟨46, .dsk, 36, [], (0, 1), 29, 1, 0, .w1c, fun _ => 0⟩

/-- R678 (spec/18): 1 while a zone exceeds 100 °C -/
def DSK_ZSTAT_RANGE : Field := ⟨47, .dsk, 36, [], (0, 1), 30, 1, 0, .ro, fun _ => 0⟩

/-- R678 (spec/18): Wake time bits [31:0] (LO and HI registers as one value) -/
def DSK_WAKE_AT_AT : Field := ⟨48, .dsk, 40, [], (0, 1), 0, 64, 0, .rw, fun _ => 0⟩

/-- R678 (spec/18): Per R676 -/
def DSK_WAKE_CTL_DOM : Field := ⟨49, .dsk, 48, [], (0, 1), 0, 7, 0, .rw, fun _ => 0⟩

/-- R678 (spec/18): Per R676 -/
def DSK_WAKE_CTL_EN : Field := ⟨50, .dsk, 48, [], (0, 1), 8, 1, 0, .rw, fun _ => 0⟩

/-- R678 (spec/18): Bit j: convert SV(48 + j) -/
def DSK_ADC_CFG_EN : Field := ⟨51, .dsk, 256, [], (0, 1), 0, 16, 0, .rw, fun _ => 0⟩

/-- R587 (spec/15): Dusk patch unit u (R560) -/
def CTL_DPATCH_MATCH : Field := ⟨52, .dbg, 21504, [(8, 16)], (0, 1), 4, 19, 0, .rw, fun _ => 0⟩

/-- R587 (spec/15): Patch RAM line -/
def CTL_DPATCH_TARGET : Field := ⟨53, .dbg, 21508, [(8, 16)], (0, 1), 0, 6, 0, .rw, fun _ => 0⟩

/-- R587 (spec/15): Per R561 -/
def CTL_DPATCH_KEY : Field := ⟨54, .dbg, 21760, [], (0, 1), 0, 16, 0, .wo, fun _ => 0⟩

/-- R587 (spec/15): Written only as R561 states -/
def CTL_DPATCH_EN : Field := ⟨55, .dbg, 21764, [], (0, 1), 0, 16, 0, .rw, fun _ => 0⟩

/-- R678 (spec/18): State of domain d: 0 ON, 1 CLOSING, 2 OFF, 3 WAKING -/
def DSK_PSTATE : Field := ⟨56, .dsk, 64, [(4, 16)], (4, 8), 0, 3, 0, .ro, fun _ => 0⟩

/-- R678 (spec/18): Domain d forced off -/
def DSK_PSTATE_FORCED : Field := ⟨57, .dsk, 64, [(4, 16)], (4, 8), 3, 1, 0, .ro, fun _ => 0⟩

/-- R678 (spec/18): Zone of die d, 1/16 C -/
def DSK_ZTEMP_ZONE : Field := ⟨58, .dsk, 128, [(4, 12)], (0, 1), 0, 16, 0, .ro, fun _ => 0⟩

/-- R678 (spec/18): Governing temperature (R664) -/
def DSK_ZTEMP_GOV : Field := ⟨59, .dsk, 128, [(4, 12)], (0, 1), 16, 16, 0, .ro, fun _ => 0⟩

/-- R678 (spec/18): Effective level of domain d (R669) -/
def DSK_THRL : Field := ⟨60, .dsk, 192, [(4, 8)], (2, 16), 0, 2, 0, .ro, fun _ => 0⟩

/-- R678 (spec/18): Software throttle request for domain d -/
def DSK_THRL_SW : Field := ⟨61, .dsk, 224, [(4, 8)], (2, 16), 0, 2, 0, .rw, fun _ => 0⟩

/-- R678 (spec/18): Per R666 -/
def DSK_ADC_CODE : Field := ⟨62, .dsk, 320, [(4, 16)], (0, 1), 0, 12, 0, .ro, fun _ => 0⟩

/-- R678 (spec/18): Per R663 -/
def DSK_SENS_CFG_K : Field := ⟨63, .dsk, 4096, [(4, 256)], (0, 1), 0, 4, 0, .rw, fun _ => 4⟩

/-- R678 (spec/18): Per R663 -/
def DSK_SENS_CFG_MED : Field := ⟨64, .dsk, 4096, [(4, 256)], (0, 1), 4, 1, 0, .rw, fun _ => 1⟩

/-- R678 (spec/18): Filtered value -/
def DSK_SENS_VAL : Field := ⟨65, .dsk, 5120, [(4, 256)], (0, 1), 0, 16, 0, .ro, fun _ => 0⟩

/-- R678 (spec/18): Per R663 -/
def DSK_SENS_FAULT : Field := ⟨66, .dsk, 5120, [(4, 256)], (0, 1), 16, 1, 0, .ro, fun _ => 0⟩

/-- R678 (spec/18): Per R665 -/
def DSK_SENS_HIST_MAX : Field := ⟨67, .dsk, 6144, [(4, 256)], (0, 1), 0, 16, 0, .ro, fun _ => 0⟩

/-- R678 (spec/18): Per R665 -/
def DSK_SENS_HIST_MIN : Field := ⟨68, .dsk, 6144, [(4, 256)], (0, 1), 16, 16, 0, .ro, fun _ => 0⟩

/-- R678 (spec/18): Policy entry e (R667, R668) -/
def DSK_POL_COND_SRC : Field := ⟨69, .dsk, 8192, [(8, 64)], (0, 1), 0, 9, 0, .rw, fun _ => 0⟩

/-- R678 (spec/18): Policy entry e (R667, R668) -/
def DSK_POL_COND_CMP : Field := ⟨70, .dsk, 8192, [(8, 64)], (0, 1), 9, 2, 0, .rw, fun _ => 0⟩

/-- R678 (spec/18): Policy entry e (R667, R668) -/
def DSK_POL_COND_EN : Field := ⟨71, .dsk, 8192, [(8, 64)], (0, 1), 11, 1, 0, .rw, fun _ => 0⟩

/-- R678 (spec/18): Policy entry e (R667, R668) -/
def DSK_POL_COND_THRESH : Field := ⟨72, .dsk, 8192, [(8, 64)], (0, 1), 12, 16, 0, .rw, fun _ => 0⟩

/-- R678 (spec/18): Policy entry e (R667, R668) -/
def DSK_POL_ACT_KIND : Field := ⟨73, .dsk, 8196, [(8, 64)], (0, 1), 0, 4, 0, .rw, fun _ => 0⟩

/-- R678 (spec/18): Policy entry e (R667, R668) -/
def DSK_POL_ACT_TARGET : Field := ⟨74, .dsk, 8196, [(8, 64)], (0, 1), 4, 7, 0, .rw, fun _ => 0⟩

/-- R678 (spec/18): Policy entry e (R667, R668) -/
def DSK_POL_ACT_LEVEL : Field := ⟨75, .dsk, 8196, [(8, 64)], (0, 1), 11, 2, 0, .rw, fun _ => 0⟩

/-- R678 (spec/18): Policy entry e (R667, R668) -/
def DSK_POL_ACT_HYST : Field := ⟨76, .dsk, 8196, [(8, 64)], (0, 1), 16, 16, 0, .rw, fun _ => 0⟩

/-- R587 (spec/15): Word of Dusk patch RAM -/
def CTL_DPATCH_RAM_W : Field := ⟨77, .dbg, 25600, [(4, 256)], (0, 1), 0, 32, 0, .rw, fun _ => 0⟩

/-- R730 (spec/21): power-on reset is asserted -/
def POR_HELD : Field := ⟨78, .internal, 0, [], (0, 1), 0, 1, 0, .hidden, fun _ => 0⟩

/-- R57 (spec/02): the SYNCROLE strap as sampled -/
def STRAP_SYNCROLE : Field := ⟨79, .internal, 0, [], (0, 1), 0, 1, 0, .hidden, fun _ => 0⟩

/-- R569 (spec/15): level granted in the current session -/
def DBG_GRANTED : Field := ⟨80, .internal, 0, [], (0, 1), 0, 2, 0, .hidden, fun _ => 0⟩

/-- R572 (spec/15): the grant exchange is locked out -/
def DBG_LOCKED : Field := ⟨81, .internal, 0, [], (0, 1), 0, 1, 0, .hidden, fun _ => 0⟩

/-- R656 (spec/18): the power-down of domain d has reached its commit point -/
def PW_COMMIT : Field := ⟨82, .internal, 0, [], (0, 1), 0, 1, 0, .hidden, fun _ => 0⟩

/-- R656 (spec/18): an on request of domain d waits for its power-down to end -/
def PW_WAKE : Field := ⟨83, .internal, 0, [], (0, 1), 0, 1, 0, .hidden, fun _ => 0⟩

/-- R656 (spec/18): a force waits for the wake of domain d to end -/
def PW_FPEND : Field := ⟨84, .internal, 0, [], (0, 1), 0, 1, 0, .hidden, fun _ => 0⟩

/-- R657 (spec/18): what forces domain d off: bit 0 the key sequence, bit 1 the thermal stop -/
def PW_FORCE : Field := ⟨85, .internal, 0, [], (0, 1), 0, 2, 0, .hidden, fun _ => 0⟩

/-- R654 (spec/18): the operation of the slot: 1 off, 2 on -/
def PW_SLOT : Field := ⟨86, .internal, 0, [], (0, 1), 0, 2, 0, .hidden, fun _ => 0⟩

/-- R663 (spec/18): samples of sensor s taken, to 3 -/
def SENS_N : Field := ⟨87, .internal, 0, [], (0, 1), 0, 2, 0, .hidden, fun _ => 0⟩

/-- R663 (spec/18): its latest raw sample -/
def SENS_R1 : Field := ⟨88, .internal, 0, [], (0, 1), 0, 16, 0, .hidden, fun _ => 0⟩

/-- R663 (spec/18): the one before -/
def SENS_R2 : Field := ⟨89, .internal, 0, [], (0, 1), 0, 16, 0, .hidden, fun _ => 0⟩

/-- R663 (spec/18): it has raised SENSOR_FAULT -/
def SENS_FEV : Field := ⟨90, .internal, 0, [], (0, 1), 0, 1, 0, .hidden, fun _ => 0⟩

/-- R668 (spec/18): policy entry e is active -/
def POL_ACTIVE : Field := ⟨91, .internal, 0, [], (0, 1), 0, 1, 0, .hidden, fun _ => 0⟩

/-- R668 (spec/18): the policy engine has interrupted Dusk firmware -/
def DUSK_INT : Field := ⟨92, .internal, 0, [], (0, 1), 0, 1, 0, .hidden, fun _ => 0⟩

/-- R672 (spec/18): bit d: the zone of die d exceeds 100 degrees -/
def THERM_RNG : Field := ⟨93, .internal, 0, [], (0, 1), 0, 12, 0, .hidden, fun _ => 0⟩

/-- R674 (spec/18): time of the last trip -/
def TRIP_T : Field := ⟨94, .internal, 0, [], (0, 1), 0, 64, 0, .hidden, fun _ => 0⟩

/-- R674 (spec/18): the device reset of the last trip has been made -/
def TRIP_OVER : Field := ⟨95, .internal, 0, [], (0, 1), 0, 1, 0, .hidden, fun _ => 0⟩

/-- R675 (spec/18): ALERTn is asserted -/
def ALERT : Field := ⟨96, .internal, 0, [], (0, 1), 0, 1, 0, .hidden, fun _ => 0⟩

/-- R666 (spec/18): the channel the ADC looks at next -/
def ADC_NEXT : Field := ⟨97, .internal, 0, [], (0, 1), 0, 4, 0, .hidden, fun _ => 0⟩

/-- R543 (spec/17): firmware and image changes so far, which the measurements depend on -/
def FW_COUNT : Field := ⟨98, .internal, 0, [], (0, 1), 0, 32, 0, .hidden, fun _ => 0⟩

/-- R608 (spec/16): the NVM bank in force of firmware n: 0 Sage, 1 Dusk -/
def FW_SEL : Field := ⟨99, .internal, 0, [], (0, 1), 0, 1, 0, .hidden, fun _ => 0⟩

/-- R263 (spec/07): the PRECFG_PU strap as sampled: timed I/O pins pull up before their configuration -/
def STRAP_PRECFG_PU : Field := ⟨100, .internal, 0, [], (0, 1), 0, 1, 0, .hidden, fun _ => 0⟩

/-- R509 (spec/13): times the LPDDR5X contents have been lost by a reset of the DRAM -/
def DRAM_GEN : Field := ⟨101, .internal, 0, [], (0, 1), 0, 64, 0, .hidden, fun _ => 0⟩

/-- R744 (spec/21): the JTAG instruction: 0 IDCODE, 1 BYPASS, 2 SAMPLE/PRELOAD, 3 EXTEST, 4 EXTEST_PULSE, 5 EXTEST_TRAIN, 6 CLAMP, 7 HIGHZ -/
def JTAG_IR : Field := ⟨102, .internal, 0, [], (0, 1), 0, 3, 0, .hidden, fun _ => 0⟩

/-- R744 (spec/21): the boundary register: what was last loaded, one bit per cell -/
def JTAG_BSR : Field := ⟨103, .internal, 0, [], (0, 1), 0, 4096, 0, .hidden, fun _ => 0⟩

/-- R547 (spec/14): 1 while the link is in L0 or L0p -/
def PCI_STAT_LINK_UP : Field := ⟨104, .pci, 0, [], (0, 1), 0, 1, 0, .ro, fun _ => 0⟩

/-- R547 (spec/14): 0 2.5 to 5 64.0 GT/s -/
def PCI_STAT_RATE : Field := ⟨105, .pci, 0, [], (0, 1), 1, 3, 0, .ro, fun _ => 0⟩

/-- R547 (spec/14): Lanes in use -/
def PCI_STAT_WIDTH : Field := ⟨106, .pci, 0, [], (0, 1), 4, 5, 0, .ro, fun _ => 0⟩

/-- R547 (spec/14): 1 in Flit mode -/
def PCI_STAT_FLIT : Field := ⟨107, .pci, 0, [], (0, 1), 9, 1, 0, .ro, fun _ => 0⟩

/-- R547 (spec/14): Window 0 base bits [47:32] -/
def PCI_WIN0_BASE : Field := ⟨108, .pci, 4, [], (0, 1), 0, 16, 0, .rw, fun _ => 0⟩

/-- R547 (spec/14): Window 1 base bits [47:32] -/
def PCI_WIN1_BASE : Field := ⟨109, .pci, 8, [], (0, 1), 0, 16, 0, .rw, fun _ => 0⟩

/-- R547 (spec/14): Bit v: doorbell of VF v -/
def PCI_DB_VF : Field := ⟨110, .pci, 16, [], (0, 1), 0, 32, 0, .w1c, fun _ => 0⟩

/-- R547 (spec/14): Doorbell of PF1 -/
def PCI_DB_PF1 : Field := ⟨111, .pci, 20, [], (0, 1), 0, 1, 0, .w1c, fun _ => 0⟩

/-- R547 (spec/14): Function index -/
def PCI_MSIX_TRIG_FUNC : Field := ⟨112, .pci, 32, [], (0, 1), 0, 6, 0, .wo, fun _ => 0⟩

/-- R547 (spec/14): Vector -/
def PCI_MSIX_TRIG_VEC : Field := ⟨113, .pci, 32, [], (0, 1), 8, 6, 0, .wo, fun _ => 0⟩

/-- R547 (spec/14): VF window base bits [47:28]; not reset by FLR -/
def PCI_VFWIN_BASE : Field := ⟨114, .pci, 256, [(4, 32)], (0, 1), 0, 20, 0, .rw, fun _ => 0⟩

/-- R547 (spec/14): Message bytes, 1 to 4,096 -/
def PCI_MBX_H2D_LEN : Field := ⟨115, .pci, 4096, [], (0, 1), 0, 13, 0, .rw, fun _ => 0⟩

/-- R547 (spec/14): Per R538 -/
def PCI_MBX_H2D_FULL : Field := ⟨116, .pci, 4096, [], (0, 1), 16, 1, 0, .w1c, fun _ => 0⟩

/-- R547 (spec/14): Per R538 -/
def PCI_MBX_H2D_REJ : Field := ⟨117, .pci, 4096, [], (0, 1), 17, 1, 0, .w1c, fun _ => 0⟩

/-- R547 (spec/14): The same fields, device to host -/
def PCI_MBX_D2H_LEN : Field := ⟨118, .pci, 4100, [], (0, 1), 0, 13, 0, .rw, fun _ => 0⟩

/-- R547 (spec/14): Debug module register -/
def PCI_DBG_REQ_ADDR : Field := ⟨119, .pci, 16384, [], (0, 1), 0, 7, 0, .rw, fun _ => 0⟩

/-- R547 (spec/14): 0 none, 1 read, 2 write; 3 acts as 0 -/
def PCI_DBG_REQ_OP : Field := ⟨120, .pci, 16384, [], (0, 1), 8, 2, 0, .rw, fun _ => 0⟩

/-- R547 (spec/14): Peek attribute -/
def PCI_DBG_REQ_PEEK : Field := ⟨121, .pci, 16384, [], (0, 1), 10, 1, 0, .rw, fun _ => 0⟩

/-- R547 (spec/14): 1 sends the request -/
def PCI_DBG_REQ_GO : Field := ⟨122, .pci, 16384, [], (0, 1), 31, 1, 0, .wo, fun _ => 0⟩

/-- R547 (spec/14): Write data -/
def PCI_DBG_DATA_V : Field := ⟨123, .pci, 16388, [], (0, 1), 0, 32, 0, .rw, fun _ => 0⟩

/-- R547 (spec/14): 0 OK, 1 refused at this level, 2 BUSY; 3 never shown -/
def PCI_DBG_RSP_RESULT : Field := ⟨124, .pci, 16392, [], (0, 1), 0, 2, 0, .ro, fun _ => 0⟩

/-- R547 (spec/14): Response present -/
def PCI_DBG_RSP_DONE : Field := ⟨125, .pci, 16392, [], (0, 1), 8, 1, 0, .w1c, fun _ => 0⟩

/-- R547 (spec/14): Read data -/
def PCI_DBG_RDATA_V : Field := ⟨126, .pci, 16396, [], (0, 1), 0, 32, 0, .ro, fun _ => 0⟩

/-- R547 (spec/14): Stream address bits [31:0] (LO and HI registers as one value) -/
def PCI_STAGE_ADDR_ADDR : Field := ⟨127, .pci, 20480, [], (0, 1), 0, 48, 0, .rw, fun _ => 0⟩

/-- R547 (spec/14): Stream length -/
def PCI_STAGE_LEN_BYTES : Field := ⟨128, .pci, 20488, [], (0, 1), 0, 32, 0, .rw, fun _ => 0⟩

/-- R547 (spec/14): 0 full, 1 partial -/
def PCI_STAGE_CTL_KIND : Field := ⟨129, .pci, 20492, [], (0, 1), 0, 1, 0, .rw, fun _ => 0⟩

/-- R547 (spec/14): Per R544 -/
def PCI_STAGE_CTL_GO : Field := ⟨130, .pci, 20492, [], (0, 1), 1, 1, 0, .wo, fun _ => 0⟩

/-- R547 (spec/14): Aborts, per the commit point rule -/
def PCI_STAGE_CTL_ABORT : Field := ⟨131, .pci, 20492, [], (0, 1), 2, 1, 0, .wo, fun _ => 0⟩

/-- R547 (spec/14): Per R39 -/
def PCI_STAGE_STAT_STATE : Field := ⟨132, .pci, 20496, [], (0, 1), 0, 3, 0, .ro, fun _ => 0⟩

/-- R547 (spec/14): Per R39 -/
def PCI_STAGE_STAT_ABORT_LATE : Field := ⟨133, .pci, 20496, [], (0, 1), 3, 1, 0, .ro, fun _ => 0⟩

/-- R547 (spec/14): Dawn's result code -/
def PCI_STAGE_STAT_CODE : Field := ⟨134, .pci, 20496, [], (0, 1), 8, 8, 0, .ro, fun _ => 0⟩

/-- R548 (spec/14): Host address bits [31:0] (LO and HI registers as one value) -/
def PCI_DMA_HOST_ADDR : Field := ⟨135, .pci, 24576, [(64, 8)], (0, 1), 0, 64, 0, .rw, fun _ => 0⟩

/-- R548 (spec/14): Device address bits [31:0] (LO and HI registers as one value) -/
def PCI_DMA_LOCAL_ADDR : Field := ⟨136, .pci, 24584, [(64, 8)], (0, 1), 0, 48, 0, .rw, fun _ => 0⟩

/-- R548 (spec/14): Bytes to copy -/
def PCI_DMA_LEN_BYTES : Field := ⟨137, .pci, 24592, [(64, 8)], (0, 1), 0, 32, 0, .rw, fun _ => 0⟩

/-- R548 (spec/14): Per R533 -/
def PCI_DMA_CFG_DIR : Field := ⟨138, .pci, 24596, [(64, 8)], (0, 1), 0, 1, 0, .rw, fun _ => 0⟩

/-- R548 (spec/14): Function index -/
def PCI_DMA_CFG_FUNC : Field := ⟨139, .pci, 24596, [(64, 8)], (0, 1), 1, 6, 0, .rw, fun _ => 1⟩

/-- R548 (spec/14): MSI-X vector -/
def PCI_DMA_CFG_VEC : Field := ⟨140, .pci, 24596, [(64, 8)], (0, 1), 7, 6, 0, .rw, fun _ => 0⟩

/-- R548 (spec/14): 1 signals VEC at the end -/
def PCI_DMA_CFG_IRQ : Field := ⟨141, .pci, 24596, [(64, 8)], (0, 1), 13, 1, 0, .rw, fun _ => 0⟩

/-- R548 (spec/14): Device-side priority -/
def PCI_DMA_CFG_PRIO : Field := ⟨142, .pci, 24596, [(64, 8)], (0, 1), 14, 3, 0, .rw, fun _ => 4⟩

/-- R548 (spec/14): Per R533 -/
def PCI_DMA_CTL_START : Field := ⟨143, .pci, 24600, [(64, 8)], (0, 1), 0, 1, 0, .wo, fun _ => 0⟩

/-- R548 (spec/14): Per R535 -/
def PCI_DMA_CTL_STOP : Field := ⟨144, .pci, 24600, [(64, 8)], (0, 1), 1, 1, 0, .wo, fun _ => 0⟩

/-- R548 (spec/14): 0 IDLE, 1 BUSY, 2 DONE, 4 FAILED, 6 STOPPED -/
def PCI_DMA_STAT_STATE : Field := ⟨145, .pci, 24604, [(64, 8)], (0, 1), 0, 3, 0, .ro, fun _ => 0⟩

/-- R548 (spec/14): Per R533, R534 -/
def PCI_DMA_STAT_ERR : Field := ⟨146, .pci, 24604, [(64, 8)], (0, 1), 4, 3, 0, .ro, fun _ => 0⟩

/-- R548 (spec/14): Per R534 -/
def PCI_DMA_DONE_BYTES : Field := ⟨147, .pci, 24608, [(64, 8)], (0, 1), 0, 32, 0, .ro, fun _ => 0⟩

/-- R547 (spec/14): Message bytes, host to device -/
def PCI_BUF_H2D : Field := ⟨148, .pci, 8192, [(4, 1024)], (0, 1), 0, 32, 0, .rw, fun _ => 0⟩

/-- R547 (spec/14): Message bytes, device to host -/
def PCI_BUF_D2H : Field := ⟨149, .pci, 12288, [(4, 1024)], (0, 1), 0, 32, 0, .rw, fun _ => 0⟩

/-- R547 (spec/14): Per R538 -/
def PCI_MBX_D2H_FULL : Field := ⟨150, .pci, 4100, [], (0, 1), 16, 1, 0, .w1c, fun _ => 0⟩

/-- R547 (spec/14): Per R538 -/
def PCI_MBX_D2H_REJ : Field := ⟨151, .pci, 4100, [], (0, 1), 17, 1, 0, .w1c, fun _ => 0⟩

/-- R17 (spec/01): Device ID 0 to 63 within the system; loaded by Dawn from the stream he -/
def DEV_SYSID_ID : Field := ⟨152, .dev, 20, [], (0, 1), 0, 6, 0, .rw, fun _ => 0⟩

/-- R29 (spec/01): Ring base address bits [31:5]; bits [4:0] are 0 (LO and HI registers as one value) -/
def DEV_RING_BASE : Field := ⟨153, .dev, 512, [], (0, 1), 0, 48, 5, .rw, fun _ => 0⟩

/-- R29 (spec/01): 1 enables writing records to the ring -/
def DEV_RING_EN : Field := ⟨154, .dev, 520, [], (0, 1), 0, 1, 0, .rw, fun _ => 0⟩

/-- R29 (spec/01): Ring holds 2^LOG2N records; legal 6 to 20, other values act as 20 -/
def DEV_RING_LOG2N : Field := ⟨155, .dev, 520, [], (0, 1), 8, 5, 0, .rw, fun _ => 10⟩

/-- R29 (spec/01): Index of the next record the collector writes -/
def DEV_RING_WP : Field := ⟨156, .dev, 524, [], (0, 1), 0, 20, 0, .ro, fun _ => 0⟩

/-- R29 (spec/01): Index of the next record software reads; a write stores the written va -/
def DEV_RING_RP : Field := ⟨157, .dev, 528, [], (0, 1), 0, 20, 0, .rw, fun _ => 0⟩

/-- R29 (spec/01): Records discarded because the ring was full or EN was 0; saturates at -/
def DEV_RING_DROPS : Field := ⟨158, .dev, 532, [], (0, 1), 0, 16, 0, .ro, fun _ => 0⟩

/-- R29 (spec/01): Set when a record is discarded -/
def DEV_RING_OVF : Field := ⟨159, .dev, 532, [], (0, 1), 16, 1, 0, .w1c, fun _ => 0⟩

/-- R34 (spec/01): 1 device reset, 2 warm fabric reset; 0 and 3 do nothing -/
def DEV_RST_CLASS : Field := ⟨160, .dev, 256, [], (0, 1), 0, 2, 0, .wo, fun _ => 0⟩

/-- R34 (spec/01): Must be 0xA11C in the same write for CLASS to act; otherwise the write -/
def DEV_RST_KEY : Field := ⟨161, .dev, 256, [], (0, 1), 16, 16, 0, .wo, fun _ => 0⟩

/-- R46 (spec/01): Package feature level per R41 -/
def DEV_FEAT_PKG_FLEVEL : Field := ⟨162, .dev, 16, [], (0, 1), 0, 8, 0, .ro, fun _ => 3⟩

/-- R46 (spec/01): Minimum level declared by the stream in effect; 0 before a stream take -/
def DEV_FEAT_STREAM_MIN : Field := ⟨163, .dev, 16, [], (0, 1), 8, 8, 0, .ro, fun _ => 0⟩

/-- R79 (spec/02): 0 follower, 1 master, 2 standalone; 3 acts as 2 -/
def TBS_SYNC_CTL_ROLE : Field := ⟨164, .tbs, 32, [], (0, 1), 0, 2, 0, .rw, fun _ => 0⟩

/-- R79 (spec/02): Master only: 1 drives TSYNC_OUT, 0 holds it high-impedance -/
def TBS_SYNC_CTL_OUT_EN : Field := ⟨165, .tbs, 32, [], (0, 1), 2, 1, 0, .rw, fun _ => 1⟩

/-- R79 (spec/02): 1 enables the 100 Ω TSYNC_IN termination -/
def TBS_SYNC_CTL_TERM : Field := ⟨166, .tbs, 32, [], (0, 1), 3, 1, 0, .rw, fun _ => 1⟩

/-- R79 (spec/02): 1 permits steps beyond the first (R75) -/
def TBS_SYNC_CTL_STEP_OK : Field := ⟨167, .tbs, 32, [], (0, 1), 4, 1, 0, .rw, fun _ => 0⟩

/-- R79 (spec/02): 1 permits one step while STEP_NEEDED is set; ignored otherwise -/
def TBS_SYNC_CTL_STEP_NOW : Field := ⟨168, .tbs, 32, [], (0, 1), 5, 1, 0, .wo, fun _ => 0⟩

/-- R79 (spec/02): 1 applies `TBS_SETTIME` (R56) -/
def TBS_SYNC_CTL_SET_TIME : Field := ⟨169, .tbs, 32, [], (0, 1), 6, 1, 0, .wo, fun _ => 0⟩

/-- R80 (spec/02): Good frames to leave ACQUIRE or HOLDOVER; 0 acts as 1 -/
def TBS_SYNC_CFG_ACQ_FRAMES : Field := ⟨170, .tbs, 36, [], (0, 1), 0, 8, 0, .rw, fun _ => 8⟩

/-- R80 (spec/02): Frame periods without a good frame before loss; 0 acts as 1 -/
def TBS_SYNC_CFG_LOSS_FRAMES : Field := ⟨171, .tbs, 36, [], (0, 1), 8, 8, 0, .rw, fun _ => 16⟩

/-- R80 (spec/02): Frames within ±4 ticks to enter LOCKED; 0 acts as 1 -/
def TBS_SYNC_CFG_LOCK_FRAMES : Field := ⟨172, .tbs, 36, [], (0, 1), 16, 16, 0, .rw, fun _ => 1024⟩

/-- R81 (spec/02): State per R66 -/
def TBS_SYNC_STAT_SYNC_STATE : Field := ⟨173, .tbs, 40, [], (0, 1), 0, 3, 0, .ro, fun _ => 0⟩

/-- R81 (spec/02): 1 while TREF is present and within ±100 ppm -/
def TBS_SYNC_STAT_TREF_OK : Field := ⟨174, .tbs, 40, [], (0, 1), 3, 1, 0, .ro, fun _ => 0⟩

/-- R81 (spec/02): 1 while the master time PLL is locked -/
def TBS_SYNC_STAT_PLL_LOCK : Field := ⟨175, .tbs, 40, [], (0, 1), 4, 1, 0, .ro, fun _ => 0⟩

/-- R81 (spec/02): Set per R75; cleared by the step or by entry to FREE -/
def TBS_SYNC_STAT_STEP_NEEDED : Field := ⟨176, .tbs, 40, [], (0, 1), 5, 1, 0, .ro, fun _ => 0⟩

/-- R81 (spec/02): Master ID from the last good frame; own ID in a master -/
def TBS_SYNC_STAT_MASTER_ID : Field := ⟨177, .tbs, 40, [], (0, 1), 6, 6, 0, .ro, fun _ => 0⟩

/-- R81 (spec/02): 1 while a slew is in progress -/
def TBS_SYNC_STAT_SLEWING : Field := ⟨178, .tbs, 40, [], (0, 1), 12, 1, 0, .ro, fun _ => 0⟩

/-- R82 (spec/02): Path delay in ticks (R64) -/
def TBS_CABLE_DLY_DLY : Field := ⟨179, .tbs, 44, [], (0, 1), 0, 24, 0, .rw, fun _ => 0⟩

/-- R82 (spec/02): Last e in ticks, two's complement, saturating at ±2³¹ − 1 -/
def TBS_PHASE_ERR_ERR : Field := ⟨180, .tbs, 48, [], (0, 1), 0, 32, 0, .ro, fun _ => 0⟩

/-- R82 (spec/02): Current rate correction, two's complement, units of 2⁻³² tick per time -/
def TBS_RATE_RATE : Field := ⟨181, .tbs, 52, [], (0, 1), 0, 32, 0, .ro, fun _ => 0⟩

/-- R82 (spec/02): Frame periods since entering HOLDOVER, saturating; cleared on leaving -/
def TBS_HOLD_FRAMES : Field := ⟨182, .tbs, 56, [], (0, 1), 0, 32, 0, .ro, fun _ => 0⟩

/-- R82 (spec/02): Threshold for HOLDOVER_LIMIT; 0 disables -/
def TBS_HOLD_LIMIT_LIMIT : Field := ⟨183, .tbs, 60, [], (0, 1), 0, 32, 0, .rw, fun _ => 0⟩

/-- R82 (spec/02): CRC failures, saturating; a read with peek clear clears CRC and SYMBOL -/
def TBS_SYNC_ERRS_CRC : Field := ⟨184, .tbs, 64, [], (0, 1), 0, 16, 0, .rc, fun _ => 0⟩

/-- R82 (spec/02): Frames failing other checks of R62, saturating -/
def TBS_SYNC_ERRS_SYMBOL : Field := ⟨185, .tbs, 64, [], (0, 1), 16, 16, 0, .rc, fun _ => 0⟩

/-- R82 (spec/02): Bit n is 1 while die index n is within its deskew range -/
def TBS_DIE_STAT_ALIGNED : Field := ⟨186, .tbs, 68, [], (0, 1), 0, 12, 0, .ro, fun _ => 0⟩

/-- R82 (spec/02): Bit 16 + n set when die index n raised DIE_TIME_FAULT -/
def TBS_DIE_STAT_FAULT : Field := ⟨187, .tbs, 68, [], (0, 1), 16, 12, 0, .w1c, fun _ => 0⟩

/-- R88 (spec/02): FD carrying the source generator -/
def TBS_PWCLK_SRC_FD : Field := ⟨188, .tbs, 80, [(4, 4)], (0, 1), 0, 3, 0, .rw, fun _ => 0⟩

/-- R88 (spec/02): Generator 0 to 7 on that FD -/
def TBS_PWCLK_SRC_GEN : Field := ⟨189, .tbs, 80, [(4, 4)], (0, 1), 3, 3, 0, .rw, fun _ => 0⟩

/-- R88 (spec/02): 1 drives PWn; 0 holds PWn low -/
def TBS_PWCLK_SRC_EN : Field := ⟨190, .tbs, 80, [(4, 4)], (0, 1), 7, 1, 0, .rw, fun _ => 0⟩

/-- R89 (spec/02): Integer multiplier -/
def FAB_CG_CFG_N : Field := ⟨191, .cg, 0, [(256, 8)], (0, 1), 0, 5, 0, .rw, fun _ => 16⟩

/-- R89 (spec/02): Output divider -/
def FAB_CG_CFG_D : Field := ⟨192, .cg, 0, [(256, 8)], (0, 1), 8, 7, 0, .rw, fun _ => 4⟩

/-- R89 (spec/02): Fractional multiplier -/
def FAB_CG_FRAC_F : Field := ⟨193, .cg, 4, [(256, 8)], (0, 1), 0, 24, 0, .rw, fun _ => 0⟩

/-- R89 (spec/02): 1 runs the generator; 0 stops its output low -/
def FAB_CG_CTL_EN : Field := ⟨194, .cg, 8, [(256, 8)], (0, 1), 0, 1, 0, .rw, fun _ => 0⟩

/-- R89 (spec/02): Edge alignment per R86 -/
def FAB_CG_CTL_ALIGN : Field := ⟨195, .cg, 8, [(256, 8)], (0, 1), 1, 1, 0, .rw, fun _ => 0⟩

/-- R89 (spec/02): 1 starts a retune -/
def FAB_CG_CTL_APPLY : Field := ⟨196, .cg, 8, [(256, 8)], (0, 1), 2, 1, 0, .wo, fun _ => 0⟩

/-- R89 (spec/02): 1 aborts a retune -/
def FAB_CG_CTL_ABORT : Field := ⟨197, .cg, 8, [(256, 8)], (0, 1), 3, 1, 0, .wo, fun _ => 0⟩

/-- R89 (spec/02): Apply time bits [31:0] (LO and HI registers as one value) -/
def FAB_CG_AT_AT : Field := ⟨198, .cg, 12, [(256, 8)], (0, 1), 0, 64, 0, .rw, fun _ => 0⟩

/-- R89 (spec/02): Per R39 -/
def FAB_CG_STAT_STATE : Field := ⟨199, .cg, 20, [(256, 8)], (0, 1), 0, 3, 0, .ro, fun _ => 0⟩

/-- R89 (spec/02): Per R39 -/
def FAB_CG_STAT_ABORT_LATE : Field := ⟨200, .cg, 20, [(256, 8)], (0, 1), 3, 1, 0, .ro, fun _ => 0⟩

/-- R89 (spec/02): 1 while the PLL is locked and the output runs -/
def FAB_CG_STAT_LOCK : Field := ⟨201, .cg, 20, [(256, 8)], (0, 1), 4, 1, 0, .ro, fun _ => 0⟩

/-- R89 (spec/02): Per R86 -/
def FAB_CG_STAT_ALIGNED : Field := ⟨202, .cg, 20, [(256, 8)], (0, 1), 5, 1, 0, .ro, fun _ => 0⟩

/-- R89 (spec/02): Active N -/
def FAB_CG_ACT_N : Field := ⟨203, .cg, 24, [(256, 8)], (0, 1), 0, 5, 0, .ro, fun _ => 16⟩

/-- R89 (spec/02): Active D -/
def FAB_CG_ACT_D : Field := ⟨204, .cg, 24, [(256, 8)], (0, 1), 8, 7, 0, .ro, fun _ => 4⟩

/-- R89 (spec/02): Active ALIGN -/
def FAB_CG_ACT_ALIGN : Field := ⟨205, .cg, 24, [(256, 8)], (0, 1), 16, 1, 0, .ro, fun _ => 0⟩

/-- R89 (spec/02): Active F -/
def FAB_CG_ACTF_F : Field := ⟨206, .cg, 28, [(256, 8)], (0, 1), 0, 24, 0, .ro, fun _ => 0⟩

/-- R118 (spec/03): Write collisions per R113, saturating at 65,535 -/
def FAB_RAM_STAT_COLL : Field := ⟨207, .rgn, 2048, [(4, 4)], (0, 1), 0, 16, 0, .rc, fun _ => 0⟩

/-- R118 (spec/03): Corrected reads, saturating at 255 -/
def FAB_RAM_STAT_CE_CNT : Field := ⟨208, .rgn, 2048, [(4, 4)], (0, 1), 16, 8, 0, .rc, fun _ => 0⟩

/-- R118 (spec/03): Set by any uncorrectable read -/
def FAB_RAM_STAT_UE : Field := ⟨209, .rgn, 2048, [(4, 4)], (0, 1), 24, 1, 0, .rc, fun _ => 0⟩

/-- R119 (spec/03): Word address of the most recent CE or UE read -/
def FAB_RAM_EADDR_ADDR : Field := ⟨210, .rgn, 2064, [(4, 4)], (0, 1), 0, 10, 0, .ro, fun _ => 0⟩

/-- R119 (spec/03): 0 port A, 1 port B -/
def FAB_RAM_EADDR_PORT : Field := ⟨211, .rgn, 2064, [(4, 4)], (0, 1), 10, 1, 0, .ro, fun _ => 0⟩

/-- R128 (spec/03): Frequency in MHz; values outside 20 to 800 act as the nearer limit -/
def FAB_RO_CTL_FREQ : Field := ⟨212, .ro, 0, [(32, 8)], (0, 1), 0, 10, 0, .rw, fun _ => 100⟩

/-- R128 (spec/03): 1 runs the oscillator; 0 stops it and freezes its count -/
def FAB_RO_CTL_EN : Field := ⟨213, .ro, 0, [(32, 8)], (0, 1), 12, 1, 0, .rw, fun _ => 0⟩

/-- R128 (spec/03): 1 starts a trim per R127; ignored while EN is 0 -/
def FAB_RO_CTL_TRIM : Field := ⟨214, .ro, 0, [(32, 8)], (0, 1), 13, 1, 0, .wo, fun _ => 0⟩

/-- R128 (spec/03): 1 aborts a trim -/
def FAB_RO_CTL_ABORT : Field := ⟨215, .ro, 0, [(32, 8)], (0, 1), 14, 1, 0, .wo, fun _ => 0⟩

/-- R128 (spec/03): Trim code in force; a write during a trim is ignored -/
def FAB_RO_TRIM_CODE : Field := ⟨216, .ro, 4, [(32, 8)], (0, 1), 0, 12, 0, .rw, fun _ => 2048⟩

/-- R128 (spec/03): Per R39 -/
def FAB_RO_STAT_STATE : Field := ⟨217, .ro, 8, [(32, 8)], (0, 1), 0, 3, 0, .ro, fun _ => 0⟩

/-- R128 (spec/03): Per R39 -/
def FAB_RO_STAT_ABORT_LATE : Field := ⟨218, .ro, 8, [(32, 8)], (0, 1), 3, 1, 0, .ro, fun _ => 0⟩

/-- R128 (spec/03): Oscillator cycles since EN was last set, wrapping -/
def FAB_RO_COUNT_COUNT : Field := ⟨219, .ro, 12, [(32, 8)], (0, 1), 0, 32, 0, .ro, fun _ => 0⟩

/-- R135 (spec/03): Writes buffered or in progress, 0 to 4 -/
def FAB_NVM_STAT_PEND : Field := ⟨220, .nvmc, 0, [], (0, 1), 0, 3, 0, .ro, fun _ => 0⟩

/-- R135 (spec/03): Set when a write to a protected word is discarded -/
def FAB_NVM_STAT_WP_HIT : Field := ⟨221, .nvmc, 0, [], (0, 1), 4, 1, 0, .w1c, fun _ => 0⟩

/-- R135 (spec/03): 1 after the lock sequence -/
def FAB_NVM_STAT_LOCKED : Field := ⟨222, .nvmc, 0, [], (0, 1), 5, 1, 0, .ro, fun _ => 0⟩

/-- R135 (spec/03): Words with address below BOUND are write-protected; values above 32,76 -/
def FAB_NVM_WP_BOUND : Field := ⟨223, .nvmc, 4, [], (0, 1), 0, 16, 0, .rwl, fun _ => 0⟩

/-- R135 (spec/03): Lock sequence per R136 -/
def FAB_NVM_LOCK_KEY : Field := ⟨224, .nvmc, 8, [], (0, 1), 0, 16, 0, .wo, fun _ => 0⟩

/-- R137 (spec/03): 0 off; 1 UART; 2 SPI controller; 3 SPI target; 4 I²C controller; 5 I²C -/
def FAB_SP_CTL_MODE : Field := ⟨225, .sp, 0, [(4096, 8)], (0, 1), 0, 3, 0, .rw, fun _ => 0⟩

/-- R137 (spec/03): 0 lines to region 24 × p; 1 lines to service pins -/
def FAB_SP_CTL_ROUTE : Field := ⟨226, .sp, 0, [(4096, 8)], (0, 1), 3, 1, 0, .rw, fun _ => 0⟩

/-- R137 (spec/03): SPI mode 0 to 3 (CPOL, CPHA) -/
def FAB_SP_CTL_SPIMODE : Field := ⟨227, .sp, 0, [(4096, 8)], (0, 1), 4, 2, 0, .rw, fun _ => 0⟩

/-- R137 (spec/03): UART: 0 none, 1 even, 2 odd, 3 acts as 0 -/
def FAB_SP_CTL_PARITY : Field := ⟨228, .sp, 0, [(4096, 8)], (0, 1), 6, 2, 0, .rw, fun _ => 0⟩

/-- R137 (spec/03): UART: 1 sends two stop bits -/
def FAB_SP_CTL_STOP2 : Field := ⟨229, .sp, 0, [(4096, 8)], (0, 1), 8, 1, 0, .rw, fun _ => 0⟩

/-- R137 (spec/03): I²C target: 7-bit address -/
def FAB_SP_CTL_ADDR : Field := ⟨230, .sp, 0, [(4096, 8)], (0, 1), 16, 7, 0, .rw, fun _ => 0⟩

/-- R137 (spec/03): Base clock 256 MHz / (DIV + 1); UART bit rate is base / 16, SPI SCK is -/
def FAB_SP_DIV_DIV : Field := ⟨231, .sp, 4, [(4096, 8)], (0, 1), 0, 16, 0, .rw, fun _ => 255⟩

/-- R137 (spec/03): Read: head of the receive FIFO. Write: pushes a byte to the transmit F -/
def FAB_SP_DATA_BYTE : Field := ⟨232, .sp, 8, [(4096, 8)], (0, 1), 0, 8, 0, .rc, fun _ => 0⟩

/-- R137 (spec/03): 1 when the read found the receive FIFO empty; BYTE is then 0 -/
def FAB_SP_DATA_EMPTY : Field := ⟨233, .sp, 8, [(4096, 8)], (0, 1), 8, 1, 0, .rc, fun _ => 1⟩

/-- R137 (spec/03): Bytes in the receive FIFO, 0 to 64 -/
def FAB_SP_STAT_RXCNT : Field := ⟨234, .sp, 12, [(4096, 8)], (0, 1), 0, 7, 0, .ro, fun _ => 0⟩

/-- R137 (spec/03): Bytes in the transmit FIFO, 0 to 64 -/
def FAB_SP_STAT_TXCNT : Field := ⟨235, .sp, 12, [(4096, 8)], (0, 1), 8, 7, 0, .ro, fun _ => 0⟩

/-- R137 (spec/03): A received byte was discarded because the FIFO was full -/
def FAB_SP_STAT_RXOVF : Field := ⟨236, .sp, 12, [(4096, 8)], (0, 1), 16, 1, 0, .w1c, fun _ => 0⟩

/-- R137 (spec/03): A pushed byte was discarded because the FIFO was full -/
def FAB_SP_STAT_TXOVF : Field := ⟨237, .sp, 12, [(4096, 8)], (0, 1), 17, 1, 0, .w1c, fun _ => 0⟩

end Sys2Proof.Machine.Reg
end

