-- ==== Sys2Proof/Machine/RegsB.lean ====
section
/-!
DEFINITION. The register fields of the spec's register tables, one definition each, part B, and the
model's own scalar state words (access hidden: no address). A field's number is its place in the list;
power-on-class fields come first, then PCIe-hot-class fields, then the rest (R32).
-/

namespace Sys2Proof.Machine.Reg

/-- R137 (spec/03): UART framing or parity error; I²C NACK or lost arbitration -/
def FAB_SP_STAT_LINEERR : Field := ⟨238, .sp, 12, [(4096, 8)], (0, 1), 18, 1, 0, .w1c, fun _ => 0⟩

/-- R137 (spec/03): 1 while a transfer is on the lines -/
def FAB_SP_STAT_BUSY : Field := ⟨239, .sp, 12, [(4096, 8)], (0, 1), 19, 1, 0, .ro, fun _ => 0⟩

/-- R148 (spec/04): 0 to 7: die-local generator G0 to G7 of the region's FD; 8 to 11: PW0 -/
def FAB_RGN_CLK_SEL : Field := ⟨240, .rgn, 0, [], (0, 1), 0, 4, 0, .rw, fun _ => 12⟩

/-- R148 (spec/04): Set when a write of SEL was ignored under R149 -/
def FAB_RGN_CLK_SEL_REJ : Field := ⟨241, .rgn, 0, [], (0, 1), 4, 1, 0, .w1c, fun _ => 0⟩

/-- R160 (spec/04): Writes discarded per R156, saturating at 65,535 -/
def FAB_RGN_DCQ_DISC : Field := ⟨242, .rgn, 32, [(4, 4)], (0, 1), 0, 16, 0, .rc, fun _ => 0⟩

/-- R160 (spec/04): Set by any discard -/
def FAB_RGN_DCQ_OVF : Field := ⟨243, .rgn, 32, [(4, 4)], (0, 1), 16, 1, 0, .rc, fun _ => 0⟩

/-- R169 (spec/04): Cycles before R168 answers; values below 16 act as 16 -/
def FAB_RGN_NAPCFG_MM_TIMEOUT : Field := ⟨244, .rgn, 48, [], (0, 1), 0, 16, 0, .rw, fun _ => 4096⟩

/-- R175 (spec/04): 1 requests software isolation -/
def FAB_RGN_ISO_REQ : Field := ⟨245, .rgn, 4, [], (0, 1), 0, 1, 0, .wo, fun _ => 0⟩

/-- R175 (spec/04): 1 leaves software isolation -/
def FAB_RGN_ISO_EXIT : Field := ⟨246, .rgn, 4, [], (0, 1), 1, 1, 0, .wo, fun _ => 0⟩

/-- R175 (spec/04): 0 resume; 1 staged release -/
def FAB_RGN_ISO_EXITMODE : Field := ⟨247, .rgn, 4, [], (0, 1), 2, 1, 0, .rw, fun _ => 0⟩

/-- R175 (spec/04): 1 aborts the pending request -/
def FAB_RGN_ISO_ABORT : Field := ⟨248, .rgn, 4, [], (0, 1), 3, 1, 0, .wo, fun _ => 0⟩

/-- R177 (spec/04): Per R39, for software REQ and EXIT -/
def FAB_RGN_STAT_STATE : Field := ⟨249, .rgn, 16, [], (0, 1), 0, 3, 0, .ro, fun _ => 0⟩

/-- R177 (spec/04): Per R39 -/
def FAB_RGN_STAT_ABORT_LATE : Field := ⟨250, .rgn, 16, [], (0, 1), 3, 1, 0, .ro, fun _ => 0⟩

/-- R177 (spec/04): 1 while any isolation cause is in force -/
def FAB_RGN_STAT_ISOLATED : Field := ⟨251, .rgn, 16, [], (0, 1), 4, 1, 0, .ro, fun _ => 1⟩

/-- R177 (spec/04): 1 software; 2 partial configuration; 3 readback policy; 4 power domain -/
def FAB_RGN_STAT_CAUSE : Field := ⟨252, .rgn, 16, [], (0, 1), 5, 3, 0, .ro, fun _ => 5⟩

/-- R177 (spec/04): 1 contract at NAP; 2 not a software isolation; cleared when the next o -/
def FAB_RGN_STAT_REASON : Field := ⟨253, .rgn, 16, [], (0, 1), 8, 2, 0, .ro, fun _ => 0⟩

/-- R177 (spec/04): Per R161 -/
def FAB_RGN_STAT_SELERR : Field := ⟨254, .rgn, 16, [], (0, 1), 10, 1, 0, .w1c, fun _ => 0⟩

/-- R177 (spec/04): Per R162 -/
def FAB_RGN_STAT_SPINE_LOST : Field := ⟨255, .rgn, 16, [], (0, 1), 11, 1, 0, .w1c, fun _ => 0⟩

/-- R222 (spec/05): Router number -/
def NOC_RTR_ID_ROUTER : Field := ⟨256, .rtr, 0, [], (0, 1), 0, 7, 0, .ro, fun i => i % 96⟩

/-- R222 (spec/05): Base die -/
def NOC_RTR_ID_BD : Field := ⟨257, .rtr, 0, [], (0, 1), 8, 2, 0, .ro, fun i => i / 96⟩

/-- R222 (spec/05): Package ingress epoch -/
def NOC_EPOCH_INGRESS : Field := ⟨258, .rtr, 4, [], (0, 1), 0, 1, 0, .ro, fun _ => 0⟩

/-- R222 (spec/05): 1 while the old bank is live (R199) -/
def NOC_EPOCH_OLD_LIVE : Field := ⟨259, .rtr, 4, [], (0, 1), 1, 1, 0, .ro, fun _ => 0⟩

/-- R222 (spec/05): Old-epoch packets in this router, saturating at 255 -/
def NOC_EPOCH_OLD_CNT : Field := ⟨260, .rtr, 4, [], (0, 1), 8, 8, 0, .ro, fun _ => 0⟩

/-- R222 (spec/05): Route updates completed, wrapping -/
def NOC_EPOCH_UPDATES : Field := ⟨261, .rtr, 4, [], (0, 1), 16, 16, 0, .ro, fun _ => 0⟩

/-- R222 (spec/05): State of local port p: 0 OPEN, 1 CLOSING, 2 OFF, 3 CLOSED (R211) -/
def NOC_PSTATE : Field := ⟨262, .rtr, 16, [], (2, 32), 0, 2, 0, .ro, portRst⟩

/-- R222 (spec/05): Flits in the wake buffer, 0 to 64 -/
def NOC_WAKE_OCC : Field := ⟨263, .rtr, 32, [], (0, 1), 0, 7, 0, .ro, fun _ => 0⟩

/-- R222 (spec/05): Packets in the wake buffer -/
def NOC_WAKE_PKTS : Field := ⟨264, .rtr, 32, [], (0, 1), 8, 6, 0, .ro, fun _ => 0⟩

/-- R222 (spec/05): Wakes requested, wrapping -/
def NOC_WAKE_WAKES : Field := ⟨265, .rtr, 32, [], (0, 1), 16, 16, 0, .ro, fun _ => 0⟩

/-- R223 (spec/05): CT flits sent by output p, wrapping -/
def NOC_FLITS_CT_COUNT : Field := ⟨266, .rtr, 256, [(32, 5)], (0, 1), 0, 32, 0, .ro, fun _ => 0⟩

/-- R223 (spec/05): BG flits sent by output p, wrapping -/
def NOC_FLITS_BG_COUNT : Field := ⟨267, .rtr, 260, [(32, 5)], (0, 1), 0, 32, 0, .ro, fun _ => 0⟩

/-- R223 (spec/05): BE flits sent by output p, wrapping -/
def NOC_FLITS_BE_COUNT : Field := ⟨268, .rtr, 264, [(32, 5)], (0, 1), 0, 32, 0, .ro, fun _ => 0⟩

/-- R223 (spec/05): Corrections at input p (R201), saturating at 65,535 -/
def NOC_PERR_CE : Field := ⟨269, .rtr, 268, [(32, 5)], (0, 1), 0, 16, 0, .rc, fun _ => 0⟩

/-- R223 (spec/05): Flits poisoned at input p (R202), saturating at 255 -/
def NOC_PERR_UE : Field := ⟨270, .rtr, 268, [(32, 5)], (0, 1), 16, 8, 0, .rc, fun _ => 0⟩

/-- R223 (spec/05): Packets dropped at input p (R203, R205), saturating at 255 -/
def NOC_PERR_HDR : Field := ⟨271, .rtr, 268, [(32, 5)], (0, 1), 24, 8, 0, .rc, fun _ => 0⟩

/-- R233 (spec/06): Source endpoint ID -/
def THY_REQ_SRC_EP : Field := ⟨272, .thy, 0, [(256, 8)], (0, 1), 0, 16, 2, .rw, fun _ => 0⟩

/-- R233 (spec/06): Destination endpoint ID -/
def THY_REQ_DST_EP : Field := ⟨273, .thy, 4, [(256, 8)], (0, 1), 0, 16, 2, .rw, fun _ => 0⟩

/-- R233 (spec/06): Payload bytes per period, 1 to 16,777,215; in mode 1, response bytes -/
def THY_REQ_BYTES_BYTES : Field := ⟨274, .thy, 8, [(256, 8)], (0, 1), 0, 24, 0, .rw, fun _ => 0⟩

/-- R233 (spec/06): Period in frames, 1 to 65,535 -/
def THY_REQ_PERIOD_FRAMES : Field := ⟨275, .thy, 12, [(256, 8)], (0, 1), 0, 16, 0, .rw, fun _ => 0⟩

/-- R233 (spec/06): Requested latency in ticks, at least 1 -/
def THY_REQ_LAT_TICKS : Field := ⟨276, .thy, 16, [(256, 8)], (0, 1), 0, 32, 0, .rw, fun _ => 0⟩

/-- R233 (spec/06): Priority of excess traffic -/
def THY_REQ_CFG_EXCESS_PRIO : Field := ⟨277, .thy, 20, [(256, 8)], (0, 1), 0, 3, 0, .rw, fun _ => 0⟩

/-- R233 (spec/06): 1 rigid source -/
def THY_REQ_CFG_RIGID_SRC : Field := ⟨278, .thy, 20, [(256, 8)], (0, 1), 3, 1, 0, .rw, fun _ => 0⟩

/-- R233 (spec/06): 1 rigid destination -/
def THY_REQ_CFG_RIGID_DST : Field := ⟨279, .thy, 20, [(256, 8)], (0, 1), 4, 1, 0, .rw, fun _ => 0⟩

/-- R233 (spec/06): 0 push, 1 read -/
def THY_REQ_CFG_MODE : Field := ⟨280, .thy, 20, [(256, 8)], (0, 1), 5, 1, 0, .rw, fun _ => 0⟩

/-- R233 (spec/06): 1 requires fold-safe slots on every fold port of the path (R239) -/
def THY_REQ_CFG_FOLD_SAFE : Field := ⟨281, .thy, 20, [(256, 8)], (0, 1), 6, 1, 0, .rw, fun _ => 0⟩

/-- R233 (spec/06): Largest LEN the source uses, 1 to 31 -/
def THY_REQ_CFG_MAXLEN : Field := ⟨282, .thy, 20, [(256, 8)], (0, 1), 7, 5, 0, .rw, fun _ => 0⟩

/-- R233 (spec/06): 1 ADMIT, 2 SUSPEND, 3 RESUME, 4 TEARDOWN, 5 READMIT; 0, 6 and 7 do not -/
def THY_REQ_CMD_OP : Field := ⟨283, .thy, 24, [(256, 8)], (0, 1), 0, 3, 0, .wo, fun _ => 0⟩

/-- R233 (spec/06): 1 aborts the operation in this mailbox -/
def THY_REQ_CMD_ABORT : Field := ⟨284, .thy, 24, [(256, 8)], (0, 1), 3, 1, 0, .wo, fun _ => 0⟩

/-- R233 (spec/06): Contract ID for OP 2 to 5 -/
def THY_REQ_CMD_ID : Field := ⟨285, .thy, 24, [(256, 8)], (0, 1), 16, 12, 0, .wo, fun _ => 0⟩

/-- R233 (spec/06): Per R39 -/
def THY_REQ_STAT_STATE : Field := ⟨286, .thy, 28, [(256, 8)], (0, 1), 0, 3, 0, .ro, fun _ => 0⟩

/-- R233 (spec/06): Per R39 -/
def THY_REQ_STAT_ABORT_LATE : Field := ⟨287, .thy, 28, [(256, 8)], (0, 1), 3, 1, 0, .ro, fun _ => 0⟩

/-- R233 (spec/06): Refusal reason (R237) -/
def THY_REQ_STAT_REASON : Field := ⟨288, .thy, 28, [(256, 8)], (0, 1), 4, 4, 0, .ro, fun _ => 0⟩

/-- R233 (spec/06): Contract ID assigned or acted on -/
def THY_REQ_STAT_ID : Field := ⟨289, .thy, 28, [(256, 8)], (0, 1), 16, 12, 0, .ro, fun _ => 0⟩

/-- R233 (spec/06): Granted bound; after REASON 12, the least achievable bound -/
def THY_REQ_BOUND_TICKS : Field := ⟨290, .thy, 32, [(256, 8)], (0, 1), 0, 32, 0, .ro, fun _ => 0⟩

/-- R233 (spec/06): Data slots per frame on the forward path, or on the request leg in mod -/
def THY_REQ_SLOTS_FWD : Field := ⟨291, .thy, 36, [(256, 8)], (0, 1), 0, 10, 0, .ro, fun _ => 0⟩

/-- R233 (spec/06): Data slots per frame on the response leg; 0 in mode 0 -/
def THY_REQ_SLOTS_RSP : Field := ⟨292, .thy, 36, [(256, 8)], (0, 1), 16, 10, 0, .ro, fun _ => 0⟩

/-- R233 (spec/06): Per R237 -/
def THY_REQ_RDETAIL_DETAIL : Field := ⟨293, .thy, 40, [(256, 8)], (0, 1), 0, 32, 0, .ro, fun _ => 0⟩

/-- R233 (spec/06): Stream table index (R232) -/
def THY_REQ_STREAM_INDEX : Field := ⟨294, .thy, 44, [(256, 8)], (0, 1), 0, 12, 0, .rw, fun _ => 0⟩

/-- R233 (spec/06): 1 when an endpoint is a DCL engine -/
def THY_REQ_STREAM_EN : Field := ⟨295, .thy, 44, [(256, 8)], (0, 1), 12, 1, 0, .rw, fun _ => 0⟩

/-- R255 (spec/06): Source endpoint ID -/
def THY_CT_EP_SRC : Field := ⟨296, .thy, 524288, [(32, 4096)], (0, 1), 0, 16, 0, .ro, fun _ => 0⟩

/-- R255 (spec/06): Destination endpoint ID -/
def THY_CT_EP_DST : Field := ⟨297, .thy, 524288, [(32, 4096)], (0, 1), 16, 16, 0, .ro, fun _ => 0⟩

/-- R255 (spec/06): Bytes per period -/
def THY_CT_RATE_BYTES : Field := ⟨298, .thy, 524292, [(32, 4096)], (0, 1), 0, 24, 0, .ro, fun _ => 0⟩

/-- R255 (spec/06): Period in frames -/
def THY_CT_CFG_PERIOD : Field := ⟨299, .thy, 524296, [(32, 4096)], (0, 1), 0, 16, 0, .ro, fun _ => 0⟩

/-- R255 (spec/06): As requested -/
def THY_CT_CFG_EXCESS_PRIO : Field := ⟨300, .thy, 524296, [(32, 4096)], (0, 1), 16, 3, 0, .ro, fun _ => 0⟩

/-- R255 (spec/06): As requested -/
def THY_CT_CFG_RIGID_SRC : Field := ⟨301, .thy, 524296, [(32, 4096)], (0, 1), 19, 1, 0, .ro, fun _ => 0⟩

/-- R255 (spec/06): As requested -/
def THY_CT_CFG_RIGID_DST : Field := ⟨302, .thy, 524296, [(32, 4096)], (0, 1), 20, 1, 0, .ro, fun _ => 0⟩

/-- R255 (spec/06): As requested -/
def THY_CT_CFG_MODE : Field := ⟨303, .thy, 524296, [(32, 4096)], (0, 1), 21, 1, 0, .ro, fun _ => 0⟩

/-- R255 (spec/06): As requested -/
def THY_CT_CFG_MAXLEN : Field := ⟨304, .thy, 524296, [(32, 4096)], (0, 1), 22, 5, 0, .ro, fun _ => 0⟩

/-- R255 (spec/06): As requested -/
def THY_CT_CFG_FOLD_SAFE : Field := ⟨305, .thy, 524296, [(32, 4096)], (0, 1), 27, 1, 0, .ro, fun _ => 0⟩

/-- R255 (spec/06): Granted bound -/
def THY_CT_BOUND_TICKS : Field := ⟨306, .thy, 524300, [(32, 4096)], (0, 1), 0, 32, 0, .ro, fun _ => 0⟩

/-- R255 (spec/06): As in `THY_REQ_SLOTS` -/
def THY_CT_SLOTS_FWD : Field := ⟨307, .thy, 524304, [(32, 4096)], (0, 1), 0, 10, 0, .ro, fun _ => 0⟩

/-- R255 (spec/06): As in `THY_REQ_SLOTS` -/
def THY_CT_SLOTS_RSP : Field := ⟨308, .thy, 524304, [(32, 4096)], (0, 1), 16, 10, 0, .ro, fun _ => 0⟩

/-- R255 (spec/06): 0 FREE, 1 LIVE, 2 SUSP_REQ, 3 SUSP_BREACH, 4 DRAINING -/
def THY_CT_STAT_CSTATE : Field := ⟨309, .thy, 524308, [(32, 4096)], (0, 1), 0, 3, 0, .ro, fun _ => 0⟩

/-- R255 (spec/06): Per R239 -/
def THY_CT_STAT_FOLD_EXPOSED : Field := ⟨310, .thy, 524308, [(32, 4096)], (0, 1), 3, 1, 0, .ro, fun _ => 0⟩

/-- R255 (spec/06): CAUSE of the latest notice -/
def THY_CT_STAT_LAST_CAUSE : Field := ⟨311, .thy, 524308, [(32, 4096)], (0, 1), 4, 4, 0, .ro, fun _ => 0⟩

/-- R255 (spec/06): CT_BREACH events raised for the contract (R257), saturating at 65,535 -/
def THY_CT_STAT_BREACHES : Field := ⟨312, .thy, 524308, [(32, 4096)], (0, 1), 16, 16, 0, .ro, fun _ => 0⟩

/-- R255 (spec/06): Stream index -/
def THY_CT_STREAM_INDEX : Field := ⟨313, .thy, 524312, [(32, 4096)], (0, 1), 0, 12, 0, .ro, fun _ => 0⟩

/-- R255 (spec/06): 1 when a stream is named -/
def THY_CT_STREAM_EN : Field := ⟨314, .thy, 524312, [(32, 4096)], (0, 1), 12, 1, 0, .ro, fun _ => 0⟩

/-- R256 (spec/06): Contracts in LIVE -/
def THY_STAT_LIVE : Field := ⟨315, .thy, 4096, [], (0, 1), 0, 13, 0, .ro, fun _ => 0⟩

/-- R256 (spec/06): Contracts in LIVE, SUSP_REQ or SUSP_BREACH -/
def THY_STAT_ADMITTED : Field := ⟨316, .thy, 4096, [], (0, 1), 16, 13, 0, .ro, fun _ => 0⟩

/-- R291 (spec/07): Per R261 -/
def TIO_BANK_CFG_IOSTD : Field := ⟨317, .tio, 0, [], (0, 1), 0, 3, 0, .rw, fun _ => 0⟩

/-- R291 (spec/07): Differential modes: 1 enables 100 Ω receiver termination per pair -/
def TIO_BANK_CFG_TERM : Field := ⟨318, .tio, 0, [], (0, 1), 3, 1, 0, .rw, fun _ => 0⟩

/-- R291 (spec/07): Per R287 -/
def TIO_BANK_CFG_RESFMT : Field := ⟨319, .tio, 0, [], (0, 1), 4, 1, 0, .rw, fun _ => 0⟩

/-- R291 (spec/07): Vector contract flow (R277) -/
def TIO_BANK_VSRC_FLOW : Field := ⟨320, .tio, 4, [], (0, 1), 0, 12, 0, .rw, fun _ => 0⟩

/-- R291 (spec/07): 1 accepts vector packets -/
def TIO_BANK_VSRC_EN : Field := ⟨321, .tio, 4, [], (0, 1), 12, 1, 0, .rw, fun _ => 0⟩

/-- R291 (spec/07): Result contract flow (R289) -/
def TIO_BANK_RSLT_FLOW : Field := ⟨322, .tio, 8, [], (0, 1), 0, 12, 0, .rw, fun _ => 0⟩

/-- R291 (spec/07): 1 sends result records -/
def TIO_BANK_RSLT_EN : Field := ⟨323, .tio, 8, [], (0, 1), 12, 1, 0, .rw, fun _ => 0⟩

/-- R291 (spec/07): Records per packet; 0 acts as 1, values above 123 act as 123 -/
def TIO_BANK_RSLT_RPKT : Field := ⟨324, .tio, 8, [], (0, 1), 16, 7, 0, .rw, fun _ => 4⟩

/-- R291 (spec/07): Flush time in units of 16 ncyc; 0 acts as 1 -/
def TIO_BANK_RSLT_FLUSH : Field := ⟨325, .tio, 8, [], (0, 1), 24, 8, 0, .rw, fun _ => 64⟩

/-- R291 (spec/07): High threshold, mV; two's complement in differential modes -/
def TIO_BANK_THR_VOH : Field := ⟨326, .tio, 12, [], (0, 1), 0, 12, 0, .rw, fun _ => 0⟩

/-- R291 (spec/07): Low threshold, mV; two's complement in differential modes -/
def TIO_BANK_THR_VOL : Field := ⟨327, .tio, 12, [], (0, 1), 16, 12, 0, .rw, fun _ => 0⟩

/-- R291 (spec/07): 1 stops the run (R281) -/
def TIO_BANK_CTL_STOP : Field := ⟨328, .tio, 16, [], (0, 1), 0, 1, 0, .wo, fun _ => 0⟩

/-- R291 (spec/07): 1 performs R282 -/
def TIO_BANK_CTL_SRST : Field := ⟨329, .tio, 16, [], (0, 1), 1, 1, 0, .wo, fun _ => 0⟩

/-- R291 (spec/07): Stop time bits [31:0] (LO and HI registers as one value) -/
def TIO_BANK_STOP_AT_AT : Field := ⟨330, .tio, 20, [], (0, 1), 0, 64, 0, .rw, fun _ => 0⟩

/-- R291 (spec/07): Per R280 -/
def TIO_BANK_STAT_RSTATE : Field := ⟨331, .tio, 32, [], (0, 1), 0, 3, 0, .ro, fun _ => 0⟩

/-- R291 (spec/07): Per R284 -/
def TIO_BANK_STAT_CAL_VALID : Field := ⟨332, .tio, 32, [], (0, 1), 3, 1, 0, .ro, fun _ => 0⟩

/-- R291 (spec/07): Per R262 -/
def TIO_BANK_STAT_SUPPLY_OK : Field := ⟨333, .tio, 32, [], (0, 1), 4, 1, 0, .ro, fun _ => 0⟩

/-- R291 (spec/07): Vectors buffered, 0 to 2,048 -/
def TIO_BANK_STAT_VBUF : Field := ⟨334, .tio, 32, [], (0, 1), 5, 12, 0, .ro, fun _ => 0⟩

/-- R291 (spec/07): Result records buffered, 0 to 256 -/
def TIO_BANK_STAT_RBUF : Field := ⟨335, .tio, 32, [], (0, 1), 17, 9, 0, .ro, fun _ => 0⟩

/-- R291 (spec/07): Late vectors, saturating at 65,535 -/
def TIO_BANK_LATE_COUNT : Field := ⟨336, .tio, 36, [], (0, 1), 0, 16, 0, .rc, fun _ => 0⟩

/-- R291 (spec/07): Packets discarded under R278, saturating -/
def TIO_BANK_VDROP_COUNT : Field := ⟨337, .tio, 40, [], (0, 1), 0, 16, 0, .rc, fun _ => 0⟩

/-- R291 (spec/07): Number of the last vector started, bits [31:0] (LO and HI registers as one value) -/
def TIO_BANK_VNUM_VNUM : Field := ⟨338, .tio, 48, [], (0, 1), 0, 48, 0, .ro, fun _ => 0⟩

/-- R291 (spec/07): Timeset t period bits [31:0] (LO and HI registers as one value) -/
def TIO_TSPER_PERIOD : Field := ⟨339, .tio, 256, [(8, 16)], (0, 1), 0, 40, 0, .rw, fun _ => 320⟩

/-- R292 (spec/07): 0 plain, 1 timed -/
def TIO_PIN_CFG_MODE : Field := ⟨340, .tio, 32768, [(1024, 32)], (0, 1), 0, 1, 0, .ro, fun _ => 0⟩

/-- R292 (spec/07): Per R265 -/
def TIO_PIN_CFG_DDR : Field := ⟨341, .tio, 32768, [(1024, 32)], (0, 1), 1, 1, 0, .ro, fun _ => 0⟩

/-- R292 (spec/07): 0 none, 1 down, 2 up, 3 keeper -/
def TIO_PIN_CFG_PULL : Field := ⟨342, .tio, 32768, [(1024, 32)], (0, 1), 2, 2, 0, .rw, fun _ => 0⟩

/-- R292 (spec/07): Single-ended drive strength, 0 weakest to 7; ignored in differential m -/
def TIO_PIN_CFG_DRIVE : Field := ⟨343, .tio, 32768, [(1024, 32)], (0, 1), 4, 3, 0, .rw, fun _ => 0⟩

/-- R292 (spec/07): 0 fastest to 3 slowest -/
def TIO_PIN_CFG_SLEW : Field := ⟨344, .tio, 32768, [(1024, 32)], (0, 1), 7, 2, 0, .rw, fun _ => 0⟩

/-- R292 (spec/07): Per R274 -/
def TIO_PIN_CFG_IDLE : Field := ⟨345, .tio, 32768, [(1024, 32)], (0, 1), 9, 2, 0, .rw, fun _ => 0⟩

/-- R292 (spec/07): Owning region number in plain mode -/
def TIO_PIN_CFG_REGION : Field := ⟨346, .tio, 32768, [(1024, 32)], (0, 1), 11, 9, 0, .ro, fun _ => 0⟩

/-- R292 (spec/07): 0 FD(2k), 1 FD(2k + 1) -/
def TIO_PIN_CFG_FDSEL : Field := ⟨347, .tio, 32768, [(1024, 32)], (0, 1), 20, 1, 0, .ro, fun _ => 0⟩

/-- R292 (spec/07): Output delay, ticks (R266) -/
def TIO_PIN_DLY_ODLY : Field := ⟨348, .tio, 32772, [(1024, 32)], (0, 1), 0, 11, 0, .rw, fun _ => 0⟩

/-- R292 (spec/07): Input delay, ticks -/
def TIO_PIN_DLY_IDLY : Field := ⟨349, .tio, 32772, [(1024, 32)], (0, 1), 16, 11, 0, .rw, fun _ => 0⟩

/-- R292 (spec/07): Drive deskew (R272) -/
def TIO_PIN_DSK_DRV : Field := ⟨350, .tio, 32776, [(1024, 32)], (0, 1), 0, 16, 0, .rw, fun _ => 0⟩

/-- R292 (spec/07): Strobe deskew (R272) -/
def TIO_PIN_DSK_CMP : Field := ⟨351, .tio, 32776, [(1024, 32)], (0, 1), 16, 16, 0, .rw, fun _ => 0⟩

/-- R292 (spec/07): Squeezed edges, saturating -/
def TIO_PIN_ERR_SQUEEZE : Field := ⟨352, .tio, 32780, [(1024, 32)], (0, 1), 0, 16, 0, .rc, fun _ => 0⟩

/-- R292 (spec/07): Per R270 -/
def TIO_PIN_ERR_RANGE : Field := ⟨353, .tio, 32780, [(1024, 32)], (0, 1), 16, 1, 0, .w1c, fun _ => 0⟩

/-- R292 (spec/07): Per R285 -/
def TIO_PIN_ERR_CALFLT : Field := ⟨354, .tio, 32780, [(1024, 32)], (0, 1), 17, 1, 0, .w1c, fun _ => 0⟩

/-- R292 (spec/07): Event e of timeset t: 0 D_ON, 1 D_DATA, 2 D_RET, 3 D_OFF, 4 S0, 5 S1 -/
def TIO_TS_EV_OFFSET : Field := ⟨355, .tio, 33024, [(1024, 32), (32, 16), (4, 6)], (0, 1), 0, 24, 0, .rw, fun _ => 0⟩

/-- R292 (spec/07): 1 enables the event -/
def TIO_TS_EV_EN : Field := ⟨356, .tio, 33024, [(1024, 32), (32, 16), (4, 6)], (0, 1), 31, 1, 0, .rw, fun _ => 0⟩

/-- R292 (spec/07): 0, 1, or 2 none; 3 acts as 2 -/
def TIO_TS_CFG_RETLVL : Field := ⟨357, .tio, 33048, [(1024, 32), (32, 16)], (0, 1), 0, 2, 0, .rw, fun _ => 2⟩

/-- R292 (spec/07): 0 edge strobes, 1 window -/
def TIO_TS_CFG_SKIND : Field := ⟨358, .tio, 33048, [(1024, 32), (32, 16)], (0, 1), 2, 1, 0, .rw, fun _ => 0⟩

/-- R338 (spec/08): Per R295 -/
def LNE_CFG_MODE : Field := ⟨359, .lnq, 0, [(256, 4)], (0, 1), 0, 3, 0, .rw, fun _ => 0⟩

/-- R338 (spec/08): Rate index for raw modes; ignored in MODES 1 and 5 -/
def LNE_CFG_RATE : Field := ⟨360, .lnq, 0, [(256, 4)], (0, 1), 3, 4, 0, .rw, fun _ => 0⟩

/-- R338 (spec/08): 1 inverts transmit polarity -/
def LNE_CFG_TXPOL : Field := ⟨361, .lnq, 0, [(256, 4)], (0, 1), 7, 1, 0, .rw, fun _ => 0⟩

/-- R338 (spec/08): 1 inverts receive polarity -/
def LNE_CFG_RXPOL : Field := ⟨362, .lnq, 0, [(256, 4)], (0, 1), 8, 1, 0, .rw, fun _ => 0⟩

/-- R338 (spec/08): 0 none; 1 near-end PMA loopback; 2 far-end loopback of received data; -/
def LNE_CFG_LOOP : Field := ⟨363, .lnq, 0, [(256, 4)], (0, 1), 9, 2, 0, .rw, fun _ => 0⟩

/-- R338 (spec/08): Per R296 -/
def LNE_CFG_CFG_REJ : Field := ⟨364, .lnq, 0, [(256, 4)], (0, 1), 11, 1, 0, .w1c, fun _ => 0⟩

/-- R338 (spec/08): Pre-cursor -/
def LNE_TXEQ_PRE : Field := ⟨365, .lnq, 4, [(256, 4)], (0, 1), 0, 4, 0, .rw, fun _ => 0⟩

/-- R338 (spec/08): Main cursor -/
def LNE_TXEQ_MAIN : Field := ⟨366, .lnq, 4, [(256, 4)], (0, 1), 4, 6, 0, .rw, fun _ => 48⟩

/-- R338 (spec/08): Post-cursor; reads the trained value in DCL mode -/
def LNE_TXEQ_POST : Field := ⟨367, .lnq, 4, [(256, 4)], (0, 1), 10, 5, 0, .rw, fun _ => 8⟩

/-- R338 (spec/08): Per R298 -/
def LNE_TXEQ_MANUAL : Field := ⟨368, .lnq, 4, [(256, 4)], (0, 1), 15, 1, 0, .rw, fun _ => 0⟩

/-- R338 (spec/08): 1 while a signal is present -/
def LNE_STAT_SIGDET : Field := ⟨369, .lnq, 8, [(256, 4)], (0, 1), 0, 1, 0, .ro, fun _ => 0⟩

/-- R338 (spec/08): 1 while the CDR is locked -/
def LNE_STAT_CDR_LOCK : Field := ⟨370, .lnq, 8, [(256, 4)], (0, 1), 1, 1, 0, .ro, fun _ => 0⟩

/-- R338 (spec/08): MODES 3 and 4: alignment or block lock -/
def LNE_STAT_PCS_LOCK : Field := ⟨371, .lnq, 8, [(256, 4)], (0, 1), 2, 1, 0, .ro, fun _ => 0⟩

/-- R338 (spec/08): Rate index in use -/
def LNE_STAT_RATE_NOW : Field := ⟨372, .lnq, 8, [(256, 4)], (0, 1), 3, 4, 0, .ro, fun _ => 0⟩

/-- R338 (spec/08): Last measured eye height, mV -/
def LNE_EYE_HEIGHT : Field := ⟨373, .lnq, 12, [(256, 4)], (0, 1), 0, 8, 0, .ro, fun _ => 0⟩

/-- R338 (spec/08): Last measured eye width, 1/64 UI -/
def LNE_EYE_WIDTH : Field := ⟨374, .lnq, 12, [(256, 4)], (0, 1), 8, 8, 0, .ro, fun _ => 0⟩

/-- R338 (spec/08): Raw PCS code or header errors, saturating -/
def LNE_RAWERR_CODE : Field := ⟨375, .lnq, 16, [(256, 4)], (0, 1), 0, 16, 0, .rc, fun _ => 0⟩

/-- R338 (spec/08): Words discarded per R305, saturating -/
def LNE_RAWERR_OVF : Field := ⟨376, .lnq, 16, [(256, 4)], (0, 1), 16, 16, 0, .rc, fun _ => 0⟩

/-- R338 (spec/08): 0 100 MHz; 1 156.25 MHz; 2 161.1328125 MHz; 3 acts as 0; RO mirror in -/
def LNE_QREF_FREQ : Field := ⟨377, .lnq, 1024, [], (0, 1), 0, 2, 0, .rw, fun _ => 0⟩

/-- R338 (spec/08): Per R300; mirrored as FREQ -/
def LNE_QREF_SSC : Field := ⟨378, .lnq, 1024, [], (0, 1), 2, 1, 0, .rw, fun _ => 0⟩

/-- R338 (spec/08): Per R302 -/
def LNE_QREF_REF_OK : Field := ⟨379, .lnq, 1024, [], (0, 1), 3, 1, 0, .ro, fun _ => 0⟩

/-- R339 (spec/08): 1 runs bring-up; 0 returns to DISABLED (R320) -/
def DCL_CTL_EN : Field := ⟨380, .dcl, 0, [(512, 4)], (0, 1), 0, 1, 0, .rw, fun _ => 0⟩

/-- R339 (spec/08): 1 retrains from UP, or leaves FAILED for DETECT; ignored in other stat -/
def DCL_CTL_RETRAIN : Field := ⟨381, .dcl, 0, [(512, 4)], (0, 1), 1, 1, 0, .wo, fun _ => 0⟩

/-- R339 (spec/08): A: field values 1 to 15 give A = 1 to 15, and 0 gives A = 16; read at -/
def DCL_CTL_ALIGN : Field := ⟨382, .dcl, 0, [(512, 4)], (0, 1), 2, 4, 0, .rw, fun _ => 4⟩

/-- R339 (spec/08): Highest rate index offered; 13 to 15 act as 12 -/
def DCL_CTL_MAXRATE : Field := ⟨383, .dcl, 0, [(512, 4)], (0, 1), 6, 4, 0, .rw, fun _ => 12⟩

/-- R339 (spec/08): Rates offered; bit 0 reads 1 and ignores writes -/
def DCL_RATES_MASK : Field := ⟨384, .dcl, 4, [(512, 4)], (0, 1), 0, 13, 0, .rw, fun _ => 8191⟩

/-- R339 (spec/08): Per R315 -/
def DCL_STAT_LSTATE : Field := ⟨385, .dcl, 8, [(512, 4)], (0, 1), 0, 4, 0, .ro, fun _ => 0⟩

/-- R339 (spec/08): Rate index in use -/
def DCL_STAT_RATE_NOW : Field := ⟨386, .dcl, 8, [(512, 4)], (0, 1), 4, 4, 0, .ro, fun _ => 0⟩

/-- R339 (spec/08): Last retrain cause per R319 -/
def DCL_STAT_RCAUSE : Field := ⟨387, .dcl, 8, [(512, 4)], (0, 1), 8, 3, 0, .ro, fun _ => 0⟩

/-- R339 (spec/08): Per R328 -/
def DCL_STAT_MAP_OK : Field := ⟨388, .dcl, 8, [(512, 4)], (0, 1), 11, 1, 0, .ro, fun _ => 0⟩

/-- R339 (spec/08): Per R327 -/
def DCL_STAT_MAP_REJ : Field := ⟨389, .dcl, 8, [(512, 4)], (0, 1), 12, 1, 0, .w1c, fun _ => 0⟩

/-- R339 (spec/08): Retrains, wrapping -/
def DCL_STAT_RETRAINS : Field := ⟨390, .dcl, 8, [(512, 4)], (0, 1), 16, 16, 0, .ro, fun _ => 0⟩

/-- R339 (spec/08): Peer's rate mask from CAP -/
def DCL_PEER_MASK : Field := ⟨391, .dcl, 12, [(512, 4)], (0, 1), 0, 13, 0, .ro, fun _ => 0⟩

/-- R339 (spec/08): Peer's device ID -/
def DCL_PEER_DEVID : Field := ⟨392, .dcl, 12, [(512, 4)], (0, 1), 16, 6, 0, .ro, fun _ => 0⟩

/-- R339 (spec/08): 1 when the peer is a Lantum 8 -/
def DCL_PEER_LANTUM : Field := ⟨393, .dcl, 12, [(512, 4)], (0, 1), 22, 1, 0, .ro, fun _ => 0⟩

/-- R339 (spec/08): Per R321 -/
def DCL_LAT_TX_TICKS : Field := ⟨394, .dcl, 16, [(512, 4)], (0, 1), 0, 24, 0, .ro, fun _ => 0⟩

/-- R339 (spec/08): Per R321 -/
def DCL_LAT_RX_TICKS : Field := ⟨395, .dcl, 20, [(512, 4)], (0, 1), 0, 24, 0, .ro, fun _ => 0⟩

/-- R339 (spec/08): Per R322, two's complement -/
def DCL_ASYM_TICKS : Field := ⟨396, .dcl, 24, [(512, 4)], (0, 1), 0, 16, 0, .rw, fun _ => 0⟩

/-- R339 (spec/08): Per R321 -/
def DCL_TURN_TICKS : Field := ⟨397, .dcl, 28, [(512, 4)], (0, 1), 0, 24, 0, .ro, fun _ => 0⟩

/-- R339 (spec/08): Errored blocks per window; 0 acts as 1 -/
def DCL_ERRCFG_THRESH : Field := ⟨398, .dcl, 32, [(512, 4)], (0, 1), 0, 16, 0, .rw, fun _ => 16⟩

/-- R339 (spec/08): Window 2^WIN blocks; below 10 acts as 10, above 30 as 30 -/
def DCL_ERRCFG_WIN : Field := ⟨399, .dcl, 32, [(512, 4)], (0, 1), 16, 5, 0, .rw, fun _ => 20⟩

/-- R339 (spec/08): Per R312, saturating -/
def DCL_ERR_BLK : Field := ⟨400, .dcl, 36, [(512, 4)], (0, 1), 0, 16, 0, .rc, fun _ => 0⟩

/-- R339 (spec/08): RS symbols corrected, saturating -/
def DCL_ERR_CORR : Field := ⟨401, .dcl, 36, [(512, 4)], (0, 1), 16, 16, 0, .rc, fun _ => 0⟩

/-- R339 (spec/08): Per R325, two's complement -/
def DCL_TIMEDIFF_TICKS : Field := ⟨402, .dcl, 40, [(512, 4)], (0, 1), 0, 32, 0, .ro, fun _ => 0⟩

/-- R339 (spec/08): Per R328 -/
def DCL_TXMAPID_ID : Field := ⟨403, .dcl, 44, [(512, 4)], (0, 1), 0, 32, 0, .rw, fun _ => 0⟩

/-- R339 (spec/08): Per R328 -/
def DCL_RXMAPID_ID : Field := ⟨404, .dcl, 48, [(512, 4)], (0, 1), 0, 32, 0, .rw, fun _ => 0⟩

/-- R339 (spec/08): Stream index for transmit slot 2w -/
def DCL_TXMAP_S0 : Field := ⟨405, .dcl, 128, [(512, 4), (4, 32)], (0, 1), 0, 12, 0, .rw, fun _ => 0⟩

/-- R339 (spec/08): 1 valid -/
def DCL_TXMAP_V0 : Field := ⟨406, .dcl, 128, [(512, 4), (4, 32)], (0, 1), 12, 1, 0, .rw, fun _ => 0⟩

/-- R339 (spec/08): Stream index for transmit slot 2w + 1 -/
def DCL_TXMAP_S1 : Field := ⟨407, .dcl, 128, [(512, 4), (4, 32)], (0, 1), 16, 12, 0, .rw, fun _ => 0⟩

/-- R339 (spec/08): 1 valid -/
def DCL_TXMAP_V1 : Field := ⟨408, .dcl, 128, [(512, 4), (4, 32)], (0, 1), 28, 1, 0, .rw, fun _ => 0⟩

/-- R340 (spec/08): Lane 0 to 159; values above 159 match no lane -/
def DCL_STR_CFG_LANE : Field := ⟨409, .thy, 655360, [(16, 4096)], (0, 1), 0, 8, 0, .rw, fun _ => 0⟩

/-- R340 (spec/08): 0 transmit, 1 receive -/
def DCL_STR_CFG_DIR : Field := ⟨410, .thy, 655360, [(16, 4096)], (0, 1), 8, 1, 0, .rw, fun _ => 0⟩

/-- R340 (spec/08): Per R326; 5 to 7 act as 0 -/
def DCL_STR_CFG_TYPE : Field := ⟨411, .thy, 655360, [(16, 4096)], (0, 1), 9, 3, 0, .rw, fun _ => 0⟩

/-- R340 (spec/08): 1 enables the stream -/
def DCL_STR_CFG_EN : Field := ⟨412, .thy, 655360, [(16, 4096)], (0, 1), 12, 1, 0, .rw, fun _ => 0⟩

/-- R340 (spec/08): Per R326 -/
def DCL_STR_CFG_STR_REJ : Field := ⟨413, .thy, 655360, [(16, 4096)], (0, 1), 13, 1, 0, .w1c, fun _ => 0⟩

/-- R340 (spec/08): Slots owned per R327 -/
def DCL_STR_STAT_NSLOTS : Field := ⟨414, .thy, 655364, [(16, 4096)], (0, 1), 0, 7, 0, .ro, fun _ => 0⟩

/-- R340 (spec/08): 1 while a contract not FREE names the stream -/
def DCL_STR_STAT_BOUND : Field := ⟨415, .thy, 655364, [(16, 4096)], (0, 1), 7, 1, 0, .ro, fun _ => 0⟩

/-- R340 (spec/08): That contract's ID -/
def DCL_STR_STAT_CONTRACT : Field := ⟨416, .thy, 655364, [(16, 4096)], (0, 1), 8, 12, 0, .ro, fun _ => 0⟩

/-- R340 (spec/08): CAP per R336 -/
def DCL_STR_CAP_BYTES : Field := ⟨417, .thy, 655368, [(16, 4096)], (0, 1), 0, 16, 0, .ro, fun _ => 0⟩

/-- R340 (spec/08): Transmit messages or packets discarded, saturating -/
def DCL_STR_DROP_TX : Field := ⟨418, .thy, 655372, [(16, 4096)], (0, 1), 0, 16, 0, .rc, fun _ => 0⟩

/-- R340 (spec/08): Received messages discarded, saturating -/
def DCL_STR_DROP_RX : Field := ⟨419, .thy, 655372, [(16, 4096)], (0, 1), 16, 16, 0, .rc, fun _ => 0⟩

/-- R379 (spec/09): 1 arms a run (R354) -/
def PGE_CTL_ARM : Field := ⟨420, .pge, 0, [], (0, 1), 0, 1, 0, .wo, fun _ => 0⟩

/-- R379 (spec/09): 1 aborts (R354) -/
def PGE_CTL_ABORT : Field := ⟨421, .pge, 0, [], (0, 1), 1, 1, 0, .wo, fun _ => 0⟩

/-- R379 (spec/09): 1 stops (R356) -/
def PGE_CTL_STOP : Field := ⟨422, .pge, 0, [], (0, 1), 2, 1, 0, .wo, fun _ => 0⟩

/-- R379 (spec/09): 1 performs R361 -/
def PGE_CTL_SRST : Field := ⟨423, .pge, 0, [], (0, 1), 3, 1, 0, .wo, fun _ => 0⟩

/-- R379 (spec/09): Timeset of termination vectors -/
def PGE_CTL_TERM_TS : Field := ⟨424, .pge, 0, [], (0, 1), 4, 4, 0, .rw, fun _ => 0⟩

/-- R379 (spec/09): Per R353 -/
def PGE_STAT_STATE : Field := ⟨425, .pge, 4, [], (0, 1), 0, 3, 0, .ro, fun _ => 0⟩

/-- R379 (spec/09): Per R39 -/
def PGE_STAT_ABORT_LATE : Field := ⟨426, .pge, 4, [], (0, 1), 3, 1, 0, .ro, fun _ => 0⟩

/-- R379 (spec/09): Per R358 -/
def PGE_STAT_HCAUSE : Field := ⟨427, .pge, 4, [], (0, 1), 4, 4, 0, .ro, fun _ => 0⟩

/-- R379 (spec/09): CODE of the HALT executed -/
def PGE_STAT_HCODE : Field := ⟨428, .pge, 4, [], (0, 1), 8, 16, 0, .ro, fun _ => 0⟩

/-- R379 (spec/09): A write or ARM was ignored -/
def PGE_STAT_CFG_REJ : Field := ⟨429, .pge, 4, [], (0, 1), 24, 1, 0, .w1c, fun _ => 0⟩

/-- R379 (spec/09): Call stack depth, 0 to 8 -/
def PGE_STAT_DEPTH : Field := ⟨430, .pge, 4, [], (0, 1), 25, 4, 0, .ro, fun _ => 0⟩

/-- R379 (spec/09): Instruction index being executed -/
def PGE_PC_PC : Field := ⟨431, .pge, 8, [], (0, 1), 0, 32, 0, .ro, fun _ => 0⟩

/-- R379 (spec/09): First instruction index -/
def PGE_ENTRY_PC : Field := ⟨432, .pge, 12, [], (0, 1), 0, 32, 0, .rw, fun _ => 0⟩

/-- R379 (spec/09): Microcode base bits [31:6] (LO and HI registers as one value) -/
def PGE_UBASE_ADDR : Field := ⟨433, .pge, 16, [], (0, 1), 0, 48, 6, .rw, fun _ => 0⟩

/-- R379 (spec/09): Stored-vector base bits [31:3] (LO and HI registers as one value) -/
def PGE_VBASE_ADDR : Field := ⟨434, .pge, 24, [], (0, 1), 0, 48, 3, .rw, fun _ => 0⟩

/-- R379 (spec/09): Start of the first vector, bits [31:0] (LO and HI registers as one value) -/
def PGE_START_AT_AT : Field := ⟨435, .pge, 32, [], (0, 1), 0, 64, 0, .rw, fun _ => 0⟩

/-- R379 (spec/09): Stop time bits [31:0]; read at the STOP write (LO and HI registers as one value) -/
def PGE_STOP_AT_AT : Field := ⟨436, .pge, 40, [], (0, 1), 0, 64, 0, .rw, fun _ => 0⟩

/-- R379 (spec/09): WAITT MODE 2 time bits [31:0] (LO and HI registers as one value) -/
def PGE_WTIME_T : Field := ⟨437, .pge, 48, [], (0, 1), 0, 64, 0, .rw, fun _ => 0⟩

/-- R379 (spec/09): Per R348 and R351 -/
def PGE_LEAD_MIN_TICKS : Field := ⟨438, .pge, 56, [], (0, 1), 0, 32, 0, .rw, fun _ => 1048576⟩

/-- R379 (spec/09): Per R350; a value below LEAD_MIN acts as LEAD_MIN -/
def PGE_LEAD_MAX_TICKS : Field := ⟨439, .pge, 60, [], (0, 1), 0, 32, 0, .rw, fun _ => 4194304⟩

/-- R379 (spec/09): First vector number, bits [31:0] (LO and HI registers as one value) -/
def PGE_VNUM0_VNUM : Field := ⟨440, .pge, 64, [], (0, 1), 0, 48, 0, .rw, fun _ => 0⟩

/-- R379 (spec/09): Number of the last vector formed, bits [31:0] (LO and HI registers as one value) -/
def PGE_VNUM_VNUM : Field := ⟨441, .pge, 72, [], (0, 1), 0, 48, 0, .ro, fun _ => 0⟩

/-- R379 (spec/09): VT bits [31:0] (LO and HI registers as one value) -/
def PGE_VT_T : Field := ⟨442, .pge, 80, [], (0, 1), 0, 64, 0, .ro, fun _ => 0⟩

/-- R379 (spec/09): Decoder pointer, in words from VBASE -/
def PGE_VPTR_WORD : Field := ⟨443, .pge, 88, [], (0, 1), 0, 32, 0, .ro, fun _ => 0⟩

/-- R379 (spec/09): Counter c, for c = 0 to 3 -/
def PGE_C_COUNT : Field := ⟨444, .pge, 96, [(4, 4)], (0, 1), 0, 32, 0, .ro, fun _ => 0⟩

/-- R379 (spec/09): Soft flags 16 to 23 -/
def PGE_SFLAG_SET_F : Field := ⟨445, .pge, 112, [], (0, 1), 0, 8, 0, .w1s, fun _ => 0⟩

/-- R379 (spec/09): The same bits -/
def PGE_SFLAG_CLR_F : Field := ⟨446, .pge, 116, [], (0, 1), 0, 8, 0, .w1c, fun _ => 0⟩

/-- R379 (spec/09): Flags per R363 -/
def PGE_FLAGS_F : Field := ⟨447, .pge, 120, [], (0, 1), 0, 32, 0, .ro, fun _ => 0⟩

/-- R379 (spec/09): Fetch contract (R377) -/
def PGE_FETCH_FLOW : Field := ⟨448, .pge, 128, [], (0, 1), 0, 12, 0, .rw, fun _ => 0⟩

/-- R379 (spec/09): 1 fetches under FLOW -/
def PGE_FETCH_EN : Field := ⟨449, .pge, 128, [], (0, 1), 12, 1, 0, .rw, fun _ => 0⟩

/-- R379 (spec/09): Best-effort fetch priority -/
def PGE_FETCH_PRIO : Field := ⟨450, .pge, 128, [], (0, 1), 13, 3, 0, .rw, fun _ => 4⟩

/-- R379 (spec/09): Lead-missed packets, saturating -/
def PGE_ERRCNT_LATE : Field := ⟨451, .pge, 132, [], (0, 1), 0, 16, 0, .rc, fun _ => 0⟩

/-- R379 (spec/09): Breach notices received, saturating -/
def PGE_ERRCNT_BREACH : Field := ⟨452, .pge, 132, [], (0, 1), 16, 16, 0, .rc, fun _ => 0⟩

/-- R379 (spec/09): Failing word address bits [31:0] (LO and HI registers as one value) -/
def PGE_EADDR_ADDR : Field := ⟨453, .pge, 136, [], (0, 1), 0, 48, 0, .ro, fun _ => 0⟩

/-- R380 (spec/09): Timeset t period bits [31:0]; a value below 320 acts as 320 (LO and HI registers as one value) -/
def PGE_TSPER_PERIOD : Field := ⟨454, .pge, 256, [(8, 16)], (0, 1), 0, 40, 0, .rw, fun _ => 320⟩

/-- R380 (spec/09): Output g contract -/
def PGE_OUT_CFG_FLOW : Field := ⟨455, .pge, 512, [(16, 16)], (0, 1), 0, 12, 0, .rw, fun _ => 0⟩

/-- R380 (spec/09): 1 enables output g -/
def PGE_OUT_CFG_EN : Field := ⟨456, .pge, 512, [(16, 16)], (0, 1), 12, 1, 0, .rw, fun _ => 0⟩

/-- R380 (spec/09): Vectors per packet; 0 acts as 1, values above 123 act as 123 -/
def PGE_OUT_CFG_VPKT : Field := ⟨457, .pge, 512, [(16, 16)], (0, 1), 13, 7, 0, .rw, fun _ => 16⟩

/-- R380 (spec/09): Packets injected, wrapping -/
def PGE_OUT_PKTS_COUNT : Field := ⟨458, .pge, 516, [(16, 16)], (0, 1), 0, 32, 0, .ro, fun _ => 0⟩

/-- R381 (spec/09): X base (index 0) -/
def PGE_XBASE_V : Field := ⟨459, .pge, 1024, [], (0, 1), 0, 24, 0, .rw, fun _ => 0⟩

/-- R381 (spec/09): X increment, two's complement (1) -/
def PGE_XINC_V : Field := ⟨460, .pge, 1028, [], (0, 1), 0, 24, 0, .rw, fun _ => 1⟩

/-- R381 (spec/09): X limit (2) -/
def PGE_XLIM_V : Field := ⟨461, .pge, 1032, [], (0, 1), 0, 24, 0, .rw, fun _ => 16777215⟩

/-- R381 (spec/09): X value (3) -/
def PGE_X_V : Field := ⟨462, .pge, 1036, [], (0, 1), 0, 24, 0, .rw, fun _ => 0⟩

/-- R381 (spec/09): Z base (8) -/
def PGE_ZCFG_BASE : Field := ⟨463, .pge, 1056, [], (0, 1), 0, 8, 0, .rw, fun _ => 0⟩

/-- R381 (spec/09): Z increment -/
def PGE_ZCFG_INC : Field := ⟨464, .pge, 1056, [], (0, 1), 8, 8, 0, .rw, fun _ => 1⟩

/-- R381 (spec/09): Z limit -/
def PGE_ZCFG_LIM : Field := ⟨465, .pge, 1056, [], (0, 1), 16, 8, 0, .rw, fun _ => 255⟩

/-- R381 (spec/09): Z value (9) -/
def PGE_Z_V : Field := ⟨466, .pge, 1060, [], (0, 1), 0, 8, 0, .rw, fun _ => 0⟩

/-- R381 (spec/09): Per R372 (10) -/
def PGE_GCFG_CHAIN : Field := ⟨467, .pge, 1064, [], (0, 1), 0, 2, 0, .rw, fun _ => 0⟩

/-- R381 (spec/09): Per R375 -/
def PGE_GCFG_PAREN : Field := ⟨468, .pge, 1064, [], (0, 1), 2, 1, 0, .rw, fun _ => 0⟩

/-- R381 (spec/09): Per R375 -/
def PGE_GCFG_DSMEN : Field := ⟨469, .pge, 1064, [], (0, 1), 3, 1, 0, .rw, fun _ => 0⟩

/-- R381 (spec/09): Per R375 -/
def PGE_GCFG_DSSEL0 : Field := ⟨470, .pge, 1064, [], (0, 1), 4, 6, 0, .rw, fun _ => 0⟩

/-- R381 (spec/09): Per R375 -/
def PGE_GCFG_DSSEL1 : Field := ⟨471, .pge, 1064, [], (0, 1), 10, 6, 0, .rw, fun _ => 0⟩

/-- R381 (spec/09): DSM[s] bits [31:0], for s = 0 to 3 (29, 31, 33, 35) (LO and HI registers as one value) -/
def PGE_DSM_V : Field := ⟨472, .pge, 1140, [(8, 4)], (0, 1), 0, 64, 0, .rw, fun _ => 0⟩

/-- R382 (spec/09): Per R376 -/
def PGE_PINMAP_KIND : Field := ⟨473, .pge, 16384, [(4, 512)], (0, 1), 0, 3, 0, .rw, fun _ => 0⟩

/-- R382 (spec/09): Bit index -/
def PGE_PINMAP_IDX : Field := ⟨474, .pge, 16384, [(4, 512)], (0, 1), 3, 6, 0, .rw, fun _ => 0⟩

/-- R382 (spec/09): 1 inverts the generated bit -/
def PGE_PINMAP_INV : Field := ⟨475, .pge, 16384, [(4, 512)], (0, 1), 9, 1, 0, .rw, fun _ => 0⟩

end Sys2Proof.Machine.Reg
end

