-- ==== Sys2Proof/Machine/RegsC.lean ====
section
/-!
DEFINITION. The register fields of the spec's register tables, one definition each, part C, and the
model's own scalar state words (access hidden: no address). A field's number is its place in the list;
power-on-class fields come first, then PCIe-hot-class fields, then the rest (R32).
-/

namespace Sys2Proof.Machine.Reg

/-- R420 (spec/10): 1 arms (R389) -/
def FCE_CTL_ARM : Field := ⟨476, .fce, 0, [], (0, 1), 0, 1, 0, .wo, fun _ => 0⟩

/-- R420 (spec/10): 1 ends capture (R390) -/
def FCE_CTL_END : Field := ⟨477, .fce, 0, [], (0, 1), 1, 1, 0, .wo, fun _ => 0⟩

/-- R420 (spec/10): 1 aborts analysis (R391) -/
def FCE_CTL_ABORT : Field := ⟨478, .fce, 0, [], (0, 1), 2, 1, 0, .wo, fun _ => 0⟩

/-- R420 (spec/10): 1 performs R392 -/
def FCE_CTL_SRST : Field := ⟨479, .fce, 0, [], (0, 1), 3, 1, 0, .wo, fun _ => 0⟩

/-- R420 (spec/10): Per R390 -/
def FCE_CTL_AUTOEND : Field := ⟨480, .fce, 0, [], (0, 1), 4, 1, 0, .rw, fun _ => 0⟩

/-- R420 (spec/10): Per R400 -/
def FCE_CTL_TRACE : Field := ⟨481, .fce, 0, [], (0, 1), 5, 1, 0, .rw, fun _ => 0⟩

/-- R420 (spec/10): Per R405 -/
def FCE_CTL_SITESTOP : Field := ⟨482, .fce, 0, [], (0, 1), 6, 1, 0, .rw, fun _ => 0⟩

/-- R420 (spec/10): Per R388 -/
def FCE_STAT_STATE : Field := ⟨483, .fce, 4, [], (0, 1), 0, 3, 0, .ro, fun _ => 0⟩

/-- R420 (spec/10): Per R39 -/
def FCE_STAT_ABORT_LATE : Field := ⟨484, .fce, 4, [], (0, 1), 3, 1, 0, .ro, fun _ => 0⟩

/-- R420 (spec/10): Per R389; cleared by the next ARM -/
def FCE_STAT_REASON : Field := ⟨485, .fce, 4, [], (0, 1), 4, 4, 0, .ro, fun _ => 0⟩

/-- R420 (spec/10): Per R390, R393 -/
def FCE_STAT_CFG_REJ : Field := ⟨486, .fce, 4, [], (0, 1), 8, 1, 0, .w1c, fun _ => 0⟩

/-- R420 (spec/10): Current record bank -/
def FCE_STAT_BANK : Field := ⟨487, .fce, 4, [], (0, 1), 9, 1, 0, .ro, fun _ => 0⟩

/-- R420 (spec/10): Per R404 -/
def FCE_FLAGS_F : Field := ⟨488, .fce, 8, [], (0, 1), 0, 8, 0, .ro, fun _ => 0⟩

/-- R420 (spec/10): Per R404 -/
def FCE_THRESH_COUNT : Field := ⟨489, .fce, 12, [], (0, 1), 0, 32, 0, .rw, fun _ => 0⟩

/-- R420 (spec/10): Per R403, bits [31:0] (LO and HI registers as one value) -/
def FCE_VDONE_VNUM : Field := ⟨490, .fce, 16, [], (0, 1), 0, 48, 0, .ro, fun _ => 0⟩

/-- R420 (spec/10): Per R403 -/
def FCE_VDONE_HI_VALID : Field := ⟨491, .fce, 20, [], (0, 1), 31, 1, 0, .ro, fun _ => 0⟩

/-- R420 (spec/10): Trace entries held -/
def FCE_TRACE_OCC : Field := ⟨492, .fce, 24, [], (0, 1), 0, 14, 0, .ro, fun _ => 0⟩

/-- R420 (spec/10): Per R401, saturating -/
def FCE_TRACE_MISS : Field := ⟨493, .fce, 24, [], (0, 1), 16, 16, 0, .rc, fun _ => 0⟩

/-- R420 (spec/10): Per R394, saturating -/
def FCE_ERR_UNMATCHED : Field := ⟨494, .fce, 28, [], (0, 1), 0, 16, 0, .rc, fun _ => 0⟩

/-- R420 (spec/10): Per R390, saturating -/
def FCE_ERR_OUTSIDE : Field := ⟨495, .fce, 28, [], (0, 1), 16, 16, 0, .rc, fun _ => 0⟩

/-- R420 (spec/10): Row field position -/
def FCE_DOM_ROW_ROWLO : Field := ⟨496, .fce, 64, [], (0, 1), 0, 6, 0, .rw, fun _ => 0⟩

/-- R420 (spec/10): Row bits, 1 to 16 -/
def FCE_DOM_ROW_RB : Field := ⟨497, .fce, 64, [], (0, 1), 8, 5, 0, .rw, fun _ => 12⟩

/-- R420 (spec/10): Column field position -/
def FCE_DOM_ROW_COLLO : Field := ⟨498, .fce, 64, [], (0, 1), 16, 6, 0, .rw, fun _ => 24⟩

/-- R420 (spec/10): Column bits, 1 to 16 -/
def FCE_DOM_ROW_CB : Field := ⟨499, .fce, 64, [], (0, 1), 24, 5, 0, .rw, fun _ => 12⟩

/-- R420 (spec/10): Domain field position -/
def FCE_DOM_SEL_DOMLO : Field := ⟨500, .fce, 68, [], (0, 1), 0, 6, 0, .rw, fun _ => 0⟩

/-- R420 (spec/10): Domain address bits, 0 to 16 -/
def FCE_DOM_SEL_DB : Field := ⟨501, .fce, 68, [], (0, 1), 8, 5, 0, .rw, fun _ => 0⟩

/-- R420 (spec/10): Z bits, 0 to 8; DB + ZB at most 16 -/
def FCE_DOM_SEL_ZB : Field := ⟨502, .fce, 68, [], (0, 1), 13, 4, 0, .rw, fun _ => 0⟩

/-- R420 (spec/10): DQ bits in c, 0 to 6; CB + DQX at most 16 -/
def FCE_DOM_SEL_DQX : Field := ⟨503, .fce, 68, [], (0, 1), 17, 3, 0, .rw, fun _ => 0⟩

/-- R420 (spec/10): 0 L, 1 A' -/
def FCE_DOM_SEL_ASEL : Field := ⟨504, .fce, 68, [], (0, 1), 20, 1, 0, .rw, fun _ => 0⟩

/-- R420 (spec/10): Spare rows, 0 to 24 -/
def FCE_DOM_SPARE_SR : Field := ⟨505, .fce, 72, [], (0, 1), 0, 5, 0, .rw, fun _ => 8⟩

/-- R420 (spec/10): Spare columns, 0 to 24 -/
def FCE_DOM_SPARE_SC : Field := ⟨506, .fce, 72, [], (0, 1), 8, 5, 0, .rw, fun _ => 8⟩

/-- R420 (spec/10): 0 rows, 1 columns -/
def FCE_DOM_SPARE_PREF : Field := ⟨507, .fce, 72, [], (0, 1), 16, 1, 0, .rw, fun _ => 0⟩

/-- R420 (spec/10): Per R409 -/
def FCE_DOM_FIX_FIX : Field := ⟨508, .fce, 76, [], (0, 1), 0, 16, 0, .rw, fun _ => 0⟩

/-- R421 (spec/10): Log ring base -/
def FCE_LOG_BASE_OFF : Field := ⟨509, .fce, 96, [], (0, 1), 0, 23, 5, .rw, fun _ => 0⟩

/-- R421 (spec/10): 1 enables the log -/
def FCE_LOG_CFG_EN : Field := ⟨510, .fce, 100, [], (0, 1), 0, 1, 0, .rw, fun _ => 0⟩

/-- R421 (spec/10): Entries 2^LOG2N; legal 6 to 16, other values act as 16 -/
def FCE_LOG_CFG_LOG2N : Field := ⟨511, .fce, 100, [], (0, 1), 1, 5, 0, .rw, fun _ => 10⟩

/-- R421 (spec/10): Per R407; 0 no limit -/
def FCE_LOG_CFG_LOGMAX : Field := ⟨512, .fce, 100, [], (0, 1), 16, 16, 0, .rw, fun _ => 0⟩

/-- R421 (spec/10): Next entry written -/
def FCE_LOG_WP_WP : Field := ⟨513, .fce, 104, [], (0, 1), 0, 16, 0, .ro, fun _ => 0⟩

/-- R421 (spec/10): Next entry read -/
def FCE_LOG_RP_RP : Field := ⟨514, .fce, 108, [], (0, 1), 0, 16, 0, .rw, fun _ => 0⟩

/-- R421 (spec/10): Per R407, saturating; cleared when OVF is cleared -/
def FCE_LOG_DROPS_COUNT : Field := ⟨515, .fce, 112, [], (0, 1), 0, 16, 0, .ro, fun _ => 0⟩

/-- R421 (spec/10): Per R407 -/
def FCE_LOG_DROPS_OVF : Field := ⟨516, .fce, 112, [], (0, 1), 16, 1, 0, .w1c, fun _ => 0⟩

/-- R421 (spec/10): Bitmap base -/
def FCE_BM_BASE_OFF : Field := ⟨517, .fce, 128, [], (0, 1), 0, 23, 6, .rw, fun _ => 0⟩

/-- R421 (spec/10): 1 enables the bitmap -/
def FCE_BM_CFG_EN : Field := ⟨518, .fce, 132, [], (0, 1), 0, 1, 0, .rw, fun _ => 0⟩

/-- R421 (spec/10): First site -/
def FCE_BM_CFG_SITE0 : Field := ⟨519, .fce, 132, [], (0, 1), 16, 10, 0, .rw, fun _ => 0⟩

/-- R421 (spec/10): Domain drawn -/
def FCE_BM_SEL_DOM : Field := ⟨520, .fce, 136, [], (0, 1), 0, 16, 0, .rw, fun _ => 0⟩

/-- R421 (spec/10): Sites, 1 to 1,024; 0 acts as 1 -/
def FCE_BM_SEL_NSITES : Field := ⟨521, .fce, 136, [], (0, 1), 16, 11, 0, .rw, fun _ => 1⟩

/-- R421 (spec/10): Table pool base -/
def FCE_POOL_BASE_OFF : Field := ⟨522, .fce, 160, [], (0, 1), 0, 23, 10, .rw, fun _ => 0⟩

/-- R421 (spec/10): Entries, 1 to 6,144; 0 acts as 1, above 6,144 as 6,144 -/
def FCE_POOL_N_N : Field := ⟨523, .fce, 164, [], (0, 1), 0, 13, 0, .rw, fun _ => 1024⟩

/-- R421 (spec/10): Entries in use -/
def FCE_POOL_USED_USED : Field := ⟨524, .fce, 168, [], (0, 1), 0, 13, 0, .ro, fun _ => 0⟩

/-- R421 (spec/10): Per R410, saturating -/
def FCE_POOL_USED_UNTRACKED : Field := ⟨525, .fce, 168, [], (0, 1), 16, 16, 0, .ro, fun _ => 0⟩

/-- R421 (spec/10): Record bank 0 base; holds POOL_N records -/
def FCE_REC_BASE0_OFF : Field := ⟨526, .fce, 192, [], (0, 1), 0, 23, 7, .rw, fun _ => 0⟩

/-- R421 (spec/10): Record bank 1 base -/
def FCE_REC_BASE1_OFF : Field := ⟨527, .fce, 196, [], (0, 1), 0, 23, 7, .rw, fun _ => 0⟩

/-- R421 (spec/10): Records in the current bank -/
def FCE_REC_CNT_COUNT : Field := ⟨528, .fce, 200, [], (0, 1), 0, 13, 0, .ro, fun _ => 0⟩

/-- R421 (spec/10): Tabirair time of the commit point, bits [31:0] (LO and HI registers as one value) -/
def FCE_REC_TIME_T : Field := ⟨529, .fce, 204, [], (0, 1), 0, 64, 0, .ro, fun _ => 0⟩

/-- R421 (spec/10): Per R418 -/
def FCE_NOTIFY_EP : Field := ⟨530, .fce, 224, [], (0, 1), 0, 16, 2, .rw, fun _ => 0⟩

/-- R421 (spec/10): Priority -/
def FCE_NOTIFY_PRIO : Field := ⟨531, .fce, 224, [], (0, 1), 16, 3, 0, .rw, fun _ => 4⟩

/-- R421 (spec/10): 1 sends the notice -/
def FCE_NOTIFY_EN : Field := ⟨532, .fce, 224, [], (0, 1), 24, 1, 0, .rw, fun _ => 0⟩

/-- R421 (spec/10): Statistics contract (R419) -/
def FCE_SOUT_FLOW : Field := ⟨533, .fce, 240, [], (0, 1), 0, 12, 0, .rw, fun _ => 0⟩

/-- R421 (spec/10): 1 enables snapshots -/
def FCE_SOUT_EN : Field := ⟨534, .fce, 240, [], (0, 1), 12, 1, 0, .rw, fun _ => 0⟩

/-- R421 (spec/10): Sites per packet, 1 to 31; 0 acts as 1 -/
def FCE_SOUT_SPKT : Field := ⟨535, .fce, 240, [], (0, 1), 16, 5, 0, .rw, fun _ => 31⟩

/-- R421 (spec/10): First site -/
def FCE_SOUT_RANGE_SITE0 : Field := ⟨536, .fce, 244, [], (0, 1), 0, 10, 0, .rw, fun _ => 0⟩

/-- R421 (spec/10): Sites, 1 to 1,024; 0 acts as 1 -/
def FCE_SOUT_RANGE_NS : Field := ⟨537, .fce, 244, [], (0, 1), 16, 11, 0, .rw, fun _ => 512⟩

/-- R421 (spec/10): Frames; 0 acts as 1 -/
def FCE_SOUT_PER_PERIOD : Field := ⟨538, .fce, 248, [], (0, 1), 0, 16, 0, .rw, fun _ => 2⟩

/-- R421 (spec/10): Per R419, saturating; cleared by ARM -/
def FCE_SOUT_PER_SKIPS : Field := ⟨539, .fce, 248, [], (0, 1), 16, 16, 0, .ro, fun _ => 0⟩

/-- R422 (spec/10): Input contract flow -/
def FCE_IN_CFG_FLOW : Field := ⟨540, .fce, 256, [(8, 16)], (0, 1), 0, 12, 0, .rw, fun _ => 0⟩

/-- R422 (spec/10): 1 enables the input -/
def FCE_IN_CFG_EN : Field := ⟨541, .fce, 256, [(8, 16)], (0, 1), 12, 1, 0, .rw, fun _ => 0⟩

/-- R422 (spec/10): A LAST record was processed in this run -/
def FCE_IN_STAT_LASTSEEN : Field := ⟨542, .fce, 260, [(8, 16)], (0, 1), 0, 1, 0, .ro, fun _ => 0⟩

/-- R422 (spec/10): Per R399 -/
def FCE_IN_STAT_BREACHED : Field := ⟨543, .fce, 260, [(8, 16)], (0, 1), 1, 1, 0, .w1c, fun _ => 0⟩

/-- R422 (spec/10): Per R396, saturating; cleared by ARM -/
def FCE_IN_STAT_GAPS : Field := ⟨544, .fce, 260, [(8, 16)], (0, 1), 16, 16, 0, .ro, fun _ => 0⟩

/-- R423 (spec/10): Site -/
def FCE_CHMAP_SITE : Field := ⟨545, .fce, 16384, [(4, 512)], (0, 1), 0, 10, 0, .rw, fun _ => 0⟩

/-- R423 (spec/10): DQ bit -/
def FCE_CHMAP_DQ : Field := ⟨546, .fce, 16384, [(4, 512)], (0, 1), 10, 6, 0, .rw, fun _ => 0⟩

/-- R423 (spec/10): 1 maps the channel -/
def FCE_CHMAP_EN : Field := ⟨547, .fce, 16384, [(4, 512)], (0, 1), 16, 1, 0, .rw, fun _ => 0⟩

/-- R424 (spec/10): 1 tracks the site (R393) -/
def FCE_SITE_FLAGS_EN : Field := ⟨548, .fce, 32768, [(32, 1024)], (0, 1), 0, 1, 0, .rw, fun _ => 0⟩

/-- R424 (spec/10): Per R402 -/
def FCE_SITE_FLAGS_FAIL : Field := ⟨549, .fce, 32768, [(32, 1024)], (0, 1), 1, 1, 0, .ro, fun _ => 0⟩

/-- R424 (spec/10): Per R412 -/
def FCE_SITE_FLAGS_UNREP : Field := ⟨550, .fce, 32768, [(32, 1024)], (0, 1), 2, 1, 0, .ro, fun _ => 0⟩

/-- R424 (spec/10): Per R396, R397, R401, R410, R413, R414 -/
def FCE_SITE_FLAGS_INCOMPLETE : Field := ⟨551, .fce, 32768, [(32, 1024)], (0, 1), 3, 1, 0, .ro, fun _ => 0⟩

/-- R424 (spec/10): Per R397 -/
def FCE_SITE_FLAGS_UNCAL : Field := ⟨552, .fce, 32768, [(32, 1024)], (0, 1), 4, 1, 0, .ro, fun _ => 0⟩

/-- R424 (spec/10): Per R405 -/
def FCE_SITE_FLAGS_STOPPED : Field := ⟨553, .fce, 32768, [(32, 1024)], (0, 1), 5, 1, 0, .ro, fun _ => 0⟩

/-- R424 (spec/10): Per R410 -/
def FCE_SITE_FLAGS_UNTRACKED : Field := ⟨554, .fce, 32768, [(32, 1024)], (0, 1), 6, 1, 0, .ro, fun _ => 0⟩

/-- R424 (spec/10): Unrepairable domains, saturating -/
def FCE_SITE_FLAGS_UNREPDOM : Field := ⟨555, .fce, 32768, [(32, 1024)], (0, 1), 16, 16, 0, .ro, fun _ => 0⟩

/-- R424 (spec/10): Per R402 -/
def FCE_SITE_FAILCNT_COUNT : Field := ⟨556, .fce, 32772, [(32, 1024)], (0, 1), 0, 32, 0, .ro, fun _ => 0⟩

/-- R424 (spec/10): First failing vector, bits [31:0] (LO and HI registers as one value) -/
def FCE_SITE_FFV_VNUM : Field := ⟨557, .fce, 32776, [(32, 1024)], (0, 1), 0, 48, 0, .ro, fun _ => 0⟩

/-- R424 (spec/10): First fail time, bits [31:0] (LO and HI registers as one value) -/
def FCE_SITE_FFT_T : Field := ⟨558, .fce, 32784, [(32, 1024)], (0, 1), 0, 64, 0, .ro, fun _ => 0⟩

/-- R424 (spec/10): Per R397, saturating -/
def FCE_SITE_CNT_LATE : Field := ⟨559, .fce, 32792, [(32, 1024)], (0, 1), 0, 16, 0, .ro, fun _ => 0⟩

/-- R424 (spec/10): Per R407, saturating -/
def FCE_SITE_CNT_LOGSKIP : Field := ⟨560, .fce, 32792, [(32, 1024)], (0, 1), 16, 16, 0, .ro, fun _ => 0⟩

/-- R462 (spec/11): Per R458 -/
def MSP_CTL_SRST : Field := ⟨561, .msp, 0, [], (0, 1), 0, 1, 0, .wo, fun _ => 0⟩

/-- R462 (spec/11): Per R456 -/
def MSP_STAT_STATE : Field := ⟨562, .msp, 4, [], (0, 1), 0, 3, 0, .ro, fun _ => 0⟩

/-- R462 (spec/11): Per R39 -/
def MSP_STAT_ABORT_LATE : Field := ⟨563, .msp, 4, [], (0, 1), 3, 1, 0, .ro, fun _ => 0⟩

/-- R462 (spec/11): Per R456 -/
def MSP_STAT_WAITING : Field := ⟨564, .msp, 4, [], (0, 1), 4, 1, 0, .ro, fun _ => 0⟩

/-- R462 (spec/11): Per R448 -/
def MSP_STAT_ECAUSE : Field := ⟨565, .msp, 4, [], (0, 1), 8, 4, 0, .ro, fun _ => 0⟩

/-- R462 (spec/11): Return stack depth, 0 to 4 -/
def MSP_STAT_DEPTH : Field := ⟨566, .msp, 4, [], (0, 1), 12, 3, 0, .ro, fun _ => 0⟩

/-- R462 (spec/11): Flag output -/
def MSP_STAT_FLAG : Field := ⟨567, .msp, 4, [], (0, 1), 15, 1, 0, .ro, fun _ => 0⟩

/-- R462 (spec/11): Per R461 and `MSP_CHc_CFG` -/
def MSP_STAT_CFG_REJ : Field := ⟨568, .msp, 4, [], (0, 1), 16, 1, 0, .w1c, fun _ => 0⟩

/-- R462 (spec/11): Next or faulting instruction -/
def MSP_PC_PC : Field := ⟨569, .msp, 8, [], (0, 1), 0, 14, 0, .ro, fun _ => 0⟩

/-- R462 (spec/11): First instruction -/
def MSP_ENTRY_PC : Field := ⟨570, .msp, 12, [], (0, 1), 0, 14, 0, .rw, fun _ => 0⟩

/-- R462 (spec/11): CODE of the last HALT -/
def MSP_HCODE_CODE : Field := ⟨571, .msp, 16, [], (0, 1), 0, 16, 0, .ro, fun _ => 0⟩

/-- R462 (spec/11): Cycles since the last start cycle, wrapping -/
def MSP_CYCLES_COUNT : Field := ⟨572, .msp, 20, [], (0, 1), 0, 32, 0, .ro, fun _ => 0⟩

/-- R462 (spec/11): Cycles lost per R433, saturating -/
def MSP_STALLS_COUNT : Field := ⟨573, .msp, 24, [], (0, 1), 0, 32, 0, .rc, fun _ => 0⟩

/-- R462 (spec/11): Dn, for n = 0 to 15 -/
def MSP_D_V : Field := ⟨574, .msp, 256, [(4, 16)], (0, 1), 0, 32, 0, .rw, fun _ => 0⟩

/-- R462 (spec/11): Aa bits [31:0], for a = 0 to 3 (LO and HI registers as one value) -/
def MSP_A_V : Field := ⟨575, .msp, 320, [(16, 4)], (0, 1), 0, 80, 0, .rw, fun _ => 0⟩

/-- R462 (spec/11): Pp, for p = 0 to 7 -/
def MSP_P_ADDR : Field := ⟨576, .msp, 384, [(4, 8)], (0, 1), 0, 14, 0, .rw, fun _ => 0⟩

/-- R462 (spec/11): Mp, laid out per R430 -/
def MSP_M_V : Field := ⟨577, .msp, 416, [(4, 8)], (0, 1), 0, 32, 0, .rw, fun _ => 0⟩

/-- R462 (spec/11): SR, laid out per R430 -/
def MSP_SR_V : Field := ⟨578, .msp, 448, [], (0, 1), 0, 7, 0, .rw, fun _ => 0⟩

/-- R462 (spec/11): IX -/
def MSP_IX_V : Field := ⟨579, .msp, 452, [], (0, 1), 0, 32, 0, .rw, fun _ => 0⟩

/-- R462 (spec/11): RC -/
def MSP_RC_V : Field := ⟨580, .msp, 456, [], (0, 1), 0, 17, 0, .ro, fun _ => 0⟩

/-- R462 (spec/11): Bit n: Dn poisoned -/
def MSP_POIS_D : Field := ⟨581, .msp, 460, [], (0, 1), 0, 16, 0, .ro, fun _ => 0⟩

/-- R462 (spec/11): Bit 16 + p: Pp poisoned -/
def MSP_POIS_P : Field := ⟨582, .msp, 460, [], (0, 1), 16, 8, 0, .ro, fun _ => 0⟩

/-- R462 (spec/11): Channel c, for c = 0 to 3 (R454) -/
def MSP_CH_CFG_FLOW : Field := ⟨583, .msp, 512, [(16, 4)], (0, 1), 0, 12, 0, .rw, fun _ => 0⟩

/-- R462 (spec/11): 1 enables the channel -/
def MSP_CH_CFG_EN : Field := ⟨584, .msp, 512, [(16, 4)], (0, 1), 12, 1, 0, .rw, fun _ => 0⟩

/-- R462 (spec/11): 1 contract, 0 best effort -/
def MSP_CH_CFG_CLASS : Field := ⟨585, .msp, 512, [(16, 4)], (0, 1), 13, 1, 0, .rw, fun _ => 0⟩

/-- R462 (spec/11): Per R454 -/
def MSP_CH_CFG_WAITCR : Field := ⟨586, .msp, 512, [(16, 4)], (0, 1), 14, 1, 0, .rw, fun _ => 1⟩

/-- R462 (spec/11): Best-effort and excess priority -/
def MSP_CH_CFG_PRIO : Field := ⟨587, .msp, 512, [(16, 4)], (0, 1), 15, 3, 0, .rw, fun _ => 4⟩

/-- R462 (spec/11): Best-effort destination -/
def MSP_CH_DEST_EP : Field := ⟨588, .msp, 516, [(16, 4)], (0, 1), 0, 16, 2, .rw, fun _ => 0⟩

/-- R462 (spec/11): Per R453 -/
def MSP_CH_STAT_PEND : Field := ⟨589, .msp, 520, [(16, 4)], (0, 1), 0, 1, 0, .ro, fun _ => 0⟩

/-- R462 (spec/11): Per R455 -/
def MSP_CH_STAT_BREACHED : Field := ⟨590, .msp, 520, [(16, 4)], (0, 1), 1, 1, 0, .w1c, fun _ => 0⟩

/-- R462 (spec/11): Packets injected, wrapping -/
def MSP_CH_STAT_SENT : Field := ⟨591, .msp, 520, [(16, 4)], (0, 1), 16, 16, 0, .ro, fun _ => 0⟩

/-- R463 (spec/11): Members named by GO, STOP and RESUME -/
def MSP_GRP_CTL_MASK : Field := ⟨592, .msp, 32768, [], (0, 1), 0, 8, 0, .rw, fun _ => 0⟩

/-- R463 (spec/11): Per R457 -/
def MSP_GRP_CTL_CLR : Field := ⟨593, .msp, 32768, [], (0, 1), 8, 1, 0, .rw, fun _ => 0⟩

/-- R463 (spec/11): Per R457 -/
def MSP_GRP_CTL_GO : Field := ⟨594, .msp, 32768, [], (0, 1), 9, 1, 0, .wo, fun _ => 0⟩

/-- R463 (spec/11): Per R457 -/
def MSP_GRP_CTL_ABORT : Field := ⟨595, .msp, 32768, [], (0, 1), 10, 1, 0, .wo, fun _ => 0⟩

/-- R463 (spec/11): Per R458 -/
def MSP_GRP_CTL_STOP : Field := ⟨596, .msp, 32768, [], (0, 1), 11, 1, 0, .wo, fun _ => 0⟩

/-- R463 (spec/11): Per R458 -/
def MSP_GRP_CTL_RESUME : Field := ⟨597, .msp, 32768, [], (0, 1), 12, 1, 0, .wo, fun _ => 0⟩

/-- R463 (spec/11): Start time bits [31:0] (LO and HI registers as one value) -/
def MSP_GRP_AT_AT : Field := ⟨598, .msp, 32772, [], (0, 1), 0, 64, 0, .rw, fun _ => 0⟩

/-- R463 (spec/11): Start operation, per R39 -/
def MSP_GRP_STAT_STATE : Field := ⟨599, .msp, 32780, [], (0, 1), 0, 3, 0, .ro, fun _ => 0⟩

/-- R463 (spec/11): Per R39 -/
def MSP_GRP_STAT_ABORT_LATE : Field := ⟨600, .msp, 32780, [], (0, 1), 3, 1, 0, .ro, fun _ => 0⟩

/-- R463 (spec/11): Per R457; cleared by the next GO -/
def MSP_GRP_STAT_REASON : Field := ⟨601, .msp, 32780, [], (0, 1), 4, 2, 0, .ro, fun _ => 0⟩

/-- R463 (spec/11): Barrier members (R460) -/
def MSP_GRP_BAR_MASK : Field := ⟨602, .msp, 32784, [], (0, 1), 0, 8, 0, .rw, fun _ => 255⟩

/-- R463 (spec/11): Per R450, saturating -/
def MSP_GRP_ERR_UNMATCHED : Field := ⟨603, .msp, 32788, [], (0, 1), 0, 16, 0, .rc, fun _ => 0⟩

/-- R463 (spec/11): Inbox j, for j = 0 to 15 -/
def MSP_IBX_CFG_FLOW : Field := ⟨604, .msp, 33024, [(16, 16)], (0, 1), 0, 12, 0, .rw, fun _ => 0⟩

/-- R463 (spec/11): 1 enables the inbox; setting it clears WP and RP -/
def MSP_IBX_CFG_EN : Field := ⟨605, .msp, 33024, [(16, 16)], (0, 1), 12, 1, 0, .rw, fun _ => 0⟩

/-- R463 (spec/11): Member holding the ring -/
def MSP_IBX_CFG_MSP : Field := ⟨606, .msp, 33024, [(16, 16)], (0, 1), 13, 3, 0, .rw, fun _ => 0⟩

/-- R463 (spec/11): 0 X, 1 Y -/
def MSP_IBX_CFG_MEM : Field := ⟨607, .msp, 33024, [(16, 16)], (0, 1), 16, 1, 0, .rw, fun _ => 0⟩

/-- R463 (spec/11): Ring size; values below 6 act as 6, above 13 as 13 -/
def MSP_IBX_CFG_LOG2W : Field := ⟨608, .msp, 33024, [(16, 16)], (0, 1), 17, 4, 0, .rw, fun _ => 6⟩

/-- R463 (spec/11): Ring base, in 64-bit words; the low LOG2W bits read as 0 -/
def MSP_IBX_BASE_BASE : Field := ⟨609, .msp, 33028, [(16, 16)], (0, 1), 0, 13, 0, .rw, fun _ => 0⟩

/-- R463 (spec/11): Per R451 -/
def MSP_IBX_PTR_WP : Field := ⟨610, .msp, 33032, [(16, 16)], (0, 1), 0, 13, 0, .ro, fun _ => 0⟩

/-- R463 (spec/11): Per R451 -/
def MSP_IBX_PTR_RP : Field := ⟨611, .msp, 33032, [(16, 16)], (0, 1), 16, 13, 0, .rw, fun _ => 0⟩

/-- R463 (spec/11): Per R452, saturating -/
def MSP_IBX_STAT_DROPS : Field := ⟨612, .msp, 33036, [(16, 16)], (0, 1), 0, 16, 0, .rc, fun _ => 0⟩

/-- R463 (spec/11): Per R455 -/
def MSP_IBX_STAT_BREACHED : Field := ⟨613, .msp, 33036, [(16, 16)], (0, 1), 16, 1, 0, .w1c, fun _ => 0⟩

/-- R493 (spec/12): Owner of bank n, for n = 0 to 63; a write starts a handover (R469); bi -/
def SPD_OWN_EP : Field := ⟨614, .spd, 0, [(4, 64)], (0, 1), 0, 16, 2, .rw, fun _ => 65532⟩

/-- R493 (spec/12): Handover, per R39 -/
def SPD_OWN_STATE : Field := ⟨615, .spd, 0, [(4, 64)], (0, 1), 16, 3, 0, .ro, fun _ => 0⟩

/-- R493 (spec/12): Per R39 -/
def SPD_OWN_ABORT_LATE : Field := ⟨616, .spd, 0, [(4, 64)], (0, 1), 19, 1, 0, .ro, fun _ => 0⟩

/-- R493 (spec/12): 1 aborts (R470); EP is then not written -/
def SPD_OWN_ABORT : Field := ⟨617, .spd, 0, [(4, 64)], (0, 1), 20, 1, 0, .wo, fun _ => 0⟩

/-- R493 (spec/12): Bank to invalidate -/
def SPD_INV_BANK : Field := ⟨618, .spd, 256, [], (0, 1), 0, 6, 0, .wo, fun _ => 0⟩

/-- R493 (spec/12): 1 starts R480 -/
def SPD_INV_GO : Field := ⟨619, .spd, 256, [], (0, 1), 8, 1, 0, .wo, fun _ => 0⟩

/-- R493 (spec/12): Bit n: sweep of bank n in progress (LO and HI registers as one value) -/
def SPD_INVBUSY_BANKS : Field := ⟨620, .spd, 260, [], (0, 1), 0, 64, 0, .ro, fun _ => 0⟩

/-- R493 (spec/12): Denials (R467, R468), saturating -/
def SPD_DENY_COUNT : Field := ⟨621, .spd, 272, [], (0, 1), 0, 16, 0, .rc, fun _ => 0⟩

/-- R493 (spec/12): Requester of the last denial -/
def SPD_DENY_LAST_SRC : Field := ⟨622, .spd, 276, [], (0, 1), 0, 16, 0, .ro, fun _ => 0⟩

/-- R493 (spec/12): Its bank -/
def SPD_DENY_LAST_BANK : Field := ⟨623, .spd, 276, [], (0, 1), 16, 6, 0, .ro, fun _ => 0⟩

/-- R493 (spec/12): 1 when it was a refused register write -/
def SPD_DENY_LAST_OWNWR : Field := ⟨624, .spd, 276, [], (0, 1), 22, 1, 0, .ro, fun _ => 0⟩

/-- R494 (spec/12): Byte offset within the BD's 16 MB -/
def SPD_CPY_LOCAL_OFF : Field := ⟨625, .spd, 4096, [(64, 8)], (0, 1), 0, 24, 3, .rw, fun _ => 0⟩

/-- R494 (spec/12): Remote address bits [31:3] (LO and HI registers as one value) -/
def SPD_CPY_REMOTE_ADDR : Field := ⟨626, .spd, 4100, [(64, 8)], (0, 1), 0, 48, 3, .rw, fun _ => 0⟩

/-- R494 (spec/12): Bytes to copy -/
def SPD_CPY_LEN_BYTES : Field := ⟨627, .spd, 4108, [(64, 8)], (0, 1), 0, 22, 3, .rw, fun _ => 0⟩

/-- R494 (spec/12): 0 remote to local, 1 local to remote -/
def SPD_CPY_CFG_DIR : Field := ⟨628, .spd, 4112, [(64, 8)], (0, 1), 0, 1, 0, .rw, fun _ => 0⟩

/-- R494 (spec/12): Best-effort priority -/
def SPD_CPY_CFG_PRIO : Field := ⟨629, .spd, 4112, [(64, 8)], (0, 1), 1, 3, 0, .rw, fun _ => 4⟩

/-- R494 (spec/12): Per R476 -/
def SPD_CPY_CTL_START : Field := ⟨630, .spd, 4116, [(64, 8)], (0, 1), 0, 1, 0, .wo, fun _ => 0⟩

/-- R494 (spec/12): Per R479 -/
def SPD_CPY_CTL_STOP : Field := ⟨631, .spd, 4116, [(64, 8)], (0, 1), 1, 1, 0, .wo, fun _ => 0⟩

/-- R494 (spec/12): 0 IDLE, 1 BUSY, 2 DONE, 4 FAILED, 6 STOPPED -/
def SPD_CPY_STAT_STATE : Field := ⟨632, .spd, 4120, [(64, 8)], (0, 1), 0, 3, 0, .ro, fun _ => 0⟩

/-- R494 (spec/12): 0 none, 1 range, 2 denied, 3 remote status, 4 poison -/
def SPD_CPY_STAT_ERR : Field := ⟨633, .spd, 4120, [(64, 8)], (0, 1), 4, 3, 0, .ro, fun _ => 0⟩

/-- R494 (spec/12): STATUS of the failing response -/
def SPD_CPY_STAT_RSTATUS : Field := ⟨634, .spd, 4120, [(64, 8)], (0, 1), 8, 3, 0, .ro, fun _ => 0⟩

/-- R494 (spec/12): Per R478 -/
def SPD_CPY_DONE_BYTES : Field := ⟨635, .spd, 4124, [(64, 8)], (0, 1), 0, 22, 0, .ro, fun _ => 0⟩

/-- R494 (spec/12): Failing word address bits [31:0] (LO and HI registers as one value) -/
def SPD_CPY_EADDR_ADDR : Field := ⟨636, .spd, 4128, [(64, 8)], (0, 1), 0, 48, 0, .ro, fun _ => 0⟩

/-- R494 (spec/12): Requester latched by START -/
def SPD_CPY_REQ_EP : Field := ⟨637, .spd, 4136, [(64, 8)], (0, 1), 0, 16, 0, .ro, fun _ => 0⟩

/-- R495 (spec/12): Per R486 -/
def ECC_SCRUB_EN : Field := ⟨638, .ecc, 0, [], (0, 1), 0, 1, 0, .rw, fun _ => 1⟩

/-- R495 (spec/12): Units of 2³⁰ ticks; 0 acts as 1 -/
def ECC_SCRUB_PERIOD : Field := ⟨639, .ecc, 0, [], (0, 1), 16, 16, 0, .rw, fun _ => 1024⟩

/-- R495 (spec/12): Passes completed, wrapping -/
def ECC_SCRUB_STAT_PASSES : Field := ⟨640, .ecc, 4, [], (0, 1), 0, 16, 0, .ro, fun _ => 0⟩

/-- R495 (spec/12): Per R486, saturating -/
def ECC_SCRUB_STAT_SKIPS : Field := ⟨641, .ecc, 4, [], (0, 1), 16, 16, 0, .rc, fun _ => 0⟩

/-- R495 (spec/12): Per R488; 0 acts as 1 -/
def ECC_ROWCFG_THRESH : Field := ⟨642, .ecc, 8, [], (0, 1), 0, 3, 0, .rw, fun _ => 3⟩

/-- R495 (spec/12): Window 2^WINLOG ticks; below 20 acts as 20, above 50 as 50 -/
def ECC_ROWCFG_WINLOG : Field := ⟨643, .ecc, 8, [], (0, 1), 8, 6, 0, .rw, fun _ => 40⟩

/-- R495 (spec/12): Per R489 -/
def ECC_ROWCFG_REMAP_EN : Field := ⟨644, .ecc, 8, [], (0, 1), 16, 1, 0, .rw, fun _ => 1⟩

/-- R495 (spec/12): Scratchpad CEs, saturating -/
def ECC_CE_SPD : Field := ⟨645, .ecc, 16, [], (0, 1), 0, 16, 0, .rc, fun _ => 0⟩

/-- R495 (spec/12): Fail memory CEs -/
def ECC_CE_FM : Field := ⟨646, .ecc, 16, [], (0, 1), 16, 16, 0, .rc, fun _ => 0⟩

/-- R495 (spec/12): MSP memory CEs -/
def ECC_CE_MSP_COUNT : Field := ⟨647, .ecc, 20, [], (0, 1), 0, 16, 0, .rc, fun _ => 0⟩

/-- R495 (spec/12): Fresh UEs, saturating at 255 -/
def ECC_UE_SPD : Field := ⟨648, .ecc, 24, [], (0, 1), 0, 8, 0, .rc, fun _ => 0⟩

/-- R495 (spec/12): The same for fail memory -/
def ECC_UE_FM : Field := ⟨649, .ecc, 24, [], (0, 1), 8, 8, 0, .rc, fun _ => 0⟩

/-- R495 (spec/12): The same for MSP memories -/
def ECC_UE_MSP : Field := ⟨650, .ecc, 24, [], (0, 1), 16, 8, 0, .rc, fun _ => 0⟩

/-- R495 (spec/12): Address of the last CE or UE, bits [31:0] (LO and HI registers as one value) -/
def ECC_LAST_ADDR : Field := ⟨651, .ecc, 32, [], (0, 1), 0, 48, 0, .ro, fun _ => 0⟩

/-- R495 (spec/12): 0 none, 1 CE, 2 UE; 3 never shown -/
def ECC_LAST_HI_KIND : Field := ⟨652, .ecc, 36, [], (0, 1), 16, 2, 0, .ro, fun _ => 0⟩

/-- R495 (spec/12): 0 scratchpad, 1 fail memory, 2 MSP memory; 3 does nothing -/
def ECC_INV_CLASS : Field := ⟨653, .ecc, 48, [], (0, 1), 0, 2, 0, .wo, fun _ => 0⟩

/-- R495 (spec/12): Bank 0–63, bank 0–31, or 3 × (m mod 32) + memory (0 program, 1 X, 2 Y) -/
def ECC_INV_UNIT : Field := ⟨654, .ecc, 48, [], (0, 1), 4, 7, 0, .wo, fun _ => 0⟩

/-- R495 (spec/12): 1 starts R480 -/
def ECC_INV_GO : Field := ⟨655, .ecc, 48, [], (0, 1), 12, 1, 0, .wo, fun _ => 0⟩

/-- R495 (spec/12): 1 while any sweep of this BD runs -/
def ECC_INV_STAT_BUSY : Field := ⟨656, .ecc, 52, [], (0, 1), 0, 1, 0, .ro, fun _ => 0⟩

/-- R495 (spec/12): Spare rows free on this BD -/
def ECC_SPARE_FREE : Field := ⟨657, .ecc, 64, [], (0, 1), 0, 16, 0, .ro, fun _ => 1152⟩

/-- R495 (spec/12): Per R492, saturating -/
def ECC_SPARE_MAPERR : Field := ⟨658, .ecc, 64, [], (0, 1), 16, 8, 0, .ro, fun _ => 0⟩

/-- R495 (spec/12): Per R487, saturating -/
def ECC_TRK_MISS : Field := ⟨659, .ecc, 68, [], (0, 1), 0, 16, 0, .rc, fun _ => 0⟩

/-- R495 (spec/12): Live tracker entries, 0 to 64 -/
def ECC_TRK_LIVE : Field := ⟨660, .ecc, 68, [], (0, 1), 16, 7, 0, .ro, fun _ => 0⟩

/-- R495 (spec/12): Non-empty field-map entries in the package, 0 to 2,048 -/
def ECC_FMAP_USED : Field := ⟨661, .ecc, 72, [], (0, 1), 0, 12, 0, .ro, fun _ => 0⟩

/-- R518 (spec/13): 0 6,400; 1 7,500; 2 8,533; 3 9,600; 4 10,667 MT/s; 5 to 7 act as 4 -/
def LPX_CFG_RATE : Field := ⟨662, .lpx, 0, [], (0, 1), 0, 3, 0, .rw, fun _ => 4⟩

/-- R518 (spec/13): Per R506 -/
def LPX_CFG_INLINE : Field := ⟨663, .lpx, 0, [], (0, 1), 4, 1, 0, .rw, fun _ => 0⟩

/-- R518 (spec/13): Per R516 -/
def LPX_CFG_PD_IDLE : Field := ⟨664, .lpx, 0, [], (0, 1), 16, 16, 0, .rw, fun _ => 64⟩

/-- R518 (spec/13): Per R513 -/
def LPX_CTL_DET : Field := ⟨665, .lpx, 4, [], (0, 1), 0, 1, 0, .rw, fun _ => 0⟩

/-- R518 (spec/13): Per R511 -/
def LPX_CTL_RETRAIN : Field := ⟨666, .lpx, 4, [], (0, 1), 1, 1, 0, .wo, fun _ => 0⟩

/-- R518 (spec/13): Aborts RETRAIN -/
def LPX_CTL_ABORT : Field := ⟨667, .lpx, 4, [], (0, 1), 2, 1, 0, .wo, fun _ => 0⟩

/-- R518 (spec/13): Per R510 -/
def LPX_STAT_CSTATE : Field := ⟨668, .lpx, 8, [], (0, 1), 0, 3, 0, .ro, fun _ => 0⟩

/-- R518 (spec/13): Per R513 -/
def LPX_STAT_DET_ON : Field := ⟨669, .lpx, 8, [], (0, 1), 3, 1, 0, .ro, fun _ => 0⟩

/-- R518 (spec/13): Per R515 -/
def LPX_STAT_DET_DEGRADED : Field := ⟨670, .lpx, 8, [], (0, 1), 4, 1, 0, .ro, fun _ => 0⟩

/-- R518 (spec/13): Per R511, R513 -/
def LPX_STAT_CFG_REJ : Field := ⟨671, .lpx, 8, [], (0, 1), 5, 1, 0, .w1c, fun _ => 0⟩

/-- R518 (spec/13): RETRAIN, per R39 -/
def LPX_STAT_OP_STATE : Field := ⟨672, .lpx, 8, [], (0, 1), 8, 3, 0, .ro, fun _ => 0⟩

/-- R518 (spec/13): Per R39 -/
def LPX_STAT_ABORT_LATE : Field := ⟨673, .lpx, 8, [], (0, 1), 11, 1, 0, .ro, fun _ => 0⟩

/-- R518 (spec/13): Per R510 -/
def LPX_STAT_FAILCODE : Field := ⟨674, .lpx, 8, [], (0, 1), 12, 4, 0, .ro, fun _ => 0⟩

/-- R518 (spec/13): 0 8 Gb, 1 16 Gb, 2 32 Gb -/
def LPX_DEV_DENSITY : Field := ⟨675, .lpx, 12, [], (0, 1), 0, 2, 0, .ro, fun _ => 0⟩

/-- R518 (spec/13): 0 one, 1 two -/
def LPX_DEV_RANKS : Field := ⟨676, .lpx, 12, [], (0, 1), 2, 1, 0, .ro, fun _ => 0⟩

/-- R518 (spec/13): MR5 -/
def LPX_DEV_MFR : Field := ⟨677, .lpx, 12, [], (0, 1), 8, 8, 0, .ro, fun _ => 0⟩

/-- R518 (spec/13): MR6 -/
def LPX_DEV_REV : Field := ⟨678, .lpx, 12, [], (0, 1), 16, 8, 0, .ro, fun _ => 0⟩

/-- R518 (spec/13): Usable capacity in 256 MB units; 0 unless READY or SRPD -/
def LPX_DEV_U : Field := ⟨679, .lpx, 12, [], (0, 1), 24, 7, 0, .ro, fun _ => 0⟩

/-- R518 (spec/13): Per R504, saturating -/
def LPX_ERR_LINK_CE : Field := ⟨680, .lpx, 16, [], (0, 1), 0, 16, 0, .rc, fun _ => 0⟩

/-- R518 (spec/13): Per R507, saturating -/
def LPX_ERR_INLINE_CE : Field := ⟨681, .lpx, 16, [], (0, 1), 16, 16, 0, .rc, fun _ => 0⟩

/-- R518 (spec/13): Uncorrectable errors, saturating -/
def LPX_ERR2_UE : Field := ⟨682, .lpx, 20, [], (0, 1), 0, 8, 0, .rc, fun _ => 0⟩

/-- R518 (spec/13): Latest MR4 refresh-rate field -/
def LPX_ERR2_MR4_RR : Field := ⟨683, .lpx, 20, [], (0, 1), 8, 5, 0, .ro, fun _ => 0⟩

/-- R518 (spec/13): Address of the last error, bits [31:0] (LO and HI registers as one value) -/
def LPX_ELAST_ADDR : Field := ⟨684, .lpx, 24, [], (0, 1), 0, 48, 0, .ro, fun _ => 0⟩

/-- R519 (spec/13): Per R501, R502 -/
def LPX_MAP_MODE : Field := ⟨685, .lpx, 32768, [], (0, 1), 0, 1, 0, .rw, fun _ => 0⟩

/-- R519 (spec/13): Per R502 -/
def LPX_MAP_MAP_REJ : Field := ⟨686, .lpx, 32768, [], (0, 1), 1, 1, 0, .w1c, fun _ => 0⟩

/-- R519 (spec/13): Mapped LPDDR5X, in 256 MB units -/
def LPX_MAP_TOTAL_U : Field := ⟨687, .lpx, 32772, [], (0, 1), 0, 11, 0, .ro, fun _ => 0⟩

/-- R586 (spec/15): µs; 0 acts as 1 -/
def CTL_WDT_CFG_PERIOD : Field := ⟨688, .dbg, 16384, [(256, 6)], (0, 1), 0, 24, 0, .rw, fun _ => 1000000⟩

/-- R586 (spec/15): Per R563 -/
def CTL_WDT_CFG_EN : Field := ⟨689, .dbg, 16384, [(256, 6)], (0, 1), 24, 1, 0, .rw, fun _ => 0⟩

/-- R586 (spec/15): Per R564 -/
def CTL_WDT_CFG_FREEZE : Field := ⟨690, .dbg, 16384, [(256, 6)], (0, 1), 25, 1, 0, .rw, fun i => if i < 4 then 1 else 0⟩

/-- R586 (spec/15): 0 reset hart n; 1 reset all four harts -/
def CTL_WDT_CFG_ACTION : Field := ⟨691, .dbg, 16384, [(256, 6)], (0, 1), 26, 1, 0, .rw, fun _ => 0⟩

/-- R586 (spec/15): Per R563 -/
def CTL_WDT_KICK_KEY : Field := ⟨692, .dbg, 16388, [(256, 6)], (0, 1), 0, 16, 0, .wo, fun _ => 0⟩

/-- R586 (spec/15): Current count -/
def CTL_WDT_STAT_COUNT : Field := ⟨693, .dbg, 16392, [(256, 6)], (0, 1), 0, 24, 0, .ro, fun _ => 1000000⟩

/-- R586 (spec/15): Per R563 -/
def CTL_WDT_STAT_STAGE : Field := ⟨694, .dbg, 16392, [(256, 6)], (0, 1), 24, 1, 0, .ro, fun _ => 0⟩

/-- R586 (spec/15): 1 while paused -/
def CTL_WDT_STAT_PAUSED : Field := ⟨695, .dbg, 16392, [(256, 6)], (0, 1), 25, 1, 0, .ro, fun _ => 0⟩

/-- R586 (spec/15): Boot address bits [31:0] (LO and HI registers as one value) -/
def CTL_BOOT_ADDR : Field := ⟨696, .dbg, 16400, [(256, 4)], (0, 1), 0, 48, 0, .rw, fun _ => 481036337152⟩

/-- R586 (spec/15): Per R585 -/
def CTL_FRZ_COPY : Field := ⟨697, .dbg, 16408, [(256, 4)], (0, 1), 0, 1, 0, .rw, fun _ => 0⟩

/-- R586 (spec/15): Per R585 -/
def CTL_FRZ_PDMA : Field := ⟨698, .dbg, 16408, [(256, 4)], (0, 1), 1, 1, 0, .rw, fun _ => 0⟩

/-- R586 (spec/15): 1 resets hart n per R563 -/
def CTL_HRST_GO : Field := ⟨699, .dbg, 16412, [(256, 4)], (0, 1), 0, 1, 0, .wo, fun _ => 0⟩

/-- R587 (spec/15): Corrected cache errors, saturating -/
def CTL_CACHE_ERR_CE : Field := ⟨700, .dbg, 18432, [], (0, 1), 0, 16, 0, .rc, fun _ => 0⟩

/-- R587 (spec/15): Words stored poisoned, saturating -/
def CTL_CACHE_ERR_UE : Field := ⟨701, .dbg, 18432, [], (0, 1), 16, 8, 0, .rc, fun _ => 0⟩

/-- R587 (spec/15): mtime bits [31:0] (LO and HI registers as one value) -/
def CTL_MTIME_T : Field := ⟨702, .dbg, 28672, [], (0, 1), 0, 64, 0, .ro, fun _ => 0⟩

/-- R587 (spec/15): Hart n (LO and HI registers as one value) -/
def CTL_MTIMECMP_T : Field := ⟨703, .dbg, 28688, [(8, 4)], (0, 1), 0, 64, 0, .rw, fun _ => 18446744073709551615⟩

/-- R587 (spec/15): Bit n: MSIP of hart n -/
def CTL_MSIP_P : Field := ⟨704, .dbg, 28736, [], (0, 1), 0, 4, 0, .rw, fun _ => 0⟩

/-- R625 (spec/16): 1 starts a staged operation (R611) -/
def DWN_CTL_GO : Field := ⟨705, .dwn, 0, [], (0, 1), 0, 1, 0, .wo, fun _ => 0⟩

/-- R625 (spec/16): 0 full, 1 partial -/
def DWN_CTL_KIND : Field := ⟨706, .dwn, 0, [], (0, 1), 1, 1, 0, .rw, fun _ => 0⟩

/-- R625 (spec/16): Per R613 -/
def DWN_CTL_ABORT : Field := ⟨707, .dwn, 0, [], (0, 1), 2, 1, 0, .wo, fun _ => 0⟩

/-- R625 (spec/16): Per R39; boot loads also show BUSY, DONE and FAILED -/
def DWN_STAT_STATE : Field := ⟨708, .dwn, 4, [], (0, 1), 0, 3, 0, .ro, fun _ => 0⟩

/-- R625 (spec/16): Per R39 -/
def DWN_STAT_ABORT_LATE : Field := ⟨709, .dwn, 4, [], (0, 1), 3, 1, 0, .ro, fun _ => 0⟩

/-- R625 (spec/16): 0 none, 1 header, 2 reading, 3 verifying, 4 contract check, 5 applying -/
def DWN_STAT_PHASE : Field := ⟨710, .dwn, 4, [], (0, 1), 4, 3, 0, .ro, fun _ => 0⟩

/-- R625 (spec/16): Per R606 -/
def DWN_STAT_CODE : Field := ⟨711, .dwn, 4, [], (0, 1), 8, 8, 0, .ro, fun _ => 0⟩

/-- R625 (spec/16): 0 flash, 1 DWN page, 2 PCI page -/
def DWN_STAT_SRC : Field := ⟨712, .dwn, 4, [], (0, 1), 16, 2, 0, .ro, fun _ => 0⟩

/-- R625 (spec/16): 1 after a full configuration's commit point -/
def DWN_STAT_CONFIGURED : Field := ⟨713, .dwn, 4, [], (0, 1), 18, 1, 0, .ro, fun _ => 0⟩

end Sys2Proof.Machine.Reg
end

