-- ==== Sys2Proof/Machine/RegsD.lean ====
section
/-!
DEFINITION. The register fields of the spec's register tables, one definition each, part D, and the
model's own scalar state words (access hidden: no address). A field's number is its place in the list;
power-on-class fields come first, then PCIe-hot-class fields, then the rest (R32).
-/

namespace Sys2Proof.Machine.Reg

/-- R625 (spec/16): Source bits [31:0] (LO and HI registers as one value) -/
def DWN_SRC_ADDR : Field := ⟨714, .dwn, 8, [], (0, 1), 0, 48, 0, .rw, fun _ => 0⟩

/-- R625 (spec/16): Source length -/
def DWN_SRC_LEN_BYTES : Field := ⟨715, .dwn, 16, [], (0, 1), 0, 32, 0, .rw, fun _ => 0⟩

/-- R625 (spec/16): Release time bits [31:0] (LO and HI registers as one value) -/
def DWN_REL_AT_AT : Field := ⟨716, .dwn, 20, [], (0, 1), 0, 64, 0, .rw, fun _ => 0⟩

/-- R625 (spec/16): Per R618 -/
def DWN_REL_CTL_GO : Field := ⟨717, .dwn, 28, [], (0, 1), 0, 1, 0, .wo, fun _ => 0⟩

/-- R625 (spec/16): Per R618 -/
def DWN_REL_CTL_REJ : Field := ⟨718, .dwn, 28, [], (0, 1), 1, 1, 0, .w1c, fun _ => 0⟩

/-- R625 (spec/16): Directory entry in effect or being tried -/
def DWN_BOOT_ENTRY : Field := ⟨719, .dwn, 32, [], (0, 1), 0, 2, 0, .ro, fun _ => 0⟩

/-- R625 (spec/16): Per R595 -/
def DWN_BOOT_BOOTSRC : Field := ⟨720, .dwn, 32, [], (0, 1), 8, 2, 0, .ro, fun _ => 0⟩

/-- R625 (spec/16): Per R599 -/
def DWN_BOOT_QUAD_FB : Field := ⟨721, .dwn, 32, [], (0, 1), 10, 1, 0, .ro, fun _ => 0⟩

/-- R625 (spec/16): 1 when the copy at 0x1_0000 was used -/
def DWN_BOOT_DIRCOPY : Field := ⟨722, .dwn, 32, [], (0, 1), 11, 1, 0, .ro, fun _ => 0⟩

/-- R625 (spec/16): Per R624 -/
def DWN_BOOT_NOCFG : Field := ⟨723, .dwn, 32, [], (0, 1), 12, 1, 0, .ro, fun _ => 0⟩

/-- R625 (spec/16): Reload image bits [31:0] (LO and HI registers as one value) -/
def DWN_RELOAD_ADDR : Field := ⟨724, .dwn, 40, [], (0, 1), 0, 48, 0, .rw, fun _ => 0⟩

/-- R625 (spec/16): Reload image length -/
def DWN_RELOAD_LEN_BYTES : Field := ⟨725, .dwn, 48, [], (0, 1), 0, 32, 0, .rw, fun _ => 0⟩

/-- R625 (spec/16): Per R621 -/
def DWN_RELOAD_CTL_EN : Field := ⟨726, .dwn, 52, [], (0, 1), 0, 1, 0, .rw, fun _ => 0⟩

/-- R625 (spec/16): Per R621; cleared by any write of the reload registers -/
def DWN_RELOAD_CTL_RELOAD_OK : Field := ⟨727, .dwn, 52, [], (0, 1), 1, 1, 0, .ro, fun _ => 0⟩

/-- R625 (spec/16): Signed digest of the stream in effect, bytes 4i to 4i + 3, for i = 0 t -/
def DWN_DIGEST_V : Field := ⟨728, .dwn, 64, [], (0, 1), 0, 384, 0, .ro, fun _ => 0⟩

/-- R625 (spec/16): Per R619 -/
def DWN_RBK_ADDR_FRAME : Field := ⟨729, .dwn, 128, [], (0, 1), 0, 21, 0, .rw, fun _ => 0⟩

/-- R625 (spec/16): FD k readback engine (R620) -/
def DWN_RBFD_CTL_EN : Field := ⟨730, .dwn, 512, [(16, 8)], (0, 1), 0, 1, 0, .rw, fun _ => 1⟩

/-- R625 (spec/16): Corrected frames, saturating -/
def DWN_RBFD_CNT_SBE : Field := ⟨731, .dwn, 516, [(16, 8)], (0, 1), 0, 16, 0, .rc, fun _ => 0⟩

/-- R625 (spec/16): Multi-bit errors, saturating -/
def DWN_RBFD_CNT_MBE : Field := ⟨732, .dwn, 516, [(16, 8)], (0, 1), 16, 16, 0, .rc, fun _ => 0⟩

/-- R625 (spec/16): Full scans, wrapping -/
def DWN_RBFD_SCANS_COUNT : Field := ⟨733, .dwn, 520, [(16, 8)], (0, 1), 0, 32, 0, .ro, fun _ => 0⟩

/-- R625 (spec/16): Frame of the last multi-bit error -/
def DWN_RBFD_LAST_FRAME : Field := ⟨734, .dwn, 524, [(16, 8)], (0, 1), 0, 21, 0, .ro, fun _ => 0⟩

/-- R626 (spec/16): Per R620 -/
def FAB_RGN_RBK_POLICY : Field := ⟨735, .rgn, 64, [], (0, 1), 0, 2, 0, .rw, fun _ => 1⟩

/-- R626 (spec/16): Set by a multi-bit error in this region -/
def FAB_RGN_RBK_MBE : Field := ⟨736, .rgn, 64, [], (0, 1), 2, 1, 0, .w1c, fun _ => 0⟩

/-- R649 (spec/17): Per R628 -/
def SGE_LCS_STATE : Field := ⟨737, .sge, 0, [], (0, 1), 0, 2, 0, .ro, fun _ => 0⟩

/-- R649 (spec/17): Per R629 -/
def SGE_LCS_RETURN : Field := ⟨738, .sge, 0, [], (0, 1), 2, 1, 0, .ro, fun _ => 0⟩

/-- R649 (spec/17): R622 -/
def SGE_LCS_LEGACY_OK : Field := ⟨739, .sge, 0, [], (0, 1), 3, 1, 0, .ro, fun _ => 0⟩

/-- R649 (spec/17): Bit n: VALID of slot n -/
def SGE_LCS_VALID : Field := ⟨740, .sge, 0, [], (0, 1), 4, 4, 0, .ro, fun _ => 0⟩

/-- R649 (spec/17): Bit 8 + n: REVOKED of slot n -/
def SGE_LCS_REVOKED : Field := ⟨741, .sge, 0, [], (0, 1), 8, 4, 0, .ro, fun _ => 0⟩

/-- R649 (spec/17): Bit 12 + n: slot n spoiled -/
def SGE_LCS_SPOILED : Field := ⟨742, .sge, 0, [], (0, 1), 12, 4, 0, .ro, fun _ => 0⟩

/-- R649 (spec/17): Bit 16 + n: slot n holds an OSK -/
def SGE_LCS_OSK : Field := ⟨743, .sge, 0, [], (0, 1), 16, 4, 0, .ro, fun _ => 0⟩

/-- R649 (spec/17): Bit 20 + n: slot n live (R631) -/
def SGE_LCS_LIVE : Field := ⟨744, .sge, 0, [], (0, 1), 20, 4, 0, .ro, fun _ => 0⟩

/-- R649 (spec/17): Per R643 -/
def SGE_NONCE_CTL_NEW : Field := ⟨745, .sge, 16, [], (0, 1), 0, 1, 0, .wo, fun _ => 0⟩

/-- R649 (spec/17): 1 while a nonce is being formed -/
def SGE_NONCE_STAT_BUSY : Field := ⟨746, .sge, 20, [], (0, 1), 0, 1, 0, .ro, fun _ => 0⟩

/-- R649 (spec/17): 1 while an unused nonce is held -/
def SGE_NONCE_STAT_VALID : Field := ⟨747, .sge, 20, [], (0, 1), 1, 1, 0, .ro, fun _ => 0⟩

/-- R649 (spec/17): Nonce bytes 4i to 4i + 3, for i = 0 to 7; 0 while VALID is 0 -/
def SGE_NONCE_V : Field := ⟨748, .sge, 32, [], (0, 1), 0, 256, 0, .ro, fun _ => 0⟩

/-- R649 (spec/17): Command address bits [31:0] (LO and HI registers as one value) -/
def SGE_CMD_ADDR_ADDR : Field := ⟨749, .sge, 64, [], (0, 1), 0, 48, 0, .rw, fun _ => 0⟩

/-- R649 (spec/17): Command length -/
def SGE_CMD_LEN_BYTES : Field := ⟨750, .sge, 72, [], (0, 1), 0, 17, 0, .rw, fun _ => 0⟩

/-- R649 (spec/17): Per R644 -/
def SGE_CMD_CTL_GO : Field := ⟨751, .sge, 76, [], (0, 1), 0, 1, 0, .wo, fun _ => 0⟩

/-- R649 (spec/17): Per R644 -/
def SGE_CMD_CTL_ABORT : Field := ⟨752, .sge, 76, [], (0, 1), 1, 1, 0, .wo, fun _ => 0⟩

/-- R649 (spec/17): Per R39 -/
def SGE_CMD_STAT_STATE : Field := ⟨753, .sge, 80, [], (0, 1), 0, 3, 0, .ro, fun _ => 0⟩

/-- R649 (spec/17): Per R39 -/
def SGE_CMD_STAT_ABORT_LATE : Field := ⟨754, .sge, 80, [], (0, 1), 3, 1, 0, .ro, fun _ => 0⟩

/-- R649 (spec/17): Per R644 -/
def SGE_CMD_STAT_CODE : Field := ⟨755, .sge, 80, [], (0, 1), 8, 8, 0, .ro, fun _ => 0⟩

/-- R649 (spec/17): OP of the last command -/
def SGE_CMD_STAT_OP : Field := ⟨756, .sge, 80, [], (0, 1), 16, 8, 0, .ro, fun _ => 0⟩

/-- R649 (spec/17): Response address bits [31:0] (LO and HI registers as one value) -/
def SGE_RSP_ADDR_ADDR : Field := ⟨757, .sge, 88, [], (0, 1), 0, 48, 0, .rw, fun _ => 0⟩

/-- R694 (spec/19): Per R683; 0 acts as 1 -/
def DLK_CFG_THRESH : Field := ⟨758, .dlk, 0, [], (0, 1), 0, 4, 0, .rw, fun _ => 4⟩

/-- R694 (spec/19): Per R683; below 10 acts as 10, above 30 as 30 -/
def DLK_CFG_WINLOG : Field := ⟨759, .dlk, 0, [], (0, 1), 8, 5, 0, .rw, fun _ => 20⟩

/-- R694 (spec/19): Lateral link, or spine vertical link: 0 normal, 1 fold, 2 withdrawn; 3 -/
def DLK_STAT_LSTATE : Field := ⟨760, .dlk, 4, [], (0, 1), 0, 2, 0, .ro, fun _ => 0⟩

/-- R694 (spec/19): In fold: 0 even groups active, 1 odd -/
def DLK_STAT_HALF : Field := ⟨761, .dlk, 4, [], (0, 1), 2, 1, 0, .ro, fun _ => 0⟩

/-- R694 (spec/19): Generation in use (R692) -/
def DLK_STAT_GEN : Field := ⟨762, .dlk, 4, [], (0, 1), 4, 4, 0, .ro, fun _ => 2⟩

/-- R694 (spec/19): Groups with the spare in use -/
def DLK_STAT_SPARED : Field := ⟨763, .dlk, 4, [], (0, 1), 8, 16, 0, .ro, fun _ => 0⟩

/-- R694 (spec/19): Corrected single-wire errors, saturating -/
def DLK_ERR_CE : Field := ⟨764, .dlk, 8, [], (0, 1), 0, 16, 0, .rc, fun _ => 0⟩

/-- R694 (spec/19): Uncorrectable cycles and block errors, saturating -/
def DLK_ERR_UE : Field := ⟨765, .dlk, 8, [], (0, 1), 16, 16, 0, .rc, fun _ => 0⟩

/-- R701 (spec/19): Bit c: class c tested automatically (R698) -/
def MID_AUTO_CLASSES : Field := ⟨766, .mid, 0, [], (0, 1), 0, 6, 0, .rw, fun _ => 63⟩

/-- R701 (spec/19): Units of 2³⁰ ticks; 0 acts as 1 -/
def MID_AUTO_PER_PERIOD : Field := ⟨767, .mid, 4, [], (0, 1), 0, 16, 0, .rw, fun _ => 3600⟩

/-- R701 (spec/19): Per R696; 6 and 7 give RESULT 5 -/
def MID_REQ_UNIT_CLASS : Field := ⟨768, .mid, 16, [], (0, 1), 0, 3, 0, .rw, fun _ => 0⟩

/-- R701 (spec/19): Class 0: 384f + r, with f 0 for FD(2k) and 1 for FD(2k + 1); classes 1 -/
def MID_REQ_UNIT_INDEX : Field := ⟨769, .mid, 16, [], (0, 1), 4, 10, 0, .rw, fun _ => 0⟩

/-- R701 (spec/19): Per R699 -/
def MID_REQ_CTL_GO : Field := ⟨770, .mid, 20, [], (0, 1), 0, 1, 0, .wo, fun _ => 0⟩

/-- R701 (spec/19): Per R699 -/
def MID_REQ_CTL_FORCE : Field := ⟨771, .mid, 20, [], (0, 1), 1, 1, 0, .rw, fun _ => 0⟩

/-- R701 (spec/19): Per R699 -/
def MID_REQ_CTL_ABORT : Field := ⟨772, .mid, 20, [], (0, 1), 2, 1, 0, .wo, fun _ => 0⟩

/-- R701 (spec/19): Deadline bits [31:0] (LO and HI registers as one value) -/
def MID_REQ_DL_T : Field := ⟨773, .mid, 24, [], (0, 1), 0, 64, 0, .rw, fun _ => 0⟩

/-- R701 (spec/19): Per R39 -/
def MID_REQ_STAT_STATE : Field := ⟨774, .mid, 32, [], (0, 1), 0, 3, 0, .ro, fun _ => 0⟩

/-- R701 (spec/19): Per R39 -/
def MID_REQ_STAT_ABORT_LATE : Field := ⟨775, .mid, 32, [], (0, 1), 3, 1, 0, .ro, fun _ => 0⟩

/-- R701 (spec/19): 0 PASS, 1 FAIL, 2 DEFERRED, 3 REFUSED, 4 INTERRUPTED, 5 BAD_UNIT -/
def MID_REQ_STAT_RESULT : Field := ⟨776, .mid, 32, [], (0, 1), 4, 4, 0, .ro, fun _ => 0⟩

/-- R701 (spec/19): First failing word offset (class 3), or failing signature count -/
def MID_REQ_DETAIL_V : Field := ⟨777, .mid, 36, [], (0, 1), 0, 32, 0, .ro, fun _ => 0⟩

/-- R701 (spec/19): Tests completed in class c, wrapping -/
def MID_CLASS_TESTED : Field := ⟨778, .mid, 64, [(4, 6)], (0, 1), 0, 16, 0, .ro, fun _ => 0⟩

/-- R701 (spec/19): FAIL results, saturating -/
def MID_CLASS_FAILS : Field := ⟨779, .mid, 64, [(4, 6)], (0, 1), 16, 16, 0, .ro, fun _ => 0⟩

/-- R701 (spec/19): Bit j: pair 4k + j failed -/
def MID_FAULTY_PAIR : Field := ⟨780, .mid, 128, [], (0, 1), 0, 4, 0, .w1c, fun _ => 0⟩

/-- R701 (spec/19): Bit 4 + j: MSP group 4k + j failed -/
def MID_FAULTY_GROUP : Field := ⟨781, .mid, 128, [], (0, 1), 4, 4, 0, .w1c, fun _ => 0⟩

/-- R701 (spec/19): Regions that failed, saturating -/
def MID_FAULTY_REGIONS : Field := ⟨782, .mid, 132, [], (0, 1), 0, 16, 0, .ro, fun _ => 0⟩

/-- R717 (spec/20): Per R705 -/
def SVP_PIN_CFG_FUNC : Field := ⟨783, .svp, 0, [(8, 64)], (0, 1), 0, 3, 0, .rwl, fun _ => 7⟩

/-- R717 (spec/20): 0 CMOS threshold of the bank supply; 1 fixed 0.9 V -/
def SVP_PIN_CFG_THR : Field := ⟨784, .svp, 0, [(8, 64)], (0, 1), 3, 1, 0, .rwl, fun _ => 0⟩

/-- R717 (spec/20): 1 enables input hysteresis -/
def SVP_PIN_CFG_HYS : Field := ⟨785, .svp, 0, [(8, 64)], (0, 1), 4, 1, 0, .rwl, fun _ => 0⟩

/-- R717 (spec/20): 0 none, 1 down, 2 up, 40 to 70 kΩ; 3 acts as 0 -/
def SVP_PIN_CFG_PULL : Field := ⟨786, .svp, 0, [(8, 64)], (0, 1), 5, 2, 0, .rwl, fun _ => 1⟩

/-- R717 (spec/20): 0 2 mA, 1 4 mA, 2 8 mA, 3 12 mA -/
def SVP_PIN_CFG_DRIVE : Field := ⟨787, .svp, 0, [(8, 64)], (0, 1), 7, 2, 0, .rwl, fun _ => 1⟩

/-- R717 (spec/20): 0 slow, 1 fast -/
def SVP_PIN_CFG_SLEW : Field := ⟨788, .svp, 0, [(8, 64)], (0, 1), 9, 1, 0, .rwl, fun _ => 0⟩

/-- R717 (spec/20): Per R710 -/
def SVP_PIN_CFG_OD : Field := ⟨789, .svp, 0, [(8, 64)], (0, 1), 10, 1, 0, .rwl, fun _ => 0⟩

/-- R717 (spec/20): Per R711: 0 rising, 1 falling -/
def SVP_PIN_CFG_WPOL : Field := ⟨790, .svp, 0, [(8, 64)], (0, 1), 11, 1, 0, .rwl, fun _ => 0⟩

/-- R717 (spec/20): Effective function (R706) -/
def SVP_PIN_CFG_EFUNC : Field := ⟨791, .svp, 0, [(8, 64)], (0, 1), 12, 3, 0, .ro, fun _ => 7⟩

/-- R717 (spec/20): Per R714 -/
def SVP_PIN_CFG_LOCKED : Field := ⟨792, .svp, 0, [(8, 64)], (0, 1), 15, 1, 0, .ro, fun _ => 0⟩

/-- R717 (spec/20): Owner endpoint (R710); bits [1:0] ignore writes (R13) -/
def SVP_PIN_OWN_EP : Field := ⟨793, .svp, 4, [(8, 64)], (0, 1), 0, 16, 2, .rwl, fun _ => 11552⟩

/-- R718 (spec/20): Per R713 -/
def SVP_LOCK_KEY_KEY : Field := ⟨794, .svp, 560, [], (0, 1), 0, 16, 0, .wo, fun _ => 0⟩

/-- R718 (spec/20): 1 when bank 0 runs at 3.3 V -/
def SVP_BANK_STAT_V33_0 : Field := ⟨795, .svp, 576, [], (0, 1), 0, 1, 0, .ro, fun _ => 0⟩

/-- R718 (spec/20): The same for bank 1 -/
def SVP_BANK_STAT_V33_1 : Field := ⟨796, .svp, 576, [], (0, 1), 1, 1, 0, .ro, fun _ => 0⟩

/-- R53 (spec/02): Shadow of counter bits [63:32] from the last capturing TIME_LO read -/
def TBS_TIME_HI : Field := ⟨797, .tbs, 4, [], (0, 1), 0, 32, 0, .ro, fun _ => 0⟩

/-- R53 (spec/02): Counter bits [31:0]; the value is read from the counter, never stored -/
def TBS_TIME_LO : Field := ⟨798, .tbs, 0, [], (0, 1), 0, 32, 0, .rc, fun _ => 0⟩

/-- R55 (spec/02): Time value applied by SET_TIME -/
def TBS_SETTIME : Field := ⟨799, .tbs, 8, [], (0, 1), 0, 64, 0, .rw, fun _ => 0⟩

/-- R381 (spec/09): Y generator register -/
def PGE_YBASE_V : Field := ⟨800, .pge, 1040, [], (0, 1), 0, 24, 0, .rw, fun _ => 0⟩

/-- R381 (spec/09): Y generator register -/
def PGE_YINC_V : Field := ⟨801, .pge, 1044, [], (0, 1), 0, 24, 0, .rw, fun _ => 1⟩

/-- R381 (spec/09): Y generator register -/
def PGE_YLIM_V : Field := ⟨802, .pge, 1048, [], (0, 1), 0, 24, 0, .rw, fun _ => 16777215⟩

/-- R381 (spec/09): Y generator register -/
def PGE_Y_V : Field := ⟨803, .pge, 1052, [], (0, 1), 0, 24, 0, .rw, fun _ => 0⟩

/-- R381 (spec/09): Background, LO and HI as one value -/
def PGE_DBACK : Field := ⟨804, .pge, 1068, [], (0, 1), 0, 64, 0, .rw, fun _ => 0⟩

/-- R381 (spec/09): PMASK, LO and HI as one value -/
def PGE_PMASK : Field := ⟨805, .pge, 1076, [], (0, 1), 0, 48, 0, .rw, fun _ => 0⟩

/-- R381 (spec/09): ASXOR, LO and HI as one value -/
def PGE_ASXOR : Field := ⟨806, .pge, 1084, [], (0, 1), 0, 48, 0, .rw, fun _ => 0⟩

/-- R383 (spec/09): state code of pin p in template t -/
def PGE_TPL_STATE : Field := ⟨807, .pge, 32768, [(256, 16), (4, 64)], (4, 8), 0, 2, 0, .rw, fun _ => 2⟩

/-- R383 (spec/09): mask of pin p in template t -/
def PGE_TPL_MASK : Field := ⟨808, .pge, 32768, [(256, 16), (4, 64)], (4, 8), 2, 1, 0, .rw, fun _ => 1⟩

/-- R381 (spec/09): PERM[4m + i] -/
def PGE_PERM_E : Field := ⟨809, .pge, 1092, [(4, 12)], (8, 4), 0, 6, 0, .rw, fun i => i % 48⟩

/-- R587 (spec/15): Sage patch unit u (R560) -/
def CTL_SPATCH_MATCH : Field := ⟨810, .dbg, 20480, [(8, 16)], (0, 1), 4, 19, 0, .rw, fun _ => 0⟩

/-- R587 (spec/15): Patch RAM line -/
def CTL_SPATCH_TARGET : Field := ⟨811, .dbg, 20484, [(8, 16)], (0, 1), 0, 6, 0, .rw, fun _ => 0⟩

/-- R587 (spec/15): Per R561 -/
def CTL_SPATCH_KEY : Field := ⟨812, .dbg, 20736, [], (0, 1), 0, 16, 0, .wo, fun _ => 0⟩

/-- R587 (spec/15): Written only as R561 states -/
def CTL_SPATCH_EN : Field := ⟨813, .dbg, 20740, [], (0, 1), 0, 16, 0, .rw, fun _ => 0⟩

/-- R694 (spec/19): State of the NAP vertical link of region 8w + i -/
def DLK_NAPST : Field := ⟨814, .dlk, 256, [(4, 48)], (4, 8), 0, 2, 0, .ro, fun _ => 0⟩

/-- R694 (spec/19): Wire carried by the spare -/
def DLK_GRP_WIRE : Field := ⟨815, .dlk, 4096, [(4, 9256)], (0, 1), 0, 6, 0, .ro, fun _ => 0⟩

/-- R694 (spec/19): Spare in use -/
def DLK_GRP_SPARED : Field := ⟨816, .dlk, 4096, [(4, 9256)], (0, 1), 6, 1, 0, .ro, fun _ => 0⟩

/-- R694 (spec/19): Per R685 -/
def DLK_GRP_EXHAUSTED : Field := ⟨817, .dlk, 4096, [(4, 9256)], (0, 1), 7, 1, 0, .ro, fun _ => 0⟩

/-- R694 (spec/19): Errors of the group since reset, saturating -/
def DLK_GRP_COUNT : Field := ⟨818, .dlk, 4096, [(4, 9256)], (0, 1), 16, 16, 0, .ro, fun _ => 0⟩

/-- R718 (spec/20): One bit per pin or port, LO and HI as one value -/
def SVP_OUT : Field := ⟨819, .svp, 512, [], (0, 1), 0, 64, 0, .rw, fun _ => 0⟩

/-- R718 (spec/20): One bit per pin or port, LO and HI as one value -/
def SVP_OE : Field := ⟨820, .svp, 520, [], (0, 1), 0, 64, 0, .rw, fun _ => 0⟩

/-- R718 (spec/20): One bit per pin or port, LO and HI as one value -/
def SVP_IN : Field := ⟨821, .svp, 528, [], (0, 1), 0, 64, 0, .ro, fun _ => 0⟩

/-- R718 (spec/20): One bit per pin or port, LO and HI as one value -/
def SVP_FUNC_LOST : Field := ⟨822, .svp, 544, [], (0, 1), 0, 64, 0, .w1c, fun _ => 0⟩

/-- R718 (spec/20): One bit per pin or port, LO and HI as one value -/
def SVP_PORT_LOST : Field := ⟨823, .svp, 552, [], (0, 1), 0, 64, 0, .w1c, fun _ => 0⟩

/-- R718 (spec/20): One bit per pin or port, LO and HI as one value -/
def SVP_LOCK_SET : Field := ⟨824, .svp, 564, [], (0, 1), 0, 64, 0, .wo, fun _ => 0⟩

/-- R556 (spec/15): Priority of source s -/
def PLIC_PRIO : Field := ⟨825, .dbg, 32768, [(4, 1024)], (0, 1), 0, 3, 0, .rw, fun _ => 0⟩

/-- R587 (spec/15): Word of Sage patch RAM -/
def CTL_SPATCH_RAM_W : Field := ⟨826, .dbg, 24576, [(4, 256)], (0, 1), 0, 32, 0, .rw, fun _ => 0⟩

/-- R556 (spec/15): Pending bit of source s -/
def PLIC_PEND : Field := ⟨827, .dbg, 36864, [(4, 32)], (1, 32), 0, 1, 0, .ro, fun _ => 0⟩

/-- R556 (spec/15): Enable bits of context x for sources 32w to 32w + 31 -/
def PLIC_ENABLE : Field := ⟨828, .dbg, 37120, [(128, 8), (4, 32)], (0, 1), 0, 32, 0, .rw, fun _ => 0⟩

/-- R556 (spec/15): Threshold of context x -/
def PLIC_THR : Field := ⟨829, .dbg, 38912, [(16, 8)], (0, 1), 0, 3, 0, .rw, fun _ => 0⟩

/-- R556 (spec/15): Claim and complete of context x; the value read is computed -/
def PLIC_CLAIM : Field := ⟨830, .dbg, 38916, [(16, 8)], (0, 1), 0, 32, 0, .rc, fun _ => 0⟩

/-- R176 (spec/04): Time of the next REQ or EXIT, LO and HI as one value -/
def FAB_RGN_ISO_AT : Field := ⟨831, .rgn, 8, [], (0, 1), 0, 64, 0, .rw, fun _ => 0⟩

/-- R339 (spec/08): Receive slot map -/
def DCL_RXMAP_S0 : Field := ⟨832, .dcl, 256, [(512, 4), (4, 32)], (0, 1), 0, 12, 0, .rw, fun _ => 0⟩

/-- R339 (spec/08): Receive slot map -/
def DCL_RXMAP_V0 : Field := ⟨833, .dcl, 256, [(512, 4), (4, 32)], (0, 1), 12, 1, 0, .rw, fun _ => 0⟩

/-- R339 (spec/08): Receive slot map -/
def DCL_RXMAP_S1 : Field := ⟨834, .dcl, 256, [(512, 4), (4, 32)], (0, 1), 16, 12, 0, .rw, fun _ => 0⟩

/-- R339 (spec/08): Receive slot map -/
def DCL_RXMAP_V1 : Field := ⟨835, .dcl, 256, [(512, 4), (4, 32)], (0, 1), 28, 1, 0, .rw, fun _ => 0⟩

/-- R50 (spec/02): 1 once the counter has started -/
def T_RUNNING : Field := ⟨836, .internal, 0, [], (0, 1), 0, 1, 0, .hidden, fun _ => 0⟩

/-- R73 (spec/02): 1 while a TIME_PLL_UNLOCK is in force -/
def T_UNLOCK : Field := ⟨837, .internal, 0, [], (0, 1), 0, 1, 0, .hidden, fun _ => 0⟩

/-- R73 (spec/02): 1 during a loss of lock of at most 1 us with TREF present -/
def T_PLL_SLIP : Field := ⟨838, .internal, 0, [], (0, 1), 0, 1, 0, .hidden, fun _ => 0⟩

/-- R52 (spec/02): time fault of die index n in force -/
def T_DIEFAULT : Field := ⟨839, .internal, 0, [], (0, 1), 0, 1, 0, .hidden, fun _ => 0⟩

/-- R77 (spec/02): counter before the last step -/
def T_STEP_OLD : Field := ⟨840, .internal, 0, [], (0, 1), 0, 64, 0, .hidden, fun _ => 0⟩

/-- R77 (spec/02): counter after the last step -/
def T_STEP_NEW : Field := ⟨841, .internal, 0, [], (0, 1), 0, 64, 0, .hidden, fun _ => 0⟩

/-- R77 (spec/02): a step has been made -/
def T_STEP_SEEN : Field := ⟨842, .internal, 0, [], (0, 1), 0, 1, 0, .hidden, fun _ => 0⟩

/-- R60 (spec/02): sequence number of the next frame sent -/
def SYN_SEQ : Field := ⟨843, .internal, 0, [], (0, 1), 0, 8, 0, .hidden, fun _ => 0⟩

/-- R60 (spec/02): time epoch sent -/
def SYN_EPOCH : Field := ⟨844, .internal, 0, [], (0, 1), 0, 8, 0, .hidden, fun _ => 0⟩

/-- R60 (spec/02): STEPPED is due in the next frame -/
def SYN_STEPPED : Field := ⟨845, .internal, 0, [], (0, 1), 0, 1, 0, .hidden, fun _ => 0⟩

/-- R56 (spec/02): a SET_TIME waits for the next on-time point -/
def SYN_SET_PEND : Field := ⟨846, .internal, 0, [], (0, 1), 0, 1, 0, .hidden, fun _ => 0⟩

/-- R56 (spec/02): its value -/
def SYN_SET_VAL : Field := ⟨847, .internal, 0, [], (0, 1), 0, 64, 0, .hidden, fun _ => 0⟩

/-- R62 (spec/02): a good frame has arrived since reset or the role change -/
def SYN_HAVE : Field := ⟨848, .internal, 0, [], (0, 1), 0, 1, 0, .hidden, fun _ => 0⟩

/-- R62 (spec/02): TIME of the last good frame -/
def SYN_LTIME : Field := ⟨849, .internal, 0, [], (0, 1), 0, 64, 0, .hidden, fun _ => 0⟩

/-- R62 (spec/02): its sequence number -/
def SYN_LSEQ : Field := ⟨850, .internal, 0, [], (0, 1), 0, 8, 0, .hidden, fun _ => 0⟩

/-- R62 (spec/02): counter value at which its on-time point arrived -/
def SYN_LARR : Field := ⟨851, .internal, 0, [], (0, 1), 0, 64, 0, .hidden, fun _ => 0⟩

/-- R66 (spec/02): consecutive good frames in ACQUIRE or HOLDOVER -/
def SYN_ACQ : Field := ⟨852, .internal, 0, [], (0, 1), 0, 16, 0, .hidden, fun _ => 0⟩

/-- R66 (spec/02): consecutive good frames within 4 ticks in TRACK -/
def SYN_LCK : Field := ⟨853, .internal, 0, [], (0, 1), 0, 17, 0, .hidden, fun _ => 0⟩

/-- R70 (spec/02): the master device ID last seen -/
def SYN_MID : Field := ⟨854, .internal, 0, [], (0, 1), 0, 6, 0, .hidden, fun _ => 0⟩

/-- R70 (spec/02): a master device ID has been seen -/
def SYN_MSEEN : Field := ⟨855, .internal, 0, [], (0, 1), 0, 1, 0, .hidden, fun _ => 0⟩

/-- R75 (spec/02): Tabirair time has stepped since the last power-on or device reset -/
def SYN_DIDSTEP : Field := ⟨856, .internal, 0, [], (0, 1), 0, 1, 0, .hidden, fun _ => 0⟩

/-- R75 (spec/02): a permitted step is made at the next good frame -/
def SYN_STEPDUE : Field := ⟨857, .internal, 0, [], (0, 1), 0, 1, 0, .hidden, fun _ => 0⟩

/-- R69 (spec/02): HOLDOVER_LIMIT has been raised in this holdover -/
def SYN_HLRAISED : Field := ⟨858, .internal, 0, [], (0, 1), 0, 1, 0, .hidden, fun _ => 0⟩

/-- R90 (spec/02): a retune waits for its commit point -/
def CG_WAIT : Field := ⟨859, .internal, 0, [], (0, 1), 0, 1, 0, .hidden, fun _ => 0⟩

/-- R90 (spec/02): a committed retune waits for the PLL to lock -/
def CG_RELOCK : Field := ⟨860, .internal, 0, [], (0, 1), 0, 1, 0, .hidden, fun _ => 0⟩

/-- R90 (spec/02): checked N -/
def CG_RN : Field := ⟨861, .internal, 0, [], (0, 1), 0, 5, 0, .hidden, fun _ => 0⟩

/-- R90 (spec/02): checked D -/
def CG_RD : Field := ⟨862, .internal, 0, [], (0, 1), 0, 7, 0, .hidden, fun _ => 0⟩

/-- R90 (spec/02): checked F -/
def CG_RF : Field := ⟨863, .internal, 0, [], (0, 1), 0, 24, 0, .hidden, fun _ => 0⟩

/-- R90 (spec/02): checked ALIGN -/
def CG_RALIGN : Field := ⟨864, .internal, 0, [], (0, 1), 0, 1, 0, .hidden, fun _ => 0⟩

/-- R90 (spec/02): checked AT -/
def CG_RAT : Field := ⟨865, .internal, 0, [], (0, 1), 0, 64, 0, .hidden, fun _ => 0⟩

/-- R90 (spec/02): cycle of the commit point of the last retune -/
def CG_CMT : Field := ⟨866, .internal, 0, [], (0, 1), 0, 64, 0, .hidden, fun _ => 0⟩

/-- R749 (spec/02): an enable waits for the PLL to lock -/
def CG_START : Field := ⟨867, .internal, 0, [], (0, 1), 0, 1, 0, .hidden, fun _ => 0⟩

/-- R88 (spec/02): PWn is held low for 64 cycles of its new source -/
def PW_STOP : Field := ⟨868, .internal, 0, [], (0, 1), 0, 1, 0, .hidden, fun _ => 0⟩

/-- R557 (spec/15): source claimed and not completed -/
def PLIC_BUSY : Field := ⟨869, .internal, 0, [], (0, 1), 0, 1, 0, .hidden, fun _ => 0⟩

/-- R557 (spec/15): edges that wait behind a request -/
def PLIC_WAIT : Field := ⟨870, .internal, 0, [], (0, 1), 0, 16, 0, .hidden, fun _ => 0⟩

/-- R557 (spec/15): level at a level gateway -/
def PLIC_LEVEL : Field := ⟨871, .internal, 0, [], (0, 1), 0, 1, 0, .hidden, fun _ => 0⟩

/-- R502 (spec/13): a channel failed training under interleaved mode -/
def LPX_ILFAIL : Field := ⟨872, .internal, 0, [], (0, 1), 0, 1, 0, .hidden, fun _ => 0⟩

/-- R140 (spec/03): OUTHOLD of a region is asserted -/
def FAB_OUTHOLD : Field := ⟨873, .internal, 0, [], (0, 1), 0, 1, 0, .hidden, fun _ => 1⟩

/-- R140 (spec/03): WRHOLD of a region is asserted -/
def FAB_WRHOLD : Field := ⟨874, .internal, 0, [], (0, 1), 0, 1, 0, .hidden, fun _ => 1⟩

/-- R140 (spec/03): STHOLD of a region is asserted -/
def FAB_STHOLD : Field := ⟨875, .internal, 0, [], (0, 1), 0, 1, 0, .hidden, fun _ => 1⟩

/-- R127 (spec/03): trim code in force before the trim -/
def RO_OLD : Field := ⟨876, .internal, 0, [], (0, 1), 0, 12, 0, .hidden, fun _ => 2048⟩

/-- R127 (spec/03): trim windows ended -/
def RO_WIN : Field := ⟨877, .internal, 0, [], (0, 1), 0, 4, 0, .hidden, fun _ => 0⟩

/-- R172 (spec/04): software operation that waits for its commit point: 1 REQ, 2 EXIT -/
def RGN_ISOOP : Field := ⟨878, .internal, 0, [], (0, 1), 0, 2, 0, .hidden, fun _ => 0⟩

/-- R172 (spec/04): its time -/
def RGN_ISOT : Field := ⟨879, .internal, 0, [], (0, 1), 0, 64, 0, .hidden, fun _ => 0⟩

/-- R214 (spec/05): cause for which the power controller refuses to wake a port: 0 none, 2 forced off, 3 thermal -/
def PORT_REFUSE : Field := ⟨880, .internal, 0, [], (0, 1), 0, 2, 0, .hidden, fun _ => 0⟩

/-- R212 (spec/05): a wake of a port is requested -/
def WAKE_REQ : Field := ⟨881, .internal, 0, [], (0, 1), 0, 1, 0, .hidden, fun _ => 0⟩

/-- R218 (spec/05): the power-down of a CLOSING port is forced -/
def PORT_FORCED : Field := ⟨882, .internal, 0, [], (0, 1), 0, 1, 0, .hidden, fun _ => 0⟩

/-- R235 (spec/06): cycle in which the operation of mailbox m arrived -/
def THY_ARR : Field := ⟨883, .internal, 0, [], (0, 1), 0, 64, 0, .hidden, fun _ => 0⟩

/-- R199 (spec/05): cycle of the commit point of the last route update -/
def NOC_COMMIT_AT : Field := ⟨884, .internal, 0, [], (0, 1), 0, 64, 0, .hidden, fun _ => 0⟩

/-- R271 (spec/07): the driver of a pin is on -/
def TIO_ON : Field := ⟨885, .internal, 0, [], (0, 1), 0, 1, 0, .hidden, fun _ => 0⟩

/-- R271 (spec/07): its data level -/
def TIO_LVL : Field := ⟨886, .internal, 0, [], (0, 1), 0, 1, 0, .hidden, fun _ => 0⟩

/-- R271 (spec/07): the pin has had an edge -/
def TIO_EDGED : Field := ⟨887, .internal, 0, [], (0, 1), 0, 1, 0, .hidden, fun _ => 0⟩

/-- R271 (spec/07): time of its last edge -/
def TIO_EDGE_T : Field := ⟨888, .internal, 0, [], (0, 1), 0, 64, 0, .hidden, fun _ => 0⟩

/-- R270 (spec/07): timesets of a pin that have raised TIO_OFFSET_RANGE since RANGE was clear -/
def TIO_RNG_TS : Field := ⟨889, .internal, 0, [], (0, 1), 0, 16, 0, .hidden, fun _ => 0⟩

/-- R284 (spec/07): calibration has visited the pin since the bank was powered -/
def TIO_CALSEEN : Field := ⟨890, .internal, 0, [], (0, 1), 0, 1, 0, .hidden, fun _ => 0⟩

/-- R284 (spec/07): the last visit could not hold the codes in range -/
def TIO_CALBAD : Field := ⟨891, .internal, 0, [], (0, 1), 0, 1, 0, .hidden, fun _ => 0⟩

/-- R284 (spec/07): every driver of bank n is off since its supply left its range -/
def TIO_DROFF : Field := ⟨892, .internal, 0, [], (0, 1), 0, 1, 0, .hidden, fun _ => 0⟩

/-- R266 (spec/07): ODLY in effect -/
def TIO_ODLY_ACT : Field := ⟨893, .internal, 0, [], (0, 1), 0, 11, 0, .hidden, fun _ => 0⟩

/-- R266 (spec/07): IDLY in effect -/
def TIO_IDLY_ACT : Field := ⟨894, .internal, 0, [], (0, 1), 0, 11, 0, .hidden, fun _ => 0⟩

/-- R363 (spec/09): flags 24 to 29 of a sequencer -/
def PGE_LATCHED : Field := ⟨895, .internal, 0, [], (0, 1), 0, 6, 0, .hidden, fun _ => 0⟩

/-- R469 (spec/12): the endpoint a handover of bank n gives it to -/
def SPD_NEWEP : Field := ⟨896, .internal, 0, [], (0, 1), 0, 16, 0, .hidden, fun _ => 65532⟩

/-- R457 (spec/11): members named by the start in progress -/
def MSP_PENDMASK : Field := ⟨897, .internal, 0, [], (0, 1), 0, 8, 0, .hidden, fun _ => 0⟩

/-- R457 (spec/11): CLR of the start in progress -/
def MSP_PENDCLR : Field := ⟨898, .internal, 0, [], (0, 1), 0, 1, 0, .hidden, fun _ => 0⟩

/-- R457 (spec/11): members that the last start named -/
def MSP_STARTED : Field := ⟨899, .internal, 0, [], (0, 1), 0, 8, 0, .hidden, fun _ => 0⟩

/-- R454 (spec/11): SENDs of the group so far -/
def MSP_SENDS : Field := ⟨900, .internal, 0, [], (0, 1), 0, 32, 0, .hidden, fun _ => 0⟩

/-- R611 (spec/16): source address of the operation in progress -/
def DWN_OP_ADDR : Field := ⟨901, .internal, 0, [], (0, 1), 0, 48, 0, .hidden, fun _ => 0⟩

/-- R611 (spec/16): its length -/
def DWN_OP_LEN : Field := ⟨902, .internal, 0, [], (0, 1), 0, 32, 0, .hidden, fun _ => 0⟩

/-- R565 (spec/15): hart n has been released and is not held in reset -/
def HART_RUN : Field := ⟨903, .internal, 0, [], (0, 1), 0, 1, 0, .hidden, fun i => if i < 4 then 0 else 1⟩

/-- R565 (spec/15): hart n is halted -/
def HART_HALT : Field := ⟨904, .internal, 0, [], (0, 1), 0, 1, 0, .hidden, fun _ => 0⟩

/-- R565 (spec/15): hart n holds an LR reservation -/
def HART_RESV : Field := ⟨905, .internal, 0, [], (0, 1), 0, 1, 0, .hidden, fun _ => 0⟩

/-- R565 (spec/15): where hart n last started -/
def HART_PC : Field := ⟨906, .internal, 0, [], (0, 1), 0, 48, 0, .hidden, fun _ => 0⟩

/-- R554 (spec/15): mcause of the last access fault that hart n has taken since it started -/
def HART_MCAUSE : Field := ⟨907, .internal, 0, [], (0, 1), 0, 64, 0, .hidden, fun _ => 0⟩

/-- R554 (spec/15): its mtval: the address -/
def HART_MTVAL : Field := ⟨908, .internal, 0, [], (0, 1), 0, 64, 0, .hidden, fun _ => 0⟩

/-- R555 (spec/15): MTIP of hart n is pending -/
def HART_MTIP : Field := ⟨909, .internal, 0, [], (0, 1), 0, 1, 0, .hidden, fun _ => 0⟩

/-- R584 (spec/15): stage of key sequence q: 0 service-pin lock, 1 domain force, 2 and 3 patch enables of Sage and Dusk, 8 + k user NVM lock of FDk -/
def KEY_STAGE : Field := ⟨910, .internal, 0, [], (0, 1), 0, 2, 0, .hidden, fun _ => 0⟩

/-- R584 (spec/15): requester of its first key -/
def KEY_REQ : Field := ⟨911, .internal, 0, [], (0, 1), 0, 16, 0, .hidden, fun _ => 0⟩

/-- R584 (spec/15): NoC clock at its first key -/
def KEY_T : Field := ⟨912, .internal, 0, [], (0, 1), 0, 64, 0, .hidden, fun _ => 0⟩

/-- R563 (spec/15): counter value when COUNT of watchdog n was last put -/
def WDT_T : Field := ⟨913, .internal, 0, [], (0, 1), 0, 64, 0, .hidden, fun _ => 0⟩

/-- R563 (spec/15): EN of watchdog n accepts a write of 0 -/
def WDT_OPEN : Field := ⟨914, .internal, 0, [], (0, 1), 0, 1, 0, .hidden, fun _ => 1⟩

/-- R707 (spec/20): the flash claim of Dawn in force: 0 none, 1 + the column of R707 that it takes -/
def SVP_FLASH : Field := ⟨915, .internal, 0, [], (0, 1), 0, 2, 0, .hidden, fun _ => 0⟩

/-- R704 (spec/20): no full configuration has been released since the reset or the entry to NOCFG -/
def SVP_PRECFG : Field := ⟨916, .internal, 0, [], (0, 1), 0, 1, 0, .hidden, fun _ => 1⟩

/-- R715 (spec/20): bits [11:3] of SVP_PINn_CFG as the pin applies them -/
def SVP_EL : Field := ⟨917, .internal, 0, [], (0, 1), 0, 9, 0, .hidden, fun _ => 20⟩

/-- R648 (spec/17): the key of the stream in effect: a slot, 0xFF the Derfibo key, 0xFE none -/
def STREAM_SLOT : Field := ⟨918, .internal, 0, [], (0, 1), 0, 8, 0, .hidden, fun _ => 254⟩

/-- R592 (spec/16): what Dawn does at start-up: 1 the directory and a header are due, 2 the header of the entry in DWN_BOOT is due, 0 none -/
def BOOT_STAGE : Field := ⟨919, .internal, 0, [], (0, 1), 0, 2, 0, .hidden, fun _ => 1⟩

/-- R592 (spec/16): entries in the boot directory -/
def BOOT_COUNT : Field := ⟨920, .internal, 0, [], (0, 1), 0, 3, 0, .hidden, fun _ => 0⟩

/-- R592 (spec/16): the flash has stopped once in the current entry -/
def BOOT_STALLS : Field := ⟨921, .internal, 0, [], (0, 1), 0, 1, 0, .hidden, fun _ => 0⟩

/-- R620 (spec/16): the readback engines have started -/
def RBK_ON : Field := ⟨922, .internal, 0, [], (0, 1), 0, 1, 0, .hidden, fun _ => 0⟩

/-- R621 (spec/16): Dawn hashes the reload image -/
def RELOAD_HASH : Field := ⟨923, .internal, 0, [], (0, 1), 0, 1, 0, .hidden, fun _ => 0⟩

/-- R32 (spec/01): an action that a register write starts and that the write itself does not carry out: 1 and 2 a device or warm reset, 3 and 4 GO and ABORT of DWN_CTL, 5 GO of DWN_REL_CTL, 6 a write of DWN_RELOAD_CTL, 7 and 8 GO and ABORT of PCI_STAGE_CTL, 9 GO of PCI_DBG_CTL -/
def BUS_HOOK : Field := ⟨924, .internal, 0, [], (0, 1), 0, 4, 0, .hidden, fun _ => 0⟩

/-- R32 (spec/01): the requester of that write -/
def BUS_HREQ : Field := ⟨925, .internal, 0, [], (0, 1), 0, 16, 0, .hidden, fun _ => 0⟩

/-- R32 (spec/01): its value -/
def BUS_HVAL : Field := ⟨926, .internal, 0, [], (0, 1), 0, 32, 0, .hidden, fun _ => 0⟩

/-- R129 (spec/03): first stage of the synchroniser of ring oscillator n, in Gray code -/
def RO_S1 : Field := ⟨927, .internal, 0, [], (0, 1), 0, 32, 0, .hidden, fun _ => 0⟩

/-- R129 (spec/03): its second stage as a binary count -/
def RO_SEEN : Field := ⟨928, .internal, 0, [], (0, 1), 0, 32, 0, .hidden, fun _ => 0⟩

/-- R129 (spec/03): NoC clock up to which the count of ring oscillator n is brought -/
def RO_AT : Field := ⟨929, .internal, 0, [], (0, 1), 0, 64, 0, .hidden, fun _ => 0⟩

/-- R139 (spec/03): what a region does at the next edge of its clock: bit 0 releases OUTHOLD, 1 WRHOLD, 2 STHOLD, 3 holds it again -/
def FAB_RELP : Field := ⟨930, .internal, 0, [], (0, 1), 0, 4, 0, .hidden, fun _ => 0⟩

/-- R139 (spec/03): the cause of isolation that the pending OUTHOLD release ends -/
def FAB_RELC : Field := ⟨931, .internal, 0, [], (0, 1), 0, 3, 0, .hidden, fun _ => 0⟩

/-- R38 (spec/01): NoC clock plus 1 at the commit point of the last trim of ring oscillator n -/
def RO_CMT : Field := ⟨932, .internal, 0, [], (0, 1), 0, 64, 0, .hidden, fun _ => 0⟩

/-- R38 (spec/01): the same of the last isolation operation of region n -/
def RGN_CMT : Field := ⟨933, .internal, 0, [], (0, 1), 0, 64, 0, .hidden, fun _ => 0⟩

/-- R38 (spec/01): the same of the last operation of mailbox n -/
def THY_CMT : Field := ⟨934, .internal, 0, [], (0, 1), 0, 64, 0, .hidden, fun _ => 0⟩

/-- R38 (spec/01): the same of the last handover of bank n -/
def SPD_CMT : Field := ⟨935, .internal, 0, [], (0, 1), 0, 64, 0, .hidden, fun _ => 0⟩

/-- R38 (spec/01): the same of the last start of MSP group n -/
def GRP_CMT : Field := ⟨936, .internal, 0, [], (0, 1), 0, 64, 0, .hidden, fun _ => 0⟩

/-- R38 (spec/01): the same of the last analysis of FCE n -/
def FCE_CMT : Field := ⟨937, .internal, 0, [], (0, 1), 0, 64, 0, .hidden, fun _ => 0⟩

/-- R38 (spec/01): the same of the last run of PGE n -/
def PGE_CMT : Field := ⟨938, .internal, 0, [], (0, 1), 0, 64, 0, .hidden, fun _ => 0⟩

/-- R38 (spec/01): the same of the last HALT of PGE n (R356) -/
def PGE_HALTC : Field := ⟨939, .internal, 0, [], (0, 1), 0, 64, 0, .hidden, fun _ => 0⟩

/-- R38 (spec/01): the same of the last command of Sage -/
def SGE_CMT : Field := ⟨940, .internal, 0, [], (0, 1), 0, 64, 0, .hidden, fun _ => 0⟩

/-- R126 (spec/03): ring oscillator n is trimmed -/
def RO_TRIMMED : Field := ⟨941, .internal, 0, [], (0, 1), 0, 1, 0, .hidden, fun _ => 0⟩

/-- R126 (spec/03): zone temperature of its die at the trim -/
def RO_TEMP : Field := ⟨942, .internal, 0, [], (0, 1), 0, 16, 0, .hidden, fun _ => 0⟩

/-- R126 (spec/03): its cycles since EN was set -/
def RO_TOTAL : Field := ⟨943, .internal, 0, [], (0, 1), 0, 128, 0, .hidden, fun _ => 0⟩

/-- R126 (spec/03): the fewest cycles since then, in units of 1/1,024,000,000 cycle -/
def RO_LO : Field := ⟨944, .internal, 0, [], (0, 1), 0, 192, 0, .hidden, fun _ => 0⟩

/-- R126 (spec/03): the most -/
def RO_HI : Field := ⟨945, .internal, 0, [], (0, 1), 0, 192, 0, .hidden, fun _ => 0⟩

/-- R139 (spec/03): which holds ended at the last edge of a region: bit 0 OUTHOLD, 1 WRHOLD -/
def FAB_JUST : Field := ⟨946, .internal, 0, [], (0, 1), 0, 2, 0, .hidden, fun _ => 0⟩

/-- R644 (spec/17): a register write has given GO, and Sage has not read the command yet -/
def SGE_GOING : Field := ⟨947, .internal, 0, [], (0, 1), 0, 1, 0, .hidden, fun _ => 0⟩

/-- R607 (spec/16): Dawn owns banks 56 to 63 of BD0 for the buffered segments of a staged stream -/
def BUF_ON : Field := ⟨948, .internal, 0, [], (0, 1), 0, 1, 0, .hidden, fun _ => 0⟩

/-- R607 (spec/16): the owner of bank 56 + j of BD0 before that -/
def BUF_OWN : Field := ⟨949, .internal, 0, [], (0, 1), 0, 16, 0, .hidden, fun _ => 0⟩

/-- R655 (spec/18): who waits with an on request of domain d for its power-down to end: bit 0 the wake timer, bit 1 + e policy entry e -/
def PW_WAKERS : Field := ⟨950, .internal, 0, [], (0, 1), 0, 65, 0, .hidden, fun _ => 0⟩

end Sys2Proof.Machine.Reg
end

