-- ==== Sys2Proof/Machine/RegMap.lean ====
section
/-!
DEFINITION. The fields of every register page, block by block, for the address decoder (R19 to R24).
-/

namespace Sys2Proof.Machine.Reg

/-- Fields of the dev pages, piece 0. -/
def fields_dev_0 : List Field :=
  [DEV_SERIAL_SERIAL, DEV_RST_CFG_HOT_WARM, DEV_RST_CAUSE_POR, DEV_RST_CAUSE_DRW, DEV_RST_CAUSE_SWDEV, DEV_RST_CAUSE_WARM, DEV_RST_CAUSE_HOT, DEV_RST_CAUSE_DBG, DEV_RST_CAUSE_TRIP, DEV_RST_CAUSE_JTAG, DEV_RST_CAUSE_BADKEY, DEV_RST_CAUSE_WAKE, DEV_DIEREV_LETTER, DEV_DIEREV_DIGIT, DEV_DIEREV_FLEVEL, DEV_DIEREV_LINKGEN, DEV_DIEREV_TYPE, DEV_SYSID_ID, DEV_RING_BASE, DEV_RING_EN, DEV_RING_LOG2N, DEV_RING_WP, DEV_RING_RP, DEV_RING_DROPS, DEV_RING_OVF, DEV_RST_CLASS, DEV_RST_KEY, DEV_FEAT_PKG_FLEVEL, DEV_FEAT_STREAM_MIN]

/-- Fields of the dev pages. -/
def fields_dev : List Field := fields_dev_0

/-- Fields of the dbg pages, piece 0. -/
def fields_dbg_0 : List Field :=
  [DBG_SESS_STATE, DBG_SESS_LEVEL, DBG_SESS_MASK, DBG_SESS_FAILS, DBG_SEQ_ABORT_SVP, DBG_SEQ_ABORT_FORCE, DBG_SEQ_ABORT_SPATCH, DBG_SEQ_ABORT_DPATCH, DBG_SEQ_ABORT_NVM, DBG_DRW_STAT_FERR, DBG_DRW_STAT_MASKED, DBG_DRW_T_T, CTL_DPATCH_MATCH, CTL_DPATCH_TARGET, CTL_DPATCH_KEY, CTL_DPATCH_EN, CTL_DPATCH_RAM_W, CTL_WDT_CFG_PERIOD, CTL_WDT_CFG_EN, CTL_WDT_CFG_FREEZE, CTL_WDT_CFG_ACTION, CTL_WDT_KICK_KEY, CTL_WDT_STAT_COUNT, CTL_WDT_STAT_STAGE, CTL_WDT_STAT_PAUSED, CTL_BOOT_ADDR, CTL_FRZ_COPY, CTL_FRZ_PDMA, CTL_HRST_GO, CTL_CACHE_ERR_CE, CTL_CACHE_ERR_UE, CTL_MTIME_T, CTL_MTIMECMP_T, CTL_MSIP_P, CTL_SPATCH_MATCH, CTL_SPATCH_TARGET, CTL_SPATCH_KEY, CTL_SPATCH_EN, PLIC_PRIO, CTL_SPATCH_RAM_W]

/-- Fields of the dbg pages, piece 1. -/
def fields_dbg_1 : List Field :=
  [PLIC_PEND, PLIC_ENABLE, PLIC_THR, PLIC_CLAIM]

/-- Fields of the dbg pages. -/
def fields_dbg : List Field := fields_dbg_0 ++ fields_dbg_1

/-- Fields of the dsk pages, piece 0. -/
def fields_dsk_0 : List Field :=
  [DSK_PWR_CTL_DOM, DSK_PWR_CTL_OP, DSK_PWR_CTL_ABORT, DSK_PWR_STAT_STATE, DSK_PWR_STAT_ABORT_LATE, DSK_PWR_STAT_REASON, DSK_PWR_STAT_DOM, DSK_FORCE_KEY_KEY, DSK_FORCE_SET_DOM, DSK_FORCE_SET_SET, DSK_THR_WARN, DSK_THR_CRIT, DSK_THR_HYST, DSK_THR_AUTO, DSK_ZSTAT_WARN, DSK_ZSTAT_CRIT, DSK_ZSTAT_THERM_STOP, DSK_ZSTAT_TRIP, DSK_ZSTAT_RANGE, DSK_WAKE_AT_AT, DSK_WAKE_CTL_DOM, DSK_WAKE_CTL_EN, DSK_ADC_CFG_EN, DSK_PSTATE, DSK_PSTATE_FORCED, DSK_ZTEMP_ZONE, DSK_ZTEMP_GOV, DSK_THRL, DSK_THRL_SW, DSK_ADC_CODE, DSK_SENS_CFG_K, DSK_SENS_CFG_MED, DSK_SENS_VAL, DSK_SENS_FAULT, DSK_SENS_HIST_MAX, DSK_SENS_HIST_MIN, DSK_POL_COND_SRC, DSK_POL_COND_CMP, DSK_POL_COND_EN, DSK_POL_COND_THRESH]

/-- Fields of the dsk pages, piece 1. -/
def fields_dsk_1 : List Field :=
  [DSK_POL_ACT_KIND, DSK_POL_ACT_TARGET, DSK_POL_ACT_LEVEL, DSK_POL_ACT_HYST]

/-- Fields of the dsk pages. -/
def fields_dsk : List Field := fields_dsk_0 ++ fields_dsk_1

/-- Fields of the pci pages, piece 0. -/
def fields_pci_0 : List Field :=
  [PCI_STAT_LINK_UP, PCI_STAT_RATE, PCI_STAT_WIDTH, PCI_STAT_FLIT, PCI_WIN0_BASE, PCI_WIN1_BASE, PCI_DB_VF, PCI_DB_PF1, PCI_MSIX_TRIG_FUNC, PCI_MSIX_TRIG_VEC, PCI_VFWIN_BASE, PCI_MBX_H2D_LEN, PCI_MBX_H2D_FULL, PCI_MBX_H2D_REJ, PCI_MBX_D2H_LEN, PCI_DBG_REQ_ADDR, PCI_DBG_REQ_OP, PCI_DBG_REQ_PEEK, PCI_DBG_REQ_GO, PCI_DBG_DATA_V, PCI_DBG_RSP_RESULT, PCI_DBG_RSP_DONE, PCI_DBG_RDATA_V, PCI_STAGE_ADDR_ADDR, PCI_STAGE_LEN_BYTES, PCI_STAGE_CTL_KIND, PCI_STAGE_CTL_GO, PCI_STAGE_CTL_ABORT, PCI_STAGE_STAT_STATE, PCI_STAGE_STAT_ABORT_LATE, PCI_STAGE_STAT_CODE, PCI_DMA_HOST_ADDR, PCI_DMA_LOCAL_ADDR, PCI_DMA_LEN_BYTES, PCI_DMA_CFG_DIR, PCI_DMA_CFG_FUNC, PCI_DMA_CFG_VEC, PCI_DMA_CFG_IRQ, PCI_DMA_CFG_PRIO, PCI_DMA_CTL_START]

/-- Fields of the pci pages, piece 1. -/
def fields_pci_1 : List Field :=
  [PCI_DMA_CTL_STOP, PCI_DMA_STAT_STATE, PCI_DMA_STAT_ERR, PCI_DMA_DONE_BYTES, PCI_BUF_H2D, PCI_BUF_D2H, PCI_MBX_D2H_FULL, PCI_MBX_D2H_REJ]

/-- Fields of the pci pages. -/
def fields_pci : List Field := fields_pci_0 ++ fields_pci_1

/-- Fields of the tbs pages, piece 0. -/
def fields_tbs_0 : List Field :=
  [TBS_SYNC_CTL_ROLE, TBS_SYNC_CTL_OUT_EN, TBS_SYNC_CTL_TERM, TBS_SYNC_CTL_STEP_OK, TBS_SYNC_CTL_STEP_NOW, TBS_SYNC_CTL_SET_TIME, TBS_SYNC_CFG_ACQ_FRAMES, TBS_SYNC_CFG_LOSS_FRAMES, TBS_SYNC_CFG_LOCK_FRAMES, TBS_SYNC_STAT_SYNC_STATE, TBS_SYNC_STAT_TREF_OK, TBS_SYNC_STAT_PLL_LOCK, TBS_SYNC_STAT_STEP_NEEDED, TBS_SYNC_STAT_MASTER_ID, TBS_SYNC_STAT_SLEWING, TBS_CABLE_DLY_DLY, TBS_PHASE_ERR_ERR, TBS_RATE_RATE, TBS_HOLD_FRAMES, TBS_HOLD_LIMIT_LIMIT, TBS_SYNC_ERRS_CRC, TBS_SYNC_ERRS_SYMBOL, TBS_DIE_STAT_ALIGNED, TBS_DIE_STAT_FAULT, TBS_PWCLK_SRC_FD, TBS_PWCLK_SRC_GEN, TBS_PWCLK_SRC_EN, TBS_TIME_HI, TBS_TIME_LO, TBS_SETTIME]

/-- Fields of the tbs pages. -/
def fields_tbs : List Field := fields_tbs_0

/-- Fields of the cg pages, piece 0. -/
def fields_cg_0 : List Field :=
  [FAB_CG_CFG_N, FAB_CG_CFG_D, FAB_CG_FRAC_F, FAB_CG_CTL_EN, FAB_CG_CTL_ALIGN, FAB_CG_CTL_APPLY, FAB_CG_CTL_ABORT, FAB_CG_AT_AT, FAB_CG_STAT_STATE, FAB_CG_STAT_ABORT_LATE, FAB_CG_STAT_LOCK, FAB_CG_STAT_ALIGNED, FAB_CG_ACT_N, FAB_CG_ACT_D, FAB_CG_ACT_ALIGN, FAB_CG_ACTF_F]

/-- Fields of the cg pages. -/
def fields_cg : List Field := fields_cg_0

/-- Fields of the rgn pages, piece 0. -/
def fields_rgn_0 : List Field :=
  [FAB_RAM_STAT_COLL, FAB_RAM_STAT_CE_CNT, FAB_RAM_STAT_UE, FAB_RAM_EADDR_ADDR, FAB_RAM_EADDR_PORT, FAB_RGN_CLK_SEL, FAB_RGN_CLK_SEL_REJ, FAB_RGN_DCQ_DISC, FAB_RGN_DCQ_OVF, FAB_RGN_NAPCFG_MM_TIMEOUT, FAB_RGN_ISO_REQ, FAB_RGN_ISO_EXIT, FAB_RGN_ISO_EXITMODE, FAB_RGN_ISO_ABORT, FAB_RGN_STAT_STATE, FAB_RGN_STAT_ABORT_LATE, FAB_RGN_STAT_ISOLATED, FAB_RGN_STAT_CAUSE, FAB_RGN_STAT_REASON, FAB_RGN_STAT_SELERR, FAB_RGN_STAT_SPINE_LOST, FAB_RGN_RBK_POLICY, FAB_RGN_RBK_MBE, FAB_RGN_ISO_AT]

/-- Fields of the rgn pages. -/
def fields_rgn : List Field := fields_rgn_0

/-- Fields of the ro pages, piece 0. -/
def fields_ro_0 : List Field :=
  [FAB_RO_CTL_FREQ, FAB_RO_CTL_EN, FAB_RO_CTL_TRIM, FAB_RO_CTL_ABORT, FAB_RO_TRIM_CODE, FAB_RO_STAT_STATE, FAB_RO_STAT_ABORT_LATE, FAB_RO_COUNT_COUNT]

/-- Fields of the ro pages. -/
def fields_ro : List Field := fields_ro_0

/-- Fields of the nvmc pages, piece 0. -/
def fields_nvmc_0 : List Field :=
  [FAB_NVM_STAT_PEND, FAB_NVM_STAT_WP_HIT, FAB_NVM_STAT_LOCKED, FAB_NVM_WP_BOUND, FAB_NVM_LOCK_KEY]

/-- Fields of the nvmc pages. -/
def fields_nvmc : List Field := fields_nvmc_0

/-- Fields of the sp pages, piece 0. -/
def fields_sp_0 : List Field :=
  [FAB_SP_CTL_MODE, FAB_SP_CTL_ROUTE, FAB_SP_CTL_SPIMODE, FAB_SP_CTL_PARITY, FAB_SP_CTL_STOP2, FAB_SP_CTL_ADDR, FAB_SP_DIV_DIV, FAB_SP_DATA_BYTE, FAB_SP_DATA_EMPTY, FAB_SP_STAT_RXCNT, FAB_SP_STAT_TXCNT, FAB_SP_STAT_RXOVF, FAB_SP_STAT_TXOVF, FAB_SP_STAT_LINEERR, FAB_SP_STAT_BUSY]

/-- Fields of the sp pages. -/
def fields_sp : List Field := fields_sp_0

/-- Fields of the rtr pages, piece 0. -/
def fields_rtr_0 : List Field :=
  [NOC_RTR_ID_ROUTER, NOC_RTR_ID_BD, NOC_EPOCH_INGRESS, NOC_EPOCH_OLD_LIVE, NOC_EPOCH_OLD_CNT, NOC_EPOCH_UPDATES, NOC_PSTATE, NOC_WAKE_OCC, NOC_WAKE_PKTS, NOC_WAKE_WAKES, NOC_FLITS_CT_COUNT, NOC_FLITS_BG_COUNT, NOC_FLITS_BE_COUNT, NOC_PERR_CE, NOC_PERR_UE, NOC_PERR_HDR]

/-- Fields of the rtr pages. -/
def fields_rtr : List Field := fields_rtr_0

/-- Fields of the thy pages, piece 0. -/
def fields_thy_0 : List Field :=
  [THY_REQ_SRC_EP, THY_REQ_DST_EP, THY_REQ_BYTES_BYTES, THY_REQ_PERIOD_FRAMES, THY_REQ_LAT_TICKS, THY_REQ_CFG_EXCESS_PRIO, THY_REQ_CFG_RIGID_SRC, THY_REQ_CFG_RIGID_DST, THY_REQ_CFG_MODE, THY_REQ_CFG_FOLD_SAFE, THY_REQ_CFG_MAXLEN, THY_REQ_CMD_OP, THY_REQ_CMD_ABORT, THY_REQ_CMD_ID, THY_REQ_STAT_STATE, THY_REQ_STAT_ABORT_LATE, THY_REQ_STAT_REASON, THY_REQ_STAT_ID, THY_REQ_BOUND_TICKS, THY_REQ_SLOTS_FWD, THY_REQ_SLOTS_RSP, THY_REQ_RDETAIL_DETAIL, THY_REQ_STREAM_INDEX, THY_REQ_STREAM_EN, THY_CT_EP_SRC, THY_CT_EP_DST, THY_CT_RATE_BYTES, THY_CT_CFG_PERIOD, THY_CT_CFG_EXCESS_PRIO, THY_CT_CFG_RIGID_SRC, THY_CT_CFG_RIGID_DST, THY_CT_CFG_MODE, THY_CT_CFG_MAXLEN, THY_CT_CFG_FOLD_SAFE, THY_CT_BOUND_TICKS, THY_CT_SLOTS_FWD, THY_CT_SLOTS_RSP, THY_CT_STAT_CSTATE, THY_CT_STAT_FOLD_EXPOSED, THY_CT_STAT_LAST_CAUSE]

/-- Fields of the thy pages, piece 1. -/
def fields_thy_1 : List Field :=
  [THY_CT_STAT_BREACHES, THY_CT_STREAM_INDEX, THY_CT_STREAM_EN, THY_STAT_LIVE, THY_STAT_ADMITTED, DCL_STR_CFG_LANE, DCL_STR_CFG_DIR, DCL_STR_CFG_TYPE, DCL_STR_CFG_EN, DCL_STR_CFG_STR_REJ, DCL_STR_STAT_NSLOTS, DCL_STR_STAT_BOUND, DCL_STR_STAT_CONTRACT, DCL_STR_CAP_BYTES, DCL_STR_DROP_TX, DCL_STR_DROP_RX]

/-- Fields of the thy pages. -/
def fields_thy : List Field := fields_thy_0 ++ fields_thy_1

/-- Fields of the tio pages, piece 0. -/
def fields_tio_0 : List Field :=
  [TIO_BANK_CFG_IOSTD, TIO_BANK_CFG_TERM, TIO_BANK_CFG_RESFMT, TIO_BANK_VSRC_FLOW, TIO_BANK_VSRC_EN, TIO_BANK_RSLT_FLOW, TIO_BANK_RSLT_EN, TIO_BANK_RSLT_RPKT, TIO_BANK_RSLT_FLUSH, TIO_BANK_THR_VOH, TIO_BANK_THR_VOL, TIO_BANK_CTL_STOP, TIO_BANK_CTL_SRST, TIO_BANK_STOP_AT_AT, TIO_BANK_STAT_RSTATE, TIO_BANK_STAT_CAL_VALID, TIO_BANK_STAT_SUPPLY_OK, TIO_BANK_STAT_VBUF, TIO_BANK_STAT_RBUF, TIO_BANK_LATE_COUNT, TIO_BANK_VDROP_COUNT, TIO_BANK_VNUM_VNUM, TIO_TSPER_PERIOD, TIO_PIN_CFG_MODE, TIO_PIN_CFG_DDR, TIO_PIN_CFG_PULL, TIO_PIN_CFG_DRIVE, TIO_PIN_CFG_SLEW, TIO_PIN_CFG_IDLE, TIO_PIN_CFG_REGION, TIO_PIN_CFG_FDSEL, TIO_PIN_DLY_ODLY, TIO_PIN_DLY_IDLY, TIO_PIN_DSK_DRV, TIO_PIN_DSK_CMP, TIO_PIN_ERR_SQUEEZE, TIO_PIN_ERR_RANGE, TIO_PIN_ERR_CALFLT, TIO_TS_EV_OFFSET, TIO_TS_EV_EN]

/-- Fields of the tio pages, piece 1. -/
def fields_tio_1 : List Field :=
  [TIO_TS_CFG_RETLVL, TIO_TS_CFG_SKIND]

/-- Fields of the tio pages. -/
def fields_tio : List Field := fields_tio_0 ++ fields_tio_1

/-- Fields of the lnq pages, piece 0. -/
def fields_lnq_0 : List Field :=
  [LNE_CFG_MODE, LNE_CFG_RATE, LNE_CFG_TXPOL, LNE_CFG_RXPOL, LNE_CFG_LOOP, LNE_CFG_CFG_REJ, LNE_TXEQ_PRE, LNE_TXEQ_MAIN, LNE_TXEQ_POST, LNE_TXEQ_MANUAL, LNE_STAT_SIGDET, LNE_STAT_CDR_LOCK, LNE_STAT_PCS_LOCK, LNE_STAT_RATE_NOW, LNE_EYE_HEIGHT, LNE_EYE_WIDTH, LNE_RAWERR_CODE, LNE_RAWERR_OVF, LNE_QREF_FREQ, LNE_QREF_SSC, LNE_QREF_REF_OK]

/-- Fields of the lnq pages. -/
def fields_lnq : List Field := fields_lnq_0

/-- Fields of the dcl pages, piece 0. -/
def fields_dcl_0 : List Field :=
  [DCL_CTL_EN, DCL_CTL_RETRAIN, DCL_CTL_ALIGN, DCL_CTL_MAXRATE, DCL_RATES_MASK, DCL_STAT_LSTATE, DCL_STAT_RATE_NOW, DCL_STAT_RCAUSE, DCL_STAT_MAP_OK, DCL_STAT_MAP_REJ, DCL_STAT_RETRAINS, DCL_PEER_MASK, DCL_PEER_DEVID, DCL_PEER_LANTUM, DCL_LAT_TX_TICKS, DCL_LAT_RX_TICKS, DCL_ASYM_TICKS, DCL_TURN_TICKS, DCL_ERRCFG_THRESH, DCL_ERRCFG_WIN, DCL_ERR_BLK, DCL_ERR_CORR, DCL_TIMEDIFF_TICKS, DCL_TXMAPID_ID, DCL_RXMAPID_ID, DCL_TXMAP_S0, DCL_TXMAP_V0, DCL_TXMAP_S1, DCL_TXMAP_V1, DCL_RXMAP_S0, DCL_RXMAP_V0, DCL_RXMAP_S1, DCL_RXMAP_V1]

/-- Fields of the dcl pages. -/
def fields_dcl : List Field := fields_dcl_0

/-- Fields of the pge pages, piece 0. -/
def fields_pge_0 : List Field :=
  [PGE_CTL_ARM, PGE_CTL_ABORT, PGE_CTL_STOP, PGE_CTL_SRST, PGE_CTL_TERM_TS, PGE_STAT_STATE, PGE_STAT_ABORT_LATE, PGE_STAT_HCAUSE, PGE_STAT_HCODE, PGE_STAT_CFG_REJ, PGE_STAT_DEPTH, PGE_PC_PC, PGE_ENTRY_PC, PGE_UBASE_ADDR, PGE_VBASE_ADDR, PGE_START_AT_AT, PGE_STOP_AT_AT, PGE_WTIME_T, PGE_LEAD_MIN_TICKS, PGE_LEAD_MAX_TICKS, PGE_VNUM0_VNUM, PGE_VNUM_VNUM, PGE_VT_T, PGE_VPTR_WORD, PGE_C_COUNT, PGE_SFLAG_SET_F, PGE_SFLAG_CLR_F, PGE_FLAGS_F, PGE_FETCH_FLOW, PGE_FETCH_EN, PGE_FETCH_PRIO, PGE_ERRCNT_LATE, PGE_ERRCNT_BREACH, PGE_EADDR_ADDR, PGE_TSPER_PERIOD, PGE_OUT_CFG_FLOW, PGE_OUT_CFG_EN, PGE_OUT_CFG_VPKT, PGE_OUT_PKTS_COUNT, PGE_XBASE_V]

/-- Fields of the pge pages, piece 1. -/
def fields_pge_1 : List Field :=
  [PGE_XINC_V, PGE_XLIM_V, PGE_X_V, PGE_ZCFG_BASE, PGE_ZCFG_INC, PGE_ZCFG_LIM, PGE_Z_V, PGE_GCFG_CHAIN, PGE_GCFG_PAREN, PGE_GCFG_DSMEN, PGE_GCFG_DSSEL0, PGE_GCFG_DSSEL1, PGE_DSM_V, PGE_PINMAP_KIND, PGE_PINMAP_IDX, PGE_PINMAP_INV, PGE_YBASE_V, PGE_YINC_V, PGE_YLIM_V, PGE_Y_V, PGE_DBACK, PGE_PMASK, PGE_ASXOR, PGE_TPL_STATE, PGE_TPL_MASK, PGE_PERM_E]

/-- Fields of the pge pages. -/
def fields_pge : List Field := fields_pge_0 ++ fields_pge_1

/-- Fields of the fce pages, piece 0. -/
def fields_fce_0 : List Field :=
  [FCE_CTL_ARM, FCE_CTL_END, FCE_CTL_ABORT, FCE_CTL_SRST, FCE_CTL_AUTOEND, FCE_CTL_TRACE, FCE_CTL_SITESTOP, FCE_STAT_STATE, FCE_STAT_ABORT_LATE, FCE_STAT_REASON, FCE_STAT_CFG_REJ, FCE_STAT_BANK, FCE_FLAGS_F, FCE_THRESH_COUNT, FCE_VDONE_VNUM, FCE_VDONE_HI_VALID, FCE_TRACE_OCC, FCE_TRACE_MISS, FCE_ERR_UNMATCHED, FCE_ERR_OUTSIDE, FCE_DOM_ROW_ROWLO, FCE_DOM_ROW_RB, FCE_DOM_ROW_COLLO, FCE_DOM_ROW_CB, FCE_DOM_SEL_DOMLO, FCE_DOM_SEL_DB, FCE_DOM_SEL_ZB, FCE_DOM_SEL_DQX, FCE_DOM_SEL_ASEL, FCE_DOM_SPARE_SR, FCE_DOM_SPARE_SC, FCE_DOM_SPARE_PREF, FCE_DOM_FIX_FIX, FCE_LOG_BASE_OFF, FCE_LOG_CFG_EN, FCE_LOG_CFG_LOG2N, FCE_LOG_CFG_LOGMAX, FCE_LOG_WP_WP, FCE_LOG_RP_RP, FCE_LOG_DROPS_COUNT]

/-- Fields of the fce pages, piece 1. -/
def fields_fce_1 : List Field :=
  [FCE_LOG_DROPS_OVF, FCE_BM_BASE_OFF, FCE_BM_CFG_EN, FCE_BM_CFG_SITE0, FCE_BM_SEL_DOM, FCE_BM_SEL_NSITES, FCE_POOL_BASE_OFF, FCE_POOL_N_N, FCE_POOL_USED_USED, FCE_POOL_USED_UNTRACKED, FCE_REC_BASE0_OFF, FCE_REC_BASE1_OFF, FCE_REC_CNT_COUNT, FCE_REC_TIME_T, FCE_NOTIFY_EP, FCE_NOTIFY_PRIO, FCE_NOTIFY_EN, FCE_SOUT_FLOW, FCE_SOUT_EN, FCE_SOUT_SPKT, FCE_SOUT_RANGE_SITE0, FCE_SOUT_RANGE_NS, FCE_SOUT_PER_PERIOD, FCE_SOUT_PER_SKIPS, FCE_IN_CFG_FLOW, FCE_IN_CFG_EN, FCE_IN_STAT_LASTSEEN, FCE_IN_STAT_BREACHED, FCE_IN_STAT_GAPS, FCE_CHMAP_SITE, FCE_CHMAP_DQ, FCE_CHMAP_EN, FCE_SITE_FLAGS_EN, FCE_SITE_FLAGS_FAIL, FCE_SITE_FLAGS_UNREP, FCE_SITE_FLAGS_INCOMPLETE, FCE_SITE_FLAGS_UNCAL, FCE_SITE_FLAGS_STOPPED, FCE_SITE_FLAGS_UNTRACKED, FCE_SITE_FLAGS_UNREPDOM]

/-- Fields of the fce pages, piece 2. -/
def fields_fce_2 : List Field :=
  [FCE_SITE_FAILCNT_COUNT, FCE_SITE_FFV_VNUM, FCE_SITE_FFT_T, FCE_SITE_CNT_LATE, FCE_SITE_CNT_LOGSKIP]

/-- Fields of the fce pages. -/
def fields_fce : List Field := fields_fce_0 ++ fields_fce_1 ++ fields_fce_2

/-- Fields of the msp pages, piece 0. -/
def fields_msp_0 : List Field :=
  [MSP_CTL_SRST, MSP_STAT_STATE, MSP_STAT_ABORT_LATE, MSP_STAT_WAITING, MSP_STAT_ECAUSE, MSP_STAT_DEPTH, MSP_STAT_FLAG, MSP_STAT_CFG_REJ, MSP_PC_PC, MSP_ENTRY_PC, MSP_HCODE_CODE, MSP_CYCLES_COUNT, MSP_STALLS_COUNT, MSP_D_V, MSP_A_V, MSP_P_ADDR, MSP_M_V, MSP_SR_V, MSP_IX_V, MSP_RC_V, MSP_POIS_D, MSP_POIS_P, MSP_CH_CFG_FLOW, MSP_CH_CFG_EN, MSP_CH_CFG_CLASS, MSP_CH_CFG_WAITCR, MSP_CH_CFG_PRIO, MSP_CH_DEST_EP, MSP_CH_STAT_PEND, MSP_CH_STAT_BREACHED, MSP_CH_STAT_SENT, MSP_GRP_CTL_MASK, MSP_GRP_CTL_CLR, MSP_GRP_CTL_GO, MSP_GRP_CTL_ABORT, MSP_GRP_CTL_STOP, MSP_GRP_CTL_RESUME, MSP_GRP_AT_AT, MSP_GRP_STAT_STATE, MSP_GRP_STAT_ABORT_LATE]

/-- Fields of the msp pages, piece 1. -/
def fields_msp_1 : List Field :=
  [MSP_GRP_STAT_REASON, MSP_GRP_BAR_MASK, MSP_GRP_ERR_UNMATCHED, MSP_IBX_CFG_FLOW, MSP_IBX_CFG_EN, MSP_IBX_CFG_MSP, MSP_IBX_CFG_MEM, MSP_IBX_CFG_LOG2W, MSP_IBX_BASE_BASE, MSP_IBX_PTR_WP, MSP_IBX_PTR_RP, MSP_IBX_STAT_DROPS, MSP_IBX_STAT_BREACHED]

/-- Fields of the msp pages. -/
def fields_msp : List Field := fields_msp_0 ++ fields_msp_1

/-- Fields of the spd pages, piece 0. -/
def fields_spd_0 : List Field :=
  [SPD_OWN_EP, SPD_OWN_STATE, SPD_OWN_ABORT_LATE, SPD_OWN_ABORT, SPD_INV_BANK, SPD_INV_GO, SPD_INVBUSY_BANKS, SPD_DENY_COUNT, SPD_DENY_LAST_SRC, SPD_DENY_LAST_BANK, SPD_DENY_LAST_OWNWR, SPD_CPY_LOCAL_OFF, SPD_CPY_REMOTE_ADDR, SPD_CPY_LEN_BYTES, SPD_CPY_CFG_DIR, SPD_CPY_CFG_PRIO, SPD_CPY_CTL_START, SPD_CPY_CTL_STOP, SPD_CPY_STAT_STATE, SPD_CPY_STAT_ERR, SPD_CPY_STAT_RSTATUS, SPD_CPY_DONE_BYTES, SPD_CPY_EADDR_ADDR, SPD_CPY_REQ_EP]

/-- Fields of the spd pages. -/
def fields_spd : List Field := fields_spd_0

/-- Fields of the ecc pages, piece 0. -/
def fields_ecc_0 : List Field :=
  [ECC_SCRUB_EN, ECC_SCRUB_PERIOD, ECC_SCRUB_STAT_PASSES, ECC_SCRUB_STAT_SKIPS, ECC_ROWCFG_THRESH, ECC_ROWCFG_WINLOG, ECC_ROWCFG_REMAP_EN, ECC_CE_SPD, ECC_CE_FM, ECC_CE_MSP_COUNT, ECC_UE_SPD, ECC_UE_FM, ECC_UE_MSP, ECC_LAST_ADDR, ECC_LAST_HI_KIND, ECC_INV_CLASS, ECC_INV_UNIT, ECC_INV_GO, ECC_INV_STAT_BUSY, ECC_SPARE_FREE, ECC_SPARE_MAPERR, ECC_TRK_MISS, ECC_TRK_LIVE, ECC_FMAP_USED]

/-- Fields of the ecc pages. -/
def fields_ecc : List Field := fields_ecc_0

/-- Fields of the lpx pages, piece 0. -/
def fields_lpx_0 : List Field :=
  [LPX_CFG_RATE, LPX_CFG_INLINE, LPX_CFG_PD_IDLE, LPX_CTL_DET, LPX_CTL_RETRAIN, LPX_CTL_ABORT, LPX_STAT_CSTATE, LPX_STAT_DET_ON, LPX_STAT_DET_DEGRADED, LPX_STAT_CFG_REJ, LPX_STAT_OP_STATE, LPX_STAT_ABORT_LATE, LPX_STAT_FAILCODE, LPX_DEV_DENSITY, LPX_DEV_RANKS, LPX_DEV_MFR, LPX_DEV_REV, LPX_DEV_U, LPX_ERR_LINK_CE, LPX_ERR_INLINE_CE, LPX_ERR2_UE, LPX_ERR2_MR4_RR, LPX_ELAST_ADDR, LPX_MAP_MODE, LPX_MAP_MAP_REJ, LPX_MAP_TOTAL_U]

/-- Fields of the lpx pages. -/
def fields_lpx : List Field := fields_lpx_0

/-- Fields of the dwn pages, piece 0. -/
def fields_dwn_0 : List Field :=
  [DWN_CTL_GO, DWN_CTL_KIND, DWN_CTL_ABORT, DWN_STAT_STATE, DWN_STAT_ABORT_LATE, DWN_STAT_PHASE, DWN_STAT_CODE, DWN_STAT_SRC, DWN_STAT_CONFIGURED, DWN_SRC_ADDR, DWN_SRC_LEN_BYTES, DWN_REL_AT_AT, DWN_REL_CTL_GO, DWN_REL_CTL_REJ, DWN_BOOT_ENTRY, DWN_BOOT_BOOTSRC, DWN_BOOT_QUAD_FB, DWN_BOOT_DIRCOPY, DWN_BOOT_NOCFG, DWN_RELOAD_ADDR, DWN_RELOAD_LEN_BYTES, DWN_RELOAD_CTL_EN, DWN_RELOAD_CTL_RELOAD_OK, DWN_DIGEST_V, DWN_RBK_ADDR_FRAME, DWN_RBFD_CTL_EN, DWN_RBFD_CNT_SBE, DWN_RBFD_CNT_MBE, DWN_RBFD_SCANS_COUNT, DWN_RBFD_LAST_FRAME]

/-- Fields of the dwn pages. -/
def fields_dwn : List Field := fields_dwn_0

/-- Fields of the sge pages, piece 0. -/
def fields_sge_0 : List Field :=
  [SGE_LCS_STATE, SGE_LCS_RETURN, SGE_LCS_LEGACY_OK, SGE_LCS_VALID, SGE_LCS_REVOKED, SGE_LCS_SPOILED, SGE_LCS_OSK, SGE_LCS_LIVE, SGE_NONCE_CTL_NEW, SGE_NONCE_STAT_BUSY, SGE_NONCE_STAT_VALID, SGE_NONCE_V, SGE_CMD_ADDR_ADDR, SGE_CMD_LEN_BYTES, SGE_CMD_CTL_GO, SGE_CMD_CTL_ABORT, SGE_CMD_STAT_STATE, SGE_CMD_STAT_ABORT_LATE, SGE_CMD_STAT_CODE, SGE_CMD_STAT_OP, SGE_RSP_ADDR_ADDR]

/-- Fields of the sge pages. -/
def fields_sge : List Field := fields_sge_0

/-- Fields of the dlk pages, piece 0. -/
def fields_dlk_0 : List Field :=
  [DLK_CFG_THRESH, DLK_CFG_WINLOG, DLK_STAT_LSTATE, DLK_STAT_HALF, DLK_STAT_GEN, DLK_STAT_SPARED, DLK_ERR_CE, DLK_ERR_UE, DLK_NAPST, DLK_GRP_WIRE, DLK_GRP_SPARED, DLK_GRP_EXHAUSTED, DLK_GRP_COUNT]

/-- Fields of the dlk pages. -/
def fields_dlk : List Field := fields_dlk_0

/-- Fields of the mid pages, piece 0. -/
def fields_mid_0 : List Field :=
  [MID_AUTO_CLASSES, MID_AUTO_PER_PERIOD, MID_REQ_UNIT_CLASS, MID_REQ_UNIT_INDEX, MID_REQ_CTL_GO, MID_REQ_CTL_FORCE, MID_REQ_CTL_ABORT, MID_REQ_DL_T, MID_REQ_STAT_STATE, MID_REQ_STAT_ABORT_LATE, MID_REQ_STAT_RESULT, MID_REQ_DETAIL_V, MID_CLASS_TESTED, MID_CLASS_FAILS, MID_FAULTY_PAIR, MID_FAULTY_GROUP, MID_FAULTY_REGIONS]

/-- Fields of the mid pages. -/
def fields_mid : List Field := fields_mid_0

/-- Fields of the svp pages, piece 0. -/
def fields_svp_0 : List Field :=
  [SVP_PIN_CFG_FUNC, SVP_PIN_CFG_THR, SVP_PIN_CFG_HYS, SVP_PIN_CFG_PULL, SVP_PIN_CFG_DRIVE, SVP_PIN_CFG_SLEW, SVP_PIN_CFG_OD, SVP_PIN_CFG_WPOL, SVP_PIN_CFG_EFUNC, SVP_PIN_CFG_LOCKED, SVP_PIN_OWN_EP, SVP_LOCK_KEY_KEY, SVP_BANK_STAT_V33_0, SVP_BANK_STAT_V33_1, SVP_OUT, SVP_OE, SVP_IN, SVP_FUNC_LOST, SVP_PORT_LOST, SVP_LOCK_SET]

/-- Fields of the svp pages. -/
def fields_svp : List Field := fields_svp_0

/-- The fields of a block's page. -/
def ofBlk : Blk → List Field
  | .dev => fields_dev
  | .dbg => fields_dbg
  | .dsk => fields_dsk
  | .pci => fields_pci
  | .tbs => fields_tbs
  | .cg => fields_cg
  | .rgn => fields_rgn
  | .ro => fields_ro
  | .nvmc => fields_nvmc
  | .sp => fields_sp
  | .rtr => fields_rtr
  | .thy => fields_thy
  | .tio => fields_tio
  | .lnq => fields_lnq
  | .dcl => fields_dcl
  | .pge => fields_pge
  | .fce => fields_fce
  | .msp => fields_msp
  | .spd => fields_spd
  | .ecc => fields_ecc
  | .lpx => fields_lpx
  | .dwn => fields_dwn
  | .sge => fields_sge
  | .dlk => fields_dlk
  | .mid => fields_mid
  | .svp => fields_svp
  | .internal => []

/-- Numbers below this are power-on-class fields (R32). -/
def porTop : Nat := 104

/-- Numbers from porTop below this are PCIe-hot-class fields (R547, R548). -/
def hotTop : Nat := 152

end Sys2Proof.Machine.Reg
end

