-- ==== Sys2Proof/Machine/Ops.lean ====
section
/-!
DEFINITION. The operations every meaning is built from: register fields, time, event records, the interrupt controller's
gateways, endpoint IDs, responses, free values.
-/

namespace Sys2Proof.Machine

/-! ### Register fields -/

/-- The value of element i of a field. -/
def State.getR (s : State) (f : Field) (i : Nat) : Nat := Map.get (f.rst i) s.regs (f.key i)

/-- Put a value into element i of a field, cut to the field (R13). -/
def State.setR (s : State) (f : Field) (i v : Nat) : State :=
  s.modRegs (fun m => Map.set (f.rst i) m (f.key i) (f.norm v))

/-- A one-bit field as a Bool. -/
def State.flag (s : State) (f : Field) (i : Nat) : Bool := decide (s.getR f i = 1)

/-- A field back at its reset value. -/
def State.resetR (s : State) (f : Field) (i : Nat) : State := s.setR f i (f.rst i)

/-- Count up by n and stay at the largest value (saturating counters). -/
def State.satAdd (s : State) (f : Field) (i n : Nat) : State :=
  s.setR f i (min (s.getR f i + n) (2 ^ f.width - 1))

/-- Count up by n and wrap. -/
def State.wrapAdd (s : State) (f : Field) (i n : Nat) : State := s.setR f i (s.getR f i + n)

/-- Set a field in several elements. -/
def State.setEach (s : State) (f : Field) (is : List Nat) (v : Nat) : State :=
  is.foldl (fun t i => t.setR f i v) s

/-- Put fields of a list back at reset, in each of a list of elements. -/
def State.resetFields (s : State) (fs : List Field) (i : Nat) : State :=
  fs.foldl (fun t f => t.resetR f i) s

/-- Put fields back at reset in elements lo to lo + n - 1. -/
def State.resetRange (s : State) (fs : List Field) (lo n : Nat) : State :=
  s.modRegs (fun m => m.filter (fun e =>
    !(fs.any (fun f => decide (f.id % Field.idBound = e.1 % Field.idBound)) && decide (lo ≤ e.1 / Field.idBound)
      && decide (e.1 / Field.idBound < lo + n))))

/-- A Bool as a one-bit value. -/
def bit (b : Bool) : Nat := if b then 1 else 0

/-- Bit n of a number. -/
def nbit (v n : Nat) : Bool := decide (v / 2 ^ n % 2 = 1)

/-- A number with bit n set. -/
def setBit (v n : Nat) : Nat := v ||| 2 ^ n

/-- A number with bit n clear. -/
def clrBit (v n : Nat) : Nat := if nbit v n then v - 2 ^ n else v

/-- A number's bits as a two's-complement value of w bits. -/
def signed (w v : Nat) : Int := if v % 2 ^ w < 2 ^ (w - 1) then (v % 2 ^ w : Nat) else (v % 2 ^ w : Nat) - (2 ^ w : Nat)

/-- An integer as w bits of two's complement. -/
def unsigned (w : Nat) (v : Int) : Nat := (v % (2 ^ w : Nat)).toNat

/-- Round up a division. -/
def ceilDiv (a b : Nat) : Nat := (a + b - 1) / b

/-! ### Instances -/

/-- A region's number in the package: the FD's index and the region on it. -/
def rgn (fd : Fin 8) (r : Fin 384) : Nat := fd.val * 384 + r.val

/-- An instance of eight per FD (clock generator, ring oscillator, serial port). -/
def per8 (fd : Fin 8) (g : Fin 8) : Nat := fd.val * 8 + g.val

/-- An endpoint ID (R12). -/
def ep (bd router port : Nat) : Nat := bd * 16384 + router * 128 + port * 4

/-- The base die of an endpoint ID. -/
def epBd (e : Nat) : Nat := e / 16384 % 4

/-- The router field of an endpoint ID. -/
def epRouter (e : Nat) : Nat := e / 128 % 128

/-- The local port of an endpoint ID. -/
def epPort (e : Nat) : Nat := e / 4 % 32

/-- The router's number in the package. -/
def epRtr (e : Nat) : Nat := epBd e * 96 + epRouter e

/-- The endpoint ID of a port of a router numbered in the package. -/
def rtrEp (r port : Nat) : Nat := ep (r / 96) (r % 96) port

/-- The instance of NOC_PSTATE for an endpoint. -/
def portIx (e : Nat) : Nat := epRtr e * 32 + epPort e

/-- The endpoint ID of a region's NAP (R14). -/
def napEp (rg : Nat) : Nat :=
  let fd := rg / 384
  let row := rg % 384 / 24
  let col := rg % 24
  ep (fd / 2) (row / 2 * 12 + col / 4 + 6 * (fd % 2)) (row % 2 * 4 + col % 4)

/-- The region whose NAP an endpoint is, for ports 0 to 7 (R14). -/
def epRegion (e : Nat) : Nat :=
  let r := epRouter e / 12
  let c := epRouter e % 12
  (2 * epBd e + c / 6) * 384 + (2 * r + epPort e / 4) * 24 + 4 * (c % 6) + epPort e % 4

/-- The endpoint of the package register pages (R98, R185). -/
def pkgEp : Nat := ep 0 90 18

/-- The endpoint of Thyme (R185). -/
def thymeEp : Nat := ep 0 90 17

/-- The endpoint of the register window of a fabric die (R185). -/
def fdWinEp (fd : Nat) : Nat := ep (fd / 2) 88 (9 + fd % 2)

/-- The endpoint of the register window of a base die (R185). -/
def bdWinEp (bd : Nat) : Nat := ep bd 88 8

/-- The management requesters of R468: CC0 to CC3, the PCIe controller and Dawn. -/
def isMgmt (req : Nat) : Bool :=
  decide (req = ep 0 90 8) || decide (req = ep 0 90 9) || decide (req = ep 0 90 10) || decide (req = ep 0 90 11)
    || decide (req = ep 0 11 8) || decide (req = ep 0 90 14)

/-- The endpoint of control core n. -/
def coreEp (n : Nat) : Nat := ep 0 90 (8 + n)

/-- A channel that control core `req` started is frozen: the core's freeze bit is set and its hart halted (R585). -/
def State.frozen (s : State) (f : Field) (req : Nat) : Bool :=
  (List.range 4).any (fun n => decide (req = coreEp n) && s.flag f n && s.flag Reg.HART_HALT n)

/-! ### Time -/

/-- The counter is at or past a time, modulo 2^64 (R47, R77). -/
def State.reached (s : State) (at_ : Nat) : Bool :=
  decide ((s.time - BitVec.ofNat 64 at_).toNat < 2 ^ 63)

/-- A time has come, and no TIME_PLL_UNLOCK is in force (R73, R77); 0 is a time like every other. -/
def State.dueAt (s : State) (at_ : Nat) : Bool := s.reached at_ && !s.flag Reg.T_UNLOCK 0

/-- A scheduled action may take place: its AT is 0 (at once), or has come (R73, R77). -/
def State.due (s : State) (at_ : Nat) : Bool := decide (at_ = 0) || s.dueAt at_

/-- The last step of Tabirair time was a forward one, modulo 2^64 (R77). -/
def State.steppedForward (s : State) : Bool :=
  s.flag Reg.T_STEP_SEEN 0
    && decide ((BitVec.ofNat 64 (s.getR Reg.T_STEP_NEW 0) - BitVec.ofNat 64 (s.getR Reg.T_STEP_OLD 0)).toNat < 2 ^ 63)

/-- A scheduled time was jumped past by the last step of Tabirair time, a forward one (R77). -/
def State.jumped (s : State) (at_ : Nat) : Bool :=
  s.steppedForward
    && decide (0 < (BitVec.ofNat 64 at_ - BitVec.ofNat 64 (s.getR Reg.T_STEP_OLD 0)).toNat)
    && decide ((BitVec.ofNat 64 at_ - BitVec.ofNat 64 (s.getR Reg.T_STEP_OLD 0)).toNat
        < (BitVec.ofNat 64 (s.getR Reg.T_STEP_NEW 0) - BitVec.ofNat 64 (s.getR Reg.T_STEP_OLD 0)).toNat)

/-- A time lies before another, modulo 2^64. -/
def before (a b : Nat) : Bool := decide ((BitVec.ofNat 64 a - BitVec.ofNat 64 b).toNat ≥ 2 ^ 63)

/-- A time later by a signed number of ticks, modulo 2^64. -/
def plusTicks (t : Nat) (d : Int) : Nat := (BitVec.ofNat 64 t + BitVec.ofInt 64 d).toNat

/-- Ticks from an earlier counter value to now, modulo 2^64. -/
def State.since (s : State) (t : Nat) : Nat := (s.time - BitVec.ofNat 64 t).toNat

/-- Ticks of the device's own clocks from an earlier reading of the NoC clock to now: no step of Tabirair time moves them (R49, R195). -/
def State.elapsed (s : State) (at_ : Nat) : Nat := s.noc.clock % 2 ^ 64 - at_

/-- The reading of the NoC clock that `elapsed` starts from. -/
def State.clockNow (s : State) : Nat := s.noc.clock % 2 ^ 64

/-! ### Commit points (R38) -/

/-- The present cycle of the NoC clock, which no step of Tabirair time moves; never 0. -/
def State.cycle (s : State) : Nat := s.noc.clock % 2 ^ 63 + 1

/-- An operation reaches its commit point in this cycle. -/
def State.markCommit (s : State) (f : Field) (i : Nat) : State := s.setR f i s.cycle

/-- The operation's commit point lies in this cycle: an abort now is late, although the model shows DONE already (R38; notes/assumptions/88). -/
def State.inCommitCycle (s : State) (f : Field) (i : Nat) : Bool := decide (s.getR f i = s.cycle)

/-- A field of a number: `len` bits from bit `lo`. -/
def fld (w lo len : Nat) : Nat := w / 2 ^ lo % 2 ^ len

/-! ### Free values -/

/-- Draw a free value: the next draw differs. -/
def State.draw (s : State) : State := s.modFree (· + 1)

/-! ### The interrupt controller's gateways (R556, R557) -/

/-- A rising edge at an edge gateway: the source becomes pending, or the request waits while one is pending or in service. -/
def State.irqEdge (s : State) (n : Nat) : State :=
  if n = 0 then s
  else if s.flag Reg.PLIC_PEND n || s.flag Reg.PLIC_BUSY n then s.satAdd Reg.PLIC_WAIT n 1
  else s.setR Reg.PLIC_PEND n 1

/-- The level at a level gateway: a raised level makes an idle source pending. -/
def State.irqLevel (s : State) (n : Nat) (v : Bool) : State :=
  let t := s.setR Reg.PLIC_LEVEL n (bit v)
  if v && !s.flag Reg.PLIC_BUSY n then t.setR Reg.PLIC_PEND n 1 else t

/-- A state field enters a state: where the state is one of those that the interrupt source signals, the source sees an edge (R557). -/
def State.enterSt (s : State) (f : Field) (i v src : Nat) (fin : List Nat) : State :=
  if fin.contains v && decide (s.getR f i ≠ v) then (s.setR f i v).irqEdge src else s.setR f i v

/-- PGE n enters a state (R557). -/
def State.pgeSt (s : State) (n v : Nat) : State := s.enterSt Reg.PGE_STAT_STATE n v (32 + n) [2, 3, 4, 6]

/-- FCE n enters a state (R557). -/
def State.fceSt (s : State) (n v : Nat) : State := s.enterSt Reg.FCE_STAT_STATE n v (48 + n) [2, 3, 4]

/-- MSP m enters a state (R557). -/
def State.mspSt (s : State) (m v : Nat) : State := s.enterSt Reg.MSP_STAT_STATE m v (64 + m) [2, 4, 6]

/-- Timed I/O bank b enters a state (R557). -/
def State.tioSt (s : State) (b v : Nat) : State := s.enterSt Reg.TIO_BANK_STAT_RSTATE b v (192 + b) [0, 3, 4]

/-- Link l, of lane l + 16, enters a state (R557). -/
def State.dclSt (s : State) (l v : Nat) : State := s.enterSt Reg.DCL_STAT_LSTATE l v (212 + l) [6, 1, 7]

/-- LPDDR5X channel n enters a state (R557). -/
def State.lpxSt (s : State) (n v : Nat) : State := s.enterSt Reg.LPX_STAT_CSTATE n v (356 + n) [v]

/-- Scratchpad copy channel k (base die × 8 + channel) enters a state (R557). -/
def State.cpySt (s : State) (k v : Nat) : State := s.enterSt Reg.SPD_CPY_STAT_STATE k v (372 + k) [2, 4, 6]

/-! ### Event records (R26, R27) -/

/-- The place of a pending record: its SOURCE and CODE. -/
def evKey (source code : Nat) : Nat := source * 65536 + code

/-- What an unlisted place in the table of pending records reads as. -/
def noEvent : EventRec := ⟨0, 0, 0, 0⟩

/-- A record that has just been created. -/
def newEvent (time sev detail : Nat) : EventRec := ⟨time, sev, 0, detail⟩

/-- The pending records after a source raises a code: a new record, or REPEAT of the pending one, to 4,095 (R27). -/
def raiseIn (m : Map EventRec) (key time sev detail : Nat) : Map EventRec :=
  match Map.find m key with
  | some r => Map.put m key { r with repeats := min (r.repeats + 1) 4095 }
  | none => Map.put m key (newEvent time sev detail)

/-- Raise an event. -/
def State.raise (s : State) (source code sev detail : Nat) : State :=
  s.modEvents (fun m => raiseIn m (evKey source code) s.time.toNat sev (detail % 2 ^ 128))

/-! ### Responses -/

/-- Give a requester a response (R192). -/
def State.respond (s : State) (data status : Nat) (poison : Bool := false) : State :=
  s.modResp (fun _ => ⟨data, status, poison⟩)

/-- The decode error of R24: a read returns 0, the event ADDR_UNMAPPED is raised by the place that answers. -/
def State.decodeError (s : State) (source addr req : Nat) : State :=
  (s.respond 0 1).raise source 0x0201 2 (addr % 2 ^ 48 + req % 2 ^ 16 * 2 ^ 48)

/-- DETAIL of a region's events (R156, R161, R178): region number and die index − 4. -/
def rgnDetail (rg : Nat) : Nat := rg % 384 + rg / 384 * 2 ^ 9

end Sys2Proof.Machine
end

