-- ==== Sys2Proof/Machine/KeySeq.lean ====
section
/-!
DEFINITION. The key sequences (R136, R561, R584, R657, R713): each has a stage, the requester of its first key and the time that has passed since.
-/

namespace Sys2Proof.Machine

/-- A key sequence comes to a stage; the first key records its requester and its time. -/
def State.keyAt (s : State) (q stage req : Nat) : State :=
  if stage = 1 then ((s.setR Reg.KEY_STAGE q 1).setR Reg.KEY_REQ q req).setR Reg.KEY_T q s.clockNow else s.setR Reg.KEY_STAGE q stage

/-- A key sequence returns to idle. -/
def State.keyIdle (s : State) (q : Nat) : State := s.setR Reg.KEY_STAGE q 0

/-- The ticks since the first key of a sequence. -/
def State.keyAge (s : State) (q : Nat) : Nat := (s.clockNow + 2 ^ 64 - s.getR Reg.KEY_T q) % 2 ^ 64

/-- More than 64 ncyc have passed since the first key of a sequence: it is over (R136, R561, R657, R713). -/
def State.keyLate (s : State) (q : Nat) : Bool := decide (64 * 512 < s.keyAge q)

/-- The stage of a key sequence. -/
def State.keyStage (s : State) (q : Nat) : Nat := if s.keyLate q then 0 else s.getR Reg.KEY_STAGE q

/-- A gap in a key sequence of more than 64 ncyc returns it to idle. -/
def State.keyTimeout (s : State) (q : Nat) : State := if s.keyLate q then s.keyIdle q else s

end Sys2Proof.Machine
end

