-- ==== Sys2Proof/Machine/Msix.lean ====
section
/-!
DEFINITION. The PCIe functions' MSI-X vectors (R526, R536).
-/

namespace Sys2Proof.Machine

/-- A vector nothing has set: masked, as the MSI-X rules have it after reset. -/
def msix0 : MsixVec := ⟨0, 0, true, false⟩

/-- The vectors of a function (R526): 16 of PF0, 32 of PF1, 4 of a VF. -/
def msixCount (fn : Nat) : Nat := if fn = 0 then 16 else if fn = 1 then 32 else if fn < 34 then 4 else 0

/-- A function's vector. -/
def State.msixVec (s : State) (fn v : Nat) : MsixVec := Map.get msix0 s.pcie.msix (fn * 64 + v)

/-- Put a function's vector. -/
def State.putMsix (s : State) (fn v : Nat) (m : MsixVec) : State :=
  s.modPcie (fun p => { p with msix := Map.set msix0 p.msix (fn * 64 + v) m })

/-- A function may send the message of a vector: MSI-X is enabled, neither the function nor the vector is masked, and it masters the bus. -/
def State.msixOpen (s : State) (fn v : Nat) : Bool :=
  s.pcie.msixOn.contains fn && !s.pcie.msixMask.contains fn && s.pcie.bme.contains fn && !(s.msixVec fn v).masked

/-- Signal a vector (R536): the message is sent, or its pending bit set; beyond the function's count there is no effect. -/
def State.msix (s : State) (fn v : Nat) : State :=
  let m := s.msixVec fn v
  if msixCount fn ≤ v then s
  else if s.msixOpen fn v then
    (s.putMsix fn v { m with pending := false }).modPcie (fun p => { p with tlp := some ⟨fn, m.addr, 4, m.data⟩ })
  else s.putMsix fn v { m with pending := true }

/-- A function's pending vectors that may be sent now are sent. -/
def State.msixFlush (s : State) (fn : Nat) : State :=
  (List.range (msixCount fn)).foldl (fun t v => if (t.msixVec fn v).pending && t.msixOpen fn v then t.msix fn v else t) s

end Sys2Proof.Machine
end

