-- ==== Sys2Proof/Machine/EventCodes.lean ====
section
/-!
DEFINITION. The event codes the manual defines with their severities: the tables of its chapters, and R24 and R43. No other code is ever raised (R28, R98, R221, R258 and
the like).
-/

namespace Sys2Proof.Machine

/-- The codes 0x01xx. -/
def codes01 : List (Nat × Nat) :=
  [(0x0101, 1), (0x0102, 4), (0x0103, 2), (0x0104, 2), (0x0105, 1), (0x0106, 2), (0x0107, 2), (0x0108, 2), (0x0109, 2), (0x0120, 1),
   (0x0121, 4), (0x0122, 4)]

/-- The codes 0x02xx. -/
def codes02 : List (Nat × Nat) :=
  [(0x0201, 2), (0x0202, 1), (0x0203, 4), (0x0204, 4), (0x0205, 4), (0x0206, 2), (0x0207, 2), (0x0208, 0), (0x0209, 4), (0x020A, 0),
   (0x020B, 0), (0x020C, 2), (0x0230, 2), (0x0231, 2), (0x0232, 3)]

/-- The codes 0x03xx. -/
def codes03 : List (Nat × Nat) :=
  [(0x0301, 0), (0x0302, 0), (0x0303, 3), (0x0304, 0), (0x0305, 0), (0x0306, 0), (0x0307, 3), (0x0308, 2)]

/-- The codes 0x04xx. -/
def codes04 : List (Nat × Nat) :=
  [(0x0401, 2), (0x0402, 2), (0x0403, 4), (0x0404, 2), (0x0405, 0), (0x0406, 2), (0x0407, 2), (0x0408, 4), (0x0409, 2), (0x040A, 3),
   (0x040B, 3), (0x040C, 3), (0x040D, 2), (0x040E, 2), (0x040F, 3)]

/-- The codes 0x05xx. -/
def codes05 : List (Nat × Nat) :=
  [(0x0501, 3), (0x0502, 3), (0x0503, 2), (0x0504, 2), (0x0505, 2), (0x0506, 4), (0x0507, 4), (0x0508, 3), (0x0509, 0)]

/-- The codes 0x06xx. -/
def codes06 : List (Nat × Nat) :=
  [(0x0601, 0), (0x0602, 0), (0x0603, 4), (0x0604, 4), (0x0605, 2), (0x0606, 3), (0x0607, 0), (0x0608, 0), (0x0609, 0)]

/-- The codes 0x07xx. -/
def codes07 : List (Nat × Nat) :=
  [(0x0701, 0), (0x0702, 0), (0x0703, 0), (0x0704, 3), (0x0705, 2), (0x0706, 3), (0x0707, 0), (0x0708, 2), (0x0709, 2), (0x070A, 4),
   (0x070B, 2)]

/-- The codes 0x08xx. -/
def codes08 : List (Nat × Nat) :=
  [(0x0801, 0), (0x0802, 0), (0x0803, 2), (0x0804, 4), (0x0805, 3), (0x0806, 2), (0x0807, 0), (0x0808, 0)]

/-- The codes 0x09xx. -/
def codes09 : List (Nat × Nat) :=
  [(0x0901, 4), (0x0902, 0), (0x0903, 4), (0x0904, 0), (0x0905, 0), (0x0906, 3), (0x0907, 2), (0x0908, 5), (0x0909, 2), (0x090A, 1),
   (0x090B, 4), (0x090C, 1), (0x090D, 2), (0x0920, 2), (0x0921, 0), (0x0922, 3), (0x0923, 2)]

/-- The codes 0x0Axx. -/
def codes0A : List (Nat × Nat) :=
  [(0x0A01, 0), (0x0A02, 2), (0x0A03, 0), (0x0A04, 0), (0x0A05, 4), (0x0A06, 4), (0x0A07, 2)]

/-- The codes 0x0Bxx. -/
def codes0B : List (Nat × Nat) :=
  [(0x0B01, 0), (0x0B02, 0), (0x0B03, 2), (0x0B04, 2), (0x0B05, 2), (0x0B06, 0), (0x0B07, 3), (0x0B08, 5), (0x0B09, 3), (0x0B0A, 0),
   (0x0B0B, 2), (0x0B0C, 0), (0x0B0D, 2)]

/-- The codes 0x0Cxx. -/
def codes0C : List (Nat × Nat) :=
  [(0x0C01, 1), (0x0C02, 2), (0x0C03, 2), (0x0C04, 4), (0x0C05, 4), (0x0C10, 0), (0x0C11, 4), (0x0C12, 2), (0x0C13, 0)]

/-- The codes 0x0Dxx. -/
def codes0D : List (Nat × Nat) :=
  [(0x0D01, 0), (0x0D02, 4), (0x0D03, 1), (0x0D04, 1), (0x0D05, 4), (0x0D06, 4), (0x0D07, 0), (0x0D08, 3), (0x0D09, 2)]

/-- The codes 0x0Exx. -/
def codes0E : List (Nat × Nat) :=
  [(0x0E01, 0), (0x0E02, 2), (0x0E03, 2), (0x0E04, 0), (0x0E05, 0), (0x0E06, 2), (0x0E07, 2), (0x0E08, 2)]

/-- The codes 0x0Fxx. -/
def codes0F : List (Nat × Nat) :=
  [(0x0F01, 2), (0x0F02, 4), (0x0F03, 4), (0x0F04, 4), (0x0F05, 0), (0x0F06, 0), (0x0F07, 0), (0x0F08, 2), (0x0F09, 1), (0x0F0A, 2),
   (0x0F0B, 2), (0x0F0C, 0)]

/-- The codes 0x10xx. -/
def codes10 : List (Nat × Nat) :=
  [(0x1001, 2), (0x1002, 0)]

/-- The codes 0x11xx. -/
def codes11 : List (Nat × Nat) :=
  [(0x1101, 0), (0x1102, 2), (0x1103, 2), (0x1104, 2), (0x1105, 1), (0x1106, 2), (0x1107, 0), (0x1108, 5), (0x1109, 4), (0x110A, 3),
   (0x110B, 2), (0x110C, 4)]

/-- Every code with its severity. -/
def eventCodes : List (Nat × Nat) :=
  codes01 ++ codes02 ++ codes03 ++ codes04 ++ codes05 ++ codes06 ++ codes07 ++ codes08 ++ codes09
    ++ codes0A ++ codes0B ++ codes0C ++ codes0D ++ codes0E ++ codes0F ++ codes10 ++ codes11

/-- The time base raises its codes from the endpoint of its register page, and CLKGEN_UNLOCK from the windows of the fabric dies (R98, R185). -/
def eventSource (source code : Nat) : Bool :=
  if code / 256 ≠ 0x11 then true
  else if code = 0x110C then decide (source % 16384 / 128 = 88) && (decide (source % 128 / 4 = 9) || decide (source % 128 / 4 = 10)) && decide (source % 4 = 0)
  else decide (source = 0x2D48)

/-- A code is raised with this severity. -/
def eventDefined (code severity : Nat) : Bool := eventCodes.contains (code, severity)

end Sys2Proof.Machine
end

