-- ==== Sys2Proof/Machine/Memory.lean ====
section
/-!
DEFINITION. The shared memories (R465 to R492), LPDDR5X (R497 to R509) and the system NVM as one word store: where an
address lies, what a read finds, what a write leaves, and the repair machinery an error sets going.
-/

namespace Sys2Proof.Machine

/-! ### Words -/

/-- What a word that nothing has written is: invalid (R480), no error. -/
def noWord : MemWord := ⟨0, false, .clean⟩

/-- The word stored at a word number (address div 8). -/
def State.word (s : State) (k : Nat) : MemWord := Map.get noWord s.mem k

/-- Store a word. -/
def State.putWord (s : State) (k : Nat) (w : MemWord) : State := s.modMem (fun m => Map.set noWord m k w)

/-- What an upset does to a stored word (R466, R482, R483): stored poison stays stored poison, and a valid bit with a parity error reads as 0. -/
def upsetWord (w : MemWord) : Option Upset → MemWord
  | none => w
  | some (.single b) =>
    let flipped : BitVec 64 := if b < 64 then w.data ^^^ BitVec.ofNat 64 (2 ^ b) else w.data
    match w.mark with
    | .clean => { w with data := flipped, mark := .single b }
    | .single c => if b = c then { w with data := flipped, mark := .clean } else { w with data := flipped, mark := .multi }
    | .multi => { w with data := flipped }
    | .poison => w
  | some (.multi f) =>
    match w.mark with
    | .poison => w
    | _ => { w with data := w.data ^^^ f, mark := .multi }
  | some .validParity => noWord

/-- The data a single-bit error is corrected to. -/
def corrected (w : MemWord) : BitVec 64 :=
  match w.mark with
  | .single b => if b < 64 then w.data ^^^ BitVec.ofNat 64 (2 ^ b) else w.data
  | _ => w.data

/-- Replace the bytes of a word whose enables are 1. -/
def mergeBytes (old new : BitVec 64) (be : Nat) : BitVec 64 :=
  (List.range 8).foldl (fun acc i =>
    if nbit be i then (acc &&& ~~~(BitVec.ofNat 64 (0xFF * 2 ^ (8 * i)))) ||| (new &&& BitVec.ofNat 64 (0xFF * 2 ^ (8 * i)))
    else acc) old

/-! ### Access faults of the control cores (R24, R552, R554) -/

/-- A control core takes an access fault: mcause 5 of a load, 7 of a store, mtval the address. -/
def State.coreFault (s : State) (req a : Nat) (write : Bool) : State :=
  match (List.range 4).find? (fun n => decide (req = coreEp n)) with
  | some n => (s.setR Reg.HART_MCAUSE n (if write then 7 else 5)).setR Reg.HART_MTVAL n a
  | none => s

/-- The answer of a core's access as the core takes it: a decode error or a poisoned read is an access fault. -/
def State.coreTakes (s : State) (req a : Nat) (write : Bool) : State :=
  if s.resp.status = 1 ∨ (write = false ∧ s.resp.poison = true) then s.coreFault req a write else s

/-- The attributes of an address for the control cores (R552): ordinary memory is cacheable and takes LR/SC and AMOs; everything else that is mapped is I/O, where they
raise a store/AMO access fault. -/
def cacheable (a : Nat) : Bool :=
  decide (a < 0x4004000000) || (decide (0x4100000000 ≤ a) && decide (a < 0x4102000000)) || (decide (0x4200000000 ≤ a) && decide (a < 0x4202000000))
    || (decide (0x7000000000 ≤ a) && decide (a < 0x7000800000))

/-! ### Units (R465) -/

/-- A unit's number: class × 4,096 + base die × 128 + index (scratchpad bank, fail-memory bank, or 3 × MSP + memory). -/
def unitNo (cls bd idx : Nat) : Nat := cls * 4096 + bd * 128 + idx

/-- A unit's class: 0 scratchpad, 1 fail memory, 2 MSP memory. -/
def unitCls (u : Nat) : Nat := u / 4096

/-- A unit's base die. -/
def unitBd (u : Nat) : Nat := u / 128 % 32

/-- A unit's index on its base die. -/
def unitIdx (u : Nat) : Nat := u % 128

/-- Where an address lies among the units: the unit and the word in it (R19, R465). -/
def unitOf (a : Nat) : Option (Nat × Nat) :=
  if 0x4000000000 ≤ a ∧ a < 0x4004000000 then
    let o := a - 0x4000000000
    some (unitNo 0 (o / 0x1000000) (o % 0x1000000 / 0x40000), o % 0x40000 / 8)
  else if 0x4100000000 ≤ a ∧ a < 0x4102000000 then
    let o := a - 0x4100000000
    let q := o % 0x800000
    let g := q / 0x200000
    let w := q % 0x200000 / 8
    some (unitNo 1 (o / 0x800000) (8 * g + w % 8), w / 8)
  else if 0x4200000000 ≤ a ∧ a < 0x4202000000 then
    let o := a - 0x4200000000
    let m := o / 0x40000
    let k := o % 0x40000 / 0x10000
    if k < 3 then some (unitNo 2 (m / 32) (3 * (m % 32) + k), o % 0x10000 / 8) else none
  else none

/-- The address of a word of a unit: the inverse of unitOf. -/
def unitAddr (u w : Nat) : Nat :=
  let bd := unitBd u
  let i := unitIdx u
  if unitCls u = 0 then 0x4000000000 + bd * 0x1000000 + i * 0x40000 + w * 8
  else if unitCls u = 1 then 0x4100000000 + bd * 0x800000 + i / 8 * 0x200000 + (w * 8 + i % 8) * 8
  else 0x4200000000 + (bd * 32 + i / 3) * 0x40000 + i % 3 * 0x10000 + w * 8

/-- The words of a unit. -/
def unitWords (u : Nat) : Nat := if unitCls u = 2 then 8192 else 32768

/-- The spare rows of a unit. -/
def unitSpares (u : Nat) : Nat := if unitCls u = 2 then 4 else 8

/-- The endpoint that reports a unit's events (R496). -/
def unitEp (u : Nat) : Nat :=
  if unitCls u = 0 then ep (unitBd u) (12 * (unitIdx u / 8) + 5) 8
  else if unitCls u = 1 then ep (unitBd u) 84 8
  else ep (unitBd u) (24 * (unitIdx u / 3 / 8)) 11

/-- DETAIL of the shared memories' events (R496). -/
def memDetail (addr cls : Nat) (bitNo req spare : Nat := 0) (nospare notSaved : Bool := false) (cpyErr : Nat := 0) : Nat :=
  addr % 2 ^ 48 + cls * 2 ^ 48 + bitNo % 64 * 2 ^ 50 + req % 2 ^ 16 * 2 ^ 64 + spare % 256 * 2 ^ 80
    + bit nospare * 2 ^ 88 + bit notSaved * 2 ^ 89 + cpyErr % 16 * 2 ^ 92

/-! ### The row tracker (R487 to R489) -/

/-- The tracker's window in ticks: 2^WINLOG, WINLOG kept within 20 to 50. -/
def State.trkWindow (s : State) (bd : Nat) : Nat := 2 ^ (max 20 (min 50 (s.getR Reg.ECC_ROWCFG_WINLOG bd)))

/-- The count that makes a row suspect; 0 acts as 1. -/
def State.trkThresh (s : State) (bd : Nat) : Nat := max 1 (s.getR Reg.ECC_ROWCFG_THRESH bd)

/-- The live entries of a tracker. -/
def State.trkLive (s : State) (bd : Nat) : List TrkEntry :=
  (Map.get [] s.chip.trackers bd).filter (fun e => decide (s.since e.first < s.trkWindow bd))

/-- Put the entries of a tracker, and the count of live ones that ECC_TRK.LIVE shows. -/
def State.putTrk (s : State) (bd : Nat) (l : List TrkEntry) : State :=
  (s.modChip (fun c => { c with trackers := Map.set [] c.trackers bd l })).setR Reg.ECC_TRK_LIVE bd l.length

/-- The spare rows of a unit that no remap uses. -/
def State.freeSpares (s : State) (u : Nat) : List Nat :=
  (List.range (unitSpares u)).filter (fun i => !(Map.get [] s.chip.remaps u).any (fun e => decide (e.2 = i)))

/-- The lowest spare row of a unit that no remap uses. -/
def State.freeSpare (s : State) (u : Nat) : Option Nat := (s.freeSpares u).head?

/-- A spare row for a suspect row: one that no remap uses and no earlier suspect row of the unit waits for, or the one that the row waits for (R489). -/
def State.spareFor (s : State) (u row : Nat) : Bool :=
  s.chip.suspects.contains (u, row) || decide ((s.chip.suspects.filter (fun e => decide (e.1 = u))).length < (s.freeSpares u).length)

/-- The repair queue of a unit. -/
def State.rq (s : State) (u : Nat) : List (Nat × Bool) := Map.get [] s.chip.queue u

/-- The key of a row that waits to be remapped. -/
def rowKey (u row : Nat) : Nat := u * 65536 + row

/-- The remap of a row begins to wait for its background cycles: behind the repair-queue entries that its unit holds now, ahead of later ones (R475, R489). -/
def State.remapWaits (s : State) (u row : Nat) : State :=
  s.modChip (fun c =>
    if c.suspects.contains (u, row) then c
    else { c with
      suspects := c.suspects ++ [(u, row)]
      ahead := Map.set [] c.ahead (rowKey u row) ((s.rq u).map (fun e => e.1)) })

/-- A row has become suspect (R488, R489): the event, and the remap it starts where one can take place. -/
def State.suspectRow (s : State) (u row : Nat) : State :=
  let bd := unitBd u
  let d := fun ns => memDetail (unitAddr u (16 * row)) (unitCls u) (nospare := ns)
  if s.flag Reg.ECC_ROWCFG_REMAP_EN bd && s.spareFor u row then
    (s.raise (bdWinEp bd) 0x0104 2 (d false)).remapWaits u row
  else if s.chip.nospare.contains (u, row) then s
  else (s.raise (bdWinEp bd) 0x0104 2 (d true)).modChip (fun c => { c with nospare := c.nospare ++ [(u, row)] })

/-- A CE counts at the row tracker (R487, R488). -/
def State.trkCount (s : State) (u w : Nat) : State :=
  let bd := unitBd u
  let row := w / 16
  let live := s.trkLive bd
  let others := live.filter (fun e => !(decide (e.unit = u) && decide (e.row = row)))
  match live.find? (fun e => decide (e.unit = u) && decide (e.row = row)) with
  | some e =>
    if e.count + 1 ≥ s.trkThresh bd then (s.putTrk bd others).suspectRow u row
    else s.putTrk bd (others ++ [{ e with count := e.count + 1 }])
  | none =>
    if live.length ≥ 64 then (s.putTrk bd live).satAdd Reg.ECC_TRK_MISS bd 1
    else if 1 ≥ s.trkThresh bd then (s.putTrk bd live).suspectRow u row
    else s.putTrk bd (live ++ [⟨u, row, s.time.toNat, 1⟩])

/-! ### Errors found (R482, R483) -/

/-- ECC_LAST shows the address and kind of the last CE (1) or UE (2). -/
def State.eccLast (s : State) (u addr kind : Nat) : State :=
  (s.setR Reg.ECC_LAST_ADDR (unitBd u) addr).setR Reg.ECC_LAST_HI_KIND (unitBd u) kind

/-- The CE counter of a unit's class counts one. -/
def State.ceCount (s : State) (u : Nat) : State :=
  if unitCls u = 0 then s.satAdd Reg.ECC_CE_SPD (unitBd u) 1
  else if unitCls u = 1 then s.satAdd Reg.ECC_CE_FM (unitBd u) 1
  else s.satAdd Reg.ECC_CE_MSP_COUNT (unitBd u) 1

/-- The UE counter of a unit's class counts one. -/
def State.ueCount (s : State) (u : Nat) : State :=
  if unitCls u = 0 then s.satAdd Reg.ECC_UE_SPD (unitBd u) 1
  else if unitCls u = 1 then s.satAdd Reg.ECC_UE_FM (unitBd u) 1
  else s.satAdd Reg.ECC_UE_MSP (unitBd u) 1

/-- Raise MEM_CE for a word: event, counters, row tracker. -/
def State.memCe (s : State) (u w bitNo req : Nat) : State :=
  (((s.raise (unitEp u) 0x0101 1 (memDetail (unitAddr u w) (unitCls u) bitNo req)).ceCount u).eccLast u (unitAddr u w) 1).trkCount u w

/-- Raise MEM_UE for a word: event and counters. -/
def State.memUe (s : State) (u w req : Nat) : State :=
  ((s.raise (unitEp u) 0x0102 4 (memDetail (unitAddr u w) (unitCls u) 0 req)).ueCount u).eccLast u (unitAddr u w) 2

/-- A word is in the repair queue. -/
def State.rqHas (s : State) (u w : Nat) : Bool := (s.rq u).any (fun e => decide (e.1 = w))

/-- Put a word into the repair queue of its unit, of 16 entries (R482, R483); the entry of a word already there takes the worse error. -/
def State.rqPush (s : State) (u w : Nat) (ue : Bool) : State :=
  if s.rqHas u w then s.modChip (fun c => { c with queue := Map.set [] c.queue u ((s.rq u).map (fun e => if e.1 = w then (w, e.2 || ue) else e)) })
  else if (s.rq u).length ≥ 16 then s
  else s.modChip (fun c => { c with queue := Map.set [] c.queue u (s.rq u ++ [(w, ue)]) })

/-- Drop a word's entry from the repair queue, and from what waiting remaps stand behind: a foreground write reached the word first (R482), or its turn came. -/
def State.rqDrop (s : State) (u w : Nat) : State :=
  s.modChip (fun c => { c with
    queue := Map.set [] c.queue u ((s.rq u).filter (fun e => decide (e.1 ≠ w)))
    ahead := c.suspects.foldl (fun m e => if e.1 = u then Map.set [] m (rowKey u e.2) ((Map.get [] m (rowKey u e.2)).filter (fun x => decide (x ≠ w))) else m) c.ahead })

/-- The remap of a unit whose turn has come: its oldest suspect row, behind which no repair stands any more (R475). -/
def State.remapTurn (s : State) (u : Nat) : Option (Nat × Nat) :=
  match s.chip.suspects.find? (fun e => decide (e.1 = u)), s.freeSpare u with
  | some (_, row), some spare => if Map.get [] s.chip.ahead (rowKey u row) = [] then some (row, spare) else none
  | _, _ => none

/-- A repair or a remap of a unit still wants its background cycles, ahead of scrub and Midnight (R475). -/
def State.repairsFirst (s : State) (u : Nat) : Bool :=
  !(s.rq u).isEmpty || (s.chip.suspects.any (fun e => decide (e.1 = u)) && (s.freeSpare u).isSome)

/-- What a read delivers. -/
structure Rd where
  data : BitVec 64
  poison : Bool
deriving DecidableEq, Repr

/-- A foreground read of one word of a unit (R480, R482, R483). -/
def State.unitRead (s : State) (u w req : Nat) (up : Option Upset) : Rd × State :=
  let k := unitAddr u w / 8
  let w0 := s.word k
  if !w0.valid then (⟨0, false⟩, s)
  else
    let v := upsetWord w0 up
    let t := s.putWord k v
    if !v.valid then (⟨0, false⟩, t)
    else match v.mark with
    | .clean => (⟨v.data, false⟩, t)
    | .poison => (⟨v.data, true⟩, t)
    | .single b =>
      (⟨corrected v, false⟩, if t.rqHas u w then t else (t.memCe u w b req).rqPush u w false)
    | .multi =>
      (⟨v.data, true⟩, (t.memUe u w req).rqPush u w true)

/-- How a write combines with the bytes of the word: replace, bit-set (R473), bit-clear (R473). -/
def combine (win : Nat) (old new : BitVec 64) (be : Nat) : BitVec 64 :=
  if win = 1 then mergeBytes old (old ||| new) be
  else if win = 2 then mergeBytes old (old &&& ~~~new) be
  else mergeBytes old new be

/-- A foreground write of one word of a unit: a full word (R480, R483), or a partial write or alias update
(R474, R485). -/
def State.unitWrite (s : State) (u w req : Nat) (new : BitVec 64) (be win : Nat) (poison : Bool) : State :=
  let k := unitAddr u w / 8
  let v := s.word k
  if be = 0 then s
  else
    let t := s.rqDrop u w
    if be = 0xFF ∧ win = 0 then t.putWord k ⟨new, true, if poison then .poison else .clean⟩
    else if !v.valid then t.putWord k ⟨combine win 0 new be, true, if poison then .poison else .clean⟩
    else
      let base : BitVec 64 := corrected v
      let out := combine win base new be
      if poison then t.putWord k ⟨out, true, .poison⟩
      else match v.mark with
        | .clean => t.putWord k ⟨out, true, .clean⟩
        | .single b => (if s.rqHas u w then t else t.memCe u w b req).putWord k ⟨out, true, .clean⟩
        | .multi | .poison =>
          (t.raise (unitEp u) 0x0103 2 (memDetail (unitAddr u w) (unitCls u) 0 req)).putWord k ⟨out, true, .poison⟩

/-! ### LPDDR5X (R498 to R509) -/

/-- A channel that nothing has trained yet. -/
def lpx0 : Lpx := ⟨false, 4, true, false, none, 0, false, false, [], [], [], 0⟩

/-- A channel's parts. -/
def State.lp (s : State) (n : Nat) : Lpx := Map.get lpx0 s.lpx n

/-- Change a channel's parts. -/
def State.modLp (s : State) (n : Nat) (f : Lpx → Lpx) : State := s.modLpx (fun m => Map.set lpx0 m n (f (s.lp n)))

/-- The endpoint of a channel (R185). -/
def lpxEp (n : Nat) : Nat := ep (n / 4) (24 * (n % 4)) 10

/-- DETAIL of a channel's events (R520). -/
def lpxDetail (addr : Nat) (code mr4 : Nat := 0) (det : Bool := false) : Nat :=
  addr % 2 ^ 48 + code % 16 * 2 ^ 48 + mr4 % 32 * 2 ^ 52 + bit det * 2 ^ 57

/-- A channel answers requests: READY, SRPD, or TRAINING after a RETRAIN (R501). -/
def State.lpxServes (s : State) (n : Nat) : Bool :=
  decide (s.getR Reg.LPX_STAT_CSTATE n = 2) || decide (s.getR Reg.LPX_STAT_CSTATE n = 3)
    || (decide (s.getR Reg.LPX_STAT_CSTATE n = 1) && !(s.lp n).afterReset)

/-- Every channel is READY with equal usable capacity, as interleaved mode needs (R501). -/
def State.lpxInterleaveOk (s : State) : Bool :=
  !s.flag Reg.LPX_ILFAIL 0 && (List.range 16).all (fun n =>
    s.lpxServes n && decide (s.getR Reg.LPX_DEV_U n = s.getR Reg.LPX_DEV_U 0))

/-- The channel and channel-local address that serve an address of the LPDDR5X range, or none where it is unmapped
(R501). -/
def State.lpxMap (s : State) (a : Nat) : Option (Nat × Nat) :=
  if s.flag Reg.LPX_MAP_MODE 0 then
    let n := a / 4096 % 16
    let loc := a / 65536 * 4096 + a % 4096
    if s.lpxInterleaveOk && decide (a < 16 * s.getR Reg.LPX_DEV_U 0 * 2 ^ 28) then some (n, loc) else none
  else
    let n := a / 2 ^ 34
    let loc := a % 2 ^ 34
    if n < 16 ∧ s.lpxServes n ∧ loc < s.getR Reg.LPX_DEV_U n * 2 ^ 28 then some (n, loc) else none

/-- The word number under which a channel's local word is stored: the linear map's address. -/
def lpxKey (n loc : Nat) : Nat := (n * 2 ^ 34 + loc) / 8

/-- Record an LPDDR5X error's address. -/
def State.lpxElast (s : State) (n addr : Nat) : State := s.setR Reg.LPX_ELAST_ADDR n addr

/-- A read of one word of a channel (R507, R508): `addr` is the requester's address. -/
def State.lpxRead (s : State) (n loc addr : Nat) (up : Option Upset) : Rd × State :=
  let k := lpxKey n loc
  let inl := (s.lp n).inl
  let w0 := s.word k
  let v0 : MemWord := if w0.valid then w0 else if inl then ⟨0, true, .clean⟩ else ⟨Config.freeDram (s.getR Reg.DRAM_GEN 0) k, true, .clean⟩
  let v := if inl then upsetWord v0 up else v0
  let t := if up.isSome && inl then s.putWord k v else s
  if !inl then (⟨v.data, false⟩, t)
  else match v.mark with
    | .clean => (⟨v.data, false⟩, t)
    | .poison => (⟨v.data, true⟩, t)
    | .single _ =>
      (⟨corrected v, false⟩,
        (((t.satAdd Reg.LPX_ERR_INLINE_CE n 1).lpxElast n addr).raise (lpxEp n) 0x0D04 1 (lpxDetail addr)).modLp n
          (fun c => { c with wb := c.wb ++ [(loc, false)] }))
    | .multi =>
      (⟨v.data, true⟩,
        (((t.satAdd Reg.LPX_ERR2_UE n 1).lpxElast n addr).raise (lpxEp n) 0x0D05 4 (lpxDetail addr)).modLp n
          (fun c => { c with wb := c.wb ++ [(loc, true)] }))

/-- A write of one word of a channel (R505, R507, R508). -/
def State.lpxWrite (s : State) (n loc addr req : Nat) (new : BitVec 64) (be : Nat) (poison : Bool) : State :=
  let k := lpxKey n loc
  let inl := (s.lp n).inl
  let w0 := s.word k
  let v : MemWord := if w0.valid then w0 else if inl then ⟨0, true, .clean⟩ else ⟨Config.freeDram (s.getR Reg.DRAM_GEN 0) k, true, .clean⟩
  let t := s.modLp n (fun c => { c with wb := c.wb.filter (fun e => decide (e.1 ≠ loc)) })
  if be = 0 then s
  else if !inl then
    let u := t.putWord k ⟨mergeBytes v.data new be, true, .clean⟩
    if poison then (u.lpxElast n addr).raise (lpxEp n) 0x0D06 4 (lpxDetail addr) else u
  else
    let out := mergeBytes (corrected v) new be
    if be = 0xFF then t.putWord k ⟨new, true, if poison then .poison else .clean⟩
    else if poison then t.putWord k ⟨out, true, .poison⟩
    else match v.mark with
      | .clean => t.putWord k ⟨out, true, .clean⟩
      | .single _ =>
        (((t.satAdd Reg.LPX_ERR_INLINE_CE n 1).lpxElast n addr).raise (lpxEp n) 0x0D04 1 (lpxDetail addr)).putWord k ⟨out, true, .clean⟩
      | .multi | .poison =>
        (t.raise (lpxEp n) 0x0103 2 (memDetail addr 0 0 req)).putWord k ⟨out, true, .poison⟩

/-! ### Any word of the address map -/

/-- An address of the system NVM (R635). -/
def inNvm (a : Nat) : Bool := decide (0x7000000000 ≤ a) && decide (a < 0x7000800000)

/-- Read one 64-bit word of a memory, at an 8-byte-aligned address. -/
def State.readWord (s : State) (a req : Nat) (up : Option Upset := none) : Rd × State :=
  match unitOf a with
  | some (u, w) => s.unitRead u w req up
  | none =>
    if a < 0x4000000000 then
      match s.lpxMap a with
      | some (n, loc) => s.lpxRead n loc a up
      | none => (⟨0, false⟩, s)
    else if inNvm a then (⟨(s.word (a / 8)).data, decide ((s.word (a / 8)).mark = .poison)⟩, s)
    else (⟨0, false⟩, s)

/-- An upset strikes a stored word of a unit before an access reaches it (R482, R485). -/
def State.strike (s : State) (a : Nat) (up : Option Upset) : State :=
  match unitOf a with
  | some (u, w) =>
    let k := unitAddr u w / 8
    if (s.word k).valid && up.isSome then s.putWord k (upsetWord (s.word k) up) else s
  | none => s

/-- Write one 64-bit word of a memory under byte enables, at an 8-byte-aligned address. -/
def State.writeWord (s : State) (a req : Nat) (new : BitVec 64) (be : Nat := 0xFF) (poison : Bool := false) (win : Nat := 0) :
    State :=
  match unitOf a with
  | some (u, w) => s.unitWrite u w req new be win poison
  | none =>
    if a < 0x4000000000 then
      match s.lpxMap a with
      | some (n, loc) => s.lpxWrite n loc a req new be poison
      | none => s
    else if inNvm a then
      s.putWord (a / 8) ⟨mergeBytes (s.word (a / 8)).data new be, true,
        if poison then .poison else if be = 0xFF then .clean else (s.word (a / 8)).mark⟩
    else s

/-- Read a byte range: the bytes as one number, byte 0 lowest, and whether any word of it is poisoned. -/
def State.readRange (s : State) (a bytes req : Nat) (up : Option Upset := none) : (Nat × Bool) × State :=
  let sh := a % 8
  let r := (List.range ((sh + bytes + 7) / 8)).foldl (fun (acc : (Nat × Bool) × State) j =>
    let x := acc.2.readWord (a / 8 * 8 + 8 * j) req (if j = 0 then up else none)
    ((acc.1.1 + x.1.data.toNat * 2 ^ (64 * j), acc.1.2 || x.1.poison), x.2)) ((0, false), s)
  ((r.1.1 / 2 ^ (8 * sh) % 2 ^ (8 * bytes), r.1.2), r.2)

/-- Write a byte range with the low bytes of a number. -/
def State.writeRange (s : State) (a bytes data req : Nat) (poison : Bool := false) (win : Nat := 0) : State :=
  let sh := a % 8
  let d := data % 2 ^ (8 * bytes) * 2 ^ (8 * sh)
  let be := (2 ^ bytes - 1) * 2 ^ sh
  (List.range ((sh + bytes + 7) / 8)).foldl (fun t j =>
    t.writeWord (a / 8 * 8 + 8 * j) req (BitVec.ofNat 64 (d / 2 ^ (64 * j))) (be / 2 ^ (8 * j) % 256) poison win) s

end Sys2Proof.Machine
end

