-- ==== Sys2Proof/Machine/Events.lean ====
section
/-!
DEFINITION. The event collector and its ring in memory (R26 to R31).
-/

namespace Sys2Proof.Machine

/-- A command whose condition does not hold is no event: nothing changes. -/
def State.when (s : State) (c : Bool) (t : State) : Result := .next (if c then t else s)

/-- LOG2N as it acts: legal 6 to 20, other values act as 20 (R29). -/
def State.ringLog (s : State) : Nat :=
  if 6 ≤ s.getR Reg.DEV_RING_LOG2N 0 ∧ s.getR Reg.DEV_RING_LOG2N 0 ≤ 20 then s.getR Reg.DEV_RING_LOG2N 0 else 20

/-- The ring is full (R30). -/
def State.ringFull (s : State) : Bool :=
  decide ((s.getR Reg.DEV_RING_WP 0 + 1) % 2 ^ s.ringLog = s.getR Reg.DEV_RING_RP 0)

/-- The 32 bytes of a record, byte 0 lowest (R26). -/
def eventBytes (source code : Nat) (r : EventRec) : Nat :=
  r.time % 2 ^ 64 + source % 2 ^ 16 * 2 ^ 64 + code % 2 ^ 16 * 2 ^ 80 + r.severity % 16 * 2 ^ 96
    + r.repeats % 2 ^ 12 * 2 ^ 100 + r.detail % 2 ^ 128 * 2 ^ 112

/-- The endpoint of the event collector (R185). -/
def collectorEp : Nat := ep 0 90 16

/-- Discard a record (R30): DROPS counts it and OVF sets. -/
def State.ringDiscard (s : State) : State := (s.satAdd Reg.DEV_RING_DROPS 0 1).setR Reg.DEV_RING_OVF 0 1

/-- A record the collector writes is discarded: the ring is full or EN is 0 (R30). -/
def State.ringRefuses (s : State) : Bool := !s.flag Reg.DEV_RING_EN 0 || s.ringFull

/-- EVENT_URGENT for a record of severity 3 or higher (R30): the interrupt source 1, and PF0 vector 2 (R536). -/
def State.urgent (s : State) (severity : Nat) : State := if 3 ≤ severity then (s.irqEdge 1).msix 0 2 else s

/-- A record leaves the table of pending ones. -/
def State.dropEvent (s : State) (key : Nat) : State := s.modEvents (fun m => Map.erase m key)

/-- EVENT_RAISED (R27): a block raises one of the codes the manual defines, with that code's severity; no other is ever raised (R28), and the time base's come from its own
endpoints (R98). -/
def execEventRaised (source : BitVec 16) (code : BitVec 16) (severity : BitVec 4) (detail : BitVec 128) (s : State) : Result :=
  s.when (eventDefined code.toNat severity.toNat && eventSource source.toNat code.toNat) (s.raise source.toNat code.toNat severity.toNat detail.toNat)

/-- The fields of the ring's registers that EVENT_RING_CONFIG_WRITE writes (R29, R31): EN is judged before the write. -/
def State.ringConfig (s : State) (off v : Nat) : State :=
  let en := s.flag Reg.DEV_RING_EN 0
  if off = 0x200 then
    if en then s else s.setR Reg.DEV_RING_BASE 0 (s.getR Reg.DEV_RING_BASE 0 / 2 ^ 32 * 2 ^ 32 + v % 2 ^ 32)
  else if off = 0x204 then
    if en then s else s.setR Reg.DEV_RING_BASE 0 (s.getR Reg.DEV_RING_BASE 0 % 2 ^ 32 + v % 2 ^ 16 * 2 ^ 32)
  else if off = 0x208 then
    let t := s.setR Reg.DEV_RING_EN 0 (v % 2)
    if en || decide (v / 256 % 32 = s.getR Reg.DEV_RING_LOG2N 0) then t
    else ((t.setR Reg.DEV_RING_LOG2N 0 (v / 256 % 32)).setR Reg.DEV_RING_WP 0 0).setR Reg.DEV_RING_RP 0 0
  else s

/-- EVENT_RING_CONFIG_WRITE (R31): a 32-bit write at DEV offset `off`. -/
def execEventRingConfigWrite (off : Nat) (value : BitVec 32) (s : State) : Result := .next (s.ringConfig off value.toNat)

/-- EVENT_RING_RP_WRITE (R30): RP holds the written value modulo 2^LOG2N. -/
def execEventRingRpWrite (value : BitVec 32) (s : State) : Result :=
  .next (s.setR Reg.DEV_RING_RP 0 (value.toNat % 2 ^ s.ringLog))

end Sys2Proof.Machine
end

