-- ==== Sys2Proof/Machine/Time.lean ====
section
/-!
DEFINITION. Tabirair time, Tabirair Sync, the fabric clock generators and the package-wide clocks (R47 to R98, R749).
-/

namespace Sys2Proof.Machine

/-! ### The counter -/

/-- One time-clock cycle of the counter (R48): 500 ticks and RATE × 2^-32. -/
def State.tickTime (s : State) : State :=
  if s.flag Reg.T_RUNNING 0 then
    let acc : Int := (s.frac.toNat : Int) + 500 * 2 ^ 32 + signed 32 (s.getR Reg.TBS_RATE_RATE 0)
    (s.modFrac (fun _ => BitVec.ofInt 32 acc)).modTime (fun t => t + BitVec.ofInt 64 (acc / 2 ^ 32))
  else s

/-- One time-clock cycle: the counter, and the NoC clock, which runs on whatever the counter does (R195). -/
def State.tick (s : State) : State := s.tickTime.modNoc (fun n => { n with clock := n.clock + 500 })

/-- The ±100 ppm limit of RATE (R48). -/
def rateLimit : Int := 214748365

/-- RATE cut to its limit (R48). -/
def clampRate (r : Int) : Int := max (-rateLimit) (min rateLimit r)

/-- Set RATE. -/
def State.setRate (s : State) (r : Int) : State := s.setR Reg.TBS_RATE_RATE 0 (unsigned 32 (clampRate r))

/-- The loop filter's value: open but for its limit (R48, R66). -/
def State.steer (s : State) : State := (s.setRate (Config.freeRate s.free).toInt).draw

/-- The largest offset of a slew: ±10 ppm, in units of 2^-32 tick per time-clock cycle (R74). -/
def slewLimit : Nat := 21474836

/-- The offset of a slew that corrects the phase error e: towards it, by a free amount of 1 to 10 ppm's worth (R74). -/
def slewOffset (e : Int) (amount : Nat) : Int := if 0 < e then (amount % slewLimit + 1 : Nat) else -(amount % slewLimit + 1 : Nat)

/-- Steering with a slew: the loop filter's value and, beyond it, the slew's offset (R74, R82). -/
def State.slew (s : State) (e : Int) : State :=
  ((s.setRate (clampRate (Config.freeRate s.free).toInt + slewOffset e (Config.freeRate (s.free + 1)).toNat)).draw).draw

/-- The endpoint that reports the time base's events (R98). -/
def tbsEp : Nat := 0x2D48

/-- A step of Tabirair time (R75 to R77, R86): the counter, the event, ALIGNED of every generator; whatever makes it, it is a step since the last reset (R67, R75). The manual leaves open which counter value TIME_STEPPED bears
as its TIME, and what the fraction register holds after a step: DESIGN CHOICE (notes/assumptions/85), the old counter and 0. -/
def State.stepTime (s : State) (new : Nat) : State :=
  let old := s.time.toNat
  let t := s.raise tbsEp 0x1103 2 (old + new % 2 ^ 64 * 2 ^ 64)
  let t := (t.modTime (fun _ => BitVec.ofNat 64 new)).modFrac (fun _ => 0)
  let t := (((t.setR Reg.T_STEP_OLD 0 old).setR Reg.T_STEP_NEW 0 new).setR Reg.T_STEP_SEEN 0 1).setR Reg.SYN_DIDSTEP 0 1
  t.setEach Reg.FAB_CG_STAT_ALIGNED (List.range 64) 0

/-- The device is held in power-on reset, or in device reset by a reset low (R577, R730). -/
def State.inReset (s : State) : Bool := s.flag Reg.POR_HELD 0 || s.dbg.resetLow

/-- TIME_COUNTER_START (R50). -/
def execTimeCounterStart (s : State) : Result :=
  s.when (!s.flag Reg.T_RUNNING 0 && !s.inReset)
    (((((s.modTime (fun _ => 0)).modFrac (fun _ => 0)).setR Reg.T_RUNNING 0 1).setR Reg.TBS_SYNC_STAT_PLL_LOCK 0 1).setR
      Reg.TBS_SYNC_STAT_TREF_OK 0 1)

/-- TBS_TIME_LO_READ (R53). -/
def execTbsTimeLoRead (peek : Bool) (s : State) : Result :=
  let t := s.respond (s.time.toNat % 2 ^ 32) 0
  .next (if peek then t else t.setR Reg.TBS_TIME_HI 0 (s.time.toNat / 2 ^ 32))

/-! ### Roles and steps -/

/-- The role as it acts: 3 acts as 2 (R79). -/
def State.role (s : State) : Nat := min (s.getR Reg.TBS_SYNC_CTL_ROLE 0) 2

/-- A master's or standalone device's step to TBS_SETTIME's value (R56, R60). -/
def State.masterStep (s : State) (v : Nat) : State :=
  ((s.stepTime v).setR Reg.SYN_STEPPED 0 1).wrapAdd Reg.SYN_EPOCH 0 1

/-- SET_TIME (R56, R73): a follower ignores it, and while a TIME_PLL_UNLOCK is in force none takes place. A master's takes the value that TBS_SETTIME has at the
write: DESIGN CHOICE (notes/assumptions/85). -/
def execSetTime (s : State) : Result :=
  if s.role = 0 || s.flag Reg.T_UNLOCK 0 then .next s
  else if s.role = 1 then .next ((s.setR Reg.SYN_SET_PEND 0 1).setR Reg.SYN_SET_VAL 0 (s.getR Reg.TBS_SETTIME 0))
  else .next (s.stepTime (s.getR Reg.TBS_SETTIME 0))

/-- STEP_NOW (R75, R79): ignored while STEP_NEEDED is clear. -/
def execStepNow (s : State) : Result :=
  s.when (s.flag Reg.TBS_SYNC_STAT_STEP_NEEDED 0) (s.setR Reg.SYN_STEPDUE 0 1)

/-- What the follower's state machine forgets when it starts afresh. -/
def State.syncClear (s : State) : State :=
  s.resetFields [Reg.SYN_HAVE, Reg.SYN_ACQ, Reg.SYN_LCK, Reg.SYN_STEPDUE, Reg.SYN_SET_PEND, Reg.TBS_HOLD_FRAMES,
    Reg.TBS_SYNC_STAT_SLEWING, Reg.SYN_HLRAISED] 0

/-- Entry to FREE (R66, R81): RATE 0, STEP_NEEDED clear. -/
def State.enterFree (s : State) : State :=
  ((s.syncClear.setR Reg.TBS_SYNC_STAT_SYNC_STATE 0 0).setR Reg.TBS_SYNC_STAT_STEP_NEEDED 0 0).setRate 0

/-- Entry to MASTER (R60, R66): the next frame carries STEPPED. -/
def State.enterMaster (s : State) : State :=
  ((s.syncClear.setR Reg.TBS_SYNC_STAT_SYNC_STATE 0 5).setR Reg.SYN_STEPPED 0 1).setRate 0

/-- ROLE_WRITE (R57, R66). -/
def execRoleWrite (role : BitVec 2) (s : State) : Result :=
  let t := s.setR Reg.TBS_SYNC_CTL_ROLE 0 role.toNat
  if t.role = s.role then .next t
  else if t.role = 1 then .next t.enterMaster
  else .next t.enterFree

/-! ### Sync frames (R60 to R62) -/

/-- Characters 1 to 13 of a frame. -/
def frameData (typ id stepped seq time epoch : Nat) : List Nat :=
  [typ, id % 64 + 64 * stepped, seq % 256] ++ (List.range 8).map (fun i => time / 256 ^ i % 256) ++ [epoch % 256, 0]

/-- A sync frame's sixteen characters: K28.5, the data, and their CRC (R60). -/
def frameChars (d : List Nat) : List (Bool × Nat) :=
  (true, k285) :: (d ++ [crc16 d % 256, crc16 d / 256]).map (fun b => (false, b))

/-- What TSYNC_OUT_P/N shows (R57, R73, R79). -/
inductive TsyncOut where
  /-- high-impedance -/
  | highZ
  /-- a steady differential low -/
  | low
  /-- frames back to back: the characters of the last one, bit 0 of each sent first -/
  | frames (l : List (BitVec 10))
deriving DecidableEq, Repr

/-- TSYNC_OUT: only a master with OUT_EN at 1 drives it, and after a TIME_PLL_UNLOCK it drives a steady low (R57, R73, R79). -/
def State.tsyncOut (s : State) : TsyncOut :=
  if s.role ≠ 1 ∨ s.flag Reg.TBS_SYNC_CTL_OUT_EN 0 = false ∨ s.inReset = true then .highZ
  else if s.flag Reg.T_UNLOCK 0 then .low
  else .frames s.tb.frameOut

/-- A frame with the next sequence number goes out (R59, R60): OUT_EN holds the pins alone, not the frames behind them (notes/assumptions/85). -/
def State.putFrame (s : State) (typ : Nat) : State :=
  let e := encodeChars (frameChars (frameData typ (s.getR Reg.DEV_SYSID_ID 0) (s.getR Reg.SYN_STEPPED 0) (s.getR Reg.SYN_SEQ 0) s.time.toNat
    (s.getR Reg.SYN_EPOCH 0))) s.tb.disp
  ((s.modTb (fun b => { b with frameOut := e.1, disp := e.2 })).wrapAdd Reg.SYN_SEQ 0 1).setR Reg.SYN_STEPPED 0 0

/-- The frame type of R60: TIME while TREF is present and the time PLL is locked to it, else HOLD. -/
def State.frameType (s : State) : Nat := if s.flag Reg.TBS_SYNC_STAT_TREF_OK 0 && !s.flag Reg.T_PLL_SLIP 0 then 1 else 2

/-- SYNC_FRAME_SEND (R56, R59, R60, R71, R73): at the frame's on-time point. -/
def execSyncFrameSend (s : State) : Result :=
  if s.role = 1 && s.flag Reg.T_RUNNING 0 && !s.flag Reg.T_UNLOCK 0 then
    let t := if s.flag Reg.SYN_SET_PEND 0 then
        (s.masterStep (s.getR Reg.SYN_SET_VAL 0)).setR Reg.SYN_SET_PEND 0 0 else s
    .next (t.putFrame s.frameType)
  else .next s

/-- A received frame's sixteen ten-bit characters, the first lowest. -/
def rxChars (code : BitVec 160) : List (BitVec 10) := (List.range 16).map (fun i => BitVec.ofNat 10 (code.toNat / 2 ^ (10 * i)))

/-- The running disparity that the form of a received frame's K28.5 shows (R61). -/
def rxDisp (code : BitVec 160) : Bool := decide (code.toNat % 1024 = (encode8b10b true k285 true).1.toNat)

/-- What a received frame's characters decode to. -/
def rxDecode (code : BitVec 160) : List (Option (Bool × Nat)) := (decodeChars (rxChars code) (rxDisp code)).1

/-- Character 0 is a K28.5 (R62). -/
def frameComma (code : BitVec 160) : Bool := decide ((rxDecode code).head? = some (some (true, k285)))

/-- Every other character is a data character, with no code or disparity violation (R62). -/
def frameValid (code : BitVec 160) : Bool :=
  (rxDecode code).all (fun c => c.isSome) && (rxDecode code).tail.all (fun c => match c with | some (k, _) => !k | none => true)

/-- Character n of a received frame, 0 where it is a violation. -/
def charOf (code : BitVec 160) (n : Nat) : Nat := (((rxDecode code).getD n none).map (fun c => c.2)).getD 0

/-- TIME of a received frame. -/
def frameTime (code : BitVec 160) : Nat := (List.range 8).foldl (fun v i => v + charOf code (4 + i) * 256 ^ i) 0

/-- LOSS_FRAMES as it acts (R80). -/
def State.lossFrames (s : State) : Nat := max 1 (s.getR Reg.TBS_SYNC_CFG_LOSS_FRAMES 0)

/-- The frame's CRC is right. -/
def frameCrcOk (code : BitVec 160) : Bool :=
  decide (crc16 ((List.range 13).map (fun i => charOf code (i + 1))) = charOf code 14 + 256 * charOf code 15)

/-- The continuity check applies to a frame (R62). -/
def State.contApplies (s : State) (code : BitVec 160) : Bool :=
  s.flag Reg.SYN_HAVE 0 && decide (s.since (s.getR Reg.SYN_LARR 0) ≤ s.lossFrames * 320000)
    && decide (charOf code 2 % 64 = s.getR Reg.SYN_MID 0) && !nbit (charOf code 2) 6

/-- TIME continues from the last good frame's (R62). -/
def State.contOk (s : State) (code : BitVec 160) : Bool :=
  decide (frameTime code = (s.getR Reg.SYN_LTIME 0
    + 320000 * ((charOf code 3 + 256 - s.getR Reg.SYN_LSEQ 0) % 256)) % 2 ^ 64)

/-- No frame is missing between the one received last and now: at most one and a half periods of the device's own clock lie between them (notes/assumptions/84). -/
def State.backToBack (s : State) (at_ : Nat) : Bool := decide (s.noc.clock ≤ at_ + 480000)

/-- The running disparity goes on from the frame before, where frames come back to back: a K28.5 of the other form is a disparity violation (R59, R62). -/
def State.frameDispOk (s : State) (code : BitVec 160) : Bool :=
  match s.tb.rxEnd with
  | some (d, at_) => !s.backToBack at_ || decide (d = rxDisp code)
  | none => true

/-- The running disparity after a received frame is carried to the next. -/
def State.frameSeen (s : State) (code : BitVec 160) : State :=
  s.modTb (fun b => { b with rxEnd := some ((decodeChars (rxChars code) (rxDisp code)).2, s.noc.clock) })

/-- The checks of R62 other than the CRC. -/
def State.frameFormOk (s : State) (code : BitVec 160) : Bool :=
  frameComma code && frameValid code && s.frameDispOk code && (decide (charOf code 1 = 1) || decide (charOf code 1 = 2))
    && (!s.contApplies code || s.contOk code)

/-- The phase error of a frame (R63). -/
def State.phaseErr (s : State) (code : BitVec 160) : Int :=
  (BitVec.ofNat 64 (frameTime code + s.getR Reg.TBS_CABLE_DLY_DLY 0) - s.time).toInt

/-- The master device ID of a good frame is taken (R70). -/
def State.seeMaster (s : State) (id : Nat) : State :=
  let old := s.getR Reg.SYN_MID 0
  let t := if s.flag Reg.SYN_MSEEN 0 && decide (old ≠ id) then s.raise tbsEp 0x110B 2 (old + id * 2 ^ 8) else s
  ((t.setR Reg.SYN_MID 0 id).setR Reg.SYN_MSEEN 0 1).setR Reg.TBS_SYNC_STAT_MASTER_ID 0 id

/-- The follower steps at this frame's on-time point and is in TRACK (R66, R75, R76). -/
def State.followStep (s : State) (code : BitVec 160) : State :=
  let v := (frameTime code + s.getR Reg.TBS_CABLE_DLY_DLY 0) % 2 ^ 64
  let t := (s.stepTime v).setR Reg.SYN_LARR 0 v
  let t := t.resetFields [Reg.SYN_STEPDUE, Reg.TBS_SYNC_STAT_STEP_NEEDED, Reg.SYN_ACQ, Reg.SYN_LCK,
    Reg.TBS_HOLD_FRAMES, Reg.TBS_SYNC_STAT_SLEWING, Reg.SYN_HLRAISED] 0
  (t.setR Reg.TBS_SYNC_STAT_SYNC_STATE 0 2).steer

/-- A step is needed: it is made at the next good frame that shows the need where a case of R75 permits it, else it is blocked. -/
def State.wantStep (s : State) (e : Int) : State :=
  if !s.flag Reg.SYN_DIDSTEP 0 || s.flag Reg.TBS_SYNC_CTL_STEP_OK 0 then s.setR Reg.SYN_STEPDUE 0 1
  else if s.flag Reg.TBS_SYNC_STAT_STEP_NEEDED 0 then s
  else (s.setR Reg.TBS_SYNC_STAT_STEP_NEEDED 0 1).raise tbsEp 0x1104 2 (unsigned 64 e)

/-- The mean of the RATE values of the last 1,024 good frames (R66); its last digit's rounding is open. Of fewer frames it is the mean of those there are, and of none the
present RATE; a change of role keeps them: DESIGN CHOICE (notes/assumptions/85). -/
def State.meanRate (s : State) : Int :=
  match s.tb.rates with
  | [] => signed 32 (s.getR Reg.TBS_RATE_RATE 0)
  | l => l.sum / (l.length : Int)
    + (if l.sum % (l.length : Int) = 0 then 0 else ((Config.freeRate s.free).toNat % 2 : Nat))

/-- Entry to HOLDOVER (R66, R69). A step that is permitted and due stays due (notes/assumptions/85). -/
def State.enterHoldover (s : State) : State :=
  let t := s.setRate s.meanRate
  ((t.resetFields [Reg.SYN_ACQ, Reg.SYN_LCK, Reg.TBS_SYNC_STAT_SLEWING, Reg.SYN_HLRAISED, Reg.TBS_HOLD_FRAMES] 0).modTb
    (fun b => { b with holdAt := s.noc.clock })).setR Reg.TBS_SYNC_STAT_SYNC_STATE 0 4 |>.draw

/-- The steering of a good frame in TRACK or LOCKED, e within the slew range (R66, R74). -/
def State.track (s : State) (e : Int) : State :=
  let a := e.natAbs
  let t := if s.getR Reg.TBS_SYNC_STAT_SYNC_STATE 0 = 3 && decide (a > 16) then
      (s.setR Reg.TBS_SYNC_STAT_SYNC_STATE 0 2).setR Reg.SYN_LCK 0 0 else s
  if t.getR Reg.TBS_SYNC_STAT_SYNC_STATE 0 = 2 then
    if a > 4 then ((t.setR Reg.SYN_LCK 0 0).setR Reg.TBS_SYNC_STAT_SLEWING 0 1).slew e
    else
      let n := t.getR Reg.SYN_LCK 0 + 1
      let t := ((t.setR Reg.SYN_LCK 0 n).setR Reg.TBS_SYNC_STAT_SLEWING 0 0).steer
      if n ≥ max 1 (t.getR Reg.TBS_SYNC_CFG_LOCK_FRAMES 0) then
        (t.setR Reg.TBS_SYNC_STAT_SYNC_STATE 0 3).raise tbsEp 0x1101 0 0
      else t
  else (t.setR Reg.TBS_SYNC_STAT_SLEWING 0 0).steer

/-- ACQUIRE or HOLDOVER has counted its frames (R66). The frame that completes ACQ_FRAMES counts towards LOCK_FRAMES (notes/assumptions/85). -/
def State.syncAcquired (s : State) (e : Int) : State :=
  ((s.resetFields [Reg.SYN_ACQ, Reg.SYN_LCK, Reg.TBS_HOLD_FRAMES, Reg.SYN_HLRAISED] 0).setR Reg.TBS_SYNC_STAT_SYNC_STATE 0 2).track e

/-- The state machine at a good frame (R66, R75), after the frame has been recorded. A step that is due is made at a frame that shows the need for it, and
lapses at one that shows none (notes/assumptions/85). A frame that shows the need in LOCKED or TRACK ends the run of frames within 4 ticks, and leaves TRACK while the
step is permitted. -/
def State.syncAdvance (s : State) (code : BitVec 160) (e : Int) : State :=
  let big := decide (e.natAbs > 2 ^ 24)
  if s.flag Reg.SYN_STEPDUE 0 && big then s.followStep code
  else
    let s := s.setR Reg.SYN_STEPDUE 0 0
    let st := s.getR Reg.TBS_SYNC_STAT_SYNC_STATE 0
    if st = 0 || st = 1 || st = 4 then
      let t := if st = 0 then s.setR Reg.TBS_SYNC_STAT_SYNC_STATE 0 1 else s
      let t := t.satAdd Reg.SYN_ACQ 0 1
      if t.getR Reg.SYN_ACQ 0 < max 1 (t.getR Reg.TBS_SYNC_CFG_ACQ_FRAMES 0) then t
      else if big then t.wantStep e
      else t.syncAcquired e
    else if big then
      let t := ((s.setR Reg.TBS_SYNC_STAT_SYNC_STATE 0 2).setR Reg.SYN_LCK 0 0).wantStep e
      if t.flag Reg.SYN_STEPDUE 0 then t else t.enterHoldover
    else s.track e

/-- A good frame (R63, R66, R70). Frames are consecutive while no more than one and a half periods lie between two of them, and the RATE that enters the mean is the
one in force when the frame arrives (notes/assumptions/85). -/
def State.goodFrame (s : State) (code : BitVec 160) : State :=
  let e := s.phaseErr code
  let id := charOf code 2 % 64
  let gap := s.flag Reg.SYN_HAVE 0 && decide (s.since (s.getR Reg.SYN_LARR 0) > 480000)
  let t := (s.seeMaster id).setR Reg.SYN_EPOCH 0 (charOf code 12)
  let t := t.setR Reg.TBS_PHASE_ERR_ERR 0 (unsigned 32 (max (-(2 ^ 31 - 1)) (min (2 ^ 31 - 1) e)))
  let t := if gap then (t.setR Reg.SYN_ACQ 0 0).setR Reg.SYN_LCK 0 0 else t
  let t := (((t.setR Reg.SYN_HAVE 0 1).setR Reg.SYN_LTIME 0 (frameTime code)).setR Reg.SYN_LSEQ 0 (charOf code 3)).setR
    Reg.SYN_LARR 0 s.time.toNat
  let t := t.modTb (fun b => { b with rates := (signed 32 (s.getR Reg.TBS_RATE_RATE 0) :: b.rates).take 1024 })
  t.syncAdvance code e

/-- The sixteen ten-bit characters of a frame on the wire (R59), the first lowest: the comma, the thirteen characters that the CRC
covers, the two of the CRC. -/
def frameCode (comma : BitVec 10) (body : BitVec 130) (check : BitVec 20) : BitVec 160 := check ++ (body ++ comma)

/-- SYNC_FRAME_RECEIVE (R57, R59, R62): a frame's characters as TSYNC_IN brings them. -/
def execSyncFrameReceive (comma : BitVec 10) (body : BitVec 130) (check : BitVec 20) (s : State) : Result :=
  let code := frameCode comma body check
  if s.role = 0 && s.flag Reg.T_RUNNING 0 then
    let crcOk := frameCrcOk code
    let formOk := s.frameFormOk code
    let s := s.frameSeen code
    if crcOk && formOk then .next (s.goodFrame code)
    else
      let t := if crcOk then s else (s.satAdd Reg.TBS_SYNC_ERRS_CRC 0 1).raise tbsEp 0x1105 1 0
      .next (if formOk then t else t.satAdd Reg.TBS_SYNC_ERRS_SYMBOL 0 1)
  else .next s

/-- SYNC_LOST (R67). A return from ACQUIRE to FREE raises no event (notes/assumptions/85). -/
def execSyncLost (s : State) : Result :=
  let st := s.getR Reg.TBS_SYNC_STAT_SYNC_STATE 0
  if s.role = 0 && (decide (st = 1) || decide (st = 2) || decide (st = 3))
      && decide (s.lossFrames * 320000 ≤ s.since (s.getR Reg.SYN_LARR 0)) then
    if st = 1 && !s.flag Reg.SYN_DIDSTEP 0 then .next s.enterFree
    else .next (s.enterHoldover.raise tbsEp 0x1102 2 0)
  else .next s

/-- Frame periods since entering HOLDOVER (R82), which saturate; they pass with the time clock, not with its corrections (notes/assumptions/97). -/
def State.holdFrames (s : State) : Nat :=
  if s.getR Reg.TBS_SYNC_STAT_SYNC_STATE 0 = 4 then min ((s.noc.clock - s.tb.holdAt) / 320000) (2 ^ 32 - 1) else 0

/-- HOLDOVER_LIMIT (R69): once per holdover. -/
def execHoldoverLimit (s : State) : Result :=
  let lim := s.getR Reg.TBS_HOLD_LIMIT_LIMIT 0
  s.when (s.getR Reg.TBS_SYNC_STAT_SYNC_STATE 0 = 4 && decide (lim ≠ 0) && decide (lim ≤ s.holdFrames)
      && !s.flag Reg.SYN_HLRAISED 0)
    (((s.setR Reg.SYN_HLRAISED 0 1).setR Reg.TBS_HOLD_FRAMES 0 s.holdFrames).raise tbsEp 0x110A 3 lim)

/-! ### The reference (R71 to R73) -/

/-- TREF_LOST (R71, R72). The PLL holds its control value, and PLL_LOCK stays as it is (notes/assumptions/85). -/
def execTrefLost (s : State) : Result :=
  s.when (s.flag Reg.TBS_SYNC_STAT_TREF_OK 0) ((s.setR Reg.TBS_SYNC_STAT_TREF_OK 0 0).raise tbsEp 0x1106 2 0)

/-- TREF_RESTORED (R71, R72, R81): TREF is present and in range. Before the counter has started it was never lost, and no event says that it returned. -/
def execTrefRestored (s : State) : Result :=
  let t := s.setR Reg.TBS_SYNC_STAT_TREF_OK 0 1
  s.when (!s.flag Reg.TBS_SYNC_STAT_TREF_OK 0 && !s.inReset) (if s.flag Reg.T_RUNNING 0 then t.raise tbsEp 0x1107 0 0 else t)

/-- TIME_PLL_LOCK_LOST (R73). -/
def execTimePllLockLost (s : State) : Result :=
  s.when (s.flag Reg.TBS_SYNC_STAT_PLL_LOCK 0 && s.flag Reg.TBS_SYNC_STAT_TREF_OK 0)
    ((s.setR Reg.TBS_SYNC_STAT_PLL_LOCK 0 0).setR Reg.T_PLL_SLIP 0 1)

/-- TIME_PLL_LOCK_REGAINED (R73, R81): PLL_LOCK shows the lock also after a TIME_PLL_UNLOCK, which stays in force. -/
def execTimePllLockRegained (s : State) : Result :=
  s.when (s.flag Reg.T_RUNNING 0 && !s.flag Reg.TBS_SYNC_STAT_PLL_LOCK 0) ((s.setR Reg.TBS_SYNC_STAT_PLL_LOCK 0 1).setR Reg.T_PLL_SLIP 0 0)

/-! ### Fabric clock generators (R85 to R91, R749) -/

/-- Settings within R85, in units of 2^-24 MHz: the VCO from 3,072 to 6,000 MHz, the output at most 1,500 MHz. -/
def cgLegal (n d f : Nat) : Bool :=
  let v := 256 * (n * 2 ^ 24 + f)
  decide (12 ≤ n) && decide (n ≤ 23) && decide (2 ≤ d) && decide (d ≤ 127)
    && decide (3072 * 2 ^ 24 ≤ v) && decide (v ≤ 6000 * 2 ^ 24) && decide (v ≤ 1500 * d * 2 ^ 24)

/-- FAB_CG_APPLY (R90, R749). -/
def execFabCgApply (fd : Fin 8) (g : Fin 8) (s : State) : Result :=
  let i := per8 fd g
  if s.getR Reg.FAB_CG_STAT_STATE i = 1 then .next s
  else
    let t := s.setR Reg.FAB_CG_STAT_ABORT_LATE i 0
    let n := s.getR Reg.FAB_CG_CFG_N i
    let d := s.getR Reg.FAB_CG_CFG_D i
    let f := s.getR Reg.FAB_CG_FRAC_F i
    if cgLegal n d f then
      .next ((((((((t.setR Reg.FAB_CG_STAT_STATE i 1).setR Reg.CG_WAIT i 1).setR Reg.CG_RN i n).setR Reg.CG_RD i d).setR
        Reg.CG_RF i f).setR Reg.CG_RALIGN i (s.getR Reg.FAB_CG_CTL_ALIGN i)).setR Reg.CG_RAT i (s.getR Reg.FAB_CG_AT_AT i)))
    else .next (t.setR Reg.FAB_CG_STAT_STATE i 4)

/-- RETUNE_COMMIT (R90, R749): the checked settings become active and the output stops low. -/
def execRetuneCommit (fd : Fin 8) (g : Fin 8) (s : State) : Result :=
  let i := per8 fd g
  if s.flag Reg.CG_WAIT i && s.due (s.getR Reg.CG_RAT i) then
    let t := (((s.setR Reg.FAB_CG_ACT_N i (s.getR Reg.CG_RN i)).setR Reg.FAB_CG_ACT_D i (s.getR Reg.CG_RD i)).setR
      Reg.FAB_CG_ACTF_F i (s.getR Reg.CG_RF i)).setR Reg.FAB_CG_ACT_ALIGN i (s.getR Reg.CG_RALIGN i)
    let t := (((t.setR Reg.CG_WAIT i 0).setR Reg.CG_START i 0).setR Reg.FAB_CG_STAT_LOCK i 0).setR Reg.FAB_CG_STAT_ALIGNED i 0
    .next (if s.flag Reg.FAB_CG_CTL_EN i then t.setR Reg.CG_RELOCK i 1 else (t.setR Reg.FAB_CG_STAT_STATE i 2).markCommit Reg.CG_CMT i)
  else .next s

/-- The output runs: LOCK, and ALIGNED where the active settings align it (R86, R749). -/
def State.cgRun (s : State) (i : Nat) : State :=
  (s.setR Reg.FAB_CG_STAT_LOCK i 1).setR Reg.FAB_CG_STAT_ALIGNED i
    (bit (s.flag Reg.FAB_CG_ACT_ALIGN i && decide (s.getR Reg.FAB_CG_ACTF_F i = 0)))

/-- CG_PLL_LOCKED (R90, R749). -/
def execCgPllLocked (fd : Fin 8) (g : Fin 8) (s : State) : Result :=
  let i := per8 fd g
  if s.flag Reg.CG_RELOCK i then .next (((s.setR Reg.CG_RELOCK i 0).cgRun i).setR Reg.FAB_CG_STAT_STATE i 2)
  else if s.flag Reg.CG_START i then .next ((s.setR Reg.CG_START i 0).cgRun i)
  else .next s

/-- CLKGEN_UNLOCK (R90, R749). -/
def execClkgenUnlock (fd : Fin 8) (g : Fin 8) (s : State) : Result :=
  let i := per8 fd g
  if s.flag Reg.CG_RELOCK i || s.flag Reg.CG_START i then
    let t := (s.setR Reg.CG_RELOCK i 0).setR Reg.CG_START i 0
    let t := if s.flag Reg.CG_WAIT i then t else t.setR Reg.FAB_CG_STAT_STATE i 4
    .next (t.raise (fdWinEp fd) 0x110C 4 (4 + fd.val + g.val * 16))
  else .next s

/-- FAB_CG_ABORT (R38, R90): late after the commit point, also in its cycle where a generator that is not enabled is DONE there. -/
def execFabCgAbort (fd : Fin 8) (g : Fin 8) (s : State) : Result :=
  let i := per8 fd g
  if s.flag Reg.CG_WAIT i then .next ((s.setR Reg.CG_WAIT i 0).setR Reg.FAB_CG_STAT_STATE i 3)
  else s.when (s.flag Reg.CG_RELOCK i || (decide (s.getR Reg.FAB_CG_STAT_STATE i = 2) && s.inCommitCycle Reg.CG_CMT i))
    (s.setR Reg.FAB_CG_STAT_ABORT_LATE i 1)

/-- FAB_CG_ENABLE (R749): a write of EN from 0 to 1. -/
def execFabCgEnable (fd : Fin 8) (g : Fin 8) (s : State) : Result :=
  let i := per8 fd g
  s.when (!s.flag Reg.FAB_CG_CTL_EN i) ((s.setR Reg.FAB_CG_CTL_EN i 1).setR Reg.CG_START i 1)

/-- FAB_CG_DISABLE (R749): a write of EN from 1 to 0; a retune past its commit point ends DONE with no relock. -/
def execFabCgDisable (fd : Fin 8) (g : Fin 8) (s : State) : Result :=
  let i := per8 fd g
  if s.flag Reg.FAB_CG_CTL_EN i then
    let t := (((s.setR Reg.FAB_CG_CTL_EN i 0).setR Reg.CG_START i 0).setR Reg.FAB_CG_STAT_LOCK i 0).setR Reg.FAB_CG_STAT_ALIGNED i 0
    .next (if s.flag Reg.CG_RELOCK i then (t.setR Reg.CG_RELOCK i 0).setR Reg.FAB_CG_STAT_STATE i 2 else t)
  else .next s

/-- PWCLK_SOURCE_WRITE (R88). -/
def execPwclkSourceWrite (n : Fin 4) (fd : BitVec 3) (g : BitVec 3) (en : Bool) (s : State) : Result :=
  let ch := decide (s.getR Reg.TBS_PWCLK_SRC_FD n ≠ fd.toNat) || decide (s.getR Reg.TBS_PWCLK_SRC_GEN n ≠ g.toNat)
  let stop := en && s.flag Reg.TBS_PWCLK_SRC_EN n && (ch || s.flag Reg.PW_STOP n)
  .next ((((s.setR Reg.TBS_PWCLK_SRC_FD n fd.toNat).setR Reg.TBS_PWCLK_SRC_GEN n g.toNat).setR Reg.TBS_PWCLK_SRC_EN n (bit en)).setR
    Reg.PW_STOP n (bit stop))

/-- A generator's output runs. -/
def State.cgRunning (s : State) (fd g : Nat) : Bool := s.flag Reg.FAB_CG_STAT_LOCK (fd * 8 + g)

/-- PWCLK_RESUME (R88): 64 cycles of the new source have passed, so the source runs. -/
def execPwclkResume (n : Fin 4) (s : State) : Result :=
  s.when (s.flag Reg.PW_STOP n && s.cgRunning (s.getR Reg.TBS_PWCLK_SRC_FD n) (s.getR Reg.TBS_PWCLK_SRC_GEN n))
    (s.setR Reg.PW_STOP n 0)

/-- A package-wide clock runs (R87, R88). -/
def State.pwRunning (s : State) (n : Nat) : Bool :=
  s.flag Reg.TBS_PWCLK_SRC_EN n && !s.flag Reg.PW_STOP n
    && s.cgRunning (s.getR Reg.TBS_PWCLK_SRC_FD n) (s.getR Reg.TBS_PWCLK_SRC_GEN n)

end Sys2Proof.Machine
end

