-- ==== Sys2Proof/Machine/Ports.lean ====
section
/-!
DEFINITION. The ports of a region crossbar (R125, R145, R150, R154, R166, R303): their numbers, what hardened blocks show at the ports into it, and what the region presents
at the ports out of it. The manual orders the port groups and numbers nothing; the numbers follow that order (notes/assumptions/86).

Into the crossbar: cluster outputs (cluster × 32 + output), carry-outs from 8,192, die-spine inputs from 8,448, package-spine inputs from 8,576, RAM
blocks from 8,608, MAC slices from 9,208, DCQs from 9,728, the NAP from 10,024, the region's hard block from 10,638, and what comes from outside the device, pins and serial
lines, from 10,934. Out of it: cluster inputs (cluster × 64 + input), carry-ins from 16,384, die-spine outputs from 16,640, package-spine outputs from
16,768, RAM blocks from 16,800, MAC slices from 17,584, DCQs from 18,768, the NAP from 19,064, the hard block from 19,647, pins from 19,939, fabric interrupt
lines from 24,000. A multiplexer is numbered 164 × cluster + destination in a cluster crossbar, with destinations in the order of R106, 65,536 + port in
the region crossbar, and 196,608 + input in the spines that end in the region.
-/

namespace Sys2Proof.Machine

/-! ### Parts at rest -/

/-- A RAM port that has shown nothing. -/
def ramOut0 : RamOut := ⟨0, false, false, false⟩

/-- A RAM block no stream has configured. -/
def ram0 : RamBlk := ⟨64, 64, .writeFirst, .writeFirst, false, false, false, false, none, none, ramOut0, none, none, ramOut0⟩

/-- A MAC slice with every register clear. -/
def mac0 : Mac := ⟨0, false, 0, 0, 0, 0, 0, 0, 0, 0, false, 0, 0⟩

/-- A user NVM block's machinery at rest. -/
def nvm0 : Nvm := ⟨[], [], [], false, 0, false, false, false⟩

/-- A hard serial port at rest. -/
def sp0 : SerialPort := ⟨[], [], 0, 0, 0⟩

/-- A DCQ channel no stream has configured. -/
def dcq0 : Dcq := ⟨false, 0, 0, [], 0, 0, 0⟩

/-- A region's interconnect state when nothing is in it; a region is not configured at reset (R177). -/
def region0 : RegionIc := ⟨[5], [], [], [], [], []⟩

/-- A RAM block: number region × 4 + block. -/
def State.ram (s : State) (b : Nat) : RamBlk := Map.get ram0 s.fab.rams b

/-- A MAC slice: number region × 8 + slice. -/
def State.mac (s : State) (m : Nat) : Mac := Map.get mac0 s.fab.macs m

/-- The machinery of an FD's user NVM block. -/
def State.nvm (s : State) (fd : Nat) : Nvm := Map.get nvm0 s.fab.nvms fd

/-- A DCQ channel, by its write port: region × 4 + q. -/
def State.dcq (s : State) (c : Nat) : Dcq := Map.get dcq0 s.ic.dcqs c

/-- A region's interconnect state. -/
def State.region (s : State) (rg : Nat) : RegionIc := Map.get region0 s.ic.regions rg

/-- Change a region's interconnect state. -/
def State.modRegion (s : State) (rg : Nat) (f : RegionIc → RegionIc) : State :=
  s.modIc (fun c => { c with regions := Map.set region0 c.regions rg (f (s.region rg)) })

/-- A region is isolated. -/
def State.isolated (s : State) (rg : Nat) : Bool := s.flag Reg.FAB_RGN_STAT_ISOLATED rg

/-- A bank of timed I/O is in a differential mode (R260, R261). -/
def State.diff (s : State) (b : Nat) : Bool :=
  decide (s.getR Reg.TIO_BANK_CFG_IOSTD b = 5) || decide (s.getR Reg.TIO_BANK_CFG_IOSTD b = 6)

/-- The pin whose registers a pin follows: in a differential mode both of a pair follow the P pin (R260). -/
def State.cfgPin (s : State) (i : Nat) : Nat := if s.diff (i / 32) then i / 2 * 2 else i

/-- The writes of a pin's delays that 8 time-clock cycles have passed since (R266). -/
def State.dlyDue (s : State) (i : Nat) : List (Nat × Nat × Nat × Nat) :=
  s.tio.dly.filter (fun e => decide (e.1 = i) && decide (4000 ≤ s.elapsed e.2.1))

/-- The delays in effect at a capturing edge of a pin: those of the last write that is due (R266). -/
def State.applyDelay (s : State) (i : Nat) : State :=
  match (s.dlyDue i).getLast? with
  | none => s
  | some e => ((s.modTio (fun x => { x with dly := x.dly.filter (fun w => !(s.dlyDue i).contains w) })).setR Reg.TIO_ODLY_ACT i e.2.2.1).setR
      Reg.TIO_IDLY_ACT i e.2.2.2

/-- What a pin register gives the ball: the last bit launched that has passed the delay (R264). -/
def Pad.level (p : Pad) (now : Nat) : Bool := (((p.launched.filter (fun e => decide (e.1 ≤ now))).getLast?).map (fun e => e.2)).getD false

/-- The bits launched that still count: the last that has passed the delay, and those after it. -/
def pruned (now : Nat) : List (Nat × Bool) → List (Nat × Bool)
  | [] => []
  | e :: l => if l.any (fun f => decide (f.1 ≤ now)) then pruned now l else e :: l

/-- W_FULL (R155, R159); of a write port that no channel uses 0, DESIGN CHOICE (notes/assumptions/87). -/
def State.dcqFull (s : State) (c : Nat) : Bool :=
  let d := s.dcq c
  d.configured && (decide (16 ≤ d.entries.length + d.unreported) || s.isolated d.dstRegion)

/-- The region whose hard-block ports a quad's raw lanes meet (R303). -/
def rawRegion (lane : Nat) : Nat :=
  let q := lane / 4
  let k := q / 10
  let i := q % 10
  (2 * k + i % 2) * 384 + (3 * (i / 2) + 1) * 24 + 23

/-- The first raw lane that meets a region, where one does. -/
def rawLane (rg : Nat) : Option Nat := (List.range 160).find? (fun l => decide (rawRegion l = rg))

/-- The ring oscillator that a region of column 0, rows 8 to 15, receives (R125, R129). -/
def roOf (rg : Nat) : Option Nat :=
  if rg % 24 = 0 ∧ 192 ≤ rg % 384 then some (rg / 384 * 8 + (rg % 384 - 192) / 24) else none

/-- A set of bits as a number: bit n where f n holds. -/
def bitsOf (n : Nat) (f : Nat → Bool) : Nat := (List.range n).foldl (fun acc i => if f i then acc + 2 ^ i else acc) 0

/-! ### Multiplexer and port keys -/

/-- The table key of a multiplexer of a region. -/
def muxKey (rg mux : Nat) : Nat := rg * 2 ^ 18 + mux

/-- The value presented at a destination port of a region crossbar (R143). -/
def State.presented (s : State) (rg port : Nat) : Bool := Map.get false s.ic.xbar (muxKey rg (65536 + port))

/-- The number that n destination ports present, the first lowest. -/
def State.presentedNum (s : State) (rg port n : Nat) : Nat := bitsOf n (fun i => s.presented rg (port + i))

/-- The value last given at a port into the crossbar that is a spine's or comes from outside the device. -/
def State.portIn (s : State) (rg k : Nat) : Bool := Map.get false s.ic.xbar (muxKey rg (131072 + k))

/-- The first port of each group into the crossbar. -/
def ramIn : Nat := 8608
def macIn : Nat := 9208
def dcqIn : Nat := 9728
def napIn : Nat := 10024
def hardIn : Nat := 10638
def outsideIn : Nat := 10934

/-- The first port of each group out of the crossbar. -/
def ramTo : Nat := 16800
def macTo : Nat := 17584
def dcqTo : Nat := 18768
def napTo : Nat := 19064
def hardTo : Nat := 19647
def pinTo : Nat := 19939

/-! ### What the hardened blocks show -/

/-- A RAM port's DOUT, CE, UE, POISON (R110): 75 ports for each of A and B. -/
def State.ramPortIn (s : State) (rg j : Nat) : Bool :=
  let r := s.ram (rg * 4 + j / 150)
  let o := if j / 75 % 2 = 0 then r.dA else r.dB
  let i := j % 75
  if i < 72 then nbit o.data i else if i = 72 then o.ce else if i = 73 then o.ue else o.poison

/-- A MAC slice's ACC and OVF (R121): 65 ports. -/
def State.macPortIn (s : State) (rg j : Nat) : Bool :=
  let m := s.mac (rg * 8 + j / 65)
  if j % 65 < 64 then m.acc.getLsbD (j % 65) else m.ovf

/-- The channel that ends at read port q of a region. -/
def State.dcqInto (s : State) (rg q : Nat) : Option Nat :=
  (s.ic.dcqs.find? (fun e => e.2.configured && decide (e.2.dstRegion = rg) && decide (e.2.dstPort = q))).map (fun e => e.1)

/-- R_DATA and R_VALID of the four read ports, then W_FULL of the four write ports (R154). -/
def State.dcqPortIn (s : State) (rg j : Nat) : Bool :=
  if j < 292 then
    match s.dcqInto rg (j / 73) with
    | none => false
    | some c => if j % 73 < 72 then (s.dcq c).last.getLsbD (j % 73) else decide (0 < (s.dcq c).present)
  else s.dcqFull (rg * 4 + (j - 292))

/-- A request's data at their place in the 64-bit word it names. -/
def mmData (p : Packet) : Nat :=
  (p.data.zipIdx).foldl (fun acc e => acc + e.1.bits % 2 ^ 512 * 2 ^ (512 * e.2)) 0 % 256 ^ p.size * 2 ^ (8 * (p.addr % 8)) % 2 ^ 64

/-- The byte enables of a memory-mapped request (R166). -/
def mmBe (p : Packet) : Nat := (2 ^ p.size - 1) * 2 ^ (p.addr % 8) % 256

/-- The memory-mapped request's signals: MM_REQ, MM_WE, MM_ADDR[23:3], MM_BE, MM_WDATA, MM_POISON (R166); all 0 while nothing is
presented, and MM_WDATA 0 for a read, DESIGN CHOICE (notes/assumptions/87). -/
def mmSignal (l : List MmReq) (i : Nat) : Bool :=
  match l.head? with
  | none => false
  | some m =>
    if i = 0 then true
    else if i = 1 then decide (m.pkt.kind = 3)
    else if i < 23 then nbit m.pkt.addr (i + 1)
    else if i < 31 then nbit (mmBe m.pkt) (i - 23)
    else if i < 95 then decide (m.pkt.kind = 3) && nbit (mmData m.pkt) (i - 31)
    else m.pkt.poison || m.pkt.data.any (fun f => f.poison)

/-- The RX interface's signals: RX_FLIT, RX_SOP, RX_EOP, RX_POISON, RX_CRCERR, RX_VALID (R166); all 0 while nothing is presented, DESIGN CHOICE (notes/assumptions/87). -/
def rxSignal (l : List RxFlit) (i : Nat) : Bool :=
  match l.head? with
  | none => false
  | some f => if i < 512 then nbit f.bits i else if i = 512 then f.sop else if i = 513 then f.eop else if i = 514 then f.poison
    else if i = 515 then f.crcErr else true

/-- The flits of a NAP's packets that its router has not received, those of an open one among them: what its transmit DCQ holds (R95). -/
def State.txHeld (s : State) (rg : Nat) : Nat :=
  ((s.noc.net.filter (fun x => decide (x.place = .router (epRtr (napEp rg)) 4) && decide (x.pkt.src = napEp rg) && x.out.isNone)).map
    (fun x => x.pkt.len + 1)).sum + (s.region rg).tx.length

/-- TX_READY (R163): the NAP takes flits while the region is not isolated and its transmit DCQ of 32 flits has room for one more (R97). -/
def State.txReady (s : State) (rg : Nat) : Bool := !s.isolated rg && decide (s.txHeld rg < 32)

/-- The NAP's signals into the region. -/
def State.napPortIn (s : State) (rg j : Nat) : Bool :=
  if s.isolated rg then false
  else if j < 517 then rxSignal (s.region rg).rx j
  else if j < 613 then mmSignal (s.region rg).mm (j - 517)
  else s.txReady rg

/-- NVM_WREADY, with the entry that a stalling register write takes before the next edge counted as taken, NVM_RDATA, NVM_VALID, NVM_POISON, NVM_WERR (R131, R132, R136). -/
def nvmSignal (n : Nvm) (i : Nat) : Bool :=
  if i = 0 then decide (n.buf.length + min 1 n.stall.length < 4)
  else if i < 65 then n.rdata.getLsbD (i - 1)
  else if i = 65 then n.valid else if i = 66 then n.poison else n.werr

/-- A number in Gray code (R129). -/
def gray (v : Nat) : Nat := v ^^^ (v / 2)

/-- The hard serial port that meets a region of column 0, rows 0 to 7 (R125). -/
def spOf (rg : Nat) : Option Nat := if rg % 24 = 0 ∧ rg % 384 < 192 then some (rg / 384 * 8 + rg % 384 / 24) else none

/-- The lines of a hard serial port are a region's: it has a mode, and its route is the region (R125, R137). -/
def State.spMeets (s : State) (i : Nat) : Bool :=
  let p := Map.get sp0 s.fab.sps i
  decide (p.mode ≠ 0) && decide (p.route = 0)

/-- The hard block's signals into the region where R125 or R303 attaches one: a hard serial port's four lines, the user NVM, a ring oscillator's count as the region's synchroniser shows it, or four raw
lanes with RX word, RX_VALID and TX_READY (R305). -/
def State.hardPortIn (s : State) (rg j : Nat) : Bool :=
  if rg % 384 = 23 then decide (j < 68) && nvmSignal (s.nvm (rg / 384)) j
  else match spOf rg with
  | some p => decide (j < 4) && s.spMeets p && s.portIn rg (hardIn + j)
  | none => match roOf rg, rawLane rg with
    | some i, _ => decide (j < 32) && nbit (s.getR Reg.RO_SEEN i) j
    | none, some l => decide (j < 296) && (if j % 74 = 73 then decide (2 ≤ s.getR Reg.LNE_CFG_MODE (l + j / 74)) && decide (s.getR Reg.LNE_CFG_MODE (l + j / 74) ≤ 4)
          && decide ((Map.get ⟨[], 0, [], 0, 0, 0, [], false, false, 0, 0, 0, []⟩ s.lanes.raw (l + j / 74)).tx.length < 16)
        else nbit (Map.get ⟨[], 0, [], 0, 0, 0, [], false, false, 0, 0, 0, []⟩ s.lanes.raw (l + j / 74)).shown (j % 74))
    | none, none => false

/-- The value at a port into the crossbar that is no cluster's and no spine's; one from outside the device is a pin's or a serial line's. -/
def State.blockPortIn (s : State) (rg k : Nat) : Bool :=
  if k < macIn then s.ramPortIn rg (k - ramIn)
  else if k < dcqIn then s.macPortIn rg (k - macIn)
  else if k < napIn then s.dcqPortIn rg (k - dcqIn)
  else if k < hardIn then s.napPortIn rg (k - napIn)
  else if k < outsideIn then s.hardPortIn rg (k - hardIn)
  else s.portIn rg k

end Sys2Proof.Machine
end

