-- ==== Sys2Proof/Machine/Domains.lean ====
section
/-!
DEFINITION. The power domains (R651): what each holds, and how an operation on one ends (R654 to R656).
-/

namespace Sys2Proof.Machine

/-- What an endpoint is. -/
def kindOf (e : Nat) : EpKind := attached (epBd e) (epRouter e) (epPort e)

/-- The power domain of a region (R651). -/
def rgnDomain (rg : Nat) : Nat := 4 * (rg / 384) + 2 * (rg % 384 / 24 / 8) + rg % 24 / 12

/-- The power domain of an endpoint (R651). -/
def epDomain (e : Nat) : Nat :=
  match kindOf e with
  | .nap rg => rgnDomain rg
  | .pge n => 73 + n
  | .fce n => 73 + n
  | .lpx n => 36 + n
  | .mspGroup n => 89 + n
  | .tio n => 105 + n
  | .dcl n => 52 + (n + 4) / 2
  | .pcie => 72
  | .core _ => 125
  | .sage => 126
  | .dusk => 127
  | _ => 32 + epBd e

/-- The regions of a quadrant (R651). -/
def quadRegions (d : Nat) : List Nat :=
  (List.range 96).map (fun i => d / 4 * 384 + (8 * (d % 4 / 2) + i / 12) * 24 + 12 * (d % 2) + i % 12)

/-- The endpoints of a domain. -/
def domainEps (d : Nat) : List Nat :=
  if d < 32 then (quadRegions d).map napEp
  else if d < 36 then
    let k := d - 32
    (List.range 8).map (fun r => ep k (12 * r + 5) 8) ++ [ep k 84 8, ep k 88 8, ep k 88 9, ep k 88 10]
      ++ (if k = 0 then (List.range 6).map (fun i => ep 0 90 (14 + i)) else [])
  else if d < 52 then [ep ((d - 36) / 4) (24 * ((d - 36) % 4)) 10]
  else if d < 72 then
    ((List.range 2).map (fun i => 2 * (d - 52) + i)).filterMap (fun q =>
      if q < pcieQuads then none else some (ep (q / 10) (12 * (q % 10 % 8) + 11 - q % 10 / 8) 8))
  else if d = 72 then [ep 0 11 8]
  else if d < 89 then [ep ((d - 73) / 4) (24 * ((d - 73) % 4)) 8, ep ((d - 73) / 4) (24 * ((d - 73) % 4)) 9]
  else if d < 105 then [ep ((d - 89) / 4) (24 * ((d - 89) % 4)) 11]
  else if d < 125 then [ep ((d - 105) / 5) (12 * ((d - 105) % 5) + 6) 8]
  else if d = 125 then (List.range 4).map coreEp
  else if d = 126 then [ep 0 90 12]
  else [ep 0 90 13]

/-- The generator that clocks a region, where one does. -/
def State.regionGen (s : State) (rg : Nat) : Option Nat :=
  let sel := s.getR Reg.FAB_RGN_CLK_SEL rg
  if sel < 8 then some (rg / 384 * 8 + sel)
  else if sel < 12 then
    (if s.flag Reg.TBS_PWCLK_SRC_EN (sel - 8) then
      some (s.getR Reg.TBS_PWCLK_SRC_FD (sel - 8) * 8 + s.getR Reg.TBS_PWCLK_SRC_GEN (sel - 8)) else none)
  else none

/-- The generators that clock a quadrant's regions (R669). -/
def State.quadGens (s : State) (d : Nat) : List Nat := ((quadRegions d).filterMap (fun rg => s.regionGen rg)).dedup

/-- The period of a generator's output in ticks, rounded up after a multiple of it is taken (R85, R617). -/
def State.cgPeriods (s : State) (i n : Nat) : Nat :=
  ceilDiv (n * 4000 * s.getR Reg.FAB_CG_ACT_D i * 2 ^ 24) (s.getR Reg.FAB_CG_ACT_N i * 2 ^ 24 + s.getR Reg.FAB_CG_ACTF_F i)

/-- S of R617: eight periods of the slowest clock enabled for the regions, in ticks. -/
def State.releaseS (s : State) (l : List Nat) : Nat :=
  l.foldl (fun m rg => match s.regionGen rg with
    | some i => if s.flag Reg.FAB_CG_CTL_EN i then max m (s.cgPeriods i 8) else m
    | none => m) 0

/-- A number no release in progress has. -/
def State.newRel (s : State) : Nat := s.fab.rels.foldl (fun m e => max m (e.1 + 1)) 0

/-- A region that a stream has configured. -/
def State.configuredRegion (s : State) (rg : Nat) : Bool :=
  let l := (s.region rg).causes
  s.flag Reg.DWN_STAT_CONFIGURED 0 && !l.contains 2 && !l.contains 5

/-- A region that a stream has configured, also one whose release is still under way (R141). -/
def State.streamed (s : State) (rg : Nat) : Bool := s.configuredRegion rg || s.fab.rels.any (fun e => e.2.regions.contains rg)

/-- S over the clocks enabled for every configured region (R141, R617). -/
def State.releaseAll (s : State) : Nat := s.releaseS ((List.range 3072).filter s.streamed)

/-- The release of a restart (R141): in stages from the first time that lies 2^20 ticks on and after RAM restoration; `cause` is the isolation that ends at
OUTHOLD. -/
def State.restartRel (s : State) (l : List Nat) (cause : Nat) : State :=
  if l.isEmpty then s
  else
    let rel : Release := ⟨l, s.time + 1048576, s.releaseAll, 0, false, 1, cause⟩
    s.modFab (fun f => { f with rels := Map.put f.rels s.newRel rel })

/-- An endpoint is being throttled (R669): a NAP where a throttled quadrant's clock reaches its region, another where its domain's effective level is not 0. -/
def State.throttled (s : State) (e : Nat) : Bool :=
  match kindOf e with
  | .nap rg =>
    (match s.regionGen rg with
    | some g => (List.range 32).any (fun q => decide (s.getR Reg.DSK_THRL q ≠ 0) && (s.quadGens q).contains g)
    | none => false)
  | _ => decide (s.getR Reg.DSK_THRL (epDomain e) ≠ 0)

/-- A domain's state: 0 ON, 1 CLOSING, 2 OFF, 3 WAKING. -/
def State.pstate (s : State) (d : Nat) : Nat := s.getR Reg.DSK_PSTATE d

/-- A domain is switched off. -/
def State.domOff (s : State) (d : Nat) : Bool := decide (s.pstate d = 2) || decide (s.pstate d = 3)

/-- DETAIL of Dusk's events (R679). -/
def dskDetail (dom : Nat) (reason die temp sensor entry level : Nat := 0) : Nat :=
  dom % 128 + reason % 16 * 2 ^ 8 + die % 16 * 2 ^ 12 + temp % 65536 * 2 ^ 16 + sensor % 256 * 2 ^ 32 + entry % 64 * 2 ^ 40
    + level % 4 * 2 ^ 48

/-- The slot's operation acts on a domain: 1 off, 2 on. -/
def State.slotOn (s : State) (d op : Nat) : Bool :=
  decide (s.getR Reg.DSK_PWR_STAT_STATE 0 = 1) && decide (s.getR Reg.DSK_PWR_STAT_DOM 0 = d) && decide (s.getR Reg.PW_SLOT 0 = op)

/-- The slot's operation on a domain ends, where there is one of that kind. -/
def State.slotEnd (s : State) (d op st : Nat) (reason : Nat := 0) : State :=
  if s.slotOn d op then (s.setR Reg.DSK_PWR_STAT_STATE 0 st).setR Reg.DSK_PWR_STAT_REASON 0 reason else s

/-- The element of DLK_NAPST of a region (R694). -/
def napstIx (rg : Nat) : Nat := (rg / 384 / 2 * 8 + 2 + rg / 384 % 2) * 384 + rg % 384

/-- The link of a region's NAP is withdrawn (R694). -/
def State.napWithdrawn (s : State) (rg : Nat) : Bool := decide (s.getR Reg.DLK_NAPST (napstIx rg) = 2)

/-- What NOC_PSTATE of a region's NAP is with these causes of isolation (R171, R211): CLOSED with any but the power domain, OFF with that alone, CLOSING while its
domain's power-down closes ports, else OPEN. -/
def State.napPort (s : State) (rg : Nat) (causes : List Nat) : State :=
  s.setR Reg.NOC_PSTATE (portIx (napEp rg))
    (if s.napWithdrawn rg || causes.any (fun c => !decide (c = 4)) then 3
    else if !causes.isEmpty then 2
    else if decide (s.pstate (rgnDomain rg) = 1) then (if s.getR Reg.NOC_PSTATE (portIx (napEp rg)) = 2 then 2 else 1)
    else 0)

/-- The ports of a domain take packets again (R217): a region's as far as it is not isolated. -/
def State.reopenPorts (s : State) (d : Nat) : State :=
  if d < 32 then (quadRegions d).foldl (fun u rg => u.napPort rg (u.region rg).causes) s
  else (domainEps d).foldl (fun u e => u.setR Reg.NOC_PSTATE (portIx e) 0) s

/-- A power-down that has not committed ends ABORTED (R217, R656): its ports, also those that are OFF already, open again; an on request that waited ends DONE
(R655). -/
def State.pwAbort (s : State) (d : Nat) : State :=
  if s.pstate d = 1 ∧ s.flag Reg.PW_COMMIT d = false then
    (((((s.setR Reg.DSK_PSTATE d 0).setR Reg.PW_WAKE d 0).setR Reg.PW_WAKERS d 0).reopenPorts d).slotEnd d 1 3).slotEnd d 2 2
  else s

/-- An arrival for a port that is already OFF while its power-down runs (R217): the slot's operation shows ABORT_LATE. -/
def State.pwLate (s : State) (d : Nat) : State :=
  if s.pstate d = 1 && s.slotOn d 1 then s.setR Reg.DSK_PWR_STAT_ABORT_LATE 0 1 else s

/-- The thermal state refuses power (R655, R673, R674). -/
def State.thermal (s : State) : Bool := s.flag Reg.DSK_ZSTAT_THERM_STOP 0 || s.flag Reg.DSK_ZSTAT_TRIP 0

/-- A domain is forced off. -/
def State.forced (s : State) (d : Nat) : Bool := decide (s.getR Reg.PW_FORCE d ≠ 0)

/-- A domain's wake starts: the regions of a quadrant, held since it lost its power, start again as under a warm fabric reset (R653); where no neighbour of BD3 is
on, BD1 wakes first (R661). -/
def State.pwWake (s : State) (d : Nat) : State :=
  let t := s.setR Reg.DSK_PSTATE d 3
  let t :=
    if d = 35 ∧ s.pstate 34 ≠ 0 then
      (if s.pstate 33 = 2 then t.setR Reg.DSK_PSTATE 33 3 else if s.pstate 33 = 1 then t.setR Reg.PW_WAKE 33 1 else t)
    else t
  if d < 32 then t.restartRel ((quadRegions d).filter (fun rg => (s.region rg).causes.contains 4 && s.configuredRegion rg)) 4 else t

/-- Why a port goes on refusing wakes after a refusal: 2 while its domain is forced off, 3 while the thermal state forbids it, else 0 (R214). -/
def State.refusing (s : State) (e : Nat) : Nat :=
  let v := s.getR Reg.PORT_REFUSE (portIx e)
  if v = 2 then (if s.forced (epDomain e) then 2 else 0) else if v = 3 then (if s.thermal then 3 else 0) else 0

/-- A router asks for the power of a domain (R212): the wake starts, or waits for the power-down to end. -/
def State.netWake (s : State) (d : Nat) : State :=
  if s.thermal || s.forced d then s
  else if s.pstate d = 2 then s.pwWake d
  else if s.pstate d = 1 then s.setR Reg.PW_WAKE d 1
  else s

end Sys2Proof.Machine
end

