-- ==== Sys2Proof/Machine/Cell.lean ====
section
/-!
DEFINITION. Cells, clusters, the region crossbar and the spines at a region clock edge (R99 to R108, R143 to R153, R161). Ports and multiplexers are numbered as in
Machine/Ports.lean.
-/

namespace Sys2Proof.Machine

/-! ### Multiplexers (R106, R161) -/

/-- The lowest-numbered input a select picks; none where no bit is set. -/
def lowest : List Nat → Option Nat
  | [] => none
  | a :: l => some (l.foldl min a)

/-- A select is one-hot. -/
def oneHot (sel : List Nat) : Bool := decide (sel.length = 1)

/-- A source of a cluster crossbar: cell outputs 0 to 63 (Z0, Z1, Q0, Q1 of each cell), cluster inputs 64 to 127, constants 0 and 1
at 128 and 129. -/
def srcBit (zq ins n : Nat) : Bool :=
  if n < 64 then nbit zq n else if n < 128 then nbit ins (n - 64) else decide (n = 129)

/-- What a multiplexer of a cluster crossbar passes. -/
def clusterMux (sels : Map (List Nat)) (key zq ins : Nat) : Bool :=
  match lowest (Map.get [] sels key) with
  | some n => srcBit zq ins n
  | none => false

/-! ### Cells (R99 to R102) -/

/-- What an unconfigured cell is: no function, flip-flops that start at 0. -/
def cell0 : CellCfg := ⟨false, 0, 0, 0, false, false, ⟨0, 0, false, false, false⟩, ⟨0, 0, false, false, false⟩⟩

/-- The combinational outputs of a cell. -/
structure CellOut where
  y0 : Bool
  y1 : Bool
  sum : Bool
  co : Bool
deriving DecidableEq, Repr

/-- LUT and carry outputs from the six inputs L0 to L5 (bit n is Ln) and the carry-in (R99 to R101). -/
def cellEval (c : CellCfg) (l : Nat) (ci : Bool) : CellOut :=
  let t := c.t.toNat
  let y0 := if c.split then nbit t (l % 32) else nbit t (32 + l % 32)
  let y1 := if c.split then nbit t (32 + l % 16 + 16 * (l / 32 % 2)) else nbit t (l % 64)
  ⟨y0, y1, y0 != ci, y1 || (y0 && ci)⟩

/-- A cell of a region: number region × 4,096 + cluster × 16 + cell. -/
def State.cell (s : State) (n : Nat) : CellCfg := Map.get cell0 s.fab.cells n

/-- The flip-flops of a cell: their start values while STHOLD is asserted (R103, R104). -/
def State.ff (s : State) (n : Nat) : Ffs :=
  if s.flag Reg.FAB_STHOLD (n / 4096) then ⟨(s.cell n).ff0.sv, (s.cell n).ff1.sv⟩ else Map.get ⟨false, false⟩ s.fab.ffs n

/-- The Q outputs of a cluster, in the places of Q0 and Q1 of each cell. -/
def State.clusterQ (s : State) (rg cl : Nat) : Nat :=
  bitsOf 64 (fun i =>
    if i % 4 = 2 then (s.ff (rg * 4096 + cl * 16 + i / 4)).q0
    else if i % 4 = 3 then (s.ff (rg * 4096 + cl * 16 + i / 4)).q1
    else false)

/-- The 64 inputs of a cluster. -/
def State.clusterIns (s : State) (rg cl : Nat) : Nat := bitsOf 64 (fun i => s.presented rg (cl * 64 + i))

/-- The carry-in of cell 0: constant 0, constant 1, or the CIN input (R101). -/
def State.clusterCin (s : State) (rg cl : Nat) : Bool :=
  let m := Map.get 0 s.fab.cin (rg * 256 + cl)
  if m = 1 then true else if m = 2 then s.presented rg (16384 + cl) else false

/-- The six LUT inputs of a cell. -/
def State.lutIn (s : State) (rg cl c zq ins : Nat) : Nat :=
  bitsOf 6 (fun l => clusterMux s.ic.sels (muxKey rg (164 * cl + 6 * c + l)) zq ins)

/-- One pass over the cells of a cluster, in carry order: the outputs and the carry so far. -/
def State.clusterPass (s : State) (rg cl ins q zq : Nat) : Nat × Bool :=
  (List.range 16).foldl (fun (acc : Nat × Bool) c =>
    let cfg := s.cell (rg * 4096 + cl * 16 + c)
    let o := cellEval cfg (s.lutIn rg cl c zq ins) acc.2
    let z0 := if cfg.z0S then o.sum else o.y0
    let z1 := if cfg.z1Co then o.co else o.y1
    (acc.1 + (bit z0) * 2 ^ (4 * c) + (bit z1) * 2 ^ (4 * c + 1), o.co)) (q, s.clusterCin rg cl)

/-- The cell outputs of a cluster and its COUT, after as many passes as a path may have LUT levels and one more (R107). -/
def State.clusterEval (s : State) (rg cl : Nat) : Nat × Bool :=
  let q := s.clusterQ rg cl
  let ins := s.clusterIns rg cl
  (List.range 5).foldl (fun acc _ => s.clusterPass rg cl ins q acc.1) (q, false)

/-- The four control lines EN0, EN1, RS0, RS1 of a cluster (R103). -/
def State.ctlLines (s : State) (rg cl zq ins : Nat) : Nat :=
  bitsOf 4 (fun i => clusterMux s.ic.sels (muxKey rg (164 * cl + 128 + i)) zq ins)

/-! ### Flip-flops (R103 to R105) -/

/-- The set/reset of a flip-flop is asserted. -/
def ffRs (f : FfCfg) (ctl : Nat) : Bool :=
  if f.rssel = 1 then nbit ctl 2 else if f.rssel = 2 then nbit ctl 3 else false

/-- The clock enable of a flip-flop. -/
def ffEn (f : FfCfg) (ctl : Nat) : Bool :=
  if f.ensel = 1 then nbit ctl 0 else if f.ensel = 2 then nbit ctl 1 else true

/-- Q at a rising edge (R104, R105): `held` says that an asynchronous set/reset was asserted up to the last edge. -/
def ffEdge (f : FfCfg) (q d : Bool) (ctl : Nat) (held sthold wrhold : Bool) : Bool :=
  if sthold then f.sv
  else if f.async && (ffRs f ctl || held) then f.rsval
  else if wrhold then q
  else if !f.async && ffRs f ctl then f.rsval
  else if ffEn f ctl then d
  else q

/-- The hold of a flip-flop's asynchronous set/reset after an edge: its line is asserted at that edge (R105). -/
def ffHold (f : FfCfg) (ctl : Nat) : Bool := f.async && ffRs f ctl

/-- The clusters of a region that have a configured cell. -/
def State.clustersOf (s : State) (rg : Nat) : List Nat :=
  ((s.fab.cells.filter (fun e => decide (e.1 / 4096 = rg))).map (fun e => e.1 % 4096 / 16)).dedup

/-- The flip-flops of one cluster take their next values. -/
def State.clusterEdge (s : State) (rg cl : Nat) (fab : Fabric) : Fabric :=
  let ins := s.clusterIns rg cl
  let zq := (s.clusterEval rg cl).1
  let ctl := s.ctlLines rg cl zq ins
  let st := s.flag Reg.FAB_STHOLD rg
  let wr := s.flag Reg.FAB_WRHOLD rg
  (List.range 16).foldl (fun fb c =>
    let n := rg * 4096 + cl * 16 + c
    let cfg := s.cell n
    let o := cellEval cfg (s.lutIn rg cl c zq ins)
      (if c = 0 then s.clusterCin rg cl else
        ((List.range c).foldl (fun ci k => (cellEval (s.cell (rg * 4096 + cl * 16 + k)) (s.lutIn rg cl k zq ins) ci).co)
          (s.clusterCin rg cl)))
    let dx := fun k => clusterMux s.ic.sels (muxKey rg (164 * cl + 96 + 2 * c + k)) zq ins
    let d0 := if cfg.d0 = 1 then o.sum else if cfg.d0 = 2 then dx 0 else o.y0
    let d1 := if cfg.d1 = 1 then o.co else if cfg.d1 = 2 then dx 1 else o.y1
    let f := s.ff n
    let h0 := decide (Map.get 0 s.fab.rsHold (2 * n) = 1)
    let h1 := decide (Map.get 0 s.fab.rsHold (2 * n + 1) = 1)
    { fb with
      ffs := Map.set ⟨false, false⟩ fb.ffs n ⟨ffEdge cfg.ff0 f.q0 d0 ctl h0 st wr, ffEdge cfg.ff1 f.q1 d1 ctl h1 st wr⟩
      rsHold := Map.set 0 (Map.set 0 fb.rsHold (2 * n) (bit (ffHold cfg.ff0 ctl))) (2 * n + 1) (bit (ffHold cfg.ff1 ctl)) }) fab

/-- Asynchronous set/resets act within the cycle in which their line rises (R105). -/
def State.asyncSettle (s : State) (rg cl : Nat) : State :=
  let ins := s.clusterIns rg cl
  let ctl := s.ctlLines rg cl (s.clusterEval rg cl).1 ins
  if s.flag Reg.FAB_STHOLD rg then s
  else s.modFab (fun fab => (List.range 16).foldl (fun fb c =>
    let n := rg * 4096 + cl * 16 + c
    let cfg := s.cell n
    let f := s.ff n
    let a0 := ffHold cfg.ff0 ctl
    let a1 := ffHold cfg.ff1 ctl
    { fb with
      ffs := Map.set ⟨false, false⟩ fb.ffs n ⟨if a0 then cfg.ff0.rsval else f.q0, if a1 then cfg.ff1.rsval else f.q1⟩
      rsHold := Map.set 0 (if a0 then Map.set 0 fb.rsHold (2 * n) 1 else fb.rsHold) (2 * n + 1)
        (if a1 then 1 else Map.get 0 fb.rsHold (2 * n + 1)) }) fab)

/-! ### The region crossbar and the spines (R143 to R153, R162, R170) -/

/-- The value at a source port of a region crossbar (R150). -/
def State.regionSrc (s : State) (rg k : Nat) : Bool :=
  if k < 8192 then
    clusterMux s.ic.sels (muxKey rg (164 * (k / 32) + 132 + k % 32)) (s.clusterEval rg (k / 32)).1 (s.clusterIns rg (k / 32))
  else if k < 8448 then (s.clusterEval rg (k - 8192)).2
  else if k < ramIn then s.portIn rg k
  else s.blockPortIn rg k

/-- What a region crossbar multiplexer would pass from the values at its source ports. -/
def State.regionMux (s : State) (rg dest : Nat) : Bool :=
  match lowest (Map.get [] s.ic.sels (muxKey rg (65536 + dest))) with
  | some k => s.regionSrc rg k
  | none => false

/-- The number of a spine's output port among the crossbar's destinations, of its input port among the sources, and of the multiplexer at its input port. -/
def spineOutPort (i : Nat) : Nat := 16640 + i

/-- See spineOutPort. -/
def spineInPort (i : Nat) : Nat := 8448 + i

/-- See spineOutPort. -/
def spineMux (i : Nat) : Nat := 196608 + i

/-- How a spine multiplexer's select names an output port: region × 256 + port. -/
def spineSource (rg port : Nat) : Nat := rg * 256 + port

/-- The delay of a spine path: 3 fcyc on one fabric die, 12 between two (R143, R144). -/
def spineDelay (a b : Nat) : Nat := if a / 384 = b / 384 then 3 else 12

/-- A region's outputs carry what the region computes: it is not isolated and OUTHOLD is released (R140, R170). -/
def State.outputsLive (s : State) (rg : Nat) : Bool := !s.isolated rg && !s.flag Reg.FAB_OUTHOLD rg

/-- A region's outputs were live at its last edge: OUTHOLD was not released at that edge itself (R139). -/
def State.edgeLive (s : State) (rg : Nat) : Bool := s.outputsLive rg && !nbit (s.getR Reg.FAB_JUST rg) 0

/-- The border value of a spine's output port: 0, 1 or the value held (R170). -/
def borderValue (sp : Spine) : Bool := if sp.border = 0 then false else if sp.border = 1 then true else sp.held

/-- The spine route that an output port of a region starts (R152). -/
def State.spineFrom (s : State) (rg port : Nat) : Option Spine :=
  (s.ic.spines.find? (fun e => decide (e.2.srcRegion = rg) && decide (e.2.srcPort = port))).map (fun e => e.2)

/-- What a region drives on an output port that a spine route starts: what it computes, or the border value. -/
def State.spineDrive (s : State) (rg port : Nat) (sp : Spine) : Bool :=
  if s.outputsLive rg then s.regionMux rg (spineOutPort port) else borderValue sp

/-- The value of an output port of a region towards the spines, just before this instant: where the region has had its edge at this instant already, what it drove up to it. -/
def State.spinePort (s : State) (rg port : Nat) : Bool :=
  match s.spineFrom rg port with
  | some sp => if sp.tapAt = s.time.toNat ∧ s.time.toNat ≠ 0 then sp.tap else s.spineDrive rg port sp
  | none => s.outputsLive rg && s.regionMux rg (spineOutPort port)

/-- What a spine captures at the destination region's edge: the output port that its multiplexer passes (R161). -/
def State.spineIn (s : State) (sp : Spine) : Bool :=
  match lowest (Map.get [] s.ic.sels (muxKey sp.dstRegion (spineMux sp.dstPort))) with
  | some k => s.spinePort (k / 256) (k % 256)
  | none => false

/-- The value a spine presents: the oldest in its pipeline. -/
def spineOut (sp : Spine) : Bool := sp.pipe.getLast?.getD false

/-- A spine route at an edge of a region: its pipeline moves where the region is its destination (a route that has lost
its place holds), and its tap is taken where the region is its source. -/
def State.spineEdge (s : State) (rg : Nat) (sp : Spine) : Spine :=
  let a := if sp.dstRegion = rg ∧ !sp.lost then { sp with pipe := (s.spineIn sp :: sp.pipe).take sp.pipe.length } else sp
  if sp.srcRegion = rg then
    { a with tap := s.spineDrive rg sp.srcPort sp, tapAt := s.time.toNat }
  else a

/-- A key is that of a spine input of a region. -/
def spineInKey (rg k : Nat) : Bool := decide (muxKey rg (131072 + spineInPort 0) ≤ k) && decide (k < muxKey rg (131072 + spineInPort 160))

/-- The values presented at the region's ports after an edge: its spine inputs (every one 0 while it is isolated, R171), then every configured
multiplexer of the region crossbar, with D of R143. -/
def State.xbarEdge (s : State) (rg : Nat) (spines : Map Spine) : Map Bool :=
  let iso := s.isolated rg
  let m := spines.foldl (fun m e =>
    if e.2.dstRegion = rg then Map.set false m (muxKey rg (131072 + spineInPort e.2.dstPort)) (spineOut e.2) else m)
    s.ic.xbar
  let m := if iso then m.filter (fun e => !spineInKey rg e.1) else m
  s.ic.sels.foldl (fun x e =>
    if e.1 / 2 ^ 18 = rg ∧ 65536 ≤ e.1 % 2 ^ 18 ∧ e.1 % 2 ^ 18 < 131072 then
      Map.set false x e.1 (match lowest e.2 with
        | some k => if 8448 ≤ k ∧ k < 8608 then Map.get false m (muxKey rg (131072 + k)) else s.regionSrc rg k
        | none => false)
    else x) m

/-! ### The region's clock (R91, R148) -/

/-- A region receives clock edges: its quadrant has power, and the clock that it selects runs. -/
def State.regionClocked (s : State) (rg : Nat) : Bool :=
  let sel := s.getR Reg.FAB_RGN_CLK_SEL rg
  if s.pstate (rgnDomain rg) = 2 then false
  else if sel < 8 then s.cgRunning (rg / 384) sel else if sel < 12 then s.pwRunning (sel - 8) else false

end Sys2Proof.Machine
end

