-- ==== Sys2Proof/Machine/Fabric.lean ====
section
/-!
DEFINITION. RAM blocks, MAC slices, ring oscillators and serial ports (R109 to R129, R137, R138).
-/

namespace Sys2Proof.Machine

/-! ### RAM blocks (R109 to R120) -/

/-- A word nothing has written. -/
def ramWord0 : RamWord := ⟨0, 0, none, false⟩

/-- A word of a block, by its ×64 address. -/
def State.ramWord (s : State) (b w : Nat) : RamWord := Map.get ramWord0 s.fab.ramWords (b * 1024 + w)

/-- Change a block. -/
def State.modRam (s : State) (b : Nat) (f : RamBlk → RamBlk) : State :=
  s.modFab (fun fab => { fab with rams := Map.set ram0 fab.rams b (f (s.ram b)) })

/-- A word as a port sees it at the present edge: what stood there before a write of the same edge (R113). -/
def State.ramSeen (s : State) (b w : Nat) : RamWord := (Map.find s.fab.ramOld (b * 1024 + w)).getD (s.ramWord b w)

/-- A word is written at the present edge: what it held before stays for the other port's read. -/
def State.ramKeep (s : State) (b w : Nat) : State :=
  s.modFab (fun fab => { fab with ramOld := Map.put fab.ramOld (b * 1024 + w) (s.ramSeen b w) })

/-- Store a word. -/
def State.putRamWord (s : State) (b w : Nat) (v : RamWord) : State :=
  s.modFab (fun fab => { fab with ramWords := Map.set ramWord0 fab.ramWords (b * 1024 + w) v })

/-- The width is of the nine family (R109). -/
def isNine (w : Nat) : Bool := decide (w % 9 = 0)

/-- The depth of a port in words of its width (R109): of ADDR only the bits of that depth are there. -/
def ramDepth (w : Nat) : Nat := if isNine w then 73728 / w else 65536 / w

/-- The ×64 word an address of a port lies in. -/
def ramWordOf (w addr : Nat) : Nat :=
  let a := addr % ramDepth w
  if isNine w then a * (w / 9) / 8 else a * w / 64

/-- The place of an address inside its ×64 word: a bit, or for the nine family a group. -/
def ramPlace (w addr : Nat) : Nat :=
  let a := addr % ramDepth w
  if isNine w then a * (w / 9) % 8 else a * w % 64

/-- What a port of a width shows of a word. -/
def ramView (w addr : Nat) (v : RamWord) : Nat :=
  let p := ramPlace w addr
  if isNine w then
    (List.range (w / 9)).foldl (fun acc i =>
      acc + (v.data.toNat / 2 ^ (8 * (p + i)) % 256 + bit (nbit v.nine.toNat (p + i)) * 256) * 2 ^ (9 * i)) 0
  else v.data.toNat / 2 ^ p % 2 ^ w

/-- The data bits and ninth bits a write covers, in ×64 places (R109, R114, R115): byte enables where the width has them. -/
def ramMask (w : Nat) (ecc : Bool) (r : RamWrite) : Nat × Nat :=
  let p := ramPlace w r.addr
  if isNine w then
    let g := w / 9
    let on := bitsOf g (fun i => g = 1 || nbit r.be i)
    (bitsOf 64 (fun j => decide (p ≤ j / 8) && nbit on (j / 8 - p)), on * 2 ^ p)
  else if w < 16 then ((2 ^ w - 1) * 2 ^ p, 0)
  else (bitsOf w (fun j => ecc || nbit r.be (j / 8)) * 2 ^ p, 0)

/-- The data and ninth bits of a write, in ×64 places. -/
def ramDin (w : Nat) (r : RamWrite) : Nat × Nat :=
  let p := ramPlace w r.addr
  if isNine w then
    ((List.range (w / 9)).foldl (fun acc i => acc + r.din / 2 ^ (9 * i) % 256 * 2 ^ (8 * (p + i))) 0,
     (List.range (w / 9)).foldl (fun acc i => acc + r.din / 2 ^ (9 * i + 8) % 2 * 2 ^ (p + i)) 0)
  else (r.din % 2 ^ w * 2 ^ p, 0)

/-- A word after a write of the given masks; a whole-word write clears errors (R116). -/
def ramPut (v : RamWord) (mask din : Nat × Nat) : RamWord :=
  let m : BitVec 64 := BitVec.ofNat 64 mask.1
  let n : BitVec 8 := BitVec.ofNat 8 mask.2
  ⟨(v.data &&& ~~~m) ||| (BitVec.ofNat 64 din.1 &&& m), (v.nine &&& ~~~n) ||| (BitVec.ofNat 8 din.2 &&& n),
    if mask.1 = 2 ^ 64 - 1 then none else v.mark, true⟩

/-- A mask without the bits of another. -/
def maskSub (a b : Nat) : Nat := a - (a &&& b)

/-- The event and counters of an error a RAM read finds (R118 to R120). -/
def State.ramError (s : State) (n : Nat) (b : Fin 4) (port : RamPort) (w : Nat) (ue : Bool) : State :=
  let p := if port = .a then 0 else 1
  let t := (s.setR Reg.FAB_RAM_EADDR_ADDR (n * 4 + b) w).setR Reg.FAB_RAM_EADDR_PORT (n * 4 + b) p
  let t := if ue then t.setR Reg.FAB_RAM_STAT_UE (n * 4 + b) 1 else t.satAdd Reg.FAB_RAM_STAT_CE_CNT (n * 4 + b) 1
  t.raise (napEp n) (if ue then 0x0121 else 0x0120) (if ue then 4 else 1)
    (rgnDetail n + b.val * 2 ^ 12 + p * 2 ^ 14 + w * 2 ^ 16)

/-- The condition of a stored word after an upset. -/
def ramUpset (v : RamWord) : Option Upset → RamWord
  | none => v
  | some (.single k) =>
    let d : BitVec 64 := if k < 64 then v.data ^^^ BitVec.ofNat 64 (2 ^ k) else v.data
    let n : BitVec 8 := if 64 ≤ k then v.nine ^^^ BitVec.ofNat 8 (2 ^ (k - 64)) else v.nine
    match v.mark with
    | none => ⟨d, n, some (.single k), v.valid⟩
    | some (.single j) => ⟨d, n, if j = k then none else some (.multi 0), v.valid⟩
    | some m => ⟨d, n, some m, v.valid⟩
  | some (.multi f) => ⟨v.data ^^^ f, v.nine, some (.multi 0), v.valid⟩
  | some .validParity => v

/-- What a read of a word finds (R111, R116, R117): the outputs, and whether it is corrected or uncorrectable. -/
def ramRead (k : RamBlk) (w addr : Nat) (v : RamWord) : RamOut :=
  if !k.ecc then ⟨ramView w addr v, false, false, false⟩
  else if k.invOnCfg && !v.valid then ramOut0
  else match v.mark with
    | none => ⟨v.data.toNat, false, false, false⟩
    | some (.single j) =>
      ⟨(if j < 64 then v.data ^^^ BitVec.ofNat 64 (2 ^ j) else v.data).toNat, true, false, false⟩
    | some _ => ⟨v.data.toNat, false, true, true⟩

/-- A port's first stage takes a value. -/
def ramStage (k : RamBlk) (port : RamPort) (o : RamOut) : RamBlk :=
  match port with
  | .a => { k with stA := some o }
  | .b => { k with stB := some o }

/-- A read on a port at the present edge (R111, R113, R116); an upset shows in what is read, and stays where no write of this edge has replaced the word. -/
def State.ramReads (s : State) (rg : Nat) (b : Fin 4) (port : RamPort) (addr : Nat) (upset : Option Upset) : State :=
  let n := rg * 4 + b
  let k := s.ram n
  let wd := ramWordOf (if port = .a then k.widthA else k.widthB) addr
  let v := ramUpset (s.ramSeen n wd) upset
  let o := ramRead k (if port = .a then k.widthA else k.widthB) addr v
  let t := if (Map.find s.fab.ramOld (n * 1024 + wd)).isSome then s else s.putRamWord n wd v
  let t := t.modRam n (fun k => ramStage k port o)
  if o.ce || o.ue then t.ramError rg b port wd o.ue else t

/-- WRHOLD governed the region's last edge (R139, R140): it is asserted, or was released at that edge itself. -/
def State.writesHeld (s : State) (rg : Nat) : Bool := s.flag Reg.FAB_WRHOLD rg || nbit (s.getR Reg.FAB_JUST rg) 1

/-- FAB_RAM_READ (R111, R116, R140): ADDR is captured on this edge. -/
def execFabRamRead (fd : Fin 8) (rgn_ : Fin 384) (b : Fin 4) (port : RamPort) (addr : Nat) (upset : Option Upset) (s : State) :
    Result :=
  if s.writesHeld (rgn fd rgn_) || !s.regionClocked (rgn fd rgn_) then .next s
  else .next (s.ramReads (rgn fd rgn_) b port addr upset)

/-- The outputs a write shows on its own port (R112). READ_FIRST shows what is stored, also with ECC, unchecked: DESIGN CHOICE (notes/assumptions/87). -/
def ramWriteShow (k : RamBlk) (port : RamPort) (mode : Rdw) (w addr : Nat) (old new : RamWord) : RamBlk :=
  match mode with
  | .writeFirst => ramStage k port ⟨ramView w addr new, false, false, false⟩
  | .readFirst => ramStage k port ⟨ramView w addr old, false, false, false⟩
  | .noChange => k

/-- A write on one port, on the places `mask`. -/
def State.ramStore (s : State) (n w : Nat) (r : RamWrite) (mask : Nat × Nat) : State :=
  if mask = (0, 0) then s
  else (s.ramKeep n (ramWordOf w r.addr)).putRamWord n (ramWordOf w r.addr) (ramPut (s.ramWord n (ramWordOf w r.addr)) mask (ramDin w r))

/-- The writes of the two ports of a block at the present edge (R112 to R115); port A wins the overlap. -/
def State.ramWrites (s : State) (n : Nat) (pa pb : Option RamWrite) : State :=
  let k := s.ram n
  let ma := (pa.map (ramMask k.widthA k.ecc)).getD (0, 0)
  let mb := (pb.map (ramMask k.widthB k.ecc)).getD (0, 0)
  let same := match pa, pb with
    | some a, some c => decide (ramWordOf k.widthA a.addr = ramWordOf k.widthB c.addr)
    | _, _ => false
  let hit := same && (decide ((ma.1 &&& mb.1) ≠ 0) || decide ((ma.2 &&& mb.2) ≠ 0))
  let mb' := if hit then (maskSub mb.1 ma.1, maskSub mb.2 ma.2) else mb
  let t := match pa with | some a => s.ramStore n k.widthA a ma | none => s
  let t := match pb with | some c => t.ramStore n k.widthB c mb' | none => t
  let t := if hit then t.satAdd Reg.FAB_RAM_STAT_COLL n 1 else t
  t.modRam n (fun k =>
    let k := match pa with
      | some a => ramWriteShow k .a k.rdwA k.widthA a.addr (s.ramWord n (ramWordOf k.widthA a.addr))
          (t.ramWord n (ramWordOf k.widthA a.addr))
      | none => k
    match pb with
    | some c => ramWriteShow k .b k.rdwB k.widthB c.addr (s.ramWord n (ramWordOf k.widthB c.addr))
        (t.ramWord n (ramWordOf k.widthB c.addr))
    | none => k)

/-- FAB_RAM_WRITE (R112 to R115, R140): the writes of the two ports on one edge. -/
def execFabRamWrite (fd : Fin 8) (rgn_ : Fin 384) (b : Fin 4) (pa : Option RamWrite) (pb : Option RamWrite) (s : State) : Result :=
  if s.writesHeld (rgn fd rgn_) || !s.regionClocked (rgn fd rgn_) then .next s
  else .next (s.ramWrites (rgn fd rgn_ * 4 + b) pa pb)

/-- A port's output after an edge (R111): the staged value, or the old one with CE low again (R116). -/
def ramShow (d : RamOut) : Option RamOut → RamOut
  | some o => o
  | none => { d with ce := false }

/-- The output stages of a block at a region clock edge; WRHOLD holds them at 0 (R111, R140). -/
def ramEdge (k : RamBlk) (wrhold : Bool) : RamBlk :=
  if wrhold then { k with stA := none, stA2 := none, dA := ramOut0, stB := none, stB2 := none, dB := ramOut0 }
  else { k with
    dA := ramShow k.dA (if k.outA then k.stA2 else k.stA)
    stA2 := k.stA
    stA := none
    dB := ramShow k.dB (if k.outB then k.stB2 else k.stB)
    stB2 := k.stB
    stB := none }

/-! ### MAC slices (R121 to R124) -/

/-- The pre-adder's result (R122). -/
def macPre (m : Mac) : Int :=
  if m.pre = 1 then signed 26 m.ma.toNat + signed 26 m.mp.toNat
  else if m.pre = 2 then signed 26 m.ma.toNat - signed 26 m.mp.toNat
  else m.ma.toInt

/-- The addend an OP adds to M (R122). -/
def macAdd (op : BitVec 2) (acc ad casi : BitVec 64) : Int :=
  if op = 1 then acc.toInt else if op = 2 then ad.toInt else if op = 3 then casi.toInt else 0

/-- An exact result into ACC (R124): wrapped, or saturated with SAT. -/
def macFit (sat : Bool) (x : Int) : BitVec 64 :=
  if sat then BitVec.ofInt 64 (max (-(2 ^ 63)) (min (2 ^ 63 - 1) x)) else BitVec.ofInt 64 x

/-- An exact result lies outside the 64-bit signed range. -/
def macOver (x : Int) : Bool := decide (x < -(2 ^ 63)) || decide (2 ^ 63 ≤ x)

/-- One edge of a slice (R122, R124). Without EN the slice holds all, OVF too: DESIGN CHOICE (notes/assumptions/87). -/
def macEdge (m : Mac) (i : MacIn) (casi : BitVec 64) : Mac :=
  if i.clr then { mac0 with pre := m.pre, sat := m.sat, prevAcc := m.acc, edges := m.edges + 1 }
  else if !i.en then { m with prevAcc := m.acc, edges := m.edges + 1 }
  else
    let x := m.m.toInt + macAdd m.mop m.acc m.ad casi
    { m with
      ma := i.ma, mp := i.mp, mb := i.mb, ad := i.ad, op := i.op
      m := BitVec.ofInt 64 (macPre m * m.mb.toInt)
      mop := m.op
      acc := macFit m.sat x
      ovf := macOver x
      prevAcc := m.acc
      edges := m.edges + 1 }

/-- CASI of a slice just before its edge (R123): the lower slice's ACC, or the one it had where its edge has already been taken. -/
def State.casi (s : State) (rg slice : Nat) : BitVec 64 :=
  if slice = 0 then 0
  else
    let lo := s.mac (rg * 8 + slice - 1)
    if (s.mac (rg * 8 + slice)).edges < lo.edges then lo.prevAcc else lo.acc

/-- MAC_UPDATE (R122): one edge of a slice; while WRHOLD is asserted its registers hold 0 (R140). -/
def execMacUpdate (fd : Fin 8) (rgn_ : Fin 384) (slice : Fin 8) (inp : MacIn) (s : State) : Result :=
  let n := rgn fd rgn_ * 8 + slice
  if s.writesHeld (rgn fd rgn_) || !s.regionClocked (rgn fd rgn_) then .next s
  else .next (s.modFab (fun f => { f with macs := Map.set mac0 f.macs n (macEdge (s.mac n) inp (s.casi (rgn fd rgn_) slice)) }))

/-! ### User ring oscillators (R126 to R129) -/

/-- FREQ as it acts, in MHz (R128). -/
def roFreq (v : Nat) : Nat := max 20 (min 800 v)

/-- The accuracy of a ring oscillator in parts per thousand (R126): 5 once a trim has succeeded, while the die's temperature stays within 20 °C of its temperature then, else 50. -/
def State.roAccuracy (s : State) (i : Nat) : Nat := if s.flag Reg.RO_TRIMMED i then 5 else 50

/-- COUNT brought up to now (R128): while EN is 1 the cycles since EN was set are any number within the oscillator's accuracy over all the time since then (notes/assumptions/90).
RO_LO and RO_HI are its bounds in units of 1 / 1,024,000,000 cycle; 1,024,000 ticks are a microsecond. -/
def State.roBring (s : State) (i : Nat) : State :=
  let x := roFreq (s.getR Reg.FAB_RO_CTL_FREQ i) * (s.noc.clock % 2 ^ 64 - s.getR Reg.RO_AT i)
  let lo := s.getR Reg.RO_LO i + x * (1000 - s.roAccuracy i)
  let hi := s.getR Reg.RO_HI i + x * (1000 + s.roAccuracy i)
  let least := max (s.getR Reg.RO_TOTAL i) (lo / 1024000000)
  let total := least + (Config.freeWord s.free).toNat % (hi / 1024000000 - least + 1)
  let t := s.setR Reg.RO_AT i (s.noc.clock % 2 ^ 64)
  if s.flag Reg.FAB_RO_CTL_EN i then
    ((((t.setR Reg.RO_LO i lo).setR Reg.RO_HI i hi).setR Reg.RO_TOTAL i total).setR Reg.FAB_RO_COUNT_COUNT i total).draw
  else t

/-- A write of EN (R128): 1 starts the oscillator with COUNT at 0, 0 stops it and freezes COUNT. -/
def State.roEnable (s : State) (i : Nat) (en : Bool) : State :=
  let t := s.roBring i
  if en && !s.flag Reg.FAB_RO_CTL_EN i then
    (t.setR Reg.FAB_RO_CTL_EN i 1).resetFields [Reg.FAB_RO_COUNT_COUNT, Reg.RO_TOTAL, Reg.RO_LO, Reg.RO_HI] i
  else t.setR Reg.FAB_RO_CTL_EN i (bit en)

/-- At an edge of the region that receives it, COUNT moves through the region's synchroniser as Gray code, which no edge tears (R129). -/
def State.roEdge (s : State) (rg : Nat) : State :=
  match roOf rg with
  | none => s
  | some i =>
    let t := s.roBring i
    (t.setR Reg.RO_SEEN i (s.getR Reg.RO_S1 i)).setR Reg.RO_S1 i (gray (t.getR Reg.FAB_RO_COUNT_COUNT i))

/-- FAB_RO_TRIM (R127, R128): ignored while EN is 0, and while a trim runs. -/
def execFabRoTrim (fd : Fin 8) (g : Fin 8) (s : State) : Result :=
  let i := per8 fd g
  s.when (s.flag Reg.FAB_RO_CTL_EN i && decide (s.getR Reg.FAB_RO_STAT_STATE i ≠ 1))
    ((((s.setR Reg.FAB_RO_STAT_STATE i 1).setR Reg.FAB_RO_STAT_ABORT_LATE i 0).setR Reg.RO_OLD i (s.getR Reg.FAB_RO_TRIM_CODE i)).setR
      Reg.RO_WIN i 0)

/-- The trim of an oscillator lapses where its die has left the ±20 °C around its temperature at the trim (R126). -/
def State.roDrift (s : State) (i : Nat) : State :=
  if s.flag Reg.RO_TRIMMED i
      && decide (320 < (signed 16 (s.getR Reg.DSK_ZTEMP_ZONE (4 + i / 8)) - signed 16 (s.getR Reg.RO_TEMP i)).natAbs) then
    (s.setR Reg.RO_TRIMMED i 0).roBring i
  else s

/-- RO_TRIM_WINDOW_END (R126, R127): `within` says that the window measured within ±0.25 %. How a window adjusts the code is open. EN or FREQ written while a trim runs leaves it
running, and an abort then restores the code from before it: DESIGN CHOICE (notes/assumptions/90). -/
def execRoTrimWindowEnd (fd : Fin 8) (g : Fin 8) (within : Bool) (s : State) : Result :=
  let i := per8 fd g
  if s.getR Reg.FAB_RO_STAT_STATE i ≠ 1 then .next s
  else if within then
    .next (((((s.roBring i).setR Reg.FAB_RO_STAT_STATE i 2).setR Reg.RO_TRIMMED i 1).setR Reg.RO_TEMP i (s.getR Reg.DSK_ZTEMP_ZONE (4 + i / 8))).markCommit
      Reg.RO_CMT i)
  else if 8 ≤ s.getR Reg.RO_WIN i + 1 then .next ((s.setR Reg.RO_WIN i 8).setR Reg.FAB_RO_STAT_STATE i 4)
  else .next (((s.wrapAdd Reg.RO_WIN i 1).setR Reg.FAB_RO_TRIM_CODE i (Config.freeTrim s.free).toNat).draw)

/-- FAB_RO_ABORT (R38, R127): the code in force before the trim stays; in the cycle of the trim's commit point the abort is late. -/
def execFabRoAbort (fd : Fin 8) (g : Fin 8) (s : State) : Result :=
  let i := per8 fd g
  if s.getR Reg.FAB_RO_STAT_STATE i = 1 then
    .next ((s.setR Reg.FAB_RO_STAT_STATE i 3).setR Reg.FAB_RO_TRIM_CODE i (s.getR Reg.RO_OLD i))
  else s.when (decide (s.getR Reg.FAB_RO_STAT_STATE i = 2) && s.inCommitCycle Reg.RO_CMT i) (s.setR Reg.FAB_RO_STAT_ABORT_LATE i 1)

/-- FAB_RO_FREQ_WRITE (R128). -/
def execFabRoFreqWrite (fd : Fin 8) (g : Fin 8) (freq : BitVec 10) (s : State) : Result :=
  let i := per8 fd g
  .next ((((s.roBring i).setR Reg.FAB_RO_CTL_FREQ i freq.toNat).setR Reg.FAB_RO_TRIM_CODE i 0x800).setR Reg.RO_TRIMMED i 0)

/-! ### Hard serial ports (R137, R138) -/

/-- A port: number FD × 8 + port. -/
def State.sp (s : State) (i : Nat) : SerialPort := Map.get sp0 s.fab.sps i

/-- A port sends by itself in the modes UART, SPI controller and I²C controller. -/
def spDrives (mode : Nat) : Bool := decide (mode = 1) || decide (mode = 2) || decide (mode = 4)

/-- The port's line to the interrupt controller: a byte waits, or a W1C status bit is set (R557). -/
def State.spLine (s : State) (i : Nat) : State :=
  s.irqLevel (448 + i) (decide (0 < s.getR Reg.FAB_SP_STAT_RXCNT i) || s.flag Reg.FAB_SP_STAT_RXOVF i
    || s.flag Reg.FAB_SP_STAT_TXOVF i || s.flag Reg.FAB_SP_STAT_LINEERR i)

/-- Set a W1C status bit of a port. -/
def State.spMark (s : State) (i : Nat) (f : Field) : State := (s.setR f i 1).spLine i

/-- Change a port, its counts, and BUSY as far as the port's own sending makes it 1. -/
def State.modSp (s : State) (i : Nat) (f : SerialPort → SerialPort) : State :=
  let p := f (s.sp i)
  ((((s.modFab (fun b => { b with sps := Map.set sp0 b.sps i p })).setR Reg.FAB_SP_STAT_RXCNT i p.rx.length).setR
    Reg.FAB_SP_STAT_TXCNT i p.tx.length).setR Reg.FAB_SP_STAT_BUSY i (bit (spDrives p.mode && !p.tx.isEmpty))).spLine i

/-- BUSY as it reads (R137): 1 while the port sends; where another device may have begun a transfer that the port cannot yet tell of (a byte on its way to a UART, a
transfer to a target), the bit is free (notes/assumptions/91). -/
def State.spBusy (s : State) (i : Nat) : Nat :=
  if s.flag Reg.FAB_SP_STAT_BUSY i then 1
  else if (s.sp i).mode = 1 ∨ (s.sp i).mode = 3 ∨ (s.sp i).mode = 5 then (Config.freeWord s.free).toNat % 2
  else 0

/-- SP_DATA_PUSH (R137). -/
def execSpDataPush (fd : Fin 8) (p : Fin 8) (byte : BitVec 8) (s : State) : Result :=
  let i := per8 fd p
  if 64 ≤ (s.sp i).tx.length then .next (s.spMark i Reg.FAB_SP_STAT_TXOVF)
  else .next (s.modSp i (fun q => { q with tx := q.tx ++ [byte] }))

/-- SP_DATA_POP (R137): BYTE in bits [7:0], EMPTY in bit [8]. -/
def execSpDataPop (fd : Fin 8) (p : Fin 8) (peek : Bool) (s : State) : Result :=
  let i := per8 fd p
  match (s.sp i).rx with
  | [] => .next (s.respond 256 0)
  | b :: rest => .next (if peek then s.respond b.toNat 0 else (s.respond b.toNat 0).modSp i (fun q => { q with rx := rest }))

/-- SP_MODE_APPLY (R138): the written MODE takes effect; 6 and 7 act as 0 (R137). -/
def execSpModeApply (fd : Fin 8) (p : Fin 8) (s : State) : Result :=
  let i := per8 fd p
  let m := s.getR Reg.FAB_SP_CTL_MODE i
  .next (s.modSp i (fun q => { q with mode := if m < 6 then m else 0 }))

/-- SP_BYTE_RECEIVED (R137): `lineErr` is a framing or parity error, a NACK or lost arbitration. -/
def execSpByteReceived (fd : Fin 8) (p : Fin 8) (byte : BitVec 8) (lineErr : Bool) (s : State) : Result :=
  let i := per8 fd p
  if (s.sp i).mode = 0 then .next s
  else if lineErr then .next (s.spMark i Reg.FAB_SP_STAT_LINEERR)
  else if 64 ≤ (s.sp i).rx.length then .next (s.spMark i Reg.FAB_SP_STAT_RXOVF)
  else .next (s.modSp i (fun q => { q with rx := q.rx ++ [byte] }))

/-- SP_BYTE_SENT (R137). -/
def execSpByteSent (fd : Fin 8) (p : Fin 8) (lineErr : Bool) (s : State) : Result :=
  let i := per8 fd p
  match (s.sp i).tx with
  | [] => .next s
  | _ :: rest =>
    if (s.sp i).mode = 0 then .next s
    else
      let t := s.modSp i (fun q => { q with tx := rest })
      .next (if lineErr then t.spMark i Reg.FAB_SP_STAT_LINEERR else t)

end Sys2Proof.Machine
end

