-- ==== Sys2Proof/Machine/MidAccess.lean ====
section
/-!
DEFINITION. What guards a foreground access: a Midnight test it ends (R697, R702), and the ranges Dawn holds (R607, R611).
-/

namespace Sys2Proof.Machine

/-- DETAIL of Midnight's events (R702). -/
def midDetail (cls index result : Nat) : Nat := cls % 8 * 2 ^ 23 + index % 1024 * 2 ^ 26 + result % 16 * 2 ^ 36

/-- A test of this unit. -/
def ofUnit (bd cls index : Nat) (t : MidTest) : Bool := decide (t.bd = bd) && decide (t.cls = cls) && decide (t.index = index)

/-- Midnight holds a unit: under test, or ended and not yet released. -/
def State.midHolds (s : State) (bd cls index : Nat) : Bool := s.mid.any (ofUnit bd cls index)

/-- A foreground access to a unit ends its test INTERRUPTED (R697, R699). -/
def State.midTouch (s : State) (bd cls index : Nat) : State :=
  match s.mid.find? (fun t => ofUnit bd cls index t && !t.ended) with
  | none => s
  | some t =>
    let u := (s.modMid (fun l => l.map (fun x => if ofUnit bd cls index x then { x with ended := true } else x))).raise (bdWinEp bd)
      0x0C13 0 (midDetail cls index 4)
    if t.req then (u.setR Reg.MID_REQ_STAT_STATE bd 4).setR Reg.MID_REQ_STAT_RESULT bd 4 else u

/-- A foreground access to a PGE/FCE pair. -/
def State.touchPair (s : State) (n : Nat) : State := s.midTouch (n / 4) 1 (n % 4)

/-- A foreground access to an MSP group. -/
def State.touchGroup (s : State) (g : Nat) : State := s.midTouch (g / 4) 2 (g % 4)

/-- A foreground access to a region. -/
def State.touchRegion (s : State) (rg : Nat) : State := s.midTouch (rg / 768) 0 (rg % 768)

/-- A write of a lane's MODE or slot maps (R696). -/
def State.touchLane (s : State) (lane : Nat) : State := s.midTouch (lane / 40) 5 (lane % 40)

/-- Dawn's endpoint (R185). -/
def dawnEp : Nat := ep 0 90 14

/-- Two byte ranges meet. -/
def overlap (a n b m : Nat) : Bool := decide (a < b + m) && decide (b < a + n)

/-- Dawn's guard of memory ranges (R607, R611): the state after a request that it denies with STATUS 2, none for one it lets pass. -/
def State.dawnGuard (s : State) (a n req : Nat) (write : Bool) : Option State :=
  if req = dawnEp then none
  else if s.dawn.images.any (fun r => overlap a n r.1 r.2) then some s
  else if write && decide (s.getR Reg.DWN_STAT_STATE 0 = 1) && decide (s.getR Reg.DWN_OP_ADDR 0 < 0x4000000000)
      && overlap a n (s.getR Reg.DWN_OP_ADDR 0) (s.getR Reg.DWN_OP_LEN 0) then some (s.raise dawnEp 0x090D 2 (s.getR Reg.DWN_STAT_SRC 0 * 2 ^ 8))
  else none

end Sys2Proof.Machine
end

