-- ==== Sys2Proof/Machine/PgeRun.lean ====
section
/-!
DEFINITION. How a pattern engine's run ends: its outputs close, and a failure ends it (R355 to R360).
-/

namespace Sys2Proof.Machine

/-- An engine with no run. -/
def pge0 : Pge :=
  ⟨[], 0, List.replicate 16 0xAAAAAAAAAAAAAAAA, List.replicate 16 0xFFFFFFFF, 0, 0, 0, [], [], [], 0, none, 0, none, 0, false, [], []⟩

/-- An engine's parts. -/
def State.pgx (s : State) (n : Nat) : Pge := Map.get pge0 s.pge n

/-- Change an engine's parts. -/
def State.modPgx (s : State) (n : Nat) (f : Pge → Pge) : State := s.modPge (fun m => Map.set pge0 m n (f (s.pgx n)))

/-- An output with no packet. -/
def pgeOut0 : PgeOut := ⟨[], none, false, none, none, 0, false⟩

/-- An output of an engine. -/
def State.pgeOut (s : State) (n g : Nat) : PgeOut := Map.get pgeOut0 (s.pgx n).outs g

/-- Change an output. -/
def State.modOut (s : State) (n g : Nat) (f : PgeOut → PgeOut) : State :=
  s.modPgx n (fun k => { k with outs := Map.set pgeOut0 k.outs g (f (Map.get pgeOut0 k.outs g)) })

/-- The endpoint of a pattern engine (R185). -/
def pgeEp (n : Nat) : Nat := ep (n / 4) (24 * (n % 4)) 8

/-- DETAIL of the engines' events (R384). -/
def pgeDetail (code hcause group num eaddr : Nat := 0) : Nat :=
  code % 2 ^ 16 + hcause % 16 * 2 ^ 16 + group % 16 * 2 ^ 20 + num % 2 ^ 48 * 2 ^ 24 + eaddr % 2 ^ 48 * 2 ^ 72

/-- A run is in BUSY or RUNNING. -/
def State.pgeActive (s : State) (n : Nat) : Bool :=
  decide (s.getR Reg.PGE_STAT_STATE n = 1) || decide (s.getR Reg.PGE_STAT_STATE n = 5)

/-- The number of the last vector formed; 0 while the run has formed none (R384). -/
def State.pgeNum (s : State) (n : Nat) : Nat := if (s.pgx n).formed then s.getR Reg.PGE_VNUM_VNUM n else 0

/-- The enabled outputs of an engine. -/
def State.pgeOuts (s : State) (n : Nat) : List Nat := (List.range 16).filter (fun g => s.flag Reg.PGE_OUT_CFG_EN (n * 16 + g))

/-- The contract of an output is LIVE. -/
def State.outLive (s : State) (n g : Nat) : Bool :=
  decide (s.getR Reg.THY_CT_STAT_CSTATE (s.getR Reg.PGE_OUT_CFG_FLOW (n * 16 + g)) = 1)

/-- A packet with LAST, closed. -/
def markLast : List PgePkt → List PgePkt
  | [] => []
  | [p] => [{ p with last := true, closed := true }]
  | p :: l => p :: markLast l

/-- Close one output at a run's end (R355, R357): LAST on the final vector, or a termination vector. -/
def State.closeOutput (s : State) (n g : Nat) : State :=
  let o := s.pgeOut n g
  if o.done then s
  else if !o.pkts.isEmpty then s.modOut n g (fun o => { o with pkts := markLast o.pkts })
  else if s.outLive n g then
    let v : PgeVec := ⟨0xAAAAAAAAAAAAAAAA, 0xFFFFFFFF, s.getR Reg.PGE_CTL_TERM_TS n, o.sentEnd.getD (s.getR Reg.PGE_VT_T n)⟩
    let num := match o.sentNum with | some k => (k + 1) % 2 ^ 48 | none => s.getR Reg.PGE_VNUM0_VNUM n
    s.modOut n g (fun o => { o with pkts := [⟨[v], num, true, true, true, true⟩] })
  else s.modOut n g (fun o => { o with done := true })

/-- The sequencer stops for good and every output closes; `why` is 1 HALT, 2 STOP, 3 a failure. -/
def State.endRun (s : State) (n why : Nat) : State :=
  (s.pgeOuts n).foldl (fun t g => t.closeOutput n g) (s.modPgx n (fun k => { k with ending := why, wait := none }))

/-- End a run FAILED (R358). -/
def State.pgeFail (s : State) (n cause : Nat) : State :=
  ((s.pgeSt n 4).setR Reg.PGE_STAT_HCAUSE n cause).endRun n 3

/-- A contract leaves LIVE: every run that sends on it fails with HCAUSE 8 (R359). -/
def State.pgeOutputLost (s : State) (id : Nat) : State :=
  (List.range 16).foldl (fun t n =>
    if t.pgeActive n then
      match (t.pgeOuts n).find? (fun g => decide (t.getR Reg.PGE_OUT_CFG_FLOW (n * 16 + g) = id)) with
      | some g => (t.pgeFail n 8).raise (pgeEp n) 0x0606 3 (pgeDetail 0 8 g (t.pgeNum n))
      | none => t
    else t) s

/-- TIME_PLL_UNLOCK ends a run and discards what it has not sent (R360). -/
def State.pgeUnlock (s : State) (n : Nat) : State :=
  if s.pgeActive n then
    (((s.pgeSt n 4).setR Reg.PGE_STAT_HCAUSE n 9).modPgx n (fun k =>
      { k with ending := 3, wait := none, outs := [] })).raise (pgeEp n) 0x0603 4
      (pgeDetail 0 9 0 (s.pgeNum n))
  else s

end Sys2Proof.Machine
end

