-- ==== Sys2Proof/Machine/Net.lean ====
section
/-!
DEFINITION. Packets, routes, notices and breach notices: what the routers, Thyme and every endpoint send with (R179 to R210,
R249 to R257).
-/

namespace Sys2Proof.Machine

/-! ### The mesh (R179, R180) -/

/-- The package row of a router numbered 0 to 383. -/
def rtrRow (r : Nat) : Nat := 8 * (r / 96 / 2) + r % 96 / 12

/-- The package column of a router. -/
def rtrCol (r : Nat) : Nat := 12 * (r / 96 % 2) + r % 12

/-- The router at package coordinates. -/
def rtrAt (row col : Nat) : Nat := (2 * (row / 8) + col / 12) * 96 + row % 8 * 12 + col % 12

/-- The neighbour a mesh port leads to: 0 N, 1 E, 2 S, 3 W. -/
def neighbour (r dir : Nat) : Option Nat :=
  let row := rtrRow r
  let col := rtrCol r
  if dir = 0 then (if row = 0 then none else some (rtrAt (row - 1) col))
  else if dir = 1 then (if col = 23 then none else some (rtrAt row (col + 1)))
  else if dir = 2 then (if row = 15 then none else some (rtrAt (row + 1) col))
  else if dir = 3 then (if col = 0 then none else some (rtrAt row (col - 1)))
  else none

/-- The opposite direction. -/
def opposite (dir : Nat) : Nat := (dir + 2) % 4

/-- A mesh port is lateral: its neighbour lies on another base die. -/
def isLateral (r dir : Nat) : Bool :=
  match neighbour r dir with
  | some q => decide (q / 96 ≠ r / 96)
  | none => false

/-- The die-link page of the lateral link a router's port crosses, on the router's side (R693). -/
def latPage (r dir : Nat) : Nat := r / 96 * 8 + (if dir % 2 = 1 then 0 else 1)

/-- The state of the lateral link a port crosses: 0 normal, 1 fold, 2 withdrawn. -/
def State.latState (s : State) (r dir : Nat) : Nat := s.getR Reg.DLK_STAT_LSTATE (latPage r dir)

/-! ### CRC-32 (R193) -/

/-- One byte into the CRC-32 of IEEE 802.3. -/
def crc32Byte (crc byte : Nat) : Nat :=
  (List.range 8).foldl (fun c _ => if c % 2 = 1 then c / 2 ^^^ 0xEDB88320 else c / 2) (crc ^^^ byte)

/-- The CRC-32 over the low n bytes of a number, from a running value. -/
def crc32On (crc v n : Nat) : Nat := (List.range n).foldl (fun c i => crc32Byte c (v / 256 ^ i % 256)) crc

/-! ### Packets (R188 to R193) -/

/-- The low half of the first lane of a header (R189). -/
def hdrLow (p : Packet) : Nat :=
  p.dest % 2 ^ 16 + p.src % 2 ^ 16 * 2 ^ 16 + p.prio % 8 * 2 ^ 32 + bit p.cls * 2 ^ 35 + p.flow % 2 ^ 12 * 2 ^ 36
    + p.epoch % 2 * 2 ^ 48 + p.len % 32 * 2 ^ 49 + p.kind % 16 * 2 ^ 54 + bit p.poison * 2 ^ 58

/-- The header flit's 512 bits (R189). -/
def hdrBits (p : Packet) : Nat :=
  hdrLow p + hdrLow p * 2 ^ 64 + p.deadline % 2 ^ 24 * 2 ^ 128 + bit p.xdev * 2 ^ 152 + p.destDev % 64 * 2 ^ 153
    + p.srcDev % 64 * 2 ^ 159 + p.status % 16 * 2 ^ 165 + p.size % 2 ^ 11 * 2 ^ 169 + p.addr % 2 ^ 48 * 2 ^ 192
    + p.tag % 256 * 2 ^ 240 + p.user % 2 ^ 256 * 2 ^ 256

/-- The end-to-end CRC of a packet (R193): the header, then every data byte but the last four. -/
def packetCrc (p : Packet) : Nat :=
  let c := crc32On 0xFFFFFFFF (hdrBits p) 64
  let n := p.data.length
  let c := (p.data.zipIdx).foldl (fun c e => crc32On c e.1.bits (if e.2 + 1 = n then 60 else 64)) c
  c ^^^ 0xFFFFFFFF

/-- The CRC that a packet carries: bits [511:480] of its last data flit (R193). -/
def carriedCrc (p : Packet) : Nat := ((p.data.getLast?).map (fun f => f.bits / 2 ^ 480 % 2 ^ 32)).getD 0

/-- A packet with the end-to-end CRC put into its last data flit (R193). -/
def sealPacket (p : Packet) : Packet :=
  let c := packetCrc p
  let n := p.data.length
  { p with data := p.data.zipIdx.map (fun e =>
      if e.2 + 1 = n then { e.1 with bits := e.1.bits % 2 ^ 480 + c * 2 ^ 480 } else e.1) }

/-- The end-to-end check of a packet: CRC and length (R206). -/
def packetIntact (p : Packet) : Bool := decide (carriedCrc p = packetCrc p) && decide (p.data.length = p.len)

/-- READ_REQ or WRITE_REQ. -/
def isRequest (p : Packet) : Bool := decide (p.kind = 1) || decide (p.kind = 3)

/-- NOTICE or BREACH. -/
def isNoticeKind (p : Packet) : Bool := decide (p.kind = 6) || decide (p.kind = 7)

/-- Any data flit is poisoned at delivery (R207). -/
def anyPoison (p : Packet) : Bool := p.poison || p.data.any (fun f => f.poison)

/-- A word of a packet's range carries bytes of a poisoned flit (R207). -/
def wordPoison (p : Packet) (j : Nat) : Bool :=
  p.poison || p.data.zipIdx.any (fun e =>
    e.1.poison && decide (64 * e.2 < 8 * (j + 1) - p.addr % 8) && decide (8 * j < p.addr % 8 + 64 * e.2 + 64))

/-- The end-to-end check has failed and no flit is poisoned (R206). -/
def crcFails (p : Packet) : Bool := !packetIntact p && !anyPoison p

/-- The payload bytes of a packet as one number, byte 0 lowest; the last flit carries at most 60 (R191, R193). -/
def payload (p : Packet) : Nat :=
  (p.data.zipIdx).foldl (fun acc e => acc + e.1.bits % 2 ^ 512 * 2 ^ (512 * e.2)) 0 % 2 ^ (512 * p.data.length - 32)

/-- Data flits that carry n bytes of payload (R190). -/
def flitsFor (n : Nat) : Nat := max 1 ((n + 4 + 63) / 64)

/-- A payload cut into flits; every flit with the given poison. -/
def toFlits (v n : Nat) (poison : Bool) : List Flit :=
  (List.range (flitsFor n)).map (fun i => ⟨v / 2 ^ (512 * i) % 2 ^ 512, poison⟩)

/-- A zero flit. -/
def flit0 : Flit := ⟨0, false⟩

/-- The package ingress epoch (R199). -/
def State.epoch (s : State) : Nat := s.getR Reg.NOC_EPOCH_INGRESS 0

/-- A packet enters the network at an input of a router: EPOCH and CRC are the ingress's (R189, R193). -/
def State.enter (s : State) (r input : Nat) (p : Packet) : State :=
  s.modNoc (fun n => { n with net := n.net ++ [⟨sealPacket { p with epoch := s.epoch }, .router r input, false, none, 0⟩] })

/-- A packet enters at its source's router. -/
def State.inject (s : State) (p : Packet) : State := s.enter (epRtr p.src) 4 p

/-- A packet of an endpoint of a router enters there. -/
def State.injectAt (s : State) (r : Nat) (p : Packet) : State := s.enter r 4 p

/-- The response to a request with no data, or with the all-zero data of an error (R191, R192). -/
def responseTo (p : Packet) (status : Nat) : Packet :=
  { dest := p.src, src := p.dest, prio := p.prio, flow := p.flow, len := 1, kind := if p.kind = 1 then 2 else 4,
    status := status, size := p.size, addr := p.addr, tag := p.tag, xdev := p.xdev, destDev := p.srcDev, srcDev := p.destDev,
    vc := 2, data := [flit0] }

/-- A router answers a request in its endpoint's stead; a WRITE_RSP to a contract's request travels at its excess priority (R230). -/
def State.answerAt (s : State) (r : Nat) (p : Packet) (status : Nat) : State :=
  let q := responseTo p status
  s.enter r 5 { q with prio := if p.cls && decide (p.kind = 3) then s.getR Reg.THY_CT_CFG_EXCESS_PRIO p.flow else q.prio }

/-- A response of an endpoint that has served a request (R191): of a contract, a READ_RSP has the class and deadline of its request (R244), and a WRITE_RSP is best
effort at the contract's excess priority (R230). -/
def State.response (s : State) (p : Packet) (status : Nat) (data : List Flit) : Packet :=
  let ct := p.cls && decide (p.kind = 1)
  { responseTo p status with
      len := max 1 data.length, cls := ct, deadline := if ct then p.deadline else 0, vc := if ct then 0 else 2
      prio := if p.cls && !ct then s.getR Reg.THY_CT_CFG_EXCESS_PRIO p.flow else p.prio
      data := if data.isEmpty then [flit0] else data }

/-- The response to a request that has been carried out. -/
def State.served (s : State) (p : Packet) (data : List Flit) : Packet := s.response p 0 data

/-- An endpoint answers a request with a STATUS other than 0. -/
def State.answerStatus (s : State) (e : Nat) (p : Packet) (st : Nat) : State := s.injectAt (epRtr e) (s.response p st [])

/-- A request is served before another that waits (R231): a contract's in order of deadline, best effort after every contract's. -/
def servedBefore (a b : Packet) : Bool :=
  a.cls && (!b.cls || (decide (a.deadline ≠ b.deadline) && decide ((b.deadline + 2 ^ 24 - a.deadline % 2 ^ 24) % 2 ^ 24 < 2 ^ 23)))

/-- A request takes its place among those that wait. -/
def insertServe (p : Packet) : List Packet → List Packet
  | [] => [p]
  | q :: l => if servedBefore p q then p :: q :: l else q :: insertServe p l

/-- The packets at an endpoint with its requests in the order in which they are served (R231). -/
def serveOrder (l : List Packet) : List Packet :=
  l.filter (fun p => !isRequest p) ++ (l.filter isRequest).foldl (fun acc p => insertServe p acc) []

/-- USER of a NOTICE (R209), from bit 256 of the header. -/
def noticeUser (code : Nat) (p : Packet) : Nat :=
  code + p.dest % 2 ^ 16 * 2 ^ 8 + p.src % 2 ^ 16 * 2 ^ 24 + p.flow % 2 ^ 12 * 2 ^ 40 + p.kind % 16 * 2 ^ 52
    + p.tag % 256 * 2 ^ 56 + bit p.cls * 2 ^ 64

/-- A NOTICE about a packet, to an endpoint (R209, R210): none about a NOTICE or a BREACH. -/
def State.notice (s : State) (r from_ to_ code : Nat) (p : Packet) : State :=
  if isNoticeKind p then s
  else s.enter r 5 { dest := to_, src := from_, prio := 7, flow := p.flow, len := 1, kind := 7, user := noticeUser code p,
                     vc := 1, data := [flit0] }

/-! ### Network events (R219, R220) -/

/-- DETAIL of the network's events. -/
def nocDetail (p : Packet) (rport lport lane identLost cause drain : Nat := 0) : Nat :=
  p.dest % 2 ^ 16 + p.src % 2 ^ 16 * 2 ^ 16 + p.flow % 2 ^ 12 * 2 ^ 32 + bit p.cls * 2 ^ 44 + p.kind % 16 * 2 ^ 45
    + rport % 8 * 2 ^ 49 + lport % 32 * 2 ^ 52 + lane % 8 * 2 ^ 57 + identLost % 2 * 2 ^ 60 + cause % 8 * 2 ^ 61
    + drain % 2 ^ 32 * 2 ^ 64

/-- The decode error's event for a request packet (R24), raised at the router that answers. -/
def State.unmappedAt (s : State) (source : Nat) (p : Packet) : State :=
  s.raise source 0x0201 2 (p.addr % 2 ^ 48 + p.src % 2 ^ 16 * 2 ^ 48)

/-! ### Contracts (R246, R255, R256) -/

/-- A contract's state: 0 FREE, 1 LIVE, 2 SUSP_REQ, 3 SUSP_BREACH, 4 DRAINING. -/
def State.cstate (s : State) (id : Nat) : Nat := s.getR Reg.THY_CT_STAT_CSTATE id

/-- The IDs that are not FREE. -/
def State.contractIds (s : State) : List Nat := s.thy.contracts.map (fun e => e.1)

/-- THY_STAT from the contract table (R256). -/
def State.thyCount (s : State) : State :=
  let l := s.contractIds
  (s.setR Reg.THY_STAT_LIVE 0 (l.filter (fun i => decide (s.cstate i = 1))).length).setR Reg.THY_STAT_ADMITTED 0
    (l.filter (fun i => decide (s.cstate i = 1) || decide (s.cstate i = 2) || decide (s.cstate i = 3))).length

/-- Put a contract into a state. -/
def State.setCstate (s : State) (id v : Nat) : State := (s.setR Reg.THY_CT_STAT_CSTATE id v).thyCount

/-- The contracts that are not FREE and have an endpoint somewhere. -/
def State.contractsAt (s : State) (e : Nat) : List Nat :=
  s.contractIds.filter (fun i => decide (s.getR Reg.THY_CT_EP_SRC i = e) || decide (s.getR Reg.THY_CT_EP_DST i = e))

/-- The contracts in LIVE, SUSP_REQ or SUSP_BREACH with an endpoint somewhere. -/
def State.admittedAt (s : State) (e : Nat) : List Nat :=
  (s.contractsAt e).filter (fun i => decide (s.cstate i ≠ 4))

/-- A frame of 1,024 ncyc in ticks: an ncyc is 512 ticks. -/
def frameTicks : Nat := 524288

/-- The frame the network is in, counted from power-on by the NoC clock, which no step or slew moves (R195). -/
def State.nocFrame (s : State) : Nat := s.noc.clock / frameTicks

/-- The slot of the frame (R195). -/
def State.nocSlot (s : State) : Nat := s.noc.clock / 512 % 1024

/-- The data of a breach notice (R252). -/
def breachBits (flow cause dest src det deadline : Nat) (susp toDst : Bool) (count time : Nat) : Nat :=
  flow % 2 ^ 12 + cause % 16 * 2 ^ 12 + dest % 2 ^ 16 * 2 ^ 16 + src % 2 ^ 16 * 2 ^ 32 + det % 2 ^ 16 * 2 ^ 48
    + deadline % 2 ^ 24 * 2 ^ 64 + bit susp * 2 ^ 88 + bit toDst * 2 ^ 89 + count % 256 * 2 ^ 96 + time % 2 ^ 64 * 2 ^ 128

/-- The bits of a notice packet. -/
def noticeBits (p : Packet) : Nat := ((p.data.head?).map (fun f => f.bits)).getD 0

/-- The earlier of two 24-bit deadlines (R194). -/
def earlier (a b : Nat) : Nat := if (b + 2 ^ 24 - a % 2 ^ 24) % 2 ^ 24 < 2 ^ 23 then a else b

/-- A packet in the network is the notice of this detector, contract and end with this TIME (R252). -/
def sameNotice (det flow : Nat) (toDst : Bool) (time : Nat) (e : NetPkt) : Bool :=
  decide (e.pkt.kind = 6) && decide (e.pkt.src = det) && decide (e.pkt.flow = flow)
    && (nbit (noticeBits e.pkt) 89 == toDst) && decide (noticeBits e.pkt / 2 ^ 128 % 2 ^ 64 = time)

/-- The earliest of the deadlines that two detections concern: 0 of one that concerns no packet gives way (R252). -/
def noticeDeadline (a b : Nat) : Nat := if a = 0 then b % 2 ^ 24 else if b = 0 then a else earlier a b

/-- A later detection merged into a notice (R252): COUNT, the earliest DEADLINE, and whether the contract is now suspended by breach. -/
def mergeNotice (deadline : Nat) (susp : Bool) (p : Packet) : Packet :=
  let b := noticeBits p
  let count := min (b / 2 ^ 96 % 256 + 1) 255
  let dl := noticeDeadline (b / 2 ^ 64 % 2 ^ 24) deadline
  let b := b - b / 2 ^ 96 % 256 * 2 ^ 96 - b / 2 ^ 64 % 2 ^ 24 * 2 ^ 64 + count * 2 ^ 96 + dl * 2 ^ 64
  sealPacket { p with data := [⟨if susp then setBit b 88 else b, false⟩] }

/-- The place in the table of notices sent of a detector, contract and end. -/
def noticeKey (det id : Nat) (toDst : Bool) : Nat := (det * 4096 + id) * 2 + bit toDst

/-- Send one breach notice of a contract to one of its ends (R249, R252), and raise CT_BREACH where `report` says so (R257). In a frame in which the detector has sent
one already, the detection merges into that. -/
def State.breachTo (s : State) (id cause det deadline : Nat) (toDst report : Bool) : State :=
  let src := s.getR Reg.THY_CT_EP_SRC id
  let dst := s.getR Reg.THY_CT_EP_DST id
  let x := Map.get (0, 0) s.thy.sent (noticeKey det id toDst)
  if x.1 = s.nocFrame + 1 then
    s.modNoc (fun n => { n with net := n.net.map (fun e =>
      if sameNotice det id toDst x.2 e then { e with pkt := mergeNotice deadline (decide (s.cstate id = 3)) e.pkt } else e) })
  else
    let b := breachBits id cause dst src det deadline (decide (s.cstate id = 3)) toDst 0 s.time.toNat
    let t := (s.setR Reg.THY_CT_STAT_LAST_CAUSE id cause).modThy (fun y => { y with
      sent := Map.put y.sent (noticeKey det id toDst) (s.nocFrame + 1, s.time.toNat) })
    let u := t.enter (epRtr det) 5 { dest := if toDst then dst else src, src := det, prio := 7, flow := id, len := 1, kind := 6,
                                     vc := 1, data := [⟨b, false⟩] }
    if report then (u.satAdd Reg.THY_CT_STAT_BREACHES id 1).raise det 0x0303 3 (b / 2 ^ 12 % 2 ^ 100 * 2 ^ 12 + id) else u

/-- The notices of one detection (R250, R251, R257). -/
def State.breach (s : State) (id cause det deadline : Nat) (toSrc toDst : Bool) : State :=
  if s.cstate id = 0 then s
  else
    let t := if toDst then s.breachTo id cause det deadline true (!toSrc) else s
    if toSrc then t.breachTo id cause det deadline false true else t

/-- A breach cause suspends a contract (R246, R250). -/
def State.suspendBreach (s : State) (id : Nat) : State :=
  if s.cstate id = 1 then (s.setCstate id 3).pgeOutputLost id
  else if s.cstate id = 2 then s.setCstate id 3
  else s

/-! ### Routes (R197, R198) -/

/-- The dimension-order route from a router to the routers of a table entry: along the row, then along the column. -/
def dimRoute (r entry : Nat) : Nat :=
  if rtrCol entry > rtrCol r then 2
  else if rtrCol entry < rtrCol r then 4
  else if rtrRow entry > rtrRow r then 3
  else if rtrRow entry < rtrRow r then 1
  else 0

/-- The place of a route-table entry: router, bank, entry. -/
def routeKey (r bank entry : Nat) : Nat := (r * 2 + bank) * 384 + entry

/-- A route-table entry as it acts: 0 LOCAL, 1 N, 2 E, 3 S, 4 W, 15 UNREACHABLE. -/
def State.route (s : State) (r bank entry : Nat) : Nat :=
  let v := Map.get (dimRoute r entry) s.noc.routes (routeKey r bank entry)
  if v ≤ 4 then v else 15

/-- The table entry of a destination endpoint. -/
def destEntry (dest : Nat) : Nat := epBd dest * 96 + epRouter dest

/-- Where a header leaves a router: none where it is unreachable (R200), some 4 for LOCAL, else the mesh port. -/
def State.nextHop (s : State) (r bank dest : Nat) : Option Nat :=
  if epRouter dest ≥ 96 then none
  else
    let v := s.route r bank (destEntry dest)
    if v = 15 then none
    else if v = 0 then
      (if attached (r / 96) (r % 96) (epPort dest) = .unassigned then none else some 4)
    else match neighbour r (v - 1) with
      | none => none
      | some q =>
        if isLateral r (v - 1) && (decide (s.latState r (v - 1) = 2) || s.domOff (32 + q / 96)) then none else some (v - 1)

/-! ### Ports (R211) -/

/-- The state of an endpoint's local port: 0 OPEN, 1 CLOSING, 2 OFF, 3 CLOSED. -/
def State.portState (s : State) (e : Nat) : Nat := s.getR Reg.NOC_PSTATE (portIx e)

/-- A deadline is met at the present time (R194). -/
def State.meets (s : State) (deadline : Nat) : Bool :=
  decide ((deadline + 2 ^ 24 - s.time.toNat / 65536 % 2 ^ 24) % 2 ^ 24 < 2 ^ 23)

end Sys2Proof.Machine
end

