-- ==== Sys2Proof/Machine/Router.lean ====
section
/-!
DEFINITION. The routers: what a router does with a packet it receives, wake buffers, route epochs (R195 to R218).
-/

namespace Sys2Proof.Machine

/-- The port counters' element: router × 5 + port. -/
def pcIx (r port : Nat) : Nat := r * 5 + port

/-- The source of a router's events: its port 31. -/
def rtrSrc (r : Nat) : Nat := rtrEp r 31

/-- The flits of a packet. -/
def flits (p : Packet) : Nat := p.len + 1

/-- Count a packet's flits at an output port (R223). -/
def State.countFlits (s : State) (r port : Nat) (p : Packet) : State :=
  if p.vc = 0 then s.wrapAdd Reg.NOC_FLITS_CT_COUNT (pcIx r port) (flits p)
  else if p.vc = 1 then s.wrapAdd Reg.NOC_FLITS_BG_COUNT (pcIx r port) (flits p)
  else s.wrapAdd Reg.NOC_FLITS_BE_COUNT (pcIx r port) (flits p)

/-- Replace one lane of a flit. -/
def setLane (bits lane v : Nat) : Nat := bits - bits / 2 ^ (64 * lane) % 2 ^ 64 * 2 ^ (64 * lane) + v * 2 ^ (64 * lane)

/-- The port whose counters an input has: the router's own packets count with the local ports (R223). -/
def countPort (input : Nat) : Nat := min input 4

/-- How many of the three wires of a control-field bit of a flit are wrong (R182). -/
def wrongWires (f : HopFault) (flit bit : Nat) : Nat :=
  ((f.wires.filter (fun w => decide (w.1 = flit) && decide (w.2.1 = bit))).map (fun w => w.2.2 % 3)).dedup.length

/-- The control-field bits of a packet's flits, as (flit, bit), for which a test on the count of wrong wires holds. -/
def wiresWith (p : Packet) (f : HopFault) (t : Nat → Bool) : List (Nat × Nat) :=
  (f.wires.map (fun w => (w.1, w.2.1))).dedup.filter (fun w => decide (w.1 ≤ p.data.length) && decide (w.2 < 5) && t (wrongWires f w.1 w.2))

/-- The majority gives a control-field bit wrongly (R182). -/
def flippedBits (p : Packet) (f : HopFault) : List (Nat × Nat) := wiresWith p f (fun n => decide (2 ≤ n))

/-- The lanes of the flits that a packet has, of a list of (flit, lane). -/
def lanesOf (p : Packet) (l : List (Nat × Nat)) : List (Nat × Nat) := l.filter (fun e => decide (e.1 ≤ p.data.length) && decide (e.2 < 8))

/-- The corrections of R201: every lane with one wrong bit, every control-field bit whose wires disagree; each counts and is reported. -/
def State.hopCe (s : State) (r input : Nat) (p : Packet) (f : HopFault) : State :=
  let lanes := (lanesOf p f.ce).map (fun e => e.2) ++ (wiresWith p f (fun n => decide (n = 1) || decide (n = 2))).map (fun _ => 0)
  lanes.foldl (fun t k =>
    (t.satAdd Reg.NOC_PERR_CE (pcIx r (countPort input)) 1).raise (rtrSrc r) 0x0202 1 (nocDetail p (countPort input) 0 k)) s

/-- An uncorrectable lane of a data flit (R202): the flit is poisoned, and its bits in that lane are as received, which is open. -/
def State.poisonLane (s : State) (r input : Nat) (p : Packet) (e : Nat × Nat) : Packet × State :=
  let v := (Config.freeWord s.free).toNat
  let q := { p with data := p.data.zipIdx.map (fun f =>
    if f.2 = e.1 then (⟨setLane f.1.bits (e.2 % 8) v, true⟩ : Flit) else f.1) }
  (q, s.draw.raise (rtrSrc r) 0x0203 4 (nocDetail p (countPort input) 0 (e.2 % 8)))

/-- The data flits' checks of R201 and R202: UE counts the flits that are poisoned, the event names each lane. What no check sees stays as it is. -/
def State.hopChecks (s : State) (r input : Nat) (p : Packet) (f : HopFault) : Packet × State :=
  let bad := f.dataUe.filter (fun e => decide (e.1 < p.data.length) && decide (e.2 < 8))
  let flips := flippedBits p f
  let t := if bad.isEmpty then s else s.satAdd Reg.NOC_PERR_UE (pcIx r (countPort input)) ((bad.map (fun e => e.1)).dedup.length)
  let q := { p with data := p.data.zipIdx.map (fun d =>
    let a := (f.silent.filter (fun x => decide (x.1 = d.2))).foldl (fun (a : Flit) x => { a with bits := (a.bits ^^^ x.2) % 2 ^ 512 }) d.1
    if flips.contains (d.2 + 1, 4) then { a with poison := !a.poison } else a) }
  bad.foldl (fun acc e => acc.2.poisonLane r input acc.1 e) (q, t)

/-- A packet breaks the order of flits (R205): LEN 0, VC 3, a header before its last flit, or a control field whose VC or FTYPE comes wrong. -/
def seqError (p : Packet) (f : HopFault) : Bool :=
  f.cut || decide (p.len = 0) || decide (p.vc = 3) || (flippedBits p f).any (fun w => decide (w.2 < 4))

/-- The contract that owns a slot on an output port (R228). -/
def State.slotOwner (s : State) (port slot : Nat) : Option Nat :=
  (s.thy.contracts.find? (fun e => (e.2.own ++ e.2.old).any (fun o => decide (o.port = port) && o.data.contains slot))).map (fun e => e.1)

/-- The output port number Thyme uses: mesh ports 0 to 3, local port p at 8 + p. -/
def outPort (r port : Nat) : Nat := r * 64 + port

/-- The flow that owns the slot of the upstream port in which a header arrived (R204). -/
def State.upstreamFlow (s : State) (r input slot : Nat) : Option Nat :=
  match neighbour r input with
  | some q => if input < 4 then s.slotOwner (outPort q (opposite input)) slot else none
  | none => none

/-- A dropped header's reports (R203, R205). The deadline stands in lane 2. -/
def State.dropReports (s : State) (r : Nat) (p : Packet) (noDeadline : Bool) : State :=
  let t := if isNoticeKind p then s
    else
      let u := s.notice r (rtrSrc r) p.dest 1 p
      if isRequest p then u.answerAt r p 6 else u.notice r (rtrSrc r) p.src 1 p
  if p.cls then t.breach p.flow 1 (rtrSrc r) (if noDeadline then 0 else p.deadline) true true else t

/-- A header is dropped at a router's input, with `bad` its uncorrectable lanes; without lanes 0 and 1 a CT packet's flow comes from the slot map (R203 to R205). -/
def State.dropHeader (s : State) (r input : Nat) (e : NetPkt) (bad : List Nat) : State :=
  let p := e.pkt
  let t := s.satAdd Reg.NOC_PERR_HDR (pcIx r (countPort input)) 1
  let lane := (bad.foldl (fun m k => min m k) 8) % 8
  if bad.contains 0 && bad.contains 1 then
    let flow := if p.vc = 0 then s.upstreamFlow r input e.slot else none
    let shown : Packet := { dest := 0, src := 0, flow := flow.getD 0, cls := decide (p.vc = 0), len := 1, kind := 0, data := [] }
    let t := t.raise (rtrSrc r) 0x0204 4 (nocDetail shown (countPort input) 0 lane 1)
    match flow with
    | some id => t.breach id 1 (rtrSrc r) 0 true true
    | none => t
  else (t.raise (rtrSrc r) 0x0204 4 (nocDetail p (countPort input) 0 lane)).dropReports r p (bad.contains 2)

/-- An unreachable header (R200). -/
def State.unreachable (s : State) (r : Nat) (p : Packet) : State :=
  let t := s.raise (rtrSrc r) 0x0206 2 (nocDetail p)
  let t := if isRequest p then t.answerAt r p 5 else t.notice r (rtrSrc r) p.src 4 p
  if p.cls then t.breach p.flow 2 (rtrSrc r) p.deadline true true else t

/-- A packet for a CLOSED port, or a contract packet for an OFF port (R215). -/
def State.closedPort (s : State) (r : Nat) (p : Packet) (off : Bool) : State :=
  let ev := fun (t : State) => t.raise (rtrSrc r) 0x0207 2 (nocDetail p 4 (epPort p.dest))
  if p.cls then
    let t := if isRequest p then
        (if off then (ev s).answerAt r p 3 else ((ev (s.unmappedAt (rtrSrc r) p)).answerAt r p 1))
      else ev s
    t.breach p.flow (if off then 4 else 3) (rtrSrc r) p.deadline true false
  else if isRequest p then (s.unmappedAt (rtrSrc r) p).answerAt r p 1
  else (ev s).notice r (rtrSrc r) p.src 3 p

/-- A held or refused packet is answered (R214). -/
def State.wakeAnswer (s : State) (r : Nat) (p : Packet) : State :=
  if isRequest p then s.answerAt r p 3 else s.notice r (rtrSrc r) p.src 2 p

/-- An arrival for a port whose wake is refused is answered at once in the same way, its event included (R214, R218). -/
def State.refuseWake (s : State) (r : Nat) (p : Packet) (port cause : Nat) : State :=
  (s.wakeAnswer r p).raise (rtrSrc r) 0x0209 4 (nocDetail p 4 port 0 0 cause)

/-- The wake buffer of a router (R212). -/
def State.wakeBuf (s : State) (r : Nat) : List Packet := Map.get [] s.noc.wake r

/-- Put the wake buffer of a router, and what NOC_WAKE shows of it. -/
def State.putWake (s : State) (r : Nat) (l : List Packet) : State :=
  ((s.modNoc (fun n => { n with wake := Map.set [] n.wake r l })).setR Reg.NOC_WAKE_OCC r ((l.map flits).sum)).setR
    Reg.NOC_WAKE_PKTS r l.length

/-- The wake buffer has room for a packet (R212). -/
def State.wakeFits (s : State) (r : Nat) (p : Packet) : Bool :=
  decide (((s.wakeBuf r).map flits).sum + flits p ≤ 64)

/-- The held packets of a router for a port. -/
def heldFor (l : List Packet) (port : Nat) : List Packet := l.filter (fun p => decide (epPort p.dest = port))

/-- The packets held for other ports. -/
def heldOther (l : List Packet) (port : Nat) : List Packet := l.filter (fun p => !decide (epPort p.dest = port))

/-- A BE or BG packet moves into the wake buffer; the first for a domain requests its power, and is one wake of the router (R212). -/
def State.wakeHold (s : State) (r : Nat) (p : Packet) : State :=
  let e := rtrEp r (epPort p.dest)
  let t := s.putWake r (s.wakeBuf r ++ [p])
  let asked := (List.range 32).any (fun q => decide (epDomain (rtrEp r q) = epDomain e) && s.flag Reg.WAKE_REQ (portIx (rtrEp r q)))
  if s.flag Reg.WAKE_REQ (portIx e) || decide (s.portState e = 0) then t
  else if asked then t.setR Reg.WAKE_REQ (portIx e) 1
  else (((t.setR Reg.WAKE_REQ (portIx e) 1).netWake (epDomain e)).wrapAdd Reg.NOC_WAKE_WAKES r 1).raise (rtrSrc r) 0x0208 0
    (nocDetail p 4 (epPort p.dest))

/-- Remove packet n from the network. -/
def State.dropPkt (s : State) (n : Nat) : State := s.modNoc (fun c => { c with net := c.net.eraseIdx n })

/-- Replace packet n of the network. -/
def State.setPkt (s : State) (n : Nat) (e : NetPkt) : State := s.modNoc (fun c => { c with net := c.net.set n e })

/-! ### Slots, credits and the choice of an output port (R183, R196, R239, R253) -/

/-- A slot that stays usable in fold mode (R239). -/
def foldSafe (slot : Nat) : Bool := decide (slot % 2 = 0) && decide (slot % 16 ≠ 6) && decide (slot % 16 ≠ 14)

/-- A fold port: lateral, or a local port that serves a NAP (R239). -/
def foldPort (port : Nat) : Bool :=
  if port % 64 < 4 then isLateral (port / 64) (port % 64) else decide (8 ≤ port % 64) && decide (port % 64 < 16)

/-- The link of a fold port is in fold mode. -/
def State.portFolded (s : State) (port : Nat) : Bool :=
  if port % 64 < 4 then isLateral (port / 64) (port % 64) && decide (s.latState (port / 64) (port % 64) = 1)
  else foldPort port && decide (s.getR Reg.DLK_NAPST (napstIx (epRegion (rtrEp (port / 64) (port % 64 - 8)))) = 1)

/-- A contract with nothing in it. -/
def contract0 : Contract := ⟨[], [], [], 0, 0, 0, 0, 0⟩

/-- A contract's parts. -/
def State.contract (s : State) (id : Nat) : Contract := (Map.find s.thy.contracts id).getD contract0

/-- A contract holds a slot on a port that is not fold-safe. -/
def exposedOn (c : Contract) (port : Nat) : Bool :=
  (c.own ++ c.old).any (fun o => decide (o.port = port) && o.data.any (fun x => !foldSafe x))

/-- A CLASS 1 packet of a fold-exposed contract that is to enter a folded link is dropped (R253). -/
def State.foldDrops (s : State) (port : Nat) (p : Packet) : Bool :=
  p.cls && s.portFolded port && exposedOn (s.contract p.flow) port

/-- The flits that an input buffer of a router holds for a VC. -/
def State.bufferedFlits (s : State) (r input vc : Nat) : Nat :=
  ((s.noc.net.filter (fun x => decide (x.place = .router r input) && decide (x.pkt.vc = vc))).map (fun x => flits x.pkt)).sum

/-- A packet fits a queue of a depth; one that is longer than the depth passes through an empty queue flit by flit. -/
def fitsQueue (held depth n : Nat) : Bool := decide (held = 0) || decide (held + n ≤ depth)

/-- The depth of an endpoint's receive DCQ in flits (R95), where it has one. -/
def rxDepth (e : Nat) : Option Nat :=
  match kindOf e with
  | .nap _ | .lpx _ | .pcie => some 32
  | .pge _ | .fce _ | .failMem _ | .mspGroup _ | .core _ | .sage => some 16
  | .dusk => some 4
  | _ => none

/-- An endpoint's receive queue has room for a packet (R97, R165, R249): a contract packet for a NAP needs none, and a BREACH has entries of its own. -/
def State.rxRoom (s : State) (e : Nat) (p : Packet) : Bool :=
  match rxDepth e with
  | none => true
  | some d =>
    decide (p.kind = 6) || (p.cls && decide (epPort e < 8))
      || fitsQueue (((s.noc.net.filter (fun x => decide (x.place = .port e))).map (fun x => flits x.pkt)).sum
          + ((Map.get [] s.noc.inbox e).map flits).sum) d (flits p)

/-- An output port holds the credits for a packet (R183): 8 flits of CT and BG, 32 of BE. -/
def State.credit (s : State) (r out lport : Nat) (p : Packet) : Bool :=
  if out = 4 then s.rxRoom (rtrEp r lport) p
  else match neighbour r out with
    | some q => fitsQueue (s.bufferedFlits q (opposite out) p.vc) (if p.vc = 2 then 32 else 8) (flits p)
    | none => false

/-- The port of a router that an output is to Thyme: a mesh port, or a local port. -/
def outNo (out lport : Nat) : Nat := if out = 4 then 8 + lport else out

/-- A packet has been received and leaves by an output port. -/
def leavesBy (r out lport : Nat) (x : NetPkt) : Bool :=
  (match x.place with
  | .router q _ => decide (q = r)
  | .port _ => false) && decide (x.out = some out) && (decide (out ≠ 4) || decide (epPort x.pkt.dest = lport))

/-- Two packets wait in one queue of a router: an input's buffer of a VC, or an endpoint's way in. -/
def sameQueue (a b : NetPkt) : Bool :=
  decide (a.place = b.place) && decide (a.pkt.vc = b.pkt.vc)
    && (match a.place with
      | .router _ i => decide (i ≠ 4) || decide (a.pkt.src = b.pkt.src)
      | .port _ => true)

/-- The input that a packet came by, for the turns of R196: mesh ports 0 to 3, local port p at 4 + p. -/
def turnInput (x : NetPkt) : Nat :=
  match x.place with
  | .router _ i => if i < 4 then i else if i = 4 then 4 + epPort x.pkt.src else 36
  | .port _ => 37

/-- The packets at the heads of their queues that an output port may send now: received, and with credit; each with its place in the network. -/
def State.candidates (s : State) (r out lport : Nat) : List (NetPkt × Nat) :=
  s.noc.net.zipIdx.filter (fun e => leavesBy r out lport e.1 && s.credit r out lport e.1.pkt
    && !((s.noc.net.take e.2).any (fun x => sameQueue x e.1)))

/-- Round robin (R196): of candidates, the one whose input comes first after the input served last. -/
def roundRobin (last : Nat) (l : List (NetPkt × Nat)) : Option (NetPkt × Nat) :=
  l.foldl (fun best e => match best with
    | none => some e
    | some b => if (turnInput e.1 + 39 - last) % 40 < (turnInput b.1 + 39 - last) % 40 then some e else some b) none

/-- The candidates of a VC. -/
def ofVc (vc : Nat) (l : List (NetPkt × Nat)) : List (NetPkt × Nat) := l.filter (fun e => decide (e.1.pkt.vc = vc))

/-- The candidates of the highest PRIO among some. -/
def topPrio (l : List (NetPkt × Nat)) : List (NetPkt × Nat) :=
  l.filter (fun e => l.all (fun f => decide (f.1.pkt.prio ≤ e.1.pkt.prio)))

/-- The BG candidates, breach notices ahead of every other (R249). -/
def bgFirst (l : List (NetPkt × Nat)) : List (NetPkt × Nat) :=
  let b := ofVc 1 l
  if b.any (fun e => decide (e.1.pkt.kind = 6)) then b.filter (fun e => decide (e.1.pkt.kind = 6)) else b

/-- The candidates of the flow that owns a slot (R196 step 1): its data packets in its data slots, its notices in its notice slots (R249). -/
def State.ownedBy (s : State) (port slot : Nat) (l : List (NetPkt × Nat)) : List (NetPkt × Nat) :=
  l.filter (fun e =>
    let c := s.contract e.1.pkt.flow
    let here := (c.own ++ c.old).filter (fun o => decide (o.port = port))
    (decide (e.1.pkt.vc = 0) && here.any (fun o => o.data.contains slot))
      || (decide (e.1.pkt.kind = 6) && here.any (fun o => o.notice.contains slot)))

/-- The kind of a slot: 0 contract, 1 BE-reserved, 2 BG; they move in fold mode (R195, R253). -/
def slotKind (folded : Bool) (slot : Nat) : Nat :=
  if slot % 16 = (if folded then 14 else 15) then 2 else if slot % 16 = (if folded then 6 else 7) then 1 else 0

/-- The place of an output port's record of turns: of a kind of turn 0 to 11 the input served last; 12 + VC, the ncyc from which the port has sent the
last flit of that VC's packet; 15, the ncyc of its last turn plus 1. -/
def turnKey (port k : Nat) : Nat := port * 16 + k

/-- The NoC clock in ncyc. -/
def State.ncyc (s : State) : Nat := s.noc.clock / 512

/-- An output port may begin a packet of a VC: in no ncyc does it send more than one flit (R196), and the flits of two packets of one VC do not
mix (R183). -/
def State.vcFree (s : State) (port vc : Nat) : Bool :=
  decide (Map.get 0 s.noc.turns (turnKey port 15) ≠ s.ncyc + 1) && decide (Map.get 0 s.noc.turns (turnKey port (12 + vc)) ≤ s.ncyc)

/-- The turn an output port takes: the kind of turn (0 BE-reserved, 1 + PRIO, 9 CT, 10 BG, 11 the slot's owner), and the packet chosen (R196). -/
def State.choose (s : State) (r out lport : Nat) : Option (Nat × NetPkt × Nat) :=
  let port := outPort r (outNo out lport)
  let folded := s.portFolded port
  let l := (s.candidates r out lport).filter (fun e => s.vcFree port e.1.pkt.vc)
  let last := fun k => Map.get 0 s.noc.turns (turnKey port k)
  let turn := fun k (c : List (NetPkt × Nat)) => (roundRobin (last k) c).map (fun e => (k, e.1, e.2))
  let kind := slotKind folded s.nocSlot
  let be := ofVc 2 l
  let top := topPrio be
  let beTurn := if kind = 1 then turn 0 be else turn (1 + ((top.head?).map (fun e => e.1.pkt.prio)).getD 0) top
  if folded && decide (s.nocSlot % 2 = 1) then none
  else ((((if kind = 0 then turn 11 (s.ownedBy port s.nocSlot l) else none).or
    (if kind = 2 then turn 10 (bgFirst l) else none)).or beTurn).or (turn 10 (bgFirst l))).or (turn 9 (ofVc 0 l))

/-- A packet whose header a router forwards after its deadline has passed is reported by the first such router (R250, cause 6). -/
def State.lateCheck (s : State) (r : Nat) (e : NetPkt) : NetPkt × State :=
  if e.pkt.cls && !e.late && !s.meets e.pkt.deadline then
    ({ e with late := true }, s.breach e.pkt.flow 6 (rtrSrc r) e.pkt.deadline true true)
  else (e, s)

/-- A packet leaves a router by an output port: it stands last before the next router, or in the receive queue of its endpoint. -/
def State.send (s : State) (n r out lport : Nat) (e : NetPkt) : State :=
  let c := (s.dropPkt n).lateCheck r e
  let place := if out = 4 then Place.port (rtrEp r lport) else
    match neighbour r out with
    | some q => Place.router q (opposite out)
    | none => e.place
  (c.2.countFlits r out e.pkt).modNoc (fun x => { x with net := x.net ++ [{ c.1 with place := place, out := none, slot := s.nocSlot }] })

/-- The packets that the wake buffer holds for a port go to it in order of arrival, as far as its receive queue has room (R97, R212). -/
def State.drainWake (s : State) (r port : Nat) : State :=
  let e := rtrEp r port
  let t := (s.putWake r (heldOther (s.wakeBuf r) port)).setR Reg.WAKE_REQ (portIx e) 0
  (heldFor (s.wakeBuf r) port).foldl (fun u p =>
    if (heldFor (u.wakeBuf r) port).isEmpty && u.rxRoom e p then
      (u.countFlits r 4 p).modNoc (fun n => { n with net := n.net ++ [⟨p, .port e, false, none, 0⟩] })
    else u.putWake r (u.wakeBuf r ++ [p])) t

/-- An OPEN local port first takes what the wake buffer holds for it (R212). -/
def State.portHeld (s : State) (r out lport : Nat) : State :=
  if out = 4 ∧ s.portState (rtrEp r lport) = 0 ∧ (heldFor (s.wakeBuf r) lport).isEmpty = false then s.drainWake r lport else s

/-- An output port sends the packet it chooses in the present slot (R196); nothing passes a packet that the wake buffer still holds for it (R212). -/
def State.outputTurn (u : State) (r out lport : Nat) : State :=
  let s := u.portHeld r out lport
  if out = 4 ∧ (heldFor (s.wakeBuf r) lport).isEmpty = false then s
  else match s.choose r out lport with
  | none => s
  | some (k, e, n) =>
    let port := outPort r (outNo out lport)
    let took := fun (m : Map Nat) => Map.set 0 m (turnKey port k) (turnInput e)
    if s.foldDrops port e.pkt then
      ((s.modNoc (fun x => { x with turns := took x.turns })).dropPkt n).breach e.pkt.flow 7 (rtrSrc r) e.pkt.deadline true true
    else
      (s.modNoc (fun x => { x with
        turns := Map.set 0 (Map.set 0 (took x.turns) (turnKey port (12 + e.pkt.vc)) (s.ncyc + flits e.pkt)) (turnKey port 15) (s.ncyc + 1) })).send
        n r out lport e

/-! ### A packet at a router -/

/-- A received packet waits for its output port. -/
def State.await (s : State) (n r out : Nat) (e : NetPkt) : State :=
  (s.setPkt n { e with out := some out }).outputTurn r out (epPort e.pkt.dest)

/-- A packet whose route ends at this router meets the local port in DEST (R197, R211 to R218). -/
def State.atPort (s : State) (n r : Nat) (e : NetPkt) : State :=
  let p := e.pkt
  let lp := epPort p.dest
  let me := rtrEp r lp
  let i := portIx me
  let st := s.portState me
  if lp = 31 then s.await n r 4 e
  else if st = 0 then
    let s := s.portHeld r 4 lp
    if !p.cls && !(heldFor (s.wakeBuf r) lp).isEmpty && s.wakeFits r p then (s.dropPkt n).wakeHold r p
    else s.await n r 4 e
  else if st = 1 then
    if s.flag Reg.PORT_FORCED i then
      (if p.cls then (s.dropPkt n).closedPort r p true else (s.dropPkt n).refuseWake r p lp 2)
    else (((s.pwAbort (epDomain me)).raise (rtrSrc r) 0x020A 0 (nocDetail p 4 lp))).await n r 4 e
  else if st = 2 then
    let s := s.pwLate (epDomain me)
    if p.cls then (s.dropPkt n).closedPort r p true
    else if s.refusing me ≠ 0 then (s.dropPkt n).refuseWake r p lp (s.refusing me)
    else if s.wakeFits r p then (s.dropPkt n).wakeHold r p
    else s.setPkt n { e with out := some 4 }
  else (s.dropPkt n).closedPort r p false

/-- Where a breach notice toward the end at which a leg starts leaves a router: backwards over the leg's link (R249), unless a leg that ends there
leaves from the router. -/
def State.reverseHop (s : State) (r : Nat) (p : Packet) : Option Nat :=
  let c := s.contract p.flow
  let ends := fun (i : Nat) (atStart : Bool) =>
    if decide (i = 0) == atStart then s.getR Reg.THY_CT_EP_SRC p.flow else s.getR Reg.THY_CT_EP_DST p.flow
  if c.legs.zipIdx.any (fun l => decide (ends l.2 false = p.dest) && l.1.any (fun h => decide (h / 64 = r))) then none
  else ((c.legs.zipIdx.filter (fun l => decide (ends l.2 true = p.dest))).flatMap (fun l => l.1)).findSome? (fun h =>
    if h % 64 < 4 ∧ neighbour (h / 64) (h % 64) = some r ∧ (isLateral r (opposite (h % 64)) = false ∨ s.latState r (opposite (h % 64)) ≠ 2)
    then some (opposite (h % 64)) else none)

/-- Where a packet leaves a router: by its epoch's table (R197), a breach notice by the reverse of its leg (R249). -/
def State.hopOf (s : State) (r : Nat) (p : Packet) : Option Nat :=
  match (if p.kind = 6 then s.reverseHop r p else none) with
  | some d => some d
  | none => s.nextHop r p.epoch p.dest

/-- A router routes a packet that it has received (R197, R249). -/
def State.forward (s : State) (n r : Nat) (e : NetPkt) : State :=
  match s.hopOf r e.pkt with
  | none => (s.dropPkt n).unreachable r e.pkt
  | some d => if d = 4 then s.atPort n r e else s.await n r d e

/-- A router takes no new header from an endpoint whose port closes or is OFF (R216). -/
def State.closingSource (s : State) (r input : Nat) (p : Packet) : Bool :=
  decide (input = 4) && decide (epRtr p.src = r) && (decide (s.portState p.src = 1) || decide (s.portState p.src = 2))

/-- ROUTER_PACKET_RECEIVE (R181 to R183, R196 to R205): packet n of the network is received by the router it stands before, checked and routed, and its output port
takes its turn. A packet received earlier that still waits tries again. -/
def execRouterPacketReceive (n : Nat) (fault : HopFault) (s : State) : Result :=
  match s.noc.net[n]? with
  | none => .next s
  | some e =>
    match e.place with
    | .port _ => .next s
    | .router r input =>
      if e.out.isSome then .next (s.forward n r e)
      else if s.closingSource r input e.pkt then .next s
      else
        let t := s.hopCe r input e.pkt fault
        let bad := fault.hdrUe.filter (fun k => decide (k < 8))
        if !bad.isEmpty || seqError e.pkt fault then .next ((t.dropPkt n).dropHeader r input e bad)
        else
          let c := t.hopChecks r input e.pkt fault
          .next ((c.2.setPkt n { e with pkt := c.1 }).forward n r { e with pkt := c.1 })

/-- WAKE_BUFFER_DRAIN (R212): the port is OPEN; its held packets go to it in order of arrival, ahead of later ones. -/
def execWakeBufferDrain (router : Fin 384) (port : Fin 32) (s : State) : Result :=
  s.when (decide (s.portState (rtrEp router port) = 0)) (s.drainWake router port)

/-- A wake fails (R214): every held packet is answered. -/
def State.wakeFail (s : State) (router port cause : Nat) : State :=
  let e := rtrEp router port
  let held := heldFor (s.wakeBuf router) port
  let t := (s.putWake router (heldOther (s.wakeBuf router) port)).setR Reg.WAKE_REQ (portIx e) 0
  let t := held.foldl (fun u p => u.wakeAnswer router p) t
  t.raise (rtrSrc router) 0x0209 4
    (nocDetail (held.headD { dest := e, src := 0, len := 1, kind := 0, data := [] }) 4 port 0 0 cause)

/-- NOC_WAKE_TIMEOUT (R214). -/
def execNocWakeTimeout (router : Fin 384) (port : Fin 32) (s : State) : Result :=
  s.when (s.flag Reg.WAKE_REQ (portIx (rtrEp router port)) && decide (s.portState (rtrEp router port) ≠ 0))
    (s.wakeFail router port 1)

/-- NOC_WAKE_REFUSED (R214): the domain is forced off, or the thermal state forbids its wake; while the power controller refuses, arrivals are answered at once. -/
def execNocWakeRefused (router : Fin 384) (port : Fin 32) (thermal : Bool) (s : State) : Result :=
  let e := rtrEp router port
  let i := portIx e
  s.when (decide (s.portState e = 2) && (if thermal then s.thermal else s.forced (epDomain e)))
    ((s.wakeFail router port (if thermal then 3 else 2)).setR Reg.PORT_REFUSE i (if thermal then 3 else 2))

end Sys2Proof.Machine
end

