-- ==== Sys2Proof/Machine/Dcl.lean ====
section
/-!
DEFINITION. Lanes, raw lanes, and the bring-up, latency and time of DCL links (R294 to R328, R336 to R341). A link is numbered by its lane
less 16; links exist on lanes 16 to 159.
-/

namespace Sys2Proof.Machine

/-! ### Lanes (R294 to R305) -/

/-- The endpoint of the DCL engine of a quad (R185, R294). -/
def quadEp (q : Nat) : Nat := ep (q / 10) (12 * (q % 10 % 8) + 11 - q % 10 / 8) 8

/-- The source of a lane's events: its DCL engine, or the per-BD window's endpoint for a quad without one (R341). -/
def laneSrc (lane : Nat) : Nat := if lane < 16 then bdWinEp 0 else quadEp (lane / 4)

/-- DETAIL of the lane and DCL events (R341). -/
def laneDetail (lane : Nat) (stream rcause rate target value latRx : Nat := 0) : Nat :=
  lane % 256 + stream % 4096 * 2 ^ 8 + rcause % 8 * 2 ^ 20 + rate % 16 * 2 ^ 24 + target % 16 * 2 ^ 28
    + value % 2 ^ 32 * 2 ^ 32 + latRx % 2 ^ 32 * 2 ^ 64

/-- A MODE and RATE within the table of R295. -/
def laneLegal (lane mode rate : Nat) : Bool :=
  if mode = 0 || mode = 6 || mode = 7 then true
  else if mode = 1 then decide (16 ≤ lane)
  else if mode = 2 then decide (rate ≤ 12)
  else if mode = 3 then decide (rate ≤ 7)
  else if mode = 4 then decide (5 ≤ rate) && decide (rate ≤ 10)
  else decide (lane < 16)

/-- A link that has never been enabled. -/
def link0 : Link := ⟨4, 0, 0, 0, [], 0, 0, 0, false, false, false, false, false, none, false, [], 0, 0, (0, 0), (0, 0), 0, 0, 0, none, false, 0, 0, 0, none, 0, 0, [],
  0, []⟩

/-- A link's parts. -/
def State.link (s : State) (l : Nat) : Link := Map.get link0 s.lanes.links l

/-- Change a link's parts. -/
def State.modLink (s : State) (l : Nat) (f : Link → Link) : State :=
  s.modLanes (fun n => { n with links := Map.set link0 n.links l (f (s.link l)) })

/-- LSTATE of a link: 0 DISABLED, 1 DETECT, 2 CAPX, 3 STEP, 4 EQTRAIN, 5 LATMEAS, 6 UP, 7 FAILED. -/
def State.lstate (s : State) (l : Nat) : Nat := s.getR Reg.DCL_STAT_LSTATE l

/-- A lane is off (R296): MODE 0, or 6 or 7 which act as 0, or a setting outside the table. -/
def State.laneOff (s : State) (lane : Nat) : Bool :=
  let m := s.getR Reg.LNE_CFG_MODE lane
  decide (m = 0) || decide (6 ≤ m) || !laneLegal lane m (s.getR Reg.LNE_CFG_RATE lane)

/-- LNE_CFG_WRITE (R296): MODE and RATE of a lane; while the lane is in use any write of them is ignored, one of the values they hold too. -/
def execLneCfgWrite (lane : Fin 160) (mode : BitVec 3) (rate : BitVec 4) (s : State) : Result :=
  let s := s.touchLane lane
  let busy := !s.laneOff lane || (decide (16 ≤ lane.val) && decide (s.lstate (lane - 16) ≠ 0))
  if busy then
    .next (s.setR Reg.LNE_CFG_CFG_REJ lane 1)
  else
    let t := (s.setR Reg.LNE_CFG_MODE lane mode.toNat).setR Reg.LNE_CFG_RATE lane rate.toNat
    if laneLegal lane mode.toNat rate.toNat then
      .next (if 2 ≤ mode.toNat ∧ mode.toNat ≤ 4 then t.setR Reg.LNE_STAT_RATE_NOW lane rate.toNat else t)
    else .next (t.setR Reg.LNE_CFG_CFG_REJ lane 1)

/-! ### Streams (R326 to R328, R336) -/

/-- The stream index and valid bit of a map slot: transmit (dir 0) or receive (dir 1). -/
def State.mapSlot (s : State) (l dir slot : Nat) : Option Nat :=
  let i := l * 32 + slot / 2
  if dir = 0 then
    if slot % 2 = 0 then (if s.flag Reg.DCL_TXMAP_V0 i then some (s.getR Reg.DCL_TXMAP_S0 i) else none)
    else (if s.flag Reg.DCL_TXMAP_V1 i then some (s.getR Reg.DCL_TXMAP_S1 i) else none)
  else
    if slot % 2 = 0 then (if s.flag Reg.DCL_RXMAP_V0 i then some (s.getR Reg.DCL_RXMAP_S0 i) else none)
    else (if s.flag Reg.DCL_RXMAP_V1 i then some (s.getR Reg.DCL_RXMAP_S1 i) else none)

/-- The link of a stream, where its lane has one. -/
def State.streamLink (s : State) (n : Nat) : Option Nat :=
  let lane := s.getR Reg.DCL_STR_CFG_LANE n
  if 16 ≤ lane ∧ lane < 160 then some (lane - 16) else none

/-- NSLOTS of a stream (R327). -/
def State.nslots (s : State) (n : Nat) : Nat :=
  match s.streamLink n with
  | some l =>
    if s.flag Reg.DCL_STR_CFG_EN n then
      ((List.range 64).filter (fun k => decide (s.mapSlot l (s.getR Reg.DCL_STR_CFG_DIR n) k = some n))).length
    else 0
  | none => 0

/-- The lane rates of R297 in units of 10 kb/s with their coding efficiency. -/
def laneRate (i : Nat) : Nat × Nat × Nat :=
  match i with
  | 0 => (125000, 4, 5) | 1 => (250000, 4, 5) | 2 => (312500, 4, 5) | 3 => (500000, 4, 5) | 4 => (625000, 4, 5)
  | 5 => (800000, 4, 5) | 6 => (1031250, 4, 5) | 7 => (1250000, 4, 5) | 8 => (1600000, 64, 66) | 9 => (2578125, 64, 66)
  | 10 => (3200000, 64, 66) | 11 => (5312500, 1216, 1360) | _ => (6400000, 1216, 1360)

/-- A as it acts: 4 in PAM4 (R310). -/
def State.alignOf (s : State) (l : Nat) : Nat := if 11 ≤ s.getR Reg.DCL_STAT_RATE_NOW l then 4 else (s.link l).align

/-- CAP of a stream in bytes per frame (R336): NSLOTS × P in Gb/s, rounded down; 0 while the link is not UP. -/
def State.streamCap (s : State) (n : Nat) : Nat :=
  match s.streamLink n with
  | some l =>
    if s.lstate l = 6 then
      let r := laneRate (s.getR Reg.DCL_STAT_RATE_NOW l)
      let a := s.alignOf l
      s.nslots n * r.1 * r.2.1 * 1024 * a / (100000 * r.2.2 * (1040 * a + 1))
    else 0
  | none => 0

/-- The contract not FREE that names a stream (R340). -/
def State.streamContract (s : State) (n : Nat) : Option Nat :=
  s.contractIds.find? (fun i => s.flag Reg.THY_CT_STREAM_EN i && decide (s.getR Reg.THY_CT_STREAM_INDEX i = n))

/-- Bytes per frame that a contract of BYTES, PERIOD and MAXLEN takes of a stream (R336). -/
def streamDemand (bytes period maxlen : Nat) : Nat :=
  8 * ceilDiv (ceilDiv bytes (64 * maxlen - 4) * (3 + ceilDiv (64 * maxlen - 4) 8)) (max 1 period)

/-- A stream's drop event of a direction, once per outage while its link is not UP (R320, R334). -/
def State.streamDrop (s : State) (n : Nat) (rx : Bool) (count : Nat) : State :=
  let lane := s.getR Reg.DCL_STR_CFG_LANE n
  let up := match s.streamLink n with | some l => decide (s.lstate l = 6) | none => false
  let key := 2 * n + bit rx
  let t := s.satAdd (if rx then Reg.DCL_STR_DROP_RX else Reg.DCL_STR_DROP_TX) n count
  if !up && s.lanes.outage.contains key then t
  else
    let u := t.raise (laneSrc lane) (if rx then 0x040C else 0x040B) 3 (laneDetail lane n)
    if up then u else u.modLanes (fun x => { x with outage := x.outage ++ [key] })

/-- The streams with queued messages on a link. -/
def State.queuedOn (s : State) (l : Nat) : List Nat :=
  (s.lanes.txq.map (fun e => e.1)).filter (fun n => decide (s.streamLink n = some l))

/-- The streams of a link on which something has come in. -/
def State.comingOn (s : State) (l : Nat) : List Nat :=
  (s.lanes.rx.map (fun e => e.1)).filter (fun n => decide (s.streamLink n = some l))

/-- A link leaves UP or is disabled: the messages queued on it and the partly received ones are discarded and counted (R320). -/
def State.dclFlush (s : State) (l : Nat) : State :=
  let t := (s.queuedOn l).foldl (fun t n =>
    (t.streamDrop n false (Map.get [] t.lanes.txq n).length).modLanes (fun x => { x with txq := Map.erase x.txq n })) s
  (s.comingOn l).foldl (fun t n =>
    let u := t.modLanes (fun x => { x with rx := Map.erase x.rx n })
    if (Map.get ⟨[], false⟩ t.lanes.rx n).part.isEmpty then u else u.streamDrop n true 1) t

/-! ### Control blocks (R313, R314) -/

/-- Time valid in STATUS (R314): SYNC_STATE is LOCKED or MASTER, or the device is standalone. -/
def State.timeValid (s : State) : Bool :=
  let st := s.getR Reg.TBS_SYNC_STAT_SYNC_STATE 0
  decide (st = 3) || decide (st = 5) || decide (s.role = 2)

/-- The STATUS block of a link: block lock, time valid, error threshold exceeded. -/
def State.statusBits (s : State) (l : Nat) : Nat :=
  bit (s.link l).lock + 2 * bit s.timeValid + 4 * bit (decide ((s.link l).retrainDue = 4))

/-- The time that a TIME_LO block bears which departs now (R324): its arrival at the peer's receive reference point. -/
def State.linkTime (s : State) (l : Nat) : Nat := plusTicks s.time.toNat (s.getR Reg.DCL_LAT_TX_TICKS l : Nat)

/-- The control block that a link in UP sends in a superframe of its alignment period (R314), as its type and its content. -/
def State.upControl (s : State) (l sf : Nat) : Nat × Nat :=
  match sf with
  | 0 => (0x07, s.linkTime l / 2 ^ 32 % 2 ^ 32 + s.getR Reg.SYN_EPOCH 0 * 2 ^ 32)
  | 1 => (0x08, s.linkTime l % 2 ^ 32)
  | 2 => (0x09, s.getR Reg.DCL_TXMAPID_ID l)
  | 3 => (0x0A, s.statusBits l)
  | _ => if (s.link l).retrainDue ≠ 0 then (0x0B, (s.link l).retrainDue) else (0x00, 0)

/-- CAP of this end (R313). -/
def State.ownCap (s : State) (l : Nat) : Nat :=
  let top := min 12 (s.getR Reg.DCL_CTL_MAXRATE l)
  top + (s.getR Reg.DCL_RATES_MASK l ||| 1) * 2 ^ 8 + (s.getR Reg.DEV_SYSID_ID 0 % 64 + 64) * 2 ^ 24

/-- The control block that a link sends in a superframe of its alignment period: in UP that of R314, in another state one of those that R315 names for it, in turn
(notes/assumptions/95). What EQ asks of the peer's transmitter is the receiver's adaptation, which is open (R298). -/
def State.controlNow (s : State) (l sf : Nat) : Option (Nat × Nat) :=
  let k := s.link l
  match s.lstate l with
  | 1 => some (0x00, 0)
  | 2 => some (0x01, s.ownCap l)
  | 3 => some (if k.ackSent && decide (sf % 2 = 1) then (0x03, k.step) else (0x02, k.step))
  | 4 => some (0x04, (Config.freeWord s.free).toNat % 7 + bit k.ownTrained * 2 ^ 8)
  | 5 => some (if sf % 3 = 0 then (0x05, k.samples.length % 256)
      else if sf % 3 = 1 then (0x06, k.tsRsp.1 + k.tsRsp.2 * 2 ^ 8)
      else (0x0C, s.getR Reg.DCL_LAT_TX_TICKS l + s.getR Reg.DCL_LAT_RX_TICKS l * 2 ^ 24))
  | 6 => some (s.upControl l sf)
  | _ => none

/-- A control block of a type and a content (R308, R313). -/
def controlBlock (x : Nat × Nat) : DclBlock := .control x.1 ((List.range 6).map (byteAt x.2))

/-- This end's control slot of a superframe passes, which it does as one comes from the peer (R309, R313 to R315; notes/assumptions/95): a comma block goes before superframe 0. -/
def State.slotPassed (s : State) (l : Nat) : State :=
  let k := s.link l
  let rate := s.getR Reg.DCL_STAT_RATE_NOW l
  match s.controlNow l k.superframe with
  | none => s
  | some c =>
    let last := decide (16 * s.alignOf l ≤ k.superframe + 1)
    let comma := if k.superframe = 0 then [lineForm rate (.comma k.period (s.alignOf l))] else []
    (s.modLink l (fun x => { x with
      sent := comma ++ [lineForm rate (controlBlock c)]
      superframe := if last then 0 else x.superframe + 1
      period := if last then (x.period + 1) % 2 ^ 32 else x.period
      capSent := if s.lstate l = 2 then x.capSent + 1 else x.capSent })).draw

/-! ### Bring-up (R309 to R323) -/

/-- Entry to DETECT (R315, R339): rate 0, ALIGN is read. -/
def State.enterDetect (s : State) (l : Nat) : State :=
  let a := s.getR Reg.DCL_CTL_ALIGN l
  let t := ((s.dclSt l 1).setR Reg.DCL_STAT_RATE_NOW l 0).setR Reg.LNE_STAT_RATE_NOW (l + 16) 0
  t.modLink l (fun k => { k with
    align := (if a = 0 then 16 else a), lock := false, relock := false, capSame := 0, lastCap := 0, ackRcvd := false,
    ackSent := false, ownTrained := false, peerTrained := false, samples := [], lastRate := 0, capSent := 0, superframe := 0, period := 0, blocks := 0, errAt := [] })

/-- A link in UP retrains (R319, R320); of the causes of one cycle RCAUSE shows the lowest. -/
def State.dclRetrain (s : State) (l cause : Nat) : State :=
  if s.lstate l ≠ 6 then
    if (s.link l).leftAt = s.ncyc + 1 && decide (cause < s.getR Reg.DCL_STAT_RCAUSE l) then
      (s.setR Reg.DCL_STAT_RCAUSE l cause).modLink l (fun k => { k with retrainDue := cause })
    else s
  else
    let t := (s.setR Reg.DCL_STAT_RCAUSE l cause).wrapAdd Reg.DCL_STAT_RETRAINS l 1
    let t := t.raise (laneSrc (l + 16)) 0x0406 2 (laneDetail (l + 16) 0 cause (s.getR Reg.DCL_STAT_RATE_NOW l))
    let t := (t.dclSt l 1).dclFlush l
    (t.enterDetect l).modLink l (fun k => { k with
      retrainDue := cause
      leftAt := s.ncyc + 1
      upRate := s.getR Reg.DCL_STAT_RATE_NOW l
      sent := if cause = 7 ∨ s.flag Reg.LNE_QREF_REF_OK ((l + 16) / 4) = false then k.sent
        else [lineForm (s.getR Reg.DCL_STAT_RATE_NOW l) (controlBlock (0x0B, cause))]
      measFails := 0
      attempts := 0 })

/-- The reference of a lane group is lost, or a lane's CDR: a link in UP retrains (R302, R319). -/
def State.cdrLost (s : State) (lane : Nat) : State :=
  let t := s.setR Reg.LNE_STAT_CDR_LOCK lane 0
  if lane < 16 then t else t.dclRetrain (lane - 16) 6

/-- LANE_REF_LOST (R302). -/
def execLaneRefLost (g : Fin 20) (s : State) : Result :=
  if s.flag Reg.LNE_QREF_REF_OK (2 * g) || s.flag Reg.LNE_QREF_REF_OK (2 * g + 1) then
    let t := (s.setR Reg.LNE_QREF_REF_OK (2 * g) 0).setR Reg.LNE_QREF_REF_OK (2 * g + 1) 0
    let t := t.raise (laneSrc (8 * g)) 0x0403 4 (laneDetail 0 0 0 0 0 g)
    .next ((List.range 8).foldl (fun u i => u.cdrLost (8 * g + i)) t)
  else .next s

/-- LANE_CDR_LOST (R302). Whether a signal is still present is open. -/
def execLaneCdrLost (lane : Fin 160) (s : State) : Result :=
  s.when (s.flag Reg.LNE_STAT_CDR_LOCK lane)
    ((((s.raise (laneSrc lane) 0x0401 2 (laneDetail lane)).cdrLost lane).setR Reg.LNE_STAT_SIGDET lane
      ((Config.freeWord s.free).toNat % 2)).draw)

/-- LANE_CDR_LOCK (R295, R302, R338): the lane group's reference is in range, and the CDR of a lane that is not off locks to the signal that is present. -/
def execLaneCdrLock (lane : Fin 160) (s : State) : Result :=
  let t := (s.setR Reg.LNE_QREF_REF_OK (lane / 8 * 2) 1).setR Reg.LNE_QREF_REF_OK (lane / 8 * 2 + 1) 1
  .next (if t.laneOff lane then t else (t.setR Reg.LNE_STAT_CDR_LOCK lane 1).setR Reg.LNE_STAT_SIGDET lane 1)

/-- LANE_SLIP (R301): a fill departure of more than 6 entries. -/
def execLaneSlip (lane : Fin 160) (departure : Fin 17) (s : State) : Result :=
  if departure.val > 6 then
    let t := s.raise (laneSrc lane) 0x0402 2 (laneDetail lane 0 0 0 0 departure)
    .next (if lane.val < 16 then t else t.dclRetrain (lane - 16) 5)
  else .next s

/-- A lane is raw. -/
def State.laneRaw (s : State) (lane : Nat) : Bool :=
  let m := s.getR Reg.LNE_CFG_MODE lane
  decide (2 ≤ m) && decide (m ≤ 4) && !s.laneOff lane

/-- DCL_ENABLE (R315). -/
def execDclEnable (l : Fin 144) (s : State) : Result :=
  if s.flag Reg.DCL_CTL_EN l then .next s
  else .next ((s.setR Reg.DCL_CTL_EN l 1).enterDetect l)

/-- DCL_DISABLE (R315, R317, R320). -/
def execDclDisable (l : Fin 144) (s : State) : Result :=
  if s.flag Reg.DCL_CTL_EN l then
    let t := ((s.setR Reg.DCL_CTL_EN l 0).dclSt l 0).dclFlush l
    .next ((t.setR Reg.DCL_STAT_RATE_NOW l 0).modLink l (fun k =>
      { k with excluded := [], attempts := 0, measFails := 0, lock := false, relock := false, retrainDue := 0 }))
  else .next s

/-- DCL_RETRAIN_CMD (R317, R319, R339). -/
def execDclRetrainCmd (l : Fin 144) (s : State) : Result :=
  if s.lstate l = 6 then .next ((s.dclRetrain l 1).modLink l (fun k => { k with excluded := [] }))
  else if s.lstate l = 7 then .next ((s.enterDetect l).modLink l (fun k => { k with excluded := [], attempts := 0, measFails := 0 }))
  else .next (s.dclRetrain l 1)

/-- DCL_BLOCK_LOCK (R295, R311, R315, R316): a lane that is no DCL lane receives no blocks. -/
def execDclBlockLock (l : Fin 144) (s : State) : Result :=
  let st := s.lstate l
  let t := s.modLink l (fun k => { k with lock := true, relock := false, blocks := 0, errAt := [] })
  if st = 0 || st = 7 || decide (s.getR Reg.LNE_CFG_MODE (l + 16) ≠ 1) then .next s
  else .next (if st = 1 then t.dclSt l 2 else t)

/-- DCL_BLOCK_LOCK_LOST (R311, R319). -/
def execDclBlockLockLost (l : Fin 144) (s : State) : Result :=
  .next ((s.modLink l (fun k => { k with lock := false })).dclRetrain l 3)

/-- The window of a link in blocks (R339). -/
def State.errWindow (s : State) (l : Nat) : Nat := 2 ^ min 30 (max 10 (s.getR Reg.DCL_ERRCFG_WIN l))

/-- A block comes in after some good ones (R311, R312, R319): an errored one counts, ends block lock where it is the sixteenth within 64 blocks, and retrains a link where
it is the THRESH-th within the window. -/
def State.blockSeen (s : State) (l gap : Nat) (bad : Bool) : State :=
  let k := s.link l
  let here := k.blocks + gap
  if !bad then s.modLink l (fun x => { x with blocks := here + 1 })
  else
    let e := (k.errAt ++ [here]).filter (fun x => decide (here < x + s.errWindow l))
    let t := (s.satAdd Reg.DCL_ERR_BLK l 1).modLink l (fun x => { x with blocks := here + 1, errAt := e })
    if 16 ≤ (e.filter (fun x => decide (here < x + 64))).length then (t.modLink l (fun x => { x with lock := false })).dclRetrain l 3
    else if max 1 (s.getR Reg.DCL_ERRCFG_THRESH l) ≤ e.length then t.dclRetrain l 4
    else t

/-- Blocks one after the other, each after some good ones. -/
def State.blocksSeen (s : State) (l : Nat) (bs : List (Nat × Bool)) : State := bs.foldl (fun t b => t.blockSeen l b.1 b.2) s

/-- DCL_ERROR_THRESHOLD (R306 to R308, R311, R312, R319): blocks other than those of streams, each after some good ones. One that is errored, or a control or comma block
whose CRC-8 fails, is ignored and counted. -/
def execDclErrorThreshold (l : Fin 144) (blocks : List (Nat × LineBlock)) (s : State) : Result :=
  if (s.link l).lock then
    .next (s.blocksSeen l (blocks.map (fun b => (b.1, (decodeLine (s.getR Reg.DCL_STAT_RATE_NOW l) b.2).isNone))))
  else .next s

/-- The rates both ends offer, none excluded (R315, R317). -/
def State.rateOffered (s : State) (l i : Nat) : Bool :=
  (decide (i = 0) || nbit (s.getR Reg.DCL_RATES_MASK l) i) && nbit (s.getR Reg.DCL_PEER_MASK l) i
    && decide (i ≤ min 12 (s.getR Reg.DCL_CTL_MAXRATE l)) && !(s.link l).excluded.contains i

/-- The highest offered rate index at or below a bound. -/
def State.rateTarget (s : State) (l bound : Nat) : Nat :=
  ((List.range (bound + 1)).filter (fun i => s.rateOffered l i)).foldl max 0

/-- The next offered rate above the one in use. -/
def State.rateNext (s : State) (l : Nat) : Nat :=
  (((List.range 13).filter (fun i => decide (s.getR Reg.DCL_STAT_RATE_NOW l < i) && s.rateOffered l i)).head?).getD 0

/-- Toward the target rate: STEP for the next rate, or LATMEAS at the target (R315). -/
def State.dclStep (s : State) (l : Nat) : State :=
  if s.getR Reg.DCL_STAT_RATE_NOW l = (s.link l).target then
    (s.dclSt l 5).modLink l (fun k => { k with samples := [], measFails := 0 })
  else
    (s.dclSt l 3).modLink l (fun k => { k with step := s.rateNext l, ackRcvd := false, ackSent := false })

/-- DCL_CAP (R313, R315): three identical CAPs settle the target, once this end has sent three: one goes with each superframe, that of this block too. -/
def execDclCap (l : Fin 144) (maxRate : BitVec 8) (mask : BitVec 16) (dev : BitVec 6) (lantum : Bool) (s : State) : Result :=
  if s.lstate l = 2 then
    let cap := maxRate.toNat + mask.toNat * 2 ^ 8 + dev.toNat * 2 ^ 24 + bit lantum * 2 ^ 30 + 2 ^ 32
    let n := if (s.link l).lastCap = cap then (s.link l).capSame + 1 else 1
    let t := ((s.setR Reg.DCL_PEER_MASK l mask.toNat).setR Reg.DCL_PEER_DEVID l dev.toNat).setR Reg.DCL_PEER_LANTUM l (bit lantum)
    let t := t.modLink l (fun k => { k with capSame := n, lastCap := cap })
    if 3 ≤ n ∧ 3 ≤ (s.link l).capSent + 1 then
      .next (((t.modLink l (fun k => { k with target := t.rateTarget l (min 12 maxRate.toNat) })).dclStep l).slotPassed l)
    else .next (t.slotPassed l)
  else .next s

/-- DCL_RATE_REQ (R315): acknowledged where it asks for the same rate. -/
def execDclRateReq (l : Fin 144) (rate : BitVec 8) (s : State) : Result :=
  s.when (s.lstate l = 3 && decide ((s.link l).step = rate.toNat)) ((s.modLink l (fun k => { k with ackSent := true })).slotPassed l)

/-- DCL_RATE_ACK (R315, R316). -/
def execDclRateAck (l : Fin 144) (rate : BitVec 8) (s : State) : Result :=
  s.when (s.lstate l = 3 && decide ((s.link l).step = rate.toNat)) ((s.modLink l (fun k => { k with ackRcvd := true })).slotPassed l)

/-- DCL_RATE_SWITCH (R316): the next comma after both RATE_ACKs. -/
def execDclRateSwitch (l : Fin 144) (s : State) : Result :=
  let k := s.link l
  if s.lstate l = 3 && k.ackRcvd && k.ackSent then
    .next ((((s.setR Reg.DCL_STAT_RATE_NOW l k.step).setR Reg.LNE_STAT_RATE_NOW (l + 16) k.step).dclSt l 4).modLink l
      (fun k => { k with
        lock := false, relock := true, ownTrained := false, peerTrained := false, superframe := 0, period := 0
        lastRate := if k.lock then s.getR Reg.DCL_STAT_RATE_NOW l else k.lastRate }))
  else .next s

/-- The taps PRE, MAIN and POST that a DCL lane's FFE has (R298): what training has made of the register values. -/
def State.taps (s : State) (l : Nat) : Nat × Nat × Nat :=
  (s.link l).taps.getD (s.getR Reg.LNE_TXEQ_PRE (l + 16), s.getR Reg.LNE_TXEQ_MAIN (l + 16), s.getR Reg.LNE_TXEQ_POST (l + 16))

/-- Taps after a request; one beyond the range changes nothing (R298, R313). -/
def moveTaps (p : Nat × Nat × Nat) (req : Nat) : Nat × Nat × Nat :=
  match req with
  | 1 => (min 15 (p.1 + 1), p.2)
  | 2 => (p.1 - 1, p.2)
  | 3 => (p.1, p.2.1, min 31 (p.2.2 + 1))
  | 4 => (p.1, p.2.1, p.2.2 - 1)
  | 5 => (p.1, min 63 (p.2.1 + 1), p.2.2)
  | 6 => (p.1, p.2.1 - 1, p.2.2)
  | _ => p

/-- An EQ request moves the FFE, unless software holds it (R298). -/
def State.eqMove (s : State) (l req : Nat) : State :=
  if s.flag Reg.LNE_TXEQ_MANUAL (l + 16) then s
  else s.modLink l (fun k => { k with taps := some (moveTaps (s.taps l) req) })

/-- DCL_EQ (R313, R315): `ownTrained` is what this end's own EQ says. -/
def execDclEq (l : Fin 144) (req : BitVec 8) (peerTrained : Bool) (ownTrained : Bool) (s : State) : Result :=
  if s.lstate l = 4 && !(s.link l).relock then
    let t := (s.eqMove l req.toNat).modLink l (fun k => { k with peerTrained := peerTrained, ownTrained := ownTrained })
    .next ((if peerTrained && ownTrained then t.dclStep l else t).slotPassed l)
  else .next s

/-- DCL_TS_REQ (R321): answered with TS_RSP carrying TURN. -/
def execDclTsReq (l : Fin 144) (seq : BitVec 8) (turn : BitVec 24) (s : State) : Result :=
  s.when (s.lstate l = 5 || s.lstate l = 6) ((s.modLink l (fun k => { k with tsRsp := (seq.toNat, turn.toNat) })).slotPassed l)

/-- An attempt fails (R318). -/
def State.attemptFail (s : State) (l : Nat) : State :=
  let n := (s.link l).attempts + 1
  let t := (s.enterDetect l).modLink l (fun k => { k with attempts := n, measFails := 0 })
  if n ≥ 8 then
    (t.dclSt l 7).raise (laneSrc (l + 16)) 0x0408 4 (laneDetail (l + 16) 0 0 0 0 n)
  else t

/-- A latency measurement fails (R318). -/
def State.measFail (s : State) (l : Nat) : State :=
  let n := (s.link l).measFails + 1
  if n ≥ 3 then s.attemptFail l else s.modLink l (fun k => { k with samples := [], measFails := n })

/-- Insert into a sorted list. -/
def insertSorted (x : Int) : List Int → List Int
  | [] => [x]
  | y :: l => if x ≤ y then x :: y :: l else y :: insertSorted x l

/-- ASYM as a signed number (R322). -/
def State.asym (s : State) (l : Nat) : Int := signed 16 (s.getR Reg.DCL_ASYM_TICKS l)

/-- Set the latency registers from D and ASYM (R321, R322). -/
def State.setLat (s : State) (l : Nat) (d : Int) : State :=
  (s.setR Reg.DCL_LAT_TX_TICKS l (unsigned 24 (d + s.asym l))).setR Reg.DCL_LAT_RX_TICKS l (unsigned 24 (d - s.asym l))

/-- Streams whose capacity falls below the figure of their contract at a lower rate (R337). -/
def State.capacityCheck (s : State) (l : Nat) : State :=
  s.contractIds.foldl (fun t i =>
    let n := t.getR Reg.THY_CT_STREAM_INDEX i
    if t.flag Reg.THY_CT_STREAM_EN i && decide (t.streamLink n = some l) && decide (t.getR Reg.DCL_STR_CFG_DIR n = 0)
        && decide (t.streamCap n < streamDemand (t.getR Reg.THY_CT_RATE_BYTES i) (t.getR Reg.THY_CT_CFG_PERIOD i)
            (t.getR Reg.THY_CT_CFG_MAXLEN i)) then
      t.raise (laneSrc (l + 16)) 0x040F 3 (laneDetail (l + 16) n 0 (t.getR Reg.DCL_STAT_RATE_NOW l) 0 (t.streamCap n))
    else t) s

/-- The measurement is accepted and the link is UP (R321, R323). -/
def State.dclUp (s : State) (l : Nat) (d : Int) (turn : Nat) : State :=
  let oldTx := s.getR Reg.DCL_LAT_TX_TICKS l
  let oldRx := s.getR Reg.DCL_LAT_RX_TICKS l
  let had := (s.link l).latency.isSome && decide ((s.link l).retrainDue ≠ 0)
  let t := ((s.setLat l d).setR Reg.DCL_TURN_TICKS l turn).dclSt l 6
  let t := t.modLink l (fun k => { k with latency := some d, measFails := 0, attempts := 0, skewRaised := false, retrainDue := 0 })
  let t := t.modLanes (fun x => { x with outage := x.outage.filter (fun k => !decide (t.streamLink (k / 2) = some l)) })
  let tx := t.getR Reg.DCL_LAT_TX_TICKS l
  let rx := t.getR Reg.DCL_LAT_RX_TICKS l
  let t := t.raise (laneSrc (l + 16)) 0x0405 0
    (laneDetail (l + 16) 0 0 (t.getR Reg.DCL_STAT_RATE_NOW l) (t.link l).target tx rx)
  let far := fun (a b : Nat) => decide ((a : Int) - b > 2) || decide ((b : Int) - a > 2)
  let t := if had && (far tx oldTx || far rx oldRx) then
      t.raise (laneSrc (l + 16)) 0x0409 2 (laneDetail (l + 16) 0 0 (t.getR Reg.DCL_STAT_RATE_NOW l) 0 tx) else t
  if (s.link l).retrainDue ≠ 0 ∧ t.getR Reg.DCL_STAT_RATE_NOW l < (s.link l).upRate then t.capacityCheck l else t

/-- A quad's declaration of spread, which its pair of quads shares (R300, R338). -/
def State.spread (s : State) (l : Nat) : Bool := s.flag Reg.LNE_QREF_SSC ((l + 16) / 8 * 2)

/-- DCL_TS_RSP (R321): one that matches the TS_REQ outstanding, whose number is the exchange's; `elapsed` is t4 − t1. -/
def execDclTsRsp (l : Fin 144) (seq : BitVec 8) (turn : BitVec 24) (elapsed : BitVec 32) (s : State) : Result :=
  if s.lstate l = 5 ∧ seq.toNat = (s.link l).samples.length % 256 then
    let d2 : Int := (elapsed.toNat : Int) - turn.toNat
    let all := (s.link l).samples ++ [d2]
    let t := s.modLink l (fun k => { k with samples := all })
    if all.length < 16 then .next (t.slotPassed l)
    else
      let srt := all.foldr insertSorted []
      let lo := srt.headD 0
      let hi := srt.getLastD 0
      let med2 := srt.getD 7 0 + srt.getD 8 0
      if (hi - lo) * 1000 ≤ 4000 + (if s.spread l then 5 * (med2 / 2) else 0) then
        .next ((t.dclUp l ((med2 + 2) / 4) turn.toNat).slotPassed l)
      else .next ((t.measFail l).slotPassed l)
  else .next s

/-- DCL_LATINFO (R313). -/
def execDclLatinfo (l : Fin 144) (tx : BitVec 24) (rx : BitVec 24) (s : State) : Result :=
  s.when (s.lstate l = 5 || s.lstate l = 6) ((s.modLink l (fun k => { k with peerLat := (tx.toNat, rx.toNat) })).slotPassed l)

/-- DCL_TIME_HI (R313, R324). -/
def execDclTimeHi (l : Fin 144) (hi : BitVec 32) (epoch : BitVec 8) (s : State) : Result :=
  s.when (s.lstate l = 6) ((s.modLink l (fun k => { k with peerHi := hi.toNat, peerEpoch := epoch.toNat })).slotPassed l)

/-- The peer's time is compared with the counter (R325). -/
def State.timeDiff (s : State) (l lo : Nat) : State :=
  let d := (BitVec.ofNat 64 ((s.link l).peerHi * 2 ^ 32 + lo) - s.time).toInt
  let t := s.setR Reg.DCL_TIMEDIFF_TICKS l (unsigned 32 d)
  if d.natAbs > 64 && !(s.link l).skewRaised then
    (t.modLink l (fun k => { k with skewRaised := true })).raise (laneSrc (l + 16)) 0x040E 2 (laneDetail (l + 16) 0 0 0 0 (unsigned 32 d))
  else t

/-- DCL_TIME_LO (R325). -/
def execDclTimeLo (l : Fin 144) (lo : BitVec 32) (s : State) : Result :=
  if s.lstate l = 6 then .next ((if s.flag Reg.DCL_PEER_LANTUM l then s.timeDiff l lo.toNat else s).slotPassed l)
  else .next s

/-- MAP_OK says whether the peer's transmit map ID, as received last, is this end's receive map ID; its fall is reported (R328). -/
def State.mapCheck (s : State) (l : Nat) : State :=
  match (s.link l).peerMap with
  | none => s
  | some id =>
    let ok := decide (id = s.getR Reg.DCL_RXMAPID_ID l)
    let t := s.setR Reg.DCL_STAT_MAP_OK l (bit ok)
    if s.flag Reg.DCL_STAT_MAP_OK l && !ok then t.raise (laneSrc (l + 16)) 0x040A 3 (laneDetail (l + 16) 0 0 0 0 id) else t

/-- DCL_MAP (R328). -/
def execDclMap (l : Fin 144) (id : BitVec 32) (s : State) : Result :=
  s.when (s.lstate l = 6) (((s.modLink l (fun k => { k with peerMap := some id.toNat })).mapCheck l).slotPassed l)

/-- DCL_STATUS (R313, R314): the peer's STATUS. -/
def execDclStatus (l : Fin 144) (bits : BitVec 3) (s : State) : Result :=
  .next ((s.modLink l (fun k => { k with peerStatus := bits.toNat })).slotPassed l)

/-- DCL_RETRAIN_BLOCK (R319). -/
def execDclRetrainBlock (l : Fin 144) (_cause : BitVec 8) (s : State) : Result := .next (s.dclRetrain l 2)

/-- DCL_IDLE (R313): an IDLE block carries nothing; this end's control slot passes as with any. -/
def execDclIdle (l : Fin 144) (s : State) : Result := .next (s.slotPassed l)

/-- DCL_CAPX_TIMEOUT (R316, R318). -/
def execDclCapxTimeout (l : Fin 144) (s : State) : Result := s.when (s.lstate l = 2) (s.attemptFail l)

/-- Both ends return to the last rate with block lock; the failed rate is excluded from the target (R317). -/
def State.rateFallback (s : State) (l : Nat) : State :=
  let bad := s.getR Reg.DCL_STAT_RATE_NOW l
  let r := (s.link l).lastRate
  let t := (((s.setR Reg.DCL_STAT_RATE_NOW l r).setR Reg.LNE_STAT_RATE_NOW (l + 16) r).dclSt l 5).modLink l
    (fun k => { k with excluded := k.excluded ++ [bad], samples := [], measFails := 0, relock := false, superframe := 0, period := 0 })
  let goal := t.rateTarget l (t.link l).target
  (t.modLink l (fun k => { k with target := goal })).raise (laneSrc (l + 16)) 0x0407 2 (laneDetail (l + 16) 0 0 r goal)

/-- DCL_RELOCK_TIMEOUT (R317). -/
def execDclRelockTimeout (l : Fin 144) (s : State) : Result :=
  s.when (s.lstate l = 4 && (s.link l).relock) (s.rateFallback l)

/-- DCL_EQTRAIN_TIMEOUT (R317). -/
def execDclEqtrainTimeout (l : Fin 144) (s : State) : Result :=
  s.when (s.lstate l = 4 && !(s.link l).relock) (s.rateFallback l)

/-- DCL_LATMEAS_TIMEOUT (R318). -/
def execDclLatmeasTimeout (l : Fin 144) (s : State) : Result := s.when (s.lstate l = 5) (s.measFail l)

/-- DCL_MAP_WRITE (R327, R328): a map entry or map ID, at its offset in the link's registers. -/
def execDclMapWrite (l : Fin 144) (off : BitVec 9) (value : BitVec 32) (s : State) : Result :=
  let s := s.touchLane (l + 16)
  let o := off.toNat
  let v := value.toNat
  if s.lstate l ≠ 0 then .next (s.setR Reg.DCL_STAT_MAP_REJ l 1)
  else if o = 0x2C then .next (s.setR Reg.DCL_TXMAPID_ID l v)
  else if o = 0x30 then .next ((s.setR Reg.DCL_RXMAPID_ID l v).mapCheck l)
  else if 0x80 ≤ o ∧ o < 0x100 then
    let i := l * 32 + (o - 0x80) / 4
    .next ((((s.setR Reg.DCL_TXMAP_S0 i v).setR Reg.DCL_TXMAP_V0 i (v / 2 ^ 12)).setR Reg.DCL_TXMAP_S1 i (v / 2 ^ 16)).setR
      Reg.DCL_TXMAP_V1 i (v / 2 ^ 28))
  else if 0x100 ≤ o ∧ o < 0x180 then
    let i := l * 32 + (o - 0x100) / 4
    .next ((((s.setR Reg.DCL_RXMAP_S0 i v).setR Reg.DCL_RXMAP_V0 i (v / 2 ^ 12)).setR Reg.DCL_RXMAP_S1 i (v / 2 ^ 16)).setR
      Reg.DCL_RXMAP_V1 i (v / 2 ^ 28))
  else .next s

/-- DCL_STREAM_ENTRY_WRITE (R326): ignored with STR_REJ while a contract names the stream. -/
def execDclStreamEntryWrite (stream : BitVec 12) (value : BitVec 32) (s : State) : Result :=
  let n := stream.toNat
  let v := value.toNat
  let t := if nbit v 13 then s.setR Reg.DCL_STR_CFG_STR_REJ n 0 else s
  if (s.streamContract n).isSome then .next (t.setR Reg.DCL_STR_CFG_STR_REJ n 1)
  else .next ((((t.setR Reg.DCL_STR_CFG_LANE n v).setR Reg.DCL_STR_CFG_DIR n (v / 2 ^ 8)).setR Reg.DCL_STR_CFG_TYPE n (v / 2 ^ 9)).setR
    Reg.DCL_STR_CFG_EN n (v / 2 ^ 12))

/-- DCL_ASYM_WRITE (R322): at once in the latency registers. -/
def execDclAsymWrite (l : Fin 144) (value : BitVec 16) (s : State) : Result :=
  let t := s.setR Reg.DCL_ASYM_TICKS l value.toNat
  match (s.link l).latency with
  | some d => .next (t.setLat l d)
  | none => .next t

end Sys2Proof.Machine
end

