-- ==== Sys2Proof/Machine/Thyme.lean ====
section
/-!
DEFINITION. Thyme: admission, the life of contracts, the ingress, and route updates (R225 to R258, R199).
-/

namespace Sys2Proof.Machine

/-! ### Paths -/

/-- The hops of a path in a route-table bank, as (router, output): mesh ports 0 to 3, local port p as 8 + p; or the router
at which the route is unreachable. -/
def State.walk (s : State) (bank dest : Nat) : Nat → Nat → List (Nat × Nat) ⊕ Nat
  | 0, r => .inr r
  | fuel + 1, r =>
    match s.nextHop r bank dest with
    | none => .inr r
    | some d =>
      if d = 4 then .inl [(r, 8 + epPort dest)]
      else match neighbour r d with
        | none => .inr r
        | some q => match s.walk bank dest fuel q with
          | .inl l => .inl ((r, d) :: l)
          | .inr x => .inr x

/-- The path from one endpoint to another. -/
def State.path (s : State) (bank src dst : Nat) : List (Nat × Nat) ⊕ Nat := s.walk bank dst 400 (epRtr src)

/-- The output ports of a leg. -/
def legPorts (l : List (Nat × Nat)) : List Nat := l.map (fun h => outPort h.1 h.2)

/-- The output ports of a leg's reverse (R249). -/
def reversePorts (l : List (Nat × Nat)) (src : Nat) : List Nat :=
  (l.reverse.filterMap (fun h => if h.2 < 4 then (neighbour h.1 h.2).map (fun q => outPort q (opposite h.2)) else none))
    ++ [outPort (epRtr src) (8 + epPort src)]

/-- T_path of a leg (R240). -/
def tPath (l : List (Nat × Nat)) : Nat :=
  let x := (l.filter (fun h => isLateral h.1 h.2)).length
  let m := (l.filter (fun h => decide (h.2 < 4))).length - x
  3 * l.length + m + 7 * x + 1

/-! ### Slots (R195, R228, R239, R249) -/

/-- A slot that contracts may own. -/
def contractSlot (x : Nat) : Bool := decide (x % 16 ≠ 7) && decide (x % 16 ≠ 15)

/-- The slots taken on a port, but for those of one contract. -/
def State.usedSlots (s : State) (port : Nat) (except : Option Nat) : List Nat :=
  (s.thy.contracts.filter (fun e => decide (some e.1 ≠ except))).flatMap (fun e =>
    ((e.2.own ++ e.2.old).filter (fun o => decide (o.port = port))).flatMap (fun o => o.data ++ o.notice))

/-- The free slots of a port, fold-safe ones first on a fold port. -/
def State.freeSlots (s : State) (port : Nat) (except : Option Nat) : List Nat :=
  let used := s.usedSlots port except
  let all := (List.range 1024).filter (fun x =>
    contractSlot x && !used.contains x && (!s.portFolded port || foldSafe x))
  if foldPort port then all.filter foldSafe ++ all.filter (fun x => !foldSafe x) else all

/-- What a contract asks of one port. -/
structure Need where
  port : Nat
  data : Nat
  notice : Nat
deriving DecidableEq, Repr

/-- Add one need to a list, merging needs of one port. -/
def addNeed (l : List Need) (n : Need) : List Need :=
  if l.any (fun m => decide (m.port = n.port)) then
    l.map (fun m => if m.port = n.port then { m with data := m.data + n.data, notice := m.notice + n.notice } else m)
  else l ++ [n]

/-- The needs of a leg and its reverse. -/
def legNeeds (l : List (Nat × Nat)) (src slots : Nat) : List Need :=
  (legPorts l).map (fun p => ⟨p, slots, 2⟩) ++ (reversePorts l src).map (fun p => ⟨p, 0, 2⟩)

/-- The slots of one need, or none where the port lacks them; notice slots of a fold port are fold-safe (R239), and with `safe` so are its
data slots. -/
def State.placeNeed (s : State) (except : Option Nat) (safe : Bool) (n : Need) : Option PortSlots :=
  let free := s.freeSlots n.port except
  let fold := foldPort n.port
  let notes := (if fold then free.filter foldSafe else free).take n.notice
  let rest := free.filter (fun x => !notes.contains x)
  let data := (if fold && safe then rest.filter foldSafe else rest).take n.data
  if notes.length = n.notice ∧ data.length = n.data then some ⟨n.port, data, notes⟩ else none

/-- The first need that cannot be placed. -/
def State.lacking (s : State) (except : Option Nat) (safe : Bool) (l : List Need) : Option Nat :=
  (l.find? (fun n => (s.placeNeed except safe n).isNone)).map (fun n => n.port)

/-- The most data slots a leg's ports have free beside the notice slots. -/
def State.mostData (s : State) (except : Option Nat) (safe : Bool) (l : List Need) : Nat :=
  (l.map (fun n =>
    let free := s.freeSlots n.port except
    (if foldPort n.port && safe then (free.filter foldSafe).length else free.length) - n.notice)).foldl min 896

/-- RDETAIL of a port that lacks slots (R237). -/
def portDetail (port : Nat) : Nat := rtrEp (port / 64) 31 + (if port % 64 < 4 then port % 64 else 4) * 2 ^ 16

/-! ### Requests (R229, R236 to R242) -/

/-- A contract request. -/
structure Desc where
  src : Nat
  dst : Nat
  bytes : Nat
  period : Nat
  lat : Nat
  prio : Nat
  rigidSrc : Bool
  rigidDst : Bool
  mode : Nat
  foldSafe : Bool
  maxlen : Nat
  stream : Nat
  streamEn : Bool
deriving DecidableEq, Repr

/-- What an admission grants. -/
structure Plan where
  bound : Nat
  fwd : Nat
  rsp : Nat
  own : List PortSlots
  legs : List (List Nat)
deriving DecidableEq, Repr

/-- A refusal: REASON, RDETAIL and what THY_REQ_BOUND shows. -/
structure Refuse where
  reason : Nat
  detail : Nat
  bound : Nat
deriving DecidableEq, Repr

/-- A source R229 permits. -/
def srcKind (mode : Nat) : EpKind → Bool
  | .nap _ | .pge _ | .fce _ | .mspGroup _ | .dcl _ => true
  | .tio _ => decide (mode = 0)
  | _ => false

/-- A destination R229 permits. -/
def dstKind (mode : Nat) : EpKind → Bool
  | .lpx _ | .spdPort _ | .failMem _ | .mspGroup _ => true
  | .nap _ | .pge _ | .fce _ | .tio _ | .dcl _ => decide (mode = 0)
  | _ => false

/-- An endpoint is a DCL engine. -/
def isDcl (e : Nat) : Bool :=
  match kindOf e with
  | .dcl _ => true
  | _ => false

/-- T_in of an endpoint in ncyc (R95, R96, R240). -/
def State.tIn (s : State) (e : Nat) : Nat :=
  match kindOf e with
  | .nap rg =>
    let sel := s.getR Reg.FAB_RGN_CLK_SEL rg
    if sel < 12 then
      let g := if sel < 8 then rg / 384 * 8 + sel
        else s.getR Reg.TBS_PWCLK_SRC_FD (sel - 8) * 8 + s.getR Reg.TBS_PWCLK_SRC_GEN (sel - 8)
      ceilDiv (2000 * s.getR Reg.FAB_CG_ACT_D g * 2 ^ 24) (256 * (s.getR Reg.FAB_CG_ACT_N g * 2 ^ 24 + s.getR Reg.FAB_CG_ACTF_F g)) + 3
    else 3 + max 1 (Config.tInOpen 8)
  | .pge _ | .fce _ | .failMem _ | .mspGroup _ => 5
  | .lpx n => 3 + max 1 (Config.tInOpen (s.lp n).rate)
  | .core _ => 4
  | .sage => 7
  | .dusk => 24
  | _ => 1

/-- The responder's service time in ncyc (R242). -/
def service (e : Nat) : Nat :=
  match kindOf e with
  | .spdPort _ => 64
  | .failMem _ => 64
  | .mspGroup _ => 96
  | _ => 2048

/-- N and F of a request (R240). -/
def packetsPer (d : Desc) : Nat := ceilDiv d.bytes (64 * d.maxlen - 4)

/-- See packetsPer. -/
def flitsPer (d : Desc) : Nat := packetsPer d * (d.maxlen + 1)

/-- The smallest count of slots for which ⌈flits / count⌉ is at most k, and no fewer than the rate needs. -/
def slotsFor (flits period k : Nat) : Nat := max (max 1 (ceilDiv flits period)) (ceilDiv flits k)

/-- T_q (R240). -/
def tQueue (flits slots : Nat) : Nat := (ceilDiv flits slots + 1) * 1024

/-- The field checks of REASON 1: the offset of the first bad field. -/
def badField (d : Desc) : Option Nat :=
  if d.src = d.dst then some 0x04
  else if d.bytes = 0 then some 0x08
  else if d.period = 0 then some 0x0C
  else if d.lat = 0 then some 0x10
  else if d.maxlen = 0 then some 0x14
  else none

/-- The channel's share of R241: the payload of all contracts at it, in bytes per frame. -/
def State.lpxShare (s : State) (e : Nat) (except : Option Nat) : Nat :=
  (((s.contractsAt e).filter (fun i => decide (some i ≠ except))).map (fun i =>
    ceilDiv (s.getR Reg.THY_CT_RATE_BYTES i) (max 1 (s.getR Reg.THY_CT_CFG_PERIOD i)))).sum

/-- The data rate of a channel in MT/s (R500). -/
def lpxRate (i : Nat) : Nat :=
  match i with
  | 0 => 6400 | 1 => 7500 | 2 => 8533 | 3 => 9600 | _ => 10667

/-- The limit of R241 in bytes per frame. -/
def State.lpxLimit (s : State) (n : Nat) : Nat := lpxRate (s.lp n).rate * 16384 / 10000

/-- REASON 8 (R232, R336). -/
def State.streamRefused (s : State) (d : Desc) (except : Option Nat) : Bool :=
  let tx := isDcl d.dst
  let n := d.stream
  let fed := s.contractIds.any (fun i => decide (some i ≠ except) && s.flag Reg.THY_CT_STREAM_EN i
    && decide (s.getR Reg.THY_CT_STREAM_INDEX i = n))
  if !tx && !isDcl d.src then d.streamEn && (!s.flag Reg.DCL_STR_CFG_EN n || fed)
  else if !d.streamEn then true
  else
    let here := match s.streamLink n with
      | some l => decide (quadEp ((l + 16) / 4) = if tx then d.dst else d.src)
      | none => false
    !s.flag Reg.DCL_STR_CFG_EN n || fed || !here || decide (s.getR Reg.DCL_STR_CFG_DIR n ≠ if tx then 0 else 1)
      || (tx && decide (s.streamCap n < streamDemand d.bytes d.period d.maxlen))

/-- The checks of REASON 1 to 8 in order (R236, R237); `except` is the contract a READMIT places afresh. -/
def State.admitEarly (s : State) (d : Desc) (except : Option Nat) : Option Refuse :=
  match badField d with
  | some o => some ⟨1, o, 0⟩
  | none =>
    if except.isNone && decide (s.contractIds.length ≥ 4096) then some ⟨2, 0, 0⟩
    else if !srcKind d.mode (kindOf d.src) then some ⟨3, d.src, 0⟩
    else if !dstKind d.mode (kindOf d.dst) then some ⟨3, d.dst, 0⟩
    else if s.portState d.src ≠ 0 then some ⟨4, d.src, 0⟩
    else if s.portState d.dst ≠ 0 then some ⟨4, d.dst, 0⟩
    else if d.rigidSrc && s.throttled d.src then some ⟨5, d.src, 0⟩
    else if d.rigidDst && s.throttled d.dst then some ⟨5, d.dst, 0⟩
    else
      let lpx := match kindOf d.dst with
        | .lpx n =>
          if !s.flag Reg.LPX_STAT_DET_ON n then some ⟨6, d.dst, 0⟩
          else if s.lpxLimit n < s.lpxShare d.dst except + ceilDiv d.bytes d.period then
            some ⟨7, s.lpxLimit n - s.lpxShare d.dst except, 0⟩
          else none
        | _ => none
      match lpx with
      | some r => some r
      | none => if s.streamRefused d except then some ⟨8, d.stream, 0⟩ else none

/-- The slot checks of REASON 10 and 11 on the needs of a request. -/
def State.slotRefuse (s : State) (except : Option Nat) (safe : Bool) (l : List Need) : Option Refuse :=
  match s.lacking except false l with
  | some p => some ⟨10, portDetail p, 0⟩
  | none => if safe then (s.lacking except true l).map (fun p => ⟨11, portDetail p, 0⟩) else none

/-- Grant the needs. -/
def State.grant (s : State) (except : Option Nat) (safe : Bool) (l : List Need) : List PortSlots :=
  l.filterMap (s.placeNeed except safe)

/-- A mode 0 request on a path (R238, R240). -/
def State.planPush (s : State) (d : Desc) (except : Option Nat) (leg : List (Nat × Nat)) : Refuse ⊕ Plan :=
  let f := flitsPer d
  let fixed := s.tIn d.src + tPath leg + (tPath leg + 1024)
  let k := (d.lat / 512 - fixed) / 1024 - 1
  let want := slotsFor f d.period (max 1 k)
  let met := decide (fixed + 2048 ≤ d.lat / 512) && decide (want ≤ 896)
  let cnt := if met then want else max 1 (ceilDiv f d.period)
  let needs := (legNeeds leg d.src cnt).foldl addNeed []
  match s.slotRefuse except d.foldSafe needs with
  | some r => .inl r
  | none =>
    if met then .inr ⟨512 * (fixed + tQueue f cnt), cnt, 0, s.grant except d.foldSafe needs, [legPorts leg]⟩
    else
      let most := s.mostData except d.foldSafe ((legNeeds leg d.src 1).foldl addNeed [] |>.filter (fun n => decide (n.data ≠ 0)))
      .inl ⟨12, 0, 512 * (fixed + tQueue f most)⟩

/-- A mode 1 request on its two paths (R238, R242): among the pairs that meet the latency the fewest slots in total, then the smaller S. -/
def State.planRead (s : State) (d : Desc) (except : Option Nat) (req rsp : List (Nat × Nat)) : Refuse ⊕ Plan :=
  let f := flitsPer d
  let q := 2 * packetsPer d
  let fixed := s.tIn d.src + tPath req + service d.dst + s.tIn d.dst + tPath rsp + (max (tPath req) (tPath rsp) + 1024)
  let k := (d.lat / 512 - fixed) / 1024 - 2
  let pairs := (List.range (k - 1)).map (fun i => (slotsFor q d.period (i + 1), slotsFor f d.period (k - 1 - i)))
  let ok := pairs.filter (fun p => decide (p.1 ≤ 896) && decide (p.2 ≤ 896))
  let better := fun (a b : Nat × Nat) => decide (a.1 + a.2 < b.1 + b.2) || (decide (a.1 + a.2 = b.1 + b.2) && decide (a.2 < b.2))
  let best := ok.foldl (fun (acc : Option (Nat × Nat)) p => match acc with
    | none => some p
    | some b => if better p b then some p else acc) none
  let met := best.isSome && decide (fixed + 4096 ≤ d.lat / 512)
  let least := max (max 1 (ceilDiv f d.period)) 1
  let pair := if met then best.getD (least, least) else (least, least)
  let needsOf := fun (a b : Nat) => (legNeeds req d.src a ++ legNeeds rsp d.dst b).foldl addNeed []
  let needs := needsOf pair.1 pair.2
  match s.slotRefuse except d.foldSafe needs with
  | some r => .inl r
  | none =>
    if met then
      .inr ⟨512 * (fixed + tQueue q pair.1 + tQueue f pair.2), pair.1, pair.2, s.grant except d.foldSafe needs,
        [legPorts req, legPorts rsp]⟩
    else
      let most := fun (l : List (Nat × Nat)) => s.mostData except d.foldSafe
        ((needsOf 0 0).filter (fun n => (legPorts l).contains n.port))
      .inl ⟨12, 0, 512 * (fixed + tQueue q (most req) + tQueue f (most rsp))⟩

/-- An admission's outcome (R236 to R242), on the routes of a bank. -/
def State.admitOn (s : State) (bank : Nat) (d : Desc) (except : Option Nat) : Refuse ⊕ Plan :=
  match s.path bank d.src d.dst with
  | .inr r => .inl ⟨9, rtrEp r 31, 0⟩
  | .inl leg =>
    if d.mode = 0 then s.planPush d except leg
    else match s.path bank d.dst d.src with
      | .inr r => .inl ⟨9, rtrEp r 31, 0⟩
      | .inl rsp => s.planRead d except leg rsp

/-- The checks of R236 in order. -/
def State.admitCheck (s : State) (d : Desc) (except : Option Nat) : Refuse ⊕ Plan :=
  match s.admitEarly d except with
  | some r => .inl r
  | none => s.admitOn s.epoch d except

/-! ### Mailboxes (R233 to R235, R246 to R248, R257) -/

/-- The request in a mailbox. -/
def State.mailbox (s : State) (m : Nat) : Desc :=
  { src := s.getR Reg.THY_REQ_SRC_EP m, dst := s.getR Reg.THY_REQ_DST_EP m, bytes := s.getR Reg.THY_REQ_BYTES_BYTES m,
    period := s.getR Reg.THY_REQ_PERIOD_FRAMES m, lat := s.getR Reg.THY_REQ_LAT_TICKS m,
    prio := s.getR Reg.THY_REQ_CFG_EXCESS_PRIO m, rigidSrc := s.flag Reg.THY_REQ_CFG_RIGID_SRC m,
    rigidDst := s.flag Reg.THY_REQ_CFG_RIGID_DST m, mode := s.getR Reg.THY_REQ_CFG_MODE m,
    foldSafe := s.flag Reg.THY_REQ_CFG_FOLD_SAFE m, maxlen := s.getR Reg.THY_REQ_CFG_MAXLEN m,
    stream := s.getR Reg.THY_REQ_STREAM_INDEX m, streamEn := s.flag Reg.THY_REQ_STREAM_EN m }

/-- The descriptor a contract is stored with. -/
def State.stored (s : State) (id : Nat) : Desc :=
  { src := s.getR Reg.THY_CT_EP_SRC id, dst := s.getR Reg.THY_CT_EP_DST id, bytes := s.getR Reg.THY_CT_RATE_BYTES id,
    period := s.getR Reg.THY_CT_CFG_PERIOD id, lat := (s.contract id).lat, prio := s.getR Reg.THY_CT_CFG_EXCESS_PRIO id,
    rigidSrc := s.flag Reg.THY_CT_CFG_RIGID_SRC id, rigidDst := s.flag Reg.THY_CT_CFG_RIGID_DST id,
    mode := s.getR Reg.THY_CT_CFG_MODE id, foldSafe := s.flag Reg.THY_CT_CFG_FOLD_SAFE id,
    maxlen := s.getR Reg.THY_CT_CFG_MAXLEN id, stream := s.getR Reg.THY_CT_STREAM_INDEX id,
    streamEn := s.flag Reg.THY_CT_STREAM_EN id }

/-- The ID an ADMIT assigns (R227). -/
def State.freeId (s : State) : Nat :=
  ((List.range 4095).find? (fun i => !s.contractIds.contains (i + 1))).elim 0 (· + 1)

/-- A contract holds a slot of a fold port that is not fold-safe (R239, R255). -/
def foldExposed (own : List PortSlots) : Bool := own.any (fun o => foldPort o.port && o.data.any (fun x => !foldSafe x))

/-- Put a contract's parts. -/
def State.putContract (s : State) (id : Nat) (c : Contract) : State :=
  s.modThy (fun t => { t with contracts := Map.put t.contracts id c })

/-- A plan takes effect for a contract (R236, R255): LIVE, its slots taken, its credit full. -/
def State.applyPlan (s : State) (id : Nat) (d : Desc) (p : Plan) : State :=
  let t := s.putContract id ⟨p.own, [], p.legs, flitsPer d, flitsPer d * d.period * frameTicks, s.noc.clock, 0, d.lat⟩
  let t := ((t.setR Reg.THY_CT_EP_SRC id d.src).setR Reg.THY_CT_EP_DST id d.dst).setR Reg.THY_CT_RATE_BYTES id d.bytes
  let t := ((t.setR Reg.THY_CT_CFG_PERIOD id d.period).setR Reg.THY_CT_CFG_EXCESS_PRIO id d.prio).setR
    Reg.THY_CT_CFG_RIGID_SRC id (bit d.rigidSrc)
  let t := ((t.setR Reg.THY_CT_CFG_RIGID_DST id (bit d.rigidDst)).setR Reg.THY_CT_CFG_MODE id d.mode).setR
    Reg.THY_CT_CFG_MAXLEN id d.maxlen
  let t := ((t.setR Reg.THY_CT_CFG_FOLD_SAFE id (bit d.foldSafe)).setR Reg.THY_CT_BOUND_TICKS id p.bound).setR
    Reg.THY_CT_SLOTS_FWD id p.fwd
  let t := ((t.setR Reg.THY_CT_SLOTS_RSP id p.rsp).setR Reg.THY_CT_STAT_FOLD_EXPOSED id (bit (foldExposed p.own))).setR
    Reg.THY_CT_STAT_LAST_CAUSE id 0
  let t := ((t.setR Reg.THY_CT_STAT_BREACHES id 0).setR Reg.THY_CT_STREAM_INDEX id d.stream).setR
    Reg.THY_CT_STREAM_EN id (bit d.streamEn)
  t.setCstate id 1

/-- A mailbox operation takes its place (R235): behind every one that came in an earlier cycle, and among those of this cycle in mailbox order. -/
def State.boxQueue (s : State) (x : Nat × Nat × Nat) : List (Nat × Nat × Nat) :=
  let after := fun (e : Nat × Nat × Nat) => decide (s.getR Reg.THY_ARR e.1 = s.cycle) && decide (x.1 < e.1)
  s.thy.queue.filter (fun e => !after e) ++ x :: s.thy.queue.filter after

/-- A mailbox operation starts: BUSY until it is answered. -/
def State.boxStart (s : State) (m op id : Nat) : State :=
  let t := (((s.setR Reg.THY_REQ_STAT_STATE m 1).setR Reg.THY_REQ_STAT_ABORT_LATE m 0).setR Reg.THY_REQ_STAT_REASON m 0).setR
    Reg.THY_ARR m s.cycle
  t.modThy (fun y => { y with queue := s.boxQueue (m, op, id) })

/-- A mailbox operation ends. -/
def State.boxEnd (s : State) (m state : Nat) : State :=
  ((s.setR Reg.THY_REQ_STAT_STATE m state).irqEdge (16 + m)).modThy (fun y => { y with queue := y.queue.filter (fun e => decide (e.1 ≠ m)) })

/-- A mailbox operation is refused (R237, R247, R257). -/
def State.boxRefuse (s : State) (m op id : Nat) (r : Refuse) : State :=
  let t := ((((s.boxEnd m 4).setR Reg.THY_REQ_STAT_REASON m r.reason).setR Reg.THY_REQ_RDETAIL_DETAIL m r.detail).setR
    Reg.THY_REQ_BOUND_TICKS m r.bound).setR Reg.THY_REQ_STAT_ID m id
  t.raise thymeEp 0x0302 0 (id + r.reason * 2 ^ 12 + op * 2 ^ 16 + r.detail % 2 ^ 32 * 2 ^ 32)

/-- A mailbox operation succeeds: its commit point. -/
def State.boxDone (s : State) (m id : Nat) : State := ((s.boxEnd m 2).setR Reg.THY_REQ_STAT_ID m id).markCommit Reg.THY_CMT m

/-- A mailbox shows a plan (R233). -/
def State.boxPlan (s : State) (m : Nat) (p : Plan) : State :=
  (((s.setR Reg.THY_REQ_BOUND_TICKS m p.bound).setR Reg.THY_REQ_SLOTS_FWD m p.fwd).setR Reg.THY_REQ_SLOTS_RSP m p.rsp).setR
    Reg.THY_REQ_RDETAIL_DETAIL m 0

/-- A mailbox command of an operation (R233, R235): one that Thyme answers at once has its effect; else the operation waits, BUSY, in Thyme's
order, and the first that waits is answered by the next command of its row that says so (log 96). -/
def State.thyTurn (s : State) (m op id : Nat) (answered : Bool) (effect : Nat → State → State) : State :=
  if s.getR Reg.THY_REQ_STAT_STATE m = 1 then
    match s.thy.queue with
    | (m', op', id') :: _ => if answered && decide (m' = m) && decide (op' = op) then effect id' s else s
    | [] => s
  else
    let t := s.boxStart m op id
    if answered && s.thy.queue.isEmpty then effect id t else t

/-- ADMIT is answered (R236). -/
def State.admitNow (s : State) (m : Nat) : State :=
  match s.admitCheck (s.mailbox m) none with
  | .inl r => s.boxRefuse m 1 0 r
  | .inr p =>
    let id := s.freeId
    ((s.applyPlan id (s.mailbox m) p).boxPlan m p).boxDone m id |>.raise thymeEp 0x0301 0 (id + p.bound * 2 ^ 32)

/-- THY_ADMIT (R236): a write is ignored while the mailbox is BUSY; an operation not yet answered stays BUSY. -/
def execThyAdmit (m : Fin 8) (answered : Bool) (s : State) : Result := .next (s.thyTurn m 1 0 answered (fun _ t => t.admitNow m))

/-- SUSPEND is answered (R246, R247). -/
def State.suspendNow (s : State) (m i : Nat) : State :=
  if s.cstate i = 1 then (((s.setCstate i 2).pgeOutputLost i).boxDone m i).raise thymeEp 0x0304 0 i
  else if s.cstate i = 3 then s.boxDone m i
  else s.boxRefuse m 2 i ⟨14, 0, 0⟩

/-- THY_SUSPEND (R246, R247). -/
def execThySuspend (m : Fin 8) (id : BitVec 12) (answered : Bool) (s : State) : Result :=
  .next (s.thyTurn m 2 id.toNat answered (fun i t => t.suspendNow m i))

/-- The credit of a contract is full (R243). -/
def State.fullCredit (s : State) (id : Nat) : State :=
  let c := s.contract id
  s.putContract id { c with
    credit := c.flits * s.getR Reg.THY_CT_CFG_PERIOD id * frameTicks
    creditAt := s.noc.clock }

/-- RESUME is answered (R247). -/
def State.resumeNow (s : State) (m i : Nat) : State :=
  if s.cstate i = 2 then
    let a := s.getR Reg.THY_CT_EP_SRC i
    let b := s.getR Reg.THY_CT_EP_DST i
    if s.portState a ≠ 0 then s.boxRefuse m 3 i ⟨4, a, 0⟩
    else if s.portState b ≠ 0 then s.boxRefuse m 3 i ⟨4, b, 0⟩
    else (((s.setCstate i 1).fullCredit i).boxDone m i).raise thymeEp 0x0305 0 i
  else s.boxRefuse m 3 i ⟨if s.cstate i = 3 then 15 else 14, 0, 0⟩

/-- THY_RESUME (R247). -/
def execThyResume (m : Fin 8) (id : BitVec 12) (answered : Bool) (s : State) : Result :=
  .next (s.thyTurn m 3 id.toNat answered (fun i t => t.resumeNow m i))

/-- TEARDOWN is answered (R246). -/
def State.teardownNow (s : State) (m i : Nat) : State :=
  if s.cstate i = 0 || s.cstate i = 4 then s.boxRefuse m 4 i ⟨14, 0, 0⟩
  else
    let t := (s.setCstate i 4).putContract i { s.contract i with drainAt := s.noc.clock }
    (if s.cstate i = 1 then t.pgeOutputLost i else t).boxDone m i

/-- THY_TEARDOWN (R246). -/
def execThyTeardown (m : Fin 8) (id : BitVec 12) (answered : Bool) (s : State) : Result :=
  .next (s.thyTurn m 4 id.toNat answered (fun i t => t.teardownNow m i))

/-- READMIT is answered (R247): the checks of ADMIT, and a fresh placement. -/
def State.readmitNow (s : State) (m i : Nat) : State :=
  if s.cstate i ≠ 3 then s.boxRefuse m 5 i ⟨14, 0, 0⟩
  else match s.admitEarly (s.stored i) (some i) with
    | some r => s.boxRefuse m 5 i r
    | none => match s.admitOn s.epoch (s.stored i) none with
      | .inl r => s.boxRefuse m 5 i r
      | .inr p => (((s.applyPlan i (s.stored i) p).boxPlan m p).boxDone m i).raise thymeEp 0x0305 0 i

/-- THY_READMIT (R247). -/
def execThyReadmit (m : Fin 8) (id : BitVec 12) (answered : Bool) (s : State) : Result :=
  .next (s.thyTurn m 5 id.toNat answered (fun i t => t.readmitNow m i))

/-- THY_ABORT (R38, R248): an operation that has not reached its commit point ends ABORTED and leaves nothing; in the cycle of its commit point the abort is late. -/
def execThyAbort (m : Fin 8) (s : State) : Result :=
  if s.getR Reg.THY_REQ_STAT_STATE m = 1 then .next (s.boxEnd m 3)
  else s.when (decide (s.getR Reg.THY_REQ_STAT_STATE m = 2) && s.inCommitCycle Reg.THY_CMT m) (s.setR Reg.THY_REQ_STAT_ABORT_LATE m 1)

/-- THY_TIMEOUT (R234): an ADMIT or READMIT that has not committed. -/
def execThyTimeout (m : Fin 8) (s : State) : Result :=
  match s.thy.queue.find? (fun e => decide (e.1 = m.val)) with
  | some (_, op, id) =>
    if op = 1 || op = 5 then
      let t := (((s.boxEnd m 4).setR Reg.THY_REQ_STAT_REASON m 13).setR Reg.THY_REQ_RDETAIL_DETAIL m 0).setR Reg.THY_REQ_STAT_ID m id
      .next (t.raise thymeEp 0x0308 2 (id + m.val * 2 ^ 12))
    else .next s
  | none => .next s

/-- The fields of a FREE contract read as 0 (R255). -/
def ctFields : List Field :=
  [Reg.THY_CT_EP_SRC, Reg.THY_CT_EP_DST, Reg.THY_CT_RATE_BYTES, Reg.THY_CT_CFG_PERIOD, Reg.THY_CT_CFG_EXCESS_PRIO,
   Reg.THY_CT_CFG_RIGID_SRC, Reg.THY_CT_CFG_RIGID_DST, Reg.THY_CT_CFG_MODE, Reg.THY_CT_CFG_MAXLEN, Reg.THY_CT_CFG_FOLD_SAFE,
   Reg.THY_CT_BOUND_TICKS, Reg.THY_CT_SLOTS_FWD, Reg.THY_CT_SLOTS_RSP, Reg.THY_CT_STAT_CSTATE, Reg.THY_CT_STAT_FOLD_EXPOSED,
   Reg.THY_CT_STAT_LAST_CAUSE, Reg.THY_CT_STAT_BREACHES, Reg.THY_CT_STREAM_INDEX, Reg.THY_CT_STREAM_EN]

/-- CONTRACT_DRAIN_END (R246): B has elapsed since the teardown's commit point. -/
def execContractDrainEnd (id : BitVec 12) (s : State) : Result :=
  let i := id.toNat
  s.when (decide (s.cstate i = 4) && decide (s.getR Reg.THY_CT_BOUND_TICKS i ≤ s.noc.clock - (s.contract i).drainAt))
    (((s.resetFields ctFields i).modThy (fun y => { y with contracts := Map.erase y.contracts i })).thyCount.raise thymeEp 0x0306 0 i)

/-! ### The ingress (R243 to R245) -/

/-- The credit of a contract now, in flits times PERIOD frames' ticks (R243). -/
def State.creditNow (s : State) (id : Nat) : Nat :=
  let c := s.contract id
  min (c.flits * s.getR Reg.THY_CT_CFG_PERIOD id * frameTicks) (c.credit + c.flits * (s.noc.clock - c.creditAt))

/-- The credit of a contract covers a packet (R243). -/
def State.creditCovers (s : State) (f flits : Nat) : Bool :=
  decide (flits * s.getR Reg.THY_CT_CFG_PERIOD f * frameTicks ≤ s.creditNow f)

/-- A CLASS 1 packet's flow is an admitted contract of its source, to its destination (R245). -/
def State.admittedFlow (s : State) (p : Packet) : Bool :=
  let st := s.cstate p.flow
  (decide (st = 1) || decide (st = 2) || decide (st = 3)) && decide (s.getR Reg.THY_CT_EP_SRC p.flow = p.src)

/-- The deadline an ingress stamps (R244). -/
def State.stamp (s : State) (id : Nat) : Nat :=
  (s.time.toNat + s.getR Reg.THY_CT_BOUND_TICKS id + 65535) / 65536 % 2 ^ 24

/-- A packet whose SRC_DEV is filled in enters through its source's ingress (R189, R243 to R245). -/
def State.ingressWith (s : State) (p : Packet) : State :=
  if !p.cls then s.inject { p with vc := if 5 ≤ p.kind ∧ p.kind ≤ 7 then 1 else 2, deadline := 0 }
  else if !s.admittedFlow p || decide (s.getR Reg.THY_CT_EP_DST p.flow ≠ p.dest) then
    match kindOf p.src with
    | .nap _ => s.raise p.src 0x0231 2 (p.flow + p.src * 2 ^ 16)
    | _ => s
  else
    let need := (p.len + 1) * s.getR Reg.THY_CT_CFG_PERIOD p.flow * frameTicks
    let have_ := s.creditNow p.flow
    if s.cstate p.flow = 1 ∧ need ≤ have_ then
      (s.putContract p.flow { s.contract p.flow with credit := have_ - need, creditAt := s.noc.clock }).inject
        { p with vc := 0, deadline := s.stamp p.flow }
    else s.inject { p with cls := false, prio := s.getR Reg.THY_CT_CFG_EXCESS_PRIO p.flow, deadline := 0, vc := 2 }

/-- A packet enters through its source's ingress (R189). -/
def State.ingress (s : State) (p : Packet) : State :=
  s.ingressWith { p with srcDev := if p.xdev then s.getR Reg.DEV_SYSID_ID 0 else 0 }

/-- INGRESS_ACCEPT (R243). -/
def execIngressAccept (p : Packet) (s : State) : Result := .next (s.ingress p)

/-! ### Route updates (R199, R254) -/

/-- The route tables after Thyme has written a bank: a copy of the other with the changes. -/
def writeBank (routes : Map Nat) (live : Nat) (changes : List RouteChange) : Map Nat :=
  let keep := routes.filter (fun e => decide (e.1 / 384 % 2 = live))
  let copied := keep.foldl (fun m e =>
    Map.put m (routeKey (e.1 / 768) (1 - live) (e.1 % 384)) e.2) keep
  changes.foldl (fun m c => Map.set (dimRoute c.router c.entry) m (routeKey c.router (1 - live) c.entry) c.value) copied

/-- The legs' ports of a contract on a bank. -/
def State.legsOn (s : State) (bank id : Nat) : Option (List (List Nat)) :=
  let d := s.stored id
  match s.path bank d.src d.dst with
  | .inr _ => none
  | .inl l =>
    if d.mode = 0 then some [legPorts l]
    else match s.path bank d.dst d.src with
      | .inr _ => none
      | .inl r => some [legPorts l, legPorts r]

/-- Thyme suspends a contract by breach and notifies both ends (R250, R251). -/
def State.thymeBreach (s : State) (id cause : Nat) : State :=
  if s.cstate id = 1 ∨ s.cstate id = 2 then (s.suspendBreach id).breach id cause thymeEp 0 true true else s

/-- One contract under a route update: kept on its old path, placed on its new one, or suspended (R254). -/
def State.remap (s : State) (bank id : Nat) : State :=
  if s.cstate id ≠ 1 ∧ s.cstate id ≠ 2 then s
  else
    let c := s.contract id
    match s.legsOn bank id with
    | none => s.thymeBreach id 9
    | some legs =>
      if legs = c.legs then s
      else match s.admitOn bank { s.stored id with lat := s.getR Reg.THY_CT_BOUND_TICKS id } (some id) with
        | .inl _ => s.thymeBreach id 9
        | .inr p =>
          (((s.putContract id { c with own := p.own, old := c.own, legs := p.legs }).setR Reg.THY_CT_SLOTS_FWD id p.fwd).setR
            Reg.THY_CT_SLOTS_RSP id p.rsp).setR Reg.THY_CT_STAT_FOLD_EXPOSED id (bit (foldExposed p.own))

/-- A route update commits (R199): the idle bank is written, the ingress epoch flips, contracts are remapped. -/
def State.routeUpdate (s : State) (changes : List RouteChange) : State :=
  let live := s.epoch
  let t := s.modNoc (fun n => { n with routes := writeBank n.routes live changes })
  let t := s.contractIds.foldl (fun u id => u.remap (1 - live) id) t
  ((t.setR Reg.NOC_EPOCH_INGRESS 0 (1 - live)).setR Reg.NOC_EPOCH_OLD_LIVE 0 1).setR Reg.NOC_COMMIT_AT 0 s.cycle

/-- ROUTE_UPDATE (R199): queued while the old bank is live. -/
def execRouteUpdate (changes : List RouteChange) (s : State) : Result :=
  if s.flag Reg.NOC_EPOCH_OLD_LIVE 0 then .next (s.modNoc (fun n => { n with updates := n.updates ++ [changes] }))
  else .next (s.routeUpdate changes)

/-- ROUTE_UPDATE_ABORT (R199): update n of the queue has not committed. -/
def execRouteUpdateAbort (n : Nat) (s : State) : Result :=
  .next (s.modNoc (fun c => { c with updates := c.updates.eraseIdx n }))

/-- A packet of the old epoch is in the network. -/
def State.oldEpochLeft (s : State) : Bool :=
  s.noc.net.any (fun e => decide (e.pkt.epoch ≠ s.epoch)) || s.noc.wake.any (fun e => e.2.any (fun p => decide (p.epoch ≠ s.epoch)))

/-- ROUTE_EPOCH_RELEASE (R199): the old bank becomes idle, and the next queued update starts. -/
def execRouteEpochRelease (s : State) : Result :=
  if s.flag Reg.NOC_EPOCH_OLD_LIVE 0 && !s.oldEpochLeft then
    let t := (s.setR Reg.NOC_EPOCH_OLD_LIVE 0 0).wrapAdd Reg.NOC_EPOCH_UPDATES 0 1
    let t := t.raise (rtrEp 90 31) 0x020B 0 ((s.cycle - s.getR Reg.NOC_COMMIT_AT 0) / 512 % 2 ^ 32 * 2 ^ 64)
    let t := t.modThy (fun y => { y with contracts := y.contracts.map (fun e => (e.1, { e.2 with old := [] })) })
    match s.noc.updates with
    | [] => .next t
    | c :: rest => .next ((t.modNoc (fun n => { n with updates := rest })).routeUpdate c)
  else .next s

/-- SYSID_WRITE (R18): only while no cross-device contract or DCL peer flow is open, which is a contract that names a stream of
TYPE 4 (R335). -/
def execSysidWrite (value : BitVec 32) (s : State) : Result :=
  let open_ := s.contractIds.any (fun i => s.flag Reg.THY_CT_STREAM_EN i
    && decide (s.getR Reg.DCL_STR_CFG_TYPE (s.getR Reg.THY_CT_STREAM_INDEX i) = 4))
  s.when (!open_) (s.setR Reg.DEV_SYSID_ID 0 value.toNat)

end Sys2Proof.Machine
end

