-- ==== Sys2Proof/Machine/Interconnect.lean ====
section
/-!
DEFINITION. The fixed-delay interconnect's crossings between clocks, select upsets, the network access point, and the isolation of
regions (R143 to R178).
-/

namespace Sys2Proof.Machine

/-! ### DCQ channels (R154 to R160) -/

/-- Change a channel. -/
def State.modDcq (s : State) (c : Nat) (f : Dcq → Dcq) : State :=
  s.modIc (fun i => { i with dcqs := Map.set dcq0 i.dcqs c (f (s.dcq c)) })

/-- A write of a channel at an edge of its write clock (R155, R156): with W_FULL at 1 it is discarded and counted, whatever isolates the writer; else an isolated writer's
is nothing, for its channel stays empty (R159). -/
def State.dcqWrite (s : State) (rg q : Nat) (data : BitVec 72) : State :=
  let c := rg * 4 + q
  if !(s.dcq c).configured then s
  else if s.dcqFull c then
    let t := (s.satAdd Reg.FAB_RGN_DCQ_DISC c 1).setR Reg.FAB_RGN_DCQ_OVF c 1
    if s.flag Reg.FAB_RGN_DCQ_OVF c then t else t.raise (napEp rg) 0x0923 2 (rgnDetail rg + q * 2 ^ 12)
  else if s.isolated rg then s
  else s.modDcq c (fun d => { d with entries := d.entries ++ [data] })

/-- DCQ_WRITE (R155, R156). -/
def execDcqWrite (fd : Fin 8) (rgn_ : Fin 384) (q : Fin 4) (data : BitVec 72) (s : State) : Result :=
  s.when (s.regionClocked (rgn fd rgn_)) (s.dcqWrite (rgn fd rgn_) q data)

/-- DCQ_ENTRY_PRESENT (R157, R158): the next entry has crossed. -/
def execDcqEntryPresent (fd : Fin 8) (rgn_ : Fin 384) (q : Fin 4) (s : State) : Result :=
  let c := rgn fd rgn_ * 4 + q.val
  let d := s.dcq c
  s.when (decide (d.present < d.entries.length) && s.regionClocked d.dstRegion)
    (s.modDcq c (fun d => { d with present := d.present + 1,
                                   last := if d.present = 0 then d.entries.head?.getD d.last else d.last }))

/-- R_RD with R_VALID at 1 removes the head entry (R154, R157). -/
def State.dcqRead (s : State) (c : Nat) : State :=
  if 0 < (s.dcq c).present then
    s.modDcq c (fun d => { d with entries := d.entries.tail, present := d.present - 1, unreported := d.unreported + 1,
                                  last := if 1 < d.present then d.entries.tail.head?.getD d.last else d.last })
  else s

/-- DCQ_READ (R154, R157). -/
def execDcqRead (fd : Fin 8) (rgn_ : Fin 384) (q : Fin 4) (s : State) : Result :=
  let c := rgn fd rgn_ * 4 + q.val
  s.when (s.regionClocked (s.dcq c).dstRegion) (s.dcqRead c)

/-- DCQ_REMOVAL_REPORT (R91, R155): it has crossed to the write clock, which runs. -/
def execDcqRemovalReport (fd : Fin 8) (rgn_ : Fin 384) (q : Fin 4) (s : State) : Result :=
  let c := rgn fd rgn_ * 4 + q.val
  s.when (decide (0 < (s.dcq c).unreported) && s.regionClocked (rgn fd rgn_)) (s.modDcq c (fun d => { d with unreported := d.unreported - 1 }))

/-- Flush every channel with an end in a region (R159). -/
def State.dcqFlush (s : State) (rg : Nat) : State :=
  s.modIc (fun i => { i with dcqs := i.dcqs.map (fun e =>
    if e.1 / 4 = rg ∨ e.2.dstRegion = rg then (e.1, { e.2 with entries := [], present := 0, unreported := 0, last := 0 }) else e) })

/-! ### Select upsets (R161) -/

/-- A select with one of its bits flipped. -/
def flipSel (sel : List Nat) (b : Nat) : List Nat := if sel.contains b then sel.filter (fun x => !decide (x = b)) else b :: sel

/-- XBAR_SEL_UPSET (R161): bit `bit` of multiplexer `mux` of a region flips. -/
def execXbarSelUpset (fd : Fin 8) (rgn_ : Fin 384) (mux : Nat) (bit : Nat) (s : State) : Result :=
  let rg := rgn fd rgn_
  let key := muxKey rg (mux % 2 ^ 18)
  let sel := flipSel (Map.get [] s.ic.sels key) bit
  let t := s.modIc (fun i => { i with sels := Map.set [] i.sels key sel })
  if oneHot sel || s.flag Reg.FAB_RGN_STAT_SELERR rg then .next t
  else .next ((t.setR Reg.FAB_RGN_STAT_SELERR rg 1).raise (napEp rg) 0x0920 2 (rgnDetail rg))

/-! ### The network access point (R163 to R169) -/

/-- The transmit DCQ of 32 flits has room for a packet (R97). -/
def State.txRoom (s : State) (rg n : Nat) : Bool := fitsQueue (s.txHeld rg) 32 n

/-- A packet that user logic has sent is complete at the NAP (R164): one whose flit count disagrees with its length field is discarded whole. -/
def State.napSend (s : State) (rg : Nat) (p : Packet) : State :=
  let e := napEp rg
  let q := { p with src := e, status := 0 }
  if q.data.length ≠ q.len then s.raise e 0x0231 2 (q.flow + e * 2 ^ 16) else s.ingress q

/-- NAP_TX_PACKET (R163, R164): the region's outputs are live, so its TX interface carries the packet, and its flits are accepted while the transmit DCQ has room. -/
def execNapTxPacket (fd : Fin 8) (rgn_ : Fin 384) (p : Packet) (s : State) : Result :=
  let rg := rgn fd rgn_
  if !s.edgeLive rg || !s.regionClocked rg || s.napWithdrawn rg || !s.txRoom rg (p.data.length + 1) then .next s
  else .next (s.napSend rg p)

/-- The packets delivered to an endpoint that nothing has taken yet. -/
def State.inbox (s : State) (e : Nat) : List Packet := Map.get [] s.noc.inbox e

/-- Put the packets waiting at an endpoint. -/
def State.putInbox (s : State) (e : Nat) (l : List Packet) : State :=
  s.modNoc (fun n => { n with inbox := Map.set [] n.inbox e l })

/-- The first packet of a list that satisfies a test, and the rest. -/
def takeFirst (f : Packet → Bool) : List Packet → Option (Packet × List Packet)
  | [] => none
  | p :: l => if f p then some (p, l) else (takeFirst f l).map (fun r => (r.1, p :: r.2))

/-- A packet's flits as RX presents them (R163, R166, R167, R206): the data of a response whose check failed are poisoned too. -/
def rxFlits (p : Packet) : List RxFlit :=
  ⟨hdrBits p, true, false, false, false⟩ ::
    p.data.zipIdx.map (fun e =>
      let l := decide (e.2 + 1 = p.data.length)
      ⟨e.1.bits, false, l, e.1.poison || p.poison || (crcFails p && decide (p.kind = 2)), l && crcFails p⟩)

/-- A contract packet arrives after its deadline (R194, R251). -/
def State.lateAt (s : State) (e : Nat) (p : Packet) : State :=
  if p.cls && !s.meets p.deadline then s.raise e 0x0307 3 (p.flow % 2 ^ 12 + p.deadline % 2 ^ 24 * 2 ^ 12) else s

/-- The receive DCQ of 32 flits takes a packet's flits; those for which it has no room yet wait behind them in the network (R165). -/
def rxTake (r : RegionIc) (l : List RxFlit) : RegionIc :=
  { r with rx := (r.rx ++ l).take 32, rxWait := (r.rx ++ l).drop 32 }

/-- User logic accepts the flit that RX presents, and a flit that waited moves up. -/
def rxAccept (r : RegionIc) : RegionIc := { r with rx := r.rx.drop 1 ++ r.rxWait.take 1, rxWait := r.rxWait.drop 1 }

/-- The packet at a NAP whose turn it is to enter the receive DCQ, and the rest: the oldest that is no memory-mapped request; while the DCQ is full, only a contract
packet, which meets it so (R165). -/
def State.rxNext (s : State) (rg : Nat) : Option (Packet × List Packet) :=
  let full := decide (32 ≤ (s.region rg).rx.length) || !(s.region rg).rxWait.isEmpty
  takeFirst (fun p => !isRequest p && (!full || p.cls)) (s.inbox (napEp rg))

/-- NAP_RX_DELIVER (R163, R165, R194): the next packet enters the receive DCQ; a contract packet for whose flits it has no room is discarded whole. -/
def execNapRxDeliver (fd : Fin 8) (rgn_ : Fin 384) (s : State) : Result :=
  let rg := rgn fd rgn_
  let e := napEp rg
  match s.rxNext rg with
  | none => .next s
  | some (p, rest) =>
    if s.isolated rg then .next s
    else if p.cls && decide (32 < (s.region rg).rx.length + (s.region rg).rxWait.length + flits p) then
      .next (((s.putInbox e rest).raise e 0x0232 3 p.flow).breach p.flow 5 (rtrSrc (epRtr e)) p.deadline true true)
    else .next (((s.putInbox e rest).lateAt e p).modRegion rg (fun r => rxTake r (rxFlits p)))

/-- A request's access is naturally aligned and of 4 or 8 bytes (R23). -/
def wordAccess (p : Packet) : Bool :=
  (decide (p.size = 4) && decide (p.addr % 4 = 0)) || (decide (p.size = 8) && decide (p.addr % 8 = 0))

/-- The word a request to a window or page carries. -/
def writeValue (p : Packet) : Nat := payload p % 256 ^ p.size

/-- Answer a request with a decode error and its event (R24). -/
def State.decodeAnswer (s : State) (e : Nat) (p : Packet) : State := (s.unmappedAt e p).answerStatus e p 1

/-- A hard endpoint receives a kind it does not serve (R208). -/
def State.kindReject (s : State) (e : Nat) (p : Packet) : State :=
  let t := s.raise e 0x020C 2 (nocDetail p)
  if isRequest p then t.answerStatus e p 1 else t.notice (epRtr e) e p.src 5 p

/-- NAP_MM_REQUEST (R166, R168): the oldest request becomes the one presented. -/
def execNapMmRequest (fd : Fin 8) (rgn_ : Fin 384) (s : State) : Result :=
  let rg := rgn fd rgn_
  let e := napEp rg
  match takeFirst isRequest (s.inbox e) with
  | none => .next s
  | some (p, rest) =>
    if s.isolated rg || !(s.region rg).mm.isEmpty then .next s
    else if !wordAccess p then .next ((s.putInbox e rest).decodeAnswer e p)
    else .next (((s.putInbox e rest).lateAt e p).modRegion rg (fun r => { r with mm := [⟨p, true⟩] }))

/-- The request presented is completed by MM_ACK (R168). -/
def State.mmAck (s : State) (rg : Nat) (err : Bool) (rdata : BitVec 64) : State :=
  let e := napEp rg
  match (s.region rg).mm with
  | [] => s
  | m :: rest =>
    let t := s.modRegion rg (fun r => { r with mm := rest })
    if err then t.decodeAnswer e m.pkt
    else if m.pkt.kind = 1 then
      t.injectAt (epRtr e) (t.served m.pkt
        (toFlits (rdata.toNat / 2 ^ (8 * (m.pkt.addr % 8)) % 256 ^ m.pkt.size) m.pkt.size false))
    else t.injectAt (epRtr e) (t.served m.pkt [])

/-- NAP_MM_ACK (R166, R168): on an edge of the region's clock, with its outputs live; `err` is MM_ERR, `rdata` MM_RDATA. -/
def execNapMmAck (fd : Fin 8) (rgn_ : Fin 384) (err : Bool) (rdata : BitVec 64) (s : State) : Result :=
  let rg := rgn fd rgn_
  s.when (s.regionClocked rg && s.edgeLive rg) (s.mmAck rg err rdata)

/-- NAP_MM_TIMEOUT (R168, R169). -/
def execNapMmTimeout (fd : Fin 8) (rgn_ : Fin 384) (s : State) : Result :=
  let rg := rgn fd rgn_
  let e := napEp rg
  match (s.region rg).mm with
  | [] => .next s
  | m :: rest =>
    .next (((s.modRegion rg (fun r => { r with mm := rest })).decodeAnswer e m.pkt).raise e 0x0230 2
      (m.pkt.addr % 2 ^ 24 + m.pkt.src % 2 ^ 16 * 2 ^ 32))

/-! ### Clock selection and isolation (R148, R149, R170 to R178) -/

/-- REGION_CLK_SEL_WRITE (R148, R149): a write of FAB_RGN_CLK with its two fields. -/
def execRegionClkSelWrite (fd : Fin 8) (rgn_ : Fin 384) (sel : BitVec 4) (clearRej : Bool) (s : State) : Result :=
  let s := s.touchRegion (rgn fd rgn_)
  let rg := rgn fd rgn_
  let t := if clearRej then s.setR Reg.FAB_RGN_CLK_SEL_REJ rg 0 else s
  if s.isolated rg then .next (t.setR Reg.FAB_RGN_CLK_SEL rg sel.toNat)
  else if sel.toNat = s.getR Reg.FAB_RGN_CLK_SEL rg then .next t
  else .next (t.setR Reg.FAB_RGN_CLK_SEL_REJ rg 1)

/-- What a plain-mode connection carries to its pin: what the pin register gives (R264, R265), or its border value while the region's outputs are held (R267). -/
def State.padValue (s : State) (key : Nat) (p : Pad) : Bool :=
  if s.outputsLive (key / 2 ^ 18) then p.level s.noc.clock
  else if p.border = 0 then false else if p.border = 1 then true else p.held

/-- The spine outputs and pin connections of a region hold their last value from the commit point on (R170, R267). -/
def State.holdBorders (s : State) (rg : Nat) : State :=
  (s.modIc (fun i => { i with spines := i.spines.map (fun e =>
    if e.2.srcRegion = rg then (e.1, { e.2 with held := s.spinePort rg e.2.srcPort }) else e) })).modTio (fun x =>
      { x with pads := x.pads.map (fun e => if e.1 / 2 ^ 18 = rg then (e.1, { e.2 with held := s.padValue e.1 e.2 }) else e) })

/-- The flits of a packet partly delivered are discarded (R171). -/
def dropPartial : List RxFlit → List RxFlit
  | [] => []
  | f :: l => if f.sop then f :: l else dropPartial l

/-- A header flit's fields (R189), in front of its data flits. -/
def parsePacket (h : Nat) (data : List Flit) : Packet :=
  { dest := h % 2 ^ 16, src := h / 2 ^ 16 % 2 ^ 16, prio := h / 2 ^ 32 % 8, cls := nbit h 35, flow := h / 2 ^ 36 % 2 ^ 12, epoch := h / 2 ^ 48 % 2,
    len := h / 2 ^ 49 % 32, kind := h / 2 ^ 54 % 16, poison := nbit h 58, deadline := h / 2 ^ 128 % 2 ^ 24, xdev := nbit h 152,
    destDev := h / 2 ^ 153 % 64, srcDev := h / 2 ^ 159 % 64, status := h / 2 ^ 165 % 16, size := h / 2 ^ 169 % 2 ^ 11, addr := h / 2 ^ 192 % 2 ^ 48,
    tag := h / 2 ^ 240 % 256, user := h / 2 ^ 256 % 2 ^ 256, vc := 2, data := data }

/-- A TX packet whose last flit has not been accepted when its NAP closes is completed to its length with poisoned flits (R171, R218). -/
def State.completeTx (s : State) (rg : Nat) : State :=
  match (s.region rg).tx with
  | [] => s
  | h :: data =>
    let p := parsePacket h.bits data
    (s.modRegion rg (fun r => { r with tx := [] })).napSend rg
      { p with data := data ++ List.replicate (p.len - data.length) ⟨0, true⟩ }

/-- The packets that wait at a closing NAP meet a closed port, and the request presented is answered per R24 (R171); a packet partly sent is completed, one partly
delivered loses the rest, and what of it is in the receive DCQ stays without an EOP, DESIGN CHOICE (notes/assumptions/87). -/
def State.napClose (s : State) (rg : Nat) : State :=
  let s := s.completeTx rg
  let e := napEp rg
  let ms := (s.region rg).mm
  let ps := s.inbox e
  let t := (s.putInbox e []).modRegion rg (fun r => { r with mm := [], rx := dropPartial r.rx, rxWait := [] })
  let t := ms.foldl (fun u m => u.decodeAnswer e m.pkt) t
  ps.foldl (fun u p => u.closedPort (epRtr e) p false) t

/-! ### Fabric interrupt lines (R557, R558) -/

/-- The region crossbar's destination port that drives fabric interrupt line i of region 383 (R558); the number is the model's. -/
def irqPort (i : Nat) : Nat := 24000 + i

/-- Fabric interrupt line i of a die as the interrupt controller sees it: 0 while region 383 is isolated (R557, R558). -/
def State.fabLine (s : State) (fd i : Nat) : State :=
  let rg := fd * 384 + 383
  let n := 512 + 64 * fd + i
  let v := s.presented rg (irqPort i) && !s.isolated rg
  if v && !s.flag Reg.PLIC_LEVEL n then (s.setR Reg.PLIC_LEVEL n 1).irqEdge n else s.setR Reg.PLIC_LEVEL n (bit v)

/-- The interrupt lines of a region, where it is a die's region 383. -/
def State.fabLines (s : State) (rg : Nat) : State :=
  if rg % 384 = 383 then (List.range 64).foldl (fun t i => t.fabLine (rg / 384) i) s else s

/-- Put a region's causes of isolation, and what FAB_RGN_STAT shows of them (R174, R177). -/
def State.setCauses (s : State) (rg : Nat) (l : List Nat) : State :=
  (((s.modRegion rg (fun r => { r with causes := l })).setR Reg.FAB_RGN_STAT_CAUSE rg (l.head?.getD 0)).setR
    Reg.FAB_RGN_STAT_ISOLATED rg (bit (!l.isEmpty))).fabLines rg

/-- A cause of isolation begins at its commit point (R159, R170 to R178). -/
def State.isolate (s : State) (rg cause : Nat) : State :=
  let l := cause :: (s.region rg).causes.filter (fun c => !decide (c = cause))
  if s.isolated rg then (s.setCauses rg l).napPort rg l
  else
    (((((s.holdBorders rg).setCauses rg l).dcqFlush rg).napPort rg l).napClose rg).raise (napEp rg) 0x0921 0
      (rgnDetail rg + 2 ^ 12 + cause * 2 ^ 13)

/-- A cause of isolation ends (R174, R178): the region leaves isolation when none is left. -/
def State.unisolate (s : State) (rg cause : Nat) : State :=
  let l := (s.region rg).causes.filter (fun c => !decide (c = cause))
  let t := (s.setCauses rg l).napPort rg l
  if l.isEmpty && s.isolated rg then t.raise (napEp rg) 0x0921 0 (rgnDetail rg + cause * 2 ^ 13) else t

/-- A software isolation operation of a region starts (R39, R177). -/
def State.isoStart (s : State) (rg : Nat) : State :=
  (s.setR Reg.FAB_RGN_STAT_ABORT_LATE rg 0).setR Reg.FAB_RGN_STAT_REASON rg 0

/-- A software isolation operation ends at once. -/
def State.isoEnd (s : State) (rg st reason : Nat) : State :=
  (s.setR Reg.FAB_RGN_STAT_STATE rg st).setR Reg.FAB_RGN_STAT_REASON rg reason

/-- A software isolation operation waits for its time (R172). -/
def State.isoWait (s : State) (rg op : Nat) : State :=
  ((s.setR Reg.FAB_RGN_STAT_STATE rg 1).setR Reg.RGN_ISOOP rg op).setR Reg.RGN_ISOT rg (s.getR Reg.FAB_RGN_ISO_AT rg)

/-- A software isolation is requested (R173, R175). -/
def State.isoReq (s : State) (rg : Nat) : State :=
  let t := s.isoStart rg
  if s.getR Reg.FAB_RGN_STAT_STATE rg = 1 then s
  else if !(s.admittedAt (napEp rg)).isEmpty then t.isoEnd rg 4 1
  else if s.isolated rg then t.isoEnd rg 2 0
  else t.isoWait rg 1

/-- FAB_RGN_ISO_REQ (R173, R175). -/
def execFabRgnIsoReq (fd : Fin 8) (rgn_ : Fin 384) (s : State) : Result :=
  .next ((s.touchRegion (rgn fd rgn_)).isoReq (rgn fd rgn_))

/-- Software leaves an isolation (R174, R175). -/
def State.isoExit (s : State) (rg : Nat) : State :=
  let t := s.isoStart rg
  if s.getR Reg.FAB_RGN_STAT_STATE rg = 1 then s
  else if (s.region rg).causes.contains 1 then t.isoWait rg 2
  else t.isoEnd rg 4 2

/-- FAB_RGN_ISO_EXIT (R174, R175): the write also holds EXITMODE. -/
def execFabRgnIsoExit (fd : Fin 8) (rgn_ : Fin 384) (mode : Bool) (s : State) : Result :=
  let s := s.touchRegion (rgn fd rgn_)
  .next ((s.setR Reg.FAB_RGN_ISO_EXITMODE (rgn fd rgn_) (bit mode)).isoExit (rgn fd rgn_))

/-- An abort of a software isolation operation (R38, R172): ABORTED before the commit point, late in its cycle. -/
def State.isoAbort (s : State) (rg : Nat) : State :=
  if s.getR Reg.RGN_ISOOP rg ≠ 0 then (s.setR Reg.RGN_ISOOP rg 0).setR Reg.FAB_RGN_STAT_STATE rg 3
  else if s.getR Reg.FAB_RGN_STAT_STATE rg = 2 ∧ s.inCommitCycle Reg.RGN_CMT rg = true then s.setR Reg.FAB_RGN_STAT_ABORT_LATE rg 1
  else s

/-- FAB_RGN_ISO_ABORT (R38, R172). -/
def execFabRgnIsoAbort (fd : Fin 8) (rgn_ : Fin 384) (s : State) : Result :=
  .next ((s.touchRegion (rgn fd rgn_)).isoAbort (rgn fd rgn_))

/-- The isolations that wait at a region, ISO_REQ's and those of Dawn, Dusk and the readback engine, which are due. -/
def State.isoDue (s : State) (rg : Nat) : List Nat :=
  (if s.getR Reg.RGN_ISOOP rg = 1 ∧ s.due (s.getR Reg.RGN_ISOT rg) then [1] else [])
    ++ ((s.region rg).isoPend.filter (fun e => s.due e.2)).map (fun e => e.1)

/-- The elastic contracts that end in a region: those with an endpoint at its NAP that is not rigid there (R226, R250). -/
def State.elasticAt (s : State) (rg : Nat) : List Nat :=
  (s.contractsAt (napEp rg)).filter (fun i =>
    !((s.flag Reg.THY_CT_CFG_RIGID_SRC i && decide (s.getR Reg.THY_CT_EP_SRC i = napEp rg))
      || (s.flag Reg.THY_CT_CFG_RIGID_DST i && decide (s.getR Reg.THY_CT_EP_DST i = napEp rg))))

/-- A region's isolation by a partial configuration suspends its elastic contracts (R250, cause 11). -/
def State.reconfigBreach (s : State) (rg : Nat) : State := (s.elasticAt rg).foldl (fun u i => u.thymeBreach i 11) s

/-- ISOLATION_COMMIT (R172): every isolation of the region whose time has come. -/
def execIsolationCommit (fd : Fin 8) (rgn_ : Fin 384) (s : State) : Result :=
  let rg := rgn fd rgn_
  let l := s.isoDue rg
  let t := l.foldl (fun u c => u.isolate rg c) (if l.contains 2 then s.reconfigBreach rg else s)
  let t := t.modRegion rg (fun r => { r with isoPend := r.isoPend.filter (fun e => !s.due e.2) })
  .next (if l.contains 1 && decide (s.getR Reg.RGN_ISOOP rg = 1)
    then ((t.setR Reg.RGN_ISOOP rg 0).setR Reg.FAB_RGN_STAT_STATE rg 2).markCommit Reg.RGN_CMT rg else t)

/-! ### Hold and staged release (R139 to R142) -/

/-- A region's resources are held (R139, R140): outputs at their border values, flip-flops at SV, RAM outputs and MAC registers 0, writes ignored. No step of
an earlier release is due any more. -/
def State.holdRegion (s : State) (rg : Nat) : State :=
  let s := if s.outputsLive rg then s.holdBorders rg else s
  let t := (((s.setR Reg.FAB_OUTHOLD rg 1).setR Reg.FAB_WRHOLD rg 1).setR Reg.FAB_STHOLD rg 1).setR Reg.FAB_RELP rg 0
  t.modFab (fun f => { f with
    rams := (List.range 4).foldl (fun m b =>
      let r := Map.get ram0 m (rg * 4 + b)
      Map.set ram0 m (rg * 4 + b) { r with stA := none, stA2 := none, dA := ramOut0, stB := none, stB2 := none, dB := ramOut0 }) f.rams
    macs := (List.range 8).foldl (fun m i =>
      let c := Map.get mac0 m (rg * 8 + i)
      Map.set mac0 m (rg * 8 + i) { mac0 with pre := c.pre, sat := c.sat }) f.macs })

/-- Entries of a table whose region, by a divisor of the key, does not satisfy a test. -/
def outside {α : Type} (p : Nat → Bool) (d : Nat) (m : Map α) : Map α := m.filter (fun e => !p (e.1 / d))

/-- RAM contents return to what configuration gave them (R117, R140, R141): all zeros where it gave none, valid bits clear with invalidate-on-configure. -/
def State.restoreRam (s : State) (p : Nat → Bool) : State :=
  s.modFab (fun f =>
    let l := f.ramInit.filter (fun e => p (e.1 / 4096) && !(Map.get ram0 f.rams (e.1 / 1024)).invOnCfg)
    { f with
      ramWords := l.foldl (fun m e => Map.set ramWord0 m e.1 e.2) (outside p 4096 f.ramWords)
      ramOld := outside p 4096 f.ramOld })

/-- DETAIL of an event that concerns a frame. -/
def frameDetail (frame : Nat) : Nat := frame % 2 ^ 21 * 2 ^ 32

/-- The address of a frame (R603). -/
def frameAddr (rg frame : Nat) : Nat := rg / 384 + 4 + rg % 384 * 2 ^ 4 + frame % 256 * 2 ^ 13

/-- The isolation that a release ends, at a region's OUTHOLD release (R170, R616, R621). -/
def State.endIsolation (s : State) (rg cause : Nat) : State :=
  match cause with
  | 0 => s
  | 2 => (s.unisolate rg 5).unisolate rg 2
  | 3 => (s.unisolate rg 3).raise dawnEp 0x090C 1 (frameDetail (frameAddr rg 0))
  | c => s.unisolate rg c

/-- What a flip-flop shows from the edge that releases STHOLD onward: its start value, or RSVAL where its asynchronous set/reset was asserted up to that edge, whose removal
is not through yet (R105, R142). -/
def ffStart (f : FfCfg) (held : Bool) : Bool := if f.async && held then f.rsval else f.sv

/-- A region's flip-flops stand at their start values when STHOLD is released, and asserted set/resets act (R104, R105, R142). -/
def State.startFfs (s : State) (rg : Nat) : State :=
  let cls := s.clustersOf rg
  let t := (s.modFab (fun f => { f with
    ffs := f.cells.foldl (fun m e =>
      if e.1 / 4096 = rg then Map.set ⟨false, false⟩ m e.1 ⟨ffStart e.2.ff0 (decide (Map.get 0 f.rsHold (2 * e.1) = 1)),
        ffStart e.2.ff1 (decide (Map.get 0 f.rsHold (2 * e.1 + 1) = 1))⟩ else m) f.ffs })).setR Reg.FAB_STHOLD rg 0
  let t := cls.foldl (fun u cl => u.asyncSettle rg cl) t
  cls.foldl (fun u cl => u.asyncSettle rg cl) t

/-- A step of a release takes effect in a region (R139, R140, R159): 0 OUTHOLD, 1 WRHOLD, 2 STHOLD, 3 all three asserted again (R141). -/
def State.regionStep (s : State) (rg step cause : Nat) : State :=
  match step with
  | 0 => (s.setR Reg.FAB_OUTHOLD rg 0).endIsolation rg cause
  | 1 => s.setR Reg.FAB_WRHOLD rg 0
  | 2 => (s.startFfs rg).dcqFlush rg
  | _ => s.holdRegion rg

/-- A step of a release for a region: it applies it at the first edge of its clock from now on (R139). The hold of a warm fabric reset comes at once where the region receives
no edges (R141). -/
def State.askStep (s : State) (rg step cause : Nat) : State :=
  if decide (step = 3) && !s.regionClocked rg then s.holdRegion rg
  else
    let t := s.setR Reg.FAB_RELP rg (if step = 3 then 8 else setBit (s.getR Reg.FAB_RELP rg) step)
    if step = 0 then t.setR Reg.FAB_RELC rg cause else t

/-- What waited for an edge of the region's clock takes effect at it: a hold first, then the steps of the release in their order. FAB_JUST keeps for the commands of this
edge which holds governed it. -/
def State.regionSteps (s : State) (rg : Nat) : State :=
  let v := s.getR Reg.FAB_RELP rg
  if v = 0 then s
  else
    let c := s.getR Reg.FAB_RELC rg
    let t := if nbit v 3 then s.regionStep rg 3 0 else s
    let t := (List.range 3).foldl (fun u k => if nbit v k then u.regionStep rg k c else u) t
    (t.setR Reg.FAB_JUST rg (v % 4)).setR Reg.FAB_RELP rg 0

/-- A region is held as far as it can be. -/
def State.held (s : State) (rg : Nat) : Bool :=
  s.flag Reg.FAB_OUTHOLD rg && s.flag Reg.FAB_WRHOLD rg && s.flag Reg.FAB_STHOLD rg && decide (s.getR Reg.FAB_RELP rg = 0)

/-- ISOLATION_EXIT_COMMIT (R174): the exit edge; mode 1 starts the staged release there, with its T_r, from the start values and what configuration gave the RAM. -/
def execIsolationExitCommit (fd : Fin 8) (rgn_ : Fin 384) (s : State) : Result :=
  let rg := rgn fd rgn_
  if s.getR Reg.RGN_ISOOP rg = 2 ∧ s.due (s.getR Reg.RGN_ISOT rg) then
    let t := ((s.setR Reg.RGN_ISOOP rg 0).setR Reg.FAB_RGN_STAT_STATE rg 2).markCommit Reg.RGN_CMT rg
    if s.flag Reg.FAB_RGN_ISO_EXITMODE rg && (decide ((s.region rg).causes = [1])) then
      let t := ((t.holdRegion rg).restoreRam (fun x => decide (x = rg))).setR Reg.FAB_OUTHOLD rg 0
      let rel : Release := ⟨[rg], s.time, s.releaseS [rg], 1, false, 0, 1⟩
      .next ((t.modFab (fun f => { f with rels := Map.put f.rels s.newRel rel })).unisolate rg 1)
    else .next (t.unisolate rg 1)
  else .next s

end Sys2Proof.Machine
end

