-- ==== Sys2Proof/Machine/Addr.lean ====
section
/-!
DEFINITION. Which endpoint serves an address, and the requests that engines send (R19 to R22, R187).
-/

namespace Sys2Proof.Machine

/-- The endpoint that serves an address; none for an address nothing serves (R19, R187). -/
def State.addrEp (s : State) (a : Nat) : Option Nat :=
  if a < 0x4000000000 then (s.lpxMap a).map (fun e => lpxEp e.1)
  else if (0x4000000000 ≤ a ∧ a < 0x4004000000) ∨ (0x4010000000 ≤ a ∧ a < 0x4014000000) ∨ (0x4020000000 ≤ a ∧ a < 0x4024000000) then
    let o := a % 0x10000000
    some (ep (o / 0x1000000) (12 * (o % 0x1000000 / 0x40000 / 8) + 5) 8)
  else if 0x4100000000 ≤ a ∧ a < 0x4102000000 then some (ep ((a - 0x4100000000) / 0x800000) 84 8)
  else if 0x4200000000 ≤ a ∧ a < 0x4202000000 then
    let m := (a - 0x4200000000) / 0x40000
    some (ep (m / 32) (24 * (m % 32 / 8)) 11)
  else if 0x5000000000 ≤ a ∧ a < 0x5C00000000 then some (napEp ((a - 0x5000000000) / 0x1000000))
  else if 0x6000000000 ≤ a ∧ a < 0x6000200000 then
    (if 0x6000100000 ≤ a then some thymeEp else if a < 0x6000080000 then some pkgEp else none)
  else if 0x6100000000 ≤ a ∧ a < 0x6104000000 then some (bdWinEp ((a - 0x6100000000) / 0x1000000))
  else if 0x6200000000 ≤ a ∧ a < 0x6208000000 then some (fdWinEp ((a - 0x6200000000) / 0x1000000))
  else if 0x7000000000 ≤ a ∧ a < 0x7000800000 then some (ep 0 90 15)
  else none

/-- A request packet of an endpoint: a contract's where `flow` is some, else best effort. -/
def request (src dest kind addr size prio tag : Nat) (flow : Option Nat) (data : List Flit) : Packet :=
  { dest := dest, src := src, prio := prio, cls := flow.isSome, flow := flow.getD 0, len := max 1 data.length, kind := kind,
    size := size, addr := addr, tag := tag, data := if data.isEmpty then [flit0] else data }

/-- An engine asks for bytes of memory: a READ_REQ into the network; an address that nothing serves is answered at once with a decode error
(R24), which the answer `false` tells. DESIGN CHOICE (log 93): the SOURCE of that ADDR_UNMAPPED is the engine itself, since no endpoint serves the address and
the spec states no SOURCE there. -/
def State.sendRead (s : State) (src addr size prio tag : Nat) (flow : Option Nat) : State × Bool :=
  match s.addrEp addr with
  | some d => (s.ingress (request src d 1 addr size prio tag flow []), true)
  | none => (s.raise src 0x0201 2 (addr % 2 ^ 48 + src % 2 ^ 16 * 2 ^ 48), false)

/-- An engine writes bytes of memory: a WRITE_REQ into the network. DESIGN CHOICE (log 93): as at `State.sendRead`, the engine is the SOURCE of ADDR_UNMAPPED. -/
def State.sendWrite (s : State) (src addr size data prio tag : Nat) (flow : Option Nat) (poison : Bool := false) : State × Bool :=
  match s.addrEp addr with
  | some d => (s.ingress (request src d 3 addr size prio tag flow (toFlits data size poison)), true)
  | none => (s.raise src 0x0201 2 (addr % 2 ^ 48 + src % 2 ^ 16 * 2 ^ 48), false)

end Sys2Proof.Machine
end

