-- ==== Sys2Proof/Machine/MspState.lean ====
section
/-!
DEFINITION. The parts of a measurement signal processor that are no registers, and the cycles it runs, waits and loses (R430 to R434, R462).
-/

namespace Sys2Proof.Machine

/-- An MSP with nothing in progress. -/
def msp0 : Msp :=
  { stack := [], timeHi := 0, cacheLo := 0, cache := [], rep := none, fresh := none, wait := none, stopReq := false, resumeReq := false,
    queues := [], ahead := none, idle := none, stall := none }

/-- An MSP's parts. -/
def State.mspx (s : State) (m : Nat) : Msp := Map.get msp0 s.msp m

/-- Change an MSP's parts. -/
def State.modMspx (s : State) (m : Nat) (f : Msp → Msp) : State := s.modMsp (fun k => Map.set msp0 k m (f (s.mspx m)))

/-- An MSP executes: RUNNING and not in a WAIT. -/
def State.mspRuns (s : State) (m : Nat) : Bool := decide (s.getR Reg.MSP_STAT_STATE m = 5) && (s.mspx m).wait.isNone

/-- Cycles pass for an MSP (R462). -/
def State.mspCycles (s : State) (m n : Nat) : State := s.wrapAdd Reg.MSP_CYCLES_COUNT m n

/-- Since when the MSP's cycles pass without an instruction: it waits, stalls at a SEND, or has left its run. -/
def Msp.restsSince (k : Msp) : Option Nat :=
  match k.wait with
  | some w => some w.since
  | none => match k.stall with
    | some t => some t
    | none => k.idle

/-- Cycles since a reading of the NoC clock: 2,560 ticks make three (R426). -/
def State.cyclesSince (s : State) (t : Nat) : Nat := s.elapsed t * 3 / 2560

/-- What MSP_CYCLES shows: the cycles counted, and those since the MSP rests (R462). -/
def State.mspCount (s : State) (m : Nat) : Nat :=
  (s.getR Reg.MSP_CYCLES_COUNT m + (((s.mspx m).restsSince.map s.cyclesSince).getD 0)) % 2 ^ 32

/-- An access that goes ahead of a running MSP costs it the cycles in which it wanted that memory too: at most one a word (R433). The spec states
no number for a command, so it is a free value up to that bound (log 41). -/
def State.mspLose (s : State) (m bound : Nat) : State :=
  if s.mspRuns m then
    let lost := (Config.freeWord s.free).toNat % (bound + 1)
    ((s.satAdd Reg.MSP_STALLS_COUNT m lost).mspCycles m lost).draw
  else s

/-- Background work on one of an MSP's memories takes it for some words (R433); other units have no MSP. -/
def State.mspLoseUnit (s : State) (unit bound : Nat) : State :=
  if unitCls unit = 2 then s.mspLose (unitBd unit * 32 + unitIdx unit / 3) bound else s

end Sys2Proof.Machine
end

