-- ==== Sys2Proof/Machine/OnChip.lean ====
section
/-!
DEFINITION. The shared on-chip memories: serving requests, scratchpad ownership, copy channels, invalidation, the repair queue,
scrubbing and row remapping (R465 to R496).
-/

namespace Sys2Proof.Machine

/-! ### Ranges of words -/

/-- Read n words from an aligned address; an upset strikes the first (R482). -/
def State.readWords (s : State) (a n req : Nat) (up : Option Upset) : List Rd × State :=
  (List.range n).foldl (fun acc j =>
    let x := acc.2.readWord (a + 8 * j) req (if j = 0 then up else none)
    (acc.1 ++ [x.1], x.2)) ([], s)

/-- The words that a byte range covers. -/
def wordsOf (a bytes : Nat) : Nat := (a % 8 + bytes + 7) / 8

/-- The bytes that words read from a range hold, byte 0 lowest. -/
def bytesOf (a bytes : Nat) (l : List Rd) : Nat :=
  (l.zipIdx.foldl (fun acc e => acc + e.1.data.toNat * 2 ^ (64 * e.2)) 0) / 2 ^ (8 * (a % 8)) % 2 ^ (8 * bytes)

/-- A data flit of a payload holds bytes of a poisoned word (R207). -/
def flitPoison (a : Nat) (l : List Rd) (i : Nat) : Bool :=
  l.zipIdx.any (fun e => e.1.poison && decide ((a % 8 + 64 * i) / 8 ≤ e.2) && decide (e.2 ≤ (a % 8 + 64 * i + 63) / 8))

/-- The data flits of a payload read from memory (R191, R207). -/
def memFlits (a bytes : Nat) (l : List Rd) : List Flit :=
  (List.range (flitsFor bytes)).map (fun i => ⟨bytesOf a bytes l / 2 ^ (512 * i) % 2 ^ 512, flitPoison a l i⟩)

/-- Write bytes, each word with its poison and in a window: 0 plain, 1 bit-set, 2 bit-clear (R473, R474, R485). -/
def State.writeWords (s : State) (a bytes data req : Nat) (poisonAt : Nat → Bool) (win : Nat) : State :=
  let d := data % 2 ^ (8 * bytes) * 2 ^ (8 * (a % 8))
  let be := (2 ^ bytes - 1) * 2 ^ (a % 8)
  (List.range (wordsOf a bytes)).foldl (fun t j =>
    t.writeWord (a / 8 * 8 + 8 * j) req (BitVec.ofNat 64 (d / 2 ^ (64 * j))) (be / 2 ^ (8 * j) % 256) (poisonAt j) win) s

/-- A memory serves a request packet: it reads or writes the range and answers (R191, R207, R433). -/
def State.memAnswer (s : State) (e a win : Nat) (p : Packet) (up : Option Upset) : State :=
  if p.kind = 1 then
    let r := s.readWords (a / 8 * 8) (wordsOf a p.size) p.src up
    r.2.injectAt (epRtr e) (r.2.served p (memFlits a p.size r.1))
  else
    let t := s.writeWords a p.size (payload p) p.src (wordPoison p) win
    t.injectAt (epRtr e) (t.served p [])

/-! ### Scratchpad ownership (R467 to R474) -/

/-- The scratchpad port of a bank. -/
def spdEp (bd bank : Nat) : Nat := ep bd (12 * (bank / 8) + 5) 8

/-- A byte range lies in one of the scratchpad's three windows (R19). -/
def inSpd (a n : Nat) : Bool :=
  decide (0 < n) && decide (0x4000000000 ≤ a) && decide (a < 0x4030000000) && decide (a % 0x10000000 + n ≤ 0x4000000)

/-- The window of an address: 0 plain, 1 bit-set, 2 bit-clear. -/
def spdWin (a : Nat) : Nat := (a - 0x4000000000) / 0x10000000

/-- The plain window's address of the same bytes. -/
def spdPlain (a : Nat) : Nat := 0x4000000000 + a % 0x10000000

/-- The banks that a range covers: base die × 64 + bank. -/
def spdBanks (a n : Nat) : List Nat :=
  let lo := a % 0x10000000 / 0x40000
  (List.range ((a % 0x10000000 + n - 1) / 0x40000 + 1 - lo)).map (fun i => lo + i)

/-- What becomes of a request to the scratchpad. -/
inductive SpdCheck where
  | unmapped
  | wait
  | deny (bank : Nat)
  | ok
deriving DecidableEq, Repr

/-- A requester is the owner of a bank, which is owned (R467). -/
def State.owns (s : State) (bank req : Nat) : Bool :=
  let o := s.getR Reg.SPD_OWN_EP bank
  decide (epRouter o < 96) && decide (o = req)

/-- The check of a request (R467, R469). -/
def State.spdCheck (s : State) (a n req : Nat) : SpdCheck :=
  if !inSpd a n then .unmapped
  else if (spdBanks a n).any (fun b => decide (s.getR Reg.SPD_OWN_STATE b = 1)) then .wait
  else match (spdBanks a n).find? (fun b => !s.owns b req) with
    | some b => .deny b
    | none => .ok

/-- A foreground access reaches the banks of a range (R697). -/
def State.spdTouch (s : State) (a n : Nat) : State :=
  (spdBanks a n).foldl (fun t b => t.midTouch (b / 64) 3 (b % 64)) s

/-- Count a denial (R467, R468). -/
def State.spdDeny (s : State) (bank req addr : Nat) (ownWr : Bool) : State :=
  let bd := bank / 64
  ((((s.satAdd Reg.SPD_DENY_COUNT bd 1).setR Reg.SPD_DENY_LAST_SRC bd req).setR Reg.SPD_DENY_LAST_BANK bd (bank % 64)).setR
    Reg.SPD_DENY_LAST_OWNWR bd (bit ownWr)).raise (spdEp bd (bank % 64)) 0x0107 2 (memDetail addr 0 0 req)

/-- A request that has passed its check is performed. -/
def State.spdServe (s : State) (r : MemReq) (up : Option Upset) : State :=
  let a := spdPlain r.addr
  if r.write then ((s.strike a up).writeWords a r.bytes r.data r.req (fun _ => r.poison) (spdWin r.addr)).respond 0 0
  else
    let x := s.readWords (a / 8 * 8) (wordsOf a r.bytes) r.req up
    (x.2.respond (bytesOf a r.bytes x.1) 0 (x.1.any (fun w => w.poison))).coreTakes r.req r.addr false

/-- A request reaches the scratchpad (R467, R469). -/
def State.spdAccess (s : State) (r : MemReq) (up : Option Upset) : State :=
  match s.dawnGuard (spdPlain r.addr) r.bytes r.req r.write with
  | some t => t.respond 0 2
  | none =>
  match s.spdCheck r.addr r.bytes r.req with
  | .unmapped => (s.decodeError (spdEp 0 0) r.addr r.req).coreTakes r.req r.addr r.write
  | .wait => s.modChip (fun c => { c with waiting := c.waiting ++ [r] })
  | .deny b => ((s.spdTouch r.addr r.bytes).spdDeny b r.req r.addr false).respond 0 2
  | .ok => (s.spdTouch r.addr r.bytes).spdServe r up

/-- SPD_ACCESS (R467): any request but an alias window's write. -/
def execSpdAccess (r : MemReq) (upset : Option Upset) (s : State) : Result :=
  if r.write = true ∧ spdWin r.addr ≠ 0 then .next s else .next (s.spdAccess r upset)

/-- SPD_ALIAS_UPDATE (R473, R474): a write through an alias window. -/
def execSpdAliasUpdate (r : MemReq) (upset : Option Upset) (s : State) : Result :=
  if r.write = true ∧ spdWin r.addr ≠ 0 then .next (s.spdAccess r upset) else .next s

/-- A request packet at a scratchpad port; none while it waits for a handover. -/
def State.spdPacket (s : State) (e : Nat) (p : Packet) : Option State :=
  match s.dawnGuard (spdPlain p.addr) p.size p.src (decide (p.kind = 3)) with
  | some t => some (t.answerStatus e p 2)
  | none =>
  match s.spdCheck p.addr p.size p.src with
  | .unmapped => some (s.decodeAnswer e p)
  | .wait => none
  | .deny b => some (((s.spdTouch p.addr p.size).spdDeny b p.src p.addr false).answerStatus e p 2)
  | .ok => some ((s.spdTouch p.addr p.size).memAnswer e (spdPlain p.addr) (spdWin p.addr) p none)

/-- A writer that R468 accepts for a bank. -/
def State.spdWriter (s : State) (bank req : Nat) : Bool := isMgmt req || s.owns bank req

/-- SPD_OWN_WRITE (R468, R469): a write of SPD_OWNn with ABORT at 0. -/
def execSpdOwnWrite (bd : Fin 4) (bank : Fin 64) (ep : BitVec 16) (req : BitVec 16) (s : State) : Result :=
  let b := bd.val * 64 + bank.val
  if !s.spdWriter b req.toNat then .next ((s.spdDeny b req.toNat 0 true).respond 0 2)
  else if s.getR Reg.SPD_OWN_STATE b = 1 then .next (s.respond 0 0)
  else
    .next (((((s.setR Reg.SPD_NEWEP b (ep.toNat / 4 * 4)).setR Reg.SPD_OWN_STATE b 1).setR Reg.SPD_OWN_ABORT_LATE b 0).midTouch
      bd 3 bank).respond 0 0)

/-! ### Copy channels (R476 to R479) -/

/-- A channel that has never started. -/
def copy0 : CopyCh := ⟨0, [], false, 0⟩

/-- A copy channel. -/
def State.copy (s : State) (k : Nat) : CopyCh := Map.get copy0 s.chip.copies k

/-- Change a copy channel. -/
def State.modCopy (s : State) (k : Nat) (f : CopyCh → CopyCh) : State :=
  s.modChip (fun c => { c with copies := Map.set copy0 c.copies k (f (Map.get copy0 c.copies k)) })

/-- The scratchpad port of channel k = base die × 8 + port. -/
def copyEp (k : Nat) : Nat := spdEp (k / 8) (k % 8 * 8)

/-- The scratchpad address of a byte of a copy. -/
def State.copyLocal (s : State) (k off : Nat) : Nat := 0x4000000000 + k / 8 * 0x1000000 + s.getR Reg.SPD_CPY_LOCAL_OFF k + off

/-- The remote address of a byte of a copy. -/
def State.copyRemote (s : State) (k off : Nat) : Nat := s.getR Reg.SPD_CPY_REMOTE_ADDR k + off

/-- The bytes of a chunk (R477). -/
def State.chunkLen (s : State) (k i : Nat) : Nat := min 1024 (s.getR Reg.SPD_CPY_LEN_BYTES k - 1024 * i)

/-- A channel halts (R478). -/
def State.copyFail (s : State) (k err rstatus done eaddr : Nat) : State :=
  (((((s.cpySt k 4).setR Reg.SPD_CPY_STAT_ERR k err).setR Reg.SPD_CPY_STAT_RSTATUS k rstatus).setR
    Reg.SPD_CPY_DONE_BYTES k done).setR Reg.SPD_CPY_EADDR_ADDR k eaddr).modCopy k (fun c => { c with outstanding := [] })
    |>.raise (copyEp k) 0x0108 2 (memDetail eaddr 0 0 (s.getR Reg.SPD_CPY_REQ_EP k) 0 false false err)

/-- The tag of a chunk's request. -/
def copyTag (c : CopyCh) (i : Nat) : Nat := c.gen % 4 * 64 + i % 64

/-- The first poisoned word of a list. -/
def firstPoison (l : List Rd) : Option Nat := (l.zipIdx.find? (fun e => e.1.poison)).map (fun e => e.2)

/-- What became of a request for chunk i: it is outstanding, or its remote range is mapped nowhere and the channel halts. -/
def copySent (r : State × Bool) (k i ra : Nat) : State :=
  if r.2 then r.1.modCopy k (fun c => { c with next := i + 1, outstanding := c.outstanding ++ [i] }) else r.1.copyFail k 3 1 (1024 * i) ra

/-- A chunk that has been read from the scratchpad is written to its remote range, or halts the channel at a poisoned word. -/
def State.copyWrite (s : State) (k i la : Nat) (ws : List Rd) : State :=
  match firstPoison ws with
  | some w => s.copyFail k 4 0 (1024 * i) (la + 8 * w)
  | none =>
    copySent (s.sendWrite (copyEp k) (s.copyRemote k (1024 * i)) (s.chunkLen k i) (bytesOf la (s.chunkLen k i) ws) (s.getR Reg.SPD_CPY_CFG_PRIO k)
      (copyTag (s.copy k) i) none) k i (s.copyRemote k (1024 * i))

/-- The scratchpad side of a copy to a remote range (R477). -/
def State.copyOut (s : State) (k i la n req : Nat) : State :=
  match s.spdCheck la n req with
  | .ok => ((s.spdTouch la n).readWords la (wordsOf la n) req none).2.copyWrite k i la ((s.spdTouch la n).readWords la (wordsOf la n) req none).1
  | .deny b => (s.spdDeny b req la false).copyFail k 2 0 (1024 * i) la
  | .unmapped => s.copyFail k 1 0 (1024 * i) la
  | .wait => s

/-- The channel sends a request for its next chunk, or halts. -/
def State.copyIssue (s : State) (k : Nat) : State :=
  let i := (s.copy k).next
  if s.flag Reg.SPD_CPY_CFG_DIR k then
    s.copyOut k i (s.copyLocal k (1024 * i)) (s.chunkLen k i) (s.getR Reg.SPD_CPY_REQ_EP k)
  else
    copySent (s.sendRead (copyEp k) (s.copyRemote k (1024 * i)) (s.chunkLen k i) (s.getR Reg.SPD_CPY_CFG_PRIO k) (copyTag (s.copy k) i) none) k i
      (s.copyRemote k (1024 * i))

/-- The channel may send another request (R477, R479). -/
def State.copyMay (s : State) (k : Nat) : Bool :=
  let c := s.copy k
  decide (s.getR Reg.SPD_CPY_STAT_STATE k = 1) && !c.stopping && !s.frozen Reg.CTL_FRZ_COPY (s.getR Reg.SPD_CPY_REQ_EP k) && decide (1024 * c.next < s.getR Reg.SPD_CPY_LEN_BYTES k)
    && decide (c.outstanding.length < (if s.flag Reg.SPD_CPY_CFG_DIR k then 1 else 4))

/-- The channel goes on as far as it can: at most four requests are outstanding. -/
def State.copyGo (s : State) (k : Nat) : State :=
  let s := (List.range 4).foldl (fun t _ => if t.copyMay k then t.copyIssue k else t) s
  if s.getR Reg.SPD_CPY_STAT_STATE k = 1 ∧ (s.copy k).outstanding = [] then
    if (s.copy k).stopping then s.cpySt k 6
    else if s.getR Reg.SPD_CPY_LEN_BYTES k ≤ 1024 * (s.copy k).next then
      (s.cpySt k 2).setR Reg.SPD_CPY_DONE_BYTES k (s.getR Reg.SPD_CPY_LEN_BYTES k)
    else s
  else s

/-- A remote range that a copy may use (R476). -/
def remoteOk (a n : Nat) : Bool :=
  decide (a + n ≤ 0x4000000000) || (decide (0x4100000000 ≤ a) && decide (a + n ≤ 0x4102000000))
    || (decide (0x4200000000 ≤ a) && decide (a < 0x4202000000) && decide ((a - 0x4200000000) % 0x40000 + n ≤ 0x30000))
    || (decide (0x5000000000 ≤ a) && decide (a < 0x5C00000000) && decide ((a - 0x5000000000) % 0x1000000 + n ≤ 0x1000000))

/-- SPD_COPY_START (R476): the source of the write becomes the channel's requester. -/
def execSpdCopyStart (bd : Fin 4) (c : Fin 8) (req : BitVec 16) (s : State) : Result :=
  let k := bd.val * 8 + c.val
  let len := s.getR Reg.SPD_CPY_LEN_BYTES k
  let off := s.getR Reg.SPD_CPY_LOCAL_OFF k
  if s.getR Reg.SPD_CPY_STAT_STATE k = 1 then .next s
  else
    let t := (s.resetFields [Reg.SPD_CPY_STAT_ERR, Reg.SPD_CPY_STAT_RSTATUS, Reg.SPD_CPY_DONE_BYTES, Reg.SPD_CPY_EADDR_ADDR] k).setR
      Reg.SPD_CPY_REQ_EP k req.toNat
    if len = 0 ∨ off / 0x200000 ≠ c.val ∨ (c.val + 1) * 0x200000 < off + len ∨ remoteOk (s.getR Reg.SPD_CPY_REMOTE_ADDR k) len = false then
      .next ((t.cpySt k 4).setR Reg.SPD_CPY_STAT_ERR k 1)
    else .next (((t.cpySt k 1).modCopy k (fun x => ⟨0, [], false, x.gen + 1⟩)).copyGo k)

/-- SPD_COPY_STOP (R479). -/
def execSpdCopyStop (bd : Fin 4) (c : Fin 8) (s : State) : Result :=
  let k := bd.val * 8 + c.val
  s.when (decide (s.getR Reg.SPD_CPY_STAT_STATE k = 1)) ((s.modCopy k (fun x => { x with stopping := true })).copyGo k)

/-- The words that a response carries for chunk i, with the poison of their flits (R207). -/
def State.chunkWords (s : State) (k i : Nat) (p : Packet) : List Rd :=
  (List.range (s.chunkLen k i / 8)).map (fun j =>
    ⟨BitVec.ofNat 64 (payload p / 2 ^ (64 * j)),
      crcFails p || p.poison || ((p.data[j / 8]?).map (fun f => f.poison)).getD true⟩)

/-- A chunk that was read arrives: none while a handover holds its bank (R469, R477, R478). -/
def State.copyRead (s : State) (k i : Nat) (p : Packet) : Option State :=
  let la := s.copyLocal k (1024 * i)
  let req := s.getR Reg.SPD_CPY_REQ_EP k
  match s.spdCheck la (s.chunkLen k i) req with
  | .wait => none
  | .deny b => some ((s.spdDeny b req la false).copyFail k 2 0 (1024 * i) la)
  | .unmapped => some (s.copyFail k 1 0 (1024 * i) la)
  | .ok =>
    let ws := s.chunkWords k i p
    let good := (firstPoison ws).getD ws.length
    let t := (ws.take good).zipIdx.foldl (fun u e => u.writeWord (la + 8 * e.2) req e.1.data) (s.spdTouch la (s.chunkLen k i))
    if good < ws.length then some (t.copyFail k 4 0 (1024 * i + 8 * good) (s.copyRemote k (1024 * i + 8 * good)))
    else some (t.setR Reg.SPD_CPY_DONE_BYTES k (1024 * i + s.chunkLen k i))

/-- SPD_COPY_RESPONSE (R477 to R479): the response to the oldest chunk requested, or one that no copy awaits. -/
def execSpdCopyResponse (bd : Fin 4) (c : Fin 8) (s : State) : Result :=
  let k := bd.val * 8 + c.val
  let e := copyEp k
  let rsp := fun (p : Packet) => decide (p.kind = 2) || decide (p.kind = 4)
  match (s.copy k).outstanding with
  | [] =>
    match takeFirst rsp (s.inbox e) with
    | some (_, rest) => .next (s.putInbox e rest)
    | none => .next s
  | i :: more =>
    match takeFirst (fun p => rsp p && decide (p.tag = copyTag (s.copy k) i)) (s.inbox e) with
    | none => .next s
    | some (p, rest) =>
      let t := (s.putInbox e rest).modCopy k (fun x => { x with outstanding := more })
      if p.status ≠ 0 then .next (t.copyFail k 3 p.status (1024 * i) (s.copyRemote k (1024 * i)))
      else if p.kind = 2 then
        match t.copyRead k i p with
        | some u => .next (u.copyGo k)
        | none => .next s
      else .next ((t.setR Reg.SPD_CPY_DONE_BYTES k (1024 * i + s.chunkLen k i)).copyGo k)

/-! ### Handover (R469 to R471) -/

/-- Waiting requests resume, in order. -/
def State.spdResume (s : State) : State :=
  let l := s.chip.waiting
  l.foldl (fun t r => t.spdAccess r none) (s.modChip (fun c => { c with waiting := [] }))

/-- The packets that wait at a scratchpad port are tried again, in the order of R231. -/
def State.spdRetry (s : State) (e : Nat) : State :=
  let l := (serveOrder (s.inbox e)).filter isRequest
  l.foldl (fun t p =>
    match t.spdPacket e p with
    | some u => u
    | none => t.putInbox e (t.inbox e ++ [p])) (s.putInbox e ((s.inbox e).filter (fun p => !isRequest p)))

/-- A bank holds the buffered segments of a stream (R607). -/
def State.buffers (s : State) (b : Nat) : Bool := s.flag Reg.BUF_ON 0 && decide (56 ≤ b) && decide (b < 64)

/-- SPD_HANDOVER_COMMIT (R469, R471, R607): not before Midnight has released the bank, nor while Dawn buffers a stream's segments in it. -/
def execSpdHandoverCommit (bd : Fin 4) (bank : Fin 64) (s : State) : Result :=
  let b := bd.val * 64 + bank.val
  if s.getR Reg.SPD_OWN_STATE b = 1 ∧ s.midHolds bd 3 bank = false ∧ s.buffers b = false then
    let t := (((s.setR Reg.SPD_OWN_EP b (s.getR Reg.SPD_NEWEP b)).setR Reg.SPD_OWN_STATE b 2).markCommit Reg.SPD_CMT b).spdResume
    let t := (List.range 32).foldl (fun u k => u.spdRetry (copyEp k)) t
    .next ((List.range 32).foldl (fun u k => if u.getR Reg.SPD_CPY_STAT_STATE k = 1 then u.copyGo k else u) t)
  else .next s

/-- SPD_HANDOVER_ABORT (R38, R468, R470): a write of SPD_OWNn with ABORT at 1. -/
def execSpdHandoverAbort (bd : Fin 4) (bank : Fin 64) (req : BitVec 16) (s : State) : Result :=
  let b := bd.val * 64 + bank.val
  if !s.spdWriter b req.toNat then .next ((s.spdDeny b req.toNat 0 true).respond 0 2)
  else if s.getR Reg.SPD_OWN_STATE b = 1 then
    let t := ((s.setR Reg.SPD_OWN_STATE b 3).respond 0 0).spdResume
    let t := (List.range 32).foldl (fun u k => u.spdRetry (copyEp k)) t
    .next ((List.range 32).foldl (fun u k => if u.getR Reg.SPD_CPY_STAT_STATE k = 1 then u.copyGo k else u) t)
  else if s.getR Reg.SPD_OWN_STATE b = 2 ∧ s.inCommitCycle Reg.SPD_CMT b = true then .next ((s.setR Reg.SPD_OWN_ABORT_LATE b 1).respond 0 0)
  else .next (s.respond 0 0)

/-! ### Invalidation (R480) -/

/-- A unit exists. -/
def unitOk (u : Nat) : Bool :=
  decide (unitCls u < 3) && decide (unitBd u < 4)
    && decide (unitIdx u < (if unitCls u = 0 then 64 else if unitCls u = 1 then 32 else 96))

/-- The word stored at a word number lies in a unit. -/
def inUnit (u k : Nat) : Bool :=
  match unitOf (8 * k) with
  | some (v, _) => decide (v = u)
  | none => false

/-- ECC_INV_STAT.BUSY and SPD_INVBUSY from the sweeps in progress. -/
def State.showSweeps (s : State) (u : Nat) : State :=
  let bd := unitBd u
  let l := s.chip.sweeps.filter (fun v => decide (unitBd v = bd))
  (s.setR Reg.ECC_INV_STAT_BUSY bd (bit (!l.isEmpty))).setR Reg.SPD_INVBUSY_BANKS bd
    (bitsOf 64 (fun i => l.contains (unitNo 0 bd i)))

/-- A bulk invalidate's commit point: every word of the unit reads as invalid, and the sweep begins. -/
def State.invalidate (s : State) (u : Nat) : State :=
  ((s.modMem (fun m => m.filter (fun e => !inUnit u e.1))).modChip (fun c =>
    { c with sweeps := if c.sweeps.contains u then c.sweeps else c.sweeps ++ [u] })).showSweeps u

/-- SPD_INV (R468, R480). -/
def execSpdInv (bd : Fin 4) (bank : Fin 64) (req : BitVec 16) (s : State) : Result :=
  let b := bd.val * 64 + bank.val
  if s.spdWriter b req.toNat then .next ((s.invalidate (unitNo 0 bd bank)).respond 0 0)
  else .next ((s.spdDeny b req.toNat 0 true).respond 0 2)

/-- ECC_INV (R480, R495). -/
def execEccInv (bd : Fin 4) (cls : BitVec 2) (unit : BitVec 7) (req : BitVec 16) (s : State) : Result :=
  let u := unitNo cls.toNat bd unit.toNat
  if !isMgmt req.toNat then .next (s.respond 0 2)
  else .next ((if unitOk u then s.invalidate u else s).respond 0 0)

/-- INVALIDATE_SWEEP_END (R480). -/
def execInvalidateSweepEnd (unit : Nat) (s : State) : Result :=
  .next ((s.modChip (fun c => { c with sweeps := c.sweeps.filter (fun v => decide (v ≠ unit)) })).showSweeps unit)

/-! ### Background work (R482 to R492) -/

/-- A background read of a word that its rewrite follows: errors raised with requester 0 unless queued, the word corrected or stored as
poison (R482, R483, R486). -/
def State.repairWord (s : State) (u w : Nat) (quiet : Bool) : State :=
  let k := unitAddr u w / 8
  let v := s.word k
  if !v.valid then s
  else match v.mark with
    | .single b => (if quiet then s else s.memCe u w b 0).putWord k { v with data := corrected v, mark := .clean }
    | .multi => (if quiet then s else s.memUe u w 0).putWord k { v with mark := .poison }
    | _ => s

/-- REPAIR_QUEUE_REWRITE (R482, R483): the oldest entry, unless a remap goes ahead of it (R475); a word that got worse since is a UE. -/
def execRepairQueueRewrite (unit : Nat) (s : State) : Result :=
  match s.rq unit with
  | [] => .next s
  | (w, ue) :: _ =>
    if (s.remapTurn unit).isSome then .next s
    else
    let t := s.rqDrop unit w
    let worse := !ue && decide ((s.word (unitAddr unit w / 8)).mark = .multi)
    .next ((t.repairWord unit w (!worse)).mspLoseUnit unit 1)

/-- Midnight tests an unowned bank (R486). -/
def State.midBank (s : State) (u : Nat) : Bool := decide (unitCls u = 0) && s.midHolds (unitBd u) 3 (unitIdx u)

/-- SCRUB_PASS_START (R486): PERIOD has passed since the unit's last start. -/
def execScrubPassStart (unit : Nat) (s : State) : Result :=
  let bd := unitBd unit
  let period := max 1 (s.getR Reg.ECC_SCRUB_PERIOD bd) * 2 ^ 30
  if s.flag Reg.ECC_SCRUB_EN bd && unitOk unit && decide (period ≤ s.since (Map.get 0 s.chip.scrubAt unit)) && !s.midBank unit then
    let t := s.modChip (fun c => { c with scrubAt := Map.set 0 c.scrubAt unit s.time.toNat })
    if (Map.find s.chip.scrub unit).isSome then
      let u := t.satAdd Reg.ECC_SCRUB_STAT_SKIPS bd 1
      .next (if s.getR Reg.ECC_SCRUB_STAT_SKIPS bd = 0 then u.raise (unitEp unit) 0x0109 2 (memDetail 0 (unitCls unit)) else u)
    else .next (t.modChip (fun c => { c with scrub := Map.put c.scrub unit 0 }))
  else .next s

/-- SCRUB_WORD_READ (R486): the next word of a pass, once no repair and no remap of the unit waits (R475). -/
def execScrubWordRead (unit : Nat) (upset : Option Upset) (s : State) : Result :=
  match Map.find s.chip.scrub unit with
  | none => .next s
  | some w =>
    if s.midBank unit || s.repairsFirst unit then .next s
    else
      let k := unitAddr unit w / 8
      let v := s.word k
      let t := (if v.valid then (s.putWord k (upsetWord v upset)).repairWord unit w (s.rqHas unit w) else s).mspLoseUnit unit 1
      if w + 1 < unitWords unit then .next (t.modChip (fun c => { c with scrub := Map.put c.scrub unit (w + 1) }))
      else .next ((t.modChip (fun c => { c with scrub := Map.erase c.scrub unit })).wrapAdd Reg.ECC_SCRUB_STAT_PASSES (unitBd unit) 1)

/-- The free spare rows of a base die (R465, R495): 1,152 less those in use. -/
def State.sparesFree (s : State) (bd : Nat) : Nat :=
  1152 - (s.chip.remaps.filter (fun e => decide (unitBd e.1 = bd))).foldl (fun n e => n + e.2.length) 0

/-- The word number of field-map entry i (R490). -/
def fieldMapKey (i : Nat) : Nat := (0x70007F0000 + 8 * i) / 8

/-- A word of the field map is an entry. -/
def isFieldMap (w : MemWord) : Bool := decide (w.data.toNat / 2 ^ 56 = 0xA5)

/-- What ECC_FMAP.USED shows: the entries that are not empty. -/
def State.fieldMapUsed (s : State) : Nat := ((List.range 2048).filter (fun i => isFieldMap (s.word (fieldMapKey i)))).length

/-- Write a field-map entry, or report that none is empty (R490). -/
def State.fieldMap (s : State) (u row spare : Nat) : State × Bool :=
  match (List.range 2048).find? (fun i => !isFieldMap (s.word (fieldMapKey i))) with
  | some i => (s.putWord (fieldMapKey i) ⟨BitVec.ofNat 64 (unitAddr u (16 * row) + spare * 2 ^ 48 + 0xA5 * 2 ^ 56), true, .clean⟩, true)
  | none =>
    if s.chip.mapFullRaised then (s, false)
    else ((s.modChip (fun c => { c with mapFullRaised := true })).raise (unitEp u) 0x0106 2 (memDetail (unitAddr u (16 * row)) (unitCls u)), false)

/-- A word of a row is copied to the spare (R489). -/
def State.copyRowWord (s : State) (u w : Nat) : State :=
  let queued := s.rqHas u w
  match (s.word (unitAddr u w / 8)).mark with
  | .multi => (s.repairWord u w queued).rqDrop u w
  | _ => s.repairWord u w true

/-- ROW_REMAP_COMMIT (R475, R489, R490): the oldest suspect row of the unit, once the repairs that were queued before it are done. -/
def execRowRemapCommit (unit : Nat) (s : State) : Result :=
  match s.remapTurn unit with
  | some (row, spare) =>
    let t := ((List.range 16).foldl (fun x i => x.copyRowWord unit (16 * row + i)) s).mspLoseUnit unit 16
    let t := t.modChip (fun c => { c with
      suspects := c.suspects.filter (fun e => decide (e ≠ (unit, row)))
      ahead := Map.erase c.ahead (rowKey unit row)
      remaps := Map.set [] c.remaps unit (Map.get [] c.remaps unit ++ [(row, spare)]) })
    let r := t.fieldMap unit row spare
    .next (r.1.raise (unitEp unit) 0x0105 1
      (memDetail (unitAddr unit (16 * row)) (unitCls unit) 0 0 spare false (!r.2)))
  | none => .next s

/-! ### Start-up (R492) -/

/-- A field-map entry is applied to its unit, or ignored and counted where its spare is in use or not there. -/
def State.applyFieldMap (s : State) (w : MemWord) : State :=
  let v := (corrected w).toNat
  if v / 2 ^ 56 ≠ 0xA5 then s
  else match unitOf (v % 2 ^ 48) with
    | none => s
    | some (u, k) =>
      let sp := v / 2 ^ 48 % 256
      if unitSpares u ≤ sp ∨ (Map.get [] s.chip.remaps u).any (fun r => decide (r.2 = sp)) = true then s.satAdd Reg.ECC_SPARE_MAPERR (unitBd u) 1
      else s.modChip (fun c => { c with remaps := Map.set [] c.remaps u (Map.get [] c.remaps u ++ [(k / 16, sp)]) })

/-- The factory fuse map, then the field map in entry order. -/
def State.applySparing (s : State) : State :=
  let l := s.mem.filter (fun e => decide (fieldMapKey 0 ≤ e.1) && decide (e.1 < fieldMapKey 2048) && !decide (e.2.mark = .multi) && !decide (e.2.mark = .poison))
  l.foldl (fun t e => t.applyFieldMap e.2) (s.modChip (fun c => { c with remaps := c.fuseMap }))

end Sys2Proof.Machine
end

