-- ==== Sys2Proof/Machine/Pcie.lean ====
section
/-!
DEFINITION. The PCIe host link (R521 to R549): link, functions, windows, DMA channels, MSI-X, doorbells and mailboxes.
-/

namespace Sys2Proof.Machine

/-- The endpoint of the PCIe controller (R521). -/
def pcieEp : Nat := ep 0 11 8

/-- DETAIL of the controller's events (R549). -/
def pcieDetail (addr : Nat) (code fn rate width ch : Nat := 0) : Nat :=
  addr % 2 ^ 48 + code % 16 * 2 ^ 48 + fn % 64 * 2 ^ 52 + rate % 8 * 2 ^ 58 + width % 32 * 2 ^ 61 + ch % 8 * 2 ^ 66

/-- A function that is enabled (R525): PF0, PF1, and the VFs that NumVFs takes in. -/
def State.fnEnabled (s : State) (fn : Nat) : Bool := decide (fn < 2 + s.pcie.numVfs)

/-! ### Link -/

/-- PCIE_PERST_RISE (R524): training starts. -/
def execPciePerstRise (s : State) : Result := .next (s.modPcie (fun p => { p with perst := true }))

/-- PCIE_LINK_UP (R295, R521, R522, R549): the lanes of the link are in MODE 5; entry to L0 at a rate, 2^width lanes wide; `degraded` says that both ends support a higher rate. -/
def execPcieLinkUp (rate : Fin 6) (width : Fin 5) (flit : Bool) (degraded : Bool) (s : State) : Result :=
  if !s.pcie.perst || s.flag Reg.PCI_STAT_LINK_UP 0 then .next s
  else
    let w := 2 ^ width.val
    let s := s.setEach Reg.LNE_CFG_MODE (List.range 16) 5
    let t := ((((s.setR Reg.PCI_STAT_LINK_UP 0 1).setR Reg.PCI_STAT_RATE 0 rate).setR Reg.PCI_STAT_WIDTH 0 w).setR Reg.PCI_STAT_FLIT 0
      (bit (flit || decide (rate.val = 5)))).raise pcieEp 0x0E01 0 (pcieDetail 0 0 0 rate w)
    .next (if degraded || decide (w < 16) then t.raise pcieEp 0x0E03 2 (pcieDetail 0 0 0 rate w) else t)

/-! ### Configuration requests (R524, R525) -/

/-- A function's Device ID (R525). -/
def deviceId (fn : Nat) : Nat := if fn = 0 then 0x8A08 else if fn = 1 then 0x8A09 else 0x8A0A

/-- A list with a number in it, or without it. -/
def listed (l : List Nat) (n : Nat) (on : Bool) : List Nat :=
  if on then (if l.contains n then l else l ++ [n]) else l.filter (fun x => !decide (x = n))

/-- The completion statuses of R529: Successful Completion, Unsupported Request, Completer Abort. -/
def cplOk : Nat := 0
/-- Unsupported Request. -/
def cplUr : Nat := 1
/-- Completer Abort. -/
def cplCa : Nat := 4

/-- PCIE_CONFIG_REQUEST (R524, R525). -/
def execPcieConfigRequest (func : Fin 34) (acc : CfgAccess) (s : State) : Result :=
  let fn := func.val
  if !s.flag Reg.PCI_STAT_LINK_UP 0 then .next s
  else if !s.fnEnabled fn then .next (s.respond 0 cplUr)
  else
    let t := s.respond 0 cplOk
    match acc with
    | .readId => .next (s.respond (0x1E5D + deviceId fn * 2 ^ 16) cplOk)
    | .readClass => .next (s.respond 0x120000 cplOk)
    | .busMaster on => .next ((t.modPcie (fun p => { p with bme := listed p.bme fn on })).msixFlush fn)
    | .numVfs n => .next (if fn = 1 then t.modPcie (fun p => { p with numVfs := n.val }) else t)
    | .power d3 => .next (t.modPcie (fun p => { p with d3 := listed p.d3 fn d3 }))
    | .msix on mask =>
      .next ((t.modPcie (fun p => { p with msixOn := listed p.msixOn fn on, msixMask := listed p.msixMask fn mask })).msixFlush fn)
    | .other => .next t

/-! ### Host requests into the device (R526 to R532) -/

/-- A function answers memory requests: the link is up, the function enabled and not in D3hot. -/
def State.fnAnswers (s : State) (fn : Nat) : Bool := s.fnEnabled fn && !s.pcie.d3.contains fn

/-- The base of a function's window (R527). -/
def State.winBase (s : State) (fn : Nat) : Nat :=
  if fn = 0 then s.getR Reg.PCI_WIN0_BASE 0 * 2 ^ 32
  else if fn = 1 then s.getR Reg.PCI_WIN1_BASE 0 * 2 ^ 32
  else s.getR Reg.PCI_VFWIN_BASE (fn - 2) * 2 ^ 28

/-- The size of a function's BAR2 (R526). -/
def bar2Size (fn : Nat) : Nat := if fn = 0 then 2 ^ 32 else if fn = 1 then 2 ^ 36 else 2 ^ 28

/-- A range cut at multiples of 512 (R529), as addresses and sizes; `fuel` bounds the parts. -/
def cut512 : Nat → Nat → Nat → List (Nat × Nat)
  | 0, _, _ => []
  | fuel + 1, a, n => if n = 0 then [] else
    let m := min n (512 - a % 512)
    (a, m) :: cut512 fuel (a + m) (n - m)

/-- The completion status of a network STATUS (R529). -/
def cplStatus (st : Nat) : Nat := if st = 0 ∨ st = 4 then cplOk else if st = 1 ∨ st = 5 then cplUr else cplCa

/-- The tag of a host read's requests. -/
def readTag (fn : Nat) : Nat := fn
/-- The tag of a host write's requests. -/
def writeTag (fn : Nat) : Nat := 64 + fn

/-- Put a host read's completions that are due (R529): in address order, and none after a part that failed. -/
def State.completeParts (s : State) : List HostPart → State × List HostPart
  | [] => (s, [])
  | p :: ps =>
    match p.ans with
    | none => (s, p :: ps)
    | some (st, d, poison) =>
      let c : Resp := ⟨if cplStatus st = cplOk then d else 0, cplStatus st, cplStatus st = cplOk && poison⟩
      let t := (s.modResp (fun _ => c)).modPcie (fun x => { x with cpls := x.cpls ++ [c] })
      if cplStatus st = cplOk then t.completeParts ps else (t, [])

/-- Completions go out for every host read that can have one. -/
def State.completeReads (s : State) : State :=
  let r := s.pcie.reads.foldl (fun (acc : State × List HostRead) h =>
    let x := acc.1.completeParts h.parts
    (x.1, if x.2.isEmpty then acc.2 else acc.2 ++ [{ h with parts := x.2 }])) (s, [])
  r.1.modPcie (fun p => { p with reads := r.2 })

/-- A part's request: an address at or above 2^48, or that nothing serves, is answered at once with a decode error (R24, R527). -/
def State.sendPart (s : State) (fn : Nat) (p : HostPart) : State × HostPart :=
  if 2 ^ 48 ≤ p.addr then (s.raise pcieEp 0x0201 2 (p.addr % 2 ^ 48 + pcieEp * 2 ^ 48), { p with ans := some (1, 0, false) })
  else
    let r := s.sendRead pcieEp p.addr p.size 4 (readTag fn) none
    if r.2 then (r.1, p) else (r.1, { p with ans := some (1, 0, false) })

/-- A host read may be issued: every earlier write of its function has been answered, and fewer than 256 are in progress (R531). -/
def State.mayIssue (s : State) (h : HostRead) : Bool :=
  !h.issued && !s.pcie.writes.any (fun w => decide (w.fn = h.fn) && decide (w.seq < h.seq))
    && decide ((s.pcie.reads.filter (fun r => r.issued)).length < 256)

/-- Issue the host reads that may be issued, in order, and give the completions that are due. -/
def State.issueReads (s : State) : State :=
  let r := s.pcie.reads.foldl (fun (acc : State × List HostRead) h =>
    if acc.1.mayIssue h then
      let x := h.parts.foldl (fun (a : State × List HostPart) p =>
        let y := a.1.sendPart h.fn p
        (y.1, a.2 ++ [y.2])) (acc.1, [])
      (x.1.modPcie (fun p => { p with reads := p.reads.map (fun q => if q.seq = h.seq then { q with issued := true } else q) }),
        acc.2 ++ [{ h with issued := true, parts := x.2 }])
    else (acc.1, acc.2 ++ [h])) (s, [])
  (r.1.modPcie (fun p => { p with reads := r.2 })).completeReads

/-- A host read through a window (R527, R529, R531). -/
def State.windowRead (s : State) (fn off bytes : Nat) : State :=
  let parts := (cut512 (bytes / 512 + 2) (s.winBase fn + off) bytes).map (fun e => (⟨e.1, e.2, none⟩ : HostPart))
  (s.modPcie (fun p => { p with reads := p.reads ++ [⟨fn, p.seq, false, parts⟩], seq := p.seq + 1, cpls := [] })).issueReads

/-- A host write touches the stream that a staging operation reads (R544). -/
def State.stageHit (s : State) (a n : Nat) : Bool :=
  decide (s.getR Reg.PCI_STAGE_STAT_STATE 0 = 1) && decide (a < s.getR Reg.DWN_OP_ADDR 0 + s.getR Reg.DWN_OP_LEN 0)
    && decide (s.getR Reg.DWN_OP_ADDR 0 < a + n)

/-- A part that was not written (R532). -/
def State.putFailed (s : State) (fn addr st : Nat) : State :=
  (s.raise pcieEp 0x0E06 2 (pcieDetail addr st fn)).modPcie (fun p =>
    { p with aer := Map.set 0 p.aer fn (Map.get 0 p.aer fn ||| (if st = 1 ∨ st = 5 then 1 else 2)) })

/-- One part of a host write (R529, R531). -/
def State.sendPut (s : State) (fn addr size data : Nat) (poison : Bool) : State :=
  if 2 ^ 48 ≤ addr then (s.raise pcieEp 0x0201 2 (addr % 2 ^ 48 + pcieEp * 2 ^ 48)).putFailed fn addr 1
  else
    let r := s.sendWrite pcieEp addr size data 4 (writeTag fn) none poison
    if r.2 then r.1.modPcie (fun p => { p with writes := p.writes ++ [⟨fn, p.seq, addr, size⟩] })
    else r.1.putFailed fn addr 1

/-- A host write through a window (R527, R529, R531); one into a stream that is staged is discarded (R544). -/
def State.windowWrite (s : State) (fn off bytes data : Nat) (poison : Bool) : State :=
  let base := s.winBase fn + off
  if s.stageHit base bytes then s.raise pcieEp 0x0E08 2 (pcieDetail base 0 fn)
  else
  let t := (cut512 (bytes / 512 + 2) base bytes).foldl (fun u e =>
    u.sendPut fn e.1 e.2 (data / 2 ^ (8 * (e.1 - base)) % 2 ^ (8 * e.2)) poison) s
  t.modPcie (fun p => { p with seq := p.seq + 1 })

/-- The data a READ_RSP brings: its bytes, and whether one of them is poisoned (R207, R530). -/
def rspData (p : Packet) : Nat × Bool :=
  (payload p % 2 ^ (8 * p.size), !packetIntact p || decide (p.status = 4) || anyPoison p)

/-- Answer the first part that a response belongs to. -/
def answerPart (p : Packet) : List HostPart → List HostPart
  | [] => []
  | h :: l => if h.ans.isNone && decide (h.addr = p.addr) && decide (h.size = p.size) then
      { h with ans := some (p.status, (rspData p).1, (rspData p).2) } :: l
    else h :: answerPart p l

/-- Answer the first host read that a response belongs to. -/
def answerRead (p : Packet) : List HostRead → List HostRead
  | [] => []
  | h :: l =>
    if h.issued && decide (h.fn = p.tag) && h.parts.any (fun q => q.ans.isNone && decide (q.addr = p.addr) && decide (q.size = p.size))
    then { h with parts := answerPart p h.parts } :: l
    else h :: answerRead p l

/-- A response to a host request comes back (R529 to R532). -/
def State.hostResponse (s : State) (p : Packet) : State :=
  if p.kind = 2 then (s.modPcie (fun x => { x with reads := answerRead p x.reads })).completeReads
  else
    let mine := fun (w : HostPut) => decide (w.fn + 64 = p.tag) && decide (w.addr = p.addr) && decide (w.size = p.size)
    match s.pcie.writes.find? mine with
    | none => s
    | some w =>
      let t := s.modPcie (fun x => { x with writes := x.writes.erase w })
      if p.status = 0 then t.issueReads else (t.putFailed w.fn p.addr p.status).issueReads

/-- PCIE_DEVICE_RESPONSE (R529 to R532): the oldest response that waits for a host request. -/
def execPcieDeviceResponse (s : State) : Result :=
  match takeFirst (fun p => (decide (p.kind = 2) || decide (p.kind = 4)) && decide (p.tag < 128)) (s.inbox pcieEp) with
  | none => .next s
  | some (p, rest) => .next ((((s.putInbox pcieEp rest).modPcie (fun x => { x with cpls := [] })).hostResponse p).issueReads)

/-! ### DMA channels (R533 to R535) -/

/-- A channel that has never started. -/
def dma0 : PcieDma := ⟨0, [], [], none, false, false, 0⟩

/-- A channel. -/
def State.dma (s : State) (c : Nat) : PcieDma := Map.get dma0 s.pcie.dma c

/-- Change a channel. -/
def State.modDma (s : State) (c : Nat) (f : PcieDma → PcieDma) : State :=
  s.modPcie (fun p => { p with dma := Map.set dma0 p.dma c (f (Map.get dma0 p.dma c)) })

/-- The tag of a channel's requests. -/
def dmaTag (c i : Nat) : Nat := 128 + c * 16 + i % 16

/-- The bytes of chunk i (R533). -/
def State.dmaLen (s : State) (c i : Nat) : Nat := min 512 (s.getR Reg.PCI_DMA_LEN_BYTES c - 512 * i)

/-- The device address of chunk i. -/
def State.dmaLocal (s : State) (c i : Nat) : Nat := s.getR Reg.PCI_DMA_LOCAL_ADDR c + 512 * i

/-- The host address of chunk i. -/
def State.dmaHost (s : State) (c i : Nat) : Nat := (s.getR Reg.PCI_DMA_HOST_ADDR c + 512 * i) % 2 ^ 64

/-- The chunks already copied. -/
def State.dmaDone (s : State) (c : Nat) : Nat := s.getR Reg.PCI_DMA_DONE_BYTES c / 512

/-- A transfer's end (R534, R557): the state shown, the vector where IRQ is 1, the interrupt source. -/
def State.dmaEnd (s : State) (c st : Nat) (irq : Bool) : State :=
  let t := ((s.setR Reg.PCI_DMA_STAT_STATE c st).modDma c (fun k => { dma0 with starter := k.starter })).irqEdge (404 + c)
  if irq && s.flag Reg.PCI_DMA_CFG_IRQ c then t.msix (s.getR Reg.PCI_DMA_CFG_FUNC c) (s.getR Reg.PCI_DMA_CFG_VEC c) else t

/-- A channel halts FAILED (R534). -/
def State.dmaFail (s : State) (c err : Nat) : State :=
  ((s.setR Reg.PCI_DMA_STAT_ERR c err).raise pcieEp 0x0E07 2
    (pcieDetail (s.dmaLocal c (s.dmaDone c)) err (s.getR Reg.PCI_DMA_CFG_FUNC c) 0 0 c)).dmaEnd c 4 true

/-- The channel may request another chunk: at most 16 outstanding, not stopped, failing or frozen (R533, R535, R585). -/
def State.dmaMay (s : State) (c : Nat) : Bool :=
  let k := s.dma c
  decide (s.getR Reg.PCI_DMA_STAT_STATE c = 1) && !k.stopping && !k.flr && decide (512 * k.next < s.getR Reg.PCI_DMA_LEN_BYTES c)
    && decide (k.out.length + k.ready.length + bit k.writing.isSome < 16) && !s.frozen Reg.CTL_FRZ_PDMA k.starter

/-- The channel requests its next chunk: of the host, whose request goes out on the link, or of the device. -/
def State.dmaIssue (s : State) (c : Nat) : State :=
  let i := (s.dma c).next
  let took := fun (t : State) => t.modDma c (fun k => { k with next := i + 1, out := k.out ++ [i] })
  if !s.flag Reg.PCI_DMA_CFG_DIR c then took s
  else
    let r := s.sendRead pcieEp (s.dmaLocal c i) (s.dmaLen c i) (s.getR Reg.PCI_DMA_CFG_PRIO c) (dmaTag c i) none
    if r.2 then took r.1 else r.1.modDma c (fun k => { k with next := i + 1, ready := k.ready ++ [(i, 3, 0)] })

/-- The chunk that comes next is passed on, where its data is there: a device write in order, one at a time, or the host write (R534). -/
def State.dmaPass (s : State) (c : Nat) : State :=
  let k := s.dma c
  let i := s.dmaDone c
  if s.getR Reg.PCI_DMA_STAT_STATE c ≠ 1 ∨ k.writing.isSome then s
  else match k.ready.find? (fun e => decide (e.1 = i)) with
    | none => s
    | some (_, err, data) =>
      let t := s.modDma c (fun k => { k with ready := k.ready.filter (fun e => !decide (e.1 = i)) })
      if err ≠ 0 then t.dmaFail c err
      else if !s.flag Reg.PCI_DMA_CFG_DIR c then
        let r := t.sendWrite pcieEp (s.dmaLocal c i) (s.dmaLen c i) data (s.getR Reg.PCI_DMA_CFG_PRIO c) (dmaTag c i) none
        if r.2 then r.1.modDma c (fun k => { k with writing := some i }) else r.1.dmaFail c 3
      else
        (t.modPcie (fun p => { p with tlp := some ⟨s.getR Reg.PCI_DMA_CFG_FUNC c, s.dmaHost c i, s.dmaLen c i, data⟩ })).setR
          Reg.PCI_DMA_DONE_BYTES c (512 * i + s.dmaLen c i)

/-- The channel's end where it has been reached: DONE at LEN, STOPPED when every requested chunk is through. -/
def State.dmaFinish (s : State) (c : Nat) : State :=
  let k := s.dma c
  if s.getR Reg.PCI_DMA_STAT_STATE c ≠ 1 ∨ k.writing.isSome then s
  else if k.flr then s.dmaFail c 5
  else if s.getR Reg.PCI_DMA_DONE_BYTES c = s.getR Reg.PCI_DMA_LEN_BYTES c then s.dmaEnd c 2 true
  else if k.stopping && k.out.isEmpty && k.ready.isEmpty then s.dmaEnd c 6 false
  else s

/-- The channel goes on as far as it can. -/
def State.dmaGo (s : State) (c : Nat) : State :=
  let s := (List.range 16).foldl (fun t _ => t.dmaPass c) s
  let s := s.dmaFinish c
  (List.range 16).foldl (fun t _ => if t.dmaMay c then t.dmaIssue c else t) s

/-- A device range that a channel may use (R533). -/
def dmaRange (a n : Nat) : Bool :=
  (decide (a < 0x4000000000) && decide (a % 2 ^ 34 + n ≤ 2 ^ 34))
    || (decide (0x4000000000 ≤ a) && decide (a < 0x4004000000) && decide (a % 0x1000000 + n ≤ 0x1000000))
    || (decide (0x4100000000 ≤ a) && decide (a + n ≤ 0x4102000000))
    || (decide (0x4200000000 ≤ a) && decide (a < 0x4202000000) && decide ((a - 0x4200000000) % 0x40000 + n ≤ 0x30000))
    || (decide (0x5000000000 ≤ a) && decide (a < 0x5C00000000) && decide ((a - 0x5000000000) % 0x1000000 + n ≤ 0x1000000))

/-- PCIE_DMA_START (R533): `req` wrote it. -/
def execPcieDmaStart (c : Fin 8) (req : BitVec 16) (s : State) : Result :=
  let len := s.getR Reg.PCI_DMA_LEN_BYTES c
  let fn := s.getR Reg.PCI_DMA_CFG_FUNC c
  let t := (s.setR Reg.PCI_DMA_STAT_ERR c 0).setR Reg.PCI_DMA_DONE_BYTES c 0
  if s.getR Reg.PCI_DMA_STAT_STATE c = 1 then .next s
  else if len = 0 ∨ dmaRange (s.getR Reg.PCI_DMA_LOCAL_ADDR c) len = false ∨ s.fnEnabled fn = false ∨ s.pcie.bme.contains fn = false then
    .next ((t.setR Reg.PCI_DMA_STAT_STATE c 4).setR Reg.PCI_DMA_STAT_ERR c 1)
  else .next (((t.setR Reg.PCI_DMA_STAT_STATE c 1).modDma c (fun _ => { dma0 with starter := req.toNat })).dmaGo c)

/-- PCIE_DMA_STOP (R535). -/
def execPcieDmaStop (c : Fin 8) (s : State) : Result :=
  s.when (decide (s.getR Reg.PCI_DMA_STAT_STATE c = 1)) ((s.modDma c (fun k => { k with stopping := true })).dmaGo c)

/-- The k-th outstanding chunk of the host gets its answer: an ERR, or 0 and the data. -/
def State.dmaHostAnswer (s : State) (c k err data : Nat) : State :=
  match (s.dma c).out[k]? with
  | none => s
  | some i =>
    if s.flag Reg.PCI_DMA_CFG_DIR c || decide (s.getR Reg.PCI_DMA_STAT_STATE c ≠ 1) then s
    else (s.modDma c (fun x => { x with
          out := x.out.filter (fun j => !decide (j = i))
          ready := x.ready ++ [(i, err, data % 2 ^ (8 * s.dmaLen c i))] })).dmaGo c

/-- The device's response to a channel. -/
def State.dmaDevice (s : State) (c : Nat) (p : Packet) : State :=
  let k := s.dma c
  if s.getR Reg.PCI_DMA_STAT_STATE c ≠ 1 then s
  else match k.writing with
    | some i =>
      if p.kind = 4 ∧ p.tag = dmaTag c i ∧ p.addr = s.dmaLocal c i then
        let t := s.modDma c (fun x => { x with writing := none })
        if p.status ≠ 0 then t.dmaFail c 3
        else (t.setR Reg.PCI_DMA_DONE_BYTES c (512 * i + s.dmaLen c i)).dmaGo c
      else s
    | none =>
      match k.out.find? (fun i => decide (p.kind = 2) && decide (p.tag = dmaTag c i) && decide (p.addr = s.dmaLocal c i)) with
      | none => s
      | some i =>
        let err := if p.status ≠ 0 then 3 else if (rspData p).2 then 4 else 0
        (s.modDma c (fun x => { x with
          out := x.out.filter (fun j => !decide (j = i))
          ready := x.ready ++ [(i, err, (rspData p).1)] })).dmaGo c

/-- PCIE_DMA_RESPONSE (R533, R534). -/
def execPcieDmaResponse (c : Fin 8) (ev : DmaEvent) (s : State) : Result :=
  match ev with
  | .hostData k data poison => .next (s.dmaHostAnswer c k (if poison then 4 else 0) data)
  | .hostError k => .next (s.dmaHostAnswer c k 2 0)
  | .device =>
    match takeFirst (fun p => (decide (p.kind = 2) || decide (p.kind = 4)) && decide (p.tag / 16 = 8 + c.val)) (s.inbox pcieEp) with
    | none => .next s
    | some (p, rest) => .next ((s.putInbox pcieEp rest).dmaDevice c p)

/-- COMPLETION_TIMEOUT (R534): of the k-th outstanding host request. -/
def execCompletionTimeout (c : Fin 8) (k : Fin 16) (s : State) : Result := .next (s.dmaHostAnswer c k 2 0)

/-- The channels of a function that are BUSY fail with ERR 5 (R534, R546); one whose device write is out does so at its response. -/
def State.dmaFlr (s : State) (fn : Nat) : State :=
  (List.range 8).foldl (fun t c =>
    if t.getR Reg.PCI_DMA_STAT_STATE c = 1 ∧ t.getR Reg.PCI_DMA_CFG_FUNC c = fn then
      (t.modDma c (fun k => { k with flr := true, out := [], ready := [] })).dmaFinish c
    else t) s

/-! ### Interrupts, doorbells, mailboxes (R536 to R538) -/

/-- PCIE_MSIX_TRIGGER (R536). -/
def execPcieMsixTrigger (func : BitVec 6) (vec : BitVec 6) (s : State) : Result := .next (s.msix func.toNat vec.toNat)

/-- The lines PCIE_DB and PCIE_MBX to the interrupt controller (R537, R538, R557). -/
def State.pcieLines (s : State) : State :=
  (s.irqLevel 2 (decide (s.getR Reg.PCI_DB_VF 0 ≠ 0) || s.flag Reg.PCI_DB_PF1 0)).irqLevel 3 (s.flag Reg.PCI_MBX_H2D_FULL 0)

/-- PCIE_DOORBELL (R537): PF0 has no doorbell. -/
def execPcieDoorbell (func : Fin 34) (s : State) : Result :=
  if func.val = 0 ∨ s.fnEnabled func = false then .next s
  else if func.val = 1 then .next ((s.setR Reg.PCI_DB_PF1 0 1).pcieLines)
  else .next ((s.setR Reg.PCI_DB_VF 0 (setBit (s.getR Reg.PCI_DB_VF 0) (func.val - 2))).pcieLines)

/-- MBX_H2D_LEN_WRITE (R538). -/
def execMbxH2dLenWrite (len : BitVec 13) (s : State) : Result :=
  if s.flag Reg.PCI_MBX_H2D_FULL 0 then .next (s.setR Reg.PCI_MBX_H2D_REJ 0 1)
  else .next (((s.setR Reg.PCI_MBX_H2D_LEN 0 len.toNat).setR Reg.PCI_MBX_H2D_FULL 0 1).pcieLines)

/-- MBX_D2H_LEN_WRITE (R538). -/
def execMbxD2hLenWrite (len : BitVec 13) (s : State) : Result :=
  if s.flag Reg.PCI_MBX_D2H_FULL 0 then .next (s.setR Reg.PCI_MBX_D2H_REJ 0 1)
  else .next (((s.setR Reg.PCI_MBX_D2H_LEN 0 len.toNat).setR Reg.PCI_MBX_D2H_FULL 0 1).msix 0 0)

end Sys2Proof.Machine
end

