-- ==== Sys2Proof/Machine/Control.lean ====
section
/-!
DEFINITION. Interrupts, patch units, watchdogs, harts, the debug module's harts and sessions, the grant exchange and the DRW port's control frames
(R550 to R589). The register layouts of the RISC-V Debug Specification, which R565 cites, are PRESUMED (assumption log).
-/

namespace Sys2Proof.Machine

/-- The debug module's endpoint (R566). -/
def debugEp : Nat := ep 0 90 19

/-- Sage's endpoint. -/
def sageEp : Nat := ep 0 90 12

/-- Dusk's endpoint. -/
def duskEp : Nat := ep 0 90 13

/-- The endpoint of hart n: CC0 to CC3, Sage, Dusk (R565). -/
def hartEp (n : Nat) : Nat := if n < 4 then coreEp n else if n = 4 then sageEp else duskEp

/-- DETAIL of R589. -/
def dbgDetail (hart : Nat) (transport level code seq : Nat := 0) : Nat :=
  hart % 8 + transport % 2 * 8 + level % 4 * 16 + code % 256 * 256 + seq % 65536 * 65536

/-! ### Authorisation level (R569, R628) -/

/-- The lifecycle's default debug level (R628). -/
def State.defaultLevel (s : State) : Nat :=
  match s.getR Reg.SGE_LCS_STATE 0 with
  | 0 => 2
  | 3 => if s.flag Reg.SGE_LCS_RETURN 0 then 2 else 0
  | _ => 0

/-- The level in effect (R569). -/
def State.level (s : State) : Nat := max s.defaultLevel (s.getR Reg.DBG_GRANTED 0)

/-- A requester may write CTL and DBG registers (R588). -/
def State.ctlWriter (s : State) (req : Nat) : Bool := isMgmt req || (decide (req = debugEp) && decide (s.level = 2))

/-! ### Timer and interrupt controller (R555, R556) -/

/-- mtime (R555). -/
def State.mtime (s : State) : Nat := s.time.toNat / 1024

/-- MTIP of a hart follows mtime and mtimecmp (R555). -/
def State.mtip (s : State) (n : Nat) : State := s.setR Reg.HART_MTIP n (bit (decide (s.getR Reg.CTL_MTIMECMP_T n ≤ s.mtime)))

/-- MTIMECMP_MATCH (R555). -/
def execMtimecmpMatch (hart : Fin 4) (s : State) : Result := .next (s.mtip hart)

/-- A source is enabled for a context. -/
def State.plicEnabled (s : State) (ctx n : Nat) : Bool := nbit (s.getR Reg.PLIC_ENABLE (ctx * 32 + n / 32)) (n % 32)

/-- A better candidate of a claim: the higher priority, and of equals the lower source. -/
def State.plicBest (s : State) (ctx : Nat) : Nat :=
  (List.range 1024).foldl (fun best n =>
    if n ≠ 0 ∧ s.flag Reg.PLIC_PEND n = true ∧ s.plicEnabled ctx n = true ∧ 0 < s.getR Reg.PLIC_PRIO n
        ∧ (best = 0 ∨ s.getR Reg.PLIC_PRIO best < s.getR Reg.PLIC_PRIO n) then n else best) 0

/-- The interrupt a context is notified of (R556): an enabled pending source whose priority exceeds the context's threshold. -/
def State.plicNotifies (s : State) (ctx : Nat) : Bool :=
  let n := s.plicBest ctx
  decide (n ≠ 0) && decide (s.getR Reg.PLIC_THR ctx < s.getR Reg.PLIC_PRIO n)

/-- PLIC_CLAIM (R556): with peek set nothing is claimed. -/
def execPlicClaim (ctx : Fin 8) (peek : Bool) (s : State) : Result :=
  let n := s.plicBest ctx
  let t := s.respond n 0
  .next (if peek || decide (n = 0) then t else (t.setR Reg.PLIC_PEND n 0).setR Reg.PLIC_BUSY n 1)

/-- A source's gateway opens again: an edge that waits, or a level that is still raised, becomes pending. -/
def State.plicRelease (s : State) (n : Nat) : State :=
  let t := s.setR Reg.PLIC_BUSY n 0
  if 0 < s.getR Reg.PLIC_WAIT n then (t.setR Reg.PLIC_WAIT n (s.getR Reg.PLIC_WAIT n - 1)).setR Reg.PLIC_PEND n 1
  else if s.flag Reg.PLIC_LEVEL n && decide (n < 512) then t.setR Reg.PLIC_PEND n 1
  else t

/-- PLIC_COMPLETE (R556): of a source that is enabled for the context. -/
def execPlicComplete (ctx : Fin 8) (id : BitVec 32) (s : State) : Result :=
  let n := id.toNat
  s.when (decide (n < 1024) && s.flag Reg.PLIC_BUSY n && s.plicEnabled ctx n) (s.plicRelease n)

/-! ### Patch units (R560 to R562) -/

/-- A requester may write a patch unit's registers and RAM (R562). -/
def State.patchWriter (s : State) (dusk : Bool) (req : Nat) : Bool :=
  decide (req = sageEp) || (dusk && decide (req = duskEp)) || (decide (req = debugEp) && decide (s.level = 2))

/-- The patch unit that remaps a line of the system NVM for Sage or Dusk: the lowest enabled one that matches (R560). -/
def State.patchUnit (s : State) (dusk : Bool) (o : Nat) : Option Nat :=
  (List.range 16).find? (fun u => nbit (s.getR (if dusk then Reg.CTL_DPATCH_EN else Reg.CTL_SPATCH_EN) 0) u
    && decide (s.getR (if dusk then Reg.CTL_DPATCH_MATCH else Reg.CTL_SPATCH_MATCH) u = o / 16 % 2 ^ 19))

/-- The 64-bit word at a byte offset of the system NVM as Sage or Dusk reads it: of a remapped line the words at the same place in its patch RAM line (R560). -/
def State.patchedWord (s : State) (dusk : Bool) (o : Nat) (w : BitVec 64) : BitVec 64 :=
  match s.patchUnit dusk o with
  | none => w
  | some u =>
    let ram := fun i => s.getR (if dusk then Reg.CTL_DPATCH_RAM_W else Reg.CTL_SPATCH_RAM_W)
      (4 * s.getR (if dusk then Reg.CTL_DPATCH_TARGET else Reg.CTL_SPATCH_TARGET) u + o % 16 / 8 * 2 + i)
    BitVec.ofNat 64 (ram 0 + ram 1 * 2 ^ 32)

/-- PATCH_KEY_WRITE (R561, R562). -/
def execPatchKeyWrite (dusk : Bool) (key : BitVec 16) (req : BitVec 16) (s : State) : Result :=
  let q := if dusk then 3 else 2
  if !s.patchWriter dusk req.toNat then .next (s.respond 0 2)
  else
    let t := s.respond 0 0
    if s.keyStage q = 1 ∧ key = 0xA11E then .next (t.keyAt q 2 0)
    else if s.keyStage q = 0 ∧ key = 0x5EED then .next (t.keyAt q 1 req.toNat)
    else .next (t.keyIdle q)

/-- PATCH_EN_WRITE (R561, R562): the mask counts only as the end of the sequence. -/
def execPatchEnWrite (dusk : Bool) (mask : BitVec 16) (req : BitVec 16) (s : State) : Result :=
  let q := if dusk then 3 else 2
  let f := if dusk then Reg.CTL_DPATCH_EN else Reg.CTL_SPATCH_EN
  if !s.patchWriter dusk req.toNat then .next (s.respond 0 2)
  else
    let t := (s.respond 0 0).keyIdle q
    if s.keyStage q ≠ 2 ∨ s.getR f 0 = mask.toNat then .next t
    else .next ((t.setR f 0 mask.toNat).raise debugEp 0x0F0C 0 (dbgDetail (if dusk then 5 else 4) 0 0 0 mask.toNat))

/-- PATCH_KEY_TIMEOUT (R561). -/
def execPatchKeyTimeout (dusk : Bool) (s : State) : Result := .next (s.keyTimeout (if dusk then 3 else 2))

/-! ### Watchdogs (R563, R564) -/

/-- PERIOD as it acts: 0 acts as 1 (R586). -/
def State.wdtPeriod (s : State) (w : Nat) : Nat := max 1 (s.getR Reg.CTL_WDT_CFG_PERIOD w)

/-- COUNT now: a microsecond is 1,024,000 ticks, counted by a clock that no step of Tabirair time moves (R47, R563). -/
def State.wdtCount (s : State) (w : Nat) : Nat :=
  let c := s.getR Reg.CTL_WDT_STAT_COUNT w
  if s.flag Reg.CTL_WDT_CFG_EN w && !s.flag Reg.CTL_WDT_STAT_PAUSED w then c - s.elapsed (s.getR Reg.WDT_T w) / 1024000 else c

/-- Put COUNT. -/
def State.putCount (s : State) (w v : Nat) : State := (s.setR Reg.CTL_WDT_STAT_COUNT w v).setR Reg.WDT_T w s.clockNow

/-- A watchdog is to pause (R564). -/
def State.wdtHeld (s : State) (w : Nat) : Bool :=
  if w < 4 then s.flag Reg.CTL_WDT_CFG_FREEZE w && s.flag Reg.HART_HALT w
  else decide (w = 4) && s.flag Reg.HART_HALT 4 && decide (s.level = 2)

/-- A watchdog's pause begins or ends (R564): at its end COUNT is at least 1,000. -/
def State.wdtEval (s : State) (w : Nat) : State :=
  let p := s.flag Reg.CTL_WDT_STAT_PAUSED w
  if s.wdtHeld w && !p then (s.putCount w (s.wdtCount w)).setR Reg.CTL_WDT_STAT_PAUSED w 1
  else if !s.wdtHeld w && p then (s.putCount w (max 1000 (s.wdtCount w))).setR Reg.CTL_WDT_STAT_PAUSED w 0
  else s

/-- Every watchdog's pause. -/
def State.wdtEvalAll (s : State) : State := (List.range 6).foldl (fun t w => t.wdtEval w) s

/-- A requester may write a watchdog (R586, R588). -/
def State.wdtWriter (s : State) (w req : Nat) : Bool :=
  s.ctlWriter req || (decide (4 ≤ w) && decide (req = hartEp w))

/-- WDT_KICK (R563). -/
def execWdtKick (w : Fin 6) (key : BitVec 16) (req : BitVec 16) (s : State) : Result :=
  if !s.wdtWriter w req.toNat then .next (s.respond 0 2)
  else if key = 0x6B1C then .next (((s.respond 0 0).putCount w (s.wdtPeriod w)).setR Reg.CTL_WDT_STAT_STAGE w 0)
  else .next (s.respond 0 0)

/-- A watchdog runs and its COUNT has reached 0 (R563). -/
def State.wdtRunOut (s : State) (w : Nat) : Bool :=
  s.flag Reg.CTL_WDT_CFG_EN w && !s.flag Reg.CTL_WDT_STAT_PAUSED w && decide (s.wdtCount w = 0)

/-- WDT_FIRST_EXPIRY (R563). -/
def execWdtFirstExpiry (w : Fin 6) (s : State) : Result :=
  let t := (s.putCount w (s.wdtPeriod w)).setR Reg.CTL_WDT_STAT_STAGE w 1
  s.when (s.wdtRunOut w && !s.flag Reg.CTL_WDT_STAT_STAGE w)
    (if w.val < 4 then (t.irqEdge (4 + w)).raise debugEp 0x0F01 2 (dbgDetail w) else t)

/-! ### Harts (R563, R565 to R568, R583, R584) -/

/-- The registers the debugger may know of a hart are forgotten: the hart runs. -/
def State.hregsDrop (s : State) (n : Nat) : State :=
  s.modDbg (fun d => { d with hregs := d.hregs.filter (fun e => !decide (e.1 / 65536 = n)) })

/-- What a hart's halt froze goes on (R585). -/
def State.unfreeze (s : State) : State :=
  let t := (List.range 32).foldl (fun u k => if u.getR Reg.SPD_CPY_STAT_STATE k = 1 then u.copyGo k else u) s
  (List.range 8).foldl (fun u c => if u.getR Reg.PCI_DMA_STAT_STATE c = 1 then u.dmaGo c else u) t

/-- A processor is reset (R563): state and reservation are gone, a halt ends, its watchdog starts again and its EN may be cleared; a control core
restarts at its boot address. A hart with resethaltreq is asked to halt (R568). -/
def State.hartReset (s : State) (n : Nat) : State :=
  let t := ((s.setR Reg.HART_HALT n 0).setR Reg.HART_RESV n 0).hregsDrop n
  let t := if n < 4 then (t.resetFields [Reg.HART_MCAUSE, Reg.HART_MTVAL] n).setR Reg.HART_PC n (s.getR Reg.CTL_BOOT_ADDR n) else t
  let t := t.modDbg (fun d => { d with havereset := listed d.havereset n true, haltreq := listed d.haltreq n (d.resetHalt.contains n) })
  let t := (t.setR Reg.CTL_WDT_STAT_STAGE n 0).setR Reg.WDT_OPEN n 1
  ((t.wdtEval n).putCount n (s.wdtPeriod n)).unfreeze

/-- WDT_SECOND_EXPIRY (R563). -/
def execWdtSecondExpiry (w : Fin 6) (s : State) : Result :=
  let n := w.val
  s.when (s.wdtRunOut n && s.flag Reg.CTL_WDT_STAT_STAGE n)
    (if n < 4 then
      ((if s.flag Reg.CTL_WDT_CFG_ACTION n then (List.range 4).foldl (fun t h => t.hartReset h) s else s.hartReset n).raise
        debugEp 0x0F02 4 (dbgDetail n))
    else (s.hartReset n).raise debugEp (if n = 4 then 0x0F03 else 0x0F04) 4 (dbgDetail n))

/-- HART_RESET_CMD (R586, R588). -/
def execHartResetCmd (hart : Fin 4) (req : BitVec 16) (s : State) : Result :=
  if s.ctlWriter req.toNat then .next ((s.respond 0 0).hartReset hart) else .next (s.respond 0 2)

/-- The numbers a mask names, below n. -/
def bitsIn (n mask : Nat) : List Nat := (List.range n).filter (fun i => nbit mask i)

/-- DM_HALTREQ (R567, R569): below Full it is refused. -/
def execDmHaltreq (harts : BitVec 6) (s : State) : Result :=
  s.when (decide (s.level = 2)) (s.modDbg (fun d => { d with
    haltreq := (bitsIn 6 harts.toNat).foldl (fun l n => if s.flag Reg.HART_HALT n then l else listed l n true) d.haltreq }))

/-- The field of DBG_SEQ_ABORT of a key sequence, set. -/
def State.seqAborted (s : State) (q : Nat) : State :=
  if q = 0 then s.setR Reg.DBG_SEQ_ABORT_SVP 0 1
  else if q = 1 then s.setR Reg.DBG_SEQ_ABORT_FORCE 0 1
  else if q = 2 then s.setR Reg.DBG_SEQ_ABORT_SPATCH 0 1
  else if q = 3 then s.setR Reg.DBG_SEQ_ABORT_DPATCH 0 1
  else s.setR Reg.DBG_SEQ_ABORT_NVM 0 (setBit (s.getR Reg.DBG_SEQ_ABORT_NVM 0) (q - 8))

/-- The key sequences that a hart began return to idle (R584). -/
def State.abortKeys (s : State) (n : Nat) : State :=
  (List.range 16).foldl (fun t q =>
    if t.keyStage q ≠ 0 ∧ t.getR Reg.KEY_REQ q = hartEp n then
      ((t.keyIdle q).seqAborted q).raise debugEp 0x0F0B 2 (dbgDetail n 0 0 0 (2 ^ q))
    else t) s

/-- DM_HART_HALTED (R567, R583, R584). -/
def execDmHartHalted (hart : Fin 6) (s : State) : Result :=
  let n := hart.val
  let t := ((s.setR Reg.HART_HALT n 1).setR Reg.HART_RESV n 0).modDbg (fun d => { d with haltreq := listed d.haltreq n false })
  s.when (s.flag Reg.HART_RUN n && !s.flag Reg.HART_HALT n) ((t.abortKeys n).wdtEval n)

/-- A halted hart resumes (R567). -/
def State.hartResume (s : State) (n : Nat) : State :=
  if s.flag Reg.HART_HALT n then
    (((((s.setR Reg.HART_HALT n 0).setR Reg.HART_RESV n 0).hregsDrop n).modDbg (fun d =>
      { d with resumeack := listed d.resumeack n true })).wdtEval n).unfreeze
  else s

/-- DM_RESUMEREQ (R565, R569). -/
def execDmResumereq (harts : BitVec 6) (s : State) : Result :=
  s.when (decide (s.level = 2)) ((bitsIn 6 harts.toNat).foldl (fun t n => t.hartResume n) s)

/-- DM_HARTRESET (R568): ignored for Sage and Dusk. -/
def execDmHartreset (harts : BitVec 6) (s : State) : Result :=
  s.when (decide (s.level = 2)) ((bitsIn 4 harts.toNat).foldl (fun t n => t.hartReset n) s)

/-! ### Abstract commands (R565, R569) -/

/-- A counter that may be read of a running hart at Non-invasive: cycle, instret, hpmcounter3 to 31. -/
def counterReg (r : Nat) : Bool := decide (r = 0xC00) || (decide (0xC02 ≤ r) && decide (r ≤ 0xC1F))

/-- A register that a hart has. -/
def hartReg (n r : Nat) : Bool :=
  decide (r < 0x1000) || (decide (0x1000 ≤ r) && decide (r < (if n = 5 then 0x1010 else 0x1020)))
    || (decide (n < 4) && decide (0x1020 ≤ r) && decide (r < 0x1040))

/-- Put cmderr. -/
def State.cmderr (s : State) (e : Nat) : State := s.modDbg (fun d => { d with cmderr := e })

/-- A halted hart's register: what the debugger last wrote or read there, else a value nothing states. -/
def State.hartRead (s : State) (n r : Nat) : Nat :=
  if r = 0x1000 then 0
  else match Map.find s.dbg.hregs (n * 65536 + r) with
    | some v => v
    | none => (Config.freeWord s.free).toNat

/-- What a hart's register holds of a value: bit stoptime of dcsr is 0 in harts 0 to 3 (R565). -/
def hartNorm (n r v : Nat) : Nat := if n < 4 ∧ r = 0x7B0 then clrBit v 9 else v

/-- Access Register's transfer on the selected hart: arg0 lies in data0 and, for 64 bits, data1. -/
def State.transfer (s : State) (n r : Nat) (write : Bool) : State :=
  let v := Map.get 0 s.dbg.data 0 + (if n < 4 then Map.get 0 s.dbg.data 1 * 2 ^ 32 else 0)
  if write then s.modDbg (fun d => { d with hregs := if r = 0x1000 then d.hregs else Map.put d.hregs (n * 65536 + r) (hartNorm n r v) })
  else
    let x := hartNorm n r (s.hartRead n r)
    let keep := s.flag Reg.HART_HALT n && decide (r ≠ 0x1000)
    s.draw.modDbg (fun d => { d with
      data := if n < 4 then Map.set 0 (Map.set 0 d.data 0 (x % 2 ^ 32)) 1 (x / 2 ^ 32 % 2 ^ 32) else Map.set 0 d.data 0 (x % 2 ^ 32)
      hregs := if keep then Map.put d.hregs (n * 65536 + r) x else d.hregs })

/-- An abstract command runs (R565): `exc` says that a program buffer execution ended in an exception. -/
def State.abstractCmd (s : State) (cmd : Nat) (exc : Bool) : State :=
  let n := s.dbg.hartsel
  let r := cmd % 65536
  let size := cmd / 2 ^ 20 % 8
  let post := nbit cmd 18
  let tr := nbit cmd 17
  let wr := nbit cmd 16
  let t := s.modDbg (fun d => { d with command := cmd })
  if s.dbg.cmderr ≠ 0 then s
  else if cmd / 2 ^ 24 % 256 ≠ 0 ∨ nbit cmd 19 = true ∨ (tr = true ∧ size ≠ (if n < 4 then 3 else 2)) then t.cmderr 2
  else if n ≥ 6 ∨ s.flag Reg.HART_RUN n = false then t.cmderr 4
  else if s.flag Reg.HART_HALT n = false ∧ (wr || post || !tr || !counterReg r || decide (4 ≤ n)) = true then t.cmderr 4
  else if tr = true ∧ hartReg n r = false then t.cmderr 3
  else
    let t := if tr then t.transfer n r wr else t
    if post then
      let u := (t.hregsDrop n).setR Reg.HART_RESV n 0
      if exc then u.cmderr 3 else u
    else t

/-- The level in effect permits an abstract command (R569). -/
def State.cmdAllowed (s : State) (cmd : Nat) : Bool :=
  decide (s.level = 2)
    || (decide (s.level = 1) && nbit cmd 17 && !nbit cmd 16 && !nbit cmd 18 && counterReg (cmd % 65536) && decide (s.dbg.hartsel < 4)
      && !s.flag Reg.HART_HALT s.dbg.hartsel)

/-- DM_ABSTRACT_COMMAND (R565, R569). -/
def execDmAbstractCommand (cmd : BitVec 32) (exc : Bool) (s : State) : Result :=
  s.when (s.cmdAllowed cmd.toNat) (s.abstractCmd cmd.toNat exc)

/-! ### Sessions (R573, R574) -/

/-- The transport of the session in DETAIL. -/
def State.transport (s : State) : Nat := bit (decide (s.getR Reg.DBG_SESS_STATE 0 = 2))

/-- A session opens: 1 DRW, 2 mailbox. -/
def State.sessionOpen (s : State) (st : Nat) : State :=
  ((s.setR Reg.DBG_SESS_STATE 0 st).raise debugEp 0x0F05 0 (dbgDetail 0 (st - 1))).irqEdge 11

/-- The session closes (R574). -/
def State.sessionClose (s : State) : State :=
  if s.getR Reg.DBG_SESS_STATE 0 = 0 then s
  else
    let t := (s.setR Reg.DBG_GRANTED 0 0).modDbg (fun d =>
      { d with forming := false, verifying := false, nonce := none, nonceLeft := 0, grantLeft := 0, result := 0 })
    let t := (List.range 6).foldl (fun u n => u.hartResume n) (t.setR Reg.DBG_SESS_MASK 0 0)
    (((t.setR Reg.DBG_SESS_STATE 0 0).wdtEvalAll).raise debugEp 0x0F06 0 (dbgDetail 0 s.transport)).irqEdge 11

/-- DM_SESSION_CLOSE_WRITE (R565, R574). -/
def execDmSessionCloseWrite (s : State) : Result := .next s.sessionClose

/-- DEBUG_SESSION_TIMEOUT (R574). -/
def execDebugSessionTimeout (s : State) : Result := .next s.sessionClose

/-! ### The grant exchange (R570 to R572) -/

/-- What the next authdata read returns as a result: level and code. -/
def State.authResult (s : State) (code : Nat) : State :=
  s.modDbg (fun d => { d with result := s.level + code * 256, verifying := false, grantLeft := 0 })

/-- A grant is rejected (R571, R572): the fourth rejection in a row locks the exchange. -/
def State.grantReject (s : State) (code : Nat) : State :=
  let t := s.authResult code
  let t := if s.flag Reg.DBG_LOCKED 0 then t else t.satAdd Reg.DBG_SESS_FAILS 0 1
  let t := if 4 ≤ t.getR Reg.DBG_SESS_FAILS 0 then t.setR Reg.DBG_LOCKED 0 1 else t
  t.raise debugEp 0x0F08 2 (dbgDetail 0 s.transport s.level code)

/-- A session is open and authdata writes are taken (R570). -/
def State.authOpen (s : State) : Bool :=
  decide (s.getR Reg.DBG_SESS_STATE 0 ≠ 0) && !s.dbg.forming && !s.dbg.verifying

/-- A NONCE write; during the lockout it answers code 7 and no nonce, which raises DBG_GRANT_REJECTED as codes 1 to 8 do (R570–R572). -/
def State.authNonce (s : State) : State :=
  if !s.authOpen then s
  else if s.flag Reg.DBG_LOCKED 0 then (s.modDbg (fun d => { d with nonceLeft := 0 })).grantReject 7
  else s.modDbg (fun d => { d with forming := true, nonce := none, nonceLeft := 0, grantLeft := 0 })

/-- AUTH_NONCE (R570). -/
def execAuthNonce (s : State) : Result := .next s.authNonce

/-- AUTH_NONCE_READY (R570): the nonce is free; nothing states its value. -/
def execAuthNonceReady (s : State) : Result :=
  s.when s.dbg.forming (s.draw.modDbg (fun d =>
    { d with forming := false, nonce := some (Config.freeNonce s.free).toNat, nonceLeft := 8 }))

/-- L of a GRANT is legal (R570). -/
def grantLenOk (l : Nat) : Bool := decide (l % 4 = 0) && decide (4 ≤ l) && decide (l ≤ 32768)

/-- AUTH_GRANT (R570): the write of L, and the whole grant after it where L is legal. -/
def execAuthGrant (len : BitVec 24) (s : State) : Result :=
  if !s.authOpen then .next s
  else if grantLenOk len.toNat then .next (s.modDbg (fun d => { d with verifying := true, grantLeft := 0, nonceLeft := 0 }))
  else .next ((s.modDbg (fun d => { d with nonce := none, nonceLeft := 0 })).grantReject 1)

/-- A key slot is live (R631, R632), where its stored keys hash to its fuses. -/
def State.slotLive (s : State) (n : Nat) : Bool := nbit (s.getR Reg.SGE_LCS_VALID 0) n && !nbit (s.getR Reg.SGE_LCS_REVOKED 0) n

/-- The grant's key and level are permitted in the lifecycle state (R628). -/
def State.grantPermitted (s : State) (g : GrantFacts) : Bool :=
  match s.getR Reg.SGE_LCS_STATE 0 with
  | 1 => decide (g.keysel.val = 15)
  | 2 => decide (g.keysel.val < 4)
  | 3 => decide (g.keysel.val = 15) && decide (g.level.val = 2)
  | _ => false

/-- The code of the first check that a grant fails, 0 where it passes all (R571). -/
def State.grantCode (s : State) (g : GrantFacts) : Nat :=
  if !g.formed || !(decide (g.keysel.val < 4) || decide (g.keysel.val = 15)) || !(decide (g.level.val = 1) || decide (g.level.val = 2)) then 1
  else if !g.serial then 2
  else if !g.nonce || s.dbg.nonce.isNone then 3
  else if g.keysel.val < 4 && !(s.slotLive g.keysel.val && g.hashed) then 4
  else if !g.rsa then 5
  else if !g.slh then 6
  else if s.flag Reg.DBG_LOCKED 0 then 7
  else if !s.grantPermitted g then 8
  else 0

/-- A slot's stored keys did not hash to its fuses (R632). -/
def State.keyMismatch (s : State) (slot : Nat) (hashed : Bool) : State :=
  if decide (slot < 4) && s.slotLive slot && !hashed then s.raise sageEp 0x0A05 4 (slot % 16 * 2 ^ 16) else s

/-- A grant is accepted (R571, R629): in RETIRED the RETURN fuse is blown first. -/
def State.grantAccept (s : State) (level : Nat) : State :=
  let t := if s.getR Reg.SGE_LCS_STATE 0 = 3 then s.setR Reg.SGE_LCS_RETURN 0 1 else s
  let t := (t.setR Reg.DBG_GRANTED 0 level).setR Reg.DBG_SESS_FAILS 0 0
  ((t.authResult 0).wdtEvalAll).raise debugEp 0x0F07 0 (dbgDetail 0 s.transport t.level)

/-- AUTH_GRANT_RESULT (R570 to R572, R637): a nonce serves one grant. -/
def execAuthGrantResult (g : GrantFacts) (s : State) : Result :=
  let code := s.grantCode g
  let t := (s.modDbg (fun d => { d with nonce := none })).keyMismatch g.keysel g.hashed
  s.when s.dbg.verifying (if code = 0 then t.grantAccept g.level else t.grantReject code)

/-- AUTH_DROP (R570). -/
def execAuthDrop (s : State) : Result := s.when s.authOpen ((s.setR Reg.DBG_GRANTED 0 0).wdtEvalAll)

/-- AUTH_LOCKOUT_END (R572). -/
def execAuthLockoutEnd (s : State) : Result := .next (s.setR Reg.DBG_LOCKED 0 0)

/-! ### The DRW port (R575 to R582) -/

/-- A frame error (R576, R582): counted, not answered. -/
def State.frameErr (s : State) : State :=
  ((s.satAdd Reg.DBG_DRW_STAT_FERR 0 1).raise debugEp 0x0F09 1 0).modDbg (fun d => { d with frame := false })

/-- DRW_ATTENTION (R576, R578): a low of `lowNs` nanoseconds outside a frame, and after an attention the sync: the mean bit period in units of 1.25 ns, none where
an interval is off. -/
def execDrwAttention (lowNs : Nat) (sync : Option (BitVec 16)) (s : State) : Result :=
  if s.dbg.frame || decide (lowNs < 2000) || decide (20000 ≤ lowNs) then .next s
  else if 12000 ≤ lowNs then .next (s.satAdd Reg.DBG_DRW_STAT_FERR 0 1)
  else match sync with
    | none => .next s.frameErr
    | some t =>
      let u := s.setR Reg.DBG_DRW_T_T 0 t.toNat
      .next (if 64 ≤ t.toNat ∧ t.toNat ≤ 8000 then u.modDbg (fun d => { d with frame := true }) else u.frameErr)

/-- The bytes of an answer (R582): the status byte, 32 data bits for a read and for NOP, the CRC-8 over both; none of a frame with ACK 3 but status and check. -/
def drwReply (data ack : Nat) (word : Bool) : List Nat :=
  let l := ack % 4 :: (if word && decide (ack ≠ 3) then (List.range 4).map (byteAt data) else [])
  l ++ [crc8 l]

/-- A request frame ends and is answered: ACK, and data for a read and for NOP (R582). -/
def State.drwAnswer (s : State) (data ack : Nat) (word : Bool := false) : State :=
  (s.respond data ack).modDbg (fun d => { d with
    frame := false
    reply := drwReply data ack word })

/-- A request frame in progress: what it does where it is well formed (R582). -/
def State.drwFrame (s : State) (fr : DrwFrame) (t : State) : Result :=
  if !s.dbg.frame then .next s
  else match fr with
    | .ok => .next t
    | .bad => .next (s.drwAnswer 0 3)
    | .broken => .next s.frameErr

/-- DBG_SESS as a word (R588). -/
def State.sessWord (s : State) : Nat :=
  s.getR Reg.DBG_SESS_STATE 0 + s.level * 4 + s.getR Reg.DBG_SESS_MASK 0 * 16 + s.getR Reg.DBG_SESS_FAILS 0 * 256

/-- DRW_NOP (R582). -/
def execDrwNop (fr : DrwFrame) (s : State) : Result := s.drwFrame fr (s.drwAnswer s.sessWord 0 true)

/-- DRW_OPEN (R573). -/
def execDrwOpen (fr : DrwFrame) (s : State) : Result :=
  s.drwFrame fr
    (if s.getR Reg.DBG_SESS_STATE 0 = 2 then s.drwAnswer 0 2
    else if s.getR Reg.DBG_SESS_STATE 0 = 1 then s.drwAnswer 0 0
    else (s.sessionOpen 1).drwAnswer 0 0)

/-- DRW_CLOSE (R574). -/
def execDrwClose (fr : DrwFrame) (s : State) : Result :=
  s.drwFrame fr (if s.getR Reg.DBG_SESS_STATE 0 = 1 then s.sessionClose.drwAnswer 0 0 else s.drwAnswer 0 0)

/-- DRW_MASK_SET (R582): refused below Full, and outside an open DRW session. -/
def execDrwMaskSet (fr : DrwFrame) (s : State) : Result :=
  s.drwFrame fr (if s.level = 2 ∧ s.getR Reg.DBG_SESS_STATE 0 = 1 then (s.setR Reg.DBG_SESS_MASK 0 1).drwAnswer 0 0 else s.drwAnswer 0 1)

/-- DRW_MASK_CLEAR (R582). -/
def execDrwMaskClear (fr : DrwFrame) (s : State) : Result :=
  s.drwFrame fr (if s.getR Reg.DBG_SESS_STATE 0 = 1 then (s.setR Reg.DBG_SESS_MASK 0 0).drwAnswer 0 0 else s.drwAnswer 0 1)

end Sys2Proof.Machine
end

