-- ==== Sys2Proof/Machine/DieLink.lean ====
section
/-!
DEFINITION. Die links: error counts, spares, fold mode and withdrawal (R680 to R692, R162, R253). A group is named by its die-link page (base die
× 8 + p) and its entry in that page (R693).
-/

namespace Sys2Proof.Machine

/-! ### Links and their groups (R680, R693) -/

/-- A die link. -/
inductive DieLinkId where
  | lateral (page : Nat)
  | nap (region : Nat)
  | spine (fd : Nat)
deriving DecidableEq, Repr

/-- The page at the other end of a lateral link. -/
def peerPage (page : Nat) : Nat :=
  let bd := page / 8
  if page % 8 = 0 then (if bd % 2 = 0 then bd + 1 else bd - 1) * 8 else (if bd < 2 then bd + 2 else bd - 2) * 8 + 1

/-- A page whose links are lateral. -/
def latIs (page : Nat) : Bool := decide (page % 8 < 2)

/-- The fabric die of a vertical page. -/
def pageFd (page : Nat) : Nat := page / 8 * 2 + page % 8 - 2

/-- A group of the package spine. -/
def isSpine (page i : Nat) : Bool := if latIs page then decide (312 ≤ i) else decide (9216 ≤ i)

/-- A group exists: a row link joins 8 pairs of routers and a column link 12 (R180). -/
def groupOk (page i : Nat) : Bool :=
  decide (page < 32) && decide (page % 8 < 4)
    && (if latIs page then decide (i < (if page % 8 = 0 then 208 else 312)) || (decide (312 ≤ i) && decide (i < 376)) else decide (i < 9256))

/-- A wire of a group. -/
def wireOk (page wire : Nat) : Bool := decide (wire < if latIs page then 32 else 64)

/-- The link of a group. -/
def linkOf (page i : Nat) : DieLinkId :=
  if latIs page then .lateral (min page (peerPage page))
  else if i < 9216 then .nap (pageFd page * 384 + i / 24)
  else .spine (pageFd page)

/-- A link's number. -/
def linkNo : DieLinkId → Nat
  | .lateral p => p
  | .nap rg => 32 + rg
  | .spine fd => 4096 + fd

/-- The vertical page of a fabric die. -/
def fdPage (fd : Nat) : Nat := fd / 2 * 8 + 2 + fd % 2

/-- The element of a group's entry. -/
def grpIx (page i : Nat) : Nat := page * 9256 + i

/-- A link's state: 0 normal, 1 fold, 2 withdrawn. -/
def State.linkState (s : State) : DieLinkId → Nat
  | .lateral p => s.getR Reg.DLK_STAT_LSTATE p
  | .nap rg => s.getR Reg.DLK_NAPST (napstIx rg)
  | .spine fd => s.getR Reg.DLK_STAT_LSTATE (fdPage fd)

/-- The active half of a folded link: 0 even groups, 1 odd. -/
def State.linkHalf (s : State) : DieLinkId → Nat
  | .lateral p => s.getR Reg.DLK_STAT_HALF p
  | .nap rg => Map.get 0 s.dlk.napHalf rg
  | .spine fd => s.getR Reg.DLK_STAT_HALF (fdPage fd)

/-- Put a link's state and active half. -/
def State.putLink (s : State) (l : DieLinkId) (v half : Nat) : State :=
  match l with
  | .lateral p => ((s.setEach Reg.DLK_STAT_LSTATE [p, peerPage p] v).setEach Reg.DLK_STAT_HALF [p, peerPage p] half)
  | .nap rg => (s.setR Reg.DLK_NAPST (napstIx rg) v).modDlk (fun d => { d with napHalf := Map.set 0 d.napHalf rg half })
  | .spine fd => (s.setR Reg.DLK_STAT_LSTATE (fdPage fd) v).setR Reg.DLK_STAT_HALF (fdPage fd) half

/-- A group carries words: its link is not withdrawn, and in fold mode its half is the active one. -/
def State.groupActive (s : State) (page i : Nat) : Bool :=
  let l := linkOf page i
  decide (s.linkState l = 0) || (decide (s.linkState l = 1) && decide (i % 2 = s.linkHalf l))

/-- DETAIL of the die links' events (R702). -/
def dlkDetail (page i : Nat) (wire : Nat := 0) : Nat := page % 8 + i % 2 ^ 14 * 2 ^ 3 + wire % 64 * 2 ^ 17

/-- SOURCE of the die links' events (R702). -/
def dlkSrc (page : Nat) : Nat := bdWinEp (page / 8)

/-! ### What a fold or a withdrawal takes (R162, R253, R687, R689) -/

/-- The output ports of a lateral link, at both ends. -/
def linkPorts (p : Nat) : List (Nat × Nat) :=
  (List.range 384).flatMap (fun r => ((List.range 4).filter (fun d =>
    isLateral r d && (decide (latPage r d = p) || decide (latPage r d = peerPage p)))).map (fun d => (r, d)))

/-- The link directions through which spine routes pass, as `Spine.links` numbers them: the receiving page of a lateral link × 2; page × 2 + direction
of a fabric die's vertical link. -/
def spineDirs : DieLinkId → List Nat
  | .lateral p => [2 * p, 2 * peerPage p]
  | .nap _ => []
  | .spine fd => [2 * fdPage fd, 2 * fdPage fd + 1]

/-- The routes that lose their places on a link direction, of those that have one: all but the first `room`, KEEP first, each in ascending order (R162). -/
def State.losers (s : State) (dir room : Nat) : List Nat :=
  let on := s.ic.spines.filter (fun e => e.2.links.contains dir && !e.2.lost)
  ((on.filter (fun e => e.2.keep) ++ on.filter (fun e => !e.2.keep)).drop room).map (fun e => e.1)

/-- Spine routes lose their places: each destination port keeps its last value, and each destination region reports its count (R162). -/
def State.loseRoutes (s : State) (l : List Nat) : State :=
  let hit := s.ic.spines.filter (fun e => l.contains e.1)
  let t := s.modIc (fun i => { i with spines := i.spines.map (fun e => if l.contains e.1 then (e.1, { e.2 with lost := true }) else e) })
  ((hit.map (fun e => e.2.dstRegion)).dedup).foldl (fun u rg =>
    (u.setR Reg.FAB_RGN_STAT_SPINE_LOST rg 1).raise (napEp rg) 0x0922 3
      (rgnDetail rg + (hit.filter (fun e => decide (e.2.dstRegion = rg))).length % 4096 * 2 ^ 12)) t

/-- The routes of a link that keep no place with `room` places in each direction. -/
def State.linkLosers (s : State) (l : DieLinkId) (room : Nat) : List Nat :=
  ((spineDirs l).flatMap (fun d => s.losers d room)).dedup

/-- Where a contract's legs first enter one of a list of ports: the port and the leg's number. -/
def entersAt (c : Contract) (ports : List (Nat × Nat)) : Option ((Nat × Nat) × Nat) :=
  c.legs.zipIdx.findSome? (fun leg => (ports.find? (fun p => leg.1.contains (outPort p.1 p.2))).map (fun p => (p, leg.2)))

/-- A contract that is fold-exposed on the link is suspended with CAUSE 7 (R250, R253). -/
def State.foldBreach (s : State) (ports : List (Nat × Nat)) (id : Nat) : State :=
  let c := s.contract id
  if (s.cstate id = 1 ∨ s.cstate id = 2) ∧ ports.any (fun p => exposedOn c (outPort p.1 p.2)) then
    match entersAt c ports with
    | some (p, _) => (s.suspendBreach id).breach id 7 (rtrSrc p.1) 0 true true
    | none => s.suspendBreach id
  else s

/-- A contract that crosses a withdrawn lateral link is suspended with CAUSE 8: the router beyond notifies the end beyond, the one before the
end before (R250, R251). -/
def State.withdrawBreach (s : State) (ports : List (Nat × Nat)) (id : Nat) : State :=
  if s.cstate id = 1 ∨ s.cstate id = 2 then
    match entersAt (s.contract id) ports with
    | some (p, leg) =>
      let beyond := rtrSrc ((neighbour p.1 p.2).getD p.1)
      let toDst := decide (leg = 0)
      ((s.suspendBreach id).breach id 8 beyond 0 (!toDst) toDst).breach id 8 (rtrSrc p.1) 0 toDst (!toDst)
    | none => s
  else s

/-- A link enters fold mode, with the active half (R686, R687). -/
def State.linkFold (s : State) (l : DieLinkId) (half page i : Nat) : State :=
  let t := ((s.putLink l 1 half).modDlk (fun d => { d with folds := Map.erase d.folds (linkNo l) })).raise (dlkSrc page) 0x0C03 2 (dlkDetail page i)
  match l with
  | .lateral p => t.contractIds.foldl (fun u id => u.foldBreach (linkPorts p) id) (t.loseRoutes (s.linkLosers l 768))
  | .nap rg => t.contractIds.foldl (fun u id => u.foldBreach [(epRtr (napEp rg), 8 + epPort (napEp rg))] id) t
  | .spine _ => t.loseRoutes (s.linkLosers l 512)

/-- A link is withdrawn (R689). -/
def State.linkWithdraw (s : State) (l : DieLinkId) (page i : Nat) : State :=
  let t := ((s.putLink l 2 (s.linkHalf l)).modDlk (fun d => { d with folds := Map.erase d.folds (linkNo l) })).raise (dlkSrc page) 0x0C04 4
    (dlkDetail page i)
  match l with
  | .lateral p => t.contractIds.foldl (fun u id => u.withdrawBreach (linkPorts p) id) (t.loseRoutes (s.linkLosers l 0))
  | .nap rg =>
    let u := (t.napPort rg (t.region rg).causes).napClose rg
    (u.contractsAt (napEp rg)).foldl (fun v id => v.thymeBreach id 8) u
  | .spine _ => t.loseRoutes (s.linkLosers l 0)

/-! ### Groups (R683 to R686) -/

/-- A group is exhausted (R685), which folds or withdraws its link (R686, R689). -/
def State.exhaust (s : State) (page i wire : Nat) : State :=
  if s.flag Reg.DLK_GRP_EXHAUSTED (grpIx page i) then s
  else
    let l := linkOf page i
    let t := (s.setR Reg.DLK_GRP_EXHAUSTED (grpIx page i) 1).raise (dlkSrc page) 0x0C02 2 (dlkDetail page i wire)
    if s.linkState l = 1 then t.linkWithdraw l page i
    else if s.linkState l = 0 then
      match Map.find s.dlk.folds (linkNo l) with
      | none => t.modDlk (fun d => { d with folds := Map.put d.folds (linkNo l) (i % 2, s.ncyc) })
      | some (q, _) => if i % 2 = q then t else t.linkWithdraw l page i
    else t

/-- A wire becomes failing (R684, R685): the group's spare is to carry it, or the group is exhausted. -/
def State.wireFails (s : State) (page i wire : Nat) : State :=
  let g := grpIx page i
  match Map.find s.dlk.pend g with
  | some (w, _) => if w = wire then s else s.exhaust page i wire
  | none =>
    if s.flag Reg.DLK_GRP_SPARED g then s.exhaust page i wire
    else s.modDlk (fun d => { d with pend := Map.put d.pend g (wire, s.ncyc) })

/-- The key of a wire's count; wire 127 is the group's further count (R683). -/
def wireKey (page i wire : Nat) : Nat := grpIx page i * 128 + wire

/-- A count after one more error under its window (R683). -/
def State.wireCount (s : State) (page key : Nat) : Nat × Nat :=
  let w := max 10 (min 30 (s.getR Reg.DLK_CFG_WINLOG page))
  match Map.find s.dlk.wires key with
  | some (n, t) => if s.ncyc < t + 2 ^ w then (n + 1, t) else (1, s.ncyc)
  | none => (1, s.ncyc)

/-- THRESH as it acts (R694). -/
def State.dlkThresh (s : State) (page : Nat) : Nat := max 1 (s.getR Reg.DLK_CFG_THRESH page)

/-- An error is counted: in the page, in the group, and under the window. -/
def State.countError (s : State) (page i key : Nat) (f : Field) : State :=
  ((s.satAdd f page 1).satAdd Reg.DLK_GRP_COUNT (grpIx page i) 1).modDlk (fun d =>
    { d with wires := Map.put d.wires key (s.wireCount page key) })

/-- DLK_WIRE_ERROR (R681, R683): a corrected error of a wire; once the spare carries a wire, the wire's number names the spare (R684). -/
def execDlkWireError (bd : Fin 4) (p : Fin 4) (group : Nat) (wire : Nat) (s : State) : Result :=
  let page := bd.val * 8 + p.val
  if groupOk page group && wireOk page wire && s.groupActive page group then
    let key := wireKey page group wire
    let t := s.countError page group key Reg.DLK_ERR_CE
    .next (if s.dlkThresh page ≤ (s.wireCount page key).1 then t.wireFails page group wire else t)
  else .next s

/-- The further count of a group grows (R683): at THRESH the group is exhausted. -/
def State.furtherError (s : State) (page i : Nat) : State :=
  let key := wireKey page i 127
  let t := s.countError page i key Reg.DLK_ERR_UE
  if s.dlkThresh page ≤ (s.wireCount page key).1 then t.exhaust page i 0 else t

/-- The value a route's pipeline holds at a stage becomes that of the cycle before (R682). -/
def repeatStage (sp : Spine) (k : Nat) : Spine := { sp with pipe := sp.pipe.set k ((sp.pipe[k + 1]?).getD ((sp.pipe[k]?).getD false)) }

/-- DLK_UNCORRECTABLE_CYCLE (R681, R682): on a spine bundle `hit` names the routes whose signal the group carries, each with the stage of
its pipeline that the cycle reached. -/
def execDlkUncorrectableCycle (bd : Fin 4) (p : Fin 4) (group : Nat) (hit : List (Nat × Nat)) (s : State) : Result :=
  let page := bd.val * 8 + p.val
  if groupOk page group && s.groupActive page group then
    let t := if isSpine page group then
        (s.modIc (fun i => { i with spines := i.spines.map (fun e =>
          match hit.find? (fun h => decide (h.1 = e.1)) with
          | some h => if (spineDirs (linkOf page group)).any (fun d => e.2.links.contains d) then (e.1, repeatStage e.2 h.2) else e
          | none => e) })).raise (dlkSrc page) 0x0C05 4 (dlkDetail page group)
      else s
    .next (t.furtherError page group)
  else .next s

/-- DLK_BLOCK_ERROR (R681, R682). -/
def execDlkBlockError (bd : Fin 4) (p : Fin 4) (group : Nat) (s : State) : Result :=
  let page := bd.val * 8 + p.val
  if groupOk page group && s.groupActive page group then
    let t := if isSpine page group then s.raise (dlkSrc page) 0x0C05 4 (dlkDetail page group) else s
    .next (t.furtherError page group)
  else .next s

/-- The group's spare takes over a wire's signal (R684). -/
def State.spare (s : State) (page i wire : Nat) : State :=
  let g := grpIx page i
  ((((s.setR Reg.DLK_GRP_WIRE g wire).setR Reg.DLK_GRP_SPARED g 1).satAdd Reg.DLK_STAT_SPARED page 1).modDlk (fun d =>
    { d with
      pend := Map.erase d.pend g
      wires := Map.erase d.wires (wireKey page i wire) })).raise (dlkSrc page) 0x0C01 1 (dlkDetail page i wire)

/-- DLK_SPARE_SWITCH (R684): a block boundary at least 128 ncyc after the wire became failing. -/
def execDlkSpareSwitch (bd : Fin 4) (p : Fin 4) (group : Nat) (s : State) : Result :=
  let page := bd.val * 8 + p.val
  match Map.find s.dlk.pend (grpIx page group) with
  | some (w, t) => s.when (groupOk page group && s.groupActive page group && decide (t + 128 ≤ s.ncyc)) (s.spare page group w)
  | none => .next s

/-- DLK_FOLD_COMMIT (R686, R687): an even slot at or after the exhaustion. -/
def execDlkFoldCommit (bd : Fin 4) (p : Fin 4) (group : Nat) (s : State) : Result :=
  let page := bd.val * 8 + p.val
  let l := linkOf page group
  match Map.find s.dlk.folds (linkNo l) with
  | some (q, t) => s.when (groupOk page group && decide (s.linkState l = 0) && decide (t ≤ s.ncyc) && decide (s.ncyc % 2 = 0)) (s.linkFold l (1 - q) page group)
  | none => .next s

/-! ### The start-up test (R691) -/

/-- A wire that fails the start-up test: the spare carries it at once, or the group is exhausted. -/
def State.testWire (s : State) (x : Nat × Nat × Nat) : State :=
  if groupOk x.1 x.2.1 && wireOk x.1 x.2.2 && s.groupActive x.1 x.2.1 then
    (if s.flag Reg.DLK_GRP_SPARED (grpIx x.1 x.2.1) then s.exhaust x.1 x.2.1 x.2.2 else s.spare x.1 x.2.1 x.2.2)
  else s

/-- The start-up test, with the wires that fail as (page, group, wire): every link starts afresh, and the folds it finds take effect before the links carry
traffic. -/
def State.linkTest (s : State) (bad : List (Nat × Nat × Nat)) : State :=
  let t := bad.foldl (fun u x => u.testWire x) s
  bad.foldl (fun u x =>
    let l := linkOf x.1 x.2.1
    match Map.find u.dlk.folds (linkNo l) with
    | some (q, _) => if u.linkState l = 0 then u.linkFold l (1 - q) x.1 x.2.1 else u
    | none => u) t

end Sys2Proof.Machine
end

