-- ==== Sys2Proof/Machine/FceState.lean ====
section
/-!
DEFINITION. A fail-capture engine's state and the flags it drives to its pattern engine (R385, R400, R403, R404).
-/

namespace Sys2Proof.Machine

/-- An engine with no run. -/
def fce0 : Fce := ⟨[], [], [], [], [], [], false, false, false, 0, []⟩

/-- An engine's parts. -/
def State.fcx (s : State) (n : Nat) : Fce := Map.get fce0 s.fce n

/-- Change an engine's parts. -/
def State.modFcx (s : State) (n : Nat) (f : Fce → Fce) : State := s.modFce (fun m => Map.set fce0 m n (f (s.fcx n)))

/-- The endpoint of a fail-capture engine (R385). -/
def fceEp (n : Nat) : Nat := ep (n / 4) (24 * (n % 4)) 9

/-- The trace buffer of 8,192 entries has no room for another of PGEn's (R400). -/
def State.traceFull (s : State) (n : Nat) : Bool :=
  s.flag Reg.FCE_CTL_TRACE n && decide (8192 ≤ (s.fcx n).trace.length + ((Map.find s.pge n).map (fun p => p.trace.length)).getD 0)

/-- A vector number at or before another, modulo 2^48. -/
def numLe (a b : Nat) : Bool := decide ((b + 2 ^ 48 - a % 2 ^ 48) % 2 ^ 48 < 2 ^ 47)

/-- The sites with EN at 1. -/
def State.fceSites (s : State) (n : Nat) : List Nat :=
  (List.range 1024).filter (fun i => s.flag Reg.FCE_SITE_FLAGS_EN (n * 1024 + i))

/-- LOG2N as it acts: legal 6 to 16, other values act as 16 (R421). -/
def State.fceLog2 (s : State) (n : Nat) : Nat :=
  let l := s.getR Reg.FCE_LOG_CFG_LOG2N n
  if 6 ≤ l ∧ l ≤ 16 then l else 16

/-- The log entries not yet read. -/
def State.fceUnread (s : State) (n : Nat) : Nat :=
  (s.getR Reg.FCE_LOG_WP_WP n + 2 ^ s.fceLog2 n - s.getR Reg.FCE_LOG_RP_RP n % 2 ^ s.fceLog2 n) % 2 ^ s.fceLog2 n

/-- Flags F0 to F7 (R404). -/
def State.fceFlags (s : State) (n : Nat) : Nat :=
  let l := (s.fceSites n).map (fun i => n * 1024 + i)
  let any := fun (f : Field) => l.any (s.flag f)
  let all := fun (f : Field) => !l.isEmpty && l.all (s.flag f)
  let th := s.getR Reg.FCE_THRESH_COUNT n
  bit (any Reg.FCE_SITE_FLAGS_FAIL) + bit (all Reg.FCE_SITE_FLAGS_FAIL) * 2 + bit (any Reg.FCE_SITE_FLAGS_UNREP) * 4
    + bit (all Reg.FCE_SITE_FLAGS_UNREP) * 8
    + bit (decide (th ≠ 0) && l.any (fun i => decide (th ≤ s.getR Reg.FCE_SITE_FAILCNT_COUNT i))) * 16
    + bit (s.flag Reg.FCE_LOG_CFG_EN n && decide (2 ^ s.fceLog2 n ≤ 2 * s.fceUnread n)) * 32
    + bit (any Reg.FCE_SITE_FLAGS_INCOMPLETE) * 64 + bit (decide (s.getR Reg.FCE_STAT_STATE n = 5)) * 128

end Sys2Proof.Machine
end

