-- ==== Sys2Proof/Machine/Pge.lean ====
section
/-!
DEFINITION. Pattern engines: fetching, the sequencer's instructions, stored vectors, the algorithmic generator, outputs and run control
(R342 to R384). An instruction's command acts where the engine's sequencer stands at a word with its opcode, and that word is in the
instruction cache.
-/

namespace Sys2Proof.Machine

/-! ### Fetching (R362, R377, R378) -/

/-- The byte address of instruction PC. -/
def State.pgePcAddr (s : State) (n : Nat) : Nat := (s.getR Reg.PGE_UBASE_ADDR n + 8 * s.getR Reg.PGE_PC_PC n) % 2 ^ 48

/-- The byte address of a stored-vector word. -/
def State.pgeVAddr (s : State) (n w : Nat) : Nat := (s.getR Reg.PGE_VBASE_ADDR n + 8 * (w % 2 ^ 32)) % 2 ^ 48

/-- The line of the instruction cache that holds an address. -/
def State.pgeLine (s : State) (n a : Nat) : Option PgeLine :=
  match Map.find (s.pgx n).lines (a / 64 % 128) with
  | some l => if l.addr = a / 64 * 64 then some l else none
  | none => none

/-- The stored-vector block that holds an address. -/
def State.pgeBlock (s : State) (n a : Nat) : Option PgeLine := Map.find (s.pgx n).blocks (a / 64)

/-- A line or block has arrived. -/
def State.pgeFill (s : State) (n : Nat) (vec : Bool) (l : PgeLine) : State :=
  s.modPgx n (fun k =>
    let k := { k with pend := k.pend.filter (fun e => !decide (e = (l.addr, vec))) }
    if vec then { k with blocks := Map.put k.blocks (l.addr / 64) l } else { k with lines := Map.put k.lines (l.addr / 64 % 128) l })

/-- Ask for a line or block that is neither held nor on its way; an address nothing serves is a bad line (R378). -/
def State.pgeAsk (s : State) (n a : Nat) (vec : Bool) : State :=
  let la := a % 2 ^ 48 / 64 * 64
  let held := if vec then (s.pgeBlock n la).isSome else (s.pgeLine n la).isSome
  if held || (s.pgx n).pend.contains (la, vec) then s
  else
    let flow := if s.flag Reg.PGE_FETCH_EN n then some (s.getR Reg.PGE_FETCH_FLOW n) else none
    let r := s.sendRead (pgeEp n) la 64 (s.getR Reg.PGE_FETCH_PRIO n) ((s.pgx n).gen % 128 * 2 + bit vec) flow
    if r.2 then r.1.modPgx n (fun k => { k with pend := k.pend ++ [(la, vec)] }) else r.1.pgeFill n vec ⟨la, [], [], true⟩

/-- The run fails on a word it reached (R378). -/
def State.pgeBadWord (s : State) (n cause a : Nat) : State :=
  let t := (s.setR Reg.PGE_EADDR_ADDR n a).pgeFail n cause
  t.raise (pgeEp n) (if cause = 5 then 0x0604 else 0x0603) 4 (pgeDetail 0 cause 0 (s.pgeNum n) a)

/-- The run fails at an instruction (R358). -/
def State.pgeFault (s : State) (n cause : Nat) : State :=
  (s.pgeFail n cause).raise (pgeEp n) 0x0603 4 (pgeDetail 0 cause 0 (s.pgeNum n))

/-- The sequencer runs: it has not ended and does not wait. -/
def State.pgeRuns (s : State) (n : Nat) : Bool :=
  s.pgeActive n && decide ((s.pgx n).ending = 0) && (s.pgx n).wait.isNone

/-- The sequencer looks at PC: it asks for the line and the next one, and fails on a bad line or a poisoned word. -/
def State.pgeLook (s : State) (n : Nat) : State :=
  if !s.pgeRuns n then s
  else
    let a := s.pgePcAddr n
    let t := if (s.pgeLine n a).isSome then s else (s.pgeAsk n a false).pgeAsk n (a + 64) false
    match t.pgeLine n a with
    | none => t
    | some l =>
      if l.bad then t.pgeBadWord n 6 a else if l.poison.contains (a / 8 % 8) then t.pgeBadWord n 5 a else t

/-- The block of stored vectors that lies `i` blocks after the pointer. -/
def State.blockAhead (s : State) (n i : Nat) : Nat := s.pgeVAddr n (s.getR Reg.PGE_VPTR_WORD n + 8 * i)

/-- The decoder reads ahead, up to the 64 KB that lie at the pointer, and holds no block before it (R368). DEDUCED (log 33): it has at most
four requests for vector blocks under way, and asks for the nearest block it lacks. -/
def State.pgeAhead (s : State) (n : Nat) : State :=
  let t := s.modPgx n (fun k => { k with blocks := k.blocks.filter (fun e => decide (s.blockAhead n 0 / 64 ≤ e.1)) })
  let lacks := fun (a : Nat) => (s.pgeBlock n a).isNone && !(s.pgx n).pend.contains (a / 64 * 64, true)
  let room := 4 - ((s.pgx n).pend.filter (fun e => e.2)).length
  if s.pgeActive n then
    ((((List.range 1024).map (s.blockAhead n)).filter lacks).take room).foldl (fun u a => u.pgeAsk n a true) t
  else t

/-- The instruction word at PC, where the sequencer can execute it. -/
def State.pgeWord (s : State) (n : Nat) : Option Nat :=
  if s.pgeRuns n then
    match s.pgeLine n (s.pgePcAddr n) with
    | some l => if l.bad || l.poison.contains (s.pgePcAddr n / 8 % 8) then none else l.words[s.pgePcAddr n / 8 % 8]?
    | none => none
  else none

/-- The instruction word at PC where its opcode is this one. -/
def State.pgeAt (s : State) (n op : Nat) : Option Nat :=
  match s.pgeWord n with
  | some w => if fld w 58 6 = op then some w else none
  | none => none

/-- The sequencer goes to an instruction. -/
def State.pgeGo (s : State) (n pc : Nat) : State :=
  ((s.setR Reg.PGE_PC_PC n pc).modPgx n (fun k => { k with prog := 0 })).pgeLook n

/-- The sequencer goes to the next instruction. -/
def State.pgeNext (s : State) (n : Nat) : State := s.pgeGo n (s.getR Reg.PGE_PC_PC n + 1)

/-- PGE_FETCH_RESPONSE (R377, R378): the oldest response at the engine. -/
def execPgeFetchResponse (n : Fin 16) (s : State) : Result :=
  match takeFirst (fun p => decide (p.kind = 2)) (s.inbox (pgeEp n)) with
  | none => .next s
  | some (p, rest) =>
    let t := s.putInbox (pgeEp n) rest
    let vec := decide (p.tag % 2 = 1)
    if p.tag / 2 ≠ (s.pgx n).gen % 128 ∨ !(s.pgx n).pend.contains (p.addr, vec) then .next t
    else
      let bad := decide (p.status ≠ 0)
      let words := (List.range 8).map (fun i => payload p / 2 ^ (64 * i) % 2 ^ 64)
      let u := (t.pgeFill n vec ⟨p.addr, words, (List.range 8).filter (fun i => wordPoison p i || crcFails p), bad⟩).pgeLook n
      .next (if vec then u.pgeAhead n else u)

/-! ### Forming vectors (R345 to R352) -/

/-- The vectors one packet of an output may hold (R347). -/
def State.pktLimit (s : State) (n g : Nat) : Nat :=
  max 1 (min (max 1 (min 123 (s.getR Reg.PGE_OUT_CFG_VPKT (n * 16 + g)))) ((64 * (s.pgeOut n g).maxlen - 4) / 16))

/-- PERIOD of a timeset (R345, R380). -/
def State.pgePeriod (s : State) (n ts : Nat) : Nat := max 320 (s.getR Reg.PGE_TSPER_PERIOD (n * 16 + ts))

/-- The forming packet can take a vector that starts then. -/
def canJoin (limit start : Nat) (o : PgeOut) : Bool :=
  match o.pkts.getLast? with
  | some p => !p.closed && decide (p.vecs.length < limit) && decide (o.prevEnd = some start)
  | none => false

/-- An output has room for a vector (R352). -/
def State.outRoom (s : State) (n start g : Nat) : Bool :=
  let o := s.pgeOut n g
  canJoin (s.pktLimit n g) start o || decide (o.pkts.length < 2)

/-- Close the last packet of a list. -/
def closeLast : List PgePkt → List PgePkt
  | [] => []
  | [p] => [{ p with closed := true }]
  | p :: l => p :: closeLast l

/-- Add a vector to the last packet of a list, which closes when it is full. -/
def joinLast (limit : Nat) (v : PgeVec) : List PgePkt → List PgePkt
  | [] => []
  | [p] => [{ p with vecs := p.vecs ++ [v], closed := decide (limit ≤ p.vecs.length + 1) }]
  | p :: l => p :: joinLast limit v l

/-- A vector enters an output (R346 to R349). -/
def State.addVec (s : State) (n g num : Nat) (v : PgeVec) : State :=
  let limit := s.pktLimit n g
  let nextEnd := some ((v.start + s.pgePeriod n v.ts) % 2 ^ 64)
  s.modOut n g (fun o =>
    if canJoin limit v.start o then { o with pkts := joinLast limit v o.pkts, prevEnd := nextEnd }
    else
      let timed := o.breach || decide (o.prevEnd ≠ some v.start)
      { o with pkts := closeLast o.pkts ++ [⟨[v], num, timed, false, decide (limit ≤ 1), false⟩], prevEnd := nextEnd, breach := false })

/-- STOP_AT of a STOP that has been written is reached by vector time (R356). -/
def State.stopNow (s : State) (n : Nat) : Bool :=
  match (s.pgx n).stop with
  | some t => decide (t = 0) || !before (s.getR Reg.PGE_VT_T n) t
  | none => false

/-- What the trace says of a vector beside its number and VT (R400): L, A', Z, ADDRV. -/
structure AvAddr where
  l : Nat
  a : Nat
  z : Nat
  addrv : Bool
deriving DecidableEq, Repr

/-- A stored vector's entry has no address. -/
def noAddr : AvAddr := ⟨0, 0, 0, false⟩

/-- Emit one vector: none where an output has no room (R345, R346, R352) or the trace buffer has none (R400). -/
def State.emitOne (s : State) (n ts : Nat) (adr : AvAddr) (grp : Nat → Nat × Nat) : Option State :=
  let vt := s.getR Reg.PGE_VT_T n
  let outs := s.pgeOuts n
  if outs.all (s.outRoom n vt) && !s.traceFull n then
    let num := (s.pgx n).num
    let t := outs.foldl (fun u g => u.addVec n g num ⟨(grp g).1, (grp g).2, ts, vt⟩) s
    some (((t.setR Reg.PGE_VNUM_VNUM n num).setR Reg.PGE_VT_T n (vt + s.pgePeriod n ts)).modPgx n (fun k =>
      { k with
        num := (num + 1) % 2 ^ 48
        formed := true
        trace := if s.flag Reg.FCE_CTL_TRACE n then k.trace ++ [⟨num, vt, adr.l, adr.a, adr.z, adr.addrv⟩] else k.trace }))
  else none

/-- The last vector that was injected, counted from VNUM0 modulo 2^48; 0 where none was (R356, R384). -/
def State.keptNum (s : State) (n : Nat) : Nat :=
  let v0 := s.getR Reg.PGE_VNUM0_VNUM n
  let sent := (s.pgeOuts n).filterMap (fun g => (s.pgeOut n g).sentNum.map (fun k => (k + 2 ^ 48 - v0) % 2 ^ 48 + 1))
  match sent.foldl max 0 with
  | 0 => 0
  | k + 1 => (v0 + k) % 2 ^ 48

/-- Show the end of a run whose outputs have all sent LAST (R355, R356). -/
def State.pgeFinish (s : State) (n : Nat) : State :=
  let e := (s.pgx n).ending
  if (s.pgeOuts n).all (fun g => (s.pgeOut n g).done) && s.pgeActive n then
    if e = 1 then
      (s.pgeSt n 2).raise (pgeEp n) 0x0602 0
        (pgeDetail (s.getR Reg.PGE_STAT_HCODE n) 1 0 (s.pgeNum n))
    else if e = 2 then
      (s.pgeSt n 6).raise (pgeEp n) 0x0608 0 (pgeDetail 0 10 0 (s.keptNum n))
    else s
  else s

/-- The sequencer ends by STOP. -/
def State.stopEnd (s : State) (n : Nat) : State := ((s.setR Reg.PGE_STAT_HCAUSE n 10).endRun n 2).pgeFinish n

/-- The next vector does not start at the end of a forming packet's last one, so that packet closes (R348), though the vector itself waits for
room. -/
def State.closeBroken (s : State) (n : Nat) : State :=
  let vt := s.getR Reg.PGE_VT_T n
  (s.pgeOuts n).foldl (fun t g => t.modOut n g (fun o => if o.prevEnd = some vt then o else { o with pkts := closeLast o.pkts })) s

/-- Emit up to k equal vectors; with those left. -/
def State.emitMany (n ts : Nat) (adr : AvAddr) (grp : Nat → Nat × Nat) : Nat → State → Nat × State
  | 0, s => (0, s)
  | k + 1, s =>
    if s.stopNow n then (k + 1, s.stopEnd n)
    else match s.emitOne n ts adr grp with
      | none => (k + 1, s.closeBroken n)
      | some t => State.emitMany n ts adr grp k t

/-- Every forming packet of an engine closes (R348). -/
def State.closeForming (s : State) (n : Nat) : State :=
  (s.pgeOuts n).foldl (fun t g => t.modOut n g (fun o => { o with pkts := closeLast o.pkts })) s

/-! ### Flags (R363) -/

/-- A sequencer's flag. -/
def State.pgeFlag (s : State) (n f : Nat) : Bool :=
  if f < 8 then nbit (s.fceFlags n) f
  else if f < 16 then s.flag Reg.MSP_STAT_FLAG (8 * n + (f - 8))
  else if f < 24 then nbit (s.getR Reg.PGE_SFLAG_SET_F n) (f - 16)
  else if f < 30 then nbit (s.getR Reg.PGE_LATCHED n) (f - 24)
  else decide (f = 30)

/-- What PGE_FLAGS shows. -/
def State.pgeFlags (s : State) (n : Nat) : Nat := bitsOf 32 (s.pgeFlag n)

/-- Latch one of flags 24 to 29. -/
def State.latch (s : State) (n f : Nat) (v : Bool) : State :=
  let o := s.getR Reg.PGE_LATCHED n
  s.setR Reg.PGE_LATCHED n (if v then setBit o (f - 24) else clrBit o (f - 24))

/-! ### Run control (R354 to R361) -/

/-- The decoder starts at a word: no vectors read ahead, CV at state 2 with mask 1, SEND clear (R368). -/
def State.svReset (s : State) (n w : Nat) : State :=
  (((s.setR Reg.PGE_VPTR_WORD n w).latch n 28 false).modPgx n (fun k =>
    { k with cv := pge0.cv, cm := pge0.cm, cts := 0, rep := 0, blocks := [], pend := k.pend.filter (fun e => !e.2) }))

/-- What ARM and SRST clear. -/
def State.pgeClear (s : State) (n : Nat) : State :=
  let t := ((((s.setR Reg.PGE_STAT_ABORT_LATE n 0).setR Reg.PGE_STAT_HCAUSE n 0).setR Reg.PGE_STAT_HCODE n 0).setR
    Reg.PGE_STAT_DEPTH n 0).setR Reg.PGE_LATCHED n 0
  let t := t.setEach Reg.PGE_C_COUNT ((List.range 4).map (fun c => n * 4 + c)) 0
  (t.modPgx n (fun k => { pge0 with ts := k.ts, gen := k.gen + 1 })).svReset n 0

/-- An address lies in the LPDDR5X or scratchpad range of R19. -/
def fetchBase (a : Nat) : Bool := decide (a < 0x4000000000) || (decide (0x4000000000 ≤ a) && decide (a < 0x4004000000))

/-- An output's contract satisfies ARM (R354). -/
def State.outputOk (s : State) (n g : Nat) : Bool :=
  let f := s.getR Reg.PGE_OUT_CFG_FLOW (n * 16 + g)
  decide (s.cstate f = 1) && decide (s.getR Reg.THY_CT_CFG_MODE f = 0) && decide (s.getR Reg.THY_CT_EP_SRC f = pgeEp n)
    && (match kindOf (s.getR Reg.THY_CT_EP_DST f) with
      | .tio _ | .dcl _ | .nap _ => true
      | _ => false)

/-- The fetch contract satisfies ARM (R377). -/
def State.fetchOk (s : State) (n : Nat) : Bool :=
  let f := s.getR Reg.PGE_FETCH_FLOW n
  !s.flag Reg.PGE_FETCH_EN n
    || (decide (s.cstate f = 1) && decide (s.getR Reg.THY_CT_CFG_MODE f = 1) && decide (s.getR Reg.THY_CT_EP_SRC f = pgeEp n))

/-- PGE_ARM (R354). -/
def execPgeArm (n : Fin 16) (s : State) : Result :=
  let s := s.touchPair n
  let fail := fun (c : Nat) => (s.pgeSt n 4).setR Reg.PGE_STAT_HCAUSE n c
  if s.pgeActive n then .next (s.setR Reg.PGE_STAT_CFG_REJ n 1)
  else if (s.pgeOuts n).isEmpty || !(s.pgeOuts n).all (s.outputOk n) then .next (fail 8)
  else if !fetchBase (s.getR Reg.PGE_UBASE_ADDR n) || !fetchBase (s.getR Reg.PGE_VBASE_ADDR n) || !s.fetchOk n then .next (fail 6)
  else
    let t := (s.pgeClear n).modPgx n (fun k => { k with
      num := s.getR Reg.PGE_VNUM0_VNUM n
      outs := (s.pgeOuts n).foldl (fun m g =>
        Map.set pgeOut0 m g { pgeOut0 with maxlen := s.getR Reg.THY_CT_CFG_MAXLEN (s.getR Reg.PGE_OUT_CFG_FLOW (n * 16 + g)) }) [] })
    let t := ((t.setR Reg.PGE_VT_T n (s.getR Reg.PGE_START_AT_AT n)).pgeSt n 1).pgeGo n (s.getR Reg.PGE_ENTRY_PC n)
    .next (t.pgeAhead n)

/-- A run in BUSY is aborted (R354). -/
def State.pgeAbort (s : State) (n : Nat) : State :=
  (((s.pgeSt n 3).setR Reg.PGE_STAT_HCAUSE n 11).modPgx n (fun k =>
    { k with ending := 3, wait := none, outs := [] })).raise (pgeEp n) 0x0609 0 (pgeDetail 0 11 0 (s.pgeNum n))

/-- PGE_ABORT (R354). -/
def execPgeAbort (n : Fin 16) (s : State) : Result :=
  let s := s.touchPair n
  if s.getR Reg.PGE_STAT_STATE n = 1 then .next (s.pgeAbort n)
  else s.when (decide (s.getR Reg.PGE_STAT_STATE n = 5) || (decide (s.getR Reg.PGE_STAT_STATE n ∉ [0, 3]) && s.inCommitCycle Reg.PGE_CMT n))
    (s.setR Reg.PGE_STAT_ABORT_LATE n 1)

/-- The vectors of a packet that a STOP keeps. -/
def keepBefore (at_ : Nat) (p : PgePkt) : Option PgePkt :=
  let vs := p.vecs.filter (fun v => decide (at_ ≠ 0) && before v.start at_)
  if p.term then some p else if vs.isEmpty then none else some { p with vecs := vs }

/-- HALT executes (R354, R355): every output closes; a run that has formed no vector commits here. -/
def State.pgeHalt (s : State) (n w : Nat) : State :=
  let t := ((s.setR Reg.PGE_STAT_HCODE n (fld w 0 16)).setR Reg.PGE_STAT_HCAUSE n 1).markCommit Reg.PGE_HALTC n
  let t := if (s.pgx n).formed then t else ((t.pgeSt n 5).markCommit Reg.PGE_CMT n).raise (pgeEp n) 0x0601 0 (pgeDetail)
  ((t.closeForming n).endRun n 1).pgeFinish n

/-- STOP takes effect at once (R356): where HALT executes in this cycle, because it already has or stands ready at PC, HALT wins. -/
def State.stopWith (s t : State) (n : Nat) : State :=
  if (s.pgx n).ending = 1 ∧ s.inCommitCycle Reg.PGE_HALTC n = true then s
  else match s.pgeAt n 0x01 with
    | some w => s.pgeHalt n w
    | none => t.stopEnd n

/-- PGE_STOP (R356): also of a run whose HALT has executed and whose last packets have not all left. -/
def execPgeStop (n : Fin 16) (s : State) : Result :=
  let s := s.touchPair n
  if s.getR Reg.PGE_STAT_STATE n = 1 then .next (s.pgeAbort n)
  else if s.getR Reg.PGE_STAT_STATE n = 5 ∧ (s.pgx n).ending ≤ 1 then
    let at_ := s.getR Reg.PGE_STOP_AT_AT n
    let t := s.modPgx n (fun k => { k with stop := some at_ })
    let t := (s.pgeOuts n).foldl (fun u g => u.modOut n g (fun o => { o with pkts := o.pkts.filterMap (keepBefore at_) })) t
    .next (if t.stopNow n then s.stopWith t n else t)
  else .next s

/-- PGE_SRST (R361). -/
def execPgeSrst (n : Fin 16) (s : State) : Result :=
  let s := s.touchPair n
  .next ((((s.pgeClear n).pgeSt n 0).setR Reg.PGE_VT_T n 0).setR Reg.PGE_PC_PC n 0)

/-! ### Instructions (R364 to R367) -/

/-- PGE_NOP (R364). -/
def execPgeNop (n : Fin 16) (s : State) : Result :=
  match s.pgeAt n 0x00 with
  | some _ => .next (s.pgeNext n)
  | none => .next s

/-- PGE_HALT (R354, R355). -/
def execPgeHalt (n : Fin 16) (s : State) : Result :=
  match s.pgeAt n 0x01 with
  | some w => .next (s.pgeHalt n w)
  | none => .next s

/-- PGE_JMP (R364). -/
def execPgeJmp (n : Fin 16) (s : State) : Result :=
  match s.pgeAt n 0x02 with
  | some w => .next (s.pgeGo n (fld w 0 32))
  | none => .next s

/-- PGE_CALL (R364, R366). -/
def execPgeCall (n : Fin 16) (s : State) : Result :=
  match s.pgeAt n 0x03 with
  | some w =>
    if 8 ≤ (s.pgx n).stack.length then .next (s.pgeFault n 3)
    else
      let t := s.modPgx n (fun k => { k with stack := (s.getR Reg.PGE_PC_PC n + 1) % 2 ^ 32 :: k.stack })
      .next ((t.setR Reg.PGE_STAT_DEPTH n (t.pgx n).stack.length).pgeGo n (fld w 0 32))
  | none => .next s

/-- PGE_RET (R364, R366). -/
def execPgeRet (n : Fin 16) (s : State) : Result :=
  match s.pgeAt n 0x04 with
  | some _ =>
    match (s.pgx n).stack with
    | [] => .next (s.pgeFault n 4)
    | a :: l => .next (((s.modPgx n (fun k => { k with stack := l })).setR Reg.PGE_STAT_DEPTH n l.length).pgeGo n a)
  | none => .next s

/-- PGE_BR (R364). -/
def execPgeBr (n : Fin 16) (s : State) : Result :=
  match s.pgeAt n 0x05 with
  | some w => .next (if s.pgeFlag n (fld w 32 5) == nbit w 37 then s.pgeGo n (fld w 0 32) else s.pgeNext n)
  | none => .next s

/-- PGE_LDC (R364, R365). -/
def execPgeLdc (n : Fin 16) (s : State) : Result :=
  match s.pgeAt n 0x06 with
  | some w => .next ((s.setR Reg.PGE_C_COUNT (n * 4 + fld w 32 2) (fld w 0 32)).pgeNext n)
  | none => .next s

/-- PGE_DJNZ (R365). -/
def execPgeDjnz (n : Fin 16) (s : State) : Result :=
  match s.pgeAt n 0x07 with
  | some w =>
    let i := n * 4 + fld w 32 2
    let c := s.getR Reg.PGE_C_COUNT i
    if c = 0 then .next (s.pgeNext n)
    else
      let t := s.setR Reg.PGE_C_COUNT i (c - 1)
      .next (if c = 1 then t.pgeNext n else t.pgeGo n (fld w 0 32))
  | none => .next s

/-- PGE_TSET (R364). -/
def execPgeTset (n : Fin 16) (s : State) : Result :=
  match s.pgeAt n 0x08 with
  | some w => .next ((s.modPgx n (fun k => { k with ts := fld w 0 4 })).pgeNext n)
  | none => .next s

/-! ### Stored vectors (R368 to R370) -/

/-- What the decoder finds at its pointer: a word not yet here, a word it cannot use (HCAUSE and word address), or a record with its words. -/
inductive RecAt where
  | wait
  | fail (cause addr : Nat)
  | ok (words : List Nat)
deriving DecidableEq, Repr

/-- One stored-vector word. -/
def State.vword (s : State) (n w : Nat) : RecAt :=
  let a := s.pgeVAddr n w
  match s.pgeBlock n a with
  | none => .wait
  | some l => if l.bad then .fail 6 a else if l.poison.contains (a / 8 % 8) then .fail 5 a else .ok [l.words[a / 8 % 8]?.getD 0]

/-- Words of a record, in order. -/
def State.vwords (s : State) (n w : Nat) : Nat → RecAt
  | 0 => .ok []
  | k + 1 =>
    match s.vwords n w k with
    | .ok l => (match s.vword n (w + k) with
      | .ok x => .ok (l ++ x)
      | r => r)
    | r => r

/-- The number of one bits among the low 16. -/
def pop16 (v : Nat) : Nat := ((List.range 16).filter (fun i => nbit v i)).length

/-- The words a record has, by its header (R369). -/
def recLen (h : Nat) : Nat :=
  let k := pop16 (fld h 8 16)
  if h % 16 = 1 then 1 + k + (k + 1) / 2 else if h % 16 = 2 then 1 + k else 1

/-- The record at the pointer (R369, R378). -/
def State.recAt (s : State) (n : Nat) : RecAt :=
  let w := s.getR Reg.PGE_VPTR_WORD n
  match s.vword n w with
  | .ok (h :: _) =>
    if h % 16 = 0 ∨ 3 < h % 16 then .fail 7 (s.pgeVAddr n w) else s.vwords n w (recLen h)
  | r => r

/-- An SV stands at PC and the decoder has no repeat left, so it takes the next record. -/
def State.svWants (s : State) (n : Nat) : Bool :=
  (s.pgeAt n 0x09).isSome && decide ((s.pgx n).rep = 0) && !nbit (s.getR Reg.PGE_LATCHED n) 4

/-- The place of a group among the set bits of GMASK. -/
def gIndex (gmask g : Nat) : Nat := pop16 (gmask % 2 ^ g)

/-- CV after a DELTA or TOGGLE, and its repeats (R370). -/
def cvAfter (words : List Nat) (k : Pge) : Pge :=
  let h := words.head?.getD 0
  let gm := fld h 8 16
  let word := fun i => words[1 + i]?.getD 0
  let nk := pop16 gm
  let cv := k.cv.zipIdx.map (fun e =>
    if nbit gm e.2 then (if h % 16 = 1 then word (gIndex gm e.2) else e.1 ^^^ word (gIndex gm e.2)) else e.1)
  let cm := k.cm.zipIdx.map (fun e =>
    if nbit gm e.2 && decide (h % 16 = 1) then
      word (nk + gIndex gm e.2 / 2) / 2 ^ (32 * (gIndex gm e.2 % 2)) % 2 ^ 32 else e.1)
  { k with cv := cv, cm := cm, cts := fld h 4 4, rep := fld h 24 32 + 1 }

/-- The decoder takes a record of a type. -/
def State.takeRecord (s : State) (n type : Nat) : State :=
  if s.svWants n then
    match s.recAt n with
    | .ok ws =>
      if (ws.head?.getD 0) % 16 ≠ type then s
      else if type = 3 then s.latch n 28 true
      else ((s.modPgx n (cvAfter ws)).setR Reg.PGE_VPTR_WORD n (s.getR Reg.PGE_VPTR_WORD n + ws.length)).pgeAhead n
    | _ => s
  else s

/-- PGE_RECORD_DELTA (R369, R370). -/
def execPgeRecordDelta (n : Fin 16) (s : State) : Result := .next (s.takeRecord n 1)

/-- PGE_RECORD_TOGGLE (R369, R370). -/
def execPgeRecordToggle (n : Fin 16) (s : State) : Result := .next (s.takeRecord n 2)

/-- PGE_RECORD_END (R369, R370): the pointer stays. -/
def execPgeRecordEnd (n : Fin 16) (s : State) : Result := .next (s.takeRecord n 3)

/-- PGE_SV (R370, R378): emits the repeats the decoder holds, up to COUNT; ends at COUNT or at END, and fails on a record it cannot use. -/
def execPgeSv (n : Fin 16) (s : State) : Result :=
  match s.pgeAt n 0x09 with
  | none => .next s
  | some w =>
    let k := s.pgx n
    let untilEnd := nbit w 32
    let left := max 1 (fld w 0 32) - k.prog
    if k.rep = 0 then
      if nbit (s.getR Reg.PGE_LATCHED n) 4 then .next (s.pgeNext n)
      else match s.recAt n with
        | .fail c a => .next (if c = 7 then s.pgeFault n 7 else s.pgeBadWord n c a)
        | _ => .next s
    else
      let want := if untilEnd then k.rep else min k.rep left
      let ts := if nbit w 33 then k.ts else k.cts
      let r := State.emitMany n ts noAddr (fun g => (k.cv[g]?.getD 0, k.cm[g]?.getD 0)) want s
      let sent := want - r.1
      let t := r.2.modPgx n (fun x => { x with rep := k.rep - sent, prog := k.prog + sent })
      .next (if (t.pgx n).ending ≠ 0 then t else if !untilEnd && decide (left = sent) then t.pgeNext n else t)

/-- PGE_SVPTR (R368). -/
def execPgeSvptr (n : Fin 16) (s : State) : Result :=
  match s.pgeAt n 0x10 with
  | some w => .next (((s.svReset n (fld w 0 32)).pgeNext n).pgeAhead n)
  | none => .next s

/-! ### The algorithmic generator (R371 to R376) -/

/-- One step of a counter (R371): its new value and whether it carried. -/
def stepCounter (width v base inc lim : Nat) : Nat × Bool :=
  if v = lim then (base, true) else ((v + inc) % 2 ^ width, false)

/-- The registers of counter c: 0 X, 1 Y, 2 Z: value, base, increment, limit. -/
def State.counter (s : State) (n c : Nat) : Nat × Nat × Nat × Nat :=
  if c = 0 then (s.getR Reg.PGE_X_V n, s.getR Reg.PGE_XBASE_V n, s.getR Reg.PGE_XINC_V n, s.getR Reg.PGE_XLIM_V n)
  else if c = 1 then (s.getR Reg.PGE_Y_V n, s.getR Reg.PGE_YBASE_V n, s.getR Reg.PGE_YINC_V n, s.getR Reg.PGE_YLIM_V n)
  else (s.getR Reg.PGE_Z_V n, s.getR Reg.PGE_ZCFG_BASE n, s.getR Reg.PGE_ZCFG_INC n, s.getR Reg.PGE_ZCFG_LIM n)

/-- The order of the chain (R372). -/
def chainOrder (c : Nat) : List Nat := if c = 1 then [1, 0, 2] else if c = 2 then [0, 2] else [0, 1, 2]

/-- Step the counters of a list while each carries (R372). -/
def State.chainStep (s : State) (n : Nat) : List Nat → State
  | [] => s.latch n 24 true
  | c :: l =>
    let k := s.counter n c
    let r := stepCounter (if c = 2 then 8 else 24) k.1 k.2.1 k.2.2.1 k.2.2.2
    let t := s.setR (if c = 0 then Reg.PGE_X_V else if c = 1 then Reg.PGE_Y_V else Reg.PGE_Z_V) n r.1
    if r.2 then (t.latch n (25 + c) true).chainStep n l else t

/-- The chain steps: flags 24 to 27 show this step's outcome (R372). -/
def State.stepChain (s : State) (n : Nat) : State :=
  ((((s.latch n 24 false).latch n 25 false).latch n 26 false).latch n 27 false).chainStep n
    (chainOrder (s.getR Reg.PGE_GCFG_CHAIN n))

/-- The logical address (R373). -/
def State.logical (s : State) (n : Nat) (xc yc : Bool) : Nat :=
  (s.getR Reg.PGE_X_V n ^^^ (if xc then 0xFFFFFF else 0)) + (s.getR Reg.PGE_Y_V n ^^^ (if yc then 0xFFFFFF else 0)) * 2 ^ 24

/-- The scrambled address (R374). -/
def State.scrambled (s : State) (n l : Nat) : Nat :=
  bitsOf 48 (fun i =>
    let p := s.getR Reg.PGE_PERM_E (n * 48 + i)
    nbit l (if p < 48 then p else i) != nbit (s.getR Reg.PGE_ASXOR n) i)

/-- The parity of a number's low 48 bits. -/
def parity48 (v : Nat) : Bool := decide (((List.range 48).filter (fun i => nbit v i)).length % 2 = 1)

/-- The data word D' (R375). -/
def State.genData (s : State) (n l : Nat) (dinv : Bool) : Nat :=
  let p := s.flag Reg.PGE_GCFG_PAREN n && parity48 (l &&& s.getR Reg.PGE_PMASK n)
  let d := s.getR Reg.PGE_DBACK n ^^^ (if dinv != p then 2 ^ 64 - 1 else 0)
  let sel := fun (f : Field) => if s.getR f n ≤ 47 then nbit l (s.getR f n) else false
  let i := 2 * bit (sel Reg.PGE_GCFG_DSSEL1) + bit (sel Reg.PGE_GCFG_DSSEL0)
  if s.flag Reg.PGE_GCFG_DSMEN n then d ^^^ s.getR Reg.PGE_DSM_V (n * 4 + i) else d

/-- The state and mask of a vector pin (R376): A', Z and D' given. -/
def State.avPin (s : State) (n tmpl dop a z d p : Nat) : Nat × Bool :=
  let i := n * 512 + p
  let kind := s.getR Reg.PGE_PINMAP_KIND i
  let idx := s.getR Reg.PGE_PINMAP_IDX i
  let inv := s.flag Reg.PGE_PINMAP_INV i
  let t := n * 8192 + tmpl * 512 + p
  let ts := s.getR Reg.PGE_TPL_STATE t
  let tm := s.flag Reg.PGE_TPL_MASK t
  let b := fun (v width : Nat) => bit ((decide (idx < width) && nbit v idx) != inv)
  if kind = 1 then (b a 48, false)
  else if kind = 2 then (b z 8, false)
  else if kind = 3 then
    if dop = 1 then (b d 64, false) else if dop = 2 then (2 + b d 64, tm) else (ts, tm)
  else (ts, tm)

/-- The states and masks of a group (R346, R376). -/
def State.avGroup (s : State) (n tmpl dop a z d g : Nat) : Nat × Nat :=
  (List.range 32).foldl (fun acc j =>
    let r := s.avPin n tmpl dop a z d (32 * g + j)
    (acc.1 + r.1 * 4 ^ j, acc.2 + bit r.2 * 2 ^ j)) (0, 0)

/-- PGE_AV (R371 to R376). -/
def execPgeAv (n : Fin 16) (s : State) : Result :=
  match s.pgeAt n 0x0A with
  | none => .next s
  | some w =>
    let k := s.pgx n
    let l := s.logical n (nbit w 8) (nbit w 9)
    let a := s.scrambled n l
    let d := s.genData n l (nbit w 6)
    let z := s.getR Reg.PGE_Z_V n
    let ts := if nbit w 14 then k.ts else fld w 10 4
    let left := fld w 16 16 + 1 - k.prog
    let r := State.emitMany n ts ⟨l, a, z, true⟩ (s.avGroup n (fld w 0 4) (fld w 4 2) a z d) left s
    let t := r.2.modPgx n (fun x => { x with prog := k.prog + (left - r.1) })
    if (t.pgx n).ending ≠ 0 ∨ r.1 ≠ 0 then .next t
    else .next ((if nbit w 7 then t.stepChain n else t).pgeNext n)

/-! ### Waits, registers and events (R364, R367, R381) -/

/-- The later of two times, modulo 2^64. -/
def later (a b : Nat) : Nat := if before a b then b else a

/-- PGE_WAITT (R367). -/
def execPgeWaitt (n : Fin 16) (s : State) : Result :=
  match s.pgeAt n 0x0B with
  | some w =>
    let vt := s.getR Reg.PGE_VT_T n
    let m := fld w 48 2
    let t := if m = 1 then vt + fld w 0 48 else if m = 2 then s.getR Reg.PGE_WTIME_T n else s.getR Reg.PGE_START_AT_AT n + fld w 0 48
    .next ((s.setR Reg.PGE_VT_T n (later vt (t % 2 ^ 64))).pgeNext n)
  | none => .next s

/-- PGE_WAITF (R367). -/
def execPgeWaitf (n : Fin 16) (s : State) : Result :=
  match s.pgeAt n 0x0C with
  | some w =>
    .next ((s.closeForming n).modPgx n (fun k =>
      { k with wait := some ⟨false, fld w 32 5, nbit w 37, fld w 0 32, s.clockNow⟩ }))
  | none => .next s

/-- PGE_SYNCV (R367). -/
def execPgeSyncv (n : Fin 16) (s : State) : Result :=
  match s.pgeAt n 0x0D with
  | some w => .next ((s.closeForming n).modPgx n (fun k => { k with wait := some ⟨true, 0, false, fld w 0 32, s.clockNow⟩ }))
  | none => .next s

/-- The condition of a wait holds (R367). -/
def State.waitHolds (s : State) (n : Nat) (w : PgeWait) : Bool :=
  if w.sync then
    !(s.pgx n).formed
      || (s.flag Reg.FCE_VDONE_HI_VALID n && numLe (s.getR Reg.PGE_VNUM_VNUM n) (s.getR Reg.FCE_VDONE_VNUM n))
  else s.pgeFlag n w.flag == w.pol

/-- LEAD_MAX as it acts (R379). -/
def State.leadMax (s : State) (n : Nat) : Nat := max (s.getR Reg.PGE_LEAD_MIN_TICKS n) (s.getR Reg.PGE_LEAD_MAX_TICKS n)

/-- A wait ends (R367). -/
def State.waitOver (s : State) (n : Nat) (tmo : Bool) : State :=
  let vt := later (s.getR Reg.PGE_VT_T n) ((s.time.toNat + s.leadMax n) % 2 ^ 64)
  (((s.latch n 29 tmo).setR Reg.PGE_VT_T n vt).modPgx n (fun k => { k with wait := none })).pgeNext n

/-- PGE_WAIT_END (R367). -/
def execPgeWaitEnd (n : Fin 16) (s : State) : Result :=
  match (s.pgx n).wait with
  | some w => s.when (s.pgeActive n && s.waitHolds n w) (s.waitOver n false)
  | none => .next s

/-- PGE_WAIT_TIMEOUT (R367): a cycle is 1,024 ticks. -/
def execPgeWaitTimeout (n : Fin 16) (s : State) : Result :=
  match (s.pgx n).wait with
  | some w =>
    s.when (s.pgeActive n && decide (w.timeout ≠ 0) && decide (w.timeout * 1024 ≤ s.elapsed w.since)) (s.waitOver n true)
  | none => .next s

/-- The high or low half of a 64-bit value replaced. -/
def half (v : Nat) (hi : Bool) (w : Nat) : Nat := if hi then v % 2 ^ 32 + w * 2 ^ 32 else v / 2 ^ 32 * 2 ^ 32 + w

/-- A write of a generator register by its index (R381). -/
def State.ldg (s : State) (n i v : Nat) : State :=
  match i with
  | 0 => s.setR Reg.PGE_XBASE_V n v
  | 1 => s.setR Reg.PGE_XINC_V n v
  | 2 => s.setR Reg.PGE_XLIM_V n v
  | 3 => s.setR Reg.PGE_X_V n v
  | 4 => s.setR Reg.PGE_YBASE_V n v
  | 5 => s.setR Reg.PGE_YINC_V n v
  | 6 => s.setR Reg.PGE_YLIM_V n v
  | 7 => s.setR Reg.PGE_Y_V n v
  | 8 => ((s.setR Reg.PGE_ZCFG_BASE n v).setR Reg.PGE_ZCFG_INC n (v / 2 ^ 8)).setR Reg.PGE_ZCFG_LIM n (v / 2 ^ 16)
  | 9 => s.setR Reg.PGE_Z_V n v
  | 10 =>
    ((((s.setR Reg.PGE_GCFG_CHAIN n v).setR Reg.PGE_GCFG_PAREN n (v / 4)).setR Reg.PGE_GCFG_DSMEN n (v / 8)).setR
      Reg.PGE_GCFG_DSSEL0 n (v / 16)).setR Reg.PGE_GCFG_DSSEL1 n (v / 1024)
  | 11 => s.setR Reg.PGE_DBACK n (half (s.getR Reg.PGE_DBACK n) false v)
  | 12 => s.setR Reg.PGE_DBACK n (half (s.getR Reg.PGE_DBACK n) true v)
  | 13 => s.setR Reg.PGE_PMASK n (half (s.getR Reg.PGE_PMASK n) false v)
  | 14 => s.setR Reg.PGE_PMASK n (half (s.getR Reg.PGE_PMASK n) true v)
  | 15 => s.setR Reg.PGE_ASXOR n (half (s.getR Reg.PGE_ASXOR n) false v)
  | 16 => s.setR Reg.PGE_ASXOR n (half (s.getR Reg.PGE_ASXOR n) true v)
  | _ =>
    if 17 ≤ i ∧ i ≤ 28 then
      (List.range 4).foldl (fun t j => t.setR Reg.PGE_PERM_E (n * 48 + 4 * (i - 17) + j) (v / 2 ^ (8 * j))) s
    else if 29 ≤ i ∧ i ≤ 36 then
      let e := n * 4 + (i - 29) / 2
      s.setR Reg.PGE_DSM_V e (half (s.getR Reg.PGE_DSM_V e) (decide ((i - 29) % 2 = 1)) v)
    else s

/-- PGE_LDG (R364, R381). -/
def execPgeLdg (n : Fin 16) (s : State) : Result :=
  match s.pgeAt n 0x0E with
  | some w => .next ((s.ldg n (fld w 32 6) (fld w 0 32)).pgeNext n)
  | none => .next s

/-- PGE_SFLAG (R363, R364). -/
def execPgeSflag (n : Fin 16) (s : State) : Result :=
  match s.pgeAt n 0x0F with
  | some w =>
    let f := s.getR Reg.PGE_SFLAG_SET_F n
    let m := fld w 0 8
    .next ((s.setR Reg.PGE_SFLAG_SET_F n (if nbit w 8 then f ||| m else f - (f &&& m))).pgeNext n)
  | none => .next s

/-- PGE_EVT (R364). -/
def execPgeEvt (n : Fin 16) (s : State) : Result :=
  match s.pgeAt n 0x11 with
  | some w => .next ((s.raise (pgeEp n) 0x0607 0 (pgeDetail (fld w 0 16) 0 0 (s.pgeNum n))).pgeNext n)
  | none => .next s

/-- PGE_ILLEGAL_OPCODE (R364). -/
def execPgeIllegalOpcode (n : Fin 16) (s : State) : Result :=
  match s.pgeWord n with
  | some w => s.when (decide (0x12 ≤ fld w 58 6)) (s.pgeFault n 2)
  | none => .next s

/-! ### Outputs (R348 to R352, R359) -/

/-- PGE_LEAD_CLOSE (R348): Tabirair time reaches START − LEAD_MIN. -/
def execPgeLeadClose (n : Fin 16) (g : Fin 16) (s : State) : Result :=
  match (s.pgeOut n g).pkts.getLast? with
  | some p =>
    let start := (p.vecs.head?.map (fun v => v.start)).getD 0
    s.when (!p.closed && s.dueAt (plusTicks start (-(s.getR Reg.PGE_LEAD_MIN_TICKS n : Int))))
      (s.modOut n g (fun o => { o with pkts := closeLast o.pkts }))
  | none => .next s

/-- The packet as it is sent (R275, R276, R346). -/
def State.pgePacket (s : State) (n g : Nat) (p : PgePkt) : Packet :=
  let f := s.getR Reg.PGE_OUT_CFG_FLOW (n * 16 + g)
  let c := p.vecs.length
  let start := (p.vecs.head?.map (fun v => v.start)).getD 0
  let bytes := p.vecs.zipIdx.foldl (fun acc e => acc + (e.1.state + e.1.mask * 2 ^ 64 + e.1.ts * 2 ^ 96) * 256 ^ (16 * e.2)) 0
  { dest := s.getR Reg.THY_CT_EP_DST f, src := pgeEp n, cls := true, flow := f, len := flitsFor (16 * c), kind := 0, size := 16 * c,
    user := start + c * 2 ^ 64 + bit p.timed * 2 ^ 71 + p.num * 2 ^ 72 + bit p.last * 2 ^ 120, data := toFlits bytes (16 * c) false }

/-- The credit covers a packet of a contract, which is LIVE (R243, R350). -/
def State.covers (s : State) (f flits : Nat) : Bool := decide (s.cstate f = 1) && s.creditCovers f flits

/-- PGE_PACKET_INJECT (R350, R351, R354, R355, R357): the oldest packet of an output has closed, and time and credit allow. -/
def execPgePacketInject (n : Fin 16) (g : Fin 16) (s : State) : Result :=
  let f := s.getR Reg.PGE_OUT_CFG_FLOW (n.val * 16 + g.val)
  match (s.pgeOut n g).pkts with
  | [] => .next s
  | p :: rest =>
    let start := (p.vecs.head?.map (fun v => v.start)).getD 0
    let early := !p.term && !s.dueAt (plusTicks start (-(s.leadMax n : Int)))
    let q := s.pgePacket n g p
    if !p.closed || early || !s.covers f (q.len + 1) then .next s
    else
      let lastV := p.vecs.getLast?.getD ⟨0, 0, 0, 0⟩
      let t := s.modOut n g (fun o => { o with
        pkts := rest
        sentEnd := some ((lastV.start + s.pgePeriod n lastV.ts) % 2 ^ 64)
        sentNum := if p.term then o.sentNum else some ((p.num + p.vecs.length - 1) % 2 ^ 48)
        done := o.done || p.last })
      let t := (t.ingress q).wrapAdd Reg.PGE_OUT_PKTS_COUNT (n.val * 16 + g.val) 1
      let t := if s.getR Reg.PGE_STAT_STATE n = 1 then
          ((t.pgeSt n 5).markCommit Reg.PGE_CMT n).raise (pgeEp n) 0x0601 0 (pgeDetail 0 0 g p.num) else t
      let lead := plusTicks start (-(s.getR Reg.PGE_LEAD_MIN_TICKS n : Int))
      let t := if before lead s.time.toNat then
          (t.satAdd Reg.PGE_ERRCNT_LATE n 1).raise (pgeEp n) 0x0605 2 (pgeDetail 0 0 g p.num) else t
      .next (t.pgeFinish n)

/-- PGE_BREACH_NOTICE (R349, R359). -/
def execPgeBreachNotice (n : Fin 16) (s : State) : Result :=
  match takeFirst (fun p => decide (p.kind = 6)) (s.inbox (pgeEp n)) with
  | none => .next s
  | some (p, rest) =>
    let id := noticeBits p % 2 ^ 12
    let t := (s.putInbox (pgeEp n) rest).satAdd Reg.PGE_ERRCNT_BREACH n 1
    if nbit (noticeBits p) 88 then .next (if s.cstate id = 1 then t else t.pgeOutputLost id)
    else .next ((s.pgeOuts n).foldl (fun u g =>
      if u.getR Reg.PGE_OUT_CFG_FLOW (n.val * 16 + g) = id then u.modOut n g (fun o => { o with breach := true }) else u) t)

end Sys2Proof.Machine
end

