-- ==== Sys2Proof/Machine/Fce.lean ====
section
/-!
DEFINITION. Fail-capture engines and their repair analysis units (R385 to R425).
-/

namespace Sys2Proof.Machine

/-- DETAIL of the engines' events (R425). -/
def fceDetail (input site dom num value : Nat := 0) : Nat :=
  input % 16 + site % 1024 * 2 ^ 4 + dom % 2 ^ 16 * 2 ^ 14 + num % 2 ^ 48 * 2 ^ 32 + value % 2 ^ 32 * 2 ^ 80

/-- The engine is busy with a run: BUSY, CAPTURING or ANALYSING. -/
def State.fceBusy (s : State) (n : Nat) : Bool :=
  decide (s.getR Reg.FCE_STAT_STATE n = 1) || decide (s.getR Reg.FCE_STAT_STATE n = 5) || decide (s.getR Reg.FCE_STAT_STATE n = 6)

/-! ### The domain descriptor and the areas (R389, R409, R420, R421) -/

/-- REASON 1 does not hold (R420). -/
def State.descOk (s : State) (n : Nat) : Bool :=
  let rb := s.getR Reg.FCE_DOM_ROW_RB n
  let cb := s.getR Reg.FCE_DOM_ROW_CB n
  let db := s.getR Reg.FCE_DOM_SEL_DB n
  let zb := s.getR Reg.FCE_DOM_SEL_ZB n
  let dqx := s.getR Reg.FCE_DOM_SEL_DQX n
  decide (1 ≤ rb ∧ rb ≤ 16 ∧ 1 ≤ cb ∧ cb ≤ 16 ∧ db ≤ 16 ∧ zb ≤ 8 ∧ db + zb ≤ 16 ∧ dqx ≤ 6 ∧ cb + dqx ≤ 16)
    && decide (s.getR Reg.FCE_DOM_SPARE_SR n ≤ 24 ∧ s.getR Reg.FCE_DOM_SPARE_SC n ≤ 24)
    && decide (s.getR Reg.FCE_DOM_ROW_ROWLO n + rb ≤ 48 ∧ s.getR Reg.FCE_DOM_ROW_COLLO n + cb ≤ 48
      ∧ s.getR Reg.FCE_DOM_SEL_DOMLO n + db ≤ 48)

/-- POOL_N as it acts (R421). -/
def State.poolN (s : State) (n : Nat) : Nat := max 1 (min 6144 (s.getR Reg.FCE_POOL_N_N n))

/-- NSITES as it acts: 1 to 1,024, 0 acts as 1 (R421). -/
def State.bmSites (s : State) (n : Nat) : Nat := max 1 (min 1024 (s.getR Reg.FCE_BM_SEL_NSITES n))

/-- W, the address bits of a cell in the bitmap (R408). -/
def State.bmWidth (s : State) (n : Nat) : Nat :=
  s.getR Reg.FCE_DOM_ROW_RB n + s.getR Reg.FCE_DOM_ROW_CB n + s.getR Reg.FCE_DOM_SEL_DQX n

/-- The bytes of the bitmap area. -/
def State.bmBytes (s : State) (n : Nat) : Nat := ceilDiv (s.bmSites n * 2 ^ s.bmWidth n) 8

/-- The areas ARM checks: offset and length (R421). -/
def State.fceAreas (s : State) (n : Nat) : List (Nat × Nat) :=
  [(s.getR Reg.FCE_POOL_BASE_OFF n, s.poolN n * 1024), (s.getR Reg.FCE_REC_BASE0_OFF n, s.poolN n * 128),
    (s.getR Reg.FCE_REC_BASE1_OFF n, s.poolN n * 128)]
    ++ (if s.flag Reg.FCE_LOG_CFG_EN n then [(s.getR Reg.FCE_LOG_BASE_OFF n, 32 * 2 ^ s.fceLog2 n)] else [])
    ++ (if s.flag Reg.FCE_BM_CFG_EN n then [(s.getR Reg.FCE_BM_BASE_OFF n, s.bmBytes n)] else [])

/-- REASON 3 does not hold (R389). -/
def State.soutOk (s : State) (n : Nat) : Bool :=
  let f := s.getR Reg.FCE_SOUT_FLOW n
  !s.flag Reg.FCE_SOUT_EN n
    || (decide (s.cstate f = 1) && decide (s.getR Reg.THY_CT_CFG_MODE f = 0) && decide (s.getR Reg.THY_CT_EP_SRC f = fceEp n))

/-- The address of an offset in the fail memory of an engine's base die (R387). -/
def fmAddr (n off : Nat) : Nat := 0x4100000000 + n / 4 * 0x800000 + off

/-- A site's fields that ARM clears (R424). -/
def siteFields : List Field :=
  [Reg.FCE_SITE_FLAGS_FAIL, Reg.FCE_SITE_FLAGS_UNREP, Reg.FCE_SITE_FLAGS_INCOMPLETE, Reg.FCE_SITE_FLAGS_UNCAL,
    Reg.FCE_SITE_FLAGS_STOPPED, Reg.FCE_SITE_FLAGS_UNTRACKED, Reg.FCE_SITE_FLAGS_UNREPDOM, Reg.FCE_SITE_FAILCNT_COUNT,
    Reg.FCE_SITE_FFV_VNUM, Reg.FCE_SITE_FFT_T, Reg.FCE_SITE_CNT_LATE, Reg.FCE_SITE_CNT_LOGSKIP]

/-- What an ARM that is accepted clears beside the bitmap (R389). -/
def State.fceClear (s : State) (n : Nat) : State :=
  ((((s.resetRange siteFields (n * 1024) 1024).resetRange [Reg.FCE_IN_STAT_LASTSEEN, Reg.FCE_IN_STAT_GAPS] (n * 16) 16).resetFields
    [Reg.FCE_LOG_WP_WP, Reg.FCE_LOG_RP_RP, Reg.FCE_LOG_DROPS_COUNT, Reg.FCE_LOG_DROPS_OVF, Reg.FCE_POOL_USED_USED,
      Reg.FCE_POOL_USED_UNTRACKED, Reg.FCE_SOUT_PER_SKIPS, Reg.FCE_VDONE_VNUM, Reg.FCE_VDONE_HI_VALID,
      Reg.FCE_STAT_ABORT_LATE] n).modFcx n (fun k => { fce0 with stat := k.stat }))

/-- FCE_ARM (R389). -/
def execFceArm (n : Fin 16) (s : State) : Result :=
  let s := s.touchPair n
  let fail := fun (r : Nat) => (s.fceSt n 4).setR Reg.FCE_STAT_REASON n r
  if s.fceBusy n then .next s
  else if !s.descOk n then .next (fail 1)
  else if !(s.fceAreas n).all (fun a => decide (a.1 + a.2 ≤ 0x800000)) then .next (fail 2)
  else if !s.soutOk n then .next (fail 3)
  else
    let t := ((s.fceClear n).setR Reg.FCE_STAT_REASON n 0).fceSt n 1
    .next (if s.flag Reg.FCE_BM_CFG_EN n
      then t.writeRange (fmAddr n (s.getR Reg.FCE_BM_BASE_OFF n)) (s.bmBytes n) 0 (fceEp n) else t)

/-- FCE_ARM_COMPLETE (R389): the first statistics snapshot is due now, at ARM's end (R419). -/
def execFceArmComplete (n : Fin 16) (s : State) : Result :=
  s.when (decide (s.getR Reg.FCE_STAT_STATE n = 1))
    (((s.fceSt n 5).modFcx n (fun k => { k with snapAt := s.clockNow })).raise (fceEp n) 0x0701 0 0)

/-- FCE_END (R390). -/
def execFceEnd (n : Fin 16) (s : State) : Result :=
  let s := s.touchPair n
  if s.getR Reg.FCE_STAT_STATE n = 5 ∨ s.getR Reg.FCE_STAT_STATE n = 3
  then .next ((s.fceSt n 6).setR Reg.FCE_STAT_ABORT_LATE n 0)
  else .next (s.setR Reg.FCE_STAT_CFG_REJ n 1)

/-- FCE_ABORT (R38, R391): before the commit point, which FCE_ANALYSIS_COMMIT is, or late in its cycle. -/
def execFceAbort (n : Fin 16) (s : State) : Result :=
  let s := s.touchPair n
  if s.getR Reg.FCE_STAT_STATE n = 6 then .next ((s.fceSt n 3).raise (fceEp n) 0x0703 0 0)
  else s.when (decide (s.getR Reg.FCE_STAT_STATE n = 2) && s.inCommitCycle Reg.FCE_CMT n) (s.setR Reg.FCE_STAT_ABORT_LATE n 1)

/-- FCE_SRST (R392). -/
def execFceSrst (n : Fin 16) (s : State) : Result :=
  let s := s.touchPair n
  .next ((s.fceSt n 0).modFcx n (fun k => { k with buf := [], trace := [] }))

/-! ### Inputs and the trace (R394 to R401) -/

/-- The enabled inputs. -/
def State.fceInputs (s : State) (n : Nat) : List Nat := (List.range 16).filter (fun q => s.flag Reg.FCE_IN_CFG_EN (n * 16 + q))

/-- The records of a result packet (R288, R289, R276). -/
def packetRecords (q : Nat) (p : Packet) : List FceRec :=
  (List.range (p.user / 2 ^ 64 % 128)).map (fun j =>
    let r := payload p / 2 ^ (128 * j) % 2 ^ 128
    ⟨q, r / 2 ^ 64 % 2 ^ 48, r % 2 ^ 64, r / 2 ^ 112, p.poison || ((p.data[j / 4]?).map (fun f => f.poison)).getD false,
      nbit p.user 71 && decide (j = 0)⟩)

/-- FCE_INPUT_PACKET (R390, R394, R398): the oldest packet but a breach notice at the engine. -/
def execFceInputPacket (n : Fin 16) (s : State) : Result :=
  match takeFirst (fun p => decide (p.kind ≠ 6)) (s.inbox (fceEp n)) with
  | none => .next s
  | some (p, rest) =>
    let t := s.putInbox (fceEp n) rest
    match (s.fceInputs n).find? (fun q => decide (p.kind = 0 ∧ s.getR Reg.FCE_IN_CFG_FLOW (n.val * 16 + q) = p.flow)) with
    | none =>
      let u := (t.satAdd Reg.FCE_ERR_UNMATCHED n 1).raise (fceEp n) 0x0705 2 (fceDetail 0 0 0 0 p.flow)
      .next (if p.kind = 0 then u else u.kindReject (fceEp n) p)
    | some q =>
      let l := packetRecords q p
      if s.getR Reg.FCE_STAT_STATE n ≠ 5 then .next (t.satAdd Reg.FCE_ERR_OUTSIDE n l.length)
      else if 4096 < (s.fcx n).buf.length + l.length then .next (t.raise (fceEp n) 0x0706 3 (fceDetail q 0 0 0 l.length))
      else .next (t.modFcx n (fun k => { k with buf := k.buf ++ l }))

/-- What an input's record order is before its first record. -/
def fceIn0 : FceIn := ⟨none, none⟩

/-- An input's record order. -/
def State.fceIn (s : State) (n q : Nat) : FceIn := Map.get fceIn0 (s.fcx n).ins q

/-- The largest complete vector number, where every enabled input has processed a record (R403). -/
def State.fceDone (s : State) (n : Nat) : Option Nat :=
  let l := (s.fceInputs n).map (fun q => (s.fceIn n q).done)
  if l.isEmpty || l.any (fun d => d.isNone) then none
  else
    let ds := l.filterMap id
    ds.tail.foldl (fun m d => m.map (fun a => if numLe a d then a else d)) ds.head?

/-- FCE_VDONE shows the largest complete number, and the trace discards the entries of complete vectors (R400, R403). -/
def State.fceVdone (s : State) (n : Nat) : State :=
  match s.fceDone n with
  | none => (s.setR Reg.FCE_VDONE_VNUM n 0).setR Reg.FCE_VDONE_HI_VALID n 0
  | some v =>
    ((s.setR Reg.FCE_VDONE_VNUM n v).setR Reg.FCE_VDONE_HI_VALID n 1).modFcx n (fun k => { k with
      trace := k.trace.filter (fun e => !numLe e.num v) })

/-- FCE_TRACE_ENTRY (R400): the oldest entry that PGEn has formed. -/
def execFceTraceEntry (n : Fin 16) (s : State) : Result :=
  match (s.pgx n).trace with
  | [] => .next s
  | e :: rest =>
    s.when (decide ((s.fcx n).trace.length < 8192))
      (((s.modPgx n (fun k => { k with trace := rest })).modFcx n (fun k => { k with trace := k.trace ++ [e] })).fceVdone n)

/-! ### Records (R395 to R397, R402, R405) -/

/-- The channels of an input that a record's word fails, or all with `all`, as distinct (site, DQ) pairs of enabled sites (R395). -/
def State.fceCells (s : State) (n q word : Nat) (all : Bool) : List (Nat × Nat) :=
  ((List.range 32).filter (fun i =>
    let c := n * 512 + 32 * q + i
    s.flag Reg.FCE_CHMAP_EN c && (all || nbit word i) && s.flag Reg.FCE_SITE_FLAGS_EN (n * 1024 + s.getR Reg.FCE_CHMAP_SITE c))).map
      (fun i => (s.getR Reg.FCE_CHMAP_SITE (n * 512 + 32 * q + i), s.getR Reg.FCE_CHMAP_DQ (n * 512 + 32 * q + i)))
    |>.eraseDups

/-- The sites of a list of pairs, once each. -/
def sitesOf (l : List (Nat × Nat)) : List Nat := (l.map (fun e => e.1)).eraseDups

/-- Some sites show INCOMPLETE. -/
def State.fceIncomplete (s : State) (n : Nat) (l : List Nat) : State :=
  s.setEach Reg.FCE_SITE_FLAGS_INCOMPLETE (l.map (fun i => n * 1024 + i)) 1

/-- The sites of an input's mapped channels that are not STOPPED: a STOPPED site only counts FAILCNT (R405). -/
def State.fceMapped (s : State) (n q : Nat) : List Nat :=
  (sitesOf (s.fceCells n q 0 true)).filter (fun i => !s.flag Reg.FCE_SITE_FLAGS_STOPPED (n * 1024 + i))

/-- A gap at an input (R396). -/
def State.fceGap (s : State) (n : Nat) (r : FceRec) (expected : Nat) : State :=
  ((s.fceIncomplete n (s.fceMapped n r.input)).satAdd Reg.FCE_IN_STAT_GAPS (n * 16 + r.input) 1).raise (fceEp n) 0x0704 3
    (fceDetail r.input 0 0 r.num expected)

/-! ### The fail log and the bitmap (R406 to R408) -/

/-- A log entry's 32 bytes (R406). -/
def logBytes (r : FceRec) (site : Nat) (tr : Option TraceEnt) (asel : Bool) (mask : Nat) : Nat :=
  let v := (tr.map (fun e => e.addrv)).getD false
  let adr := if v then (tr.map (fun e => if asel then e.a else e.l)).getD 0 else 0
  let z := if v then (tr.map (fun e => e.z)).getD 0 else 0
  r.num % 2 ^ 48 + site % 1024 * 2 ^ 48 + bit v * 2 ^ 58 + bit (nbit r.flags 2) * 2 ^ 59 + r.input % 16 * 2 ^ 60
    + ((tr.map (fun e => e.vt)).getD (2 ^ 64 - 1)) % 2 ^ 64 * 2 ^ 64 + adr % 2 ^ 48 * 2 ^ 128 + z % 2 ^ 8 * 2 ^ 176
    + mask % 2 ^ 64 * 2 ^ 192

/-- A site's entry for a record enters the ring (R406, R407): LOGMAX counts every entry the site would make. -/
def State.fceLog (s : State) (n : Nat) (r : FceRec) (site : Nat) (tr : Option TraceEnt) (mask : Nat) : State :=
  let lim := s.getR Reg.FCE_LOG_CFG_LOGMAX n
  let made := Map.get 0 (s.fcx n).logged site
  if !s.flag Reg.FCE_LOG_CFG_EN n then s
  else if lim ≠ 0 ∧ lim ≤ made then s.satAdd Reg.FCE_SITE_CNT_LOGSKIP (n * 1024 + site) 1
  else
    let t := s.modFcx n (fun k => { k with logged := Map.set 0 k.logged site (made + 1) })
    let wp := s.getR Reg.FCE_LOG_WP_WP n
    let cap := 2 ^ s.fceLog2 n
    if (wp + 1) % cap = s.getR Reg.FCE_LOG_RP_RP n % cap then
      let u := (t.satAdd Reg.FCE_LOG_DROPS_COUNT n 1).setR Reg.FCE_LOG_DROPS_OVF n 1
      if (s.fcx n).onceLog then u
      else (u.modFcx n (fun k => { k with onceLog := true })).raise (fceEp n) 0x0709 2 (fceDetail r.input site 0 r.num 0)
    else
      (t.writeRange (fmAddr n (s.getR Reg.FCE_LOG_BASE_OFF n + 32 * (wp % cap))) 32
        (logBytes r site tr (s.flag Reg.FCE_DOM_SEL_ASEL n) mask) (fceEp n)).setR Reg.FCE_LOG_WP_WP n ((wp + 1) % cap)

/-- A failing cell: domain, row, column coordinate (R409). -/
structure CellAt where
  dom : Nat
  row : Nat
  col : Nat
deriving DecidableEq, Repr

/-- The cell that a trace entry's address and a DQ name (R409). -/
def State.cellAt (s : State) (n dq : Nat) (e : TraceEnt) : CellAt :=
  let a := if s.flag Reg.FCE_DOM_SEL_ASEL n then e.a else e.l
  let dqx := s.getR Reg.FCE_DOM_SEL_DQX n
  let db := s.getR Reg.FCE_DOM_SEL_DB n
  ⟨(s.getR Reg.FCE_DOM_FIX_FIX n + (fld e.z 0 (s.getR Reg.FCE_DOM_SEL_ZB n) * 2 ^ db + fld a (s.getR Reg.FCE_DOM_SEL_DOMLO n) db)) % 65536,
    fld a (s.getR Reg.FCE_DOM_ROW_ROWLO n) (s.getR Reg.FCE_DOM_ROW_RB n),
    fld a (s.getR Reg.FCE_DOM_ROW_COLLO n) (s.getR Reg.FCE_DOM_ROW_CB n) * 2 ^ dqx + fld dq 0 dqx⟩

/-- A failing cell's bit in the bitmap is set in place (R386, R408). -/
def State.fceBitmap (s : State) (n site : Nat) (c : CellAt) : State :=
  let s0 := s.getR Reg.FCE_BM_CFG_SITE0 n
  if s.flag Reg.FCE_BM_CFG_EN n && decide (c.dom = s.getR Reg.FCE_BM_SEL_DOM n) && decide (s0 ≤ site)
      && decide (site < s0 + s.bmSites n) then
    let b := (site - s0) * 2 ^ s.bmWidth n + c.row * 2 ^ (s.getR Reg.FCE_DOM_ROW_CB n + s.getR Reg.FCE_DOM_SEL_DQX n) + c.col
    s.writeRange (fmAddr n (s.getR Reg.FCE_BM_BASE_OFF n + b / 8)) 1 (2 ^ (b % 8)) (fceEp n) false 1
  else s

/-! ### The repair analysis unit (R410 to R414) -/

/-- Put a number into a rising list. -/
def insertAsc (a : Nat) : List Nat → List Nat
  | [] => [a]
  | b :: l => if a < b then a :: b :: l else if a = b then b :: l else b :: insertAsc a l

/-- The lowest line with more cells than allowed; `isRow` picks rows. -/
def overLine (cells : List (Nat × Nat)) (isRow : Bool) (limit : Nat) : Option Nat :=
  let ix := cells.map (fun c => if isRow then c.1 else c.2)
  match ix.filter (fun x => decide (limit < (ix.filter (fun y => decide (y = x))).length)) with
  | [] => none
  | x :: l => some (l.foldl min x)

/-- A line becomes must-repair: its cells leave the table, which lists up to 24 of each kind; a 25th exceeds any spares, so the domain is
unrepairable (R411, R412). -/
def makeLine (t : RauTable) (isRow : Bool) (x : Nat) : RauTable :=
  let u := { t with cells := t.cells.filter (fun c => decide ((if isRow then c.1 else c.2) ≠ x)) }
  if 24 ≤ (if isRow then t.rows else t.cols).length then { u with status := 2 }
  else if isRow then { u with rows := insertAsc x t.rows }
  else { u with cols := insertAsc x t.cols }

/-- One line of the cascade, the kind PREF names first; none where no line qualifies or the lines exceed the spares. -/
def cascadeOne (sr sc : Nat) (prefCol : Bool) (t : RauTable) : Option RauTable :=
  if t.status ≠ 0 ∨ sr < t.rows.length ∨ sc < t.cols.length then none
  else
    let row := overLine t.cells true (sc - t.cols.length)
    let col := overLine t.cells false (sr - t.rows.length)
    if prefCol then
      match col with
      | some x => some (makeLine t false x)
      | none => row.map (makeLine t true)
    else
      match row with
      | some x => some (makeLine t true x)
      | none => col.map (makeLine t false)

/-- The cascade (R411): each step removes at least one cell, so as many steps as cells suffice. -/
def cascade (sr sc : Nat) (prefCol : Bool) : Nat → RauTable → RauTable
  | 0, t => t
  | k + 1, t =>
    match cascadeOne sr sc prefCol t with
    | none => t
    | some u => cascade sr sc prefCol k u

/-- A table is beyond repair (R412). -/
def beyond (sr sc : Nat) (t : RauTable) : Bool :=
  decide (t.status = 2) || decide (sr < t.rows.length) || decide (sc < t.cols.length)
    || decide (2 * (sr - t.rows.length) * (sc - t.cols.length) < t.cells.length)

/-- A fail applied to a tracked table (R411 to R413): status 2 unrepairable, 3 overflow. -/
def rauApply (sr sc : Nat) (prefCol : Bool) (row col : Nat) (t : RauTable) : RauTable :=
  if t.rows.contains row || t.cols.contains col || t.cells.contains (row, col) then t
  else
    let u := cascade sr sc prefCol (t.cells.length + 2) { t with cells := t.cells ++ [(row, col)] }
    if beyond sr sc u then { u with status := 2 }
    else if 128 < u.cells.length then { t with status := 3 }
    else u

/-- The place of a domain's table: site × 65,536 + domain. -/
def domKey (site dom : Nat) : Nat := site * 65536 + dom

/-- A domain became unrepairable (R405, R412). -/
def State.fceUnrep (s : State) (n site dom num : Nat) : State :=
  let i := n * 1024 + site
  let t := (s.setR Reg.FCE_SITE_FLAGS_UNREP i 1).satAdd Reg.FCE_SITE_FLAGS_UNREPDOM i 1
  let t := if s.flag Reg.FCE_CTL_SITESTOP n then t.setR Reg.FCE_SITE_FLAGS_STOPPED i 1 else t
  if s.flag Reg.FCE_SITE_FLAGS_UNREP i then t else t.raise (fceEp n) 0x0707 0 (fceDetail 0 site dom num 0)

/-- Where a pool entry lies. -/
def State.poolAddr (s : State) (n entry : Nat) : Nat := fmAddr n (s.getR Reg.FCE_POOL_BASE_OFF n + 1024 * entry)

/-- What a table is in its pool entry. -/
def tableBits (t : RauTable) : Nat := (Config.tableImage t.rows t.cols t.cells t.status).toNat

/-- Put a domain's table, in its pool entry too (R387, R410). -/
def State.putTable (s : State) (n key : Nat) (t : RauTable) : State :=
  (s.modFcx n (fun k => { k with tables := Map.put k.tables key t })).writeRange (s.poolAddr n t.entry) 1024 (tableBits t) (fceEp n)

/-- A table as the bytes of its pool entry give it: as the RAU wrote it, or as what was written over it reads (R387, R414). -/
def tableFrom (t : RauTable) (x : Nat × Bool) : RauTable × Bool :=
  let y := Config.tableRead (BitVec.ofNat 8192 x.1)
  (if x.1 = tableBits t then t else { t with rows := y.1.take 24, cols := y.2.1.take 24, cells := y.2.2.take 128 }, x.2)

/-- A table read from its pool entry, and whether a word of it is poisoned (R387, R414). -/
def State.readTable (s : State) (n : Nat) (t : RauTable) : (RauTable × Bool) × State :=
  let r := s.readRange (s.poolAddr n t.entry) 1024 (fceEp n)
  (tableFrom t r.1, r.2)

/-- The first word of a pool entry, as its unit and word: where a poisoned table read is reported (notes/assumptions/38). -/
def State.poolWord (s : State) (n entry : Nat) : Nat × Nat :=
  (unitOf (s.poolAddr n entry)).getD (0, 0)

/-- A table read of a domain returned poisoned data (R414). -/
def State.fceTableErr (s : State) (n site dom num : Nat) (t : RauTable) : State :=
  ((s.modFcx n (fun k => { k with tables := Map.put k.tables (domKey site dom) { t with status := 4 } })).fceIncomplete n [site]).raise (fceEp n) 0x070A 4
    (fceDetail 0 site dom num t.entry)

/-- A table read of a domain found an uncorrectable error (R414, R483): the word joins its unit's repair queue. -/
def State.fceTableUe (s : State) (n site dom num : Nat) (t : RauTable) : State :=
  let x := s.poolWord n t.entry
  ((s.memUe x.1 x.2 (fceEp n)).rqPush x.1 x.2 true).fceTableErr n site dom num t

/-- A domain's table as a fail finds it: the one it holds, read from the pool, or a new pool entry, with whether it is poisoned; none for an untracked domain (R410). -/
def State.fceTable (s : State) (n site dom num : Nat) : Option (RauTable × Bool) × State :=
  let key := domKey site dom
  if (s.fcx n).untracked.contains key then (none, s)
  else match Map.find (s.fcx n).tables key with
    | some t => (some (s.readTable n t).1, (s.readTable n t).2)
    | none =>
      let used := s.getR Reg.FCE_POOL_USED_USED n
      if used < s.poolN n then (some (⟨used, [], [], [], 0, 0, num⟩, false), s.setR Reg.FCE_POOL_USED_USED n (used + 1))
      else
        let t := ((s.modFcx n (fun k => { k with untracked := k.untracked ++ [key] })).setR Reg.FCE_SITE_FLAGS_UNTRACKED
          (n * 1024 + site) 1).fceIncomplete n [site]
        let t := t.satAdd Reg.FCE_POOL_USED_UNTRACKED n 1
        (none, if (s.fcx n).oncePool then t
          else (t.modFcx n (fun k => { k with oncePool := true })).raise (fceEp n) 0x0708 2 (fceDetail 0 site dom num (s.poolN n)))

/-- A failing cell goes to its domain's table (R410 to R414); `ue` are the pool entries whose read returns poisoned data. -/
def State.fceRau (s : State) (n site num : Nat) (c : CellAt) (ue : List Nat) : State :=
  match s.fceTable n site c.dom num with
  | (none, t) => t
  | (some (t0, poison), t) =>
    let tb := { t0 with fails := min (t0.fails + 1) (2 ^ 32 - 1) }
    if ue.contains tb.entry ∧ tb.status ≠ 4 then t.fceTableUe n site c.dom num tb
    else if poison ∧ tb.status ≠ 4 then t.fceTableErr n site c.dom num tb
    else if tb.status ≠ 0 then t.putTable n (domKey site c.dom) tb
    else
      let u := rauApply (s.getR Reg.FCE_DOM_SPARE_SR n) (s.getR Reg.FCE_DOM_SPARE_SC n) (s.flag Reg.FCE_DOM_SPARE_PREF n) c.row c.col tb
      let t := t.putTable n (domKey site c.dom) u
      if u.status = 2 then t.fceUnrep n site c.dom num
      else if u.status = 3 then t.fceIncomplete n [site]
      else t

/-- A site's fails of a record (R401, R402, R405 to R412): `dqs` are its failing DQs. -/
def State.fceSite (s : State) (n : Nat) (r : FceRec) (tr : Option TraceEnt) (ue : List Nat) (site : Nat) (dqs : List Nat) : State :=
  let i := n * 1024 + site
  let t := s.satAdd Reg.FCE_SITE_FAILCNT_COUNT i dqs.length
  if s.flag Reg.FCE_SITE_FLAGS_STOPPED i then t
  else
    let t := if nbit r.flags 2 then t.setR Reg.FCE_SITE_FLAGS_UNCAL i 1 else t
    let t := if s.flag Reg.FCE_CTL_TRACE n && tr.isNone then t.fceIncomplete n [site] else t
    let t := if s.flag Reg.FCE_SITE_FLAGS_FAIL i then t
      else ((t.setR Reg.FCE_SITE_FLAGS_FAIL i 1).setR Reg.FCE_SITE_FFV_VNUM i r.num).setR Reg.FCE_SITE_FFT_T i
        ((tr.map (fun e => e.vt)).getD (2 ^ 64 - 1))
    let t := t.fceLog n r site tr (dqs.foldl (fun m d => setBit m d) 0)
    match tr with
    | some e =>
      if e.addrv then dqs.foldl (fun u d => (u.fceBitmap n site (s.cellAt n d e)).fceRau n site r.num (s.cellAt n d e) ue) t else t
    | none => t

/-- A record in order is evaluated (R397, R401, R402). -/
def State.fceEval (s : State) (n : Nat) (r : FceRec) (ue : List Nat) : State :=
  let tr := if s.flag Reg.FCE_CTL_TRACE n then (s.fcx n).trace.find? (fun e => decide (e.num = r.num)) else none
  let t := if s.flag Reg.FCE_CTL_TRACE n && tr.isNone then s.satAdd Reg.FCE_TRACE_MISS n 1 else s
  if nbit r.flags 1 then
    let l := s.fceMapped n r.input
    l.foldl (fun u i => u.satAdd Reg.FCE_SITE_CNT_LATE (n * 1024 + i) 1) (t.fceIncomplete n l)
  else
    let cells := s.fceCells n r.input r.word false
    (sitesOf cells).foldl (fun u site =>
      u.fceSite n r tr ue site ((cells.filter (fun e => decide (e.1 = site))).map (fun e => e.2))) t

/-- With AUTOEND, a LAST record on every enabled input ends capture (R390). -/
def State.fceAutoEnd (s : State) (n : Nat) : State :=
  let l := s.fceInputs n
  if s.flag Reg.FCE_CTL_AUTOEND n && decide (s.getR Reg.FCE_STAT_STATE n = 5) && !l.isEmpty
      && l.all (fun q => s.flag Reg.FCE_IN_STAT_LASTSEEN (n * 16 + q))
  then s.fceSt n 6 else s

/-- Put an input's record order. -/
def State.putIn (s : State) (n q : Nat) (i : FceIn) : State :=
  s.modFcx n (fun k => { k with ins := Map.set fceIn0 k.ins q i })

/-- A record is processed (R396): gaps, discards, then its evaluation. -/
def State.fceRecord (s : State) (n : Nat) (r : FceRec) (ue : List Nat) : State :=
  let i := s.fceIn n r.input
  let want := if r.timed then none else i.expected
  if r.poison then
    (s.fceGap n r (want.getD 0)).putIn n r.input { i with expected := want.map (fun e => (e + 1) % 2 ^ 48) }
  else
    let exp := want.getD r.num
    let t := if r.num = exp then s else s.fceGap n r exp
    if numLe exp r.num then
      let done := match i.done with
        | some d => if numLe r.num d then d else r.num
        | none => r.num
      let t := t.putIn n r.input ⟨some ((r.num + 1) % 2 ^ 48), some done⟩
      let t := if nbit r.flags 8 then t.setR Reg.FCE_IN_STAT_LASTSEEN (n * 16 + r.input) 1 else t
      (t.fceEval n r ue).fceAutoEnd n
    else t

/-- FCE_RECORD_PROCESS (R390, R396 to R414): the oldest record of the input buffer. -/
def execFceRecordProcess (n : Fin 16) (ue : List Nat) (s : State) : Result :=
  match (s.fcx n).buf with
  | [] => .next s
  | r :: rest =>
    s.when (decide (s.getR Reg.FCE_STAT_STATE n = 5) || decide (s.getR Reg.FCE_STAT_STATE n = 6))
      (((s.modFcx n (fun k => { k with buf := rest })).fceRecord n r ue).fceVdone n)

/-! ### The solution (R415) -/

/-- A cover: its further rows and columns, each rising. -/
structure Cover where
  rows : List Nat
  cols : List Nat
deriving DecidableEq, Repr

/-- The lexicographic order of number lists. -/
def lexLt : List Nat → List Nat → Bool
  | [], [] => false
  | [], _ :: _ => true
  | _ :: _, [] => false
  | a :: l, b :: m => decide (a < b) || (decide (a = b) && lexLt l m)

/-- What ranks covers (R415): lines, lines of the kind PREF does not prefer, row numbers, column numbers. -/
def coverRank (prefCol : Bool) (c : Cover) : List Nat :=
  [c.rows.length + c.cols.length, if prefCol then c.rows.length else c.cols.length] ++ c.rows ++ c.cols

/-- The better of two covers. -/
def betterCover (prefCol : Bool) (a b : Option Cover) : Option Cover :=
  match a, b with
  | none, b => b
  | a, none => a
  | some x, some y => if lexLt (coverRank prefCol y) (coverRank prefCol x) then some y else some x

/-- The best cover that extends a partial one: the first cell not covered takes its row or its column. -/
def exactCover (prefCol : Bool) : Nat → List (Nat × Nat) → Nat → Nat → Cover → Option Cover
  | _, [], _, _, c => some c
  | 0, _ :: _, _, _, _ => none
  | k + 1, (r, q) :: l, srf, scf, c =>
    betterCover prefCol
      (if srf = 0 then none
        else exactCover prefCol k (l.filter (fun e => decide (e.1 ≠ r))) (srf - 1) scf { c with rows := insertAsc r c.rows })
      (if scf = 0 then none
        else exactCover prefCol k (l.filter (fun e => decide (e.2 ≠ q))) srf (scf - 1) { c with cols := insertAsc q c.cols })

/-- The candidates of a heuristic step: (cells covered, line), rows or columns. -/
def lineCounts (cells : List (Nat × Nat)) (isRow : Bool) : List (Nat × Nat) :=
  let ix := cells.map (fun c => if isRow then c.1 else c.2)
  ix.eraseDups.map (fun x => ((ix.filter (fun y => decide (y = x))).length, x))

/-- The best of a kind's candidates: most cells, then the lowest number. -/
def bestLine : List (Nat × Nat) → Option (Nat × Nat)
  | [] => none
  | x :: l => some (l.foldl (fun a b => if a.1 < b.1 ∨ (a.1 = b.1 ∧ b.2 < a.2) then b else a) x)

/-- The heuristic solution (R415). -/
def heurCover (prefCol : Bool) : Nat → List (Nat × Nat) → Nat → Nat → Cover → Option Cover
  | _, [], _, _, c => some c
  | 0, _ :: _, _, _, _ => none
  | k + 1, l, srf, scf, c =>
    let row := if srf = 0 then none else bestLine (lineCounts l true)
    let col := if scf = 0 then none else bestLine (lineCounts l false)
    let takeRow := match row, col with
      | some a, some b => if prefCol then decide (b.1 < a.1) else decide (b.1 ≤ a.1)
      | some _, none => true
      | none, _ => false
    if takeRow then
      match row with
      | some a => heurCover prefCol k (l.filter (fun e => decide (e.1 ≠ a.2))) (srf - 1) scf { c with rows := insertAsc a.2 c.rows }
      | none => none
    else
      match col with
      | some b => heurCover prefCol k (l.filter (fun e => decide (e.2 ≠ b.2))) srf (scf - 1) { c with cols := insertAsc b.2 c.cols }
      | none => none

/-- The solution is exact (R415). -/
def State.fceExact (s : State) (n : Nat) : Bool :=
  decide (s.getR Reg.FCE_DOM_SPARE_SR n ≤ 8 ∧ s.getR Reg.FCE_DOM_SPARE_SC n ≤ 8)

/-- The further lines a table's solution takes (R415). -/
def State.fceSolve (s : State) (n : Nat) (t : RauTable) : Option Cover :=
  let srf := s.getR Reg.FCE_DOM_SPARE_SR n - t.rows.length
  let scf := s.getR Reg.FCE_DOM_SPARE_SC n - t.cols.length
  let p := s.flag Reg.FCE_DOM_SPARE_PREF n
  if s.fceExact n then exactCover p (srf + scf) t.cells srf scf ⟨[], []⟩ else heurCover p (srf + scf) t.cells srf scf ⟨[], []⟩

/-! ### Repair records (R417, R418) -/

/-- A list of a record: 24 entries of 16 bits, unused ones 0xFFFF. -/
def lineBits (l : List Nat) : Nat :=
  (List.range 24).foldl (fun acc i => acc + (l[i]?.getD 0xFFFF) % 2 ^ 16 * 2 ^ (16 * i)) 0

/-- A record's 128 bytes (R417). -/
def recordBits (site dom result : Nat) (rows cols : List Nat) (heur inc uncal : Bool) (t : RauTable) : Nat :=
  site % 1024 + dom % 2 ^ 16 * 2 ^ 16 + result * 2 ^ 32 + rows.length % 32 * 2 ^ 35 + cols.length % 32 * 2 ^ 40 + bit heur * 2 ^ 45
    + bit inc * 2 ^ 46 + bit uncal * 2 ^ 47 + t.rows.length % 32 * 2 ^ 48 + t.cols.length % 32 * 2 ^ 53 + t.cells.length % 2 ^ 16 * 2 ^ 64
    + t.fails % 2 ^ 32 * 2 ^ 80 + t.ffv % 2 ^ 48 * 2 ^ 112 + lineBits rows * 2 ^ 256 + lineBits cols * 2 ^ 640

/-- One result record of R417: the record of table `t`, with its result, lines and HEUR, at record `i` of the report. -/
def State.fceRecordPut (u : State) (n base i key : Nat) (t : RauTable) (result : Nat) (rows cols : List Nat) (heur : Bool) : State :=
  u.writeRange (fmAddr n (base + 128 * i)) 128
    (recordBits (key / 65536) (key % 65536) result rows cols heur (u.flag Reg.FCE_SITE_FLAGS_INCOMPLETE (n * 1024 + key / 65536))
      (u.flag Reg.FCE_SITE_FLAGS_UNCAL (n * 1024 + key / 65536)) t) (fceEp n)

/-- Solve one domain and write its record, number `i` of the bank at an offset (R414, R415, R417). -/
def State.fceRecordWrite (s : State) (n base i key : Nat) (ue : List Nat) : State :=
  match Map.find (s.fcx n).tables key with
  | none => s
  | some t0 =>
    let r := s.readTable n t0
    let t := r.1.1
    let s := r.2
    let site := key / 65536
    let dom := key % 65536
    if ue.contains t.entry ∧ t.status ≠ 4 then (s.fceTableUe n site dom 0 t).fceRecordPut n base i key t 4 t.rows t.cols false
    else if r.1.2 ∧ t.status ≠ 4 then (s.fceTableErr n site dom 0 t).fceRecordPut n base i key t 4 t.rows t.cols false
    else if t.status ≠ 0 then s.fceRecordPut n base i key t t.status t.rows t.cols false
    else
      let heur := !s.fceExact n
      match s.fceSolve n t with
      | none => ((s.putTable n key { t with status := 2 }).fceUnrep n site dom 0).fceRecordPut n base i key t 2 t.rows t.cols heur
      | some c => s.fceRecordPut n base i key t (bit heur) (c.rows.foldl (fun l x => insertAsc x l) t.rows)
          (c.cols.foldl (fun l x => insertAsc x l) t.cols) heur

/-- FCE_ANALYSIS_COMMIT (R391, R415 to R418): the buffer is empty; `ue` are the pool entries whose read returns poisoned data. -/
def execFceAnalysisCommit (n : Fin 16) (ue : List Nat) (s : State) : Result :=
  if s.getR Reg.FCE_STAT_STATE n = 6 ∧ (s.fcx n).buf = [] then
    let bank := 1 - s.getR Reg.FCE_STAT_BANK n
    let base := s.getR (if bank = 1 then Reg.FCE_REC_BASE1_OFF else Reg.FCE_REC_BASE0_OFF) n
    let keys := (s.fcx n).tables.map (fun e => e.1)
    let t := keys.zipIdx.foldl (fun u e => u.fceRecordWrite n base e.2 e.1 ue) s
    let t := ((((t.setR Reg.FCE_STAT_BANK n bank).setR Reg.FCE_REC_CNT_COUNT n keys.length).setR Reg.FCE_REC_TIME_T n
      s.time.toNat).fceSt n 2).markCommit Reg.FCE_CMT n
    let t := t.raise (fceEp n) 0x0702 0 (fceDetail 0 0 0 0 keys.length)
    .next (if s.flag Reg.FCE_NOTIFY_EN n then
      t.ingress { dest := s.getR Reg.FCE_NOTIFY_EP n, src := fceEp n, prio := s.getR Reg.FCE_NOTIFY_PRIO n, len := 1, kind := 0,
                  user := n + bank * 2 ^ 4 + keys.length % 2 ^ 13 * 2 ^ 5 + s.time.toNat * 2 ^ 64, data := [flit0] }
      else t)
  else .next s

/-! ### Statistics (R419) and breach notices (R399) -/

/-- A site's eight bytes of statistics. -/
def State.siteStat (s : State) (n site : Nat) : Nat :=
  let i := n * 1024 + site
  s.getR Reg.FCE_SITE_FAILCNT_COUNT i + s.getR Reg.FCE_SITE_FLAGS_EN i * 2 ^ 32 + s.getR Reg.FCE_SITE_FLAGS_FAIL i * 2 ^ 33
    + s.getR Reg.FCE_SITE_FLAGS_UNREP i * 2 ^ 34 + s.getR Reg.FCE_SITE_FLAGS_INCOMPLETE i * 2 ^ 35
    + s.getR Reg.FCE_SITE_FLAGS_UNCAL i * 2 ^ 36 + s.getR Reg.FCE_SITE_FLAGS_STOPPED i * 2 ^ 37
    + s.getR Reg.FCE_SITE_FLAGS_UNTRACKED i * 2 ^ 38 + s.getR Reg.FCE_SITE_FLAGS_UNREPDOM i * 2 ^ 48

/-- A packet of a snapshot: `c` sites from `first`. -/
def State.statPacket (s : State) (n first c : Nat) : Packet :=
  let f := s.getR Reg.FCE_SOUT_FLOW n
  let v := (List.range c).foldl (fun acc i => acc + s.siteStat n (first + i) * 2 ^ (64 * i)) 0
  { dest := s.getR Reg.THY_CT_EP_DST f, src := fceEp n, cls := true, flow := f, len := flitsFor (8 * c), kind := 0, size := 8 * c,
    user := first + c * 2 ^ 10 + s.time.toNat * 2 ^ 64, data := toFlits v (8 * c) false }

/-- The packets of a snapshot of the sites from `first` to below `last`, at most k. -/
def State.statPackets (s : State) (n per last : Nat) : Nat → Nat → List Packet
  | 0, _ => []
  | k + 1, first =>
    if last ≤ first then [] else s.statPacket n first (min per (last - first)) :: s.statPackets n per last k (first + per)

/-- FCE_STAT_SNAPSHOT (R419): the snapshot's time has come. -/
def execFceStatSnapshot (n : Fin 16) (s : State) : Result :=
  let k := s.fcx n
  if s.getR Reg.FCE_STAT_STATE n = 5 ∧ s.flag Reg.FCE_SOUT_EN n = true ∧ k.snapAt ≤ s.clockNow then
    let t := s.modFcx n (fun k => { k with snapAt := (k.snapAt + max 1 (s.getR Reg.FCE_SOUT_PER_PERIOD n) * frameTicks) % 2 ^ 64 })
    if k.stat.isEmpty then
      let s0 := s.getR Reg.FCE_SOUT_RANGE_SITE0 n
      let last := min 1024 (s0 + max 1 (min 1024 (s.getR Reg.FCE_SOUT_RANGE_NS n)))
      .next (t.modFcx n (fun k => { k with stat := s.statPackets n (max 1 (s.getR Reg.FCE_SOUT_SPKT n)) last 1024 s0 }))
    else
      let u := t.satAdd Reg.FCE_SOUT_PER_SKIPS n 1
      .next (if k.onceSkip then u else (u.modFcx n (fun k => { k with onceSkip := true })).raise (fceEp n) 0x070B 2 0)
  else .next s

/-- FCE_STAT_PACKET_INJECT (R419): credit covers the oldest packet of the snapshot. -/
def execFceStatPacketInject (n : Fin 16) (s : State) : Result :=
  match (s.fcx n).stat with
  | [] => .next s
  | p :: rest => s.when (s.covers p.flow (p.len + 1)) ((s.modFcx n (fun k => { k with stat := rest })).ingress p)

/-- FCE_BREACH_NOTICE (R399). -/
def execFceBreachNotice (n : Fin 16) (s : State) : Result :=
  match takeFirst (fun p => decide (p.kind = 6)) (s.inbox (fceEp n)) with
  | none => .next s
  | some (p, rest) =>
    let l := (List.range 16).filter (fun q => decide (s.getR Reg.FCE_IN_CFG_FLOW (n.val * 16 + q) = noticeBits p % 2 ^ 12))
    .next ((s.putInbox (fceEp n) rest).setEach Reg.FCE_IN_STAT_BREACHED (l.map (fun q => n.val * 16 + q)) 1)

end Sys2Proof.Machine
end

