-- ==== Sys2Proof/Machine/Lpddr.lean ====
section
/-!
DEFINITION. LPDDR5X channels (R497 to R520).
-/

namespace Sys2Proof.Machine

/-! ### Serving requests (R501 to R508, R511) -/

/-- Every word of a range is mapped (R501). -/
def State.lpxRangeOk (s : State) (a n : Nat) : Bool :=
  decide (0 < n) && (List.range (wordsOf a n)).all (fun j => (s.lpxMap (a / 8 * 8 + 8 * j)).isSome)

/-- What a link error of the first burst counts and raises (R504). -/
def State.lpxLink (s : State) (n addr : Nat) (link : LinkErr) : State :=
  match link with
  | .corrected => ((s.satAdd Reg.LPX_ERR_LINK_CE n 1).lpxElast n addr).raise (lpxEp n) 0x0D03 1 (lpxDetail addr)
  | .failed => ((s.satAdd Reg.LPX_ERR2_UE n 1).lpxElast n addr).raise (lpxEp n) 0x0D05 4 (lpxDetail addr)
  | _ => s

/-- A burst whose second read failed delivers poison (R504). -/
def linkPoison (a : Nat) (link : LinkErr) (l : List Rd) : List Rd :=
  if link = .failed then
    l.zipIdx.map (fun e => if (a / 8 * 8 + 8 * e.2) / 64 = a / 64 then { e.1 with poison := true } else e.1)
  else l

/-- Where a channel-local byte address lies in a channel (R503). -/
structure LpxPlace where
  byte : Nat
  sub : Nat
  group : Nat
  column : Nat
  bank : Nat
  row : Nat
  rank : Nat
deriving DecidableEq, Repr

/-- The decoding of a channel-local byte address (R503): rows of `r` bits, 15, 16 or 17 for dies of 8, 16 or 32 Gb. -/
def lpxPlace (r : Nat) (two : Bool) (a : Nat) : LpxPlace :=
  ⟨fld a 0 6, fld a 6 1, fld a 7 2, fld a 9 5, fld a 14 2, fld a 16 r, if two then fld a (16 + r) 1 else 0⟩

/-- The rank that a channel-local address names (R503). -/
def State.lpxRank (s : State) (n loc : Nat) : Nat :=
  (lpxPlace (15 + s.getR Reg.LPX_DEV_DENSITY n) (s.flag Reg.LPX_DEV_RANKS n) loc).rank

/-- A request takes its rank out of power-down (R516). -/
def State.lpxWakeRank (s : State) (n loc : Nat) : State :=
  s.modLp n (fun c => { c with powerDown := c.powerDown.filter (fun r => decide (r ≠ s.lpxRank n loc)) })

/-- A word that a burst's merge reads besides the words written: an error in it counts and is raised, and the burst's write leaves it corrected, or as stored poison
(R505, R507). -/
def State.lpxReword (s : State) (a : Nat) : State :=
  match s.lpxMap a with
  | none => s
  | some (n, loc) =>
    let k := lpxKey n loc
    let v := s.word k
    let put := fun (w : MemWord) => ((s.lpxRead n loc a none).2.putWord k w).modLp n (fun c => { c with wb := c.wb.filter (fun e => decide (e.1 ≠ loc)) })
    if !(s.lp n).inl then s
    else match v.mark with
      | .single _ => put { v with data := corrected v, mark := .clean }
      | .multi => put { v with mark := .poison }
      | _ => s

/-- A write reads the rest of each burst that it covers in part, for the burst is written whole (R505). -/
def State.lpxMerge (s : State) (a n : Nat) : State :=
  ((List.range (8 * ((a + n + 63) / 64 - a / 64))).map (fun j => a / 64 * 64 + 8 * j)).foldl (fun t x =>
    if a < x + 8 ∧ x < a + n then t else t.lpxReword x) s

/-- What becomes of a request to LPDDR5X: unmapped, it waits, or the channel serves it at a local address. -/
inductive LpxCheck where
  | unmapped
  | wait (n : Nat)
  | ok (n loc : Nat)
deriving DecidableEq, Repr

/-- The window of a frame in which a channel in deterministic mode serves no request: ncyc 0 to 127 (R241, R513). -/
def State.lpxWindow (s : State) (c : Nat) : Bool := s.flag Reg.LPX_STAT_DET_ON c && decide (s.nocSlot < 128)

/-- The check of a request (R501, R511, R513). -/
def State.lpxCheck (s : State) (a n : Nat) : LpxCheck :=
  if !s.lpxRangeOk a n then .unmapped
  else match s.lpxMap a with
    | none => .unmapped
    | some (c, loc) => if s.getR Reg.LPX_STAT_CSTATE c = 2 ∧ s.lpxWindow c = false then .ok c loc else .wait c

/-- A request reaches its channel (R503 to R508, R511, R607, R611). -/
def State.lpxAccess (s : State) (r : MemReq) (link : LinkErr) (up : Option Upset) : State :=
  match s.dawnGuard r.addr r.bytes r.req r.write with
  | some t => t.respond 0 2
  | none =>
    match s.lpxCheck r.addr r.bytes with
    | .unmapped => (s.decodeError (lpxEp (r.addr / 2 ^ 34 % 16)) r.addr r.req).coreTakes r.req r.addr r.write
    | .wait n => s.modLp n (fun c => { c with waiting := c.waiting ++ [r] })
    | .ok n loc =>
      let t := s.lpxWakeRank n loc
      if r.write then ((t.lpxMerge r.addr r.bytes).writeWords r.addr r.bytes r.data r.req (fun _ => r.poison) 0).respond 0 0
      else
        let x := (t.lpxLink n r.addr link).readWords (r.addr / 8 * 8) (wordsOf r.addr r.bytes) r.req up
        let ws := linkPoison r.addr link x.1
        (x.2.respond (bytesOf r.addr r.bytes ws) 0 (ws.any (fun w => w.poison))).coreTakes r.req r.addr false

/-- LPX_ACCESS (R503): `link` is what the first burst's link ECC finds. -/
def execLpxAccess (r : MemReq) (link : LinkErr) (upset : Option Upset) (s : State) : Result := .next (s.lpxAccess r link upset)

/-- A request packet at a channel; none while it waits. -/
def State.lpxPacket (s : State) (e : Nat) (p : Packet) : Option State :=
  match s.dawnGuard p.addr p.size p.src (decide (p.kind = 3)) with
  | some t => some (t.answerStatus e p 2)
  | none =>
    match s.lpxCheck p.addr p.size with
    | .unmapped => some (s.decodeAnswer e p)
    | .wait _ => none
    | .ok n loc =>
      let t := s.lpxWakeRank n loc
      some ((if p.kind = 3 then t.lpxMerge p.addr p.size else t).memAnswer e p.addr 0 p none)

/-! ### The small writes of the collector and of Sage (R29, R644) -/

/-- An agent's own write into one of the memories, which serves it like a request of any requester (R467, R468, R501, R513, R607); none while it must wait. -/
def State.agentMem (s : State) (src a n v : Nat) : Option State :=
  match s.dawnGuard (if inSpd a n then spdPlain a else a) n src true with
  | some t => some t
  | none =>
    if 0x4000000000 ≤ a ∧ a < 0x4030000000 then
      match s.spdCheck a n src with
      | .unmapped => some (s.decodeError (spdEp 0 0) a src)
      | .wait => none
      | .deny b => some ((s.spdTouch a n).spdDeny b src a false)
      | .ok => some ((s.spdTouch a n).writeWords (spdPlain a) n v src (fun _ => false) (spdWin a))
    else if a < 0x4000000000 then
      match s.lpxCheck a n with
      | .unmapped => some (s.decodeError (lpxEp (a / 2 ^ 34 % 16)) a src)
      | .wait _ => none
      | .ok c loc => some (((s.lpxWakeRank c loc).lpxMerge a n).writeWords a n v src (fun _ => false) 0)
    else some (s.writeWords a n v src (fun _ => false) 0)

/-- An agent's own write at any address: a memory takes it at once, and none answers while it must wait; anything else is asked by a packet, and an address that nothing
serves is a decode error (R24). -/
def State.agentPut (s : State) (src a n v : Nat) : Option State :=
  if a < 0x4030000000 ∨ (unitOf a).isSome then (s.agentMem src a n v).map (fun t => t.modResp (fun _ => s.resp))
  else some (s.sendWrite src a n v 0 0 none).1

/-- Requests that waited are tried again; one that still waits stays. -/
def State.lpxRetry (s : State) (e : Nat) (l : List Packet) : State :=
  l.foldl (fun u p =>
    match u.lpxPacket e p with
    | some v => v
    | none => u.putInbox e (u.inbox e ++ [p])) s

/-- The channel serves again: what waited is served, contracts in order of deadline and best effort after them (R231, R511). -/
def State.lpxResume (s : State) (n : Nat) : State :=
  let e := lpxEp n
  let l := (serveOrder (s.inbox e)).filter isRequest
  let t := (s.putInbox e ((s.inbox e).filter (fun p => !isRequest p))).modLp n (fun c => { c with waiting := [] })
  let t := t.lpxRetry e (l.filter (fun p => p.cls))
  let t := (s.lp n).waiting.foldl (fun u r => u.lpxAccess r .ok none) t
  t.lpxRetry e (l.filter (fun p => !p.cls))

/-- Requests wait at a channel that could serve them: its window has ended (R241). -/
def State.lpxOwes (s : State) (n : Nat) : Bool :=
  decide (s.getR Reg.LPX_STAT_CSTATE n = 2) && !s.lpxWindow n && (!(s.lp n).waiting.isEmpty || (s.inbox (lpxEp n)).any isRequest)

/-- The windows that have ended: the channels serve what waited in them (R241). -/
def State.lpxWindowsEnd (s : State) : State :=
  (List.range 16).foldl (fun t n => if t.lpxOwes n then t.lpxResume n else t) s

/-- A time-clock cycle with no command: the clocks advance, and what waited for the end of a window is served (R48, R195, R241). -/
def State.idle (s : State) : State := s.tick.lpxWindowsEnd

/-- LPX_INLINE_WRITEBACK (R507): the oldest word waiting; in deterministic mode inside a window. -/
def execLpxInlineWriteback (n : Fin 16) (s : State) : Result :=
  match (s.lp n).wb with
  | [] => .next s
  | (loc, ue) :: rest =>
    if s.flag Reg.LPX_STAT_DET_ON n ∧ s.lpxWindow n = false then .next s
    else
    let k := lpxKey n loc
    let v := s.word k
    let t := s.modLp n (fun c => { c with wb := rest })
    .next (if ue then t.putWord k { v with mark := .poison }
      else match v.mark with
        | .single _ => t.putWord k { v with data := corrected v, mark := .clean }
        | _ => t)

/-! ### Training (R509 to R512) -/

/-- A channel's training starts: RATE and INLINE are read (R500, R506). -/
def State.lpxTrain (s : State) (n : Nat) : State :=
  (s.lpxSt n 1).modLp n (fun c =>
    { c with inl := s.flag Reg.LPX_CFG_INLINE n, rate := min 4 (s.getR Reg.LPX_CFG_RATE n) })

/-- Every channel in RESET starts training (R593). -/
def State.lpxTrainAll (s : State) : State :=
  (List.range 16).foldl (fun t n => if t.getR Reg.LPX_STAT_CSTATE n = 0 then t.lpxTrain n else t) s

/-- LPX_DEFAULT_TRAIN_START (R593). -/
def execLpxDefaultTrainStart (s : State) : Result := .next s.lpxTrainAll

/-- Usable capacity in units of 256 MB (R498, R506). -/
def usable (density ranks : Nat) (inl : Bool) : Nat :=
  let c := 8 * 2 ^ density * (ranks + 1)
  if inl then c * 7 / 8 else c

/-- The channel becomes READY; a DET that is not in force waits for the next frame start (R513, R517). -/
def State.lpxReady (s : State) (n : Nat) : State :=
  let det := s.flag Reg.LPX_CTL_DET n
  let wait := det != s.flag Reg.LPX_STAT_DET_ON n
  ((s.lpxSt n 2).modLp n (fun c => { c with
    afterReset := false
    initDue := false
    detPend := if wait then some det else none
    detAt := s.nocFrame })).lpxResume n

/-- Training fails (R502, R510). -/
def State.lpxFail (s : State) (n code : Nat) : State :=
  let t := ((s.lpxSt n 4).setR Reg.LPX_STAT_FAILCODE n code).setR Reg.LPX_DEV_U n 0
  let t := if s.flag Reg.LPX_MAP_MODE 0 then t.setR Reg.LPX_ILFAIL 0 1 else t
  let t := if s.getR Reg.LPX_STAT_OP_STATE n = 1 then t.setR Reg.LPX_STAT_OP_STATE n 4 else t
  t.raise (lpxEp n) 0x0D02 4 (lpxDetail 0 code)

/-- LPX_TRAINING_END (R498, R509, R510). -/
def execLpxTrainingEnd (n : Fin 16) (out : TrainEnd) (s : State) : Result :=
  let training := decide (s.getR Reg.LPX_STAT_CSTATE n = 1) && !(s.lp n).initDue
  if !training && decide (s.getR Reg.LPX_STAT_OP_STATE n ≠ 1) then .next s
  else
    let s := if training then s else s.lpxTrain n
    match out with
    | .fail c => .next (s.lpxFail n (max 1 (min 5 c)))
    | .ok d r mfr rev =>
      if 2 < d ∨ 1 < r then .next (s.lpxFail n 2)
      else
        let t := ((((s.setR Reg.LPX_DEV_DENSITY n d).setR Reg.LPX_DEV_RANKS n r).setR Reg.LPX_DEV_MFR n mfr).setR Reg.LPX_DEV_REV n rev).setR
          Reg.LPX_DEV_U n (usable d r (s.lp n).inl)
        let t := (t.setR Reg.LPX_STAT_FAILCODE n 0).modLp n (fun c => { c with committed := false, driftRaised := false })
        let t := (if s.getR Reg.LPX_STAT_OP_STATE n = 1 then t.setR Reg.LPX_STAT_OP_STATE n 2 else t).raise (lpxEp n) 0x0D01 0 0
        .next (if (s.lp n).afterReset && (s.lp n).inl then t.modLp n (fun c => { c with initDue := true }) else t.lpxReady n)

/-- LPX_INIT_PASS_END (R509): every word of the channel holds zero. -/
def execLpxInitPassEnd (n : Fin 16) (s : State) : Result :=
  s.when (decide (s.getR Reg.LPX_STAT_CSTATE n = 1) && (s.lp n).initDue)
    ((s.modMem (fun m => m.filter (fun e => !decide (e.1 / 2 ^ 31 = n.val)))).lpxReady n)

/-- LPX_RETRAIN (R511): `committed` where the first training command goes to the DRAM at once. -/
def execLpxRetrain (n : Fin 16) (committed : Bool) (s : State) : Result :=
  let st := s.getR Reg.LPX_STAT_CSTATE n
  if s.flag Reg.LPX_CTL_DET n then .next (s.setR Reg.LPX_STAT_CFG_REJ n 1)
  else if (st = 2 ∨ st = 4) ∧ s.getR Reg.LPX_STAT_OP_STATE n ≠ 1 then
    let t := ((s.setR Reg.LPX_STAT_OP_STATE n 1).setR Reg.LPX_STAT_ABORT_LATE n 0).modLp n (fun c => { c with committed := committed })
    .next (if committed then t.lpxTrain n else t)
  else .next s

/-- LPX_ABORT (R38, R511). -/
def execLpxAbort (n : Fin 16) (s : State) : Result :=
  if s.getR Reg.LPX_STAT_OP_STATE n ≠ 1 then .next s
  else if (s.lp n).committed then .next (s.setR Reg.LPX_STAT_ABORT_LATE n 1)
  else .next (s.setR Reg.LPX_STAT_OP_STATE n 3)

/-- LPX_RETRAIN_WAIT_TIMEOUT (R511): the oldest best-effort request that waits. -/
def execLpxRetrainWaitTimeout (n : Fin 16) (s : State) : Result :=
  if s.getR Reg.LPX_STAT_CSTATE n ≠ 1 then .next s
  else match (s.lp n).waiting with
    | _ :: rest => .next ((s.modLp n (fun c => { c with waiting := rest })).respond 0 3)
    | [] =>
      match takeFirst (fun p => isRequest p && !p.cls) (s.inbox (lpxEp n)) with
      | some (p, rest) => .next ((s.putInbox (lpxEp n) rest).answerStatus (lpxEp n) p 3)
      | none => .next s

/-- LPX_OSC_PASS (R512). -/
def execLpxOscPass (n : Fin 16) (excess : Bool) (s : State) : Result :=
  s.when (decide (s.getR Reg.LPX_STAT_CSTATE n = 2) && (!s.flag Reg.LPX_STAT_DET_ON n || s.lpxWindow n) && excess && !(s.lp n).driftRaised)
    ((s.modLp n (fun c => { c with driftRaised := true })).raise (lpxEp n) 0x0D09 2 0)

/-! ### Deterministic mode, mapping, power (R502, R513 to R516) -/

/-- LPX_DET_WRITE (R513): the value written waits for the next frame start. -/
def execLpxDetWrite (n : Fin 16) (det : Bool) (s : State) : Result :=
  let busy := s.contractIds.any (fun i => decide (s.getR Reg.THY_CT_EP_SRC i = lpxEp n) || decide (s.getR Reg.THY_CT_EP_DST i = lpxEp n))
  if !det && busy then .next (s.setR Reg.LPX_STAT_CFG_REJ n 1)
  else if s.flag Reg.LPX_CTL_DET n = det then .next s
  else .next ((s.setR Reg.LPX_CTL_DET n (bit det)).modLp n (fun c => { c with detPend := some det, detAt := s.nocFrame }))

/-- LPX_DET_APPLY (R513, R517): the first frame start in READY after the write. -/
def execLpxDetApply (n : Fin 16) (s : State) : Result :=
  match (s.lp n).detPend with
  | none => .next s
  | some v =>
    if s.getR Reg.LPX_STAT_CSTATE n ≠ 2 ∨ s.nocFrame ≤ (s.lp n).detAt then .next s
    else
      let t := (s.modLp n (fun c => { c with detPend := none, powerDown := if v then [] else c.powerDown })).setR Reg.LPX_STAT_DET_ON n (bit v)
      .next (if s.flag Reg.LPX_STAT_DET_ON n == v then t else t.raise (lpxEp n) 0x0D07 0 (lpxDetail 0 0 0 v))

/-- LPX_MAP_WRITE (R502, R519): `clearRej` writes 1 to MAP_REJ. -/
def execLpxMapWrite (mode clearRej : Bool) (s : State) : Result :=
  let t := if clearRej then s.setR Reg.LPX_MAP_MAP_REJ 0 0 else s
  let equal := (List.range 16).all (fun n => decide (s.getR Reg.LPX_DEV_U n = s.getR Reg.LPX_DEV_U 0))
  if (List.range 16).any (fun n => decide (s.getR Reg.LPX_STAT_CSTATE n = 2)) || (mode && !equal) then
    .next (t.setR Reg.LPX_MAP_MAP_REJ 0 1)
  else .next (t.setR Reg.LPX_MAP_MODE 0 (bit mode))

/-- LPX_REFRESH_WINDOW (R241, R513 to R515): inside a window, or outside it while DET_DEGRADED. -/
def execLpxRefreshWindow (n : Fin 16) (refreshes : Fin 6) (s : State) : Result :=
  s.when (s.flag Reg.LPX_STAT_DET_ON n && (s.lpxWindow n || s.flag Reg.LPX_STAT_DET_DEGRADED n) && decide (s.getR Reg.LPX_STAT_CSTATE n = 2)) (s.modLp n (fun c => { c with refreshes := refreshes }))

/-- LPX_MR4_UPDATE (R515). -/
def execLpxMr4Update (n : Fin 16) (rr : BitVec 5) (aboveTwice : Bool) (s : State) : Result :=
  let t := (s.setR Reg.LPX_ERR2_MR4_RR n rr.toNat).setR Reg.LPX_STAT_DET_DEGRADED n (bit aboveTwice)
  .next (if aboveTwice && !s.flag Reg.LPX_STAT_DET_DEGRADED n then t.raise (lpxEp n) 0x0D08 3 (lpxDetail 0 0 rr.toNat) else t)

/-- LPX_IDLE_POWER_DOWN (R513, R516). -/
def execLpxIdlePowerDown (n : Fin 16) (rank : Fin 2) (s : State) : Result :=
  s.when (decide (s.getR Reg.LPX_STAT_CSTATE n = 2) && !s.flag Reg.LPX_STAT_DET_ON n && decide (s.getR Reg.LPX_CFG_PD_IDLE n ≠ 0)
      && decide (rank.val ≤ s.getR Reg.LPX_DEV_RANKS n) && !(s.lp n).powerDown.contains rank.val)
    (s.modLp n (fun c => { c with powerDown := c.powerDown ++ [rank.val] }))

end Sys2Proof.Machine
end

