-- ==== Sys2Proof/Machine/Lanes.lean ====
section
/-!
DEFINITION. Stream messages of the DCL engines (R329 to R335).
-/

namespace Sys2Proof.Machine

/-- The endpoint of DCL engine n (R185). -/
def dclEp (n : Nat) : Nat := quadEp (n + 4)

/-- The messages queued for transmission on a stream. -/
def State.txq (s : State) (n : Nat) : List StreamMsg := Map.get [] s.lanes.txq n

/-- Put the messages queued on a stream. -/
def State.putTxq (s : State) (n : Nat) (l : List StreamMsg) : State :=
  s.modLanes (fun x => { x with txq := Map.set [] x.txq n l })

/-- The stream message of a packet (R331). -/
def messageOf (p : Packet) : StreamMsg :=
  let len := if 1 ≤ p.size ∧ p.size ≤ 64 * p.len - 4 then p.size else 64 * p.len - 4
  ⟨len, payload p % 256 ^ len, anyPoison p, p.xdev, p.user % 2 ^ 144, []⟩

/-- The header of a message without its CRC, byte 0 lowest (R329). -/
def headerBody (m : StreamMsg) : Nat :=
  0xD5 + (bit m.poison + 2 * bit m.xdev) * 2 ^ 8 + m.length % 2 ^ 16 * 2 ^ 16 + m.user % 2 ^ 144 * 2 ^ 32

/-- The CRC-16 over bytes 0 to 21 of a header (R60, R329). -/
def headerCrc (h : Nat) : Nat := crc16 ((List.range 22).map (byteAt h))

/-- The data blocks of a message: three of header, then the payload, the last padded with 0 (R329). -/
def messageBlocks (m : StreamMsg) : List DclBlock :=
  let h := headerBody m
  let all := h + headerCrc h * 2 ^ 176 + m.payload % 256 ^ m.length * 2 ^ 192
  (List.range (3 + ceilDiv m.length 8)).map (fun i => .data ((List.range 8).map (fun k => byteAt all (8 * i + k))))

/-- DCL_TX_PACKET (R320, R331, R334, R335): the engine takes the oldest packet that waits for it. -/
def execDclTxPacket (engine : Fin 36) (s : State) : Result :=
  let e := dclEp engine
  match s.inbox e with
  | [] => .next s
  | p :: rest =>
    let t := s.putInbox e rest
    let id := p.flow
    if p.kind ≠ 0 ∨ s.cstate id = 0 ∨ s.getR Reg.THY_CT_EP_DST id ≠ e ∨ s.flag Reg.THY_CT_STREAM_EN id = false then
      .next (t.kindReject e p)
    else
      let n := s.getR Reg.THY_CT_STREAM_INDEX id
      let lane := s.getR Reg.DCL_STR_CFG_LANE n
      match s.streamLink n with
      | none => .next (t.streamDrop n false 1)
      | some l =>
        if s.lstate l ≠ 6 then .next (t.streamDrop n false 1)
        else if s.getR Reg.DCL_STR_CFG_TYPE n = 4 ∧ !(p.xdev && decide (p.destDev = s.getR Reg.DCL_PEER_DEVID l)) then
          .next ((t.satAdd Reg.DCL_STR_DROP_TX n 1).raise e 0x040D 2 (laneDetail lane n 0 0 0 p.destDev))
        else if 4 ≤ (s.txq n).length then .next (t.streamDrop n false 1)
        else .next (t.putTxq n (s.txq n ++ [messageOf p]))

/-- DCL_MESSAGE_TRANSMIT (R327, R329, R332): the oldest queued message of a stream has left in the stream's slots, as blocks of the link's code. -/
def execDclMessageTransmit (stream : BitVec 12) (s : State) : Result :=
  let n := stream.toNat
  let up := match s.streamLink n with | some l => decide (s.lstate l = 6) | none => false
  match s.txq n with
  | [] => .next s
  | m :: rest =>
    s.when (up && decide (s.getR Reg.DCL_STR_CFG_DIR n = 0) && decide (0 < s.nslots n))
      ((s.putTxq n rest).modLanes (fun x => { x with
        sent := Map.set [] x.sent n ((messageBlocks m).map (lineForm (s.getR Reg.DCL_STAT_RATE_NOW ((s.streamLink n).getD 0)))) }))

/-- The packet a received message becomes (R333, R335). -/
def State.messagePacket (s : State) (n l id : Nat) (m : StreamMsg) : Packet :=
  let peer := decide (s.getR Reg.DCL_STR_CFG_TYPE n = 4)
  { dest := s.getR Reg.THY_CT_EP_DST id, src := s.getR Reg.THY_CT_EP_SRC id, cls := true, flow := id,
    len := flitsFor m.length, kind := 0, size := m.length, user := m.user, xdev := peer,
    destDev := if peer then s.getR Reg.DEV_SYSID_ID 0 else 0, srcDev := if peer then s.getR Reg.DCL_PEER_DEVID l else 0,
    data := (List.range (flitsFor m.length)).map (fun i =>
      ⟨m.payload % 256 ^ m.length / 2 ^ (512 * i) % 2 ^ 512, m.poison || m.badBytes.any (fun b => decide (b / 64 = i))⟩) }

/-- What a stream brings to its receiver: a header whose check fails, or a complete message. -/
inductive Arrived where
  | lost
  | message (m : StreamMsg)
deriving DecidableEq, Repr

/-- Nothing on its way, the receiver in step. -/
def streamRx0 : StreamRx := ⟨[], false⟩

/-- The number that the first blocks of a list are, the first lowest. -/
def blocksValue (l : List (Nat × Bool)) : Nat := l.foldr (fun b v => b.1 % 2 ^ 64 + 2 ^ 64 * v) 0

/-- The three blocks of a header are good: no byte poisoned, 0xD5, the CRC, a length from 1 to 1,980 (R329). -/
def headerGood (l : List (Nat × Bool)) : Bool :=
  let h := blocksValue (l.take 3)
  (l.take 3).all (fun b => !b.2) && decide (byteAt h 0 = 0xD5) && decide (headerCrc h = h / 2 ^ 176 % 2 ^ 16)
    && decide (0 < h / 2 ^ 16 % 2 ^ 16) && decide (h / 2 ^ 16 % 2 ^ 16 ≤ 1980)

/-- The LENGTH of a header. -/
def headerLength (l : List (Nat × Bool)) : Nat := blocksValue (l.take 3) / 2 ^ 16 % 2 ^ 16

/-- The message that a header and its payload blocks are (R329, R333). -/
def messageFrom (l : List (Nat × Bool)) : StreamMsg :=
  let h := blocksValue (l.take 3)
  let n := headerLength l
  ⟨n, blocksValue (l.drop 3) % 256 ^ n, nbit (h / 2 ^ 8) 0, nbit (h / 2 ^ 8) 1, h / 2 ^ 32 % 2 ^ 144,
    (List.range n).filter (fun i => ((l.drop 3).getD (i / 8) (0, false)).2)⟩

/-- A block that can begin a message for a receiver that searches (R330). -/
def beginsD5 (b : Nat × Bool) : Bool := !b.2 && decide (b.1 % 256 = 0xD5)

/-- A data block of a stream's slot reaches the receiver (R329, R330). -/
def rxBlock (r : StreamRx) (b : Nat × Bool) : StreamRx × Option Arrived :=
  let l := r.part ++ [b]
  if r.part = [] then
    if r.search then (⟨if beginsD5 b then [b] else [], true⟩, none)
    else (⟨if b = (0, false) then [] else [b], false⟩, none)
  else if l.length < 3 then (⟨l, r.search⟩, none)
  else if l.length = 3 && !headerGood l then
    (⟨(l.drop 1).dropWhile (fun x => !beginsD5 x), true⟩, if r.search then none else some .lost)
  else if l.length < 3 + ceilDiv (headerLength l) 8 then (⟨l, false⟩, none)
  else (streamRx0, some (.message (messageFrom l)))

/-- Blocks one after the other, and what has arrived with them. -/
def rxBlocks (r : StreamRx) : List (Nat × Bool) → StreamRx × List Arrived
  | [] => (r, [])
  | b :: l =>
    let x := rxBlock r b
    let y := rxBlocks x.1 l
    (y.1, x.2.toList ++ y.2)

/-- Complete messages awaiting injection. -/
def State.rxq (s : State) (n : Nat) : List StreamMsg := Map.get [] s.lanes.rxq n

/-- The engine's way into the network takes a packet: the local input of its router holds as much of it as a VC's buffer does (R183). -/
def State.engineRoom (s : State) (e vc n : Nat) : Bool :=
  fitsQueue (((s.noc.net.filter (fun x => decide (x.place = .router (epRtr e) 4) && decide (x.pkt.src = e) && decide (x.pkt.vc = vc))).map
    (fun x => flits x.pkt)).sum) (if vc = 2 then 32 else 8) n

/-- A received message is injected, or discarded where no contract of the engine names its stream or it is no peer flow's (R333, R335). -/
def State.injectMessage (s : State) (n l : Nat) (m : StreamMsg) : State :=
  match s.streamContract n with
  | none => s.streamDrop n true 1
  | some id =>
    if s.getR Reg.THY_CT_EP_SRC id ≠ quadEp ((l + 16) / 4) then s.streamDrop n true 1
    else if s.getR Reg.DCL_STR_CFG_TYPE n = 4 ∧ !m.xdev then
      (s.satAdd Reg.DCL_STR_DROP_RX n 1).raise (laneSrc (l + 16)) 0x040D 2 (laneDetail (l + 16) n)
    else s.ingressWith (s.messagePacket n l id m)

/-- The messages that await injection enter the network while it takes them, in order. -/
def State.injectQueue (n l : Nat) : Nat → State → State
  | 0, s => s
  | k + 1, s =>
    match s.rxq n with
    | [] => s
    | m :: rest =>
      let f := flitsFor m.length + 1
      let vc := match s.streamContract n with | some id => if decide (s.cstate id = 1) && s.creditCovers id f then 0 else 2 | none => 2
      if s.engineRoom (quadEp ((l + 16) / 4)) vc f then
        State.injectQueue n l k ((s.modLanes (fun x => { x with rxq := Map.set [] x.rxq n rest })).injectMessage n l m)
      else s

/-- What has arrived on a stream (R328, R330, R334). -/
def State.streamArrived (s : State) (n : Nat) (l : Nat) (a : Arrived) : State :=
  if !s.flag Reg.DCL_STAT_MAP_OK l then s.satAdd Reg.DCL_STR_DROP_RX n 1
  else match a with
    | .lost => s.streamDrop n true 1
    | .message m =>
      let t := State.injectQueue n l 4 s
      if 4 ≤ (t.rxq n).length then t.streamDrop n true 1
      else State.injectQueue n l 4 (t.modLanes (fun x => { x with rxq := Map.set [] x.rxq n (t.rxq n ++ [m]) }))

/-- The data of a block in a stream's slot, and whether it is poisoned (R312); what an errored block brings is open. -/
def State.slotData (s : State) (l : Nat) (bad : Bool) (i : Nat) (b : LineBlock) : Nat × Bool :=
  match decodeData (s.getR Reg.DCL_STAT_RATE_NOW l) b with
  | some v => (v, bad)
  | none => ((Config.freeWord (s.free + i)).toNat, true)

/-- DCL_STREAM_MESSAGE_RECEIVE (R312, R327 to R330, R333 to R335): blocks of a stream's slots as the line brings them, in order; `uncorrectable` says that they stand in a
code word that could not be corrected, `corrected` counts the symbols that were. -/
def execDclStreamMessageReceive (stream : BitVec 12) (blocks : List LineBlock) (uncorrectable : Bool) (corrected : BitVec 16) (s : State) : Result :=
  let n := stream.toNat
  match s.streamLink n with
  | none => .next s
  | some l =>
    if s.lstate l ≠ 6 ∨ s.getR Reg.DCL_STR_CFG_DIR n = 0 ∨ s.nslots n = 0 then .next s
    else
      let d := blocks.zipIdx.map (fun b => s.slotData l uncorrectable b.2 b.1)
      let t := (List.range blocks.length).foldl (fun u _ => u.draw) s
      let t := if 11 ≤ s.getR Reg.DCL_STAT_RATE_NOW l then t.satAdd Reg.DCL_ERR_CORR l corrected.toNat else t
      let r := rxBlocks (Map.get streamRx0 s.lanes.rx n) d
      let t := t.modLanes (fun x => { x with rx := Map.set streamRx0 x.rx n r.1 })
      let t := r.2.foldl (fun u a => u.streamArrived n l a) (State.injectQueue n l 4 t)
      .next (t.blocksSeen l (d.map (fun b => (0, b.2))))

end Sys2Proof.Machine
end

