-- ==== Sys2Proof/Machine/MspUnit.lean ====
section
/-!
DEFINITION. What every instruction of a measurement signal processor shares: registers, addressing, memory, fetching, exceptions, the
advance to the next instruction (R426 to R449).
-/

namespace Sys2Proof.Machine

/-- The endpoint of an MSP group (R185, R426). -/
def mspEp (g : Nat) : Nat := ep (g / 4) (24 * (g % 4)) 11

/-- DETAIL of the MSPs' events (R464). -/
def mspDetail (m : Nat := 0) (ecause pc hcode inbox flow mask : Nat := 0) : Nat :=
  m % 128 + ecause % 8 * 2 ^ 8 + pc % 2 ^ 14 * 2 ^ 16 + hcode % 2 ^ 16 * 2 ^ 32 + inbox % 16 * 2 ^ 48 + flow % 2 ^ 12 * 2 ^ 52
    + mask % 2 ^ 8 * 2 ^ 64

/-! ### Registers (R430) -/

/-- A D register. -/
def State.mspD (s : State) (m n : Nat) : Nat := s.getR Reg.MSP_D_V (m * 16 + n)

/-- A D register is poisoned. -/
def State.dPois (s : State) (m n : Nat) : Bool := nbit (s.getR Reg.MSP_POIS_D m) n

/-- Write a D register with its poison bit. -/
def State.setD (s : State) (m n v : Nat) (p : Bool := false) : State :=
  (s.setR Reg.MSP_D_V (m * 16 + n) v).setR Reg.MSP_POIS_D m
    (if p then setBit (s.getR Reg.MSP_POIS_D m) n else clrBit (s.getR Reg.MSP_POIS_D m) n)

/-- A P register. -/
def State.mspP (s : State) (m n : Nat) : Nat := s.getR Reg.MSP_P_ADDR (m * 8 + n)

/-- A P register is poisoned. -/
def State.pPois (s : State) (m n : Nat) : Bool := nbit (s.getR Reg.MSP_POIS_P m) n

/-- An accumulator as a number (R430). -/
def State.mspA (s : State) (m a : Nat) : Int := signed 80 (s.getR Reg.MSP_A_V (m * 4 + a))

/-- A bit of SR: 0 Z, 1 N, 2 V, 3 C, 4 LIMIT, 5 AOVF, 6 FRAC. -/
def State.srBit (s : State) (m n : Nat) : Bool := nbit (s.getR Reg.MSP_SR_V m) n

/-- Put a bit of SR. -/
def State.setSr (s : State) (m n : Nat) (v : Bool) : State :=
  s.setR Reg.MSP_SR_V m (if v then setBit (s.getR Reg.MSP_SR_V m) n else clrBit (s.getR Reg.MSP_SR_V m) n)

/-- Write an accumulator with an exact result: it wraps and AOVF sets where the result lies outside 80 bits (R435). -/
def State.setA (s : State) (m a : Nat) (v : Int) : State :=
  let t := s.setR Reg.MSP_A_V (m * 4 + a) (unsigned 80 v)
  if signed 80 (unsigned 80 v) = v then t else t.setSr m 5 true

/-- The product of two D registers (R435). -/
def State.mspProd (s : State) (m a b : Nat) : Int :=
  let p := signed 32 (s.mspD m a) * signed 32 (s.mspD m b)
  if s.srBit m 6 then 2 * p else p

/-- Z and N of a result, V and C as given (R437). -/
def State.setFlags (s : State) (m v : Nat) (ov carry : Bool) : State :=
  (((s.setSr m 0 (decide (v % 2 ^ 32 = 0))).setSr m 1 (nbit v 31)).setSr m 2 ov).setSr m 3 carry

/-! ### Addressing (R432) -/

/-- Reverse the low k bits. -/
def revBits (k v : Nat) : Nat := bitsOf k (fun i => nbit v (k - 1 - i))

/-- The least k with 2^k at or above a number. -/
def ceilLog (n : Nat) : Nat := if n ≤ 1 then 0 else Nat.log2 (n - 1) + 1

/-- A P register after an access, with its modifier. -/
def postMod (p md : Nat) : Nat :=
  let inc := signed 16 (md % 2 ^ 16)
  let len := md / 2 ^ 16 % 2 ^ 14
  let mode := md / 2 ^ 30 % 4
  if mode = 1 ∧ len ≠ 0 then
    let base := p / 2 ^ ceilLog len * 2 ^ ceilLog len
    (base + (((p - base : Nat) : Int) + inc).emod len |>.toNat) % 16384
  else if mode = 2 ∧ 2 ≤ len then
    let k := Nat.log2 len
    p / 2 ^ k * 2 ^ k + revBits k ((revBits k p + revBits k (md % 2 ^ k)) % 2 ^ k)
  else ((p + inc) % 16384).toNat

/-- Post-modify a P register: its poison bit stays. -/
def State.bumpP (s : State) (m n : Nat) : State :=
  s.setR Reg.MSP_P_ADDR (m * 8 + n) (postMod (s.mspP m n) (s.getR Reg.MSP_M_V (m * 8 + n)))

/-! ### Memory (R427, R447) -/

/-- The address of an MSP's memory: 0 program, 1 X, 2 Y (R19). -/
def mspMem (m k : Nat) : Nat := 0x4200000000 + m * 0x40000 + k * 0x10000

/-- Load a 32-bit word of X or Y. -/
def State.mspLoad (s : State) (m w : Nat) (y : Bool) : (Nat × Bool) × State :=
  let r := s.readWord (mspMem m (if y then 2 else 1) + w % 16384 / 2 * 8) (mspEp (m / 8))
  ((r.1.data.toNat / 2 ^ (32 * (w % 2)) % 2 ^ 32, r.1.poison), r.2)

/-- Load the 64-bit word that holds a 32-bit word. -/
def State.mspLoad64 (s : State) (m w : Nat) (y : Bool) : (Nat × Bool) × State :=
  let r := s.readWord (mspMem m (if y then 2 else 1) + w % 16384 / 2 * 8) (mspEp (m / 8))
  ((r.1.data.toNat, r.1.poison), r.2)

/-- Store a 32-bit word of X or Y. -/
def State.mspStore (s : State) (m w : Nat) (y : Bool) (v : Nat) (p : Bool) : State :=
  s.writeWord (mspMem m (if y then 2 else 1) + w % 16384 / 2 * 8) (mspEp (m / 8)) (BitVec.ofNat 64 (v % 2 ^ 32 * 2 ^ (32 * (w % 2))))
    (if w % 2 = 0 then 0x0F else 0xF0) p

/-- Store the 64-bit word that holds a 32-bit word. -/
def State.mspStore64 (s : State) (m w : Nat) (y : Bool) (v : Nat) (p : Bool) : State :=
  s.writeWord (mspMem m (if y then 2 else 1) + w % 16384 / 2 * 8) (mspEp (m / 8)) (BitVec.ofNat 64 v) 0xFF p

/-! ### Fetching (R427, R434) -/

/-- A 64-bit word of program memory is fetched for an instruction. -/
def State.mspFetchWord (s : State) (m i : Nat) : (Nat × Bool) × State :=
  let r := s.readWord (mspMem m 0 + i / 2 * 8) (mspEp (m / 8))
  let w := r.1.data.toNat
  ((w / 2 ^ (32 * (i % 2)) % 2 ^ 32, r.1.poison),
    r.2.modMspx m (fun k => { k with ahead := if i % 2 = 0 then some (i + 1, w / 2 ^ 32, r.1.poison) else none }))

/-- An instruction word and its poison: the one fetched ahead, or one of a 64-bit word of program memory, whose second instruction is then held. -/
def State.mspFetch (s : State) (m i : Nat) : (Nat × Bool) × State :=
  let i := i % 16384
  match (s.mspx m).ahead with
  | some (j, w) => if j = i then (w, s) else s.mspFetchWord m i
  | none => s.mspFetchWord m i

/-- What the repeat cache holds of an instruction. -/
def Msp.cached (k : Msp) (i : Nat) : Option (Nat × Bool) := if k.cacheLo ≤ i then k.cache[i - k.cacheLo]? else none

/-- The instruction to execute next with its poison: the one under REPEAT, a cached one, or one fetched; none where the MSP does not execute. -/
def State.mspWord (s : State) (m : Nat) : Option ((Nat × Bool) × State) :=
  if s.mspRuns m then
    let k := s.mspx m
    match k.rep with
    | some w => some (w, s)
    | none =>
      match k.cached (s.getR Reg.MSP_PC_PC m) with
      | some w => some (w, s)
      | none => some (s.mspFetch m (s.getR Reg.MSP_PC_PC m))
  else none

/-- OP of an instruction (R438): 64 for the parallel format. -/
def mspOp (w : Nat) : Nat := if w / 2 ^ 30 = 3 then 64 else w / 2 ^ 26

/-! ### Ending and advancing (R444, R445, R449) -/

/-- The MSP leaves its run: no WAIT, no REPEAT, no stall. From here, or from where it rested, its cycles count by the clock (R462). -/
def State.mspLeave (s : State) (m st : Nat) : State :=
  let runs := decide (s.getR Reg.MSP_STAT_STATE m = 5)
  ((s.mspSt m st).setR Reg.MSP_STAT_WAITING m 0).modMspx m (fun k =>
    { k with rep := none, wait := none, fresh := none, stopReq := false, resumeReq := false, stall := none,
             idle := if runs then some (k.restsSince.getD s.clockNow) else k.idle })

/-- SRST of an MSP: it returns to IDLE with an empty repeat cache (R434, R458). -/
def State.mspSrst (s : State) (m : Nat) : State :=
  (s.mspLeave m 0).modMspx m (fun k => { k with cache := [], ahead := none })

/-- A STOPPED member runs again at its PC (R458); the cycles since it stopped have counted (R462). -/
def State.mspResume (s : State) (m : Nat) : State :=
  ((s.setR Reg.MSP_CYCLES_COUNT m (s.mspCount m)).modMspx m (fun k => { k with idle := none })).mspSt m 5

/-- An exception: precise, FAILED with ECAUSE (R449). -/
def State.mspExc (s : State) (m c : Nat) : State :=
  let t := (s.mspLeave m 4).setR Reg.MSP_STAT_ECAUSE m c
  t.raise (mspEp (m / 8)) (if c ≤ 4 then 0x0803 else 0x0804) (if c ≤ 4 then 2 else 4) (mspDetail m c (s.getR Reg.MSP_PC_PC m))

/-- STOP takes effect on an MSP (R458). -/
def State.mspStopped (s : State) (m : Nat) : State :=
  (s.mspLeave m 6).raise (mspEp (m / 8)) 0x0807 0 (mspDetail m 0 (s.getR Reg.MSP_PC_PC m))

/-- A STOP and a RESUME that came inside a REPEAT take effect after its last iteration (R445). -/
def State.mspAfterRepeat (s : State) (m : Nat) : State :=
  let k := s.mspx m
  if k.stopReq then
    let t := s.mspStopped m
    if k.resumeReq then t.mspResume m else t
  else s

/-- Execution goes on at an instruction: outside the cached range the repeat cache empties (R434). -/
def State.mspGo (s : State) (m pc : Nat) : State :=
  (s.setR Reg.MSP_PC_PC m pc).modMspx m (fun k => { k with
    cache := if (k.cached (pc % 16384)).isSome then k.cache else []
    ahead := k.ahead.filter (fun e => decide (e.1 = pc % 16384)) })

/-- The stall of R442: an access of this instruction uses a P that the last one wrote, or post-modifies by an M that it wrote. -/
def State.mspStall (s : State) (m : Nat) (ptrs mods : List Nat) : Nat :=
  match (s.mspx m).fresh with
  | some f => bit (if f < 8 then ptrs.contains f else mods.contains (f - 8))
  | none => 0

/-- An instruction has executed: cycles count; under REPEAT one iteration is done, else the next instruction follows. -/
def State.mspDone (s : State) (m cycles : Nat) (fresh : Option Nat := none) : State :=
  let t := (s.mspCycles m cycles).modMspx m (fun k => { k with fresh := fresh })
  let pc := s.getR Reg.MSP_PC_PC m
  match (s.mspx m).rep with
  | none => t.mspGo m (pc + 1)
  | some _ =>
    let rc := s.getR Reg.MSP_RC_V m
    let u := t.setR Reg.MSP_RC_V m (rc - 1)
    if rc ≤ 1 then ((u.modMspx m (fun k => { k with rep := none })).mspGo m (pc + 1)).mspAfterRepeat m else u

/-- Run an instruction whose word satisfies a test (R438, R447); `f` is given the word and the state after the fetch. -/
def State.mspIns (s : State) (m : Nat) (ok : Nat → Bool) (f : Nat → State → State) : Result :=
  match s.mspWord m with
  | none => .next s
  | some ((w, p), t) => if !ok w then .next s else if p then .next (t.mspExc m 7) else .next (f w t)

/-- Run a one-cycle instruction that a poisoned D operand stops: `srcs` are the operands' registers, `ptrs` the pointers its accesses use,
`mods` those it post-modifies. -/
def State.mspSimple (s : State) (m op : Nat) (srcs ptrs : Nat → List Nat) (f : Nat → State → State) (mods : Nat → List Nat := ptrs) : Result :=
  s.mspIns m (fun w => decide (mspOp w = op)) (fun w t =>
    if (srcs w).any (t.dPois m) then t.mspExc m 5
    else if (ptrs w).any (t.pPois m) then t.mspExc m 6
    else (f w t).mspDone m (1 + t.mspStall m (ptrs w) (mods w)))

/-! ### Branches (R434, R441) -/

/-- COND holds (R441). -/
def State.mspCond (s : State) (m c : Nat) : Bool :=
  let z := s.srBit m 0
  let n := s.srBit m 1
  let v := s.srBit m 2
  if c = 0 then true
  else if c = 1 then z
  else if c = 2 then !z
  else if c = 3 then n != v
  else if c = 4 then n == v
  else if c = 5 then !z && n == v
  else if c = 6 then z || n != v
  else if c = 7 then s.srBit m 3
  else if c = 8 then !s.srBit m 3
  else if c = 9 then v
  else if c = 10 then s.srBit m 4
  else if c = 11 then s.srBit m 5
  else if c = 12 then
    (List.range 4).any (fun i => s.flag Reg.MSP_CH_STAT_BREACHED (m * 4 + i))
      || (List.range 16).any (fun j =>
        let i := m / 8 * 128 + j
        s.flag Reg.MSP_IBX_STAT_BREACHED i && decide (s.getR Reg.MSP_IBX_CFG_MSP i = m % 8))
  else false

/-- The words that enter the repeat cache when a branch at pc to a target is taken (R434): those held there already, else as program memory
holds them. -/
def State.mspCacheFill (s : State) (m lo pc : Nat) : List (Nat × Bool) :=
  (List.range (pc + 1 - lo)).map (fun i => ((s.mspx m).cached (lo + i)).getD (s.mspFetch m (lo + i)).1)

/-- A branch is taken (R434, R440). -/
def State.mspTake (s : State) (m tgt : Nat) : State :=
  let pc := s.getR Reg.MSP_PC_PC m
  let k := s.mspx m
  let short := decide (tgt ≤ pc) && decide (pc ≤ tgt + 7)
  let hit := short && !k.cache.isEmpty && decide (k.cacheLo = tgt) && (k.cached pc).isSome
  let words := s.mspCacheFill m tgt pc
  let t := s.mspCycles m (if hit then 1 else 2)
  if short then (t.setR Reg.MSP_PC_PC m tgt).modMspx m (fun k => { k with fresh := none, cacheLo := tgt, cache := words, ahead := none })
  else (t.mspGo m tgt).modMspx m (fun k => { k with fresh := none, ahead := none })

/-- A jump that empties the repeat cache: CALL and RET (R434). -/
def State.mspJump (s : State) (m tgt : Nat) : State :=
  ((s.mspCycles m 2).setR Reg.MSP_PC_PC m tgt).modMspx m (fun k => { k with fresh := none, cache := [], ahead := none })

end Sys2Proof.Machine
end

