-- ==== Sys2Proof/Machine/Msp.lean ====
section
/-!
DEFINITION. Measurement signal processors: their instructions, groups, inboxes and channels (R435 to R464). An instruction's command acts where
the MSP stands at a word with its OP.
-/

namespace Sys2Proof.Machine

/-! ### The parallel format (R439) -/

/-- The accumulator of a multiply operation: 1 MAC, 2 MSU, 3 MPY. -/
def State.mspMul (s : State) (m mop a da db : Nat) : State :=
  let p := s.mspProd m da db
  if mop = 1 then s.setA m a (s.mspA m a + p)
  else if mop = 2 then s.setA m a (s.mspA m a - p)
  else if mop = 3 then s.setA m a p
  else s

/-- One access of the parallel format: `d0` and `p0` are the D register and its poison as read before the instruction. -/
def State.parAccess (s : State) (m d w d0 : Nat) (p0 y store : Bool) : State :=
  if store then s.mspStore m w y d0 p0
  else
    let r := s.mspLoad m w y
    r.2.setD m d r.1.1 r.1.2

/-- The pointers an instruction of the parallel format uses. -/
def parPtrs (w : Nat) : List Nat := (if nbit w 17 then [fld w 9 3] else []) ++ (if nbit w 8 then [fld w 0 3] else [])

/-- MSP_PARALLEL (R439, R443, R447). -/
def execMspParallel (m : Fin 128) (s : State) : Result :=
  s.mspSimple m 64 (fun w => if fld w 28 2 = 0 then [] else [fld w 22 4, fld w 18 4]) parPtrs (fun w t =>
    let px := t.mspP m (fld w 9 3)
    let py := t.mspP m (fld w 0 3)
    let u := t.mspMul m (fld w 28 2) (fld w 26 2) (fld w 22 4) (fld w 18 4)
    let u := if nbit w 17 then
        u.parAccess m (fld w 12 4) px (t.mspD m (fld w 12 4)) (t.dPois m (fld w 12 4)) false (nbit w 16) else u
    let u := if nbit w 8 then
        u.parAccess m (fld w 3 4) py (t.mspD m (fld w 3 4)) (t.dPois m (fld w 3 4)) true (nbit w 7) else u
    (parPtrs w).eraseDups.foldl (fun x p => x.bumpP m p) u)

/-! ### Control (R440, R444, R457, R459, R460) -/

/-- MSP_NOP (R440). -/
def execMspNop (m : Fin 128) (s : State) : Result := s.mspSimple m 0x00 (fun _ => []) (fun _ => []) (fun _ t => t)

/-- MSP_HALT (R457). -/
def execMspHalt (m : Fin 128) (s : State) : Result :=
  s.mspIns m (fun w => decide (mspOp w = 0x01)) (fun w t =>
    let code := fld w 0 16
    let pc := s.getR Reg.MSP_PC_PC m
    (((((t.mspCycles m 1).mspLeave m 2).setR Reg.MSP_HCODE_CODE m code).setR Reg.MSP_PC_PC m (pc + 1)).raise (mspEp (m / 8)) 0x0802 0
      (mspDetail m 0 pc code)))

/-- MSP_BR (R441). -/
def execMspBr (m : Fin 128) (s : State) : Result :=
  s.mspIns m (fun w => decide (mspOp w = 0x02)) (fun w t =>
    if t.mspCond m (fld w 22 4) then t.mspTake m (fld w 0 14) else t.mspDone m 1)

/-- MSP_CALL (R440, R448). -/
def execMspCall (m : Fin 128) (s : State) : Result :=
  s.mspIns m (fun w => decide (mspOp w = 0x03)) (fun w t =>
    let l := (t.mspx m).stack
    if 4 ≤ l.length then t.mspExc m 3
    else
      let u := t.modMspx m (fun k => { k with stack := (t.getR Reg.MSP_PC_PC m + 1) % 16384 :: l })
      (u.setR Reg.MSP_STAT_DEPTH m (l.length + 1)).mspJump m (fld w 0 14))

/-- MSP_RET (R440, R448). -/
def execMspRet (m : Fin 128) (s : State) : Result :=
  s.mspIns m (fun w => decide (mspOp w = 0x04)) (fun _ t =>
    match (t.mspx m).stack with
    | [] => t.mspExc m 3
    | a :: l => ((t.modMspx m (fun k => { k with stack := l })).setR Reg.MSP_STAT_DEPTH m l.length).mspJump m a)

/-- MSP_BDNZ (R440). -/
def execMspBdnz (m : Fin 128) (s : State) : Result :=
  s.mspIns m (fun w => decide (mspOp w = 0x05)) (fun w t =>
    let d := fld w 22 4
    let v := t.mspD m d
    if t.dPois m d then t.mspExc m 5
    else if v = 0 then t.mspDone m 1
    else
      let u := t.setD m d (v - 1)
      if v = 1 then u.mspDone m 1 else u.mspTake m (fld w 0 14))

/-- An OP that REPEAT may not repeat (R440, R444). -/
def notRepeatable (op : Nat) : Bool := (decide (1 ≤ op) && decide (op ≤ 0x0A)) || decide (op = 0x0C) || decide (op = 0x0D)

/-- MSP_REPEAT (R444). -/
def execMspRepeat (m : Fin 128) (s : State) : Result :=
  s.mspIns m (fun w => decide (mspOp w = 0x06)) (fun w t =>
    let d := fld w 22 4
    let pc := t.getR Reg.MSP_PC_PC m
    let n := if nbit w 16 then t.mspD m d % 2 ^ 16 else fld w 0 16
    let next := match (t.mspx m).cached (pc + 1) with
      | some x => (x, t)
      | none => t.mspFetch m (pc + 1)
    if nbit w 16 && t.dPois m d then t.mspExc m 5
    else if !next.1.2 && notRepeatable (mspOp next.1.1) then next.2.mspExc m 2
    else ((next.2.setR Reg.MSP_RC_V m (n + 1)).mspDone m 1).modMspx m (fun k => { k with rep := some next.1 }))

/-- Tabirair time as the MSP sees it: `lag` ticks behind the counter, at most 2,560 (R459). -/
def State.mspTime (s : State) (lag : Nat) : Nat := (s.time - BitVec.ofNat 64 lag).toNat

/-- Every member of the barrier has arrived or does not run (R460). -/
def State.barrierMet (s : State) (g : Nat) : Bool :=
  (List.range 8).all (fun i =>
    !nbit (s.getR Reg.MSP_GRP_BAR_MASK (8 * g)) i || decide (s.getR Reg.MSP_STAT_STATE (8 * g + i) ≠ 5)
      || (match (s.mspx (8 * g + i)).wait with
        | some w => decide (w.kind = 2)
        | none => false))

/-- The condition of a WAIT (R73, R459, R460). -/
def State.mspWaitHolds (s : State) (m lag : Nat) (w : MspWait) : Bool :=
  if w.kind = 0 then
    let i := m / 8 * 128 + w.arg
    decide (s.getR Reg.MSP_IBX_PTR_WP i ≠ s.getR Reg.MSP_IBX_PTR_RP i)
  else if w.kind = 1 then !s.flag Reg.T_UNLOCK 0 && decide ((BitVec.ofNat 64 (s.mspTime lag) - BitVec.ofNat 64 w.target).toNat < 2 ^ 63)
  else if w.kind = 2 then s.barrierMet (m / 8)
  else !s.flag Reg.MSP_CH_STAT_PEND (m * 4 + w.arg % 4)

/-- A WAIT ends: the cycles waited count, at 2,560 ticks for three (R426). -/
def State.mspWaitOver (s : State) (m : Nat) (w : MspWait) : State :=
  ((s.modMspx m (fun k => { k with wait := none })).setR Reg.MSP_STAT_WAITING m 0).mspDone m (1 + s.cyclesSince w.since)

/-- Every member that has arrived continues (R460). -/
def State.barrierRelease (s : State) (g : Nat) : State :=
  (List.range 8).foldl (fun t i =>
    match (t.mspx (8 * g + i)).wait with
    | some w => if w.kind = 2 then t.mspWaitOver (8 * g + i) w else t
    | none => t) s

/-- A WAIT of a kind executes: it costs one cycle where its condition holds (R459). -/
def State.mspWaitIns (s : State) (m kind lag : Nat) : Result :=
  s.mspIns m (fun w => decide (mspOp w = 0x07) && decide (fld w 24 2 = kind)) (fun w t =>
    let arg := fld w 20 4
    let lo := arg / 2 * 2
    let x : MspWait := ⟨kind, arg, t.mspD m lo + t.mspD m (lo + 1) * 2 ^ 32, t.clockNow⟩
    let started := (t.modMspx m (fun k => { k with wait := some x })).setR Reg.MSP_STAT_WAITING m 1
    if decide (kind = 1) && (t.dPois m lo || t.dPois m (lo + 1)) then t.mspExc m 5
    else if kind = 2 then
      if !nbit (t.getR Reg.MSP_GRP_BAR_MASK (m / 8 * 8)) (m % 8) then t.mspDone m 1
      else if started.barrierMet (m / 8) then started.barrierRelease (m / 8)
      else started
    else if t.mspWaitHolds m lag x then t.mspDone m 1
    else started)

/-- MSP_WAIT_INBOX (R459). -/
def execMspWaitInbox (m : Fin 128) (s : State) : Result := s.mspWaitIns m 0 0

/-- MSP_WAIT_TIME (R459): `lag` is what the synchroniser adds. -/
def execMspWaitTime (m : Fin 128) (lag : Fin 2561) (s : State) : Result := s.mspWaitIns m 1 lag

/-- MSP_WAIT_BARRIER (R460). -/
def execMspWaitBarrier (m : Fin 128) (s : State) : Result := s.mspWaitIns m 2 0

/-- MSP_WAIT_CHANNEL (R459). -/
def execMspWaitChannel (m : Fin 128) (s : State) : Result := s.mspWaitIns m 3 0

/-- MSP_WAIT_END (R459, R460). -/
def execMspWaitEnd (m : Fin 128) (lag : Fin 2561) (s : State) : Result :=
  match (s.mspx m).wait with
  | some w =>
    s.when (decide (s.getR Reg.MSP_STAT_STATE m = 5) && s.mspWaitHolds m lag w)
      (if w.kind = 2 then s.barrierRelease (m / 8) else s.mspWaitOver m w)
  | none => .next s

/-- MSP_SEND (R453): it stalls while the channel's queue holds two packets. -/
def execMspSend (m : Fin 128) (s : State) : Result :=
  match s.mspWord m with
  | none => .next s
  | some ((w, bad), t) =>
    let c := fld w 16 2
    let i := m.val * 4 + c
    let q := Map.get [] (t.mspx m).queues c
    let size := t.mspD m (fld w 22 4)
    let g := m.val / 8 * 8
    if mspOp w ≠ 0x08 then .next s
    else if bad then .next (t.mspExc m 7)
    else if t.dPois m (fld w 22 4) then .next (t.mspExc m 5)
    else if size = 0 ∨ 1980 < size ∨ t.flag Reg.MSP_CH_CFG_EN i = false then .next (t.mspExc m 4)
    else if t.pPois m (fld w 19 3) then .next (t.mspExc m 6)
    else if 2 ≤ q.length then .next (s.modMspx m (fun k => { k with stall := some (k.stall.getD s.clockNow) }))
    else
      let x : MspSend := ⟨t.getR Reg.MSP_SENDS g, size, t.mspP m (fld w 19 3) / 2, nbit w 18⟩
      let waited := (((s.mspx m).stall.map s.cyclesSince).getD 0)
      .next ((((t.wrapAdd Reg.MSP_SENDS g 1).modMspx m (fun k => { k with queues := Map.set [] k.queues c (q ++ [x]), stall := none })).setR
        Reg.MSP_CH_STAT_PEND i 1).mspDone m (1 + waited + t.mspStall m [fld w 19 3] []))

/-- MSP_SFLG (R440). -/
def execMspSflg (m : Fin 128) (s : State) : Result :=
  s.mspSimple m 0x09 (fun _ => []) (fun _ => []) (fun w t => t.setR Reg.MSP_STAT_FLAG m (fld w 0 1))

/-! ### Moves (R431, R440, R447) -/

/-- MSP_LDI (R440): HI keeps the low half and the poison bit. -/
def execMspLdi (m : Fin 128) (s : State) : Result :=
  s.mspSimple m 0x0A (fun _ => []) (fun _ => []) (fun w t =>
    let d := fld w 22 4
    if nbit w 16 then t.setD m d (t.mspD m d % 2 ^ 16 + fld w 0 16 * 2 ^ 16) (t.dPois m d)
    else t.setD m d (unsigned 32 (signed 16 (fld w 0 16))))

/-- MSP_MOV (R440, R447). -/
def execMspMov (m : Fin 128) (s : State) : Result :=
  s.mspSimple m 0x0B (fun _ => []) (fun _ => []) (fun w t => t.setD m (fld w 22 4) (t.mspD m (fld w 18 4)) (t.dPois m (fld w 18 4)))

/-- MSP_MOVP (R440, R442, R447). -/
def execMspMovp (m : Fin 128) (s : State) : Result :=
  s.mspIns m (fun w => decide (mspOp w = 0x0C)) (fun w t =>
    let p := fld w 23 3
    let d := fld w 19 4
    if nbit w 18 then (t.setD m d (t.mspP m p) (t.pPois m p)).mspDone m 1
    else
      let u := (t.setR Reg.MSP_P_ADDR (m.val * 8 + p) (t.mspD m d)).setR Reg.MSP_POIS_P m
        (if t.dPois m d then setBit (t.getR Reg.MSP_POIS_P m) p else clrBit (t.getR Reg.MSP_POIS_P m) p)
      u.mspDone m 1 (some p))

/-- The ring size of an inbox, in 64-bit words (R450, R463). -/
def State.ibxWords (s : State) (i : Nat) : Nat := 2 ^ max 6 (min 13 (s.getR Reg.MSP_IBX_CFG_LOG2W i))

/-- What a special register reads as (R431). -/
def State.mspSpecial (s : State) (m x lag : Nat) : Nat :=
  let ib := m / 8 * 128
  if x = 0 then s.getR Reg.MSP_SR_V m
  else if x = 1 then s.getR Reg.MSP_IX_V m
  else if x = 2 then s.getR Reg.MSP_RC_V m
  else if x = 3 then s.getR Reg.MSP_STAT_FLAG m
  else if x = 4 then s.mspTime lag % 2 ^ 32
  else if x = 5 then (s.mspx m).timeHi
  else if x = 6 then m
  else if x = 7 then
    bitsOf 8 (fun i => if i < 4 then s.flag Reg.MSP_CH_STAT_PEND (m * 4 + i) else s.flag Reg.MSP_CH_STAT_BREACHED (m * 4 + (i - 4)))
  else if 16 ≤ x ∧ x < 32 then s.getR Reg.MSP_IBX_PTR_WP (ib + (x - 16))
  else if 32 ≤ x ∧ x < 48 then s.getR Reg.MSP_IBX_PTR_RP (ib + (x - 32))
  else if 48 ≤ x ∧ x < 56 then s.getR Reg.MSP_M_V (m * 8 + (x - 48))
  else 0

/-- A write of a special register (R431). -/
def State.putSpecial (s : State) (m x v : Nat) : State :=
  if x = 0 then s.setR Reg.MSP_SR_V m v
  else if x = 1 then s.setR Reg.MSP_IX_V m v
  else if x = 3 then s.setR Reg.MSP_STAT_FLAG m v
  else if 32 ≤ x ∧ x < 48 then
    let i := m / 8 * 128 + (x - 32)
    s.setR Reg.MSP_IBX_PTR_RP i (v % s.ibxWords i)
  else if 48 ≤ x ∧ x < 56 then s.setR Reg.MSP_M_V (m * 8 + (x - 48)) v
  else s

/-- MSP_MOVS (R431, R442): `lag` is what the synchroniser adds to a read of the time. -/
def execMspMovs (m : Fin 128) (lag : Fin 2561) (s : State) : Result :=
  s.mspIns m (fun w => decide (mspOp w = 0x0D)) (fun w t =>
    let d := fld w 22 4
    let x := fld w 16 6
    if nbit w 15 then
      if t.dPois m d then t.mspExc m 5
      else (t.putSpecial m x (t.mspD m d)).mspDone m 1 (if 48 ≤ x ∧ x < 56 then some (8 + (x - 48)) else none)
    else
      let u := if x = 4 then t.modMspx m (fun k => { k with timeHi := t.mspTime lag / 2 ^ 32 }) else t
      (u.setD m d (t.mspSpecial m x lag)).mspDone m 1)

/-- MSP_LD (R440, R447). -/
def execMspLd (m : Fin 128) (s : State) : Result :=
  s.mspSimple m 0x0E (fun _ => []) (fun w => [fld w 19 3]) (fun w t =>
    let d := fld w 22 4
    let a := t.mspP m (fld w 19 3) + fld w 0 16
    let u := if nbit w 17 then
        let r := t.mspLoad64 m a (nbit w 18)
        (r.2.setD m (d / 2 * 2) (r.1.1 % 2 ^ 32) r.1.2).setD m (d / 2 * 2 + 1) (r.1.1 / 2 ^ 32) r.1.2
      else
        let r := t.mspLoad m a (nbit w 18)
        r.2.setD m d r.1.1 r.1.2
    if nbit w 16 then u else u.bumpP m (fld w 19 3)) (fun w => if nbit w 16 then [] else [fld w 19 3])

/-- MSP_ST (R440, R447). -/
def execMspSt (m : Fin 128) (s : State) : Result :=
  s.mspSimple m 0x0F (fun _ => []) (fun w => [fld w 19 3]) (fun w t =>
    let d := fld w 22 4
    let lo := d / 2 * 2
    let a := t.mspP m (fld w 19 3) + fld w 0 16
    let u := if nbit w 17 then
        t.mspStore64 m a (nbit w 18) (t.mspD m lo + t.mspD m (lo + 1) * 2 ^ 32) (t.dPois m lo || t.dPois m (lo + 1))
      else t.mspStore m a (nbit w 18) (t.mspD m d) (t.dPois m d)
    if nbit w 16 then u else u.bumpP m (fld w 19 3)) (fun w => if nbit w 16 then [] else [fld w 19 3])

/-! ### Arithmetic (R435 to R437, R440, R446) -/

/-- The operands of a two-operand instruction. -/
def aluSrcs (w : Nat) : List Nat := [fld w 18 4, fld w 14 4]

/-- A sum with its overflow and carry flags (R437). -/
def State.mspSum (s : State) (m d a b : Nat) : State :=
  let v := (a + b) % 2 ^ 32
  (s.setD m d v).setFlags m v (decide (signed 32 a + signed 32 b ≠ signed 32 v)) (decide (2 ^ 32 ≤ a + b))

/-- The flags of a difference: C is 1 when no borrow occurs (R437). -/
def State.mspDiffFlags (s : State) (m a b : Nat) : State :=
  let v := (a + 2 ^ 32 - b) % 2 ^ 32
  s.setFlags m v (decide (signed 32 a - signed 32 b ≠ signed 32 v)) (decide (b ≤ a))

/-- A logical result: Z and N, V and C clear (R437). -/
def State.mspLogic (s : State) (m d v : Nat) : State := (s.setD m d v).setFlags m v false false

/-- MSP_ADD (R437). -/
def execMspAdd (m : Fin 128) (s : State) : Result :=
  s.mspSimple m 0x10 aluSrcs (fun _ => []) (fun w t => t.mspSum m (fld w 22 4) (t.mspD m (fld w 18 4)) (t.mspD m (fld w 14 4)))

/-- MSP_SUB (R437). -/
def execMspSub (m : Fin 128) (s : State) : Result :=
  s.mspSimple m 0x11 aluSrcs (fun _ => []) (fun w t =>
    let a := t.mspD m (fld w 18 4)
    let b := t.mspD m (fld w 14 4)
    (t.setD m (fld w 22 4) ((a + 2 ^ 32 - b) % 2 ^ 32)).mspDiffFlags m a b)

/-- MSP_AND (R437). -/
def execMspAnd (m : Fin 128) (s : State) : Result :=
  s.mspSimple m 0x12 aluSrcs (fun _ => []) (fun w t => t.mspLogic m (fld w 22 4) (t.mspD m (fld w 18 4) &&& t.mspD m (fld w 14 4)))

/-- MSP_OR (R437). -/
def execMspOr (m : Fin 128) (s : State) : Result :=
  s.mspSimple m 0x13 aluSrcs (fun _ => []) (fun w t => t.mspLogic m (fld w 22 4) (t.mspD m (fld w 18 4) ||| t.mspD m (fld w 14 4)))

/-- MSP_XOR (R437). -/
def execMspXor (m : Fin 128) (s : State) : Result :=
  s.mspSimple m 0x14 aluSrcs (fun _ => []) (fun w t => t.mspLogic m (fld w 22 4) (t.mspD m (fld w 18 4) ^^^ t.mspD m (fld w 14 4)))

/-- MSP_ADDI (R437). -/
def execMspAddi (m : Fin 128) (s : State) : Result :=
  s.mspSimple m 0x15 (fun w => [fld w 18 4]) (fun _ => []) (fun w t =>
    t.mspSum m (fld w 22 4) (t.mspD m (fld w 18 4)) (unsigned 32 (signed 14 (fld w 0 14))))

/-- A shift (R437): the result and the last bit shifted out. KIND 0 LSL, 1 LSR, 2 ASR, 3 ROR. -/
def shiftBy (kind v n : Nat) : Nat × Bool :=
  if n = 0 then (v, false)
  else if kind = 0 then (v * 2 ^ n % 2 ^ 32, nbit v (32 - n))
  else if kind = 1 then (v / 2 ^ n, nbit v (n - 1))
  else if kind = 2 then (unsigned 32 (signed 32 v / (2 ^ n : Nat)), nbit v (n - 1))
  else (v / 2 ^ n + v % 2 ^ n * 2 ^ (32 - n), nbit v (n - 1))

/-- MSP_SHIFT (R437). -/
def execMspShift (m : Fin 128) (s : State) : Result :=
  s.mspSimple m 0x16 (fun w => if nbit w 11 then aluSrcs w else [fld w 18 4]) (fun _ => []) (fun w t =>
    let n := if nbit w 11 then t.mspD m (fld w 14 4) % 32 else fld w 0 5
    let r := shiftBy (fld w 12 2) (t.mspD m (fld w 18 4)) n
    (t.setD m (fld w 22 4) r.1).setFlags m r.1 false r.2)

/-- MSP_CMP (R437). -/
def execMspCmp (m : Fin 128) (s : State) : Result :=
  s.mspSimple m 0x17 aluSrcs (fun _ => []) (fun w t => t.mspDiffFlags m (t.mspD m (fld w 18 4)) (t.mspD m (fld w 14 4)))

/-- MSP_MIN (R437, R440). -/
def execMspMin (m : Fin 128) (s : State) : Result :=
  s.mspSimple m 0x18 aluSrcs (fun _ => []) (fun w t =>
    let a := t.mspD m (fld w 18 4)
    let b := t.mspD m (fld w 14 4)
    t.mspLogic m (fld w 22 4) (if signed 32 b < signed 32 a then b else a))

/-- MSP_MAX (R437, R440). -/
def execMspMax (m : Fin 128) (s : State) : Result :=
  s.mspSimple m 0x19 aluSrcs (fun _ => []) (fun w t =>
    let a := t.mspD m (fld w 18 4)
    let b := t.mspD m (fld w 14 4)
    t.mspLogic m (fld w 22 4) (if signed 32 a < signed 32 b then b else a))

/-- MSP_ABS (R436, R437). -/
def execMspAbs (m : Fin 128) (s : State) : Result :=
  s.mspSimple m 0x1A (fun w => [fld w 18 4]) (fun _ => []) (fun w t =>
    let a := t.mspD m (fld w 18 4)
    let v := if a = 2 ^ 31 then 2 ^ 31 - 1 else (signed 32 a).natAbs
    let u := t.mspLogic m (fld w 22 4) v
    if a = 2 ^ 31 then u.setSr m 4 true else u)

/-- MINIX and MAXIX (R443, R446): the spec states no result for Dm and Di that are one register, which takes a free value. -/
def State.mspIndexed (s : State) (m w : Nat) (better : Int → Int → Bool) : State :=
  let dv := fld w 22 4
  let dm := fld w 18 4
  let di := fld w 14 4
  let px := fld w 6 3
  let ix := s.getR Reg.MSP_IX_V m
  let t := if better (signed 32 (s.mspD m dv)) (signed 32 (s.mspD m dm)) then
      if dm = di then (s.setD m dm (Config.freeWord s.free).toNat).draw
      else (s.setD m dm (s.mspD m dv)).setD m di ix
    else s
  let t := t.setR Reg.MSP_IX_V m (ix + 1)
  if nbit w 13 then
    let r := t.mspLoad m (s.mspP m px) false
    (r.2.setD m (fld w 9 4) r.1.1 r.1.2).bumpP m px
  else t

/-- MSP_MINIX (R446). -/
def execMspMinix (m : Fin 128) (s : State) : Result :=
  s.mspSimple m 0x1B (fun w => [fld w 22 4, fld w 18 4]) (fun w => if nbit w 13 then [fld w 6 3] else []) (fun w t =>
    t.mspIndexed m w (fun a b => decide (a < b)))

/-- MSP_MAXIX (R446). -/
def execMspMaxix (m : Fin 128) (s : State) : Result :=
  s.mspSimple m 0x1C (fun w => [fld w 22 4, fld w 18 4]) (fun w => if nbit w 13 then [fld w 6 3] else []) (fun w t =>
    t.mspIndexed m w (fun a b => decide (b < a)))

/-- MSP_MACD (R435, R440). -/
def execMspMacd (m : Fin 128) (s : State) : Result :=
  s.mspSimple m 0x1D (fun w => [fld w 18 4, fld w 14 4, fld w 10 4, fld w 6 4]) (fun _ => []) (fun w t =>
    let a := 2 * fld w 24 1
    let op := if nbit w 25 then 2 else 1
    (t.mspMul m op a (fld w 18 4) (fld w 14 4)).mspMul m op (a + 1) (fld w 10 4) (fld w 6 4))

/-- MSP_ACC (R435, R440). -/
def execMspAcc (m : Fin 128) (s : State) : Result :=
  s.mspSimple m 0x1E (fun w => if fld w 15 3 = 4 ∨ fld w 15 3 = 5 then [fld w 18 4] else []) (fun _ => []) (fun w t =>
    let ad := fld w 24 2
    let x := t.mspA m ad
    let y := t.mspA m (fld w 22 2)
    let d := signed 32 (t.mspD m (fld w 18 4))
    let sh : Int := (2 ^ fld w 0 6 : Nat)
    let k := fld w 15 3
    t.setA m ad (if k = 0 then x + y else if k = 1 then x - y else if k = 2 then y else if k = 3 then 0 else if k = 4 then d
      else if k = 5 then x + d * 2 ^ 32 else if k = 6 then x / sh else x * sh))

/-- A number kept within w signed bits, and whether it had to be (R436). -/
def clampTo (w : Nat) (v : Int) : Int × Bool :=
  let hi : Int := (2 ^ (w - 1) : Nat)
  if v < -hi then (-hi, true) else if hi ≤ v then (hi - 1, true) else (v, false)

/-- MSP_STA (R436). -/
def execMspSta (m : Fin 128) (s : State) : Result :=
  s.mspSimple m 0x1F (fun _ => []) (fun _ => []) (fun w t =>
    let d := fld w 22 4
    let sh := fld w 0 6
    let r : Int := if nbit w 19 && decide (sh ≠ 0) then (2 ^ (sh - 1) : Nat) else 0
    let v := (t.mspA m (fld w 20 2) + r) / (2 ^ sh : Nat)
    let c := clampTo (if nbit w 18 then 64 else 32) v
    let u := if nbit w 18 then
        (t.setD m (d / 2 * 2) (unsigned 32 c.1)).setD m (d / 2 * 2 + 1) (unsigned 64 c.1 / 2 ^ 32)
      else t.setD m d (unsigned 32 c.1)
    if c.2 then u.setSr m 4 true else u)

/-- MSP_ILLEGAL (R448). -/
def execMspIllegal (m : Fin 128) (s : State) : Result :=
  s.mspIns m (fun w => decide (0x20 ≤ mspOp w) && decide (mspOp w ≤ 0x2F)) (fun _ t => t.mspExc m 1)

/-! ### Groups (R457, R458) -/

/-- The members that a mask names. -/
def named (g mask : Nat) : List Nat := ((List.range 8).filter (nbit mask)).map (fun i => 8 * g + i)

/-- A write of MSP_GRP_CTL stores MASK and CLR. -/
def State.grpWrite (s : State) (g : Nat) (mask : BitVec 8) (clr : Bool) : State :=
  (s.setR Reg.MSP_GRP_CTL_MASK (8 * g) mask.toNat).setR Reg.MSP_GRP_CTL_CLR (8 * g) (bit clr)

/-- MSP_GRP_GO (R457). -/
def execMspGrpGo (g : Fin 16) (mask : BitVec 8) (clr : Bool) (s : State) : Result :=
  let s := s.touchGroup g
  let i := 8 * g.val
  let l := named g mask.toNat
  let t := ((s.grpWrite g mask clr).setR Reg.MSP_GRP_STAT_REASON i 0).setR Reg.MSP_GRP_STAT_ABORT_LATE i 0
  let fail := fun (r : Nat) => (t.setR Reg.MSP_GRP_STAT_STATE i 4).setR Reg.MSP_GRP_STAT_REASON i r
  if l.isEmpty then .next (fail 2)
  else if l.any (fun m => decide (s.getR Reg.MSP_STAT_STATE m = 1) || decide (s.getR Reg.MSP_STAT_STATE m = 5)) then .next (fail 1)
  else
    let t := (((t.setEach Reg.MSP_STAT_STATE l 1).setEach Reg.MSP_STAT_ABORT_LATE l 0).setR Reg.MSP_GRP_STAT_STATE i 1)
    .next ((t.setR Reg.MSP_PENDMASK i (s.getR Reg.MSP_PENDMASK i ||| mask.toNat)).setR Reg.MSP_PENDCLR i (bit clr))

/-- What CLR clears (R457). -/
def State.mspClr (s : State) (m : Nat) : State :=
  ((((s.resetRange [Reg.MSP_D_V] (m * 16) 16).resetRange [Reg.MSP_A_V] (m * 4) 4).resetRange [Reg.MSP_P_ADDR, Reg.MSP_M_V] (m * 8) 8).resetFields
    [Reg.MSP_SR_V, Reg.MSP_IX_V, Reg.MSP_POIS_D, Reg.MSP_POIS_P] m)

/-- A member starts (R457). -/
def State.mspStart (s : State) (m : Nat) (clr : Bool) : State :=
  let t := (s.resetFields [Reg.MSP_RC_V, Reg.MSP_STAT_ECAUSE, Reg.MSP_STAT_FLAG, Reg.MSP_STAT_DEPTH, Reg.MSP_STAT_WAITING,
    Reg.MSP_CYCLES_COUNT] m).modMspx m (fun k => { msp0 with timeHi := k.timeHi, queues := k.queues })
  let t := if clr then t.mspClr m else t
  (t.setR Reg.MSP_PC_PC m (s.getR Reg.MSP_ENTRY_PC m)).mspSt m 5

/-- MSP_START_CYCLE (R457): 2,560 ticks past AT, or at once with AT 0. -/
def execMspStartCycle (g : Fin 16) (s : State) : Result :=
  let i := 8 * g.val
  let at_ := s.getR Reg.MSP_GRP_AT_AT i
  let mask := s.getR Reg.MSP_PENDMASK i
  if mask ≠ 0 ∧ (at_ = 0 ∨ s.dueAt ((at_ + 2560) % 2 ^ 64)) then
    let l := (named g mask).filter (fun m => decide (s.getR Reg.MSP_STAT_STATE m = 1))
    let t := l.foldl (fun u m => u.mspStart m (s.flag Reg.MSP_PENDCLR i)) s
    .next (((((t.setR Reg.MSP_PENDMASK i 0).setR Reg.MSP_STARTED i mask).setR Reg.MSP_GRP_STAT_STATE i 2).markCommit Reg.GRP_CMT g).raise (mspEp g) 0x0801 0
      (mspDetail 0 0 0 0 0 0 mask))
  else .next s

/-- MSP_GRP_ABORT (R38, R457): before the start cycle; one in the start cycle is late, in the group and in every member that the start named. -/
def execMspGrpAbort (g : Fin 16) (mask : BitVec 8) (clr : Bool) (s : State) : Result :=
  let s := s.touchGroup g
  let i := 8 * g.val
  let pend := s.getR Reg.MSP_PENDMASK i
  let t := s.grpWrite g mask clr
  if pend = 0 then
    .next (if s.getR Reg.MSP_GRP_STAT_STATE i = 2 ∧ s.inCommitCycle Reg.GRP_CMT g = true then
      (t.setR Reg.MSP_GRP_STAT_ABORT_LATE i 1).setEach Reg.MSP_STAT_ABORT_LATE (named g (s.getR Reg.MSP_STARTED i)) 1 else t)
  else
    let l := (named g pend).filter (fun m => decide (s.getR Reg.MSP_STAT_STATE m = 1))
    .next ((((t.setEach Reg.MSP_STAT_STATE l 3).setR Reg.MSP_PENDMASK i 0).setR Reg.MSP_GRP_STAT_STATE i 3).raise (mspEp g) 0x0808 0
      (mspDetail 0 0 0 0 0 0 pend))

/-- MSP_GRP_STOP (R445, R458). -/
def execMspGrpStop (g : Fin 16) (mask : BitVec 8) (clr : Bool) (s : State) : Result :=
  let s := s.touchGroup g
  .next ((named g mask.toNat).foldl (fun t m =>
    if t.getR Reg.MSP_STAT_STATE m ≠ 5 then t
    else if (t.mspx m).rep.isSome then t.modMspx m (fun k => { k with stopReq := true, resumeReq := false })
    else t.mspStopped m) (s.grpWrite g mask clr))

/-- MSP_GRP_RESUME (R445, R458). -/
def execMspGrpResume (g : Fin 16) (mask : BitVec 8) (clr : Bool) (s : State) : Result :=
  let s := s.touchGroup g
  .next ((named g mask.toNat).foldl (fun t m =>
    if t.getR Reg.MSP_STAT_STATE m = 6 then t.mspResume m
    else t.modMspx m (fun k => { k with resumeReq := k.resumeReq || k.stopReq })) (s.grpWrite g mask clr))

/-- MSP_SRST (R458). -/
def execMspSrst (m : Fin 128) (s : State) : Result :=
  let s := s.touchGroup (m / 8)
  .next (s.mspSrst m)

/-! ### Inboxes and channels (R450 to R455) -/

/-- The inbox a flow's messages go to: the lowest enabled one of the group (R450). -/
def State.inboxOf (s : State) (g flow : Nat) : Option Nat :=
  (List.range 16).find? (fun j =>
    s.flag Reg.MSP_IBX_CFG_EN (g * 128 + j) && decide (s.getR Reg.MSP_IBX_CFG_FLOW (g * 128 + j) = flow))

/-- The words of a message in a ring, each with its poison (R451). -/
def ibxMessage (p : Packet) : List (Nat × Bool) :=
  let n := (p.size + 7) / 8
  let body := payload p % 256 ^ p.size
  [(p.size % 2 ^ 11 + bit (anyPoison p) * 2 ^ 11 + p.flow % 2 ^ 12 * 2 ^ 16 + p.src % 2 ^ 16 * 2 ^ 32 + p.srcDev % 2 ^ 6 * 2 ^ 48
      + bit p.xdev * 2 ^ 54, false),
    (p.user % 2 ^ 64, false), (p.user / 2 ^ 64 % 2 ^ 64, false)]
    ++ (List.range n).map (fun i =>
      (body / 2 ^ (64 * i) % 2 ^ 64, p.poison || ((p.data[i / 8]?).map (fun f => f.poison)).getD false))

/-- A message is written into a ring, and WP moves past it (R451). -/
def State.ibxWrite (s : State) (g j : Nat) (p : Packet) : State :=
  let i := g * 128 + j
  let size := s.ibxWords i
  let base := mspMem (8 * g + s.getR Reg.MSP_IBX_CFG_MSP i) (1 + s.getR Reg.MSP_IBX_CFG_MEM i)
  let b := s.getR Reg.MSP_IBX_BASE_BASE i / size * size
  let wp := s.getR Reg.MSP_IBX_PTR_WP i
  let l := ibxMessage p
  let t := l.zipIdx.foldl (fun u e =>
    u.writeWord (base + 8 * (b + (wp + e.2) % size)) (mspEp g) (BitVec.ofNat 64 e.1.1) 0xFF e.1.2) s
  let t := t.mspLose (8 * g + s.getR Reg.MSP_IBX_CFG_MSP i) l.length
  t.setR Reg.MSP_IBX_PTR_WP i ((wp + l.length) % size)

/-- MSP_INBOX_MESSAGE (R450 to R452): the oldest message at the group. -/
def execMspInboxMessage (g : Fin 16) (s : State) : Result :=
  match takeFirst (fun p => decide (p.kind = 0)) (s.inbox (mspEp g)) with
  | none => .next s
  | some (p, rest) =>
    let t := s.putInbox (mspEp g) rest
    match s.inboxOf g p.flow with
    | none =>
      .next ((t.satAdd Reg.MSP_GRP_ERR_UNMATCHED (8 * g.val) 1).raise (mspEp g) 0x0806 2 (mspDetail 0 0 0 0 0 p.flow))
    | some j =>
      let i := g.val * 128 + j
      let size := s.ibxWords i
      let used := (s.getR Reg.MSP_IBX_PTR_WP i + size - s.getR Reg.MSP_IBX_PTR_RP i % size) % size
      if 3 + (p.size + 7) / 8 ≤ size - 1 - used then .next (t.ibxWrite g j p)
      else .next ((t.satAdd Reg.MSP_IBX_STAT_DROPS i 1).raise (mspEp g) 0x0805 3
        (mspDetail (8 * g.val + s.getR Reg.MSP_IBX_CFG_MSP i) 0 0 0 j p.flow))

/-- MSP_BREACH_NOTICE (R455). -/
def execMspBreachNotice (g : Fin 16) (s : State) : Result :=
  match takeFirst (fun p => decide (p.kind = 6)) (s.inbox (mspEp g)) with
  | none => .next s
  | some (p, rest) =>
    let id := noticeBits p % 2 ^ 12
    let t := s.putInbox (mspEp g) rest
    if nbit (noticeBits p) 89 then
      .next (t.setEach Reg.MSP_IBX_STAT_BREACHED (((List.range 16).map (fun j => g.val * 128 + j)).filter (fun i =>
        decide (s.getR Reg.MSP_IBX_CFG_FLOW i = id))) 1)
    else
      .next (t.setEach Reg.MSP_CH_STAT_BREACHED (((List.range 32).map (fun i => g.val * 32 + i)).filter (fun i =>
        s.flag Reg.MSP_CH_CFG_CLASS i && decide (s.getR Reg.MSP_CH_CFG_FLOW i = id))) 1)

/-- A byte range lies in one MSP's memories (R19). -/
def inMsp (a n : Nat) : Bool :=
  decide (0 < n) && decide (0x4200000000 ≤ a) && decide (a < 0x4202000000) && decide ((a - 0x4200000000) % 0x40000 + n ≤ 0x30000)

/-- MSP_MEMORY_ACCESS (R231, R433, R455, R461): the request at the group whose turn it is; `lost` cycles are the MSP's. -/
def execMspMemoryAccess (g : Fin 16) (lost : Fin 256) (upset : Option Upset) (s : State) : Result :=
  match takeFirst isRequest (serveOrder (s.inbox (mspEp g))) with
  | none => .next s
  | some (p, rest) =>
    let t := s.putInbox (mspEp g) rest
    let m := (p.addr - 0x4200000000) / 0x40000
    if inMsp p.addr p.size = false ∨ m / 8 ≠ g.val then .next (t.decodeAnswer (mspEp g) p)
    else if (t.dawnGuard p.addr p.size p.src (decide (p.kind = 3))).isSome then .next (t.answerStatus (mspEp g) p 2)
    else
      let u := t.memAnswer (mspEp g) p.addr 0 p upset
      .next (if s.mspRuns m then (u.satAdd Reg.MSP_STALLS_COUNT m lost).mspCycles m lost else u)

/-- The packet of a SEND, its payload as memory holds it now (R453, R454). -/
def State.mspPacket (s : State) (m c : Nat) (x : MspSend) : Packet × State :=
  let i := m * 4 + c
  let cls := s.flag Reg.MSP_CH_CFG_CLASS i
  let f := if cls then s.getR Reg.MSP_CH_CFG_FLOW i else 0
  let a := mspMem m (if x.y then 2 else 1)
  let r := (List.range ((x.size + 7) / 8)).foldl (fun (acc : List Rd × State) j =>
    let y := acc.2.readWord (a + 8 * ((x.word + j) % 8192)) (mspEp (m / 8))
    (acc.1 ++ [y.1], y.2)) ([], s)
  ({ dest := if cls then s.getR Reg.THY_CT_EP_DST f else s.getR Reg.MSP_CH_DEST_EP i, src := mspEp (m / 8),
     prio := s.getR Reg.MSP_CH_CFG_PRIO i, cls := cls, flow := f, len := flitsFor x.size, kind := 0, size := x.size, user := m,
     data := memFlits 0 x.size r.1 }, r.2.mspLose m ((x.size + 7) / 8))

/-- No other channel of the group holds an earlier packet of a contract (R454). -/
def State.mspFirst (s : State) (m flow seq : Nat) : Bool :=
  (List.range 32).all (fun j =>
    let i := m / 8 * 32 + j
    !(s.flag Reg.MSP_CH_CFG_CLASS i && decide (s.getR Reg.MSP_CH_CFG_FLOW i = flow))
      || (Map.get [] (s.mspx (i / 4)).queues (i % 4)).all (fun x => decide (seq ≤ x.seq)))

/-- MSP_CHANNEL_INJECT (R453, R454): the oldest packet of a channel; an excess packet takes the contract's EXCESS_PRIO (R243). -/
def execMspChannelInject (m : Fin 128) (c : Fin 4) (s : State) : Result :=
  let i := m.val * 4 + c.val
  match Map.get [] (s.mspx m).queues c with
  | [] => .next s
  | x :: rest =>
    let flow := s.getR Reg.MSP_CH_CFG_FLOW i
    let r := s.mspPacket m c x
    let blocked := s.flag Reg.MSP_CH_CFG_CLASS i
      && (!s.mspFirst m flow x.seq
        || (s.flag Reg.MSP_CH_CFG_WAITCR i && s.admittedFlow r.1 && !s.creditCovers flow (r.1.len + 1)))
    if blocked then .next s
    else
      let t := r.2.modMspx m (fun k => { k with queues := Map.set [] k.queues c rest })
      let t := (t.wrapAdd Reg.MSP_CH_STAT_SENT i 1).setR Reg.MSP_CH_STAT_PEND i (bit (!rest.isEmpty))
      .next (t.ingress r.1)

end Sys2Proof.Machine
end

