-- ==== Sys2Proof/Machine/Tio.lean ====
section
/-!
DEFINITION. Timed I/O: vectors, edges, strobes and results of the 20 banks (R259 to R293).
-/

namespace Sys2Proof.Machine

/-- The endpoint of a bank (R185, R259). -/
def tioEp (b : Nat) : Nat := ep (b / 5) (12 * (b % 5) + 6) 8

/-- DETAIL of a bank's events (R293). -/
def tioDetail (b : Nat) (pin num : Nat := 0) : Nat := pin % 32 + b % 32 * 2 ^ 8 + num % 2 ^ 48 * 2 ^ 16

/-- A bank with nothing in it. -/
def tio0 : TioBank := ⟨[], none, [], [], [], false, none, false, []⟩

/-- A bank's parts. -/
def State.bank (s : State) (b : Nat) : TioBank := Map.get tio0 s.tio.banks b

/-- Change a bank's parts; VBUF and RBUF show the buffers' fills. -/
def State.modBank (s : State) (b : Nat) (f : TioBank → TioBank) : State :=
  let k := f (s.bank b)
  ((s.modTio (fun x => { x with banks := Map.set tio0 x.banks b k })).setR Reg.TIO_BANK_STAT_VBUF b k.buf.length).setR
    Reg.TIO_BANK_STAT_RBUF b k.res.length

/-- The run state of a bank: 0 IDLE, 1 ARMED, 2 RUNNING, 3 STOPPED, 4 FAULT. -/
def State.rstate (s : State) (b : Nat) : Nat := s.getR Reg.TIO_BANK_STAT_RSTATE b

/-! ### Writes that wait for a vector start (R283) -/

/-- A write of a timeset, a period or a deskew field: the value before stays in effect for vectors that start within 64 ncyc. -/
def State.setTimed (s : State) (f : Field) (i v : Nat) : State :=
  let old := s.getR f i
  if f.norm v = old then s
  else (s.modTio (fun x => { x with
    hist := (f.key i, old, s.time.toNat) :: x.hist.filter (fun e => decide (s.since e.2.2 < 2 ^ 20)) })).setR f i v

/-- The value of a field in effect for a vector that starts at a time: no write of the last 64 ncyc counts. -/
def State.timedR (s : State) (f : Field) (i start : Nat) : Nat :=
  match (s.tio.hist.filter (fun e => decide (e.1 = f.key i) && before (plusTicks start (-32768)) e.2.2)).getLast? with
  | some e => e.2.1
  | none => s.getR f i

/-- PERIOD of a timeset (R268). -/
def State.periodAt (s : State) (b ts start : Nat) : Nat := max 320 (s.timedR Reg.TIO_TSPER_PERIOD (b * 16 + ts) start)

/-- A deskew field as it acts (R272). -/
def deskew (v : Nat) : Int := max (-16384) (min 16384 (signed 16 v))

/-! ### Vector packets (R275 to R279) -/

/-- The time fault of the bank's base die, CAL_VALID at 0, a pin out of calibration, or a zone above 100 degrees on the base die or a
die above it: records carry UNCAL (R283, R285, R672). -/
def State.uncal (s : State) (b : Nat) : Bool :=
  let z := s.getR Reg.THERM_RNG 0
  nbit z (b / 5) || nbit z (4 + b / 5 * 2) || nbit z (5 + b / 5 * 2) ||
  s.flag Reg.T_DIEFAULT (b / 5) || !s.flag Reg.TIO_BANK_STAT_CAL_VALID b
    || (List.range 32).any (fun p => s.flag Reg.TIO_CALBAD (b * 32 + p))

/-- A vector's start, less 80 ns, has passed (R279). -/
def State.isLate (s : State) (start : Nat) : Bool := before start (plusTicks s.time.toNat 81920)

/-- Starts along the buffer (R269): a vector that is no first of a TIMED packet follows the one before it; with the end of the last. -/
def State.chain (s : State) (b : Nat) : List TioVec → Nat → List TioVec × Nat
  | [], t => ([], t)
  | v :: l, t =>
    let st := if v.timed then v.start else t
    let r := s.chain b l (plusTicks st (s.periodAt b v.ts st))
    ({ v with start := st } :: r.1, r.2)

/-- The vectors of a packet (R275, R276). -/
def packetVecs (p : Packet) : List TioVec :=
  let count := p.user / 2 ^ 64 % 128
  let timed := nbit p.user 71
  let last := nbit p.user 120
  (List.range count).map (fun j =>
    let w := payload p / 256 ^ (16 * j) % 2 ^ 128
    ⟨w % 2 ^ 64, w / 2 ^ 64 % 2 ^ 32, w / 2 ^ 96 % 16, (p.user / 2 ^ 72 % 2 ^ 48 + j) % 2 ^ 48, last && decide (j + 1 = count),
      timed && decide (j = 0), false, p.user % 2 ^ 64, false⟩)

/-- The checks of R277. -/
def State.vectorOk (s : State) (b : Nat) (p : Packet) : Bool :=
  let count := p.user / 2 ^ 64 % 128
  let timed := nbit p.user 71
  let num := p.user / 2 ^ 72 % 2 ^ 48
  s.flag Reg.TIO_BANK_VSRC_EN b && decide (p.flow = s.getR Reg.TIO_BANK_VSRC_FLOW b) && decide (s.rstate b ≠ 4)
    && decide (1 ≤ count) && decide (count ≤ 123) && decide (p.len = flitsFor (16 * count))
    && (match (s.bank b).ref with
      | none => timed
      | some r => if timed then !before (p.user % 2 ^ 64) r.2 else decide (num = (r.1 + 1) % 2 ^ 48))

/-- A vector is late (R279). -/
def State.countLate (s : State) (b num : Nat) : State :=
  (s.satAdd Reg.TIO_BANK_LATE_COUNT b 1).raise (tioEp b) 0x0501 3 (tioDetail b 0 num)

/-- TIO_VECTOR_PACKET (R277 to R280): the bank takes the oldest packet that waits for it; vectors that come once a stop has taken effect start after it, and are discarded (R281). -/
def execTioVectorPacket (bank : Fin 20) (s : State) : Result :=
  let b := bank.val
  let e := tioEp b
  match s.inbox e with
  | [] => .next s
  | p :: rest =>
    let t := s.putInbox e rest
    let num := p.user / 2 ^ 72 % 2 ^ 48
    if p.kind ≠ 0 then .next (t.kindReject e p)
    else if !s.vectorOk b p then .next (t.raise e 0x0503 2 (tioDetail b 0 num))
    else if (s.bank b).stopping then .next t
    else
      let vs := packetVecs p
      let k := s.bank b
      if 2048 < k.buf.length + vs.length then
        .next ((t.satAdd Reg.TIO_BANK_VDROP_COUNT b 1).raise e 0x0502 3 (tioDetail b 0 num))
      else
        let c := s.chain b vs ((k.ref.map (fun r => r.2)).getD 0)
        let start := decide (s.rstate b = 0) || decide (s.rstate b = 3)
        let vs := (c.1.zipIdx).map (fun v => { v.1 with late := s.isLate v.1.start, head := (start || k.first) && decide (v.2 = 0) })
        let t := t.modBank b (fun k => { k with buf := k.buf ++ vs, first := nbit p.user 120,
                                                ref := some ((num + vs.length - 1) % 2 ^ 48, c.2) })
        let t := if start then t.tioSt b 1 else t
        .next (vs.foldl (fun u v => if v.late then u.countLate b v.num else u) t)

/-! ### Vectors run (R268 to R274) -/

/-- The pins whose fields count: in timed mode, and P pins alone in a differential mode (R260). -/
def State.timedPins (s : State) (b : Nat) : List Nat :=
  (List.range 32).filter (fun p => s.flag Reg.TIO_PIN_CFG_MODE (b * 32 + p) && (!s.diff b || decide (p % 2 = 0)))

/-- The instance of an event of a timeset of a pin. -/
def evIx (b pin ts e : Nat) : Nat := ((b * 32 + pin) * 16 + ts) * 6 + e

/-- The state code of a pin in a vector (R276). -/
def TioVec.code (v : TioVec) (pin : Nat) : Nat := v.state / 4 ^ pin % 4

/-- The pin's comparison counts: a compare state, not masked (R271). -/
def TioVec.compared (v : TioVec) (pin : Nat) : Bool := decide (2 ≤ v.code pin) && !nbit v.mask pin

/-- An enabled event's offset lies outside PERIOD (R270): RANGE, and once per pin and timeset the event. -/
def State.rangeCheck (s : State) (b pin : Nat) (v : TioVec) (period : Nat) : State :=
  let i := b * 32 + pin
  let bad := (List.range 6).any (fun e => decide (s.timedR Reg.TIO_TS_EV_EN (evIx b pin v.ts e) v.start = 1)
    && decide (period ≤ s.timedR Reg.TIO_TS_EV_OFFSET (evIx b pin v.ts e) v.start))
  if bad then
    let seen := if s.flag Reg.TIO_PIN_ERR_RANGE i then s.getR Reg.TIO_RNG_TS i else 0
    let t := (s.setR Reg.TIO_PIN_ERR_RANGE i 1).setR Reg.TIO_RNG_TS i (setBit seen v.ts)
    if nbit seen v.ts then t else t.raise (tioEp b) 0x0505 2 (tioDetail b pin v.num)
  else s

/-- An event of a timeset is placed: enabled and within PERIOD; its offset. -/
def State.placed (s : State) (b pin : Nat) (v : TioVec) (period e : Nat) : Option Nat :=
  let o := s.timedR Reg.TIO_TS_EV_OFFSET (evIx b pin v.ts e) v.start
  if s.timedR Reg.TIO_TS_EV_EN (evIx b pin v.ts e) v.start = 1 ∧ o < period then some o else none

/-- The level an event sets. -/
def State.evLevel (s : State) (b pin : Nat) (v : TioVec) (e : Nat) : Bool :=
  if e = 1 then decide (v.code pin = 1) else decide (s.timedR Reg.TIO_TS_CFG_RETLVL ((b * 32 + pin) * 16 + v.ts) v.start = 1)

/-- The drive events of a pin in a vector (R268, R271, R272). -/
def State.driveEvs (s : State) (b pin : Nat) (v : TioVec) (period : Nat) : List TioEv :=
  let d := deskew (s.timedR Reg.TIO_PIN_DSK_DRV (b * 32 + pin) v.start)
  let ret := s.timedR Reg.TIO_TS_CFG_RETLVL ((b * 32 + pin) * 16 + v.ts) v.start
  let kinds := if 2 ≤ v.code pin then [3] else if ret ≤ 1 then [0, 1, 2, 3] else [0, 1, 3]
  kinds.filterMap (fun e => (s.placed b pin v period e).map (fun o =>
    ⟨pin, e, plusTicks v.start (o + d), s.evLevel b pin v e, v.num⟩))

/-- The strobes of a pin in a vector (R268, R271, R272, R286): on drive states only for raw words (R287). -/
def State.strobesOf (s : State) (b pin : Nat) (v : TioVec) (period : Nat) : List TioStrobe :=
  let d := deskew (s.timedR Reg.TIO_PIN_DSK_CMP (b * 32 + pin) v.start)
  let win := decide (s.timedR Reg.TIO_TS_CFG_SKIND ((b * 32 + pin) * 16 + v.ts) v.start = 1)
  if v.code pin < 2 ∧ s.getR Reg.TIO_BANK_CFG_RESFMT b = 0 then []
  else
    let o0 := s.placed b pin v period 4
    let o1 := s.placed b pin v period 5
    let mk := fun (w : Nat) (o : Nat) => (⟨pin, w, win, plusTicks v.start (o + d)⟩ : TioStrobe)
    if win then
      match o0, o1 with
      | some a, some c => if c < a then [] else [mk 0 a, mk 1 c]
      | _, _ => []
    else (o0.map (mk 0)).toList ++ (o1.map (mk 1)).toList

/-- A vector's run as it is placed: strobes and, of the pins compared, the fails of a late vector's expectations none (R279). -/
def State.placedRun (s : State) (b : Nat) (v : TioVec) : TioRun :=
  let period := s.periodAt b v.ts v.start
  ⟨v, plusTicks v.start period, false, if v.late then [] else (s.timedPins b).flatMap (fun p => s.strobesOf b p v period),
    if v.late then bitsOf 32 (fun p => (s.timedPins b).contains p && v.compared p) else 0, 0, 0, false, s.uncal b⟩

/-- The drive events of a vector, none of a late one. -/
def State.placedEvs (s : State) (b : Nat) (v : TioVec) : List TioEv :=
  if v.late then [] else (s.timedPins b).flatMap (fun p => s.driveEvs b p v (s.periodAt b v.ts v.start))

/-- Place the first buffered vector that is not placed, at most k times, while its events can have come: deskew moves them by up to 16,384 ticks (R272). -/
def State.placeAhead (s : State) (b : Nat) : Nat → State
  | 0 => s
  | k + 1 =>
    match ((s.bank b).buf.drop (s.bank b).ahead.length).head? with
    | none => s
    | some v =>
      if (s.rstate b = 1 ∨ s.rstate b = 2) ∧ s.reached (plusTicks v.start (-16384)) = true then
        (s.modBank b (fun x => { x with ahead := x.ahead ++ [s.placedRun b v], evs := x.evs ++ s.placedEvs b v })).placeAhead b k
      else s

/-- Every buffered vector whose events can have come is placed. -/
def State.placeBuffered (s : State) (b : Nat) : State := s.placeAhead b (s.bank b).buf.length

/-- TIO_VECTOR_START (R269, R279, R280, R283): the first buffered vector's time has come. One that a step of time has jumped is late: what of it is placed and has
not acted is taken back. -/
def execTioVectorStart (bank : Fin 20) (u : State) : Result :=
  let b := bank.val
  let s := u.placeBuffered b
  match (s.bank b).buf, (s.bank b).ahead with
  | v :: rest, run :: ahead =>
    if (s.rstate b ≠ 1 ∧ s.rstate b ≠ 2) ∨ !s.reached v.start then .next s
    else
      let jump := !v.late && s.jumped v.start
      let run := if jump then s.placedRun b { v with late := true } else { run with uncal := run.uncal || s.uncal b }
      let c := s.chain b rest run.endT
      let t := if jump then s.countLate b v.num else s
      let t := if v.late || jump then t else (s.timedPins b).foldl (fun u p => u.rangeCheck b p v (s.periodAt b v.ts v.start)) t
      let t := t.modBank b (fun k => { k with
        buf := c.1
        ahead := ahead
        runs := k.runs ++ [run]
        evs := if jump then k.evs.filter (fun e => !decide (e.num = v.num)) else k.evs
        ref := k.ref.map (fun r => (r.1, c.2)) })
      .next ((t.setR Reg.TIO_BANK_VNUM_VNUM b v.num).tioSt b 2)
  | _, _ => .next s

/-- MINW (R261). -/
def minw (iostd : Nat) : Nat :=
  if 1 ≤ iostd ∧ iostd ≤ 4 then 640 else if iostd = 5 then 320 else if iostd = 6 then 160 else 0

/-- Put a pin's driver and level; a change of what the ball is driven to is an edge at that time. -/
def State.drivePin (s : State) (b pin : Nat) (on level : Bool) (time : Nat) : State :=
  let i := b * 32 + pin
  let edge := (s.flag Reg.TIO_ON i != on) || (on && (s.flag Reg.TIO_LVL i != level))
  let t := (s.setR Reg.TIO_ON i (bit on)).setR Reg.TIO_LVL i (bit level)
  if edge then (t.setR Reg.TIO_EDGED i 1).setR Reg.TIO_EDGE_T i time else t

/-- The event of a pin that acts first: by placed time, then in order of vector and kind (R273). -/
def firstEv (pin : Nat) (l : List TioEv) : Option TioEv :=
  (l.filter (fun e => decide (e.pin = pin))).foldl (fun m e => match m with
    | none => some e
    | some f => if before e.time f.time then some e else some f) none

/-- The driver and the level after the events of a pin that fall on one tick, in their order (R273). -/
def afterEvs (l : List TioEv) (on lvl : Bool) : Bool × Bool :=
  l.foldl (fun a e => (if e.kind = 0 then true else if e.kind = 3 then false else a.1, if e.kind = 1 ∨ e.kind = 2 then e.level else a.2)) (on, lvl)

/-- TIO_EDGE_EVENT (R271 to R273): the pin's first events, all that fall on one tick, take effect as one; an edge too close to the last one moves to MINW after it. -/
def execTioEdgeEvent (bank : Fin 20) (pin : Fin 32) (u : State) : Result :=
  let b := bank.val
  let i := b * 32 + pin.val
  let s := u.placeBuffered b
  match firstEv pin (s.bank b).evs with
  | none => .next s
  | some e =>
    if !s.reached e.time || decide (s.rstate b = 4) then .next s
    else
      let same := (s.bank b).evs.filter (fun f => decide (f.pin = pin.val) && decide (f.time = e.time))
      let a := afterEvs same (s.flag Reg.TIO_ON i) (s.flag Reg.TIO_LVL i)
      let edge := (s.flag Reg.TIO_ON i != a.1) || (a.1 && (s.flag Reg.TIO_LVL i != a.2))
      let floor := plusTicks (s.getR Reg.TIO_EDGE_T i) (minw (s.getR Reg.TIO_BANK_CFG_IOSTD b))
      let squeeze := edge && s.flag Reg.TIO_EDGED i && before e.time floor
      let mark := fun (r : TioRun) => if squeeze && same.any (fun f => decide (f.num = r.vec.num)) then { r with squeezed := true } else r
      let t := s.modBank b (fun k => { k with
        evs := k.evs.filter (fun f => !(decide (f.pin = pin.val) && decide (f.time = e.time))), runs := k.runs.map mark, ahead := k.ahead.map mark })
      let t := if squeeze then (t.satAdd Reg.TIO_PIN_ERR_SQUEEZE i 1).raise (tioEp b) 0x0504 2 (tioDetail b pin e.num) else t
      .next (t.drivePin b pin a.1 a.2 (if squeeze then floor else e.time))

/-- The strobe of a pin in a run that comes first. -/
def firstStrobe (pin : Nat) (r : TioRun) : Option TioStrobe :=
  (r.strobes.filter (fun x => decide (x.pin = pin))).foldl (fun m x => match m with
    | none => some x
    | some f => if before x.time f.time then some x else some f) none

/-- What a strobe finds (R286, R287): `high` and `low` are what the comparators say, for a window what held throughout it. -/
def strobeRun (x : TioStrobe) (high low : Bool) (r : TioRun) : TioRun :=
  let k := { r with strobes := r.strobes.erase x }
  if x.window && decide (x.which = 0) then k
  else
    let exp := r.vec.code x.pin
    let bad := r.vec.compared x.pin && ((decide (exp = 3) && !high) || (decide (exp = 2) && !low))
    let put := fun (v : Nat) (c : Bool) => if c then setBit v x.pin else v
    if x.window then { k with fails := put k.fails bad, raw0 := put k.raw0 high, raw1 := put k.raw1 low }
    else if x.which = 0 then { k with fails := put k.fails bad, raw0 := put k.raw0 high }
    else { k with fails := put k.fails bad, raw1 := put k.raw1 high }

/-- The first run with a strobe of a pin. -/
def strobeIn (pin : Nat) (high low : Bool) (ok : Nat → Bool) : List TioRun → List TioRun
  | [] => []
  | r :: l =>
    match firstStrobe pin r with
    | some x => if ok x.time then strobeRun x high low r :: l else r :: l
    | none => r :: strobeIn pin high low ok l

/-- TIO_STROBE (R286): `high` and `low` say how the ball compares with VOH and VOL at a strobe, or throughout a window at its close; none acts once the
counter is invalid (R73). -/
def execTioStrobe (bank : Fin 20) (pin : Fin 32) (high : Bool) (low : Bool) (u : State) : Result :=
  let s := u.placeBuffered bank
  .next (s.modBank bank (fun k =>
    let l := strobeIn pin high low (fun t => s.reached t && !s.flag Reg.T_UNLOCK 0) (k.runs ++ k.ahead)
    { k with runs := l.take k.runs.length, ahead := l.drop k.runs.length }))

/-- A pin enters its IDLE state (R274). -/
def State.pinIdle (s : State) (b time p : Nat) : State :=
  let idle := s.getR Reg.TIO_PIN_CFG_IDLE (b * 32 + p)
  if idle = 0 then s.drivePin b p false (s.flag Reg.TIO_LVL (b * 32 + p)) time
  else if idle = 1 then s.drivePin b p true false time
  else if idle = 2 then s.drivePin b p true true time
  else s

/-- Every timed-mode pin of a bank enters its IDLE state (R274). -/
def State.pinsIdle (s : State) (b time : Nat) : State := (s.timedPins b).foldl (fun t p => t.pinIdle b time p) s

/-- A pin whose configuration or IDLE field is written between runs, or in a gap between vectors, takes the IDLE state it now has (R274). -/
def State.pinRests (s : State) (b p : Nat) : State :=
  if (s.timedPins b).contains p && decide (s.rstate b ≠ 4) && (s.bank b).runs.all (fun r => r.ended) then s.pinIdle b s.time.toNat p else s

/-- What a pin by itself drives: in timed mode what the scheduler says, in plain mode what its output and output-enable connections carry (R264, R267, R271); none for
high-impedance. -/
def State.pinDrives (s : State) (b p : Nat) : Option Bool :=
  let i := b * 32 + p
  if s.flag Reg.TIO_PIN_CFG_MODE i then (if s.flag Reg.TIO_ON i then some (s.flag Reg.TIO_LVL i) else none)
  else
    let at_ := fun en => (s.tio.pads.find? (fun e => decide (e.2.pin = i) && (e.2.enable == en))).map (fun e => s.padValue e.1 e.2)
    if (at_ true).getD false then some ((at_ false).getD false) else none

/-- What a ball is driven to, none for high-impedance: nothing before the configuration takes effect or without the bank's power (R263), with IOSTD off (R261) or with every
driver off after a supply failure (R262); the N pin of a pair is the P pin's complement (R260). -/
def State.ball (s : State) (b p : Nat) : Option Bool :=
  let m := s.getR Reg.TIO_BANK_CFG_IOSTD b
  if s.flag Reg.SVP_PRECFG 0 || decide (s.getR Reg.DSK_PSTATE (105 + b) = 2) || decide (m = 0) || decide (m = 7) || s.flag Reg.TIO_DROFF b then none
  else if s.diff b && decide (p % 2 = 1) then (s.pinDrives b (p - 1)).map (fun v => !v)
  else s.pinDrives b p

/-- The pull of a ball: 0 none, 1 down, 2 up, 3 keeper. Before the configuration takes effect and without the bank's power weakly down, or up with the PRECFG_PU
strap (R263); then as configured, whatever else holds the driver off (R261, R267). -/
def State.ballPull (s : State) (b p : Nat) : Nat :=
  if s.flag Reg.SVP_PRECFG 0 || decide (s.getR Reg.DSK_PSTATE (105 + b) = 2) then 1 + s.getR Reg.STRAP_PRECFG_PU 0
  else s.getR Reg.TIO_PIN_CFG_PULL (s.cfgPin (b * 32 + p))

/-- The level of a ball that nothing outside drives: what it is driven to, else what its pull gives; none where it floats or a keeper holds what was there. -/
def State.ballRests (s : State) (b p : Nat) : Option Bool :=
  match s.ball b p with
  | some v => some v
  | none => if s.ballPull b p = 1 then some false else if s.ballPull b p = 2 then some true else none

/-- The pins rest: events of vectors that have run, placed behind their end, no longer act (R274). -/
def State.restPins (s : State) (b time : Nat) : State :=
  (s.pinsIdle b time).modBank b (fun k => { k with evs := k.evs.filter (fun e => k.ahead.any (fun r => decide (r.vec.num = e.num))) })

/-- A stopped run has come to its end (R281). -/
def State.runStopped (s : State) (b : Nat) : State :=
  (((s.restPins b s.time.toNat).modBank b (fun k => { k with stopping := false, ref := none })).tioSt b 3).raise (tioEp b) 0x0509 0 (tioDetail b 0 (s.getR Reg.TIO_BANK_VNUM_VNUM b))

/-- Mark the first run that has not ended. -/
def endFirst : List TioRun → List TioRun
  | [] => []
  | r :: l => if r.ended then r :: endFirst l else { r with ended := true } :: l

/-- The vector that has run is the last before a gap, a stop or the run's end (R274, R280, R281). -/
def State.restsAfter (s : State) (b : Nat) (r : TioRun) : Bool :=
  ((s.bank b).stopping && (s.bank b).buf.isEmpty) || r.vec.last || (((s.bank b).buf.head?).map (fun v => decide (v.start ≠ r.endT))).getD true

/-- TIO_VECTOR_END (R274, R280, R281): once every event placed before the end has acted. -/
def execTioVectorEnd (bank : Fin 20) (s : State) : Result :=
  let b := bank.val
  match (s.bank b).runs.find? (fun r => !r.ended) with
  | none => .next s
  | some r =>
    if !s.reached r.endT then .next s
    else
      let t := s.modBank b (fun k => { k with runs := endFirst k.runs })
      if s.rstate b ≠ 2 then .next t
      else if !s.restsAfter b r then .next t
      else if (s.bank b).evs.any (fun e => before e.time r.endT && !(s.bank b).ahead.any (fun x => decide (x.vec.num = e.num))) then .next s
      else if (s.bank b).stopping && (s.bank b).buf.isEmpty then .next (t.runStopped b)
      else if r.vec.last then
        let u := (t.restPins b r.endT).tioSt b (if (s.bank b).buf.isEmpty then 0 else 1)
        .next (if (s.bank b).buf.isEmpty then u.modBank b (fun k => { k with ref := none }) else u)
      else .next (t.restPins b r.endT)

/-! ### Results (R287 to R290) -/

/-- The result word of a vector (R287). -/
def State.resultWord (s : State) (b : Nat) (r : TioRun) : Nat :=
  if s.flag Reg.TIO_BANK_CFG_RESFMT b then r.raw0 + r.raw1 * 2 ^ 32
  else r.fails + bitsOf 32 (fun p => (s.timedPins b).contains p && r.vec.compared p) * 2 ^ 32

/-- Records per packet (R291). -/
def State.rpkt (s : State) (b : Nat) : Nat := max 1 (min 123 (s.getR Reg.TIO_BANK_RSLT_RPKT b))

/-- The bank sends the records it holds, at most RPKT (R289). -/
def State.sendResults (s : State) (b : Nat) : State :=
  let l := (s.bank b).res.take (s.rpkt b)
  let n := l.length
  let flow := s.getR Reg.TIO_BANK_RSLT_FLOW b
  let start := (l.head?.map (fun r => r.start)).getD 0
  let timed := l.any (fun r => r.first)
  let bytes := (l.zipIdx).foldl (fun acc e => acc + (e.1.word + e.1.num * 2 ^ 64 + e.1.flags * 2 ^ 112) * 256 ^ (16 * e.2)) 0
  if n = 0 then s
  else (s.modBank b (fun k => { k with res := k.res.drop n })).ingress
    { dest := s.getR Reg.THY_CT_EP_DST flow, src := tioEp b, cls := true, flow := flow, len := flitsFor (16 * n), kind := 0,
      size := 16 * n, user := start + n * 2 ^ 64 + bit timed * 2 ^ 71 + b * 2 ^ 128, data := toFlits bytes (16 * n) false }

/-- Flags of a record (R288). -/
def State.resultFlags (s : State) (b : Nat) (r : TioRun) : Nat :=
  bit (decide (r.fails ≠ 0)) + bit r.vec.late * 2 + bit (r.uncal || s.uncal b) * 4 + bit r.squeezed * 8 + r.vec.ts * 16 + bit r.vec.last * 256

/-- TIO_RESULT_COMPLETE (R288 to R290): the oldest vector has ended, and its strobes and events are past. -/
def execTioResultComplete (bank : Fin 20) (s : State) : Result :=
  let b := bank.val
  match (s.bank b).runs with
  | [] => .next s
  | r :: rest =>
    if !r.ended || !r.strobes.isEmpty || (s.bank b).evs.any (fun e => decide (e.num = r.vec.num)) then .next s
    else
      let t := s.modBank b (fun k => { k with runs := rest })
      if !s.flag Reg.TIO_BANK_RSLT_EN b then .next t
      else if 256 ≤ (s.bank b).res.length then .next (t.raise (tioEp b) 0x0508 3 (tioDetail b 0 r.vec.num))
      else
        let rec_ : TioRec := ⟨s.resultWord b r, r.vec.num, s.resultFlags b r, r.vec.start, s.clockNow, r.vec.head⟩
        let t := t.modBank b (fun k => { k with res := k.res ++ [rec_] })
        .next (if s.rpkt b ≤ (t.bank b).res.length || r.vec.last then t.sendResults b else t)

/-- TIO_RESULT_FLUSH (R289). -/
def execTioResultFlush (bank : Fin 20) (s : State) : Result :=
  let b := bank.val
  match (s.bank b).res with
  | [] => .next s
  | r :: _ => s.when (decide (max 1 (s.getR Reg.TIO_BANK_RSLT_FLUSH b) * 16 * 512 ≤ s.elapsed r.done)) (s.sendResults b)

/-! ### Stop, reset, supply, calibration (R262, R266, R280 to R285) -/

/-- The stop of a run takes effect (R281): `at_` is the stop time, none for a stop at the write. -/
def State.stopEffect (s : State) (b : Nat) (at_ : Option Nat) : State :=
  let t := s.modBank b (fun k => { k with stopAt := none })
  if s.rstate b ≠ 1 ∧ s.rstate b ≠ 2 then t
  else
    let keep := fun (v : TioVec) => before v.start (at_.getD s.time.toNat)
    let t := t.modBank b (fun k => { k with
      buf := k.buf.filter keep
      ahead := k.ahead.filter (fun r => keep r.vec)
      evs := k.evs.filter (fun e => !k.ahead.any (fun r => !keep r.vec && decide (r.vec.num = e.num)))
      stopping := true })
    if (t.bank b).buf.isEmpty && (t.bank b).runs.all (fun r => r.ended) then t.runStopped b else t

/-- TIO_STOP (R281). -/
def execTioStop (bank : Fin 20) (s : State) : Result :=
  let at_ := s.getR Reg.TIO_BANK_STOP_AT_AT bank
  if at_ = 0 then .next (s.stopEffect bank none)
  else .next (s.modBank bank (fun k => { k with stopAt := some at_ }))

/-- TIO_STOP_TAKE_EFFECT (R77, R281). -/
def execTioStopTakeEffect (bank : Fin 20) (s : State) : Result :=
  match (s.bank bank).stopAt with
  | some t => s.when (s.due t) (s.stopEffect bank (some t))
  | none => .next s

/-- Every driver of a bank is off (R262). -/
def State.driversOff (s : State) (b : Nat) : State := (s.setEach Reg.TIO_ON ((List.range 32).map (fun p => b * 32 + p)) 0).setR Reg.TIO_DROFF b 1

/-- A bank enters FAULT (R280). -/
def State.tioFault (s : State) (b : Nat) : State :=
  (s.modBank b (fun k => { k with ref := none })).tioSt b 4

/-- The supply a mode requires is missing: SUPPLY_OK is 0 in a mode that requires one (R261, R262). -/
def State.supplyBad (s : State) (b : Nat) : Bool :=
  let m := s.getR Reg.TIO_BANK_CFG_IOSTD b
  decide (1 ≤ m) && decide (m ≤ 6) && !s.flag Reg.TIO_BANK_STAT_SUPPLY_OK b

/-- TIO_SRST (R280, R282). -/
def execTioSrst (bank : Fin 20) (s : State) : Result :=
  let b := bank.val
  let pins := (List.range 32).map (fun p => b * 32 + p)
  let t := s.modBank b (fun _ => tio0)
  let t := (t.setEach Reg.TIO_PIN_ERR_RANGE pins 0).setEach Reg.TIO_PIN_ERR_SQUEEZE pins 0
  let t := if s.supplyBad b then t.driversOff b else (t.setR Reg.TIO_DROFF b 0).pinsIdle b s.time.toNat
  let stays := decide (s.rstate b = 4) && (s.supplyBad b || s.flag Reg.T_UNLOCK 0)
  .next (t.tioSt b (if stays then 4 else 0))

/-- TIO_SUPPLY_MISMATCH (R262): the mode requires a supply. -/
def execTioSupplyMismatch (bank : Fin 20) (s : State) : Result :=
  let m := s.getR Reg.TIO_BANK_CFG_IOSTD bank
  s.when (decide (1 ≤ m) && decide (m ≤ 6))
    ((((s.driversOff bank).setR Reg.TIO_BANK_STAT_SUPPLY_OK bank 0).tioFault bank).raise (tioEp bank) 0x0507 4 (tioDetail bank))

/-- VIO_TB_SUPPLY_IN_RANGE (R262). -/
def execVioTbSupplyInRange (bank : Fin 20) (s : State) : Result := .next (s.setR Reg.TIO_BANK_STAT_SUPPLY_OK bank 1)

/-- TIO_CALIBRATE (R284, R285): the engine visits a pin; `inRange` says that its delay-line codes hold. -/
def execTioCalibrate (bank : Fin 20) (pin : Fin 32) (inRange : Bool) (s : State) : Result :=
  let b := bank.val
  let i := b * 32 + pin.val
  let t := s.setR Reg.TIO_CALSEEN i 1
  let t := if (List.range 32).all (fun p => t.flag Reg.TIO_CALSEEN (b * 32 + p)) then t.setR Reg.TIO_BANK_STAT_CAL_VALID b 1 else t
  if inRange then .next (if s.flag Reg.TIO_PIN_ERR_CALFLT i then t else t.setR Reg.TIO_CALBAD i 0)
  else
    let t := (t.setR Reg.TIO_CALBAD i 1).setR Reg.TIO_PIN_ERR_CALFLT i 1
    .next (if s.flag Reg.TIO_PIN_ERR_CALFLT i then t else t.raise (tioEp b) 0x0506 4 (tioDetail b pin))

/-- A write of a pin's delays waits for its capturing edge (R266). -/
def State.delayWritten (s : State) (i : Nat) : State :=
  s.modTio (fun x => { x with dly := x.dly ++ [(i, s.clockNow, s.getR Reg.TIO_PIN_DLY_ODLY i, s.getR Reg.TIO_PIN_DLY_IDLY i)] })

/-- TIO_DELAY_APPLY (R266): the pin's capturing edge; writes at least 8 time-clock cycles old take effect. The registers of an N pin have none (R260). -/
def execTioDelayApply (bank : Fin 20) (pin : Fin 32) (s : State) : Result :=
  let i := bank.val * 32 + pin.val
  s.when (decide (s.cfgPin i = i)) (s.applyDelay i)

end Sys2Proof.Machine
end

