-- ==== Sys2Proof/Machine/Power.lean ====
section
/-!
DEFINITION. Power domains, heat and the Dusk subsystem (R651 to R679).
-/

namespace Sys2Proof.Machine

/-- A requester may write the DSK page (R678). -/
def State.dskWriter (s : State) (req : Nat) : Bool := s.ctlWriter req || decide (req = duskEp)

/-! ### What a domain loses with its power (R651 to R653) -/

/-- Fields of pages lo to lo + n - 1 back at reset. -/
def State.resetPages (s : State) (fs : List Field) (lo n : Nat) : State :=
  s.modRegs (fun m => m.filter (fun e =>
    !(fs.any (fun f => decide (f.id % Field.idBound = e.1 % Field.idBound) && decide (0 < f.perPage)
      && decide (lo ≤ e.1 / Field.idBound / f.perPage) && decide (e.1 / Field.idBound / f.perPage < lo + n)))))

/-- The fields that are no writable configuration fields: status, counters, run state. -/
def statusOf (fs : List Field) : List Field := fs.filter (fun f => !decide (f.acc = .rw) && !decide (f.acc = .rwl))

/-- Forget the entries of a table at keys lo to lo + n - 1. -/
def Map.dropRange {α : Type} (m : Map α) (lo n : Nat) : Map α := m.filter (fun e => !(decide (lo ≤ e.1) && decide (e.1 < lo + n)))

/-- The memory units of a class on a base die become invalid (R429, R480, R653); `lo` and `n` name the indexes. -/
def State.dropUnits (s : State) (cls bd lo n : Nat) : State :=
  s.modMem (fun m => m.filter (fun e =>
    match unitOf (e.1 * 8) with
    | some (u, _) => !(decide (unitCls u = cls) && decide (unitBd u = bd) && decide (lo ≤ unitIdx u) && decide (unitIdx u < lo + n))
    | none => true))

/-- A pattern engine and its fail-capture engine lose their run state. -/
def State.dropEngines (s : State) (n : Nat) : State :=
  ((((s.modPge (fun m => Map.dropRange m n 1)).modFce (fun m => Map.dropRange m n 1)).resetPages (statusOf (Reg.ofBlk .pge)) n 1).resetPages
    (statusOf (Reg.ofBlk .fce)) n 1).resetR Reg.PGE_LATCHED n

/-- An MSP group loses everything (R429). -/
def State.dropMsps (s : State) (g : Nat) : State :=
  let t := (s.modMsp (fun m => Map.dropRange m (8 * g) 8)).resetPages (Reg.ofBlk .msp) (8 * g) 8
  (t.dropUnits 2 (g / 4) (3 * (8 * (g % 4))) 24).resetFields [Reg.MSP_PENDMASK, Reg.MSP_PENDCLR, Reg.MSP_SENDS, Reg.MSP_STARTED] (8 * g)

/-- A timed I/O bank loses its run state; calibration starts again (R653). -/
def State.dropBank (s : State) (b : Nat) : State :=
  ((s.modTio (fun x => { x with banks := Map.dropRange x.banks b 1 })).resetPages (statusOf (Reg.ofBlk .tio)) b 1).resetRange
    [Reg.TIO_ON, Reg.TIO_LVL, Reg.TIO_EDGED, Reg.TIO_EDGE_T, Reg.TIO_RNG_TS, Reg.TIO_CALSEEN, Reg.TIO_CALBAD] (b * 32) 32
    |>.resetR Reg.TIO_DROFF b

/-- A lane group loses its links' state. -/
def State.dropLanes (s : State) (g : Nat) : State :=
  let lo := 8 * g - 16
  let t := s.modLanes (fun x => { x with
    links := if g < 2 then x.links else Map.dropRange x.links lo 8
    raw := Map.dropRange x.raw (8 * g) 8 })
  let t := t.resetPages (statusOf (Reg.ofBlk .lnq)) (2 * g) 2
  if g < 2 then t else t.resetPages (statusOf (Reg.ofBlk .dcl)) (2 * g - 4) 2

/-- An LPDDR5X channel in self-refresh power-down (R517): the DRAM keeps its contents, and deterministic mode is off (R513). -/
def State.dropLpx (u : State) (n : Nat) : State :=
  let keep := [Reg.LPX_STAT_CSTATE, Reg.LPX_DEV_U]
  let s := if u.flag Reg.LPX_STAT_DET_ON n then u.raise (lpxEp n) 0x0D07 0 (lpxDetail 0) else u
  ((s.resetPages ((statusOf (Reg.ofBlk .lpx)).filter (fun f => !(keep.any (fun k => decide (k.id = f.id))))) n 1).lpxSt n 3).modLp n (fun c =>
    { c with powerDown := [0, 1], waiting := [] })

/-- A base die's core domain loses its units, and the packets in its routers; the retention section keeps the rest (R652, R653). -/
def State.dropCore (s : State) (k : Nat) : State :=
  let t := (s.dropUnits 0 k 0 64).dropUnits 1 k 0 32
  let t := ((t.resetPages (Reg.ofBlk .spd) k 1).resetPages (Reg.ofBlk .ecc) k 1).resetPages (Reg.ofBlk .mid) k 1
  let t := t.modNoc (fun n => { n with
    net := n.net.filter (fun e => match e.place with
      | .router r _ => !decide (r / 96 = k)
      | .port p => !decide (epBd p = k))
    turns := n.turns.filter (fun e => !decide (e.1 / 16 / 64 / 96 = k))
    wake := Map.dropRange n.wake (96 * k) 96 })
  let t := t.resetRange [Reg.NOC_WAKE_OCC, Reg.NOC_WAKE_PKTS, Reg.NOC_WAKE_WAKES] (96 * k) 96
  let t := t.resetRange [Reg.NOC_FLITS_CT_COUNT, Reg.NOC_FLITS_BG_COUNT, Reg.NOC_FLITS_BE_COUNT, Reg.NOC_PERR_CE, Reg.NOC_PERR_UE,
    Reg.NOC_PERR_HDR] (480 * k) 480
  (t.modChip (fun c => { c with
    trackers := Map.dropRange c.trackers k 1
    copies := Map.dropRange c.copies (8 * k) 8
    queue := c.queue.filter (fun e => !(decide (unitBd e.1 = k) && decide (unitCls e.1 ≠ 2)))
    suspects := c.suspects.filter (fun e => !(decide (unitBd e.1 = k) && decide (unitCls e.1 ≠ 2)))
    ahead := c.ahead.filter (fun e => !(decide (unitBd (e.1 / 65536) = k) && decide (unitCls (e.1 / 65536) ≠ 2)))
    scrub := c.scrub.filter (fun e => !(decide (unitBd e.1 = k) && decide (unitCls e.1 ≠ 2)))
    sweeps := c.sweeps.filter (fun u => !(decide (unitBd u = k) && decide (unitCls u ≠ 2))) })).modMid (fun l =>
      l.filter (fun m => !decide (m.bd = k)))

/-- The packets at a domain's endpoints that it has not served, and those of its own that no router has taken. -/
def State.dropQueues (s : State) (d : Nat) : State :=
  s.modNoc (fun n => { n with
    net := n.net.filter (fun x => match x.place with
      | .router r i => !(decide (i = 4) && x.out.isNone && decide (epRtr x.pkt.src = r) && (domainEps d).contains x.pkt.src)
      | .port p => !(domainEps d).contains p)
    inbox := n.inbox.filter (fun e => !(domainEps d).contains e.1) })

/-- What a domain loses when its power is removed. A quadrant's regions are held from then on, until they start again. -/
def State.dropDomain (u : State) (d : Nat) : State :=
  let s := u.dropQueues d
  if d < 32 then (quadRegions d).foldl (fun t rg => if s.configuredRegion rg then t.holdRegion rg else t) s
  else if d < 36 then s.dropCore (d - 32)
  else if d < 52 then s.dropLpx (d - 36)
  else if d < 72 then s.dropLanes (d - 52)
  else if d = 72 then s.resetPages (statusOf (Reg.ofBlk .pci)) 0 1
  else if d < 89 then s.dropEngines (d - 73)
  else if d < 105 then s.dropMsps (d - 89)
  else if d < 125 then s.dropBank (d - 105)
  else if d = 125 then (List.range 4).foldl (fun t n => (((t.setR Reg.HART_RUN n 0).setR Reg.HART_HALT n 0).setR Reg.HART_RESV n 0).hregsDrop n) s
  else if d = 126 then ((s.setR Reg.HART_RUN 4 0).setR Reg.HART_HALT 4 0).hregsDrop 4
  else s

/-! ### Switching off (R655, R656) -/

/-- A request of the slot, the wake timer or a policy entry is refused (R655, R668). -/
def State.pwRefuse (s : State) (d reason : Nat) (slot : Bool) (entry : Option Nat) : State :=
  let t := if slot then (s.setR Reg.DSK_PWR_STAT_STATE 0 4).setR Reg.DSK_PWR_STAT_REASON 0 reason else s
  let t := t.raise duskEp 0x0B03 2 (dskDetail d reason)
  match entry with
  | some e => t.raise duskEp 0x0B0B 2 (dskDetail d reason 0 0 0 e)
  | none => t

/-- The slot takes an operation (R654). -/
def State.slotStart (s : State) (d op : Nat) : State :=
  ((((s.setR Reg.DSK_PWR_STAT_STATE 0 1).setR Reg.DSK_PWR_STAT_ABORT_LATE 0 0).setR Reg.DSK_PWR_STAT_REASON 0 0).setR
    Reg.DSK_PWR_STAT_DOM 0 d).setR Reg.PW_SLOT 0 op

/-- An endpoint of a domain belongs to a contract in one of these states. -/
def State.domContracts (s : State) (d : Nat) (states : List Nat) : List Nat :=
  s.contractIds.filter (fun i => states.contains (s.cstate i)
    && (decide (epDomain (s.getR Reg.THY_CT_EP_SRC i) = d) || decide (epDomain (s.getR Reg.THY_CT_EP_DST i) = d)))

/-- The other domains of a base die (R659). -/
def dieDomains (k : Nat) : List Nat :=
  (List.range 8).map (fun i => 8 * k + i) ++ (List.range 4).map (fun i => 36 + 4 * k + i) ++ (List.range 5).map (fun i => 52 + 5 * k + i)
    ++ (List.range 4).map (fun i => 73 + 4 * k + i) ++ (List.range 4).map (fun i => 89 + 4 * k + i)
    ++ (List.range 5).map (fun i => 105 + 5 * k + i) ++ (if k = 0 then [72, 125, 126] else [])

/-- A contract that is not FREE has a path through a base die's routers (R659). -/
def State.pathThrough (s : State) (k : Nat) : Bool :=
  s.thy.contracts.any (fun e => (e.2.own ++ e.2.old).any (fun o => decide (o.port / 64 / 96 = k)))

/-- The BD core conditions of R659. -/
def State.coreMayGo (s : State) (k : Nat) : Bool :=
  if k = 0 then (List.range 3).all (fun i => decide (s.pstate (33 + i) = 2))
  else (dieDomains k).all (fun d => decide (s.pstate d = 2)) && !s.pathThrough k

/-- Dawn is configuring a region of the quadrant: an operation after its commit point has it, or a release in progress. -/
def State.configuring (s : State) (d : Nat) : Bool :=
  s.fab.rels.any (fun e => e.2.regions.any (fun rg => decide (rgnDomain rg = d)))
    || (quadRegions d).any (fun rg => (s.region rg).causes.contains 2)
    || (decide (s.getR Reg.DWN_STAT_STATE 0 = 1) && (decide (s.getR Reg.DWN_STAT_SRC 0 = 0) || decide (5 ≤ s.getR Reg.DWN_STAT_PHASE 0)))

/-- A domain is busy (REASON 4 of R655). -/
def State.domBusy (s : State) (d : Nat) : Bool :=
  decide (s.pstate d ≠ 0)
    || (decide (d < 32) && s.configuring d)
    || (decide (d = 126) && (s.dbg.verifying || decide (s.getR Reg.DWN_STAT_PHASE 0 = 3) || decide (s.getR Reg.SGE_CMD_STAT_STATE 0 = 1)))
    || (decide (36 ≤ d) && decide (d < 52) && decide (s.getR Reg.LPX_STAT_CSTATE (d - 36) = 1))
    || (decide (52 ≤ d) && decide (d < 72) && decide (s.pstate 72 = 0)
      && (List.range 8).any (fun i => decide (s.getR Reg.LNE_CFG_MODE (8 * (d - 52) + i) = 5)))

/-- The REASON an off request fails with, 0 where it passes (R655). -/
def State.offReason (s : State) (d : Nat) : Nat :=
  if 127 ≤ d then 1
  else if !(s.domContracts d [1]).isEmpty then 2
  else if decide (32 ≤ d) && decide (d < 36) && !s.coreMayGo (d - 32) then 3
  else if s.domBusy d then 4
  else if s.thermal then 5
  else if s.forced d then 6
  else 0

/-- The commit point of a power-down (R656). -/
def State.pwCommit (s : State) (d : Nat) : State :=
  let t := s.setR Reg.PW_COMMIT d 1
  if d < 32 then (quadRegions d).foldl (fun u rg => u.isolate rg 4) t
  else if 52 ≤ d ∧ d < 72 then
    (List.range 8).foldl (fun u i => if 16 ≤ 8 * (d - 52) + i then u.dclRetrain (8 * (d - 52) + i - 16) 7 else u) t
  else t

/-- The power-down commits once none of its ports is still closing. -/
def State.pwTry (s : State) (d : Nat) : State :=
  if s.pstate d = 1 ∧ s.flag Reg.PW_COMMIT d = false
      ∧ (domainEps d).all (fun e => !decide (s.portState e = 1)) = true then s.pwCommit d else s

/-- The ports of a domain start to close (R216, R218). -/
def State.pwClose (s : State) (d : Nat) (forced : Bool) : State :=
  let t := (domainEps d).foldl (fun u e =>
    let i := portIx e
    if u.getR Reg.NOC_PSTATE i = 0 then (u.setR Reg.NOC_PSTATE i 1).setR Reg.PORT_FORCED i (bit forced)
    else if u.getR Reg.NOC_PSTATE i = 1 && forced then u.setR Reg.PORT_FORCED i 1
    else u) s
  (t.setR Reg.DSK_PSTATE d 1).pwTry d

/-- An off request (R655, R656). -/
def State.pwOff (s : State) (d : Nat) (slot : Bool) (entry : Option Nat) : State :=
  let t := if slot then s.slotStart d 1 else s
  if s.pstate d = 2 then (if slot then t.slotEnd d 1 2 else t)
  else if s.offReason d ≠ 0 then t.pwRefuse d (s.offReason d) slot entry
  else t.pwClose d false

/-- An on request waits for the power-down of its domain to end (R655). -/
def State.pwAwait (s : State) (d : Nat) (slot : Bool) (entry : Option Nat) : State :=
  let t := s.setR Reg.PW_WAKE d 1
  if slot then t else t.setR Reg.PW_WAKERS d (setBit (t.getR Reg.PW_WAKERS d) (entry.elim 0 (· + 1)))

/-- An on request (R655). -/
def State.pwOn (s : State) (d : Nat) (slot : Bool) (entry : Option Nat) : State :=
  let t := if slot then s.slotStart d 2 else s
  if s.pstate d = 0 then (if slot then t.slotEnd d 2 2 else t)
  else if s.thermal then t.pwRefuse d 5 slot entry
  else if s.forced d then t.pwRefuse d 6 slot entry
  else if s.pstate d = 2 then t.pwWake d
  else if s.pstate d = 1 then t.pwAwait d slot entry
  else t

/-- DSK_PWR_ON (R654 to R656). -/
def execDskPwrOn (dom : Fin 128) (req : BitVec 16) (s : State) : Result :=
  if !s.dskWriter req.toNat then .next (s.respond 0 2)
  else if s.getR Reg.DSK_PWR_STAT_STATE 0 = 1 then .next (s.respond 0 0)
  else .next (((s.respond 0 0).setR Reg.DSK_PWR_CTL_DOM 0 dom).pwOn dom true none)

/-- DSK_PWR_OFF (R654 to R656). -/
def execDskPwrOff (dom : Fin 128) (req : BitVec 16) (s : State) : Result :=
  if !s.dskWriter req.toNat then .next (s.respond 0 2)
  else if s.getR Reg.DSK_PWR_STAT_STATE 0 = 1 then .next (s.respond 0 0)
  else .next (((s.respond 0 0).setR Reg.DSK_PWR_CTL_DOM 0 dom).pwOff dom true none)

/-- DSK_PWR_ABORT (R38, R656): a wake cannot be aborted. -/
def execDskPwrAbort (req : BitVec 16) (s : State) : Result :=
  let d := s.getR Reg.DSK_PWR_STAT_DOM 0
  if !s.dskWriter req.toNat then .next (s.respond 0 2)
  else
    let t := s.respond 0 0
    if !s.slotOn d 1 then .next t
    else if s.flag Reg.PW_COMMIT d || s.forced d then .next (t.setR Reg.DSK_PWR_STAT_ABORT_LATE 0 1)
    else .next (t.pwAbort d)

/-- A port enters OFF (R216), with wake refused where the power-down was forced (R218); that of a region isolated for another cause CLOSED (R211); the power-down commits with the last of its ports. -/
def State.portOff (s : State) (e : Nat) : State :=
  let t := s.setR Reg.NOC_PSTATE (portIx e) 2
  let t := if s.flag Reg.PORT_FORCED (portIx e) then t.setR Reg.PORT_REFUSE (portIx e) 2 else t
  (match kindOf e with
  | .nap rg => t.napPort rg (t.region rg).causes
  | _ => t).pwTry (epDomain e)

/-- A packet is in progress on a port: past its router, or partly sent by its endpoint. -/
def State.portBusy (s : State) (e : Nat) : Bool :=
  s.noc.net.any (fun x => decide (x.place = .port e))
    || (match kindOf e with
      | .nap rg => !(s.region rg).tx.isEmpty
      | _ => false)

/-- PORT_QUIET_OFF (R216). -/
def execPortQuietOff (router : Fin 384) (port : Fin 32) (s : State) : Result :=
  let e := rtrEp router port
  s.when (decide (s.portState e = 1) && !s.portBusy e) (s.portOff e)

/-- A packet that a closing port's endpoint has sent in part is completed to its length with poisoned flits (R218). -/
def State.finishTx (s : State) (e : Nat) : State :=
  match kindOf e with
  | .nap rg => s.completeTx rg
  | _ => s

/-- FORCED_CLOSE_TIMEOUT (R218): a packet being delivered is cut, and a request among them is answered with STATUS 3; one being sent is completed. -/
def execForcedCloseTimeout (router : Fin 384) (port : Fin 32) (s : State) : Result :=
  let e := rtrEp router port
  let cut := s.noc.net.filter (fun x => decide (x.place = .port e))
  let t := (s.modNoc (fun n => { n with net := n.net.filter (fun x => !decide (x.place = .port e)) })).finishTx e
  let t := cut.foldl (fun u x => if isRequest x.pkt then u.answerAt router x.pkt 3 else u) t
  s.when (decide (s.portState e = 1) && s.flag Reg.PORT_FORCED (portIx e)) (t.portOff e)

/-- The wake timer's and the policy entries' on requests that waited for a power-down are refused (R655). -/
def State.refuseWakers (s : State) (d reason w : Nat) : State :=
  (List.range 64).foldl (fun u e => if nbit w (e + 1) then u.pwRefuse d reason false (some e) else u)
    (if nbit w 0 then s.pwRefuse d reason false none else s)

/-- The on requests that waited for the power-down are taken up (R655). -/
def State.pwWaiting (s : State) (d : Nat) : State :=
  let t := (s.setR Reg.PW_WAKE d 0).setR Reg.PW_WAKERS d 0
  if !s.flag Reg.PW_WAKE d then s
  else if s.thermal || s.forced d then
    let reason := if s.thermal then 5 else 6
    (if s.slotOn d 2 then t.pwRefuse d reason true none else t).refuseWakers d reason (s.getR Reg.PW_WAKERS d)
  else t.pwWake d

/-- POWER_REMOVED (R656). -/
def execPowerRemoved (dom : Fin 128) (s : State) : Result :=
  let d := dom.val
  s.when (decide (s.pstate d = 1) && s.flag Reg.PW_COMMIT d)
    (((((s.dropDomain d).setR Reg.DSK_PSTATE d 2).setR Reg.PW_COMMIT d 0).slotEnd d 1 2).raise duskEp 0x0B01 0 (dskDetail d) |>.pwWaiting d)

/-! ### Forced requests (R657) -/

/-- Ports of a domain no longer refuse wakes, and close with no force. -/
def State.liftPorts (s : State) (d : Nat) : State :=
  (domainEps d).foldl (fun u e => (u.setR Reg.PORT_REFUSE (portIx e) 0).setR Reg.PORT_FORCED (portIx e) 0) s

/-- A domain is forced off, by the key sequence (1) or a thermal stop (2) (R657, R673). -/
def State.forceOff (s : State) (d src : Nat) : State :=
  let t := (s.setR Reg.PW_FORCE d (s.getR Reg.PW_FORCE d ||| src)).setR Reg.DSK_PSTATE_FORCED d 1
  let t := (s.domContracts d [1, 2]).foldl (fun u id => (u.suspendBreach id).breach id 10 thymeEp 0 true true) t
  let t := if 105 ≤ d ∧ d < 125 then t.tioFault (d - 105) else t
  if s.pstate d = 2 then t
  else if s.pstate d = 3 then t.setR Reg.PW_FPEND d 1
  else if s.flag Reg.PW_COMMIT d then t
  else t.pwClose d true

/-- The force of a domain is lifted in part or whole. -/
def State.forceLift (s : State) (d src : Nat) : State :=
  let v := if nbit (s.getR Reg.PW_FORCE d) (src - 1) then s.getR Reg.PW_FORCE d - src else s.getR Reg.PW_FORCE d
  let t := (s.setR Reg.PW_FORCE d v).setR Reg.DSK_PSTATE_FORCED d (bit (decide (v ≠ 0)))
  if v = 0 then (t.setR Reg.PW_FPEND d 0).liftPorts d else t

/-- DSK_FORCE_KEY (R657). -/
def execDskForceKey (key : BitVec 16) (req : BitVec 16) (s : State) : Result :=
  if !s.dskWriter req.toNat then .next (s.respond 0 2)
  else
    let t := s.respond 0 0
    if s.keyStage 1 = 1 ∧ key = 0x0C5E then .next (t.keyAt 1 2 0)
    else if s.keyStage 1 = 0 ∧ key = 0xF0CE then .next (t.keyAt 1 1 req.toNat)
    else .next (t.keyIdle 1)

/-- DSK_FORCE_SET (R657): domain 127 and a BD core that may not go are refused (REASON 1 and 3). -/
def execDskForceSet (dom : Fin 128) (req : BitVec 16) (s : State) : Result :=
  let d := dom.val
  if !s.dskWriter req.toNat then .next (s.respond 0 2)
  else
    let t := (s.respond 0 0).keyIdle 1
    if s.keyStage 1 ≠ 2 then .next t
    else if d = 127 then .next (t.pwRefuse d 1 false none)
    else if decide (32 ≤ d) && decide (d < 36) && !s.coreMayGo (d - 32) then .next (t.pwRefuse d 3 false none)
    else .next ((t.raise duskEp 0x0B04 2 (dskDetail d)).forceOff d 1)

/-- DSK_FORCE_LIFT (R657). -/
def execDskForceLift (dom : Fin 128) (req : BitVec 16) (s : State) : Result :=
  if !s.dskWriter req.toNat then .next (s.respond 0 2)
  else
    let t := (s.respond 0 0).keyIdle 1
    .next (if s.keyStage 1 = 2 then t.forceLift dom 1 else t)

/-- FORCE_KEY_TIMEOUT (R657). -/
def execForceKeyTimeout (s : State) : Result := .next (s.keyTimeout 1)

/-! ### Sensors (R662 to R665) -/

/-- The median of three. -/
def median3 (a b c : Int) : Int := max (min a b) (min (max a b) c)

/-- One sensor's sample passes its filter (R663, R665). -/
def State.sensorStep (s : State) (i : Nat) (x : Int) : State :=
  let n := s.getR Reg.SENS_N i
  let v := if s.flag Reg.DSK_SENS_CFG_MED i && decide (2 ≤ n) then
      median3 x (signed 16 (s.getR Reg.SENS_R1 i)) (signed 16 (s.getR Reg.SENS_R2 i)) else x
  let y0 := signed 16 (s.getR Reg.DSK_SENS_VAL i)
  let y := if n = 0 then v else y0 + Int.fdiv (v - y0) (2 ^ s.getR Reg.DSK_SENS_CFG_K i)
  let hi := if n = 0 then y else max (signed 16 (s.getR Reg.DSK_SENS_HIST_MAX i)) y
  let lo := if n = 0 then y else min (signed 16 (s.getR Reg.DSK_SENS_HIST_MIN i)) y
  let t := (s.setR Reg.SENS_R2 i (s.getR Reg.SENS_R1 i)).setR Reg.SENS_R1 i (unsigned 16 x)
  let t := (t.setR Reg.SENS_N i (min 3 (n + 1))).setR Reg.DSK_SENS_VAL i (unsigned 16 y)
  (t.setR Reg.DSK_SENS_HIST_MAX i (unsigned 16 hi)).setR Reg.DSK_SENS_HIST_MIN i (unsigned 16 lo)

/-- The list with an element at its place in ascending order. -/
def insertInt (x : Int) : List Int → List Int
  | [] => [x]
  | y :: l => if x ≤ y then x :: y :: l else y :: insertInt x l

/-- A list in ascending order. -/
def sortInt (l : List Int) : List Int := l.foldl (fun a x => insertInt x a) []

/-- The raw readings of a die's thermal sensors. -/
def dieRaw (x : List Int) (d : Nat) : List Int := (List.range 16).map (fun j => (x[16 * d + j]?).getD 0)

/-- Twice the median of a die's raw readings: the eighth and ninth together (R663). -/
def dieMedian2 (x : List Int) (d : Nat) : Int :=
  let l := sortInt (dieRaw x d)
  (l[7]?).getD 0 + (l[8]?).getD 0

/-- A thermal sensor reads as faulty (R663). -/
def sensorBad (x : List Int) (i : Nat) : Bool :=
  let v := (x[i]?).getD 0
  decide (v < -640) || decide (2400 < v) || decide (640 < (2 * v - dieMedian2 x (i / 16)).natAbs)

/-- A thermal sensor's FAULT (R663): the event once per power-on. -/
def State.sensorFault (s : State) (x : List Int) (i : Nat) : State :=
  let bad := sensorBad x i
  let t := s.setR Reg.DSK_SENS_FAULT i (bit bad)
  if bad && !s.flag Reg.SENS_FEV i then
    (t.setR Reg.SENS_FEV i 1).raise duskEp 0x0B0D 2 (dskDetail 0 0 (i / 16) (unsigned 16 ((x[i]?).getD 0)) i)
  else t

/-- A die's zone temperature (R663, R664), in sixteenths of a degree. -/
def State.zoneOf (s : State) (d : Nat) : Int :=
  let l := ((List.range 16).filter (fun j => !s.flag Reg.DSK_SENS_FAULT (16 * d + j))).map (fun j => signed 16 (s.getR Reg.DSK_SENS_VAL (16 * d + j)))
  match l with
  | [] => 2400
  | v :: vs => vs.foldl max v

/-- The zone temperature shown for a die. -/
def State.zone (s : State) (d : Nat) : Int := signed 16 (s.getR Reg.DSK_ZTEMP_ZONE d)

/-- The governing temperature shown for a die (R664). -/
def State.gov (s : State) (d : Nat) : Int := signed 16 (s.getR Reg.DSK_ZTEMP_GOV d)

/-- A sampling pass: filters, faults, zones, governing temperatures. -/
def State.samplePass (s : State) (x : List Int) : State :=
  let t := (List.range 256).foldl (fun u i => u.sensorStep i ((x[i]?).getD 0)) s
  let t := (List.range 192).foldl (fun u i => u.sensorFault x i) t
  let t := (List.range 12).foldl (fun u d => u.setR Reg.DSK_ZTEMP_ZONE d (unsigned 16 (u.zoneOf d))) t
  (List.range 12).foldl (fun u d =>
    u.setR Reg.DSK_ZTEMP_GOV d (unsigned 16 (if d < 4 then u.zone d else max (u.zone d) (u.zone ((d - 4) / 2))))) t

/-! ### Throttling (R669, R670) -/

/-- A unit that can be throttled at all: a quadrant, a PGE/FCE pair, an MSP group. -/
def throttleUnit (d : Nat) : Bool := decide (d < 32) || (decide (73 ≤ d) && decide (d < 105))

/-- An endpoint is a rigid end of an admitted contract. -/
def State.rigidAt (s : State) (e : Nat) : Bool :=
  (s.admittedAt e).any (fun i => (decide (s.getR Reg.THY_CT_EP_SRC i = e) && s.flag Reg.THY_CT_CFG_RIGID_SRC i)
    || (decide (s.getR Reg.THY_CT_EP_DST i = e) && s.flag Reg.THY_CT_CFG_RIGID_DST i))

/-- The generators that clock a rigid NAP. -/
def State.rigidGens (s : State) : List Nat :=
  s.contractIds.flatMap (fun i =>
    ([(s.getR Reg.THY_CT_EP_SRC i, s.flag Reg.THY_CT_CFG_RIGID_SRC i), (s.getR Reg.THY_CT_EP_DST i, s.flag Reg.THY_CT_CFG_RIGID_DST i)].filterMap
      (fun e => if e.2 && decide (s.cstate i ≠ 4) then (match kindOf e.1 with
        | .nap rg => s.regionGen rg
        | _ => none) else none)))

/-- A unit is elastic enough to be throttled (R670). -/
def State.mayThrottle (s : State) (d : Nat) : Bool :=
  if d < 32 then !(s.quadGens d).any (fun g => s.rigidGens.contains g)
  else throttleUnit d && !(domainEps d).any (fun e => s.rigidAt e)

/-- The die whose governing temperature governs a unit. -/
def unitDie (d : Nat) : Nat := if d < 32 then 4 + d / 4 else if d < 89 then (d - 73) / 4 else (d - 89) / 4

/-- The level requested for a unit by policy entries. -/
def State.polLevel (s : State) (d : Nat) : Nat :=
  (List.range 64).foldl (fun m e =>
    if s.flag Reg.POL_ACTIVE e && decide (s.getR Reg.DSK_POL_ACT_KIND e = 1) && decide (s.getR Reg.DSK_POL_ACT_TARGET e = d)
    then max m (s.getR Reg.DSK_POL_ACT_LEVEL e) else m) 0

/-- The effective level of a unit (R669 to R671). -/
def State.thrWanted (s : State) (d : Nat) : Nat :=
  let auto := if s.flag Reg.DSK_THR_AUTO 0 && nbit (s.getR Reg.DSK_ZSTAT_WARN 0) (unitDie d) then 2 else 0
  let m := max (s.getR Reg.DSK_THRL_SW d) (max (s.polLevel d) auto)
  if throttleUnit d && s.mayThrottle d then m else 0

/-- THROTTLE_APPLY (R669). -/
def execThrottleApply (dom : Fin 128) (s : State) : Result :=
  let d := dom.val
  let v := s.thrWanted d
  s.when (throttleUnit d && decide (s.getR Reg.DSK_THRL d ≠ v))
    ((s.setR Reg.DSK_THRL d v).raise duskEp 0x0B0A 0 (dskDetail d 0 0 0 0 0 v))

/-! ### Alerts (R675) -/

/-- A KIND 4 entry of an alert is active. -/
def State.polAlert (s : State) (n : Nat) : Bool :=
  (List.range 64).any (fun e => s.flag Reg.POL_ACTIVE e && decide (s.getR Reg.DSK_POL_ACT_KIND e = 4)
    && decide (s.getR Reg.DSK_POL_ACT_TARGET e % 2 = n))

/-- The alerts, and the line they drive to the interrupt controller (R557, R675). -/
def State.alerts (s : State) : State :=
  let a := decide (s.getR Reg.DSK_ZSTAT_WARN 0 ≠ 0) || s.polAlert 0
  let b := s.thermal || s.polAlert 1
  ((s.setR Reg.ALERT 0 (bit a)).setR Reg.ALERT 1 (bit b)).irqLevel 9 (a || b)

/-! ### Thresholds (R671 to R674, R678) -/

/-- WARN as it acts, in degrees. -/
def State.thrWarn (s : State) : Nat := min 110 (s.getR Reg.DSK_THR_WARN 0)

/-- CRIT as it acts. -/
def State.thrCrit (s : State) : Nat := min 112 (max (s.thrWarn + 1) (s.getR Reg.DSK_THR_CRIT 0))

/-- HYST as it acts. -/
def State.thrHyst (s : State) : Nat := max 1 (s.getR Reg.DSK_THR_HYST 0)

/-- The domains of an orderly stop, in ascending order (R673). -/
def stopDomains : List Nat :=
  List.range 32 ++ (List.range 18).map (· + 54) ++ (List.range 52).map (· + 73)

/-- Every contract with a rigid endpoint is suspended (R250 cause 12, R673). -/
def State.criticalAlert (s : State) : State :=
  (s.contractIds.filter (fun i => (decide (s.cstate i = 1) || decide (s.cstate i = 2))
    && (s.flag Reg.THY_CT_CFG_RIGID_SRC i || s.flag Reg.THY_CT_CFG_RIGID_DST i))).foldl
      (fun u id => (u.suspendBreach id).breach id 12 thymeEp 0 true true) s

/-- A die reaches CRIT: the orderly stop (R673), each domain's force a forced power-down in full with its PWR_FORCED (R657). -/
def State.orderlyStop (s : State) (d : Nat) : State :=
  let t := (s.setR Reg.DSK_ZSTAT_CRIT 0 (setBit (s.getR Reg.DSK_ZSTAT_CRIT 0) d)).setR Reg.DSK_ZSTAT_THERM_STOP 0 1
  let t := (t.raise duskEp 0x0B07 3 (dskDetail 0 0 d (s.getR Reg.DSK_ZTEMP_GOV d))).criticalAlert
  stopDomains.foldl (fun u p => (if nbit (u.getR Reg.PW_FORCE p) 1 then u else u.raise duskEp 0x0B04 2 (dskDetail p)).forceOff p 2) t

/-- The thresholds of one die. -/
def State.thresholds (s : State) (d : Nat) : State :=
  let g := s.gov d
  let w := s.getR Reg.DSK_ZSTAT_WARN 0
  let temp := s.getR Reg.DSK_ZTEMP_GOV d
  let t :=
    if !nbit w d && decide ((16 * s.thrWarn : Nat) ≤ g) then
      (s.setR Reg.DSK_ZSTAT_WARN 0 (setBit w d)).raise duskEp 0x0B05 2 (dskDetail 0 0 d temp)
    else if nbit w d && decide (g < 16 * ((s.thrWarn : Int) - s.thrHyst)) then
      (s.setR Reg.DSK_ZSTAT_WARN 0 (clrBit w d)).raise duskEp 0x0B06 0 (dskDetail 0 0 d temp)
    else s
  let r := t.getR Reg.THERM_RNG 0
  let t :=
    if 1600 < s.zone d then
      (if nbit r d then t else (t.setR Reg.THERM_RNG 0 (setBit r d)).raise duskEp 0x0B09 3 (dskDetail 0 0 d (s.getR Reg.DSK_ZTEMP_ZONE d)))
    else t.setR Reg.THERM_RNG 0 (clrBit r d)
  let t := t.setR Reg.DSK_ZSTAT_RANGE 0 (bit (decide (t.getR Reg.THERM_RNG 0 ≠ 0)))
  if decide ((16 * s.thrCrit : Nat) ≤ g) && !nbit (t.getR Reg.DSK_ZSTAT_CRIT 0) d then t.orderlyStop d else t

/-- Power goes from a domain at once, with no port closing (R674). -/
def State.cutPower (s : State) (d : Nat) : State :=
  let t := (domainEps d).foldl (fun u e => if u.portState e < 2 then u.setR Reg.NOC_PSTATE (portIx e) 2 else u) s
  let t := if d < 32 then (quadRegions d).foldl (fun u rg =>
      let l := if (u.region rg).causes.contains 4 then (u.region rg).causes else 4 :: (u.region rg).causes
      (u.setCauses rg l).napPort rg l) t else t
  ((((t.dropDomain d).setR Reg.DSK_PSTATE d 2).setR Reg.PW_COMMIT d 0).setR Reg.PW_WAKE d 0).setR Reg.PW_WAKERS d 0

/-- THERMAL_TRIP (R674). -/
def execThermalTrip (s : State) : Result :=
  let t := ((s.setR Reg.DSK_ZSTAT_TRIP 0 1).setR Reg.TRIP_T 0 s.time.toNat).setR Reg.TRIP_OVER 0 0
  let t := (List.range 127).foldl (fun u d => u.cutPower d) t
  let t := if s.getR Reg.DSK_PWR_STAT_STATE 0 = 1 then (t.setR Reg.DSK_PWR_STAT_STATE 0 4).setR Reg.DSK_PWR_STAT_REASON 0 5 else t
  .next t.alerts

/-- After a trip every zone lies below WARN less 10 degrees: the device reset of R674 is due. -/
def State.tripCool (s : State) : Bool :=
  s.flag Reg.DSK_ZSTAT_TRIP 0 && !s.flag Reg.TRIP_OVER 0
    && (List.range 12).all (fun d => decide (s.zone d < 16 * ((s.thrWarn : Int) - 10)))

/-- THERM_STOP_CLEAR (R673, R678): the domains stay off, with their force lifted. -/
def execThermStopClear (req : BitVec 16) (s : State) : Result :=
  if !s.dskWriter req.toNat then .next (s.respond 0 2)
  else
    let t := s.respond 0 0
    if s.flag Reg.DSK_ZSTAT_THERM_STOP 0 && decide (s.getR Reg.DSK_ZSTAT_WARN 0 = 0)
        && (List.range 12).all (fun d => decide (s.zone d < (16 * s.thrWarn : Nat))) then
      let u := (t.setR Reg.DSK_ZSTAT_THERM_STOP 0 0).setR Reg.DSK_ZSTAT_CRIT 0 0
      .next ((stopDomains.foldl (fun v d => v.forceLift d 2) u).alerts)
    else .next t

/-! ### The policy engine (R667, R668) -/

/-- The value of a policy source; none for one that never holds. -/
def State.polValue (s : State) (src : Nat) : Option Int :=
  if src < 256 then some (signed 16 (s.getR Reg.DSK_SENS_VAL src))
  else if src < 268 then some (s.zone (src - 256))
  else if 272 ≤ src ∧ src < 280 then some (s.gov (4 + (src - 272)))
  else if 288 ≤ src ∧ src < 304 then some (s.getR Reg.DSK_ADC_CODE (src - 288) : Nat)
  else none

/-- An entry's comparison, with the hysteresis of an active one (R668). -/
def State.polHolds (s : State) (e : Nat) : Bool :=
  let th := signed 16 (s.getR Reg.DSK_POL_COND_THRESH e)
  let h : Int := (s.getR Reg.DSK_POL_ACT_HYST e : Nat)
  let was := s.flag Reg.POL_ACTIVE e
  if !s.flag Reg.DSK_POL_COND_EN e then false
  else match s.polValue (s.getR Reg.DSK_POL_COND_SRC e) with
    | none => false
    | some v =>
      match s.getR Reg.DSK_POL_COND_CMP e with
      | 0 => if was then !decide (v < th - h) else decide (th ≤ v)
      | 1 => if was then !decide (th + h < v) else decide (v < th)
      | _ => false

/-- What an entry does when it becomes active (R668). -/
def State.polAct (s : State) (e : Nat) : State :=
  let d := s.getR Reg.DSK_POL_ACT_TARGET e
  match s.getR Reg.DSK_POL_ACT_KIND e with
  | 1 =>
    if throttleUnit d && (s.mayThrottle d || decide (s.getR Reg.DSK_POL_ACT_LEVEL e = 0)) then s
    else s.raise duskEp 0x0B0B 2 (dskDetail d 0 0 0 0 e (s.getR Reg.DSK_POL_ACT_LEVEL e))
  | 2 => s.pwOff d false (some e)
  | 3 => s.pwOn d false (some e)
  | 5 => s.raise duskEp 0x0B0C 0 (dskDetail 0 0 0 0 0 e)
  | 6 => s.setR Reg.DUSK_INT 0 1
  | _ => s

/-- One entry is evaluated. -/
def State.polStep (s : State) (e : Nat) : State :=
  let now := s.polHolds e
  let t := s.setR Reg.POL_ACTIVE e (bit now)
  if now && !s.flag Reg.POL_ACTIVE e then t.polAct e else t

/-- All a sampling pass does but the reset that may follow a trip: sensors, thresholds, policies, alerts. -/
def State.sensorPass (s : State) (x : List Int) : State :=
  let t := s.samplePass x
  let t := (List.range 12).foldl (fun u d => u.thresholds d) t
  ((List.range 64).foldl (fun u e => u.polStep e) t).alerts

/-- What a conversion of a channel gives (R712): 0 for a pin whose effective function is not ANALOG. -/
def State.adcCode (s : State) (j code : Nat) : Nat := if s.getR Reg.SVP_PIN_CFG_EFUNC (48 + j) = 6 then code else 0

/-- ADC_CONVERSION (R666, R712): the next enabled channel, in round-robin order. -/
def execAdcConversion (code : BitVec 12) (s : State) : Result :=
  let at_ := s.getR Reg.ADC_NEXT 0
  match ((List.range 16).map (fun i => (at_ + i) % 16)).find? (fun j => nbit (s.getR Reg.DSK_ADC_CFG_EN 0) j) with
  | none => .next s
  | some j => .next ((s.setR Reg.DSK_ADC_CODE j (s.adcCode j code.toNat)).setR Reg.ADC_NEXT 0 ((j + 1) % 16))

/-- WAKE_TIMER_FIRE (R676). -/
def execWakeTimerFire (s : State) : Result :=
  s.when (s.flag Reg.DSK_WAKE_CTL_EN 0 && s.reached (s.getR Reg.DSK_WAKE_AT_AT 0) && !s.flag Reg.T_UNLOCK 0)
    ((s.setR Reg.DSK_WAKE_CTL_EN 0 0).pwOn (s.getR Reg.DSK_WAKE_CTL_DOM 0) false none)

/-! ### A woken domain resumes (R653, R656) -/

/-- What a domain that is no FD quadrant, no PCIe controller and not BD0's core does when it resumes. -/
def State.domResume (s : State) (d : Nat) (oscOk : Bool) : State :=
  if 36 ≤ d ∧ d < 52 then
    (if oscOk then (s.lpxReady (d - 36)).modLp (d - 36) (fun c => { c with powerDown := [] }) else s.lpxTrain (d - 36))
  else if d = 125 then (List.range 4).foldl (fun t n => (t.setR Reg.HART_RUN n 1).setR Reg.HART_PC n (s.getR Reg.CTL_BOOT_ADDR n)) s
  else if d = 126 then s.setR Reg.HART_RUN 4 1
  else s

/-- The ports of a domain open at its wake; a region's port follows its isolation. -/
def State.openPorts (s : State) (d : Nat) : State :=
  if d < 32 then (quadRegions d).foldl (fun u rg => if (u.region rg).causes.contains 4 then u.unisolate rg 4 else u) s
  else (domainEps d).foldl (fun u e => if u.portState e = 2 then u.setR Reg.NOC_PSTATE (portIx e) 0 else u) s

/-- A wake may end: a quadrant's releases are through OUTHOLD, and a base die has a neighbour to take its frame phase from (R653, R661). -/
def State.wakeReady (s : State) (d : Nat) : Bool :=
  decide (s.pstate d = 3)
    && (if d < 32 then !s.fab.rels.any (fun e => decide (e.2.done = 0) && e.2.regions.any (fun rg => decide (rgnDomain rg = d)))
        && (quadRegions d).all (fun rg => !nbit (s.getR Reg.FAB_RELP rg) 0) else true)
    && (if d = 33 ∨ d = 34 then decide (s.pstate 32 = 0) || decide (s.pstate 35 = 0)
      else if d = 35 then decide (s.pstate 33 = 0) || decide (s.pstate 34 = 0) else true)

/-- A wake ends: ports open, the slot's operation is DONE, PWR_DOMAIN_ON; a force that waited acts now. -/
def State.wakeEnd (s : State) (d : Nat) (oscOk : Bool) : State :=
  let t := ((s.setR Reg.DSK_PSTATE d 0).openPorts d).domResume d oscOk
  let t := ((t.slotEnd d 2 2).raise duskEp 0x0B02 0 (dskDetail d))
  if t.flag Reg.PW_FPEND d then (t.setR Reg.PW_FPEND d 0).pwClose d true else t

end Sys2Proof.Machine
end

