-- ==== Sys2Proof/Machine/ServicePins.lean ====
section
/-!
DEFINITION. Service pins (R703 to R719).
-/

namespace Sys2Proof.Machine

/-- SOURCE of the service pins' events (R719). -/
def svpEp : Nat := 0x2D48

/-- The pins that a column of R707 takes: 1 octal flash, 2 two octal devices, 3 quad flash. -/
def flashPin (column n : Nat) : Bool :=
  match column with
  | 1 => decide (n ≤ 10)
  | 2 => decide (n ≤ 19)
  | 3 => decide (n ≤ 1) || (decide (3 ≤ n) && decide (n ≤ 6))
  | _ => false

/-- A line of a port's window that its mode uses (R709). -/
def spLineUsed (mode off : Nat) : Bool := if mode = 2 ∨ mode = 3 then decide (off < 4) else decide (mode ≠ 0) && decide (off < 2)

/-- The serial ports that claim a pin, lowest first (R709). -/
def State.portClaims (s : State) (n : Nat) : List Nat :=
  ((List.range 4).map (fun i => n / 4 + 16 * i)).filter (fun p => decide ((s.sp p).route = 1) && spLineUsed (s.sp p).mode (n % 4))

/-- The code a serial port claims with. -/
def portCode (p : Nat) : Nat := if p < 32 then 3 else 4

/-- The software selection of a pin as it acts (R704, R705): ANALOG only on SV48 to SV63, IDLE before the first release. -/
def State.svpFunc (s : State) (n : Nat) : Nat :=
  let f := s.getR Reg.SVP_PIN_CFG_FUNC n
  if s.flag Reg.SVP_PRECFG 0 then 7
  else if f = 2 ∨ f = 5 ∨ (f = 6 ∧ 48 ≤ n) then f else 7

/-- A self-claim of Dawn or Dusk on a pin, by its code (R707, R708). -/
def State.hardClaim (s : State) (n : Nat) : Option Nat :=
  if flashPin (s.getR Reg.SVP_FLASH 0) n then some 0 else if n = 32 ∨ n = 33 then some 1 else none

/-- The effective function of a pin, and the serial port that has it (R706, R714). -/
def State.svpWinner (s : State) (n : Nat) : Nat × Option Nat :=
  match s.hardClaim n with
  | some c => (c, none)
  | none =>
    let f := s.svpFunc n
    if s.flag Reg.SVP_PIN_CFG_LOCKED n then (f, none)
    else match (s.portClaims n).head? with
      | some p => if portCode p < f then (portCode p, some p) else (f, none)
      | none => (f, none)

/-- A claim loses a pin: its flag sets, and SVP_CLAIM_CONFLICT is raised where it was clear (R706). -/
def State.svpLose (s : State) (f : Field) (b detail : Nat) : State :=
  if nbit (s.getR f 0) b then s else (s.setR f 0 (setBit (s.getR f 0) b)).raise svpEp 0x1001 2 detail

/-- The electrical fields of a pin as configured, bits [11:3] of its CFG register. -/
def State.svpElec (s : State) (n : Nat) : Nat :=
  s.getR Reg.SVP_PIN_CFG_THR n + s.getR Reg.SVP_PIN_CFG_HYS n * 2 + s.getR Reg.SVP_PIN_CFG_PULL n * 4 + s.getR Reg.SVP_PIN_CFG_DRIVE n * 16
    + s.getR Reg.SVP_PIN_CFG_SLEW n * 64 + s.getR Reg.SVP_PIN_CFG_OD n * 128 + s.getR Reg.SVP_PIN_CFG_WPOL n * 256

/-- The electrical fields of a pin that R704 holds: weak pull-down, input buffer on. -/
def svpIdleElec : Nat := 20

/-- The electrical fields that a pin has under a function: DRIVE 3 and SLEW 1 for Dawn's flash (R737), no pull and open drain for an alert (R708). -/
def State.svpFields (s : State) (n func : Nat) : Nat :=
  let e := s.svpElec n
  if func = 0 then e % 16 + 48 + 64 + e / 128 * 128
  else if func = 1 then e % 4 + e / 16 % 8 * 16 + 128 + e / 256 * 256
  else e

/-- The service-clock edge at a pin: arbitration over the present state, and the electrical fields (R706, R715); while BD0's core is off, ALERT and WAKE
pins keep what they have and the others are idle (R716). -/
def State.svpEdge (s : State) (n : Nat) : State :=
  if s.domOff 32 then
    let e := s.getR Reg.SVP_PIN_CFG_EFUNC n
    if e = 1 ∨ e = 5 then s else (s.setR Reg.SVP_PIN_CFG_EFUNC n 7).setR Reg.SVP_EL n svpIdleElec
  else
    let w := s.svpWinner n
    let t := (s.setR Reg.SVP_PIN_CFG_EFUNC n w.1).setR Reg.SVP_EL n
      (if s.flag Reg.SVP_PRECFG 0 && (s.hardClaim n).isNone && w.2.isNone then svpIdleElec else s.svpFields n w.1)
    let t := if s.svpFunc n ≠ w.1 then t.svpLose Reg.SVP_FUNC_LOST n (n + s.svpFunc n * 2 ^ 16) else t
    (s.portClaims n).foldl (fun u p =>
      if w.2 = some p then u else u.svpLose Reg.SVP_PORT_LOST p (n + p * 2 ^ 8 + 2 ^ 14 + portCode p * 2 ^ 16)) t

/-- SVP_FUNCTION_SWITCH (R706, R715). -/
def execSvpFunctionSwitch (n : Fin 64) (s : State) : Result := .next (s.svpEdge n)

/-- SVP_PIN_CFG_WRITE (R705, R714, R717). -/
def execSvpPinCfgWrite (n : Fin 64) (value : BitVec 32) (req : BitVec 16) (s : State) : Result :=
  let v := value.toNat
  if !isMgmt req.toNat then .next (s.respond 0 2)
  else if s.flag Reg.SVP_PIN_CFG_LOCKED n then .next (s.respond 0 0)
  else
    let f := v % 8
    let t := (s.respond 0 0).setR Reg.SVP_PIN_CFG_FUNC n (if f = 0 ∨ f = 1 ∨ f = 3 ∨ f = 4 then 7 else f)
    let t := ((t.setR Reg.SVP_PIN_CFG_THR n (v / 2 ^ 3)).setR Reg.SVP_PIN_CFG_HYS n (v / 2 ^ 4)).setR Reg.SVP_PIN_CFG_PULL n (v / 2 ^ 5)
    let t := ((t.setR Reg.SVP_PIN_CFG_DRIVE n (v / 2 ^ 7)).setR Reg.SVP_PIN_CFG_SLEW n (v / 2 ^ 9)).setR Reg.SVP_PIN_CFG_OD n (v / 2 ^ 10)
    .next (t.setR Reg.SVP_PIN_CFG_WPOL n (v / 2 ^ 11))

/-- The bits that a write of a LO (0), HI (1) or whole (2) register reaches. -/
def partMask (part : Fin 3) : Nat :=
  match part with
  | 0 => 2 ^ 32 - 1
  | 1 => 2 ^ 64 - 2 ^ 32
  | 2 => 2 ^ 64 - 1

/-- The value written, at its place in the 64 bits. -/
def partValue (part : Fin 3) (value : BitVec 64) : Nat :=
  match part with
  | 0 => value.toNat % 2 ^ 32
  | 1 => value.toNat % 2 ^ 32 * 2 ^ 32
  | 2 => value.toNat

/-- The pins a requester owns (R710). -/
def State.svpOwned (s : State) (req : Nat) : Nat :=
  (List.range 64).foldl (fun m n => if s.getR Reg.SVP_PIN_OWN_EP n = req then m + 2 ^ n else m) 0

/-- SVP_OUT_WRITE (R710). -/
def execSvpOutWrite (oe : Bool) (part : Fin 3) (value : BitVec 64) (req : BitVec 16) (s : State) : Result :=
  let f := if oe then Reg.SVP_OE else Reg.SVP_OUT
  let m := partMask part &&& s.svpOwned req.toNat
  .next ((s.setR f 0 ((s.getR f 0 &&& (2 ^ 64 - 1 - m)) ||| (partValue part value &&& m))).respond 0 0)

/-- SVP_LOCK_KEY (R713). -/
def execSvpLockKey (key : BitVec 16) (req : BitVec 16) (s : State) : Result :=
  let t := s.respond 0 0
  if s.keyStage 0 = 0 then .next (if key = 0x5A5A then t.keyAt 0 1 req.toNat else t)
  else if s.keyStage 0 = 1 ∧ key = 0xA5A5 ∧ s.getR Reg.KEY_REQ 0 = req.toNat then .next (t.keyAt 0 2 0)
  else .next (t.keyIdle 0)

/-- SVP_LOCK_SET (R713, R714). -/
def execSvpLockSet (part : Fin 3) (value : BitVec 64) (req : BitVec 16) (s : State) : Result :=
  let t := (s.respond 0 0).keyIdle 0
  if s.keyStage 0 = 2 ∧ s.getR Reg.KEY_REQ 0 = req.toNat then
    let m := partValue part value
    .next (((List.range 64).foldl (fun u n => if nbit m n then u.setR Reg.SVP_PIN_CFG_LOCKED n 1 else u) t).raise svpEp 0x1002 0
      (m + req.toNat * 2 ^ 112))
  else .next t

/-- SVP_LOCK_TIMEOUT (R713). -/
def execSvpLockTimeout (s : State) : Result := .next (s.keyTimeout 0)

/-- SVP_WAKE_EDGE (R711): an edge at a WAKE pin interrupts Dusk firmware where it is the selected one. -/
def execSvpWakeEdge (n : Fin 64) (rising : Bool) (s : State) : Result :=
  s.when (decide (s.getR Reg.SVP_PIN_CFG_EFUNC n = 5) && (nbit (s.getR Reg.SVP_EL n) 8 != rising)) (s.setR Reg.DUSK_INT 0 1)

/-- SP_ROUTE_APPLY (R138, R709): a written ROUTE takes effect while the port is not BUSY. -/
def execSpRouteApply (fd : Fin 8) (p : Fin 8) (s : State) : Result :=
  let i := per8 fd p
  s.when (!s.flag Reg.FAB_SP_STAT_BUSY i) (s.modSp i (fun q => { q with route := s.getR Reg.FAB_SP_CTL_ROUTE i }))

end Sys2Proof.Machine
end

