-- ==== Sys2Proof/Machine/UserNvm.lean ====
section
/-!
DEFINITION. The user NVM of a fabric die (R130 to R136).
-/

namespace Sys2Proof.Machine

/-- Change an FD's block, and PEND with its buffer. -/
def State.modNvm (s : State) (fd : Nat) (f : Nvm → Nvm) : State :=
  (s.modFab (fun b => { b with nvms := Map.set nvm0 b.nvms fd (f (s.nvm fd)) })).setR Reg.FAB_NVM_STAT_PEND fd
    (f (s.nvm fd)).buf.length

/-- A word nothing has written: 0, DESIGN CHOICE (notes/assumptions/87). -/
def nvmWord0 : NvmWord := ⟨0, none⟩

/-- A stored word. -/
def State.nvmWord (s : State) (fd a : Nat) : NvmWord := Map.get nvmWord0 s.fab.nvmWords (fd * 32768 + a)

/-- Store a word. -/
def State.putNvmWord (s : State) (fd a : Nat) (w : NvmWord) : State :=
  s.modFab (fun b => { b with nvmWords := Map.set nvmWord0 b.nvmWords (fd * 32768 + a) w })

/-- The latest buffered write of a word (R132). -/
def nvmBuffered (n : Nvm) (a : Nat) : Option (BitVec 64) :=
  (n.buf.reverse.find? (fun w => decide (w.addr = a))).map (fun w => w.data)

/-- An upset of a stored word. -/
def nvmUpset (w : NvmWord) : Option Upset → NvmWord
  | none => w
  | some (.single k) =>
    let d : BitVec 64 := if k < 64 then w.data ^^^ BitVec.ofNat 64 (2 ^ k) else w.data
    match w.mark with
    | none => ⟨d, some (.single k)⟩
    | some (.single j) => ⟨d, if j = k then none else some (.multi 0)⟩
    | some m => ⟨d, some m⟩
  | some (.multi f) => ⟨w.data ^^^ f, some (.multi 0)⟩
  | some .validParity => w

/-- The data of a stored word, a single-bit error corrected (R134). -/
def nvmData (w : NvmWord) : BitVec 64 :=
  match w.mark with
  | some (.single j) => if j < 64 then w.data ^^^ BitVec.ofNat 64 (2 ^ j) else w.data
  | _ => w.data

/-- A stored word cannot be corrected. -/
def nvmBad (w : NvmWord) : Bool :=
  match w.mark with
  | some (.multi _) => true
  | _ => false

/-- A read of a stored word: data, poison, and the event of R134. The block's window endpoint reports it. -/
def State.nvmRead (s : State) (fd a : Nat) (upset : Option Upset) : (BitVec 64 × Bool) × State :=
  match nvmBuffered (s.nvm fd) a with
  | some d => ((d, false), s)
  | none =>
    let w := nvmUpset (s.nvmWord fd a) upset
    let t := s.putNvmWord fd a w
    ((nvmData w, nvmBad w), if nvmBad w then t.raise (fdWinEp fd) 0x0122 4 (a + (4 + fd) * 2 ^ 16) else t)

/-- A word is write-protected (R135). -/
def State.nvmProtected (s : State) (fd a : Nat) : Bool := decide (a < min (s.getR Reg.FAB_NVM_WP_BOUND fd) 32768)

/-- The region that meets the user NVM port of a die (R125). -/
def nvmRegion (fd : Nat) : Nat := fd * 384 + 23

/-- A bank has a write in progress: the first one buffered for it. -/
def bankWrites (n : Nvm) (bank : Nat) : Bool := n.buf.any (fun w => decide (w.addr / 8192 = bank))

/-- A read is captured at an edge (R131); with its bank writing, it waits for the end of that write. -/
def State.nvmCapture (s : State) (fd a : Nat) : State :=
  s.modNvm fd (fun n => { n with reads := n.reads ++ [(a, bankWrites n (a / 8192))] })

/-- NVM_FABRIC_READ (R131): on an edge of the region's clock. -/
def execNvmFabricRead (fd : Fin 8) (addr : BitVec 15) (s : State) : Result :=
  s.when (s.regionClocked (nvmRegion fd)) (s.nvmCapture fd addr.toNat)

/-- NVM_READ_COMPLETE (R131, R134): reads complete in the order issued, one that waits for its bank not before the write has ended. -/
def execNvmReadComplete (fd : Fin 8) (upset : Option Upset) (s : State) : Result :=
  match (s.nvm fd).reads with
  | [] => .next s
  | (a, waits) :: rest =>
    let r := s.nvmRead fd a upset
    s.when (!waits && s.regionClocked (nvmRegion fd))
      (r.2.modNvm fd (fun n => { n with reads := rest, valid := true, rdata := r.1.1, poison := r.1.2 }))

/-- A fabric write is accepted while a buffer entry is free (R132, R136). -/
def State.nvmFabricWrite (s : State) (fd a : Nat) (data : BitVec 64) : State :=
  if 4 ≤ (s.nvm fd).buf.length then s
  else if s.nvmProtected fd a then (s.setR Reg.FAB_NVM_STAT_WP_HIT fd 1).modNvm fd (fun n => { n with werrDue := true })
  else s.modNvm fd (fun n => { n with buf := n.buf ++ [⟨a, data⟩] })

/-- NVM_FABRIC_WRITE (R132, R136): on an edge of the region's clock. -/
def execNvmFabricWrite (fd : Fin 8) (addr : BitVec 15) (data : BitVec 64) (s : State) : Result :=
  s.when (s.regionClocked (nvmRegion fd)) (s.nvmFabricWrite fd addr.toNat data)

/-- A register write enters the buffer (R132, R136): 32 bits merge into the corrected word. -/
def State.nvmRegEnter (s : State) (fd byteAddr : Nat) (wide : Bool) (data : BitVec 64) : State :=
  let a := byteAddr / 8 % 32768
  let old := (nvmBuffered (s.nvm fd) a).getD (nvmData (s.nvmWord fd a))
  let v := if wide then data
    else mergeBytes old (data <<< (byteAddr / 4 % 2 * 32)) (if byteAddr / 4 % 2 = 0 then 0x0F else 0xF0)
  if s.nvmProtected fd a then s.setR Reg.FAB_NVM_STAT_WP_HIT fd 1
  else s.modNvm fd (fun n => { n with buf := n.buf ++ [⟨a, v⟩] })

/-- A register write finds the buffer full, or another that stalls before it. -/
def State.nvmStalls (s : State) (fd : Nat) : Bool := decide (4 ≤ (s.nvm fd).buf.length) || !(s.nvm fd).stall.isEmpty

/-- A write through the register window (R132): answered once it is in the buffer. -/
def State.nvmRegWrite (s : State) (fd byteAddr : Nat) (wide : Bool) (data : BitVec 64) : State :=
  if s.nvmStalls fd then s.modNvm fd (fun n => { n with stall := n.stall ++ [⟨byteAddr, wide, data, none⟩] })
  else (s.nvmRegEnter fd byteAddr wide data).respond 0 0

/-- NVM_REGISTER_WRITE (R132). -/
def execNvmRegisterWrite (fd : Fin 8) (byteAddr : BitVec 18) (wide : Bool) (data : BitVec 64) (s : State) : Result :=
  .next (s.nvmRegWrite fd byteAddr.toNat wide data)

/-- The first register write that stalls takes a free entry, and its requester is answered. -/
def State.nvmUnstall (s : State) (fd : Nat) : State :=
  match (s.nvm fd).stall with
  | [] => s
  | w :: rest =>
    if 4 ≤ (s.nvm fd).buf.length then s
    else
      let t := (s.modNvm fd (fun n => { n with stall := rest })).nvmRegEnter fd w.byteAddr w.wide w.data
      match w.pkt with
      | none => t.respond 0 0
      | some p => t.injectAt (epRtr (fdWinEp fd)) (t.served p [])

/-- NVM_WRITE_DRAIN (R131 to R133): the first buffered write of a bank ends in the array, and reads that waited for it wait no more. The free entry goes to the fabric
port first: a register write that stalls takes it after the next edge of that port's region, or at once where that receives none. -/
def execNvmWriteDrain (fd : Fin 8) (bank : Fin 4) (s : State) : Result :=
  let n := s.nvm fd
  match n.buf.find? (fun w => decide (w.addr / 8192 = bank.val)) with
  | none => .next s
  | some w =>
    let t := (s.putNvmWord fd w.addr ⟨w.data, none⟩).modNvm fd (fun n => { n with
      buf := n.buf.erase w
      reads := n.reads.map (fun r => if r.1 / 8192 = bank.val then (r.1, false) else r) })
    .next (if s.regionClocked (nvmRegion fd) then t else t.nvmUnstall fd)

/-- An edge of the region that meets the port (R131, R132, R136): a register write that stalls has taken an entry that the fabric left at the edge before, the outputs move on,
and what the crossbar `was` presenting is captured; held outputs act as 0, DESIGN CHOICE (notes/assumptions/87). -/
def State.nvmEdge (s was : State) (fd : Nat) : State :=
  let rg := nvmRegion fd
  let a := was.presentedNum rg hardTo 15
  let live := was.outputsLive rg
  let t := (s.nvmUnstall fd).modNvm fd (fun n => { n with valid := false, werr := n.werrDue, werrDue := false })
  let t := if live && was.presented rg (hardTo + 15) then t.nvmCapture fd a else t
  if live && was.presented rg (hardTo + 16) then t.nvmFabricWrite fd a (BitVec.ofNat 64 (was.presentedNum rg (hardTo + 17) 64)) else t

/-- NVM_LOCK_KEY (R136). -/
def execNvmLockKey (fd : Fin 8) (key : BitVec 16) (req : BitVec 16) (s : State) : Result :=
  let q := 8 + fd.val
  if s.keyStage q = 1 then
    let t := s.keyIdle q
    .next (if key = 0xC3C3 then t.setR Reg.FAB_NVM_STAT_LOCKED fd 1 else t)
  else .next (if key = 0x3C3C then s.keyAt q 1 req.toNat else s)

/-- NVM_LOCK_TIMEOUT (R136). -/
def execNvmLockTimeout (fd : Fin 8) (s : State) : Result := .next (s.keyTimeout (8 + fd.val))

end Sys2Proof.Machine
end

