-- ==== Sys2Proof/Machine/BusRead.lean ====
section
/-!
DEFINITION. What an address of the register space names (R19 to R25), and what a read of a register shows and does
(R4 to R6).
-/

namespace Sys2Proof.Machine

/-! ### The word at an offset -/

/-- A part of a register word: element `elem` of a field, `bits` bits of it from bit `lo`, at bit `src` of the word. -/
structure Slot where
  field : Field
  elem : Nat
  lo : Nat
  src : Nat
  bits : Nat

/-- The parts of a field in the word at a byte offset of a page. -/
def Field.slotsAt (f : Field) (page o : Nat) : List Slot :=
  if o < f.off then []
  else match Field.locateDims f.dims (o - f.off) 0 with
    | none => []
    | some (i, r) =>
      (List.range f.bits.2).filterMap (fun j =>
        let p := f.lsb + f.bits.1 * j
        let w := 8 * r
        let lo := max p w
        let hi := min (p + f.width) (w + 32)
        if lo < hi then some ⟨f, page * f.perPage + i * f.bits.2 + j, lo - p, lo - w, hi - lo⟩ else none)

/-- The parts of a register word of a block's page. -/
def slotsOf (b : Blk) (page o : Nat) : List Slot := (Reg.ofBlk b).flatMap (fun f => f.slotsAt page o)

/-- The level of a service pin after its threshold (R710, R712, R708); the level of a pin that the device does not drive is the board's. -/
def State.svpLevel (s : State) (n : Nat) : Bool :=
  let free := nbit (Config.freeWord s.free).toNat n
  let e := s.getR Reg.SVP_PIN_CFG_EFUNC n
  let o := nbit (s.getR Reg.SVP_OUT 0) n
  if e = 6 then false
  else if e = 1 then !s.flag Reg.ALERT (n - 32) && free
  else if e = 2 ∧ nbit (s.getR Reg.SVP_OE 0) n = true ∧ (o && s.flag Reg.SVP_PIN_CFG_OD n) = false then o
  else free

/-- Mapped LPDDR5X in units of 256 MB (R502, R519). -/
def State.lpxMapped (s : State) : Nat :=
  if s.flag Reg.LPX_MAP_MODE 0 then (if s.lpxInterleaveOk then 16 * s.getR Reg.LPX_DEV_U 0 else 0)
  else ((List.range 16).filter s.lpxServes).foldl (fun n c => n + s.getR Reg.LPX_DEV_U c) 0

/-- Packets of the old epoch in a router (R222). -/
def State.oldCount (s : State) (r : Nat) : Nat :=
  min 255 ((s.noc.net.filter (fun e => decide (e.pkt.epoch ≠ s.epoch) && (match e.place with
    | .router q _ => decide (q = r)
    | .port d => decide (epRtr d = r)))).length + ((s.wakeBuf r).filter (fun p => decide (p.epoch ≠ s.epoch))).length)

/-- The generation of a die link: the lower of the two dies it joins (R44, R692, R693). -/
def State.linkGen (s : State) (page : Nat) : Nat :=
  let k := page / 8
  let p := page % 8
  min (s.getR Reg.DEV_DIEREV_LINKGEN k) (s.getR Reg.DEV_DIEREV_LINKGEN (if p = 0 then k ^^^ 1 else if p = 1 then k ^^^ 2 else 4 + 2 * k + (p - 2)))

/-- The value a field shows where the register store does not hold it; none for a field that it holds. -/
def State.computed (s : State) (f : Field) (i : Nat) : Option Nat :=
  if f.acc = .wo then some 0
  else if f.id = Reg.TBS_TIME_LO.id then some (s.time.toNat % 2 ^ 32)
  else if f.id = Reg.TBS_HOLD_FRAMES.id then some s.holdFrames
  else if f.id = Reg.TBS_SYNC_STAT_MASTER_ID.id then some (if s.role = 1 then s.getR Reg.DEV_SYSID_ID 0 else s.getR f 0)
  else if f.id = Reg.CTL_MTIME_T.id then some s.mtime
  else if f.id = Reg.CTL_WDT_STAT_COUNT.id then some (s.wdtCount i)
  else if f.id = Reg.DBG_SESS_LEVEL.id then some s.level
  else if f.id = Reg.PLIC_CLAIM.id then some (s.plicBest i)
  else if f.id = Reg.FAB_SP_STAT_BUSY.id then some (s.spBusy i)
  else if f.id = Reg.DLK_STAT_GEN.id then some (s.linkGen i)
  else if f.id = Reg.FAB_SP_DATA_BYTE.id then some (((s.sp i).rx.head?.map BitVec.toNat).getD 0)
  else if f.id = Reg.FAB_SP_DATA_EMPTY.id then some (bit (s.sp i).rx.isEmpty)
  else if f.id = Reg.NOC_EPOCH_INGRESS.id ∨ f.id = Reg.NOC_EPOCH_OLD_LIVE.id ∨ f.id = Reg.NOC_EPOCH_UPDATES.id then some (s.getR f 0)
  else if f.id = Reg.NOC_EPOCH_OLD_CNT.id then some (s.oldCount i)
  else if f.id = Reg.DCL_STR_STAT_NSLOTS.id then some (s.nslots i)
  else if f.id = Reg.DCL_STR_STAT_BOUND.id then some (bit (s.streamContract i).isSome)
  else if f.id = Reg.DCL_STR_STAT_CONTRACT.id then some ((s.streamContract i).getD 0)
  else if f.id = Reg.DCL_STR_CAP_BYTES.id then some (s.streamCap i)
  else if f.id = Reg.LNE_QREF_FREQ.id ∨ f.id = Reg.LNE_QREF_SSC.id then some (s.getR f (i / 2 * 2))
  else if f.id = Reg.LNE_TXEQ_POST.id then
    (if 16 ≤ i ∧ s.getR Reg.LNE_CFG_MODE i = 1 ∧ s.flag Reg.LNE_TXEQ_MANUAL i = false then some (s.taps (i - 16)).2.2 else none)
  else if f.id = Reg.PGE_FLAGS_F.id then some (s.pgeFlags i)
  else if f.id = Reg.PGE_SFLAG_CLR_F.id then some (s.getR Reg.PGE_SFLAG_SET_F i)
  else if f.id = Reg.MSP_CYCLES_COUNT.id then some (s.mspCount i)
  else if f.id = Reg.FCE_FLAGS_F.id then some (s.fceFlags i)
  else if f.id = Reg.FCE_TRACE_OCC.id then some (s.fcx i).trace.length
  else if f.id = Reg.LPX_DEV_U.id then
    some (if s.getR Reg.LPX_STAT_CSTATE i = 2 ∨ s.getR Reg.LPX_STAT_CSTATE i = 3 then s.getR f i else 0)
  else if f.id = Reg.LPX_MAP_MODE.id ∨ f.id = Reg.LPX_MAP_MAP_REJ.id then some (if i = 0 then s.getR f 0 else 0)
  else if f.id = Reg.LPX_MAP_TOTAL_U.id then some (if i = 0 then s.lpxMapped else 0)
  else if f.id = Reg.ECC_TRK_LIVE.id then some (s.trkLive i).length
  else if f.id = Reg.ECC_FMAP_USED.id then some s.fieldMapUsed
  else if f.id = Reg.ECC_SPARE_FREE.id then some (s.sparesFree i)
  else if f.id = Reg.SVP_IN.id then some ((List.range 64).foldl (fun v n => if s.svpLevel n then v + 2 ^ n else v) 0)
  else none

/-- The value a field shows to a read (R4). -/
def State.shown (s : State) (f : Field) (i : Nat) : Nat := f.norm ((s.computed f i).getD (s.getR f i))

/-- The die-link pages 4 to 7 and the MSP group registers outside the first page of a group are reserved (R693, R457). -/
def reservedAt (b : Blk) (page o : Nat) : Bool :=
  match b with
  | .dlk => decide (4 ≤ page % 8)
  | .msp => decide (0x8000 ≤ o) && decide (page % 8 ≠ 0)
  | _ => false

/-- The route-table word of R224: eight entries of four bits. -/
def State.routeWord (s : State) (r o : Nat) : Nat :=
  let bank := (o - 0x1000) / 0x400
  let w := (o - 0x1000) % 0x400 / 4
  (List.range 8).foldl (fun v i =>
    v + Map.get (dimRoute r (8 * w + i)) s.noc.routes (routeKey r bank (8 * w + i)) % 16 * 16 ^ i) 0

/-- A word of route tables. -/
def isRouteWord (b : Blk) (o : Nat) : Bool := decide (b = .rtr) && decide (0x1000 ≤ o) && decide (o < 0x1800) && decide (o % 0x400 < 0xC0)

/-- The word at an offset as a read with peek set shows it; reserved offsets and bits read 0 (R5). -/
def State.wordAt (s : State) (b : Blk) (page o : Nat) : Nat :=
  if reservedAt b page o then 0
  else if isRouteWord b o then s.routeWord page o
  else (slotsOf b page o).foldl (fun v x => v + s.shown x.field x.elem / 2 ^ x.lo % 2 ^ x.bits * 2 ^ x.src) 0

/-- A read with peek clear clears the RC counters of its word (R6). -/
def State.clearRc (s : State) (b : Blk) (page o : Nat) : State :=
  if reservedAt b page o then s
  else (slotsOf b page o).foldl (fun t x => if x.field.acc = .rc then t.setR x.field x.elem 0 else t) s

/-- What a meaning answers as a state; meanings of register commands always answer one. -/
def took (r : Result) (s : State) : State :=
  match r with
  | .next t => t
  | _ => s

/-- A stream has been begun and not verified yet: frame readback is refused meanwhile (R607). -/
def State.unverified (s : State) : Bool :=
  decide (s.getR Reg.DWN_STAT_STATE 0 = 1) && decide (1 ≤ s.getR Reg.DWN_STAT_PHASE 0) && decide (s.getR Reg.DWN_STAT_PHASE 0 ≤ 3)

/-- A word of the frame window (R607, R619): refused with STATUS 2 before a full configuration with RBK_OK 1 and ENC 0 has verified, while a stream is read and
verified, and below the debug level Full. -/
def State.frameWord (s : State) (w : Nat) : State :=
  if s.dawn.readable && !s.unverified && decide (s.level = 2) then
    s.respond (Map.get 0 s.dawn.frames (s.getR Reg.DWN_RBK_ADDR_FRAME 0) / 2 ^ (32 * w) % 2 ^ 32) 0
  else s.respond 0 2

/-- A 32-bit read of a register page: the answer, and what the read does where peek is clear. -/
def State.read32 (s : State) (b : Blk) (page o : Nat) (peek : Bool) : State :=
  if b = .tbs ∧ o = 0 then took (execTbsTimeLoRead peek s) s
  else if b = .dbg ∧ 0x9804 ≤ o ∧ o < 0x9884 ∧ o % 16 = 4 then took (execPlicClaim (Fin.ofNat 8 ((o - 0x9804) / 16)) peek s) s
  else if b = .sp ∧ o % 0x1000 = 8 then took (execSpDataPop (Fin.ofNat 8 page) (Fin.ofNat 8 (o / 0x1000)) peek s) s
  else if b = .dwn ∧ 0x1000 ≤ o ∧ o < 0x1200 then s.frameWord ((o - 0x1000) / 4)
  else
    let s := if b = .ro ∧ o < 0x100 ∧ o % 0x20 = 0xC then s.roBring (page * 8 + o / 0x20) else s
    let t := s.respond (s.wordAt b page o) 0
    let t := if (b = .svp ∧ (o = 0x210 ∨ o = 0x214)) ∨ (b = .sp ∧ o % 0x1000 = 0xC) then t.draw else t
    if peek then t else t.clearRc b page o

/-! ### Addresses (R19 to R24) -/

/-- What an address of the register space names. -/
inductive RegAddr where
  | page (b : Blk) (page off : Nat)
  | nvm (fd : Nat) (byte : Nat)
  | unmapped
deriving DecidableEq, Repr

/-- The pages of the package block (R20). -/
def pkgBlk (k : Nat) : Option Blk :=
  match k with
  | 0 => some .dev | 1 => some .tbs | 2 => some .dwn | 3 => some .sge | 4 => some .dsk | 5 => some .svp | 6 => some .dbg | 7 => some .pci
  | _ => none

/-- The page at an offset of a base die's window (R21). -/
def bdPage (k o : Nat) : RegAddr :=
  let p := o / 0x10000
  let r := o % 0x10000
  if p < 96 then .page .rtr (96 * k + p) r
  else if p < 0x64 then .page .pge (4 * k + (p - 0x60)) r
  else if p < 0x68 then .page .fce (4 * k + (p - 0x64)) r
  else if 0x70 ≤ p ∧ p < 0x90 then .page .msp (32 * k + (p - 0x70)) r
  else if 0x90 ≤ p ∧ p < 0x94 then .page .lpx (4 * k + (p - 0x90)) r
  else if 0xA0 ≤ p ∧ p < 0xAA then .page .lnq (10 * k + (p - 0xA0)) r
  else if 0xB0 ≤ p ∧ p < (if k = 0 then 0xB6 else 0xBA) then .page .dcl (if k = 0 then p - 0xB0 else 6 + 10 * (k - 1) + (p - 0xB0)) r
  else if 0xC0 ≤ p ∧ p < 0xC5 then .page .tio (5 * k + (p - 0xC0)) r
  else if p = 0xD0 then .page .spd k r
  else if p = 0xD1 then .page .ecc k r
  else if 0xE0 ≤ p ∧ p < 0xE8 then .page .dlk (8 * k + (p - 0xE0)) r
  else if p = 0xE8 then .page .mid k r
  else .unmapped

/-- The block at an offset of a fabric die's window (R22). -/
def fdBlock (k o : Nat) : RegAddr :=
  if o < 0x180000 then .page .rgn (384 * k + o / 0x1000) (o % 0x1000)
  else if o < 0x190000 then .page .cg k (o % 0x10000)
  else if o < 0x1A0000 then .page .ro k (o % 0x10000)
  else if o < 0x1B0000 then .page .nvmc k (o % 0x10000)
  else if o < 0x1B8000 then .page .sp k (o - 0x1B0000)
  else if 0x200000 ≤ o ∧ o < 0x240000 then .nvm k (o - 0x200000)
  else .unmapped

/-- What an address names. -/
def regAddr (a : Nat) : RegAddr :=
  if 0x6000000000 ≤ a ∧ a < 0x6000200000 then
    let o := a - 0x6000000000
    if 0x100000 ≤ o then .page .thy 0 (o - 0x100000)
    else match pkgBlk (o / 0x10000) with
      | some b => .page b 0 (o % 0x10000)
      | none => .unmapped
  else if 0x6100000000 ≤ a ∧ a < 0x6104000000 then bdPage ((a - 0x6100000000) / 0x1000000) (a % 0x1000000)
  else if 0x6200000000 ≤ a ∧ a < 0x6208000000 then fdBlock ((a - 0x6200000000) / 0x1000000) (a % 0x1000000)
  else .unmapped

/-- A register access to a page of a unit under test is a foreground access (R697). -/
def State.touchPage (s : State) (b : Blk) (page : Nat) : State :=
  match b with
  | .pge => s.touchPair page
  | .fce => s.touchPair page
  | .msp => s.touchGroup (page / 8)
  | .rgn => s.touchRegion page
  | _ => s

/-- A read of the user NVM's data window (R131, R134): `half` is the 32-bit half, none for the whole word. -/
def State.nvmWindow (s : State) (fd byte : Nat) (wide : Bool) : State :=
  let r := s.nvmRead fd (byte / 8) none
  let v := r.1.1.toNat
  r.2.respond (if wide then v else v / 2 ^ (8 * (byte % 8)) % 2 ^ 32) 0 r.1.2

/-- A register read (R23, R24): 32 bits, or 64 bits of two consecutive registers; `e` is the endpoint that answers. -/
def State.busRead (s : State) (e a : Nat) (wide peek : Bool) (req : Nat) : State :=
  if a % (if wide then 8 else 4) ≠ 0 then s.decodeError e a req
  else match regAddr a with
    | .unmapped => s.decodeError e a req
    | .nvm fd byte => s.nvmWindow fd byte wide
    | .page b page off =>
      let t := s.touchPage b page
      if !wide then t.read32 b page off peek
      else if b = .tbs ∧ off = 0 then t.respond t.time.toNat 0
      else
        let lo := t.read32 b page off peek
        let hi := lo.read32 b page (off + 4) peek
        hi.respond (lo.resp.data + hi.resp.data * 2 ^ 32) (max lo.resp.status hi.resp.status) (lo.resp.poison || hi.resp.poison)

/-- The endpoint that answers for a register address: the page's or the window's. -/
def regEp (a : Nat) : Nat :=
  if 0x6100000000 ≤ a ∧ a < 0x6104000000 then bdWinEp ((a - 0x6100000000) / 0x1000000)
  else if 0x6200000000 ≤ a ∧ a < 0x6208000000 then fdWinEp ((a - 0x6200000000) / 0x1000000)
  else if 0x6000100000 ≤ a ∧ a < 0x6000200000 then thymeEp
  else pkgEp

/-- COUNTER_CLEARING_READ (R4 to R6, R23, R24): a read of a register. -/
def execCounterClearingRead (addr : BitVec 48) (wide : Bool) (peek : Bool) (req : BitVec 16) (s : State) : Result :=
  .next ((s.busRead (regEp addr.toNat) addr.toNat wide peek req.toNat).coreTakes req.toNat addr.toNat false)

/-- DWN_RBK_READ (R619): a read of the frame window. -/
def execDwnRbkRead (word : Fin 128) (req : BitVec 16) (s : State) : Result :=
  .next (s.busRead pkgEp (0x6000021000 + 4 * word.val) false false req.toNat)

end Sys2Proof.Machine
end

