-- ==== Sys2Proof/Machine/Collector.lean ====
section
/-!
DEFINITION. The event collector's own request: it writes a record of 32 bytes into the ring, wherever BASE puts the ring (R24, R29, R30).
-/

namespace Sys2Proof.Machine

/-- Store a record at WP and move WP on (R29, R30); none while the memory makes the record wait. -/
def State.ringStore (s : State) (source code : Nat) (r : EventRec) : Option State :=
  (s.agentPut collectorEp (s.getR Reg.DEV_RING_BASE 0 + 32 * s.getR Reg.DEV_RING_WP 0) 32 (eventBytes source code r)).map (fun t =>
    t.setR Reg.DEV_RING_WP 0 ((s.getR Reg.DEV_RING_WP 0 + 1) % 2 ^ s.ringLog))

/-- The collector writes one pending record, or discards it (R30); a record that must wait for the memory stays pending. -/
def State.recordWrite (s : State) (source code : Nat) : State :=
  match Map.find s.events (evKey source code) with
  | none => s
  | some r =>
    let t := (s.dropEvent (evKey source code)).urgent r.severity
    if s.ringRefuses then t.ringDiscard else (t.ringStore source code r).getD s

/-- EVENT_RECORD_WRITE (R30). -/
def execEventRecordWrite (source : BitVec 16) (code : BitVec 16) (s : State) : Result :=
  .next (s.recordWrite source.toNat code.toNat)

/-- EVENT_RING_OVF_CLEAR (R30): a write of 1 to OVF; `discarded` names a record that the collector discards in the same cycle, when the
set wins (R7). -/
def execEventRingOvfClear (discarded : Option (BitVec 16 × BitVec 16)) (s : State) : Result :=
  match discarded with
  | some (a, c) =>
    if s.ringRefuses && (Map.find s.events (evKey a.toNat c.toNat)).isSome then .next (s.recordWrite a.toNat c.toNat)
    else .next ((s.setR Reg.DEV_RING_OVF 0 0).setR Reg.DEV_RING_DROPS 0 0)
  | none => .next ((s.setR Reg.DEV_RING_OVF 0 0).setR Reg.DEV_RING_DROPS 0 0)

end Sys2Proof.Machine
end

