-- ==== Sys2Proof/Machine/Midnight.lean ====
section
/-!
DEFINITION. Midnight, the in-service self-test (R695 to R702).
-/

namespace Sys2Proof.Machine

/-- A unit exists (R696, R701). -/
def midUnit (bd cls index : Nat) : Bool :=
  match cls with
  | 0 => decide (index < 768)
  | 1 => decide (index < 4)
  | 2 => decide (index < 4)
  | 3 => decide (index < 64)
  | 4 => decide (index < 384) && (neighbour (bd * 96 + index / 4) (index % 4)).isSome
  | 5 => decide (index < 40)
  | _ => false

/-- The region of a class 0 unit. -/
def midRegion (bd index : Nat) : Nat := bd * 768 + index

/-- The power domain of a unit. -/
def midDomain (bd cls index : Nat) : Nat :=
  match cls with
  | 0 => rgnDomain (midRegion bd index)
  | 1 => 73 + 4 * bd + index
  | 2 => 89 + 4 * bd + index
  | 5 => 52 + (10 * bd + index / 4) / 2
  | _ => 32 + bd

/-- A state in which an engine does nothing (R696): not BUSY, not RUNNING. -/
def restState (v : Nat) : Bool := decide (v ≠ 1) && decide (v ≠ 5)

/-- A state in which a fail-capture engine does nothing (R388, R696): not BUSY, CAPTURING or ANALYSING. -/
def fceRests (v : Nat) : Bool := restState v && decide (v ≠ 6)

/-- The endpoints of a pair or a group. -/
def midEps (bd cls index : Nat) : List Nat :=
  if cls = 1 then [ep bd (24 * index) 8, ep bd (24 * index) 9] else [ep bd (24 * index) 11]

/-- No contract that is not FREE has an endpoint at a pair or a group. -/
def State.midFree (s : State) (bd cls index : Nat) : Bool := (midEps bd cls index).all (fun e => (s.contractsAt e).isEmpty)

/-- The engines of a pair, or the members of a group, rest. -/
def State.midRests (s : State) (bd cls index : Nat) : Bool :=
  let n := 4 * bd + index
  if cls = 1 then restState (s.getR Reg.PGE_STAT_STATE n) && fceRests (s.getR Reg.FCE_STAT_STATE n)
  else (List.range 8).all (fun i => restState (s.getR Reg.MSP_STAT_STATE (8 * n + i)))

/-- A lane's slot maps name a slot. -/
def State.laneMapped (s : State) (lane : Nat) : Bool :=
  let l := lane - 16
  (List.range 32).any (fun j => s.flag Reg.DCL_TXMAP_V0 (l * 32 + j) || s.flag Reg.DCL_TXMAP_V1 (l * 32 + j)
    || s.flag Reg.DCL_RXMAP_V0 (l * 32 + j) || s.flag Reg.DCL_RXMAP_V1 (l * 32 + j))

/-- A unit is eligible (R696); that an engine has rested for 1 ms is the time the command comes at. -/
def State.midEligible (s : State) (bd cls index : Nat) : Bool :=
  midUnit bd cls index && decide (s.pstate (midDomain bd cls index) = 0) && !s.midHolds bd cls index
    && (match cls with
      | 0 =>
        let rg := midRegion bd index
        (s.region rg).causes.contains 5 && decide (s.getR Reg.DWN_STAT_STATE 0 ≠ 1) && !s.fab.rels.any (fun e => e.2.regions.contains rg)
      | 1 => s.midRests bd 1 index && s.midFree bd 1 index
      | 2 => s.midRests bd 2 index && s.midFree bd 2 index
      | 3 =>
        let b := bd * 64 + index
        decide (96 ≤ epRouter (s.getR Reg.SPD_OWN_EP b)) && decide (s.getR Reg.SPD_OWN_STATE b ≠ 1) && !s.chip.sweeps.contains (unitNo 0 bd index)
      | 4 => true
      | _ =>
        let lane := 40 * bd + index
        (s.laneRaw lane && s.flag Reg.LNE_STAT_CDR_LOCK lane)
          || (decide (16 ≤ lane) && decide (s.getR Reg.LNE_CFG_MODE lane = 1) && decide (s.getR Reg.DCL_STAT_LSTATE (lane - 16) = 6) && !s.laneMapped lane))

/-- Midnight takes a unit. -/
def State.midTake (s : State) (bd cls index : Nat) (req : Bool) : State := s.modMid (fun l => l ++ [⟨bd, cls, index, req, false⟩])

/-- The unit named in MID_REQ_UNIT. -/
def State.midAsked (s : State) (bd : Nat) : Nat × Nat := (s.getR Reg.MID_REQ_UNIT_CLASS bd, s.getR Reg.MID_REQ_UNIT_INDEX bd)

/-- A requested test runs. -/
def State.midTaken (s : State) (bd : Nat) : Bool := s.mid.any (fun t => decide (t.bd = bd) && t.req && !t.ended)

/-- A request ends without a test. -/
def State.midEnd (s : State) (bd st result : Nat) : State := (s.setR Reg.MID_REQ_STAT_STATE bd st).setR Reg.MID_REQ_STAT_RESULT bd result

/-- A request is deferred (2) or refused (3) (R699, R702). -/
def State.midDefer (s : State) (bd result : Nat) : State :=
  (s.midEnd bd 4 result).raise (bdWinEp bd) 0x0C12 2 (midDetail (s.midAsked bd).1 (s.midAsked bd).2 result)

/-- MID_AUTO_TEST (R698): an automatic test of an eligible unit. -/
def execMidAutoTest (bd : Fin 4) (cls : Fin 6) (index : Nat) (s : State) : Result :=
  s.when (nbit (s.getR Reg.MID_AUTO_CLASSES bd) cls && s.midEligible bd cls index) (s.midTake bd cls index false)

/-- MID_REQ_GO (R699, R701): a write of MID_REQ_CTL with GO at 1, and its FORCE bit. -/
def execMidReqGo (bd : Fin 4) (force : Bool) (req : BitVec 16) (s : State) : Result :=
  if !isMgmt req.toNat then .next (s.respond 0 2)
  else
    let t := (s.setR Reg.MID_REQ_CTL_FORCE bd (bit force)).respond 0 0
    let u := s.midAsked bd
    if s.getR Reg.MID_REQ_STAT_STATE bd = 1 then .next t
    else
      let t := t.setR Reg.MID_REQ_STAT_ABORT_LATE bd 0
      if midUnit bd u.1 u.2 then .next (t.midEnd bd 1 0) else .next (t.midEnd bd 4 5)

/-- MID_REQ_ABORT (R699): the commit point is where Midnight takes the unit. -/
def execMidReqAbort (bd : Fin 4) (req : BitVec 16) (s : State) : Result :=
  if !isMgmt req.toNat then .next (s.respond 0 2)
  else
    let t := s.respond 0 0
    if s.getR Reg.MID_REQ_STAT_STATE bd ≠ 1 then .next t
    else if s.midTaken bd then .next (t.setR Reg.MID_REQ_STAT_ABORT_LATE bd 1)
    else .next (t.setR Reg.MID_REQ_STAT_STATE bd 3)

/-- A forced pair or group goes offline: SRST of both engines (R361, R392), or of every member (R458). -/
def State.midOffline (s : State) (cls n : Nat) : State :=
  if cls = 1 then
    let t := (((s.pgeClear n).pgeSt n 0).setR Reg.PGE_VT_T n 0).setR Reg.PGE_PC_PC n 0
    (t.fceSt n 0).modFcx n (fun k => { k with buf := [], trace := [] })
  else (List.range 8).foldl (fun t i => t.mspSrst (8 * n + i)) s

/-- MID_DEADLINE (R699): the deadline has come and the unit is not taken. -/
def execMidDeadline (bd : Fin 4) (s : State) : Result :=
  let u := s.midAsked bd
  let late := decide (s.getR Reg.MID_REQ_STAT_STATE bd = 1) && !s.midTaken bd && !s.midEligible bd u.1 u.2 && s.due (s.getR Reg.MID_REQ_DL_T bd)
  if !late then .next s
  else if !s.flag Reg.MID_REQ_CTL_FORCE bd || decide (s.pstate (midDomain bd u.1 u.2) ≠ 0) then .next (s.midDefer bd 2)
  else if u.1 = 1 ∨ u.1 = 2 then
    if s.midHolds bd u.1 u.2 then .next s
    else if s.midFree bd u.1 u.2 then .next ((s.midOffline u.1 (4 * bd + u.2)).midTake bd u.1 u.2 true)
    else .next (s.midDefer bd 3)
  else if u.1 = 3 then
    let b := bd.val * 64 + u.2
    if s.getR Reg.SPD_OWN_STATE b = 1 ∨ 96 ≤ epRouter (s.getR Reg.SPD_OWN_EP b) then .next s
    else .next (((s.setR Reg.SPD_NEWEP b 0xFFFC).setR Reg.SPD_OWN_STATE b 1).setR Reg.SPD_OWN_ABORT_LATE b 0)
  else .next (s.midDefer bd 2)

/-- MID_TEST_START (R699): Midnight takes the requested unit. -/
def execMidTestStart (bd : Fin 4) (s : State) : Result :=
  let u := s.midAsked bd
  s.when (decide (s.getR Reg.MID_REQ_STAT_STATE bd = 1) && !s.midTaken bd && s.midEligible bd u.1 u.2) (s.midTake bd u.1 u.2 true)

/-- What a failing unit leaves (R700). -/
def State.midFault (s : State) (bd cls index : Nat) : State :=
  let t := match cls with
    | 0 => s.satAdd Reg.MID_FAULTY_REGIONS bd 1
    | 1 => s.setR Reg.MID_FAULTY_PAIR bd (setBit (s.getR Reg.MID_FAULTY_PAIR bd) index)
    | _ => s.setR Reg.MID_FAULTY_GROUP bd (setBit (s.getR Reg.MID_FAULTY_GROUP bd) index)
  t.raise (bdWinEp bd) 0x0C11 4 (midDetail cls index 1)

/-- MID_TEST_END (R475, R699, R700): the test of a bank ends behind the bank's repairs and remaps; the test's result, for class 3 the rows with a failing word, for class 5 the eye found. -/
def execMidTestEnd (bd : Fin 4) (cls : Fin 6) (index : Nat) (fail : Bool) (detail : BitVec 32) (rows : List Nat) (height : BitVec 8)
    (width : BitVec 8) (s : State) : Result :=
  match s.mid.find? (fun t => ofUnit bd cls index t && !t.ended) with
  | none => .next s
  | some x =>
    if cls.val = 3 ∧ s.repairsFirst (unitNo 0 bd index) = true then .next s
    else
    let bad := fail || (decide (cls.val = 3) && !rows.isEmpty)
    let t := (s.modMid (fun l => l.filter (fun y => !ofUnit bd cls index y))).wrapAdd Reg.MID_CLASS_TESTED (bd * 6 + cls) 1
    let t := if bad then t.satAdd Reg.MID_CLASS_FAILS (bd * 6 + cls) 1 else t
    let t := if x.req then (t.midEnd bd 2 (bit bad)).setR Reg.MID_REQ_DETAIL_V bd detail.toNat else t
    let t := if bad then t else t.raise (bdWinEp bd) 0x0C10 0 (midDetail cls index 0)
    if cls.val = 3 then
      .next ((rows.foldl (fun u r => if r < unitWords (unitNo 0 bd index) / 16 then u.suspectRow (unitNo 0 bd index) r else u) t).invalidate (unitNo 0 bd index))
    else if cls.val = 5 then
      .next ((t.setR Reg.LNE_EYE_HEIGHT (40 * bd + index) height.toNat).setR Reg.LNE_EYE_WIDTH (40 * bd + index) width.toNat)
    else if cls.val < 3 ∧ bad then .next (t.midFault bd cls index)
    else .next t

/-- MID_UNIT_RELEASED (R697, R471): an interrupted unit is restored; a bank is invalidated. -/
def execMidUnitReleased (bd : Fin 4) (cls : Fin 6) (index : Nat) (s : State) : Result :=
  if s.mid.any (fun t => ofUnit bd cls index t && t.ended) then
    let t := s.modMid (fun l => l.filter (fun y => !ofUnit bd cls index y))
    .next (if cls.val = 3 then t.invalidate (unitNo 0 bd index) else t)
  else .next s

end Sys2Proof.Machine
end

