-- ==== Sys2Proof/Machine/Security.lean ====
section
/-!
DEFINITION. Sage: nonces, signed commands, lifecycle (R628 to R650), and the SPDM responder (R540 to R543).
-/

namespace Sys2Proof.Machine

/-! ### Nonces (R643) -/

/-- A held nonce lapses. -/
def State.nonceDrop (s : State) : State := (s.setR Reg.SGE_NONCE_STAT_VALID 0 0).setR Reg.SGE_NONCE_V 0 0

/-- SGE_NONCE_NEW (R643): any earlier nonce is void. -/
def execSgeNonceNew (req : BitVec 16) (s : State) : Result :=
  if !isMgmt req.toNat then .next (s.respond 0 2)
  else .next (((s.nonceDrop.setR Reg.SGE_NONCE_STAT_BUSY 0 1).respond 0 0).modSage (fun g =>
    { g with cmd := g.cmd.map (fun c => { c with facts := { c.facts with nonce := false } }) }))

/-- SGE_NONCE_READY (R643): 32 random bytes, a free value. -/
def execSgeNonceReady (s : State) : Result :=
  s.when (s.flag Reg.SGE_NONCE_STAT_BUSY 0)
    ((((s.setR Reg.SGE_NONCE_STAT_BUSY 0 0).setR Reg.SGE_NONCE_STAT_VALID 0 1).setR Reg.SGE_NONCE_V 0 (Config.freeNonce s.free).toNat).draw)

/-! ### Signed commands (R641 to R647) -/

/-- The live slots as a mask: VALID and not REVOKED, with the key store in place (R631). -/
def State.liveMask (s : State) : Nat :=
  if s.sage.store then s.getR Reg.SGE_LCS_VALID 0 &&& (15 - s.getR Reg.SGE_LCS_REVOKED 0) else 0

/-- SGE_LCS.LIVE after a change. -/
def State.showLive (s : State) : State := s.setR Reg.SGE_LCS_LIVE 0 s.liveMask

/-- PLIC source 8: Sage signals it at the end of a command (R649). -/
def State.sageSignal (s : State) : State := (s.irqLevel 8 true).setR Reg.PLIC_LEVEL 8 0

/-- DETAIL of Sage's events (R650). -/
def sageDetail (code op : Nat) (slot lcs : Nat := 0) : Nat :=
  code % 256 + op % 256 * 2 ^ 8 + slot % 16 * 2 ^ 16 + lcs % 4 * 2 ^ 20

/-- A GO that a write of SGE_CMD_CTL gives (R644): Sage is BUSY, and has the command still to read. -/
def State.sageStart (s : State) : State :=
  if s.getR Reg.SGE_CMD_STAT_STATE 0 = 1 then s
  else ((((s.setR Reg.SGE_CMD_STAT_STATE 0 1).setR Reg.SGE_CMD_STAT_ABORT_LATE 0 0).setR Reg.SGE_CMD_STAT_CODE 0 0).setR Reg.SGE_CMD_STAT_OP 0 0).setR
    Reg.SGE_GOING 0 1

/-- A GO of a command (R644), or the reading of one whose GO a register write gave. -/
def State.sageGo (s : State) (op : Nat) (f : CmdFacts) (req : Nat) : Result :=
  if !isMgmt req then .next (s.respond 0 2)
  else
    let t := s.respond 0 0
    if s.getR Reg.SGE_CMD_STAT_STATE 0 = 1 ∧ s.flag Reg.SGE_GOING 0 = false then .next t
    else
      .next ((((((t.setR Reg.SGE_CMD_STAT_STATE 0 1).setR Reg.SGE_CMD_STAT_ABORT_LATE 0 0).setR Reg.SGE_CMD_STAT_CODE 0 0).setR
        Reg.SGE_CMD_STAT_OP 0 op).setR Reg.SGE_GOING 0 0).modSage (fun g => { g with cmd := some ⟨op, f⟩ }))

/-- SGE_GENKEY (R634, R642). -/
def execSgeGenkey (f : CmdFacts) (req : BitVec 16) (s : State) : Result := s.sageGo 1 f req.toNat

/-- SGE_PROVISION (R642). -/
def execSgeProvision (f : CmdFacts) (req : BitVec 16) (s : State) : Result := s.sageGo 2 f req.toNat

/-- SGE_ENROLL (R642, R645). -/
def execSgeEnroll (f : CmdFacts) (req : BitVec 16) (s : State) : Result := s.sageGo 3 f req.toNat

/-- SGE_ADD_SLOT (R642). -/
def execSgeAddSlot (f : CmdFacts) (req : BitVec 16) (s : State) : Result := s.sageGo 4 f req.toNat

/-- SGE_REVOKE (R642, R647). -/
def execSgeRevoke (f : CmdFacts) (req : BitVec 16) (s : State) : Result := s.sageGo 5 f req.toNat

/-- SGE_SET_OSK (R640, R642). -/
def execSgeSetOsk (f : CmdFacts) (req : BitVec 16) (s : State) : Result := s.sageGo 6 f req.toNat

/-- SGE_SET_LEGACY (R642). -/
def execSgeSetLegacy (f : CmdFacts) (req : BitVec 16) (s : State) : Result := s.sageGo 7 f req.toNat

/-- SGE_RETIRE (R642, R646). -/
def execSgeRetire (f : CmdFacts) (req : BitVec 16) (s : State) : Result := s.sageGo 8 f req.toNat

/-- The slot a command concerns: its payload's, or the KEYSEL of SET_OSK; ENROLL concerns slot 0. -/
def cmdSlot (c : SageCmd) : Nat :=
  if c.op = 4 ∨ c.op = 5 then c.facts.slot.toNat else if c.op = 6 then c.facts.keysel.val else 0

/-- A command's KEYSEL names a key that its kind can have: the Derfibo key for GENKEY and PROVISION, a slot for ADD_SLOT to SET_LEGACY, either for RETIRE;
ENROLL ignores it (R641, R642). -/
def keyselOk (op k : Nat) : Bool :=
  if op = 1 ∨ op = 2 then decide (k = 15)
  else if op = 3 then true
  else if op = 8 then decide (k < 4) || decide (k = 15)
  else decide (k < 4)

/-- The lifecycle state in which a command is permitted, with its key (R630, R642). -/
def State.cmdPermitted (s : State) (op k : Nat) : Bool :=
  let st := s.getR Reg.SGE_LCS_STATE 0
  if op = 1 ∨ op = 2 then decide (st = 0)
  else if op = 3 then decide (st = 1)
  else if op = 8 then (decide (st = 1) && decide (k = 15)) || (decide (st = 2) && decide (k < 4))
  else decide (st = 2)

/-- The code of the first check that a command fails, 0 where it passes all (R644). -/
def State.cmdCode (s : State) (c : SageCmd) : Nat :=
  let f := c.facts
  let k := f.keysel.val
  let slot := cmdSlot c
  if !f.read then 12
  else if !f.formed || !keyselOk c.op k || decide (4 ≤ slot) || (decide (c.op = 2) && !s.sage.keys) then 1
  else if !f.serial then 2
  else if !f.nonce || !s.flag Reg.SGE_NONCE_STAT_VALID 0 then 3
  else if decide (c.op ≠ 3) && decide (k < 4) && !(nbit s.liveMask k && f.hashed) then 4
  else if !f.rsa then 5
  else if !f.slh then 6
  else if !s.cmdPermitted c.op k then 8
  else if decide (c.op = 5) && decide (clrBit s.liveMask slot = 0) then 9
  else if (decide (c.op = 3) && nbit (s.getR Reg.SGE_LCS_SPOILED 0) 0)
      || (decide (c.op = 4) && (nbit (s.getR Reg.SGE_LCS_VALID 0) slot || nbit (s.getR Reg.SGE_LCS_SPOILED 0) slot)) then 10
  else 0

/-- The lifecycle advances (R628, R630). -/
def State.lcsAdvance (s : State) (op st : Nat) : State :=
  (s.setR Reg.SGE_LCS_STATE 0 st).raise sageEp 0x0A03 0 (sageDetail 0 op 0 st)

/-- A mask field of SGE_LCS gains a bit. -/
def State.lcsBit (s : State) (f : Field) (n : Nat) : State := s.setR f 0 (setBit (s.getR f 0) n)

/-- RETIRE's erase (R646): the helper data, the wrapped keys, the key store and the certificates are gone. -/
def State.sageErase (s : State) : State :=
  ((s.modSage (fun g =>
    { g with
      keys := false
      chains := false
      store := false
      marker := false
      dev := none })).setR Reg.SGE_LCS_OSK 0 0).showLive

/-- The identity public keys, made of the identity seed (R633, R634). -/
def State.identityPub (s : State) : Nat := Config.identityKeys ((s.sage.dev.map (fun k => k.seed)).getD 0)

/-- Sage writes the 436 bytes of a response at SGE_RSP_ADDR (R644); where the memory makes it wait, the packet waits there. -/
def State.sageAnswer (s : State) (v : Nat) : State :=
  (s.agentPut sageEp (s.getR Reg.SGE_RSP_ADDR_ADDR 0) 436 v).getD (s.sendWrite sageEp (s.getR Reg.SGE_RSP_ADDR_ADDR 0) 436 v 0 0 none).1

/-- The response of a command is refused (R644): nothing serves its address, or the memory there denies the write. -/
def State.sageRefused (s : State) : Bool :=
  let a := s.getR Reg.SGE_RSP_ADDR_ADDR 0
  if a < 0x4030000000 ∨ (unitOf a).isSome then
    match (s.modResp (fun _ => ⟨0, 0, false⟩)).agentMem sageEp a 436 0 with
    | some t => decide (t.resp.status ≠ 0)
    | none => false
  else (s.addrEp a).isNone

/-- A command's effect when every fuse programs (R642). -/
def State.cmdEffect (s : State) (c : SageCmd) : State :=
  let slot := cmdSlot c
  match c.op with
  | 1 => (s.modSage (fun g => { g with keys := true })).sageAnswer
      (s.identityPub % 2 ^ 3072 + 0x01000100 * 2 ^ 3072 + s.identityPub / 2 ^ 3104 % 2 ^ 384 * 2 ^ 3104)
  | 2 => (s.modSage (fun g => { g with chains := true })).lcsAdvance 2 1
  | 3 =>
    let t := s.lcsBit Reg.SGE_LCS_VALID 0
    ((if c.facts.osk then t.lcsBit Reg.SGE_LCS_OSK 0 else t).showLive).lcsAdvance 3 2
  | 4 => (s.lcsBit Reg.SGE_LCS_VALID slot).showLive
  | 5 => ((s.lcsBit Reg.SGE_LCS_REVOKED slot).showLive).raise sageEp 0x0A04 0 (sageDetail 0 5 slot)
  | 6 => s.lcsBit Reg.SGE_LCS_OSK slot
  | 7 => s.setR Reg.SGE_LCS_LEGACY_OK 0 1
  | _ => (s.lcsAdvance 8 3).sageErase

/-- What a command leaves when a fuse fails, or power does (R644 to R646): an enrolment that has not reached VALID leaves its slot spoiled; a lifecycle fuse that fails leaves what was
written before it; a RETIRE that power cuts leaves RET blown and the marker. -/
def State.cmdBroken (s : State) (c : SageCmd) (run : FuseRun) : State :=
  match run with
  | .ok => s
  | .cut =>
    if c.op = 3 ∨ c.op = 4 then s.lcsBit Reg.SGE_LCS_SPOILED (cmdSlot c)
    else if c.op = 8 then (s.setR Reg.SGE_LCS_STATE 0 3).modSage (fun g => { g with marker := true })
    else s
  | .fails => if c.op = 3 ∨ c.op = 4 then s.lcsBit Reg.SGE_LCS_SPOILED (cmdSlot c) else s
  | .stateFails =>
    if c.op = 2 then s.modSage (fun g => { g with chains := true })
    else if c.op = 3 then
      ((if c.facts.osk then (s.lcsBit Reg.SGE_LCS_VALID 0).lcsBit Reg.SGE_LCS_OSK 0 else s.lcsBit Reg.SGE_LCS_VALID 0).showLive)
    else s

/-- A command blows fuses. -/
def usesFuse (op : Nat) : Bool := decide (op ≠ 1) && decide (op ≠ 6)

/-- A command ends with a code (R643, R644, R650): the nonce it named lapses. -/
def State.cmdEnd (s : State) (c : SageCmd) (code : Nat) : State :=
  let t := if c.facts.read && c.facts.nonce then s.nonceDrop else s
  let t := ((t.setR Reg.SGE_CMD_STAT_STATE 0 (if code = 0 then 2 else 4)).setR Reg.SGE_CMD_STAT_CODE 0 code).modSage (fun g => { g with cmd := none })
  let ev := if code = 0 then 0x0A01 else if code = 11 then 0x0A06 else 0x0A02
  (t.sageSignal).raise sageEp ev (if code = 0 then 0 else if code = 11 then 4 else 2) (sageDetail code c.op (cmdSlot c))

/-- SGE_VERIFY_DONE (R637, R644): verification ends, and the command takes effect or reports its code; `rspOk` says that the response could be written. -/
def execSgeVerifyDone (run : FuseRun) (rspOk : Bool) (s : State) : Result :=
  match s.sage.cmd with
  | none => .next s
  | some c =>
    let code := s.cmdCode c
    let t := if c.facts.read && c.facts.formed && decide (c.op ≠ 3) then s.keyMismatch c.facts.keysel c.facts.hashed else s
    if code ≠ 0 then .next (t.cmdEnd c code)
    else if run = .cut ∧ usesFuse c.op then .next (t.cmdBroken c .cut)
    else if run ≠ .ok ∧ usesFuse c.op then .next ((t.cmdBroken c run).cmdEnd c 11)
    else if c.op = 1 ∧ !rspOk then .next ((t.modSage (fun g => { g with keys := true })).cmdEnd c 12)
    else if c.op = 1 ∧ t.sageRefused = true then .next ((t.cmdEffect c).cmdEnd c 12)
    else .next (((t.cmdEffect c).cmdEnd c 0).markCommit Reg.SGE_CMT 0)

/-- SGE_CMD_ABORT (R38, R644): while verification has not ended nothing has committed; late, it comes in the cycle of the commit. -/
def execSgeCmdAbort (req : BitVec 16) (s : State) : Result :=
  if !isMgmt req.toNat then .next (s.respond 0 2)
  else
    let t := s.respond 0 0
    match s.sage.cmd with
    | none =>
      if s.flag Reg.SGE_GOING 0 then .next (((t.setR Reg.SGE_GOING 0 0).setR Reg.SGE_CMD_STAT_STATE 0 3).sageSignal)
      else .next (if s.getR Reg.SGE_CMD_STAT_STATE 0 = 2 ∧ s.inCommitCycle Reg.SGE_CMT 0 = true then t.setR Reg.SGE_CMD_STAT_ABORT_LATE 0 1 else t)
    | some c =>
      let u := if c.facts.read && c.facts.nonce then t.nonceDrop else t
      .next (((u.setR Reg.SGE_CMD_STAT_STATE 0 3).modSage (fun g => { g with cmd := none })).sageSignal)

/-! ### System NVM (R635) -/

/-- A requester may read an offset of the system NVM. -/
def nvmReadOk (o req : Nat) : Bool :=
  if o < 0x3F0000 then true
  else if o < 0x400000 then decide (req = sageEp)
  else if o < 0x600000 then decide (req = sageEp) || isMgmt req
  else if o < 0x700000 then decide (req = duskEp) || isMgmt req
  else true

/-- A requester may write an offset of the system NVM by a request; Dawn's own writes do not come here. -/
def nvmWriteOk (o req : Nat) : Bool :=
  if o < 0x3F0000 then isMgmt req else if o < 0x400000 then decide (req = sageEp) else false

/-! ### SPDM (R540 to R543, R648) -/

/-- A response of the DOE instance: its code, and what it carries from bit 32 on. -/
def State.spdmAnswer (s : State) (code value : Nat) : State := s.respond (code + value * 2 ^ 32) 0

/-- ERROR, with its error code in bits [15:8]. -/
def State.spdmError (s : State) (err : Nat) : State := s.respond (0x7F + err * 2 ^ 8) 0

/-- UnexpectedRequest. -/
def spdmUnexpected : Nat := 0x04

/-- UnsupportedRequest. -/
def spdmUnsupported : Nat := 0x07

/-- InvalidRequest. -/
def spdmInvalid : Nat := 0x01

/-- LargeResponse: the response is to be read in chunks. -/
def spdmLarge : Nat := 0x0F

/-- A change of the connection. -/
def State.spdmAt (s : State) (n : Nat) : State := s.modSage (fun g => { g with spdm := n })

/-- A request that needs the negotiation to be complete. -/
def State.spdmReady (s : State) (t : State) : Result := .next (if s.sage.spdm = 3 then t else s.spdmError spdmUnexpected)

/-- Signed responses are given in PROVISIONED and OWNED (R628). -/
def State.signs (s : State) : Bool := decide (s.getR Reg.SGE_LCS_STATE 0 = 1) || decide (s.getR Reg.SGE_LCS_STATE 0 = 2)

/-- DOE_DISCOVERY (R540): vendor 0x0001, the type at the index, the next index. -/
def execDoeDiscovery (index : BitVec 8) (s : State) : Result :=
  .next (s.respond (match index.toNat with
    | 0 => 0x0001 + 1 * 2 ^ 24
    | 1 => 0x0001 + 1 * 2 ^ 16
    | _ => 0xFFFF) 0)

/-- SPDM_GET_VERSION (R541): version 1.3; the connection begins. -/
def execSpdmGetVersion (s : State) : Result :=
  .next ((s.modSage (fun g =>
    { g with
      spdm := 1
      sending := none
      large := none })).spdmAnswer 0x04 0x1300)

/-- SPDM_GET_CAPABILITIES (R541): CERT, CHAL, MEAS with signature and CHUNK. -/
def execSpdmGetCapabilities (s : State) : Result :=
  .next (if s.sage.spdm = 1 then (s.spdmAt 2).spdmAnswer 0x61 (2 + 4 + 0x10 + 0x20000) else s.spdmError spdmUnexpected)

/-- SPDM_NEGOTIATE_ALGORITHMS (R541): TPM_ALG_RSAPSS_3072 and TPM_ALG_SHA_384. -/
def execSpdmNegotiateAlgorithms (s : State) : Result :=
  .next (if s.sage.spdm = 2 then (s.spdmAt 3).spdmAnswer 0x63 (8 + 2 * 2 ^ 32) else s.spdmError spdmUnexpected)

/-- SPDM_GET_DIGESTS (R541): the digest of slot 0's chain. -/
def execSpdmGetDigests (s : State) : Result :=
  s.spdmReady ((s.spdmAnswer 0x01 (Config.measured 0 0).toNat))

/-- SPDM_GET_CERTIFICATE (R541): only slot 0 holds a chain. -/
def execSpdmGetCertificate (slot : BitVec 4) (s : State) : Result :=
  s.spdmReady (if slot.toNat = 0 ∧ s.sage.chains then s.spdmAnswer 0x02 0 else s.spdmError spdmInvalid)

/-- A signed response is kept as the most recent one (R542). -/
def State.spdmKeep (s : State) : State := s.modSage (fun g => { g with kept := true })

/-- SPDM_CHALLENGE (R541, R628). -/
def execSpdmChallenge (slot : BitVec 4) (s : State) : Result :=
  s.spdmReady (if !s.signs then s.spdmError spdmUnsupported
    else if slot.toNat ≠ 0 then s.spdmError spdmInvalid
    else s.spdmKeep.spdmAnswer 0x03 0)

/-- The raw value of a measurement block (R543, R648). -/
def State.measurement (s : State) (i : Nat) : Nat :=
  match i with
  | 4 => s.getR Reg.DWN_DIGEST_V 0
  | 5 => s.getR Reg.SGE_LCS_STATE 0 + s.getR Reg.STREAM_SLOT 0 * 2 ^ 8 + s.getR Reg.SGE_LCS_VALID 0 * 2 ^ 16 + s.getR Reg.SGE_LCS_REVOKED 0 * 2 ^ 24
  | 6 => s.getR Reg.DEV_FEAT_PKG_FLEVEL 0
      + (List.range 12).foldl (fun acc d => acc + (s.getR Reg.DEV_DIEREV_LETTER d + s.getR Reg.DEV_DIEREV_DIGIT d * 2 ^ 8
          + s.getR Reg.DEV_DIEREV_FLEVEL d * 2 ^ 16 + s.getR Reg.DEV_DIEREV_LINKGEN d * 2 ^ 24 + s.getR Reg.DEV_DIEREV_TYPE d * 2 ^ 28) * 2 ^ (32 * (d + 1))) 0
  | _ => (Config.measured i (s.getR Reg.FW_COUNT 0)).toNat

/-- SPDM_GET_MEASUREMENTS (R543, R628): the number of blocks for index 0, a block, or all of them for 0xFF. -/
def execSpdmGetMeasurements (index : BitVec 8) (signed : Bool) (s : State) : Result :=
  let i := index.toNat
  s.spdmReady (if signed && !s.signs then s.spdmError spdmUnsupported
    else if 6 < i ∧ i ≠ 255 then s.spdmError spdmInvalid
    else
      let t := if signed then s.spdmKeep else s
      t.spdmAnswer 0x60 (if i = 0 then 6
        else if i = 255 then (List.range 6).foldl (fun acc j => acc + s.measurement (j + 1) * 2 ^ (512 * j)) 0
        else s.measurement i))

/-- SPDM_CHUNK_SEND (R541): chunks of a large request, in order. -/
def execSpdmChunkSend (handle : BitVec 8) (seq : BitVec 16) (last : Bool) (s : State) : Result :=
  let want := match s.sage.sending with
    | some (h, n) => if h = handle.toNat then n else 0
    | none => 0
  s.spdmReady (if seq.toNat ≠ want then (s.modSage (fun g => { g with sending := none })).spdmError spdmInvalid
    else (s.modSage (fun g => { g with sending := if last then none else some (handle.toNat, want + 1) })).spdmAnswer 0x05 seq.toNat)

/-- SPDM_CHUNK_GET (R541): the next chunk of a large response. -/
def execSpdmChunkGet (handle : BitVec 8) (seq : BitVec 16) (last : Bool) (s : State) : Result :=
  s.spdmReady (match s.sage.large with
    | none => s.spdmError spdmUnexpected
    | some (h, n) =>
      if h = handle.toNat ∧ n = seq.toNat then
        (s.modSage (fun g => { g with large := if last then none else some (h, n + 1) })).spdmAnswer 0x06 (seq.toNat + bit last * 2 ^ 16)
      else s.spdmError spdmInvalid)

/-- SPDM_UNSUPPORTED_REQUEST (R541). -/
def execSpdmUnsupportedRequest (_code : BitVec 8) (s : State) : Result := .next (s.spdmError spdmUnsupported)

/-- A large response waits to be read in chunks; its handle is one more than the last. -/
def State.spdmLargeAnswer (s : State) : State :=
  let h := ((s.sage.large.map (fun x => x.1)).getD 0 + 1) % 256
  (s.modSage (fun g => { g with large := some (h, 0) })).respond (0x7F + spdmLarge * 2 ^ 8 + h * 2 ^ 32) 0

/-- SPDM_GET_PQ_CERT (R542). -/
def execSpdmGetPqCert (s : State) : Result := s.spdmReady (if s.sage.chains then s.spdmLargeAnswer else s.spdmError spdmInvalid)

/-- SPDM_GET_PQ_SIG (R542, R628). -/
def execSpdmGetPqSig (s : State) : Result :=
  s.spdmReady (if !s.signs then s.spdmError spdmUnsupported
    else if !s.sage.kept then s.spdmError spdmUnexpected
    else s.spdmLargeAnswer)

end Sys2Proof.Machine
end

