-- ==== Sys2Proof/Machine/BusWrite.lean ====
section
/-!
DEFINITION. What a write of a register does, block by block (R4, R7, R13, R23 and the register tables of each chapter).
An action that has a command of its own is that command's meaning; the few that reset the device or start Dawn, or run a debug
transport, are left in BUS_HOOK for the file that carries them out.
-/

namespace Sys2Proof.Machine

/-! ### The access codes -/

/-- A part of an element replaced by the bits a write brings. -/
def Slot.merged (x : Slot) (old v : Nat) : Nat :=
  let m := 2 ^ x.bits
  old - old / 2 ^ x.lo % m * 2 ^ x.lo + v / 2 ^ x.src % m * 2 ^ x.lo

/-- The bits a write brings, at their place in the element. -/
def Slot.brought (x : Slot) (v : Nat) : Nat := v / 2 ^ x.src % 2 ^ x.bits * 2 ^ x.lo

/-- Bits of one number that another does not have. -/
def without (a b : Nat) : Nat := a - (a &&& b)

/-- The effect of a write on one part, by its access code (R4); `put` stores a value. -/
def State.putSlot (put : State → Field → Nat → Nat → State) (s : State) (v : Nat) (x : Slot) : State :=
  let old := s.getR x.field x.elem
  match x.field.acc with
  | .rw => put s x.field x.elem (x.merged old v)
  | .rwl => put s x.field x.elem (x.merged old v)
  | .w1c => s.setR x.field x.elem (without old (x.brought v))
  | .w1s => s.setR x.field x.elem (old ||| x.brought v)
  | _ => s

/-- A write of a register word by the access codes of its fields; fields outside `ok` are left. -/
def State.putRegBy (put : State → Field → Nat → Nat → State) (ok : Field → Bool) (s : State) (b : Blk) (page o v : Nat) : State :=
  (slotsOf b page o).foldl (fun t x => if ok x.field then t.putSlot put v x else t) s

/-- A write of a register word by the access codes of its fields. -/
def State.putReg (s : State) (b : Blk) (page o v : Nat) : State := s.putRegBy State.setR (fun _ => true) b page o v

/-- A write of a word's W1C bits alone. -/
def State.putClears (s : State) (b : Blk) (page o v : Nat) : State :=
  s.putRegBy State.setR (fun f => decide (f.acc = .w1c)) b page o v

/-- A write of a register word but for some fields. -/
def State.putBut (s : State) (fs : List Field) (b : Blk) (page o v : Nat) : State :=
  s.putRegBy State.setR (fun f => !fs.any (fun g => decide (g.id = f.id))) b page o v

/-- A bit of a written word starts an action. -/
def State.act (s : State) (c : Bool) (f : State → Result) : State := if c then took (f s) s else s

/-- An action that a later file carries out. -/
def State.hook (s : State) (code req v : Nat) : State :=
  ((s.setR Reg.BUS_HOOK 0 code).setR Reg.BUS_HREQ 0 req).setR Reg.BUS_HVAL 0 v

/-- No action waits: what a register write leaves is carried out in the same command, so this only clears the words it is left in. -/
def State.noHook (s : State) : State := s.resetFields [Reg.BUS_HOOK, Reg.BUS_HREQ, Reg.BUS_HVAL] 0

/-- A write refused for its requester: ignored, STATUS 2. -/
def State.denied (s : State) : State := s.respond 0 2

/-! ### Package pages -/

/-- DEV (R16, R29 to R36). -/
def State.writeDev (s : State) (o v req : Nat) : State :=
  if o = 0x14 then took (execSysidWrite (BitVec.ofNat 32 v) s) s
  else if o = 0x100 then
    (if v % 4 = 1 ∨ v % 4 = 2 then s.hook (v % 4) req v
    else if v / 2 ^ 16 % 2 ^ 16 = 0xA11C then s else s.setR Reg.DEV_RST_CAUSE_BADKEY 0 1)
  else if o = 0x200 ∨ o = 0x204 ∨ o = 0x208 then s.ringConfig o v
  else if o = 0x210 then took (execEventRingRpWrite (BitVec.ofNat 32 v) s) s
  else if o = 0x214 then s.act (nbit v 16) (execEventRingOvfClear none)
  else s.putReg .dev 0 o v

/-- TBS (R53 to R57, R79 to R82, R88). -/
def State.writeTbs (s : State) (o v : Nat) : State :=
  if o = 0x20 then
    let t := (took (execRoleWrite (BitVec.ofNat 2 v) s) s).putBut [Reg.TBS_SYNC_CTL_ROLE] .tbs 0 o v
    (t.act (nbit v 6) execSetTime).act (nbit v 5) execStepNow
  else if 0x50 ≤ o ∧ o < 0x60 then
    took (execPwclkSourceWrite (Fin.ofNat 4 ((o - 0x50) / 4)) (BitVec.ofNat 3 v) (BitVec.ofNat 3 (v / 8)) (nbit v 7) s) s
  else s.putReg .tbs 0 o v

/-- DWN (R611, R613, R618, R621, R625). -/
def State.writeDwn (s : State) (o v req : Nat) : State :=
  if !isMgmt req then s.denied
  else
    let t := s.putReg .dwn 0 o v
    if o = 0 then (if nbit v 0 then t.hook (if nbit v 2 then 10 else 3) req v else if nbit v 2 then t.hook 4 req v else t)
    else if o = 0x1C then (if nbit v 0 then t.hook 5 req v else t)
    else if o = 0x28 ∨ o = 0x2C ∨ o = 0x30 then t.setR Reg.DWN_RELOAD_CTL_RELOAD_OK 0 0
    else if o = 0x34 then t.hook 6 req v
    else t

/-- SGE (R642 to R644, R649). A GO makes Sage BUSY; what the command in memory says comes with SGE's own commands. -/
def State.writeSge (s : State) (o v req : Nat) : State :=
  if !isMgmt req then s.denied
  else if o = 0x10 then s.act (nbit v 0) (execSgeNonceNew (BitVec.ofNat 16 req))
  else if o = 0x4C then (s.act (nbit v 0) (fun t => .next t.sageStart)).act (nbit v 1) (execSgeCmdAbort (BitVec.ofNat 16 req))
  else s.putReg .sge 0 o v

/-- A throttle unit (R669): a quadrant, a PGE/FCE pair or an MSP group. -/
def isThrottle (d : Nat) : Bool := decide (d < 32) || (decide (73 ≤ d) && decide (d < 105))

/-- DSK (R654 to R657, R673, R674, R678). -/
def State.writeDsk (s : State) (o v req : Nat) : State :=
  let r := BitVec.ofNat 16 req
  if !s.dskWriter req then s.denied
  else if o = 0 then
    let t := s.putReg .dsk 0 o v
    let d := Fin.ofNat 128 v
    let t := if v / 2 ^ 8 % 4 = 1 then took (execDskPwrOn d r t) t else if v / 2 ^ 8 % 4 = 2 then took (execDskPwrOff d r t) t else t
    t.act (nbit v 10) (execDskPwrAbort r)
  else if o = 0x10 then took (execDskForceKey (BitVec.ofNat 16 v) r s) s
  else if o = 0x14 then
    (if nbit v 8 then took (execDskForceSet (Fin.ofNat 128 v) r s) s else took (execDskForceLift (Fin.ofNat 128 v) r s) s)
  else if o = 0x24 then
    let t := s.act (nbit v 28) (execThermStopClear r)
    if nbit v 29 && t.flag Reg.TRIP_OVER 0 then (t.setR Reg.DSK_ZSTAT_TRIP 0 0).alerts else t
  else if 0xE0 ≤ o ∧ o < 0x100 then
    (List.range 16).foldl (fun t i =>
      let d := (o - 0xE0) / 4 * 16 + i
      if isThrottle d then t.setR Reg.DSK_THRL_SW d (v / 4 ^ i % 4) else t) s
  else s.putReg .dsk 0 o v

/-- SVP (R705, R710, R713, R717, R718). -/
def State.writeSvp (s : State) (o v req : Nat) : State :=
  let r := BitVec.ofNat 16 req
  let w := BitVec.ofNat 64 v
  if o < 0x200 then
    let n := o / 8
    if o % 8 = 0 then took (execSvpPinCfgWrite (Fin.ofNat 64 n) (BitVec.ofNat 32 v) r s) s
    else if !isMgmt req then s.denied
    else if s.flag Reg.SVP_PIN_CFG_LOCKED n then s
    else s.putReg .svp 0 o v
  else if o = 0x200 ∨ o = 0x204 then took (execSvpOutWrite false (Fin.ofNat 3 (o / 4 % 2)) w r s) s
  else if o = 0x208 ∨ o = 0x20C then took (execSvpOutWrite true (Fin.ofNat 3 (o / 4 % 2)) w r s) s
  else if o = 0x230 then took (execSvpLockKey (BitVec.ofNat 16 v) r s) s
  else if o = 0x234 ∨ o = 0x238 then took (execSvpLockSet (if o = 0x234 then 0 else 1) w r s) s
  else s.putReg .svp 0 o v

/-- A watchdog's CFG (R563, R564, R586): EN stays set until a reset of the processor; FREEZE and ACTION are reserved for Sage's and Dusk's. -/
def State.writeWdtCfg (s : State) (w v : Nat) : State :=
  let t := s.setR Reg.CTL_WDT_CFG_PERIOD w v
  let t := if w < 4 then (t.setR Reg.CTL_WDT_CFG_FREEZE w (v / 2 ^ 25)).setR Reg.CTL_WDT_CFG_ACTION w (v / 2 ^ 26) else t
  let t :=
    if nbit v 24 then
      (if s.flag Reg.CTL_WDT_CFG_EN w then t else ((t.setR Reg.CTL_WDT_CFG_EN w 1).putCount w (t.wdtPeriod w)).setR Reg.WDT_OPEN w 0)
    else if s.flag Reg.WDT_OPEN w then t.setR Reg.CTL_WDT_CFG_EN w 0 else t
  t.wdtEval w

/-- The registers of a core or of a watchdog (R586). -/
def State.writeCore (s : State) (w o v req : Nat) : State :=
  let r := BitVec.ofNat 16 req
  if !s.wdtWriter w req then s.denied
  else if o = 0 then s.writeWdtCfg w v
  else if o = 4 then took (execWdtKick (Fin.ofNat 6 w) (BitVec.ofNat 16 v) r s) s
  else if 4 ≤ w then s
  else if o = 0x1C then s.act (nbit v 0) (execHartResetCmd (Fin.ofNat 4 w) r)
  else if o = 0x18 then (s.putReg .dbg 0 (0x4000 + 0x100 * w + o) v).unfreeze
  else s.putReg .dbg 0 (0x4000 + 0x100 * w + o) v

/-- The patch units' registers (R561, R562, R587); `base` is 0x5000 or 0x5400. -/
def State.writePatch (s : State) (dusk : Bool) (o v req : Nat) : State :=
  let r := BitVec.ofNat 16 req
  let p := o % 0x400
  let en := s.getR (if dusk then Reg.CTL_DPATCH_EN else Reg.CTL_SPATCH_EN) 0
  if !s.patchWriter dusk req then s.denied
  else if p = 0x100 then took (execPatchKeyWrite dusk (BitVec.ofNat 16 v) r s) s
  else if p = 0x104 then took (execPatchEnWrite dusk (BitVec.ofNat 16 v) r s) s
  else if p < 0x80 then (if nbit en (p / 8) then s else s.putReg .dbg 0 o v)
  else s

/-- The patch RAMs (R561, R562): a line that an enabled unit targets is not written. -/
def State.writePatchRam (s : State) (dusk : Bool) (o v req : Nat) : State :=
  let en := s.getR (if dusk then Reg.CTL_DPATCH_EN else Reg.CTL_SPATCH_EN) 0
  let tgt := if dusk then Reg.CTL_DPATCH_TARGET else Reg.CTL_SPATCH_TARGET
  if !s.patchWriter dusk req then s.denied
  else if (List.range 16).any (fun u => nbit en u && decide (s.getR tgt u = o % 0x400 / 16)) then s
  else s.putReg .dbg 0 o v

/-- The DBG page (R556, R561, R586 to R588). -/
def State.writeDbg (s : State) (o v req : Nat) : State :=
  if 0x4000 ≤ o ∧ o < 0x4600 then s.writeCore ((o - 0x4000) / 0x100) (o % 0x100) v req
  else if 0x5000 ≤ o ∧ o < 0x5400 then s.writePatch false o v req
  else if 0x5400 ≤ o ∧ o < 0x5800 then s.writePatch true o v req
  else if 0x6000 ≤ o ∧ o < 0x6400 then s.writePatchRam false o v req
  else if 0x6400 ≤ o ∧ o < 0x6800 then s.writePatchRam true o v req
  else if o < 0x8000 ∧ s.ctlWriter req = false then s.denied
  else if 0x7010 ≤ o ∧ o < 0x7030 then (s.putReg .dbg 0 o v).mtip ((o - 0x7010) / 8)
  else if 0x9800 ≤ o ∧ o < 0x9880 ∧ o % 16 = 4 then
    took (execPlicComplete (Fin.ofNat 8 ((o - 0x9800) / 16)) (BitVec.ofNat 32 v) s) s
  else s.putReg .dbg 0 o v

/-- The registers of a DMA channel (R533, R535, R548): while it is BUSY only STOP acts. -/
def State.writeDma (s : State) (o v req : Nat) : State :=
  let c := (o - 0x6000) / 0x40
  if o % 0x40 = 0x18 then
    (s.act (nbit v 0) (execPcieDmaStart (Fin.ofNat 8 c) (BitVec.ofNat 16 req))).act (nbit v 1) (execPcieDmaStop (Fin.ofNat 8 c))
  else if s.getR Reg.PCI_DMA_STAT_STATE c = 1 then s
  else s.putReg .pci 0 o v

/-- PCI (R528, R533 to R539, R544, R547, R548). -/
def State.writePci (s : State) (o v req : Nat) : State :=
  if o = 4 ∨ o = 8 ∨ (0x100 ≤ o ∧ o < 0x180) then (if isMgmt req then s.putReg .pci 0 o v else s.denied)
  else if o = 0x10 ∨ o = 0x14 then (s.putReg .pci 0 o v).pcieLines
  else if o = 0x20 then took (execPcieMsixTrigger (BitVec.ofNat 6 v) (BitVec.ofNat 6 (v / 2 ^ 8)) s) s
  else if o = 0x1000 then
    ((s.putClears .pci 0 o v).act (decide (v % 2 ^ 13 ≠ 0)) (execMbxH2dLenWrite (BitVec.ofNat 13 v))).pcieLines
  else if o = 0x1004 then (s.putClears .pci 0 o v).act (decide (v % 2 ^ 13 ≠ 0)) (execMbxD2hLenWrite (BitVec.ofNat 13 v))
  else if 0x2000 ≤ o ∧ o < 0x3000 then (if s.flag Reg.PCI_MBX_H2D_FULL 0 then s else s.putReg .pci 0 o v)
  else if 0x3000 ≤ o ∧ o < 0x4000 then (if s.flag Reg.PCI_MBX_D2H_FULL 0 then s else s.putReg .pci 0 o v)
  else if o = 0x4000 then
    let t := s.putReg .pci 0 o v
    if nbit v 31 then t.hook 9 req v else t
  else if o = 0x500C then
    let t := s.putReg .pci 0 o v
    if nbit v 1 then (if isMgmt req then t.hook (if nbit v 2 then 11 else 7) req v else t.denied)
    else if nbit v 2 then t.hook 8 req v else t
  else if 0x6000 ≤ o ∧ o < 0x6200 then s.writeDma o v req
  else s.putReg .pci 0 o v

/-- A mailbox operation (R233). -/
def State.writeThyCmd (s : State) (m v : Nat) : State :=
  let f := Fin.ofNat 8 m
  let id := BitVec.ofNat 12 (v / 2 ^ 16)
  let t :=
    if s.getR Reg.THY_REQ_STAT_STATE m = 1 then s
    else match v % 8 with
      | 1 => took (execThyAdmit f true s) s
      | 2 => took (execThySuspend f id true s) s
      | 3 => took (execThyResume f id true s) s
      | 4 => took (execThyTeardown f id true s) s
      | 5 => took (execThyReadmit f id true s) s
      | _ => s
  t.act (nbit v 3) (execThyAbort f)

/-- THY (R233, R326, R340). -/
def State.writeThy (s : State) (o v : Nat) : State :=
  if o < 0x800 then
    let m := o / 0x100
    if o % 0x100 = 0x18 then s.writeThyCmd m v
    else if s.getR Reg.THY_REQ_STAT_STATE m = 1 then s else s.putReg .thy 0 o v
  else if 0xA0000 ≤ o ∧ o < 0xB0000 ∧ o % 16 = 0 then
    took (execDclStreamEntryWrite (BitVec.ofNat 12 ((o - 0xA0000) / 16)) (BitVec.ofNat 32 v) s) s
  else s.putReg .thy 0 o v

/-! ### Windows of the fabric dies -/

/-- A region's control page (R148, R172 to R176, R626). -/
def State.writeRgn (s : State) (rg o v : Nat) : State :=
  let fd := Fin.ofNat 8 (rg / 384)
  let r := Fin.ofNat 384 (rg % 384)
  if o = 0 then took (execRegionClkSelWrite fd r (BitVec.ofNat 4 v) (nbit v 4) s) s
  else if o = 4 then
    if nbit v 0 && nbit v 1 then s
    else
      let t := s.setR Reg.FAB_RGN_ISO_EXITMODE rg (v / 4)
      let t := if nbit v 0 then t.isoReq rg else if nbit v 1 then t.isoExit rg else t
      if nbit v 3 then t.isoAbort rg else t
  else s.putReg .rgn rg o v

/-- A clock generator (R85, R90, R749); in one write EN acts first, then APPLY, then ABORT: DESIGN CHOICE (notes/assumptions/70). -/
def State.writeCg (s : State) (fd o v : Nat) : State :=
  let f := Fin.ofNat 8 fd
  let g := Fin.ofNat 8 (o / 0x100)
  if o % 0x100 = 8 ∧ o < 0x800 then
    let t := s.putBut [Reg.FAB_CG_CTL_EN] .cg fd o v
    let t := if nbit v 0 then took (execFabCgEnable f g t) t else took (execFabCgDisable f g t) t
    (t.act (nbit v 2) (execFabCgApply f g)).act (nbit v 3) (execFabCgAbort f g)
  else s.putReg .cg fd o v

/-- A ring oscillator (R126 to R128). -/
def State.writeRo (s : State) (fd o v : Nat) : State :=
  let f := Fin.ofNat 8 fd
  let g := Fin.ofNat 8 (o / 0x20)
  if o < 0x100 ∧ o % 0x20 = 0 then
    let t := (took (execFabRoFreqWrite f g (BitVec.ofNat 10 v) s) s).roEnable (per8 f g) (nbit v 12)
    (t.act (nbit v 13) (execFabRoTrim f g)).act (nbit v 14) (execFabRoAbort f g)
  else if o < 0x100 ∧ o % 0x20 = 4 then
    (if s.getR Reg.FAB_RO_STAT_STATE (fd * 8 + o / 0x20) = 1 then s
    else ((s.roBring (fd * 8 + o / 0x20)).setR Reg.RO_TRIMMED (fd * 8 + o / 0x20) 0).putReg .ro fd o v)
  else s.putReg .ro fd o v

/-- User NVM control (R135, R136). -/
def State.writeNvmc (s : State) (fd o v req : Nat) : State :=
  if o = 8 then took (execNvmLockKey (Fin.ofNat 8 fd) (BitVec.ofNat 16 v) (BitVec.ofNat 16 req) s) s
  else if o = 4 ∧ s.flag Reg.FAB_NVM_STAT_LOCKED fd = true then s
  else s.putReg .nvmc fd o v

/-- A hard serial port (R137, R138): MODE and ROUTE act at once with no transfer on the lines, else at SP_MODE_APPLY and SP_ROUTE_APPLY. -/
def State.writeSp (s : State) (fd o v : Nat) : State :=
  if o % 0x1000 = 8 then took (execSpDataPush (Fin.ofNat 8 fd) (Fin.ofNat 8 (o / 0x1000)) (BitVec.ofNat 8 v) s) s
  else if o % 0x1000 = 0xC then (s.putReg .sp fd o v).spLine (fd * 8 + o / 0x1000)
  else if o % 0x1000 = 0 then
    let i := fd * 8 + o / 0x1000
    (s.putReg .sp fd o v).act (decide (s.spBusy i = 0)) (fun t => took (execSpModeApply (Fin.ofNat 8 fd) (Fin.ofNat 8 (o / 0x1000)) t) t
      |> execSpRouteApply (Fin.ofNat 8 fd) (Fin.ofNat 8 (o / 0x1000)))
  else s.putReg .sp fd o v

/-! ### Windows of the base dies -/

/-- A state in which an engine is at work. -/
def atWork (v : Nat) : Bool := decide (v = 1) || decide (v = 5)

/-- A reserved offset of a page: a write there is ignored and does nothing else (R5). -/
def reservedOff (b : Blk) (page o : Nat) : Bool := (slotsOf b page o).isEmpty

/-- A pattern engine (R354 to R361, R376 to R379). -/
def State.writePge (s : State) (n o v : Nat) : State :=
  let f := Fin.ofNat 16 n
  if o = 0 then
    let t := s.putReg .pge n o v
    (((t.act (nbit v 0) (execPgeArm f)).act (nbit v 1) (execPgeAbort f)).act (nbit v 2) (execPgeStop f)).act (nbit v 3) (execPgeSrst f)
  else if reservedOff .pge n o then s
  else if o = 0x74 then s.setR Reg.PGE_SFLAG_SET_F n (without (s.getR Reg.PGE_SFLAG_SET_F n) (v % 256))
  else if atWork (s.getR Reg.PGE_STAT_STATE n) && !(decide (0x28 ≤ o) && decide (o < 0x38)) && decide (o ≠ 0x70) then
    s.setR Reg.PGE_STAT_CFG_REJ n 1
  else s.putReg .pge n o v

/-- A fail-capture engine (R386 to R393, R417 to R420): `live` offsets may be written while it is at work. -/
def State.writeFce (s : State) (n o v : Nat) : State :=
  let f := Fin.ofNat 16 n
  let busy := atWork (s.getR Reg.FCE_STAT_STATE n) || decide (s.getR Reg.FCE_STAT_STATE n = 6)
  if o = 0 then
    let t := s.putReg .fce n o v
    (((t.act (nbit v 0) (execFceArm f)).act (nbit v 1) (execFceEnd f)).act (nbit v 2) (execFceAbort f)).act (nbit v 3) (execFceSrst f)
  else if o = 0x6C then s.setR Reg.FCE_LOG_RP_RP n (v % 2 ^ 16 % 2 ^ s.fceLog2 n)
  else if o = 0x70 then
    (if nbit v 16 then (s.setR Reg.FCE_LOG_DROPS_OVF n 0).setR Reg.FCE_LOG_DROPS_COUNT n 0 else s)
  else if reservedOff .fce n o then s
  else if busy && decide (o ≠ 4) && decide (o ≠ 0xC) && !(decide (0x100 ≤ o) && decide (o < 0x180) && decide (o % 8 = 4))
      && !(decide (0x8000 ≤ o) && decide (o % 0x20 = 0)) then s.setR Reg.FCE_STAT_CFG_REJ n 1
  else s.putReg .fce n o v

/-- The group registers of an MSP group (R447, R450, R457, R458). -/
def State.writeGroup (s : State) (m o v : Nat) : State :=
  let g := Fin.ofNat 16 (m / 8)
  let mask := BitVec.ofNat 8 v
  let clr := nbit v 8
  if m % 8 ≠ 0 then s
  else if o = 0x8000 then
    let t := s.putReg .msp m o v
    (((t.act (nbit v 9) (execMspGrpGo g mask clr)).act (nbit v 10) (execMspGrpAbort g mask clr)).act (nbit v 11)
      (execMspGrpStop g mask clr)).act (nbit v 12) (execMspGrpResume g mask clr)
  else if 0x8100 ≤ o ∧ o < 0x8200 then
    let i := m * 16 + (o - 0x8100) / 16
    let keep := [Reg.MSP_IBX_CFG_MSP, Reg.MSP_IBX_CFG_MEM, Reg.MSP_IBX_CFG_LOG2W, Reg.MSP_IBX_BASE_BASE]
    let t := if s.flag Reg.MSP_IBX_CFG_EN i then s.putBut keep .msp m o v else s.putReg .msp m o v
    if o % 16 = 0 ∧ nbit v 12 = true ∧ s.flag Reg.MSP_IBX_CFG_EN i = false then
      (t.setR Reg.MSP_IBX_PTR_WP i 0).setR Reg.MSP_IBX_PTR_RP i 0
    else t
  else s.putReg .msp m o v

/-- An MSP (R431, R434, R446, R453, R456 to R458): a host write of a D or P register clears its poison bit. -/
def State.writeMsp (s : State) (m o v : Nat) : State :=
  if 0x8000 ≤ o then s.writeGroup m o v
  else if o = 0 then s.act (nbit v 0) (execMspSrst (Fin.ofNat 128 m))
  else if 0x100 ≤ o ∧ o < 0x1D0 then
    (if reservedOff .msp m o then s
    else if atWork (s.getR Reg.MSP_STAT_STATE m) then s.setR Reg.MSP_STAT_CFG_REJ m 1
    else
      let t := s.putReg .msp m o v
      if o < 0x140 then t.setR Reg.MSP_POIS_D m (clrBit (t.getR Reg.MSP_POIS_D m) ((o - 0x100) / 4))
      else if 0x180 ≤ o ∧ o < 0x1A0 then t.setR Reg.MSP_POIS_P m (clrBit (t.getR Reg.MSP_POIS_P m) ((o - 0x180) / 4))
      else t)
  else if 0x200 ≤ o ∧ o < 0x240 ∧ o % 16 < 8 then
    (if s.flag Reg.MSP_CH_STAT_PEND (m * 4 + (o - 0x200) / 16) then s.setR Reg.MSP_STAT_CFG_REJ m 1 else s.putReg .msp m o v)
  else s.putReg .msp m o v

/-- An LPDDR5X channel (R502, R511, R513, R518, R519). -/
def State.writeLpx (s : State) (n o v : Nat) : State :=
  let f := Fin.ofNat 16 n
  if o = 4 then
    let t := took (execLpxDetWrite f (nbit v 0) s) s
    (t.act (nbit v 1) (execLpxRetrain f false)).act (nbit v 2) (execLpxAbort f)
  else if 0x8000 ≤ o then
    (if n = 0 ∧ o = 0x8000 then took (execLpxMapWrite (nbit v 0) (nbit v 1) s) s else s)
  else s.putReg .lpx n o v

/-- A lane quad (R296, R299, R338); an odd quad's QREF shows the even one's. -/
def State.writeLnq (s : State) (q o v : Nat) : State :=
  if o < 0x400 ∧ o % 0x100 = 0 then
    let t := s.putBut [Reg.LNE_CFG_MODE, Reg.LNE_CFG_RATE] .lnq q o v
    took (execLneCfgWrite (Fin.ofNat 160 (4 * q + o / 0x100)) (BitVec.ofNat 3 v) (BitVec.ofNat 4 (v / 8)) t) t
  else if o = 0x400 ∧ q % 2 = 1 then s
  else s.putReg .lnq q o v

/-- A DCL engine (R315, R319, R322, R327, R328, R339). -/
def State.writeDcl (s : State) (e o v : Nat) : State :=
  let l := Fin.ofNat 144 (4 * e + o / 0x200)
  let r := o % 0x200
  if 0x800 ≤ o then s
  else if r = 0 then
    let t := s.putBut [Reg.DCL_CTL_EN] .dcl e o v
    let t := if nbit v 0 then took (execDclEnable l t) t else took (execDclDisable l t) t
    t.act (nbit v 1) (execDclRetrainCmd l)
  else if r = 0x18 then took (execDclAsymWrite l (BitVec.ofNat 16 v) s) s
  else if r = 0x2C ∨ r = 0x30 ∨ (0x80 ≤ r ∧ r < 0x180) then took (execDclMapWrite l (BitVec.ofNat 9 r) (BitVec.ofNat 32 v) s) s
  else if r = 4 then s.putReg .dcl e o (v ||| 1)
  else s.putReg .dcl e o v

/-- A timed I/O bank (R266, R270, R281 to R283, R291, R292). -/
def State.writeTio (s : State) (b o v : Nat) : State :=
  let f := Fin.ofNat 20 b
  let r := (o - 0x8000) % 0x400
  let i := b * 32 + (o - 0x8000) / 0x400
  if o = 0x10 then (s.act (nbit v 0) (execTioStop f)).act (nbit v 1) (execTioSrst f)
  else if 0x100 ≤ o ∧ o < 0x180 then s.putRegBy State.setTimed (fun _ => true) .tio b o v
  else if o < 0x8000 then s.putReg .tio b o v
  else if r = 4 then (s.putReg .tio b o v).delayWritten i
  else if r = 8 ∨ 0x100 ≤ r then s.putRegBy State.setTimed (fun _ => true) .tio b o v
  else if r = 0xC ∧ nbit v 16 = true then (s.putReg .tio b o v).setR Reg.TIO_RNG_TS i 0
  else if r = 0 then (s.putReg .tio b o v).pinRests b ((o - 0x8000) / 0x400)
  else s.putReg .tio b o v

/-- The scratchpad page (R468, R470, R476, R479, R480, R493, R494). -/
def State.writeSpd (s : State) (k o v req : Nat) : State :=
  let bd := Fin.ofNat 4 k
  let r := BitVec.ofNat 16 req
  if o < 0x100 then
    (if nbit v 20 then took (execSpdHandoverAbort bd (Fin.ofNat 64 (o / 4)) r s) s
    else took (execSpdOwnWrite bd (Fin.ofNat 64 (o / 4)) (BitVec.ofNat 16 v) r s) s)
  else if o = 0x100 then s.act (nbit v 8 || !s.spdWriter (k * 64 + v % 64) req) (execSpdInv bd (Fin.ofNat 64 v) r)
  else if 0x1000 ≤ o ∧ o < 0x1200 then
    let c := (o - 0x1000) / 0x40
    let f := Fin.ofNat 8 c
    if o % 0x40 = 0x14 then (s.act (nbit v 0) (execSpdCopyStart bd f r)).act (nbit v 1) (execSpdCopyStop bd f)
    else if s.getR Reg.SPD_CPY_STAT_STATE (k * 8 + c) = 1 then s
    else s.putReg .spd k o v
  else s.putReg .spd k o v

/-- The ECC page (R480, R495). -/
def State.writeEcc (s : State) (k o v req : Nat) : State :=
  if !isMgmt req then s.denied
  else if o = 0x30 then
    s.act (nbit v 12) (execEccInv (Fin.ofNat 4 k) (BitVec.ofNat 2 v) (BitVec.ofNat 7 (v / 16)) (BitVec.ofNat 16 req))
  else s.putReg .ecc k o v

/-- A die-link page (R693, R694). -/
def State.writeDlk (s : State) (page o v req : Nat) : State :=
  if !isMgmt req then s.denied else if reservedAt .dlk page o then s else s.putReg .dlk page o v

/-- The Midnight page (R699, R701). -/
def State.writeMid (s : State) (k o v req : Nat) : State :=
  let r := BitVec.ofNat 16 req
  if !isMgmt req then s.denied
  else
    let t := s.putReg .mid k o v
    if o = 0x14 then
      (t.act (nbit v 0) (execMidReqGo (Fin.ofNat 4 k) (nbit v 1) r)).act (nbit v 2) (execMidReqAbort (Fin.ofNat 4 k) r)
    else t

/-- A 32-bit write of a register page; what it answers is STATUS 0 where the page refuses nothing. -/
def State.write32 (s : State) (b : Blk) (page o v req : Nat) : State :=
  let s := s.respond 0 0
  match b with
  | .dev => s.writeDev o v req
  | .tbs => s.writeTbs o v
  | .dwn => s.writeDwn o v req
  | .sge => s.writeSge o v req
  | .dsk => s.writeDsk o v req
  | .svp => s.writeSvp o v req
  | .dbg => s.writeDbg o v req
  | .pci => s.writePci o v req
  | .thy => s.writeThy o v
  | .rgn => s.writeRgn page o v
  | .cg => s.writeCg page o v
  | .ro => s.writeRo page o v
  | .nvmc => s.writeNvmc page o v req
  | .sp => s.writeSp page o v
  | .pge => s.writePge page o v
  | .fce => s.writeFce page o v
  | .msp => s.writeMsp page o v
  | .lpx => s.writeLpx page o v
  | .lnq => s.writeLnq page o v
  | .dcl => s.writeDcl page o v
  | .tio => s.writeTio page o v
  | .spd => s.writeSpd page o v req
  | .ecc => s.writeEcc page o v req
  | .dlk => s.writeDlk page o v req
  | .mid => s.writeMid page o v req
  | .rtr => s
  | .internal => s

/-- The die whose user NVM a register write at an address has to wait for (R132). -/
def State.stalledNvm (s : State) (a : Nat) : Option Nat :=
  match regAddr a with
  | .nvm fd _ => if s.nvmStalls fd then some fd else none
  | _ => none

/-- A register write as the pages take it (R23, R24): 32 bits, or 64 bits as two registers, the lower first; `e` is the endpoint that answers. -/
def State.pageWrite (s : State) (e a : Nat) (wide : Bool) (v req : Nat) : State :=
  if a % (if wide then 8 else 4) ≠ 0 then s.decodeError e a req
  else match regAddr a with
    | .unmapped => s.decodeError e a req
    | .nvm fd byte => took (execNvmRegisterWrite (Fin.ofNat 8 fd) (BitVec.ofNat 18 byte) wide (BitVec.ofNat 64 v) s) s
    | .page b page off =>
      let t := s.touchPage b page
      if wide then
        let lo := t.write32 b page off (v % 2 ^ 32) req
        let hi := lo.write32 b page (off + 4) (v / 2 ^ 32 % 2 ^ 32) req
        hi.respond 0 (max lo.resp.status hi.resp.status)
      else t.write32 b page off (v % 2 ^ 32) req

end Sys2Proof.Machine
end

