-- ==== Sys2Proof/Machine/Configure.lean ====
section
/-!
DEFINITION. Dawn: loading a configuration, releasing it, readback (R590 to R627, R139, R140, R141).
-/

namespace Sys2Proof.Machine

/-! ### Reports -/

/-- DETAIL of Dawn's events (R627): result code, SRC and directory entry of the operation, frame address, T_r. -/
def State.dwnDetail (s : State) (code tr : Nat) : Nat :=
  code % 256 + s.getR Reg.DWN_STAT_SRC 0 * 2 ^ 8
    + (if s.getR Reg.DWN_STAT_SRC 0 = 0 then s.getR Reg.DWN_BOOT_ENTRY 0 * 2 ^ 10 else 0) + tr % 2 ^ 64 * 2 ^ 64

/-- The region of a frame address, as its number in the package. -/
def frameRegion (a : Nat) : Nat := (a % 16 - 4) * 384 + a / 16 % 512

/-- PCI_STAGE_STAT mirrors an operation that the PCI page handed over (R544). -/
def State.stageMirror (s : State) : State :=
  if s.getR Reg.DWN_STAT_SRC 0 = 2 then
    ((s.setR Reg.PCI_STAGE_STAT_STATE 0 (s.getR Reg.DWN_STAT_STATE 0)).setR Reg.PCI_STAGE_STAT_ABORT_LATE 0
      (s.getR Reg.DWN_STAT_ABORT_LATE 0)).setR Reg.PCI_STAGE_STAT_CODE 0 (s.getR Reg.DWN_STAT_CODE 0)
  else s

/-- An operation starts (R39, R611, R625). -/
def State.opStart (s : State) (part : Bool) (src addr len : Nat) : State :=
  let t := (((s.setR Reg.DWN_STAT_STATE 0 1).setR Reg.DWN_STAT_ABORT_LATE 0 0).setR Reg.DWN_STAT_PHASE 0 1).setR Reg.DWN_STAT_CODE 0 0
  let t := ((t.setR Reg.DWN_STAT_SRC 0 src).setR Reg.DWN_OP_ADDR 0 addr).setR Reg.DWN_OP_LEN 0 len
  (t.modDawn (fun d => { d with op := some ⟨part, src, none, false⟩ })).stageMirror

/-- Dawn takes banks 56 to 63 of BD0 for the buffered segments (R607). DESIGN CHOICE (log 106): their owners come back when the buffered writes end, and a handover of
such a bank waits until then. -/
def State.bufferBegin (s : State) : State :=
  ((List.range 8).foldl (fun t j => (t.setR Reg.BUF_OWN j (t.getR Reg.SPD_OWN_EP (56 + j))).setR Reg.SPD_OWN_EP (56 + j) dawnEp) s).setR Reg.BUF_ON 0 1

/-- The buffered writes have ended, or there is nothing left to write (R607). -/
def State.bufferEnd (s : State) : State :=
  if s.flag Reg.BUF_ON 0 then ((List.range 8).foldl (fun t j => t.setR Reg.SPD_OWN_EP (56 + j) (t.getR Reg.BUF_OWN j)) s).setR Reg.BUF_ON 0 0 else s

/-- An operation ends (R39, R627): the interrupt source 10, and for the PCI page source 412 and PF0 vector 3 (R544). -/
def State.opEnd (s : State) (st code : Nat) : State :=
  let t := ((s.bufferEnd.setR Reg.DWN_STAT_STATE 0 st).setR Reg.DWN_STAT_PHASE 0 0).setR Reg.DWN_STAT_CODE 0 code
  let t := ((t.modDawn (fun d => { d with op := none, images := [] })).stageMirror).irqEdge 10
  if t.getR Reg.DWN_STAT_SRC 0 = 2 then (t.irqEdge 412).msix 0 3 else t

/-! ### Configuration memory -/

/-- A MAC slice as configuration leaves it. -/
def macCfg (pre : Nat) (sat : Bool) : Mac := { mac0 with pre := pre, sat := sat }

/-- A route as a stream places it (R143, R144, R152): the levels it crosses fix its delay, no other route keeps its source or destination port, and the spine multiplexer
at its end selects its source. What a kept route carries and holds stays (R170). -/
def State.placeRoute (s : State) (i : Interconnect) (rg route sp dr dp : Nat) (links : List Nat) (keep : Bool) (border : Nat) : Interconnect :=
  let old := i.spines.find? (fun e => decide (e.2.srcRegion = rg) && decide (e.2.srcPort = sp))
  let into := i.spines.find? (fun e => decide (e.2.dstRegion = dr) && decide (e.2.dstPort = dp))
  let held := match old with
    | some e => e.2.held
    | none => s.spinePort rg sp
  let n := spineDelay rg dr
  let pipe := match into with
    | some e => if e.2.pipe.length = n then e.2.pipe else List.replicate n false
    | none => List.replicate n false
  let r : Spine := ⟨rg, sp, dr, dp, pipe, links, keep, false, border, held, false, 0⟩
  let others := i.spines.filter (fun e => !(decide (e.2.srcRegion = rg) && decide (e.2.srcPort = sp))
    && !(decide (e.2.dstRegion = dr) && decide (e.2.dstPort = dp)))
  { i with
    spines := Map.put others route r
    sels := Map.set [] i.sels (muxKey dr (spineMux dp)) [spineSource rg sp]
    cfgSels := Map.set [] i.cfgSels (muxKey dr (spineMux dp)) [spineSource rg sp] }

/-- What an item sets (R590). -/
def State.applyItem (s : State) (it : CfgItem) : State :=
  match it with
  | .cell rg cl c k => s.modFab (fun f => { f with cells := Map.set cell0 f.cells (rg * 4096 + cl * 16 + c) k })
  | .carry rg cl sel => s.modFab (fun f => { f with cin := Map.set 0 f.cin (rg * 256 + cl) sel })
  | .select rg m ins => s.modIc (fun i => { i with
      sels := Map.set [] i.sels (muxKey rg m) ins
      cfgSels := Map.set [] i.cfgSels (muxKey rg m) ins })
  | .ram rg b k => s.modRam (rg * 4 + b) (fun r => { r with
      widthA := k.widthA
      widthB := k.widthB
      rdwA := k.rdwA
      rdwB := k.rdwB
      outA := k.outA
      outB := k.outB
      ecc := k.ecc
      invOnCfg := k.invOnCfg })
  | .ramWord rg b w data nine => s.modFab (fun f => { f with
      ramInit := Map.set ramWord0 f.ramInit ((rg * 4 + b) * 1024 + w) ⟨data, nine, none, true⟩ })
  | .mac rg i pre sat => s.modFab (fun f => { f with macs := Map.set mac0 f.macs (rg * 8 + i) (macCfg pre sat) })
  | .spine rg route sp dr dp links keep border => s.modIc (fun i => s.placeRoute i rg route sp dr dp links keep border)
  | .dcq rg q dr dp => s.modIc (fun i => { i with dcqs := Map.set dcq0 i.dcqs (rg * 4 + q) { s.dcq (rg * 4 + q) with configured := true, dstRegion := dr, dstPort := dp } })
  | .pad rg port pin enable border =>
    let k := muxKey rg (65536 + port)
    let old : Pad := (Map.find s.tio.pads k).getD ⟨pin, enable, false, false, [], border, false⟩
    s.modTio (fun x => { x with pads := Map.put x.pads k { old with pin := pin, enable := enable, border := border } })
  | .padIn rg port pin => s.modTio (fun x => { x with padIns := Map.put x.padIns (muxKey rg (131072 + port)) pin })

/-- The region whose frames hold an item. -/
def itemRegion (it : CfgItem) : Nat :=
  match it with
  | .cell rg _ _ _ => rg
  | .carry rg _ _ => rg
  | .select rg _ _ => rg
  | .ram rg _ _ => rg
  | .ramWord rg _ _ _ _ => rg
  | .mac rg _ _ _ => rg
  | .spine rg _ _ _ _ _ _ _ => rg
  | .dcq rg _ _ _ => rg
  | .pad rg _ _ _ _ => rg
  | .padIn rg _ _ => rg

/-- Dawn clears the frames of the regions that satisfy a test (R591, R610, R616), and with them what they set. -/
def State.clearFrames (s : State) (p : Nat → Bool) : State :=
  let t := s.modFab (fun f => { f with
    cells := outside p 4096 f.cells
    ffs := outside p 4096 f.ffs
    cin := outside p 256 f.cin
    ramWords := outside p 4096 f.ramWords
    ramInit := outside p 4096 f.ramInit
    ramOld := outside p 4096 f.ramOld
    rams := outside p 4 f.rams
    macs := outside p 8 f.macs })
  let t := t.modIc (fun i => { i with
    sels := outside p (2 ^ 18) i.sels
    cfgSels := outside p (2 ^ 18) i.cfgSels
    spines := i.spines.filter (fun e => !p e.2.srcRegion)
    dcqs := outside p 4 i.dcqs })
  let t := t.modTio (fun x => { x with pads := outside p (2 ^ 18) x.pads, padIns := outside p (2 ^ 18) x.padIns })
  t.modDawn (fun d => { d with
    frames := d.frames.filter (fun e => !p (frameRegion e.1))
    items := d.items.filter (fun it => !p (itemRegion it)) })

/-- An ERRATA segment applies to a die whose fuses match it (R623). -/
def State.errataFits (s : State) (e : Errata) (rg : Nat) : Bool :=
  let d := rg / 384 + 4
  e.fd && decide (s.getR Reg.DEV_DIEREV_LETTER d = e.letter.toNat) && decide (s.getR Reg.DEV_DIEREV_DIGIT d = e.digit.toNat)

/-- The frame records and items that a stream writes, errata after the others (R623). -/
def State.streamFrames (s : State) (f : Stream) : List FrameRec × List CfgItem :=
  let es := f.errata
  (f.frames ++ es.flatMap (fun e => e.frames.filter (fun r => s.errataFits e (frameRegion r.addr.toNat))),
    f.items ++ es.flatMap (fun e => e.items.filter (fun it => s.errataFits e (itemRegion it))))

/-- Dawn writes a stream's frames (R609, R615). -/
def State.writeFrames (s : State) (f : Stream) : State :=
  let x := s.streamFrames f
  let t := s.modDawn (fun d => { d with
    frames := x.1.foldl (fun m r => Map.set 0 m r.addr.toNat (r.data % 2 ^ 4096)) d.frames
    items := d.items ++ x.2 })
  x.2.foldl (fun u it => u.applyItem it) t

/-! ### Register records (R602, R608, R614) -/

/-- The word that a write without effect brings: RW bits as they are, no W1C bit. -/
def State.idleWord (s : State) (b : Blk) (page o : Nat) : Nat :=
  (slotsOf b page o).foldl (fun v x =>
    if x.field.acc = .w1c then v else v + s.shown x.field x.elem / 2 ^ x.lo % 2 ^ x.bits * 2 ^ x.src) 0

/-- Dawn writes a register record: masked bits keep their value, and the fields of a timed I/O pin that configuration loads accept the write (R292). -/
def State.writeRecord (s : State) (r : RegRec) : State :=
  match regAddr r.addr.toNat with
  | .page b page off =>
    let m := r.mask.toNat
    let v := without (s.idleWord b page off) m ||| (r.value.toNat &&& m)
    let t := s.write32 b page off v dawnEp
    if b = .tio ∧ 0x8000 ≤ off ∧ (off - 0x8000) % 0x400 = 0 then
      let i := page * 32 + (off - 0x8000) / 0x400
      ((((t.setR Reg.TIO_PIN_CFG_MODE i v).setR Reg.TIO_PIN_CFG_DDR i (v / 2)).setR Reg.TIO_PIN_CFG_REGION i (v / 2 ^ 11)).setR
        Reg.TIO_PIN_CFG_FDSEL i (v / 2 ^ 20)).pinRests page ((off - 0x8000) / 0x400)
    else t
  | _ => s

/-- A record that is applied at the OUTHOLD release (R608, R704): it addresses a timed I/O bank or pin, or the SVP page. -/
def isTioRecord (r : RegRec) : Bool :=
  match regAddr r.addr.toNat with
  | .page b _ _ => decide (b = .tio) || decide (b = .svp)
  | _ => false

/-- A record that a partial stream may carry for a mask (R614): a region control page of a mask region, or a timed I/O pin whose REGION and FDSEL name
one. -/
def State.recordIn (s : State) (mask : List Nat) (r : RegRec) : Bool :=
  match regAddr r.addr.toNat with
  | .page b page off =>
    if b = .rgn then mask.contains page
    else if b = .tio ∧ 0x8000 ≤ off then
      let i := page * 32 + (off - 0x8000) / 0x400
      mask.contains ((page / 5 * 2 + s.getR Reg.TIO_PIN_CFG_FDSEL i) * 384 + s.getR Reg.TIO_PIN_CFG_REGION i)
    else false
  | _ => false

/-- The regions of a stream's mask. -/
def maskOf (f : Stream) : List Nat := f.mask.map Fin.val

/-! ### Images (R607 to R610) -/

/-- The system NVM's user area, where image segments may lie (R635). -/
def nvmImage (i : Image) : Bool := decide (0x7000000000 ≤ i.addr.toNat) && decide (i.addr.toNat + i.bytes ≤ 0x70003F0000)

/-- A memory that an image segment is written to as the stream is read. -/
def memImage (i : Image) : Bool := decide (i.addr.toNat < 0x4000000000) || (unitOf i.addr.toNat).isSome

/-- The words that zero-word coding describes (R604): `n` words to come, `i` the next one's place in its group of eight, `c` its group's control byte, `d` what is left of the
stored bytes. -/
def zeroWords : Nat → Nat → Nat → Nat → List Nat
  | 0, _, _, _ => []
  | n + 1, i, c, d =>
    let g := if i = 0 then d % 256 else c
    let r := if i = 0 then d / 256 else d
    if nbit g i then (r % 2 ^ 64) :: zeroWords n ((i + 1) % 8) g (r / 2 ^ 64) else 0 :: zeroWords n ((i + 1) % 8) g r

/-- The bytes of a segment after decoding (R601, R604). -/
def imageContent (i : Image) : Nat :=
  if i.comp then (zeroWords (i.bytes / 8) 0 0 i.data).foldr (fun w n => w + n * 2 ^ 64) 0 else i.data

/-- Dawn writes an image. -/
def State.putImage (s : State) (i : Image) : State := s.writeRange i.addr.toNat i.bytes (imageContent i) dawnEp

/-- The channels that the LPDDR5X images of a stream lie in, by the map in force. -/
def State.imageChannels (s : State) (f : Stream) : List Nat :=
  f.images.flatMap (fun i =>
    if i.addr.toNat < 0x4000000000 then
      (if s.flag Reg.LPX_MAP_MODE 0 then List.range 16 else [i.addr.toNat / 2 ^ 34, (i.addr.toNat + i.bytes - 1) / 2 ^ 34])
    else [])

/-- A channel that an image needs has ended training FAILED. -/
def State.targetDown (s : State) (f : Stream) : Bool :=
  (s.imageChannels f).any (fun n => decide (s.getR Reg.LPX_STAT_CSTATE n = 4))

/-- A channel that an image needs is not READY yet (R609). -/
def State.targetWaits (s : State) (f : Stream) : Bool :=
  !s.targetDown f && (s.imageChannels f).any (fun n => decide (s.getR Reg.LPX_STAT_CSTATE n ≠ 2))

/-- Images other than those of system NVM are written, and their ranges guarded (R607). -/
def State.writeImages (s : State) (f : Stream) : State :=
  let l := f.images.filter memImage
  (l.foldl (fun t i => t.putImage i) s).modDawn (fun d => { d with images := l.map (fun i => (i.addr.toNat, i.bytes)) })

/-- The ranges of a failed configuration are set to zero: on-chip units by bulk invalidate, LPDDR5X by writes (R610). -/
def State.dropImages (s : State) : State :=
  (s.dawn.images.foldl (fun t r =>
    if r.1 < 0x4000000000 then t.writeRange r.1 r.2 0 dawnEp
    else match unitOf r.1, unitOf (r.1 + r.2 - 1) with
      | some a, some b => (List.range (b.1 - a.1 + 1)).foldl (fun u i => u.invalidate (a.1 + i)) t
      | some a, none => t.invalidate a.1
      | none, _ => t) s).modDawn (fun d => { d with images := [] })

/-! ### Full configuration (R609, R610, R624) -/

/-- Foreground access to every region under test (R697). -/
def State.touchRegions (s : State) (p : Nat → Bool) : State :=
  s.mid.foldl (fun t m => if m.cls = 0 ∧ p (midRegion m.bd m.index) = true then t.midTouch m.bd 0 m.index else t) s

/-- Dawn holds and isolates every region, clears configuration memory and takes every scratchpad bank (R609 steps 1 to 3); a handover in progress is
overridden and ends ABORTED. The readback engines start again at the first release that follows (R620). -/
def State.fullBegin (s : State) : State :=
  let t := s.touchRegions (fun _ => true)
  let t := (List.range 3072).foldl (fun u rg => (u.holdRegion rg).isolate rg 5) t
  let t := (t.clearFrames (fun _ => true)).modFab (fun f => { f with rels := [] })
  let t := ((t.modDawn (fun d => { d with readable := false, held := none, late := [] })).setR Reg.RBK_ON 0 0).setR Reg.BUF_ON 0 0
  (List.range 256).foldl (fun u b =>
    (if u.getR Reg.SPD_OWN_STATE b = 1 then u.setR Reg.SPD_OWN_STATE b 3 else u).setR Reg.SPD_OWN_EP b dawnEp) t

/-- Every entry has failed, or there is none to try (R624): regions stay isolated, the flash pins are let go. -/
def State.noCfg (s : State) : State :=
  (((s.setR Reg.DWN_BOOT_NOCFG 0 1).setR Reg.BOOT_STAGE 0 0).setR Reg.SVP_FLASH 0 0).setR Reg.SVP_PRECFG 0 1

/-- A boot has come to nothing: CFG_BOOT_FAIL (R624). -/
def State.bootFail (s : State) (code : Nat) : State := s.noCfg.raise dawnEp 0x0908 5 (s.dwnDetail code 0)

/-- A directory entry has failed: the next one is tried (R624). -/
def State.bootNext (s : State) (code : Nat) : State :=
  let e := s.getR Reg.DWN_BOOT_ENTRY 0 + 1
  if e < s.getR Reg.BOOT_COUNT 0 then
    let t := ((s.setR Reg.DWN_BOOT_ENTRY 0 e).setR Reg.BOOT_STAGE 0 2).setR Reg.BOOT_STALLS 0 0
    t.raise dawnEp 0x0907 2 (t.dwnDetail code 0)
  else s.bootFail code

/-- The operation in hand fails (R606, R610, R616): before the commit point of a staged operation nothing is undone. DESIGN CHOICE (log 92): STREAM_MIN and the
digest keep the earlier stream's values when a later full configuration fails and nothing of either stream is held; the spec does not say (R46, R610). -/
def State.opFail (s : State) (code : Nat) : State :=
  match s.dawn.op with
  | none => s
  | some o =>
    let boot := decide (o.src = 0)
    let t :=
      if o.part then
        (match o.committed, o.stream with
        | true, some f =>
          let m := maskOf f
          m.foldl (fun u rg => u.setCauses rg (5 :: (u.region rg).causes.filter (fun c => decide (c ≠ 2) && decide (c ≠ 5))))
            (s.clearFrames (fun rg => m.contains rg))
        | _, _ => s)
      else if boot || o.committed then (s.clearFrames (fun _ => true)).dropImages else s
    let t := (t.raise dawnEp 0x0903 4 (t.dwnDetail code 0)).opEnd 4 code
    if boot then t.bootNext code else t

/-- Dawn's register record names the owner of a bank. -/
def namesOwner (b : Nat) (r : RegRec) : Bool :=
  decide (r.addr.toNat = 0x6100D00000 + b / 64 * 0x1000000 + b % 64 * 4) && decide (r.mask.toNat % 2 ^ 16 ≠ 0)

/-- New firmware goes into the idle one of its two banks, and the selector flips (R608). -/
def State.putFirmware (s : State) (n base size : Nat) (fw : Option (Nat × Nat)) : State :=
  match fw with
  | none => s
  | some x =>
    let k := 1 - s.getR Reg.FW_SEL n
    ((s.writeRange (base + size * k) (min x.1 size) x.2 dawnEp).setR Reg.FW_SEL n k).wrapAdd Reg.FW_COUNT 0 1

/-- A release is scheduled, or waits for software (R617, R618). -/
def State.scheduleRelease (s : State) (hold : Bool) (l : List Nat) (cause : Nat) (cores : Bool) : State :=
  if hold then (s.modDawn (fun d => { d with held := some ⟨l, cause, cores⟩ })).setR Reg.DWN_STAT_PHASE 0 6
  else
    let rel : Release := ⟨l, s.time + 1048576, s.releaseS l, 0, cores, 0, cause⟩
    (s.modFab (fun f => { f with rels := Map.put f.rels s.newRel rel })).setR Reg.DWN_STAT_PHASE 0 7

/-- The commit point's actions of a full configuration, and its release (R608, R609, R617). -/
def State.fullCommit (s : State) (f : Stream) (boot : Bool) : State :=
  let t := s.writeFrames f
  let t := (f.images.filter nvmImage).foldl (fun u i => u.putImage i) t
  let t := if f.images.isEmpty then t else t.wrapAdd Reg.FW_COUNT 0 1
  let t := (t.putFirmware 0 0x7000400000 0x100000 f.sageFw).putFirmware 1 0x7000600000 0x80000 f.duskFw
  let t := (f.regs.filter (fun r => !isTioRecord r)).foldl (fun u r => u.writeRecord r) t
  let t := (List.range 256).foldl (fun u b =>
    if u.getR Reg.SPD_OWN_EP b = dawnEp ∧ f.regs.any (namesOwner b) = false then u.setR Reg.SPD_OWN_EP b 0xFFFC else u) t
  let t := t.restoreRam (fun _ => true)
  let t := t.modDawn (fun d => { d with
    images := []
    late := f.regs.filter isTioRecord
    readable := f.rbkOk && !f.enc && !f.legacy
    op := d.op.map (fun o => { o with committed := true, stream := some f }) })
  let t := if f.sysidV then took (execSysidWrite (BitVec.ofNat 32 f.sysid.toNat) t) t else t
  let t := (t.setR Reg.DEV_FEAT_STREAM_MIN 0 (if f.legacy then 1 else f.minFlevel.toNat)).setR Reg.DWN_DIGEST_V 0 f.digest.toNat
  let t := ((t.setR Reg.DWN_STAT_CONFIGURED 0 1).setR Reg.STREAM_SLOT 0 (if f.legacy then 0xFE else f.slot.toNat)).setR
    Reg.DWN_RELOAD_CTL_RELOAD_OK 0 0
  let t := ((if boot then t.setR Reg.SVP_FLASH 0 0 else t).setR Reg.DWN_BOOT_NOCFG 0 0).raise dawnEp 0x0902 0 (t.dwnDetail 0 0)
  t.scheduleRelease (f.relHold && !f.legacy) (List.range 3072) 5 (boot && f.coreStart && !f.legacy)

/-- A region that Dawn starts to boot from (R592 step 4, R593): LPDDR5X settings applied, training started, configuration memory cleared. -/
def State.bootEntry (s : State) (hdr : Option LpxHdr) : State :=
  let t := ((s.setR Reg.BOOT_STAGE 0 0).setR Reg.BOOT_STALLS 0 0).opStart false 0 0 0
  match hdr with
  | none => t.opFail 1
  | some h =>
    let t := took (execLpxMapWrite h.mode false t) t
    let t := (List.range 16).foldl (fun u n => (u.setR Reg.LPX_CFG_RATE n h.rate.toNat).setR Reg.LPX_CFG_INLINE n (bit h.inl)) t
    (t.lpxTrainAll.fullBegin).setR Reg.DWN_STAT_PHASE 0 2

/-- A directory has been read. -/
def State.bootDir (s : State) (copy : Bool) (count : Fin 4) (hdr : Option LpxHdr) : State :=
  (((s.setR Reg.DWN_BOOT_DIRCOPY 0 (bit copy)).setR Reg.BOOT_COUNT 0 (count.val + 1)).setR Reg.DWN_BOOT_ENTRY 0 0).bootEntry hdr

/-- Where byte `a` of a stream lies (R597): the flash device, and the address in it. With BOOTSRC 1 byte pairs alternate between the two devices. -/
def flashPlace (src a : Nat) : Nat × Nat := if src = 1 then (a / 2 % 2, a / 4 * 2 + a % 2) else (0, a)

/-- The reads of the boot directory (R596 to R598): the copy at 0, and the one at 0x1_0000 where the first is not right; 0xEE with extension 0x11 in 8D-8D-8D, 0x6C in
1S-1S-4S. -/
def dirReads (src : Nat) (second : Bool) : List FlashStep :=
  (if second then [0, 0x10000] else [0]).map (fun a => .read (if src = 2 then 0x6C else 0xEE11) (flashPlace src a).2)

/-- What Dawn does with its flash until it has read the boot directory (R596): the soft-reset pair in both modes, SFDP and 8D-8D-8D for an xSPI device; the reads. -/
def flashSteps (src : Nat) (second : Bool) : List FlashStep :=
  (if src = 2 then []
    else [.command false 0x66, .command false 0x99, .command true 0x66, .command true 0x99, .command false 0x5A, .enterOctal]) ++ dirReads src second

/-- Dawn works with its flash. -/
def State.flashDoes (s : State) (l : List FlashStep) : State := s.modDawn (fun d => { d with flash := d.flash ++ l })

/-- DAWN_BOOT_START (R592, R595, R598, R599): `dir` is what Dawn finds of the boot directory (the copy at 0x1_0000 used, entries less 1), `quad` the same after the
quad fallback, `hdr` the header of the entry in hand where it is valid; `bad` are the wires that fail the start-up test of the die links (R691), which is
through by now. -/
def execDawnBootStart (dir : Option (Bool × Fin 4)) (quad : Option (Bool × Fin 4)) (hdr : Option LpxHdr) (bad : List (Nat × Nat × Nat)) (s : State) :
    Result :=
  let src := s.getR Reg.DWN_BOOT_BOOTSRC 0
  if s.getR Reg.BOOT_STAGE 0 = 2 then .next (s.bootEntry hdr)
  else if s.getR Reg.BOOT_STAGE 0 ≠ 1 ∨ s.inReset = true then .next s
  else if src = 3 then .next (s.linkTest bad).noCfg
  else
    let t := (s.linkTest bad).setR Reg.SVP_FLASH 0 (1 + src)
    match dir with
    | some d => .next ((t.flashDoes (flashSteps src d.1)).bootDir d.1 d.2 hdr)
    | none =>
      let t := t.flashDoes (flashSteps src true)
      if src = 2 then .next (t.bootFail 14)
      else
        let t := (t.setR Reg.DWN_BOOT_QUAD_FB 0 1).setR Reg.SVP_FLASH 0 3
        let t := t.raise dawnEp 0x0909 2 (t.dwnDetail 0 0)
        match quad with
        | some d => .next ((t.flashDoes (flashSteps 2 d.1)).bootDir d.1 d.2 hdr)
        | none => .next ((t.flashDoes (flashSteps 2 true)).bootFail 14)

/-- The operation in hand reads its source. -/
def State.reading (s : State) : Bool := decide (s.getR Reg.DWN_STAT_STATE 0 = 1) && decide (s.getR Reg.DWN_STAT_PHASE 0 = 2)

/-- DAWN_FLASH_STALL (R599): the first stop of an entry makes Dawn read it again, the second ends it with code 14. -/
def execDawnFlashStall (s : State) : Result :=
  if s.reading && decide (s.getR Reg.DWN_STAT_SRC 0 = 0) then
    .next (if s.flag Reg.BOOT_STALLS 0 then s.opFail 14 else s.setR Reg.BOOT_STALLS 0 1)
  else .next s

/-! ### Reading and checking a stream (R606, R622) -/

/-- The code of the first check that a Yequemel stream fails (R622). -/
def State.legacyCode (s : State) (o : DawnOp) (f : Stream) : Nat :=
  if o.part || f.isPart || !s.flag Reg.SGE_LCS_LEGACY_OK 0 then 8
  else if !f.formed then 1
  else if f.crcBad then 9
  else if f.poisoned then 11
  else 0

/-- The code of the first check that a stream fails as it is read, 0 where it passes (R606, R614). -/
def State.readCode (s : State) (o : DawnOp) (f : Stream) : Nat :=
  let m := maskOf f
  if f.legacy then s.legacyCode o f
  else if !f.formed || decide (f.isPart ≠ o.part) then 1
  else if s.getR Reg.DEV_FEAT_PKG_FLEVEL 0 < f.minFlevel.toNat then 2
  else if f.isPart && (!f.images.isEmpty || f.sageFw.isSome || f.duskFw.isSome
      || (f.frames ++ f.errata.flatMap (fun e => e.frames)).any (fun r => !m.contains (frameRegion r.addr.toNat))
      || f.regs.any (fun r => !s.recordIn m r)) then 3
  else if (f.items ++ f.errata.flatMap (fun e => e.items)).any (fun it => match it with
      | .select _ _ ins => !oneHot ins
      | _ => false) then 10
  else if f.poisoned then 11
  else 0

/-- A stream has been read: its images are in place (for a boot), and Sage verifies it. -/
def State.streamRead (s : State) (o : DawnOp) (f : Stream) : State :=
  let code := s.readCode o f
  let t := if code = 2 then s.raise dawnEp 0x0901 4 (s.getR Reg.DEV_FEAT_PKG_FLEVEL 0 + f.minFlevel.toNat * 2 ^ 8) else s
  if code ≠ 0 then t.opFail code
  else if o.src = 0 ∧ s.targetDown f = true then s.opFail 16
  else
    let t := s.modDawn (fun d => { d with op := some { o with stream := some f } })
    if !f.legacy then (if o.src = 0 then t.writeImages f else t).setR Reg.DWN_STAT_PHASE 0 3
    else if o.src = 0 then t.fullCommit f true
    else (t.fullBegin.modDawn (fun d => { d with op := some { o with stream := some f, committed := true } })).setR Reg.DWN_STAT_PHASE 0 5

/-- DAWN_STREAM_READ_DONE as a state: a boot's image waits for its LPDDR5X channel (R609). -/
def State.streamReadDone (s : State) (f : Stream) : State :=
  match s.dawn.op with
  | some o =>
    if s.reading && !(decide (o.src = 0) && decide (s.readCode o f = 0) && s.targetWaits f) then s.streamRead o f else s
  | none => s

/-- The key that a stream names is permitted, usable and, for an encrypted stream, has an OSK (R628, R638, R639). -/
def State.streamKey (s : State) (f : Stream) (hashed : Bool) : Bool :=
  let n := f.slot.toNat
  (if s.getR Reg.SGE_LCS_STATE 0 = 2 then decide (n < 4) && s.slotLive n && hashed else decide (n = 0xFF))
    && (!f.enc || (decide (n < 4) && nbit (s.getR Reg.SGE_LCS_OSK 0) n))

/-- The code of the first check that verification fails (R606). -/
def State.verifyCode (s : State) (f : Stream) (v : StreamCheck) : Nat :=
  if !s.streamKey f v.hashed then 7
  else if f.enc && !v.gcm then 6
  else if !v.rsa then 4
  else if !v.slh then 5
  else 0

/-- A LIVE contract has a rigid endpoint at the NAP of a region (R615). -/
def State.rigidNap (s : State) (rg : Nat) : Bool :=
  (s.contractsAt (napEp rg)).any (fun i => decide (s.cstate i = 1)
    && ((s.flag Reg.THY_CT_CFG_RIGID_SRC i && decide (s.getR Reg.THY_CT_EP_SRC i = napEp rg))
      || (s.flag Reg.THY_CT_CFG_RIGID_DST i && decide (s.getR Reg.THY_CT_EP_DST i = napEp rg))))

/-- The contract check of a partial configuration, and its commit point (R615): every mask region is to be isolated at its next edge, when its
elastic contracts are suspended. -/
def State.partCommit (s : State) (f : Stream) : State :=
  let m := maskOf f
  let t := s.setR Reg.DWN_STAT_PHASE 0 4
  if m.any s.rigidNap then t.opFail 12
  else if m.any (fun rg => (s.region rg).causes.contains 4) then t.opFail 15
  else
    let t := (t.touchRegions (fun rg => m.contains rg)).modDawn (fun d => { d with op := d.op.map (fun o => { o with committed := true }) })
    (m.foldl (fun u rg => u.modRegion rg (fun r => { r with isoPend := r.isoPend ++ [(2, 0)] })) t).setR Reg.DWN_STAT_PHASE 0 5

/-- Sage has verified the stream in hand (R607, R609, R612, R615, R632). -/
def State.verified (s : State) (o : DawnOp) (f : Stream) (v : StreamCheck) : State :=
  let t := s.keyMismatch f.slot.toNat v.hashed
  let code := s.verifyCode f v
  if code ≠ 0 then t.opFail code
  else if o.part then t.partCommit f
  else if o.src = 0 then t.fullCommit f true
  else (t.fullBegin.modDawn (fun d => { d with op := some { o with committed := true } })).setR Reg.DWN_STAT_PHASE 0 5

/-- DAWN_VERIFY_DONE as a state. -/
def State.verifyDone (s : State) (v : StreamCheck) : State :=
  match s.dawn.op with
  | some o =>
    (match o.stream with
    | some f => if s.getR Reg.DWN_STAT_PHASE 0 = 3 then s.verified o f v else s
    | none => s)
  | none => s

/-! ### Staged operations (R611 to R613, R544) -/

/-- The source of a staged stream is one that Dawn takes (R611). -/
def State.sourceOk (s : State) (part : Bool) (addr len : Nat) : Bool :=
  decide (addr + len ≤ 0x4000000000)
    || (decide (0x4000000000 ≤ addr) && decide (addr + len ≤ 0x4004000000) && decide (0 < len)
      && (spdBanks addr len).all (fun b => decide (s.getR Reg.SPD_OWN_EP b = dawnEp)) && (!part || decide (len ≤ 2 ^ 26)))

/-- Nothing stands against a staged full configuration (R612). -/
def State.quiet (s : State) : Bool :=
  s.contractIds.all (fun i => decide (s.cstate i = 0))
    && (List.range 16).all (fun n => !atWork (s.getR Reg.PGE_STAT_STATE n) && !atWork (s.getR Reg.FCE_STAT_STATE n)
      && decide (s.getR Reg.FCE_STAT_STATE n ≠ 6))
    && (List.range 128).all (fun m => !atWork (s.getR Reg.MSP_STAT_STATE m))

/-- A GO of a staged operation (R611, R612): ignored while Dawn's one slot is taken, by an operation or by a boot. -/
def State.stageGo (s : State) (part : Bool) (src addr len : Nat) : State :=
  if s.getR Reg.DWN_STAT_STATE 0 = 1 ∨ s.getR Reg.BOOT_STAGE 0 ≠ 0 then s
  else
    let t := s.opStart part src addr len
    if !part && !s.quiet then t.opFail 12
    else if !s.sourceOk part addr len then t.opFail 13
    else t.bufferBegin.setR Reg.DWN_STAT_PHASE 0 2

/-- The GO of DWN_CTL. -/
def State.dwnGo (s : State) : State :=
  s.stageGo (s.flag Reg.DWN_CTL_KIND 0) 1 (s.getR Reg.DWN_SRC_ADDR 0) (s.getR Reg.DWN_SRC_LEN_BYTES 0)

/-- DWN_GO (R611, R625): a write of DWN_CTL with KIND and GO. -/
def execDwnGo (part : Bool) (req : BitVec 16) (s : State) : Result :=
  .next (if isMgmt req.toNat then ((s.respond 0 0).setR Reg.DWN_CTL_KIND 0 (bit part)).dwnGo else s.denied)

/-- The GO of PCI_STAGE_CTL (R544). -/
def State.pciStageGo (s : State) : State :=
  s.stageGo (s.flag Reg.PCI_STAGE_CTL_KIND 0) 2 (s.getR Reg.PCI_STAGE_ADDR_ADDR 0) (s.getR Reg.PCI_STAGE_LEN_BYTES 0)

/-- PCI_STAGE_GO (R544). -/
def execPciStageGo (req : BitVec 16) (kind : Bool) (s : State) : Result :=
  .next (if isMgmt req.toNat then ((s.respond 0 0).setR Reg.PCI_STAGE_CTL_KIND 0 (bit kind)).pciStageGo else s.denied)

/-- An ABORT of a staged operation (R38, R613); a boot cannot be aborted. -/
def State.stageAbort (s : State) (src : Nat) : State :=
  match s.dawn.op with
  | none => s
  | some o =>
    if o.src ≠ src then s
    else if o.committed then (s.setR Reg.DWN_STAT_ABORT_LATE 0 1).stageMirror
    else (s.raise dawnEp 0x0904 0 (s.dwnDetail 0 0)).opEnd 3 0

/-- DWN_ABORT (R613). -/
def execDwnAbort (req : BitVec 16) (s : State) : Result :=
  .next (if isMgmt req.toNat then (s.respond 0 0).stageAbort 1 else s.denied)

/-- PCI_STAGE_ABORT (R544, R613). -/
def execPciStageAbort (req : BitVec 16) (s : State) : Result :=
  .next (if isMgmt req.toNat then (s.respond 0 0).stageAbort 2 else s.denied)

/-- The second reading of a staged stream ends (R612, R615, R616): what the operation writes is written, and the release scheduled. -/
def State.applied (s : State) (o : DawnOp) (f : Stream) (poison : Bool) : State :=
  let m := maskOf f
  if o.part then
    if !m.all (fun rg => (s.region rg).causes.contains 2) then s
    else if poison then (m.foldl (fun u rg => u.holdRegion rg) s).opFail 11
    else
      let t := (m.foldl (fun u rg => u.holdRegion rg) s).writeFrames f
      let t := (f.regs.foldl (fun u r => u.writeRecord r) t).restoreRam (fun rg => m.contains rg)
      t.bufferEnd.scheduleRelease f.relHold m 2 false
  else if poison then s.opFail 11
  else if s.targetDown f then s.opFail 16
  else if s.targetWaits f then s
  else (s.writeImages f).fullCommit f false

/-- DAWN_APPLY_DONE as a state. -/
def State.applyDone (s : State) (poison : Bool) : State :=
  match s.dawn.op with
  | some o =>
    (match o.stream with
    | some f => if o.committed && decide (s.getR Reg.DWN_STAT_PHASE 0 = 5) then s.applied o f poison else s
    | none => s)
  | none => s

/-! ### Release (R139, R140, R617, R618) -/

/-- A held release's GO (R618): refused where time is not in step or AT is too near. -/
def State.relGo (s : State) : State :=
  let at_ := s.getR Reg.DWN_REL_AT_AT 0
  let st := s.getR Reg.TBS_SYNC_STAT_SYNC_STATE 0
  match s.dawn.held with
  | none => s
  | some h =>
    if (st ≠ 3 ∧ st ≠ 5 ∧ s.role ≠ 2) ∨ before at_ (plusTicks s.time.toNat 1048576) = true then s.setR Reg.DWN_REL_CTL_REJ 0 1
    else
      let rel : Release := ⟨h.regions, BitVec.ofNat 64 at_, s.releaseS h.regions, 0, h.cores, 0, h.cause⟩
      ((s.modDawn (fun d => { d with held := none })).modFab (fun f => { f with rels := Map.put f.rels s.newRel rel })).setR
        Reg.DWN_STAT_PHASE 0 7

/-- DWN_REL_GO (R618). -/
def execDwnRelGo (req : BitVec 16) (s : State) : Result := .next (if isMgmt req.toNat then (s.respond 0 0).relGo else s.denied)

/-- A release in progress. -/
def State.rel (s : State) (n : Nat) : Option Release := Map.find s.fab.rels n

/-- Put a release. -/
def State.putRel (s : State) (n : Nat) (r : Release) : State := s.modFab (fun f => { f with rels := Map.put f.rels n r })

/-- The time of a release's next step. -/
def relTime (r : Release) : Nat := plusTicks r.tr.toNat (r.s * r.done)

/-- Every region of a release is to take a step (R139). -/
def State.askAll (s : State) (r : Release) (step : Nat) : State := r.regions.foldl (fun u rg => u.askStep rg step r.cause) s

/-- The OUTHOLD step (R139, R140, R170, R618, R704): what a full configuration left for it follows. -/
def State.outhold (s : State) (n : Nat) (r : Release) : State :=
  let t := s.askAll r 0
  let t := if s.jumped r.tr.toNat then t.raise dawnEp 0x0906 3 (s.dwnDetail 0 r.tr.toNat) else t
  let t :=
    if r.cause = 5 then
      (((t.dawn.late.foldl (fun u x => u.writeRecord x) t).modDawn (fun d => { d with late := [] })).setR Reg.SVP_PRECFG 0 0).setR
        Reg.RBK_ON 0 1
    else t
  t.putRel n { r with done := 1 }

/-- OUTHOLD_RELEASE (R139, R140, R617): release `rel`. -/
def execOutholdRelease (rel : Nat) (s : State) : Result :=
  match s.rel rel with
  | some r => s.when (decide (r.done = 0) && decide (r.restoring = 0) && s.dueAt (relTime r)) (s.outhold rel r)
  | none => .next s

/-- WRHOLD_RELEASE (R139, R140, R617). -/
def execWrholdRelease (rel : Nat) (s : State) : Result :=
  match s.rel rel with
  | some r => s.when (decide (r.done = 1) && s.dueAt (relTime r)) ((s.askAll r 1).putRel rel { r with done := 2 })
  | none => .next s

/-- Control cores start at their boot addresses (R555, R617). -/
def State.startCores (s : State) : State :=
  (List.range 4).foldl (fun t n => (t.setR Reg.HART_RUN n 1).setR Reg.HART_PC n (t.getR Reg.CTL_BOOT_ADDR n)) s

/-- The STHOLD step ends a release (R140, R159, R617, R618), and with it Dawn's operation. -/
def State.sthold (s : State) (n : Nat) (r : Release) : State :=
  let t := (s.askAll r 2).modFab (fun f => { f with rels := Map.erase f.rels n })
  let t := if r.cores && decide (s.pstate 125 = 0) then t.startCores else t
  let own := s.dawn.op.isSome && (decide (r.cause = 2) || decide (r.cause = 5))
  let t := if r.cause = 2 ∧ own = true then t.raise dawnEp 0x0902 0 (s.dwnDetail 0 0) else t
  let t := if r.cause = 1 then t else t.raise dawnEp 0x0905 0 ((if own then s.dwnDetail 0 0 else 0) + r.tr.toNat * 2 ^ 64)
  if own then t.opEnd 2 0 else t

/-- STHOLD_RELEASE (R139, R140, R142, R617). -/
def execStholdRelease (rel : Nat) (s : State) : Result :=
  match s.rel rel with
  | some r => s.when (decide (r.done = 2) && s.dueAt (relTime r)) (s.sthold rel r)
  | none => .next s

/-- Every RAM block is restored once no restart waits for its own: T_r of each lies at least 2^20 ticks after the trigger and after this (R141). -/
def State.restored (s : State) : State :=
  if s.fab.rels.any (fun e => decide (e.2.restoring = 1)) then s
  else s.modFab (fun f => { f with rels := f.rels.map (fun e =>
    if e.2.restoring = 2 then (e.1, { e.2 with restoring := 0, tr := if before e.2.tr.toNat s.time.toNat then s.time else e.2.tr }) else e) })

/-- RAM_RESTORE_DONE (R141): every RAM block of a restart has its contents again. -/
def execRamRestoreDone (rel : Nat) (s : State) : Result :=
  match s.rel rel with
  | some r => s.when (decide (r.restoring = 1)) ((s.restoreRam (fun rg => r.regions.contains rg)).putRel rel { r with restoring := 2 }).restored
  | none => .next s

/-! ### Readback (R619 to R621) -/

/-- A select back at what configuration gave it (R161, R620). -/
def State.restoreSel (s : State) (rg mux : Nat) : State :=
  s.modIc (fun i => { i with sels := Map.set [] i.sels (muxKey rg mux) (Map.get [] i.cfgSels (muxKey rg mux)) })

/-- A region is rewritten from the reload image and released (R621). -/
def State.reloadRegion (s : State) (rg : Nat) : State :=
  let t := s.holdRegion rg
  let t := t.modIc (fun i => { i with sels := i.cfgSels.foldl (fun m e => if e.1 / 2 ^ 18 = rg then Map.set [] m e.1 e.2 else m) (outside
    (fun x => decide (x = rg)) (2 ^ 18) i.sels) })
  let t := t.restoreRam (fun x => decide (x = rg))
  let rel : Release := ⟨[rg], t.time + 1048576, t.releaseS [rg], 0, false, 0, 3⟩
  t.modFab (fun f => { f with rels := Map.put f.rels t.newRel rel })

/-- A multi-bit error of a region's frame (R620). -/
def State.frameMbu (s : State) (rg a : Nat) : State :=
  let t := ((s.satAdd Reg.DWN_RBFD_CNT_MBE (rg / 384) 1).setR Reg.DWN_RBFD_LAST_FRAME (rg / 384) a).setR Reg.FAB_RGN_RBK_MBE rg 1
  let t := t.raise dawnEp 0x090B 4 (frameDetail a)
  match s.getR Reg.FAB_RGN_RBK_POLICY rg with
  | 0 => t
  | 2 => let u := t.isolate rg 3; if s.flag Reg.DWN_RELOAD_CTL_RELOAD_OK 0 then u.reloadRegion rg else u
  | _ => t.isolate rg 3

/-- DAWN_READBACK_SCAN (R620, R621): the engine of an FD checks a frame. -/
def execDawnReadbackScan (fd : Fin 8) (rgn_ : Fin 384) (index : BitVec 8) (found : FrameCheck) (s : State) : Result :=
  let rg := rgn fd rgn_
  let a := frameAddr rg index.toNat
  if !s.flag Reg.RBK_ON 0 || !s.flag Reg.DWN_RBFD_CTL_EN fd then .next s
  else
    let t := if rgn_.val = 383 ∧ index = 255 then s.wrapAdd Reg.DWN_RBFD_SCANS_COUNT fd 1 else s
    if (s.region rg).causes.contains 2 || (s.region rg).causes.contains 5 then .next t
    else match found with
      | .clean => .next t
      | .single m =>
        let t := (t.satAdd Reg.DWN_RBFD_CNT_SBE fd 1).raise dawnEp 0x090A 1 (frameDetail a)
        .next (match m with | some x => t.restoreSel rg x | none => t)
      | .multi => .next (t.frameMbu rg a)

/-- A write of DWN_RELOAD_CTL (R621, R625): EN at 1 makes Dawn hash the reload image; any write clears RELOAD_OK. -/
def State.reloadEnable (s : State) (en : Bool) : State :=
  ((s.setR Reg.DWN_RELOAD_CTL_RELOAD_OK 0 0).setR Reg.DWN_RELOAD_CTL_EN 0 (bit en)).setR Reg.RELOAD_HASH 0 (bit en)

/-- DAWN_RELOAD_ENABLE (R621). -/
def execDawnReloadEnable (en : Bool) (req : BitVec 16) (s : State) : Result :=
  .next (if isMgmt req.toNat then (s.respond 0 0).reloadEnable en else s.denied)

/-- DAWN_RELOAD_HASH_DONE (R621). -/
def execDawnReloadHashDone (digest : BitVec 384) (s : State) : Result :=
  s.when (s.flag Reg.RELOAD_HASH 0)
    ((s.setR Reg.RELOAD_HASH 0 0).setR Reg.DWN_RELOAD_CTL_RELOAD_OK 0 (bit (decide (s.getR Reg.DWN_DIGEST_V 0 = digest.toNat))))

end Sys2Proof.Machine
end

