-- ==== Sys2Proof/Machine/Reset.lean ====
section
/-!
DEFINITION. The reset classes, what triggers them, and what starts the device again (R32 to R36, R41, R57, R141, R492, R545, R546, R568, R577, R592,
R646, R674, R690, R730, R745, R750); the deskew loops and a lost time PLL (R51, R52, R73).
-/

namespace Sys2Proof.Machine

/-! ### What a reset keeps -/

/-- Fuses, and what the model keeps of the NVM's contents beside its words: kept by every reset (R32). -/
def fuseFields : List Field :=
  [Reg.DEV_SERIAL_SERIAL, Reg.DEV_DIEREV_LETTER, Reg.DEV_DIEREV_DIGIT, Reg.DEV_DIEREV_FLEVEL, Reg.DEV_DIEREV_LINKGEN, Reg.DEV_DIEREV_TYPE,
    Reg.SGE_LCS_STATE, Reg.SGE_LCS_RETURN, Reg.SGE_LCS_LEGACY_OK, Reg.SGE_LCS_VALID, Reg.SGE_LCS_REVOKED, Reg.SGE_LCS_SPOILED,
    Reg.SGE_LCS_OSK, Reg.SGE_LCS_LIVE, Reg.FW_COUNT, Reg.FW_SEL, Reg.DRAM_GEN]

/-- Straps and supplies as they were sensed when power-on reset ended (R57, R595, R703). -/
def strapFields : List Field := [Reg.DWN_BOOT_BOOTSRC, Reg.SVP_BANK_STAT_V33_0, Reg.SVP_BANK_STAT_V33_1]

/-- Fields of device reset class in the table of power-on class (R588). -/
def seqAbortFields : List Field :=
  [Reg.DBG_SEQ_ABORT_SVP, Reg.DBG_SEQ_ABORT_FORCE, Reg.DBG_SEQ_ABORT_SPATCH, Reg.DBG_SEQ_ABORT_DPATCH, Reg.DBG_SEQ_ABORT_NVM]

/-- Dusk's share of the arrays that it has with other processors: its hart and its watchdog are number 5 (R586, R651). -/
def duskFields : List Field :=
  [Reg.HART_RUN, Reg.HART_HALT, Reg.HART_PC, Reg.HART_RESV, Reg.CTL_WDT_CFG_PERIOD, Reg.CTL_WDT_CFG_EN, Reg.CTL_WDT_CFG_FREEZE,
    Reg.CTL_WDT_CFG_ACTION, Reg.CTL_WDT_STAT_COUNT, Reg.CTL_WDT_STAT_STAGE, Reg.CTL_WDT_STAT_PAUSED, Reg.WDT_OPEN]

/-- The settings of a watchdog. -/
def wdtCfgFields : List Field := [Reg.CTL_WDT_CFG_PERIOD, Reg.CTL_WDT_CFG_EN, Reg.CTL_WDT_CFG_FREEZE, Reg.CTL_WDT_CFG_ACTION]

/-- A field number is one of a list's. -/
def inFields (l : List Field) (id : Nat) : Bool := l.any (fun f => decide (f.id = id))

/-- A register word that a device reset keeps (R32): power-on class, fuses and straps, and Dusk's. -/
def keptKey (k : Nat) : Bool :=
  let id := k % Field.idBound
  let i := k / Field.idBound
  (decide (id < Reg.porTop) && !inFields seqAbortFields id) || inFields fuseFields id || inFields strapFields id
    || (decide (i = 5) && inFields duskFields id) || (decide (i = 4) && inFields wdtCfgFields id)
    || ((decide (i = 1) || decide (i = 3)) && inFields [Reg.KEY_STAGE, Reg.KEY_REQ] id)

/-- The words of the system NVM (R635). -/
def nvmWordsOf (m : Map MemWord) : Map MemWord := m.filter (fun e => decide (0x7000000000 / 8 ≤ e.1) && decide (e.1 < 0x7000800000 / 8))

/-- The user NVM words when every write that has started in its array has ended, one in each bank (R133). -/
def State.startedWrites (s : State) : State :=
  s.fab.nvms.foldl (fun t e => (List.range 4).foldl (fun u b =>
    match e.2.buf.find? (fun w => decide (w.addr / 8192 = b)) with
    | some w => u.putNvmWord e.1 w.addr ⟨w.data, none⟩
    | none => u) t) s

/-- The state after reset with what no reset touches: the queue of commands, the count of free values, the response last given; NVM words, the fuse map of
the memories, Sage's NVM; user NVM writes that had started; and PERST_N, which is the host's. -/
def State.bare (s : State) (regs : Map Nat) : State :=
  let z := State.reset
  let n : Sage := ⟨s.sage.keys, s.sage.chains, s.sage.store, s.sage.marker, none, 0, false, none, none, none⟩
  { z with
    pending := s.pending
    free := s.free
    resp := s.resp
    regs := regs
    fab := { z.fab with nvmWords := s.startedWrites.fab.nvmWords }
    mem := nvmWordsOf s.mem
    chip := { z.chip with fuseMap := s.chip.fuseMap }
    sage := n
    pcie := { z.pcie with perst := s.pcie.perst } }

/-! ### Start-up (R592 steps 1 and 2) -/

/-- The package feature level: the lowest of the twelve dies (R41). -/
def State.featureLevel (s : State) : Nat :=
  (List.range 12).foldl (fun n i => min n (s.getR Reg.DEV_DIEREV_FLEVEL i)) 255

/-- SYNCROLE loads ROLE (R57). -/
def State.loadRole (s : State) : State :=
  if s.flag Reg.STRAP_SYNCROLE 0 then (s.setR Reg.TBS_SYNC_CTL_ROLE 0 1).enterMaster else s.setR Reg.TBS_SYNC_CTL_ROLE 0 0

/-- Sage reconstructs the device key from the PUF and the helper data, where there are any, and derives the KEK and the identity seed (R633). -/
def State.deriveKeys (s : State) : State := s.modSage (fun g => { g with dev := if g.store then some deviceKeys else none })

/-- Feature level, role, memory sparing, Sage's keys. -/
def State.startUp (s : State) : State :=
  (((s.setR Reg.DEV_FEAT_PKG_FLEVEL 0 s.featureLevel).loadRole).applySparing).deriveKeys

/-! ### Device reset -/

/-- Domains that a force holds off stay off, every other one is on (R750); an operation of the power slot is discarded (R33). -/
def State.resetDomains (s : State) : State :=
  let t := (List.range 127).foldl (fun u d =>
    if u.forced d then u.cutPower d
    else (((u.setR Reg.DSK_PSTATE d 0).setR Reg.PW_COMMIT d 0).setR Reg.PW_WAKE d 0).setR Reg.PW_FPEND d 0) s
  if s.getR Reg.DSK_PWR_STAT_STATE 0 = 1 then (t.setR Reg.DSK_PWR_STAT_STATE 0 0).setR Reg.PW_SLOT 0 0 else t

/-- The debug module after a device reset: a session that survives ndmreset keeps it, with its harts reset and those with resethaltreq asked to halt
(R568); the DRW receiver is Dusk's (R575). -/
def State.resetDbg (s : State) (keep : Bool) : Dbg :=
  if keep then { s.dbg with
    havereset := List.range 5 ++ s.dbg.havereset.filter (fun n => decide (5 ≤ n))
    haltreq := s.dbg.resetHalt
    hregs := s.dbg.hregs.filter (fun e => decide (e.1 / 65536 = 5)) }
  else { State.reset.dbg with
    havereset := List.range 5 ++ s.dbg.havereset.filter (fun n => decide (5 ≤ n))
    frame := s.dbg.frame
    resetLow := s.dbg.resetLow }

/-- Dusk's watchdog goes on at its count, Sage's starts again with Sage. -/
def State.resetWdt (s old : State) : State :=
  (s.putCount 5 (old.wdtCount 5)).putCount 4 (s.wdtPeriod 4)

/-- The key sequences of the Dusk domain go on at their age. -/
def State.resetKeys (s old : State) : State :=
  (s.setR Reg.KEY_T 1 (2 ^ 64 - old.keyAge 1)).setR Reg.KEY_T 3 (2 ^ 64 - old.keyAge 3)

/-- A device reset but for its cause (R32, R750): `keep` says that the debug session survives (R568). The LPDDR5X contents are lost (R509); with no session
kept, an open one closes (R574). -/
def State.deviceReset (s : State) (keep : Bool) : State :=
  let open_ := decide (s.getR Reg.DBG_SESS_STATE 0 ≠ 0) && !keep
  let c := if open_ then s.sessionClose else s
  let t := (c.bare (c.regs.filter (fun e => keptKey e.1))).modDbg (fun _ => c.resetDbg keep)
  let t := ((((t.wrapAdd Reg.DRAM_GEN 0 1).resetDomains).resetWdt c).resetKeys c).startUp
  let t := if open_ then (t.raise debugEp 0x0F06 0 (dbgDetail 0 s.transport)).irqEdge 11 else t
  t.alerts

/-- A device reset with its bit of DEV_RST_CAUSE (R36). Power-on reset absorbs it, and a reset low on DRST_N, of the same class, merges with it (R33). -/
def State.deviceResetBy (s : State) (cause : Field) (keep : Bool := false) : State :=
  if s.flag Reg.POR_HELD 0 then s
  else if s.dbg.resetLow then s.setR cause 0 1
  else (s.deviceReset keep).setR cause 0 1

/-- DEV_RST_DEVICE (R34): with a wrong key, BADKEY. -/
def execDevRstDevice (key : BitVec 16) (s : State) : Result :=
  if key = 0xA11C then .next (s.deviceResetBy Reg.DEV_RST_CAUSE_SWDEV) else .next (s.setR Reg.DEV_RST_CAUSE_BADKEY 0 1)

/-- DM_NDMRESET (R568): below Full it is refused. -/
def execDmNdmreset (s : State) : Result :=
  s.when (decide (s.level = 2)) (s.deviceResetBy Reg.DEV_RST_CAUSE_DBG (decide (s.getR Reg.DBG_SESS_STATE 0 ≠ 0)))

/-! ### DRST_N (R576, R577) -/

/-- DRW_RESET_LOW: a low of 20 µs. While power-on reset is asserted it extends that. -/
def execDrwResetLow (s : State) : Result :=
  let t := s.modDbg (fun d => { d with frame := false })
  if s.inReset then .next (t.modDbg (fun d => { d with resetLow := true }))
  else if s.flag Reg.DBG_SESS_MASK 0 then .next ((t.satAdd Reg.DBG_DRW_STAT_MASKED 0 1).raise debugEp 0x0F0A 2 (dbgDetail 0 0 s.level))
  else .next ((t.modDbg (fun d => { d with resetLow := true })).deviceReset false)

/-- DRW_RESET_RELEASE: the device leaves the reset. -/
def execDrwResetRelease (s : State) : Result :=
  if s.dbg.resetLow then
    let t := s.modDbg (fun d => { d with resetLow := false })
    .next (if s.flag Reg.POR_HELD 0 then t else t.setR Reg.DEV_RST_CAUSE_DRW 0 1)
  else .next s

/-! ### Power-on reset (R730) -/

/-- POWER_ON_RESET: everything but fuses, NVM and the board's levels. -/
def execPowerOnReset (s : State) : Result :=
  .next (((s.bare (s.regs.filter (fun e => inFields fuseFields (e.1 % Field.idBound)))).setR Reg.POR_HELD 0 1).wrapAdd Reg.DRAM_GEN 0 1)

/-- Sage finds RET blown with the erase marker, and completes the erase (R646). -/
def State.resumeErase (s : State) : State :=
  if s.sage.marker && decide (s.getR Reg.SGE_LCS_STATE 0 = 3) then s.sageErase.raise sageEp 0x0A07 2 (sageDetail 0 0 0 3) else s

/-- POWER_ON_RESET_END: the straps and the service-pin supplies as sampled. A reset low extends the reset (R577). -/
def execPowerOnResetEnd (syncrole : Bool) (bootsrc : Fin 4) (pullUp : Bool) (vio : BitVec 2) (s : State) : Result :=
  if s.flag Reg.POR_HELD 0 && !s.dbg.resetLow then
    let t := ((s.setR Reg.POR_HELD 0 0).setR Reg.STRAP_SYNCROLE 0 (bit syncrole)).setR Reg.STRAP_PRECFG_PU 0 (bit pullUp)
    let t := ((t.setR Reg.DWN_BOOT_BOOTSRC 0 bootsrc).setR Reg.SVP_BANK_STAT_V33_0 0 vio.toNat).setR Reg.SVP_BANK_STAT_V33_1 0 (vio.toNat / 2)
    .next t.startUp.resumeErase
  else .next s

/-! ### Warm fabric reset (R141) -/

/-- A region that a warm fabric reset releases afresh: configured, and in no release under way. -/
def State.warmRegion (s : State) (rg : Nat) : Bool := s.configuredRegion rg && !s.fab.rels.any (fun e => e.2.regions.contains rg)

/-- A warm fabric reset: every region is to be held at its next edge; releases under way start again, and every other configured region is released. -/
def State.warmNow (s : State) : State :=
  let l := (List.range 3072).filter s.warmRegion
  let t := ((List.range 3072).filter (fun rg => !s.held rg)).foldl (fun u rg => u.askStep rg 3 0) s
  let t := t.modFab (fun f => { f with rels := f.rels.map (fun e => (e.1, { e.2 with
    tr := s.time + 1048576
    s := s.releaseAll
    done := 0
    restoring := 1 })) })
  (t.restartRel l 0).setR Reg.DEV_RST_CAUSE_WARM 0 1

/-- A warm fabric reset, which a reset of a higher class that holds the device absorbs (R33). -/
def State.warmReset (s : State) : State := if s.inReset then s else s.warmNow

/-- DEV_RST_WARM (R34): with a wrong key, BADKEY. -/
def execDevRstWarm (key : BitVec 16) (s : State) : Result :=
  if key = 0xA11C then .next s.warmReset else .next (s.setR Reg.DEV_RST_CAUSE_BADKEY 0 1)

/-! ### PCIe hot reset and function-level reset (R545, R546) -/

/-- The PCIe hot class. A staging operation handed to Dawn continues. A warm fabric reset that comes with it, or is under way, acts beside it: DESIGN CHOICE
(notes/assumptions/77). -/
def State.hotNow (s : State) : State :=
  let t := s.modRegs (fun m => m.filter (fun e =>
    !(decide (Reg.porTop ≤ e.1 % Field.idBound) && decide (e.1 % Field.idBound < Reg.hotTop))))
  let t := (t.modPcie (fun _ => { State.reset.pcie with perst := s.pcie.perst })).pcieLines
  let t := if s.getR Reg.DBG_SESS_STATE 0 = 2 then t.sessionClose else t
  let t := (t.setR Reg.DEV_RST_CAUSE_HOT 0 1).raise pcieEp 0x0E04 0 (pcieDetail 0)
  if s.flag Reg.DEV_RST_CFG_HOT_WARM 0 then t.warmReset else t

/-- A PCIe hot reset, which a reset of a higher class that holds the device absorbs (R33). -/
def State.hotReset (s : State) : State := if s.inReset then s else s.hotNow

/-- PCIE_LINK_DOWN (R545, R549). -/
def execPcieLinkDown (s : State) : Result :=
  s.when (s.flag Reg.PCI_STAT_LINK_UP 0) (s.raise pcieEp 0x0E02 2 (pcieDetail 0)).hotReset

/-- PCIE_HOT_RESET (R545): in band, or by PERST_N low. -/
def execPcieHotReset (perst : Bool) (s : State) : Result :=
  if perst then .next (s.modPcie (fun p => { p with perst := false })).hotReset
  else s.when (s.flag Reg.PCI_STAT_LINK_UP 0) s.hotReset

/-- PCI_FLR (R546): of a function that is enabled. -/
def execPciFlr (func : Fin 34) (s : State) : Result :=
  let fn := func.val
  if !s.fnEnabled fn then .next s
  else
    let t := (s.dmaFlr fn).modPcie (fun p => { p with
      reads := p.reads.filter (fun r => !decide (r.fn = fn))
      bme := listed p.bme fn false
      d3 := listed p.d3 fn false
      msixOn := listed p.msixOn fn false
      msixMask := listed p.msixMask fn false
      numVfs := if fn = 1 then 0 else p.numVfs
      msix := p.msix.filter (fun e => !decide (e.1 / 64 = fn)) })
    let t := if fn = 1 then t.setR Reg.PCI_DB_PF1 0 0 else if 2 ≤ fn then t.setR Reg.PCI_DB_VF 0 (clrBit (t.getR Reg.PCI_DB_VF 0) (fn - 2)) else t
    let t :=
      if fn = 0 then
        let u := t.resetFields [Reg.PCI_MBX_H2D_LEN, Reg.PCI_MBX_H2D_FULL, Reg.PCI_MBX_H2D_REJ, Reg.PCI_MBX_D2H_LEN, Reg.PCI_MBX_D2H_FULL,
          Reg.PCI_MBX_D2H_REJ] 0
        let u := if s.getR Reg.DBG_SESS_STATE 0 = 2 then u.sessionClose else u
        u.stageAbort 2
      else t
    .next (t.pcieLines.raise pcieEp 0x0E05 0 (pcieDetail 0 0 fn))

/-! ### Wakes and trips that end in a reset (R653, R660, R674) -/

/-- POWER_DOMAIN_OPEN (R656): a woken domain is ready. Of the core of BD0 it is a device reset, of the PCIe controller a hot reset. -/
def execPowerDomainOpen (dom : Fin 128) (oscOk : Bool) (s : State) : Result :=
  let d := dom.val
  if !s.wakeReady d then .next s
  else if d = 32 then
    .next ((((s.setR Reg.DSK_PSTATE 32 0).slotEnd 32 2 2).deviceResetBy Reg.DEV_RST_CAUSE_WAKE).raise duskEp 0x0B02 0 (dskDetail 32))
  else if d = 72 then .next (s.hotReset.wakeEnd d oscOk)
  else .next (s.wakeEnd d oscOk)

/-- The device reset that follows a trip (R674): THERM_TRIP bears the time of the trip. -/
def State.tripReset (s : State) : State :=
  let t := (s.deviceResetBy Reg.DEV_RST_CAUSE_TRIP).setR Reg.TRIP_OVER 0 1
  t.modEvents (fun m => raiseIn m (evKey duskEp 0x0B08) (s.getR Reg.TRIP_T 0) 5 0)

/-- SENSOR_SAMPLE (R126, R662 to R668, R671 to R675): the raw readings of all sensors, in 1/16 °C or the sensor's unit. -/
def execSensorSample (x : List Int) (s : State) : Result :=
  let t := (List.range 64).foldl (fun u i => u.roDrift i) (s.sensorPass x)
  .next (if t.tripCool then t.tripReset else t)

/-! ### The time base's failures (R51, R52, R73) -/

/-- DESKEW_RECALIBRATE (R51, R52): whether the die's loop holds its correction within range. -/
def execDeskewRecalibrate (die : Fin 12) (inRange : Bool) (s : State) : Result :=
  if inRange then .next ((s.setR Reg.T_DIEFAULT die 0).setR Reg.TBS_DIE_STAT_ALIGNED 0 (setBit (s.getR Reg.TBS_DIE_STAT_ALIGNED 0) die))
  else if s.flag Reg.T_DIEFAULT die then .next s
  else
    let t := (s.setR Reg.T_DIEFAULT die 1).setR Reg.TBS_DIE_STAT_ALIGNED 0 (clrBit (s.getR Reg.TBS_DIE_STAT_ALIGNED 0) die)
    .next ((t.setR Reg.TBS_DIE_STAT_FAULT 0 (setBit (s.getR Reg.TBS_DIE_STAT_FAULT 0) die)).raise tbsEp 0x1109 4 die)

/-- TIME_PLL_UNLOCK (R73): engines that run on Tabirair time fail (R280, R360). -/
def execTimePllUnlock (s : State) : Result :=
  if s.flag Reg.T_PLL_SLIP 0 then
    let t := ((s.setR Reg.T_PLL_SLIP 0 0).setR Reg.T_UNLOCK 0 1).raise tbsEp 0x1108 5 0
    let t := (List.range 20).foldl (fun u b => u.tioFault b) t
    .next ((List.range 16).foldl (fun u n => u.pgeUnlock n) t)
  else .next s

end Sys2Proof.Machine
end

