-- ==== Sys2Proof/Machine/DebugAccess.lean ====
section
/-!
DEFINITION. The debug module interface (R565 to R574, R539, R581, R582): its registers at the addresses of the RISC-V Debug Specification 1.0, the system bus
access port, and the two transports.
-/

namespace Sys2Proof.Machine

/-! ### The system bus access port (R566, R569) -/

/-- Put sberror. -/
def State.sbErr (s : State) (e : Nat) : State := s.modDbg (fun d => { d with sberror := e })

/-- The port is busy. -/
def State.sbIsBusy (s : State) : Bool := s.dbg.sbBusy.isSome

/-- An access starts: at Non-invasive only reads, as peek reads. -/
def State.sbStart (s : State) (write peek : Bool) : State :=
  let d := s.dbg
  let n := 2 ^ d.sbaccess
  if d.sbBusyErr || decide (d.sberror ≠ 0) then s
  else if 3 < d.sbaccess then s.sbErr 4
  else if d.sbaddr % n ≠ 0 then s.sbErr 3
  else if write && decide (s.level ≠ 2) then s.sbErr 7
  else
    let r := if write then s.sendWrite debugEp d.sbaddr n (d.sbdata % 2 ^ (8 * n)) 0 0 none
      else s.sendRead debugEp d.sbaddr n 0 (if peek || decide (s.level ≠ 2) then 128 else 0) none
    if r.2 then r.1.modDbg (fun x => { x with sbBusy := some (write, d.sbaddr, n) }) else r.1.sbErr 2

/-- The sberror that a response gives (R566). -/
def sbStatus (st : Nat) : Nat := if st = 1 ∨ st = 5 then 2 else 7

/-- The response to the access in progress comes back. -/
def State.sbDone (s : State) (p : Packet) : State :=
  match s.dbg.sbBusy with
  | none => s
  | some (w, a, n) =>
    if p.kind ≠ (if w then 4 else 2) ∨ p.addr ≠ a then s
    else
      let t := s.modDbg (fun d => { d with sbBusy := none })
      let step := fun (d : Dbg) => if d.sbinc then (d.sbaddr + n) % 2 ^ 48 else d.sbaddr
      let bad := !packetIntact p || anyPoison p
      if p.status ≠ 0 ∧ p.status ≠ 4 then t.sbErr (sbStatus p.status)
      else if w then (if p.status = 0 then t.modDbg (fun d => { d with sbaddr := step d }) else t.sbErr 7)
      else
        let u := t.modDbg (fun d => { d with sbdata := payload p % 2 ^ (8 * n) })
        if bad || decide (p.status = 4) then u.sbErr 7 else u.modDbg (fun d => { d with sbaddr := step d })

/-- DM_SYSTEM_BUS_ACCESS (R565, R566, R569): an access of 2^size bytes. -/
def execDmSystemBusAccess (addr : BitVec 48) (size : Fin 4) (write : Bool) (data : BitVec 64) (peek : Bool) (s : State) : Result :=
  if s.level = 0 then .next s
  else if s.sbIsBusy then .next (s.modDbg (fun d => { d with sbBusyErr := true }))
  else
    let t := s.modDbg (fun d => { d with
      sbaddr := addr.toNat
      sbaccess := size.val
      sbdata := if write then data.toNat else d.sbdata })
    .next (t.sbStart write peek)

/-! ### Registers as words -/

/-- A condition of the selected hart, as its any and all bits. -/
def anyAll (c : Bool) (at_ : Nat) : Nat := bit c * 3 * 2 ^ at_

/-- dmstatus: below Non-invasive, authbusy and the version alone. -/
def State.dmstatus (s : State) : Nat :=
  let d := s.dbg
  let n := d.hartsel
  let ex := decide (n < 6)
  let halted := ex && s.flag Reg.HART_HALT n
  let run := ex && s.flag Reg.HART_RUN n
  let base := 3 + bit (d.forming || d.verifying) * 2 ^ 6
  if s.level = 0 then base
  else base + 2 ^ 5 + 2 ^ 7 + anyAll halted 8 + anyAll (run && !halted) 10 + anyAll (ex && !run && !halted) 12 + anyAll (!ex) 14
    + anyAll (d.resumeack.contains n) 16 + anyAll (d.havereset.contains n) 18 + 2 ^ 22

/-- sbcs: version 1, 48-bit addresses, accesses of 8 to 64 bits. -/
def State.sbcs (s : State) : Nat :=
  let d := s.dbg
  15 + 48 * 2 ^ 5 + d.sberror % 8 * 2 ^ 12 + bit d.sbOnData * 2 ^ 15 + bit d.sbinc * 2 ^ 16 + d.sbaccess % 8 * 2 ^ 17 + bit d.sbOnAddr * 2 ^ 20
    + bit s.sbIsBusy * 2 ^ 21 + bit d.sbBusyErr * 2 ^ 22 + 2 ^ 29

/-- What a read of authdata returns: the next nonce word, else the last result (R570). -/
def State.authdata (s : State) : Nat :=
  match s.dbg.nonce with
  | some v => if 0 < s.dbg.nonceLeft then v / 2 ^ (32 * (8 - s.dbg.nonceLeft)) % 2 ^ 32 else s.dbg.result
  | none => s.dbg.result

/-- The word that a register of the module shows. -/
def State.dmWord (s : State) (a : Nat) : Nat :=
  let d := s.dbg
  if 0x04 ≤ a ∧ a < 0x08 then Map.get 0 d.data (a - 4)
  else if a = 0x10 then bit d.dmactive + d.hartsel % 1024 * 2 ^ 16
  else if a = 0x11 then s.dmstatus
  else if a = 0x16 then 4 + d.cmderr % 8 * 2 ^ 8 + 16 * 2 ^ 24
  else if a = 0x18 then d.auto
  else if 0x20 ≤ a ∧ a < 0x30 then Map.get 0 d.progbuf (a - 0x20)
  else if a = 0x30 then s.authdata
  else if a = 0x38 then s.sbcs
  else if a = 0x39 then d.sbaddr % 2 ^ 32
  else if a = 0x3A then d.sbaddr / 2 ^ 32
  else if a = 0x3C then d.sbdata % 2 ^ 32
  else if a = 0x3D then d.sbdata / 2 ^ 32
  else if a = 0x40 then (List.range 6).foldl (fun v n => v + s.getR Reg.HART_HALT n * 2 ^ n) 0
  else 0

/-! ### Reads and writes -/

/-- abstractauto starts the last command again where it is permitted; whether its program buffer ends in an exception is open. -/
def State.autoExec (s : State) (a : Nat) : State :=
  let on := if a < 0x10 then nbit s.dbg.auto (a - 4) else nbit s.dbg.auto (16 + (a - 0x20))
  if on && s.cmdAllowed s.dbg.command then (s.abstractCmd s.dbg.command (nbit (Config.freeWord s.free).toNat 0)).draw else s

/-- What a read does beside showing its word; a peek read does nothing (R566). -/
def State.dmReadDone (s : State) (a : Nat) : State :=
  if (0x04 ≤ a ∧ a < 0x08) ∨ (0x20 ≤ a ∧ a < 0x30) then s.autoExec a
  else if a = 0x30 then s.modDbg (fun d => { d with nonceLeft := d.nonceLeft - 1 })
  else if a = 0x3C then
    (if s.sbIsBusy then s.modDbg (fun d => { d with sbBusyErr := true }) else if s.dbg.sbOnData then s.sbStart false false else s)
  else s

/-- A write of authdata (R570): a word of a grant, else NONCE, GRANT or DROP. -/
def State.authWrite (s : State) (v : Nat) : State :=
  if !s.authOpen then s
  else if 0 < s.dbg.grantLeft then
    s.modDbg (fun d => { d with
      grantLeft := d.grantLeft - 1
      verifying := decide (d.grantLeft = 1) })
  else if v = 0x01000000 then s.authNonce
  else if v / 2 ^ 24 = 2 then
    (if grantLenOk (v % 2 ^ 24) then s.modDbg (fun d => { d with grantLeft := v % 2 ^ 24 / 4, nonceLeft := 0 })
    else took (execAuthGrant (BitVec.ofNat 24 v) s) s)
  else if v = 0x03000000 then took (execAuthDrop s) s
  else s

/-- dmactive 0 puts the module's own state back; session, exchange and harts are not part of it. -/
def State.dmOff (s : State) : State :=
  s.modDbg (fun d => { d with
    dmactive := false
    hartsel := 0
    haltreq := []
    resetHalt := []
    data := []
    progbuf := []
    auto := 0
    cmderr := 0
    command := 0
    sbaccess := 2
    sbinc := false
    sbOnAddr := false
    sbOnData := false
    sberror := 0
    sbaddr := 0
    sbdata := 0
    sbBusyErr := false })

/-- A write of dmcontrol. -/
def State.dmControl (s : State) (v : Nat) : State :=
  let n := v / 2 ^ 16 % 8
  if !nbit v 0 then s.dmOff
  else
    let halt := nbit v 31
    let t := s.modDbg (fun d => { d with
      dmactive := true
      hartsel := n
      haltreq := listed d.haltreq n (halt && decide (n < 6) && !s.flag Reg.HART_HALT n)
      havereset := if nbit v 28 then listed d.havereset n false else d.havereset
      resetHalt := if nbit v 2 then listed d.resetHalt n false else if nbit v 3 && decide (n < 6) then listed d.resetHalt n true else d.resetHalt })
    let t := if nbit v 30 && !halt && decide (n < 6) then (t.modDbg (fun d => { d with resumeack := listed d.resumeack n false })).hartResume n else t
    let t := if nbit v 29 && decide (n < 4) then t.hartReset n else t
    t.act (nbit v 1) execDmNdmreset

/-- A write of sbcs. -/
def State.sbcsWrite (s : State) (v : Nat) : State :=
  s.modDbg (fun d => { d with
    sbBusyErr := d.sbBusyErr && !nbit v 22
    sbOnAddr := nbit v 20
    sbaccess := v / 2 ^ 17 % 8
    sbinc := nbit v 16
    sbOnData := nbit v 15
    sberror := without d.sberror (v / 2 ^ 12 % 8) })

/-- A write of an address or data register of the port: refused while it is busy; the access that it starts carries the write's peek (R566). -/
def State.sbWrite (s : State) (a v : Nat) (peek : Bool) : State :=
  if s.sbIsBusy then s.modDbg (fun d => { d with sbBusyErr := true })
  else if a = 0x39 then
    let t := s.modDbg (fun d => { d with sbaddr := d.sbaddr / 2 ^ 32 * 2 ^ 32 + v })
    if t.dbg.sbOnAddr then t.sbStart false peek else t
  else if a = 0x3A then s.modDbg (fun d => { d with sbaddr := d.sbaddr % 2 ^ 32 + v % 2 ^ 16 * 2 ^ 32 })
  else if a = 0x3C then (s.modDbg (fun d => { d with sbdata := d.sbdata / 2 ^ 32 * 2 ^ 32 + v })).sbStart true peek
  else s.modDbg (fun d => { d with sbdata := d.sbdata % 2 ^ 32 + v * 2 ^ 32 })

/-- A write of a register of the module; with dmactive 0 only dmcontrol, authdata and session take one. -/
def State.dmWrite (s : State) (a v : Nat) (peek : Bool) : State :=
  if a = 0x10 then s.dmControl v
  else if a = 0x30 then s.authWrite v
  else if a = 0x70 then s.act (decide (v = 1)) execDmSessionCloseWrite
  else if !s.dbg.dmactive then s
  else if 0x04 ≤ a ∧ a < 0x08 then (s.modDbg (fun d => { d with data := Map.set 0 d.data (a - 4) v })).autoExec a
  else if a = 0x16 then s.modDbg (fun d => { d with cmderr := without d.cmderr (v / 2 ^ 8 % 8) })
  else if a = 0x17 then (s.abstractCmd v (nbit (Config.freeWord s.free).toNat 0)).draw
  else if a = 0x18 then s.modDbg (fun d => { d with auto := v % 16 + v / 2 ^ 16 * 2 ^ 16 })
  else if 0x20 ≤ a ∧ a < 0x30 then (s.modDbg (fun d => { d with progbuf := Map.set 0 d.progbuf (a - 0x20) v })).autoExec a
  else if a = 0x38 then s.sbcsWrite v
  else if a = 0x39 ∨ a = 0x3A ∨ a = 0x3C ∨ a = 0x3D then s.sbWrite a v peek
  else s

/-! ### The levels (R569) -/

/-- Registers that take accesses at every level. -/
def openReg (a : Nat) : Bool := decide (a = 0x11) || decide (a = 0x30) || decide (a = 0x70)

/-- A write of dmcontrol asks a hart or the device to do something. -/
def dmActs (v : Nat) : Bool := nbit v 31 || nbit v 30 || nbit v 29 || nbit v 28 || nbit v 3 || nbit v 2 || nbit v 1

/-- A DMI access is permitted at the level in effect. -/
def State.dmiOk (s : State) (a v : Nat) (write : Bool) : Bool :=
  openReg a || decide (s.level = 2)
    || (decide (s.level = 1) && (!write || (decide (a = 0x10) && !dmActs v) || (decide (a = 0x17) && s.cmdAllowed v) || decide (a = 0x16)
      || (decide (0x38 ≤ a) && decide (a < 0x3E))))

/-- A DMI access: what follows, the word read, and whether it was refused. -/
def State.dmi (s : State) (a v : Nat) (write peek : Bool) : State × Nat × Bool :=
  if !s.dmiOk a v write then (s, 0, true)
  else if write then (s.dmWrite a (v % 2 ^ 32) peek, 0, false)
  else (if peek then s else s.dmReadDone a, s.dmWord a % 2 ^ 32, false)

/-! ### The DRW port -/

/-- A DMI access on DRW: refused outside an open DRW session (R573). -/
def State.drwAccess (s : State) (a v : Nat) (write peek : Bool) : State :=
  if s.getR Reg.DBG_SESS_STATE 0 ≠ 1 then s.drwAnswer 0 1 (!write)
  else
    let r := s.dmi a v write peek
    r.1.drwAnswer r.2.1 (bit r.2.2) (!write)

/-- DRW_READ (R566, R581, R582). -/
def execDrwRead (addr : BitVec 7) (peek : Bool) (fr : DrwFrame) (s : State) : Result := s.drwFrame fr (s.drwAccess addr.toNat 0 false peek)

/-- DRW_WRITE (R581, R582). -/
def execDrwWrite (addr : BitVec 7) (data : BitVec 32) (peek : Bool) (fr : DrwFrame) (s : State) : Result :=
  s.drwFrame fr (s.drwAccess addr.toNat data.toNat true peek)

/-! ### The PCIe mailbox (R539, R573) -/

/-- The answer to a mailbox request: PF0 vector 1. -/
def State.dbgReply (s : State) (result data : Nat) : State :=
  (((s.setR Reg.PCI_DBG_RSP_RESULT 0 result).setR Reg.PCI_DBG_RDATA_V 0 data).setR Reg.PCI_DBG_RSP_DONE 0 1).msix 0 1

/-- A GO of PCI_DBG_REQ: the first one opens a session; BUSY while DRW holds one. -/
def State.pciDbg (s : State) : State :=
  if s.getR Reg.DBG_SESS_STATE 0 = 1 then s.dbgReply 2 0
  else
    let t := if s.getR Reg.DBG_SESS_STATE 0 = 0 then s.sessionOpen 2 else s
    let op := s.getR Reg.PCI_DBG_REQ_OP 0
    if op = 1 ∨ op = 2 then
      let r := t.dmi (s.getR Reg.PCI_DBG_REQ_ADDR 0) (s.getR Reg.PCI_DBG_DATA_V 0) (decide (op = 2)) (s.flag Reg.PCI_DBG_REQ_PEEK 0)
      r.1.dbgReply (bit r.2.2) r.2.1
    else t.dbgReply 0 0

/-- PCI_DBG_GO (R539, R547): a write of PCI_DBG_REQ with GO. -/
def execPciDbgGo (addr : BitVec 7) (op : BitVec 2) (peek : Bool) (s : State) : Result :=
  .next ((((s.setR Reg.PCI_DBG_REQ_ADDR 0 addr.toNat).setR Reg.PCI_DBG_REQ_OP 0 op.toNat).setR Reg.PCI_DBG_REQ_PEEK 0 (bit peek)).pciDbg)

end Sys2Proof.Machine
end

