-- ==== Sys2Proof/Machine/BusTop.lean ====
section
/-!
DEFINITION. A register write with everything it starts (R8, R32, R33, R539, R544, R611, R618, R621), and Dawn's steps that write register records (R608).
-/

namespace Sys2Proof.Machine

/-- What a register write has left to be carried out, by its code in BUS_HOOK. -/
def State.hooked (s : State) (code v : Nat) : State :=
  match code with
  | 1 => took (execDevRstDevice (BitVec.ofNat 16 (v / 2 ^ 16)) s) s
  | 2 => took (execDevRstWarm (BitVec.ofNat 16 (v / 2 ^ 16)) s) s
  | 3 => s.dwnGo
  | 4 => s.stageAbort 1
  | 5 => s.relGo
  | 6 => s.reloadEnable (nbit v 0)
  | 7 => s.pciStageGo
  | 8 => s.stageAbort 2
  | 9 => s.pciDbg
  | 10 => s.dwnGo.stageAbort 1
  | 11 => s.pciStageGo.stageAbort 2
  | _ => s

/-- Carry out what a register write has left. -/
def State.settle (s : State) : State :=
  s.noHook.hooked (s.getR Reg.BUS_HOOK 0) (s.getR Reg.BUS_HVAL 0)

/-- A write to the register pages an endpoint serves, with all it starts. -/
def State.busWrite (s : State) (e a : Nat) (wide : Bool) (v req : Nat) : State := (s.noHook.pageWrite e a wide v req).settle

/-- REGISTER_WRITE (R2, R4 to R8): `req` writes a register word, or with `wide` two. -/
def execRegisterWrite (addr : BitVec 48) (wide : Bool) (value : BitVec 64) (req : BitVec 16) (s : State) : Result :=
  .next ((s.busWrite (regEp addr.toNat) addr.toNat wide value.toNat req.toNat).coreTakes req.toNat addr.toNat true)

/-- DAWN_STREAM_READ_DONE (R606, R607, R622): `f` is the stream as Dawn has read it. -/
def execDawnStreamReadDone (f : Stream) (s : State) : Result := .next (s.noHook.streamReadDone f).settle

/-- DAWN_VERIFY_DONE (R606 to R609, R612, R615, R632): what Sage finds. -/
def execDawnVerifyDone (v : StreamCheck) (s : State) : Result := .next (s.noHook.verifyDone v).settle

/-- DAWN_APPLY_DONE (R612, R615, R616): the second reading of a staged stream ends. -/
def execDawnApplyDone (poison : Bool) (s : State) : Result := .next (s.noHook.applyDone poison).settle

end Sys2Proof.Machine
end

