-- ==== Sys2Proof/Machine/Deliver.lean ====
section
/-!
DEFINITION. What an endpoint does with a packet (R24, R191 to R194, R206 to R208, R249, R251, R433, R455, R566, R635).
-/

namespace Sys2Proof.Machine

/-! ### Endpoints that answer at once -/

/-- A packet waits for its engine. -/
def State.toInbox (s : State) (e : Nat) (p : Packet) : State := s.putInbox e (s.inbox e ++ [p])

/-- A read is a peek read exactly when the debug module sends it with TAG bit 7 set (R566). -/
def isPeek (p : Packet) : Bool := decide (p.src = debugEp) && nbit p.tag 7

/-- The response to a register read. -/
def State.readAnswer (s : State) (e : Nat) (p : Packet) : State :=
  if s.resp.status = 0 then s.injectAt (epRtr e) (s.served p (toFlits s.resp.data p.size s.resp.poison)) else s.answerStatus e p s.resp.status

/-- The response to a register write. -/
def State.writeAnswer (s : State) (e : Nat) (p : Packet) : State :=
  if s.resp.status = 0 then s.injectAt (epRtr e) (s.served p []) else s.answerStatus e p s.resp.status

/-- A request to the register pages of an endpoint (R23, R191): the response leaves before what the write starts. -/
def State.servePage (s : State) (e : Nat) (p : Packet) : State :=
  if !wordAccess p || decide (s.addrEp p.addr ≠ some e) then s.decodeAnswer e p
  else if p.kind = 1 then (s.busRead e p.addr (decide (p.size = 8)) (isPeek p) p.src).readAnswer e p
  else match s.stalledNvm p.addr with
    | some fd => s.modNvm fd (fun n => { n with stall := n.stall ++ [⟨p.addr % 0x40000, decide (p.size = 8), BitVec.ofNat 64 (writeValue p), some p⟩] })
    | none => ((s.noHook.pageWrite e p.addr (decide (p.size = 8)) (writeValue p) p.src).writeAnswer e p).settle

/-- What a read of the system NVM finds: Sage and Dusk see the lines that their patch units remap (R560). -/
def State.nvmWords (s : State) (p : Packet) : List Rd :=
  let l := (s.readWords (p.addr / 8 * 8) (wordsOf p.addr p.size) p.src none).1
  if p.src = sageEp ∨ p.src = duskEp then
    l.zipIdx.map (fun e => { e.1 with data := s.patchedWord (decide (p.src = duskEp)) ((p.addr - 0x7000000000) / 8 * 8 + 8 * e.2) e.1.data })
  else l

/-- A request to the system NVM (R560, R635). -/
def State.serveNvm (s : State) (e : Nat) (p : Packet) : State :=
  let o := p.addr - 0x7000000000
  let ok := if p.kind = 1 then nvmReadOk else nvmWriteOk
  if p.addr < 0x7000000000 ∨ p.size = 0 ∨ 0x800000 < o + p.size then s.decodeAnswer e p
  else if ok o p.src && ok (o + p.size - 1) p.src then
    (if p.kind = 1 then s.injectAt (epRtr e) (s.served p (memFlits p.addr p.size (s.nvmWords p))) else s.memAnswer e p.addr 0 p none)
  else s.answerStatus e p 2

/-- A request to a base die's fail memory. -/
def State.serveFail (s : State) (e bd : Nat) (p : Packet) : State :=
  let lo := 0x4100000000 + bd * 0x800000
  if p.addr < lo ∨ p.size = 0 ∨ lo + 0x800000 < p.addr + p.size then s.decodeAnswer e p
  else match s.dawnGuard p.addr p.size p.src (decide (p.kind = 3)) with
    | some t => t.answerStatus e p 2
    | none => s.memAnswer e p.addr 0 p none

/-- A request to an LPDDR5X channel: with those that wait (R231, R511); what waited in a window that has ended is served first (R241). -/
def State.serveLpx (u : State) (e : Nat) (p : Packet) : State :=
  let s := u.lpxWindowsEnd
  if (s.inbox e).any isRequest then s.toInbox e p
  else match s.lpxPacket e p with
    | some t => t
    | none => s.toInbox e p

/-- A request to a scratchpad port: it waits while a bank of it is handed over (R469). -/
def State.serveSpd (s : State) (e : Nat) (p : Packet) : State :=
  match s.spdPacket e p with
  | some t => t
  | none => s.toInbox e p

/-- The record in an EVENT packet (R26). -/
def packetRecord (p : Packet) : Nat × EventRec :=
  let v := payload p
  (v / 2 ^ 64 % 2 ^ 16 * 65536 + v / 2 ^ 80 % 2 ^ 16,
    ⟨v % 2 ^ 64, v / 2 ^ 96 % 16, v / 2 ^ 100 % 2 ^ 12, v / 2 ^ 112 % 2 ^ 128⟩)

/-- The collector takes a record (R27). -/
def State.collect (s : State) (p : Packet) : State :=
  let x := packetRecord p
  s.modEvents (fun m => match Map.find m x.1 with
    | some r => Map.put m x.1 { r with repeats := min (r.repeats + 1) 4095 }
    | none => Map.put m x.1 x.2)

/-- A response reaches a control core: a decode error, or a read whose data is poisoned or fails its check, is an access fault (R24,
R206, R554). -/
def State.coreAnswer (s : State) (e : Nat) (p : Packet) : State :=
  if p.status = 1 ∨ (p.kind = 2 ∧ (anyPoison p || !packetIntact p) = true) then s.coreFault e p.addr (decide (p.kind = 4)) else s

/-! ### By endpoint and kind -/

/-- A BREACH notice waits in one of the two entries reserved for it, or is discarded (R249). -/
def State.toReserved (s : State) (e : Nat) (p : Packet) : State :=
  if 2 ≤ ((s.inbox e).filter (fun q => decide (q.kind = 6))).length then s else s.toInbox e p

/-- The endpoints whose chapter acts on a BREACH: they hold it in the entries reserved for it until their engine takes it (R249). Every other rejects the KIND
(R208). -/
def keepsBreach (k : EpKind) : Bool :=
  match k with
  | .nap _ | .pge _ | .fce _ | .mspGroup _ => true
  | _ => false

/-- An endpoint takes a sound packet; a kind that it does not serve is rejected as R208 states, a NOTICE too, about which no NOTICE is sent. -/
def State.serveKind (s : State) (e : Nat) (p : Packet) : State :=
  let req := isRequest p
  let rsp := decide (p.kind = 2) || decide (p.kind = 4)
  match kindOf e with
  | .nap rg => if p.kind < 8 then (s.touchRegion rg).toInbox e p else s.kindReject e p
  | .pge n => if p.kind = 2 then (s.touchPair n).toInbox e p else (s.touchPair n).kindReject e p
  | .fce n => (s.touchPair n).toInbox e p
  | .mspGroup g => if p.kind = 0 ∨ req = true then (s.touchGroup g).toInbox e p else s.kindReject e p
  | .tio _ => if p.kind = 0 then s.toInbox e p else s.kindReject e p
  | .dcl _ => if p.kind = 0 then s.toInbox e p else s.kindReject e p
  | .lpx _ => if req then s.serveLpx e p else s.kindReject e p
  | .spdPort _ => if req then s.serveSpd e p else if rsp then s.toInbox e p else s.kindReject e p
  | .failMem bd => if req then s.serveFail e bd p else s.kindReject e p
  | .sysNvm => if req then s.serveNvm e p else s.kindReject e p
  | .bdWindow _ => if req then s.servePage e p else s.kindReject e p
  | .fdWindow _ => if req then s.servePage e p else s.kindReject e p
  | .thyme => if req then s.servePage e p else s.kindReject e p
  | .pkgPages => if req then s.servePage e p else s.kindReject e p
  | .pcie => if rsp then s.toInbox e p else s.kindReject e p
  | .debug => if rsp then s.sbDone p else s.kindReject e p
  | .collector => if p.kind = 5 then s.collect p else s.kindReject e p
  | .core _ => if rsp then s.coreAnswer e p else s.kindReject e p
  | .sage => if rsp then s else s.kindReject e p
  | .dusk => if rsp then s else s.kindReject e p
  | .dawn => if rsp then s else s.kindReject e p
  | .router => s.kindReject e p
  | .unassigned => s

/-- An endpoint takes a sound packet. -/
def State.accept (s : State) (e : Nat) (p : Packet) : State :=
  if p.kind = 6 ∧ keepsBreach (kindOf e) = true then s.toReserved e p else s.serveKind e p

/-- What becomes of a packet whose check fails (R206): a response's consumer treats its data as poisoned. -/
def State.acceptBad (s : State) (e : Nat) (p : Packet) : State :=
  if isRequest p then s.answerStatus e p 4
  else match kindOf e with
    | .nap _ => if p.kind = 0 ∨ p.kind = 2 then s.accept e p else s
    | _ => if p.kind = 2 then s.accept e p else s

/-- A packet is written into its endpoint's receive queue: deadline, check, service (R194, R206, R251). Of a NAP the deadline is judged when the last flit enters the
receive DCQ (R165). -/
def State.receive (s : State) (e : Nat) (p : Packet) : State :=
  let t := match kindOf e with
    | .nap _ => s
    | _ => s.lateAt e p
  if crcFails p then (t.raise e 0x0205 4 (nocDetail p)).acceptBad e p else t.accept e p

/-- PACKET_DELIVER (R194, R206 to R208): packet n of the network, which is past its last router and first of its queue; where its port no longer takes packets, it meets the port
as it is now. -/
def execPacketDeliver (n : Nat) (s : State) : Result :=
  match s.noc.net[n]? with
  | none => .next s
  | some x =>
    match x.place with
    | .router _ _ => .next s
    | .port e =>
      if (s.noc.net.take n).any (fun y => sameQueue y x) then .next s
      else if epPort e ≠ 31 ∧ 2 ≤ s.portState e then .next (s.atPort n (epRtr e) x)
      else .next ((s.dropPkt n).receive e x.pkt)

end Sys2Proof.Machine
end

