-- ==== Sys2Proof/Machine/HostAccess.lean ====
section
/-!
DEFINITION. The host's memory requests (R526 to R532, R537): BAR0 with the PCI page, doorbells and MSI-X structures, BAR2 with a window.
-/

namespace Sys2Proof.Machine

/-! ### MSI-X tables (R526, R536) -/

/-- Word w of a vector's table entry. -/
def msixWord (m : MsixVec) (w : Nat) : Nat :=
  match w with
  | 0 => m.addr % 2 ^ 32
  | 1 => m.addr / 2 ^ 32
  | 2 => m.data
  | _ => bit m.masked

/-- A table entry with a word replaced: an address is 4-byte aligned. -/
def msixPut (m : MsixVec) (w v : Nat) : MsixVec :=
  match w with
  | 0 => { m with addr := m.addr / 2 ^ 32 * 2 ^ 32 + v / 4 * 4 }
  | 1 => { m with addr := m.addr % 2 ^ 32 + v * 2 ^ 32 }
  | 2 => { m with data := v }
  | _ => { m with masked := nbit v 0 }

/-- A word of a function's pending-bit array. -/
def State.pbaWord (s : State) (fn w : Nat) : Nat :=
  (List.range 32).foldl (fun v i => v + bit (decide (32 * w + i < msixCount fn) && (s.msixVec fn (32 * w + i)).pending) * 2 ^ i) 0

/-! ### BAR0 -/

/-- What an offset of a function's BAR0 is. -/
inductive Bar0 where
  | page (off : Nat)
  | doorbell
  | table (v w : Nat)
  | pba (w : Nat)
  | reserved
deriving DecidableEq, Repr

/-- The layout of BAR0 (R526). -/
def bar0 (fn off : Nat) : Bar0 :=
  let t := if fn = 0 then 0x10000 else 0x2000
  let p := if fn = 0 then 0x18000 else 0x3000
  if fn = 0 ∧ off < 0x10000 then .page off
  else if fn ≠ 0 ∧ off = 0 then .doorbell
  else if t ≤ off ∧ off < t + 16 * msixCount fn then .table ((off - t) / 16) (off % 16 / 4)
  else if p ≤ off ∧ off < p + 8 then .pba ((off - p) / 4)
  else .reserved

/-- The size of a function's BAR0 (R526). -/
def bar0Size (fn : Nat) : Nat := if fn = 0 then 0x20000 else 0x4000

/-- A word of BAR0 outside the PCI page. -/
def State.bar0Word (s : State) (fn off : Nat) : Nat :=
  match bar0 fn off with
  | .table v w => msixWord (s.msixVec fn v) w
  | .pba w => s.pbaWord fn w
  | _ => 0

/-- A word of BAR0 outside the PCI page is written. -/
def State.bar0Put (s : State) (fn off v : Nat) : State :=
  match bar0 fn off with
  | .doorbell => took (execPcieDoorbell (Fin.ofNat 34 fn) s) s
  | .table n w => (s.putMsix fn n (msixPut (s.msixVec fn n) w v)).msixFlush fn
  | _ => s

/-- An access of 4 or 8 aligned bytes (R23). -/
def wordSized (off bytes : Nat) : Bool :=
  (decide (bytes = 4) && decide (off % 4 = 0)) || (decide (bytes = 8) && decide (off % 8 = 0))

/-- The address of the PCI page. -/
def pciPage : Nat := 0x6000070000

/-- A host read of BAR0: of the PCI page it is the controller's read of the page. -/
def State.bar0Read (s : State) (fn off bytes : Nat) : State :=
  if fn = 0 ∧ off < 0x10000 then
    (if wordSized off bytes then
      let t := s.busRead pkgEp (pciPage + off) (decide (bytes = 8)) false pcieEp
      t.respond t.resp.data (cplStatus t.resp.status) t.resp.poison
    else (s.decodeError pkgEp (pciPage + off) pcieEp).respond 0 cplUr)
  else if wordSized off bytes then
    s.respond (s.bar0Word fn off + (if bytes = 8 then s.bar0Word fn (off + 4) * 2 ^ 32 else 0)) cplOk
  else s.respond 0 cplUr

/-- A host write to BAR0; a poisoned one changes nothing. -/
def State.bar0Write (s : State) (fn off bytes data : Nat) (poison : Bool) : State :=
  if poison || !wordSized off bytes then
    (if fn = 0 ∧ off < 0x10000 ∧ poison = false then s.decodeError pkgEp (pciPage + off) pcieEp else s)
  else if fn = 0 ∧ off < 0x10000 then s.busWrite pkgEp (pciPage + off) (decide (bytes = 8)) data pcieEp
  else
    let t := s.bar0Put fn off (data % 2 ^ 32)
    if bytes = 8 then t.bar0Put fn (off + 4) (data / 2 ^ 32 % 2 ^ 32) else t

/-! ### The requests -/

/-- A request lies within the BAR (R526). -/
def inBar (bar2 : Bool) (fn off bytes : Nat) : Bool := decide (off + bytes ≤ if bar2 then bar2Size fn else bar0Size fn)

/-- PCIE_HOST_READ (R526, R527, R529, R531): a function that does not answer gives Unsupported Request. -/
def execPcieHostRead (func : Fin 34) (bar2 : Bool) (off : Nat) (bytes : Nat) (s : State) : Result :=
  if !s.flag Reg.PCI_STAT_LINK_UP 0 then .next s
  else if !s.fnAnswers func || !inBar bar2 func off bytes then .next (s.respond 0 cplUr)
  else if bar2 then .next (s.windowRead func off bytes)
  else .next (s.bar0Read func off bytes)

/-- PCIE_HOST_WRITE (R526, R527, R529, R531, R532, R537, R544): posted. -/
def execPcieHostWrite (func : Fin 34) (bar2 : Bool) (off : Nat) (bytes : Nat) (data : Nat) (poison : Bool) (s : State) : Result :=
  if !s.flag Reg.PCI_STAT_LINK_UP 0 || !s.fnAnswers func || !inBar bar2 func off bytes then .next s
  else if bar2 then .next (s.windowWrite func off bytes data poison)
  else .next (s.bar0Write func off bytes data poison)

end Sys2Proof.Machine
end

