-- ==== Sys2Proof/Machine/Jtag.lean ====
section
/-!
DEFINITION. The JTAG port (R744, R745): its instruction, the boundary register, and the device reset on leaving a boundary instruction.
-/

namespace Sys2Proof.Machine

/-- Instructions under which the boundary cells control the balls (R745): EXTEST, EXTEST_PULSE, EXTEST_TRAIN, CLAMP and HIGHZ. -/
def boundaryIr (ir : Nat) : Bool := decide (3 ≤ ir)

/-- The TAP takes an instruction. Leaving a boundary instruction by any path performs a device reset (R745). -/
def State.jtagSelect (s : State) (ir : Nat) : State :=
  let old := s.getR Reg.JTAG_IR 0
  let t := s.setR Reg.JTAG_IR 0 ir
  if boundaryIr old ∧ old ≠ ir then t.deviceResetBy Reg.DEV_RST_CAUSE_JTAG else t

/-- A boundary scan: what the cells captured is shifted out, and what is shifted in is the boundary register's content. -/
def State.jtagScan (s : State) (ir pins load : Nat) : State :=
  ((s.jtagSelect ir).setR Reg.JTAG_BSR 0 load).respond (pins % 2 ^ 4096) 0

/-- The device code (R744). -/
def State.idcode (s : State) : Nat := (0x08A0878B + s.getR Reg.DEV_FEAT_PKG_FLEVEL 0 * 2 ^ 28) % 2 ^ 32

/-- JTAG_IDCODE: the device code is read. -/
def execJtagIdcode (s : State) : Result :=
  let t := s.jtagSelect 0
  .next (t.respond t.idcode 0)

/-- JTAG_BYPASS: the bypass register, which captures 0. -/
def execJtagBypass (s : State) : Result := .next ((s.jtagSelect 1).respond 0 0)

/-- JTAG_SAMPLE_PRELOAD: the levels of the covered balls are captured and the boundary register is loaded. -/
def execJtagSamplePreload (pins load : Nat) (s : State) : Result := .next (s.jtagScan 2 pins load)

/-- JTAG_EXTEST: the boundary register drives the balls. -/
def execJtagExtest (pins load : Nat) (s : State) : Result := .next (s.jtagScan 3 pins load)

/-- JTAG_EXTEST_PULSE: pulses on the lane balls. -/
def execJtagExtestPulse (pins load : Nat) (s : State) : Result := .next (s.jtagScan 4 pins load)

/-- JTAG_EXTEST_TRAIN: trains on the lane balls. -/
def execJtagExtestTrain (pins load : Nat) (s : State) : Result := .next (s.jtagScan 5 pins load)

/-- JTAG_CLAMP: the boundary register holds the balls, and bypass is scanned. -/
def execJtagClamp (s : State) : Result := .next ((s.jtagSelect 6).respond 0 0)

/-- JTAG_HIGHZ: the covered balls are in high impedance, and bypass is scanned. -/
def execJtagHighz (s : State) : Result := .next ((s.jtagSelect 7).respond 0 0)

/-- JTAG_TAP_RESET: the TAP enters Test-Logic-Reset, whose instruction is IDCODE. -/
def execJtagTapReset (s : State) : Result := .next (s.jtagSelect 0)

end Sys2Proof.Machine
end

