-- ==== Sys2Proof/Machine/RawLane.lean ====
section
/-!
DEFINITION. Raw lanes: the words of the three raw modes, their codes, the buffers of both ways, and loopback (R298, R304, R305, R338). Of the PCS of MODES 3 and 4 the manual
names IEEE 802.3 Clauses 36 and 49; their idle patterns are those clauses' (notes/assumptions/105).
-/

namespace Sys2Proof.Machine

/-- A raw lane on which nothing has passed. -/
def raw0 : RawLane := ⟨[], 0, [], 0, 0, 0, [], false, false, 0, 0, 0, []⟩

/-- A raw lane. -/
def State.rawOf (s : State) (lane : Nat) : RawLane := Map.get raw0 s.lanes.raw lane

/-- Change a raw lane. -/
def State.modRaw (s : State) (lane : Nat) (f : RawLane → RawLane) : State :=
  s.modLanes (fun n => { n with raw := Map.set raw0 n.raw lane (f (s.rawOf lane)) })

/-- The line bits of a word period (R304). -/
def wordBits (mode : Nat) : Nat := if mode = 2 then 64 else if mode = 3 then 80 else 66

/-- Line bits with the polarity inverted where the field says so (R338). -/
def State.polar (s : State) (f : Field) (lane n v : Nat) : Nat := if s.flag f lane then 2 ^ n - 1 - v % 2 ^ n else v % 2 ^ n

/-! ### Transmission -/

/-- The characters of a MODE 3 word: byte i and its K flag (R304). -/
def wordChars (w : Nat) : List (Bool × Nat) := (List.range 8).map (fun i => (nbit w (64 + i), byteAt w i))

/-- Ten-bit characters as line bits, the first lowest. -/
def charBits (l : List (BitVec 10)) : Nat := l.foldr (fun c v => c.toNat + 2 ^ 10 * v) 0

/-- What a transmitter puts on the line for a word, before polarity (R304). -/
def rawEncode (mode w : Nat) (k : RawLane) : Nat × RawLane :=
  if mode = 3 then
    let e := encodeChars (wordChars w) k.txRd
    (charBits e.1, { k with txRd := e.2 })
  else if mode = 4 then
    let e := scramble 64 (w / 4 % 2 ^ 64) k.txSc
    (w % 4 + 4 * e.1, { k with txSc := e.2 })
  else (w % 2 ^ 64, k)

/-- The word of the PCS idle pattern: in Clause 36 the ordered sets of K28.5 with D5.6 or D16.2, of which the first leaves the disparity negative; in Clause 49 a control block of
type 0x1E. PRESUMED (notes/assumptions/105). -/
def pcsIdleWord (mode : Nat) (rd : Bool) : Nat :=
  if mode = 3 then
    ofBytes [0xBC, (if rd then 0xC5 else 0x50), 0xBC, 0x50, 0xBC, 0x50, 0xBC, 0x50] + 0x55 * 2 ^ 64
  else 1 + 0x1E * 4

/-- A word period's worth of line bits goes out (R298, R305, R338); in far-end loopback the received data goes out instead. -/
def State.rawPut (s : State) (lane w : Nat) : State :=
  let mode := s.getR Reg.LNE_CFG_MODE lane
  let e := rawEncode mode w (s.rawOf lane)
  let v := s.polar Reg.LNE_CFG_TXPOL lane (wordBits mode) e.1
  s.modRaw lane (fun _ =>
    if s.getR Reg.LNE_CFG_LOOP lane = 2 then e.2
    else { e.2 with line := v, symbols := if 11 ≤ s.getR Reg.LNE_CFG_RATE lane then pam4 32 v else [] })

/-- The word periods that have passed on a lane since they were last counted, by the device's own clock, and what is left over. -/
def State.rawPeriods (s : State) (lane : Nat) : Nat × Nat :=
  let k := s.rawOf lane
  let unit := wordBits (s.getR Reg.LNE_CFG_MODE lane) * 102400000
  let units := (s.noc.clock - k.at_) * (laneRate (s.getR Reg.LNE_CFG_RATE lane)).1 + k.passed
  (units / unit, units % unit)

/-- The words written leave one in each word period, and where there is none the last one or the idle pattern does (R305); what the scrambler then holds is open. -/
def State.rawSend (s : State) (lane : Nat) : State :=
  let mode := s.getR Reg.LNE_CFG_MODE lane
  let p := s.rawPeriods lane
  let k := s.rawOf lane
  let go := k.tx.take p.1
  let t := (go.foldl (fun u w => (u.rawPut lane w).modRaw lane (fun x => { x with last := w })) s).modRaw lane
    (fun x => { x with tx := x.tx.drop p.1, at_ := s.noc.clock, passed := p.2 })
  if p.1 ≤ k.tx.length then t
  else if mode = 2 then t.rawPut lane (t.rawOf lane).last
  else (t.modRaw lane (fun x => { x with txSc := (Config.freeWord s.free).toNat % 2 ^ 58 })).draw.rawPut lane (pcsIdleWord mode (t.rawOf lane).txRd)

/-- A word may be written (R305). -/
def State.rawReady (s : State) (lane : Nat) : Bool := s.laneRaw lane && decide ((s.rawOf lane).tx.length < 16)

/-- A word is written for transmission where TX_READY is 1 (R305). -/
def State.rawWrite (s : State) (lane w : Nat) : State :=
  if s.rawReady lane then s.modRaw lane (fun k => { k with tx := k.tx ++ [w % 2 ^ 72] }) else s

/-- RAW_WORD_TRANSMIT (R305). -/
def execRawWordTransmit (lane : Fin 160) (word : BitVec 72) (s : State) : Result :=
  if s.laneRaw lane then .next ((s.rawSend lane).rawWrite lane word.toNat) else .next s

/-! ### Reception -/

/-- A word enters the receive buffer of 16, or is discarded as the newest (R305). -/
def State.rawEnter (s : State) (lane w : Nat) : State :=
  if 16 ≤ (s.rawOf lane).rx.length then
    (s.satAdd Reg.LNE_RAWERR_OVF lane 1).raise (laneSrc lane) 0x0404 2 (laneDetail lane)
  else s.modRaw lane (fun k => { k with rx := k.rx ++ [w] })

/-- Characters with each comma moved to byte 0 of a word (R304): the word that the last one would stand within is left out. -/
def alignComma (l : List (Option (Bool × Nat))) : List (Option (Bool × Nat)) :=
  match (l.reverse.idxOf? (some (true, k285))) with
  | some j => l.drop ((l.length - 1 - j) % 8)
  | none => l

/-- The word that eight characters are; an errored one's byte and K flag are open. -/
def charsWord (l : List (Option (Bool × Nat))) (v : Nat) : Nat :=
  l.zipIdx.foldl (fun w e =>
    let c := e.1.getD (nbit v (56 + e.2 % 8), v / 256 ^ (e.2 % 7) % 256)
    w + c.2 * 256 ^ e.2 + bit c.1 * 2 ^ (64 + e.2)) 0

/-- What comes in MODE 3: the characters with their disparity, aligned to commas (R304). After a realignment the disparity is the first character's. -/
def State.rawChars (s : State) (lane v : Nat) (realign : Bool) : State :=
  let k := s.rawOf lane
  let cs := charsOf (BitVec.ofNat 80 v)
  let rd := if realign then (decode8b10b (cs.headD 0) false).isNone else k.rxRd
  let d := decodeChars cs rd
  let l := alignComma ((if realign then [] else k.held) ++ d.1)
  let t := (s.satAdd Reg.LNE_RAWERR_CODE lane (d.1.filter (fun c => c.isNone)).length).modRaw lane (fun x => { x with
    rxRd := d.2, held := if 8 ≤ l.length then l.drop 8 else l })
  if 8 ≤ l.length then t.draw.rawEnter lane (charsWord (l.take 8) (Config.freeWord s.free).toNat) else t

/-- What comes in MODE 4: the header and the descrambled payload (R304). -/
def State.rawBlock (s : State) (lane v : Nat) : State :=
  let d := descramble 64 (v / 4) (s.rawOf lane).rxSc
  let bad := decide (v % 4 = 0) || decide (v % 4 = 3)
  ((if bad then s.satAdd Reg.LNE_RAWERR_CODE lane 1 else s).modRaw lane (fun x => { x with rxSc := d.2 })).rawEnter lane (v % 4 + 4 * d.1)

/-- RAW_WORD_RECEIVE (R304, R305, R338): the line bits of one word period, the first lowest, or this lane's own in near-end loopback; `realign` says that the receiver has found
its character boundary anew before them. -/
def execRawWordReceive (lane : Fin 160) (line : BitVec 80) (realign : Bool) (s : State) : Result :=
  if s.laneRaw lane then
    let mode := s.getR Reg.LNE_CFG_MODE lane
    let t := s.rawSend lane
    let v := if s.getR Reg.LNE_CFG_LOOP lane = 1 then (t.rawOf lane).line else line.toNat
    let t := if s.getR Reg.LNE_CFG_LOOP lane = 2 then t.modRaw lane (fun k => { k with
        line := v % 2 ^ wordBits mode, symbols := if 11 ≤ s.getR Reg.LNE_CFG_RATE lane then pam4 32 (v % 2 ^ 64) else [] }) else t
    let r := s.polar Reg.LNE_CFG_RXPOL lane (wordBits mode) v
    .next (if mode = 3 then t.rawChars lane r realign else if mode = 4 then t.rawBlock lane r else t.rawEnter lane r)
  else .next s

/-- RAW_PCS_LOCK (R304): in MODES 3 and 4. -/
def execRawPcsLock (lane : Fin 160) (lock : Bool) (s : State) : Result :=
  let m := s.getR Reg.LNE_CFG_MODE lane
  s.when (decide (m = 3) || decide (m = 4)) (s.setR Reg.LNE_STAT_PCS_LOCK lane (bit lock))

end Sys2Proof.Machine
end

