-- ==== Sys2Proof/Machine/RegionEdge.lean ====
section
/-!
DEFINITION. A rising edge of a region's clock: cells, crossbar and spines, and what every block at the region's crossbar does with the values presented to it (R99 to R108,
R111, R122, R129, R131, R139 to R145, R154, R163 to R168, R264, R265, R305).
-/

namespace Sys2Proof.Machine

/-! ### Values from outside the device -/

/-- A port from outside belongs to a region: a pin's by its connection, the second sample of a DDR pin at the port above it (R265), or one of the four lines of the hard serial
port that meets the region (R125), at hard-block ports. -/
def State.outsidePort (s : State) (rg k : Nat) : Bool :=
  let pin := fun j => Map.find s.tio.padIns (muxKey rg (131072 + j))
  (pin k).isSome || (match pin (k - 1) with
    | some n => s.flag Reg.TIO_PIN_CFG_DDR (s.cfgPin n)
    | none => false) || (decide (hardIn ≤ k) && decide (k < hardIn + 4) && (spOf rg).isSome)

/-- A port carries a sample of the rising edge, which the region sees from that edge on; every other one from outside shows at the edge (R264, R265). -/
def State.risingSample (s : State) (rg k : Nat) : Bool := (Map.find s.tio.padIns (muxKey rg (131072 + k))).isSome

/-- Put the values of ports from outside that satisfy a test. -/
def State.setPorts (s : State) (rg : Nat) (ports : List (Nat × Bool)) (t : Nat → Bool) : State :=
  s.modIc (fun i => { i with xbar := (ports.filter (fun e => decide (hardIn ≤ e.1) && decide (e.1 < 2 ^ 16) && s.outsidePort rg e.1 && t e.1)).foldl (fun m e =>
    Map.set false m (muxKey rg (131072 + e.1)) e.2) i.xbar })

/-! ### RAM blocks, MAC slices, DCQs -/

/-- What the crossbar presents at a RAM port: 98 signals for each (R110). -/
def State.ramAt (s : State) (rg b p : Nat) : Nat × RamWrite :=
  let base := ramTo + (b * 2 + p) * 98
  (s.presentedNum rg (base + 16) 2,
    ⟨s.presentedNum rg base 16, s.presentedNum rg (base + 18) 8, s.presentedNum rg (base + 26) 72⟩)

/-- A RAM block at an edge: a port with EN and WE writes, with EN alone reads (R110 to R113). -/
def State.ramBlockEdge (s was : State) (rg : Nat) (b : Fin 4) : State :=
  let pa := was.ramAt rg b 0
  let pb := was.ramAt rg b 1
  let w := fun (p : Nat × RamWrite) => if p.1 = 3 then some p.2 else none
  let t := if pa.1 = 3 || pb.1 = 3 then s.ramWrites (rg * 4 + b) (w pa) (w pb) else s
  let t := if pa.1 = 1 then t.ramReads rg b .a pa.2.addr none else t
  if pb.1 = 1 then t.ramReads rg b .b pb.2.addr none else t

/-- What the crossbar presents at a MAC slice: 148 signals (R121). -/
def State.macAt (s : State) (rg i : Nat) : MacIn :=
  let base := macTo + i * 148
  ⟨BitVec.ofNat 27 (s.presentedNum rg base 27), BitVec.ofNat 26 (s.presentedNum rg (base + 27) 26), BitVec.ofNat 27 (s.presentedNum rg (base + 53) 27),
    BitVec.ofNat 64 (s.presentedNum rg (base + 80) 64), BitVec.ofNat 2 (s.presentedNum rg (base + 144) 2), s.presented rg (base + 146),
    s.presented rg (base + 147)⟩

/-- The MAC slices at an edge (R122, R123): all take it together, so each sees the ACC below it as it stood before; without EN and CLR a slice holds. -/
def State.macsEdge (s was : State) (rg : Nat) (wrhold : Bool) : State :=
  s.modFab (fun f => { f with macs := (List.range 8).foldl (fun m i =>
    let x := was.macAt rg i
    let c := was.mac (rg * 8 + i)
    let n := if wrhold || !(x.en || x.clr) then c else macEdge c x (if i = 0 then 0 else (was.mac (rg * 8 + i - 1)).acc)
    Map.set mac0 m (rg * 8 + i) { n with edges := 0, prevAcc := 0 }) f.macs })

/-- The DCQ ports of a region at an edge (R154): W_EN of its write ports, 73 signals each, and R_RD of its read ports. -/
def State.dcqsEdge (s was : State) (rg : Nat) : State :=
  let t := (List.range 4).foldl (fun u q =>
    if was.presented rg (dcqTo + q * 73 + 72) then u.dcqWrite rg q (BitVec.ofNat 72 (was.presentedNum rg (dcqTo + q * 73) 72)) else u) s
  (List.range 4).foldl (fun u q => match was.dcqInto rg q with
    | some c => if was.presented rg (dcqTo + 292 + q) then u.dcqRead c else u
    | none => u) t

/-! ### The NAP (R163 to R168) -/

/-- A flit crosses the TX interface (R163, R164): SOP begins a packet, and one that was open is cut short; EOP ends it. A flit with no packet open is nothing. -/
def State.txFlit (s : State) (rg : Nat) (f : Flit) (sop eop : Bool) : State :=
  let l := (s.region rg).tx
  let cut := if sop then (match l with
    | [] => s
    | h :: d => s.napSend rg (parsePacket h.bits d)) else s
  let l := if sop then [f] else if l.isEmpty || decide (32 < l.length) then l else l ++ [f]
  match eop, l with
  | true, h :: d => (cut.modRegion rg (fun r => { r with tx := [] })).napSend rg (parsePacket h.bits d)
  | _, _ => cut.modRegion rg (fun r => { r with tx := l })

/-- The NAP at an edge: what its region's outputs, where they are live, tell it; held ones act as 0, DESIGN CHOICE (notes/assumptions/87). `rxReady` is RX_READY as logic outside the stream gives it. -/
def State.napEdge (s was : State) (rg : Nat) (rxReady : Bool) : State :=
  if !was.outputsLive rg then s
  else
    let t := if was.presented rg (napTo + 515) && was.txReady rg then
        s.txFlit rg ⟨was.presentedNum rg napTo 512, was.presented rg (napTo + 514)⟩ (was.presented rg (napTo + 512)) (was.presented rg (napTo + 513))
      else s
    let t := if rxReady || was.presented rg (napTo + 516) then t.modRegion rg rxAccept else t
    if was.presented rg (napTo + 517) then t.mmAck rg (was.presented rg (napTo + 582)) (BitVec.ofNat 64 (was.presentedNum rg (napTo + 518) 64)) else t

/-! ### Raw lanes and pins -/

/-- A raw lane at an edge of the region that meets it (R305): the oldest word received is shown with RX_VALID, and a word that the region writes is taken. -/
def State.rawLaneEdge (s was : State) (rg lane base : Nat) : State :=
  let b := (s.rawOf lane).rx
  let shown := match b with
    | [] => (s.rawOf lane).shown % 2 ^ 72
    | w :: _ => w % 2 ^ 72 + 2 ^ 72
  let ready := s.rawReady lane
  let t := s.modRaw lane (fun x => { x with rx := b.tail, shown := shown })
  let t := if t.laneRaw lane then t.rawSend lane else t
  if was.outputsLive rg && was.presented rg (base + 72) && ready then t.rawWrite lane (was.presentedNum rg base 72) else t

/-- The four raw lanes that meet a region, where they do. -/
def State.rawEdge (s was : State) (rg : Nat) : State :=
  match rawLane rg with
  | some l => (List.range 4).foldl (fun t i => t.rawLaneEdge was rg (l + i) (hardTo + 73 * i)) s
  | none => s

/-- Half a period of a region's clock, in ticks: from the rising to the falling edge (R265). -/
def State.halfPeriod (s : State) (rg : Nat) : Nat :=
  match s.regionGen rg with
  | some g => s.cgPeriods g 1 / 2
  | none => 0

/-- A pin register at an edge: it launches what it took one edge before, with DDR the second bit half a period later, both behind ODLY, and takes what the region
presented (R264, R265). The pad delay is left out (log 26). -/
def State.padNext (s was : State) (rg key : Nat) (p : Pad) : Pad :=
  let i := s.cfgPin p.pin
  let at_ := s.noc.clock + s.getR Reg.TIO_ODLY_ACT i
  let ddr := was.flag Reg.TIO_PIN_CFG_DDR i
  let v := Map.get false was.ic.xbar key
  { p with
      next := v
      next2 := if ddr then Map.get false was.ic.xbar (key + 1) else v
      launched := pruned s.noc.clock (p.launched ++ [(at_, p.next)] ++ (if ddr then [(at_ + s.halfPeriod rg, p.next2)] else [])) }

/-- The plain-mode pin registers of a region at an edge, with the delays that take effect at it (R264 to R266). -/
def State.padEdge (s was : State) (rg : Nat) : State :=
  let mine := s.tio.pads.filter (fun e => decide (e.1 / 2 ^ 18 = rg))
  let ins := (s.tio.padIns.filter (fun e => decide (e.1 / 2 ^ 18 = rg))).map (fun e => e.2)
  let t := ((mine.map (fun e => e.2.pin) ++ ins).map s.cfgPin).foldl (fun u i => u.applyDelay i) s
  t.modTio (fun x => { x with pads := x.pads.map (fun e => if e.1 / 2 ^ 18 = rg then (e.1, t.padNext was rg e.1 e.2) else e) })

/-- The hard serial port that meets a region takes the levels that the region's live outputs drive on its four lines; pins drive them otherwise (R125, R137). -/
def State.spEdge (s was : State) (rg : Nat) : State :=
  match spOf rg with
  | some i => s.modFab (fun b => { b with sps := Map.set sp0 b.sps i { Map.get sp0 b.sps i with
      lines := if was.spMeets i && was.outputsLive rg then was.presentedNum rg hardTo 4 else 0 } })
  | none => s

/-! ### The edge -/

/-- The cells, the crossbar, the spines and the RAM output stages at an edge (R104, R111, R143). -/
def State.logicEdge (s : State) (rg : Nat) : State :=
  let cls := s.clustersOf rg
  let spines := s.ic.spines.map (fun e => (e.1, s.spineEdge rg e.2))
  let fab := cls.foldl (fun fb cl => s.clusterEdge rg cl fb) s.fab
  let wr := s.flag Reg.FAB_WRHOLD rg
  let rams := (List.range 4).foldl (fun m b =>
    Map.set ram0 m (rg * 4 + b) (ramEdge (Map.get ram0 m (rg * 4 + b)) wr)) fab.rams
  (s.modFab (fun _ => { fab with rams := rams, ramOld := outside (fun x => decide (x = rg)) 4096 fab.ramOld })).modIc (fun c => { c with
    xbar := s.xbarEdge rg spines
    spines := spines })

/-- What the blocks at the region's crossbar do at an edge with what was presented to them. -/
def State.blocksEdge (s was : State) (rg : Nat) (rxReady : Bool) : State :=
  let wr := was.flag Reg.FAB_WRHOLD rg
  let t := if wr then s else ([0, 1, 2, 3] : List (Fin 4)).foldl (fun u b => u.ramBlockEdge was rg b) s
  let t := (((t.macsEdge was rg wr).dcqsEdge was rg).napEdge was rg rxReady).rawEdge was rg
  let t := ((t.roEdge rg).padEdge was rg).spEdge was rg
  if rg % 384 = 23 then t.nvmEdge was (rg / 384) else t

/-- Asynchronous set/resets act in the cycle after the edge, through a second level where one drives another (R105). -/
def State.asyncEdge (s : State) (rg : Nat) : State :=
  let cls := s.clustersOf rg
  cls.foldl (fun u cl => u.asyncSettle rg cl) (cls.foldl (fun u cl => u.asyncSettle rg cl) s)

/-- One edge of a region's clock: every part takes what stood before it; then a step of a release that waited for it governs the cycle that follows (R139). -/
def State.regionEdge (s : State) (rg : Nat) (rxReady : Bool) (ports : List (Nat × Bool)) : State :=
  let s := s.setPorts rg ports (fun k => !s.risingSample rg k)
  let t := ((s.logicEdge rg).blocksEdge s rg rxReady).setPorts rg ports (fun k => s.risingSample rg k)
  (((t.setR Reg.FAB_JUST rg 0).regionSteps rg).asyncEdge rg).fabLines rg

/-- REGION_CLOCK_RISING_EDGE (R99 to R108, R139, R143, R264): `ports` are the values at the region's ports from outside the device, pins as sampled and serial lines; `rxReady` is
RX_READY where no port of the stream drives it. -/
def execRegionClockRisingEdge (fd : Fin 8) (rgn_ : Fin 384) (rxReady : Bool) (ports : List (Nat × Bool)) (s : State) : Result :=
  s.when (s.regionClocked (rgn fd rgn_)) (s.regionEdge (rgn fd rgn_) rxReady ports)

end Sys2Proof.Machine
end

