-- ==== Sys2Proof/Machine/Dispatch.lean ====
section
/-!
DEFINITION. One arm per command: which meaning the command has.
-/

namespace Sys2Proof.Machine

/-- The effect of a command on everything but the queue of waiting commands. -/
def exec (i : Instr) (s : State) : Host.Outcome State Fault Refusal :=
  match i with
  | .registerWrite addr wide value req => Sys2Proof.Machine.execRegisterWrite addr wide value req s
  | .counterClearingRead addr wide peek req => Sys2Proof.Machine.execCounterClearingRead addr wide peek req s
  | .eventRaised source code severity detail => Sys2Proof.Machine.execEventRaised source code severity detail s
  | .eventRecordWrite source code => Sys2Proof.Machine.execEventRecordWrite source code s
  | .eventRingConfigWrite off value => Sys2Proof.Machine.execEventRingConfigWrite off value s
  | .eventRingRpWrite value => Sys2Proof.Machine.execEventRingRpWrite value s
  | .eventRingOvfClear discarded => Sys2Proof.Machine.execEventRingOvfClear discarded s
  | .sysidWrite value => Sys2Proof.Machine.execSysidWrite value s
  | .devRstDevice key => Sys2Proof.Machine.execDevRstDevice key s
  | .devRstWarm key => Sys2Proof.Machine.execDevRstWarm key s
  | .powerOnReset => Sys2Proof.Machine.execPowerOnReset s
  | .powerOnResetEnd syncrole bootsrc pullUp vio => Sys2Proof.Machine.execPowerOnResetEnd syncrole bootsrc pullUp vio s
  | .ramRestoreDone rel => Sys2Proof.Machine.execRamRestoreDone rel s
  | .timeCounterStart => Sys2Proof.Machine.execTimeCounterStart s
  | .deskewRecalibrate die inRange => Sys2Proof.Machine.execDeskewRecalibrate die inRange s
  | .tbsTimeLoRead peek => Sys2Proof.Machine.execTbsTimeLoRead peek s
  | .setTime => Sys2Proof.Machine.execSetTime s
  | .stepNow => Sys2Proof.Machine.execStepNow s
  | .roleWrite role => Sys2Proof.Machine.execRoleWrite role s
  | .syncFrameSend => Sys2Proof.Machine.execSyncFrameSend s
  | .syncFrameReceive comma body check => Sys2Proof.Machine.execSyncFrameReceive comma body check s
  | .syncLost => Sys2Proof.Machine.execSyncLost s
  | .holdoverLimit => Sys2Proof.Machine.execHoldoverLimit s
  | .trefLost => Sys2Proof.Machine.execTrefLost s
  | .trefRestored => Sys2Proof.Machine.execTrefRestored s
  | .timePllLockLost => Sys2Proof.Machine.execTimePllLockLost s
  | .timePllLockRegained => Sys2Proof.Machine.execTimePllLockRegained s
  | .timePllUnlock => Sys2Proof.Machine.execTimePllUnlock s
  | .fabCgApply fd g => Sys2Proof.Machine.execFabCgApply fd g s
  | .retuneCommit fd g => Sys2Proof.Machine.execRetuneCommit fd g s
  | .cgPllLocked fd g => Sys2Proof.Machine.execCgPllLocked fd g s
  | .clkgenUnlock fd g => Sys2Proof.Machine.execClkgenUnlock fd g s
  | .fabCgAbort fd g => Sys2Proof.Machine.execFabCgAbort fd g s
  | .fabCgEnable fd g => Sys2Proof.Machine.execFabCgEnable fd g s
  | .fabCgDisable fd g => Sys2Proof.Machine.execFabCgDisable fd g s
  | .pwclkSourceWrite n fd g en => Sys2Proof.Machine.execPwclkSourceWrite n fd g en s
  | .pwclkResume n => Sys2Proof.Machine.execPwclkResume n s
  | .fabRamRead fd rgn_ b port addr upset => Sys2Proof.Machine.execFabRamRead fd rgn_ b port addr upset s
  | .fabRamWrite fd rgn_ b pa pb => Sys2Proof.Machine.execFabRamWrite fd rgn_ b pa pb s
  | .macUpdate fd rgn_ slice inp => Sys2Proof.Machine.execMacUpdate fd rgn_ slice inp s
  | .fabRoTrim fd g => Sys2Proof.Machine.execFabRoTrim fd g s
  | .roTrimWindowEnd fd g within => Sys2Proof.Machine.execRoTrimWindowEnd fd g within s
  | .fabRoAbort fd g => Sys2Proof.Machine.execFabRoAbort fd g s
  | .fabRoFreqWrite fd g freq => Sys2Proof.Machine.execFabRoFreqWrite fd g freq s
  | .nvmFabricRead fd addr => Sys2Proof.Machine.execNvmFabricRead fd addr s
  | .nvmReadComplete fd upset => Sys2Proof.Machine.execNvmReadComplete fd upset s
  | .nvmFabricWrite fd addr data => Sys2Proof.Machine.execNvmFabricWrite fd addr data s
  | .nvmRegisterWrite fd byteAddr wide data => Sys2Proof.Machine.execNvmRegisterWrite fd byteAddr wide data s
  | .nvmWriteDrain fd bank => Sys2Proof.Machine.execNvmWriteDrain fd bank s
  | .nvmLockKey fd key req => Sys2Proof.Machine.execNvmLockKey fd key req s
  | .nvmLockTimeout fd => Sys2Proof.Machine.execNvmLockTimeout fd s
  | .spDataPush fd p byte => Sys2Proof.Machine.execSpDataPush fd p byte s
  | .spDataPop fd p peek => Sys2Proof.Machine.execSpDataPop fd p peek s
  | .spModeApply fd p => Sys2Proof.Machine.execSpModeApply fd p s
  | .spRouteApply fd p => Sys2Proof.Machine.execSpRouteApply fd p s
  | .spByteReceived fd p byte lineErr => Sys2Proof.Machine.execSpByteReceived fd p byte lineErr s
  | .spByteSent fd p lineErr => Sys2Proof.Machine.execSpByteSent fd p lineErr s
  | .outholdRelease rel => Sys2Proof.Machine.execOutholdRelease rel s
  | .wrholdRelease rel => Sys2Proof.Machine.execWrholdRelease rel s
  | .stholdRelease rel => Sys2Proof.Machine.execStholdRelease rel s
  | .dcqWrite fd rgn_ q data => Sys2Proof.Machine.execDcqWrite fd rgn_ q data s
  | .dcqEntryPresent fd rgn_ q => Sys2Proof.Machine.execDcqEntryPresent fd rgn_ q s
  | .dcqRead fd rgn_ q => Sys2Proof.Machine.execDcqRead fd rgn_ q s
  | .dcqRemovalReport fd rgn_ q => Sys2Proof.Machine.execDcqRemovalReport fd rgn_ q s
  | .xbarSelUpset fd rgn_ mux bit => Sys2Proof.Machine.execXbarSelUpset fd rgn_ mux bit s
  | .napTxPacket fd rgn_ p => Sys2Proof.Machine.execNapTxPacket fd rgn_ p s
  | .napRxDeliver fd rgn_ => Sys2Proof.Machine.execNapRxDeliver fd rgn_ s
  | .napMmRequest fd rgn_ => Sys2Proof.Machine.execNapMmRequest fd rgn_ s
  | .napMmAck fd rgn_ err rdata => Sys2Proof.Machine.execNapMmAck fd rgn_ err rdata s
  | .napMmTimeout fd rgn_ => Sys2Proof.Machine.execNapMmTimeout fd rgn_ s
  | .regionClkSelWrite fd rgn_ sel clearRej => Sys2Proof.Machine.execRegionClkSelWrite fd rgn_ sel clearRej s
  | .fabRgnIsoReq fd rgn_ => Sys2Proof.Machine.execFabRgnIsoReq fd rgn_ s
  | .fabRgnIsoExit fd rgn_ mode => Sys2Proof.Machine.execFabRgnIsoExit fd rgn_ mode s
  | .fabRgnIsoAbort fd rgn_ => Sys2Proof.Machine.execFabRgnIsoAbort fd rgn_ s
  | .isolationCommit fd rgn_ => Sys2Proof.Machine.execIsolationCommit fd rgn_ s
  | .isolationExitCommit fd rgn_ => Sys2Proof.Machine.execIsolationExitCommit fd rgn_ s
  | .routerPacketReceive n fault => Sys2Proof.Machine.execRouterPacketReceive n fault s
  | .packetDeliver n => Sys2Proof.Machine.execPacketDeliver n s
  | .wakeBufferDrain router port => Sys2Proof.Machine.execWakeBufferDrain router port s
  | .nocWakeTimeout router port => Sys2Proof.Machine.execNocWakeTimeout router port s
  | .nocWakeRefused router port thermal => Sys2Proof.Machine.execNocWakeRefused router port thermal s
  | .portQuietOff router port => Sys2Proof.Machine.execPortQuietOff router port s
  | .forcedCloseTimeout router port => Sys2Proof.Machine.execForcedCloseTimeout router port s
  | .routeUpdate changes => Sys2Proof.Machine.execRouteUpdate changes s
  | .routeUpdateAbort n => Sys2Proof.Machine.execRouteUpdateAbort n s
  | .routeEpochRelease => Sys2Proof.Machine.execRouteEpochRelease s
  | .thyAdmit m answered => Sys2Proof.Machine.execThyAdmit m answered s
  | .thySuspend m id answered => Sys2Proof.Machine.execThySuspend m id answered s
  | .thyResume m id answered => Sys2Proof.Machine.execThyResume m id answered s
  | .thyTeardown m id answered => Sys2Proof.Machine.execThyTeardown m id answered s
  | .thyReadmit m id answered => Sys2Proof.Machine.execThyReadmit m id answered s
  | .thyAbort m => Sys2Proof.Machine.execThyAbort m s
  | .thyTimeout m => Sys2Proof.Machine.execThyTimeout m s
  | .contractDrainEnd id => Sys2Proof.Machine.execContractDrainEnd id s
  | .ingressAccept p => Sys2Proof.Machine.execIngressAccept p s
  | .tioVectorPacket bank => Sys2Proof.Machine.execTioVectorPacket bank s
  | .tioVectorStart bank => Sys2Proof.Machine.execTioVectorStart bank s
  | .tioEdgeEvent bank pin => Sys2Proof.Machine.execTioEdgeEvent bank pin s
  | .tioStrobe bank pin high low => Sys2Proof.Machine.execTioStrobe bank pin high low s
  | .tioVectorEnd bank => Sys2Proof.Machine.execTioVectorEnd bank s
  | .tioResultComplete bank => Sys2Proof.Machine.execTioResultComplete bank s
  | .tioResultFlush bank => Sys2Proof.Machine.execTioResultFlush bank s
  | .tioStop bank => Sys2Proof.Machine.execTioStop bank s
  | .tioStopTakeEffect bank => Sys2Proof.Machine.execTioStopTakeEffect bank s
  | .tioSrst bank => Sys2Proof.Machine.execTioSrst bank s
  | .tioSupplyMismatch bank => Sys2Proof.Machine.execTioSupplyMismatch bank s
  | .tioCalibrate bank pin inRange => Sys2Proof.Machine.execTioCalibrate bank pin inRange s
  | .tioDelayApply bank pin => Sys2Proof.Machine.execTioDelayApply bank pin s
  | .lneCfgWrite lane mode rate => Sys2Proof.Machine.execLneCfgWrite lane mode rate s
  | .laneRefLost g => Sys2Proof.Machine.execLaneRefLost g s
  | .laneCdrLost lane => Sys2Proof.Machine.execLaneCdrLost lane s
  | .laneSlip lane departure => Sys2Proof.Machine.execLaneSlip lane departure s
  | .rawWordReceive lane line realign => Sys2Proof.Machine.execRawWordReceive lane line realign s
  | .rawWordTransmit lane word => Sys2Proof.Machine.execRawWordTransmit lane word s
  | .dclEnable l => Sys2Proof.Machine.execDclEnable l s
  | .dclDisable l => Sys2Proof.Machine.execDclDisable l s
  | .dclRetrainCmd l => Sys2Proof.Machine.execDclRetrainCmd l s
  | .dclBlockLock l => Sys2Proof.Machine.execDclBlockLock l s
  | .dclBlockLockLost l => Sys2Proof.Machine.execDclBlockLockLost l s
  | .dclErrorThreshold l blocks => Sys2Proof.Machine.execDclErrorThreshold l blocks s
  | .dclCap l maxRate mask dev lantum => Sys2Proof.Machine.execDclCap l maxRate mask dev lantum s
  | .dclRateReq l rate => Sys2Proof.Machine.execDclRateReq l rate s
  | .dclRateAck l rate => Sys2Proof.Machine.execDclRateAck l rate s
  | .dclRateSwitch l => Sys2Proof.Machine.execDclRateSwitch l s
  | .dclEq l req peerTrained ownTrained => Sys2Proof.Machine.execDclEq l req peerTrained ownTrained s
  | .dclTsReq l seq turn => Sys2Proof.Machine.execDclTsReq l seq turn s
  | .dclTsRsp l seq turn elapsed => Sys2Proof.Machine.execDclTsRsp l seq turn elapsed s
  | .dclLatinfo l tx rx => Sys2Proof.Machine.execDclLatinfo l tx rx s
  | .dclTimeHi l hi epoch => Sys2Proof.Machine.execDclTimeHi l hi epoch s
  | .dclTimeLo l lo => Sys2Proof.Machine.execDclTimeLo l lo s
  | .dclMap l id => Sys2Proof.Machine.execDclMap l id s
  | .dclStatus l bits => Sys2Proof.Machine.execDclStatus l bits s
  | .dclRetrainBlock l cause => Sys2Proof.Machine.execDclRetrainBlock l cause s
  | .dclIdle l => Sys2Proof.Machine.execDclIdle l s
  | .dclCapxTimeout l => Sys2Proof.Machine.execDclCapxTimeout l s
  | .dclRelockTimeout l => Sys2Proof.Machine.execDclRelockTimeout l s
  | .dclEqtrainTimeout l => Sys2Proof.Machine.execDclEqtrainTimeout l s
  | .dclLatmeasTimeout l => Sys2Proof.Machine.execDclLatmeasTimeout l s
  | .dclTxPacket engine => Sys2Proof.Machine.execDclTxPacket engine s
  | .dclMessageTransmit stream => Sys2Proof.Machine.execDclMessageTransmit stream s
  | .dclStreamMessageReceive stream blocks uncorrectable corrected => Sys2Proof.Machine.execDclStreamMessageReceive stream blocks uncorrectable corrected s
  | .dclMapWrite l off value => Sys2Proof.Machine.execDclMapWrite l off value s
  | .dclStreamEntryWrite stream value => Sys2Proof.Machine.execDclStreamEntryWrite stream value s
  | .dclAsymWrite l value => Sys2Proof.Machine.execDclAsymWrite l value s
  | .pgeArm n => Sys2Proof.Machine.execPgeArm n s
  | .pgeAbort n => Sys2Proof.Machine.execPgeAbort n s
  | .pgeStop n => Sys2Proof.Machine.execPgeStop n s
  | .pgeSrst n => Sys2Proof.Machine.execPgeSrst n s
  | .pgeNop n => Sys2Proof.Machine.execPgeNop n s
  | .pgeHalt n => Sys2Proof.Machine.execPgeHalt n s
  | .pgeJmp n => Sys2Proof.Machine.execPgeJmp n s
  | .pgeCall n => Sys2Proof.Machine.execPgeCall n s
  | .pgeRet n => Sys2Proof.Machine.execPgeRet n s
  | .pgeBr n => Sys2Proof.Machine.execPgeBr n s
  | .pgeLdc n => Sys2Proof.Machine.execPgeLdc n s
  | .pgeDjnz n => Sys2Proof.Machine.execPgeDjnz n s
  | .pgeTset n => Sys2Proof.Machine.execPgeTset n s
  | .pgeSv n => Sys2Proof.Machine.execPgeSv n s
  | .pgeAv n => Sys2Proof.Machine.execPgeAv n s
  | .pgeWaitt n => Sys2Proof.Machine.execPgeWaitt n s
  | .pgeWaitf n => Sys2Proof.Machine.execPgeWaitf n s
  | .pgeSyncv n => Sys2Proof.Machine.execPgeSyncv n s
  | .pgeWaitEnd n => Sys2Proof.Machine.execPgeWaitEnd n s
  | .pgeWaitTimeout n => Sys2Proof.Machine.execPgeWaitTimeout n s
  | .pgeLdg n => Sys2Proof.Machine.execPgeLdg n s
  | .pgeSflag n => Sys2Proof.Machine.execPgeSflag n s
  | .pgeSvptr n => Sys2Proof.Machine.execPgeSvptr n s
  | .pgeEvt n => Sys2Proof.Machine.execPgeEvt n s
  | .pgeIllegalOpcode n => Sys2Proof.Machine.execPgeIllegalOpcode n s
  | .pgeRecordDelta n => Sys2Proof.Machine.execPgeRecordDelta n s
  | .pgeRecordToggle n => Sys2Proof.Machine.execPgeRecordToggle n s
  | .pgeRecordEnd n => Sys2Proof.Machine.execPgeRecordEnd n s
  | .pgeLeadClose n g => Sys2Proof.Machine.execPgeLeadClose n g s
  | .pgePacketInject n g => Sys2Proof.Machine.execPgePacketInject n g s
  | .pgeFetchResponse n => Sys2Proof.Machine.execPgeFetchResponse n s
  | .pgeBreachNotice n => Sys2Proof.Machine.execPgeBreachNotice n s
  | .fceArm n => Sys2Proof.Machine.execFceArm n s
  | .fceArmComplete n => Sys2Proof.Machine.execFceArmComplete n s
  | .fceEnd n => Sys2Proof.Machine.execFceEnd n s
  | .fceAbort n => Sys2Proof.Machine.execFceAbort n s
  | .fceSrst n => Sys2Proof.Machine.execFceSrst n s
  | .fceInputPacket n => Sys2Proof.Machine.execFceInputPacket n s
  | .fceTraceEntry n => Sys2Proof.Machine.execFceTraceEntry n s
  | .fceRecordProcess n ue => Sys2Proof.Machine.execFceRecordProcess n ue s
  | .fceAnalysisCommit n ue => Sys2Proof.Machine.execFceAnalysisCommit n ue s
  | .fceStatSnapshot n => Sys2Proof.Machine.execFceStatSnapshot n s
  | .fceStatPacketInject n => Sys2Proof.Machine.execFceStatPacketInject n s
  | .fceBreachNotice n => Sys2Proof.Machine.execFceBreachNotice n s
  | .mspParallel m => Sys2Proof.Machine.execMspParallel m s
  | .mspNop m => Sys2Proof.Machine.execMspNop m s
  | .mspHalt m => Sys2Proof.Machine.execMspHalt m s
  | .mspBr m => Sys2Proof.Machine.execMspBr m s
  | .mspCall m => Sys2Proof.Machine.execMspCall m s
  | .mspRet m => Sys2Proof.Machine.execMspRet m s
  | .mspBdnz m => Sys2Proof.Machine.execMspBdnz m s
  | .mspRepeat m => Sys2Proof.Machine.execMspRepeat m s
  | .mspWaitInbox m => Sys2Proof.Machine.execMspWaitInbox m s
  | .mspWaitTime m lag => Sys2Proof.Machine.execMspWaitTime m lag s
  | .mspWaitBarrier m => Sys2Proof.Machine.execMspWaitBarrier m s
  | .mspWaitChannel m => Sys2Proof.Machine.execMspWaitChannel m s
  | .mspWaitEnd m lag => Sys2Proof.Machine.execMspWaitEnd m lag s
  | .mspSend m => Sys2Proof.Machine.execMspSend m s
  | .mspSflg m => Sys2Proof.Machine.execMspSflg m s
  | .mspLdi m => Sys2Proof.Machine.execMspLdi m s
  | .mspMov m => Sys2Proof.Machine.execMspMov m s
  | .mspMovp m => Sys2Proof.Machine.execMspMovp m s
  | .mspMovs m lag => Sys2Proof.Machine.execMspMovs m lag s
  | .mspLd m => Sys2Proof.Machine.execMspLd m s
  | .mspSt m => Sys2Proof.Machine.execMspSt m s
  | .mspAdd m => Sys2Proof.Machine.execMspAdd m s
  | .mspSub m => Sys2Proof.Machine.execMspSub m s
  | .mspAnd m => Sys2Proof.Machine.execMspAnd m s
  | .mspOr m => Sys2Proof.Machine.execMspOr m s
  | .mspXor m => Sys2Proof.Machine.execMspXor m s
  | .mspAddi m => Sys2Proof.Machine.execMspAddi m s
  | .mspShift m => Sys2Proof.Machine.execMspShift m s
  | .mspCmp m => Sys2Proof.Machine.execMspCmp m s
  | .mspMin m => Sys2Proof.Machine.execMspMin m s
  | .mspMax m => Sys2Proof.Machine.execMspMax m s
  | .mspAbs m => Sys2Proof.Machine.execMspAbs m s
  | .mspMinix m => Sys2Proof.Machine.execMspMinix m s
  | .mspMaxix m => Sys2Proof.Machine.execMspMaxix m s
  | .mspMacd m => Sys2Proof.Machine.execMspMacd m s
  | .mspAcc m => Sys2Proof.Machine.execMspAcc m s
  | .mspSta m => Sys2Proof.Machine.execMspSta m s
  | .mspIllegal m => Sys2Proof.Machine.execMspIllegal m s
  | .mspGrpGo g mask clr => Sys2Proof.Machine.execMspGrpGo g mask clr s
  | .mspStartCycle g => Sys2Proof.Machine.execMspStartCycle g s
  | .mspGrpAbort g mask clr => Sys2Proof.Machine.execMspGrpAbort g mask clr s
  | .mspGrpStop g mask clr => Sys2Proof.Machine.execMspGrpStop g mask clr s
  | .mspGrpResume g mask clr => Sys2Proof.Machine.execMspGrpResume g mask clr s
  | .mspSrst m => Sys2Proof.Machine.execMspSrst m s
  | .mspInboxMessage g => Sys2Proof.Machine.execMspInboxMessage g s
  | .mspBreachNotice g => Sys2Proof.Machine.execMspBreachNotice g s
  | .mspMemoryAccess g lost upset => Sys2Proof.Machine.execMspMemoryAccess g lost upset s
  | .mspChannelInject m c => Sys2Proof.Machine.execMspChannelInject m c s
  | .spdAccess r upset => Sys2Proof.Machine.execSpdAccess r upset s
  | .spdAliasUpdate r upset => Sys2Proof.Machine.execSpdAliasUpdate r upset s
  | .spdOwnWrite bd bank ep req => Sys2Proof.Machine.execSpdOwnWrite bd bank ep req s
  | .spdHandoverCommit bd bank => Sys2Proof.Machine.execSpdHandoverCommit bd bank s
  | .spdHandoverAbort bd bank req => Sys2Proof.Machine.execSpdHandoverAbort bd bank req s
  | .spdInv bd bank req => Sys2Proof.Machine.execSpdInv bd bank req s
  | .eccInv bd cls unit req => Sys2Proof.Machine.execEccInv bd cls unit req s
  | .invalidateSweepEnd unit => Sys2Proof.Machine.execInvalidateSweepEnd unit s
  | .spdCopyStart bd c req => Sys2Proof.Machine.execSpdCopyStart bd c req s
  | .spdCopyStop bd c => Sys2Proof.Machine.execSpdCopyStop bd c s
  | .spdCopyResponse bd c => Sys2Proof.Machine.execSpdCopyResponse bd c s
  | .repairQueueRewrite unit => Sys2Proof.Machine.execRepairQueueRewrite unit s
  | .scrubPassStart unit => Sys2Proof.Machine.execScrubPassStart unit s
  | .rowRemapCommit unit => Sys2Proof.Machine.execRowRemapCommit unit s
  | .lpxDefaultTrainStart => Sys2Proof.Machine.execLpxDefaultTrainStart s
  | .lpxTrainingEnd n out => Sys2Proof.Machine.execLpxTrainingEnd n out s
  | .lpxInitPassEnd n => Sys2Proof.Machine.execLpxInitPassEnd n s
  | .lpxRetrain n committed => Sys2Proof.Machine.execLpxRetrain n committed s
  | .lpxAbort n => Sys2Proof.Machine.execLpxAbort n s
  | .lpxRetrainWaitTimeout n => Sys2Proof.Machine.execLpxRetrainWaitTimeout n s
  | .lpxDetWrite n det => Sys2Proof.Machine.execLpxDetWrite n det s
  | .lpxDetApply n => Sys2Proof.Machine.execLpxDetApply n s
  | .lpxMapWrite mode clearRej => Sys2Proof.Machine.execLpxMapWrite mode clearRej s
  | .lpxRefreshWindow n refreshes => Sys2Proof.Machine.execLpxRefreshWindow n refreshes s
  | .lpxMr4Update n rr aboveTwice => Sys2Proof.Machine.execLpxMr4Update n rr aboveTwice s
  | .lpxOscPass n excess => Sys2Proof.Machine.execLpxOscPass n excess s
  | .lpxAccess r link upset => Sys2Proof.Machine.execLpxAccess r link upset s
  | .lpxInlineWriteback n => Sys2Proof.Machine.execLpxInlineWriteback n s
  | .lpxIdlePowerDown n rank => Sys2Proof.Machine.execLpxIdlePowerDown n rank s
  | .pciePerstRise => Sys2Proof.Machine.execPciePerstRise s
  | .pcieLinkUp rate width flit degraded => Sys2Proof.Machine.execPcieLinkUp rate width flit degraded s
  | .pcieLinkDown => Sys2Proof.Machine.execPcieLinkDown s
  | .pcieHotReset perst => Sys2Proof.Machine.execPcieHotReset perst s
  | .pcieConfigRequest func acc => Sys2Proof.Machine.execPcieConfigRequest func acc s
  | .pcieHostRead func bar2 off bytes => Sys2Proof.Machine.execPcieHostRead func bar2 off bytes s
  | .pcieHostWrite func bar2 off bytes data poison => Sys2Proof.Machine.execPcieHostWrite func bar2 off bytes data poison s
  | .pcieDeviceResponse => Sys2Proof.Machine.execPcieDeviceResponse s
  | .pcieDmaStart c req => Sys2Proof.Machine.execPcieDmaStart c req s
  | .pcieDmaStop c => Sys2Proof.Machine.execPcieDmaStop c s
  | .pcieDmaResponse c ev => Sys2Proof.Machine.execPcieDmaResponse c ev s
  | .pcieMsixTrigger func vec => Sys2Proof.Machine.execPcieMsixTrigger func vec s
  | .pcieDoorbell func => Sys2Proof.Machine.execPcieDoorbell func s
  | .mbxH2dLenWrite len => Sys2Proof.Machine.execMbxH2dLenWrite len s
  | .mbxD2hLenWrite len => Sys2Proof.Machine.execMbxD2hLenWrite len s
  | .pciDbgGo addr op peek => Sys2Proof.Machine.execPciDbgGo addr op peek s
  | .pciStageGo req kind => Sys2Proof.Machine.execPciStageGo req kind s
  | .pciStageAbort req => Sys2Proof.Machine.execPciStageAbort req s
  | .pciFlr func => Sys2Proof.Machine.execPciFlr func s
  | .doeDiscovery index => Sys2Proof.Machine.execDoeDiscovery index s
  | .spdmGetVersion => Sys2Proof.Machine.execSpdmGetVersion s
  | .spdmGetCapabilities => Sys2Proof.Machine.execSpdmGetCapabilities s
  | .spdmNegotiateAlgorithms => Sys2Proof.Machine.execSpdmNegotiateAlgorithms s
  | .spdmGetDigests => Sys2Proof.Machine.execSpdmGetDigests s
  | .spdmGetCertificate slot => Sys2Proof.Machine.execSpdmGetCertificate slot s
  | .spdmChallenge slot => Sys2Proof.Machine.execSpdmChallenge slot s
  | .spdmGetMeasurements index signed => Sys2Proof.Machine.execSpdmGetMeasurements index signed s
  | .spdmChunkSend handle seq last => Sys2Proof.Machine.execSpdmChunkSend handle seq last s
  | .spdmChunkGet handle seq last => Sys2Proof.Machine.execSpdmChunkGet handle seq last s
  | .spdmUnsupportedRequest code => Sys2Proof.Machine.execSpdmUnsupportedRequest code s
  | .spdmGetPqCert => Sys2Proof.Machine.execSpdmGetPqCert s
  | .spdmGetPqSig => Sys2Proof.Machine.execSpdmGetPqSig s
  | .mtimecmpMatch hart => Sys2Proof.Machine.execMtimecmpMatch hart s
  | .plicClaim ctx peek => Sys2Proof.Machine.execPlicClaim ctx peek s
  | .plicComplete ctx id => Sys2Proof.Machine.execPlicComplete ctx id s
  | .patchKeyWrite dusk key req => Sys2Proof.Machine.execPatchKeyWrite dusk key req s
  | .patchEnWrite dusk mask req => Sys2Proof.Machine.execPatchEnWrite dusk mask req s
  | .patchKeyTimeout dusk => Sys2Proof.Machine.execPatchKeyTimeout dusk s
  | .wdtKick w key req => Sys2Proof.Machine.execWdtKick w key req s
  | .wdtFirstExpiry w => Sys2Proof.Machine.execWdtFirstExpiry w s
  | .wdtSecondExpiry w => Sys2Proof.Machine.execWdtSecondExpiry w s
  | .hartResetCmd hart req => Sys2Proof.Machine.execHartResetCmd hart req s
  | .dmHaltreq harts => Sys2Proof.Machine.execDmHaltreq harts s
  | .dmHartHalted hart => Sys2Proof.Machine.execDmHartHalted hart s
  | .dmResumereq harts => Sys2Proof.Machine.execDmResumereq harts s
  | .dmNdmreset => Sys2Proof.Machine.execDmNdmreset s
  | .dmHartreset harts => Sys2Proof.Machine.execDmHartreset harts s
  | .dmAbstractCommand cmd exc => Sys2Proof.Machine.execDmAbstractCommand cmd exc s
  | .dmSystemBusAccess addr size write data peek => Sys2Proof.Machine.execDmSystemBusAccess addr size write data peek s
  | .dmSessionCloseWrite => Sys2Proof.Machine.execDmSessionCloseWrite s
  | .authNonce => Sys2Proof.Machine.execAuthNonce s
  | .authNonceReady => Sys2Proof.Machine.execAuthNonceReady s
  | .authGrant len => Sys2Proof.Machine.execAuthGrant len s
  | .authGrantResult g => Sys2Proof.Machine.execAuthGrantResult g s
  | .authDrop => Sys2Proof.Machine.execAuthDrop s
  | .authLockoutEnd => Sys2Proof.Machine.execAuthLockoutEnd s
  | .debugSessionTimeout => Sys2Proof.Machine.execDebugSessionTimeout s
  | .drwAttention lowNs sync => Sys2Proof.Machine.execDrwAttention lowNs sync s
  | .drwResetLow => Sys2Proof.Machine.execDrwResetLow s
  | .drwResetRelease => Sys2Proof.Machine.execDrwResetRelease s
  | .drwNop fr => Sys2Proof.Machine.execDrwNop fr s
  | .drwOpen fr => Sys2Proof.Machine.execDrwOpen fr s
  | .drwClose fr => Sys2Proof.Machine.execDrwClose fr s
  | .drwMaskSet fr => Sys2Proof.Machine.execDrwMaskSet fr s
  | .drwMaskClear fr => Sys2Proof.Machine.execDrwMaskClear fr s
  | .drwRead addr peek fr => Sys2Proof.Machine.execDrwRead addr peek fr s
  | .drwWrite addr data peek fr => Sys2Proof.Machine.execDrwWrite addr data peek fr s
  | .dawnBootStart dir quad hdr bad => Sys2Proof.Machine.execDawnBootStart dir quad hdr bad s
  | .dawnFlashStall => Sys2Proof.Machine.execDawnFlashStall s
  | .dawnStreamReadDone f => Sys2Proof.Machine.execDawnStreamReadDone f s
  | .dawnVerifyDone v => Sys2Proof.Machine.execDawnVerifyDone v s
  | .dwnGo part req => Sys2Proof.Machine.execDwnGo part req s
  | .dwnAbort req => Sys2Proof.Machine.execDwnAbort req s
  | .dawnApplyDone poison => Sys2Proof.Machine.execDawnApplyDone poison s
  | .dwnRelGo req => Sys2Proof.Machine.execDwnRelGo req s
  | .dwnRbkRead word req => Sys2Proof.Machine.execDwnRbkRead word req s
  | .dawnReadbackScan fd rgn_ index found => Sys2Proof.Machine.execDawnReadbackScan fd rgn_ index found s
  | .dawnReloadEnable en req => Sys2Proof.Machine.execDawnReloadEnable en req s
  | .dawnReloadHashDone digest => Sys2Proof.Machine.execDawnReloadHashDone digest s
  | .sgeNonceNew req => Sys2Proof.Machine.execSgeNonceNew req s
  | .sgeNonceReady => Sys2Proof.Machine.execSgeNonceReady s
  | .sgeGenkey f req => Sys2Proof.Machine.execSgeGenkey f req s
  | .sgeProvision f req => Sys2Proof.Machine.execSgeProvision f req s
  | .sgeEnroll f req => Sys2Proof.Machine.execSgeEnroll f req s
  | .sgeAddSlot f req => Sys2Proof.Machine.execSgeAddSlot f req s
  | .sgeRevoke f req => Sys2Proof.Machine.execSgeRevoke f req s
  | .sgeSetOsk f req => Sys2Proof.Machine.execSgeSetOsk f req s
  | .sgeSetLegacy f req => Sys2Proof.Machine.execSgeSetLegacy f req s
  | .sgeRetire f req => Sys2Proof.Machine.execSgeRetire f req s
  | .sgeCmdAbort req => Sys2Proof.Machine.execSgeCmdAbort req s
  | .sgeVerifyDone run rspOk => Sys2Proof.Machine.execSgeVerifyDone run rspOk s
  | .dskPwrOn dom req => Sys2Proof.Machine.execDskPwrOn dom req s
  | .dskPwrOff dom req => Sys2Proof.Machine.execDskPwrOff dom req s
  | .dskPwrAbort req => Sys2Proof.Machine.execDskPwrAbort req s
  | .powerRemoved dom => Sys2Proof.Machine.execPowerRemoved dom s
  | .powerDomainOpen dom oscOk => Sys2Proof.Machine.execPowerDomainOpen dom oscOk s
  | .dskForceKey key req => Sys2Proof.Machine.execDskForceKey key req s
  | .dskForceSet dom req => Sys2Proof.Machine.execDskForceSet dom req s
  | .dskForceLift dom req => Sys2Proof.Machine.execDskForceLift dom req s
  | .forceKeyTimeout => Sys2Proof.Machine.execForceKeyTimeout s
  | .sensorSample x => Sys2Proof.Machine.execSensorSample x s
  | .thermalTrip => Sys2Proof.Machine.execThermalTrip s
  | .thermStopClear req => Sys2Proof.Machine.execThermStopClear req s
  | .throttleApply dom => Sys2Proof.Machine.execThrottleApply dom s
  | .adcConversion code => Sys2Proof.Machine.execAdcConversion code s
  | .wakeTimerFire => Sys2Proof.Machine.execWakeTimerFire s
  | .dlkWireError bd p group wire => Sys2Proof.Machine.execDlkWireError bd p group wire s
  | .dlkUncorrectableCycle bd p group hit => Sys2Proof.Machine.execDlkUncorrectableCycle bd p group hit s
  | .dlkBlockError bd p group => Sys2Proof.Machine.execDlkBlockError bd p group s
  | .dlkSpareSwitch bd p group => Sys2Proof.Machine.execDlkSpareSwitch bd p group s
  | .dlkFoldCommit bd p group => Sys2Proof.Machine.execDlkFoldCommit bd p group s
  | .midAutoTest bd cls index => Sys2Proof.Machine.execMidAutoTest bd cls index s
  | .midReqGo bd force req => Sys2Proof.Machine.execMidReqGo bd force req s
  | .midReqAbort bd req => Sys2Proof.Machine.execMidReqAbort bd req s
  | .midDeadline bd => Sys2Proof.Machine.execMidDeadline bd s
  | .midTestStart bd => Sys2Proof.Machine.execMidTestStart bd s
  | .midTestEnd bd cls index fail detail rows height width => Sys2Proof.Machine.execMidTestEnd bd cls index fail detail rows height width s
  | .midUnitReleased bd cls index => Sys2Proof.Machine.execMidUnitReleased bd cls index s
  | .svpPinCfgWrite n value req => Sys2Proof.Machine.execSvpPinCfgWrite n value req s
  | .svpFunctionSwitch n => Sys2Proof.Machine.execSvpFunctionSwitch n s
  | .svpOutWrite oe part value req => Sys2Proof.Machine.execSvpOutWrite oe part value req s
  | .svpLockKey key req => Sys2Proof.Machine.execSvpLockKey key req s
  | .svpLockSet part value req => Sys2Proof.Machine.execSvpLockSet part value req s
  | .svpLockTimeout => Sys2Proof.Machine.execSvpLockTimeout s
  | .svpWakeEdge n rising => Sys2Proof.Machine.execSvpWakeEdge n rising s
  | .jtagBypass => Sys2Proof.Machine.execJtagBypass s
  | .jtagSamplePreload pins load => Sys2Proof.Machine.execJtagSamplePreload pins load s
  | .jtagExtest pins load => Sys2Proof.Machine.execJtagExtest pins load s
  | .jtagExtestPulse pins load => Sys2Proof.Machine.execJtagExtestPulse pins load s
  | .jtagExtestTrain pins load => Sys2Proof.Machine.execJtagExtestTrain pins load s
  | .jtagClamp => Sys2Proof.Machine.execJtagClamp s
  | .jtagHighz => Sys2Proof.Machine.execJtagHighz s
  | .jtagIdcode => Sys2Proof.Machine.execJtagIdcode s
  | .jtagTapReset => Sys2Proof.Machine.execJtagTapReset s
  | .regionClockRisingEdge fd rgn_ rxReady ports => Sys2Proof.Machine.execRegionClockRisingEdge fd rgn_ rxReady ports s
  | .scrubWordRead unit upset => Sys2Proof.Machine.execScrubWordRead unit upset s
  | .laneCdrLock lane => Sys2Proof.Machine.execLaneCdrLock lane s
  | .rawPcsLock lane lock => Sys2Proof.Machine.execRawPcsLock lane lock s
  | .vioTbSupplyInRange bank => Sys2Proof.Machine.execVioTbSupplyInRange bank s
  | .completionTimeout c k => Sys2Proof.Machine.execCompletionTimeout c k s

end Sys2Proof.Machine
end

