-- ==== Sys2Proof/Machine/Step.lean ====
section
/-!
DEFINITION. One step of the device: the command at the front of the queue takes effect, and on an empty queue one time-clock cycle passes (R47, R48, R195).
-/

namespace Sys2Proof.Machine

/-- One step. DESIGN CHOICE (notes/assumptions/1): the cycle on an empty queue. -/
def step (s : State) : Host.Outcome State Fault Refusal :=
  match s.pending with
  | [] => .next s.idle
  | c :: rest => exec c (s.modPending (fun _ => rest))

/-- A state with the command that a word spells in front of its queue; no word spells one. -/
def State.withFetchWord (s : State) (nbits w : Nat) : State :=
  match Sys2Proof.decodeTableWord nbits w with
  | some c => s.modPending (fun q => c :: q)
  | none => s

end Sys2Proof.Machine
end

