-- ==== Sys2Proof/Safety.lean ====
section
/-!
DEFINITION. The terms that statements are made in: when a state's tables are in canonical form, what a command leaves as it was, and that a command completes.
-/

namespace Sys2Proof.Machine

/-- The tables that hold what the device stores are in canonical form: the register fields and the pending event records each listed once in rising order,
and the memory words listed once, in rising order and none that reads as an unlisted one does. -/
def State.tidy (s : State) : Bool :=
  Map.sortedFrom 0 s.regs && Map.wf noWord s.mem && Map.sortedFrom 0 s.events

/-- A state after a command as it may stand to the state before it: the queue as it was, and the tables in canonical form if they were. -/
def Kept (r t : State) : Prop := t.pending = r.pending ∧ (r.tidy = true → t.tidy = true)

/-- The parts of the state beside the queue and the register words, by State's field names. -/
inductive Part where
  | time | frac | free | resp | events | tb | fab | ic | noc | thy | mem | chip | lpx | lanes | tio | pge | fce | dlk | mid | msp | sage | dawn | pcie | dbg
deriving DecidableEq, Repr

/-- A part is the same in two states. -/
def Part.same (p : Part) (s t : State) : Prop :=
  match p with
  | .time => t.time = s.time
  | .frac => t.frac = s.frac
  | .free => t.free = s.free
  | .resp => t.resp = s.resp
  | .events => t.events = s.events
  | .tb => t.tb = s.tb
  | .fab => t.fab = s.fab
  | .ic => t.ic = s.ic
  | .noc => t.noc = s.noc
  | .thy => t.thy = s.thy
  | .mem => t.mem = s.mem
  | .chip => t.chip = s.chip
  | .lpx => t.lpx = s.lpx
  | .lanes => t.lanes = s.lanes
  | .tio => t.tio = s.tio
  | .pge => t.pge = s.pge
  | .fce => t.fce = s.fce
  | .dlk => t.dlk = s.dlk
  | .mid => t.mid = s.mid
  | .msp => t.msp = s.msp
  | .sage => t.sage = s.sage
  | .dawn => t.dawn = s.dawn
  | .pcie => t.pcie = s.pcie
  | .dbg => t.dbg = s.dbg

/-- The frame of a command: `t` differs from `s` at most in the listed parts and in the register words with the listed keys (Field.key). -/
def Leaves (ps : List Part) (ks : List Nat) (s t : State) : Prop :=
  t.pending = s.pending ∧ (∀ p, p ∉ ps → p.same s t) ∧ ∀ k, k ∉ ks → Map.find t.regs k = Map.find s.regs k

end Sys2Proof.Machine
end

