-- ==== Sys2Proof/Certificates/Slice0/Obligations.lean ====
section
/-!
DEFINITION. The statements for the provers. A clause says when a command takes effect and what the next state is; where the next state is written out as
updates of the state before, everything the updates do not name is as it was (Obligations.WritesReachOneField says so of the register words).
-/

open Sys2Proof Sys2Proof.Machine

/-- For every command c and state s, step of s with c put at the front of its queue is exec of c on s, whose queue is the rest. The queue is the model's own form of the spec's commands from outside (notes/assumptions/2). -/
def Obligations.StepRunsTheFrontCommand : Prop :=
  (∀ (c : Instr) (s : State), step (s.modPending (fun q => c :: q)) = exec c s)

/-- With no command waiting a step answers a next state. While the counter runs, the 96-bit time (counter and fraction) advances by 500 ticks and RATE x 2^-32, RATE read as signed; the NoC clock advances by 500 ticks whatever the counter does; where no channel of the LPDDR5X memory holds requests back for the end of a window, nothing else changes, and where some do, each whose window has ended serves them. That the cycle is what an empty queue does is the model's choice (notes/assumptions/1). -/
def Obligations.IdleStepIsOneTimeClockCycle : Prop :=
  -- while Tabirair time runs
  (∀ (s : State), s.pending = [] →
      s.flag Reg.T_RUNNING 0 = true →
      (∀ n < 16, s.tick.lpxOwes n = false) →
      ∃ t, step s = .next t
      ∧ t.time = s.time + BitVec.ofInt 64 (((s.frac.toNat : Int) + 500 * 2 ^ 32 + signed 32 (s.getR Reg.TBS_RATE_RATE 0)) / 2 ^ 32)
      ∧ t.frac = BitVec.ofInt 32 ((s.frac.toNat : Int) + 500 * 2 ^ 32 + signed 32 (s.getR Reg.TBS_RATE_RATE 0))
      ∧ t.noc = { s.noc with clock := s.noc.clock + 500 } ∧ Leaves [.time, .frac, .noc] [] s t) ∧
  -- before it starts
  (∀ (s : State), s.pending = [] →
      s.flag Reg.T_RUNNING 0 = false →
      (∀ n < 16, s.tick.lpxOwes n = false) →
      step s = .next (s.modNoc (fun n => { n with clock := n.clock + 500 }))) ∧
  -- windows that end
  (∀ (s : State), s.pending = [] →
      step s = .next ((List.range 16).foldl (fun t n => if t.lpxOwes n then t.lpxResume n else t) s.tick))

/-- After reset the register fields, the memory words and the pending event records are listed once, in rising order, with no word listed that reads as an unlisted one does, and the queue is empty. The tables are the model's own form. -/
def Obligations.ResetTablesAreCanonical : Prop :=
  (State.reset.tidy = true ∧ State.reset.pending = [])

/-- For every state whose register table, memory table and table of pending event records are in canonical form (each key once, keys rising, in memory no entry that reads as an unlisted word does), the state a step answers has them so: each pending source and code has one record, and equal memories are equal data. The command at the front of the queue is any of the table's. -/
def Obligations.EveryStepKeepsTheTablesCanonical : Prop :=
  (∀ (s t : State), s.tidy = true →
      step s = .next t →
      t.tidy = true)

/-- Whatever the command and the state, if exec answers a next state then the queue of waiting commands is as it was. The queue is the model's own (notes/assumptions/2). -/
def Obligations.CommandsLeaveTheQueue : Prop :=
  (∀ (c : Instr) (s t : State), exec c s = .next t →
      t.pending = s.pending)

/-- For every command, with any operands, and every state, exec answers a next state: there is no fault and no refusal. A command whose condition does not hold changes nothing or answers as the spec has it refused. -/
def Obligations.EveryCommandAnswers : Prop :=
  (∀ (c : Instr) (s : State), ∃ t, exec c s = .next t)

/-- A field element reads back as the value put, cut to the field's width with its hard-wired low bits zero (R13, R29); every field with another number and every other element reads as before; and nothing but that word of the register store changes. Field numbers below 4,096 are the model's own. -/
def Obligations.WritesReachOneField : Prop :=
  -- what the element reads
  (∀ (s : State) (f : Field) (i v : Nat), (s.setR f i v).getR f i = f.norm v) ∧
  -- every other element and field
  (∀ (s : State) (f g : Field) (i j v : Nat), f.key i ≠ g.key j →
      (s.setR f i v).getR g j = s.getR g j) ∧
  -- which elements those are
  (∀ (f g : Field) (i j : Nat), g.id % Field.idBound ≠ f.id % Field.idBound ∨ j ≠ i →
      f.key i ≠ g.key j) ∧
  -- nothing else
  (∀ (s : State) (f : Field) (i v : Nat), Leaves [] [f.key i] s (s.setR f i v))

/-- For a part x of a register word (bits lo to lo + bits - 1 of a field element, at bit src of the word) and a written word v: an RW or RWL element takes the written bits and keeps its others, a W1C element loses the bits written 1, a W1S element gains them, an RO, WO, RC or hidden element is as it was. Bit by bit, a bit k of the element comes from bit k - lo + src of v where the part holds it. What starts an action or is locked by another field is the meaning of the commands named for it. -/
def Obligations.AccessCodesActBitByBit : Prop :=
  -- RW
  (∀ (s : State) (x : Slot) (v : Nat), x.field.acc = .rw ∨ x.field.acc = .rwl →
      s.putSlot State.setR v x = s.setR x.field x.elem (x.merged (s.getR x.field x.elem) v)) ∧
  -- W1C
  (∀ (s : State) (x : Slot) (v : Nat), x.field.acc = .w1c →
      s.putSlot State.setR v x = s.setR x.field x.elem (without (s.getR x.field x.elem) (x.brought v))) ∧
  -- W1S
  (∀ (s : State) (x : Slot) (v : Nat), x.field.acc = .w1s →
      s.putSlot State.setR v x = s.setR x.field x.elem (s.getR x.field x.elem ||| x.brought v)) ∧
  -- no write
  (∀ (s : State) (x : Slot) (v : Nat), x.field.acc = .ro ∨ x.field.acc = .wo ∨ x.field.acc = .rc ∨ x.field.acc = .hidden →
      s.putSlot State.setR v x = s) ∧
  -- the bits of a merged element
  (∀ (x : Slot) (old v k : Nat), nbit (x.merged old v) k = if x.lo ≤ k ∧ k < x.lo + x.bits then nbit v (k - x.lo + x.src) else nbit old k) ∧
  -- the bits a write brings
  (∀ (x : Slot) (v k : Nat), nbit (x.brought v) k = (decide (x.lo ≤ k) && decide (k < x.lo + x.bits) && nbit v (k - x.lo + x.src))) ∧
  -- bits taken away
  (∀ (a b k : Nat), nbit (without a b) k = (nbit a k && !nbit b k))

/-- REGISTER_WRITE of an address that no page serves, or that is not aligned to the access, answers data 0 with the decode error, raises ADDR_UNMAPPED with the address in DETAIL [47:0] and the requester in [63:48], and changes nothing else. REGISTER_WRITE of DEV_RST_CFG puts the written bit into HOT_WARM and answers STATUS 0; of DWN_BOOT's page by a requester that may not write it, it answers the security refusal and changes nothing. A core that is answered with an error or poison takes the access fault, and ordinary memory is cacheable, everything else I/O. The three hook words are the model's own and are clear after it. -/
def Obligations.RegisterWriteCompletes : Prop :=
  -- no register there
  (∀ (s : State) (addr : BitVec 48) (wide : Bool) (value : BitVec 64) (req : BitVec 16), regAddr addr.toNat = .unmapped ∨ addr.toNat % (if wide then 8 else 4) ≠ 0 →
      ∃ t, exec (.registerWrite addr wide value req) s = .next (t.coreTakes req.toNat addr.toNat true) ∧ t.resp = ⟨0, 1, false⟩
      ∧ t.events = raiseIn s.events (evKey (regEp addr.toNat) 0x0201) s.time.toNat 2 ((addr.toNat % 2 ^ 48 + req.toNat % 2 ^ 16 * 2 ^ 48) % 2 ^ 128)
      ∧ Leaves [.resp, .events] [Reg.BUS_HOOK.key 0, Reg.BUS_HREQ.key 0, Reg.BUS_HVAL.key 0] s t) ∧
  -- a field of a page without actions
  (∀ (s : State) (value : BitVec 64) (req : BitVec 16), ∃ t, exec (.registerWrite 0x6000000104 false value req) s = .next t ∧ t.resp = ⟨0, 0, false⟩
      ∧ t.getR Reg.DEV_RST_CFG_HOT_WARM 0 = value.toNat % 2
      ∧ Leaves [.resp] [Reg.DEV_RST_CFG_HOT_WARM.key 0, Reg.BUS_HOOK.key 0, Reg.BUS_HREQ.key 0, Reg.BUS_HVAL.key 0] s t) ∧
  -- a page that the requester may not write
  (∀ (s : State) (value : BitVec 64) (req : BitVec 16), isMgmt req.toNat = false →
      ∃ t, exec (.registerWrite 0x6000020000 false value req) s = .next t ∧ t.resp = ⟨0, 2, false⟩
      ∧ Leaves [.resp] [Reg.BUS_HOOK.key 0, Reg.BUS_HREQ.key 0, Reg.BUS_HVAL.key 0] s t) ∧
  -- a core that is answered with an error takes an access fault
  (∀ (s : State) (n : Fin 4) (addr : Nat) (write : Bool), (s.resp.status = 1 → s.coreTakes (coreEp n) addr write = (s.setR Reg.HART_MCAUSE n (if write then 7 else 5)).setR Reg.HART_MTVAL n addr)
      ∧ (s.resp.status = 0 → s.resp.poison = false → s.coreTakes (coreEp n) addr write = s)) ∧
  -- the attributes of an address for the cores
  (∀ (a : Nat), (a < 0x4000000000 → cacheable a = true) ∧ (0x4000000000 ≤ a → a < 0x4004000000 → cacheable a = true) ∧ (0x4100000000 ≤ a → a < 0x4102000000 → cacheable a = true)
      ∧ (0x4200000000 ≤ a → a < 0x4202000000 → cacheable a = true) ∧ (0x7000000000 ≤ a → a < 0x7000800000 → cacheable a = true)
      ∧ (0x4004000000 ≤ a → a < 0x4100000000 → cacheable a = false) ∧ (0x5000000000 ≤ a → a < 0x7000000000 → cacheable a = false)) ∧
  -- another requester takes none
  (∀ (s : State) (req addr : Nat) (write : Bool), (∀ n : Fin 4, req ≠ coreEp n) →
      s.coreTakes req addr write = s)

/-- COUNTER_CLEARING_READ of a word of the packages' DEV, SGE, DSK, PCI or THY page, or of a page of the DCL, LPX, LNQ, SPD, ECC or router windows, answers the word with STATUS 0; with peek set nothing else changes, with peek clear the RC fields of the word read 0 after it. Where no register is, the decode error of R24 answers. DWN_RBK_READ answers the word of the frame that DWN_RBK_ADDR names where readback is open and the debug level is Full, and STATUS 2 otherwise. -/
def Obligations.RegisterReadCompletes : Prop :=
  -- a word read
  (∀ (s : State) (addr : BitVec 48) (req : BitVec 16) (b : Blk) (page off : Nat), regAddr addr.toNat = .page b page off →
      addr.toNat % 4 = 0 →
      b ∈ [Blk.dev, .sge, .dsk, .pci, .thy, .dcl, .lpx, .lnq, .spd, .ecc, .rtr] →
      exec (.counterClearingRead addr false true req) s = .next ((s.respond (s.wordAt b page off) 0).coreTakes req.toNat addr.toNat false)
      ∧ exec (.counterClearingRead addr false false req) s = .next (((s.respond (s.wordAt b page off) 0).clearRc b page off).coreTakes req.toNat addr.toNat false)) ∧
  -- RC counters of a word
  (∀ (s : State) (req : BitVec 16), ∃ t, exec (.counterClearingRead 0x6000010040 false false req) s = .next t
      ∧ t.resp = ⟨s.getR Reg.TBS_SYNC_ERRS_CRC 0 % 2 ^ 16 + s.getR Reg.TBS_SYNC_ERRS_SYMBOL 0 % 2 ^ 16 * 2 ^ 16, 0, false⟩
      ∧ t.getR Reg.TBS_SYNC_ERRS_CRC 0 = 0 ∧ t.getR Reg.TBS_SYNC_ERRS_SYMBOL 0 = 0
      ∧ Leaves [.resp] [Reg.TBS_SYNC_ERRS_CRC.key 0, Reg.TBS_SYNC_ERRS_SYMBOL.key 0] s t) ∧
  -- no register there
  (∀ (s : State) (addr : BitVec 48) (wide peek : Bool) (req : BitVec 16), regAddr addr.toNat = .unmapped ∨ addr.toNat % (if wide then 8 else 4) ≠ 0 →
      exec (.counterClearingRead addr wide peek req) s = .next (((s.respond 0 1).raise (regEp addr.toNat) 0x0201 2
      (addr.toNat % 2 ^ 48 + req.toNat % 2 ^ 16 * 2 ^ 48)).coreTakes req.toNat addr.toNat false)) ∧
  -- a word of the frame window
  (∀ (s : State) (word : Fin 128) (req : BitVec 16), s.dawn.readable = true →
      s.level = 2 →
      exec (.dwnRbkRead word req) s = .next (s.respond (Map.get 0 s.dawn.frames (s.getR Reg.DWN_RBK_ADDR_FRAME 0) / 2 ^ (32 * word.val) % 2 ^ 32) 0)) ∧
  -- readback refused
  (∀ (s : State) (word : Fin 128) (req : BitVec 16), s.dawn.readable = false ∨ s.level ≠ 2 →
      exec (.dwnRbkRead word req) s = .next (s.respond 0 2))

/-- Where a record of the same source and code has not yet been written to the ring, EVENT_RAISED of a defined code (R28), from a source that may raise it (R98), makes no new record: the pending one's REPEAT goes up by one and stays at 4,095, and its TIME and DETAIL stay. No other record and nothing else changes. -/
def Obligations.RepeatedEventCounts : Prop :=
  (∀ (s : State) (source code : BitVec 16) (severity : BitVec 4) (detail : BitVec 128) (r : EventRec), Map.find s.events (evKey source.toNat code.toNat) = some r →
      eventDefined code.toNat severity.toNat = true →
      eventSource source.toNat code.toNat = true →
      ∃ t, exec (.eventRaised source code severity detail) s = .next t
      ∧ Map.find t.events (evKey source.toNat code.toNat) = some { r with repeats := min (r.repeats + 1) 4095 }
      ∧ (∀ k, k ≠ evKey source.toNat code.toNat → Map.find t.events k = Map.find s.events k)
      ∧ Leaves [.events] [] s t)

/-- A first EVENT_RAISED of a code the manual defines, with its severity and, for the time base, from its source (R98), makes a record with the counter's time, REPEAT 0, the severity and the DETAIL; any other code is never raised. EVENT_RECORD_WRITE of a waiting record takes it out of the table; a record of severity 3 or higher raises interrupt source 1 and PF0 vector 2; a ring that is full or not enabled discards it (DROPS counts to its end, OVF sets), else it is stored at WP and WP moves on modulo 2^LOG2N, or stays pending while the memory makes it wait; with no record waiting nothing happens. A write of RP keeps the value modulo 2^LOG2N. A write of 1 to OVF clears OVF and DROPS. -/
def Obligations.EventCollectorCompletes : Prop :=
  -- first raise
  (∀ (s : State) (source code : BitVec 16) (severity : BitVec 4) (detail : BitVec 128), Map.find s.events (evKey source.toNat code.toNat) = none →
      eventDefined code.toNat severity.toNat = true →
      eventSource source.toNat code.toNat = true →
      ∃ t, exec (.eventRaised source code severity detail) s = .next t
      ∧ Map.find t.events (evKey source.toNat code.toNat) = some ⟨s.time.toNat, severity.toNat, 0, detail.toNat⟩
      ∧ (∀ k, k ≠ evKey source.toNat code.toNat → Map.find t.events k = Map.find s.events k)
      ∧ Leaves [.events] [] s t) ∧
  -- a code the manual does not define, not with that severity or not from that source, is never raised
  (∀ (s : State) (source code : BitVec 16) (severity : BitVec 4) (detail : BitVec 128), eventDefined code.toNat severity.toNat = false ∨ eventSource source.toNat code.toNat = false →
      exec (.eventRaised source code severity detail) s = .next s) ∧
  -- a record discarded
  (∀ (s : State) (source code : BitVec 16) (r : EventRec), Map.find s.events (evKey source.toNat code.toNat) = some r →
      s.flag Reg.DEV_RING_EN 0 = false ∨ (s.getR Reg.DEV_RING_WP 0 + 1) % 2 ^ s.ringLog = s.getR Reg.DEV_RING_RP 0 →
      r.severity < 3 →
      exec (.eventRecordWrite source code) s = .next (((s.modEvents (fun m => Map.erase m (evKey source.toNat code.toNat))).satAdd
      Reg.DEV_RING_DROPS 0 1).setR Reg.DEV_RING_OVF 0 1)) ∧
  -- a record stored
  (∀ (s : State) (source code : BitVec 16) (r : EventRec), Map.find s.events (evKey source.toNat code.toNat) = some r →
      s.flag Reg.DEV_RING_EN 0 = true →
      (s.getR Reg.DEV_RING_WP 0 + 1) % 2 ^ s.ringLog ≠ s.getR Reg.DEV_RING_RP 0 →
      r.severity < 3 →
      exec (.eventRecordWrite source code) s = .next ((((s.modEvents (fun m => Map.erase m (evKey source.toNat code.toNat))).agentPut collectorEp
      (s.getR Reg.DEV_RING_BASE 0 + 32 * s.getR Reg.DEV_RING_WP 0) 32 (eventBytes source.toNat code.toNat r)).map (fun t =>
      t.setR Reg.DEV_RING_WP 0 ((s.getR Reg.DEV_RING_WP 0 + 1) % 2 ^ s.ringLog))).getD s)) ∧
  -- a severe record raises EVENT_URGENT, kept or not
  (∀ (s : State) (source code : BitVec 16) (r : EventRec), Map.find s.events (evKey source.toNat code.toNat) = some r →
      s.ringRefuses = true →
      3 ≤ r.severity →
      exec (.eventRecordWrite source code) s = .next (((((s.modEvents (fun m => Map.erase m (evKey source.toNat code.toNat))).irqEdge 1).msix 0 2).satAdd
      Reg.DEV_RING_DROPS 0 1).setR Reg.DEV_RING_OVF 0 1)) ∧
  -- no record waits
  (∀ (s : State) (source code : BitVec 16), Map.find s.events (evKey source.toNat code.toNat) = none →
      exec (.eventRecordWrite source code) s = .next s) ∧
  -- RP
  (∀ (s : State) (value : BitVec 32), exec (.eventRingRpWrite value) s = .next (s.setR Reg.DEV_RING_RP 0 (value.toNat % 2 ^ s.ringLog))) ∧
  -- OVF
  (∀ (s : State), exec (.eventRingOvfClear none) s = .next ((s.setR Reg.DEV_RING_OVF 0 0).setR Reg.DEV_RING_DROPS 0 0))

/-- EVENT_RING_CONFIG_WRITE with EN 1 before the write leaves BASE (offsets 0x200 and 0x204), and at 0x208 writes EN alone, whatever LOG2N it brings. With EN 0 before, a BASE half takes the written value, and a write at 0x208 that changes LOG2N sets WP and RP to 0; one that keeps it writes EN alone. -/
def Obligations.RingConfigurationIsFrozenWhileEnabled : Prop :=
  -- enabled
  (∀ (s : State) (off : Nat) (value : BitVec 32), s.flag Reg.DEV_RING_EN 0 = true →
      off = 0x200 ∨ off = 0x204 →
      exec (.eventRingConfigWrite off value) s = .next s) ∧
  -- enabled: EN alone
  (∀ (s : State) (value : BitVec 32), s.flag Reg.DEV_RING_EN 0 = true →
      exec (.eventRingConfigWrite 0x208 value) s = .next (s.setR Reg.DEV_RING_EN 0 (value.toNat % 2))) ∧
  -- not enabled: a change of LOG2N
  (∀ (s : State) (value : BitVec 32), s.flag Reg.DEV_RING_EN 0 = false →
      value.toNat / 256 % 32 ≠ s.getR Reg.DEV_RING_LOG2N 0 →
      exec (.eventRingConfigWrite 0x208 value) s = .next ((((s.setR Reg.DEV_RING_EN 0 (value.toNat % 2)).setR Reg.DEV_RING_LOG2N 0
      (value.toNat / 256 % 32)).setR Reg.DEV_RING_WP 0 0).setR Reg.DEV_RING_RP 0 0)) ∧
  -- not enabled: LOG2N as it was
  (∀ (s : State) (value : BitVec 32), s.flag Reg.DEV_RING_EN 0 = false →
      value.toNat / 256 % 32 = s.getR Reg.DEV_RING_LOG2N 0 →
      exec (.eventRingConfigWrite 0x208 value) s = .next (s.setR Reg.DEV_RING_EN 0 (value.toNat % 2))) ∧
  -- not enabled: BASE
  (∀ (s : State) (value : BitVec 32), s.flag Reg.DEV_RING_EN 0 = false →
      exec (.eventRingConfigWrite 0x200 value) s = .next (s.setR Reg.DEV_RING_BASE 0 (s.getR Reg.DEV_RING_BASE 0 / 2 ^ 32 * 2 ^ 32 + value.toNat % 2 ^ 32))
      ∧ exec (.eventRingConfigWrite 0x204 value) s = .next (s.setR Reg.DEV_RING_BASE 0 (s.getR Reg.DEV_RING_BASE 0 % 2 ^ 32 + value.toNat % 2 ^ 16 * 2 ^ 32)))

/-- DEV_RST_DEVICE with the key 0xA11C resets the device: the counter and its fraction are 0 and DEV_RST_CAUSE.SWDEV is 1; DEV_RST_WARM with the key sets DEV_RST_CAUSE.WARM and leaves Tabirair time. A reset of a higher class that holds the device absorbs either, and a device reset merges with a reset low on DRST_N. With another key either sets BADKEY alone. POWER_ON_RESET leaves every register at reset but fuses, and of memory only the system NVM's words; no event, contract or packet stays. POWER_ON_RESET_END, where power-on reset is held and no reset low extends it, ends it with the straps sampled. SYSID_WRITE takes the value while no contract names a stream to another device. That fuses and NVM words outlive power-on, and that the queue, the free-value count and the response last given stay, is the model's form (notes/assumptions/3). -/
def Obligations.ResetCommandsComplete : Prop :=
  -- DEV_RST_DEVICE
  (∀ (s : State), s.flag Reg.POR_HELD 0 = false →
      s.dbg.resetLow = false →
      ∃ t, exec (.devRstDevice 0xA11C) s = .next t ∧ t.getR Reg.DEV_RST_CAUSE_SWDEV 0 = 1 ∧ t.time = 0 ∧ t.frac = 0) ∧
  -- device reset while a reset low holds the device, or power-on reset absorbs it
  (∀ (s : State), (s.flag Reg.POR_HELD 0 = true → exec (.devRstDevice 0xA11C) s = .next s ∧ exec (.devRstWarm 0xA11C) s = .next s)
      ∧ (s.flag Reg.POR_HELD 0 = false → s.dbg.resetLow = true → exec (.devRstDevice 0xA11C) s = .next (s.setR Reg.DEV_RST_CAUSE_SWDEV 0 1)
      ∧ exec (.devRstWarm 0xA11C) s = .next s)) ∧
  -- DEV_RST_WARM
  (∀ (s : State), s.inReset = false →
      ∃ t, exec (.devRstWarm 0xA11C) s = .next t ∧ t.getR Reg.DEV_RST_CAUSE_WARM 0 = 1 ∧ t.time = s.time) ∧
  -- a wrong key
  (∀ (s : State) (key : BitVec 16), key ≠ 0xA11C →
      exec (.devRstDevice key) s = .next (s.setR Reg.DEV_RST_CAUSE_BADKEY 0 1)
      ∧ exec (.devRstWarm key) s = .next (s.setR Reg.DEV_RST_CAUSE_BADKEY 0 1)) ∧
  -- POWER_ON_RESET
  (∀ (s : State), ∃ t, exec .powerOnReset s = .next t ∧ t.time = 0 ∧ t.events = [] ∧ t.noc = State.reset.noc ∧ t.thy = State.reset.thy ∧ t.pge = [] ∧ t.msp = []
      ∧ t.mem = s.mem.filter (fun e => decide (0x7000000000 / 8 ≤ e.1) && decide (e.1 < 0x7000800000 / 8))
      ∧ t.getR Reg.POR_HELD 0 = 1 ∧ t.pending = s.pending) ∧
  -- registers after power-on reset
  (∀ (s : State) (f : Field) (i : Nat), fuseFields.all (fun g => decide (g.id % Field.idBound ≠ f.id % Field.idBound)) = true →
      f.id % Field.idBound ≠ Reg.POR_HELD.id ∧ f.id % Field.idBound ≠ Reg.DRAM_GEN.id →
      ∃ t, exec .powerOnReset s = .next t ∧ t.getR f i = f.rst i) ∧
  -- POWER_ON_RESET_END
  (∀ (s : State) (syncrole : Bool) (bootsrc : Fin 4) (pullUp : Bool) (vio : BitVec 2), s.flag Reg.POR_HELD 0 = true →
      s.dbg.resetLow = false →
      exec (.powerOnResetEnd syncrole bootsrc pullUp vio) s = .next
      (((((((s.setR Reg.POR_HELD 0 0).setR Reg.STRAP_SYNCROLE 0 (bit syncrole)).setR Reg.STRAP_PRECFG_PU 0 (bit pullUp)).setR Reg.DWN_BOOT_BOOTSRC 0
      bootsrc).setR Reg.SVP_BANK_STAT_V33_0 0 vio.toNat).setR Reg.SVP_BANK_STAT_V33_1 0 (vio.toNat / 2)).startUp).resumeErase) ∧
  -- what start-up loads
  (∀ (s : State), s.startUp = (((s.setR Reg.DEV_FEAT_PKG_FLEVEL 0 s.featureLevel).loadRole).applySparing).deriveKeys) ∧
  -- not held, or a reset low extends it
  (∀ (s : State) (syncrole : Bool) (bootsrc : Fin 4) (pullUp : Bool) (vio : BitVec 2), s.flag Reg.POR_HELD 0 = false ∨ s.dbg.resetLow = true →
      exec (.powerOnResetEnd syncrole bootsrc pullUp vio) s = .next s) ∧
  -- SYSID_WRITE
  (∀ (s : State) (value : BitVec 32), s.contractIds.any (fun i => s.flag Reg.THY_CT_STREAM_EN i && decide (s.getR Reg.DCL_STR_CFG_TYPE (s.getR Reg.THY_CT_STREAM_INDEX i) = 4)) = false →
      exec (.sysidWrite value) s = .next (s.setR Reg.DEV_SYSID_ID 0 value.toNat))

/-- TIME_COUNTER_START starts a stopped counter at 0 with PLL_LOCK and TREF_OK. TBS_TIME_LO_READ answers the counter's low half and, with peek clear, latches the high half. SET_TIME of a standalone device steps the counter to TBS_SETTIME at once with event 0x1103 of old and new value, of a master keeps the value for the next frame, of a follower, or while a TIME_PLL_UNLOCK is in force, does nothing. STEP_NOW asks for a step while STEP_NEEDED is set. ROLE_WRITE that changes the role enters MASTER or FREE; of the role it has it changes the field alone. The words that hold what is pending are the model's own (notes/assumptions/5); that a step leaves the fraction 0, that TIME_STEPPED bears the old counter as its TIME, and that a master's step takes the value of TBS_SETTIME at the write, are the model's choices (notes/assumptions/85). -/
def Obligations.TimeCounterCommandsComplete : Prop :=
  -- TIME_COUNTER_START
  (∀ (s : State), s.flag Reg.T_RUNNING 0 = false →
      s.inReset = false →
      exec .timeCounterStart s = .next (((((s.modTime (fun _ => 0)).modFrac (fun _ => 0)).setR Reg.T_RUNNING 0 1).setR Reg.TBS_SYNC_STAT_PLL_LOCK 0 1).setR
      Reg.TBS_SYNC_STAT_TREF_OK 0 1)) ∧
  -- TIME_COUNTER_START of a counter that runs, or held in reset
  (∀ (s : State), s.flag Reg.T_RUNNING 0 = true ∨ s.inReset = true →
      exec .timeCounterStart s = .next s) ∧
  -- TBS_TIME_LO_READ
  (∀ (s : State), exec (.tbsTimeLoRead true) s = .next (s.respond (s.time.toNat % 2 ^ 32) 0)
      ∧ exec (.tbsTimeLoRead false) s = .next ((s.respond (s.time.toNat % 2 ^ 32) 0).setR Reg.TBS_TIME_HI 0 (s.time.toNat / 2 ^ 32))) ∧
  -- SET_TIME of a standalone device
  (∀ (s : State), s.role = 2 →
      s.flag Reg.T_UNLOCK 0 = false →
      ∃ t, exec .setTime s = .next t ∧ t.time = BitVec.ofNat 64 (s.getR Reg.TBS_SETTIME 0) ∧ t.frac = 0
      ∧ t.events = raiseIn s.events (evKey 0x2D48 0x1103) s.time.toNat 2 ((s.time.toNat + s.getR Reg.TBS_SETTIME 0 % 2 ^ 64 * 2 ^ 64) % 2 ^ 128)
      ∧ t.mem = s.mem ∧ t.resp = s.resp) ∧
  -- SET_TIME of a master
  (∀ (s : State), s.role = 1 →
      s.flag Reg.T_UNLOCK 0 = false →
      exec .setTime s = .next ((s.setR Reg.SYN_SET_PEND 0 1).setR Reg.SYN_SET_VAL 0 (s.getR Reg.TBS_SETTIME 0))) ∧
  -- SET_TIME of a follower, or after a TIME_PLL_UNLOCK
  (∀ (s : State), s.role = 0 ∨ s.flag Reg.T_UNLOCK 0 = true →
      exec .setTime s = .next s) ∧
  -- STEP_NOW
  (∀ (s : State), exec .stepNow s = .next (if s.flag Reg.TBS_SYNC_STAT_STEP_NEEDED 0 then s.setR Reg.SYN_STEPDUE 0 1 else s)) ∧
  -- ROLE_WRITE to MASTER
  (∀ (s : State), s.role ≠ 1 →
      ∃ t, exec (.roleWrite 1) s = .next t ∧ t.getR Reg.TBS_SYNC_CTL_ROLE 0 = 1 ∧ t.getR Reg.TBS_SYNC_STAT_SYNC_STATE 0 = 5
      ∧ t.getR Reg.SYN_STEPPED 0 = 1 ∧ t.getR Reg.TBS_RATE_RATE 0 = 0 ∧ t.time = s.time ∧ t.events = s.events ∧ t.mem = s.mem) ∧
  -- ROLE_WRITE to follower
  (∀ (s : State), s.role ≠ 0 →
      ∃ t, exec (.roleWrite 0) s = .next t ∧ t.getR Reg.TBS_SYNC_CTL_ROLE 0 = 0 ∧ t.getR Reg.TBS_SYNC_STAT_SYNC_STATE 0 = 0
      ∧ t.getR Reg.TBS_SYNC_STAT_STEP_NEEDED 0 = 0 ∧ t.getR Reg.TBS_RATE_RATE 0 = 0 ∧ t.time = s.time ∧ t.events = s.events ∧ t.mem = s.mem) ∧
  -- ROLE_WRITE of the role it has, and of 3, which acts as 2
  (∀ (s : State) (role : BitVec 2), (s.setR Reg.TBS_SYNC_CTL_ROLE 0 role.toNat).role = s.role →
      exec (.roleWrite role) s = .next (s.setR Reg.TBS_SYNC_CTL_ROLE 0 role.toNat)) ∧
  -- what the role acts as
  (∀ (s : State), (s.setR Reg.TBS_SYNC_CTL_ROLE 0 3).role = 2 ∧ (s.setR Reg.TBS_SYNC_CTL_ROLE 0 2).role = 2 ∧ (s.setR Reg.TBS_SYNC_CTL_ROLE 0 1).role = 1
      ∧ (s.setR Reg.TBS_SYNC_CTL_ROLE 0 0).role = 0)

/-- SYNC_FRAME_SEND of a master whose counter runs puts out K28.5 and a frame of TYPE, master ID with STEPPED, SEQ, TIME, EPOCH and CRC in 8b/10b characters, counts SEQ and clears STEPPED; a pending SET_TIME steps first; the pins show it only with OUT_EN, and a steady low after a TIME_PLL_UNLOCK; TYPE is 1 while the reference is good, else 2. A received frame with a wrong CRC counts at TBS_SYNC_ERRS and raises 0x1105, one of wrong form counts as a symbol error; a good frame in FREE, the state machine afresh, enters ACQUIRE. SYNC_LOST in TRACK or LOCKED after LOSS_FRAMES without a good frame enters HOLDOVER with event 0x1102. HOLDOVER_LIMIT raises 0x110A once per holdover. The steering value is free but for its bound. The code tables and the receiver's disparity at a frame's start are the model's (notes/assumptions/84), what counts as consecutive frames, the mean's sample and a step that is still due its choices (notes/assumptions/85). -/
def Obligations.TabirairSyncCommandsComplete : Prop :=
  -- SYNC_FRAME_SEND
  (∀ (s : State), s.role = 1 →
      s.flag Reg.T_RUNNING 0 = true →
      s.flag Reg.T_UNLOCK 0 = false →
      s.flag Reg.SYN_SET_PEND 0 = false →
      ∃ t d, exec .syncFrameSend s = .next t
      ∧ d = frameData (if s.flag Reg.TBS_SYNC_STAT_TREF_OK 0 && !s.flag Reg.T_PLL_SLIP 0 then 1 else 2) (s.getR Reg.DEV_SYSID_ID 0)
      (s.getR Reg.SYN_STEPPED 0) (s.getR Reg.SYN_SEQ 0) s.time.toNat (s.getR Reg.SYN_EPOCH 0)
      ∧ t.tb.frameOut = (encodeChars ((true, 0xBC) :: (d ++ [crc16 d % 256, crc16 d / 256]).map (fun b => (false, b))) s.tb.disp).1
      ∧ t.tb.disp = (encodeChars ((true, 0xBC) :: (d ++ [crc16 d % 256, crc16 d / 256]).map (fun b => (false, b))) s.tb.disp).2
      ∧ t.tb.rates = s.tb.rates
      ∧ t.getR Reg.SYN_STEPPED 0 = 0 ∧ t.getR Reg.SYN_SEQ 0 = Reg.SYN_SEQ.norm (s.getR Reg.SYN_SEQ 0 + 1)
      ∧ Leaves [.tb] [Reg.SYN_STEPPED.key 0, Reg.SYN_SEQ.key 0] s t) ∧
  -- SYNC_FRAME_SEND with a SET_TIME pending: the step at the frame's on-time point, and the frame with STEPPED
  (∀ (s : State), s.role = 1 →
      s.flag Reg.T_RUNNING 0 = true →
      s.flag Reg.T_UNLOCK 0 = false →
      s.flag Reg.SYN_SET_PEND 0 = true →
      exec .syncFrameSend s = .next ((((s.stepTime (s.getR Reg.SYN_SET_VAL 0)).setR Reg.SYN_STEPPED 0 1).wrapAdd Reg.SYN_EPOCH 0 1 |>.setR Reg.SYN_SET_PEND 0 0).putFrame s.frameType)) ∧
  -- only a master sends, and only a follower receives
  (∀ (s : State) (comma : BitVec 10) (body : BitVec 130) (check : BitVec 20), (s.role ≠ 1 → exec .syncFrameSend s = .next s) ∧ (s.role ≠ 0 → exec (.syncFrameReceive comma body check) s = .next s)) ∧
  -- what the pins show
  (∀ (s : State), (s.role ≠ 1 → s.tsyncOut = .highZ) ∧ (s.flag Reg.TBS_SYNC_CTL_OUT_EN 0 = false → s.tsyncOut = .highZ)
      ∧ (s.role = 1 → s.flag Reg.TBS_SYNC_CTL_OUT_EN 0 = true → s.inReset = false → s.tsyncOut = if s.flag Reg.T_UNLOCK 0 then .low else .frames s.tb.frameOut)) ∧
  -- SYNC_FRAME_RECEIVE, a wrong CRC
  (∀ (s : State) (comma : BitVec 10) (body : BitVec 130) (check : BitVec 20), s.role = 0 →
      s.flag Reg.T_RUNNING 0 = true →
      frameCrcOk (frameCode comma body check) = false →
      s.frameFormOk (frameCode comma body check) = true →
      exec (.syncFrameReceive comma body check) s = .next (((s.frameSeen (frameCode comma body check)).satAdd Reg.TBS_SYNC_ERRS_CRC 0 1).raise 0x2D48 0x1105 1 0)) ∧
  -- SYNC_FRAME_RECEIVE, a frame of wrong form: no K28.5, a code or disparity violation, another TYPE, or TIME that does not continue
  (∀ (s : State) (comma : BitVec 10) (body : BitVec 130) (check : BitVec 20), s.role = 0 →
      s.flag Reg.T_RUNNING 0 = true →
      frameCrcOk (frameCode comma body check) = true →
      s.frameFormOk (frameCode comma body check) = false →
      exec (.syncFrameReceive comma body check) s = .next ((s.frameSeen (frameCode comma body check)).satAdd Reg.TBS_SYNC_ERRS_SYMBOL 0 1)) ∧
  -- SYNC_FRAME_RECEIVE, any good frame
  (∀ (s : State) (comma : BitVec 10) (body : BitVec 130) (check : BitVec 20), s.role = 0 →
      s.flag Reg.T_RUNNING 0 = true →
      frameCrcOk (frameCode comma body check) = true →
      s.frameFormOk (frameCode comma body check) = true →
      exec (.syncFrameReceive comma body check) s = .next ((s.frameSeen (frameCode comma body check)).goodFrame (frameCode comma body check))) ∧
  -- SYNC_FRAME_RECEIVE, the first good frame
  (∀ (s : State) (comma : BitVec 10) (body : BitVec 130) (check : BitVec 20), s.role = 0 →
      s.flag Reg.T_RUNNING 0 = true →
      frameCrcOk (frameCode comma body check) = true →
      s.frameFormOk (frameCode comma body check) = true →
      s.getR Reg.TBS_SYNC_STAT_SYNC_STATE 0 = 0 →
      s.flag Reg.SYN_STEPDUE 0 = false →
      s.getR Reg.SYN_ACQ 0 = 0 ∧ 2 ≤ s.getR Reg.TBS_SYNC_CFG_ACQ_FRAMES 0 →
      ∃ t, exec (.syncFrameReceive comma body check) s = .next t ∧ t.getR Reg.TBS_SYNC_STAT_SYNC_STATE 0 = 1 ∧ t.getR Reg.SYN_ACQ 0 = 1
      ∧ t.getR Reg.SYN_LTIME 0 = frameTime (frameCode comma body check) ∧ t.getR Reg.TBS_SYNC_STAT_MASTER_ID 0 = charOf (frameCode comma body check) 2 % 64 ∧ t.time = s.time) ∧
  -- SYNC_LOST
  (∀ (s : State), s.role = 0 →
      s.getR Reg.TBS_SYNC_STAT_SYNC_STATE 0 = 2 ∨ s.getR Reg.TBS_SYNC_STAT_SYNC_STATE 0 = 3 →
      s.lossFrames * 320000 ≤ s.since (s.getR Reg.SYN_LARR 0) →
      exec .syncLost s = .next (s.enterHoldover.raise 0x2D48 0x1102 2 0) ∧ s.enterHoldover.getR Reg.TBS_SYNC_STAT_SYNC_STATE 0 = 4) ∧
  -- HOLDOVER_LIMIT
  (∀ (s : State), s.getR Reg.TBS_SYNC_STAT_SYNC_STATE 0 = 4 →
      s.getR Reg.TBS_HOLD_LIMIT_LIMIT 0 ≠ 0 →
      s.getR Reg.TBS_HOLD_LIMIT_LIMIT 0 ≤ s.holdFrames →
      s.flag Reg.SYN_HLRAISED 0 = false →
      exec .holdoverLimit s = .next (((s.setR Reg.SYN_HLRAISED 0 1).setR Reg.TBS_HOLD_FRAMES 0 s.holdFrames).raise 0x2D48 0x110A 3 (s.getR Reg.TBS_HOLD_LIMIT_LIMIT 0)))

/-- TREF_LOST clears TREF_OK with event 0x1106, TREF_RESTORED sets it with 0x1107 while the counter runs. TIME_PLL_LOCK_LOST with the reference good clears PLL_LOCK, TIME_PLL_LOCK_REGAINED sets it again while the counter runs, TIME_PLL_UNLOCK raises 0x1108 of severity 5 and fails what runs on Tabirair time. DESKEW_RECALIBRATE in range sets the die's ALIGNED bit; out of range it clears it, sets FAULT and raises 0x1109 once, until the die is in range again. FAB_CG_APPLY of legal settings, no retune in progress, makes the generator BUSY with the settings kept for the commit; of illegal ones it ends FAILED. RETUNE_COMMIT at its time makes the kept settings active and stops the output; a disabled generator is DONE in that cycle. CG_PLL_LOCKED after a commit locks the output, ALIGNED where the active settings align it with fraction 0, and ends DONE. CLKGEN_UNLOCK fails a relock or a start with event 0x110C. FAB_CG_ABORT before the commit ends ABORTED; while the output relocks, or in the commit cycle of a disabled generator, it sets ABORT_LATE. FAB_CG_ENABLE starts the output, FAB_CG_DISABLE stops it. PWCLK_SOURCE_WRITE takes the source, and stops an enabled clock whose source changes; PWCLK_RESUME lets it run when the source runs. -/
def Obligations.ReferenceAndClockCommandsComplete : Prop :=
  -- TREF_LOST
  (∀ (s : State), s.flag Reg.TBS_SYNC_STAT_TREF_OK 0 = true →
      exec .trefLost s = .next ((s.setR Reg.TBS_SYNC_STAT_TREF_OK 0 0).raise 0x2D48 0x1106 2 0)) ∧
  -- TREF_RESTORED
  (∀ (s : State), s.flag Reg.T_RUNNING 0 = true →
      s.flag Reg.TBS_SYNC_STAT_TREF_OK 0 = false →
      s.inReset = false →
      exec .trefRestored s = .next ((s.setR Reg.TBS_SYNC_STAT_TREF_OK 0 1).raise 0x2D48 0x1107 0 0)) ∧
  -- TIME_PLL_LOCK_LOST
  (∀ (s : State), s.flag Reg.TBS_SYNC_STAT_PLL_LOCK 0 = true →
      s.flag Reg.TBS_SYNC_STAT_TREF_OK 0 = true →
      exec .timePllLockLost s = .next ((s.setR Reg.TBS_SYNC_STAT_PLL_LOCK 0 0).setR Reg.T_PLL_SLIP 0 1)) ∧
  -- TIME_PLL_LOCK_REGAINED
  (∀ (s : State), s.flag Reg.T_RUNNING 0 = true →
      s.flag Reg.TBS_SYNC_STAT_PLL_LOCK 0 = false →
      exec .timePllLockRegained s = .next ((s.setR Reg.TBS_SYNC_STAT_PLL_LOCK 0 1).setR Reg.T_PLL_SLIP 0 0)) ∧
  -- TIME_PLL_UNLOCK
  (∀ (s : State), s.flag Reg.T_PLL_SLIP 0 = true →
      exec .timePllUnlock s = .next ((List.range 16).foldl (fun u n => u.pgeUnlock n) ((List.range 20).foldl (fun u b => u.tioFault b)
      (((s.setR Reg.T_PLL_SLIP 0 0).setR Reg.T_UNLOCK 0 1).raise 0x2D48 0x1108 5 0)))) ∧
  -- DESKEW_RECALIBRATE in range
  (∀ (s : State) (die : Fin 12), exec (.deskewRecalibrate die true) s = .next ((s.setR Reg.T_DIEFAULT die 0).setR Reg.TBS_DIE_STAT_ALIGNED 0 (setBit (s.getR Reg.TBS_DIE_STAT_ALIGNED 0) die))) ∧
  -- DESKEW_RECALIBRATE out of range
  (∀ (s : State) (die : Fin 12), s.flag Reg.T_DIEFAULT die = false →
      exec (.deskewRecalibrate die false) s = .next ((((s.setR Reg.T_DIEFAULT die 1).setR Reg.TBS_DIE_STAT_ALIGNED 0 (clrBit (s.getR Reg.TBS_DIE_STAT_ALIGNED 0) die)).setR
      Reg.TBS_DIE_STAT_FAULT 0 (setBit (s.getR Reg.TBS_DIE_STAT_FAULT 0) die)).raise 0x2D48 0x1109 4 die)) ∧
  -- FAB_CG_APPLY
  (∀ (s : State) (fd g : Fin 8), s.getR Reg.FAB_CG_STAT_STATE (per8 fd g) ≠ 1 →
      cgLegal (s.getR Reg.FAB_CG_CFG_N (per8 fd g)) (s.getR Reg.FAB_CG_CFG_D (per8 fd g)) (s.getR Reg.FAB_CG_FRAC_F (per8 fd g)) = true →
      exec (.fabCgApply fd g) s = .next ((((((((s.setR Reg.FAB_CG_STAT_ABORT_LATE (per8 fd g) 0).setR Reg.FAB_CG_STAT_STATE (per8 fd g) 1).setR Reg.CG_WAIT (per8 fd g) 1).setR
      Reg.CG_RN (per8 fd g) (s.getR Reg.FAB_CG_CFG_N (per8 fd g))).setR Reg.CG_RD (per8 fd g) (s.getR Reg.FAB_CG_CFG_D (per8 fd g))).setR
      Reg.CG_RF (per8 fd g) (s.getR Reg.FAB_CG_FRAC_F (per8 fd g))).setR Reg.CG_RALIGN (per8 fd g) (s.getR Reg.FAB_CG_CTL_ALIGN (per8 fd g))).setR
      Reg.CG_RAT (per8 fd g) (s.getR Reg.FAB_CG_AT_AT (per8 fd g)))) ∧
  -- FAB_CG_APPLY of illegal settings
  (∀ (s : State) (fd g : Fin 8), s.getR Reg.FAB_CG_STAT_STATE (per8 fd g) ≠ 1 →
      cgLegal (s.getR Reg.FAB_CG_CFG_N (per8 fd g)) (s.getR Reg.FAB_CG_CFG_D (per8 fd g)) (s.getR Reg.FAB_CG_FRAC_F (per8 fd g)) = false →
      exec (.fabCgApply fd g) s = .next ((s.setR Reg.FAB_CG_STAT_ABORT_LATE (per8 fd g) 0).setR Reg.FAB_CG_STAT_STATE (per8 fd g) 4)) ∧
  -- RETUNE_COMMIT
  (∀ (s : State) (fd g : Fin 8), s.flag Reg.CG_WAIT (per8 fd g) = true →
      s.due (s.getR Reg.CG_RAT (per8 fd g)) = true →
      s.flag Reg.FAB_CG_CTL_EN (per8 fd g) = false →
      exec (.retuneCommit fd g) s = .next ((((((((((s.setR Reg.FAB_CG_ACT_N (per8 fd g) (s.getR Reg.CG_RN (per8 fd g))).setR Reg.FAB_CG_ACT_D (per8 fd g) (s.getR Reg.CG_RD (per8 fd g))).setR
      Reg.FAB_CG_ACTF_F (per8 fd g) (s.getR Reg.CG_RF (per8 fd g))).setR Reg.FAB_CG_ACT_ALIGN (per8 fd g) (s.getR Reg.CG_RALIGN (per8 fd g))).setR Reg.CG_WAIT (per8 fd g) 0).setR
      Reg.CG_START (per8 fd g) 0).setR Reg.FAB_CG_STAT_LOCK (per8 fd g) 0).setR Reg.FAB_CG_STAT_ALIGNED (per8 fd g) 0).setR Reg.FAB_CG_STAT_STATE (per8 fd g) 2).markCommit
      Reg.CG_CMT (per8 fd g))) ∧
  -- CG_PLL_LOCKED
  (∀ (s : State) (fd g : Fin 8), s.flag Reg.CG_RELOCK (per8 fd g) = true →
      ∃ t, exec (.cgPllLocked fd g) s = .next t ∧ t.getR Reg.FAB_CG_STAT_STATE (per8 fd g) = 2 ∧ t.getR Reg.FAB_CG_STAT_LOCK (per8 fd g) = 1
      ∧ t.getR Reg.FAB_CG_STAT_ALIGNED (per8 fd g) = bit (s.flag Reg.FAB_CG_ACT_ALIGN (per8 fd g) && decide (s.getR Reg.FAB_CG_ACTF_F (per8 fd g) = 0))
      ∧ Leaves [] [Reg.CG_RELOCK.key (per8 fd g), Reg.FAB_CG_STAT_LOCK.key (per8 fd g), Reg.FAB_CG_STAT_ALIGNED.key (per8 fd g), Reg.FAB_CG_STAT_STATE.key (per8 fd g)] s t) ∧
  -- CLKGEN_UNLOCK
  (∀ (s : State) (fd g : Fin 8), s.flag Reg.CG_RELOCK (per8 fd g) = true ∨ s.flag Reg.CG_START (per8 fd g) = true →
      s.flag Reg.CG_WAIT (per8 fd g) = false →
      exec (.clkgenUnlock fd g) s = .next ((((s.setR Reg.CG_RELOCK (per8 fd g) 0).setR Reg.CG_START (per8 fd g) 0).setR Reg.FAB_CG_STAT_STATE (per8 fd g) 4).raise
      (fdWinEp fd) 0x110C 4 (4 + fd.val + g.val * 16))) ∧
  -- FAB_CG_ABORT
  (∀ (s : State) (fd g : Fin 8), exec (.fabCgAbort fd g) s = .next
      (if s.flag Reg.CG_WAIT (per8 fd g) then (s.setR Reg.CG_WAIT (per8 fd g) 0).setR Reg.FAB_CG_STAT_STATE (per8 fd g) 3
      else if s.flag Reg.CG_RELOCK (per8 fd g) || (decide (s.getR Reg.FAB_CG_STAT_STATE (per8 fd g) = 2) && s.inCommitCycle Reg.CG_CMT (per8 fd g)) then
      s.setR Reg.FAB_CG_STAT_ABORT_LATE (per8 fd g) 1 else s)) ∧
  -- FAB_CG_ENABLE
  (∀ (s : State) (fd g : Fin 8), s.flag Reg.FAB_CG_CTL_EN (per8 fd g) = false →
      exec (.fabCgEnable fd g) s = .next ((s.setR Reg.FAB_CG_CTL_EN (per8 fd g) 1).setR Reg.CG_START (per8 fd g) 1)) ∧
  -- FAB_CG_DISABLE
  (∀ (s : State) (fd g : Fin 8), s.flag Reg.FAB_CG_CTL_EN (per8 fd g) = true →
      s.flag Reg.CG_RELOCK (per8 fd g) = false →
      exec (.fabCgDisable fd g) s = .next ((((s.setR Reg.FAB_CG_CTL_EN (per8 fd g) 0).setR Reg.CG_START (per8 fd g) 0).setR Reg.FAB_CG_STAT_LOCK (per8 fd g) 0).setR
      Reg.FAB_CG_STAT_ALIGNED (per8 fd g) 0)) ∧
  -- PWCLK_SOURCE_WRITE
  (∀ (s : State) (n : Fin 4) (fd g : BitVec 3) (en : Bool), exec (.pwclkSourceWrite n fd g en) s = .next ((((s.setR Reg.TBS_PWCLK_SRC_FD n fd.toNat).setR Reg.TBS_PWCLK_SRC_GEN n g.toNat).setR Reg.TBS_PWCLK_SRC_EN n (bit en)).setR
      Reg.PW_STOP n (bit (en && s.flag Reg.TBS_PWCLK_SRC_EN n && (decide (s.getR Reg.TBS_PWCLK_SRC_FD n ≠ fd.toNat)
      || decide (s.getR Reg.TBS_PWCLK_SRC_GEN n ≠ g.toNat) || s.flag Reg.PW_STOP n))))) ∧
  -- PWCLK_RESUME
  (∀ (s : State) (n : Fin 4), s.flag Reg.PW_STOP n = true →
      s.flag Reg.FAB_CG_STAT_LOCK (s.getR Reg.TBS_PWCLK_SRC_FD n * 8 + s.getR Reg.TBS_PWCLK_SRC_GEN n) = true →
      exec (.pwclkResume n) s = .next (s.setR Reg.PW_STOP n 0))

/-- In a region with a clock whose writes WRHOLD did not hold at its last edge: FAB_RAM_READ answers the read of its port and address, whatever upset strikes the word. Without ECC and without an upset it puts the port's view of the word in the port's first stage and keeps the word; of a word that the other port writes at this edge it shows the data before. With ECC, of a word with one bit wrong, it shows the corrected data with CE and records the error. FAB_RAM_WRITE answers the writes of both ports. On port A alone, of enabled bits, it stores them, changes no other word, and the port's first stage takes the new word's view, the old word's, or nothing, by the port's mode. Of two writes that overlap in one word port A's bits stand in the overlap, port B's elsewhere, and COLL counts. MAC_UPDATE with clear zeroes the slice's registers; with EN the slice takes its inputs, M the product of the registers before the edge, ACC the exact sum wrapped, or saturated where SAT is configured, with OVF telling that it does not fit; with neither it holds them. Where writes are held none of the three does anything. That a slice without EN holds OVF too is the model's choice (notes/assumptions/87). -/
def Obligations.FabricRamAndMacCommandsComplete : Prop :=
  -- FAB_RAM_READ, every form
  (∀ (s : State) (fd : Fin 8) (r : Fin 384) (b : Fin 4) (port : RamPort) (addr : Nat) (u : Option Upset), s.writesHeld (rgn fd r) = false →
      s.regionClocked (rgn fd r) = true →
      exec (.fabRamRead fd r b port addr u) s = .next (s.ramReads (rgn fd r) b port addr u)) ∧
  -- FAB_RAM_READ without ECC and without an upset
  (∀ (s : State) (fd : Fin 8) (r : Fin 384) (b : Fin 4) (port : RamPort) (addr : Nat), s.writesHeld (rgn fd r) = false →
      s.regionClocked (rgn fd r) = true →
      (s.ram (rgn fd r * 4 + b)).ecc = false →
      Map.find s.fab.ramOld ((rgn fd r * 4 + b) * 1024 + ramWordOf (if port = .a then (s.ram (rgn fd r * 4 + b)).widthA else (s.ram (rgn fd r * 4 + b)).widthB) addr) = none →
      exec (.fabRamRead fd r b port addr none) s = .next ((s.putRamWord (rgn fd r * 4 + b)
      (ramWordOf (if port = .a then (s.ram (rgn fd r * 4 + b)).widthA else (s.ram (rgn fd r * 4 + b)).widthB) addr)
      (s.ramWord (rgn fd r * 4 + b) (ramWordOf (if port = .a then (s.ram (rgn fd r * 4 + b)).widthA else (s.ram (rgn fd r * 4 + b)).widthB) addr))).modRam
      (rgn fd r * 4 + b) (fun k => ramStage k port
      ⟨ramView (if port = .a then (s.ram (rgn fd r * 4 + b)).widthA else (s.ram (rgn fd r * 4 + b)).widthB) addr
      (s.ramWord (rgn fd r * 4 + b) (ramWordOf (if port = .a then (s.ram (rgn fd r * 4 + b)).widthA else (s.ram (rgn fd r * 4 + b)).widthB) addr)),
      false, false, false⟩))) ∧
  -- FAB_RAM_READ of a word that the other port writes at the same edge: the data before it
  (∀ (s : State) (fd : Fin 8) (r : Fin 384) (b : Fin 4) (port : RamPort) (addr : Nat) (old : RamWord), s.writesHeld (rgn fd r) = false →
      s.regionClocked (rgn fd r) = true →
      (s.ram (rgn fd r * 4 + b)).ecc = false →
      Map.find s.fab.ramOld ((rgn fd r * 4 + b) * 1024 + ramWordOf (if port = .a then (s.ram (rgn fd r * 4 + b)).widthA else (s.ram (rgn fd r * 4 + b)).widthB) addr) = some old →
      exec (.fabRamRead fd r b port addr none) s = .next (s.modRam (rgn fd r * 4 + b) (fun k => ramStage k port
      ⟨ramView (if port = .a then (s.ram (rgn fd r * 4 + b)).widthA else (s.ram (rgn fd r * 4 + b)).widthB) addr old, false, false, false⟩))) ∧
  -- FAB_RAM_READ with ECC of a word with one bit wrong: corrected data, CE, and the event
  (∀ (s : State) (fd : Fin 8) (r : Fin 384) (b : Fin 4) (port : RamPort) (addr : Nat) (j : Nat), s.writesHeld (rgn fd r) = false →
      s.regionClocked (rgn fd r) = true →
      (s.ram (rgn fd r * 4 + b)).ecc = true →
      (s.ram (rgn fd r * 4 + b)).invOnCfg = false →
      (s.ram (rgn fd r * 4 + b)).widthA = 64 ∧ (s.ram (rgn fd r * 4 + b)).widthB = 64 →
      Map.find s.fab.ramOld ((rgn fd r * 4 + b) * 1024 + ramWordOf 64 addr) = none →
      (s.ramWord (rgn fd r * 4 + b) (ramWordOf 64 addr)).mark = some (.single j) →
      exec (.fabRamRead fd r b port addr none) s = .next (((s.putRamWord (rgn fd r * 4 + b) (ramWordOf 64 addr) (s.ramWord (rgn fd r * 4 + b) (ramWordOf 64 addr))).modRam
      (rgn fd r * 4 + b) (fun k => ramStage k port ⟨(if j < 64 then (s.ramWord (rgn fd r * 4 + b) (ramWordOf 64 addr)).data ^^^ BitVec.ofNat 64 (2 ^ j)
      else (s.ramWord (rgn fd r * 4 + b) (ramWordOf 64 addr)).data).toNat, true, false, false⟩)).ramError (rgn fd r) b port (ramWordOf 64 addr) false)) ∧
  -- FAB_RAM_WRITE on port A alone
  (∀ (s : State) (fd : Fin 8) (r : Fin 384) (b : Fin 4) (a : RamWrite), s.writesHeld (rgn fd r) = false →
      s.regionClocked (rgn fd r) = true →
      ramMask (s.ram (rgn fd r * 4 + b)).widthA (s.ram (rgn fd r * 4 + b)).ecc a ≠ (0, 0) →
      ∃ t, exec (.fabRamWrite fd r b (some a) none) s = .next t
      ∧ (t.ram (rgn fd r * 4 + b)).stA = (match (s.ram (rgn fd r * 4 + b)).rdwA with
      | .writeFirst => some ⟨ramView (s.ram (rgn fd r * 4 + b)).widthA a.addr (t.ramWord (rgn fd r * 4 + b) (ramWordOf (s.ram (rgn fd r * 4 + b)).widthA a.addr)), false, false, false⟩
      | .readFirst => some ⟨ramView (s.ram (rgn fd r * 4 + b)).widthA a.addr (s.ramWord (rgn fd r * 4 + b) (ramWordOf (s.ram (rgn fd r * 4 + b)).widthA a.addr)), false, false, false⟩
      | .noChange => (s.ram (rgn fd r * 4 + b)).stA)
      ∧ t.ramWord (rgn fd r * 4 + b) (ramWordOf (s.ram (rgn fd r * 4 + b)).widthA a.addr)
      = ramPut (s.ramWord (rgn fd r * 4 + b) (ramWordOf (s.ram (rgn fd r * 4 + b)).widthA a.addr))
      (ramMask (s.ram (rgn fd r * 4 + b)).widthA (s.ram (rgn fd r * 4 + b)).ecc a) (ramDin (s.ram (rgn fd r * 4 + b)).widthA a)
      ∧ (∀ k, k ≠ (rgn fd r * 4 + b) * 1024 + ramWordOf (s.ram (rgn fd r * 4 + b)).widthA a.addr →
      Map.find t.fab.ramWords k = Map.find s.fab.ramWords k)
      ∧ t.fab.cells = s.fab.cells ∧ t.fab.ffs = s.fab.ffs ∧ t.fab.macs = s.fab.macs ∧ Leaves [.fab] [] s t) ∧
  -- two writes that overlap
  (∀ (s : State) (fd : Fin 8) (r : Fin 384) (b : Fin 4) (a c : RamWrite) (n : Nat), n = rgn fd r * 4 + b →
      s.writesHeld (rgn fd r) = false →
      s.regionClocked (rgn fd r) = true →
      ramWordOf (s.ram n).widthA a.addr = ramWordOf (s.ram n).widthB c.addr →
      ((ramMask (s.ram n).widthA (s.ram n).ecc a).1 &&& (ramMask (s.ram n).widthB (s.ram n).ecc c).1) ≠ 0 →
      ∃ t, exec (.fabRamWrite fd r b (some a) (some c)) s = .next t
      ∧ t.ramWord n (ramWordOf (s.ram n).widthA a.addr) = ramPut (ramPut (s.ramWord n (ramWordOf (s.ram n).widthA a.addr))
      (ramMask (s.ram n).widthA (s.ram n).ecc a) (ramDin (s.ram n).widthA a))
      (maskSub (ramMask (s.ram n).widthB (s.ram n).ecc c).1 (ramMask (s.ram n).widthA (s.ram n).ecc a).1,
      maskSub (ramMask (s.ram n).widthB (s.ram n).ecc c).2 (ramMask (s.ram n).widthA (s.ram n).ecc a).2) (ramDin (s.ram n).widthB c)
      ∧ t.getR Reg.FAB_RAM_STAT_COLL n = Reg.FAB_RAM_STAT_COLL.norm (min (s.getR Reg.FAB_RAM_STAT_COLL n + 1) (2 ^ 16 - 1))
      ∧ Leaves [.fab] [Reg.FAB_RAM_STAT_COLL.key n] s t) ∧
  -- FAB_RAM_WRITE, every form
  (∀ (s : State) (fd : Fin 8) (r : Fin 384) (b : Fin 4) (pa pb : Option RamWrite), s.writesHeld (rgn fd r) = false →
      s.regionClocked (rgn fd r) = true →
      exec (.fabRamWrite fd r b pa pb) s = .next (s.ramWrites (rgn fd r * 4 + b) pa pb)) ∧
  -- MAC_UPDATE, clear
  (∀ (s : State) (fd : Fin 8) (r : Fin 384) (slice : Fin 8) (i : MacIn), s.writesHeld (rgn fd r) = false →
      s.regionClocked (rgn fd r) = true →
      i.clr = true →
      exec (.macUpdate fd r slice i) s = .next (s.modFab (fun f => { f with macs := Map.set mac0 f.macs (rgn fd r * 8 + slice) { mac0 with
      pre := (s.mac (rgn fd r * 8 + slice)).pre
      sat := (s.mac (rgn fd r * 8 + slice)).sat
      prevAcc := (s.mac (rgn fd r * 8 + slice)).acc
      edges := (s.mac (rgn fd r * 8 + slice)).edges + 1 } }))) ∧
  -- MAC_UPDATE, an enabled edge
  (∀ (s : State) (fd : Fin 8) (r : Fin 384) (slice : Fin 8) (i : MacIn) (m : Mac), m = s.mac (rgn fd r * 8 + slice) →
      s.writesHeld (rgn fd r) = false →
      s.regionClocked (rgn fd r) = true →
      i.clr = false ∧ i.en = true →
      ∃ t, exec (.macUpdate fd r slice i) s = .next t
      ∧ (t.mac (rgn fd r * 8 + slice)).m = BitVec.ofInt 64 (macPre m * m.mb.toInt)
      ∧ (t.mac (rgn fd r * 8 + slice)).acc = macFit m.sat (m.m.toInt + macAdd m.mop m.acc m.ad (s.casi (rgn fd r) slice))
      ∧ (t.mac (rgn fd r * 8 + slice)).ovf = macOver (m.m.toInt + macAdd m.mop m.acc m.ad (s.casi (rgn fd r) slice))
      ∧ (t.mac (rgn fd r * 8 + slice)).ad = i.ad ∧ (t.mac (rgn fd r * 8 + slice)).op = i.op ∧ (t.mac (rgn fd r * 8 + slice)).mop = m.op
      ∧ (t.mac (rgn fd r * 8 + slice)).ma = i.ma ∧ (t.mac (rgn fd r * 8 + slice)).mb = i.mb ∧ (t.mac (rgn fd r * 8 + slice)).mp = i.mp
      ∧ (∀ k, k ≠ rgn fd r * 8 + slice → Map.find t.fab.macs k = Map.find s.fab.macs k)
      ∧ t.fab.ffs = s.fab.ffs ∧ t.fab.rams = s.fab.rams ∧ t.fab.ramWords = s.fab.ramWords ∧ Leaves [.fab] [] s t) ∧
  -- MAC_UPDATE without EN
  (∀ (s : State) (fd : Fin 8) (r : Fin 384) (slice : Fin 8) (i : MacIn) (m : Mac), m = s.mac (rgn fd r * 8 + slice) →
      s.writesHeld (rgn fd r) = false →
      s.regionClocked (rgn fd r) = true →
      i.clr = false ∧ i.en = false →
      exec (.macUpdate fd r slice i) s = .next (s.modFab (fun f => { f with macs := Map.set mac0 f.macs (rgn fd r * 8 + slice) { m with prevAcc := m.acc, edges := m.edges + 1 } }))) ∧
  -- held writes
  (∀ (s : State) (fd : Fin 8) (r : Fin 384) (b : Fin 4) (port : RamPort) (addr : Nat) (u : Option Upset) (pa pb : Option RamWrite) (slice : Fin 8) (i : MacIn), s.writesHeld (rgn fd r) = true →
      exec (.fabRamRead fd r b port addr u) s = .next s ∧ exec (.fabRamWrite fd r b pa pb) s = .next s ∧ exec (.macUpdate fd r slice i) s = .next s)

/-- FAB_RO_TRIM of an enabled oscillator whose trim does not run makes STATE BUSY, clears ABORT_LATE, keeps the code and starts at window 0; else it does nothing. RO_TRIM_WINDOW_END of a window within bounds ends the trim DONE; of one out of bounds the eighth ends it FAILED, another adjusts the code by a value that nothing states (free). FAB_RO_ABORT of a running trim ends it ABORTED with the code from before it; in the cycle of its commit point it sets ABORT_LATE; else it does nothing. FAB_RO_FREQ_WRITE sets FREQ and TRIM 0x800. While EN is 1 COUNT comes to a free number not below the total before; while EN is 0 it stands. At edges of the region that meets its port, with a clock: NVM_FABRIC_READ queues the read; NVM_READ_COMPLETE of the oldest read shows the buffered or stored data, of a word that cannot be corrected with POISON and event 0x0122, and of a read whose bank has writes before it to end does nothing; NVM_FABRIC_WRITE with a free entry is buffered, or of a protected word sets WP_HIT and makes NVM_WERR due. Without the clock these three do nothing. NVM_REGISTER_WRITE of 64 bits with a free entry is buffered and answered; of a protected word it sets WP_HIT and is answered; one that has to wait waits unanswered. NVM_WRITE_DRAIN puts the oldest buffered word of its bank in the array. NVM_LOCK_KEY takes 0x3C3C, then 0xC3C3, which locks; NVM_LOCK_TIMEOUT ends the sequence. The free counts and codes are the model's way with what the manual leaves open (notes/assumptions/90). -/
def Obligations.OscillatorAndUserNvmCommandsComplete : Prop :=
  -- FAB_RO_TRIM
  (∀ (s : State) (fd g : Fin 8), s.flag Reg.FAB_RO_CTL_EN (per8 fd g) = true →
      s.getR Reg.FAB_RO_STAT_STATE (per8 fd g) ≠ 1 →
      exec (.fabRoTrim fd g) s = .next ((((s.setR Reg.FAB_RO_STAT_STATE (per8 fd g) 1).setR Reg.FAB_RO_STAT_ABORT_LATE (per8 fd g) 0).setR Reg.RO_OLD (per8 fd g)
      (s.getR Reg.FAB_RO_TRIM_CODE (per8 fd g))).setR Reg.RO_WIN (per8 fd g) 0)) ∧
  -- FAB_RO_TRIM of a stopped oscillator, and while a trim runs
  (∀ (s : State) (fd g : Fin 8), s.flag Reg.FAB_RO_CTL_EN (per8 fd g) = false ∨ s.getR Reg.FAB_RO_STAT_STATE (per8 fd g) = 1 →
      exec (.fabRoTrim fd g) s = .next s) ∧
  -- RO_TRIM_WINDOW_END
  (∀ (s : State) (fd g : Fin 8), s.getR Reg.FAB_RO_STAT_STATE (per8 fd g) = 1 →
      exec (.roTrimWindowEnd fd g true) s = .next (((((s.roBring (per8 fd g)).setR Reg.FAB_RO_STAT_STATE (per8 fd g) 2).setR Reg.RO_TRIMMED (per8 fd g) 1).setR
      Reg.RO_TEMP (per8 fd g) (s.getR Reg.DSK_ZTEMP_ZONE (4 + per8 fd g / 8))).markCommit Reg.RO_CMT (per8 fd g))
      ∧ exec (.roTrimWindowEnd fd g false) s = .next (if 7 ≤ s.getR Reg.RO_WIN (per8 fd g)
      then (s.setR Reg.RO_WIN (per8 fd g) 8).setR Reg.FAB_RO_STAT_STATE (per8 fd g) 4
      else ((s.setR Reg.RO_WIN (per8 fd g) (s.getR Reg.RO_WIN (per8 fd g) + 1)).setR Reg.FAB_RO_TRIM_CODE (per8 fd g) (Config.freeTrim s.free).toNat).draw)) ∧
  -- FAB_RO_ABORT of a running trim
  (∀ (s : State) (fd g : Fin 8), s.getR Reg.FAB_RO_STAT_STATE (per8 fd g) = 1 →
      exec (.fabRoAbort fd g) s = .next ((s.setR Reg.FAB_RO_STAT_STATE (per8 fd g) 3).setR Reg.FAB_RO_TRIM_CODE (per8 fd g) (s.getR Reg.RO_OLD (per8 fd g)))) ∧
  -- FAB_RO_ABORT of no trim
  (∀ (s : State) (fd g : Fin 8), s.getR Reg.FAB_RO_STAT_STATE (per8 fd g) ≠ 1 →
      s.getR Reg.FAB_RO_STAT_STATE (per8 fd g) ≠ 2 ∨ s.inCommitCycle Reg.RO_CMT (per8 fd g) = false →
      exec (.fabRoAbort fd g) s = .next s) ∧
  -- FAB_RO_FREQ_WRITE
  (∀ (s : State) (fd g : Fin 8) (freq : BitVec 10), exec (.fabRoFreqWrite fd g freq) s = .next ((((s.roBring (per8 fd g)).setR Reg.FAB_RO_CTL_FREQ (per8 fd g) freq.toNat).setR Reg.FAB_RO_TRIM_CODE (per8 fd g) 0x800).setR
      Reg.RO_TRIMMED (per8 fd g) 0)) ∧
  -- FAB_RO_ABORT in the cycle of the trim's commit point is late
  (∀ (s : State) (fd g : Fin 8), s.getR Reg.FAB_RO_STAT_STATE (per8 fd g) = 2 →
      s.inCommitCycle Reg.RO_CMT (per8 fd g) = true →
      exec (.fabRoAbort fd g) s = .next (s.setR Reg.FAB_RO_STAT_ABORT_LATE (per8 fd g) 1)) ∧
  -- what COUNT is brought up by: nothing while EN is 0, else a free number within the oscillator's accuracy (notes/assumptions/90)
  (∀ (s : State) (i : Nat), (s.flag Reg.FAB_RO_CTL_EN i = false → (s.roBring i).getR Reg.FAB_RO_COUNT_COUNT i = s.getR Reg.FAB_RO_COUNT_COUNT i)
      ∧ (s.flag Reg.FAB_RO_CTL_EN i = true → ∃ n, s.getR Reg.RO_TOTAL i ≤ n ∧ (s.roBring i).getR Reg.FAB_RO_COUNT_COUNT i = Reg.FAB_RO_COUNT_COUNT.norm n)) ∧
  -- NVM_FABRIC_READ
  (∀ (s : State) (fd : Fin 8) (addr : BitVec 15), s.regionClocked (nvmRegion fd) = true →
      exec (.nvmFabricRead fd addr) s = .next (s.modNvm fd (fun n => { n with reads := n.reads ++ [(addr.toNat, bankWrites n (addr.toNat / 8192))] }))) ∧
  -- the fabric port without its region's clock
  (∀ (s : State) (fd : Fin 8) (addr : BitVec 15) (data : BitVec 64) (u : Option Upset), s.regionClocked (nvmRegion fd) = false →
      exec (.nvmFabricRead fd addr) s = .next s ∧ exec (.nvmFabricWrite fd addr data) s = .next s ∧ exec (.nvmReadComplete fd u) s = .next s) ∧
  -- NVM_READ_COMPLETE of a buffered word
  (∀ (s : State) (fd : Fin 8) (a : Nat) (rest : List (Nat × Bool)) (d : BitVec 64), s.regionClocked (nvmRegion fd) = true →
      (s.nvm fd).reads = (a, false) :: rest →
      nvmBuffered (s.nvm fd) a = some d →
      exec (.nvmReadComplete fd none) s = .next (s.modNvm fd (fun n => { n with reads := rest, valid := true, rdata := d, poison := false }))) ∧
  -- NVM_READ_COMPLETE of a stored word without an error
  (∀ (s : State) (fd : Fin 8) (a : Nat) (rest : List (Nat × Bool)), s.regionClocked (nvmRegion fd) = true →
      (s.nvm fd).reads = (a, false) :: rest →
      nvmBuffered (s.nvm fd) a = none →
      nvmBad (s.nvmWord fd a) = false →
      exec (.nvmReadComplete fd none) s = .next ((s.putNvmWord fd a (s.nvmWord fd a)).modNvm fd (fun n => { n with
      reads := rest, valid := true, rdata := nvmData (s.nvmWord fd a), poison := false }))) ∧
  -- NVM_READ_COMPLETE of a word that cannot be corrected
  (∀ (s : State) (fd : Fin 8) (a : Nat) (rest : List (Nat × Bool)), s.regionClocked (nvmRegion fd) = true →
      (s.nvm fd).reads = (a, false) :: rest →
      nvmBuffered (s.nvm fd) a = none →
      nvmBad (s.nvmWord fd a) = true →
      exec (.nvmReadComplete fd none) s = .next (((s.putNvmWord fd a (s.nvmWord fd a)).raise (fdWinEp fd) 0x0122 4 (a + (4 + fd.val) * 2 ^ 16)).modNvm fd (fun n => { n with
      reads := rest, valid := true, rdata := nvmData (s.nvmWord fd a), poison := true }))) ∧
  -- NVM_READ_COMPLETE of a read that waits for its bank's write
  (∀ (s : State) (fd : Fin 8) (a : Nat) (rest : List (Nat × Bool)) (u : Option Upset), (s.nvm fd).reads = (a, true) :: rest →
      exec (.nvmReadComplete fd u) s = .next s) ∧
  -- NVM_FABRIC_WRITE
  (∀ (s : State) (fd : Fin 8) (addr : BitVec 15) (data : BitVec 64), s.regionClocked (nvmRegion fd) = true →
      (s.nvm fd).buf.length < 4 →
      exec (.nvmFabricWrite fd addr data) s = .next (if addr.toNat < min (s.getR Reg.FAB_NVM_WP_BOUND fd) 32768
      then (s.setR Reg.FAB_NVM_STAT_WP_HIT fd 1).modNvm fd (fun n => { n with werrDue := true })
      else s.modNvm fd (fun n => { n with buf := n.buf ++ [⟨addr.toNat, data⟩] }))) ∧
  -- NVM_REGISTER_WRITE of a whole word
  (∀ (s : State) (fd : Fin 8) (byteAddr : BitVec 18) (data : BitVec 64), s.nvmProtected fd (byteAddr.toNat / 8 % 32768) = false →
      (s.nvm fd).buf.length < 4 →
      (s.nvm fd).stall = [] →
      exec (.nvmRegisterWrite fd byteAddr true data) s = .next ((s.modNvm fd (fun n => { n with buf := n.buf ++ [⟨byteAddr.toNat / 8 % 32768, data⟩] })).respond 0 0)) ∧
  -- NVM_REGISTER_WRITE of a protected word, and one that finds the buffer full and waits unanswered
  (∀ (s : State) (fd : Fin 8) (byteAddr : BitVec 18) (wide : Bool) (data : BitVec 64), (s.nvmStalls fd = false → s.nvmProtected fd (byteAddr.toNat / 8 % 32768) = true →
      exec (.nvmRegisterWrite fd byteAddr wide data) s = .next ((s.setR Reg.FAB_NVM_STAT_WP_HIT fd 1).respond 0 0))
      ∧ (s.nvmStalls fd = true → exec (.nvmRegisterWrite fd byteAddr wide data) s = .next (s.modNvm fd (fun n => { n with
      stall := n.stall ++ [⟨byteAddr.toNat, wide, data, none⟩] })))) ∧
  -- NVM_WRITE_DRAIN
  (∀ (s : State) (fd : Fin 8) (bank : Fin 4) (w : NvmWrite) (t : State), (s.nvm fd).buf.find? (fun w => decide (w.addr / 8192 = bank.val)) = some w →
      t = (s.putNvmWord fd w.addr ⟨w.data, none⟩).modNvm fd (fun n => { n with
      buf := n.buf.erase w, reads := n.reads.map (fun r => if r.1 / 8192 = bank.val then (r.1, false) else r) }) →
      exec (.nvmWriteDrain fd bank) s = .next (if s.regionClocked (nvmRegion fd) then t else t.nvmUnstall fd)) ∧
  -- NVM_LOCK_KEY and NVM_LOCK_TIMEOUT
  (∀ (s : State) (fd : Fin 8) (req : BitVec 16), (s.keyStage (8 + fd) ≠ 1 → exec (.nvmLockKey fd 0x3C3C req) s = .next (((s.setR Reg.KEY_STAGE (8 + fd) 1).setR Reg.KEY_REQ (8 + fd) req.toNat).setR Reg.KEY_T (8 + fd) s.clockNow))
      ∧ (s.keyStage (8 + fd) = 1 → exec (.nvmLockKey fd 0xC3C3 req) s = .next ((s.setR Reg.KEY_STAGE (8 + fd) 0).setR Reg.FAB_NVM_STAT_LOCKED fd 1))
      ∧ exec (.nvmLockTimeout fd) s = .next (if 64 * 512 < s.keyAge (8 + fd) then s.setR Reg.KEY_STAGE (8 + fd) 0 else s))

/-- SP_DATA_PUSH puts the byte in the transmit FIFO of 64 bytes, and where that is full sets TXOVF. SP_DATA_POP answers the oldest received byte and, with peek clear, takes it; of an empty FIFO it answers EMPTY in bit 8. SP_BYTE_RECEIVED of a port with a mode puts the byte in the receive FIFO, sets RXOVF where that is full, and with a line error sets LINEERR alone. SP_BYTE_SENT of a port with a mode takes the oldest byte out of the transmit FIFO, with a line error setting LINEERR too. SP_MODE_APPLY takes MODE, 6 and 7 as 0, and SP_ROUTE_APPLY takes ROUTE while the port is not BUSY. What changes a port sets RXCNT and TXCNT to the lengths of its FIFOs. -/
def Obligations.SerialPortCommandsComplete : Prop :=
  -- SP_DATA_PUSH
  (∀ (s : State) (fd p : Fin 8) (byte : BitVec 8), exec (.spDataPush fd p byte) s = .next (if (s.sp (per8 fd p)).tx.length < 64
      then s.modSp (per8 fd p) (fun q => { q with tx := q.tx ++ [byte] }) else s.spMark (per8 fd p) Reg.FAB_SP_STAT_TXOVF)) ∧
  -- SP_DATA_POP
  (∀ (s : State) (fd p : Fin 8) (b : BitVec 8) (rest : List (BitVec 8)), (s.sp (per8 fd p)).rx = b :: rest →
      exec (.spDataPop fd p true) s = .next (s.respond b.toNat 0)
      ∧ exec (.spDataPop fd p false) s = .next ((s.respond b.toNat 0).modSp (per8 fd p) (fun q => { q with rx := rest }))) ∧
  -- SP_DATA_POP of an empty FIFO
  (∀ (s : State) (fd p : Fin 8) (peek : Bool), (s.sp (per8 fd p)).rx = [] →
      exec (.spDataPop fd p peek) s = .next (s.respond 256 0)) ∧
  -- SP_BYTE_RECEIVED
  (∀ (s : State) (fd p : Fin 8) (byte : BitVec 8), (s.sp (per8 fd p)).mode ≠ 0 →
      exec (.spByteReceived fd p byte true) s = .next (s.spMark (per8 fd p) Reg.FAB_SP_STAT_LINEERR)
      ∧ exec (.spByteReceived fd p byte false) s = .next (if 64 ≤ (s.sp (per8 fd p)).rx.length then s.spMark (per8 fd p) Reg.FAB_SP_STAT_RXOVF
      else s.modSp (per8 fd p) (fun q => { q with rx := q.rx ++ [byte] }))) ∧
  -- SP_BYTE_SENT
  (∀ (s : State) (fd p : Fin 8) (b : BitVec 8) (rest : List (BitVec 8)), (s.sp (per8 fd p)).tx = b :: rest →
      (s.sp (per8 fd p)).mode ≠ 0 →
      exec (.spByteSent fd p false) s = .next (s.modSp (per8 fd p) (fun q => { q with tx := rest }))
      ∧ exec (.spByteSent fd p true) s = .next ((s.modSp (per8 fd p) (fun q => { q with tx := rest })).spMark (per8 fd p) Reg.FAB_SP_STAT_LINEERR)) ∧
  -- SP_MODE_APPLY
  (∀ (s : State) (fd p : Fin 8), exec (.spModeApply fd p) s = .next (s.modSp (per8 fd p) (fun q => { q with
      mode := if s.getR Reg.FAB_SP_CTL_MODE (per8 fd p) < 6 then s.getR Reg.FAB_SP_CTL_MODE (per8 fd p) else 0 }))) ∧
  -- SP_ROUTE_APPLY
  (∀ (s : State) (fd p : Fin 8), exec (.spRouteApply fd p) s = .next (if s.flag Reg.FAB_SP_STAT_BUSY (per8 fd p) then s
      else s.modSp (per8 fd p) (fun q => { q with route := s.getR Reg.FAB_SP_CTL_ROUTE (per8 fd p) }))) ∧
  -- what changing a port leaves
  (∀ (s : State) (i : Nat) (f : SerialPort → SerialPort), ∃ u, u = s.modSp i f ∧ u.sp i = f (s.sp i) ∧ u.getR Reg.FAB_SP_STAT_RXCNT i = Reg.FAB_SP_STAT_RXCNT.norm (f (s.sp i)).rx.length
      ∧ u.getR Reg.FAB_SP_STAT_TXCNT i = Reg.FAB_SP_STAT_TXCNT.norm (f (s.sp i)).tx.length
      ∧ Leaves [.fab] [Reg.FAB_SP_STAT_RXCNT.key i, Reg.FAB_SP_STAT_TXCNT.key i, Reg.FAB_SP_STAT_BUSY.key i, Reg.PLIC_LEVEL.key (448 + i), Reg.PLIC_PEND.key (448 + i)] s u)

/-- REGION_CLOCK_RISING_EDGE of a clocked region answers a next state. First the values at ports from outside other than pin samples show. From that state, all at once, every spine route moves by one edge of the region, the region crossbar's registers take what stood before, and each RAM block shifts its output stages (0 while WRHOLD is asserted); cells, carry selects and stored words are as they were. Then the blocks at the crossbar act on what it presented before the edge (R145), and the steps that the edge brings into force follow. Memory and time are untouched. Without a clock nothing happens. -/
def Obligations.RegionClockEdgeCompletes : Prop :=
  -- a clocked region
  (∀ (s : State) (fd : Fin 8) (r : Fin 384) (rx : Bool) (ports : List (Nat × Bool)), s.regionClocked (rgn fd r) = true →
      ∃ t u v, exec (.regionClockRisingEdge fd r rx ports) s = .next t
      ∧ u = s.setPorts (rgn fd r) ports (fun k => !s.risingSample (rgn fd r) k) ∧ v = u.logicEdge (rgn fd r)
      ∧ t = ((((v.blocksEdge u (rgn fd r) rx).setPorts (rgn fd r) ports (fun k => s.risingSample (rgn fd r) k)).regionSteps (rgn fd r)).asyncEdge (rgn fd r)).fabLines (rgn fd r)
      ∧ v.ic.spines = u.ic.spines.map (fun e => (e.1, u.spineEdge (rgn fd r) e.2))
      ∧ v.ic.xbar = u.xbarEdge (rgn fd r) (u.ic.spines.map (fun e => (e.1, u.spineEdge (rgn fd r) e.2)))
      ∧ (∀ b : Fin 4, v.ram (rgn fd r * 4 + b) = ramEdge (s.ram (rgn fd r * 4 + b)) (s.flag Reg.FAB_WRHOLD (rgn fd r)))
      ∧ v.fab.cells = s.fab.cells ∧ v.fab.cin = s.fab.cin ∧ v.fab.nvmWords = s.fab.nvmWords ∧ v.fab.ramWords = s.fab.ramWords
      ∧ v.mem = s.mem ∧ v.time = s.time ∧ v.events = s.events ∧ v.regs = s.regs) ∧
  -- what the edge leaves
  (∀ (s : State) (fd : Fin 8) (r : Fin 384) (rx : Bool) (ports : List (Nat × Bool)), s.regionClocked (rgn fd r) = true →
      ∃ t, exec (.regionClockRisingEdge fd r rx ports) s = .next t ∧ t.mem = s.mem ∧ t.time = s.time ∧ t.fab.cells = s.fab.cells ∧ t.fab.cin = s.fab.cin) ∧
  -- no clock
  (∀ (s : State) (fd : Fin 8) (r : Fin 384) (rx : Bool) (ports : List (Nat × Bool)), s.regionClocked (rgn fd r) = false →
      exec (.regionClockRisingEdge fd r rx ports) s = .next s)

/-- DCQ_WRITE, where the region's clock runs, the channel is configured and the region is not isolated: a full channel discards the entry, DISC counts it, OVF becomes 1 and event 0x0923 is raised if OVF was 0; else the entry is the channel's last. DCQ_ENTRY_PRESENT and DCQ_READ, where the reader's clock runs: one more entry is present; the first entry leaves and the writer has one removal more to learn. DCQ_REMOVAL_REPORT, where the writer's clock runs: one less to learn. XBAR_SEL_UPSET flips a bit of a select; where the result is not one-hot and SELERR is 0, SELERR becomes 1 and event 0x0920 is recorded. NAP_TX_PACKET, where the region has a clock and live outputs, the NAP is not withdrawn and the transmit DCQ has room: a packet with as many data flits as LEN says enters the network with the NAP as source, another raises 0x0231. NAP_RX_DELIVER, where the region is not isolated: a packet that fits goes to the receive DCQ (after the deadline check of a contract packet); a contract packet that does not fit is discarded, with event 0x0232 and a notice of cause 5. NAP_MM_REQUEST, with no request presented and the region not isolated: the oldest request is presented, or answered with a decode error if it is no aligned access of 4 or 8 bytes. NAP_MM_ACK, where the region has a clock and live outputs: the presented request is answered with the word's bytes, or with a decode error under MM_ERR. NAP_MM_TIMEOUT answers it with a decode error and event 0x0230. In the other cases named in the clauses the state stays. Live outputs at an edge, and the reader's and writer's clocks at a report, are the model's readings (log 86). -/
def Obligations.ClockCrossingAndAccessPointCommandsComplete : Prop :=
  -- DCQ_WRITE
  (∀ (s : State) (fd : Fin 8) (r : Fin 384) (q : Fin 4) (data : BitVec 72), (s.dcq (rgn fd r * 4 + q.val)).configured = true →
      s.regionClocked (rgn fd r) = true →
      s.isolated (rgn fd r) = false →
      exec (.dcqWrite fd r q data) s = .next (if s.dcqFull (rgn fd r * 4 + q.val)
      then (if s.flag Reg.FAB_RGN_DCQ_OVF (rgn fd r * 4 + q.val)
      then (s.satAdd Reg.FAB_RGN_DCQ_DISC (rgn fd r * 4 + q.val) 1).setR Reg.FAB_RGN_DCQ_OVF (rgn fd r * 4 + q.val) 1
      else ((s.satAdd Reg.FAB_RGN_DCQ_DISC (rgn fd r * 4 + q.val) 1).setR Reg.FAB_RGN_DCQ_OVF (rgn fd r * 4 + q.val) 1).raise
      (napEp (rgn fd r)) 0x0923 2 (rgnDetail (rgn fd r) + q.val * 2 ^ 12))
      else s.modDcq (rgn fd r * 4 + q.val) (fun d => { d with entries := d.entries ++ [data] }))) ∧
  -- DCQ_WRITE without the region's clock, of a channel that is not configured, or of an isolated region whose channel is not full
  (∀ (s : State) (fd : Fin 8) (r : Fin 384) (q : Fin 4) (data : BitVec 72), s.regionClocked (rgn fd r) = false ∨ (s.dcq (rgn fd r * 4 + q.val)).configured = false ∨ (s.isolated (rgn fd r) = true ∧ s.dcqFull (rgn fd r * 4 + q.val) = false) →
      exec (.dcqWrite fd r q data) s = .next s) ∧
  -- DCQ_ENTRY_PRESENT
  (∀ (s : State) (fd : Fin 8) (r : Fin 384) (q : Fin 4), (s.dcq (rgn fd r * 4 + q.val)).present < (s.dcq (rgn fd r * 4 + q.val)).entries.length →
      s.regionClocked (s.dcq (rgn fd r * 4 + q.val)).dstRegion = true →
      ∃ t, exec (.dcqEntryPresent fd r q) s = .next t
      ∧ (t.dcq (rgn fd r * 4 + q.val)).present = (s.dcq (rgn fd r * 4 + q.val)).present + 1
      ∧ (t.dcq (rgn fd r * 4 + q.val)).entries = (s.dcq (rgn fd r * 4 + q.val)).entries
      ∧ t.ic.sels = s.ic.sels ∧ t.ic.xbar = s.ic.xbar ∧ t.ic.spines = s.ic.spines ∧ t.ic.regions = s.ic.regions ∧ Leaves [.ic] [] s t) ∧
  -- DCQ_READ
  (∀ (s : State) (fd : Fin 8) (r : Fin 384) (q : Fin 4), 0 < (s.dcq (rgn fd r * 4 + q.val)).present →
      s.regionClocked (s.dcq (rgn fd r * 4 + q.val)).dstRegion = true →
      ∃ t, exec (.dcqRead fd r q) s = .next t
      ∧ (t.dcq (rgn fd r * 4 + q.val)).entries = (s.dcq (rgn fd r * 4 + q.val)).entries.tail
      ∧ (t.dcq (rgn fd r * 4 + q.val)).present = (s.dcq (rgn fd r * 4 + q.val)).present - 1
      ∧ (t.dcq (rgn fd r * 4 + q.val)).unreported = (s.dcq (rgn fd r * 4 + q.val)).unreported + 1
      ∧ t.ic.sels = s.ic.sels ∧ t.ic.xbar = s.ic.xbar ∧ t.ic.spines = s.ic.spines ∧ t.ic.regions = s.ic.regions ∧ Leaves [.ic] [] s t) ∧
  -- DCQ_REMOVAL_REPORT
  (∀ (s : State) (fd : Fin 8) (r : Fin 384) (q : Fin 4), 0 < (s.dcq (rgn fd r * 4 + q.val)).unreported →
      s.regionClocked (rgn fd r) = true →
      exec (.dcqRemovalReport fd r q) s = .next (s.modDcq (rgn fd r * 4 + q.val) (fun d => { d with unreported := d.unreported - 1 }))) ∧
  -- DCQ_ENTRY_PRESENT, DCQ_READ and DCQ_REMOVAL_REPORT with nothing to cross, to read or to report, or without the clock of the end that acts: the state stays
  (∀ (s : State) (fd : Fin 8) (r : Fin 384) (q : Fin 4), ((s.dcq (rgn fd r * 4 + q.val)).entries.length ≤ (s.dcq (rgn fd r * 4 + q.val)).present ∨ s.regionClocked (s.dcq (rgn fd r * 4 + q.val)).dstRegion = false →
      exec (.dcqEntryPresent fd r q) s = .next s)
      ∧ ((s.dcq (rgn fd r * 4 + q.val)).present = 0 ∨ s.regionClocked (s.dcq (rgn fd r * 4 + q.val)).dstRegion = false → exec (.dcqRead fd r q) s = .next s)
      ∧ ((s.dcq (rgn fd r * 4 + q.val)).unreported = 0 ∨ s.regionClocked (rgn fd r) = false → exec (.dcqRemovalReport fd r q) s = .next s)) ∧
  -- XBAR_SEL_UPSET
  (∀ (s : State) (fd : Fin 8) (r : Fin 384) (mux b : Nat), ∃ t, exec (.xbarSelUpset fd r mux b) s = .next t
      ∧ Map.get [] t.ic.sels (muxKey (rgn fd r) (mux % 2 ^ 18)) = flipSel (Map.get [] s.ic.sels (muxKey (rgn fd r) (mux % 2 ^ 18))) b
      ∧ (oneHot (flipSel (Map.get [] s.ic.sels (muxKey (rgn fd r) (mux % 2 ^ 18))) b) = false → s.flag Reg.FAB_RGN_STAT_SELERR (rgn fd r) = false →
      t.getR Reg.FAB_RGN_STAT_SELERR (rgn fd r) = 1
      ∧ t.events = raiseIn s.events (evKey (napEp (rgn fd r)) 0x0920) s.time.toNat 2 (rgnDetail (rgn fd r) % 2 ^ 128))
      ∧ t.ic.xbar = s.ic.xbar ∧ t.ic.spines = s.ic.spines ∧ t.ic.dcqs = s.ic.dcqs ∧ t.ic.regions = s.ic.regions
      ∧ Leaves [.ic, .events] [Reg.FAB_RGN_STAT_SELERR.key (rgn fd r)] s t) ∧
  -- NAP_TX_PACKET
  (∀ (s : State) (fd : Fin 8) (r : Fin 384) (p : Packet), s.edgeLive (rgn fd r) = true →
      s.regionClocked (rgn fd r) = true →
      s.napWithdrawn (rgn fd r) = false →
      s.txRoom (rgn fd r) (p.data.length + 1) = true →
      exec (.napTxPacket fd r p) s = .next (if p.data.length = p.len then s.ingress { p with src := napEp (rgn fd r), status := 0 }
      else s.raise (napEp (rgn fd r)) 0x0231 2 (p.flow + napEp (rgn fd r) * 2 ^ 16))) ∧
  -- NAP_TX_PACKET of a held or isolated region, without its clock, from a withdrawn NAP or with no room for its flits: the state stays
  (∀ (s : State) (fd : Fin 8) (r : Fin 384) (p : Packet), s.edgeLive (rgn fd r) = false ∨ s.regionClocked (rgn fd r) = false ∨ s.napWithdrawn (rgn fd r) = true ∨ s.txRoom (rgn fd r) (p.data.length + 1) = false →
      exec (.napTxPacket fd r p) s = .next s) ∧
  -- NAP_RX_DELIVER
  (∀ (s : State) (fd : Fin 8) (r : Fin 384) (p : Packet) (rest : List Packet), s.rxNext (rgn fd r) = some (p, rest) →
      s.isolated (rgn fd r) = false →
      (s.region (rgn fd r)).rx.length + (s.region (rgn fd r)).rxWait.length + flits p ≤ 32 →
      exec (.napRxDeliver fd r) s = .next (((s.putInbox (napEp (rgn fd r)) rest).lateAt (napEp (rgn fd r)) p).modRegion (rgn fd r) (fun x => rxTake x (rxFlits p)))) ∧
  -- NAP_RX_DELIVER of a contract packet for whose flits there is no room: discarded whole, with event 0x0232 and a notice of cause 5
  (∀ (s : State) (fd : Fin 8) (r : Fin 384) (p : Packet) (rest : List Packet), s.rxNext (rgn fd r) = some (p, rest) →
      s.isolated (rgn fd r) = false →
      p.cls = true →
      32 < (s.region (rgn fd r)).rx.length + (s.region (rgn fd r)).rxWait.length + flits p →
      exec (.napRxDeliver fd r) s = .next (((s.putInbox (napEp (rgn fd r)) rest).raise (napEp (rgn fd r)) 0x0232 3 p.flow).breach p.flow 5
      (rtrSrc (epRtr (napEp (rgn fd r)))) p.deadline true true)) ∧
  -- NAP_RX_DELIVER with no packet whose turn it is, or of an isolated region: the state stays
  (∀ (s : State) (fd : Fin 8) (r : Fin 384), s.rxNext (rgn fd r) = none ∨ s.isolated (rgn fd r) = true →
      exec (.napRxDeliver fd r) s = .next s) ∧
  -- NAP_MM_REQUEST
  (∀ (s : State) (fd : Fin 8) (r : Fin 384) (p : Packet) (rest : List Packet), takeFirst isRequest (s.inbox (napEp (rgn fd r))) = some (p, rest) →
      s.isolated (rgn fd r) = false →
      (s.region (rgn fd r)).mm = [] →
      exec (.napMmRequest fd r) s = .next (if wordAccess p
      then ((s.putInbox (napEp (rgn fd r)) rest).lateAt (napEp (rgn fd r)) p).modRegion (rgn fd r) (fun x => { x with mm := [⟨p, true⟩] })
      else (s.putInbox (napEp (rgn fd r)) rest).decodeAnswer (napEp (rgn fd r)) p)) ∧
  -- NAP_MM_REQUEST with no request waiting, with one presented, or of an isolated region: the state stays
  (∀ (s : State) (fd : Fin 8) (r : Fin 384), takeFirst isRequest (s.inbox (napEp (rgn fd r))) = none ∨ s.isolated (rgn fd r) = true ∨ (s.region (rgn fd r)).mm ≠ [] →
      exec (.napMmRequest fd r) s = .next s) ∧
  -- NAP_MM_ACK
  (∀ (s : State) (fd : Fin 8) (r : Fin 384) (m : MmReq) (rest : List MmReq) (rdata : BitVec 64) (t : State), s.regionClocked (rgn fd r) = true →
      s.edgeLive (rgn fd r) = true →
      (s.region (rgn fd r)).mm = m :: rest →
      t = s.modRegion (rgn fd r) (fun x => { x with mm := rest }) →
      exec (.napMmAck fd r true rdata) s = .next (t.decodeAnswer (napEp (rgn fd r)) m.pkt)
      ∧ exec (.napMmAck fd r false rdata) s = .next (t.injectAt (epRtr (napEp (rgn fd r))) (t.served m.pkt (if m.pkt.kind = 1
      then toFlits (rdata.toNat / 2 ^ (8 * (m.pkt.addr % 8)) % 256 ^ m.pkt.size) m.pkt.size false else [])))) ∧
  -- NAP_MM_ACK without a clock, of a held or isolated region, or with no request presented
  (∀ (s : State) (fd : Fin 8) (r : Fin 384) (err : Bool) (rdata : BitVec 64), s.regionClocked (rgn fd r) = false ∨ s.edgeLive (rgn fd r) = false ∨ (s.region (rgn fd r)).mm = [] →
      exec (.napMmAck fd r err rdata) s = .next s) ∧
  -- NAP_MM_TIMEOUT
  (∀ (s : State) (fd : Fin 8) (r : Fin 384) (m : MmReq) (rest : List MmReq), (s.region (rgn fd r)).mm = m :: rest →
      exec (.napMmTimeout fd r) s = .next (((s.modRegion (rgn fd r) (fun x => { x with mm := rest })).decodeAnswer (napEp (rgn fd r)) m.pkt).raise
      (napEp (rgn fd r)) 0x0230 2 (m.pkt.addr % 2 ^ 24 + m.pkt.src % 2 ^ 16 * 2 ^ 32))) ∧
  -- NAP_MM_TIMEOUT with no request presented: the state stays
  (∀ (s : State) (fd : Fin 8) (r : Fin 384), (s.region (rgn fd r)).mm = [] →
      exec (.napMmTimeout fd r) s = .next s)

/-- Each register access first acts on a test of the region (touchRegion, R697). REGION_CLK_SEL_WRITE: SEL is written while the region is isolated; while it is not, another value leaves SEL and sets SEL_REJ. FAB_RGN_ISO_REQ, unless STATE is BUSY: with an admitted contract at the NAP STATE is FAILED and REASON 1; of an isolated region DONE; else BUSY, waiting for ISO_AT; ABORT_LATE and REASON are cleared. FAB_RGN_ISO_EXIT: EXITMODE is written; unless STATE is BUSY it waits, BUSY, where software is a cause, else STATE is FAILED with REASON 2. FAB_RGN_ISO_ABORT: a waiting operation ends ABORTED; in the commit point's cycle ABORT_LATE becomes 1; else the state stays. ISOLATION_COMMIT of a due request, no other isolation waiting: STATE is DONE and the region isolated. ISOLATION_COMMIT with nothing due: only the list of waiting isolations is passed over and the state reads as before. ISOLATION_EXIT_COMMIT of a due exit: STATE is DONE and software's cause ends; in mode 1 with software the only cause, OUTHOLD is 0, WRHOLD and STHOLD are 1 and one more release runs. Of an exit that is not due, or with none waiting, the state stays. -/
def Obligations.RegionIsolationCommandsComplete : Prop :=
  -- REGION_CLK_SEL_WRITE
  (∀ (s u : State) (fd : Fin 8) (r : Fin 384) (sel : BitVec 4), u = s.touchRegion (rgn fd r) →
      exec (.regionClkSelWrite fd r sel false) s = .next (if u.isolated (rgn fd r) then u.setR Reg.FAB_RGN_CLK_SEL (rgn fd r) sel.toNat
      else if sel.toNat = u.getR Reg.FAB_RGN_CLK_SEL (rgn fd r) then u else u.setR Reg.FAB_RGN_CLK_SEL_REJ (rgn fd r) 1)) ∧
  -- FAB_RGN_ISO_REQ
  (∀ (s u : State) (fd : Fin 8) (r : Fin 384), u = s.touchRegion (rgn fd r) →
      u.getR Reg.FAB_RGN_STAT_STATE (rgn fd r) ≠ 1 →
      u.admittedAt (napEp (rgn fd r)) = [] →
      u.isolated (rgn fd r) = false →
      exec (.fabRgnIsoReq fd r) s = .next (((((u.setR Reg.FAB_RGN_STAT_ABORT_LATE (rgn fd r) 0).setR Reg.FAB_RGN_STAT_REASON (rgn fd r) 0).setR
      Reg.FAB_RGN_STAT_STATE (rgn fd r) 1).setR Reg.RGN_ISOOP (rgn fd r) 1).setR Reg.RGN_ISOT (rgn fd r) (u.getR Reg.FAB_RGN_ISO_AT (rgn fd r)))) ∧
  -- FAB_RGN_ISO_REQ in every state
  (∀ (s u : State) (fd : Fin 8) (r : Fin 384), u = s.touchRegion (rgn fd r) →
      exec (.fabRgnIsoReq fd r) s = .next (if u.getR Reg.FAB_RGN_STAT_STATE (rgn fd r) = 1 then u
      else if (u.admittedAt (napEp (rgn fd r))).isEmpty = false then ((((u.setR Reg.FAB_RGN_STAT_ABORT_LATE (rgn fd r) 0).setR Reg.FAB_RGN_STAT_REASON (rgn fd r) 0).setR
      Reg.FAB_RGN_STAT_STATE (rgn fd r) 4).setR Reg.FAB_RGN_STAT_REASON (rgn fd r) 1)
      else if u.isolated (rgn fd r) then ((((u.setR Reg.FAB_RGN_STAT_ABORT_LATE (rgn fd r) 0).setR Reg.FAB_RGN_STAT_REASON (rgn fd r) 0).setR
      Reg.FAB_RGN_STAT_STATE (rgn fd r) 2).setR Reg.FAB_RGN_STAT_REASON (rgn fd r) 0)
      else (u.isoStart (rgn fd r)).isoWait (rgn fd r) 1)) ∧
  -- FAB_RGN_ISO_EXIT
  (∀ (s u : State) (fd : Fin 8) (r : Fin 384) (mode : Bool), u = s.touchRegion (rgn fd r) →
      u.getR Reg.FAB_RGN_STAT_STATE (rgn fd r) ≠ 1 →
      ∃ t, exec (.fabRgnIsoExit fd r mode) s = .next t ∧ t.getR Reg.FAB_RGN_ISO_EXITMODE (rgn fd r) = bit mode
      ∧ t.getR Reg.FAB_RGN_STAT_STATE (rgn fd r) = (if (u.region (rgn fd r)).causes.contains 1 then 1 else 4)
      ∧ t.getR Reg.FAB_RGN_STAT_REASON (rgn fd r) = (if (u.region (rgn fd r)).causes.contains 1 then 0 else 2)
      ∧ Leaves [] [Reg.FAB_RGN_ISO_EXITMODE.key (rgn fd r), Reg.FAB_RGN_STAT_ABORT_LATE.key (rgn fd r), Reg.FAB_RGN_STAT_REASON.key (rgn fd r),
      Reg.FAB_RGN_STAT_STATE.key (rgn fd r), Reg.RGN_ISOOP.key (rgn fd r), Reg.RGN_ISOT.key (rgn fd r)] u t) ∧
  -- FAB_RGN_ISO_ABORT
  (∀ (s u : State) (fd : Fin 8) (r : Fin 384), u = s.touchRegion (rgn fd r) →
      u.getR Reg.RGN_ISOOP (rgn fd r) ≠ 0 →
      exec (.fabRgnIsoAbort fd r) s = .next ((u.setR Reg.RGN_ISOOP (rgn fd r) 0).setR Reg.FAB_RGN_STAT_STATE (rgn fd r) 3)) ∧
  -- FAB_RGN_ISO_EXIT while an operation is BUSY: EXITMODE is written, nothing else
  (∀ (s u : State) (fd : Fin 8) (r : Fin 384) (mode : Bool), u = s.touchRegion (rgn fd r) →
      u.getR Reg.FAB_RGN_STAT_STATE (rgn fd r) = 1 →
      exec (.fabRgnIsoExit fd r mode) s = .next (u.setR Reg.FAB_RGN_ISO_EXITMODE (rgn fd r) (bit mode))) ∧
  -- FAB_RGN_ISO_ABORT with nothing waiting, outside the commit point's cycle: the state stays
  (∀ (s u : State) (fd : Fin 8) (r : Fin 384), u = s.touchRegion (rgn fd r) →
      u.getR Reg.RGN_ISOOP (rgn fd r) = 0 →
      u.getR Reg.FAB_RGN_STAT_STATE (rgn fd r) ≠ 2 ∨ u.inCommitCycle Reg.RGN_CMT (rgn fd r) = false →
      exec (.fabRgnIsoAbort fd r) s = .next u) ∧
  -- FAB_RGN_ISO_ABORT in the cycle of the commit point is late
  (∀ (s u : State) (fd : Fin 8) (r : Fin 384), u = s.touchRegion (rgn fd r) →
      u.getR Reg.RGN_ISOOP (rgn fd r) = 0 →
      u.getR Reg.FAB_RGN_STAT_STATE (rgn fd r) = 2 →
      u.getR Reg.RGN_CMT (rgn fd r) = u.cycle →
      exec (.fabRgnIsoAbort fd r) s = .next (u.setR Reg.FAB_RGN_STAT_ABORT_LATE (rgn fd r) 1)) ∧
  -- ISOLATION_COMMIT
  (∀ (s : State) (fd : Fin 8) (r : Fin 384), s.getR Reg.RGN_ISOOP (rgn fd r) = 1 →
      s.due (s.getR Reg.RGN_ISOT (rgn fd r)) = true →
      (s.region (rgn fd r)).isoPend = [] →
      ∃ t, exec (.isolationCommit fd r) s = .next t ∧ t.getR Reg.FAB_RGN_STAT_STATE (rgn fd r) = 2 ∧ t.getR Reg.RGN_ISOOP (rgn fd r) = 0
      ∧ t.getR Reg.FAB_RGN_STAT_ISOLATED (rgn fd r) = 1 ∧ t.time = s.time) ∧
  -- ISOLATION_COMMIT with nothing due: the records that still wait are kept, no register changes
  (∀ (s : State) (fd : Fin 8) (r : Fin 384), s.isoDue (rgn fd r) = [] →
      exec (.isolationCommit fd r) s = .next (s.modRegion (rgn fd r) (fun x => { x with isoPend := x.isoPend.filter (fun e => !s.due e.2) }))) ∧
  -- ISOLATION_EXIT_COMMIT with no exit waiting, or before its time: the state stays
  (∀ (s : State) (fd : Fin 8) (r : Fin 384), s.getR Reg.RGN_ISOOP (rgn fd r) ≠ 2 ∨ s.due (s.getR Reg.RGN_ISOT (rgn fd r)) = false →
      exec (.isolationExitCommit fd r) s = .next s) ∧
  -- ISOLATION_EXIT_COMMIT
  (∀ (s : State) (fd : Fin 8) (r : Fin 384), s.getR Reg.RGN_ISOOP (rgn fd r) = 2 →
      s.due (s.getR Reg.RGN_ISOT (rgn fd r)) = true →
      s.flag Reg.FAB_RGN_ISO_EXITMODE (rgn fd r) = false →
      exec (.isolationExitCommit fd r) s = .next ((((s.setR Reg.RGN_ISOOP (rgn fd r) 0).setR Reg.FAB_RGN_STAT_STATE (rgn fd r) 2).setR Reg.RGN_CMT (rgn fd r) s.cycle).unisolate (rgn fd r) 1)) ∧
  -- ISOLATION_EXIT_COMMIT of mode 1, software the only cause: the staged release starts
  (∀ (s : State) (fd : Fin 8) (r : Fin 384), s.getR Reg.RGN_ISOOP (rgn fd r) = 2 →
      s.due (s.getR Reg.RGN_ISOT (rgn fd r)) = true →
      s.flag Reg.FAB_RGN_ISO_EXITMODE (rgn fd r) = true →
      (s.region (rgn fd r)).causes = [1] →
      ∃ t, exec (.isolationExitCommit fd r) s = .next t ∧ t.getR Reg.FAB_RGN_STAT_STATE (rgn fd r) = 2 ∧ t.getR Reg.RGN_ISOOP (rgn fd r) = 0
      ∧ t.getR Reg.FAB_RGN_STAT_ISOLATED (rgn fd r) = 0 ∧ t.getR Reg.FAB_OUTHOLD (rgn fd r) = 0 ∧ t.getR Reg.FAB_WRHOLD (rgn fd r) = 1
      ∧ t.getR Reg.FAB_STHOLD (rgn fd r) = 1 ∧ t.fab.rels.length = s.fab.rels.length + 1 ∧ t.time = s.time ∧ t.mem = s.mem) ∧
  -- what ending a cause leaves
  (∀ (s : State) (rg cause : Nat), rg < 3072 →
      ((s.unisolate rg cause).region rg).causes = (s.region rg).causes.filter (fun c => !decide (c = cause)))

/-- SVP_PIN_CFG_WRITE by a management requester of an unlocked pin takes the electrical fields and FUNC, where the claim codes 0, 1, 3 and 4 read back 7; of a locked pin nothing; by another requester STATUS 2 and nothing. SVP_FUNCTION_SWITCH of a pin no one claims, with BD0's core on, makes the software selection the effective function. SVP_OUT_WRITE changes only the bits of pins that the requester owns. The lock opens by 0x5A5A, then 0xA5A5 of the same requester, and SVP_LOCK_SET then locks the written pins with event 0x1002; the timeout, when 64 ncyc have passed, closes the sequence. A wake edge of the chosen sense at a pin whose function is WAKE raises Dusk's interrupt. With no boundary instruction in force, IDCODE answers the device code 0x08A0878B with the package feature level in its top bits and leaves IDCODE in force, as Test-Logic-Reset does; BYPASS, CLAMP and HIGHZ answer bypass's 0; SAMPLE/PRELOAD, EXTEST, EXTEST_PULSE and EXTEST_TRAIN answer the balls' captured levels and load the boundary register. The same holds while the boundary instruction stays the same. Leaving a boundary instruction performs a device reset, with its bit of DEV_RST_CAUSE. Instruction numbers and the register's 4,096 bits are the model's own (notes/assumptions/5). -/
def Obligations.ServicePinAndJtagCommandsComplete : Prop :=
  -- SVP_PIN_CFG_WRITE
  (∀ (s : State) (n : Fin 64) (value : BitVec 32) (req : BitVec 16), isMgmt req.toNat = true →
      s.flag Reg.SVP_PIN_CFG_LOCKED n = false →
      ∃ t, exec (.svpPinCfgWrite n value req) s = .next t ∧ t.resp = ⟨0, 0, false⟩
      ∧ t.getR Reg.SVP_PIN_CFG_FUNC n = (if value.toNat % 8 ∈ [0, 1, 3, 4] then 7 else value.toNat % 8)
      ∧ t.getR Reg.SVP_PIN_CFG_THR n = value.toNat / 2 ^ 3 % 2 ∧ t.getR Reg.SVP_PIN_CFG_HYS n = value.toNat / 2 ^ 4 % 2
      ∧ t.getR Reg.SVP_PIN_CFG_PULL n = value.toNat / 2 ^ 5 % 4 ∧ t.getR Reg.SVP_PIN_CFG_DRIVE n = value.toNat / 2 ^ 7 % 4
      ∧ t.getR Reg.SVP_PIN_CFG_SLEW n = value.toNat / 2 ^ 9 % 2 ∧ t.getR Reg.SVP_PIN_CFG_OD n = value.toNat / 2 ^ 10 % 2
      ∧ t.getR Reg.SVP_PIN_CFG_WPOL n = value.toNat / 2 ^ 11 % 2
      ∧ Leaves [.resp] [Reg.SVP_PIN_CFG_FUNC.key n, Reg.SVP_PIN_CFG_THR.key n, Reg.SVP_PIN_CFG_HYS.key n, Reg.SVP_PIN_CFG_PULL.key n,
      Reg.SVP_PIN_CFG_DRIVE.key n, Reg.SVP_PIN_CFG_SLEW.key n, Reg.SVP_PIN_CFG_OD.key n, Reg.SVP_PIN_CFG_WPOL.key n] s t) ∧
  -- locked, or not a management requester
  (∀ (s : State) (n : Fin 64) (value : BitVec 32) (req : BitVec 16), (isMgmt req.toNat = false → exec (.svpPinCfgWrite n value req) s = .next (s.respond 0 2))
      ∧ (isMgmt req.toNat = true → s.flag Reg.SVP_PIN_CFG_LOCKED n = true → exec (.svpPinCfgWrite n value req) s = .next (s.respond 0 0))) ∧
  -- SVP_FUNCTION_SWITCH
  (∀ (s : State) (n : Fin 64), s.domOff 32 = false →
      s.hardClaim n = none →
      s.portClaims n = [] →
      s.flag Reg.SVP_PRECFG 0 = false →
      exec (.svpFunctionSwitch n) s = .next ((s.setR Reg.SVP_PIN_CFG_EFUNC n (s.svpFunc n)).setR Reg.SVP_EL n (s.svpFields n (s.svpFunc n)))) ∧
  -- SVP_OUT_WRITE
  (∀ (s : State) (oe : Bool) (part : Fin 3) (value : BitVec 64) (req : BitVec 16), exec (.svpOutWrite oe part value req) s = .next ((s.setR (if oe then Reg.SVP_OE else Reg.SVP_OUT) 0
      ((s.getR (if oe then Reg.SVP_OE else Reg.SVP_OUT) 0 &&& (2 ^ 64 - 1 - (partMask part &&& s.svpOwned req.toNat)))
      ||| (partValue part value &&& (partMask part &&& s.svpOwned req.toNat)))).respond 0 0)) ∧
  -- SVP_LOCK_KEY
  (∀ (s : State) (req : BitVec 16), (s.keyStage 0 = 0 → exec (.svpLockKey 0x5A5A req) s = .next ((((s.respond 0 0).setR Reg.KEY_STAGE 0 1).setR Reg.KEY_REQ 0 req.toNat).setR Reg.KEY_T 0 s.clockNow))
      ∧ (s.keyStage 0 = 1 → s.getR Reg.KEY_REQ 0 = req.toNat → exec (.svpLockKey 0xA5A5 req) s = .next ((s.respond 0 0).setR Reg.KEY_STAGE 0 2))
      ∧ exec .svpLockTimeout s = .next (if 64 * 512 < s.keyAge 0 then s.setR Reg.KEY_STAGE 0 0 else s)) ∧
  -- SVP_LOCK_SET
  (∀ (s : State) (part : Fin 3) (value : BitVec 64) (req : BitVec 16), s.keyStage 0 = 2 →
      s.getR Reg.KEY_REQ 0 = req.toNat →
      ∃ t, exec (.svpLockSet part value req) s = .next t
      ∧ (∀ n < 64, t.flag Reg.SVP_PIN_CFG_LOCKED n = (s.flag Reg.SVP_PIN_CFG_LOCKED n || nbit (partValue part value) n))
      ∧ t.getR Reg.KEY_STAGE 0 = 0 ∧ t.resp = ⟨0, 0, false⟩
      ∧ t.events = raiseIn s.events (evKey 0x2D48 0x1002) s.time.toNat 0 ((partValue part value + req.toNat * 2 ^ 112) % 2 ^ 128)
      ∧ t.mem = s.mem ∧ t.time = s.time) ∧
  -- SVP_WAKE_EDGE
  (∀ (s : State) (n : Fin 64) (rising : Bool), s.getR Reg.SVP_PIN_CFG_EFUNC n = 5 →
      nbit (s.getR Reg.SVP_EL n) 8 ≠ rising →
      exec (.svpWakeEdge n rising) s = .next (s.setR Reg.DUSK_INT 0 1)) ∧
  -- IDCODE and BYPASS
  (∀ (s : State), s.getR Reg.JTAG_IR 0 < 3 →
      exec .jtagIdcode s = .next ((s.setR Reg.JTAG_IR 0 0).respond ((0x08A0878B + s.getR Reg.DEV_FEAT_PKG_FLEVEL 0 * 2 ^ 28) % 2 ^ 32) 0)
      ∧ exec .jtagBypass s = .next ((s.setR Reg.JTAG_IR 0 1).respond 0 0) ∧ exec .jtagTapReset s = .next (s.setR Reg.JTAG_IR 0 0)) ∧
  -- SAMPLE/PRELOAD
  (∀ (s : State) (pins load : Nat), s.getR Reg.JTAG_IR 0 < 3 →
      exec (.jtagSamplePreload pins load) s = .next (((s.setR Reg.JTAG_IR 0 2).setR Reg.JTAG_BSR 0 load).respond (pins % 2 ^ 4096) 0)) ∧
  -- the EXTEST instructions
  (∀ (s : State) (pins load : Nat), (s.getR Reg.JTAG_IR 0 < 3 ∨ s.getR Reg.JTAG_IR 0 = 3 →
      exec (.jtagExtest pins load) s = .next (((s.setR Reg.JTAG_IR 0 3).setR Reg.JTAG_BSR 0 load).respond (pins % 2 ^ 4096) 0))
      ∧ (s.getR Reg.JTAG_IR 0 < 3 ∨ s.getR Reg.JTAG_IR 0 = 4 →
      exec (.jtagExtestPulse pins load) s = .next (((s.setR Reg.JTAG_IR 0 4).setR Reg.JTAG_BSR 0 load).respond (pins % 2 ^ 4096) 0))
      ∧ (s.getR Reg.JTAG_IR 0 < 3 ∨ s.getR Reg.JTAG_IR 0 = 5 →
      exec (.jtagExtestTrain pins load) s = .next (((s.setR Reg.JTAG_IR 0 5).setR Reg.JTAG_BSR 0 load).respond (pins % 2 ^ 4096) 0))
      ∧ (s.getR Reg.JTAG_IR 0 < 3 ∨ s.getR Reg.JTAG_IR 0 = 6 → exec .jtagClamp s = .next ((s.setR Reg.JTAG_IR 0 6).respond 0 0))
      ∧ (s.getR Reg.JTAG_IR 0 < 3 ∨ s.getR Reg.JTAG_IR 0 = 7 → exec .jtagHighz s = .next ((s.setR Reg.JTAG_IR 0 7).respond 0 0))) ∧
  -- leaving a boundary instruction
  (∀ (s : State), 3 ≤ s.getR Reg.JTAG_IR 0 →
      s.inReset = false →
      ∃ t, exec .jtagTapReset s = .next t ∧ t.getR Reg.DEV_RST_CAUSE_JTAG 0 = 1 ∧ t.time = 0)

/-- ROUTER_PACKET_RECEIVE without a fault of a packet before a router: where its route ends at an OPEN local port, held packets go first (R212) and the packet waits for that port, which takes its turn; where it leads over a mesh port, the packet waits for that port, which takes its turn; without a route it is dropped as unreachable; a packet received earlier tries again. Where the index names no packet, or one at a port, or the source's port is closing, the state stays. A turn sends the packet that the slot's order chooses (choose), if any; a packet sent stands last before the next router or in its endpoint's queue, its flits counted. A best-effort packet that alone waits for a free unfolded port is chosen. A header with lane 2 lost is dropped with event 0x0204 and the lost packet's reports. PACKET_DELIVER of the first packet of its queue: the endpoint receives it, or at a port that is OFF or CLOSED it meets the port again; of any other packet the state stays. A sound packet of kind below 6 at a NAP joins its inbox. WAKE_BUFFER_DRAIN of an OPEN port is drainWake; with room for all, the held packets stand in its queue. NOC_WAKE_TIMEOUT and NOC_WAKE_REFUSED, where their condition holds, answer every held packet (R214) and raise 0x0209. PORT_QUIET_OFF of a CLOSING port with no packet in progress, and FORCED_CLOSE_TIMEOUT of a forced CLOSING port, turn it OFF; the latter answers the requests it cuts with STATUS 3. Each of these five, where its condition does not hold, leaves the state. That a packet moves as one unit, and that a wake buffer's packets have room tests, is the model's (notes/assumptions/89). -/
def Obligations.RouterCommandsComplete : Prop :=
  -- ROUTER_PACKET_RECEIVE at its last router, its port OPEN: the packet waits for that port, which takes its turn
  (∀ (s : State) (n r input : Nat) (e : NetPkt), s.noc.net[n]? = some e →
      e.place = .router r input →
      e.out = none →
      s.closingSource r input e.pkt = false →
      e.pkt.len ≠ 0 ∧ e.pkt.vc ≠ 3 →
      s.hopOf r e.pkt = some 4 →
      epPort e.pkt.dest ≠ 31 →
      s.portState (rtrEp r (epPort e.pkt.dest)) = 0 →
      e.pkt.cls = true ∨ heldFor ((s.portHeld r 4 (epPort e.pkt.dest)).wakeBuf r) (epPort e.pkt.dest) = [] →
      exec (.routerPacketReceive n {}) s = .next (((s.portHeld r 4 (epPort e.pkt.dest)).setPkt n { e with out := some 4 }).outputTurn r 4 (epPort e.pkt.dest))) ∧
  -- ROUTER_PACKET_RECEIVE on the way: the packet waits for its mesh port, which takes its turn
  (∀ (s : State) (n r input d : Nat) (e : NetPkt), s.noc.net[n]? = some e →
      e.place = .router r input →
      e.out = none →
      s.closingSource r input e.pkt = false →
      e.pkt.len ≠ 0 ∧ e.pkt.vc ≠ 3 →
      s.hopOf r e.pkt = some d →
      d ≠ 4 →
      exec (.routerPacketReceive n {}) s = .next ((s.setPkt n { e with out := some d }).outputTurn r d (epPort e.pkt.dest))) ∧
  -- ROUTER_PACKET_RECEIVE with no route: unreachable
  (∀ (s : State) (n r input : Nat) (e : NetPkt), s.noc.net[n]? = some e →
      e.place = .router r input →
      e.out = none →
      s.closingSource r input e.pkt = false →
      e.pkt.len ≠ 0 ∧ e.pkt.vc ≠ 3 →
      s.hopOf r e.pkt = none →
      exec (.routerPacketReceive n {}) s = .next ((s.dropPkt n).unreachable r e.pkt)) ∧
  -- ROUTER_PACKET_RECEIVE and PACKET_DELIVER of no packet, ROUTER_PACKET_RECEIVE of one past its routers or of a source whose port closes, PACKET_DELIVER of one before a router: the state stays
  (∀ (s : State) (n : Nat) (f : HopFault), (s.noc.net[n]? = none → exec (.routerPacketReceive n f) s = .next s ∧ exec (.packetDeliver n) s = .next s)
      ∧ (∀ e d, s.noc.net[n]? = some e → e.place = .port d → exec (.routerPacketReceive n f) s = .next s)
      ∧ (∀ e r input, s.noc.net[n]? = some e → e.place = .router r input → exec (.packetDeliver n) s = .next s
      ∧ (e.out = none → s.closingSource r input e.pkt = true → exec (.routerPacketReceive n f) s = .next s))) ∧
  -- a packet received earlier tries again
  (∀ (s : State) (n r input d : Nat) (e : NetPkt) (f : HopFault), s.noc.net[n]? = some e →
      e.place = .router r input →
      e.out.isSome = true →
      s.hopOf r e.pkt = some d →
      d ≠ 4 →
      exec (.routerPacketReceive n f) s = .next ((s.setPkt n { e with out := some d }).outputTurn r d (epPort e.pkt.dest))) ∧
  -- an output port's turn, after what the wake buffer holds for it
  (∀ (s u : State) (r out lport : Nat), u = s.portHeld r out lport →
      (out = 4 ∧ (heldFor (u.wakeBuf r) lport).isEmpty = false → s.outputTurn r out lport = u)
      ∧ (u.choose r out lport = none → s.outputTurn r out lport = u)
      ∧ (∀ k e n, ¬(out = 4 ∧ (heldFor (u.wakeBuf r) lport).isEmpty = false) → u.choose r out lport = some (k, e, n) → u.foldDrops (outPort r (outNo out lport)) e.pkt = false →
      s.outputTurn r out lport = (u.modNoc (fun x => { x with turns := Map.set 0 (Map.set 0 (Map.set 0 x.turns (turnKey (outPort r (outNo out lport)) k) (turnInput e))
      (turnKey (outPort r (outNo out lport)) (12 + e.pkt.vc)) (u.ncyc + flits e.pkt)) (turnKey (outPort r (outNo out lport)) 15) (u.ncyc + 1) })).send n r out lport e)) ∧
  -- a best-effort packet that alone waits for an unfolded port gets the turn, in a slot of any kind
  (∀ (s : State) (r out lport n : Nat) (e : NetPkt), s.candidates r out lport = [(e, n)] →
      e.pkt.vc = 2 ∧ e.pkt.kind ≠ 6 →
      s.portFolded (outPort r (outNo out lport)) = false →
      s.vcFree (outPort r (outNo out lport)) 2 = true →
      ∃ k, s.choose r out lport = some (k, e, n)) ∧
  -- a packet sent stands last before the next router, or in the receive queue of its endpoint, and its flits are counted
  (∀ (s : State) (n r out lport : Nat) (e : NetPkt) (u : State), e.pkt.cls = false →
      u = s.send n r out lport e →
      u.noc.net = s.noc.net.eraseIdx n ++ [{ e with
      place := if out = 4 then Place.port (rtrEp r lport) else match neighbour r out with | some q => Place.router q (opposite out) | none => e.place, out := none, slot := s.nocSlot }]
      ∧ u.regs = (s.countFlits r out e.pkt).regs ∧ Leaves [.noc] [Reg.NOC_FLITS_CT_COUNT.key (pcIx r out), Reg.NOC_FLITS_BG_COUNT.key (pcIx r out),
      Reg.NOC_FLITS_BE_COUNT.key (pcIx r out)] s u) ∧
  -- a lost header
  (∀ (s : State) (n r input : Nat) (e : NetPkt), s.noc.net[n]? = some e →
      e.place = .router r input →
      e.out = none →
      s.closingSource r input e.pkt = false →
      exec (.routerPacketReceive n { hdrUe := [2] }) s = .next ((s.modNoc (fun c => { c with net := c.net.eraseIdx n })).dropHeader r input e [2])) ∧
  -- what a lost header with its identity intact reports
  (∀ (s : State) (r input : Nat) (e : NetPkt), s.dropHeader r input e [2] = ((s.satAdd Reg.NOC_PERR_HDR (pcIx r (min input 4)) 1).raise (rtrSrc r) 0x0204 4 (nocDetail e.pkt (min input 4) 0 2)).dropReports r e.pkt true) ∧
  -- PACKET_DELIVER
  (∀ (s : State) (n e : Nat) (x : NetPkt), s.noc.net[n]? = some x →
      x.place = .port e →
      ((s.noc.net.take n).any (fun y => sameQueue y x)) = false →
      epPort e = 31 ∨ s.portState e < 2 →
      exec (.packetDeliver n) s = .next ((s.modNoc (fun c => { c with net := c.net.eraseIdx n })).receive e x.pkt)) ∧
  -- PACKET_DELIVER of a packet that is not the first of its queue: the state stays
  (∀ (s : State) (n : Nat) (x : NetPkt), s.noc.net[n]? = some x →
      ((s.noc.net.take n).any (fun y => sameQueue y x)) = true →
      exec (.packetDeliver n) s = .next s) ∧
  -- PACKET_DELIVER at a port that takes none any more
  (∀ (s : State) (n e : Nat) (x : NetPkt), s.noc.net[n]? = some x →
      x.place = .port e →
      ((s.noc.net.take n).any (fun y => sameQueue y x)) = false →
      epPort e ≠ 31 ∧ 2 ≤ s.portState e →
      exec (.packetDeliver n) s = .next (s.atPort n (epRtr e) x)) ∧
  -- what a sound packet of a NAP's own kinds does
  (∀ (s : State) (rg : Nat) (p : Packet), kindOf (napEp rg) = .nap rg →
      crcFails p = false ∧ p.kind < 6 →
      s.receive (napEp rg) p = (s.touchRegion rg).toInbox (napEp rg) p) ∧
  -- WAKE_BUFFER_DRAIN
  (∀ (s : State) (router : Fin 384) (port : Fin 32), exec (.wakeBufferDrain router port) s = .next (if s.portState (rtrEp router port) = 0 then s.drainWake router port else s)) ∧
  -- what draining leaves where nothing or one packet is held, with room for it
  (∀ (s : State) (router : Fin 384) (port : Fin 32) (p : Packet), (heldFor (s.wakeBuf router) port = [] → (s.drainWake router port).noc.net = s.noc.net)
      ∧ (heldFor (s.wakeBuf router) port = [p] → s.rxRoom (rtrEp router port) p = true →
      (s.drainWake router port).noc.net = s.noc.net ++ [⟨p, .port (rtrEp router port), false, none, 0⟩]
      ∧ (s.drainWake router port).wakeBuf router = heldOther (s.wakeBuf router) port)
      ∧ (s.drainWake router port).getR Reg.WAKE_REQ (portIx (rtrEp router port)) = 0
      ∧ (s.drainWake router port).mem = s.mem ∧ (s.drainWake router port).events = s.events ∧ (s.drainWake router port).time = s.time) ∧
  -- NOC_WAKE_TIMEOUT
  (∀ (s : State) (router : Fin 384) (port : Fin 32), s.flag Reg.WAKE_REQ (portIx (rtrEp router port)) = true →
      s.portState (rtrEp router port) ≠ 0 →
      exec (.nocWakeTimeout router port) s = .next (s.wakeFail router port 1)) ∧
  -- NOC_WAKE_TIMEOUT, NOC_WAKE_REFUSED and FORCED_CLOSE_TIMEOUT where their condition does not hold: the state stays
  (∀ (s : State) (router : Fin 384) (port : Fin 32) (thermal : Bool), (s.flag Reg.WAKE_REQ (portIx (rtrEp router port)) = false ∨ s.portState (rtrEp router port) = 0 → exec (.nocWakeTimeout router port) s = .next s)
      ∧ (s.portState (rtrEp router port) ≠ 2 ∨ (if thermal then s.thermal else s.forced (epDomain (rtrEp router port))) = false → exec (.nocWakeRefused router port thermal) s = .next s)
      ∧ (s.portState (rtrEp router port) ≠ 1 ∨ s.flag Reg.PORT_FORCED (portIx (rtrEp router port)) = false → exec (.forcedCloseTimeout router port) s = .next s)) ∧
  -- NOC_WAKE_REFUSED
  (∀ (s : State) (router : Fin 384) (port : Fin 32) (thermal : Bool), s.portState (rtrEp router port) = 2 →
      (if thermal then s.thermal else s.forced (epDomain (rtrEp router port))) = true →
      exec (.nocWakeRefused router port thermal) s = .next ((s.wakeFail router port (if thermal then 3 else 2)).setR Reg.PORT_REFUSE (portIx (rtrEp router port))
      (if thermal then 3 else 2))) ∧
  -- what a failed wake does to the packets it held
  (∀ (s : State) (router port cause : Nat), s.wakeFail router port cause = ((heldFor (s.wakeBuf router) port).foldl (fun u p => u.wakeAnswer router p)
      ((s.putWake router (heldOther (s.wakeBuf router) port)).setR Reg.WAKE_REQ (portIx (rtrEp router port)) 0)).raise (rtrSrc router) 0x0209 4
      (nocDetail ((heldFor (s.wakeBuf router) port).headD { dest := rtrEp router port, src := 0, len := 1, kind := 0, data := [] }) 4 port 0 0 cause)
      ∧ ∀ p, s.wakeAnswer router p = (if isRequest p then s.answerAt router p 3 else s.notice router (rtrSrc router) p.src 2 p)) ∧
  -- PORT_QUIET_OFF
  (∀ (s : State) (router : Fin 384) (port : Fin 32), s.portState (rtrEp router port) = 1 →
      s.portBusy (rtrEp router port) = false →
      exec (.portQuietOff router port) s = .next (s.portOff (rtrEp router port))) ∧
  -- what turning a port OFF leaves, a NAP's apart, whose region may keep it CLOSED
  (∀ (s : State) (e : Nat), (∀ rg, kindOf e ≠ .nap rg) →
      s.portOff e = (if s.flag Reg.PORT_FORCED (portIx e) then (s.setR Reg.NOC_PSTATE (portIx e) 2).setR Reg.PORT_REFUSE (portIx e) 2
      else s.setR Reg.NOC_PSTATE (portIx e) 2).pwTry (epDomain e)) ∧
  -- PORT_QUIET_OFF while a packet is in progress, or of a port that does not close
  (∀ (s : State) (router : Fin 384) (port : Fin 32), s.portState (rtrEp router port) ≠ 1 ∨ s.portBusy (rtrEp router port) = true →
      exec (.portQuietOff router port) s = .next s) ∧
  -- FORCED_CLOSE_TIMEOUT
  (∀ (s t : State) (router : Fin 384) (port : Fin 32), s.portState (rtrEp router port) = 1 →
      s.flag Reg.PORT_FORCED (portIx (rtrEp router port)) = true →
      t = (s.modNoc (fun n => { n with net := n.net.filter (fun x => !decide (x.place = .port (rtrEp router port))) })).finishTx (rtrEp router port) →
      exec (.forcedCloseTimeout router port) s = .next (((s.noc.net.filter (fun x => decide (x.place = .port (rtrEp router port)))).foldl (fun u x =>
      if isRequest x.pkt then u.answerAt router x.pkt 3 else u) t).portOff (rtrEp router port)))

/-- THY_ADMIT, THY_SUSPEND, THY_RESUME, THY_TEARDOWN and THY_READMIT of an idle mailbox make it BUSY and queue the operation; one answered at once, with nothing else waiting, then has its answer (admitNow, suspendNow, resumeNow, teardownNow, readmitNow); of a BUSY mailbox an answer reaches the operation only where it is the first that waits, else the state stays. The answers: an ADMIT whose checks pass gives the lowest free ID, its contract LIVE with the plan's slots and bound, the mailbox DONE with the ID; a failed check answers REFUSED. SUSPEND of a LIVE contract suspends it with event 0x0304, of one suspended by breach is DONE, else REASON 14. RESUME of one suspended on request with both ports OPEN makes it LIVE with full credit and event 0x0305; with a port not OPEN REASON 4; else 15 or 14. TEARDOWN of an admitted contract starts its drain; else REASON 14. READMIT of one suspended by breach whose checks pass places it anew with event 0x0305; else it is refused. THY_ABORT of a BUSY mailbox ends ABORTED; of a DONE one in the commit point's cycle ABORT_LATE becomes 1; else the state stays. THY_TIMEOUT of a queued ADMIT or READMIT ends REFUSED with REASON 13 and event 0x0308; else the state stays. CONTRACT_DRAIN_END of a draining contract whose bound has passed frees it with event 0x0306; else the state stays. The order of answers is the model's (notes/assumptions/96), the commit point's cycle too (notes/assumptions/88). -/
def Obligations.ContractCommandsComplete : Prop :=
  -- an operation of an idle mailbox that is not answered at once, or that waits behind others
  (∀ (s : State) (m : Fin 8) (id : BitVec 12) (now : Bool), s.getR Reg.THY_REQ_STAT_STATE m ≠ 1 →
      now = false ∨ s.thy.queue ≠ [] →
      exec (.thyAdmit m now) s = .next (s.boxStart m 1 0) ∧ exec (.thySuspend m id now) s = .next (s.boxStart m 2 id.toNat)
      ∧ exec (.thyResume m id now) s = .next (s.boxStart m 3 id.toNat) ∧ exec (.thyTeardown m id now) s = .next (s.boxStart m 4 id.toNat)
      ∧ exec (.thyReadmit m id now) s = .next (s.boxStart m 5 id.toNat)) ∧
  -- an operation of an idle mailbox answered at once
  (∀ (s : State) (m : Fin 8) (id : BitVec 12), s.getR Reg.THY_REQ_STAT_STATE m ≠ 1 →
      s.thy.queue = [] →
      exec (.thyAdmit m true) s = .next ((s.boxStart m 1 0).admitNow m) ∧ exec (.thySuspend m id true) s = .next ((s.boxStart m 2 id.toNat).suspendNow m id.toNat)
      ∧ exec (.thyResume m id true) s = .next ((s.boxStart m 3 id.toNat).resumeNow m id.toNat) ∧ exec (.thyTeardown m id true) s = .next ((s.boxStart m 4 id.toNat).teardownNow m id.toNat)
      ∧ exec (.thyReadmit m id true) s = .next ((s.boxStart m 5 id.toNat).readmitNow m id.toNat)) ∧
  -- a BUSY mailbox: the answer to the operation that waits first, with the ID it came with
  (∀ (s : State) (m : Fin 8) (id : BitVec 12) (op i : Nat) (rest : List (Nat × Nat × Nat)), s.getR Reg.THY_REQ_STAT_STATE m = 1 →
      s.thy.queue = (m.val, op, i) :: rest →
      (op = 1 → exec (.thyAdmit m true) s = .next (s.admitNow m)) ∧ (op = 2 → exec (.thySuspend m id true) s = .next (s.suspendNow m i))
      ∧ (op = 3 → exec (.thyResume m id true) s = .next (s.resumeNow m i)) ∧ (op = 4 → exec (.thyTeardown m id true) s = .next (s.teardownNow m i))
      ∧ (op = 5 → exec (.thyReadmit m id true) s = .next (s.readmitNow m i))) ∧
  -- a command of a BUSY mailbox that answers nothing, or whose operation does not wait first: the state stays
  (∀ (s : State) (m : Fin 8) (id : BitVec 12) (now : Bool), s.getR Reg.THY_REQ_STAT_STATE m = 1 →
      now = false ∨ s.thy.queue.head?.map (fun e => e.1) ≠ some m.val →
      exec (.thyAdmit m now) s = .next s ∧ exec (.thySuspend m id now) s = .next s ∧ exec (.thyResume m id now) s = .next s
      ∧ exec (.thyTeardown m id now) s = .next s ∧ exec (.thyReadmit m id now) s = .next s) ∧
  -- what BUSY leaves
  (∀ (s : State) (m op id : Nat), (s.boxStart m op id).getR Reg.THY_REQ_STAT_STATE m = 1 ∧ (s.boxStart m op id).thy.queue = s.boxQueue (m, op, id)
      ∧ (s.boxQueue (m, op, id)).length = s.thy.queue.length + 1 ∧ (m, op, id) ∈ s.boxQueue (m, op, id)
      ∧ Leaves [.thy] [Reg.THY_REQ_STAT_STATE.key m, Reg.THY_REQ_STAT_ABORT_LATE.key m, Reg.THY_REQ_STAT_REASON.key m, Reg.THY_ARR.key m] s (s.boxStart m op id)) ∧
  -- THY_ADMIT granted
  (∀ (s u : State) (m : Fin 8) (p : Plan), s.getR Reg.THY_REQ_STAT_STATE m ≠ 1 →
      s.thy.queue = [] →
      u = s.boxStart m 1 0 →
      u.admitCheck (u.mailbox m) none = .inr p →
      ∃ t, exec (.thyAdmit m true) s = .next t ∧ t.getR Reg.THY_REQ_STAT_STATE m = 2
      ∧ t.getR Reg.THY_REQ_STAT_ID m = Reg.THY_REQ_STAT_ID.norm u.freeId ∧ t.cstate u.freeId = 1
      ∧ t.getR Reg.THY_CT_EP_SRC u.freeId = Reg.THY_CT_EP_SRC.norm (u.getR Reg.THY_REQ_SRC_EP m)
      ∧ t.getR Reg.THY_CT_BOUND_TICKS u.freeId = Reg.THY_CT_BOUND_TICKS.norm p.bound
      ∧ (t.contract u.freeId).own = p.own ∧ t.mem = s.mem ∧ t.time = s.time ∧ t.noc = s.noc) ∧
  -- what an ADMIT's answer does, granted and refused
  (∀ (s : State) (m : Nat), (∀ r : Refuse, s.admitCheck (s.mailbox m) none = .inl r → s.admitNow m = s.boxRefuse m 1 0 r)
      ∧ (∀ p : Plan, s.admitCheck (s.mailbox m) none = .inr p → s.admitNow m
      = (((s.applyPlan s.freeId (s.mailbox m) p).boxPlan m p).boxDone m s.freeId).raise thymeEp 0x0301 0 (s.freeId + p.bound * 2 ^ 32))) ∧
  -- what a SUSPEND's answer does in every state of the contract
  (∀ (s : State) (m i : Nat), s.suspendNow m i = (if s.cstate i = 1 then (((s.setCstate i 2).pgeOutputLost i).boxDone m i).raise thymeEp 0x0304 0 i
      else if s.cstate i = 3 then s.boxDone m i else s.boxRefuse m 2 i ⟨14, 0, 0⟩)) ∧
  -- what a RESUME's answer does in every state of the contract
  (∀ (s : State) (m i : Nat), s.resumeNow m i = (if s.cstate i = 3 then s.boxRefuse m 3 i ⟨15, 0, 0⟩ else if s.cstate i ≠ 2 then s.boxRefuse m 3 i ⟨14, 0, 0⟩
      else if s.portState (s.getR Reg.THY_CT_EP_SRC i) ≠ 0 then s.boxRefuse m 3 i ⟨4, s.getR Reg.THY_CT_EP_SRC i, 0⟩
      else if s.portState (s.getR Reg.THY_CT_EP_DST i) ≠ 0 then s.boxRefuse m 3 i ⟨4, s.getR Reg.THY_CT_EP_DST i, 0⟩
      else (((s.setCstate i 1).fullCredit i).boxDone m i).raise thymeEp 0x0305 0 i)) ∧
  -- what a TEARDOWN's answer does in every state of the contract
  (∀ (s : State) (m i : Nat), (s.cstate i = 0 ∨ s.cstate i = 4 → s.teardownNow m i = s.boxRefuse m 4 i ⟨14, 0, 0⟩)
      ∧ (s.cstate i ≠ 0 → s.cstate i ≠ 4 → (s.teardownNow m i).getR Reg.THY_REQ_STAT_STATE m = 2 ∧ (s.teardownNow m i).cstate i = 4
      ∧ ((s.teardownNow m i).contract i).drainAt = s.noc.clock ∧ (s.teardownNow m i).mem = s.mem ∧ (s.teardownNow m i).time = s.time)) ∧
  -- what a READMIT's answer does: placed anew, or refused
  (∀ (s : State) (m i : Nat), (s.cstate i ≠ 3 → s.readmitNow m i = s.boxRefuse m 5 i ⟨14, 0, 0⟩)
      ∧ (∀ r : Refuse, s.cstate i = 3 → s.admitEarly (s.stored i) (some i) = some r → s.readmitNow m i = s.boxRefuse m 5 i r)
      ∧ (∀ r : Refuse, s.cstate i = 3 → s.admitEarly (s.stored i) (some i) = none → s.admitOn s.epoch (s.stored i) none = .inl r → s.readmitNow m i = s.boxRefuse m 5 i r)
      ∧ (∀ p : Plan, s.cstate i = 3 → s.admitEarly (s.stored i) (some i) = none → s.admitOn s.epoch (s.stored i) none = .inr p → s.readmitNow m i
      = (((s.applyPlan i (s.stored i) p).boxPlan m p).boxDone m i).raise thymeEp 0x0305 0 i)) ∧
  -- a READMIT that is granted
  (∀ (s u : State) (m : Fin 8) (id : BitVec 12) (p : Plan), s.getR Reg.THY_REQ_STAT_STATE m ≠ 1 →
      s.thy.queue = [] →
      u = s.boxStart m 5 id.toNat →
      u.cstate id.toNat = 3 →
      u.admitEarly (u.stored id.toNat) (some id.toNat) = none →
      u.admitOn u.epoch (u.stored id.toNat) none = .inr p →
      exec (.thyReadmit m id true) s = .next ((((u.applyPlan id.toNat (u.stored id.toNat) p).boxPlan m p).boxDone m id.toNat).raise
      thymeEp 0x0305 0 id.toNat)) ∧
  -- THY_ABORT
  (∀ (s : State) (m : Fin 8), s.getR Reg.THY_REQ_STAT_STATE m = 1 →
      exec (.thyAbort m) s = .next (((s.setR Reg.THY_REQ_STAT_STATE m 3).irqEdge (16 + m)).modThy (fun y =>
      { y with queue := y.queue.filter (fun e => decide (e.1 ≠ m)) }))) ∧
  -- THY_ABORT in the cycle of the commit point is late
  (∀ (s : State) (m : Fin 8), s.getR Reg.THY_REQ_STAT_STATE m = 2 →
      s.getR Reg.THY_CMT m = s.cycle →
      exec (.thyAbort m) s = .next (s.setR Reg.THY_REQ_STAT_ABORT_LATE m 1)) ∧
  -- THY_ABORT of a mailbox that is neither BUSY nor DONE in this cycle, THY_TIMEOUT with no ADMIT or READMIT waiting, CONTRACT_DRAIN_END before its time: the state stays
  (∀ (s : State) (m : Fin 8) (id : BitVec 12), (s.getR Reg.THY_REQ_STAT_STATE m ≠ 1 → s.getR Reg.THY_REQ_STAT_STATE m ≠ 2 ∨ s.inCommitCycle Reg.THY_CMT m = false → exec (.thyAbort m) s = .next s)
      ∧ ((∀ e, s.thy.queue.find? (fun e => decide (e.1 = m.val)) = some e → e.2.1 ≠ 1 ∧ e.2.1 ≠ 5) → exec (.thyTimeout m) s = .next s)
      ∧ (s.cstate id.toNat ≠ 4 ∨ s.noc.clock - (s.contract id.toNat).drainAt < s.getR Reg.THY_CT_BOUND_TICKS id.toNat → exec (.contractDrainEnd id) s = .next s)) ∧
  -- THY_TIMEOUT
  (∀ (s : State) (m : Fin 8) (op id : Nat), s.thy.queue.find? (fun e => decide (e.1 = m.val)) = some (m.val, op, id) →
      op = 1 ∨ op = 5 →
      exec (.thyTimeout m) s = .next (((((s.boxEnd m 4).setR Reg.THY_REQ_STAT_REASON m 13).setR Reg.THY_REQ_RDETAIL_DETAIL m 0).setR Reg.THY_REQ_STAT_ID m id).raise thymeEp 0x0308 2 (id + m.val * 2 ^ 12))) ∧
  -- CONTRACT_DRAIN_END
  (∀ (s : State) (id : BitVec 12), s.cstate id.toNat = 4 →
      s.getR Reg.THY_CT_BOUND_TICKS id.toNat ≤ s.noc.clock - (s.contract id.toNat).drainAt →
      ∃ t, exec (.contractDrainEnd id) s = .next t ∧ t.cstate id.toNat = 0 ∧ Map.find t.thy.contracts id.toNat = none
      ∧ t.events = raiseIn s.events (evKey thymeEp 0x0306) s.time.toNat 0 (id.toNat % 2 ^ 128) ∧ t.mem = s.mem ∧ t.time = s.time ∧ t.noc = s.noc)

/-- INGRESS_ACCEPT of a packet without CLASS: it stands in the network at its source's router with the ingress's epoch and the CRC in the last data flit, its deadline 0, its VC 1 for kinds 5 to 7 and else 2, SRC_DEV the device's ID if XDEV is 1 and else 0; a packet whose data flits are as many as LEN says then passes the end-to-end check. Of a packet with CLASS 1: of a flow that is admitted at this source and destination and LIVE, with credit for its flits, as contract traffic, its deadline stamped and its credit taken; without credit or not LIVE as best-effort traffic at the contract's excess priority; of any other flow it does not enter, with event 0x0231 where the source is a NAP. ROUTE_UPDATE while the old bank is live joins the waiting updates; else the idle bank is written, the ingress epoch flips and OLD_LIVE becomes 1. ROUTE_UPDATE_ABORT takes the update it names out of those waiting. ROUTE_EPOCH_RELEASE, while OLD_LIVE is 1 and no packet of the old epoch is left: OLD_LIVE becomes 0, UPDATES counts, no contract holds old slots, and the first waiting update, if any, then commits; else the state stays. -/
def Obligations.IngressAndRouteUpdatesComplete : Prop :=
  -- INGRESS_ACCEPT, best effort
  (∀ (s : State) (p : Packet), p.cls = false →
      exec (.ingressAccept p) s = .next (s.inject { p with srcDev := if p.xdev then s.getR Reg.DEV_SYSID_ID 0 else 0, vc := if 5 ≤ p.kind ∧ p.kind ≤ 7 then 1 else 2, deadline := 0 })) ∧
  -- what putting a packet into the network leaves
  (∀ (s : State) (p : Packet), ∃ q, q = sealPacket { p with epoch := s.epoch } ∧ q.epoch = s.epoch ∧ q.dest = p.dest ∧ q.data.length = p.data.length
      ∧ (s.inject p).noc = { s.noc with net := s.noc.net ++ [⟨q, .router (epRtr p.src) 4, false, none, 0⟩] } ∧ Leaves [.noc] [] s (s.inject p)) ∧
  -- the CRC stands in bits [511:480] of the last data flit
  (∀ (p : Packet) (l : List Flit) (f : Flit), p.data = l ++ [f] →
      (sealPacket p).data = l ++ [{ f with bits := f.bits % 2 ^ 480 + packetCrc p * 2 ^ 480 }]) ∧
  -- a packet out of the ingress passes the end-to-end check
  (∀ (p : Packet), p.data.length = p.len →
      p.len ≠ 0 →
      packetIntact (sealPacket p) = true) ∧
  -- INGRESS_ACCEPT, contract traffic
  (∀ (s : State) (p q : Packet), p.cls = true →
      (q = { p with srcDev := if p.xdev then s.getR Reg.DEV_SYSID_ID 0 else 0 }) →
      s.admittedFlow q = true →
      s.getR Reg.THY_CT_EP_DST p.flow = p.dest →
      exec (.ingressAccept p) s = .next (if s.cstate p.flow = 1 ∧ (p.len + 1) * s.getR Reg.THY_CT_CFG_PERIOD p.flow * frameTicks ≤ s.creditNow p.flow
      then (s.putContract p.flow { s.contract p.flow with
      credit := s.creditNow p.flow - (p.len + 1) * s.getR Reg.THY_CT_CFG_PERIOD p.flow * frameTicks
      creditAt := s.noc.clock }).inject { q with vc := 0, deadline := s.stamp p.flow }
      else s.inject { q with cls := false, prio := s.getR Reg.THY_CT_CFG_EXCESS_PRIO p.flow, deadline := 0, vc := 2 })) ∧
  -- INGRESS_ACCEPT with CLASS 1 of a flow that is not this source's and destination's: it does not enter
  (∀ (s : State) (p q : Packet), p.cls = true →
      (q = { p with srcDev := if p.xdev then s.getR Reg.DEV_SYSID_ID 0 else 0 }) →
      s.admittedFlow q = false ∨ s.getR Reg.THY_CT_EP_DST p.flow ≠ p.dest →
      exec (.ingressAccept p) s = .next (match kindOf p.src with
      | .nap _ => s.raise p.src 0x0231 2 (p.flow + p.src * 2 ^ 16)
      | _ => s)) ∧
  -- ROUTE_UPDATE
  (∀ (s : State) (changes : List RouteChange), s.flag Reg.NOC_EPOCH_OLD_LIVE 0 = false →
      ∃ t, exec (.routeUpdate changes) s = .next t ∧ t.getR Reg.NOC_EPOCH_OLD_LIVE 0 = 1
      ∧ t.getR Reg.NOC_EPOCH_INGRESS 0 = Reg.NOC_EPOCH_INGRESS.norm (1 - s.epoch) ∧ t.noc.routes = writeBank s.noc.routes s.epoch changes ∧ t.time = s.time) ∧
  -- ROUTE_UPDATE while an old epoch lives waits
  (∀ (s : State) (changes : List RouteChange), (s.flag Reg.NOC_EPOCH_OLD_LIVE 0 = true → exec (.routeUpdate changes) s = .next (s.modNoc (fun n => { n with updates := n.updates ++ [changes] })))) ∧
  -- ROUTE_UPDATE_ABORT
  (∀ (s : State) (n : Nat), exec (.routeUpdateAbort n) s = .next (s.modNoc (fun c => { c with updates := c.updates.eraseIdx n }))) ∧
  -- ROUTE_EPOCH_RELEASE while the old bank is idle, or a packet of the old epoch is left: the state stays
  (∀ (s : State), s.flag Reg.NOC_EPOCH_OLD_LIVE 0 = false ∨ s.oldEpochLeft = true →
      exec .routeEpochRelease s = .next s) ∧
  -- ROUTE_EPOCH_RELEASE with updates waiting: the first of them commits in the state that the release leaves
  (∀ (s u : State) (c : List RouteChange) (rest : List (List RouteChange)), s.flag Reg.NOC_EPOCH_OLD_LIVE 0 = true →
      s.oldEpochLeft = false →
      s.noc.updates = c :: rest →
      exec .routeEpochRelease (s.modNoc (fun n => { n with updates := [] })) = .next u →
      exec .routeEpochRelease s = .next ((u.modNoc (fun n => { n with updates := rest })).routeUpdate c)) ∧
  -- ROUTE_EPOCH_RELEASE
  (∀ (s : State), s.flag Reg.NOC_EPOCH_OLD_LIVE 0 = true →
      s.oldEpochLeft = false →
      s.noc.updates = [] →
      ∃ t, exec .routeEpochRelease s = .next t ∧ t.getR Reg.NOC_EPOCH_OLD_LIVE 0 = 0
      ∧ t.getR Reg.NOC_EPOCH_UPDATES 0 = Reg.NOC_EPOCH_UPDATES.norm (s.getR Reg.NOC_EPOCH_UPDATES 0 + 1) ∧ (∀ e ∈ t.thy.contracts, e.2.old = [])
      ∧ Leaves [.events, .thy] [Reg.NOC_EPOCH_OLD_LIVE.key 0, Reg.NOC_EPOCH_UPDATES.key 0] s t)

/-- Each of the start, edge and strobe commands first places the buffered vectors whose events can have come (placeBuffered, R272). TIO_VECTOR_PACKET takes the oldest packet that waits for the bank: a kind other than 0 is rejected per R208; one that fails the checks of R277 is discarded with event 0x0503; one that comes after a stop has taken effect is discarded; one that the buffer of 2,048 cannot hold counts VDROP with event 0x0502; else its vectors are the buffer's last, and a bank in IDLE or STOPPED is ARMED. With no packet the state stays. TIO_VECTOR_START of a first buffered vector whose start is reached, in an ARMED or RUNNING bank: its run is the last, the vectors after it get their starts, VNUM shows it and the bank is RUNNING; of a vector that no step of time has jumped, RANGE checks its pins unless it is late; else nothing starts. TIO_EDGE_EVENT of a pin's first event whose time is reached, in a bank not in FAULT: all the pin's events of that tick leave and their joint driver and level act at that time, or, where that is an edge closer than MINW to the last one, MINW after it, with SQUEEZE counted and event 0x0504; else nothing. TIO_STROBE gives the first run with a strobe of the pin what the comparators say, once its time is reached and while the counter is valid; a compare state that is not met is a fail. TIO_VECTOR_END of the first run that has not ended, once its end is reached: the run has ended, and before a gap, after a last vector and at a stop the pins rest, the bank being IDLE (ARMED with vectors waiting) or STOPPED; while events placed before the end have not acted, it waits. -/
def Obligations.TimedVectorCommandsComplete : Prop :=
  -- TIO_VECTOR_PACKET rejected
  (∀ (s : State) (bank : Fin 20) (p : Packet) (rest : List Packet), s.inbox (tioEp bank) = p :: rest →
      p.kind = 0 →
      s.vectorOk bank p = false →
      exec (.tioVectorPacket bank) s = .next ((s.putInbox (tioEp bank) rest).raise (tioEp bank) 0x0503 2 (tioDetail bank 0 (p.user / 2 ^ 72 % 2 ^ 48)))) ∧
  -- TIO_VECTOR_PACKET with nothing waiting, of another kind, or after a stop
  (∀ (s : State) (bank : Fin 20) (p : Packet) (rest : List Packet), (s.inbox (tioEp bank) = [] → exec (.tioVectorPacket bank) s = .next s)
      ∧ (s.inbox (tioEp bank) = p :: rest → p.kind ≠ 0 → exec (.tioVectorPacket bank) s = .next ((s.putInbox (tioEp bank) rest).kindReject (tioEp bank) p))
      ∧ (s.inbox (tioEp bank) = p :: rest → p.kind = 0 → s.vectorOk bank p = true → (s.bank bank).stopping = true →
      exec (.tioVectorPacket bank) s = .next (s.putInbox (tioEp bank) rest))) ∧
  -- TIO_VECTOR_PACKET that does not fit
  (∀ (s : State) (bank : Fin 20) (p : Packet) (rest : List Packet), s.inbox (tioEp bank) = p :: rest →
      p.kind = 0 →
      s.vectorOk bank p = true →
      (s.bank bank).stopping = false →
      2048 < (s.bank bank).buf.length + (packetVecs p).length →
      exec (.tioVectorPacket bank) s = .next (((s.putInbox (tioEp bank) rest).satAdd Reg.TIO_BANK_VDROP_COUNT bank 1).raise (tioEp bank) 0x0502 3
      (tioDetail bank 0 (p.user / 2 ^ 72 % 2 ^ 48)))) ∧
  -- TIO_VECTOR_PACKET taken
  (∀ (s : State) (bank : Fin 20) (p : Packet) (rest : List Packet), s.inbox (tioEp bank) = p :: rest →
      p.kind = 0 →
      s.vectorOk bank p = true →
      (s.bank bank).stopping = false →
      (s.bank bank).buf.length + (packetVecs p).length ≤ 2048 →
      ∃ t, exec (.tioVectorPacket bank) s = .next t ∧ t.rstate bank = (if s.rstate bank = 0 ∨ s.rstate bank = 3 then 1 else s.rstate bank) ∧ t.inbox (tioEp bank) = rest
      ∧ (t.bank bank).buf.length = (s.bank bank).buf.length + (packetVecs p).length
      ∧ (t.bank bank).buf.take (s.bank bank).buf.length = (s.bank bank).buf ∧ t.mem = s.mem ∧ t.time = s.time) ∧
  -- TIO_VECTOR_START of a vector that no step of time has jumped
  (∀ (u s : State) (bank : Fin 20) (v : TioVec) (rest : List TioVec) (run : TioRun) (ahead : List TioRun), s = u.placeBuffered bank →
      (s.bank bank).buf = v :: rest →
      (s.bank bank).ahead = run :: ahead →
      s.rstate bank = 1 ∨ s.rstate bank = 2 →
      s.reached v.start = true →
      v.late = true ∨ s.jumped v.start = false →
      exec (.tioVectorStart bank) u = .next (((((if v.late then s else (s.timedPins bank).foldl (fun u p => u.rangeCheck bank p v (s.periodAt bank v.ts v.start)) s).modBank bank
      (fun k => { k with buf := (s.chain bank rest run.endT).1, ahead := ahead, runs := k.runs ++ [{ run with uncal := run.uncal || s.uncal bank }], ref := k.ref.map (fun r => (r.1, (s.chain bank rest run.endT).2)) })).setR
      Reg.TIO_BANK_VNUM_VNUM bank v.num).tioSt bank 2))) ∧
  -- TIO_VECTOR_START of a vector that a step of time has jumped: late, what is placed of it taken back
  (∀ (u s : State) (bank : Fin 20) (v : TioVec) (rest : List TioVec) (run : TioRun) (ahead : List TioRun), s = u.placeBuffered bank →
      (s.bank bank).buf = v :: rest →
      (s.bank bank).ahead = run :: ahead →
      s.rstate bank = 1 ∨ s.rstate bank = 2 →
      s.reached v.start = true →
      v.late = false ∧ s.jumped v.start = true →
      ∃ t, exec (.tioVectorStart bank) u = .next t ∧ t.rstate bank = 2
      ∧ (t.bank bank).runs = (s.bank bank).runs ++ [s.placedRun bank { v with late := true }] ∧ (t.bank bank).evs = (s.bank bank).evs.filter (fun e => !decide (e.num = v.num))
      ∧ t.events = (s.countLate bank v.num).events ∧ t.mem = s.mem ∧ t.time = s.time) ∧
  -- TIO_VECTOR_START, TIO_EDGE_EVENT with nothing buffered, placed or reached, or in FAULT: only the placing happens
  (∀ (u s : State) (bank : Fin 20) (pin : Fin 32), s = u.placeBuffered bank →
      ((s.bank bank).buf = [] ∨ (s.bank bank).ahead = [] ∨ (s.rstate bank ≠ 1 ∧ s.rstate bank ≠ 2) ∨ (∀ v, (s.bank bank).buf.head? = some v → s.reached v.start = false) →
      exec (.tioVectorStart bank) u = .next s)
      ∧ ((∀ e, firstEv pin (s.bank bank).evs = some e → s.reached e.time = false) ∨ s.rstate bank = 4 → exec (.tioEdgeEvent bank pin) u = .next s)) ∧
  -- TIO_EDGE_EVENT
  (∀ (u s : State) (bank : Fin 20) (pin : Fin 32) (e : TioEv) (same : List TioEv) (a : Bool × Bool) (edge : Bool), s = u.placeBuffered bank →
      firstEv pin (s.bank bank).evs = some e →
      s.reached e.time = true →
      s.rstate bank ≠ 4 →
      same = (s.bank bank).evs.filter (fun f => decide (f.pin = pin.val) && decide (f.time = e.time)) →
      a = afterEvs same (s.flag Reg.TIO_ON (bank.val * 32 + pin)) (s.flag Reg.TIO_LVL (bank.val * 32 + pin)) →
      edge = ((s.flag Reg.TIO_ON (bank.val * 32 + pin) != a.1) || (a.1 && (s.flag Reg.TIO_LVL (bank.val * 32 + pin) != a.2))) →
      edge = false ∨ s.flag Reg.TIO_EDGED (bank.val * 32 + pin) = false ∨ before e.time (plusTicks (s.getR Reg.TIO_EDGE_T (bank.val * 32 + pin)) (minw (s.getR Reg.TIO_BANK_CFG_IOSTD bank))) = false →
      exec (.tioEdgeEvent bank pin) u = .next ((s.modBank bank (fun k => { k with evs := k.evs.filter (fun f => !(decide (f.pin = pin.val) && decide (f.time = e.time))) })).drivePin bank pin a.1 a.2 e.time)) ∧
  -- TIO_EDGE_EVENT of an edge closer than MINW to the last one
  (∀ (u s : State) (bank : Fin 20) (pin : Fin 32) (e : TioEv) (same : List TioEv) (a : Bool × Bool) (floor : Nat), s = u.placeBuffered bank →
      firstEv pin (s.bank bank).evs = some e →
      s.reached e.time = true →
      s.rstate bank ≠ 4 →
      same = (s.bank bank).evs.filter (fun f => decide (f.pin = pin.val) && decide (f.time = e.time)) →
      a = afterEvs same (s.flag Reg.TIO_ON (bank.val * 32 + pin)) (s.flag Reg.TIO_LVL (bank.val * 32 + pin)) →
      s.flag Reg.TIO_ON (bank.val * 32 + pin) ≠ a.1 ∨ (a.1 = true ∧ s.flag Reg.TIO_LVL (bank.val * 32 + pin) ≠ a.2) →
      s.flag Reg.TIO_EDGED (bank.val * 32 + pin) = true →
      floor = plusTicks (s.getR Reg.TIO_EDGE_T (bank.val * 32 + pin)) (minw (s.getR Reg.TIO_BANK_CFG_IOSTD bank)) →
      before e.time floor = true →
      ∃ t, exec (.tioEdgeEvent bank pin) u = .next t ∧ t.getR Reg.TIO_EDGE_T (bank.val * 32 + pin) = Reg.TIO_EDGE_T.norm floor
      ∧ t.getR Reg.TIO_ON (bank.val * 32 + pin) = bit a.1 ∧ t.getR Reg.TIO_LVL (bank.val * 32 + pin) = bit a.2
      ∧ t.getR Reg.TIO_PIN_ERR_SQUEEZE (bank.val * 32 + pin) = (s.satAdd Reg.TIO_PIN_ERR_SQUEEZE (bank.val * 32 + pin) 1).getR Reg.TIO_PIN_ERR_SQUEEZE (bank.val * 32 + pin)
      ∧ t.events = raiseIn s.events (evKey (tioEp bank) 0x0504) s.time.toNat 2 (tioDetail bank pin e.num % 2 ^ 128) ∧ t.mem = s.mem ∧ t.time = s.time) ∧
  -- TIO_STROBE
  (∀ (u s : State) (bank : Fin 20) (pin : Fin 32) (high low : Bool), s = u.placeBuffered bank →
      (s.bank bank).ahead = [] →
      exec (.tioStrobe bank pin high low) u = .next (s.modBank bank (fun k => { k with runs := strobeIn pin high low (fun t => s.reached t && !s.flag Reg.T_UNLOCK 0) k.runs }))) ∧
  -- TIO_STROBE with vectors placed ahead of their start: they come after those that run
  (∀ (u s : State) (bank : Fin 20) (pin : Fin 32) (high low : Bool) (l : List TioRun), s = u.placeBuffered bank →
      l = strobeIn pin high low (fun t => s.reached t && !s.flag Reg.T_UNLOCK 0) ((s.bank bank).runs ++ (s.bank bank).ahead) →
      exec (.tioStrobe bank pin high low) u = .next (s.modBank bank (fun k => { k with runs := l.take (s.bank bank).runs.length, ahead := l.drop (s.bank bank).runs.length }))) ∧
  -- a compare state that a strobe does not meet is a fail of the pin
  (∀ (x : TioStrobe) (high low : Bool) (r : TioRun), x.window = false →
      r.vec.compared x.pin = true →
      (r.vec.code x.pin = 3 ∧ high = false) ∨ (r.vec.code x.pin = 2 ∧ low = false) →
      (strobeRun x high low r).fails = setBit r.fails x.pin ∧ (strobeRun x high low r).strobes = r.strobes.erase x ∧ (strobeRun x high low r).vec = r.vec) ∧
  -- TIO_VECTOR_END of a last vector
  (∀ (s : State) (bank : Fin 20) (r : TioRun), (s.bank bank).runs.find? (fun r => !r.ended) = some r →
      s.reached r.endT = true →
      s.rstate bank = 2 →
      (s.bank bank).evs.any (fun e => before e.time r.endT && !(s.bank bank).ahead.any (fun x => decide (x.vec.num = e.num))) = false →
      (s.bank bank).stopping = false ∧ (s.bank bank).buf = [] ∧ r.vec.last = true →
      ∃ t, exec (.tioVectorEnd bank) s = .next t ∧ t.rstate bank = 0 ∧ (t.bank bank).runs = endFirst (s.bank bank).runs ∧ (t.bank bank).ref = none
      ∧ t.mem = s.mem ∧ t.time = s.time ∧ t.events = s.events) ∧
  -- TIO_VECTOR_END in every state
  (∀ (s t : State) (bank : Fin 20) (r : TioRun), t = s.modBank bank (fun k => { k with runs := endFirst k.runs }) →
      ((s.bank bank).runs.find? (fun r => !r.ended) = none → exec (.tioVectorEnd bank) s = .next s)
      ∧ ((s.bank bank).runs.find? (fun r => !r.ended) = some r → exec (.tioVectorEnd bank) s = .next (if s.reached r.endT = false then s
      else if s.rstate bank ≠ 2 ∨ s.restsAfter bank r = false then t
      else if (s.bank bank).evs.any (fun e => before e.time r.endT && !(s.bank bank).ahead.any (fun x => decide (x.vec.num = e.num))) then s
      else if (s.bank bank).stopping = true ∧ (s.bank bank).buf = [] then t.runStopped bank
      else if r.vec.last = false then t.restPins bank r.endT
      else if (s.bank bank).buf = [] then ((t.restPins bank r.endT).tioSt bank 0).modBank bank (fun k => { k with ref := none })
      else (t.restPins bank r.endT).tioSt bank 1))) ∧
  -- what changing a bank's parts leaves
  (∀ (s : State) (b : Nat) (f : TioBank → TioBank), (s.modBank b f).bank b = f (s.bank b) ∧ (∀ k, k ≠ b → (s.modBank b f).bank k = s.bank k)
      ∧ Leaves [.tio] [Reg.TIO_BANK_STAT_VBUF.key b, Reg.TIO_BANK_STAT_RBUF.key b] s (s.modBank b f))

/-- TIO_RESULT_COMPLETE of an oldest run that has ended, its strobes and events past: with results disabled it is dropped; with 256 records waiting it is dropped with event 0x0508; else its record is the last, and where RPKT records then wait or the vector was a last one the bank sends; else the state stays. TIO_RESULT_FLUSH sends once the oldest record has waited FLUSH x 16 ncyc (at least 16); else the state stays. TIO_STOP with STOP_AT 0 stops at once, else the stop waits; TIO_STOP_TAKE_EFFECT of a stop that is due stops; else the state stays. A stop of an ARMED or RUNNING bank keeps the buffered vectors that start before it. TIO_SRST empties the bank; it is IDLE, or stays in FAULT while its supply is missing or the time counter is invalid. TIO_SUPPLY_MISMATCH in a mode that needs a supply clears SUPPLY_OK, turns every driver off and faults the bank with event 0x0507; in another mode the state stays. VIO_TB_SUPPLY_IN_RANGE sets SUPPLY_OK. TIO_CALIBRATE marks the pin as seen, CAL_VALID once all 32 are; in range it clears the pin's fault state unless CALFLT is 1; out of range it sets CALFLT, with event 0x0506 if it was 0. TIO_DELAY_APPLY, at a pin whose own registers count, takes the last of the delay writes that are 4,000 ticks old, if there is one. That an edge with no such write changes nothing, and which pin's registers count in a pair, follow R260 and R266. -/
def Obligations.TimedResultCommandsComplete : Prop :=
  -- TIO_RESULT_COMPLETE, results disabled
  (∀ (s : State) (bank : Fin 20) (r : TioRun) (rest : List TioRun), (s.bank bank).runs = r :: rest →
      r.ended = true ∧ r.strobes = [] →
      (s.bank bank).evs.any (fun e => decide (e.num = r.vec.num)) = false →
      s.flag Reg.TIO_BANK_RSLT_EN bank = false →
      exec (.tioResultComplete bank) s = .next (s.modBank bank (fun k => { k with runs := rest }))) ∧
  -- TIO_RESULT_COMPLETE, a record kept
  (∀ (s : State) (bank : Fin 20) (r : TioRun) (rest : List TioRun), (s.bank bank).runs = r :: rest →
      r.ended = true ∧ r.strobes = [] ∧ r.vec.last = false →
      (s.bank bank).evs.any (fun e => decide (e.num = r.vec.num)) = false →
      s.flag Reg.TIO_BANK_RSLT_EN bank = true →
      (s.bank bank).res.length < 256 ∧ (s.bank bank).res.length + 1 < s.rpkt bank →
      ∃ t, exec (.tioResultComplete bank) s = .next t
      ∧ (t.bank bank).res = (s.bank bank).res ++ [⟨s.resultWord bank r, r.vec.num, s.resultFlags bank r, r.vec.start, s.clockNow, r.vec.head⟩]
      ∧ (t.bank bank).runs = rest ∧ Leaves [.tio] [Reg.TIO_BANK_STAT_VBUF.key bank, Reg.TIO_BANK_STAT_RBUF.key bank] s t) ∧
  -- TIO_RESULT_COMPLETE, the record that fills a packet or is a last vector's: the bank sends
  (∀ (s : State) (bank : Fin 20) (r : TioRun) (rest : List TioRun), (s.bank bank).runs = r :: rest →
      r.ended = true ∧ r.strobes = [] →
      (s.bank bank).evs.any (fun e => decide (e.num = r.vec.num)) = false →
      s.flag Reg.TIO_BANK_RSLT_EN bank = true →
      (s.bank bank).res.length < 256 →
      s.rpkt bank ≤ (s.bank bank).res.length + 1 ∨ r.vec.last = true →
      exec (.tioResultComplete bank) s = .next ((((s.modBank bank (fun k => { k with runs := rest })).modBank bank (fun k => { k with
      res := k.res ++ [⟨s.resultWord bank r, r.vec.num, s.resultFlags bank r, r.vec.start, s.clockNow, r.vec.head⟩] })).sendResults bank))) ∧
  -- TIO_RESULT_COMPLETE, 256 records waiting: event 0x0508
  (∀ (s : State) (bank : Fin 20) (r : TioRun) (rest : List TioRun), (s.bank bank).runs = r :: rest →
      r.ended = true ∧ r.strobes = [] →
      (s.bank bank).evs.any (fun e => decide (e.num = r.vec.num)) = false →
      s.flag Reg.TIO_BANK_RSLT_EN bank = true →
      256 ≤ (s.bank bank).res.length →
      exec (.tioResultComplete bank) s = .next ((s.modBank bank (fun k => { k with runs := rest })).raise (tioEp bank) 0x0508 3 (tioDetail bank 0 r.vec.num))) ∧
  -- TIO_RESULT_COMPLETE with no run, or the oldest not past; TIO_RESULT_FLUSH with no record, or before its time; TIO_STOP_TAKE_EFFECT with no stop due: the state stays
  (∀ (s : State) (bank : Fin 20), ((∀ r, (s.bank bank).runs.head? = some r → r.ended = false ∨ r.strobes ≠ [] ∨ (s.bank bank).evs.any (fun e => decide (e.num = r.vec.num)) = true) →
      exec (.tioResultComplete bank) s = .next s)
      ∧ ((∀ r, (s.bank bank).res.head? = some r → s.elapsed r.done < max 1 (s.getR Reg.TIO_BANK_RSLT_FLUSH bank) * 16 * 512) → exec (.tioResultFlush bank) s = .next s)
      ∧ ((∀ a, (s.bank bank).stopAt = some a → s.due a = false) → exec (.tioStopTakeEffect bank) s = .next s)) ∧
  -- TIO_RESULT_FLUSH
  (∀ (s : State) (bank : Fin 20) (r : TioRec) (rest : List TioRec), (s.bank bank).res = r :: rest →
      max 1 (s.getR Reg.TIO_BANK_RSLT_FLUSH bank) * 16 * 512 ≤ s.elapsed r.done →
      exec (.tioResultFlush bank) s = .next (s.sendResults bank)) ∧
  -- TIO_STOP
  (∀ (s : State) (bank : Fin 20), exec (.tioStop bank) s = .next (if s.getR Reg.TIO_BANK_STOP_AT_AT bank = 0 then s.stopEffect bank none
      else s.modBank bank (fun k => { k with stopAt := some (s.getR Reg.TIO_BANK_STOP_AT_AT bank) }))) ∧
  -- TIO_STOP_TAKE_EFFECT
  (∀ (s : State) (bank : Fin 20) (a : Nat), (s.bank bank).stopAt = some a →
      s.due a = true →
      exec (.tioStopTakeEffect bank) s = .next (s.stopEffect bank (some a))) ∧
  -- what a stop leaves
  (∀ (s : State) (b : Nat) (a : Option Nat), s.rstate b = 1 ∨ s.rstate b = 2 →
      ((s.stopEffect b a).bank b).buf = (s.bank b).buf.filter (fun v => before v.start (a.getD s.time.toNat)) ∧ ((s.stopEffect b a).bank b).stopAt = none) ∧
  -- TIO_SRST
  (∀ (s : State) (bank : Fin 20), ∃ t, exec (.tioSrst bank) s = .next t ∧ t.rstate bank = (if s.rstate bank = 4 ∧ (s.supplyBad bank = true ∨ s.flag Reg.T_UNLOCK 0 = true) then 4 else 0)
      ∧ t.bank bank = tio0 ∧ t.mem = s.mem ∧ t.time = s.time ∧ t.events = s.events) ∧
  -- TIO_SUPPLY_MISMATCH
  (∀ (s : State) (bank : Fin 20), 1 ≤ s.getR Reg.TIO_BANK_CFG_IOSTD bank ∧ s.getR Reg.TIO_BANK_CFG_IOSTD bank ≤ 6 →
      ∃ t, exec (.tioSupplyMismatch bank) s = .next t ∧ t.rstate bank = 4 ∧ t.getR Reg.TIO_BANK_STAT_SUPPLY_OK bank = 0
      ∧ (∀ p < 32, t.getR Reg.TIO_ON (bank.val * 32 + p) = 0)
      ∧ t.events = raiseIn s.events (evKey (tioEp bank) 0x0507) s.time.toNat 4 (tioDetail bank % 2 ^ 128) ∧ t.mem = s.mem ∧ t.time = s.time) ∧
  -- TIO_SUPPLY_MISMATCH in a mode that needs no supply: the state stays
  (∀ (s : State) (bank : Fin 20), s.getR Reg.TIO_BANK_CFG_IOSTD bank = 0 ∨ 6 < s.getR Reg.TIO_BANK_CFG_IOSTD bank →
      exec (.tioSupplyMismatch bank) s = .next s) ∧
  -- VIO_TB_SUPPLY_IN_RANGE
  (∀ (s : State) (bank : Fin 20), exec (.vioTbSupplyInRange bank) s = .next (s.setR Reg.TIO_BANK_STAT_SUPPLY_OK bank 1)) ∧
  -- TIO_CALIBRATE
  (∀ (s u : State) (bank : Fin 20) (pin : Fin 32), u = (if (List.range 32).all (fun p => (s.setR Reg.TIO_CALSEEN (bank.val * 32 + pin) 1).flag Reg.TIO_CALSEEN (bank.val * 32 + p))
      then (s.setR Reg.TIO_CALSEEN (bank.val * 32 + pin) 1).setR Reg.TIO_BANK_STAT_CAL_VALID bank 1 else s.setR Reg.TIO_CALSEEN (bank.val * 32 + pin) 1) →
      exec (.tioCalibrate bank pin true) s = .next (if s.flag Reg.TIO_PIN_ERR_CALFLT (bank.val * 32 + pin) then u else u.setR Reg.TIO_CALBAD (bank.val * 32 + pin) 0)
      ∧ exec (.tioCalibrate bank pin false) s = .next (if s.flag Reg.TIO_PIN_ERR_CALFLT (bank.val * 32 + pin)
      then (u.setR Reg.TIO_CALBAD (bank.val * 32 + pin) 1).setR Reg.TIO_PIN_ERR_CALFLT (bank.val * 32 + pin) 1
      else ((u.setR Reg.TIO_CALBAD (bank.val * 32 + pin) 1).setR Reg.TIO_PIN_ERR_CALFLT (bank.val * 32 + pin) 1).raise (tioEp bank) 0x0506 4 (tioDetail bank pin))) ∧
  -- TIO_DELAY_APPLY of a pin whose own registers count
  (∀ (s : State) (bank : Fin 20) (pin : Fin 32), s.cfgPin (bank.val * 32 + pin) = bank.val * 32 + pin →
      exec (.tioDelayApply bank pin) s = .next (s.applyDelay (bank.val * 32 + pin))
      ∧ (s.dlyDue (bank.val * 32 + pin) = [] → s.applyDelay (bank.val * 32 + pin) = s)
      ∧ (∀ at_ o i, (s.dlyDue (bank.val * 32 + pin)).getLast? = some (bank.val * 32 + pin.val, at_, o, i) →
      (s.applyDelay (bank.val * 32 + pin)).getR Reg.TIO_ODLY_ACT (bank.val * 32 + pin) = Reg.TIO_ODLY_ACT.norm o
      ∧ (s.applyDelay (bank.val * 32 + pin)).getR Reg.TIO_IDLY_ACT (bank.val * 32 + pin) = Reg.TIO_IDLY_ACT.norm i)) ∧
  -- TIO_DELAY_APPLY of an N pin of a pair: the state stays
  (∀ (s : State) (bank : Fin 20) (pin : Fin 32), s.cfgPin (bank.val * 32 + pin) ≠ bank.val * 32 + pin →
      exec (.tioDelayApply bank pin) s = .next s)

/-- A register access first acts on a test of the lane (touchLane, R697). LNE_CFG_WRITE of a lane that is off and whose link, if any, is DISABLED: MODE and RATE are written; a setting within R295's table puts RATE_NOW to RATE in the raw modes, one outside it sets CFG_REJ; of any other lane only CFG_REJ is set. LANE_REF_LOST of a lane group with a good reference: REF_OK of both quads is 0, event 0x0403 is raised and the CDR of its eight lanes is lost; with none the state stays. LANE_CDR_LOST of a lane with CDR_LOCK: event 0x0401, CDR_LOCK 0, the lane's link in UP retrains with cause 6, and SIGDET is a free value; else the state stays. LANE_CDR_LOCK: both quads' REF_OK are 1, and CDR_LOCK and SIGDET too unless the lane is off. LANE_SLIP of more than 6 entries: event 0x0402, and a link of the lane retrains with cause 5; else the state stays. RAW_WORD_RECEIVE of a raw lane, loopback off, in mode 2: what was written goes out as its word periods pass, then the line's 64 bits, inverted under RXPOL, enter the buffer of 16, or with 16 held are discarded with OVF and event 0x0404; in modes 3 and 4 they are decoded first. RAW_WORD_TRANSMIT of a raw lane: what was written goes out, and with fewer than 16 words left the word joins them. RAW_PCS_LOCK of modes 3 and 4 shows the lock. Of a lane in another mode these three change nothing. The rate of word periods and the idle patterns are the model's (notes/assumptions/26, notes/assumptions/105). -/
def Obligations.LaneCommandsComplete : Prop :=
  -- LNE_CFG_WRITE taken
  (∀ (s : State) (lane : Fin 160) (mode : BitVec 3) (rate : BitVec 4), (s.touchLane lane).laneOff lane = true →
      lane.val < 16 ∨ (s.touchLane lane).lstate (lane - 16) = 0 →
      laneLegal lane mode.toNat rate.toNat = true →
      exec (.lneCfgWrite lane mode rate) s = .next (if 2 ≤ mode.toNat ∧ mode.toNat ≤ 4
      then (((s.touchLane lane).setR Reg.LNE_CFG_MODE lane mode.toNat).setR Reg.LNE_CFG_RATE lane rate.toNat).setR Reg.LNE_STAT_RATE_NOW lane rate.toNat
      else ((s.touchLane lane).setR Reg.LNE_CFG_MODE lane mode.toNat).setR Reg.LNE_CFG_RATE lane rate.toNat)) ∧
  -- LNE_CFG_WRITE outside the table
  (∀ (s : State) (lane : Fin 160) (mode : BitVec 3) (rate : BitVec 4), (s.touchLane lane).laneOff lane = true →
      lane.val < 16 ∨ (s.touchLane lane).lstate (lane - 16) = 0 →
      laneLegal lane mode.toNat rate.toNat = false →
      exec (.lneCfgWrite lane mode rate) s = .next
      ((((s.touchLane lane).setR Reg.LNE_CFG_MODE lane mode.toNat).setR Reg.LNE_CFG_RATE lane rate.toNat).setR Reg.LNE_CFG_CFG_REJ lane 1)) ∧
  -- LNE_CFG_WRITE of a lane in use
  (∀ (s : State) (lane : Fin 160) (mode : BitVec 3) (rate : BitVec 4), (s.touchLane lane).laneOff lane = false ∨ (16 ≤ lane.val ∧ (s.touchLane lane).lstate (lane - 16) ≠ 0) →
      exec (.lneCfgWrite lane mode rate) s = .next ((s.touchLane lane).setR Reg.LNE_CFG_CFG_REJ lane 1)) ∧
  -- LANE_REF_LOST
  (∀ (s : State) (g : Fin 20), ((s.flag Reg.LNE_QREF_REF_OK (2 * g) = true ∨ s.flag Reg.LNE_QREF_REF_OK (2 * g + 1) = true) →
      exec (.laneRefLost g) s = .next ((List.range 8).foldl (fun u i => u.cdrLost (8 * g + i))
      (((s.setR Reg.LNE_QREF_REF_OK (2 * g) 0).setR Reg.LNE_QREF_REF_OK (2 * g + 1) 0).raise (laneSrc (8 * g)) 0x0403 4 (laneDetail 0 0 0 0 0 g))))
      ∧ (s.flag Reg.LNE_QREF_REF_OK (2 * g) = false → s.flag Reg.LNE_QREF_REF_OK (2 * g + 1) = false → exec (.laneRefLost g) s = .next s)) ∧
  -- LANE_CDR_LOST and LANE_CDR_LOCK
  (∀ (s t : State) (lane : Fin 160), t = (s.setR Reg.LNE_QREF_REF_OK (lane / 8 * 2) 1).setR Reg.LNE_QREF_REF_OK (lane / 8 * 2 + 1) 1 →
      (s.flag Reg.LNE_STAT_CDR_LOCK lane = true → exec (.laneCdrLost lane) s = .next ((((s.raise (laneSrc lane) 0x0401 2 (laneDetail lane)).cdrLost lane).setR
      Reg.LNE_STAT_SIGDET lane ((Config.freeWord s.free).toNat % 2)).draw))
      ∧ (s.flag Reg.LNE_STAT_CDR_LOCK lane = false → exec (.laneCdrLost lane) s = .next s)
      ∧ exec (.laneCdrLock lane) s = .next (if t.laneOff lane then t else (t.setR Reg.LNE_STAT_CDR_LOCK lane 1).setR Reg.LNE_STAT_SIGDET lane 1)) ∧
  -- what the loss of a CDR leaves of a lane without a link in UP
  (∀ (s : State) (lane : Fin 160), lane.val < 16 ∨ s.lstate (lane - 16) ≠ 6 →
      s.cdrLost lane = s.setR Reg.LNE_STAT_CDR_LOCK lane 0) ∧
  -- LANE_SLIP
  (∀ (s : State) (lane : Fin 160) (departure : Fin 17), exec (.laneSlip lane departure) s = .next (if departure.val ≤ 6 then s
      else if lane.val < 16 then s.raise (laneSrc lane) 0x0402 2 (laneDetail lane 0 0 0 0 departure)
      else (s.raise (laneSrc lane) 0x0402 2 (laneDetail lane 0 0 0 0 departure)).dclRetrain (lane - 16) 5)) ∧
  -- RAW_WORD_RECEIVE without loopback
  (∀ (s : State) (lane : Fin 160) (line : BitVec 80) (realign : Bool), s.laneRaw lane = true →
      s.getR Reg.LNE_CFG_LOOP lane = 0 ∨ s.getR Reg.LNE_CFG_LOOP lane = 3 →
      exec (.rawWordReceive lane line realign) s = .next (if s.getR Reg.LNE_CFG_MODE lane = 3 then (s.rawSend lane).rawChars lane (s.polar Reg.LNE_CFG_RXPOL lane 80 line.toNat) realign
      else if s.getR Reg.LNE_CFG_MODE lane = 4 then (s.rawSend lane).rawBlock lane (s.polar Reg.LNE_CFG_RXPOL lane 66 line.toNat)
      else (s.rawSend lane).rawEnter lane (s.polar Reg.LNE_CFG_RXPOL lane (wordBits (s.getR Reg.LNE_CFG_MODE lane)) line.toNat))) ∧
  -- RAW_WORD_RECEIVE in near-end loopback: the lane receives what it sends
  (∀ (s : State) (lane : Fin 160) (line : BitVec 80) (realign : Bool), s.laneRaw lane = true →
      s.getR Reg.LNE_CFG_LOOP lane = 1 →
      s.getR Reg.LNE_CFG_MODE lane = 2 →
      exec (.rawWordReceive lane line realign) s = .next ((s.rawSend lane).rawEnter lane (s.polar Reg.LNE_CFG_RXPOL lane 64 ((s.rawSend lane).rawOf lane).line))) ∧
  -- RAW_WORD_RECEIVE in far-end loopback: the received data goes out again
  (∀ (s t : State) (lane : Fin 160) (line : BitVec 80) (realign : Bool), s.laneRaw lane = true →
      s.getR Reg.LNE_CFG_LOOP lane = 2 →
      s.getR Reg.LNE_CFG_MODE lane = 2 →
      (t = (s.rawSend lane).modRaw lane (fun k => { k with line := line.toNat % 2 ^ 64, symbols := if 11 ≤ s.getR Reg.LNE_CFG_RATE lane then pam4 32 (line.toNat % 2 ^ 64) else [] })) →
      exec (.rawWordReceive lane line realign) s = .next (t.rawEnter lane (s.polar Reg.LNE_CFG_RXPOL lane 64 line.toNat))) ∧
  -- the buffer of 16
  (∀ (s : State) (lane w : Nat), s.rawEnter lane w = (if 16 ≤ (s.rawOf lane).rx.length then (s.satAdd Reg.LNE_RAWERR_OVF lane 1).raise (laneSrc lane) 0x0404 2 (laneDetail lane)
      else s.modRaw lane (fun k => { k with rx := k.rx ++ [w] }))
      ∧ (∀ f, (s.modRaw lane f).rawOf lane = f (s.rawOf lane) ∧ Leaves [.lanes] [] s (s.modRaw lane f))) ∧
  -- RAW_WORD_TRANSMIT and RAW_PCS_LOCK, and the raw commands of a lane in another mode
  (∀ (s : State) (lane : Fin 160) (word : BitVec 72) (line : BitVec 80) (lock : Bool), (s.laneRaw lane = true → exec (.rawWordTransmit lane word) s = .next ((s.rawSend lane).rawWrite lane word.toNat))
      ∧ (s.laneRaw lane = false → exec (.rawWordTransmit lane word) s = .next s ∧ exec (.rawWordReceive lane line lock) s = .next s)
      ∧ (s.getR Reg.LNE_CFG_MODE lane = 3 ∨ s.getR Reg.LNE_CFG_MODE lane = 4 → exec (.rawPcsLock lane lock) s = .next (s.setR Reg.LNE_STAT_PCS_LOCK lane (bit lock)))
      ∧ (s.getR Reg.LNE_CFG_MODE lane ≠ 3 → s.getR Reg.LNE_CFG_MODE lane ≠ 4 → exec (.rawPcsLock lane lock) s = .next s)) ∧
  -- a word written while fewer than 16 wait
  (∀ (s : State) (lane w : Nat), s.rawWrite lane w = (if s.laneRaw lane = true ∧ (s.rawOf lane).tx.length < 16 then s.modRaw lane (fun k => { k with tx := k.tx ++ [w % 2 ^ 72] }) else s))

/-- DCL_ENABLE with EN 0: EN is 1 and the link in DETECT at rate 0 with its ALIGN read (0 as 16); with EN 1 the state stays. DCL_DISABLE with EN 1: EN is 0, the link DISABLED at rate 0, no message queued; with EN 0 the state stays. DCL_BLOCK_LOCK of a DCL lane whose link is neither DISABLED nor FAILED: the link has lock, and one in DETECT is in CAPX; else the state stays. DCL_CAP in CAPX: the peer's mask, device ID and kind are held; CAPs alike are counted; with three alike, and three sent with this slot's, the target is the highest rate that both ends offer, and the link goes to STEP, or to LATMEAS at the target; in another state it stays. In STEP, RATE_REQ and RATE_ACK of the step's rate are noted; else the state stays. DCL_RATE_SWITCH with both noted: link and lane at the step's rate, in EQTRAIN, without lock; else the state stays. DCL_EQ in EQTRAIN after relock: the taps move as asked within their range unless MANUAL holds them, and with both ends trained the next step follows; else the state stays. DCL_RELOCK_TIMEOUT and DCL_EQTRAIN_TIMEOUT in EQTRAIN, before and after relock: the rate is excluded, the link returns to the last rate that had lock, in LATMEAS, with event 0x0407 and a new target; else the state stays. DCL_STATUS holds the peer's bits. After each received control block this end's slot passes (slotPassed): in UP its block is R314's for the superframe. DCL_IDLE does that alone. That the slots of both ends pass together is the model's (notes/assumptions/95). -/
def Obligations.LinkBringUpCommandsComplete : Prop :=
  -- DCL_ENABLE
  (∀ (s : State) (l : Fin 144), s.flag Reg.DCL_CTL_EN l = false →
      ∃ t, exec (.dclEnable l) s = .next t ∧ t.flag Reg.DCL_CTL_EN l = true ∧ t.lstate l = 1 ∧ t.getR Reg.DCL_STAT_RATE_NOW l = 0
      ∧ (t.link l).align = (if s.getR Reg.DCL_CTL_ALIGN l = 0 then 16 else s.getR Reg.DCL_CTL_ALIGN l) ∧ (t.link l).excluded = (s.link l).excluded
      ∧ (∀ m, m ≠ l.val → t.link m = s.link m)
      ∧ Leaves [.lanes] [Reg.DCL_CTL_EN.key l, Reg.DCL_STAT_LSTATE.key l, Reg.DCL_STAT_RATE_NOW.key l, Reg.LNE_STAT_RATE_NOW.key (l.val + 16),
      Reg.PLIC_PEND.key (212 + l.val), Reg.PLIC_WAIT.key (212 + l.val)] s t) ∧
  -- DCL_DISABLE
  (∀ (s : State) (l : Fin 144), s.flag Reg.DCL_CTL_EN l = true →
      ∃ t, exec (.dclDisable l) s = .next t ∧ t.flag Reg.DCL_CTL_EN l = false ∧ t.lstate l = 0 ∧ t.getR Reg.DCL_STAT_RATE_NOW l = 0
      ∧ t.flag Reg.DCL_STAT_MAP_OK l = s.flag Reg.DCL_STAT_MAP_OK l ∧ (t.link l).excluded = [] ∧ (t.link l).attempts = 0 ∧ t.queuedOn l = [] ∧ t.mem = s.mem ∧ t.time = s.time) ∧
  -- DCL_ENABLE with EN 1, DCL_DISABLE with EN 0: the state stays
  (∀ (s : State) (l : Fin 144), (s.flag Reg.DCL_CTL_EN l = true → exec (.dclEnable l) s = .next s) ∧ (s.flag Reg.DCL_CTL_EN l = false → exec (.dclDisable l) s = .next s)) ∧
  -- DCL_BLOCK_LOCK
  (∀ (s : State) (l : Fin 144), s.lstate l ≠ 0 ∧ s.lstate l ≠ 7 →
      s.getR Reg.LNE_CFG_MODE (l.val + 16) = 1 →
      exec (.dclBlockLock l) s = .next (if s.lstate l = 1
      then (s.modLink l (fun k => { k with lock := true, relock := false, blocks := 0, errAt := [] })).dclSt l 2
      else s.modLink l (fun k => { k with lock := true, relock := false, blocks := 0, errAt := [] }))) ∧
  -- DCL_BLOCK_LOCK of a link that is DISABLED or FAILED, or on a lane that is no DCL lane: the state stays
  (∀ (s : State) (l : Fin 144), s.lstate l = 0 ∨ s.lstate l = 7 ∨ s.getR Reg.LNE_CFG_MODE (l.val + 16) ≠ 1 →
      exec (.dclBlockLock l) s = .next s) ∧
  -- the commands of a state that the link is not in: the state stays
  (∀ (s : State) (l : Fin 144) (maxRate rate req : BitVec 8) (mask : BitVec 16) (dev : BitVec 6) (a b : Bool), (s.lstate l ≠ 2 → exec (.dclCap l maxRate mask dev a) s = .next s)
      ∧ (s.lstate l ≠ 3 ∨ (s.link l).step ≠ rate.toNat → exec (.dclRateReq l rate) s = .next s ∧ exec (.dclRateAck l rate) s = .next s)
      ∧ (s.lstate l ≠ 3 ∨ (s.link l).ackRcvd = false ∨ (s.link l).ackSent = false → exec (.dclRateSwitch l) s = .next s)
      ∧ (s.lstate l ≠ 4 ∨ (s.link l).relock = true → exec (.dclEq l req a b) s = .next s ∧ exec (.dclEqtrainTimeout l) s = .next s)
      ∧ (s.lstate l ≠ 4 ∨ (s.link l).relock = false → exec (.dclRelockTimeout l) s = .next s)) ∧
  -- DCL_CAP
  (∀ (s : State) (l : Fin 144) (maxRate : BitVec 8) (mask : BitVec 16) (dev : BitVec 6) (lantum : Bool), s.lstate l = 2 →
      ∃ t, exec (.dclCap l maxRate mask dev lantum) s = .next t ∧ t.getR Reg.DCL_PEER_MASK l = mask.toNat % 2 ^ 13 ∧ t.getR Reg.DCL_PEER_DEVID l = dev.toNat
      ∧ t.flag Reg.DCL_PEER_LANTUM l = lantum
      ∧ (t.link l).lastCap = maxRate.toNat + mask.toNat * 2 ^ 8 + dev.toNat * 2 ^ 24 + bit lantum * 2 ^ 30 + 2 ^ 32
      ∧ (t.link l).capSame = (if (s.link l).lastCap = (t.link l).lastCap then (s.link l).capSame + 1 else 1)
      ∧ ((t.link l).capSame < 3 ∨ (s.link l).capSent < 2 → t.lstate l = 2 ∧ (t.link l).capSent = (s.link l).capSent + 1)
      ∧ (3 ≤ (t.link l).capSame → 2 ≤ (s.link l).capSent → (t.link l).target = t.rateTarget l (min 12 maxRate.toNat)
      ∧ t.lstate l = (if t.getR Reg.DCL_STAT_RATE_NOW l = (t.link l).target then 5 else 3))
      ∧ t.mem = s.mem ∧ t.time = s.time) ∧
  -- the target is a rate that both ends offer
  (∀ (s : State) (l bound : Nat), s.rateOffered l 0 = true →
      s.rateOffered l (s.rateTarget l bound) = true ∧ s.rateTarget l bound ≤ bound
      ∧ ∀ i, i ≤ bound → s.rateOffered l i = true → i ≤ s.rateTarget l bound) ∧
  -- DCL_RATE_REQ and DCL_RATE_ACK
  (∀ (s : State) (l : Fin 144) (rate : BitVec 8), s.lstate l = 3 →
      (s.link l).step = rate.toNat →
      exec (.dclRateReq l rate) s = .next ((s.modLink l (fun k => { k with ackSent := true })).slotPassed l)
      ∧ exec (.dclRateAck l rate) s = .next ((s.modLink l (fun k => { k with ackRcvd := true })).slotPassed l)) ∧
  -- DCL_RATE_SWITCH
  (∀ (s : State) (l : Fin 144), s.lstate l = 3 →
      (s.link l).ackRcvd = true ∧ (s.link l).ackSent = true →
      ∃ t, exec (.dclRateSwitch l) s = .next t ∧ t.getR Reg.DCL_STAT_RATE_NOW l = (s.link l).step % 16
      ∧ t.getR Reg.LNE_STAT_RATE_NOW (l.val + 16) = (s.link l).step % 16 ∧ t.lstate l = 4 ∧ (t.link l).relock = true ∧ (t.link l).lock = false
      ∧ (∀ m, m ≠ l.val → t.link m = s.link m)
      ∧ Leaves [.lanes] [Reg.DCL_STAT_LSTATE.key l, Reg.DCL_STAT_RATE_NOW.key l, Reg.LNE_STAT_RATE_NOW.key (l.val + 16)] s t) ∧
  -- DCL_EQ
  (∀ (s : State) (l : Fin 144) (req : BitVec 8) (peer own : Bool), s.lstate l = 4 →
      (s.link l).relock = false →
      exec (.dclEq l req peer own) s = .next (if peer = true ∧ own = true
      then (((s.eqMove l req.toNat).modLink l (fun k => { k with peerTrained := peer, ownTrained := own })).dclStep l).slotPassed l
      else ((s.eqMove l req.toNat).modLink l (fun k => { k with peerTrained := peer, ownTrained := own })).slotPassed l)) ∧
  -- a tap moves by one within its range and no other tap moves; software's hold keeps them all
  (∀ (s : State) (l : Nat) (a b c : Nat), (s.flag Reg.LNE_TXEQ_MANUAL (l + 16) = true → ∀ r, s.eqMove l r = s)
      ∧ (s.flag Reg.LNE_TXEQ_MANUAL (l + 16) = false → ∀ r, ((s.eqMove l r).link l).taps = some (moveTaps (s.taps l) r) ∧ Leaves [.lanes] [] s (s.eqMove l r))
      ∧ moveTaps (a, b, c) 1 = (min 15 (a + 1), b, c) ∧ moveTaps (a, b, c) 2 = (a - 1, b, c) ∧ moveTaps (a, b, c) 3 = (a, b, min 31 (c + 1))
      ∧ moveTaps (a, b, c) 4 = (a, b, c - 1) ∧ moveTaps (a, b, c) 5 = (a, min 63 (b + 1), c) ∧ moveTaps (a, b, c) 6 = (a, b - 1, c) ∧ moveTaps (a, b, c) 0 = (a, b, c)) ∧
  -- DCL_RELOCK_TIMEOUT and DCL_EQTRAIN_TIMEOUT
  (∀ (s : State) (l : Fin 144), s.lstate l = 4 →
      exec (.dclRelockTimeout l) s = .next (if (s.link l).relock then s.rateFallback l else s)
      ∧ exec (.dclEqtrainTimeout l) s = .next (if (s.link l).relock then s else s.rateFallback l)) ∧
  -- what a fallback does
  (∀ (s : State) (l : Fin 144), (s.rateFallback l).lstate l = 5 ∧ (s.rateFallback l).getR Reg.DCL_STAT_RATE_NOW l = (s.link l).lastRate % 16
      ∧ ((s.rateFallback l).link l).excluded = (s.link l).excluded ++ [s.getR Reg.DCL_STAT_RATE_NOW l]
      ∧ ((s.rateFallback l).link l).target = (s.rateFallback l).rateTarget l (s.link l).target
      ∧ (s.rateFallback l).events = raiseIn s.events (evKey (laneSrc (l.val + 16)) 0x0407) s.time.toNat 2
      (laneDetail (l.val + 16) 0 0 (s.link l).lastRate ((s.rateFallback l).link l).target % 2 ^ 128)
      ∧ (s.rateFallback l).mem = s.mem ∧ (s.rateFallback l).time = s.time ∧ (s.rateFallback l).lanes.txq = s.lanes.txq) ∧
  -- DCL_STATUS and DCL_IDLE
  (∀ (s : State) (l : Fin 144) (bits : BitVec 3), exec (.dclStatus l bits) s = .next ((s.modLink l (fun k => { k with peerStatus := bits.toNat })).slotPassed l) ∧ exec (.dclIdle l) s = .next (s.slotPassed l)) ∧
  -- what a link in UP sends in the superframe whose slot passes, and the next superframe
  (∀ (s : State) (l : Nat), s.lstate l = 6 →
      ((s.slotPassed l).link l).sent = (if (s.link l).superframe = 0 then [lineForm (s.getR Reg.DCL_STAT_RATE_NOW l) (.comma (s.link l).period (s.alignOf l))] else [])
      ++ [lineForm (s.getR Reg.DCL_STAT_RATE_NOW l) (controlBlock (s.upControl l (s.link l).superframe))]
      ∧ ((s.slotPassed l).link l).superframe = (if 16 * s.alignOf l ≤ (s.link l).superframe + 1 then 0 else (s.link l).superframe + 1)
      ∧ s.upControl l 0 = (0x07, s.linkTime l / 2 ^ 32 % 2 ^ 32 + s.getR Reg.SYN_EPOCH 0 * 2 ^ 32) ∧ s.upControl l 1 = (0x08, s.linkTime l % 2 ^ 32)
      ∧ s.upControl l 2 = (0x09, s.getR Reg.DCL_TXMAPID_ID l) ∧ s.upControl l 3 = (0x0A, s.statusBits l)
      ∧ (∀ sf, 3 < sf → s.upControl l sf = (if (s.link l).retrainDue ≠ 0 then (0x0B, (s.link l).retrainDue) else (0x00, 0)))
      ∧ (s.slotPassed l).regs = s.regs ∧ (s.slotPassed l).mem = s.mem ∧ (s.slotPassed l).events = s.events ∧ (s.slotPassed l).time = s.time) ∧
  -- a link that is DISABLED or FAILED sends nothing, and a slot's passing changes only what the link sends and its place in the alignment period
  (∀ (s : State) (l : Nat), (s.lstate l = 0 ∨ s.lstate l = 7 → s.slotPassed l = s) ∧ Leaves [.lanes, .free] [] s (s.slotPassed l) ∧ (∀ m, m ≠ l → (s.slotPassed l).link m = s.link m)
      ∧ (s.slotPassed l).lanes.txq = s.lanes.txq ∧ (s.slotPassed l).lanes.rx = s.lanes.rx ∧ (s.slotPassed l).lanes.rxq = s.lanes.rxq ∧ (s.slotPassed l).lanes.raw = s.lanes.raw)

/-- DCL_TS_REQ and DCL_LATINFO in LATMEAS or UP hold the answer due and the peer's latencies, TIME_HI in UP the peer's time and epoch; else the state stays. DCL_TS_RSP in LATMEAS with the number of the exchange: one of the first fifteen is collected; the sixteenth accepts the set where twice D spans at most 4 ticks (more under SSC), and the link is UP with the rounded median as latency, TURN the last one, and event 0x0405; else the measurement fails; with another number, or in another state, the state stays. Two failed measurements start anew, the third fails the attempt, as DCL_CAPX_TIMEOUT in CAPX does; DCL_LATMEAS_TIMEOUT in LATMEAS fails the measurement; the eighth failed attempt makes the link FAILED with event 0x0408, an earlier one returns it to DETECT. DCL_TIME_LO in UP of a peer that is a Lantum 8: TIMEDIFF, and event 0x040E once for a difference of more than 64 ticks. DCL_MAP in UP: MAP_OK tells whether the ID is RXMAPID, and its fall raises 0x040A. In UP, DCL_RETRAIN_CMD retrains with cause 1, DCL_RETRAIN_BLOCK with 2, DCL_BLOCK_LOCK_LOST with 3; DCL_ERROR_THRESHOLD of a link with lock counts each block that does not decode and retrains with cause 3 at the sixteenth within 64 blocks, with 4 at the THRESH-th within the window. DCL_RETRAIN_CMD of a FAILED link returns it to DETECT. A retrain of a link in UP: DETECT at rate 0, RCAUSE and RETRAINS show it, its queued messages are gone; of a link that left UP in this cycle RCAUSE takes the lower cause; of another link nothing. After each control block this end's slot passes (slotPassed). -/
def Obligations.LatencyAndRetrainCommandsComplete : Prop :=
  -- DCL_TS_REQ and DCL_LATINFO
  (∀ (s : State) (l : Fin 144) (seq : BitVec 8) (turn tx rx : BitVec 24), s.lstate l = 5 ∨ s.lstate l = 6 →
      exec (.dclTsReq l seq turn) s = .next ((s.modLink l (fun k => { k with tsRsp := (seq.toNat, turn.toNat) })).slotPassed l)
      ∧ exec (.dclLatinfo l tx rx) s = .next ((s.modLink l (fun k => { k with peerLat := (tx.toNat, rx.toNat) })).slotPassed l)) ∧
  -- the commands of a state that the link is not in: the state stays
  (∀ (s : State) (l : Fin 144) (seq epoch : BitVec 8) (turn tx rx : BitVec 24) (elapsed hi lo id : BitVec 32), (s.lstate l ≠ 5 → s.lstate l ≠ 6 → exec (.dclTsReq l seq turn) s = .next s ∧ exec (.dclLatinfo l tx rx) s = .next s)
      ∧ (s.lstate l ≠ 5 ∨ seq.toNat ≠ (s.link l).samples.length % 256 → exec (.dclTsRsp l seq turn elapsed) s = .next s)
      ∧ (s.lstate l ≠ 5 → exec (.dclLatmeasTimeout l) s = .next s) ∧ (s.lstate l ≠ 2 → exec (.dclCapxTimeout l) s = .next s)
      ∧ (s.lstate l ≠ 6 → exec (.dclTimeHi l hi epoch) s = .next s ∧ exec (.dclTimeLo l lo) s = .next s ∧ exec (.dclMap l id) s = .next s)) ∧
  -- DCL_TS_RSP, the first fifteen
  (∀ (s : State) (l : Fin 144) (seq : BitVec 8) (turn : BitVec 24) (elapsed : BitVec 32), s.lstate l = 5 →
      (s.link l).samples.length < 15 →
      seq.toNat = (s.link l).samples.length →
      exec (.dclTsRsp l seq turn elapsed) s = .next ((s.modLink l (fun k =>
      { k with samples := (s.link l).samples ++ [(elapsed.toNat : Int) - turn.toNat] })).slotPassed l)) ∧
  -- DCL_TS_RSP, the sixteenth: accepted or not
  (∀ (s t : State) (l : Fin 144) (seq : BitVec 8) (turn : BitVec 24) (elapsed : BitVec 32) (srt : List Int), s.lstate l = 5 →
      (s.link l).samples.length = 15 ∧ seq.toNat = 15 →
      t = s.modLink l (fun k => { k with samples := (s.link l).samples ++ [(elapsed.toNat : Int) - turn.toNat] }) →
      srt = ((s.link l).samples ++ [(elapsed.toNat : Int) - turn.toNat]).foldr insertSorted [] →
      exec (.dclTsRsp l seq turn elapsed) s = .next (if (srt.getLastD 0 - srt.headD 0) * 1000 ≤ 4000 + (if s.spread l then 5 * ((srt.getD 7 0 + srt.getD 8 0) / 2) else 0)
      then (t.dclUp l ((srt.getD 7 0 + srt.getD 8 0 + 2) / 4) turn.toNat).slotPassed l else (t.measFail l).slotPassed l)) ∧
  -- DCL_TS_RSP, the sixteenth of equal samples
  (∀ (s : State) (l : Fin 144) (seq : BitVec 8) (turn : BitVec 24) (elapsed : BitVec 32), s.lstate l = 5 →
      (s.link l).samples = List.replicate 15 ((elapsed.toNat : Int) - turn.toNat) →
      seq.toNat = 15 →
      turn.toNat ≤ elapsed.toNat →
      s.contractIds = [] →
      ∃ t, exec (.dclTsRsp l seq turn elapsed) s = .next t ∧ t.lstate l = 6 ∧ t.getR Reg.DCL_TURN_TICKS l = turn.toNat
      ∧ (t.link l).latency = some ((((elapsed.toNat : Int) - turn.toNat) * 2 + 2) / 4)
      ∧ t.getR Reg.DCL_LAT_TX_TICKS l = unsigned 24 ((((elapsed.toNat : Int) - turn.toNat) * 2 + 2) / 4 + s.asym l) ∧ t.mem = s.mem ∧ t.time = s.time) ∧
  -- a measurement that fails, and DCL_LATMEAS_TIMEOUT and DCL_CAPX_TIMEOUT
  (∀ (s : State) (l : Fin 144), (s.lstate l = 5 → exec (.dclLatmeasTimeout l) s = .next (if 2 ≤ (s.link l).measFails then s.attemptFail l
      else s.modLink l (fun k => { k with samples := [], measFails := (s.link l).measFails + 1 })))
      ∧ (s.lstate l = 2 → exec (.dclCapxTimeout l) s = .next (s.attemptFail l))) ∧
  -- an attempt that fails
  (∀ (s : State) (l : Fin 144), (s.attemptFail l).lstate l = (if 7 ≤ (s.link l).attempts then 7 else 1) ∧ ((s.attemptFail l).link l).attempts = (s.link l).attempts + 1
      ∧ (s.attemptFail l).events = (if 7 ≤ (s.link l).attempts
      then raiseIn s.events (evKey (laneSrc (l.val + 16)) 0x0408) s.time.toNat 4 (laneDetail (l.val + 16) 0 0 0 0 ((s.link l).attempts + 1) % 2 ^ 128)
      else s.events)
      ∧ (s.attemptFail l).mem = s.mem ∧ (s.attemptFail l).time = s.time) ∧
  -- DCL_TIME_HI and DCL_TIME_LO
  (∀ (s : State) (l : Fin 144) (hi lo : BitVec 32) (epoch : BitVec 8), s.lstate l = 6 →
      exec (.dclTimeHi l hi epoch) s = .next ((s.modLink l (fun k => { k with peerHi := hi.toNat, peerEpoch := epoch.toNat })).slotPassed l)
      ∧ exec (.dclTimeLo l lo) s = .next (if s.flag Reg.DCL_PEER_LANTUM l then (s.timeDiff l lo.toNat).slotPassed l else s.slotPassed l)
      ∧ (s.timeDiff l lo.toNat).getR Reg.DCL_TIMEDIFF_TICKS l = unsigned 32 (BitVec.ofNat 64 ((s.link l).peerHi * 2 ^ 32 + lo.toNat) - s.time).toInt
      ∧ ((s.timeDiff l lo.toNat).link l).skewRaised = ((s.link l).skewRaised || decide (64 < (BitVec.ofNat 64 ((s.link l).peerHi * 2 ^ 32 + lo.toNat) - s.time).toInt.natAbs))
      ∧ ((s.link l).skewRaised = true → (s.timeDiff l lo.toNat).events = s.events)
      ∧ ((s.link l).skewRaised = false → ((s.timeDiff l lo.toNat).link l).skewRaised = true → (s.timeDiff l lo.toNat).events
      = raiseIn s.events (evKey (laneSrc (l.val + 16)) 0x040E) s.time.toNat 2 (laneDetail (l.val + 16) 0 0 0 0 (unsigned 32 (BitVec.ofNat 64 ((s.link l).peerHi * 2 ^ 32 + lo.toNat) - s.time).toInt) % 2 ^ 128))
      ∧ Leaves [.lanes, .events] [Reg.DCL_TIMEDIFF_TICKS.key l] s (s.timeDiff l lo.toNat)) ∧
  -- DCL_MAP
  (∀ (s : State) (l : Fin 144) (id : BitVec 32), s.lstate l = 6 →
      ∃ u, exec (.dclMap l id) s = .next (u.slotPassed l)
      ∧ u.getR Reg.DCL_STAT_MAP_OK l = bit (decide (id.toNat = s.getR Reg.DCL_RXMAPID_ID l)) ∧ (u.link l).peerMap = some id.toNat
      ∧ u.events = (if s.flag Reg.DCL_STAT_MAP_OK l = true ∧ id.toNat ≠ s.getR Reg.DCL_RXMAPID_ID l
      then raiseIn s.events (evKey (laneSrc (l.val + 16)) 0x040A) s.time.toNat 3 (laneDetail (l.val + 16) 0 0 0 0 id.toNat % 2 ^ 128) else s.events)
      ∧ Leaves [.lanes, .events] [Reg.DCL_STAT_MAP_OK.key l] s u) ∧
  -- the causes of a retrain
  (∀ (s : State) (l : Fin 144) (cause : BitVec 8), (s.lstate l = 6 → exec (.dclRetrainCmd l) s = .next ((s.dclRetrain l 1).modLink l (fun k => { k with excluded := [] })))
      ∧ (s.lstate l = 7 → exec (.dclRetrainCmd l) s = .next ((s.enterDetect l).modLink l (fun k => { k with excluded := [], attempts := 0, measFails := 0 })))
      ∧ (s.lstate l ≠ 6 → s.lstate l ≠ 7 → exec (.dclRetrainCmd l) s = .next (s.dclRetrain l 1))
      ∧ exec (.dclRetrainBlock l cause) s = .next (s.dclRetrain l 2)
      ∧ exec (.dclBlockLockLost l) s = .next ((s.modLink l (fun k => { k with lock := false })).dclRetrain l 3)) ∧
  -- DCL_ERROR_THRESHOLD: the blocks in order, each good or in error
  (∀ (s : State) (l : Fin 144) (blocks : List (Nat × LineBlock)), exec (.dclErrorThreshold l blocks) s = .next (if (s.link l).lock
      then s.blocksSeen l (blocks.map (fun b => (b.1, (decodeLine (s.getR Reg.DCL_STAT_RATE_NOW l) b.2).isNone))) else s)) ∧
  -- what one block does
  (∀ (s : State) (l gap : Nat) (e : List Nat) (t : State), e = ((s.link l).errAt ++ [(s.link l).blocks + gap]).filter (fun x => decide ((s.link l).blocks + gap < x + s.errWindow l)) →
      t = (s.satAdd Reg.DCL_ERR_BLK l 1).modLink l (fun x => { x with blocks := (s.link l).blocks + gap + 1, errAt := e }) →
      s.blockSeen l gap false = s.modLink l (fun x => { x with blocks := (s.link l).blocks + gap + 1 })
      ∧ s.blockSeen l gap true = (if 16 ≤ (e.filter (fun x => decide ((s.link l).blocks + gap < x + 64))).length then (t.modLink l (fun x => { x with lock := false })).dclRetrain l 3
      else if max 1 (s.getR Reg.DCL_ERRCFG_THRESH l) ≤ e.length then t.dclRetrain l 4 else t)) ∧
  -- what a retrain does
  (∀ (s : State) (l : Fin 144) (cause : Nat), s.lstate l = 6 →
      cause < 8 →
      (s.dclRetrain l cause).lstate l = 1 ∧ (s.dclRetrain l cause).getR Reg.DCL_STAT_RCAUSE l = cause
      ∧ (s.dclRetrain l cause).getR Reg.DCL_STAT_RETRAINS l = (s.getR Reg.DCL_STAT_RETRAINS l + 1) % 2 ^ Reg.DCL_STAT_RETRAINS.width
      ∧ (s.dclRetrain l cause).getR Reg.DCL_STAT_RATE_NOW l = 0 ∧ (s.dclRetrain l cause).queuedOn l = []
      ∧ ((s.dclRetrain l cause).link l).retrainDue = cause ∧ ((s.dclRetrain l cause).link l).upRate = s.getR Reg.DCL_STAT_RATE_NOW l ∧ (s.dclRetrain l cause).mem = s.mem ∧ (s.dclRetrain l cause).time = s.time) ∧
  -- a link that is not in UP
  (∀ (s : State) (l cause : Nat), s.lstate l ≠ 6 →
      s.dclRetrain l cause = (if (s.link l).leftAt = s.ncyc + 1 ∧ cause < s.getR Reg.DCL_STAT_RCAUSE l
      then (s.setR Reg.DCL_STAT_RCAUSE l cause).modLink l (fun k => { k with retrainDue := cause }) else s))

/-- DCL_MAP_WRITE first acts on a test of the lane (R697). While the link is DISABLED it writes the map ID or map entry at its offset, RXMAPID with the check of MAP_OK, and nothing at another offset; else only MAP_REJ is set. DCL_STREAM_ENTRY_WRITE clears STR_REJ where the value's bit 13 is 1, then writes LANE, DIR, TYPE and EN unless a contract names the stream, which sets STR_REJ. DCL_ASYM_WRITE writes ASYM and, with a latency held, LAT_TX and LAT_RX. DCL_TX_PACKET takes the oldest packet of its engine: one of no stream contract that ends there is rejected per R208; of a stream on no link, of a link not UP, or with 4 messages queued it is dropped and counted; a peer stream's that is not for the link's peer is dropped and counted with event 0x040D; else its message is the stream's last. With no packet the state stays. DCL_MESSAGE_TRANSMIT of a transmit stream with slots on a link in UP: the oldest message leaves, what was sent are its blocks as the rate codes them; else the state stays. DCL_STREAM_MESSAGE_RECEIVE of a receive stream with slots on a link in UP: the blocks, decoded, advance the receiver of R330 (rxBlocks), each thing that arrives is treated as R328, R330 and R334 say (streamArrived), corrections count from rate 11 and blocks in error as blockSeen says; else the state stays. A message that arrives with MAP_OK 0 is counted as dropped; a lost header is dropped, counted and reported; with 4 messages waiting the newest is dropped. The order of those steps is the model's (notes/assumptions/95). -/
def Obligations.StreamCommandsComplete : Prop :=
  -- DCL_MAP_WRITE
  (∀ (s : State) (l : Fin 144) (value : BitVec 32), (s.touchLane (l.val + 16)).lstate l = 0 →
      exec (.dclMapWrite l 0x2C value) s = .next ((s.touchLane (l.val + 16)).setR Reg.DCL_TXMAPID_ID l value.toNat)
      ∧ exec (.dclMapWrite l 0x30 value) s = .next (((s.touchLane (l.val + 16)).setR Reg.DCL_RXMAPID_ID l value.toNat).mapCheck l)
      ∧ ∀ k : Fin 32, exec (.dclMapWrite l (BitVec.ofNat 9 (0x80 + 4 * k)) value) s = .next
      ((((((s.touchLane (l.val + 16)).setR Reg.DCL_TXMAP_S0 (l * 32 + k) value.toNat).setR Reg.DCL_TXMAP_V0 (l * 32 + k) (value.toNat / 2 ^ 12)).setR
      Reg.DCL_TXMAP_S1 (l * 32 + k) (value.toNat / 2 ^ 16)).setR Reg.DCL_TXMAP_V1 (l * 32 + k) (value.toNat / 2 ^ 28)))
      ∧ exec (.dclMapWrite l (BitVec.ofNat 9 (0x100 + 4 * k)) value) s = .next
      ((((((s.touchLane (l.val + 16)).setR Reg.DCL_RXMAP_S0 (l * 32 + k) value.toNat).setR Reg.DCL_RXMAP_V0 (l * 32 + k) (value.toNat / 2 ^ 12)).setR
      Reg.DCL_RXMAP_S1 (l * 32 + k) (value.toNat / 2 ^ 16)).setR Reg.DCL_RXMAP_V1 (l * 32 + k) (value.toNat / 2 ^ 28)))) ∧
  -- DCL_MAP_WRITE of a link that is not DISABLED
  (∀ (s : State) (l : Fin 144) (off : BitVec 9) (value : BitVec 32), (s.touchLane (l.val + 16)).lstate l ≠ 0 →
      exec (.dclMapWrite l off value) s = .next ((s.touchLane (l.val + 16)).setR Reg.DCL_STAT_MAP_REJ l 1)) ∧
  -- DCL_MAP_WRITE of another offset: nothing is written
  (∀ (s : State) (l : Fin 144) (off : BitVec 9) (value : BitVec 32), (s.touchLane (l.val + 16)).lstate l = 0 →
      off.toNat ≠ 0x2C ∧ off.toNat ≠ 0x30 ∧ (off.toNat < 0x80 ∨ 0x180 ≤ off.toNat) →
      exec (.dclMapWrite l off value) s = .next (s.touchLane (l.val + 16))) ∧
  -- DCL_STREAM_ENTRY_WRITE
  (∀ (s t : State) (stream : BitVec 12) (value : BitVec 32), t = (if nbit value.toNat 13 then s.setR Reg.DCL_STR_CFG_STR_REJ stream.toNat 0 else s) →
      exec (.dclStreamEntryWrite stream value) s = .next (match s.streamContract stream.toNat with
      | none => (((t.setR Reg.DCL_STR_CFG_LANE stream.toNat value.toNat).setR Reg.DCL_STR_CFG_DIR stream.toNat (value.toNat / 2 ^ 8)).setR
      Reg.DCL_STR_CFG_TYPE stream.toNat (value.toNat / 2 ^ 9)).setR Reg.DCL_STR_CFG_EN stream.toNat (value.toNat / 2 ^ 12)
      | some _ => t.setR Reg.DCL_STR_CFG_STR_REJ stream.toNat 1)) ∧
  -- DCL_ASYM_WRITE
  (∀ (s : State) (l : Fin 144) (value : BitVec 16), exec (.dclAsymWrite l value) s = .next (match (s.link l).latency with
      | some d => (s.setR Reg.DCL_ASYM_TICKS l value.toNat).setLat l d
      | none => s.setR Reg.DCL_ASYM_TICKS l value.toNat)) ∧
  -- DCL_TX_PACKET of a stream's packet
  (∀ (s : State) (engine : Fin 36) (p : Packet) (rest : List Packet) (l : Nat), s.inbox (dclEp engine) = p :: rest →
      p.kind = 0 ∧ s.cstate p.flow ≠ 0 ∧ s.getR Reg.THY_CT_EP_DST p.flow = dclEp engine ∧ s.flag Reg.THY_CT_STREAM_EN p.flow = true →
      s.streamLink (s.getR Reg.THY_CT_STREAM_INDEX p.flow) = some l →
      exec (.dclTxPacket engine) s = .next (if s.lstate l ≠ 6 then (s.putInbox (dclEp engine) rest).streamDrop (s.getR Reg.THY_CT_STREAM_INDEX p.flow) false 1
      else if s.getR Reg.DCL_STR_CFG_TYPE (s.getR Reg.THY_CT_STREAM_INDEX p.flow) = 4 ∧ ¬(p.xdev = true ∧ p.destDev = s.getR Reg.DCL_PEER_DEVID l)
      then ((s.putInbox (dclEp engine) rest).satAdd Reg.DCL_STR_DROP_TX (s.getR Reg.THY_CT_STREAM_INDEX p.flow) 1).raise (dclEp engine) 0x040D 2
      (laneDetail (s.getR Reg.DCL_STR_CFG_LANE (s.getR Reg.THY_CT_STREAM_INDEX p.flow)) (s.getR Reg.THY_CT_STREAM_INDEX p.flow) 0 0 0 p.destDev)
      else if 4 ≤ (s.txq (s.getR Reg.THY_CT_STREAM_INDEX p.flow)).length then (s.putInbox (dclEp engine) rest).streamDrop (s.getR Reg.THY_CT_STREAM_INDEX p.flow) false 1
      else (s.putInbox (dclEp engine) rest).putTxq (s.getR Reg.THY_CT_STREAM_INDEX p.flow) (s.txq (s.getR Reg.THY_CT_STREAM_INDEX p.flow) ++ [messageOf p]))) ∧
  -- DCL_TX_PACKET with nothing waiting, of a packet of no stream contract of the engine, of a stream on no link
  (∀ (s : State) (engine : Fin 36) (p : Packet) (rest : List Packet), (s.inbox (dclEp engine) = [] → exec (.dclTxPacket engine) s = .next s)
      ∧ (s.inbox (dclEp engine) = p :: rest → p.kind ≠ 0 ∨ s.cstate p.flow = 0 ∨ s.getR Reg.THY_CT_EP_DST p.flow ≠ dclEp engine ∨ s.flag Reg.THY_CT_STREAM_EN p.flow = false →
      exec (.dclTxPacket engine) s = .next ((s.putInbox (dclEp engine) rest).kindReject (dclEp engine) p))
      ∧ (s.inbox (dclEp engine) = p :: rest → p.kind = 0 → s.cstate p.flow ≠ 0 → s.getR Reg.THY_CT_EP_DST p.flow = dclEp engine → s.flag Reg.THY_CT_STREAM_EN p.flow = true →
      s.streamLink (s.getR Reg.THY_CT_STREAM_INDEX p.flow) = none → exec (.dclTxPacket engine) s
      = .next ((s.putInbox (dclEp engine) rest).streamDrop (s.getR Reg.THY_CT_STREAM_INDEX p.flow) false 1))) ∧
  -- DCL_MESSAGE_TRANSMIT
  (∀ (s : State) (stream : BitVec 12) (m : StreamMsg) (rest : List StreamMsg) (l : Nat), s.txq stream.toNat = m :: rest →
      s.streamLink stream.toNat = some l ∧ s.lstate l = 6 →
      s.getR Reg.DCL_STR_CFG_DIR stream.toNat = 0 →
      0 < s.nslots stream.toNat →
      exec (.dclMessageTransmit stream) s = .next ((s.putTxq stream.toNat rest).modLanes (fun x => { x with sent := Map.set [] x.sent stream.toNat ((messageBlocks m).map (lineForm (s.getR Reg.DCL_STAT_RATE_NOW l))) }))) ∧
  -- DCL_MESSAGE_TRANSMIT with no message, of a link not UP, of a receive stream or of one without slots; DCL_STREAM_MESSAGE_RECEIVE of a link not UP, of a transmit stream or of one without slots: the state stays
  (∀ (s : State) (stream : BitVec 12) (blocks : List LineBlock) (ue : Bool) (corrected : BitVec 16), (s.txq stream.toNat = [] ∨ (∀ l, s.streamLink stream.toNat = some l → s.lstate l ≠ 6) ∨ s.getR Reg.DCL_STR_CFG_DIR stream.toNat ≠ 0 ∨ s.nslots stream.toNat = 0 →
      exec (.dclMessageTransmit stream) s = .next s)
      ∧ ((∀ l, s.streamLink stream.toNat = some l → s.lstate l ≠ 6) ∨ s.getR Reg.DCL_STR_CFG_DIR stream.toNat = 0 ∨ s.nslots stream.toNat = 0 →
      exec (.dclStreamMessageReceive stream blocks ue corrected) s = .next s)) ∧
  -- DCL_STREAM_MESSAGE_RECEIVE
  (∀ (s t u : State) (stream : BitVec 12) (blocks : List LineBlock) (ue : Bool) (corrected : BitVec 16) (l : Nat) (d : List (Nat × Bool)), s.streamLink stream.toNat = some l ∧ s.lstate l = 6 →
      s.getR Reg.DCL_STR_CFG_DIR stream.toNat = 1 ∧ 0 < s.nslots stream.toNat →
      d = blocks.zipIdx.map (fun b => s.slotData l ue b.2 b.1) →
      t = (if 11 ≤ s.getR Reg.DCL_STAT_RATE_NOW l then ((List.range blocks.length).foldl (fun u _ => u.draw) s).satAdd Reg.DCL_ERR_CORR l corrected.toNat
      else (List.range blocks.length).foldl (fun u _ => u.draw) s) →
      u = t.modLanes (fun x => { x with rx := Map.set streamRx0 x.rx stream.toNat (rxBlocks (Map.get streamRx0 s.lanes.rx stream.toNat) d).1 }) →
      exec (.dclStreamMessageReceive stream blocks ue corrected) s = .next ((((rxBlocks (Map.get streamRx0 s.lanes.rx stream.toNat) d).2.foldl
      (fun v a => v.streamArrived stream.toNat l a) (State.injectQueue stream.toNat l 4 u))).blocksSeen l (d.map (fun b => (0, b.2))))) ∧
  -- the receiver: an idle block between messages, the first three blocks of a message, and its payload
  (∀ (b c d : Nat × Bool) (pay : List (Nat × Bool)) (x : Nat × Bool), headerGood [b, c, d] = true →
      pay.length + 1 = ceilDiv (headerLength ([b, c, d] ++ pay ++ [x])) 8 →
      rxBlock streamRx0 (0, false) = (streamRx0, none) ∧ rxBlock ⟨[b, c], false⟩ d = (⟨[b, c, d], false⟩, none)
      ∧ rxBlock ⟨[b, c, d] ++ pay, false⟩ x = (streamRx0, some (.message (messageFrom ([b, c, d] ++ pay ++ [x]))))) ∧
  -- what arrives: dropped without the map, a lost header, a message with room
  (∀ (s t : State) (n l : Nat) (m : StreamMsg), t = State.injectQueue n l 4 s →
      (∀ a, s.flag Reg.DCL_STAT_MAP_OK l = false → s.streamArrived n l a = s.satAdd Reg.DCL_STR_DROP_RX n 1)
      ∧ (s.flag Reg.DCL_STAT_MAP_OK l = true → s.streamArrived n l .lost = s.streamDrop n true 1)
      ∧ (s.flag Reg.DCL_STAT_MAP_OK l = true → s.streamArrived n l (.message m) = (if 4 ≤ (t.rxq n).length then t.streamDrop n true 1
      else State.injectQueue n l 4 (t.modLanes (fun x => { x with rxq := Map.set [] x.rxq n (t.rxq n ++ [m]) })))))

/-- Register writes first act on a test of the engine pair (touchPair, R697). PGE_ARM in a run only sets CFG_REJ; else, with no enabled output or one whose contract does not satisfy R354, STATE is FAILED with HCAUSE 8; with a base or fetch contract that does not, FAILED with 6; else, where the entry's address is served, the engine is BUSY at ENTRY and START_AT, DEPTH, HCAUSE and the counters 0, the stack empty and VNUM0 the next number. PGE_ABORT of a BUSY run ends it ABORTED with HCAUSE 11 and event 0x0609; of a RUNNING one, or in the cycle of the commit point, ABORT_LATE becomes 1; else the state stays. PGE_STOP of a BUSY run aborts it; of a RUNNING one whose sequencer has not ended otherwise the vectors at or after STOP_AT leave the waiting packets, and once vector time reaches STOP_AT the run ends (HALT in the same cycle wins); else the state stays. PGE_SRST: STATE, PC, vector time, DEPTH, HCAUSE, the latched flags and the pointer are 0, stack and outputs empty; the current timeset stays. PGE_LEAD_CLOSE of a forming packet once START minus LEAD_MIN is reached closes it; else the state stays. PGE_PACKET_INJECT of a closed packet once START minus LEAD_MAX is reached and the credit covers it: it enters the network, PKTS counts it, and a BUSY run is RUNNING; else the state stays. PGE_BREACH_NOTICE counts the oldest notice; one that suspends nothing marks the contract's outputs, one that does fails the runs that lost it. PGE_FETCH_RESPONSE: a response that this run waits for is held, with its poisoned words marked; another is dropped. No action of the two that depend on time acts under TIME_PLL_UNLOCK. -/
def Obligations.PatternRunCommandsComplete : Prop :=
  -- PGE_ARM
  (∀ (s u : State) (n : Fin 16), u = s.touchPair n →
      u.pgeActive n = false →
      (u.pgeOuts n).isEmpty = false ∧ (u.pgeOuts n).all (u.outputOk n) = true →
      fetchBase (u.getR Reg.PGE_UBASE_ADDR n) = true ∧ fetchBase (u.getR Reg.PGE_VBASE_ADDR n) = true ∧ u.fetchOk n = true →
      (u.addrEp ((u.getR Reg.PGE_UBASE_ADDR n + 8 * (u.getR Reg.PGE_ENTRY_PC n % 2 ^ 32)) % 2 ^ 48 / 64 * 64)).isSome = true →
      ∃ t, exec (.pgeArm n) s = .next t ∧ t.getR Reg.PGE_STAT_STATE n = 1 ∧ t.getR Reg.PGE_PC_PC n = u.getR Reg.PGE_ENTRY_PC n % 2 ^ 32
      ∧ t.getR Reg.PGE_VT_T n = u.getR Reg.PGE_START_AT_AT n % 2 ^ 64 ∧ t.getR Reg.PGE_STAT_DEPTH n = 0 ∧ t.getR Reg.PGE_STAT_HCAUSE n = 0
      ∧ (∀ c < 4, t.getR Reg.PGE_C_COUNT (n.val * 4 + c) = 0) ∧ (t.pgx n).stack = [] ∧ (t.pgx n).num = u.getR Reg.PGE_VNUM0_VNUM n
      ∧ (t.pgx n).ending = 0 ∧ t.mem = u.mem ∧ t.time = u.time) ∧
  -- PGE_ARM refused
  (∀ (s u : State) (n : Fin 16), u = s.touchPair n →
      (u.pgeActive n = true → exec (.pgeArm n) s = .next (u.setR Reg.PGE_STAT_CFG_REJ n 1))
      ∧ (u.pgeActive n = false → u.pgeOuts n = [] ∨ (u.pgeOuts n).all (u.outputOk n) = false → exec (.pgeArm n) s = .next ((u.pgeSt n 4).setR Reg.PGE_STAT_HCAUSE n 8))
      ∧ (u.pgeActive n = false → u.pgeOuts n ≠ [] → (u.pgeOuts n).all (u.outputOk n) = true →
      fetchBase (u.getR Reg.PGE_UBASE_ADDR n) = false ∨ fetchBase (u.getR Reg.PGE_VBASE_ADDR n) = false ∨ u.fetchOk n = false →
      exec (.pgeArm n) s = .next ((u.pgeSt n 4).setR Reg.PGE_STAT_HCAUSE n 6))) ∧
  -- PGE_ABORT
  (∀ (s u : State) (n : Fin 16), u = s.touchPair n →
      (u.getR Reg.PGE_STAT_STATE n = 1 → exec (.pgeAbort n) s = .next (u.pgeAbort n))
      ∧ (u.getR Reg.PGE_STAT_STATE n = 5 → exec (.pgeAbort n) s = .next (u.setR Reg.PGE_STAT_ABORT_LATE n 1))
      ∧ (u.getR Reg.PGE_STAT_STATE n = 2 → exec (.pgeAbort n) s = .next (if u.inCommitCycle Reg.PGE_CMT n then u.setR Reg.PGE_STAT_ABORT_LATE n 1 else u))
      ∧ (u.getR Reg.PGE_STAT_STATE n = 0 ∨ u.getR Reg.PGE_STAT_STATE n = 3 → exec (.pgeAbort n) s = .next u)
      ∧ (u.pgeAbort n).getR Reg.PGE_STAT_STATE n = 3 ∧ (u.pgeAbort n).getR Reg.PGE_STAT_HCAUSE n = 11
      ∧ (u.pgeAbort n).events = raiseIn u.events (evKey (pgeEp n) 0x0609) u.time.toNat 0 (pgeDetail 0 11 0 (u.pgeNum n) % 2 ^ 128)
      ∧ Leaves [.pge, .events] [Reg.PGE_STAT_STATE.key n, Reg.PGE_STAT_HCAUSE.key n, Reg.PLIC_PEND.key (32 + n.val), Reg.PLIC_WAIT.key (32 + n.val)]
      u (u.pgeAbort n)) ∧
  -- PGE_STOP
  (∀ (s u : State) (n : Fin 16), u = s.touchPair n →
      (u.getR Reg.PGE_STAT_STATE n = 1 → exec (.pgeStop n) s = .next (u.pgeAbort n))
      ∧ (u.getR Reg.PGE_STAT_STATE n ≠ 1 → u.getR Reg.PGE_STAT_STATE n ≠ 5 ∨ 1 < (u.pgx n).ending → exec (.pgeStop n) s = .next u)
      ∧ (u.getR Reg.PGE_STAT_STATE n = 5 → (u.pgx n).ending ≤ 1 → u.getR Reg.PGE_STOP_AT_AT n ≠ 0 →
      before (u.getR Reg.PGE_VT_T n) (u.getR Reg.PGE_STOP_AT_AT n) = true →
      ∃ t, exec (.pgeStop n) s = .next t ∧ (t.pgx n).stop = some (u.getR Reg.PGE_STOP_AT_AT n) ∧ Leaves [.pge] [] u t
      ∧ ∀ g ∈ u.pgeOuts n, (t.pgeOut n g).pkts = (u.pgeOut n g).pkts.filterMap (keepBefore (u.getR Reg.PGE_STOP_AT_AT n)))) ∧
  -- PGE_STOP of a RUNNING run whose vector time has reached STOP_AT, or with STOP_AT 0
  (∀ (s u t : State) (n : Fin 16), u = s.touchPair n →
      u.getR Reg.PGE_STAT_STATE n = 5 ∧ (u.pgx n).ending ≤ 1 →
      t = (u.pgeOuts n).foldl (fun v g => v.modOut n g (fun o => { o with pkts := o.pkts.filterMap (keepBefore (u.getR Reg.PGE_STOP_AT_AT n)) })) (u.modPgx n (fun k => { k with stop := some (u.getR Reg.PGE_STOP_AT_AT n) })) →
      t.stopNow n = true →
      exec (.pgeStop n) s = .next (u.stopWith t n)
      ∧ (((u.pgx n).ending ≠ 1 ∨ u.inCommitCycle Reg.PGE_HALTC n = false) → u.pgeAt n 0x01 = none → u.stopWith t n = ((t.setR Reg.PGE_STAT_HCAUSE n 10).endRun n 2).pgeFinish n)
      ∧ ((u.pgx n).ending = 1 → u.inCommitCycle Reg.PGE_HALTC n = true → u.stopWith t n = u)) ∧
  -- PGE_SRST
  (∀ (s u : State) (n : Fin 16), u = s.touchPair n →
      ∃ t, exec (.pgeSrst n) s = .next t ∧ t.getR Reg.PGE_STAT_STATE n = 0 ∧ t.getR Reg.PGE_PC_PC n = 0 ∧ t.getR Reg.PGE_VT_T n = 0
      ∧ t.getR Reg.PGE_STAT_DEPTH n = 0 ∧ t.getR Reg.PGE_STAT_HCAUSE n = 0 ∧ t.getR Reg.PGE_LATCHED n = 0 ∧ t.getR Reg.PGE_VPTR_WORD n = 0
      ∧ (t.pgx n).stack = [] ∧ (t.pgx n).outs = [] ∧ (t.pgx n).ts = (u.pgx n).ts ∧ t.mem = u.mem ∧ t.time = u.time ∧ t.events = u.events) ∧
  -- PGE_LEAD_CLOSE
  (∀ (s : State) (n g : Fin 16), (∀ p, (s.pgeOut n g).pkts.getLast? = some p → exec (.pgeLeadClose n g) s = .next (if p.closed = false ∧ s.dueAt (plusTicks ((p.vecs.head?.map (fun v => v.start)).getD 0) (-(s.getR Reg.PGE_LEAD_MIN_TICKS n : Int))) = true
      then s.modOut n g (fun o => { o with pkts := closeLast o.pkts }) else s))
      ∧ ((s.pgeOut n g).pkts = [] → exec (.pgeLeadClose n g) s = .next s)) ∧
  -- PGE_PACKET_INJECT
  (∀ (s : State) (n g : Fin 16) (p : PgePkt) (rest : List PgePkt), (s.pgeOut n g).pkts = p :: rest →
      p.closed = true ∧ p.last = false →
      p.term = true ∨ s.dueAt (plusTicks ((p.vecs.head?.map (fun v => v.start)).getD 0) (-(s.leadMax n : Int))) = true →
      s.covers (s.getR Reg.PGE_OUT_CFG_FLOW (n.val * 16 + g.val)) ((s.pgePacket n g p).len + 1) = true →
      s.getR Reg.PGE_STAT_STATE n = 1 ∨ s.getR Reg.PGE_STAT_STATE n = 5 →
      ∃ t, exec (.pgePacketInject n g) s = .next t ∧ (t.pgeOut n g).pkts = rest
      ∧ (t.pgeOut n g).sentNum = (if p.term then (s.pgeOut n g).sentNum else some ((p.num + p.vecs.length - 1) % 2 ^ 48))
      ∧ t.noc = (s.ingress (s.pgePacket n g p)).noc
      ∧ t.getR Reg.PGE_OUT_PKTS_COUNT (n.val * 16 + g.val) = (s.wrapAdd Reg.PGE_OUT_PKTS_COUNT (n.val * 16 + g.val) 1).getR Reg.PGE_OUT_PKTS_COUNT (n.val * 16 + g.val) ∧ t.mem = s.mem ∧ t.time = s.time
      ∧ ((s.pgeOut n g).done = false → s.flag Reg.PGE_OUT_CFG_EN (n.val * 16 + g.val) = true → t.getR Reg.PGE_STAT_STATE n = 5)) ∧
  -- PGE_PACKET_INJECT with no packet, of one that forms, before its time or without credit: the state stays
  (∀ (s : State) (n g : Fin 16), ((s.pgeOut n g).pkts = [] → exec (.pgePacketInject n g) s = .next s)
      ∧ (∀ p, (s.pgeOut n g).pkts.head? = some p → p.closed = false ∨ (p.term = false ∧ s.dueAt (plusTicks ((p.vecs.head?.map (fun v => v.start)).getD 0) (-(s.leadMax n : Int))) = false)
      ∨ s.covers (s.getR Reg.PGE_OUT_CFG_FLOW (n.val * 16 + g.val)) ((s.pgePacket n g p).len + 1) = false → exec (.pgePacketInject n g) s = .next s)) ∧
  -- PGE_BREACH_NOTICE
  (∀ (s t : State) (n : Fin 16) (p : Packet) (rest : List Packet), takeFirst (fun p => decide (p.kind = 6)) (s.inbox (pgeEp n)) = some (p, rest) →
      t = (s.putInbox (pgeEp n) rest).satAdd Reg.PGE_ERRCNT_BREACH n 1 →
      exec (.pgeBreachNotice n) s = .next (if nbit (noticeBits p) 88 then (if s.cstate (noticeBits p % 2 ^ 12) = 1 then t else t.pgeOutputLost (noticeBits p % 2 ^ 12))
      else (s.pgeOuts n).foldl (fun u g =>
      if u.getR Reg.PGE_OUT_CFG_FLOW (n.val * 16 + g) = noticeBits p % 2 ^ 12 then u.modOut n g (fun o => { o with breach := true }) else u) t)) ∧
  -- PGE_FETCH_RESPONSE
  (∀ (s u : State) (n : Fin 16) (p : Packet) (rest : List Packet), takeFirst (fun p => decide (p.kind = 2)) (s.inbox (pgeEp n)) = some (p, rest) →
      u = ((s.putInbox (pgeEp n) rest).pgeFill n (decide (p.tag % 2 = 1)) ⟨p.addr, (List.range 8).map (fun i => payload p / 2 ^ (64 * i) % 2 ^ 64),
      (List.range 8).filter (fun i => wordPoison p i || crcFails p), decide (p.status ≠ 0)⟩).pgeLook n →
      exec (.pgeFetchResponse n) s = .next (if p.tag / 2 = (s.pgx n).gen % 128 ∧ (s.pgx n).pend.contains (p.addr, decide (p.tag % 2 = 1)) = true
      then (if p.tag % 2 = 1 then u.pgeAhead n else u) else s.putInbox (pgeEp n) rest)) ∧
  -- PGE_BREACH_NOTICE with no notice, PGE_FETCH_RESPONSE with no response: the state stays
  (∀ (s : State) (n : Fin 16), (takeFirst (fun p => decide (p.kind = 6)) (s.inbox (pgeEp n)) = none → exec (.pgeBreachNotice n) s = .next s)
      ∧ (takeFirst (fun p => decide (p.kind = 2)) (s.inbox (pgeEp n)) = none → exec (.pgeFetchResponse n) s = .next s)) ∧
  -- an engine that does not run, or whose next word is at hand and good, does not look further
  (∀ (s : State) (n : Nat) (l : PgeLine), s.pgeLine n (s.pgePcAddr n) = some l →
      l.bad = false ∧ l.poison.contains (s.pgePcAddr n / 8 % 8) = false →
      s.pgeLook n = s)

/-- An instruction's command acts where the engine's sequencer stands at a good word of its opcode (pgeAt); else the state stays. Then: NOP goes to the next instruction; JMP to its target; TSET sets the timeset; CALL pushes the next address and goes to its target, with eight on the stack it fails with HCAUSE 3; RET pops, with none it fails with 4; BR goes to its target where its flag has its polarity, else on; LDC loads a counter; DJNZ of a counter at 0 or 1 goes on with 0 left, else counts down and goes to its target; WAITT moves vector time to the later of its own and the time it names; WAITF and SYNCV close the forming packets and wait. PGE_WAIT_END of a wait whose condition holds, and PGE_WAIT_TIMEOUT of one whose timeout, not 0, has passed, end it: flag 29 tells which, vector time is at least now plus LEAD_MAX, and the sequencer goes on; else the state stays. LDG writes the generator register of its index (stated for indices 3, 11 and 12) and goes on; SFLAG sets or clears software flags; EVT raises 0x0607; HALT records its code with HCAUSE 1 and ends the sequencer; an opcode from 0x12 on fails the run with HCAUSE 2. -/
def Obligations.PatternInstructionsComplete : Prop :=
  -- NOP, JMP, TSET
  (∀ (s : State) (n : Fin 16) (w : Nat), (s.pgeAt n 0x00 = some w → exec (.pgeNop n) s = .next (s.pgeNext n)) ∧ (s.pgeAt n 0x02 = some w → exec (.pgeJmp n) s = .next (s.pgeGo n (w % 2 ^ 32)))
      ∧ (s.pgeAt n 0x08 = some w → exec (.pgeTset n) s = .next ((s.modPgx n (fun k => { k with ts := w % 16 })).pgeNext n))) ∧
  -- at another word, or with none at hand: the state stays
  (∀ (s : State) (n : Fin 16), (s.pgeAt n 0x00 = none → exec (.pgeNop n) s = .next s) ∧ (s.pgeAt n 0x01 = none → exec (.pgeHalt n) s = .next s) ∧ (s.pgeAt n 0x02 = none → exec (.pgeJmp n) s = .next s)
      ∧ (s.pgeAt n 0x03 = none → exec (.pgeCall n) s = .next s) ∧ (s.pgeAt n 0x04 = none → exec (.pgeRet n) s = .next s) ∧ (s.pgeAt n 0x05 = none → exec (.pgeBr n) s = .next s)
      ∧ (s.pgeAt n 0x06 = none → exec (.pgeLdc n) s = .next s) ∧ (s.pgeAt n 0x07 = none → exec (.pgeDjnz n) s = .next s) ∧ (s.pgeAt n 0x08 = none → exec (.pgeTset n) s = .next s)
      ∧ (s.pgeAt n 0x0B = none → exec (.pgeWaitt n) s = .next s) ∧ (s.pgeAt n 0x0C = none → exec (.pgeWaitf n) s = .next s) ∧ (s.pgeAt n 0x0D = none → exec (.pgeSyncv n) s = .next s)
      ∧ (s.pgeAt n 0x0E = none → exec (.pgeLdg n) s = .next s) ∧ (s.pgeAt n 0x0F = none → exec (.pgeSflag n) s = .next s) ∧ (s.pgeAt n 0x11 = none → exec (.pgeEvt n) s = .next s)
      ∧ ((s.pgx n).wait = none → exec (.pgeWaitEnd n) s = .next s ∧ exec (.pgeWaitTimeout n) s = .next s)
      ∧ ((∀ w, s.pgeWord n = some w → w / 2 ^ 58 % 64 < 0x12) → exec (.pgeIllegalOpcode n) s = .next s)) ∧
  -- an engine stands at a word of each opcode
  (∀ (s : State) (n : Fin 16) (op w : Nat), s.pgeWord n = some w →
      w / 2 ^ 58 % 2 ^ 6 = op →
      s.pgeAt n op = some w) ∧
  -- CALL
  (∀ (s : State) (n : Fin 16) (w : Nat), s.pgeAt n 0x03 = some w →
      (s.pgx n).stack.length < 8 →
      exec (.pgeCall n) s = .next (((s.modPgx n (fun k => { k with stack := (s.getR Reg.PGE_PC_PC n + 1) % 2 ^ 32 :: k.stack })).setR Reg.PGE_STAT_DEPTH n
      ((s.pgx n).stack.length + 1)).pgeGo n (w % 2 ^ 32))) ∧
  -- RET
  (∀ (s : State) (n : Fin 16) (w a : Nat) (rest : List Nat), s.pgeAt n 0x04 = some w →
      (s.pgx n).stack = a :: rest →
      exec (.pgeRet n) s = .next (((s.modPgx n (fun k => { k with stack := rest })).setR Reg.PGE_STAT_DEPTH n rest.length).pgeGo n a)) ∧
  -- CALL with a full stack and RET with an empty one
  (∀ (s : State) (n : Fin 16) (w : Nat), (s.pgeAt n 0x03 = some w → 8 ≤ (s.pgx n).stack.length → exec (.pgeCall n) s = .next (s.pgeFault n 3))
      ∧ (s.pgeAt n 0x04 = some w → (s.pgx n).stack = [] → exec (.pgeRet n) s = .next (s.pgeFault n 4))) ∧
  -- BR
  (∀ (s : State) (n : Fin 16) (w : Nat), s.pgeAt n 0x05 = some w →
      exec (.pgeBr n) s = .next (if s.pgeFlag n (w / 2 ^ 32 % 32) = nbit w 37 then s.pgeGo n (w % 2 ^ 32) else s.pgeNext n)) ∧
  -- LDC and DJNZ
  (∀ (s : State) (n : Fin 16) (w : Nat), (s.pgeAt n 0x06 = some w → exec (.pgeLdc n) s = .next ((s.setR Reg.PGE_C_COUNT (n.val * 4 + w / 2 ^ 32 % 4) (w % 2 ^ 32)).pgeNext n))
      ∧ (s.pgeAt n 0x07 = some w → exec (.pgeDjnz n) s = .next
      (if s.getR Reg.PGE_C_COUNT (n.val * 4 + w / 2 ^ 32 % 4) = 0 then s.pgeNext n
      else if s.getR Reg.PGE_C_COUNT (n.val * 4 + w / 2 ^ 32 % 4) = 1 then (s.setR Reg.PGE_C_COUNT (n.val * 4 + w / 2 ^ 32 % 4) 0).pgeNext n
      else (s.setR Reg.PGE_C_COUNT (n.val * 4 + w / 2 ^ 32 % 4) (s.getR Reg.PGE_C_COUNT (n.val * 4 + w / 2 ^ 32 % 4) - 1)).pgeGo n (w % 2 ^ 32)))) ∧
  -- WAITT
  (∀ (s : State) (n : Fin 16) (w : Nat), s.pgeAt n 0x0B = some w →
      exec (.pgeWaitt n) s = .next ((s.setR Reg.PGE_VT_T n (later (s.getR Reg.PGE_VT_T n)
      ((if w / 2 ^ 48 % 4 = 1 then s.getR Reg.PGE_VT_T n + w % 2 ^ 48 else if w / 2 ^ 48 % 4 = 2 then s.getR Reg.PGE_WTIME_T n
      else s.getR Reg.PGE_START_AT_AT n + w % 2 ^ 48) % 2 ^ 64))).pgeNext n)) ∧
  -- WAITF and SYNCV
  (∀ (s : State) (n : Fin 16) (w : Nat), (s.pgeAt n 0x0C = some w → exec (.pgeWaitf n) s = .next ((s.closeForming n).modPgx n (fun k =>
      { k with wait := some ⟨false, w / 2 ^ 32 % 32, nbit w 37, w % 2 ^ 32, s.clockNow⟩ })))
      ∧ (s.pgeAt n 0x0D = some w → exec (.pgeSyncv n) s = .next ((s.closeForming n).modPgx n (fun k =>
      { k with wait := some ⟨true, 0, false, w % 2 ^ 32, s.clockNow⟩ })))) ∧
  -- a wait ends, by its condition or by its timeout
  (∀ (s : State) (n : Fin 16) (w : PgeWait), (s.pgx n).wait = some w →
      s.pgeActive n = true →
      (s.waitHolds n w = true → exec (.pgeWaitEnd n) s = .next (s.waitOver n false)) ∧ (s.waitHolds n w = false → exec (.pgeWaitEnd n) s = .next s)
      ∧ (w.timeout ≠ 0 → w.timeout * 1024 ≤ s.elapsed w.since → exec (.pgeWaitTimeout n) s = .next (s.waitOver n true))
      ∧ (w.timeout = 0 ∨ s.elapsed w.since < w.timeout * 1024 → exec (.pgeWaitTimeout n) s = .next s)
      ∧ (∀ tmo, s.waitOver n tmo = ((((s.latch n 29 tmo).setR Reg.PGE_VT_T n (later (s.getR Reg.PGE_VT_T n) ((s.time.toNat + s.leadMax n) % 2 ^ 64))).modPgx n
      (fun k => { k with wait := none })).pgeNext n))) ∧
  -- LDG
  (∀ (s : State) (n : Fin 16) (w : Nat), s.pgeAt n 0x0E = some w →
      exec (.pgeLdg n) s = .next ((s.ldg n (w / 2 ^ 32 % 64) (w % 2 ^ 32)).pgeNext n)
      ∧ s.ldg n 3 (w % 2 ^ 32) = s.setR Reg.PGE_X_V n (w % 2 ^ 32)
      ∧ s.ldg n 11 (w % 2 ^ 32) = s.setR Reg.PGE_DBACK n (s.getR Reg.PGE_DBACK n / 2 ^ 32 * 2 ^ 32 + w % 2 ^ 32)
      ∧ s.ldg n 12 (w % 2 ^ 32) = s.setR Reg.PGE_DBACK n (s.getR Reg.PGE_DBACK n % 2 ^ 32 + w % 2 ^ 32 * 2 ^ 32)) ∧
  -- SFLAG and EVT
  (∀ (s : State) (n : Fin 16) (w : Nat), (s.pgeAt n 0x0F = some w → exec (.pgeSflag n) s = .next ((s.setR Reg.PGE_SFLAG_SET_F n
      (if nbit w 8 then s.getR Reg.PGE_SFLAG_SET_F n ||| w % 2 ^ 8
      else s.getR Reg.PGE_SFLAG_SET_F n - (s.getR Reg.PGE_SFLAG_SET_F n &&& w % 2 ^ 8))).pgeNext n))
      ∧ (s.pgeAt n 0x11 = some w → exec (.pgeEvt n) s = .next
      ((s.raise (pgeEp n) 0x0607 0 (pgeDetail (w % 2 ^ 16) 0 0 (s.pgeNum n))).pgeNext n))) ∧
  -- HALT
  (∀ (s : State) (n : Fin 16) (w : Nat), s.pgeAt n 0x01 = some w →
      ∃ t, exec (.pgeHalt n) s = .next t ∧ t.getR Reg.PGE_STAT_HCODE n = w % 2 ^ 16 ∧ t.getR Reg.PGE_STAT_HCAUSE n = 1 ∧ (t.pgx n).ending = 1
      ∧ t.getR Reg.PGE_PC_PC n = s.getR Reg.PGE_PC_PC n ∧ t.mem = s.mem ∧ t.time = s.time) ∧
  -- an illegal opcode
  (∀ (s : State) (n : Fin 16) (w : Nat), s.pgeWord n = some w →
      0x12 ≤ w / 2 ^ 58 % 64 →
      exec (.pgeIllegalOpcode n) s = .next (s.pgeFault n 2)
      ∧ (s.pgeFault n 2).getR Reg.PGE_STAT_HCAUSE n = 2 ∧ (s.pgeFault n 2).getR Reg.PGE_STAT_STATE n = 4 ∧ (s.pgeFault n 2).mem = s.mem)

/-- With SV at PC, no repeat left and END not latched, a DELTA or TOGGLE record at the pointer, whole and good, gives the vector, its timeset and its repeats (cvAfter), and the pointer moves past it; an END record latches flag 28; where no such record stands there, or SV does not want one, the state stays. SV with no repeat goes to the next instruction where END is latched, and fails where the record cannot be used; while no record is there it waits. SV with repeats emits as many as the outputs take, up to COUNT (stated where one vector is left of both); in general it is emitMany's outcome. SVPTR sets the pointer, begins the decoder anew and goes on. AV emits its vectors with the generator's address and data; of one vector that is emitted it then steps the chain if bit 7 is 1 and goes on; in general it is emitMany's outcome. Where none stands at PC, SV, SVPTR and AV leave the state. Emitting one vector: VNUM is its number, the next number is one more, vector time moves on by the timeset's period, and only the pattern engines' part and those two registers change. A counter at its limit takes its base and carries; else it goes up by its increment, modulo its width. -/
def Obligations.VectorInstructionsComplete : Prop :=
  -- the records
  (∀ (s : State) (n : Fin 16) (ws : List Nat), s.svWants n = true →
      s.recAt n = .ok ws →
      (ws.head?.getD 0 % 16 = 1 → exec (.pgeRecordDelta n) s = .next
      (((s.modPgx n (cvAfter ws)).setR Reg.PGE_VPTR_WORD n (s.getR Reg.PGE_VPTR_WORD n + ws.length)).pgeAhead n))
      ∧ (ws.head?.getD 0 % 16 = 2 → exec (.pgeRecordToggle n) s = .next
      (((s.modPgx n (cvAfter ws)).setR Reg.PGE_VPTR_WORD n (s.getR Reg.PGE_VPTR_WORD n + ws.length)).pgeAhead n))
      ∧ (ws.head?.getD 0 % 16 = 3 → exec (.pgeRecordEnd n) s = .next (s.latch n 28 true))) ∧
  -- a record that is not of that type, not whole or not wanted: the state stays
  (∀ (s : State) (n : Fin 16) (type : Nat), s.svWants n = false ∨ (∀ ws, s.recAt n ≠ .ok ws) ∨ (∃ ws, s.recAt n = .ok ws ∧ ws.head?.getD 0 % 16 ≠ type) →
      (type = 1 → exec (.pgeRecordDelta n) s = .next s) ∧ (type = 2 → exec (.pgeRecordToggle n) s = .next s) ∧ (type = 3 → exec (.pgeRecordEnd n) s = .next s)) ∧
  -- SV, SVPTR and AV where none stands at PC; SV that waits for a record: the state stays
  (∀ (s : State) (n : Fin 16) (w : Nat), (s.pgeAt n 0x09 = none → exec (.pgeSv n) s = .next s) ∧ (s.pgeAt n 0x10 = none → exec (.pgeSvptr n) s = .next s) ∧ (s.pgeAt n 0x0A = none → exec (.pgeAv n) s = .next s)
      ∧ (s.pgeAt n 0x09 = some w → (s.pgx n).rep = 0 → nbit (s.getR Reg.PGE_LATCHED n) 4 = false → s.recAt n = .wait → exec (.pgeSv n) s = .next s)) ∧
  -- what a TOGGLE of one group gives
  (∀ (k : Pge) (h w : Nat), h % 16 = 2 →
      h / 2 ^ 8 % 2 ^ 16 = 1 →
      (cvAfter [h, w] k).cv = k.cv.zipIdx.map (fun e => if e.2 = 0 then e.1 ^^^ w else e.1) ∧ (cvAfter [h, w] k).cm = k.cm
      ∧ (cvAfter [h, w] k).cts = h / 2 ^ 4 % 16 ∧ (cvAfter [h, w] k).rep = h / 2 ^ 24 % 2 ^ 32 + 1) ∧
  -- SV with END latched, SV at a record it cannot use, and SVPTR
  (∀ (s : State) (n : Fin 16) (w c a : Nat), (s.pgeAt n 0x09 = some w → (s.pgx n).rep = 0 → nbit (s.getR Reg.PGE_LATCHED n) 4 = true → exec (.pgeSv n) s = .next (s.pgeNext n))
      ∧ (s.pgeAt n 0x09 = some w → (s.pgx n).rep = 0 → nbit (s.getR Reg.PGE_LATCHED n) 4 = false → s.recAt n = .fail c a →
      exec (.pgeSv n) s = .next (if c = 7 then s.pgeFault n 7 else s.pgeBadWord n c a))
      ∧ (s.pgeAt n 0x10 = some w → exec (.pgeSvptr n) s = .next (((s.svReset n (w % 2 ^ 32)).pgeNext n).pgeAhead n))) ∧
  -- SV that has repeats
  (∀ (s t : State) (n : Fin 16) (w : Nat), s.pgeAt n 0x09 = some w →
      (s.pgx n).rep = 1 ∧ (s.pgx n).prog = 0 ∧ w % 2 ^ 32 = 1 ∧ nbit w 32 = false →
      s.stopNow n = false →
      s.emitOne n (if nbit w 33 then (s.pgx n).ts else (s.pgx n).cts) noAddr (fun g => ((s.pgx n).cv[g]?.getD 0, (s.pgx n).cm[g]?.getD 0)) = some t →
      exec (.pgeSv n) s = .next ((t.modPgx n (fun x => { x with rep := 0, prog := 1 })).pgeNext n)) ∧
  -- SV with repeats and AV in general: emitMany's outcome, and whether the instruction is over
  (∀ (s t : State) (n : Fin 16) (w : Nat) (r : Nat × State) (want : Nat), s.pgeAt n 0x09 = some w →
      (s.pgx n).rep ≠ 0 →
      want = (if nbit w 32 then (s.pgx n).rep else min (s.pgx n).rep (max 1 (w % 2 ^ 32) - (s.pgx n).prog)) →
      r = State.emitMany n (if nbit w 33 then (s.pgx n).ts else (s.pgx n).cts) noAddr (fun g => ((s.pgx n).cv[g]?.getD 0, (s.pgx n).cm[g]?.getD 0)) want s →
      t = r.2.modPgx n (fun x => { x with rep := (s.pgx n).rep - (want - r.1), prog := (s.pgx n).prog + (want - r.1) }) →
      exec (.pgeSv n) s = .next (if (t.pgx n).ending ≠ 0 then t else if nbit w 32 = false ∧ max 1 (w % 2 ^ 32) - (s.pgx n).prog = want - r.1 then t.pgeNext n else t)) ∧
  -- emitting one vector
  (∀ (s t : State) (n ts : Nat) (adr : AvAddr) (grp : Nat → Nat × Nat), s.emitOne n ts adr grp = some t →
      t.getR Reg.PGE_VNUM_VNUM n = (s.pgx n).num % 2 ^ 48 ∧ t.getR Reg.PGE_VT_T n = (s.getR Reg.PGE_VT_T n + s.pgePeriod n ts) % 2 ^ 64
      ∧ (t.pgx n).num = ((s.pgx n).num + 1) % 2 ^ 48 ∧ (t.pgx n).formed = true ∧ (t.pgx n).cv = (s.pgx n).cv
      ∧ Leaves [.pge] [Reg.PGE_VNUM_VNUM.key n, Reg.PGE_VT_T.key n] s t) ∧
  -- AV of one vector
  (∀ (s t : State) (n : Fin 16) (w l a : Nat), s.pgeAt n 0x0A = some w →
      (s.pgx n).prog = 0 ∧ (s.pgx n).ending = 0 ∧ w / 2 ^ 16 % 2 ^ 16 = 0 →
      s.stopNow n = false →
      l = s.logical n (nbit w 8) (nbit w 9) ∧ a = s.scrambled n l →
      s.emitOne n (if nbit w 14 then (s.pgx n).ts else w / 2 ^ 10 % 16) ⟨l, a, s.getR Reg.PGE_Z_V n, true⟩
      (s.avGroup n (w % 16) (w / 2 ^ 4 % 4) a (s.getR Reg.PGE_Z_V n) (s.genData n l (nbit w 6))) = some t →
      exec (.pgeAv n) s = .next (if nbit w 7 then ((t.modPgx n (fun x => { x with prog := 1 })).stepChain n).pgeNext n
      else (t.modPgx n (fun x => { x with prog := 1 })).pgeNext n)) ∧
  -- a counter's step
  (∀ (width v base inc lim : Nat), stepCounter width v base inc lim = (if v = lim then (base, true) else ((v + inc) % 2 ^ width, false)))

/-- Register writes first act on a test of the engine pair (touchPair, R697). FCE_ARM in a run leaves the state at that; else, with a domain descriptor that is not legal it is FAILED with REASON 1, with an area outside the fail memory with REASON 2, with statistics whose contract does not satisfy R389 with REASON 3; else what R389 lists is cleared, REASON is 0, STATE BUSY, and with a bitmap its area is written 0. FCE_ARM_COMPLETE of a BUSY engine: it captures, with event 0x0701, and the first snapshot is due now (the model's reading of R419, notes/assumptions/38); else the state stays. FCE_END of a capturing or aborted engine makes it analyse with ABORT_LATE 0; else CFG_REJ is 1. FCE_ABORT of an analysing engine makes it aborted, with event 0x0703; of one that is done, in the cycle of its commit, sets ABORT_LATE; else the state stays. FCE_SRST: STATE is 0, the input buffer and the trace are empty. FCE_ANALYSIS_COMMIT of an analysing engine with no record waiting: each table's record is written in turn to the other bank (fceRecordWrite), BANK flips, REC_CNT and REC_TIME show their number and the time, STATE is DONE in this cycle, event 0x0702 is raised, and with NOTIFY the notification packet enters the network; else the state stays. -/
def Obligations.FailCaptureRunCommandsComplete : Prop :=
  -- FCE_ARM
  (∀ (s u : State) (n : Fin 16), u = s.touchPair n →
      u.fceBusy n = false →
      u.descOk n = true ∧ (u.fceAreas n).all (fun a => decide (a.1 + a.2 ≤ 0x800000)) = true ∧ u.soutOk n = true →
      exec (.fceArm n) s = .next (if u.flag Reg.FCE_BM_CFG_EN n
      then (((u.fceClear n).setR Reg.FCE_STAT_REASON n 0).fceSt n 1).writeRange (fmAddr n (u.getR Reg.FCE_BM_BASE_OFF n)) (u.bmBytes n) 0 (fceEp n)
      else ((u.fceClear n).setR Reg.FCE_STAT_REASON n 0).fceSt n 1)
      ∧ (((u.fceClear n).setR Reg.FCE_STAT_REASON n 0).fceSt n 1).getR Reg.FCE_STAT_STATE n = 1
      ∧ ((((u.fceClear n).setR Reg.FCE_STAT_REASON n 0).fceSt n 1).fcx n).buf = []) ∧
  -- FCE_ARM that fails, or is in a run
  (∀ (s u : State) (n : Fin 16), u = s.touchPair n →
      (u.fceBusy n = true → exec (.fceArm n) s = .next u)
      ∧ (u.fceBusy n = false → u.descOk n = false → exec (.fceArm n) s = .next ((u.fceSt n 4).setR Reg.FCE_STAT_REASON n 1))
      ∧ (u.fceBusy n = false → u.descOk n = true → (u.fceAreas n).all (fun a => decide (a.1 + a.2 ≤ 0x800000)) = false →
      exec (.fceArm n) s = .next ((u.fceSt n 4).setR Reg.FCE_STAT_REASON n 2))
      ∧ (u.fceBusy n = false → u.descOk n = true → (u.fceAreas n).all (fun a => decide (a.1 + a.2 ≤ 0x800000)) = true → u.soutOk n = false →
      exec (.fceArm n) s = .next ((u.fceSt n 4).setR Reg.FCE_STAT_REASON n 3))) ∧
  -- what FCE_ARM clears
  (∀ (s : State) (n : Nat), s.fceClear n = (((s.resetRange siteFields (n * 1024) 1024).resetRange [Reg.FCE_IN_STAT_LASTSEEN, Reg.FCE_IN_STAT_GAPS] (n * 16) 16).resetFields
      [Reg.FCE_LOG_WP_WP, Reg.FCE_LOG_RP_RP, Reg.FCE_LOG_DROPS_COUNT, Reg.FCE_LOG_DROPS_OVF, Reg.FCE_POOL_USED_USED, Reg.FCE_POOL_USED_UNTRACKED,
      Reg.FCE_SOUT_PER_SKIPS, Reg.FCE_VDONE_VNUM, Reg.FCE_VDONE_HI_VALID, Reg.FCE_STAT_ABORT_LATE] n).modFcx n (fun k => { fce0 with stat := k.stat })) ∧
  -- FCE_ARM_COMPLETE
  (∀ (s : State) (n : Fin 16), (s.getR Reg.FCE_STAT_STATE n = 1 → exec (.fceArmComplete n) s = .next
      (((s.fceSt n 5).modFcx n (fun k => { k with snapAt := s.clockNow })).raise (fceEp n) 0x0701 0 0))
      ∧ (s.getR Reg.FCE_STAT_STATE n ≠ 1 → exec (.fceArmComplete n) s = .next s)) ∧
  -- FCE_END, FCE_ABORT and FCE_SRST
  (∀ (s u : State) (n : Fin 16), u = s.touchPair n →
      (u.getR Reg.FCE_STAT_STATE n = 5 ∨ u.getR Reg.FCE_STAT_STATE n = 3 → exec (.fceEnd n) s = .next ((u.fceSt n 6).setR Reg.FCE_STAT_ABORT_LATE n 0))
      ∧ (u.getR Reg.FCE_STAT_STATE n ≠ 5 → u.getR Reg.FCE_STAT_STATE n ≠ 3 → exec (.fceEnd n) s = .next (u.setR Reg.FCE_STAT_CFG_REJ n 1))
      ∧ (u.getR Reg.FCE_STAT_STATE n = 6 → exec (.fceAbort n) s = .next ((u.fceSt n 3).raise (fceEp n) 0x0703 0 0))
      ∧ (u.getR Reg.FCE_STAT_STATE n = 2 → u.inCommitCycle Reg.FCE_CMT n = true → exec (.fceAbort n) s = .next (u.setR Reg.FCE_STAT_ABORT_LATE n 1))
      ∧ (u.getR Reg.FCE_STAT_STATE n = 2 → u.inCommitCycle Reg.FCE_CMT n = false → exec (.fceAbort n) s = .next u)
      ∧ (u.getR Reg.FCE_STAT_STATE n ≠ 6 → u.getR Reg.FCE_STAT_STATE n ≠ 2 → exec (.fceAbort n) s = .next u)
      ∧ exec (.fceSrst n) s = .next ((u.fceSt n 0).modFcx n (fun k => { k with buf := [], trace := [] }))) ∧
  -- FCE_ANALYSIS_COMMIT
  (∀ (s t u : State) (n : Fin 16) (ue : List Nat) (bank base : Nat), s.getR Reg.FCE_STAT_STATE n = 6 →
      (s.fcx n).buf = [] →
      bank = 1 - s.getR Reg.FCE_STAT_BANK n →
      base = s.getR (if bank = 1 then Reg.FCE_REC_BASE1_OFF else Reg.FCE_REC_BASE0_OFF) n →
      t = (((s.fcx n).tables.map (fun e => e.1)).zipIdx.foldl (fun x e => x.fceRecordWrite n base e.2 e.1 ue) s) →
      u = (((((t.setR Reg.FCE_STAT_BANK n bank).setR Reg.FCE_REC_CNT_COUNT n (s.fcx n).tables.length).setR Reg.FCE_REC_TIME_T n s.time.toNat).fceSt n 2).markCommit
      Reg.FCE_CMT n).raise (fceEp n) 0x0702 0 (fceDetail 0 0 0 0 (s.fcx n).tables.length) →
      exec (.fceAnalysisCommit n ue) s = .next (if s.flag Reg.FCE_NOTIFY_EN n
      then u.ingress { dest := s.getR Reg.FCE_NOTIFY_EP n, src := fceEp n, prio := s.getR Reg.FCE_NOTIFY_PRIO n, len := 1, kind := 0, user := n + bank * 2 ^ 4 + (s.fcx n).tables.length % 2 ^ 13 * 2 ^ 5 + s.time.toNat * 2 ^ 64, data := [flit0] }
      else u)) ∧
  -- FCE_ANALYSIS_COMMIT of another engine: the state stays
  (∀ (s : State) (n : Fin 16) (ue : List Nat), s.getR Reg.FCE_STAT_STATE n ≠ 6 ∨ (s.fcx n).buf ≠ [] →
      exec (.fceAnalysisCommit n ue) s = .next s) ∧
  -- a domain's record: unknown domain, a table that is no longer tracked, and one that is solved
  (∀ (s t : State) (n base i key : Nat) (t0 tb : RauTable) (img : Nat → List Nat → List Nat → Bool → Nat), Map.find (s.fcx n).tables key = some t0 →
      (s.readTable n t0).1.2 = false →
      tb = (s.readTable n t0).1.1 →
      t = (s.readTable n t0).2 →
      img = (fun result rows cols heur => recordBits (key / 65536) (key % 65536) result rows cols heur (t.flag Reg.FCE_SITE_FLAGS_INCOMPLETE (n * 1024 + key / 65536))
      (t.flag Reg.FCE_SITE_FLAGS_UNCAL (n * 1024 + key / 65536)) tb) →
      (tb.status ≠ 0 → s.fceRecordWrite n base i key [] = t.writeRange (fmAddr n (base + 128 * i)) 128 (img tb.status tb.rows tb.cols false) (fceEp n))
      ∧ (∀ c, tb.status = 0 → t.fceSolve n tb = some c → s.fceRecordWrite n base i key [] = t.writeRange (fmAddr n (base + 128 * i)) 128
      (img (bit (!t.fceExact n)) (c.rows.foldl (fun l x => insertAsc x l) tb.rows) (c.cols.foldl (fun l x => insertAsc x l) tb.cols) (!t.fceExact n)) (fceEp n)))

/-- FCE_INPUT_PACKET takes the oldest packet but a breach notice. Of an enabled input's contract: a capturing engine's buffer of 4,096 takes its records, which raise 0x0706 where they do not fit; in another state they count in OUTSIDE. Of no input it counts in UNMATCHED with 0x0705, and one of another kind is also rejected per R208. FCE_TRACE_ENTRY moves the oldest entry of the pattern engine to the trace while that holds fewer than 8,192, and VDONE follows. FCE_RECORD_PROCESS of a capturing or analysing engine processes the oldest record, and VDONE follows: a record in order is evaluated and the expected number is the next; one above the expected number is a gap too, one below it a gap alone, one in a poisoned flit a gap after which the expected number is the next. A gap or a LATE record sets INCOMPLETE of the input's mapped sites that are not STOPPED, a LATE one counts LATE there and is evaluated no further. A failing site counts its fails; one that is not STOPPED shows FAIL with the number of its first fail. FCE_STAT_SNAPSHOT of a capturing engine with statistics enabled whose snapshot is due forms its packets, or, while one is being sent, counts a skip, with 0x070B the first time; the next is due one period later. FCE_STAT_PACKET_INJECT sends the oldest packet once credit covers it. FCE_BREACH_NOTICE sets BREACHED of every input of that contract, enabled or not. With nothing to take, or in another state, the state stays. -/
def Obligations.FailCaptureDataCommandsComplete : Prop :=
  -- FCE_INPUT_PACKET
  (∀ (s : State) (n : Fin 16) (p : Packet) (rest : List Packet) (q : Nat), takeFirst (fun p => decide (p.kind ≠ 6)) (s.inbox (fceEp n)) = some (p, rest) →
      p.kind = 0 →
      (s.fceInputs n).find? (fun q => decide (s.getR Reg.FCE_IN_CFG_FLOW (n.val * 16 + q) = p.flow)) = some q →
      exec (.fceInputPacket n) s = .next (if s.getR Reg.FCE_STAT_STATE n = 5
      then (if (s.fcx n).buf.length + (packetRecords q p).length ≤ 4096
      then (s.putInbox (fceEp n) rest).modFcx n (fun k => { k with buf := k.buf ++ packetRecords q p })
      else (s.putInbox (fceEp n) rest).raise (fceEp n) 0x0706 3 (fceDetail q 0 0 0 (packetRecords q p).length))
      else (s.putInbox (fceEp n) rest).satAdd Reg.FCE_ERR_OUTSIDE n (packetRecords q p).length)) ∧
  -- FCE_INPUT_PACKET of no input
  (∀ (s : State) (n : Fin 16) (p : Packet) (rest : List Packet), takeFirst (fun p => decide (p.kind ≠ 6)) (s.inbox (fceEp n)) = some (p, rest) →
      p.kind = 0 →
      (s.fceInputs n).find? (fun q => decide (s.getR Reg.FCE_IN_CFG_FLOW (n.val * 16 + q) = p.flow)) = none →
      exec (.fceInputPacket n) s = .next (((s.putInbox (fceEp n) rest).satAdd Reg.FCE_ERR_UNMATCHED n 1).raise (fceEp n) 0x0705 2 (fceDetail 0 0 0 0 p.flow))) ∧
  -- FCE_INPUT_PACKET of another kind
  (∀ (s : State) (n : Fin 16) (p : Packet) (rest : List Packet), takeFirst (fun p => decide (p.kind ≠ 6)) (s.inbox (fceEp n)) = some (p, rest) →
      p.kind ≠ 0 →
      exec (.fceInputPacket n) s = .next ((((s.putInbox (fceEp n) rest).satAdd Reg.FCE_ERR_UNMATCHED n 1).raise (fceEp n) 0x0705 2 (fceDetail 0 0 0 0 p.flow)).kindReject (fceEp n) p)) ∧
  -- nothing to take, or another state: the state stays
  (∀ (s : State) (n : Fin 16) (ue : List Nat), (takeFirst (fun p => decide (p.kind ≠ 6)) (s.inbox (fceEp n)) = none → exec (.fceInputPacket n) s = .next s)
      ∧ ((s.pgx n).trace = [] ∨ 8192 ≤ (s.fcx n).trace.length → exec (.fceTraceEntry n) s = .next s)
      ∧ ((s.fcx n).buf = [] ∨ (s.getR Reg.FCE_STAT_STATE n ≠ 5 ∧ s.getR Reg.FCE_STAT_STATE n ≠ 6) → exec (.fceRecordProcess n ue) s = .next s)
      ∧ (s.getR Reg.FCE_STAT_STATE n ≠ 5 ∨ s.flag Reg.FCE_SOUT_EN n = false ∨ s.clockNow < (s.fcx n).snapAt → exec (.fceStatSnapshot n) s = .next s)
      ∧ ((s.fcx n).stat = [] → exec (.fceStatPacketInject n) s = .next s)
      ∧ (takeFirst (fun p => decide (p.kind = 6)) (s.inbox (fceEp n)) = none → exec (.fceBreachNotice n) s = .next s)) ∧
  -- FCE_TRACE_ENTRY
  (∀ (s : State) (n : Fin 16) (e : TraceEnt) (rest : List TraceEnt), (s.pgx n).trace = e :: rest →
      (s.fcx n).trace.length < 8192 →
      exec (.fceTraceEntry n) s = .next (((s.modPgx n (fun k => { k with trace := rest })).modFcx n (fun k => { k with trace := k.trace ++ [e] })).fceVdone n)) ∧
  -- FCE_RECORD_PROCESS
  (∀ (s : State) (n : Fin 16) (ue : List Nat) (r : FceRec) (rest : List FceRec), (s.fcx n).buf = r :: rest →
      s.getR Reg.FCE_STAT_STATE n = 5 ∨ s.getR Reg.FCE_STAT_STATE n = 6 →
      exec (.fceRecordProcess n ue) s = .next (((s.modFcx n (fun k => { k with buf := rest })).fceRecord n r ue).fceVdone n)) ∧
  -- a record in order, or above the expected number, without LAST
  (∀ (s t : State) (n : Nat) (r : FceRec) (ue : List Nat) (e d : Nat), r.poison = false ∧ nbit r.flags 8 = false →
      e = (if r.timed then r.num else (s.fceIn n r.input).expected.getD r.num) →
      numLe e r.num = true →
      t = (if r.num = e then s else s.fceGap n r e) →
      d = (match (s.fceIn n r.input).done with | some d => if numLe r.num d then d else r.num | none => r.num) →
      s.fceRecord n r ue = ((t.putIn n r.input ⟨some ((r.num + 1) % 2 ^ 48), some d⟩).fceEval n r ue).fceAutoEnd n) ∧
  -- a record in a poisoned flit, and one below the expected number
  (∀ (s : State) (n e : Nat) (r : FceRec) (ue : List Nat), r.timed = false ∧ (s.fceIn n r.input).expected = some e →
      (r.poison = true → s.fceRecord n r ue = (s.fceGap n r e).putIn n r.input { (s.fceIn n r.input) with expected := some ((e + 1) % 2 ^ 48) })
      ∧ (r.poison = false → r.num ≠ e → numLe e r.num = false → s.fceRecord n r ue = s.fceGap n r e)) ∧
  -- what a gap and a LATE record leave
  (∀ (s : State) (n e : Nat) (r : FceRec) (ue : List Nat), s.fceGap n r e = (((s.setEach Reg.FCE_SITE_FLAGS_INCOMPLETE ((s.fceMapped n r.input).map (fun i => n * 1024 + i)) 1).satAdd
      Reg.FCE_IN_STAT_GAPS (n * 16 + r.input) 1).raise (fceEp n) 0x0704 3 (fceDetail r.input 0 0 r.num e))
      ∧ (nbit r.flags 1 = true → s.flag Reg.FCE_CTL_TRACE n = false → s.fceEval n r ue = (s.fceMapped n r.input).foldl (fun u i =>
      u.satAdd Reg.FCE_SITE_CNT_LATE (n * 1024 + i) 1) (s.setEach Reg.FCE_SITE_FLAGS_INCOMPLETE ((s.fceMapped n r.input).map (fun i => n * 1024 + i)) 1))
      ∧ (∀ i ∈ s.fceMapped n r.input, s.flag Reg.FCE_SITE_FLAGS_STOPPED (n * 1024 + i) = false)) ∧
  -- a failing site
  (∀ (s : State) (n site : Nat) (r : FceRec) (ue dqs : List Nat), s.flag Reg.FCE_LOG_CFG_EN n = false ∧ s.flag Reg.FCE_CTL_TRACE n = false →
      nbit r.flags 2 = false ∧ r.num < 2 ^ 48 →
      (s.flag Reg.FCE_SITE_FLAGS_STOPPED (n * 1024 + site) = true →
      s.fceSite n r none ue site dqs = s.satAdd Reg.FCE_SITE_FAILCNT_COUNT (n * 1024 + site) dqs.length)
      ∧ (s.flag Reg.FCE_SITE_FLAGS_STOPPED (n * 1024 + site) = false → s.flag Reg.FCE_SITE_FLAGS_FAIL (n * 1024 + site) = true →
      s.fceSite n r none ue site dqs = s.satAdd Reg.FCE_SITE_FAILCNT_COUNT (n * 1024 + site) dqs.length)
      ∧ (s.flag Reg.FCE_SITE_FLAGS_STOPPED (n * 1024 + site) = false → s.flag Reg.FCE_SITE_FLAGS_FAIL (n * 1024 + site) = false →
      s.fceSite n r none ue site dqs = (((s.satAdd Reg.FCE_SITE_FAILCNT_COUNT (n * 1024 + site) dqs.length).setR Reg.FCE_SITE_FLAGS_FAIL (n * 1024 + site) 1).setR
      Reg.FCE_SITE_FFV_VNUM (n * 1024 + site) r.num).setR Reg.FCE_SITE_FFT_T (n * 1024 + site) (2 ^ 64 - 1))) ∧
  -- FCE_STAT_SNAPSHOT
  (∀ (s t : State) (n : Fin 16), s.getR Reg.FCE_STAT_STATE n = 5 →
      s.flag Reg.FCE_SOUT_EN n = true →
      (s.fcx n).snapAt ≤ s.clockNow →
      t = s.modFcx n (fun k => { k with snapAt := (k.snapAt + max 1 (s.getR Reg.FCE_SOUT_PER_PERIOD n) * frameTicks) % 2 ^ 64 }) →
      ((s.fcx n).stat = [] → exec (.fceStatSnapshot n) s = .next (t.modFcx n (fun k => { k with stat := s.statPackets n (max 1 (s.getR Reg.FCE_SOUT_SPKT n)) (min 1024 (s.getR Reg.FCE_SOUT_RANGE_SITE0 n + max 1 (min 1024 (s.getR Reg.FCE_SOUT_RANGE_NS n)))) 1024 (s.getR Reg.FCE_SOUT_RANGE_SITE0 n) })))
      ∧ ((s.fcx n).stat ≠ [] → (s.fcx n).onceSkip = true → exec (.fceStatSnapshot n) s = .next (t.satAdd Reg.FCE_SOUT_PER_SKIPS n 1))
      ∧ ((s.fcx n).stat ≠ [] → (s.fcx n).onceSkip = false → exec (.fceStatSnapshot n) s = .next
      (((t.satAdd Reg.FCE_SOUT_PER_SKIPS n 1).modFcx n (fun k => { k with onceSkip := true })).raise (fceEp n) 0x070B 2 0))) ∧
  -- FCE_STAT_PACKET_INJECT
  (∀ (s : State) (n : Fin 16) (p : Packet) (rest : List Packet), (s.fcx n).stat = p :: rest →
      (s.covers p.flow (p.len + 1) = true → exec (.fceStatPacketInject n) s = .next ((s.modFcx n (fun k => { k with stat := rest })).ingress p))
      ∧ (s.covers p.flow (p.len + 1) = false → exec (.fceStatPacketInject n) s = .next s)) ∧
  -- FCE_BREACH_NOTICE
  (∀ (s : State) (n : Fin 16) (p : Packet) (rest : List Packet), takeFirst (fun p => decide (p.kind = 6)) (s.inbox (fceEp n)) = some (p, rest) →
      exec (.fceBreachNotice n) s = .next ((s.putInbox (fceEp n) rest).setEach Reg.FCE_IN_STAT_BREACHED
      (((List.range 16).filter (fun q => decide (s.getR Reg.FCE_IN_CFG_FLOW (n.val * 16 + q) = noticeBits p % 2 ^ 12))).map (fun q => n.val * 16 + q)) 1))

/-- Whenever the exact solver answers for a table's cells, with its spare rows and columns, every cell lies in one of its rows or columns, it takes no more rows and columns than there are spares, and every set of rows and columns within the spares that covers every cell has at least as many lines. Where such a set exists, the solver answers. -/
def Obligations.ExactRepairIsACover : Prop :=
  (∀ (prefCol : Bool) (cells : List (Nat × Nat)) (sr sc : Nat) (c : Cover), exactCover prefCol (sr + sc) cells sr sc ⟨[], []⟩ = some c →
      (∀ e ∈ cells, e.1 ∈ c.rows ∨ e.2 ∈ c.cols) ∧ c.rows.length ≤ sr ∧ c.cols.length ≤ sc
      ∧ ∀ rows cols : List Nat, rows.length ≤ sr → cols.length ≤ sc → (∀ e ∈ cells, e.1 ∈ rows ∨ e.2 ∈ cols) →
      c.rows.length + c.cols.length ≤ rows.length + cols.length) ∧
  -- where a cover exists
  (∀ (prefCol : Bool) (cells : List (Nat × Nat)) (sr sc : Nat) (rows cols : List Nat), rows.length ≤ sr ∧ cols.length ≤ sc →
      (∀ e ∈ cells, e.1 ∈ rows ∨ e.2 ∈ cols) →
      exactCover prefCol (sr + sc) cells sr sc ⟨[], []⟩ ≠ none)

/-- Whenever the heuristic solver answers for a table's cells, every cell lies in one of its rows or columns, and it takes no more rows and columns than there are spares. -/
def Obligations.HeuristicRepairIsACover : Prop :=
  (∀ (prefCol : Bool) (cells : List (Nat × Nat)) (sr sc : Nat) (c : Cover), heurCover prefCol (sr + sc) cells sr sc ⟨[], []⟩ = some c →
      (∀ e ∈ cells, e.1 ∈ c.rows ∨ e.2 ∈ c.cols) ∧ c.rows.length ≤ sr ∧ c.cols.length ≤ sc)

/-- An instruction's command acts where the processor runs and the word at hand (mspWord: under REPEAT, cached, fetched ahead or fetched) has its OP; else the state stays. A word fetched from a poisoned word ends the run with ECAUSE 7, a poisoned operand (Da, Db; Da alone for ADDI, ABS and SHIFT by an amount) with 5, an OP from 0x20 to 0x2F with 1. Otherwise ADD, ADDI and SUB write the sum or difference of 32 bits with Z, N, V and C; AND, OR, XOR, MIN and MAX write theirs with V and C clear; CMP writes the flags of the difference alone; SHIFT writes its result and shows the last bit shifted out in C; ABS writes the magnitude, 2^31 - 1 with LIMIT for the most negative number. Each takes one cycle and PC moves on, or one iteration of a REPEAT passes. The flags of a sum: Z and N of the result, V where the signed sum differs from it, C where the unsigned sum reaches 2^32; of a difference: V likewise, C where no borrow occurs. An exception leaves PC, the state FAILED and ECAUSE. -/
def Obligations.MspArithmeticComplete : Prop :=
  -- no word at hand, or one of another instruction: the state stays
  (∀ (s t : State) (m : Fin 128) (w : Nat) (p : Bool), (s.mspWord m = none → exec (.mspAdd m) s = .next s ∧ exec (.mspSub m) s = .next s ∧ exec (.mspAnd m) s = .next s ∧ exec (.mspOr m) s = .next s ∧ exec (.mspXor m) s = .next s ∧ exec (.mspAddi m) s = .next s ∧ exec (.mspShift m) s = .next s ∧ exec (.mspCmp m) s = .next s ∧ exec (.mspMin m) s = .next s ∧ exec (.mspMax m) s = .next s ∧ exec (.mspAbs m) s = .next s)
      ∧ (s.mspWord m = some ((w, p), t) → mspOp w ≠ 0x10 → exec (.mspAdd m) s = .next s)
      ∧ (s.mspWord m = some ((w, p), t) → mspOp w ≠ 0x11 → exec (.mspSub m) s = .next s)
      ∧ (s.mspWord m = some ((w, p), t) → mspOp w ≠ 0x12 → exec (.mspAnd m) s = .next s)
      ∧ (s.mspWord m = some ((w, p), t) → mspOp w ≠ 0x13 → exec (.mspOr m) s = .next s)
      ∧ (s.mspWord m = some ((w, p), t) → mspOp w ≠ 0x14 → exec (.mspXor m) s = .next s)
      ∧ (s.mspWord m = some ((w, p), t) → mspOp w ≠ 0x15 → exec (.mspAddi m) s = .next s)
      ∧ (s.mspWord m = some ((w, p), t) → mspOp w ≠ 0x16 → exec (.mspShift m) s = .next s)
      ∧ (s.mspWord m = some ((w, p), t) → mspOp w ≠ 0x17 → exec (.mspCmp m) s = .next s)
      ∧ (s.mspWord m = some ((w, p), t) → mspOp w ≠ 0x18 → exec (.mspMin m) s = .next s)
      ∧ (s.mspWord m = some ((w, p), t) → mspOp w ≠ 0x19 → exec (.mspMax m) s = .next s)
      ∧ (s.mspWord m = some ((w, p), t) → mspOp w ≠ 0x1A → exec (.mspAbs m) s = .next s)) ∧
  -- no word, or one below 0x20 or above 0x2F: MSP_ILLEGAL leaves the state
  (∀ (s t : State) (m : Fin 128) (w : Nat) (p : Bool), (s.mspWord m = none → exec (.mspIllegal m) s = .next s) ∧ (s.mspWord m = some ((w, p), t) → (mspOp w < 0x20 ∨ 0x2F < mspOp w) → exec (.mspIllegal m) s = .next s)) ∧
  -- words of no instruction: ECAUSE 1, or 7 for a poisoned one
  (∀ (s t : State) (m : Fin 128) (w : Nat) (p : Bool), s.mspWord m = some ((w, p), t) →
      0x20 ≤ mspOp w ∧ mspOp w ≤ 0x2F →
      exec (.mspIllegal m) s = .next (t.mspExc m (if p then 7 else 1))) ∧
  -- a word fetched from a poisoned word: ECAUSE 7
  (∀ (s t : State) (m : Fin 128) (w : Nat), s.mspWord m = some ((w, true), t) →
      (mspOp w = 0x10 → exec (.mspAdd m) s = .next (t.mspExc m 7))
      ∧ (mspOp w = 0x11 → exec (.mspSub m) s = .next (t.mspExc m 7))
      ∧ (mspOp w = 0x12 → exec (.mspAnd m) s = .next (t.mspExc m 7))
      ∧ (mspOp w = 0x13 → exec (.mspOr m) s = .next (t.mspExc m 7))
      ∧ (mspOp w = 0x14 → exec (.mspXor m) s = .next (t.mspExc m 7))
      ∧ (mspOp w = 0x15 → exec (.mspAddi m) s = .next (t.mspExc m 7))
      ∧ (mspOp w = 0x16 → exec (.mspShift m) s = .next (t.mspExc m 7))
      ∧ (mspOp w = 0x17 → exec (.mspCmp m) s = .next (t.mspExc m 7))
      ∧ (mspOp w = 0x18 → exec (.mspMin m) s = .next (t.mspExc m 7))
      ∧ (mspOp w = 0x19 → exec (.mspMax m) s = .next (t.mspExc m 7))
      ∧ (mspOp w = 0x1A → exec (.mspAbs m) s = .next (t.mspExc m 7))) ∧
  -- a poisoned operand: ECAUSE 5
  (∀ (s t : State) (m : Fin 128) (w : Nat), s.mspWord m = some ((w, false), t) →
      ((aluSrcs w).any (t.dPois m) = true → (mspOp w = 0x10 → exec (.mspAdd m) s = .next (t.mspExc m 5))
      ∧ (mspOp w = 0x11 → exec (.mspSub m) s = .next (t.mspExc m 5))
      ∧ (mspOp w = 0x12 → exec (.mspAnd m) s = .next (t.mspExc m 5))
      ∧ (mspOp w = 0x13 → exec (.mspOr m) s = .next (t.mspExc m 5))
      ∧ (mspOp w = 0x14 → exec (.mspXor m) s = .next (t.mspExc m 5))
      ∧ (mspOp w = 0x17 → exec (.mspCmp m) s = .next (t.mspExc m 5))
      ∧ (mspOp w = 0x18 → exec (.mspMin m) s = .next (t.mspExc m 5))
      ∧ (mspOp w = 0x19 → exec (.mspMax m) s = .next (t.mspExc m 5))
      ∧ (mspOp w = 0x16 → nbit w 11 = true → exec (.mspShift m) s = .next (t.mspExc m 5)))
      ∧ (t.dPois m (w / 2 ^ 18 % 16) = true → (mspOp w = 0x15 → exec (.mspAddi m) s = .next (t.mspExc m 5)) ∧ (mspOp w = 0x1A → exec (.mspAbs m) s = .next (t.mspExc m 5))
      ∧ (mspOp w = 0x16 → nbit w 11 = false → exec (.mspShift m) s = .next (t.mspExc m 5)))) ∧
  -- two operands
  (∀ (s t : State) (m : Fin 128) (w a b : Nat), s.mspWord m = some ((w, false), t) →
      (aluSrcs w).any (t.dPois m) = false →
      a = t.mspD m (w / 2 ^ 18 % 16) ∧ b = t.mspD m (w / 2 ^ 14 % 16) →
      (mspOp w = 0x10 → exec (.mspAdd m) s = .next ((t.mspSum m (w / 2 ^ 22 % 16) a b).mspDone m 1))
      ∧ (mspOp w = 0x11 → exec (.mspSub m) s = .next (((t.setD m (w / 2 ^ 22 % 16) ((a + 2 ^ 32 - b) % 2 ^ 32)).mspDiffFlags m a b).mspDone m 1))
      ∧ (mspOp w = 0x12 → exec (.mspAnd m) s = .next ((t.mspLogic m (w / 2 ^ 22 % 16) (a &&& b)).mspDone m 1))
      ∧ (mspOp w = 0x13 → exec (.mspOr m) s = .next ((t.mspLogic m (w / 2 ^ 22 % 16) (a ||| b)).mspDone m 1))
      ∧ (mspOp w = 0x14 → exec (.mspXor m) s = .next ((t.mspLogic m (w / 2 ^ 22 % 16) (a ^^^ b)).mspDone m 1))
      ∧ (mspOp w = 0x17 → exec (.mspCmp m) s = .next ((t.mspDiffFlags m a b).mspDone m 1))
      ∧ (mspOp w = 0x18 → exec (.mspMin m) s = .next ((t.mspLogic m (w / 2 ^ 22 % 16) (if signed 32 b < signed 32 a then b else a)).mspDone m 1))
      ∧ (mspOp w = 0x19 → exec (.mspMax m) s = .next ((t.mspLogic m (w / 2 ^ 22 % 16) (if signed 32 a < signed 32 b then b else a)).mspDone m 1))) ∧
  -- one operand
  (∀ (s t : State) (m : Fin 128) (w a n : Nat), s.mspWord m = some ((w, false), t) →
      (t.dPois m (w / 2 ^ 18 % 16) = false ∧ (nbit w 11 = true → t.dPois m (w / 2 ^ 14 % 16) = false)) →
      a = t.mspD m (w / 2 ^ 18 % 16) →
      n = (if nbit w 11 then t.mspD m (w / 2 ^ 14 % 16) % 32 else w % 32) →
      (mspOp w = 0x15 → exec (.mspAddi m) s = .next ((t.mspSum m (w / 2 ^ 22 % 16) a (unsigned 32 (signed 14 (w % 2 ^ 14)))).mspDone m 1))
      ∧ (mspOp w = 0x16 → exec (.mspShift m) s = .next (((t.setD m (w / 2 ^ 22 % 16) (shiftBy (w / 2 ^ 12 % 4) a n).1).setFlags m
      (shiftBy (w / 2 ^ 12 % 4) a n).1 false (shiftBy (w / 2 ^ 12 % 4) a n).2).mspDone m 1))
      ∧ (mspOp w = 0x1A → exec (.mspAbs m) s = .next (if a = 2 ^ 31 then ((t.mspLogic m (w / 2 ^ 22 % 16) (2 ^ 31 - 1)).setSr m 4 true).mspDone m 1
      else (t.mspLogic m (w / 2 ^ 22 % 16) (signed 32 a).natAbs).mspDone m 1))) ∧
  -- a shift: by 0 nothing is shifted out; else left, right, arithmetic right, rotate right
  (∀ (v n : Nat), (∀ k, shiftBy k v 0 = (v, false)) ∧ (n ≠ 0 → shiftBy 0 v n = (v * 2 ^ n % 2 ^ 32, nbit v (32 - n)) ∧ shiftBy 1 v n = (v / 2 ^ n, nbit v (n - 1))
      ∧ shiftBy 2 v n = (unsigned 32 (signed 32 v / (2 ^ n : Nat)), nbit v (n - 1)) ∧ shiftBy 3 v n = (v / 2 ^ n + v % 2 ^ n * 2 ^ (32 - n), nbit v (n - 1)))) ∧
  -- the flags of a sum
  (∀ (s : State) (m : Fin 128) (d a b : Nat), d < 16 →
      (s.mspSum m d a b).mspD m d = (a + b) % 2 ^ 32 ∧ (s.mspSum m d a b).dPois m d = false
      ∧ (s.mspSum m d a b).srBit m 0 = decide ((a + b) % 2 ^ 32 = 0) ∧ (s.mspSum m d a b).srBit m 1 = nbit ((a + b) % 2 ^ 32) 31
      ∧ (s.mspSum m d a b).srBit m 2 = decide (signed 32 a + signed 32 b ≠ signed 32 ((a + b) % 2 ^ 32))
      ∧ (s.mspSum m d a b).srBit m 3 = decide (2 ^ 32 ≤ a + b) ∧ (s.mspSum m d a b).srBit m 4 = s.srBit m 4
      ∧ (s.mspSum m d a b).srBit m 5 = s.srBit m 5 ∧ (s.mspSum m d a b).srBit m 6 = s.srBit m 6
      ∧ Leaves [] [Reg.MSP_D_V.key (m * 16 + d), Reg.MSP_POIS_D.key m, Reg.MSP_SR_V.key m] s (s.mspSum m d a b)) ∧
  -- the flags of a difference and of a logical result
  (∀ (s : State) (m : Fin 128) (d a b : Nat), d < 16 ∧ a < 2 ^ 32 ∧ b < 2 ^ 32 →
      (s.mspDiffFlags m a b).srBit m 0 = decide (a = b) ∧ (s.mspDiffFlags m a b).srBit m 3 = decide (b ≤ a)
      ∧ (s.mspDiffFlags m a b).srBit m 2 = decide (signed 32 a - signed 32 b ≠ signed 32 ((a + 2 ^ 32 - b) % 2 ^ 32))
      ∧ Leaves [] [Reg.MSP_SR_V.key m] s (s.mspDiffFlags m a b)
      ∧ (s.mspLogic m d a).mspD m d = a ∧ (s.mspLogic m d a).srBit m 2 = false ∧ (s.mspLogic m d a).srBit m 3 = false
      ∧ (s.mspLogic m d a).srBit m 0 = decide (a = 0) ∧ (s.mspLogic m d a).srBit m 1 = nbit a 31) ∧
  -- an instruction done, outside REPEAT; an exception
  (∀ (s : State) (m : Fin 128) (n c : Nat), (s.mspx m).rep = none →
      c < 8 →
      (s.mspDone m n).getR Reg.MSP_PC_PC m = (s.getR Reg.MSP_PC_PC m + 1) % 2 ^ 14
      ∧ (s.mspDone m n).getR Reg.MSP_CYCLES_COUNT m = (s.getR Reg.MSP_CYCLES_COUNT m + n) % 2 ^ 32
      ∧ Leaves [.msp] [Reg.MSP_PC_PC.key m, Reg.MSP_CYCLES_COUNT.key m] s (s.mspDone m n)
      ∧ (s.mspExc m c).getR Reg.MSP_STAT_STATE m = 4 ∧ (s.mspExc m c).getR Reg.MSP_STAT_ECAUSE m = c
      ∧ (s.mspExc m c).getR Reg.MSP_PC_PC m = s.getR Reg.MSP_PC_PC m ∧ (s.mspExc m c).mem = s.mem)

/-- An instruction's command acts where the processor runs and the word at hand has its OP, 64 naming the parallel format; else the state stays. A poisoned word ends the run with ECAUSE 7, a poisoned operand of MACD, ACC kinds 4 and 5, MINIX, MAXIX, MOVS to a special register or a parallel multiply with 5, a poisoned pointer of an access with 6. MACD accumulates two products in the two accumulators of its pair, or subtracts them; ACC does what its KIND names; STA stores an accumulator, rounded and shifted right, kept within 32 or 64 bits, with LIMIT where it had to be. MINIX and MAXIX keep the better value with its index and step IX; with one register for both the result is a free value (the model's, R446 states none), and with XEN they load and post-modify. LDI, MOV, SFLG, MOVP and MOVS move as given, MOV and MOVP with the poison bit; a read of TIME_LO keeps the high half. LD and ST move 32 or 64 bits of X or Y at the pointer plus its offset and post-modify the pointer unless NOMOD is 1. The parallel format multiplies, then makes its X and its Y access at the old pointers, stores as the D registers were before, and post-modifies each pointer used once. Each takes one cycle, and the stall of R442 where an access uses what the last instruction wrote. -/
def Obligations.MspSignalCommandsComplete : Prop :=
  -- no word at hand, or one of another instruction: the state stays
  (∀ (s t : State) (m : Fin 128) (w : Nat) (p : Bool) (lag : Fin 2561), (s.mspWord m = none → exec (.mspMacd m) s = .next s ∧ exec (.mspAcc m) s = .next s ∧ exec (.mspSta m) s = .next s ∧ exec (.mspMinix m) s = .next s ∧ exec (.mspMaxix m) s = .next s ∧ exec (.mspLdi m) s = .next s ∧ exec (.mspMov m) s = .next s ∧ exec (.mspSflg m) s = .next s ∧ exec (.mspMovp m) s = .next s ∧ exec (.mspMovs m lag) s = .next s ∧ exec (.mspLd m) s = .next s ∧ exec (.mspSt m) s = .next s ∧ exec (.mspParallel m) s = .next s)
      ∧ (s.mspWord m = some ((w, p), t) → mspOp w ≠ 0x1D → exec (.mspMacd m) s = .next s)
      ∧ (s.mspWord m = some ((w, p), t) → mspOp w ≠ 0x1E → exec (.mspAcc m) s = .next s)
      ∧ (s.mspWord m = some ((w, p), t) → mspOp w ≠ 0x1F → exec (.mspSta m) s = .next s)
      ∧ (s.mspWord m = some ((w, p), t) → mspOp w ≠ 0x1B → exec (.mspMinix m) s = .next s)
      ∧ (s.mspWord m = some ((w, p), t) → mspOp w ≠ 0x1C → exec (.mspMaxix m) s = .next s)
      ∧ (s.mspWord m = some ((w, p), t) → mspOp w ≠ 0x0A → exec (.mspLdi m) s = .next s)
      ∧ (s.mspWord m = some ((w, p), t) → mspOp w ≠ 0x0B → exec (.mspMov m) s = .next s)
      ∧ (s.mspWord m = some ((w, p), t) → mspOp w ≠ 0x09 → exec (.mspSflg m) s = .next s)
      ∧ (s.mspWord m = some ((w, p), t) → mspOp w ≠ 0x0C → exec (.mspMovp m) s = .next s)
      ∧ (s.mspWord m = some ((w, p), t) → mspOp w ≠ 0x0D → exec (.mspMovs m lag) s = .next s)
      ∧ (s.mspWord m = some ((w, p), t) → mspOp w ≠ 0x0E → exec (.mspLd m) s = .next s)
      ∧ (s.mspWord m = some ((w, p), t) → mspOp w ≠ 0x0F → exec (.mspSt m) s = .next s)
      ∧ (s.mspWord m = some ((w, p), t) → mspOp w ≠ 64 → exec (.mspParallel m) s = .next s)) ∧
  -- a word fetched from a poisoned word: ECAUSE 7
  (∀ (s t : State) (m : Fin 128) (w : Nat) (lag : Fin 2561), s.mspWord m = some ((w, true), t) →
      (mspOp w = 0x1D → exec (.mspMacd m) s = .next (t.mspExc m 7))
      ∧ (mspOp w = 0x1E → exec (.mspAcc m) s = .next (t.mspExc m 7))
      ∧ (mspOp w = 0x1F → exec (.mspSta m) s = .next (t.mspExc m 7))
      ∧ (mspOp w = 0x1B → exec (.mspMinix m) s = .next (t.mspExc m 7))
      ∧ (mspOp w = 0x1C → exec (.mspMaxix m) s = .next (t.mspExc m 7))
      ∧ (mspOp w = 0x0A → exec (.mspLdi m) s = .next (t.mspExc m 7))
      ∧ (mspOp w = 0x0B → exec (.mspMov m) s = .next (t.mspExc m 7))
      ∧ (mspOp w = 0x09 → exec (.mspSflg m) s = .next (t.mspExc m 7))
      ∧ (mspOp w = 0x0C → exec (.mspMovp m) s = .next (t.mspExc m 7))
      ∧ (mspOp w = 0x0D → exec (.mspMovs m lag) s = .next (t.mspExc m 7))
      ∧ (mspOp w = 0x0E → exec (.mspLd m) s = .next (t.mspExc m 7))
      ∧ (mspOp w = 0x0F → exec (.mspSt m) s = .next (t.mspExc m 7))
      ∧ (mspOp w = 64 → exec (.mspParallel m) s = .next (t.mspExc m 7))) ∧
  -- a poisoned operand: ECAUSE 5; a poisoned pointer of an access: 6
  (∀ (s t : State) (m : Fin 128) (w : Nat) (lag : Fin 2561), s.mspWord m = some ((w, false), t) →
      (mspOp w = 0x1D → [w / 2 ^ 18 % 16, w / 2 ^ 14 % 16, w / 2 ^ 10 % 16, w / 2 ^ 6 % 16].any (t.dPois m) = true → exec (.mspMacd m) s = .next (t.mspExc m 5))
      ∧ (mspOp w = 0x1E → w / 2 ^ 15 % 8 = 4 ∨ w / 2 ^ 15 % 8 = 5 → t.dPois m (w / 2 ^ 18 % 16) = true → exec (.mspAcc m) s = .next (t.mspExc m 5))
      ∧ (t.dPois m (w / 2 ^ 22 % 16) = true ∨ t.dPois m (w / 2 ^ 18 % 16) = true → (mspOp w = 0x1B → exec (.mspMinix m) s = .next (t.mspExc m 5))
      ∧ (mspOp w = 0x1C → exec (.mspMaxix m) s = .next (t.mspExc m 5)) ∧ (mspOp w = 64 → w / 2 ^ 28 % 4 ≠ 0 → exec (.mspParallel m) s = .next (t.mspExc m 5)))
      ∧ (mspOp w = 0x0D → nbit w 15 = true → t.dPois m (w / 2 ^ 22 % 16) = true → exec (.mspMovs m lag) s = .next (t.mspExc m 5))
      ∧ (t.pPois m (w / 2 ^ 19 % 8) = true → (mspOp w = 0x0E → exec (.mspLd m) s = .next (t.mspExc m 6)) ∧ (mspOp w = 0x0F → exec (.mspSt m) s = .next (t.mspExc m 6)))
      ∧ (t.dPois m (w / 2 ^ 22 % 16) = false → t.dPois m (w / 2 ^ 18 % 16) = false →
      (nbit w 13 = true → t.pPois m (w / 2 ^ 6 % 8) = true → (mspOp w = 0x1B → exec (.mspMinix m) s = .next (t.mspExc m 6))
      ∧ (mspOp w = 0x1C → exec (.mspMaxix m) s = .next (t.mspExc m 6)))
      ∧ (mspOp w = 64 → (nbit w 17 = true ∧ t.pPois m (w / 2 ^ 9 % 8) = true) ∨ (nbit w 8 = true ∧ t.pPois m (w % 8) = true) → exec (.mspParallel m) s = .next (t.mspExc m 6)))) ∧
  -- MACD
  (∀ (s t : State) (m : Fin 128) (w : Nat), s.mspWord m = some ((w, false), t) →
      mspOp w = 0x1D →
      [w / 2 ^ 18 % 16, w / 2 ^ 14 % 16, w / 2 ^ 10 % 16, w / 2 ^ 6 % 16].any (t.dPois m) = false →
      exec (.mspMacd m) s = .next
      (((t.mspMul m (if nbit w 25 then 2 else 1) (2 * (w / 2 ^ 24 % 2)) (w / 2 ^ 18 % 16) (w / 2 ^ 14 % 16)).mspMul m (if nbit w 25 then 2 else 1)
      (2 * (w / 2 ^ 24 % 2) + 1) (w / 2 ^ 10 % 16) (w / 2 ^ 6 % 16)).mspDone m 1)) ∧
  -- ACC, each KIND
  (∀ (s t : State) (m : Fin 128) (w : Nat) (x y d : Int), s.mspWord m = some ((w, false), t) →
      mspOp w = 0x1E →
      (w / 2 ^ 15 % 8 = 4 ∨ w / 2 ^ 15 % 8 = 5 → t.dPois m (w / 2 ^ 18 % 16) = false) →
      x = t.mspA m (w / 2 ^ 24 % 4) →
      y = t.mspA m (w / 2 ^ 22 % 4) →
      d = signed 32 (t.mspD m (w / 2 ^ 18 % 16)) →
      (w / 2 ^ 15 % 8 = 0 → exec (.mspAcc m) s = .next ((t.setA m (w / 2 ^ 24 % 4) (x + y)).mspDone m 1))
      ∧ (w / 2 ^ 15 % 8 = 1 → exec (.mspAcc m) s = .next ((t.setA m (w / 2 ^ 24 % 4) (x - y)).mspDone m 1))
      ∧ (w / 2 ^ 15 % 8 = 2 → exec (.mspAcc m) s = .next ((t.setA m (w / 2 ^ 24 % 4) y).mspDone m 1))
      ∧ (w / 2 ^ 15 % 8 = 3 → exec (.mspAcc m) s = .next ((t.setA m (w / 2 ^ 24 % 4) 0).mspDone m 1))
      ∧ (w / 2 ^ 15 % 8 = 4 → exec (.mspAcc m) s = .next ((t.setA m (w / 2 ^ 24 % 4) d).mspDone m 1))
      ∧ (w / 2 ^ 15 % 8 = 5 → exec (.mspAcc m) s = .next ((t.setA m (w / 2 ^ 24 % 4) (x + d * 2 ^ 32)).mspDone m 1))
      ∧ (w / 2 ^ 15 % 8 = 6 → exec (.mspAcc m) s = .next ((t.setA m (w / 2 ^ 24 % 4) (x / (2 ^ (w % 64) : Nat))).mspDone m 1))
      ∧ (w / 2 ^ 15 % 8 = 7 → exec (.mspAcc m) s = .next ((t.setA m (w / 2 ^ 24 % 4) (x * (2 ^ (w % 64) : Nat))).mspDone m 1))) ∧
  -- STA
  (∀ (s t : State) (m : Fin 128) (w : Nat) (r : Int) (c : Int × Bool), s.mspWord m = some ((w, false), t) →
      mspOp w = 0x1F →
      r = (if nbit w 19 = true ∧ w % 64 ≠ 0 then (2 ^ (w % 64 - 1) : Nat) else 0) →
      c = clampTo (if nbit w 18 then 64 else 32) ((t.mspA m (w / 2 ^ 20 % 4) + r) / (2 ^ (w % 64) : Nat)) →
      (nbit w 18 = false → exec (.mspSta m) s = .next ((if c.2 then (t.setD m (w / 2 ^ 22 % 16) (unsigned 32 c.1)).setSr m 4 true
      else t.setD m (w / 2 ^ 22 % 16) (unsigned 32 c.1)).mspDone m 1))
      ∧ (nbit w 18 = true → exec (.mspSta m) s = .next ((if c.2
      then ((t.setD m (w / 2 ^ 22 % 16 / 2 * 2) (unsigned 32 c.1)).setD m (w / 2 ^ 22 % 16 / 2 * 2 + 1) (unsigned 64 c.1 / 2 ^ 32)).setSr m 4 true
      else (t.setD m (w / 2 ^ 22 % 16 / 2 * 2) (unsigned 32 c.1)).setD m (w / 2 ^ 22 % 16 / 2 * 2 + 1) (unsigned 64 c.1 / 2 ^ 32)).mspDone m 1))) ∧
  -- a number kept within its bits
  (∀ (w : Nat) (v : Int), 1 ≤ w →
      clampTo w v = (if v < -((2 ^ (w - 1) : Nat) : Int) then (-((2 ^ (w - 1) : Nat) : Int), true)
      else if ((2 ^ (w - 1) : Nat) : Int) ≤ v then (((2 ^ (w - 1) : Nat) : Int) - 1, true) else (v, false))) ∧
  -- a product accumulated, and an accumulator's value
  (∀ (s : State) (m : Fin 128) (a da db : Nat) (v : Int), a < 4 →
      s.mspMul m 1 a da db = s.setA m a (s.mspA m a + s.mspProd m da db) ∧ s.mspMul m 2 a da db = s.setA m a (s.mspA m a - s.mspProd m da db)
      ∧ s.mspMul m 3 a da db = s.setA m a (s.mspProd m da db) ∧ s.mspMul m 0 a da db = s
      ∧ (s.setA m a v).mspA m a = signed 80 (unsigned 80 v)
      ∧ (-(2 ^ 79) ≤ v → v < 2 ^ 79 → (s.setA m a v).mspA m a = v ∧ (s.setA m a v).srBit m 5 = s.srBit m 5)
      ∧ (v < -(2 ^ 79) ∨ 2 ^ 79 ≤ v → (s.setA m a v).srBit m 5 = true)) ∧
  -- MINIX and MAXIX
  (∀ (s t : State) (m : Fin 128) (w : Nat), s.mspWord m = some ((w, false), t) →
      (t.dPois m (w / 2 ^ 22 % 16) = false ∧ t.dPois m (w / 2 ^ 18 % 16) = false ∧ (nbit w 13 = true → t.pPois m (w / 2 ^ 6 % 8) = false)) →
      (mspOp w = 0x1B → exec (.mspMinix m) s = .next ((t.mspIndexed m w (fun a b => decide (a < b))).mspDone m
      (1 + t.mspStall m (if nbit w 13 then [w / 2 ^ 6 % 8] else []) (if nbit w 13 then [w / 2 ^ 6 % 8] else []))))
      ∧ (mspOp w = 0x1C → exec (.mspMaxix m) s = .next ((t.mspIndexed m w (fun a b => decide (b < a))).mspDone m
      (1 + t.mspStall m (if nbit w 13 then [w / 2 ^ 6 % 8] else []) (if nbit w 13 then [w / 2 ^ 6 % 8] else []))))) ∧
  -- what they write
  (∀ (t u : State) (m w : Nat) (better : Int → Int → Bool), u = (if better (signed 32 (t.mspD m (w / 2 ^ 22 % 16))) (signed 32 (t.mspD m (w / 2 ^ 18 % 16)))
      then (if w / 2 ^ 18 % 16 = w / 2 ^ 14 % 16 then (t.setD m (w / 2 ^ 18 % 16) (Config.freeWord t.free).toNat).draw
      else (t.setD m (w / 2 ^ 18 % 16) (t.mspD m (w / 2 ^ 22 % 16))).setD m (w / 2 ^ 14 % 16) (t.getR Reg.MSP_IX_V m))
      else t).setR Reg.MSP_IX_V m (t.getR Reg.MSP_IX_V m + 1) →
      (nbit w 13 = false → t.mspIndexed m w better = u)
      ∧ (nbit w 13 = true → t.mspIndexed m w better = ((u.mspLoad m (t.mspP m (w / 2 ^ 6 % 8)) false).2.setD m (w / 2 ^ 9 % 16)
      (u.mspLoad m (t.mspP m (w / 2 ^ 6 % 8)) false).1.1 (u.mspLoad m (t.mspP m (w / 2 ^ 6 % 8)) false).1.2).bumpP m (w / 2 ^ 6 % 8))) ∧
  -- LDI, MOV, SFLG
  (∀ (s t : State) (m : Fin 128) (w : Nat), s.mspWord m = some ((w, false), t) →
      (mspOp w = 0x0A → exec (.mspLdi m) s = .next
      ((if nbit w 16 then t.setD m (w / 2 ^ 22 % 16) (t.mspD m (w / 2 ^ 22 % 16) % 2 ^ 16 + w % 2 ^ 16 * 2 ^ 16) (t.dPois m (w / 2 ^ 22 % 16))
      else t.setD m (w / 2 ^ 22 % 16) (unsigned 32 (signed 16 (w % 2 ^ 16)))).mspDone m 1))
      ∧ (mspOp w = 0x0B → exec (.mspMov m) s = .next
      ((t.setD m (w / 2 ^ 22 % 16) (t.mspD m (w / 2 ^ 18 % 16)) (t.dPois m (w / 2 ^ 18 % 16))).mspDone m 1))
      ∧ (mspOp w = 0x09 → exec (.mspSflg m) s = .next ((t.setR Reg.MSP_STAT_FLAG m (w % 2)).mspDone m 1))) ∧
  -- MOVP
  (∀ (s t : State) (m : Fin 128) (w : Nat), s.mspWord m = some ((w, false), t) →
      mspOp w = 0x0C →
      exec (.mspMovp m) s = .next (if nbit w 18 then (t.setD m (w / 2 ^ 19 % 16) (t.mspP m (w / 2 ^ 23 % 8)) (t.pPois m (w / 2 ^ 23 % 8))).mspDone m 1
      else ((t.setR Reg.MSP_P_ADDR (m.val * 8 + w / 2 ^ 23 % 8) (t.mspD m (w / 2 ^ 19 % 16))).setR Reg.MSP_POIS_P m
      (if t.dPois m (w / 2 ^ 19 % 16) then setBit (t.getR Reg.MSP_POIS_P m) (w / 2 ^ 23 % 8) else clrBit (t.getR Reg.MSP_POIS_P m) (w / 2 ^ 23 % 8))).mspDone m 1 (some (w / 2 ^ 23 % 8)))) ∧
  -- MOVS
  (∀ (s t : State) (m : Fin 128) (lag : Fin 2561) (w : Nat), s.mspWord m = some ((w, false), t) →
      mspOp w = 0x0D →
      (nbit w 15 = false → exec (.mspMovs m lag) s = .next (if w / 2 ^ 16 % 64 = 4
      then ((t.modMspx m (fun k => { k with timeHi := t.mspTime lag / 2 ^ 32 })).setD m (w / 2 ^ 22 % 16) (t.mspTime lag % 2 ^ 32)).mspDone m 1
      else (t.setD m (w / 2 ^ 22 % 16) (t.mspSpecial m (w / 2 ^ 16 % 64) lag)).mspDone m 1))
      ∧ (nbit w 15 = true → t.dPois m (w / 2 ^ 22 % 16) = false → exec (.mspMovs m lag) s = .next ((t.putSpecial m (w / 2 ^ 16 % 64) (t.mspD m (w / 2 ^ 22 % 16))).mspDone m 1
      (if 48 ≤ w / 2 ^ 16 % 64 ∧ w / 2 ^ 16 % 64 < 56 then some (8 + (w / 2 ^ 16 % 64 - 48)) else none)))) ∧
  -- the special registers
  (∀ (s : State) (m lag x v : Nat), s.mspSpecial m 0 lag = s.getR Reg.MSP_SR_V m ∧ s.mspSpecial m 1 lag = s.getR Reg.MSP_IX_V m ∧ s.mspSpecial m 2 lag = s.getR Reg.MSP_RC_V m
      ∧ s.mspSpecial m 3 lag = s.getR Reg.MSP_STAT_FLAG m ∧ s.mspSpecial m 5 lag = (s.mspx m).timeHi ∧ s.mspSpecial m 6 lag = m
      ∧ (16 ≤ x → x < 32 → s.mspSpecial m x lag = s.getR Reg.MSP_IBX_PTR_WP (m / 8 * 128 + (x - 16)))
      ∧ (32 ≤ x → x < 48 → s.mspSpecial m x lag = s.getR Reg.MSP_IBX_PTR_RP (m / 8 * 128 + (x - 32))
      ∧ s.putSpecial m x v = s.setR Reg.MSP_IBX_PTR_RP (m / 8 * 128 + (x - 32)) (v % s.ibxWords (m / 8 * 128 + (x - 32))))
      ∧ (48 ≤ x → x < 56 → s.mspSpecial m x lag = s.getR Reg.MSP_M_V (m * 8 + (x - 48)) ∧ s.putSpecial m x v = s.setR Reg.MSP_M_V (m * 8 + (x - 48)) v)
      ∧ s.putSpecial m 0 v = s.setR Reg.MSP_SR_V m v ∧ s.putSpecial m 1 v = s.setR Reg.MSP_IX_V m v ∧ s.putSpecial m 3 v = s.setR Reg.MSP_STAT_FLAG m v
      ∧ (x = 2 ∨ (4 ≤ x ∧ x < 32) ∨ 56 ≤ x → s.putSpecial m x v = s)) ∧
  -- LD and ST
  (∀ (s t : State) (m : Fin 128) (w a d : Nat) (md : List Nat) (r q : (Nat × Bool) × State), s.mspWord m = some ((w, false), t) →
      t.pPois m (w / 2 ^ 19 % 8) = false →
      a = t.mspP m (w / 2 ^ 19 % 8) + w % 2 ^ 16 →
      d = w / 2 ^ 22 % 16 →
      md = (if nbit w 16 then [] else [w / 2 ^ 19 % 8]) →
      r = t.mspLoad m a (nbit w 18) →
      q = t.mspLoad64 m a (nbit w 18) →
      (mspOp w = 0x0E → exec (.mspLd m) s = .next ((md.foldl (fun u p => u.bumpP m p) (if nbit w 17
      then (q.2.setD m (d / 2 * 2) (q.1.1 % 2 ^ 32) q.1.2).setD m (d / 2 * 2 + 1) (q.1.1 / 2 ^ 32) q.1.2
      else r.2.setD m d r.1.1 r.1.2)).mspDone m (1 + t.mspStall m [w / 2 ^ 19 % 8] md)))
      ∧ (mspOp w = 0x0F → exec (.mspSt m) s = .next ((md.foldl (fun u p => u.bumpP m p) (if nbit w 17
      then t.mspStore64 m a (nbit w 18) (t.mspD m (d / 2 * 2) + t.mspD m (d / 2 * 2 + 1) * 2 ^ 32) (t.dPois m (d / 2 * 2) || t.dPois m (d / 2 * 2 + 1))
      else t.mspStore m a (nbit w 18) (t.mspD m d) (t.dPois m d))).mspDone m (1 + t.mspStall m [w / 2 ^ 19 % 8] md)))) ∧
  -- the parallel format
  (∀ (s t u v : State) (m : Fin 128) (w : Nat), s.mspWord m = some ((w, false), t) →
      mspOp w = 64 →
      (w / 2 ^ 28 % 4 ≠ 0 → t.dPois m (w / 2 ^ 22 % 16) = false ∧ t.dPois m (w / 2 ^ 18 % 16) = false) →
      ((nbit w 17 = true → t.pPois m (w / 2 ^ 9 % 8) = false) ∧ (nbit w 8 = true → t.pPois m (w % 8) = false)) →
      u = (if nbit w 17 then (t.mspMul m (w / 2 ^ 28 % 4) (w / 2 ^ 26 % 4) (w / 2 ^ 22 % 16) (w / 2 ^ 18 % 16)).parAccess m (w / 2 ^ 12 % 16) (t.mspP m (w / 2 ^ 9 % 8))
      (t.mspD m (w / 2 ^ 12 % 16)) (t.dPois m (w / 2 ^ 12 % 16)) false (nbit w 16)
      else t.mspMul m (w / 2 ^ 28 % 4) (w / 2 ^ 26 % 4) (w / 2 ^ 22 % 16) (w / 2 ^ 18 % 16)) →
      v = (if nbit w 8 then u.parAccess m (w / 2 ^ 3 % 16) (t.mspP m (w % 8)) (t.mspD m (w / 2 ^ 3 % 16)) (t.dPois m (w / 2 ^ 3 % 16)) true (nbit w 7) else u) →
      exec (.mspParallel m) s = .next (((parPtrs w).eraseDups.foldl (fun x p => x.bumpP m p) v).mspDone m (1 + t.mspStall m (parPtrs w) (parPtrs w)))) ∧
  -- an access of the parallel format
  (∀ (t : State) (m d a x : Nat) (p y : Bool), t.parAccess m d a x p y true = t.mspStore m a y x p ∧ t.parAccess m d a x p y false = (t.mspLoad m a y).2.setD m d (t.mspLoad m a y).1.1 (t.mspLoad m a y).1.2
      ∧ parPtrs a = (if nbit a 17 then [a / 2 ^ 9 % 8] else []) ++ (if nbit a 8 then [a % 8] else []))

/-- An instruction's command acts where the processor runs and the word at hand has its OP (and a WAIT its KIND); else the state stays. A poisoned word ends the run with ECAUSE 7. NOP goes on. HALT takes a cycle, records its code, leaves PC behind it and makes the processor DONE with 0x0802. BR goes to its target where COND holds, else on. CALL pushes the next index and goes to its target, with four on the stack it fails with ECAUSE 3; RET pops, with none it fails with 3. BDNZ of a poisoned register fails with 5; of 0 goes on with 0 left; else counts down and branches while the result is not 0. REPEAT of a poisoned count fails with 5, of an instruction that may not repeat with 2; else RC is the count and the next instruction is kept. A WAIT whose condition holds costs one cycle; else the processor waits, since now, and MSP_WAIT_END, once it holds, ends it with the cycles waited; otherwise the state stays. A wait for a time reads its register pair, poisoned with ECAUSE 5, and does not end while TIME_PLL_UNLOCK stands. At a barrier a processor that is no member goes on; a member waits until every member that runs has arrived, which releases all. SEND fails with 5 for a poisoned length, with 4 for a length of 0 or above 1,980 or a channel that is not enabled, with 6 for a poisoned pointer; with two packets queued it stalls, since now; else it joins the channel's queue with PEND, and the cycles stalled count. -/
def Obligations.MspControlCommandsComplete : Prop :=
  -- no word at hand, or one of another instruction: the state stays
  (∀ (s t : State) (m : Fin 128) (w : Nat) (p : Bool), (s.mspWord m = none → exec (.mspNop m) s = .next s ∧ exec (.mspHalt m) s = .next s ∧ exec (.mspBr m) s = .next s ∧ exec (.mspCall m) s = .next s ∧ exec (.mspRet m) s = .next s ∧ exec (.mspBdnz m) s = .next s ∧ exec (.mspRepeat m) s = .next s ∧ exec (.mspSend m) s = .next s)
      ∧ (s.mspWord m = some ((w, p), t) → mspOp w ≠ 0x00 → exec (.mspNop m) s = .next s)
      ∧ (s.mspWord m = some ((w, p), t) → mspOp w ≠ 0x01 → exec (.mspHalt m) s = .next s)
      ∧ (s.mspWord m = some ((w, p), t) → mspOp w ≠ 0x02 → exec (.mspBr m) s = .next s)
      ∧ (s.mspWord m = some ((w, p), t) → mspOp w ≠ 0x03 → exec (.mspCall m) s = .next s)
      ∧ (s.mspWord m = some ((w, p), t) → mspOp w ≠ 0x04 → exec (.mspRet m) s = .next s)
      ∧ (s.mspWord m = some ((w, p), t) → mspOp w ≠ 0x05 → exec (.mspBdnz m) s = .next s)
      ∧ (s.mspWord m = some ((w, p), t) → mspOp w ≠ 0x06 → exec (.mspRepeat m) s = .next s)
      ∧ (s.mspWord m = some ((w, p), t) → mspOp w ≠ 0x08 → exec (.mspSend m) s = .next s)) ∧
  -- a WAIT: no word at hand, or one of another instruction or kind: the state stays
  (∀ (s t : State) (m : Fin 128) (lag : Fin 2561) (w : Nat) (p : Bool), (s.mspWord m = none → exec (.mspWaitInbox m) s = .next s ∧ exec (.mspWaitTime m lag) s = .next s ∧ exec (.mspWaitBarrier m) s = .next s ∧ exec (.mspWaitChannel m) s = .next s)
      ∧ (s.mspWord m = some ((w, p), t) → mspOp w ≠ 0x07 ∨ w / 2 ^ 24 % 4 ≠ 0 → exec (.mspWaitInbox m) s = .next s)
      ∧ (s.mspWord m = some ((w, p), t) → mspOp w ≠ 0x07 ∨ w / 2 ^ 24 % 4 ≠ 1 → exec (.mspWaitTime m lag) s = .next s)
      ∧ (s.mspWord m = some ((w, p), t) → mspOp w ≠ 0x07 ∨ w / 2 ^ 24 % 4 ≠ 2 → exec (.mspWaitBarrier m) s = .next s)
      ∧ (s.mspWord m = some ((w, p), t) → mspOp w ≠ 0x07 ∨ w / 2 ^ 24 % 4 ≠ 3 → exec (.mspWaitChannel m) s = .next s)) ∧
  -- a word fetched from a poisoned word: ECAUSE 7
  (∀ (s t : State) (m : Fin 128) (w : Nat) (lag : Fin 2561), s.mspWord m = some ((w, true), t) →
      (mspOp w = 0x00 → exec (.mspNop m) s = .next (t.mspExc m 7))
      ∧ (mspOp w = 0x01 → exec (.mspHalt m) s = .next (t.mspExc m 7))
      ∧ (mspOp w = 0x02 → exec (.mspBr m) s = .next (t.mspExc m 7))
      ∧ (mspOp w = 0x03 → exec (.mspCall m) s = .next (t.mspExc m 7))
      ∧ (mspOp w = 0x04 → exec (.mspRet m) s = .next (t.mspExc m 7))
      ∧ (mspOp w = 0x05 → exec (.mspBdnz m) s = .next (t.mspExc m 7))
      ∧ (mspOp w = 0x06 → exec (.mspRepeat m) s = .next (t.mspExc m 7))
      ∧ (mspOp w = 0x08 → exec (.mspSend m) s = .next (t.mspExc m 7))
      ∧ (mspOp w = 0x07 → w / 2 ^ 24 % 4 = 0 → exec (.mspWaitInbox m) s = .next (t.mspExc m 7))
      ∧ (mspOp w = 0x07 → w / 2 ^ 24 % 4 = 1 → exec (.mspWaitTime m lag) s = .next (t.mspExc m 7))
      ∧ (mspOp w = 0x07 → w / 2 ^ 24 % 4 = 2 → exec (.mspWaitBarrier m) s = .next (t.mspExc m 7))
      ∧ (mspOp w = 0x07 → w / 2 ^ 24 % 4 = 3 → exec (.mspWaitChannel m) s = .next (t.mspExc m 7))) ∧
  -- NOP, HALT, BR
  (∀ (s t : State) (m : Fin 128) (w : Nat), s.mspWord m = some ((w, false), t) →
      (mspOp w = 0x00 → exec (.mspNop m) s = .next (t.mspDone m 1))
      ∧ (mspOp w = 0x01 → exec (.mspHalt m) s = .next (((((t.mspCycles m 1).mspLeave m 2).setR Reg.MSP_HCODE_CODE m (w % 2 ^ 16)).setR Reg.MSP_PC_PC m
      (s.getR Reg.MSP_PC_PC m + 1)).raise (mspEp (m / 8)) 0x0802 0 (mspDetail m 0 (s.getR Reg.MSP_PC_PC m) (w % 2 ^ 16))))
      ∧ (mspOp w = 0x02 → exec (.mspBr m) s = .next (if t.mspCond m (w / 2 ^ 22 % 16) then t.mspTake m (w % 2 ^ 14) else t.mspDone m 1))
      ∧ (mspOp w = 0x05 → t.dPois m (w / 2 ^ 22 % 16) = true → exec (.mspBdnz m) s = .next (t.mspExc m 5))) ∧
  -- what a branch taken leaves
  (∀ (s : State) (m : Fin 128) (tgt : Nat), tgt < 2 ^ 14 →
      (s.mspTake m tgt).getR Reg.MSP_PC_PC m = tgt ∧ ((s.mspTake m tgt).mspx m).stack = (s.mspx m).stack ∧ (s.mspTake m tgt).mem = s.mem
      ∧ Leaves [.msp] [Reg.MSP_PC_PC.key m, Reg.MSP_CYCLES_COUNT.key m] s (s.mspTake m tgt)
      ∧ (s.mspJump m tgt).getR Reg.MSP_PC_PC m = tgt ∧ ((s.mspJump m tgt).mspx m).cache = []
      ∧ Leaves [.msp] [Reg.MSP_PC_PC.key m, Reg.MSP_CYCLES_COUNT.key m] s (s.mspJump m tgt)) ∧
  -- CALL with room and RET with an entry
  (∀ (s t : State) (m : Fin 128) (w : Nat), s.mspWord m = some ((w, false), t) →
      (mspOp w = 0x03 → (t.mspx m).stack.length < 4 → exec (.mspCall m) s = .next (((t.modMspx m (fun k => { k with stack := (t.getR Reg.MSP_PC_PC m + 1) % 16384 :: (t.mspx m).stack })).setR
      Reg.MSP_STAT_DEPTH m ((t.mspx m).stack.length + 1)).mspJump m (w % 2 ^ 14)))
      ∧ (∀ a rest, mspOp w = 0x04 → (t.mspx m).stack = a :: rest → exec (.mspRet m) s = .next (((t.modMspx m (fun k => { k with stack := rest })).setR Reg.MSP_STAT_DEPTH m rest.length).mspJump m a))) ∧
  -- CALL with four on the stack and RET with none
  (∀ (s t : State) (m : Fin 128) (w : Nat), s.mspWord m = some ((w, false), t) →
      (mspOp w = 0x03 → 4 ≤ (t.mspx m).stack.length → exec (.mspCall m) s = .next (t.mspExc m 3))
      ∧ (mspOp w = 0x04 → (t.mspx m).stack = [] → exec (.mspRet m) s = .next (t.mspExc m 3))) ∧
  -- BDNZ
  (∀ (s t : State) (m : Fin 128) (w : Nat), s.mspWord m = some ((w, false), t) →
      mspOp w = 0x05 →
      t.dPois m (w / 2 ^ 22 % 16) = false →
      exec (.mspBdnz m) s = .next (if t.mspD m (w / 2 ^ 22 % 16) = 0 then t.mspDone m 1
      else if t.mspD m (w / 2 ^ 22 % 16) = 1 then (t.setD m (w / 2 ^ 22 % 16) 0).mspDone m 1
      else (t.setD m (w / 2 ^ 22 % 16) (t.mspD m (w / 2 ^ 22 % 16) - 1)).mspTake m (w % 2 ^ 14))) ∧
  -- REPEAT
  (∀ (s t : State) (m : Fin 128) (w n : Nat) (nx : (Nat × Bool) × State), s.mspWord m = some ((w, false), t) →
      mspOp w = 0x06 →
      n = (if nbit w 16 then t.mspD m (w / 2 ^ 22 % 16) % 2 ^ 16 else w % 2 ^ 16) →
      nx = (match (t.mspx m).cached (t.getR Reg.MSP_PC_PC m + 1) with | some x => (x, t) | none => t.mspFetch m (t.getR Reg.MSP_PC_PC m + 1)) →
      (nbit w 16 = true → t.dPois m (w / 2 ^ 22 % 16) = true → exec (.mspRepeat m) s = .next (t.mspExc m 5))
      ∧ (nbit w 16 = false ∨ t.dPois m (w / 2 ^ 22 % 16) = false → exec (.mspRepeat m) s = .next (if nx.1.2 = false ∧ notRepeatable (mspOp nx.1.1) = true then nx.2.mspExc m 2
      else ((nx.2.setR Reg.MSP_RC_V m (n + 1)).mspDone m 1).modMspx m (fun k => { k with rep := some nx.1 })))) ∧
  -- an iteration of a REPEAT
  (∀ (s : State) (m : Fin 128) (n : Nat) (x : Nat × Bool), (s.mspx m).rep = some x →
      1 < s.getR Reg.MSP_RC_V m →
      (s.mspDone m n).getR Reg.MSP_PC_PC m = s.getR Reg.MSP_PC_PC m ∧ (s.mspDone m n).getR Reg.MSP_RC_V m = (s.getR Reg.MSP_RC_V m - 1) % 2 ^ 17
      ∧ ((s.mspDone m n).mspx m).rep = some x) ∧
  -- WAIT for an inbox or a channel
  (∀ (s t u : State) (m : Fin 128) (w k : Nat), s.mspWord m = some ((w, false), t) →
      mspOp w = 0x07 ∧ w / 2 ^ 24 % 4 = k →
      u = (t.modMspx m (fun x => { x with wait := some ⟨k, w / 2 ^ 20 % 16, t.mspD m (w / 2 ^ 20 % 16 / 2 * 2) + t.mspD m (w / 2 ^ 20 % 16 / 2 * 2 + 1) * 2 ^ 32, t.clockNow⟩ })).setR Reg.MSP_STAT_WAITING m 1 →
      (k = 0 → exec (.mspWaitInbox m) s = .next (if t.getR Reg.MSP_IBX_PTR_WP (m.val / 8 * 128 + w / 2 ^ 20 % 16) ≠ t.getR Reg.MSP_IBX_PTR_RP (m.val / 8 * 128 + w / 2 ^ 20 % 16)
      then t.mspDone m 1 else u))
      ∧ (k = 3 → exec (.mspWaitChannel m) s = .next (if t.flag Reg.MSP_CH_STAT_PEND (m.val * 4 + w / 2 ^ 20 % 4) then u else t.mspDone m 1))) ∧
  -- WAIT for a time in a poisoned pair
  (∀ (s t : State) (m : Fin 128) (lag : Fin 2561) (w : Nat), s.mspWord m = some ((w, false), t) →
      mspOp w = 0x07 ∧ w / 2 ^ 24 % 4 = 1 →
      t.dPois m (w / 2 ^ 20 % 16 / 2 * 2) = true ∨ t.dPois m (w / 2 ^ 20 % 16 / 2 * 2 + 1) = true →
      exec (.mspWaitTime m lag) s = .next (t.mspExc m 5)) ∧
  -- WAIT for a time
  (∀ (s t : State) (m : Fin 128) (lag : Fin 2561) (w tgt : Nat), s.mspWord m = some ((w, false), t) →
      mspOp w = 0x07 ∧ w / 2 ^ 24 % 4 = 1 →
      t.dPois m (w / 2 ^ 20 % 16 / 2 * 2) = false ∧ t.dPois m (w / 2 ^ 20 % 16 / 2 * 2 + 1) = false →
      tgt = t.mspD m (w / 2 ^ 20 % 16 / 2 * 2) + t.mspD m (w / 2 ^ 20 % 16 / 2 * 2 + 1) * 2 ^ 32 →
      (t.flag Reg.T_UNLOCK 0 = false → (BitVec.ofNat 64 (t.mspTime lag) - BitVec.ofNat 64 tgt).toNat < 2 ^ 63 →
      exec (.mspWaitTime m lag) s = .next (t.mspDone m 1))
      ∧ (t.flag Reg.T_UNLOCK 0 = true ∨ 2 ^ 63 ≤ (BitVec.ofNat 64 (t.mspTime lag) - BitVec.ofNat 64 tgt).toNat → exec (.mspWaitTime m lag) s = .next
      ((t.modMspx m (fun k => { k with wait := some ⟨1, w / 2 ^ 20 % 16, tgt, t.clockNow⟩ })).setR Reg.MSP_STAT_WAITING m 1))) ∧
  -- WAIT at a barrier, of a processor that is no member of it
  (∀ (s t : State) (m : Fin 128) (w : Nat), s.mspWord m = some ((w, false), t) →
      mspOp w = 0x07 ∧ w / 2 ^ 24 % 4 = 2 →
      nbit (t.getR Reg.MSP_GRP_BAR_MASK (m.val / 8 * 8)) (m.val % 8) = false →
      exec (.mspWaitBarrier m) s = .next (t.mspDone m 1)) ∧
  -- WAIT at a barrier, of a member: it waits until the last member that runs arrives, which releases all
  (∀ (s t u : State) (m : Fin 128) (w : Nat), s.mspWord m = some ((w, false), t) →
      mspOp w = 0x07 ∧ w / 2 ^ 24 % 4 = 2 →
      nbit (t.getR Reg.MSP_GRP_BAR_MASK (m.val / 8 * 8)) (m.val % 8) = true →
      u = (t.modMspx m (fun k => { k with wait := some ⟨2, w / 2 ^ 20 % 16, t.mspD m (w / 2 ^ 20 % 16 / 2 * 2) + t.mspD m (w / 2 ^ 20 % 16 / 2 * 2 + 1) * 2 ^ 32, t.clockNow⟩ })).setR
      Reg.MSP_STAT_WAITING m 1 →
      (u.barrierMet (m.val / 8) = false → exec (.mspWaitBarrier m) s = .next u)
      ∧ (u.barrierMet (m.val / 8) = true → exec (.mspWaitBarrier m) s = .next (u.barrierRelease (m.val / 8)))) ∧
  -- when a barrier is met, and what a release does to a member that waits at it
  (∀ (s : State) (g i : Nat) (x : MspWait), i < 8 →
      (s.mspx (8 * g + i)).wait = some x ∧ x.kind = 2 →
      (∀ j, j < 8 → j ≠ i → (s.mspx (8 * g + j)).wait = none) →
      (s.barrierMet g = true ↔ ∀ j, j < 8 → j ≠ i → nbit (s.getR Reg.MSP_GRP_BAR_MASK (8 * g)) j = true → s.getR Reg.MSP_STAT_STATE (8 * g + j) ≠ 5)
      ∧ s.barrierRelease g = s.mspWaitOver (8 * g + i) x) ∧
  -- a WAIT ends
  (∀ (s : State) (m : Fin 128) (lag : Fin 2561) (x : MspWait), ((s.mspx m).wait = none → exec (.mspWaitEnd m lag) s = .next s)
      ∧ ((s.mspx m).wait = some x → s.getR Reg.MSP_STAT_STATE m ≠ 5 ∨ s.mspWaitHolds m lag x = false → exec (.mspWaitEnd m lag) s = .next s)
      ∧ ((s.mspx m).wait = some x → s.getR Reg.MSP_STAT_STATE m = 5 → s.mspWaitHolds m lag x = true →
      exec (.mspWaitEnd m lag) s = .next (if x.kind = 2 then s.barrierRelease (m.val / 8) else s.mspWaitOver m x))) ∧
  -- what a WAIT waits for, and what its end leaves
  (∀ (s : State) (m lag : Nat) (x : MspWait), (x.kind = 0 → s.mspWaitHolds m lag x = decide (s.getR Reg.MSP_IBX_PTR_WP (m / 8 * 128 + x.arg) ≠ s.getR Reg.MSP_IBX_PTR_RP (m / 8 * 128 + x.arg)))
      ∧ (x.kind = 1 → s.mspWaitHolds m lag x = (!s.flag Reg.T_UNLOCK 0 && decide ((BitVec.ofNat 64 (s.mspTime lag) - BitVec.ofNat 64 x.target).toNat < 2 ^ 63)))
      ∧ (x.kind = 2 → s.mspWaitHolds m lag x = s.barrierMet (m / 8)) ∧ (x.kind = 3 → s.mspWaitHolds m lag x = !s.flag Reg.MSP_CH_STAT_PEND (m * 4 + x.arg % 4))
      ∧ s.mspWaitOver m x = ((s.modMspx m (fun k => { k with wait := none })).setR Reg.MSP_STAT_WAITING m 0).mspDone m (1 + s.cyclesSince x.since)) ∧
  -- SEND
  (∀ (s t : State) (m : Fin 128) (w size : Nat) (q : List MspSend), s.mspWord m = some ((w, false), t) →
      mspOp w = 0x08 →
      t.dPois m (w / 2 ^ 22 % 16) = false ∧ t.pPois m (w / 2 ^ 19 % 8) = false →
      size = t.mspD m (w / 2 ^ 22 % 16) ∧ 1 ≤ size ∧ size ≤ 1980 →
      t.flag Reg.MSP_CH_CFG_EN (m.val * 4 + w / 2 ^ 16 % 4) = true →
      q = Map.get [] (t.mspx m).queues (w / 2 ^ 16 % 4) →
      (2 ≤ q.length → exec (.mspSend m) s = .next (s.modMspx m (fun k => { k with stall := some (k.stall.getD s.clockNow) })))
      ∧ (q.length < 2 → exec (.mspSend m) s = .next ((((t.wrapAdd Reg.MSP_SENDS (m.val / 8 * 8) 1).modMspx m (fun k => { k with queues := Map.set [] k.queues (w / 2 ^ 16 % 4) (q ++ [⟨t.getR Reg.MSP_SENDS (m.val / 8 * 8), size, t.mspP m (w / 2 ^ 19 % 8) / 2, nbit w 18⟩]), stall := none })).setR
      Reg.MSP_CH_STAT_PEND (m.val * 4 + w / 2 ^ 16 % 4) 1).mspDone m (1 + ((s.mspx m).stall.map s.cyclesSince).getD 0 + t.mspStall m [w / 2 ^ 19 % 8] [])))) ∧
  -- SEND that fails
  (∀ (s t : State) (m : Fin 128) (w : Nat), s.mspWord m = some ((w, false), t) →
      mspOp w = 0x08 →
      (t.dPois m (w / 2 ^ 22 % 16) = true → exec (.mspSend m) s = .next (t.mspExc m 5))
      ∧ (t.dPois m (w / 2 ^ 22 % 16) = false → t.mspD m (w / 2 ^ 22 % 16) = 0 ∨ 1980 < t.mspD m (w / 2 ^ 22 % 16) ∨ t.flag Reg.MSP_CH_CFG_EN (m.val * 4 + w / 2 ^ 16 % 4) = false →
      exec (.mspSend m) s = .next (t.mspExc m 4))
      ∧ (t.dPois m (w / 2 ^ 22 % 16) = false → t.mspD m (w / 2 ^ 22 % 16) ≠ 0 → t.mspD m (w / 2 ^ 22 % 16) ≤ 1980 → t.flag Reg.MSP_CH_CFG_EN (m.val * 4 + w / 2 ^ 16 % 4) = true →
      t.pPois m (w / 2 ^ 19 % 8) = true → exec (.mspSend m) s = .next (t.mspExc m 6)))

/-- Register writes first act on a test of the group (touchGroup, R697), and those of MSP_GRP_CTL store MASK and CLR. MSP_GRP_GO with no member named makes the group FAILED with REASON 2, with one that is PENDING or RUNNING with REASON 1; else the named members and the group are PENDING, and the start keeps its members and CLR. MSP_START_CYCLE of a pending start at its time (AT plus 2,560, or at once): every member still pending starts, the group is DONE in this cycle with 0x0801; else the state stays. MSP_GRP_ABORT before it makes the pending members and the group ABORTED with 0x0808; in its cycle it sets ABORT_LATE in the group and the members that the start named; else nothing more. STOP and RESUME act on each member named: a running one stops at once, or after a REPEAT's last iteration; a stopped one runs on, another keeps the RESUME where it keeps a STOP. MSP_SRST makes the processor IDLE with an empty cache. MSP_INBOX_MESSAGE takes the oldest message: into the ring of its inbox where there is room, else it is dropped and counted with 0x0805; of no enabled inbox it counts in UNMATCHED with 0x0806. MSP_BREACH_NOTICE sets BREACHED of the inboxes or the channels of that contract. MSP_MEMORY_ACCESS takes the request whose turn it is: outside the group's memories a decode error, refused by the windows STATUS 2, else served; the cycles it costs a running processor count. MSP_CHANNEL_INJECT sends a channel's oldest packet, unless the group holds an earlier one of its contract or WAITCR has it wait for credit. With nothing to take the state stays. -/
def Obligations.MspGroupCommandsComplete : Prop :=
  -- MSP_GRP_GO
  (∀ (s u t : State) (g : Fin 16) (mask : BitVec 8) (clr : Bool), u = s.touchGroup g →
      t = ((u.grpWrite g mask clr).setR Reg.MSP_GRP_STAT_REASON (8 * g.val) 0).setR Reg.MSP_GRP_STAT_ABORT_LATE (8 * g.val) 0 →
      ((named g mask.toNat).isEmpty = true → exec (.mspGrpGo g mask clr) s = .next ((t.setR Reg.MSP_GRP_STAT_STATE (8 * g.val) 4).setR Reg.MSP_GRP_STAT_REASON (8 * g.val) 2))
      ∧ ((named g mask.toNat).isEmpty = false → (named g mask.toNat).any (fun m => decide (u.getR Reg.MSP_STAT_STATE m = 1) || decide (u.getR Reg.MSP_STAT_STATE m = 5)) = true →
      exec (.mspGrpGo g mask clr) s = .next ((t.setR Reg.MSP_GRP_STAT_STATE (8 * g.val) 4).setR Reg.MSP_GRP_STAT_REASON (8 * g.val) 1))
      ∧ ((named g mask.toNat).isEmpty = false → (named g mask.toNat).any (fun m => decide (u.getR Reg.MSP_STAT_STATE m = 1) || decide (u.getR Reg.MSP_STAT_STATE m = 5)) = false →
      exec (.mspGrpGo g mask clr) s = .next (((((t.setEach Reg.MSP_STAT_STATE (named g mask.toNat) 1).setEach Reg.MSP_STAT_ABORT_LATE (named g mask.toNat) 0).setR
      Reg.MSP_GRP_STAT_STATE (8 * g.val) 1).setR Reg.MSP_PENDMASK (8 * g.val) (u.getR Reg.MSP_PENDMASK (8 * g.val) ||| mask.toNat)).setR Reg.MSP_PENDCLR (8 * g.val) (bit clr)))) ∧
  -- a write of MSP_GRP_CTL
  (∀ (s : State) (g : Nat) (mask : BitVec 8) (clr : Bool), s.grpWrite g mask clr = (s.setR Reg.MSP_GRP_CTL_MASK (8 * g) mask.toNat).setR Reg.MSP_GRP_CTL_CLR (8 * g) (bit clr)) ∧
  -- MSP_START_CYCLE
  (∀ (s : State) (g : Fin 16) (mask a : Nat), mask = s.getR Reg.MSP_PENDMASK (8 * g.val) →
      a = s.getR Reg.MSP_GRP_AT_AT (8 * g.val) →
      (mask ≠ 0 → a = 0 ∨ s.dueAt ((a + 2560) % 2 ^ 64) = true → exec (.mspStartCycle g) s = .next ((((((((named g mask).filter (fun m => decide (s.getR Reg.MSP_STAT_STATE m = 1))).foldl
      (fun u m => u.mspStart m (s.flag Reg.MSP_PENDCLR (8 * g.val))) s).setR Reg.MSP_PENDMASK (8 * g.val) 0).setR Reg.MSP_STARTED (8 * g.val) mask).setR
      Reg.MSP_GRP_STAT_STATE (8 * g.val) 2).markCommit Reg.GRP_CMT g).raise (mspEp g) 0x0801 0 (mspDetail 0 0 0 0 0 0 mask)))
      ∧ (mask = 0 ∨ (a ≠ 0 ∧ s.dueAt ((a + 2560) % 2 ^ 64) = false) → exec (.mspStartCycle g) s = .next s)) ∧
  -- what a member's start leaves
  (∀ (s : State) (m : Nat) (clr : Bool), (s.mspStart m clr).getR Reg.MSP_STAT_STATE m = 5 ∧ (s.mspStart m clr).getR Reg.MSP_PC_PC m = s.getR Reg.MSP_ENTRY_PC m % 2 ^ 14
      ∧ (s.mspStart m clr).getR Reg.MSP_STAT_DEPTH m = 0 ∧ ((s.mspStart m clr).mspx m).stack = [] ∧ ((s.mspStart m clr).mspx m).queues = (s.mspx m).queues
      ∧ (clr = true → ∀ n < 16, (s.mspStart m clr).mspD m n = 0) ∧ (clr = false → ∀ n < 16, (s.mspStart m clr).mspD m n = s.mspD m n)
      ∧ (s.mspStart m clr).mem = s.mem) ∧
  -- MSP_GRP_ABORT
  (∀ (s u : State) (g : Fin 16) (mask : BitVec 8) (clr : Bool), u = s.touchGroup g →
      (u.getR Reg.MSP_PENDMASK (8 * g.val) ≠ 0 → exec (.mspGrpAbort g mask clr) s = .next (((((u.grpWrite g mask clr).setEach Reg.MSP_STAT_STATE
      ((named g (u.getR Reg.MSP_PENDMASK (8 * g.val))).filter (fun m => decide (u.getR Reg.MSP_STAT_STATE m = 1))) 3).setR Reg.MSP_PENDMASK (8 * g.val) 0).setR
      Reg.MSP_GRP_STAT_STATE (8 * g.val) 3).raise (mspEp g) 0x0808 0 (mspDetail 0 0 0 0 0 0 (u.getR Reg.MSP_PENDMASK (8 * g.val)))))
      ∧ (u.getR Reg.MSP_PENDMASK (8 * g.val) = 0 → u.getR Reg.MSP_GRP_STAT_STATE (8 * g.val) = 2 → u.inCommitCycle Reg.GRP_CMT g = true → exec (.mspGrpAbort g mask clr) s = .next
      (((u.grpWrite g mask clr).setR Reg.MSP_GRP_STAT_ABORT_LATE (8 * g.val) 1).setEach Reg.MSP_STAT_ABORT_LATE (named g (u.getR Reg.MSP_STARTED (8 * g.val))) 1))
      ∧ (u.getR Reg.MSP_PENDMASK (8 * g.val) = 0 → u.getR Reg.MSP_GRP_STAT_STATE (8 * g.val) ≠ 2 ∨ u.inCommitCycle Reg.GRP_CMT g = false →
      exec (.mspGrpAbort g mask clr) s = .next (u.grpWrite g mask clr))) ∧
  -- MSP_GRP_STOP, MSP_GRP_RESUME and MSP_SRST
  (∀ (s u : State) (g : Fin 16) (m : Fin 128) (mask : BitVec 8) (clr : Bool), u = s.touchGroup g →
      exec (.mspGrpStop g mask clr) s = .next ((named g mask.toNat).foldl (fun t m => if t.getR Reg.MSP_STAT_STATE m ≠ 5 then t
      else if (t.mspx m).rep.isSome then t.modMspx m (fun k => { k with stopReq := true, resumeReq := false }) else t.mspStopped m) (u.grpWrite g mask clr))
      ∧ exec (.mspGrpResume g mask clr) s = .next ((named g mask.toNat).foldl (fun t m => if t.getR Reg.MSP_STAT_STATE m = 6 then t.mspResume m
      else t.modMspx m (fun k => { k with resumeReq := k.resumeReq || k.stopReq })) (u.grpWrite g mask clr))
      ∧ exec (.mspSrst m) s = .next ((s.touchGroup (m / 8)).mspSrst m)) ∧
  -- a member that stops, runs on, or is reset
  (∀ (s : State) (m : Nat), (s.mspStopped m).getR Reg.MSP_STAT_STATE m = 6 ∧ (s.mspStopped m).getR Reg.MSP_PC_PC m = s.getR Reg.MSP_PC_PC m ∧ (s.mspResume m).getR Reg.MSP_STAT_STATE m = 5
      ∧ (s.mspSrst m).getR Reg.MSP_STAT_STATE m = 0 ∧ ((s.mspSrst m).mspx m).cache = [] ∧ ((s.mspSrst m).mspx m).rep = none ∧ ((s.mspSrst m).mspx m).wait = none
      ∧ (s.mspStopped m).mem = s.mem ∧ (s.mspResume m).mem = s.mem ∧ (s.mspSrst m).mem = s.mem) ∧
  -- MSP_INBOX_MESSAGE
  (∀ (s : State) (g : Fin 16) (p : Packet) (rest : List Packet) (j i n : Nat), takeFirst (fun p => decide (p.kind = 0)) (s.inbox (mspEp g)) = some (p, rest) →
      s.inboxOf g p.flow = some j →
      i = g.val * 128 + j →
      n = s.ibxWords i →
      exec (.mspInboxMessage g) s = .next (if 3 + (p.size + 7) / 8 ≤ n - 1 - (s.getR Reg.MSP_IBX_PTR_WP i + n - s.getR Reg.MSP_IBX_PTR_RP i % n) % n
      then (s.putInbox (mspEp g) rest).ibxWrite g j p
      else ((s.putInbox (mspEp g) rest).satAdd Reg.MSP_IBX_STAT_DROPS i 1).raise (mspEp g) 0x0805 3
      (mspDetail (8 * g.val + s.getR Reg.MSP_IBX_CFG_MSP i) 0 0 0 j p.flow))) ∧
  -- nothing to take: the state stays
  (∀ (s : State) (g : Fin 16) (m : Fin 128) (lost : Fin 256) (upset : Option Upset) (c : Fin 4), (takeFirst (fun p => decide (p.kind = 0)) (s.inbox (mspEp g)) = none → exec (.mspInboxMessage g) s = .next s)
      ∧ (takeFirst (fun p => decide (p.kind = 6)) (s.inbox (mspEp g)) = none → exec (.mspBreachNotice g) s = .next s)
      ∧ (takeFirst isRequest (serveOrder (s.inbox (mspEp g))) = none → exec (.mspMemoryAccess g lost upset) s = .next s)
      ∧ (Map.get [] (s.mspx m).queues c = [] → exec (.mspChannelInject m c) s = .next s)) ∧
  -- MSP_INBOX_MESSAGE of no inbox, and MSP_BREACH_NOTICE
  (∀ (s : State) (g : Fin 16) (p : Packet) (rest : List Packet), (takeFirst (fun p => decide (p.kind = 0)) (s.inbox (mspEp g)) = some (p, rest) → s.inboxOf g p.flow = none →
      exec (.mspInboxMessage g) s = .next (((s.putInbox (mspEp g) rest).satAdd Reg.MSP_GRP_ERR_UNMATCHED (8 * g.val) 1).raise (mspEp g) 0x0806 2
      (mspDetail 0 0 0 0 0 p.flow)))
      ∧ (takeFirst (fun p => decide (p.kind = 6)) (s.inbox (mspEp g)) = some (p, rest) → exec (.mspBreachNotice g) s = .next (if nbit (noticeBits p) 89
      then (s.putInbox (mspEp g) rest).setEach Reg.MSP_IBX_STAT_BREACHED (((List.range 16).map (fun j => g.val * 128 + j)).filter (fun i =>
      decide (s.getR Reg.MSP_IBX_CFG_FLOW i = noticeBits p % 2 ^ 12))) 1
      else (s.putInbox (mspEp g) rest).setEach Reg.MSP_CH_STAT_BREACHED (((List.range 32).map (fun i => g.val * 32 + i)).filter (fun i =>
      s.flag Reg.MSP_CH_CFG_CLASS i && decide (s.getR Reg.MSP_CH_CFG_FLOW i = noticeBits p % 2 ^ 12))) 1))) ∧
  -- MSP_MEMORY_ACCESS
  (∀ (s : State) (g : Fin 16) (lost : Fin 256) (upset : Option Upset) (p : Packet) (rest : List Packet), takeFirst isRequest (serveOrder (s.inbox (mspEp g))) = some (p, rest) →
      (inMsp p.addr p.size = false ∨ (p.addr - 0x4200000000) / 0x40000 / 8 ≠ g.val → exec (.mspMemoryAccess g lost upset) s = .next ((s.putInbox (mspEp g) rest).decodeAnswer (mspEp g) p))
      ∧ (inMsp p.addr p.size = true → (p.addr - 0x4200000000) / 0x40000 / 8 = g.val → ((s.putInbox (mspEp g) rest).dawnGuard p.addr p.size p.src (decide (p.kind = 3))).isSome = true →
      exec (.mspMemoryAccess g lost upset) s = .next ((s.putInbox (mspEp g) rest).answerStatus (mspEp g) p 2))
      ∧ (inMsp p.addr p.size = true → (p.addr - 0x4200000000) / 0x40000 / 8 = g.val → s.mspRuns ((p.addr - 0x4200000000) / 0x40000) = false →
      ((s.putInbox (mspEp g) rest).dawnGuard p.addr p.size p.src (decide (p.kind = 3))).isSome = false →
      exec (.mspMemoryAccess g lost upset) s = .next ((s.putInbox (mspEp g) rest).memAnswer (mspEp g) p.addr 0 p upset))
      ∧ (inMsp p.addr p.size = true → (p.addr - 0x4200000000) / 0x40000 / 8 = g.val → s.mspRuns ((p.addr - 0x4200000000) / 0x40000) = true →
      ((s.putInbox (mspEp g) rest).dawnGuard p.addr p.size p.src (decide (p.kind = 3))).isSome = false →
      exec (.mspMemoryAccess g lost upset) s = .next ((((s.putInbox (mspEp g) rest).memAnswer (mspEp g) p.addr 0 p upset).satAdd Reg.MSP_STALLS_COUNT
      ((p.addr - 0x4200000000) / 0x40000) lost).mspCycles ((p.addr - 0x4200000000) / 0x40000) lost))) ∧
  -- MSP_CHANNEL_INJECT
  (∀ (s : State) (m : Fin 128) (c : Fin 4) (x : MspSend) (rest : List MspSend) (i flow : Nat) (r : Packet × State), Map.get [] (s.mspx m).queues c.val = x :: rest →
      i = m.val * 4 + c.val →
      flow = s.getR Reg.MSP_CH_CFG_FLOW i →
      r = s.mspPacket m c x →
      (s.flag Reg.MSP_CH_CFG_CLASS i = true → s.mspFirst m flow x.seq = false ∨ (s.flag Reg.MSP_CH_CFG_WAITCR i = true ∧ s.admittedFlow r.1 = true ∧ s.creditCovers flow (r.1.len + 1) = false) →
      exec (.mspChannelInject m c) s = .next s)
      ∧ (s.flag Reg.MSP_CH_CFG_CLASS i = false ∨ (s.mspFirst m flow x.seq = true ∧ (s.flag Reg.MSP_CH_CFG_WAITCR i = false ∨ s.admittedFlow r.1 = false ∨ s.creditCovers flow (r.1.len + 1) = true)) →
      exec (.mspChannelInject m c) s = .next ((((r.2.modMspx m (fun k => { k with queues := Map.set [] k.queues c rest })).wrapAdd
      Reg.MSP_CH_STAT_SENT i 1).setR Reg.MSP_CH_STAT_PEND i (bit (!rest.isEmpty))).ingress r.1))) ∧
  -- the packet of a SEND
  (∀ (s : State) (m c : Nat) (x : MspSend), (s.mspPacket m c x).1.src = mspEp (m / 8) ∧ (s.mspPacket m c x).1.size = x.size ∧ (s.mspPacket m c x).1.user = m ∧ (s.mspPacket m c x).1.prio = s.getR Reg.MSP_CH_CFG_PRIO (m * 4 + c)
      ∧ (s.mspPacket m c x).1.cls = s.flag Reg.MSP_CH_CFG_CLASS (m * 4 + c)
      ∧ (s.mspPacket m c x).1.flow = (if s.flag Reg.MSP_CH_CFG_CLASS (m * 4 + c) then s.getR Reg.MSP_CH_CFG_FLOW (m * 4 + c) else 0)
      ∧ (s.mspPacket m c x).1.dest = (if s.flag Reg.MSP_CH_CFG_CLASS (m * 4 + c) then s.getR Reg.THY_CT_EP_DST (s.getR Reg.MSP_CH_CFG_FLOW (m * 4 + c)) else s.getR Reg.MSP_CH_DEST_EP (m * 4 + c)))

/-- At every 8-byte-aligned address of the scratchpad, the fail memories and the processors' memories, a read after a full write gives the data and the poison that were written; a write, full or partial, plain or through an alias window, leaves every other word of those memories as it was; and a partial write of a clean word replaces the enabled bytes alone, by their new value, by OR or by AND NOT. The same full write and read hold at every mapped LPDDR5X word of a channel with inline ECC. -/
def Obligations.MemoryHoldsWhatWasWritten : Prop :=
  -- the shared memories
  (∀ (s : State) (a req req2 be win : Nat) (new : BitVec 64) (poison : Bool), a % 8 = 0 →
      unitOf a ≠ none →
      ((s.writeWord a req new 0xFF poison).readWord a req2).1 = ⟨new, poison⟩
      ∧ ∀ b, b % 8 = 0 → unitOf b ≠ none → b ≠ a → (s.writeWord a req new be poison win).word (b / 8) = s.word (b / 8)) ∧
  -- a partial write of a clean word
  (∀ (s : State) (a req req2 be win : Nat) (new : BitVec 64), a % 8 = 0 →
      unitOf a ≠ none →
      (s.word (a / 8)).valid = true ∧ (s.word (a / 8)).mark = .clean →
      be ≠ 0 ∧ be < 256 →
      ((s.writeWord a req new be false win).readWord a req2).1 = ⟨combine win (s.word (a / 8)).data new be, false⟩
      ∧ (∀ i < 8, (combine win (s.word (a / 8)).data new be).toNat / 2 ^ (8 * i) % 256 =
      if nbit be i = false then (s.word (a / 8)).data.toNat / 2 ^ (8 * i) % 256
      else if win = 1 then ((s.word (a / 8)).data ||| new).toNat / 2 ^ (8 * i) % 256
      else if win = 2 then ((s.word (a / 8)).data &&& ~~~new).toNat / 2 ^ (8 * i) % 256
      else new.toNat / 2 ^ (8 * i) % 256)) ∧
  -- LPDDR5X with inline ECC
  (∀ (s : State) (a req req2 n loc : Nat) (new : BitVec 64) (poison : Bool), s.lpxMap a = some (n, loc) ∧ a < 0x4000000000 →
      (s.lp n).inl = true →
      ((s.writeWord a req new 0xFF poison).readWord a req2).1 = ⟨new, poison⟩)

/-- SPD_ACCESS takes any request but a write through an alias window, which SPD_ALIAS_UPDATE takes; the other state stays. A request that the windows refuse gets STATUS 2; else one outside the scratchpad is a decode error, one to a bank in handover waits, one of a requester that does not own a bank is denied with STATUS 2, its count and event 0x0107, and one of the owner writes, or reads the words with their poison. A writer of an ownership register that is neither management nor the owner is denied. SPD_OWN_WRITE in a handover changes nothing; else the new owner is held, STATE is BUSY and ABORT_LATE 0. SPD_HANDOVER_COMMIT of a handover, once neither Midnight nor a stream's buffered segments hold the bank: EP is the new owner, STATE DONE, what waited is served in order and running copies go on; else the state stays. SPD_HANDOVER_ABORT in a handover: STATE is ABORTED, what waited is served; in the cycle of the commit it sets ABORT_LATE; else nothing. SPD_INV and ECC_INV of a writer allowed make every word of the unit read as invalid and the sweep begin; INVALIDATE_SWEEP_END ends it. SPD_COPY_START of a running channel leaves the state; else with a range that is not legal the channel FAILS with ERR 1, or it runs and goes on with its requests. SPD_COPY_STOP of a running channel: it stops when nothing is outstanding. SPD_COPY_RESPONSE takes the response to the oldest chunk: a bad status halts the channel with ERR 3; a read's chunk is written where the bank is not in handover, a write's confirmed, and the channel goes on; with none the state stays. -/
def Obligations.ScratchpadCommandsComplete : Prop :=
  -- SPD_ACCESS and SPD_ALIAS_UPDATE
  (∀ (s : State) (r : MemReq) (up : Option Upset), (r.write = false ∨ spdWin r.addr = 0 → exec (.spdAccess r up) s = .next (s.spdAccess r up) ∧ exec (.spdAliasUpdate r up) s = .next s)
      ∧ (r.write = true → spdWin r.addr ≠ 0 → exec (.spdAliasUpdate r up) s = .next (s.spdAccess r up) ∧ exec (.spdAccess r up) s = .next s)) ∧
  -- a request that the windows refuse
  (∀ (s t : State) (r : MemReq) (up : Option Upset), s.dawnGuard (spdPlain r.addr) r.bytes r.req r.write = some t →
      s.spdAccess r up = t.respond 0 2) ∧
  -- what becomes of a request
  (∀ (s : State) (r : MemReq) (up : Option Upset) (b : Nat), s.dawnGuard (spdPlain r.addr) r.bytes r.req r.write = none →
      (s.spdCheck r.addr r.bytes r.req = .unmapped → s.spdAccess r up = (s.decodeError (spdEp 0 0) r.addr r.req).coreTakes r.req r.addr r.write)
      ∧ (s.spdCheck r.addr r.bytes r.req = .wait → s.spdAccess r up = s.modChip (fun c => { c with waiting := c.waiting ++ [r] }))
      ∧ (s.spdCheck r.addr r.bytes r.req = .deny b → s.spdAccess r up = ((s.spdTouch r.addr r.bytes).spdDeny b r.req r.addr false).respond 0 2)
      ∧ (s.spdCheck r.addr r.bytes r.req = .ok → r.write = true → s.spdAccess r up =
      (((s.spdTouch r.addr r.bytes).strike (spdPlain r.addr) up).writeWords (spdPlain r.addr) r.bytes r.data r.req (fun _ => r.poison) (spdWin r.addr)).respond 0 0)) ∧
  -- a read of the owner
  (∀ (s : State) (r : MemReq) (up : Option Upset) (x : List Rd × State), s.dawnGuard (spdPlain r.addr) r.bytes r.req r.write = none →
      s.spdCheck r.addr r.bytes r.req = .ok →
      r.write = false →
      x = (s.spdTouch r.addr r.bytes).readWords (spdPlain r.addr / 8 * 8) (wordsOf (spdPlain r.addr) r.bytes) r.req up →
      s.spdAccess r up = (x.2.respond (bytesOf (spdPlain r.addr) r.bytes x.1) 0 (x.1.any (fun w => w.poison))).coreTakes r.req r.addr false) ∧
  -- SPD_OWN_WRITE
  (∀ (s : State) (bd : Fin 4) (bank : Fin 64) (e req : BitVec 16), (s.spdWriter (bd.val * 64 + bank.val) req.toNat = false → exec (.spdOwnWrite bd bank e req) s = .next ((s.spdDeny (bd.val * 64 + bank.val) req.toNat 0 true).respond 0 2))
      ∧ (s.spdWriter (bd.val * 64 + bank.val) req.toNat = true → s.getR Reg.SPD_OWN_STATE (bd.val * 64 + bank.val) = 1 → exec (.spdOwnWrite bd bank e req) s = .next (s.respond 0 0))
      ∧ (s.spdWriter (bd.val * 64 + bank.val) req.toNat = true → s.getR Reg.SPD_OWN_STATE (bd.val * 64 + bank.val) ≠ 1 → exec (.spdOwnWrite bd bank e req) s = .next
      (((((s.setR Reg.SPD_NEWEP (bd.val * 64 + bank.val) (e.toNat / 4 * 4)).setR Reg.SPD_OWN_STATE (bd.val * 64 + bank.val) 1).setR Reg.SPD_OWN_ABORT_LATE
      (bd.val * 64 + bank.val) 0).midTouch bd 3 bank).respond 0 0))) ∧
  -- a denial
  (∀ (s : State) (bank req addr : Nat) (own : Bool), (s.spdDeny bank req addr own).getR Reg.SPD_DENY_LAST_BANK (bank / 64) = bank % 64 ∧ (s.spdDeny bank req addr own).flag Reg.SPD_DENY_LAST_OWNWR (bank / 64) = own
      ∧ (s.spdDeny bank req addr own).events = raiseIn s.events (evKey (spdEp (bank / 64) (bank % 64)) 0x0107) s.time.toNat 2 (memDetail addr 0 0 req % 2 ^ 128)
      ∧ Leaves [.events] [Reg.SPD_DENY_COUNT.key (bank / 64), Reg.SPD_DENY_LAST_SRC.key (bank / 64), Reg.SPD_DENY_LAST_BANK.key (bank / 64),
      Reg.SPD_DENY_LAST_OWNWR.key (bank / 64)] s (s.spdDeny bank req addr own)) ∧
  -- SPD_HANDOVER_COMMIT and SPD_HANDOVER_ABORT of a handover
  (∀ (s t u : State) (bd : Fin 4) (bank : Fin 64) (req : BitVec 16) (b : Nat) (after : State → State), b = bd.val * 64 + bank.val →
      s.getR Reg.SPD_OWN_STATE b = 1 →
      t = ((s.setR Reg.SPD_OWN_EP b (s.getR Reg.SPD_NEWEP b)).setR Reg.SPD_OWN_STATE b 2).markCommit Reg.SPD_CMT b →
      u = (s.setR Reg.SPD_OWN_STATE b 3).respond 0 0 →
      after = (fun x => (List.range 32).foldl (fun u k => if u.getR Reg.SPD_CPY_STAT_STATE k = 1 then u.copyGo k else u)
      ((List.range 32).foldl (fun u k => u.spdRetry (copyEp k)) x.spdResume)) →
      (s.midHolds bd 3 bank = false → s.buffers b = false → exec (.spdHandoverCommit bd bank) s = .next (after t))
      ∧ (s.midHolds bd 3 bank = true ∨ s.buffers b = true → exec (.spdHandoverCommit bd bank) s = .next s)
      ∧ (s.spdWriter b req.toNat = true → exec (.spdHandoverAbort bd bank req) s = .next (after u))
      ∧ (s.spdWriter b req.toNat = false → exec (.spdHandoverAbort bd bank req) s = .next ((s.spdDeny b req.toNat 0 true).respond 0 2))) ∧
  -- what waited is served, in order
  (∀ (s : State) (e : Nat), s.spdResume = s.chip.waiting.foldl (fun t r => t.spdAccess r none) (s.modChip (fun c => { c with waiting := [] }))
      ∧ s.spdRetry e = ((serveOrder (s.inbox e)).filter isRequest).foldl (fun t p => match t.spdPacket e p with | some u => u | none => t.putInbox e (t.inbox e ++ [p]))
      (s.putInbox e ((s.inbox e).filter (fun p => !isRequest p)))) ∧
  -- SPD_HANDOVER_COMMIT and SPD_HANDOVER_ABORT with no handover in progress
  (∀ (s : State) (bd : Fin 4) (bank : Fin 64) (req : BitVec 16), s.getR Reg.SPD_OWN_STATE (bd.val * 64 + bank.val) ≠ 1 →
      exec (.spdHandoverCommit bd bank) s = .next s ∧ exec (.spdHandoverAbort bd bank req) s = .next (if s.spdWriter (bd.val * 64 + bank.val) req.toNat
      then (if s.getR Reg.SPD_OWN_STATE (bd.val * 64 + bank.val) = 2 ∧ s.inCommitCycle Reg.SPD_CMT (bd.val * 64 + bank.val) = true
      then (s.setR Reg.SPD_OWN_ABORT_LATE (bd.val * 64 + bank.val) 1).respond 0 0 else s.respond 0 0)
      else (s.spdDeny (bd.val * 64 + bank.val) req.toNat 0 true).respond 0 2)) ∧
  -- SPD_INV, ECC_INV, INVALIDATE_SWEEP_END
  (∀ (s : State) (bd : Fin 4) (bank : Fin 64) (cls : BitVec 2) (unit : BitVec 7) (req : BitVec 16) (u : Nat), exec (.spdInv bd bank req) s = .next (if s.spdWriter (bd.val * 64 + bank.val) req.toNat then (s.invalidate (unitNo 0 bd bank)).respond 0 0
      else (s.spdDeny (bd.val * 64 + bank.val) req.toNat 0 true).respond 0 2)
      ∧ exec (.eccInv bd cls unit req) s = .next (if isMgmt req.toNat
      then (if unitOk (unitNo cls.toNat bd unit.toNat) then s.invalidate (unitNo cls.toNat bd unit.toNat) else s).respond 0 0 else s.respond 0 2)
      ∧ exec (.invalidateSweepEnd u) s = .next ((s.modChip (fun c => { c with sweeps := c.sweeps.filter (fun v => decide (v ≠ u)) })).showSweeps u)) ∧
  -- an invalidated word
  (∀ (s : State) (a u w : Nat), a % 8 = 0 →
      unitOf a = some (u, w) →
      (s.invalidate u).word (a / 8) = noWord ∧ (∀ b v k, b % 8 = 0 → unitOf b = some (v, k) → v ≠ u → (s.invalidate u).word (b / 8) = s.word (b / 8))) ∧
  -- SPD_COPY_START
  (∀ (s t : State) (bd : Fin 4) (c : Fin 8) (req : BitVec 16) (k : Nat), k = bd.val * 8 + c.val →
      t = (s.resetFields [Reg.SPD_CPY_STAT_ERR, Reg.SPD_CPY_STAT_RSTATUS, Reg.SPD_CPY_DONE_BYTES, Reg.SPD_CPY_EADDR_ADDR] k).setR Reg.SPD_CPY_REQ_EP k req.toNat →
      (s.getR Reg.SPD_CPY_STAT_STATE k = 1 → exec (.spdCopyStart bd c req) s = .next s)
      ∧ (s.getR Reg.SPD_CPY_STAT_STATE k ≠ 1 → exec (.spdCopyStart bd c req) s = .next
      (if s.getR Reg.SPD_CPY_LEN_BYTES k = 0 ∨ s.getR Reg.SPD_CPY_LOCAL_OFF k / 0x200000 ≠ c.val
      ∨ (c.val + 1) * 0x200000 < s.getR Reg.SPD_CPY_LOCAL_OFF k + s.getR Reg.SPD_CPY_LEN_BYTES k ∨ remoteOk (s.getR Reg.SPD_CPY_REMOTE_ADDR k) (s.getR Reg.SPD_CPY_LEN_BYTES k) = false
      then (t.cpySt k 4).setR Reg.SPD_CPY_STAT_ERR k 1
      else ((t.cpySt k 1).modCopy k (fun x => ⟨0, [], false, x.gen + 1⟩)).copyGo k))) ∧
  -- a channel goes on: up to four times it sends its next request; with nothing outstanding it has stopped or is done
  (∀ (s t : State) (k : Nat), t = (List.range 4).foldl (fun t _ => if t.copyMay k then t.copyIssue k else t) s →
      s.copyGo k = (if t.getR Reg.SPD_CPY_STAT_STATE k = 1 ∧ (t.copy k).outstanding = [] then
      (if (t.copy k).stopping then t.cpySt k 6
      else if t.getR Reg.SPD_CPY_LEN_BYTES k ≤ 1024 * (t.copy k).next then (t.cpySt k 2).setR Reg.SPD_CPY_DONE_BYTES k (t.getR Reg.SPD_CPY_LEN_BYTES k) else t)
      else t)) ∧
  -- SPD_COPY_STOP
  (∀ (s : State) (bd : Fin 4) (c : Fin 8) (k : Nat), k = bd.val * 8 + c.val →
      (s.getR Reg.SPD_CPY_STAT_STATE k = 1 → exec (.spdCopyStop bd c) s = .next ((s.modCopy k (fun x => { x with stopping := true })).copyGo k))
      ∧ (s.getR Reg.SPD_CPY_STAT_STATE k ≠ 1 → exec (.spdCopyStop bd c) s = .next s)) ∧
  -- SPD_COPY_RESPONSE
  (∀ (s t : State) (bd : Fin 4) (c : Fin 8) (k i : Nat) (more : List Nat) (p : Packet) (rest : List Packet), k = bd.val * 8 + c.val →
      (s.copy k).outstanding = i :: more →
      takeFirst (fun p => (decide (p.kind = 2) || decide (p.kind = 4)) && decide (p.tag = copyTag (s.copy k) i)) (s.inbox (copyEp k)) = some (p, rest) →
      t = (s.putInbox (copyEp k) rest).modCopy k (fun x => { x with outstanding := more }) →
      (p.status ≠ 0 → exec (.spdCopyResponse bd c) s = .next (t.copyFail k 3 p.status (1024 * i) (s.copyRemote k (1024 * i))))
      ∧ (p.status = 0 → p.kind ≠ 2 → exec (.spdCopyResponse bd c) s = .next ((t.setR Reg.SPD_CPY_DONE_BYTES k (1024 * i + s.chunkLen k i)).copyGo k))
      ∧ (p.status = 0 → p.kind = 2 → t.copyRead k i p = none → exec (.spdCopyResponse bd c) s = .next s)
      ∧ (∀ u, p.status = 0 → p.kind = 2 → t.copyRead k i p = some u → exec (.spdCopyResponse bd c) s = .next (u.copyGo k))) ∧
  -- SPD_COPY_RESPONSE that no chunk awaits is dropped; with none the state stays
  (∀ (s : State) (bd : Fin 4) (c : Fin 8) (k : Nat), k = bd.val * 8 + c.val →
      ((s.copy k).outstanding = [] → exec (.spdCopyResponse bd c) s = .next (match takeFirst (fun p => decide (p.kind = 2) || decide (p.kind = 4)) (s.inbox (copyEp k)) with
      | some (_, rest) => s.putInbox (copyEp k) rest
      | none => s))
      ∧ (∀ i more, (s.copy k).outstanding = i :: more → takeFirst (fun p => (decide (p.kind = 2) || decide (p.kind = 4)) && decide (p.tag = copyTag (s.copy k) i)) (s.inbox (copyEp k)) = none →
      exec (.spdCopyResponse bd c) s = .next s)) ∧
  -- a chunk read: its good words are written; a handover holds it, a denial or a poisoned word halts the channel
  (∀ (s : State) (k i : Nat) (p : Packet) (la : Nat) (ws : List Rd), la = s.copyLocal k (1024 * i) →
      ws = s.chunkWords k i p →
      (s.spdCheck la (s.chunkLen k i) (s.getR Reg.SPD_CPY_REQ_EP k) = .wait → s.copyRead k i p = none)
      ∧ (∀ b, s.spdCheck la (s.chunkLen k i) (s.getR Reg.SPD_CPY_REQ_EP k) = .deny b → s.copyRead k i p =
      some ((s.spdDeny b (s.getR Reg.SPD_CPY_REQ_EP k) la false).copyFail k 2 0 (1024 * i) la))
      ∧ (s.spdCheck la (s.chunkLen k i) (s.getR Reg.SPD_CPY_REQ_EP k) = .ok → firstPoison ws = none → s.copyRead k i p =
      some ((ws.zipIdx.foldl (fun u e => u.writeWord (la + 8 * e.2) (s.getR Reg.SPD_CPY_REQ_EP k) e.1.data) (s.spdTouch la (s.chunkLen k i))).setR
      Reg.SPD_CPY_DONE_BYTES k (1024 * i + s.chunkLen k i))))

/-- REPAIR_QUEUE_REWRITE of a unit with an entry, unless a remap goes ahead of it: the oldest entry leaves, its word is rewritten (repairWord: a single-bit error corrected, an uncorrectable word stored as poison, an invalid or clean word as it was), with an event where a queued correctable word is uncorrectable by then, and a processor whose memory it is loses up to one cycle; else the state stays. SCRUB_PASS_START of a unit with scrubbing on, its PERIOD passed and no test of the bank by Midnight: its pass starts at word 0, or, while one is on, a skip is counted, the first with event 0x0109; else the state stays. SCRUB_WORD_READ of a pass, once neither a repair nor a remap of the unit waits: its next word is read with the upset given and rewritten likewise; the pass goes on, or is over and counted after the last word; else the state stays. ROW_REMAP_COMMIT of a unit whose oldest suspect row has its turn and a free spare: the row's 16 words are copied with their repair, the row is no suspect and remapped, its field-map entry is written, and event 0x0105 is raised; else the state stays. How many cycles a processor loses is a free value within the bound given (notes/assumptions/41). -/
def Obligations.MemoryRepairCommandsComplete : Prop :=
  -- REPAIR_QUEUE_REWRITE
  (∀ (s : State) (u w : Nat) (ue : Bool) (rest : List (Nat × Bool)), (s.rq u = (w, ue) :: rest → s.remapTurn u = none → exec (.repairQueueRewrite u) s = .next
      (((s.rqDrop u w).repairWord u w (!(!ue && decide ((s.word (unitAddr u w / 8)).mark = .multi)))).mspLoseUnit u 1))
      ∧ (s.rq u = [] ∨ (s.remapTurn u).isSome = true → exec (.repairQueueRewrite u) s = .next s)) ∧
  -- a word's rewrite
  (∀ (s : State) (u w : Nat) (quiet : Bool) (k : Nat), k = unitAddr u w / 8 →
      ((s.word k).valid = false ∨ (s.word k).mark = .clean ∨ (s.word k).mark = .poison → s.repairWord u w quiet = s)
      ∧ (∀ b, (s.word k).valid = true → (s.word k).mark = .single b → s.repairWord u w quiet =
      (if quiet then s else s.memCe u w b 0).putWord k { s.word k with data := corrected (s.word k), mark := .clean })
      ∧ ((s.word k).valid = true → (s.word k).mark = .multi → s.repairWord u w quiet = (if quiet then s else s.memUe u w 0).putWord k { s.word k with mark := .poison })
      ∧ (unitCls u ≠ 2 → s.mspLoseUnit u 1 = s)) ∧
  -- SCRUB_PASS_START
  (∀ (s t : State) (u : Nat), s.flag Reg.ECC_SCRUB_EN (unitBd u) = true →
      unitOk u = true ∧ s.midBank u = false →
      max 1 (s.getR Reg.ECC_SCRUB_PERIOD (unitBd u)) * 2 ^ 30 ≤ s.since (Map.get 0 s.chip.scrubAt u) →
      t = s.modChip (fun c => { c with scrubAt := Map.set 0 c.scrubAt u s.time.toNat }) →
      (Map.find s.chip.scrub u = none → exec (.scrubPassStart u) s = .next (t.modChip (fun c => { c with scrub := Map.put c.scrub u 0 })))
      ∧ ((Map.find s.chip.scrub u).isSome = true → exec (.scrubPassStart u) s = .next (if s.getR Reg.ECC_SCRUB_STAT_SKIPS (unitBd u) = 0
      then (t.satAdd Reg.ECC_SCRUB_STAT_SKIPS (unitBd u) 1).raise (unitEp u) 0x0109 2 (memDetail 0 (unitCls u)) else t.satAdd Reg.ECC_SCRUB_STAT_SKIPS (unitBd u) 1))) ∧
  -- SCRUB_PASS_START otherwise: the state stays
  (∀ (s : State) (u : Nat), s.flag Reg.ECC_SCRUB_EN (unitBd u) = false ∨ unitOk u = false ∨ s.midBank u = true ∨ s.since (Map.get 0 s.chip.scrubAt u) < max 1 (s.getR Reg.ECC_SCRUB_PERIOD (unitBd u)) * 2 ^ 30 →
      exec (.scrubPassStart u) s = .next s) ∧
  -- SCRUB_WORD_READ
  (∀ (s t : State) (u w : Nat) (up : Option Upset), t = (if (s.word (unitAddr u w / 8)).valid then (s.putWord (unitAddr u w / 8) (upsetWord (s.word (unitAddr u w / 8)) up)).repairWord u w (s.rqHas u w) else s).mspLoseUnit u 1 →
      (Map.find s.chip.scrub u = none → exec (.scrubWordRead u up) s = .next s)
      ∧ (s.midBank u = true ∨ s.repairsFirst u = true → exec (.scrubWordRead u up) s = .next s)
      ∧ (Map.find s.chip.scrub u = some w → s.midBank u = false → s.repairsFirst u = false → exec (.scrubWordRead u up) s = .next (if w + 1 < unitWords u
      then t.modChip (fun c => { c with scrub := Map.put c.scrub u (w + 1) })
      else (t.modChip (fun c => { c with scrub := Map.erase c.scrub u })).wrapAdd Reg.ECC_SCRUB_STAT_PASSES (unitBd u) 1))) ∧
  -- ROW_REMAP_COMMIT
  (∀ (s t : State) (u row spare : Nat), t = (((List.range 16).foldl (fun x i => x.copyRowWord u (16 * row + i)) s).mspLoseUnit u 16).modChip (fun c => { c with suspects := c.suspects.filter (fun e => decide (e ≠ (u, row))), ahead := Map.erase c.ahead (rowKey u row), remaps := Map.set [] c.remaps u (Map.get [] c.remaps u ++ [(row, spare)]) }) →
      (s.remapTurn u = some (row, spare) → exec (.rowRemapCommit u) s = .next ((t.fieldMap u row spare).1.raise (unitEp u) 0x0105 1
      (memDetail (unitAddr u (16 * row)) (unitCls u) 0 0 spare false (!(t.fieldMap u row spare).2))))
      ∧ (s.remapTurn u = none → exec (.rowRemapCommit u) s = .next s)) ∧
  -- a row's copy and the field map
  (∀ (s : State) (u w row spare : Nat), ((s.word (unitAddr u w / 8)).mark = .multi → s.copyRowWord u w = (s.repairWord u w (s.rqHas u w)).rqDrop u w)
      ∧ ((s.word (unitAddr u w / 8)).mark ≠ .multi → s.copyRowWord u w = s.repairWord u w true)
      ∧ (∀ i, (List.range 2048).find? (fun i => !isFieldMap (s.word (fieldMapKey i))) = some i → s.fieldMap u row spare =
      (s.putWord (fieldMapKey i) ⟨BitVec.ofNat 64 (unitAddr u (16 * row) + spare * 2 ^ 48 + 0xA5 * 2 ^ 56), true, .clean⟩, true)))

/-- LPX_ACCESS: a request that the windows refuse gets STATUS 2; one outside the mapped memory is a decode error; one to a channel that is not READY, or in the window of a frame that deterministic mode keeps, waits; another wakes its rank and writes, or reads its words, after what its link error counts and raises. LPX_INLINE_WRITEBACK rewrites the oldest word that waits (in deterministic mode in a window alone). LPX_DEFAULT_TRAIN_START trains every channel in RESET. LPX_TRAINING_END of a channel that trains, or that a retrain has come to: a failure, or devices out of range, makes it FAILED with its code and 0x0D02; else the devices and the capacity show, an operation is DONE, 0x0D01 is raised, and after a reset with INLINE its words are to be zeroed, else it is READY. LPX_INIT_PASS_END zeroes them. LPX_RETRAIN with DET 1 is rejected with CFG_REJ; of a READY or FAILED channel without an operation it begins one, which trains when its first command is out; LPX_ABORT ends it before that, else it is late. LPX_RETRAIN_WAIT_TIMEOUT answers the oldest best-effort request of a training channel with STATUS 3. LPX_OSC_PASS of a READY channel (in deterministic mode in a window alone) raises 0x0D09 once for excess drift. LPX_DET_WRITE to 0 with a contract bound sets CFG_REJ; else a new DET waits for LPX_DET_APPLY in READY in a later frame. LPX_MAP_WRITE while a channel is READY, or for unequal capacities, sets MAP_REJ; else writes MODE. LPX_REFRESH_WINDOW takes its refreshes in a window, or degraded; LPX_MR4_UPDATE shows RR and DET_DEGRADED; LPX_IDLE_POWER_DOWN of an enabled, awake rank powers it down. Where a condition does not hold the state stays. -/
def Obligations.DramCommandsComplete : Prop :=
  -- LPX_ACCESS
  (∀ (s t : State) (r : MemReq) (link : LinkErr) (up : Option Upset) (n loc : Nat) (x : List Rd × State) (ws : List Rd), s.dawnGuard r.addr r.bytes r.req r.write = none →
      t = s.lpxWakeRank n loc →
      x = (t.lpxLink n r.addr link).readWords (r.addr / 8 * 8) (wordsOf r.addr r.bytes) r.req up →
      ws = linkPoison r.addr link x.1 →
      (s.lpxCheck r.addr r.bytes = .unmapped → exec (.lpxAccess r link up) s = .next ((s.decodeError (lpxEp (r.addr / 2 ^ 34 % 16)) r.addr r.req).coreTakes r.req r.addr r.write))
      ∧ (s.lpxCheck r.addr r.bytes = .wait n → exec (.lpxAccess r link up) s = .next (s.modLp n (fun c => { c with waiting := c.waiting ++ [r] })))
      ∧ (s.lpxCheck r.addr r.bytes = .ok n loc → r.write = true → exec (.lpxAccess r link up) s = .next (((t.lpxMerge r.addr r.bytes).writeWords r.addr r.bytes r.data r.req (fun _ => r.poison) 0).respond 0 0))
      ∧ (s.lpxCheck r.addr r.bytes = .ok n loc → r.write = false → exec (.lpxAccess r link up) s = .next
      ((x.2.respond (bytesOf r.addr r.bytes ws) 0 (ws.any (fun w => w.poison))).coreTakes r.req r.addr false))) ∧
  -- LPX_ACCESS that the windows refuse
  (∀ (s t : State) (r : MemReq) (link : LinkErr) (up : Option Upset), s.dawnGuard r.addr r.bytes r.req r.write = some t →
      exec (.lpxAccess r link up) s = .next (t.respond 0 2)) ∧
  -- what a link error counts, raises and poisons
  (∀ (s : State) (n a : Nat) (l : List Rd), s.lpxLink n a .ok = s ∧ s.lpxLink n a .corrected = (((s.satAdd Reg.LPX_ERR_LINK_CE n 1).lpxElast n a).raise (lpxEp n) 0x0D03 1 (lpxDetail a))
      ∧ s.lpxLink n a .failed = (((s.satAdd Reg.LPX_ERR2_UE n 1).lpxElast n a).raise (lpxEp n) 0x0D05 4 (lpxDetail a))
      ∧ linkPoison a .ok l = l ∧ linkPoison a .corrected l = l
      ∧ linkPoison a .failed l = l.zipIdx.map (fun e => if (a / 8 * 8 + 8 * e.2) / 64 = a / 64 then { e.1 with poison := true } else e.1)) ∧
  -- LPX_INLINE_WRITEBACK
  (∀ (s t : State) (n : Fin 16) (loc : Nat) (ue : Bool) (rest : List (Nat × Bool)), t = s.modLp n (fun c => { c with wb := rest }) →
      ((s.lp n).wb = [] ∨ (s.flag Reg.LPX_STAT_DET_ON n = true ∧ s.lpxWindow n = false) → exec (.lpxInlineWriteback n) s = .next s)
      ∧ ((s.lp n).wb = (loc, ue) :: rest → s.flag Reg.LPX_STAT_DET_ON n = false ∨ s.lpxWindow n = true → exec (.lpxInlineWriteback n) s = .next
      (if ue then t.putWord (lpxKey n loc) { s.word (lpxKey n loc) with mark := .poison }
      else match (s.word (lpxKey n loc)).mark with
      | .single _ => t.putWord (lpxKey n loc) { s.word (lpxKey n loc) with data := corrected (s.word (lpxKey n loc)), mark := .clean }
      | _ => t))) ∧
  -- LPX_DEFAULT_TRAIN_START
  (∀ (s : State), exec .lpxDefaultTrainStart s = .next ((List.range 16).foldl (fun t n => if t.getR Reg.LPX_STAT_CSTATE n = 0 then t.lpxTrain n else t) s)
      ∧ (∀ n < 16, s.getR Reg.LPX_STAT_CSTATE n = 0 → s.lpxTrainAll.getR Reg.LPX_STAT_CSTATE n = 1 ∧ (s.lpxTrainAll.lp n).inl = s.flag Reg.LPX_CFG_INLINE n
      ∧ (s.lpxTrainAll.lp n).rate = min 4 (s.getR Reg.LPX_CFG_RATE n))
      ∧ (∀ n < 16, s.getR Reg.LPX_STAT_CSTATE n ≠ 0 → s.lpxTrainAll.getR Reg.LPX_STAT_CSTATE n = s.getR Reg.LPX_STAT_CSTATE n)
      ∧ s.lpxTrainAll.mem = s.mem ∧ s.lpxTrainAll.events = s.events) ∧
  -- LPX_TRAINING_END of a channel that trains, or that a retrain has come to
  (∀ (s u t w : State) (n : Fin 16) (d r mfr rev c : Nat), (s.getR Reg.LPX_STAT_CSTATE n = 1 ∧ (s.lp n).initDue = false) ∨ s.getR Reg.LPX_STAT_OP_STATE n = 1 →
      u = (if s.getR Reg.LPX_STAT_CSTATE n = 1 ∧ (s.lp n).initDue = false then s else s.lpxTrain n) →
      t = ((((((u.setR Reg.LPX_DEV_DENSITY n d).setR Reg.LPX_DEV_RANKS n r).setR Reg.LPX_DEV_MFR n mfr).setR Reg.LPX_DEV_REV n rev).setR
      Reg.LPX_DEV_U n (usable d r (u.lp n).inl)).setR Reg.LPX_STAT_FAILCODE n 0).modLp n (fun c => { c with committed := false, driftRaised := false }) →
      w = (if u.getR Reg.LPX_STAT_OP_STATE n = 1 then t.setR Reg.LPX_STAT_OP_STATE n 2 else t).raise (lpxEp n) 0x0D01 0 0 →
      exec (.lpxTrainingEnd n (.fail c)) s = .next (u.lpxFail n (max 1 (min 5 c)))
      ∧ (2 < d ∨ 1 < r → exec (.lpxTrainingEnd n (.ok d r mfr rev)) s = .next (u.lpxFail n 2))
      ∧ (d ≤ 2 → r ≤ 1 → exec (.lpxTrainingEnd n (.ok d r mfr rev)) s = .next (if ((u.lp n).afterReset && (u.lp n).inl) = true
      then w.modLp n (fun c => { c with initDue := true }) else w.lpxReady n))) ∧
  -- LPX_TRAINING_END of another channel: the state stays
  (∀ (s : State) (n : Fin 16) (out : TrainEnd), s.getR Reg.LPX_STAT_CSTATE n ≠ 1 ∨ (s.lp n).initDue = true →
      s.getR Reg.LPX_STAT_OP_STATE n ≠ 1 →
      exec (.lpxTrainingEnd n out) s = .next s) ∧
  -- a training that fails, and a channel that becomes READY
  (∀ (s : State) (n : Fin 16) (code : Nat), code < 16 →
      (s.lpxFail n code).getR Reg.LPX_STAT_CSTATE n = 4 ∧ (s.lpxFail n code).getR Reg.LPX_STAT_FAILCODE n = code ∧ (s.lpxFail n code).getR Reg.LPX_DEV_U n = 0
      ∧ (s.getR Reg.LPX_STAT_OP_STATE n = 1 → (s.lpxFail n code).getR Reg.LPX_STAT_OP_STATE n = 4)
      ∧ (s.lpxFail n code).events = raiseIn s.events (evKey (lpxEp n) 0x0D02) s.time.toNat 4 (lpxDetail 0 code % 2 ^ 128)
      ∧ (s.lpxFail n code).mem = s.mem
      ∧ s.lpxReady n = ((s.lpxSt n 2).modLp n (fun c => { c with afterReset := false, initDue := false })).lpxResume n) ∧
  -- LPX_INIT_PASS_END
  (∀ (s : State) (n : Fin 16), (s.getR Reg.LPX_STAT_CSTATE n = 1 → (s.lp n).initDue = true → exec (.lpxInitPassEnd n) s = .next ((s.modMem (fun m => m.filter (fun e => !decide (e.1 / 2 ^ 31 = n.val)))).lpxReady n))
      ∧ (s.getR Reg.LPX_STAT_CSTATE n ≠ 1 ∨ (s.lp n).initDue = false → exec (.lpxInitPassEnd n) s = .next s)) ∧
  -- LPX_RETRAIN and LPX_ABORT
  (∀ (s t : State) (n : Fin 16) (committed : Bool), t = ((s.setR Reg.LPX_STAT_OP_STATE n 1).setR Reg.LPX_STAT_ABORT_LATE n 0).modLp n (fun c => { c with committed := committed }) →
      (s.flag Reg.LPX_CTL_DET n = true → exec (.lpxRetrain n committed) s = .next (s.setR Reg.LPX_STAT_CFG_REJ n 1))
      ∧ (s.flag Reg.LPX_CTL_DET n = false → s.getR Reg.LPX_STAT_CSTATE n = 2 ∨ s.getR Reg.LPX_STAT_CSTATE n = 4 → s.getR Reg.LPX_STAT_OP_STATE n ≠ 1 →
      exec (.lpxRetrain n committed) s = .next (if committed then t.lpxTrain n else t))
      ∧ (s.flag Reg.LPX_CTL_DET n = false → (s.getR Reg.LPX_STAT_CSTATE n ≠ 2 ∧ s.getR Reg.LPX_STAT_CSTATE n ≠ 4) ∨ s.getR Reg.LPX_STAT_OP_STATE n = 1 →
      exec (.lpxRetrain n committed) s = .next s)
      ∧ (s.getR Reg.LPX_STAT_OP_STATE n ≠ 1 → exec (.lpxAbort n) s = .next s)
      ∧ (s.getR Reg.LPX_STAT_OP_STATE n = 1 → (s.lp n).committed = true → exec (.lpxAbort n) s = .next (s.setR Reg.LPX_STAT_ABORT_LATE n 1))
      ∧ (s.getR Reg.LPX_STAT_OP_STATE n = 1 → (s.lp n).committed = false → exec (.lpxAbort n) s = .next (s.setR Reg.LPX_STAT_OP_STATE n 3))) ∧
  -- LPX_RETRAIN_WAIT_TIMEOUT
  (∀ (s : State) (n : Fin 16) (r : MemReq) (rest : List MemReq) (p : Packet) (l : List Packet), (s.getR Reg.LPX_STAT_CSTATE n = 1 → (s.lp n).waiting = r :: rest → exec (.lpxRetrainWaitTimeout n) s = .next ((s.modLp n (fun c => { c with waiting := rest })).respond 0 3))
      ∧ (s.getR Reg.LPX_STAT_CSTATE n = 1 → (s.lp n).waiting = [] → takeFirst (fun p => isRequest p && !p.cls) (s.inbox (lpxEp n)) = some (p, l) →
      exec (.lpxRetrainWaitTimeout n) s = .next ((s.putInbox (lpxEp n) l).answerStatus (lpxEp n) p 3))
      ∧ (s.getR Reg.LPX_STAT_CSTATE n = 1 → (s.lp n).waiting = [] → takeFirst (fun p => isRequest p && !p.cls) (s.inbox (lpxEp n)) = none →
      exec (.lpxRetrainWaitTimeout n) s = .next s)
      ∧ (s.getR Reg.LPX_STAT_CSTATE n ≠ 1 → exec (.lpxRetrainWaitTimeout n) s = .next s)) ∧
  -- LPX_OSC_PASS
  (∀ (s : State) (n : Fin 16) (excess : Bool), (s.getR Reg.LPX_STAT_CSTATE n = 2 → s.flag Reg.LPX_STAT_DET_ON n = false ∨ s.lpxWindow n = true → (s.lp n).driftRaised = false →
      exec (.lpxOscPass n true) s = .next ((s.modLp n (fun c => { c with driftRaised := true })).raise (lpxEp n) 0x0D09 2 0))
      ∧ (s.getR Reg.LPX_STAT_CSTATE n ≠ 2 ∨ (s.flag Reg.LPX_STAT_DET_ON n = true ∧ s.lpxWindow n = false) ∨ excess = false ∨ (s.lp n).driftRaised = true →
      exec (.lpxOscPass n excess) s = .next s)) ∧
  -- LPX_DET_WRITE and LPX_DET_APPLY
  (∀ (s t : State) (n : Fin 16) (det v busy : Bool), busy = s.contractIds.any (fun i => decide (s.getR Reg.THY_CT_EP_SRC i = lpxEp n) || decide (s.getR Reg.THY_CT_EP_DST i = lpxEp n)) →
      (t = (s.modLp n (fun c => { c with detPend := none, powerDown := if v then [] else c.powerDown })).setR Reg.LPX_STAT_DET_ON n (bit v)) →
      (det = false → busy = true → exec (.lpxDetWrite n det) s = .next (s.setR Reg.LPX_STAT_CFG_REJ n 1))
      ∧ (det = true ∨ busy = false → s.flag Reg.LPX_CTL_DET n = det → exec (.lpxDetWrite n det) s = .next s)
      ∧ (det = true ∨ busy = false → s.flag Reg.LPX_CTL_DET n ≠ det →
      exec (.lpxDetWrite n det) s = .next ((s.setR Reg.LPX_CTL_DET n (bit det)).modLp n (fun c => { c with detPend := some det, detAt := s.nocFrame })))
      ∧ ((s.lp n).detPend = none ∨ s.getR Reg.LPX_STAT_CSTATE n ≠ 2 ∨ s.nocFrame ≤ (s.lp n).detAt → exec (.lpxDetApply n) s = .next s)
      ∧ ((s.lp n).detPend = some v → s.getR Reg.LPX_STAT_CSTATE n = 2 → (s.lp n).detAt < s.nocFrame → exec (.lpxDetApply n) s = .next (if s.flag Reg.LPX_STAT_DET_ON n = v then t
      else t.raise (lpxEp n) 0x0D07 0 (lpxDetail 0 0 0 v)))) ∧
  -- LPX_MAP_WRITE
  (∀ (s t : State) (mode clr : Bool), t = (if clr then s.setR Reg.LPX_MAP_MAP_REJ 0 0 else s) →
      exec (.lpxMapWrite mode clr) s = .next (if (List.range 16).any (fun n => decide (s.getR Reg.LPX_STAT_CSTATE n = 2)) = true
      ∨ (mode = true ∧ (List.range 16).all (fun n => decide (s.getR Reg.LPX_DEV_U n = s.getR Reg.LPX_DEV_U 0)) = false)
      then t.setR Reg.LPX_MAP_MAP_REJ 0 1 else t.setR Reg.LPX_MAP_MODE 0 (bit mode))) ∧
  -- LPX_REFRESH_WINDOW, LPX_MR4_UPDATE, LPX_IDLE_POWER_DOWN
  (∀ (s : State) (n : Fin 16) (k : Fin 6) (rr : BitVec 5) (above : Bool) (rank : Fin 2), exec (.lpxRefreshWindow n k) s = .next (if s.flag Reg.LPX_STAT_DET_ON n = true ∧ (s.lpxWindow n = true ∨ s.flag Reg.LPX_STAT_DET_DEGRADED n = true) ∧ s.getR Reg.LPX_STAT_CSTATE n = 2
      then s.modLp n (fun c => { c with refreshes := k.val }) else s)
      ∧ exec (.lpxMr4Update n rr above) s = .next (if above = true ∧ s.flag Reg.LPX_STAT_DET_DEGRADED n = false
      then ((s.setR Reg.LPX_ERR2_MR4_RR n rr.toNat).setR Reg.LPX_STAT_DET_DEGRADED n 1).raise (lpxEp n) 0x0D08 3 (lpxDetail 0 0 rr.toNat)
      else (s.setR Reg.LPX_ERR2_MR4_RR n rr.toNat).setR Reg.LPX_STAT_DET_DEGRADED n (bit above))
      ∧ exec (.lpxIdlePowerDown n rank) s = .next (if s.getR Reg.LPX_STAT_CSTATE n = 2 ∧ s.flag Reg.LPX_STAT_DET_ON n = false ∧ s.getR Reg.LPX_CFG_PD_IDLE n ≠ 0
      ∧ rank.val ≤ s.getR Reg.LPX_DEV_RANKS n ∧ (s.lp n).powerDown.contains rank.val = false
      then s.modLp n (fun c => { c with powerDown := c.powerDown ++ [rank.val] }) else s))

/-- PERST rise is held. Entry to L0 with PERST_N high and the link down sets the 16 lanes to MODE 5, shows rate, width and Flit mode, with 0x0E01, and 0x0E03 where degraded or narrower than 16; else the state stays. Link-down of an up link raises 0x0E02 and is a hot reset, as an in-band one is; both leave a down link's state. PERST_N low is held and is a hot reset. A hot reset in a reset of a higher class changes nothing; with HOT_WARM 0 and no session of PF0 it resets its registers and PCIe state but PERST_N, sets the cause, raises 0x0E04, and leaves memory, Dawn, fabric, network and contracts. With the link up, a configuration request to an absent function is answered with Unsupported Request; to an enabled one with its IDs or class, or it sets what it writes. A host read of a function that does not answer, or beyond the BAR, is an Unsupported Request; else it goes to the window or BAR0; past the top of the address space it is one too, with event 0x0201. A write goes likewise, or changes nothing; a write to a BAR0 doorbell sets its bit. With the link down requests change nothing. A failed part of a host write raises 0x0E06 and keeps bus mastering. The oldest response for a host request is taken; with none the state stays. A vector beyond the count has no effect, an open one sends its message, another becomes pending. A doorbell of PF0 or an absent function changes nothing, another's bit is set. A mailbox length fills an empty mailbox and is rejected at a full one. FLR of an enabled function ends with 0x0E05, clears its bits, reads and doorbell, PF0's the mailboxes; of another it changes nothing. The words that hold the functions' PCI state are the model's own (notes/assumptions/47). -/
def Obligations.PcieLinkAndFunctionCommandsComplete : Prop :=
  -- PCIE_PERST_RISE
  (∀ (s : State), exec .pciePerstRise s = .next (s.modPcie (fun p => { p with perst := true }))) ∧
  -- PCIE_LINK_UP
  (∀ (s : State) (rate : Fin 6) (width : Fin 5) (flit : Bool) (degraded : Bool), s.pcie.perst = true →
      s.flag Reg.PCI_STAT_LINK_UP 0 = false →
      ∃ t, exec (.pcieLinkUp rate width flit degraded) s = .next t ∧ t.getR Reg.PCI_STAT_LINK_UP 0 = 1 ∧ t.getR Reg.PCI_STAT_RATE 0 = rate.val
      ∧ t.getR Reg.PCI_STAT_WIDTH 0 = 2 ^ width.val ∧ t.getR Reg.PCI_STAT_FLIT 0 = bit (flit || decide (rate.val = 5))
      ∧ t.events = (if degraded = true ∨ width.val < 4
      then raiseIn (raiseIn s.events (evKey pcieEp 0x0E01) s.time.toNat 0 (pcieDetail 0 0 0 rate (2 ^ width.val) % 2 ^ 128)) (evKey pcieEp 0x0E03) s.time.toNat 2
      (pcieDetail 0 0 0 rate (2 ^ width.val) % 2 ^ 128)
      else raiseIn s.events (evKey pcieEp 0x0E01) s.time.toNat 0 (pcieDetail 0 0 0 rate (2 ^ width.val) % 2 ^ 128))
      ∧ (∀ lane < 16, t.getR Reg.LNE_CFG_MODE lane = 5)
      ∧ Leaves [.events] ([Reg.PCI_STAT_LINK_UP.key 0, Reg.PCI_STAT_RATE.key 0, Reg.PCI_STAT_WIDTH.key 0, Reg.PCI_STAT_FLIT.key 0]
      ++ (List.range 16).map (fun lane => Reg.LNE_CFG_MODE.key lane)) s t) ∧
  -- PCIE_LINK_UP in PERST_N, or of a link that is up
  (∀ (s : State) (rate : Fin 6) (width : Fin 5) (flit : Bool) (degraded : Bool), s.pcie.perst = false ∨ s.flag Reg.PCI_STAT_LINK_UP 0 = true →
      exec (.pcieLinkUp rate width flit degraded) s = .next s) ∧
  -- PCIE_LINK_DOWN and PCIE_HOT_RESET
  (∀ (s : State), s.flag Reg.PCI_STAT_LINK_UP 0 = true →
      exec .pcieLinkDown s = .next (s.raise pcieEp 0x0E02 2 (pcieDetail 0)).hotReset ∧ exec (.pcieHotReset false) s = .next s.hotReset) ∧
  -- PERST_N low
  (∀ (s : State), exec (.pcieHotReset true) s = .next (s.modPcie (fun p => { p with perst := false })).hotReset) ∧
  -- a hot reset within a reset of a higher class
  (∀ (s : State), (s.inReset = true → s.hotReset = s) ∧ (s.flag Reg.PCI_STAT_LINK_UP 0 = false → exec (.pcieHotReset false) s = .next s ∧ exec .pcieLinkDown s = .next s)) ∧
  -- what a hot reset leaves, where HOT_WARM is 0 and PF0 holds no debug session
  (∀ (s : State) (f : Field) (i : Nat), s.inReset = false →
      s.flag Reg.DEV_RST_CFG_HOT_WARM 0 = false →
      s.getR Reg.DBG_SESS_STATE 0 ≠ 2 →
      Reg.porTop ≤ f.id ∧ f.id < Reg.hotTop →
      s.hotReset.getR f i = f.rst i ∧ s.hotReset.pcie = { State.reset.pcie with perst := s.pcie.perst } ∧ s.hotReset.getR Reg.DEV_RST_CAUSE_HOT 0 = 1
      ∧ s.hotReset.mem = s.mem ∧ s.hotReset.dawn = s.dawn ∧ s.hotReset.fab = s.fab ∧ s.hotReset.noc = s.noc ∧ s.hotReset.thy = s.thy
      ∧ s.hotReset.events = raiseIn s.events (evKey pcieEp 0x0E04) s.time.toNat 0 (pcieDetail 0 % 2 ^ 128)) ∧
  -- PCIE_CONFIG_REQUEST
  (∀ (s : State) (fn : Fin 34) (on mask : Bool) (k : Fin 33) (acc : CfgAccess), s.flag Reg.PCI_STAT_LINK_UP 0 = true →
      (s.fnEnabled fn = false → exec (.pcieConfigRequest fn acc) s = .next (s.respond 0 1))
      ∧ (s.fnEnabled fn = true →
      exec (.pcieConfigRequest fn .readId) s = .next (s.respond (0x1E5D + (if fn.val = 0 then 0x8A08 else if fn.val = 1 then 0x8A09 else 0x8A0A) * 2 ^ 16) 0)
      ∧ exec (.pcieConfigRequest fn .readClass) s = .next (s.respond 0x120000 0)
      ∧ exec (.pcieConfigRequest fn (.busMaster on)) s = .next (((s.respond 0 0).modPcie (fun p => { p with bme := listed p.bme fn on })).msixFlush fn)
      ∧ exec (.pcieConfigRequest fn (.power on)) s = .next ((s.respond 0 0).modPcie (fun p => { p with d3 := listed p.d3 fn on }))
      ∧ exec (.pcieConfigRequest fn (.numVfs k)) s = .next (if fn.val = 1 then (s.respond 0 0).modPcie (fun p => { p with numVfs := k.val }) else s.respond 0 0)
      ∧ exec (.pcieConfigRequest fn (.msix on mask)) s = .next (((s.respond 0 0).modPcie (fun p => { p with msixOn := listed p.msixOn fn on, msixMask := listed p.msixMask fn mask })).msixFlush fn)
      ∧ exec (.pcieConfigRequest fn .other) s = .next (s.respond 0 0))) ∧
  -- requests while the link is down
  (∀ (s : State) (fn : Fin 34) (acc : CfgAccess) (bar2 poison : Bool) (off bytes data : Nat), s.flag Reg.PCI_STAT_LINK_UP 0 = false →
      exec (.pcieConfigRequest fn acc) s = .next s ∧ exec (.pcieHostRead fn bar2 off bytes) s = .next s ∧ exec (.pcieHostWrite fn bar2 off bytes data poison) s = .next s) ∧
  -- PCIE_HOST_READ
  (∀ (s : State) (fn : Fin 34) (bar2 : Bool) (off bytes : Nat), s.flag Reg.PCI_STAT_LINK_UP 0 = true →
      (s.fnAnswers fn = false ∨ inBar bar2 fn off bytes = false → exec (.pcieHostRead fn bar2 off bytes) s = .next (s.respond 0 1)
      ∧ ∀ data poison, exec (.pcieHostWrite fn bar2 off bytes data poison) s = .next s)
      ∧ (s.fnAnswers fn = true → inBar true fn off bytes = true → exec (.pcieHostRead fn true off bytes) s = .next (s.windowRead fn off bytes))
      ∧ (s.fnAnswers fn = true → inBar false fn off bytes = true → exec (.pcieHostRead fn false off bytes) s = .next (s.bar0Read fn off bytes))
      ∧ (s.fnAnswers fn = true → inBar false fn off bytes = true → 0 < fn.val → bytes = 4 → off % 4 = 0 →
      exec (.pcieHostRead fn false off bytes) s = .next (s.respond (s.bar0Word fn off) 0))
      ∧ (s.fnAnswers fn = true → fn.val = 0 → off < 0x10000 → bytes = 4 → off % 4 = 0 → ∃ t, t = s.busRead pkgEp (0x6000070000 + off) false false pcieEp
      ∧ exec (.pcieHostRead fn false off bytes) s = .next (t.respond t.resp.data (cplStatus t.resp.status) t.resp.poison))) ∧
  -- a host read past the top of the address space
  (∀ (s : State) (fn : Fin 34) (off : Nat), s.flag Reg.PCI_STAT_LINK_UP 0 = true →
      s.fnAnswers fn = true →
      off + 8 ≤ bar2Size fn ∧ off % 512 ≤ 504 →
      2 ^ 48 ≤ s.winBase fn + off ∧ s.winBase fn % 512 = 0 →
      s.pcie.reads = [] ∧ s.pcie.writes = [] →
      ∃ t, exec (.pcieHostRead fn true off 8) s = .next t ∧ t.resp = ⟨0, 1, false⟩ ∧ t.pcie.reads = []
      ∧ t.events = raiseIn s.events (evKey pcieEp 0x0201) s.time.toNat 2 ((s.winBase fn + off) % 2 ^ 48 + 0x05A0 * 2 ^ 48) ∧ Leaves [.events, .pcie, .resp] [] s t) ∧
  -- PCIE_HOST_WRITE
  (∀ (s : State) (fn : Fin 34) (off bytes data : Nat) (poison : Bool), s.flag Reg.PCI_STAT_LINK_UP 0 = true →
      s.fnAnswers fn = true →
      (inBar true fn off bytes = true → exec (.pcieHostWrite fn true off bytes data poison) s = .next (s.windowWrite fn off bytes data poison))
      ∧ (inBar false fn off bytes = true → exec (.pcieHostWrite fn false off bytes data poison) s = .next (s.bar0Write fn off bytes data poison))
      ∧ (fn.val = 1 → exec (.pcieHostWrite fn false 0 4 data false) s = .next (s.setR Reg.PCI_DB_PF1 0 1).pcieLines)
      ∧ (2 ≤ fn.val → exec (.pcieHostWrite fn false 0 4 data false) s = .next (s.setR Reg.PCI_DB_VF 0 (setBit (s.getR Reg.PCI_DB_VF 0) (fn.val - 2))).pcieLines)) ∧
  -- PCIE_DEVICE_RESPONSE
  (∀ (s : State) (p : Packet) (rest : List Packet), takeFirst (fun p => (decide (p.kind = 2) || decide (p.kind = 4)) && decide (p.tag < 128)) (s.inbox pcieEp) = some (p, rest) →
      exec .pcieDeviceResponse s = .next ((((s.putInbox pcieEp rest).modPcie (fun x => { x with cpls := [] })).hostResponse p).issueReads)) ∧
  -- PCIE_DEVICE_RESPONSE with no response that waits
  (∀ (s : State), takeFirst (fun p => (decide (p.kind = 2) || decide (p.kind = 4)) && decide (p.tag < 128)) (s.inbox pcieEp) = none →
      exec .pcieDeviceResponse s = .next s) ∧
  -- the answer to a host write: a part that failed is logged and reported
  (∀ (s : State) (fn addr st : Nat), (s.putFailed fn addr st).events = raiseIn s.events (evKey pcieEp 0x0E06) s.time.toNat 2 (pcieDetail addr st fn % 2 ^ 128)
      ∧ (s.putFailed fn addr st).pcie.bme = s.pcie.bme ∧ Leaves [.events, .pcie] [] s (s.putFailed fn addr st)) ∧
  -- PCIE_MSIX_TRIGGER
  (∀ (s : State) (fn vec : BitVec 6), (msixCount fn.toNat ≤ vec.toNat → exec (.pcieMsixTrigger fn vec) s = .next s)
      ∧ (vec.toNat < msixCount fn.toNat → s.msixOpen fn.toNat vec.toNat = false →
      exec (.pcieMsixTrigger fn vec) s = .next (s.putMsix fn.toNat vec.toNat { s.msixVec fn.toNat vec.toNat with pending := true }))
      ∧ (vec.toNat < msixCount fn.toNat → s.msixOpen fn.toNat vec.toNat = true → ∃ t, exec (.pcieMsixTrigger fn vec) s = .next t
      ∧ t.pcie.tlp = some ⟨fn.toNat, (s.msixVec fn.toNat vec.toNat).addr, 4, (s.msixVec fn.toNat vec.toNat).data⟩
      ∧ (t.msixVec fn.toNat vec.toNat).pending = false ∧ Leaves [.pcie] [] s t)) ∧
  -- PCIE_DOORBELL
  (∀ (s : State) (fn : Fin 34), fn.val ≠ 0 →
      s.fnEnabled fn = true →
      exec (.pcieDoorbell fn) s = .next (if fn.val = 1 then (s.setR Reg.PCI_DB_PF1 0 1).pcieLines
      else (s.setR Reg.PCI_DB_VF 0 (setBit (s.getR Reg.PCI_DB_VF 0) (fn.val - 2))).pcieLines)) ∧
  -- PCIE_DOORBELL of PF0 or of a function that is not enabled
  (∀ (s : State) (fn : Fin 34), fn.val = 0 ∨ s.fnEnabled fn = false →
      exec (.pcieDoorbell fn) s = .next s) ∧
  -- MBX_H2D_LEN_WRITE
  (∀ (s : State) (len : BitVec 13), (s.flag Reg.PCI_MBX_H2D_FULL 0 = true → exec (.mbxH2dLenWrite len) s = .next (s.setR Reg.PCI_MBX_H2D_REJ 0 1))
      ∧ (s.flag Reg.PCI_MBX_H2D_FULL 0 = false → exec (.mbxH2dLenWrite len) s = .next (((s.setR Reg.PCI_MBX_H2D_LEN 0 len.toNat).setR Reg.PCI_MBX_H2D_FULL 0 1).pcieLines))) ∧
  -- MBX_D2H_LEN_WRITE
  (∀ (s : State) (len : BitVec 13), (s.flag Reg.PCI_MBX_D2H_FULL 0 = true → exec (.mbxD2hLenWrite len) s = .next (s.setR Reg.PCI_MBX_D2H_REJ 0 1))
      ∧ (s.flag Reg.PCI_MBX_D2H_FULL 0 = false → exec (.mbxD2hLenWrite len) s = .next (((s.setR Reg.PCI_MBX_D2H_LEN 0 len.toNat).setR Reg.PCI_MBX_D2H_FULL 0 1).msix 0 0))) ∧
  -- PCI_FLR
  (∀ (s : State) (fn : Fin 34), s.fnEnabled fn = true →
      (∃ u : State, exec (.pciFlr fn) s = .next (u.raise pcieEp 0x0E05 0 (pcieDetail 0 0 fn))) ∧ ∃ t, exec (.pciFlr fn) s = .next t ∧ t.pcie.bme.contains fn.val = false ∧ t.pcie.d3.contains fn.val = false ∧ t.pcie.msixOn.contains fn.val = false
      ∧ (∀ r ∈ t.pcie.reads, r.fn ≠ fn.val) ∧ (fn.val = 1 → t.getR Reg.PCI_DB_PF1 0 = 0 ∧ t.pcie.numVfs = 0)
      ∧ (2 ≤ fn.val → t.getR Reg.PCI_DB_VF 0 = clrBit (s.getR Reg.PCI_DB_VF 0) (fn.val - 2) % 2 ^ 32)
      ∧ (fn.val = 0 → t.flag Reg.PCI_MBX_H2D_FULL 0 = false ∧ t.flag Reg.PCI_MBX_D2H_FULL 0 = false)) ∧
  -- PCI_FLR of a function that is not enabled
  (∀ (s : State) (fn : Fin 34), s.fnEnabled fn = false →
      exec (.pciFlr fn) s = .next s)

/-- DMA START of a BUSY channel leaves the state; else with a zero length, a bad range, an absent function or no bus mastering it ends FAILED, ERR 1; else it is BUSY, ERR 0, DONE 0 and goes on, a host-to-device channel that is not frozen with up to 16 chunks of 512 bytes requested. STOP of a BUSY channel takes no more chunks and goes on, with nothing outstanding to STOPPED; of another it leaves the state. An answer of the host, or a completion timeout, belongs to the k-th outstanding chunk of a BUSY host-to-device channel, and leaves the state otherwise; where that chunk is the next, an error or timeout ends FAILED with ERR 2, 0x0E07 and the data's poison with ERR 4; data makes the chunk ready, and the channel goes on. The oldest response of the device to the channel is taken; with none the state stays. A debug mailbox GO answers BUSY while DRW holds the session, else opens PF0's where there is none, and performs the access or none by OP. GO of a staged operation and its ABORT are denied to other requesters. Of a management requester they answer, GO sets KIND; with an operation or a boot at work it does no more; else it starts at ADDR of LEN, a full one with busy contracts or engines ending FAILED 12, a bad source 13. An ABORT with no operation, or one of the other source, does no more; before the commit point it ends the operation ABORTED with 0x0904, after it sets ABORT_LATE. -/
def Obligations.PcieDmaStagingAndMailboxCommandsComplete : Prop :=
  -- PCIE_DMA_START refused
  (∀ (s : State) (c : Fin 8) (req : BitVec 16), s.getR Reg.PCI_DMA_STAT_STATE c ≠ 1 →
      s.getR Reg.PCI_DMA_LEN_BYTES c = 0 ∨ dmaRange (s.getR Reg.PCI_DMA_LOCAL_ADDR c) (s.getR Reg.PCI_DMA_LEN_BYTES c) = false
      ∨ s.fnEnabled (s.getR Reg.PCI_DMA_CFG_FUNC c) = false ∨ s.pcie.bme.contains (s.getR Reg.PCI_DMA_CFG_FUNC c) = false →
      ∃ t, exec (.pcieDmaStart c req) s = .next t ∧ t.getR Reg.PCI_DMA_STAT_STATE c = 4 ∧ t.getR Reg.PCI_DMA_STAT_ERR c = 1 ∧ t.getR Reg.PCI_DMA_DONE_BYTES c = 0
      ∧ Leaves [] [Reg.PCI_DMA_STAT_STATE.key c, Reg.PCI_DMA_STAT_ERR.key c, Reg.PCI_DMA_DONE_BYTES.key c] s t) ∧
  -- PCIE_DMA_START of a BUSY channel, PCIE_DMA_STOP of one that is not
  (∀ (s : State) (c : Fin 8) (req : BitVec 16), (s.getR Reg.PCI_DMA_STAT_STATE c = 1 → exec (.pcieDmaStart c req) s = .next s) ∧ (s.getR Reg.PCI_DMA_STAT_STATE c ≠ 1 → exec (.pcieDmaStop c) s = .next s)) ∧
  -- PCIE_DMA_START
  (∀ (s : State) (c : Fin 8) (req : BitVec 16), s.getR Reg.PCI_DMA_STAT_STATE c ≠ 1 →
      0 < s.getR Reg.PCI_DMA_LEN_BYTES c →
      dmaRange (s.getR Reg.PCI_DMA_LOCAL_ADDR c) (s.getR Reg.PCI_DMA_LEN_BYTES c) = true →
      s.fnEnabled (s.getR Reg.PCI_DMA_CFG_FUNC c) = true ∧ s.pcie.bme.contains (s.getR Reg.PCI_DMA_CFG_FUNC c) = true →
      exec (.pcieDmaStart c req) s = .next (((((s.setR Reg.PCI_DMA_STAT_ERR c 0).setR Reg.PCI_DMA_DONE_BYTES c 0).setR Reg.PCI_DMA_STAT_STATE c 1).modDma c
      (fun _ => { dma0 with starter := req.toNat })).dmaGo c)
      ∧ (s.flag Reg.PCI_DMA_CFG_DIR c = false → s.frozen Reg.CTL_FRZ_PDMA req.toNat = false → ∃ t, exec (.pcieDmaStart c req) s = .next t
      ∧ t.getR Reg.PCI_DMA_STAT_STATE c = 1 ∧ t.getR Reg.PCI_DMA_STAT_ERR c = 0 ∧ t.getR Reg.PCI_DMA_DONE_BYTES c = 0
      ∧ (t.dma c).out = List.range (min 16 (ceilDiv (s.getR Reg.PCI_DMA_LEN_BYTES c) 512)) ∧ (t.dma c).ready = [] ∧ (t.dma c).starter = req.toNat
      ∧ Leaves [.pcie] [Reg.PCI_DMA_STAT_STATE.key c, Reg.PCI_DMA_STAT_ERR.key c, Reg.PCI_DMA_DONE_BYTES.key c] s t)) ∧
  -- PCIE_DMA_STOP
  (∀ (s : State) (c : Fin 8), s.getR Reg.PCI_DMA_STAT_STATE c = 1 →
      exec (.pcieDmaStop c) s = .next ((s.modDma c (fun k => { k with stopping := true })).dmaGo c)
      ∧ ((s.dma c).out = [] → (s.dma c).ready = [] → (s.dma c).writing = none → (s.dma c).flr = false →
      s.getR Reg.PCI_DMA_DONE_BYTES c ≠ s.getR Reg.PCI_DMA_LEN_BYTES c → ∃ t, exec (.pcieDmaStop c) s = .next t
      ∧ t.getR Reg.PCI_DMA_STAT_STATE c = 6 ∧ t.getR Reg.PCI_DMA_DONE_BYTES c = s.getR Reg.PCI_DMA_DONE_BYTES c ∧ t.events = s.events ∧ t.mem = s.mem)) ∧
  -- PCIE_DMA_RESPONSE and COMPLETION_TIMEOUT: the next chunk fails
  (∀ (s : State) (c : Fin 8) (k : Fin 16) (i data : Nat), s.getR Reg.PCI_DMA_STAT_STATE c = 1 →
      s.flag Reg.PCI_DMA_CFG_DIR c = false ∧ s.flag Reg.PCI_DMA_CFG_IRQ c = false →
      (s.dma c).out[k.val]? = some i ∧ s.dmaDone c = i →
      (s.dma c).ready = [] ∧ (s.dma c).writing = none →
      ∃ t u, exec (.pcieDmaResponse c (.hostError k)) s = .next t ∧ exec (.completionTimeout c k) s = .next t
      ∧ t.getR Reg.PCI_DMA_STAT_STATE c = 4 ∧ t.getR Reg.PCI_DMA_STAT_ERR c = 2
      ∧ t.events = raiseIn s.events (evKey 0x05A0 0x0E07) s.time.toNat 2 (pcieDetail (s.dmaLocal c i) 2 (s.getR Reg.PCI_DMA_CFG_FUNC c) 0 0 c % 2 ^ 128)
      ∧ t.mem = s.mem
      ∧ exec (.pcieDmaResponse c (.hostData k data true)) s = .next u ∧ u.getR Reg.PCI_DMA_STAT_STATE c = 4 ∧ u.getR Reg.PCI_DMA_STAT_ERR c = 4 ∧ u.mem = s.mem) ∧
  -- PCIE_DMA_RESPONSE and COMPLETION_TIMEOUT that no chunk waits for
  (∀ (s : State) (c : Fin 8) (k : Fin 16) (data : Nat) (poison : Bool), (s.dma c).out[k.val]? = none ∨ s.flag Reg.PCI_DMA_CFG_DIR c = true ∨ s.getR Reg.PCI_DMA_STAT_STATE c ≠ 1 →
      exec (.pcieDmaResponse c (.hostData k data poison)) s = .next s ∧ exec (.pcieDmaResponse c (.hostError k)) s = .next s ∧ exec (.completionTimeout c k) s = .next s) ∧
  -- any answer of the host
  (∀ (s : State) (c : Fin 8) (k : Fin 16) (i err data : Nat), s.getR Reg.PCI_DMA_STAT_STATE c = 1 ∧ s.flag Reg.PCI_DMA_CFG_DIR c = false →
      (s.dma c).out[k.val]? = some i →
      s.dmaHostAnswer c k err data = (s.modDma c (fun x => { x with out := x.out.filter (fun j => !decide (j = i)), ready := x.ready ++ [(i, err, data % 2 ^ (8 * s.dmaLen c i))] })).dmaGo c
      ∧ exec (.pcieDmaResponse c (.hostError k)) s = .next (s.dmaHostAnswer c k 2 0) ∧ exec (.completionTimeout c k) s = .next (s.dmaHostAnswer c k 2 0)
      ∧ exec (.pcieDmaResponse c (.hostData k data true)) s = .next (s.dmaHostAnswer c k 4 data) ∧ exec (.pcieDmaResponse c (.hostData k data false)) s = .next (s.dmaHostAnswer c k 0 data)) ∧
  -- PCIE_DMA_RESPONSE of the device with none that waits
  (∀ (s : State) (c : Fin 8), takeFirst (fun p => (decide (p.kind = 2) || decide (p.kind = 4)) && decide (p.tag / 16 = 8 + c.val)) (s.inbox pcieEp) = none →
      exec (.pcieDmaResponse c .device) s = .next s) ∧
  -- PCIE_DMA_RESPONSE of the host's data and of the device
  (∀ (s : State) (c : Fin 8) (k : Fin 16) (i data : Nat) (p : Packet) (rest : List Packet), s.getR Reg.PCI_DMA_STAT_STATE c = 1 ∧ s.flag Reg.PCI_DMA_CFG_DIR c = false →
      (s.dma c).out[k.val]? = some i →
      takeFirst (fun p => (decide (p.kind = 2) || decide (p.kind = 4)) && decide (p.tag / 16 = 8 + c.val)) (s.inbox pcieEp) = some (p, rest) →
      exec (.pcieDmaResponse c (.hostData k data false)) s = .next ((s.modDma c (fun x => { x with out := x.out.filter (fun j => !decide (j = i)), ready := x.ready ++ [(i, 0, data % 2 ^ (8 * s.dmaLen c i))] })).dmaGo c)
      ∧ exec (.pcieDmaResponse c .device) s = .next ((s.putInbox pcieEp rest).dmaDevice c p)) ∧
  -- PCI_DBG_GO
  (∀ (s u t : State) (addr : BitVec 7) (op : BitVec 2) (peek : Bool), u = ((s.setR Reg.PCI_DBG_REQ_ADDR 0 addr.toNat).setR Reg.PCI_DBG_REQ_OP 0 op.toNat).setR Reg.PCI_DBG_REQ_PEEK 0 (bit peek) →
      t = (if s.getR Reg.DBG_SESS_STATE 0 = 0 then u.sessionOpen 2 else u) →
      (s.getR Reg.DBG_SESS_STATE 0 = 1 → exec (.pciDbgGo addr op peek) s = .next (u.dbgReply 2 0))
      ∧ (s.getR Reg.DBG_SESS_STATE 0 ≠ 1 → op.toNat = 1 ∨ op.toNat = 2 → ∃ r, r = t.dmi addr.toNat (s.getR Reg.PCI_DBG_DATA_V 0) (decide (op.toNat = 2)) peek
      ∧ exec (.pciDbgGo addr op peek) s = .next (r.1.dbgReply (bit r.2.2) r.2.1))
      ∧ (s.getR Reg.DBG_SESS_STATE 0 ≠ 1 → op.toNat = 0 ∨ op.toNat = 3 → exec (.pciDbgGo addr op peek) s = .next (t.dbgReply 0 0))) ∧
  -- staged operations and their aborts of another requester
  (∀ (s : State) (part : Bool) (req : BitVec 16), isMgmt req.toNat = false →
      exec (.dwnGo part req) s = .next (s.respond 0 2) ∧ exec (.pciStageGo req part) s = .next (s.respond 0 2)
      ∧ exec (.dwnAbort req) s = .next (s.respond 0 2) ∧ exec (.pciStageAbort req) s = .next (s.respond 0 2)) ∧
  -- PCI_STAGE_GO, DWN_GO and the aborts of a management requester
  (∀ (s : State) (part : Bool) (req : BitVec 16), isMgmt req.toNat = true →
      exec (.pciStageGo req part) s = .next (((s.respond 0 0).setR Reg.PCI_STAGE_CTL_KIND 0 (bit part)).stageGo part 2 (s.getR Reg.PCI_STAGE_ADDR_ADDR 0) (s.getR Reg.PCI_STAGE_LEN_BYTES 0))
      ∧ exec (.dwnGo part req) s = .next (((s.respond 0 0).setR Reg.DWN_CTL_KIND 0 (bit part)).stageGo part 1 (s.getR Reg.DWN_SRC_ADDR 0) (s.getR Reg.DWN_SRC_LEN_BYTES 0))
      ∧ exec (.dwnAbort req) s = .next ((s.respond 0 0).stageAbort 1) ∧ exec (.pciStageAbort req) s = .next ((s.respond 0 0).stageAbort 2)) ∧
  -- PCI_STAGE_GO and DWN_GO
  (∀ (s : State) (part : Bool) (req : BitVec 16), isMgmt req.toNat = true →
      s.getR Reg.DWN_STAT_STATE 0 ≠ 1 ∧ s.getR Reg.BOOT_STAGE 0 = 0 →
      part = true ∨ s.quiet = true →
      (s.sourceOk part (s.getR Reg.PCI_STAGE_ADDR_ADDR 0) (s.getR Reg.PCI_STAGE_LEN_BYTES 0) = true → ∃ t, exec (.pciStageGo req part) s = .next t
      ∧ t.getR Reg.DWN_STAT_STATE 0 = 1 ∧ t.getR Reg.DWN_STAT_PHASE 0 = 2 ∧ t.getR Reg.DWN_STAT_SRC 0 = 2 ∧ t.getR Reg.PCI_STAGE_STAT_STATE 0 = 1
      ∧ t.flag Reg.PCI_STAGE_CTL_KIND 0 = part ∧ t.dawn.op = some ⟨part, 2, none, false⟩ ∧ t.resp = ⟨0, 0, false⟩ ∧ t.mem = s.mem ∧ t.fab = s.fab ∧ t.events = s.events)
      ∧ (s.sourceOk part (s.getR Reg.DWN_SRC_ADDR 0) (s.getR Reg.DWN_SRC_LEN_BYTES 0) = true → ∃ t, exec (.dwnGo part req) s = .next t
      ∧ t.getR Reg.DWN_STAT_STATE 0 = 1 ∧ t.getR Reg.DWN_STAT_PHASE 0 = 2 ∧ t.getR Reg.DWN_STAT_SRC 0 = 1
      ∧ t.getR Reg.PCI_STAGE_STAT_STATE 0 = s.getR Reg.PCI_STAGE_STAT_STATE 0
      ∧ t.dawn.op = some ⟨part, 1, none, false⟩ ∧ t.resp = ⟨0, 0, false⟩ ∧ t.mem = s.mem ∧ t.fab = s.fab ∧ t.events = s.events)) ∧
  -- a GO that cannot be carried out
  (∀ (s : State) (part : Bool) (req : BitVec 16), isMgmt req.toNat = true →
      s.getR Reg.DWN_STAT_STATE 0 ≠ 1 ∧ s.getR Reg.BOOT_STAGE 0 = 0 →
      (part = false → s.quiet = false → ∃ t, exec (.dwnGo part req) s = .next t ∧ t.getR Reg.DWN_STAT_STATE 0 = 4 ∧ t.getR Reg.DWN_STAT_CODE 0 = 12 ∧ t.dawn.op = none ∧ t.fab = s.fab)
      ∧ (part = true → s.sourceOk part (s.getR Reg.DWN_SRC_ADDR 0) (s.getR Reg.DWN_SRC_LEN_BYTES 0) = false → ∃ t, exec (.dwnGo part req) s = .next t
      ∧ t.getR Reg.DWN_STAT_STATE 0 = 4 ∧ t.getR Reg.DWN_STAT_CODE 0 = 13 ∧ t.dawn.op = none ∧ t.fab = s.fab)) ∧
  -- a GO while an operation or a boot is at work
  (∀ (s : State) (part : Bool) (src addr len : Nat), s.getR Reg.DWN_STAT_STATE 0 = 1 ∨ s.getR Reg.BOOT_STAGE 0 ≠ 0 →
      s.stageGo part src addr len = s) ∧
  -- an ABORT with no operation, or with one of the other source
  (∀ (s : State) (src : Nat), (∀ o ∈ s.dawn.op, o.src ≠ src) →
      s.stageAbort src = s) ∧
  -- PCI_STAGE_ABORT and DWN_ABORT
  (∀ (s : State) (req : BitVec 16) (o : DawnOp), isMgmt req.toNat = true →
      s.dawn.op = some o →
      o.committed = false →
      (o.src = 2 → ∃ t, exec (.pciStageAbort req) s = .next t ∧ t.getR Reg.DWN_STAT_STATE 0 = 3 ∧ t.dawn.op = none ∧ t.resp = ⟨0, 0, false⟩
      ∧ t.events = raiseIn s.events (evKey 0x2D38 0x0904) s.time.toNat 0 (s.dwnDetail 0 0 % 2 ^ 128) ∧ t.mem = s.mem ∧ t.fab = s.fab)
      ∧ (o.src = 1 → ∃ t, exec (.dwnAbort req) s = .next t ∧ t.getR Reg.DWN_STAT_STATE 0 = 3 ∧ t.dawn.op = none ∧ t.resp = ⟨0, 0, false⟩
      ∧ t.events = raiseIn s.events (evKey 0x2D38 0x0904) s.time.toNat 0 (s.dwnDetail 0 0 % 2 ^ 128) ∧ t.mem = s.mem ∧ t.fab = s.fab)) ∧
  -- an abort after the commit point
  (∀ (s : State) (src : Nat) (o : DawnOp), s.dawn.op = some o →
      o.committed = true ∧ o.src = src →
      s.stageAbort src = (s.setR Reg.DWN_STAT_ABORT_LATE 0 1).stageMirror)

/-- DAWN_BOOT_START at a further entry starts it, one with no header failing with 1; at no boot or in reset the state stays; from no flash it ends NOCFG; a directory found starts its first entry, one not found fails the boot with 14, after the quad fallback. A second stall of a boot read ends it with 14; else it changes no more. A staged stream that fails a check as it is read, or that Sage does not verify, ends FAILED with that check's code; one that passes goes on to verification, and then a full one clears every frame; a partial one with a rigid contract at its regions fails with 12; a boot's with no records is configured. A partial one applies once its regions are isolated, poison failing it with 11, and its release is scheduled or held. With no operation in hand these three change nothing. GO of a held release is refused where time is not in step or AT is near, else schedules it; with none it does nothing; other requesters are denied. A restart's RAM contents are restored, and once every restart's are, T_r is no earlier than now. A release's three steps, each when it is due and in order, ask its regions for the end of OUTHOLD, WRHOLD and STHOLD, which each region takes at its next edge; a step not due leaves the state. The STHOLD step ends the release, starts its cores and completes Dawn's operation. A scan that is not enabled leaves the state; else the last frame counts a scan, and a frame of a region not held reports what it finds. RELOAD_EN of a management requester clears RELOAD_OK and starts a hash, of another is denied; the hash sets RELOAD_OK where it matches. The flash sequence, the devices' interleave and the zero words are stated too. The words of what is in progress are the model's own (notes/assumptions/5). -/
def Obligations.DawnCommandsComplete : Prop :=
  -- DAWN_BOOT_START
  (∀ (s : State) (d : Bool × Fin 4) (dir quad : Option (Bool × Fin 4)) (hdr : Option LpxHdr) (bad : List (Nat × Nat × Nat)), s.inReset = false →
      s.getR Reg.BOOT_STAGE 0 = 1 →
      (s.getR Reg.DWN_BOOT_BOOTSRC 0 = 3 → exec (.dawnBootStart dir quad hdr bad) s = .next (s.linkTest bad).noCfg ∧ (s.linkTest bad).noCfg.getR Reg.DWN_BOOT_NOCFG 0 = 1)
      ∧ (s.getR Reg.DWN_BOOT_BOOTSRC 0 < 3 → exec (.dawnBootStart (some d) quad hdr bad) s
      = .next ((((s.linkTest bad).setR Reg.SVP_FLASH 0 (1 + s.getR Reg.DWN_BOOT_BOOTSRC 0)).flashDoes (flashSteps (s.getR Reg.DWN_BOOT_BOOTSRC 0) d.1)).bootDir d.1 d.2 hdr))
      ∧ (s.getR Reg.DWN_BOOT_BOOTSRC 0 = 2 → exec (.dawnBootStart none quad hdr bad) s
      = .next ((((s.linkTest bad).setR Reg.SVP_FLASH 0 3).flashDoes (flashSteps 2 true)).bootFail 14))
      ∧ (s.getR Reg.DWN_BOOT_BOOTSRC 0 < 2 → ∃ t, exec (.dawnBootStart none none hdr bad) s = .next t ∧ t.getR Reg.DWN_BOOT_QUAD_FB 0 = 1 ∧ t.getR Reg.DWN_BOOT_NOCFG 0 = 1
      ∧ t.getR Reg.BOOT_STAGE 0 = 0 ∧ t.dawn.flash = s.dawn.flash ++ flashSteps (s.getR Reg.DWN_BOOT_BOOTSRC 0) true ++ flashSteps 2 true)) ∧
  -- DAWN_BOOT_START of a further entry
  (∀ (s : State) (dir quad : Option (Bool × Fin 4)) (hdr : Option LpxHdr) (bad : List (Nat × Nat × Nat)), s.getR Reg.BOOT_STAGE 0 = 2 →
      exec (.dawnBootStart dir quad hdr bad) s = .next (s.bootEntry hdr) ∧ (hdr ≠ none → ∃ t, exec (.dawnBootStart dir quad hdr bad) s = .next t
      ∧ t.getR Reg.DWN_STAT_STATE 0 = 1 ∧ t.getR Reg.DWN_STAT_PHASE 0 = 2 ∧ t.getR Reg.DWN_STAT_SRC 0 = 0 ∧ t.fab.cells = [] ∧ t.dawn.frames = [] ∧ t.dawn.op = some ⟨false, 0, none, false⟩)
      ∧ (hdr = none → s.getR Reg.BOOT_COUNT 0 ≤ s.getR Reg.DWN_BOOT_ENTRY 0 + 1 → ∃ t, exec (.dawnBootStart dir quad hdr bad) s = .next t
      ∧ t.getR Reg.DWN_STAT_STATE 0 = 4 ∧ t.getR Reg.DWN_STAT_CODE 0 = 1 ∧ t.getR Reg.DWN_BOOT_NOCFG 0 = 1)) ∧
  -- DAWN_BOOT_START with no boot in progress, or in reset
  (∀ (s : State) (dir quad : Option (Bool × Fin 4)) (hdr : Option LpxHdr) (bad : List (Nat × Nat × Nat)), s.getR Reg.BOOT_STAGE 0 ≠ 2 →
      s.getR Reg.BOOT_STAGE 0 ≠ 1 ∨ s.inReset = true →
      exec (.dawnBootStart dir quad hdr bad) s = .next s) ∧
  -- DAWN_BOOT_START from octal flash whose directory is found by the quad fallback alone
  (∀ (s t : State) (q : Bool × Fin 4) (hdr : Option LpxHdr) (bad : List (Nat × Nat × Nat)) (src : Nat), s.inReset = false ∧ s.getR Reg.BOOT_STAGE 0 = 1 →
      src = s.getR Reg.DWN_BOOT_BOOTSRC 0 ∧ src < 2 →
      t = (((((s.linkTest bad).setR Reg.SVP_FLASH 0 (1 + src)).flashDoes (flashSteps src true)).setR Reg.DWN_BOOT_QUAD_FB 0 1).setR Reg.SVP_FLASH 0 3) →
      exec (.dawnBootStart none (some q) hdr bad) s = .next (((t.raise 0x2D38 0x0909 2 (t.dwnDetail 0 0)).flashDoes (flashSteps 2 q.1)).bootDir q.1 q.2 hdr)) ∧
  -- the flash sequence, and where a stream's bytes and a segment's zero words lie
  (∀ (src a n : Nat) (second : Bool), src < 2 →
      flashSteps src second = [.command false 0x66, .command false 0x99, .command true 0x66, .command true 0x99, .command false 0x5A, .enterOctal] ++ dirReads src second
      ∧ flashSteps 2 false = [.read 0x6C 0] ∧ flashSteps 2 true = [.read 0x6C 0, .read 0x6C 0x10000] ∧ dirReads src false = [.read 0xEE11 0]
      ∧ flashPlace 1 (4 * a) = (0, 2 * a) ∧ flashPlace 1 (4 * a + 1) = (0, 2 * a + 1) ∧ flashPlace 1 (4 * a + 2) = (1, 2 * a) ∧ flashPlace 1 (4 * a + 3) = (1, 2 * a + 1)
      ∧ flashPlace 0 a = (0, a) ∧ flashPlace 2 a = (0, a)
      ∧ (zeroWords n 0 0 a).length = n ∧ zeroWords 3 0 0 (2 + 256 * (n % 2 ^ 64)) = [0, n % 2 ^ 64, 0]) ∧
  -- DAWN_FLASH_STALL
  (∀ (s : State), s.reading = true →
      s.getR Reg.DWN_STAT_SRC 0 = 0 →
      exec .dawnFlashStall s = .next (if s.flag Reg.BOOT_STALLS 0 then s.opFail 14 else s.setR Reg.BOOT_STALLS 0 1)) ∧
  -- DAWN_FLASH_STALL with no boot read in progress
  (∀ (s : State), s.reading = false ∨ s.getR Reg.DWN_STAT_SRC 0 ≠ 0 →
      exec .dawnFlashStall s = .next s) ∧
  -- DAWN_STREAM_READ_DONE, DAWN_VERIFY_DONE and DAWN_APPLY_DONE
  (∀ (s : State) (f : Stream) (v : StreamCheck) (poison : Bool), exec (.dawnStreamReadDone f) s = .next (s.noHook.streamReadDone f).settle ∧ exec (.dawnVerifyDone v) s = .next (s.noHook.verifyDone v).settle
      ∧ exec (.dawnApplyDone poison) s = .next (s.noHook.applyDone poison).settle
      ∧ (s.dawn.op = none → s.streamReadDone f = s ∧ s.verifyDone v = s ∧ s.applyDone poison = s)
      ∧ (s.reading = false → s.streamReadDone f = s) ∧ (s.getR Reg.DWN_STAT_PHASE 0 ≠ 3 → s.verifyDone v = s) ∧ (s.getR Reg.DWN_STAT_PHASE 0 ≠ 5 → s.applyDone poison = s)) ∧
  -- DAWN_STREAM_READ_DONE of a staged stream
  (∀ (s : State) (o : DawnOp) (f : Stream), s.reading = true →
      s.dawn.op = some o ∧ o.src ≠ 0 ∧ o.committed = false →
      f.legacy = false →
      (s.readCode o f = 0 → ∃ t, exec (.dawnStreamReadDone f) s = .next t ∧ t.getR Reg.DWN_STAT_PHASE 0 = 3 ∧ t.dawn.op = some { o with stream := some f }
      ∧ t.mem = s.mem ∧ t.fab = s.fab ∧ t.events = s.events ∧ t.dawn.frames = s.dawn.frames)
      ∧ (s.readCode o f ≠ 0 → ∃ t, exec (.dawnStreamReadDone f) s = .next t ∧ t.getR Reg.DWN_STAT_STATE 0 = 4 ∧ t.getR Reg.DWN_STAT_CODE 0 = s.readCode o f
      ∧ t.dawn.op = none ∧ t.mem = s.mem ∧ t.fab = s.fab)) ∧
  -- DAWN_VERIFY_DONE
  (∀ (s : State) (o : DawnOp) (f : Stream) (v : StreamCheck), s.getR Reg.DWN_STAT_PHASE 0 = 3 →
      s.dawn.op = some o ∧ o.stream = some f ∧ o.committed = false →
      (s.verifyCode f v ≠ 0 → o.src ≠ 0 → ∃ t, exec (.dawnVerifyDone v) s = .next t ∧ t.getR Reg.DWN_STAT_STATE 0 = 4 ∧ t.getR Reg.DWN_STAT_CODE 0 = s.verifyCode f v
      ∧ t.dawn.op = none ∧ t.fab = s.fab ∧ t.mem = s.mem)
      ∧ (s.verifyCode f v = 0 → o.src ≠ 0 → o.part = false → ∃ t, exec (.dawnVerifyDone v) s = .next t ∧ t.getR Reg.DWN_STAT_PHASE 0 = 5
      ∧ t.dawn.op = some { o with committed := true } ∧ t.fab.cells = [] ∧ t.fab.rels = [] ∧ t.dawn.frames = [])
      ∧ (s.verifyCode f v = 0 → o.part = true → (maskOf f).any s.rigidNap = true → o.src ≠ 0 → ∃ t, exec (.dawnVerifyDone v) s = .next t
      ∧ t.getR Reg.DWN_STAT_STATE 0 = 4 ∧ t.getR Reg.DWN_STAT_CODE 0 = 12 ∧ t.fab = s.fab)
      ∧ (s.verifyCode f v = 0 → o.part = false → o.src = 0 → f.regs = [] → ∃ t, exec (.dawnVerifyDone v) s = .next t
      ∧ t.getR Reg.DWN_STAT_CONFIGURED 0 = 1 ∧ t.getR Reg.DWN_DIGEST_V 0 = f.digest.toNat ∧ t.getR Reg.DWN_BOOT_NOCFG 0 = 0
      ∧ (f.relHold = true → f.legacy = false → t.getR Reg.DWN_STAT_PHASE 0 = 6) ∧ (f.relHold = false → t.getR Reg.DWN_STAT_PHASE 0 = 7))) ∧
  -- DAWN_APPLY_DONE of a partial stream
  (∀ (s : State) (o : DawnOp) (f : Stream), s.getR Reg.DWN_STAT_PHASE 0 = 5 →
      s.dawn.op = some o ∧ o.stream = some f ∧ o.committed = true →
      o.part = true ∧ f.regs = [] ∧ o.src ≠ 0 →
      (maskOf f).all (fun rg => (s.region rg).causes.contains 2) = true →
      (∃ t, exec (.dawnApplyDone true) s = .next t ∧ t.getR Reg.DWN_STAT_STATE 0 = 4 ∧ t.getR Reg.DWN_STAT_CODE 0 = 11 ∧ t.mem = s.mem)
      ∧ (∃ t, exec (.dawnApplyDone false) s = .next t ∧ t.getR Reg.DWN_STAT_PHASE 0 = (if f.relHold then 6 else 7) ∧ t.mem = s.mem
      ∧ (f.relHold = true → t.dawn.held = some ⟨maskOf f, 2, false⟩) ∧ (∀ rg ∈ maskOf f, t.flag Reg.FAB_OUTHOLD rg = true ∧ t.flag Reg.FAB_STHOLD rg = true))) ∧
  -- DWN_REL_GO
  (∀ (s : State) (req : BitVec 16) (h : HeldRel), isMgmt req.toNat = true →
      s.dawn.held = some h →
      ((s.getR Reg.TBS_SYNC_STAT_SYNC_STATE 0 ≠ 3 ∧ s.getR Reg.TBS_SYNC_STAT_SYNC_STATE 0 ≠ 5 ∧ s.role ≠ 2)
      ∨ before (s.getR Reg.DWN_REL_AT_AT 0) (plusTicks s.time.toNat 1048576) = true → exec (.dwnRelGo req) s = .next ((s.respond 0 0).setR Reg.DWN_REL_CTL_REJ 0 1))
      ∧ (s.role = 2 → before (s.getR Reg.DWN_REL_AT_AT 0) (plusTicks s.time.toNat 1048576) = false → ∃ t, exec (.dwnRelGo req) s = .next t
      ∧ t.getR Reg.DWN_STAT_PHASE 0 = 7 ∧ t.dawn.held = none ∧ t.mem = s.mem ∧ t.events = s.events ∧ t.resp = ⟨0, 0, false⟩
      ∧ t.rel s.newRel = some ⟨h.regions, BitVec.ofNat 64 (s.getR Reg.DWN_REL_AT_AT 0), s.releaseS h.regions, 0, h.cores, 0, h.cause⟩)) ∧
  -- DWN_REL_GO with nothing held, or from a requester that may not
  (∀ (s : State) (req : BitVec 16), s.dawn.held = none →
      exec (.dwnRelGo req) s = .next (if isMgmt req.toNat then s.respond 0 0 else s.respond 0 2)) ∧
  -- RAM_RESTORE_DONE
  (∀ (s : State) (n : Nat) (r : Release), s.rel n = some r ∧ r.restoring = 1 →
      exec (.ramRestoreDone n) s = .next ((s.restoreRam (fun rg => r.regions.contains rg)).putRel n { r with restoring := 2 }).restored) ∧
  -- once every restart has its contents
  (∀ (s : State), (s.fab.rels.any (fun e => decide (e.2.restoring = 1)) = true → s.restored = s)
      ∧ (s.fab.rels.any (fun e => decide (e.2.restoring = 1)) = false → s.restored = s.modFab (fun f => { f with rels := f.rels.map (fun e =>
      if e.2.restoring = 2 then (e.1, { e.2 with restoring := 0, tr := if before e.2.tr.toNat s.time.toNat then s.time else e.2.tr }) else e) }))) ∧
  -- RAM_RESTORE_DONE and the release steps where there is nothing to do
  (∀ (s : State) (n : Nat), (s.rel n = none → exec (.ramRestoreDone n) s = .next s ∧ exec (.outholdRelease n) s = .next s ∧ exec (.wrholdRelease n) s = .next s ∧ exec (.stholdRelease n) s = .next s)
      ∧ (∀ r, s.rel n = some r → (r.restoring ≠ 1 → exec (.ramRestoreDone n) s = .next s)
      ∧ (r.done ≠ 0 ∨ r.restoring ≠ 0 ∨ s.dueAt (relTime r) = false → exec (.outholdRelease n) s = .next s)
      ∧ (r.done ≠ 1 ∨ s.dueAt (relTime r) = false → exec (.wrholdRelease n) s = .next s)
      ∧ (r.done ≠ 2 ∨ s.dueAt (relTime r) = false → exec (.stholdRelease n) s = .next s))) ∧
  -- OUTHOLD_RELEASE
  (∀ (s : State) (n : Nat) (r : Release), s.rel n = some r ∧ r.done = 0 ∧ r.restoring = 0 →
      s.dueAt (relTime r) = true →
      exec (.outholdRelease n) s = .next (s.outhold n r)
      ∧ (r.cause ≠ 5 → s.outhold n r = ((if s.jumped r.tr.toNat then (s.askAll r 0).raise 0x2D38 0x0906 3 (s.dwnDetail 0 r.tr.toNat) else s.askAll r 0).putRel n { r with done := 1 }))
      ∧ (r.cause = 5 → (s.outhold n r).flag Reg.RBK_ON 0 = true ∧ (s.outhold n r).getR Reg.SVP_PRECFG 0 = 0 ∧ (s.outhold n r).dawn.late = [])
      ∧ (s.outhold n r).rel n = some { r with done := 1 }) ∧
  -- WRHOLD_RELEASE
  (∀ (s : State) (n : Nat) (r : Release), s.rel n = some r ∧ r.done = 1 →
      s.dueAt (relTime r) = true →
      exec (.wrholdRelease n) s = .next ((s.askAll r 1).putRel n { r with done := 2 })) ∧
  -- STHOLD_RELEASE
  (∀ (s : State) (n : Nat) (r : Release), s.rel n = some r ∧ r.done = 2 →
      s.dueAt (relTime r) = true →
      exec (.stholdRelease n) s = .next (s.sthold n r) ∧ (s.sthold n r).fab.rels = Map.erase s.fab.rels n
      ∧ (r.cores = true → s.pstate 125 = 0 → ∀ k < 4, (s.sthold n r).flag Reg.HART_RUN k = true ∧ (s.sthold n r).getR Reg.HART_PC k = Reg.HART_PC.norm (s.getR Reg.CTL_BOOT_ADDR k))
      ∧ ((r.cause = 2 ∨ r.cause = 5) → s.dawn.op ≠ none → (s.sthold n r).getR Reg.DWN_STAT_STATE 0 = 2 ∧ (s.sthold n r).getR Reg.DWN_STAT_CODE 0 = 0 ∧ (s.sthold n r).dawn.op = none)
      ∧ (s.sthold n r).mem = s.mem) ∧
  -- a region is asked for a step
  (∀ (s : State) (rg cause : Nat), s.askStep rg 0 cause = (s.setR Reg.FAB_RELP rg (setBit (s.getR Reg.FAB_RELP rg) 0)).setR Reg.FAB_RELC rg cause
      ∧ s.askStep rg 1 cause = s.setR Reg.FAB_RELP rg (setBit (s.getR Reg.FAB_RELP rg) 1) ∧ s.askStep rg 2 cause = s.setR Reg.FAB_RELP rg (setBit (s.getR Reg.FAB_RELP rg) 2)
      ∧ (s.regionClocked rg = true → s.askStep rg 3 cause = s.setR Reg.FAB_RELP rg 8) ∧ (s.regionClocked rg = false → s.askStep rg 3 cause = s.holdRegion rg)) ∧
  -- what waits for a region's edge takes effect at it
  (∀ (s : State) (rg : Nat), (s.getR Reg.FAB_RELP rg = 0 → s.regionSteps rg = s)
      ∧ (s.getR Reg.FAB_RELP rg = 1 → s.regionSteps rg = (((s.setR Reg.FAB_OUTHOLD rg 0).endIsolation rg (s.getR Reg.FAB_RELC rg)).setR Reg.FAB_JUST rg 1).setR Reg.FAB_RELP rg 0)
      ∧ (s.getR Reg.FAB_RELP rg = 2 → s.regionSteps rg = ((s.setR Reg.FAB_WRHOLD rg 0).setR Reg.FAB_JUST rg 2).setR Reg.FAB_RELP rg 0)
      ∧ (s.getR Reg.FAB_RELP rg = 4 → s.regionSteps rg = (((s.startFfs rg).dcqFlush rg).setR Reg.FAB_JUST rg 0).setR Reg.FAB_RELP rg 0)
      ∧ (s.getR Reg.FAB_RELP rg = 8 → s.regionSteps rg = ((s.holdRegion rg).setR Reg.FAB_JUST rg 0).setR Reg.FAB_RELP rg 0)) ∧
  -- DAWN_READBACK_SCAN
  (∀ (s t : State) (fd : Fin 8) (r : Fin 384) (index : BitVec 8) (a : Nat), s.flag Reg.RBK_ON 0 = true ∧ s.flag Reg.DWN_RBFD_CTL_EN fd = true →
      t = (if r.val = 383 ∧ index = 255 then s.wrapAdd Reg.DWN_RBFD_SCANS_COUNT fd 1 else s) →
      a = frameAddr (rgn fd r) index.toNat →
      ((s.region (rgn fd r)).causes.contains 2 = true ∨ (s.region (rgn fd r)).causes.contains 5 = true → ∀ found, exec (.dawnReadbackScan fd r index found) s = .next t)
      ∧ ((s.region (rgn fd r)).causes.contains 2 = false → (s.region (rgn fd r)).causes.contains 5 = false → exec (.dawnReadbackScan fd r index .clean) s = .next t
      ∧ exec (.dawnReadbackScan fd r index (.single none)) s = .next ((t.satAdd Reg.DWN_RBFD_CNT_SBE fd 1).raise 0x2D38 0x090A 1 (a % 2 ^ 21 * 2 ^ 32))
      ∧ (∀ m, exec (.dawnReadbackScan fd r index (.single (some m))) s = .next (((t.satAdd Reg.DWN_RBFD_CNT_SBE fd 1).raise 0x2D38 0x090A 1 (a % 2 ^ 21 * 2 ^ 32)).restoreSel (rgn fd r) m))
      ∧ exec (.dawnReadbackScan fd r index .multi) s = .next (t.frameMbu (rgn fd r) a))) ∧
  -- a multi-bit error of a region that neither isolates nor reloads
  (∀ (s : State) (rg a : Nat), s.getR Reg.FAB_RGN_RBK_POLICY rg = 0 →
      s.frameMbu rg a = (((s.satAdd Reg.DWN_RBFD_CNT_MBE (rg / 384) 1).setR Reg.DWN_RBFD_LAST_FRAME (rg / 384) a).setR Reg.FAB_RGN_RBK_MBE rg 1).raise 0x2D38 0x090B 4 (a % 2 ^ 21 * 2 ^ 32)) ∧
  -- DAWN_READBACK_SCAN that is not enabled
  (∀ (s : State) (fd : Fin 8) (r : Fin 384) (index : BitVec 8) (found : FrameCheck), s.flag Reg.RBK_ON 0 = false ∨ s.flag Reg.DWN_RBFD_CTL_EN fd = false →
      exec (.dawnReadbackScan fd r index found) s = .next s) ∧
  -- DAWN_RELOAD_ENABLE and DAWN_RELOAD_HASH_DONE
  (∀ (s : State) (en : Bool) (req : BitVec 16) (digest : BitVec 384), (isMgmt req.toNat = true → ∃ t, exec (.dawnReloadEnable en req) s = .next t ∧ t.flag Reg.DWN_RELOAD_CTL_RELOAD_OK 0 = false ∧ t.flag Reg.DWN_RELOAD_CTL_EN 0 = en
      ∧ t.flag Reg.RELOAD_HASH 0 = en ∧ t.resp = ⟨0, 0, false⟩
      ∧ Leaves [.resp] [Reg.DWN_RELOAD_CTL_RELOAD_OK.key 0, Reg.DWN_RELOAD_CTL_EN.key 0, Reg.RELOAD_HASH.key 0] s t)
      ∧ (isMgmt req.toNat = false → exec (.dawnReloadEnable en req) s = .next (s.respond 0 2))
      ∧ (s.flag Reg.RELOAD_HASH 0 = false → exec (.dawnReloadHashDone digest) s = .next s)
      ∧ (s.flag Reg.RELOAD_HASH 0 = true → exec (.dawnReloadHashDone digest) s = .next ((s.setR Reg.RELOAD_HASH 0 0).setR Reg.DWN_RELOAD_CTL_RELOAD_OK 0
      (bit (decide (s.getR Reg.DWN_DIGEST_V 0 = digest.toNat))))))

/-- Other requesters' NEW, GO and ABORT are denied. A management requester's NEW voids the nonce and makes Sage form one, whose value is free; NONCE_READY with none being formed changes nothing. GO of a signed command starts it where none is in progress, or where a register write gave the GO and Sage has the command still to read; else it is ignored. SGE_VERIFY_DONE with no command changes nothing. Else the first check that fails is the code, FAILED, with no effect and the nonce void; power cut in its fuses, or a fuse that fails with code 11, leaves what was written: for ADD_SLOT the slot spoiled; a response that cannot be written, GENKEY's alone, gives code 12; else it ends DONE with its effect: GENKEY makes the identity keys, PROVISION and ENROLL advance the lifecycle to 1 and 2, ENROLL and ADD_SLOT make a slot VALID, REVOKE revokes one, SET_OSK and SET_LEGACY set their bits, RETIRE advances to 3 and erases the key store. An abort of a command in verification, or of a GO with the command still to read, ends ABORTED; with none, one in the cycle of the commit sets ABORT_LATE (the model's reading, notes/assumptions/88), and another does nothing. What Sage finds in a command is the command's operand (notes/assumptions/61). -/
def Obligations.SageCommandsComplete : Prop :=
  -- SGE_NONCE_NEW and SGE_NONCE_READY
  (∀ (s : State) (req : BitVec 16), (isMgmt req.toNat = true → ∃ t, exec (.sgeNonceNew req) s = .next t ∧ t.flag Reg.SGE_NONCE_STAT_BUSY 0 = true ∧ t.flag Reg.SGE_NONCE_STAT_VALID 0 = false
      ∧ t.getR Reg.SGE_NONCE_V 0 = 0 ∧ t.resp = ⟨0, 0, false⟩
      ∧ Leaves [.resp, .sage] [Reg.SGE_NONCE_STAT_BUSY.key 0, Reg.SGE_NONCE_STAT_VALID.key 0, Reg.SGE_NONCE_V.key 0] s t)
      ∧ (isMgmt req.toNat = false → exec (.sgeNonceNew req) s = .next (s.respond 0 2))
      ∧ (s.flag Reg.SGE_NONCE_STAT_BUSY 0 = false → exec .sgeNonceReady s = .next s)
      ∧ (s.flag Reg.SGE_NONCE_STAT_BUSY 0 = true → ∃ t, exec .sgeNonceReady s = .next t ∧ t.flag Reg.SGE_NONCE_STAT_BUSY 0 = false ∧ t.flag Reg.SGE_NONCE_STAT_VALID 0 = true
      ∧ t.getR Reg.SGE_NONCE_V 0 = (Config.freeNonce s.free).toNat ∧ t.free = s.free + 1
      ∧ Leaves [.free] [Reg.SGE_NONCE_STAT_BUSY.key 0, Reg.SGE_NONCE_STAT_VALID.key 0, Reg.SGE_NONCE_V.key 0] s t)) ∧
  -- GO of a command
  (∀ (s : State) (f : CmdFacts) (req : BitVec 16), isMgmt req.toNat = true →
      s.getR Reg.SGE_CMD_STAT_STATE 0 ≠ 1 ∨ s.flag Reg.SGE_GOING 0 = true →
      ∃ g : Nat → State, exec (.sgeGenkey f req) s = .next (g 1) ∧ exec (.sgeProvision f req) s = .next (g 2) ∧ exec (.sgeEnroll f req) s = .next (g 3)
      ∧ exec (.sgeAddSlot f req) s = .next (g 4) ∧ exec (.sgeRevoke f req) s = .next (g 5) ∧ exec (.sgeSetOsk f req) s = .next (g 6)
      ∧ exec (.sgeSetLegacy f req) s = .next (g 7) ∧ exec (.sgeRetire f req) s = .next (g 8)
      ∧ ∀ op, 1 ≤ op → op ≤ 8 → (g op).getR Reg.SGE_CMD_STAT_STATE 0 = 1 ∧ (g op).getR Reg.SGE_CMD_STAT_CODE 0 = 0 ∧ (g op).getR Reg.SGE_CMD_STAT_OP 0 = op
      ∧ (g op).getR Reg.SGE_CMD_STAT_ABORT_LATE 0 = 0 ∧ (g op).flag Reg.SGE_GOING 0 = false ∧ (g op).sage = { s.sage with cmd := some ⟨op, f⟩ } ∧ (g op).resp = ⟨0, 0, false⟩
      ∧ Leaves [.resp, .sage] [Reg.SGE_CMD_STAT_STATE.key 0, Reg.SGE_CMD_STAT_CODE.key 0, Reg.SGE_CMD_STAT_OP.key 0, Reg.SGE_CMD_STAT_ABORT_LATE.key 0, Reg.SGE_GOING.key 0] s (g op)) ∧
  -- GO refused, or ignored while a command is in progress
  (∀ (s : State) (f : CmdFacts) (req : BitVec 16), isMgmt req.toNat = false ∨ (s.getR Reg.SGE_CMD_STAT_STATE 0 = 1 ∧ s.flag Reg.SGE_GOING 0 = false) →
      ∃ t, t = s.respond 0 (if isMgmt req.toNat then 0 else 2) ∧ exec (.sgeGenkey f req) s = .next t ∧ exec (.sgeProvision f req) s = .next t ∧ exec (.sgeEnroll f req) s = .next t ∧ exec (.sgeAddSlot f req) s = .next t
      ∧ exec (.sgeRevoke f req) s = .next t ∧ exec (.sgeSetOsk f req) s = .next t ∧ exec (.sgeSetLegacy f req) s = .next t ∧ exec (.sgeRetire f req) s = .next t) ∧
  -- SGE_VERIFY_DONE with no command
  (∀ (s : State) (run : FuseRun) (rspOk : Bool), s.sage.cmd = none →
      exec (.sgeVerifyDone run rspOk) s = .next s) ∧
  -- SGE_VERIFY_DONE of a command
  (∀ (s t : State) (run : FuseRun) (rspOk : Bool) (c : SageCmd), s.sage.cmd = some c →
      t = (if c.facts.read && c.facts.formed && decide (c.op ≠ 3) then s.keyMismatch c.facts.keysel c.facts.hashed else s) →
      (s.cmdCode c ≠ 0 → exec (.sgeVerifyDone run rspOk) s = .next (t.cmdEnd c (s.cmdCode c)))
      ∧ (s.cmdCode c = 0 → run = .cut → c.op ≠ 1 → c.op ≠ 6 → exec (.sgeVerifyDone run rspOk) s = .next (t.cmdBroken c .cut))
      ∧ (s.cmdCode c = 0 → run = .fails ∨ run = .stateFails → c.op ≠ 1 → c.op ≠ 6 → exec (.sgeVerifyDone run rspOk) s = .next ((t.cmdBroken c run).cmdEnd c 11))
      ∧ (s.cmdCode c = 0 → c.op = 1 → rspOk = false → exec (.sgeVerifyDone run rspOk) s = .next ((t.modSage (fun g => { g with keys := true })).cmdEnd c 12))
      ∧ (s.cmdCode c = 0 → c.op = 1 → rspOk = true → exec (.sgeVerifyDone run rspOk) s = .next (if t.sageRefused then (t.cmdEffect c).cmdEnd c 12 else ((t.cmdEffect c).cmdEnd c 0).setR Reg.SGE_CMT 0 s.cycle))
      ∧ (s.cmdCode c = 0 → c.op ≠ 1 → run = .ok ∨ c.op = 6 → exec (.sgeVerifyDone run rspOk) s = .next (((t.cmdEffect c).cmdEnd c 0).setR Reg.SGE_CMT 0 s.cycle))) ∧
  -- SGE_VERIFY_DONE of a command that fails a check
  (∀ (s : State) (run : FuseRun) (rspOk : Bool) (c : SageCmd), s.sage.cmd = some c →
      s.cmdCode c ≠ 0 →
      ∃ t, exec (.sgeVerifyDone run rspOk) s = .next t ∧ t.getR Reg.SGE_CMD_STAT_STATE 0 = 4 ∧ t.getR Reg.SGE_CMD_STAT_CODE 0 = s.cmdCode c ∧ t.sage = { s.sage with cmd := none }
      ∧ t.getR Reg.SGE_LCS_STATE 0 = s.getR Reg.SGE_LCS_STATE 0 ∧ t.getR Reg.SGE_LCS_VALID 0 = s.getR Reg.SGE_LCS_VALID 0 ∧ t.mem = s.mem
      ∧ (c.facts.read = true → c.facts.nonce = true → t.flag Reg.SGE_NONCE_STAT_VALID 0 = false)) ∧
  -- SGE_VERIFY_DONE: the effects
  (∀ (s : State) (c : SageCmd), s.sage.cmd = some c →
      s.cmdCode c = 0 →
      1 ≤ c.op ∧ c.op ≤ 8 →
      ((c.op = 1 → s.sageRefused = false)) →
      ∃ t, exec (.sgeVerifyDone .ok true) s = .next t ∧ t.getR Reg.SGE_CMD_STAT_STATE 0 = 2 ∧ t.getR Reg.SGE_CMD_STAT_CODE 0 = 0 ∧ t.sage.cmd = none
      ∧ (c.op = 1 → t.sage.keys = true) ∧ (c.op = 2 → t.getR Reg.SGE_LCS_STATE 0 = 1 ∧ t.sage.chains = true)
      ∧ (c.op = 3 → t.getR Reg.SGE_LCS_STATE 0 = 2 ∧ t.getR Reg.SGE_LCS_VALID 0 = Reg.SGE_LCS_VALID.norm (setBit (s.getR Reg.SGE_LCS_VALID 0) 0))
      ∧ (c.op = 4 → t.getR Reg.SGE_LCS_VALID 0 = Reg.SGE_LCS_VALID.norm (setBit (s.getR Reg.SGE_LCS_VALID 0) (cmdSlot c)))
      ∧ (c.op = 5 → t.getR Reg.SGE_LCS_REVOKED 0 = Reg.SGE_LCS_REVOKED.norm (setBit (s.getR Reg.SGE_LCS_REVOKED 0) (cmdSlot c)))
      ∧ (c.op = 6 → t.getR Reg.SGE_LCS_OSK 0 = Reg.SGE_LCS_OSK.norm (setBit (s.getR Reg.SGE_LCS_OSK 0) (cmdSlot c)))
      ∧ (c.op = 7 → t.flag Reg.SGE_LCS_LEGACY_OK 0 = true)
      ∧ (c.op = 8 → t.getR Reg.SGE_LCS_STATE 0 = 3 ∧ t.sage.keys = false ∧ t.sage.chains = false ∧ t.sage.store = false ∧ t.getR Reg.SGE_LCS_OSK 0 = 0)
      ∧ (c.op ≠ 1 → t.mem = s.mem)) ∧
  -- SGE_VERIFY_DONE of ADD_SLOT where the fuses fail
  (∀ (s : State) (c : SageCmd), s.sage.cmd = some c →
      s.cmdCode c = 0 →
      c.op = 4 →
      (∃ t, exec (.sgeVerifyDone .fails true) s = .next t ∧ t.getR Reg.SGE_CMD_STAT_STATE 0 = 4 ∧ t.getR Reg.SGE_CMD_STAT_CODE 0 = 11
      ∧ t.getR Reg.SGE_LCS_SPOILED 0 = Reg.SGE_LCS_SPOILED.norm (setBit (s.getR Reg.SGE_LCS_SPOILED 0) (cmdSlot c))
      ∧ t.getR Reg.SGE_LCS_VALID 0 = s.getR Reg.SGE_LCS_VALID 0 ∧ t.getR Reg.SGE_LCS_STATE 0 = s.getR Reg.SGE_LCS_STATE 0)
      ∧ (∃ t, exec (.sgeVerifyDone .cut true) s = .next t ∧ t.getR Reg.SGE_LCS_SPOILED 0 = Reg.SGE_LCS_SPOILED.norm (setBit (s.getR Reg.SGE_LCS_SPOILED 0) (cmdSlot c))
      ∧ t.getR Reg.SGE_LCS_VALID 0 = s.getR Reg.SGE_LCS_VALID 0 ∧ t.getR Reg.SGE_LCS_STATE 0 = s.getR Reg.SGE_LCS_STATE 0)) ∧
  -- SGE_CMD_ABORT with no command in verification
  (∀ (s : State) (req : BitVec 16), isMgmt req.toNat = true →
      s.sage.cmd = none →
      (s.flag Reg.SGE_GOING 0 = true → exec (.sgeCmdAbort req) s = .next ((((s.respond 0 0).setR Reg.SGE_GOING 0 0).setR Reg.SGE_CMD_STAT_STATE 0 3).sageSignal))
      ∧ (s.flag Reg.SGE_GOING 0 = false → s.getR Reg.SGE_CMD_STAT_STATE 0 = 2 → s.getR Reg.SGE_CMT 0 = s.cycle → exec (.sgeCmdAbort req) s = .next ((s.respond 0 0).setR Reg.SGE_CMD_STAT_ABORT_LATE 0 1))
      ∧ (s.flag Reg.SGE_GOING 0 = false → s.getR Reg.SGE_CMD_STAT_STATE 0 ≠ 2 ∨ s.getR Reg.SGE_CMT 0 ≠ s.cycle → exec (.sgeCmdAbort req) s = .next (s.respond 0 0))) ∧
  -- SGE_CMD_ABORT of another requester
  (∀ (s : State) (req : BitVec 16), isMgmt req.toNat = false →
      exec (.sgeCmdAbort req) s = .next (s.respond 0 2)) ∧
  -- SGE_CMD_ABORT
  (∀ (s : State) (req : BitVec 16) (c : SageCmd), s.sage.cmd = some c →
      (isMgmt req.toNat = false → exec (.sgeCmdAbort req) s = .next (s.respond 0 2))
      ∧ (isMgmt req.toNat = true → ∃ t, exec (.sgeCmdAbort req) s = .next t ∧ t.getR Reg.SGE_CMD_STAT_STATE 0 = 3 ∧ t.sage = { s.sage with cmd := none } ∧ t.resp = ⟨0, 0, false⟩
      ∧ t.mem = s.mem ∧ t.events = s.events ∧ t.getR Reg.SGE_LCS_STATE 0 = s.getR Reg.SGE_LCS_STATE 0))

/-- DISCOVERY names type 0 and then type 1 of vendor 1, 0xFFFF else. GET_VERSION begins the connection at 1.3; GET_CAPABILITIES and NEGOTIATE_ALGORITHMS answer in their order and are UnexpectedRequest elsewhere; before the negotiation is complete the further requests are too. After it GET_DIGESTS answers, GET_CERTIFICATE of slot 0 answers its chain and another slot is InvalidRequest, and CHALLENGE of slot 0 and signed measurements answer where the lifecycle signs, else UnsupportedRequest. GET_MEASUREMENTS gives the count, a block or all of them: block 4 the digest in effect, block 5 the lifecycle, the stream's slot and the slots' bits; another index is InvalidRequest. CHUNK_SEND takes the chunks of a request in order, another number being InvalidRequest. CHUNK_GET gives the next chunk of the large response, another chunk being InvalidRequest and one with no response UnexpectedRequest. GET_PQ_CERT where the chain is held, else InvalidRequest, and GET_PQ_SIG after a signed response start a large response, with a handle one above the last. Other requests are UnsupportedRequest. The response's form in the model is its own (notes/assumptions/63). -/
def Obligations.SpdmCommandsComplete : Prop :=
  -- DOE_DISCOVERY, SPDM_GET_VERSION, SPDM_UNSUPPORTED_REQUEST
  (∀ (s : State) (index code : BitVec 8), exec (.doeDiscovery index) s = .next (s.respond (if index.toNat = 0 then 0x01000001 else if index.toNat = 1 then 0x00010001 else 0xFFFF) 0)
      ∧ exec .spdmGetVersion s = .next ((s.modSage (fun g => { g with spdm := 1, sending := none, large := none })).respond (0x04 + 0x1300 * 2 ^ 32) 0)
      ∧ exec (.spdmUnsupportedRequest code) s = .next (s.respond (0x7F + 0x07 * 2 ^ 8) 0)) ∧
  -- the order of the negotiation
  (∀ (s : State), exec .spdmGetCapabilities s = .next (if s.sage.spdm = 1 then (s.modSage (fun g => { g with spdm := 2 })).respond (0x61 + 0x20016 * 2 ^ 32) 0 else s.respond (0x7F + 0x04 * 2 ^ 8) 0)
      ∧ exec .spdmNegotiateAlgorithms s = .next (if s.sage.spdm = 2 then (s.modSage (fun g => { g with spdm := 3 })).respond (0x63 + 0x200000008 * 2 ^ 32) 0 else s.respond (0x7F + 0x04 * 2 ^ 8) 0)) ∧
  -- before the negotiation is complete
  (∀ (s : State) (slot : BitVec 4) (index handle : BitVec 8) (seq : BitVec 16) (signed last : Bool), s.sage.spdm ≠ 3 →
      ∃ t, t = s.respond (0x7F + 0x04 * 2 ^ 8) 0 ∧ exec .spdmGetDigests s = .next t ∧ exec (.spdmGetCertificate slot) s = .next t ∧ exec (.spdmChallenge slot) s = .next t
      ∧ exec (.spdmGetMeasurements index signed) s = .next t ∧ exec (.spdmChunkSend handle seq last) s = .next t ∧ exec (.spdmChunkGet handle seq last) s = .next t
      ∧ exec .spdmGetPqCert s = .next t ∧ exec .spdmGetPqSig s = .next t) ∧
  -- SPDM_GET_DIGESTS, SPDM_GET_CERTIFICATE and SPDM_CHALLENGE
  (∀ (s : State) (slot : BitVec 4), s.sage.spdm = 3 →
      exec .spdmGetDigests s = .next (s.respond (0x01 + (Config.measured 0 0).toNat * 2 ^ 32) 0)
      ∧ exec (.spdmGetCertificate slot) s = .next (if slot.toNat = 0 ∧ s.sage.chains = true then s.respond 0x02 0 else s.respond (0x7F + 0x01 * 2 ^ 8) 0)
      ∧ (s.getR Reg.SGE_LCS_STATE 0 ≠ 1 → s.getR Reg.SGE_LCS_STATE 0 ≠ 2 → exec (.spdmChallenge slot) s = .next (s.respond (0x7F + 0x07 * 2 ^ 8) 0))
      ∧ (s.getR Reg.SGE_LCS_STATE 0 = 1 ∨ s.getR Reg.SGE_LCS_STATE 0 = 2 → exec (.spdmChallenge slot) s = .next (if slot.toNat ≠ 0
      then s.respond (0x7F + 0x01 * 2 ^ 8) 0 else (s.modSage (fun g => { g with kept := true })).respond 0x03 0))) ∧
  -- SPDM_GET_MEASUREMENTS
  (∀ (s k : State) (index : BitVec 8), s.sage.spdm = 3 →
      k = s.modSage (fun g => { g with kept := true }) →
      exec (.spdmGetMeasurements 0 false) s = .next (s.respond (0x60 + 6 * 2 ^ 32) 0)
      ∧ exec (.spdmGetMeasurements 4 false) s = .next (s.respond (0x60 + s.getR Reg.DWN_DIGEST_V 0 * 2 ^ 32) 0)
      ∧ exec (.spdmGetMeasurements 5 false) s = .next (s.respond (0x60 + (s.getR Reg.SGE_LCS_STATE 0 + s.getR Reg.STREAM_SLOT 0 * 2 ^ 8 + s.getR Reg.SGE_LCS_VALID 0 * 2 ^ 16
      + s.getR Reg.SGE_LCS_REVOKED 0 * 2 ^ 24) * 2 ^ 32) 0)
      ∧ (6 < index.toNat → index.toNat ≠ 255 → exec (.spdmGetMeasurements index false) s = .next (s.respond (0x7F + 0x01 * 2 ^ 8) 0))
      ∧ (1 ≤ index.toNat → index.toNat ≤ 6 → exec (.spdmGetMeasurements index false) s = .next (s.respond (0x60 + s.measurement index.toNat * 2 ^ 32) 0))
      ∧ exec (.spdmGetMeasurements 255 false) s = .next (s.respond (0x60 + (s.measurement 1 + s.measurement 2 * 2 ^ 512 + s.measurement 3 * 2 ^ 1024 + s.measurement 4 * 2 ^ 1536
      + s.measurement 5 * 2 ^ 2048 + s.measurement 6 * 2 ^ 2560) * 2 ^ 32) 0)
      ∧ (s.getR Reg.SGE_LCS_STATE 0 ≠ 1 → s.getR Reg.SGE_LCS_STATE 0 ≠ 2 → exec (.spdmGetMeasurements index true) s = .next (s.respond (0x7F + 0x07 * 2 ^ 8) 0))
      ∧ (s.getR Reg.SGE_LCS_STATE 0 = 1 ∨ s.getR Reg.SGE_LCS_STATE 0 = 2 → exec (.spdmGetMeasurements 0 true) s = .next (k.respond (0x60 + 6 * 2 ^ 32) 0)
      ∧ (1 ≤ index.toNat → index.toNat ≤ 6 → exec (.spdmGetMeasurements index true) s = .next (k.respond (0x60 + s.measurement index.toNat * 2 ^ 32) 0))
      ∧ (6 < index.toNat → index.toNat ≠ 255 → exec (.spdmGetMeasurements index true) s = .next (s.respond (0x7F + 0x01 * 2 ^ 8) 0))
      ∧ exec (.spdmGetMeasurements 255 true) s = .next (k.respond (0x60 + (s.measurement 1 + s.measurement 2 * 2 ^ 512 + s.measurement 3 * 2 ^ 1024 + s.measurement 4 * 2 ^ 1536
      + s.measurement 5 * 2 ^ 2048 + s.measurement 6 * 2 ^ 2560) * 2 ^ 32) 0))) ∧
  -- SPDM_CHUNK_SEND: the number it is to bear is that of the request its handle names, 0 at the start of one
  (∀ (s : State) (handle : BitVec 8) (seq : BitVec 16) (last : Bool) (want : Nat), s.sage.spdm = 3 →
      want = (match s.sage.sending with | some (h, n) => if h = handle.toNat then n else 0 | none => 0) →
      (seq.toNat = want → exec (.spdmChunkSend handle seq last) s = .next ((s.modSage (fun g => { g with sending := if last then none else some (handle.toNat, want + 1) })).respond (0x05 + seq.toNat * 2 ^ 32) 0))
      ∧ (seq.toNat ≠ want → exec (.spdmChunkSend handle seq last) s = .next ((s.modSage (fun g => { g with sending := none })).respond (0x7F + 0x01 * 2 ^ 8) 0))) ∧
  -- SPDM_CHUNK_GET
  (∀ (s : State) (handle : BitVec 8) (seq : BitVec 16) (last : Bool), s.sage.spdm = 3 →
      (s.sage.large = none → exec (.spdmChunkGet handle seq last) s = .next (s.respond (0x7F + 0x04 * 2 ^ 8) 0))
      ∧ (∀ h n, s.sage.large = some (h, n) → (h = handle.toNat → n = seq.toNat → exec (.spdmChunkGet handle seq last) s = .next ((s.modSage (fun g => { g with large := if last then none else some (h, n + 1) })).respond
      (0x06 + (seq.toNat + bit last * 2 ^ 16) * 2 ^ 32) 0)) ∧ (h ≠ handle.toNat ∨ n ≠ seq.toNat → exec (.spdmChunkGet handle seq last) s = .next (s.respond (0x7F + 0x01 * 2 ^ 8) 0)))) ∧
  -- SPDM_GET_PQ_CERT and SPDM_GET_PQ_SIG
  (∀ (s : State) (h : Nat), s.sage.spdm = 3 →
      h = ((s.sage.large.map (fun x => x.1)).getD 0 + 1) % 256 →
      exec .spdmGetPqCert s = .next (if s.sage.chains then (s.modSage (fun g => { g with large := some (h, 0) })).respond (0x7F + 0x0F * 2 ^ 8 + h * 2 ^ 32) 0 else s.respond (0x7F + 0x01 * 2 ^ 8) 0)
      ∧ (s.signs = true → s.sage.kept = true → exec .spdmGetPqSig s = .next ((s.modSage (fun g => { g with large := some (h, 0) })).respond (0x7F + 0x0F * 2 ^ 8 + h * 2 ^ 32) 0))
      ∧ (s.signs = true → s.sage.kept = false → exec .spdmGetPqSig s = .next (s.respond (0x7F + 0x04 * 2 ^ 8) 0))
      ∧ (s.signs = false → exec .spdmGetPqSig s = .next (s.respond (0x7F + 0x07 * 2 ^ 8) 0)))

/-- MTIP is 1 exactly where mtimecmp has been reached. A claim answers the best source, 0 where there is none, and with peek clear takes it into service; a context is notified above its threshold. A completion of a source in service that is enabled for the context opens its gateway, where an edge that waits or a level still raised becomes pending; another leaves the state. Requesters that may not write are denied. A patch unit's first key at stage 0 and its second at stage 1 advance the sequence, any other key ends it, as 64 ncyc since the first do; a new mask at stage 2 changes the enables with PATCH_CHANGED, and any mask ends the sequence; a line that matches an enabled unit reads from the patch RAM. KICK with 0x6B1C reloads COUNT and clears STAGE, with another key does nothing. An expiry of an enabled watchdog that is not paused has COUNT at 0: the first sets STAGE and of a core warns by source 4 + n and 0x0F01; the second resets the hart, or all four with ACTION, with 0x0F02, 0x0F03 or 0x0F04; else, or at the other STAGE, the state stays. A hart reset ends its halt, drops its reservation and restarts a core at its boot address. The words that hold key sequences, halts and counts are the model's own (notes/assumptions/5). -/
def Obligations.InterruptPatchAndWatchdogCommandsComplete : Prop :=
  -- MTIMECMP_MATCH
  (∀ (s : State) (hart : Fin 4), exec (.mtimecmpMatch hart) s = .next (s.setR Reg.HART_MTIP hart (bit (decide (s.getR Reg.CTL_MTIMECMP_T hart ≤ s.time.toNat / 1024))))) ∧
  -- PLIC_CLAIM
  (∀ (s : State) (ctx : Fin 8), exec (.plicClaim ctx true) s = .next (s.respond (s.plicBest ctx) 0) ∧ (s.plicBest ctx = 0 → exec (.plicClaim ctx false) s = .next (s.respond 0 0))
      ∧ (s.plicBest ctx ≠ 0 → exec (.plicClaim ctx false) s = .next (((s.respond (s.plicBest ctx) 0).setR Reg.PLIC_PEND (s.plicBest ctx) 0).setR Reg.PLIC_BUSY (s.plicBest ctx) 1))) ∧
  -- PLIC_COMPLETE
  (∀ (s : State) (ctx : Fin 8) (id : BitVec 32), id.toNat < 1024 ∧ s.flag Reg.PLIC_BUSY id.toNat = true →
      s.plicEnabled ctx id.toNat = true →
      ∃ t, exec (.plicComplete ctx id) s = .next t ∧ t.getR Reg.PLIC_BUSY id.toNat = 0
      ∧ (0 < s.getR Reg.PLIC_WAIT id.toNat → t.flag Reg.PLIC_PEND id.toNat = true ∧ t.getR Reg.PLIC_WAIT id.toNat = Reg.PLIC_WAIT.norm (s.getR Reg.PLIC_WAIT id.toNat - 1))
      ∧ (s.getR Reg.PLIC_WAIT id.toNat = 0 → s.flag Reg.PLIC_LEVEL id.toNat = true → id.toNat < 512 → t.flag Reg.PLIC_PEND id.toNat = true)
      ∧ (s.getR Reg.PLIC_WAIT id.toNat = 0 → s.flag Reg.PLIC_LEVEL id.toNat = false → t.getR Reg.PLIC_PEND id.toNat = s.getR Reg.PLIC_PEND id.toNat)
      ∧ Leaves [] [Reg.PLIC_BUSY.key id.toNat, Reg.PLIC_PEND.key id.toNat, Reg.PLIC_WAIT.key id.toNat] s t) ∧
  -- PLIC_COMPLETE of a source that is not in service or not enabled for the context
  (∀ (s : State) (ctx : Fin 8) (id : BitVec 32), 1024 ≤ id.toNat ∨ s.flag Reg.PLIC_BUSY id.toNat = false ∨ s.plicEnabled ctx id.toNat = false →
      exec (.plicComplete ctx id) s = .next s) ∧
  -- a context is notified above its threshold
  (∀ (s : State) (ctx : Nat), (s.plicBest ctx = 0 → s.plicNotifies ctx = false)
      ∧ (s.plicBest ctx ≠ 0 → (s.plicNotifies ctx = true ↔ s.getR Reg.PLIC_THR ctx < s.getR Reg.PLIC_PRIO (s.plicBest ctx)))) ∧
  -- what a patch unit puts in place of a word
  (∀ (s : State) (dusk : Bool) (o : Nat) (w : BitVec 64), (s.patchUnit dusk o = none → s.patchedWord dusk o w = w)
      ∧ (∀ u, s.patchUnit false o = some u → s.patchedWord false o w = BitVec.ofNat 64 (s.getR Reg.CTL_SPATCH_RAM_W (4 * s.getR Reg.CTL_SPATCH_TARGET u + o % 16 / 8 * 2)
      + s.getR Reg.CTL_SPATCH_RAM_W (4 * s.getR Reg.CTL_SPATCH_TARGET u + o % 16 / 8 * 2 + 1) * 2 ^ 32))
      ∧ (∀ u, s.patchUnit false o = some u → u < 16 ∧ nbit (s.getR Reg.CTL_SPATCH_EN 0) u = true ∧ s.getR Reg.CTL_SPATCH_MATCH u = o / 16 % 2 ^ 19)) ∧
  -- PATCH_KEY_WRITE
  (∀ (s : State) (dusk : Bool) (req key : BitVec 16) (q : Nat), q = (if dusk then 3 else 2) →
      s.patchWriter dusk req.toNat = true →
      (s.keyStage q = 0 → exec (.patchKeyWrite dusk 0x5EED req) s = .next ((((s.respond 0 0).setR Reg.KEY_STAGE q 1).setR Reg.KEY_REQ q req.toNat).setR Reg.KEY_T q s.clockNow))
      ∧ (s.keyStage q = 1 → exec (.patchKeyWrite dusk 0xA11E req) s = .next ((s.respond 0 0).setR Reg.KEY_STAGE q 2))
      ∧ (key ≠ 0x5EED ∨ s.keyStage q ≠ 0 → key ≠ 0xA11E ∨ s.keyStage q ≠ 1 → exec (.patchKeyWrite dusk key req) s = .next ((s.respond 0 0).setR Reg.KEY_STAGE q 0))) ∧
  -- PATCH_EN_WRITE
  (∀ (s : State) (dusk : Bool) (mask req : BitVec 16) (q : Nat) (f : Field), q = (if dusk then 3 else 2) →
      f = (if dusk then Reg.CTL_DPATCH_EN else Reg.CTL_SPATCH_EN) →
      s.patchWriter dusk req.toNat = true →
      (s.keyStage q = 2 → s.getR f 0 ≠ mask.toNat → exec (.patchEnWrite dusk mask req) s = .next ((((s.respond 0 0).setR Reg.KEY_STAGE q 0).setR f 0 mask.toNat).raise 0x2D4C 0x0F0C 0
      (dbgDetail (if dusk then 5 else 4) 0 0 0 mask.toNat)))
      ∧ (s.keyStage q ≠ 2 ∨ s.getR f 0 = mask.toNat → exec (.patchEnWrite dusk mask req) s = .next ((s.respond 0 0).setR Reg.KEY_STAGE q 0))) ∧
  -- patch units: other requesters, and the key's timeout
  (∀ (s : State) (dusk : Bool) (key mask req : BitVec 16), (s.patchWriter dusk req.toNat = false → exec (.patchKeyWrite dusk key req) s = .next (s.respond 0 2) ∧ exec (.patchEnWrite dusk mask req) s = .next (s.respond 0 2))
      ∧ exec (.patchKeyTimeout dusk) s = .next (if 64 * 512 < s.keyAge (if dusk then 3 else 2) then s.setR Reg.KEY_STAGE (if dusk then 3 else 2) 0 else s)) ∧
  -- WDT_KICK
  (∀ (s : State) (w : Fin 6) (key req : BitVec 16), (s.wdtWriter w req.toNat = false → exec (.wdtKick w key req) s = .next (s.respond 0 2))
      ∧ (s.wdtWriter w req.toNat = true → key ≠ 0x6B1C → exec (.wdtKick w key req) s = .next (s.respond 0 0))
      ∧ (s.wdtWriter w req.toNat = true → ∃ t, exec (.wdtKick w 0x6B1C req) s = .next t ∧ t.getR Reg.CTL_WDT_STAT_COUNT w = Reg.CTL_WDT_STAT_COUNT.norm (max 1 (s.getR Reg.CTL_WDT_CFG_PERIOD w))
      ∧ t.getR Reg.CTL_WDT_STAT_STAGE w = 0 ∧ t.resp = ⟨0, 0, false⟩
      ∧ Leaves [.resp] [Reg.CTL_WDT_STAT_COUNT.key w, Reg.CTL_WDT_STAT_STAGE.key w, Reg.WDT_T.key w] s t)) ∧
  -- WDT_FIRST_EXPIRY
  (∀ (s : State) (w : Fin 6), s.flag Reg.CTL_WDT_CFG_EN w = true ∧ s.flag Reg.CTL_WDT_STAT_PAUSED w = false ∧ s.flag Reg.CTL_WDT_STAT_STAGE w = false →
      s.wdtCount w = 0 →
      ∃ t, exec (.wdtFirstExpiry w) s = .next t ∧ t.flag Reg.CTL_WDT_STAT_STAGE w = true ∧ t.getR Reg.CTL_WDT_STAT_COUNT w = Reg.CTL_WDT_STAT_COUNT.norm (max 1 (s.getR Reg.CTL_WDT_CFG_PERIOD w))
      ∧ (w.val < 4 → s.flag Reg.PLIC_PEND (4 + w.val) = false → s.flag Reg.PLIC_BUSY (4 + w.val) = false → t.flag Reg.PLIC_PEND (4 + w.val) = true)
      ∧ t.events = (if w.val < 4 then raiseIn s.events (evKey 0x2D4C 0x0F01) s.time.toNat 2 w.val else s.events)
      ∧ Leaves [.events] [Reg.CTL_WDT_STAT_STAGE.key w, Reg.CTL_WDT_STAT_COUNT.key w, Reg.WDT_T.key w, Reg.PLIC_PEND.key (4 + w.val), Reg.PLIC_WAIT.key (4 + w.val)] s t) ∧
  -- WDT_SECOND_EXPIRY
  (∀ (s : State) (w : Fin 6), s.flag Reg.CTL_WDT_CFG_EN w = true ∧ s.flag Reg.CTL_WDT_STAT_PAUSED w = false ∧ s.flag Reg.CTL_WDT_STAT_STAGE w = true →
      s.wdtCount w = 0 →
      (w.val = 4 ∨ w.val = 5 → exec (.wdtSecondExpiry w) s = .next ((s.hartReset w).raise 0x2D4C (if w.val = 4 then 0x0F03 else 0x0F04) 4 (dbgDetail w)))
      ∧ (w.val < 4 → s.flag Reg.CTL_WDT_CFG_ACTION w = false → exec (.wdtSecondExpiry w) s = .next ((s.hartReset w).raise 0x2D4C 0x0F02 4 (dbgDetail w)))
      ∧ (w.val < 4 → s.flag Reg.CTL_WDT_CFG_ACTION w = true → exec (.wdtSecondExpiry w) s
      = .next (((((s.hartReset 0).hartReset 1).hartReset 2).hartReset 3).raise 0x2D4C 0x0F02 4 (dbgDetail w)))) ∧
  -- a watchdog whose count has not run out, and what COUNT is
  (∀ (s : State) (w : Fin 6), (s.wdtCount w ≠ 0 ∨ s.flag Reg.CTL_WDT_CFG_EN w = false ∨ s.flag Reg.CTL_WDT_STAT_PAUSED w = true → exec (.wdtFirstExpiry w) s = .next s ∧ exec (.wdtSecondExpiry w) s = .next s)
      ∧ (s.flag Reg.CTL_WDT_STAT_STAGE w = true → exec (.wdtFirstExpiry w) s = .next s) ∧ (s.flag Reg.CTL_WDT_STAT_STAGE w = false → exec (.wdtSecondExpiry w) s = .next s)
      ∧ (s.flag Reg.CTL_WDT_CFG_EN w = true → s.flag Reg.CTL_WDT_STAT_PAUSED w = false →
      s.wdtCount w = s.getR Reg.CTL_WDT_STAT_COUNT w - s.elapsed (s.getR Reg.WDT_T w) / 1024000)
      ∧ (s.flag Reg.CTL_WDT_STAT_PAUSED w = true → s.wdtCount w = s.getR Reg.CTL_WDT_STAT_COUNT w)) ∧
  -- HART_RESET_CMD
  (∀ (s : State) (hart : Fin 4) (req : BitVec 16), (s.ctlWriter req.toNat = false → exec (.hartResetCmd hart req) s = .next (s.respond 0 2))
      ∧ (s.ctlWriter req.toNat = true → exec (.hartResetCmd hart req) s = .next ((s.respond 0 0).hartReset hart))) ∧
  -- what a hart reset leaves
  (∀ (s : State) (n : Nat), n < 6 →
      (∀ k < 32, s.getR Reg.SPD_CPY_STAT_STATE k ≠ 1) →
      (∀ c < 8, s.getR Reg.PCI_DMA_STAT_STATE c ≠ 1) →
      (s.hartReset n).flag Reg.HART_HALT n = false ∧ (s.hartReset n).getR Reg.HART_RESV n = 0 ∧ (n < 4 → (s.hartReset n).getR Reg.HART_PC n = Reg.HART_PC.norm (s.getR Reg.CTL_BOOT_ADDR n))
      ∧ (s.hartReset n).dbg.havereset.contains n = true ∧ (s.hartReset n).dbg.haltreq.contains n = s.dbg.resetHalt.contains n
      ∧ (n < 4 → (s.hartReset n).getR Reg.HART_MCAUSE n = 0 ∧ (s.hartReset n).getR Reg.HART_MTVAL n = 0 ∧ (s.hartReset n).getR Reg.HART_RUN n = s.getR Reg.HART_RUN n)
      ∧ (s.hartReset n).flag Reg.CTL_WDT_STAT_STAGE n = false ∧ (s.hartReset n).flag Reg.CTL_WDT_STAT_PAUSED n = false
      ∧ (∀ m, m ≠ n → (s.hartReset n).getR Reg.HART_HALT m = s.getR Reg.HART_HALT m ∧ (s.hartReset n).getR Reg.HART_PC m = s.getR Reg.HART_PC m)
      ∧ (s.hartReset n).mem = s.mem ∧ (s.hartReset n).events = s.events ∧ (s.hartReset n).resp = s.resp)

/-- The ID that a claim register answers is 0 exactly where no source is pending, enabled for the context and of a priority above 0. Otherwise it is such a source, and every other one has a lower priority, or the same and a higher number, as the PLIC specification that R556 names orders them. -/
def Obligations.AClaimAnswersTheBestSource : Prop :=
  -- the best source
  (∀ (s : State) (ctx : Nat), (s.plicBest ctx = 0 → ∀ m, 0 < m → m < 1024 → s.flag Reg.PLIC_PEND m = true → s.plicEnabled ctx m = true → s.getR Reg.PLIC_PRIO m = 0)
      ∧ (s.plicBest ctx ≠ 0 → s.plicBest ctx < 1024 ∧ s.flag Reg.PLIC_PEND (s.plicBest ctx) = true ∧ s.plicEnabled ctx (s.plicBest ctx) = true
      ∧ 0 < s.getR Reg.PLIC_PRIO (s.plicBest ctx)
      ∧ ∀ m, 0 < m → m < 1024 → s.flag Reg.PLIC_PEND m = true → s.plicEnabled ctx m = true → 0 < s.getR Reg.PLIC_PRIO m →
      s.getR Reg.PLIC_PRIO m < s.getR Reg.PLIC_PRIO (s.plicBest ctx) ∨ (s.getR Reg.PLIC_PRIO m = s.getR Reg.PLIC_PRIO (s.plicBest ctx) ∧ s.plicBest ctx ≤ m)))

/-- At Full, halt requests are noted, resumes and hart resets carried out, and ndmreset is a device reset that DEV_RST_CAUSE.DBG shows, only the cause while DRST_N is low and nothing before POR ends; below Full they leave the state. A running hart that halts loses its reservation and returns the key sequences it began to idle; another leaves the state. An abstract command does nothing below the level it needs or while cmderr is set, ends cmderr 2, 4 or 3 where it is not supported, meets the wrong hart state or names no register, and else transfers and runs the program buffer, whose exception is cmderr 3. A system bus access does nothing at level None, sets sbbusyerror while one is in progress, else starts: with an error held it does no more, else it sets sberror 3, 7 or 2 by alignment, level or address, or sends its request. A session's close ends its grant, exchange and mask, resumes every halted hart, and raises 0x0F06; with no session it changes nothing. NONCE, GRANT and DROP change nothing without an open session; NONCE forms one, or is rejected with 7 while locked, GRANT of a good length begins verification and of another is rejected with 1; a nonce or a result that is not awaited changes nothing; a grant is accepted at its level or rejected with its first failing code, the fourth rejection locking, until the lockout ends. Nonces are free values; registers' layouts are the model's presumption (notes/assumptions/52). -/
def Obligations.DebugModuleCommandsComplete : Prop :=
  -- DM_HALTREQ, DM_RESUMEREQ, DM_HARTRESET and DM_NDMRESET at Full
  (∀ (s : State) (harts : BitVec 6), s.level = 2 →
      exec (.dmHaltreq harts) s = .next (s.modDbg (fun d => { d with haltreq := (bitsIn 6 harts.toNat).foldl (fun l n => if s.flag Reg.HART_HALT n then l else listed l n true) d.haltreq }))
      ∧ exec (.dmResumereq harts) s = .next ((bitsIn 6 harts.toNat).foldl (fun t n => t.hartResume n) s)
      ∧ exec (.dmHartreset harts) s = .next ((bitsIn 4 harts.toNat).foldl (fun t n => t.hartReset n) s)
      ∧ (s.flag Reg.POR_HELD 0 = false → s.dbg.resetLow = false →
      exec .dmNdmreset s = .next ((s.deviceReset (decide (s.getR Reg.DBG_SESS_STATE 0 ≠ 0))).setR Reg.DEV_RST_CAUSE_DBG 0 1))
      ∧ (s.flag Reg.POR_HELD 0 = true → exec .dmNdmreset s = .next s)
      ∧ (s.flag Reg.POR_HELD 0 = false → s.dbg.resetLow = true → exec .dmNdmreset s = .next (s.setR Reg.DEV_RST_CAUSE_DBG 0 1))) ∧
  -- the same below Full
  (∀ (s : State) (harts : BitVec 6), s.level ≠ 2 →
      exec (.dmHaltreq harts) s = .next s ∧ exec (.dmResumereq harts) s = .next s ∧ exec (.dmHartreset harts) s = .next s ∧ exec .dmNdmreset s = .next s) ∧
  -- DM_HART_HALTED
  (∀ (s : State) (n : Fin 6), s.flag Reg.HART_RUN n = true ∧ s.flag Reg.HART_HALT n = false →
      ∃ t, exec (.dmHartHalted n) s = .next t ∧ t.flag Reg.HART_HALT n = true ∧ t.getR Reg.HART_RESV n = 0 ∧ t.dbg.haltreq.contains n.val = false
      ∧ (∀ q < 16, s.keyStage q ≠ 0 → s.getR Reg.KEY_REQ q = hartEp n → t.keyStage q = 0)
      ∧ (∀ q < 16, s.getR Reg.KEY_REQ q ≠ hartEp n → t.keyStage q = s.keyStage q)
      ∧ ((∀ q < 16, s.keyStage q = 0) → t.events = s.events) ∧ t.mem = s.mem ∧ (∀ m, m ≠ n.val → t.getR Reg.HART_HALT m = s.getR Reg.HART_HALT m)) ∧
  -- DM_HART_HALTED of a hart that does not run, or has halted
  (∀ (s : State) (n : Fin 6), s.flag Reg.HART_RUN n = false ∨ s.flag Reg.HART_HALT n = true →
      exec (.dmHartHalted n) s = .next s) ∧
  -- DM_ABSTRACT_COMMAND
  (∀ (s t : State) (cmd : BitVec 32) (exc : Bool) (n : Nat), n = s.dbg.hartsel →
      t = s.modDbg (fun d => { d with command := cmd.toNat }) →
      (s.cmdAllowed cmd.toNat = true → exec (.dmAbstractCommand cmd exc) s = .next (s.abstractCmd cmd.toNat exc)) ∧ (s.cmdAllowed cmd.toNat = false → exec (.dmAbstractCommand cmd exc) s = .next s)
      ∧ (s.dbg.cmderr ≠ 0 → s.abstractCmd cmd.toNat exc = s)
      ∧ (s.dbg.cmderr = 0 → (cmd.toNat / 2 ^ 24 ≠ 0 ∨ nbit cmd.toNat 19 = true ∨ (nbit cmd.toNat 17 = true ∧ cmd.toNat / 2 ^ 20 % 8 ≠ if n < 4 then 3 else 2)) → s.abstractCmd cmd.toNat exc = t.cmderr 2)
      ∧ (s.dbg.cmderr = 0 → ¬(cmd.toNat / 2 ^ 24 ≠ 0 ∨ nbit cmd.toNat 19 = true ∨ (nbit cmd.toNat 17 = true ∧ cmd.toNat / 2 ^ 20 % 8 ≠ if n < 4 then 3 else 2)) →
      (6 ≤ n ∨ s.flag Reg.HART_RUN n = false → s.abstractCmd cmd.toNat exc = t.cmderr 4)
      ∧ (n < 6 → s.flag Reg.HART_RUN n = true → s.flag Reg.HART_HALT n = true → (nbit cmd.toNat 17 = true → hartReg n (cmd.toNat % 65536) = false → s.abstractCmd cmd.toNat exc = t.cmderr 3)
      ∧ (nbit cmd.toNat 17 = true → hartReg n (cmd.toNat % 65536) = true → nbit cmd.toNat 18 = false → s.abstractCmd cmd.toNat exc = t.transfer n (cmd.toNat % 65536) (nbit cmd.toNat 16))
      ∧ (nbit cmd.toNat 17 = true → hartReg n (cmd.toNat % 65536) = true → nbit cmd.toNat 18 = true → ∃ u, u = ((t.transfer n (cmd.toNat % 65536) (nbit cmd.toNat 16)).hregsDrop n).setR Reg.HART_RESV n 0
      ∧ s.abstractCmd cmd.toNat exc = if exc then u.cmderr 3 else u)
      ∧ (nbit cmd.toNat 17 = false → nbit cmd.toNat 18 = true → ∃ u, u = (t.hregsDrop n).setR Reg.HART_RESV n 0 ∧ s.abstractCmd cmd.toNat exc = if exc then u.cmderr 3 else u)
      ∧ (nbit cmd.toNat 17 = false → nbit cmd.toNat 18 = false → s.abstractCmd cmd.toNat exc = t))
      ∧ (n < 4 → s.flag Reg.HART_RUN n = true → s.flag Reg.HART_HALT n = false → nbit cmd.toNat 17 = true → nbit cmd.toNat 16 = false → nbit cmd.toNat 18 = false → counterReg (cmd.toNat % 65536) = true →
      hartReg n (cmd.toNat % 65536) = true → s.abstractCmd cmd.toNat exc = t.transfer n (cmd.toNat % 65536) false)
      ∧ (n < 6 → s.flag Reg.HART_RUN n = true → s.flag Reg.HART_HALT n = false → nbit cmd.toNat 16 = true ∨ nbit cmd.toNat 18 = true ∨ nbit cmd.toNat 17 = false ∨ counterReg (cmd.toNat % 65536) = false ∨ 4 ≤ n →
      s.abstractCmd cmd.toNat exc = t.cmderr 4))) ∧
  -- DM_ABSTRACT_COMMAND: Access Register of a halted control core
  (∀ (s : State) (r : Nat) (exc write : Bool) (cmd : BitVec 32), s.level = 2 ∧ s.dbg.cmderr = 0 ∧ s.dbg.hartsel < 4 →
      s.flag Reg.HART_RUN s.dbg.hartsel = true ∧ s.flag Reg.HART_HALT s.dbg.hartsel = true →
      0x1000 < r ∧ r < 0x1040 →
      cmd.toNat = 3 * 2 ^ 20 + 2 ^ 17 + bit write * 2 ^ 16 + r →
      (write = true → exec (.dmAbstractCommand cmd exc) s = .next (s.modDbg (fun d => { d with command := cmd.toNat, hregs := Map.put d.hregs (d.hartsel * 65536 + r) (Map.get 0 d.data 0 + Map.get 0 d.data 1 * 2 ^ 32) })))
      ∧ (write = false → ∃ t x, exec (.dmAbstractCommand cmd exc) s = .next t ∧ Map.get 0 t.dbg.data 0 = x % 2 ^ 32 ∧ Map.get 0 t.dbg.data 1 = x / 2 ^ 32 % 2 ^ 32
      ∧ t.dbg.cmderr = 0 ∧ (∀ v, Map.find s.dbg.hregs (s.dbg.hartsel * 65536 + r) = some v → x = v)
      ∧ (Map.find s.dbg.hregs (s.dbg.hartsel * 65536 + r) = none → x = (Config.freeWord s.free).toNat) ∧ t.free = s.free + 1 ∧ Leaves [.dbg, .free] [] s t)) ∧
  -- DM_SYSTEM_BUS_ACCESS
  (∀ (s u : State) (addr : BitVec 48) (size : Fin 4) (write peek : Bool) (data : BitVec 64), (u = s.modDbg (fun d => { d with sbaddr := addr.toNat, sbaccess := size.val, sbdata := if write then data.toNat else d.sbdata })) →
      (s.level = 0 → exec (.dmSystemBusAccess addr size write data peek) s = .next s)
      ∧ (s.level ≠ 0 → s.dbg.sbBusy ≠ none → exec (.dmSystemBusAccess addr size write data peek) s = .next (s.modDbg (fun d => { d with sbBusyErr := true })))
      ∧ (s.level ≠ 0 → s.dbg.sbBusy = none → exec (.dmSystemBusAccess addr size write data peek) s = .next (u.sbStart write peek))) ∧
  -- how a system bus access starts, or what stops it
  (∀ (s : State) (write peek : Bool) (n : Nat), n = 2 ^ s.dbg.sbaccess ∧ s.dbg.sbaccess ≤ 3 →
      (s.dbg.sbBusyErr = true ∨ s.dbg.sberror ≠ 0 → s.sbStart write peek = s)
      ∧ (s.dbg.sbBusyErr = false → s.dbg.sberror = 0 → s.dbg.sbaddr % n ≠ 0 → s.sbStart write peek = s.modDbg (fun d => { d with sberror := 3 }))
      ∧ (s.dbg.sbBusyErr = false → s.dbg.sberror = 0 → s.dbg.sbaddr % n = 0 → s.level ≠ 2 → s.sbStart true peek = s.modDbg (fun d => { d with sberror := 7 }))
      ∧ (s.dbg.sbBusyErr = false → s.dbg.sberror = 0 → s.dbg.sbaddr % n = 0 → s.level = 2 → ∃ r, r = s.sendWrite debugEp s.dbg.sbaddr n (s.dbg.sbdata % 2 ^ (8 * n)) 0 0 none
      ∧ s.sbStart true peek = if r.2 then r.1.modDbg (fun x => { x with sbBusy := some (true, s.dbg.sbaddr, n) }) else r.1.modDbg (fun x => { x with sberror := 2 }))
      ∧ (s.dbg.sbBusyErr = false → s.dbg.sberror = 0 → s.dbg.sbaddr % n = 0 → ∃ r, r = s.sendRead debugEp s.dbg.sbaddr n 0 (if peek = true ∨ s.level ≠ 2 then 128 else 0) none
      ∧ s.sbStart false peek = if r.2 then r.1.modDbg (fun x => { x with sbBusy := some (false, s.dbg.sbaddr, n) }) else r.1.modDbg (fun x => { x with sberror := 2 }))) ∧
  -- DM_SESSION_CLOSE_WRITE and DEBUG_SESSION_TIMEOUT
  (∀ (s : State), s.getR Reg.DBG_SESS_STATE 0 ≠ 0 →
      (∀ n < 6, s.flag Reg.HART_HALT n = false) →
      ∃ t, exec .dmSessionCloseWrite s = .next t ∧ exec .debugSessionTimeout s = .next t ∧ t.getR Reg.DBG_SESS_STATE 0 = 0 ∧ t.getR Reg.DBG_GRANTED 0 = 0 ∧ t.getR Reg.DBG_SESS_MASK 0 = 0
      ∧ t.dbg.nonce = none ∧ t.dbg.forming = false ∧ t.dbg.verifying = false
      ∧ t.events = raiseIn s.events (evKey 0x2D4C 0x0F06) s.time.toNat 0 (dbgDetail 0 (bit (decide (s.getR Reg.DBG_SESS_STATE 0 = 2))) % 2 ^ 128) ∧ t.mem = s.mem) ∧
  -- a close resumes the halted harts; with no session nothing happens
  (∀ (s : State), exec .dmSessionCloseWrite s = .next s.sessionClose ∧ exec .debugSessionTimeout s = .next s.sessionClose
      ∧ (s.getR Reg.DBG_SESS_STATE 0 ≠ 0 → ∃ t, exec .dmSessionCloseWrite s = .next t ∧ ∀ n < 6, t.flag Reg.HART_HALT n = false)
      ∧ (s.getR Reg.DBG_SESS_STATE 0 = 0 → exec .dmSessionCloseWrite s = .next s ∧ exec .debugSessionTimeout s = .next s)) ∧
  -- AUTH_NONCE and AUTH_NONCE_READY
  (∀ (s : State), (s.authOpen = false → exec .authNonce s = .next s)
      ∧ (s.authOpen = true → s.flag Reg.DBG_LOCKED 0 = false → exec .authNonce s = .next (s.modDbg (fun d => { d with forming := true, nonce := none, nonceLeft := 0, grantLeft := 0 })))
      ∧ (s.authOpen = true → s.flag Reg.DBG_LOCKED 0 = true → exec .authNonce s = .next ((s.modDbg (fun d => { d with nonceLeft := 0 })).grantReject 7))
      ∧ (s.dbg.forming = false → exec .authNonceReady s = .next s)
      ∧ (s.dbg.forming = true → exec .authNonceReady s = .next (s.draw.modDbg (fun d => { d with forming := false, nonce := some (Config.freeNonce s.free).toNat, nonceLeft := 8 })))) ∧
  -- AUTH_GRANT and AUTH_DROP
  (∀ (s : State) (len : BitVec 24), s.authOpen = true →
      (len.toNat % 4 = 0 → 4 ≤ len.toNat → len.toNat ≤ 32768 → exec (.authGrant len) s = .next (s.modDbg (fun d => { d with verifying := true, grantLeft := 0, nonceLeft := 0 })))
      ∧ (len.toNat % 4 ≠ 0 ∨ len.toNat < 4 ∨ 32768 < len.toNat → exec (.authGrant len) s = .next ((s.modDbg (fun d => { d with nonce := none, nonceLeft := 0 })).grantReject 1))
      ∧ exec .authDrop s = .next (s.setR Reg.DBG_GRANTED 0 0).wdtEvalAll) ∧
  -- AUTH_GRANT, AUTH_DROP and AUTH_GRANT_RESULT that nothing awaits
  (∀ (s : State) (len : BitVec 24) (g : GrantFacts), (s.authOpen = false → exec (.authGrant len) s = .next s ∧ exec .authDrop s = .next s) ∧ (s.dbg.verifying = false → exec (.authGrantResult g) s = .next s)) ∧
  -- AUTH_GRANT_RESULT, whole
  (∀ (s t : State) (g : GrantFacts), s.dbg.verifying = true →
      t = (s.modDbg (fun d => { d with nonce := none })).keyMismatch g.keysel g.hashed →
      exec (.authGrantResult g) s = .next (if s.grantCode g = 0 then t.grantAccept g.level else t.grantReject (s.grantCode g))) ∧
  -- AUTH_GRANT_RESULT
  (∀ (s : State) (g : GrantFacts), s.dbg.verifying = true →
      (s.grantCode g = 0 → ∃ t, exec (.authGrantResult g) s = .next t ∧ t.getR Reg.DBG_GRANTED 0 = g.level.val ∧ t.getR Reg.DBG_SESS_FAILS 0 = 0 ∧ t.dbg.nonce = none
      ∧ t.dbg.verifying = false ∧ t.dbg.result = t.level ∧ (s.getR Reg.SGE_LCS_STATE 0 = 3 → t.flag Reg.SGE_LCS_RETURN 0 = true) ∧ t.mem = s.mem)
      ∧ (s.grantCode g ≠ 0 → s.flag Reg.DBG_LOCKED 0 = false → ∃ t, exec (.authGrantResult g) s = .next t ∧ t.getR Reg.DBG_GRANTED 0 = s.getR Reg.DBG_GRANTED 0 ∧ t.dbg.nonce = none
      ∧ t.dbg.verifying = false ∧ t.dbg.result = s.level + s.grantCode g * 256
      ∧ (s.getR Reg.DBG_SESS_FAILS 0 = 3 → t.getR Reg.DBG_SESS_FAILS 0 = 4 ∧ t.flag Reg.DBG_LOCKED 0 = true)
      ∧ (s.getR Reg.DBG_SESS_FAILS 0 < 3 → t.getR Reg.DBG_SESS_FAILS 0 = s.getR Reg.DBG_SESS_FAILS 0 + 1 ∧ t.flag Reg.DBG_LOCKED 0 = false) ∧ t.mem = s.mem)) ∧
  -- AUTH_LOCKOUT_END
  (∀ (s : State), exec .authLockoutEnd s = .next (s.setR Reg.DBG_LOCKED 0 0))

/-- DRW_ATTENTION inside a frame, or with a low below 2 or from 20 microseconds on, leaves the state; from 12 to 20 it counts an error; else a sync of a bit period from 80 ns to 10 microseconds, 64 to 8,000 time units, opens a frame and shows the period, and another is a counted frame error with 0x0F09. A request outside a frame leaves the state. A frame that is broken counts an error unanswered; a bad one is answered ACK 3; a good one is answered: NOP with the session word; OPEN opens the session unless the mailbox holds it, which is BUSY; CLOSE closes DRW's; MASK_SET at Full and MASK_CLEAR in DRW's session, refused else; a DMI read or write in DRW's session, refused without it or where the level does not permit it. A reset low in reset is held; else it is counted while masked, with 0x0F0A, or resets the device; its end sets DEV_RST_CAUSE.DRW but before POR ends, and changes nothing with none. Register layouts behind the DMI are the model's presumption (notes/assumptions/52). -/
def Obligations.DrwCommandsComplete : Prop :=
  -- DRW_ATTENTION
  (∀ (s : State) (low : Nat) (t : BitVec 16), s.dbg.frame = false →
      (low < 2000 ∨ 20000 ≤ low → ∀ x, exec (.drwAttention low x) s = .next s)
      ∧ (12000 ≤ low → low < 20000 → ∀ x, exec (.drwAttention low x) s = .next (s.satAdd Reg.DBG_DRW_STAT_FERR 0 1))
      ∧ (2000 ≤ low → low < 12000 → 64 ≤ t.toNat → t.toNat ≤ 8000 → exec (.drwAttention low (some t)) s = .next ((s.setR Reg.DBG_DRW_T_T 0 t.toNat).modDbg (fun d => { d with frame := true })))
      ∧ (2000 ≤ low → low < 12000 → t.toNat < 64 ∨ 8000 < t.toNat → exec (.drwAttention low (some t)) s = .next ((((s.setR Reg.DBG_DRW_T_T 0 t.toNat).satAdd Reg.DBG_DRW_STAT_FERR 0 1).raise 0x2D4C 0x0F09 1 0).modDbg (fun d => { d with frame := false })))
      ∧ (2000 ≤ low → low < 12000 → exec (.drwAttention low none) s = .next (((s.satAdd Reg.DBG_DRW_STAT_FERR 0 1).raise 0x2D4C 0x0F09 1 0).modDbg (fun d => { d with frame := false })))) ∧
  -- DRW_ATTENTION in a frame, and requests outside one
  (∀ (s : State) (low : Nat) (x : Option (BitVec 16)) (addr : BitVec 7) (data : BitVec 32) (peek : Bool) (fr : DrwFrame), (s.dbg.frame = true → exec (.drwAttention low x) s = .next s)
      ∧ (s.dbg.frame = false → exec (.drwNop fr) s = .next s ∧ exec (.drwOpen fr) s = .next s ∧ exec (.drwClose fr) s = .next s ∧ exec (.drwMaskSet fr) s = .next s
      ∧ exec (.drwMaskClear fr) s = .next s ∧ exec (.drwRead addr peek fr) s = .next s ∧ exec (.drwWrite addr data peek fr) s = .next s)) ∧
  -- frames that are not well formed
  (∀ (s : State) (addr : BitVec 7) (data : BitVec 32) (peek : Bool), s.dbg.frame = true →
      ∃ t u, t = (s.respond 0 3).modDbg (fun d => { d with frame := false, reply := drwReply 0 3 false })
      ∧ u = ((s.satAdd Reg.DBG_DRW_STAT_FERR 0 1).raise 0x2D4C 0x0F09 1 0).modDbg (fun d => { d with frame := false })
      ∧ exec (.drwNop .bad) s = .next t ∧ exec (.drwOpen .bad) s = .next t ∧ exec (.drwClose .bad) s = .next t ∧ exec (.drwMaskSet .bad) s = .next t
      ∧ exec (.drwMaskClear .bad) s = .next t ∧ exec (.drwRead addr peek .bad) s = .next t ∧ exec (.drwWrite addr data peek .bad) s = .next t
      ∧ exec (.drwNop .broken) s = .next u ∧ exec (.drwOpen .broken) s = .next u ∧ exec (.drwClose .broken) s = .next u ∧ exec (.drwMaskSet .broken) s = .next u
      ∧ exec (.drwMaskClear .broken) s = .next u ∧ exec (.drwRead addr peek .broken) s = .next u ∧ exec (.drwWrite addr data peek .broken) s = .next u) ∧
  -- DRW_NOP, DRW_OPEN, DRW_CLOSE
  (∀ (s : State), s.dbg.frame = true →
      exec (.drwNop .ok) s = .next (s.drwAnswer (s.getR Reg.DBG_SESS_STATE 0 + s.level * 4 + s.getR Reg.DBG_SESS_MASK 0 * 16 + s.getR Reg.DBG_SESS_FAILS 0 * 256) 0 true)
      ∧ (s.getR Reg.DBG_SESS_STATE 0 = 0 → exec (.drwOpen .ok) s = .next ((s.sessionOpen 1).drwAnswer 0 0) ∧ exec (.drwClose .ok) s = .next (s.drwAnswer 0 0))
      ∧ (s.getR Reg.DBG_SESS_STATE 0 = 1 → exec (.drwOpen .ok) s = .next (s.drwAnswer 0 0) ∧ exec (.drwClose .ok) s = .next (s.sessionClose.drwAnswer 0 0))
      ∧ (s.getR Reg.DBG_SESS_STATE 0 = 2 → exec (.drwOpen .ok) s = .next (s.drwAnswer 0 2) ∧ exec (.drwClose .ok) s = .next (s.drwAnswer 0 0))) ∧
  -- DRW_MASK_SET and DRW_MASK_CLEAR
  (∀ (s : State), s.dbg.frame = true →
      (s.getR Reg.DBG_SESS_STATE 0 = 1 → exec (.drwMaskClear .ok) s = .next ((s.setR Reg.DBG_SESS_MASK 0 0).drwAnswer 0 0)
      ∧ (s.level = 2 → exec (.drwMaskSet .ok) s = .next ((s.setR Reg.DBG_SESS_MASK 0 1).drwAnswer 0 0)) ∧ (s.level ≠ 2 → exec (.drwMaskSet .ok) s = .next (s.drwAnswer 0 1)))
      ∧ (s.getR Reg.DBG_SESS_STATE 0 ≠ 1 → exec (.drwMaskSet .ok) s = .next (s.drwAnswer 0 1) ∧ exec (.drwMaskClear .ok) s = .next (s.drwAnswer 0 1))) ∧
  -- DRW_READ and DRW_WRITE
  (∀ (s : State) (addr : BitVec 7) (data : BitVec 32) (peek : Bool), s.dbg.frame = true →
      (s.getR Reg.DBG_SESS_STATE 0 ≠ 1 → exec (.drwRead addr peek .ok) s = .next (s.drwAnswer 0 1 true) ∧ exec (.drwWrite addr data peek .ok) s = .next (s.drwAnswer 0 1))
      ∧ (s.getR Reg.DBG_SESS_STATE 0 = 1 → s.dmiOk addr.toNat 0 false = true → exec (.drwRead addr true .ok) s = .next (s.drwAnswer (s.dmWord addr.toNat % 2 ^ 32) 0 true)
      ∧ exec (.drwRead addr false .ok) s = .next ((s.dmReadDone addr.toNat).drwAnswer (s.dmWord addr.toNat % 2 ^ 32) 0 true))
      ∧ (s.getR Reg.DBG_SESS_STATE 0 = 1 → s.dmiOk addr.toNat 0 false = false → exec (.drwRead addr peek .ok) s = .next (s.drwAnswer 0 1 true))
      ∧ (s.getR Reg.DBG_SESS_STATE 0 = 1 → s.dmiOk addr.toNat data.toNat true = true → exec (.drwWrite addr data peek .ok) s = .next ((s.dmWrite addr.toNat data.toNat peek).drwAnswer 0 0))
      ∧ (s.getR Reg.DBG_SESS_STATE 0 = 1 → s.dmiOk addr.toNat data.toNat true = false → exec (.drwWrite addr data peek .ok) s = .next (s.drwAnswer 0 1))) ∧
  -- what an answer is: ACK, a read's and NOP's word, and the check byte
  (∀ (s : State) (data ack : Nat) (word : Bool), ack < 4 →
      (s.drwAnswer data ack word).resp.data = (s.respond data ack).resp.data ∧ (s.drwAnswer data ack word).dbg.frame = false ∧ (s.drwAnswer data ack word).dbg.reply = drwReply data ack word
      ∧ drwReply data 3 word = [3, crc8 [3]] ∧ drwReply data ack false = [ack, crc8 [ack]]
      ∧ (ack ≠ 3 → drwReply data ack true = [ack, byteAt data 0, byteAt data 1, byteAt data 2, byteAt data 3, crc8 [ack, byteAt data 0, byteAt data 1, byteAt data 2, byteAt data 3]])
      ∧ (s.drwAnswer data ack word).events = s.events ∧ (s.drwAnswer data ack word).mem = s.mem) ∧
  -- DRW_RESET_LOW and DRW_RESET_RELEASE
  (∀ (s : State), (s.inReset = false → s.flag Reg.DBG_SESS_MASK 0 = true → exec .drwResetLow s = .next (((s.modDbg (fun d => { d with frame := false })).satAdd Reg.DBG_DRW_STAT_MASKED 0 1).raise 0x2D4C 0x0F0A 2
      (dbgDetail 0 0 s.level)))
      ∧ (s.inReset = false → s.flag Reg.DBG_SESS_MASK 0 = false → exec .drwResetLow s = .next ((s.modDbg (fun d => { d with frame := false, resetLow := true })).deviceReset false))
      ∧ (s.inReset = true → exec .drwResetLow s = .next (s.modDbg (fun d => { d with frame := false, resetLow := true })))
      ∧ (s.dbg.resetLow = false → exec .drwResetRelease s = .next s)
      ∧ (s.dbg.resetLow = true → s.flag Reg.POR_HELD 0 = false → exec .drwResetRelease s = .next ((s.modDbg (fun d => { d with resetLow := false })).setR Reg.DEV_RST_CAUSE_DRW 0 1))
      ∧ (s.dbg.resetLow = true → s.flag Reg.POR_HELD 0 = true → exec .drwResetRelease s = .next (s.modDbg (fun d => { d with resetLow := false }))))

/-- Requests of other requesters are refused with STATUS 2. On and off requests with the slot BUSY are ignored. Else an on request of a domain that is on ends DONE; thermal and forced states refuse one with REASON 5 and 6; one that is off starts its wake, one going off is waited for, one on its way on is waited for too. An off request of a domain that is off ends DONE; else it ends FAILED with the first REASON of the checks, or its ports close. An ABORT that the slot's off request is not in progress for does nothing; before the commit point it ends the request ABORTED with the domain on, after it or while forced it sets ABORT_LATE. Power removed after the commit point makes the domain OFF with 0x0B01 and the slot's operation DONE, or its wake starts that was waited for; else the state stays. A woken domain that is ready opens, BD0's core with a device reset that DEV_RST_CAUSE.WAKE shows, only the cause while DRST_N is low, the PCIe controller with a hot reset; another leaves the state. The first key at stage 0 and the second at stage 1 advance the force sequence, any other key ends it, as 64 ncyc since the first do; a force or its lift ends it and acts only at stage 2: domain 127 is refused with REASON 1, a core that the others' state keeps on with 3, another is forced off with 0x0B04. -/
def Obligations.PowerCommandsComplete : Prop :=
  -- DSK_PWR_ON, DSK_PWR_OFF and DSK_PWR_ABORT: other requesters, and a BUSY slot
  (∀ (s : State) (d : Fin 128) (req : BitVec 16), (s.dskWriter req.toNat = false → exec (.dskPwrOn d req) s = .next (s.respond 0 2) ∧ exec (.dskPwrOff d req) s = .next (s.respond 0 2) ∧ exec (.dskPwrAbort req) s = .next (s.respond 0 2))
      ∧ (s.dskWriter req.toNat = true → s.getR Reg.DSK_PWR_STAT_STATE 0 = 1 → exec (.dskPwrOn d req) s = .next (s.respond 0 0) ∧ exec (.dskPwrOff d req) s = .next (s.respond 0 0))) ∧
  -- DSK_PWR_ON
  (∀ (s : State) (d : Fin 128) (req : BitVec 16), s.dskWriter req.toNat = true →
      s.getR Reg.DSK_PWR_STAT_STATE 0 ≠ 1 →
      (s.pstate d = 0 → ∃ t, exec (.dskPwrOn d req) s = .next t ∧ t.getR Reg.DSK_PWR_STAT_STATE 0 = 2 ∧ t.getR Reg.DSK_PWR_STAT_REASON 0 = 0 ∧ t.getR Reg.DSK_PWR_STAT_DOM 0 = d.val ∧ t.pstate d = 0 ∧ t.events = s.events)
      ∧ (s.pstate d = 2 → s.thermal = true → ∃ t, exec (.dskPwrOn d req) s = .next t ∧ t.getR Reg.DSK_PWR_STAT_STATE 0 = 4 ∧ t.getR Reg.DSK_PWR_STAT_REASON 0 = 5 ∧ t.pstate d = 2
      ∧ t.events = raiseIn s.events (evKey 0x2D34 0x0B03) s.time.toNat 2 (dskDetail d 5 % 2 ^ 128))
      ∧ (s.pstate d = 2 → s.thermal = false → s.forced d = true → ∃ t, exec (.dskPwrOn d req) s = .next t ∧ t.getR Reg.DSK_PWR_STAT_STATE 0 = 4 ∧ t.getR Reg.DSK_PWR_STAT_REASON 0 = 6 ∧ t.pstate d = 2)
      ∧ (s.pstate d = 2 → s.thermal = false → s.forced d = false → ∃ t, exec (.dskPwrOn d req) s = .next t ∧ t.getR Reg.DSK_PWR_STAT_STATE 0 = 1 ∧ t.getR Reg.DSK_PWR_STAT_DOM 0 = d.val
      ∧ t.pstate d = 3 ∧ t.resp = ⟨0, 0, false⟩ ∧ t.events = s.events ∧ t.mem = s.mem)
      ∧ (s.pstate d = 1 → s.thermal = false → s.forced d = false → ∃ t, exec (.dskPwrOn d req) s = .next t ∧ t.getR Reg.DSK_PWR_STAT_STATE 0 = 1 ∧ t.flag Reg.PW_WAKE d = true ∧ t.pstate d = 1)) ∧
  -- any DSK_PWR_ON and DSK_PWR_OFF that the slot takes
  (∀ (s : State) (d : Fin 128) (req : BitVec 16), s.dskWriter req.toNat = true →
      s.getR Reg.DSK_PWR_STAT_STATE 0 ≠ 1 →
      exec (.dskPwrOn d req) s = .next (((s.respond 0 0).setR Reg.DSK_PWR_CTL_DOM 0 d).pwOn d true none) ∧ exec (.dskPwrOff d req) s = .next (((s.respond 0 0).setR Reg.DSK_PWR_CTL_DOM 0 d).pwOff d true none)) ∧
  -- DSK_PWR_OFF
  (∀ (s u : State) (d : Fin 128) (req : BitVec 16), s.dskWriter req.toNat = true →
      s.getR Reg.DSK_PWR_STAT_STATE 0 ≠ 1 →
      u = ((s.respond 0 0).setR Reg.DSK_PWR_CTL_DOM 0 d).slotStart d 1 →
      (s.pstate d = 2 → ∃ t, exec (.dskPwrOff d req) s = .next t ∧ t.getR Reg.DSK_PWR_STAT_STATE 0 = 2 ∧ t.pstate d = 2 ∧ t.events = s.events)
      ∧ (s.pstate d ≠ 2 → s.offReason d ≠ 0 → ∃ t, exec (.dskPwrOff d req) s = .next t ∧ t.getR Reg.DSK_PWR_STAT_STATE 0 = 4 ∧ t.getR Reg.DSK_PWR_STAT_REASON 0 = s.offReason d
      ∧ t.pstate d = s.pstate d ∧ t.noc = s.noc ∧ t.thy = s.thy ∧ t.events = raiseIn s.events (evKey 0x2D34 0x0B03) s.time.toNat 2 (dskDetail d (s.offReason d) % 2 ^ 128))
      ∧ (s.pstate d ≠ 2 → s.offReason d = 0 → exec (.dskPwrOff d req) s = .next (u.pwClose d false))) ∧
  -- DSK_PWR_ABORT with no off request in progress
  (∀ (s : State) (req : BitVec 16), s.dskWriter req.toNat = true →
      s.slotOn (s.getR Reg.DSK_PWR_STAT_DOM 0) 1 = false →
      exec (.dskPwrAbort req) s = .next (s.respond 0 0)) ∧
  -- DSK_PWR_ABORT
  (∀ (s : State) (d : Nat) (req : BitVec 16), s.dskWriter req.toNat = true →
      s.getR Reg.DSK_PWR_STAT_DOM 0 = d →
      s.slotOn d 1 = true →
      (s.flag Reg.PW_COMMIT d = true ∨ s.forced d = true → exec (.dskPwrAbort req) s = .next ((s.respond 0 0).setR Reg.DSK_PWR_STAT_ABORT_LATE 0 1))
      ∧ (s.flag Reg.PW_COMMIT d = false → s.forced d = false → exec (.dskPwrAbort req) s = .next ((s.respond 0 0).pwAbort d))
      ∧ (s.pstate d = 1 → s.flag Reg.PW_COMMIT d = false → s.forced d = false → ∃ t, exec (.dskPwrAbort req) s = .next t ∧ t.getR Reg.DSK_PWR_STAT_STATE 0 = 3 ∧ t.pstate d = 0
      ∧ t.getR Reg.DSK_PWR_STAT_ABORT_LATE 0 = s.getR Reg.DSK_PWR_STAT_ABORT_LATE 0 ∧ t.events = s.events ∧ t.mem = s.mem ∧ t.noc = s.noc)) ∧
  -- any POWER_REMOVED
  (∀ (s : State) (d : Fin 128), (s.pstate d = 1 → s.flag Reg.PW_COMMIT d = true → exec (.powerRemoved d) s = .next ((((((s.dropDomain d).setR Reg.DSK_PSTATE d 2).setR Reg.PW_COMMIT d 0).slotEnd d 1 2).raise 0x2D34 0x0B01 0 (dskDetail d)).pwWaiting d))
      ∧ (s.pstate d ≠ 1 ∨ s.flag Reg.PW_COMMIT d = false → exec (.powerRemoved d) s = .next s)) ∧
  -- POWER_REMOVED
  (∀ (s : State) (d : Fin 128), s.pstate d = 1 ∧ s.flag Reg.PW_COMMIT d = true →
      (s.flag Reg.PW_WAKE d = false → ∃ t, exec (.powerRemoved d) s = .next t ∧ t.pstate d = 2 ∧ t.flag Reg.PW_COMMIT d = false
      ∧ (s.slotOn d 1 = true → t.getR Reg.DSK_PWR_STAT_STATE 0 = 2) ∧ t.events = raiseIn s.events (evKey 0x2D34 0x0B01) s.time.toNat 0 (dskDetail d % 2 ^ 128))
      ∧ (s.flag Reg.PW_WAKE d = true → s.thermal = false → s.forced d = false → ∃ t, exec (.powerRemoved d) s = .next t ∧ t.pstate d = 3)) ∧
  -- POWER_DOMAIN_OPEN
  (∀ (s : State) (d : Fin 128) (oscOk : Bool), s.wakeReady d = true →
      (d.val = 32 → exec (.powerDomainOpen d oscOk) s = .next ((((s.setR Reg.DSK_PSTATE 32 0).slotEnd 32 2 2).deviceResetBy Reg.DEV_RST_CAUSE_WAKE).raise 0x2D34 0x0B02 0 (dskDetail 32)))
      ∧ (d.val = 72 → exec (.powerDomainOpen d oscOk) s = .next (s.hotReset.wakeEnd 72 oscOk))
      ∧ (d.val ≠ 32 → d.val ≠ 72 → exec (.powerDomainOpen d oscOk) s = .next (s.wakeEnd d oscOk))) ∧
  -- POWER_DOMAIN_OPEN of a domain that is not ready
  (∀ (s : State) (d : Fin 128) (oscOk : Bool), s.wakeReady d = false →
      exec (.powerDomainOpen d oscOk) s = .next s) ∧
  -- the reset that a woken core is for, and its cause
  (∀ (s : State) (f : Field), (s.flag Reg.POR_HELD 0 = true → s.deviceResetBy f = s) ∧ (s.flag Reg.POR_HELD 0 = false → s.dbg.resetLow = true → s.deviceResetBy f = s.setR f 0 1)
      ∧ (s.flag Reg.POR_HELD 0 = false → s.dbg.resetLow = false → s.deviceResetBy f = (s.deviceReset false).setR f 0 1)) ∧
  -- a woken channel
  (∀ (s : State) (d : Fin 128), s.wakeReady d = true →
      36 ≤ d.val ∧ d.val < 52 ∧ s.flag Reg.PW_FPEND d = false →
      ∃ t, exec (.powerDomainOpen d true) s = .next t ∧ t.pstate d = 0 ∧ t.getR Reg.LPX_STAT_CSTATE (d.val - 36) = 2 ∧ (s.slotOn d 2 = true → t.getR Reg.DSK_PWR_STAT_STATE 0 = 2)) ∧
  -- DSK_FORCE_KEY and FORCE_KEY_TIMEOUT
  (∀ (s : State) (key req : BitVec 16), s.dskWriter req.toNat = true →
      (s.keyStage 1 = 0 → exec (.dskForceKey 0xF0CE req) s = .next ((((s.respond 0 0).setR Reg.KEY_STAGE 1 1).setR Reg.KEY_REQ 1 req.toNat).setR Reg.KEY_T 1 s.clockNow))
      ∧ (s.keyStage 1 = 1 → exec (.dskForceKey 0x0C5E req) s = .next ((s.respond 0 0).setR Reg.KEY_STAGE 1 2))
      ∧ (key ≠ 0xF0CE ∨ s.keyStage 1 ≠ 0 → key ≠ 0x0C5E ∨ s.keyStage 1 ≠ 1 → exec (.dskForceKey key req) s = .next ((s.respond 0 0).setR Reg.KEY_STAGE 1 0))
      ∧ exec .forceKeyTimeout s = .next (if 64 * 512 < s.keyAge 1 then s.setR Reg.KEY_STAGE 1 0 else s)) ∧
  -- DSK_FORCE_SET and DSK_FORCE_LIFT
  (∀ (s u : State) (d : Fin 128) (req : BitVec 16), s.dskWriter req.toNat = true →
      u = (s.respond 0 0).setR Reg.KEY_STAGE 1 0 →
      (s.keyStage 1 ≠ 2 → exec (.dskForceSet d req) s = .next u ∧ exec (.dskForceLift d req) s = .next u)
      ∧ (s.keyStage 1 = 2 → d.val = 127 → exec (.dskForceSet d req) s = .next (u.raise 0x2D34 0x0B03 2 (dskDetail 127 1)))
      ∧ (s.keyStage 1 = 2 → 32 ≤ d.val → d.val < 36 → s.coreMayGo (d.val - 32) = false → exec (.dskForceSet d req) s = .next (u.raise 0x2D34 0x0B03 2 (dskDetail d 3)))
      ∧ (s.keyStage 1 = 2 → d.val ≠ 127 → (32 ≤ d.val → d.val < 36 → s.coreMayGo (d.val - 32) = true) → exec (.dskForceSet d req) s = .next ((u.raise 0x2D34 0x0B04 2 (dskDetail d)).forceOff d 1))
      ∧ (s.keyStage 1 = 2 → exec (.dskForceLift d req) s = .next (u.forceLift d 1))
      ∧ (s.keyStage 1 = 2 → s.getR Reg.PW_FORCE d = 1 → ∃ t, exec (.dskForceLift d req) s = .next t ∧ t.forced d = false ∧ t.flag Reg.DSK_PSTATE_FORCED d = false ∧ t.pstate d = s.pstate d)) ∧
  -- other requesters of the force registers
  (∀ (s : State) (d : Fin 128) (key req : BitVec 16), s.dskWriter req.toNat = false →
      exec (.dskForceKey key req) s = .next (s.respond 0 2) ∧ exec (.dskForceSet d req) s = .next (s.respond 0 2) ∧ exec (.dskForceLift d req) s = .next (s.respond 0 2)
      ∧ exec (.thermStopClear req) s = .next (s.respond 0 2))

/-- A sampling pass takes the readings, and the oscillators follow the zones' temperatures; after a trip, all zones cool, the device resets. A first sample shows as it is; later ones pass a median of three where MED is set, once two are held, and a first-order filter of shift K. A die whose governing temperature reaches WARN and not CRIT sets its bit with 0x0B05. A trip cuts every domain's power at once, sets TRIP and ends the slot's operation FAILED, REASON 5. THERM_STOP_CLEAR of another requester is refused; THERM_STOP and CRIT clear once WARN is 0 and the zones lie below it, and the forces it made lift; else nothing. A unit's throttle level becomes what is requested of it, with 0x0B0A, where it differs; else the state stays. A conversion goes to the next enabled channel, and is 0 where its pin is not ANALOG; none leaves the state. The wake timer, enabled and at its time with no PLL lock lost, clears EN and requests its domain; else the state stays. Raw readings are operands. -/
def Obligations.ThermalCommandsComplete : Prop :=
  -- SENSOR_SAMPLE
  (∀ (s t : State) (x : List Int), t = (List.range 64).foldl (fun u i => u.roDrift i) (s.sensorPass x) →
      exec (.sensorSample x) s = .next (if t.tripCool then t.tripReset else t)) ∧
  -- one sensor's filter
  (∀ (s : State) (i : Nat) (x : Int), (s.getR Reg.SENS_N i = 0 → (s.sensorStep i x).getR Reg.DSK_SENS_VAL i = unsigned 16 x ∧ (s.sensorStep i x).getR Reg.DSK_SENS_HIST_MAX i = unsigned 16 x
      ∧ (s.sensorStep i x).getR Reg.DSK_SENS_HIST_MIN i = unsigned 16 x)
      ∧ (s.getR Reg.SENS_N i ≠ 0 → s.flag Reg.DSK_SENS_CFG_MED i = false → (s.sensorStep i x).getR Reg.DSK_SENS_VAL i = unsigned 16 (signed 16 (s.getR Reg.DSK_SENS_VAL i)
      + Int.fdiv (x - signed 16 (s.getR Reg.DSK_SENS_VAL i)) (2 ^ s.getR Reg.DSK_SENS_CFG_K i)))
      ∧ (2 ≤ s.getR Reg.SENS_N i → s.flag Reg.DSK_SENS_CFG_MED i = true → s.getR Reg.DSK_SENS_CFG_K i = 0 → (s.sensorStep i x).getR Reg.DSK_SENS_VAL i
      = unsigned 16 (median3 x (signed 16 (s.getR Reg.SENS_R1 i)) (signed 16 (s.getR Reg.SENS_R2 i))))
      ∧ Leaves [] [Reg.SENS_R1.key i, Reg.SENS_R2.key i, Reg.SENS_N.key i, Reg.DSK_SENS_VAL.key i, Reg.DSK_SENS_HIST_MAX.key i, Reg.DSK_SENS_HIST_MIN.key i] s (s.sensorStep i x)) ∧
  -- a die reaches WARN
  (∀ (s : State) (d : Nat), d < 12 ∧ nbit (s.getR Reg.DSK_ZSTAT_WARN 0) d = false →
      (16 * s.thrWarn : Nat) ≤ s.gov d ∧ s.gov d < (16 * s.thrCrit : Nat) →
      s.zone d ≤ 1600 →
      (s.thresholds d).getR Reg.DSK_ZSTAT_WARN 0 = Reg.DSK_ZSTAT_WARN.norm (setBit (s.getR Reg.DSK_ZSTAT_WARN 0) d)
      ∧ (s.thresholds d).events = raiseIn s.events (evKey 0x2D34 0x0B05) s.time.toNat 2 (dskDetail 0 0 d (s.getR Reg.DSK_ZTEMP_GOV d) % 2 ^ 128)
      ∧ Leaves [.events] [Reg.DSK_ZSTAT_WARN.key 0, Reg.THERM_RNG.key 0, Reg.DSK_ZSTAT_RANGE.key 0] s (s.thresholds d)) ∧
  -- THERMAL_TRIP
  (∀ (s : State), ∃ t, exec .thermalTrip s = .next t ∧ t.flag Reg.DSK_ZSTAT_TRIP 0 = true ∧ (∀ d < 127, t.pstate d = 2) ∧ t.flag Reg.ALERT 1 = true
      ∧ t.getR Reg.TRIP_T 0 = s.time.toNat ∧ (s.getR Reg.DSK_PWR_STAT_STATE 0 = 1 → t.getR Reg.DSK_PWR_STAT_STATE 0 = 4 ∧ t.getR Reg.DSK_PWR_STAT_REASON 0 = 5)) ∧
  -- THERM_STOP_CLEAR
  (∀ (s : State) (req : BitVec 16), s.dskWriter req.toNat = true →
      (s.flag Reg.DSK_ZSTAT_THERM_STOP 0 = false ∨ s.getR Reg.DSK_ZSTAT_WARN 0 ≠ 0 ∨ (∃ d, d < 12 ∧ (16 * s.thrWarn : Nat) ≤ s.zone d) → exec (.thermStopClear req) s = .next (s.respond 0 0))
      ∧ (s.flag Reg.DSK_ZSTAT_THERM_STOP 0 = true → s.getR Reg.DSK_ZSTAT_WARN 0 = 0 → (∀ d < 12, s.zone d < (16 * s.thrWarn : Nat)) → ∃ t, exec (.thermStopClear req) s = .next t
      ∧ t.flag Reg.DSK_ZSTAT_THERM_STOP 0 = false ∧ t.getR Reg.DSK_ZSTAT_CRIT 0 = 0 ∧ t.resp = ⟨0, 0, false⟩ ∧ t.events = s.events ∧ (∀ d, t.pstate d = s.pstate d)
      ∧ (∀ d ∈ stopDomains, s.getR Reg.PW_FORCE d = 2 → t.forced d = false))) ∧
  -- THROTTLE_APPLY
  (∀ (s : State) (d : Fin 128), throttleUnit d = true →
      s.getR Reg.DSK_THRL d ≠ s.thrWanted d →
      exec (.throttleApply d) s = .next ((s.setR Reg.DSK_THRL d (s.thrWanted d)).raise 0x2D34 0x0B0A 0 (dskDetail d 0 0 0 0 0 (s.thrWanted d)))) ∧
  -- THROTTLE_APPLY with nothing to change
  (∀ (s : State) (d : Fin 128), throttleUnit d = false ∨ s.getR Reg.DSK_THRL d = s.thrWanted d →
      exec (.throttleApply d) s = .next s) ∧
  -- ADC_CONVERSION
  (∀ (s : State) (code : BitVec 12) (j : Nat), (s.getR Reg.DSK_ADC_CFG_EN 0 = 0 → exec (.adcConversion code) s = .next s)
      ∧ (((List.range 16).map (fun i => (s.getR Reg.ADC_NEXT 0 + i) % 16)).find? (fun j => nbit (s.getR Reg.DSK_ADC_CFG_EN 0) j) = some j →
      exec (.adcConversion code) s = .next ((s.setR Reg.DSK_ADC_CODE j (s.adcCode j code.toNat)).setR Reg.ADC_NEXT 0 ((j + 1) % 16)))) ∧
  -- WAKE_TIMER_FIRE
  (∀ (s : State), s.flag Reg.DSK_WAKE_CTL_EN 0 = true →
      s.reached (s.getR Reg.DSK_WAKE_AT_AT 0) = true ∧ s.flag Reg.T_UNLOCK 0 = false →
      exec .wakeTimerFire s = .next ((s.setR Reg.DSK_WAKE_CTL_EN 0 0).pwOn (s.getR Reg.DSK_WAKE_CTL_DOM 0) false none)) ∧
  -- WAKE_TIMER_FIRE that is not due
  (∀ (s : State), s.flag Reg.DSK_WAKE_CTL_EN 0 = false ∨ s.reached (s.getR Reg.DSK_WAKE_AT_AT 0) = false ∨ s.flag Reg.T_UNLOCK 0 = true →
      exec .wakeTimerFire s = .next s)

/-- An error of a wire of an active group counts in its page and group; at THRESH under its window the wire is to go to the spare, or the group is exhausted and a fold is due. An uncorrectable cycle or a block error counts as the group's further count, and on a spine raises 0x0C05. An error of a group or wire that does not exist or is not active leaves the state. The spare takes the wire over at least 128 ncyc later with 0x0C01, a fold due commits in an even slot; else these two leave the state. A chosen, eligible unit is taken for an automatic test, another is not. A request for a unit that exists is BUSY until its unit is taken or an abort, one for none ends FAILED; GO of one BUSY sets FORCE alone; an abort once the unit is taken sets ABORT_LATE; other requesters are denied. The request's unit, BUSY, not taken and eligible, is taken; else TEST_START leaves the state. At the deadline of one not eligible and not taken, without FORCE or with its domain not on, it is deferred with RESULT 2; with FORCE a pair or group is taken offline where free, deferred with 3 where not, a bank of a unit is handed over unless in handover, another unit is deferred; else the state stays. A test's end counts it and its failure, and raises 0x0C10, or marks the unit faulty; the eye and failing rows go where R700 says; a bank that repair has first call on, or no test, leaves the state. A unit whose test a foreground access ended is released, another is not. What is in progress is the model's own state (notes/assumptions/5). -/
def Obligations.DieLinkAndMidnightCommandsComplete : Prop :=
  -- DLK_WIRE_ERROR
  (∀ (s : State) (bd p : Fin 4) (group wire page : Nat), page = bd.val * 8 + p.val →
      groupOk page group = true ∧ wireOk page wire = true →
      s.groupActive page group = true →
      ((s.wireCount page (wireKey page group wire)).1 < s.dlkThresh page → ∃ t, exec (.dlkWireError bd p group wire) s = .next t
      ∧ t.getR Reg.DLK_ERR_CE page = min (s.getR Reg.DLK_ERR_CE page + 1) 0xFFFF ∧ t.getR Reg.DLK_GRP_COUNT (grpIx page group) = min (s.getR Reg.DLK_GRP_COUNT (grpIx page group) + 1) 0xFFFF
      ∧ Leaves [.dlk] [Reg.DLK_ERR_CE.key page, Reg.DLK_GRP_COUNT.key (grpIx page group)] s t)
      ∧ (s.dlkThresh page ≤ (s.wireCount page (wireKey page group wire)).1 → exec (.dlkWireError bd p group wire) s
      = .next ((s.countError page group (wireKey page group wire) Reg.DLK_ERR_CE).wireFails page group wire))) ∧
  -- errors of a group or wire that does not exist or is not active
  (∀ (s : State) (bd p : Fin 4) (group wire page : Nat) (hit : List (Nat × Nat)), page = bd.val * 8 + p.val →
      groupOk page group = false ∨ s.groupActive page group = false →
      exec (.dlkWireError bd p group wire) s = .next s ∧ exec (.dlkUncorrectableCycle bd p group hit) s = .next s ∧ exec (.dlkBlockError bd p group) s = .next s) ∧
  -- DLK_WIRE_ERROR of a wire that does not exist
  (∀ (s : State) (bd p : Fin 4) (group wire : Nat), wireOk (bd.val * 8 + p.val) wire = false →
      exec (.dlkWireError bd p group wire) s = .next s) ∧
  -- a wire that fails
  (∀ (s : State) (page i wire : Nat), Map.find s.dlk.pend (grpIx page i) = none →
      (s.flag Reg.DLK_GRP_SPARED (grpIx page i) = false → Map.find (s.wireFails page i wire).dlk.pend (grpIx page i) = some (wire, s.ncyc) ∧ Leaves [.dlk] [] s (s.wireFails page i wire))
      ∧ (s.flag Reg.DLK_GRP_SPARED (grpIx page i) = true → s.flag Reg.DLK_GRP_EXHAUSTED (grpIx page i) = false → s.linkState (linkOf page i) = 0 → Map.find s.dlk.folds (linkNo (linkOf page i)) = none →
      (s.wireFails page i wire).flag Reg.DLK_GRP_EXHAUSTED (grpIx page i) = true
      ∧ (s.wireFails page i wire).events = raiseIn s.events (evKey (dlkSrc page) 0x0C02) s.time.toNat 2 (dlkDetail page i wire % 2 ^ 128)
      ∧ Map.find (s.wireFails page i wire).dlk.folds (linkNo (linkOf page i)) = some (i % 2, s.ncyc))) ∧
  -- DLK_UNCORRECTABLE_CYCLE and DLK_BLOCK_ERROR
  (∀ (s : State) (bd p : Fin 4) (group page : Nat) (hit : List (Nat × Nat)), page = bd.val * 8 + p.val →
      groupOk page group = true ∧ s.groupActive page group = true →
      (isSpine page group = false → exec (.dlkUncorrectableCycle bd p group hit) s = .next (s.furtherError page group) ∧ exec (.dlkBlockError bd p group) s = .next (s.furtherError page group))
      ∧ (isSpine page group = true → exec (.dlkBlockError bd p group) s = .next ((s.raise (dlkSrc page) 0x0C05 4 (dlkDetail page group)).furtherError page group))
      ∧ (isSpine page group = true → ∃ t, exec (.dlkUncorrectableCycle bd p group hit) s = .next (t.furtherError page group)
      ∧ t.events = raiseIn s.events (evKey (dlkSrc page) 0x0C05) s.time.toNat 4 (dlkDetail page group % 2 ^ 128) ∧ Leaves [.events, .ic] [] s t)
      ∧ ((s.wireCount page (wireKey page group 127)).1 < s.dlkThresh page → (s.furtherError page group).getR Reg.DLK_ERR_UE page = min (s.getR Reg.DLK_ERR_UE page + 1) 0xFFFF
      ∧ Leaves [.dlk] [Reg.DLK_ERR_UE.key page, Reg.DLK_GRP_COUNT.key (grpIx page group)] s (s.furtherError page group))) ∧
  -- DLK_SPARE_SWITCH
  (∀ (s : State) (bd p : Fin 4) (group page wire t : Nat), page = bd.val * 8 + p.val →
      Map.find s.dlk.pend (grpIx page group) = some (wire, t) ∧ t + 128 ≤ s.ncyc →
      groupOk page group = true ∧ s.groupActive page group = true ∧ wire < 64 →
      ∃ u, exec (.dlkSpareSwitch bd p group) s = .next u ∧ u.getR Reg.DLK_GRP_WIRE (grpIx page group) = wire ∧ u.flag Reg.DLK_GRP_SPARED (grpIx page group) = true
      ∧ u.getR Reg.DLK_STAT_SPARED page = min (s.getR Reg.DLK_STAT_SPARED page + 1) 0xFFFF
      ∧ u.events = raiseIn s.events (evKey (dlkSrc page) 0x0C01) s.time.toNat 1 (dlkDetail page group wire % 2 ^ 128)
      ∧ Leaves [.dlk, .events] [Reg.DLK_GRP_WIRE.key (grpIx page group), Reg.DLK_GRP_SPARED.key (grpIx page group), Reg.DLK_STAT_SPARED.key page] s u) ∧
  -- DLK_FOLD_COMMIT
  (∀ (s : State) (bd p : Fin 4) (group page q t : Nat), page = bd.val * 8 + p.val →
      Map.find s.dlk.folds (linkNo (linkOf page group)) = some (q, t) ∧ t ≤ s.ncyc →
      groupOk page group = true ∧ s.linkState (linkOf page group) = 0 ∧ s.ncyc % 2 = 0 →
      exec (.dlkFoldCommit bd p group) s = .next (s.linkFold (linkOf page group) (1 - q) page group)) ∧
  -- DLK_SPARE_SWITCH and DLK_FOLD_COMMIT that are not due
  (∀ (s : State) (bd p : Fin 4) (group page : Nat), page = bd.val * 8 + p.val →
      (groupOk page group = false → exec (.dlkSpareSwitch bd p group) s = .next s ∧ exec (.dlkFoldCommit bd p group) s = .next s)
      ∧ (Map.find s.dlk.pend (grpIx page group) = none ∨ s.groupActive page group = false → exec (.dlkSpareSwitch bd p group) s = .next s)
      ∧ (∀ w t, Map.find s.dlk.pend (grpIx page group) = some (w, t) → s.ncyc < t + 128 → exec (.dlkSpareSwitch bd p group) s = .next s)
      ∧ (Map.find s.dlk.folds (linkNo (linkOf page group)) = none ∨ s.linkState (linkOf page group) ≠ 0 ∨ s.ncyc % 2 ≠ 0 → exec (.dlkFoldCommit bd p group) s = .next s)
      ∧ (∀ q t, Map.find s.dlk.folds (linkNo (linkOf page group)) = some (q, t) → s.ncyc < t → exec (.dlkFoldCommit bd p group) s = .next s)) ∧
  -- MID_AUTO_TEST
  (∀ (s : State) (bd : Fin 4) (cls : Fin 6) (index : Nat), nbit (s.getR Reg.MID_AUTO_CLASSES bd) cls = true →
      s.midEligible bd cls index = true →
      exec (.midAutoTest bd cls index) s = .next (s.modMid (fun l => l ++ [⟨bd, cls, index, false, false⟩]))) ∧
  -- MID_AUTO_TEST of a unit not chosen or not eligible
  (∀ (s : State) (bd : Fin 4) (cls : Fin 6) (index : Nat), nbit (s.getR Reg.MID_AUTO_CLASSES bd) cls = false ∨ s.midEligible bd cls index = false →
      exec (.midAutoTest bd cls index) s = .next s) ∧
  -- MID_REQ_GO while a request is BUSY
  (∀ (s : State) (bd : Fin 4) (force : Bool) (req : BitVec 16), isMgmt req.toNat = true →
      s.getR Reg.MID_REQ_STAT_STATE bd = 1 →
      exec (.midReqGo bd force req) s = .next ((s.setR Reg.MID_REQ_CTL_FORCE bd (bit force)).respond 0 0)) ∧
  -- MID_REQ_GO
  (∀ (s : State) (bd : Fin 4) (force : Bool) (req : BitVec 16), isMgmt req.toNat = true →
      s.getR Reg.MID_REQ_STAT_STATE bd ≠ 1 →
      ∃ t, exec (.midReqGo bd force req) s = .next t ∧ t.getR Reg.MID_REQ_STAT_STATE bd = (if midUnit bd (s.getR Reg.MID_REQ_UNIT_CLASS bd) (s.getR Reg.MID_REQ_UNIT_INDEX bd) then 1 else 4)
      ∧ t.getR Reg.MID_REQ_STAT_RESULT bd = (if midUnit bd (s.getR Reg.MID_REQ_UNIT_CLASS bd) (s.getR Reg.MID_REQ_UNIT_INDEX bd) then 0 else 5)
      ∧ t.getR Reg.MID_REQ_STAT_ABORT_LATE bd = 0 ∧ t.flag Reg.MID_REQ_CTL_FORCE bd = force ∧ t.resp = ⟨0, 0, false⟩
      ∧ Leaves [.resp] [Reg.MID_REQ_STAT_STATE.key bd, Reg.MID_REQ_STAT_RESULT.key bd, Reg.MID_REQ_STAT_ABORT_LATE.key bd, Reg.MID_REQ_CTL_FORCE.key bd] s t) ∧
  -- MID_REQ_ABORT, and other requesters
  (∀ (s : State) (bd : Fin 4) (force : Bool) (req : BitVec 16), (isMgmt req.toNat = false → exec (.midReqAbort bd req) s = .next (s.respond 0 2) ∧ exec (.midReqGo bd force req) s = .next (s.respond 0 2))
      ∧ (isMgmt req.toNat = true → s.getR Reg.MID_REQ_STAT_STATE bd ≠ 1 → exec (.midReqAbort bd req) s = .next (s.respond 0 0))
      ∧ (isMgmt req.toNat = true → s.getR Reg.MID_REQ_STAT_STATE bd = 1 → s.midTaken bd = true → exec (.midReqAbort bd req) s = .next ((s.respond 0 0).setR Reg.MID_REQ_STAT_ABORT_LATE bd 1))
      ∧ (isMgmt req.toNat = true → s.getR Reg.MID_REQ_STAT_STATE bd = 1 → s.midTaken bd = false → exec (.midReqAbort bd req) s = .next ((s.respond 0 0).setR Reg.MID_REQ_STAT_STATE bd 3))) ∧
  -- MID_DEADLINE
  (∀ (s : State) (bd : Fin 4) (cls index : Nat), cls = s.getR Reg.MID_REQ_UNIT_CLASS bd ∧ index = s.getR Reg.MID_REQ_UNIT_INDEX bd →
      s.getR Reg.MID_REQ_STAT_STATE bd = 1 ∧ s.midTaken bd = false →
      s.midEligible bd cls index = false ∧ s.due (s.getR Reg.MID_REQ_DL_T bd) = true →
      (s.flag Reg.MID_REQ_CTL_FORCE bd = false → ∃ t, exec (.midDeadline bd) s = .next t ∧ t.getR Reg.MID_REQ_STAT_STATE bd = 4 ∧ t.getR Reg.MID_REQ_STAT_RESULT bd = 2
      ∧ t.events = raiseIn s.events (evKey (bdWinEp bd) 0x0C12) s.time.toNat 2 (midDetail cls index 2 % 2 ^ 128)
      ∧ Leaves [.events] [Reg.MID_REQ_STAT_STATE.key bd, Reg.MID_REQ_STAT_RESULT.key bd] s t)
      ∧ (s.flag Reg.MID_REQ_CTL_FORCE bd = false ∨ s.pstate (midDomain bd cls index) ≠ 0 → exec (.midDeadline bd) s = .next (s.midDefer bd 2))
      ∧ (s.flag Reg.MID_REQ_CTL_FORCE bd = true → s.pstate (midDomain bd cls index) = 0 → cls = 1 ∨ cls = 2 → s.midHolds bd cls index = true → exec (.midDeadline bd) s = .next s)
      ∧ (s.flag Reg.MID_REQ_CTL_FORCE bd = true → s.pstate (midDomain bd cls index) = 0 → cls = 1 ∨ cls = 2 → s.midHolds bd cls index = false → s.midFree bd cls index = true →
      exec (.midDeadline bd) s = .next ((s.midOffline cls (4 * bd + index)).modMid (fun l => l ++ [⟨bd, cls, index, true, false⟩])))
      ∧ (s.flag Reg.MID_REQ_CTL_FORCE bd = true → s.pstate (midDomain bd cls index) = 0 → cls = 1 ∨ cls = 2 → s.midHolds bd cls index = false → s.midFree bd cls index = false →
      exec (.midDeadline bd) s = .next (s.midDefer bd 3))
      ∧ (s.flag Reg.MID_REQ_CTL_FORCE bd = true → s.pstate (midDomain bd cls index) = 0 → cls = 3 → s.getR Reg.SPD_OWN_STATE (bd.val * 64 + index) ≠ 1 →
      epRouter (s.getR Reg.SPD_OWN_EP (bd.val * 64 + index)) < 96 → exec (.midDeadline bd) s = .next (((s.setR Reg.SPD_NEWEP (bd.val * 64 + index) 0xFFFC).setR Reg.SPD_OWN_STATE (bd.val * 64 + index) 1).setR
      Reg.SPD_OWN_ABORT_LATE (bd.val * 64 + index) 0))
      ∧ (s.flag Reg.MID_REQ_CTL_FORCE bd = true → s.pstate (midDomain bd cls index) = 0 → cls = 3 → s.getR Reg.SPD_OWN_STATE (bd.val * 64 + index) = 1 ∨
      96 ≤ epRouter (s.getR Reg.SPD_OWN_EP (bd.val * 64 + index)) → exec (.midDeadline bd) s = .next s)
      ∧ (s.flag Reg.MID_REQ_CTL_FORCE bd = true → s.pstate (midDomain bd cls index) = 0 → cls = 0 ∨ 4 ≤ cls → exec (.midDeadline bd) s = .next (s.midDefer bd 2))) ∧
  -- MID_DEADLINE and MID_TEST_START with nothing to do
  (∀ (s : State) (bd : Fin 4) (cls index : Nat), cls = s.getR Reg.MID_REQ_UNIT_CLASS bd ∧ index = s.getR Reg.MID_REQ_UNIT_INDEX bd →
      (s.getR Reg.MID_REQ_STAT_STATE bd ≠ 1 ∨ s.midTaken bd = true → exec (.midDeadline bd) s = .next s ∧ exec (.midTestStart bd) s = .next s)
      ∧ (s.midEligible bd cls index = true ∨ s.due (s.getR Reg.MID_REQ_DL_T bd) = false → exec (.midDeadline bd) s = .next s) ∧ (s.midEligible bd cls index = false → exec (.midTestStart bd) s = .next s)) ∧
  -- MID_TEST_START
  (∀ (s : State) (bd : Fin 4) (cls index : Nat), cls = s.getR Reg.MID_REQ_UNIT_CLASS bd ∧ index = s.getR Reg.MID_REQ_UNIT_INDEX bd →
      s.getR Reg.MID_REQ_STAT_STATE bd = 1 ∧ s.midTaken bd = false →
      s.midEligible bd cls index = true →
      exec (.midTestStart bd) s = .next (s.modMid (fun l => l ++ [⟨bd, cls, index, true, false⟩]))) ∧
  -- MID_TEST_END with no test of the unit in progress
  (∀ (s : State) (bd : Fin 4) (cls : Fin 6) (index : Nat) (fail : Bool) (detail : BitVec 32) (rows : List Nat) (height width : BitVec 8), s.mid.find? (fun t => ofUnit bd cls index t && !t.ended) = none →
      exec (.midTestEnd bd cls index fail detail rows height width) s = .next s) ∧
  -- any MID_TEST_END of a test in progress
  (∀ (s t : State) (bd : Fin 4) (cls : Fin 6) (index : Nat) (fail bad : Bool) (detail : BitVec 32) (rows : List Nat) (height width : BitVec 8) (x : MidTest) (a b : State), s.mid.find? (fun t => ofUnit bd cls index t && !t.ended) = some x →
      bad = (fail || (decide (cls.val = 3) && !rows.isEmpty)) →
      a = (s.modMid (fun l => l.filter (fun y => !ofUnit bd cls index y))).wrapAdd Reg.MID_CLASS_TESTED (bd * 6 + cls) 1 →
      b = (if bad then a.satAdd Reg.MID_CLASS_FAILS (bd * 6 + cls) 1 else a) →
      t = (if x.req then (b.midEnd bd 2 (bit bad)).setR Reg.MID_REQ_DETAIL_V bd detail.toNat else b) →
      cls.val ≠ 3 ∨ s.repairsFirst (unitNo 0 bd index) = false →
      ∃ u : State, u = (if bad then t else t.raise (bdWinEp bd) 0x0C10 0 (midDetail cls index 0))
      ∧ (cls.val = 3 → exec (.midTestEnd bd cls index fail detail rows height width) s
      = .next ((rows.foldl (fun v r => if r < unitWords (unitNo 0 bd index) / 16 then v.suspectRow (unitNo 0 bd index) r else v) u).invalidate (unitNo 0 bd index)))
      ∧ (cls.val = 5 → exec (.midTestEnd bd cls index fail detail rows height width) s = .next ((u.setR Reg.LNE_EYE_HEIGHT (40 * bd + index) height.toNat).setR Reg.LNE_EYE_WIDTH (40 * bd + index) width.toNat))
      ∧ (cls.val < 3 → bad = true → exec (.midTestEnd bd cls index fail detail rows height width) s = .next (u.midFault bd cls index))
      ∧ (cls.val = 4 ∨ (cls.val < 3 ∧ bad = false) → exec (.midTestEnd bd cls index fail detail rows height width) s = .next u)) ∧
  -- MID_TEST_END
  (∀ (s : State) (bd : Fin 4) (cls : Fin 6) (index : Nat) (fail : Bool) (detail : BitVec 32) (rows : List Nat) (height width : BitVec 8) (x : MidTest), s.mid.find? (fun t => ofUnit bd cls index t && !t.ended) = some x →
      (cls.val < 3 → fail = true → ∃ t, exec (.midTestEnd bd cls index fail detail rows height width) s = .next t ∧ t.midHolds bd cls index = false
      ∧ (x.req = true → t.getR Reg.MID_REQ_STAT_STATE bd = 2 ∧ t.getR Reg.MID_REQ_STAT_RESULT bd = 1 ∧ t.getR Reg.MID_REQ_DETAIL_V bd = detail.toNat)
      ∧ t.events = raiseIn s.events (evKey (bdWinEp bd) 0x0C11) s.time.toNat 4 (midDetail cls index 1 % 2 ^ 128) ∧ t.mem = s.mem)
      ∧ (cls.val = 0 ∨ cls.val = 1 ∨ cls.val = 2 ∨ cls.val = 4 → fail = false → ∃ t, exec (.midTestEnd bd cls index fail detail rows height width) s = .next t ∧ t.midHolds bd cls index = false
      ∧ (x.req = true → t.getR Reg.MID_REQ_STAT_STATE bd = 2 ∧ t.getR Reg.MID_REQ_STAT_RESULT bd = 0)
      ∧ t.events = raiseIn s.events (evKey (bdWinEp bd) 0x0C10) s.time.toNat 0 (midDetail cls index 0 % 2 ^ 128) ∧ t.mem = s.mem)
      ∧ (cls.val = 5 → ∃ t, exec (.midTestEnd bd cls index fail detail rows height width) s = .next t ∧ t.getR Reg.LNE_EYE_HEIGHT (40 * bd.val + index) = height.toNat
      ∧ t.getR Reg.LNE_EYE_WIDTH (40 * bd.val + index) = width.toNat ∧ t.mem = s.mem)
      ∧ (cls.val = 3 → s.repairsFirst (unitNo 0 bd index) = true → exec (.midTestEnd bd cls index fail detail rows height width) s = .next s)
      ∧ (cls.val = 3 → s.repairsFirst (unitNo 0 bd index) = false → rows = [] → ∃ t : State, exec (.midTestEnd bd cls index fail detail rows height width) s = .next (t.invalidate (unitNo 0 bd index)) ∧ t.mem = s.mem)) ∧
  -- MID_UNIT_RELEASED
  (∀ (s : State) (bd : Fin 4) (cls : Fin 6) (index : Nat) (u : State), s.mid.any (fun t => ofUnit bd cls index t && t.ended) = true →
      u = s.modMid (fun l => l.filter (fun y => !ofUnit bd cls index y)) →
      (cls.val = 3 → exec (.midUnitReleased bd cls index) s = .next (u.invalidate (unitNo 0 bd index))) ∧ (cls.val ≠ 3 → exec (.midUnitReleased bd cls index) s = .next u)) ∧
  -- MID_UNIT_RELEASED of a unit that no ended test holds
  (∀ (s : State) (bd : Fin 4) (cls : Fin 6) (index : Nat), s.mid.any (fun t => ofUnit bd cls index t && t.ended) = false →
      exec (.midUnitReleased bd cls index) s = .next s)
end

