-- ==== Sys2Proof/Laws/Map.lean ====
section
/-!
SUPPORT. The laws of the sparse table: read after write, and that every write keeps the canonical form.
-/

namespace Sys2Proof

variable {α : Type}

theorem Map.find_erase_self (m : Map α) (k : Nat) : Map.find (Map.erase m k) k = none := by
  induction m with
  | nil => rfl
  | cons e m ih =>
    obtain ⟨j, v⟩ := e
    by_cases h : k = j <;> simp [Map.erase, Map.find, h, ih]
    subst h; exact ih

theorem Map.find_erase_ne (m : Map α) {j k : Nat} (h : j ≠ k) : Map.find (Map.erase m k) j = Map.find m j := by
  induction m with
  | nil => rfl
  | cons e m ih =>
    obtain ⟨i, v⟩ := e
    by_cases hk : k = i
    · subst hk; simp [Map.erase, Map.find, ih, h]
    · simp [Map.erase, Map.find, hk, ih]

theorem Map.find_put_self (m : Map α) (k : Nat) (v : α) : Map.find (Map.put m k v) k = some v := by
  induction m with
  | nil => simp [Map.put, Map.find]
  | cons e m ih =>
    obtain ⟨i, w⟩ := e
    by_cases h1 : k = i
    · subst h1; simp [Map.put, Map.find]
    · by_cases h2 : k < i <;> simp [Map.put, Map.find, h1, h2, ih]

theorem Map.find_put_ne (m : Map α) {j k : Nat} (v : α) (h : j ≠ k) : Map.find (Map.put m k v) j = Map.find m j := by
  induction m with
  | nil => simp [Map.put, Map.find, h]
  | cons e m ih =>
    obtain ⟨i, w⟩ := e
    by_cases h1 : k = i
    · subst h1; simp [Map.put, Map.find, h]
    · by_cases h2 : k < i <;> simp [Map.put, Map.find, h1, h2, ih, h]

/-- A read after a write to the same key gives the value written. -/
@[simp] theorem Map.get_set_self [DecidableEq α] (d : α) (m : Map α) (k : Nat) (v : α) :
    Map.get d (Map.set d m k v) k = v := by
  unfold Map.get Map.set
  by_cases h : v = d <;> simp [h, Map.find_erase_self, Map.find_put_self]

/-- A write leaves every other key alone, whatever default it is read with. -/
theorem Map.get_set_ne [DecidableEq α] (c d : α) (m : Map α) {j k : Nat} (v : α) (h : j ≠ k) :
    Map.get c (Map.set d m k v) j = Map.get c m j := by
  unfold Map.get Map.set
  by_cases h' : v = d <;> simp [h', Map.find_erase_ne m h, Map.find_put_ne m v h]

theorem Map.sortedFrom_weaken (m : Map α) {a b : Nat} (h : Map.sortedFrom b m = true) (hab : a ≤ b) :
    Map.sortedFrom a m = true := by
  cases m with
  | nil => rfl
  | cons e m =>
    obtain ⟨k, v⟩ := e
    simp only [Map.sortedFrom, Bool.and_eq_true, decide_eq_true_eq] at h ⊢
    exact ⟨by omega, h.2⟩

theorem Map.sortedFrom_erase (m : Map α) (k a : Nat) (h : Map.sortedFrom a m = true) :
    Map.sortedFrom a (Map.erase m k) = true := by
  induction m generalizing a with
  | nil => rfl
  | cons e m ih =>
    obtain ⟨i, v⟩ := e
    simp only [Map.sortedFrom, Bool.and_eq_true, decide_eq_true_eq] at h
    by_cases hk : k = i
    · simp only [Map.erase, hk, if_true]
      subst hk
      exact ih a (Map.sortedFrom_weaken m h.2 (by omega))
    · simp only [Map.erase, hk, if_false, Map.sortedFrom, Bool.and_eq_true, decide_eq_true_eq]
      exact ⟨h.1, ih _ h.2⟩

theorem Map.sortedFrom_put (m : Map α) (k : Nat) (v : α) (a : Nat) (h : Map.sortedFrom a m = true) (hk : a ≤ k) :
    Map.sortedFrom a (Map.put m k v) = true := by
  induction m generalizing a with
  | nil => simp [Map.put, Map.sortedFrom, hk]
  | cons e m ih =>
    obtain ⟨i, w⟩ := e
    simp only [Map.sortedFrom, Bool.and_eq_true, decide_eq_true_eq] at h
    by_cases h1 : k = i
    · simp [Map.put, h1, Map.sortedFrom, h.1, h.2]
    · by_cases h2 : k < i
      · simp only [Map.put, h1, if_false, h2, if_true, Map.sortedFrom, Bool.and_eq_true, decide_eq_true_eq]
        exact ⟨hk, by omega, h.2⟩
      · simp only [Map.put, h1, if_false, h2, Map.sortedFrom, Bool.and_eq_true, decide_eq_true_eq]
        exact ⟨h.1, ih _ h.2 (by omega)⟩

theorem Map.all_erase (p : Nat × α → Bool) (m : Map α) (k : Nat) (h : m.all p = true) : (Map.erase m k).all p = true := by
  induction m with
  | nil => rfl
  | cons e m ih =>
    obtain ⟨i, v⟩ := e
    simp only [List.all_cons, Bool.and_eq_true] at h
    by_cases hk : k = i
    · simp [Map.erase, hk]; subst hk; simpa using ih h.2
    · simp [Map.erase, hk, h.1]; simpa using ih h.2

theorem Map.all_put (p : Nat × α → Bool) (m : Map α) (k : Nat) (v : α) (h : m.all p = true) (hp : p (k, v) = true) :
    (Map.put m k v).all p = true := by
  induction m with
  | nil => simp [Map.put, hp]
  | cons e m ih =>
    obtain ⟨i, w⟩ := e
    simp only [List.all_cons, Bool.and_eq_true] at h
    by_cases h1 : k = i
    · subst h1; simp only [Map.put, if_true, List.all_cons, hp, h.2, Bool.and_self]
    · by_cases h2 : k < i
      · simp only [Map.put, h1, if_false, h2, if_true, List.all_cons, hp, h.1, h.2, Bool.and_self]
      · simp only [Map.put, h1, if_false, h2, List.all_cons, h.1, ih h.2, Bool.and_self]

/-- Every write keeps the canonical form. -/
theorem Map.wf_set [DecidableEq α] (d : α) (m : Map α) (k : Nat) (v : α) (h : Map.wf d m = true) :
    Map.wf d (Map.set d m k v) = true := by
  simp only [Map.wf, Bool.and_eq_true] at h ⊢
  unfold Map.set
  by_cases hv : v = d
  · simp only [hv, if_true]
    exact ⟨Map.sortedFrom_erase m k 0 h.1, Map.all_erase _ m k h.2⟩
  · simp only [hv, if_false]
    exact ⟨Map.sortedFrom_put m k v 0 h.1 (Nat.zero_le _), Map.all_put _ m k v h.2 (by simp [hv])⟩

theorem Map.sorted_set [DecidableEq α] (d : α) (m : Map α) (k : Nat) (v : α) (h : Map.sortedFrom 0 m = true) :
    Map.sortedFrom 0 (Map.set d m k v) = true := by
  unfold Map.set
  by_cases hv : v = d
  · simp only [hv, if_true]; exact Map.sortedFrom_erase m k 0 h
  · simp only [hv, if_false]; exact Map.sortedFrom_put m k v 0 h (Nat.zero_le _)

end Sys2Proof
end

