-- ==== Sys2Proof/Laws/State.lean ====
section
/-!
SUPPORT. What each update of the state leaves of each of its parts: one lemma per part per update, true by rfl.
-/

namespace Sys2Proof.Machine

variable (s : State)

@[simp] theorem State.modPending_pending (f : List Instr → List Instr) : (s.modPending f).pending = f s.pending := rfl
@[simp] theorem State.modPending_time (f : List Instr → List Instr) : (s.modPending f).time = s.time := rfl
@[simp] theorem State.modPending_frac (f : List Instr → List Instr) : (s.modPending f).frac = s.frac := rfl
@[simp] theorem State.modPending_free (f : List Instr → List Instr) : (s.modPending f).free = s.free := rfl
@[simp] theorem State.modPending_regs (f : List Instr → List Instr) : (s.modPending f).regs = s.regs := rfl
@[simp] theorem State.modPending_resp (f : List Instr → List Instr) : (s.modPending f).resp = s.resp := rfl
@[simp] theorem State.modPending_events (f : List Instr → List Instr) : (s.modPending f).events = s.events := rfl
@[simp] theorem State.modPending_tb (f : List Instr → List Instr) : (s.modPending f).tb = s.tb := rfl
@[simp] theorem State.modPending_fab (f : List Instr → List Instr) : (s.modPending f).fab = s.fab := rfl
@[simp] theorem State.modPending_ic (f : List Instr → List Instr) : (s.modPending f).ic = s.ic := rfl
@[simp] theorem State.modPending_noc (f : List Instr → List Instr) : (s.modPending f).noc = s.noc := rfl
@[simp] theorem State.modPending_thy (f : List Instr → List Instr) : (s.modPending f).thy = s.thy := rfl
@[simp] theorem State.modPending_mem (f : List Instr → List Instr) : (s.modPending f).mem = s.mem := rfl
@[simp] theorem State.modPending_chip (f : List Instr → List Instr) : (s.modPending f).chip = s.chip := rfl
@[simp] theorem State.modPending_lpx (f : List Instr → List Instr) : (s.modPending f).lpx = s.lpx := rfl
@[simp] theorem State.modPending_lanes (f : List Instr → List Instr) : (s.modPending f).lanes = s.lanes := rfl
@[simp] theorem State.modPending_tio (f : List Instr → List Instr) : (s.modPending f).tio = s.tio := rfl
@[simp] theorem State.modPending_pge (f : List Instr → List Instr) : (s.modPending f).pge = s.pge := rfl
@[simp] theorem State.modPending_fce (f : List Instr → List Instr) : (s.modPending f).fce = s.fce := rfl
@[simp] theorem State.modPending_dlk (f : List Instr → List Instr) : (s.modPending f).dlk = s.dlk := rfl
@[simp] theorem State.modPending_mid (f : List Instr → List Instr) : (s.modPending f).mid = s.mid := rfl
@[simp] theorem State.modPending_msp (f : List Instr → List Instr) : (s.modPending f).msp = s.msp := rfl
@[simp] theorem State.modPending_sage (f : List Instr → List Instr) : (s.modPending f).sage = s.sage := rfl
@[simp] theorem State.modPending_dawn (f : List Instr → List Instr) : (s.modPending f).dawn = s.dawn := rfl
@[simp] theorem State.modPending_pcie (f : List Instr → List Instr) : (s.modPending f).pcie = s.pcie := rfl
@[simp] theorem State.modPending_dbg (f : List Instr → List Instr) : (s.modPending f).dbg = s.dbg := rfl

@[simp] theorem State.modTime_pending (f : BitVec 64 → BitVec 64) : (s.modTime f).pending = s.pending := rfl
@[simp] theorem State.modTime_time (f : BitVec 64 → BitVec 64) : (s.modTime f).time = f s.time := rfl
@[simp] theorem State.modTime_frac (f : BitVec 64 → BitVec 64) : (s.modTime f).frac = s.frac := rfl
@[simp] theorem State.modTime_free (f : BitVec 64 → BitVec 64) : (s.modTime f).free = s.free := rfl
@[simp] theorem State.modTime_regs (f : BitVec 64 → BitVec 64) : (s.modTime f).regs = s.regs := rfl
@[simp] theorem State.modTime_resp (f : BitVec 64 → BitVec 64) : (s.modTime f).resp = s.resp := rfl
@[simp] theorem State.modTime_events (f : BitVec 64 → BitVec 64) : (s.modTime f).events = s.events := rfl
@[simp] theorem State.modTime_tb (f : BitVec 64 → BitVec 64) : (s.modTime f).tb = s.tb := rfl
@[simp] theorem State.modTime_fab (f : BitVec 64 → BitVec 64) : (s.modTime f).fab = s.fab := rfl
@[simp] theorem State.modTime_ic (f : BitVec 64 → BitVec 64) : (s.modTime f).ic = s.ic := rfl
@[simp] theorem State.modTime_noc (f : BitVec 64 → BitVec 64) : (s.modTime f).noc = s.noc := rfl
@[simp] theorem State.modTime_thy (f : BitVec 64 → BitVec 64) : (s.modTime f).thy = s.thy := rfl
@[simp] theorem State.modTime_mem (f : BitVec 64 → BitVec 64) : (s.modTime f).mem = s.mem := rfl
@[simp] theorem State.modTime_chip (f : BitVec 64 → BitVec 64) : (s.modTime f).chip = s.chip := rfl
@[simp] theorem State.modTime_lpx (f : BitVec 64 → BitVec 64) : (s.modTime f).lpx = s.lpx := rfl
@[simp] theorem State.modTime_lanes (f : BitVec 64 → BitVec 64) : (s.modTime f).lanes = s.lanes := rfl
@[simp] theorem State.modTime_tio (f : BitVec 64 → BitVec 64) : (s.modTime f).tio = s.tio := rfl
@[simp] theorem State.modTime_pge (f : BitVec 64 → BitVec 64) : (s.modTime f).pge = s.pge := rfl
@[simp] theorem State.modTime_fce (f : BitVec 64 → BitVec 64) : (s.modTime f).fce = s.fce := rfl
@[simp] theorem State.modTime_dlk (f : BitVec 64 → BitVec 64) : (s.modTime f).dlk = s.dlk := rfl
@[simp] theorem State.modTime_mid (f : BitVec 64 → BitVec 64) : (s.modTime f).mid = s.mid := rfl
@[simp] theorem State.modTime_msp (f : BitVec 64 → BitVec 64) : (s.modTime f).msp = s.msp := rfl
@[simp] theorem State.modTime_sage (f : BitVec 64 → BitVec 64) : (s.modTime f).sage = s.sage := rfl
@[simp] theorem State.modTime_dawn (f : BitVec 64 → BitVec 64) : (s.modTime f).dawn = s.dawn := rfl
@[simp] theorem State.modTime_pcie (f : BitVec 64 → BitVec 64) : (s.modTime f).pcie = s.pcie := rfl
@[simp] theorem State.modTime_dbg (f : BitVec 64 → BitVec 64) : (s.modTime f).dbg = s.dbg := rfl

@[simp] theorem State.modFrac_pending (f : BitVec 32 → BitVec 32) : (s.modFrac f).pending = s.pending := rfl
@[simp] theorem State.modFrac_time (f : BitVec 32 → BitVec 32) : (s.modFrac f).time = s.time := rfl
@[simp] theorem State.modFrac_frac (f : BitVec 32 → BitVec 32) : (s.modFrac f).frac = f s.frac := rfl
@[simp] theorem State.modFrac_free (f : BitVec 32 → BitVec 32) : (s.modFrac f).free = s.free := rfl
@[simp] theorem State.modFrac_regs (f : BitVec 32 → BitVec 32) : (s.modFrac f).regs = s.regs := rfl
@[simp] theorem State.modFrac_resp (f : BitVec 32 → BitVec 32) : (s.modFrac f).resp = s.resp := rfl
@[simp] theorem State.modFrac_events (f : BitVec 32 → BitVec 32) : (s.modFrac f).events = s.events := rfl
@[simp] theorem State.modFrac_tb (f : BitVec 32 → BitVec 32) : (s.modFrac f).tb = s.tb := rfl
@[simp] theorem State.modFrac_fab (f : BitVec 32 → BitVec 32) : (s.modFrac f).fab = s.fab := rfl
@[simp] theorem State.modFrac_ic (f : BitVec 32 → BitVec 32) : (s.modFrac f).ic = s.ic := rfl
@[simp] theorem State.modFrac_noc (f : BitVec 32 → BitVec 32) : (s.modFrac f).noc = s.noc := rfl
@[simp] theorem State.modFrac_thy (f : BitVec 32 → BitVec 32) : (s.modFrac f).thy = s.thy := rfl
@[simp] theorem State.modFrac_mem (f : BitVec 32 → BitVec 32) : (s.modFrac f).mem = s.mem := rfl
@[simp] theorem State.modFrac_chip (f : BitVec 32 → BitVec 32) : (s.modFrac f).chip = s.chip := rfl
@[simp] theorem State.modFrac_lpx (f : BitVec 32 → BitVec 32) : (s.modFrac f).lpx = s.lpx := rfl
@[simp] theorem State.modFrac_lanes (f : BitVec 32 → BitVec 32) : (s.modFrac f).lanes = s.lanes := rfl
@[simp] theorem State.modFrac_tio (f : BitVec 32 → BitVec 32) : (s.modFrac f).tio = s.tio := rfl
@[simp] theorem State.modFrac_pge (f : BitVec 32 → BitVec 32) : (s.modFrac f).pge = s.pge := rfl
@[simp] theorem State.modFrac_fce (f : BitVec 32 → BitVec 32) : (s.modFrac f).fce = s.fce := rfl
@[simp] theorem State.modFrac_dlk (f : BitVec 32 → BitVec 32) : (s.modFrac f).dlk = s.dlk := rfl
@[simp] theorem State.modFrac_mid (f : BitVec 32 → BitVec 32) : (s.modFrac f).mid = s.mid := rfl
@[simp] theorem State.modFrac_msp (f : BitVec 32 → BitVec 32) : (s.modFrac f).msp = s.msp := rfl
@[simp] theorem State.modFrac_sage (f : BitVec 32 → BitVec 32) : (s.modFrac f).sage = s.sage := rfl
@[simp] theorem State.modFrac_dawn (f : BitVec 32 → BitVec 32) : (s.modFrac f).dawn = s.dawn := rfl
@[simp] theorem State.modFrac_pcie (f : BitVec 32 → BitVec 32) : (s.modFrac f).pcie = s.pcie := rfl
@[simp] theorem State.modFrac_dbg (f : BitVec 32 → BitVec 32) : (s.modFrac f).dbg = s.dbg := rfl

@[simp] theorem State.modFree_pending (f : Nat → Nat) : (s.modFree f).pending = s.pending := rfl
@[simp] theorem State.modFree_time (f : Nat → Nat) : (s.modFree f).time = s.time := rfl
@[simp] theorem State.modFree_frac (f : Nat → Nat) : (s.modFree f).frac = s.frac := rfl
@[simp] theorem State.modFree_free (f : Nat → Nat) : (s.modFree f).free = f s.free := rfl
@[simp] theorem State.modFree_regs (f : Nat → Nat) : (s.modFree f).regs = s.regs := rfl
@[simp] theorem State.modFree_resp (f : Nat → Nat) : (s.modFree f).resp = s.resp := rfl
@[simp] theorem State.modFree_events (f : Nat → Nat) : (s.modFree f).events = s.events := rfl
@[simp] theorem State.modFree_tb (f : Nat → Nat) : (s.modFree f).tb = s.tb := rfl
@[simp] theorem State.modFree_fab (f : Nat → Nat) : (s.modFree f).fab = s.fab := rfl
@[simp] theorem State.modFree_ic (f : Nat → Nat) : (s.modFree f).ic = s.ic := rfl
@[simp] theorem State.modFree_noc (f : Nat → Nat) : (s.modFree f).noc = s.noc := rfl
@[simp] theorem State.modFree_thy (f : Nat → Nat) : (s.modFree f).thy = s.thy := rfl
@[simp] theorem State.modFree_mem (f : Nat → Nat) : (s.modFree f).mem = s.mem := rfl
@[simp] theorem State.modFree_chip (f : Nat → Nat) : (s.modFree f).chip = s.chip := rfl
@[simp] theorem State.modFree_lpx (f : Nat → Nat) : (s.modFree f).lpx = s.lpx := rfl
@[simp] theorem State.modFree_lanes (f : Nat → Nat) : (s.modFree f).lanes = s.lanes := rfl
@[simp] theorem State.modFree_tio (f : Nat → Nat) : (s.modFree f).tio = s.tio := rfl
@[simp] theorem State.modFree_pge (f : Nat → Nat) : (s.modFree f).pge = s.pge := rfl
@[simp] theorem State.modFree_fce (f : Nat → Nat) : (s.modFree f).fce = s.fce := rfl
@[simp] theorem State.modFree_dlk (f : Nat → Nat) : (s.modFree f).dlk = s.dlk := rfl
@[simp] theorem State.modFree_mid (f : Nat → Nat) : (s.modFree f).mid = s.mid := rfl
@[simp] theorem State.modFree_msp (f : Nat → Nat) : (s.modFree f).msp = s.msp := rfl
@[simp] theorem State.modFree_sage (f : Nat → Nat) : (s.modFree f).sage = s.sage := rfl
@[simp] theorem State.modFree_dawn (f : Nat → Nat) : (s.modFree f).dawn = s.dawn := rfl
@[simp] theorem State.modFree_pcie (f : Nat → Nat) : (s.modFree f).pcie = s.pcie := rfl
@[simp] theorem State.modFree_dbg (f : Nat → Nat) : (s.modFree f).dbg = s.dbg := rfl

@[simp] theorem State.modRegs_pending (f : Map Nat → Map Nat) : (s.modRegs f).pending = s.pending := rfl
@[simp] theorem State.modRegs_time (f : Map Nat → Map Nat) : (s.modRegs f).time = s.time := rfl
@[simp] theorem State.modRegs_frac (f : Map Nat → Map Nat) : (s.modRegs f).frac = s.frac := rfl
@[simp] theorem State.modRegs_free (f : Map Nat → Map Nat) : (s.modRegs f).free = s.free := rfl
@[simp] theorem State.modRegs_regs (f : Map Nat → Map Nat) : (s.modRegs f).regs = f s.regs := rfl
@[simp] theorem State.modRegs_resp (f : Map Nat → Map Nat) : (s.modRegs f).resp = s.resp := rfl
@[simp] theorem State.modRegs_events (f : Map Nat → Map Nat) : (s.modRegs f).events = s.events := rfl
@[simp] theorem State.modRegs_tb (f : Map Nat → Map Nat) : (s.modRegs f).tb = s.tb := rfl
@[simp] theorem State.modRegs_fab (f : Map Nat → Map Nat) : (s.modRegs f).fab = s.fab := rfl
@[simp] theorem State.modRegs_ic (f : Map Nat → Map Nat) : (s.modRegs f).ic = s.ic := rfl
@[simp] theorem State.modRegs_noc (f : Map Nat → Map Nat) : (s.modRegs f).noc = s.noc := rfl
@[simp] theorem State.modRegs_thy (f : Map Nat → Map Nat) : (s.modRegs f).thy = s.thy := rfl
@[simp] theorem State.modRegs_mem (f : Map Nat → Map Nat) : (s.modRegs f).mem = s.mem := rfl
@[simp] theorem State.modRegs_chip (f : Map Nat → Map Nat) : (s.modRegs f).chip = s.chip := rfl
@[simp] theorem State.modRegs_lpx (f : Map Nat → Map Nat) : (s.modRegs f).lpx = s.lpx := rfl
@[simp] theorem State.modRegs_lanes (f : Map Nat → Map Nat) : (s.modRegs f).lanes = s.lanes := rfl
@[simp] theorem State.modRegs_tio (f : Map Nat → Map Nat) : (s.modRegs f).tio = s.tio := rfl
@[simp] theorem State.modRegs_pge (f : Map Nat → Map Nat) : (s.modRegs f).pge = s.pge := rfl
@[simp] theorem State.modRegs_fce (f : Map Nat → Map Nat) : (s.modRegs f).fce = s.fce := rfl
@[simp] theorem State.modRegs_dlk (f : Map Nat → Map Nat) : (s.modRegs f).dlk = s.dlk := rfl
@[simp] theorem State.modRegs_mid (f : Map Nat → Map Nat) : (s.modRegs f).mid = s.mid := rfl
@[simp] theorem State.modRegs_msp (f : Map Nat → Map Nat) : (s.modRegs f).msp = s.msp := rfl
@[simp] theorem State.modRegs_sage (f : Map Nat → Map Nat) : (s.modRegs f).sage = s.sage := rfl
@[simp] theorem State.modRegs_dawn (f : Map Nat → Map Nat) : (s.modRegs f).dawn = s.dawn := rfl
@[simp] theorem State.modRegs_pcie (f : Map Nat → Map Nat) : (s.modRegs f).pcie = s.pcie := rfl
@[simp] theorem State.modRegs_dbg (f : Map Nat → Map Nat) : (s.modRegs f).dbg = s.dbg := rfl

@[simp] theorem State.modResp_pending (f : Resp → Resp) : (s.modResp f).pending = s.pending := rfl
@[simp] theorem State.modResp_time (f : Resp → Resp) : (s.modResp f).time = s.time := rfl
@[simp] theorem State.modResp_frac (f : Resp → Resp) : (s.modResp f).frac = s.frac := rfl
@[simp] theorem State.modResp_free (f : Resp → Resp) : (s.modResp f).free = s.free := rfl
@[simp] theorem State.modResp_regs (f : Resp → Resp) : (s.modResp f).regs = s.regs := rfl
@[simp] theorem State.modResp_resp (f : Resp → Resp) : (s.modResp f).resp = f s.resp := rfl
@[simp] theorem State.modResp_events (f : Resp → Resp) : (s.modResp f).events = s.events := rfl
@[simp] theorem State.modResp_tb (f : Resp → Resp) : (s.modResp f).tb = s.tb := rfl
@[simp] theorem State.modResp_fab (f : Resp → Resp) : (s.modResp f).fab = s.fab := rfl
@[simp] theorem State.modResp_ic (f : Resp → Resp) : (s.modResp f).ic = s.ic := rfl
@[simp] theorem State.modResp_noc (f : Resp → Resp) : (s.modResp f).noc = s.noc := rfl
@[simp] theorem State.modResp_thy (f : Resp → Resp) : (s.modResp f).thy = s.thy := rfl
@[simp] theorem State.modResp_mem (f : Resp → Resp) : (s.modResp f).mem = s.mem := rfl
@[simp] theorem State.modResp_chip (f : Resp → Resp) : (s.modResp f).chip = s.chip := rfl
@[simp] theorem State.modResp_lpx (f : Resp → Resp) : (s.modResp f).lpx = s.lpx := rfl
@[simp] theorem State.modResp_lanes (f : Resp → Resp) : (s.modResp f).lanes = s.lanes := rfl
@[simp] theorem State.modResp_tio (f : Resp → Resp) : (s.modResp f).tio = s.tio := rfl
@[simp] theorem State.modResp_pge (f : Resp → Resp) : (s.modResp f).pge = s.pge := rfl
@[simp] theorem State.modResp_fce (f : Resp → Resp) : (s.modResp f).fce = s.fce := rfl
@[simp] theorem State.modResp_dlk (f : Resp → Resp) : (s.modResp f).dlk = s.dlk := rfl
@[simp] theorem State.modResp_mid (f : Resp → Resp) : (s.modResp f).mid = s.mid := rfl
@[simp] theorem State.modResp_msp (f : Resp → Resp) : (s.modResp f).msp = s.msp := rfl
@[simp] theorem State.modResp_sage (f : Resp → Resp) : (s.modResp f).sage = s.sage := rfl
@[simp] theorem State.modResp_dawn (f : Resp → Resp) : (s.modResp f).dawn = s.dawn := rfl
@[simp] theorem State.modResp_pcie (f : Resp → Resp) : (s.modResp f).pcie = s.pcie := rfl
@[simp] theorem State.modResp_dbg (f : Resp → Resp) : (s.modResp f).dbg = s.dbg := rfl

@[simp] theorem State.modEvents_pending (f : Map EventRec → Map EventRec) : (s.modEvents f).pending = s.pending := rfl
@[simp] theorem State.modEvents_time (f : Map EventRec → Map EventRec) : (s.modEvents f).time = s.time := rfl
@[simp] theorem State.modEvents_frac (f : Map EventRec → Map EventRec) : (s.modEvents f).frac = s.frac := rfl
@[simp] theorem State.modEvents_free (f : Map EventRec → Map EventRec) : (s.modEvents f).free = s.free := rfl
@[simp] theorem State.modEvents_regs (f : Map EventRec → Map EventRec) : (s.modEvents f).regs = s.regs := rfl
@[simp] theorem State.modEvents_resp (f : Map EventRec → Map EventRec) : (s.modEvents f).resp = s.resp := rfl
@[simp] theorem State.modEvents_events (f : Map EventRec → Map EventRec) : (s.modEvents f).events = f s.events := rfl
@[simp] theorem State.modEvents_tb (f : Map EventRec → Map EventRec) : (s.modEvents f).tb = s.tb := rfl
@[simp] theorem State.modEvents_fab (f : Map EventRec → Map EventRec) : (s.modEvents f).fab = s.fab := rfl
@[simp] theorem State.modEvents_ic (f : Map EventRec → Map EventRec) : (s.modEvents f).ic = s.ic := rfl
@[simp] theorem State.modEvents_noc (f : Map EventRec → Map EventRec) : (s.modEvents f).noc = s.noc := rfl
@[simp] theorem State.modEvents_thy (f : Map EventRec → Map EventRec) : (s.modEvents f).thy = s.thy := rfl
@[simp] theorem State.modEvents_mem (f : Map EventRec → Map EventRec) : (s.modEvents f).mem = s.mem := rfl
@[simp] theorem State.modEvents_chip (f : Map EventRec → Map EventRec) : (s.modEvents f).chip = s.chip := rfl
@[simp] theorem State.modEvents_lpx (f : Map EventRec → Map EventRec) : (s.modEvents f).lpx = s.lpx := rfl
@[simp] theorem State.modEvents_lanes (f : Map EventRec → Map EventRec) : (s.modEvents f).lanes = s.lanes := rfl
@[simp] theorem State.modEvents_tio (f : Map EventRec → Map EventRec) : (s.modEvents f).tio = s.tio := rfl
@[simp] theorem State.modEvents_pge (f : Map EventRec → Map EventRec) : (s.modEvents f).pge = s.pge := rfl
@[simp] theorem State.modEvents_fce (f : Map EventRec → Map EventRec) : (s.modEvents f).fce = s.fce := rfl
@[simp] theorem State.modEvents_dlk (f : Map EventRec → Map EventRec) : (s.modEvents f).dlk = s.dlk := rfl
@[simp] theorem State.modEvents_mid (f : Map EventRec → Map EventRec) : (s.modEvents f).mid = s.mid := rfl
@[simp] theorem State.modEvents_msp (f : Map EventRec → Map EventRec) : (s.modEvents f).msp = s.msp := rfl
@[simp] theorem State.modEvents_sage (f : Map EventRec → Map EventRec) : (s.modEvents f).sage = s.sage := rfl
@[simp] theorem State.modEvents_dawn (f : Map EventRec → Map EventRec) : (s.modEvents f).dawn = s.dawn := rfl
@[simp] theorem State.modEvents_pcie (f : Map EventRec → Map EventRec) : (s.modEvents f).pcie = s.pcie := rfl
@[simp] theorem State.modEvents_dbg (f : Map EventRec → Map EventRec) : (s.modEvents f).dbg = s.dbg := rfl

@[simp] theorem State.modTb_pending (f : TimeBase → TimeBase) : (s.modTb f).pending = s.pending := rfl
@[simp] theorem State.modTb_time (f : TimeBase → TimeBase) : (s.modTb f).time = s.time := rfl
@[simp] theorem State.modTb_frac (f : TimeBase → TimeBase) : (s.modTb f).frac = s.frac := rfl
@[simp] theorem State.modTb_free (f : TimeBase → TimeBase) : (s.modTb f).free = s.free := rfl
@[simp] theorem State.modTb_regs (f : TimeBase → TimeBase) : (s.modTb f).regs = s.regs := rfl
@[simp] theorem State.modTb_resp (f : TimeBase → TimeBase) : (s.modTb f).resp = s.resp := rfl
@[simp] theorem State.modTb_events (f : TimeBase → TimeBase) : (s.modTb f).events = s.events := rfl
@[simp] theorem State.modTb_tb (f : TimeBase → TimeBase) : (s.modTb f).tb = f s.tb := rfl
@[simp] theorem State.modTb_fab (f : TimeBase → TimeBase) : (s.modTb f).fab = s.fab := rfl
@[simp] theorem State.modTb_ic (f : TimeBase → TimeBase) : (s.modTb f).ic = s.ic := rfl
@[simp] theorem State.modTb_noc (f : TimeBase → TimeBase) : (s.modTb f).noc = s.noc := rfl
@[simp] theorem State.modTb_thy (f : TimeBase → TimeBase) : (s.modTb f).thy = s.thy := rfl
@[simp] theorem State.modTb_mem (f : TimeBase → TimeBase) : (s.modTb f).mem = s.mem := rfl
@[simp] theorem State.modTb_chip (f : TimeBase → TimeBase) : (s.modTb f).chip = s.chip := rfl
@[simp] theorem State.modTb_lpx (f : TimeBase → TimeBase) : (s.modTb f).lpx = s.lpx := rfl
@[simp] theorem State.modTb_lanes (f : TimeBase → TimeBase) : (s.modTb f).lanes = s.lanes := rfl
@[simp] theorem State.modTb_tio (f : TimeBase → TimeBase) : (s.modTb f).tio = s.tio := rfl
@[simp] theorem State.modTb_pge (f : TimeBase → TimeBase) : (s.modTb f).pge = s.pge := rfl
@[simp] theorem State.modTb_fce (f : TimeBase → TimeBase) : (s.modTb f).fce = s.fce := rfl
@[simp] theorem State.modTb_dlk (f : TimeBase → TimeBase) : (s.modTb f).dlk = s.dlk := rfl
@[simp] theorem State.modTb_mid (f : TimeBase → TimeBase) : (s.modTb f).mid = s.mid := rfl
@[simp] theorem State.modTb_msp (f : TimeBase → TimeBase) : (s.modTb f).msp = s.msp := rfl
@[simp] theorem State.modTb_sage (f : TimeBase → TimeBase) : (s.modTb f).sage = s.sage := rfl
@[simp] theorem State.modTb_dawn (f : TimeBase → TimeBase) : (s.modTb f).dawn = s.dawn := rfl
@[simp] theorem State.modTb_pcie (f : TimeBase → TimeBase) : (s.modTb f).pcie = s.pcie := rfl
@[simp] theorem State.modTb_dbg (f : TimeBase → TimeBase) : (s.modTb f).dbg = s.dbg := rfl

@[simp] theorem State.modFab_pending (f : Fabric → Fabric) : (s.modFab f).pending = s.pending := rfl
@[simp] theorem State.modFab_time (f : Fabric → Fabric) : (s.modFab f).time = s.time := rfl
@[simp] theorem State.modFab_frac (f : Fabric → Fabric) : (s.modFab f).frac = s.frac := rfl
@[simp] theorem State.modFab_free (f : Fabric → Fabric) : (s.modFab f).free = s.free := rfl
@[simp] theorem State.modFab_regs (f : Fabric → Fabric) : (s.modFab f).regs = s.regs := rfl
@[simp] theorem State.modFab_resp (f : Fabric → Fabric) : (s.modFab f).resp = s.resp := rfl
@[simp] theorem State.modFab_events (f : Fabric → Fabric) : (s.modFab f).events = s.events := rfl
@[simp] theorem State.modFab_tb (f : Fabric → Fabric) : (s.modFab f).tb = s.tb := rfl
@[simp] theorem State.modFab_fab (f : Fabric → Fabric) : (s.modFab f).fab = f s.fab := rfl
@[simp] theorem State.modFab_ic (f : Fabric → Fabric) : (s.modFab f).ic = s.ic := rfl
@[simp] theorem State.modFab_noc (f : Fabric → Fabric) : (s.modFab f).noc = s.noc := rfl
@[simp] theorem State.modFab_thy (f : Fabric → Fabric) : (s.modFab f).thy = s.thy := rfl
@[simp] theorem State.modFab_mem (f : Fabric → Fabric) : (s.modFab f).mem = s.mem := rfl
@[simp] theorem State.modFab_chip (f : Fabric → Fabric) : (s.modFab f).chip = s.chip := rfl
@[simp] theorem State.modFab_lpx (f : Fabric → Fabric) : (s.modFab f).lpx = s.lpx := rfl
@[simp] theorem State.modFab_lanes (f : Fabric → Fabric) : (s.modFab f).lanes = s.lanes := rfl
@[simp] theorem State.modFab_tio (f : Fabric → Fabric) : (s.modFab f).tio = s.tio := rfl
@[simp] theorem State.modFab_pge (f : Fabric → Fabric) : (s.modFab f).pge = s.pge := rfl
@[simp] theorem State.modFab_fce (f : Fabric → Fabric) : (s.modFab f).fce = s.fce := rfl
@[simp] theorem State.modFab_dlk (f : Fabric → Fabric) : (s.modFab f).dlk = s.dlk := rfl
@[simp] theorem State.modFab_mid (f : Fabric → Fabric) : (s.modFab f).mid = s.mid := rfl
@[simp] theorem State.modFab_msp (f : Fabric → Fabric) : (s.modFab f).msp = s.msp := rfl
@[simp] theorem State.modFab_sage (f : Fabric → Fabric) : (s.modFab f).sage = s.sage := rfl
@[simp] theorem State.modFab_dawn (f : Fabric → Fabric) : (s.modFab f).dawn = s.dawn := rfl
@[simp] theorem State.modFab_pcie (f : Fabric → Fabric) : (s.modFab f).pcie = s.pcie := rfl
@[simp] theorem State.modFab_dbg (f : Fabric → Fabric) : (s.modFab f).dbg = s.dbg := rfl

@[simp] theorem State.modIc_pending (f : Interconnect → Interconnect) : (s.modIc f).pending = s.pending := rfl
@[simp] theorem State.modIc_time (f : Interconnect → Interconnect) : (s.modIc f).time = s.time := rfl
@[simp] theorem State.modIc_frac (f : Interconnect → Interconnect) : (s.modIc f).frac = s.frac := rfl
@[simp] theorem State.modIc_free (f : Interconnect → Interconnect) : (s.modIc f).free = s.free := rfl
@[simp] theorem State.modIc_regs (f : Interconnect → Interconnect) : (s.modIc f).regs = s.regs := rfl
@[simp] theorem State.modIc_resp (f : Interconnect → Interconnect) : (s.modIc f).resp = s.resp := rfl
@[simp] theorem State.modIc_events (f : Interconnect → Interconnect) : (s.modIc f).events = s.events := rfl
@[simp] theorem State.modIc_tb (f : Interconnect → Interconnect) : (s.modIc f).tb = s.tb := rfl
@[simp] theorem State.modIc_fab (f : Interconnect → Interconnect) : (s.modIc f).fab = s.fab := rfl
@[simp] theorem State.modIc_ic (f : Interconnect → Interconnect) : (s.modIc f).ic = f s.ic := rfl
@[simp] theorem State.modIc_noc (f : Interconnect → Interconnect) : (s.modIc f).noc = s.noc := rfl
@[simp] theorem State.modIc_thy (f : Interconnect → Interconnect) : (s.modIc f).thy = s.thy := rfl
@[simp] theorem State.modIc_mem (f : Interconnect → Interconnect) : (s.modIc f).mem = s.mem := rfl
@[simp] theorem State.modIc_chip (f : Interconnect → Interconnect) : (s.modIc f).chip = s.chip := rfl
@[simp] theorem State.modIc_lpx (f : Interconnect → Interconnect) : (s.modIc f).lpx = s.lpx := rfl
@[simp] theorem State.modIc_lanes (f : Interconnect → Interconnect) : (s.modIc f).lanes = s.lanes := rfl
@[simp] theorem State.modIc_tio (f : Interconnect → Interconnect) : (s.modIc f).tio = s.tio := rfl
@[simp] theorem State.modIc_pge (f : Interconnect → Interconnect) : (s.modIc f).pge = s.pge := rfl
@[simp] theorem State.modIc_fce (f : Interconnect → Interconnect) : (s.modIc f).fce = s.fce := rfl
@[simp] theorem State.modIc_dlk (f : Interconnect → Interconnect) : (s.modIc f).dlk = s.dlk := rfl
@[simp] theorem State.modIc_mid (f : Interconnect → Interconnect) : (s.modIc f).mid = s.mid := rfl
@[simp] theorem State.modIc_msp (f : Interconnect → Interconnect) : (s.modIc f).msp = s.msp := rfl
@[simp] theorem State.modIc_sage (f : Interconnect → Interconnect) : (s.modIc f).sage = s.sage := rfl
@[simp] theorem State.modIc_dawn (f : Interconnect → Interconnect) : (s.modIc f).dawn = s.dawn := rfl
@[simp] theorem State.modIc_pcie (f : Interconnect → Interconnect) : (s.modIc f).pcie = s.pcie := rfl
@[simp] theorem State.modIc_dbg (f : Interconnect → Interconnect) : (s.modIc f).dbg = s.dbg := rfl

@[simp] theorem State.modNoc_pending (f : Noc → Noc) : (s.modNoc f).pending = s.pending := rfl
@[simp] theorem State.modNoc_time (f : Noc → Noc) : (s.modNoc f).time = s.time := rfl
@[simp] theorem State.modNoc_frac (f : Noc → Noc) : (s.modNoc f).frac = s.frac := rfl
@[simp] theorem State.modNoc_free (f : Noc → Noc) : (s.modNoc f).free = s.free := rfl
@[simp] theorem State.modNoc_regs (f : Noc → Noc) : (s.modNoc f).regs = s.regs := rfl
@[simp] theorem State.modNoc_resp (f : Noc → Noc) : (s.modNoc f).resp = s.resp := rfl
@[simp] theorem State.modNoc_events (f : Noc → Noc) : (s.modNoc f).events = s.events := rfl
@[simp] theorem State.modNoc_tb (f : Noc → Noc) : (s.modNoc f).tb = s.tb := rfl
@[simp] theorem State.modNoc_fab (f : Noc → Noc) : (s.modNoc f).fab = s.fab := rfl
@[simp] theorem State.modNoc_ic (f : Noc → Noc) : (s.modNoc f).ic = s.ic := rfl
@[simp] theorem State.modNoc_noc (f : Noc → Noc) : (s.modNoc f).noc = f s.noc := rfl
@[simp] theorem State.modNoc_thy (f : Noc → Noc) : (s.modNoc f).thy = s.thy := rfl
@[simp] theorem State.modNoc_mem (f : Noc → Noc) : (s.modNoc f).mem = s.mem := rfl
@[simp] theorem State.modNoc_chip (f : Noc → Noc) : (s.modNoc f).chip = s.chip := rfl
@[simp] theorem State.modNoc_lpx (f : Noc → Noc) : (s.modNoc f).lpx = s.lpx := rfl
@[simp] theorem State.modNoc_lanes (f : Noc → Noc) : (s.modNoc f).lanes = s.lanes := rfl
@[simp] theorem State.modNoc_tio (f : Noc → Noc) : (s.modNoc f).tio = s.tio := rfl
@[simp] theorem State.modNoc_pge (f : Noc → Noc) : (s.modNoc f).pge = s.pge := rfl
@[simp] theorem State.modNoc_fce (f : Noc → Noc) : (s.modNoc f).fce = s.fce := rfl
@[simp] theorem State.modNoc_dlk (f : Noc → Noc) : (s.modNoc f).dlk = s.dlk := rfl
@[simp] theorem State.modNoc_mid (f : Noc → Noc) : (s.modNoc f).mid = s.mid := rfl
@[simp] theorem State.modNoc_msp (f : Noc → Noc) : (s.modNoc f).msp = s.msp := rfl
@[simp] theorem State.modNoc_sage (f : Noc → Noc) : (s.modNoc f).sage = s.sage := rfl
@[simp] theorem State.modNoc_dawn (f : Noc → Noc) : (s.modNoc f).dawn = s.dawn := rfl
@[simp] theorem State.modNoc_pcie (f : Noc → Noc) : (s.modNoc f).pcie = s.pcie := rfl
@[simp] theorem State.modNoc_dbg (f : Noc → Noc) : (s.modNoc f).dbg = s.dbg := rfl

@[simp] theorem State.modThy_pending (f : Thyme → Thyme) : (s.modThy f).pending = s.pending := rfl
@[simp] theorem State.modThy_time (f : Thyme → Thyme) : (s.modThy f).time = s.time := rfl
@[simp] theorem State.modThy_frac (f : Thyme → Thyme) : (s.modThy f).frac = s.frac := rfl
@[simp] theorem State.modThy_free (f : Thyme → Thyme) : (s.modThy f).free = s.free := rfl
@[simp] theorem State.modThy_regs (f : Thyme → Thyme) : (s.modThy f).regs = s.regs := rfl
@[simp] theorem State.modThy_resp (f : Thyme → Thyme) : (s.modThy f).resp = s.resp := rfl
@[simp] theorem State.modThy_events (f : Thyme → Thyme) : (s.modThy f).events = s.events := rfl
@[simp] theorem State.modThy_tb (f : Thyme → Thyme) : (s.modThy f).tb = s.tb := rfl
@[simp] theorem State.modThy_fab (f : Thyme → Thyme) : (s.modThy f).fab = s.fab := rfl
@[simp] theorem State.modThy_ic (f : Thyme → Thyme) : (s.modThy f).ic = s.ic := rfl
@[simp] theorem State.modThy_noc (f : Thyme → Thyme) : (s.modThy f).noc = s.noc := rfl
@[simp] theorem State.modThy_thy (f : Thyme → Thyme) : (s.modThy f).thy = f s.thy := rfl
@[simp] theorem State.modThy_mem (f : Thyme → Thyme) : (s.modThy f).mem = s.mem := rfl
@[simp] theorem State.modThy_chip (f : Thyme → Thyme) : (s.modThy f).chip = s.chip := rfl
@[simp] theorem State.modThy_lpx (f : Thyme → Thyme) : (s.modThy f).lpx = s.lpx := rfl
@[simp] theorem State.modThy_lanes (f : Thyme → Thyme) : (s.modThy f).lanes = s.lanes := rfl
@[simp] theorem State.modThy_tio (f : Thyme → Thyme) : (s.modThy f).tio = s.tio := rfl
@[simp] theorem State.modThy_pge (f : Thyme → Thyme) : (s.modThy f).pge = s.pge := rfl
@[simp] theorem State.modThy_fce (f : Thyme → Thyme) : (s.modThy f).fce = s.fce := rfl
@[simp] theorem State.modThy_dlk (f : Thyme → Thyme) : (s.modThy f).dlk = s.dlk := rfl
@[simp] theorem State.modThy_mid (f : Thyme → Thyme) : (s.modThy f).mid = s.mid := rfl
@[simp] theorem State.modThy_msp (f : Thyme → Thyme) : (s.modThy f).msp = s.msp := rfl
@[simp] theorem State.modThy_sage (f : Thyme → Thyme) : (s.modThy f).sage = s.sage := rfl
@[simp] theorem State.modThy_dawn (f : Thyme → Thyme) : (s.modThy f).dawn = s.dawn := rfl
@[simp] theorem State.modThy_pcie (f : Thyme → Thyme) : (s.modThy f).pcie = s.pcie := rfl
@[simp] theorem State.modThy_dbg (f : Thyme → Thyme) : (s.modThy f).dbg = s.dbg := rfl

@[simp] theorem State.modMem_pending (f : Map MemWord → Map MemWord) : (s.modMem f).pending = s.pending := rfl
@[simp] theorem State.modMem_time (f : Map MemWord → Map MemWord) : (s.modMem f).time = s.time := rfl
@[simp] theorem State.modMem_frac (f : Map MemWord → Map MemWord) : (s.modMem f).frac = s.frac := rfl
@[simp] theorem State.modMem_free (f : Map MemWord → Map MemWord) : (s.modMem f).free = s.free := rfl
@[simp] theorem State.modMem_regs (f : Map MemWord → Map MemWord) : (s.modMem f).regs = s.regs := rfl
@[simp] theorem State.modMem_resp (f : Map MemWord → Map MemWord) : (s.modMem f).resp = s.resp := rfl
@[simp] theorem State.modMem_events (f : Map MemWord → Map MemWord) : (s.modMem f).events = s.events := rfl
@[simp] theorem State.modMem_tb (f : Map MemWord → Map MemWord) : (s.modMem f).tb = s.tb := rfl
@[simp] theorem State.modMem_fab (f : Map MemWord → Map MemWord) : (s.modMem f).fab = s.fab := rfl
@[simp] theorem State.modMem_ic (f : Map MemWord → Map MemWord) : (s.modMem f).ic = s.ic := rfl
@[simp] theorem State.modMem_noc (f : Map MemWord → Map MemWord) : (s.modMem f).noc = s.noc := rfl
@[simp] theorem State.modMem_thy (f : Map MemWord → Map MemWord) : (s.modMem f).thy = s.thy := rfl
@[simp] theorem State.modMem_mem (f : Map MemWord → Map MemWord) : (s.modMem f).mem = f s.mem := rfl
@[simp] theorem State.modMem_chip (f : Map MemWord → Map MemWord) : (s.modMem f).chip = s.chip := rfl
@[simp] theorem State.modMem_lpx (f : Map MemWord → Map MemWord) : (s.modMem f).lpx = s.lpx := rfl
@[simp] theorem State.modMem_lanes (f : Map MemWord → Map MemWord) : (s.modMem f).lanes = s.lanes := rfl
@[simp] theorem State.modMem_tio (f : Map MemWord → Map MemWord) : (s.modMem f).tio = s.tio := rfl
@[simp] theorem State.modMem_pge (f : Map MemWord → Map MemWord) : (s.modMem f).pge = s.pge := rfl
@[simp] theorem State.modMem_fce (f : Map MemWord → Map MemWord) : (s.modMem f).fce = s.fce := rfl
@[simp] theorem State.modMem_dlk (f : Map MemWord → Map MemWord) : (s.modMem f).dlk = s.dlk := rfl
@[simp] theorem State.modMem_mid (f : Map MemWord → Map MemWord) : (s.modMem f).mid = s.mid := rfl
@[simp] theorem State.modMem_msp (f : Map MemWord → Map MemWord) : (s.modMem f).msp = s.msp := rfl
@[simp] theorem State.modMem_sage (f : Map MemWord → Map MemWord) : (s.modMem f).sage = s.sage := rfl
@[simp] theorem State.modMem_dawn (f : Map MemWord → Map MemWord) : (s.modMem f).dawn = s.dawn := rfl
@[simp] theorem State.modMem_pcie (f : Map MemWord → Map MemWord) : (s.modMem f).pcie = s.pcie := rfl
@[simp] theorem State.modMem_dbg (f : Map MemWord → Map MemWord) : (s.modMem f).dbg = s.dbg := rfl

@[simp] theorem State.modChip_pending (f : OnChip → OnChip) : (s.modChip f).pending = s.pending := rfl
@[simp] theorem State.modChip_time (f : OnChip → OnChip) : (s.modChip f).time = s.time := rfl
@[simp] theorem State.modChip_frac (f : OnChip → OnChip) : (s.modChip f).frac = s.frac := rfl
@[simp] theorem State.modChip_free (f : OnChip → OnChip) : (s.modChip f).free = s.free := rfl
@[simp] theorem State.modChip_regs (f : OnChip → OnChip) : (s.modChip f).regs = s.regs := rfl
@[simp] theorem State.modChip_resp (f : OnChip → OnChip) : (s.modChip f).resp = s.resp := rfl
@[simp] theorem State.modChip_events (f : OnChip → OnChip) : (s.modChip f).events = s.events := rfl
@[simp] theorem State.modChip_tb (f : OnChip → OnChip) : (s.modChip f).tb = s.tb := rfl
@[simp] theorem State.modChip_fab (f : OnChip → OnChip) : (s.modChip f).fab = s.fab := rfl
@[simp] theorem State.modChip_ic (f : OnChip → OnChip) : (s.modChip f).ic = s.ic := rfl
@[simp] theorem State.modChip_noc (f : OnChip → OnChip) : (s.modChip f).noc = s.noc := rfl
@[simp] theorem State.modChip_thy (f : OnChip → OnChip) : (s.modChip f).thy = s.thy := rfl
@[simp] theorem State.modChip_mem (f : OnChip → OnChip) : (s.modChip f).mem = s.mem := rfl
@[simp] theorem State.modChip_chip (f : OnChip → OnChip) : (s.modChip f).chip = f s.chip := rfl
@[simp] theorem State.modChip_lpx (f : OnChip → OnChip) : (s.modChip f).lpx = s.lpx := rfl
@[simp] theorem State.modChip_lanes (f : OnChip → OnChip) : (s.modChip f).lanes = s.lanes := rfl
@[simp] theorem State.modChip_tio (f : OnChip → OnChip) : (s.modChip f).tio = s.tio := rfl
@[simp] theorem State.modChip_pge (f : OnChip → OnChip) : (s.modChip f).pge = s.pge := rfl
@[simp] theorem State.modChip_fce (f : OnChip → OnChip) : (s.modChip f).fce = s.fce := rfl
@[simp] theorem State.modChip_dlk (f : OnChip → OnChip) : (s.modChip f).dlk = s.dlk := rfl
@[simp] theorem State.modChip_mid (f : OnChip → OnChip) : (s.modChip f).mid = s.mid := rfl
@[simp] theorem State.modChip_msp (f : OnChip → OnChip) : (s.modChip f).msp = s.msp := rfl
@[simp] theorem State.modChip_sage (f : OnChip → OnChip) : (s.modChip f).sage = s.sage := rfl
@[simp] theorem State.modChip_dawn (f : OnChip → OnChip) : (s.modChip f).dawn = s.dawn := rfl
@[simp] theorem State.modChip_pcie (f : OnChip → OnChip) : (s.modChip f).pcie = s.pcie := rfl
@[simp] theorem State.modChip_dbg (f : OnChip → OnChip) : (s.modChip f).dbg = s.dbg := rfl

@[simp] theorem State.modLpx_pending (f : Map Lpx → Map Lpx) : (s.modLpx f).pending = s.pending := rfl
@[simp] theorem State.modLpx_time (f : Map Lpx → Map Lpx) : (s.modLpx f).time = s.time := rfl
@[simp] theorem State.modLpx_frac (f : Map Lpx → Map Lpx) : (s.modLpx f).frac = s.frac := rfl
@[simp] theorem State.modLpx_free (f : Map Lpx → Map Lpx) : (s.modLpx f).free = s.free := rfl
@[simp] theorem State.modLpx_regs (f : Map Lpx → Map Lpx) : (s.modLpx f).regs = s.regs := rfl
@[simp] theorem State.modLpx_resp (f : Map Lpx → Map Lpx) : (s.modLpx f).resp = s.resp := rfl
@[simp] theorem State.modLpx_events (f : Map Lpx → Map Lpx) : (s.modLpx f).events = s.events := rfl
@[simp] theorem State.modLpx_tb (f : Map Lpx → Map Lpx) : (s.modLpx f).tb = s.tb := rfl
@[simp] theorem State.modLpx_fab (f : Map Lpx → Map Lpx) : (s.modLpx f).fab = s.fab := rfl
@[simp] theorem State.modLpx_ic (f : Map Lpx → Map Lpx) : (s.modLpx f).ic = s.ic := rfl
@[simp] theorem State.modLpx_noc (f : Map Lpx → Map Lpx) : (s.modLpx f).noc = s.noc := rfl
@[simp] theorem State.modLpx_thy (f : Map Lpx → Map Lpx) : (s.modLpx f).thy = s.thy := rfl
@[simp] theorem State.modLpx_mem (f : Map Lpx → Map Lpx) : (s.modLpx f).mem = s.mem := rfl
@[simp] theorem State.modLpx_chip (f : Map Lpx → Map Lpx) : (s.modLpx f).chip = s.chip := rfl
@[simp] theorem State.modLpx_lpx (f : Map Lpx → Map Lpx) : (s.modLpx f).lpx = f s.lpx := rfl
@[simp] theorem State.modLpx_lanes (f : Map Lpx → Map Lpx) : (s.modLpx f).lanes = s.lanes := rfl
@[simp] theorem State.modLpx_tio (f : Map Lpx → Map Lpx) : (s.modLpx f).tio = s.tio := rfl
@[simp] theorem State.modLpx_pge (f : Map Lpx → Map Lpx) : (s.modLpx f).pge = s.pge := rfl
@[simp] theorem State.modLpx_fce (f : Map Lpx → Map Lpx) : (s.modLpx f).fce = s.fce := rfl
@[simp] theorem State.modLpx_dlk (f : Map Lpx → Map Lpx) : (s.modLpx f).dlk = s.dlk := rfl
@[simp] theorem State.modLpx_mid (f : Map Lpx → Map Lpx) : (s.modLpx f).mid = s.mid := rfl
@[simp] theorem State.modLpx_msp (f : Map Lpx → Map Lpx) : (s.modLpx f).msp = s.msp := rfl
@[simp] theorem State.modLpx_sage (f : Map Lpx → Map Lpx) : (s.modLpx f).sage = s.sage := rfl
@[simp] theorem State.modLpx_dawn (f : Map Lpx → Map Lpx) : (s.modLpx f).dawn = s.dawn := rfl
@[simp] theorem State.modLpx_pcie (f : Map Lpx → Map Lpx) : (s.modLpx f).pcie = s.pcie := rfl
@[simp] theorem State.modLpx_dbg (f : Map Lpx → Map Lpx) : (s.modLpx f).dbg = s.dbg := rfl

@[simp] theorem State.modLanes_pending (f : Lanes → Lanes) : (s.modLanes f).pending = s.pending := rfl
@[simp] theorem State.modLanes_time (f : Lanes → Lanes) : (s.modLanes f).time = s.time := rfl
@[simp] theorem State.modLanes_frac (f : Lanes → Lanes) : (s.modLanes f).frac = s.frac := rfl
@[simp] theorem State.modLanes_free (f : Lanes → Lanes) : (s.modLanes f).free = s.free := rfl
@[simp] theorem State.modLanes_regs (f : Lanes → Lanes) : (s.modLanes f).regs = s.regs := rfl
@[simp] theorem State.modLanes_resp (f : Lanes → Lanes) : (s.modLanes f).resp = s.resp := rfl
@[simp] theorem State.modLanes_events (f : Lanes → Lanes) : (s.modLanes f).events = s.events := rfl
@[simp] theorem State.modLanes_tb (f : Lanes → Lanes) : (s.modLanes f).tb = s.tb := rfl
@[simp] theorem State.modLanes_fab (f : Lanes → Lanes) : (s.modLanes f).fab = s.fab := rfl
@[simp] theorem State.modLanes_ic (f : Lanes → Lanes) : (s.modLanes f).ic = s.ic := rfl
@[simp] theorem State.modLanes_noc (f : Lanes → Lanes) : (s.modLanes f).noc = s.noc := rfl
@[simp] theorem State.modLanes_thy (f : Lanes → Lanes) : (s.modLanes f).thy = s.thy := rfl
@[simp] theorem State.modLanes_mem (f : Lanes → Lanes) : (s.modLanes f).mem = s.mem := rfl
@[simp] theorem State.modLanes_chip (f : Lanes → Lanes) : (s.modLanes f).chip = s.chip := rfl
@[simp] theorem State.modLanes_lpx (f : Lanes → Lanes) : (s.modLanes f).lpx = s.lpx := rfl
@[simp] theorem State.modLanes_lanes (f : Lanes → Lanes) : (s.modLanes f).lanes = f s.lanes := rfl
@[simp] theorem State.modLanes_tio (f : Lanes → Lanes) : (s.modLanes f).tio = s.tio := rfl
@[simp] theorem State.modLanes_pge (f : Lanes → Lanes) : (s.modLanes f).pge = s.pge := rfl
@[simp] theorem State.modLanes_fce (f : Lanes → Lanes) : (s.modLanes f).fce = s.fce := rfl
@[simp] theorem State.modLanes_dlk (f : Lanes → Lanes) : (s.modLanes f).dlk = s.dlk := rfl
@[simp] theorem State.modLanes_mid (f : Lanes → Lanes) : (s.modLanes f).mid = s.mid := rfl
@[simp] theorem State.modLanes_msp (f : Lanes → Lanes) : (s.modLanes f).msp = s.msp := rfl
@[simp] theorem State.modLanes_sage (f : Lanes → Lanes) : (s.modLanes f).sage = s.sage := rfl
@[simp] theorem State.modLanes_dawn (f : Lanes → Lanes) : (s.modLanes f).dawn = s.dawn := rfl
@[simp] theorem State.modLanes_pcie (f : Lanes → Lanes) : (s.modLanes f).pcie = s.pcie := rfl
@[simp] theorem State.modLanes_dbg (f : Lanes → Lanes) : (s.modLanes f).dbg = s.dbg := rfl

@[simp] theorem State.modTio_pending (f : Tio → Tio) : (s.modTio f).pending = s.pending := rfl
@[simp] theorem State.modTio_time (f : Tio → Tio) : (s.modTio f).time = s.time := rfl
@[simp] theorem State.modTio_frac (f : Tio → Tio) : (s.modTio f).frac = s.frac := rfl
@[simp] theorem State.modTio_free (f : Tio → Tio) : (s.modTio f).free = s.free := rfl
@[simp] theorem State.modTio_regs (f : Tio → Tio) : (s.modTio f).regs = s.regs := rfl
@[simp] theorem State.modTio_resp (f : Tio → Tio) : (s.modTio f).resp = s.resp := rfl
@[simp] theorem State.modTio_events (f : Tio → Tio) : (s.modTio f).events = s.events := rfl
@[simp] theorem State.modTio_tb (f : Tio → Tio) : (s.modTio f).tb = s.tb := rfl
@[simp] theorem State.modTio_fab (f : Tio → Tio) : (s.modTio f).fab = s.fab := rfl
@[simp] theorem State.modTio_ic (f : Tio → Tio) : (s.modTio f).ic = s.ic := rfl
@[simp] theorem State.modTio_noc (f : Tio → Tio) : (s.modTio f).noc = s.noc := rfl
@[simp] theorem State.modTio_thy (f : Tio → Tio) : (s.modTio f).thy = s.thy := rfl
@[simp] theorem State.modTio_mem (f : Tio → Tio) : (s.modTio f).mem = s.mem := rfl
@[simp] theorem State.modTio_chip (f : Tio → Tio) : (s.modTio f).chip = s.chip := rfl
@[simp] theorem State.modTio_lpx (f : Tio → Tio) : (s.modTio f).lpx = s.lpx := rfl
@[simp] theorem State.modTio_lanes (f : Tio → Tio) : (s.modTio f).lanes = s.lanes := rfl
@[simp] theorem State.modTio_tio (f : Tio → Tio) : (s.modTio f).tio = f s.tio := rfl
@[simp] theorem State.modTio_pge (f : Tio → Tio) : (s.modTio f).pge = s.pge := rfl
@[simp] theorem State.modTio_fce (f : Tio → Tio) : (s.modTio f).fce = s.fce := rfl
@[simp] theorem State.modTio_dlk (f : Tio → Tio) : (s.modTio f).dlk = s.dlk := rfl
@[simp] theorem State.modTio_mid (f : Tio → Tio) : (s.modTio f).mid = s.mid := rfl
@[simp] theorem State.modTio_msp (f : Tio → Tio) : (s.modTio f).msp = s.msp := rfl
@[simp] theorem State.modTio_sage (f : Tio → Tio) : (s.modTio f).sage = s.sage := rfl
@[simp] theorem State.modTio_dawn (f : Tio → Tio) : (s.modTio f).dawn = s.dawn := rfl
@[simp] theorem State.modTio_pcie (f : Tio → Tio) : (s.modTio f).pcie = s.pcie := rfl
@[simp] theorem State.modTio_dbg (f : Tio → Tio) : (s.modTio f).dbg = s.dbg := rfl

@[simp] theorem State.modPge_pending (f : Map Pge → Map Pge) : (s.modPge f).pending = s.pending := rfl
@[simp] theorem State.modPge_time (f : Map Pge → Map Pge) : (s.modPge f).time = s.time := rfl
@[simp] theorem State.modPge_frac (f : Map Pge → Map Pge) : (s.modPge f).frac = s.frac := rfl
@[simp] theorem State.modPge_free (f : Map Pge → Map Pge) : (s.modPge f).free = s.free := rfl
@[simp] theorem State.modPge_regs (f : Map Pge → Map Pge) : (s.modPge f).regs = s.regs := rfl
@[simp] theorem State.modPge_resp (f : Map Pge → Map Pge) : (s.modPge f).resp = s.resp := rfl
@[simp] theorem State.modPge_events (f : Map Pge → Map Pge) : (s.modPge f).events = s.events := rfl
@[simp] theorem State.modPge_tb (f : Map Pge → Map Pge) : (s.modPge f).tb = s.tb := rfl
@[simp] theorem State.modPge_fab (f : Map Pge → Map Pge) : (s.modPge f).fab = s.fab := rfl
@[simp] theorem State.modPge_ic (f : Map Pge → Map Pge) : (s.modPge f).ic = s.ic := rfl
@[simp] theorem State.modPge_noc (f : Map Pge → Map Pge) : (s.modPge f).noc = s.noc := rfl
@[simp] theorem State.modPge_thy (f : Map Pge → Map Pge) : (s.modPge f).thy = s.thy := rfl
@[simp] theorem State.modPge_mem (f : Map Pge → Map Pge) : (s.modPge f).mem = s.mem := rfl
@[simp] theorem State.modPge_chip (f : Map Pge → Map Pge) : (s.modPge f).chip = s.chip := rfl
@[simp] theorem State.modPge_lpx (f : Map Pge → Map Pge) : (s.modPge f).lpx = s.lpx := rfl
@[simp] theorem State.modPge_lanes (f : Map Pge → Map Pge) : (s.modPge f).lanes = s.lanes := rfl
@[simp] theorem State.modPge_tio (f : Map Pge → Map Pge) : (s.modPge f).tio = s.tio := rfl
@[simp] theorem State.modPge_pge (f : Map Pge → Map Pge) : (s.modPge f).pge = f s.pge := rfl
@[simp] theorem State.modPge_fce (f : Map Pge → Map Pge) : (s.modPge f).fce = s.fce := rfl
@[simp] theorem State.modPge_dlk (f : Map Pge → Map Pge) : (s.modPge f).dlk = s.dlk := rfl
@[simp] theorem State.modPge_mid (f : Map Pge → Map Pge) : (s.modPge f).mid = s.mid := rfl
@[simp] theorem State.modPge_msp (f : Map Pge → Map Pge) : (s.modPge f).msp = s.msp := rfl
@[simp] theorem State.modPge_sage (f : Map Pge → Map Pge) : (s.modPge f).sage = s.sage := rfl
@[simp] theorem State.modPge_dawn (f : Map Pge → Map Pge) : (s.modPge f).dawn = s.dawn := rfl
@[simp] theorem State.modPge_pcie (f : Map Pge → Map Pge) : (s.modPge f).pcie = s.pcie := rfl
@[simp] theorem State.modPge_dbg (f : Map Pge → Map Pge) : (s.modPge f).dbg = s.dbg := rfl

@[simp] theorem State.modFce_pending (f : Map Fce → Map Fce) : (s.modFce f).pending = s.pending := rfl
@[simp] theorem State.modFce_time (f : Map Fce → Map Fce) : (s.modFce f).time = s.time := rfl
@[simp] theorem State.modFce_frac (f : Map Fce → Map Fce) : (s.modFce f).frac = s.frac := rfl
@[simp] theorem State.modFce_free (f : Map Fce → Map Fce) : (s.modFce f).free = s.free := rfl
@[simp] theorem State.modFce_regs (f : Map Fce → Map Fce) : (s.modFce f).regs = s.regs := rfl
@[simp] theorem State.modFce_resp (f : Map Fce → Map Fce) : (s.modFce f).resp = s.resp := rfl
@[simp] theorem State.modFce_events (f : Map Fce → Map Fce) : (s.modFce f).events = s.events := rfl
@[simp] theorem State.modFce_tb (f : Map Fce → Map Fce) : (s.modFce f).tb = s.tb := rfl
@[simp] theorem State.modFce_fab (f : Map Fce → Map Fce) : (s.modFce f).fab = s.fab := rfl
@[simp] theorem State.modFce_ic (f : Map Fce → Map Fce) : (s.modFce f).ic = s.ic := rfl
@[simp] theorem State.modFce_noc (f : Map Fce → Map Fce) : (s.modFce f).noc = s.noc := rfl
@[simp] theorem State.modFce_thy (f : Map Fce → Map Fce) : (s.modFce f).thy = s.thy := rfl
@[simp] theorem State.modFce_mem (f : Map Fce → Map Fce) : (s.modFce f).mem = s.mem := rfl
@[simp] theorem State.modFce_chip (f : Map Fce → Map Fce) : (s.modFce f).chip = s.chip := rfl
@[simp] theorem State.modFce_lpx (f : Map Fce → Map Fce) : (s.modFce f).lpx = s.lpx := rfl
@[simp] theorem State.modFce_lanes (f : Map Fce → Map Fce) : (s.modFce f).lanes = s.lanes := rfl
@[simp] theorem State.modFce_tio (f : Map Fce → Map Fce) : (s.modFce f).tio = s.tio := rfl
@[simp] theorem State.modFce_pge (f : Map Fce → Map Fce) : (s.modFce f).pge = s.pge := rfl
@[simp] theorem State.modFce_fce (f : Map Fce → Map Fce) : (s.modFce f).fce = f s.fce := rfl
@[simp] theorem State.modFce_dlk (f : Map Fce → Map Fce) : (s.modFce f).dlk = s.dlk := rfl
@[simp] theorem State.modFce_mid (f : Map Fce → Map Fce) : (s.modFce f).mid = s.mid := rfl
@[simp] theorem State.modFce_msp (f : Map Fce → Map Fce) : (s.modFce f).msp = s.msp := rfl
@[simp] theorem State.modFce_sage (f : Map Fce → Map Fce) : (s.modFce f).sage = s.sage := rfl
@[simp] theorem State.modFce_dawn (f : Map Fce → Map Fce) : (s.modFce f).dawn = s.dawn := rfl
@[simp] theorem State.modFce_pcie (f : Map Fce → Map Fce) : (s.modFce f).pcie = s.pcie := rfl
@[simp] theorem State.modFce_dbg (f : Map Fce → Map Fce) : (s.modFce f).dbg = s.dbg := rfl

@[simp] theorem State.modDlk_pending (f : DieLinks → DieLinks) : (s.modDlk f).pending = s.pending := rfl
@[simp] theorem State.modDlk_time (f : DieLinks → DieLinks) : (s.modDlk f).time = s.time := rfl
@[simp] theorem State.modDlk_frac (f : DieLinks → DieLinks) : (s.modDlk f).frac = s.frac := rfl
@[simp] theorem State.modDlk_free (f : DieLinks → DieLinks) : (s.modDlk f).free = s.free := rfl
@[simp] theorem State.modDlk_regs (f : DieLinks → DieLinks) : (s.modDlk f).regs = s.regs := rfl
@[simp] theorem State.modDlk_resp (f : DieLinks → DieLinks) : (s.modDlk f).resp = s.resp := rfl
@[simp] theorem State.modDlk_events (f : DieLinks → DieLinks) : (s.modDlk f).events = s.events := rfl
@[simp] theorem State.modDlk_tb (f : DieLinks → DieLinks) : (s.modDlk f).tb = s.tb := rfl
@[simp] theorem State.modDlk_fab (f : DieLinks → DieLinks) : (s.modDlk f).fab = s.fab := rfl
@[simp] theorem State.modDlk_ic (f : DieLinks → DieLinks) : (s.modDlk f).ic = s.ic := rfl
@[simp] theorem State.modDlk_noc (f : DieLinks → DieLinks) : (s.modDlk f).noc = s.noc := rfl
@[simp] theorem State.modDlk_thy (f : DieLinks → DieLinks) : (s.modDlk f).thy = s.thy := rfl
@[simp] theorem State.modDlk_mem (f : DieLinks → DieLinks) : (s.modDlk f).mem = s.mem := rfl
@[simp] theorem State.modDlk_chip (f : DieLinks → DieLinks) : (s.modDlk f).chip = s.chip := rfl
@[simp] theorem State.modDlk_lpx (f : DieLinks → DieLinks) : (s.modDlk f).lpx = s.lpx := rfl
@[simp] theorem State.modDlk_lanes (f : DieLinks → DieLinks) : (s.modDlk f).lanes = s.lanes := rfl
@[simp] theorem State.modDlk_tio (f : DieLinks → DieLinks) : (s.modDlk f).tio = s.tio := rfl
@[simp] theorem State.modDlk_pge (f : DieLinks → DieLinks) : (s.modDlk f).pge = s.pge := rfl
@[simp] theorem State.modDlk_fce (f : DieLinks → DieLinks) : (s.modDlk f).fce = s.fce := rfl
@[simp] theorem State.modDlk_dlk (f : DieLinks → DieLinks) : (s.modDlk f).dlk = f s.dlk := rfl
@[simp] theorem State.modDlk_mid (f : DieLinks → DieLinks) : (s.modDlk f).mid = s.mid := rfl
@[simp] theorem State.modDlk_msp (f : DieLinks → DieLinks) : (s.modDlk f).msp = s.msp := rfl
@[simp] theorem State.modDlk_sage (f : DieLinks → DieLinks) : (s.modDlk f).sage = s.sage := rfl
@[simp] theorem State.modDlk_dawn (f : DieLinks → DieLinks) : (s.modDlk f).dawn = s.dawn := rfl
@[simp] theorem State.modDlk_pcie (f : DieLinks → DieLinks) : (s.modDlk f).pcie = s.pcie := rfl
@[simp] theorem State.modDlk_dbg (f : DieLinks → DieLinks) : (s.modDlk f).dbg = s.dbg := rfl

@[simp] theorem State.modMid_pending (f : List MidTest → List MidTest) : (s.modMid f).pending = s.pending := rfl
@[simp] theorem State.modMid_time (f : List MidTest → List MidTest) : (s.modMid f).time = s.time := rfl
@[simp] theorem State.modMid_frac (f : List MidTest → List MidTest) : (s.modMid f).frac = s.frac := rfl
@[simp] theorem State.modMid_free (f : List MidTest → List MidTest) : (s.modMid f).free = s.free := rfl
@[simp] theorem State.modMid_regs (f : List MidTest → List MidTest) : (s.modMid f).regs = s.regs := rfl
@[simp] theorem State.modMid_resp (f : List MidTest → List MidTest) : (s.modMid f).resp = s.resp := rfl
@[simp] theorem State.modMid_events (f : List MidTest → List MidTest) : (s.modMid f).events = s.events := rfl
@[simp] theorem State.modMid_tb (f : List MidTest → List MidTest) : (s.modMid f).tb = s.tb := rfl
@[simp] theorem State.modMid_fab (f : List MidTest → List MidTest) : (s.modMid f).fab = s.fab := rfl
@[simp] theorem State.modMid_ic (f : List MidTest → List MidTest) : (s.modMid f).ic = s.ic := rfl
@[simp] theorem State.modMid_noc (f : List MidTest → List MidTest) : (s.modMid f).noc = s.noc := rfl
@[simp] theorem State.modMid_thy (f : List MidTest → List MidTest) : (s.modMid f).thy = s.thy := rfl
@[simp] theorem State.modMid_mem (f : List MidTest → List MidTest) : (s.modMid f).mem = s.mem := rfl
@[simp] theorem State.modMid_chip (f : List MidTest → List MidTest) : (s.modMid f).chip = s.chip := rfl
@[simp] theorem State.modMid_lpx (f : List MidTest → List MidTest) : (s.modMid f).lpx = s.lpx := rfl
@[simp] theorem State.modMid_lanes (f : List MidTest → List MidTest) : (s.modMid f).lanes = s.lanes := rfl
@[simp] theorem State.modMid_tio (f : List MidTest → List MidTest) : (s.modMid f).tio = s.tio := rfl
@[simp] theorem State.modMid_pge (f : List MidTest → List MidTest) : (s.modMid f).pge = s.pge := rfl
@[simp] theorem State.modMid_fce (f : List MidTest → List MidTest) : (s.modMid f).fce = s.fce := rfl
@[simp] theorem State.modMid_dlk (f : List MidTest → List MidTest) : (s.modMid f).dlk = s.dlk := rfl
@[simp] theorem State.modMid_mid (f : List MidTest → List MidTest) : (s.modMid f).mid = f s.mid := rfl
@[simp] theorem State.modMid_msp (f : List MidTest → List MidTest) : (s.modMid f).msp = s.msp := rfl
@[simp] theorem State.modMid_sage (f : List MidTest → List MidTest) : (s.modMid f).sage = s.sage := rfl
@[simp] theorem State.modMid_dawn (f : List MidTest → List MidTest) : (s.modMid f).dawn = s.dawn := rfl
@[simp] theorem State.modMid_pcie (f : List MidTest → List MidTest) : (s.modMid f).pcie = s.pcie := rfl
@[simp] theorem State.modMid_dbg (f : List MidTest → List MidTest) : (s.modMid f).dbg = s.dbg := rfl

@[simp] theorem State.modMsp_pending (f : Map Msp → Map Msp) : (s.modMsp f).pending = s.pending := rfl
@[simp] theorem State.modMsp_time (f : Map Msp → Map Msp) : (s.modMsp f).time = s.time := rfl
@[simp] theorem State.modMsp_frac (f : Map Msp → Map Msp) : (s.modMsp f).frac = s.frac := rfl
@[simp] theorem State.modMsp_free (f : Map Msp → Map Msp) : (s.modMsp f).free = s.free := rfl
@[simp] theorem State.modMsp_regs (f : Map Msp → Map Msp) : (s.modMsp f).regs = s.regs := rfl
@[simp] theorem State.modMsp_resp (f : Map Msp → Map Msp) : (s.modMsp f).resp = s.resp := rfl
@[simp] theorem State.modMsp_events (f : Map Msp → Map Msp) : (s.modMsp f).events = s.events := rfl
@[simp] theorem State.modMsp_tb (f : Map Msp → Map Msp) : (s.modMsp f).tb = s.tb := rfl
@[simp] theorem State.modMsp_fab (f : Map Msp → Map Msp) : (s.modMsp f).fab = s.fab := rfl
@[simp] theorem State.modMsp_ic (f : Map Msp → Map Msp) : (s.modMsp f).ic = s.ic := rfl
@[simp] theorem State.modMsp_noc (f : Map Msp → Map Msp) : (s.modMsp f).noc = s.noc := rfl
@[simp] theorem State.modMsp_thy (f : Map Msp → Map Msp) : (s.modMsp f).thy = s.thy := rfl
@[simp] theorem State.modMsp_mem (f : Map Msp → Map Msp) : (s.modMsp f).mem = s.mem := rfl
@[simp] theorem State.modMsp_chip (f : Map Msp → Map Msp) : (s.modMsp f).chip = s.chip := rfl
@[simp] theorem State.modMsp_lpx (f : Map Msp → Map Msp) : (s.modMsp f).lpx = s.lpx := rfl
@[simp] theorem State.modMsp_lanes (f : Map Msp → Map Msp) : (s.modMsp f).lanes = s.lanes := rfl
@[simp] theorem State.modMsp_tio (f : Map Msp → Map Msp) : (s.modMsp f).tio = s.tio := rfl
@[simp] theorem State.modMsp_pge (f : Map Msp → Map Msp) : (s.modMsp f).pge = s.pge := rfl
@[simp] theorem State.modMsp_fce (f : Map Msp → Map Msp) : (s.modMsp f).fce = s.fce := rfl
@[simp] theorem State.modMsp_dlk (f : Map Msp → Map Msp) : (s.modMsp f).dlk = s.dlk := rfl
@[simp] theorem State.modMsp_mid (f : Map Msp → Map Msp) : (s.modMsp f).mid = s.mid := rfl
@[simp] theorem State.modMsp_msp (f : Map Msp → Map Msp) : (s.modMsp f).msp = f s.msp := rfl
@[simp] theorem State.modMsp_sage (f : Map Msp → Map Msp) : (s.modMsp f).sage = s.sage := rfl
@[simp] theorem State.modMsp_dawn (f : Map Msp → Map Msp) : (s.modMsp f).dawn = s.dawn := rfl
@[simp] theorem State.modMsp_pcie (f : Map Msp → Map Msp) : (s.modMsp f).pcie = s.pcie := rfl
@[simp] theorem State.modMsp_dbg (f : Map Msp → Map Msp) : (s.modMsp f).dbg = s.dbg := rfl

@[simp] theorem State.modSage_pending (f : Sage → Sage) : (s.modSage f).pending = s.pending := rfl
@[simp] theorem State.modSage_time (f : Sage → Sage) : (s.modSage f).time = s.time := rfl
@[simp] theorem State.modSage_frac (f : Sage → Sage) : (s.modSage f).frac = s.frac := rfl
@[simp] theorem State.modSage_free (f : Sage → Sage) : (s.modSage f).free = s.free := rfl
@[simp] theorem State.modSage_regs (f : Sage → Sage) : (s.modSage f).regs = s.regs := rfl
@[simp] theorem State.modSage_resp (f : Sage → Sage) : (s.modSage f).resp = s.resp := rfl
@[simp] theorem State.modSage_events (f : Sage → Sage) : (s.modSage f).events = s.events := rfl
@[simp] theorem State.modSage_tb (f : Sage → Sage) : (s.modSage f).tb = s.tb := rfl
@[simp] theorem State.modSage_fab (f : Sage → Sage) : (s.modSage f).fab = s.fab := rfl
@[simp] theorem State.modSage_ic (f : Sage → Sage) : (s.modSage f).ic = s.ic := rfl
@[simp] theorem State.modSage_noc (f : Sage → Sage) : (s.modSage f).noc = s.noc := rfl
@[simp] theorem State.modSage_thy (f : Sage → Sage) : (s.modSage f).thy = s.thy := rfl
@[simp] theorem State.modSage_mem (f : Sage → Sage) : (s.modSage f).mem = s.mem := rfl
@[simp] theorem State.modSage_chip (f : Sage → Sage) : (s.modSage f).chip = s.chip := rfl
@[simp] theorem State.modSage_lpx (f : Sage → Sage) : (s.modSage f).lpx = s.lpx := rfl
@[simp] theorem State.modSage_lanes (f : Sage → Sage) : (s.modSage f).lanes = s.lanes := rfl
@[simp] theorem State.modSage_tio (f : Sage → Sage) : (s.modSage f).tio = s.tio := rfl
@[simp] theorem State.modSage_pge (f : Sage → Sage) : (s.modSage f).pge = s.pge := rfl
@[simp] theorem State.modSage_fce (f : Sage → Sage) : (s.modSage f).fce = s.fce := rfl
@[simp] theorem State.modSage_dlk (f : Sage → Sage) : (s.modSage f).dlk = s.dlk := rfl
@[simp] theorem State.modSage_mid (f : Sage → Sage) : (s.modSage f).mid = s.mid := rfl
@[simp] theorem State.modSage_msp (f : Sage → Sage) : (s.modSage f).msp = s.msp := rfl
@[simp] theorem State.modSage_sage (f : Sage → Sage) : (s.modSage f).sage = f s.sage := rfl
@[simp] theorem State.modSage_dawn (f : Sage → Sage) : (s.modSage f).dawn = s.dawn := rfl
@[simp] theorem State.modSage_pcie (f : Sage → Sage) : (s.modSage f).pcie = s.pcie := rfl
@[simp] theorem State.modSage_dbg (f : Sage → Sage) : (s.modSage f).dbg = s.dbg := rfl

@[simp] theorem State.modDawn_pending (f : Dawn → Dawn) : (s.modDawn f).pending = s.pending := rfl
@[simp] theorem State.modDawn_time (f : Dawn → Dawn) : (s.modDawn f).time = s.time := rfl
@[simp] theorem State.modDawn_frac (f : Dawn → Dawn) : (s.modDawn f).frac = s.frac := rfl
@[simp] theorem State.modDawn_free (f : Dawn → Dawn) : (s.modDawn f).free = s.free := rfl
@[simp] theorem State.modDawn_regs (f : Dawn → Dawn) : (s.modDawn f).regs = s.regs := rfl
@[simp] theorem State.modDawn_resp (f : Dawn → Dawn) : (s.modDawn f).resp = s.resp := rfl
@[simp] theorem State.modDawn_events (f : Dawn → Dawn) : (s.modDawn f).events = s.events := rfl
@[simp] theorem State.modDawn_tb (f : Dawn → Dawn) : (s.modDawn f).tb = s.tb := rfl
@[simp] theorem State.modDawn_fab (f : Dawn → Dawn) : (s.modDawn f).fab = s.fab := rfl
@[simp] theorem State.modDawn_ic (f : Dawn → Dawn) : (s.modDawn f).ic = s.ic := rfl
@[simp] theorem State.modDawn_noc (f : Dawn → Dawn) : (s.modDawn f).noc = s.noc := rfl
@[simp] theorem State.modDawn_thy (f : Dawn → Dawn) : (s.modDawn f).thy = s.thy := rfl
@[simp] theorem State.modDawn_mem (f : Dawn → Dawn) : (s.modDawn f).mem = s.mem := rfl
@[simp] theorem State.modDawn_chip (f : Dawn → Dawn) : (s.modDawn f).chip = s.chip := rfl
@[simp] theorem State.modDawn_lpx (f : Dawn → Dawn) : (s.modDawn f).lpx = s.lpx := rfl
@[simp] theorem State.modDawn_lanes (f : Dawn → Dawn) : (s.modDawn f).lanes = s.lanes := rfl
@[simp] theorem State.modDawn_tio (f : Dawn → Dawn) : (s.modDawn f).tio = s.tio := rfl
@[simp] theorem State.modDawn_pge (f : Dawn → Dawn) : (s.modDawn f).pge = s.pge := rfl
@[simp] theorem State.modDawn_fce (f : Dawn → Dawn) : (s.modDawn f).fce = s.fce := rfl
@[simp] theorem State.modDawn_dlk (f : Dawn → Dawn) : (s.modDawn f).dlk = s.dlk := rfl
@[simp] theorem State.modDawn_mid (f : Dawn → Dawn) : (s.modDawn f).mid = s.mid := rfl
@[simp] theorem State.modDawn_msp (f : Dawn → Dawn) : (s.modDawn f).msp = s.msp := rfl
@[simp] theorem State.modDawn_sage (f : Dawn → Dawn) : (s.modDawn f).sage = s.sage := rfl
@[simp] theorem State.modDawn_dawn (f : Dawn → Dawn) : (s.modDawn f).dawn = f s.dawn := rfl
@[simp] theorem State.modDawn_pcie (f : Dawn → Dawn) : (s.modDawn f).pcie = s.pcie := rfl
@[simp] theorem State.modDawn_dbg (f : Dawn → Dawn) : (s.modDawn f).dbg = s.dbg := rfl

@[simp] theorem State.modPcie_pending (f : Pcie → Pcie) : (s.modPcie f).pending = s.pending := rfl
@[simp] theorem State.modPcie_time (f : Pcie → Pcie) : (s.modPcie f).time = s.time := rfl
@[simp] theorem State.modPcie_frac (f : Pcie → Pcie) : (s.modPcie f).frac = s.frac := rfl
@[simp] theorem State.modPcie_free (f : Pcie → Pcie) : (s.modPcie f).free = s.free := rfl
@[simp] theorem State.modPcie_regs (f : Pcie → Pcie) : (s.modPcie f).regs = s.regs := rfl
@[simp] theorem State.modPcie_resp (f : Pcie → Pcie) : (s.modPcie f).resp = s.resp := rfl
@[simp] theorem State.modPcie_events (f : Pcie → Pcie) : (s.modPcie f).events = s.events := rfl
@[simp] theorem State.modPcie_tb (f : Pcie → Pcie) : (s.modPcie f).tb = s.tb := rfl
@[simp] theorem State.modPcie_fab (f : Pcie → Pcie) : (s.modPcie f).fab = s.fab := rfl
@[simp] theorem State.modPcie_ic (f : Pcie → Pcie) : (s.modPcie f).ic = s.ic := rfl
@[simp] theorem State.modPcie_noc (f : Pcie → Pcie) : (s.modPcie f).noc = s.noc := rfl
@[simp] theorem State.modPcie_thy (f : Pcie → Pcie) : (s.modPcie f).thy = s.thy := rfl
@[simp] theorem State.modPcie_mem (f : Pcie → Pcie) : (s.modPcie f).mem = s.mem := rfl
@[simp] theorem State.modPcie_chip (f : Pcie → Pcie) : (s.modPcie f).chip = s.chip := rfl
@[simp] theorem State.modPcie_lpx (f : Pcie → Pcie) : (s.modPcie f).lpx = s.lpx := rfl
@[simp] theorem State.modPcie_lanes (f : Pcie → Pcie) : (s.modPcie f).lanes = s.lanes := rfl
@[simp] theorem State.modPcie_tio (f : Pcie → Pcie) : (s.modPcie f).tio = s.tio := rfl
@[simp] theorem State.modPcie_pge (f : Pcie → Pcie) : (s.modPcie f).pge = s.pge := rfl
@[simp] theorem State.modPcie_fce (f : Pcie → Pcie) : (s.modPcie f).fce = s.fce := rfl
@[simp] theorem State.modPcie_dlk (f : Pcie → Pcie) : (s.modPcie f).dlk = s.dlk := rfl
@[simp] theorem State.modPcie_mid (f : Pcie → Pcie) : (s.modPcie f).mid = s.mid := rfl
@[simp] theorem State.modPcie_msp (f : Pcie → Pcie) : (s.modPcie f).msp = s.msp := rfl
@[simp] theorem State.modPcie_sage (f : Pcie → Pcie) : (s.modPcie f).sage = s.sage := rfl
@[simp] theorem State.modPcie_dawn (f : Pcie → Pcie) : (s.modPcie f).dawn = s.dawn := rfl
@[simp] theorem State.modPcie_pcie (f : Pcie → Pcie) : (s.modPcie f).pcie = f s.pcie := rfl
@[simp] theorem State.modPcie_dbg (f : Pcie → Pcie) : (s.modPcie f).dbg = s.dbg := rfl

@[simp] theorem State.modDbg_pending (f : Dbg → Dbg) : (s.modDbg f).pending = s.pending := rfl
@[simp] theorem State.modDbg_time (f : Dbg → Dbg) : (s.modDbg f).time = s.time := rfl
@[simp] theorem State.modDbg_frac (f : Dbg → Dbg) : (s.modDbg f).frac = s.frac := rfl
@[simp] theorem State.modDbg_free (f : Dbg → Dbg) : (s.modDbg f).free = s.free := rfl
@[simp] theorem State.modDbg_regs (f : Dbg → Dbg) : (s.modDbg f).regs = s.regs := rfl
@[simp] theorem State.modDbg_resp (f : Dbg → Dbg) : (s.modDbg f).resp = s.resp := rfl
@[simp] theorem State.modDbg_events (f : Dbg → Dbg) : (s.modDbg f).events = s.events := rfl
@[simp] theorem State.modDbg_tb (f : Dbg → Dbg) : (s.modDbg f).tb = s.tb := rfl
@[simp] theorem State.modDbg_fab (f : Dbg → Dbg) : (s.modDbg f).fab = s.fab := rfl
@[simp] theorem State.modDbg_ic (f : Dbg → Dbg) : (s.modDbg f).ic = s.ic := rfl
@[simp] theorem State.modDbg_noc (f : Dbg → Dbg) : (s.modDbg f).noc = s.noc := rfl
@[simp] theorem State.modDbg_thy (f : Dbg → Dbg) : (s.modDbg f).thy = s.thy := rfl
@[simp] theorem State.modDbg_mem (f : Dbg → Dbg) : (s.modDbg f).mem = s.mem := rfl
@[simp] theorem State.modDbg_chip (f : Dbg → Dbg) : (s.modDbg f).chip = s.chip := rfl
@[simp] theorem State.modDbg_lpx (f : Dbg → Dbg) : (s.modDbg f).lpx = s.lpx := rfl
@[simp] theorem State.modDbg_lanes (f : Dbg → Dbg) : (s.modDbg f).lanes = s.lanes := rfl
@[simp] theorem State.modDbg_tio (f : Dbg → Dbg) : (s.modDbg f).tio = s.tio := rfl
@[simp] theorem State.modDbg_pge (f : Dbg → Dbg) : (s.modDbg f).pge = s.pge := rfl
@[simp] theorem State.modDbg_fce (f : Dbg → Dbg) : (s.modDbg f).fce = s.fce := rfl
@[simp] theorem State.modDbg_dlk (f : Dbg → Dbg) : (s.modDbg f).dlk = s.dlk := rfl
@[simp] theorem State.modDbg_mid (f : Dbg → Dbg) : (s.modDbg f).mid = s.mid := rfl
@[simp] theorem State.modDbg_msp (f : Dbg → Dbg) : (s.modDbg f).msp = s.msp := rfl
@[simp] theorem State.modDbg_sage (f : Dbg → Dbg) : (s.modDbg f).sage = s.sage := rfl
@[simp] theorem State.modDbg_dawn (f : Dbg → Dbg) : (s.modDbg f).dawn = s.dawn := rfl
@[simp] theorem State.modDbg_pcie (f : Dbg → Dbg) : (s.modDbg f).pcie = s.pcie := rfl
@[simp] theorem State.modDbg_dbg (f : Dbg → Dbg) : (s.modDbg f).dbg = f s.dbg := rfl

end Sys2Proof.Machine
end

