-- ==== Sys2Proof/Laws/Kept/Base.lean ====
section
/-!
SUPPORT. That an operation leaves the queue and keeps the tables in canonical form: the laws of that relation, and each update of the state.
-/

namespace Sys2Proof.Machine

theorem Kept.refl (s : State) : Kept s s := ⟨rfl, id⟩

/-- The tables of a state are in canonical form. -/
theorem State.tidy_iff (s : State) :
    s.tidy = true ↔ Map.sortedFrom 0 s.regs = true ∧ Map.wf noWord s.mem = true ∧ Map.sortedFrom 0 s.events = true := by
  simp [State.tidy, and_assoc]

/-- An intermediate state is used only for being kept. -/
theorem Kept.cut {P : State → Prop} {r : State} (t : State) (h : Kept r t) (k : ∀ t, Kept r t → P t) : P t := k t h

/-- A fold of kept operations is kept. -/
theorem Kept.fold {α : Type} {r : State} {f : State → α → State} {l : List α} {s : State} (hf : ∀ u a, Kept r u → Kept r (f u a))
    (h : Kept r s) : Kept r (l.foldl f s) := by
  induction l generalizing s with
  | nil => exact h
  | cons a l ih => exact ih (hf s a h)

/-- A fold whose second component is kept. -/
theorem Kept.fold2 {α β : Type} {r : State} {f : β × State → α → β × State} {l : List α} {p : β × State}
    (hf : ∀ u a, Kept r u.2 → Kept r (f u a).2) (h : Kept r p.2) : Kept r (l.foldl f p).2 := by
  induction l generalizing p with
  | nil => exact h
  | cons a l ih => exact ih (hf p a h)

/-- A fold whose first component is kept. -/
theorem Kept.fold1 {α β : Type} {r : State} {f : State × β → α → State × β} {l : List α} {p : State × β}
    (hf : ∀ u a, Kept r u.1 → Kept r (f u a).1) (h : Kept r p.1) : Kept r (l.foldl f p).1 := by
  induction l generalizing p with
  | nil => exact h
  | cons a l ih => exact ih (hf p a h)

/-- A command's answer keeps what its next state keeps. -/
structure KeptR (r : State) (o : Result) : Prop where
  kept : ∀ t, o = .next t → Kept r t

theorem KeptR.next {r t : State} (h : Kept r t) : KeptR r (.next t) := ⟨fun _ e => by cases e; exact h⟩

/-- A choice between kept states is kept. -/
theorem Kept.ite {r a b : State} {c : Prop} [Decidable c] (ha : Kept r a) (hb : Kept r b) : Kept r (if c then a else b) := by
  split <;> assumption

theorem KeptR.ite {r : State} {a b : Result} {c : Prop} [Decidable c] (ha : KeptR r a) (hb : KeptR r b) : KeptR r (if c then a else b) := by
  split <;> assumption

/-- What changes none of the queue and the tables is kept. -/
theorem Kept.of_eq {r s t : State} (h : Kept r s) (hp : t.pending = s.pending) (hr : t.regs = s.regs) (hm : t.mem = s.mem)
    (he : t.events = s.events) : Kept r t := by
  refine ⟨hp.trans h.1, fun ht => ?_⟩
  have := h.2 ht
  rw [State.tidy_iff] at *
  rw [hr, hm, he]; exact this

theorem State.modTime_kept {r s : State} {f : BitVec 64 → BitVec 64} (h : Kept r s) : Kept r (s.modTime f) := h.of_eq rfl rfl rfl rfl
theorem State.modFrac_kept {r s : State} {f : BitVec 32 → BitVec 32} (h : Kept r s) : Kept r (s.modFrac f) := h.of_eq rfl rfl rfl rfl
theorem State.modFree_kept {r s : State} {f : Nat → Nat} (h : Kept r s) : Kept r (s.modFree f) := h.of_eq rfl rfl rfl rfl
theorem State.modResp_kept {r s : State} {f : Resp → Resp} (h : Kept r s) : Kept r (s.modResp f) := h.of_eq rfl rfl rfl rfl
theorem State.modTb_kept {r s : State} {f : TimeBase → TimeBase} (h : Kept r s) : Kept r (s.modTb f) := h.of_eq rfl rfl rfl rfl
theorem State.modFab_kept {r s : State} {f : Fabric → Fabric} (h : Kept r s) : Kept r (s.modFab f) := h.of_eq rfl rfl rfl rfl
theorem State.modIc_kept {r s : State} {f : Interconnect → Interconnect} (h : Kept r s) : Kept r (s.modIc f) := h.of_eq rfl rfl rfl rfl
theorem State.modNoc_kept {r s : State} {f : Noc → Noc} (h : Kept r s) : Kept r (s.modNoc f) := h.of_eq rfl rfl rfl rfl
theorem State.modThy_kept {r s : State} {f : Thyme → Thyme} (h : Kept r s) : Kept r (s.modThy f) := h.of_eq rfl rfl rfl rfl
theorem State.modChip_kept {r s : State} {f : OnChip → OnChip} (h : Kept r s) : Kept r (s.modChip f) := h.of_eq rfl rfl rfl rfl
theorem State.modLpx_kept {r s : State} {f : Map Lpx → Map Lpx} (h : Kept r s) : Kept r (s.modLpx f) := h.of_eq rfl rfl rfl rfl
theorem State.modLanes_kept {r s : State} {f : Lanes → Lanes} (h : Kept r s) : Kept r (s.modLanes f) := h.of_eq rfl rfl rfl rfl
theorem State.modTio_kept {r s : State} {f : Tio → Tio} (h : Kept r s) : Kept r (s.modTio f) := h.of_eq rfl rfl rfl rfl
theorem State.modPge_kept {r s : State} {f : Map Pge → Map Pge} (h : Kept r s) : Kept r (s.modPge f) := h.of_eq rfl rfl rfl rfl
theorem State.modFce_kept {r s : State} {f : Map Fce → Map Fce} (h : Kept r s) : Kept r (s.modFce f) := h.of_eq rfl rfl rfl rfl
theorem State.modDlk_kept {r s : State} {f : DieLinks → DieLinks} (h : Kept r s) : Kept r (s.modDlk f) := h.of_eq rfl rfl rfl rfl
theorem State.modMid_kept {r s : State} {f : List MidTest → List MidTest} (h : Kept r s) : Kept r (s.modMid f) := h.of_eq rfl rfl rfl rfl
theorem State.modMsp_kept {r s : State} {f : Map Msp → Map Msp} (h : Kept r s) : Kept r (s.modMsp f) := h.of_eq rfl rfl rfl rfl
theorem State.modSage_kept {r s : State} {f : Sage → Sage} (h : Kept r s) : Kept r (s.modSage f) := h.of_eq rfl rfl rfl rfl
theorem State.modDawn_kept {r s : State} {f : Dawn → Dawn} (h : Kept r s) : Kept r (s.modDawn f) := h.of_eq rfl rfl rfl rfl
theorem State.modPcie_kept {r s : State} {f : Pcie → Pcie} (h : Kept r s) : Kept r (s.modPcie f) := h.of_eq rfl rfl rfl rfl
theorem State.modDbg_kept {r s : State} {f : Dbg → Dbg} (h : Kept r s) : Kept r (s.modDbg f) := h.of_eq rfl rfl rfl rfl

/-- A table of which entries are left out stays sorted. -/
theorem Map.sortedFrom_filter {α : Type} (p : Nat × α → Bool) (m : Map α) (a : Nat) (h : Map.sortedFrom a m = true) :
    Map.sortedFrom a (m.filter p) = true := by
  induction m generalizing a with
  | nil => rfl
  | cons e m ih =>
    obtain ⟨k, v⟩ := e
    simp only [Map.sortedFrom, Bool.and_eq_true, decide_eq_true_eq] at h
    rw [List.filter_cons]
    split
    · simp only [Map.sortedFrom, Bool.and_eq_true, decide_eq_true_eq]
      exact ⟨h.1, ih _ h.2⟩
    · exact Map.sortedFrom_weaken _ (ih _ h.2) (Nat.le_succ_of_le h.1)

/-- A table of which entries are left out stays in canonical form. -/
theorem Map.wf_filter {α : Type} [DecidableEq α] (d : α) (p : Nat × α → Bool) (m : Map α) (h : Map.wf d m = true) :
    Map.wf d (m.filter p) = true := by
  simp only [Map.wf, Bool.and_eq_true, List.all_eq_true] at *
  exact ⟨Map.sortedFrom_filter p m 0 h.1, fun e he => h.2 e (List.mem_filter.mp he).1⟩

/-- Registers replaced by an operation that keeps them sorted. -/
theorem State.modRegs_kept {r s : State} {f : Map Nat → Map Nat} (h : Kept r s)
    (hf : ∀ m, Map.sortedFrom 0 m = true → Map.sortedFrom 0 (f m) = true) : Kept r (s.modRegs f) := by
  refine ⟨h.1, fun ht => ?_⟩
  have := (State.tidy_iff _).mp (h.2 ht)
  exact (State.tidy_iff _).mpr ⟨hf _ this.1, this.2.1, this.2.2⟩

/-- Memory replaced by an operation that keeps its canonical form. -/
theorem State.modMem_kept {r s : State} {f : Map MemWord → Map MemWord} (h : Kept r s)
    (hf : ∀ m, Map.wf noWord m = true → Map.wf noWord (f m) = true) : Kept r (s.modMem f) := by
  refine ⟨h.1, fun ht => ?_⟩
  have := (State.tidy_iff _).mp (h.2 ht)
  exact (State.tidy_iff _).mpr ⟨this.1, hf _ this.2.1, this.2.2⟩

/-- Event records replaced by an operation that keeps them sorted. -/
theorem State.modEvents_kept {r s : State} {f : Map EventRec → Map EventRec} (h : Kept r s)
    (hf : ∀ m, Map.sortedFrom 0 m = true → Map.sortedFrom 0 (f m) = true) : Kept r (s.modEvents f) := by
  refine ⟨h.1, fun ht => ?_⟩
  have := (State.tidy_iff _).mp (h.2 ht)
  exact (State.tidy_iff _).mpr ⟨this.1, this.2.1, hf _ this.2.2⟩

end Sys2Proof.Machine
end

