-- ==== Sys2Proof/Laws/Kept/Ops.lean ====
section
/-!
SUPPORT. Every operation of Machine/Ops.lean leaves the queue and keeps the tables in canonical form.
-/

set_option linter.unreachableTactic false
set_option linter.unusedTactic false
set_option linter.unusedVariables false

namespace Sys2Proof.Machine

theorem State.setR_kept {r : State} (s : State) (f : Field) (i v : Nat) (h0 : Kept r s) : Kept r (State.setR s f i v) :=
  State.modRegs_kept h0 fun m hm => Map.sorted_set _ m _ _ hm

theorem State.resetR_kept {r₀ : State} (s : State) (f : Field) (i : Nat) (h0 : Kept r₀ s) : Kept r₀ (State.resetR s f i) := by
  unfold State.resetR
  repeat' (first | with_reducible assumption | (intro t; first | (with_reducible refine Kept.cut t ?_ ?_; unfold t) | beta_reduce | skip) | with_reducible apply State.setR_kept | with_reducible apply Kept.ite | with_reducible apply Kept.fold | with_reducible apply Kept.fold2 | with_reducible apply Kept.fold1 | (lift_lets; intro t; first | (with_reducible refine Kept.cut t ?_ ?_; unfold t) | skip) | dsimp -zeta only | split | dsimp +zetaDelta only)

theorem State.satAdd_kept {r₀ : State} (s : State) (f : Field) (i n : Nat) (h0 : Kept r₀ s) : Kept r₀ (State.satAdd s f i n) := by
  unfold State.satAdd
  repeat' (first | with_reducible assumption | (intro t; first | (with_reducible refine Kept.cut t ?_ ?_; unfold t) | beta_reduce | skip) | with_reducible apply State.setR_kept | with_reducible apply Kept.ite | with_reducible apply Kept.fold | with_reducible apply Kept.fold2 | with_reducible apply Kept.fold1 | (lift_lets; intro t; first | (with_reducible refine Kept.cut t ?_ ?_; unfold t) | skip) | dsimp -zeta only | split | dsimp +zetaDelta only)

theorem State.wrapAdd_kept {r₀ : State} (s : State) (f : Field) (i n : Nat) (h0 : Kept r₀ s) : Kept r₀ (State.wrapAdd s f i n) := by
  unfold State.wrapAdd
  repeat' (first | with_reducible assumption | (intro t; first | (with_reducible refine Kept.cut t ?_ ?_; unfold t) | beta_reduce | skip) | with_reducible apply State.setR_kept | with_reducible apply Kept.ite | with_reducible apply Kept.fold | with_reducible apply Kept.fold2 | with_reducible apply Kept.fold1 | (lift_lets; intro t; first | (with_reducible refine Kept.cut t ?_ ?_; unfold t) | skip) | dsimp -zeta only | split | dsimp +zetaDelta only)

theorem State.setEach_kept {r₀ : State} (s : State) (f : Field) (is : List Nat) (v : Nat) (h0 : Kept r₀ s) : Kept r₀ (State.setEach s f is v) := by
  unfold State.setEach
  repeat' (first | with_reducible assumption | (intro t; first | (with_reducible refine Kept.cut t ?_ ?_; unfold t) | beta_reduce | skip) | with_reducible apply State.setR_kept | with_reducible apply Kept.ite | with_reducible apply Kept.fold | with_reducible apply Kept.fold2 | with_reducible apply Kept.fold1 | (lift_lets; intro t; first | (with_reducible refine Kept.cut t ?_ ?_; unfold t) | skip) | dsimp -zeta only | split | dsimp +zetaDelta only)

theorem State.resetFields_kept {r₀ : State} (s : State) (fs : List Field) (i : Nat) (h0 : Kept r₀ s) : Kept r₀ (State.resetFields s fs i) := by
  unfold State.resetFields
  repeat' (first | with_reducible assumption | (intro t; first | (with_reducible refine Kept.cut t ?_ ?_; unfold t) | beta_reduce | skip) | with_reducible apply State.resetR_kept | with_reducible apply Kept.ite | with_reducible apply Kept.fold | with_reducible apply Kept.fold2 | with_reducible apply Kept.fold1 | (lift_lets; intro t; first | (with_reducible refine Kept.cut t ?_ ?_; unfold t) | skip) | dsimp -zeta only | split | dsimp +zetaDelta only)

theorem State.resetRange_kept {r : State} (s : State) (fs : List Field) (lo n : Nat) (h0 : Kept r s) : Kept r (State.resetRange s fs lo n) :=
  State.modRegs_kept h0 fun m hm => Map.sortedFrom_filter _ m _ hm

theorem State.markCommit_kept {r₀ : State} (s : State) (f : Field) (i : Nat) (h0 : Kept r₀ s) : Kept r₀ (State.markCommit s f i) := by
  unfold State.markCommit
  repeat' (first | with_reducible assumption | (intro t; first | (with_reducible refine Kept.cut t ?_ ?_; unfold t) | beta_reduce | skip) | with_reducible apply State.setR_kept | with_reducible apply Kept.ite | with_reducible apply Kept.fold | with_reducible apply Kept.fold2 | with_reducible apply Kept.fold1 | (lift_lets; intro t; first | (with_reducible refine Kept.cut t ?_ ?_; unfold t) | skip) | dsimp -zeta only | split | dsimp +zetaDelta only)

theorem State.draw_kept {r₀ : State} (s : State) (h0 : Kept r₀ s) : Kept r₀ (State.draw s) := by
  unfold State.draw
  repeat' (first | with_reducible assumption | (intro t; first | (with_reducible refine Kept.cut t ?_ ?_; unfold t) | beta_reduce | skip) | with_reducible apply State.modFree_kept | with_reducible apply Kept.ite | with_reducible apply Kept.fold | with_reducible apply Kept.fold2 | with_reducible apply Kept.fold1 | (lift_lets; intro t; first | (with_reducible refine Kept.cut t ?_ ?_; unfold t) | skip) | dsimp -zeta only | split | dsimp +zetaDelta only)

theorem State.irqEdge_kept {r₀ : State} (s : State) (n : Nat) (h0 : Kept r₀ s) : Kept r₀ (State.irqEdge s n) := by
  unfold State.irqEdge
  repeat' (first | with_reducible assumption | (intro t; first | (with_reducible refine Kept.cut t ?_ ?_; unfold t) | beta_reduce | skip) | with_reducible apply State.satAdd_kept | with_reducible apply State.setR_kept | with_reducible apply Kept.ite | with_reducible apply Kept.fold | with_reducible apply Kept.fold2 | with_reducible apply Kept.fold1 | (lift_lets; intro t; first | (with_reducible refine Kept.cut t ?_ ?_; unfold t) | skip) | dsimp -zeta only | split | dsimp +zetaDelta only)

theorem State.irqLevel_kept {r₀ : State} (s : State) (n : Nat) (v : Bool) (h0 : Kept r₀ s) : Kept r₀ (State.irqLevel s n v) := by
  unfold State.irqLevel
  repeat' (first | with_reducible assumption | (intro t; first | (with_reducible refine Kept.cut t ?_ ?_; unfold t) | beta_reduce | skip) | with_reducible apply State.setR_kept | with_reducible apply Kept.ite | with_reducible apply Kept.fold | with_reducible apply Kept.fold2 | with_reducible apply Kept.fold1 | (lift_lets; intro t; first | (with_reducible refine Kept.cut t ?_ ?_; unfold t) | skip) | dsimp -zeta only | split | dsimp +zetaDelta only)

theorem State.enterSt_kept {r₀ : State} (s : State) (f : Field) (i v src : Nat) (fin : List Nat) (h0 : Kept r₀ s) : Kept r₀ (State.enterSt s f i v src fin) := by
  unfold State.enterSt
  repeat' (first | with_reducible assumption | (intro t; first | (with_reducible refine Kept.cut t ?_ ?_; unfold t) | beta_reduce | skip) | with_reducible apply State.irqEdge_kept | with_reducible apply State.setR_kept | with_reducible apply Kept.ite | with_reducible apply Kept.fold | with_reducible apply Kept.fold2 | with_reducible apply Kept.fold1 | (lift_lets; intro t; first | (with_reducible refine Kept.cut t ?_ ?_; unfold t) | skip) | dsimp -zeta only | split | dsimp +zetaDelta only)

theorem State.pgeSt_kept {r₀ : State} (s : State) (n v : Nat) (h0 : Kept r₀ s) : Kept r₀ (State.pgeSt s n v) := by
  unfold State.pgeSt
  repeat' (first | with_reducible assumption | (intro t; first | (with_reducible refine Kept.cut t ?_ ?_; unfold t) | beta_reduce | skip) | with_reducible apply State.enterSt_kept | with_reducible apply Kept.ite | with_reducible apply Kept.fold | with_reducible apply Kept.fold2 | with_reducible apply Kept.fold1 | (lift_lets; intro t; first | (with_reducible refine Kept.cut t ?_ ?_; unfold t) | skip) | dsimp -zeta only | split | dsimp +zetaDelta only)

theorem State.fceSt_kept {r₀ : State} (s : State) (n v : Nat) (h0 : Kept r₀ s) : Kept r₀ (State.fceSt s n v) := by
  unfold State.fceSt
  repeat' (first | with_reducible assumption | (intro t; first | (with_reducible refine Kept.cut t ?_ ?_; unfold t) | beta_reduce | skip) | with_reducible apply State.enterSt_kept | with_reducible apply Kept.ite | with_reducible apply Kept.fold | with_reducible apply Kept.fold2 | with_reducible apply Kept.fold1 | (lift_lets; intro t; first | (with_reducible refine Kept.cut t ?_ ?_; unfold t) | skip) | dsimp -zeta only | split | dsimp +zetaDelta only)

theorem State.mspSt_kept {r₀ : State} (s : State) (m v : Nat) (h0 : Kept r₀ s) : Kept r₀ (State.mspSt s m v) := by
  unfold State.mspSt
  repeat' (first | with_reducible assumption | (intro t; first | (with_reducible refine Kept.cut t ?_ ?_; unfold t) | beta_reduce | skip) | with_reducible apply State.enterSt_kept | with_reducible apply Kept.ite | with_reducible apply Kept.fold | with_reducible apply Kept.fold2 | with_reducible apply Kept.fold1 | (lift_lets; intro t; first | (with_reducible refine Kept.cut t ?_ ?_; unfold t) | skip) | dsimp -zeta only | split | dsimp +zetaDelta only)

theorem State.tioSt_kept {r₀ : State} (s : State) (b v : Nat) (h0 : Kept r₀ s) : Kept r₀ (State.tioSt s b v) := by
  unfold State.tioSt
  repeat' (first | with_reducible assumption | (intro t; first | (with_reducible refine Kept.cut t ?_ ?_; unfold t) | beta_reduce | skip) | with_reducible apply State.enterSt_kept | with_reducible apply Kept.ite | with_reducible apply Kept.fold | with_reducible apply Kept.fold2 | with_reducible apply Kept.fold1 | (lift_lets; intro t; first | (with_reducible refine Kept.cut t ?_ ?_; unfold t) | skip) | dsimp -zeta only | split | dsimp +zetaDelta only)

theorem State.dclSt_kept {r₀ : State} (s : State) (l v : Nat) (h0 : Kept r₀ s) : Kept r₀ (State.dclSt s l v) := by
  unfold State.dclSt
  repeat' (first | with_reducible assumption | (intro t; first | (with_reducible refine Kept.cut t ?_ ?_; unfold t) | beta_reduce | skip) | with_reducible apply State.enterSt_kept | with_reducible apply Kept.ite | with_reducible apply Kept.fold | with_reducible apply Kept.fold2 | with_reducible apply Kept.fold1 | (lift_lets; intro t; first | (with_reducible refine Kept.cut t ?_ ?_; unfold t) | skip) | dsimp -zeta only | split | dsimp +zetaDelta only)

theorem State.lpxSt_kept {r₀ : State} (s : State) (n v : Nat) (h0 : Kept r₀ s) : Kept r₀ (State.lpxSt s n v) := by
  unfold State.lpxSt
  repeat' (first | with_reducible assumption | (intro t; first | (with_reducible refine Kept.cut t ?_ ?_; unfold t) | beta_reduce | skip) | with_reducible apply State.enterSt_kept | with_reducible apply Kept.ite | with_reducible apply Kept.fold | with_reducible apply Kept.fold2 | with_reducible apply Kept.fold1 | (lift_lets; intro t; first | (with_reducible refine Kept.cut t ?_ ?_; unfold t) | skip) | dsimp -zeta only | split | dsimp +zetaDelta only)

theorem State.cpySt_kept {r₀ : State} (s : State) (k v : Nat) (h0 : Kept r₀ s) : Kept r₀ (State.cpySt s k v) := by
  unfold State.cpySt
  repeat' (first | with_reducible assumption | (intro t; first | (with_reducible refine Kept.cut t ?_ ?_; unfold t) | beta_reduce | skip) | with_reducible apply State.enterSt_kept | with_reducible apply Kept.ite | with_reducible apply Kept.fold | with_reducible apply Kept.fold2 | with_reducible apply Kept.fold1 | (lift_lets; intro t; first | (with_reducible refine Kept.cut t ?_ ?_; unfold t) | skip) | dsimp -zeta only | split | dsimp +zetaDelta only)

theorem raiseIn_sorted (m : Map EventRec) (key time sev detail : Nat) (h : Map.sortedFrom 0 m = true) :
    Map.sortedFrom 0 (raiseIn m key time sev detail) = true := by
  unfold raiseIn
  split <;> exact Map.sortedFrom_put _ _ _ _ h (Nat.zero_le _)

theorem State.raise_kept {r : State} (s : State) (source code sev detail : Nat) (h0 : Kept r s) : Kept r (State.raise s source code sev detail) :=
  State.modEvents_kept h0 fun m hm => raiseIn_sorted m _ _ _ _ hm

theorem State.respond_kept {r₀ : State} (s : State) (data status : Nat) (poison : Bool) (h0 : Kept r₀ s) : Kept r₀ (State.respond s data status poison) := by
  unfold State.respond
  repeat' (first | with_reducible assumption | (intro t; first | (with_reducible refine Kept.cut t ?_ ?_; unfold t) | beta_reduce | skip) | with_reducible apply State.modResp_kept | with_reducible apply Kept.ite | with_reducible apply Kept.fold | with_reducible apply Kept.fold2 | with_reducible apply Kept.fold1 | (lift_lets; intro t; first | (with_reducible refine Kept.cut t ?_ ?_; unfold t) | skip) | dsimp -zeta only | split | dsimp +zetaDelta only)

theorem State.decodeError_kept {r₀ : State} (s : State) (source addr req : Nat) (h0 : Kept r₀ s) : Kept r₀ (State.decodeError s source addr req) := by
  unfold State.decodeError
  repeat' (first | with_reducible assumption | (intro t; first | (with_reducible refine Kept.cut t ?_ ?_; unfold t) | beta_reduce | skip) | with_reducible apply State.raise_kept | with_reducible apply State.respond_kept | with_reducible apply Kept.ite | with_reducible apply Kept.fold | with_reducible apply Kept.fold2 | with_reducible apply Kept.fold1 | (lift_lets; intro t; first | (with_reducible refine Kept.cut t ?_ ?_; unfold t) | skip) | dsimp -zeta only | split | dsimp +zetaDelta only)

end Sys2Proof.Machine
end

