-- ==== Sys2Proof/Laws/Kept/Memory.lean ====
section
/-!
SUPPORT. Every operation of Machine/Memory.lean leaves the queue and keeps the tables in canonical form.
-/

set_option linter.unreachableTactic false
set_option linter.unusedTactic false
set_option linter.unusedVariables false

namespace Sys2Proof.Machine

theorem State.putWord_kept {r : State} (s : State) (k : Nat) (w : MemWord) (h0 : Kept r s) : Kept r (State.putWord s k w) :=
  State.modMem_kept h0 fun m hm => Map.wf_set _ m _ _ hm

theorem State.coreFault_kept {r₀ : State} (s : State) (req a : Nat) (write : Bool) (h0 : Kept r₀ s) : Kept r₀ (State.coreFault s req a write) := by
  unfold State.coreFault
  repeat' (first | with_reducible assumption | (intro t; first | (with_reducible refine Kept.cut t ?_ ?_; unfold t) | beta_reduce | skip) | with_reducible apply State.setR_kept | with_reducible apply Kept.ite | with_reducible apply Kept.fold | with_reducible apply Kept.fold2 | with_reducible apply Kept.fold1 | (lift_lets; intro t; first | (with_reducible refine Kept.cut t ?_ ?_; unfold t) | skip) | dsimp -zeta only | split | dsimp +zetaDelta only)

theorem State.coreTakes_kept {r₀ : State} (s : State) (req a : Nat) (write : Bool) (h0 : Kept r₀ s) : Kept r₀ (State.coreTakes s req a write) := by
  unfold State.coreTakes
  repeat' (first | with_reducible assumption | (intro t; first | (with_reducible refine Kept.cut t ?_ ?_; unfold t) | beta_reduce | skip) | with_reducible apply State.coreFault_kept | with_reducible apply Kept.ite | with_reducible apply Kept.fold | with_reducible apply Kept.fold2 | with_reducible apply Kept.fold1 | (lift_lets; intro t; first | (with_reducible refine Kept.cut t ?_ ?_; unfold t) | skip) | dsimp -zeta only | split | dsimp +zetaDelta only)

theorem State.putTrk_kept {r₀ : State} (s : State) (bd : Nat) (l : List TrkEntry) (h0 : Kept r₀ s) : Kept r₀ (State.putTrk s bd l) := by
  unfold State.putTrk
  repeat' (first | with_reducible assumption | (intro t; first | (with_reducible refine Kept.cut t ?_ ?_; unfold t) | beta_reduce | skip) | with_reducible apply State.setR_kept | with_reducible apply State.modChip_kept | with_reducible apply Kept.ite | with_reducible apply Kept.fold | with_reducible apply Kept.fold2 | with_reducible apply Kept.fold1 | (lift_lets; intro t; first | (with_reducible refine Kept.cut t ?_ ?_; unfold t) | skip) | dsimp -zeta only | split | dsimp +zetaDelta only)

theorem State.remapWaits_kept {r₀ : State} (s : State) (u row : Nat) (h0 : Kept r₀ s) : Kept r₀ (State.remapWaits s u row) := by
  unfold State.remapWaits
  repeat' (first | with_reducible assumption | (intro t; first | (with_reducible refine Kept.cut t ?_ ?_; unfold t) | beta_reduce | skip) | with_reducible apply State.modChip_kept | with_reducible apply Kept.ite | with_reducible apply Kept.fold | with_reducible apply Kept.fold2 | with_reducible apply Kept.fold1 | (lift_lets; intro t; first | (with_reducible refine Kept.cut t ?_ ?_; unfold t) | skip) | dsimp -zeta only | split | dsimp +zetaDelta only)

theorem State.suspectRow_kept {r₀ : State} (s : State) (u row : Nat) (h0 : Kept r₀ s) : Kept r₀ (State.suspectRow s u row) := by
  unfold State.suspectRow
  repeat' (first | with_reducible assumption | (intro t; first | (with_reducible refine Kept.cut t ?_ ?_; unfold t) | beta_reduce | skip) | with_reducible apply State.raise_kept | with_reducible apply State.remapWaits_kept | with_reducible apply State.modChip_kept | with_reducible apply Kept.ite | with_reducible apply Kept.fold | with_reducible apply Kept.fold2 | with_reducible apply Kept.fold1 | (lift_lets; intro t; first | (with_reducible refine Kept.cut t ?_ ?_; unfold t) | skip) | dsimp -zeta only | split | dsimp +zetaDelta only)

theorem State.trkCount_kept {r₀ : State} (s : State) (u w : Nat) (h0 : Kept r₀ s) : Kept r₀ (State.trkCount s u w) := by
  unfold State.trkCount
  repeat' (first | with_reducible assumption | (intro t; first | (with_reducible refine Kept.cut t ?_ ?_; unfold t) | beta_reduce | skip) | with_reducible apply State.putTrk_kept | with_reducible apply State.satAdd_kept | with_reducible apply State.suspectRow_kept | with_reducible apply Kept.ite | with_reducible apply Kept.fold | with_reducible apply Kept.fold2 | with_reducible apply Kept.fold1 | (lift_lets; intro t; first | (with_reducible refine Kept.cut t ?_ ?_; unfold t) | skip) | dsimp -zeta only | split | with_reducible apply Map.sortedFrom_filter | with_reducible apply Map.wf_filter | dsimp +zetaDelta only)

theorem State.eccLast_kept {r₀ : State} (s : State) (u addr kind : Nat) (h0 : Kept r₀ s) : Kept r₀ (State.eccLast s u addr kind) := by
  unfold State.eccLast
  repeat' (first | with_reducible assumption | (intro t; first | (with_reducible refine Kept.cut t ?_ ?_; unfold t) | beta_reduce | skip) | with_reducible apply State.setR_kept | with_reducible apply Kept.ite | with_reducible apply Kept.fold | with_reducible apply Kept.fold2 | with_reducible apply Kept.fold1 | (lift_lets; intro t; first | (with_reducible refine Kept.cut t ?_ ?_; unfold t) | skip) | dsimp -zeta only | split | dsimp +zetaDelta only)

theorem State.ceCount_kept {r₀ : State} (s : State) (u : Nat) (h0 : Kept r₀ s) : Kept r₀ (State.ceCount s u) := by
  unfold State.ceCount
  repeat' (first | with_reducible assumption | (intro t; first | (with_reducible refine Kept.cut t ?_ ?_; unfold t) | beta_reduce | skip) | with_reducible apply State.satAdd_kept | with_reducible apply Kept.ite | with_reducible apply Kept.fold | with_reducible apply Kept.fold2 | with_reducible apply Kept.fold1 | (lift_lets; intro t; first | (with_reducible refine Kept.cut t ?_ ?_; unfold t) | skip) | dsimp -zeta only | split | dsimp +zetaDelta only)

theorem State.ueCount_kept {r₀ : State} (s : State) (u : Nat) (h0 : Kept r₀ s) : Kept r₀ (State.ueCount s u) := by
  unfold State.ueCount
  repeat' (first | with_reducible assumption | (intro t; first | (with_reducible refine Kept.cut t ?_ ?_; unfold t) | beta_reduce | skip) | with_reducible apply State.satAdd_kept | with_reducible apply Kept.ite | with_reducible apply Kept.fold | with_reducible apply Kept.fold2 | with_reducible apply Kept.fold1 | (lift_lets; intro t; first | (with_reducible refine Kept.cut t ?_ ?_; unfold t) | skip) | dsimp -zeta only | split | dsimp +zetaDelta only)

theorem State.memCe_kept {r₀ : State} (s : State) (u w bitNo req : Nat) (h0 : Kept r₀ s) : Kept r₀ (State.memCe s u w bitNo req) := by
  unfold State.memCe
  repeat' (first | with_reducible assumption | (intro t; first | (with_reducible refine Kept.cut t ?_ ?_; unfold t) | beta_reduce | skip) | with_reducible apply State.ceCount_kept | with_reducible apply State.eccLast_kept | with_reducible apply State.raise_kept | with_reducible apply State.trkCount_kept | with_reducible apply Kept.ite | with_reducible apply Kept.fold | with_reducible apply Kept.fold2 | with_reducible apply Kept.fold1 | (lift_lets; intro t; first | (with_reducible refine Kept.cut t ?_ ?_; unfold t) | skip) | dsimp -zeta only | split | dsimp +zetaDelta only)

theorem State.memUe_kept {r₀ : State} (s : State) (u w req : Nat) (h0 : Kept r₀ s) : Kept r₀ (State.memUe s u w req) := by
  unfold State.memUe
  repeat' (first | with_reducible assumption | (intro t; first | (with_reducible refine Kept.cut t ?_ ?_; unfold t) | beta_reduce | skip) | with_reducible apply State.eccLast_kept | with_reducible apply State.raise_kept | with_reducible apply State.ueCount_kept | with_reducible apply Kept.ite | with_reducible apply Kept.fold | with_reducible apply Kept.fold2 | with_reducible apply Kept.fold1 | (lift_lets; intro t; first | (with_reducible refine Kept.cut t ?_ ?_; unfold t) | skip) | dsimp -zeta only | split | dsimp +zetaDelta only)

theorem State.rqPush_kept {r₀ : State} (s : State) (u w : Nat) (ue : Bool) (h0 : Kept r₀ s) : Kept r₀ (State.rqPush s u w ue) := by
  unfold State.rqPush
  repeat' (first | with_reducible assumption | (intro t; first | (with_reducible refine Kept.cut t ?_ ?_; unfold t) | beta_reduce | skip) | with_reducible apply State.modChip_kept | with_reducible apply Kept.ite | with_reducible apply Kept.fold | with_reducible apply Kept.fold2 | with_reducible apply Kept.fold1 | (lift_lets; intro t; first | (with_reducible refine Kept.cut t ?_ ?_; unfold t) | skip) | dsimp -zeta only | split | dsimp +zetaDelta only)

theorem State.rqDrop_kept {r₀ : State} (s : State) (u w : Nat) (h0 : Kept r₀ s) : Kept r₀ (State.rqDrop s u w) := by
  unfold State.rqDrop
  repeat' (first | with_reducible assumption | (intro t; first | (with_reducible refine Kept.cut t ?_ ?_; unfold t) | beta_reduce | skip) | with_reducible apply State.modChip_kept | with_reducible apply Kept.ite | with_reducible apply Kept.fold | with_reducible apply Kept.fold2 | with_reducible apply Kept.fold1 | (lift_lets; intro t; first | (with_reducible refine Kept.cut t ?_ ?_; unfold t) | skip) | dsimp -zeta only | split | with_reducible apply Map.sortedFrom_filter | with_reducible apply Map.wf_filter | dsimp +zetaDelta only)

theorem State.unitRead_kept {r₀ : State} (s : State) (u w req : Nat) (up : Option Upset) (h0 : Kept r₀ s) : Kept r₀ (State.unitRead s u w req up).2 := by
  unfold State.unitRead
  repeat' (first | with_reducible assumption | (intro t; first | (with_reducible refine Kept.cut t ?_ ?_; unfold t) | beta_reduce | skip) | with_reducible apply State.memCe_kept | with_reducible apply State.memUe_kept | with_reducible apply State.putWord_kept | with_reducible apply State.rqPush_kept | with_reducible apply Kept.ite | with_reducible apply Kept.fold | with_reducible apply Kept.fold2 | with_reducible apply Kept.fold1 | (lift_lets; intro t; first | (with_reducible refine Kept.cut t ?_ ?_; unfold t) | skip) | dsimp -zeta only | split | dsimp +zetaDelta only)

theorem State.unitWrite_kept {r₀ : State} (s : State) (u w req : Nat) (new : BitVec 64) (be win : Nat) (poison : Bool) (h0 : Kept r₀ s) : Kept r₀ (State.unitWrite s u w req new be win poison) := by
  unfold State.unitWrite
  repeat' (first | with_reducible assumption | (intro t; first | (with_reducible refine Kept.cut t ?_ ?_; unfold t) | beta_reduce | skip) | with_reducible apply State.memCe_kept | with_reducible apply State.putWord_kept | with_reducible apply State.raise_kept | with_reducible apply State.rqDrop_kept | with_reducible apply Kept.ite | with_reducible apply Kept.fold | with_reducible apply Kept.fold2 | with_reducible apply Kept.fold1 | (lift_lets; intro t; first | (with_reducible refine Kept.cut t ?_ ?_; unfold t) | skip) | dsimp -zeta only | split | dsimp +zetaDelta only)

theorem State.modLp_kept {r₀ : State} (s : State) (n : Nat) (f : Lpx → Lpx) (h0 : Kept r₀ s) : Kept r₀ (State.modLp s n f) := by
  unfold State.modLp
  repeat' (first | with_reducible assumption | (intro t; first | (with_reducible refine Kept.cut t ?_ ?_; unfold t) | beta_reduce | skip) | with_reducible apply State.modLpx_kept | with_reducible apply Kept.ite | with_reducible apply Kept.fold | with_reducible apply Kept.fold2 | with_reducible apply Kept.fold1 | (lift_lets; intro t; first | (with_reducible refine Kept.cut t ?_ ?_; unfold t) | skip) | dsimp -zeta only | split | dsimp +zetaDelta only)

theorem State.lpxElast_kept {r₀ : State} (s : State) (n addr : Nat) (h0 : Kept r₀ s) : Kept r₀ (State.lpxElast s n addr) := by
  unfold State.lpxElast
  repeat' (first | with_reducible assumption | (intro t; first | (with_reducible refine Kept.cut t ?_ ?_; unfold t) | beta_reduce | skip) | with_reducible apply State.setR_kept | with_reducible apply Kept.ite | with_reducible apply Kept.fold | with_reducible apply Kept.fold2 | with_reducible apply Kept.fold1 | (lift_lets; intro t; first | (with_reducible refine Kept.cut t ?_ ?_; unfold t) | skip) | dsimp -zeta only | split | dsimp +zetaDelta only)

theorem State.lpxRead_kept {r₀ : State} (s : State) (n loc addr : Nat) (up : Option Upset) (h0 : Kept r₀ s) : Kept r₀ (State.lpxRead s n loc addr up).2 := by
  unfold State.lpxRead
  repeat' (first | with_reducible assumption | (intro t; first | (with_reducible refine Kept.cut t ?_ ?_; unfold t) | beta_reduce | skip) | with_reducible apply State.lpxElast_kept | with_reducible apply State.modLp_kept | with_reducible apply State.putWord_kept | with_reducible apply State.raise_kept | with_reducible apply State.satAdd_kept | with_reducible apply Kept.ite | with_reducible apply Kept.fold | with_reducible apply Kept.fold2 | with_reducible apply Kept.fold1 | (lift_lets; intro t; first | (with_reducible refine Kept.cut t ?_ ?_; unfold t) | skip) | dsimp -zeta only | split | dsimp +zetaDelta only)

theorem State.lpxWrite_kept {r₀ : State} (s : State) (n loc addr req : Nat) (new : BitVec 64) (be : Nat) (poison : Bool) (h0 : Kept r₀ s) : Kept r₀ (State.lpxWrite s n loc addr req new be poison) := by
  unfold State.lpxWrite
  repeat' (first | with_reducible assumption | (intro t; first | (with_reducible refine Kept.cut t ?_ ?_; unfold t) | beta_reduce | skip) | with_reducible apply State.lpxElast_kept | with_reducible apply State.modLp_kept | with_reducible apply State.putWord_kept | with_reducible apply State.raise_kept | with_reducible apply State.satAdd_kept | with_reducible apply Kept.ite | with_reducible apply Kept.fold | with_reducible apply Kept.fold2 | with_reducible apply Kept.fold1 | (lift_lets; intro t; first | (with_reducible refine Kept.cut t ?_ ?_; unfold t) | skip) | dsimp -zeta only | split | with_reducible apply Map.sortedFrom_filter | with_reducible apply Map.wf_filter | dsimp +zetaDelta only)

theorem State.readWord_kept {r₀ : State} (s : State) (a req : Nat) (up : Option Upset) (h0 : Kept r₀ s) : Kept r₀ (State.readWord s a req up).2 := by
  unfold State.readWord
  repeat' (first | with_reducible assumption | (intro t; first | (with_reducible refine Kept.cut t ?_ ?_; unfold t) | beta_reduce | skip) | with_reducible apply State.lpxRead_kept | with_reducible apply State.unitRead_kept | with_reducible apply Kept.ite | with_reducible apply Kept.fold | with_reducible apply Kept.fold2 | with_reducible apply Kept.fold1 | (lift_lets; intro t; first | (with_reducible refine Kept.cut t ?_ ?_; unfold t) | skip) | dsimp -zeta only | split | dsimp +zetaDelta only)

theorem State.strike_kept {r₀ : State} (s : State) (a : Nat) (up : Option Upset) (h0 : Kept r₀ s) : Kept r₀ (State.strike s a up) := by
  unfold State.strike
  repeat' (first | with_reducible assumption | (intro t; first | (with_reducible refine Kept.cut t ?_ ?_; unfold t) | beta_reduce | skip) | with_reducible apply State.putWord_kept | with_reducible apply Kept.ite | with_reducible apply Kept.fold | with_reducible apply Kept.fold2 | with_reducible apply Kept.fold1 | (lift_lets; intro t; first | (with_reducible refine Kept.cut t ?_ ?_; unfold t) | skip) | dsimp -zeta only | split | dsimp +zetaDelta only)

theorem State.writeWord_kept {r₀ : State} (s : State) (a req : Nat) (new : BitVec 64) (be : Nat) (poison : Bool) (win : Nat) (h0 : Kept r₀ s) : Kept r₀ (State.writeWord s a req new be poison win) := by
  unfold State.writeWord
  repeat' (first | with_reducible assumption | (intro t; first | (with_reducible refine Kept.cut t ?_ ?_; unfold t) | beta_reduce | skip) | with_reducible apply State.lpxWrite_kept | with_reducible apply State.putWord_kept | with_reducible apply State.unitWrite_kept | with_reducible apply Kept.ite | with_reducible apply Kept.fold | with_reducible apply Kept.fold2 | with_reducible apply Kept.fold1 | (lift_lets; intro t; first | (with_reducible refine Kept.cut t ?_ ?_; unfold t) | skip) | dsimp -zeta only | split | dsimp +zetaDelta only)

theorem State.readRange_kept {r₀ : State} (s : State) (a bytes req : Nat) (up : Option Upset) (h0 : Kept r₀ s) : Kept r₀ (State.readRange s a bytes req up).2 := by
  unfold State.readRange
  repeat' (first | with_reducible assumption | (intro t; first | (with_reducible refine Kept.cut t ?_ ?_; unfold t) | beta_reduce | skip) | with_reducible apply State.readWord_kept | with_reducible apply Kept.ite | with_reducible apply Kept.fold | with_reducible apply Kept.fold2 | with_reducible apply Kept.fold1 | (lift_lets; intro t; first | (with_reducible refine Kept.cut t ?_ ?_; unfold t) | skip) | dsimp -zeta only | split | dsimp +zetaDelta only)

theorem State.writeRange_kept {r₀ : State} (s : State) (a bytes data req : Nat) (poison : Bool) (win : Nat) (h0 : Kept r₀ s) : Kept r₀ (State.writeRange s a bytes data req poison win) := by
  unfold State.writeRange
  repeat' (first | with_reducible assumption | (intro t; first | (with_reducible refine Kept.cut t ?_ ?_; unfold t) | beta_reduce | skip) | with_reducible apply State.writeWord_kept | with_reducible apply Kept.ite | with_reducible apply Kept.fold | with_reducible apply Kept.fold2 | with_reducible apply Kept.fold1 | (lift_lets; intro t; first | (with_reducible refine Kept.cut t ?_ ?_; unfold t) | skip) | dsimp -zeta only | split | dsimp +zetaDelta only)

end Sys2Proof.Machine
end

