-- ==== Sys2Proof/Laws/Kept/Msix.lean ====
section
/-!
SUPPORT. Every operation of Machine/Msix.lean leaves the queue and keeps the tables in canonical form.
-/

set_option linter.unreachableTactic false
set_option linter.unusedTactic false
set_option linter.unusedVariables false

namespace Sys2Proof.Machine

theorem State.putMsix_kept {r₀ : State} (s : State) (fn v : Nat) (m : MsixVec) (h0 : Kept r₀ s) : Kept r₀ (State.putMsix s fn v m) := by
  unfold State.putMsix
  repeat' (first | with_reducible assumption | (intro t; first | (with_reducible refine Kept.cut t ?_ ?_; unfold t) | beta_reduce | skip) | with_reducible apply State.msix_kept | with_reducible apply State.modPcie_kept | with_reducible apply Kept.ite | with_reducible apply Kept.fold | with_reducible apply Kept.fold2 | with_reducible apply Kept.fold1 | (lift_lets; intro t; first | (with_reducible refine Kept.cut t ?_ ?_; unfold t) | skip) | dsimp -zeta only | split | dsimp +zetaDelta only)

theorem State.msix_kept {r₀ : State} (s : State) (fn v : Nat) (h0 : Kept r₀ s) : Kept r₀ (State.msix s fn v) := by
  unfold State.msix
  repeat' (first | with_reducible assumption | (intro t; first | (with_reducible refine Kept.cut t ?_ ?_; unfold t) | beta_reduce | skip) | with_reducible apply State.putMsix_kept | with_reducible apply State.modPcie_kept | with_reducible apply Kept.ite | with_reducible apply Kept.fold | with_reducible apply Kept.fold2 | with_reducible apply Kept.fold1 | (lift_lets; intro t; first | (with_reducible refine Kept.cut t ?_ ?_; unfold t) | skip) | dsimp -zeta only | split | dsimp +zetaDelta only)

theorem State.msixFlush_kept {r₀ : State} (s : State) (fn : Nat) (h0 : Kept r₀ s) : Kept r₀ (State.msixFlush s fn) := by
  unfold State.msixFlush
  repeat' (first | with_reducible assumption | (intro t; first | (with_reducible refine Kept.cut t ?_ ?_; unfold t) | beta_reduce | skip) | with_reducible apply State.msix_kept | with_reducible apply Kept.ite | with_reducible apply Kept.fold | with_reducible apply Kept.fold2 | with_reducible apply Kept.fold1 | (lift_lets; intro t; first | (with_reducible refine Kept.cut t ?_ ?_; unfold t) | skip) | dsimp -zeta only | split | dsimp +zetaDelta only)

end Sys2Proof.Machine
end

