-- ==== Sys2Proof/Laws/Kept/Events.lean ====
section
/-!
SUPPORT. Every operation of Machine/Events.lean leaves the queue and keeps the tables in canonical form.
-/

set_option linter.unreachableTactic false
set_option linter.unusedTactic false
set_option linter.unusedVariables false

namespace Sys2Proof.Machine

theorem State.when_kept {r : State} (s : State) (c : Bool) (t : State) (h : Kept r s) (ht : Kept r t) : KeptR r (s.when c t) := by
  unfold State.when
  split
  · exact KeptR.next ht
  · exact KeptR.next h

theorem State.ringDiscard_kept {r₀ : State} (s : State) (h0 : Kept r₀ s) : Kept r₀ (State.ringDiscard s) := by
  unfold State.ringDiscard
  repeat' (first | with_reducible assumption | (intro t; first | (with_reducible refine Kept.cut t ?_ ?_; unfold t) | beta_reduce | skip) | with_reducible apply State.satAdd_kept | with_reducible apply State.setR_kept | with_reducible apply Kept.ite | with_reducible apply Kept.fold | with_reducible apply Kept.fold2 | with_reducible apply Kept.fold1 | (lift_lets; intro t; first | (with_reducible refine Kept.cut t ?_ ?_; unfold t) | skip) | dsimp -zeta only | split | dsimp +zetaDelta only)

theorem State.urgent_kept {r₀ : State} (s : State) (severity : Nat) (h0 : Kept r₀ s) : Kept r₀ (State.urgent s severity) := by
  unfold State.urgent
  repeat' (first | with_reducible assumption | (intro t; first | (with_reducible refine Kept.cut t ?_ ?_; unfold t) | beta_reduce | skip) | with_reducible apply State.irqEdge_kept | with_reducible apply State.msix_kept | with_reducible apply Kept.ite | with_reducible apply Kept.fold | with_reducible apply Kept.fold2 | with_reducible apply Kept.fold1 | (lift_lets; intro t; first | (with_reducible refine Kept.cut t ?_ ?_; unfold t) | skip) | dsimp -zeta only | split | dsimp +zetaDelta only)

theorem State.dropEvent_kept {r : State} (s : State) (key : Nat) (h0 : Kept r s) : Kept r (State.dropEvent s key) :=
  State.modEvents_kept h0 fun m hm => Map.sortedFrom_erase m _ _ hm

theorem execEventRaised_kept {r₀ : State} (source : BitVec 16) (code : BitVec 16) (severity : BitVec 4) (detail : BitVec 128) (s : State) (h0 : Kept r₀ s) : KeptR r₀ (execEventRaised source code severity detail s) := by
  unfold execEventRaised
  repeat' (first | with_reducible assumption | (intro t; first | (with_reducible refine Kept.cut t ?_ ?_; unfold t) | beta_reduce | skip) | with_reducible apply KeptR.next | with_reducible apply State.raise_kept | with_reducible apply State.when_kept | with_reducible apply Kept.ite | with_reducible apply KeptR.ite | with_reducible apply Kept.fold | with_reducible apply Kept.fold2 | with_reducible apply Kept.fold1 | (lift_lets; intro t; first | (with_reducible refine Kept.cut t ?_ ?_; unfold t) | skip) | dsimp -zeta only | split | dsimp +zetaDelta only)

theorem State.ringConfig_kept {r₀ : State} (s : State) (off v : Nat) (h0 : Kept r₀ s) : Kept r₀ (State.ringConfig s off v) := by
  unfold State.ringConfig
  repeat' (first | with_reducible assumption | (intro t; first | (with_reducible refine Kept.cut t ?_ ?_; unfold t) | beta_reduce | skip) | with_reducible apply State.setR_kept | with_reducible apply Kept.ite | with_reducible apply Kept.fold | with_reducible apply Kept.fold2 | with_reducible apply Kept.fold1 | (lift_lets; intro t; first | (with_reducible refine Kept.cut t ?_ ?_; unfold t) | skip) | dsimp -zeta only | split | dsimp +zetaDelta only)

theorem execEventRingConfigWrite_kept {r₀ : State} (off : Nat) (value : BitVec 32) (s : State) (h0 : Kept r₀ s) : KeptR r₀ (execEventRingConfigWrite off value s) := by
  unfold execEventRingConfigWrite
  repeat' (first | with_reducible assumption | (intro t; first | (with_reducible refine Kept.cut t ?_ ?_; unfold t) | beta_reduce | skip) | with_reducible apply KeptR.next | with_reducible apply State.ringConfig_kept | with_reducible apply Kept.ite | with_reducible apply KeptR.ite | with_reducible apply Kept.fold | with_reducible apply Kept.fold2 | with_reducible apply Kept.fold1 | (lift_lets; intro t; first | (with_reducible refine Kept.cut t ?_ ?_; unfold t) | skip) | dsimp -zeta only | split | dsimp +zetaDelta only)

theorem execEventRingRpWrite_kept {r₀ : State} (value : BitVec 32) (s : State) (h0 : Kept r₀ s) : KeptR r₀ (execEventRingRpWrite value s) := by
  unfold execEventRingRpWrite
  repeat' (first | with_reducible assumption | (intro t; first | (with_reducible refine Kept.cut t ?_ ?_; unfold t) | beta_reduce | skip) | with_reducible apply KeptR.next | with_reducible apply State.setR_kept | with_reducible apply Kept.ite | with_reducible apply KeptR.ite | with_reducible apply Kept.fold | with_reducible apply Kept.fold2 | with_reducible apply Kept.fold1 | (lift_lets; intro t; first | (with_reducible refine Kept.cut t ?_ ?_; unfold t) | skip) | dsimp -zeta only | split | dsimp +zetaDelta only)

end Sys2Proof.Machine
end

