-- ==== Sys2Proof/Laws/Kept/Time.lean ====
section
/-!
SUPPORT. Every operation of Machine/Time.lean leaves the queue and keeps the tables in canonical form.
-/

set_option linter.unreachableTactic false
set_option linter.unusedTactic false
set_option linter.unusedVariables false

namespace Sys2Proof.Machine

theorem State.tickTime_kept {r₀ : State} (s : State) (h0 : Kept r₀ s) : Kept r₀ (State.tickTime s) := by
  unfold State.tickTime
  repeat' (first | with_reducible assumption | (intro t; first | (with_reducible refine Kept.cut t ?_ ?_; unfold t) | beta_reduce | skip) | with_reducible apply State.modFrac_kept | with_reducible apply State.modTime_kept | with_reducible apply Kept.ite | with_reducible apply Kept.fold | with_reducible apply Kept.fold2 | with_reducible apply Kept.fold1 | (lift_lets; intro t; first | (with_reducible refine Kept.cut t ?_ ?_; unfold t) | skip) | dsimp -zeta only | split | dsimp +zetaDelta only)

theorem State.tick_kept {r₀ : State} (s : State) (h0 : Kept r₀ s) : Kept r₀ (State.tick s) := by
  unfold State.tick
  repeat' (first | with_reducible assumption | (intro t; first | (with_reducible refine Kept.cut t ?_ ?_; unfold t) | beta_reduce | skip) | with_reducible apply State.tickTime_kept | with_reducible apply State.modNoc_kept | with_reducible apply Kept.ite | with_reducible apply Kept.fold | with_reducible apply Kept.fold2 | with_reducible apply Kept.fold1 | (lift_lets; intro t; first | (with_reducible refine Kept.cut t ?_ ?_; unfold t) | skip) | dsimp -zeta only | split | dsimp +zetaDelta only)

theorem State.setRate_kept {r₀ : State} (s : State) (r : Int) (h0 : Kept r₀ s) : Kept r₀ (State.setRate s r) := by
  unfold State.setRate
  repeat' (first | with_reducible assumption | (intro t; first | (with_reducible refine Kept.cut t ?_ ?_; unfold t) | beta_reduce | skip) | with_reducible apply State.setR_kept | with_reducible apply Kept.ite | with_reducible apply Kept.fold | with_reducible apply Kept.fold2 | with_reducible apply Kept.fold1 | (lift_lets; intro t; first | (with_reducible refine Kept.cut t ?_ ?_; unfold t) | skip) | dsimp -zeta only | split | dsimp +zetaDelta only)

theorem State.steer_kept {r₀ : State} (s : State) (h0 : Kept r₀ s) : Kept r₀ (State.steer s) := by
  unfold State.steer
  repeat' (first | with_reducible assumption | (intro t; first | (with_reducible refine Kept.cut t ?_ ?_; unfold t) | beta_reduce | skip) | with_reducible apply State.draw_kept | with_reducible apply State.setRate_kept | with_reducible apply Kept.ite | with_reducible apply Kept.fold | with_reducible apply Kept.fold2 | with_reducible apply Kept.fold1 | (lift_lets; intro t; first | (with_reducible refine Kept.cut t ?_ ?_; unfold t) | skip) | dsimp -zeta only | split | dsimp +zetaDelta only)

theorem State.slew_kept {r₀ : State} (s : State) (e : Int) (h0 : Kept r₀ s) : Kept r₀ (State.slew s e) := by
  unfold State.slew
  repeat' (first | with_reducible assumption | (intro t; first | (with_reducible refine Kept.cut t ?_ ?_; unfold t) | beta_reduce | skip) | with_reducible apply State.draw_kept | with_reducible apply State.setRate_kept | with_reducible apply Kept.ite | with_reducible apply Kept.fold | with_reducible apply Kept.fold2 | with_reducible apply Kept.fold1 | (lift_lets; intro t; first | (with_reducible refine Kept.cut t ?_ ?_; unfold t) | skip) | dsimp -zeta only | split | dsimp +zetaDelta only)

theorem State.stepTime_kept {r₀ : State} (s : State) (new : Nat) (h0 : Kept r₀ s) : Kept r₀ (State.stepTime s new) := by
  unfold State.stepTime
  repeat' (first | with_reducible assumption | (intro t; first | (with_reducible refine Kept.cut t ?_ ?_; unfold t) | beta_reduce | skip) | with_reducible apply State.raise_kept | with_reducible apply State.setEach_kept | with_reducible apply State.setR_kept | with_reducible apply State.modFrac_kept | with_reducible apply State.modTime_kept | with_reducible apply Kept.ite | with_reducible apply Kept.fold | with_reducible apply Kept.fold2 | with_reducible apply Kept.fold1 | (lift_lets; intro t; first | (with_reducible refine Kept.cut t ?_ ?_; unfold t) | skip) | dsimp -zeta only | split | dsimp +zetaDelta only)

theorem execTimeCounterStart_kept {r₀ : State} (s : State) (h0 : Kept r₀ s) : KeptR r₀ (execTimeCounterStart s) := by
  unfold execTimeCounterStart
  repeat' (first | with_reducible assumption | (intro t; first | (with_reducible refine Kept.cut t ?_ ?_; unfold t) | beta_reduce | skip) | with_reducible apply KeptR.next | with_reducible apply State.setR_kept | with_reducible apply State.when_kept | with_reducible apply State.modFrac_kept | with_reducible apply State.modTime_kept | with_reducible apply Kept.ite | with_reducible apply KeptR.ite | with_reducible apply Kept.fold | with_reducible apply Kept.fold2 | with_reducible apply Kept.fold1 | (lift_lets; intro t; first | (with_reducible refine Kept.cut t ?_ ?_; unfold t) | skip) | dsimp -zeta only | split | dsimp +zetaDelta only)

theorem execTbsTimeLoRead_kept {r₀ : State} (peek : Bool) (s : State) (h0 : Kept r₀ s) : KeptR r₀ (execTbsTimeLoRead peek s) := by
  unfold execTbsTimeLoRead
  repeat' (first | with_reducible assumption | (intro t; first | (with_reducible refine Kept.cut t ?_ ?_; unfold t) | beta_reduce | skip) | with_reducible apply KeptR.next | with_reducible apply State.respond_kept | with_reducible apply State.setR_kept | with_reducible apply Kept.ite | with_reducible apply KeptR.ite | with_reducible apply Kept.fold | with_reducible apply Kept.fold2 | with_reducible apply Kept.fold1 | (lift_lets; intro t; first | (with_reducible refine Kept.cut t ?_ ?_; unfold t) | skip) | dsimp -zeta only | split | dsimp +zetaDelta only)

theorem State.masterStep_kept {r₀ : State} (s : State) (v : Nat) (h0 : Kept r₀ s) : Kept r₀ (State.masterStep s v) := by
  unfold State.masterStep
  repeat' (first | with_reducible assumption | (intro t; first | (with_reducible refine Kept.cut t ?_ ?_; unfold t) | beta_reduce | skip) | with_reducible apply State.setR_kept | with_reducible apply State.stepTime_kept | with_reducible apply State.wrapAdd_kept | with_reducible apply Kept.ite | with_reducible apply Kept.fold | with_reducible apply Kept.fold2 | with_reducible apply Kept.fold1 | (lift_lets; intro t; first | (with_reducible refine Kept.cut t ?_ ?_; unfold t) | skip) | dsimp -zeta only | split | dsimp +zetaDelta only)

theorem execSetTime_kept {r₀ : State} (s : State) (h0 : Kept r₀ s) : KeptR r₀ (execSetTime s) := by
  unfold execSetTime
  repeat' (first | with_reducible assumption | (intro t; first | (with_reducible refine Kept.cut t ?_ ?_; unfold t) | beta_reduce | skip) | with_reducible apply KeptR.next | with_reducible apply State.setR_kept | with_reducible apply State.stepTime_kept | with_reducible apply Kept.ite | with_reducible apply KeptR.ite | with_reducible apply Kept.fold | with_reducible apply Kept.fold2 | with_reducible apply Kept.fold1 | (lift_lets; intro t; first | (with_reducible refine Kept.cut t ?_ ?_; unfold t) | skip) | dsimp -zeta only | split | dsimp +zetaDelta only)

theorem execStepNow_kept {r₀ : State} (s : State) (h0 : Kept r₀ s) : KeptR r₀ (execStepNow s) := by
  unfold execStepNow
  repeat' (first | with_reducible assumption | (intro t; first | (with_reducible refine Kept.cut t ?_ ?_; unfold t) | beta_reduce | skip) | with_reducible apply KeptR.next | with_reducible apply State.setR_kept | with_reducible apply State.when_kept | with_reducible apply Kept.ite | with_reducible apply KeptR.ite | with_reducible apply Kept.fold | with_reducible apply Kept.fold2 | with_reducible apply Kept.fold1 | (lift_lets; intro t; first | (with_reducible refine Kept.cut t ?_ ?_; unfold t) | skip) | dsimp -zeta only | split | dsimp +zetaDelta only)

theorem State.syncClear_kept {r₀ : State} (s : State) (h0 : Kept r₀ s) : Kept r₀ (State.syncClear s) := by
  unfold State.syncClear
  repeat' (first | with_reducible assumption | (intro t; first | (with_reducible refine Kept.cut t ?_ ?_; unfold t) | beta_reduce | skip) | with_reducible apply State.resetFields_kept | with_reducible apply Kept.ite | with_reducible apply Kept.fold | with_reducible apply Kept.fold2 | with_reducible apply Kept.fold1 | (lift_lets; intro t; first | (with_reducible refine Kept.cut t ?_ ?_; unfold t) | skip) | dsimp -zeta only | split | dsimp +zetaDelta only)

theorem State.enterFree_kept {r₀ : State} (s : State) (h0 : Kept r₀ s) : Kept r₀ (State.enterFree s) := by
  unfold State.enterFree
  repeat' (first | with_reducible assumption | (intro t; first | (with_reducible refine Kept.cut t ?_ ?_; unfold t) | beta_reduce | skip) | with_reducible apply State.setR_kept | with_reducible apply State.setRate_kept | with_reducible apply State.syncClear_kept | with_reducible apply Kept.ite | with_reducible apply Kept.fold | with_reducible apply Kept.fold2 | with_reducible apply Kept.fold1 | (lift_lets; intro t; first | (with_reducible refine Kept.cut t ?_ ?_; unfold t) | skip) | dsimp -zeta only | split | dsimp +zetaDelta only)

theorem State.enterMaster_kept {r₀ : State} (s : State) (h0 : Kept r₀ s) : Kept r₀ (State.enterMaster s) := by
  unfold State.enterMaster
  repeat' (first | with_reducible assumption | (intro t; first | (with_reducible refine Kept.cut t ?_ ?_; unfold t) | beta_reduce | skip) | with_reducible apply State.setR_kept | with_reducible apply State.setRate_kept | with_reducible apply State.syncClear_kept | with_reducible apply Kept.ite | with_reducible apply Kept.fold | with_reducible apply Kept.fold2 | with_reducible apply Kept.fold1 | (lift_lets; intro t; first | (with_reducible refine Kept.cut t ?_ ?_; unfold t) | skip) | dsimp -zeta only | split | dsimp +zetaDelta only)

theorem execRoleWrite_kept {r₀ : State} (role : BitVec 2) (s : State) (h0 : Kept r₀ s) : KeptR r₀ (execRoleWrite role s) := by
  unfold execRoleWrite
  repeat' (first | with_reducible assumption | (intro t; first | (with_reducible refine Kept.cut t ?_ ?_; unfold t) | beta_reduce | skip) | with_reducible apply KeptR.next | with_reducible apply State.enterFree_kept | with_reducible apply State.enterMaster_kept | with_reducible apply State.setR_kept | with_reducible apply Kept.ite | with_reducible apply KeptR.ite | with_reducible apply Kept.fold | with_reducible apply Kept.fold2 | with_reducible apply Kept.fold1 | (lift_lets; intro t; first | (with_reducible refine Kept.cut t ?_ ?_; unfold t) | skip) | dsimp -zeta only | split | dsimp +zetaDelta only)

theorem State.putFrame_kept {r₀ : State} (s : State) (typ : Nat) (h0 : Kept r₀ s) : Kept r₀ (State.putFrame s typ) := by
  unfold State.putFrame
  repeat' (first | with_reducible assumption | (intro t; first | (with_reducible refine Kept.cut t ?_ ?_; unfold t) | beta_reduce | skip) | with_reducible apply State.setR_kept | with_reducible apply State.wrapAdd_kept | with_reducible apply State.modTb_kept | with_reducible apply Kept.ite | with_reducible apply Kept.fold | with_reducible apply Kept.fold2 | with_reducible apply Kept.fold1 | (lift_lets; intro t; first | (with_reducible refine Kept.cut t ?_ ?_; unfold t) | skip) | dsimp -zeta only | split | dsimp +zetaDelta only)

theorem execSyncFrameSend_kept {r₀ : State} (s : State) (h0 : Kept r₀ s) : KeptR r₀ (execSyncFrameSend s) := by
  unfold execSyncFrameSend
  repeat' (first | with_reducible assumption | (intro t; first | (with_reducible refine Kept.cut t ?_ ?_; unfold t) | beta_reduce | skip) | with_reducible apply KeptR.next | with_reducible apply State.masterStep_kept | with_reducible apply State.putFrame_kept | with_reducible apply State.setR_kept | with_reducible apply Kept.ite | with_reducible apply KeptR.ite | with_reducible apply Kept.fold | with_reducible apply Kept.fold2 | with_reducible apply Kept.fold1 | (lift_lets; intro t; first | (with_reducible refine Kept.cut t ?_ ?_; unfold t) | skip) | dsimp -zeta only | split | dsimp +zetaDelta only)

theorem State.frameSeen_kept {r₀ : State} (s : State) (code : BitVec 160) (h0 : Kept r₀ s) : Kept r₀ (State.frameSeen s code) := by
  unfold State.frameSeen
  repeat' (first | with_reducible assumption | (intro t; first | (with_reducible refine Kept.cut t ?_ ?_; unfold t) | beta_reduce | skip) | with_reducible apply State.modTb_kept | with_reducible apply Kept.ite | with_reducible apply Kept.fold | with_reducible apply Kept.fold2 | with_reducible apply Kept.fold1 | (lift_lets; intro t; first | (with_reducible refine Kept.cut t ?_ ?_; unfold t) | skip) | dsimp -zeta only | split | dsimp +zetaDelta only)

theorem State.seeMaster_kept {r₀ : State} (s : State) (id : Nat) (h0 : Kept r₀ s) : Kept r₀ (State.seeMaster s id) := by
  unfold State.seeMaster
  repeat' (first | with_reducible assumption | (intro t; first | (with_reducible refine Kept.cut t ?_ ?_; unfold t) | beta_reduce | skip) | with_reducible apply State.raise_kept | with_reducible apply State.setR_kept | with_reducible apply Kept.ite | with_reducible apply Kept.fold | with_reducible apply Kept.fold2 | with_reducible apply Kept.fold1 | (lift_lets; intro t; first | (with_reducible refine Kept.cut t ?_ ?_; unfold t) | skip) | dsimp -zeta only | split | dsimp +zetaDelta only)

theorem State.followStep_kept {r₀ : State} (s : State) (code : BitVec 160) (h0 : Kept r₀ s) : Kept r₀ (State.followStep s code) := by
  unfold State.followStep
  repeat' (first | with_reducible assumption | (intro t; first | (with_reducible refine Kept.cut t ?_ ?_; unfold t) | beta_reduce | skip) | with_reducible apply State.resetFields_kept | with_reducible apply State.setR_kept | with_reducible apply State.steer_kept | with_reducible apply State.stepTime_kept | with_reducible apply Kept.ite | with_reducible apply Kept.fold | with_reducible apply Kept.fold2 | with_reducible apply Kept.fold1 | (lift_lets; intro t; first | (with_reducible refine Kept.cut t ?_ ?_; unfold t) | skip) | dsimp -zeta only | split | dsimp +zetaDelta only)

theorem State.wantStep_kept {r₀ : State} (s : State) (e : Int) (h0 : Kept r₀ s) : Kept r₀ (State.wantStep s e) := by
  unfold State.wantStep
  repeat' (first | with_reducible assumption | (intro t; first | (with_reducible refine Kept.cut t ?_ ?_; unfold t) | beta_reduce | skip) | with_reducible apply State.raise_kept | with_reducible apply State.setR_kept | with_reducible apply Kept.ite | with_reducible apply Kept.fold | with_reducible apply Kept.fold2 | with_reducible apply Kept.fold1 | (lift_lets; intro t; first | (with_reducible refine Kept.cut t ?_ ?_; unfold t) | skip) | dsimp -zeta only | split | dsimp +zetaDelta only)

theorem State.enterHoldover_kept {r₀ : State} (s : State) (h0 : Kept r₀ s) : Kept r₀ (State.enterHoldover s) := by
  unfold State.enterHoldover
  repeat' (first | with_reducible assumption | (intro t; first | (with_reducible refine Kept.cut t ?_ ?_; unfold t) | beta_reduce | skip) | with_reducible apply State.draw_kept | with_reducible apply State.resetFields_kept | with_reducible apply State.setR_kept | with_reducible apply State.setRate_kept | with_reducible apply State.modTb_kept | with_reducible apply Kept.ite | with_reducible apply Kept.fold | with_reducible apply Kept.fold2 | with_reducible apply Kept.fold1 | (lift_lets; intro t; first | (with_reducible refine Kept.cut t ?_ ?_; unfold t) | skip) | dsimp -zeta only | split | dsimp +zetaDelta only)

theorem State.track_kept {r₀ : State} (s : State) (e : Int) (h0 : Kept r₀ s) : Kept r₀ (State.track s e) := by
  unfold State.track
  repeat' (first | with_reducible assumption | (intro t; first | (with_reducible refine Kept.cut t ?_ ?_; unfold t) | beta_reduce | skip) | with_reducible apply State.raise_kept | with_reducible apply State.setR_kept | with_reducible apply State.slew_kept | with_reducible apply State.steer_kept | with_reducible apply Kept.ite | with_reducible apply Kept.fold | with_reducible apply Kept.fold2 | with_reducible apply Kept.fold1 | (lift_lets; intro t; first | (with_reducible refine Kept.cut t ?_ ?_; unfold t) | skip) | dsimp -zeta only | split | dsimp +zetaDelta only)

theorem State.syncAcquired_kept {r₀ : State} (s : State) (e : Int) (h0 : Kept r₀ s) : Kept r₀ (State.syncAcquired s e) := by
  unfold State.syncAcquired
  repeat' (first | with_reducible assumption | (intro t; first | (with_reducible refine Kept.cut t ?_ ?_; unfold t) | beta_reduce | skip) | with_reducible apply State.resetFields_kept | with_reducible apply State.setR_kept | with_reducible apply State.track_kept | with_reducible apply Kept.ite | with_reducible apply Kept.fold | with_reducible apply Kept.fold2 | with_reducible apply Kept.fold1 | (lift_lets; intro t; first | (with_reducible refine Kept.cut t ?_ ?_; unfold t) | skip) | dsimp -zeta only | split | dsimp +zetaDelta only)

theorem State.syncAdvance_kept {r₀ : State} (s : State) (code : BitVec 160) (e : Int) (h0 : Kept r₀ s) : Kept r₀ (State.syncAdvance s code e) := by
  unfold State.syncAdvance
  repeat' (first | with_reducible assumption | (intro t; first | (with_reducible refine Kept.cut t ?_ ?_; unfold t) | beta_reduce | skip) | with_reducible apply State.enterHoldover_kept | with_reducible apply State.followStep_kept | with_reducible apply State.satAdd_kept | with_reducible apply State.setR_kept | with_reducible apply State.syncAcquired_kept | with_reducible apply State.track_kept | with_reducible apply State.wantStep_kept | with_reducible apply Kept.ite | with_reducible apply Kept.fold | with_reducible apply Kept.fold2 | with_reducible apply Kept.fold1 | (lift_lets; intro t; first | (with_reducible refine Kept.cut t ?_ ?_; unfold t) | skip) | dsimp -zeta only | split | dsimp +zetaDelta only)

theorem State.goodFrame_kept {r₀ : State} (s : State) (code : BitVec 160) (h0 : Kept r₀ s) : Kept r₀ (State.goodFrame s code) := by
  unfold State.goodFrame
  repeat' (first | with_reducible assumption | (intro t; first | (with_reducible refine Kept.cut t ?_ ?_; unfold t) | beta_reduce | skip) | with_reducible apply State.seeMaster_kept | with_reducible apply State.setR_kept | with_reducible apply State.syncAdvance_kept | with_reducible apply State.modTb_kept | with_reducible apply Kept.ite | with_reducible apply Kept.fold | with_reducible apply Kept.fold2 | with_reducible apply Kept.fold1 | (lift_lets; intro t; first | (with_reducible refine Kept.cut t ?_ ?_; unfold t) | skip) | dsimp -zeta only | split | dsimp +zetaDelta only)

theorem execSyncFrameReceive_kept {r₀ : State} (comma : BitVec 10) (body : BitVec 130) (check : BitVec 20) (s : State) (h0 : Kept r₀ s) : KeptR r₀ (execSyncFrameReceive comma body check s) := by
  unfold execSyncFrameReceive
  repeat' (first | with_reducible assumption | (intro t; first | (with_reducible refine Kept.cut t ?_ ?_; unfold t) | beta_reduce | skip) | with_reducible apply KeptR.next | with_reducible apply State.frameSeen_kept | with_reducible apply State.goodFrame_kept | with_reducible apply State.raise_kept | with_reducible apply State.satAdd_kept | with_reducible apply Kept.ite | with_reducible apply KeptR.ite | with_reducible apply Kept.fold | with_reducible apply Kept.fold2 | with_reducible apply Kept.fold1 | (lift_lets; intro t; first | (with_reducible refine Kept.cut t ?_ ?_; unfold t) | skip) | dsimp -zeta only | split | dsimp +zetaDelta only)

theorem execSyncLost_kept {r₀ : State} (s : State) (h0 : Kept r₀ s) : KeptR r₀ (execSyncLost s) := by
  unfold execSyncLost
  repeat' (first | with_reducible assumption | (intro t; first | (with_reducible refine Kept.cut t ?_ ?_; unfold t) | beta_reduce | skip) | with_reducible apply KeptR.next | with_reducible apply State.enterFree_kept | with_reducible apply State.enterHoldover_kept | with_reducible apply State.raise_kept | with_reducible apply Kept.ite | with_reducible apply KeptR.ite | with_reducible apply Kept.fold | with_reducible apply Kept.fold2 | with_reducible apply Kept.fold1 | (lift_lets; intro t; first | (with_reducible refine Kept.cut t ?_ ?_; unfold t) | skip) | dsimp -zeta only | split | dsimp +zetaDelta only)

theorem execHoldoverLimit_kept {r₀ : State} (s : State) (h0 : Kept r₀ s) : KeptR r₀ (execHoldoverLimit s) := by
  unfold execHoldoverLimit
  repeat' (first | with_reducible assumption | (intro t; first | (with_reducible refine Kept.cut t ?_ ?_; unfold t) | beta_reduce | skip) | with_reducible apply KeptR.next | with_reducible apply State.raise_kept | with_reducible apply State.setR_kept | with_reducible apply State.when_kept | with_reducible apply Kept.ite | with_reducible apply KeptR.ite | with_reducible apply Kept.fold | with_reducible apply Kept.fold2 | with_reducible apply Kept.fold1 | (lift_lets; intro t; first | (with_reducible refine Kept.cut t ?_ ?_; unfold t) | skip) | dsimp -zeta only | split | dsimp +zetaDelta only)

theorem execTrefLost_kept {r₀ : State} (s : State) (h0 : Kept r₀ s) : KeptR r₀ (execTrefLost s) := by
  unfold execTrefLost
  repeat' (first | with_reducible assumption | (intro t; first | (with_reducible refine Kept.cut t ?_ ?_; unfold t) | beta_reduce | skip) | with_reducible apply KeptR.next | with_reducible apply State.raise_kept | with_reducible apply State.setR_kept | with_reducible apply State.when_kept | with_reducible apply Kept.ite | with_reducible apply KeptR.ite | with_reducible apply Kept.fold | with_reducible apply Kept.fold2 | with_reducible apply Kept.fold1 | (lift_lets; intro t; first | (with_reducible refine Kept.cut t ?_ ?_; unfold t) | skip) | dsimp -zeta only | split | dsimp +zetaDelta only)

theorem execTrefRestored_kept {r₀ : State} (s : State) (h0 : Kept r₀ s) : KeptR r₀ (execTrefRestored s) := by
  unfold execTrefRestored
  repeat' (first | with_reducible assumption | (intro t; first | (with_reducible refine Kept.cut t ?_ ?_; unfold t) | beta_reduce | skip) | with_reducible apply KeptR.next | with_reducible apply State.raise_kept | with_reducible apply State.setR_kept | with_reducible apply State.when_kept | with_reducible apply Kept.ite | with_reducible apply KeptR.ite | with_reducible apply Kept.fold | with_reducible apply Kept.fold2 | with_reducible apply Kept.fold1 | (lift_lets; intro t; first | (with_reducible refine Kept.cut t ?_ ?_; unfold t) | skip) | dsimp -zeta only | split | dsimp +zetaDelta only)

theorem execTimePllLockLost_kept {r₀ : State} (s : State) (h0 : Kept r₀ s) : KeptR r₀ (execTimePllLockLost s) := by
  unfold execTimePllLockLost
  repeat' (first | with_reducible assumption | (intro t; first | (with_reducible refine Kept.cut t ?_ ?_; unfold t) | beta_reduce | skip) | with_reducible apply KeptR.next | with_reducible apply State.setR_kept | with_reducible apply State.when_kept | with_reducible apply Kept.ite | with_reducible apply KeptR.ite | with_reducible apply Kept.fold | with_reducible apply Kept.fold2 | with_reducible apply Kept.fold1 | (lift_lets; intro t; first | (with_reducible refine Kept.cut t ?_ ?_; unfold t) | skip) | dsimp -zeta only | split | dsimp +zetaDelta only)

theorem execTimePllLockRegained_kept {r₀ : State} (s : State) (h0 : Kept r₀ s) : KeptR r₀ (execTimePllLockRegained s) := by
  unfold execTimePllLockRegained
  repeat' (first | with_reducible assumption | (intro t; first | (with_reducible refine Kept.cut t ?_ ?_; unfold t) | beta_reduce | skip) | with_reducible apply KeptR.next | with_reducible apply State.setR_kept | with_reducible apply State.when_kept | with_reducible apply Kept.ite | with_reducible apply KeptR.ite | with_reducible apply Kept.fold | with_reducible apply Kept.fold2 | with_reducible apply Kept.fold1 | (lift_lets; intro t; first | (with_reducible refine Kept.cut t ?_ ?_; unfold t) | skip) | dsimp -zeta only | split | dsimp +zetaDelta only)

theorem execFabCgApply_kept {r₀ : State} (fd : Fin 8) (g : Fin 8) (s : State) (h0 : Kept r₀ s) : KeptR r₀ (execFabCgApply fd g s) := by
  unfold execFabCgApply
  repeat' (first | with_reducible assumption | (intro t; first | (with_reducible refine Kept.cut t ?_ ?_; unfold t) | beta_reduce | skip) | with_reducible apply KeptR.next | with_reducible apply State.setR_kept | with_reducible apply Kept.ite | with_reducible apply KeptR.ite | with_reducible apply Kept.fold | with_reducible apply Kept.fold2 | with_reducible apply Kept.fold1 | (lift_lets; intro t; first | (with_reducible refine Kept.cut t ?_ ?_; unfold t) | skip) | dsimp -zeta only | split | dsimp +zetaDelta only)

theorem execRetuneCommit_kept {r₀ : State} (fd : Fin 8) (g : Fin 8) (s : State) (h0 : Kept r₀ s) : KeptR r₀ (execRetuneCommit fd g s) := by
  unfold execRetuneCommit
  repeat' (first | with_reducible assumption | (intro t; first | (with_reducible refine Kept.cut t ?_ ?_; unfold t) | beta_reduce | skip) | with_reducible apply KeptR.next | with_reducible apply State.markCommit_kept | with_reducible apply State.setR_kept | with_reducible apply Kept.ite | with_reducible apply KeptR.ite | with_reducible apply Kept.fold | with_reducible apply Kept.fold2 | with_reducible apply Kept.fold1 | (lift_lets; intro t; first | (with_reducible refine Kept.cut t ?_ ?_; unfold t) | skip) | dsimp -zeta only | split | dsimp +zetaDelta only)

theorem State.cgRun_kept {r₀ : State} (s : State) (i : Nat) (h0 : Kept r₀ s) : Kept r₀ (State.cgRun s i) := by
  unfold State.cgRun
  repeat' (first | with_reducible assumption | (intro t; first | (with_reducible refine Kept.cut t ?_ ?_; unfold t) | beta_reduce | skip) | with_reducible apply State.setR_kept | with_reducible apply Kept.ite | with_reducible apply Kept.fold | with_reducible apply Kept.fold2 | with_reducible apply Kept.fold1 | (lift_lets; intro t; first | (with_reducible refine Kept.cut t ?_ ?_; unfold t) | skip) | dsimp -zeta only | split | dsimp +zetaDelta only)

theorem execCgPllLocked_kept {r₀ : State} (fd : Fin 8) (g : Fin 8) (s : State) (h0 : Kept r₀ s) : KeptR r₀ (execCgPllLocked fd g s) := by
  unfold execCgPllLocked
  repeat' (first | with_reducible assumption | (intro t; first | (with_reducible refine Kept.cut t ?_ ?_; unfold t) | beta_reduce | skip) | with_reducible apply KeptR.next | with_reducible apply State.cgRun_kept | with_reducible apply State.setR_kept | with_reducible apply Kept.ite | with_reducible apply KeptR.ite | with_reducible apply Kept.fold | with_reducible apply Kept.fold2 | with_reducible apply Kept.fold1 | (lift_lets; intro t; first | (with_reducible refine Kept.cut t ?_ ?_; unfold t) | skip) | dsimp -zeta only | split | dsimp +zetaDelta only)

theorem execClkgenUnlock_kept {r₀ : State} (fd : Fin 8) (g : Fin 8) (s : State) (h0 : Kept r₀ s) : KeptR r₀ (execClkgenUnlock fd g s) := by
  unfold execClkgenUnlock
  repeat' (first | with_reducible assumption | (intro t; first | (with_reducible refine Kept.cut t ?_ ?_; unfold t) | beta_reduce | skip) | with_reducible apply KeptR.next | with_reducible apply State.raise_kept | with_reducible apply State.setR_kept | with_reducible apply Kept.ite | with_reducible apply KeptR.ite | with_reducible apply Kept.fold | with_reducible apply Kept.fold2 | with_reducible apply Kept.fold1 | (lift_lets; intro t; first | (with_reducible refine Kept.cut t ?_ ?_; unfold t) | skip) | dsimp -zeta only | split | dsimp +zetaDelta only)

theorem execFabCgAbort_kept {r₀ : State} (fd : Fin 8) (g : Fin 8) (s : State) (h0 : Kept r₀ s) : KeptR r₀ (execFabCgAbort fd g s) := by
  unfold execFabCgAbort
  repeat' (first | with_reducible assumption | (intro t; first | (with_reducible refine Kept.cut t ?_ ?_; unfold t) | beta_reduce | skip) | with_reducible apply KeptR.next | with_reducible apply State.setR_kept | with_reducible apply State.when_kept | with_reducible apply Kept.ite | with_reducible apply KeptR.ite | with_reducible apply Kept.fold | with_reducible apply Kept.fold2 | with_reducible apply Kept.fold1 | (lift_lets; intro t; first | (with_reducible refine Kept.cut t ?_ ?_; unfold t) | skip) | dsimp -zeta only | split | dsimp +zetaDelta only)

theorem execFabCgEnable_kept {r₀ : State} (fd : Fin 8) (g : Fin 8) (s : State) (h0 : Kept r₀ s) : KeptR r₀ (execFabCgEnable fd g s) := by
  unfold execFabCgEnable
  repeat' (first | with_reducible assumption | (intro t; first | (with_reducible refine Kept.cut t ?_ ?_; unfold t) | beta_reduce | skip) | with_reducible apply KeptR.next | with_reducible apply State.setR_kept | with_reducible apply State.when_kept | with_reducible apply Kept.ite | with_reducible apply KeptR.ite | with_reducible apply Kept.fold | with_reducible apply Kept.fold2 | with_reducible apply Kept.fold1 | (lift_lets; intro t; first | (with_reducible refine Kept.cut t ?_ ?_; unfold t) | skip) | dsimp -zeta only | split | dsimp +zetaDelta only)

theorem execFabCgDisable_kept {r₀ : State} (fd : Fin 8) (g : Fin 8) (s : State) (h0 : Kept r₀ s) : KeptR r₀ (execFabCgDisable fd g s) := by
  unfold execFabCgDisable
  repeat' (first | with_reducible assumption | (intro t; first | (with_reducible refine Kept.cut t ?_ ?_; unfold t) | beta_reduce | skip) | with_reducible apply KeptR.next | with_reducible apply State.setR_kept | with_reducible apply Kept.ite | with_reducible apply KeptR.ite | with_reducible apply Kept.fold | with_reducible apply Kept.fold2 | with_reducible apply Kept.fold1 | (lift_lets; intro t; first | (with_reducible refine Kept.cut t ?_ ?_; unfold t) | skip) | dsimp -zeta only | split | dsimp +zetaDelta only)

theorem execPwclkSourceWrite_kept {r₀ : State} (n : Fin 4) (fd : BitVec 3) (g : BitVec 3) (en : Bool) (s : State) (h0 : Kept r₀ s) : KeptR r₀ (execPwclkSourceWrite n fd g en s) := by
  unfold execPwclkSourceWrite
  repeat' (first | with_reducible assumption | (intro t; first | (with_reducible refine Kept.cut t ?_ ?_; unfold t) | beta_reduce | skip) | with_reducible apply KeptR.next | with_reducible apply State.setR_kept | with_reducible apply Kept.ite | with_reducible apply KeptR.ite | with_reducible apply Kept.fold | with_reducible apply Kept.fold2 | with_reducible apply Kept.fold1 | (lift_lets; intro t; first | (with_reducible refine Kept.cut t ?_ ?_; unfold t) | skip) | dsimp -zeta only | split | dsimp +zetaDelta only)

theorem execPwclkResume_kept {r₀ : State} (n : Fin 4) (s : State) (h0 : Kept r₀ s) : KeptR r₀ (execPwclkResume n s) := by
  unfold execPwclkResume
  repeat' (first | with_reducible assumption | (intro t; first | (with_reducible refine Kept.cut t ?_ ?_; unfold t) | beta_reduce | skip) | with_reducible apply KeptR.next | with_reducible apply State.setR_kept | with_reducible apply State.when_kept | with_reducible apply Kept.ite | with_reducible apply KeptR.ite | with_reducible apply Kept.fold | with_reducible apply Kept.fold2 | with_reducible apply Kept.fold1 | (lift_lets; intro t; first | (with_reducible refine Kept.cut t ?_ ?_; unfold t) | skip) | dsimp -zeta only | split | dsimp +zetaDelta only)

end Sys2Proof.Machine
end

