-- ==== Sys2Proof/Laws/Kept/Ports.lean ====
section
/-!
SUPPORT. Every operation of Machine/Ports.lean leaves the queue and keeps the tables in canonical form.
-/

set_option linter.unreachableTactic false
set_option linter.unusedTactic false
set_option linter.unusedVariables false

namespace Sys2Proof.Machine

theorem State.modRegion_kept {r₀ : State} (s : State) (rg : Nat) (f : RegionIc → RegionIc) (h0 : Kept r₀ s) : Kept r₀ (State.modRegion s rg f) := by
  unfold State.modRegion
  repeat' (first | with_reducible assumption | (intro t; first | (with_reducible refine Kept.cut t ?_ ?_; unfold t) | beta_reduce | skip) | with_reducible apply State.modIc_kept | with_reducible apply Kept.ite | with_reducible apply Kept.fold | with_reducible apply Kept.fold2 | with_reducible apply Kept.fold1 | (lift_lets; intro t; first | (with_reducible refine Kept.cut t ?_ ?_; unfold t) | skip) | dsimp -zeta only | split | dsimp +zetaDelta only)

theorem State.applyDelay_kept {r₀ : State} (s : State) (i : Nat) (h0 : Kept r₀ s) : Kept r₀ (State.applyDelay s i) := by
  unfold State.applyDelay
  repeat' (first | with_reducible assumption | (intro t; first | (with_reducible refine Kept.cut t ?_ ?_; unfold t) | beta_reduce | skip) | with_reducible apply State.setR_kept | with_reducible apply State.modTio_kept | with_reducible apply Kept.ite | with_reducible apply Kept.fold | with_reducible apply Kept.fold2 | with_reducible apply Kept.fold1 | (lift_lets; intro t; first | (with_reducible refine Kept.cut t ?_ ?_; unfold t) | skip) | dsimp -zeta only | split | with_reducible apply Map.sortedFrom_filter | with_reducible apply Map.wf_filter | dsimp +zetaDelta only)

end Sys2Proof.Machine
end

