-- ==== Sys2Proof/Laws/Kept/Domains.lean ====
section
/-!
SUPPORT. Every operation of Machine/Domains.lean leaves the queue and keeps the tables in canonical form.
-/

set_option linter.unreachableTactic false
set_option linter.unusedTactic false
set_option linter.unusedVariables false

namespace Sys2Proof.Machine

theorem State.restartRel_kept {r₀ : State} (s : State) (l : List Nat) (cause : Nat) (h0 : Kept r₀ s) : Kept r₀ (State.restartRel s l cause) := by
  unfold State.restartRel
  repeat' (first | with_reducible assumption | (intro t; first | (with_reducible refine Kept.cut t ?_ ?_; unfold t) | beta_reduce | skip) | with_reducible apply State.modFab_kept | with_reducible apply Kept.ite | with_reducible apply Kept.fold | with_reducible apply Kept.fold2 | with_reducible apply Kept.fold1 | (lift_lets; intro t; first | (with_reducible refine Kept.cut t ?_ ?_; unfold t) | skip) | dsimp -zeta only | split | dsimp +zetaDelta only)

theorem State.slotEnd_kept {r₀ : State} (s : State) (d op st : Nat) (reason : Nat) (h0 : Kept r₀ s) : Kept r₀ (State.slotEnd s d op st reason) := by
  unfold State.slotEnd
  repeat' (first | with_reducible assumption | (intro t; first | (with_reducible refine Kept.cut t ?_ ?_; unfold t) | beta_reduce | skip) | with_reducible apply State.setR_kept | with_reducible apply Kept.ite | with_reducible apply Kept.fold | with_reducible apply Kept.fold2 | with_reducible apply Kept.fold1 | (lift_lets; intro t; first | (with_reducible refine Kept.cut t ?_ ?_; unfold t) | skip) | dsimp -zeta only | split | dsimp +zetaDelta only)

theorem State.napPort_kept {r₀ : State} (s : State) (rg : Nat) (causes : List Nat) (h0 : Kept r₀ s) : Kept r₀ (State.napPort s rg causes) := by
  unfold State.napPort
  repeat' (first | with_reducible assumption | (intro t; first | (with_reducible refine Kept.cut t ?_ ?_; unfold t) | beta_reduce | skip) | with_reducible apply State.setR_kept | with_reducible apply Kept.ite | with_reducible apply Kept.fold | with_reducible apply Kept.fold2 | with_reducible apply Kept.fold1 | (lift_lets; intro t; first | (with_reducible refine Kept.cut t ?_ ?_; unfold t) | skip) | dsimp -zeta only | split | dsimp +zetaDelta only)

theorem State.reopenPorts_kept {r₀ : State} (s : State) (d : Nat) (h0 : Kept r₀ s) : Kept r₀ (State.reopenPorts s d) := by
  unfold State.reopenPorts
  repeat' (first | with_reducible assumption | (intro t; first | (with_reducible refine Kept.cut t ?_ ?_; unfold t) | beta_reduce | skip) | with_reducible apply State.napPort_kept | with_reducible apply State.setR_kept | with_reducible apply Kept.ite | with_reducible apply Kept.fold | with_reducible apply Kept.fold2 | with_reducible apply Kept.fold1 | (lift_lets; intro t; first | (with_reducible refine Kept.cut t ?_ ?_; unfold t) | skip) | dsimp -zeta only | split | dsimp +zetaDelta only)

theorem State.pwAbort_kept {r₀ : State} (s : State) (d : Nat) (h0 : Kept r₀ s) : Kept r₀ (State.pwAbort s d) := by
  unfold State.pwAbort
  repeat' (first | with_reducible assumption | (intro t; first | (with_reducible refine Kept.cut t ?_ ?_; unfold t) | beta_reduce | skip) | with_reducible apply State.reopenPorts_kept | with_reducible apply State.setR_kept | with_reducible apply State.slotEnd_kept | with_reducible apply Kept.ite | with_reducible apply Kept.fold | with_reducible apply Kept.fold2 | with_reducible apply Kept.fold1 | (lift_lets; intro t; first | (with_reducible refine Kept.cut t ?_ ?_; unfold t) | skip) | dsimp -zeta only | split | dsimp +zetaDelta only)

theorem State.pwLate_kept {r₀ : State} (s : State) (d : Nat) (h0 : Kept r₀ s) : Kept r₀ (State.pwLate s d) := by
  unfold State.pwLate
  repeat' (first | with_reducible assumption | (intro t; first | (with_reducible refine Kept.cut t ?_ ?_; unfold t) | beta_reduce | skip) | with_reducible apply State.setR_kept | with_reducible apply Kept.ite | with_reducible apply Kept.fold | with_reducible apply Kept.fold2 | with_reducible apply Kept.fold1 | (lift_lets; intro t; first | (with_reducible refine Kept.cut t ?_ ?_; unfold t) | skip) | dsimp -zeta only | split | dsimp +zetaDelta only)

theorem State.pwWake_kept {r₀ : State} (s : State) (d : Nat) (h0 : Kept r₀ s) : Kept r₀ (State.pwWake s d) := by
  unfold State.pwWake
  repeat' (first | with_reducible assumption | (intro t; first | (with_reducible refine Kept.cut t ?_ ?_; unfold t) | beta_reduce | skip) | with_reducible apply State.restartRel_kept | with_reducible apply State.setR_kept | with_reducible apply Kept.ite | with_reducible apply Kept.fold | with_reducible apply Kept.fold2 | with_reducible apply Kept.fold1 | (lift_lets; intro t; first | (with_reducible refine Kept.cut t ?_ ?_; unfold t) | skip) | dsimp -zeta only | split | with_reducible apply Map.sortedFrom_filter | with_reducible apply Map.wf_filter | dsimp +zetaDelta only)

theorem State.netWake_kept {r₀ : State} (s : State) (d : Nat) (h0 : Kept r₀ s) : Kept r₀ (State.netWake s d) := by
  unfold State.netWake
  repeat' (first | with_reducible assumption | (intro t; first | (with_reducible refine Kept.cut t ?_ ?_; unfold t) | beta_reduce | skip) | with_reducible apply State.pwWake_kept | with_reducible apply State.setR_kept | with_reducible apply Kept.ite | with_reducible apply Kept.fold | with_reducible apply Kept.fold2 | with_reducible apply Kept.fold1 | (lift_lets; intro t; first | (with_reducible refine Kept.cut t ?_ ?_; unfold t) | skip) | dsimp -zeta only | split | dsimp +zetaDelta only)

end Sys2Proof.Machine
end

