-- ==== Sys2Proof/Laws/Kept/Fabric.lean ====
section
/-!
SUPPORT. Every operation of Machine/Fabric.lean leaves the queue and keeps the tables in canonical form.
-/

set_option linter.unreachableTactic false
set_option linter.unusedTactic false
set_option linter.unusedVariables false

namespace Sys2Proof.Machine

theorem State.modRam_kept {r₀ : State} (s : State) (b : Nat) (f : RamBlk → RamBlk) (h0 : Kept r₀ s) : Kept r₀ (State.modRam s b f) := by
  unfold State.modRam
  repeat' (first | with_reducible assumption | (intro t; first | (with_reducible refine Kept.cut t ?_ ?_; unfold t) | beta_reduce | skip) | with_reducible apply State.modFab_kept | with_reducible apply Kept.ite | with_reducible apply Kept.fold | with_reducible apply Kept.fold2 | with_reducible apply Kept.fold1 | (lift_lets; intro t; first | (with_reducible refine Kept.cut t ?_ ?_; unfold t) | skip) | dsimp -zeta only | split | dsimp +zetaDelta only)

theorem State.ramKeep_kept {r₀ : State} (s : State) (b w : Nat) (h0 : Kept r₀ s) : Kept r₀ (State.ramKeep s b w) := by
  unfold State.ramKeep
  repeat' (first | with_reducible assumption | (intro t; first | (with_reducible refine Kept.cut t ?_ ?_; unfold t) | beta_reduce | skip) | with_reducible apply State.modFab_kept | with_reducible apply Kept.ite | with_reducible apply Kept.fold | with_reducible apply Kept.fold2 | with_reducible apply Kept.fold1 | (lift_lets; intro t; first | (with_reducible refine Kept.cut t ?_ ?_; unfold t) | skip) | dsimp -zeta only | split | dsimp +zetaDelta only)

theorem State.putRamWord_kept {r₀ : State} (s : State) (b w : Nat) (v : RamWord) (h0 : Kept r₀ s) : Kept r₀ (State.putRamWord s b w v) := by
  unfold State.putRamWord
  repeat' (first | with_reducible assumption | (intro t; first | (with_reducible refine Kept.cut t ?_ ?_; unfold t) | beta_reduce | skip) | with_reducible apply State.modFab_kept | with_reducible apply Kept.ite | with_reducible apply Kept.fold | with_reducible apply Kept.fold2 | with_reducible apply Kept.fold1 | (lift_lets; intro t; first | (with_reducible refine Kept.cut t ?_ ?_; unfold t) | skip) | dsimp -zeta only | split | dsimp +zetaDelta only)

theorem State.ramError_kept {r₀ : State} (s : State) (n : Nat) (b : Fin 4) (port : RamPort) (w : Nat) (ue : Bool) (h0 : Kept r₀ s) : Kept r₀ (State.ramError s n b port w ue) := by
  unfold State.ramError
  repeat' (first | with_reducible assumption | (intro t; first | (with_reducible refine Kept.cut t ?_ ?_; unfold t) | beta_reduce | skip) | with_reducible apply State.raise_kept | with_reducible apply State.satAdd_kept | with_reducible apply State.setR_kept | with_reducible apply Kept.ite | with_reducible apply Kept.fold | with_reducible apply Kept.fold2 | with_reducible apply Kept.fold1 | (lift_lets; intro t; first | (with_reducible refine Kept.cut t ?_ ?_; unfold t) | skip) | dsimp -zeta only | split | dsimp +zetaDelta only)

theorem State.ramReads_kept {r₀ : State} (s : State) (rg : Nat) (b : Fin 4) (port : RamPort) (addr : Nat) (upset : Option Upset) (h0 : Kept r₀ s) : Kept r₀ (State.ramReads s rg b port addr upset) := by
  unfold State.ramReads
  repeat' (first | with_reducible assumption | (intro t; first | (with_reducible refine Kept.cut t ?_ ?_; unfold t) | beta_reduce | skip) | with_reducible apply State.modRam_kept | with_reducible apply State.putRamWord_kept | with_reducible apply State.ramError_kept | with_reducible apply Kept.ite | with_reducible apply Kept.fold | with_reducible apply Kept.fold2 | with_reducible apply Kept.fold1 | (lift_lets; intro t; first | (with_reducible refine Kept.cut t ?_ ?_; unfold t) | skip) | dsimp -zeta only | split | dsimp +zetaDelta only)

theorem execFabRamRead_kept {r₀ : State} (fd : Fin 8) (rgn_ : Fin 384) (b : Fin 4) (port : RamPort) (addr : Nat) (upset : Option Upset) (s : State) (h0 : Kept r₀ s) : KeptR r₀ (execFabRamRead fd rgn_ b port addr upset s) := by
  unfold execFabRamRead
  repeat' (first | with_reducible assumption | (intro t; first | (with_reducible refine Kept.cut t ?_ ?_; unfold t) | beta_reduce | skip) | with_reducible apply KeptR.next | with_reducible apply State.ramReads_kept | with_reducible apply Kept.ite | with_reducible apply KeptR.ite | with_reducible apply Kept.fold | with_reducible apply Kept.fold2 | with_reducible apply Kept.fold1 | (lift_lets; intro t; first | (with_reducible refine Kept.cut t ?_ ?_; unfold t) | skip) | dsimp -zeta only | split | dsimp +zetaDelta only)

theorem State.ramStore_kept {r₀ : State} (s : State) (n w : Nat) (r : RamWrite) (mask : Nat × Nat) (h0 : Kept r₀ s) : Kept r₀ (State.ramStore s n w r mask) := by
  unfold State.ramStore
  repeat' (first | with_reducible assumption | (intro t; first | (with_reducible refine Kept.cut t ?_ ?_; unfold t) | beta_reduce | skip) | with_reducible apply State.putRamWord_kept | with_reducible apply State.ramKeep_kept | with_reducible apply Kept.ite | with_reducible apply Kept.fold | with_reducible apply Kept.fold2 | with_reducible apply Kept.fold1 | (lift_lets; intro t; first | (with_reducible refine Kept.cut t ?_ ?_; unfold t) | skip) | dsimp -zeta only | split | dsimp +zetaDelta only)

theorem State.ramWrites_kept {r₀ : State} (s : State) (n : Nat) (pa pb : Option RamWrite) (h0 : Kept r₀ s) : Kept r₀ (State.ramWrites s n pa pb) := by
  unfold State.ramWrites
  repeat' (first | with_reducible assumption | (intro t; first | (with_reducible refine Kept.cut t ?_ ?_; unfold t) | beta_reduce | skip) | with_reducible apply State.modRam_kept | with_reducible apply State.ramStore_kept | with_reducible apply State.satAdd_kept | with_reducible apply Kept.ite | with_reducible apply Kept.fold | with_reducible apply Kept.fold2 | with_reducible apply Kept.fold1 | (lift_lets; intro t; first | (with_reducible refine Kept.cut t ?_ ?_; unfold t) | skip) | dsimp -zeta only | split | dsimp +zetaDelta only)

theorem execFabRamWrite_kept {r₀ : State} (fd : Fin 8) (rgn_ : Fin 384) (b : Fin 4) (pa : Option RamWrite) (pb : Option RamWrite) (s : State) (h0 : Kept r₀ s) : KeptR r₀ (execFabRamWrite fd rgn_ b pa pb s) := by
  unfold execFabRamWrite
  repeat' (first | with_reducible assumption | (intro t; first | (with_reducible refine Kept.cut t ?_ ?_; unfold t) | beta_reduce | skip) | with_reducible apply KeptR.next | with_reducible apply State.ramWrites_kept | with_reducible apply Kept.ite | with_reducible apply KeptR.ite | with_reducible apply Kept.fold | with_reducible apply Kept.fold2 | with_reducible apply Kept.fold1 | (lift_lets; intro t; first | (with_reducible refine Kept.cut t ?_ ?_; unfold t) | skip) | dsimp -zeta only | split | dsimp +zetaDelta only)

theorem execMacUpdate_kept {r₀ : State} (fd : Fin 8) (rgn_ : Fin 384) (slice : Fin 8) (inp : MacIn) (s : State) (h0 : Kept r₀ s) : KeptR r₀ (execMacUpdate fd rgn_ slice inp s) := by
  unfold execMacUpdate
  repeat' (first | with_reducible assumption | (intro t; first | (with_reducible refine Kept.cut t ?_ ?_; unfold t) | beta_reduce | skip) | with_reducible apply KeptR.next | with_reducible apply State.modFab_kept | with_reducible apply Kept.ite | with_reducible apply KeptR.ite | with_reducible apply Kept.fold | with_reducible apply Kept.fold2 | with_reducible apply Kept.fold1 | (lift_lets; intro t; first | (with_reducible refine Kept.cut t ?_ ?_; unfold t) | skip) | dsimp -zeta only | split | dsimp +zetaDelta only)

theorem State.roBring_kept {r₀ : State} (s : State) (i : Nat) (h0 : Kept r₀ s) : Kept r₀ (State.roBring s i) := by
  unfold State.roBring
  repeat' (first | with_reducible assumption | (intro t; first | (with_reducible refine Kept.cut t ?_ ?_; unfold t) | beta_reduce | skip) | with_reducible apply State.draw_kept | with_reducible apply State.setR_kept | with_reducible apply Kept.ite | with_reducible apply Kept.fold | with_reducible apply Kept.fold2 | with_reducible apply Kept.fold1 | (lift_lets; intro t; first | (with_reducible refine Kept.cut t ?_ ?_; unfold t) | skip) | dsimp -zeta only | split | dsimp +zetaDelta only)

theorem State.roEnable_kept {r₀ : State} (s : State) (i : Nat) (en : Bool) (h0 : Kept r₀ s) : Kept r₀ (State.roEnable s i en) := by
  unfold State.roEnable
  repeat' (first | with_reducible assumption | (intro t; first | (with_reducible refine Kept.cut t ?_ ?_; unfold t) | beta_reduce | skip) | with_reducible apply State.resetFields_kept | with_reducible apply State.roBring_kept | with_reducible apply State.setR_kept | with_reducible apply Kept.ite | with_reducible apply Kept.fold | with_reducible apply Kept.fold2 | with_reducible apply Kept.fold1 | (lift_lets; intro t; first | (with_reducible refine Kept.cut t ?_ ?_; unfold t) | skip) | dsimp -zeta only | split | dsimp +zetaDelta only)

theorem State.roEdge_kept {r₀ : State} (s : State) (rg : Nat) (h0 : Kept r₀ s) : Kept r₀ (State.roEdge s rg) := by
  unfold State.roEdge
  repeat' (first | with_reducible assumption | (intro t; first | (with_reducible refine Kept.cut t ?_ ?_; unfold t) | beta_reduce | skip) | with_reducible apply State.roBring_kept | with_reducible apply State.setR_kept | with_reducible apply Kept.ite | with_reducible apply Kept.fold | with_reducible apply Kept.fold2 | with_reducible apply Kept.fold1 | (lift_lets; intro t; first | (with_reducible refine Kept.cut t ?_ ?_; unfold t) | skip) | dsimp -zeta only | split | dsimp +zetaDelta only)

theorem execFabRoTrim_kept {r₀ : State} (fd : Fin 8) (g : Fin 8) (s : State) (h0 : Kept r₀ s) : KeptR r₀ (execFabRoTrim fd g s) := by
  unfold execFabRoTrim
  repeat' (first | with_reducible assumption | (intro t; first | (with_reducible refine Kept.cut t ?_ ?_; unfold t) | beta_reduce | skip) | with_reducible apply KeptR.next | with_reducible apply State.setR_kept | with_reducible apply State.when_kept | with_reducible apply Kept.ite | with_reducible apply KeptR.ite | with_reducible apply Kept.fold | with_reducible apply Kept.fold2 | with_reducible apply Kept.fold1 | (lift_lets; intro t; first | (with_reducible refine Kept.cut t ?_ ?_; unfold t) | skip) | dsimp -zeta only | split | dsimp +zetaDelta only)

theorem State.roDrift_kept {r₀ : State} (s : State) (i : Nat) (h0 : Kept r₀ s) : Kept r₀ (State.roDrift s i) := by
  unfold State.roDrift
  repeat' (first | with_reducible assumption | (intro t; first | (with_reducible refine Kept.cut t ?_ ?_; unfold t) | beta_reduce | skip) | with_reducible apply State.roBring_kept | with_reducible apply State.setR_kept | with_reducible apply Kept.ite | with_reducible apply Kept.fold | with_reducible apply Kept.fold2 | with_reducible apply Kept.fold1 | (lift_lets; intro t; first | (with_reducible refine Kept.cut t ?_ ?_; unfold t) | skip) | dsimp -zeta only | split | dsimp +zetaDelta only)

theorem execRoTrimWindowEnd_kept {r₀ : State} (fd : Fin 8) (g : Fin 8) (within : Bool) (s : State) (h0 : Kept r₀ s) : KeptR r₀ (execRoTrimWindowEnd fd g within s) := by
  unfold execRoTrimWindowEnd
  repeat' (first | with_reducible assumption | (intro t; first | (with_reducible refine Kept.cut t ?_ ?_; unfold t) | beta_reduce | skip) | with_reducible apply KeptR.next | with_reducible apply State.draw_kept | with_reducible apply State.markCommit_kept | with_reducible apply State.roBring_kept | with_reducible apply State.setR_kept | with_reducible apply State.wrapAdd_kept | with_reducible apply Kept.ite | with_reducible apply KeptR.ite | with_reducible apply Kept.fold | with_reducible apply Kept.fold2 | with_reducible apply Kept.fold1 | (lift_lets; intro t; first | (with_reducible refine Kept.cut t ?_ ?_; unfold t) | skip) | dsimp -zeta only | split | dsimp +zetaDelta only)

theorem execFabRoAbort_kept {r₀ : State} (fd : Fin 8) (g : Fin 8) (s : State) (h0 : Kept r₀ s) : KeptR r₀ (execFabRoAbort fd g s) := by
  unfold execFabRoAbort
  repeat' (first | with_reducible assumption | (intro t; first | (with_reducible refine Kept.cut t ?_ ?_; unfold t) | beta_reduce | skip) | with_reducible apply KeptR.next | with_reducible apply State.setR_kept | with_reducible apply State.when_kept | with_reducible apply Kept.ite | with_reducible apply KeptR.ite | with_reducible apply Kept.fold | with_reducible apply Kept.fold2 | with_reducible apply Kept.fold1 | (lift_lets; intro t; first | (with_reducible refine Kept.cut t ?_ ?_; unfold t) | skip) | dsimp -zeta only | split | dsimp +zetaDelta only)

theorem execFabRoFreqWrite_kept {r₀ : State} (fd : Fin 8) (g : Fin 8) (freq : BitVec 10) (s : State) (h0 : Kept r₀ s) : KeptR r₀ (execFabRoFreqWrite fd g freq s) := by
  unfold execFabRoFreqWrite
  repeat' (first | with_reducible assumption | (intro t; first | (with_reducible refine Kept.cut t ?_ ?_; unfold t) | beta_reduce | skip) | with_reducible apply KeptR.next | with_reducible apply State.roBring_kept | with_reducible apply State.setR_kept | with_reducible apply Kept.ite | with_reducible apply KeptR.ite | with_reducible apply Kept.fold | with_reducible apply Kept.fold2 | with_reducible apply Kept.fold1 | (lift_lets; intro t; first | (with_reducible refine Kept.cut t ?_ ?_; unfold t) | skip) | dsimp -zeta only | split | dsimp +zetaDelta only)

theorem State.spLine_kept {r₀ : State} (s : State) (i : Nat) (h0 : Kept r₀ s) : Kept r₀ (State.spLine s i) := by
  unfold State.spLine
  repeat' (first | with_reducible assumption | (intro t; first | (with_reducible refine Kept.cut t ?_ ?_; unfold t) | beta_reduce | skip) | with_reducible apply State.irqLevel_kept | with_reducible apply Kept.ite | with_reducible apply Kept.fold | with_reducible apply Kept.fold2 | with_reducible apply Kept.fold1 | (lift_lets; intro t; first | (with_reducible refine Kept.cut t ?_ ?_; unfold t) | skip) | dsimp -zeta only | split | dsimp +zetaDelta only)

theorem State.spMark_kept {r₀ : State} (s : State) (i : Nat) (f : Field) (h0 : Kept r₀ s) : Kept r₀ (State.spMark s i f) := by
  unfold State.spMark
  repeat' (first | with_reducible assumption | (intro t; first | (with_reducible refine Kept.cut t ?_ ?_; unfold t) | beta_reduce | skip) | with_reducible apply State.setR_kept | with_reducible apply State.spLine_kept | with_reducible apply Kept.ite | with_reducible apply Kept.fold | with_reducible apply Kept.fold2 | with_reducible apply Kept.fold1 | (lift_lets; intro t; first | (with_reducible refine Kept.cut t ?_ ?_; unfold t) | skip) | dsimp -zeta only | split | dsimp +zetaDelta only)

theorem State.modSp_kept {r₀ : State} (s : State) (i : Nat) (f : SerialPort → SerialPort) (h0 : Kept r₀ s) : Kept r₀ (State.modSp s i f) := by
  unfold State.modSp
  repeat' (first | with_reducible assumption | (intro t; first | (with_reducible refine Kept.cut t ?_ ?_; unfold t) | beta_reduce | skip) | with_reducible apply State.setR_kept | with_reducible apply State.spLine_kept | with_reducible apply State.modFab_kept | with_reducible apply Kept.ite | with_reducible apply Kept.fold | with_reducible apply Kept.fold2 | with_reducible apply Kept.fold1 | (lift_lets; intro t; first | (with_reducible refine Kept.cut t ?_ ?_; unfold t) | skip) | dsimp -zeta only | split | dsimp +zetaDelta only)

theorem execSpDataPush_kept {r₀ : State} (fd : Fin 8) (p : Fin 8) (byte : BitVec 8) (s : State) (h0 : Kept r₀ s) : KeptR r₀ (execSpDataPush fd p byte s) := by
  unfold execSpDataPush
  repeat' (first | with_reducible assumption | (intro t; first | (with_reducible refine Kept.cut t ?_ ?_; unfold t) | beta_reduce | skip) | with_reducible apply KeptR.next | with_reducible apply State.modSp_kept | with_reducible apply State.spMark_kept | with_reducible apply Kept.ite | with_reducible apply KeptR.ite | with_reducible apply Kept.fold | with_reducible apply Kept.fold2 | with_reducible apply Kept.fold1 | (lift_lets; intro t; first | (with_reducible refine Kept.cut t ?_ ?_; unfold t) | skip) | dsimp -zeta only | split | dsimp +zetaDelta only)

theorem execSpDataPop_kept {r₀ : State} (fd : Fin 8) (p : Fin 8) (peek : Bool) (s : State) (h0 : Kept r₀ s) : KeptR r₀ (execSpDataPop fd p peek s) := by
  unfold execSpDataPop
  repeat' (first | with_reducible assumption | (intro t; first | (with_reducible refine Kept.cut t ?_ ?_; unfold t) | beta_reduce | skip) | with_reducible apply KeptR.next | with_reducible apply State.modSp_kept | with_reducible apply State.respond_kept | with_reducible apply Kept.ite | with_reducible apply KeptR.ite | with_reducible apply Kept.fold | with_reducible apply Kept.fold2 | with_reducible apply Kept.fold1 | (lift_lets; intro t; first | (with_reducible refine Kept.cut t ?_ ?_; unfold t) | skip) | dsimp -zeta only | split | dsimp +zetaDelta only)

theorem execSpModeApply_kept {r₀ : State} (fd : Fin 8) (p : Fin 8) (s : State) (h0 : Kept r₀ s) : KeptR r₀ (execSpModeApply fd p s) := by
  unfold execSpModeApply
  repeat' (first | with_reducible assumption | (intro t; first | (with_reducible refine Kept.cut t ?_ ?_; unfold t) | beta_reduce | skip) | with_reducible apply KeptR.next | with_reducible apply State.modSp_kept | with_reducible apply Kept.ite | with_reducible apply KeptR.ite | with_reducible apply Kept.fold | with_reducible apply Kept.fold2 | with_reducible apply Kept.fold1 | (lift_lets; intro t; first | (with_reducible refine Kept.cut t ?_ ?_; unfold t) | skip) | dsimp -zeta only | split | dsimp +zetaDelta only)

theorem execSpByteReceived_kept {r₀ : State} (fd : Fin 8) (p : Fin 8) (byte : BitVec 8) (lineErr : Bool) (s : State) (h0 : Kept r₀ s) : KeptR r₀ (execSpByteReceived fd p byte lineErr s) := by
  unfold execSpByteReceived
  repeat' (first | with_reducible assumption | (intro t; first | (with_reducible refine Kept.cut t ?_ ?_; unfold t) | beta_reduce | skip) | with_reducible apply KeptR.next | with_reducible apply State.modSp_kept | with_reducible apply State.spMark_kept | with_reducible apply Kept.ite | with_reducible apply KeptR.ite | with_reducible apply Kept.fold | with_reducible apply Kept.fold2 | with_reducible apply Kept.fold1 | (lift_lets; intro t; first | (with_reducible refine Kept.cut t ?_ ?_; unfold t) | skip) | dsimp -zeta only | split | dsimp +zetaDelta only)

theorem execSpByteSent_kept {r₀ : State} (fd : Fin 8) (p : Fin 8) (lineErr : Bool) (s : State) (h0 : Kept r₀ s) : KeptR r₀ (execSpByteSent fd p lineErr s) := by
  unfold execSpByteSent
  repeat' (first | with_reducible assumption | (intro t; first | (with_reducible refine Kept.cut t ?_ ?_; unfold t) | beta_reduce | skip) | with_reducible apply KeptR.next | with_reducible apply State.modSp_kept | with_reducible apply State.spMark_kept | with_reducible apply Kept.ite | with_reducible apply KeptR.ite | with_reducible apply Kept.fold | with_reducible apply Kept.fold2 | with_reducible apply Kept.fold1 | (lift_lets; intro t; first | (with_reducible refine Kept.cut t ?_ ?_; unfold t) | skip) | dsimp -zeta only | split | dsimp +zetaDelta only)

end Sys2Proof.Machine
end

