-- ==== Sys2Proof/Laws/Kept/MidAccess.lean ====
section
/-!
SUPPORT. Every operation of Machine/MidAccess.lean leaves the queue and keeps the tables in canonical form.
-/

set_option linter.unreachableTactic false
set_option linter.unusedTactic false
set_option linter.unusedVariables false

namespace Sys2Proof.Machine

theorem State.midTouch_kept {r₀ : State} (s : State) (bd cls index : Nat) (h0 : Kept r₀ s) : Kept r₀ (State.midTouch s bd cls index) := by
  unfold State.midTouch
  repeat' (first | with_reducible assumption | (intro t; first | (with_reducible refine Kept.cut t ?_ ?_; unfold t) | beta_reduce | skip) | with_reducible apply State.raise_kept | with_reducible apply State.setR_kept | with_reducible apply State.modMid_kept | with_reducible apply Kept.ite | with_reducible apply Kept.fold | with_reducible apply Kept.fold2 | with_reducible apply Kept.fold1 | (lift_lets; intro t; first | (with_reducible refine Kept.cut t ?_ ?_; unfold t) | skip) | dsimp -zeta only | split | dsimp +zetaDelta only)

theorem State.touchPair_kept {r₀ : State} (s : State) (n : Nat) (h0 : Kept r₀ s) : Kept r₀ (State.touchPair s n) := by
  unfold State.touchPair
  repeat' (first | with_reducible assumption | (intro t; first | (with_reducible refine Kept.cut t ?_ ?_; unfold t) | beta_reduce | skip) | with_reducible apply State.midTouch_kept | with_reducible apply Kept.ite | with_reducible apply Kept.fold | with_reducible apply Kept.fold2 | with_reducible apply Kept.fold1 | (lift_lets; intro t; first | (with_reducible refine Kept.cut t ?_ ?_; unfold t) | skip) | dsimp -zeta only | split | dsimp +zetaDelta only)

theorem State.touchGroup_kept {r₀ : State} (s : State) (g : Nat) (h0 : Kept r₀ s) : Kept r₀ (State.touchGroup s g) := by
  unfold State.touchGroup
  repeat' (first | with_reducible assumption | (intro t; first | (with_reducible refine Kept.cut t ?_ ?_; unfold t) | beta_reduce | skip) | with_reducible apply State.midTouch_kept | with_reducible apply Kept.ite | with_reducible apply Kept.fold | with_reducible apply Kept.fold2 | with_reducible apply Kept.fold1 | (lift_lets; intro t; first | (with_reducible refine Kept.cut t ?_ ?_; unfold t) | skip) | dsimp -zeta only | split | dsimp +zetaDelta only)

theorem State.touchRegion_kept {r₀ : State} (s : State) (rg : Nat) (h0 : Kept r₀ s) : Kept r₀ (State.touchRegion s rg) := by
  unfold State.touchRegion
  repeat' (first | with_reducible assumption | (intro t; first | (with_reducible refine Kept.cut t ?_ ?_; unfold t) | beta_reduce | skip) | with_reducible apply State.midTouch_kept | with_reducible apply Kept.ite | with_reducible apply Kept.fold | with_reducible apply Kept.fold2 | with_reducible apply Kept.fold1 | (lift_lets; intro t; first | (with_reducible refine Kept.cut t ?_ ?_; unfold t) | skip) | dsimp -zeta only | split | dsimp +zetaDelta only)

theorem State.touchLane_kept {r₀ : State} (s : State) (lane : Nat) (h0 : Kept r₀ s) : Kept r₀ (State.touchLane s lane) := by
  unfold State.touchLane
  repeat' (first | with_reducible assumption | (intro t; first | (with_reducible refine Kept.cut t ?_ ?_; unfold t) | beta_reduce | skip) | with_reducible apply State.midTouch_kept | with_reducible apply Kept.ite | with_reducible apply Kept.fold | with_reducible apply Kept.fold2 | with_reducible apply Kept.fold1 | (lift_lets; intro t; first | (with_reducible refine Kept.cut t ?_ ?_; unfold t) | skip) | dsimp -zeta only | split | dsimp +zetaDelta only)

theorem State.dawnGuard_kept {r s t : State} {a n req : Nat} {write : Bool} (h : Kept r s) (e : s.dawnGuard a n req write = some t) : Kept r t := by
  unfold State.dawnGuard at e
  repeat' split at e
  · cases e
  · cases e; exact h
  · cases e; exact State.raise_kept _ _ _ _ _ h
  · cases e

end Sys2Proof.Machine
end

