-- ==== Sys2Proof/Laws/Kept/PgeRun.lean ====
section
/-!
SUPPORT. Every operation of Machine/PgeRun.lean leaves the queue and keeps the tables in canonical form.
-/

set_option linter.unreachableTactic false
set_option linter.unusedTactic false
set_option linter.unusedVariables false

namespace Sys2Proof.Machine

theorem State.modPgx_kept {r₀ : State} (s : State) (n : Nat) (f : Pge → Pge) (h0 : Kept r₀ s) : Kept r₀ (State.modPgx s n f) := by
  unfold State.modPgx
  repeat' (first | with_reducible assumption | (intro t; first | (with_reducible refine Kept.cut t ?_ ?_; unfold t) | beta_reduce | skip) | with_reducible apply State.modPge_kept | with_reducible apply Kept.ite | with_reducible apply Kept.fold | with_reducible apply Kept.fold2 | with_reducible apply Kept.fold1 | (lift_lets; intro t; first | (with_reducible refine Kept.cut t ?_ ?_; unfold t) | skip) | dsimp -zeta only | split | dsimp +zetaDelta only)

theorem State.modOut_kept {r₀ : State} (s : State) (n g : Nat) (f : PgeOut → PgeOut) (h0 : Kept r₀ s) : Kept r₀ (State.modOut s n g f) := by
  unfold State.modOut
  repeat' (first | with_reducible assumption | (intro t; first | (with_reducible refine Kept.cut t ?_ ?_; unfold t) | beta_reduce | skip) | with_reducible apply State.modPgx_kept | with_reducible apply Kept.ite | with_reducible apply Kept.fold | with_reducible apply Kept.fold2 | with_reducible apply Kept.fold1 | (lift_lets; intro t; first | (with_reducible refine Kept.cut t ?_ ?_; unfold t) | skip) | dsimp -zeta only | split | dsimp +zetaDelta only)

theorem State.closeOutput_kept {r₀ : State} (s : State) (n g : Nat) (h0 : Kept r₀ s) : Kept r₀ (State.closeOutput s n g) := by
  unfold State.closeOutput
  repeat' (first | with_reducible assumption | (intro t; first | (with_reducible refine Kept.cut t ?_ ?_; unfold t) | beta_reduce | skip) | with_reducible apply State.modOut_kept | with_reducible apply Kept.ite | with_reducible apply Kept.fold | with_reducible apply Kept.fold2 | with_reducible apply Kept.fold1 | (lift_lets; intro t; first | (with_reducible refine Kept.cut t ?_ ?_; unfold t) | skip) | dsimp -zeta only | split | dsimp +zetaDelta only)

theorem State.endRun_kept {r₀ : State} (s : State) (n why : Nat) (h0 : Kept r₀ s) : Kept r₀ (State.endRun s n why) := by
  unfold State.endRun
  repeat' (first | with_reducible assumption | (intro t; first | (with_reducible refine Kept.cut t ?_ ?_; unfold t) | beta_reduce | skip) | with_reducible apply State.closeOutput_kept | with_reducible apply State.modPgx_kept | with_reducible apply Kept.ite | with_reducible apply Kept.fold | with_reducible apply Kept.fold2 | with_reducible apply Kept.fold1 | (lift_lets; intro t; first | (with_reducible refine Kept.cut t ?_ ?_; unfold t) | skip) | dsimp -zeta only | split | dsimp +zetaDelta only)

theorem State.pgeFail_kept {r₀ : State} (s : State) (n cause : Nat) (h0 : Kept r₀ s) : Kept r₀ (State.pgeFail s n cause) := by
  unfold State.pgeFail
  repeat' (first | with_reducible assumption | (intro t; first | (with_reducible refine Kept.cut t ?_ ?_; unfold t) | beta_reduce | skip) | with_reducible apply State.endRun_kept | with_reducible apply State.pgeSt_kept | with_reducible apply State.setR_kept | with_reducible apply Kept.ite | with_reducible apply Kept.fold | with_reducible apply Kept.fold2 | with_reducible apply Kept.fold1 | (lift_lets; intro t; first | (with_reducible refine Kept.cut t ?_ ?_; unfold t) | skip) | dsimp -zeta only | split | dsimp +zetaDelta only)

theorem State.pgeOutputLost_kept {r₀ : State} (s : State) (id : Nat) (h0 : Kept r₀ s) : Kept r₀ (State.pgeOutputLost s id) := by
  unfold State.pgeOutputLost
  repeat' (first | with_reducible assumption | (intro t; first | (with_reducible refine Kept.cut t ?_ ?_; unfold t) | beta_reduce | skip) | with_reducible apply State.pgeFail_kept | with_reducible apply State.raise_kept | with_reducible apply Kept.ite | with_reducible apply Kept.fold | with_reducible apply Kept.fold2 | with_reducible apply Kept.fold1 | (lift_lets; intro t; first | (with_reducible refine Kept.cut t ?_ ?_; unfold t) | skip) | dsimp -zeta only | split | dsimp +zetaDelta only)

theorem State.pgeUnlock_kept {r₀ : State} (s : State) (n : Nat) (h0 : Kept r₀ s) : Kept r₀ (State.pgeUnlock s n) := by
  unfold State.pgeUnlock
  repeat' (first | with_reducible assumption | (intro t; first | (with_reducible refine Kept.cut t ?_ ?_; unfold t) | beta_reduce | skip) | with_reducible apply State.modPgx_kept | with_reducible apply State.pgeSt_kept | with_reducible apply State.raise_kept | with_reducible apply State.setR_kept | with_reducible apply Kept.ite | with_reducible apply Kept.fold | with_reducible apply Kept.fold2 | with_reducible apply Kept.fold1 | (lift_lets; intro t; first | (with_reducible refine Kept.cut t ?_ ?_; unfold t) | skip) | dsimp -zeta only | split | dsimp +zetaDelta only)

end Sys2Proof.Machine
end

