-- ==== Sys2Proof/Laws/Kept/Net.lean ====
section
/-!
SUPPORT. Every operation of Machine/Net.lean leaves the queue and keeps the tables in canonical form.
-/

set_option linter.unreachableTactic false
set_option linter.unusedTactic false
set_option linter.unusedVariables false

namespace Sys2Proof.Machine

theorem State.enter_kept {r₀ : State} (s : State) (r input : Nat) (p : Packet) (h0 : Kept r₀ s) : Kept r₀ (State.enter s r input p) := by
  unfold State.enter
  repeat' (first | with_reducible assumption | (intro t; first | (with_reducible refine Kept.cut t ?_ ?_; unfold t) | beta_reduce | skip) | with_reducible apply State.modNoc_kept | with_reducible apply Kept.ite | with_reducible apply Kept.fold | with_reducible apply Kept.fold2 | with_reducible apply Kept.fold1 | (lift_lets; intro t; first | (with_reducible refine Kept.cut t ?_ ?_; unfold t) | skip) | dsimp -zeta only | split | dsimp +zetaDelta only)

theorem State.inject_kept {r₀ : State} (s : State) (p : Packet) (h0 : Kept r₀ s) : Kept r₀ (State.inject s p) := by
  unfold State.inject
  repeat' (first | with_reducible assumption | (intro t; first | (with_reducible refine Kept.cut t ?_ ?_; unfold t) | beta_reduce | skip) | with_reducible apply State.enter_kept | with_reducible apply Kept.ite | with_reducible apply Kept.fold | with_reducible apply Kept.fold2 | with_reducible apply Kept.fold1 | (lift_lets; intro t; first | (with_reducible refine Kept.cut t ?_ ?_; unfold t) | skip) | dsimp -zeta only | split | dsimp +zetaDelta only)

theorem State.injectAt_kept {r₀ : State} (s : State) (r : Nat) (p : Packet) (h0 : Kept r₀ s) : Kept r₀ (State.injectAt s r p) := by
  unfold State.injectAt
  repeat' (first | with_reducible assumption | (intro t; first | (with_reducible refine Kept.cut t ?_ ?_; unfold t) | beta_reduce | skip) | with_reducible apply State.enter_kept | with_reducible apply Kept.ite | with_reducible apply Kept.fold | with_reducible apply Kept.fold2 | with_reducible apply Kept.fold1 | (lift_lets; intro t; first | (with_reducible refine Kept.cut t ?_ ?_; unfold t) | skip) | dsimp -zeta only | split | dsimp +zetaDelta only)

theorem State.answerAt_kept {r₀ : State} (s : State) (r : Nat) (p : Packet) (status : Nat) (h0 : Kept r₀ s) : Kept r₀ (State.answerAt s r p status) := by
  unfold State.answerAt
  repeat' (first | with_reducible assumption | (intro t; first | (with_reducible refine Kept.cut t ?_ ?_; unfold t) | beta_reduce | skip) | with_reducible apply State.enter_kept | with_reducible apply Kept.ite | with_reducible apply Kept.fold | with_reducible apply Kept.fold2 | with_reducible apply Kept.fold1 | (lift_lets; intro t; first | (with_reducible refine Kept.cut t ?_ ?_; unfold t) | skip) | dsimp -zeta only | split | dsimp +zetaDelta only)

theorem State.answerStatus_kept {r₀ : State} (s : State) (e : Nat) (p : Packet) (st : Nat) (h0 : Kept r₀ s) : Kept r₀ (State.answerStatus s e p st) := by
  unfold State.answerStatus
  repeat' (first | with_reducible assumption | (intro t; first | (with_reducible refine Kept.cut t ?_ ?_; unfold t) | beta_reduce | skip) | with_reducible apply State.injectAt_kept | with_reducible apply Kept.ite | with_reducible apply Kept.fold | with_reducible apply Kept.fold2 | with_reducible apply Kept.fold1 | (lift_lets; intro t; first | (with_reducible refine Kept.cut t ?_ ?_; unfold t) | skip) | dsimp -zeta only | split | dsimp +zetaDelta only)

theorem State.notice_kept {r₀ : State} (s : State) (r from_ to_ code : Nat) (p : Packet) (h0 : Kept r₀ s) : Kept r₀ (State.notice s r from_ to_ code p) := by
  unfold State.notice
  repeat' (first | with_reducible assumption | (intro t; first | (with_reducible refine Kept.cut t ?_ ?_; unfold t) | beta_reduce | skip) | with_reducible apply State.enter_kept | with_reducible apply Kept.ite | with_reducible apply Kept.fold | with_reducible apply Kept.fold2 | with_reducible apply Kept.fold1 | (lift_lets; intro t; first | (with_reducible refine Kept.cut t ?_ ?_; unfold t) | skip) | dsimp -zeta only | split | dsimp +zetaDelta only)

theorem State.unmappedAt_kept {r₀ : State} (s : State) (source : Nat) (p : Packet) (h0 : Kept r₀ s) : Kept r₀ (State.unmappedAt s source p) := by
  unfold State.unmappedAt
  repeat' (first | with_reducible assumption | (intro t; first | (with_reducible refine Kept.cut t ?_ ?_; unfold t) | beta_reduce | skip) | with_reducible apply State.raise_kept | with_reducible apply Kept.ite | with_reducible apply Kept.fold | with_reducible apply Kept.fold2 | with_reducible apply Kept.fold1 | (lift_lets; intro t; first | (with_reducible refine Kept.cut t ?_ ?_; unfold t) | skip) | dsimp -zeta only | split | dsimp +zetaDelta only)

theorem State.thyCount_kept {r₀ : State} (s : State) (h0 : Kept r₀ s) : Kept r₀ (State.thyCount s) := by
  unfold State.thyCount
  repeat' (first | with_reducible assumption | (intro t; first | (with_reducible refine Kept.cut t ?_ ?_; unfold t) | beta_reduce | skip) | with_reducible apply State.setR_kept | with_reducible apply Kept.ite | with_reducible apply Kept.fold | with_reducible apply Kept.fold2 | with_reducible apply Kept.fold1 | (lift_lets; intro t; first | (with_reducible refine Kept.cut t ?_ ?_; unfold t) | skip) | dsimp -zeta only | split | with_reducible apply Map.sortedFrom_filter | with_reducible apply Map.wf_filter | dsimp +zetaDelta only)

theorem State.setCstate_kept {r₀ : State} (s : State) (id v : Nat) (h0 : Kept r₀ s) : Kept r₀ (State.setCstate s id v) := by
  unfold State.setCstate
  repeat' (first | with_reducible assumption | (intro t; first | (with_reducible refine Kept.cut t ?_ ?_; unfold t) | beta_reduce | skip) | with_reducible apply State.setR_kept | with_reducible apply State.thyCount_kept | with_reducible apply Kept.ite | with_reducible apply Kept.fold | with_reducible apply Kept.fold2 | with_reducible apply Kept.fold1 | (lift_lets; intro t; first | (with_reducible refine Kept.cut t ?_ ?_; unfold t) | skip) | dsimp -zeta only | split | dsimp +zetaDelta only)

theorem State.breachTo_kept {r₀ : State} (s : State) (id cause det deadline : Nat) (toDst report : Bool) (h0 : Kept r₀ s) : Kept r₀ (State.breachTo s id cause det deadline toDst report) := by
  unfold State.breachTo
  repeat' (first | with_reducible assumption | (intro t; first | (with_reducible refine Kept.cut t ?_ ?_; unfold t) | beta_reduce | skip) | with_reducible apply State.enter_kept | with_reducible apply State.raise_kept | with_reducible apply State.satAdd_kept | with_reducible apply State.setR_kept | with_reducible apply State.modNoc_kept | with_reducible apply State.modThy_kept | with_reducible apply Kept.ite | with_reducible apply Kept.fold | with_reducible apply Kept.fold2 | with_reducible apply Kept.fold1 | (lift_lets; intro t; first | (with_reducible refine Kept.cut t ?_ ?_; unfold t) | skip) | dsimp -zeta only | split | dsimp +zetaDelta only)

theorem State.breach_kept {r₀ : State} (s : State) (id cause det deadline : Nat) (toSrc toDst : Bool) (h0 : Kept r₀ s) : Kept r₀ (State.breach s id cause det deadline toSrc toDst) := by
  unfold State.breach
  repeat' (first | with_reducible assumption | (intro t; first | (with_reducible refine Kept.cut t ?_ ?_; unfold t) | beta_reduce | skip) | with_reducible apply State.breachTo_kept | with_reducible apply Kept.ite | with_reducible apply Kept.fold | with_reducible apply Kept.fold2 | with_reducible apply Kept.fold1 | (lift_lets; intro t; first | (with_reducible refine Kept.cut t ?_ ?_; unfold t) | skip) | dsimp -zeta only | split | dsimp +zetaDelta only)

theorem State.suspendBreach_kept {r₀ : State} (s : State) (id : Nat) (h0 : Kept r₀ s) : Kept r₀ (State.suspendBreach s id) := by
  unfold State.suspendBreach
  repeat' (first | with_reducible assumption | (intro t; first | (with_reducible refine Kept.cut t ?_ ?_; unfold t) | beta_reduce | skip) | with_reducible apply State.pgeOutputLost_kept | with_reducible apply State.setCstate_kept | with_reducible apply Kept.ite | with_reducible apply Kept.fold | with_reducible apply Kept.fold2 | with_reducible apply Kept.fold1 | (lift_lets; intro t; first | (with_reducible refine Kept.cut t ?_ ?_; unfold t) | skip) | dsimp -zeta only | split | dsimp +zetaDelta only)

end Sys2Proof.Machine
end

