-- ==== Sys2Proof/Laws/Kept/Router.lean ====
section
/-!
SUPPORT. Every operation of Machine/Router.lean leaves the queue and keeps the tables in canonical form.
-/

set_option linter.unreachableTactic false
set_option linter.unusedTactic false
set_option linter.unusedVariables false

namespace Sys2Proof.Machine

theorem State.countFlits_kept {r₀ : State} (s : State) (r port : Nat) (p : Packet) (h0 : Kept r₀ s) : Kept r₀ (State.countFlits s r port p) := by
  unfold State.countFlits
  repeat' (first | with_reducible assumption | (intro t; first | (with_reducible refine Kept.cut t ?_ ?_; unfold t) | beta_reduce | skip) | with_reducible apply State.wrapAdd_kept | with_reducible apply Kept.ite | with_reducible apply Kept.fold | with_reducible apply Kept.fold2 | with_reducible apply Kept.fold1 | (lift_lets; intro t; first | (with_reducible refine Kept.cut t ?_ ?_; unfold t) | skip) | dsimp -zeta only | split | dsimp +zetaDelta only)

theorem State.hopCe_kept {r₀ : State} (s : State) (r input : Nat) (p : Packet) (f : HopFault) (h0 : Kept r₀ s) : Kept r₀ (State.hopCe s r input p f) := by
  unfold State.hopCe
  repeat' (first | with_reducible assumption | (intro t; first | (with_reducible refine Kept.cut t ?_ ?_; unfold t) | beta_reduce | skip) | with_reducible apply State.raise_kept | with_reducible apply State.satAdd_kept | with_reducible apply Kept.ite | with_reducible apply Kept.fold | with_reducible apply Kept.fold2 | with_reducible apply Kept.fold1 | (lift_lets; intro t; first | (with_reducible refine Kept.cut t ?_ ?_; unfold t) | skip) | dsimp -zeta only | split | dsimp +zetaDelta only)

theorem State.poisonLane_kept {r₀ : State} (s : State) (r input : Nat) (p : Packet) (e : Nat × Nat) (h0 : Kept r₀ s) : Kept r₀ (State.poisonLane s r input p e).2 := by
  unfold State.poisonLane
  repeat' (first | with_reducible assumption | (intro t; first | (with_reducible refine Kept.cut t ?_ ?_; unfold t) | beta_reduce | skip) | with_reducible apply State.draw_kept | with_reducible apply State.raise_kept | with_reducible apply Kept.ite | with_reducible apply Kept.fold | with_reducible apply Kept.fold2 | with_reducible apply Kept.fold1 | (lift_lets; intro t; first | (with_reducible refine Kept.cut t ?_ ?_; unfold t) | skip) | dsimp -zeta only | split | dsimp +zetaDelta only)

theorem State.hopChecks_kept {r₀ : State} (s : State) (r input : Nat) (p : Packet) (f : HopFault) (h0 : Kept r₀ s) : Kept r₀ (State.hopChecks s r input p f).2 := by
  unfold State.hopChecks
  repeat' (first | with_reducible assumption | (intro t; first | (with_reducible refine Kept.cut t ?_ ?_; unfold t) | beta_reduce | skip) | with_reducible apply State.poisonLane_kept | with_reducible apply State.satAdd_kept | with_reducible apply Kept.ite | with_reducible apply Kept.fold | with_reducible apply Kept.fold2 | with_reducible apply Kept.fold1 | (lift_lets; intro t; first | (with_reducible refine Kept.cut t ?_ ?_; unfold t) | skip) | dsimp -zeta only | split | with_reducible apply Map.sortedFrom_filter | with_reducible apply Map.wf_filter | dsimp +zetaDelta only)

theorem State.dropReports_kept {r₀ : State} (s : State) (r : Nat) (p : Packet) (noDeadline : Bool) (h0 : Kept r₀ s) : Kept r₀ (State.dropReports s r p noDeadline) := by
  unfold State.dropReports
  repeat' (first | with_reducible assumption | (intro t; first | (with_reducible refine Kept.cut t ?_ ?_; unfold t) | beta_reduce | skip) | with_reducible apply State.answerAt_kept | with_reducible apply State.breach_kept | with_reducible apply State.notice_kept | with_reducible apply Kept.ite | with_reducible apply Kept.fold | with_reducible apply Kept.fold2 | with_reducible apply Kept.fold1 | (lift_lets; intro t; first | (with_reducible refine Kept.cut t ?_ ?_; unfold t) | skip) | dsimp -zeta only | split | dsimp +zetaDelta only)

theorem State.dropHeader_kept {r₀ : State} (s : State) (r input : Nat) (e : NetPkt) (bad : List Nat) (h0 : Kept r₀ s) : Kept r₀ (State.dropHeader s r input e bad) := by
  unfold State.dropHeader
  repeat' (first | with_reducible assumption | (intro t; first | (with_reducible refine Kept.cut t ?_ ?_; unfold t) | beta_reduce | skip) | with_reducible apply State.breach_kept | with_reducible apply State.dropReports_kept | with_reducible apply State.raise_kept | with_reducible apply State.satAdd_kept | with_reducible apply Kept.ite | with_reducible apply Kept.fold | with_reducible apply Kept.fold2 | with_reducible apply Kept.fold1 | (lift_lets; intro t; first | (with_reducible refine Kept.cut t ?_ ?_; unfold t) | skip) | dsimp -zeta only | split | dsimp +zetaDelta only)

theorem State.unreachable_kept {r₀ : State} (s : State) (r : Nat) (p : Packet) (h0 : Kept r₀ s) : Kept r₀ (State.unreachable s r p) := by
  unfold State.unreachable
  repeat' (first | with_reducible assumption | (intro t; first | (with_reducible refine Kept.cut t ?_ ?_; unfold t) | beta_reduce | skip) | with_reducible apply State.answerAt_kept | with_reducible apply State.breach_kept | with_reducible apply State.notice_kept | with_reducible apply State.raise_kept | with_reducible apply Kept.ite | with_reducible apply Kept.fold | with_reducible apply Kept.fold2 | with_reducible apply Kept.fold1 | (lift_lets; intro t; first | (with_reducible refine Kept.cut t ?_ ?_; unfold t) | skip) | dsimp -zeta only | split | dsimp +zetaDelta only)

theorem State.closedPort_kept {r₀ : State} (s : State) (r : Nat) (p : Packet) (off : Bool) (h0 : Kept r₀ s) : Kept r₀ (State.closedPort s r p off) := by
  unfold State.closedPort
  repeat' (first | with_reducible assumption | (intro t; first | (with_reducible refine Kept.cut t ?_ ?_; unfold t) | beta_reduce | skip) | with_reducible apply State.answerAt_kept | with_reducible apply State.breach_kept | with_reducible apply State.notice_kept | with_reducible apply State.raise_kept | with_reducible apply State.unmappedAt_kept | with_reducible apply Kept.ite | with_reducible apply Kept.fold | with_reducible apply Kept.fold2 | with_reducible apply Kept.fold1 | (lift_lets; intro t; first | (with_reducible refine Kept.cut t ?_ ?_; unfold t) | skip) | dsimp -zeta only | split | dsimp +zetaDelta only)

theorem State.wakeAnswer_kept {r₀ : State} (s : State) (r : Nat) (p : Packet) (h0 : Kept r₀ s) : Kept r₀ (State.wakeAnswer s r p) := by
  unfold State.wakeAnswer
  repeat' (first | with_reducible assumption | (intro t; first | (with_reducible refine Kept.cut t ?_ ?_; unfold t) | beta_reduce | skip) | with_reducible apply State.answerAt_kept | with_reducible apply State.notice_kept | with_reducible apply Kept.ite | with_reducible apply Kept.fold | with_reducible apply Kept.fold2 | with_reducible apply Kept.fold1 | (lift_lets; intro t; first | (with_reducible refine Kept.cut t ?_ ?_; unfold t) | skip) | dsimp -zeta only | split | dsimp +zetaDelta only)

theorem State.refuseWake_kept {r₀ : State} (s : State) (r : Nat) (p : Packet) (port cause : Nat) (h0 : Kept r₀ s) : Kept r₀ (State.refuseWake s r p port cause) := by
  unfold State.refuseWake
  repeat' (first | with_reducible assumption | (intro t; first | (with_reducible refine Kept.cut t ?_ ?_; unfold t) | beta_reduce | skip) | with_reducible apply State.raise_kept | with_reducible apply State.wakeAnswer_kept | with_reducible apply Kept.ite | with_reducible apply Kept.fold | with_reducible apply Kept.fold2 | with_reducible apply Kept.fold1 | (lift_lets; intro t; first | (with_reducible refine Kept.cut t ?_ ?_; unfold t) | skip) | dsimp -zeta only | split | dsimp +zetaDelta only)

theorem State.putWake_kept {r₀ : State} (s : State) (r : Nat) (l : List Packet) (h0 : Kept r₀ s) : Kept r₀ (State.putWake s r l) := by
  unfold State.putWake
  repeat' (first | with_reducible assumption | (intro t; first | (with_reducible refine Kept.cut t ?_ ?_; unfold t) | beta_reduce | skip) | with_reducible apply State.setR_kept | with_reducible apply State.modNoc_kept | with_reducible apply Kept.ite | with_reducible apply Kept.fold | with_reducible apply Kept.fold2 | with_reducible apply Kept.fold1 | (lift_lets; intro t; first | (with_reducible refine Kept.cut t ?_ ?_; unfold t) | skip) | dsimp -zeta only | split | dsimp +zetaDelta only)

theorem State.wakeHold_kept {r₀ : State} (s : State) (r : Nat) (p : Packet) (h0 : Kept r₀ s) : Kept r₀ (State.wakeHold s r p) := by
  unfold State.wakeHold
  repeat' (first | with_reducible assumption | (intro t; first | (with_reducible refine Kept.cut t ?_ ?_; unfold t) | beta_reduce | skip) | with_reducible apply State.netWake_kept | with_reducible apply State.putWake_kept | with_reducible apply State.raise_kept | with_reducible apply State.setR_kept | with_reducible apply State.wrapAdd_kept | with_reducible apply Kept.ite | with_reducible apply Kept.fold | with_reducible apply Kept.fold2 | with_reducible apply Kept.fold1 | (lift_lets; intro t; first | (with_reducible refine Kept.cut t ?_ ?_; unfold t) | skip) | dsimp -zeta only | split | dsimp +zetaDelta only)

theorem State.dropPkt_kept {r₀ : State} (s : State) (n : Nat) (h0 : Kept r₀ s) : Kept r₀ (State.dropPkt s n) := by
  unfold State.dropPkt
  repeat' (first | with_reducible assumption | (intro t; first | (with_reducible refine Kept.cut t ?_ ?_; unfold t) | beta_reduce | skip) | with_reducible apply State.modNoc_kept | with_reducible apply Kept.ite | with_reducible apply Kept.fold | with_reducible apply Kept.fold2 | with_reducible apply Kept.fold1 | (lift_lets; intro t; first | (with_reducible refine Kept.cut t ?_ ?_; unfold t) | skip) | dsimp -zeta only | split | dsimp +zetaDelta only)

theorem State.setPkt_kept {r₀ : State} (s : State) (n : Nat) (e : NetPkt) (h0 : Kept r₀ s) : Kept r₀ (State.setPkt s n e) := by
  unfold State.setPkt
  repeat' (first | with_reducible assumption | (intro t; first | (with_reducible refine Kept.cut t ?_ ?_; unfold t) | beta_reduce | skip) | with_reducible apply State.modNoc_kept | with_reducible apply Kept.ite | with_reducible apply Kept.fold | with_reducible apply Kept.fold2 | with_reducible apply Kept.fold1 | (lift_lets; intro t; first | (with_reducible refine Kept.cut t ?_ ?_; unfold t) | skip) | dsimp -zeta only | split | dsimp +zetaDelta only)

theorem State.lateCheck_kept {r₀ : State} (s : State) (r : Nat) (e : NetPkt) (h0 : Kept r₀ s) : Kept r₀ (State.lateCheck s r e).2 := by
  unfold State.lateCheck
  repeat' (first | with_reducible assumption | (intro t; first | (with_reducible refine Kept.cut t ?_ ?_; unfold t) | beta_reduce | skip) | with_reducible apply State.breach_kept | with_reducible apply Kept.ite | with_reducible apply Kept.fold | with_reducible apply Kept.fold2 | with_reducible apply Kept.fold1 | (lift_lets; intro t; first | (with_reducible refine Kept.cut t ?_ ?_; unfold t) | skip) | dsimp -zeta only | split | dsimp +zetaDelta only)

theorem State.send_kept {r₀ : State} (s : State) (n r out lport : Nat) (e : NetPkt) (h0 : Kept r₀ s) : Kept r₀ (State.send s n r out lport e) := by
  unfold State.send
  repeat' (first | with_reducible assumption | (intro t; first | (with_reducible refine Kept.cut t ?_ ?_; unfold t) | beta_reduce | skip) | with_reducible apply State.countFlits_kept | with_reducible apply State.dropPkt_kept | with_reducible apply State.lateCheck_kept | with_reducible apply State.modNoc_kept | with_reducible apply Kept.ite | with_reducible apply Kept.fold | with_reducible apply Kept.fold2 | with_reducible apply Kept.fold1 | (lift_lets; intro t; first | (with_reducible refine Kept.cut t ?_ ?_; unfold t) | skip) | dsimp -zeta only | split | dsimp +zetaDelta only)

theorem State.drainWake_kept {r₀ : State} (s : State) (r port : Nat) (h0 : Kept r₀ s) : Kept r₀ (State.drainWake s r port) := by
  unfold State.drainWake
  repeat' (first | with_reducible assumption | (intro t; first | (with_reducible refine Kept.cut t ?_ ?_; unfold t) | beta_reduce | skip) | with_reducible apply State.countFlits_kept | with_reducible apply State.putWake_kept | with_reducible apply State.setR_kept | with_reducible apply State.modNoc_kept | with_reducible apply Kept.ite | with_reducible apply Kept.fold | with_reducible apply Kept.fold2 | with_reducible apply Kept.fold1 | (lift_lets; intro t; first | (with_reducible refine Kept.cut t ?_ ?_; unfold t) | skip) | dsimp -zeta only | split | dsimp +zetaDelta only)

theorem State.portHeld_kept {r₀ : State} (s : State) (r out lport : Nat) (h0 : Kept r₀ s) : Kept r₀ (State.portHeld s r out lport) := by
  unfold State.portHeld
  repeat' (first | with_reducible assumption | (intro t; first | (with_reducible refine Kept.cut t ?_ ?_; unfold t) | beta_reduce | skip) | with_reducible apply State.drainWake_kept | with_reducible apply Kept.ite | with_reducible apply Kept.fold | with_reducible apply Kept.fold2 | with_reducible apply Kept.fold1 | (lift_lets; intro t; first | (with_reducible refine Kept.cut t ?_ ?_; unfold t) | skip) | dsimp -zeta only | split | dsimp +zetaDelta only)

theorem State.outputTurn_kept {r₀ : State} (u : State) (r out lport : Nat) (h0 : Kept r₀ u) : Kept r₀ (State.outputTurn u r out lport) := by
  unfold State.outputTurn
  repeat' (first | with_reducible assumption | (intro t; first | (with_reducible refine Kept.cut t ?_ ?_; unfold t) | beta_reduce | skip) | with_reducible apply State.breach_kept | with_reducible apply State.dropPkt_kept | with_reducible apply State.portHeld_kept | with_reducible apply State.send_kept | with_reducible apply took_kept | with_reducible apply State.modNoc_kept | with_reducible apply Kept.ite | with_reducible apply Kept.fold | with_reducible apply Kept.fold2 | with_reducible apply Kept.fold1 | (lift_lets; intro t; first | (with_reducible refine Kept.cut t ?_ ?_; unfold t) | skip) | dsimp -zeta only | split | dsimp +zetaDelta only)

theorem State.await_kept {r₀ : State} (s : State) (n r out : Nat) (e : NetPkt) (h0 : Kept r₀ s) : Kept r₀ (State.await s n r out e) := by
  unfold State.await
  repeat' (first | with_reducible assumption | (intro t; first | (with_reducible refine Kept.cut t ?_ ?_; unfold t) | beta_reduce | skip) | with_reducible apply State.outputTurn_kept | with_reducible apply State.setPkt_kept | with_reducible apply Kept.ite | with_reducible apply Kept.fold | with_reducible apply Kept.fold2 | with_reducible apply Kept.fold1 | (lift_lets; intro t; first | (with_reducible refine Kept.cut t ?_ ?_; unfold t) | skip) | dsimp -zeta only | split | dsimp +zetaDelta only)

theorem State.atPort_kept {r₀ : State} (s : State) (n r : Nat) (e : NetPkt) (h0 : Kept r₀ s) : Kept r₀ (State.atPort s n r e) := by
  unfold State.atPort
  repeat' (first | with_reducible assumption | (intro t; first | (with_reducible refine Kept.cut t ?_ ?_; unfold t) | beta_reduce | skip) | with_reducible apply State.await_kept | with_reducible apply State.closedPort_kept | with_reducible apply State.dropPkt_kept | with_reducible apply State.portHeld_kept | with_reducible apply State.pwAbort_kept | with_reducible apply State.pwLate_kept | with_reducible apply State.raise_kept | with_reducible apply State.refuseWake_kept | with_reducible apply State.setPkt_kept | with_reducible apply State.wakeHold_kept | with_reducible apply Kept.ite | with_reducible apply Kept.fold | with_reducible apply Kept.fold2 | with_reducible apply Kept.fold1 | (lift_lets; intro t; first | (with_reducible refine Kept.cut t ?_ ?_; unfold t) | skip) | dsimp -zeta only | split | dsimp +zetaDelta only)

theorem State.forward_kept {r₀ : State} (s : State) (n r : Nat) (e : NetPkt) (h0 : Kept r₀ s) : Kept r₀ (State.forward s n r e) := by
  unfold State.forward
  repeat' (first | with_reducible assumption | (intro t; first | (with_reducible refine Kept.cut t ?_ ?_; unfold t) | beta_reduce | skip) | with_reducible apply State.atPort_kept | with_reducible apply State.await_kept | with_reducible apply State.dropPkt_kept | with_reducible apply State.unreachable_kept | with_reducible apply Kept.ite | with_reducible apply Kept.fold | with_reducible apply Kept.fold2 | with_reducible apply Kept.fold1 | (lift_lets; intro t; first | (with_reducible refine Kept.cut t ?_ ?_; unfold t) | skip) | dsimp -zeta only | split | dsimp +zetaDelta only)

theorem execRouterPacketReceive_kept {r₀ : State} (n : Nat) (fault : HopFault) (s : State) (h0 : Kept r₀ s) : KeptR r₀ (execRouterPacketReceive n fault s) := by
  unfold execRouterPacketReceive
  repeat' (first | with_reducible assumption | (intro t; first | (with_reducible refine Kept.cut t ?_ ?_; unfold t) | beta_reduce | skip) | with_reducible apply KeptR.next | with_reducible apply State.dropHeader_kept | with_reducible apply State.dropPkt_kept | with_reducible apply State.forward_kept | with_reducible apply State.hopCe_kept | with_reducible apply State.hopChecks_kept | with_reducible apply State.setPkt_kept | with_reducible apply Kept.ite | with_reducible apply KeptR.ite | with_reducible apply Kept.fold | with_reducible apply Kept.fold2 | with_reducible apply Kept.fold1 | (lift_lets; intro t; first | (with_reducible refine Kept.cut t ?_ ?_; unfold t) | skip) | dsimp -zeta only | split | with_reducible apply Map.sortedFrom_filter | with_reducible apply Map.wf_filter | dsimp +zetaDelta only)

theorem execWakeBufferDrain_kept {r₀ : State} (router : Fin 384) (port : Fin 32) (s : State) (h0 : Kept r₀ s) : KeptR r₀ (execWakeBufferDrain router port s) := by
  unfold execWakeBufferDrain
  repeat' (first | with_reducible assumption | (intro t; first | (with_reducible refine Kept.cut t ?_ ?_; unfold t) | beta_reduce | skip) | with_reducible apply KeptR.next | with_reducible apply State.drainWake_kept | with_reducible apply State.when_kept | with_reducible apply Kept.ite | with_reducible apply KeptR.ite | with_reducible apply Kept.fold | with_reducible apply Kept.fold2 | with_reducible apply Kept.fold1 | (lift_lets; intro t; first | (with_reducible refine Kept.cut t ?_ ?_; unfold t) | skip) | dsimp -zeta only | split | dsimp +zetaDelta only)

theorem State.wakeFail_kept {r₀ : State} (s : State) (router port cause : Nat) (h0 : Kept r₀ s) : Kept r₀ (State.wakeFail s router port cause) := by
  unfold State.wakeFail
  repeat' (first | with_reducible assumption | (intro t; first | (with_reducible refine Kept.cut t ?_ ?_; unfold t) | beta_reduce | skip) | with_reducible apply State.putWake_kept | with_reducible apply State.raise_kept | with_reducible apply State.setR_kept | with_reducible apply State.wakeAnswer_kept | with_reducible apply Kept.ite | with_reducible apply Kept.fold | with_reducible apply Kept.fold2 | with_reducible apply Kept.fold1 | (lift_lets; intro t; first | (with_reducible refine Kept.cut t ?_ ?_; unfold t) | skip) | dsimp -zeta only | split | dsimp +zetaDelta only)

theorem execNocWakeTimeout_kept {r₀ : State} (router : Fin 384) (port : Fin 32) (s : State) (h0 : Kept r₀ s) : KeptR r₀ (execNocWakeTimeout router port s) := by
  unfold execNocWakeTimeout
  repeat' (first | with_reducible assumption | (intro t; first | (with_reducible refine Kept.cut t ?_ ?_; unfold t) | beta_reduce | skip) | with_reducible apply KeptR.next | with_reducible apply State.wakeFail_kept | with_reducible apply State.when_kept | with_reducible apply Kept.ite | with_reducible apply KeptR.ite | with_reducible apply Kept.fold | with_reducible apply Kept.fold2 | with_reducible apply Kept.fold1 | (lift_lets; intro t; first | (with_reducible refine Kept.cut t ?_ ?_; unfold t) | skip) | dsimp -zeta only | split | dsimp +zetaDelta only)

theorem execNocWakeRefused_kept {r₀ : State} (router : Fin 384) (port : Fin 32) (thermal : Bool) (s : State) (h0 : Kept r₀ s) : KeptR r₀ (execNocWakeRefused router port thermal s) := by
  unfold execNocWakeRefused
  repeat' (first | with_reducible assumption | (intro t; first | (with_reducible refine Kept.cut t ?_ ?_; unfold t) | beta_reduce | skip) | with_reducible apply KeptR.next | with_reducible apply State.setR_kept | with_reducible apply State.wakeFail_kept | with_reducible apply State.when_kept | with_reducible apply Kept.ite | with_reducible apply KeptR.ite | with_reducible apply Kept.fold | with_reducible apply Kept.fold2 | with_reducible apply Kept.fold1 | (lift_lets; intro t; first | (with_reducible refine Kept.cut t ?_ ?_; unfold t) | skip) | dsimp -zeta only | split | dsimp +zetaDelta only)

end Sys2Proof.Machine
end

