-- ==== Sys2Proof/Laws/Kept/Dcl.lean ====
section
/-!
SUPPORT. Every operation of Machine/Dcl.lean leaves the queue and keeps the tables in canonical form.
-/

set_option linter.unreachableTactic false
set_option linter.unusedTactic false
set_option linter.unusedVariables false

namespace Sys2Proof.Machine

theorem State.modLink_kept {r₀ : State} (s : State) (l : Nat) (f : Link → Link) (h0 : Kept r₀ s) : Kept r₀ (State.modLink s l f) := by
  unfold State.modLink
  repeat' (first | with_reducible assumption | (intro t; first | (with_reducible refine Kept.cut t ?_ ?_; unfold t) | beta_reduce | skip) | with_reducible apply State.modLanes_kept | with_reducible apply Kept.ite | with_reducible apply Kept.fold | with_reducible apply Kept.fold2 | with_reducible apply Kept.fold1 | (lift_lets; intro t; first | (with_reducible refine Kept.cut t ?_ ?_; unfold t) | skip) | dsimp -zeta only | split | dsimp +zetaDelta only)

theorem execLneCfgWrite_kept {r₀ : State} (lane : Fin 160) (mode : BitVec 3) (rate : BitVec 4) (s : State) (h0 : Kept r₀ s) : KeptR r₀ (execLneCfgWrite lane mode rate s) := by
  unfold execLneCfgWrite
  repeat' (first | with_reducible assumption | (intro t; first | (with_reducible refine Kept.cut t ?_ ?_; unfold t) | beta_reduce | skip) | with_reducible apply KeptR.next | with_reducible apply State.setR_kept | with_reducible apply State.touchLane_kept | with_reducible apply Kept.ite | with_reducible apply KeptR.ite | with_reducible apply Kept.fold | with_reducible apply Kept.fold2 | with_reducible apply Kept.fold1 | (lift_lets; intro t; first | (with_reducible refine Kept.cut t ?_ ?_; unfold t) | skip) | dsimp -zeta only | split | dsimp +zetaDelta only)

theorem State.streamDrop_kept {r₀ : State} (s : State) (n : Nat) (rx : Bool) (count : Nat) (h0 : Kept r₀ s) : Kept r₀ (State.streamDrop s n rx count) := by
  unfold State.streamDrop
  repeat' (first | with_reducible assumption | (intro t; first | (with_reducible refine Kept.cut t ?_ ?_; unfold t) | beta_reduce | skip) | with_reducible apply State.raise_kept | with_reducible apply State.satAdd_kept | with_reducible apply State.modLanes_kept | with_reducible apply Kept.ite | with_reducible apply Kept.fold | with_reducible apply Kept.fold2 | with_reducible apply Kept.fold1 | (lift_lets; intro t; first | (with_reducible refine Kept.cut t ?_ ?_; unfold t) | skip) | dsimp -zeta only | split | dsimp +zetaDelta only)

theorem State.dclFlush_kept {r₀ : State} (s : State) (l : Nat) (h0 : Kept r₀ s) : Kept r₀ (State.dclFlush s l) := by
  unfold State.dclFlush
  repeat' (first | with_reducible assumption | (intro t; first | (with_reducible refine Kept.cut t ?_ ?_; unfold t) | beta_reduce | skip) | with_reducible apply State.streamDrop_kept | with_reducible apply State.modLanes_kept | with_reducible apply Kept.ite | with_reducible apply Kept.fold | with_reducible apply Kept.fold2 | with_reducible apply Kept.fold1 | (lift_lets; intro t; first | (with_reducible refine Kept.cut t ?_ ?_; unfold t) | skip) | dsimp -zeta only | split | dsimp +zetaDelta only)

theorem State.slotPassed_kept {r₀ : State} (s : State) (l : Nat) (h0 : Kept r₀ s) : Kept r₀ (State.slotPassed s l) := by
  unfold State.slotPassed
  repeat' (first | with_reducible assumption | (intro t; first | (with_reducible refine Kept.cut t ?_ ?_; unfold t) | beta_reduce | skip) | with_reducible apply State.draw_kept | with_reducible apply State.modLink_kept | with_reducible apply Kept.ite | with_reducible apply Kept.fold | with_reducible apply Kept.fold2 | with_reducible apply Kept.fold1 | (lift_lets; intro t; first | (with_reducible refine Kept.cut t ?_ ?_; unfold t) | skip) | dsimp -zeta only | split | dsimp +zetaDelta only)

theorem State.enterDetect_kept {r₀ : State} (s : State) (l : Nat) (h0 : Kept r₀ s) : Kept r₀ (State.enterDetect s l) := by
  unfold State.enterDetect
  repeat' (first | with_reducible assumption | (intro t; first | (with_reducible refine Kept.cut t ?_ ?_; unfold t) | beta_reduce | skip) | with_reducible apply State.dclSt_kept | with_reducible apply State.modLink_kept | with_reducible apply State.setR_kept | with_reducible apply Kept.ite | with_reducible apply Kept.fold | with_reducible apply Kept.fold2 | with_reducible apply Kept.fold1 | (lift_lets; intro t; first | (with_reducible refine Kept.cut t ?_ ?_; unfold t) | skip) | dsimp -zeta only | split | dsimp +zetaDelta only)

theorem State.dclRetrain_kept {r₀ : State} (s : State) (l cause : Nat) (h0 : Kept r₀ s) : Kept r₀ (State.dclRetrain s l cause) := by
  unfold State.dclRetrain
  repeat' (first | with_reducible assumption | (intro t; first | (with_reducible refine Kept.cut t ?_ ?_; unfold t) | beta_reduce | skip) | with_reducible apply State.dclFlush_kept | with_reducible apply State.dclSt_kept | with_reducible apply State.enterDetect_kept | with_reducible apply State.modLink_kept | with_reducible apply State.raise_kept | with_reducible apply State.setR_kept | with_reducible apply State.wrapAdd_kept | with_reducible apply Kept.ite | with_reducible apply Kept.fold | with_reducible apply Kept.fold2 | with_reducible apply Kept.fold1 | (lift_lets; intro t; first | (with_reducible refine Kept.cut t ?_ ?_; unfold t) | skip) | dsimp -zeta only | split | dsimp +zetaDelta only)

theorem State.cdrLost_kept {r₀ : State} (s : State) (lane : Nat) (h0 : Kept r₀ s) : Kept r₀ (State.cdrLost s lane) := by
  unfold State.cdrLost
  repeat' (first | with_reducible assumption | (intro t; first | (with_reducible refine Kept.cut t ?_ ?_; unfold t) | beta_reduce | skip) | with_reducible apply State.dclRetrain_kept | with_reducible apply State.setR_kept | with_reducible apply Kept.ite | with_reducible apply Kept.fold | with_reducible apply Kept.fold2 | with_reducible apply Kept.fold1 | (lift_lets; intro t; first | (with_reducible refine Kept.cut t ?_ ?_; unfold t) | skip) | dsimp -zeta only | split | dsimp +zetaDelta only)

theorem execLaneRefLost_kept {r₀ : State} (g : Fin 20) (s : State) (h0 : Kept r₀ s) : KeptR r₀ (execLaneRefLost g s) := by
  unfold execLaneRefLost
  repeat' (first | with_reducible assumption | (intro t; first | (with_reducible refine Kept.cut t ?_ ?_; unfold t) | beta_reduce | skip) | with_reducible apply KeptR.next | with_reducible apply State.cdrLost_kept | with_reducible apply State.raise_kept | with_reducible apply State.setR_kept | with_reducible apply Kept.ite | with_reducible apply KeptR.ite | with_reducible apply Kept.fold | with_reducible apply Kept.fold2 | with_reducible apply Kept.fold1 | (lift_lets; intro t; first | (with_reducible refine Kept.cut t ?_ ?_; unfold t) | skip) | dsimp -zeta only | split | dsimp +zetaDelta only)

theorem execLaneCdrLost_kept {r₀ : State} (lane : Fin 160) (s : State) (h0 : Kept r₀ s) : KeptR r₀ (execLaneCdrLost lane s) := by
  unfold execLaneCdrLost
  repeat' (first | with_reducible assumption | (intro t; first | (with_reducible refine Kept.cut t ?_ ?_; unfold t) | beta_reduce | skip) | with_reducible apply KeptR.next | with_reducible apply State.cdrLost_kept | with_reducible apply State.draw_kept | with_reducible apply State.raise_kept | with_reducible apply State.setR_kept | with_reducible apply State.when_kept | with_reducible apply Kept.ite | with_reducible apply KeptR.ite | with_reducible apply Kept.fold | with_reducible apply Kept.fold2 | with_reducible apply Kept.fold1 | (lift_lets; intro t; first | (with_reducible refine Kept.cut t ?_ ?_; unfold t) | skip) | dsimp -zeta only | split | dsimp +zetaDelta only)

theorem execLaneCdrLock_kept {r₀ : State} (lane : Fin 160) (s : State) (h0 : Kept r₀ s) : KeptR r₀ (execLaneCdrLock lane s) := by
  unfold execLaneCdrLock
  repeat' (first | with_reducible assumption | (intro t; first | (with_reducible refine Kept.cut t ?_ ?_; unfold t) | beta_reduce | skip) | with_reducible apply KeptR.next | with_reducible apply State.setR_kept | with_reducible apply Kept.ite | with_reducible apply KeptR.ite | with_reducible apply Kept.fold | with_reducible apply Kept.fold2 | with_reducible apply Kept.fold1 | (lift_lets; intro t; first | (with_reducible refine Kept.cut t ?_ ?_; unfold t) | skip) | dsimp -zeta only | split | dsimp +zetaDelta only)

theorem execLaneSlip_kept {r₀ : State} (lane : Fin 160) (departure : Fin 17) (s : State) (h0 : Kept r₀ s) : KeptR r₀ (execLaneSlip lane departure s) := by
  unfold execLaneSlip
  repeat' (first | with_reducible assumption | (intro t; first | (with_reducible refine Kept.cut t ?_ ?_; unfold t) | beta_reduce | skip) | with_reducible apply KeptR.next | with_reducible apply State.dclRetrain_kept | with_reducible apply State.raise_kept | with_reducible apply Kept.ite | with_reducible apply KeptR.ite | with_reducible apply Kept.fold | with_reducible apply Kept.fold2 | with_reducible apply Kept.fold1 | (lift_lets; intro t; first | (with_reducible refine Kept.cut t ?_ ?_; unfold t) | skip) | dsimp -zeta only | split | dsimp +zetaDelta only)

theorem execDclEnable_kept {r₀ : State} (l : Fin 144) (s : State) (h0 : Kept r₀ s) : KeptR r₀ (execDclEnable l s) := by
  unfold execDclEnable
  repeat' (first | with_reducible assumption | (intro t; first | (with_reducible refine Kept.cut t ?_ ?_; unfold t) | beta_reduce | skip) | with_reducible apply KeptR.next | with_reducible apply State.enterDetect_kept | with_reducible apply State.setR_kept | with_reducible apply Kept.ite | with_reducible apply KeptR.ite | with_reducible apply Kept.fold | with_reducible apply Kept.fold2 | with_reducible apply Kept.fold1 | (lift_lets; intro t; first | (with_reducible refine Kept.cut t ?_ ?_; unfold t) | skip) | dsimp -zeta only | split | dsimp +zetaDelta only)

theorem execDclDisable_kept {r₀ : State} (l : Fin 144) (s : State) (h0 : Kept r₀ s) : KeptR r₀ (execDclDisable l s) := by
  unfold execDclDisable
  repeat' (first | with_reducible assumption | (intro t; first | (with_reducible refine Kept.cut t ?_ ?_; unfold t) | beta_reduce | skip) | with_reducible apply KeptR.next | with_reducible apply State.dclFlush_kept | with_reducible apply State.dclSt_kept | with_reducible apply State.modLink_kept | with_reducible apply State.setR_kept | with_reducible apply Kept.ite | with_reducible apply KeptR.ite | with_reducible apply Kept.fold | with_reducible apply Kept.fold2 | with_reducible apply Kept.fold1 | (lift_lets; intro t; first | (with_reducible refine Kept.cut t ?_ ?_; unfold t) | skip) | dsimp -zeta only | split | dsimp +zetaDelta only)

theorem execDclRetrainCmd_kept {r₀ : State} (l : Fin 144) (s : State) (h0 : Kept r₀ s) : KeptR r₀ (execDclRetrainCmd l s) := by
  unfold execDclRetrainCmd
  repeat' (first | with_reducible assumption | (intro t; first | (with_reducible refine Kept.cut t ?_ ?_; unfold t) | beta_reduce | skip) | with_reducible apply KeptR.next | with_reducible apply State.dclRetrain_kept | with_reducible apply State.enterDetect_kept | with_reducible apply State.modLink_kept | with_reducible apply Kept.ite | with_reducible apply KeptR.ite | with_reducible apply Kept.fold | with_reducible apply Kept.fold2 | with_reducible apply Kept.fold1 | (lift_lets; intro t; first | (with_reducible refine Kept.cut t ?_ ?_; unfold t) | skip) | dsimp -zeta only | split | dsimp +zetaDelta only)

theorem execDclBlockLock_kept {r₀ : State} (l : Fin 144) (s : State) (h0 : Kept r₀ s) : KeptR r₀ (execDclBlockLock l s) := by
  unfold execDclBlockLock
  repeat' (first | with_reducible assumption | (intro t; first | (with_reducible refine Kept.cut t ?_ ?_; unfold t) | beta_reduce | skip) | with_reducible apply KeptR.next | with_reducible apply State.dclSt_kept | with_reducible apply State.modLink_kept | with_reducible apply Kept.ite | with_reducible apply KeptR.ite | with_reducible apply Kept.fold | with_reducible apply Kept.fold2 | with_reducible apply Kept.fold1 | (lift_lets; intro t; first | (with_reducible refine Kept.cut t ?_ ?_; unfold t) | skip) | dsimp -zeta only | split | dsimp +zetaDelta only)

theorem execDclBlockLockLost_kept {r₀ : State} (l : Fin 144) (s : State) (h0 : Kept r₀ s) : KeptR r₀ (execDclBlockLockLost l s) := by
  unfold execDclBlockLockLost
  repeat' (first | with_reducible assumption | (intro t; first | (with_reducible refine Kept.cut t ?_ ?_; unfold t) | beta_reduce | skip) | with_reducible apply KeptR.next | with_reducible apply State.dclRetrain_kept | with_reducible apply State.modLink_kept | with_reducible apply Kept.ite | with_reducible apply KeptR.ite | with_reducible apply Kept.fold | with_reducible apply Kept.fold2 | with_reducible apply Kept.fold1 | (lift_lets; intro t; first | (with_reducible refine Kept.cut t ?_ ?_; unfold t) | skip) | dsimp -zeta only | split | dsimp +zetaDelta only)

theorem State.blockSeen_kept {r₀ : State} (s : State) (l gap : Nat) (bad : Bool) (h0 : Kept r₀ s) : Kept r₀ (State.blockSeen s l gap bad) := by
  unfold State.blockSeen
  repeat' (first | with_reducible assumption | (intro t; first | (with_reducible refine Kept.cut t ?_ ?_; unfold t) | beta_reduce | skip) | with_reducible apply State.dclRetrain_kept | with_reducible apply State.modLink_kept | with_reducible apply State.satAdd_kept | with_reducible apply Kept.ite | with_reducible apply Kept.fold | with_reducible apply Kept.fold2 | with_reducible apply Kept.fold1 | (lift_lets; intro t; first | (with_reducible refine Kept.cut t ?_ ?_; unfold t) | skip) | dsimp -zeta only | split | with_reducible apply Map.sortedFrom_filter | with_reducible apply Map.wf_filter | dsimp +zetaDelta only)

theorem State.blocksSeen_kept {r₀ : State} (s : State) (l : Nat) (bs : List (Nat × Bool)) (h0 : Kept r₀ s) : Kept r₀ (State.blocksSeen s l bs) := by
  unfold State.blocksSeen
  repeat' (first | with_reducible assumption | (intro t; first | (with_reducible refine Kept.cut t ?_ ?_; unfold t) | beta_reduce | skip) | with_reducible apply State.blockSeen_kept | with_reducible apply Kept.ite | with_reducible apply Kept.fold | with_reducible apply Kept.fold2 | with_reducible apply Kept.fold1 | (lift_lets; intro t; first | (with_reducible refine Kept.cut t ?_ ?_; unfold t) | skip) | dsimp -zeta only | split | dsimp +zetaDelta only)

theorem execDclErrorThreshold_kept {r₀ : State} (l : Fin 144) (blocks : List (Nat × LineBlock)) (s : State) (h0 : Kept r₀ s) : KeptR r₀ (execDclErrorThreshold l blocks s) := by
  unfold execDclErrorThreshold
  repeat' (first | with_reducible assumption | (intro t; first | (with_reducible refine Kept.cut t ?_ ?_; unfold t) | beta_reduce | skip) | with_reducible apply KeptR.next | with_reducible apply State.blocksSeen_kept | with_reducible apply Kept.ite | with_reducible apply KeptR.ite | with_reducible apply Kept.fold | with_reducible apply Kept.fold2 | with_reducible apply Kept.fold1 | (lift_lets; intro t; first | (with_reducible refine Kept.cut t ?_ ?_; unfold t) | skip) | dsimp -zeta only | split | dsimp +zetaDelta only)

theorem State.dclStep_kept {r₀ : State} (s : State) (l : Nat) (h0 : Kept r₀ s) : Kept r₀ (State.dclStep s l) := by
  unfold State.dclStep
  repeat' (first | with_reducible assumption | (intro t; first | (with_reducible refine Kept.cut t ?_ ?_; unfold t) | beta_reduce | skip) | with_reducible apply State.dclSt_kept | with_reducible apply State.modLink_kept | with_reducible apply Kept.ite | with_reducible apply Kept.fold | with_reducible apply Kept.fold2 | with_reducible apply Kept.fold1 | (lift_lets; intro t; first | (with_reducible refine Kept.cut t ?_ ?_; unfold t) | skip) | dsimp -zeta only | split | dsimp +zetaDelta only)

theorem execDclCap_kept {r₀ : State} (l : Fin 144) (maxRate : BitVec 8) (mask : BitVec 16) (dev : BitVec 6) (lantum : Bool) (s : State) (h0 : Kept r₀ s) : KeptR r₀ (execDclCap l maxRate mask dev lantum s) := by
  unfold execDclCap
  repeat' (first | with_reducible assumption | (intro t; first | (with_reducible refine Kept.cut t ?_ ?_; unfold t) | beta_reduce | skip) | with_reducible apply KeptR.next | with_reducible apply State.dclStep_kept | with_reducible apply State.modLink_kept | with_reducible apply State.setR_kept | with_reducible apply State.slotPassed_kept | with_reducible apply Kept.ite | with_reducible apply KeptR.ite | with_reducible apply Kept.fold | with_reducible apply Kept.fold2 | with_reducible apply Kept.fold1 | (lift_lets; intro t; first | (with_reducible refine Kept.cut t ?_ ?_; unfold t) | skip) | dsimp -zeta only | split | dsimp +zetaDelta only)

theorem execDclRateReq_kept {r₀ : State} (l : Fin 144) (rate : BitVec 8) (s : State) (h0 : Kept r₀ s) : KeptR r₀ (execDclRateReq l rate s) := by
  unfold execDclRateReq
  repeat' (first | with_reducible assumption | (intro t; first | (with_reducible refine Kept.cut t ?_ ?_; unfold t) | beta_reduce | skip) | with_reducible apply KeptR.next | with_reducible apply State.modLink_kept | with_reducible apply State.slotPassed_kept | with_reducible apply State.when_kept | with_reducible apply Kept.ite | with_reducible apply KeptR.ite | with_reducible apply Kept.fold | with_reducible apply Kept.fold2 | with_reducible apply Kept.fold1 | (lift_lets; intro t; first | (with_reducible refine Kept.cut t ?_ ?_; unfold t) | skip) | dsimp -zeta only | split | dsimp +zetaDelta only)

theorem execDclRateAck_kept {r₀ : State} (l : Fin 144) (rate : BitVec 8) (s : State) (h0 : Kept r₀ s) : KeptR r₀ (execDclRateAck l rate s) := by
  unfold execDclRateAck
  repeat' (first | with_reducible assumption | (intro t; first | (with_reducible refine Kept.cut t ?_ ?_; unfold t) | beta_reduce | skip) | with_reducible apply KeptR.next | with_reducible apply State.modLink_kept | with_reducible apply State.slotPassed_kept | with_reducible apply State.when_kept | with_reducible apply Kept.ite | with_reducible apply KeptR.ite | with_reducible apply Kept.fold | with_reducible apply Kept.fold2 | with_reducible apply Kept.fold1 | (lift_lets; intro t; first | (with_reducible refine Kept.cut t ?_ ?_; unfold t) | skip) | dsimp -zeta only | split | dsimp +zetaDelta only)

theorem execDclRateSwitch_kept {r₀ : State} (l : Fin 144) (s : State) (h0 : Kept r₀ s) : KeptR r₀ (execDclRateSwitch l s) := by
  unfold execDclRateSwitch
  repeat' (first | with_reducible assumption | (intro t; first | (with_reducible refine Kept.cut t ?_ ?_; unfold t) | beta_reduce | skip) | with_reducible apply KeptR.next | with_reducible apply State.dclSt_kept | with_reducible apply State.modLink_kept | with_reducible apply State.setR_kept | with_reducible apply Kept.ite | with_reducible apply KeptR.ite | with_reducible apply Kept.fold | with_reducible apply Kept.fold2 | with_reducible apply Kept.fold1 | (lift_lets; intro t; first | (with_reducible refine Kept.cut t ?_ ?_; unfold t) | skip) | dsimp -zeta only | split | dsimp +zetaDelta only)

theorem State.eqMove_kept {r₀ : State} (s : State) (l req : Nat) (h0 : Kept r₀ s) : Kept r₀ (State.eqMove s l req) := by
  unfold State.eqMove
  repeat' (first | with_reducible assumption | (intro t; first | (with_reducible refine Kept.cut t ?_ ?_; unfold t) | beta_reduce | skip) | with_reducible apply State.modLink_kept | with_reducible apply Kept.ite | with_reducible apply Kept.fold | with_reducible apply Kept.fold2 | with_reducible apply Kept.fold1 | (lift_lets; intro t; first | (with_reducible refine Kept.cut t ?_ ?_; unfold t) | skip) | dsimp -zeta only | split | dsimp +zetaDelta only)

theorem execDclEq_kept {r₀ : State} (l : Fin 144) (req : BitVec 8) (peerTrained : Bool) (ownTrained : Bool) (s : State) (h0 : Kept r₀ s) : KeptR r₀ (execDclEq l req peerTrained ownTrained s) := by
  unfold execDclEq
  repeat' (first | with_reducible assumption | (intro t; first | (with_reducible refine Kept.cut t ?_ ?_; unfold t) | beta_reduce | skip) | with_reducible apply KeptR.next | with_reducible apply State.dclStep_kept | with_reducible apply State.eqMove_kept | with_reducible apply State.modLink_kept | with_reducible apply State.slotPassed_kept | with_reducible apply Kept.ite | with_reducible apply KeptR.ite | with_reducible apply Kept.fold | with_reducible apply Kept.fold2 | with_reducible apply Kept.fold1 | (lift_lets; intro t; first | (with_reducible refine Kept.cut t ?_ ?_; unfold t) | skip) | dsimp -zeta only | split | dsimp +zetaDelta only)

theorem execDclTsReq_kept {r₀ : State} (l : Fin 144) (seq : BitVec 8) (turn : BitVec 24) (s : State) (h0 : Kept r₀ s) : KeptR r₀ (execDclTsReq l seq turn s) := by
  unfold execDclTsReq
  repeat' (first | with_reducible assumption | (intro t; first | (with_reducible refine Kept.cut t ?_ ?_; unfold t) | beta_reduce | skip) | with_reducible apply KeptR.next | with_reducible apply State.modLink_kept | with_reducible apply State.slotPassed_kept | with_reducible apply State.when_kept | with_reducible apply Kept.ite | with_reducible apply KeptR.ite | with_reducible apply Kept.fold | with_reducible apply Kept.fold2 | with_reducible apply Kept.fold1 | (lift_lets; intro t; first | (with_reducible refine Kept.cut t ?_ ?_; unfold t) | skip) | dsimp -zeta only | split | dsimp +zetaDelta only)

theorem State.attemptFail_kept {r₀ : State} (s : State) (l : Nat) (h0 : Kept r₀ s) : Kept r₀ (State.attemptFail s l) := by
  unfold State.attemptFail
  repeat' (first | with_reducible assumption | (intro t; first | (with_reducible refine Kept.cut t ?_ ?_; unfold t) | beta_reduce | skip) | with_reducible apply State.dclSt_kept | with_reducible apply State.enterDetect_kept | with_reducible apply State.modLink_kept | with_reducible apply State.raise_kept | with_reducible apply Kept.ite | with_reducible apply Kept.fold | with_reducible apply Kept.fold2 | with_reducible apply Kept.fold1 | (lift_lets; intro t; first | (with_reducible refine Kept.cut t ?_ ?_; unfold t) | skip) | dsimp -zeta only | split | dsimp +zetaDelta only)

theorem State.measFail_kept {r₀ : State} (s : State) (l : Nat) (h0 : Kept r₀ s) : Kept r₀ (State.measFail s l) := by
  unfold State.measFail
  repeat' (first | with_reducible assumption | (intro t; first | (with_reducible refine Kept.cut t ?_ ?_; unfold t) | beta_reduce | skip) | with_reducible apply State.attemptFail_kept | with_reducible apply State.modLink_kept | with_reducible apply Kept.ite | with_reducible apply Kept.fold | with_reducible apply Kept.fold2 | with_reducible apply Kept.fold1 | (lift_lets; intro t; first | (with_reducible refine Kept.cut t ?_ ?_; unfold t) | skip) | dsimp -zeta only | split | dsimp +zetaDelta only)

theorem State.setLat_kept {r₀ : State} (s : State) (l : Nat) (d : Int) (h0 : Kept r₀ s) : Kept r₀ (State.setLat s l d) := by
  unfold State.setLat
  repeat' (first | with_reducible assumption | (intro t; first | (with_reducible refine Kept.cut t ?_ ?_; unfold t) | beta_reduce | skip) | with_reducible apply State.setR_kept | with_reducible apply Kept.ite | with_reducible apply Kept.fold | with_reducible apply Kept.fold2 | with_reducible apply Kept.fold1 | (lift_lets; intro t; first | (with_reducible refine Kept.cut t ?_ ?_; unfold t) | skip) | dsimp -zeta only | split | dsimp +zetaDelta only)

theorem State.capacityCheck_kept {r₀ : State} (s : State) (l : Nat) (h0 : Kept r₀ s) : Kept r₀ (State.capacityCheck s l) := by
  unfold State.capacityCheck
  repeat' (first | with_reducible assumption | (intro t; first | (with_reducible refine Kept.cut t ?_ ?_; unfold t) | beta_reduce | skip) | with_reducible apply State.raise_kept | with_reducible apply Kept.ite | with_reducible apply Kept.fold | with_reducible apply Kept.fold2 | with_reducible apply Kept.fold1 | (lift_lets; intro t; first | (with_reducible refine Kept.cut t ?_ ?_; unfold t) | skip) | dsimp -zeta only | split | dsimp +zetaDelta only)

theorem State.dclUp_kept {r₀ : State} (s : State) (l : Nat) (d : Int) (turn : Nat) (h0 : Kept r₀ s) : Kept r₀ (State.dclUp s l d turn) := by
  unfold State.dclUp
  repeat' (first | with_reducible assumption | (intro t; first | (with_reducible refine Kept.cut t ?_ ?_; unfold t) | beta_reduce | skip) | with_reducible apply State.capacityCheck_kept | with_reducible apply State.dclSt_kept | with_reducible apply State.modLink_kept | with_reducible apply State.raise_kept | with_reducible apply State.setLat_kept | with_reducible apply State.setR_kept | with_reducible apply State.modLanes_kept | with_reducible apply Kept.ite | with_reducible apply Kept.fold | with_reducible apply Kept.fold2 | with_reducible apply Kept.fold1 | (lift_lets; intro t; first | (with_reducible refine Kept.cut t ?_ ?_; unfold t) | skip) | dsimp -zeta only | split | with_reducible apply Map.sortedFrom_filter | with_reducible apply Map.wf_filter | dsimp +zetaDelta only)

theorem execDclTsRsp_kept {r₀ : State} (l : Fin 144) (seq : BitVec 8) (turn : BitVec 24) (elapsed : BitVec 32) (s : State) (h0 : Kept r₀ s) : KeptR r₀ (execDclTsRsp l seq turn elapsed s) := by
  unfold execDclTsRsp
  repeat' (first | with_reducible assumption | (intro t; first | (with_reducible refine Kept.cut t ?_ ?_; unfold t) | beta_reduce | skip) | with_reducible apply KeptR.next | with_reducible apply State.dclUp_kept | with_reducible apply State.measFail_kept | with_reducible apply State.modLink_kept | with_reducible apply State.slotPassed_kept | with_reducible apply Kept.ite | with_reducible apply KeptR.ite | with_reducible apply Kept.fold | with_reducible apply Kept.fold2 | with_reducible apply Kept.fold1 | (lift_lets; intro t; first | (with_reducible refine Kept.cut t ?_ ?_; unfold t) | skip) | dsimp -zeta only | split | dsimp +zetaDelta only)

theorem execDclLatinfo_kept {r₀ : State} (l : Fin 144) (tx : BitVec 24) (rx : BitVec 24) (s : State) (h0 : Kept r₀ s) : KeptR r₀ (execDclLatinfo l tx rx s) := by
  unfold execDclLatinfo
  repeat' (first | with_reducible assumption | (intro t; first | (with_reducible refine Kept.cut t ?_ ?_; unfold t) | beta_reduce | skip) | with_reducible apply KeptR.next | with_reducible apply State.modLink_kept | with_reducible apply State.slotPassed_kept | with_reducible apply State.when_kept | with_reducible apply Kept.ite | with_reducible apply KeptR.ite | with_reducible apply Kept.fold | with_reducible apply Kept.fold2 | with_reducible apply Kept.fold1 | (lift_lets; intro t; first | (with_reducible refine Kept.cut t ?_ ?_; unfold t) | skip) | dsimp -zeta only | split | dsimp +zetaDelta only)

theorem execDclTimeHi_kept {r₀ : State} (l : Fin 144) (hi : BitVec 32) (epoch : BitVec 8) (s : State) (h0 : Kept r₀ s) : KeptR r₀ (execDclTimeHi l hi epoch s) := by
  unfold execDclTimeHi
  repeat' (first | with_reducible assumption | (intro t; first | (with_reducible refine Kept.cut t ?_ ?_; unfold t) | beta_reduce | skip) | with_reducible apply KeptR.next | with_reducible apply State.modLink_kept | with_reducible apply State.slotPassed_kept | with_reducible apply State.when_kept | with_reducible apply Kept.ite | with_reducible apply KeptR.ite | with_reducible apply Kept.fold | with_reducible apply Kept.fold2 | with_reducible apply Kept.fold1 | (lift_lets; intro t; first | (with_reducible refine Kept.cut t ?_ ?_; unfold t) | skip) | dsimp -zeta only | split | dsimp +zetaDelta only)

theorem State.timeDiff_kept {r₀ : State} (s : State) (l lo : Nat) (h0 : Kept r₀ s) : Kept r₀ (State.timeDiff s l lo) := by
  unfold State.timeDiff
  repeat' (first | with_reducible assumption | (intro t; first | (with_reducible refine Kept.cut t ?_ ?_; unfold t) | beta_reduce | skip) | with_reducible apply State.modLink_kept | with_reducible apply State.raise_kept | with_reducible apply State.setR_kept | with_reducible apply Kept.ite | with_reducible apply Kept.fold | with_reducible apply Kept.fold2 | with_reducible apply Kept.fold1 | (lift_lets; intro t; first | (with_reducible refine Kept.cut t ?_ ?_; unfold t) | skip) | dsimp -zeta only | split | dsimp +zetaDelta only)

theorem execDclTimeLo_kept {r₀ : State} (l : Fin 144) (lo : BitVec 32) (s : State) (h0 : Kept r₀ s) : KeptR r₀ (execDclTimeLo l lo s) := by
  unfold execDclTimeLo
  repeat' (first | with_reducible assumption | (intro t; first | (with_reducible refine Kept.cut t ?_ ?_; unfold t) | beta_reduce | skip) | with_reducible apply KeptR.next | with_reducible apply State.slotPassed_kept | with_reducible apply State.timeDiff_kept | with_reducible apply Kept.ite | with_reducible apply KeptR.ite | with_reducible apply Kept.fold | with_reducible apply Kept.fold2 | with_reducible apply Kept.fold1 | (lift_lets; intro t; first | (with_reducible refine Kept.cut t ?_ ?_; unfold t) | skip) | dsimp -zeta only | split | dsimp +zetaDelta only)

theorem State.mapCheck_kept {r₀ : State} (s : State) (l : Nat) (h0 : Kept r₀ s) : Kept r₀ (State.mapCheck s l) := by
  unfold State.mapCheck
  repeat' (first | with_reducible assumption | (intro t; first | (with_reducible refine Kept.cut t ?_ ?_; unfold t) | beta_reduce | skip) | with_reducible apply State.raise_kept | with_reducible apply State.setR_kept | with_reducible apply Kept.ite | with_reducible apply Kept.fold | with_reducible apply Kept.fold2 | with_reducible apply Kept.fold1 | (lift_lets; intro t; first | (with_reducible refine Kept.cut t ?_ ?_; unfold t) | skip) | dsimp -zeta only | split | dsimp +zetaDelta only)

theorem execDclMap_kept {r₀ : State} (l : Fin 144) (id : BitVec 32) (s : State) (h0 : Kept r₀ s) : KeptR r₀ (execDclMap l id s) := by
  unfold execDclMap
  repeat' (first | with_reducible assumption | (intro t; first | (with_reducible refine Kept.cut t ?_ ?_; unfold t) | beta_reduce | skip) | with_reducible apply KeptR.next | with_reducible apply State.mapCheck_kept | with_reducible apply State.modLink_kept | with_reducible apply State.slotPassed_kept | with_reducible apply State.when_kept | with_reducible apply Kept.ite | with_reducible apply KeptR.ite | with_reducible apply Kept.fold | with_reducible apply Kept.fold2 | with_reducible apply Kept.fold1 | (lift_lets; intro t; first | (with_reducible refine Kept.cut t ?_ ?_; unfold t) | skip) | dsimp -zeta only | split | dsimp +zetaDelta only)

theorem execDclStatus_kept {r₀ : State} (l : Fin 144) (bits : BitVec 3) (s : State) (h0 : Kept r₀ s) : KeptR r₀ (execDclStatus l bits s) := by
  unfold execDclStatus
  repeat' (first | with_reducible assumption | (intro t; first | (with_reducible refine Kept.cut t ?_ ?_; unfold t) | beta_reduce | skip) | with_reducible apply KeptR.next | with_reducible apply State.modLink_kept | with_reducible apply State.slotPassed_kept | with_reducible apply Kept.ite | with_reducible apply KeptR.ite | with_reducible apply Kept.fold | with_reducible apply Kept.fold2 | with_reducible apply Kept.fold1 | (lift_lets; intro t; first | (with_reducible refine Kept.cut t ?_ ?_; unfold t) | skip) | dsimp -zeta only | split | dsimp +zetaDelta only)

theorem execDclRetrainBlock_kept {r₀ : State} (l : Fin 144) (_cause : BitVec 8) (s : State) (h0 : Kept r₀ s) : KeptR r₀ (execDclRetrainBlock l _cause s) := by
  unfold execDclRetrainBlock
  repeat' (first | with_reducible assumption | (intro t; first | (with_reducible refine Kept.cut t ?_ ?_; unfold t) | beta_reduce | skip) | with_reducible apply KeptR.next | with_reducible apply State.dclRetrain_kept | with_reducible apply Kept.ite | with_reducible apply KeptR.ite | with_reducible apply Kept.fold | with_reducible apply Kept.fold2 | with_reducible apply Kept.fold1 | (lift_lets; intro t; first | (with_reducible refine Kept.cut t ?_ ?_; unfold t) | skip) | dsimp -zeta only | split | dsimp +zetaDelta only)

theorem execDclIdle_kept {r₀ : State} (l : Fin 144) (s : State) (h0 : Kept r₀ s) : KeptR r₀ (execDclIdle l s) := by
  unfold execDclIdle
  repeat' (first | with_reducible assumption | (intro t; first | (with_reducible refine Kept.cut t ?_ ?_; unfold t) | beta_reduce | skip) | with_reducible apply KeptR.next | with_reducible apply State.slotPassed_kept | with_reducible apply Kept.ite | with_reducible apply KeptR.ite | with_reducible apply Kept.fold | with_reducible apply Kept.fold2 | with_reducible apply Kept.fold1 | (lift_lets; intro t; first | (with_reducible refine Kept.cut t ?_ ?_; unfold t) | skip) | dsimp -zeta only | split | dsimp +zetaDelta only)

theorem execDclCapxTimeout_kept {r₀ : State} (l : Fin 144) (s : State) (h0 : Kept r₀ s) : KeptR r₀ (execDclCapxTimeout l s) := by
  unfold execDclCapxTimeout
  repeat' (first | with_reducible assumption | (intro t; first | (with_reducible refine Kept.cut t ?_ ?_; unfold t) | beta_reduce | skip) | with_reducible apply KeptR.next | with_reducible apply State.attemptFail_kept | with_reducible apply State.when_kept | with_reducible apply Kept.ite | with_reducible apply KeptR.ite | with_reducible apply Kept.fold | with_reducible apply Kept.fold2 | with_reducible apply Kept.fold1 | (lift_lets; intro t; first | (with_reducible refine Kept.cut t ?_ ?_; unfold t) | skip) | dsimp -zeta only | split | dsimp +zetaDelta only)

theorem State.rateFallback_kept {r₀ : State} (s : State) (l : Nat) (h0 : Kept r₀ s) : Kept r₀ (State.rateFallback s l) := by
  unfold State.rateFallback
  repeat' (first | with_reducible assumption | (intro t; first | (with_reducible refine Kept.cut t ?_ ?_; unfold t) | beta_reduce | skip) | with_reducible apply State.dclSt_kept | with_reducible apply State.modLink_kept | with_reducible apply State.raise_kept | with_reducible apply State.setR_kept | with_reducible apply Kept.ite | with_reducible apply Kept.fold | with_reducible apply Kept.fold2 | with_reducible apply Kept.fold1 | (lift_lets; intro t; first | (with_reducible refine Kept.cut t ?_ ?_; unfold t) | skip) | dsimp -zeta only | split | dsimp +zetaDelta only)

theorem execDclRelockTimeout_kept {r₀ : State} (l : Fin 144) (s : State) (h0 : Kept r₀ s) : KeptR r₀ (execDclRelockTimeout l s) := by
  unfold execDclRelockTimeout
  repeat' (first | with_reducible assumption | (intro t; first | (with_reducible refine Kept.cut t ?_ ?_; unfold t) | beta_reduce | skip) | with_reducible apply KeptR.next | with_reducible apply State.rateFallback_kept | with_reducible apply State.when_kept | with_reducible apply Kept.ite | with_reducible apply KeptR.ite | with_reducible apply Kept.fold | with_reducible apply Kept.fold2 | with_reducible apply Kept.fold1 | (lift_lets; intro t; first | (with_reducible refine Kept.cut t ?_ ?_; unfold t) | skip) | dsimp -zeta only | split | dsimp +zetaDelta only)

theorem execDclEqtrainTimeout_kept {r₀ : State} (l : Fin 144) (s : State) (h0 : Kept r₀ s) : KeptR r₀ (execDclEqtrainTimeout l s) := by
  unfold execDclEqtrainTimeout
  repeat' (first | with_reducible assumption | (intro t; first | (with_reducible refine Kept.cut t ?_ ?_; unfold t) | beta_reduce | skip) | with_reducible apply KeptR.next | with_reducible apply State.rateFallback_kept | with_reducible apply State.when_kept | with_reducible apply Kept.ite | with_reducible apply KeptR.ite | with_reducible apply Kept.fold | with_reducible apply Kept.fold2 | with_reducible apply Kept.fold1 | (lift_lets; intro t; first | (with_reducible refine Kept.cut t ?_ ?_; unfold t) | skip) | dsimp -zeta only | split | dsimp +zetaDelta only)

theorem execDclLatmeasTimeout_kept {r₀ : State} (l : Fin 144) (s : State) (h0 : Kept r₀ s) : KeptR r₀ (execDclLatmeasTimeout l s) := by
  unfold execDclLatmeasTimeout
  repeat' (first | with_reducible assumption | (intro t; first | (with_reducible refine Kept.cut t ?_ ?_; unfold t) | beta_reduce | skip) | with_reducible apply KeptR.next | with_reducible apply State.measFail_kept | with_reducible apply State.when_kept | with_reducible apply Kept.ite | with_reducible apply KeptR.ite | with_reducible apply Kept.fold | with_reducible apply Kept.fold2 | with_reducible apply Kept.fold1 | (lift_lets; intro t; first | (with_reducible refine Kept.cut t ?_ ?_; unfold t) | skip) | dsimp -zeta only | split | dsimp +zetaDelta only)

theorem execDclMapWrite_kept {r₀ : State} (l : Fin 144) (off : BitVec 9) (value : BitVec 32) (s : State) (h0 : Kept r₀ s) : KeptR r₀ (execDclMapWrite l off value s) := by
  unfold execDclMapWrite
  repeat' (first | with_reducible assumption | (intro t; first | (with_reducible refine Kept.cut t ?_ ?_; unfold t) | beta_reduce | skip) | with_reducible apply KeptR.next | with_reducible apply State.mapCheck_kept | with_reducible apply State.setR_kept | with_reducible apply State.touchLane_kept | with_reducible apply Kept.ite | with_reducible apply KeptR.ite | with_reducible apply Kept.fold | with_reducible apply Kept.fold2 | with_reducible apply Kept.fold1 | (lift_lets; intro t; first | (with_reducible refine Kept.cut t ?_ ?_; unfold t) | skip) | dsimp -zeta only | split | dsimp +zetaDelta only)

theorem execDclStreamEntryWrite_kept {r₀ : State} (stream : BitVec 12) (value : BitVec 32) (s : State) (h0 : Kept r₀ s) : KeptR r₀ (execDclStreamEntryWrite stream value s) := by
  unfold execDclStreamEntryWrite
  repeat' (first | with_reducible assumption | (intro t; first | (with_reducible refine Kept.cut t ?_ ?_; unfold t) | beta_reduce | skip) | with_reducible apply KeptR.next | with_reducible apply State.setR_kept | with_reducible apply Kept.ite | with_reducible apply KeptR.ite | with_reducible apply Kept.fold | with_reducible apply Kept.fold2 | with_reducible apply Kept.fold1 | (lift_lets; intro t; first | (with_reducible refine Kept.cut t ?_ ?_; unfold t) | skip) | dsimp -zeta only | split | dsimp +zetaDelta only)

theorem execDclAsymWrite_kept {r₀ : State} (l : Fin 144) (value : BitVec 16) (s : State) (h0 : Kept r₀ s) : KeptR r₀ (execDclAsymWrite l value s) := by
  unfold execDclAsymWrite
  repeat' (first | with_reducible assumption | (intro t; first | (with_reducible refine Kept.cut t ?_ ?_; unfold t) | beta_reduce | skip) | with_reducible apply KeptR.next | with_reducible apply State.setLat_kept | with_reducible apply State.setR_kept | with_reducible apply Kept.ite | with_reducible apply KeptR.ite | with_reducible apply Kept.fold | with_reducible apply Kept.fold2 | with_reducible apply Kept.fold1 | (lift_lets; intro t; first | (with_reducible refine Kept.cut t ?_ ?_; unfold t) | skip) | dsimp -zeta only | split | dsimp +zetaDelta only)

end Sys2Proof.Machine
end

