-- ==== Sys2Proof/Laws/Kept/Thyme.lean ====
section
/-!
SUPPORT. Every operation of Machine/Thyme.lean leaves the queue and keeps the tables in canonical form.
-/

set_option linter.unreachableTactic false
set_option linter.unusedTactic false
set_option linter.unusedVariables false

namespace Sys2Proof.Machine

theorem State.putContract_kept {r₀ : State} (s : State) (id : Nat) (c : Contract) (h0 : Kept r₀ s) : Kept r₀ (State.putContract s id c) := by
  unfold State.putContract
  repeat' (first | with_reducible assumption | (intro t; first | (with_reducible refine Kept.cut t ?_ ?_; unfold t) | beta_reduce | skip) | with_reducible apply State.modThy_kept | with_reducible apply Kept.ite | with_reducible apply Kept.fold | with_reducible apply Kept.fold2 | with_reducible apply Kept.fold1 | (lift_lets; intro t; first | (with_reducible refine Kept.cut t ?_ ?_; unfold t) | skip) | dsimp -zeta only | split | dsimp +zetaDelta only)

theorem State.applyPlan_kept {r₀ : State} (s : State) (id : Nat) (d : Desc) (p : Plan) (h0 : Kept r₀ s) : Kept r₀ (State.applyPlan s id d p) := by
  unfold State.applyPlan
  repeat' (first | with_reducible assumption | (intro t; first | (with_reducible refine Kept.cut t ?_ ?_; unfold t) | beta_reduce | skip) | with_reducible apply State.putContract_kept | with_reducible apply State.setCstate_kept | with_reducible apply State.setR_kept | with_reducible apply Kept.ite | with_reducible apply Kept.fold | with_reducible apply Kept.fold2 | with_reducible apply Kept.fold1 | (lift_lets; intro t; first | (with_reducible refine Kept.cut t ?_ ?_; unfold t) | skip) | dsimp -zeta only | split | dsimp +zetaDelta only)

theorem State.boxStart_kept {r₀ : State} (s : State) (m op id : Nat) (h0 : Kept r₀ s) : Kept r₀ (State.boxStart s m op id) := by
  unfold State.boxStart
  repeat' (first | with_reducible assumption | (intro t; first | (with_reducible refine Kept.cut t ?_ ?_; unfold t) | beta_reduce | skip) | with_reducible apply State.setR_kept | with_reducible apply State.modThy_kept | with_reducible apply Kept.ite | with_reducible apply Kept.fold | with_reducible apply Kept.fold2 | with_reducible apply Kept.fold1 | (lift_lets; intro t; first | (with_reducible refine Kept.cut t ?_ ?_; unfold t) | skip) | dsimp -zeta only | split | dsimp +zetaDelta only)

theorem State.boxEnd_kept {r₀ : State} (s : State) (m state : Nat) (h0 : Kept r₀ s) : Kept r₀ (State.boxEnd s m state) := by
  unfold State.boxEnd
  repeat' (first | with_reducible assumption | (intro t; first | (with_reducible refine Kept.cut t ?_ ?_; unfold t) | beta_reduce | skip) | with_reducible apply State.irqEdge_kept | with_reducible apply State.setR_kept | with_reducible apply State.modThy_kept | with_reducible apply Kept.ite | with_reducible apply Kept.fold | with_reducible apply Kept.fold2 | with_reducible apply Kept.fold1 | (lift_lets; intro t; first | (with_reducible refine Kept.cut t ?_ ?_; unfold t) | skip) | dsimp -zeta only | split | with_reducible apply Map.sortedFrom_filter | with_reducible apply Map.wf_filter | dsimp +zetaDelta only)

theorem State.boxRefuse_kept {r₀ : State} (s : State) (m op id : Nat) (r : Refuse) (h0 : Kept r₀ s) : Kept r₀ (State.boxRefuse s m op id r) := by
  unfold State.boxRefuse
  repeat' (first | with_reducible assumption | (intro t; first | (with_reducible refine Kept.cut t ?_ ?_; unfold t) | beta_reduce | skip) | with_reducible apply State.boxEnd_kept | with_reducible apply State.raise_kept | with_reducible apply State.setR_kept | with_reducible apply Kept.ite | with_reducible apply Kept.fold | with_reducible apply Kept.fold2 | with_reducible apply Kept.fold1 | (lift_lets; intro t; first | (with_reducible refine Kept.cut t ?_ ?_; unfold t) | skip) | dsimp -zeta only | split | dsimp +zetaDelta only)

theorem State.boxDone_kept {r₀ : State} (s : State) (m id : Nat) (h0 : Kept r₀ s) : Kept r₀ (State.boxDone s m id) := by
  unfold State.boxDone
  repeat' (first | with_reducible assumption | (intro t; first | (with_reducible refine Kept.cut t ?_ ?_; unfold t) | beta_reduce | skip) | with_reducible apply State.boxEnd_kept | with_reducible apply State.markCommit_kept | with_reducible apply State.setR_kept | with_reducible apply Kept.ite | with_reducible apply Kept.fold | with_reducible apply Kept.fold2 | with_reducible apply Kept.fold1 | (lift_lets; intro t; first | (with_reducible refine Kept.cut t ?_ ?_; unfold t) | skip) | dsimp -zeta only | split | dsimp +zetaDelta only)

theorem State.boxPlan_kept {r₀ : State} (s : State) (m : Nat) (p : Plan) (h0 : Kept r₀ s) : Kept r₀ (State.boxPlan s m p) := by
  unfold State.boxPlan
  repeat' (first | with_reducible assumption | (intro t; first | (with_reducible refine Kept.cut t ?_ ?_; unfold t) | beta_reduce | skip) | with_reducible apply State.setR_kept | with_reducible apply Kept.ite | with_reducible apply Kept.fold | with_reducible apply Kept.fold2 | with_reducible apply Kept.fold1 | (lift_lets; intro t; first | (with_reducible refine Kept.cut t ?_ ?_; unfold t) | skip) | dsimp -zeta only | split | dsimp +zetaDelta only)

theorem State.thyTurn_kept {r₀ : State} (s : State) (m op id : Nat) (answered : Bool) (effect : Nat → State → State) (h0 : Kept r₀ s)
    (hk : ∀ i u, Kept r₀ u → Kept r₀ (effect i u)) : Kept r₀ (State.thyTurn s m op id answered effect) := by
  unfold State.thyTurn
  split
  · split
    · split
      · exact hk _ _ h0
      · exact h0
    · exact h0
  · dsimp only
    split
    · exact hk _ _ (State.boxStart_kept _ _ _ _ h0)
    · exact State.boxStart_kept _ _ _ _ h0

theorem State.admitNow_kept {r₀ : State} (s : State) (m : Nat) (h0 : Kept r₀ s) : Kept r₀ (State.admitNow s m) := by
  unfold State.admitNow
  repeat' (first | with_reducible assumption | (intro t; first | (with_reducible refine Kept.cut t ?_ ?_; unfold t) | beta_reduce | skip) | with_reducible apply State.applyPlan_kept | with_reducible apply State.boxDone_kept | with_reducible apply State.boxPlan_kept | with_reducible apply State.boxRefuse_kept | with_reducible apply State.raise_kept | with_reducible apply Kept.ite | with_reducible apply Kept.fold | with_reducible apply Kept.fold2 | with_reducible apply Kept.fold1 | (lift_lets; intro t; first | (with_reducible refine Kept.cut t ?_ ?_; unfold t) | skip) | dsimp -zeta only | split | dsimp +zetaDelta only)

theorem execThyAdmit_kept {r₀ : State} (m : Fin 8) (answered : Bool) (s : State) (h0 : Kept r₀ s) : KeptR r₀ (execThyAdmit m answered s) := by
  unfold execThyAdmit
  repeat' (first | with_reducible assumption | (intro t; first | (with_reducible refine Kept.cut t ?_ ?_; unfold t) | beta_reduce | skip) | with_reducible apply KeptR.next | with_reducible apply State.admitNow_kept | with_reducible apply State.thyTurn_kept | with_reducible apply Kept.ite | with_reducible apply KeptR.ite | with_reducible apply Kept.fold | with_reducible apply Kept.fold2 | with_reducible apply Kept.fold1 | (lift_lets; intro t; first | (with_reducible refine Kept.cut t ?_ ?_; unfold t) | skip) | dsimp -zeta only | split | dsimp +zetaDelta only)

theorem State.suspendNow_kept {r₀ : State} (s : State) (m i : Nat) (h0 : Kept r₀ s) : Kept r₀ (State.suspendNow s m i) := by
  unfold State.suspendNow
  repeat' (first | with_reducible assumption | (intro t; first | (with_reducible refine Kept.cut t ?_ ?_; unfold t) | beta_reduce | skip) | with_reducible apply State.boxDone_kept | with_reducible apply State.boxRefuse_kept | with_reducible apply State.pgeOutputLost_kept | with_reducible apply State.raise_kept | with_reducible apply State.setCstate_kept | with_reducible apply Kept.ite | with_reducible apply Kept.fold | with_reducible apply Kept.fold2 | with_reducible apply Kept.fold1 | (lift_lets; intro t; first | (with_reducible refine Kept.cut t ?_ ?_; unfold t) | skip) | dsimp -zeta only | split | dsimp +zetaDelta only)

theorem execThySuspend_kept {r₀ : State} (m : Fin 8) (id : BitVec 12) (answered : Bool) (s : State) (h0 : Kept r₀ s) : KeptR r₀ (execThySuspend m id answered s) := by
  unfold execThySuspend
  repeat' (first | with_reducible assumption | (intro t; first | (with_reducible refine Kept.cut t ?_ ?_; unfold t) | beta_reduce | skip) | with_reducible apply KeptR.next | with_reducible apply State.suspendNow_kept | with_reducible apply State.thyTurn_kept | with_reducible apply Kept.ite | with_reducible apply KeptR.ite | with_reducible apply Kept.fold | with_reducible apply Kept.fold2 | with_reducible apply Kept.fold1 | (lift_lets; intro t; first | (with_reducible refine Kept.cut t ?_ ?_; unfold t) | skip) | dsimp -zeta only | split | dsimp +zetaDelta only)

theorem State.fullCredit_kept {r₀ : State} (s : State) (id : Nat) (h0 : Kept r₀ s) : Kept r₀ (State.fullCredit s id) := by
  unfold State.fullCredit
  repeat' (first | with_reducible assumption | (intro t; first | (with_reducible refine Kept.cut t ?_ ?_; unfold t) | beta_reduce | skip) | with_reducible apply State.putContract_kept | with_reducible apply Kept.ite | with_reducible apply Kept.fold | with_reducible apply Kept.fold2 | with_reducible apply Kept.fold1 | (lift_lets; intro t; first | (with_reducible refine Kept.cut t ?_ ?_; unfold t) | skip) | dsimp -zeta only | split | dsimp +zetaDelta only)

theorem State.resumeNow_kept {r₀ : State} (s : State) (m i : Nat) (h0 : Kept r₀ s) : Kept r₀ (State.resumeNow s m i) := by
  unfold State.resumeNow
  repeat' (first | with_reducible assumption | (intro t; first | (with_reducible refine Kept.cut t ?_ ?_; unfold t) | beta_reduce | skip) | with_reducible apply State.boxDone_kept | with_reducible apply State.boxRefuse_kept | with_reducible apply State.fullCredit_kept | with_reducible apply State.raise_kept | with_reducible apply State.setCstate_kept | with_reducible apply Kept.ite | with_reducible apply Kept.fold | with_reducible apply Kept.fold2 | with_reducible apply Kept.fold1 | (lift_lets; intro t; first | (with_reducible refine Kept.cut t ?_ ?_; unfold t) | skip) | dsimp -zeta only | split | dsimp +zetaDelta only)

theorem execThyResume_kept {r₀ : State} (m : Fin 8) (id : BitVec 12) (answered : Bool) (s : State) (h0 : Kept r₀ s) : KeptR r₀ (execThyResume m id answered s) := by
  unfold execThyResume
  repeat' (first | with_reducible assumption | (intro t; first | (with_reducible refine Kept.cut t ?_ ?_; unfold t) | beta_reduce | skip) | with_reducible apply KeptR.next | with_reducible apply State.resumeNow_kept | with_reducible apply State.thyTurn_kept | with_reducible apply Kept.ite | with_reducible apply KeptR.ite | with_reducible apply Kept.fold | with_reducible apply Kept.fold2 | with_reducible apply Kept.fold1 | (lift_lets; intro t; first | (with_reducible refine Kept.cut t ?_ ?_; unfold t) | skip) | dsimp -zeta only | split | dsimp +zetaDelta only)

theorem State.teardownNow_kept {r₀ : State} (s : State) (m i : Nat) (h0 : Kept r₀ s) : Kept r₀ (State.teardownNow s m i) := by
  unfold State.teardownNow
  repeat' (first | with_reducible assumption | (intro t; first | (with_reducible refine Kept.cut t ?_ ?_; unfold t) | beta_reduce | skip) | with_reducible apply State.boxDone_kept | with_reducible apply State.boxRefuse_kept | with_reducible apply State.pgeOutputLost_kept | with_reducible apply State.putContract_kept | with_reducible apply State.setCstate_kept | with_reducible apply Kept.ite | with_reducible apply Kept.fold | with_reducible apply Kept.fold2 | with_reducible apply Kept.fold1 | (lift_lets; intro t; first | (with_reducible refine Kept.cut t ?_ ?_; unfold t) | skip) | dsimp -zeta only | split | dsimp +zetaDelta only)

theorem execThyTeardown_kept {r₀ : State} (m : Fin 8) (id : BitVec 12) (answered : Bool) (s : State) (h0 : Kept r₀ s) : KeptR r₀ (execThyTeardown m id answered s) := by
  unfold execThyTeardown
  repeat' (first | with_reducible assumption | (intro t; first | (with_reducible refine Kept.cut t ?_ ?_; unfold t) | beta_reduce | skip) | with_reducible apply KeptR.next | with_reducible apply State.teardownNow_kept | with_reducible apply State.thyTurn_kept | with_reducible apply Kept.ite | with_reducible apply KeptR.ite | with_reducible apply Kept.fold | with_reducible apply Kept.fold2 | with_reducible apply Kept.fold1 | (lift_lets; intro t; first | (with_reducible refine Kept.cut t ?_ ?_; unfold t) | skip) | dsimp -zeta only | split | dsimp +zetaDelta only)

theorem State.readmitNow_kept {r₀ : State} (s : State) (m i : Nat) (h0 : Kept r₀ s) : Kept r₀ (State.readmitNow s m i) := by
  unfold State.readmitNow
  repeat' (first | with_reducible assumption | (intro t; first | (with_reducible refine Kept.cut t ?_ ?_; unfold t) | beta_reduce | skip) | with_reducible apply State.applyPlan_kept | with_reducible apply State.boxDone_kept | with_reducible apply State.boxPlan_kept | with_reducible apply State.boxRefuse_kept | with_reducible apply State.raise_kept | with_reducible apply Kept.ite | with_reducible apply Kept.fold | with_reducible apply Kept.fold2 | with_reducible apply Kept.fold1 | (lift_lets; intro t; first | (with_reducible refine Kept.cut t ?_ ?_; unfold t) | skip) | dsimp -zeta only | split | dsimp +zetaDelta only)

theorem execThyReadmit_kept {r₀ : State} (m : Fin 8) (id : BitVec 12) (answered : Bool) (s : State) (h0 : Kept r₀ s) : KeptR r₀ (execThyReadmit m id answered s) := by
  unfold execThyReadmit
  repeat' (first | with_reducible assumption | (intro t; first | (with_reducible refine Kept.cut t ?_ ?_; unfold t) | beta_reduce | skip) | with_reducible apply KeptR.next | with_reducible apply State.readmitNow_kept | with_reducible apply State.thyTurn_kept | with_reducible apply Kept.ite | with_reducible apply KeptR.ite | with_reducible apply Kept.fold | with_reducible apply Kept.fold2 | with_reducible apply Kept.fold1 | (lift_lets; intro t; first | (with_reducible refine Kept.cut t ?_ ?_; unfold t) | skip) | dsimp -zeta only | split | dsimp +zetaDelta only)

theorem execThyAbort_kept {r₀ : State} (m : Fin 8) (s : State) (h0 : Kept r₀ s) : KeptR r₀ (execThyAbort m s) := by
  unfold execThyAbort
  repeat' (first | with_reducible assumption | (intro t; first | (with_reducible refine Kept.cut t ?_ ?_; unfold t) | beta_reduce | skip) | with_reducible apply KeptR.next | with_reducible apply State.boxEnd_kept | with_reducible apply State.setR_kept | with_reducible apply State.when_kept | with_reducible apply Kept.ite | with_reducible apply KeptR.ite | with_reducible apply Kept.fold | with_reducible apply Kept.fold2 | with_reducible apply Kept.fold1 | (lift_lets; intro t; first | (with_reducible refine Kept.cut t ?_ ?_; unfold t) | skip) | dsimp -zeta only | split | dsimp +zetaDelta only)

theorem execThyTimeout_kept {r₀ : State} (m : Fin 8) (s : State) (h0 : Kept r₀ s) : KeptR r₀ (execThyTimeout m s) := by
  unfold execThyTimeout
  repeat' (first | with_reducible assumption | (intro t; first | (with_reducible refine Kept.cut t ?_ ?_; unfold t) | beta_reduce | skip) | with_reducible apply KeptR.next | with_reducible apply State.boxEnd_kept | with_reducible apply State.raise_kept | with_reducible apply State.setR_kept | with_reducible apply Kept.ite | with_reducible apply KeptR.ite | with_reducible apply Kept.fold | with_reducible apply Kept.fold2 | with_reducible apply Kept.fold1 | (lift_lets; intro t; first | (with_reducible refine Kept.cut t ?_ ?_; unfold t) | skip) | dsimp -zeta only | split | dsimp +zetaDelta only)

theorem execContractDrainEnd_kept {r₀ : State} (id : BitVec 12) (s : State) (h0 : Kept r₀ s) : KeptR r₀ (execContractDrainEnd id s) := by
  unfold execContractDrainEnd
  repeat' (first | with_reducible assumption | (intro t; first | (with_reducible refine Kept.cut t ?_ ?_; unfold t) | beta_reduce | skip) | with_reducible apply KeptR.next | with_reducible apply State.raise_kept | with_reducible apply State.resetFields_kept | with_reducible apply State.thyCount_kept | with_reducible apply State.when_kept | with_reducible apply State.modThy_kept | with_reducible apply Kept.ite | with_reducible apply KeptR.ite | with_reducible apply Kept.fold | with_reducible apply Kept.fold2 | with_reducible apply Kept.fold1 | (lift_lets; intro t; first | (with_reducible refine Kept.cut t ?_ ?_; unfold t) | skip) | dsimp -zeta only | split | dsimp +zetaDelta only)

theorem State.ingressWith_kept {r₀ : State} (s : State) (p : Packet) (h0 : Kept r₀ s) : Kept r₀ (State.ingressWith s p) := by
  unfold State.ingressWith
  repeat' (first | with_reducible assumption | (intro t; first | (with_reducible refine Kept.cut t ?_ ?_; unfold t) | beta_reduce | skip) | with_reducible apply State.inject_kept | with_reducible apply State.putContract_kept | with_reducible apply State.raise_kept | with_reducible apply Kept.ite | with_reducible apply Kept.fold | with_reducible apply Kept.fold2 | with_reducible apply Kept.fold1 | (lift_lets; intro t; first | (with_reducible refine Kept.cut t ?_ ?_; unfold t) | skip) | dsimp -zeta only | split | dsimp +zetaDelta only)

theorem State.ingress_kept {r₀ : State} (s : State) (p : Packet) (h0 : Kept r₀ s) : Kept r₀ (State.ingress s p) := by
  unfold State.ingress
  repeat' (first | with_reducible assumption | (intro t; first | (with_reducible refine Kept.cut t ?_ ?_; unfold t) | beta_reduce | skip) | with_reducible apply State.ingressWith_kept | with_reducible apply Kept.ite | with_reducible apply Kept.fold | with_reducible apply Kept.fold2 | with_reducible apply Kept.fold1 | (lift_lets; intro t; first | (with_reducible refine Kept.cut t ?_ ?_; unfold t) | skip) | dsimp -zeta only | split | dsimp +zetaDelta only)

theorem execIngressAccept_kept {r₀ : State} (p : Packet) (s : State) (h0 : Kept r₀ s) : KeptR r₀ (execIngressAccept p s) := by
  unfold execIngressAccept
  repeat' (first | with_reducible assumption | (intro t; first | (with_reducible refine Kept.cut t ?_ ?_; unfold t) | beta_reduce | skip) | with_reducible apply KeptR.next | with_reducible apply State.ingress_kept | with_reducible apply Kept.ite | with_reducible apply KeptR.ite | with_reducible apply Kept.fold | with_reducible apply Kept.fold2 | with_reducible apply Kept.fold1 | (lift_lets; intro t; first | (with_reducible refine Kept.cut t ?_ ?_; unfold t) | skip) | dsimp -zeta only | split | dsimp +zetaDelta only)

theorem State.thymeBreach_kept {r₀ : State} (s : State) (id cause : Nat) (h0 : Kept r₀ s) : Kept r₀ (State.thymeBreach s id cause) := by
  unfold State.thymeBreach
  repeat' (first | with_reducible assumption | (intro t; first | (with_reducible refine Kept.cut t ?_ ?_; unfold t) | beta_reduce | skip) | with_reducible apply State.breach_kept | with_reducible apply State.suspendBreach_kept | with_reducible apply Kept.ite | with_reducible apply Kept.fold | with_reducible apply Kept.fold2 | with_reducible apply Kept.fold1 | (lift_lets; intro t; first | (with_reducible refine Kept.cut t ?_ ?_; unfold t) | skip) | dsimp -zeta only | split | dsimp +zetaDelta only)

theorem State.remap_kept {r₀ : State} (s : State) (bank id : Nat) (h0 : Kept r₀ s) : Kept r₀ (State.remap s bank id) := by
  unfold State.remap
  repeat' (first | with_reducible assumption | (intro t; first | (with_reducible refine Kept.cut t ?_ ?_; unfold t) | beta_reduce | skip) | with_reducible apply State.putContract_kept | with_reducible apply State.setR_kept | with_reducible apply State.thymeBreach_kept | with_reducible apply Kept.ite | with_reducible apply Kept.fold | with_reducible apply Kept.fold2 | with_reducible apply Kept.fold1 | (lift_lets; intro t; first | (with_reducible refine Kept.cut t ?_ ?_; unfold t) | skip) | dsimp -zeta only | split | dsimp +zetaDelta only)

theorem State.routeUpdate_kept {r₀ : State} (s : State) (changes : List RouteChange) (h0 : Kept r₀ s) : Kept r₀ (State.routeUpdate s changes) := by
  unfold State.routeUpdate
  repeat' (first | with_reducible assumption | (intro t; first | (with_reducible refine Kept.cut t ?_ ?_; unfold t) | beta_reduce | skip) | with_reducible apply State.remap_kept | with_reducible apply State.setR_kept | with_reducible apply State.modNoc_kept | with_reducible apply Kept.ite | with_reducible apply Kept.fold | with_reducible apply Kept.fold2 | with_reducible apply Kept.fold1 | (lift_lets; intro t; first | (with_reducible refine Kept.cut t ?_ ?_; unfold t) | skip) | dsimp -zeta only | split | dsimp +zetaDelta only)

theorem execRouteUpdate_kept {r₀ : State} (changes : List RouteChange) (s : State) (h0 : Kept r₀ s) : KeptR r₀ (execRouteUpdate changes s) := by
  unfold execRouteUpdate
  repeat' (first | with_reducible assumption | (intro t; first | (with_reducible refine Kept.cut t ?_ ?_; unfold t) | beta_reduce | skip) | with_reducible apply KeptR.next | with_reducible apply State.routeUpdate_kept | with_reducible apply State.modNoc_kept | with_reducible apply Kept.ite | with_reducible apply KeptR.ite | with_reducible apply Kept.fold | with_reducible apply Kept.fold2 | with_reducible apply Kept.fold1 | (lift_lets; intro t; first | (with_reducible refine Kept.cut t ?_ ?_; unfold t) | skip) | dsimp -zeta only | split | dsimp +zetaDelta only)

theorem execRouteUpdateAbort_kept {r₀ : State} (n : Nat) (s : State) (h0 : Kept r₀ s) : KeptR r₀ (execRouteUpdateAbort n s) := by
  unfold execRouteUpdateAbort
  repeat' (first | with_reducible assumption | (intro t; first | (with_reducible refine Kept.cut t ?_ ?_; unfold t) | beta_reduce | skip) | with_reducible apply KeptR.next | with_reducible apply State.modNoc_kept | with_reducible apply Kept.ite | with_reducible apply KeptR.ite | with_reducible apply Kept.fold | with_reducible apply Kept.fold2 | with_reducible apply Kept.fold1 | (lift_lets; intro t; first | (with_reducible refine Kept.cut t ?_ ?_; unfold t) | skip) | dsimp -zeta only | split | dsimp +zetaDelta only)

theorem execRouteEpochRelease_kept {r₀ : State} (s : State) (h0 : Kept r₀ s) : KeptR r₀ (execRouteEpochRelease s) := by
  unfold execRouteEpochRelease
  repeat' (first | with_reducible assumption | (intro t; first | (with_reducible refine Kept.cut t ?_ ?_; unfold t) | beta_reduce | skip) | with_reducible apply KeptR.next | with_reducible apply State.raise_kept | with_reducible apply State.routeUpdate_kept | with_reducible apply State.setR_kept | with_reducible apply State.wrapAdd_kept | with_reducible apply State.modNoc_kept | with_reducible apply State.modThy_kept | with_reducible apply Kept.ite | with_reducible apply KeptR.ite | with_reducible apply Kept.fold | with_reducible apply Kept.fold2 | with_reducible apply Kept.fold1 | (lift_lets; intro t; first | (with_reducible refine Kept.cut t ?_ ?_; unfold t) | skip) | dsimp -zeta only | split | dsimp +zetaDelta only)

theorem execSysidWrite_kept {r₀ : State} (value : BitVec 32) (s : State) (h0 : Kept r₀ s) : KeptR r₀ (execSysidWrite value s) := by
  unfold execSysidWrite
  repeat' (first | with_reducible assumption | (intro t; first | (with_reducible refine Kept.cut t ?_ ?_; unfold t) | beta_reduce | skip) | with_reducible apply KeptR.next | with_reducible apply State.setR_kept | with_reducible apply State.when_kept | with_reducible apply Kept.ite | with_reducible apply KeptR.ite | with_reducible apply Kept.fold | with_reducible apply Kept.fold2 | with_reducible apply Kept.fold1 | (lift_lets; intro t; first | (with_reducible refine Kept.cut t ?_ ?_; unfold t) | skip) | dsimp -zeta only | split | dsimp +zetaDelta only)

end Sys2Proof.Machine
end

