-- ==== Sys2Proof/Laws/Kept/Interconnect.lean ====
section
/-!
SUPPORT. Every operation of Machine/Interconnect.lean leaves the queue and keeps the tables in canonical form.
-/

set_option linter.unreachableTactic false
set_option linter.unusedTactic false
set_option linter.unusedVariables false

namespace Sys2Proof.Machine

theorem State.modDcq_kept {r₀ : State} (s : State) (c : Nat) (f : Dcq → Dcq) (h0 : Kept r₀ s) : Kept r₀ (State.modDcq s c f) := by
  unfold State.modDcq
  repeat' (first | with_reducible assumption | (intro t; first | (with_reducible refine Kept.cut t ?_ ?_; unfold t) | beta_reduce | skip) | with_reducible apply State.modIc_kept | with_reducible apply Kept.ite | with_reducible apply Kept.fold | with_reducible apply Kept.fold2 | with_reducible apply Kept.fold1 | (lift_lets; intro t; first | (with_reducible refine Kept.cut t ?_ ?_; unfold t) | skip) | dsimp -zeta only | split | dsimp +zetaDelta only)

theorem State.dcqWrite_kept {r₀ : State} (s : State) (rg q : Nat) (data : BitVec 72) (h0 : Kept r₀ s) : Kept r₀ (State.dcqWrite s rg q data) := by
  unfold State.dcqWrite
  repeat' (first | with_reducible assumption | (intro t; first | (with_reducible refine Kept.cut t ?_ ?_; unfold t) | beta_reduce | skip) | with_reducible apply State.modDcq_kept | with_reducible apply State.raise_kept | with_reducible apply State.satAdd_kept | with_reducible apply State.setR_kept | with_reducible apply Kept.ite | with_reducible apply Kept.fold | with_reducible apply Kept.fold2 | with_reducible apply Kept.fold1 | (lift_lets; intro t; first | (with_reducible refine Kept.cut t ?_ ?_; unfold t) | skip) | dsimp -zeta only | split | dsimp +zetaDelta only)

theorem execDcqWrite_kept {r₀ : State} (fd : Fin 8) (rgn_ : Fin 384) (q : Fin 4) (data : BitVec 72) (s : State) (h0 : Kept r₀ s) : KeptR r₀ (execDcqWrite fd rgn_ q data s) := by
  unfold execDcqWrite
  repeat' (first | with_reducible assumption | (intro t; first | (with_reducible refine Kept.cut t ?_ ?_; unfold t) | beta_reduce | skip) | with_reducible apply KeptR.next | with_reducible apply State.dcqWrite_kept | with_reducible apply State.when_kept | with_reducible apply Kept.ite | with_reducible apply KeptR.ite | with_reducible apply Kept.fold | with_reducible apply Kept.fold2 | with_reducible apply Kept.fold1 | (lift_lets; intro t; first | (with_reducible refine Kept.cut t ?_ ?_; unfold t) | skip) | dsimp -zeta only | split | dsimp +zetaDelta only)

theorem execDcqEntryPresent_kept {r₀ : State} (fd : Fin 8) (rgn_ : Fin 384) (q : Fin 4) (s : State) (h0 : Kept r₀ s) : KeptR r₀ (execDcqEntryPresent fd rgn_ q s) := by
  unfold execDcqEntryPresent
  repeat' (first | with_reducible assumption | (intro t; first | (with_reducible refine Kept.cut t ?_ ?_; unfold t) | beta_reduce | skip) | with_reducible apply KeptR.next | with_reducible apply State.modDcq_kept | with_reducible apply State.when_kept | with_reducible apply Kept.ite | with_reducible apply KeptR.ite | with_reducible apply Kept.fold | with_reducible apply Kept.fold2 | with_reducible apply Kept.fold1 | (lift_lets; intro t; first | (with_reducible refine Kept.cut t ?_ ?_; unfold t) | skip) | dsimp -zeta only | split | dsimp +zetaDelta only)

theorem State.dcqRead_kept {r₀ : State} (s : State) (c : Nat) (h0 : Kept r₀ s) : Kept r₀ (State.dcqRead s c) := by
  unfold State.dcqRead
  repeat' (first | with_reducible assumption | (intro t; first | (with_reducible refine Kept.cut t ?_ ?_; unfold t) | beta_reduce | skip) | with_reducible apply State.modDcq_kept | with_reducible apply Kept.ite | with_reducible apply Kept.fold | with_reducible apply Kept.fold2 | with_reducible apply Kept.fold1 | (lift_lets; intro t; first | (with_reducible refine Kept.cut t ?_ ?_; unfold t) | skip) | dsimp -zeta only | split | dsimp +zetaDelta only)

theorem execDcqRead_kept {r₀ : State} (fd : Fin 8) (rgn_ : Fin 384) (q : Fin 4) (s : State) (h0 : Kept r₀ s) : KeptR r₀ (execDcqRead fd rgn_ q s) := by
  unfold execDcqRead
  repeat' (first | with_reducible assumption | (intro t; first | (with_reducible refine Kept.cut t ?_ ?_; unfold t) | beta_reduce | skip) | with_reducible apply KeptR.next | with_reducible apply State.dcqRead_kept | with_reducible apply State.when_kept | with_reducible apply Kept.ite | with_reducible apply KeptR.ite | with_reducible apply Kept.fold | with_reducible apply Kept.fold2 | with_reducible apply Kept.fold1 | (lift_lets; intro t; first | (with_reducible refine Kept.cut t ?_ ?_; unfold t) | skip) | dsimp -zeta only | split | dsimp +zetaDelta only)

theorem execDcqRemovalReport_kept {r₀ : State} (fd : Fin 8) (rgn_ : Fin 384) (q : Fin 4) (s : State) (h0 : Kept r₀ s) : KeptR r₀ (execDcqRemovalReport fd rgn_ q s) := by
  unfold execDcqRemovalReport
  repeat' (first | with_reducible assumption | (intro t; first | (with_reducible refine Kept.cut t ?_ ?_; unfold t) | beta_reduce | skip) | with_reducible apply KeptR.next | with_reducible apply State.modDcq_kept | with_reducible apply State.when_kept | with_reducible apply Kept.ite | with_reducible apply KeptR.ite | with_reducible apply Kept.fold | with_reducible apply Kept.fold2 | with_reducible apply Kept.fold1 | (lift_lets; intro t; first | (with_reducible refine Kept.cut t ?_ ?_; unfold t) | skip) | dsimp -zeta only | split | dsimp +zetaDelta only)

theorem State.dcqFlush_kept {r₀ : State} (s : State) (rg : Nat) (h0 : Kept r₀ s) : Kept r₀ (State.dcqFlush s rg) := by
  unfold State.dcqFlush
  repeat' (first | with_reducible assumption | (intro t; first | (with_reducible refine Kept.cut t ?_ ?_; unfold t) | beta_reduce | skip) | with_reducible apply State.modIc_kept | with_reducible apply Kept.ite | with_reducible apply Kept.fold | with_reducible apply Kept.fold2 | with_reducible apply Kept.fold1 | (lift_lets; intro t; first | (with_reducible refine Kept.cut t ?_ ?_; unfold t) | skip) | dsimp -zeta only | split | dsimp +zetaDelta only)

theorem execXbarSelUpset_kept {r₀ : State} (fd : Fin 8) (rgn_ : Fin 384) (mux : Nat) (bit : Nat) (s : State) (h0 : Kept r₀ s) : KeptR r₀ (execXbarSelUpset fd rgn_ mux bit s) := by
  unfold execXbarSelUpset
  repeat' (first | with_reducible assumption | (intro t; first | (with_reducible refine Kept.cut t ?_ ?_; unfold t) | beta_reduce | skip) | with_reducible apply KeptR.next | with_reducible apply State.raise_kept | with_reducible apply State.setR_kept | with_reducible apply State.modIc_kept | with_reducible apply Kept.ite | with_reducible apply KeptR.ite | with_reducible apply Kept.fold | with_reducible apply Kept.fold2 | with_reducible apply Kept.fold1 | (lift_lets; intro t; first | (with_reducible refine Kept.cut t ?_ ?_; unfold t) | skip) | dsimp -zeta only | split | dsimp +zetaDelta only)

theorem State.napSend_kept {r₀ : State} (s : State) (rg : Nat) (p : Packet) (h0 : Kept r₀ s) : Kept r₀ (State.napSend s rg p) := by
  unfold State.napSend
  repeat' (first | with_reducible assumption | (intro t; first | (with_reducible refine Kept.cut t ?_ ?_; unfold t) | beta_reduce | skip) | with_reducible apply State.ingress_kept | with_reducible apply State.raise_kept | with_reducible apply Kept.ite | with_reducible apply Kept.fold | with_reducible apply Kept.fold2 | with_reducible apply Kept.fold1 | (lift_lets; intro t; first | (with_reducible refine Kept.cut t ?_ ?_; unfold t) | skip) | dsimp -zeta only | split | dsimp +zetaDelta only)

theorem execNapTxPacket_kept {r₀ : State} (fd : Fin 8) (rgn_ : Fin 384) (p : Packet) (s : State) (h0 : Kept r₀ s) : KeptR r₀ (execNapTxPacket fd rgn_ p s) := by
  unfold execNapTxPacket
  repeat' (first | with_reducible assumption | (intro t; first | (with_reducible refine Kept.cut t ?_ ?_; unfold t) | beta_reduce | skip) | with_reducible apply KeptR.next | with_reducible apply State.napSend_kept | with_reducible apply Kept.ite | with_reducible apply KeptR.ite | with_reducible apply Kept.fold | with_reducible apply Kept.fold2 | with_reducible apply Kept.fold1 | (lift_lets; intro t; first | (with_reducible refine Kept.cut t ?_ ?_; unfold t) | skip) | dsimp -zeta only | split | dsimp +zetaDelta only)

theorem State.putInbox_kept {r₀ : State} (s : State) (e : Nat) (l : List Packet) (h0 : Kept r₀ s) : Kept r₀ (State.putInbox s e l) := by
  unfold State.putInbox
  repeat' (first | with_reducible assumption | (intro t; first | (with_reducible refine Kept.cut t ?_ ?_; unfold t) | beta_reduce | skip) | with_reducible apply State.modNoc_kept | with_reducible apply Kept.ite | with_reducible apply Kept.fold | with_reducible apply Kept.fold2 | with_reducible apply Kept.fold1 | (lift_lets; intro t; first | (with_reducible refine Kept.cut t ?_ ?_; unfold t) | skip) | dsimp -zeta only | split | dsimp +zetaDelta only)

theorem State.lateAt_kept {r₀ : State} (s : State) (e : Nat) (p : Packet) (h0 : Kept r₀ s) : Kept r₀ (State.lateAt s e p) := by
  unfold State.lateAt
  repeat' (first | with_reducible assumption | (intro t; first | (with_reducible refine Kept.cut t ?_ ?_; unfold t) | beta_reduce | skip) | with_reducible apply State.raise_kept | with_reducible apply Kept.ite | with_reducible apply Kept.fold | with_reducible apply Kept.fold2 | with_reducible apply Kept.fold1 | (lift_lets; intro t; first | (with_reducible refine Kept.cut t ?_ ?_; unfold t) | skip) | dsimp -zeta only | split | dsimp +zetaDelta only)

theorem execNapRxDeliver_kept {r₀ : State} (fd : Fin 8) (rgn_ : Fin 384) (s : State) (h0 : Kept r₀ s) : KeptR r₀ (execNapRxDeliver fd rgn_ s) := by
  unfold execNapRxDeliver
  repeat' (first | with_reducible assumption | (intro t; first | (with_reducible refine Kept.cut t ?_ ?_; unfold t) | beta_reduce | skip) | with_reducible apply KeptR.next | with_reducible apply State.breach_kept | with_reducible apply State.lateAt_kept | with_reducible apply State.modRegion_kept | with_reducible apply State.putInbox_kept | with_reducible apply State.raise_kept | with_reducible apply Kept.ite | with_reducible apply KeptR.ite | with_reducible apply Kept.fold | with_reducible apply Kept.fold2 | with_reducible apply Kept.fold1 | (lift_lets; intro t; first | (with_reducible refine Kept.cut t ?_ ?_; unfold t) | skip) | dsimp -zeta only | split | dsimp +zetaDelta only)

theorem State.decodeAnswer_kept {r₀ : State} (s : State) (e : Nat) (p : Packet) (h0 : Kept r₀ s) : Kept r₀ (State.decodeAnswer s e p) := by
  unfold State.decodeAnswer
  repeat' (first | with_reducible assumption | (intro t; first | (with_reducible refine Kept.cut t ?_ ?_; unfold t) | beta_reduce | skip) | with_reducible apply State.answerStatus_kept | with_reducible apply State.unmappedAt_kept | with_reducible apply Kept.ite | with_reducible apply Kept.fold | with_reducible apply Kept.fold2 | with_reducible apply Kept.fold1 | (lift_lets; intro t; first | (with_reducible refine Kept.cut t ?_ ?_; unfold t) | skip) | dsimp -zeta only | split | dsimp +zetaDelta only)

theorem State.kindReject_kept {r₀ : State} (s : State) (e : Nat) (p : Packet) (h0 : Kept r₀ s) : Kept r₀ (State.kindReject s e p) := by
  unfold State.kindReject
  repeat' (first | with_reducible assumption | (intro t; first | (with_reducible refine Kept.cut t ?_ ?_; unfold t) | beta_reduce | skip) | with_reducible apply State.answerStatus_kept | with_reducible apply State.notice_kept | with_reducible apply State.raise_kept | with_reducible apply Kept.ite | with_reducible apply Kept.fold | with_reducible apply Kept.fold2 | with_reducible apply Kept.fold1 | (lift_lets; intro t; first | (with_reducible refine Kept.cut t ?_ ?_; unfold t) | skip) | dsimp -zeta only | split | dsimp +zetaDelta only)

theorem execNapMmRequest_kept {r₀ : State} (fd : Fin 8) (rgn_ : Fin 384) (s : State) (h0 : Kept r₀ s) : KeptR r₀ (execNapMmRequest fd rgn_ s) := by
  unfold execNapMmRequest
  repeat' (first | with_reducible assumption | (intro t; first | (with_reducible refine Kept.cut t ?_ ?_; unfold t) | beta_reduce | skip) | with_reducible apply KeptR.next | with_reducible apply State.decodeAnswer_kept | with_reducible apply State.lateAt_kept | with_reducible apply State.modRegion_kept | with_reducible apply State.putInbox_kept | with_reducible apply Kept.ite | with_reducible apply KeptR.ite | with_reducible apply Kept.fold | with_reducible apply Kept.fold2 | with_reducible apply Kept.fold1 | (lift_lets; intro t; first | (with_reducible refine Kept.cut t ?_ ?_; unfold t) | skip) | dsimp -zeta only | split | dsimp +zetaDelta only)

theorem State.mmAck_kept {r₀ : State} (s : State) (rg : Nat) (err : Bool) (rdata : BitVec 64) (h0 : Kept r₀ s) : Kept r₀ (State.mmAck s rg err rdata) := by
  unfold State.mmAck
  repeat' (first | with_reducible assumption | (intro t; first | (with_reducible refine Kept.cut t ?_ ?_; unfold t) | beta_reduce | skip) | with_reducible apply State.decodeAnswer_kept | with_reducible apply State.injectAt_kept | with_reducible apply State.modRegion_kept | with_reducible apply Kept.ite | with_reducible apply Kept.fold | with_reducible apply Kept.fold2 | with_reducible apply Kept.fold1 | (lift_lets; intro t; first | (with_reducible refine Kept.cut t ?_ ?_; unfold t) | skip) | dsimp -zeta only | split | dsimp +zetaDelta only)

theorem execNapMmAck_kept {r₀ : State} (fd : Fin 8) (rgn_ : Fin 384) (err : Bool) (rdata : BitVec 64) (s : State) (h0 : Kept r₀ s) : KeptR r₀ (execNapMmAck fd rgn_ err rdata s) := by
  unfold execNapMmAck
  repeat' (first | with_reducible assumption | (intro t; first | (with_reducible refine Kept.cut t ?_ ?_; unfold t) | beta_reduce | skip) | with_reducible apply KeptR.next | with_reducible apply State.mmAck_kept | with_reducible apply State.when_kept | with_reducible apply Kept.ite | with_reducible apply KeptR.ite | with_reducible apply Kept.fold | with_reducible apply Kept.fold2 | with_reducible apply Kept.fold1 | (lift_lets; intro t; first | (with_reducible refine Kept.cut t ?_ ?_; unfold t) | skip) | dsimp -zeta only | split | dsimp +zetaDelta only)

theorem execNapMmTimeout_kept {r₀ : State} (fd : Fin 8) (rgn_ : Fin 384) (s : State) (h0 : Kept r₀ s) : KeptR r₀ (execNapMmTimeout fd rgn_ s) := by
  unfold execNapMmTimeout
  repeat' (first | with_reducible assumption | (intro t; first | (with_reducible refine Kept.cut t ?_ ?_; unfold t) | beta_reduce | skip) | with_reducible apply KeptR.next | with_reducible apply State.decodeAnswer_kept | with_reducible apply State.modRegion_kept | with_reducible apply State.raise_kept | with_reducible apply Kept.ite | with_reducible apply KeptR.ite | with_reducible apply Kept.fold | with_reducible apply Kept.fold2 | with_reducible apply Kept.fold1 | (lift_lets; intro t; first | (with_reducible refine Kept.cut t ?_ ?_; unfold t) | skip) | dsimp -zeta only | split | dsimp +zetaDelta only)

theorem execRegionClkSelWrite_kept {r₀ : State} (fd : Fin 8) (rgn_ : Fin 384) (sel : BitVec 4) (clearRej : Bool) (s : State) (h0 : Kept r₀ s) : KeptR r₀ (execRegionClkSelWrite fd rgn_ sel clearRej s) := by
  unfold execRegionClkSelWrite
  repeat' (first | with_reducible assumption | (intro t; first | (with_reducible refine Kept.cut t ?_ ?_; unfold t) | beta_reduce | skip) | with_reducible apply KeptR.next | with_reducible apply State.setR_kept | with_reducible apply State.touchRegion_kept | with_reducible apply Kept.ite | with_reducible apply KeptR.ite | with_reducible apply Kept.fold | with_reducible apply Kept.fold2 | with_reducible apply Kept.fold1 | (lift_lets; intro t; first | (with_reducible refine Kept.cut t ?_ ?_; unfold t) | skip) | dsimp -zeta only | split | dsimp +zetaDelta only)

theorem State.holdBorders_kept {r₀ : State} (s : State) (rg : Nat) (h0 : Kept r₀ s) : Kept r₀ (State.holdBorders s rg) := by
  unfold State.holdBorders
  repeat' (first | with_reducible assumption | (intro t; first | (with_reducible refine Kept.cut t ?_ ?_; unfold t) | beta_reduce | skip) | with_reducible apply State.modIc_kept | with_reducible apply State.modTio_kept | with_reducible apply Kept.ite | with_reducible apply Kept.fold | with_reducible apply Kept.fold2 | with_reducible apply Kept.fold1 | (lift_lets; intro t; first | (with_reducible refine Kept.cut t ?_ ?_; unfold t) | skip) | dsimp -zeta only | split | dsimp +zetaDelta only)

theorem State.completeTx_kept {r₀ : State} (s : State) (rg : Nat) (h0 : Kept r₀ s) : Kept r₀ (State.completeTx s rg) := by
  unfold State.completeTx
  repeat' (first | with_reducible assumption | (intro t; first | (with_reducible refine Kept.cut t ?_ ?_; unfold t) | beta_reduce | skip) | with_reducible apply State.modRegion_kept | with_reducible apply State.napSend_kept | with_reducible apply Kept.ite | with_reducible apply Kept.fold | with_reducible apply Kept.fold2 | with_reducible apply Kept.fold1 | (lift_lets; intro t; first | (with_reducible refine Kept.cut t ?_ ?_; unfold t) | skip) | dsimp -zeta only | split | dsimp +zetaDelta only)

theorem State.napClose_kept {r₀ : State} (s : State) (rg : Nat) (h0 : Kept r₀ s) : Kept r₀ (State.napClose s rg) := by
  unfold State.napClose
  repeat' (first | with_reducible assumption | (intro t; first | (with_reducible refine Kept.cut t ?_ ?_; unfold t) | beta_reduce | skip) | with_reducible apply State.closedPort_kept | with_reducible apply State.completeTx_kept | with_reducible apply State.decodeAnswer_kept | with_reducible apply State.modRegion_kept | with_reducible apply State.putInbox_kept | with_reducible apply Kept.ite | with_reducible apply Kept.fold | with_reducible apply Kept.fold2 | with_reducible apply Kept.fold1 | (lift_lets; intro t; first | (with_reducible refine Kept.cut t ?_ ?_; unfold t) | skip) | dsimp -zeta only | split | dsimp +zetaDelta only)

theorem State.fabLine_kept {r₀ : State} (s : State) (fd i : Nat) (h0 : Kept r₀ s) : Kept r₀ (State.fabLine s fd i) := by
  unfold State.fabLine
  repeat' (first | with_reducible assumption | (intro t; first | (with_reducible refine Kept.cut t ?_ ?_; unfold t) | beta_reduce | skip) | with_reducible apply State.irqEdge_kept | with_reducible apply State.setR_kept | with_reducible apply Kept.ite | with_reducible apply Kept.fold | with_reducible apply Kept.fold2 | with_reducible apply Kept.fold1 | (lift_lets; intro t; first | (with_reducible refine Kept.cut t ?_ ?_; unfold t) | skip) | dsimp -zeta only | split | dsimp +zetaDelta only)

theorem State.fabLines_kept {r₀ : State} (s : State) (rg : Nat) (h0 : Kept r₀ s) : Kept r₀ (State.fabLines s rg) := by
  unfold State.fabLines
  repeat' (first | with_reducible assumption | (intro t; first | (with_reducible refine Kept.cut t ?_ ?_; unfold t) | beta_reduce | skip) | with_reducible apply State.fabLine_kept | with_reducible apply Kept.ite | with_reducible apply Kept.fold | with_reducible apply Kept.fold2 | with_reducible apply Kept.fold1 | (lift_lets; intro t; first | (with_reducible refine Kept.cut t ?_ ?_; unfold t) | skip) | dsimp -zeta only | split | dsimp +zetaDelta only)

theorem State.setCauses_kept {r₀ : State} (s : State) (rg : Nat) (l : List Nat) (h0 : Kept r₀ s) : Kept r₀ (State.setCauses s rg l) := by
  unfold State.setCauses
  repeat' (first | with_reducible assumption | (intro t; first | (with_reducible refine Kept.cut t ?_ ?_; unfold t) | beta_reduce | skip) | with_reducible apply State.fabLines_kept | with_reducible apply State.modRegion_kept | with_reducible apply State.setR_kept | with_reducible apply Kept.ite | with_reducible apply Kept.fold | with_reducible apply Kept.fold2 | with_reducible apply Kept.fold1 | (lift_lets; intro t; first | (with_reducible refine Kept.cut t ?_ ?_; unfold t) | skip) | dsimp -zeta only | split | dsimp +zetaDelta only)

theorem State.isolate_kept {r₀ : State} (s : State) (rg cause : Nat) (h0 : Kept r₀ s) : Kept r₀ (State.isolate s rg cause) := by
  unfold State.isolate
  repeat' (first | with_reducible assumption | (intro t; first | (with_reducible refine Kept.cut t ?_ ?_; unfold t) | beta_reduce | skip) | with_reducible apply State.dcqFlush_kept | with_reducible apply State.holdBorders_kept | with_reducible apply State.napClose_kept | with_reducible apply State.napPort_kept | with_reducible apply State.raise_kept | with_reducible apply State.setCauses_kept | with_reducible apply Kept.ite | with_reducible apply Kept.fold | with_reducible apply Kept.fold2 | with_reducible apply Kept.fold1 | (lift_lets; intro t; first | (with_reducible refine Kept.cut t ?_ ?_; unfold t) | skip) | dsimp -zeta only | split | with_reducible apply Map.sortedFrom_filter | with_reducible apply Map.wf_filter | dsimp +zetaDelta only)

theorem State.unisolate_kept {r₀ : State} (s : State) (rg cause : Nat) (h0 : Kept r₀ s) : Kept r₀ (State.unisolate s rg cause) := by
  unfold State.unisolate
  repeat' (first | with_reducible assumption | (intro t; first | (with_reducible refine Kept.cut t ?_ ?_; unfold t) | beta_reduce | skip) | with_reducible apply State.napPort_kept | with_reducible apply State.raise_kept | with_reducible apply State.setCauses_kept | with_reducible apply Kept.ite | with_reducible apply Kept.fold | with_reducible apply Kept.fold2 | with_reducible apply Kept.fold1 | (lift_lets; intro t; first | (with_reducible refine Kept.cut t ?_ ?_; unfold t) | skip) | dsimp -zeta only | split | with_reducible apply Map.sortedFrom_filter | with_reducible apply Map.wf_filter | dsimp +zetaDelta only)

theorem State.isoStart_kept {r₀ : State} (s : State) (rg : Nat) (h0 : Kept r₀ s) : Kept r₀ (State.isoStart s rg) := by
  unfold State.isoStart
  repeat' (first | with_reducible assumption | (intro t; first | (with_reducible refine Kept.cut t ?_ ?_; unfold t) | beta_reduce | skip) | with_reducible apply State.setR_kept | with_reducible apply Kept.ite | with_reducible apply Kept.fold | with_reducible apply Kept.fold2 | with_reducible apply Kept.fold1 | (lift_lets; intro t; first | (with_reducible refine Kept.cut t ?_ ?_; unfold t) | skip) | dsimp -zeta only | split | dsimp +zetaDelta only)

theorem State.isoEnd_kept {r₀ : State} (s : State) (rg st reason : Nat) (h0 : Kept r₀ s) : Kept r₀ (State.isoEnd s rg st reason) := by
  unfold State.isoEnd
  repeat' (first | with_reducible assumption | (intro t; first | (with_reducible refine Kept.cut t ?_ ?_; unfold t) | beta_reduce | skip) | with_reducible apply State.setR_kept | with_reducible apply Kept.ite | with_reducible apply Kept.fold | with_reducible apply Kept.fold2 | with_reducible apply Kept.fold1 | (lift_lets; intro t; first | (with_reducible refine Kept.cut t ?_ ?_; unfold t) | skip) | dsimp -zeta only | split | dsimp +zetaDelta only)

theorem State.isoWait_kept {r₀ : State} (s : State) (rg op : Nat) (h0 : Kept r₀ s) : Kept r₀ (State.isoWait s rg op) := by
  unfold State.isoWait
  repeat' (first | with_reducible assumption | (intro t; first | (with_reducible refine Kept.cut t ?_ ?_; unfold t) | beta_reduce | skip) | with_reducible apply State.setR_kept | with_reducible apply Kept.ite | with_reducible apply Kept.fold | with_reducible apply Kept.fold2 | with_reducible apply Kept.fold1 | (lift_lets; intro t; first | (with_reducible refine Kept.cut t ?_ ?_; unfold t) | skip) | dsimp -zeta only | split | dsimp +zetaDelta only)

theorem State.isoReq_kept {r₀ : State} (s : State) (rg : Nat) (h0 : Kept r₀ s) : Kept r₀ (State.isoReq s rg) := by
  unfold State.isoReq
  repeat' (first | with_reducible assumption | (intro t; first | (with_reducible refine Kept.cut t ?_ ?_; unfold t) | beta_reduce | skip) | with_reducible apply State.isoEnd_kept | with_reducible apply State.isoStart_kept | with_reducible apply State.isoWait_kept | with_reducible apply Kept.ite | with_reducible apply Kept.fold | with_reducible apply Kept.fold2 | with_reducible apply Kept.fold1 | (lift_lets; intro t; first | (with_reducible refine Kept.cut t ?_ ?_; unfold t) | skip) | dsimp -zeta only | split | dsimp +zetaDelta only)

theorem execFabRgnIsoReq_kept {r₀ : State} (fd : Fin 8) (rgn_ : Fin 384) (s : State) (h0 : Kept r₀ s) : KeptR r₀ (execFabRgnIsoReq fd rgn_ s) := by
  unfold execFabRgnIsoReq
  repeat' (first | with_reducible assumption | (intro t; first | (with_reducible refine Kept.cut t ?_ ?_; unfold t) | beta_reduce | skip) | with_reducible apply KeptR.next | with_reducible apply State.isoReq_kept | with_reducible apply State.touchRegion_kept | with_reducible apply Kept.ite | with_reducible apply KeptR.ite | with_reducible apply Kept.fold | with_reducible apply Kept.fold2 | with_reducible apply Kept.fold1 | (lift_lets; intro t; first | (with_reducible refine Kept.cut t ?_ ?_; unfold t) | skip) | dsimp -zeta only | split | dsimp +zetaDelta only)

theorem State.isoExit_kept {r₀ : State} (s : State) (rg : Nat) (h0 : Kept r₀ s) : Kept r₀ (State.isoExit s rg) := by
  unfold State.isoExit
  repeat' (first | with_reducible assumption | (intro t; first | (with_reducible refine Kept.cut t ?_ ?_; unfold t) | beta_reduce | skip) | with_reducible apply State.isoEnd_kept | with_reducible apply State.isoStart_kept | with_reducible apply State.isoWait_kept | with_reducible apply Kept.ite | with_reducible apply Kept.fold | with_reducible apply Kept.fold2 | with_reducible apply Kept.fold1 | (lift_lets; intro t; first | (with_reducible refine Kept.cut t ?_ ?_; unfold t) | skip) | dsimp -zeta only | split | dsimp +zetaDelta only)

theorem execFabRgnIsoExit_kept {r₀ : State} (fd : Fin 8) (rgn_ : Fin 384) (mode : Bool) (s : State) (h0 : Kept r₀ s) : KeptR r₀ (execFabRgnIsoExit fd rgn_ mode s) := by
  unfold execFabRgnIsoExit
  repeat' (first | with_reducible assumption | (intro t; first | (with_reducible refine Kept.cut t ?_ ?_; unfold t) | beta_reduce | skip) | with_reducible apply KeptR.next | with_reducible apply State.isoExit_kept | with_reducible apply State.setR_kept | with_reducible apply State.touchRegion_kept | with_reducible apply Kept.ite | with_reducible apply KeptR.ite | with_reducible apply Kept.fold | with_reducible apply Kept.fold2 | with_reducible apply Kept.fold1 | (lift_lets; intro t; first | (with_reducible refine Kept.cut t ?_ ?_; unfold t) | skip) | dsimp -zeta only | split | dsimp +zetaDelta only)

theorem State.isoAbort_kept {r₀ : State} (s : State) (rg : Nat) (h0 : Kept r₀ s) : Kept r₀ (State.isoAbort s rg) := by
  unfold State.isoAbort
  repeat' (first | with_reducible assumption | (intro t; first | (with_reducible refine Kept.cut t ?_ ?_; unfold t) | beta_reduce | skip) | with_reducible apply State.setR_kept | with_reducible apply Kept.ite | with_reducible apply Kept.fold | with_reducible apply Kept.fold2 | with_reducible apply Kept.fold1 | (lift_lets; intro t; first | (with_reducible refine Kept.cut t ?_ ?_; unfold t) | skip) | dsimp -zeta only | split | dsimp +zetaDelta only)

theorem execFabRgnIsoAbort_kept {r₀ : State} (fd : Fin 8) (rgn_ : Fin 384) (s : State) (h0 : Kept r₀ s) : KeptR r₀ (execFabRgnIsoAbort fd rgn_ s) := by
  unfold execFabRgnIsoAbort
  repeat' (first | with_reducible assumption | (intro t; first | (with_reducible refine Kept.cut t ?_ ?_; unfold t) | beta_reduce | skip) | with_reducible apply KeptR.next | with_reducible apply State.isoAbort_kept | with_reducible apply State.touchRegion_kept | with_reducible apply Kept.ite | with_reducible apply KeptR.ite | with_reducible apply Kept.fold | with_reducible apply Kept.fold2 | with_reducible apply Kept.fold1 | (lift_lets; intro t; first | (with_reducible refine Kept.cut t ?_ ?_; unfold t) | skip) | dsimp -zeta only | split | dsimp +zetaDelta only)

theorem State.reconfigBreach_kept {r₀ : State} (s : State) (rg : Nat) (h0 : Kept r₀ s) : Kept r₀ (State.reconfigBreach s rg) := by
  unfold State.reconfigBreach
  repeat' (first | with_reducible assumption | (intro t; first | (with_reducible refine Kept.cut t ?_ ?_; unfold t) | beta_reduce | skip) | with_reducible apply State.thymeBreach_kept | with_reducible apply Kept.ite | with_reducible apply Kept.fold | with_reducible apply Kept.fold2 | with_reducible apply Kept.fold1 | (lift_lets; intro t; first | (with_reducible refine Kept.cut t ?_ ?_; unfold t) | skip) | dsimp -zeta only | split | dsimp +zetaDelta only)

theorem execIsolationCommit_kept {r₀ : State} (fd : Fin 8) (rgn_ : Fin 384) (s : State) (h0 : Kept r₀ s) : KeptR r₀ (execIsolationCommit fd rgn_ s) := by
  unfold execIsolationCommit
  repeat' (first | with_reducible assumption | (intro t; first | (with_reducible refine Kept.cut t ?_ ?_; unfold t) | beta_reduce | skip) | with_reducible apply KeptR.next | with_reducible apply State.isolate_kept | with_reducible apply State.markCommit_kept | with_reducible apply State.modRegion_kept | with_reducible apply State.reconfigBreach_kept | with_reducible apply State.setR_kept | with_reducible apply Kept.ite | with_reducible apply KeptR.ite | with_reducible apply Kept.fold | with_reducible apply Kept.fold2 | with_reducible apply Kept.fold1 | (lift_lets; intro t; first | (with_reducible refine Kept.cut t ?_ ?_; unfold t) | skip) | dsimp -zeta only | split | with_reducible apply Map.sortedFrom_filter | with_reducible apply Map.wf_filter | dsimp +zetaDelta only)

theorem State.holdRegion_kept {r₀ : State} (s : State) (rg : Nat) (h0 : Kept r₀ s) : Kept r₀ (State.holdRegion s rg) := by
  unfold State.holdRegion
  repeat' (first | with_reducible assumption | (intro t; first | (with_reducible refine Kept.cut t ?_ ?_; unfold t) | beta_reduce | skip) | with_reducible apply State.holdBorders_kept | with_reducible apply State.setR_kept | with_reducible apply State.modFab_kept | with_reducible apply Kept.ite | with_reducible apply Kept.fold | with_reducible apply Kept.fold2 | with_reducible apply Kept.fold1 | (lift_lets; intro t; first | (with_reducible refine Kept.cut t ?_ ?_; unfold t) | skip) | dsimp -zeta only | split | dsimp +zetaDelta only)

theorem State.restoreRam_kept {r₀ : State} (s : State) (p : Nat → Bool) (h0 : Kept r₀ s) : Kept r₀ (State.restoreRam s p) := by
  unfold State.restoreRam
  repeat' (first | with_reducible assumption | (intro t; first | (with_reducible refine Kept.cut t ?_ ?_; unfold t) | beta_reduce | skip) | with_reducible apply State.modFab_kept | with_reducible apply Kept.ite | with_reducible apply Kept.fold | with_reducible apply Kept.fold2 | with_reducible apply Kept.fold1 | (lift_lets; intro t; first | (with_reducible refine Kept.cut t ?_ ?_; unfold t) | skip) | dsimp -zeta only | split | with_reducible apply Map.sortedFrom_filter | with_reducible apply Map.wf_filter | dsimp +zetaDelta only)

theorem State.endIsolation_kept {r₀ : State} (s : State) (rg cause : Nat) (h0 : Kept r₀ s) : Kept r₀ (State.endIsolation s rg cause) := by
  unfold State.endIsolation
  repeat' (first | with_reducible assumption | (intro t; first | (with_reducible refine Kept.cut t ?_ ?_; unfold t) | beta_reduce | skip) | with_reducible apply State.raise_kept | with_reducible apply State.unisolate_kept | with_reducible apply Kept.ite | with_reducible apply Kept.fold | with_reducible apply Kept.fold2 | with_reducible apply Kept.fold1 | (lift_lets; intro t; first | (with_reducible refine Kept.cut t ?_ ?_; unfold t) | skip) | dsimp -zeta only | split | dsimp +zetaDelta only)

theorem State.startFfs_kept {r₀ : State} (s : State) (rg : Nat) (h0 : Kept r₀ s) : Kept r₀ (State.startFfs s rg) := by
  unfold State.startFfs
  repeat' (first | with_reducible assumption | (intro t; first | (with_reducible refine Kept.cut t ?_ ?_; unfold t) | beta_reduce | skip) | with_reducible apply State.asyncSettle_kept | with_reducible apply State.setR_kept | with_reducible apply State.modFab_kept | with_reducible apply Kept.ite | with_reducible apply Kept.fold | with_reducible apply Kept.fold2 | with_reducible apply Kept.fold1 | (lift_lets; intro t; first | (with_reducible refine Kept.cut t ?_ ?_; unfold t) | skip) | dsimp -zeta only | split | dsimp +zetaDelta only)

theorem State.regionStep_kept {r₀ : State} (s : State) (rg step cause : Nat) (h0 : Kept r₀ s) : Kept r₀ (State.regionStep s rg step cause) := by
  unfold State.regionStep
  repeat' (first | with_reducible assumption | (intro t; first | (with_reducible refine Kept.cut t ?_ ?_; unfold t) | beta_reduce | skip) | with_reducible apply State.dcqFlush_kept | with_reducible apply State.endIsolation_kept | with_reducible apply State.holdRegion_kept | with_reducible apply State.setR_kept | with_reducible apply State.startFfs_kept | with_reducible apply Kept.ite | with_reducible apply Kept.fold | with_reducible apply Kept.fold2 | with_reducible apply Kept.fold1 | (lift_lets; intro t; first | (with_reducible refine Kept.cut t ?_ ?_; unfold t) | skip) | dsimp -zeta only | split | dsimp +zetaDelta only)

theorem State.askStep_kept {r₀ : State} (s : State) (rg step cause : Nat) (h0 : Kept r₀ s) : Kept r₀ (State.askStep s rg step cause) := by
  unfold State.askStep
  repeat' (first | with_reducible assumption | (intro t; first | (with_reducible refine Kept.cut t ?_ ?_; unfold t) | beta_reduce | skip) | with_reducible apply State.holdRegion_kept | with_reducible apply State.setR_kept | with_reducible apply Kept.ite | with_reducible apply Kept.fold | with_reducible apply Kept.fold2 | with_reducible apply Kept.fold1 | (lift_lets; intro t; first | (with_reducible refine Kept.cut t ?_ ?_; unfold t) | skip) | dsimp -zeta only | split | dsimp +zetaDelta only)

theorem State.regionSteps_kept {r₀ : State} (s : State) (rg : Nat) (h0 : Kept r₀ s) : Kept r₀ (State.regionSteps s rg) := by
  unfold State.regionSteps
  repeat' (first | with_reducible assumption | (intro t; first | (with_reducible refine Kept.cut t ?_ ?_; unfold t) | beta_reduce | skip) | with_reducible apply State.regionStep_kept | with_reducible apply State.setR_kept | with_reducible apply Kept.ite | with_reducible apply Kept.fold | with_reducible apply Kept.fold2 | with_reducible apply Kept.fold1 | (lift_lets; intro t; first | (with_reducible refine Kept.cut t ?_ ?_; unfold t) | skip) | dsimp -zeta only | split | dsimp +zetaDelta only)

theorem execIsolationExitCommit_kept {r₀ : State} (fd : Fin 8) (rgn_ : Fin 384) (s : State) (h0 : Kept r₀ s) : KeptR r₀ (execIsolationExitCommit fd rgn_ s) := by
  unfold execIsolationExitCommit
  repeat' (first | with_reducible assumption | (intro t; first | (with_reducible refine Kept.cut t ?_ ?_; unfold t) | beta_reduce | skip) | with_reducible apply KeptR.next | with_reducible apply State.holdRegion_kept | with_reducible apply State.markCommit_kept | with_reducible apply State.restoreRam_kept | with_reducible apply State.setR_kept | with_reducible apply State.unisolate_kept | with_reducible apply State.modFab_kept | with_reducible apply Kept.ite | with_reducible apply KeptR.ite | with_reducible apply Kept.fold | with_reducible apply Kept.fold2 | with_reducible apply Kept.fold1 | (lift_lets; intro t; first | (with_reducible refine Kept.cut t ?_ ?_; unfold t) | skip) | dsimp -zeta only | split | dsimp +zetaDelta only)

end Sys2Proof.Machine
end

