-- ==== Sys2Proof/Laws/Kept/Addr.lean ====
section
/-!
SUPPORT. Every operation of Machine/Addr.lean leaves the queue and keeps the tables in canonical form.
-/

set_option linter.unreachableTactic false
set_option linter.unusedTactic false
set_option linter.unusedVariables false

namespace Sys2Proof.Machine

theorem State.sendRead_kept {r₀ : State} (s : State) (src addr size prio tag : Nat) (flow : Option Nat) (h0 : Kept r₀ s) : Kept r₀ (State.sendRead s src addr size prio tag flow).1 := by
  unfold State.sendRead
  repeat' (first | with_reducible assumption | (intro t; first | (with_reducible refine Kept.cut t ?_ ?_; unfold t) | beta_reduce | skip) | with_reducible apply State.ingress_kept | with_reducible apply State.raise_kept | with_reducible apply Kept.ite | with_reducible apply Kept.fold | with_reducible apply Kept.fold2 | with_reducible apply Kept.fold1 | (lift_lets; intro t; first | (with_reducible refine Kept.cut t ?_ ?_; unfold t) | skip) | dsimp -zeta only | split | dsimp +zetaDelta only)

theorem State.sendWrite_kept {r₀ : State} (s : State) (src addr size data prio tag : Nat) (flow : Option Nat) (poison : Bool) (h0 : Kept r₀ s) : Kept r₀ (State.sendWrite s src addr size data prio tag flow poison).1 := by
  unfold State.sendWrite
  repeat' (first | with_reducible assumption | (intro t; first | (with_reducible refine Kept.cut t ?_ ?_; unfold t) | beta_reduce | skip) | with_reducible apply State.ingress_kept | with_reducible apply State.raise_kept | with_reducible apply Kept.ite | with_reducible apply Kept.fold | with_reducible apply Kept.fold2 | with_reducible apply Kept.fold1 | (lift_lets; intro t; first | (with_reducible refine Kept.cut t ?_ ?_; unfold t) | skip) | dsimp -zeta only | split | dsimp +zetaDelta only)

end Sys2Proof.Machine
end

