-- ==== Sys2Proof/Laws/Kept/MspState.lean ====
section
/-!
SUPPORT. Every operation of Machine/MspState.lean leaves the queue and keeps the tables in canonical form.
-/

set_option linter.unreachableTactic false
set_option linter.unusedTactic false
set_option linter.unusedVariables false

namespace Sys2Proof.Machine

theorem State.modMspx_kept {r₀ : State} (s : State) (m : Nat) (f : Msp → Msp) (h0 : Kept r₀ s) : Kept r₀ (State.modMspx s m f) := by
  unfold State.modMspx
  repeat' (first | with_reducible assumption | (intro t; first | (with_reducible refine Kept.cut t ?_ ?_; unfold t) | beta_reduce | skip) | with_reducible apply State.modMsp_kept | with_reducible apply Kept.ite | with_reducible apply Kept.fold | with_reducible apply Kept.fold2 | with_reducible apply Kept.fold1 | (lift_lets; intro t; first | (with_reducible refine Kept.cut t ?_ ?_; unfold t) | skip) | dsimp -zeta only | split | dsimp +zetaDelta only)

theorem State.mspCycles_kept {r₀ : State} (s : State) (m n : Nat) (h0 : Kept r₀ s) : Kept r₀ (State.mspCycles s m n) := by
  unfold State.mspCycles
  repeat' (first | with_reducible assumption | (intro t; first | (with_reducible refine Kept.cut t ?_ ?_; unfold t) | beta_reduce | skip) | with_reducible apply State.wrapAdd_kept | with_reducible apply Kept.ite | with_reducible apply Kept.fold | with_reducible apply Kept.fold2 | with_reducible apply Kept.fold1 | (lift_lets; intro t; first | (with_reducible refine Kept.cut t ?_ ?_; unfold t) | skip) | dsimp -zeta only | split | dsimp +zetaDelta only)

theorem State.mspLose_kept {r₀ : State} (s : State) (m bound : Nat) (h0 : Kept r₀ s) : Kept r₀ (State.mspLose s m bound) := by
  unfold State.mspLose
  repeat' (first | with_reducible assumption | (intro t; first | (with_reducible refine Kept.cut t ?_ ?_; unfold t) | beta_reduce | skip) | with_reducible apply State.draw_kept | with_reducible apply State.mspCycles_kept | with_reducible apply State.satAdd_kept | with_reducible apply Kept.ite | with_reducible apply Kept.fold | with_reducible apply Kept.fold2 | with_reducible apply Kept.fold1 | (lift_lets; intro t; first | (with_reducible refine Kept.cut t ?_ ?_; unfold t) | skip) | dsimp -zeta only | split | dsimp +zetaDelta only)

theorem State.mspLoseUnit_kept {r₀ : State} (s : State) (unit bound : Nat) (h0 : Kept r₀ s) : Kept r₀ (State.mspLoseUnit s unit bound) := by
  unfold State.mspLoseUnit
  repeat' (first | with_reducible assumption | (intro t; first | (with_reducible refine Kept.cut t ?_ ?_; unfold t) | beta_reduce | skip) | with_reducible apply State.mspLose_kept | with_reducible apply Kept.ite | with_reducible apply Kept.fold | with_reducible apply Kept.fold2 | with_reducible apply Kept.fold1 | (lift_lets; intro t; first | (with_reducible refine Kept.cut t ?_ ?_; unfold t) | skip) | dsimp -zeta only | split | dsimp +zetaDelta only)

end Sys2Proof.Machine
end

