-- ==== Sys2Proof/Laws/Kept/OnChip.lean ====
section
/-!
SUPPORT. Every operation of Machine/OnChip.lean leaves the queue and keeps the tables in canonical form.
-/

set_option linter.unreachableTactic false
set_option linter.unusedTactic false
set_option linter.unusedVariables false

namespace Sys2Proof.Machine

theorem State.readWords_kept {r₀ : State} (s : State) (a n req : Nat) (up : Option Upset) (h0 : Kept r₀ s) : Kept r₀ (State.readWords s a n req up).2 := by
  unfold State.readWords
  repeat' (first | with_reducible assumption | (intro t; first | (with_reducible refine Kept.cut t ?_ ?_; unfold t) | beta_reduce | skip) | with_reducible apply State.readWord_kept | with_reducible apply Kept.ite | with_reducible apply Kept.fold | with_reducible apply Kept.fold2 | with_reducible apply Kept.fold1 | (lift_lets; intro t; first | (with_reducible refine Kept.cut t ?_ ?_; unfold t) | skip) | dsimp -zeta only | split | dsimp +zetaDelta only)

theorem State.writeWords_kept {r₀ : State} (s : State) (a bytes data req : Nat) (poisonAt : Nat → Bool) (win : Nat) (h0 : Kept r₀ s) : Kept r₀ (State.writeWords s a bytes data req poisonAt win) := by
  unfold State.writeWords
  repeat' (first | with_reducible assumption | (intro t; first | (with_reducible refine Kept.cut t ?_ ?_; unfold t) | beta_reduce | skip) | with_reducible apply State.writeWord_kept | with_reducible apply Kept.ite | with_reducible apply Kept.fold | with_reducible apply Kept.fold2 | with_reducible apply Kept.fold1 | (lift_lets; intro t; first | (with_reducible refine Kept.cut t ?_ ?_; unfold t) | skip) | dsimp -zeta only | split | dsimp +zetaDelta only)

theorem State.memAnswer_kept {r₀ : State} (s : State) (e a win : Nat) (p : Packet) (up : Option Upset) (h0 : Kept r₀ s) : Kept r₀ (State.memAnswer s e a win p up) := by
  unfold State.memAnswer
  repeat' (first | with_reducible assumption | (intro t; first | (with_reducible refine Kept.cut t ?_ ?_; unfold t) | beta_reduce | skip) | with_reducible apply State.injectAt_kept | with_reducible apply State.readWords_kept | with_reducible apply State.writeWords_kept | with_reducible apply Kept.ite | with_reducible apply Kept.fold | with_reducible apply Kept.fold2 | with_reducible apply Kept.fold1 | (lift_lets; intro t; first | (with_reducible refine Kept.cut t ?_ ?_; unfold t) | skip) | dsimp -zeta only | split | dsimp +zetaDelta only)

theorem State.spdTouch_kept {r₀ : State} (s : State) (a n : Nat) (h0 : Kept r₀ s) : Kept r₀ (State.spdTouch s a n) := by
  unfold State.spdTouch
  repeat' (first | with_reducible assumption | (intro t; first | (with_reducible refine Kept.cut t ?_ ?_; unfold t) | beta_reduce | skip) | with_reducible apply State.midTouch_kept | with_reducible apply Kept.ite | with_reducible apply Kept.fold | with_reducible apply Kept.fold2 | with_reducible apply Kept.fold1 | (lift_lets; intro t; first | (with_reducible refine Kept.cut t ?_ ?_; unfold t) | skip) | dsimp -zeta only | split | dsimp +zetaDelta only)

theorem State.spdDeny_kept {r₀ : State} (s : State) (bank req addr : Nat) (ownWr : Bool) (h0 : Kept r₀ s) : Kept r₀ (State.spdDeny s bank req addr ownWr) := by
  unfold State.spdDeny
  repeat' (first | with_reducible assumption | (intro t; first | (with_reducible refine Kept.cut t ?_ ?_; unfold t) | beta_reduce | skip) | with_reducible apply State.raise_kept | with_reducible apply State.satAdd_kept | with_reducible apply State.setR_kept | with_reducible apply Kept.ite | with_reducible apply Kept.fold | with_reducible apply Kept.fold2 | with_reducible apply Kept.fold1 | (lift_lets; intro t; first | (with_reducible refine Kept.cut t ?_ ?_; unfold t) | skip) | dsimp -zeta only | split | dsimp +zetaDelta only)

theorem State.spdServe_kept {r₀ : State} (s : State) (r : MemReq) (up : Option Upset) (h0 : Kept r₀ s) : Kept r₀ (State.spdServe s r up) := by
  unfold State.spdServe
  repeat' (first | with_reducible assumption | (intro t; first | (with_reducible refine Kept.cut t ?_ ?_; unfold t) | beta_reduce | skip) | with_reducible apply State.coreTakes_kept | with_reducible apply State.readWords_kept | with_reducible apply State.respond_kept | with_reducible apply State.strike_kept | with_reducible apply State.writeWords_kept | with_reducible apply Kept.ite | with_reducible apply Kept.fold | with_reducible apply Kept.fold2 | with_reducible apply Kept.fold1 | (lift_lets; intro t; first | (with_reducible refine Kept.cut t ?_ ?_; unfold t) | skip) | dsimp -zeta only | split | dsimp +zetaDelta only)

theorem State.spdAccess_kept {r₀ : State} (s : State) (r : MemReq) (up : Option Upset) (h0 : Kept r₀ s) : Kept r₀ (State.spdAccess s r up) := by
  unfold State.spdAccess
  repeat' (first | with_reducible assumption | (intro t; first | (with_reducible refine Kept.cut t ?_ ?_; unfold t) | beta_reduce | skip) | with_reducible apply State.coreTakes_kept | with_reducible apply State.decodeError_kept | with_reducible apply State.respond_kept | with_reducible apply State.spdDeny_kept | with_reducible apply State.spdServe_kept | with_reducible apply State.spdTouch_kept | with_reducible apply State.modChip_kept | (with_reducible refine State.dawnGuard_kept ?_ (by assumption)) | with_reducible apply Kept.ite | with_reducible apply Kept.fold | with_reducible apply Kept.fold2 | with_reducible apply Kept.fold1 | (lift_lets; intro t; first | (with_reducible refine Kept.cut t ?_ ?_; unfold t) | skip) | dsimp -zeta only | split | dsimp +zetaDelta only)

theorem execSpdAccess_kept {r₀ : State} (r : MemReq) (upset : Option Upset) (s : State) (h0 : Kept r₀ s) : KeptR r₀ (execSpdAccess r upset s) := by
  unfold execSpdAccess
  repeat' (first | with_reducible assumption | (intro t; first | (with_reducible refine Kept.cut t ?_ ?_; unfold t) | beta_reduce | skip) | with_reducible apply KeptR.next | with_reducible apply State.spdAccess_kept | with_reducible apply Kept.ite | with_reducible apply KeptR.ite | with_reducible apply Kept.fold | with_reducible apply Kept.fold2 | with_reducible apply Kept.fold1 | (lift_lets; intro t; first | (with_reducible refine Kept.cut t ?_ ?_; unfold t) | skip) | dsimp -zeta only | split | dsimp +zetaDelta only)

theorem execSpdAliasUpdate_kept {r₀ : State} (r : MemReq) (upset : Option Upset) (s : State) (h0 : Kept r₀ s) : KeptR r₀ (execSpdAliasUpdate r upset s) := by
  unfold execSpdAliasUpdate
  repeat' (first | with_reducible assumption | (intro t; first | (with_reducible refine Kept.cut t ?_ ?_; unfold t) | beta_reduce | skip) | with_reducible apply KeptR.next | with_reducible apply State.spdAccess_kept | with_reducible apply Kept.ite | with_reducible apply KeptR.ite | with_reducible apply Kept.fold | with_reducible apply Kept.fold2 | with_reducible apply Kept.fold1 | (lift_lets; intro t; first | (with_reducible refine Kept.cut t ?_ ?_; unfold t) | skip) | dsimp -zeta only | split | dsimp +zetaDelta only)

theorem State.spdPacket_kept {r s t : State} {e : Nat} {p : Packet} (h : Kept r s) (q : s.spdPacket e p = some t) : Kept r t := by
  unfold State.spdPacket at q
  split at q
  · cases q; exact State.injectAt_kept _ _ _ (State.dawnGuard_kept h (by assumption))
  · split at q
    · cases q; exact State.decodeAnswer_kept _ _ _ h
    · cases q
    · cases q; exact State.injectAt_kept _ _ _ (State.spdDeny_kept _ _ _ _ _ (State.spdTouch_kept _ _ _ h))
    · cases q; exact State.memAnswer_kept _ _ _ _ _ _ (State.spdTouch_kept _ _ _ h)

theorem execSpdOwnWrite_kept {r₀ : State} (bd : Fin 4) (bank : Fin 64) (ep : BitVec 16) (req : BitVec 16) (s : State) (h0 : Kept r₀ s) : KeptR r₀ (execSpdOwnWrite bd bank ep req s) := by
  unfold execSpdOwnWrite
  repeat' (first | with_reducible assumption | (intro t; first | (with_reducible refine Kept.cut t ?_ ?_; unfold t) | beta_reduce | skip) | with_reducible apply KeptR.next | with_reducible apply State.midTouch_kept | with_reducible apply State.respond_kept | with_reducible apply State.setR_kept | with_reducible apply State.spdDeny_kept | with_reducible apply Kept.ite | with_reducible apply KeptR.ite | with_reducible apply Kept.fold | with_reducible apply Kept.fold2 | with_reducible apply Kept.fold1 | (lift_lets; intro t; first | (with_reducible refine Kept.cut t ?_ ?_; unfold t) | skip) | dsimp -zeta only | split | dsimp +zetaDelta only)

theorem State.modCopy_kept {r₀ : State} (s : State) (k : Nat) (f : CopyCh → CopyCh) (h0 : Kept r₀ s) : Kept r₀ (State.modCopy s k f) := by
  unfold State.modCopy
  repeat' (first | with_reducible assumption | (intro t; first | (with_reducible refine Kept.cut t ?_ ?_; unfold t) | beta_reduce | skip) | with_reducible apply State.modChip_kept | with_reducible apply Kept.ite | with_reducible apply Kept.fold | with_reducible apply Kept.fold2 | with_reducible apply Kept.fold1 | (lift_lets; intro t; first | (with_reducible refine Kept.cut t ?_ ?_; unfold t) | skip) | dsimp -zeta only | split | dsimp +zetaDelta only)

theorem State.copyFail_kept {r₀ : State} (s : State) (k err rstatus done eaddr : Nat) (h0 : Kept r₀ s) : Kept r₀ (State.copyFail s k err rstatus done eaddr) := by
  unfold State.copyFail
  repeat' (first | with_reducible assumption | (intro t; first | (with_reducible refine Kept.cut t ?_ ?_; unfold t) | beta_reduce | skip) | with_reducible apply State.cpySt_kept | with_reducible apply State.modCopy_kept | with_reducible apply State.raise_kept | with_reducible apply State.setR_kept | with_reducible apply Kept.ite | with_reducible apply Kept.fold | with_reducible apply Kept.fold2 | with_reducible apply Kept.fold1 | (lift_lets; intro t; first | (with_reducible refine Kept.cut t ?_ ?_; unfold t) | skip) | dsimp -zeta only | split | dsimp +zetaDelta only)

theorem copySent_kept {r : State} (x : State × Bool) (k i ra : Nat) (h : Kept r x.1) : Kept r (copySent x k i ra) := by
  unfold copySent
  split
  · exact State.modCopy_kept _ _ _ h
  · exact State.copyFail_kept _ _ _ _ _ _ h

theorem State.copyWrite_kept {r₀ : State} (s : State) (k i la : Nat) (ws : List Rd) (h0 : Kept r₀ s) : Kept r₀ (State.copyWrite s k i la ws) := by
  unfold State.copyWrite
  repeat' (first | with_reducible assumption | (intro t; first | (with_reducible refine Kept.cut t ?_ ?_; unfold t) | beta_reduce | skip) | with_reducible apply State.copyFail_kept | with_reducible apply State.sendWrite_kept | with_reducible apply copySent_kept | with_reducible apply Kept.ite | with_reducible apply Kept.fold | with_reducible apply Kept.fold2 | with_reducible apply Kept.fold1 | (lift_lets; intro t; first | (with_reducible refine Kept.cut t ?_ ?_; unfold t) | skip) | dsimp -zeta only | split | dsimp +zetaDelta only)

theorem State.copyOut_kept {r₀ : State} (s : State) (k i la n req : Nat) (h0 : Kept r₀ s) : Kept r₀ (State.copyOut s k i la n req) := by
  unfold State.copyOut
  repeat' (first | with_reducible assumption | (intro t; first | (with_reducible refine Kept.cut t ?_ ?_; unfold t) | beta_reduce | skip) | with_reducible apply State.copyFail_kept | with_reducible apply State.copyWrite_kept | with_reducible apply State.readWords_kept | with_reducible apply State.spdDeny_kept | with_reducible apply State.spdTouch_kept | with_reducible apply Kept.ite | with_reducible apply Kept.fold | with_reducible apply Kept.fold2 | with_reducible apply Kept.fold1 | (lift_lets; intro t; first | (with_reducible refine Kept.cut t ?_ ?_; unfold t) | skip) | dsimp -zeta only | split | dsimp +zetaDelta only)

theorem State.copyIssue_kept {r : State} (s : State) (k : Nat) (h : Kept r s) : Kept r (s.copyIssue k) := by
  have ho := fun i la n req => State.copyOut_kept (r₀ := r) s k i la n req h
  have hs := fun a b c d e f i ra => copySent_kept (s.sendRead a b c d e f) k i ra (State.sendRead_kept (r₀ := r) s a b c d e f h)
  unfold State.copyIssue
  split
  · exact ho _ _ _ _
  · exact hs _ _ _ _ _ _ _ _

theorem State.copyGo_kept {r₀ : State} (s : State) (k : Nat) (h0 : Kept r₀ s) : Kept r₀ (State.copyGo s k) := by
  unfold State.copyGo
  repeat' (first | with_reducible assumption | (intro t; first | (with_reducible refine Kept.cut t ?_ ?_; unfold t) | beta_reduce | skip) | with_reducible apply KeptR.next | with_reducible apply State.copyIssue_kept | with_reducible apply State.cpySt_kept | with_reducible apply State.setR_kept | with_reducible apply Kept.ite | with_reducible apply Kept.fold | with_reducible apply Kept.fold2 | with_reducible apply Kept.fold1 | (lift_lets; intro t; first | (with_reducible refine Kept.cut t ?_ ?_; unfold t) | skip) | dsimp -zeta only | split | dsimp +zetaDelta only)

theorem execSpdCopyStart_kept {r₀ : State} (bd : Fin 4) (c : Fin 8) (req : BitVec 16) (s : State) (h0 : Kept r₀ s) : KeptR r₀ (execSpdCopyStart bd c req s) := by
  unfold execSpdCopyStart
  repeat' (first | with_reducible assumption | (intro t; first | (with_reducible refine Kept.cut t ?_ ?_; unfold t) | beta_reduce | skip) | with_reducible apply KeptR.next | with_reducible apply State.copyGo_kept | with_reducible apply State.cpySt_kept | with_reducible apply State.modCopy_kept | with_reducible apply State.resetFields_kept | with_reducible apply State.setR_kept | with_reducible apply Kept.ite | with_reducible apply KeptR.ite | with_reducible apply Kept.fold | with_reducible apply Kept.fold2 | with_reducible apply Kept.fold1 | (lift_lets; intro t; first | (with_reducible refine Kept.cut t ?_ ?_; unfold t) | skip) | dsimp -zeta only | split | dsimp +zetaDelta only)

theorem execSpdCopyStop_kept {r₀ : State} (bd : Fin 4) (c : Fin 8) (s : State) (h0 : Kept r₀ s) : KeptR r₀ (execSpdCopyStop bd c s) := by
  unfold execSpdCopyStop
  repeat' (first | with_reducible assumption | (intro t; first | (with_reducible refine Kept.cut t ?_ ?_; unfold t) | beta_reduce | skip) | with_reducible apply KeptR.next | with_reducible apply State.copyGo_kept | with_reducible apply State.modCopy_kept | with_reducible apply State.when_kept | with_reducible apply Kept.ite | with_reducible apply KeptR.ite | with_reducible apply Kept.fold | with_reducible apply Kept.fold2 | with_reducible apply Kept.fold1 | (lift_lets; intro t; first | (with_reducible refine Kept.cut t ?_ ?_; unfold t) | skip) | dsimp -zeta only | split | dsimp +zetaDelta only)

theorem State.copyRead_kept {r s t : State} {k i : Nat} {p : Packet} (h : Kept r s) (q : s.copyRead k i p = some t) : Kept r t := by
  unfold State.copyRead at q
  dsimp only at q
  split at q
  · cases q
  · cases q; exact State.copyFail_kept _ _ _ _ _ _ (State.spdDeny_kept _ _ _ _ _ h)
  · cases q; exact State.copyFail_kept _ _ _ _ _ _ h
  · have hw : ∀ (l : List (Rd × Nat)) (u : State) (g : Rd × Nat → Nat) (v : Nat), Kept r u →
        Kept r (l.foldl (fun u e => u.writeWord (g e) v e.1.data) u) := fun l u g v hu =>
      Kept.fold (fun u e hu => State.writeWord_kept u _ _ _ _ _ _ hu) hu
    split at q
    · cases q; exact State.copyFail_kept _ _ _ _ _ _ (hw _ _ _ _ (State.spdTouch_kept _ _ _ h))
    · cases q; exact State.setR_kept _ _ _ _ (hw _ _ _ _ (State.spdTouch_kept _ _ _ h))

theorem execSpdCopyResponse_kept {r₀ : State} (bd : Fin 4) (c : Fin 8) (s : State) (h0 : Kept r₀ s) : KeptR r₀ (execSpdCopyResponse bd c s) := by
  unfold execSpdCopyResponse
  repeat' (first | with_reducible assumption | (intro t; first | (with_reducible refine Kept.cut t ?_ ?_; unfold t) | beta_reduce | skip) | with_reducible apply KeptR.next | with_reducible apply State.copyFail_kept | with_reducible apply State.copyGo_kept | with_reducible apply State.modCopy_kept | with_reducible apply State.putInbox_kept | with_reducible apply State.setR_kept | (with_reducible refine State.copyRead_kept ?_ (by assumption)) | with_reducible apply Kept.ite | with_reducible apply KeptR.ite | with_reducible apply Kept.fold | with_reducible apply Kept.fold2 | with_reducible apply Kept.fold1 | (lift_lets; intro t; first | (with_reducible refine Kept.cut t ?_ ?_; unfold t) | skip) | dsimp -zeta only | split | dsimp +zetaDelta only)

theorem State.spdResume_kept {r₀ : State} (s : State) (h0 : Kept r₀ s) : Kept r₀ (State.spdResume s) := by
  unfold State.spdResume
  repeat' (first | with_reducible assumption | (intro t; first | (with_reducible refine Kept.cut t ?_ ?_; unfold t) | beta_reduce | skip) | with_reducible apply State.spdAccess_kept | with_reducible apply State.modChip_kept | with_reducible apply Kept.ite | with_reducible apply Kept.fold | with_reducible apply Kept.fold2 | with_reducible apply Kept.fold1 | (lift_lets; intro t; first | (with_reducible refine Kept.cut t ?_ ?_; unfold t) | skip) | dsimp -zeta only | split | dsimp +zetaDelta only)

theorem State.spdRetry_kept {r₀ : State} (s : State) (e : Nat) (h0 : Kept r₀ s) : Kept r₀ (State.spdRetry s e) := by
  unfold State.spdRetry
  repeat' (first | with_reducible assumption | (intro t; first | (with_reducible refine Kept.cut t ?_ ?_; unfold t) | beta_reduce | skip) | with_reducible apply State.putInbox_kept | (with_reducible refine State.spdPacket_kept ?_ (by assumption)) | with_reducible apply Kept.ite | with_reducible apply Kept.fold | with_reducible apply Kept.fold2 | with_reducible apply Kept.fold1 | (lift_lets; intro t; first | (with_reducible refine Kept.cut t ?_ ?_; unfold t) | skip) | dsimp -zeta only | split | with_reducible apply Map.sortedFrom_filter | with_reducible apply Map.wf_filter | dsimp +zetaDelta only)

theorem execSpdHandoverCommit_kept {r₀ : State} (bd : Fin 4) (bank : Fin 64) (s : State) (h0 : Kept r₀ s) : KeptR r₀ (execSpdHandoverCommit bd bank s) := by
  unfold execSpdHandoverCommit
  repeat' (first | with_reducible assumption | (intro t; first | (with_reducible refine Kept.cut t ?_ ?_; unfold t) | beta_reduce | skip) | with_reducible apply KeptR.next | with_reducible apply State.copyGo_kept | with_reducible apply State.markCommit_kept | with_reducible apply State.setR_kept | with_reducible apply State.spdResume_kept | with_reducible apply State.spdRetry_kept | with_reducible apply Kept.ite | with_reducible apply KeptR.ite | with_reducible apply Kept.fold | with_reducible apply Kept.fold2 | with_reducible apply Kept.fold1 | (lift_lets; intro t; first | (with_reducible refine Kept.cut t ?_ ?_; unfold t) | skip) | dsimp -zeta only | split | dsimp +zetaDelta only)

theorem execSpdHandoverAbort_kept {r₀ : State} (bd : Fin 4) (bank : Fin 64) (req : BitVec 16) (s : State) (h0 : Kept r₀ s) : KeptR r₀ (execSpdHandoverAbort bd bank req s) := by
  unfold execSpdHandoverAbort
  repeat' (first | with_reducible assumption | (intro t; first | (with_reducible refine Kept.cut t ?_ ?_; unfold t) | beta_reduce | skip) | with_reducible apply KeptR.next | with_reducible apply State.copyGo_kept | with_reducible apply State.respond_kept | with_reducible apply State.setR_kept | with_reducible apply State.spdDeny_kept | with_reducible apply State.spdResume_kept | with_reducible apply State.spdRetry_kept | with_reducible apply Kept.ite | with_reducible apply KeptR.ite | with_reducible apply Kept.fold | with_reducible apply Kept.fold2 | with_reducible apply Kept.fold1 | (lift_lets; intro t; first | (with_reducible refine Kept.cut t ?_ ?_; unfold t) | skip) | dsimp -zeta only | split | dsimp +zetaDelta only)

theorem State.showSweeps_kept {r₀ : State} (s : State) (u : Nat) (h0 : Kept r₀ s) : Kept r₀ (State.showSweeps s u) := by
  unfold State.showSweeps
  repeat' (first | with_reducible assumption | (intro t; first | (with_reducible refine Kept.cut t ?_ ?_; unfold t) | beta_reduce | skip) | with_reducible apply State.setR_kept | with_reducible apply Kept.ite | with_reducible apply Kept.fold | with_reducible apply Kept.fold2 | with_reducible apply Kept.fold1 | (lift_lets; intro t; first | (with_reducible refine Kept.cut t ?_ ?_; unfold t) | skip) | dsimp -zeta only | split | with_reducible apply Map.sortedFrom_filter | with_reducible apply Map.wf_filter | dsimp +zetaDelta only)

theorem State.invalidate_kept {r : State} (s : State) (u : Nat) (h : Kept r s) : Kept r (s.invalidate u) :=
  State.showSweeps_kept _ _ (State.modChip_kept (State.modMem_kept h fun m hm => Map.wf_filter _ _ m hm))

theorem execSpdInv_kept {r₀ : State} (bd : Fin 4) (bank : Fin 64) (req : BitVec 16) (s : State) (h0 : Kept r₀ s) : KeptR r₀ (execSpdInv bd bank req s) := by
  unfold execSpdInv
  repeat' (first | with_reducible assumption | (intro t; first | (with_reducible refine Kept.cut t ?_ ?_; unfold t) | beta_reduce | skip) | with_reducible apply KeptR.next | with_reducible apply State.invalidate_kept | with_reducible apply State.respond_kept | with_reducible apply State.spdDeny_kept | with_reducible apply Kept.ite | with_reducible apply KeptR.ite | with_reducible apply Kept.fold | with_reducible apply Kept.fold2 | with_reducible apply Kept.fold1 | (lift_lets; intro t; first | (with_reducible refine Kept.cut t ?_ ?_; unfold t) | skip) | dsimp -zeta only | split | dsimp +zetaDelta only)

theorem execEccInv_kept {r₀ : State} (bd : Fin 4) (cls : BitVec 2) (unit : BitVec 7) (req : BitVec 16) (s : State) (h0 : Kept r₀ s) : KeptR r₀ (execEccInv bd cls unit req s) := by
  unfold execEccInv
  repeat' (first | with_reducible assumption | (intro t; first | (with_reducible refine Kept.cut t ?_ ?_; unfold t) | beta_reduce | skip) | with_reducible apply KeptR.next | with_reducible apply State.invalidate_kept | with_reducible apply State.respond_kept | with_reducible apply Kept.ite | with_reducible apply KeptR.ite | with_reducible apply Kept.fold | with_reducible apply Kept.fold2 | with_reducible apply Kept.fold1 | (lift_lets; intro t; first | (with_reducible refine Kept.cut t ?_ ?_; unfold t) | skip) | dsimp -zeta only | split | dsimp +zetaDelta only)

theorem execInvalidateSweepEnd_kept {r₀ : State} (unit : Nat) (s : State) (h0 : Kept r₀ s) : KeptR r₀ (execInvalidateSweepEnd unit s) := by
  unfold execInvalidateSweepEnd
  repeat' (first | with_reducible assumption | (intro t; first | (with_reducible refine Kept.cut t ?_ ?_; unfold t) | beta_reduce | skip) | with_reducible apply KeptR.next | with_reducible apply State.showSweeps_kept | with_reducible apply State.modChip_kept | with_reducible apply Kept.ite | with_reducible apply KeptR.ite | with_reducible apply Kept.fold | with_reducible apply Kept.fold2 | with_reducible apply Kept.fold1 | (lift_lets; intro t; first | (with_reducible refine Kept.cut t ?_ ?_; unfold t) | skip) | dsimp -zeta only | split | with_reducible apply Map.sortedFrom_filter | with_reducible apply Map.wf_filter | dsimp +zetaDelta only)

theorem State.repairWord_kept {r₀ : State} (s : State) (u w : Nat) (quiet : Bool) (h0 : Kept r₀ s) : Kept r₀ (State.repairWord s u w quiet) := by
  unfold State.repairWord
  repeat' (first | with_reducible assumption | (intro t; first | (with_reducible refine Kept.cut t ?_ ?_; unfold t) | beta_reduce | skip) | with_reducible apply State.memCe_kept | with_reducible apply State.memUe_kept | with_reducible apply State.putWord_kept | with_reducible apply Kept.ite | with_reducible apply Kept.fold | with_reducible apply Kept.fold2 | with_reducible apply Kept.fold1 | (lift_lets; intro t; first | (with_reducible refine Kept.cut t ?_ ?_; unfold t) | skip) | dsimp -zeta only | split | dsimp +zetaDelta only)

theorem execRepairQueueRewrite_kept {r₀ : State} (unit : Nat) (s : State) (h0 : Kept r₀ s) : KeptR r₀ (execRepairQueueRewrite unit s) := by
  unfold execRepairQueueRewrite
  repeat' (first | with_reducible assumption | (intro t; first | (with_reducible refine Kept.cut t ?_ ?_; unfold t) | beta_reduce | skip) | with_reducible apply KeptR.next | with_reducible apply State.mspLoseUnit_kept | with_reducible apply State.repairWord_kept | with_reducible apply State.rqDrop_kept | with_reducible apply Kept.ite | with_reducible apply KeptR.ite | with_reducible apply Kept.fold | with_reducible apply Kept.fold2 | with_reducible apply Kept.fold1 | (lift_lets; intro t; first | (with_reducible refine Kept.cut t ?_ ?_; unfold t) | skip) | dsimp -zeta only | split | dsimp +zetaDelta only)

theorem execScrubPassStart_kept {r₀ : State} (unit : Nat) (s : State) (h0 : Kept r₀ s) : KeptR r₀ (execScrubPassStart unit s) := by
  unfold execScrubPassStart
  repeat' (first | with_reducible assumption | (intro t; first | (with_reducible refine Kept.cut t ?_ ?_; unfold t) | beta_reduce | skip) | with_reducible apply KeptR.next | with_reducible apply State.raise_kept | with_reducible apply State.satAdd_kept | with_reducible apply State.modChip_kept | with_reducible apply Kept.ite | with_reducible apply KeptR.ite | with_reducible apply Kept.fold | with_reducible apply Kept.fold2 | with_reducible apply Kept.fold1 | (lift_lets; intro t; first | (with_reducible refine Kept.cut t ?_ ?_; unfold t) | skip) | dsimp -zeta only | split | dsimp +zetaDelta only)

theorem execScrubWordRead_kept {r₀ : State} (unit : Nat) (upset : Option Upset) (s : State) (h0 : Kept r₀ s) : KeptR r₀ (execScrubWordRead unit upset s) := by
  unfold execScrubWordRead
  repeat' (first | with_reducible assumption | (intro t; first | (with_reducible refine Kept.cut t ?_ ?_; unfold t) | beta_reduce | skip) | with_reducible apply KeptR.next | with_reducible apply State.mspLoseUnit_kept | with_reducible apply State.putWord_kept | with_reducible apply State.repairWord_kept | with_reducible apply State.wrapAdd_kept | with_reducible apply State.modChip_kept | with_reducible apply Kept.ite | with_reducible apply KeptR.ite | with_reducible apply Kept.fold | with_reducible apply Kept.fold2 | with_reducible apply Kept.fold1 | (lift_lets; intro t; first | (with_reducible refine Kept.cut t ?_ ?_; unfold t) | skip) | dsimp -zeta only | split | dsimp +zetaDelta only)

theorem State.fieldMap_kept {r₀ : State} (s : State) (u row spare : Nat) (h0 : Kept r₀ s) : Kept r₀ (State.fieldMap s u row spare).1 := by
  unfold State.fieldMap
  repeat' (first | with_reducible assumption | (intro t; first | (with_reducible refine Kept.cut t ?_ ?_; unfold t) | beta_reduce | skip) | with_reducible apply State.putWord_kept | with_reducible apply State.raise_kept | with_reducible apply State.spare_kept | with_reducible apply State.modChip_kept | with_reducible apply Kept.ite | with_reducible apply Kept.fold | with_reducible apply Kept.fold2 | with_reducible apply Kept.fold1 | (lift_lets; intro t; first | (with_reducible refine Kept.cut t ?_ ?_; unfold t) | skip) | dsimp -zeta only | split | dsimp +zetaDelta only)

theorem State.copyRowWord_kept {r₀ : State} (s : State) (u w : Nat) (h0 : Kept r₀ s) : Kept r₀ (State.copyRowWord s u w) := by
  unfold State.copyRowWord
  repeat' (first | with_reducible assumption | (intro t; first | (with_reducible refine Kept.cut t ?_ ?_; unfold t) | beta_reduce | skip) | with_reducible apply State.repairWord_kept | with_reducible apply State.rqDrop_kept | with_reducible apply Kept.ite | with_reducible apply Kept.fold | with_reducible apply Kept.fold2 | with_reducible apply Kept.fold1 | (lift_lets; intro t; first | (with_reducible refine Kept.cut t ?_ ?_; unfold t) | skip) | dsimp -zeta only | split | dsimp +zetaDelta only)

theorem execRowRemapCommit_kept {r₀ : State} (unit : Nat) (s : State) (h0 : Kept r₀ s) : KeptR r₀ (execRowRemapCommit unit s) := by
  unfold execRowRemapCommit
  repeat' (first | with_reducible assumption | (intro t; first | (with_reducible refine Kept.cut t ?_ ?_; unfold t) | beta_reduce | skip) | with_reducible apply KeptR.next | with_reducible apply State.copyRowWord_kept | with_reducible apply State.fieldMap_kept | with_reducible apply State.mspLoseUnit_kept | with_reducible apply State.raise_kept | with_reducible apply State.spare_kept | with_reducible apply State.modChip_kept | with_reducible apply Kept.ite | with_reducible apply KeptR.ite | with_reducible apply Kept.fold | with_reducible apply Kept.fold2 | with_reducible apply Kept.fold1 | (lift_lets; intro t; first | (with_reducible refine Kept.cut t ?_ ?_; unfold t) | skip) | dsimp -zeta only | split | with_reducible apply Map.sortedFrom_filter | with_reducible apply Map.wf_filter | dsimp +zetaDelta only)

theorem State.applyFieldMap_kept {r₀ : State} (s : State) (w : MemWord) (h0 : Kept r₀ s) : Kept r₀ (State.applyFieldMap s w) := by
  unfold State.applyFieldMap
  repeat' (first | with_reducible assumption | (intro t; first | (with_reducible refine Kept.cut t ?_ ?_; unfold t) | beta_reduce | skip) | with_reducible apply State.satAdd_kept | with_reducible apply State.modChip_kept | with_reducible apply Kept.ite | with_reducible apply Kept.fold | with_reducible apply Kept.fold2 | with_reducible apply Kept.fold1 | (lift_lets; intro t; first | (with_reducible refine Kept.cut t ?_ ?_; unfold t) | skip) | dsimp -zeta only | split | dsimp +zetaDelta only)

theorem State.applySparing_kept {r₀ : State} (s : State) (h0 : Kept r₀ s) : Kept r₀ (State.applySparing s) := by
  unfold State.applySparing
  repeat' (first | with_reducible assumption | (intro t; first | (with_reducible refine Kept.cut t ?_ ?_; unfold t) | beta_reduce | skip) | with_reducible apply State.applyFieldMap_kept | with_reducible apply State.modChip_kept | with_reducible apply Kept.ite | with_reducible apply Kept.fold | with_reducible apply Kept.fold2 | with_reducible apply Kept.fold1 | (lift_lets; intro t; first | (with_reducible refine Kept.cut t ?_ ?_; unfold t) | skip) | dsimp -zeta only | split | with_reducible apply Map.sortedFrom_filter | with_reducible apply Map.wf_filter | dsimp +zetaDelta only)

end Sys2Proof.Machine
end

