-- ==== Sys2Proof/Laws/Kept/Pcie.lean ====
section
/-!
SUPPORT. Every operation of Machine/Pcie.lean leaves the queue and keeps the tables in canonical form.
-/

set_option linter.unreachableTactic false
set_option linter.unusedTactic false
set_option linter.unusedVariables false

namespace Sys2Proof.Machine

theorem execPciePerstRise_kept {r₀ : State} (s : State) (h0 : Kept r₀ s) : KeptR r₀ (execPciePerstRise s) := by
  unfold execPciePerstRise
  repeat' (first | with_reducible assumption | (intro t; first | (with_reducible refine Kept.cut t ?_ ?_; unfold t) | beta_reduce | skip) | with_reducible apply KeptR.next | with_reducible apply State.modPcie_kept | with_reducible apply Kept.ite | with_reducible apply KeptR.ite | with_reducible apply Kept.fold | with_reducible apply Kept.fold2 | with_reducible apply Kept.fold1 | (lift_lets; intro t; first | (with_reducible refine Kept.cut t ?_ ?_; unfold t) | skip) | dsimp -zeta only | split | dsimp +zetaDelta only)

theorem execPcieLinkUp_kept {r₀ : State} (rate : Fin 6) (width : Fin 5) (flit : Bool) (degraded : Bool) (s : State) (h0 : Kept r₀ s) : KeptR r₀ (execPcieLinkUp rate width flit degraded s) := by
  unfold execPcieLinkUp
  repeat' (first | with_reducible assumption | (intro t; first | (with_reducible refine Kept.cut t ?_ ?_; unfold t) | beta_reduce | skip) | with_reducible apply KeptR.next | with_reducible apply State.raise_kept | with_reducible apply State.setEach_kept | with_reducible apply State.setR_kept | with_reducible apply Kept.ite | with_reducible apply KeptR.ite | with_reducible apply Kept.fold | with_reducible apply Kept.fold2 | with_reducible apply Kept.fold1 | (lift_lets; intro t; first | (with_reducible refine Kept.cut t ?_ ?_; unfold t) | skip) | dsimp -zeta only | split | dsimp +zetaDelta only)

theorem execPcieConfigRequest_kept {r₀ : State} (func : Fin 34) (acc : CfgAccess) (s : State) (h0 : Kept r₀ s) : KeptR r₀ (execPcieConfigRequest func acc s) := by
  unfold execPcieConfigRequest
  repeat' (first | with_reducible assumption | (intro t; first | (with_reducible refine Kept.cut t ?_ ?_; unfold t) | beta_reduce | skip) | with_reducible apply KeptR.next | with_reducible apply State.msix_kept | with_reducible apply State.msixFlush_kept | with_reducible apply State.respond_kept | with_reducible apply State.modPcie_kept | with_reducible apply Kept.ite | with_reducible apply KeptR.ite | with_reducible apply Kept.fold | with_reducible apply Kept.fold2 | with_reducible apply Kept.fold1 | (lift_lets; intro t; first | (with_reducible refine Kept.cut t ?_ ?_; unfold t) | skip) | dsimp -zeta only | split | dsimp +zetaDelta only)

theorem State.completeParts_kept {r : State} (s : State) (l : List HostPart) (h : Kept r s) : Kept r (s.completeParts l).1 := by
  induction l generalizing s with
  | nil => exact h
  | cons p l ih =>
    unfold State.completeParts
    split
    · exact h
    · dsimp only
      have hc : ∀ c : Resp, Kept r ((s.modResp (fun _ => c)).modPcie (fun x => { x with cpls := x.cpls ++ [c] })) :=
        fun c => State.modPcie_kept (State.modResp_kept h)
      split
      · exact ih _ (hc _)
      · exact hc _

theorem State.completeReads_kept {r : State} (s : State) (h : Kept r s) : Kept r s.completeReads := by
  unfold State.completeReads
  exact State.modPcie_kept (Kept.fold1 (fun u a hu => State.completeParts_kept _ _ hu) h)

theorem State.sendPart_kept {r₀ : State} (s : State) (fn : Nat) (p : HostPart) (h0 : Kept r₀ s) : Kept r₀ (State.sendPart s fn p).1 := by
  unfold State.sendPart
  repeat' (first | with_reducible assumption | (intro t; first | (with_reducible refine Kept.cut t ?_ ?_; unfold t) | beta_reduce | skip) | with_reducible apply State.raise_kept | with_reducible apply State.sendRead_kept | with_reducible apply Kept.ite | with_reducible apply Kept.fold | with_reducible apply Kept.fold2 | with_reducible apply Kept.fold1 | (lift_lets; intro t; first | (with_reducible refine Kept.cut t ?_ ?_; unfold t) | skip) | dsimp -zeta only | split | dsimp +zetaDelta only)

theorem State.issueReads_kept {r₀ : State} (s : State) (h0 : Kept r₀ s) : Kept r₀ (State.issueReads s) := by
  unfold State.issueReads
  repeat' (first | with_reducible assumption | (intro t; first | (with_reducible refine Kept.cut t ?_ ?_; unfold t) | beta_reduce | skip) | with_reducible apply State.completeReads_kept | with_reducible apply State.sendPart_kept | with_reducible apply State.modPcie_kept | with_reducible apply Kept.ite | with_reducible apply Kept.fold | with_reducible apply Kept.fold2 | with_reducible apply Kept.fold1 | (lift_lets; intro t; first | (with_reducible refine Kept.cut t ?_ ?_; unfold t) | skip) | dsimp -zeta only | split | dsimp +zetaDelta only)

theorem State.windowRead_kept {r₀ : State} (s : State) (fn off bytes : Nat) (h0 : Kept r₀ s) : Kept r₀ (State.windowRead s fn off bytes) := by
  unfold State.windowRead
  repeat' (first | with_reducible assumption | (intro t; first | (with_reducible refine Kept.cut t ?_ ?_; unfold t) | beta_reduce | skip) | with_reducible apply State.issueReads_kept | with_reducible apply State.modPcie_kept | with_reducible apply Kept.ite | with_reducible apply Kept.fold | with_reducible apply Kept.fold2 | with_reducible apply Kept.fold1 | (lift_lets; intro t; first | (with_reducible refine Kept.cut t ?_ ?_; unfold t) | skip) | dsimp -zeta only | split | dsimp +zetaDelta only)

theorem State.putFailed_kept {r₀ : State} (s : State) (fn addr st : Nat) (h0 : Kept r₀ s) : Kept r₀ (State.putFailed s fn addr st) := by
  unfold State.putFailed
  repeat' (first | with_reducible assumption | (intro t; first | (with_reducible refine Kept.cut t ?_ ?_; unfold t) | beta_reduce | skip) | with_reducible apply State.raise_kept | with_reducible apply State.modPcie_kept | with_reducible apply Kept.ite | with_reducible apply Kept.fold | with_reducible apply Kept.fold2 | with_reducible apply Kept.fold1 | (lift_lets; intro t; first | (with_reducible refine Kept.cut t ?_ ?_; unfold t) | skip) | dsimp -zeta only | split | dsimp +zetaDelta only)

theorem State.sendPut_kept {r₀ : State} (s : State) (fn addr size data : Nat) (poison : Bool) (h0 : Kept r₀ s) : Kept r₀ (State.sendPut s fn addr size data poison) := by
  unfold State.sendPut
  repeat' (first | with_reducible assumption | (intro t; first | (with_reducible refine Kept.cut t ?_ ?_; unfold t) | beta_reduce | skip) | with_reducible apply State.putFailed_kept | with_reducible apply State.raise_kept | with_reducible apply State.sendWrite_kept | with_reducible apply State.modPcie_kept | with_reducible apply Kept.ite | with_reducible apply Kept.fold | with_reducible apply Kept.fold2 | with_reducible apply Kept.fold1 | (lift_lets; intro t; first | (with_reducible refine Kept.cut t ?_ ?_; unfold t) | skip) | dsimp -zeta only | split | dsimp +zetaDelta only)

theorem State.windowWrite_kept {r₀ : State} (s : State) (fn off bytes data : Nat) (poison : Bool) (h0 : Kept r₀ s) : Kept r₀ (State.windowWrite s fn off bytes data poison) := by
  unfold State.windowWrite
  repeat' (first | with_reducible assumption | (intro t; first | (with_reducible refine Kept.cut t ?_ ?_; unfold t) | beta_reduce | skip) | with_reducible apply State.raise_kept | with_reducible apply State.sendPut_kept | with_reducible apply State.modPcie_kept | with_reducible apply Kept.ite | with_reducible apply Kept.fold | with_reducible apply Kept.fold2 | with_reducible apply Kept.fold1 | (lift_lets; intro t; first | (with_reducible refine Kept.cut t ?_ ?_; unfold t) | skip) | dsimp -zeta only | split | dsimp +zetaDelta only)

theorem State.hostResponse_kept {r₀ : State} (s : State) (p : Packet) (h0 : Kept r₀ s) : Kept r₀ (State.hostResponse s p) := by
  unfold State.hostResponse
  repeat' (first | with_reducible assumption | (intro t; first | (with_reducible refine Kept.cut t ?_ ?_; unfold t) | beta_reduce | skip) | with_reducible apply State.completeReads_kept | with_reducible apply State.issueReads_kept | with_reducible apply State.putFailed_kept | with_reducible apply State.modPcie_kept | with_reducible apply Kept.ite | with_reducible apply Kept.fold | with_reducible apply Kept.fold2 | with_reducible apply Kept.fold1 | (lift_lets; intro t; first | (with_reducible refine Kept.cut t ?_ ?_; unfold t) | skip) | dsimp -zeta only | split | dsimp +zetaDelta only)

theorem execPcieDeviceResponse_kept {r₀ : State} (s : State) (h0 : Kept r₀ s) : KeptR r₀ (execPcieDeviceResponse s) := by
  unfold execPcieDeviceResponse
  repeat' (first | with_reducible assumption | (intro t; first | (with_reducible refine Kept.cut t ?_ ?_; unfold t) | beta_reduce | skip) | with_reducible apply KeptR.next | with_reducible apply State.hostResponse_kept | with_reducible apply State.issueReads_kept | with_reducible apply State.putInbox_kept | with_reducible apply State.modPcie_kept | with_reducible apply Kept.ite | with_reducible apply KeptR.ite | with_reducible apply Kept.fold | with_reducible apply Kept.fold2 | with_reducible apply Kept.fold1 | (lift_lets; intro t; first | (with_reducible refine Kept.cut t ?_ ?_; unfold t) | skip) | dsimp -zeta only | split | dsimp +zetaDelta only)

theorem State.modDma_kept {r₀ : State} (s : State) (c : Nat) (f : PcieDma → PcieDma) (h0 : Kept r₀ s) : Kept r₀ (State.modDma s c f) := by
  unfold State.modDma
  repeat' (first | with_reducible assumption | (intro t; first | (with_reducible refine Kept.cut t ?_ ?_; unfold t) | beta_reduce | skip) | with_reducible apply State.modPcie_kept | with_reducible apply Kept.ite | with_reducible apply Kept.fold | with_reducible apply Kept.fold2 | with_reducible apply Kept.fold1 | (lift_lets; intro t; first | (with_reducible refine Kept.cut t ?_ ?_; unfold t) | skip) | dsimp -zeta only | split | dsimp +zetaDelta only)

theorem State.dmaEnd_kept {r₀ : State} (s : State) (c st : Nat) (irq : Bool) (h0 : Kept r₀ s) : Kept r₀ (State.dmaEnd s c st irq) := by
  unfold State.dmaEnd
  repeat' (first | with_reducible assumption | (intro t; first | (with_reducible refine Kept.cut t ?_ ?_; unfold t) | beta_reduce | skip) | with_reducible apply State.irqEdge_kept | with_reducible apply State.modDma_kept | with_reducible apply State.msix_kept | with_reducible apply State.setR_kept | with_reducible apply Kept.ite | with_reducible apply Kept.fold | with_reducible apply Kept.fold2 | with_reducible apply Kept.fold1 | (lift_lets; intro t; first | (with_reducible refine Kept.cut t ?_ ?_; unfold t) | skip) | dsimp -zeta only | split | dsimp +zetaDelta only)

theorem State.dmaFail_kept {r₀ : State} (s : State) (c err : Nat) (h0 : Kept r₀ s) : Kept r₀ (State.dmaFail s c err) := by
  unfold State.dmaFail
  repeat' (first | with_reducible assumption | (intro t; first | (with_reducible refine Kept.cut t ?_ ?_; unfold t) | beta_reduce | skip) | with_reducible apply State.dmaEnd_kept | with_reducible apply State.raise_kept | with_reducible apply State.setR_kept | with_reducible apply Kept.ite | with_reducible apply Kept.fold | with_reducible apply Kept.fold2 | with_reducible apply Kept.fold1 | (lift_lets; intro t; first | (with_reducible refine Kept.cut t ?_ ?_; unfold t) | skip) | dsimp -zeta only | split | dsimp +zetaDelta only)

theorem State.dmaIssue_kept {r₀ : State} (s : State) (c : Nat) (h0 : Kept r₀ s) : Kept r₀ (State.dmaIssue s c) := by
  unfold State.dmaIssue
  repeat' (first | with_reducible assumption | (intro t; first | (with_reducible refine Kept.cut t ?_ ?_; unfold t) | beta_reduce | skip) | with_reducible apply KeptR.next | with_reducible apply State.modDma_kept | with_reducible apply State.sendRead_kept | with_reducible apply took_kept | with_reducible apply Kept.ite | with_reducible apply Kept.fold | with_reducible apply Kept.fold2 | with_reducible apply Kept.fold1 | (lift_lets; intro t; first | (with_reducible refine Kept.cut t ?_ ?_; unfold t) | skip) | dsimp -zeta only | split | dsimp +zetaDelta only)

theorem State.dmaPass_kept {r₀ : State} (s : State) (c : Nat) (h0 : Kept r₀ s) : Kept r₀ (State.dmaPass s c) := by
  unfold State.dmaPass
  repeat' (first | with_reducible assumption | (intro t; first | (with_reducible refine Kept.cut t ?_ ?_; unfold t) | beta_reduce | skip) | with_reducible apply State.dmaFail_kept | with_reducible apply State.modDma_kept | with_reducible apply State.sendWrite_kept | with_reducible apply State.setR_kept | with_reducible apply State.modPcie_kept | with_reducible apply Kept.ite | with_reducible apply Kept.fold | with_reducible apply Kept.fold2 | with_reducible apply Kept.fold1 | (lift_lets; intro t; first | (with_reducible refine Kept.cut t ?_ ?_; unfold t) | skip) | dsimp -zeta only | split | with_reducible apply Map.sortedFrom_filter | with_reducible apply Map.wf_filter | dsimp +zetaDelta only)

theorem State.dmaFinish_kept {r₀ : State} (s : State) (c : Nat) (h0 : Kept r₀ s) : Kept r₀ (State.dmaFinish s c) := by
  unfold State.dmaFinish
  repeat' (first | with_reducible assumption | (intro t; first | (with_reducible refine Kept.cut t ?_ ?_; unfold t) | beta_reduce | skip) | with_reducible apply State.dmaEnd_kept | with_reducible apply State.dmaFail_kept | with_reducible apply Kept.ite | with_reducible apply Kept.fold | with_reducible apply Kept.fold2 | with_reducible apply Kept.fold1 | (lift_lets; intro t; first | (with_reducible refine Kept.cut t ?_ ?_; unfold t) | skip) | dsimp -zeta only | split | dsimp +zetaDelta only)

theorem State.dmaGo_kept {r₀ : State} (s : State) (c : Nat) (h0 : Kept r₀ s) : Kept r₀ (State.dmaGo s c) := by
  unfold State.dmaGo
  repeat' (first | with_reducible assumption | (intro t; first | (with_reducible refine Kept.cut t ?_ ?_; unfold t) | beta_reduce | skip) | with_reducible apply State.dmaFinish_kept | with_reducible apply State.dmaIssue_kept | with_reducible apply State.dmaPass_kept | with_reducible apply Kept.ite | with_reducible apply Kept.fold | with_reducible apply Kept.fold2 | with_reducible apply Kept.fold1 | (lift_lets; intro t; first | (with_reducible refine Kept.cut t ?_ ?_; unfold t) | skip) | dsimp -zeta only | split | dsimp +zetaDelta only)

theorem execPcieDmaStart_kept {r₀ : State} (c : Fin 8) (req : BitVec 16) (s : State) (h0 : Kept r₀ s) : KeptR r₀ (execPcieDmaStart c req s) := by
  unfold execPcieDmaStart
  repeat' (first | with_reducible assumption | (intro t; first | (with_reducible refine Kept.cut t ?_ ?_; unfold t) | beta_reduce | skip) | with_reducible apply KeptR.next | with_reducible apply State.dmaGo_kept | with_reducible apply State.modDma_kept | with_reducible apply State.setR_kept | with_reducible apply Kept.ite | with_reducible apply KeptR.ite | with_reducible apply Kept.fold | with_reducible apply Kept.fold2 | with_reducible apply Kept.fold1 | (lift_lets; intro t; first | (with_reducible refine Kept.cut t ?_ ?_; unfold t) | skip) | dsimp -zeta only | split | dsimp +zetaDelta only)

theorem execPcieDmaStop_kept {r₀ : State} (c : Fin 8) (s : State) (h0 : Kept r₀ s) : KeptR r₀ (execPcieDmaStop c s) := by
  unfold execPcieDmaStop
  repeat' (first | with_reducible assumption | (intro t; first | (with_reducible refine Kept.cut t ?_ ?_; unfold t) | beta_reduce | skip) | with_reducible apply KeptR.next | with_reducible apply State.dmaGo_kept | with_reducible apply State.modDma_kept | with_reducible apply State.when_kept | with_reducible apply Kept.ite | with_reducible apply KeptR.ite | with_reducible apply Kept.fold | with_reducible apply Kept.fold2 | with_reducible apply Kept.fold1 | (lift_lets; intro t; first | (with_reducible refine Kept.cut t ?_ ?_; unfold t) | skip) | dsimp -zeta only | split | dsimp +zetaDelta only)

theorem State.dmaHostAnswer_kept {r₀ : State} (s : State) (c k err data : Nat) (h0 : Kept r₀ s) : Kept r₀ (State.dmaHostAnswer s c k err data) := by
  unfold State.dmaHostAnswer
  repeat' (first | with_reducible assumption | (intro t; first | (with_reducible refine Kept.cut t ?_ ?_; unfold t) | beta_reduce | skip) | with_reducible apply State.dmaGo_kept | with_reducible apply State.modDma_kept | with_reducible apply Kept.ite | with_reducible apply Kept.fold | with_reducible apply Kept.fold2 | with_reducible apply Kept.fold1 | (lift_lets; intro t; first | (with_reducible refine Kept.cut t ?_ ?_; unfold t) | skip) | dsimp -zeta only | split | with_reducible apply Map.sortedFrom_filter | with_reducible apply Map.wf_filter | dsimp +zetaDelta only)

theorem State.dmaDevice_kept {r₀ : State} (s : State) (c : Nat) (p : Packet) (h0 : Kept r₀ s) : Kept r₀ (State.dmaDevice s c p) := by
  unfold State.dmaDevice
  repeat' (first | with_reducible assumption | (intro t; first | (with_reducible refine Kept.cut t ?_ ?_; unfold t) | beta_reduce | skip) | with_reducible apply State.dmaFail_kept | with_reducible apply State.dmaGo_kept | with_reducible apply State.modDma_kept | with_reducible apply State.setR_kept | with_reducible apply Kept.ite | with_reducible apply Kept.fold | with_reducible apply Kept.fold2 | with_reducible apply Kept.fold1 | (lift_lets; intro t; first | (with_reducible refine Kept.cut t ?_ ?_; unfold t) | skip) | dsimp -zeta only | split | with_reducible apply Map.sortedFrom_filter | with_reducible apply Map.wf_filter | dsimp +zetaDelta only)

theorem execPcieDmaResponse_kept {r₀ : State} (c : Fin 8) (ev : DmaEvent) (s : State) (h0 : Kept r₀ s) : KeptR r₀ (execPcieDmaResponse c ev s) := by
  unfold execPcieDmaResponse
  repeat' (first | with_reducible assumption | (intro t; first | (with_reducible refine Kept.cut t ?_ ?_; unfold t) | beta_reduce | skip) | with_reducible apply KeptR.next | with_reducible apply State.dmaDevice_kept | with_reducible apply State.dmaHostAnswer_kept | with_reducible apply State.putInbox_kept | with_reducible apply Kept.ite | with_reducible apply KeptR.ite | with_reducible apply Kept.fold | with_reducible apply Kept.fold2 | with_reducible apply Kept.fold1 | (lift_lets; intro t; first | (with_reducible refine Kept.cut t ?_ ?_; unfold t) | skip) | dsimp -zeta only | split | dsimp +zetaDelta only)

theorem execCompletionTimeout_kept {r₀ : State} (c : Fin 8) (k : Fin 16) (s : State) (h0 : Kept r₀ s) : KeptR r₀ (execCompletionTimeout c k s) := by
  unfold execCompletionTimeout
  repeat' (first | with_reducible assumption | (intro t; first | (with_reducible refine Kept.cut t ?_ ?_; unfold t) | beta_reduce | skip) | with_reducible apply KeptR.next | with_reducible apply State.dmaHostAnswer_kept | with_reducible apply Kept.ite | with_reducible apply KeptR.ite | with_reducible apply Kept.fold | with_reducible apply Kept.fold2 | with_reducible apply Kept.fold1 | (lift_lets; intro t; first | (with_reducible refine Kept.cut t ?_ ?_; unfold t) | skip) | dsimp -zeta only | split | dsimp +zetaDelta only)

theorem State.dmaFlr_kept {r₀ : State} (s : State) (fn : Nat) (h0 : Kept r₀ s) : Kept r₀ (State.dmaFlr s fn) := by
  unfold State.dmaFlr
  repeat' (first | with_reducible assumption | (intro t; first | (with_reducible refine Kept.cut t ?_ ?_; unfold t) | beta_reduce | skip) | with_reducible apply State.dmaFinish_kept | with_reducible apply State.modDma_kept | with_reducible apply Kept.ite | with_reducible apply Kept.fold | with_reducible apply Kept.fold2 | with_reducible apply Kept.fold1 | (lift_lets; intro t; first | (with_reducible refine Kept.cut t ?_ ?_; unfold t) | skip) | dsimp -zeta only | split | dsimp +zetaDelta only)

theorem execPcieMsixTrigger_kept {r₀ : State} (func : BitVec 6) (vec : BitVec 6) (s : State) (h0 : Kept r₀ s) : KeptR r₀ (execPcieMsixTrigger func vec s) := by
  unfold execPcieMsixTrigger
  repeat' (first | with_reducible assumption | (intro t; first | (with_reducible refine Kept.cut t ?_ ?_; unfold t) | beta_reduce | skip) | with_reducible apply KeptR.next | with_reducible apply State.msix_kept | with_reducible apply Kept.ite | with_reducible apply KeptR.ite | with_reducible apply Kept.fold | with_reducible apply Kept.fold2 | with_reducible apply Kept.fold1 | (lift_lets; intro t; first | (with_reducible refine Kept.cut t ?_ ?_; unfold t) | skip) | dsimp -zeta only | split | dsimp +zetaDelta only)

theorem State.pcieLines_kept {r₀ : State} (s : State) (h0 : Kept r₀ s) : Kept r₀ (State.pcieLines s) := by
  unfold State.pcieLines
  repeat' (first | with_reducible assumption | (intro t; first | (with_reducible refine Kept.cut t ?_ ?_; unfold t) | beta_reduce | skip) | with_reducible apply State.irqLevel_kept | with_reducible apply Kept.ite | with_reducible apply Kept.fold | with_reducible apply Kept.fold2 | with_reducible apply Kept.fold1 | (lift_lets; intro t; first | (with_reducible refine Kept.cut t ?_ ?_; unfold t) | skip) | dsimp -zeta only | split | dsimp +zetaDelta only)

theorem execPcieDoorbell_kept {r₀ : State} (func : Fin 34) (s : State) (h0 : Kept r₀ s) : KeptR r₀ (execPcieDoorbell func s) := by
  unfold execPcieDoorbell
  repeat' (first | with_reducible assumption | (intro t; first | (with_reducible refine Kept.cut t ?_ ?_; unfold t) | beta_reduce | skip) | with_reducible apply KeptR.next | with_reducible apply State.pcieLines_kept | with_reducible apply State.setR_kept | with_reducible apply Kept.ite | with_reducible apply KeptR.ite | with_reducible apply Kept.fold | with_reducible apply Kept.fold2 | with_reducible apply Kept.fold1 | (lift_lets; intro t; first | (with_reducible refine Kept.cut t ?_ ?_; unfold t) | skip) | dsimp -zeta only | split | dsimp +zetaDelta only)

theorem execMbxH2dLenWrite_kept {r₀ : State} (len : BitVec 13) (s : State) (h0 : Kept r₀ s) : KeptR r₀ (execMbxH2dLenWrite len s) := by
  unfold execMbxH2dLenWrite
  repeat' (first | with_reducible assumption | (intro t; first | (with_reducible refine Kept.cut t ?_ ?_; unfold t) | beta_reduce | skip) | with_reducible apply KeptR.next | with_reducible apply State.pcieLines_kept | with_reducible apply State.setR_kept | with_reducible apply Kept.ite | with_reducible apply KeptR.ite | with_reducible apply Kept.fold | with_reducible apply Kept.fold2 | with_reducible apply Kept.fold1 | (lift_lets; intro t; first | (with_reducible refine Kept.cut t ?_ ?_; unfold t) | skip) | dsimp -zeta only | split | dsimp +zetaDelta only)

theorem execMbxD2hLenWrite_kept {r₀ : State} (len : BitVec 13) (s : State) (h0 : Kept r₀ s) : KeptR r₀ (execMbxD2hLenWrite len s) := by
  unfold execMbxD2hLenWrite
  repeat' (first | with_reducible assumption | (intro t; first | (with_reducible refine Kept.cut t ?_ ?_; unfold t) | beta_reduce | skip) | with_reducible apply KeptR.next | with_reducible apply State.msix_kept | with_reducible apply State.setR_kept | with_reducible apply Kept.ite | with_reducible apply KeptR.ite | with_reducible apply Kept.fold | with_reducible apply Kept.fold2 | with_reducible apply Kept.fold1 | (lift_lets; intro t; first | (with_reducible refine Kept.cut t ?_ ?_; unfold t) | skip) | dsimp -zeta only | split | dsimp +zetaDelta only)

end Sys2Proof.Machine
end

