-- ==== Sys2Proof/Laws/Kept/Control.lean ====
section
/-!
SUPPORT. Every operation of Machine/Control.lean leaves the queue and keeps the tables in canonical form.
-/

set_option linter.unreachableTactic false
set_option linter.unusedTactic false
set_option linter.unusedVariables false

namespace Sys2Proof.Machine

theorem State.mtip_kept {r₀ : State} (s : State) (n : Nat) (h0 : Kept r₀ s) : Kept r₀ (State.mtip s n) := by
  unfold State.mtip
  repeat' (first | with_reducible assumption | (intro t; first | (with_reducible refine Kept.cut t ?_ ?_; unfold t) | beta_reduce | skip) | with_reducible apply State.setR_kept | with_reducible apply Kept.ite | with_reducible apply Kept.fold | with_reducible apply Kept.fold2 | with_reducible apply Kept.fold1 | (lift_lets; intro t; first | (with_reducible refine Kept.cut t ?_ ?_; unfold t) | skip) | dsimp -zeta only | split | dsimp +zetaDelta only)

theorem execMtimecmpMatch_kept {r₀ : State} (hart : Fin 4) (s : State) (h0 : Kept r₀ s) : KeptR r₀ (execMtimecmpMatch hart s) := by
  unfold execMtimecmpMatch
  repeat' (first | with_reducible assumption | (intro t; first | (with_reducible refine Kept.cut t ?_ ?_; unfold t) | beta_reduce | skip) | with_reducible apply KeptR.next | with_reducible apply State.mtip_kept | with_reducible apply Kept.ite | with_reducible apply KeptR.ite | with_reducible apply Kept.fold | with_reducible apply Kept.fold2 | with_reducible apply Kept.fold1 | (lift_lets; intro t; first | (with_reducible refine Kept.cut t ?_ ?_; unfold t) | skip) | dsimp -zeta only | split | dsimp +zetaDelta only)

theorem execPlicClaim_kept {r₀ : State} (ctx : Fin 8) (peek : Bool) (s : State) (h0 : Kept r₀ s) : KeptR r₀ (execPlicClaim ctx peek s) := by
  unfold execPlicClaim
  repeat' (first | with_reducible assumption | (intro t; first | (with_reducible refine Kept.cut t ?_ ?_; unfold t) | beta_reduce | skip) | with_reducible apply KeptR.next | with_reducible apply State.respond_kept | with_reducible apply State.setR_kept | with_reducible apply Kept.ite | with_reducible apply KeptR.ite | with_reducible apply Kept.fold | with_reducible apply Kept.fold2 | with_reducible apply Kept.fold1 | (lift_lets; intro t; first | (with_reducible refine Kept.cut t ?_ ?_; unfold t) | skip) | dsimp -zeta only | split | dsimp +zetaDelta only)

theorem State.plicRelease_kept {r₀ : State} (s : State) (n : Nat) (h0 : Kept r₀ s) : Kept r₀ (State.plicRelease s n) := by
  unfold State.plicRelease
  repeat' (first | with_reducible assumption | (intro t; first | (with_reducible refine Kept.cut t ?_ ?_; unfold t) | beta_reduce | skip) | with_reducible apply State.setR_kept | with_reducible apply Kept.ite | with_reducible apply Kept.fold | with_reducible apply Kept.fold2 | with_reducible apply Kept.fold1 | (lift_lets; intro t; first | (with_reducible refine Kept.cut t ?_ ?_; unfold t) | skip) | dsimp -zeta only | split | dsimp +zetaDelta only)

theorem execPlicComplete_kept {r₀ : State} (ctx : Fin 8) (id : BitVec 32) (s : State) (h0 : Kept r₀ s) : KeptR r₀ (execPlicComplete ctx id s) := by
  unfold execPlicComplete
  repeat' (first | with_reducible assumption | (intro t; first | (with_reducible refine Kept.cut t ?_ ?_; unfold t) | beta_reduce | skip) | with_reducible apply KeptR.next | with_reducible apply State.plicRelease_kept | with_reducible apply State.when_kept | with_reducible apply Kept.ite | with_reducible apply KeptR.ite | with_reducible apply Kept.fold | with_reducible apply Kept.fold2 | with_reducible apply Kept.fold1 | (lift_lets; intro t; first | (with_reducible refine Kept.cut t ?_ ?_; unfold t) | skip) | dsimp -zeta only | split | dsimp +zetaDelta only)

theorem execPatchKeyWrite_kept {r₀ : State} (dusk : Bool) (key : BitVec 16) (req : BitVec 16) (s : State) (h0 : Kept r₀ s) : KeptR r₀ (execPatchKeyWrite dusk key req s) := by
  unfold execPatchKeyWrite
  repeat' (first | with_reducible assumption | (intro t; first | (with_reducible refine Kept.cut t ?_ ?_; unfold t) | beta_reduce | skip) | with_reducible apply KeptR.next | with_reducible apply State.keyAt_kept | with_reducible apply State.keyIdle_kept | with_reducible apply State.respond_kept | with_reducible apply Kept.ite | with_reducible apply KeptR.ite | with_reducible apply Kept.fold | with_reducible apply Kept.fold2 | with_reducible apply Kept.fold1 | (lift_lets; intro t; first | (with_reducible refine Kept.cut t ?_ ?_; unfold t) | skip) | dsimp -zeta only | split | dsimp +zetaDelta only)

theorem execPatchEnWrite_kept {r₀ : State} (dusk : Bool) (mask : BitVec 16) (req : BitVec 16) (s : State) (h0 : Kept r₀ s) : KeptR r₀ (execPatchEnWrite dusk mask req s) := by
  unfold execPatchEnWrite
  repeat' (first | with_reducible assumption | (intro t; first | (with_reducible refine Kept.cut t ?_ ?_; unfold t) | beta_reduce | skip) | with_reducible apply KeptR.next | with_reducible apply State.keyIdle_kept | with_reducible apply State.raise_kept | with_reducible apply State.respond_kept | with_reducible apply State.setR_kept | with_reducible apply Kept.ite | with_reducible apply KeptR.ite | with_reducible apply Kept.fold | with_reducible apply Kept.fold2 | with_reducible apply Kept.fold1 | (lift_lets; intro t; first | (with_reducible refine Kept.cut t ?_ ?_; unfold t) | skip) | dsimp -zeta only | split | dsimp +zetaDelta only)

theorem execPatchKeyTimeout_kept {r₀ : State} (dusk : Bool) (s : State) (h0 : Kept r₀ s) : KeptR r₀ (execPatchKeyTimeout dusk s) := by
  unfold execPatchKeyTimeout
  repeat' (first | with_reducible assumption | (intro t; first | (with_reducible refine Kept.cut t ?_ ?_; unfold t) | beta_reduce | skip) | with_reducible apply KeptR.next | with_reducible apply State.keyTimeout_kept | with_reducible apply Kept.ite | with_reducible apply KeptR.ite | with_reducible apply Kept.fold | with_reducible apply Kept.fold2 | with_reducible apply Kept.fold1 | (lift_lets; intro t; first | (with_reducible refine Kept.cut t ?_ ?_; unfold t) | skip) | dsimp -zeta only | split | dsimp +zetaDelta only)

theorem State.putCount_kept {r₀ : State} (s : State) (w v : Nat) (h0 : Kept r₀ s) : Kept r₀ (State.putCount s w v) := by
  unfold State.putCount
  repeat' (first | with_reducible assumption | (intro t; first | (with_reducible refine Kept.cut t ?_ ?_; unfold t) | beta_reduce | skip) | with_reducible apply State.setR_kept | with_reducible apply Kept.ite | with_reducible apply Kept.fold | with_reducible apply Kept.fold2 | with_reducible apply Kept.fold1 | (lift_lets; intro t; first | (with_reducible refine Kept.cut t ?_ ?_; unfold t) | skip) | dsimp -zeta only | split | dsimp +zetaDelta only)

theorem State.wdtEval_kept {r₀ : State} (s : State) (w : Nat) (h0 : Kept r₀ s) : Kept r₀ (State.wdtEval s w) := by
  unfold State.wdtEval
  repeat' (first | with_reducible assumption | (intro t; first | (with_reducible refine Kept.cut t ?_ ?_; unfold t) | beta_reduce | skip) | with_reducible apply State.putCount_kept | with_reducible apply State.setR_kept | with_reducible apply Kept.ite | with_reducible apply Kept.fold | with_reducible apply Kept.fold2 | with_reducible apply Kept.fold1 | (lift_lets; intro t; first | (with_reducible refine Kept.cut t ?_ ?_; unfold t) | skip) | dsimp -zeta only | split | dsimp +zetaDelta only)

theorem State.wdtEvalAll_kept {r₀ : State} (s : State) (h0 : Kept r₀ s) : Kept r₀ (State.wdtEvalAll s) := by
  unfold State.wdtEvalAll
  repeat' (first | with_reducible assumption | (intro t; first | (with_reducible refine Kept.cut t ?_ ?_; unfold t) | beta_reduce | skip) | with_reducible apply State.wdtEval_kept | with_reducible apply Kept.ite | with_reducible apply Kept.fold | with_reducible apply Kept.fold2 | with_reducible apply Kept.fold1 | (lift_lets; intro t; first | (with_reducible refine Kept.cut t ?_ ?_; unfold t) | skip) | dsimp -zeta only | split | dsimp +zetaDelta only)

theorem execWdtKick_kept {r₀ : State} (w : Fin 6) (key : BitVec 16) (req : BitVec 16) (s : State) (h0 : Kept r₀ s) : KeptR r₀ (execWdtKick w key req s) := by
  unfold execWdtKick
  repeat' (first | with_reducible assumption | (intro t; first | (with_reducible refine Kept.cut t ?_ ?_; unfold t) | beta_reduce | skip) | with_reducible apply KeptR.next | with_reducible apply State.putCount_kept | with_reducible apply State.respond_kept | with_reducible apply State.setR_kept | with_reducible apply Kept.ite | with_reducible apply KeptR.ite | with_reducible apply Kept.fold | with_reducible apply Kept.fold2 | with_reducible apply Kept.fold1 | (lift_lets; intro t; first | (with_reducible refine Kept.cut t ?_ ?_; unfold t) | skip) | dsimp -zeta only | split | dsimp +zetaDelta only)

theorem execWdtFirstExpiry_kept {r₀ : State} (w : Fin 6) (s : State) (h0 : Kept r₀ s) : KeptR r₀ (execWdtFirstExpiry w s) := by
  unfold execWdtFirstExpiry
  repeat' (first | with_reducible assumption | (intro t; first | (with_reducible refine Kept.cut t ?_ ?_; unfold t) | beta_reduce | skip) | with_reducible apply KeptR.next | with_reducible apply State.irqEdge_kept | with_reducible apply State.putCount_kept | with_reducible apply State.raise_kept | with_reducible apply State.setR_kept | with_reducible apply State.when_kept | with_reducible apply Kept.ite | with_reducible apply KeptR.ite | with_reducible apply Kept.fold | with_reducible apply Kept.fold2 | with_reducible apply Kept.fold1 | (lift_lets; intro t; first | (with_reducible refine Kept.cut t ?_ ?_; unfold t) | skip) | dsimp -zeta only | split | dsimp +zetaDelta only)

theorem State.hregsDrop_kept {r₀ : State} (s : State) (n : Nat) (h0 : Kept r₀ s) : Kept r₀ (State.hregsDrop s n) := by
  unfold State.hregsDrop
  repeat' (first | with_reducible assumption | (intro t; first | (with_reducible refine Kept.cut t ?_ ?_; unfold t) | beta_reduce | skip) | with_reducible apply State.modDbg_kept | with_reducible apply Kept.ite | with_reducible apply Kept.fold | with_reducible apply Kept.fold2 | with_reducible apply Kept.fold1 | (lift_lets; intro t; first | (with_reducible refine Kept.cut t ?_ ?_; unfold t) | skip) | dsimp -zeta only | split | with_reducible apply Map.sortedFrom_filter | with_reducible apply Map.wf_filter | dsimp +zetaDelta only)

theorem State.unfreeze_kept {r₀ : State} (s : State) (h0 : Kept r₀ s) : Kept r₀ (State.unfreeze s) := by
  unfold State.unfreeze
  repeat' (first | with_reducible assumption | (intro t; first | (with_reducible refine Kept.cut t ?_ ?_; unfold t) | beta_reduce | skip) | with_reducible apply State.copyGo_kept | with_reducible apply State.dmaGo_kept | with_reducible apply Kept.ite | with_reducible apply Kept.fold | with_reducible apply Kept.fold2 | with_reducible apply Kept.fold1 | (lift_lets; intro t; first | (with_reducible refine Kept.cut t ?_ ?_; unfold t) | skip) | dsimp -zeta only | split | dsimp +zetaDelta only)

theorem State.hartReset_kept {r₀ : State} (s : State) (n : Nat) (h0 : Kept r₀ s) : Kept r₀ (State.hartReset s n) := by
  unfold State.hartReset
  repeat' (first | with_reducible assumption | (intro t; first | (with_reducible refine Kept.cut t ?_ ?_; unfold t) | beta_reduce | skip) | with_reducible apply State.hregsDrop_kept | with_reducible apply State.putCount_kept | with_reducible apply State.resetFields_kept | with_reducible apply State.setR_kept | with_reducible apply State.unfreeze_kept | with_reducible apply State.wdtEval_kept | with_reducible apply State.modDbg_kept | with_reducible apply Kept.ite | with_reducible apply Kept.fold | with_reducible apply Kept.fold2 | with_reducible apply Kept.fold1 | (lift_lets; intro t; first | (with_reducible refine Kept.cut t ?_ ?_; unfold t) | skip) | dsimp -zeta only | split | dsimp +zetaDelta only)

theorem execWdtSecondExpiry_kept {r₀ : State} (w : Fin 6) (s : State) (h0 : Kept r₀ s) : KeptR r₀ (execWdtSecondExpiry w s) := by
  unfold execWdtSecondExpiry
  repeat' (first | with_reducible assumption | (intro t; first | (with_reducible refine Kept.cut t ?_ ?_; unfold t) | beta_reduce | skip) | with_reducible apply KeptR.next | with_reducible apply State.hartReset_kept | with_reducible apply State.raise_kept | with_reducible apply State.when_kept | with_reducible apply Kept.ite | with_reducible apply KeptR.ite | with_reducible apply Kept.fold | with_reducible apply Kept.fold2 | with_reducible apply Kept.fold1 | (lift_lets; intro t; first | (with_reducible refine Kept.cut t ?_ ?_; unfold t) | skip) | dsimp -zeta only | split | dsimp +zetaDelta only)

theorem execHartResetCmd_kept {r₀ : State} (hart : Fin 4) (req : BitVec 16) (s : State) (h0 : Kept r₀ s) : KeptR r₀ (execHartResetCmd hart req s) := by
  unfold execHartResetCmd
  repeat' (first | with_reducible assumption | (intro t; first | (with_reducible refine Kept.cut t ?_ ?_; unfold t) | beta_reduce | skip) | with_reducible apply KeptR.next | with_reducible apply State.hartReset_kept | with_reducible apply State.respond_kept | with_reducible apply Kept.ite | with_reducible apply KeptR.ite | with_reducible apply Kept.fold | with_reducible apply Kept.fold2 | with_reducible apply Kept.fold1 | (lift_lets; intro t; first | (with_reducible refine Kept.cut t ?_ ?_; unfold t) | skip) | dsimp -zeta only | split | dsimp +zetaDelta only)

theorem execDmHaltreq_kept {r₀ : State} (harts : BitVec 6) (s : State) (h0 : Kept r₀ s) : KeptR r₀ (execDmHaltreq harts s) := by
  unfold execDmHaltreq
  repeat' (first | with_reducible assumption | (intro t; first | (with_reducible refine Kept.cut t ?_ ?_; unfold t) | beta_reduce | skip) | with_reducible apply KeptR.next | with_reducible apply State.when_kept | with_reducible apply State.modDbg_kept | with_reducible apply Kept.ite | with_reducible apply KeptR.ite | with_reducible apply Kept.fold | with_reducible apply Kept.fold2 | with_reducible apply Kept.fold1 | (lift_lets; intro t; first | (with_reducible refine Kept.cut t ?_ ?_; unfold t) | skip) | dsimp -zeta only | split | dsimp +zetaDelta only)

theorem State.seqAborted_kept {r₀ : State} (s : State) (q : Nat) (h0 : Kept r₀ s) : Kept r₀ (State.seqAborted s q) := by
  unfold State.seqAborted
  repeat' (first | with_reducible assumption | (intro t; first | (with_reducible refine Kept.cut t ?_ ?_; unfold t) | beta_reduce | skip) | with_reducible apply State.setR_kept | with_reducible apply Kept.ite | with_reducible apply Kept.fold | with_reducible apply Kept.fold2 | with_reducible apply Kept.fold1 | (lift_lets; intro t; first | (with_reducible refine Kept.cut t ?_ ?_; unfold t) | skip) | dsimp -zeta only | split | dsimp +zetaDelta only)

theorem State.abortKeys_kept {r₀ : State} (s : State) (n : Nat) (h0 : Kept r₀ s) : Kept r₀ (State.abortKeys s n) := by
  unfold State.abortKeys
  repeat' (first | with_reducible assumption | (intro t; first | (with_reducible refine Kept.cut t ?_ ?_; unfold t) | beta_reduce | skip) | with_reducible apply State.keyIdle_kept | with_reducible apply State.raise_kept | with_reducible apply State.seqAborted_kept | with_reducible apply Kept.ite | with_reducible apply Kept.fold | with_reducible apply Kept.fold2 | with_reducible apply Kept.fold1 | (lift_lets; intro t; first | (with_reducible refine Kept.cut t ?_ ?_; unfold t) | skip) | dsimp -zeta only | split | dsimp +zetaDelta only)

theorem execDmHartHalted_kept {r₀ : State} (hart : Fin 6) (s : State) (h0 : Kept r₀ s) : KeptR r₀ (execDmHartHalted hart s) := by
  unfold execDmHartHalted
  repeat' (first | with_reducible assumption | (intro t; first | (with_reducible refine Kept.cut t ?_ ?_; unfold t) | beta_reduce | skip) | with_reducible apply KeptR.next | with_reducible apply State.abortKeys_kept | with_reducible apply State.setR_kept | with_reducible apply State.wdtEval_kept | with_reducible apply State.when_kept | with_reducible apply State.modDbg_kept | with_reducible apply Kept.ite | with_reducible apply KeptR.ite | with_reducible apply Kept.fold | with_reducible apply Kept.fold2 | with_reducible apply Kept.fold1 | (lift_lets; intro t; first | (with_reducible refine Kept.cut t ?_ ?_; unfold t) | skip) | dsimp -zeta only | split | dsimp +zetaDelta only)

theorem State.hartResume_kept {r₀ : State} (s : State) (n : Nat) (h0 : Kept r₀ s) : Kept r₀ (State.hartResume s n) := by
  unfold State.hartResume
  repeat' (first | with_reducible assumption | (intro t; first | (with_reducible refine Kept.cut t ?_ ?_; unfold t) | beta_reduce | skip) | with_reducible apply State.hregsDrop_kept | with_reducible apply State.setR_kept | with_reducible apply State.unfreeze_kept | with_reducible apply State.wdtEval_kept | with_reducible apply State.modDbg_kept | with_reducible apply Kept.ite | with_reducible apply Kept.fold | with_reducible apply Kept.fold2 | with_reducible apply Kept.fold1 | (lift_lets; intro t; first | (with_reducible refine Kept.cut t ?_ ?_; unfold t) | skip) | dsimp -zeta only | split | dsimp +zetaDelta only)

theorem execDmResumereq_kept {r₀ : State} (harts : BitVec 6) (s : State) (h0 : Kept r₀ s) : KeptR r₀ (execDmResumereq harts s) := by
  unfold execDmResumereq
  repeat' (first | with_reducible assumption | (intro t; first | (with_reducible refine Kept.cut t ?_ ?_; unfold t) | beta_reduce | skip) | with_reducible apply KeptR.next | with_reducible apply State.hartResume_kept | with_reducible apply State.when_kept | with_reducible apply Kept.ite | with_reducible apply KeptR.ite | with_reducible apply Kept.fold | with_reducible apply Kept.fold2 | with_reducible apply Kept.fold1 | (lift_lets; intro t; first | (with_reducible refine Kept.cut t ?_ ?_; unfold t) | skip) | dsimp -zeta only | split | dsimp +zetaDelta only)

theorem execDmHartreset_kept {r₀ : State} (harts : BitVec 6) (s : State) (h0 : Kept r₀ s) : KeptR r₀ (execDmHartreset harts s) := by
  unfold execDmHartreset
  repeat' (first | with_reducible assumption | (intro t; first | (with_reducible refine Kept.cut t ?_ ?_; unfold t) | beta_reduce | skip) | with_reducible apply KeptR.next | with_reducible apply State.hartReset_kept | with_reducible apply State.when_kept | with_reducible apply Kept.ite | with_reducible apply KeptR.ite | with_reducible apply Kept.fold | with_reducible apply Kept.fold2 | with_reducible apply Kept.fold1 | (lift_lets; intro t; first | (with_reducible refine Kept.cut t ?_ ?_; unfold t) | skip) | dsimp -zeta only | split | dsimp +zetaDelta only)

theorem State.cmderr_kept {r₀ : State} (s : State) (e : Nat) (h0 : Kept r₀ s) : Kept r₀ (State.cmderr s e) := by
  unfold State.cmderr
  repeat' (first | with_reducible assumption | (intro t; first | (with_reducible refine Kept.cut t ?_ ?_; unfold t) | beta_reduce | skip) | with_reducible apply State.modDbg_kept | with_reducible apply Kept.ite | with_reducible apply Kept.fold | with_reducible apply Kept.fold2 | with_reducible apply Kept.fold1 | (lift_lets; intro t; first | (with_reducible refine Kept.cut t ?_ ?_; unfold t) | skip) | dsimp -zeta only | split | dsimp +zetaDelta only)

theorem State.transfer_kept {r₀ : State} (s : State) (n r : Nat) (write : Bool) (h0 : Kept r₀ s) : Kept r₀ (State.transfer s n r write) := by
  unfold State.transfer
  repeat' (first | with_reducible assumption | (intro t; first | (with_reducible refine Kept.cut t ?_ ?_; unfold t) | beta_reduce | skip) | with_reducible apply State.draw_kept | with_reducible apply State.modDbg_kept | with_reducible apply Kept.ite | with_reducible apply Kept.fold | with_reducible apply Kept.fold2 | with_reducible apply Kept.fold1 | (lift_lets; intro t; first | (with_reducible refine Kept.cut t ?_ ?_; unfold t) | skip) | dsimp -zeta only | split | dsimp +zetaDelta only)

theorem State.abstractCmd_kept {r₀ : State} (s : State) (cmd : Nat) (exc : Bool) (h0 : Kept r₀ s) : Kept r₀ (State.abstractCmd s cmd exc) := by
  unfold State.abstractCmd
  repeat' (first | with_reducible assumption | (intro t; first | (with_reducible refine Kept.cut t ?_ ?_; unfold t) | beta_reduce | skip) | with_reducible apply State.cmderr_kept | with_reducible apply State.hregsDrop_kept | with_reducible apply State.setR_kept | with_reducible apply State.transfer_kept | with_reducible apply State.modDbg_kept | with_reducible apply Kept.ite | with_reducible apply Kept.fold | with_reducible apply Kept.fold2 | with_reducible apply Kept.fold1 | (lift_lets; intro t; first | (with_reducible refine Kept.cut t ?_ ?_; unfold t) | skip) | dsimp -zeta only | split | dsimp +zetaDelta only)

theorem execDmAbstractCommand_kept {r₀ : State} (cmd : BitVec 32) (exc : Bool) (s : State) (h0 : Kept r₀ s) : KeptR r₀ (execDmAbstractCommand cmd exc s) := by
  unfold execDmAbstractCommand
  repeat' (first | with_reducible assumption | (intro t; first | (with_reducible refine Kept.cut t ?_ ?_; unfold t) | beta_reduce | skip) | with_reducible apply KeptR.next | with_reducible apply State.abstractCmd_kept | with_reducible apply State.when_kept | with_reducible apply Kept.ite | with_reducible apply KeptR.ite | with_reducible apply Kept.fold | with_reducible apply Kept.fold2 | with_reducible apply Kept.fold1 | (lift_lets; intro t; first | (with_reducible refine Kept.cut t ?_ ?_; unfold t) | skip) | dsimp -zeta only | split | dsimp +zetaDelta only)

theorem State.sessionOpen_kept {r₀ : State} (s : State) (st : Nat) (h0 : Kept r₀ s) : Kept r₀ (State.sessionOpen s st) := by
  unfold State.sessionOpen
  repeat' (first | with_reducible assumption | (intro t; first | (with_reducible refine Kept.cut t ?_ ?_; unfold t) | beta_reduce | skip) | with_reducible apply State.irqEdge_kept | with_reducible apply State.raise_kept | with_reducible apply State.setR_kept | with_reducible apply Kept.ite | with_reducible apply Kept.fold | with_reducible apply Kept.fold2 | with_reducible apply Kept.fold1 | (lift_lets; intro t; first | (with_reducible refine Kept.cut t ?_ ?_; unfold t) | skip) | dsimp -zeta only | split | dsimp +zetaDelta only)

theorem State.sessionClose_kept {r₀ : State} (s : State) (h0 : Kept r₀ s) : Kept r₀ (State.sessionClose s) := by
  unfold State.sessionClose
  repeat' (first | with_reducible assumption | (intro t; first | (with_reducible refine Kept.cut t ?_ ?_; unfold t) | beta_reduce | skip) | with_reducible apply State.hartResume_kept | with_reducible apply State.irqEdge_kept | with_reducible apply State.raise_kept | with_reducible apply State.setR_kept | with_reducible apply State.wdtEvalAll_kept | with_reducible apply State.modDbg_kept | with_reducible apply Kept.ite | with_reducible apply Kept.fold | with_reducible apply Kept.fold2 | with_reducible apply Kept.fold1 | (lift_lets; intro t; first | (with_reducible refine Kept.cut t ?_ ?_; unfold t) | skip) | dsimp -zeta only | split | dsimp +zetaDelta only)

theorem execDmSessionCloseWrite_kept {r₀ : State} (s : State) (h0 : Kept r₀ s) : KeptR r₀ (execDmSessionCloseWrite s) := by
  unfold execDmSessionCloseWrite
  repeat' (first | with_reducible assumption | (intro t; first | (with_reducible refine Kept.cut t ?_ ?_; unfold t) | beta_reduce | skip) | with_reducible apply KeptR.next | with_reducible apply State.sessionClose_kept | with_reducible apply Kept.ite | with_reducible apply KeptR.ite | with_reducible apply Kept.fold | with_reducible apply Kept.fold2 | with_reducible apply Kept.fold1 | (lift_lets; intro t; first | (with_reducible refine Kept.cut t ?_ ?_; unfold t) | skip) | dsimp -zeta only | split | dsimp +zetaDelta only)

theorem execDebugSessionTimeout_kept {r₀ : State} (s : State) (h0 : Kept r₀ s) : KeptR r₀ (execDebugSessionTimeout s) := by
  unfold execDebugSessionTimeout
  repeat' (first | with_reducible assumption | (intro t; first | (with_reducible refine Kept.cut t ?_ ?_; unfold t) | beta_reduce | skip) | with_reducible apply KeptR.next | with_reducible apply State.sessionClose_kept | with_reducible apply Kept.ite | with_reducible apply KeptR.ite | with_reducible apply Kept.fold | with_reducible apply Kept.fold2 | with_reducible apply Kept.fold1 | (lift_lets; intro t; first | (with_reducible refine Kept.cut t ?_ ?_; unfold t) | skip) | dsimp -zeta only | split | dsimp +zetaDelta only)

theorem State.authResult_kept {r₀ : State} (s : State) (code : Nat) (h0 : Kept r₀ s) : Kept r₀ (State.authResult s code) := by
  unfold State.authResult
  repeat' (first | with_reducible assumption | (intro t; first | (with_reducible refine Kept.cut t ?_ ?_; unfold t) | beta_reduce | skip) | with_reducible apply State.modDbg_kept | with_reducible apply Kept.ite | with_reducible apply Kept.fold | with_reducible apply Kept.fold2 | with_reducible apply Kept.fold1 | (lift_lets; intro t; first | (with_reducible refine Kept.cut t ?_ ?_; unfold t) | skip) | dsimp -zeta only | split | dsimp +zetaDelta only)

theorem State.grantReject_kept {r₀ : State} (s : State) (code : Nat) (h0 : Kept r₀ s) : Kept r₀ (State.grantReject s code) := by
  unfold State.grantReject
  repeat' (first | with_reducible assumption | (intro t; first | (with_reducible refine Kept.cut t ?_ ?_; unfold t) | beta_reduce | skip) | with_reducible apply State.authResult_kept | with_reducible apply State.raise_kept | with_reducible apply State.satAdd_kept | with_reducible apply State.setR_kept | with_reducible apply Kept.ite | with_reducible apply Kept.fold | with_reducible apply Kept.fold2 | with_reducible apply Kept.fold1 | (lift_lets; intro t; first | (with_reducible refine Kept.cut t ?_ ?_; unfold t) | skip) | dsimp -zeta only | split | dsimp +zetaDelta only)

theorem State.authNonce_kept {r₀ : State} (s : State) (h0 : Kept r₀ s) : Kept r₀ (State.authNonce s) := by
  unfold State.authNonce
  repeat' (first | with_reducible assumption | (intro t; first | (with_reducible refine Kept.cut t ?_ ?_; unfold t) | beta_reduce | skip) | with_reducible apply State.grantReject_kept | with_reducible apply State.modDbg_kept | with_reducible apply Kept.ite | with_reducible apply Kept.fold | with_reducible apply Kept.fold2 | with_reducible apply Kept.fold1 | (lift_lets; intro t; first | (with_reducible refine Kept.cut t ?_ ?_; unfold t) | skip) | dsimp -zeta only | split | dsimp +zetaDelta only)

theorem execAuthNonce_kept {r₀ : State} (s : State) (h0 : Kept r₀ s) : KeptR r₀ (execAuthNonce s) := by
  unfold execAuthNonce
  repeat' (first | with_reducible assumption | (intro t; first | (with_reducible refine Kept.cut t ?_ ?_; unfold t) | beta_reduce | skip) | with_reducible apply KeptR.next | with_reducible apply State.authNonce_kept | with_reducible apply Kept.ite | with_reducible apply KeptR.ite | with_reducible apply Kept.fold | with_reducible apply Kept.fold2 | with_reducible apply Kept.fold1 | (lift_lets; intro t; first | (with_reducible refine Kept.cut t ?_ ?_; unfold t) | skip) | dsimp -zeta only | split | dsimp +zetaDelta only)

theorem execAuthNonceReady_kept {r₀ : State} (s : State) (h0 : Kept r₀ s) : KeptR r₀ (execAuthNonceReady s) := by
  unfold execAuthNonceReady
  repeat' (first | with_reducible assumption | (intro t; first | (with_reducible refine Kept.cut t ?_ ?_; unfold t) | beta_reduce | skip) | with_reducible apply KeptR.next | with_reducible apply State.draw_kept | with_reducible apply State.when_kept | with_reducible apply State.modDbg_kept | with_reducible apply Kept.ite | with_reducible apply KeptR.ite | with_reducible apply Kept.fold | with_reducible apply Kept.fold2 | with_reducible apply Kept.fold1 | (lift_lets; intro t; first | (with_reducible refine Kept.cut t ?_ ?_; unfold t) | skip) | dsimp -zeta only | split | dsimp +zetaDelta only)

theorem execAuthGrant_kept {r₀ : State} (len : BitVec 24) (s : State) (h0 : Kept r₀ s) : KeptR r₀ (execAuthGrant len s) := by
  unfold execAuthGrant
  repeat' (first | with_reducible assumption | (intro t; first | (with_reducible refine Kept.cut t ?_ ?_; unfold t) | beta_reduce | skip) | with_reducible apply KeptR.next | with_reducible apply State.grantReject_kept | with_reducible apply State.modDbg_kept | with_reducible apply Kept.ite | with_reducible apply KeptR.ite | with_reducible apply Kept.fold | with_reducible apply Kept.fold2 | with_reducible apply Kept.fold1 | (lift_lets; intro t; first | (with_reducible refine Kept.cut t ?_ ?_; unfold t) | skip) | dsimp -zeta only | split | dsimp +zetaDelta only)

theorem State.keyMismatch_kept {r₀ : State} (s : State) (slot : Nat) (hashed : Bool) (h0 : Kept r₀ s) : Kept r₀ (State.keyMismatch s slot hashed) := by
  unfold State.keyMismatch
  repeat' (first | with_reducible assumption | (intro t; first | (with_reducible refine Kept.cut t ?_ ?_; unfold t) | beta_reduce | skip) | with_reducible apply State.raise_kept | with_reducible apply Kept.ite | with_reducible apply Kept.fold | with_reducible apply Kept.fold2 | with_reducible apply Kept.fold1 | (lift_lets; intro t; first | (with_reducible refine Kept.cut t ?_ ?_; unfold t) | skip) | dsimp -zeta only | split | dsimp +zetaDelta only)

theorem State.grantAccept_kept {r₀ : State} (s : State) (level : Nat) (h0 : Kept r₀ s) : Kept r₀ (State.grantAccept s level) := by
  unfold State.grantAccept
  repeat' (first | with_reducible assumption | (intro t; first | (with_reducible refine Kept.cut t ?_ ?_; unfold t) | beta_reduce | skip) | with_reducible apply State.authResult_kept | with_reducible apply State.raise_kept | with_reducible apply State.setR_kept | with_reducible apply State.wdtEvalAll_kept | with_reducible apply Kept.ite | with_reducible apply Kept.fold | with_reducible apply Kept.fold2 | with_reducible apply Kept.fold1 | (lift_lets; intro t; first | (with_reducible refine Kept.cut t ?_ ?_; unfold t) | skip) | dsimp -zeta only | split | dsimp +zetaDelta only)

theorem execAuthGrantResult_kept {r₀ : State} (g : GrantFacts) (s : State) (h0 : Kept r₀ s) : KeptR r₀ (execAuthGrantResult g s) := by
  unfold execAuthGrantResult
  repeat' (first | with_reducible assumption | (intro t; first | (with_reducible refine Kept.cut t ?_ ?_; unfold t) | beta_reduce | skip) | with_reducible apply KeptR.next | with_reducible apply State.grantAccept_kept | with_reducible apply State.grantReject_kept | with_reducible apply State.keyMismatch_kept | with_reducible apply State.when_kept | with_reducible apply State.modDbg_kept | with_reducible apply Kept.ite | with_reducible apply KeptR.ite | with_reducible apply Kept.fold | with_reducible apply Kept.fold2 | with_reducible apply Kept.fold1 | (lift_lets; intro t; first | (with_reducible refine Kept.cut t ?_ ?_; unfold t) | skip) | dsimp -zeta only | split | dsimp +zetaDelta only)

theorem execAuthDrop_kept {r₀ : State} (s : State) (h0 : Kept r₀ s) : KeptR r₀ (execAuthDrop s) := by
  unfold execAuthDrop
  repeat' (first | with_reducible assumption | (intro t; first | (with_reducible refine Kept.cut t ?_ ?_; unfold t) | beta_reduce | skip) | with_reducible apply KeptR.next | with_reducible apply State.setR_kept | with_reducible apply State.wdtEvalAll_kept | with_reducible apply State.when_kept | with_reducible apply Kept.ite | with_reducible apply KeptR.ite | with_reducible apply Kept.fold | with_reducible apply Kept.fold2 | with_reducible apply Kept.fold1 | (lift_lets; intro t; first | (with_reducible refine Kept.cut t ?_ ?_; unfold t) | skip) | dsimp -zeta only | split | dsimp +zetaDelta only)

theorem execAuthLockoutEnd_kept {r₀ : State} (s : State) (h0 : Kept r₀ s) : KeptR r₀ (execAuthLockoutEnd s) := by
  unfold execAuthLockoutEnd
  repeat' (first | with_reducible assumption | (intro t; first | (with_reducible refine Kept.cut t ?_ ?_; unfold t) | beta_reduce | skip) | with_reducible apply KeptR.next | with_reducible apply State.setR_kept | with_reducible apply Kept.ite | with_reducible apply KeptR.ite | with_reducible apply Kept.fold | with_reducible apply Kept.fold2 | with_reducible apply Kept.fold1 | (lift_lets; intro t; first | (with_reducible refine Kept.cut t ?_ ?_; unfold t) | skip) | dsimp -zeta only | split | dsimp +zetaDelta only)

theorem State.frameErr_kept {r₀ : State} (s : State) (h0 : Kept r₀ s) : Kept r₀ (State.frameErr s) := by
  unfold State.frameErr
  repeat' (first | with_reducible assumption | (intro t; first | (with_reducible refine Kept.cut t ?_ ?_; unfold t) | beta_reduce | skip) | with_reducible apply State.raise_kept | with_reducible apply State.satAdd_kept | with_reducible apply State.modDbg_kept | with_reducible apply Kept.ite | with_reducible apply Kept.fold | with_reducible apply Kept.fold2 | with_reducible apply Kept.fold1 | (lift_lets; intro t; first | (with_reducible refine Kept.cut t ?_ ?_; unfold t) | skip) | dsimp -zeta only | split | dsimp +zetaDelta only)

theorem execDrwAttention_kept {r₀ : State} (lowNs : Nat) (sync : Option (BitVec 16)) (s : State) (h0 : Kept r₀ s) : KeptR r₀ (execDrwAttention lowNs sync s) := by
  unfold execDrwAttention
  repeat' (first | with_reducible assumption | (intro t; first | (with_reducible refine Kept.cut t ?_ ?_; unfold t) | beta_reduce | skip) | with_reducible apply KeptR.next | with_reducible apply State.frameErr_kept | with_reducible apply State.satAdd_kept | with_reducible apply State.setR_kept | with_reducible apply State.modDbg_kept | with_reducible apply Kept.ite | with_reducible apply KeptR.ite | with_reducible apply Kept.fold | with_reducible apply Kept.fold2 | with_reducible apply Kept.fold1 | (lift_lets; intro t; first | (with_reducible refine Kept.cut t ?_ ?_; unfold t) | skip) | dsimp -zeta only | split | dsimp +zetaDelta only)

theorem State.drwAnswer_kept {r₀ : State} (s : State) (data ack : Nat) (word : Bool) (h0 : Kept r₀ s) : Kept r₀ (State.drwAnswer s data ack word) := by
  unfold State.drwAnswer
  repeat' (first | with_reducible assumption | (intro t; first | (with_reducible refine Kept.cut t ?_ ?_; unfold t) | beta_reduce | skip) | with_reducible apply State.respond_kept | with_reducible apply State.modDbg_kept | with_reducible apply Kept.ite | with_reducible apply Kept.fold | with_reducible apply Kept.fold2 | with_reducible apply Kept.fold1 | (lift_lets; intro t; first | (with_reducible refine Kept.cut t ?_ ?_; unfold t) | skip) | dsimp -zeta only | split | dsimp +zetaDelta only)

theorem State.drwFrame_kept {r₀ : State} (s : State) (fr : DrwFrame) (t : State) (h0 : Kept r₀ s) (h1 : Kept r₀ t) : KeptR r₀ (State.drwFrame s fr t) := by
  unfold State.drwFrame
  repeat' (first | with_reducible assumption | (intro t; first | (with_reducible refine Kept.cut t ?_ ?_; unfold t) | beta_reduce | skip) | with_reducible apply KeptR.next | with_reducible apply State.drwAnswer_kept | with_reducible apply State.frameErr_kept | with_reducible apply Kept.ite | with_reducible apply KeptR.ite | with_reducible apply Kept.fold | with_reducible apply Kept.fold2 | with_reducible apply Kept.fold1 | (lift_lets; intro t; first | (with_reducible refine Kept.cut t ?_ ?_; unfold t) | skip) | dsimp -zeta only | split | dsimp +zetaDelta only)

theorem execDrwNop_kept {r₀ : State} (fr : DrwFrame) (s : State) (h0 : Kept r₀ s) : KeptR r₀ (execDrwNop fr s) := by
  unfold execDrwNop
  repeat' (first | with_reducible assumption | (intro t; first | (with_reducible refine Kept.cut t ?_ ?_; unfold t) | beta_reduce | skip) | with_reducible apply KeptR.next | with_reducible apply State.drwAnswer_kept | with_reducible apply State.drwFrame_kept | with_reducible apply Kept.ite | with_reducible apply KeptR.ite | with_reducible apply Kept.fold | with_reducible apply Kept.fold2 | with_reducible apply Kept.fold1 | (lift_lets; intro t; first | (with_reducible refine Kept.cut t ?_ ?_; unfold t) | skip) | dsimp -zeta only | split | dsimp +zetaDelta only)

theorem execDrwOpen_kept {r₀ : State} (fr : DrwFrame) (s : State) (h0 : Kept r₀ s) : KeptR r₀ (execDrwOpen fr s) := by
  unfold execDrwOpen
  repeat' (first | with_reducible assumption | (intro t; first | (with_reducible refine Kept.cut t ?_ ?_; unfold t) | beta_reduce | skip) | with_reducible apply KeptR.next | with_reducible apply State.drwAnswer_kept | with_reducible apply State.drwFrame_kept | with_reducible apply State.sessionOpen_kept | with_reducible apply Kept.ite | with_reducible apply KeptR.ite | with_reducible apply Kept.fold | with_reducible apply Kept.fold2 | with_reducible apply Kept.fold1 | (lift_lets; intro t; first | (with_reducible refine Kept.cut t ?_ ?_; unfold t) | skip) | dsimp -zeta only | split | dsimp +zetaDelta only)

theorem execDrwClose_kept {r₀ : State} (fr : DrwFrame) (s : State) (h0 : Kept r₀ s) : KeptR r₀ (execDrwClose fr s) := by
  unfold execDrwClose
  repeat' (first | with_reducible assumption | (intro t; first | (with_reducible refine Kept.cut t ?_ ?_; unfold t) | beta_reduce | skip) | with_reducible apply KeptR.next | with_reducible apply State.drwAnswer_kept | with_reducible apply State.drwFrame_kept | with_reducible apply State.sessionClose_kept | with_reducible apply Kept.ite | with_reducible apply KeptR.ite | with_reducible apply Kept.fold | with_reducible apply Kept.fold2 | with_reducible apply Kept.fold1 | (lift_lets; intro t; first | (with_reducible refine Kept.cut t ?_ ?_; unfold t) | skip) | dsimp -zeta only | split | dsimp +zetaDelta only)

theorem execDrwMaskSet_kept {r₀ : State} (fr : DrwFrame) (s : State) (h0 : Kept r₀ s) : KeptR r₀ (execDrwMaskSet fr s) := by
  unfold execDrwMaskSet
  repeat' (first | with_reducible assumption | (intro t; first | (with_reducible refine Kept.cut t ?_ ?_; unfold t) | beta_reduce | skip) | with_reducible apply KeptR.next | with_reducible apply State.drwAnswer_kept | with_reducible apply State.drwFrame_kept | with_reducible apply State.setR_kept | with_reducible apply Kept.ite | with_reducible apply KeptR.ite | with_reducible apply Kept.fold | with_reducible apply Kept.fold2 | with_reducible apply Kept.fold1 | (lift_lets; intro t; first | (with_reducible refine Kept.cut t ?_ ?_; unfold t) | skip) | dsimp -zeta only | split | dsimp +zetaDelta only)

theorem execDrwMaskClear_kept {r₀ : State} (fr : DrwFrame) (s : State) (h0 : Kept r₀ s) : KeptR r₀ (execDrwMaskClear fr s) := by
  unfold execDrwMaskClear
  repeat' (first | with_reducible assumption | (intro t; first | (with_reducible refine Kept.cut t ?_ ?_; unfold t) | beta_reduce | skip) | with_reducible apply KeptR.next | with_reducible apply State.drwAnswer_kept | with_reducible apply State.drwFrame_kept | with_reducible apply State.setR_kept | with_reducible apply Kept.ite | with_reducible apply KeptR.ite | with_reducible apply Kept.fold | with_reducible apply Kept.fold2 | with_reducible apply Kept.fold1 | (lift_lets; intro t; first | (with_reducible refine Kept.cut t ?_ ?_; unfold t) | skip) | dsimp -zeta only | split | dsimp +zetaDelta only)

end Sys2Proof.Machine
end

