-- ==== Sys2Proof/Laws/Kept/DieLink.lean ====
section
/-!
SUPPORT. Every operation of Machine/DieLink.lean leaves the queue and keeps the tables in canonical form.
-/

set_option linter.unreachableTactic false
set_option linter.unusedTactic false
set_option linter.unusedVariables false

namespace Sys2Proof.Machine

theorem State.putLink_kept {r₀ : State} (s : State) (l : DieLinkId) (v half : Nat) (h0 : Kept r₀ s) : Kept r₀ (State.putLink s l v half) := by
  unfold State.putLink
  repeat' (first | with_reducible assumption | (intro t; first | (with_reducible refine Kept.cut t ?_ ?_; unfold t) | beta_reduce | skip) | with_reducible apply State.setEach_kept | with_reducible apply State.setR_kept | with_reducible apply State.modDlk_kept | with_reducible apply Kept.ite | with_reducible apply Kept.fold | with_reducible apply Kept.fold2 | with_reducible apply Kept.fold1 | (lift_lets; intro t; first | (with_reducible refine Kept.cut t ?_ ?_; unfold t) | skip) | dsimp -zeta only | split | dsimp +zetaDelta only)

theorem State.loseRoutes_kept {r₀ : State} (s : State) (l : List Nat) (h0 : Kept r₀ s) : Kept r₀ (State.loseRoutes s l) := by
  unfold State.loseRoutes
  repeat' (first | with_reducible assumption | (intro t; first | (with_reducible refine Kept.cut t ?_ ?_; unfold t) | beta_reduce | skip) | with_reducible apply State.raise_kept | with_reducible apply State.setR_kept | with_reducible apply State.modIc_kept | with_reducible apply Kept.ite | with_reducible apply Kept.fold | with_reducible apply Kept.fold2 | with_reducible apply Kept.fold1 | (lift_lets; intro t; first | (with_reducible refine Kept.cut t ?_ ?_; unfold t) | skip) | dsimp -zeta only | split | with_reducible apply Map.sortedFrom_filter | with_reducible apply Map.wf_filter | dsimp +zetaDelta only)

theorem State.foldBreach_kept {r₀ : State} (s : State) (ports : List (Nat × Nat)) (id : Nat) (h0 : Kept r₀ s) : Kept r₀ (State.foldBreach s ports id) := by
  unfold State.foldBreach
  repeat' (first | with_reducible assumption | (intro t; first | (with_reducible refine Kept.cut t ?_ ?_; unfold t) | beta_reduce | skip) | with_reducible apply State.breach_kept | with_reducible apply State.suspendBreach_kept | with_reducible apply Kept.ite | with_reducible apply Kept.fold | with_reducible apply Kept.fold2 | with_reducible apply Kept.fold1 | (lift_lets; intro t; first | (with_reducible refine Kept.cut t ?_ ?_; unfold t) | skip) | dsimp -zeta only | split | dsimp +zetaDelta only)

theorem State.withdrawBreach_kept {r₀ : State} (s : State) (ports : List (Nat × Nat)) (id : Nat) (h0 : Kept r₀ s) : Kept r₀ (State.withdrawBreach s ports id) := by
  unfold State.withdrawBreach
  repeat' (first | with_reducible assumption | (intro t; first | (with_reducible refine Kept.cut t ?_ ?_; unfold t) | beta_reduce | skip) | with_reducible apply State.breach_kept | with_reducible apply State.suspendBreach_kept | with_reducible apply Kept.ite | with_reducible apply Kept.fold | with_reducible apply Kept.fold2 | with_reducible apply Kept.fold1 | (lift_lets; intro t; first | (with_reducible refine Kept.cut t ?_ ?_; unfold t) | skip) | dsimp -zeta only | split | dsimp +zetaDelta only)

theorem State.linkFold_kept {r₀ : State} (s : State) (l : DieLinkId) (half page i : Nat) (h0 : Kept r₀ s) : Kept r₀ (State.linkFold s l half page i) := by
  unfold State.linkFold
  repeat' (first | with_reducible assumption | (intro t; first | (with_reducible refine Kept.cut t ?_ ?_; unfold t) | beta_reduce | skip) | with_reducible apply State.foldBreach_kept | with_reducible apply State.loseRoutes_kept | with_reducible apply State.putLink_kept | with_reducible apply State.raise_kept | with_reducible apply State.modDlk_kept | with_reducible apply Kept.ite | with_reducible apply Kept.fold | with_reducible apply Kept.fold2 | with_reducible apply Kept.fold1 | (lift_lets; intro t; first | (with_reducible refine Kept.cut t ?_ ?_; unfold t) | skip) | dsimp -zeta only | split | dsimp +zetaDelta only)

theorem State.linkWithdraw_kept {r₀ : State} (s : State) (l : DieLinkId) (page i : Nat) (h0 : Kept r₀ s) : Kept r₀ (State.linkWithdraw s l page i) := by
  unfold State.linkWithdraw
  repeat' (first | with_reducible assumption | (intro t; first | (with_reducible refine Kept.cut t ?_ ?_; unfold t) | beta_reduce | skip) | with_reducible apply State.loseRoutes_kept | with_reducible apply State.napClose_kept | with_reducible apply State.napPort_kept | with_reducible apply State.putLink_kept | with_reducible apply State.raise_kept | with_reducible apply State.thymeBreach_kept | with_reducible apply State.withdrawBreach_kept | with_reducible apply State.modDlk_kept | with_reducible apply Kept.ite | with_reducible apply Kept.fold | with_reducible apply Kept.fold2 | with_reducible apply Kept.fold1 | (lift_lets; intro t; first | (with_reducible refine Kept.cut t ?_ ?_; unfold t) | skip) | dsimp -zeta only | split | dsimp +zetaDelta only)

theorem State.exhaust_kept {r₀ : State} (s : State) (page i wire : Nat) (h0 : Kept r₀ s) : Kept r₀ (State.exhaust s page i wire) := by
  unfold State.exhaust
  repeat' (first | with_reducible assumption | (intro t; first | (with_reducible refine Kept.cut t ?_ ?_; unfold t) | beta_reduce | skip) | with_reducible apply State.linkWithdraw_kept | with_reducible apply State.raise_kept | with_reducible apply State.setR_kept | with_reducible apply State.modDlk_kept | with_reducible apply Kept.ite | with_reducible apply Kept.fold | with_reducible apply Kept.fold2 | with_reducible apply Kept.fold1 | (lift_lets; intro t; first | (with_reducible refine Kept.cut t ?_ ?_; unfold t) | skip) | dsimp -zeta only | split | dsimp +zetaDelta only)

theorem State.wireFails_kept {r₀ : State} (s : State) (page i wire : Nat) (h0 : Kept r₀ s) : Kept r₀ (State.wireFails s page i wire) := by
  unfold State.wireFails
  repeat' (first | with_reducible assumption | (intro t; first | (with_reducible refine Kept.cut t ?_ ?_; unfold t) | beta_reduce | skip) | with_reducible apply State.exhaust_kept | with_reducible apply State.modDlk_kept | with_reducible apply Kept.ite | with_reducible apply Kept.fold | with_reducible apply Kept.fold2 | with_reducible apply Kept.fold1 | (lift_lets; intro t; first | (with_reducible refine Kept.cut t ?_ ?_; unfold t) | skip) | dsimp -zeta only | split | dsimp +zetaDelta only)

theorem State.countError_kept {r₀ : State} (s : State) (page i key : Nat) (f : Field) (h0 : Kept r₀ s) : Kept r₀ (State.countError s page i key f) := by
  unfold State.countError
  repeat' (first | with_reducible assumption | (intro t; first | (with_reducible refine Kept.cut t ?_ ?_; unfold t) | beta_reduce | skip) | with_reducible apply State.satAdd_kept | with_reducible apply State.modDlk_kept | with_reducible apply Kept.ite | with_reducible apply Kept.fold | with_reducible apply Kept.fold2 | with_reducible apply Kept.fold1 | (lift_lets; intro t; first | (with_reducible refine Kept.cut t ?_ ?_; unfold t) | skip) | dsimp -zeta only | split | dsimp +zetaDelta only)

theorem execDlkWireError_kept {r₀ : State} (bd : Fin 4) (p : Fin 4) (group : Nat) (wire : Nat) (s : State) (h0 : Kept r₀ s) : KeptR r₀ (execDlkWireError bd p group wire s) := by
  unfold execDlkWireError
  repeat' (first | with_reducible assumption | (intro t; first | (with_reducible refine Kept.cut t ?_ ?_; unfold t) | beta_reduce | skip) | with_reducible apply KeptR.next | with_reducible apply State.countError_kept | with_reducible apply State.wireFails_kept | with_reducible apply Kept.ite | with_reducible apply KeptR.ite | with_reducible apply Kept.fold | with_reducible apply Kept.fold2 | with_reducible apply Kept.fold1 | (lift_lets; intro t; first | (with_reducible refine Kept.cut t ?_ ?_; unfold t) | skip) | dsimp -zeta only | split | dsimp +zetaDelta only)

theorem State.furtherError_kept {r₀ : State} (s : State) (page i : Nat) (h0 : Kept r₀ s) : Kept r₀ (State.furtherError s page i) := by
  unfold State.furtherError
  repeat' (first | with_reducible assumption | (intro t; first | (with_reducible refine Kept.cut t ?_ ?_; unfold t) | beta_reduce | skip) | with_reducible apply State.countError_kept | with_reducible apply State.exhaust_kept | with_reducible apply Kept.ite | with_reducible apply Kept.fold | with_reducible apply Kept.fold2 | with_reducible apply Kept.fold1 | (lift_lets; intro t; first | (with_reducible refine Kept.cut t ?_ ?_; unfold t) | skip) | dsimp -zeta only | split | dsimp +zetaDelta only)

theorem execDlkUncorrectableCycle_kept {r₀ : State} (bd : Fin 4) (p : Fin 4) (group : Nat) (hit : List (Nat × Nat)) (s : State) (h0 : Kept r₀ s) : KeptR r₀ (execDlkUncorrectableCycle bd p group hit s) := by
  unfold execDlkUncorrectableCycle
  repeat' (first | with_reducible assumption | (intro t; first | (with_reducible refine Kept.cut t ?_ ?_; unfold t) | beta_reduce | skip) | with_reducible apply KeptR.next | with_reducible apply State.furtherError_kept | with_reducible apply State.raise_kept | with_reducible apply State.modIc_kept | with_reducible apply Kept.ite | with_reducible apply KeptR.ite | with_reducible apply Kept.fold | with_reducible apply Kept.fold2 | with_reducible apply Kept.fold1 | (lift_lets; intro t; first | (with_reducible refine Kept.cut t ?_ ?_; unfold t) | skip) | dsimp -zeta only | split | dsimp +zetaDelta only)

theorem execDlkBlockError_kept {r₀ : State} (bd : Fin 4) (p : Fin 4) (group : Nat) (s : State) (h0 : Kept r₀ s) : KeptR r₀ (execDlkBlockError bd p group s) := by
  unfold execDlkBlockError
  repeat' (first | with_reducible assumption | (intro t; first | (with_reducible refine Kept.cut t ?_ ?_; unfold t) | beta_reduce | skip) | with_reducible apply KeptR.next | with_reducible apply State.furtherError_kept | with_reducible apply State.raise_kept | with_reducible apply Kept.ite | with_reducible apply KeptR.ite | with_reducible apply Kept.fold | with_reducible apply Kept.fold2 | with_reducible apply Kept.fold1 | (lift_lets; intro t; first | (with_reducible refine Kept.cut t ?_ ?_; unfold t) | skip) | dsimp -zeta only | split | dsimp +zetaDelta only)

theorem State.spare_kept {r₀ : State} (s : State) (page i wire : Nat) (h0 : Kept r₀ s) : Kept r₀ (State.spare s page i wire) := by
  unfold State.spare
  repeat' (first | with_reducible assumption | (intro t; first | (with_reducible refine Kept.cut t ?_ ?_; unfold t) | beta_reduce | skip) | with_reducible apply State.raise_kept | with_reducible apply State.satAdd_kept | with_reducible apply State.setR_kept | with_reducible apply State.modDlk_kept | with_reducible apply Kept.ite | with_reducible apply Kept.fold | with_reducible apply Kept.fold2 | with_reducible apply Kept.fold1 | (lift_lets; intro t; first | (with_reducible refine Kept.cut t ?_ ?_; unfold t) | skip) | dsimp -zeta only | split | dsimp +zetaDelta only)

theorem execDlkSpareSwitch_kept {r₀ : State} (bd : Fin 4) (p : Fin 4) (group : Nat) (s : State) (h0 : Kept r₀ s) : KeptR r₀ (execDlkSpareSwitch bd p group s) := by
  unfold execDlkSpareSwitch
  repeat' (first | with_reducible assumption | (intro t; first | (with_reducible refine Kept.cut t ?_ ?_; unfold t) | beta_reduce | skip) | with_reducible apply KeptR.next | with_reducible apply State.spare_kept | with_reducible apply State.when_kept | with_reducible apply Kept.ite | with_reducible apply KeptR.ite | with_reducible apply Kept.fold | with_reducible apply Kept.fold2 | with_reducible apply Kept.fold1 | (lift_lets; intro t; first | (with_reducible refine Kept.cut t ?_ ?_; unfold t) | skip) | dsimp -zeta only | split | dsimp +zetaDelta only)

theorem execDlkFoldCommit_kept {r₀ : State} (bd : Fin 4) (p : Fin 4) (group : Nat) (s : State) (h0 : Kept r₀ s) : KeptR r₀ (execDlkFoldCommit bd p group s) := by
  unfold execDlkFoldCommit
  repeat' (first | with_reducible assumption | (intro t; first | (with_reducible refine Kept.cut t ?_ ?_; unfold t) | beta_reduce | skip) | with_reducible apply KeptR.next | with_reducible apply State.linkFold_kept | with_reducible apply State.when_kept | with_reducible apply Kept.ite | with_reducible apply KeptR.ite | with_reducible apply Kept.fold | with_reducible apply Kept.fold2 | with_reducible apply Kept.fold1 | (lift_lets; intro t; first | (with_reducible refine Kept.cut t ?_ ?_; unfold t) | skip) | dsimp -zeta only | split | dsimp +zetaDelta only)

theorem State.testWire_kept {r₀ : State} (s : State) (x : Nat × Nat × Nat) (h0 : Kept r₀ s) : Kept r₀ (State.testWire s x) := by
  unfold State.testWire
  repeat' (first | with_reducible assumption | (intro t; first | (with_reducible refine Kept.cut t ?_ ?_; unfold t) | beta_reduce | skip) | with_reducible apply State.exhaust_kept | with_reducible apply State.spare_kept | with_reducible apply Kept.ite | with_reducible apply Kept.fold | with_reducible apply Kept.fold2 | with_reducible apply Kept.fold1 | (lift_lets; intro t; first | (with_reducible refine Kept.cut t ?_ ?_; unfold t) | skip) | dsimp -zeta only | split | dsimp +zetaDelta only)

theorem State.linkTest_kept {r₀ : State} (s : State) (bad : List (Nat × Nat × Nat)) (h0 : Kept r₀ s) : Kept r₀ (State.linkTest s bad) := by
  unfold State.linkTest
  repeat' (first | with_reducible assumption | (intro t; first | (with_reducible refine Kept.cut t ?_ ?_; unfold t) | beta_reduce | skip) | with_reducible apply State.linkFold_kept | with_reducible apply State.testWire_kept | with_reducible apply Kept.ite | with_reducible apply Kept.fold | with_reducible apply Kept.fold2 | with_reducible apply Kept.fold1 | (lift_lets; intro t; first | (with_reducible refine Kept.cut t ?_ ?_; unfold t) | skip) | dsimp -zeta only | split | dsimp +zetaDelta only)

end Sys2Proof.Machine
end

