-- ==== Sys2Proof/Laws/Kept/FceState.lean ====
section
/-!
SUPPORT. Every operation of Machine/FceState.lean leaves the queue and keeps the tables in canonical form.
-/

set_option linter.unreachableTactic false
set_option linter.unusedTactic false
set_option linter.unusedVariables false

namespace Sys2Proof.Machine

theorem State.modFcx_kept {r₀ : State} (s : State) (n : Nat) (f : Fce → Fce) (h0 : Kept r₀ s) : Kept r₀ (State.modFcx s n f) := by
  unfold State.modFcx
  repeat' (first | with_reducible assumption | (intro t; first | (with_reducible refine Kept.cut t ?_ ?_; unfold t) | beta_reduce | skip) | with_reducible apply State.modFce_kept | with_reducible apply Kept.ite | with_reducible apply Kept.fold | with_reducible apply Kept.fold2 | with_reducible apply Kept.fold1 | (lift_lets; intro t; first | (with_reducible refine Kept.cut t ?_ ?_; unfold t) | skip) | dsimp -zeta only | split | dsimp +zetaDelta only)

end Sys2Proof.Machine
end

