-- ==== Sys2Proof/Laws/Kept/Pge.lean ====
section
/-!
SUPPORT. Every operation of Machine/Pge.lean leaves the queue and keeps the tables in canonical form.
-/

set_option linter.unreachableTactic false
set_option linter.unusedTactic false
set_option linter.unusedVariables false

namespace Sys2Proof.Machine

theorem State.pgeFill_kept {r₀ : State} (s : State) (n : Nat) (vec : Bool) (l : PgeLine) (h0 : Kept r₀ s) : Kept r₀ (State.pgeFill s n vec l) := by
  unfold State.pgeFill
  repeat' (first | with_reducible assumption | (intro t; first | (with_reducible refine Kept.cut t ?_ ?_; unfold t) | beta_reduce | skip) | with_reducible apply State.modPgx_kept | with_reducible apply Kept.ite | with_reducible apply Kept.fold | with_reducible apply Kept.fold2 | with_reducible apply Kept.fold1 | (lift_lets; intro t; first | (with_reducible refine Kept.cut t ?_ ?_; unfold t) | skip) | dsimp -zeta only | split | with_reducible apply Map.sortedFrom_filter | with_reducible apply Map.wf_filter | dsimp +zetaDelta only)

theorem State.pgeAsk_kept {r₀ : State} (s : State) (n a : Nat) (vec : Bool) (h0 : Kept r₀ s) : Kept r₀ (State.pgeAsk s n a vec) := by
  unfold State.pgeAsk
  repeat' (first | with_reducible assumption | (intro t; first | (with_reducible refine Kept.cut t ?_ ?_; unfold t) | beta_reduce | skip) | with_reducible apply State.modPgx_kept | with_reducible apply State.pgeFill_kept | with_reducible apply State.sendRead_kept | with_reducible apply Kept.ite | with_reducible apply Kept.fold | with_reducible apply Kept.fold2 | with_reducible apply Kept.fold1 | (lift_lets; intro t; first | (with_reducible refine Kept.cut t ?_ ?_; unfold t) | skip) | dsimp -zeta only | split | dsimp +zetaDelta only)

theorem State.pgeBadWord_kept {r₀ : State} (s : State) (n cause a : Nat) (h0 : Kept r₀ s) : Kept r₀ (State.pgeBadWord s n cause a) := by
  unfold State.pgeBadWord
  repeat' (first | with_reducible assumption | (intro t; first | (with_reducible refine Kept.cut t ?_ ?_; unfold t) | beta_reduce | skip) | with_reducible apply State.pgeFail_kept | with_reducible apply State.raise_kept | with_reducible apply State.setR_kept | with_reducible apply Kept.ite | with_reducible apply Kept.fold | with_reducible apply Kept.fold2 | with_reducible apply Kept.fold1 | (lift_lets; intro t; first | (with_reducible refine Kept.cut t ?_ ?_; unfold t) | skip) | dsimp -zeta only | split | dsimp +zetaDelta only)

theorem State.pgeFault_kept {r₀ : State} (s : State) (n cause : Nat) (h0 : Kept r₀ s) : Kept r₀ (State.pgeFault s n cause) := by
  unfold State.pgeFault
  repeat' (first | with_reducible assumption | (intro t; first | (with_reducible refine Kept.cut t ?_ ?_; unfold t) | beta_reduce | skip) | with_reducible apply State.pgeFail_kept | with_reducible apply State.raise_kept | with_reducible apply Kept.ite | with_reducible apply Kept.fold | with_reducible apply Kept.fold2 | with_reducible apply Kept.fold1 | (lift_lets; intro t; first | (with_reducible refine Kept.cut t ?_ ?_; unfold t) | skip) | dsimp -zeta only | split | dsimp +zetaDelta only)

theorem State.pgeLook_kept {r₀ : State} (s : State) (n : Nat) (h0 : Kept r₀ s) : Kept r₀ (State.pgeLook s n) := by
  unfold State.pgeLook
  repeat' (first | with_reducible assumption | (intro t; first | (with_reducible refine Kept.cut t ?_ ?_; unfold t) | beta_reduce | skip) | with_reducible apply State.pgeAsk_kept | with_reducible apply State.pgeBadWord_kept | with_reducible apply Kept.ite | with_reducible apply Kept.fold | with_reducible apply Kept.fold2 | with_reducible apply Kept.fold1 | (lift_lets; intro t; first | (with_reducible refine Kept.cut t ?_ ?_; unfold t) | skip) | dsimp -zeta only | split | dsimp +zetaDelta only)

theorem State.pgeAhead_kept {r₀ : State} (s : State) (n : Nat) (h0 : Kept r₀ s) : Kept r₀ (State.pgeAhead s n) := by
  unfold State.pgeAhead
  repeat' (first | with_reducible assumption | (intro t; first | (with_reducible refine Kept.cut t ?_ ?_; unfold t) | beta_reduce | skip) | with_reducible apply State.modPgx_kept | with_reducible apply State.pgeAsk_kept | with_reducible apply Kept.ite | with_reducible apply Kept.fold | with_reducible apply Kept.fold2 | with_reducible apply Kept.fold1 | (lift_lets; intro t; first | (with_reducible refine Kept.cut t ?_ ?_; unfold t) | skip) | dsimp -zeta only | split | with_reducible apply Map.sortedFrom_filter | with_reducible apply Map.wf_filter | dsimp +zetaDelta only)

theorem State.pgeGo_kept {r₀ : State} (s : State) (n pc : Nat) (h0 : Kept r₀ s) : Kept r₀ (State.pgeGo s n pc) := by
  unfold State.pgeGo
  repeat' (first | with_reducible assumption | (intro t; first | (with_reducible refine Kept.cut t ?_ ?_; unfold t) | beta_reduce | skip) | with_reducible apply State.modPgx_kept | with_reducible apply State.pgeLook_kept | with_reducible apply State.setR_kept | with_reducible apply Kept.ite | with_reducible apply Kept.fold | with_reducible apply Kept.fold2 | with_reducible apply Kept.fold1 | (lift_lets; intro t; first | (with_reducible refine Kept.cut t ?_ ?_; unfold t) | skip) | dsimp -zeta only | split | dsimp +zetaDelta only)

theorem State.pgeNext_kept {r₀ : State} (s : State) (n : Nat) (h0 : Kept r₀ s) : Kept r₀ (State.pgeNext s n) := by
  unfold State.pgeNext
  repeat' (first | with_reducible assumption | (intro t; first | (with_reducible refine Kept.cut t ?_ ?_; unfold t) | beta_reduce | skip) | with_reducible apply State.pgeGo_kept | with_reducible apply Kept.ite | with_reducible apply Kept.fold | with_reducible apply Kept.fold2 | with_reducible apply Kept.fold1 | (lift_lets; intro t; first | (with_reducible refine Kept.cut t ?_ ?_; unfold t) | skip) | dsimp -zeta only | split | dsimp +zetaDelta only)

theorem execPgeFetchResponse_kept {r₀ : State} (n : Fin 16) (s : State) (h0 : Kept r₀ s) : KeptR r₀ (execPgeFetchResponse n s) := by
  unfold execPgeFetchResponse
  repeat' (first | with_reducible assumption | (intro t; first | (with_reducible refine Kept.cut t ?_ ?_; unfold t) | beta_reduce | skip) | with_reducible apply KeptR.next | with_reducible apply State.pgeAhead_kept | with_reducible apply State.pgeFill_kept | with_reducible apply State.pgeLook_kept | with_reducible apply State.putInbox_kept | with_reducible apply Kept.ite | with_reducible apply KeptR.ite | with_reducible apply Kept.fold | with_reducible apply Kept.fold2 | with_reducible apply Kept.fold1 | (lift_lets; intro t; first | (with_reducible refine Kept.cut t ?_ ?_; unfold t) | skip) | dsimp -zeta only | split | with_reducible apply Map.sortedFrom_filter | with_reducible apply Map.wf_filter | dsimp +zetaDelta only)

theorem State.addVec_kept {r₀ : State} (s : State) (n g num : Nat) (v : PgeVec) (h0 : Kept r₀ s) : Kept r₀ (State.addVec s n g num v) := by
  unfold State.addVec
  repeat' (first | with_reducible assumption | (intro t; first | (with_reducible refine Kept.cut t ?_ ?_; unfold t) | beta_reduce | skip) | with_reducible apply State.breach_kept | with_reducible apply State.modOut_kept | with_reducible apply Kept.ite | with_reducible apply Kept.fold | with_reducible apply Kept.fold2 | with_reducible apply Kept.fold1 | (lift_lets; intro t; first | (with_reducible refine Kept.cut t ?_ ?_; unfold t) | skip) | dsimp -zeta only | split | dsimp +zetaDelta only)

theorem State.emitOne_kept {r s t : State} {n ts : Nat} {adr : AvAddr} {grp : Nat → Nat × Nat} (h : Kept r s)
    (q : s.emitOne n ts adr grp = some t) : Kept r t := by
  unfold State.emitOne at q
  dsimp only at q
  split at q
  · cases q
    exact State.modPgx_kept _ _ _ (State.setR_kept _ _ _ _ (State.setR_kept _ _ _ _ (Kept.fold (fun u g hu => State.addVec_kept u _ _ _ _ hu) h)))
  · cases q

theorem State.pgeFinish_kept {r₀ : State} (s : State) (n : Nat) (h0 : Kept r₀ s) : Kept r₀ (State.pgeFinish s n) := by
  unfold State.pgeFinish
  repeat' (first | with_reducible assumption | (intro t; first | (with_reducible refine Kept.cut t ?_ ?_; unfold t) | beta_reduce | skip) | with_reducible apply State.pgeSt_kept | with_reducible apply State.raise_kept | with_reducible apply Kept.ite | with_reducible apply Kept.fold | with_reducible apply Kept.fold2 | with_reducible apply Kept.fold1 | (lift_lets; intro t; first | (with_reducible refine Kept.cut t ?_ ?_; unfold t) | skip) | dsimp -zeta only | split | dsimp +zetaDelta only)

theorem State.stopEnd_kept {r₀ : State} (s : State) (n : Nat) (h0 : Kept r₀ s) : Kept r₀ (State.stopEnd s n) := by
  unfold State.stopEnd
  repeat' (first | with_reducible assumption | (intro t; first | (with_reducible refine Kept.cut t ?_ ?_; unfold t) | beta_reduce | skip) | with_reducible apply State.endRun_kept | with_reducible apply State.pgeFinish_kept | with_reducible apply State.setR_kept | with_reducible apply Kept.ite | with_reducible apply Kept.fold | with_reducible apply Kept.fold2 | with_reducible apply Kept.fold1 | (lift_lets; intro t; first | (with_reducible refine Kept.cut t ?_ ?_; unfold t) | skip) | dsimp -zeta only | split | dsimp +zetaDelta only)

theorem State.closeBroken_kept {r₀ : State} (s : State) (n : Nat) (h0 : Kept r₀ s) : Kept r₀ (State.closeBroken s n) := by
  unfold State.closeBroken
  repeat' (first | with_reducible assumption | (intro t; first | (with_reducible refine Kept.cut t ?_ ?_; unfold t) | beta_reduce | skip) | with_reducible apply State.modOut_kept | with_reducible apply Kept.ite | with_reducible apply Kept.fold | with_reducible apply Kept.fold2 | with_reducible apply Kept.fold1 | (lift_lets; intro t; first | (with_reducible refine Kept.cut t ?_ ?_; unfold t) | skip) | dsimp -zeta only | split | dsimp +zetaDelta only)

theorem State.emitMany_kept {r : State} (n ts : Nat) (adr : AvAddr) (grp : Nat → Nat × Nat) (k : Nat) (s : State) (h : Kept r s) :
    Kept r (State.emitMany n ts adr grp k s).2 := by
  induction k generalizing s with
  | zero => exact h
  | succ k ih =>
    unfold State.emitMany
    split
    · exact State.stopEnd_kept _ _ h
    · split
      · exact State.closeBroken_kept _ _ h
      · exact ih _ (State.emitOne_kept h (by assumption))

theorem State.closeForming_kept {r₀ : State} (s : State) (n : Nat) (h0 : Kept r₀ s) : Kept r₀ (State.closeForming s n) := by
  unfold State.closeForming
  repeat' (first | with_reducible assumption | (intro t; first | (with_reducible refine Kept.cut t ?_ ?_; unfold t) | beta_reduce | skip) | with_reducible apply State.modOut_kept | with_reducible apply Kept.ite | with_reducible apply Kept.fold | with_reducible apply Kept.fold2 | with_reducible apply Kept.fold1 | (lift_lets; intro t; first | (with_reducible refine Kept.cut t ?_ ?_; unfold t) | skip) | dsimp -zeta only | split | dsimp +zetaDelta only)

theorem State.latch_kept {r₀ : State} (s : State) (n f : Nat) (v : Bool) (h0 : Kept r₀ s) : Kept r₀ (State.latch s n f v) := by
  unfold State.latch
  repeat' (first | with_reducible assumption | (intro t; first | (with_reducible refine Kept.cut t ?_ ?_; unfold t) | beta_reduce | skip) | with_reducible apply State.setR_kept | with_reducible apply Kept.ite | with_reducible apply Kept.fold | with_reducible apply Kept.fold2 | with_reducible apply Kept.fold1 | (lift_lets; intro t; first | (with_reducible refine Kept.cut t ?_ ?_; unfold t) | skip) | dsimp -zeta only | split | dsimp +zetaDelta only)

theorem State.svReset_kept {r₀ : State} (s : State) (n w : Nat) (h0 : Kept r₀ s) : Kept r₀ (State.svReset s n w) := by
  unfold State.svReset
  repeat' (first | with_reducible assumption | (intro t; first | (with_reducible refine Kept.cut t ?_ ?_; unfold t) | beta_reduce | skip) | with_reducible apply State.latch_kept | with_reducible apply State.modPgx_kept | with_reducible apply State.setR_kept | with_reducible apply Kept.ite | with_reducible apply Kept.fold | with_reducible apply Kept.fold2 | with_reducible apply Kept.fold1 | (lift_lets; intro t; first | (with_reducible refine Kept.cut t ?_ ?_; unfold t) | skip) | dsimp -zeta only | split | with_reducible apply Map.sortedFrom_filter | with_reducible apply Map.wf_filter | dsimp +zetaDelta only)

theorem State.pgeClear_kept {r₀ : State} (s : State) (n : Nat) (h0 : Kept r₀ s) : Kept r₀ (State.pgeClear s n) := by
  unfold State.pgeClear
  repeat' (first | with_reducible assumption | (intro t; first | (with_reducible refine Kept.cut t ?_ ?_; unfold t) | beta_reduce | skip) | with_reducible apply State.modPgx_kept | with_reducible apply State.setEach_kept | with_reducible apply State.setR_kept | with_reducible apply State.svReset_kept | with_reducible apply Kept.ite | with_reducible apply Kept.fold | with_reducible apply Kept.fold2 | with_reducible apply Kept.fold1 | (lift_lets; intro t; first | (with_reducible refine Kept.cut t ?_ ?_; unfold t) | skip) | dsimp -zeta only | split | dsimp +zetaDelta only)

theorem execPgeArm_kept {r₀ : State} (n : Fin 16) (s : State) (h0 : Kept r₀ s) : KeptR r₀ (execPgeArm n s) := by
  unfold execPgeArm
  repeat' (first | with_reducible assumption | (intro t; first | (with_reducible refine Kept.cut t ?_ ?_; unfold t) | beta_reduce | skip) | with_reducible apply KeptR.next | with_reducible apply State.modPgx_kept | with_reducible apply State.pgeAhead_kept | with_reducible apply State.pgeClear_kept | with_reducible apply State.pgeGo_kept | with_reducible apply State.pgeSt_kept | with_reducible apply State.setR_kept | with_reducible apply State.touchPair_kept | with_reducible apply Kept.ite | with_reducible apply KeptR.ite | with_reducible apply Kept.fold | with_reducible apply Kept.fold2 | with_reducible apply Kept.fold1 | (lift_lets; intro t; first | (with_reducible refine Kept.cut t ?_ ?_; unfold t) | skip) | dsimp -zeta only | split | dsimp +zetaDelta only)

theorem State.pgeAbort_kept {r₀ : State} (s : State) (n : Nat) (h0 : Kept r₀ s) : Kept r₀ (State.pgeAbort s n) := by
  unfold State.pgeAbort
  repeat' (first | with_reducible assumption | (intro t; first | (with_reducible refine Kept.cut t ?_ ?_; unfold t) | beta_reduce | skip) | with_reducible apply State.modPgx_kept | with_reducible apply State.pgeSt_kept | with_reducible apply State.raise_kept | with_reducible apply State.setR_kept | with_reducible apply Kept.ite | with_reducible apply Kept.fold | with_reducible apply Kept.fold2 | with_reducible apply Kept.fold1 | (lift_lets; intro t; first | (with_reducible refine Kept.cut t ?_ ?_; unfold t) | skip) | dsimp -zeta only | split | dsimp +zetaDelta only)

theorem execPgeAbort_kept {r₀ : State} (n : Fin 16) (s : State) (h0 : Kept r₀ s) : KeptR r₀ (execPgeAbort n s) := by
  unfold execPgeAbort
  repeat' (first | with_reducible assumption | (intro t; first | (with_reducible refine Kept.cut t ?_ ?_; unfold t) | beta_reduce | skip) | with_reducible apply KeptR.next | with_reducible apply State.pgeAbort_kept | with_reducible apply State.setR_kept | with_reducible apply State.touchPair_kept | with_reducible apply State.when_kept | with_reducible apply Kept.ite | with_reducible apply KeptR.ite | with_reducible apply Kept.fold | with_reducible apply Kept.fold2 | with_reducible apply Kept.fold1 | (lift_lets; intro t; first | (with_reducible refine Kept.cut t ?_ ?_; unfold t) | skip) | dsimp -zeta only | split | dsimp +zetaDelta only)

theorem State.pgeHalt_kept {r₀ : State} (s : State) (n w : Nat) (h0 : Kept r₀ s) : Kept r₀ (State.pgeHalt s n w) := by
  unfold State.pgeHalt
  repeat' (first | with_reducible assumption | (intro t; first | (with_reducible refine Kept.cut t ?_ ?_; unfold t) | beta_reduce | skip) | with_reducible apply State.closeForming_kept | with_reducible apply State.endRun_kept | with_reducible apply State.markCommit_kept | with_reducible apply State.pgeFinish_kept | with_reducible apply State.pgeSt_kept | with_reducible apply State.raise_kept | with_reducible apply State.setR_kept | with_reducible apply Kept.ite | with_reducible apply Kept.fold | with_reducible apply Kept.fold2 | with_reducible apply Kept.fold1 | (lift_lets; intro t; first | (with_reducible refine Kept.cut t ?_ ?_; unfold t) | skip) | dsimp -zeta only | split | dsimp +zetaDelta only)

theorem State.stopWith_kept {r₀ : State} (s t : State) (n : Nat) (h0 : Kept r₀ s) (h1 : Kept r₀ t) : Kept r₀ (State.stopWith s t n) := by
  unfold State.stopWith
  repeat' (first | with_reducible assumption | (intro t; first | (with_reducible refine Kept.cut t ?_ ?_; unfold t) | beta_reduce | skip) | with_reducible apply State.pgeHalt_kept | with_reducible apply State.stopEnd_kept | with_reducible apply Kept.ite | with_reducible apply Kept.fold | with_reducible apply Kept.fold2 | with_reducible apply Kept.fold1 | (lift_lets; intro t; first | (with_reducible refine Kept.cut t ?_ ?_; unfold t) | skip) | dsimp -zeta only | split | dsimp +zetaDelta only)

theorem execPgeStop_kept {r₀ : State} (n : Fin 16) (s : State) (h0 : Kept r₀ s) : KeptR r₀ (execPgeStop n s) := by
  unfold execPgeStop
  repeat' (first | with_reducible assumption | (intro t; first | (with_reducible refine Kept.cut t ?_ ?_; unfold t) | beta_reduce | skip) | with_reducible apply KeptR.next | with_reducible apply State.modOut_kept | with_reducible apply State.modPgx_kept | with_reducible apply State.pgeAbort_kept | with_reducible apply State.stopWith_kept | with_reducible apply State.touchPair_kept | with_reducible apply Kept.ite | with_reducible apply KeptR.ite | with_reducible apply Kept.fold | with_reducible apply Kept.fold2 | with_reducible apply Kept.fold1 | (lift_lets; intro t; first | (with_reducible refine Kept.cut t ?_ ?_; unfold t) | skip) | dsimp -zeta only | split | with_reducible apply Map.sortedFrom_filter | with_reducible apply Map.wf_filter | dsimp +zetaDelta only)

theorem execPgeSrst_kept {r₀ : State} (n : Fin 16) (s : State) (h0 : Kept r₀ s) : KeptR r₀ (execPgeSrst n s) := by
  unfold execPgeSrst
  repeat' (first | with_reducible assumption | (intro t; first | (with_reducible refine Kept.cut t ?_ ?_; unfold t) | beta_reduce | skip) | with_reducible apply KeptR.next | with_reducible apply State.pgeClear_kept | with_reducible apply State.pgeSt_kept | with_reducible apply State.setR_kept | with_reducible apply State.touchPair_kept | with_reducible apply Kept.ite | with_reducible apply KeptR.ite | with_reducible apply Kept.fold | with_reducible apply Kept.fold2 | with_reducible apply Kept.fold1 | (lift_lets; intro t; first | (with_reducible refine Kept.cut t ?_ ?_; unfold t) | skip) | dsimp -zeta only | split | dsimp +zetaDelta only)

theorem execPgeNop_kept {r₀ : State} (n : Fin 16) (s : State) (h0 : Kept r₀ s) : KeptR r₀ (execPgeNop n s) := by
  unfold execPgeNop
  repeat' (first | with_reducible assumption | (intro t; first | (with_reducible refine Kept.cut t ?_ ?_; unfold t) | beta_reduce | skip) | with_reducible apply KeptR.next | with_reducible apply State.pgeNext_kept | with_reducible apply Kept.ite | with_reducible apply KeptR.ite | with_reducible apply Kept.fold | with_reducible apply Kept.fold2 | with_reducible apply Kept.fold1 | (lift_lets; intro t; first | (with_reducible refine Kept.cut t ?_ ?_; unfold t) | skip) | dsimp -zeta only | split | dsimp +zetaDelta only)

theorem execPgeHalt_kept {r₀ : State} (n : Fin 16) (s : State) (h0 : Kept r₀ s) : KeptR r₀ (execPgeHalt n s) := by
  unfold execPgeHalt
  repeat' (first | with_reducible assumption | (intro t; first | (with_reducible refine Kept.cut t ?_ ?_; unfold t) | beta_reduce | skip) | with_reducible apply KeptR.next | with_reducible apply State.pgeHalt_kept | with_reducible apply Kept.ite | with_reducible apply KeptR.ite | with_reducible apply Kept.fold | with_reducible apply Kept.fold2 | with_reducible apply Kept.fold1 | (lift_lets; intro t; first | (with_reducible refine Kept.cut t ?_ ?_; unfold t) | skip) | dsimp -zeta only | split | dsimp +zetaDelta only)

theorem execPgeJmp_kept {r₀ : State} (n : Fin 16) (s : State) (h0 : Kept r₀ s) : KeptR r₀ (execPgeJmp n s) := by
  unfold execPgeJmp
  repeat' (first | with_reducible assumption | (intro t; first | (with_reducible refine Kept.cut t ?_ ?_; unfold t) | beta_reduce | skip) | with_reducible apply KeptR.next | with_reducible apply State.pgeGo_kept | with_reducible apply Kept.ite | with_reducible apply KeptR.ite | with_reducible apply Kept.fold | with_reducible apply Kept.fold2 | with_reducible apply Kept.fold1 | (lift_lets; intro t; first | (with_reducible refine Kept.cut t ?_ ?_; unfold t) | skip) | dsimp -zeta only | split | dsimp +zetaDelta only)

theorem execPgeCall_kept {r₀ : State} (n : Fin 16) (s : State) (h0 : Kept r₀ s) : KeptR r₀ (execPgeCall n s) := by
  unfold execPgeCall
  repeat' (first | with_reducible assumption | (intro t; first | (with_reducible refine Kept.cut t ?_ ?_; unfold t) | beta_reduce | skip) | with_reducible apply KeptR.next | with_reducible apply State.modPgx_kept | with_reducible apply State.pgeFault_kept | with_reducible apply State.pgeGo_kept | with_reducible apply State.setR_kept | with_reducible apply Kept.ite | with_reducible apply KeptR.ite | with_reducible apply Kept.fold | with_reducible apply Kept.fold2 | with_reducible apply Kept.fold1 | (lift_lets; intro t; first | (with_reducible refine Kept.cut t ?_ ?_; unfold t) | skip) | dsimp -zeta only | split | dsimp +zetaDelta only)

theorem execPgeRet_kept {r₀ : State} (n : Fin 16) (s : State) (h0 : Kept r₀ s) : KeptR r₀ (execPgeRet n s) := by
  unfold execPgeRet
  repeat' (first | with_reducible assumption | (intro t; first | (with_reducible refine Kept.cut t ?_ ?_; unfold t) | beta_reduce | skip) | with_reducible apply KeptR.next | with_reducible apply State.modPgx_kept | with_reducible apply State.pgeFault_kept | with_reducible apply State.pgeGo_kept | with_reducible apply State.setR_kept | with_reducible apply Kept.ite | with_reducible apply KeptR.ite | with_reducible apply Kept.fold | with_reducible apply Kept.fold2 | with_reducible apply Kept.fold1 | (lift_lets; intro t; first | (with_reducible refine Kept.cut t ?_ ?_; unfold t) | skip) | dsimp -zeta only | split | dsimp +zetaDelta only)

theorem execPgeBr_kept {r₀ : State} (n : Fin 16) (s : State) (h0 : Kept r₀ s) : KeptR r₀ (execPgeBr n s) := by
  unfold execPgeBr
  repeat' (first | with_reducible assumption | (intro t; first | (with_reducible refine Kept.cut t ?_ ?_; unfold t) | beta_reduce | skip) | with_reducible apply KeptR.next | with_reducible apply State.pgeGo_kept | with_reducible apply State.pgeNext_kept | with_reducible apply Kept.ite | with_reducible apply KeptR.ite | with_reducible apply Kept.fold | with_reducible apply Kept.fold2 | with_reducible apply Kept.fold1 | (lift_lets; intro t; first | (with_reducible refine Kept.cut t ?_ ?_; unfold t) | skip) | dsimp -zeta only | split | dsimp +zetaDelta only)

theorem execPgeLdc_kept {r₀ : State} (n : Fin 16) (s : State) (h0 : Kept r₀ s) : KeptR r₀ (execPgeLdc n s) := by
  unfold execPgeLdc
  repeat' (first | with_reducible assumption | (intro t; first | (with_reducible refine Kept.cut t ?_ ?_; unfold t) | beta_reduce | skip) | with_reducible apply KeptR.next | with_reducible apply State.pgeNext_kept | with_reducible apply State.setR_kept | with_reducible apply Kept.ite | with_reducible apply KeptR.ite | with_reducible apply Kept.fold | with_reducible apply Kept.fold2 | with_reducible apply Kept.fold1 | (lift_lets; intro t; first | (with_reducible refine Kept.cut t ?_ ?_; unfold t) | skip) | dsimp -zeta only | split | dsimp +zetaDelta only)

theorem execPgeDjnz_kept {r₀ : State} (n : Fin 16) (s : State) (h0 : Kept r₀ s) : KeptR r₀ (execPgeDjnz n s) := by
  unfold execPgeDjnz
  repeat' (first | with_reducible assumption | (intro t; first | (with_reducible refine Kept.cut t ?_ ?_; unfold t) | beta_reduce | skip) | with_reducible apply KeptR.next | with_reducible apply State.pgeGo_kept | with_reducible apply State.pgeNext_kept | with_reducible apply State.setR_kept | with_reducible apply Kept.ite | with_reducible apply KeptR.ite | with_reducible apply Kept.fold | with_reducible apply Kept.fold2 | with_reducible apply Kept.fold1 | (lift_lets; intro t; first | (with_reducible refine Kept.cut t ?_ ?_; unfold t) | skip) | dsimp -zeta only | split | dsimp +zetaDelta only)

theorem execPgeTset_kept {r₀ : State} (n : Fin 16) (s : State) (h0 : Kept r₀ s) : KeptR r₀ (execPgeTset n s) := by
  unfold execPgeTset
  repeat' (first | with_reducible assumption | (intro t; first | (with_reducible refine Kept.cut t ?_ ?_; unfold t) | beta_reduce | skip) | with_reducible apply KeptR.next | with_reducible apply State.modPgx_kept | with_reducible apply State.pgeNext_kept | with_reducible apply Kept.ite | with_reducible apply KeptR.ite | with_reducible apply Kept.fold | with_reducible apply Kept.fold2 | with_reducible apply Kept.fold1 | (lift_lets; intro t; first | (with_reducible refine Kept.cut t ?_ ?_; unfold t) | skip) | dsimp -zeta only | split | dsimp +zetaDelta only)

theorem State.takeRecord_kept {r₀ : State} (s : State) (n type : Nat) (h0 : Kept r₀ s) : Kept r₀ (State.takeRecord s n type) := by
  unfold State.takeRecord
  repeat' (first | with_reducible assumption | (intro t; first | (with_reducible refine Kept.cut t ?_ ?_; unfold t) | beta_reduce | skip) | with_reducible apply State.latch_kept | with_reducible apply State.modPgx_kept | with_reducible apply State.pgeAhead_kept | with_reducible apply State.setR_kept | with_reducible apply Kept.ite | with_reducible apply Kept.fold | with_reducible apply Kept.fold2 | with_reducible apply Kept.fold1 | (lift_lets; intro t; first | (with_reducible refine Kept.cut t ?_ ?_; unfold t) | skip) | dsimp -zeta only | split | dsimp +zetaDelta only)

theorem execPgeRecordDelta_kept {r₀ : State} (n : Fin 16) (s : State) (h0 : Kept r₀ s) : KeptR r₀ (execPgeRecordDelta n s) := by
  unfold execPgeRecordDelta
  repeat' (first | with_reducible assumption | (intro t; first | (with_reducible refine Kept.cut t ?_ ?_; unfold t) | beta_reduce | skip) | with_reducible apply KeptR.next | with_reducible apply State.takeRecord_kept | with_reducible apply Kept.ite | with_reducible apply KeptR.ite | with_reducible apply Kept.fold | with_reducible apply Kept.fold2 | with_reducible apply Kept.fold1 | (lift_lets; intro t; first | (with_reducible refine Kept.cut t ?_ ?_; unfold t) | skip) | dsimp -zeta only | split | dsimp +zetaDelta only)

theorem execPgeRecordToggle_kept {r₀ : State} (n : Fin 16) (s : State) (h0 : Kept r₀ s) : KeptR r₀ (execPgeRecordToggle n s) := by
  unfold execPgeRecordToggle
  repeat' (first | with_reducible assumption | (intro t; first | (with_reducible refine Kept.cut t ?_ ?_; unfold t) | beta_reduce | skip) | with_reducible apply KeptR.next | with_reducible apply State.takeRecord_kept | with_reducible apply Kept.ite | with_reducible apply KeptR.ite | with_reducible apply Kept.fold | with_reducible apply Kept.fold2 | with_reducible apply Kept.fold1 | (lift_lets; intro t; first | (with_reducible refine Kept.cut t ?_ ?_; unfold t) | skip) | dsimp -zeta only | split | dsimp +zetaDelta only)

theorem execPgeRecordEnd_kept {r₀ : State} (n : Fin 16) (s : State) (h0 : Kept r₀ s) : KeptR r₀ (execPgeRecordEnd n s) := by
  unfold execPgeRecordEnd
  repeat' (first | with_reducible assumption | (intro t; first | (with_reducible refine Kept.cut t ?_ ?_; unfold t) | beta_reduce | skip) | with_reducible apply KeptR.next | with_reducible apply State.takeRecord_kept | with_reducible apply Kept.ite | with_reducible apply KeptR.ite | with_reducible apply Kept.fold | with_reducible apply Kept.fold2 | with_reducible apply Kept.fold1 | (lift_lets; intro t; first | (with_reducible refine Kept.cut t ?_ ?_; unfold t) | skip) | dsimp -zeta only | split | dsimp +zetaDelta only)

theorem execPgeSv_kept {r₀ : State} (n : Fin 16) (s : State) (h0 : Kept r₀ s) : KeptR r₀ (execPgeSv n s) := by
  unfold execPgeSv
  repeat' (first | with_reducible assumption | (intro t; first | (with_reducible refine Kept.cut t ?_ ?_; unfold t) | beta_reduce | skip) | with_reducible apply KeptR.next | with_reducible apply State.emitMany_kept | with_reducible apply State.modPgx_kept | with_reducible apply State.pgeBadWord_kept | with_reducible apply State.pgeFault_kept | with_reducible apply State.pgeNext_kept | with_reducible apply Kept.ite | with_reducible apply KeptR.ite | with_reducible apply Kept.fold | with_reducible apply Kept.fold2 | with_reducible apply Kept.fold1 | (lift_lets; intro t; first | (with_reducible refine Kept.cut t ?_ ?_; unfold t) | skip) | dsimp -zeta only | split | dsimp +zetaDelta only)

theorem execPgeSvptr_kept {r₀ : State} (n : Fin 16) (s : State) (h0 : Kept r₀ s) : KeptR r₀ (execPgeSvptr n s) := by
  unfold execPgeSvptr
  repeat' (first | with_reducible assumption | (intro t; first | (with_reducible refine Kept.cut t ?_ ?_; unfold t) | beta_reduce | skip) | with_reducible apply KeptR.next | with_reducible apply State.pgeAhead_kept | with_reducible apply State.pgeNext_kept | with_reducible apply State.svReset_kept | with_reducible apply Kept.ite | with_reducible apply KeptR.ite | with_reducible apply Kept.fold | with_reducible apply Kept.fold2 | with_reducible apply Kept.fold1 | (lift_lets; intro t; first | (with_reducible refine Kept.cut t ?_ ?_; unfold t) | skip) | dsimp -zeta only | split | dsimp +zetaDelta only)

theorem State.chainStep_kept {r : State} (s : State) (n : Nat) (l : List Nat) (h : Kept r s) : Kept r (s.chainStep n l) := by
  induction l generalizing s with
  | nil => exact State.latch_kept _ _ _ _ h
  | cons c l ih =>
    have hk : ∀ f v b, Kept r (if b = true then (((s.setR f n v).latch n (25 + c) true).chainStep n l) else s.setR f n v) := fun f v b => by
      split
      · exact ih _ (State.latch_kept _ _ _ _ (State.setR_kept _ _ _ _ h))
      · exact State.setR_kept _ _ _ _ h
    exact hk _ _ _

theorem State.stepChain_kept {r : State} (s : State) (n : Nat) (h : Kept r s) : Kept r (s.stepChain n) :=
  State.chainStep_kept _ _ _ (State.latch_kept _ _ _ _ (State.latch_kept _ _ _ _ (State.latch_kept _ _ _ _ (State.latch_kept _ _ _ _ h))))

theorem execPgeAv_kept {r₀ : State} (n : Fin 16) (s : State) (h0 : Kept r₀ s) : KeptR r₀ (execPgeAv n s) := by
  unfold execPgeAv
  repeat' (first | with_reducible assumption | (intro t; first | (with_reducible refine Kept.cut t ?_ ?_; unfold t) | beta_reduce | skip) | with_reducible apply KeptR.next | with_reducible apply State.emitMany_kept | with_reducible apply State.modPgx_kept | with_reducible apply State.pgeNext_kept | with_reducible apply State.stepChain_kept | with_reducible apply Kept.ite | with_reducible apply KeptR.ite | with_reducible apply Kept.fold | with_reducible apply Kept.fold2 | with_reducible apply Kept.fold1 | (lift_lets; intro t; first | (with_reducible refine Kept.cut t ?_ ?_; unfold t) | skip) | dsimp -zeta only | split | dsimp +zetaDelta only)

theorem execPgeWaitt_kept {r₀ : State} (n : Fin 16) (s : State) (h0 : Kept r₀ s) : KeptR r₀ (execPgeWaitt n s) := by
  unfold execPgeWaitt
  repeat' (first | with_reducible assumption | (intro t; first | (with_reducible refine Kept.cut t ?_ ?_; unfold t) | beta_reduce | skip) | with_reducible apply KeptR.next | with_reducible apply State.pgeNext_kept | with_reducible apply State.setR_kept | with_reducible apply Kept.ite | with_reducible apply KeptR.ite | with_reducible apply Kept.fold | with_reducible apply Kept.fold2 | with_reducible apply Kept.fold1 | (lift_lets; intro t; first | (with_reducible refine Kept.cut t ?_ ?_; unfold t) | skip) | dsimp -zeta only | split | dsimp +zetaDelta only)

theorem execPgeWaitf_kept {r₀ : State} (n : Fin 16) (s : State) (h0 : Kept r₀ s) : KeptR r₀ (execPgeWaitf n s) := by
  unfold execPgeWaitf
  repeat' (first | with_reducible assumption | (intro t; first | (with_reducible refine Kept.cut t ?_ ?_; unfold t) | beta_reduce | skip) | with_reducible apply KeptR.next | with_reducible apply State.closeForming_kept | with_reducible apply State.modPgx_kept | with_reducible apply Kept.ite | with_reducible apply KeptR.ite | with_reducible apply Kept.fold | with_reducible apply Kept.fold2 | with_reducible apply Kept.fold1 | (lift_lets; intro t; first | (with_reducible refine Kept.cut t ?_ ?_; unfold t) | skip) | dsimp -zeta only | split | dsimp +zetaDelta only)

theorem execPgeSyncv_kept {r₀ : State} (n : Fin 16) (s : State) (h0 : Kept r₀ s) : KeptR r₀ (execPgeSyncv n s) := by
  unfold execPgeSyncv
  repeat' (first | with_reducible assumption | (intro t; first | (with_reducible refine Kept.cut t ?_ ?_; unfold t) | beta_reduce | skip) | with_reducible apply KeptR.next | with_reducible apply State.closeForming_kept | with_reducible apply State.modPgx_kept | with_reducible apply Kept.ite | with_reducible apply KeptR.ite | with_reducible apply Kept.fold | with_reducible apply Kept.fold2 | with_reducible apply Kept.fold1 | (lift_lets; intro t; first | (with_reducible refine Kept.cut t ?_ ?_; unfold t) | skip) | dsimp -zeta only | split | dsimp +zetaDelta only)

theorem State.waitOver_kept {r₀ : State} (s : State) (n : Nat) (tmo : Bool) (h0 : Kept r₀ s) : Kept r₀ (State.waitOver s n tmo) := by
  unfold State.waitOver
  repeat' (first | with_reducible assumption | (intro t; first | (with_reducible refine Kept.cut t ?_ ?_; unfold t) | beta_reduce | skip) | with_reducible apply State.latch_kept | with_reducible apply State.modPgx_kept | with_reducible apply State.pgeNext_kept | with_reducible apply State.setR_kept | with_reducible apply Kept.ite | with_reducible apply Kept.fold | with_reducible apply Kept.fold2 | with_reducible apply Kept.fold1 | (lift_lets; intro t; first | (with_reducible refine Kept.cut t ?_ ?_; unfold t) | skip) | dsimp -zeta only | split | dsimp +zetaDelta only)

theorem execPgeWaitEnd_kept {r₀ : State} (n : Fin 16) (s : State) (h0 : Kept r₀ s) : KeptR r₀ (execPgeWaitEnd n s) := by
  unfold execPgeWaitEnd
  repeat' (first | with_reducible assumption | (intro t; first | (with_reducible refine Kept.cut t ?_ ?_; unfold t) | beta_reduce | skip) | with_reducible apply KeptR.next | with_reducible apply State.waitOver_kept | with_reducible apply State.when_kept | with_reducible apply Kept.ite | with_reducible apply KeptR.ite | with_reducible apply Kept.fold | with_reducible apply Kept.fold2 | with_reducible apply Kept.fold1 | (lift_lets; intro t; first | (with_reducible refine Kept.cut t ?_ ?_; unfold t) | skip) | dsimp -zeta only | split | dsimp +zetaDelta only)

theorem execPgeWaitTimeout_kept {r₀ : State} (n : Fin 16) (s : State) (h0 : Kept r₀ s) : KeptR r₀ (execPgeWaitTimeout n s) := by
  unfold execPgeWaitTimeout
  repeat' (first | with_reducible assumption | (intro t; first | (with_reducible refine Kept.cut t ?_ ?_; unfold t) | beta_reduce | skip) | with_reducible apply KeptR.next | with_reducible apply State.waitOver_kept | with_reducible apply State.when_kept | with_reducible apply Kept.ite | with_reducible apply KeptR.ite | with_reducible apply Kept.fold | with_reducible apply Kept.fold2 | with_reducible apply Kept.fold1 | (lift_lets; intro t; first | (with_reducible refine Kept.cut t ?_ ?_; unfold t) | skip) | dsimp -zeta only | split | dsimp +zetaDelta only)

theorem State.ldg_kept {r₀ : State} (s : State) (n i v : Nat) (h0 : Kept r₀ s) : Kept r₀ (State.ldg s n i v) := by
  unfold State.ldg
  repeat' (first | with_reducible assumption | (intro t; first | (with_reducible refine Kept.cut t ?_ ?_; unfold t) | beta_reduce | skip) | with_reducible apply State.setR_kept | with_reducible apply Kept.ite | with_reducible apply Kept.fold | with_reducible apply Kept.fold2 | with_reducible apply Kept.fold1 | (lift_lets; intro t; first | (with_reducible refine Kept.cut t ?_ ?_; unfold t) | skip) | dsimp -zeta only | split | dsimp +zetaDelta only)

theorem execPgeLdg_kept {r₀ : State} (n : Fin 16) (s : State) (h0 : Kept r₀ s) : KeptR r₀ (execPgeLdg n s) := by
  unfold execPgeLdg
  repeat' (first | with_reducible assumption | (intro t; first | (with_reducible refine Kept.cut t ?_ ?_; unfold t) | beta_reduce | skip) | with_reducible apply KeptR.next | with_reducible apply State.ldg_kept | with_reducible apply State.pgeNext_kept | with_reducible apply Kept.ite | with_reducible apply KeptR.ite | with_reducible apply Kept.fold | with_reducible apply Kept.fold2 | with_reducible apply Kept.fold1 | (lift_lets; intro t; first | (with_reducible refine Kept.cut t ?_ ?_; unfold t) | skip) | dsimp -zeta only | split | dsimp +zetaDelta only)

theorem execPgeSflag_kept {r₀ : State} (n : Fin 16) (s : State) (h0 : Kept r₀ s) : KeptR r₀ (execPgeSflag n s) := by
  unfold execPgeSflag
  repeat' (first | with_reducible assumption | (intro t; first | (with_reducible refine Kept.cut t ?_ ?_; unfold t) | beta_reduce | skip) | with_reducible apply KeptR.next | with_reducible apply State.pgeNext_kept | with_reducible apply State.setR_kept | with_reducible apply Kept.ite | with_reducible apply KeptR.ite | with_reducible apply Kept.fold | with_reducible apply Kept.fold2 | with_reducible apply Kept.fold1 | (lift_lets; intro t; first | (with_reducible refine Kept.cut t ?_ ?_; unfold t) | skip) | dsimp -zeta only | split | dsimp +zetaDelta only)

theorem execPgeEvt_kept {r₀ : State} (n : Fin 16) (s : State) (h0 : Kept r₀ s) : KeptR r₀ (execPgeEvt n s) := by
  unfold execPgeEvt
  repeat' (first | with_reducible assumption | (intro t; first | (with_reducible refine Kept.cut t ?_ ?_; unfold t) | beta_reduce | skip) | with_reducible apply KeptR.next | with_reducible apply State.pgeNext_kept | with_reducible apply State.raise_kept | with_reducible apply Kept.ite | with_reducible apply KeptR.ite | with_reducible apply Kept.fold | with_reducible apply Kept.fold2 | with_reducible apply Kept.fold1 | (lift_lets; intro t; first | (with_reducible refine Kept.cut t ?_ ?_; unfold t) | skip) | dsimp -zeta only | split | dsimp +zetaDelta only)

theorem execPgeIllegalOpcode_kept {r₀ : State} (n : Fin 16) (s : State) (h0 : Kept r₀ s) : KeptR r₀ (execPgeIllegalOpcode n s) := by
  unfold execPgeIllegalOpcode
  repeat' (first | with_reducible assumption | (intro t; first | (with_reducible refine Kept.cut t ?_ ?_; unfold t) | beta_reduce | skip) | with_reducible apply KeptR.next | with_reducible apply State.pgeFault_kept | with_reducible apply State.when_kept | with_reducible apply Kept.ite | with_reducible apply KeptR.ite | with_reducible apply Kept.fold | with_reducible apply Kept.fold2 | with_reducible apply Kept.fold1 | (lift_lets; intro t; first | (with_reducible refine Kept.cut t ?_ ?_; unfold t) | skip) | dsimp -zeta only | split | dsimp +zetaDelta only)

theorem execPgeLeadClose_kept {r₀ : State} (n : Fin 16) (g : Fin 16) (s : State) (h0 : Kept r₀ s) : KeptR r₀ (execPgeLeadClose n g s) := by
  unfold execPgeLeadClose
  repeat' (first | with_reducible assumption | (intro t; first | (with_reducible refine Kept.cut t ?_ ?_; unfold t) | beta_reduce | skip) | with_reducible apply KeptR.next | with_reducible apply State.modOut_kept | with_reducible apply State.when_kept | with_reducible apply Kept.ite | with_reducible apply KeptR.ite | with_reducible apply Kept.fold | with_reducible apply Kept.fold2 | with_reducible apply Kept.fold1 | (lift_lets; intro t; first | (with_reducible refine Kept.cut t ?_ ?_; unfold t) | skip) | dsimp -zeta only | split | dsimp +zetaDelta only)

theorem execPgePacketInject_kept {r₀ : State} (n : Fin 16) (g : Fin 16) (s : State) (h0 : Kept r₀ s) : KeptR r₀ (execPgePacketInject n g s) := by
  unfold execPgePacketInject
  repeat' (first | with_reducible assumption | (intro t; first | (with_reducible refine Kept.cut t ?_ ?_; unfold t) | beta_reduce | skip) | with_reducible apply KeptR.next | with_reducible apply State.ingress_kept | with_reducible apply State.markCommit_kept | with_reducible apply State.modOut_kept | with_reducible apply State.pgeFinish_kept | with_reducible apply State.pgeSt_kept | with_reducible apply State.raise_kept | with_reducible apply State.satAdd_kept | with_reducible apply State.wrapAdd_kept | with_reducible apply Kept.ite | with_reducible apply KeptR.ite | with_reducible apply Kept.fold | with_reducible apply Kept.fold2 | with_reducible apply Kept.fold1 | (lift_lets; intro t; first | (with_reducible refine Kept.cut t ?_ ?_; unfold t) | skip) | dsimp -zeta only | split | dsimp +zetaDelta only)

theorem execPgeBreachNotice_kept {r₀ : State} (n : Fin 16) (s : State) (h0 : Kept r₀ s) : KeptR r₀ (execPgeBreachNotice n s) := by
  unfold execPgeBreachNotice
  repeat' (first | with_reducible assumption | (intro t; first | (with_reducible refine Kept.cut t ?_ ?_; unfold t) | beta_reduce | skip) | with_reducible apply KeptR.next | with_reducible apply State.breach_kept | with_reducible apply State.modOut_kept | with_reducible apply State.pgeOutputLost_kept | with_reducible apply State.putInbox_kept | with_reducible apply State.satAdd_kept | with_reducible apply Kept.ite | with_reducible apply KeptR.ite | with_reducible apply Kept.fold | with_reducible apply Kept.fold2 | with_reducible apply Kept.fold1 | (lift_lets; intro t; first | (with_reducible refine Kept.cut t ?_ ?_; unfold t) | skip) | dsimp -zeta only | split | dsimp +zetaDelta only)

end Sys2Proof.Machine
end

