-- ==== Sys2Proof/Laws/Kept/Fce.lean ====
section
/-!
SUPPORT. Every operation of Machine/Fce.lean leaves the queue and keeps the tables in canonical form.
-/

set_option linter.unreachableTactic false
set_option linter.unusedTactic false
set_option linter.unusedVariables false

namespace Sys2Proof.Machine

theorem State.fceClear_kept {r₀ : State} (s : State) (n : Nat) (h0 : Kept r₀ s) : Kept r₀ (State.fceClear s n) := by
  unfold State.fceClear
  repeat' (first | with_reducible assumption | (intro t; first | (with_reducible refine Kept.cut t ?_ ?_; unfold t) | beta_reduce | skip) | with_reducible apply State.modFcx_kept | with_reducible apply State.resetFields_kept | with_reducible apply State.resetRange_kept | with_reducible apply Kept.ite | with_reducible apply Kept.fold | with_reducible apply Kept.fold2 | with_reducible apply Kept.fold1 | (lift_lets; intro t; first | (with_reducible refine Kept.cut t ?_ ?_; unfold t) | skip) | dsimp -zeta only | split | dsimp +zetaDelta only)

theorem execFceArm_kept {r₀ : State} (n : Fin 16) (s : State) (h0 : Kept r₀ s) : KeptR r₀ (execFceArm n s) := by
  unfold execFceArm
  repeat' (first | with_reducible assumption | (intro t; first | (with_reducible refine Kept.cut t ?_ ?_; unfold t) | beta_reduce | skip) | with_reducible apply KeptR.next | with_reducible apply State.fceClear_kept | with_reducible apply State.fceSt_kept | with_reducible apply State.setR_kept | with_reducible apply State.touchPair_kept | with_reducible apply State.writeRange_kept | with_reducible apply Kept.ite | with_reducible apply KeptR.ite | with_reducible apply Kept.fold | with_reducible apply Kept.fold2 | with_reducible apply Kept.fold1 | (lift_lets; intro t; first | (with_reducible refine Kept.cut t ?_ ?_; unfold t) | skip) | dsimp -zeta only | split | dsimp +zetaDelta only)

theorem execFceArmComplete_kept {r₀ : State} (n : Fin 16) (s : State) (h0 : Kept r₀ s) : KeptR r₀ (execFceArmComplete n s) := by
  unfold execFceArmComplete
  repeat' (first | with_reducible assumption | (intro t; first | (with_reducible refine Kept.cut t ?_ ?_; unfold t) | beta_reduce | skip) | with_reducible apply KeptR.next | with_reducible apply State.fceSt_kept | with_reducible apply State.modFcx_kept | with_reducible apply State.raise_kept | with_reducible apply State.when_kept | with_reducible apply Kept.ite | with_reducible apply KeptR.ite | with_reducible apply Kept.fold | with_reducible apply Kept.fold2 | with_reducible apply Kept.fold1 | (lift_lets; intro t; first | (with_reducible refine Kept.cut t ?_ ?_; unfold t) | skip) | dsimp -zeta only | split | dsimp +zetaDelta only)

theorem execFceEnd_kept {r₀ : State} (n : Fin 16) (s : State) (h0 : Kept r₀ s) : KeptR r₀ (execFceEnd n s) := by
  unfold execFceEnd
  repeat' (first | with_reducible assumption | (intro t; first | (with_reducible refine Kept.cut t ?_ ?_; unfold t) | beta_reduce | skip) | with_reducible apply KeptR.next | with_reducible apply State.fceSt_kept | with_reducible apply State.setR_kept | with_reducible apply State.touchPair_kept | with_reducible apply Kept.ite | with_reducible apply KeptR.ite | with_reducible apply Kept.fold | with_reducible apply Kept.fold2 | with_reducible apply Kept.fold1 | (lift_lets; intro t; first | (with_reducible refine Kept.cut t ?_ ?_; unfold t) | skip) | dsimp -zeta only | split | dsimp +zetaDelta only)

theorem execFceAbort_kept {r₀ : State} (n : Fin 16) (s : State) (h0 : Kept r₀ s) : KeptR r₀ (execFceAbort n s) := by
  unfold execFceAbort
  repeat' (first | with_reducible assumption | (intro t; first | (with_reducible refine Kept.cut t ?_ ?_; unfold t) | beta_reduce | skip) | with_reducible apply KeptR.next | with_reducible apply State.fceSt_kept | with_reducible apply State.raise_kept | with_reducible apply State.setR_kept | with_reducible apply State.touchPair_kept | with_reducible apply State.when_kept | with_reducible apply Kept.ite | with_reducible apply KeptR.ite | with_reducible apply Kept.fold | with_reducible apply Kept.fold2 | with_reducible apply Kept.fold1 | (lift_lets; intro t; first | (with_reducible refine Kept.cut t ?_ ?_; unfold t) | skip) | dsimp -zeta only | split | dsimp +zetaDelta only)

theorem execFceSrst_kept {r₀ : State} (n : Fin 16) (s : State) (h0 : Kept r₀ s) : KeptR r₀ (execFceSrst n s) := by
  unfold execFceSrst
  repeat' (first | with_reducible assumption | (intro t; first | (with_reducible refine Kept.cut t ?_ ?_; unfold t) | beta_reduce | skip) | with_reducible apply KeptR.next | with_reducible apply State.fceSt_kept | with_reducible apply State.modFcx_kept | with_reducible apply State.touchPair_kept | with_reducible apply Kept.ite | with_reducible apply KeptR.ite | with_reducible apply Kept.fold | with_reducible apply Kept.fold2 | with_reducible apply Kept.fold1 | (lift_lets; intro t; first | (with_reducible refine Kept.cut t ?_ ?_; unfold t) | skip) | dsimp -zeta only | split | dsimp +zetaDelta only)

theorem execFceInputPacket_kept {r₀ : State} (n : Fin 16) (s : State) (h0 : Kept r₀ s) : KeptR r₀ (execFceInputPacket n s) := by
  unfold execFceInputPacket
  repeat' (first | with_reducible assumption | (intro t; first | (with_reducible refine Kept.cut t ?_ ?_; unfold t) | beta_reduce | skip) | with_reducible apply KeptR.next | with_reducible apply State.kindReject_kept | with_reducible apply State.modFcx_kept | with_reducible apply State.putInbox_kept | with_reducible apply State.raise_kept | with_reducible apply State.satAdd_kept | with_reducible apply Kept.ite | with_reducible apply KeptR.ite | with_reducible apply Kept.fold | with_reducible apply Kept.fold2 | with_reducible apply Kept.fold1 | (lift_lets; intro t; first | (with_reducible refine Kept.cut t ?_ ?_; unfold t) | skip) | dsimp -zeta only | split | dsimp +zetaDelta only)

theorem State.fceVdone_kept {r₀ : State} (s : State) (n : Nat) (h0 : Kept r₀ s) : Kept r₀ (State.fceVdone s n) := by
  unfold State.fceVdone
  repeat' (first | with_reducible assumption | (intro t; first | (with_reducible refine Kept.cut t ?_ ?_; unfold t) | beta_reduce | skip) | with_reducible apply State.modFcx_kept | with_reducible apply State.setR_kept | with_reducible apply Kept.ite | with_reducible apply Kept.fold | with_reducible apply Kept.fold2 | with_reducible apply Kept.fold1 | (lift_lets; intro t; first | (with_reducible refine Kept.cut t ?_ ?_; unfold t) | skip) | dsimp -zeta only | split | with_reducible apply Map.sortedFrom_filter | with_reducible apply Map.wf_filter | dsimp +zetaDelta only)

theorem execFceTraceEntry_kept {r₀ : State} (n : Fin 16) (s : State) (h0 : Kept r₀ s) : KeptR r₀ (execFceTraceEntry n s) := by
  unfold execFceTraceEntry
  repeat' (first | with_reducible assumption | (intro t; first | (with_reducible refine Kept.cut t ?_ ?_; unfold t) | beta_reduce | skip) | with_reducible apply KeptR.next | with_reducible apply State.fceVdone_kept | with_reducible apply State.modFcx_kept | with_reducible apply State.modPgx_kept | with_reducible apply State.when_kept | with_reducible apply Kept.ite | with_reducible apply KeptR.ite | with_reducible apply Kept.fold | with_reducible apply Kept.fold2 | with_reducible apply Kept.fold1 | (lift_lets; intro t; first | (with_reducible refine Kept.cut t ?_ ?_; unfold t) | skip) | dsimp -zeta only | split | dsimp +zetaDelta only)

theorem State.fceIncomplete_kept {r₀ : State} (s : State) (n : Nat) (l : List Nat) (h0 : Kept r₀ s) : Kept r₀ (State.fceIncomplete s n l) := by
  unfold State.fceIncomplete
  repeat' (first | with_reducible assumption | (intro t; first | (with_reducible refine Kept.cut t ?_ ?_; unfold t) | beta_reduce | skip) | with_reducible apply State.setEach_kept | with_reducible apply Kept.ite | with_reducible apply Kept.fold | with_reducible apply Kept.fold2 | with_reducible apply Kept.fold1 | (lift_lets; intro t; first | (with_reducible refine Kept.cut t ?_ ?_; unfold t) | skip) | dsimp -zeta only | split | dsimp +zetaDelta only)

theorem State.fceGap_kept {r₀ : State} (s : State) (n : Nat) (r : FceRec) (expected : Nat) (h0 : Kept r₀ s) : Kept r₀ (State.fceGap s n r expected) := by
  unfold State.fceGap
  repeat' (first | with_reducible assumption | (intro t; first | (with_reducible refine Kept.cut t ?_ ?_; unfold t) | beta_reduce | skip) | with_reducible apply State.fceIncomplete_kept | with_reducible apply State.raise_kept | with_reducible apply State.satAdd_kept | with_reducible apply Kept.ite | with_reducible apply Kept.fold | with_reducible apply Kept.fold2 | with_reducible apply Kept.fold1 | (lift_lets; intro t; first | (with_reducible refine Kept.cut t ?_ ?_; unfold t) | skip) | dsimp -zeta only | split | dsimp +zetaDelta only)

theorem State.fceLog_kept {r₀ : State} (s : State) (n : Nat) (r : FceRec) (site : Nat) (tr : Option TraceEnt) (mask : Nat) (h0 : Kept r₀ s) : Kept r₀ (State.fceLog s n r site tr mask) := by
  unfold State.fceLog
  repeat' (first | with_reducible assumption | (intro t; first | (with_reducible refine Kept.cut t ?_ ?_; unfold t) | beta_reduce | skip) | with_reducible apply State.modFcx_kept | with_reducible apply State.raise_kept | with_reducible apply State.satAdd_kept | with_reducible apply State.setR_kept | with_reducible apply State.writeRange_kept | with_reducible apply Kept.ite | with_reducible apply Kept.fold | with_reducible apply Kept.fold2 | with_reducible apply Kept.fold1 | (lift_lets; intro t; first | (with_reducible refine Kept.cut t ?_ ?_; unfold t) | skip) | dsimp -zeta only | split | dsimp +zetaDelta only)

theorem State.fceBitmap_kept {r₀ : State} (s : State) (n site : Nat) (c : CellAt) (h0 : Kept r₀ s) : Kept r₀ (State.fceBitmap s n site c) := by
  unfold State.fceBitmap
  repeat' (first | with_reducible assumption | (intro t; first | (with_reducible refine Kept.cut t ?_ ?_; unfold t) | beta_reduce | skip) | with_reducible apply State.writeRange_kept | with_reducible apply Kept.ite | with_reducible apply Kept.fold | with_reducible apply Kept.fold2 | with_reducible apply Kept.fold1 | (lift_lets; intro t; first | (with_reducible refine Kept.cut t ?_ ?_; unfold t) | skip) | dsimp -zeta only | split | dsimp +zetaDelta only)

theorem State.fceUnrep_kept {r₀ : State} (s : State) (n site dom num : Nat) (h0 : Kept r₀ s) : Kept r₀ (State.fceUnrep s n site dom num) := by
  unfold State.fceUnrep
  repeat' (first | with_reducible assumption | (intro t; first | (with_reducible refine Kept.cut t ?_ ?_; unfold t) | beta_reduce | skip) | with_reducible apply State.raise_kept | with_reducible apply State.satAdd_kept | with_reducible apply State.setR_kept | with_reducible apply Kept.ite | with_reducible apply Kept.fold | with_reducible apply Kept.fold2 | with_reducible apply Kept.fold1 | (lift_lets; intro t; first | (with_reducible refine Kept.cut t ?_ ?_; unfold t) | skip) | dsimp -zeta only | split | dsimp +zetaDelta only)

theorem State.putTable_kept {r₀ : State} (s : State) (n key : Nat) (t : RauTable) (h0 : Kept r₀ s) : Kept r₀ (State.putTable s n key t) := by
  unfold State.putTable
  repeat' (first | with_reducible assumption | (intro t; first | (with_reducible refine Kept.cut t ?_ ?_; unfold t) | beta_reduce | skip) | with_reducible apply State.modFcx_kept | with_reducible apply State.writeRange_kept | with_reducible apply Kept.ite | with_reducible apply Kept.fold | with_reducible apply Kept.fold2 | with_reducible apply Kept.fold1 | (lift_lets; intro t; first | (with_reducible refine Kept.cut t ?_ ?_; unfold t) | skip) | dsimp -zeta only | split | dsimp +zetaDelta only)

theorem pair_snd {α β : Type} (a : α) (b : β) : (a, b).2 = b := rfl

theorem State.readTable_eq (s : State) (n : Nat) (t : RauTable) : s.readTable n t
    = (fun r : (Nat × Bool) × State => (tableFrom t r.1, r.2)) (s.readRange (s.poolAddr n t.entry) 1024 (fceEp n)) := by rfl

theorem State.readTable_kept {r₀ : State} (s : State) (n : Nat) (t : RauTable) (h0 : Kept r₀ s) : Kept r₀ (State.readTable s n t).2 := by
  rw [State.readTable_eq]
  exact (fun (x : (Nat × Bool) × State) (hx : Kept r₀ x.2) =>
    (show Kept r₀ ((fun r : (Nat × Bool) × State => (tableFrom t r.1, r.2)) x).2 from hx)) _ (State.readRange_kept s _ _ _ none h0)

theorem State.fceTableErr_kept {r₀ : State} (s : State) (n site dom num : Nat) (t : RauTable) (h0 : Kept r₀ s) : Kept r₀ (State.fceTableErr s n site dom num t) := by
  unfold State.fceTableErr
  repeat' (first | with_reducible assumption | (intro t; first | (with_reducible refine Kept.cut t ?_ ?_; unfold t) | beta_reduce | skip) | with_reducible apply State.fceIncomplete_kept | with_reducible apply State.modFcx_kept | with_reducible apply State.raise_kept | with_reducible apply Kept.ite | with_reducible apply Kept.fold | with_reducible apply Kept.fold2 | with_reducible apply Kept.fold1 | (lift_lets; intro t; first | (with_reducible refine Kept.cut t ?_ ?_; unfold t) | skip) | dsimp -zeta only | split | dsimp +zetaDelta only)

theorem State.fceTableUe_kept {r₀ : State} (s : State) (n site dom num : Nat) (t : RauTable) (h0 : Kept r₀ s) : Kept r₀ (State.fceTableUe s n site dom num t) := by
  unfold State.fceTableUe
  repeat' (first | with_reducible assumption | (intro t; first | (with_reducible refine Kept.cut t ?_ ?_; unfold t) | beta_reduce | skip) | with_reducible apply State.fceTableErr_kept | with_reducible apply State.memUe_kept | with_reducible apply State.rqPush_kept | with_reducible apply Kept.ite | with_reducible apply Kept.fold | with_reducible apply Kept.fold2 | with_reducible apply Kept.fold1 | (lift_lets; intro t; first | (with_reducible refine Kept.cut t ?_ ?_; unfold t) | skip) | dsimp -zeta only | split | dsimp +zetaDelta only)

theorem State.fceTable_kept {r : State} (s : State) (n site dom num : Nat) (h : Kept r s) : Kept r (s.fceTable n site dom num).2 := by
  unfold State.fceTable
  simp only []
  split
  · exact h
  · split
    · rw [pair_snd]; exact State.readTable_kept _ _ _ h
    · split
      · exact State.setR_kept _ _ _ _ h
      · have ht := State.satAdd_kept _ Reg.FCE_POOL_USED_UNTRACKED n 1 (State.fceIncomplete_kept _ n [site] (State.setR_kept _ Reg.FCE_SITE_FLAGS_UNTRACKED
          (n * 1024 + site) 1 (State.modFcx_kept s n (fun k => { k with untracked := k.untracked ++ [domKey site dom] }) h)))
        split
        · exact ht
        · exact State.raise_kept _ _ _ _ _ (State.modFcx_kept _ _ _ ht)

theorem State.fceRau_kept {r : State} (s : State) (n site num : Nat) (c : CellAt) (ue : List Nat) (h : Kept r s) :
    Kept r (s.fceRau n site num c ue) := by
  have ht := State.fceTable_kept s n site c.dom num h
  unfold State.fceRau
  split
  · rename_i heq; rw [heq] at ht; exact ht
  · rename_i heq; rw [heq] at ht
    have hp := fun k u => State.putTable_kept (r₀ := r) _ n k u ht
    dsimp only at ht hp ⊢
    exact Kept.ite (State.fceTableUe_kept _ _ _ _ _ _ ht) (Kept.ite (State.fceTableErr_kept _ _ _ _ _ _ ht) (Kept.ite (hp _ _)
      (Kept.ite (State.fceUnrep_kept _ _ _ _ _ (hp _ _)) (Kept.ite (State.fceIncomplete_kept _ _ _ (hp _ _)) (hp _ _)))))

theorem State.fceSite_kept {r₀ : State} (s : State) (n : Nat) (r : FceRec) (tr : Option TraceEnt) (ue : List Nat) (site : Nat) (dqs : List Nat) (h0 : Kept r₀ s) : Kept r₀ (State.fceSite s n r tr ue site dqs) := by
  unfold State.fceSite
  repeat' (first | with_reducible assumption | (intro t; first | (with_reducible refine Kept.cut t ?_ ?_; unfold t) | beta_reduce | skip) | with_reducible apply State.fceBitmap_kept | with_reducible apply State.fceIncomplete_kept | with_reducible apply State.fceLog_kept | with_reducible apply State.fceRau_kept | with_reducible apply State.satAdd_kept | with_reducible apply State.setR_kept | with_reducible apply Kept.ite | with_reducible apply Kept.fold | with_reducible apply Kept.fold2 | with_reducible apply Kept.fold1 | (lift_lets; intro t; first | (with_reducible refine Kept.cut t ?_ ?_; unfold t) | skip) | dsimp -zeta only | split | dsimp +zetaDelta only)

theorem State.fceEval_kept {r₀ : State} (s : State) (n : Nat) (r : FceRec) (ue : List Nat) (h0 : Kept r₀ s) : Kept r₀ (State.fceEval s n r ue) := by
  unfold State.fceEval
  repeat' (first | with_reducible assumption | (intro t; first | (with_reducible refine Kept.cut t ?_ ?_; unfold t) | beta_reduce | skip) | with_reducible apply State.fceIncomplete_kept | with_reducible apply State.fceSite_kept | with_reducible apply State.satAdd_kept | with_reducible apply Kept.ite | with_reducible apply Kept.fold | with_reducible apply Kept.fold2 | with_reducible apply Kept.fold1 | (lift_lets; intro t; first | (with_reducible refine Kept.cut t ?_ ?_; unfold t) | skip) | dsimp -zeta only | split | with_reducible apply Map.sortedFrom_filter | with_reducible apply Map.wf_filter | dsimp +zetaDelta only)

theorem State.fceAutoEnd_kept {r₀ : State} (s : State) (n : Nat) (h0 : Kept r₀ s) : Kept r₀ (State.fceAutoEnd s n) := by
  unfold State.fceAutoEnd
  repeat' (first | with_reducible assumption | (intro t; first | (with_reducible refine Kept.cut t ?_ ?_; unfold t) | beta_reduce | skip) | with_reducible apply State.fceSt_kept | with_reducible apply Kept.ite | with_reducible apply Kept.fold | with_reducible apply Kept.fold2 | with_reducible apply Kept.fold1 | (lift_lets; intro t; first | (with_reducible refine Kept.cut t ?_ ?_; unfold t) | skip) | dsimp -zeta only | split | dsimp +zetaDelta only)

theorem State.putIn_kept {r₀ : State} (s : State) (n q : Nat) (i : FceIn) (h0 : Kept r₀ s) : Kept r₀ (State.putIn s n q i) := by
  unfold State.putIn
  repeat' (first | with_reducible assumption | (intro t; first | (with_reducible refine Kept.cut t ?_ ?_; unfold t) | beta_reduce | skip) | with_reducible apply State.modFcx_kept | with_reducible apply Kept.ite | with_reducible apply Kept.fold | with_reducible apply Kept.fold2 | with_reducible apply Kept.fold1 | (lift_lets; intro t; first | (with_reducible refine Kept.cut t ?_ ?_; unfold t) | skip) | dsimp -zeta only | split | dsimp +zetaDelta only)

theorem State.fceRecord_kept {r₀ : State} (s : State) (n : Nat) (r : FceRec) (ue : List Nat) (h0 : Kept r₀ s) : Kept r₀ (State.fceRecord s n r ue) := by
  unfold State.fceRecord
  repeat' (first | with_reducible assumption | (intro t; first | (with_reducible refine Kept.cut t ?_ ?_; unfold t) | beta_reduce | skip) | with_reducible apply State.fceAutoEnd_kept | with_reducible apply State.fceEval_kept | with_reducible apply State.fceGap_kept | with_reducible apply State.putIn_kept | with_reducible apply State.setR_kept | with_reducible apply Kept.ite | with_reducible apply Kept.fold | with_reducible apply Kept.fold2 | with_reducible apply Kept.fold1 | (lift_lets; intro t; first | (with_reducible refine Kept.cut t ?_ ?_; unfold t) | skip) | dsimp -zeta only | split | dsimp +zetaDelta only)

theorem execFceRecordProcess_kept {r₀ : State} (n : Fin 16) (ue : List Nat) (s : State) (h0 : Kept r₀ s) : KeptR r₀ (execFceRecordProcess n ue s) := by
  unfold execFceRecordProcess
  repeat' (first | with_reducible assumption | (intro t; first | (with_reducible refine Kept.cut t ?_ ?_; unfold t) | beta_reduce | skip) | with_reducible apply KeptR.next | with_reducible apply State.fceRecord_kept | with_reducible apply State.fceVdone_kept | with_reducible apply State.modFcx_kept | with_reducible apply State.when_kept | with_reducible apply Kept.ite | with_reducible apply KeptR.ite | with_reducible apply Kept.fold | with_reducible apply Kept.fold2 | with_reducible apply Kept.fold1 | (lift_lets; intro t; first | (with_reducible refine Kept.cut t ?_ ?_; unfold t) | skip) | dsimp -zeta only | split | dsimp +zetaDelta only)

theorem State.fceRecordPut_kept {r₀ : State} (u : State) (n base i key : Nat) (t : RauTable) (result : Nat) (rows cols : List Nat) (heur : Bool) (h0 : Kept r₀ u) : Kept r₀ (State.fceRecordPut u n base i key t result rows cols heur) := by
  unfold State.fceRecordPut
  repeat' (first | with_reducible assumption | (intro t; first | (with_reducible refine Kept.cut t ?_ ?_; unfold t) | beta_reduce | skip) | with_reducible apply State.writeRange_kept | with_reducible apply Kept.ite | with_reducible apply Kept.fold | with_reducible apply Kept.fold2 | with_reducible apply Kept.fold1 | (lift_lets; intro t; first | (with_reducible refine Kept.cut t ?_ ?_; unfold t) | skip) | dsimp -zeta only | split | dsimp +zetaDelta only)

theorem State.fceRecordWrite_kept {r₀ : State} (s : State) (n base i key : Nat) (ue : List Nat) (h0 : Kept r₀ s) :
    Kept r₀ (State.fceRecordWrite s n base i key ue) := by
  unfold State.fceRecordWrite
  split
  · exact h0
  · rename_i t0 _
    have hr := State.readTable_kept s n t0 h0
    generalize s.readTable n t0 = x at hr ⊢
    dsimp only
    exact Kept.ite (State.fceRecordPut_kept _ _ _ _ _ _ _ _ _ _ (State.fceTableUe_kept _ _ _ _ _ _ hr)) (Kept.ite
      (State.fceRecordPut_kept _ _ _ _ _ _ _ _ _ _ (State.fceTableErr_kept _ _ _ _ _ _ hr)) (Kept.ite (State.fceRecordPut_kept _ _ _ _ _ _ _ _ _ _ hr) (by
        split
        · exact State.fceRecordPut_kept _ _ _ _ _ _ _ _ _ _ (State.fceUnrep_kept _ _ _ _ _ (State.putTable_kept _ _ _ _ hr))
        · exact State.fceRecordPut_kept _ _ _ _ _ _ _ _ _ _ hr)))

theorem execFceAnalysisCommit_kept {r₀ : State} (n : Fin 16) (ue : List Nat) (s : State) (h0 : Kept r₀ s) : KeptR r₀ (execFceAnalysisCommit n ue s) := by
  unfold execFceAnalysisCommit
  repeat' (first | with_reducible assumption | (intro t; first | (with_reducible refine Kept.cut t ?_ ?_; unfold t) | beta_reduce | skip) | with_reducible apply KeptR.next | with_reducible apply State.fceRecordWrite_kept | with_reducible apply State.fceSt_kept | with_reducible apply State.ingress_kept | with_reducible apply State.markCommit_kept | with_reducible apply State.raise_kept | with_reducible apply State.setR_kept | with_reducible apply Kept.ite | with_reducible apply KeptR.ite | with_reducible apply Kept.fold | with_reducible apply Kept.fold2 | with_reducible apply Kept.fold1 | (lift_lets; intro t; first | (with_reducible refine Kept.cut t ?_ ?_; unfold t) | skip) | dsimp -zeta only | split | dsimp +zetaDelta only)

theorem execFceStatSnapshot_kept {r₀ : State} (n : Fin 16) (s : State) (h0 : Kept r₀ s) : KeptR r₀ (execFceStatSnapshot n s) := by
  unfold execFceStatSnapshot
  repeat' (first | with_reducible assumption | (intro t; first | (with_reducible refine Kept.cut t ?_ ?_; unfold t) | beta_reduce | skip) | with_reducible apply KeptR.next | with_reducible apply State.modFcx_kept | with_reducible apply State.raise_kept | with_reducible apply State.satAdd_kept | with_reducible apply Kept.ite | with_reducible apply KeptR.ite | with_reducible apply Kept.fold | with_reducible apply Kept.fold2 | with_reducible apply Kept.fold1 | (lift_lets; intro t; first | (with_reducible refine Kept.cut t ?_ ?_; unfold t) | skip) | dsimp -zeta only | split | dsimp +zetaDelta only)

theorem execFceStatPacketInject_kept {r₀ : State} (n : Fin 16) (s : State) (h0 : Kept r₀ s) : KeptR r₀ (execFceStatPacketInject n s) := by
  unfold execFceStatPacketInject
  repeat' (first | with_reducible assumption | (intro t; first | (with_reducible refine Kept.cut t ?_ ?_; unfold t) | beta_reduce | skip) | with_reducible apply KeptR.next | with_reducible apply State.ingress_kept | with_reducible apply State.modFcx_kept | with_reducible apply State.when_kept | with_reducible apply Kept.ite | with_reducible apply KeptR.ite | with_reducible apply Kept.fold | with_reducible apply Kept.fold2 | with_reducible apply Kept.fold1 | (lift_lets; intro t; first | (with_reducible refine Kept.cut t ?_ ?_; unfold t) | skip) | dsimp -zeta only | split | dsimp +zetaDelta only)

theorem execFceBreachNotice_kept {r₀ : State} (n : Fin 16) (s : State) (h0 : Kept r₀ s) : KeptR r₀ (execFceBreachNotice n s) := by
  unfold execFceBreachNotice
  repeat' (first | with_reducible assumption | (intro t; first | (with_reducible refine Kept.cut t ?_ ?_; unfold t) | beta_reduce | skip) | with_reducible apply KeptR.next | with_reducible apply State.putInbox_kept | with_reducible apply State.setEach_kept | with_reducible apply Kept.ite | with_reducible apply KeptR.ite | with_reducible apply Kept.fold | with_reducible apply Kept.fold2 | with_reducible apply Kept.fold1 | (lift_lets; intro t; first | (with_reducible refine Kept.cut t ?_ ?_; unfold t) | skip) | dsimp -zeta only | split | with_reducible apply Map.sortedFrom_filter | with_reducible apply Map.wf_filter | dsimp +zetaDelta only)

end Sys2Proof.Machine
end

