-- ==== Sys2Proof/Laws/Kept/Lpddr.lean ====
section
/-!
SUPPORT. Every operation of Machine/Lpddr.lean leaves the queue and keeps the tables in canonical form.
-/

set_option linter.unreachableTactic false
set_option linter.unusedTactic false
set_option linter.unusedVariables false

namespace Sys2Proof.Machine

theorem State.lpxLink_kept {r₀ : State} (s : State) (n addr : Nat) (link : LinkErr) (h0 : Kept r₀ s) : Kept r₀ (State.lpxLink s n addr link) := by
  unfold State.lpxLink
  repeat' (first | with_reducible assumption | (intro t; first | (with_reducible refine Kept.cut t ?_ ?_; unfold t) | beta_reduce | skip) | with_reducible apply State.lpxElast_kept | with_reducible apply State.raise_kept | with_reducible apply State.satAdd_kept | with_reducible apply Kept.ite | with_reducible apply Kept.fold | with_reducible apply Kept.fold2 | with_reducible apply Kept.fold1 | (lift_lets; intro t; first | (with_reducible refine Kept.cut t ?_ ?_; unfold t) | skip) | dsimp -zeta only | split | dsimp +zetaDelta only)

theorem State.lpxWakeRank_kept {r₀ : State} (s : State) (n loc : Nat) (h0 : Kept r₀ s) : Kept r₀ (State.lpxWakeRank s n loc) := by
  unfold State.lpxWakeRank
  repeat' (first | with_reducible assumption | (intro t; first | (with_reducible refine Kept.cut t ?_ ?_; unfold t) | beta_reduce | skip) | with_reducible apply State.modLp_kept | with_reducible apply Kept.ite | with_reducible apply Kept.fold | with_reducible apply Kept.fold2 | with_reducible apply Kept.fold1 | (lift_lets; intro t; first | (with_reducible refine Kept.cut t ?_ ?_; unfold t) | skip) | dsimp -zeta only | split | with_reducible apply Map.sortedFrom_filter | with_reducible apply Map.wf_filter | dsimp +zetaDelta only)

theorem State.lpxReword_kept {r₀ : State} (s : State) (a : Nat) (h0 : Kept r₀ s) : Kept r₀ (State.lpxReword s a) := by
  unfold State.lpxReword
  repeat' (first | with_reducible assumption | (intro t; first | (with_reducible refine Kept.cut t ?_ ?_; unfold t) | beta_reduce | skip) | with_reducible apply State.lpxRead_kept | with_reducible apply State.modLp_kept | with_reducible apply State.putWord_kept | with_reducible apply Kept.ite | with_reducible apply Kept.fold | with_reducible apply Kept.fold2 | with_reducible apply Kept.fold1 | (lift_lets; intro t; first | (with_reducible refine Kept.cut t ?_ ?_; unfold t) | skip) | dsimp -zeta only | split | with_reducible apply Map.sortedFrom_filter | with_reducible apply Map.wf_filter | dsimp +zetaDelta only)

theorem State.lpxMerge_kept {r₀ : State} (s : State) (a n : Nat) (h0 : Kept r₀ s) : Kept r₀ (State.lpxMerge s a n) := by
  unfold State.lpxMerge
  repeat' (first | with_reducible assumption | (intro t; first | (with_reducible refine Kept.cut t ?_ ?_; unfold t) | beta_reduce | skip) | with_reducible apply State.lpxReword_kept | with_reducible apply Kept.ite | with_reducible apply Kept.fold | with_reducible apply Kept.fold2 | with_reducible apply Kept.fold1 | (lift_lets; intro t; first | (with_reducible refine Kept.cut t ?_ ?_; unfold t) | skip) | dsimp -zeta only | split | dsimp +zetaDelta only)

theorem State.lpxAccess_kept {r₀ : State} (s : State) (r : MemReq) (link : LinkErr) (up : Option Upset) (h0 : Kept r₀ s) : Kept r₀ (State.lpxAccess s r link up) := by
  unfold State.lpxAccess
  repeat' (first | with_reducible assumption | (intro t; first | (with_reducible refine Kept.cut t ?_ ?_; unfold t) | beta_reduce | skip) | with_reducible apply State.coreTakes_kept | with_reducible apply State.decodeError_kept | with_reducible apply State.lpxLink_kept | with_reducible apply State.lpxMerge_kept | with_reducible apply State.lpxWakeRank_kept | with_reducible apply State.modLp_kept | with_reducible apply State.readWords_kept | with_reducible apply State.respond_kept | with_reducible apply State.writeWords_kept | (with_reducible refine State.dawnGuard_kept ?_ (by assumption)) | with_reducible apply Kept.ite | with_reducible apply Kept.fold | with_reducible apply Kept.fold2 | with_reducible apply Kept.fold1 | (lift_lets; intro t; first | (with_reducible refine Kept.cut t ?_ ?_; unfold t) | skip) | dsimp -zeta only | split | dsimp +zetaDelta only)

theorem execLpxAccess_kept {r₀ : State} (r : MemReq) (link : LinkErr) (upset : Option Upset) (s : State) (h0 : Kept r₀ s) : KeptR r₀ (execLpxAccess r link upset s) := by
  unfold execLpxAccess
  repeat' (first | with_reducible assumption | (intro t; first | (with_reducible refine Kept.cut t ?_ ?_; unfold t) | beta_reduce | skip) | with_reducible apply KeptR.next | with_reducible apply State.lpxAccess_kept | with_reducible apply Kept.ite | with_reducible apply KeptR.ite | with_reducible apply Kept.fold | with_reducible apply Kept.fold2 | with_reducible apply Kept.fold1 | (lift_lets; intro t; first | (with_reducible refine Kept.cut t ?_ ?_; unfold t) | skip) | dsimp -zeta only | split | dsimp +zetaDelta only)

theorem State.lpxPacket_kept {r s t : State} {e : Nat} {p : Packet} (h : Kept r s) (q : s.lpxPacket e p = some t) : Kept r t := by
  unfold State.lpxPacket at q
  split at q
  · cases q; exact State.injectAt_kept _ _ _ (State.dawnGuard_kept h (by assumption))
  · split at q
    · cases q; exact State.decodeAnswer_kept _ _ _ h
    · cases q
    · cases q; refine State.memAnswer_kept _ _ _ _ _ _ ?_; split
      · exact State.lpxMerge_kept _ _ _ (State.lpxWakeRank_kept _ _ _ h)
      · exact State.lpxWakeRank_kept _ _ _ h

theorem State.agentMem_kept {r s t : State} {src a n v : Nat} (h : Kept r s) (q : s.agentMem src a n v = some t) : Kept r t := by
  unfold State.agentMem at q
  split at q
  · cases q; exact State.dawnGuard_kept h (by assumption)
  · split at q
    · split at q
      · cases q; exact State.decodeError_kept _ _ _ _ h
      · cases q
      · cases q; exact State.spdDeny_kept _ _ _ _ _ (State.spdTouch_kept _ _ _ h)
      · cases q; exact State.writeWords_kept _ _ _ _ _ _ _ (State.spdTouch_kept _ _ _ h)
    · split at q
      · split at q
        · cases q; exact State.decodeError_kept _ _ _ _ h
        · cases q
        · cases q; exact State.writeWords_kept _ _ _ _ _ _ _ (State.lpxMerge_kept _ _ _ (State.lpxWakeRank_kept _ _ _ h))
      · cases q; exact State.writeWords_kept _ _ _ _ _ _ _ h

theorem State.agentPut_kept {r s t : State} {src a n v : Nat} (h : Kept r s) (q : s.agentPut src a n v = some t) : Kept r t := by
  unfold State.agentPut at q
  split at q
  · obtain ⟨u, hu, rfl⟩ := Option.map_eq_some_iff.mp q
    exact State.modResp_kept (State.agentMem_kept h hu)
  · cases q; exact State.sendWrite_kept _ _ _ _ _ _ _ _ _ h

theorem State.lpxRetry_kept {r₀ : State} (s : State) (e : Nat) (l : List Packet) (h0 : Kept r₀ s) : Kept r₀ (State.lpxRetry s e l) := by
  unfold State.lpxRetry
  repeat' (first | with_reducible assumption | (intro t; first | (with_reducible refine Kept.cut t ?_ ?_; unfold t) | beta_reduce | skip) | with_reducible apply State.putInbox_kept | (with_reducible refine State.lpxPacket_kept ?_ (by assumption)) | with_reducible apply Kept.ite | with_reducible apply Kept.fold | with_reducible apply Kept.fold2 | with_reducible apply Kept.fold1 | (lift_lets; intro t; first | (with_reducible refine Kept.cut t ?_ ?_; unfold t) | skip) | dsimp -zeta only | split | dsimp +zetaDelta only)

theorem State.lpxResume_kept {r₀ : State} (s : State) (n : Nat) (h0 : Kept r₀ s) : Kept r₀ (State.lpxResume s n) := by
  unfold State.lpxResume
  repeat' (first | with_reducible assumption | (intro t; first | (with_reducible refine Kept.cut t ?_ ?_; unfold t) | beta_reduce | skip) | with_reducible apply State.lpxAccess_kept | with_reducible apply State.lpxRetry_kept | with_reducible apply State.modLp_kept | with_reducible apply State.putInbox_kept | with_reducible apply Kept.ite | with_reducible apply Kept.fold | with_reducible apply Kept.fold2 | with_reducible apply Kept.fold1 | (lift_lets; intro t; first | (with_reducible refine Kept.cut t ?_ ?_; unfold t) | skip) | dsimp -zeta only | split | with_reducible apply Map.sortedFrom_filter | with_reducible apply Map.wf_filter | dsimp +zetaDelta only)

theorem State.lpxWindowsEnd_kept {r₀ : State} (s : State) (h0 : Kept r₀ s) : Kept r₀ (State.lpxWindowsEnd s) := by
  unfold State.lpxWindowsEnd
  repeat' (first | with_reducible assumption | (intro t; first | (with_reducible refine Kept.cut t ?_ ?_; unfold t) | beta_reduce | skip) | with_reducible apply State.lpxResume_kept | with_reducible apply Kept.ite | with_reducible apply Kept.fold | with_reducible apply Kept.fold2 | with_reducible apply Kept.fold1 | (lift_lets; intro t; first | (with_reducible refine Kept.cut t ?_ ?_; unfold t) | skip) | dsimp -zeta only | split | dsimp +zetaDelta only)

theorem State.idle_kept {r₀ : State} (s : State) (h0 : Kept r₀ s) : Kept r₀ (State.idle s) := by
  unfold State.idle
  repeat' (first | with_reducible assumption | (intro t; first | (with_reducible refine Kept.cut t ?_ ?_; unfold t) | beta_reduce | skip) | with_reducible apply State.lpxWindowsEnd_kept | with_reducible apply State.tick_kept | with_reducible apply Kept.ite | with_reducible apply Kept.fold | with_reducible apply Kept.fold2 | with_reducible apply Kept.fold1 | (lift_lets; intro t; first | (with_reducible refine Kept.cut t ?_ ?_; unfold t) | skip) | dsimp -zeta only | split | dsimp +zetaDelta only)

theorem execLpxInlineWriteback_kept {r₀ : State} (n : Fin 16) (s : State) (h0 : Kept r₀ s) : KeptR r₀ (execLpxInlineWriteback n s) := by
  unfold execLpxInlineWriteback
  repeat' (first | with_reducible assumption | (intro t; first | (with_reducible refine Kept.cut t ?_ ?_; unfold t) | beta_reduce | skip) | with_reducible apply KeptR.next | with_reducible apply State.modLp_kept | with_reducible apply State.putWord_kept | with_reducible apply Kept.ite | with_reducible apply KeptR.ite | with_reducible apply Kept.fold | with_reducible apply Kept.fold2 | with_reducible apply Kept.fold1 | (lift_lets; intro t; first | (with_reducible refine Kept.cut t ?_ ?_; unfold t) | skip) | dsimp -zeta only | split | dsimp +zetaDelta only)

theorem State.lpxTrain_kept {r₀ : State} (s : State) (n : Nat) (h0 : Kept r₀ s) : Kept r₀ (State.lpxTrain s n) := by
  unfold State.lpxTrain
  repeat' (first | with_reducible assumption | (intro t; first | (with_reducible refine Kept.cut t ?_ ?_; unfold t) | beta_reduce | skip) | with_reducible apply State.lpxSt_kept | with_reducible apply State.modLp_kept | with_reducible apply Kept.ite | with_reducible apply Kept.fold | with_reducible apply Kept.fold2 | with_reducible apply Kept.fold1 | (lift_lets; intro t; first | (with_reducible refine Kept.cut t ?_ ?_; unfold t) | skip) | dsimp -zeta only | split | dsimp +zetaDelta only)

theorem State.lpxTrainAll_kept {r₀ : State} (s : State) (h0 : Kept r₀ s) : Kept r₀ (State.lpxTrainAll s) := by
  unfold State.lpxTrainAll
  repeat' (first | with_reducible assumption | (intro t; first | (with_reducible refine Kept.cut t ?_ ?_; unfold t) | beta_reduce | skip) | with_reducible apply State.lpxTrain_kept | with_reducible apply Kept.ite | with_reducible apply Kept.fold | with_reducible apply Kept.fold2 | with_reducible apply Kept.fold1 | (lift_lets; intro t; first | (with_reducible refine Kept.cut t ?_ ?_; unfold t) | skip) | dsimp -zeta only | split | dsimp +zetaDelta only)

theorem execLpxDefaultTrainStart_kept {r₀ : State} (s : State) (h0 : Kept r₀ s) : KeptR r₀ (execLpxDefaultTrainStart s) := by
  unfold execLpxDefaultTrainStart
  repeat' (first | with_reducible assumption | (intro t; first | (with_reducible refine Kept.cut t ?_ ?_; unfold t) | beta_reduce | skip) | with_reducible apply KeptR.next | with_reducible apply State.lpxTrainAll_kept | with_reducible apply Kept.ite | with_reducible apply KeptR.ite | with_reducible apply Kept.fold | with_reducible apply Kept.fold2 | with_reducible apply Kept.fold1 | (lift_lets; intro t; first | (with_reducible refine Kept.cut t ?_ ?_; unfold t) | skip) | dsimp -zeta only | split | dsimp +zetaDelta only)

theorem State.lpxReady_kept {r₀ : State} (s : State) (n : Nat) (h0 : Kept r₀ s) : Kept r₀ (State.lpxReady s n) := by
  unfold State.lpxReady
  repeat' (first | with_reducible assumption | (intro t; first | (with_reducible refine Kept.cut t ?_ ?_; unfold t) | beta_reduce | skip) | with_reducible apply State.lpxResume_kept | with_reducible apply State.lpxSt_kept | with_reducible apply State.modLp_kept | with_reducible apply Kept.ite | with_reducible apply Kept.fold | with_reducible apply Kept.fold2 | with_reducible apply Kept.fold1 | (lift_lets; intro t; first | (with_reducible refine Kept.cut t ?_ ?_; unfold t) | skip) | dsimp -zeta only | split | dsimp +zetaDelta only)

theorem State.lpxFail_kept {r₀ : State} (s : State) (n code : Nat) (h0 : Kept r₀ s) : Kept r₀ (State.lpxFail s n code) := by
  unfold State.lpxFail
  repeat' (first | with_reducible assumption | (intro t; first | (with_reducible refine Kept.cut t ?_ ?_; unfold t) | beta_reduce | skip) | with_reducible apply State.lpxSt_kept | with_reducible apply State.raise_kept | with_reducible apply State.setR_kept | with_reducible apply Kept.ite | with_reducible apply Kept.fold | with_reducible apply Kept.fold2 | with_reducible apply Kept.fold1 | (lift_lets; intro t; first | (with_reducible refine Kept.cut t ?_ ?_; unfold t) | skip) | dsimp -zeta only | split | dsimp +zetaDelta only)

theorem execLpxTrainingEnd_kept {r₀ : State} (n : Fin 16) (out : TrainEnd) (s : State) (h0 : Kept r₀ s) : KeptR r₀ (execLpxTrainingEnd n out s) := by
  unfold execLpxTrainingEnd
  repeat' (first | with_reducible assumption | (intro t; first | (with_reducible refine Kept.cut t ?_ ?_; unfold t) | beta_reduce | skip) | with_reducible apply KeptR.next | with_reducible apply State.lpxFail_kept | with_reducible apply State.lpxReady_kept | with_reducible apply State.lpxTrain_kept | with_reducible apply State.modLp_kept | with_reducible apply State.raise_kept | with_reducible apply State.setR_kept | with_reducible apply Kept.ite | with_reducible apply KeptR.ite | with_reducible apply Kept.fold | with_reducible apply Kept.fold2 | with_reducible apply Kept.fold1 | (lift_lets; intro t; first | (with_reducible refine Kept.cut t ?_ ?_; unfold t) | skip) | dsimp -zeta only | split | dsimp +zetaDelta only)

theorem execLpxInitPassEnd_kept {r₀ : State} (n : Fin 16) (s : State) (h0 : Kept r₀ s) : KeptR r₀ (execLpxInitPassEnd n s) := by
  unfold execLpxInitPassEnd
  repeat' (first | with_reducible assumption | (intro t; first | (with_reducible refine Kept.cut t ?_ ?_; unfold t) | beta_reduce | skip) | with_reducible apply KeptR.next | with_reducible apply State.lpxReady_kept | with_reducible apply State.when_kept | with_reducible apply State.modMem_kept | with_reducible apply Kept.ite | with_reducible apply KeptR.ite | with_reducible apply Kept.fold | with_reducible apply Kept.fold2 | with_reducible apply Kept.fold1 | (lift_lets; intro t; first | (with_reducible refine Kept.cut t ?_ ?_; unfold t) | skip) | dsimp -zeta only | split | with_reducible apply Map.sortedFrom_filter | with_reducible apply Map.wf_filter | dsimp +zetaDelta only)

theorem execLpxRetrain_kept {r₀ : State} (n : Fin 16) (committed : Bool) (s : State) (h0 : Kept r₀ s) : KeptR r₀ (execLpxRetrain n committed s) := by
  unfold execLpxRetrain
  repeat' (first | with_reducible assumption | (intro t; first | (with_reducible refine Kept.cut t ?_ ?_; unfold t) | beta_reduce | skip) | with_reducible apply KeptR.next | with_reducible apply State.lpxTrain_kept | with_reducible apply State.modLp_kept | with_reducible apply State.setR_kept | with_reducible apply Kept.ite | with_reducible apply KeptR.ite | with_reducible apply Kept.fold | with_reducible apply Kept.fold2 | with_reducible apply Kept.fold1 | (lift_lets; intro t; first | (with_reducible refine Kept.cut t ?_ ?_; unfold t) | skip) | dsimp -zeta only | split | dsimp +zetaDelta only)

theorem execLpxAbort_kept {r₀ : State} (n : Fin 16) (s : State) (h0 : Kept r₀ s) : KeptR r₀ (execLpxAbort n s) := by
  unfold execLpxAbort
  repeat' (first | with_reducible assumption | (intro t; first | (with_reducible refine Kept.cut t ?_ ?_; unfold t) | beta_reduce | skip) | with_reducible apply KeptR.next | with_reducible apply State.setR_kept | with_reducible apply Kept.ite | with_reducible apply KeptR.ite | with_reducible apply Kept.fold | with_reducible apply Kept.fold2 | with_reducible apply Kept.fold1 | (lift_lets; intro t; first | (with_reducible refine Kept.cut t ?_ ?_; unfold t) | skip) | dsimp -zeta only | split | dsimp +zetaDelta only)

theorem execLpxRetrainWaitTimeout_kept {r₀ : State} (n : Fin 16) (s : State) (h0 : Kept r₀ s) : KeptR r₀ (execLpxRetrainWaitTimeout n s) := by
  unfold execLpxRetrainWaitTimeout
  repeat' (first | with_reducible assumption | (intro t; first | (with_reducible refine Kept.cut t ?_ ?_; unfold t) | beta_reduce | skip) | with_reducible apply KeptR.next | with_reducible apply State.answerStatus_kept | with_reducible apply State.modLp_kept | with_reducible apply State.putInbox_kept | with_reducible apply State.respond_kept | with_reducible apply Kept.ite | with_reducible apply KeptR.ite | with_reducible apply Kept.fold | with_reducible apply Kept.fold2 | with_reducible apply Kept.fold1 | (lift_lets; intro t; first | (with_reducible refine Kept.cut t ?_ ?_; unfold t) | skip) | dsimp -zeta only | split | dsimp +zetaDelta only)

theorem execLpxOscPass_kept {r₀ : State} (n : Fin 16) (excess : Bool) (s : State) (h0 : Kept r₀ s) : KeptR r₀ (execLpxOscPass n excess s) := by
  unfold execLpxOscPass
  repeat' (first | with_reducible assumption | (intro t; first | (with_reducible refine Kept.cut t ?_ ?_; unfold t) | beta_reduce | skip) | with_reducible apply KeptR.next | with_reducible apply State.modLp_kept | with_reducible apply State.raise_kept | with_reducible apply State.when_kept | with_reducible apply Kept.ite | with_reducible apply KeptR.ite | with_reducible apply Kept.fold | with_reducible apply Kept.fold2 | with_reducible apply Kept.fold1 | (lift_lets; intro t; first | (with_reducible refine Kept.cut t ?_ ?_; unfold t) | skip) | dsimp -zeta only | split | dsimp +zetaDelta only)

theorem execLpxDetWrite_kept {r₀ : State} (n : Fin 16) (det : Bool) (s : State) (h0 : Kept r₀ s) : KeptR r₀ (execLpxDetWrite n det s) := by
  unfold execLpxDetWrite
  repeat' (first | with_reducible assumption | (intro t; first | (with_reducible refine Kept.cut t ?_ ?_; unfold t) | beta_reduce | skip) | with_reducible apply KeptR.next | with_reducible apply State.modLp_kept | with_reducible apply State.setR_kept | with_reducible apply Kept.ite | with_reducible apply KeptR.ite | with_reducible apply Kept.fold | with_reducible apply Kept.fold2 | with_reducible apply Kept.fold1 | (lift_lets; intro t; first | (with_reducible refine Kept.cut t ?_ ?_; unfold t) | skip) | dsimp -zeta only | split | dsimp +zetaDelta only)

theorem execLpxDetApply_kept {r₀ : State} (n : Fin 16) (s : State) (h0 : Kept r₀ s) : KeptR r₀ (execLpxDetApply n s) := by
  unfold execLpxDetApply
  repeat' (first | with_reducible assumption | (intro t; first | (with_reducible refine Kept.cut t ?_ ?_; unfold t) | beta_reduce | skip) | with_reducible apply KeptR.next | with_reducible apply State.modLp_kept | with_reducible apply State.raise_kept | with_reducible apply State.setR_kept | with_reducible apply Kept.ite | with_reducible apply KeptR.ite | with_reducible apply Kept.fold | with_reducible apply Kept.fold2 | with_reducible apply Kept.fold1 | (lift_lets; intro t; first | (with_reducible refine Kept.cut t ?_ ?_; unfold t) | skip) | dsimp -zeta only | split | dsimp +zetaDelta only)

theorem execLpxMapWrite_kept {r₀ : State} (mode clearRej : Bool) (s : State) (h0 : Kept r₀ s) : KeptR r₀ (execLpxMapWrite mode clearRej s) := by
  unfold execLpxMapWrite
  repeat' (first | with_reducible assumption | (intro t; first | (with_reducible refine Kept.cut t ?_ ?_; unfold t) | beta_reduce | skip) | with_reducible apply KeptR.next | with_reducible apply State.setR_kept | with_reducible apply Kept.ite | with_reducible apply KeptR.ite | with_reducible apply Kept.fold | with_reducible apply Kept.fold2 | with_reducible apply Kept.fold1 | (lift_lets; intro t; first | (with_reducible refine Kept.cut t ?_ ?_; unfold t) | skip) | dsimp -zeta only | split | dsimp +zetaDelta only)

theorem execLpxRefreshWindow_kept {r₀ : State} (n : Fin 16) (refreshes : Fin 6) (s : State) (h0 : Kept r₀ s) : KeptR r₀ (execLpxRefreshWindow n refreshes s) := by
  unfold execLpxRefreshWindow
  repeat' (first | with_reducible assumption | (intro t; first | (with_reducible refine Kept.cut t ?_ ?_; unfold t) | beta_reduce | skip) | with_reducible apply KeptR.next | with_reducible apply State.modLp_kept | with_reducible apply State.when_kept | with_reducible apply Kept.ite | with_reducible apply KeptR.ite | with_reducible apply Kept.fold | with_reducible apply Kept.fold2 | with_reducible apply Kept.fold1 | (lift_lets; intro t; first | (with_reducible refine Kept.cut t ?_ ?_; unfold t) | skip) | dsimp -zeta only | split | dsimp +zetaDelta only)

theorem execLpxMr4Update_kept {r₀ : State} (n : Fin 16) (rr : BitVec 5) (aboveTwice : Bool) (s : State) (h0 : Kept r₀ s) : KeptR r₀ (execLpxMr4Update n rr aboveTwice s) := by
  unfold execLpxMr4Update
  repeat' (first | with_reducible assumption | (intro t; first | (with_reducible refine Kept.cut t ?_ ?_; unfold t) | beta_reduce | skip) | with_reducible apply KeptR.next | with_reducible apply State.raise_kept | with_reducible apply State.setR_kept | with_reducible apply Kept.ite | with_reducible apply KeptR.ite | with_reducible apply Kept.fold | with_reducible apply Kept.fold2 | with_reducible apply Kept.fold1 | (lift_lets; intro t; first | (with_reducible refine Kept.cut t ?_ ?_; unfold t) | skip) | dsimp -zeta only | split | dsimp +zetaDelta only)

theorem execLpxIdlePowerDown_kept {r₀ : State} (n : Fin 16) (rank : Fin 2) (s : State) (h0 : Kept r₀ s) : KeptR r₀ (execLpxIdlePowerDown n rank s) := by
  unfold execLpxIdlePowerDown
  repeat' (first | with_reducible assumption | (intro t; first | (with_reducible refine Kept.cut t ?_ ?_; unfold t) | beta_reduce | skip) | with_reducible apply KeptR.next | with_reducible apply State.modLp_kept | with_reducible apply State.when_kept | with_reducible apply Kept.ite | with_reducible apply KeptR.ite | with_reducible apply Kept.fold | with_reducible apply Kept.fold2 | with_reducible apply Kept.fold1 | (lift_lets; intro t; first | (with_reducible refine Kept.cut t ?_ ?_; unfold t) | skip) | dsimp -zeta only | split | dsimp +zetaDelta only)

end Sys2Proof.Machine
end

