-- ==== Sys2Proof/Laws/Kept/Lanes.lean ====
section
/-!
SUPPORT. Every operation of Machine/Lanes.lean leaves the queue and keeps the tables in canonical form.
-/

set_option linter.unreachableTactic false
set_option linter.unusedTactic false
set_option linter.unusedVariables false

namespace Sys2Proof.Machine

theorem State.putTxq_kept {r₀ : State} (s : State) (n : Nat) (l : List StreamMsg) (h0 : Kept r₀ s) : Kept r₀ (State.putTxq s n l) := by
  unfold State.putTxq
  repeat' (first | with_reducible assumption | (intro t; first | (with_reducible refine Kept.cut t ?_ ?_; unfold t) | beta_reduce | skip) | with_reducible apply State.modLanes_kept | with_reducible apply Kept.ite | with_reducible apply Kept.fold | with_reducible apply Kept.fold2 | with_reducible apply Kept.fold1 | (lift_lets; intro t; first | (with_reducible refine Kept.cut t ?_ ?_; unfold t) | skip) | dsimp -zeta only | split | dsimp +zetaDelta only)

theorem execDclTxPacket_kept {r₀ : State} (engine : Fin 36) (s : State) (h0 : Kept r₀ s) : KeptR r₀ (execDclTxPacket engine s) := by
  unfold execDclTxPacket
  repeat' (first | with_reducible assumption | (intro t; first | (with_reducible refine Kept.cut t ?_ ?_; unfold t) | beta_reduce | skip) | with_reducible apply KeptR.next | with_reducible apply State.kindReject_kept | with_reducible apply State.putInbox_kept | with_reducible apply State.putTxq_kept | with_reducible apply State.raise_kept | with_reducible apply State.satAdd_kept | with_reducible apply State.streamDrop_kept | with_reducible apply Kept.ite | with_reducible apply KeptR.ite | with_reducible apply Kept.fold | with_reducible apply Kept.fold2 | with_reducible apply Kept.fold1 | (lift_lets; intro t; first | (with_reducible refine Kept.cut t ?_ ?_; unfold t) | skip) | dsimp -zeta only | split | dsimp +zetaDelta only)

theorem execDclMessageTransmit_kept {r₀ : State} (stream : BitVec 12) (s : State) (h0 : Kept r₀ s) : KeptR r₀ (execDclMessageTransmit stream s) := by
  unfold execDclMessageTransmit
  repeat' (first | with_reducible assumption | (intro t; first | (with_reducible refine Kept.cut t ?_ ?_; unfold t) | beta_reduce | skip) | with_reducible apply KeptR.next | with_reducible apply State.putTxq_kept | with_reducible apply State.when_kept | with_reducible apply State.modLanes_kept | with_reducible apply Kept.ite | with_reducible apply KeptR.ite | with_reducible apply Kept.fold | with_reducible apply Kept.fold2 | with_reducible apply Kept.fold1 | (lift_lets; intro t; first | (with_reducible refine Kept.cut t ?_ ?_; unfold t) | skip) | dsimp -zeta only | split | dsimp +zetaDelta only)

theorem State.injectMessage_kept {r₀ : State} (s : State) (n l : Nat) (m : StreamMsg) (h0 : Kept r₀ s) : Kept r₀ (State.injectMessage s n l m) := by
  unfold State.injectMessage
  repeat' (first | with_reducible assumption | (intro t; first | (with_reducible refine Kept.cut t ?_ ?_; unfold t) | beta_reduce | skip) | with_reducible apply State.ingressWith_kept | with_reducible apply State.raise_kept | with_reducible apply State.satAdd_kept | with_reducible apply State.streamDrop_kept | with_reducible apply Kept.ite | with_reducible apply Kept.fold | with_reducible apply Kept.fold2 | with_reducible apply Kept.fold1 | (lift_lets; intro t; first | (with_reducible refine Kept.cut t ?_ ?_; unfold t) | skip) | dsimp -zeta only | split | dsimp +zetaDelta only)

theorem State.injectQueue_kept {r₀ : State} (n l k : Nat) (s : State) (h0 : Kept r₀ s) : Kept r₀ (State.injectQueue n l k s) := by
  induction k generalizing s with
  | zero => exact h0
  | succ k ih =>
    unfold State.injectQueue
    split
    · exact h0
    · exact Kept.ite (ih _ (State.injectMessage_kept _ _ _ _ (State.modLanes_kept h0))) h0

theorem State.streamArrived_kept {r₀ : State} (s : State) (n : Nat) (l : Nat) (a : Arrived) (h0 : Kept r₀ s) : Kept r₀ (State.streamArrived s n l a) := by
  unfold State.streamArrived
  repeat' (first | with_reducible assumption | (intro t; first | (with_reducible refine Kept.cut t ?_ ?_; unfold t) | beta_reduce | skip) | with_reducible apply State.injectQueue_kept | with_reducible apply State.satAdd_kept | with_reducible apply State.streamDrop_kept | with_reducible apply State.modLanes_kept | with_reducible apply Kept.ite | with_reducible apply Kept.fold | with_reducible apply Kept.fold2 | with_reducible apply Kept.fold1 | (lift_lets; intro t; first | (with_reducible refine Kept.cut t ?_ ?_; unfold t) | skip) | dsimp -zeta only | split | dsimp +zetaDelta only)

theorem execDclStreamMessageReceive_kept {r₀ : State} (stream : BitVec 12) (blocks : List LineBlock) (uncorrectable : Bool) (corrected : BitVec 16) (s : State) (h0 : Kept r₀ s) : KeptR r₀ (execDclStreamMessageReceive stream blocks uncorrectable corrected s) := by
  unfold execDclStreamMessageReceive
  repeat' (first | with_reducible assumption | (intro t; first | (with_reducible refine Kept.cut t ?_ ?_; unfold t) | beta_reduce | skip) | with_reducible apply KeptR.next | with_reducible apply State.blocksSeen_kept | with_reducible apply State.draw_kept | with_reducible apply State.injectQueue_kept | with_reducible apply State.satAdd_kept | with_reducible apply State.streamArrived_kept | with_reducible apply State.modLanes_kept | with_reducible apply Kept.ite | with_reducible apply KeptR.ite | with_reducible apply Kept.fold | with_reducible apply Kept.fold2 | with_reducible apply Kept.fold1 | (lift_lets; intro t; first | (with_reducible refine Kept.cut t ?_ ?_; unfold t) | skip) | dsimp -zeta only | split | dsimp +zetaDelta only)

end Sys2Proof.Machine
end

