-- ==== Sys2Proof/Laws/Kept/MspUnit.lean ====
section
/-!
SUPPORT. Every operation of Machine/MspUnit.lean leaves the queue and keeps the tables in canonical form.
-/

set_option linter.unreachableTactic false
set_option linter.unusedTactic false
set_option linter.unusedVariables false

namespace Sys2Proof.Machine

theorem State.setD_kept {r₀ : State} (s : State) (m n v : Nat) (p : Bool) (h0 : Kept r₀ s) : Kept r₀ (State.setD s m n v p) := by
  unfold State.setD
  repeat' (first | with_reducible assumption | (intro t; first | (with_reducible refine Kept.cut t ?_ ?_; unfold t) | beta_reduce | skip) | with_reducible apply State.setR_kept | with_reducible apply Kept.ite | with_reducible apply Kept.fold | with_reducible apply Kept.fold2 | with_reducible apply Kept.fold1 | (lift_lets; intro t; first | (with_reducible refine Kept.cut t ?_ ?_; unfold t) | skip) | dsimp -zeta only | split | dsimp +zetaDelta only)

theorem State.setSr_kept {r₀ : State} (s : State) (m n : Nat) (v : Bool) (h0 : Kept r₀ s) : Kept r₀ (State.setSr s m n v) := by
  unfold State.setSr
  repeat' (first | with_reducible assumption | (intro t; first | (with_reducible refine Kept.cut t ?_ ?_; unfold t) | beta_reduce | skip) | with_reducible apply State.setR_kept | with_reducible apply Kept.ite | with_reducible apply Kept.fold | with_reducible apply Kept.fold2 | with_reducible apply Kept.fold1 | (lift_lets; intro t; first | (with_reducible refine Kept.cut t ?_ ?_; unfold t) | skip) | dsimp -zeta only | split | dsimp +zetaDelta only)

theorem State.setA_kept {r₀ : State} (s : State) (m a : Nat) (v : Int) (h0 : Kept r₀ s) : Kept r₀ (State.setA s m a v) := by
  unfold State.setA
  repeat' (first | with_reducible assumption | (intro t; first | (with_reducible refine Kept.cut t ?_ ?_; unfold t) | beta_reduce | skip) | with_reducible apply State.setR_kept | with_reducible apply State.setSr_kept | with_reducible apply Kept.ite | with_reducible apply Kept.fold | with_reducible apply Kept.fold2 | with_reducible apply Kept.fold1 | (lift_lets; intro t; first | (with_reducible refine Kept.cut t ?_ ?_; unfold t) | skip) | dsimp -zeta only | split | dsimp +zetaDelta only)

theorem State.setFlags_kept {r₀ : State} (s : State) (m v : Nat) (ov carry : Bool) (h0 : Kept r₀ s) : Kept r₀ (State.setFlags s m v ov carry) := by
  unfold State.setFlags
  repeat' (first | with_reducible assumption | (intro t; first | (with_reducible refine Kept.cut t ?_ ?_; unfold t) | beta_reduce | skip) | with_reducible apply State.setSr_kept | with_reducible apply Kept.ite | with_reducible apply Kept.fold | with_reducible apply Kept.fold2 | with_reducible apply Kept.fold1 | (lift_lets; intro t; first | (with_reducible refine Kept.cut t ?_ ?_; unfold t) | skip) | dsimp -zeta only | split | dsimp +zetaDelta only)

theorem State.bumpP_kept {r₀ : State} (s : State) (m n : Nat) (h0 : Kept r₀ s) : Kept r₀ (State.bumpP s m n) := by
  unfold State.bumpP
  repeat' (first | with_reducible assumption | (intro t; first | (with_reducible refine Kept.cut t ?_ ?_; unfold t) | beta_reduce | skip) | with_reducible apply State.setR_kept | with_reducible apply Kept.ite | with_reducible apply Kept.fold | with_reducible apply Kept.fold2 | with_reducible apply Kept.fold1 | (lift_lets; intro t; first | (with_reducible refine Kept.cut t ?_ ?_; unfold t) | skip) | dsimp -zeta only | split | dsimp +zetaDelta only)

theorem State.mspLoad_kept {r₀ : State} (s : State) (m w : Nat) (y : Bool) (h0 : Kept r₀ s) : Kept r₀ (State.mspLoad s m w y).2 := by
  unfold State.mspLoad
  repeat' (first | with_reducible assumption | (intro t; first | (with_reducible refine Kept.cut t ?_ ?_; unfold t) | beta_reduce | skip) | with_reducible apply State.readWord_kept | with_reducible apply Kept.ite | with_reducible apply Kept.fold | with_reducible apply Kept.fold2 | with_reducible apply Kept.fold1 | (lift_lets; intro t; first | (with_reducible refine Kept.cut t ?_ ?_; unfold t) | skip) | dsimp -zeta only | split | dsimp +zetaDelta only)

theorem State.mspLoad64_kept {r₀ : State} (s : State) (m w : Nat) (y : Bool) (h0 : Kept r₀ s) : Kept r₀ (State.mspLoad64 s m w y).2 := by
  unfold State.mspLoad64
  repeat' (first | with_reducible assumption | (intro t; first | (with_reducible refine Kept.cut t ?_ ?_; unfold t) | beta_reduce | skip) | with_reducible apply State.readWord_kept | with_reducible apply Kept.ite | with_reducible apply Kept.fold | with_reducible apply Kept.fold2 | with_reducible apply Kept.fold1 | (lift_lets; intro t; first | (with_reducible refine Kept.cut t ?_ ?_; unfold t) | skip) | dsimp -zeta only | split | dsimp +zetaDelta only)

theorem State.mspStore_kept {r₀ : State} (s : State) (m w : Nat) (y : Bool) (v : Nat) (p : Bool) (h0 : Kept r₀ s) : Kept r₀ (State.mspStore s m w y v p) := by
  unfold State.mspStore
  repeat' (first | with_reducible assumption | (intro t; first | (with_reducible refine Kept.cut t ?_ ?_; unfold t) | beta_reduce | skip) | with_reducible apply State.writeWord_kept | with_reducible apply Kept.ite | with_reducible apply Kept.fold | with_reducible apply Kept.fold2 | with_reducible apply Kept.fold1 | (lift_lets; intro t; first | (with_reducible refine Kept.cut t ?_ ?_; unfold t) | skip) | dsimp -zeta only | split | dsimp +zetaDelta only)

theorem State.mspStore64_kept {r₀ : State} (s : State) (m w : Nat) (y : Bool) (v : Nat) (p : Bool) (h0 : Kept r₀ s) : Kept r₀ (State.mspStore64 s m w y v p) := by
  unfold State.mspStore64
  repeat' (first | with_reducible assumption | (intro t; first | (with_reducible refine Kept.cut t ?_ ?_; unfold t) | beta_reduce | skip) | with_reducible apply State.writeWord_kept | with_reducible apply Kept.ite | with_reducible apply Kept.fold | with_reducible apply Kept.fold2 | with_reducible apply Kept.fold1 | (lift_lets; intro t; first | (with_reducible refine Kept.cut t ?_ ?_; unfold t) | skip) | dsimp -zeta only | split | dsimp +zetaDelta only)

theorem State.mspFetchWord_kept {r₀ : State} (s : State) (m i : Nat) (h0 : Kept r₀ s) : Kept r₀ (State.mspFetchWord s m i).2 := by
  unfold State.mspFetchWord
  repeat' (first | with_reducible assumption | (intro t; first | (with_reducible refine Kept.cut t ?_ ?_; unfold t) | beta_reduce | skip) | with_reducible apply State.modMspx_kept | with_reducible apply State.readWord_kept | with_reducible apply Kept.ite | with_reducible apply Kept.fold | with_reducible apply Kept.fold2 | with_reducible apply Kept.fold1 | (lift_lets; intro t; first | (with_reducible refine Kept.cut t ?_ ?_; unfold t) | skip) | dsimp -zeta only | split | dsimp +zetaDelta only)

theorem State.mspFetch_kept {r₀ : State} (s : State) (m i : Nat) (h0 : Kept r₀ s) : Kept r₀ (State.mspFetch s m i).2 := by
  unfold State.mspFetch
  repeat' (first | with_reducible assumption | (intro t; first | (with_reducible refine Kept.cut t ?_ ?_; unfold t) | beta_reduce | skip) | with_reducible apply State.mspFetchWord_kept | with_reducible apply Kept.ite | with_reducible apply Kept.fold | with_reducible apply Kept.fold2 | with_reducible apply Kept.fold1 | (lift_lets; intro t; first | (with_reducible refine Kept.cut t ?_ ?_; unfold t) | skip) | dsimp -zeta only | split | dsimp +zetaDelta only)

theorem State.mspWord_kept {r s t : State} {m : Nat} {w : Nat × Bool} (h : Kept r s) (q : s.mspWord m = some (w, t)) : Kept r t := by
  unfold State.mspWord at q
  split at q
  · dsimp only at q
    split at q
    · cases q; exact h
    · split at q
      · cases q; exact h
      · have e := Option.some.inj q
        have f : t = (s.mspFetch m (s.getR Reg.MSP_PC_PC m)).2 := by rw [e]
        rw [f]; exact State.mspFetch_kept _ _ _ h
  · cases q

theorem State.mspLeave_kept {r₀ : State} (s : State) (m st : Nat) (h0 : Kept r₀ s) : Kept r₀ (State.mspLeave s m st) := by
  unfold State.mspLeave
  repeat' (first | with_reducible assumption | (intro t; first | (with_reducible refine Kept.cut t ?_ ?_; unfold t) | beta_reduce | skip) | with_reducible apply State.idle_kept | with_reducible apply State.modMspx_kept | with_reducible apply State.mspSt_kept | with_reducible apply State.setR_kept | with_reducible apply Kept.ite | with_reducible apply Kept.fold | with_reducible apply Kept.fold2 | with_reducible apply Kept.fold1 | (lift_lets; intro t; first | (with_reducible refine Kept.cut t ?_ ?_; unfold t) | skip) | dsimp -zeta only | split | dsimp +zetaDelta only)

theorem State.mspSrst_kept {r₀ : State} (s : State) (m : Nat) (h0 : Kept r₀ s) : Kept r₀ (State.mspSrst s m) := by
  unfold State.mspSrst
  repeat' (first | with_reducible assumption | (intro t; first | (with_reducible refine Kept.cut t ?_ ?_; unfold t) | beta_reduce | skip) | with_reducible apply State.modMspx_kept | with_reducible apply State.mspLeave_kept | with_reducible apply Kept.ite | with_reducible apply Kept.fold | with_reducible apply Kept.fold2 | with_reducible apply Kept.fold1 | (lift_lets; intro t; first | (with_reducible refine Kept.cut t ?_ ?_; unfold t) | skip) | dsimp -zeta only | split | dsimp +zetaDelta only)

theorem State.mspResume_kept {r₀ : State} (s : State) (m : Nat) (h0 : Kept r₀ s) : Kept r₀ (State.mspResume s m) := by
  unfold State.mspResume
  repeat' (first | with_reducible assumption | (intro t; first | (with_reducible refine Kept.cut t ?_ ?_; unfold t) | beta_reduce | skip) | with_reducible apply State.idle_kept | with_reducible apply State.modMspx_kept | with_reducible apply State.mspSt_kept | with_reducible apply State.setR_kept | with_reducible apply Kept.ite | with_reducible apply Kept.fold | with_reducible apply Kept.fold2 | with_reducible apply Kept.fold1 | (lift_lets; intro t; first | (with_reducible refine Kept.cut t ?_ ?_; unfold t) | skip) | dsimp -zeta only | split | dsimp +zetaDelta only)

theorem State.mspExc_kept {r₀ : State} (s : State) (m c : Nat) (h0 : Kept r₀ s) : Kept r₀ (State.mspExc s m c) := by
  unfold State.mspExc
  repeat' (first | with_reducible assumption | (intro t; first | (with_reducible refine Kept.cut t ?_ ?_; unfold t) | beta_reduce | skip) | with_reducible apply State.mspLeave_kept | with_reducible apply State.raise_kept | with_reducible apply State.setR_kept | with_reducible apply Kept.ite | with_reducible apply Kept.fold | with_reducible apply Kept.fold2 | with_reducible apply Kept.fold1 | (lift_lets; intro t; first | (with_reducible refine Kept.cut t ?_ ?_; unfold t) | skip) | dsimp -zeta only | split | dsimp +zetaDelta only)

theorem State.mspStopped_kept {r₀ : State} (s : State) (m : Nat) (h0 : Kept r₀ s) : Kept r₀ (State.mspStopped s m) := by
  unfold State.mspStopped
  repeat' (first | with_reducible assumption | (intro t; first | (with_reducible refine Kept.cut t ?_ ?_; unfold t) | beta_reduce | skip) | with_reducible apply State.mspLeave_kept | with_reducible apply State.raise_kept | with_reducible apply Kept.ite | with_reducible apply Kept.fold | with_reducible apply Kept.fold2 | with_reducible apply Kept.fold1 | (lift_lets; intro t; first | (with_reducible refine Kept.cut t ?_ ?_; unfold t) | skip) | dsimp -zeta only | split | dsimp +zetaDelta only)

theorem State.mspAfterRepeat_kept {r₀ : State} (s : State) (m : Nat) (h0 : Kept r₀ s) : Kept r₀ (State.mspAfterRepeat s m) := by
  unfold State.mspAfterRepeat
  repeat' (first | with_reducible assumption | (intro t; first | (with_reducible refine Kept.cut t ?_ ?_; unfold t) | beta_reduce | skip) | with_reducible apply State.mspResume_kept | with_reducible apply State.mspStopped_kept | with_reducible apply Kept.ite | with_reducible apply Kept.fold | with_reducible apply Kept.fold2 | with_reducible apply Kept.fold1 | (lift_lets; intro t; first | (with_reducible refine Kept.cut t ?_ ?_; unfold t) | skip) | dsimp -zeta only | split | dsimp +zetaDelta only)

theorem State.mspGo_kept {r₀ : State} (s : State) (m pc : Nat) (h0 : Kept r₀ s) : Kept r₀ (State.mspGo s m pc) := by
  unfold State.mspGo
  repeat' (first | with_reducible assumption | (intro t; first | (with_reducible refine Kept.cut t ?_ ?_; unfold t) | beta_reduce | skip) | with_reducible apply State.modMspx_kept | with_reducible apply State.setR_kept | with_reducible apply Kept.ite | with_reducible apply Kept.fold | with_reducible apply Kept.fold2 | with_reducible apply Kept.fold1 | (lift_lets; intro t; first | (with_reducible refine Kept.cut t ?_ ?_; unfold t) | skip) | dsimp -zeta only | split | with_reducible apply Map.sortedFrom_filter | with_reducible apply Map.wf_filter | dsimp +zetaDelta only)

theorem State.mspDone_kept {r₀ : State} (s : State) (m cycles : Nat) (fresh : Option Nat) (h0 : Kept r₀ s) : Kept r₀ (State.mspDone s m cycles fresh) := by
  unfold State.mspDone
  repeat' (first | with_reducible assumption | (intro t; first | (with_reducible refine Kept.cut t ?_ ?_; unfold t) | beta_reduce | skip) | with_reducible apply State.modMspx_kept | with_reducible apply State.mspAfterRepeat_kept | with_reducible apply State.mspCycles_kept | with_reducible apply State.mspGo_kept | with_reducible apply State.setR_kept | with_reducible apply Kept.ite | with_reducible apply Kept.fold | with_reducible apply Kept.fold2 | with_reducible apply Kept.fold1 | (lift_lets; intro t; first | (with_reducible refine Kept.cut t ?_ ?_; unfold t) | skip) | dsimp -zeta only | split | dsimp +zetaDelta only)

theorem State.mspIns_kept {r : State} (s : State) (m : Nat) (ok : Nat → Bool) (f : Nat → State → State) (hf : ∀ w u, Kept r u → Kept r (f w u))
    (h : Kept r s) : KeptR r (s.mspIns m ok f) := by
  unfold State.mspIns
  split
  · exact KeptR.next h
  · have ht := State.mspWord_kept h (by assumption)
    exact KeptR.ite (KeptR.next h) (KeptR.ite (KeptR.next (State.mspExc_kept _ _ _ ht)) (KeptR.next (hf _ _ ht)))

theorem State.mspSimple_kept {r : State} (s : State) (m op : Nat) (srcs ptrs : Nat → List Nat) (f : Nat → State → State) (mods : Nat → List Nat)
    (hf : ∀ w u, Kept r u → Kept r (f w u)) (h : Kept r s) : KeptR r (s.mspSimple m op srcs ptrs f mods) := by
  unfold State.mspSimple
  refine State.mspIns_kept _ _ _ _ (fun w t ht => ?_) h
  split
  · exact State.mspExc_kept _ _ _ ht
  · split
    · exact State.mspExc_kept _ _ _ ht
    · exact State.mspDone_kept _ _ _ _ (hf _ _ ht)

theorem State.mspTake_kept {r₀ : State} (s : State) (m tgt : Nat) (h0 : Kept r₀ s) : Kept r₀ (State.mspTake s m tgt) := by
  unfold State.mspTake
  repeat' (first | with_reducible assumption | (intro t; first | (with_reducible refine Kept.cut t ?_ ?_; unfold t) | beta_reduce | skip) | with_reducible apply State.modMspx_kept | with_reducible apply State.mspCycles_kept | with_reducible apply State.mspGo_kept | with_reducible apply State.setR_kept | with_reducible apply Kept.ite | with_reducible apply Kept.fold | with_reducible apply Kept.fold2 | with_reducible apply Kept.fold1 | (lift_lets; intro t; first | (with_reducible refine Kept.cut t ?_ ?_; unfold t) | skip) | dsimp -zeta only | split | dsimp +zetaDelta only)

theorem State.mspJump_kept {r₀ : State} (s : State) (m tgt : Nat) (h0 : Kept r₀ s) : Kept r₀ (State.mspJump s m tgt) := by
  unfold State.mspJump
  repeat' (first | with_reducible assumption | (intro t; first | (with_reducible refine Kept.cut t ?_ ?_; unfold t) | beta_reduce | skip) | with_reducible apply State.modMspx_kept | with_reducible apply State.mspCycles_kept | with_reducible apply State.setR_kept | with_reducible apply Kept.ite | with_reducible apply Kept.fold | with_reducible apply Kept.fold2 | with_reducible apply Kept.fold1 | (lift_lets; intro t; first | (with_reducible refine Kept.cut t ?_ ?_; unfold t) | skip) | dsimp -zeta only | split | dsimp +zetaDelta only)

end Sys2Proof.Machine
end

