-- ==== Sys2Proof/Laws/Kept/Msp.lean ====
section
/-!
SUPPORT. Every operation of Machine/Msp.lean leaves the queue and keeps the tables in canonical form.
-/

set_option linter.unreachableTactic false
set_option linter.unusedTactic false
set_option linter.unusedVariables false

namespace Sys2Proof.Machine

theorem State.mspMul_kept {r₀ : State} (s : State) (m mop a da db : Nat) (h0 : Kept r₀ s) : Kept r₀ (State.mspMul s m mop a da db) := by
  unfold State.mspMul
  repeat' (first | with_reducible assumption | (intro t; first | (with_reducible refine Kept.cut t ?_ ?_; unfold t) | beta_reduce | skip) | with_reducible apply State.setA_kept | with_reducible apply Kept.ite | with_reducible apply Kept.fold | with_reducible apply Kept.fold2 | with_reducible apply Kept.fold1 | (lift_lets; intro t; first | (with_reducible refine Kept.cut t ?_ ?_; unfold t) | skip) | dsimp -zeta only | split | dsimp +zetaDelta only)

theorem State.parAccess_kept {r₀ : State} (s : State) (m d w d0 : Nat) (p0 y store : Bool) (h0 : Kept r₀ s) : Kept r₀ (State.parAccess s m d w d0 p0 y store) := by
  unfold State.parAccess
  repeat' (first | with_reducible assumption | (intro t; first | (with_reducible refine Kept.cut t ?_ ?_; unfold t) | beta_reduce | skip) | with_reducible apply State.mspLoad_kept | with_reducible apply State.mspStore_kept | with_reducible apply State.setD_kept | with_reducible apply Kept.ite | with_reducible apply Kept.fold | with_reducible apply Kept.fold2 | with_reducible apply Kept.fold1 | (lift_lets; intro t; first | (with_reducible refine Kept.cut t ?_ ?_; unfold t) | skip) | dsimp -zeta only | split | dsimp +zetaDelta only)

theorem execMspParallel_kept {r₀ : State} (m : Fin 128) (s : State) (h0 : Kept r₀ s) : KeptR r₀ (execMspParallel m s) := by
  unfold execMspParallel
  repeat' (first | with_reducible assumption | (intro t; first | (with_reducible refine Kept.cut t ?_ ?_; unfold t) | beta_reduce | skip) | with_reducible apply KeptR.next | with_reducible apply State.bumpP_kept | with_reducible apply State.mspMul_kept | with_reducible apply State.mspSimple_kept | with_reducible apply State.parAccess_kept | with_reducible apply Kept.ite | with_reducible apply KeptR.ite | with_reducible apply Kept.fold | with_reducible apply Kept.fold2 | with_reducible apply Kept.fold1 | (lift_lets; intro t; first | (with_reducible refine Kept.cut t ?_ ?_; unfold t) | skip) | dsimp -zeta only | split | dsimp +zetaDelta only)

theorem execMspNop_kept {r₀ : State} (m : Fin 128) (s : State) (h0 : Kept r₀ s) : KeptR r₀ (execMspNop m s) := by
  unfold execMspNop
  repeat' (first | with_reducible assumption | (intro t; first | (with_reducible refine Kept.cut t ?_ ?_; unfold t) | beta_reduce | skip) | with_reducible apply KeptR.next | with_reducible apply State.mspSimple_kept | with_reducible apply Kept.ite | with_reducible apply KeptR.ite | with_reducible apply Kept.fold | with_reducible apply Kept.fold2 | with_reducible apply Kept.fold1 | (lift_lets; intro t; first | (with_reducible refine Kept.cut t ?_ ?_; unfold t) | skip) | dsimp -zeta only | split | dsimp +zetaDelta only)

theorem execMspHalt_kept {r₀ : State} (m : Fin 128) (s : State) (h0 : Kept r₀ s) : KeptR r₀ (execMspHalt m s) := by
  unfold execMspHalt
  repeat' (first | with_reducible assumption | (intro t; first | (with_reducible refine Kept.cut t ?_ ?_; unfold t) | beta_reduce | skip) | with_reducible apply KeptR.next | with_reducible apply State.mspCycles_kept | with_reducible apply State.mspIns_kept | with_reducible apply State.mspLeave_kept | with_reducible apply State.raise_kept | with_reducible apply State.setR_kept | with_reducible apply Kept.ite | with_reducible apply KeptR.ite | with_reducible apply Kept.fold | with_reducible apply Kept.fold2 | with_reducible apply Kept.fold1 | (lift_lets; intro t; first | (with_reducible refine Kept.cut t ?_ ?_; unfold t) | skip) | dsimp -zeta only | split | dsimp +zetaDelta only)

theorem execMspBr_kept {r₀ : State} (m : Fin 128) (s : State) (h0 : Kept r₀ s) : KeptR r₀ (execMspBr m s) := by
  unfold execMspBr
  repeat' (first | with_reducible assumption | (intro t; first | (with_reducible refine Kept.cut t ?_ ?_; unfold t) | beta_reduce | skip) | with_reducible apply KeptR.next | with_reducible apply State.mspDone_kept | with_reducible apply State.mspIns_kept | with_reducible apply State.mspTake_kept | with_reducible apply Kept.ite | with_reducible apply KeptR.ite | with_reducible apply Kept.fold | with_reducible apply Kept.fold2 | with_reducible apply Kept.fold1 | (lift_lets; intro t; first | (with_reducible refine Kept.cut t ?_ ?_; unfold t) | skip) | dsimp -zeta only | split | dsimp +zetaDelta only)

theorem execMspCall_kept {r₀ : State} (m : Fin 128) (s : State) (h0 : Kept r₀ s) : KeptR r₀ (execMspCall m s) := by
  unfold execMspCall
  repeat' (first | with_reducible assumption | (intro t; first | (with_reducible refine Kept.cut t ?_ ?_; unfold t) | beta_reduce | skip) | with_reducible apply KeptR.next | with_reducible apply State.modMspx_kept | with_reducible apply State.mspExc_kept | with_reducible apply State.mspIns_kept | with_reducible apply State.mspJump_kept | with_reducible apply State.setR_kept | with_reducible apply Kept.ite | with_reducible apply KeptR.ite | with_reducible apply Kept.fold | with_reducible apply Kept.fold2 | with_reducible apply Kept.fold1 | (lift_lets; intro t; first | (with_reducible refine Kept.cut t ?_ ?_; unfold t) | skip) | dsimp -zeta only | split | dsimp +zetaDelta only)

theorem execMspRet_kept {r₀ : State} (m : Fin 128) (s : State) (h0 : Kept r₀ s) : KeptR r₀ (execMspRet m s) := by
  unfold execMspRet
  repeat' (first | with_reducible assumption | (intro t; first | (with_reducible refine Kept.cut t ?_ ?_; unfold t) | beta_reduce | skip) | with_reducible apply KeptR.next | with_reducible apply State.modMspx_kept | with_reducible apply State.mspExc_kept | with_reducible apply State.mspIns_kept | with_reducible apply State.mspJump_kept | with_reducible apply State.setR_kept | with_reducible apply Kept.ite | with_reducible apply KeptR.ite | with_reducible apply Kept.fold | with_reducible apply Kept.fold2 | with_reducible apply Kept.fold1 | (lift_lets; intro t; first | (with_reducible refine Kept.cut t ?_ ?_; unfold t) | skip) | dsimp -zeta only | split | dsimp +zetaDelta only)

theorem execMspBdnz_kept {r₀ : State} (m : Fin 128) (s : State) (h0 : Kept r₀ s) : KeptR r₀ (execMspBdnz m s) := by
  unfold execMspBdnz
  repeat' (first | with_reducible assumption | (intro t; first | (with_reducible refine Kept.cut t ?_ ?_; unfold t) | beta_reduce | skip) | with_reducible apply KeptR.next | with_reducible apply State.mspDone_kept | with_reducible apply State.mspExc_kept | with_reducible apply State.mspIns_kept | with_reducible apply State.mspTake_kept | with_reducible apply State.setD_kept | with_reducible apply Kept.ite | with_reducible apply KeptR.ite | with_reducible apply Kept.fold | with_reducible apply Kept.fold2 | with_reducible apply Kept.fold1 | (lift_lets; intro t; first | (with_reducible refine Kept.cut t ?_ ?_; unfold t) | skip) | dsimp -zeta only | split | dsimp +zetaDelta only)

theorem execMspRepeat_kept {r₀ : State} (m : Fin 128) (s : State) (h0 : Kept r₀ s) : KeptR r₀ (execMspRepeat m s) := by
  unfold execMspRepeat
  repeat' (first | with_reducible assumption | (intro t; first | (with_reducible refine Kept.cut t ?_ ?_; unfold t) | beta_reduce | skip) | with_reducible apply KeptR.next | with_reducible apply State.modMspx_kept | with_reducible apply State.mspDone_kept | with_reducible apply State.mspExc_kept | with_reducible apply State.mspFetch_kept | with_reducible apply State.mspIns_kept | with_reducible apply State.setR_kept | with_reducible apply Kept.ite | with_reducible apply KeptR.ite | with_reducible apply Kept.fold | with_reducible apply Kept.fold2 | with_reducible apply Kept.fold1 | (lift_lets; intro t; first | (with_reducible refine Kept.cut t ?_ ?_; unfold t) | skip) | dsimp -zeta only | split | dsimp +zetaDelta only)

theorem State.mspWaitOver_kept {r₀ : State} (s : State) (m : Nat) (w : MspWait) (h0 : Kept r₀ s) : Kept r₀ (State.mspWaitOver s m w) := by
  unfold State.mspWaitOver
  repeat' (first | with_reducible assumption | (intro t; first | (with_reducible refine Kept.cut t ?_ ?_; unfold t) | beta_reduce | skip) | with_reducible apply State.modMspx_kept | with_reducible apply State.mspDone_kept | with_reducible apply State.setR_kept | with_reducible apply Kept.ite | with_reducible apply Kept.fold | with_reducible apply Kept.fold2 | with_reducible apply Kept.fold1 | (lift_lets; intro t; first | (with_reducible refine Kept.cut t ?_ ?_; unfold t) | skip) | dsimp -zeta only | split | dsimp +zetaDelta only)

theorem State.barrierRelease_kept {r₀ : State} (s : State) (g : Nat) (h0 : Kept r₀ s) : Kept r₀ (State.barrierRelease s g) := by
  unfold State.barrierRelease
  repeat' (first | with_reducible assumption | (intro t; first | (with_reducible refine Kept.cut t ?_ ?_; unfold t) | beta_reduce | skip) | with_reducible apply State.mspWaitOver_kept | with_reducible apply Kept.ite | with_reducible apply Kept.fold | with_reducible apply Kept.fold2 | with_reducible apply Kept.fold1 | (lift_lets; intro t; first | (with_reducible refine Kept.cut t ?_ ?_; unfold t) | skip) | dsimp -zeta only | split | dsimp +zetaDelta only)

theorem State.mspWaitIns_kept {r₀ : State} (s : State) (m kind lag : Nat) (h0 : Kept r₀ s) : KeptR r₀ (State.mspWaitIns s m kind lag) := by
  unfold State.mspWaitIns
  repeat' (first | with_reducible assumption | (intro t; first | (with_reducible refine Kept.cut t ?_ ?_; unfold t) | beta_reduce | skip) | with_reducible apply KeptR.next | with_reducible apply State.barrierRelease_kept | with_reducible apply State.modMspx_kept | with_reducible apply State.mspDone_kept | with_reducible apply State.mspExc_kept | with_reducible apply State.mspIns_kept | with_reducible apply State.setR_kept | with_reducible apply Kept.ite | with_reducible apply KeptR.ite | with_reducible apply Kept.fold | with_reducible apply Kept.fold2 | with_reducible apply Kept.fold1 | (lift_lets; intro t; first | (with_reducible refine Kept.cut t ?_ ?_; unfold t) | skip) | dsimp -zeta only | split | dsimp +zetaDelta only)

theorem execMspWaitInbox_kept {r₀ : State} (m : Fin 128) (s : State) (h0 : Kept r₀ s) : KeptR r₀ (execMspWaitInbox m s) := by
  unfold execMspWaitInbox
  repeat' (first | with_reducible assumption | (intro t; first | (with_reducible refine Kept.cut t ?_ ?_; unfold t) | beta_reduce | skip) | with_reducible apply KeptR.next | with_reducible apply State.mspWaitIns_kept | with_reducible apply Kept.ite | with_reducible apply KeptR.ite | with_reducible apply Kept.fold | with_reducible apply Kept.fold2 | with_reducible apply Kept.fold1 | (lift_lets; intro t; first | (with_reducible refine Kept.cut t ?_ ?_; unfold t) | skip) | dsimp -zeta only | split | dsimp +zetaDelta only)

theorem execMspWaitTime_kept {r₀ : State} (m : Fin 128) (lag : Fin 2561) (s : State) (h0 : Kept r₀ s) : KeptR r₀ (execMspWaitTime m lag s) := by
  unfold execMspWaitTime
  repeat' (first | with_reducible assumption | (intro t; first | (with_reducible refine Kept.cut t ?_ ?_; unfold t) | beta_reduce | skip) | with_reducible apply KeptR.next | with_reducible apply State.mspWaitIns_kept | with_reducible apply Kept.ite | with_reducible apply KeptR.ite | with_reducible apply Kept.fold | with_reducible apply Kept.fold2 | with_reducible apply Kept.fold1 | (lift_lets; intro t; first | (with_reducible refine Kept.cut t ?_ ?_; unfold t) | skip) | dsimp -zeta only | split | dsimp +zetaDelta only)

theorem execMspWaitBarrier_kept {r₀ : State} (m : Fin 128) (s : State) (h0 : Kept r₀ s) : KeptR r₀ (execMspWaitBarrier m s) := by
  unfold execMspWaitBarrier
  repeat' (first | with_reducible assumption | (intro t; first | (with_reducible refine Kept.cut t ?_ ?_; unfold t) | beta_reduce | skip) | with_reducible apply KeptR.next | with_reducible apply State.mspWaitIns_kept | with_reducible apply Kept.ite | with_reducible apply KeptR.ite | with_reducible apply Kept.fold | with_reducible apply Kept.fold2 | with_reducible apply Kept.fold1 | (lift_lets; intro t; first | (with_reducible refine Kept.cut t ?_ ?_; unfold t) | skip) | dsimp -zeta only | split | dsimp +zetaDelta only)

theorem execMspWaitChannel_kept {r₀ : State} (m : Fin 128) (s : State) (h0 : Kept r₀ s) : KeptR r₀ (execMspWaitChannel m s) := by
  unfold execMspWaitChannel
  repeat' (first | with_reducible assumption | (intro t; first | (with_reducible refine Kept.cut t ?_ ?_; unfold t) | beta_reduce | skip) | with_reducible apply KeptR.next | with_reducible apply State.mspWaitIns_kept | with_reducible apply Kept.ite | with_reducible apply KeptR.ite | with_reducible apply Kept.fold | with_reducible apply Kept.fold2 | with_reducible apply Kept.fold1 | (lift_lets; intro t; first | (with_reducible refine Kept.cut t ?_ ?_; unfold t) | skip) | dsimp -zeta only | split | dsimp +zetaDelta only)

theorem execMspWaitEnd_kept {r₀ : State} (m : Fin 128) (lag : Fin 2561) (s : State) (h0 : Kept r₀ s) : KeptR r₀ (execMspWaitEnd m lag s) := by
  unfold execMspWaitEnd
  repeat' (first | with_reducible assumption | (intro t; first | (with_reducible refine Kept.cut t ?_ ?_; unfold t) | beta_reduce | skip) | with_reducible apply KeptR.next | with_reducible apply State.barrierRelease_kept | with_reducible apply State.mspWaitOver_kept | with_reducible apply State.when_kept | with_reducible apply Kept.ite | with_reducible apply KeptR.ite | with_reducible apply Kept.fold | with_reducible apply Kept.fold2 | with_reducible apply Kept.fold1 | (lift_lets; intro t; first | (with_reducible refine Kept.cut t ?_ ?_; unfold t) | skip) | dsimp -zeta only | split | dsimp +zetaDelta only)

theorem execMspSend_kept {r₀ : State} (m : Fin 128) (s : State) (h0 : Kept r₀ s) : KeptR r₀ (execMspSend m s) := by
  unfold execMspSend
  repeat' (first | with_reducible assumption | (intro t; first | (with_reducible refine Kept.cut t ?_ ?_; unfold t) | beta_reduce | skip) | with_reducible apply KeptR.next | with_reducible apply State.modMspx_kept | with_reducible apply State.mspDone_kept | with_reducible apply State.mspExc_kept | with_reducible apply State.setR_kept | with_reducible apply State.wrapAdd_kept | (with_reducible refine State.mspWord_kept ?_ (by assumption)) | with_reducible apply Kept.ite | with_reducible apply KeptR.ite | with_reducible apply Kept.fold | with_reducible apply Kept.fold2 | with_reducible apply Kept.fold1 | (lift_lets; intro t; first | (with_reducible refine Kept.cut t ?_ ?_; unfold t) | skip) | dsimp -zeta only | split | dsimp +zetaDelta only)

theorem execMspSflg_kept {r₀ : State} (m : Fin 128) (s : State) (h0 : Kept r₀ s) : KeptR r₀ (execMspSflg m s) := by
  unfold execMspSflg
  repeat' (first | with_reducible assumption | (intro t; first | (with_reducible refine Kept.cut t ?_ ?_; unfold t) | beta_reduce | skip) | with_reducible apply KeptR.next | with_reducible apply State.mspSimple_kept | with_reducible apply State.setR_kept | with_reducible apply Kept.ite | with_reducible apply KeptR.ite | with_reducible apply Kept.fold | with_reducible apply Kept.fold2 | with_reducible apply Kept.fold1 | (lift_lets; intro t; first | (with_reducible refine Kept.cut t ?_ ?_; unfold t) | skip) | dsimp -zeta only | split | dsimp +zetaDelta only)

theorem execMspLdi_kept {r₀ : State} (m : Fin 128) (s : State) (h0 : Kept r₀ s) : KeptR r₀ (execMspLdi m s) := by
  unfold execMspLdi
  repeat' (first | with_reducible assumption | (intro t; first | (with_reducible refine Kept.cut t ?_ ?_; unfold t) | beta_reduce | skip) | with_reducible apply KeptR.next | with_reducible apply State.mspSimple_kept | with_reducible apply State.setD_kept | with_reducible apply Kept.ite | with_reducible apply KeptR.ite | with_reducible apply Kept.fold | with_reducible apply Kept.fold2 | with_reducible apply Kept.fold1 | (lift_lets; intro t; first | (with_reducible refine Kept.cut t ?_ ?_; unfold t) | skip) | dsimp -zeta only | split | dsimp +zetaDelta only)

theorem execMspMov_kept {r₀ : State} (m : Fin 128) (s : State) (h0 : Kept r₀ s) : KeptR r₀ (execMspMov m s) := by
  unfold execMspMov
  repeat' (first | with_reducible assumption | (intro t; first | (with_reducible refine Kept.cut t ?_ ?_; unfold t) | beta_reduce | skip) | with_reducible apply KeptR.next | with_reducible apply State.mspSimple_kept | with_reducible apply State.setD_kept | with_reducible apply Kept.ite | with_reducible apply KeptR.ite | with_reducible apply Kept.fold | with_reducible apply Kept.fold2 | with_reducible apply Kept.fold1 | (lift_lets; intro t; first | (with_reducible refine Kept.cut t ?_ ?_; unfold t) | skip) | dsimp -zeta only | split | dsimp +zetaDelta only)

theorem execMspMovp_kept {r₀ : State} (m : Fin 128) (s : State) (h0 : Kept r₀ s) : KeptR r₀ (execMspMovp m s) := by
  unfold execMspMovp
  repeat' (first | with_reducible assumption | (intro t; first | (with_reducible refine Kept.cut t ?_ ?_; unfold t) | beta_reduce | skip) | with_reducible apply KeptR.next | with_reducible apply State.mspDone_kept | with_reducible apply State.mspIns_kept | with_reducible apply State.setD_kept | with_reducible apply State.setR_kept | with_reducible apply Kept.ite | with_reducible apply KeptR.ite | with_reducible apply Kept.fold | with_reducible apply Kept.fold2 | with_reducible apply Kept.fold1 | (lift_lets; intro t; first | (with_reducible refine Kept.cut t ?_ ?_; unfold t) | skip) | dsimp -zeta only | split | dsimp +zetaDelta only)

theorem State.putSpecial_kept {r₀ : State} (s : State) (m x v : Nat) (h0 : Kept r₀ s) : Kept r₀ (State.putSpecial s m x v) := by
  unfold State.putSpecial
  repeat' (first | with_reducible assumption | (intro t; first | (with_reducible refine Kept.cut t ?_ ?_; unfold t) | beta_reduce | skip) | with_reducible apply State.setR_kept | with_reducible apply Kept.ite | with_reducible apply Kept.fold | with_reducible apply Kept.fold2 | with_reducible apply Kept.fold1 | (lift_lets; intro t; first | (with_reducible refine Kept.cut t ?_ ?_; unfold t) | skip) | dsimp -zeta only | split | dsimp +zetaDelta only)

theorem execMspMovs_kept {r₀ : State} (m : Fin 128) (lag : Fin 2561) (s : State) (h0 : Kept r₀ s) : KeptR r₀ (execMspMovs m lag s) := by
  unfold execMspMovs
  repeat' (first | with_reducible assumption | (intro t; first | (with_reducible refine Kept.cut t ?_ ?_; unfold t) | beta_reduce | skip) | with_reducible apply KeptR.next | with_reducible apply State.modMspx_kept | with_reducible apply State.mspDone_kept | with_reducible apply State.mspExc_kept | with_reducible apply State.mspIns_kept | with_reducible apply State.putSpecial_kept | with_reducible apply State.setD_kept | with_reducible apply Kept.ite | with_reducible apply KeptR.ite | with_reducible apply Kept.fold | with_reducible apply Kept.fold2 | with_reducible apply Kept.fold1 | (lift_lets; intro t; first | (with_reducible refine Kept.cut t ?_ ?_; unfold t) | skip) | dsimp -zeta only | split | dsimp +zetaDelta only)

theorem execMspLd_kept {r₀ : State} (m : Fin 128) (s : State) (h0 : Kept r₀ s) : KeptR r₀ (execMspLd m s) := by
  unfold execMspLd
  repeat' (first | with_reducible assumption | (intro t; first | (with_reducible refine Kept.cut t ?_ ?_; unfold t) | beta_reduce | skip) | with_reducible apply KeptR.next | with_reducible apply State.bumpP_kept | with_reducible apply State.mspLoad_kept | with_reducible apply State.mspLoad64_kept | with_reducible apply State.mspSimple_kept | with_reducible apply State.setD_kept | with_reducible apply Kept.ite | with_reducible apply KeptR.ite | with_reducible apply Kept.fold | with_reducible apply Kept.fold2 | with_reducible apply Kept.fold1 | (lift_lets; intro t; first | (with_reducible refine Kept.cut t ?_ ?_; unfold t) | skip) | dsimp -zeta only | split | dsimp +zetaDelta only)

theorem execMspSt_kept {r₀ : State} (m : Fin 128) (s : State) (h0 : Kept r₀ s) : KeptR r₀ (execMspSt m s) := by
  unfold execMspSt
  repeat' (first | with_reducible assumption | (intro t; first | (with_reducible refine Kept.cut t ?_ ?_; unfold t) | beta_reduce | skip) | with_reducible apply KeptR.next | with_reducible apply State.bumpP_kept | with_reducible apply State.mspSimple_kept | with_reducible apply State.mspStore_kept | with_reducible apply State.mspStore64_kept | with_reducible apply Kept.ite | with_reducible apply KeptR.ite | with_reducible apply Kept.fold | with_reducible apply Kept.fold2 | with_reducible apply Kept.fold1 | (lift_lets; intro t; first | (with_reducible refine Kept.cut t ?_ ?_; unfold t) | skip) | dsimp -zeta only | split | dsimp +zetaDelta only)

theorem State.mspSum_kept {r₀ : State} (s : State) (m d a b : Nat) (h0 : Kept r₀ s) : Kept r₀ (State.mspSum s m d a b) := by
  unfold State.mspSum
  repeat' (first | with_reducible assumption | (intro t; first | (with_reducible refine Kept.cut t ?_ ?_; unfold t) | beta_reduce | skip) | with_reducible apply State.setD_kept | with_reducible apply State.setFlags_kept | with_reducible apply Kept.ite | with_reducible apply Kept.fold | with_reducible apply Kept.fold2 | with_reducible apply Kept.fold1 | (lift_lets; intro t; first | (with_reducible refine Kept.cut t ?_ ?_; unfold t) | skip) | dsimp -zeta only | split | dsimp +zetaDelta only)

theorem State.mspDiffFlags_kept {r₀ : State} (s : State) (m a b : Nat) (h0 : Kept r₀ s) : Kept r₀ (State.mspDiffFlags s m a b) := by
  unfold State.mspDiffFlags
  repeat' (first | with_reducible assumption | (intro t; first | (with_reducible refine Kept.cut t ?_ ?_; unfold t) | beta_reduce | skip) | with_reducible apply State.setFlags_kept | with_reducible apply Kept.ite | with_reducible apply Kept.fold | with_reducible apply Kept.fold2 | with_reducible apply Kept.fold1 | (lift_lets; intro t; first | (with_reducible refine Kept.cut t ?_ ?_; unfold t) | skip) | dsimp -zeta only | split | dsimp +zetaDelta only)

theorem State.mspLogic_kept {r₀ : State} (s : State) (m d v : Nat) (h0 : Kept r₀ s) : Kept r₀ (State.mspLogic s m d v) := by
  unfold State.mspLogic
  repeat' (first | with_reducible assumption | (intro t; first | (with_reducible refine Kept.cut t ?_ ?_; unfold t) | beta_reduce | skip) | with_reducible apply State.setD_kept | with_reducible apply State.setFlags_kept | with_reducible apply Kept.ite | with_reducible apply Kept.fold | with_reducible apply Kept.fold2 | with_reducible apply Kept.fold1 | (lift_lets; intro t; first | (with_reducible refine Kept.cut t ?_ ?_; unfold t) | skip) | dsimp -zeta only | split | dsimp +zetaDelta only)

theorem execMspAdd_kept {r₀ : State} (m : Fin 128) (s : State) (h0 : Kept r₀ s) : KeptR r₀ (execMspAdd m s) := by
  unfold execMspAdd
  repeat' (first | with_reducible assumption | (intro t; first | (with_reducible refine Kept.cut t ?_ ?_; unfold t) | beta_reduce | skip) | with_reducible apply KeptR.next | with_reducible apply State.mspSimple_kept | with_reducible apply State.mspSum_kept | with_reducible apply Kept.ite | with_reducible apply KeptR.ite | with_reducible apply Kept.fold | with_reducible apply Kept.fold2 | with_reducible apply Kept.fold1 | (lift_lets; intro t; first | (with_reducible refine Kept.cut t ?_ ?_; unfold t) | skip) | dsimp -zeta only | split | dsimp +zetaDelta only)

theorem execMspSub_kept {r₀ : State} (m : Fin 128) (s : State) (h0 : Kept r₀ s) : KeptR r₀ (execMspSub m s) := by
  unfold execMspSub
  repeat' (first | with_reducible assumption | (intro t; first | (with_reducible refine Kept.cut t ?_ ?_; unfold t) | beta_reduce | skip) | with_reducible apply KeptR.next | with_reducible apply State.mspDiffFlags_kept | with_reducible apply State.mspSimple_kept | with_reducible apply State.setD_kept | with_reducible apply Kept.ite | with_reducible apply KeptR.ite | with_reducible apply Kept.fold | with_reducible apply Kept.fold2 | with_reducible apply Kept.fold1 | (lift_lets; intro t; first | (with_reducible refine Kept.cut t ?_ ?_; unfold t) | skip) | dsimp -zeta only | split | dsimp +zetaDelta only)

theorem execMspAnd_kept {r₀ : State} (m : Fin 128) (s : State) (h0 : Kept r₀ s) : KeptR r₀ (execMspAnd m s) := by
  unfold execMspAnd
  repeat' (first | with_reducible assumption | (intro t; first | (with_reducible refine Kept.cut t ?_ ?_; unfold t) | beta_reduce | skip) | with_reducible apply KeptR.next | with_reducible apply State.mspLogic_kept | with_reducible apply State.mspSimple_kept | with_reducible apply Kept.ite | with_reducible apply KeptR.ite | with_reducible apply Kept.fold | with_reducible apply Kept.fold2 | with_reducible apply Kept.fold1 | (lift_lets; intro t; first | (with_reducible refine Kept.cut t ?_ ?_; unfold t) | skip) | dsimp -zeta only | split | dsimp +zetaDelta only)

theorem execMspOr_kept {r₀ : State} (m : Fin 128) (s : State) (h0 : Kept r₀ s) : KeptR r₀ (execMspOr m s) := by
  unfold execMspOr
  repeat' (first | with_reducible assumption | (intro t; first | (with_reducible refine Kept.cut t ?_ ?_; unfold t) | beta_reduce | skip) | with_reducible apply KeptR.next | with_reducible apply State.mspLogic_kept | with_reducible apply State.mspSimple_kept | with_reducible apply Kept.ite | with_reducible apply KeptR.ite | with_reducible apply Kept.fold | with_reducible apply Kept.fold2 | with_reducible apply Kept.fold1 | (lift_lets; intro t; first | (with_reducible refine Kept.cut t ?_ ?_; unfold t) | skip) | dsimp -zeta only | split | dsimp +zetaDelta only)

theorem execMspXor_kept {r₀ : State} (m : Fin 128) (s : State) (h0 : Kept r₀ s) : KeptR r₀ (execMspXor m s) := by
  unfold execMspXor
  repeat' (first | with_reducible assumption | (intro t; first | (with_reducible refine Kept.cut t ?_ ?_; unfold t) | beta_reduce | skip) | with_reducible apply KeptR.next | with_reducible apply State.mspLogic_kept | with_reducible apply State.mspSimple_kept | with_reducible apply Kept.ite | with_reducible apply KeptR.ite | with_reducible apply Kept.fold | with_reducible apply Kept.fold2 | with_reducible apply Kept.fold1 | (lift_lets; intro t; first | (with_reducible refine Kept.cut t ?_ ?_; unfold t) | skip) | dsimp -zeta only | split | dsimp +zetaDelta only)

theorem execMspAddi_kept {r₀ : State} (m : Fin 128) (s : State) (h0 : Kept r₀ s) : KeptR r₀ (execMspAddi m s) := by
  unfold execMspAddi
  repeat' (first | with_reducible assumption | (intro t; first | (with_reducible refine Kept.cut t ?_ ?_; unfold t) | beta_reduce | skip) | with_reducible apply KeptR.next | with_reducible apply State.mspSimple_kept | with_reducible apply State.mspSum_kept | with_reducible apply Kept.ite | with_reducible apply KeptR.ite | with_reducible apply Kept.fold | with_reducible apply Kept.fold2 | with_reducible apply Kept.fold1 | (lift_lets; intro t; first | (with_reducible refine Kept.cut t ?_ ?_; unfold t) | skip) | dsimp -zeta only | split | dsimp +zetaDelta only)

theorem execMspShift_kept {r₀ : State} (m : Fin 128) (s : State) (h0 : Kept r₀ s) : KeptR r₀ (execMspShift m s) := by
  unfold execMspShift
  repeat' (first | with_reducible assumption | (intro t; first | (with_reducible refine Kept.cut t ?_ ?_; unfold t) | beta_reduce | skip) | with_reducible apply KeptR.next | with_reducible apply State.mspSimple_kept | with_reducible apply State.setD_kept | with_reducible apply State.setFlags_kept | with_reducible apply Kept.ite | with_reducible apply KeptR.ite | with_reducible apply Kept.fold | with_reducible apply Kept.fold2 | with_reducible apply Kept.fold1 | (lift_lets; intro t; first | (with_reducible refine Kept.cut t ?_ ?_; unfold t) | skip) | dsimp -zeta only | split | dsimp +zetaDelta only)

theorem execMspCmp_kept {r₀ : State} (m : Fin 128) (s : State) (h0 : Kept r₀ s) : KeptR r₀ (execMspCmp m s) := by
  unfold execMspCmp
  repeat' (first | with_reducible assumption | (intro t; first | (with_reducible refine Kept.cut t ?_ ?_; unfold t) | beta_reduce | skip) | with_reducible apply KeptR.next | with_reducible apply State.mspDiffFlags_kept | with_reducible apply State.mspSimple_kept | with_reducible apply Kept.ite | with_reducible apply KeptR.ite | with_reducible apply Kept.fold | with_reducible apply Kept.fold2 | with_reducible apply Kept.fold1 | (lift_lets; intro t; first | (with_reducible refine Kept.cut t ?_ ?_; unfold t) | skip) | dsimp -zeta only | split | dsimp +zetaDelta only)

theorem execMspMin_kept {r₀ : State} (m : Fin 128) (s : State) (h0 : Kept r₀ s) : KeptR r₀ (execMspMin m s) := by
  unfold execMspMin
  repeat' (first | with_reducible assumption | (intro t; first | (with_reducible refine Kept.cut t ?_ ?_; unfold t) | beta_reduce | skip) | with_reducible apply KeptR.next | with_reducible apply State.mspLogic_kept | with_reducible apply State.mspSimple_kept | with_reducible apply Kept.ite | with_reducible apply KeptR.ite | with_reducible apply Kept.fold | with_reducible apply Kept.fold2 | with_reducible apply Kept.fold1 | (lift_lets; intro t; first | (with_reducible refine Kept.cut t ?_ ?_; unfold t) | skip) | dsimp -zeta only | split | dsimp +zetaDelta only)

theorem execMspMax_kept {r₀ : State} (m : Fin 128) (s : State) (h0 : Kept r₀ s) : KeptR r₀ (execMspMax m s) := by
  unfold execMspMax
  repeat' (first | with_reducible assumption | (intro t; first | (with_reducible refine Kept.cut t ?_ ?_; unfold t) | beta_reduce | skip) | with_reducible apply KeptR.next | with_reducible apply State.mspLogic_kept | with_reducible apply State.mspSimple_kept | with_reducible apply Kept.ite | with_reducible apply KeptR.ite | with_reducible apply Kept.fold | with_reducible apply Kept.fold2 | with_reducible apply Kept.fold1 | (lift_lets; intro t; first | (with_reducible refine Kept.cut t ?_ ?_; unfold t) | skip) | dsimp -zeta only | split | dsimp +zetaDelta only)

theorem execMspAbs_kept {r₀ : State} (m : Fin 128) (s : State) (h0 : Kept r₀ s) : KeptR r₀ (execMspAbs m s) := by
  unfold execMspAbs
  repeat' (first | with_reducible assumption | (intro t; first | (with_reducible refine Kept.cut t ?_ ?_; unfold t) | beta_reduce | skip) | with_reducible apply KeptR.next | with_reducible apply State.mspLogic_kept | with_reducible apply State.mspSimple_kept | with_reducible apply State.setSr_kept | with_reducible apply Kept.ite | with_reducible apply KeptR.ite | with_reducible apply Kept.fold | with_reducible apply Kept.fold2 | with_reducible apply Kept.fold1 | (lift_lets; intro t; first | (with_reducible refine Kept.cut t ?_ ?_; unfold t) | skip) | dsimp -zeta only | split | dsimp +zetaDelta only)

theorem State.mspIndexed_kept {r₀ : State} (s : State) (m w : Nat) (better : Int → Int → Bool) (h0 : Kept r₀ s) : Kept r₀ (State.mspIndexed s m w better) := by
  unfold State.mspIndexed
  repeat' (first | with_reducible assumption | (intro t; first | (with_reducible refine Kept.cut t ?_ ?_; unfold t) | beta_reduce | skip) | with_reducible apply State.bumpP_kept | with_reducible apply State.draw_kept | with_reducible apply State.mspLoad_kept | with_reducible apply State.setD_kept | with_reducible apply State.setR_kept | with_reducible apply Kept.ite | with_reducible apply Kept.fold | with_reducible apply Kept.fold2 | with_reducible apply Kept.fold1 | (lift_lets; intro t; first | (with_reducible refine Kept.cut t ?_ ?_; unfold t) | skip) | dsimp -zeta only | split | dsimp +zetaDelta only)

theorem execMspMinix_kept {r₀ : State} (m : Fin 128) (s : State) (h0 : Kept r₀ s) : KeptR r₀ (execMspMinix m s) := by
  unfold execMspMinix
  repeat' (first | with_reducible assumption | (intro t; first | (with_reducible refine Kept.cut t ?_ ?_; unfold t) | beta_reduce | skip) | with_reducible apply KeptR.next | with_reducible apply State.mspIndexed_kept | with_reducible apply State.mspSimple_kept | with_reducible apply Kept.ite | with_reducible apply KeptR.ite | with_reducible apply Kept.fold | with_reducible apply Kept.fold2 | with_reducible apply Kept.fold1 | (lift_lets; intro t; first | (with_reducible refine Kept.cut t ?_ ?_; unfold t) | skip) | dsimp -zeta only | split | dsimp +zetaDelta only)

theorem execMspMaxix_kept {r₀ : State} (m : Fin 128) (s : State) (h0 : Kept r₀ s) : KeptR r₀ (execMspMaxix m s) := by
  unfold execMspMaxix
  repeat' (first | with_reducible assumption | (intro t; first | (with_reducible refine Kept.cut t ?_ ?_; unfold t) | beta_reduce | skip) | with_reducible apply KeptR.next | with_reducible apply State.mspIndexed_kept | with_reducible apply State.mspSimple_kept | with_reducible apply Kept.ite | with_reducible apply KeptR.ite | with_reducible apply Kept.fold | with_reducible apply Kept.fold2 | with_reducible apply Kept.fold1 | (lift_lets; intro t; first | (with_reducible refine Kept.cut t ?_ ?_; unfold t) | skip) | dsimp -zeta only | split | dsimp +zetaDelta only)

theorem execMspMacd_kept {r₀ : State} (m : Fin 128) (s : State) (h0 : Kept r₀ s) : KeptR r₀ (execMspMacd m s) := by
  unfold execMspMacd
  repeat' (first | with_reducible assumption | (intro t; first | (with_reducible refine Kept.cut t ?_ ?_; unfold t) | beta_reduce | skip) | with_reducible apply KeptR.next | with_reducible apply State.mspMul_kept | with_reducible apply State.mspSimple_kept | with_reducible apply Kept.ite | with_reducible apply KeptR.ite | with_reducible apply Kept.fold | with_reducible apply Kept.fold2 | with_reducible apply Kept.fold1 | (lift_lets; intro t; first | (with_reducible refine Kept.cut t ?_ ?_; unfold t) | skip) | dsimp -zeta only | split | dsimp +zetaDelta only)

theorem execMspAcc_kept {r₀ : State} (m : Fin 128) (s : State) (h0 : Kept r₀ s) : KeptR r₀ (execMspAcc m s) := by
  unfold execMspAcc
  repeat' (first | with_reducible assumption | (intro t; first | (with_reducible refine Kept.cut t ?_ ?_; unfold t) | beta_reduce | skip) | with_reducible apply KeptR.next | with_reducible apply State.mspSimple_kept | with_reducible apply State.setA_kept | with_reducible apply Kept.ite | with_reducible apply KeptR.ite | with_reducible apply Kept.fold | with_reducible apply Kept.fold2 | with_reducible apply Kept.fold1 | (lift_lets; intro t; first | (with_reducible refine Kept.cut t ?_ ?_; unfold t) | skip) | dsimp -zeta only | split | dsimp +zetaDelta only)

theorem execMspSta_kept {r₀ : State} (m : Fin 128) (s : State) (h0 : Kept r₀ s) : KeptR r₀ (execMspSta m s) := by
  unfold execMspSta
  repeat' (first | with_reducible assumption | (intro t; first | (with_reducible refine Kept.cut t ?_ ?_; unfold t) | beta_reduce | skip) | with_reducible apply KeptR.next | with_reducible apply State.mspSimple_kept | with_reducible apply State.setD_kept | with_reducible apply State.setSr_kept | with_reducible apply Kept.ite | with_reducible apply KeptR.ite | with_reducible apply Kept.fold | with_reducible apply Kept.fold2 | with_reducible apply Kept.fold1 | (lift_lets; intro t; first | (with_reducible refine Kept.cut t ?_ ?_; unfold t) | skip) | dsimp -zeta only | split | dsimp +zetaDelta only)

theorem execMspIllegal_kept {r₀ : State} (m : Fin 128) (s : State) (h0 : Kept r₀ s) : KeptR r₀ (execMspIllegal m s) := by
  unfold execMspIllegal
  repeat' (first | with_reducible assumption | (intro t; first | (with_reducible refine Kept.cut t ?_ ?_; unfold t) | beta_reduce | skip) | with_reducible apply KeptR.next | with_reducible apply State.mspExc_kept | with_reducible apply State.mspIns_kept | with_reducible apply Kept.ite | with_reducible apply KeptR.ite | with_reducible apply Kept.fold | with_reducible apply Kept.fold2 | with_reducible apply Kept.fold1 | (lift_lets; intro t; first | (with_reducible refine Kept.cut t ?_ ?_; unfold t) | skip) | dsimp -zeta only | split | dsimp +zetaDelta only)

theorem State.grpWrite_kept {r₀ : State} (s : State) (g : Nat) (mask : BitVec 8) (clr : Bool) (h0 : Kept r₀ s) : Kept r₀ (State.grpWrite s g mask clr) := by
  unfold State.grpWrite
  repeat' (first | with_reducible assumption | (intro t; first | (with_reducible refine Kept.cut t ?_ ?_; unfold t) | beta_reduce | skip) | with_reducible apply State.setR_kept | with_reducible apply Kept.ite | with_reducible apply Kept.fold | with_reducible apply Kept.fold2 | with_reducible apply Kept.fold1 | (lift_lets; intro t; first | (with_reducible refine Kept.cut t ?_ ?_; unfold t) | skip) | dsimp -zeta only | split | dsimp +zetaDelta only)

theorem execMspGrpGo_kept {r₀ : State} (g : Fin 16) (mask : BitVec 8) (clr : Bool) (s : State) (h0 : Kept r₀ s) : KeptR r₀ (execMspGrpGo g mask clr s) := by
  unfold execMspGrpGo
  repeat' (first | with_reducible assumption | (intro t; first | (with_reducible refine Kept.cut t ?_ ?_; unfold t) | beta_reduce | skip) | with_reducible apply KeptR.next | with_reducible apply State.grpWrite_kept | with_reducible apply State.setEach_kept | with_reducible apply State.setR_kept | with_reducible apply State.touchGroup_kept | with_reducible apply Kept.ite | with_reducible apply KeptR.ite | with_reducible apply Kept.fold | with_reducible apply Kept.fold2 | with_reducible apply Kept.fold1 | (lift_lets; intro t; first | (with_reducible refine Kept.cut t ?_ ?_; unfold t) | skip) | dsimp -zeta only | split | dsimp +zetaDelta only)

theorem State.mspClr_kept {r₀ : State} (s : State) (m : Nat) (h0 : Kept r₀ s) : Kept r₀ (State.mspClr s m) := by
  unfold State.mspClr
  repeat' (first | with_reducible assumption | (intro t; first | (with_reducible refine Kept.cut t ?_ ?_; unfold t) | beta_reduce | skip) | with_reducible apply State.resetFields_kept | with_reducible apply State.resetRange_kept | with_reducible apply Kept.ite | with_reducible apply Kept.fold | with_reducible apply Kept.fold2 | with_reducible apply Kept.fold1 | (lift_lets; intro t; first | (with_reducible refine Kept.cut t ?_ ?_; unfold t) | skip) | dsimp -zeta only | split | dsimp +zetaDelta only)

theorem State.mspStart_kept {r₀ : State} (s : State) (m : Nat) (clr : Bool) (h0 : Kept r₀ s) : Kept r₀ (State.mspStart s m clr) := by
  unfold State.mspStart
  repeat' (first | with_reducible assumption | (intro t; first | (with_reducible refine Kept.cut t ?_ ?_; unfold t) | beta_reduce | skip) | with_reducible apply State.modMspx_kept | with_reducible apply State.mspClr_kept | with_reducible apply State.mspSt_kept | with_reducible apply State.resetFields_kept | with_reducible apply State.setR_kept | with_reducible apply Kept.ite | with_reducible apply Kept.fold | with_reducible apply Kept.fold2 | with_reducible apply Kept.fold1 | (lift_lets; intro t; first | (with_reducible refine Kept.cut t ?_ ?_; unfold t) | skip) | dsimp -zeta only | split | dsimp +zetaDelta only)

theorem execMspStartCycle_kept {r₀ : State} (g : Fin 16) (s : State) (h0 : Kept r₀ s) : KeptR r₀ (execMspStartCycle g s) := by
  unfold execMspStartCycle
  repeat' (first | with_reducible assumption | (intro t; first | (with_reducible refine Kept.cut t ?_ ?_; unfold t) | beta_reduce | skip) | with_reducible apply KeptR.next | with_reducible apply State.markCommit_kept | with_reducible apply State.mspStart_kept | with_reducible apply State.raise_kept | with_reducible apply State.setR_kept | with_reducible apply Kept.ite | with_reducible apply KeptR.ite | with_reducible apply Kept.fold | with_reducible apply Kept.fold2 | with_reducible apply Kept.fold1 | (lift_lets; intro t; first | (with_reducible refine Kept.cut t ?_ ?_; unfold t) | skip) | dsimp -zeta only | split | with_reducible apply Map.sortedFrom_filter | with_reducible apply Map.wf_filter | dsimp +zetaDelta only)

theorem execMspGrpAbort_kept {r₀ : State} (g : Fin 16) (mask : BitVec 8) (clr : Bool) (s : State) (h0 : Kept r₀ s) : KeptR r₀ (execMspGrpAbort g mask clr s) := by
  unfold execMspGrpAbort
  repeat' (first | with_reducible assumption | (intro t; first | (with_reducible refine Kept.cut t ?_ ?_; unfold t) | beta_reduce | skip) | with_reducible apply KeptR.next | with_reducible apply State.grpWrite_kept | with_reducible apply State.raise_kept | with_reducible apply State.setEach_kept | with_reducible apply State.setR_kept | with_reducible apply State.touchGroup_kept | with_reducible apply Kept.ite | with_reducible apply KeptR.ite | with_reducible apply Kept.fold | with_reducible apply Kept.fold2 | with_reducible apply Kept.fold1 | (lift_lets; intro t; first | (with_reducible refine Kept.cut t ?_ ?_; unfold t) | skip) | dsimp -zeta only | split | with_reducible apply Map.sortedFrom_filter | with_reducible apply Map.wf_filter | dsimp +zetaDelta only)

theorem execMspGrpStop_kept {r₀ : State} (g : Fin 16) (mask : BitVec 8) (clr : Bool) (s : State) (h0 : Kept r₀ s) : KeptR r₀ (execMspGrpStop g mask clr s) := by
  unfold execMspGrpStop
  repeat' (first | with_reducible assumption | (intro t; first | (with_reducible refine Kept.cut t ?_ ?_; unfold t) | beta_reduce | skip) | with_reducible apply KeptR.next | with_reducible apply State.grpWrite_kept | with_reducible apply State.modMspx_kept | with_reducible apply State.mspStopped_kept | with_reducible apply State.touchGroup_kept | with_reducible apply Kept.ite | with_reducible apply KeptR.ite | with_reducible apply Kept.fold | with_reducible apply Kept.fold2 | with_reducible apply Kept.fold1 | (lift_lets; intro t; first | (with_reducible refine Kept.cut t ?_ ?_; unfold t) | skip) | dsimp -zeta only | split | dsimp +zetaDelta only)

theorem execMspGrpResume_kept {r₀ : State} (g : Fin 16) (mask : BitVec 8) (clr : Bool) (s : State) (h0 : Kept r₀ s) : KeptR r₀ (execMspGrpResume g mask clr s) := by
  unfold execMspGrpResume
  repeat' (first | with_reducible assumption | (intro t; first | (with_reducible refine Kept.cut t ?_ ?_; unfold t) | beta_reduce | skip) | with_reducible apply KeptR.next | with_reducible apply State.grpWrite_kept | with_reducible apply State.modMspx_kept | with_reducible apply State.mspResume_kept | with_reducible apply State.touchGroup_kept | with_reducible apply Kept.ite | with_reducible apply KeptR.ite | with_reducible apply Kept.fold | with_reducible apply Kept.fold2 | with_reducible apply Kept.fold1 | (lift_lets; intro t; first | (with_reducible refine Kept.cut t ?_ ?_; unfold t) | skip) | dsimp -zeta only | split | dsimp +zetaDelta only)

theorem execMspSrst_kept {r₀ : State} (m : Fin 128) (s : State) (h0 : Kept r₀ s) : KeptR r₀ (execMspSrst m s) := by
  unfold execMspSrst
  repeat' (first | with_reducible assumption | (intro t; first | (with_reducible refine Kept.cut t ?_ ?_; unfold t) | beta_reduce | skip) | with_reducible apply KeptR.next | with_reducible apply State.mspSrst_kept | with_reducible apply State.touchGroup_kept | with_reducible apply Kept.ite | with_reducible apply KeptR.ite | with_reducible apply Kept.fold | with_reducible apply Kept.fold2 | with_reducible apply Kept.fold1 | (lift_lets; intro t; first | (with_reducible refine Kept.cut t ?_ ?_; unfold t) | skip) | dsimp -zeta only | split | dsimp +zetaDelta only)

theorem State.ibxWrite_kept {r₀ : State} (s : State) (g j : Nat) (p : Packet) (h0 : Kept r₀ s) : Kept r₀ (State.ibxWrite s g j p) := by
  unfold State.ibxWrite
  repeat' (first | with_reducible assumption | (intro t; first | (with_reducible refine Kept.cut t ?_ ?_; unfold t) | beta_reduce | skip) | with_reducible apply State.mspLose_kept | with_reducible apply State.setR_kept | with_reducible apply State.writeWord_kept | with_reducible apply Kept.ite | with_reducible apply Kept.fold | with_reducible apply Kept.fold2 | with_reducible apply Kept.fold1 | (lift_lets; intro t; first | (with_reducible refine Kept.cut t ?_ ?_; unfold t) | skip) | dsimp -zeta only | split | dsimp +zetaDelta only)

theorem execMspInboxMessage_kept {r₀ : State} (g : Fin 16) (s : State) (h0 : Kept r₀ s) : KeptR r₀ (execMspInboxMessage g s) := by
  unfold execMspInboxMessage
  repeat' (first | with_reducible assumption | (intro t; first | (with_reducible refine Kept.cut t ?_ ?_; unfold t) | beta_reduce | skip) | with_reducible apply KeptR.next | with_reducible apply State.ibxWrite_kept | with_reducible apply State.putInbox_kept | with_reducible apply State.raise_kept | with_reducible apply State.satAdd_kept | with_reducible apply Kept.ite | with_reducible apply KeptR.ite | with_reducible apply Kept.fold | with_reducible apply Kept.fold2 | with_reducible apply Kept.fold1 | (lift_lets; intro t; first | (with_reducible refine Kept.cut t ?_ ?_; unfold t) | skip) | dsimp -zeta only | split | dsimp +zetaDelta only)

theorem execMspBreachNotice_kept {r₀ : State} (g : Fin 16) (s : State) (h0 : Kept r₀ s) : KeptR r₀ (execMspBreachNotice g s) := by
  unfold execMspBreachNotice
  repeat' (first | with_reducible assumption | (intro t; first | (with_reducible refine Kept.cut t ?_ ?_; unfold t) | beta_reduce | skip) | with_reducible apply KeptR.next | with_reducible apply State.putInbox_kept | with_reducible apply State.setEach_kept | with_reducible apply Kept.ite | with_reducible apply KeptR.ite | with_reducible apply Kept.fold | with_reducible apply Kept.fold2 | with_reducible apply Kept.fold1 | (lift_lets; intro t; first | (with_reducible refine Kept.cut t ?_ ?_; unfold t) | skip) | dsimp -zeta only | split | with_reducible apply Map.sortedFrom_filter | with_reducible apply Map.wf_filter | dsimp +zetaDelta only)

theorem execMspMemoryAccess_kept {r₀ : State} (g : Fin 16) (lost : Fin 256) (upset : Option Upset) (s : State) (h0 : Kept r₀ s) : KeptR r₀ (execMspMemoryAccess g lost upset s) := by
  unfold execMspMemoryAccess
  repeat' (first | with_reducible assumption | (intro t; first | (with_reducible refine Kept.cut t ?_ ?_; unfold t) | beta_reduce | skip) | with_reducible apply KeptR.next | with_reducible apply State.answerStatus_kept | with_reducible apply State.decodeAnswer_kept | with_reducible apply State.memAnswer_kept | with_reducible apply State.mspCycles_kept | with_reducible apply State.putInbox_kept | with_reducible apply State.satAdd_kept | (with_reducible refine State.dawnGuard_kept ?_ (by assumption)) | with_reducible apply Kept.ite | with_reducible apply KeptR.ite | with_reducible apply Kept.fold | with_reducible apply Kept.fold2 | with_reducible apply Kept.fold1 | (lift_lets; intro t; first | (with_reducible refine Kept.cut t ?_ ?_; unfold t) | skip) | dsimp -zeta only | split | dsimp +zetaDelta only)

theorem State.mspPacket_kept {r₀ : State} (s : State) (m c : Nat) (x : MspSend) (h0 : Kept r₀ s) : Kept r₀ (State.mspPacket s m c x).2 := by
  unfold State.mspPacket
  repeat' (first | with_reducible assumption | (intro t; first | (with_reducible refine Kept.cut t ?_ ?_; unfold t) | beta_reduce | skip) | with_reducible apply State.mspLose_kept | with_reducible apply State.readWord_kept | with_reducible apply Kept.ite | with_reducible apply Kept.fold | with_reducible apply Kept.fold2 | with_reducible apply Kept.fold1 | (lift_lets; intro t; first | (with_reducible refine Kept.cut t ?_ ?_; unfold t) | skip) | dsimp -zeta only | split | dsimp +zetaDelta only)

theorem execMspChannelInject_kept {r₀ : State} (m : Fin 128) (c : Fin 4) (s : State) (h0 : Kept r₀ s) : KeptR r₀ (execMspChannelInject m c s) := by
  unfold execMspChannelInject
  repeat' (first | with_reducible assumption | (intro t; first | (with_reducible refine Kept.cut t ?_ ?_; unfold t) | beta_reduce | skip) | with_reducible apply KeptR.next | with_reducible apply State.ingress_kept | with_reducible apply State.modMspx_kept | with_reducible apply State.mspPacket_kept | with_reducible apply State.setR_kept | with_reducible apply State.wrapAdd_kept | with_reducible apply Kept.ite | with_reducible apply KeptR.ite | with_reducible apply Kept.fold | with_reducible apply Kept.fold2 | with_reducible apply Kept.fold1 | (lift_lets; intro t; first | (with_reducible refine Kept.cut t ?_ ?_; unfold t) | skip) | dsimp -zeta only | split | dsimp +zetaDelta only)

end Sys2Proof.Machine
end

