-- ==== Sys2Proof/Laws/Kept/Tio.lean ====
section
/-!
SUPPORT. Every operation of Machine/Tio.lean leaves the queue and keeps the tables in canonical form.
-/

set_option linter.unreachableTactic false
set_option linter.unusedTactic false
set_option linter.unusedVariables false

namespace Sys2Proof.Machine

theorem State.modBank_kept {r₀ : State} (s : State) (b : Nat) (f : TioBank → TioBank) (h0 : Kept r₀ s) : Kept r₀ (State.modBank s b f) := by
  unfold State.modBank
  repeat' (first | with_reducible assumption | (intro t; first | (with_reducible refine Kept.cut t ?_ ?_; unfold t) | beta_reduce | skip) | with_reducible apply State.setR_kept | with_reducible apply State.modTio_kept | with_reducible apply Kept.ite | with_reducible apply Kept.fold | with_reducible apply Kept.fold2 | with_reducible apply Kept.fold1 | (lift_lets; intro t; first | (with_reducible refine Kept.cut t ?_ ?_; unfold t) | skip) | dsimp -zeta only | split | dsimp +zetaDelta only)

theorem State.setTimed_kept {r₀ : State} (s : State) (f : Field) (i v : Nat) (h0 : Kept r₀ s) : Kept r₀ (State.setTimed s f i v) := by
  unfold State.setTimed
  repeat' (first | with_reducible assumption | (intro t; first | (with_reducible refine Kept.cut t ?_ ?_; unfold t) | beta_reduce | skip) | with_reducible apply State.setR_kept | with_reducible apply State.modTio_kept | with_reducible apply Kept.ite | with_reducible apply Kept.fold | with_reducible apply Kept.fold2 | with_reducible apply Kept.fold1 | (lift_lets; intro t; first | (with_reducible refine Kept.cut t ?_ ?_; unfold t) | skip) | dsimp -zeta only | split | with_reducible apply Map.sortedFrom_filter | with_reducible apply Map.wf_filter | dsimp +zetaDelta only)

theorem State.countLate_kept {r₀ : State} (s : State) (b num : Nat) (h0 : Kept r₀ s) : Kept r₀ (State.countLate s b num) := by
  unfold State.countLate
  repeat' (first | with_reducible assumption | (intro t; first | (with_reducible refine Kept.cut t ?_ ?_; unfold t) | beta_reduce | skip) | with_reducible apply State.raise_kept | with_reducible apply State.satAdd_kept | with_reducible apply Kept.ite | with_reducible apply Kept.fold | with_reducible apply Kept.fold2 | with_reducible apply Kept.fold1 | (lift_lets; intro t; first | (with_reducible refine Kept.cut t ?_ ?_; unfold t) | skip) | dsimp -zeta only | split | dsimp +zetaDelta only)

theorem execTioVectorPacket_kept {r₀ : State} (bank : Fin 20) (s : State) (h0 : Kept r₀ s) : KeptR r₀ (execTioVectorPacket bank s) := by
  unfold execTioVectorPacket
  repeat' (first | with_reducible assumption | (intro t; first | (with_reducible refine Kept.cut t ?_ ?_; unfold t) | beta_reduce | skip) | with_reducible apply KeptR.next | with_reducible apply State.countLate_kept | with_reducible apply State.kindReject_kept | with_reducible apply State.modBank_kept | with_reducible apply State.putInbox_kept | with_reducible apply State.raise_kept | with_reducible apply State.satAdd_kept | with_reducible apply State.tioSt_kept | with_reducible apply Kept.ite | with_reducible apply KeptR.ite | with_reducible apply Kept.fold | with_reducible apply Kept.fold2 | with_reducible apply Kept.fold1 | (lift_lets; intro t; first | (with_reducible refine Kept.cut t ?_ ?_; unfold t) | skip) | dsimp -zeta only | split | dsimp +zetaDelta only)

theorem State.rangeCheck_kept {r₀ : State} (s : State) (b pin : Nat) (v : TioVec) (period : Nat) (h0 : Kept r₀ s) : Kept r₀ (State.rangeCheck s b pin v period) := by
  unfold State.rangeCheck
  repeat' (first | with_reducible assumption | (intro t; first | (with_reducible refine Kept.cut t ?_ ?_; unfold t) | beta_reduce | skip) | with_reducible apply State.raise_kept | with_reducible apply State.setR_kept | with_reducible apply Kept.ite | with_reducible apply Kept.fold | with_reducible apply Kept.fold2 | with_reducible apply Kept.fold1 | (lift_lets; intro t; first | (with_reducible refine Kept.cut t ?_ ?_; unfold t) | skip) | dsimp -zeta only | split | dsimp +zetaDelta only)

theorem State.placeAhead_kept {r₀ : State} (s : State) (b k : Nat) (h0 : Kept r₀ s) : Kept r₀ (State.placeAhead s b k) := by
  induction k generalizing s with
  | zero => exact h0
  | succ k ih =>
    unfold State.placeAhead
    split
    · exact h0
    · exact Kept.ite (ih _ (State.modBank_kept _ _ _ h0)) h0

theorem State.placeBuffered_kept {r₀ : State} (s : State) (b : Nat) (h0 : Kept r₀ s) : Kept r₀ (State.placeBuffered s b) := by
  unfold State.placeBuffered
  repeat' (first | with_reducible assumption | (intro t; first | (with_reducible refine Kept.cut t ?_ ?_; unfold t) | beta_reduce | skip) | with_reducible apply State.placeAhead_kept | with_reducible apply Kept.ite | with_reducible apply Kept.fold | with_reducible apply Kept.fold2 | with_reducible apply Kept.fold1 | (lift_lets; intro t; first | (with_reducible refine Kept.cut t ?_ ?_; unfold t) | skip) | dsimp -zeta only | split | dsimp +zetaDelta only)

theorem execTioVectorStart_kept {r₀ : State} (bank : Fin 20) (u : State) (h0 : Kept r₀ u) : KeptR r₀ (execTioVectorStart bank u) := by
  unfold execTioVectorStart
  repeat' (first | with_reducible assumption | (intro t; first | (with_reducible refine Kept.cut t ?_ ?_; unfold t) | beta_reduce | skip) | with_reducible apply KeptR.next | with_reducible apply State.countLate_kept | with_reducible apply State.modBank_kept | with_reducible apply State.placeBuffered_kept | with_reducible apply State.rangeCheck_kept | with_reducible apply State.setR_kept | with_reducible apply State.tioSt_kept | with_reducible apply Kept.ite | with_reducible apply KeptR.ite | with_reducible apply Kept.fold | with_reducible apply Kept.fold2 | with_reducible apply Kept.fold1 | (lift_lets; intro t; first | (with_reducible refine Kept.cut t ?_ ?_; unfold t) | skip) | dsimp -zeta only | split | with_reducible apply Map.sortedFrom_filter | with_reducible apply Map.wf_filter | dsimp +zetaDelta only)

theorem State.drivePin_kept {r₀ : State} (s : State) (b pin : Nat) (on level : Bool) (time : Nat) (h0 : Kept r₀ s) : Kept r₀ (State.drivePin s b pin on level time) := by
  unfold State.drivePin
  repeat' (first | with_reducible assumption | (intro t; first | (with_reducible refine Kept.cut t ?_ ?_; unfold t) | beta_reduce | skip) | with_reducible apply State.setR_kept | with_reducible apply Kept.ite | with_reducible apply Kept.fold | with_reducible apply Kept.fold2 | with_reducible apply Kept.fold1 | (lift_lets; intro t; first | (with_reducible refine Kept.cut t ?_ ?_; unfold t) | skip) | dsimp -zeta only | split | dsimp +zetaDelta only)

theorem execTioEdgeEvent_kept {r₀ : State} (bank : Fin 20) (pin : Fin 32) (u : State) (h0 : Kept r₀ u) : KeptR r₀ (execTioEdgeEvent bank pin u) := by
  unfold execTioEdgeEvent
  repeat' (first | with_reducible assumption | (intro t; first | (with_reducible refine Kept.cut t ?_ ?_; unfold t) | beta_reduce | skip) | with_reducible apply KeptR.next | with_reducible apply State.drivePin_kept | with_reducible apply State.modBank_kept | with_reducible apply State.placeBuffered_kept | with_reducible apply State.raise_kept | with_reducible apply State.satAdd_kept | with_reducible apply Kept.ite | with_reducible apply KeptR.ite | with_reducible apply Kept.fold | with_reducible apply Kept.fold2 | with_reducible apply Kept.fold1 | (lift_lets; intro t; first | (with_reducible refine Kept.cut t ?_ ?_; unfold t) | skip) | dsimp -zeta only | split | with_reducible apply Map.sortedFrom_filter | with_reducible apply Map.wf_filter | dsimp +zetaDelta only)

theorem execTioStrobe_kept {r₀ : State} (bank : Fin 20) (pin : Fin 32) (high : Bool) (low : Bool) (u : State) (h0 : Kept r₀ u) : KeptR r₀ (execTioStrobe bank pin high low u) := by
  unfold execTioStrobe
  repeat' (first | with_reducible assumption | (intro t; first | (with_reducible refine Kept.cut t ?_ ?_; unfold t) | beta_reduce | skip) | with_reducible apply KeptR.next | with_reducible apply State.modBank_kept | with_reducible apply State.placeBuffered_kept | with_reducible apply Kept.ite | with_reducible apply KeptR.ite | with_reducible apply Kept.fold | with_reducible apply Kept.fold2 | with_reducible apply Kept.fold1 | (lift_lets; intro t; first | (with_reducible refine Kept.cut t ?_ ?_; unfold t) | skip) | dsimp -zeta only | split | dsimp +zetaDelta only)

theorem State.pinIdle_kept {r₀ : State} (s : State) (b time p : Nat) (h0 : Kept r₀ s) : Kept r₀ (State.pinIdle s b time p) := by
  unfold State.pinIdle
  repeat' (first | with_reducible assumption | (intro t; first | (with_reducible refine Kept.cut t ?_ ?_; unfold t) | beta_reduce | skip) | with_reducible apply State.drivePin_kept | with_reducible apply State.idle_kept | with_reducible apply Kept.ite | with_reducible apply Kept.fold | with_reducible apply Kept.fold2 | with_reducible apply Kept.fold1 | (lift_lets; intro t; first | (with_reducible refine Kept.cut t ?_ ?_; unfold t) | skip) | dsimp -zeta only | split | dsimp +zetaDelta only)

theorem State.pinsIdle_kept {r₀ : State} (s : State) (b time : Nat) (h0 : Kept r₀ s) : Kept r₀ (State.pinsIdle s b time) := by
  unfold State.pinsIdle
  repeat' (first | with_reducible assumption | (intro t; first | (with_reducible refine Kept.cut t ?_ ?_; unfold t) | beta_reduce | skip) | with_reducible apply State.pinIdle_kept | with_reducible apply Kept.ite | with_reducible apply Kept.fold | with_reducible apply Kept.fold2 | with_reducible apply Kept.fold1 | (lift_lets; intro t; first | (with_reducible refine Kept.cut t ?_ ?_; unfold t) | skip) | dsimp -zeta only | split | dsimp +zetaDelta only)

theorem State.pinRests_kept {r₀ : State} (s : State) (b p : Nat) (h0 : Kept r₀ s) : Kept r₀ (State.pinRests s b p) := by
  unfold State.pinRests
  repeat' (first | with_reducible assumption | (intro t; first | (with_reducible refine Kept.cut t ?_ ?_; unfold t) | beta_reduce | skip) | with_reducible apply State.pinIdle_kept | with_reducible apply Kept.ite | with_reducible apply Kept.fold | with_reducible apply Kept.fold2 | with_reducible apply Kept.fold1 | (lift_lets; intro t; first | (with_reducible refine Kept.cut t ?_ ?_; unfold t) | skip) | dsimp -zeta only | split | dsimp +zetaDelta only)

theorem State.restPins_kept {r₀ : State} (s : State) (b time : Nat) (h0 : Kept r₀ s) : Kept r₀ (State.restPins s b time) := by
  unfold State.restPins
  repeat' (first | with_reducible assumption | (intro t; first | (with_reducible refine Kept.cut t ?_ ?_; unfold t) | beta_reduce | skip) | with_reducible apply State.modBank_kept | with_reducible apply State.pinsIdle_kept | with_reducible apply Kept.ite | with_reducible apply Kept.fold | with_reducible apply Kept.fold2 | with_reducible apply Kept.fold1 | (lift_lets; intro t; first | (with_reducible refine Kept.cut t ?_ ?_; unfold t) | skip) | dsimp -zeta only | split | with_reducible apply Map.sortedFrom_filter | with_reducible apply Map.wf_filter | dsimp +zetaDelta only)

theorem State.runStopped_kept {r₀ : State} (s : State) (b : Nat) (h0 : Kept r₀ s) : Kept r₀ (State.runStopped s b) := by
  unfold State.runStopped
  repeat' (first | with_reducible assumption | (intro t; first | (with_reducible refine Kept.cut t ?_ ?_; unfold t) | beta_reduce | skip) | with_reducible apply State.modBank_kept | with_reducible apply State.raise_kept | with_reducible apply State.restPins_kept | with_reducible apply State.tioSt_kept | with_reducible apply Kept.ite | with_reducible apply Kept.fold | with_reducible apply Kept.fold2 | with_reducible apply Kept.fold1 | (lift_lets; intro t; first | (with_reducible refine Kept.cut t ?_ ?_; unfold t) | skip) | dsimp -zeta only | split | dsimp +zetaDelta only)

theorem execTioVectorEnd_kept {r₀ : State} (bank : Fin 20) (s : State) (h0 : Kept r₀ s) : KeptR r₀ (execTioVectorEnd bank s) := by
  unfold execTioVectorEnd
  repeat' (first | with_reducible assumption | (intro t; first | (with_reducible refine Kept.cut t ?_ ?_; unfold t) | beta_reduce | skip) | with_reducible apply KeptR.next | with_reducible apply State.modBank_kept | with_reducible apply State.restPins_kept | with_reducible apply State.runStopped_kept | with_reducible apply State.tioSt_kept | with_reducible apply Kept.ite | with_reducible apply KeptR.ite | with_reducible apply Kept.fold | with_reducible apply Kept.fold2 | with_reducible apply Kept.fold1 | (lift_lets; intro t; first | (with_reducible refine Kept.cut t ?_ ?_; unfold t) | skip) | dsimp -zeta only | split | dsimp +zetaDelta only)

theorem State.sendResults_kept {r₀ : State} (s : State) (b : Nat) (h0 : Kept r₀ s) : Kept r₀ (State.sendResults s b) := by
  unfold State.sendResults
  repeat' (first | with_reducible assumption | (intro t; first | (with_reducible refine Kept.cut t ?_ ?_; unfold t) | beta_reduce | skip) | with_reducible apply State.ingress_kept | with_reducible apply State.modBank_kept | with_reducible apply Kept.ite | with_reducible apply Kept.fold | with_reducible apply Kept.fold2 | with_reducible apply Kept.fold1 | (lift_lets; intro t; first | (with_reducible refine Kept.cut t ?_ ?_; unfold t) | skip) | dsimp -zeta only | split | dsimp +zetaDelta only)

theorem execTioResultComplete_kept {r₀ : State} (bank : Fin 20) (s : State) (h0 : Kept r₀ s) : KeptR r₀ (execTioResultComplete bank s) := by
  unfold execTioResultComplete
  repeat' (first | with_reducible assumption | (intro t; first | (with_reducible refine Kept.cut t ?_ ?_; unfold t) | beta_reduce | skip) | with_reducible apply KeptR.next | with_reducible apply State.modBank_kept | with_reducible apply State.raise_kept | with_reducible apply State.sendResults_kept | with_reducible apply Kept.ite | with_reducible apply KeptR.ite | with_reducible apply Kept.fold | with_reducible apply Kept.fold2 | with_reducible apply Kept.fold1 | (lift_lets; intro t; first | (with_reducible refine Kept.cut t ?_ ?_; unfold t) | skip) | dsimp -zeta only | split | dsimp +zetaDelta only)

theorem execTioResultFlush_kept {r₀ : State} (bank : Fin 20) (s : State) (h0 : Kept r₀ s) : KeptR r₀ (execTioResultFlush bank s) := by
  unfold execTioResultFlush
  repeat' (first | with_reducible assumption | (intro t; first | (with_reducible refine Kept.cut t ?_ ?_; unfold t) | beta_reduce | skip) | with_reducible apply KeptR.next | with_reducible apply State.sendResults_kept | with_reducible apply State.when_kept | with_reducible apply Kept.ite | with_reducible apply KeptR.ite | with_reducible apply Kept.fold | with_reducible apply Kept.fold2 | with_reducible apply Kept.fold1 | (lift_lets; intro t; first | (with_reducible refine Kept.cut t ?_ ?_; unfold t) | skip) | dsimp -zeta only | split | dsimp +zetaDelta only)

theorem State.stopEffect_kept {r₀ : State} (s : State) (b : Nat) (at_ : Option Nat) (h0 : Kept r₀ s) : Kept r₀ (State.stopEffect s b at_) := by
  unfold State.stopEffect
  repeat' (first | with_reducible assumption | (intro t; first | (with_reducible refine Kept.cut t ?_ ?_; unfold t) | beta_reduce | skip) | with_reducible apply State.modBank_kept | with_reducible apply State.runStopped_kept | with_reducible apply Kept.ite | with_reducible apply Kept.fold | with_reducible apply Kept.fold2 | with_reducible apply Kept.fold1 | (lift_lets; intro t; first | (with_reducible refine Kept.cut t ?_ ?_; unfold t) | skip) | dsimp -zeta only | split | with_reducible apply Map.sortedFrom_filter | with_reducible apply Map.wf_filter | dsimp +zetaDelta only)

theorem execTioStop_kept {r₀ : State} (bank : Fin 20) (s : State) (h0 : Kept r₀ s) : KeptR r₀ (execTioStop bank s) := by
  unfold execTioStop
  repeat' (first | with_reducible assumption | (intro t; first | (with_reducible refine Kept.cut t ?_ ?_; unfold t) | beta_reduce | skip) | with_reducible apply KeptR.next | with_reducible apply State.modBank_kept | with_reducible apply State.stopEffect_kept | with_reducible apply Kept.ite | with_reducible apply KeptR.ite | with_reducible apply Kept.fold | with_reducible apply Kept.fold2 | with_reducible apply Kept.fold1 | (lift_lets; intro t; first | (with_reducible refine Kept.cut t ?_ ?_; unfold t) | skip) | dsimp -zeta only | split | dsimp +zetaDelta only)

theorem execTioStopTakeEffect_kept {r₀ : State} (bank : Fin 20) (s : State) (h0 : Kept r₀ s) : KeptR r₀ (execTioStopTakeEffect bank s) := by
  unfold execTioStopTakeEffect
  repeat' (first | with_reducible assumption | (intro t; first | (with_reducible refine Kept.cut t ?_ ?_; unfold t) | beta_reduce | skip) | with_reducible apply KeptR.next | with_reducible apply State.stopEffect_kept | with_reducible apply State.when_kept | with_reducible apply Kept.ite | with_reducible apply KeptR.ite | with_reducible apply Kept.fold | with_reducible apply Kept.fold2 | with_reducible apply Kept.fold1 | (lift_lets; intro t; first | (with_reducible refine Kept.cut t ?_ ?_; unfold t) | skip) | dsimp -zeta only | split | dsimp +zetaDelta only)

theorem State.driversOff_kept {r₀ : State} (s : State) (b : Nat) (h0 : Kept r₀ s) : Kept r₀ (State.driversOff s b) := by
  unfold State.driversOff
  repeat' (first | with_reducible assumption | (intro t; first | (with_reducible refine Kept.cut t ?_ ?_; unfold t) | beta_reduce | skip) | with_reducible apply State.setEach_kept | with_reducible apply State.setR_kept | with_reducible apply Kept.ite | with_reducible apply Kept.fold | with_reducible apply Kept.fold2 | with_reducible apply Kept.fold1 | (lift_lets; intro t; first | (with_reducible refine Kept.cut t ?_ ?_; unfold t) | skip) | dsimp -zeta only | split | dsimp +zetaDelta only)

theorem State.tioFault_kept {r₀ : State} (s : State) (b : Nat) (h0 : Kept r₀ s) : Kept r₀ (State.tioFault s b) := by
  unfold State.tioFault
  repeat' (first | with_reducible assumption | (intro t; first | (with_reducible refine Kept.cut t ?_ ?_; unfold t) | beta_reduce | skip) | with_reducible apply State.modBank_kept | with_reducible apply State.tioSt_kept | with_reducible apply Kept.ite | with_reducible apply Kept.fold | with_reducible apply Kept.fold2 | with_reducible apply Kept.fold1 | (lift_lets; intro t; first | (with_reducible refine Kept.cut t ?_ ?_; unfold t) | skip) | dsimp -zeta only | split | dsimp +zetaDelta only)

theorem execTioSrst_kept {r₀ : State} (bank : Fin 20) (s : State) (h0 : Kept r₀ s) : KeptR r₀ (execTioSrst bank s) := by
  unfold execTioSrst
  repeat' (first | with_reducible assumption | (intro t; first | (with_reducible refine Kept.cut t ?_ ?_; unfold t) | beta_reduce | skip) | with_reducible apply KeptR.next | with_reducible apply State.driversOff_kept | with_reducible apply State.modBank_kept | with_reducible apply State.pinsIdle_kept | with_reducible apply State.setEach_kept | with_reducible apply State.setR_kept | with_reducible apply State.tioSt_kept | with_reducible apply Kept.ite | with_reducible apply KeptR.ite | with_reducible apply Kept.fold | with_reducible apply Kept.fold2 | with_reducible apply Kept.fold1 | (lift_lets; intro t; first | (with_reducible refine Kept.cut t ?_ ?_; unfold t) | skip) | dsimp -zeta only | split | dsimp +zetaDelta only)

theorem execTioSupplyMismatch_kept {r₀ : State} (bank : Fin 20) (s : State) (h0 : Kept r₀ s) : KeptR r₀ (execTioSupplyMismatch bank s) := by
  unfold execTioSupplyMismatch
  repeat' (first | with_reducible assumption | (intro t; first | (with_reducible refine Kept.cut t ?_ ?_; unfold t) | beta_reduce | skip) | with_reducible apply KeptR.next | with_reducible apply State.driversOff_kept | with_reducible apply State.raise_kept | with_reducible apply State.setR_kept | with_reducible apply State.tioFault_kept | with_reducible apply State.when_kept | with_reducible apply Kept.ite | with_reducible apply KeptR.ite | with_reducible apply Kept.fold | with_reducible apply Kept.fold2 | with_reducible apply Kept.fold1 | (lift_lets; intro t; first | (with_reducible refine Kept.cut t ?_ ?_; unfold t) | skip) | dsimp -zeta only | split | dsimp +zetaDelta only)

theorem execVioTbSupplyInRange_kept {r₀ : State} (bank : Fin 20) (s : State) (h0 : Kept r₀ s) : KeptR r₀ (execVioTbSupplyInRange bank s) := by
  unfold execVioTbSupplyInRange
  repeat' (first | with_reducible assumption | (intro t; first | (with_reducible refine Kept.cut t ?_ ?_; unfold t) | beta_reduce | skip) | with_reducible apply KeptR.next | with_reducible apply State.setR_kept | with_reducible apply Kept.ite | with_reducible apply KeptR.ite | with_reducible apply Kept.fold | with_reducible apply Kept.fold2 | with_reducible apply Kept.fold1 | (lift_lets; intro t; first | (with_reducible refine Kept.cut t ?_ ?_; unfold t) | skip) | dsimp -zeta only | split | dsimp +zetaDelta only)

theorem execTioCalibrate_kept {r₀ : State} (bank : Fin 20) (pin : Fin 32) (inRange : Bool) (s : State) (h0 : Kept r₀ s) : KeptR r₀ (execTioCalibrate bank pin inRange s) := by
  unfold execTioCalibrate
  repeat' (first | with_reducible assumption | (intro t; first | (with_reducible refine Kept.cut t ?_ ?_; unfold t) | beta_reduce | skip) | with_reducible apply KeptR.next | with_reducible apply State.raise_kept | with_reducible apply State.setR_kept | with_reducible apply Kept.ite | with_reducible apply KeptR.ite | with_reducible apply Kept.fold | with_reducible apply Kept.fold2 | with_reducible apply Kept.fold1 | (lift_lets; intro t; first | (with_reducible refine Kept.cut t ?_ ?_; unfold t) | skip) | dsimp -zeta only | split | dsimp +zetaDelta only)

theorem State.delayWritten_kept {r₀ : State} (s : State) (i : Nat) (h0 : Kept r₀ s) : Kept r₀ (State.delayWritten s i) := by
  unfold State.delayWritten
  repeat' (first | with_reducible assumption | (intro t; first | (with_reducible refine Kept.cut t ?_ ?_; unfold t) | beta_reduce | skip) | with_reducible apply State.modTio_kept | with_reducible apply Kept.ite | with_reducible apply Kept.fold | with_reducible apply Kept.fold2 | with_reducible apply Kept.fold1 | (lift_lets; intro t; first | (with_reducible refine Kept.cut t ?_ ?_; unfold t) | skip) | dsimp -zeta only | split | dsimp +zetaDelta only)

theorem execTioDelayApply_kept {r₀ : State} (bank : Fin 20) (pin : Fin 32) (s : State) (h0 : Kept r₀ s) : KeptR r₀ (execTioDelayApply bank pin s) := by
  unfold execTioDelayApply
  repeat' (first | with_reducible assumption | (intro t; first | (with_reducible refine Kept.cut t ?_ ?_; unfold t) | beta_reduce | skip) | with_reducible apply KeptR.next | with_reducible apply State.applyDelay_kept | with_reducible apply State.when_kept | with_reducible apply Kept.ite | with_reducible apply KeptR.ite | with_reducible apply Kept.fold | with_reducible apply Kept.fold2 | with_reducible apply Kept.fold1 | (lift_lets; intro t; first | (with_reducible refine Kept.cut t ?_ ?_; unfold t) | skip) | dsimp -zeta only | split | dsimp +zetaDelta only)

end Sys2Proof.Machine
end

