-- ==== Sys2Proof/Laws/Kept/Power.lean ====
section
/-!
SUPPORT. Every operation of Machine/Power.lean leaves the queue and keeps the tables in canonical form.
-/

set_option linter.unreachableTactic false
set_option linter.unusedTactic false
set_option linter.unusedVariables false

namespace Sys2Proof.Machine

theorem State.resetPages_kept {r : State} (s : State) (fs : List Field) (lo n : Nat) (h : Kept r s) : Kept r (s.resetPages fs lo n) :=
  State.modRegs_kept h fun m hm => Map.sortedFrom_filter _ m _ hm

theorem State.dropUnits_kept {r : State} (s : State) (cls bd lo n : Nat) (h : Kept r s) : Kept r (s.dropUnits cls bd lo n) :=
  State.modMem_kept h fun m hm => Map.wf_filter _ _ m hm

theorem State.dropEngines_kept {r₀ : State} (s : State) (n : Nat) (h0 : Kept r₀ s) : Kept r₀ (State.dropEngines s n) := by
  unfold State.dropEngines
  repeat' (first | with_reducible assumption | (intro t; first | (with_reducible refine Kept.cut t ?_ ?_; unfold t) | beta_reduce | skip) | with_reducible apply State.resetPages_kept | with_reducible apply State.resetR_kept | with_reducible apply State.modFce_kept | with_reducible apply State.modPge_kept | with_reducible apply Kept.ite | with_reducible apply Kept.fold | with_reducible apply Kept.fold2 | with_reducible apply Kept.fold1 | (lift_lets; intro t; first | (with_reducible refine Kept.cut t ?_ ?_; unfold t) | skip) | dsimp -zeta only | split | dsimp +zetaDelta only)

theorem State.dropMsps_kept {r₀ : State} (s : State) (g : Nat) (h0 : Kept r₀ s) : Kept r₀ (State.dropMsps s g) := by
  unfold State.dropMsps
  repeat' (first | with_reducible assumption | (intro t; first | (with_reducible refine Kept.cut t ?_ ?_; unfold t) | beta_reduce | skip) | with_reducible apply State.dropUnits_kept | with_reducible apply State.resetFields_kept | with_reducible apply State.resetPages_kept | with_reducible apply State.modMsp_kept | with_reducible apply Kept.ite | with_reducible apply Kept.fold | with_reducible apply Kept.fold2 | with_reducible apply Kept.fold1 | (lift_lets; intro t; first | (with_reducible refine Kept.cut t ?_ ?_; unfold t) | skip) | dsimp -zeta only | split | dsimp +zetaDelta only)

theorem State.dropBank_kept {r₀ : State} (s : State) (b : Nat) (h0 : Kept r₀ s) : Kept r₀ (State.dropBank s b) := by
  unfold State.dropBank
  repeat' (first | with_reducible assumption | (intro t; first | (with_reducible refine Kept.cut t ?_ ?_; unfold t) | beta_reduce | skip) | with_reducible apply State.resetPages_kept | with_reducible apply State.resetR_kept | with_reducible apply State.resetRange_kept | with_reducible apply State.modTio_kept | with_reducible apply Kept.ite | with_reducible apply Kept.fold | with_reducible apply Kept.fold2 | with_reducible apply Kept.fold1 | (lift_lets; intro t; first | (with_reducible refine Kept.cut t ?_ ?_; unfold t) | skip) | dsimp -zeta only | split | dsimp +zetaDelta only)

theorem State.dropLanes_kept {r₀ : State} (s : State) (g : Nat) (h0 : Kept r₀ s) : Kept r₀ (State.dropLanes s g) := by
  unfold State.dropLanes
  repeat' (first | with_reducible assumption | (intro t; first | (with_reducible refine Kept.cut t ?_ ?_; unfold t) | beta_reduce | skip) | with_reducible apply State.resetPages_kept | with_reducible apply State.modLanes_kept | with_reducible apply Kept.ite | with_reducible apply Kept.fold | with_reducible apply Kept.fold2 | with_reducible apply Kept.fold1 | (lift_lets; intro t; first | (with_reducible refine Kept.cut t ?_ ?_; unfold t) | skip) | dsimp -zeta only | split | dsimp +zetaDelta only)

theorem State.dropLpx_kept {r₀ : State} (u : State) (n : Nat) (h0 : Kept r₀ u) : Kept r₀ (State.dropLpx u n) := by
  unfold State.dropLpx
  repeat' (first | with_reducible assumption | (intro t; first | (with_reducible refine Kept.cut t ?_ ?_; unfold t) | beta_reduce | skip) | with_reducible apply State.lpxSt_kept | with_reducible apply State.modLp_kept | with_reducible apply State.raise_kept | with_reducible apply State.resetPages_kept | with_reducible apply Kept.ite | with_reducible apply Kept.fold | with_reducible apply Kept.fold2 | with_reducible apply Kept.fold1 | (lift_lets; intro t; first | (with_reducible refine Kept.cut t ?_ ?_; unfold t) | skip) | dsimp -zeta only | split | with_reducible apply Map.sortedFrom_filter | with_reducible apply Map.wf_filter | dsimp +zetaDelta only)

theorem State.dropCore_kept {r₀ : State} (s : State) (k : Nat) (h0 : Kept r₀ s) : Kept r₀ (State.dropCore s k) := by
  unfold State.dropCore
  repeat' (first | with_reducible assumption | (intro t; first | (with_reducible refine Kept.cut t ?_ ?_; unfold t) | beta_reduce | skip) | with_reducible apply State.dropUnits_kept | with_reducible apply State.resetPages_kept | with_reducible apply State.resetRange_kept | with_reducible apply State.modChip_kept | with_reducible apply State.modMid_kept | with_reducible apply State.modNoc_kept | with_reducible apply Kept.ite | with_reducible apply Kept.fold | with_reducible apply Kept.fold2 | with_reducible apply Kept.fold1 | (lift_lets; intro t; first | (with_reducible refine Kept.cut t ?_ ?_; unfold t) | skip) | dsimp -zeta only | split | with_reducible apply Map.sortedFrom_filter | with_reducible apply Map.wf_filter | dsimp +zetaDelta only)

theorem State.dropQueues_kept {r₀ : State} (s : State) (d : Nat) (h0 : Kept r₀ s) : Kept r₀ (State.dropQueues s d) := by
  unfold State.dropQueues
  repeat' (first | with_reducible assumption | (intro t; first | (with_reducible refine Kept.cut t ?_ ?_; unfold t) | beta_reduce | skip) | with_reducible apply State.modNoc_kept | with_reducible apply Kept.ite | with_reducible apply Kept.fold | with_reducible apply Kept.fold2 | with_reducible apply Kept.fold1 | (lift_lets; intro t; first | (with_reducible refine Kept.cut t ?_ ?_; unfold t) | skip) | dsimp -zeta only | split | with_reducible apply Map.sortedFrom_filter | with_reducible apply Map.wf_filter | dsimp +zetaDelta only)

theorem State.dropDomain_kept {r₀ : State} (u : State) (d : Nat) (h0 : Kept r₀ u) : Kept r₀ (State.dropDomain u d) := by
  unfold State.dropDomain
  repeat' (first | with_reducible assumption | (intro t; first | (with_reducible refine Kept.cut t ?_ ?_; unfold t) | beta_reduce | skip) | with_reducible apply State.dropBank_kept | with_reducible apply State.dropCore_kept | with_reducible apply State.dropEngines_kept | with_reducible apply State.dropLanes_kept | with_reducible apply State.dropLpx_kept | with_reducible apply State.dropMsps_kept | with_reducible apply State.dropQueues_kept | with_reducible apply State.holdRegion_kept | with_reducible apply State.hregsDrop_kept | with_reducible apply State.resetPages_kept | with_reducible apply State.setR_kept | with_reducible apply Kept.ite | with_reducible apply Kept.fold | with_reducible apply Kept.fold2 | with_reducible apply Kept.fold1 | (lift_lets; intro t; first | (with_reducible refine Kept.cut t ?_ ?_; unfold t) | skip) | dsimp -zeta only | split | dsimp +zetaDelta only)

theorem State.pwRefuse_kept {r₀ : State} (s : State) (d reason : Nat) (slot : Bool) (entry : Option Nat) (h0 : Kept r₀ s) : Kept r₀ (State.pwRefuse s d reason slot entry) := by
  unfold State.pwRefuse
  repeat' (first | with_reducible assumption | (intro t; first | (with_reducible refine Kept.cut t ?_ ?_; unfold t) | beta_reduce | skip) | with_reducible apply State.raise_kept | with_reducible apply State.setR_kept | with_reducible apply Kept.ite | with_reducible apply Kept.fold | with_reducible apply Kept.fold2 | with_reducible apply Kept.fold1 | (lift_lets; intro t; first | (with_reducible refine Kept.cut t ?_ ?_; unfold t) | skip) | dsimp -zeta only | split | dsimp +zetaDelta only)

theorem State.slotStart_kept {r₀ : State} (s : State) (d op : Nat) (h0 : Kept r₀ s) : Kept r₀ (State.slotStart s d op) := by
  unfold State.slotStart
  repeat' (first | with_reducible assumption | (intro t; first | (with_reducible refine Kept.cut t ?_ ?_; unfold t) | beta_reduce | skip) | with_reducible apply State.setR_kept | with_reducible apply Kept.ite | with_reducible apply Kept.fold | with_reducible apply Kept.fold2 | with_reducible apply Kept.fold1 | (lift_lets; intro t; first | (with_reducible refine Kept.cut t ?_ ?_; unfold t) | skip) | dsimp -zeta only | split | dsimp +zetaDelta only)

theorem State.pwCommit_kept {r₀ : State} (s : State) (d : Nat) (h0 : Kept r₀ s) : Kept r₀ (State.pwCommit s d) := by
  unfold State.pwCommit
  repeat' (first | with_reducible assumption | (intro t; first | (with_reducible refine Kept.cut t ?_ ?_; unfold t) | beta_reduce | skip) | with_reducible apply State.dclRetrain_kept | with_reducible apply State.isolate_kept | with_reducible apply State.setR_kept | with_reducible apply Kept.ite | with_reducible apply Kept.fold | with_reducible apply Kept.fold2 | with_reducible apply Kept.fold1 | (lift_lets; intro t; first | (with_reducible refine Kept.cut t ?_ ?_; unfold t) | skip) | dsimp -zeta only | split | dsimp +zetaDelta only)

theorem State.pwTry_kept {r₀ : State} (s : State) (d : Nat) (h0 : Kept r₀ s) : Kept r₀ (State.pwTry s d) := by
  unfold State.pwTry
  repeat' (first | with_reducible assumption | (intro t; first | (with_reducible refine Kept.cut t ?_ ?_; unfold t) | beta_reduce | skip) | with_reducible apply State.pwCommit_kept | with_reducible apply Kept.ite | with_reducible apply Kept.fold | with_reducible apply Kept.fold2 | with_reducible apply Kept.fold1 | (lift_lets; intro t; first | (with_reducible refine Kept.cut t ?_ ?_; unfold t) | skip) | dsimp -zeta only | split | dsimp +zetaDelta only)

theorem State.pwClose_kept {r₀ : State} (s : State) (d : Nat) (forced : Bool) (h0 : Kept r₀ s) : Kept r₀ (State.pwClose s d forced) := by
  unfold State.pwClose
  repeat' (first | with_reducible assumption | (intro t; first | (with_reducible refine Kept.cut t ?_ ?_; unfold t) | beta_reduce | skip) | with_reducible apply State.pwTry_kept | with_reducible apply State.setR_kept | with_reducible apply Kept.ite | with_reducible apply Kept.fold | with_reducible apply Kept.fold2 | with_reducible apply Kept.fold1 | (lift_lets; intro t; first | (with_reducible refine Kept.cut t ?_ ?_; unfold t) | skip) | dsimp -zeta only | split | dsimp +zetaDelta only)

theorem State.pwOff_kept {r₀ : State} (s : State) (d : Nat) (slot : Bool) (entry : Option Nat) (h0 : Kept r₀ s) : Kept r₀ (State.pwOff s d slot entry) := by
  unfold State.pwOff
  repeat' (first | with_reducible assumption | (intro t; first | (with_reducible refine Kept.cut t ?_ ?_; unfold t) | beta_reduce | skip) | with_reducible apply State.pwClose_kept | with_reducible apply State.pwRefuse_kept | with_reducible apply State.slotEnd_kept | with_reducible apply State.slotStart_kept | with_reducible apply Kept.ite | with_reducible apply Kept.fold | with_reducible apply Kept.fold2 | with_reducible apply Kept.fold1 | (lift_lets; intro t; first | (with_reducible refine Kept.cut t ?_ ?_; unfold t) | skip) | dsimp -zeta only | split | dsimp +zetaDelta only)

theorem State.pwAwait_kept {r₀ : State} (s : State) (d : Nat) (slot : Bool) (entry : Option Nat) (h0 : Kept r₀ s) : Kept r₀ (State.pwAwait s d slot entry) := by
  unfold State.pwAwait
  repeat' (first | with_reducible assumption | (intro t; first | (with_reducible refine Kept.cut t ?_ ?_; unfold t) | beta_reduce | skip) | with_reducible apply State.setR_kept | with_reducible apply Kept.ite | with_reducible apply Kept.fold | with_reducible apply Kept.fold2 | with_reducible apply Kept.fold1 | (lift_lets; intro t; first | (with_reducible refine Kept.cut t ?_ ?_; unfold t) | skip) | dsimp -zeta only | split | dsimp +zetaDelta only)

theorem State.pwOn_kept {r₀ : State} (s : State) (d : Nat) (slot : Bool) (entry : Option Nat) (h0 : Kept r₀ s) : Kept r₀ (State.pwOn s d slot entry) := by
  unfold State.pwOn
  repeat' (first | with_reducible assumption | (intro t; first | (with_reducible refine Kept.cut t ?_ ?_; unfold t) | beta_reduce | skip) | with_reducible apply State.pwAwait_kept | with_reducible apply State.pwRefuse_kept | with_reducible apply State.pwWake_kept | with_reducible apply State.slotEnd_kept | with_reducible apply State.slotStart_kept | with_reducible apply Kept.ite | with_reducible apply Kept.fold | with_reducible apply Kept.fold2 | with_reducible apply Kept.fold1 | (lift_lets; intro t; first | (with_reducible refine Kept.cut t ?_ ?_; unfold t) | skip) | dsimp -zeta only | split | dsimp +zetaDelta only)

theorem execDskPwrOn_kept {r₀ : State} (dom : Fin 128) (req : BitVec 16) (s : State) (h0 : Kept r₀ s) : KeptR r₀ (execDskPwrOn dom req s) := by
  unfold execDskPwrOn
  repeat' (first | with_reducible assumption | (intro t; first | (with_reducible refine Kept.cut t ?_ ?_; unfold t) | beta_reduce | skip) | with_reducible apply KeptR.next | with_reducible apply State.pwOn_kept | with_reducible apply State.respond_kept | with_reducible apply State.setR_kept | with_reducible apply Kept.ite | with_reducible apply KeptR.ite | with_reducible apply Kept.fold | with_reducible apply Kept.fold2 | with_reducible apply Kept.fold1 | (lift_lets; intro t; first | (with_reducible refine Kept.cut t ?_ ?_; unfold t) | skip) | dsimp -zeta only | split | dsimp +zetaDelta only)

theorem execDskPwrOff_kept {r₀ : State} (dom : Fin 128) (req : BitVec 16) (s : State) (h0 : Kept r₀ s) : KeptR r₀ (execDskPwrOff dom req s) := by
  unfold execDskPwrOff
  repeat' (first | with_reducible assumption | (intro t; first | (with_reducible refine Kept.cut t ?_ ?_; unfold t) | beta_reduce | skip) | with_reducible apply KeptR.next | with_reducible apply State.pwOff_kept | with_reducible apply State.respond_kept | with_reducible apply State.setR_kept | with_reducible apply Kept.ite | with_reducible apply KeptR.ite | with_reducible apply Kept.fold | with_reducible apply Kept.fold2 | with_reducible apply Kept.fold1 | (lift_lets; intro t; first | (with_reducible refine Kept.cut t ?_ ?_; unfold t) | skip) | dsimp -zeta only | split | dsimp +zetaDelta only)

theorem execDskPwrAbort_kept {r₀ : State} (req : BitVec 16) (s : State) (h0 : Kept r₀ s) : KeptR r₀ (execDskPwrAbort req s) := by
  unfold execDskPwrAbort
  repeat' (first | with_reducible assumption | (intro t; first | (with_reducible refine Kept.cut t ?_ ?_; unfold t) | beta_reduce | skip) | with_reducible apply KeptR.next | with_reducible apply State.pwAbort_kept | with_reducible apply State.respond_kept | with_reducible apply State.setR_kept | with_reducible apply Kept.ite | with_reducible apply KeptR.ite | with_reducible apply Kept.fold | with_reducible apply Kept.fold2 | with_reducible apply Kept.fold1 | (lift_lets; intro t; first | (with_reducible refine Kept.cut t ?_ ?_; unfold t) | skip) | dsimp -zeta only | split | dsimp +zetaDelta only)

theorem State.portOff_kept {r₀ : State} (s : State) (e : Nat) (h0 : Kept r₀ s) : Kept r₀ (State.portOff s e) := by
  unfold State.portOff
  repeat' (first | with_reducible assumption | (intro t; first | (with_reducible refine Kept.cut t ?_ ?_; unfold t) | beta_reduce | skip) | with_reducible apply State.napPort_kept | with_reducible apply State.pwTry_kept | with_reducible apply State.setR_kept | with_reducible apply Kept.ite | with_reducible apply Kept.fold | with_reducible apply Kept.fold2 | with_reducible apply Kept.fold1 | (lift_lets; intro t; first | (with_reducible refine Kept.cut t ?_ ?_; unfold t) | skip) | dsimp -zeta only | split | dsimp +zetaDelta only)

theorem execPortQuietOff_kept {r₀ : State} (router : Fin 384) (port : Fin 32) (s : State) (h0 : Kept r₀ s) : KeptR r₀ (execPortQuietOff router port s) := by
  unfold execPortQuietOff
  repeat' (first | with_reducible assumption | (intro t; first | (with_reducible refine Kept.cut t ?_ ?_; unfold t) | beta_reduce | skip) | with_reducible apply KeptR.next | with_reducible apply State.portOff_kept | with_reducible apply State.when_kept | with_reducible apply Kept.ite | with_reducible apply KeptR.ite | with_reducible apply Kept.fold | with_reducible apply Kept.fold2 | with_reducible apply Kept.fold1 | (lift_lets; intro t; first | (with_reducible refine Kept.cut t ?_ ?_; unfold t) | skip) | dsimp -zeta only | split | dsimp +zetaDelta only)

theorem State.finishTx_kept {r₀ : State} (s : State) (e : Nat) (h0 : Kept r₀ s) : Kept r₀ (State.finishTx s e) := by
  unfold State.finishTx
  repeat' (first | with_reducible assumption | (intro t; first | (with_reducible refine Kept.cut t ?_ ?_; unfold t) | beta_reduce | skip) | with_reducible apply State.completeTx_kept | with_reducible apply Kept.ite | with_reducible apply Kept.fold | with_reducible apply Kept.fold2 | with_reducible apply Kept.fold1 | (lift_lets; intro t; first | (with_reducible refine Kept.cut t ?_ ?_; unfold t) | skip) | dsimp -zeta only | split | dsimp +zetaDelta only)

theorem execForcedCloseTimeout_kept {r₀ : State} (router : Fin 384) (port : Fin 32) (s : State) (h0 : Kept r₀ s) : KeptR r₀ (execForcedCloseTimeout router port s) := by
  unfold execForcedCloseTimeout
  repeat' (first | with_reducible assumption | (intro t; first | (with_reducible refine Kept.cut t ?_ ?_; unfold t) | beta_reduce | skip) | with_reducible apply KeptR.next | with_reducible apply State.answerAt_kept | with_reducible apply State.finishTx_kept | with_reducible apply State.portOff_kept | with_reducible apply State.when_kept | with_reducible apply State.modNoc_kept | with_reducible apply Kept.ite | with_reducible apply KeptR.ite | with_reducible apply Kept.fold | with_reducible apply Kept.fold2 | with_reducible apply Kept.fold1 | (lift_lets; intro t; first | (with_reducible refine Kept.cut t ?_ ?_; unfold t) | skip) | dsimp -zeta only | split | with_reducible apply Map.sortedFrom_filter | with_reducible apply Map.wf_filter | dsimp +zetaDelta only)

theorem State.refuseWakers_kept {r₀ : State} (s : State) (d reason w : Nat) (h0 : Kept r₀ s) : Kept r₀ (State.refuseWakers s d reason w) := by
  unfold State.refuseWakers
  repeat' (first | with_reducible assumption | (intro t; first | (with_reducible refine Kept.cut t ?_ ?_; unfold t) | beta_reduce | skip) | with_reducible apply State.pwRefuse_kept | with_reducible apply Kept.ite | with_reducible apply Kept.fold | with_reducible apply Kept.fold2 | with_reducible apply Kept.fold1 | (lift_lets; intro t; first | (with_reducible refine Kept.cut t ?_ ?_; unfold t) | skip) | dsimp -zeta only | split | dsimp +zetaDelta only)

theorem State.pwWaiting_kept {r₀ : State} (s : State) (d : Nat) (h0 : Kept r₀ s) : Kept r₀ (State.pwWaiting s d) := by
  unfold State.pwWaiting
  repeat' (first | with_reducible assumption | (intro t; first | (with_reducible refine Kept.cut t ?_ ?_; unfold t) | beta_reduce | skip) | with_reducible apply State.pwRefuse_kept | with_reducible apply State.pwWake_kept | with_reducible apply State.refuseWakers_kept | with_reducible apply State.setR_kept | with_reducible apply Kept.ite | with_reducible apply Kept.fold | with_reducible apply Kept.fold2 | with_reducible apply Kept.fold1 | (lift_lets; intro t; first | (with_reducible refine Kept.cut t ?_ ?_; unfold t) | skip) | dsimp -zeta only | split | dsimp +zetaDelta only)

theorem execPowerRemoved_kept {r₀ : State} (dom : Fin 128) (s : State) (h0 : Kept r₀ s) : KeptR r₀ (execPowerRemoved dom s) := by
  unfold execPowerRemoved
  repeat' (first | with_reducible assumption | (intro t; first | (with_reducible refine Kept.cut t ?_ ?_; unfold t) | beta_reduce | skip) | with_reducible apply KeptR.next | with_reducible apply State.dropDomain_kept | with_reducible apply State.pwWaiting_kept | with_reducible apply State.raise_kept | with_reducible apply State.setR_kept | with_reducible apply State.slotEnd_kept | with_reducible apply State.when_kept | with_reducible apply Kept.ite | with_reducible apply KeptR.ite | with_reducible apply Kept.fold | with_reducible apply Kept.fold2 | with_reducible apply Kept.fold1 | (lift_lets; intro t; first | (with_reducible refine Kept.cut t ?_ ?_; unfold t) | skip) | dsimp -zeta only | split | dsimp +zetaDelta only)

theorem State.liftPorts_kept {r₀ : State} (s : State) (d : Nat) (h0 : Kept r₀ s) : Kept r₀ (State.liftPorts s d) := by
  unfold State.liftPorts
  repeat' (first | with_reducible assumption | (intro t; first | (with_reducible refine Kept.cut t ?_ ?_; unfold t) | beta_reduce | skip) | with_reducible apply State.setR_kept | with_reducible apply Kept.ite | with_reducible apply Kept.fold | with_reducible apply Kept.fold2 | with_reducible apply Kept.fold1 | (lift_lets; intro t; first | (with_reducible refine Kept.cut t ?_ ?_; unfold t) | skip) | dsimp -zeta only | split | dsimp +zetaDelta only)

theorem State.forceOff_kept {r₀ : State} (s : State) (d src : Nat) (h0 : Kept r₀ s) : Kept r₀ (State.forceOff s d src) := by
  unfold State.forceOff
  repeat' (first | with_reducible assumption | (intro t; first | (with_reducible refine Kept.cut t ?_ ?_; unfold t) | beta_reduce | skip) | with_reducible apply State.breach_kept | with_reducible apply State.pwClose_kept | with_reducible apply State.setR_kept | with_reducible apply State.suspendBreach_kept | with_reducible apply State.tioFault_kept | with_reducible apply Kept.ite | with_reducible apply Kept.fold | with_reducible apply Kept.fold2 | with_reducible apply Kept.fold1 | (lift_lets; intro t; first | (with_reducible refine Kept.cut t ?_ ?_; unfold t) | skip) | dsimp -zeta only | split | dsimp +zetaDelta only)

theorem State.forceLift_kept {r₀ : State} (s : State) (d src : Nat) (h0 : Kept r₀ s) : Kept r₀ (State.forceLift s d src) := by
  unfold State.forceLift
  repeat' (first | with_reducible assumption | (intro t; first | (with_reducible refine Kept.cut t ?_ ?_; unfold t) | beta_reduce | skip) | with_reducible apply State.liftPorts_kept | with_reducible apply State.setR_kept | with_reducible apply Kept.ite | with_reducible apply Kept.fold | with_reducible apply Kept.fold2 | with_reducible apply Kept.fold1 | (lift_lets; intro t; first | (with_reducible refine Kept.cut t ?_ ?_; unfold t) | skip) | dsimp -zeta only | split | dsimp +zetaDelta only)

theorem execDskForceKey_kept {r₀ : State} (key : BitVec 16) (req : BitVec 16) (s : State) (h0 : Kept r₀ s) : KeptR r₀ (execDskForceKey key req s) := by
  unfold execDskForceKey
  repeat' (first | with_reducible assumption | (intro t; first | (with_reducible refine Kept.cut t ?_ ?_; unfold t) | beta_reduce | skip) | with_reducible apply KeptR.next | with_reducible apply State.keyAt_kept | with_reducible apply State.keyIdle_kept | with_reducible apply State.respond_kept | with_reducible apply Kept.ite | with_reducible apply KeptR.ite | with_reducible apply Kept.fold | with_reducible apply Kept.fold2 | with_reducible apply Kept.fold1 | (lift_lets; intro t; first | (with_reducible refine Kept.cut t ?_ ?_; unfold t) | skip) | dsimp -zeta only | split | dsimp +zetaDelta only)

theorem execDskForceSet_kept {r₀ : State} (dom : Fin 128) (req : BitVec 16) (s : State) (h0 : Kept r₀ s) : KeptR r₀ (execDskForceSet dom req s) := by
  unfold execDskForceSet
  repeat' (first | with_reducible assumption | (intro t; first | (with_reducible refine Kept.cut t ?_ ?_; unfold t) | beta_reduce | skip) | with_reducible apply KeptR.next | with_reducible apply State.forceOff_kept | with_reducible apply State.keyIdle_kept | with_reducible apply State.pwRefuse_kept | with_reducible apply State.raise_kept | with_reducible apply State.respond_kept | with_reducible apply Kept.ite | with_reducible apply KeptR.ite | with_reducible apply Kept.fold | with_reducible apply Kept.fold2 | with_reducible apply Kept.fold1 | (lift_lets; intro t; first | (with_reducible refine Kept.cut t ?_ ?_; unfold t) | skip) | dsimp -zeta only | split | dsimp +zetaDelta only)

theorem execDskForceLift_kept {r₀ : State} (dom : Fin 128) (req : BitVec 16) (s : State) (h0 : Kept r₀ s) : KeptR r₀ (execDskForceLift dom req s) := by
  unfold execDskForceLift
  repeat' (first | with_reducible assumption | (intro t; first | (with_reducible refine Kept.cut t ?_ ?_; unfold t) | beta_reduce | skip) | with_reducible apply KeptR.next | with_reducible apply State.forceLift_kept | with_reducible apply State.keyIdle_kept | with_reducible apply State.respond_kept | with_reducible apply Kept.ite | with_reducible apply KeptR.ite | with_reducible apply Kept.fold | with_reducible apply Kept.fold2 | with_reducible apply Kept.fold1 | (lift_lets; intro t; first | (with_reducible refine Kept.cut t ?_ ?_; unfold t) | skip) | dsimp -zeta only | split | dsimp +zetaDelta only)

theorem execForceKeyTimeout_kept {r₀ : State} (s : State) (h0 : Kept r₀ s) : KeptR r₀ (execForceKeyTimeout s) := by
  unfold execForceKeyTimeout
  repeat' (first | with_reducible assumption | (intro t; first | (with_reducible refine Kept.cut t ?_ ?_; unfold t) | beta_reduce | skip) | with_reducible apply KeptR.next | with_reducible apply State.keyTimeout_kept | with_reducible apply Kept.ite | with_reducible apply KeptR.ite | with_reducible apply Kept.fold | with_reducible apply Kept.fold2 | with_reducible apply Kept.fold1 | (lift_lets; intro t; first | (with_reducible refine Kept.cut t ?_ ?_; unfold t) | skip) | dsimp -zeta only | split | dsimp +zetaDelta only)

theorem State.sensorStep_kept {r₀ : State} (s : State) (i : Nat) (x : Int) (h0 : Kept r₀ s) : Kept r₀ (State.sensorStep s i x) := by
  unfold State.sensorStep
  repeat' (first | with_reducible assumption | (intro t; first | (with_reducible refine Kept.cut t ?_ ?_; unfold t) | beta_reduce | skip) | with_reducible apply State.setR_kept | with_reducible apply Kept.ite | with_reducible apply Kept.fold | with_reducible apply Kept.fold2 | with_reducible apply Kept.fold1 | (lift_lets; intro t; first | (with_reducible refine Kept.cut t ?_ ?_; unfold t) | skip) | dsimp -zeta only | split | dsimp +zetaDelta only)

theorem State.sensorFault_kept {r₀ : State} (s : State) (x : List Int) (i : Nat) (h0 : Kept r₀ s) : Kept r₀ (State.sensorFault s x i) := by
  unfold State.sensorFault
  repeat' (first | with_reducible assumption | (intro t; first | (with_reducible refine Kept.cut t ?_ ?_; unfold t) | beta_reduce | skip) | with_reducible apply State.raise_kept | with_reducible apply State.setR_kept | with_reducible apply Kept.ite | with_reducible apply Kept.fold | with_reducible apply Kept.fold2 | with_reducible apply Kept.fold1 | (lift_lets; intro t; first | (with_reducible refine Kept.cut t ?_ ?_; unfold t) | skip) | dsimp -zeta only | split | dsimp +zetaDelta only)

theorem State.samplePass_kept {r₀ : State} (s : State) (x : List Int) (h0 : Kept r₀ s) : Kept r₀ (State.samplePass s x) := by
  unfold State.samplePass
  repeat' (first | with_reducible assumption | (intro t; first | (with_reducible refine Kept.cut t ?_ ?_; unfold t) | beta_reduce | skip) | with_reducible apply State.sensorFault_kept | with_reducible apply State.sensorStep_kept | with_reducible apply State.setR_kept | with_reducible apply Kept.ite | with_reducible apply Kept.fold | with_reducible apply Kept.fold2 | with_reducible apply Kept.fold1 | (lift_lets; intro t; first | (with_reducible refine Kept.cut t ?_ ?_; unfold t) | skip) | dsimp -zeta only | split | dsimp +zetaDelta only)

theorem execThrottleApply_kept {r₀ : State} (dom : Fin 128) (s : State) (h0 : Kept r₀ s) : KeptR r₀ (execThrottleApply dom s) := by
  unfold execThrottleApply
  repeat' (first | with_reducible assumption | (intro t; first | (with_reducible refine Kept.cut t ?_ ?_; unfold t) | beta_reduce | skip) | with_reducible apply KeptR.next | with_reducible apply State.raise_kept | with_reducible apply State.setR_kept | with_reducible apply State.when_kept | with_reducible apply Kept.ite | with_reducible apply KeptR.ite | with_reducible apply Kept.fold | with_reducible apply Kept.fold2 | with_reducible apply Kept.fold1 | (lift_lets; intro t; first | (with_reducible refine Kept.cut t ?_ ?_; unfold t) | skip) | dsimp -zeta only | split | dsimp +zetaDelta only)

theorem State.alerts_kept {r₀ : State} (s : State) (h0 : Kept r₀ s) : Kept r₀ (State.alerts s) := by
  unfold State.alerts
  repeat' (first | with_reducible assumption | (intro t; first | (with_reducible refine Kept.cut t ?_ ?_; unfold t) | beta_reduce | skip) | with_reducible apply State.irqLevel_kept | with_reducible apply State.setR_kept | with_reducible apply Kept.ite | with_reducible apply Kept.fold | with_reducible apply Kept.fold2 | with_reducible apply Kept.fold1 | (lift_lets; intro t; first | (with_reducible refine Kept.cut t ?_ ?_; unfold t) | skip) | dsimp -zeta only | split | dsimp +zetaDelta only)

theorem State.criticalAlert_kept {r₀ : State} (s : State) (h0 : Kept r₀ s) : Kept r₀ (State.criticalAlert s) := by
  unfold State.criticalAlert
  repeat' (first | with_reducible assumption | (intro t; first | (with_reducible refine Kept.cut t ?_ ?_; unfold t) | beta_reduce | skip) | with_reducible apply State.breach_kept | with_reducible apply State.suspendBreach_kept | with_reducible apply Kept.ite | with_reducible apply Kept.fold | with_reducible apply Kept.fold2 | with_reducible apply Kept.fold1 | (lift_lets; intro t; first | (with_reducible refine Kept.cut t ?_ ?_; unfold t) | skip) | dsimp -zeta only | split | with_reducible apply Map.sortedFrom_filter | with_reducible apply Map.wf_filter | dsimp +zetaDelta only)

theorem State.orderlyStop_kept {r₀ : State} (s : State) (d : Nat) (h0 : Kept r₀ s) : Kept r₀ (State.orderlyStop s d) := by
  unfold State.orderlyStop
  repeat' (first | with_reducible assumption | (intro t; first | (with_reducible refine Kept.cut t ?_ ?_; unfold t) | beta_reduce | skip) | with_reducible apply State.criticalAlert_kept | with_reducible apply State.forceOff_kept | with_reducible apply State.raise_kept | with_reducible apply State.setR_kept | with_reducible apply Kept.ite | with_reducible apply Kept.fold | with_reducible apply Kept.fold2 | with_reducible apply Kept.fold1 | (lift_lets; intro t; first | (with_reducible refine Kept.cut t ?_ ?_; unfold t) | skip) | dsimp -zeta only | split | dsimp +zetaDelta only)

theorem State.thresholds_kept {r₀ : State} (s : State) (d : Nat) (h0 : Kept r₀ s) : Kept r₀ (State.thresholds s d) := by
  unfold State.thresholds
  repeat' (first | with_reducible assumption | (intro t; first | (with_reducible refine Kept.cut t ?_ ?_; unfold t) | beta_reduce | skip) | with_reducible apply State.orderlyStop_kept | with_reducible apply State.raise_kept | with_reducible apply State.setR_kept | with_reducible apply Kept.ite | with_reducible apply Kept.fold | with_reducible apply Kept.fold2 | with_reducible apply Kept.fold1 | (lift_lets; intro t; first | (with_reducible refine Kept.cut t ?_ ?_; unfold t) | skip) | dsimp -zeta only | split | dsimp +zetaDelta only)

theorem State.cutPower_kept {r₀ : State} (s : State) (d : Nat) (h0 : Kept r₀ s) : Kept r₀ (State.cutPower s d) := by
  unfold State.cutPower
  repeat' (first | with_reducible assumption | (intro t; first | (with_reducible refine Kept.cut t ?_ ?_; unfold t) | beta_reduce | skip) | with_reducible apply State.dropDomain_kept | with_reducible apply State.napPort_kept | with_reducible apply State.setCauses_kept | with_reducible apply State.setR_kept | with_reducible apply Kept.ite | with_reducible apply Kept.fold | with_reducible apply Kept.fold2 | with_reducible apply Kept.fold1 | (lift_lets; intro t; first | (with_reducible refine Kept.cut t ?_ ?_; unfold t) | skip) | dsimp -zeta only | split | dsimp +zetaDelta only)

theorem execThermalTrip_kept {r₀ : State} (s : State) (h0 : Kept r₀ s) : KeptR r₀ (execThermalTrip s) := by
  unfold execThermalTrip
  repeat' (first | with_reducible assumption | (intro t; first | (with_reducible refine Kept.cut t ?_ ?_; unfold t) | beta_reduce | skip) | with_reducible apply KeptR.next | with_reducible apply State.alerts_kept | with_reducible apply State.cutPower_kept | with_reducible apply State.setR_kept | with_reducible apply Kept.ite | with_reducible apply KeptR.ite | with_reducible apply Kept.fold | with_reducible apply Kept.fold2 | with_reducible apply Kept.fold1 | (lift_lets; intro t; first | (with_reducible refine Kept.cut t ?_ ?_; unfold t) | skip) | dsimp -zeta only | split | dsimp +zetaDelta only)

theorem execThermStopClear_kept {r₀ : State} (req : BitVec 16) (s : State) (h0 : Kept r₀ s) : KeptR r₀ (execThermStopClear req s) := by
  unfold execThermStopClear
  repeat' (first | with_reducible assumption | (intro t; first | (with_reducible refine Kept.cut t ?_ ?_; unfold t) | beta_reduce | skip) | with_reducible apply KeptR.next | with_reducible apply State.alerts_kept | with_reducible apply State.forceLift_kept | with_reducible apply State.respond_kept | with_reducible apply State.setR_kept | with_reducible apply Kept.ite | with_reducible apply KeptR.ite | with_reducible apply Kept.fold | with_reducible apply Kept.fold2 | with_reducible apply Kept.fold1 | (lift_lets; intro t; first | (with_reducible refine Kept.cut t ?_ ?_; unfold t) | skip) | dsimp -zeta only | split | dsimp +zetaDelta only)

theorem State.polAct_kept {r₀ : State} (s : State) (e : Nat) (h0 : Kept r₀ s) : Kept r₀ (State.polAct s e) := by
  unfold State.polAct
  repeat' (first | with_reducible assumption | (intro t; first | (with_reducible refine Kept.cut t ?_ ?_; unfold t) | beta_reduce | skip) | with_reducible apply State.pwOff_kept | with_reducible apply State.pwOn_kept | with_reducible apply State.raise_kept | with_reducible apply State.setR_kept | with_reducible apply Kept.ite | with_reducible apply Kept.fold | with_reducible apply Kept.fold2 | with_reducible apply Kept.fold1 | (lift_lets; intro t; first | (with_reducible refine Kept.cut t ?_ ?_; unfold t) | skip) | dsimp -zeta only | split | dsimp +zetaDelta only)

theorem State.polStep_kept {r₀ : State} (s : State) (e : Nat) (h0 : Kept r₀ s) : Kept r₀ (State.polStep s e) := by
  unfold State.polStep
  repeat' (first | with_reducible assumption | (intro t; first | (with_reducible refine Kept.cut t ?_ ?_; unfold t) | beta_reduce | skip) | with_reducible apply State.polAct_kept | with_reducible apply State.setR_kept | with_reducible apply Kept.ite | with_reducible apply Kept.fold | with_reducible apply Kept.fold2 | with_reducible apply Kept.fold1 | (lift_lets; intro t; first | (with_reducible refine Kept.cut t ?_ ?_; unfold t) | skip) | dsimp -zeta only | split | dsimp +zetaDelta only)

theorem State.sensorPass_kept {r₀ : State} (s : State) (x : List Int) (h0 : Kept r₀ s) : Kept r₀ (State.sensorPass s x) := by
  unfold State.sensorPass
  repeat' (first | with_reducible assumption | (intro t; first | (with_reducible refine Kept.cut t ?_ ?_; unfold t) | beta_reduce | skip) | with_reducible apply State.alerts_kept | with_reducible apply State.polStep_kept | with_reducible apply State.samplePass_kept | with_reducible apply State.thresholds_kept | with_reducible apply Kept.ite | with_reducible apply Kept.fold | with_reducible apply Kept.fold2 | with_reducible apply Kept.fold1 | (lift_lets; intro t; first | (with_reducible refine Kept.cut t ?_ ?_; unfold t) | skip) | dsimp -zeta only | split | dsimp +zetaDelta only)

theorem execAdcConversion_kept {r₀ : State} (code : BitVec 12) (s : State) (h0 : Kept r₀ s) : KeptR r₀ (execAdcConversion code s) := by
  unfold execAdcConversion
  repeat' (first | with_reducible assumption | (intro t; first | (with_reducible refine Kept.cut t ?_ ?_; unfold t) | beta_reduce | skip) | with_reducible apply KeptR.next | with_reducible apply State.setR_kept | with_reducible apply Kept.ite | with_reducible apply KeptR.ite | with_reducible apply Kept.fold | with_reducible apply Kept.fold2 | with_reducible apply Kept.fold1 | (lift_lets; intro t; first | (with_reducible refine Kept.cut t ?_ ?_; unfold t) | skip) | dsimp -zeta only | split | dsimp +zetaDelta only)

theorem execWakeTimerFire_kept {r₀ : State} (s : State) (h0 : Kept r₀ s) : KeptR r₀ (execWakeTimerFire s) := by
  unfold execWakeTimerFire
  repeat' (first | with_reducible assumption | (intro t; first | (with_reducible refine Kept.cut t ?_ ?_; unfold t) | beta_reduce | skip) | with_reducible apply KeptR.next | with_reducible apply State.pwOn_kept | with_reducible apply State.setR_kept | with_reducible apply State.when_kept | with_reducible apply Kept.ite | with_reducible apply KeptR.ite | with_reducible apply Kept.fold | with_reducible apply Kept.fold2 | with_reducible apply Kept.fold1 | (lift_lets; intro t; first | (with_reducible refine Kept.cut t ?_ ?_; unfold t) | skip) | dsimp -zeta only | split | dsimp +zetaDelta only)

theorem State.domResume_kept {r₀ : State} (s : State) (d : Nat) (oscOk : Bool) (h0 : Kept r₀ s) : Kept r₀ (State.domResume s d oscOk) := by
  unfold State.domResume
  repeat' (first | with_reducible assumption | (intro t; first | (with_reducible refine Kept.cut t ?_ ?_; unfold t) | beta_reduce | skip) | with_reducible apply State.lpxReady_kept | with_reducible apply State.lpxTrain_kept | with_reducible apply State.modLp_kept | with_reducible apply State.setR_kept | with_reducible apply Kept.ite | with_reducible apply Kept.fold | with_reducible apply Kept.fold2 | with_reducible apply Kept.fold1 | (lift_lets; intro t; first | (with_reducible refine Kept.cut t ?_ ?_; unfold t) | skip) | dsimp -zeta only | split | dsimp +zetaDelta only)

theorem State.openPorts_kept {r₀ : State} (s : State) (d : Nat) (h0 : Kept r₀ s) : Kept r₀ (State.openPorts s d) := by
  unfold State.openPorts
  repeat' (first | with_reducible assumption | (intro t; first | (with_reducible refine Kept.cut t ?_ ?_; unfold t) | beta_reduce | skip) | with_reducible apply State.setR_kept | with_reducible apply State.unisolate_kept | with_reducible apply Kept.ite | with_reducible apply Kept.fold | with_reducible apply Kept.fold2 | with_reducible apply Kept.fold1 | (lift_lets; intro t; first | (with_reducible refine Kept.cut t ?_ ?_; unfold t) | skip) | dsimp -zeta only | split | dsimp +zetaDelta only)

theorem State.wakeEnd_kept {r₀ : State} (s : State) (d : Nat) (oscOk : Bool) (h0 : Kept r₀ s) : Kept r₀ (State.wakeEnd s d oscOk) := by
  unfold State.wakeEnd
  repeat' (first | with_reducible assumption | (intro t; first | (with_reducible refine Kept.cut t ?_ ?_; unfold t) | beta_reduce | skip) | with_reducible apply State.domResume_kept | with_reducible apply State.openPorts_kept | with_reducible apply State.pwClose_kept | with_reducible apply State.raise_kept | with_reducible apply State.setR_kept | with_reducible apply State.slotEnd_kept | with_reducible apply Kept.ite | with_reducible apply Kept.fold | with_reducible apply Kept.fold2 | with_reducible apply Kept.fold1 | (lift_lets; intro t; first | (with_reducible refine Kept.cut t ?_ ?_; unfold t) | skip) | dsimp -zeta only | split | dsimp +zetaDelta only)

end Sys2Proof.Machine
end

