-- ==== Sys2Proof/Laws/Kept/UserNvm.lean ====
section
/-!
SUPPORT. Every operation of Machine/UserNvm.lean leaves the queue and keeps the tables in canonical form.
-/

set_option linter.unreachableTactic false
set_option linter.unusedTactic false
set_option linter.unusedVariables false

namespace Sys2Proof.Machine

theorem State.modNvm_kept {r₀ : State} (s : State) (fd : Nat) (f : Nvm → Nvm) (h0 : Kept r₀ s) : Kept r₀ (State.modNvm s fd f) := by
  unfold State.modNvm
  repeat' (first | with_reducible assumption | (intro t; first | (with_reducible refine Kept.cut t ?_ ?_; unfold t) | beta_reduce | skip) | with_reducible apply State.setR_kept | with_reducible apply State.modFab_kept | with_reducible apply Kept.ite | with_reducible apply Kept.fold | with_reducible apply Kept.fold2 | with_reducible apply Kept.fold1 | (lift_lets; intro t; first | (with_reducible refine Kept.cut t ?_ ?_; unfold t) | skip) | dsimp -zeta only | split | dsimp +zetaDelta only)

theorem State.putNvmWord_kept {r₀ : State} (s : State) (fd a : Nat) (w : NvmWord) (h0 : Kept r₀ s) : Kept r₀ (State.putNvmWord s fd a w) := by
  unfold State.putNvmWord
  repeat' (first | with_reducible assumption | (intro t; first | (with_reducible refine Kept.cut t ?_ ?_; unfold t) | beta_reduce | skip) | with_reducible apply State.modFab_kept | with_reducible apply Kept.ite | with_reducible apply Kept.fold | with_reducible apply Kept.fold2 | with_reducible apply Kept.fold1 | (lift_lets; intro t; first | (with_reducible refine Kept.cut t ?_ ?_; unfold t) | skip) | dsimp -zeta only | split | dsimp +zetaDelta only)

theorem State.nvmRead_kept {r₀ : State} (s : State) (fd a : Nat) (upset : Option Upset) (h0 : Kept r₀ s) : Kept r₀ (State.nvmRead s fd a upset).2 := by
  unfold State.nvmRead
  repeat' (first | with_reducible assumption | (intro t; first | (with_reducible refine Kept.cut t ?_ ?_; unfold t) | beta_reduce | skip) | with_reducible apply State.putNvmWord_kept | with_reducible apply State.raise_kept | with_reducible apply Kept.ite | with_reducible apply Kept.fold | with_reducible apply Kept.fold2 | with_reducible apply Kept.fold1 | (lift_lets; intro t; first | (with_reducible refine Kept.cut t ?_ ?_; unfold t) | skip) | dsimp -zeta only | split | dsimp +zetaDelta only)

theorem State.nvmCapture_kept {r₀ : State} (s : State) (fd a : Nat) (h0 : Kept r₀ s) : Kept r₀ (State.nvmCapture s fd a) := by
  unfold State.nvmCapture
  repeat' (first | with_reducible assumption | (intro t; first | (with_reducible refine Kept.cut t ?_ ?_; unfold t) | beta_reduce | skip) | with_reducible apply State.modNvm_kept | with_reducible apply Kept.ite | with_reducible apply Kept.fold | with_reducible apply Kept.fold2 | with_reducible apply Kept.fold1 | (lift_lets; intro t; first | (with_reducible refine Kept.cut t ?_ ?_; unfold t) | skip) | dsimp -zeta only | split | dsimp +zetaDelta only)

theorem execNvmFabricRead_kept {r₀ : State} (fd : Fin 8) (addr : BitVec 15) (s : State) (h0 : Kept r₀ s) : KeptR r₀ (execNvmFabricRead fd addr s) := by
  unfold execNvmFabricRead
  repeat' (first | with_reducible assumption | (intro t; first | (with_reducible refine Kept.cut t ?_ ?_; unfold t) | beta_reduce | skip) | with_reducible apply KeptR.next | with_reducible apply State.nvmCapture_kept | with_reducible apply State.when_kept | with_reducible apply Kept.ite | with_reducible apply KeptR.ite | with_reducible apply Kept.fold | with_reducible apply Kept.fold2 | with_reducible apply Kept.fold1 | (lift_lets; intro t; first | (with_reducible refine Kept.cut t ?_ ?_; unfold t) | skip) | dsimp -zeta only | split | dsimp +zetaDelta only)

theorem execNvmReadComplete_kept {r₀ : State} (fd : Fin 8) (upset : Option Upset) (s : State) (h0 : Kept r₀ s) : KeptR r₀ (execNvmReadComplete fd upset s) := by
  unfold execNvmReadComplete
  repeat' (first | with_reducible assumption | (intro t; first | (with_reducible refine Kept.cut t ?_ ?_; unfold t) | beta_reduce | skip) | with_reducible apply KeptR.next | with_reducible apply State.modNvm_kept | with_reducible apply State.nvmRead_kept | with_reducible apply State.when_kept | with_reducible apply Kept.ite | with_reducible apply KeptR.ite | with_reducible apply Kept.fold | with_reducible apply Kept.fold2 | with_reducible apply Kept.fold1 | (lift_lets; intro t; first | (with_reducible refine Kept.cut t ?_ ?_; unfold t) | skip) | dsimp -zeta only | split | dsimp +zetaDelta only)

theorem State.nvmFabricWrite_kept {r₀ : State} (s : State) (fd a : Nat) (data : BitVec 64) (h0 : Kept r₀ s) : Kept r₀ (State.nvmFabricWrite s fd a data) := by
  unfold State.nvmFabricWrite
  repeat' (first | with_reducible assumption | (intro t; first | (with_reducible refine Kept.cut t ?_ ?_; unfold t) | beta_reduce | skip) | with_reducible apply State.modNvm_kept | with_reducible apply State.setR_kept | with_reducible apply Kept.ite | with_reducible apply Kept.fold | with_reducible apply Kept.fold2 | with_reducible apply Kept.fold1 | (lift_lets; intro t; first | (with_reducible refine Kept.cut t ?_ ?_; unfold t) | skip) | dsimp -zeta only | split | dsimp +zetaDelta only)

theorem execNvmFabricWrite_kept {r₀ : State} (fd : Fin 8) (addr : BitVec 15) (data : BitVec 64) (s : State) (h0 : Kept r₀ s) : KeptR r₀ (execNvmFabricWrite fd addr data s) := by
  unfold execNvmFabricWrite
  repeat' (first | with_reducible assumption | (intro t; first | (with_reducible refine Kept.cut t ?_ ?_; unfold t) | beta_reduce | skip) | with_reducible apply KeptR.next | with_reducible apply State.nvmFabricWrite_kept | with_reducible apply State.when_kept | with_reducible apply Kept.ite | with_reducible apply KeptR.ite | with_reducible apply Kept.fold | with_reducible apply Kept.fold2 | with_reducible apply Kept.fold1 | (lift_lets; intro t; first | (with_reducible refine Kept.cut t ?_ ?_; unfold t) | skip) | dsimp -zeta only | split | dsimp +zetaDelta only)

theorem State.nvmRegEnter_kept {r₀ : State} (s : State) (fd byteAddr : Nat) (wide : Bool) (data : BitVec 64) (h0 : Kept r₀ s) : Kept r₀ (State.nvmRegEnter s fd byteAddr wide data) := by
  unfold State.nvmRegEnter
  repeat' (first | with_reducible assumption | (intro t; first | (with_reducible refine Kept.cut t ?_ ?_; unfold t) | beta_reduce | skip) | with_reducible apply State.modNvm_kept | with_reducible apply State.setR_kept | with_reducible apply Kept.ite | with_reducible apply Kept.fold | with_reducible apply Kept.fold2 | with_reducible apply Kept.fold1 | (lift_lets; intro t; first | (with_reducible refine Kept.cut t ?_ ?_; unfold t) | skip) | dsimp -zeta only | split | dsimp +zetaDelta only)

theorem State.nvmRegWrite_kept {r₀ : State} (s : State) (fd byteAddr : Nat) (wide : Bool) (data : BitVec 64) (h0 : Kept r₀ s) : Kept r₀ (State.nvmRegWrite s fd byteAddr wide data) := by
  unfold State.nvmRegWrite
  repeat' (first | with_reducible assumption | (intro t; first | (with_reducible refine Kept.cut t ?_ ?_; unfold t) | beta_reduce | skip) | with_reducible apply State.modNvm_kept | with_reducible apply State.nvmRegEnter_kept | with_reducible apply State.respond_kept | with_reducible apply Kept.ite | with_reducible apply Kept.fold | with_reducible apply Kept.fold2 | with_reducible apply Kept.fold1 | (lift_lets; intro t; first | (with_reducible refine Kept.cut t ?_ ?_; unfold t) | skip) | dsimp -zeta only | split | dsimp +zetaDelta only)

theorem execNvmRegisterWrite_kept {r₀ : State} (fd : Fin 8) (byteAddr : BitVec 18) (wide : Bool) (data : BitVec 64) (s : State) (h0 : Kept r₀ s) : KeptR r₀ (execNvmRegisterWrite fd byteAddr wide data s) := by
  unfold execNvmRegisterWrite
  repeat' (first | with_reducible assumption | (intro t; first | (with_reducible refine Kept.cut t ?_ ?_; unfold t) | beta_reduce | skip) | with_reducible apply KeptR.next | with_reducible apply State.nvmRegWrite_kept | with_reducible apply Kept.ite | with_reducible apply KeptR.ite | with_reducible apply Kept.fold | with_reducible apply Kept.fold2 | with_reducible apply Kept.fold1 | (lift_lets; intro t; first | (with_reducible refine Kept.cut t ?_ ?_; unfold t) | skip) | dsimp -zeta only | split | dsimp +zetaDelta only)

theorem State.nvmUnstall_kept {r₀ : State} (s : State) (fd : Nat) (h0 : Kept r₀ s) : Kept r₀ (State.nvmUnstall s fd) := by
  unfold State.nvmUnstall
  repeat' (first | with_reducible assumption | (intro t; first | (with_reducible refine Kept.cut t ?_ ?_; unfold t) | beta_reduce | skip) | with_reducible apply State.injectAt_kept | with_reducible apply State.modNvm_kept | with_reducible apply State.nvmRegEnter_kept | with_reducible apply State.respond_kept | with_reducible apply Kept.ite | with_reducible apply Kept.fold | with_reducible apply Kept.fold2 | with_reducible apply Kept.fold1 | (lift_lets; intro t; first | (with_reducible refine Kept.cut t ?_ ?_; unfold t) | skip) | dsimp -zeta only | split | dsimp +zetaDelta only)

theorem execNvmWriteDrain_kept {r₀ : State} (fd : Fin 8) (bank : Fin 4) (s : State) (h0 : Kept r₀ s) : KeptR r₀ (execNvmWriteDrain fd bank s) := by
  unfold execNvmWriteDrain
  repeat' (first | with_reducible assumption | (intro t; first | (with_reducible refine Kept.cut t ?_ ?_; unfold t) | beta_reduce | skip) | with_reducible apply KeptR.next | with_reducible apply State.modNvm_kept | with_reducible apply State.nvmUnstall_kept | with_reducible apply State.putNvmWord_kept | with_reducible apply Kept.ite | with_reducible apply KeptR.ite | with_reducible apply Kept.fold | with_reducible apply Kept.fold2 | with_reducible apply Kept.fold1 | (lift_lets; intro t; first | (with_reducible refine Kept.cut t ?_ ?_; unfold t) | skip) | dsimp -zeta only | split | dsimp +zetaDelta only)

theorem State.nvmEdge_kept {r₀ : State} (s was : State) (fd : Nat) (h0 : Kept r₀ s) (h1 : Kept r₀ was) : Kept r₀ (State.nvmEdge s was fd) := by
  unfold State.nvmEdge
  repeat' (first | with_reducible assumption | (intro t; first | (with_reducible refine Kept.cut t ?_ ?_; unfold t) | beta_reduce | skip) | with_reducible apply State.modNvm_kept | with_reducible apply State.nvmCapture_kept | with_reducible apply State.nvmFabricWrite_kept | with_reducible apply State.nvmUnstall_kept | with_reducible apply Kept.ite | with_reducible apply Kept.fold | with_reducible apply Kept.fold2 | with_reducible apply Kept.fold1 | (lift_lets; intro t; first | (with_reducible refine Kept.cut t ?_ ?_; unfold t) | skip) | dsimp -zeta only | split | dsimp +zetaDelta only)

theorem execNvmLockKey_kept {r₀ : State} (fd : Fin 8) (key : BitVec 16) (req : BitVec 16) (s : State) (h0 : Kept r₀ s) : KeptR r₀ (execNvmLockKey fd key req s) := by
  unfold execNvmLockKey
  repeat' (first | with_reducible assumption | (intro t; first | (with_reducible refine Kept.cut t ?_ ?_; unfold t) | beta_reduce | skip) | with_reducible apply KeptR.next | with_reducible apply State.keyAt_kept | with_reducible apply State.keyIdle_kept | with_reducible apply State.setR_kept | with_reducible apply Kept.ite | with_reducible apply KeptR.ite | with_reducible apply Kept.fold | with_reducible apply Kept.fold2 | with_reducible apply Kept.fold1 | (lift_lets; intro t; first | (with_reducible refine Kept.cut t ?_ ?_; unfold t) | skip) | dsimp -zeta only | split | dsimp +zetaDelta only)

theorem execNvmLockTimeout_kept {r₀ : State} (fd : Fin 8) (s : State) (h0 : Kept r₀ s) : KeptR r₀ (execNvmLockTimeout fd s) := by
  unfold execNvmLockTimeout
  repeat' (first | with_reducible assumption | (intro t; first | (with_reducible refine Kept.cut t ?_ ?_; unfold t) | beta_reduce | skip) | with_reducible apply KeptR.next | with_reducible apply State.keyTimeout_kept | with_reducible apply Kept.ite | with_reducible apply KeptR.ite | with_reducible apply Kept.fold | with_reducible apply Kept.fold2 | with_reducible apply Kept.fold1 | (lift_lets; intro t; first | (with_reducible refine Kept.cut t ?_ ?_; unfold t) | skip) | dsimp -zeta only | split | dsimp +zetaDelta only)

end Sys2Proof.Machine
end

