-- ==== Sys2Proof/Laws/Kept/BusRead.lean ====
section
/-!
SUPPORT. Every operation of Machine/BusRead.lean leaves the queue and keeps the tables in canonical form.
-/

set_option linter.unreachableTactic false
set_option linter.unusedTactic false
set_option linter.unusedVariables false

namespace Sys2Proof.Machine

theorem State.clearRc_kept {r₀ : State} (s : State) (b : Blk) (page o : Nat) (h0 : Kept r₀ s) : Kept r₀ (State.clearRc s b page o) := by
  unfold State.clearRc
  repeat' (first | with_reducible assumption | (intro t; first | (with_reducible refine Kept.cut t ?_ ?_; unfold t) | beta_reduce | skip) | with_reducible apply State.setR_kept | with_reducible apply Kept.ite | with_reducible apply Kept.fold | with_reducible apply Kept.fold2 | with_reducible apply Kept.fold1 | (lift_lets; intro t; first | (with_reducible refine Kept.cut t ?_ ?_; unfold t) | skip) | dsimp -zeta only | split | dsimp +zetaDelta only)

theorem took_kept {r : State} (o : Result) (s : State) (h : Kept r s) (ho : KeptR r o) : Kept r (took o s) := by
  unfold took
  split
  · exact ho.kept _ rfl
  · exact h

theorem State.frameWord_kept {r₀ : State} (s : State) (w : Nat) (h0 : Kept r₀ s) : Kept r₀ (State.frameWord s w) := by
  unfold State.frameWord
  repeat' (first | with_reducible assumption | (intro t; first | (with_reducible refine Kept.cut t ?_ ?_; unfold t) | beta_reduce | skip) | with_reducible apply State.respond_kept | with_reducible apply Kept.ite | with_reducible apply Kept.fold | with_reducible apply Kept.fold2 | with_reducible apply Kept.fold1 | (lift_lets; intro t; first | (with_reducible refine Kept.cut t ?_ ?_; unfold t) | skip) | dsimp -zeta only | split | dsimp +zetaDelta only)

theorem State.read32_kept {r₀ : State} (s : State) (b : Blk) (page o : Nat) (peek : Bool) (h0 : Kept r₀ s) : Kept r₀ (State.read32 s b page o peek) := by
  unfold State.read32
  repeat' (first | with_reducible assumption | (intro t; first | (with_reducible refine Kept.cut t ?_ ?_; unfold t) | beta_reduce | skip) | with_reducible apply State.clearRc_kept | with_reducible apply State.draw_kept | with_reducible apply State.frameWord_kept | with_reducible apply State.respond_kept | with_reducible apply State.roBring_kept | with_reducible apply execPlicClaim_kept | with_reducible apply execSpDataPop_kept | with_reducible apply execTbsTimeLoRead_kept | with_reducible apply took_kept | with_reducible apply Kept.ite | with_reducible apply Kept.fold | with_reducible apply Kept.fold2 | with_reducible apply Kept.fold1 | (lift_lets; intro t; first | (with_reducible refine Kept.cut t ?_ ?_; unfold t) | skip) | dsimp -zeta only | split | dsimp +zetaDelta only)

theorem State.touchPage_kept {r₀ : State} (s : State) (b : Blk) (page : Nat) (h0 : Kept r₀ s) : Kept r₀ (State.touchPage s b page) := by
  unfold State.touchPage
  repeat' (first | with_reducible assumption | (intro t; first | (with_reducible refine Kept.cut t ?_ ?_; unfold t) | beta_reduce | skip) | with_reducible apply State.touchGroup_kept | with_reducible apply State.touchPair_kept | with_reducible apply State.touchRegion_kept | with_reducible apply Kept.ite | with_reducible apply Kept.fold | with_reducible apply Kept.fold2 | with_reducible apply Kept.fold1 | (lift_lets; intro t; first | (with_reducible refine Kept.cut t ?_ ?_; unfold t) | skip) | dsimp -zeta only | split | dsimp +zetaDelta only)

theorem State.nvmWindow_kept {r₀ : State} (s : State) (fd byte : Nat) (wide : Bool) (h0 : Kept r₀ s) : Kept r₀ (State.nvmWindow s fd byte wide) := by
  unfold State.nvmWindow
  repeat' (first | with_reducible assumption | (intro t; first | (with_reducible refine Kept.cut t ?_ ?_; unfold t) | beta_reduce | skip) | with_reducible apply State.nvmRead_kept | with_reducible apply State.respond_kept | with_reducible apply Kept.ite | with_reducible apply Kept.fold | with_reducible apply Kept.fold2 | with_reducible apply Kept.fold1 | (lift_lets; intro t; first | (with_reducible refine Kept.cut t ?_ ?_; unfold t) | skip) | dsimp -zeta only | split | dsimp +zetaDelta only)

theorem State.busRead_kept {r₀ : State} (s : State) (e a : Nat) (wide peek : Bool) (req : Nat) (h0 : Kept r₀ s) : Kept r₀ (State.busRead s e a wide peek req) := by
  unfold State.busRead
  repeat' (first | with_reducible assumption | (intro t; first | (with_reducible refine Kept.cut t ?_ ?_; unfold t) | beta_reduce | skip) | with_reducible apply State.decodeError_kept | with_reducible apply State.nvmWindow_kept | with_reducible apply State.read32_kept | with_reducible apply State.respond_kept | with_reducible apply State.touchPage_kept | with_reducible apply Kept.ite | with_reducible apply Kept.fold | with_reducible apply Kept.fold2 | with_reducible apply Kept.fold1 | (lift_lets; intro t; first | (with_reducible refine Kept.cut t ?_ ?_; unfold t) | skip) | dsimp -zeta only | split | dsimp +zetaDelta only)

theorem execCounterClearingRead_kept {r₀ : State} (addr : BitVec 48) (wide : Bool) (peek : Bool) (req : BitVec 16) (s : State) (h0 : Kept r₀ s) : KeptR r₀ (execCounterClearingRead addr wide peek req s) := by
  unfold execCounterClearingRead
  repeat' (first | with_reducible assumption | (intro t; first | (with_reducible refine Kept.cut t ?_ ?_; unfold t) | beta_reduce | skip) | with_reducible apply KeptR.next | with_reducible apply State.busRead_kept | with_reducible apply State.coreTakes_kept | with_reducible apply Kept.ite | with_reducible apply KeptR.ite | with_reducible apply Kept.fold | with_reducible apply Kept.fold2 | with_reducible apply Kept.fold1 | (lift_lets; intro t; first | (with_reducible refine Kept.cut t ?_ ?_; unfold t) | skip) | dsimp -zeta only | split | dsimp +zetaDelta only)

theorem execDwnRbkRead_kept {r₀ : State} (word : Fin 128) (req : BitVec 16) (s : State) (h0 : Kept r₀ s) : KeptR r₀ (execDwnRbkRead word req s) := by
  unfold execDwnRbkRead
  repeat' (first | with_reducible assumption | (intro t; first | (with_reducible refine Kept.cut t ?_ ?_; unfold t) | beta_reduce | skip) | with_reducible apply KeptR.next | with_reducible apply State.busRead_kept | with_reducible apply Kept.ite | with_reducible apply KeptR.ite | with_reducible apply Kept.fold | with_reducible apply Kept.fold2 | with_reducible apply Kept.fold1 | (lift_lets; intro t; first | (with_reducible refine Kept.cut t ?_ ?_; unfold t) | skip) | dsimp -zeta only | split | dsimp +zetaDelta only)

end Sys2Proof.Machine
end

