-- ==== Sys2Proof/Laws/Kept/Collector.lean ====
section
/-!
SUPPORT. Every operation of Machine/Collector.lean leaves the queue and keeps the tables in canonical form.
-/

set_option linter.unreachableTactic false
set_option linter.unusedTactic false
set_option linter.unusedVariables false

namespace Sys2Proof.Machine

theorem State.ringStore_kept {r s t : State} {source code : Nat} {e : EventRec} (h : Kept r s) (q : s.ringStore source code e = some t) : Kept r t := by
  unfold State.ringStore at q
  obtain ⟨u, hu, rfl⟩ := Option.map_eq_some_iff.mp q
  exact State.setR_kept _ _ _ _ (State.agentPut_kept h hu)

theorem State.recordWrite_kept {r : State} (s : State) (source code : Nat) (h : Kept r s) : Kept r (s.recordWrite source code) := by
  unfold State.recordWrite
  split
  · exact h
  · have hu := State.urgent_kept _ ‹EventRec›.severity (State.dropEvent_kept s (evKey source code) h)
    dsimp only
    split
    · exact State.ringDiscard_kept _ hu
    · cases q : State.ringStore _ source code _ with
      | none => exact h
      | some t => exact State.ringStore_kept hu q

theorem execEventRecordWrite_kept {r₀ : State} (source : BitVec 16) (code : BitVec 16) (s : State) (h0 : Kept r₀ s) : KeptR r₀ (execEventRecordWrite source code s) := by
  unfold execEventRecordWrite
  repeat' (first | with_reducible assumption | (intro t; first | (with_reducible refine Kept.cut t ?_ ?_; unfold t) | beta_reduce | skip) | with_reducible apply KeptR.next | with_reducible apply State.recordWrite_kept | with_reducible apply Kept.ite | with_reducible apply KeptR.ite | with_reducible apply Kept.fold | with_reducible apply Kept.fold2 | with_reducible apply Kept.fold1 | (lift_lets; intro t; first | (with_reducible refine Kept.cut t ?_ ?_; unfold t) | skip) | dsimp -zeta only | split | dsimp +zetaDelta only)

theorem execEventRingOvfClear_kept {r₀ : State} (discarded : Option (BitVec 16 × BitVec 16)) (s : State) (h0 : Kept r₀ s) : KeptR r₀ (execEventRingOvfClear discarded s) := by
  unfold execEventRingOvfClear
  repeat' (first | with_reducible assumption | (intro t; first | (with_reducible refine Kept.cut t ?_ ?_; unfold t) | beta_reduce | skip) | with_reducible apply KeptR.next | with_reducible apply State.recordWrite_kept | with_reducible apply State.setR_kept | with_reducible apply Kept.ite | with_reducible apply KeptR.ite | with_reducible apply Kept.fold | with_reducible apply Kept.fold2 | with_reducible apply Kept.fold1 | (lift_lets; intro t; first | (with_reducible refine Kept.cut t ?_ ?_; unfold t) | skip) | dsimp -zeta only | split | dsimp +zetaDelta only)

end Sys2Proof.Machine
end

