-- ==== Sys2Proof/Laws/Kept/Midnight.lean ====
section
/-!
SUPPORT. Every operation of Machine/Midnight.lean leaves the queue and keeps the tables in canonical form.
-/

set_option linter.unreachableTactic false
set_option linter.unusedTactic false
set_option linter.unusedVariables false

namespace Sys2Proof.Machine

theorem State.midTake_kept {r₀ : State} (s : State) (bd cls index : Nat) (req : Bool) (h0 : Kept r₀ s) : Kept r₀ (State.midTake s bd cls index req) := by
  unfold State.midTake
  repeat' (first | with_reducible assumption | (intro t; first | (with_reducible refine Kept.cut t ?_ ?_; unfold t) | beta_reduce | skip) | with_reducible apply State.modMid_kept | with_reducible apply Kept.ite | with_reducible apply Kept.fold | with_reducible apply Kept.fold2 | with_reducible apply Kept.fold1 | (lift_lets; intro t; first | (with_reducible refine Kept.cut t ?_ ?_; unfold t) | skip) | dsimp -zeta only | split | dsimp +zetaDelta only)

theorem State.midEnd_kept {r₀ : State} (s : State) (bd st result : Nat) (h0 : Kept r₀ s) : Kept r₀ (State.midEnd s bd st result) := by
  unfold State.midEnd
  repeat' (first | with_reducible assumption | (intro t; first | (with_reducible refine Kept.cut t ?_ ?_; unfold t) | beta_reduce | skip) | with_reducible apply State.setR_kept | with_reducible apply Kept.ite | with_reducible apply Kept.fold | with_reducible apply Kept.fold2 | with_reducible apply Kept.fold1 | (lift_lets; intro t; first | (with_reducible refine Kept.cut t ?_ ?_; unfold t) | skip) | dsimp -zeta only | split | dsimp +zetaDelta only)

theorem State.midDefer_kept {r₀ : State} (s : State) (bd result : Nat) (h0 : Kept r₀ s) : Kept r₀ (State.midDefer s bd result) := by
  unfold State.midDefer
  repeat' (first | with_reducible assumption | (intro t; first | (with_reducible refine Kept.cut t ?_ ?_; unfold t) | beta_reduce | skip) | with_reducible apply State.midEnd_kept | with_reducible apply State.raise_kept | with_reducible apply Kept.ite | with_reducible apply Kept.fold | with_reducible apply Kept.fold2 | with_reducible apply Kept.fold1 | (lift_lets; intro t; first | (with_reducible refine Kept.cut t ?_ ?_; unfold t) | skip) | dsimp -zeta only | split | dsimp +zetaDelta only)

theorem execMidAutoTest_kept {r₀ : State} (bd : Fin 4) (cls : Fin 6) (index : Nat) (s : State) (h0 : Kept r₀ s) : KeptR r₀ (execMidAutoTest bd cls index s) := by
  unfold execMidAutoTest
  repeat' (first | with_reducible assumption | (intro t; first | (with_reducible refine Kept.cut t ?_ ?_; unfold t) | beta_reduce | skip) | with_reducible apply KeptR.next | with_reducible apply State.midTake_kept | with_reducible apply State.when_kept | with_reducible apply Kept.ite | with_reducible apply KeptR.ite | with_reducible apply Kept.fold | with_reducible apply Kept.fold2 | with_reducible apply Kept.fold1 | (lift_lets; intro t; first | (with_reducible refine Kept.cut t ?_ ?_; unfold t) | skip) | dsimp -zeta only | split | dsimp +zetaDelta only)

theorem execMidReqGo_kept {r₀ : State} (bd : Fin 4) (force : Bool) (req : BitVec 16) (s : State) (h0 : Kept r₀ s) : KeptR r₀ (execMidReqGo bd force req s) := by
  unfold execMidReqGo
  repeat' (first | with_reducible assumption | (intro t; first | (with_reducible refine Kept.cut t ?_ ?_; unfold t) | beta_reduce | skip) | with_reducible apply KeptR.next | with_reducible apply State.midEnd_kept | with_reducible apply State.respond_kept | with_reducible apply State.setR_kept | with_reducible apply Kept.ite | with_reducible apply KeptR.ite | with_reducible apply Kept.fold | with_reducible apply Kept.fold2 | with_reducible apply Kept.fold1 | (lift_lets; intro t; first | (with_reducible refine Kept.cut t ?_ ?_; unfold t) | skip) | dsimp -zeta only | split | dsimp +zetaDelta only)

theorem execMidReqAbort_kept {r₀ : State} (bd : Fin 4) (req : BitVec 16) (s : State) (h0 : Kept r₀ s) : KeptR r₀ (execMidReqAbort bd req s) := by
  unfold execMidReqAbort
  repeat' (first | with_reducible assumption | (intro t; first | (with_reducible refine Kept.cut t ?_ ?_; unfold t) | beta_reduce | skip) | with_reducible apply KeptR.next | with_reducible apply State.respond_kept | with_reducible apply State.setR_kept | with_reducible apply Kept.ite | with_reducible apply KeptR.ite | with_reducible apply Kept.fold | with_reducible apply Kept.fold2 | with_reducible apply Kept.fold1 | (lift_lets; intro t; first | (with_reducible refine Kept.cut t ?_ ?_; unfold t) | skip) | dsimp -zeta only | split | dsimp +zetaDelta only)

theorem State.midOffline_kept {r₀ : State} (s : State) (cls n : Nat) (h0 : Kept r₀ s) : Kept r₀ (State.midOffline s cls n) := by
  unfold State.midOffline
  repeat' (first | with_reducible assumption | (intro t; first | (with_reducible refine Kept.cut t ?_ ?_; unfold t) | beta_reduce | skip) | with_reducible apply State.fceSt_kept | with_reducible apply State.modFcx_kept | with_reducible apply State.mspSrst_kept | with_reducible apply State.pgeClear_kept | with_reducible apply State.pgeSt_kept | with_reducible apply State.setR_kept | with_reducible apply Kept.ite | with_reducible apply Kept.fold | with_reducible apply Kept.fold2 | with_reducible apply Kept.fold1 | (lift_lets; intro t; first | (with_reducible refine Kept.cut t ?_ ?_; unfold t) | skip) | dsimp -zeta only | split | dsimp +zetaDelta only)

theorem execMidDeadline_kept {r₀ : State} (bd : Fin 4) (s : State) (h0 : Kept r₀ s) : KeptR r₀ (execMidDeadline bd s) := by
  unfold execMidDeadline
  repeat' (first | with_reducible assumption | (intro t; first | (with_reducible refine Kept.cut t ?_ ?_; unfold t) | beta_reduce | skip) | with_reducible apply KeptR.next | with_reducible apply State.midDefer_kept | with_reducible apply State.midOffline_kept | with_reducible apply State.midTake_kept | with_reducible apply State.setR_kept | with_reducible apply Kept.ite | with_reducible apply KeptR.ite | with_reducible apply Kept.fold | with_reducible apply Kept.fold2 | with_reducible apply Kept.fold1 | (lift_lets; intro t; first | (with_reducible refine Kept.cut t ?_ ?_; unfold t) | skip) | dsimp -zeta only | split | dsimp +zetaDelta only)

theorem execMidTestStart_kept {r₀ : State} (bd : Fin 4) (s : State) (h0 : Kept r₀ s) : KeptR r₀ (execMidTestStart bd s) := by
  unfold execMidTestStart
  repeat' (first | with_reducible assumption | (intro t; first | (with_reducible refine Kept.cut t ?_ ?_; unfold t) | beta_reduce | skip) | with_reducible apply KeptR.next | with_reducible apply State.midTake_kept | with_reducible apply State.when_kept | with_reducible apply Kept.ite | with_reducible apply KeptR.ite | with_reducible apply Kept.fold | with_reducible apply Kept.fold2 | with_reducible apply Kept.fold1 | (lift_lets; intro t; first | (with_reducible refine Kept.cut t ?_ ?_; unfold t) | skip) | dsimp -zeta only | split | dsimp +zetaDelta only)

theorem State.midFault_kept {r₀ : State} (s : State) (bd cls index : Nat) (h0 : Kept r₀ s) : Kept r₀ (State.midFault s bd cls index) := by
  unfold State.midFault
  repeat' (first | with_reducible assumption | (intro t; first | (with_reducible refine Kept.cut t ?_ ?_; unfold t) | beta_reduce | skip) | with_reducible apply State.raise_kept | with_reducible apply State.satAdd_kept | with_reducible apply State.setR_kept | with_reducible apply Kept.ite | with_reducible apply Kept.fold | with_reducible apply Kept.fold2 | with_reducible apply Kept.fold1 | (lift_lets; intro t; first | (with_reducible refine Kept.cut t ?_ ?_; unfold t) | skip) | dsimp -zeta only | split | dsimp +zetaDelta only)

theorem execMidTestEnd_kept {r₀ : State} (bd : Fin 4) (cls : Fin 6) (index : Nat) (fail : Bool) (detail : BitVec 32) (rows : List Nat) (height : BitVec 8) (width : BitVec 8) (s : State) (h0 : Kept r₀ s) : KeptR r₀ (execMidTestEnd bd cls index fail detail rows height width s) := by
  unfold execMidTestEnd
  repeat' (first | with_reducible assumption | (intro t; first | (with_reducible refine Kept.cut t ?_ ?_; unfold t) | beta_reduce | skip) | with_reducible apply KeptR.next | with_reducible apply State.invalidate_kept | with_reducible apply State.midEnd_kept | with_reducible apply State.midFault_kept | with_reducible apply State.raise_kept | with_reducible apply State.satAdd_kept | with_reducible apply State.setR_kept | with_reducible apply State.suspectRow_kept | with_reducible apply State.wrapAdd_kept | with_reducible apply State.modMid_kept | with_reducible apply Kept.ite | with_reducible apply KeptR.ite | with_reducible apply Kept.fold | with_reducible apply Kept.fold2 | with_reducible apply Kept.fold1 | (lift_lets; intro t; first | (with_reducible refine Kept.cut t ?_ ?_; unfold t) | skip) | dsimp -zeta only | split | with_reducible apply Map.sortedFrom_filter | with_reducible apply Map.wf_filter | dsimp +zetaDelta only)

theorem execMidUnitReleased_kept {r₀ : State} (bd : Fin 4) (cls : Fin 6) (index : Nat) (s : State) (h0 : Kept r₀ s) : KeptR r₀ (execMidUnitReleased bd cls index s) := by
  unfold execMidUnitReleased
  repeat' (first | with_reducible assumption | (intro t; first | (with_reducible refine Kept.cut t ?_ ?_; unfold t) | beta_reduce | skip) | with_reducible apply KeptR.next | with_reducible apply State.invalidate_kept | with_reducible apply State.modMid_kept | with_reducible apply Kept.ite | with_reducible apply KeptR.ite | with_reducible apply Kept.fold | with_reducible apply Kept.fold2 | with_reducible apply Kept.fold1 | (lift_lets; intro t; first | (with_reducible refine Kept.cut t ?_ ?_; unfold t) | skip) | dsimp -zeta only | split | with_reducible apply Map.sortedFrom_filter | with_reducible apply Map.wf_filter | dsimp +zetaDelta only)

end Sys2Proof.Machine
end

