-- ==== Sys2Proof/Laws/Kept/Security.lean ====
section
/-!
SUPPORT. Every operation of Machine/Security.lean leaves the queue and keeps the tables in canonical form.
-/

set_option linter.unreachableTactic false
set_option linter.unusedTactic false
set_option linter.unusedVariables false

namespace Sys2Proof.Machine

theorem State.nonceDrop_kept {r₀ : State} (s : State) (h0 : Kept r₀ s) : Kept r₀ (State.nonceDrop s) := by
  unfold State.nonceDrop
  repeat' (first | with_reducible assumption | (intro t; first | (with_reducible refine Kept.cut t ?_ ?_; unfold t) | beta_reduce | skip) | with_reducible apply State.setR_kept | with_reducible apply Kept.ite | with_reducible apply Kept.fold | with_reducible apply Kept.fold2 | with_reducible apply Kept.fold1 | (lift_lets; intro t; first | (with_reducible refine Kept.cut t ?_ ?_; unfold t) | skip) | dsimp -zeta only | split | dsimp +zetaDelta only)

theorem execSgeNonceNew_kept {r₀ : State} (req : BitVec 16) (s : State) (h0 : Kept r₀ s) : KeptR r₀ (execSgeNonceNew req s) := by
  unfold execSgeNonceNew
  repeat' (first | with_reducible assumption | (intro t; first | (with_reducible refine Kept.cut t ?_ ?_; unfold t) | beta_reduce | skip) | with_reducible apply KeptR.next | with_reducible apply State.nonceDrop_kept | with_reducible apply State.respond_kept | with_reducible apply State.setR_kept | with_reducible apply State.modSage_kept | with_reducible apply Kept.ite | with_reducible apply KeptR.ite | with_reducible apply Kept.fold | with_reducible apply Kept.fold2 | with_reducible apply Kept.fold1 | (lift_lets; intro t; first | (with_reducible refine Kept.cut t ?_ ?_; unfold t) | skip) | dsimp -zeta only | split | dsimp +zetaDelta only)

theorem execSgeNonceReady_kept {r₀ : State} (s : State) (h0 : Kept r₀ s) : KeptR r₀ (execSgeNonceReady s) := by
  unfold execSgeNonceReady
  repeat' (first | with_reducible assumption | (intro t; first | (with_reducible refine Kept.cut t ?_ ?_; unfold t) | beta_reduce | skip) | with_reducible apply KeptR.next | with_reducible apply State.draw_kept | with_reducible apply State.setR_kept | with_reducible apply State.when_kept | with_reducible apply Kept.ite | with_reducible apply KeptR.ite | with_reducible apply Kept.fold | with_reducible apply Kept.fold2 | with_reducible apply Kept.fold1 | (lift_lets; intro t; first | (with_reducible refine Kept.cut t ?_ ?_; unfold t) | skip) | dsimp -zeta only | split | dsimp +zetaDelta only)

theorem State.showLive_kept {r₀ : State} (s : State) (h0 : Kept r₀ s) : Kept r₀ (State.showLive s) := by
  unfold State.showLive
  repeat' (first | with_reducible assumption | (intro t; first | (with_reducible refine Kept.cut t ?_ ?_; unfold t) | beta_reduce | skip) | with_reducible apply State.setR_kept | with_reducible apply Kept.ite | with_reducible apply Kept.fold | with_reducible apply Kept.fold2 | with_reducible apply Kept.fold1 | (lift_lets; intro t; first | (with_reducible refine Kept.cut t ?_ ?_; unfold t) | skip) | dsimp -zeta only | split | dsimp +zetaDelta only)

theorem State.sageSignal_kept {r₀ : State} (s : State) (h0 : Kept r₀ s) : Kept r₀ (State.sageSignal s) := by
  unfold State.sageSignal
  repeat' (first | with_reducible assumption | (intro t; first | (with_reducible refine Kept.cut t ?_ ?_; unfold t) | beta_reduce | skip) | with_reducible apply State.irqLevel_kept | with_reducible apply State.setR_kept | with_reducible apply Kept.ite | with_reducible apply Kept.fold | with_reducible apply Kept.fold2 | with_reducible apply Kept.fold1 | (lift_lets; intro t; first | (with_reducible refine Kept.cut t ?_ ?_; unfold t) | skip) | dsimp -zeta only | split | dsimp +zetaDelta only)

theorem State.sageStart_kept {r₀ : State} (s : State) (h0 : Kept r₀ s) : Kept r₀ (State.sageStart s) := by
  unfold State.sageStart
  repeat' (first | with_reducible assumption | (intro t; first | (with_reducible refine Kept.cut t ?_ ?_; unfold t) | beta_reduce | skip) | with_reducible apply State.setR_kept | with_reducible apply Kept.ite | with_reducible apply Kept.fold | with_reducible apply Kept.fold2 | with_reducible apply Kept.fold1 | (lift_lets; intro t; first | (with_reducible refine Kept.cut t ?_ ?_; unfold t) | skip) | dsimp -zeta only | split | dsimp +zetaDelta only)

theorem State.sageGo_kept {r₀ : State} (s : State) (op : Nat) (f : CmdFacts) (req : Nat) (h0 : Kept r₀ s) : KeptR r₀ (State.sageGo s op f req) := by
  unfold State.sageGo
  repeat' (first | with_reducible assumption | (intro t; first | (with_reducible refine Kept.cut t ?_ ?_; unfold t) | beta_reduce | skip) | with_reducible apply KeptR.next | with_reducible apply State.respond_kept | with_reducible apply State.setR_kept | with_reducible apply State.modSage_kept | with_reducible apply Kept.ite | with_reducible apply KeptR.ite | with_reducible apply Kept.fold | with_reducible apply Kept.fold2 | with_reducible apply Kept.fold1 | (lift_lets; intro t; first | (with_reducible refine Kept.cut t ?_ ?_; unfold t) | skip) | dsimp -zeta only | split | dsimp +zetaDelta only)

theorem execSgeGenkey_kept {r₀ : State} (f : CmdFacts) (req : BitVec 16) (s : State) (h0 : Kept r₀ s) : KeptR r₀ (execSgeGenkey f req s) := by
  unfold execSgeGenkey
  repeat' (first | with_reducible assumption | (intro t; first | (with_reducible refine Kept.cut t ?_ ?_; unfold t) | beta_reduce | skip) | with_reducible apply KeptR.next | with_reducible apply State.sageGo_kept | with_reducible apply Kept.ite | with_reducible apply KeptR.ite | with_reducible apply Kept.fold | with_reducible apply Kept.fold2 | with_reducible apply Kept.fold1 | (lift_lets; intro t; first | (with_reducible refine Kept.cut t ?_ ?_; unfold t) | skip) | dsimp -zeta only | split | dsimp +zetaDelta only)

theorem execSgeProvision_kept {r₀ : State} (f : CmdFacts) (req : BitVec 16) (s : State) (h0 : Kept r₀ s) : KeptR r₀ (execSgeProvision f req s) := by
  unfold execSgeProvision
  repeat' (first | with_reducible assumption | (intro t; first | (with_reducible refine Kept.cut t ?_ ?_; unfold t) | beta_reduce | skip) | with_reducible apply KeptR.next | with_reducible apply State.sageGo_kept | with_reducible apply Kept.ite | with_reducible apply KeptR.ite | with_reducible apply Kept.fold | with_reducible apply Kept.fold2 | with_reducible apply Kept.fold1 | (lift_lets; intro t; first | (with_reducible refine Kept.cut t ?_ ?_; unfold t) | skip) | dsimp -zeta only | split | dsimp +zetaDelta only)

theorem execSgeEnroll_kept {r₀ : State} (f : CmdFacts) (req : BitVec 16) (s : State) (h0 : Kept r₀ s) : KeptR r₀ (execSgeEnroll f req s) := by
  unfold execSgeEnroll
  repeat' (first | with_reducible assumption | (intro t; first | (with_reducible refine Kept.cut t ?_ ?_; unfold t) | beta_reduce | skip) | with_reducible apply KeptR.next | with_reducible apply State.sageGo_kept | with_reducible apply Kept.ite | with_reducible apply KeptR.ite | with_reducible apply Kept.fold | with_reducible apply Kept.fold2 | with_reducible apply Kept.fold1 | (lift_lets; intro t; first | (with_reducible refine Kept.cut t ?_ ?_; unfold t) | skip) | dsimp -zeta only | split | dsimp +zetaDelta only)

theorem execSgeAddSlot_kept {r₀ : State} (f : CmdFacts) (req : BitVec 16) (s : State) (h0 : Kept r₀ s) : KeptR r₀ (execSgeAddSlot f req s) := by
  unfold execSgeAddSlot
  repeat' (first | with_reducible assumption | (intro t; first | (with_reducible refine Kept.cut t ?_ ?_; unfold t) | beta_reduce | skip) | with_reducible apply KeptR.next | with_reducible apply State.sageGo_kept | with_reducible apply Kept.ite | with_reducible apply KeptR.ite | with_reducible apply Kept.fold | with_reducible apply Kept.fold2 | with_reducible apply Kept.fold1 | (lift_lets; intro t; first | (with_reducible refine Kept.cut t ?_ ?_; unfold t) | skip) | dsimp -zeta only | split | dsimp +zetaDelta only)

theorem execSgeRevoke_kept {r₀ : State} (f : CmdFacts) (req : BitVec 16) (s : State) (h0 : Kept r₀ s) : KeptR r₀ (execSgeRevoke f req s) := by
  unfold execSgeRevoke
  repeat' (first | with_reducible assumption | (intro t; first | (with_reducible refine Kept.cut t ?_ ?_; unfold t) | beta_reduce | skip) | with_reducible apply KeptR.next | with_reducible apply State.sageGo_kept | with_reducible apply Kept.ite | with_reducible apply KeptR.ite | with_reducible apply Kept.fold | with_reducible apply Kept.fold2 | with_reducible apply Kept.fold1 | (lift_lets; intro t; first | (with_reducible refine Kept.cut t ?_ ?_; unfold t) | skip) | dsimp -zeta only | split | dsimp +zetaDelta only)

theorem execSgeSetOsk_kept {r₀ : State} (f : CmdFacts) (req : BitVec 16) (s : State) (h0 : Kept r₀ s) : KeptR r₀ (execSgeSetOsk f req s) := by
  unfold execSgeSetOsk
  repeat' (first | with_reducible assumption | (intro t; first | (with_reducible refine Kept.cut t ?_ ?_; unfold t) | beta_reduce | skip) | with_reducible apply KeptR.next | with_reducible apply State.sageGo_kept | with_reducible apply Kept.ite | with_reducible apply KeptR.ite | with_reducible apply Kept.fold | with_reducible apply Kept.fold2 | with_reducible apply Kept.fold1 | (lift_lets; intro t; first | (with_reducible refine Kept.cut t ?_ ?_; unfold t) | skip) | dsimp -zeta only | split | dsimp +zetaDelta only)

theorem execSgeSetLegacy_kept {r₀ : State} (f : CmdFacts) (req : BitVec 16) (s : State) (h0 : Kept r₀ s) : KeptR r₀ (execSgeSetLegacy f req s) := by
  unfold execSgeSetLegacy
  repeat' (first | with_reducible assumption | (intro t; first | (with_reducible refine Kept.cut t ?_ ?_; unfold t) | beta_reduce | skip) | with_reducible apply KeptR.next | with_reducible apply State.sageGo_kept | with_reducible apply Kept.ite | with_reducible apply KeptR.ite | with_reducible apply Kept.fold | with_reducible apply Kept.fold2 | with_reducible apply Kept.fold1 | (lift_lets; intro t; first | (with_reducible refine Kept.cut t ?_ ?_; unfold t) | skip) | dsimp -zeta only | split | dsimp +zetaDelta only)

theorem execSgeRetire_kept {r₀ : State} (f : CmdFacts) (req : BitVec 16) (s : State) (h0 : Kept r₀ s) : KeptR r₀ (execSgeRetire f req s) := by
  unfold execSgeRetire
  repeat' (first | with_reducible assumption | (intro t; first | (with_reducible refine Kept.cut t ?_ ?_; unfold t) | beta_reduce | skip) | with_reducible apply KeptR.next | with_reducible apply State.sageGo_kept | with_reducible apply Kept.ite | with_reducible apply KeptR.ite | with_reducible apply Kept.fold | with_reducible apply Kept.fold2 | with_reducible apply Kept.fold1 | (lift_lets; intro t; first | (with_reducible refine Kept.cut t ?_ ?_; unfold t) | skip) | dsimp -zeta only | split | dsimp +zetaDelta only)

theorem State.lcsAdvance_kept {r₀ : State} (s : State) (op st : Nat) (h0 : Kept r₀ s) : Kept r₀ (State.lcsAdvance s op st) := by
  unfold State.lcsAdvance
  repeat' (first | with_reducible assumption | (intro t; first | (with_reducible refine Kept.cut t ?_ ?_; unfold t) | beta_reduce | skip) | with_reducible apply State.raise_kept | with_reducible apply State.setR_kept | with_reducible apply Kept.ite | with_reducible apply Kept.fold | with_reducible apply Kept.fold2 | with_reducible apply Kept.fold1 | (lift_lets; intro t; first | (with_reducible refine Kept.cut t ?_ ?_; unfold t) | skip) | dsimp -zeta only | split | dsimp +zetaDelta only)

theorem State.lcsBit_kept {r₀ : State} (s : State) (f : Field) (n : Nat) (h0 : Kept r₀ s) : Kept r₀ (State.lcsBit s f n) := by
  unfold State.lcsBit
  repeat' (first | with_reducible assumption | (intro t; first | (with_reducible refine Kept.cut t ?_ ?_; unfold t) | beta_reduce | skip) | with_reducible apply State.setR_kept | with_reducible apply Kept.ite | with_reducible apply Kept.fold | with_reducible apply Kept.fold2 | with_reducible apply Kept.fold1 | (lift_lets; intro t; first | (with_reducible refine Kept.cut t ?_ ?_; unfold t) | skip) | dsimp -zeta only | split | dsimp +zetaDelta only)

theorem State.sageErase_kept {r₀ : State} (s : State) (h0 : Kept r₀ s) : Kept r₀ (State.sageErase s) := by
  unfold State.sageErase
  repeat' (first | with_reducible assumption | (intro t; first | (with_reducible refine Kept.cut t ?_ ?_; unfold t) | beta_reduce | skip) | with_reducible apply State.setR_kept | with_reducible apply State.showLive_kept | with_reducible apply State.modSage_kept | with_reducible apply Kept.ite | with_reducible apply Kept.fold | with_reducible apply Kept.fold2 | with_reducible apply Kept.fold1 | (lift_lets; intro t; first | (with_reducible refine Kept.cut t ?_ ?_; unfold t) | skip) | dsimp -zeta only | split | dsimp +zetaDelta only)

theorem State.sageAnswer_kept {r : State} (s : State) (v : Nat) (h : Kept r s) : Kept r (s.sageAnswer v) := by
  unfold State.sageAnswer
  cases q : s.agentPut sageEp (s.getR Reg.SGE_RSP_ADDR_ADDR 0) 436 v with
  | none => exact State.sendWrite_kept _ _ _ _ _ _ _ _ _ h
  | some t => exact State.agentPut_kept h q

theorem State.cmdEffect_kept {r₀ : State} (s : State) (c : SageCmd) (h0 : Kept r₀ s) : Kept r₀ (State.cmdEffect s c) := by
  unfold State.cmdEffect
  repeat' (first | with_reducible assumption | (intro t; first | (with_reducible refine Kept.cut t ?_ ?_; unfold t) | beta_reduce | skip) | with_reducible apply State.lcsAdvance_kept | with_reducible apply State.lcsBit_kept | with_reducible apply State.raise_kept | with_reducible apply State.sageAnswer_kept | with_reducible apply State.sageErase_kept | with_reducible apply State.setR_kept | with_reducible apply State.showLive_kept | with_reducible apply State.modSage_kept | with_reducible apply Kept.ite | with_reducible apply Kept.fold | with_reducible apply Kept.fold2 | with_reducible apply Kept.fold1 | (lift_lets; intro t; first | (with_reducible refine Kept.cut t ?_ ?_; unfold t) | skip) | dsimp -zeta only | split | dsimp +zetaDelta only)

theorem State.cmdBroken_kept {r₀ : State} (s : State) (c : SageCmd) (run : FuseRun) (h0 : Kept r₀ s) : Kept r₀ (State.cmdBroken s c run) := by
  unfold State.cmdBroken
  repeat' (first | with_reducible assumption | (intro t; first | (with_reducible refine Kept.cut t ?_ ?_; unfold t) | beta_reduce | skip) | with_reducible apply State.lcsBit_kept | with_reducible apply State.setR_kept | with_reducible apply State.showLive_kept | with_reducible apply State.modSage_kept | with_reducible apply Kept.ite | with_reducible apply Kept.fold | with_reducible apply Kept.fold2 | with_reducible apply Kept.fold1 | (lift_lets; intro t; first | (with_reducible refine Kept.cut t ?_ ?_; unfold t) | skip) | dsimp -zeta only | split | dsimp +zetaDelta only)

theorem State.cmdEnd_kept {r₀ : State} (s : State) (c : SageCmd) (code : Nat) (h0 : Kept r₀ s) : Kept r₀ (State.cmdEnd s c code) := by
  unfold State.cmdEnd
  repeat' (first | with_reducible assumption | (intro t; first | (with_reducible refine Kept.cut t ?_ ?_; unfold t) | beta_reduce | skip) | with_reducible apply State.nonceDrop_kept | with_reducible apply State.raise_kept | with_reducible apply State.sageSignal_kept | with_reducible apply State.setR_kept | with_reducible apply State.modSage_kept | with_reducible apply Kept.ite | with_reducible apply Kept.fold | with_reducible apply Kept.fold2 | with_reducible apply Kept.fold1 | (lift_lets; intro t; first | (with_reducible refine Kept.cut t ?_ ?_; unfold t) | skip) | dsimp -zeta only | split | dsimp +zetaDelta only)

theorem execSgeVerifyDone_kept {r₀ : State} (run : FuseRun) (rspOk : Bool) (s : State) (h0 : Kept r₀ s) : KeptR r₀ (execSgeVerifyDone run rspOk s) := by
  unfold execSgeVerifyDone
  repeat' (first | with_reducible assumption | (intro t; first | (with_reducible refine Kept.cut t ?_ ?_; unfold t) | beta_reduce | skip) | with_reducible apply KeptR.next | with_reducible apply State.cmdBroken_kept | with_reducible apply State.cmdEffect_kept | with_reducible apply State.cmdEnd_kept | with_reducible apply State.keyMismatch_kept | with_reducible apply State.markCommit_kept | with_reducible apply State.modSage_kept | with_reducible apply Kept.ite | with_reducible apply KeptR.ite | with_reducible apply Kept.fold | with_reducible apply Kept.fold2 | with_reducible apply Kept.fold1 | (lift_lets; intro t; first | (with_reducible refine Kept.cut t ?_ ?_; unfold t) | skip) | dsimp -zeta only | split | dsimp +zetaDelta only)

theorem execSgeCmdAbort_kept {r₀ : State} (req : BitVec 16) (s : State) (h0 : Kept r₀ s) : KeptR r₀ (execSgeCmdAbort req s) := by
  unfold execSgeCmdAbort
  repeat' (first | with_reducible assumption | (intro t; first | (with_reducible refine Kept.cut t ?_ ?_; unfold t) | beta_reduce | skip) | with_reducible apply KeptR.next | with_reducible apply State.nonceDrop_kept | with_reducible apply State.respond_kept | with_reducible apply State.sageSignal_kept | with_reducible apply State.setR_kept | with_reducible apply State.modSage_kept | with_reducible apply Kept.ite | with_reducible apply KeptR.ite | with_reducible apply Kept.fold | with_reducible apply Kept.fold2 | with_reducible apply Kept.fold1 | (lift_lets; intro t; first | (with_reducible refine Kept.cut t ?_ ?_; unfold t) | skip) | dsimp -zeta only | split | dsimp +zetaDelta only)

theorem State.spdmAnswer_kept {r₀ : State} (s : State) (code value : Nat) (h0 : Kept r₀ s) : Kept r₀ (State.spdmAnswer s code value) := by
  unfold State.spdmAnswer
  repeat' (first | with_reducible assumption | (intro t; first | (with_reducible refine Kept.cut t ?_ ?_; unfold t) | beta_reduce | skip) | with_reducible apply State.respond_kept | with_reducible apply Kept.ite | with_reducible apply Kept.fold | with_reducible apply Kept.fold2 | with_reducible apply Kept.fold1 | (lift_lets; intro t; first | (with_reducible refine Kept.cut t ?_ ?_; unfold t) | skip) | dsimp -zeta only | split | dsimp +zetaDelta only)

theorem State.spdmError_kept {r₀ : State} (s : State) (err : Nat) (h0 : Kept r₀ s) : Kept r₀ (State.spdmError s err) := by
  unfold State.spdmError
  repeat' (first | with_reducible assumption | (intro t; first | (with_reducible refine Kept.cut t ?_ ?_; unfold t) | beta_reduce | skip) | with_reducible apply State.respond_kept | with_reducible apply Kept.ite | with_reducible apply Kept.fold | with_reducible apply Kept.fold2 | with_reducible apply Kept.fold1 | (lift_lets; intro t; first | (with_reducible refine Kept.cut t ?_ ?_; unfold t) | skip) | dsimp -zeta only | split | dsimp +zetaDelta only)

theorem State.spdmAt_kept {r₀ : State} (s : State) (n : Nat) (h0 : Kept r₀ s) : Kept r₀ (State.spdmAt s n) := by
  unfold State.spdmAt
  repeat' (first | with_reducible assumption | (intro t; first | (with_reducible refine Kept.cut t ?_ ?_; unfold t) | beta_reduce | skip) | with_reducible apply State.modSage_kept | with_reducible apply Kept.ite | with_reducible apply Kept.fold | with_reducible apply Kept.fold2 | with_reducible apply Kept.fold1 | (lift_lets; intro t; first | (with_reducible refine Kept.cut t ?_ ?_; unfold t) | skip) | dsimp -zeta only | split | dsimp +zetaDelta only)

theorem State.spdmReady_kept {r₀ : State} (s : State) (t : State) (h0 : Kept r₀ s) (h1 : Kept r₀ t) : KeptR r₀ (State.spdmReady s t) := by
  unfold State.spdmReady
  repeat' (first | with_reducible assumption | (intro t; first | (with_reducible refine Kept.cut t ?_ ?_; unfold t) | beta_reduce | skip) | with_reducible apply KeptR.next | with_reducible apply State.spdmError_kept | with_reducible apply Kept.ite | with_reducible apply KeptR.ite | with_reducible apply Kept.fold | with_reducible apply Kept.fold2 | with_reducible apply Kept.fold1 | (lift_lets; intro t; first | (with_reducible refine Kept.cut t ?_ ?_; unfold t) | skip) | dsimp -zeta only | split | dsimp +zetaDelta only)

theorem execDoeDiscovery_kept {r₀ : State} (index : BitVec 8) (s : State) (h0 : Kept r₀ s) : KeptR r₀ (execDoeDiscovery index s) := by
  unfold execDoeDiscovery
  repeat' (first | with_reducible assumption | (intro t; first | (with_reducible refine Kept.cut t ?_ ?_; unfold t) | beta_reduce | skip) | with_reducible apply KeptR.next | with_reducible apply State.respond_kept | with_reducible apply Kept.ite | with_reducible apply KeptR.ite | with_reducible apply Kept.fold | with_reducible apply Kept.fold2 | with_reducible apply Kept.fold1 | (lift_lets; intro t; first | (with_reducible refine Kept.cut t ?_ ?_; unfold t) | skip) | dsimp -zeta only | split | dsimp +zetaDelta only)

theorem execSpdmGetVersion_kept {r₀ : State} (s : State) (h0 : Kept r₀ s) : KeptR r₀ (execSpdmGetVersion s) := by
  unfold execSpdmGetVersion
  repeat' (first | with_reducible assumption | (intro t; first | (with_reducible refine Kept.cut t ?_ ?_; unfold t) | beta_reduce | skip) | with_reducible apply KeptR.next | with_reducible apply State.spdmAnswer_kept | with_reducible apply State.modSage_kept | with_reducible apply Kept.ite | with_reducible apply KeptR.ite | with_reducible apply Kept.fold | with_reducible apply Kept.fold2 | with_reducible apply Kept.fold1 | (lift_lets; intro t; first | (with_reducible refine Kept.cut t ?_ ?_; unfold t) | skip) | dsimp -zeta only | split | dsimp +zetaDelta only)

theorem execSpdmGetCapabilities_kept {r₀ : State} (s : State) (h0 : Kept r₀ s) : KeptR r₀ (execSpdmGetCapabilities s) := by
  unfold execSpdmGetCapabilities
  repeat' (first | with_reducible assumption | (intro t; first | (with_reducible refine Kept.cut t ?_ ?_; unfold t) | beta_reduce | skip) | with_reducible apply KeptR.next | with_reducible apply State.spdmAnswer_kept | with_reducible apply State.spdmAt_kept | with_reducible apply State.spdmError_kept | with_reducible apply Kept.ite | with_reducible apply KeptR.ite | with_reducible apply Kept.fold | with_reducible apply Kept.fold2 | with_reducible apply Kept.fold1 | (lift_lets; intro t; first | (with_reducible refine Kept.cut t ?_ ?_; unfold t) | skip) | dsimp -zeta only | split | dsimp +zetaDelta only)

theorem execSpdmNegotiateAlgorithms_kept {r₀ : State} (s : State) (h0 : Kept r₀ s) : KeptR r₀ (execSpdmNegotiateAlgorithms s) := by
  unfold execSpdmNegotiateAlgorithms
  repeat' (first | with_reducible assumption | (intro t; first | (with_reducible refine Kept.cut t ?_ ?_; unfold t) | beta_reduce | skip) | with_reducible apply KeptR.next | with_reducible apply State.spdmAnswer_kept | with_reducible apply State.spdmAt_kept | with_reducible apply State.spdmError_kept | with_reducible apply Kept.ite | with_reducible apply KeptR.ite | with_reducible apply Kept.fold | with_reducible apply Kept.fold2 | with_reducible apply Kept.fold1 | (lift_lets; intro t; first | (with_reducible refine Kept.cut t ?_ ?_; unfold t) | skip) | dsimp -zeta only | split | dsimp +zetaDelta only)

theorem execSpdmGetDigests_kept {r₀ : State} (s : State) (h0 : Kept r₀ s) : KeptR r₀ (execSpdmGetDigests s) := by
  unfold execSpdmGetDigests
  repeat' (first | with_reducible assumption | (intro t; first | (with_reducible refine Kept.cut t ?_ ?_; unfold t) | beta_reduce | skip) | with_reducible apply KeptR.next | with_reducible apply State.spdmAnswer_kept | with_reducible apply State.spdmReady_kept | with_reducible apply Kept.ite | with_reducible apply KeptR.ite | with_reducible apply Kept.fold | with_reducible apply Kept.fold2 | with_reducible apply Kept.fold1 | (lift_lets; intro t; first | (with_reducible refine Kept.cut t ?_ ?_; unfold t) | skip) | dsimp -zeta only | split | dsimp +zetaDelta only)

theorem execSpdmGetCertificate_kept {r₀ : State} (slot : BitVec 4) (s : State) (h0 : Kept r₀ s) : KeptR r₀ (execSpdmGetCertificate slot s) := by
  unfold execSpdmGetCertificate
  repeat' (first | with_reducible assumption | (intro t; first | (with_reducible refine Kept.cut t ?_ ?_; unfold t) | beta_reduce | skip) | with_reducible apply KeptR.next | with_reducible apply State.spdmAnswer_kept | with_reducible apply State.spdmError_kept | with_reducible apply State.spdmReady_kept | with_reducible apply Kept.ite | with_reducible apply KeptR.ite | with_reducible apply Kept.fold | with_reducible apply Kept.fold2 | with_reducible apply Kept.fold1 | (lift_lets; intro t; first | (with_reducible refine Kept.cut t ?_ ?_; unfold t) | skip) | dsimp -zeta only | split | dsimp +zetaDelta only)

theorem State.spdmKeep_kept {r₀ : State} (s : State) (h0 : Kept r₀ s) : Kept r₀ (State.spdmKeep s) := by
  unfold State.spdmKeep
  repeat' (first | with_reducible assumption | (intro t; first | (with_reducible refine Kept.cut t ?_ ?_; unfold t) | beta_reduce | skip) | with_reducible apply State.modSage_kept | with_reducible apply Kept.ite | with_reducible apply Kept.fold | with_reducible apply Kept.fold2 | with_reducible apply Kept.fold1 | (lift_lets; intro t; first | (with_reducible refine Kept.cut t ?_ ?_; unfold t) | skip) | dsimp -zeta only | split | dsimp +zetaDelta only)

theorem execSpdmChallenge_kept {r₀ : State} (slot : BitVec 4) (s : State) (h0 : Kept r₀ s) : KeptR r₀ (execSpdmChallenge slot s) := by
  unfold execSpdmChallenge
  repeat' (first | with_reducible assumption | (intro t; first | (with_reducible refine Kept.cut t ?_ ?_; unfold t) | beta_reduce | skip) | with_reducible apply KeptR.next | with_reducible apply State.spdmAnswer_kept | with_reducible apply State.spdmError_kept | with_reducible apply State.spdmKeep_kept | with_reducible apply State.spdmReady_kept | with_reducible apply Kept.ite | with_reducible apply KeptR.ite | with_reducible apply Kept.fold | with_reducible apply Kept.fold2 | with_reducible apply Kept.fold1 | (lift_lets; intro t; first | (with_reducible refine Kept.cut t ?_ ?_; unfold t) | skip) | dsimp -zeta only | split | dsimp +zetaDelta only)

theorem execSpdmGetMeasurements_kept {r₀ : State} (index : BitVec 8) (signed : Bool) (s : State) (h0 : Kept r₀ s) : KeptR r₀ (execSpdmGetMeasurements index signed s) := by
  unfold execSpdmGetMeasurements
  repeat' (first | with_reducible assumption | (intro t; first | (with_reducible refine Kept.cut t ?_ ?_; unfold t) | beta_reduce | skip) | with_reducible apply KeptR.next | with_reducible apply State.spdmAnswer_kept | with_reducible apply State.spdmError_kept | with_reducible apply State.spdmKeep_kept | with_reducible apply State.spdmReady_kept | with_reducible apply Kept.ite | with_reducible apply KeptR.ite | with_reducible apply Kept.fold | with_reducible apply Kept.fold2 | with_reducible apply Kept.fold1 | (lift_lets; intro t; first | (with_reducible refine Kept.cut t ?_ ?_; unfold t) | skip) | dsimp -zeta only | split | dsimp +zetaDelta only)

theorem execSpdmChunkSend_kept {r₀ : State} (handle : BitVec 8) (seq : BitVec 16) (last : Bool) (s : State) (h0 : Kept r₀ s) : KeptR r₀ (execSpdmChunkSend handle seq last s) := by
  unfold execSpdmChunkSend
  repeat' (first | with_reducible assumption | (intro t; first | (with_reducible refine Kept.cut t ?_ ?_; unfold t) | beta_reduce | skip) | with_reducible apply KeptR.next | with_reducible apply State.spdmAnswer_kept | with_reducible apply State.spdmError_kept | with_reducible apply State.spdmReady_kept | with_reducible apply State.modSage_kept | with_reducible apply Kept.ite | with_reducible apply KeptR.ite | with_reducible apply Kept.fold | with_reducible apply Kept.fold2 | with_reducible apply Kept.fold1 | (lift_lets; intro t; first | (with_reducible refine Kept.cut t ?_ ?_; unfold t) | skip) | dsimp -zeta only | split | dsimp +zetaDelta only)

theorem execSpdmChunkGet_kept {r₀ : State} (handle : BitVec 8) (seq : BitVec 16) (last : Bool) (s : State) (h0 : Kept r₀ s) : KeptR r₀ (execSpdmChunkGet handle seq last s) := by
  unfold execSpdmChunkGet
  repeat' (first | with_reducible assumption | (intro t; first | (with_reducible refine Kept.cut t ?_ ?_; unfold t) | beta_reduce | skip) | with_reducible apply KeptR.next | with_reducible apply State.spdmAnswer_kept | with_reducible apply State.spdmError_kept | with_reducible apply State.spdmReady_kept | with_reducible apply State.modSage_kept | with_reducible apply Kept.ite | with_reducible apply KeptR.ite | with_reducible apply Kept.fold | with_reducible apply Kept.fold2 | with_reducible apply Kept.fold1 | (lift_lets; intro t; first | (with_reducible refine Kept.cut t ?_ ?_; unfold t) | skip) | dsimp -zeta only | split | dsimp +zetaDelta only)

theorem execSpdmUnsupportedRequest_kept {r₀ : State} (_code : BitVec 8) (s : State) (h0 : Kept r₀ s) : KeptR r₀ (execSpdmUnsupportedRequest _code s) := by
  unfold execSpdmUnsupportedRequest
  repeat' (first | with_reducible assumption | (intro t; first | (with_reducible refine Kept.cut t ?_ ?_; unfold t) | beta_reduce | skip) | with_reducible apply KeptR.next | with_reducible apply State.spdmError_kept | with_reducible apply Kept.ite | with_reducible apply KeptR.ite | with_reducible apply Kept.fold | with_reducible apply Kept.fold2 | with_reducible apply Kept.fold1 | (lift_lets; intro t; first | (with_reducible refine Kept.cut t ?_ ?_; unfold t) | skip) | dsimp -zeta only | split | dsimp +zetaDelta only)

theorem State.spdmLargeAnswer_kept {r₀ : State} (s : State) (h0 : Kept r₀ s) : Kept r₀ (State.spdmLargeAnswer s) := by
  unfold State.spdmLargeAnswer
  repeat' (first | with_reducible assumption | (intro t; first | (with_reducible refine Kept.cut t ?_ ?_; unfold t) | beta_reduce | skip) | with_reducible apply State.respond_kept | with_reducible apply State.modSage_kept | with_reducible apply Kept.ite | with_reducible apply Kept.fold | with_reducible apply Kept.fold2 | with_reducible apply Kept.fold1 | (lift_lets; intro t; first | (with_reducible refine Kept.cut t ?_ ?_; unfold t) | skip) | dsimp -zeta only | split | dsimp +zetaDelta only)

theorem execSpdmGetPqCert_kept {r₀ : State} (s : State) (h0 : Kept r₀ s) : KeptR r₀ (execSpdmGetPqCert s) := by
  unfold execSpdmGetPqCert
  repeat' (first | with_reducible assumption | (intro t; first | (with_reducible refine Kept.cut t ?_ ?_; unfold t) | beta_reduce | skip) | with_reducible apply KeptR.next | with_reducible apply State.spdmError_kept | with_reducible apply State.spdmLargeAnswer_kept | with_reducible apply State.spdmReady_kept | with_reducible apply Kept.ite | with_reducible apply KeptR.ite | with_reducible apply Kept.fold | with_reducible apply Kept.fold2 | with_reducible apply Kept.fold1 | (lift_lets; intro t; first | (with_reducible refine Kept.cut t ?_ ?_; unfold t) | skip) | dsimp -zeta only | split | dsimp +zetaDelta only)

theorem execSpdmGetPqSig_kept {r₀ : State} (s : State) (h0 : Kept r₀ s) : KeptR r₀ (execSpdmGetPqSig s) := by
  unfold execSpdmGetPqSig
  repeat' (first | with_reducible assumption | (intro t; first | (with_reducible refine Kept.cut t ?_ ?_; unfold t) | beta_reduce | skip) | with_reducible apply KeptR.next | with_reducible apply State.spdmError_kept | with_reducible apply State.spdmLargeAnswer_kept | with_reducible apply State.spdmReady_kept | with_reducible apply Kept.ite | with_reducible apply KeptR.ite | with_reducible apply Kept.fold | with_reducible apply Kept.fold2 | with_reducible apply Kept.fold1 | (lift_lets; intro t; first | (with_reducible refine Kept.cut t ?_ ?_; unfold t) | skip) | dsimp -zeta only | split | dsimp +zetaDelta only)

end Sys2Proof.Machine
end

