-- ==== Sys2Proof/Laws/Kept/BusWrite.lean ====
section
/-!
SUPPORT. Every operation of Machine/BusWrite.lean leaves the queue and keeps the tables in canonical form.
-/

set_option linter.unreachableTactic false
set_option linter.unusedTactic false
set_option linter.unusedVariables false

namespace Sys2Proof.Machine

theorem State.putSlot_kept {r : State} (put : State → Field → Nat → Nat → State) (s : State) (v : Nat) (x : Slot)
    (hp : ∀ u f i w, Kept r u → Kept r (put u f i w)) (h : Kept r s) : Kept r (s.putSlot put v x) := by
  unfold State.putSlot
  dsimp only
  split
  · exact hp _ _ _ _ h
  · exact hp _ _ _ _ h
  · exact State.setR_kept _ _ _ _ h
  · exact State.setR_kept _ _ _ _ h
  · exact h

theorem State.putRegBy_kept {r : State} (put : State → Field → Nat → Nat → State) (ok : Field → Bool) (s : State) (b : Blk) (page o v : Nat)
    (hp : ∀ u f i w, Kept r u → Kept r (put u f i w)) (h : Kept r s) : Kept r (s.putRegBy put ok b page o v) :=
  Kept.fold (fun u x hu => by
    split
    · exact State.putSlot_kept put _ _ _ hp hu
    · exact hu) h

theorem State.putReg_kept {r : State} (s : State) (b : Blk) (page o v : Nat) (h : Kept r s) : Kept r (s.putReg b page o v) :=
  State.putRegBy_kept _ _ _ _ _ _ _ (fun u f i w hu => State.setR_kept u f i w hu) h

theorem State.putClears_kept {r₀ : State} (s : State) (b : Blk) (page o v : Nat) (h0 : Kept r₀ s) : Kept r₀ (State.putClears s b page o v) := by
  unfold State.putClears
  repeat' (first | with_reducible assumption | (intro t; first | (with_reducible refine Kept.cut t ?_ ?_; unfold t) | beta_reduce | skip) | with_reducible apply State.putRegBy_kept | with_reducible apply State.setR_kept | with_reducible apply Kept.ite | with_reducible apply Kept.fold | with_reducible apply Kept.fold2 | with_reducible apply Kept.fold1 | (lift_lets; intro t; first | (with_reducible refine Kept.cut t ?_ ?_; unfold t) | skip) | dsimp -zeta only | split | dsimp +zetaDelta only)

theorem State.putBut_kept {r₀ : State} (s : State) (fs : List Field) (b : Blk) (page o v : Nat) (h0 : Kept r₀ s) : Kept r₀ (State.putBut s fs b page o v) := by
  unfold State.putBut
  repeat' (first | with_reducible assumption | (intro t; first | (with_reducible refine Kept.cut t ?_ ?_; unfold t) | beta_reduce | skip) | with_reducible apply State.putRegBy_kept | with_reducible apply State.setR_kept | with_reducible apply Kept.ite | with_reducible apply Kept.fold | with_reducible apply Kept.fold2 | with_reducible apply Kept.fold1 | (lift_lets; intro t; first | (with_reducible refine Kept.cut t ?_ ?_; unfold t) | skip) | dsimp -zeta only | split | dsimp +zetaDelta only)

theorem State.act_kept {r : State} (s : State) (go : Bool) (f : State → Result) (h : Kept r s) (hf : KeptR r (f s)) : Kept r (s.act go f) := by
  unfold State.act
  split
  · exact took_kept _ _ h hf
  · exact h

theorem State.hook_kept {r₀ : State} (s : State) (code req v : Nat) (h0 : Kept r₀ s) : Kept r₀ (State.hook s code req v) := by
  unfold State.hook
  repeat' (first | with_reducible assumption | (intro t; first | (with_reducible refine Kept.cut t ?_ ?_; unfold t) | beta_reduce | skip) | with_reducible apply State.setR_kept | with_reducible apply Kept.ite | with_reducible apply Kept.fold | with_reducible apply Kept.fold2 | with_reducible apply Kept.fold1 | (lift_lets; intro t; first | (with_reducible refine Kept.cut t ?_ ?_; unfold t) | skip) | dsimp -zeta only | split | dsimp +zetaDelta only)

theorem State.noHook_kept {r₀ : State} (s : State) (h0 : Kept r₀ s) : Kept r₀ (State.noHook s) := by
  unfold State.noHook
  repeat' (first | with_reducible assumption | (intro t; first | (with_reducible refine Kept.cut t ?_ ?_; unfold t) | beta_reduce | skip) | with_reducible apply State.resetFields_kept | with_reducible apply Kept.ite | with_reducible apply Kept.fold | with_reducible apply Kept.fold2 | with_reducible apply Kept.fold1 | (lift_lets; intro t; first | (with_reducible refine Kept.cut t ?_ ?_; unfold t) | skip) | dsimp -zeta only | split | dsimp +zetaDelta only)

theorem State.denied_kept {r₀ : State} (s : State) (h0 : Kept r₀ s) : Kept r₀ (State.denied s) := by
  unfold State.denied
  repeat' (first | with_reducible assumption | (intro t; first | (with_reducible refine Kept.cut t ?_ ?_; unfold t) | beta_reduce | skip) | with_reducible apply State.respond_kept | with_reducible apply Kept.ite | with_reducible apply Kept.fold | with_reducible apply Kept.fold2 | with_reducible apply Kept.fold1 | (lift_lets; intro t; first | (with_reducible refine Kept.cut t ?_ ?_; unfold t) | skip) | dsimp -zeta only | split | dsimp +zetaDelta only)

theorem State.writeDev_kept {r₀ : State} (s : State) (o v req : Nat) (h0 : Kept r₀ s) : Kept r₀ (State.writeDev s o v req) := by
  unfold State.writeDev
  repeat' (first | with_reducible assumption | (intro t; first | (with_reducible refine Kept.cut t ?_ ?_; unfold t) | beta_reduce | skip) | with_reducible apply State.act_kept | with_reducible apply State.hook_kept | with_reducible apply State.putReg_kept | with_reducible apply State.ringConfig_kept | with_reducible apply State.setR_kept | with_reducible apply execEventRingOvfClear_kept | with_reducible apply execEventRingRpWrite_kept | with_reducible apply execSysidWrite_kept | with_reducible apply took_kept | with_reducible apply Kept.ite | with_reducible apply Kept.fold | with_reducible apply Kept.fold2 | with_reducible apply Kept.fold1 | (lift_lets; intro t; first | (with_reducible refine Kept.cut t ?_ ?_; unfold t) | skip) | dsimp -zeta only | split | dsimp +zetaDelta only)

theorem State.writeTbs_kept {r₀ : State} (s : State) (o v : Nat) (h0 : Kept r₀ s) : Kept r₀ (State.writeTbs s o v) := by
  unfold State.writeTbs
  repeat' (first | with_reducible assumption | (intro t; first | (with_reducible refine Kept.cut t ?_ ?_; unfold t) | beta_reduce | skip) | with_reducible apply State.act_kept | with_reducible apply State.putBut_kept | with_reducible apply State.putReg_kept | with_reducible apply execPwclkSourceWrite_kept | with_reducible apply execRoleWrite_kept | with_reducible apply execSetTime_kept | with_reducible apply execStepNow_kept | with_reducible apply took_kept | with_reducible apply Kept.ite | with_reducible apply Kept.fold | with_reducible apply Kept.fold2 | with_reducible apply Kept.fold1 | (lift_lets; intro t; first | (with_reducible refine Kept.cut t ?_ ?_; unfold t) | skip) | dsimp -zeta only | split | dsimp +zetaDelta only)

theorem State.writeDwn_kept {r₀ : State} (s : State) (o v req : Nat) (h0 : Kept r₀ s) : Kept r₀ (State.writeDwn s o v req) := by
  unfold State.writeDwn
  repeat' (first | with_reducible assumption | (intro t; first | (with_reducible refine Kept.cut t ?_ ?_; unfold t) | beta_reduce | skip) | with_reducible apply State.denied_kept | with_reducible apply State.hook_kept | with_reducible apply State.putReg_kept | with_reducible apply State.setR_kept | with_reducible apply Kept.ite | with_reducible apply Kept.fold | with_reducible apply Kept.fold2 | with_reducible apply Kept.fold1 | (lift_lets; intro t; first | (with_reducible refine Kept.cut t ?_ ?_; unfold t) | skip) | dsimp -zeta only | split | dsimp +zetaDelta only)

theorem State.writeSge_kept {r₀ : State} (s : State) (o v req : Nat) (h0 : Kept r₀ s) : Kept r₀ (State.writeSge s o v req) := by
  unfold State.writeSge
  repeat' (first | with_reducible assumption | (intro t; first | (with_reducible refine Kept.cut t ?_ ?_; unfold t) | beta_reduce | skip) | with_reducible apply KeptR.next | with_reducible apply State.act_kept | with_reducible apply State.denied_kept | with_reducible apply State.putReg_kept | with_reducible apply State.sageStart_kept | with_reducible apply execSgeCmdAbort_kept | with_reducible apply execSgeNonceNew_kept | with_reducible apply Kept.ite | with_reducible apply Kept.fold | with_reducible apply Kept.fold2 | with_reducible apply Kept.fold1 | (lift_lets; intro t; first | (with_reducible refine Kept.cut t ?_ ?_; unfold t) | skip) | dsimp -zeta only | split | dsimp +zetaDelta only)

theorem State.writeDsk_kept {r₀ : State} (s : State) (o v req : Nat) (h0 : Kept r₀ s) : Kept r₀ (State.writeDsk s o v req) := by
  unfold State.writeDsk
  repeat' (first | with_reducible assumption | (intro t; first | (with_reducible refine Kept.cut t ?_ ?_; unfold t) | beta_reduce | skip) | with_reducible apply State.act_kept | with_reducible apply State.alerts_kept | with_reducible apply State.denied_kept | with_reducible apply State.putReg_kept | with_reducible apply State.setR_kept | with_reducible apply execDskForceKey_kept | with_reducible apply execDskForceLift_kept | with_reducible apply execDskForceSet_kept | with_reducible apply execDskPwrAbort_kept | with_reducible apply execDskPwrOff_kept | with_reducible apply execDskPwrOn_kept | with_reducible apply execThermStopClear_kept | with_reducible apply took_kept | with_reducible apply Kept.ite | with_reducible apply Kept.fold | with_reducible apply Kept.fold2 | with_reducible apply Kept.fold1 | (lift_lets; intro t; first | (with_reducible refine Kept.cut t ?_ ?_; unfold t) | skip) | dsimp -zeta only | split | dsimp +zetaDelta only)

theorem State.writeSvp_kept {r₀ : State} (s : State) (o v req : Nat) (h0 : Kept r₀ s) : Kept r₀ (State.writeSvp s o v req) := by
  unfold State.writeSvp
  repeat' (first | with_reducible assumption | (intro t; first | (with_reducible refine Kept.cut t ?_ ?_; unfold t) | beta_reduce | skip) | with_reducible apply State.denied_kept | with_reducible apply State.putReg_kept | with_reducible apply execSvpLockKey_kept | with_reducible apply execSvpLockSet_kept | with_reducible apply execSvpOutWrite_kept | with_reducible apply execSvpPinCfgWrite_kept | with_reducible apply took_kept | with_reducible apply Kept.ite | with_reducible apply Kept.fold | with_reducible apply Kept.fold2 | with_reducible apply Kept.fold1 | (lift_lets; intro t; first | (with_reducible refine Kept.cut t ?_ ?_; unfold t) | skip) | dsimp -zeta only | split | dsimp +zetaDelta only)

theorem State.writeWdtCfg_kept {r₀ : State} (s : State) (w v : Nat) (h0 : Kept r₀ s) : Kept r₀ (State.writeWdtCfg s w v) := by
  unfold State.writeWdtCfg
  repeat' (first | with_reducible assumption | (intro t; first | (with_reducible refine Kept.cut t ?_ ?_; unfold t) | beta_reduce | skip) | with_reducible apply State.putCount_kept | with_reducible apply State.setR_kept | with_reducible apply State.wdtEval_kept | with_reducible apply Kept.ite | with_reducible apply Kept.fold | with_reducible apply Kept.fold2 | with_reducible apply Kept.fold1 | (lift_lets; intro t; first | (with_reducible refine Kept.cut t ?_ ?_; unfold t) | skip) | dsimp -zeta only | split | dsimp +zetaDelta only)

theorem State.writeCore_kept {r₀ : State} (s : State) (w o v req : Nat) (h0 : Kept r₀ s) : Kept r₀ (State.writeCore s w o v req) := by
  unfold State.writeCore
  repeat' (first | with_reducible assumption | (intro t; first | (with_reducible refine Kept.cut t ?_ ?_; unfold t) | beta_reduce | skip) | with_reducible apply State.act_kept | with_reducible apply State.denied_kept | with_reducible apply State.putReg_kept | with_reducible apply State.unfreeze_kept | with_reducible apply State.writeWdtCfg_kept | with_reducible apply execHartResetCmd_kept | with_reducible apply execWdtKick_kept | with_reducible apply took_kept | with_reducible apply Kept.ite | with_reducible apply Kept.fold | with_reducible apply Kept.fold2 | with_reducible apply Kept.fold1 | (lift_lets; intro t; first | (with_reducible refine Kept.cut t ?_ ?_; unfold t) | skip) | dsimp -zeta only | split | dsimp +zetaDelta only)

theorem State.writePatch_kept {r₀ : State} (s : State) (dusk : Bool) (o v req : Nat) (h0 : Kept r₀ s) : Kept r₀ (State.writePatch s dusk o v req) := by
  unfold State.writePatch
  repeat' (first | with_reducible assumption | (intro t; first | (with_reducible refine Kept.cut t ?_ ?_; unfold t) | beta_reduce | skip) | with_reducible apply State.denied_kept | with_reducible apply State.putReg_kept | with_reducible apply execPatchEnWrite_kept | with_reducible apply execPatchKeyWrite_kept | with_reducible apply took_kept | with_reducible apply Kept.ite | with_reducible apply Kept.fold | with_reducible apply Kept.fold2 | with_reducible apply Kept.fold1 | (lift_lets; intro t; first | (with_reducible refine Kept.cut t ?_ ?_; unfold t) | skip) | dsimp -zeta only | split | dsimp +zetaDelta only)

theorem State.writePatchRam_kept {r₀ : State} (s : State) (dusk : Bool) (o v req : Nat) (h0 : Kept r₀ s) : Kept r₀ (State.writePatchRam s dusk o v req) := by
  unfold State.writePatchRam
  repeat' (first | with_reducible assumption | (intro t; first | (with_reducible refine Kept.cut t ?_ ?_; unfold t) | beta_reduce | skip) | with_reducible apply State.denied_kept | with_reducible apply State.putReg_kept | with_reducible apply Kept.ite | with_reducible apply Kept.fold | with_reducible apply Kept.fold2 | with_reducible apply Kept.fold1 | (lift_lets; intro t; first | (with_reducible refine Kept.cut t ?_ ?_; unfold t) | skip) | dsimp -zeta only | split | dsimp +zetaDelta only)

theorem State.writeDbg_kept {r₀ : State} (s : State) (o v req : Nat) (h0 : Kept r₀ s) : Kept r₀ (State.writeDbg s o v req) := by
  unfold State.writeDbg
  repeat' (first | with_reducible assumption | (intro t; first | (with_reducible refine Kept.cut t ?_ ?_; unfold t) | beta_reduce | skip) | with_reducible apply State.denied_kept | with_reducible apply State.mtip_kept | with_reducible apply State.putReg_kept | with_reducible apply State.writeCore_kept | with_reducible apply State.writePatch_kept | with_reducible apply State.writePatchRam_kept | with_reducible apply execPlicComplete_kept | with_reducible apply took_kept | with_reducible apply Kept.ite | with_reducible apply Kept.fold | with_reducible apply Kept.fold2 | with_reducible apply Kept.fold1 | (lift_lets; intro t; first | (with_reducible refine Kept.cut t ?_ ?_; unfold t) | skip) | dsimp -zeta only | split | dsimp +zetaDelta only)

theorem State.writeDma_kept {r₀ : State} (s : State) (o v req : Nat) (h0 : Kept r₀ s) : Kept r₀ (State.writeDma s o v req) := by
  unfold State.writeDma
  repeat' (first | with_reducible assumption | (intro t; first | (with_reducible refine Kept.cut t ?_ ?_; unfold t) | beta_reduce | skip) | with_reducible apply State.act_kept | with_reducible apply State.putReg_kept | with_reducible apply execPcieDmaStart_kept | with_reducible apply execPcieDmaStop_kept | with_reducible apply Kept.ite | with_reducible apply Kept.fold | with_reducible apply Kept.fold2 | with_reducible apply Kept.fold1 | (lift_lets; intro t; first | (with_reducible refine Kept.cut t ?_ ?_; unfold t) | skip) | dsimp -zeta only | split | dsimp +zetaDelta only)

theorem State.writePci_kept {r₀ : State} (s : State) (o v req : Nat) (h0 : Kept r₀ s) : Kept r₀ (State.writePci s o v req) := by
  unfold State.writePci
  repeat' (first | with_reducible assumption | (intro t; first | (with_reducible refine Kept.cut t ?_ ?_; unfold t) | beta_reduce | skip) | with_reducible apply State.act_kept | with_reducible apply State.denied_kept | with_reducible apply State.hook_kept | with_reducible apply State.pcieLines_kept | with_reducible apply State.putClears_kept | with_reducible apply State.putReg_kept | with_reducible apply State.writeDma_kept | with_reducible apply execMbxD2hLenWrite_kept | with_reducible apply execMbxH2dLenWrite_kept | with_reducible apply execPcieMsixTrigger_kept | with_reducible apply took_kept | with_reducible apply Kept.ite | with_reducible apply Kept.fold | with_reducible apply Kept.fold2 | with_reducible apply Kept.fold1 | (lift_lets; intro t; first | (with_reducible refine Kept.cut t ?_ ?_; unfold t) | skip) | dsimp -zeta only | split | dsimp +zetaDelta only)

theorem State.writeThyCmd_kept {r₀ : State} (s : State) (m v : Nat) (h0 : Kept r₀ s) : Kept r₀ (State.writeThyCmd s m v) := by
  unfold State.writeThyCmd
  repeat' (first | with_reducible assumption | (intro t; first | (with_reducible refine Kept.cut t ?_ ?_; unfold t) | beta_reduce | skip) | with_reducible apply State.act_kept | with_reducible apply execThyAbort_kept | with_reducible apply execThyAdmit_kept | with_reducible apply execThyReadmit_kept | with_reducible apply execThyResume_kept | with_reducible apply execThySuspend_kept | with_reducible apply execThyTeardown_kept | with_reducible apply took_kept | with_reducible apply Kept.ite | with_reducible apply Kept.fold | with_reducible apply Kept.fold2 | with_reducible apply Kept.fold1 | (lift_lets; intro t; first | (with_reducible refine Kept.cut t ?_ ?_; unfold t) | skip) | dsimp -zeta only | split | dsimp +zetaDelta only)

theorem State.writeThy_kept {r₀ : State} (s : State) (o v : Nat) (h0 : Kept r₀ s) : Kept r₀ (State.writeThy s o v) := by
  unfold State.writeThy
  repeat' (first | with_reducible assumption | (intro t; first | (with_reducible refine Kept.cut t ?_ ?_; unfold t) | beta_reduce | skip) | with_reducible apply State.putReg_kept | with_reducible apply State.writeThyCmd_kept | with_reducible apply execDclStreamEntryWrite_kept | with_reducible apply took_kept | with_reducible apply Kept.ite | with_reducible apply Kept.fold | with_reducible apply Kept.fold2 | with_reducible apply Kept.fold1 | (lift_lets; intro t; first | (with_reducible refine Kept.cut t ?_ ?_; unfold t) | skip) | dsimp -zeta only | split | dsimp +zetaDelta only)

theorem State.writeRgn_kept {r₀ : State} (s : State) (rg o v : Nat) (h0 : Kept r₀ s) : Kept r₀ (State.writeRgn s rg o v) := by
  unfold State.writeRgn
  repeat' (first | with_reducible assumption | (intro t; first | (with_reducible refine Kept.cut t ?_ ?_; unfold t) | beta_reduce | skip) | with_reducible apply State.isoAbort_kept | with_reducible apply State.isoExit_kept | with_reducible apply State.isoReq_kept | with_reducible apply State.putReg_kept | with_reducible apply State.setR_kept | with_reducible apply execRegionClkSelWrite_kept | with_reducible apply took_kept | with_reducible apply Kept.ite | with_reducible apply Kept.fold | with_reducible apply Kept.fold2 | with_reducible apply Kept.fold1 | (lift_lets; intro t; first | (with_reducible refine Kept.cut t ?_ ?_; unfold t) | skip) | dsimp -zeta only | split | dsimp +zetaDelta only)

theorem State.writeCg_kept {r₀ : State} (s : State) (fd o v : Nat) (h0 : Kept r₀ s) : Kept r₀ (State.writeCg s fd o v) := by
  unfold State.writeCg
  repeat' (first | with_reducible assumption | (intro t; first | (with_reducible refine Kept.cut t ?_ ?_; unfold t) | beta_reduce | skip) | with_reducible apply State.act_kept | with_reducible apply State.putBut_kept | with_reducible apply State.putReg_kept | with_reducible apply execFabCgAbort_kept | with_reducible apply execFabCgApply_kept | with_reducible apply execFabCgDisable_kept | with_reducible apply execFabCgEnable_kept | with_reducible apply took_kept | with_reducible apply Kept.ite | with_reducible apply Kept.fold | with_reducible apply Kept.fold2 | with_reducible apply Kept.fold1 | (lift_lets; intro t; first | (with_reducible refine Kept.cut t ?_ ?_; unfold t) | skip) | dsimp -zeta only | split | dsimp +zetaDelta only)

theorem State.writeRo_kept {r₀ : State} (s : State) (fd o v : Nat) (h0 : Kept r₀ s) : Kept r₀ (State.writeRo s fd o v) := by
  unfold State.writeRo
  repeat' (first | with_reducible assumption | (intro t; first | (with_reducible refine Kept.cut t ?_ ?_; unfold t) | beta_reduce | skip) | with_reducible apply State.act_kept | with_reducible apply State.putReg_kept | with_reducible apply State.roBring_kept | with_reducible apply State.roEnable_kept | with_reducible apply State.setR_kept | with_reducible apply execFabRoAbort_kept | with_reducible apply execFabRoFreqWrite_kept | with_reducible apply execFabRoTrim_kept | with_reducible apply took_kept | with_reducible apply Kept.ite | with_reducible apply Kept.fold | with_reducible apply Kept.fold2 | with_reducible apply Kept.fold1 | (lift_lets; intro t; first | (with_reducible refine Kept.cut t ?_ ?_; unfold t) | skip) | dsimp -zeta only | split | dsimp +zetaDelta only)

theorem State.writeNvmc_kept {r₀ : State} (s : State) (fd o v req : Nat) (h0 : Kept r₀ s) : Kept r₀ (State.writeNvmc s fd o v req) := by
  unfold State.writeNvmc
  repeat' (first | with_reducible assumption | (intro t; first | (with_reducible refine Kept.cut t ?_ ?_; unfold t) | beta_reduce | skip) | with_reducible apply State.putReg_kept | with_reducible apply execNvmLockKey_kept | with_reducible apply took_kept | with_reducible apply Kept.ite | with_reducible apply Kept.fold | with_reducible apply Kept.fold2 | with_reducible apply Kept.fold1 | (lift_lets; intro t; first | (with_reducible refine Kept.cut t ?_ ?_; unfold t) | skip) | dsimp -zeta only | split | dsimp +zetaDelta only)

theorem State.writeSp_kept {r₀ : State} (s : State) (fd o v : Nat) (h0 : Kept r₀ s) : Kept r₀ (State.writeSp s fd o v) := by
  unfold State.writeSp
  repeat' (first | with_reducible assumption | (intro t; first | (with_reducible refine Kept.cut t ?_ ?_; unfold t) | beta_reduce | skip) | with_reducible apply State.act_kept | with_reducible apply State.putReg_kept | with_reducible apply State.spLine_kept | with_reducible apply execSpDataPush_kept | with_reducible apply execSpModeApply_kept | with_reducible apply execSpRouteApply_kept | with_reducible apply took_kept | with_reducible apply Kept.ite | with_reducible apply Kept.fold | with_reducible apply Kept.fold2 | with_reducible apply Kept.fold1 | (lift_lets; intro t; first | (with_reducible refine Kept.cut t ?_ ?_; unfold t) | skip) | dsimp -zeta only | split | dsimp +zetaDelta only)

theorem State.writePge_kept {r₀ : State} (s : State) (n o v : Nat) (h0 : Kept r₀ s) : Kept r₀ (State.writePge s n o v) := by
  unfold State.writePge
  repeat' (first | with_reducible assumption | (intro t; first | (with_reducible refine Kept.cut t ?_ ?_; unfold t) | beta_reduce | skip) | with_reducible apply State.act_kept | with_reducible apply State.putReg_kept | with_reducible apply State.setR_kept | with_reducible apply execPgeAbort_kept | with_reducible apply execPgeArm_kept | with_reducible apply execPgeSrst_kept | with_reducible apply execPgeStop_kept | with_reducible apply Kept.ite | with_reducible apply Kept.fold | with_reducible apply Kept.fold2 | with_reducible apply Kept.fold1 | (lift_lets; intro t; first | (with_reducible refine Kept.cut t ?_ ?_; unfold t) | skip) | dsimp -zeta only | split | dsimp +zetaDelta only)

theorem State.writeFce_kept {r₀ : State} (s : State) (n o v : Nat) (h0 : Kept r₀ s) : Kept r₀ (State.writeFce s n o v) := by
  unfold State.writeFce
  repeat' (first | with_reducible assumption | (intro t; first | (with_reducible refine Kept.cut t ?_ ?_; unfold t) | beta_reduce | skip) | with_reducible apply State.act_kept | with_reducible apply State.putReg_kept | with_reducible apply State.setR_kept | with_reducible apply execFceAbort_kept | with_reducible apply execFceArm_kept | with_reducible apply execFceEnd_kept | with_reducible apply execFceSrst_kept | with_reducible apply Kept.ite | with_reducible apply Kept.fold | with_reducible apply Kept.fold2 | with_reducible apply Kept.fold1 | (lift_lets; intro t; first | (with_reducible refine Kept.cut t ?_ ?_; unfold t) | skip) | dsimp -zeta only | split | dsimp +zetaDelta only)

theorem State.writeGroup_kept {r₀ : State} (s : State) (m o v : Nat) (h0 : Kept r₀ s) : Kept r₀ (State.writeGroup s m o v) := by
  unfold State.writeGroup
  repeat' (first | with_reducible assumption | (intro t; first | (with_reducible refine Kept.cut t ?_ ?_; unfold t) | beta_reduce | skip) | with_reducible apply State.act_kept | with_reducible apply State.putBut_kept | with_reducible apply State.putReg_kept | with_reducible apply State.setR_kept | with_reducible apply execMspGrpAbort_kept | with_reducible apply execMspGrpGo_kept | with_reducible apply execMspGrpResume_kept | with_reducible apply execMspGrpStop_kept | with_reducible apply Kept.ite | with_reducible apply Kept.fold | with_reducible apply Kept.fold2 | with_reducible apply Kept.fold1 | (lift_lets; intro t; first | (with_reducible refine Kept.cut t ?_ ?_; unfold t) | skip) | dsimp -zeta only | split | dsimp +zetaDelta only)

theorem State.writeMsp_kept {r₀ : State} (s : State) (m o v : Nat) (h0 : Kept r₀ s) : Kept r₀ (State.writeMsp s m o v) := by
  unfold State.writeMsp
  repeat' (first | with_reducible assumption | (intro t; first | (with_reducible refine Kept.cut t ?_ ?_; unfold t) | beta_reduce | skip) | with_reducible apply State.act_kept | with_reducible apply State.putReg_kept | with_reducible apply State.setR_kept | with_reducible apply State.writeGroup_kept | with_reducible apply execMspSrst_kept | with_reducible apply Kept.ite | with_reducible apply Kept.fold | with_reducible apply Kept.fold2 | with_reducible apply Kept.fold1 | (lift_lets; intro t; first | (with_reducible refine Kept.cut t ?_ ?_; unfold t) | skip) | dsimp -zeta only | split | dsimp +zetaDelta only)

theorem State.writeLpx_kept {r₀ : State} (s : State) (n o v : Nat) (h0 : Kept r₀ s) : Kept r₀ (State.writeLpx s n o v) := by
  unfold State.writeLpx
  repeat' (first | with_reducible assumption | (intro t; first | (with_reducible refine Kept.cut t ?_ ?_; unfold t) | beta_reduce | skip) | with_reducible apply State.act_kept | with_reducible apply State.putReg_kept | with_reducible apply execLpxAbort_kept | with_reducible apply execLpxDetWrite_kept | with_reducible apply execLpxMapWrite_kept | with_reducible apply execLpxRetrain_kept | with_reducible apply took_kept | with_reducible apply Kept.ite | with_reducible apply Kept.fold | with_reducible apply Kept.fold2 | with_reducible apply Kept.fold1 | (lift_lets; intro t; first | (with_reducible refine Kept.cut t ?_ ?_; unfold t) | skip) | dsimp -zeta only | split | dsimp +zetaDelta only)

theorem State.writeLnq_kept {r₀ : State} (s : State) (q o v : Nat) (h0 : Kept r₀ s) : Kept r₀ (State.writeLnq s q o v) := by
  unfold State.writeLnq
  repeat' (first | with_reducible assumption | (intro t; first | (with_reducible refine Kept.cut t ?_ ?_; unfold t) | beta_reduce | skip) | with_reducible apply State.putBut_kept | with_reducible apply State.putReg_kept | with_reducible apply execLneCfgWrite_kept | with_reducible apply took_kept | with_reducible apply Kept.ite | with_reducible apply Kept.fold | with_reducible apply Kept.fold2 | with_reducible apply Kept.fold1 | (lift_lets; intro t; first | (with_reducible refine Kept.cut t ?_ ?_; unfold t) | skip) | dsimp -zeta only | split | dsimp +zetaDelta only)

theorem State.writeDcl_kept {r₀ : State} (s : State) (e o v : Nat) (h0 : Kept r₀ s) : Kept r₀ (State.writeDcl s e o v) := by
  unfold State.writeDcl
  repeat' (first | with_reducible assumption | (intro t; first | (with_reducible refine Kept.cut t ?_ ?_; unfold t) | beta_reduce | skip) | with_reducible apply State.act_kept | with_reducible apply State.putBut_kept | with_reducible apply State.putReg_kept | with_reducible apply execDclAsymWrite_kept | with_reducible apply execDclDisable_kept | with_reducible apply execDclEnable_kept | with_reducible apply execDclMapWrite_kept | with_reducible apply execDclRetrainCmd_kept | with_reducible apply took_kept | with_reducible apply Kept.ite | with_reducible apply Kept.fold | with_reducible apply Kept.fold2 | with_reducible apply Kept.fold1 | (lift_lets; intro t; first | (with_reducible refine Kept.cut t ?_ ?_; unfold t) | skip) | dsimp -zeta only | split | dsimp +zetaDelta only)

theorem State.writeTio_kept {r₀ : State} (s : State) (b o v : Nat) (h0 : Kept r₀ s) : Kept r₀ (State.writeTio s b o v) := by
  unfold State.writeTio
  repeat' (first | with_reducible assumption | (intro t; first | (with_reducible refine Kept.cut t ?_ ?_; unfold t) | beta_reduce | skip) | with_reducible apply State.act_kept | with_reducible apply State.delayWritten_kept | with_reducible apply State.pinRests_kept | with_reducible apply State.putReg_kept | with_reducible apply State.putRegBy_kept | with_reducible apply State.setR_kept | with_reducible apply State.setTimed_kept | with_reducible apply execTioSrst_kept | with_reducible apply execTioStop_kept | with_reducible apply Kept.ite | with_reducible apply Kept.fold | with_reducible apply Kept.fold2 | with_reducible apply Kept.fold1 | (lift_lets; intro t; first | (with_reducible refine Kept.cut t ?_ ?_; unfold t) | skip) | dsimp -zeta only | split | dsimp +zetaDelta only)

theorem State.writeSpd_kept {r₀ : State} (s : State) (k o v req : Nat) (h0 : Kept r₀ s) : Kept r₀ (State.writeSpd s k o v req) := by
  unfold State.writeSpd
  repeat' (first | with_reducible assumption | (intro t; first | (with_reducible refine Kept.cut t ?_ ?_; unfold t) | beta_reduce | skip) | with_reducible apply State.act_kept | with_reducible apply State.putReg_kept | with_reducible apply execSpdCopyStart_kept | with_reducible apply execSpdCopyStop_kept | with_reducible apply execSpdHandoverAbort_kept | with_reducible apply execSpdInv_kept | with_reducible apply execSpdOwnWrite_kept | with_reducible apply took_kept | with_reducible apply Kept.ite | with_reducible apply Kept.fold | with_reducible apply Kept.fold2 | with_reducible apply Kept.fold1 | (lift_lets; intro t; first | (with_reducible refine Kept.cut t ?_ ?_; unfold t) | skip) | dsimp -zeta only | split | dsimp +zetaDelta only)

theorem State.writeEcc_kept {r₀ : State} (s : State) (k o v req : Nat) (h0 : Kept r₀ s) : Kept r₀ (State.writeEcc s k o v req) := by
  unfold State.writeEcc
  repeat' (first | with_reducible assumption | (intro t; first | (with_reducible refine Kept.cut t ?_ ?_; unfold t) | beta_reduce | skip) | with_reducible apply State.act_kept | with_reducible apply State.denied_kept | with_reducible apply State.putReg_kept | with_reducible apply execEccInv_kept | with_reducible apply Kept.ite | with_reducible apply Kept.fold | with_reducible apply Kept.fold2 | with_reducible apply Kept.fold1 | (lift_lets; intro t; first | (with_reducible refine Kept.cut t ?_ ?_; unfold t) | skip) | dsimp -zeta only | split | dsimp +zetaDelta only)

theorem State.writeDlk_kept {r₀ : State} (s : State) (page o v req : Nat) (h0 : Kept r₀ s) : Kept r₀ (State.writeDlk s page o v req) := by
  unfold State.writeDlk
  repeat' (first | with_reducible assumption | (intro t; first | (with_reducible refine Kept.cut t ?_ ?_; unfold t) | beta_reduce | skip) | with_reducible apply State.denied_kept | with_reducible apply State.putReg_kept | with_reducible apply Kept.ite | with_reducible apply Kept.fold | with_reducible apply Kept.fold2 | with_reducible apply Kept.fold1 | (lift_lets; intro t; first | (with_reducible refine Kept.cut t ?_ ?_; unfold t) | skip) | dsimp -zeta only | split | dsimp +zetaDelta only)

theorem State.writeMid_kept {r₀ : State} (s : State) (k o v req : Nat) (h0 : Kept r₀ s) : Kept r₀ (State.writeMid s k o v req) := by
  unfold State.writeMid
  repeat' (first | with_reducible assumption | (intro t; first | (with_reducible refine Kept.cut t ?_ ?_; unfold t) | beta_reduce | skip) | with_reducible apply State.act_kept | with_reducible apply State.denied_kept | with_reducible apply State.putReg_kept | with_reducible apply execMidReqAbort_kept | with_reducible apply execMidReqGo_kept | with_reducible apply Kept.ite | with_reducible apply Kept.fold | with_reducible apply Kept.fold2 | with_reducible apply Kept.fold1 | (lift_lets; intro t; first | (with_reducible refine Kept.cut t ?_ ?_; unfold t) | skip) | dsimp -zeta only | split | dsimp +zetaDelta only)

theorem State.write32_kept {r₀ : State} (s : State) (b : Blk) (page o v req : Nat) (h0 : Kept r₀ s) : Kept r₀ (State.write32 s b page o v req) := by
  unfold State.write32
  repeat' (first | with_reducible assumption | (intro t; first | (with_reducible refine Kept.cut t ?_ ?_; unfold t) | beta_reduce | skip) | with_reducible apply State.respond_kept | with_reducible apply State.writeCg_kept | with_reducible apply State.writeDbg_kept | with_reducible apply State.writeDcl_kept | with_reducible apply State.writeDev_kept | with_reducible apply State.writeDlk_kept | with_reducible apply State.writeDsk_kept | with_reducible apply State.writeDwn_kept | with_reducible apply State.writeEcc_kept | with_reducible apply State.writeFce_kept | with_reducible apply State.writeLnq_kept | with_reducible apply State.writeLpx_kept | with_reducible apply State.writeMid_kept | with_reducible apply State.writeMsp_kept | with_reducible apply State.writeNvmc_kept | with_reducible apply State.writePci_kept | with_reducible apply State.writePge_kept | with_reducible apply State.writeRgn_kept | with_reducible apply State.writeRo_kept | with_reducible apply State.writeSge_kept | with_reducible apply State.writeSp_kept | with_reducible apply State.writeSpd_kept | with_reducible apply State.writeSvp_kept | with_reducible apply State.writeTbs_kept | with_reducible apply State.writeThy_kept | with_reducible apply State.writeTio_kept | with_reducible apply Kept.ite | with_reducible apply Kept.fold | with_reducible apply Kept.fold2 | with_reducible apply Kept.fold1 | (lift_lets; intro t; first | (with_reducible refine Kept.cut t ?_ ?_; unfold t) | skip) | dsimp -zeta only | split | dsimp +zetaDelta only)

theorem State.pageWrite_kept {r₀ : State} (s : State) (e a : Nat) (wide : Bool) (v req : Nat) (h0 : Kept r₀ s) : Kept r₀ (State.pageWrite s e a wide v req) := by
  unfold State.pageWrite
  repeat' (first | with_reducible assumption | (intro t; first | (with_reducible refine Kept.cut t ?_ ?_; unfold t) | beta_reduce | skip) | with_reducible apply State.decodeError_kept | with_reducible apply State.respond_kept | with_reducible apply State.touchPage_kept | with_reducible apply State.write32_kept | with_reducible apply execNvmRegisterWrite_kept | with_reducible apply took_kept | with_reducible apply Kept.ite | with_reducible apply Kept.fold | with_reducible apply Kept.fold2 | with_reducible apply Kept.fold1 | (lift_lets; intro t; first | (with_reducible refine Kept.cut t ?_ ?_; unfold t) | skip) | dsimp -zeta only | split | dsimp +zetaDelta only)

end Sys2Proof.Machine
end

