-- ==== Sys2Proof/Laws/Kept/Configure.lean ====
section
/-!
SUPPORT. Every operation of Machine/Configure.lean leaves the queue and keeps the tables in canonical form.
-/

set_option linter.unreachableTactic false
set_option linter.unusedTactic false
set_option linter.unusedVariables false

namespace Sys2Proof.Machine

theorem State.stageMirror_kept {r₀ : State} (s : State) (h0 : Kept r₀ s) : Kept r₀ (State.stageMirror s) := by
  unfold State.stageMirror
  repeat' (first | with_reducible assumption | (intro t; first | (with_reducible refine Kept.cut t ?_ ?_; unfold t) | beta_reduce | skip) | with_reducible apply State.setR_kept | with_reducible apply Kept.ite | with_reducible apply Kept.fold | with_reducible apply Kept.fold2 | with_reducible apply Kept.fold1 | (lift_lets; intro t; first | (with_reducible refine Kept.cut t ?_ ?_; unfold t) | skip) | dsimp -zeta only | split | dsimp +zetaDelta only)

theorem State.opStart_kept {r₀ : State} (s : State) (part : Bool) (src addr len : Nat) (h0 : Kept r₀ s) : Kept r₀ (State.opStart s part src addr len) := by
  unfold State.opStart
  repeat' (first | with_reducible assumption | (intro t; first | (with_reducible refine Kept.cut t ?_ ?_; unfold t) | beta_reduce | skip) | with_reducible apply State.setR_kept | with_reducible apply State.stageMirror_kept | with_reducible apply State.modDawn_kept | with_reducible apply Kept.ite | with_reducible apply Kept.fold | with_reducible apply Kept.fold2 | with_reducible apply Kept.fold1 | (lift_lets; intro t; first | (with_reducible refine Kept.cut t ?_ ?_; unfold t) | skip) | dsimp -zeta only | split | dsimp +zetaDelta only)

theorem State.bufferBegin_kept {r₀ : State} (s : State) (h0 : Kept r₀ s) : Kept r₀ (State.bufferBegin s) := by
  unfold State.bufferBegin
  repeat' (first | with_reducible assumption | (intro t; first | (with_reducible refine Kept.cut t ?_ ?_; unfold t) | beta_reduce | skip) | with_reducible apply State.setR_kept | with_reducible apply Kept.ite | with_reducible apply Kept.fold | with_reducible apply Kept.fold2 | with_reducible apply Kept.fold1 | (lift_lets; intro t; first | (with_reducible refine Kept.cut t ?_ ?_; unfold t) | skip) | dsimp -zeta only | split | dsimp +zetaDelta only)

theorem State.bufferEnd_kept {r₀ : State} (s : State) (h0 : Kept r₀ s) : Kept r₀ (State.bufferEnd s) := by
  unfold State.bufferEnd
  repeat' (first | with_reducible assumption | (intro t; first | (with_reducible refine Kept.cut t ?_ ?_; unfold t) | beta_reduce | skip) | with_reducible apply State.setR_kept | with_reducible apply Kept.ite | with_reducible apply Kept.fold | with_reducible apply Kept.fold2 | with_reducible apply Kept.fold1 | (lift_lets; intro t; first | (with_reducible refine Kept.cut t ?_ ?_; unfold t) | skip) | dsimp -zeta only | split | dsimp +zetaDelta only)

theorem State.opEnd_kept {r₀ : State} (s : State) (st code : Nat) (h0 : Kept r₀ s) : Kept r₀ (State.opEnd s st code) := by
  unfold State.opEnd
  repeat' (first | with_reducible assumption | (intro t; first | (with_reducible refine Kept.cut t ?_ ?_; unfold t) | beta_reduce | skip) | with_reducible apply State.bufferEnd_kept | with_reducible apply State.irqEdge_kept | with_reducible apply State.msix_kept | with_reducible apply State.setR_kept | with_reducible apply State.stageMirror_kept | with_reducible apply State.modDawn_kept | with_reducible apply Kept.ite | with_reducible apply Kept.fold | with_reducible apply Kept.fold2 | with_reducible apply Kept.fold1 | (lift_lets; intro t; first | (with_reducible refine Kept.cut t ?_ ?_; unfold t) | skip) | dsimp -zeta only | split | dsimp +zetaDelta only)

theorem State.applyItem_kept {r₀ : State} (s : State) (it : CfgItem) (h0 : Kept r₀ s) : Kept r₀ (State.applyItem s it) := by
  unfold State.applyItem
  repeat' (first | with_reducible assumption | (intro t; first | (with_reducible refine Kept.cut t ?_ ?_; unfold t) | beta_reduce | skip) | with_reducible apply State.modRam_kept | with_reducible apply State.modFab_kept | with_reducible apply State.modIc_kept | with_reducible apply State.modTio_kept | with_reducible apply Kept.ite | with_reducible apply Kept.fold | with_reducible apply Kept.fold2 | with_reducible apply Kept.fold1 | (lift_lets; intro t; first | (with_reducible refine Kept.cut t ?_ ?_; unfold t) | skip) | dsimp -zeta only | split | dsimp +zetaDelta only)

theorem State.clearFrames_kept {r₀ : State} (s : State) (p : Nat → Bool) (h0 : Kept r₀ s) : Kept r₀ (State.clearFrames s p) := by
  unfold State.clearFrames
  repeat' (first | with_reducible assumption | (intro t; first | (with_reducible refine Kept.cut t ?_ ?_; unfold t) | beta_reduce | skip) | with_reducible apply State.modDawn_kept | with_reducible apply State.modFab_kept | with_reducible apply State.modIc_kept | with_reducible apply State.modTio_kept | with_reducible apply Kept.ite | with_reducible apply Kept.fold | with_reducible apply Kept.fold2 | with_reducible apply Kept.fold1 | (lift_lets; intro t; first | (with_reducible refine Kept.cut t ?_ ?_; unfold t) | skip) | dsimp -zeta only | split | with_reducible apply Map.sortedFrom_filter | with_reducible apply Map.wf_filter | dsimp +zetaDelta only)

theorem State.writeFrames_kept {r₀ : State} (s : State) (f : Stream) (h0 : Kept r₀ s) : Kept r₀ (State.writeFrames s f) := by
  unfold State.writeFrames
  repeat' (first | with_reducible assumption | (intro t; first | (with_reducible refine Kept.cut t ?_ ?_; unfold t) | beta_reduce | skip) | with_reducible apply State.applyItem_kept | with_reducible apply State.modDawn_kept | with_reducible apply Kept.ite | with_reducible apply Kept.fold | with_reducible apply Kept.fold2 | with_reducible apply Kept.fold1 | (lift_lets; intro t; first | (with_reducible refine Kept.cut t ?_ ?_; unfold t) | skip) | dsimp -zeta only | split | dsimp +zetaDelta only)

theorem State.writeRecord_kept {r₀ : State} (s : State) (r : RegRec) (h0 : Kept r₀ s) : Kept r₀ (State.writeRecord s r) := by
  unfold State.writeRecord
  repeat' (first | with_reducible assumption | (intro t; first | (with_reducible refine Kept.cut t ?_ ?_; unfold t) | beta_reduce | skip) | with_reducible apply State.pinRests_kept | with_reducible apply State.setR_kept | with_reducible apply State.write32_kept | with_reducible apply Kept.ite | with_reducible apply Kept.fold | with_reducible apply Kept.fold2 | with_reducible apply Kept.fold1 | (lift_lets; intro t; first | (with_reducible refine Kept.cut t ?_ ?_; unfold t) | skip) | dsimp -zeta only | split | dsimp +zetaDelta only)

theorem State.putImage_kept {r₀ : State} (s : State) (i : Image) (h0 : Kept r₀ s) : Kept r₀ (State.putImage s i) := by
  unfold State.putImage
  repeat' (first | with_reducible assumption | (intro t; first | (with_reducible refine Kept.cut t ?_ ?_; unfold t) | beta_reduce | skip) | with_reducible apply State.writeRange_kept | with_reducible apply Kept.ite | with_reducible apply Kept.fold | with_reducible apply Kept.fold2 | with_reducible apply Kept.fold1 | (lift_lets; intro t; first | (with_reducible refine Kept.cut t ?_ ?_; unfold t) | skip) | dsimp -zeta only | split | dsimp +zetaDelta only)

theorem State.writeImages_kept {r₀ : State} (s : State) (f : Stream) (h0 : Kept r₀ s) : Kept r₀ (State.writeImages s f) := by
  unfold State.writeImages
  repeat' (first | with_reducible assumption | (intro t; first | (with_reducible refine Kept.cut t ?_ ?_; unfold t) | beta_reduce | skip) | with_reducible apply State.putImage_kept | with_reducible apply State.modDawn_kept | with_reducible apply Kept.ite | with_reducible apply Kept.fold | with_reducible apply Kept.fold2 | with_reducible apply Kept.fold1 | (lift_lets; intro t; first | (with_reducible refine Kept.cut t ?_ ?_; unfold t) | skip) | dsimp -zeta only | split | with_reducible apply Map.sortedFrom_filter | with_reducible apply Map.wf_filter | dsimp +zetaDelta only)

theorem State.dropImages_kept {r₀ : State} (s : State) (h0 : Kept r₀ s) : Kept r₀ (State.dropImages s) := by
  unfold State.dropImages
  repeat' (first | with_reducible assumption | (intro t; first | (with_reducible refine Kept.cut t ?_ ?_; unfold t) | beta_reduce | skip) | with_reducible apply State.invalidate_kept | with_reducible apply State.writeRange_kept | with_reducible apply State.modDawn_kept | with_reducible apply Kept.ite | with_reducible apply Kept.fold | with_reducible apply Kept.fold2 | with_reducible apply Kept.fold1 | (lift_lets; intro t; first | (with_reducible refine Kept.cut t ?_ ?_; unfold t) | skip) | dsimp -zeta only | split | dsimp +zetaDelta only)

theorem State.touchRegions_kept {r₀ : State} (s : State) (p : Nat → Bool) (h0 : Kept r₀ s) : Kept r₀ (State.touchRegions s p) := by
  unfold State.touchRegions
  repeat' (first | with_reducible assumption | (intro t; first | (with_reducible refine Kept.cut t ?_ ?_; unfold t) | beta_reduce | skip) | with_reducible apply State.midTouch_kept | with_reducible apply Kept.ite | with_reducible apply Kept.fold | with_reducible apply Kept.fold2 | with_reducible apply Kept.fold1 | (lift_lets; intro t; first | (with_reducible refine Kept.cut t ?_ ?_; unfold t) | skip) | dsimp -zeta only | split | dsimp +zetaDelta only)

theorem State.fullBegin_kept {r₀ : State} (s : State) (h0 : Kept r₀ s) : Kept r₀ (State.fullBegin s) := by
  unfold State.fullBegin
  repeat' (first | with_reducible assumption | (intro t; first | (with_reducible refine Kept.cut t ?_ ?_; unfold t) | beta_reduce | skip) | with_reducible apply State.clearFrames_kept | with_reducible apply State.holdRegion_kept | with_reducible apply State.isolate_kept | with_reducible apply State.setR_kept | with_reducible apply State.touchRegions_kept | with_reducible apply State.modDawn_kept | with_reducible apply State.modFab_kept | with_reducible apply Kept.ite | with_reducible apply Kept.fold | with_reducible apply Kept.fold2 | with_reducible apply Kept.fold1 | (lift_lets; intro t; first | (with_reducible refine Kept.cut t ?_ ?_; unfold t) | skip) | dsimp -zeta only | split | dsimp +zetaDelta only)

theorem State.noCfg_kept {r₀ : State} (s : State) (h0 : Kept r₀ s) : Kept r₀ (State.noCfg s) := by
  unfold State.noCfg
  repeat' (first | with_reducible assumption | (intro t; first | (with_reducible refine Kept.cut t ?_ ?_; unfold t) | beta_reduce | skip) | with_reducible apply State.setR_kept | with_reducible apply Kept.ite | with_reducible apply Kept.fold | with_reducible apply Kept.fold2 | with_reducible apply Kept.fold1 | (lift_lets; intro t; first | (with_reducible refine Kept.cut t ?_ ?_; unfold t) | skip) | dsimp -zeta only | split | dsimp +zetaDelta only)

theorem State.bootFail_kept {r₀ : State} (s : State) (code : Nat) (h0 : Kept r₀ s) : Kept r₀ (State.bootFail s code) := by
  unfold State.bootFail
  repeat' (first | with_reducible assumption | (intro t; first | (with_reducible refine Kept.cut t ?_ ?_; unfold t) | beta_reduce | skip) | with_reducible apply State.noCfg_kept | with_reducible apply State.raise_kept | with_reducible apply Kept.ite | with_reducible apply Kept.fold | with_reducible apply Kept.fold2 | with_reducible apply Kept.fold1 | (lift_lets; intro t; first | (with_reducible refine Kept.cut t ?_ ?_; unfold t) | skip) | dsimp -zeta only | split | dsimp +zetaDelta only)

theorem State.bootNext_kept {r₀ : State} (s : State) (code : Nat) (h0 : Kept r₀ s) : Kept r₀ (State.bootNext s code) := by
  unfold State.bootNext
  repeat' (first | with_reducible assumption | (intro t; first | (with_reducible refine Kept.cut t ?_ ?_; unfold t) | beta_reduce | skip) | with_reducible apply State.bootFail_kept | with_reducible apply State.raise_kept | with_reducible apply State.setR_kept | with_reducible apply Kept.ite | with_reducible apply Kept.fold | with_reducible apply Kept.fold2 | with_reducible apply Kept.fold1 | (lift_lets; intro t; first | (with_reducible refine Kept.cut t ?_ ?_; unfold t) | skip) | dsimp -zeta only | split | dsimp +zetaDelta only)

theorem State.opFail_kept {r₀ : State} (s : State) (code : Nat) (h0 : Kept r₀ s) : Kept r₀ (State.opFail s code) := by
  unfold State.opFail
  repeat' (first | with_reducible assumption | (intro t; first | (with_reducible refine Kept.cut t ?_ ?_; unfold t) | beta_reduce | skip) | with_reducible apply State.bootNext_kept | with_reducible apply State.clearFrames_kept | with_reducible apply State.dropImages_kept | with_reducible apply State.opEnd_kept | with_reducible apply State.raise_kept | with_reducible apply State.setCauses_kept | with_reducible apply Kept.ite | with_reducible apply Kept.fold | with_reducible apply Kept.fold2 | with_reducible apply Kept.fold1 | (lift_lets; intro t; first | (with_reducible refine Kept.cut t ?_ ?_; unfold t) | skip) | dsimp -zeta only | split | with_reducible apply Map.sortedFrom_filter | with_reducible apply Map.wf_filter | dsimp +zetaDelta only)

theorem State.putFirmware_kept {r₀ : State} (s : State) (n base size : Nat) (fw : Option (Nat × Nat)) (h0 : Kept r₀ s) : Kept r₀ (State.putFirmware s n base size fw) := by
  unfold State.putFirmware
  repeat' (first | with_reducible assumption | (intro t; first | (with_reducible refine Kept.cut t ?_ ?_; unfold t) | beta_reduce | skip) | with_reducible apply State.setR_kept | with_reducible apply State.wrapAdd_kept | with_reducible apply State.writeRange_kept | with_reducible apply Kept.ite | with_reducible apply Kept.fold | with_reducible apply Kept.fold2 | with_reducible apply Kept.fold1 | (lift_lets; intro t; first | (with_reducible refine Kept.cut t ?_ ?_; unfold t) | skip) | dsimp -zeta only | split | dsimp +zetaDelta only)

theorem State.scheduleRelease_kept {r₀ : State} (s : State) (hold : Bool) (l : List Nat) (cause : Nat) (cores : Bool) (h0 : Kept r₀ s) : Kept r₀ (State.scheduleRelease s hold l cause cores) := by
  unfold State.scheduleRelease
  repeat' (first | with_reducible assumption | (intro t; first | (with_reducible refine Kept.cut t ?_ ?_; unfold t) | beta_reduce | skip) | with_reducible apply State.setR_kept | with_reducible apply State.modDawn_kept | with_reducible apply State.modFab_kept | with_reducible apply Kept.ite | with_reducible apply Kept.fold | with_reducible apply Kept.fold2 | with_reducible apply Kept.fold1 | (lift_lets; intro t; first | (with_reducible refine Kept.cut t ?_ ?_; unfold t) | skip) | dsimp -zeta only | split | dsimp +zetaDelta only)

theorem State.fullCommit_kept {r₀ : State} (s : State) (f : Stream) (boot : Bool) (h0 : Kept r₀ s) : Kept r₀ (State.fullCommit s f boot) := by
  unfold State.fullCommit
  repeat' (first | with_reducible assumption | (intro t; first | (with_reducible refine Kept.cut t ?_ ?_; unfold t) | beta_reduce | skip) | with_reducible apply State.putFirmware_kept | with_reducible apply State.putImage_kept | with_reducible apply State.raise_kept | with_reducible apply State.restoreRam_kept | with_reducible apply State.scheduleRelease_kept | with_reducible apply State.setR_kept | with_reducible apply State.wrapAdd_kept | with_reducible apply State.writeFrames_kept | with_reducible apply State.writeRecord_kept | with_reducible apply execSysidWrite_kept | with_reducible apply took_kept | with_reducible apply State.modDawn_kept | with_reducible apply Kept.ite | with_reducible apply Kept.fold | with_reducible apply Kept.fold2 | with_reducible apply Kept.fold1 | (lift_lets; intro t; first | (with_reducible refine Kept.cut t ?_ ?_; unfold t) | skip) | dsimp -zeta only | split | with_reducible apply Map.sortedFrom_filter | with_reducible apply Map.wf_filter | dsimp +zetaDelta only)

theorem State.bootEntry_kept {r₀ : State} (s : State) (hdr : Option LpxHdr) (h0 : Kept r₀ s) : Kept r₀ (State.bootEntry s hdr) := by
  unfold State.bootEntry
  repeat' (first | with_reducible assumption | (intro t; first | (with_reducible refine Kept.cut t ?_ ?_; unfold t) | beta_reduce | skip) | with_reducible apply State.fullBegin_kept | with_reducible apply State.lpxTrainAll_kept | with_reducible apply State.opFail_kept | with_reducible apply State.opStart_kept | with_reducible apply State.setR_kept | with_reducible apply execLpxMapWrite_kept | with_reducible apply took_kept | with_reducible apply Kept.ite | with_reducible apply Kept.fold | with_reducible apply Kept.fold2 | with_reducible apply Kept.fold1 | (lift_lets; intro t; first | (with_reducible refine Kept.cut t ?_ ?_; unfold t) | skip) | dsimp -zeta only | split | dsimp +zetaDelta only)

theorem State.bootDir_kept {r₀ : State} (s : State) (copy : Bool) (count : Fin 4) (hdr : Option LpxHdr) (h0 : Kept r₀ s) : Kept r₀ (State.bootDir s copy count hdr) := by
  unfold State.bootDir
  repeat' (first | with_reducible assumption | (intro t; first | (with_reducible refine Kept.cut t ?_ ?_; unfold t) | beta_reduce | skip) | with_reducible apply State.bootEntry_kept | with_reducible apply State.setR_kept | with_reducible apply Kept.ite | with_reducible apply Kept.fold | with_reducible apply Kept.fold2 | with_reducible apply Kept.fold1 | (lift_lets; intro t; first | (with_reducible refine Kept.cut t ?_ ?_; unfold t) | skip) | dsimp -zeta only | split | dsimp +zetaDelta only)

theorem State.flashDoes_kept {r₀ : State} (s : State) (l : List FlashStep) (h0 : Kept r₀ s) : Kept r₀ (State.flashDoes s l) := by
  unfold State.flashDoes
  repeat' (first | with_reducible assumption | (intro t; first | (with_reducible refine Kept.cut t ?_ ?_; unfold t) | beta_reduce | skip) | with_reducible apply State.modDawn_kept | with_reducible apply Kept.ite | with_reducible apply Kept.fold | with_reducible apply Kept.fold2 | with_reducible apply Kept.fold1 | (lift_lets; intro t; first | (with_reducible refine Kept.cut t ?_ ?_; unfold t) | skip) | dsimp -zeta only | split | dsimp +zetaDelta only)

theorem execDawnBootStart_kept {r₀ : State} (dir : Option (Bool × Fin 4)) (quad : Option (Bool × Fin 4)) (hdr : Option LpxHdr) (bad : List (Nat × Nat × Nat)) (s : State) (h0 : Kept r₀ s) : KeptR r₀ (execDawnBootStart dir quad hdr bad s) := by
  unfold execDawnBootStart
  repeat' (first | with_reducible assumption | (intro t; first | (with_reducible refine Kept.cut t ?_ ?_; unfold t) | beta_reduce | skip) | with_reducible apply KeptR.next | with_reducible apply State.bootDir_kept | with_reducible apply State.bootEntry_kept | with_reducible apply State.bootFail_kept | with_reducible apply State.flashDoes_kept | with_reducible apply State.linkTest_kept | with_reducible apply State.noCfg_kept | with_reducible apply State.raise_kept | with_reducible apply State.setR_kept | with_reducible apply Kept.ite | with_reducible apply KeptR.ite | with_reducible apply Kept.fold | with_reducible apply Kept.fold2 | with_reducible apply Kept.fold1 | (lift_lets; intro t; first | (with_reducible refine Kept.cut t ?_ ?_; unfold t) | skip) | dsimp -zeta only | split | dsimp +zetaDelta only)

theorem execDawnFlashStall_kept {r₀ : State} (s : State) (h0 : Kept r₀ s) : KeptR r₀ (execDawnFlashStall s) := by
  unfold execDawnFlashStall
  repeat' (first | with_reducible assumption | (intro t; first | (with_reducible refine Kept.cut t ?_ ?_; unfold t) | beta_reduce | skip) | with_reducible apply KeptR.next | with_reducible apply State.opFail_kept | with_reducible apply State.setR_kept | with_reducible apply Kept.ite | with_reducible apply KeptR.ite | with_reducible apply Kept.fold | with_reducible apply Kept.fold2 | with_reducible apply Kept.fold1 | (lift_lets; intro t; first | (with_reducible refine Kept.cut t ?_ ?_; unfold t) | skip) | dsimp -zeta only | split | dsimp +zetaDelta only)

theorem State.streamRead_kept {r₀ : State} (s : State) (o : DawnOp) (f : Stream) (h0 : Kept r₀ s) : Kept r₀ (State.streamRead s o f) := by
  unfold State.streamRead
  repeat' (first | with_reducible assumption | (intro t; first | (with_reducible refine Kept.cut t ?_ ?_; unfold t) | beta_reduce | skip) | with_reducible apply State.fullBegin_kept | with_reducible apply State.fullCommit_kept | with_reducible apply State.opFail_kept | with_reducible apply State.raise_kept | with_reducible apply State.setR_kept | with_reducible apply State.writeImages_kept | with_reducible apply State.modDawn_kept | with_reducible apply Kept.ite | with_reducible apply Kept.fold | with_reducible apply Kept.fold2 | with_reducible apply Kept.fold1 | (lift_lets; intro t; first | (with_reducible refine Kept.cut t ?_ ?_; unfold t) | skip) | dsimp -zeta only | split | dsimp +zetaDelta only)

theorem State.streamReadDone_kept {r₀ : State} (s : State) (f : Stream) (h0 : Kept r₀ s) : Kept r₀ (State.streamReadDone s f) := by
  unfold State.streamReadDone
  repeat' (first | with_reducible assumption | (intro t; first | (with_reducible refine Kept.cut t ?_ ?_; unfold t) | beta_reduce | skip) | with_reducible apply State.streamRead_kept | with_reducible apply Kept.ite | with_reducible apply Kept.fold | with_reducible apply Kept.fold2 | with_reducible apply Kept.fold1 | (lift_lets; intro t; first | (with_reducible refine Kept.cut t ?_ ?_; unfold t) | skip) | dsimp -zeta only | split | dsimp +zetaDelta only)

theorem State.partCommit_kept {r₀ : State} (s : State) (f : Stream) (h0 : Kept r₀ s) : Kept r₀ (State.partCommit s f) := by
  unfold State.partCommit
  repeat' (first | with_reducible assumption | (intro t; first | (with_reducible refine Kept.cut t ?_ ?_; unfold t) | beta_reduce | skip) | with_reducible apply State.modRegion_kept | with_reducible apply State.opFail_kept | with_reducible apply State.setR_kept | with_reducible apply State.touchRegions_kept | with_reducible apply State.modDawn_kept | with_reducible apply Kept.ite | with_reducible apply Kept.fold | with_reducible apply Kept.fold2 | with_reducible apply Kept.fold1 | (lift_lets; intro t; first | (with_reducible refine Kept.cut t ?_ ?_; unfold t) | skip) | dsimp -zeta only | split | dsimp +zetaDelta only)

theorem State.verified_kept {r₀ : State} (s : State) (o : DawnOp) (f : Stream) (v : StreamCheck) (h0 : Kept r₀ s) : Kept r₀ (State.verified s o f v) := by
  unfold State.verified
  repeat' (first | with_reducible assumption | (intro t; first | (with_reducible refine Kept.cut t ?_ ?_; unfold t) | beta_reduce | skip) | with_reducible apply State.fullBegin_kept | with_reducible apply State.fullCommit_kept | with_reducible apply State.keyMismatch_kept | with_reducible apply State.opFail_kept | with_reducible apply State.partCommit_kept | with_reducible apply State.setR_kept | with_reducible apply State.modDawn_kept | with_reducible apply Kept.ite | with_reducible apply Kept.fold | with_reducible apply Kept.fold2 | with_reducible apply Kept.fold1 | (lift_lets; intro t; first | (with_reducible refine Kept.cut t ?_ ?_; unfold t) | skip) | dsimp -zeta only | split | dsimp +zetaDelta only)

theorem State.verifyDone_kept {r₀ : State} (s : State) (v : StreamCheck) (h0 : Kept r₀ s) : Kept r₀ (State.verifyDone s v) := by
  unfold State.verifyDone
  repeat' (first | with_reducible assumption | (intro t; first | (with_reducible refine Kept.cut t ?_ ?_; unfold t) | beta_reduce | skip) | with_reducible apply State.verified_kept | with_reducible apply Kept.ite | with_reducible apply Kept.fold | with_reducible apply Kept.fold2 | with_reducible apply Kept.fold1 | (lift_lets; intro t; first | (with_reducible refine Kept.cut t ?_ ?_; unfold t) | skip) | dsimp -zeta only | split | dsimp +zetaDelta only)

theorem State.stageGo_kept {r₀ : State} (s : State) (part : Bool) (src addr len : Nat) (h0 : Kept r₀ s) : Kept r₀ (State.stageGo s part src addr len) := by
  unfold State.stageGo
  repeat' (first | with_reducible assumption | (intro t; first | (with_reducible refine Kept.cut t ?_ ?_; unfold t) | beta_reduce | skip) | with_reducible apply State.bufferBegin_kept | with_reducible apply State.opFail_kept | with_reducible apply State.opStart_kept | with_reducible apply State.setR_kept | with_reducible apply Kept.ite | with_reducible apply Kept.fold | with_reducible apply Kept.fold2 | with_reducible apply Kept.fold1 | (lift_lets; intro t; first | (with_reducible refine Kept.cut t ?_ ?_; unfold t) | skip) | dsimp -zeta only | split | dsimp +zetaDelta only)

theorem State.dwnGo_kept {r₀ : State} (s : State) (h0 : Kept r₀ s) : Kept r₀ (State.dwnGo s) := by
  unfold State.dwnGo
  repeat' (first | with_reducible assumption | (intro t; first | (with_reducible refine Kept.cut t ?_ ?_; unfold t) | beta_reduce | skip) | with_reducible apply State.stageGo_kept | with_reducible apply Kept.ite | with_reducible apply Kept.fold | with_reducible apply Kept.fold2 | with_reducible apply Kept.fold1 | (lift_lets; intro t; first | (with_reducible refine Kept.cut t ?_ ?_; unfold t) | skip) | dsimp -zeta only | split | dsimp +zetaDelta only)

theorem execDwnGo_kept {r₀ : State} (part : Bool) (req : BitVec 16) (s : State) (h0 : Kept r₀ s) : KeptR r₀ (execDwnGo part req s) := by
  unfold execDwnGo
  repeat' (first | with_reducible assumption | (intro t; first | (with_reducible refine Kept.cut t ?_ ?_; unfold t) | beta_reduce | skip) | with_reducible apply KeptR.next | with_reducible apply State.denied_kept | with_reducible apply State.dwnGo_kept | with_reducible apply State.respond_kept | with_reducible apply State.setR_kept | with_reducible apply Kept.ite | with_reducible apply KeptR.ite | with_reducible apply Kept.fold | with_reducible apply Kept.fold2 | with_reducible apply Kept.fold1 | (lift_lets; intro t; first | (with_reducible refine Kept.cut t ?_ ?_; unfold t) | skip) | dsimp -zeta only | split | dsimp +zetaDelta only)

theorem State.pciStageGo_kept {r₀ : State} (s : State) (h0 : Kept r₀ s) : Kept r₀ (State.pciStageGo s) := by
  unfold State.pciStageGo
  repeat' (first | with_reducible assumption | (intro t; first | (with_reducible refine Kept.cut t ?_ ?_; unfold t) | beta_reduce | skip) | with_reducible apply State.stageGo_kept | with_reducible apply Kept.ite | with_reducible apply Kept.fold | with_reducible apply Kept.fold2 | with_reducible apply Kept.fold1 | (lift_lets; intro t; first | (with_reducible refine Kept.cut t ?_ ?_; unfold t) | skip) | dsimp -zeta only | split | dsimp +zetaDelta only)

theorem execPciStageGo_kept {r₀ : State} (req : BitVec 16) (kind : Bool) (s : State) (h0 : Kept r₀ s) : KeptR r₀ (execPciStageGo req kind s) := by
  unfold execPciStageGo
  repeat' (first | with_reducible assumption | (intro t; first | (with_reducible refine Kept.cut t ?_ ?_; unfold t) | beta_reduce | skip) | with_reducible apply KeptR.next | with_reducible apply State.denied_kept | with_reducible apply State.pciStageGo_kept | with_reducible apply State.respond_kept | with_reducible apply State.setR_kept | with_reducible apply Kept.ite | with_reducible apply KeptR.ite | with_reducible apply Kept.fold | with_reducible apply Kept.fold2 | with_reducible apply Kept.fold1 | (lift_lets; intro t; first | (with_reducible refine Kept.cut t ?_ ?_; unfold t) | skip) | dsimp -zeta only | split | dsimp +zetaDelta only)

theorem State.stageAbort_kept {r₀ : State} (s : State) (src : Nat) (h0 : Kept r₀ s) : Kept r₀ (State.stageAbort s src) := by
  unfold State.stageAbort
  repeat' (first | with_reducible assumption | (intro t; first | (with_reducible refine Kept.cut t ?_ ?_; unfold t) | beta_reduce | skip) | with_reducible apply State.opEnd_kept | with_reducible apply State.raise_kept | with_reducible apply State.setR_kept | with_reducible apply State.stageMirror_kept | with_reducible apply Kept.ite | with_reducible apply Kept.fold | with_reducible apply Kept.fold2 | with_reducible apply Kept.fold1 | (lift_lets; intro t; first | (with_reducible refine Kept.cut t ?_ ?_; unfold t) | skip) | dsimp -zeta only | split | dsimp +zetaDelta only)

theorem execDwnAbort_kept {r₀ : State} (req : BitVec 16) (s : State) (h0 : Kept r₀ s) : KeptR r₀ (execDwnAbort req s) := by
  unfold execDwnAbort
  repeat' (first | with_reducible assumption | (intro t; first | (with_reducible refine Kept.cut t ?_ ?_; unfold t) | beta_reduce | skip) | with_reducible apply KeptR.next | with_reducible apply State.denied_kept | with_reducible apply State.respond_kept | with_reducible apply State.stageAbort_kept | with_reducible apply Kept.ite | with_reducible apply KeptR.ite | with_reducible apply Kept.fold | with_reducible apply Kept.fold2 | with_reducible apply Kept.fold1 | (lift_lets; intro t; first | (with_reducible refine Kept.cut t ?_ ?_; unfold t) | skip) | dsimp -zeta only | split | dsimp +zetaDelta only)

theorem execPciStageAbort_kept {r₀ : State} (req : BitVec 16) (s : State) (h0 : Kept r₀ s) : KeptR r₀ (execPciStageAbort req s) := by
  unfold execPciStageAbort
  repeat' (first | with_reducible assumption | (intro t; first | (with_reducible refine Kept.cut t ?_ ?_; unfold t) | beta_reduce | skip) | with_reducible apply KeptR.next | with_reducible apply State.denied_kept | with_reducible apply State.respond_kept | with_reducible apply State.stageAbort_kept | with_reducible apply Kept.ite | with_reducible apply KeptR.ite | with_reducible apply Kept.fold | with_reducible apply Kept.fold2 | with_reducible apply Kept.fold1 | (lift_lets; intro t; first | (with_reducible refine Kept.cut t ?_ ?_; unfold t) | skip) | dsimp -zeta only | split | dsimp +zetaDelta only)

theorem State.applied_kept {r₀ : State} (s : State) (o : DawnOp) (f : Stream) (poison : Bool) (h0 : Kept r₀ s) : Kept r₀ (State.applied s o f poison) := by
  unfold State.applied
  repeat' (first | with_reducible assumption | (intro t; first | (with_reducible refine Kept.cut t ?_ ?_; unfold t) | beta_reduce | skip) | with_reducible apply State.bufferEnd_kept | with_reducible apply State.fullCommit_kept | with_reducible apply State.holdRegion_kept | with_reducible apply State.opFail_kept | with_reducible apply State.restoreRam_kept | with_reducible apply State.scheduleRelease_kept | with_reducible apply State.writeFrames_kept | with_reducible apply State.writeImages_kept | with_reducible apply State.writeRecord_kept | with_reducible apply Kept.ite | with_reducible apply Kept.fold | with_reducible apply Kept.fold2 | with_reducible apply Kept.fold1 | (lift_lets; intro t; first | (with_reducible refine Kept.cut t ?_ ?_; unfold t) | skip) | dsimp -zeta only | split | dsimp +zetaDelta only)

theorem State.applyDone_kept {r₀ : State} (s : State) (poison : Bool) (h0 : Kept r₀ s) : Kept r₀ (State.applyDone s poison) := by
  unfold State.applyDone
  repeat' (first | with_reducible assumption | (intro t; first | (with_reducible refine Kept.cut t ?_ ?_; unfold t) | beta_reduce | skip) | with_reducible apply State.applied_kept | with_reducible apply Kept.ite | with_reducible apply Kept.fold | with_reducible apply Kept.fold2 | with_reducible apply Kept.fold1 | (lift_lets; intro t; first | (with_reducible refine Kept.cut t ?_ ?_; unfold t) | skip) | dsimp -zeta only | split | dsimp +zetaDelta only)

theorem State.relGo_kept {r₀ : State} (s : State) (h0 : Kept r₀ s) : Kept r₀ (State.relGo s) := by
  unfold State.relGo
  repeat' (first | with_reducible assumption | (intro t; first | (with_reducible refine Kept.cut t ?_ ?_; unfold t) | beta_reduce | skip) | with_reducible apply State.setR_kept | with_reducible apply State.modDawn_kept | with_reducible apply State.modFab_kept | with_reducible apply Kept.ite | with_reducible apply Kept.fold | with_reducible apply Kept.fold2 | with_reducible apply Kept.fold1 | (lift_lets; intro t; first | (with_reducible refine Kept.cut t ?_ ?_; unfold t) | skip) | dsimp -zeta only | split | dsimp +zetaDelta only)

theorem execDwnRelGo_kept {r₀ : State} (req : BitVec 16) (s : State) (h0 : Kept r₀ s) : KeptR r₀ (execDwnRelGo req s) := by
  unfold execDwnRelGo
  repeat' (first | with_reducible assumption | (intro t; first | (with_reducible refine Kept.cut t ?_ ?_; unfold t) | beta_reduce | skip) | with_reducible apply KeptR.next | with_reducible apply State.denied_kept | with_reducible apply State.relGo_kept | with_reducible apply State.respond_kept | with_reducible apply Kept.ite | with_reducible apply KeptR.ite | with_reducible apply Kept.fold | with_reducible apply Kept.fold2 | with_reducible apply Kept.fold1 | (lift_lets; intro t; first | (with_reducible refine Kept.cut t ?_ ?_; unfold t) | skip) | dsimp -zeta only | split | dsimp +zetaDelta only)

theorem State.putRel_kept {r₀ : State} (s : State) (n : Nat) (r : Release) (h0 : Kept r₀ s) : Kept r₀ (State.putRel s n r) := by
  unfold State.putRel
  repeat' (first | with_reducible assumption | (intro t; first | (with_reducible refine Kept.cut t ?_ ?_; unfold t) | beta_reduce | skip) | with_reducible apply State.modFab_kept | with_reducible apply Kept.ite | with_reducible apply Kept.fold | with_reducible apply Kept.fold2 | with_reducible apply Kept.fold1 | (lift_lets; intro t; first | (with_reducible refine Kept.cut t ?_ ?_; unfold t) | skip) | dsimp -zeta only | split | dsimp +zetaDelta only)

theorem State.askAll_kept {r₀ : State} (s : State) (r : Release) (step : Nat) (h0 : Kept r₀ s) : Kept r₀ (State.askAll s r step) := by
  unfold State.askAll
  repeat' (first | with_reducible assumption | (intro t; first | (with_reducible refine Kept.cut t ?_ ?_; unfold t) | beta_reduce | skip) | with_reducible apply State.askStep_kept | with_reducible apply Kept.ite | with_reducible apply Kept.fold | with_reducible apply Kept.fold2 | with_reducible apply Kept.fold1 | (lift_lets; intro t; first | (with_reducible refine Kept.cut t ?_ ?_; unfold t) | skip) | dsimp -zeta only | split | dsimp +zetaDelta only)

theorem State.outhold_kept {r₀ : State} (s : State) (n : Nat) (r : Release) (h0 : Kept r₀ s) : Kept r₀ (State.outhold s n r) := by
  unfold State.outhold
  repeat' (first | with_reducible assumption | (intro t; first | (with_reducible refine Kept.cut t ?_ ?_; unfold t) | beta_reduce | skip) | with_reducible apply State.askAll_kept | with_reducible apply State.putRel_kept | with_reducible apply State.raise_kept | with_reducible apply State.setR_kept | with_reducible apply State.writeRecord_kept | with_reducible apply State.modDawn_kept | with_reducible apply Kept.ite | with_reducible apply Kept.fold | with_reducible apply Kept.fold2 | with_reducible apply Kept.fold1 | (lift_lets; intro t; first | (with_reducible refine Kept.cut t ?_ ?_; unfold t) | skip) | dsimp -zeta only | split | dsimp +zetaDelta only)

theorem execOutholdRelease_kept {r₀ : State} (rel : Nat) (s : State) (h0 : Kept r₀ s) : KeptR r₀ (execOutholdRelease rel s) := by
  unfold execOutholdRelease
  repeat' (first | with_reducible assumption | (intro t; first | (with_reducible refine Kept.cut t ?_ ?_; unfold t) | beta_reduce | skip) | with_reducible apply KeptR.next | with_reducible apply State.outhold_kept | with_reducible apply State.when_kept | with_reducible apply Kept.ite | with_reducible apply KeptR.ite | with_reducible apply Kept.fold | with_reducible apply Kept.fold2 | with_reducible apply Kept.fold1 | (lift_lets; intro t; first | (with_reducible refine Kept.cut t ?_ ?_; unfold t) | skip) | dsimp -zeta only | split | dsimp +zetaDelta only)

theorem execWrholdRelease_kept {r₀ : State} (rel : Nat) (s : State) (h0 : Kept r₀ s) : KeptR r₀ (execWrholdRelease rel s) := by
  unfold execWrholdRelease
  repeat' (first | with_reducible assumption | (intro t; first | (with_reducible refine Kept.cut t ?_ ?_; unfold t) | beta_reduce | skip) | with_reducible apply KeptR.next | with_reducible apply State.askAll_kept | with_reducible apply State.putRel_kept | with_reducible apply State.when_kept | with_reducible apply Kept.ite | with_reducible apply KeptR.ite | with_reducible apply Kept.fold | with_reducible apply Kept.fold2 | with_reducible apply Kept.fold1 | (lift_lets; intro t; first | (with_reducible refine Kept.cut t ?_ ?_; unfold t) | skip) | dsimp -zeta only | split | dsimp +zetaDelta only)

theorem State.startCores_kept {r₀ : State} (s : State) (h0 : Kept r₀ s) : Kept r₀ (State.startCores s) := by
  unfold State.startCores
  repeat' (first | with_reducible assumption | (intro t; first | (with_reducible refine Kept.cut t ?_ ?_; unfold t) | beta_reduce | skip) | with_reducible apply State.setR_kept | with_reducible apply Kept.ite | with_reducible apply Kept.fold | with_reducible apply Kept.fold2 | with_reducible apply Kept.fold1 | (lift_lets; intro t; first | (with_reducible refine Kept.cut t ?_ ?_; unfold t) | skip) | dsimp -zeta only | split | dsimp +zetaDelta only)

theorem State.sthold_kept {r₀ : State} (s : State) (n : Nat) (r : Release) (h0 : Kept r₀ s) : Kept r₀ (State.sthold s n r) := by
  unfold State.sthold
  repeat' (first | with_reducible assumption | (intro t; first | (with_reducible refine Kept.cut t ?_ ?_; unfold t) | beta_reduce | skip) | with_reducible apply State.askAll_kept | with_reducible apply State.opEnd_kept | with_reducible apply State.raise_kept | with_reducible apply State.startCores_kept | with_reducible apply State.modFab_kept | with_reducible apply Kept.ite | with_reducible apply Kept.fold | with_reducible apply Kept.fold2 | with_reducible apply Kept.fold1 | (lift_lets; intro t; first | (with_reducible refine Kept.cut t ?_ ?_; unfold t) | skip) | dsimp -zeta only | split | dsimp +zetaDelta only)

theorem execStholdRelease_kept {r₀ : State} (rel : Nat) (s : State) (h0 : Kept r₀ s) : KeptR r₀ (execStholdRelease rel s) := by
  unfold execStholdRelease
  repeat' (first | with_reducible assumption | (intro t; first | (with_reducible refine Kept.cut t ?_ ?_; unfold t) | beta_reduce | skip) | with_reducible apply KeptR.next | with_reducible apply State.sthold_kept | with_reducible apply State.when_kept | with_reducible apply Kept.ite | with_reducible apply KeptR.ite | with_reducible apply Kept.fold | with_reducible apply Kept.fold2 | with_reducible apply Kept.fold1 | (lift_lets; intro t; first | (with_reducible refine Kept.cut t ?_ ?_; unfold t) | skip) | dsimp -zeta only | split | dsimp +zetaDelta only)

theorem State.restored_kept {r₀ : State} (s : State) (h0 : Kept r₀ s) : Kept r₀ (State.restored s) := by
  unfold State.restored
  repeat' (first | with_reducible assumption | (intro t; first | (with_reducible refine Kept.cut t ?_ ?_; unfold t) | beta_reduce | skip) | with_reducible apply State.modFab_kept | with_reducible apply Kept.ite | with_reducible apply Kept.fold | with_reducible apply Kept.fold2 | with_reducible apply Kept.fold1 | (lift_lets; intro t; first | (with_reducible refine Kept.cut t ?_ ?_; unfold t) | skip) | dsimp -zeta only | split | dsimp +zetaDelta only)

theorem execRamRestoreDone_kept {r₀ : State} (rel : Nat) (s : State) (h0 : Kept r₀ s) : KeptR r₀ (execRamRestoreDone rel s) := by
  unfold execRamRestoreDone
  repeat' (first | with_reducible assumption | (intro t; first | (with_reducible refine Kept.cut t ?_ ?_; unfold t) | beta_reduce | skip) | with_reducible apply KeptR.next | with_reducible apply State.putRel_kept | with_reducible apply State.restoreRam_kept | with_reducible apply State.restored_kept | with_reducible apply State.when_kept | with_reducible apply Kept.ite | with_reducible apply KeptR.ite | with_reducible apply Kept.fold | with_reducible apply Kept.fold2 | with_reducible apply Kept.fold1 | (lift_lets; intro t; first | (with_reducible refine Kept.cut t ?_ ?_; unfold t) | skip) | dsimp -zeta only | split | dsimp +zetaDelta only)

theorem State.restoreSel_kept {r₀ : State} (s : State) (rg mux : Nat) (h0 : Kept r₀ s) : Kept r₀ (State.restoreSel s rg mux) := by
  unfold State.restoreSel
  repeat' (first | with_reducible assumption | (intro t; first | (with_reducible refine Kept.cut t ?_ ?_; unfold t) | beta_reduce | skip) | with_reducible apply State.modIc_kept | with_reducible apply Kept.ite | with_reducible apply Kept.fold | with_reducible apply Kept.fold2 | with_reducible apply Kept.fold1 | (lift_lets; intro t; first | (with_reducible refine Kept.cut t ?_ ?_; unfold t) | skip) | dsimp -zeta only | split | dsimp +zetaDelta only)

theorem State.reloadRegion_kept {r₀ : State} (s : State) (rg : Nat) (h0 : Kept r₀ s) : Kept r₀ (State.reloadRegion s rg) := by
  unfold State.reloadRegion
  repeat' (first | with_reducible assumption | (intro t; first | (with_reducible refine Kept.cut t ?_ ?_; unfold t) | beta_reduce | skip) | with_reducible apply State.holdRegion_kept | with_reducible apply State.restoreRam_kept | with_reducible apply State.modFab_kept | with_reducible apply State.modIc_kept | with_reducible apply Kept.ite | with_reducible apply Kept.fold | with_reducible apply Kept.fold2 | with_reducible apply Kept.fold1 | (lift_lets; intro t; first | (with_reducible refine Kept.cut t ?_ ?_; unfold t) | skip) | dsimp -zeta only | split | dsimp +zetaDelta only)

theorem State.frameMbu_kept {r₀ : State} (s : State) (rg a : Nat) (h0 : Kept r₀ s) : Kept r₀ (State.frameMbu s rg a) := by
  unfold State.frameMbu
  repeat' (first | with_reducible assumption | (intro t; first | (with_reducible refine Kept.cut t ?_ ?_; unfold t) | beta_reduce | skip) | with_reducible apply State.isolate_kept | with_reducible apply State.raise_kept | with_reducible apply State.reloadRegion_kept | with_reducible apply State.satAdd_kept | with_reducible apply State.setR_kept | with_reducible apply Kept.ite | with_reducible apply Kept.fold | with_reducible apply Kept.fold2 | with_reducible apply Kept.fold1 | (lift_lets; intro t; first | (with_reducible refine Kept.cut t ?_ ?_; unfold t) | skip) | dsimp -zeta only | split | dsimp +zetaDelta only)

theorem execDawnReadbackScan_kept {r₀ : State} (fd : Fin 8) (rgn_ : Fin 384) (index : BitVec 8) (found : FrameCheck) (s : State) (h0 : Kept r₀ s) : KeptR r₀ (execDawnReadbackScan fd rgn_ index found s) := by
  unfold execDawnReadbackScan
  repeat' (first | with_reducible assumption | (intro t; first | (with_reducible refine Kept.cut t ?_ ?_; unfold t) | beta_reduce | skip) | with_reducible apply KeptR.next | with_reducible apply State.frameMbu_kept | with_reducible apply State.raise_kept | with_reducible apply State.restoreSel_kept | with_reducible apply State.satAdd_kept | with_reducible apply State.wrapAdd_kept | with_reducible apply Kept.ite | with_reducible apply KeptR.ite | with_reducible apply Kept.fold | with_reducible apply Kept.fold2 | with_reducible apply Kept.fold1 | (lift_lets; intro t; first | (with_reducible refine Kept.cut t ?_ ?_; unfold t) | skip) | dsimp -zeta only | split | dsimp +zetaDelta only)

theorem State.reloadEnable_kept {r₀ : State} (s : State) (en : Bool) (h0 : Kept r₀ s) : Kept r₀ (State.reloadEnable s en) := by
  unfold State.reloadEnable
  repeat' (first | with_reducible assumption | (intro t; first | (with_reducible refine Kept.cut t ?_ ?_; unfold t) | beta_reduce | skip) | with_reducible apply State.setR_kept | with_reducible apply Kept.ite | with_reducible apply Kept.fold | with_reducible apply Kept.fold2 | with_reducible apply Kept.fold1 | (lift_lets; intro t; first | (with_reducible refine Kept.cut t ?_ ?_; unfold t) | skip) | dsimp -zeta only | split | dsimp +zetaDelta only)

theorem execDawnReloadEnable_kept {r₀ : State} (en : Bool) (req : BitVec 16) (s : State) (h0 : Kept r₀ s) : KeptR r₀ (execDawnReloadEnable en req s) := by
  unfold execDawnReloadEnable
  repeat' (first | with_reducible assumption | (intro t; first | (with_reducible refine Kept.cut t ?_ ?_; unfold t) | beta_reduce | skip) | with_reducible apply KeptR.next | with_reducible apply State.denied_kept | with_reducible apply State.reloadEnable_kept | with_reducible apply State.respond_kept | with_reducible apply Kept.ite | with_reducible apply KeptR.ite | with_reducible apply Kept.fold | with_reducible apply Kept.fold2 | with_reducible apply Kept.fold1 | (lift_lets; intro t; first | (with_reducible refine Kept.cut t ?_ ?_; unfold t) | skip) | dsimp -zeta only | split | dsimp +zetaDelta only)

theorem execDawnReloadHashDone_kept {r₀ : State} (digest : BitVec 384) (s : State) (h0 : Kept r₀ s) : KeptR r₀ (execDawnReloadHashDone digest s) := by
  unfold execDawnReloadHashDone
  repeat' (first | with_reducible assumption | (intro t; first | (with_reducible refine Kept.cut t ?_ ?_; unfold t) | beta_reduce | skip) | with_reducible apply KeptR.next | with_reducible apply State.setR_kept | with_reducible apply State.when_kept | with_reducible apply Kept.ite | with_reducible apply KeptR.ite | with_reducible apply Kept.fold | with_reducible apply Kept.fold2 | with_reducible apply Kept.fold1 | (lift_lets; intro t; first | (with_reducible refine Kept.cut t ?_ ?_; unfold t) | skip) | dsimp -zeta only | split | dsimp +zetaDelta only)

end Sys2Proof.Machine
end

