-- ==== Sys2Proof/Laws/Kept/Reset.lean ====
section
/-!
SUPPORT. Every operation of Machine/Reset.lean leaves the queue and keeps the tables in canonical form.
-/

set_option linter.unreachableTactic false
set_option linter.unusedTactic false
set_option linter.unusedVariables false

namespace Sys2Proof.Machine

theorem State.startedWrites_kept {r₀ : State} (s : State) (h0 : Kept r₀ s) : Kept r₀ (State.startedWrites s) := by
  unfold State.startedWrites
  repeat' (first | with_reducible assumption | (intro t; first | (with_reducible refine Kept.cut t ?_ ?_; unfold t) | beta_reduce | skip) | with_reducible apply State.putNvmWord_kept | with_reducible apply Kept.ite | with_reducible apply Kept.fold | with_reducible apply Kept.fold2 | with_reducible apply Kept.fold1 | (lift_lets; intro t; first | (with_reducible refine Kept.cut t ?_ ?_; unfold t) | skip) | dsimp -zeta only | split | dsimp +zetaDelta only)

theorem State.bare_kept {r : State} (s : State) (regs : Map Nat) (h : Kept r s) (hr : r.tidy = true → Map.sortedFrom 0 regs = true) :
    Kept r (s.bare regs) := by
  refine ⟨h.1, fun ht => ?_⟩
  have hs := (State.tidy_iff _).mp (h.2 ht)
  exact (State.tidy_iff _).mpr ⟨hr ht, Map.wf_filter _ _ _ hs.2.1, rfl⟩

theorem State.loadRole_kept {r₀ : State} (s : State) (h0 : Kept r₀ s) : Kept r₀ (State.loadRole s) := by
  unfold State.loadRole
  repeat' (first | with_reducible assumption | (intro t; first | (with_reducible refine Kept.cut t ?_ ?_; unfold t) | beta_reduce | skip) | with_reducible apply State.enterMaster_kept | with_reducible apply State.setR_kept | with_reducible apply Kept.ite | with_reducible apply Kept.fold | with_reducible apply Kept.fold2 | with_reducible apply Kept.fold1 | (lift_lets; intro t; first | (with_reducible refine Kept.cut t ?_ ?_; unfold t) | skip) | dsimp -zeta only | split | dsimp +zetaDelta only)

theorem State.deriveKeys_kept {r₀ : State} (s : State) (h0 : Kept r₀ s) : Kept r₀ (State.deriveKeys s) := by
  unfold State.deriveKeys
  repeat' (first | with_reducible assumption | (intro t; first | (with_reducible refine Kept.cut t ?_ ?_; unfold t) | beta_reduce | skip) | with_reducible apply State.modSage_kept | with_reducible apply Kept.ite | with_reducible apply Kept.fold | with_reducible apply Kept.fold2 | with_reducible apply Kept.fold1 | (lift_lets; intro t; first | (with_reducible refine Kept.cut t ?_ ?_; unfold t) | skip) | dsimp -zeta only | split | dsimp +zetaDelta only)

theorem State.startUp_kept {r₀ : State} (s : State) (h0 : Kept r₀ s) : Kept r₀ (State.startUp s) := by
  unfold State.startUp
  repeat' (first | with_reducible assumption | (intro t; first | (with_reducible refine Kept.cut t ?_ ?_; unfold t) | beta_reduce | skip) | with_reducible apply State.applySparing_kept | with_reducible apply State.deriveKeys_kept | with_reducible apply State.loadRole_kept | with_reducible apply State.setR_kept | with_reducible apply Kept.ite | with_reducible apply Kept.fold | with_reducible apply Kept.fold2 | with_reducible apply Kept.fold1 | (lift_lets; intro t; first | (with_reducible refine Kept.cut t ?_ ?_; unfold t) | skip) | dsimp -zeta only | split | dsimp +zetaDelta only)

theorem State.resetDomains_kept {r₀ : State} (s : State) (h0 : Kept r₀ s) : Kept r₀ (State.resetDomains s) := by
  unfold State.resetDomains
  repeat' (first | with_reducible assumption | (intro t; first | (with_reducible refine Kept.cut t ?_ ?_; unfold t) | beta_reduce | skip) | with_reducible apply State.cutPower_kept | with_reducible apply State.setR_kept | with_reducible apply Kept.ite | with_reducible apply Kept.fold | with_reducible apply Kept.fold2 | with_reducible apply Kept.fold1 | (lift_lets; intro t; first | (with_reducible refine Kept.cut t ?_ ?_; unfold t) | skip) | dsimp -zeta only | split | dsimp +zetaDelta only)

theorem State.resetWdt_kept {r : State} (s old : State) (h : Kept r s) : Kept r (s.resetWdt old) :=
  State.putCount_kept _ _ _ (State.putCount_kept _ _ _ h)

theorem State.resetKeys_kept {r₀ : State} (s old : State) (h0 : Kept r₀ s) (h1 : Kept r₀ old) : Kept r₀ (State.resetKeys s old) := by
  unfold State.resetKeys
  repeat' (first | with_reducible assumption | (intro t; first | (with_reducible refine Kept.cut t ?_ ?_; unfold t) | beta_reduce | skip) | with_reducible apply State.setR_kept | with_reducible apply Kept.ite | with_reducible apply Kept.fold | with_reducible apply Kept.fold2 | with_reducible apply Kept.fold1 | (lift_lets; intro t; first | (with_reducible refine Kept.cut t ?_ ?_; unfold t) | skip) | dsimp -zeta only | split | dsimp +zetaDelta only)

theorem State.deviceReset_kept {r : State} (s : State) (keep : Bool) (h : Kept r s) : Kept r (s.deviceReset keep) := by
  have hb : ∀ c : State, Kept r c → Kept r (c.bare (c.regs.filter (fun e => keptKey e.1))) := fun c hc =>
    State.bare_kept _ _ hc fun ht => Map.sortedFrom_filter _ _ _ ((State.tidy_iff _).mp (hc.2 ht)).1
  unfold State.deviceReset
  lift_lets
  intro o c t1 t2 t3
  have h1 : Kept r t1 := State.modDbg_kept (hb _ (Kept.ite (State.sessionClose_kept _ h) h))
  have h2 : Kept r t2 := State.startUp_kept _ (State.resetKeys_kept _ c (State.resetWdt_kept _ _ (State.resetDomains_kept _ (State.wrapAdd_kept _ _ _ _ h1)))
    (Kept.ite (State.sessionClose_kept _ h) h))
  have h3 : Kept r t3 := Kept.ite (State.irqEdge_kept _ _ (State.raise_kept _ _ _ _ _ h2)) h2
  exact State.alerts_kept _ h3

theorem State.deviceResetBy_kept {r₀ : State} (s : State) (cause : Field) (keep : Bool) (h0 : Kept r₀ s) : Kept r₀ (State.deviceResetBy s cause keep) := by
  unfold State.deviceResetBy
  repeat' (first | with_reducible assumption | (intro t; first | (with_reducible refine Kept.cut t ?_ ?_; unfold t) | beta_reduce | skip) | with_reducible apply State.deviceReset_kept | with_reducible apply State.setR_kept | with_reducible apply Kept.ite | with_reducible apply Kept.fold | with_reducible apply Kept.fold2 | with_reducible apply Kept.fold1 | (lift_lets; intro t; first | (with_reducible refine Kept.cut t ?_ ?_; unfold t) | skip) | dsimp -zeta only | split | dsimp +zetaDelta only)

theorem execDevRstDevice_kept {r₀ : State} (key : BitVec 16) (s : State) (h0 : Kept r₀ s) : KeptR r₀ (execDevRstDevice key s) := by
  unfold execDevRstDevice
  repeat' (first | with_reducible assumption | (intro t; first | (with_reducible refine Kept.cut t ?_ ?_; unfold t) | beta_reduce | skip) | with_reducible apply KeptR.next | with_reducible apply State.deviceResetBy_kept | with_reducible apply State.setR_kept | with_reducible apply Kept.ite | with_reducible apply KeptR.ite | with_reducible apply Kept.fold | with_reducible apply Kept.fold2 | with_reducible apply Kept.fold1 | (lift_lets; intro t; first | (with_reducible refine Kept.cut t ?_ ?_; unfold t) | skip) | dsimp -zeta only | split | dsimp +zetaDelta only)

theorem execDmNdmreset_kept {r₀ : State} (s : State) (h0 : Kept r₀ s) : KeptR r₀ (execDmNdmreset s) := by
  unfold execDmNdmreset
  repeat' (first | with_reducible assumption | (intro t; first | (with_reducible refine Kept.cut t ?_ ?_; unfold t) | beta_reduce | skip) | with_reducible apply KeptR.next | with_reducible apply State.deviceResetBy_kept | with_reducible apply State.when_kept | with_reducible apply Kept.ite | with_reducible apply KeptR.ite | with_reducible apply Kept.fold | with_reducible apply Kept.fold2 | with_reducible apply Kept.fold1 | (lift_lets; intro t; first | (with_reducible refine Kept.cut t ?_ ?_; unfold t) | skip) | dsimp -zeta only | split | dsimp +zetaDelta only)

theorem execDrwResetLow_kept {r₀ : State} (s : State) (h0 : Kept r₀ s) : KeptR r₀ (execDrwResetLow s) := by
  unfold execDrwResetLow
  repeat' (first | with_reducible assumption | (intro t; first | (with_reducible refine Kept.cut t ?_ ?_; unfold t) | beta_reduce | skip) | with_reducible apply KeptR.next | with_reducible apply State.deviceReset_kept | with_reducible apply State.raise_kept | with_reducible apply State.satAdd_kept | with_reducible apply State.modDbg_kept | with_reducible apply Kept.ite | with_reducible apply KeptR.ite | with_reducible apply Kept.fold | with_reducible apply Kept.fold2 | with_reducible apply Kept.fold1 | (lift_lets; intro t; first | (with_reducible refine Kept.cut t ?_ ?_; unfold t) | skip) | dsimp -zeta only | split | dsimp +zetaDelta only)

theorem execDrwResetRelease_kept {r₀ : State} (s : State) (h0 : Kept r₀ s) : KeptR r₀ (execDrwResetRelease s) := by
  unfold execDrwResetRelease
  repeat' (first | with_reducible assumption | (intro t; first | (with_reducible refine Kept.cut t ?_ ?_; unfold t) | beta_reduce | skip) | with_reducible apply KeptR.next | with_reducible apply State.setR_kept | with_reducible apply State.modDbg_kept | with_reducible apply Kept.ite | with_reducible apply KeptR.ite | with_reducible apply Kept.fold | with_reducible apply Kept.fold2 | with_reducible apply Kept.fold1 | (lift_lets; intro t; first | (with_reducible refine Kept.cut t ?_ ?_; unfold t) | skip) | dsimp -zeta only | split | dsimp +zetaDelta only)

theorem execPowerOnReset_kept {r : State} (s : State) (h : Kept r s) : KeptR r (execPowerOnReset s) :=
  KeptR.next (State.wrapAdd_kept _ _ _ _ (State.setR_kept _ _ _ _ (State.bare_kept _ _ h fun ht =>
    Map.sortedFrom_filter _ _ _ ((State.tidy_iff _).mp (h.2 ht)).1)))

theorem State.resumeErase_kept {r₀ : State} (s : State) (h0 : Kept r₀ s) : Kept r₀ (State.resumeErase s) := by
  unfold State.resumeErase
  repeat' (first | with_reducible assumption | (intro t; first | (with_reducible refine Kept.cut t ?_ ?_; unfold t) | beta_reduce | skip) | with_reducible apply State.raise_kept | with_reducible apply State.sageErase_kept | with_reducible apply Kept.ite | with_reducible apply Kept.fold | with_reducible apply Kept.fold2 | with_reducible apply Kept.fold1 | (lift_lets; intro t; first | (with_reducible refine Kept.cut t ?_ ?_; unfold t) | skip) | dsimp -zeta only | split | dsimp +zetaDelta only)

theorem execPowerOnResetEnd_kept {r₀ : State} (syncrole : Bool) (bootsrc : Fin 4) (pullUp : Bool) (vio : BitVec 2) (s : State) (h0 : Kept r₀ s) : KeptR r₀ (execPowerOnResetEnd syncrole bootsrc pullUp vio s) := by
  unfold execPowerOnResetEnd
  repeat' (first | with_reducible assumption | (intro t; first | (with_reducible refine Kept.cut t ?_ ?_; unfold t) | beta_reduce | skip) | with_reducible apply KeptR.next | with_reducible apply State.resumeErase_kept | with_reducible apply State.setR_kept | with_reducible apply State.startUp_kept | with_reducible apply Kept.ite | with_reducible apply KeptR.ite | with_reducible apply Kept.fold | with_reducible apply Kept.fold2 | with_reducible apply Kept.fold1 | (lift_lets; intro t; first | (with_reducible refine Kept.cut t ?_ ?_; unfold t) | skip) | dsimp -zeta only | split | dsimp +zetaDelta only)

theorem State.warmNow_kept {r₀ : State} (s : State) (h0 : Kept r₀ s) : Kept r₀ (State.warmNow s) := by
  unfold State.warmNow
  repeat' (first | with_reducible assumption | (intro t; first | (with_reducible refine Kept.cut t ?_ ?_; unfold t) | beta_reduce | skip) | with_reducible apply State.askStep_kept | with_reducible apply State.restartRel_kept | with_reducible apply State.setR_kept | with_reducible apply State.modFab_kept | with_reducible apply Kept.ite | with_reducible apply Kept.fold | with_reducible apply Kept.fold2 | with_reducible apply Kept.fold1 | (lift_lets; intro t; first | (with_reducible refine Kept.cut t ?_ ?_; unfold t) | skip) | dsimp -zeta only | split | with_reducible apply Map.sortedFrom_filter | with_reducible apply Map.wf_filter | dsimp +zetaDelta only)

theorem State.warmReset_kept {r₀ : State} (s : State) (h0 : Kept r₀ s) : Kept r₀ (State.warmReset s) := by
  unfold State.warmReset
  repeat' (first | with_reducible assumption | (intro t; first | (with_reducible refine Kept.cut t ?_ ?_; unfold t) | beta_reduce | skip) | with_reducible apply State.warmNow_kept | with_reducible apply Kept.ite | with_reducible apply Kept.fold | with_reducible apply Kept.fold2 | with_reducible apply Kept.fold1 | (lift_lets; intro t; first | (with_reducible refine Kept.cut t ?_ ?_; unfold t) | skip) | dsimp -zeta only | split | dsimp +zetaDelta only)

theorem execDevRstWarm_kept {r₀ : State} (key : BitVec 16) (s : State) (h0 : Kept r₀ s) : KeptR r₀ (execDevRstWarm key s) := by
  unfold execDevRstWarm
  repeat' (first | with_reducible assumption | (intro t; first | (with_reducible refine Kept.cut t ?_ ?_; unfold t) | beta_reduce | skip) | with_reducible apply KeptR.next | with_reducible apply State.setR_kept | with_reducible apply State.warmReset_kept | with_reducible apply Kept.ite | with_reducible apply KeptR.ite | with_reducible apply Kept.fold | with_reducible apply Kept.fold2 | with_reducible apply Kept.fold1 | (lift_lets; intro t; first | (with_reducible refine Kept.cut t ?_ ?_; unfold t) | skip) | dsimp -zeta only | split | dsimp +zetaDelta only)

theorem State.hotNow_kept {r₀ : State} (s : State) (h0 : Kept r₀ s) : Kept r₀ (State.hotNow s) := by
  unfold State.hotNow
  repeat' (first | with_reducible assumption | (intro t; first | (with_reducible refine Kept.cut t ?_ ?_; unfold t) | beta_reduce | skip) | with_reducible apply State.pcieLines_kept | with_reducible apply State.raise_kept | with_reducible apply State.sessionClose_kept | with_reducible apply State.setR_kept | with_reducible apply State.warmReset_kept | with_reducible apply State.modPcie_kept | with_reducible apply State.modRegs_kept | with_reducible apply Kept.ite | with_reducible apply Kept.fold | with_reducible apply Kept.fold2 | with_reducible apply Kept.fold1 | (lift_lets; intro t; first | (with_reducible refine Kept.cut t ?_ ?_; unfold t) | skip) | dsimp -zeta only | split | with_reducible apply Map.sortedFrom_filter | with_reducible apply Map.wf_filter | dsimp +zetaDelta only)

theorem State.hotReset_kept {r₀ : State} (s : State) (h0 : Kept r₀ s) : Kept r₀ (State.hotReset s) := by
  unfold State.hotReset
  repeat' (first | with_reducible assumption | (intro t; first | (with_reducible refine Kept.cut t ?_ ?_; unfold t) | beta_reduce | skip) | with_reducible apply State.hotNow_kept | with_reducible apply Kept.ite | with_reducible apply Kept.fold | with_reducible apply Kept.fold2 | with_reducible apply Kept.fold1 | (lift_lets; intro t; first | (with_reducible refine Kept.cut t ?_ ?_; unfold t) | skip) | dsimp -zeta only | split | dsimp +zetaDelta only)

theorem execPcieLinkDown_kept {r₀ : State} (s : State) (h0 : Kept r₀ s) : KeptR r₀ (execPcieLinkDown s) := by
  unfold execPcieLinkDown
  repeat' (first | with_reducible assumption | (intro t; first | (with_reducible refine Kept.cut t ?_ ?_; unfold t) | beta_reduce | skip) | with_reducible apply KeptR.next | with_reducible apply State.hotReset_kept | with_reducible apply State.raise_kept | with_reducible apply State.when_kept | with_reducible apply Kept.ite | with_reducible apply KeptR.ite | with_reducible apply Kept.fold | with_reducible apply Kept.fold2 | with_reducible apply Kept.fold1 | (lift_lets; intro t; first | (with_reducible refine Kept.cut t ?_ ?_; unfold t) | skip) | dsimp -zeta only | split | dsimp +zetaDelta only)

theorem execPcieHotReset_kept {r₀ : State} (perst : Bool) (s : State) (h0 : Kept r₀ s) : KeptR r₀ (execPcieHotReset perst s) := by
  unfold execPcieHotReset
  repeat' (first | with_reducible assumption | (intro t; first | (with_reducible refine Kept.cut t ?_ ?_; unfold t) | beta_reduce | skip) | with_reducible apply KeptR.next | with_reducible apply State.hotReset_kept | with_reducible apply State.when_kept | with_reducible apply State.modPcie_kept | with_reducible apply Kept.ite | with_reducible apply KeptR.ite | with_reducible apply Kept.fold | with_reducible apply Kept.fold2 | with_reducible apply Kept.fold1 | (lift_lets; intro t; first | (with_reducible refine Kept.cut t ?_ ?_; unfold t) | skip) | dsimp -zeta only | split | dsimp +zetaDelta only)

theorem execPciFlr_kept {r₀ : State} (func : Fin 34) (s : State) (h0 : Kept r₀ s) : KeptR r₀ (execPciFlr func s) := by
  unfold execPciFlr
  repeat' (first | with_reducible assumption | (intro t; first | (with_reducible refine Kept.cut t ?_ ?_; unfold t) | beta_reduce | skip) | with_reducible apply KeptR.next | with_reducible apply State.dmaFlr_kept | with_reducible apply State.msix_kept | with_reducible apply State.pcieLines_kept | with_reducible apply State.raise_kept | with_reducible apply State.resetFields_kept | with_reducible apply State.sessionClose_kept | with_reducible apply State.setR_kept | with_reducible apply State.stageAbort_kept | with_reducible apply State.modPcie_kept | with_reducible apply Kept.ite | with_reducible apply KeptR.ite | with_reducible apply Kept.fold | with_reducible apply Kept.fold2 | with_reducible apply Kept.fold1 | (lift_lets; intro t; first | (with_reducible refine Kept.cut t ?_ ?_; unfold t) | skip) | dsimp -zeta only | split | with_reducible apply Map.sortedFrom_filter | with_reducible apply Map.wf_filter | dsimp +zetaDelta only)

theorem execPowerDomainOpen_kept {r₀ : State} (dom : Fin 128) (oscOk : Bool) (s : State) (h0 : Kept r₀ s) : KeptR r₀ (execPowerDomainOpen dom oscOk s) := by
  unfold execPowerDomainOpen
  repeat' (first | with_reducible assumption | (intro t; first | (with_reducible refine Kept.cut t ?_ ?_; unfold t) | beta_reduce | skip) | with_reducible apply KeptR.next | with_reducible apply State.deviceResetBy_kept | with_reducible apply State.hotReset_kept | with_reducible apply State.raise_kept | with_reducible apply State.setR_kept | with_reducible apply State.slotEnd_kept | with_reducible apply State.wakeEnd_kept | with_reducible apply Kept.ite | with_reducible apply KeptR.ite | with_reducible apply Kept.fold | with_reducible apply Kept.fold2 | with_reducible apply Kept.fold1 | (lift_lets; intro t; first | (with_reducible refine Kept.cut t ?_ ?_; unfold t) | skip) | dsimp -zeta only | split | dsimp +zetaDelta only)

theorem State.tripReset_kept {r : State} (s : State) (h : Kept r s) : Kept r s.tripReset :=
  State.modEvents_kept (State.setR_kept _ _ _ _ (State.deviceResetBy_kept _ _ _ h)) fun m hm => raiseIn_sorted m _ _ _ _ hm

theorem execSensorSample_kept {r₀ : State} (x : List Int) (s : State) (h0 : Kept r₀ s) : KeptR r₀ (execSensorSample x s) := by
  unfold execSensorSample
  repeat' (first | with_reducible assumption | (intro t; first | (with_reducible refine Kept.cut t ?_ ?_; unfold t) | beta_reduce | skip) | with_reducible apply KeptR.next | with_reducible apply State.roDrift_kept | with_reducible apply State.sensorPass_kept | with_reducible apply State.tripReset_kept | with_reducible apply Kept.ite | with_reducible apply KeptR.ite | with_reducible apply Kept.fold | with_reducible apply Kept.fold2 | with_reducible apply Kept.fold1 | (lift_lets; intro t; first | (with_reducible refine Kept.cut t ?_ ?_; unfold t) | skip) | dsimp -zeta only | split | dsimp +zetaDelta only)

theorem execDeskewRecalibrate_kept {r₀ : State} (die : Fin 12) (inRange : Bool) (s : State) (h0 : Kept r₀ s) : KeptR r₀ (execDeskewRecalibrate die inRange s) := by
  unfold execDeskewRecalibrate
  repeat' (first | with_reducible assumption | (intro t; first | (with_reducible refine Kept.cut t ?_ ?_; unfold t) | beta_reduce | skip) | with_reducible apply KeptR.next | with_reducible apply State.raise_kept | with_reducible apply State.setR_kept | with_reducible apply Kept.ite | with_reducible apply KeptR.ite | with_reducible apply Kept.fold | with_reducible apply Kept.fold2 | with_reducible apply Kept.fold1 | (lift_lets; intro t; first | (with_reducible refine Kept.cut t ?_ ?_; unfold t) | skip) | dsimp -zeta only | split | dsimp +zetaDelta only)

theorem execTimePllUnlock_kept {r₀ : State} (s : State) (h0 : Kept r₀ s) : KeptR r₀ (execTimePllUnlock s) := by
  unfold execTimePllUnlock
  repeat' (first | with_reducible assumption | (intro t; first | (with_reducible refine Kept.cut t ?_ ?_; unfold t) | beta_reduce | skip) | with_reducible apply KeptR.next | with_reducible apply State.pgeUnlock_kept | with_reducible apply State.raise_kept | with_reducible apply State.setR_kept | with_reducible apply State.tioFault_kept | with_reducible apply Kept.ite | with_reducible apply KeptR.ite | with_reducible apply Kept.fold | with_reducible apply Kept.fold2 | with_reducible apply Kept.fold1 | (lift_lets; intro t; first | (with_reducible refine Kept.cut t ?_ ?_; unfold t) | skip) | dsimp -zeta only | split | dsimp +zetaDelta only)

end Sys2Proof.Machine
end

