-- ==== Sys2Proof/Laws/Kept/DebugAccess.lean ====
section
/-!
SUPPORT. Every operation of Machine/DebugAccess.lean leaves the queue and keeps the tables in canonical form.
-/

set_option linter.unreachableTactic false
set_option linter.unusedTactic false
set_option linter.unusedVariables false

namespace Sys2Proof.Machine

theorem State.sbErr_kept {r₀ : State} (s : State) (e : Nat) (h0 : Kept r₀ s) : Kept r₀ (State.sbErr s e) := by
  unfold State.sbErr
  repeat' (first | with_reducible assumption | (intro t; first | (with_reducible refine Kept.cut t ?_ ?_; unfold t) | beta_reduce | skip) | with_reducible apply State.modDbg_kept | with_reducible apply Kept.ite | with_reducible apply Kept.fold | with_reducible apply Kept.fold2 | with_reducible apply Kept.fold1 | (lift_lets; intro t; first | (with_reducible refine Kept.cut t ?_ ?_; unfold t) | skip) | dsimp -zeta only | split | dsimp +zetaDelta only)

theorem State.sbStart_kept {r₀ : State} (s : State) (write peek : Bool) (h0 : Kept r₀ s) : Kept r₀ (State.sbStart s write peek) := by
  unfold State.sbStart
  repeat' (first | with_reducible assumption | (intro t; first | (with_reducible refine Kept.cut t ?_ ?_; unfold t) | beta_reduce | skip) | with_reducible apply State.sbErr_kept | with_reducible apply State.sendRead_kept | with_reducible apply State.sendWrite_kept | with_reducible apply State.modDbg_kept | with_reducible apply Kept.ite | with_reducible apply Kept.fold | with_reducible apply Kept.fold2 | with_reducible apply Kept.fold1 | (lift_lets; intro t; first | (with_reducible refine Kept.cut t ?_ ?_; unfold t) | skip) | dsimp -zeta only | split | dsimp +zetaDelta only)

theorem State.sbDone_kept {r₀ : State} (s : State) (p : Packet) (h0 : Kept r₀ s) : Kept r₀ (State.sbDone s p) := by
  unfold State.sbDone
  repeat' (first | with_reducible assumption | (intro t; first | (with_reducible refine Kept.cut t ?_ ?_; unfold t) | beta_reduce | skip) | with_reducible apply State.sbErr_kept | with_reducible apply State.modDbg_kept | with_reducible apply Kept.ite | with_reducible apply Kept.fold | with_reducible apply Kept.fold2 | with_reducible apply Kept.fold1 | (lift_lets; intro t; first | (with_reducible refine Kept.cut t ?_ ?_; unfold t) | skip) | dsimp -zeta only | split | dsimp +zetaDelta only)

theorem execDmSystemBusAccess_kept {r₀ : State} (addr : BitVec 48) (size : Fin 4) (write : Bool) (data : BitVec 64) (peek : Bool) (s : State) (h0 : Kept r₀ s) : KeptR r₀ (execDmSystemBusAccess addr size write data peek s) := by
  unfold execDmSystemBusAccess
  repeat' (first | with_reducible assumption | (intro t; first | (with_reducible refine Kept.cut t ?_ ?_; unfold t) | beta_reduce | skip) | with_reducible apply KeptR.next | with_reducible apply State.sbStart_kept | with_reducible apply State.modDbg_kept | with_reducible apply Kept.ite | with_reducible apply KeptR.ite | with_reducible apply Kept.fold | with_reducible apply Kept.fold2 | with_reducible apply Kept.fold1 | (lift_lets; intro t; first | (with_reducible refine Kept.cut t ?_ ?_; unfold t) | skip) | dsimp -zeta only | split | dsimp +zetaDelta only)

theorem State.autoExec_kept {r₀ : State} (s : State) (a : Nat) (h0 : Kept r₀ s) : Kept r₀ (State.autoExec s a) := by
  unfold State.autoExec
  repeat' (first | with_reducible assumption | (intro t; first | (with_reducible refine Kept.cut t ?_ ?_; unfold t) | beta_reduce | skip) | with_reducible apply State.abstractCmd_kept | with_reducible apply State.draw_kept | with_reducible apply Kept.ite | with_reducible apply Kept.fold | with_reducible apply Kept.fold2 | with_reducible apply Kept.fold1 | (lift_lets; intro t; first | (with_reducible refine Kept.cut t ?_ ?_; unfold t) | skip) | dsimp -zeta only | split | dsimp +zetaDelta only)

theorem State.dmReadDone_kept {r₀ : State} (s : State) (a : Nat) (h0 : Kept r₀ s) : Kept r₀ (State.dmReadDone s a) := by
  unfold State.dmReadDone
  repeat' (first | with_reducible assumption | (intro t; first | (with_reducible refine Kept.cut t ?_ ?_; unfold t) | beta_reduce | skip) | with_reducible apply State.autoExec_kept | with_reducible apply State.sbStart_kept | with_reducible apply State.modDbg_kept | with_reducible apply Kept.ite | with_reducible apply Kept.fold | with_reducible apply Kept.fold2 | with_reducible apply Kept.fold1 | (lift_lets; intro t; first | (with_reducible refine Kept.cut t ?_ ?_; unfold t) | skip) | dsimp -zeta only | split | dsimp +zetaDelta only)

theorem State.authWrite_kept {r₀ : State} (s : State) (v : Nat) (h0 : Kept r₀ s) : Kept r₀ (State.authWrite s v) := by
  unfold State.authWrite
  repeat' (first | with_reducible assumption | (intro t; first | (with_reducible refine Kept.cut t ?_ ?_; unfold t) | beta_reduce | skip) | with_reducible apply State.authNonce_kept | with_reducible apply execAuthDrop_kept | with_reducible apply execAuthGrant_kept | with_reducible apply took_kept | with_reducible apply State.modDbg_kept | with_reducible apply Kept.ite | with_reducible apply Kept.fold | with_reducible apply Kept.fold2 | with_reducible apply Kept.fold1 | (lift_lets; intro t; first | (with_reducible refine Kept.cut t ?_ ?_; unfold t) | skip) | dsimp -zeta only | split | dsimp +zetaDelta only)

theorem State.dmOff_kept {r₀ : State} (s : State) (h0 : Kept r₀ s) : Kept r₀ (State.dmOff s) := by
  unfold State.dmOff
  repeat' (first | with_reducible assumption | (intro t; first | (with_reducible refine Kept.cut t ?_ ?_; unfold t) | beta_reduce | skip) | with_reducible apply State.cmderr_kept | with_reducible apply State.modDbg_kept | with_reducible apply Kept.ite | with_reducible apply Kept.fold | with_reducible apply Kept.fold2 | with_reducible apply Kept.fold1 | (lift_lets; intro t; first | (with_reducible refine Kept.cut t ?_ ?_; unfold t) | skip) | dsimp -zeta only | split | dsimp +zetaDelta only)

theorem State.dmControl_kept {r₀ : State} (s : State) (v : Nat) (h0 : Kept r₀ s) : Kept r₀ (State.dmControl s v) := by
  unfold State.dmControl
  repeat' (first | with_reducible assumption | (intro t; first | (with_reducible refine Kept.cut t ?_ ?_; unfold t) | beta_reduce | skip) | with_reducible apply State.act_kept | with_reducible apply State.dmOff_kept | with_reducible apply State.hartReset_kept | with_reducible apply State.hartResume_kept | with_reducible apply execDmNdmreset_kept | with_reducible apply State.modDbg_kept | with_reducible apply Kept.ite | with_reducible apply Kept.fold | with_reducible apply Kept.fold2 | with_reducible apply Kept.fold1 | (lift_lets; intro t; first | (with_reducible refine Kept.cut t ?_ ?_; unfold t) | skip) | dsimp -zeta only | split | dsimp +zetaDelta only)

theorem State.sbcsWrite_kept {r₀ : State} (s : State) (v : Nat) (h0 : Kept r₀ s) : Kept r₀ (State.sbcsWrite s v) := by
  unfold State.sbcsWrite
  repeat' (first | with_reducible assumption | (intro t; first | (with_reducible refine Kept.cut t ?_ ?_; unfold t) | beta_reduce | skip) | with_reducible apply State.modDbg_kept | with_reducible apply Kept.ite | with_reducible apply Kept.fold | with_reducible apply Kept.fold2 | with_reducible apply Kept.fold1 | (lift_lets; intro t; first | (with_reducible refine Kept.cut t ?_ ?_; unfold t) | skip) | dsimp -zeta only | split | dsimp +zetaDelta only)

theorem State.sbWrite_kept {r₀ : State} (s : State) (a v : Nat) (peek : Bool) (h0 : Kept r₀ s) : Kept r₀ (State.sbWrite s a v peek) := by
  unfold State.sbWrite
  repeat' (first | with_reducible assumption | (intro t; first | (with_reducible refine Kept.cut t ?_ ?_; unfold t) | beta_reduce | skip) | with_reducible apply State.sbStart_kept | with_reducible apply State.modDbg_kept | with_reducible apply Kept.ite | with_reducible apply Kept.fold | with_reducible apply Kept.fold2 | with_reducible apply Kept.fold1 | (lift_lets; intro t; first | (with_reducible refine Kept.cut t ?_ ?_; unfold t) | skip) | dsimp -zeta only | split | dsimp +zetaDelta only)

theorem State.dmWrite_kept {r₀ : State} (s : State) (a v : Nat) (peek : Bool) (h0 : Kept r₀ s) : Kept r₀ (State.dmWrite s a v peek) := by
  unfold State.dmWrite
  repeat' (first | with_reducible assumption | (intro t; first | (with_reducible refine Kept.cut t ?_ ?_; unfold t) | beta_reduce | skip) | with_reducible apply State.abstractCmd_kept | with_reducible apply State.act_kept | with_reducible apply State.authWrite_kept | with_reducible apply State.autoExec_kept | with_reducible apply State.cmderr_kept | with_reducible apply State.dmControl_kept | with_reducible apply State.draw_kept | with_reducible apply State.sbWrite_kept | with_reducible apply State.sbcsWrite_kept | with_reducible apply execDmSessionCloseWrite_kept | with_reducible apply State.modDbg_kept | with_reducible apply Kept.ite | with_reducible apply Kept.fold | with_reducible apply Kept.fold2 | with_reducible apply Kept.fold1 | (lift_lets; intro t; first | (with_reducible refine Kept.cut t ?_ ?_; unfold t) | skip) | dsimp -zeta only | split | dsimp +zetaDelta only)

theorem State.dmi_kept {r₀ : State} (s : State) (a v : Nat) (write peek : Bool) (h0 : Kept r₀ s) : Kept r₀ (State.dmi s a v write peek).1 := by
  unfold State.dmi
  repeat' (first | with_reducible assumption | (intro t; first | (with_reducible refine Kept.cut t ?_ ?_; unfold t) | beta_reduce | skip) | with_reducible apply State.dmReadDone_kept | with_reducible apply State.dmWrite_kept | with_reducible apply Kept.ite | with_reducible apply Kept.fold | with_reducible apply Kept.fold2 | with_reducible apply Kept.fold1 | (lift_lets; intro t; first | (with_reducible refine Kept.cut t ?_ ?_; unfold t) | skip) | dsimp -zeta only | split | dsimp +zetaDelta only)

theorem State.drwAccess_kept {r₀ : State} (s : State) (a v : Nat) (write peek : Bool) (h0 : Kept r₀ s) : Kept r₀ (State.drwAccess s a v write peek) := by
  unfold State.drwAccess
  repeat' (first | with_reducible assumption | (intro t; first | (with_reducible refine Kept.cut t ?_ ?_; unfold t) | beta_reduce | skip) | with_reducible apply State.dmi_kept | with_reducible apply State.drwAnswer_kept | with_reducible apply Kept.ite | with_reducible apply Kept.fold | with_reducible apply Kept.fold2 | with_reducible apply Kept.fold1 | (lift_lets; intro t; first | (with_reducible refine Kept.cut t ?_ ?_; unfold t) | skip) | dsimp -zeta only | split | dsimp +zetaDelta only)

theorem execDrwRead_kept {r₀ : State} (addr : BitVec 7) (peek : Bool) (fr : DrwFrame) (s : State) (h0 : Kept r₀ s) : KeptR r₀ (execDrwRead addr peek fr s) := by
  unfold execDrwRead
  repeat' (first | with_reducible assumption | (intro t; first | (with_reducible refine Kept.cut t ?_ ?_; unfold t) | beta_reduce | skip) | with_reducible apply KeptR.next | with_reducible apply State.drwAccess_kept | with_reducible apply State.drwFrame_kept | with_reducible apply Kept.ite | with_reducible apply KeptR.ite | with_reducible apply Kept.fold | with_reducible apply Kept.fold2 | with_reducible apply Kept.fold1 | (lift_lets; intro t; first | (with_reducible refine Kept.cut t ?_ ?_; unfold t) | skip) | dsimp -zeta only | split | dsimp +zetaDelta only)

theorem execDrwWrite_kept {r₀ : State} (addr : BitVec 7) (data : BitVec 32) (peek : Bool) (fr : DrwFrame) (s : State) (h0 : Kept r₀ s) : KeptR r₀ (execDrwWrite addr data peek fr s) := by
  unfold execDrwWrite
  repeat' (first | with_reducible assumption | (intro t; first | (with_reducible refine Kept.cut t ?_ ?_; unfold t) | beta_reduce | skip) | with_reducible apply KeptR.next | with_reducible apply State.drwAccess_kept | with_reducible apply State.drwFrame_kept | with_reducible apply Kept.ite | with_reducible apply KeptR.ite | with_reducible apply Kept.fold | with_reducible apply Kept.fold2 | with_reducible apply Kept.fold1 | (lift_lets; intro t; first | (with_reducible refine Kept.cut t ?_ ?_; unfold t) | skip) | dsimp -zeta only | split | dsimp +zetaDelta only)

theorem State.dbgReply_kept {r₀ : State} (s : State) (result data : Nat) (h0 : Kept r₀ s) : Kept r₀ (State.dbgReply s result data) := by
  unfold State.dbgReply
  repeat' (first | with_reducible assumption | (intro t; first | (with_reducible refine Kept.cut t ?_ ?_; unfold t) | beta_reduce | skip) | with_reducible apply State.msix_kept | with_reducible apply State.setR_kept | with_reducible apply Kept.ite | with_reducible apply Kept.fold | with_reducible apply Kept.fold2 | with_reducible apply Kept.fold1 | (lift_lets; intro t; first | (with_reducible refine Kept.cut t ?_ ?_; unfold t) | skip) | dsimp -zeta only | split | dsimp +zetaDelta only)

theorem State.pciDbg_kept {r₀ : State} (s : State) (h0 : Kept r₀ s) : Kept r₀ (State.pciDbg s) := by
  unfold State.pciDbg
  repeat' (first | with_reducible assumption | (intro t; first | (with_reducible refine Kept.cut t ?_ ?_; unfold t) | beta_reduce | skip) | with_reducible apply State.dbgReply_kept | with_reducible apply State.dmi_kept | with_reducible apply State.sessionOpen_kept | with_reducible apply Kept.ite | with_reducible apply Kept.fold | with_reducible apply Kept.fold2 | with_reducible apply Kept.fold1 | (lift_lets; intro t; first | (with_reducible refine Kept.cut t ?_ ?_; unfold t) | skip) | dsimp -zeta only | split | dsimp +zetaDelta only)

theorem execPciDbgGo_kept {r₀ : State} (addr : BitVec 7) (op : BitVec 2) (peek : Bool) (s : State) (h0 : Kept r₀ s) : KeptR r₀ (execPciDbgGo addr op peek s) := by
  unfold execPciDbgGo
  repeat' (first | with_reducible assumption | (intro t; first | (with_reducible refine Kept.cut t ?_ ?_; unfold t) | beta_reduce | skip) | with_reducible apply KeptR.next | with_reducible apply State.pciDbg_kept | with_reducible apply State.setR_kept | with_reducible apply Kept.ite | with_reducible apply KeptR.ite | with_reducible apply Kept.fold | with_reducible apply Kept.fold2 | with_reducible apply Kept.fold1 | (lift_lets; intro t; first | (with_reducible refine Kept.cut t ?_ ?_; unfold t) | skip) | dsimp -zeta only | split | dsimp +zetaDelta only)

end Sys2Proof.Machine
end

