-- ==== Sys2Proof/Laws/Kept/BusTop.lean ====
section
/-!
SUPPORT. Every operation of Machine/BusTop.lean leaves the queue and keeps the tables in canonical form.
-/

set_option linter.unreachableTactic false
set_option linter.unusedTactic false
set_option linter.unusedVariables false

namespace Sys2Proof.Machine

theorem State.hooked_kept {r₀ : State} (s : State) (code v : Nat) (h0 : Kept r₀ s) : Kept r₀ (State.hooked s code v) := by
  unfold State.hooked
  repeat' (first | with_reducible assumption | (intro t; first | (with_reducible refine Kept.cut t ?_ ?_; unfold t) | beta_reduce | skip) | with_reducible apply State.dwnGo_kept | with_reducible apply State.pciDbg_kept | with_reducible apply State.pciStageGo_kept | with_reducible apply State.relGo_kept | with_reducible apply State.reloadEnable_kept | with_reducible apply State.stageAbort_kept | with_reducible apply execDevRstDevice_kept | with_reducible apply execDevRstWarm_kept | with_reducible apply took_kept | with_reducible apply Kept.ite | with_reducible apply Kept.fold | with_reducible apply Kept.fold2 | with_reducible apply Kept.fold1 | (lift_lets; intro t; first | (with_reducible refine Kept.cut t ?_ ?_; unfold t) | skip) | dsimp -zeta only | split | dsimp +zetaDelta only)

theorem State.settle_kept {r₀ : State} (s : State) (h0 : Kept r₀ s) : Kept r₀ (State.settle s) := by
  unfold State.settle
  repeat' (first | with_reducible assumption | (intro t; first | (with_reducible refine Kept.cut t ?_ ?_; unfold t) | beta_reduce | skip) | with_reducible apply State.hooked_kept | with_reducible apply State.noHook_kept | with_reducible apply Kept.ite | with_reducible apply Kept.fold | with_reducible apply Kept.fold2 | with_reducible apply Kept.fold1 | (lift_lets; intro t; first | (with_reducible refine Kept.cut t ?_ ?_; unfold t) | skip) | dsimp -zeta only | split | dsimp +zetaDelta only)

theorem State.busWrite_kept {r₀ : State} (s : State) (e a : Nat) (wide : Bool) (v req : Nat) (h0 : Kept r₀ s) : Kept r₀ (State.busWrite s e a wide v req) := by
  unfold State.busWrite
  repeat' (first | with_reducible assumption | (intro t; first | (with_reducible refine Kept.cut t ?_ ?_; unfold t) | beta_reduce | skip) | with_reducible apply State.noHook_kept | with_reducible apply State.pageWrite_kept | with_reducible apply State.settle_kept | with_reducible apply Kept.ite | with_reducible apply Kept.fold | with_reducible apply Kept.fold2 | with_reducible apply Kept.fold1 | (lift_lets; intro t; first | (with_reducible refine Kept.cut t ?_ ?_; unfold t) | skip) | dsimp -zeta only | split | dsimp +zetaDelta only)

theorem execRegisterWrite_kept {r₀ : State} (addr : BitVec 48) (wide : Bool) (value : BitVec 64) (req : BitVec 16) (s : State) (h0 : Kept r₀ s) : KeptR r₀ (execRegisterWrite addr wide value req s) := by
  unfold execRegisterWrite
  repeat' (first | with_reducible assumption | (intro t; first | (with_reducible refine Kept.cut t ?_ ?_; unfold t) | beta_reduce | skip) | with_reducible apply KeptR.next | with_reducible apply State.busWrite_kept | with_reducible apply State.coreTakes_kept | with_reducible apply Kept.ite | with_reducible apply KeptR.ite | with_reducible apply Kept.fold | with_reducible apply Kept.fold2 | with_reducible apply Kept.fold1 | (lift_lets; intro t; first | (with_reducible refine Kept.cut t ?_ ?_; unfold t) | skip) | dsimp -zeta only | split | dsimp +zetaDelta only)

theorem execDawnStreamReadDone_kept {r₀ : State} (f : Stream) (s : State) (h0 : Kept r₀ s) : KeptR r₀ (execDawnStreamReadDone f s) := by
  unfold execDawnStreamReadDone
  repeat' (first | with_reducible assumption | (intro t; first | (with_reducible refine Kept.cut t ?_ ?_; unfold t) | beta_reduce | skip) | with_reducible apply KeptR.next | with_reducible apply State.noHook_kept | with_reducible apply State.settle_kept | with_reducible apply State.streamReadDone_kept | with_reducible apply Kept.ite | with_reducible apply KeptR.ite | with_reducible apply Kept.fold | with_reducible apply Kept.fold2 | with_reducible apply Kept.fold1 | (lift_lets; intro t; first | (with_reducible refine Kept.cut t ?_ ?_; unfold t) | skip) | dsimp -zeta only | split | dsimp +zetaDelta only)

theorem execDawnVerifyDone_kept {r₀ : State} (v : StreamCheck) (s : State) (h0 : Kept r₀ s) : KeptR r₀ (execDawnVerifyDone v s) := by
  unfold execDawnVerifyDone
  repeat' (first | with_reducible assumption | (intro t; first | (with_reducible refine Kept.cut t ?_ ?_; unfold t) | beta_reduce | skip) | with_reducible apply KeptR.next | with_reducible apply State.noHook_kept | with_reducible apply State.settle_kept | with_reducible apply State.verifyDone_kept | with_reducible apply Kept.ite | with_reducible apply KeptR.ite | with_reducible apply Kept.fold | with_reducible apply Kept.fold2 | with_reducible apply Kept.fold1 | (lift_lets; intro t; first | (with_reducible refine Kept.cut t ?_ ?_; unfold t) | skip) | dsimp -zeta only | split | dsimp +zetaDelta only)

theorem execDawnApplyDone_kept {r₀ : State} (poison : Bool) (s : State) (h0 : Kept r₀ s) : KeptR r₀ (execDawnApplyDone poison s) := by
  unfold execDawnApplyDone
  repeat' (first | with_reducible assumption | (intro t; first | (with_reducible refine Kept.cut t ?_ ?_; unfold t) | beta_reduce | skip) | with_reducible apply KeptR.next | with_reducible apply State.applyDone_kept | with_reducible apply State.noHook_kept | with_reducible apply State.settle_kept | with_reducible apply Kept.ite | with_reducible apply KeptR.ite | with_reducible apply Kept.fold | with_reducible apply Kept.fold2 | with_reducible apply Kept.fold1 | (lift_lets; intro t; first | (with_reducible refine Kept.cut t ?_ ?_; unfold t) | skip) | dsimp -zeta only | split | dsimp +zetaDelta only)

end Sys2Proof.Machine
end

