-- ==== Sys2Proof/Laws/Kept/Deliver.lean ====
section
/-!
SUPPORT. Every operation of Machine/Deliver.lean leaves the queue and keeps the tables in canonical form.
-/

set_option linter.unreachableTactic false
set_option linter.unusedTactic false
set_option linter.unusedVariables false

namespace Sys2Proof.Machine

theorem State.toInbox_kept {r₀ : State} (s : State) (e : Nat) (p : Packet) (h0 : Kept r₀ s) : Kept r₀ (State.toInbox s e p) := by
  unfold State.toInbox
  repeat' (first | with_reducible assumption | (intro t; first | (with_reducible refine Kept.cut t ?_ ?_; unfold t) | beta_reduce | skip) | with_reducible apply State.putInbox_kept | with_reducible apply Kept.ite | with_reducible apply Kept.fold | with_reducible apply Kept.fold2 | with_reducible apply Kept.fold1 | (lift_lets; intro t; first | (with_reducible refine Kept.cut t ?_ ?_; unfold t) | skip) | dsimp -zeta only | split | dsimp +zetaDelta only)

theorem State.readAnswer_kept {r₀ : State} (s : State) (e : Nat) (p : Packet) (h0 : Kept r₀ s) : Kept r₀ (State.readAnswer s e p) := by
  unfold State.readAnswer
  repeat' (first | with_reducible assumption | (intro t; first | (with_reducible refine Kept.cut t ?_ ?_; unfold t) | beta_reduce | skip) | with_reducible apply State.answerStatus_kept | with_reducible apply State.injectAt_kept | with_reducible apply Kept.ite | with_reducible apply Kept.fold | with_reducible apply Kept.fold2 | with_reducible apply Kept.fold1 | (lift_lets; intro t; first | (with_reducible refine Kept.cut t ?_ ?_; unfold t) | skip) | dsimp -zeta only | split | dsimp +zetaDelta only)

theorem State.writeAnswer_kept {r₀ : State} (s : State) (e : Nat) (p : Packet) (h0 : Kept r₀ s) : Kept r₀ (State.writeAnswer s e p) := by
  unfold State.writeAnswer
  repeat' (first | with_reducible assumption | (intro t; first | (with_reducible refine Kept.cut t ?_ ?_; unfold t) | beta_reduce | skip) | with_reducible apply State.answerStatus_kept | with_reducible apply State.injectAt_kept | with_reducible apply Kept.ite | with_reducible apply Kept.fold | with_reducible apply Kept.fold2 | with_reducible apply Kept.fold1 | (lift_lets; intro t; first | (with_reducible refine Kept.cut t ?_ ?_; unfold t) | skip) | dsimp -zeta only | split | dsimp +zetaDelta only)

theorem State.servePage_kept {r₀ : State} (s : State) (e : Nat) (p : Packet) (h0 : Kept r₀ s) : Kept r₀ (State.servePage s e p) := by
  unfold State.servePage
  repeat' (first | with_reducible assumption | (intro t; first | (with_reducible refine Kept.cut t ?_ ?_; unfold t) | beta_reduce | skip) | with_reducible apply State.busRead_kept | with_reducible apply State.decodeAnswer_kept | with_reducible apply State.modNvm_kept | with_reducible apply State.noHook_kept | with_reducible apply State.pageWrite_kept | with_reducible apply State.readAnswer_kept | with_reducible apply State.settle_kept | with_reducible apply State.writeAnswer_kept | with_reducible apply Kept.ite | with_reducible apply Kept.fold | with_reducible apply Kept.fold2 | with_reducible apply Kept.fold1 | (lift_lets; intro t; first | (with_reducible refine Kept.cut t ?_ ?_; unfold t) | skip) | dsimp -zeta only | split | dsimp +zetaDelta only)

theorem State.serveNvm_kept {r₀ : State} (s : State) (e : Nat) (p : Packet) (h0 : Kept r₀ s) : Kept r₀ (State.serveNvm s e p) := by
  unfold State.serveNvm
  repeat' (first | with_reducible assumption | (intro t; first | (with_reducible refine Kept.cut t ?_ ?_; unfold t) | beta_reduce | skip) | with_reducible apply State.answerStatus_kept | with_reducible apply State.decodeAnswer_kept | with_reducible apply State.injectAt_kept | with_reducible apply State.memAnswer_kept | with_reducible apply Kept.ite | with_reducible apply Kept.fold | with_reducible apply Kept.fold2 | with_reducible apply Kept.fold1 | (lift_lets; intro t; first | (with_reducible refine Kept.cut t ?_ ?_; unfold t) | skip) | dsimp -zeta only | split | dsimp +zetaDelta only)

theorem State.serveFail_kept {r₀ : State} (s : State) (e bd : Nat) (p : Packet) (h0 : Kept r₀ s) : Kept r₀ (State.serveFail s e bd p) := by
  unfold State.serveFail
  repeat' (first | with_reducible assumption | (intro t; first | (with_reducible refine Kept.cut t ?_ ?_; unfold t) | beta_reduce | skip) | with_reducible apply State.answerStatus_kept | with_reducible apply State.decodeAnswer_kept | with_reducible apply State.memAnswer_kept | (with_reducible refine State.dawnGuard_kept ?_ (by assumption)) | with_reducible apply Kept.ite | with_reducible apply Kept.fold | with_reducible apply Kept.fold2 | with_reducible apply Kept.fold1 | (lift_lets; intro t; first | (with_reducible refine Kept.cut t ?_ ?_; unfold t) | skip) | dsimp -zeta only | split | dsimp +zetaDelta only)

theorem State.serveLpx_kept {r : State} (s : State) (e : Nat) (p : Packet) (h : Kept r s) : Kept r (s.serveLpx e p) := by
  unfold State.serveLpx
  have hk : Kept r s.lpxWindowsEnd := State.lpxWindowsEnd_kept s h
  dsimp only
  split
  · exact State.toInbox_kept _ _ _ hk
  · split
    · exact State.lpxPacket_kept hk (by assumption)
    · exact State.toInbox_kept _ _ _ hk

theorem State.serveSpd_kept {r₀ : State} (s : State) (e : Nat) (p : Packet) (h0 : Kept r₀ s) : Kept r₀ (State.serveSpd s e p) := by
  unfold State.serveSpd
  repeat' (first | with_reducible assumption | (intro t; first | (with_reducible refine Kept.cut t ?_ ?_; unfold t) | beta_reduce | skip) | with_reducible apply State.toInbox_kept | (with_reducible refine State.spdPacket_kept ?_ (by assumption)) | with_reducible apply Kept.ite | with_reducible apply Kept.fold | with_reducible apply Kept.fold2 | with_reducible apply Kept.fold1 | (lift_lets; intro t; first | (with_reducible refine Kept.cut t ?_ ?_; unfold t) | skip) | dsimp -zeta only | split | dsimp +zetaDelta only)

theorem State.collect_kept {r : State} (s : State) (p : Packet) (h : Kept r s) : Kept r (s.collect p) :=
  State.modEvents_kept h fun m hm => by
    split
    · exact Map.sortedFrom_put _ _ _ _ hm (Nat.zero_le _)
    · exact Map.sortedFrom_put _ _ _ _ hm (Nat.zero_le _)

theorem State.coreAnswer_kept {r₀ : State} (s : State) (e : Nat) (p : Packet) (h0 : Kept r₀ s) : Kept r₀ (State.coreAnswer s e p) := by
  unfold State.coreAnswer
  repeat' (first | with_reducible assumption | (intro t; first | (with_reducible refine Kept.cut t ?_ ?_; unfold t) | beta_reduce | skip) | with_reducible apply State.coreFault_kept | with_reducible apply Kept.ite | with_reducible apply Kept.fold | with_reducible apply Kept.fold2 | with_reducible apply Kept.fold1 | (lift_lets; intro t; first | (with_reducible refine Kept.cut t ?_ ?_; unfold t) | skip) | dsimp -zeta only | split | dsimp +zetaDelta only)

theorem State.toReserved_kept {r₀ : State} (s : State) (e : Nat) (p : Packet) (h0 : Kept r₀ s) : Kept r₀ (State.toReserved s e p) := by
  unfold State.toReserved
  repeat' (first | with_reducible assumption | (intro t; first | (with_reducible refine Kept.cut t ?_ ?_; unfold t) | beta_reduce | skip) | with_reducible apply State.toInbox_kept | with_reducible apply Kept.ite | with_reducible apply Kept.fold | with_reducible apply Kept.fold2 | with_reducible apply Kept.fold1 | (lift_lets; intro t; first | (with_reducible refine Kept.cut t ?_ ?_; unfold t) | skip) | dsimp -zeta only | split | with_reducible apply Map.sortedFrom_filter | with_reducible apply Map.wf_filter | dsimp +zetaDelta only)

theorem State.serveKind_kept {r₀ : State} (s : State) (e : Nat) (p : Packet) (h0 : Kept r₀ s) : Kept r₀ (State.serveKind s e p) := by
  unfold State.serveKind
  repeat' (first | with_reducible assumption | (intro t; first | (with_reducible refine Kept.cut t ?_ ?_; unfold t) | beta_reduce | skip) | with_reducible apply State.collect_kept | with_reducible apply State.coreAnswer_kept | with_reducible apply State.kindReject_kept | with_reducible apply State.sbDone_kept | with_reducible apply State.serveFail_kept | with_reducible apply State.serveLpx_kept | with_reducible apply State.serveNvm_kept | with_reducible apply State.servePage_kept | with_reducible apply State.serveSpd_kept | with_reducible apply State.toInbox_kept | with_reducible apply State.touchGroup_kept | with_reducible apply State.touchPair_kept | with_reducible apply State.touchRegion_kept | with_reducible apply Kept.ite | with_reducible apply Kept.fold | with_reducible apply Kept.fold2 | with_reducible apply Kept.fold1 | (lift_lets; intro t; first | (with_reducible refine Kept.cut t ?_ ?_; unfold t) | skip) | dsimp -zeta only | split | dsimp +zetaDelta only)

theorem State.accept_kept {r₀ : State} (s : State) (e : Nat) (p : Packet) (h0 : Kept r₀ s) : Kept r₀ (State.accept s e p) := by
  unfold State.accept
  repeat' (first | with_reducible assumption | (intro t; first | (with_reducible refine Kept.cut t ?_ ?_; unfold t) | beta_reduce | skip) | with_reducible apply State.serveKind_kept | with_reducible apply State.toReserved_kept | with_reducible apply Kept.ite | with_reducible apply Kept.fold | with_reducible apply Kept.fold2 | with_reducible apply Kept.fold1 | (lift_lets; intro t; first | (with_reducible refine Kept.cut t ?_ ?_; unfold t) | skip) | dsimp -zeta only | split | dsimp +zetaDelta only)

theorem State.acceptBad_kept {r₀ : State} (s : State) (e : Nat) (p : Packet) (h0 : Kept r₀ s) : Kept r₀ (State.acceptBad s e p) := by
  unfold State.acceptBad
  repeat' (first | with_reducible assumption | (intro t; first | (with_reducible refine Kept.cut t ?_ ?_; unfold t) | beta_reduce | skip) | with_reducible apply State.accept_kept | with_reducible apply State.answerStatus_kept | with_reducible apply Kept.ite | with_reducible apply Kept.fold | with_reducible apply Kept.fold2 | with_reducible apply Kept.fold1 | (lift_lets; intro t; first | (with_reducible refine Kept.cut t ?_ ?_; unfold t) | skip) | dsimp -zeta only | split | dsimp +zetaDelta only)

theorem State.receive_kept {r₀ : State} (s : State) (e : Nat) (p : Packet) (h0 : Kept r₀ s) : Kept r₀ (State.receive s e p) := by
  unfold State.receive
  repeat' (first | with_reducible assumption | (intro t; first | (with_reducible refine Kept.cut t ?_ ?_; unfold t) | beta_reduce | skip) | with_reducible apply State.accept_kept | with_reducible apply State.acceptBad_kept | with_reducible apply State.lateAt_kept | with_reducible apply State.raise_kept | with_reducible apply Kept.ite | with_reducible apply Kept.fold | with_reducible apply Kept.fold2 | with_reducible apply Kept.fold1 | (lift_lets; intro t; first | (with_reducible refine Kept.cut t ?_ ?_; unfold t) | skip) | dsimp -zeta only | split | dsimp +zetaDelta only)

theorem execPacketDeliver_kept {r₀ : State} (n : Nat) (s : State) (h0 : Kept r₀ s) : KeptR r₀ (execPacketDeliver n s) := by
  unfold execPacketDeliver
  repeat' (first | with_reducible assumption | (intro t; first | (with_reducible refine Kept.cut t ?_ ?_; unfold t) | beta_reduce | skip) | with_reducible apply KeptR.next | with_reducible apply State.atPort_kept | with_reducible apply State.dropPkt_kept | with_reducible apply State.receive_kept | with_reducible apply Kept.ite | with_reducible apply KeptR.ite | with_reducible apply Kept.fold | with_reducible apply Kept.fold2 | with_reducible apply Kept.fold1 | (lift_lets; intro t; first | (with_reducible refine Kept.cut t ?_ ?_; unfold t) | skip) | dsimp -zeta only | split | dsimp +zetaDelta only)

end Sys2Proof.Machine
end

