-- ==== Sys2Proof/Laws/Kept/HostAccess.lean ====
section
/-!
SUPPORT. Every operation of Machine/HostAccess.lean leaves the queue and keeps the tables in canonical form.
-/

set_option linter.unreachableTactic false
set_option linter.unusedTactic false
set_option linter.unusedVariables false

namespace Sys2Proof.Machine

theorem State.bar0Put_kept {r₀ : State} (s : State) (fn off v : Nat) (h0 : Kept r₀ s) : Kept r₀ (State.bar0Put s fn off v) := by
  unfold State.bar0Put
  repeat' (first | with_reducible assumption | (intro t; first | (with_reducible refine Kept.cut t ?_ ?_; unfold t) | beta_reduce | skip) | with_reducible apply State.msixFlush_kept | with_reducible apply State.putMsix_kept | with_reducible apply execPcieDoorbell_kept | with_reducible apply took_kept | with_reducible apply Kept.ite | with_reducible apply Kept.fold | with_reducible apply Kept.fold2 | with_reducible apply Kept.fold1 | (lift_lets; intro t; first | (with_reducible refine Kept.cut t ?_ ?_; unfold t) | skip) | dsimp -zeta only | split | dsimp +zetaDelta only)

theorem State.bar0Read_kept {r₀ : State} (s : State) (fn off bytes : Nat) (h0 : Kept r₀ s) : Kept r₀ (State.bar0Read s fn off bytes) := by
  unfold State.bar0Read
  repeat' (first | with_reducible assumption | (intro t; first | (with_reducible refine Kept.cut t ?_ ?_; unfold t) | beta_reduce | skip) | with_reducible apply State.busRead_kept | with_reducible apply State.decodeError_kept | with_reducible apply State.respond_kept | with_reducible apply Kept.ite | with_reducible apply Kept.fold | with_reducible apply Kept.fold2 | with_reducible apply Kept.fold1 | (lift_lets; intro t; first | (with_reducible refine Kept.cut t ?_ ?_; unfold t) | skip) | dsimp -zeta only | split | dsimp +zetaDelta only)

theorem State.bar0Write_kept {r₀ : State} (s : State) (fn off bytes data : Nat) (poison : Bool) (h0 : Kept r₀ s) : Kept r₀ (State.bar0Write s fn off bytes data poison) := by
  unfold State.bar0Write
  repeat' (first | with_reducible assumption | (intro t; first | (with_reducible refine Kept.cut t ?_ ?_; unfold t) | beta_reduce | skip) | with_reducible apply State.bar0Put_kept | with_reducible apply State.busWrite_kept | with_reducible apply State.decodeError_kept | with_reducible apply Kept.ite | with_reducible apply Kept.fold | with_reducible apply Kept.fold2 | with_reducible apply Kept.fold1 | (lift_lets; intro t; first | (with_reducible refine Kept.cut t ?_ ?_; unfold t) | skip) | dsimp -zeta only | split | dsimp +zetaDelta only)

theorem execPcieHostRead_kept {r₀ : State} (func : Fin 34) (bar2 : Bool) (off : Nat) (bytes : Nat) (s : State) (h0 : Kept r₀ s) : KeptR r₀ (execPcieHostRead func bar2 off bytes s) := by
  unfold execPcieHostRead
  repeat' (first | with_reducible assumption | (intro t; first | (with_reducible refine Kept.cut t ?_ ?_; unfold t) | beta_reduce | skip) | with_reducible apply KeptR.next | with_reducible apply State.bar0Read_kept | with_reducible apply State.respond_kept | with_reducible apply State.windowRead_kept | with_reducible apply Kept.ite | with_reducible apply KeptR.ite | with_reducible apply Kept.fold | with_reducible apply Kept.fold2 | with_reducible apply Kept.fold1 | (lift_lets; intro t; first | (with_reducible refine Kept.cut t ?_ ?_; unfold t) | skip) | dsimp -zeta only | split | dsimp +zetaDelta only)

theorem execPcieHostWrite_kept {r₀ : State} (func : Fin 34) (bar2 : Bool) (off : Nat) (bytes : Nat) (data : Nat) (poison : Bool) (s : State) (h0 : Kept r₀ s) : KeptR r₀ (execPcieHostWrite func bar2 off bytes data poison s) := by
  unfold execPcieHostWrite
  repeat' (first | with_reducible assumption | (intro t; first | (with_reducible refine Kept.cut t ?_ ?_; unfold t) | beta_reduce | skip) | with_reducible apply KeptR.next | with_reducible apply State.bar0Write_kept | with_reducible apply State.windowWrite_kept | with_reducible apply Kept.ite | with_reducible apply KeptR.ite | with_reducible apply Kept.fold | with_reducible apply Kept.fold2 | with_reducible apply Kept.fold1 | (lift_lets; intro t; first | (with_reducible refine Kept.cut t ?_ ?_; unfold t) | skip) | dsimp -zeta only | split | dsimp +zetaDelta only)

end Sys2Proof.Machine
end

