-- ==== Sys2Proof/Laws/Kept/RawLane.lean ====
section
/-!
SUPPORT. Every operation of Machine/RawLane.lean leaves the queue and keeps the tables in canonical form.
-/

set_option linter.unreachableTactic false
set_option linter.unusedTactic false
set_option linter.unusedVariables false

namespace Sys2Proof.Machine

theorem State.modRaw_kept {r₀ : State} (s : State) (lane : Nat) (f : RawLane → RawLane) (h0 : Kept r₀ s) : Kept r₀ (State.modRaw s lane f) := by
  unfold State.modRaw
  repeat' (first | with_reducible assumption | (intro t; first | (with_reducible refine Kept.cut t ?_ ?_; unfold t) | beta_reduce | skip) | with_reducible apply State.modLanes_kept | with_reducible apply Kept.ite | with_reducible apply Kept.fold | with_reducible apply Kept.fold2 | with_reducible apply Kept.fold1 | (lift_lets; intro t; first | (with_reducible refine Kept.cut t ?_ ?_; unfold t) | skip) | dsimp -zeta only | split | dsimp +zetaDelta only)

theorem State.rawPut_kept {r₀ : State} (s : State) (lane w : Nat) (h0 : Kept r₀ s) : Kept r₀ (State.rawPut s lane w) := by
  unfold State.rawPut
  repeat' (first | with_reducible assumption | (intro t; first | (with_reducible refine Kept.cut t ?_ ?_; unfold t) | beta_reduce | skip) | with_reducible apply State.modRaw_kept | with_reducible apply Kept.ite | with_reducible apply Kept.fold | with_reducible apply Kept.fold2 | with_reducible apply Kept.fold1 | (lift_lets; intro t; first | (with_reducible refine Kept.cut t ?_ ?_; unfold t) | skip) | dsimp -zeta only | split | dsimp +zetaDelta only)

theorem State.rawSend_kept {r₀ : State} (s : State) (lane : Nat) (h0 : Kept r₀ s) : Kept r₀ (State.rawSend s lane) := by
  unfold State.rawSend
  repeat' (first | with_reducible assumption | (intro t; first | (with_reducible refine Kept.cut t ?_ ?_; unfold t) | beta_reduce | skip) | with_reducible apply State.draw_kept | with_reducible apply State.modRaw_kept | with_reducible apply State.rawPut_kept | with_reducible apply Kept.ite | with_reducible apply Kept.fold | with_reducible apply Kept.fold2 | with_reducible apply Kept.fold1 | (lift_lets; intro t; first | (with_reducible refine Kept.cut t ?_ ?_; unfold t) | skip) | dsimp -zeta only | split | dsimp +zetaDelta only)

theorem State.rawWrite_kept {r₀ : State} (s : State) (lane w : Nat) (h0 : Kept r₀ s) : Kept r₀ (State.rawWrite s lane w) := by
  unfold State.rawWrite
  repeat' (first | with_reducible assumption | (intro t; first | (with_reducible refine Kept.cut t ?_ ?_; unfold t) | beta_reduce | skip) | with_reducible apply State.modRaw_kept | with_reducible apply Kept.ite | with_reducible apply Kept.fold | with_reducible apply Kept.fold2 | with_reducible apply Kept.fold1 | (lift_lets; intro t; first | (with_reducible refine Kept.cut t ?_ ?_; unfold t) | skip) | dsimp -zeta only | split | dsimp +zetaDelta only)

theorem execRawWordTransmit_kept {r₀ : State} (lane : Fin 160) (word : BitVec 72) (s : State) (h0 : Kept r₀ s) : KeptR r₀ (execRawWordTransmit lane word s) := by
  unfold execRawWordTransmit
  repeat' (first | with_reducible assumption | (intro t; first | (with_reducible refine Kept.cut t ?_ ?_; unfold t) | beta_reduce | skip) | with_reducible apply KeptR.next | with_reducible apply State.rawSend_kept | with_reducible apply State.rawWrite_kept | with_reducible apply Kept.ite | with_reducible apply KeptR.ite | with_reducible apply Kept.fold | with_reducible apply Kept.fold2 | with_reducible apply Kept.fold1 | (lift_lets; intro t; first | (with_reducible refine Kept.cut t ?_ ?_; unfold t) | skip) | dsimp -zeta only | split | dsimp +zetaDelta only)

theorem State.rawEnter_kept {r₀ : State} (s : State) (lane w : Nat) (h0 : Kept r₀ s) : Kept r₀ (State.rawEnter s lane w) := by
  unfold State.rawEnter
  repeat' (first | with_reducible assumption | (intro t; first | (with_reducible refine Kept.cut t ?_ ?_; unfold t) | beta_reduce | skip) | with_reducible apply State.modRaw_kept | with_reducible apply State.raise_kept | with_reducible apply State.satAdd_kept | with_reducible apply Kept.ite | with_reducible apply Kept.fold | with_reducible apply Kept.fold2 | with_reducible apply Kept.fold1 | (lift_lets; intro t; first | (with_reducible refine Kept.cut t ?_ ?_; unfold t) | skip) | dsimp -zeta only | split | dsimp +zetaDelta only)

theorem State.rawChars_kept {r₀ : State} (s : State) (lane v : Nat) (realign : Bool) (h0 : Kept r₀ s) : Kept r₀ (State.rawChars s lane v realign) := by
  unfold State.rawChars
  repeat' (first | with_reducible assumption | (intro t; first | (with_reducible refine Kept.cut t ?_ ?_; unfold t) | beta_reduce | skip) | with_reducible apply State.draw_kept | with_reducible apply State.modRaw_kept | with_reducible apply State.rawEnter_kept | with_reducible apply State.satAdd_kept | with_reducible apply Kept.ite | with_reducible apply Kept.fold | with_reducible apply Kept.fold2 | with_reducible apply Kept.fold1 | (lift_lets; intro t; first | (with_reducible refine Kept.cut t ?_ ?_; unfold t) | skip) | dsimp -zeta only | split | with_reducible apply Map.sortedFrom_filter | with_reducible apply Map.wf_filter | dsimp +zetaDelta only)

theorem State.rawBlock_kept {r₀ : State} (s : State) (lane v : Nat) (h0 : Kept r₀ s) : Kept r₀ (State.rawBlock s lane v) := by
  unfold State.rawBlock
  repeat' (first | with_reducible assumption | (intro t; first | (with_reducible refine Kept.cut t ?_ ?_; unfold t) | beta_reduce | skip) | with_reducible apply State.modRaw_kept | with_reducible apply State.rawEnter_kept | with_reducible apply State.satAdd_kept | with_reducible apply Kept.ite | with_reducible apply Kept.fold | with_reducible apply Kept.fold2 | with_reducible apply Kept.fold1 | (lift_lets; intro t; first | (with_reducible refine Kept.cut t ?_ ?_; unfold t) | skip) | dsimp -zeta only | split | dsimp +zetaDelta only)

theorem execRawWordReceive_kept {r₀ : State} (lane : Fin 160) (line : BitVec 80) (realign : Bool) (s : State) (h0 : Kept r₀ s) : KeptR r₀ (execRawWordReceive lane line realign s) := by
  unfold execRawWordReceive
  repeat' (first | with_reducible assumption | (intro t; first | (with_reducible refine Kept.cut t ?_ ?_; unfold t) | beta_reduce | skip) | with_reducible apply KeptR.next | with_reducible apply State.modRaw_kept | with_reducible apply State.rawBlock_kept | with_reducible apply State.rawChars_kept | with_reducible apply State.rawEnter_kept | with_reducible apply State.rawSend_kept | with_reducible apply Kept.ite | with_reducible apply KeptR.ite | with_reducible apply Kept.fold | with_reducible apply Kept.fold2 | with_reducible apply Kept.fold1 | (lift_lets; intro t; first | (with_reducible refine Kept.cut t ?_ ?_; unfold t) | skip) | dsimp -zeta only | split | dsimp +zetaDelta only)

theorem execRawPcsLock_kept {r₀ : State} (lane : Fin 160) (lock : Bool) (s : State) (h0 : Kept r₀ s) : KeptR r₀ (execRawPcsLock lane lock s) := by
  unfold execRawPcsLock
  repeat' (first | with_reducible assumption | (intro t; first | (with_reducible refine Kept.cut t ?_ ?_; unfold t) | beta_reduce | skip) | with_reducible apply KeptR.next | with_reducible apply State.setR_kept | with_reducible apply State.when_kept | with_reducible apply Kept.ite | with_reducible apply KeptR.ite | with_reducible apply Kept.fold | with_reducible apply Kept.fold2 | with_reducible apply Kept.fold1 | (lift_lets; intro t; first | (with_reducible refine Kept.cut t ?_ ?_; unfold t) | skip) | dsimp -zeta only | split | dsimp +zetaDelta only)

end Sys2Proof.Machine
end

