-- ==== Sys2Proof/Laws/Kept/RegionEdge.lean ====
section
/-!
SUPPORT. Every operation of Machine/RegionEdge.lean leaves the queue and keeps the tables in canonical form.
-/

set_option linter.unreachableTactic false
set_option linter.unusedTactic false
set_option linter.unusedVariables false

namespace Sys2Proof.Machine

theorem State.setPorts_kept {r₀ : State} (s : State) (rg : Nat) (ports : List (Nat × Bool)) (t : Nat → Bool) (h0 : Kept r₀ s) : Kept r₀ (State.setPorts s rg ports t) := by
  unfold State.setPorts
  repeat' (first | with_reducible assumption | (intro t; first | (with_reducible refine Kept.cut t ?_ ?_; unfold t) | beta_reduce | skip) | with_reducible apply State.modIc_kept | with_reducible apply Kept.ite | with_reducible apply Kept.fold | with_reducible apply Kept.fold2 | with_reducible apply Kept.fold1 | (lift_lets; intro t; first | (with_reducible refine Kept.cut t ?_ ?_; unfold t) | skip) | dsimp -zeta only | split | with_reducible apply Map.sortedFrom_filter | with_reducible apply Map.wf_filter | dsimp +zetaDelta only)

theorem State.ramBlockEdge_kept {r₀ : State} (s was : State) (rg : Nat) (b : Fin 4) (h0 : Kept r₀ s) (h1 : Kept r₀ was) : Kept r₀ (State.ramBlockEdge s was rg b) := by
  unfold State.ramBlockEdge
  repeat' (first | with_reducible assumption | (intro t; first | (with_reducible refine Kept.cut t ?_ ?_; unfold t) | beta_reduce | skip) | with_reducible apply State.ramReads_kept | with_reducible apply State.ramWrites_kept | with_reducible apply Kept.ite | with_reducible apply Kept.fold | with_reducible apply Kept.fold2 | with_reducible apply Kept.fold1 | (lift_lets; intro t; first | (with_reducible refine Kept.cut t ?_ ?_; unfold t) | skip) | dsimp -zeta only | split | dsimp +zetaDelta only)

theorem State.macsEdge_kept {r₀ : State} (s was : State) (rg : Nat) (wrhold : Bool) (h0 : Kept r₀ s) (h1 : Kept r₀ was) : Kept r₀ (State.macsEdge s was rg wrhold) := by
  unfold State.macsEdge
  repeat' (first | with_reducible assumption | (intro t; first | (with_reducible refine Kept.cut t ?_ ?_; unfold t) | beta_reduce | skip) | with_reducible apply State.modFab_kept | with_reducible apply Kept.ite | with_reducible apply Kept.fold | with_reducible apply Kept.fold2 | with_reducible apply Kept.fold1 | (lift_lets; intro t; first | (with_reducible refine Kept.cut t ?_ ?_; unfold t) | skip) | dsimp -zeta only | split | dsimp +zetaDelta only)

theorem State.dcqsEdge_kept {r₀ : State} (s was : State) (rg : Nat) (h0 : Kept r₀ s) (h1 : Kept r₀ was) : Kept r₀ (State.dcqsEdge s was rg) := by
  unfold State.dcqsEdge
  repeat' (first | with_reducible assumption | (intro t; first | (with_reducible refine Kept.cut t ?_ ?_; unfold t) | beta_reduce | skip) | with_reducible apply State.dcqRead_kept | with_reducible apply State.dcqWrite_kept | with_reducible apply Kept.ite | with_reducible apply Kept.fold | with_reducible apply Kept.fold2 | with_reducible apply Kept.fold1 | (lift_lets; intro t; first | (with_reducible refine Kept.cut t ?_ ?_; unfold t) | skip) | dsimp -zeta only | split | dsimp +zetaDelta only)

theorem State.txFlit_kept {r₀ : State} (s : State) (rg : Nat) (f : Flit) (sop eop : Bool) (h0 : Kept r₀ s) : Kept r₀ (State.txFlit s rg f sop eop) := by
  unfold State.txFlit
  repeat' (first | with_reducible assumption | (intro t; first | (with_reducible refine Kept.cut t ?_ ?_; unfold t) | beta_reduce | skip) | with_reducible apply State.modRegion_kept | with_reducible apply State.napSend_kept | with_reducible apply Kept.ite | with_reducible apply Kept.fold | with_reducible apply Kept.fold2 | with_reducible apply Kept.fold1 | (lift_lets; intro t; first | (with_reducible refine Kept.cut t ?_ ?_; unfold t) | skip) | dsimp -zeta only | split | dsimp +zetaDelta only)

theorem State.napEdge_kept {r₀ : State} (s was : State) (rg : Nat) (rxReady : Bool) (h0 : Kept r₀ s) (h1 : Kept r₀ was) : Kept r₀ (State.napEdge s was rg rxReady) := by
  unfold State.napEdge
  repeat' (first | with_reducible assumption | (intro t; first | (with_reducible refine Kept.cut t ?_ ?_; unfold t) | beta_reduce | skip) | with_reducible apply State.mmAck_kept | with_reducible apply State.modRegion_kept | with_reducible apply State.txFlit_kept | with_reducible apply Kept.ite | with_reducible apply Kept.fold | with_reducible apply Kept.fold2 | with_reducible apply Kept.fold1 | (lift_lets; intro t; first | (with_reducible refine Kept.cut t ?_ ?_; unfold t) | skip) | dsimp -zeta only | split | dsimp +zetaDelta only)

theorem State.rawLaneEdge_kept {r₀ : State} (s was : State) (rg lane base : Nat) (h0 : Kept r₀ s) (h1 : Kept r₀ was) : Kept r₀ (State.rawLaneEdge s was rg lane base) := by
  unfold State.rawLaneEdge
  repeat' (first | with_reducible assumption | (intro t; first | (with_reducible refine Kept.cut t ?_ ?_; unfold t) | beta_reduce | skip) | with_reducible apply State.modRaw_kept | with_reducible apply State.rawSend_kept | with_reducible apply State.rawWrite_kept | with_reducible apply Kept.ite | with_reducible apply Kept.fold | with_reducible apply Kept.fold2 | with_reducible apply Kept.fold1 | (lift_lets; intro t; first | (with_reducible refine Kept.cut t ?_ ?_; unfold t) | skip) | dsimp -zeta only | split | dsimp +zetaDelta only)

theorem State.rawEdge_kept {r₀ : State} (s was : State) (rg : Nat) (h0 : Kept r₀ s) (h1 : Kept r₀ was) : Kept r₀ (State.rawEdge s was rg) := by
  unfold State.rawEdge
  repeat' (first | with_reducible assumption | (intro t; first | (with_reducible refine Kept.cut t ?_ ?_; unfold t) | beta_reduce | skip) | with_reducible apply State.rawLaneEdge_kept | with_reducible apply Kept.ite | with_reducible apply Kept.fold | with_reducible apply Kept.fold2 | with_reducible apply Kept.fold1 | (lift_lets; intro t; first | (with_reducible refine Kept.cut t ?_ ?_; unfold t) | skip) | dsimp -zeta only | split | dsimp +zetaDelta only)

theorem State.padEdge_kept {r₀ : State} (s was : State) (rg : Nat) (h0 : Kept r₀ s) (h1 : Kept r₀ was) : Kept r₀ (State.padEdge s was rg) := by
  unfold State.padEdge
  repeat' (first | with_reducible assumption | (intro t; first | (with_reducible refine Kept.cut t ?_ ?_; unfold t) | beta_reduce | skip) | with_reducible apply State.applyDelay_kept | with_reducible apply State.modTio_kept | with_reducible apply Kept.ite | with_reducible apply Kept.fold | with_reducible apply Kept.fold2 | with_reducible apply Kept.fold1 | (lift_lets; intro t; first | (with_reducible refine Kept.cut t ?_ ?_; unfold t) | skip) | dsimp -zeta only | split | with_reducible apply Map.sortedFrom_filter | with_reducible apply Map.wf_filter | dsimp +zetaDelta only)

theorem State.spEdge_kept {r₀ : State} (s was : State) (rg : Nat) (h0 : Kept r₀ s) (h1 : Kept r₀ was) : Kept r₀ (State.spEdge s was rg) := by
  unfold State.spEdge
  repeat' (first | with_reducible assumption | (intro t; first | (with_reducible refine Kept.cut t ?_ ?_; unfold t) | beta_reduce | skip) | with_reducible apply State.modFab_kept | with_reducible apply Kept.ite | with_reducible apply Kept.fold | with_reducible apply Kept.fold2 | with_reducible apply Kept.fold1 | (lift_lets; intro t; first | (with_reducible refine Kept.cut t ?_ ?_; unfold t) | skip) | dsimp -zeta only | split | dsimp +zetaDelta only)

theorem State.logicEdge_kept {r₀ : State} (s : State) (rg : Nat) (h0 : Kept r₀ s) : Kept r₀ (State.logicEdge s rg) := by
  unfold State.logicEdge
  repeat' (first | with_reducible assumption | (intro t; first | (with_reducible refine Kept.cut t ?_ ?_; unfold t) | beta_reduce | skip) | with_reducible apply State.modFab_kept | with_reducible apply State.modIc_kept | with_reducible apply Kept.ite | with_reducible apply Kept.fold | with_reducible apply Kept.fold2 | with_reducible apply Kept.fold1 | (lift_lets; intro t; first | (with_reducible refine Kept.cut t ?_ ?_; unfold t) | skip) | dsimp -zeta only | split | dsimp +zetaDelta only)

theorem State.blocksEdge_kept {r₀ : State} (s was : State) (rg : Nat) (rxReady : Bool) (h0 : Kept r₀ s) (h1 : Kept r₀ was) : Kept r₀ (State.blocksEdge s was rg rxReady) := by
  unfold State.blocksEdge
  repeat' (first | with_reducible assumption | (intro t; first | (with_reducible refine Kept.cut t ?_ ?_; unfold t) | beta_reduce | skip) | with_reducible apply State.dcqsEdge_kept | with_reducible apply State.macsEdge_kept | with_reducible apply State.napEdge_kept | with_reducible apply State.nvmEdge_kept | with_reducible apply State.padEdge_kept | with_reducible apply State.ramBlockEdge_kept | with_reducible apply State.rawEdge_kept | with_reducible apply State.roEdge_kept | with_reducible apply State.spEdge_kept | with_reducible apply Kept.ite | with_reducible apply Kept.fold | with_reducible apply Kept.fold2 | with_reducible apply Kept.fold1 | (lift_lets; intro t; first | (with_reducible refine Kept.cut t ?_ ?_; unfold t) | skip) | dsimp -zeta only | split | dsimp +zetaDelta only)

theorem State.asyncEdge_kept {r₀ : State} (s : State) (rg : Nat) (h0 : Kept r₀ s) : Kept r₀ (State.asyncEdge s rg) := by
  unfold State.asyncEdge
  repeat' (first | with_reducible assumption | (intro t; first | (with_reducible refine Kept.cut t ?_ ?_; unfold t) | beta_reduce | skip) | with_reducible apply State.asyncSettle_kept | with_reducible apply Kept.ite | with_reducible apply Kept.fold | with_reducible apply Kept.fold2 | with_reducible apply Kept.fold1 | (lift_lets; intro t; first | (with_reducible refine Kept.cut t ?_ ?_; unfold t) | skip) | dsimp -zeta only | split | dsimp +zetaDelta only)

theorem State.regionEdge_kept {r₀ : State} (s : State) (rg : Nat) (rxReady : Bool) (ports : List (Nat × Bool)) (h0 : Kept r₀ s) : Kept r₀ (State.regionEdge s rg rxReady ports) := by
  unfold State.regionEdge
  repeat' (first | with_reducible assumption | (intro t; first | (with_reducible refine Kept.cut t ?_ ?_; unfold t) | beta_reduce | skip) | with_reducible apply State.asyncEdge_kept | with_reducible apply State.blocksEdge_kept | with_reducible apply State.fabLines_kept | with_reducible apply State.logicEdge_kept | with_reducible apply State.regionSteps_kept | with_reducible apply State.setPorts_kept | with_reducible apply State.setR_kept | with_reducible apply Kept.ite | with_reducible apply Kept.fold | with_reducible apply Kept.fold2 | with_reducible apply Kept.fold1 | (lift_lets; intro t; first | (with_reducible refine Kept.cut t ?_ ?_; unfold t) | skip) | dsimp -zeta only | split | dsimp +zetaDelta only)

theorem execRegionClockRisingEdge_kept {r₀ : State} (fd : Fin 8) (rgn_ : Fin 384) (rxReady : Bool) (ports : List (Nat × Bool)) (s : State) (h0 : Kept r₀ s) : KeptR r₀ (execRegionClockRisingEdge fd rgn_ rxReady ports s) := by
  unfold execRegionClockRisingEdge
  repeat' (first | with_reducible assumption | (intro t; first | (with_reducible refine Kept.cut t ?_ ?_; unfold t) | beta_reduce | skip) | with_reducible apply KeptR.next | with_reducible apply State.regionEdge_kept | with_reducible apply State.when_kept | with_reducible apply Kept.ite | with_reducible apply KeptR.ite | with_reducible apply Kept.fold | with_reducible apply Kept.fold2 | with_reducible apply Kept.fold1 | (lift_lets; intro t; first | (with_reducible refine Kept.cut t ?_ ?_; unfold t) | skip) | dsimp -zeta only | split | dsimp +zetaDelta only)

end Sys2Proof.Machine
end

