-- ==== Sys2Proof/Laws/Regs.lean ====
section
/-!
SUPPORT. Reads and writes of register fields: what a write leaves in the field written and in every other one.
-/

namespace Sys2Proof.Machine

theorem Field.key_inj (f g : Field) (i j : Nat) (h : f.key i = g.key j) :
    f.id % Field.idBound = g.id % Field.idBound ∧ i = j := by
  unfold Field.key Field.idBound at *
  omega

theorem Field.key_ne_id (f g : Field) (i j : Nat) (h : f.id % Field.idBound ≠ g.id % Field.idBound) :
    f.key i ≠ g.key j := fun e => h (Field.key_inj f g i j e).1

theorem Field.key_ne_ix (f g : Field) (i j : Nat) (h : i ≠ j) : f.key i ≠ g.key j :=
  fun e => h (Field.key_inj f g i j e).2

/-- A field reads as what was put into it, cut to the field. -/
@[simp] theorem State.getR_setR_self (s : State) (f : Field) (i v : Nat) : (s.setR f i v).getR f i = f.norm v := by
  simp [State.getR, State.setR]

/-- Writing one field leaves every other field. -/
theorem State.getR_setR_id (s : State) (f g : Field) (i j v : Nat)
    (h : g.id % Field.idBound ≠ f.id % Field.idBound) : (s.setR f i v).getR g j = s.getR g j := by
  simp only [State.getR, State.setR, State.modRegs_regs]
  exact Map.get_set_ne _ _ _ _ (Field.key_ne_id g f j i h)

/-- Writing one element leaves every other element of every field. -/
theorem State.getR_setR_ix (s : State) (f g : Field) (i j v : Nat) (h : j ≠ i) :
    (s.setR f i v).getR g j = s.getR g j := by
  simp only [State.getR, State.setR, State.modRegs_regs]
  exact Map.get_set_ne _ _ _ _ (Field.key_ne_ix g f j i h)

end Sys2Proof.Machine
end

