-- ==== Sys2Proof/Laws/Leaves.lean ====
section
/-!
SUPPORT. Frames: what each update leaves, to build the frame of a command from those of its updates.
-/

namespace Sys2Proof.Machine

variable {ps : List Part} {ks : List Nat} {s t : State}

theorem Leaves.refl : Leaves ps ks s s := ⟨rfl, fun p _ => by cases p <;> rfl, fun _ _ => rfl⟩

theorem Leaves.trans {u : State} (h : Leaves ps ks s t) (g : Leaves ps ks t u) : Leaves ps ks s u :=
  ⟨g.1.trans h.1, fun p hp => by
    have a := h.2.1 p hp
    have b := g.2.1 p hp
    cases p <;> exact Eq.trans b a,
   fun k hk => (g.2.2 k hk).trans (h.2.2 k hk)⟩

/-- A wider frame. -/
theorem Leaves.mono {qs : List Part} {js : List Nat} (h : Leaves ps ks s t) (hp : ∀ p ∈ ps, p ∈ qs) (hk : ∀ k ∈ ks, k ∈ js) :
    Leaves qs js s t :=
  ⟨h.1, fun p n => h.2.1 p (fun m => n (hp p m)), fun k n => h.2.2 k (fun m => n (hk k m))⟩

theorem Map.find_set_ne {α : Type} [DecidableEq α] (d : α) (m : Map α) {j k : Nat} (v : α) (h : j ≠ k) :
    Map.find (Map.set d m k v) j = Map.find m j := by
  unfold Map.set
  split
  · exact Map.find_erase_ne m h
  · exact Map.find_put_ne m v h

theorem Leaves.setR (f : Field) (i v : Nat) (hk : f.key i ∈ ks) (h : Leaves ps ks s t) : Leaves ps ks s (t.setR f i v) := by
  refine h.trans ⟨rfl, fun p _ => by cases p <;> rfl, fun k n => ?_⟩
  exact Map.find_set_ne _ _ _ (fun e => n (e ▸ hk))

theorem Leaves.ite {u : State} {c : Prop} [Decidable c] (ht : Leaves ps ks s t) (hu : Leaves ps ks s u) :
    Leaves ps ks s (if c then t else u) := by
  split <;> assumption

theorem Leaves.satAdd (f : Field) (i n : Nat) (hk : f.key i ∈ ks) (h : Leaves ps ks s t) : Leaves ps ks s (t.satAdd f i n) :=
  h.setR f i _ hk

theorem Leaves.wrapAdd (f : Field) (i n : Nat) (hk : f.key i ∈ ks) (h : Leaves ps ks s t) : Leaves ps ks s (t.wrapAdd f i n) :=
  h.setR f i _ hk

theorem Leaves.modTime (f : BitVec 64 → BitVec 64) (hp : Part.time ∈ ps) (h : Leaves ps ks s t) : Leaves ps ks s (t.modTime f) := by
  refine h.trans ⟨rfl, fun p n => ?_, fun _ _ => rfl⟩
  cases p <;> first | rfl | exact absurd hp n

theorem Leaves.modFrac (f : BitVec 32 → BitVec 32) (hp : Part.frac ∈ ps) (h : Leaves ps ks s t) : Leaves ps ks s (t.modFrac f) := by
  refine h.trans ⟨rfl, fun p n => ?_, fun _ _ => rfl⟩
  cases p <;> first | rfl | exact absurd hp n

theorem Leaves.modFree (f : Nat → Nat) (hp : Part.free ∈ ps) (h : Leaves ps ks s t) : Leaves ps ks s (t.modFree f) := by
  refine h.trans ⟨rfl, fun p n => ?_, fun _ _ => rfl⟩
  cases p <;> first | rfl | exact absurd hp n

theorem Leaves.modResp (f : Resp → Resp) (hp : Part.resp ∈ ps) (h : Leaves ps ks s t) : Leaves ps ks s (t.modResp f) := by
  refine h.trans ⟨rfl, fun p n => ?_, fun _ _ => rfl⟩
  cases p <;> first | rfl | exact absurd hp n

theorem Leaves.modEvents (f : Map EventRec → Map EventRec) (hp : Part.events ∈ ps) (h : Leaves ps ks s t) : Leaves ps ks s (t.modEvents f) := by
  refine h.trans ⟨rfl, fun p n => ?_, fun _ _ => rfl⟩
  cases p <;> first | rfl | exact absurd hp n

theorem Leaves.modTb (f : TimeBase → TimeBase) (hp : Part.tb ∈ ps) (h : Leaves ps ks s t) : Leaves ps ks s (t.modTb f) := by
  refine h.trans ⟨rfl, fun p n => ?_, fun _ _ => rfl⟩
  cases p <;> first | rfl | exact absurd hp n

theorem Leaves.modFab (f : Fabric → Fabric) (hp : Part.fab ∈ ps) (h : Leaves ps ks s t) : Leaves ps ks s (t.modFab f) := by
  refine h.trans ⟨rfl, fun p n => ?_, fun _ _ => rfl⟩
  cases p <;> first | rfl | exact absurd hp n

theorem Leaves.modIc (f : Interconnect → Interconnect) (hp : Part.ic ∈ ps) (h : Leaves ps ks s t) : Leaves ps ks s (t.modIc f) := by
  refine h.trans ⟨rfl, fun p n => ?_, fun _ _ => rfl⟩
  cases p <;> first | rfl | exact absurd hp n

theorem Leaves.modNoc (f : Noc → Noc) (hp : Part.noc ∈ ps) (h : Leaves ps ks s t) : Leaves ps ks s (t.modNoc f) := by
  refine h.trans ⟨rfl, fun p n => ?_, fun _ _ => rfl⟩
  cases p <;> first | rfl | exact absurd hp n

theorem Leaves.modThy (f : Thyme → Thyme) (hp : Part.thy ∈ ps) (h : Leaves ps ks s t) : Leaves ps ks s (t.modThy f) := by
  refine h.trans ⟨rfl, fun p n => ?_, fun _ _ => rfl⟩
  cases p <;> first | rfl | exact absurd hp n

theorem Leaves.modMem (f : Map MemWord → Map MemWord) (hp : Part.mem ∈ ps) (h : Leaves ps ks s t) : Leaves ps ks s (t.modMem f) := by
  refine h.trans ⟨rfl, fun p n => ?_, fun _ _ => rfl⟩
  cases p <;> first | rfl | exact absurd hp n

theorem Leaves.modChip (f : OnChip → OnChip) (hp : Part.chip ∈ ps) (h : Leaves ps ks s t) : Leaves ps ks s (t.modChip f) := by
  refine h.trans ⟨rfl, fun p n => ?_, fun _ _ => rfl⟩
  cases p <;> first | rfl | exact absurd hp n

theorem Leaves.modLpx (f : Map Lpx → Map Lpx) (hp : Part.lpx ∈ ps) (h : Leaves ps ks s t) : Leaves ps ks s (t.modLpx f) := by
  refine h.trans ⟨rfl, fun p n => ?_, fun _ _ => rfl⟩
  cases p <;> first | rfl | exact absurd hp n

theorem Leaves.modLanes (f : Lanes → Lanes) (hp : Part.lanes ∈ ps) (h : Leaves ps ks s t) : Leaves ps ks s (t.modLanes f) := by
  refine h.trans ⟨rfl, fun p n => ?_, fun _ _ => rfl⟩
  cases p <;> first | rfl | exact absurd hp n

theorem Leaves.modTio (f : Tio → Tio) (hp : Part.tio ∈ ps) (h : Leaves ps ks s t) : Leaves ps ks s (t.modTio f) := by
  refine h.trans ⟨rfl, fun p n => ?_, fun _ _ => rfl⟩
  cases p <;> first | rfl | exact absurd hp n

theorem Leaves.modPge (f : Map Pge → Map Pge) (hp : Part.pge ∈ ps) (h : Leaves ps ks s t) : Leaves ps ks s (t.modPge f) := by
  refine h.trans ⟨rfl, fun p n => ?_, fun _ _ => rfl⟩
  cases p <;> first | rfl | exact absurd hp n

theorem Leaves.modFce (f : Map Fce → Map Fce) (hp : Part.fce ∈ ps) (h : Leaves ps ks s t) : Leaves ps ks s (t.modFce f) := by
  refine h.trans ⟨rfl, fun p n => ?_, fun _ _ => rfl⟩
  cases p <;> first | rfl | exact absurd hp n

theorem Leaves.modDlk (f : DieLinks → DieLinks) (hp : Part.dlk ∈ ps) (h : Leaves ps ks s t) : Leaves ps ks s (t.modDlk f) := by
  refine h.trans ⟨rfl, fun p n => ?_, fun _ _ => rfl⟩
  cases p <;> first | rfl | exact absurd hp n

theorem Leaves.modMid (f : List MidTest → List MidTest) (hp : Part.mid ∈ ps) (h : Leaves ps ks s t) : Leaves ps ks s (t.modMid f) := by
  refine h.trans ⟨rfl, fun p n => ?_, fun _ _ => rfl⟩
  cases p <;> first | rfl | exact absurd hp n

theorem Leaves.modMsp (f : Map Msp → Map Msp) (hp : Part.msp ∈ ps) (h : Leaves ps ks s t) : Leaves ps ks s (t.modMsp f) := by
  refine h.trans ⟨rfl, fun p n => ?_, fun _ _ => rfl⟩
  cases p <;> first | rfl | exact absurd hp n

theorem Leaves.modSage (f : Sage → Sage) (hp : Part.sage ∈ ps) (h : Leaves ps ks s t) : Leaves ps ks s (t.modSage f) := by
  refine h.trans ⟨rfl, fun p n => ?_, fun _ _ => rfl⟩
  cases p <;> first | rfl | exact absurd hp n

theorem Leaves.modDawn (f : Dawn → Dawn) (hp : Part.dawn ∈ ps) (h : Leaves ps ks s t) : Leaves ps ks s (t.modDawn f) := by
  refine h.trans ⟨rfl, fun p n => ?_, fun _ _ => rfl⟩
  cases p <;> first | rfl | exact absurd hp n

theorem Leaves.modPcie (f : Pcie → Pcie) (hp : Part.pcie ∈ ps) (h : Leaves ps ks s t) : Leaves ps ks s (t.modPcie f) := by
  refine h.trans ⟨rfl, fun p n => ?_, fun _ _ => rfl⟩
  cases p <;> first | rfl | exact absurd hp n

theorem Leaves.modDbg (f : Dbg → Dbg) (hp : Part.dbg ∈ ps) (h : Leaves ps ks s t) : Leaves ps ks s (t.modDbg f) := by
  refine h.trans ⟨rfl, fun p n => ?_, fun _ _ => rfl⟩
  cases p <;> first | rfl | exact absurd hp n

theorem Leaves.raise (a b c d : Nat) (hp : Part.events ∈ ps) (h : Leaves ps ks s t) : Leaves ps ks s (t.raise a b c d) :=
  h.modEvents _ hp

theorem Leaves.respond (a b : Nat) (p : Bool) (hp : Part.resp ∈ ps) (h : Leaves ps ks s t) : Leaves ps ks s (t.respond a b p) :=
  h.modResp _ hp

theorem Leaves.draw (hp : Part.free ∈ ps) (h : Leaves ps ks s t) : Leaves ps ks s t.draw := h.modFree _ hp

theorem Leaves.irqEdge (n : Nat) (hk : Reg.PLIC_PEND.key n ∈ ks) (hw : Reg.PLIC_WAIT.key n ∈ ks) (h : Leaves ps ks s t) :
    Leaves ps ks s (t.irqEdge n) := by
  unfold State.irqEdge
  split
  · exact h
  · split
    · exact h.satAdd _ _ _ hw
    · exact h.setR _ _ _ hk

end Sys2Proof.Machine
end

