-- ==== Sys2Proof/WellFormed.lean ====
section
/-!
DEFINITION. Which commands are well formed: what the operand types leave out, namely the numbers that name a place that exists and the values that fit
where the manual carries them. A command that is not well formed is none that the device can be sent; its meaning is total all the same.
-/

namespace Sys2Proof

open Sys2Proof.Machine

/-- Why a command is not well formed. -/
inductive IllFormed where
  /-- an address that is not aligned to its access, or lies outside the registers the command is for (R13, R23) -/
  | addr
  /-- an event code that is never raised (R28, R221, R258), or not at this severity (R26) -/
  | event
  /-- a RAM block's address, byte enables or data outside their fields (R109) -/
  | ram
  /-- a flipped bit outside the stored word -/
  | upset
  /-- a multiplexer number outside a region (R161) -/
  | mux
  /-- a packet's field outside its width, or, of an endpoint other than a NAP, LEN different from its data flits (R188, R189) -/
  | packet
  /-- a lane or flit that a packet cannot have (R181, R188) -/
  | hop
  /-- a route for a router or an entry that does not exist (R197) -/
  | route
  /-- blocks of a line in two codes (R306, R307) -/
  | blocks
  /-- a request of no bytes, of more than a packet moves, or with data beyond its length (R189) -/
  | memory
  /-- a memory unit, or a unit that Midnight tests, that does not exist (R480, R696) -/
  | unit
  /-- a link at 64 GT/s that is not in flit mode (R522) -/
  | link
  /-- a host request outside its BAR or too long (R526, R529) -/
  | host
  /-- a number of VFs written to another function than PF1 (R525) -/
  | config
  /-- a die-link group or wire that does not exist (R679, R680) -/
  | wire
  /-- a configuration stream's part outside its field (R600 to R603) -/
  | stream
  /-- a sample that does not hold one value for each of the 256 sensors (R662) -/
  | sensors
  /-- more levels than the boundary register has cells -/
  | boundary
deriving DecidableEq, Repr

/-- A check and what fails when it does not hold. -/
def need (b : Bool) (why : IllFormed) : Option IllFormed := if b then none else some why

/-- A register access at its alignment (R23). -/
def busAligned (addr : BitVec 48) (wide : Bool) : Bool := decide (addr.toNat % (if wide then 8 else 4) = 0)

/-- A code that the manual defines, so that a block may raise it (R28, R221, R258). -/
def eventCode (c : BitVec 16) : Bool := (List.range 6).any (fun v => eventDefined c.toNat v)

/-- An upset's bit lies among a word's data and check bits; a word of RAM or user NVM has no valid bit with a parity (R466). -/
def upsetIn (w : Nat) (unit : Bool) : Option Upset → Bool
  | some (.single k) => decide (k < w + 8)
  | some (.multi _) => true
  | some .validParity => unit
  | none => true

/-- A write on a RAM port within its fields (R109, R110). -/
def ramWriteOk : Option RamWrite → Bool
  | some r => decide (r.addr < 65536) && decide (r.be < 256) && decide (r.din < 2 ^ 72)
  | none => true

/-- A packet's fields lie within their widths (R188, R189). -/
def packetFieldsOk (p : Packet) : Bool :=
  decide (p.dest < 65536) && decide (p.src < 65536) && decide (p.prio < 8) && decide (p.flow < 4096) && decide (p.epoch < 2)
    && decide (p.len ≤ 31) && decide (p.kind < 16) && decide (p.deadline < 2 ^ 24) && decide (p.destDev < 64)
    && decide (p.srcDev < 64) && decide (p.status < 16) && decide (p.size < 2048) && decide (p.addr < 2 ^ 48) && decide (p.tag < 256)
    && decide (p.user < 2 ^ 256) && decide (p.vc < 3) && p.data.all (fun f => decide (f.bits < 2 ^ 512))

/-- A packet of an endpoint other than a NAP: its fields lie within their widths and LEN counts its data flits. What a NAP is given may disagree (R164). -/
def packetOk (p : Packet) : Bool := packetFieldsOk p && decide (1 ≤ p.len) && decide (p.data.length = p.len)

/-- A link's faults name flits, lanes and control wires that a packet has: a flit has eight lanes of 64 data bits, and a control field of five bits on three wires each
(R181, R182). -/
def hopFaultOk (f : HopFault) : Bool :=
  f.ce.all (fun x => decide (x.1 < 32) && decide (x.2 < 8)) && f.wires.all (fun x => decide (x.1 < 32) && decide (x.2.1 < 5) && decide (x.2.2 < 3))
    && f.dataUe.all (fun x => decide (x.1 < 31) && decide (x.2 < 8)) && f.hdrUe.all (fun x => decide (x < 8))
    && f.silent.all (fun x => decide (x.1 < 31) && decide (x.2 < 2 ^ 512))

/-- A route-table entry of a router (R197). -/
def changeOk (c : RouteChange) : Bool := decide (c.router < 384) && decide (c.entry < 384) && decide (c.value < 16)

/-- The blocks of one line have one code, and only code words of 66-bit blocks can be uncorrectable or corrected (R306, R307, R310). -/
def blocksOk (l : List LineBlock) (pam : Bool) : Bool :=
  l.all (fun b => match b with
    | .bits .. => true
    | .chars .. => false) ||
  (!pam && l.all (fun b => match b with
    | .bits .. => false
    | .chars .. => true))

/-- A memory request moves 1 to 1,980 bytes (R189). -/
def memReqOk (r : MemReq) : Bool :=
  decide (r.addr < 2 ^ 48) && decide (0 < r.bytes) && decide (r.bytes ≤ 1980) && decide (r.data < 2 ^ (8 * r.bytes)) && decide (r.req < 65536)

/-- The number of VFs is PF1's (R525). -/
def cfgOk (func : Fin 34) : CfgAccess → Bool
  | .numVfs _ => decide (func.val = 1)
  | .readId => true
  | .readClass => true
  | .busMaster _ => true
  | .power _ => true
  | .msix _ _ => true
  | .other => true

/-- A base die's page of a lateral or vertical link (R693). -/
def bdPage (bd p : Fin 4) : Nat := bd.val * 8 + p.val

/-- A stream's frames, images and firmware lie within their lengths (R601 to R603). -/
def streamOk (f : Stream) : Bool :=
  f.frames.all (fun r => decide (r.data < 2 ^ 4096)) && f.errata.all (fun e => e.frames.all (fun r => decide (r.data < 2 ^ 4096)))
    && f.images.all (fun g => decide (g.data < 2 ^ (8 * (if g.comp then g.bytes + (g.bytes + 63) / 64 else g.bytes))))
    && (f.sageFw.map (fun w => decide (w.2 < 2 ^ (8 * w.1)))).getD true && (f.duskFw.map (fun w => decide (w.2 < 2 ^ (8 * w.1)))).getD true

/-- What is ill formed about a command, if anything. -/
def Instr.illFormed : Instr → Option IllFormed
  | .registerWrite addr wide _ _ => need (busAligned addr wide) .addr
  | .counterClearingRead addr wide _ _ => need (busAligned addr wide) .addr
  | .eventRaised _ code severity _ => need (eventDefined code.toNat severity.toNat) .event
  | .eventRecordWrite _ code => need (eventCode code) .event
  | .eventRingConfigWrite off _ => need (decide (off % 4 = 0) && decide (0x0200 ≤ off) && decide (off ≤ 0x0208)) .addr
  | .eventRingRpWrite .. => none
  | .eventRingOvfClear .. => none
  | .sysidWrite .. => none
  | .devRstDevice .. => none
  | .devRstWarm .. => none
  | .powerOnReset => none
  | .powerOnResetEnd .. => none
  | .ramRestoreDone .. => none
  | .timeCounterStart => none
  | .deskewRecalibrate .. => none
  | .tbsTimeLoRead .. => none
  | .setTime => none
  | .stepNow => none
  | .roleWrite .. => none
  | .syncFrameSend => none
  | .syncFrameReceive .. => none
  | .syncLost => none
  | .holdoverLimit => none
  | .trefLost => none
  | .trefRestored => none
  | .timePllLockLost => none
  | .timePllLockRegained => none
  | .timePllUnlock => none
  | .fabCgApply .. => none
  | .retuneCommit .. => none
  | .cgPllLocked .. => none
  | .clkgenUnlock .. => none
  | .fabCgAbort .. => none
  | .fabCgEnable .. => none
  | .fabCgDisable .. => none
  | .pwclkSourceWrite .. => none
  | .pwclkResume .. => none
  | .fabRamRead _ _ _ _ addr upset => need (decide (addr < 65536) && upsetIn 64 false upset) .ram
  | .fabRamWrite _ _ _ pa pb => need (ramWriteOk pa && ramWriteOk pb) .ram
  | .macUpdate .. => none
  | .fabRoTrim .. => none
  | .roTrimWindowEnd .. => none
  | .fabRoAbort .. => none
  | .fabRoFreqWrite .. => none
  | .nvmFabricRead .. => none
  | .nvmReadComplete _ upset => need (upsetIn 64 false upset) .upset
  | .nvmFabricWrite .. => none
  | .nvmRegisterWrite .. => none
  | .nvmWriteDrain .. => none
  | .nvmLockKey .. => none
  | .nvmLockTimeout .. => none
  | .spDataPush .. => none
  | .spDataPop .. => none
  | .spModeApply .. => none
  | .spRouteApply .. => none
  | .spByteReceived .. => none
  | .spByteSent .. => none
  | .outholdRelease .. => none
  | .wrholdRelease .. => none
  | .stholdRelease .. => none
  | .dcqWrite .. => none
  | .dcqEntryPresent .. => none
  | .dcqRead .. => none
  | .dcqRemovalReport .. => none
  | .xbarSelUpset _ _ mux _ => need (decide (mux < 2 ^ 18)) .mux
  | .napTxPacket _ _ p => need (packetFieldsOk p) .packet
  | .napRxDeliver .. => none
  | .napMmRequest .. => none
  | .napMmAck .. => none
  | .napMmTimeout .. => none
  | .regionClkSelWrite .. => none
  | .fabRgnIsoReq .. => none
  | .fabRgnIsoExit .. => none
  | .fabRgnIsoAbort .. => none
  | .isolationCommit .. => none
  | .isolationExitCommit .. => none
  | .routerPacketReceive _ fault => need (hopFaultOk fault) .hop
  | .packetDeliver .. => none
  | .wakeBufferDrain .. => none
  | .nocWakeTimeout .. => none
  | .nocWakeRefused .. => none
  | .portQuietOff .. => none
  | .forcedCloseTimeout .. => none
  | .routeUpdate changes => need (changes.all changeOk) .route
  | .routeUpdateAbort .. => none
  | .routeEpochRelease => none
  | .thyAdmit .. => none
  | .thySuspend .. => none
  | .thyResume .. => none
  | .thyTeardown .. => none
  | .thyReadmit .. => none
  | .thyAbort .. => none
  | .thyTimeout .. => none
  | .contractDrainEnd .. => none
  | .ingressAccept p => need (packetOk p) .packet
  | .tioVectorPacket .. => none
  | .tioVectorStart .. => none
  | .tioEdgeEvent .. => none
  | .tioStrobe .. => none
  | .tioVectorEnd .. => none
  | .tioResultComplete .. => none
  | .tioResultFlush .. => none
  | .tioStop .. => none
  | .tioStopTakeEffect .. => none
  | .tioSrst .. => none
  | .tioSupplyMismatch .. => none
  | .tioCalibrate .. => none
  | .tioDelayApply .. => none
  | .lneCfgWrite .. => none
  | .laneRefLost .. => none
  | .laneCdrLost .. => none
  | .laneSlip .. => none
  | .rawWordReceive .. => none
  | .rawWordTransmit .. => none
  | .dclEnable .. => none
  | .dclDisable .. => none
  | .dclRetrainCmd .. => none
  | .dclBlockLock .. => none
  | .dclBlockLockLost .. => none
  | .dclErrorThreshold _ blocks => need (blocksOk (blocks.map (fun b => b.2)) false) .blocks
  | .dclCap .. => none
  | .dclRateReq .. => none
  | .dclRateAck .. => none
  | .dclRateSwitch .. => none
  | .dclEq .. => none
  | .dclTsReq .. => none
  | .dclTsRsp .. => none
  | .dclLatinfo .. => none
  | .dclTimeHi .. => none
  | .dclTimeLo .. => none
  | .dclMap .. => none
  | .dclStatus .. => none
  | .dclRetrainBlock .. => none
  | .dclIdle .. => none
  | .dclCapxTimeout .. => none
  | .dclRelockTimeout .. => none
  | .dclEqtrainTimeout .. => none
  | .dclLatmeasTimeout .. => none
  | .dclTxPacket .. => none
  | .dclMessageTransmit .. => none
  | .dclStreamMessageReceive _ blocks uncorrectable corrected => need (blocksOk blocks (uncorrectable || decide (corrected ≠ 0))) .blocks
  | .dclMapWrite .. => none
  | .dclStreamEntryWrite .. => none
  | .dclAsymWrite .. => none
  | .pgeArm .. => none
  | .pgeAbort .. => none
  | .pgeStop .. => none
  | .pgeSrst .. => none
  | .pgeNop .. => none
  | .pgeHalt .. => none
  | .pgeJmp .. => none
  | .pgeCall .. => none
  | .pgeRet .. => none
  | .pgeBr .. => none
  | .pgeLdc .. => none
  | .pgeDjnz .. => none
  | .pgeTset .. => none
  | .pgeSv .. => none
  | .pgeAv .. => none
  | .pgeWaitt .. => none
  | .pgeWaitf .. => none
  | .pgeSyncv .. => none
  | .pgeWaitEnd .. => none
  | .pgeWaitTimeout .. => none
  | .pgeLdg .. => none
  | .pgeSflag .. => none
  | .pgeSvptr .. => none
  | .pgeEvt .. => none
  | .pgeIllegalOpcode .. => none
  | .pgeRecordDelta .. => none
  | .pgeRecordToggle .. => none
  | .pgeRecordEnd .. => none
  | .pgeLeadClose .. => none
  | .pgePacketInject .. => none
  | .pgeFetchResponse .. => none
  | .pgeBreachNotice .. => none
  | .fceArm .. => none
  | .fceArmComplete .. => none
  | .fceEnd .. => none
  | .fceAbort .. => none
  | .fceSrst .. => none
  | .fceInputPacket .. => none
  | .fceTraceEntry .. => none
  | .fceRecordProcess .. => none
  | .fceAnalysisCommit .. => none
  | .fceStatSnapshot .. => none
  | .fceStatPacketInject .. => none
  | .fceBreachNotice .. => none
  | .mspParallel .. => none
  | .mspNop .. => none
  | .mspHalt .. => none
  | .mspBr .. => none
  | .mspCall .. => none
  | .mspRet .. => none
  | .mspBdnz .. => none
  | .mspRepeat .. => none
  | .mspWaitInbox .. => none
  | .mspWaitTime .. => none
  | .mspWaitBarrier .. => none
  | .mspWaitChannel .. => none
  | .mspWaitEnd .. => none
  | .mspSend .. => none
  | .mspSflg .. => none
  | .mspLdi .. => none
  | .mspMov .. => none
  | .mspMovp .. => none
  | .mspMovs .. => none
  | .mspLd .. => none
  | .mspSt .. => none
  | .mspAdd .. => none
  | .mspSub .. => none
  | .mspAnd .. => none
  | .mspOr .. => none
  | .mspXor .. => none
  | .mspAddi .. => none
  | .mspShift .. => none
  | .mspCmp .. => none
  | .mspMin .. => none
  | .mspMax .. => none
  | .mspAbs .. => none
  | .mspMinix .. => none
  | .mspMaxix .. => none
  | .mspMacd .. => none
  | .mspAcc .. => none
  | .mspSta .. => none
  | .mspIllegal .. => none
  | .mspGrpGo .. => none
  | .mspStartCycle .. => none
  | .mspGrpAbort .. => none
  | .mspGrpStop .. => none
  | .mspGrpResume .. => none
  | .mspSrst .. => none
  | .mspInboxMessage .. => none
  | .mspBreachNotice .. => none
  | .mspMemoryAccess _ _ upset => need (upsetIn 64 true upset) .upset
  | .mspChannelInject .. => none
  | .spdAccess r upset => need (memReqOk r && upsetIn 64 true upset) .memory
  | .spdAliasUpdate r upset => need (memReqOk r && upsetIn 64 true upset) .memory
  | .spdOwnWrite .. => none
  | .spdHandoverCommit .. => none
  | .spdHandoverAbort .. => none
  | .spdInv .. => none
  | .eccInv bd cls unit _ => need (unitOk (unitNo cls.toNat bd unit.toNat)) .unit
  | .invalidateSweepEnd unit => need (unitOk unit) .unit
  | .spdCopyStart .. => none
  | .spdCopyStop .. => none
  | .spdCopyResponse .. => none
  | .repairQueueRewrite unit => need (unitOk unit) .unit
  | .scrubPassStart unit => need (unitOk unit) .unit
  | .rowRemapCommit unit => need (unitOk unit) .unit
  | .lpxDefaultTrainStart => none
  | .lpxTrainingEnd .. => none
  | .lpxInitPassEnd .. => none
  | .lpxRetrain .. => none
  | .lpxAbort .. => none
  | .lpxRetrainWaitTimeout .. => none
  | .lpxDetWrite .. => none
  | .lpxDetApply .. => none
  | .lpxMapWrite .. => none
  | .lpxRefreshWindow .. => none
  | .lpxMr4Update .. => none
  | .lpxOscPass .. => none
  | .lpxAccess r _ upset => need (memReqOk r && upsetIn 64 false upset) .memory
  | .lpxInlineWriteback .. => none
  | .lpxIdlePowerDown .. => none
  | .pciePerstRise => none
  | .pcieLinkUp rate _ flit _ => need (flit || decide (rate.val ≠ 5)) .link
  | .pcieLinkDown => none
  | .pcieHotReset .. => none
  | .pcieConfigRequest func acc => need (cfgOk func acc) .config
  | .pcieHostRead func bar2 off bytes => need (decide (0 < bytes) && decide (bytes ≤ 4096) && inBar bar2 func off bytes) .host
  | .pcieHostWrite func bar2 off bytes data _ => need (decide (0 < bytes) && decide (bytes ≤ 4096) && decide (data < 2 ^ (8 * bytes)) && inBar bar2 func off bytes) .host
  | .pcieDeviceResponse => none
  | .pcieDmaStart .. => none
  | .pcieDmaStop .. => none
  | .pcieDmaResponse .. => none
  | .pcieMsixTrigger .. => none
  | .pcieDoorbell .. => none
  | .mbxH2dLenWrite .. => none
  | .mbxD2hLenWrite .. => none
  | .pciDbgGo .. => none
  | .pciStageGo .. => none
  | .pciStageAbort .. => none
  | .pciFlr .. => none
  | .doeDiscovery .. => none
  | .spdmGetVersion => none
  | .spdmGetCapabilities => none
  | .spdmNegotiateAlgorithms => none
  | .spdmGetDigests => none
  | .spdmGetCertificate .. => none
  | .spdmChallenge .. => none
  | .spdmGetMeasurements .. => none
  | .spdmChunkSend .. => none
  | .spdmChunkGet .. => none
  | .spdmUnsupportedRequest .. => none
  | .spdmGetPqCert => none
  | .spdmGetPqSig => none
  | .mtimecmpMatch .. => none
  | .plicClaim .. => none
  | .plicComplete .. => none
  | .patchKeyWrite .. => none
  | .patchEnWrite .. => none
  | .patchKeyTimeout .. => none
  | .wdtKick .. => none
  | .wdtFirstExpiry .. => none
  | .wdtSecondExpiry .. => none
  | .hartResetCmd .. => none
  | .dmHaltreq .. => none
  | .dmHartHalted .. => none
  | .dmResumereq .. => none
  | .dmNdmreset => none
  | .dmHartreset .. => none
  | .dmAbstractCommand .. => none
  | .dmSystemBusAccess .. => none
  | .dmSessionCloseWrite => none
  | .authNonce => none
  | .authNonceReady => none
  | .authGrant .. => none
  | .authGrantResult .. => none
  | .authDrop => none
  | .authLockoutEnd => none
  | .debugSessionTimeout => none
  | .drwAttention .. => none
  | .drwResetLow => none
  | .drwResetRelease => none
  | .drwNop .. => none
  | .drwOpen .. => none
  | .drwClose .. => none
  | .drwMaskSet .. => none
  | .drwMaskClear .. => none
  | .drwRead .. => none
  | .drwWrite .. => none
  | .dawnBootStart _ _ _ bad => need (bad.all (fun w => groupOk w.1 w.2.1 && wireOk w.1 w.2.2)) .wire
  | .dawnFlashStall => none
  | .dawnStreamReadDone f => need (streamOk f) .stream
  | .dawnVerifyDone .. => none
  | .dwnGo .. => none
  | .dwnAbort .. => none
  | .dawnApplyDone .. => none
  | .dwnRelGo .. => none
  | .dwnRbkRead .. => none
  | .dawnReadbackScan .. => none
  | .dawnReloadEnable .. => none
  | .dawnReloadHashDone .. => none
  | .sgeNonceNew .. => none
  | .sgeNonceReady => none
  | .sgeGenkey .. => none
  | .sgeProvision .. => none
  | .sgeEnroll .. => none
  | .sgeAddSlot .. => none
  | .sgeRevoke .. => none
  | .sgeSetOsk .. => none
  | .sgeSetLegacy .. => none
  | .sgeRetire .. => none
  | .sgeCmdAbort .. => none
  | .sgeVerifyDone .. => none
  | .dskPwrOn .. => none
  | .dskPwrOff .. => none
  | .dskPwrAbort .. => none
  | .powerRemoved .. => none
  | .powerDomainOpen .. => none
  | .dskForceKey .. => none
  | .dskForceSet .. => none
  | .dskForceLift .. => none
  | .forceKeyTimeout => none
  | .sensorSample x => need (decide (x.length = 256)) .sensors
  | .thermalTrip => none
  | .thermStopClear .. => none
  | .throttleApply .. => none
  | .adcConversion .. => none
  | .wakeTimerFire => none
  | .dlkWireError bd p group wire => need (groupOk (bdPage bd p) group && wireOk (bdPage bd p) wire) .wire
  | .dlkUncorrectableCycle bd p group _ => need (groupOk (bdPage bd p) group) .wire
  | .dlkBlockError bd p group => need (groupOk (bdPage bd p) group) .wire
  | .dlkSpareSwitch bd p group => need (groupOk (bdPage bd p) group) .wire
  | .dlkFoldCommit bd p group => need (groupOk (bdPage bd p) group) .wire
  | .midAutoTest bd cls index => need (midUnit bd cls index) .unit
  | .midReqGo .. => none
  | .midReqAbort .. => none
  | .midDeadline .. => none
  | .midTestStart .. => none
  | .midTestEnd bd cls index _ _ _ _ _ => need (midUnit bd cls index) .unit
  | .midUnitReleased bd cls index => need (midUnit bd cls index) .unit
  | .svpPinCfgWrite .. => none
  | .svpFunctionSwitch .. => none
  | .svpOutWrite .. => none
  | .svpLockKey .. => none
  | .svpLockSet .. => none
  | .svpLockTimeout => none
  | .svpWakeEdge .. => none
  | .jtagBypass => none
  | .jtagSamplePreload pins load => need (decide (pins < 2 ^ 4096) && decide (load < 2 ^ 4096)) .boundary
  | .jtagExtest pins load => need (decide (pins < 2 ^ 4096) && decide (load < 2 ^ 4096)) .boundary
  | .jtagExtestPulse pins load => need (decide (pins < 2 ^ 4096) && decide (load < 2 ^ 4096)) .boundary
  | .jtagExtestTrain pins load => need (decide (pins < 2 ^ 4096) && decide (load < 2 ^ 4096)) .boundary
  | .jtagClamp => none
  | .jtagHighz => none
  | .jtagIdcode => none
  | .jtagTapReset => none
  | .regionClockRisingEdge .. => none
  | .scrubWordRead unit upset => need (unitOk unit && upsetIn 64 true upset) .unit
  | .laneCdrLock .. => none
  | .rawPcsLock .. => none
  | .vioTbSupplyInRange .. => none
  | .completionTimeout .. => none

/-- A command is well formed. -/
def Instr.wf (i : Instr) : Bool := (i.illFormed).isNone

end Sys2Proof
end

