-- ==== Sys2Proof/Tests/Slice0.lean ====
section
/-!
SUPPORT. Tests: an ill-formed command for each check, worked examples of the specification, and for each statement states and operands that meet its
hypotheses.
-/

set_option linter.unreachableTactic false
set_option linter.unusedTactic false

open Sys2Proof Sys2Proof.Machine

/-! ### Values the tests use -/

/-- A packet that carries nothing. -/
def pkt0 : Packet := { dest := 0, src := 0, len := 0, kind := 4, data := [] }

/-- MSP 0 runs, with one instruction word in its repeat cache. -/
def mspAtWord (w : Nat) : State := (State.reset.setR Reg.MSP_STAT_STATE 0 5).modMspx 0 (fun k => { k with cache := [(w, false)] })

/-- PGE 0 runs, with eight copies of an instruction word in its fetched line. -/
def pgeAtWord (w : Nat) : State := (State.reset.setR Reg.PGE_STAT_STATE 0 5).modPgx 0 (fun k => { k with lines := [(0, ⟨0, List.replicate 8 w, [], false⟩)] })

/-- A full configuration stream that carries nothing. -/
def stream0 : Stream :=
  { legacy := false, formed := true, isPart := false, enc := false, sysidV := false, relHold := false, coreStart := false, rbkOk := false,
    minFlevel := 0, sysid := 0, lpx := ⟨false, 0, false⟩, mask := [], frames := [], items := [], errata := [], regs := [], images := [],
    sageFw := none, duskFw := none, slot := 0, digest := 0, poisoned := false, crcBad := false }

/-- The state after a command. -/
def after (i : Instr) (s : State) : State := took (exec i s) s

/-! ### Ill-formed commands are refused by the check, by name -/

theorem test_ill_formed_addr : Instr.illFormed (.registerWrite 0x6000000002 false 0 0) = some .addr := by decide

theorem test_ill_formed_event : Instr.illFormed (.eventRaised 0 0x0200 0 0) = some .event := by decide

theorem test_ill_formed_ram : Instr.illFormed (.fabRamRead 0 0 0 .a 65536 none) = some .ram := by decide

theorem test_ill_formed_upset : Instr.illFormed (.nvmReadComplete 0 (some (.single 72))) = some .upset := by decide

theorem test_ill_formed_mux : Instr.illFormed (.xbarSelUpset 0 0 (2 ^ 18) 0) = some .mux := by decide

theorem test_ill_formed_packet : Instr.illFormed (.napTxPacket 0 0 { pkt0 with vc := 3 }) = some .packet := by decide

theorem test_ill_formed_hop : Instr.illFormed (.routerPacketReceive 0 { hdrUe := [8] }) = some .hop := by decide

theorem test_ill_formed_route : Instr.illFormed (.routeUpdate [⟨384, 0, 0⟩]) = some .route := by decide

theorem test_ill_formed_blocks : Instr.illFormed (.dclStreamMessageReceive 0 [.chars 0 false, .bits 0 0] false 0) = some .blocks := by decide

theorem test_ill_formed_memory : Instr.illFormed (.lpxAccess ⟨0, 0, false, 0, false, 0⟩ .ok none) = some .memory := by decide

theorem test_ill_formed_unit : Instr.illFormed (.midAutoTest 0 1 4) = some .unit := by decide

theorem test_ill_formed_link : Instr.illFormed (.pcieLinkUp 5 4 false false) = some .link := by decide

theorem test_ill_formed_host : Instr.illFormed (.pcieHostRead 0 false 0x20000 4) = some .host := by decide

theorem test_ill_formed_config : Instr.illFormed (.pcieConfigRequest 0 (.numVfs 1)) = some .config := by decide

theorem test_ill_formed_wire : Instr.illFormed (.dlkWireError 0 0 208 0) = some .wire := by decide

theorem test_ill_formed_stream : Instr.illFormed (.dawnStreamReadDone { stream0 with sageFw := some (1, 256) }) = some .stream := by decide

theorem test_ill_formed_sensors : Instr.illFormed (.sensorSample []) = some .sensors := by decide

theorem test_ill_formed_boundary : Instr.illFormed (.jtagExtest (2 ^ 4096) 0) = some .boundary := by decide +kernel

/-- A well-formed command passes. -/
theorem test_well_formed : Instr.wf (.registerWrite 0x6000000008 true 0 0) = true := by decide

/-! ### Worked examples of the specification -/

/-- 01_six_levels: region FD1.100 has endpoint ID 0x0F80. -/
theorem test_region_endpoint : napEp (rgn 1 100) = 0x0F80 := by decide

/-- 01_six_levels: the window of FD6.017 starts at 0x59_1100_0000, and its access point serves it. -/
theorem test_region_window : State.reset.addrEp 0x5911000000 = some (napEp (rgn 6 17)) := by decide

/-- 05_thyme_network: PGE03 is 0x2420, FCE03 0x2424, MSP group 2 0x182C and MSP group 9 0x8C2C. -/
theorem test_endpoints : kindOf 0x2420 = .pge 3 ∧ kindOf 0x2424 = .fce 3 ∧ kindOf 0x182C = .mspGroup 2 ∧ kindOf 0x8C2C = .mspGroup 9 := by decide

/-- 07_timed_io and 09_pattern_engines: bank TB03 is BD0.N42 port 8, 0x1520. -/
theorem test_bank_endpoint : kindOf 0x1520 = .tio 3 := by decide

/-- 05_thyme_network: from BD0.N90 toward MSP group 9 the default entry 216 holds 4 (W). -/
theorem test_default_route : destEntry 0x8C2C = 216 ∧ State.reset.route 90 0 216 = 4 := by decide

/-- 06_thyme_contracts: a header accepted at 196,608 × 65,536 ticks under a bound of 1,587,712 ticks is stamped 0x03_0019. -/
theorem test_deadline : ((State.reset.modTime (fun _ => 196608 * 65536)).setR Reg.THY_CT_BOUND_TICKS 7 1587712).stamp 7 = 0x030019 := by decide

/-- The comma character K28.5 of R59 and R61 at negative running disparity is 0011111010, the first bit sent on the left. -/
theorem test_comma : (encode8b10b true k285 false).1 = 0b0101111100 ∧ decode8b10b 0b0101111100 false = some (true, 0xBC) := by decide

/-- R597: byte pairs of a stream alternate between the two devices. -/
theorem test_interleave : (List.range 6).map (flashPlace 1) = [(0, 0), (0, 1), (1, 0), (1, 1), (0, 2), (0, 3)] := by decide

/-- 13_lpddr5x: with U 7 GB in linear mode, LPX03 serves 0x0C_1234_5678 at local address 0x1234_5678. -/
theorem test_channel_address : ((State.reset.setR Reg.LPX_STAT_CSTATE 3 2).setR Reg.LPX_DEV_U 3 28).lpxCheck 0xC12345678 4 = .ok 3 0x12345678 := by decide

/-- 13_lpddr5x: with dies of 16 Gb in two ranks and INLINE at 1, U is 7 GB, 28 units of 256 MB. -/
theorem test_usable : usable 1 1 true = 28 := by decide

/-- 19_die_links: the entry of group 113 of BD3's column page stands at offset 0x11C4 of 0x61_03E1_0000. -/
theorem test_group_entry : regAddr 0x6103E111C4 = .page .dlk 25 0x11C4 := by decide

/-- BD3's column page with three errors of wire 17 of group 113 since time 0, at 700,000 ncyc. -/
def wireThree : State := (State.reset.modNoc (fun n => { n with clock := 700000 * 512 })).modDlk (fun d => { d with wires := [(wireKey 25 113 17, (3, 0))] })

/-- 19_die_links: the fourth error makes wire 17 failing. -/
theorem test_fourth_error : Map.find (after (.dlkWireError 3 1 113 17) wireThree).dlk.pend (grpIx 25 113) = some (17, 700000) := by decide

/-- 19_die_links: at the block boundary after 700,128 ncyc the spare carries wire 17. -/
theorem test_spare : (after (.dlkSpareSwitch 3 1 113) ((after (.dlkWireError 3 1 113 17) wireThree).modNoc (fun n => { n with clock := 700160 * 512 }))).getR Reg.DLK_GRP_WIRE
    (grpIx 25 113) = 17 := by decide

/-- 21_package: IDCODE at feature level 3 is 0x38A0_878B. -/
theorem test_idcode : (after .jtagIdcode (State.reset.setR Reg.DEV_FEAT_PKG_FLEVEL 0 3)).resp.data = 0x38A0878B := by decide

/-- 15_control_and_debug: a write of 0x8000_0001 to dmcontrol on DRW sets haltreq of hart 0, and is answered ACK 0. -/
theorem test_dmcontrol : (after (.drwWrite 0x10 0x80000001 false .ok) ((State.reset.setR Reg.DBG_SESS_STATE 0 1).modDbg (fun d => { d with frame := true }))).dbg.haltreq
    = [0] := by decide

/-- 10_fail_and_repair: the cells left of subarray 85 with 7 spare rows and 7 spare columns are covered by five rows. -/
theorem test_repair : exactCover false 14 [(500, 300), (500, 2600), (1100, 300), (2600, 1800), (3700, 3600), (40, 3950)] 7 7 ⟨[], []⟩
    = some ⟨[40, 500, 1100, 2600, 3700], []⟩ := by decide

/-- 11_measurement_processors: 0x5554_0001 is ADDI D5 ← D5 + 1. -/
theorem test_msp_addi : (after (.mspAddi 0) ((mspAtWord 0x55540001).setD 0 5 7)).mspD 0 5 = 8 := by decide

/-- 11_measurement_processors: 0x3028_0000 is MOVP P0 ← D5. -/
theorem test_msp_movp : (after (.mspMovp 0) ((mspAtWord 0x30280000).setD 0 5 253)).mspP 0 0 = 253 := by decide

/-- 11_measurement_processors: 0x1580_000A is BDNZ D6 → 10. -/
theorem test_msp_bdnz : (after (.mspBdnz 0) ((mspAtWord 0x1580000A).setD 0 6 2)).getR Reg.MSP_PC_PC 0 = 10 := by decide

/-- 11_measurement_processors: 0x7C80_0000 is STA D2 ← A0. -/
theorem test_msp_sta : (after (.mspSta 0) ((mspAtWord 0x7C800000).setA 0 0 91)).mspD 0 2 = 91 := by decide

/-- 11_measurement_processors: 0x708D_0000 is MAXIX D2, D3, D4: the greater of two values and its index. -/
theorem test_msp_maxix : (after (.mspMaxix 0) (((mspAtWord 0x708D0000).setD 0 2 91).setD 0 3 58)).mspD 0 3 = 91 := by decide

/-- 09_pattern_engines: 0x2000_0000_0000_0002 is TSET 2. -/
theorem test_pge_tset : ((after (.pgeTset 0) (pgeAtWord 0x2000000000000002)).pgx 0).ts = 2 := by decide

/-- 09_pattern_engines: 0x1400_0018_0000_000F is BR AEND = 0 → 15. -/
theorem test_pge_br : (after (.pgeBr 0) (pgeAtWord 0x140000180000000F)).getR Reg.PGE_PC_PC 0 = 15 := by decide

/-- R556: of two sources of equal priority the claim answers the lower number. -/
theorem test_claim : (((((State.reset.setR Reg.PLIC_PEND 9 1).setR Reg.PLIC_PEND 7 1).setR Reg.PLIC_ENABLE 0 0x280).setR Reg.PLIC_PRIO 7 3).setR
    Reg.PLIC_PRIO 9 3).plicBest 0 = 7 := by decide +kernel

/-! ### Hypotheses are met -/

/-- States and operands that meet the hypotheses of each clause of IdleStepIsOneTimeClockCycle. -/
theorem witness_IdleStepIsOneTimeClockCycle :
    (∃ (s : State), (s.pending = []) ∧
      (s.flag Reg.T_RUNNING 0 = true) ∧
      ((∀ n < 16, s.tick.lpxOwes n = false))) ∧
    (∃ (s : State), (s.pending = []) ∧
      (s.flag Reg.T_RUNNING 0 = false) ∧
      ((∀ n < 16, s.tick.lpxOwes n = false))) ∧
    (∃ (s : State), (s.pending = [])) :=
  ⟨⟨State.reset.setR Reg.T_RUNNING 0 1, by rfl, by decide, by decide⟩,
   ⟨State.reset, by rfl, by decide, by decide⟩,
   ⟨State.reset, by rfl⟩⟩

/-- States and operands that meet the hypotheses of each clause of EveryStepKeepsTheTablesCanonical. -/
theorem witness_EveryStepKeepsTheTablesCanonical :
    (∃ (s : State) (t : State), (s.tidy = true) ∧
      (step s = .next t)) :=
  ⟨State.reset, State.reset.idle, by decide, by rfl⟩

/-- States and operands that meet the hypotheses of each clause of CommandsLeaveTheQueue. -/
theorem witness_CommandsLeaveTheQueue :
    (∃ (c : Instr) (s : State) (t : State), (exec c s = .next t)) :=
  ⟨.jtagClamp, State.reset, took (exec .jtagClamp State.reset) State.reset, by rfl⟩

/-- States and operands that meet the hypotheses of each clause of WritesReachOneField. -/
theorem witness_WritesReachOneField :
    (∃ (f : Field) (g : Field) (i : Nat) (j : Nat), (f.key i ≠ g.key j)) ∧
    (∃ (f : Field) (g : Field) (i : Nat) (j : Nat), (g.id % Field.idBound ≠ f.id % Field.idBound ∨ j ≠ i)) :=
  ⟨⟨Reg.HART_RUN, Reg.HART_HALT, 0, 0, by decide⟩,
   ⟨Reg.HART_RUN, Reg.HART_RUN, 0, 1, by decide⟩⟩

/-- States and operands that meet the hypotheses of each clause of AccessCodesActBitByBit. -/
theorem witness_AccessCodesActBitByBit :
    (∃ (x : Slot), (x.field.acc = .rw ∨ x.field.acc = .rwl)) ∧
    (∃ (x : Slot), (x.field.acc = .w1c)) ∧
    (∃ (x : Slot), (x.field.acc = .w1s)) ∧
    (∃ (x : Slot), (x.field.acc = .ro ∨ x.field.acc = .wo ∨ x.field.acc = .rc ∨ x.field.acc = .hidden)) :=
  ⟨⟨⟨Reg.DEV_RST_CFG_HOT_WARM, 0, 0, 0, 1⟩, by decide⟩,
   ⟨⟨Reg.DEV_RING_OVF, 0, 0, 0, 1⟩, by decide⟩,
   ⟨⟨⟨1, .dev, 0, [], (0, 1), 0, 4, 0, .w1s, fun _ => 0⟩, 0, 0, 0, 1⟩, by decide⟩,
   ⟨⟨Reg.DEV_RING_WP, 0, 0, 0, 1⟩, by decide⟩⟩

/-- States and operands that meet the hypotheses of each clause of RegisterWriteCompletes. -/
theorem witness_RegisterWriteCompletes :
    (∃ (addr : BitVec 48) (wide : Bool), (regAddr addr.toNat = .unmapped ∨ addr.toNat % (if wide then 8 else 4) ≠ 0)) ∧
    (∃ (req : BitVec 16), (isMgmt req.toNat = false)) ∧
    (∃ (req : Nat), ((∀ n : Fin 4, req ≠ coreEp n))) :=
  ⟨⟨0x6300000000, false, by decide⟩,
   ⟨0, by decide⟩,
   ⟨0, by decide⟩⟩

/-- States and operands that meet the hypotheses of each clause of RegisterReadCompletes. -/
theorem witness_RegisterReadCompletes :
    (∃ (addr : BitVec 48) (b : Blk) (page : Nat) (off : Nat), (regAddr addr.toNat = .page b page off) ∧
      (addr.toNat % 4 = 0) ∧
      (b ∈ [Blk.dev, .sge, .dsk, .pci, .thy, .dcl, .lpx, .lnq, .spd, .ecc, .rtr])) ∧
    (∃ (addr : BitVec 48) (wide : Bool), (regAddr addr.toNat = .unmapped ∨ addr.toNat % (if wide then 8 else 4) ≠ 0)) ∧
    (∃ (s : State), (s.dawn.readable = true) ∧
      (s.level = 2)) ∧
    (∃ (s : State), (s.dawn.readable = false ∨ s.level ≠ 2)) :=
  ⟨⟨0x6000000108, .dev, 0, 0x108, by decide, by decide, by decide⟩,
   ⟨0x6300000000, false, by decide⟩,
   ⟨(State.reset.modDawn (fun d => { d with readable := true })).setR Reg.SGE_LCS_STATE 0 0, by decide, by decide⟩,
   ⟨State.reset, by decide⟩⟩

/-- States and operands that meet the hypotheses of each clause of RepeatedEventCounts. -/
theorem witness_RepeatedEventCounts :
    (∃ (s : State) (source : BitVec 16) (code : BitVec 16) (severity : BitVec 4) (r : EventRec), (Map.find s.events (evKey source.toNat code.toNat) = some r) ∧
      (eventDefined code.toNat severity.toNat = true) ∧
      (eventSource source.toNat code.toNat = true)) :=
  ⟨State.reset.raise 1 0x0201 2 4, 1, 0x0201, 2, ⟨0, 2, 0, 4⟩, by first | decide | rfl, by decide, by decide⟩

/-- States and operands that meet the hypotheses of each clause of EventCollectorCompletes. -/
theorem witness_EventCollectorCompletes :
    (∃ (s : State) (source : BitVec 16) (code : BitVec 16) (severity : BitVec 4), (Map.find s.events (evKey source.toNat code.toNat) = none) ∧
      (eventDefined code.toNat severity.toNat = true) ∧
      (eventSource source.toNat code.toNat = true)) ∧
    (∃ (source : BitVec 16) (code : BitVec 16) (severity : BitVec 4), (eventDefined code.toNat severity.toNat = false ∨ eventSource source.toNat code.toNat = false)) ∧
    (∃ (s : State) (source : BitVec 16) (code : BitVec 16) (r : EventRec), (Map.find s.events (evKey source.toNat code.toNat) = some r) ∧
      (s.flag Reg.DEV_RING_EN 0 = false ∨ (s.getR Reg.DEV_RING_WP 0 + 1) % 2 ^ s.ringLog = s.getR Reg.DEV_RING_RP 0) ∧
      (r.severity < 3)) ∧
    (∃ (s : State) (source : BitVec 16) (code : BitVec 16) (r : EventRec), (Map.find s.events (evKey source.toNat code.toNat) = some r) ∧
      (s.flag Reg.DEV_RING_EN 0 = true) ∧
      ((s.getR Reg.DEV_RING_WP 0 + 1) % 2 ^ s.ringLog ≠ s.getR Reg.DEV_RING_RP 0) ∧
      (r.severity < 3)) ∧
    (∃ (s : State) (source : BitVec 16) (code : BitVec 16) (r : EventRec), (Map.find s.events (evKey source.toNat code.toNat) = some r) ∧
      (s.ringRefuses = true) ∧
      (3 ≤ r.severity)) ∧
    (∃ (s : State) (source : BitVec 16) (code : BitVec 16), (Map.find s.events (evKey source.toNat code.toNat) = none)) :=
  ⟨⟨State.reset, 1, 0x0201, 2, by decide, by decide, by decide⟩,
   ⟨1, 0x0200, 2, by decide⟩,
   ⟨State.reset.raise 1 2 2 4, 1, 2, ⟨0, 2, 0, 4⟩, by first | decide | rfl, by decide, by decide⟩,
   ⟨(State.reset.raise 1 2 2 4).setR Reg.DEV_RING_EN 0 1, 1, 2, ⟨0, 2, 0, 4⟩, by first | decide | rfl, by decide, by decide, by decide⟩,
   ⟨State.reset.raise 1 2 3 4, 1, 2, ⟨0, 3, 0, 4⟩, by first | decide | rfl, by decide, by decide⟩,
   ⟨State.reset, 0, 0, by decide⟩⟩

/-- States and operands that meet the hypotheses of each clause of RingConfigurationIsFrozenWhileEnabled. -/
theorem witness_RingConfigurationIsFrozenWhileEnabled :
    (∃ (s : State) (off : Nat), (s.flag Reg.DEV_RING_EN 0 = true) ∧
      (off = 0x200 ∨ off = 0x204)) ∧
    (∃ (s : State), (s.flag Reg.DEV_RING_EN 0 = true)) ∧
    (∃ (s : State) (value : BitVec 32), (s.flag Reg.DEV_RING_EN 0 = false) ∧
      (value.toNat / 256 % 32 ≠ s.getR Reg.DEV_RING_LOG2N 0)) ∧
    (∃ (s : State) (value : BitVec 32), (s.flag Reg.DEV_RING_EN 0 = false) ∧
      (value.toNat / 256 % 32 = s.getR Reg.DEV_RING_LOG2N 0)) ∧
    (∃ (s : State), (s.flag Reg.DEV_RING_EN 0 = false)) :=
  ⟨⟨State.reset.setR Reg.DEV_RING_EN 0 1, 0x200, by decide, by decide⟩,
   ⟨State.reset.setR Reg.DEV_RING_EN 0 1, by decide⟩,
   ⟨State.reset, 0, by decide, by decide⟩,
   ⟨State.reset, 0xA01, by decide, by decide⟩,
   ⟨State.reset, by decide⟩⟩

/-- States and operands that meet the hypotheses of each clause of ResetCommandsComplete. -/
theorem witness_ResetCommandsComplete :
    (∃ (s : State), (s.flag Reg.POR_HELD 0 = false) ∧
      (s.dbg.resetLow = false)) ∧
    (∃ (s : State), (s.inReset = false)) ∧
    (∃ (key : BitVec 16), (key ≠ 0xA11C)) ∧
    (∃ (f : Field), (fuseFields.all (fun g => decide (g.id % Field.idBound ≠ f.id % Field.idBound)) = true) ∧
      (f.id % Field.idBound ≠ Reg.POR_HELD.id ∧ f.id % Field.idBound ≠ Reg.DRAM_GEN.id)) ∧
    (∃ (s : State), (s.flag Reg.POR_HELD 0 = true) ∧
      (s.dbg.resetLow = false)) ∧
    (∃ (s : State), (s.flag Reg.POR_HELD 0 = false ∨ s.dbg.resetLow = true)) ∧
    (∃ (s : State), (s.contractIds.any (fun i => s.flag Reg.THY_CT_STREAM_EN i && decide (s.getR Reg.DCL_STR_CFG_TYPE (s.getR Reg.THY_CT_STREAM_INDEX i) = 4)) = false)) :=
  ⟨⟨State.reset, by decide, by decide⟩,
   ⟨State.reset, by decide⟩,
   ⟨0, by decide⟩,
   ⟨Reg.HART_RUN, by decide, by decide⟩,
   ⟨State.reset.setR Reg.POR_HELD 0 1, by decide, by decide⟩,
   ⟨State.reset, by decide⟩,
   ⟨State.reset, by decide⟩⟩

/-- States and operands that meet the hypotheses of each clause of TimeCounterCommandsComplete. -/
theorem witness_TimeCounterCommandsComplete :
    (∃ (s : State), (s.flag Reg.T_RUNNING 0 = false) ∧
      (s.inReset = false)) ∧
    (∃ (s : State), (s.flag Reg.T_RUNNING 0 = true ∨ s.inReset = true)) ∧
    (∃ (s : State), (s.role = 2) ∧
      (s.flag Reg.T_UNLOCK 0 = false)) ∧
    (∃ (s : State), (s.role = 1) ∧
      (s.flag Reg.T_UNLOCK 0 = false)) ∧
    (∃ (s : State), (s.role = 0 ∨ s.flag Reg.T_UNLOCK 0 = true)) ∧
    (∃ (s : State), (s.role ≠ 1)) ∧
    (∃ (s : State), (s.role ≠ 0)) ∧
    (∃ (s : State) (role : BitVec 2), ((s.setR Reg.TBS_SYNC_CTL_ROLE 0 role.toNat).role = s.role)) :=
  ⟨⟨State.reset, by decide, by decide⟩,
   ⟨State.reset.setR Reg.T_RUNNING 0 1, by decide⟩,
   ⟨State.reset.setR Reg.TBS_SYNC_CTL_ROLE 0 2, by decide, by decide⟩,
   ⟨State.reset.setR Reg.TBS_SYNC_CTL_ROLE 0 1, by decide, by decide⟩,
   ⟨State.reset, by decide⟩,
   ⟨State.reset, by decide⟩,
   ⟨State.reset.setR Reg.TBS_SYNC_CTL_ROLE 0 1, by decide⟩,
   ⟨State.reset, 0, by decide⟩⟩

/-- States and operands that meet the hypotheses of each clause of TabirairSyncCommandsComplete. -/
theorem witness_TabirairSyncCommandsComplete :
    (∃ (s : State), (s.role = 1) ∧
      (s.flag Reg.T_RUNNING 0 = true) ∧
      (s.flag Reg.T_UNLOCK 0 = false) ∧
      (s.flag Reg.SYN_SET_PEND 0 = false)) ∧
    (∃ (s : State), (s.role = 1) ∧
      (s.flag Reg.T_RUNNING 0 = true) ∧
      (s.flag Reg.T_UNLOCK 0 = false) ∧
      (s.flag Reg.SYN_SET_PEND 0 = true)) ∧
    (∃ (s : State) (comma : BitVec 10) (body : BitVec 130) (check : BitVec 20), (s.role = 0) ∧
      (s.flag Reg.T_RUNNING 0 = true) ∧
      (frameCrcOk (frameCode comma body check) = false) ∧
      (s.frameFormOk (frameCode comma body check) = true)) ∧
    (∃ (s : State) (comma : BitVec 10) (body : BitVec 130) (check : BitVec 20), (s.role = 0) ∧
      (s.flag Reg.T_RUNNING 0 = true) ∧
      (frameCrcOk (frameCode comma body check) = true) ∧
      (s.frameFormOk (frameCode comma body check) = false)) ∧
    (∃ (s : State) (comma : BitVec 10) (body : BitVec 130) (check : BitVec 20), (s.role = 0) ∧
      (s.flag Reg.T_RUNNING 0 = true) ∧
      (frameCrcOk (frameCode comma body check) = true) ∧
      (s.frameFormOk (frameCode comma body check) = true)) ∧
    (∃ (s : State) (comma : BitVec 10) (body : BitVec 130) (check : BitVec 20), (s.role = 0) ∧
      (s.flag Reg.T_RUNNING 0 = true) ∧
      (frameCrcOk (frameCode comma body check) = true) ∧
      (s.frameFormOk (frameCode comma body check) = true) ∧
      (s.getR Reg.TBS_SYNC_STAT_SYNC_STATE 0 = 0) ∧
      (s.flag Reg.SYN_STEPDUE 0 = false) ∧
      (s.getR Reg.SYN_ACQ 0 = 0 ∧ 2 ≤ s.getR Reg.TBS_SYNC_CFG_ACQ_FRAMES 0)) ∧
    (∃ (s : State), (s.role = 0) ∧
      (s.getR Reg.TBS_SYNC_STAT_SYNC_STATE 0 = 2 ∨ s.getR Reg.TBS_SYNC_STAT_SYNC_STATE 0 = 3) ∧
      (s.lossFrames * 320000 ≤ s.since (s.getR Reg.SYN_LARR 0))) ∧
    (∃ (s : State), (s.getR Reg.TBS_SYNC_STAT_SYNC_STATE 0 = 4) ∧
      (s.getR Reg.TBS_HOLD_LIMIT_LIMIT 0 ≠ 0) ∧
      (s.getR Reg.TBS_HOLD_LIMIT_LIMIT 0 ≤ s.holdFrames) ∧
      (s.flag Reg.SYN_HLRAISED 0 = false)) :=
  ⟨⟨(State.reset.setR Reg.TBS_SYNC_CTL_ROLE 0 1).setR Reg.T_RUNNING 0 1, by decide, by decide, by decide, by decide⟩,
   ⟨((State.reset.setR Reg.TBS_SYNC_CTL_ROLE 0 1).setR Reg.T_RUNNING 0 1).setR Reg.SYN_SET_PEND 0 1, by decide, by decide, by decide, by decide⟩,
   ⟨State.reset.setR Reg.T_RUNNING 0 1, BitVec.ofNat 10 ((BitVec.ofNat 160 ((encodeChars ((true, k285) :: (List.replicate 15 1).map (fun b => (false, b))) false).1.foldr (fun c a => c.toNat + 1024 * a) 0)).toNat), BitVec.ofNat 130 ((BitVec.ofNat 160 ((encodeChars ((true, k285) :: (List.replicate 15 1).map (fun b => (false, b))) false).1.foldr (fun c a => c.toNat + 1024 * a) 0)).toNat / 2 ^ 10), BitVec.ofNat 20 ((BitVec.ofNat 160 ((encodeChars ((true, k285) :: (List.replicate 15 1).map (fun b => (false, b))) false).1.foldr (fun c a => c.toNat + 1024 * a) 0)).toNat / 2 ^ 140), by decide, by decide, by decide +kernel, by decide +kernel⟩,
   ⟨State.reset.setR Reg.T_RUNNING 0 1, BitVec.ofNat 10 ((BitVec.ofNat 160 ((encodeChars (frameChars (frameData 7 0 0 0 0 0)) false).1.foldr (fun c a => c.toNat + 1024 * a) 0)).toNat), BitVec.ofNat 130 ((BitVec.ofNat 160 ((encodeChars (frameChars (frameData 7 0 0 0 0 0)) false).1.foldr (fun c a => c.toNat + 1024 * a) 0)).toNat / 2 ^ 10), BitVec.ofNat 20 ((BitVec.ofNat 160 ((encodeChars (frameChars (frameData 7 0 0 0 0 0)) false).1.foldr (fun c a => c.toNat + 1024 * a) 0)).toNat / 2 ^ 140), by decide, by decide, by decide +kernel, by decide +kernel⟩,
   ⟨State.reset.setR Reg.T_RUNNING 0 1, BitVec.ofNat 10 ((BitVec.ofNat 160 ((encodeChars (frameChars (frameData 1 0 0 0 0 0)) false).1.foldr (fun c a => c.toNat + 1024 * a) 0)).toNat), BitVec.ofNat 130 ((BitVec.ofNat 160 ((encodeChars (frameChars (frameData 1 0 0 0 0 0)) false).1.foldr (fun c a => c.toNat + 1024 * a) 0)).toNat / 2 ^ 10), BitVec.ofNat 20 ((BitVec.ofNat 160 ((encodeChars (frameChars (frameData 1 0 0 0 0 0)) false).1.foldr (fun c a => c.toNat + 1024 * a) 0)).toNat / 2 ^ 140), by decide, by decide, by decide +kernel, by decide +kernel⟩,
   ⟨State.reset.setR Reg.T_RUNNING 0 1, BitVec.ofNat 10 ((BitVec.ofNat 160 ((encodeChars (frameChars (frameData 1 0 0 0 0 0)) false).1.foldr (fun c a => c.toNat + 1024 * a) 0)).toNat), BitVec.ofNat 130 ((BitVec.ofNat 160 ((encodeChars (frameChars (frameData 1 0 0 0 0 0)) false).1.foldr (fun c a => c.toNat + 1024 * a) 0)).toNat / 2 ^ 10), BitVec.ofNat 20 ((BitVec.ofNat 160 ((encodeChars (frameChars (frameData 1 0 0 0 0 0)) false).1.foldr (fun c a => c.toNat + 1024 * a) 0)).toNat / 2 ^ 140), by decide, by decide, by decide +kernel, by decide +kernel, by decide, by decide, by decide⟩,
   ⟨(State.reset.setR Reg.TBS_SYNC_STAT_SYNC_STATE 0 3).modTime (fun _ => 0x7FFFFFFFFFFFFFFF), by decide, by decide, by decide⟩,
   ⟨((State.reset.setR Reg.TBS_SYNC_STAT_SYNC_STATE 0 4).setR Reg.TBS_HOLD_LIMIT_LIMIT 0 1).modNoc (fun n => { n with clock := 320000 }), by decide, by decide, by decide, by decide⟩⟩

/-- States and operands that meet the hypotheses of each clause of ReferenceAndClockCommandsComplete. -/
theorem witness_ReferenceAndClockCommandsComplete :
    (∃ (s : State), (s.flag Reg.TBS_SYNC_STAT_TREF_OK 0 = true)) ∧
    (∃ (s : State), (s.flag Reg.T_RUNNING 0 = true) ∧
      (s.flag Reg.TBS_SYNC_STAT_TREF_OK 0 = false) ∧
      (s.inReset = false)) ∧
    (∃ (s : State), (s.flag Reg.TBS_SYNC_STAT_PLL_LOCK 0 = true) ∧
      (s.flag Reg.TBS_SYNC_STAT_TREF_OK 0 = true)) ∧
    (∃ (s : State), (s.flag Reg.T_RUNNING 0 = true) ∧
      (s.flag Reg.TBS_SYNC_STAT_PLL_LOCK 0 = false)) ∧
    (∃ (s : State), (s.flag Reg.T_PLL_SLIP 0 = true)) ∧
    (∃ (s : State) (die : Fin 12), (s.flag Reg.T_DIEFAULT die = false)) ∧
    (∃ (s : State) (fd : Fin 8) (g : Fin 8), (s.getR Reg.FAB_CG_STAT_STATE (per8 fd g) ≠ 1) ∧
      (cgLegal (s.getR Reg.FAB_CG_CFG_N (per8 fd g)) (s.getR Reg.FAB_CG_CFG_D (per8 fd g)) (s.getR Reg.FAB_CG_FRAC_F (per8 fd g)) = true)) ∧
    (∃ (s : State) (fd : Fin 8) (g : Fin 8), (s.getR Reg.FAB_CG_STAT_STATE (per8 fd g) ≠ 1) ∧
      (cgLegal (s.getR Reg.FAB_CG_CFG_N (per8 fd g)) (s.getR Reg.FAB_CG_CFG_D (per8 fd g)) (s.getR Reg.FAB_CG_FRAC_F (per8 fd g)) = false)) ∧
    (∃ (s : State) (fd : Fin 8) (g : Fin 8), (s.flag Reg.CG_WAIT (per8 fd g) = true) ∧
      (s.due (s.getR Reg.CG_RAT (per8 fd g)) = true) ∧
      (s.flag Reg.FAB_CG_CTL_EN (per8 fd g) = false)) ∧
    (∃ (s : State) (fd : Fin 8) (g : Fin 8), (s.flag Reg.CG_RELOCK (per8 fd g) = true)) ∧
    (∃ (s : State) (fd : Fin 8) (g : Fin 8), (s.flag Reg.CG_RELOCK (per8 fd g) = true ∨ s.flag Reg.CG_START (per8 fd g) = true) ∧
      (s.flag Reg.CG_WAIT (per8 fd g) = false)) ∧
    (∃ (s : State) (fd : Fin 8) (g : Fin 8), (s.flag Reg.FAB_CG_CTL_EN (per8 fd g) = false)) ∧
    (∃ (s : State) (fd : Fin 8) (g : Fin 8), (s.flag Reg.FAB_CG_CTL_EN (per8 fd g) = true) ∧
      (s.flag Reg.CG_RELOCK (per8 fd g) = false)) ∧
    (∃ (s : State) (n : Fin 4), (s.flag Reg.PW_STOP n = true) ∧
      (s.flag Reg.FAB_CG_STAT_LOCK (s.getR Reg.TBS_PWCLK_SRC_FD n * 8 + s.getR Reg.TBS_PWCLK_SRC_GEN n) = true)) :=
  ⟨⟨State.reset.setR Reg.TBS_SYNC_STAT_TREF_OK 0 1, by decide⟩,
   ⟨State.reset.setR Reg.T_RUNNING 0 1, by decide, by decide, by decide⟩,
   ⟨(State.reset.setR Reg.TBS_SYNC_STAT_TREF_OK 0 1).setR Reg.TBS_SYNC_STAT_PLL_LOCK 0 1, by decide, by decide⟩,
   ⟨State.reset.setR Reg.T_RUNNING 0 1, by decide, by decide⟩,
   ⟨State.reset.setR Reg.T_PLL_SLIP 0 1, by decide⟩,
   ⟨State.reset, 3, by decide⟩,
   ⟨(State.reset.setR Reg.FAB_CG_CFG_N 0 16).setR Reg.FAB_CG_CFG_D 0 4, 0, 0, by decide, by decide⟩,
   ⟨State.reset.setR Reg.FAB_CG_CFG_N 0 3, 0, 0, by decide, by decide⟩,
   ⟨State.reset.setR Reg.CG_WAIT 0 1, 0, 0, by decide, by decide, by decide⟩,
   ⟨State.reset.setR Reg.CG_RELOCK 0 1, 0, 0, by decide⟩,
   ⟨State.reset.setR Reg.CG_RELOCK 0 1, 0, 0, by decide, by decide⟩,
   ⟨State.reset, 0, 0, by decide⟩,
   ⟨State.reset.setR Reg.FAB_CG_CTL_EN 0 1, 0, 0, by decide, by decide⟩,
   ⟨(State.reset.setR Reg.PW_STOP 0 1).setR Reg.FAB_CG_STAT_LOCK 0 1, 0, by decide, by decide⟩⟩

/-- States and operands that meet the hypotheses of each clause of FabricRamAndMacCommandsComplete. -/
theorem witness_FabricRamAndMacCommandsComplete :
    (∃ (s : State) (fd : Fin 8) (r : Fin 384), (s.writesHeld (rgn fd r) = false) ∧
      (s.regionClocked (rgn fd r) = true)) ∧
    (∃ (s : State) (fd : Fin 8) (r : Fin 384) (b : Fin 4) (port : RamPort) (addr : Nat), (s.writesHeld (rgn fd r) = false) ∧
      (s.regionClocked (rgn fd r) = true) ∧
      ((s.ram (rgn fd r * 4 + b)).ecc = false) ∧
      (Map.find s.fab.ramOld ((rgn fd r * 4 + b) * 1024 + ramWordOf (if port = .a then (s.ram (rgn fd r * 4 + b)).widthA else (s.ram (rgn fd r * 4 + b)).widthB) addr) = none)) ∧
    (∃ (s : State) (fd : Fin 8) (r : Fin 384) (b : Fin 4) (port : RamPort) (addr : Nat) (old : RamWord), (s.writesHeld (rgn fd r) = false) ∧
      (s.regionClocked (rgn fd r) = true) ∧
      ((s.ram (rgn fd r * 4 + b)).ecc = false) ∧
      (Map.find s.fab.ramOld ((rgn fd r * 4 + b) * 1024 + ramWordOf (if port = .a then (s.ram (rgn fd r * 4 + b)).widthA else (s.ram (rgn fd r * 4 + b)).widthB) addr) = some old)) ∧
    (∃ (s : State) (fd : Fin 8) (r : Fin 384) (b : Fin 4) (addr : Nat) (j : Nat), (s.writesHeld (rgn fd r) = false) ∧
      (s.regionClocked (rgn fd r) = true) ∧
      ((s.ram (rgn fd r * 4 + b)).ecc = true) ∧
      ((s.ram (rgn fd r * 4 + b)).invOnCfg = false) ∧
      ((s.ram (rgn fd r * 4 + b)).widthA = 64 ∧ (s.ram (rgn fd r * 4 + b)).widthB = 64) ∧
      (Map.find s.fab.ramOld ((rgn fd r * 4 + b) * 1024 + ramWordOf 64 addr) = none) ∧
      ((s.ramWord (rgn fd r * 4 + b) (ramWordOf 64 addr)).mark = some (.single j))) ∧
    (∃ (s : State) (fd : Fin 8) (r : Fin 384) (b : Fin 4) (a : RamWrite), (s.writesHeld (rgn fd r) = false) ∧
      (s.regionClocked (rgn fd r) = true) ∧
      (ramMask (s.ram (rgn fd r * 4 + b)).widthA (s.ram (rgn fd r * 4 + b)).ecc a ≠ (0, 0))) ∧
    (∃ (s : State) (fd : Fin 8) (r : Fin 384) (b : Fin 4) (a : RamWrite) (c : RamWrite) (n : Nat), (n = rgn fd r * 4 + b) ∧
      (s.writesHeld (rgn fd r) = false) ∧
      (s.regionClocked (rgn fd r) = true) ∧
      (ramWordOf (s.ram n).widthA a.addr = ramWordOf (s.ram n).widthB c.addr) ∧
      (((ramMask (s.ram n).widthA (s.ram n).ecc a).1 &&& (ramMask (s.ram n).widthB (s.ram n).ecc c).1) ≠ 0)) ∧
    (∃ (s : State) (fd : Fin 8) (r : Fin 384), (s.writesHeld (rgn fd r) = false) ∧
      (s.regionClocked (rgn fd r) = true)) ∧
    (∃ (s : State) (fd : Fin 8) (r : Fin 384) (i : MacIn), (s.writesHeld (rgn fd r) = false) ∧
      (s.regionClocked (rgn fd r) = true) ∧
      (i.clr = true)) ∧
    (∃ (s : State) (fd : Fin 8) (r : Fin 384) (slice : Fin 8) (i : MacIn) (m : Mac), (m = s.mac (rgn fd r * 8 + slice)) ∧
      (s.writesHeld (rgn fd r) = false) ∧
      (s.regionClocked (rgn fd r) = true) ∧
      (i.clr = false ∧ i.en = true)) ∧
    (∃ (s : State) (fd : Fin 8) (r : Fin 384) (slice : Fin 8) (i : MacIn) (m : Mac), (m = s.mac (rgn fd r * 8 + slice)) ∧
      (s.writesHeld (rgn fd r) = false) ∧
      (s.regionClocked (rgn fd r) = true) ∧
      (i.clr = false ∧ i.en = false)) ∧
    (∃ (s : State) (fd : Fin 8) (r : Fin 384), (s.writesHeld (rgn fd r) = true)) :=
  ⟨⟨((State.reset.setR Reg.FAB_CG_STAT_LOCK 0 1).setR Reg.FAB_WRHOLD 0 0).setR Reg.FAB_RGN_CLK_SEL 0 0, 0, 0, by decide, by decide⟩,
   ⟨((State.reset.setR Reg.FAB_CG_STAT_LOCK 0 1).setR Reg.FAB_WRHOLD 0 0).setR Reg.FAB_RGN_CLK_SEL 0 0, 0, 0, 0, .a, 0, by decide, by decide, by decide, by decide⟩,
   ⟨(((State.reset.setR Reg.FAB_CG_STAT_LOCK 0 1).setR Reg.FAB_WRHOLD 0 0).setR Reg.FAB_RGN_CLK_SEL 0 0).modFab (fun f => { f with ramOld := [(0, ⟨7, 0, none, true⟩)] }), 0, 0, 0, .a, 0, ⟨7, 0, none, true⟩, by decide, by decide, by decide, by first | decide | rfl⟩,
   ⟨(((State.reset.setR Reg.FAB_CG_STAT_LOCK 0 1).setR Reg.FAB_WRHOLD 0 0).setR Reg.FAB_RGN_CLK_SEL 0 0).modFab (fun f => { f with rams := [(0, { ram0 with ecc := true, widthA := 64, widthB := 64, invOnCfg := false })], ramWords := [(0, ⟨7, 0, some (.single 2), true⟩)] }), 0, 0, 0, 0, 2, by decide, by decide, by decide, by decide, by decide, by decide, by first | decide | rfl⟩,
   ⟨(((State.reset.setR Reg.FAB_CG_STAT_LOCK 0 1).setR Reg.FAB_WRHOLD 0 0).setR Reg.FAB_RGN_CLK_SEL 0 0).modFab (fun f => { f with rams := [] }), 0, 0, 0, ⟨0, 5, 255⟩, by decide, by decide, by decide⟩,
   ⟨((State.reset.setR Reg.FAB_CG_STAT_LOCK 0 1).setR Reg.FAB_WRHOLD 0 0).setR Reg.FAB_RGN_CLK_SEL 0 0, 0, 0, 0, ⟨0, 5, 255⟩, ⟨0, 5, 255⟩, 0, by decide, by decide, by decide, by decide, by decide⟩,
   ⟨((State.reset.setR Reg.FAB_CG_STAT_LOCK 0 1).setR Reg.FAB_WRHOLD 0 0).setR Reg.FAB_RGN_CLK_SEL 0 0, 0, 0, by decide, by decide⟩,
   ⟨((State.reset.setR Reg.FAB_CG_STAT_LOCK 0 1).setR Reg.FAB_WRHOLD 0 0).setR Reg.FAB_RGN_CLK_SEL 0 0, 0, 0, ⟨0, 0, 0, 0, 0, true, true⟩, by decide, by decide, by decide⟩,
   ⟨((State.reset.setR Reg.FAB_CG_STAT_LOCK 0 1).setR Reg.FAB_WRHOLD 0 0).setR Reg.FAB_RGN_CLK_SEL 0 0, 0, 0, 0, ⟨0, 0, 0, 0, 0, true, false⟩, mac0, by decide, by decide, by decide, by decide⟩,
   ⟨((State.reset.setR Reg.FAB_CG_STAT_LOCK 0 1).setR Reg.FAB_WRHOLD 0 0).setR Reg.FAB_RGN_CLK_SEL 0 0, 0, 0, 0, ⟨0, 0, 0, 0, 0, false, false⟩, mac0, by decide, by decide, by decide, by decide⟩,
   ⟨State.reset.setR Reg.FAB_WRHOLD 0 1, 0, 0, by decide⟩⟩

/-- States and operands that meet the hypotheses of each clause of OscillatorAndUserNvmCommandsComplete. -/
theorem witness_OscillatorAndUserNvmCommandsComplete :
    (∃ (s : State) (fd : Fin 8) (g : Fin 8), (s.flag Reg.FAB_RO_CTL_EN (per8 fd g) = true) ∧
      (s.getR Reg.FAB_RO_STAT_STATE (per8 fd g) ≠ 1)) ∧
    (∃ (s : State) (fd : Fin 8) (g : Fin 8), (s.flag Reg.FAB_RO_CTL_EN (per8 fd g) = false ∨ s.getR Reg.FAB_RO_STAT_STATE (per8 fd g) = 1)) ∧
    (∃ (s : State) (fd : Fin 8) (g : Fin 8), (s.getR Reg.FAB_RO_STAT_STATE (per8 fd g) = 1)) ∧
    (∃ (s : State) (fd : Fin 8) (g : Fin 8), (s.getR Reg.FAB_RO_STAT_STATE (per8 fd g) = 1)) ∧
    (∃ (s : State) (fd : Fin 8) (g : Fin 8), (s.getR Reg.FAB_RO_STAT_STATE (per8 fd g) ≠ 1) ∧
      (s.getR Reg.FAB_RO_STAT_STATE (per8 fd g) ≠ 2 ∨ s.inCommitCycle Reg.RO_CMT (per8 fd g) = false)) ∧
    (∃ (s : State) (fd : Fin 8) (g : Fin 8), (s.getR Reg.FAB_RO_STAT_STATE (per8 fd g) = 2) ∧
      (s.inCommitCycle Reg.RO_CMT (per8 fd g) = true)) ∧
    (∃ (s : State) (fd : Fin 8), (s.regionClocked (nvmRegion fd) = true)) ∧
    (∃ (s : State) (fd : Fin 8), (s.regionClocked (nvmRegion fd) = false)) ∧
    (∃ (s : State) (fd : Fin 8) (a : Nat) (rest : List (Nat × Bool)) (d : BitVec 64), (s.regionClocked (nvmRegion fd) = true) ∧
      ((s.nvm fd).reads = (a, false) :: rest) ∧
      (nvmBuffered (s.nvm fd) a = some d)) ∧
    (∃ (s : State) (fd : Fin 8) (a : Nat) (rest : List (Nat × Bool)), (s.regionClocked (nvmRegion fd) = true) ∧
      ((s.nvm fd).reads = (a, false) :: rest) ∧
      (nvmBuffered (s.nvm fd) a = none) ∧
      (nvmBad (s.nvmWord fd a) = false)) ∧
    (∃ (s : State) (fd : Fin 8) (a : Nat) (rest : List (Nat × Bool)), (s.regionClocked (nvmRegion fd) = true) ∧
      ((s.nvm fd).reads = (a, false) :: rest) ∧
      (nvmBuffered (s.nvm fd) a = none) ∧
      (nvmBad (s.nvmWord fd a) = true)) ∧
    (∃ (s : State) (fd : Fin 8) (a : Nat) (rest : List (Nat × Bool)), ((s.nvm fd).reads = (a, true) :: rest)) ∧
    (∃ (s : State) (fd : Fin 8), (s.regionClocked (nvmRegion fd) = true) ∧
      ((s.nvm fd).buf.length < 4)) ∧
    (∃ (s : State) (fd : Fin 8) (byteAddr : BitVec 18), (s.nvmProtected fd (byteAddr.toNat / 8 % 32768) = false) ∧
      ((s.nvm fd).buf.length < 4) ∧
      ((s.nvm fd).stall = [])) ∧
    (∃ (s : State) (fd : Fin 8) (bank : Fin 4) (w : NvmWrite) (t : State), ((s.nvm fd).buf.find? (fun w => decide (w.addr / 8192 = bank.val)) = some w) ∧
      (t = (s.putNvmWord fd w.addr ⟨w.data, none⟩).modNvm fd (fun n => { n with
      buf := n.buf.erase w, reads := n.reads.map (fun r => if r.1 / 8192 = bank.val then (r.1, false) else r) }))) :=
  ⟨⟨State.reset.setR Reg.FAB_RO_CTL_EN 0 1, 0, 0, by decide, by decide⟩,
   ⟨State.reset, 0, 0, by decide⟩,
   ⟨State.reset.setR Reg.FAB_RO_STAT_STATE 0 1, 0, 0, by decide⟩,
   ⟨State.reset.setR Reg.FAB_RO_STAT_STATE 0 1, 0, 0, by decide⟩,
   ⟨State.reset, 0, 0, by decide, by decide⟩,
   ⟨(State.reset.setR Reg.FAB_RO_STAT_STATE 0 2).markCommit Reg.RO_CMT 0, 0, 0, by decide, by decide⟩,
   ⟨(State.reset.setR Reg.FAB_CG_STAT_LOCK 0 1).setR Reg.FAB_RGN_CLK_SEL 23 0, 0, by decide⟩,
   ⟨State.reset, 0, by decide⟩,
   ⟨((State.reset.setR Reg.FAB_CG_STAT_LOCK 0 1).setR Reg.FAB_RGN_CLK_SEL 23 0).modFab (fun f => { f with nvms := [(0, { nvm0 with reads := [(3, false)], buf := [⟨3, 9⟩] })] }), 0, 3, [], 9, by decide, by first | decide | rfl, by first | decide | rfl⟩,
   ⟨((State.reset.setR Reg.FAB_CG_STAT_LOCK 0 1).setR Reg.FAB_RGN_CLK_SEL 23 0).modFab (fun f => { f with nvms := [(0, { nvm0 with reads := [(3, false)] })] }), 0, 3, [], by decide, by first | decide | rfl, by decide, by decide⟩,
   ⟨((State.reset.setR Reg.FAB_CG_STAT_LOCK 0 1).setR Reg.FAB_RGN_CLK_SEL 23 0).modFab (fun f => { f with nvms := [(0, { nvm0 with reads := [(3, false)] })], nvmWords := [(3, ⟨5, some (.multi 0)⟩)] }), 0, 3, [], by decide, by first | decide | rfl, by decide, by decide⟩,
   ⟨State.reset.modFab (fun f => { f with nvms := [(0, { nvm0 with reads := [(3, true)] })] }), 0, 3, [], by first | decide | rfl⟩,
   ⟨(State.reset.setR Reg.FAB_CG_STAT_LOCK 0 1).setR Reg.FAB_RGN_CLK_SEL 23 0, 0, by decide, by decide⟩,
   ⟨State.reset, 0, 0, by decide, by decide, by decide⟩,
   ⟨State.reset.modFab (fun f => { f with nvms := [(0, { nvm0 with buf := [⟨3, 9⟩] })] }), 0, 0, ⟨3, 9⟩, ((State.reset.modFab (fun f => { f with nvms := [(0, { nvm0 with buf := [⟨3, 9⟩] })] })).putNvmWord 0 3 ⟨9, none⟩).modNvm 0 (fun n => { n with buf := [], reads := n.reads.map (fun r => if r.1 / 8192 = 0 then (r.1, false) else r) }), by decide, rfl⟩⟩

/-- States and operands that meet the hypotheses of each clause of SerialPortCommandsComplete. -/
theorem witness_SerialPortCommandsComplete :
    (∃ (s : State) (fd : Fin 8) (p : Fin 8) (b : BitVec 8) (rest : List (BitVec 8)), ((s.sp (per8 fd p)).rx = b :: rest)) ∧
    (∃ (s : State) (fd : Fin 8) (p : Fin 8), ((s.sp (per8 fd p)).rx = [])) ∧
    (∃ (s : State) (fd : Fin 8) (p : Fin 8), ((s.sp (per8 fd p)).mode ≠ 0)) ∧
    (∃ (s : State) (fd : Fin 8) (p : Fin 8) (b : BitVec 8) (rest : List (BitVec 8)), ((s.sp (per8 fd p)).tx = b :: rest) ∧
      ((s.sp (per8 fd p)).mode ≠ 0)) :=
  ⟨⟨State.reset.modFab (fun f => { f with sps := [(0, { sp0 with rx := [7] })] }), 0, 0, 7, [], by decide⟩,
   ⟨State.reset, 0, 0, by decide⟩,
   ⟨State.reset.modFab (fun f => { f with sps := [(0, { sp0 with mode := 1 })] }), 0, 0, by decide⟩,
   ⟨State.reset.modFab (fun f => { f with sps := [(0, { sp0 with tx := [7], mode := 1 })] }), 0, 0, 7, [], by decide, by decide⟩⟩

/-- States and operands that meet the hypotheses of each clause of RegionClockEdgeCompletes. -/
theorem witness_RegionClockEdgeCompletes :
    (∃ (s : State) (fd : Fin 8) (r : Fin 384), (s.regionClocked (rgn fd r) = true)) ∧
    (∃ (s : State) (fd : Fin 8) (r : Fin 384), (s.regionClocked (rgn fd r) = true)) ∧
    (∃ (s : State) (fd : Fin 8) (r : Fin 384), (s.regionClocked (rgn fd r) = false)) :=
  ⟨⟨((State.reset.setR Reg.FAB_CG_STAT_LOCK 0 1).setR Reg.FAB_WRHOLD 0 0).setR Reg.FAB_RGN_CLK_SEL 0 0, 0, 0, by decide⟩,
   ⟨((State.reset.setR Reg.FAB_CG_STAT_LOCK 0 1).setR Reg.FAB_WRHOLD 0 0).setR Reg.FAB_RGN_CLK_SEL 0 0, 0, 0, by decide⟩,
   ⟨State.reset, 0, 0, by decide⟩⟩

/-- States and operands that meet the hypotheses of each clause of ClockCrossingAndAccessPointCommandsComplete. -/
theorem witness_ClockCrossingAndAccessPointCommandsComplete :
    (∃ (s : State) (fd : Fin 8) (r : Fin 384) (q : Fin 4), ((s.dcq (rgn fd r * 4 + q.val)).configured = true) ∧
      (s.regionClocked (rgn fd r) = true) ∧
      (s.isolated (rgn fd r) = false)) ∧
    (∃ (s : State) (fd : Fin 8) (r : Fin 384) (q : Fin 4), (s.regionClocked (rgn fd r) = false ∨ (s.dcq (rgn fd r * 4 + q.val)).configured = false ∨ (s.isolated (rgn fd r) = true ∧ s.dcqFull (rgn fd r * 4 + q.val) = false))) ∧
    (∃ (s : State) (fd : Fin 8) (r : Fin 384) (q : Fin 4), ((s.dcq (rgn fd r * 4 + q.val)).present < (s.dcq (rgn fd r * 4 + q.val)).entries.length) ∧
      (s.regionClocked (s.dcq (rgn fd r * 4 + q.val)).dstRegion = true)) ∧
    (∃ (s : State) (fd : Fin 8) (r : Fin 384) (q : Fin 4), (0 < (s.dcq (rgn fd r * 4 + q.val)).present) ∧
      (s.regionClocked (s.dcq (rgn fd r * 4 + q.val)).dstRegion = true)) ∧
    (∃ (s : State) (fd : Fin 8) (r : Fin 384) (q : Fin 4), (0 < (s.dcq (rgn fd r * 4 + q.val)).unreported) ∧
      (s.regionClocked (rgn fd r) = true)) ∧
    ((State.reset.dcq (rgn 0 0 * 4)).present = 0 ∧ State.reset.regionClocked (rgn 0 0) = false) ∧
    (∃ (s : State) (fd : Fin 8) (r : Fin 384) (p : Packet), (s.edgeLive (rgn fd r) = true) ∧
      (s.regionClocked (rgn fd r) = true) ∧
      (s.napWithdrawn (rgn fd r) = false) ∧
      (s.txRoom (rgn fd r) (p.data.length + 1) = true)) ∧
    (∃ (s : State) (fd : Fin 8) (r : Fin 384) (p : Packet), (s.edgeLive (rgn fd r) = false ∨ s.regionClocked (rgn fd r) = false ∨ s.napWithdrawn (rgn fd r) = true ∨ s.txRoom (rgn fd r) (p.data.length + 1) = false)) ∧
    (∃ (s : State) (fd : Fin 8) (r : Fin 384) (p : Packet) (rest : List Packet), (s.rxNext (rgn fd r) = some (p, rest)) ∧
      (s.isolated (rgn fd r) = false) ∧
      ((s.region (rgn fd r)).rx.length + (s.region (rgn fd r)).rxWait.length + flits p ≤ 32)) ∧
    (∃ (s : State) (fd : Fin 8) (r : Fin 384) (p : Packet) (rest : List Packet), (s.rxNext (rgn fd r) = some (p, rest)) ∧
      (s.isolated (rgn fd r) = false) ∧
      (p.cls = true) ∧
      (32 < (s.region (rgn fd r)).rx.length + (s.region (rgn fd r)).rxWait.length + flits p)) ∧
    (∃ (s : State) (fd : Fin 8) (r : Fin 384), (s.rxNext (rgn fd r) = none ∨ s.isolated (rgn fd r) = true)) ∧
    (∃ (s : State) (fd : Fin 8) (r : Fin 384) (p : Packet) (rest : List Packet), (takeFirst isRequest (s.inbox (napEp (rgn fd r))) = some (p, rest)) ∧
      (s.isolated (rgn fd r) = false) ∧
      ((s.region (rgn fd r)).mm = [])) ∧
    (∃ (s : State) (fd : Fin 8) (r : Fin 384), (takeFirst isRequest (s.inbox (napEp (rgn fd r))) = none ∨ s.isolated (rgn fd r) = true ∨ (s.region (rgn fd r)).mm ≠ [])) ∧
    (∃ (s : State) (fd : Fin 8) (r : Fin 384) (m : MmReq) (rest : List MmReq) (t : State), (s.regionClocked (rgn fd r) = true) ∧
      (s.edgeLive (rgn fd r) = true) ∧
      ((s.region (rgn fd r)).mm = m :: rest) ∧
      (t = s.modRegion (rgn fd r) (fun x => { x with mm := rest }))) ∧
    (∃ (s : State) (fd : Fin 8) (r : Fin 384), (s.regionClocked (rgn fd r) = false ∨ s.edgeLive (rgn fd r) = false ∨ (s.region (rgn fd r)).mm = [])) ∧
    (∃ (s : State) (fd : Fin 8) (r : Fin 384) (m : MmReq) (rest : List MmReq), ((s.region (rgn fd r)).mm = m :: rest)) ∧
    (∃ (s : State) (fd : Fin 8) (r : Fin 384), ((s.region (rgn fd r)).mm = [])) :=
  ⟨⟨((((State.reset.setR Reg.FAB_CG_STAT_LOCK 0 1).setR Reg.FAB_RGN_CLK_SEL 0 0).setR Reg.FAB_RGN_STAT_ISOLATED 0 0)).modIc (fun i => { i with dcqs := [(0, { dcq0 with configured := true })] }), 0, 0, 0, by decide, by decide, by decide⟩,
   ⟨State.reset, 0, 0, 0, by decide⟩,
   ⟨((State.reset.setR Reg.FAB_CG_STAT_LOCK 0 1).setR Reg.FAB_RGN_CLK_SEL 0 0).modIc (fun i => { i with dcqs := [(0, { dcq0 with entries := [5] })] }), 0, 0, 0, by decide, by decide⟩,
   ⟨((State.reset.setR Reg.FAB_CG_STAT_LOCK 0 1).setR Reg.FAB_RGN_CLK_SEL 0 0).modIc (fun i => { i with dcqs := [(0, { dcq0 with entries := [5], present := 1 })] }), 0, 0, 0, by decide, by decide⟩,
   ⟨((State.reset.setR Reg.FAB_CG_STAT_LOCK 0 1).setR Reg.FAB_RGN_CLK_SEL 0 0).modIc (fun i => { i with dcqs := [(0, { dcq0 with unreported := 1 })] }), 0, 0, 0, by decide, by decide⟩,
   by decide,
   ⟨(((State.reset.setR Reg.FAB_CG_STAT_LOCK 0 1).setR Reg.FAB_RGN_CLK_SEL 0 0).setR Reg.FAB_OUTHOLD 0 0).setR Reg.FAB_RGN_STAT_ISOLATED 0 0, 0, 0, pkt0, by decide, by decide, by decide, by decide⟩,
   ⟨State.reset, 0, 0, pkt0, by decide⟩,
   ⟨(State.reset.setR Reg.FAB_RGN_STAT_ISOLATED 0 0).putInbox 0 [pkt0], 0, 0, pkt0, [], by first | decide | rfl, by decide, by decide⟩,
   ⟨((State.reset.setR Reg.FAB_RGN_STAT_ISOLATED 0 0).putInbox 0 [{ pkt0 with cls := true, len := 31 }]).modRegion 0 (fun x => { x with rx := List.replicate 2 ⟨0, false, false, false, false⟩ }), 0, 0, { pkt0 with cls := true, len := 31 }, [], by first | decide | rfl, by decide, by decide, by decide⟩,
   ⟨State.reset, 0, 0, by decide⟩,
   ⟨(State.reset.setR Reg.FAB_RGN_STAT_ISOLATED 0 0).putInbox 0 [{ pkt0 with kind := 1 }], 0, 0, { pkt0 with kind := 1 }, [], by first | decide | rfl, by decide, by decide⟩,
   ⟨State.reset, 0, 0, by decide⟩,
   ⟨((((State.reset.setR Reg.FAB_CG_STAT_LOCK 0 1).setR Reg.FAB_RGN_CLK_SEL 0 0).setR Reg.FAB_OUTHOLD 0 0).setR Reg.FAB_RGN_STAT_ISOLATED 0 0).modRegion 0 (fun x => { x with mm := [⟨pkt0, true⟩] }), 0, 0, ⟨pkt0, true⟩, [], (((((State.reset.setR Reg.FAB_CG_STAT_LOCK 0 1).setR Reg.FAB_RGN_CLK_SEL 0 0).setR Reg.FAB_OUTHOLD 0 0).setR Reg.FAB_RGN_STAT_ISOLATED 0 0).modRegion 0 (fun x => { x with mm := [⟨pkt0, true⟩] })).modRegion 0 (fun x => { x with mm := [] }), by decide, by decide, by decide, rfl⟩,
   ⟨State.reset, 0, 0, by decide⟩,
   ⟨State.reset.modRegion 0 (fun x => { x with mm := [⟨pkt0, true⟩] }), 0, 0, ⟨pkt0, true⟩, [], by decide⟩,
   ⟨State.reset, 0, 0, by decide⟩⟩

/-- States and operands that meet the hypotheses of each clause of RegionIsolationCommandsComplete. -/
theorem witness_RegionIsolationCommandsComplete :
    (∃ (s : State) (u : State) (fd : Fin 8) (r : Fin 384), (u = s.touchRegion (rgn fd r))) ∧
    (∃ (s : State) (u : State) (fd : Fin 8) (r : Fin 384), (u = s.touchRegion (rgn fd r)) ∧
      (u.getR Reg.FAB_RGN_STAT_STATE (rgn fd r) ≠ 1) ∧
      (u.admittedAt (napEp (rgn fd r)) = []) ∧
      (u.isolated (rgn fd r) = false)) ∧
    (∃ (s : State) (u : State) (fd : Fin 8) (r : Fin 384), (u = s.touchRegion (rgn fd r))) ∧
    (∃ (s : State) (u : State) (fd : Fin 8) (r : Fin 384), (u = s.touchRegion (rgn fd r)) ∧
      (u.getR Reg.FAB_RGN_STAT_STATE (rgn fd r) ≠ 1)) ∧
    (∃ (s : State) (u : State) (fd : Fin 8) (r : Fin 384), (u = s.touchRegion (rgn fd r)) ∧
      (u.getR Reg.RGN_ISOOP (rgn fd r) ≠ 0)) ∧
    (∃ (s : State) (u : State) (fd : Fin 8) (r : Fin 384), (u = s.touchRegion (rgn fd r)) ∧
      (u.getR Reg.FAB_RGN_STAT_STATE (rgn fd r) = 1)) ∧
    (∃ (s : State) (u : State) (fd : Fin 8) (r : Fin 384), (u = s.touchRegion (rgn fd r)) ∧
      (u.getR Reg.RGN_ISOOP (rgn fd r) = 0) ∧
      (u.getR Reg.FAB_RGN_STAT_STATE (rgn fd r) ≠ 2 ∨ u.inCommitCycle Reg.RGN_CMT (rgn fd r) = false)) ∧
    (∃ (s : State) (u : State) (fd : Fin 8) (r : Fin 384), (u = s.touchRegion (rgn fd r)) ∧
      (u.getR Reg.RGN_ISOOP (rgn fd r) = 0) ∧
      (u.getR Reg.FAB_RGN_STAT_STATE (rgn fd r) = 2) ∧
      (u.getR Reg.RGN_CMT (rgn fd r) = u.cycle)) ∧
    (∃ (s : State) (fd : Fin 8) (r : Fin 384), (s.getR Reg.RGN_ISOOP (rgn fd r) = 1) ∧
      (s.due (s.getR Reg.RGN_ISOT (rgn fd r)) = true) ∧
      ((s.region (rgn fd r)).isoPend = [])) ∧
    (∃ (s : State) (fd : Fin 8) (r : Fin 384), (s.isoDue (rgn fd r) = [])) ∧
    (∃ (s : State) (fd : Fin 8) (r : Fin 384), (s.getR Reg.RGN_ISOOP (rgn fd r) ≠ 2 ∨ s.due (s.getR Reg.RGN_ISOT (rgn fd r)) = false)) ∧
    (∃ (s : State) (fd : Fin 8) (r : Fin 384), (s.getR Reg.RGN_ISOOP (rgn fd r) = 2) ∧
      (s.due (s.getR Reg.RGN_ISOT (rgn fd r)) = true) ∧
      (s.flag Reg.FAB_RGN_ISO_EXITMODE (rgn fd r) = false)) ∧
    (∃ (s : State) (fd : Fin 8) (r : Fin 384), (s.getR Reg.RGN_ISOOP (rgn fd r) = 2) ∧
      (s.due (s.getR Reg.RGN_ISOT (rgn fd r)) = true) ∧
      (s.flag Reg.FAB_RGN_ISO_EXITMODE (rgn fd r) = true) ∧
      ((s.region (rgn fd r)).causes = [1])) ∧
    (∃ (rg : Nat), (rg < 3072)) :=
  ⟨⟨State.reset, State.reset.touchRegion 0, 0, 0, by rfl⟩,
   ⟨State.reset.setR Reg.FAB_RGN_STAT_ISOLATED 0 0, State.reset.setR Reg.FAB_RGN_STAT_ISOLATED 0 0, 0, 0, by rfl, by decide, by decide, by decide⟩,
   ⟨State.reset, State.reset, 0, 0, by rfl⟩,
   ⟨State.reset, State.reset, 0, 0, by rfl, by decide⟩,
   ⟨State.reset.setR Reg.RGN_ISOOP 0 1, State.reset.setR Reg.RGN_ISOOP 0 1, 0, 0, by rfl, by decide⟩,
   ⟨State.reset.setR Reg.FAB_RGN_STAT_STATE 0 1, State.reset.setR Reg.FAB_RGN_STAT_STATE 0 1, 0, 0, by rfl, by decide⟩,
   ⟨State.reset, State.reset, 0, 0, by rfl, by decide, by decide⟩,
   ⟨(State.reset.setR Reg.FAB_RGN_STAT_STATE 0 2).setR Reg.RGN_CMT 0 State.reset.cycle, (State.reset.setR Reg.FAB_RGN_STAT_STATE 0 2).setR Reg.RGN_CMT 0 State.reset.cycle, 0, 0, by rfl, by decide, by decide, by decide⟩,
   ⟨State.reset.setR Reg.RGN_ISOOP 0 1, 0, 0, by decide, by decide, by decide⟩,
   ⟨State.reset, 0, 0, by decide⟩,
   ⟨State.reset, 0, 0, by decide⟩,
   ⟨State.reset.setR Reg.RGN_ISOOP 0 2, 0, 0, by decide, by decide, by decide⟩,
   ⟨((State.reset.setR Reg.RGN_ISOOP 0 2).setR Reg.FAB_RGN_ISO_EXITMODE 0 1).modRegion 0 (fun x => { x with causes := [1] }), 0, 0, by decide, by decide, by decide, by decide⟩,
   ⟨5, by decide⟩⟩

/-- States and operands that meet the hypotheses of each clause of ServicePinAndJtagCommandsComplete. -/
theorem witness_ServicePinAndJtagCommandsComplete :
    (∃ (s : State) (n : Fin 64) (req : BitVec 16), (isMgmt req.toNat = true) ∧
      (s.flag Reg.SVP_PIN_CFG_LOCKED n = false)) ∧
    (∃ (s : State) (n : Fin 64), (s.domOff 32 = false) ∧
      (s.hardClaim n = none) ∧
      (s.portClaims n = []) ∧
      (s.flag Reg.SVP_PRECFG 0 = false)) ∧
    (∃ (s : State) (req : BitVec 16), (s.keyStage 0 = 2) ∧
      (s.getR Reg.KEY_REQ 0 = req.toNat)) ∧
    (∃ (s : State) (n : Fin 64) (rising : Bool), (s.getR Reg.SVP_PIN_CFG_EFUNC n = 5) ∧
      (nbit (s.getR Reg.SVP_EL n) 8 ≠ rising)) ∧
    (∃ (s : State), (s.getR Reg.JTAG_IR 0 < 3)) ∧
    (∃ (s : State), (s.getR Reg.JTAG_IR 0 < 3)) ∧
    (∃ (s : State), (3 ≤ s.getR Reg.JTAG_IR 0) ∧
      (s.inReset = false)) :=
  ⟨⟨State.reset, 0, BitVec.ofNat 16 (ep 0 90 8), by decide, by decide⟩,
   ⟨State.reset.setR Reg.SVP_PRECFG 0 0, 0, by decide, by decide, by decide, by decide⟩,
   ⟨(State.reset.setR Reg.KEY_STAGE 0 2).setR Reg.KEY_REQ 0 5, 5, by decide, by decide⟩,
   ⟨State.reset.setR Reg.SVP_PIN_CFG_EFUNC 0 5, 0, true, by decide, by decide⟩,
   ⟨State.reset, by decide⟩,
   ⟨State.reset, by decide⟩,
   ⟨State.reset.setR Reg.JTAG_IR 0 3, by decide, by decide⟩⟩

/-- States and operands that meet the hypotheses of each clause of RouterCommandsComplete. -/
theorem witness_RouterCommandsComplete :
    (∃ (s : State) (n : Nat) (r : Nat) (input : Nat) (e : NetPkt), (s.noc.net[n]? = some e) ∧
      (e.place = .router r input) ∧
      (e.out = none) ∧
      (s.closingSource r input e.pkt = false) ∧
      (e.pkt.len ≠ 0 ∧ e.pkt.vc ≠ 3) ∧
      (s.hopOf r e.pkt = some 4) ∧
      (epPort e.pkt.dest ≠ 31) ∧
      (s.portState (rtrEp r (epPort e.pkt.dest)) = 0) ∧
      (e.pkt.cls = true ∨ heldFor ((s.portHeld r 4 (epPort e.pkt.dest)).wakeBuf r) (epPort e.pkt.dest) = [])) ∧
    (∃ (s : State) (n : Nat) (r : Nat) (input : Nat) (d : Nat) (e : NetPkt), (s.noc.net[n]? = some e) ∧
      (e.place = .router r input) ∧
      (e.out = none) ∧
      (s.closingSource r input e.pkt = false) ∧
      (e.pkt.len ≠ 0 ∧ e.pkt.vc ≠ 3) ∧
      (s.hopOf r e.pkt = some d) ∧
      (d ≠ 4)) ∧
    (∃ (s : State) (n : Nat) (r : Nat) (input : Nat) (e : NetPkt), (s.noc.net[n]? = some e) ∧
      (e.place = .router r input) ∧
      (e.out = none) ∧
      (s.closingSource r input e.pkt = false) ∧
      (e.pkt.len ≠ 0 ∧ e.pkt.vc ≠ 3) ∧
      (s.hopOf r e.pkt = none)) ∧
    (State.reset.noc.net[0]? = none) ∧
    ((State.reset.modNoc (fun c => { c with net := [⟨pkt0, .port 8, false, none, 0⟩] })).noc.net[0]? = some ⟨pkt0, .port 8, false, none, 0⟩) ∧
    (((State.reset.setR Reg.NOC_PSTATE (portIx 0) 1).modNoc (fun c => { c with net := [⟨pkt0, .router 0 4, false, none, 0⟩] })).noc.net[0]? = some ⟨pkt0, .router 0 4, false, none, 0⟩) ∧
    (∃ (s : State) (n : Nat) (r : Nat) (input : Nat) (d : Nat) (e : NetPkt), (s.noc.net[n]? = some e) ∧
      (e.place = .router r input) ∧
      (e.out.isSome = true) ∧
      (s.hopOf r e.pkt = some d) ∧
      (d ≠ 4)) ∧
    (∃ (s : State) (u : State) (r : Nat) (out : Nat) (lport : Nat), (u = s.portHeld r out lport)) ∧
    (∃ (s : State) (r : Nat) (out : Nat) (lport : Nat) (n : Nat) (e : NetPkt), (s.candidates r out lport = [(e, n)]) ∧
      (e.pkt.vc = 2 ∧ e.pkt.kind ≠ 6) ∧
      (s.portFolded (outPort r (outNo out lport)) = false) ∧
      (s.vcFree (outPort r (outNo out lport)) 2 = true)) ∧
    (∃ (s : State) (n : Nat) (r : Nat) (out : Nat) (lport : Nat) (e : NetPkt) (u : State), (e.pkt.cls = false) ∧
      (u = s.send n r out lport e)) ∧
    (∃ (s : State) (n : Nat) (r : Nat) (input : Nat) (e : NetPkt), (s.noc.net[n]? = some e) ∧
      (e.place = .router r input) ∧
      (e.out = none) ∧
      (s.closingSource r input e.pkt = false)) ∧
    (∃ (s : State) (n : Nat) (e : Nat) (x : NetPkt), (s.noc.net[n]? = some x) ∧
      (x.place = .port e) ∧
      (((s.noc.net.take n).any (fun y => sameQueue y x)) = false) ∧
      (epPort e = 31 ∨ s.portState e < 2)) ∧
    (∃ (s : State) (n : Nat) (x : NetPkt), (s.noc.net[n]? = some x) ∧
      (((s.noc.net.take n).any (fun y => sameQueue y x)) = true)) ∧
    (∃ (s : State) (n : Nat) (e : Nat) (x : NetPkt), (s.noc.net[n]? = some x) ∧
      (x.place = .port e) ∧
      (((s.noc.net.take n).any (fun y => sameQueue y x)) = false) ∧
      (epPort e ≠ 31 ∧ 2 ≤ s.portState e)) ∧
    (∃ (rg : Nat) (p : Packet), (kindOf (napEp rg) = .nap rg) ∧
      (crcFails p = false ∧ p.kind < 6)) ∧
    (heldFor ((State.reset.modNoc (fun n => { n with wake := [(0, [{ pkt0 with dest := rtrEp 0 8 }])] })).wakeBuf 0) 8 = [{ pkt0 with dest := rtrEp 0 8 }]) ∧
    (heldFor (State.reset.wakeBuf 0) 8 = []) ∧
    (∃ (s : State) (router : Fin 384) (port : Fin 32), (s.flag Reg.WAKE_REQ (portIx (rtrEp router port)) = true) ∧
      (s.portState (rtrEp router port) ≠ 0)) ∧
    (State.reset.portState (rtrEp 0 8) ≠ 1 ∧ State.reset.portState (rtrEp 0 8) ≠ 2 ∧ State.reset.flag Reg.WAKE_REQ (portIx (rtrEp 0 8)) = false) ∧
    (∃ (s : State) (router : Fin 384) (port : Fin 32) (thermal : Bool), (s.portState (rtrEp router port) = 2) ∧
      ((if thermal then s.thermal else s.forced (epDomain (rtrEp router port))) = true)) ∧
    (∃ (s : State) (router : Fin 384) (port : Fin 32), (s.portState (rtrEp router port) = 1) ∧
      (s.portBusy (rtrEp router port) = false)) ∧
    (∃ (e : Nat), ((∀ rg, kindOf e ≠ .nap rg))) ∧
    (∃ (s : State) (router : Fin 384) (port : Fin 32), (s.portState (rtrEp router port) ≠ 1 ∨ s.portBusy (rtrEp router port) = true)) ∧
    (∃ (s : State) (t : State) (router : Fin 384) (port : Fin 32), (s.portState (rtrEp router port) = 1) ∧
      (s.flag Reg.PORT_FORCED (portIx (rtrEp router port)) = true) ∧
      (t = (s.modNoc (fun n => { n with net := n.net.filter (fun x => !decide (x.place = .port (rtrEp router port))) })).finishTx (rtrEp router port))) :=
  ⟨⟨State.reset.modNoc (fun c => { c with net := [⟨{ pkt0 with dest := ep 0 0 8, len := 1 }, .router 0 4, false, none, 0⟩] }), 0, 0, 4, ⟨{ pkt0 with dest := ep 0 0 8, len := 1 }, .router 0 4, false, none, 0⟩, rfl, rfl, rfl, by decide, by decide, by decide, by decide, by decide, by decide⟩,
   ⟨State.reset.modNoc (fun c => { c with net := [⟨{ pkt0 with dest := ep 0 1 8, len := 1 }, .router 0 4, false, none, 0⟩] }), 0, 0, 4, 1, ⟨{ pkt0 with dest := ep 0 1 8, len := 1 }, .router 0 4, false, none, 0⟩, rfl, rfl, rfl, by decide, by decide, by decide, by decide⟩,
   ⟨State.reset.modNoc (fun c => { c with net := [⟨{ pkt0 with dest := ep 0 95 30 + 32, len := 1 }, .router 0 4, false, none, 0⟩] }), 0, 0, 4, ⟨{ pkt0 with dest := ep 0 95 30 + 32, len := 1 }, .router 0 4, false, none, 0⟩, rfl, rfl, rfl, by decide, by decide, by decide +kernel⟩,
   by decide,
   rfl,
   rfl,
   ⟨State.reset.modNoc (fun c => { c with net := [⟨{ pkt0 with dest := ep 0 1 8, len := 1 }, .router 0 4, false, some 1, 0⟩] }), 0, 0, 4, 1, ⟨{ pkt0 with dest := ep 0 1 8, len := 1 }, .router 0 4, false, some 1, 0⟩, rfl, rfl, rfl, by decide, by decide⟩,
   ⟨State.reset, State.reset, 0, 1, 8, by rfl⟩,
   ⟨State.reset.modNoc (fun c => { c with net := [⟨{ pkt0 with dest := ep 0 1 8, len := 1, vc := 2 }, .router 0 4, false, some 1, 0⟩] }), 0, 1, 8, 0, ⟨{ pkt0 with dest := ep 0 1 8, len := 1, vc := 2 }, .router 0 4, false, some 1, 0⟩, by decide, by decide, by decide, by decide⟩,
   ⟨State.reset, 0, 0, 1, 8, ⟨pkt0, .router 0 4, false, some 1, 0⟩, State.reset.send 0 0 1 8 ⟨pkt0, .router 0 4, false, some 1, 0⟩, rfl, rfl⟩,
   ⟨State.reset.modNoc (fun c => { c with net := [⟨pkt0, .router 0 4, false, none, 0⟩] }), 0, 0, 4, ⟨pkt0, .router 0 4, false, none, 0⟩, rfl, rfl, rfl, by decide⟩,
   ⟨State.reset.modNoc (fun c => { c with net := [⟨pkt0, .port (ep 0 0 8), false, none, 0⟩] }), 0, ep 0 0 8, ⟨pkt0, .port (ep 0 0 8), false, none, 0⟩, by first | decide | rfl, by decide, by decide, by first | decide | rfl⟩,
   ⟨State.reset.modNoc (fun c => { c with net := [⟨pkt0, .port (ep 0 0 8), false, none, 0⟩, ⟨pkt0, .port (ep 0 0 8), false, none, 0⟩] }), 1, ⟨pkt0, .port (ep 0 0 8), false, none, 0⟩, by first | decide | rfl, by decide⟩,
   ⟨(State.reset.setR Reg.NOC_PSTATE (portIx (ep 0 0 8)) 2).modNoc (fun c => { c with net := [⟨pkt0, .port (ep 0 0 8), false, none, 0⟩] }), 0, ep 0 0 8, ⟨pkt0, .port (ep 0 0 8), false, none, 0⟩, by first | decide | rfl, by decide, by decide, by first | decide | rfl⟩,
   ⟨0, sealPacket { pkt0 with len := 1, data := [⟨5, false⟩] }, by decide, by decide +kernel⟩,
   by decide,
   by decide,
   ⟨(State.reset.setR Reg.WAKE_REQ (portIx (rtrEp 0 8)) 1).setR Reg.NOC_PSTATE (portIx (rtrEp 0 8)) 2, 0, 8, by decide, by first | decide | rfl⟩,
   by decide,
   ⟨(State.reset.setR Reg.NOC_PSTATE (portIx (rtrEp 0 8)) 2).setR Reg.DSK_ZSTAT_THERM_STOP 0 1, 0, 8, true, by first | decide | rfl, by decide⟩,
   ⟨State.reset.setR Reg.NOC_PSTATE (portIx (rtrEp 0 8)) 1, 0, 8, by first | decide | rfl, by decide⟩,
   ⟨ep 0 90 8, (fun rg => by rw [show kindOf (ep 0 90 8) = EpKind.core 0 from rfl]; simp)⟩,
   ⟨State.reset, 0, 8, by first | decide | rfl⟩,
   ⟨(State.reset.setR Reg.NOC_PSTATE (portIx (rtrEp 0 8)) 1).setR Reg.PORT_FORCED (portIx (rtrEp 0 8)) 1, (((State.reset.setR Reg.NOC_PSTATE (portIx (rtrEp 0 8)) 1).setR Reg.PORT_FORCED (portIx (rtrEp 0 8)) 1).modNoc (fun n => { n with net := n.net.filter (fun x => !decide (x.place = .port (rtrEp 0 8))) })).finishTx (rtrEp 0 8), 0, 8, by decide, by decide, rfl⟩⟩

/-- States and operands that meet the hypotheses of each clause of ContractCommandsComplete. -/
theorem witness_ContractCommandsComplete :
    (∃ (s : State) (m : Fin 8) (now : Bool), (s.getR Reg.THY_REQ_STAT_STATE m ≠ 1) ∧
      (now = false ∨ s.thy.queue ≠ [])) ∧
    (∃ (s : State) (m : Fin 8), (s.getR Reg.THY_REQ_STAT_STATE m ≠ 1) ∧
      (s.thy.queue = [])) ∧
    (∃ (s : State) (m : Fin 8) (op : Nat) (i : Nat) (rest : List (Nat × Nat × Nat)), (s.getR Reg.THY_REQ_STAT_STATE m = 1) ∧
      (s.thy.queue = (m.val, op, i) :: rest)) ∧
    (∃ (s : State) (m : Fin 8) (now : Bool), (s.getR Reg.THY_REQ_STAT_STATE m = 1) ∧
      (now = false ∨ s.thy.queue.head?.map (fun e => e.1) ≠ some m.val)) ∧
    (∃ (s : State) (u : State) (m : Fin 8) (p : Plan), (s.getR Reg.THY_REQ_STAT_STATE m ≠ 1) ∧
      (s.thy.queue = []) ∧
      (u = s.boxStart m 1 0) ∧
      (u.admitCheck (u.mailbox m) none = .inr p)) ∧
    (State.reset.admitCheck (State.reset.mailbox 0) none = .inl ⟨1, 4, 0⟩) ∧
    (((((((State.reset.setR Reg.THY_REQ_SRC_EP 0 (ep 0 0 8)).setR Reg.THY_REQ_DST_EP 0 (ep 0 0 9)).setR Reg.THY_REQ_BYTES_BYTES 0 60).setR Reg.THY_REQ_PERIOD_FRAMES 0 1).setR Reg.THY_REQ_LAT_TICKS 0 0xFFFFFFFF).setR Reg.THY_REQ_CFG_MAXLEN 0 1).admitCheck (((((((State.reset.setR Reg.THY_REQ_SRC_EP 0 (ep 0 0 8)).setR Reg.THY_REQ_DST_EP 0 (ep 0 0 9)).setR Reg.THY_REQ_BYTES_BYTES 0 60).setR Reg.THY_REQ_PERIOD_FRAMES 0 1).setR Reg.THY_REQ_LAT_TICKS 0 0xFFFFFFFF).setR Reg.THY_REQ_CFG_MAXLEN 0 1).mailbox 0) none = .inr ⟨1579520, 2, 0, [⟨17, [2, 3], [0, 1]⟩, ⟨16, [], [0, 1]⟩], [[17]]⟩) ∧
    (State.reset.cstate 5 = 0 ∧ (State.reset.setR Reg.THY_CT_STAT_CSTATE 5 3).cstate 5 = 3) ∧
    (State.reset.cstate 5 ≠ 3 ∧ (State.reset.setR Reg.THY_CT_STAT_CSTATE 5 3).cstate 5 = 3) ∧
    (∃ (s : State) (u : State) (m : Fin 8) (id : BitVec 12) (p : Plan), (s.getR Reg.THY_REQ_STAT_STATE m ≠ 1) ∧
      (s.thy.queue = []) ∧
      (u = s.boxStart m 5 id.toNat) ∧
      (u.cstate id.toNat = 3) ∧
      (u.admitEarly (u.stored id.toNat) (some id.toNat) = none) ∧
      (u.admitOn u.epoch (u.stored id.toNat) none = .inr p)) ∧
    (∃ (s : State) (m : Fin 8), (s.getR Reg.THY_REQ_STAT_STATE m = 1)) ∧
    (∃ (s : State) (m : Fin 8), (s.getR Reg.THY_REQ_STAT_STATE m = 2) ∧
      (s.getR Reg.THY_CMT m = s.cycle)) ∧
    (State.reset.getR Reg.THY_REQ_STAT_STATE 0 = 0 ∧ State.reset.thy.queue = [] ∧ State.reset.cstate 5 ≠ 4) ∧
    (∃ (s : State) (m : Fin 8) (op : Nat) (id : Nat), (s.thy.queue.find? (fun e => decide (e.1 = m.val)) = some (m.val, op, id)) ∧
      (op = 1 ∨ op = 5)) ∧
    (∃ (s : State) (id : BitVec 12), (s.cstate id.toNat = 4) ∧
      (s.getR Reg.THY_CT_BOUND_TICKS id.toNat ≤ s.noc.clock - (s.contract id.toNat).drainAt)) :=
  ⟨⟨State.reset, 0, false, by decide, by decide⟩,
   ⟨State.reset, 0, by decide, by decide⟩,
   ⟨State.reset.boxStart 0 1 0, 0, 1, 0, [], by decide, by decide⟩,
   ⟨State.reset.setR Reg.THY_REQ_STAT_STATE 0 1, 0, true, by decide, by first | decide | rfl⟩,
   ⟨(((((State.reset.setR Reg.THY_REQ_SRC_EP 0 (ep 0 0 8)).setR Reg.THY_REQ_DST_EP 0 (ep 0 0 9)).setR Reg.THY_REQ_BYTES_BYTES 0 60).setR Reg.THY_REQ_PERIOD_FRAMES 0 1).setR Reg.THY_REQ_LAT_TICKS 0 0xFFFFFFFF).setR Reg.THY_REQ_CFG_MAXLEN 0 1, ((((((State.reset.setR Reg.THY_REQ_SRC_EP 0 (ep 0 0 8)).setR Reg.THY_REQ_DST_EP 0 (ep 0 0 9)).setR Reg.THY_REQ_BYTES_BYTES 0 60).setR Reg.THY_REQ_PERIOD_FRAMES 0 1).setR Reg.THY_REQ_LAT_TICKS 0 0xFFFFFFFF).setR Reg.THY_REQ_CFG_MAXLEN 0 1).boxStart 0 1 0, 0, ⟨1579520, 2, 0, [⟨17, [2, 3], [0, 1]⟩, ⟨16, [], [0, 1]⟩], [[17]]⟩, by decide, by rfl, by rfl, by decide +kernel⟩,
   by decide,
   by decide +kernel,
   by decide,
   by decide,
   ⟨(took (exec (.thyAdmit 0 true) ((((((State.reset.setR Reg.THY_REQ_SRC_EP 0 (ep 0 0 8)).setR Reg.THY_REQ_DST_EP 0 (ep 0 0 9)).setR Reg.THY_REQ_BYTES_BYTES 0 60).setR Reg.THY_REQ_PERIOD_FRAMES 0 1).setR Reg.THY_REQ_LAT_TICKS 0 0xFFFFFFFF).setR Reg.THY_REQ_CFG_MAXLEN 0 1)) State.reset).setR Reg.THY_CT_STAT_CSTATE 1 3, ((took (exec (.thyAdmit 0 true) ((((((State.reset.setR Reg.THY_REQ_SRC_EP 0 (ep 0 0 8)).setR Reg.THY_REQ_DST_EP 0 (ep 0 0 9)).setR Reg.THY_REQ_BYTES_BYTES 0 60).setR Reg.THY_REQ_PERIOD_FRAMES 0 1).setR Reg.THY_REQ_LAT_TICKS 0 0xFFFFFFFF).setR Reg.THY_REQ_CFG_MAXLEN 0 1)) State.reset).setR Reg.THY_CT_STAT_CSTATE 1 3).boxStart 0 5 1, 0, 1, ⟨1579520, 2, 0, [⟨17, [6, 8], [4, 5]⟩, ⟨16, [], [2, 3]⟩], [[17]]⟩, by decide +kernel, by decide +kernel, by rfl, by decide +kernel, by decide +kernel, by decide +kernel⟩,
   ⟨State.reset.setR Reg.THY_REQ_STAT_STATE 0 1, 0, by decide⟩,
   ⟨(State.reset.setR Reg.THY_REQ_STAT_STATE 0 2).setR Reg.THY_CMT 0 State.reset.cycle, 0, by decide, by decide⟩,
   by decide,
   ⟨State.reset.boxStart 0 1 0, 0, 1, 0, by first | decide | rfl, by decide⟩,
   ⟨State.reset.setR Reg.THY_CT_STAT_CSTATE 5 4, 5, by decide, by decide⟩⟩

/-- States and operands that meet the hypotheses of each clause of IngressAndRouteUpdatesComplete. -/
theorem witness_IngressAndRouteUpdatesComplete :
    (∃ (p : Packet), (p.cls = false)) ∧
    (∃ (p : Packet) (l : List Flit) (f : Flit), (p.data = l ++ [f])) ∧
    (∃ (p : Packet), (p.data.length = p.len) ∧
      (p.len ≠ 0)) ∧
    (∃ (s : State) (p : Packet) (q : Packet), (p.cls = true) ∧
      (q = { p with srcDev := if p.xdev then s.getR Reg.DEV_SYSID_ID 0 else 0 }) ∧
      (s.admittedFlow q = true) ∧
      (s.getR Reg.THY_CT_EP_DST p.flow = p.dest)) ∧
    (∃ (s : State) (p : Packet) (q : Packet), (p.cls = true) ∧
      (q = { p with srcDev := if p.xdev then s.getR Reg.DEV_SYSID_ID 0 else 0 }) ∧
      (s.admittedFlow q = false ∨ s.getR Reg.THY_CT_EP_DST p.flow ≠ p.dest)) ∧
    (∃ (s : State), (s.flag Reg.NOC_EPOCH_OLD_LIVE 0 = false)) ∧
    (∃ (s : State), (s.flag Reg.NOC_EPOCH_OLD_LIVE 0 = false ∨ s.oldEpochLeft = true)) ∧
    (∃ (s : State) (u : State) (c : List RouteChange) (rest : List (List RouteChange)), (s.flag Reg.NOC_EPOCH_OLD_LIVE 0 = true) ∧
      (s.oldEpochLeft = false) ∧
      (s.noc.updates = c :: rest) ∧
      (exec .routeEpochRelease (s.modNoc (fun n => { n with updates := [] })) = .next u)) ∧
    (∃ (s : State), (s.flag Reg.NOC_EPOCH_OLD_LIVE 0 = true) ∧
      (s.oldEpochLeft = false) ∧
      (s.noc.updates = [])) :=
  ⟨⟨pkt0, by decide⟩,
   ⟨{ pkt0 with data := [⟨5, false⟩] }, [], ⟨5, false⟩, by decide⟩,
   ⟨{ pkt0 with len := 1, data := [⟨5, false⟩] }, by decide, by decide⟩,
   ⟨State.reset.setR Reg.THY_CT_STAT_CSTATE 0 1, { pkt0 with cls := true }, { pkt0 with cls := true }, by decide, by decide, by decide, by decide⟩,
   ⟨State.reset, { pkt0 with cls := true }, { pkt0 with cls := true }, by decide, by decide, by decide⟩,
   ⟨State.reset, by decide⟩,
   ⟨State.reset, by decide⟩,
   ⟨(State.reset.setR Reg.NOC_EPOCH_OLD_LIVE 0 1).modNoc (fun n => { n with updates := [[]] }), took (exec .routeEpochRelease (State.reset.setR Reg.NOC_EPOCH_OLD_LIVE 0 1)) State.reset, [], [], by decide, by decide, by decide, by rfl⟩,
   ⟨State.reset.setR Reg.NOC_EPOCH_OLD_LIVE 0 1, by decide, by decide, by decide⟩⟩

/-- States and operands that meet the hypotheses of each clause of TimedVectorCommandsComplete. -/
theorem witness_TimedVectorCommandsComplete :
    (∃ (s : State) (bank : Fin 20) (p : Packet) (rest : List Packet), (s.inbox (tioEp bank) = p :: rest) ∧
      (p.kind = 0) ∧
      (s.vectorOk bank p = false)) ∧
    (State.reset.inbox (tioEp 0) = [] ∧ (State.reset.putInbox (tioEp 0) [{ pkt0 with kind := 1 }]).inbox (tioEp 0) = [{ pkt0 with kind := 1 }]) ∧
    (((((State.reset.setR Reg.TIO_BANK_VSRC_EN 0 1).setR Reg.TIO_BANK_STAT_RSTATE 0 2).putInbox (tioEp 0) [{ pkt0 with kind := 0, len := 1, user := 2 ^ 64 + 2 ^ 71 }]).modTio (fun x => { x with banks := [(0, { tio0 with stopping := true })] })).vectorOk 0 { pkt0 with kind := 0, len := 1, user := 2 ^ 64 + 2 ^ 71 } = true) ∧
    (∃ (s : State) (bank : Fin 20) (p : Packet) (rest : List Packet), (s.inbox (tioEp bank) = p :: rest) ∧
      (p.kind = 0) ∧
      (s.vectorOk bank p = true) ∧
      ((s.bank bank).stopping = false) ∧
      (2048 < (s.bank bank).buf.length + (packetVecs p).length)) ∧
    (∃ (s : State) (bank : Fin 20) (p : Packet) (rest : List Packet), (s.inbox (tioEp bank) = p :: rest) ∧
      (p.kind = 0) ∧
      (s.vectorOk bank p = true) ∧
      ((s.bank bank).stopping = false) ∧
      ((s.bank bank).buf.length + (packetVecs p).length ≤ 2048)) ∧
    (∃ (u : State) (s : State) (bank : Fin 20) (v : TioVec) (rest : List TioVec) (run : TioRun) (ahead : List TioRun), (s = u.placeBuffered bank) ∧
      ((s.bank bank).buf = v :: rest) ∧
      ((s.bank bank).ahead = run :: ahead) ∧
      (s.rstate bank = 1 ∨ s.rstate bank = 2) ∧
      (s.reached v.start = true) ∧
      (v.late = true ∨ s.jumped v.start = false)) ∧
    (∃ (u : State) (s : State) (bank : Fin 20) (v : TioVec) (rest : List TioVec) (run : TioRun) (ahead : List TioRun), (s = u.placeBuffered bank) ∧
      ((s.bank bank).buf = v :: rest) ∧
      ((s.bank bank).ahead = run :: ahead) ∧
      (s.rstate bank = 1 ∨ s.rstate bank = 2) ∧
      (s.reached v.start = true) ∧
      (v.late = false ∧ s.jumped v.start = true)) ∧
    (∃ (u : State) (s : State) (bank : Fin 20), (s = u.placeBuffered bank)) ∧
    (∃ (u : State) (s : State) (bank : Fin 20) (pin : Fin 32) (e : TioEv) (same : List TioEv) (a : Bool × Bool) (edge : Bool), (s = u.placeBuffered bank) ∧
      (firstEv pin (s.bank bank).evs = some e) ∧
      (s.reached e.time = true) ∧
      (s.rstate bank ≠ 4) ∧
      (same = (s.bank bank).evs.filter (fun f => decide (f.pin = pin.val) && decide (f.time = e.time))) ∧
      (a = afterEvs same (s.flag Reg.TIO_ON (bank.val * 32 + pin)) (s.flag Reg.TIO_LVL (bank.val * 32 + pin))) ∧
      (edge = ((s.flag Reg.TIO_ON (bank.val * 32 + pin) != a.1) || (a.1 && (s.flag Reg.TIO_LVL (bank.val * 32 + pin) != a.2)))) ∧
      (edge = false ∨ s.flag Reg.TIO_EDGED (bank.val * 32 + pin) = false ∨ before e.time (plusTicks (s.getR Reg.TIO_EDGE_T (bank.val * 32 + pin)) (minw (s.getR Reg.TIO_BANK_CFG_IOSTD bank))) = false)) ∧
    (∃ (u : State) (s : State) (bank : Fin 20) (pin : Fin 32) (e : TioEv) (same : List TioEv) (a : Bool × Bool) (floor : Nat), (s = u.placeBuffered bank) ∧
      (firstEv pin (s.bank bank).evs = some e) ∧
      (s.reached e.time = true) ∧
      (s.rstate bank ≠ 4) ∧
      (same = (s.bank bank).evs.filter (fun f => decide (f.pin = pin.val) && decide (f.time = e.time))) ∧
      (a = afterEvs same (s.flag Reg.TIO_ON (bank.val * 32 + pin)) (s.flag Reg.TIO_LVL (bank.val * 32 + pin))) ∧
      (s.flag Reg.TIO_ON (bank.val * 32 + pin) ≠ a.1 ∨ (a.1 = true ∧ s.flag Reg.TIO_LVL (bank.val * 32 + pin) ≠ a.2)) ∧
      (s.flag Reg.TIO_EDGED (bank.val * 32 + pin) = true) ∧
      (floor = plusTicks (s.getR Reg.TIO_EDGE_T (bank.val * 32 + pin)) (minw (s.getR Reg.TIO_BANK_CFG_IOSTD bank))) ∧
      (before e.time floor = true)) ∧
    (∃ (u : State) (s : State) (bank : Fin 20), (s = u.placeBuffered bank) ∧
      ((s.bank bank).ahead = [])) ∧
    (∃ (u : State) (s : State) (bank : Fin 20) (pin : Fin 32) (high : Bool) (low : Bool) (l : List TioRun), (s = u.placeBuffered bank) ∧
      (l = strobeIn pin high low (fun t => s.reached t && !s.flag Reg.T_UNLOCK 0) ((s.bank bank).runs ++ (s.bank bank).ahead))) ∧
    (∃ (x : TioStrobe) (high : Bool) (low : Bool) (r : TioRun), (x.window = false) ∧
      (r.vec.compared x.pin = true) ∧
      ((r.vec.code x.pin = 3 ∧ high = false) ∨ (r.vec.code x.pin = 2 ∧ low = false))) ∧
    (∃ (s : State) (bank : Fin 20) (r : TioRun), ((s.bank bank).runs.find? (fun r => !r.ended) = some r) ∧
      (s.reached r.endT = true) ∧
      (s.rstate bank = 2) ∧
      ((s.bank bank).evs.any (fun e => before e.time r.endT && !(s.bank bank).ahead.any (fun x => decide (x.vec.num = e.num))) = false) ∧
      ((s.bank bank).stopping = false ∧ (s.bank bank).buf = [] ∧ r.vec.last = true)) ∧
    (∃ (s : State) (t : State) (bank : Fin 20), (t = s.modBank bank (fun k => { k with runs := endFirst k.runs }))) :=
  ⟨⟨State.reset.putInbox (tioEp 0) [{ pkt0 with kind := 0 }], 0, { pkt0 with kind := 0 }, [], by decide, by decide, by decide⟩,
   by decide,
   by decide +kernel,
   ⟨(((State.reset.setR Reg.TIO_BANK_VSRC_EN 0 1).setR Reg.TIO_BANK_STAT_RSTATE 0 1).putInbox (tioEp 0) [{ pkt0 with kind := 0, len := 1, user := 2 ^ 64 + 2 ^ 71 }]).modTio (fun x => { x with banks := [(0, { tio0 with buf := List.replicate 2048 ⟨0, 0, 0, 0, false, false, false, 0, false⟩ })] }), 0, { pkt0 with kind := 0, len := 1, user := 2 ^ 64 + 2 ^ 71 }, [], by decide, by decide, by decide +kernel, by decide, by decide +kernel⟩,
   ⟨(State.reset.setR Reg.TIO_BANK_VSRC_EN 0 1).putInbox (tioEp 0) [{ pkt0 with kind := 0, len := 1, user := 2 ^ 64 + 2 ^ 71 }], 0, { pkt0 with kind := 0, len := 1, user := 2 ^ 64 + 2 ^ 71 }, [], by decide, by decide, by decide, by decide, by decide⟩,
   ⟨(State.reset.setR Reg.TIO_BANK_STAT_RSTATE 0 1).modTio (fun x => { x with banks := [(0, { tio0 with buf := [⟨0, 0, 0, 0, false, true, false, 0, false⟩] })] }), ((State.reset.setR Reg.TIO_BANK_STAT_RSTATE 0 1).modTio (fun x => { x with banks := [(0, { tio0 with buf := [⟨0, 0, 0, 0, false, true, false, 0, false⟩] })] })).placeBuffered 0, 0, ⟨0, 0, 0, 0, false, true, false, 0, false⟩, [], ⟨⟨0, 0, 0, 0, false, true, false, 0, false⟩, 320, false, [], 0, 0, 0, false, true⟩, [], by rfl, by decide +kernel, by decide +kernel, by decide +kernel, by decide +kernel, by decide +kernel⟩,
   ⟨((((State.reset.setR Reg.TIO_BANK_STAT_RSTATE 0 1).modTio (fun x => { x with banks := [(0, { tio0 with buf := [⟨0, 0, 0, 0, false, true, false, 5, false⟩] })] })).modTime (fun _ => 100)).setR Reg.T_STEP_SEEN 0 1).setR Reg.T_STEP_NEW 0 100, (((((State.reset.setR Reg.TIO_BANK_STAT_RSTATE 0 1).modTio (fun x => { x with banks := [(0, { tio0 with buf := [⟨0, 0, 0, 0, false, true, false, 5, false⟩] })] })).modTime (fun _ => 100)).setR Reg.T_STEP_SEEN 0 1).setR Reg.T_STEP_NEW 0 100).placeBuffered 0, 0, ⟨0, 0, 0, 0, false, true, false, 5, false⟩, [], ⟨⟨0, 0, 0, 0, false, true, false, 5, false⟩, 325, false, [], 0, 0, 0, false, true⟩, [], by rfl, by decide +kernel, by decide +kernel, by decide +kernel, by decide +kernel, by decide +kernel⟩,
   ⟨State.reset, State.reset.placeBuffered 0, 0, by rfl⟩,
   ⟨State.reset.modTio (fun x => { x with banks := [(0, { tio0 with evs := [⟨0, 0, 0, false, 0⟩] })] }), (State.reset.modTio (fun x => { x with banks := [(0, { tio0 with evs := [⟨0, 0, 0, false, 0⟩] })] })).placeBuffered 0, 0, 0, ⟨0, 0, 0, false, 0⟩, [⟨0, 0, 0, false, 0⟩], (true, false), true, by rfl, by decide +kernel, by decide +kernel, by decide +kernel, by decide +kernel, by decide +kernel, by decide +kernel, by decide +kernel⟩,
   ⟨((State.reset.setR Reg.TIO_EDGED 0 1).setR Reg.TIO_BANK_CFG_IOSTD 0 1).modTio (fun x => { x with banks := [(0, { tio0 with evs := [⟨0, 0, 0, false, 0⟩] })] }), (((State.reset.setR Reg.TIO_EDGED 0 1).setR Reg.TIO_BANK_CFG_IOSTD 0 1).modTio (fun x => { x with banks := [(0, { tio0 with evs := [⟨0, 0, 0, false, 0⟩] })] })).placeBuffered 0, 0, 0, ⟨0, 0, 0, false, 0⟩, [⟨0, 0, 0, false, 0⟩], (true, false), 640, by rfl, by decide +kernel, by decide +kernel, by decide +kernel, by decide +kernel, by decide +kernel, by decide +kernel, by decide +kernel, by decide +kernel, by decide +kernel⟩,
   ⟨State.reset, State.reset.placeBuffered 0, 0, by rfl, by decide +kernel⟩,
   ⟨State.reset, State.reset.placeBuffered 0, 0, 0, true, false, [], by rfl, by decide +kernel⟩,
   ⟨⟨0, 0, false, 0⟩, false, false, ⟨⟨2, 0, 0, 0, false, true, false, 0, false⟩, 0, false, [], 0, 0, 0, false, false⟩, by decide, by decide, by decide⟩,
   ⟨(State.reset.setR Reg.TIO_BANK_STAT_RSTATE 0 2).modTio (fun x => { x with banks := [(0, { tio0 with runs := [⟨⟨0, 2, 0, 0, true, true, false, 0, false⟩, 0, false, [], 0, 0, 0, false, false⟩] })] }), 0, ⟨⟨0, 2, 0, 0, true, true, false, 0, false⟩, 0, false, [], 0, 0, 0, false, false⟩, by first | decide | rfl, by decide, by decide, by decide, by decide⟩,
   ⟨State.reset, State.reset.modBank 0 (fun k => { k with runs := endFirst k.runs }), 0, by rfl⟩⟩

/-- States and operands that meet the hypotheses of each clause of TimedResultCommandsComplete. -/
theorem witness_TimedResultCommandsComplete :
    (∃ (s : State) (bank : Fin 20) (r : TioRun) (rest : List TioRun), ((s.bank bank).runs = r :: rest) ∧
      (r.ended = true ∧ r.strobes = []) ∧
      ((s.bank bank).evs.any (fun e => decide (e.num = r.vec.num)) = false) ∧
      (s.flag Reg.TIO_BANK_RSLT_EN bank = false)) ∧
    (∃ (s : State) (bank : Fin 20) (r : TioRun) (rest : List TioRun), ((s.bank bank).runs = r :: rest) ∧
      (r.ended = true ∧ r.strobes = [] ∧ r.vec.last = false) ∧
      ((s.bank bank).evs.any (fun e => decide (e.num = r.vec.num)) = false) ∧
      (s.flag Reg.TIO_BANK_RSLT_EN bank = true) ∧
      ((s.bank bank).res.length < 256 ∧ (s.bank bank).res.length + 1 < s.rpkt bank)) ∧
    (∃ (s : State) (bank : Fin 20) (r : TioRun) (rest : List TioRun), ((s.bank bank).runs = r :: rest) ∧
      (r.ended = true ∧ r.strobes = []) ∧
      ((s.bank bank).evs.any (fun e => decide (e.num = r.vec.num)) = false) ∧
      (s.flag Reg.TIO_BANK_RSLT_EN bank = true) ∧
      ((s.bank bank).res.length < 256) ∧
      (s.rpkt bank ≤ (s.bank bank).res.length + 1 ∨ r.vec.last = true)) ∧
    (∃ (s : State) (bank : Fin 20) (r : TioRun) (rest : List TioRun), ((s.bank bank).runs = r :: rest) ∧
      (r.ended = true ∧ r.strobes = []) ∧
      ((s.bank bank).evs.any (fun e => decide (e.num = r.vec.num)) = false) ∧
      (s.flag Reg.TIO_BANK_RSLT_EN bank = true) ∧
      (256 ≤ (s.bank bank).res.length)) ∧
    ((State.reset.bank 0).runs.head? = none ∧ (State.reset.bank 0).res.head? = none ∧ (State.reset.bank 0).stopAt = none) ∧
    (∃ (s : State) (bank : Fin 20) (r : TioRec) (rest : List TioRec), ((s.bank bank).res = r :: rest) ∧
      (max 1 (s.getR Reg.TIO_BANK_RSLT_FLUSH bank) * 16 * 512 ≤ s.elapsed r.done)) ∧
    (∃ (s : State) (bank : Fin 20) (a : Nat), ((s.bank bank).stopAt = some a) ∧
      (s.due a = true)) ∧
    (∃ (s : State) (b : Nat), (s.rstate b = 1 ∨ s.rstate b = 2)) ∧
    (∃ (s : State) (bank : Fin 20), (1 ≤ s.getR Reg.TIO_BANK_CFG_IOSTD bank ∧ s.getR Reg.TIO_BANK_CFG_IOSTD bank ≤ 6)) ∧
    (∃ (s : State) (bank : Fin 20), (s.getR Reg.TIO_BANK_CFG_IOSTD bank = 0 ∨ 6 < s.getR Reg.TIO_BANK_CFG_IOSTD bank)) ∧
    (∃ (s : State) (u : State) (bank : Fin 20) (pin : Fin 32), (u = (if (List.range 32).all (fun p => (s.setR Reg.TIO_CALSEEN (bank.val * 32 + pin) 1).flag Reg.TIO_CALSEEN (bank.val * 32 + p))
      then (s.setR Reg.TIO_CALSEEN (bank.val * 32 + pin) 1).setR Reg.TIO_BANK_STAT_CAL_VALID bank 1 else s.setR Reg.TIO_CALSEEN (bank.val * 32 + pin) 1))) ∧
    (∃ (s : State) (bank : Fin 20) (pin : Fin 32), (s.cfgPin (bank.val * 32 + pin) = bank.val * 32 + pin)) ∧
    (∃ (s : State) (bank : Fin 20) (pin : Fin 32), (s.cfgPin (bank.val * 32 + pin) ≠ bank.val * 32 + pin)) :=
  ⟨⟨State.reset.modTio (fun x => { x with banks := [(0, { tio0 with runs := [⟨⟨0, 2, 0, 0, true, true, false, 0, false⟩, 0, true, [], 0, 0, 0, false, false⟩] })] }), 0, ⟨⟨0, 2, 0, 0, true, true, false, 0, false⟩, 0, true, [], 0, 0, 0, false, false⟩, [], by decide, by decide, by decide, by decide⟩,
   ⟨((State.reset.setR Reg.TIO_BANK_RSLT_EN 0 1).setR Reg.TIO_BANK_RSLT_RPKT 0 9).modTio (fun x => { x with banks := [(0, { tio0 with runs := [⟨⟨0, 2, 0, 0, false, true, false, 0, false⟩, 0, true, [], 0, 0, 0, false, false⟩] })] }), 0, ⟨⟨0, 2, 0, 0, false, true, false, 0, false⟩, 0, true, [], 0, 0, 0, false, false⟩, [], by decide, by decide, by decide, by decide, by decide⟩,
   ⟨(State.reset.setR Reg.TIO_BANK_RSLT_EN 0 1).modTio (fun x => { x with banks := [(0, { tio0 with runs := [⟨⟨0, 2, 0, 0, true, true, false, 0, false⟩, 0, true, [], 0, 0, 0, false, false⟩] })] }), 0, ⟨⟨0, 2, 0, 0, true, true, false, 0, false⟩, 0, true, [], 0, 0, 0, false, false⟩, [], by decide, by decide, by decide, by decide, by decide, by decide⟩,
   ⟨(State.reset.setR Reg.TIO_BANK_RSLT_EN 0 1).modTio (fun x => { x with banks := [(0, { tio0 with res := List.replicate 256 ⟨0, 0, 0, 0, 0, false⟩, runs := [⟨⟨0, 2, 0, 0, true, true, false, 0, false⟩, 0, true, [], 0, 0, 0, false, false⟩] })] }), 0, ⟨⟨0, 2, 0, 0, true, true, false, 0, false⟩, 0, true, [], 0, 0, 0, false, false⟩, [], by decide +kernel, by decide +kernel, by decide +kernel, by decide +kernel, by decide +kernel⟩,
   by decide,
   ⟨(State.reset.modNoc (fun n => { n with clock := 0x7FFFFFFFFFFFFFFF })).modTio (fun x => { x with banks := [(0, { tio0 with res := [⟨0, 0, 0, 0, 0, false⟩] })] }), 0, ⟨0, 0, 0, 0, 0, false⟩, [], by decide, by decide⟩,
   ⟨State.reset.modTio (fun x => { x with banks := [(0, { tio0 with stopAt := some 0 })] }), 0, 0, by first | decide | rfl, by decide⟩,
   ⟨State.reset.setR Reg.TIO_BANK_STAT_RSTATE 0 1, 0, by decide⟩,
   ⟨State.reset.setR Reg.TIO_BANK_CFG_IOSTD 0 2, 0, by decide⟩,
   ⟨State.reset, 0, by decide⟩,
   ⟨State.reset, State.reset.setR Reg.TIO_CALSEEN 0 1, 0, 0, by rfl⟩,
   ⟨State.reset, 0, 0, by decide⟩,
   ⟨State.reset.setR Reg.TIO_BANK_CFG_IOSTD 0 5, 0, 1, by decide⟩⟩

/-- States and operands that meet the hypotheses of each clause of LaneCommandsComplete. -/
theorem witness_LaneCommandsComplete :
    (∃ (s : State) (lane : Fin 160) (mode : BitVec 3) (rate : BitVec 4), ((s.touchLane lane).laneOff lane = true) ∧
      (lane.val < 16 ∨ (s.touchLane lane).lstate (lane - 16) = 0) ∧
      (laneLegal lane mode.toNat rate.toNat = true)) ∧
    (∃ (s : State) (lane : Fin 160) (mode : BitVec 3) (rate : BitVec 4), ((s.touchLane lane).laneOff lane = true) ∧
      (lane.val < 16 ∨ (s.touchLane lane).lstate (lane - 16) = 0) ∧
      (laneLegal lane mode.toNat rate.toNat = false)) ∧
    (∃ (s : State) (lane : Fin 160), ((s.touchLane lane).laneOff lane = false ∨ (16 ≤ lane.val ∧ (s.touchLane lane).lstate (lane - 16) ≠ 0))) ∧
    (∃ (s : State) (t : State) (lane : Fin 160), (t = (s.setR Reg.LNE_QREF_REF_OK (lane / 8 * 2) 1).setR Reg.LNE_QREF_REF_OK (lane / 8 * 2 + 1) 1)) ∧
    (∃ (s : State) (lane : Fin 160), (lane.val < 16 ∨ s.lstate (lane - 16) ≠ 6)) ∧
    (∃ (s : State) (lane : Fin 160), (s.laneRaw lane = true) ∧
      (s.getR Reg.LNE_CFG_LOOP lane = 0 ∨ s.getR Reg.LNE_CFG_LOOP lane = 3)) ∧
    (∃ (s : State) (lane : Fin 160), (s.laneRaw lane = true) ∧
      (s.getR Reg.LNE_CFG_LOOP lane = 1) ∧
      (s.getR Reg.LNE_CFG_MODE lane = 2)) ∧
    (∃ (s : State) (t : State) (lane : Fin 160) (line : BitVec 80), (s.laneRaw lane = true) ∧
      (s.getR Reg.LNE_CFG_LOOP lane = 2) ∧
      (s.getR Reg.LNE_CFG_MODE lane = 2) ∧
      (t = (s.rawSend lane).modRaw lane (fun k => { k with line := line.toNat % 2 ^ 64, symbols := if 11 ≤ s.getR Reg.LNE_CFG_RATE lane then pam4 32 (line.toNat % 2 ^ 64) else [] }))) :=
  ⟨⟨State.reset, 20, 2, 5, by first | decide | rfl, by first | decide | rfl, by decide⟩,
   ⟨State.reset, 20, 2, 13, by first | decide | rfl, by first | decide | rfl, by decide⟩,
   ⟨State.reset.setR Reg.LNE_CFG_MODE 20 2, 20, by first | decide | rfl⟩,
   ⟨State.reset, (State.reset.setR Reg.LNE_QREF_REF_OK 0 1).setR Reg.LNE_QREF_REF_OK 1 1, 0, by rfl⟩,
   ⟨State.reset, 0, by decide⟩,
   ⟨State.reset.setR Reg.LNE_CFG_MODE 0 2, 0, by decide, by decide⟩,
   ⟨(State.reset.setR Reg.LNE_CFG_MODE 0 2).setR Reg.LNE_CFG_LOOP 0 1, 0, by decide, by decide, by decide⟩,
   ⟨(State.reset.setR Reg.LNE_CFG_MODE 0 2).setR Reg.LNE_CFG_LOOP 0 2, (((State.reset.setR Reg.LNE_CFG_MODE 0 2).setR Reg.LNE_CFG_LOOP 0 2).rawSend 0).modRaw 0 (fun k => { k with line := 0, symbols := [] }), 0, 0, by decide, by decide, by decide, by rfl⟩⟩

/-- States and operands that meet the hypotheses of each clause of LinkBringUpCommandsComplete. -/
theorem witness_LinkBringUpCommandsComplete :
    (∃ (s : State) (l : Fin 144), (s.flag Reg.DCL_CTL_EN l = false)) ∧
    (∃ (s : State) (l : Fin 144), (s.flag Reg.DCL_CTL_EN l = true)) ∧
    (∃ (s : State) (l : Fin 144), (s.lstate l ≠ 0 ∧ s.lstate l ≠ 7) ∧
      (s.getR Reg.LNE_CFG_MODE (l.val + 16) = 1)) ∧
    (∃ (s : State) (l : Fin 144), (s.lstate l = 0 ∨ s.lstate l = 7 ∨ s.getR Reg.LNE_CFG_MODE (l.val + 16) ≠ 1)) ∧
    (State.reset.lstate 0 = 0) ∧
    (∃ (s : State) (l : Fin 144), (s.lstate l = 2)) ∧
    (∃ (s : State) (l : Nat), (s.rateOffered l 0 = true)) ∧
    (∃ (s : State) (l : Fin 144) (rate : BitVec 8), (s.lstate l = 3) ∧
      ((s.link l).step = rate.toNat)) ∧
    (∃ (s : State) (l : Fin 144), (s.lstate l = 3) ∧
      ((s.link l).ackRcvd = true ∧ (s.link l).ackSent = true)) ∧
    (∃ (s : State) (l : Fin 144), (s.lstate l = 4) ∧
      ((s.link l).relock = false)) ∧
    (∃ (s : State) (l : Fin 144), (s.lstate l = 4)) ∧
    (∃ (s : State) (l : Nat), (s.lstate l = 6)) :=
  ⟨⟨State.reset, 0, by decide⟩,
   ⟨State.reset.setR Reg.DCL_CTL_EN 0 1, 0, by decide⟩,
   ⟨(State.reset.setR Reg.DCL_STAT_LSTATE 0 1).setR Reg.LNE_CFG_MODE 16 1, 0, by decide, by decide⟩,
   ⟨State.reset, 0, by decide⟩,
   by decide,
   ⟨State.reset.setR Reg.DCL_STAT_LSTATE 0 2, 0, by decide⟩,
   ⟨State.reset.setR Reg.DCL_PEER_MASK 0 1, 0, by decide⟩,
   ⟨State.reset.setR Reg.DCL_STAT_LSTATE 0 3, 0, 0, by decide, by decide⟩,
   ⟨(State.reset.setR Reg.DCL_STAT_LSTATE 0 3).modLink 0 (fun k => { k with ackRcvd := true, ackSent := true }), 0, by decide, by decide⟩,
   ⟨State.reset.setR Reg.DCL_STAT_LSTATE 0 4, 0, by decide, by decide⟩,
   ⟨State.reset.setR Reg.DCL_STAT_LSTATE 0 4, 0, by decide⟩,
   ⟨State.reset.setR Reg.DCL_STAT_LSTATE 0 6, 0, by decide⟩⟩

/-- States and operands that meet the hypotheses of each clause of LatencyAndRetrainCommandsComplete. -/
theorem witness_LatencyAndRetrainCommandsComplete :
    (∃ (s : State) (l : Fin 144), (s.lstate l = 5 ∨ s.lstate l = 6)) ∧
    (State.reset.lstate 0 = 0) ∧
    (∃ (s : State) (l : Fin 144) (seq : BitVec 8), (s.lstate l = 5) ∧
      ((s.link l).samples.length < 15) ∧
      (seq.toNat = (s.link l).samples.length)) ∧
    (∃ (s : State) (t : State) (l : Fin 144) (seq : BitVec 8) (turn : BitVec 24) (elapsed : BitVec 32) (srt : List Int), (s.lstate l = 5) ∧
      ((s.link l).samples.length = 15 ∧ seq.toNat = 15) ∧
      (t = s.modLink l (fun k => { k with samples := (s.link l).samples ++ [(elapsed.toNat : Int) - turn.toNat] })) ∧
      (srt = ((s.link l).samples ++ [(elapsed.toNat : Int) - turn.toNat]).foldr insertSorted [])) ∧
    (∃ (s : State) (l : Fin 144) (seq : BitVec 8) (turn : BitVec 24) (elapsed : BitVec 32), (s.lstate l = 5) ∧
      ((s.link l).samples = List.replicate 15 ((elapsed.toNat : Int) - turn.toNat)) ∧
      (seq.toNat = 15) ∧
      (turn.toNat ≤ elapsed.toNat) ∧
      (s.contractIds = [])) ∧
    (∃ (s : State) (l : Fin 144), (s.lstate l = 6)) ∧
    (∃ (s : State) (l : Fin 144), (s.lstate l = 6)) ∧
    (State.reset.lstate 0 = 0 ∧ (State.reset.setR Reg.DCL_STAT_LSTATE 0 6).lstate 0 = 6 ∧ (State.reset.setR Reg.DCL_STAT_LSTATE 0 7).lstate 0 = 7) ∧
    (∃ (s : State) (l : Nat) (gap : Nat) (e : List Nat) (t : State), (e = ((s.link l).errAt ++ [(s.link l).blocks + gap]).filter (fun x => decide ((s.link l).blocks + gap < x + s.errWindow l))) ∧
      (t = (s.satAdd Reg.DCL_ERR_BLK l 1).modLink l (fun x => { x with blocks := (s.link l).blocks + gap + 1, errAt := e }))) ∧
    (∃ (s : State) (l : Fin 144) (cause : Nat), (s.lstate l = 6) ∧
      (cause < 8)) ∧
    (∃ (s : State) (l : Nat), (s.lstate l ≠ 6)) :=
  ⟨⟨State.reset.setR Reg.DCL_STAT_LSTATE 0 5, 0, by decide⟩,
   by decide,
   ⟨State.reset.setR Reg.DCL_STAT_LSTATE 0 5, 0, 0, by decide, by decide, by first | decide | rfl⟩,
   ⟨(State.reset.setR Reg.DCL_STAT_LSTATE 0 5).modLink 0 (fun k => { k with samples := List.replicate 15 90 }), ((State.reset.setR Reg.DCL_STAT_LSTATE 0 5).modLink 0 (fun k => { k with samples := List.replicate 15 90 })).modLink 0 (fun k => { k with samples := List.replicate 16 90 }), 0, 15, 10, 100, List.replicate 16 90, by decide, by decide, by rfl, by decide +kernel⟩,
   ⟨(State.reset.setR Reg.DCL_STAT_LSTATE 0 5).modLink 0 (fun k => { k with samples := List.replicate 15 90 }), 0, 15, 10, 100, by decide, by decide, by decide, by decide, by decide⟩,
   ⟨(State.reset.setR Reg.DCL_STAT_LSTATE 0 6).setR Reg.DCL_PEER_LANTUM 0 1, 0, by decide⟩,
   ⟨State.reset.setR Reg.DCL_STAT_LSTATE 0 6, 0, by decide⟩,
   by decide,
   ⟨State.reset, 0, 0, [0], (State.reset.satAdd Reg.DCL_ERR_BLK 0 1).modLink 0 (fun x => { x with blocks := (State.reset.link 0).blocks + 0 + 1, errAt := [0] }), by decide +kernel, by rfl⟩,
   ⟨State.reset.setR Reg.DCL_STAT_LSTATE 0 6, 0, 1, by decide, by decide⟩,
   ⟨State.reset, 0, by decide⟩⟩

/-- States and operands that meet the hypotheses of each clause of StreamCommandsComplete. -/
theorem witness_StreamCommandsComplete :
    (∃ (s : State) (l : Fin 144), ((s.touchLane (l.val + 16)).lstate l = 0)) ∧
    (∃ (s : State) (l : Fin 144), ((s.touchLane (l.val + 16)).lstate l ≠ 0)) ∧
    (∃ (s : State) (l : Fin 144) (off : BitVec 9), ((s.touchLane (l.val + 16)).lstate l = 0) ∧
      (off.toNat ≠ 0x2C ∧ off.toNat ≠ 0x30 ∧ (off.toNat < 0x80 ∨ 0x180 ≤ off.toNat))) ∧
    (∃ (s : State) (t : State) (stream : BitVec 12) (value : BitVec 32), (t = (if nbit value.toNat 13 then s.setR Reg.DCL_STR_CFG_STR_REJ stream.toNat 0 else s))) ∧
    (∃ (s : State) (engine : Fin 36) (p : Packet) (rest : List Packet) (l : Nat), (s.inbox (dclEp engine) = p :: rest) ∧
      (p.kind = 0 ∧ s.cstate p.flow ≠ 0 ∧ s.getR Reg.THY_CT_EP_DST p.flow = dclEp engine ∧ s.flag Reg.THY_CT_STREAM_EN p.flow = true) ∧
      (s.streamLink (s.getR Reg.THY_CT_STREAM_INDEX p.flow) = some l)) ∧
    (State.reset.inbox (dclEp 0) = [] ∧ (State.reset.putInbox (dclEp 0) [pkt0]).inbox (dclEp 0) = [pkt0] ∧ (State.reset.putInbox (dclEp 0) [pkt0]).cstate 0 = 0) ∧
    (State.reset.streamLink 0 = none) ∧
    (∃ (s : State) (stream : BitVec 12) (m : StreamMsg) (rest : List StreamMsg) (l : Nat), (s.txq stream.toNat = m :: rest) ∧
      (s.streamLink stream.toNat = some l ∧ s.lstate l = 6) ∧
      (s.getR Reg.DCL_STR_CFG_DIR stream.toNat = 0) ∧
      (0 < s.nslots stream.toNat)) ∧
    (State.reset.txq 0 = [] ∧ State.reset.nslots 0 = 0) ∧
    (∃ (s : State) (t : State) (u : State) (stream : BitVec 12) (blocks : List LineBlock) (ue : Bool) (corrected : BitVec 16) (l : Nat) (d : List (Nat × Bool)), (s.streamLink stream.toNat = some l ∧ s.lstate l = 6) ∧
      (s.getR Reg.DCL_STR_CFG_DIR stream.toNat = 1 ∧ 0 < s.nslots stream.toNat) ∧
      (d = blocks.zipIdx.map (fun b => s.slotData l ue b.2 b.1)) ∧
      (t = (if 11 ≤ s.getR Reg.DCL_STAT_RATE_NOW l then ((List.range blocks.length).foldl (fun u _ => u.draw) s).satAdd Reg.DCL_ERR_CORR l corrected.toNat
      else (List.range blocks.length).foldl (fun u _ => u.draw) s)) ∧
      (u = t.modLanes (fun x => { x with rx := Map.set streamRx0 x.rx stream.toNat (rxBlocks (Map.get streamRx0 s.lanes.rx stream.toNat) d).1 }))) ∧
    (∃ (b : Nat × Bool) (c : Nat × Bool) (d : Nat × Bool) (pay : List (Nat × Bool)) (x : Nat × Bool), (headerGood [b, c, d] = true) ∧
      (pay.length + 1 = ceilDiv (headerLength ([b, c, d] ++ pay ++ [x])) 8)) ∧
    (∃ (s : State) (t : State) (n : Nat) (l : Nat), (t = State.injectQueue n l 4 s)) :=
  ⟨⟨State.reset, 0, by first | decide | rfl⟩,
   ⟨State.reset.setR Reg.DCL_STAT_LSTATE 0 6, 0, by first | decide | rfl⟩,
   ⟨State.reset, 0, 0, by first | decide | rfl, by decide⟩,
   ⟨State.reset, State.reset, 0, 0x1010, by rfl⟩,
   ⟨((((State.reset.setR Reg.THY_CT_STAT_CSTATE 0 1).setR Reg.THY_CT_EP_DST 0 (dclEp 0)).setR Reg.THY_CT_STREAM_EN 0 1).setR Reg.DCL_STR_CFG_LANE 0 16).putInbox (dclEp 0) [{ pkt0 with kind := 0 }], 0, { pkt0 with kind := 0 }, [], 0, by decide, by decide, by first | decide | rfl⟩,
   by decide,
   by decide,
   ⟨((((((State.reset.setR Reg.DCL_STAT_LSTATE 0 6).setR Reg.DCL_STR_CFG_LANE 0 16).setR Reg.DCL_STR_CFG_EN 0 1).setR Reg.DCL_TXMAP_S0 0 0).setR Reg.DCL_TXMAP_V0 0 1).modLanes (fun x => { x with txq := [(0, [⟨1, 0, false, false, 0, []⟩])] })), 0, ⟨1, 0, false, false, 0, []⟩, [], 0, by decide, by first | decide | rfl, by decide, by decide⟩,
   by decide,
   ⟨(((((State.reset.setR Reg.DCL_STAT_LSTATE 0 6).setR Reg.DCL_STR_CFG_LANE 0 16).setR Reg.DCL_STR_CFG_EN 0 1).setR Reg.DCL_STR_CFG_DIR 0 1).setR Reg.DCL_RXMAP_V0 0 1), (((((State.reset.setR Reg.DCL_STAT_LSTATE 0 6).setR Reg.DCL_STR_CFG_LANE 0 16).setR Reg.DCL_STR_CFG_EN 0 1).setR Reg.DCL_STR_CFG_DIR 0 1).setR Reg.DCL_RXMAP_V0 0 1), (((((State.reset.setR Reg.DCL_STAT_LSTATE 0 6).setR Reg.DCL_STR_CFG_LANE 0 16).setR Reg.DCL_STR_CFG_EN 0 1).setR Reg.DCL_STR_CFG_DIR 0 1).setR Reg.DCL_RXMAP_V0 0 1), 0, [], false, 3, 0, [], by decide, by decide, by rfl, by rfl, by rfl⟩,
   ⟨(((messageBlocks ⟨1, 0, false, false, 0, []⟩).map (fun k => match k with | .data l => (ofBytes l, false) | _ => (0, false))).getD 0 (0, false)), (((messageBlocks ⟨1, 0, false, false, 0, []⟩).map (fun k => match k with | .data l => (ofBytes l, false) | _ => (0, false))).getD 1 (0, false)), (((messageBlocks ⟨1, 0, false, false, 0, []⟩).map (fun k => match k with | .data l => (ofBytes l, false) | _ => (0, false))).getD 2 (0, false)), [], (0, false), by decide +kernel, by decide +kernel⟩,
   ⟨State.reset, State.reset, 0, 0, by rfl⟩⟩

/-- States and operands that meet the hypotheses of each clause of PatternRunCommandsComplete. -/
theorem witness_PatternRunCommandsComplete :
    (∃ (s : State) (u : State) (n : Fin 16), (u = s.touchPair n) ∧
      (u.pgeActive n = false) ∧
      ((u.pgeOuts n).isEmpty = false ∧ (u.pgeOuts n).all (u.outputOk n) = true) ∧
      (fetchBase (u.getR Reg.PGE_UBASE_ADDR n) = true ∧ fetchBase (u.getR Reg.PGE_VBASE_ADDR n) = true ∧ u.fetchOk n = true) ∧
      ((u.addrEp ((u.getR Reg.PGE_UBASE_ADDR n + 8 * (u.getR Reg.PGE_ENTRY_PC n % 2 ^ 32)) % 2 ^ 48 / 64 * 64)).isSome = true)) ∧
    (∃ (s : State) (u : State) (n : Fin 16), (u = s.touchPair n)) ∧
    (∃ (s : State) (u : State) (n : Fin 16), (u = s.touchPair n)) ∧
    (∃ (s : State) (u : State) (n : Fin 16), (u = s.touchPair n)) ∧
    (∃ (s : State) (u : State) (t : State) (n : Fin 16), (u = s.touchPair n) ∧
      (u.getR Reg.PGE_STAT_STATE n = 5 ∧ (u.pgx n).ending ≤ 1) ∧
      (t = (u.pgeOuts n).foldl (fun v g => v.modOut n g (fun o => { o with pkts := o.pkts.filterMap (keepBefore (u.getR Reg.PGE_STOP_AT_AT n)) })) (u.modPgx n (fun k => { k with stop := some (u.getR Reg.PGE_STOP_AT_AT n) }))) ∧
      (t.stopNow n = true)) ∧
    (∃ (s : State) (u : State) (n : Fin 16), (u = s.touchPair n)) ∧
    (((State.reset.modTime (fun _ => 2 ^ 40)).modOut 0 0 (fun o => { o with pkts := [⟨[], 0, false, false, false, false⟩] }) |>.pgeOut 0 0).pkts.getLast? = some ⟨[], 0, false, false, false, false⟩) ∧
    (∃ (s : State) (n : Fin 16) (g : Fin 16) (p : PgePkt) (rest : List PgePkt), ((s.pgeOut n g).pkts = p :: rest) ∧
      (p.closed = true ∧ p.last = false) ∧
      (p.term = true ∨ s.dueAt (plusTicks ((p.vecs.head?.map (fun v => v.start)).getD 0) (-(s.leadMax n : Int))) = true) ∧
      (s.covers (s.getR Reg.PGE_OUT_CFG_FLOW (n.val * 16 + g.val)) ((s.pgePacket n g p).len + 1) = true) ∧
      (s.getR Reg.PGE_STAT_STATE n = 1 ∨ s.getR Reg.PGE_STAT_STATE n = 5)) ∧
    ((State.reset.pgeOut 0 0).pkts = []) ∧
    (∃ (s : State) (t : State) (n : Fin 16) (p : Packet) (rest : List Packet), (takeFirst (fun p => decide (p.kind = 6)) (s.inbox (pgeEp n)) = some (p, rest)) ∧
      (t = (s.putInbox (pgeEp n) rest).satAdd Reg.PGE_ERRCNT_BREACH n 1)) ∧
    (∃ (s : State) (u : State) (n : Fin 16) (p : Packet) (rest : List Packet), (takeFirst (fun p => decide (p.kind = 2)) (s.inbox (pgeEp n)) = some (p, rest)) ∧
      (u = ((s.putInbox (pgeEp n) rest).pgeFill n (decide (p.tag % 2 = 1)) ⟨p.addr, (List.range 8).map (fun i => payload p / 2 ^ (64 * i) % 2 ^ 64),
      (List.range 8).filter (fun i => wordPoison p i || crcFails p), decide (p.status ≠ 0)⟩).pgeLook n)) ∧
    (State.reset.inbox (pgeEp 0) = []) ∧
    (∃ (s : State) (n : Nat) (l : PgeLine), (s.pgeLine n (s.pgePcAddr n) = some l) ∧
      (l.bad = false ∧ l.poison.contains (s.pgePcAddr n / 8 % 8) = false)) :=
  ⟨⟨((((((State.reset.setR Reg.PGE_UBASE_ADDR 0 0x4000000000).setR Reg.PGE_OUT_CFG_EN 0 1).setR Reg.THY_CT_STAT_CSTATE 0 1).setR Reg.THY_CT_EP_SRC 0 (pgeEp 0)).setR Reg.THY_CT_EP_DST 0 (tioEp 0))), ((((((State.reset.setR Reg.PGE_UBASE_ADDR 0 0x4000000000).setR Reg.PGE_OUT_CFG_EN 0 1).setR Reg.THY_CT_STAT_CSTATE 0 1).setR Reg.THY_CT_EP_SRC 0 (pgeEp 0)).setR Reg.THY_CT_EP_DST 0 (tioEp 0))), 0, by first | decide | rfl, by decide, by decide, by decide, by decide⟩,
   ⟨State.reset.touchPair 0, State.reset.touchPair 0, 0, by first | decide | rfl⟩,
   ⟨State.reset.touchPair 0, State.reset.touchPair 0, 0, by first | decide | rfl⟩,
   ⟨State.reset.touchPair 0, State.reset.touchPair 0, 0, by first | decide | rfl⟩,
   ⟨State.reset.setR Reg.PGE_STAT_STATE 0 5, State.reset.setR Reg.PGE_STAT_STATE 0 5, (State.reset.setR Reg.PGE_STAT_STATE 0 5).modPgx 0 (fun k => { k with stop := some 0 }), 0, by rfl, by decide, by rfl, by decide⟩,
   ⟨State.reset.touchPair 0, State.reset.touchPair 0, 0, by first | decide | rfl⟩,
   by decide +kernel,
   ⟨((((State.reset.modTime (fun _ => 2 ^ 40)).setR Reg.THY_CT_STAT_CSTATE 0 1).setR Reg.PGE_STAT_STATE 0 1).modOut 0 0 (fun o => { o with pkts := [⟨[], 0, false, false, true, true⟩] })), 0, 0, ⟨[], 0, false, false, true, true⟩, [], by decide, by decide, by decide, by decide, by decide⟩,
   by decide,
   ⟨State.reset.putInbox (pgeEp 0) [{ pkt0 with kind := 6 }], _, 0, { pkt0 with kind := 6 }, [], by decide, rfl⟩,
   ⟨(State.reset.putInbox (pgeEp 0) [{ pkt0 with kind := 2 }]), _, 0, { pkt0 with kind := 2 }, [], by decide, rfl⟩,
   by decide,
   ⟨pgeAtWord 0, 0, ⟨0, List.replicate 8 0, [], false⟩, by first | decide | rfl, by decide⟩⟩

/-- States and operands that meet the hypotheses of each clause of PatternInstructionsComplete. -/
theorem witness_PatternInstructionsComplete :
    (State.reset.pgeWord 0 = none ∧ (State.reset.pgx 0).wait = none) ∧
    (∃ (s : State) (n : Fin 16) (op : Nat) (w : Nat), (s.pgeWord n = some w) ∧
      (w / 2 ^ 58 % 2 ^ 6 = op)) ∧
    (∃ (s : State) (n : Fin 16) (w : Nat), (s.pgeAt n 0x03 = some w) ∧
      ((s.pgx n).stack.length < 8)) ∧
    (∃ (s : State) (n : Fin 16) (w : Nat) (a : Nat) (rest : List Nat), (s.pgeAt n 0x04 = some w) ∧
      ((s.pgx n).stack = a :: rest)) ∧
    (∃ (s : State) (n : Fin 16) (w : Nat), (s.pgeAt n 0x05 = some w)) ∧
    (∃ (s : State) (n : Fin 16) (w : Nat), (s.pgeAt n 0x0B = some w)) ∧
    (∃ (s : State) (n : Fin 16) (w : PgeWait), ((s.pgx n).wait = some w) ∧
      (s.pgeActive n = true)) ∧
    (∃ (s : State) (n : Fin 16) (w : Nat), (s.pgeAt n 0x0E = some w)) ∧
    (∃ (s : State) (n : Fin 16) (w : Nat), (s.pgeAt n 0x01 = some w)) ∧
    (∃ (s : State) (n : Fin 16) (w : Nat), (s.pgeWord n = some w) ∧
      (0x12 ≤ w / 2 ^ 58 % 64)) :=
  ⟨by decide,
   ⟨pgeAtWord 0, 0, 0, 0, by first | decide | rfl, by decide⟩,
   ⟨pgeAtWord (3 * 2 ^ 58), 0, 3 * 2 ^ 58, by first | decide | rfl, by decide⟩,
   ⟨(pgeAtWord (4 * 2 ^ 58)).modPgx 0 (fun k => { k with stack := [7] }), 0, 4 * 2 ^ 58, 7, [], by first | decide | rfl, by decide⟩,
   ⟨pgeAtWord (5 * 2 ^ 58), 0, 5 * 2 ^ 58, by first | decide | rfl⟩,
   ⟨pgeAtWord (11 * 2 ^ 58), 0, 11 * 2 ^ 58, by first | decide | rfl⟩,
   ⟨(pgeAtWord 0).modPgx 0 (fun k => { k with wait := some ⟨true, 0, false, 0, 0⟩ }), 0, ⟨true, 0, false, 0, 0⟩, by first | decide | rfl, by decide⟩,
   ⟨pgeAtWord (14 * 2 ^ 58), 0, 14 * 2 ^ 58, by first | decide | rfl⟩,
   ⟨pgeAtWord (2 ^ 58), 0, 2 ^ 58, by first | decide | rfl⟩,
   ⟨pgeAtWord (18 * 2 ^ 58), 0, 18 * 2 ^ 58, by first | decide | rfl, by decide⟩⟩

/-- States and operands that meet the hypotheses of each clause of VectorInstructionsComplete. -/
theorem witness_VectorInstructionsComplete :
    (∃ (s : State) (n : Fin 16) (ws : List Nat), (s.svWants n = true) ∧
      (s.recAt n = .ok ws)) ∧
    (∃ (s : State) (n : Fin 16) (type : Nat), (s.svWants n = false ∨ (∀ ws, s.recAt n ≠ .ok ws) ∨ (∃ ws, s.recAt n = .ok ws ∧ ws.head?.getD 0 % 16 ≠ type))) ∧
    (State.reset.pgeWord 0 = none) ∧
    (∃ (h : Nat), (h % 16 = 2) ∧
      (h / 2 ^ 8 % 2 ^ 16 = 1)) ∧
    (∃ (s : State) (t : State) (n : Fin 16) (w : Nat), (s.pgeAt n 0x09 = some w) ∧
      ((s.pgx n).rep = 1 ∧ (s.pgx n).prog = 0 ∧ w % 2 ^ 32 = 1 ∧ nbit w 32 = false) ∧
      (s.stopNow n = false) ∧
      (s.emitOne n (if nbit w 33 then (s.pgx n).ts else (s.pgx n).cts) noAddr (fun g => ((s.pgx n).cv[g]?.getD 0, (s.pgx n).cm[g]?.getD 0)) = some t)) ∧
    (∃ (s : State) (t : State) (n : Fin 16) (w : Nat) (r : Nat × State) (want : Nat), (s.pgeAt n 0x09 = some w) ∧
      ((s.pgx n).rep ≠ 0) ∧
      (want = (if nbit w 32 then (s.pgx n).rep else min (s.pgx n).rep (max 1 (w % 2 ^ 32) - (s.pgx n).prog))) ∧
      (r = State.emitMany n (if nbit w 33 then (s.pgx n).ts else (s.pgx n).cts) noAddr (fun g => ((s.pgx n).cv[g]?.getD 0, (s.pgx n).cm[g]?.getD 0)) want s) ∧
      (t = r.2.modPgx n (fun x => { x with rep := (s.pgx n).rep - (want - r.1), prog := (s.pgx n).prog + (want - r.1) }))) ∧
    (∃ (s : State) (t : State) (n : Nat) (ts : Nat) (adr : AvAddr) (grp : Nat → Nat × Nat), (s.emitOne n ts adr grp = some t)) ∧
    (∃ (s : State) (t : State) (n : Fin 16) (w : Nat) (l : Nat) (a : Nat), (s.pgeAt n 0x0A = some w) ∧
      ((s.pgx n).prog = 0 ∧ (s.pgx n).ending = 0 ∧ w / 2 ^ 16 % 2 ^ 16 = 0) ∧
      (s.stopNow n = false) ∧
      (l = s.logical n (nbit w 8) (nbit w 9) ∧ a = s.scrambled n l) ∧
      (s.emitOne n (if nbit w 14 then (s.pgx n).ts else w / 2 ^ 10 % 16) ⟨l, a, s.getR Reg.PGE_Z_V n, true⟩
      (s.avGroup n (w % 16) (w / 2 ^ 4 % 4) a (s.getR Reg.PGE_Z_V n) (s.genData n l (nbit w 6))) = some t)) :=
  ⟨⟨(pgeAtWord (9 * 2 ^ 58)).modPgx 0 (fun k => { k with blocks := [(0, ⟨0, List.replicate 8 3, [], false⟩)] }), 0, [3], by decide, by decide⟩,
   ⟨State.reset, 0, 1, Or.inl (by decide)⟩,
   by decide,
   ⟨2 + 2 ^ 8, by decide, by decide⟩,
   ⟨(pgeAtWord (9 * 2 ^ 58 + 1)).modPgx 0 (fun k => { k with rep := 1 }), (((pgeAtWord (9 * 2 ^ 58 + 1)).modPgx 0 (fun k => { k with rep := 1 })).emitOne 0 0 noAddr (fun _ => (0, 0))).getD State.reset, 0, 9 * 2 ^ 58 + 1, by first | decide | rfl, by decide, by decide, by first | decide | rfl⟩,
   ⟨(pgeAtWord (9 * 2 ^ 58 + 1)).modPgx 0 (fun k => { k with rep := 1 }), _, 0, 9 * 2 ^ 58 + 1, _, _, by decide, by decide, rfl, rfl, rfl⟩,
   ⟨pgeAtWord 0, ((pgeAtWord 0).emitOne 0 0 noAddr (fun _ => (0, 0))).getD State.reset, 0, 0, noAddr, fun _ => (0, 0), by first | decide | rfl⟩,
   ⟨pgeAtWord (10 * 2 ^ 58), Option.get ((pgeAtWord (10 * 2 ^ 58)).emitOne (0 : Fin 16) (if nbit (10 * 2 ^ 58) 14 then ((pgeAtWord (10 * 2 ^ 58)).pgx (0 : Fin 16)).ts else 10 * 2 ^ 58 / 2 ^ 10 % 16) ⟨0, 0, (pgeAtWord (10 * 2 ^ 58)).getR Reg.PGE_Z_V (0 : Fin 16), true⟩ ((pgeAtWord (10 * 2 ^ 58)).avGroup (0 : Fin 16) (10 * 2 ^ 58 % 16) (10 * 2 ^ 58 / 2 ^ 4 % 4) 0 ((pgeAtWord (10 * 2 ^ 58)).getR Reg.PGE_Z_V (0 : Fin 16)) ((pgeAtWord (10 * 2 ^ 58)).genData (0 : Fin 16) 0 (nbit (10 * 2 ^ 58) 6)))) (by decide +kernel), 0, 10 * 2 ^ 58, 0, 0, by decide, by decide, by decide, by decide +kernel, (Option.some_get (by decide +kernel)).symm⟩⟩

/-- States and operands that meet the hypotheses of each clause of FailCaptureRunCommandsComplete. -/
theorem witness_FailCaptureRunCommandsComplete :
    (∃ (s : State) (u : State) (n : Fin 16), (u = s.touchPair n) ∧
      (u.fceBusy n = false) ∧
      (u.descOk n = true ∧ (u.fceAreas n).all (fun a => decide (a.1 + a.2 ≤ 0x800000)) = true ∧ u.soutOk n = true)) ∧
    (∃ (s : State) (u : State) (n : Fin 16), (u = s.touchPair n)) ∧
    (State.reset.getR Reg.FCE_STAT_STATE 0 ≠ 1 ∧ (State.reset.setR Reg.FCE_STAT_STATE 0 1).getR Reg.FCE_STAT_STATE 0 = 1) ∧
    (∃ (s : State) (u : State) (n : Fin 16), (u = s.touchPair n)) ∧
    (∃ (s : State) (t : State) (u : State) (n : Fin 16) (ue : List Nat) (bank : Nat) (base : Nat), (s.getR Reg.FCE_STAT_STATE n = 6) ∧
      ((s.fcx n).buf = []) ∧
      (bank = 1 - s.getR Reg.FCE_STAT_BANK n) ∧
      (base = s.getR (if bank = 1 then Reg.FCE_REC_BASE1_OFF else Reg.FCE_REC_BASE0_OFF) n) ∧
      (t = (((s.fcx n).tables.map (fun e => e.1)).zipIdx.foldl (fun x e => x.fceRecordWrite n base e.2 e.1 ue) s)) ∧
      (u = (((((t.setR Reg.FCE_STAT_BANK n bank).setR Reg.FCE_REC_CNT_COUNT n (s.fcx n).tables.length).setR Reg.FCE_REC_TIME_T n s.time.toNat).fceSt n 2).markCommit
      Reg.FCE_CMT n).raise (fceEp n) 0x0702 0 (fceDetail 0 0 0 0 (s.fcx n).tables.length))) ∧
    (∃ (s : State) (n : Fin 16), (s.getR Reg.FCE_STAT_STATE n ≠ 6 ∨ (s.fcx n).buf ≠ [])) ∧
    (∃ (s : State) (t : State) (n : Nat) (key : Nat) (t0 : RauTable) (tb : RauTable) (img : Nat → List Nat → List Nat → Bool → Nat), (Map.find (s.fcx n).tables key = some t0) ∧
      ((s.readTable n t0).1.2 = false) ∧
      (tb = (s.readTable n t0).1.1) ∧
      (t = (s.readTable n t0).2) ∧
      (img = (fun result rows cols heur => recordBits (key / 65536) (key % 65536) result rows cols heur (t.flag Reg.FCE_SITE_FLAGS_INCOMPLETE (n * 1024 + key / 65536))
      (t.flag Reg.FCE_SITE_FLAGS_UNCAL (n * 1024 + key / 65536)) tb))) :=
  ⟨⟨(((State.reset.setR Reg.FCE_DOM_ROW_RB 0 1).setR Reg.FCE_DOM_ROW_CB 0 1)), (((State.reset.setR Reg.FCE_DOM_ROW_RB 0 1).setR Reg.FCE_DOM_ROW_CB 0 1)), 0, by first | decide | rfl, by decide, by decide⟩,
   ⟨State.reset.touchPair 0, State.reset.touchPair 0, 0, by first | decide | rfl⟩,
   by decide,
   ⟨State.reset.touchPair 0, State.reset.touchPair 0, 0, by first | decide | rfl⟩,
   ⟨State.reset.setR Reg.FCE_STAT_STATE 0 6, _, _, 0, [], _, _, by decide, by decide, rfl, rfl, rfl, rfl⟩,
   ⟨State.reset, 0, by decide⟩,
   ⟨State.reset.modFcx 0 (fun k => { k with tables := [(0, ⟨0, [], [], [], 0, 0, 0⟩)] }), _, 0, 0, ⟨0, [], [], [], 0, 0, 0⟩, _, _, by decide, by decide +kernel, rfl, rfl, rfl⟩⟩

/-- States and operands that meet the hypotheses of each clause of FailCaptureDataCommandsComplete. -/
theorem witness_FailCaptureDataCommandsComplete :
    (∃ (s : State) (n : Fin 16) (p : Packet) (rest : List Packet) (q : Nat), (takeFirst (fun p => decide (p.kind ≠ 6)) (s.inbox (fceEp n)) = some (p, rest)) ∧
      (p.kind = 0) ∧
      ((s.fceInputs n).find? (fun q => decide (s.getR Reg.FCE_IN_CFG_FLOW (n.val * 16 + q) = p.flow)) = some q)) ∧
    (∃ (s : State) (n : Fin 16) (p : Packet) (rest : List Packet), (takeFirst (fun p => decide (p.kind ≠ 6)) (s.inbox (fceEp n)) = some (p, rest)) ∧
      (p.kind = 0) ∧
      ((s.fceInputs n).find? (fun q => decide (s.getR Reg.FCE_IN_CFG_FLOW (n.val * 16 + q) = p.flow)) = none)) ∧
    (∃ (s : State) (n : Fin 16) (p : Packet) (rest : List Packet), (takeFirst (fun p => decide (p.kind ≠ 6)) (s.inbox (fceEp n)) = some (p, rest)) ∧
      (p.kind ≠ 0)) ∧
    (State.reset.inbox (fceEp 0) = [] ∧ (State.reset.pgx 0).trace = [] ∧ (State.reset.fcx 0).buf = [] ∧ (State.reset.fcx 0).stat = []) ∧
    (∃ (s : State) (n : Fin 16) (e : TraceEnt) (rest : List TraceEnt), ((s.pgx n).trace = e :: rest) ∧
      ((s.fcx n).trace.length < 8192)) ∧
    (∃ (s : State) (n : Fin 16) (r : FceRec) (rest : List FceRec), ((s.fcx n).buf = r :: rest) ∧
      (s.getR Reg.FCE_STAT_STATE n = 5 ∨ s.getR Reg.FCE_STAT_STATE n = 6)) ∧
    (∃ (s : State) (t : State) (n : Nat) (r : FceRec) (e : Nat) (d : Nat), (r.poison = false ∧ nbit r.flags 8 = false) ∧
      (e = (if r.timed then r.num else (s.fceIn n r.input).expected.getD r.num)) ∧
      (numLe e r.num = true) ∧
      (t = (if r.num = e then s else s.fceGap n r e)) ∧
      (d = (match (s.fceIn n r.input).done with | some d => if numLe r.num d then d else r.num | none => r.num))) ∧
    (∃ (s : State) (n : Nat) (e : Nat) (r : FceRec), (r.timed = false ∧ (s.fceIn n r.input).expected = some e)) ∧
    (nbit 2 1 = true ∧ State.reset.flag Reg.FCE_CTL_TRACE 0 = false) ∧
    (∃ (s : State) (n : Nat) (r : FceRec), (s.flag Reg.FCE_LOG_CFG_EN n = false ∧ s.flag Reg.FCE_CTL_TRACE n = false) ∧
      (nbit r.flags 2 = false ∧ r.num < 2 ^ 48)) ∧
    (∃ (s : State) (t : State) (n : Fin 16), (s.getR Reg.FCE_STAT_STATE n = 5) ∧
      (s.flag Reg.FCE_SOUT_EN n = true) ∧
      ((s.fcx n).snapAt ≤ s.clockNow) ∧
      (t = s.modFcx n (fun k => { k with snapAt := (k.snapAt + max 1 (s.getR Reg.FCE_SOUT_PER_PERIOD n) * frameTicks) % 2 ^ 64 }))) ∧
    (∃ (s : State) (n : Fin 16) (p : Packet) (rest : List Packet), ((s.fcx n).stat = p :: rest)) ∧
    (∃ (s : State) (n : Fin 16) (p : Packet) (rest : List Packet), (takeFirst (fun p => decide (p.kind = 6)) (s.inbox (fceEp n)) = some (p, rest))) :=
  ⟨⟨((State.reset.setR Reg.FCE_IN_CFG_EN 0 1).setR Reg.FCE_STAT_STATE 0 5).putInbox (fceEp 0) [{ pkt0 with kind := 0 }], 0, { pkt0 with kind := 0 }, [], 0, by first | decide | rfl, by decide, by first | decide | rfl⟩,
   ⟨State.reset.putInbox (fceEp 0) [{ pkt0 with kind := 0 }], 0, { pkt0 with kind := 0 }, [], by first | decide | rfl, by decide, by decide⟩,
   ⟨State.reset.putInbox (fceEp 0) [{ pkt0 with kind := 2 }], 0, { pkt0 with kind := 2 }, [], by first | decide | rfl, by decide⟩,
   by decide,
   ⟨State.reset.modPgx 0 (fun k => { k with trace := [⟨0, 0, 0, 0, 0, false⟩] }), 0, ⟨0, 0, 0, 0, 0, false⟩, [], by decide, by decide⟩,
   ⟨(State.reset.setR Reg.FCE_STAT_STATE 0 5).modFcx 0 (fun k => { k with buf := [⟨0, 0, 0, 0, false, true⟩] }), 0, ⟨0, 0, 0, 0, false, true⟩, [], by decide, by decide⟩,
   ⟨State.reset, _, 0, ⟨0, 0, 0, 0, false, true⟩, _, _, by decide, rfl, by decide, rfl, rfl⟩,
   ⟨State.reset.putIn 0 0 ⟨some 3, some 2⟩, 0, 3, ⟨0, 1, 0, 0, false, false⟩, by first | decide | rfl⟩,
   by decide,
   ⟨State.reset, 0, ⟨0, 0, 0, 0, false, true⟩, by decide, by decide⟩,
   ⟨(State.reset.setR Reg.FCE_STAT_STATE 0 5).setR Reg.FCE_SOUT_EN 0 1, _, 0, by decide, by decide, by decide, rfl⟩,
   ⟨State.reset.modFcx 0 (fun k => { k with stat := [pkt0] }), 0, pkt0, [], by decide⟩,
   ⟨State.reset.putInbox (fceEp 0) [{ pkt0 with kind := 6 }], 0, { pkt0 with kind := 6 }, [], by first | decide | rfl⟩⟩

/-- States and operands that meet the hypotheses of each clause of ExactRepairIsACover. -/
theorem witness_ExactRepairIsACover :
    (∃ (prefCol : Bool) (cells : List (Nat × Nat)) (sr : Nat) (sc : Nat) (c : Cover), (exactCover prefCol (sr + sc) cells sr sc ⟨[], []⟩ = some c)) ∧
    (∃ (cells : List (Nat × Nat)) (sr : Nat) (sc : Nat) (rows : List Nat) (cols : List Nat), (rows.length ≤ sr ∧ cols.length ≤ sc) ∧
      (∀ e ∈ cells, e.1 ∈ rows ∨ e.2 ∈ cols)) :=
  ⟨⟨false, [(1, 2)], 1, 0, ⟨[1], []⟩, by first | decide | rfl⟩,
   ⟨[(1, 2)], 1, 0, [1], [], by decide, by decide⟩⟩

/-- States and operands that meet the hypotheses of each clause of HeuristicRepairIsACover. -/
theorem witness_HeuristicRepairIsACover :
    (∃ (prefCol : Bool) (cells : List (Nat × Nat)) (sr : Nat) (sc : Nat) (c : Cover), (heurCover prefCol (sr + sc) cells sr sc ⟨[], []⟩ = some c)) :=
  ⟨false, [(1, 2)], 1, 0, ⟨[1], []⟩, by first | decide | rfl⟩

/-- States and operands that meet the hypotheses of each clause of MspArithmeticComplete. -/
theorem witness_MspArithmeticComplete :
    ((mspAtWord 0).mspWord 0 = some ((0, false), mspAtWord 0) ∧ State.reset.mspWord 0 = none) ∧
    ((mspAtWord 0).mspWord 0 = some ((0, false), mspAtWord 0) ∧ mspOp 0 < 0x20) ∧
    (∃ (s : State) (t : State) (m : Fin 128) (w : Nat) (p : Bool), (s.mspWord m = some ((w, p), t)) ∧
      (0x20 ≤ mspOp w ∧ mspOp w ≤ 0x2F)) ∧
    (∃ (s : State) (t : State) (m : Fin 128) (w : Nat), (s.mspWord m = some ((w, true), t))) ∧
    (∃ (s : State) (t : State) (m : Fin 128) (w : Nat), (s.mspWord m = some ((w, false), t))) ∧
    (∀ op : Nat, (mspAtWord (op * 2 ^ 26)).mspWord 0 = some ((op * 2 ^ 26, false), mspAtWord (op * 2 ^ 26))) ∧
    (∀ op < 0x30, mspOp (op * 2 ^ 26) = op
      ∧ (aluSrcs (op * 2 ^ 26)).any ((mspAtWord (op * 2 ^ 26)).dPois 0) = false) ∧
    (∃ (s : State) (t : State) (m : Fin 128) (w : Nat) (a : Nat) (b : Nat), (s.mspWord m = some ((w, false), t)) ∧
      ((aluSrcs w).any (t.dPois m) = false) ∧
      (a = t.mspD m (w / 2 ^ 18 % 16) ∧ b = t.mspD m (w / 2 ^ 14 % 16))) ∧
    (∃ (s : State) (t : State) (m : Fin 128) (w : Nat) (a : Nat) (n : Nat), (s.mspWord m = some ((w, false), t)) ∧
      (t.dPois m (w / 2 ^ 18 % 16) = false ∧ (nbit w 11 = true → t.dPois m (w / 2 ^ 14 % 16) = false)) ∧
      (a = t.mspD m (w / 2 ^ 18 % 16)) ∧
      (n = (if nbit w 11 then t.mspD m (w / 2 ^ 14 % 16) % 32 else w % 32))) ∧
    (∃ (d : Nat), (d < 16)) ∧
    (∃ (d : Nat) (a : Nat) (b : Nat), (d < 16 ∧ a < 2 ^ 32 ∧ b < 2 ^ 32)) ∧
    (∃ (s : State) (m : Fin 128) (c : Nat), ((s.mspx m).rep = none) ∧
      (c < 8)) :=
  ⟨⟨rfl, rfl⟩,
   ⟨rfl, by decide⟩,
   ⟨mspAtWord (0x20 * 2 ^ 26), mspAtWord (0x20 * 2 ^ 26), 0, 0x20 * 2 ^ 26, false, rfl, by decide⟩,
   ⟨(mspAtWord 0).modMspx 0 (fun k => { k with cache := [(0, true)] }), (mspAtWord 0).modMspx 0 (fun k => { k with cache := [(0, true)] }), 0, 0, rfl⟩,
   ⟨mspAtWord (0x10 * 2 ^ 26), mspAtWord (0x10 * 2 ^ 26), 0, 0x10 * 2 ^ 26, by first | decide | rfl⟩,
   fun _ => rfl,
   by decide,
   ⟨mspAtWord (0x10 * 2 ^ 26), mspAtWord (0x10 * 2 ^ 26), 0, 0x10 * 2 ^ 26, 0, 0, by first | decide | rfl, by decide, by decide⟩,
   ⟨mspAtWord (0x15 * 2 ^ 26), mspAtWord (0x15 * 2 ^ 26), 0, 0x15 * 2 ^ 26, 0, 0, by first | decide | rfl, by decide, by decide, by first | decide | rfl⟩,
   ⟨0, by decide⟩,
   ⟨0, 0, 0, by decide⟩,
   ⟨State.reset, 0, 0, by decide, by decide⟩⟩

/-- States and operands that meet the hypotheses of each clause of MspSignalCommandsComplete. -/
theorem witness_MspSignalCommandsComplete :
    ((mspAtWord 0).mspWord 0 = some ((0, false), mspAtWord 0) ∧ State.reset.mspWord 0 = none) ∧
    (∃ (s : State) (t : State) (m : Fin 128) (w : Nat), (s.mspWord m = some ((w, true), t))) ∧
    (∃ (s : State) (t : State) (m : Fin 128) (w : Nat), (s.mspWord m = some ((w, false), t))) ∧
    (∃ (s : State) (t : State) (m : Fin 128) (w : Nat), (s.mspWord m = some ((w, false), t)) ∧
      (mspOp w = 0x1D) ∧
      ([w / 2 ^ 18 % 16, w / 2 ^ 14 % 16, w / 2 ^ 10 % 16, w / 2 ^ 6 % 16].any (t.dPois m) = false)) ∧
    (∃ (s : State) (t : State) (m : Fin 128) (w : Nat) (x : Int) (y : Int) (d : Int), (s.mspWord m = some ((w, false), t)) ∧
      (mspOp w = 0x1E) ∧
      (w / 2 ^ 15 % 8 = 4 ∨ w / 2 ^ 15 % 8 = 5 → t.dPois m (w / 2 ^ 18 % 16) = false) ∧
      (x = t.mspA m (w / 2 ^ 24 % 4)) ∧
      (y = t.mspA m (w / 2 ^ 22 % 4)) ∧
      (d = signed 32 (t.mspD m (w / 2 ^ 18 % 16)))) ∧
    (∃ (s : State) (t : State) (m : Fin 128) (w : Nat) (r : Int) (c : Int × Bool), (s.mspWord m = some ((w, false), t)) ∧
      (mspOp w = 0x1F) ∧
      (r = (if nbit w 19 = true ∧ w % 64 ≠ 0 then (2 ^ (w % 64 - 1) : Nat) else 0)) ∧
      (c = clampTo (if nbit w 18 then 64 else 32) ((t.mspA m (w / 2 ^ 20 % 4) + r) / (2 ^ (w % 64) : Nat)))) ∧
    (∃ (w : Nat), (1 ≤ w)) ∧
    (∃ (a : Nat), (a < 4)) ∧
    (∃ (s : State) (t : State) (m : Fin 128) (w : Nat), (s.mspWord m = some ((w, false), t)) ∧
      (t.dPois m (w / 2 ^ 22 % 16) = false ∧ t.dPois m (w / 2 ^ 18 % 16) = false ∧ (nbit w 13 = true → t.pPois m (w / 2 ^ 6 % 8) = false))) ∧
    (∃ (t : State) (u : State) (m : Nat) (w : Nat) (better : Int → Int → Bool), (u = (if better (signed 32 (t.mspD m (w / 2 ^ 22 % 16))) (signed 32 (t.mspD m (w / 2 ^ 18 % 16)))
      then (if w / 2 ^ 18 % 16 = w / 2 ^ 14 % 16 then (t.setD m (w / 2 ^ 18 % 16) (Config.freeWord t.free).toNat).draw
      else (t.setD m (w / 2 ^ 18 % 16) (t.mspD m (w / 2 ^ 22 % 16))).setD m (w / 2 ^ 14 % 16) (t.getR Reg.MSP_IX_V m))
      else t).setR Reg.MSP_IX_V m (t.getR Reg.MSP_IX_V m + 1))) ∧
    (∃ (s : State) (t : State) (m : Fin 128) (w : Nat), (s.mspWord m = some ((w, false), t))) ∧
    (∃ (s : State) (t : State) (m : Fin 128) (w : Nat), (s.mspWord m = some ((w, false), t)) ∧
      (mspOp w = 0x0C)) ∧
    (∃ (s : State) (t : State) (m : Fin 128) (w : Nat), (s.mspWord m = some ((w, false), t)) ∧
      (mspOp w = 0x0D)) ∧
    (∃ (s : State) (t : State) (m : Fin 128) (w : Nat) (a : Nat) (d : Nat) (md : List Nat) (r : (Nat × Bool) × State) (q : (Nat × Bool) × State), (s.mspWord m = some ((w, false), t)) ∧
      (t.pPois m (w / 2 ^ 19 % 8) = false) ∧
      (a = t.mspP m (w / 2 ^ 19 % 8) + w % 2 ^ 16) ∧
      (d = w / 2 ^ 22 % 16) ∧
      (md = (if nbit w 16 then [] else [w / 2 ^ 19 % 8])) ∧
      (r = t.mspLoad m a (nbit w 18)) ∧
      (q = t.mspLoad64 m a (nbit w 18))) ∧
    (∃ (s : State) (t : State) (u : State) (v : State) (m : Fin 128) (w : Nat), (s.mspWord m = some ((w, false), t)) ∧
      (mspOp w = 64) ∧
      (w / 2 ^ 28 % 4 ≠ 0 → t.dPois m (w / 2 ^ 22 % 16) = false ∧ t.dPois m (w / 2 ^ 18 % 16) = false) ∧
      ((nbit w 17 = true → t.pPois m (w / 2 ^ 9 % 8) = false) ∧ (nbit w 8 = true → t.pPois m (w % 8) = false)) ∧
      (u = (if nbit w 17 then (t.mspMul m (w / 2 ^ 28 % 4) (w / 2 ^ 26 % 4) (w / 2 ^ 22 % 16) (w / 2 ^ 18 % 16)).parAccess m (w / 2 ^ 12 % 16) (t.mspP m (w / 2 ^ 9 % 8))
      (t.mspD m (w / 2 ^ 12 % 16)) (t.dPois m (w / 2 ^ 12 % 16)) false (nbit w 16)
      else t.mspMul m (w / 2 ^ 28 % 4) (w / 2 ^ 26 % 4) (w / 2 ^ 22 % 16) (w / 2 ^ 18 % 16))) ∧
      (v = (if nbit w 8 then u.parAccess m (w / 2 ^ 3 % 16) (t.mspP m (w % 8)) (t.mspD m (w / 2 ^ 3 % 16)) (t.dPois m (w / 2 ^ 3 % 16)) true (nbit w 7) else u))) :=
  ⟨⟨rfl, rfl⟩,
   ⟨(mspAtWord 0).modMspx 0 (fun k => { k with cache := [(0, true)] }), (mspAtWord 0).modMspx 0 (fun k => { k with cache := [(0, true)] }), 0, 0, rfl⟩,
   ⟨mspAtWord (0x1D * 2 ^ 26), mspAtWord (0x1D * 2 ^ 26), 0, 0x1D * 2 ^ 26, by first | decide | rfl⟩,
   ⟨mspAtWord (0x1D * 2 ^ 26), mspAtWord (0x1D * 2 ^ 26), 0, 0x1D * 2 ^ 26, by first | decide | rfl, by decide, by decide⟩,
   ⟨mspAtWord (0x1E * 2 ^ 26), mspAtWord (0x1E * 2 ^ 26), 0, 0x1E * 2 ^ 26, _, _, _, rfl, by decide, by decide, rfl, rfl, rfl⟩,
   ⟨mspAtWord (0x1F * 2 ^ 26), mspAtWord (0x1F * 2 ^ 26), 0, 0x1F * 2 ^ 26, _, _, rfl, by decide, rfl, rfl⟩,
   ⟨32, by decide⟩,
   ⟨0, by decide⟩,
   ⟨mspAtWord (0x1B * 2 ^ 26 + 2 ^ 18), mspAtWord (0x1B * 2 ^ 26 + 2 ^ 18), 0, 0x1B * 2 ^ 26 + 2 ^ 18, by first | decide | rfl, by decide⟩,
   ⟨State.reset, _, 0, 0, fun _ _ => true, rfl⟩,
   ⟨mspAtWord (0x0A * 2 ^ 26), mspAtWord (0x0A * 2 ^ 26), 0, 0x0A * 2 ^ 26, by first | decide | rfl⟩,
   ⟨mspAtWord (0x0C * 2 ^ 26), mspAtWord (0x0C * 2 ^ 26), 0, 0x0C * 2 ^ 26, by first | decide | rfl, by decide⟩,
   ⟨mspAtWord (0x0D * 2 ^ 26), mspAtWord (0x0D * 2 ^ 26), 0, 0x0D * 2 ^ 26, by first | decide | rfl, by decide⟩,
   ⟨mspAtWord (0x0E * 2 ^ 26), mspAtWord (0x0E * 2 ^ 26), 0, 0x0E * 2 ^ 26, _, _, _, _, _, rfl, by decide, rfl, rfl, rfl, rfl, rfl⟩,
   ⟨mspAtWord (3 * 2 ^ 30), mspAtWord (3 * 2 ^ 30), _, _, 0, 3 * 2 ^ 30, rfl, by decide, by decide, by decide, rfl, rfl⟩⟩

/-- States and operands that meet the hypotheses of each clause of MspControlCommandsComplete. -/
theorem witness_MspControlCommandsComplete :
    ((mspAtWord 0).mspWord 0 = some ((0, false), mspAtWord 0) ∧ State.reset.mspWord 0 = none) ∧
    ((mspAtWord 0).mspWord 0 = some ((0, false), mspAtWord 0) ∧ State.reset.mspWord 0 = none) ∧
    (∃ (s : State) (t : State) (m : Fin 128) (w : Nat), (s.mspWord m = some ((w, true), t))) ∧
    (∃ (s : State) (t : State) (m : Fin 128) (w : Nat), (s.mspWord m = some ((w, false), t))) ∧
    (∃ (tgt : Nat), (tgt < 2 ^ 14)) ∧
    (∃ (s : State) (t : State) (m : Fin 128) (w : Nat), (s.mspWord m = some ((w, false), t))) ∧
    (∃ (s : State) (t : State) (m : Fin 128) (w : Nat), (s.mspWord m = some ((w, false), t))) ∧
    (∃ (s : State) (t : State) (m : Fin 128) (w : Nat), (s.mspWord m = some ((w, false), t)) ∧
      (mspOp w = 0x05) ∧
      (t.dPois m (w / 2 ^ 22 % 16) = false)) ∧
    (∃ (s : State) (t : State) (m : Fin 128) (w : Nat) (n : Nat) (nx : (Nat × Bool) × State), (s.mspWord m = some ((w, false), t)) ∧
      (mspOp w = 0x06) ∧
      (n = (if nbit w 16 then t.mspD m (w / 2 ^ 22 % 16) % 2 ^ 16 else w % 2 ^ 16)) ∧
      (nx = (match (t.mspx m).cached (t.getR Reg.MSP_PC_PC m + 1) with | some x => (x, t) | none => t.mspFetch m (t.getR Reg.MSP_PC_PC m + 1)))) ∧
    (∃ (s : State) (m : Fin 128) (x : Nat × Bool), ((s.mspx m).rep = some x) ∧
      (1 < s.getR Reg.MSP_RC_V m)) ∧
    (∃ (s : State) (t : State) (u : State) (m : Fin 128) (w : Nat) (k : Nat), (s.mspWord m = some ((w, false), t)) ∧
      (mspOp w = 0x07 ∧ w / 2 ^ 24 % 4 = k) ∧
      (u = (t.modMspx m (fun x => { x with wait := some ⟨k, w / 2 ^ 20 % 16, t.mspD m (w / 2 ^ 20 % 16 / 2 * 2) + t.mspD m (w / 2 ^ 20 % 16 / 2 * 2 + 1) * 2 ^ 32, t.clockNow⟩ })).setR Reg.MSP_STAT_WAITING m 1)) ∧
    (∃ (s : State) (t : State) (m : Fin 128) (w : Nat), (s.mspWord m = some ((w, false), t)) ∧
      (mspOp w = 0x07 ∧ w / 2 ^ 24 % 4 = 1) ∧
      (t.dPois m (w / 2 ^ 20 % 16 / 2 * 2) = true ∨ t.dPois m (w / 2 ^ 20 % 16 / 2 * 2 + 1) = true)) ∧
    (∃ (s : State) (t : State) (m : Fin 128) (w : Nat) (tgt : Nat), (s.mspWord m = some ((w, false), t)) ∧
      (mspOp w = 0x07 ∧ w / 2 ^ 24 % 4 = 1) ∧
      (t.dPois m (w / 2 ^ 20 % 16 / 2 * 2) = false ∧ t.dPois m (w / 2 ^ 20 % 16 / 2 * 2 + 1) = false) ∧
      (tgt = t.mspD m (w / 2 ^ 20 % 16 / 2 * 2) + t.mspD m (w / 2 ^ 20 % 16 / 2 * 2 + 1) * 2 ^ 32)) ∧
    (∃ (s : State) (t : State) (m : Fin 128) (w : Nat), (s.mspWord m = some ((w, false), t)) ∧
      (mspOp w = 0x07 ∧ w / 2 ^ 24 % 4 = 2) ∧
      (nbit (t.getR Reg.MSP_GRP_BAR_MASK (m.val / 8 * 8)) (m.val % 8) = false)) ∧
    (∃ (s : State) (t : State) (u : State) (m : Fin 128) (w : Nat), (s.mspWord m = some ((w, false), t)) ∧
      (mspOp w = 0x07 ∧ w / 2 ^ 24 % 4 = 2) ∧
      (nbit (t.getR Reg.MSP_GRP_BAR_MASK (m.val / 8 * 8)) (m.val % 8) = true) ∧
      (u = (t.modMspx m (fun k => { k with wait := some ⟨2, w / 2 ^ 20 % 16, t.mspD m (w / 2 ^ 20 % 16 / 2 * 2) + t.mspD m (w / 2 ^ 20 % 16 / 2 * 2 + 1) * 2 ^ 32, t.clockNow⟩ })).setR
      Reg.MSP_STAT_WAITING m 1)) ∧
    (∃ (s : State) (g : Nat) (i : Nat) (x : MspWait), (i < 8) ∧
      ((s.mspx (8 * g + i)).wait = some x ∧ x.kind = 2) ∧
      (∀ j, j < 8 → j ≠ i → (s.mspx (8 * g + j)).wait = none)) ∧
    (((mspAtWord 0).modMspx 0 (fun k => { k with wait := some ⟨2, 0, 0, 0⟩ })).mspWaitHolds 0 0 ⟨2, 0, 0, 0⟩ = true) ∧
    (∃ (s : State) (t : State) (m : Fin 128) (w : Nat) (size : Nat) (q : List MspSend), (s.mspWord m = some ((w, false), t)) ∧
      (mspOp w = 0x08) ∧
      (t.dPois m (w / 2 ^ 22 % 16) = false ∧ t.pPois m (w / 2 ^ 19 % 8) = false) ∧
      (size = t.mspD m (w / 2 ^ 22 % 16) ∧ 1 ≤ size ∧ size ≤ 1980) ∧
      (t.flag Reg.MSP_CH_CFG_EN (m.val * 4 + w / 2 ^ 16 % 4) = true) ∧
      (q = Map.get [] (t.mspx m).queues (w / 2 ^ 16 % 4))) ∧
    (∃ (s : State) (t : State) (m : Fin 128) (w : Nat), (s.mspWord m = some ((w, false), t)) ∧
      (mspOp w = 0x08)) :=
  ⟨⟨rfl, rfl⟩,
   ⟨rfl, rfl⟩,
   ⟨(mspAtWord 0).modMspx 0 (fun k => { k with cache := [(0, true)] }), (mspAtWord 0).modMspx 0 (fun k => { k with cache := [(0, true)] }), 0, 0, rfl⟩,
   ⟨mspAtWord 0, mspAtWord 0, 0, 0, by first | decide | rfl⟩,
   ⟨0, by decide⟩,
   ⟨(mspAtWord (4 * 2 ^ 26)).modMspx 0 (fun k => { k with stack := [7] }), (mspAtWord (4 * 2 ^ 26)).modMspx 0 (fun k => { k with stack := [7] }), 0, 4 * 2 ^ 26, by first | decide | rfl⟩,
   ⟨mspAtWord (4 * 2 ^ 26), mspAtWord (4 * 2 ^ 26), 0, 4 * 2 ^ 26, by first | decide | rfl⟩,
   ⟨mspAtWord (5 * 2 ^ 26), mspAtWord (5 * 2 ^ 26), 0, 5 * 2 ^ 26, by first | decide | rfl, by decide, by decide⟩,
   ⟨(mspAtWord (6 * 2 ^ 26)).modMspx 0 (fun k => { k with cache := [(6 * 2 ^ 26, false), (0, false)] }), (mspAtWord (6 * 2 ^ 26)).modMspx 0 (fun k => { k with cache := [(6 * 2 ^ 26, false), (0, false)] }), 0, 6 * 2 ^ 26, _, _, rfl, by decide, rfl, rfl⟩,
   ⟨((mspAtWord 0).setR Reg.MSP_RC_V 0 2).modMspx 0 (fun k => { k with rep := some (0, false) }), 0, (0, false), by first | decide | rfl, by decide⟩,
   ⟨mspAtWord (7 * 2 ^ 26), mspAtWord (7 * 2 ^ 26), _, 0, 7 * 2 ^ 26, 0, rfl, by decide, rfl⟩,
   ⟨(mspAtWord (7 * 2 ^ 26 + 2 ^ 24)).setR Reg.MSP_POIS_D 0 1, (mspAtWord (7 * 2 ^ 26 + 2 ^ 24)).setR Reg.MSP_POIS_D 0 1, 0, 7 * 2 ^ 26 + 2 ^ 24, by first | decide | rfl, by decide, by decide⟩,
   ⟨mspAtWord (7 * 2 ^ 26 + 2 ^ 24), mspAtWord (7 * 2 ^ 26 + 2 ^ 24), 0, 7 * 2 ^ 26 + 2 ^ 24, 0, by first | decide | rfl, by decide, by decide, by decide⟩,
   ⟨(mspAtWord (7 * 2 ^ 26 + 2 ^ 25)).setR Reg.MSP_GRP_BAR_MASK 0 0, (mspAtWord (7 * 2 ^ 26 + 2 ^ 25)).setR Reg.MSP_GRP_BAR_MASK 0 0, 0, 7 * 2 ^ 26 + 2 ^ 25, by first | decide | rfl, by decide, by decide⟩,
   ⟨(mspAtWord (7 * 2 ^ 26 + 2 ^ 25)).setR Reg.MSP_GRP_BAR_MASK 0 1, (mspAtWord (7 * 2 ^ 26 + 2 ^ 25)).setR Reg.MSP_GRP_BAR_MASK 0 1, ((mspAtWord (7 * 2 ^ 26 + 2 ^ 25)).setR Reg.MSP_GRP_BAR_MASK 0 1 |>.modMspx 0 (fun k => { k with wait := some ⟨2, 0, 0, 0⟩ })).setR Reg.MSP_STAT_WAITING 0 1, 0, 7 * 2 ^ 26 + 2 ^ 25, by first | decide | rfl, by decide, by decide, by first | decide | rfl⟩,
   ⟨(mspAtWord 0).modMspx 0 (fun k => { k with wait := some ⟨2, 0, 0, 0⟩ }), 0, 0, ⟨2, 0, 0, 0⟩, by decide, by first | decide | rfl, by decide⟩,
   by decide,
   ⟨((mspAtWord (8 * 2 ^ 26)).setR Reg.MSP_D_V 0 1).setR Reg.MSP_CH_CFG_EN 0 1, ((mspAtWord (8 * 2 ^ 26)).setR Reg.MSP_D_V 0 1).setR Reg.MSP_CH_CFG_EN 0 1, 0, 8 * 2 ^ 26, 1, [], by first | decide | rfl, by decide, by decide, by decide, by decide, by decide⟩,
   ⟨mspAtWord (8 * 2 ^ 26), mspAtWord (8 * 2 ^ 26), 0, 8 * 2 ^ 26, by first | decide | rfl, by decide⟩⟩

/-- States and operands that meet the hypotheses of each clause of MspGroupCommandsComplete. -/
theorem witness_MspGroupCommandsComplete :
    (∃ (s : State) (u : State) (t : State) (g : Fin 16) (mask : BitVec 8) (clr : Bool), (u = s.touchGroup g) ∧
      (t = ((u.grpWrite g mask clr).setR Reg.MSP_GRP_STAT_REASON (8 * g.val) 0).setR Reg.MSP_GRP_STAT_ABORT_LATE (8 * g.val) 0)) ∧
    (∃ (s : State) (g : Fin 16) (mask : Nat) (a : Nat), (mask = s.getR Reg.MSP_PENDMASK (8 * g.val)) ∧
      (a = s.getR Reg.MSP_GRP_AT_AT (8 * g.val))) ∧
    (∃ (s : State) (u : State) (g : Fin 16), (u = s.touchGroup g)) ∧
    (∃ (s : State) (u : State) (g : Fin 16), (u = s.touchGroup g)) ∧
    (∃ (s : State) (g : Fin 16) (p : Packet) (rest : List Packet) (j : Nat) (i : Nat) (n : Nat), (takeFirst (fun p => decide (p.kind = 0)) (s.inbox (mspEp g)) = some (p, rest)) ∧
      (s.inboxOf g p.flow = some j) ∧
      (i = g.val * 128 + j) ∧
      (n = s.ibxWords i)) ∧
    (State.reset.inbox (mspEp 0) = [] ∧ Map.get [] (State.reset.mspx 0).queues 0 = []) ∧
    (takeFirst (fun p => decide (p.kind = 6)) ((State.reset.putInbox (mspEp 0) [{ pkt0 with kind := 6, data := [⟨2 ^ 89, false⟩] }]).inbox (mspEp 0)) = some ({ pkt0 with kind := 6, data := [⟨2 ^ 89, false⟩] }, [])
      ∧ nbit (noticeBits { pkt0 with kind := 6, data := [⟨2 ^ 89, false⟩] }) 89 = true) ∧
    (∃ (s : State) (g : Fin 16) (p : Packet) (rest : List Packet), (takeFirst isRequest (serveOrder (s.inbox (mspEp g))) = some (p, rest))) ∧
    (∃ (s : State) (m : Fin 128) (c : Fin 4) (x : MspSend) (rest : List MspSend) (i : Nat) (flow : Nat) (r : Packet × State), (Map.get [] (s.mspx m).queues c.val = x :: rest) ∧
      (i = m.val * 4 + c.val) ∧
      (flow = s.getR Reg.MSP_CH_CFG_FLOW i) ∧
      (r = s.mspPacket m c x)) :=
  ⟨⟨State.reset, _, _, 0, 1, false, rfl, rfl⟩,
   ⟨State.reset.setR Reg.MSP_PENDMASK 0 1, 0, _, _, rfl, rfl⟩,
   ⟨State.reset, _, 0, rfl⟩,
   ⟨State.reset, _, 0, rfl⟩,
   ⟨(State.reset.setR Reg.MSP_IBX_CFG_EN 0 1).putInbox (mspEp 0) [{ pkt0 with kind := 0 }], 0, { pkt0 with kind := 0 }, [], 0, _, _, by decide, by decide, rfl, rfl⟩,
   by decide,
   by decide,
   ⟨State.reset.putInbox (mspEp 0) [{ pkt0 with kind := 1, addr := 0x4200000000, size := 8 }], 0, { pkt0 with kind := 1, addr := 0x4200000000, size := 8 }, [], by first | decide | rfl⟩,
   ⟨State.reset.modMspx 0 (fun k => { k with queues := [(0, [⟨0, 1, 0, false⟩])] }), 0, 0, ⟨0, 1, 0, false⟩, [], _, _, _, by decide, rfl, rfl, rfl⟩⟩

/-- States and operands that meet the hypotheses of each clause of MemoryHoldsWhatWasWritten. -/
theorem witness_MemoryHoldsWhatWasWritten :
    (∃ (a : Nat), (a % 8 = 0) ∧
      (unitOf a ≠ none)) ∧
    (∃ (s : State) (a : Nat) (be : Nat), (a % 8 = 0) ∧
      (unitOf a ≠ none) ∧
      ((s.word (a / 8)).valid = true ∧ (s.word (a / 8)).mark = .clean) ∧
      (be ≠ 0 ∧ be < 256)) ∧
    (∃ (s : State) (a : Nat) (n : Nat) (loc : Nat), (s.lpxMap a = some (n, loc) ∧ a < 0x4000000000) ∧
      ((s.lp n).inl = true)) :=
  ⟨⟨0x4000000000, by decide, by decide⟩,
   ⟨State.reset.putWord (0x4000000000 / 8) ⟨1, true, .clean⟩, 0x4000000000, 1, by decide, by decide, by decide, by decide⟩,
   ⟨((State.reset.setR Reg.LPX_STAT_CSTATE 0 2).setR Reg.LPX_DEV_U 0 8).modLp 0 (fun c => { c with inl := true }), 0, 0, 0, by first | decide | rfl, by decide⟩⟩

/-- States and operands that meet the hypotheses of each clause of ScratchpadCommandsComplete. -/
theorem witness_ScratchpadCommandsComplete :
    ((⟨0x4010000000, 8, true, 0, false, 0⟩ : MemReq).write = true ∧ spdWin (⟨0x4010000000, 8, true, 0, false, 0⟩ : MemReq).addr ≠ 0) ∧
    (∃ (s : State) (t : State) (r : MemReq), (s.dawnGuard (spdPlain r.addr) r.bytes r.req r.write = some t)) ∧
    ((State.reset.setR Reg.SPD_OWN_EP 0 0).spdCheck 0x4000000000 8 0 = .ok ∧ State.reset.spdCheck 0x4000000000 8 0 = .deny 0 ∧ State.reset.spdCheck 0 8 0 = .unmapped
      ∧ (State.reset.setR Reg.SPD_OWN_STATE 0 1).spdCheck 0x4000000000 8 0 = .wait) ∧
    (∃ (s : State) (r : MemReq), (s.dawnGuard (spdPlain r.addr) r.bytes r.req r.write = none)) ∧
    (∃ (s : State) (r : MemReq) (up : Option Upset) (x : List Rd × State), (s.dawnGuard (spdPlain r.addr) r.bytes r.req r.write = none) ∧
      (s.spdCheck r.addr r.bytes r.req = .ok) ∧
      (r.write = false) ∧
      (x = (s.spdTouch r.addr r.bytes).readWords (spdPlain r.addr / 8 * 8) (wordsOf (spdPlain r.addr) r.bytes) r.req up)) ∧
    (isMgmt (ep 0 90 8) = true ∧ State.reset.spdWriter 0 (ep 0 90 8) = true ∧ State.reset.spdWriter 0 0 = false) ∧
    (∃ (s : State) (t : State) (u : State) (bd : Fin 4) (bank : Fin 64) (b : Nat) (after : State → State), (b = bd.val * 64 + bank.val) ∧
      (s.getR Reg.SPD_OWN_STATE b = 1) ∧
      (t = ((s.setR Reg.SPD_OWN_EP b (s.getR Reg.SPD_NEWEP b)).setR Reg.SPD_OWN_STATE b 2).markCommit Reg.SPD_CMT b) ∧
      (u = (s.setR Reg.SPD_OWN_STATE b 3).respond 0 0) ∧
      (after = (fun x => (List.range 32).foldl (fun u k => if u.getR Reg.SPD_CPY_STAT_STATE k = 1 then u.copyGo k else u)
      ((List.range 32).foldl (fun u k => u.spdRetry (copyEp k)) x.spdResume)))) ∧
    (∃ (s : State) (bd : Fin 4) (bank : Fin 64), (s.getR Reg.SPD_OWN_STATE (bd.val * 64 + bank.val) ≠ 1)) ∧
    (∃ (a : Nat) (u : Nat) (w : Nat), (a % 8 = 0) ∧
      (unitOf a = some (u, w))) ∧
    (∃ (s : State) (t : State) (bd : Fin 4) (c : Fin 8) (req : BitVec 16) (k : Nat), (k = bd.val * 8 + c.val) ∧
      (t = (s.resetFields [Reg.SPD_CPY_STAT_ERR, Reg.SPD_CPY_STAT_RSTATUS, Reg.SPD_CPY_DONE_BYTES, Reg.SPD_CPY_EADDR_ADDR] k).setR Reg.SPD_CPY_REQ_EP k req.toNat)) ∧
    (∃ (s : State) (t : State) (k : Nat), (t = (List.range 4).foldl (fun t _ => if t.copyMay k then t.copyIssue k else t) s)) ∧
    (∃ (bd : Fin 4) (c : Fin 8) (k : Nat), (k = bd.val * 8 + c.val)) ∧
    (∃ (s : State) (t : State) (bd : Fin 4) (c : Fin 8) (k : Nat) (i : Nat) (more : List Nat) (p : Packet) (rest : List Packet), (k = bd.val * 8 + c.val) ∧
      ((s.copy k).outstanding = i :: more) ∧
      (takeFirst (fun p => (decide (p.kind = 2) || decide (p.kind = 4)) && decide (p.tag = copyTag (s.copy k) i)) (s.inbox (copyEp k)) = some (p, rest)) ∧
      (t = (s.putInbox (copyEp k) rest).modCopy k (fun x => { x with outstanding := more }))) ∧
    (∃ (bd : Fin 4) (c : Fin 8) (k : Nat), (k = bd.val * 8 + c.val)) ∧
    (∃ (s : State) (k : Nat) (i : Nat) (p : Packet) (la : Nat) (ws : List Rd), (la = s.copyLocal k (1024 * i)) ∧
      (ws = s.chunkWords k i p)) :=
  ⟨by decide,
   ⟨State.reset.modDawn (fun d => { d with images := [(0x4000000000, 8)] }), State.reset.modDawn (fun d => { d with images := [(0x4000000000, 8)] }), ⟨0x4000000000, 8, true, 0, false, 0⟩, rfl⟩,
   by decide,
   ⟨State.reset, ⟨0x4000000000, 8, true, 0, false, 0⟩, by decide⟩,
   ⟨State.reset.setR Reg.SPD_OWN_EP 0 0, ⟨0x4000000000, 8, false, 0, false, 0⟩, none, _, by decide, by decide, by decide, rfl⟩,
   by decide,
   ⟨State.reset.setR Reg.SPD_OWN_STATE 0 1, _, _, 0, 0, _, _, rfl, by decide, rfl, rfl, rfl⟩,
   ⟨State.reset, 0, 0, by decide⟩,
   ⟨0x4000000000, 0, 0, by decide, by first | decide | rfl⟩,
   ⟨State.reset, _, 0, 0, 0, _, rfl, rfl⟩,
   ⟨State.reset, _, 0, rfl⟩,
   ⟨0, 0, 0, by decide⟩,
   ⟨(State.reset.modChip (fun c => { c with copies := [(0, ⟨1, [0], false, 0⟩)] })).putInbox (copyEp 0) [pkt0], _, 0, 0, 0, 0, [], pkt0, [], by decide, by decide, by decide, rfl⟩,
   ⟨0, 0, 0, by decide⟩,
   ⟨State.reset, 0, 0, pkt0, _, _, rfl, rfl⟩⟩

/-- States and operands that meet the hypotheses of each clause of MemoryRepairCommandsComplete. -/
theorem witness_MemoryRepairCommandsComplete :
    ((State.reset.modChip (fun c => { c with queue := [(0, [(0, false)])] })).rq 0 = [(0, false)] ∧ (State.reset.modChip (fun c => { c with queue := [(0, [(0, false)])] })).remapTurn 0 = none) ∧
    (∃ (u : Nat) (w : Nat) (k : Nat), (k = unitAddr u w / 8)) ∧
    (∃ (s : State) (t : State) (u : Nat), (s.flag Reg.ECC_SCRUB_EN (unitBd u) = true) ∧
      (unitOk u = true ∧ s.midBank u = false) ∧
      (max 1 (s.getR Reg.ECC_SCRUB_PERIOD (unitBd u)) * 2 ^ 30 ≤ s.since (Map.get 0 s.chip.scrubAt u)) ∧
      (t = s.modChip (fun c => { c with scrubAt := Map.set 0 c.scrubAt u s.time.toNat }))) ∧
    (∃ (s : State) (u : Nat), (s.flag Reg.ECC_SCRUB_EN (unitBd u) = false ∨ unitOk u = false ∨ s.midBank u = true ∨ s.since (Map.get 0 s.chip.scrubAt u) < max 1 (s.getR Reg.ECC_SCRUB_PERIOD (unitBd u)) * 2 ^ 30)) ∧
    (∃ (s : State) (t : State) (u : Nat) (w : Nat) (up : Option Upset), (t = (if (s.word (unitAddr u w / 8)).valid then (s.putWord (unitAddr u w / 8) (upsetWord (s.word (unitAddr u w / 8)) up)).repairWord u w (s.rqHas u w) else s).mspLoseUnit u 1)) ∧
    (∃ (s : State) (t : State) (u : Nat) (row : Nat) (spare : Nat), (t = (((List.range 16).foldl (fun x i => x.copyRowWord u (16 * row + i)) s).mspLoseUnit u 16).modChip (fun c => { c with suspects := c.suspects.filter (fun e => decide (e ≠ (u, row))), ahead := Map.erase c.ahead (rowKey u row), remaps := Map.set [] c.remaps u (Map.get [] c.remaps u ++ [(row, spare)]) }))) :=
  ⟨by decide,
   ⟨0, 0, 0x4000000000 / 8, by decide⟩,
   ⟨(State.reset.modTime (fun _ => 2 ^ 60)).setR Reg.ECC_SCRUB_EN 0 1, _, 0, by decide, by decide, by decide +kernel, rfl⟩,
   ⟨State.reset, 0, by decide⟩,
   ⟨State.reset.modChip (fun c => { c with scrub := [(0, 5)] }), _, 0, 5, none, rfl⟩,
   ⟨State.reset.modChip (fun c => { c with suspects := [(0, 3)] }), _, 0, 3, 0, rfl⟩⟩

/-- States and operands that meet the hypotheses of each clause of DramCommandsComplete. -/
theorem witness_DramCommandsComplete :
    ((((State.reset.setR Reg.LPX_STAT_CSTATE 0 2).setR Reg.LPX_DEV_U 0 8).setR Reg.LPX_STAT_DET_ON 0 1).lpxCheck 0 8 = .wait 0) ∧
    (((State.reset.setR Reg.LPX_STAT_CSTATE 0 2).setR Reg.LPX_DEV_U 0 8).lpxCheck 0 8 = .ok 0 0 ∧ State.reset.lpxCheck 0 8 = .unmapped
      ∧ ((State.reset.setR Reg.LPX_STAT_CSTATE 0 3).setR Reg.LPX_DEV_U 0 8).lpxCheck 0 8 = .wait 0) ∧
    (∃ (s : State) (t : State) (r : MemReq) (link : LinkErr) (up : Option Upset) (n : Nat) (loc : Nat) (x : List Rd × State) (ws : List Rd), (s.dawnGuard r.addr r.bytes r.req r.write = none) ∧
      (t = s.lpxWakeRank n loc) ∧
      (x = (t.lpxLink n r.addr link).readWords (r.addr / 8 * 8) (wordsOf r.addr r.bytes) r.req up) ∧
      (ws = linkPoison r.addr link x.1)) ∧
    (∃ (s : State) (t : State) (r : MemReq), (s.dawnGuard r.addr r.bytes r.req r.write = some t)) ∧
    (∃ (s : State) (t : State) (n : Fin 16) (rest : List (Nat × Bool)), (t = s.modLp n (fun c => { c with wb := rest }))) ∧
    (∃ (s : State) (u : State) (t : State) (w : State) (n : Fin 16) (d : Nat) (r : Nat) (mfr : Nat) (rev : Nat) (c : Nat), ((s.getR Reg.LPX_STAT_CSTATE n = 1 ∧ (s.lp n).initDue = false) ∨ s.getR Reg.LPX_STAT_OP_STATE n = 1) ∧
      (u = (if s.getR Reg.LPX_STAT_CSTATE n = 1 ∧ (s.lp n).initDue = false then s else s.lpxTrain n)) ∧
      (t = ((((((u.setR Reg.LPX_DEV_DENSITY n d).setR Reg.LPX_DEV_RANKS n r).setR Reg.LPX_DEV_MFR n mfr).setR Reg.LPX_DEV_REV n rev).setR
      Reg.LPX_DEV_U n (usable d r (u.lp n).inl)).setR Reg.LPX_STAT_FAILCODE n 0).modLp n (fun c => { c with committed := false, driftRaised := false })) ∧
      (w = (if u.getR Reg.LPX_STAT_OP_STATE n = 1 then t.setR Reg.LPX_STAT_OP_STATE n 2 else t).raise (lpxEp n) 0x0D01 0 0)) ∧
    (∃ (s : State) (n : Fin 16), (s.getR Reg.LPX_STAT_CSTATE n ≠ 1 ∨ (s.lp n).initDue = true) ∧
      (s.getR Reg.LPX_STAT_OP_STATE n ≠ 1)) ∧
    (∃ (code : Nat), (code < 16)) ∧
    (((State.reset.setR Reg.LPX_STAT_CSTATE 0 1).modLp 0 (fun c => { c with initDue := true })).getR Reg.LPX_STAT_CSTATE 0 = 1) ∧
    (∃ (s : State) (t : State) (n : Fin 16) (committed : Bool), (t = ((s.setR Reg.LPX_STAT_OP_STATE n 1).setR Reg.LPX_STAT_ABORT_LATE n 0).modLp n (fun c => { c with committed := committed }))) ∧
    (((State.reset.setR Reg.LPX_STAT_CSTATE 0 1).modLp 0 (fun c => { c with waiting := [⟨0, 8, false, 0, false, 0⟩] })).getR Reg.LPX_STAT_CSTATE 0 = 1) ∧
    ((State.reset.setR Reg.LPX_STAT_CSTATE 0 2).getR Reg.LPX_STAT_CSTATE 0 = 2 ∧ (State.reset.setR Reg.LPX_STAT_CSTATE 0 2).flag Reg.LPX_STAT_DET_ON 0 = false) ∧
    (∃ (s : State) (t : State) (n : Fin 16) (v : Bool) (busy : Bool), (busy = s.contractIds.any (fun i => decide (s.getR Reg.THY_CT_EP_SRC i = lpxEp n) || decide (s.getR Reg.THY_CT_EP_DST i = lpxEp n))) ∧
      (t = (s.modLp n (fun c => { c with detPend := none, powerDown := if v then [] else c.powerDown })).setR Reg.LPX_STAT_DET_ON n (bit v))) ∧
    (∃ (s : State) (t : State) (clr : Bool), (t = (if clr then s.setR Reg.LPX_MAP_MAP_REJ 0 0 else s))) :=
  ⟨by decide,
   by decide,
   ⟨State.reset, _, ⟨0, 8, true, 0, false, 0⟩, .ok, none, 0, 0, _, _, by decide, rfl, rfl, rfl⟩,
   ⟨State.reset.modDawn (fun d => { d with images := [(0, 8)] }), State.reset.modDawn (fun d => { d with images := [(0, 8)] }), ⟨0, 8, true, 0, false, 0⟩, rfl⟩,
   ⟨State.reset, _, 0, [], rfl⟩,
   ⟨State.reset.setR Reg.LPX_STAT_CSTATE 0 1, _, _, _, 0, 0, 0, 0, 0, 1, by decide, rfl, rfl, rfl⟩,
   ⟨State.reset, 0, by decide, by decide⟩,
   ⟨1, by decide⟩,
   by decide,
   ⟨State.reset, _, 0, true, rfl⟩,
   by decide,
   by decide,
   ⟨State.reset, _, 0, true, _, rfl, rfl⟩,
   ⟨State.reset, _, true, rfl⟩⟩

/-- States and operands that meet the hypotheses of each clause of PcieLinkAndFunctionCommandsComplete. -/
theorem witness_PcieLinkAndFunctionCommandsComplete :
    (∃ (s : State), (s.pcie.perst = true) ∧
      (s.flag Reg.PCI_STAT_LINK_UP 0 = false)) ∧
    (∃ (s : State), (s.pcie.perst = false ∨ s.flag Reg.PCI_STAT_LINK_UP 0 = true)) ∧
    (∃ (s : State), (s.flag Reg.PCI_STAT_LINK_UP 0 = true)) ∧
    (∃ (s : State) (f : Field), (s.inReset = false) ∧
      (s.flag Reg.DEV_RST_CFG_HOT_WARM 0 = false) ∧
      (s.getR Reg.DBG_SESS_STATE 0 ≠ 2) ∧
      (Reg.porTop ≤ f.id ∧ f.id < Reg.hotTop)) ∧
    (((State.reset.setR Reg.PCI_STAT_LINK_UP 0 1).fnEnabled 0 = true) ∧ ((State.reset.setR Reg.PCI_STAT_LINK_UP 0 1).fnEnabled 2 = false)) ∧
    (∃ (s : State), (s.flag Reg.PCI_STAT_LINK_UP 0 = true)) ∧
    (∃ (s : State), (s.flag Reg.PCI_STAT_LINK_UP 0 = false)) ∧
    ((State.reset.setR Reg.PCI_STAT_LINK_UP 0 1).fnAnswers 1 = true ∧ (State.reset.setR Reg.PCI_STAT_LINK_UP 0 1).fnAnswers 5 = false ∧ inBar false 1 4 4 = true ∧ inBar true 0 0 64 = true
      ∧ inBar false 1 0x4000 4 = false) ∧
    (∃ (s : State), (s.flag Reg.PCI_STAT_LINK_UP 0 = true)) ∧
    (∃ (s : State) (fn : Fin 34) (off : Nat), (s.flag Reg.PCI_STAT_LINK_UP 0 = true) ∧
      (s.fnAnswers fn = true) ∧
      (off + 8 ≤ bar2Size fn ∧ off % 512 ≤ 504) ∧
      (2 ^ 48 ≤ s.winBase fn + off ∧ s.winBase fn % 512 = 0) ∧
      (s.pcie.reads = [] ∧ s.pcie.writes = [])) ∧
    (∃ (s : State) (fn : Fin 34), (s.flag Reg.PCI_STAT_LINK_UP 0 = true) ∧
      (s.fnAnswers fn = true)) ∧
    (∃ (s : State) (p : Packet) (rest : List Packet), (takeFirst (fun p => (decide (p.kind = 2) || decide (p.kind = 4)) && decide (p.tag < 128)) (s.inbox pcieEp) = some (p, rest))) ∧
    (∃ (s : State), (takeFirst (fun p => (decide (p.kind = 2) || decide (p.kind = 4)) && decide (p.tag < 128)) (s.inbox pcieEp) = none)) ∧
    (0 < msixCount 0 ∧ State.reset.msixOpen 0 0 = false ∧ msixCount 2 ≤ 4) ∧
    (((State.reset.modPcie (fun p => { p with bme := [0], msixOn := [0] })).putMsix 0 0 ⟨0, 0, false, false⟩).msixOpen 0 0 = true) ∧
    (∃ (s : State) (fn : Fin 34), (fn.val ≠ 0) ∧
      (s.fnEnabled fn = true)) ∧
    (∃ (s : State) (fn : Fin 34), (fn.val = 0 ∨ s.fnEnabled fn = false)) ∧
    (∃ (s : State) (fn : Fin 34), (s.fnEnabled fn = true)) ∧
    (∃ (s : State) (fn : Fin 34), (s.fnEnabled fn = false)) :=
  ⟨⟨State.reset.modPcie (fun p => { p with perst := true }), by decide, by decide⟩,
   ⟨State.reset, by decide⟩,
   ⟨State.reset.setR Reg.PCI_STAT_LINK_UP 0 1, by decide⟩,
   ⟨State.reset, Reg.PCI_STAT_LINK_UP, by decide, by decide, by decide, by decide⟩,
   by decide,
   ⟨State.reset.setR Reg.PCI_STAT_LINK_UP 0 1, by decide⟩,
   ⟨State.reset, by decide⟩,
   by decide,
   ⟨State.reset.setR Reg.PCI_STAT_LINK_UP 0 1, by decide⟩,
   ⟨(State.reset.setR Reg.PCI_STAT_LINK_UP 0 1).setR Reg.PCI_WIN1_BASE 0 0xFFFF, 1, 0x100000000, by decide, by decide, by decide, by decide, by decide⟩,
   ⟨State.reset.setR Reg.PCI_STAT_LINK_UP 0 1, 1, by decide, by decide⟩,
   ⟨State.reset.putInbox pcieEp [{ pkt0 with dest := pcieEp }], { pkt0 with dest := pcieEp }, [], by first | decide | rfl⟩,
   ⟨State.reset, by decide⟩,
   by decide,
   by decide,
   ⟨State.reset, 1, by decide, by decide⟩,
   ⟨State.reset, 5, by decide⟩,
   ⟨State.reset, 0, by decide⟩,
   ⟨State.reset, 5, by decide⟩⟩

/-- States and operands that meet the hypotheses of each clause of PcieDmaStagingAndMailboxCommandsComplete. -/
theorem witness_PcieDmaStagingAndMailboxCommandsComplete :
    (∃ (s : State) (c : Fin 8), (s.getR Reg.PCI_DMA_STAT_STATE c ≠ 1) ∧
      (s.getR Reg.PCI_DMA_LEN_BYTES c = 0 ∨ dmaRange (s.getR Reg.PCI_DMA_LOCAL_ADDR c) (s.getR Reg.PCI_DMA_LEN_BYTES c) = false
      ∨ s.fnEnabled (s.getR Reg.PCI_DMA_CFG_FUNC c) = false ∨ s.pcie.bme.contains (s.getR Reg.PCI_DMA_CFG_FUNC c) = false)) ∧
    (State.reset.getR Reg.PCI_DMA_STAT_STATE 0 ≠ 1) ∧
    (∃ (s : State) (c : Fin 8), (s.getR Reg.PCI_DMA_STAT_STATE c ≠ 1) ∧
      (0 < s.getR Reg.PCI_DMA_LEN_BYTES c) ∧
      (dmaRange (s.getR Reg.PCI_DMA_LOCAL_ADDR c) (s.getR Reg.PCI_DMA_LEN_BYTES c) = true) ∧
      (s.fnEnabled (s.getR Reg.PCI_DMA_CFG_FUNC c) = true ∧ s.pcie.bme.contains (s.getR Reg.PCI_DMA_CFG_FUNC c) = true)) ∧
    (∃ (s : State) (c : Fin 8), (s.getR Reg.PCI_DMA_STAT_STATE c = 1)) ∧
    (∃ (s : State) (c : Fin 8) (k : Fin 16) (i : Nat), (s.getR Reg.PCI_DMA_STAT_STATE c = 1) ∧
      (s.flag Reg.PCI_DMA_CFG_DIR c = false ∧ s.flag Reg.PCI_DMA_CFG_IRQ c = false) ∧
      ((s.dma c).out[k.val]? = some i ∧ s.dmaDone c = i) ∧
      ((s.dma c).ready = [] ∧ (s.dma c).writing = none)) ∧
    (∃ (s : State) (c : Fin 8) (k : Fin 16), ((s.dma c).out[k.val]? = none ∨ s.flag Reg.PCI_DMA_CFG_DIR c = true ∨ s.getR Reg.PCI_DMA_STAT_STATE c ≠ 1)) ∧
    (∃ (s : State) (c : Fin 8) (k : Fin 16) (i : Nat), (s.getR Reg.PCI_DMA_STAT_STATE c = 1 ∧ s.flag Reg.PCI_DMA_CFG_DIR c = false) ∧
      ((s.dma c).out[k.val]? = some i)) ∧
    (∃ (s : State) (c : Fin 8), (takeFirst (fun p => (decide (p.kind = 2) || decide (p.kind = 4)) && decide (p.tag / 16 = 8 + c.val)) (s.inbox pcieEp) = none)) ∧
    (∃ (s : State) (c : Fin 8) (k : Fin 16) (i : Nat) (p : Packet) (rest : List Packet), (s.getR Reg.PCI_DMA_STAT_STATE c = 1 ∧ s.flag Reg.PCI_DMA_CFG_DIR c = false) ∧
      ((s.dma c).out[k.val]? = some i) ∧
      (takeFirst (fun p => (decide (p.kind = 2) || decide (p.kind = 4)) && decide (p.tag / 16 = 8 + c.val)) (s.inbox pcieEp) = some (p, rest))) ∧
    (∃ (s : State) (u : State) (t : State) (addr : BitVec 7) (op : BitVec 2) (peek : Bool), (u = ((s.setR Reg.PCI_DBG_REQ_ADDR 0 addr.toNat).setR Reg.PCI_DBG_REQ_OP 0 op.toNat).setR Reg.PCI_DBG_REQ_PEEK 0 (bit peek)) ∧
      (t = (if s.getR Reg.DBG_SESS_STATE 0 = 0 then u.sessionOpen 2 else u))) ∧
    (∃ (req : BitVec 16), (isMgmt req.toNat = false)) ∧
    (∃ (req : BitVec 16), (isMgmt req.toNat = true)) ∧
    (State.reset.sourceOk true 0 64 = true ∧ isMgmt 0x5A0 = true) ∧
    (∃ (s : State) (part : Bool) (req : BitVec 16), (isMgmt req.toNat = true) ∧
      (s.getR Reg.DWN_STAT_STATE 0 ≠ 1 ∧ s.getR Reg.BOOT_STAGE 0 = 0) ∧
      (part = true ∨ s.quiet = true)) ∧
    (State.reset.sourceOk true 0x5000000000 64 = false) ∧
    (∃ (s : State) (req : BitVec 16), (isMgmt req.toNat = true) ∧
      (s.getR Reg.DWN_STAT_STATE 0 ≠ 1 ∧ s.getR Reg.BOOT_STAGE 0 = 0)) ∧
    (∃ (s : State), (s.getR Reg.DWN_STAT_STATE 0 = 1 ∨ s.getR Reg.BOOT_STAGE 0 ≠ 0)) ∧
    (∃ (s : State) (src : Nat), ((∀ o ∈ s.dawn.op, o.src ≠ src))) ∧
    (∃ (s : State) (req : BitVec 16) (o : DawnOp), (isMgmt req.toNat = true) ∧
      (s.dawn.op = some o) ∧
      (o.committed = false)) ∧
    (∃ (s : State) (src : Nat) (o : DawnOp), (s.dawn.op = some o) ∧
      (o.committed = true ∧ o.src = src)) :=
  ⟨⟨State.reset, 0, by decide, by decide⟩,
   by decide,
   ⟨(State.reset.modPcie (fun p => { p with bme := [1] })).setR Reg.PCI_DMA_LEN_BYTES 0 1024, 0, by decide, by decide, by decide, by decide⟩,
   ⟨(State.reset.setR Reg.PCI_DMA_STAT_STATE 0 1).setR Reg.PCI_DMA_LEN_BYTES 0 1024, 0, by decide⟩,
   ⟨(State.reset.setR Reg.PCI_DMA_STAT_STATE 0 1).modDma 0 (fun k => { k with out := [0] }), 0, 0, 0, by decide, by decide, by first | decide | rfl, by decide⟩,
   ⟨State.reset, 0, 0, by decide⟩,
   ⟨(State.reset.setR Reg.PCI_DMA_STAT_STATE 0 1).modDma 0 (fun k => { k with out := [0] }), 0, 0, 0, by decide, by first | decide | rfl⟩,
   ⟨State.reset, 0, by decide⟩,
   ⟨((State.reset.setR Reg.PCI_DMA_STAT_STATE 0 1).modDma 0 (fun k => { k with out := [0] })).putInbox pcieEp [{ pkt0 with dest := pcieEp, tag := 128 }], 0, 0, 0, { pkt0 with dest := pcieEp, tag := 128 }, [], by decide, by first | decide | rfl, by first | decide | rfl⟩,
   ⟨State.reset, _, _, 0x11, 1, false, rfl, rfl⟩,
   ⟨5, by decide⟩,
   ⟨0x2D20, by decide⟩,
   by decide,
   ⟨State.reset.setR Reg.BOOT_STAGE 0 0, true, 0x2D20, by decide, by decide, by decide⟩,
   by decide,
   ⟨State.reset.setR Reg.BOOT_STAGE 0 0, 0x2D20, by decide, by decide⟩,
   ⟨State.reset.setR Reg.DWN_STAT_STATE 0 1, by decide⟩,
   ⟨State.reset, 1, by decide⟩,
   ⟨State.reset.modDawn (fun d => { d with op := some ⟨true, 1, none, false⟩ }), 0x2D20, ⟨true, 1, none, false⟩, by decide, by first | decide | rfl, by decide⟩,
   ⟨State.reset.modDawn (fun d => { d with op := some ⟨true, 1, none, true⟩ }), 1, ⟨true, 1, none, true⟩, by first | decide | rfl, by decide⟩⟩

/-- States and operands that meet the hypotheses of each clause of DawnCommandsComplete. -/
theorem witness_DawnCommandsComplete :
    (∃ (s : State), (s.inReset = false) ∧
      (s.getR Reg.BOOT_STAGE 0 = 1)) ∧
    (∃ (s : State), (s.getR Reg.BOOT_STAGE 0 = 2)) ∧
    (∃ (s : State), (s.getR Reg.BOOT_STAGE 0 ≠ 2) ∧
      (s.getR Reg.BOOT_STAGE 0 ≠ 1 ∨ s.inReset = true)) ∧
    (∃ (s : State) (t : State) (bad : List (Nat × Nat × Nat)) (src : Nat), (s.inReset = false ∧ s.getR Reg.BOOT_STAGE 0 = 1) ∧
      (src = s.getR Reg.DWN_BOOT_BOOTSRC 0 ∧ src < 2) ∧
      (t = (((((s.linkTest bad).setR Reg.SVP_FLASH 0 (1 + src)).flashDoes (flashSteps src true)).setR Reg.DWN_BOOT_QUAD_FB 0 1).setR Reg.SVP_FLASH 0 3))) ∧
    (∃ (src : Nat), (src < 2)) ∧
    (∃ (s : State), (s.reading = true) ∧
      (s.getR Reg.DWN_STAT_SRC 0 = 0)) ∧
    (∃ (s : State), (s.reading = false ∨ s.getR Reg.DWN_STAT_SRC 0 ≠ 0)) ∧
    (State.reset.dawn.op = none ∧ State.reset.reading = false ∧ State.reset.getR Reg.DWN_STAT_PHASE 0 ≠ 3) ∧
    (∃ (s : State) (o : DawnOp) (f : Stream), (s.reading = true) ∧
      (s.dawn.op = some o ∧ o.src ≠ 0 ∧ o.committed = false) ∧
      (f.legacy = false)) ∧
    (∃ (s : State) (o : DawnOp) (f : Stream), (s.getR Reg.DWN_STAT_PHASE 0 = 3) ∧
      (s.dawn.op = some o ∧ o.stream = some f ∧ o.committed = false)) ∧
    (∃ (s : State) (o : DawnOp) (f : Stream), (s.getR Reg.DWN_STAT_PHASE 0 = 5) ∧
      (s.dawn.op = some o ∧ o.stream = some f ∧ o.committed = true) ∧
      (o.part = true ∧ f.regs = [] ∧ o.src ≠ 0) ∧
      ((maskOf f).all (fun rg => (s.region rg).causes.contains 2) = true)) ∧
    (before 0x200000 (plusTicks 0 1048576) = false ∧ before 0 (plusTicks 0 1048576) = true) ∧
    (∃ (s : State) (req : BitVec 16) (h : HeldRel), (isMgmt req.toNat = true) ∧
      (s.dawn.held = some h)) ∧
    (∃ (s : State), (s.dawn.held = none)) ∧
    (∃ (s : State) (n : Nat) (r : Release), (s.rel n = some r ∧ r.restoring = 1)) ∧
    (State.reset.fab.rels.any (fun e => decide (e.2.restoring = 1)) = false) ∧
    (State.reset.rel 0 = none ∧ (State.reset.putRel 0 ⟨[3], 5, 0, 0, false, 0, 1⟩).rel 0 = some ⟨[3], 5, 0, 0, false, 0, 1⟩) ∧
    (∃ (s : State) (n : Nat) (r : Release), (s.rel n = some r ∧ r.done = 0 ∧ r.restoring = 0) ∧
      (s.dueAt (relTime r) = true)) ∧
    (∃ (s : State) (n : Nat) (r : Release), (s.rel n = some r ∧ r.done = 1) ∧
      (s.dueAt (relTime r) = true)) ∧
    (∃ (s : State) (n : Nat) (r : Release), (s.rel n = some r ∧ r.done = 2) ∧
      (s.dueAt (relTime r) = true)) ∧
    (State.reset.regionClocked 3 = false ∧ ((State.reset.setR Reg.FAB_RGN_CLK_SEL 3 0).setR Reg.FAB_CG_STAT_LOCK 0 1).regionClocked 3 = true) ∧
    ((State.reset.setR Reg.FAB_RELP 3 2).getR Reg.FAB_RELP 3 = 2 ∧ State.reset.getR Reg.FAB_RELP 3 = 0) ∧
    ((State.reset.region 0).causes.contains 5 = true ∧ (State.reset.region 0).causes.contains 2 = false) ∧
    (∃ (s : State) (t : State) (fd : Fin 8) (r : Fin 384) (index : BitVec 8) (a : Nat), (s.flag Reg.RBK_ON 0 = true ∧ s.flag Reg.DWN_RBFD_CTL_EN fd = true) ∧
      (t = (if r.val = 383 ∧ index = 255 then s.wrapAdd Reg.DWN_RBFD_SCANS_COUNT fd 1 else s)) ∧
      (a = frameAddr (rgn fd r) index.toNat)) ∧
    (∃ (s : State) (rg : Nat), (s.getR Reg.FAB_RGN_RBK_POLICY rg = 0)) ∧
    (∃ (s : State) (fd : Fin 8), (s.flag Reg.RBK_ON 0 = false ∨ s.flag Reg.DWN_RBFD_CTL_EN fd = false)) ∧
    ((State.reset.setR Reg.RELOAD_HASH 0 1).flag Reg.RELOAD_HASH 0 = true ∧ isMgmt 0x2D20 = true ∧ isMgmt 0x2D30 = false) :=
  ⟨⟨State.reset.setR Reg.BOOT_STAGE 0 1, by decide, by decide⟩,
   ⟨State.reset.setR Reg.BOOT_STAGE 0 2, by decide⟩,
   ⟨State.reset.setR Reg.BOOT_STAGE 0 0, by decide, by decide⟩,
   ⟨State.reset.setR Reg.BOOT_STAGE 0 1, _, [], 0, by decide, by decide, rfl⟩,
   ⟨0, by decide⟩,
   ⟨(State.reset.setR Reg.DWN_STAT_STATE 0 1).setR Reg.DWN_STAT_PHASE 0 2, by decide, by decide⟩,
   ⟨State.reset, by decide⟩,
   by decide,
   ⟨((State.reset.setR Reg.DWN_STAT_STATE 0 1).setR Reg.DWN_STAT_PHASE 0 2).modDawn (fun d => { d with op := some ⟨false, 1, none, false⟩ }), ⟨false, 1, none, false⟩, stream0, by decide, by first | decide | rfl, by decide⟩,
   ⟨(State.reset.setR Reg.DWN_STAT_PHASE 0 3).modDawn (fun d => { d with op := some ⟨false, 1, some stream0, false⟩ }), ⟨false, 1, some stream0, false⟩, stream0, by decide, by first | decide | rfl⟩,
   ⟨(State.reset.setR Reg.DWN_STAT_PHASE 0 5).modDawn (fun d => { d with op := some ⟨true, 1, some stream0, true⟩ }), ⟨true, 1, some stream0, true⟩, stream0, by decide, by first | decide | rfl, by decide, by decide⟩,
   by decide,
   ⟨(State.reset.setR Reg.TBS_SYNC_CTL_ROLE 0 2).modDawn (fun d => { d with held := some ⟨[3], 2, false⟩ }), 0x2D20, ⟨[3], 2, false⟩, by decide, by first | decide | rfl⟩,
   ⟨State.reset, by decide⟩,
   ⟨State.reset.putRel 0 ⟨[3], 0, 0, 0, false, 1, 1⟩, 0, ⟨[3], 0, 0, 0, false, 1, 1⟩, by first | decide | rfl⟩,
   by decide,
   by decide,
   ⟨State.reset.putRel 0 ⟨[3], 0, 0, 0, false, 0, 1⟩, 0, ⟨[3], 0, 0, 0, false, 0, 1⟩, by first | decide | rfl, by decide⟩,
   ⟨State.reset.putRel 0 ⟨[3], 0, 0, 1, false, 0, 1⟩, 0, ⟨[3], 0, 0, 1, false, 0, 1⟩, by first | decide | rfl, by decide⟩,
   ⟨State.reset.putRel 0 ⟨[3], 0, 0, 2, true, 0, 5⟩, 0, ⟨[3], 0, 0, 2, true, 0, 5⟩, by first | decide | rfl, by decide⟩,
   by decide,
   by decide,
   by decide,
   ⟨((State.reset.setR Reg.RBK_ON 0 1).setR Reg.DWN_RBFD_CTL_EN 0 1).modRegion 0 (fun r => { r with causes := [] }), _, 0, 0, 0, 4, by decide, rfl, by decide⟩,
   ⟨State.reset.setR Reg.FAB_RGN_RBK_POLICY 3 0, 3, by decide⟩,
   ⟨State.reset, 0, by decide⟩,
   by decide⟩

/-- States and operands that meet the hypotheses of each clause of SageCommandsComplete. -/
theorem witness_SageCommandsComplete :
    (isMgmt 0x5A0 = true ∧ isMgmt 0x2D30 = false ∧ (State.reset.setR Reg.SGE_NONCE_STAT_BUSY 0 1).flag Reg.SGE_NONCE_STAT_BUSY 0 = true) ∧
    (∃ (s : State) (req : BitVec 16), (isMgmt req.toNat = true) ∧
      (s.getR Reg.SGE_CMD_STAT_STATE 0 ≠ 1 ∨ s.flag Reg.SGE_GOING 0 = true)) ∧
    (∃ (s : State) (req : BitVec 16), (isMgmt req.toNat = false ∨ (s.getR Reg.SGE_CMD_STAT_STATE 0 = 1 ∧ s.flag Reg.SGE_GOING 0 = false))) ∧
    (∃ (s : State), (s.sage.cmd = none)) ∧
    (∃ (s : State) (t : State) (c : SageCmd), (s.sage.cmd = some c) ∧
      (t = (if c.facts.read && c.facts.formed && decide (c.op ≠ 3) then s.keyMismatch c.facts.keysel c.facts.hashed else s))) ∧
    (∃ (s : State) (c : SageCmd), (s.sage.cmd = some c) ∧
      (s.cmdCode c ≠ 0)) ∧
    (∃ (s : State) (c : SageCmd), (s.sage.cmd = some c) ∧
      (s.cmdCode c = 0) ∧
      (1 ≤ c.op ∧ c.op ≤ 8) ∧
      ((c.op = 1 → s.sageRefused = false))) ∧
    (∃ (s : State) (c : SageCmd), (s.sage.cmd = some c) ∧
      (s.cmdCode c = 0) ∧
      (c.op = 4)) ∧
    (∃ (s : State) (req : BitVec 16), (isMgmt req.toNat = true) ∧
      (s.sage.cmd = none)) ∧
    (∃ (req : BitVec 16), (isMgmt req.toNat = false)) ∧
    (∃ (s : State) (c : SageCmd), (s.sage.cmd = some c)) :=
  ⟨by decide,
   ⟨State.reset, 0x2D20, by decide, by decide⟩,
   ⟨State.reset, 0, by decide⟩,
   ⟨State.reset, by decide⟩,
   ⟨State.reset.modSage (fun g => { g with cmd := some ⟨2, ⟨false, true, true, true, 15, true, true, true, 0, false⟩⟩ }), _, ⟨2, ⟨false, true, true, true, 15, true, true, true, 0, false⟩⟩, rfl, rfl⟩,
   ⟨State.reset.modSage (fun g => { g with cmd := some ⟨2, ⟨false, true, true, true, 15, true, true, true, 0, false⟩⟩ }), ⟨2, ⟨false, true, true, true, 15, true, true, true, 0, false⟩⟩, by first | decide | rfl, by decide⟩,
   ⟨(State.reset.setR Reg.SGE_NONCE_STAT_VALID 0 1).modSage (fun g => { g with keys := true, cmd := some ⟨2, ⟨true, true, true, true, 15, true, true, true, 0, false⟩⟩ }), ⟨2, ⟨true, true, true, true, 15, true, true, true, 0, false⟩⟩, by first | decide | rfl, by decide, by decide, by decide⟩,
   ⟨(((State.reset.setR Reg.SGE_NONCE_STAT_VALID 0 1).setR Reg.SGE_LCS_STATE 0 2).setR Reg.SGE_LCS_VALID 0 1).modSage (fun g => { g with store := true, cmd := some ⟨4, ⟨true, true, true, true, 0, true, true, true, 1, false⟩⟩ }), ⟨4, ⟨true, true, true, true, 0, true, true, true, 1, false⟩⟩, by first | decide | rfl, by decide, by decide⟩,
   ⟨State.reset, 0x2D20, by decide, by decide⟩,
   ⟨5, by decide⟩,
   ⟨State.reset.modSage (fun g => { g with cmd := some ⟨2, ⟨false, true, true, true, 15, true, true, true, 0, false⟩⟩ }), ⟨2, ⟨false, true, true, true, 15, true, true, true, 0, false⟩⟩, by first | decide | rfl⟩⟩

/-- States and operands that meet the hypotheses of each clause of SpdmCommandsComplete. -/
theorem witness_SpdmCommandsComplete :
    (∃ (s : State), (s.sage.spdm ≠ 3)) ∧
    (∃ (s : State), (s.sage.spdm = 3)) ∧
    (∃ (s : State) (k : State), (s.sage.spdm = 3) ∧
      (k = s.modSage (fun g => { g with kept := true }))) ∧
    (∃ (s : State) (handle : BitVec 8) (want : Nat), (s.sage.spdm = 3) ∧
      (want = (match s.sage.sending with | some (h, n) => if h = handle.toNat then n else 0 | none => 0))) ∧
    ((State.reset.modSage (fun g => { g with large := some (0, 1) })).sage.large = some (0, 1)) ∧
    (∃ (s : State), (s.sage.spdm = 3)) ∧
    (∃ (s : State) (h : Nat), (s.sage.spdm = 3) ∧
      (h = ((s.sage.large.map (fun x => x.1)).getD 0 + 1) % 256)) :=
  ⟨⟨State.reset, by decide⟩,
   ⟨State.reset.modSage (fun g => { g with spdm := 3 }), by decide⟩,
   ⟨State.reset.modSage (fun g => { g with spdm := 3 }), _, by decide, rfl⟩,
   ⟨State.reset.modSage (fun g => { g with spdm := 3 }), 0, 0, by decide, by decide⟩,
   by decide,
   ⟨State.reset.modSage (fun g => { g with spdm := 3 }), by decide⟩,
   ⟨State.reset.modSage (fun g => { g with spdm := 3, chains := true }), 1, by decide, by decide⟩⟩

/-- States and operands that meet the hypotheses of each clause of InterruptPatchAndWatchdogCommandsComplete. -/
theorem witness_InterruptPatchAndWatchdogCommandsComplete :
    (∃ (s : State) (ctx : Fin 8) (id : BitVec 32), (id.toNat < 1024 ∧ s.flag Reg.PLIC_BUSY id.toNat = true) ∧
      (s.plicEnabled ctx id.toNat = true)) ∧
    (∃ (s : State) (ctx : Fin 8) (id : BitVec 32), (1024 ≤ id.toNat ∨ s.flag Reg.PLIC_BUSY id.toNat = false ∨ s.plicEnabled ctx id.toNat = false)) ∧
    (∃ (s : State) (dusk : Bool) (req : BitVec 16) (q : Nat), (q = (if dusk then 3 else 2)) ∧
      (s.patchWriter dusk req.toNat = true)) ∧
    (∃ (s : State) (dusk : Bool) (req : BitVec 16) (q : Nat) (f : Field), (q = (if dusk then 3 else 2)) ∧
      (f = (if dusk then Reg.CTL_DPATCH_EN else Reg.CTL_SPATCH_EN)) ∧
      (s.patchWriter dusk req.toNat = true)) ∧
    (State.reset.patchWriter false 0 = false) ∧
    (State.reset.wdtWriter 0 0x2D20 = true ∧ State.reset.wdtWriter 0 0 = false) ∧
    (∃ (s : State) (w : Fin 6), (s.flag Reg.CTL_WDT_CFG_EN w = true ∧ s.flag Reg.CTL_WDT_STAT_PAUSED w = false ∧ s.flag Reg.CTL_WDT_STAT_STAGE w = false) ∧
      (s.wdtCount w = 0)) ∧
    (∃ (s : State) (w : Fin 6), (s.flag Reg.CTL_WDT_CFG_EN w = true ∧ s.flag Reg.CTL_WDT_STAT_PAUSED w = false ∧ s.flag Reg.CTL_WDT_STAT_STAGE w = true) ∧
      (s.wdtCount w = 0)) ∧
    (State.reset.ctlWriter 0x2D20 = true ∧ State.reset.ctlWriter 0 = false) ∧
    (∃ (s : State) (n : Nat), (n < 6) ∧
      (∀ k < 32, s.getR Reg.SPD_CPY_STAT_STATE k ≠ 1) ∧
      (∀ c < 8, s.getR Reg.PCI_DMA_STAT_STATE c ≠ 1)) :=
  ⟨⟨(State.reset.setR Reg.PLIC_BUSY 5 1).setR Reg.PLIC_ENABLE 0 32, 0, 5, by decide, by decide⟩,
   ⟨State.reset, 0, 5, by decide⟩,
   ⟨State.reset, false, 0x2D30, 2, by first | decide | rfl, by decide⟩,
   ⟨State.reset, false, 0x2D30, 2, Reg.CTL_SPATCH_EN, by decide, rfl, by decide⟩,
   by decide,
   by decide,
   ⟨(State.reset.setR Reg.CTL_WDT_CFG_EN 0 1).setR Reg.CTL_WDT_STAT_COUNT 0 0, 0, by decide, by decide⟩,
   ⟨((State.reset.setR Reg.CTL_WDT_CFG_EN 0 1).setR Reg.CTL_WDT_STAT_STAGE 0 1).setR Reg.CTL_WDT_STAT_COUNT 0 0, 0, by decide, by decide⟩,
   by decide,
   ⟨State.reset, 0, by decide, by decide, by decide⟩⟩

/-- States and operands that meet the hypotheses of each clause of DebugModuleCommandsComplete. -/
theorem witness_DebugModuleCommandsComplete :
    (∃ (s : State), (s.level = 2)) ∧
    (∃ (s : State), (s.level ≠ 2)) ∧
    (∃ (s : State) (n : Fin 6), (s.flag Reg.HART_RUN n = true ∧ s.flag Reg.HART_HALT n = false)) ∧
    (∃ (s : State) (n : Fin 6), (s.flag Reg.HART_RUN n = false ∨ s.flag Reg.HART_HALT n = true)) ∧
    (∃ (s : State) (t : State) (cmd : BitVec 32) (n : Nat), (n = s.dbg.hartsel) ∧
      (t = s.modDbg (fun d => { d with command := cmd.toNat }))) ∧
    (∃ (s : State) (r : Nat) (write : Bool) (cmd : BitVec 32), (s.level = 2 ∧ s.dbg.cmderr = 0 ∧ s.dbg.hartsel < 4) ∧
      (s.flag Reg.HART_RUN s.dbg.hartsel = true ∧ s.flag Reg.HART_HALT s.dbg.hartsel = true) ∧
      (0x1000 < r ∧ r < 0x1040) ∧
      (cmd.toNat = 3 * 2 ^ 20 + 2 ^ 17 + bit write * 2 ^ 16 + r)) ∧
    (State.reset.level = 2 ∧ (State.reset.setR Reg.SGE_LCS_STATE 0 1).level = 0 ∧ ((State.reset.setR Reg.SGE_LCS_STATE 0 1).setR Reg.DBG_GRANTED 0 1).level = 1) ∧
    ((State.reset.modDbg (fun d => { d with sbBusy := some (false, 0, 4) })).dbg.sbBusy ≠ none) ∧
    (∃ (s : State) (u : State) (addr : BitVec 48) (size : Fin 4) (write : Bool) (data : BitVec 64), (u = s.modDbg (fun d => { d with sbaddr := addr.toNat, sbaccess := size.val, sbdata := if write then data.toNat else d.sbdata }))) ∧
    (∃ (s : State) (n : Nat), (n = 2 ^ s.dbg.sbaccess ∧ s.dbg.sbaccess ≤ 3)) ∧
    (∃ (s : State), (s.getR Reg.DBG_SESS_STATE 0 ≠ 0) ∧
      ((∀ n < 6, s.flag Reg.HART_HALT n = false))) ∧
    ((State.reset.setR Reg.DBG_SESS_STATE 0 1).authOpen = true ∧ State.reset.authOpen = false) ∧
    (∃ (s : State), (s.authOpen = true)) ∧
    (State.reset.authOpen = false ∧ State.reset.dbg.verifying = false) ∧
    (∃ (s : State) (t : State) (g : GrantFacts), (s.dbg.verifying = true) ∧
      (t = (s.modDbg (fun d => { d with nonce := none })).keyMismatch g.keysel g.hashed)) ∧
    (∃ (s : State), (s.dbg.verifying = true)) :=
  ⟨⟨State.reset.setR Reg.DBG_GRANTED 0 2, by decide⟩,
   ⟨State.reset.setR Reg.SGE_LCS_STATE 0 1, by decide⟩,
   ⟨State.reset.setR Reg.HART_RUN 0 1, 0, by decide⟩,
   ⟨State.reset, 0, by decide⟩,
   ⟨State.reset, _, 0x01000000, 0, by decide, rfl⟩,
   ⟨(State.reset.setR Reg.HART_RUN 0 1).setR Reg.HART_HALT 0 1, 0x1001, true, 0x331001, by decide, by decide, by decide, by decide⟩,
   by decide,
   by decide,
   ⟨State.reset, _, 4, 2, true, 7, rfl⟩,
   ⟨State.reset, 4, by decide⟩,
   ⟨State.reset.setR Reg.DBG_SESS_STATE 0 1, by decide, by decide⟩,
   by decide,
   ⟨State.reset.setR Reg.DBG_SESS_STATE 0 1, by decide⟩,
   by decide,
   ⟨State.reset.modDbg (fun d => { d with verifying := true }), _, ⟨true, true, true, 15, true, true, true, 2⟩, rfl, rfl⟩,
   ⟨State.reset.modDbg (fun d => { d with verifying := true }), by decide⟩⟩

/-- States and operands that meet the hypotheses of each clause of DrwCommandsComplete. -/
theorem witness_DrwCommandsComplete :
    (∃ (s : State), (s.dbg.frame = false)) ∧
    (State.reset.dbg.frame = false) ∧
    (∃ (s : State), (s.dbg.frame = true)) ∧
    (∃ (s : State), (s.dbg.frame = true)) ∧
    (∃ (s : State), (s.dbg.frame = true)) ∧
    (State.reset.dmiOk 0x10 0 false = true ∧ (State.reset.setR Reg.SGE_LCS_STATE 0 1).dmiOk 0x10 0 false = false ∧ (State.reset.setR Reg.SGE_LCS_STATE 0 1).dmiOk 0x30 0 true = true) ∧
    (∃ (s : State), (s.dbg.frame = true)) ∧
    (∃ (ack : Nat), (ack < 4)) :=
  ⟨⟨State.reset, by decide⟩,
   by decide,
   ⟨State.reset.modDbg (fun d => { d with frame := true }), by decide⟩,
   ⟨State.reset.modDbg (fun d => { d with frame := true }), by decide⟩,
   ⟨State.reset.modDbg (fun d => { d with frame := true }), by decide⟩,
   by decide,
   ⟨State.reset.modDbg (fun d => { d with frame := true }), by decide⟩,
   ⟨0, by decide⟩⟩

/-- States and operands that meet the hypotheses of each clause of PowerCommandsComplete. -/
theorem witness_PowerCommandsComplete :
    (State.reset.dskWriter 0x2D34 = true ∧ State.reset.dskWriter 0 = false) ∧
    (∃ (s : State) (req : BitVec 16), (s.dskWriter req.toNat = true) ∧
      (s.getR Reg.DSK_PWR_STAT_STATE 0 ≠ 1)) ∧
    (∃ (s : State) (req : BitVec 16), (s.dskWriter req.toNat = true) ∧
      (s.getR Reg.DSK_PWR_STAT_STATE 0 ≠ 1)) ∧
    (State.reset.offReason 40 = 0 ∧ State.reset.offReason 127 = 1) ∧
    (∃ (s : State) (u : State) (d : Fin 128) (req : BitVec 16), (s.dskWriter req.toNat = true) ∧
      (s.getR Reg.DSK_PWR_STAT_STATE 0 ≠ 1) ∧
      (u = ((s.respond 0 0).setR Reg.DSK_PWR_CTL_DOM 0 d).slotStart d 1)) ∧
    (∃ (s : State) (req : BitVec 16), (s.dskWriter req.toNat = true) ∧
      (s.slotOn (s.getR Reg.DSK_PWR_STAT_DOM 0) 1 = false)) ∧
    (∃ (s : State) (d : Nat) (req : BitVec 16), (s.dskWriter req.toNat = true) ∧
      (s.getR Reg.DSK_PWR_STAT_DOM 0 = d) ∧
      (s.slotOn d 1 = true)) ∧
    (State.reset.pstate 40 ≠ 1) ∧
    (∃ (s : State) (d : Fin 128), (s.pstate d = 1 ∧ s.flag Reg.PW_COMMIT d = true)) ∧
    (∃ (s : State) (d : Fin 128), (s.wakeReady d = true)) ∧
    (∃ (s : State) (d : Fin 128), (s.wakeReady d = false)) ∧
    ((State.reset.setR Reg.POR_HELD 0 0).flag Reg.POR_HELD 0 = false ∧ (State.reset.setR Reg.POR_HELD 0 1).flag Reg.POR_HELD 0 = true) ∧
    (∃ (s : State) (d : Fin 128), (s.wakeReady d = true) ∧
      (36 ≤ d.val ∧ d.val < 52 ∧ s.flag Reg.PW_FPEND d = false)) ∧
    (∃ (s : State) (req : BitVec 16), (s.dskWriter req.toNat = true)) ∧
    (∃ (s : State) (u : State) (req : BitVec 16), (s.dskWriter req.toNat = true) ∧
      (u = (s.respond 0 0).setR Reg.KEY_STAGE 1 0)) ∧
    (∃ (s : State) (req : BitVec 16), (s.dskWriter req.toNat = false)) :=
  ⟨by decide,
   ⟨State.reset.setR Reg.DSK_PSTATE 40 2, 0x2D34, by decide, by decide⟩,
   ⟨State.reset, 0x2D34, by decide, by decide⟩,
   by decide,
   ⟨State.reset, ((State.reset.respond 0 0).setR Reg.DSK_PWR_CTL_DOM 0 40).slotStart 40 1, 40, 0x2D34, by decide, by decide, rfl⟩,
   ⟨State.reset, 0x2D34, by decide, by decide⟩,
   ⟨(((State.reset.setR Reg.DSK_PWR_STAT_STATE 0 1).setR Reg.DSK_PWR_STAT_DOM 0 40).setR Reg.PW_SLOT 0 1).setR Reg.DSK_PSTATE 40 1, 40, 0x2D34, by decide, by decide, by decide⟩,
   by decide,
   ⟨(State.reset.setR Reg.DSK_PSTATE 40 1).setR Reg.PW_COMMIT 40 1, 40, by decide⟩,
   ⟨State.reset.setR Reg.DSK_PSTATE 40 3, 40, by decide⟩,
   ⟨State.reset, 40, by decide⟩,
   by decide,
   ⟨State.reset.setR Reg.DSK_PSTATE 40 3, 40, by decide, by decide⟩,
   ⟨State.reset, 0x2D34, by decide⟩,
   ⟨State.reset, (State.reset.respond 0 0).setR Reg.KEY_STAGE 1 0, 0x2D34, by decide, rfl⟩,
   ⟨State.reset, 0, by decide⟩⟩

/-- States and operands that meet the hypotheses of each clause of ThermalCommandsComplete. -/
theorem witness_ThermalCommandsComplete :
    (∃ (s : State) (t : State) (x : List Int), (t = (List.range 64).foldl (fun u i => u.roDrift i) (s.sensorPass x))) ∧
    (∃ (s : State) (d : Nat), (d < 12 ∧ nbit (s.getR Reg.DSK_ZSTAT_WARN 0) d = false) ∧
      ((16 * s.thrWarn : Nat) ≤ s.gov d ∧ s.gov d < (16 * s.thrCrit : Nat)) ∧
      (s.zone d ≤ 1600)) ∧
    (∀ d < 12, State.reset.zone d < (16 * State.reset.thrWarn : Nat)) ∧
    (∃ (s : State) (req : BitVec 16), (s.dskWriter req.toNat = true)) ∧
    (∃ (s : State) (d : Fin 128), (throttleUnit d = true) ∧
      (s.getR Reg.DSK_THRL d ≠ s.thrWanted d)) ∧
    (∃ (s : State) (d : Fin 128), (throttleUnit d = false ∨ s.getR Reg.DSK_THRL d = s.thrWanted d)) ∧
    (((List.range 16).map (fun i => ((State.reset.setR Reg.DSK_ADC_CFG_EN 0 8).getR Reg.ADC_NEXT 0 + i) % 16)).find? (fun j => nbit ((State.reset.setR Reg.DSK_ADC_CFG_EN 0 8).getR Reg.DSK_ADC_CFG_EN 0) j) = some 3) ∧
    (∃ (s : State), (s.flag Reg.DSK_WAKE_CTL_EN 0 = true) ∧
      (s.reached (s.getR Reg.DSK_WAKE_AT_AT 0) = true ∧ s.flag Reg.T_UNLOCK 0 = false)) ∧
    (∃ (s : State), (s.flag Reg.DSK_WAKE_CTL_EN 0 = false ∨ s.reached (s.getR Reg.DSK_WAKE_AT_AT 0) = false ∨ s.flag Reg.T_UNLOCK 0 = true)) :=
  ⟨⟨State.reset, _, [], rfl⟩,
   ⟨State.reset.setR Reg.DSK_ZTEMP_GOV 0 1600, 0, by decide, by decide, by decide⟩,
   by decide,
   ⟨State.reset.setR Reg.DSK_ZSTAT_THERM_STOP 0 1, 0x2D34, by decide⟩,
   ⟨State.reset.setR Reg.DSK_THRL_SW 100 2, 100, by decide, by decide +kernel⟩,
   ⟨State.reset, 127, by decide⟩,
   by decide,
   ⟨State.reset.setR Reg.DSK_WAKE_CTL_EN 0 1, by decide, by decide⟩,
   ⟨State.reset, by decide⟩⟩

/-- States and operands that meet the hypotheses of each clause of DieLinkAndMidnightCommandsComplete. -/
theorem witness_DieLinkAndMidnightCommandsComplete :
    (State.reset.dlkThresh 0 = 4) ∧
    (∃ (s : State) (bd : Fin 4) (p : Fin 4) (group : Nat) (wire : Nat) (page : Nat), (page = bd.val * 8 + p.val) ∧
      (groupOk page group = true ∧ wireOk page wire = true) ∧
      (s.groupActive page group = true)) ∧
    (∃ (s : State) (bd : Fin 4) (p : Fin 4) (group : Nat) (page : Nat), (page = bd.val * 8 + p.val) ∧
      (groupOk page group = false ∨ s.groupActive page group = false)) ∧
    (∃ (bd : Fin 4) (p : Fin 4) (wire : Nat), (wireOk (bd.val * 8 + p.val) wire = false)) ∧
    (∃ (s : State) (page : Nat) (i : Nat), (Map.find s.dlk.pend (grpIx page i) = none)) ∧
    (∃ (s : State) (bd : Fin 4) (p : Fin 4) (group : Nat) (page : Nat), (page = bd.val * 8 + p.val) ∧
      (groupOk page group = true ∧ s.groupActive page group = true)) ∧
    (∃ (s : State) (bd : Fin 4) (p : Fin 4) (group : Nat) (page : Nat) (wire : Nat) (t : Nat), (page = bd.val * 8 + p.val) ∧
      (Map.find s.dlk.pend (grpIx page group) = some (wire, t) ∧ t + 128 ≤ s.ncyc) ∧
      (groupOk page group = true ∧ s.groupActive page group = true ∧ wire < 64)) ∧
    (∃ (s : State) (bd : Fin 4) (p : Fin 4) (group : Nat) (page : Nat) (q : Nat) (t : Nat), (page = bd.val * 8 + p.val) ∧
      (Map.find s.dlk.folds (linkNo (linkOf page group)) = some (q, t) ∧ t ≤ s.ncyc) ∧
      (groupOk page group = true ∧ s.linkState (linkOf page group) = 0 ∧ s.ncyc % 2 = 0)) ∧
    (Map.find State.reset.dlk.pend (grpIx 0 0) = none ∧ Map.find (State.reset.modDlk (fun d => { d with pend := [(0, 5, 7)] })).dlk.pend (grpIx 0 0) = some (5, 7)) ∧
    (Map.find (State.reset.modDlk (fun d => { d with folds := [(0, 1, 9)] })).dlk.folds (linkNo (linkOf 0 0)) = some (1, 9) ∧ State.reset.ncyc < 9) ∧
    (∃ (bd : Fin 4) (p : Fin 4) (page : Nat), (page = bd.val * 8 + p.val)) ∧
    (∃ (s : State) (bd : Fin 4) (cls : Fin 6) (index : Nat), (nbit (s.getR Reg.MID_AUTO_CLASSES bd) cls = true) ∧
      (s.midEligible bd cls index = true)) ∧
    (∃ (s : State) (bd : Fin 4) (cls : Fin 6) (index : Nat), (nbit (s.getR Reg.MID_AUTO_CLASSES bd) cls = false ∨ s.midEligible bd cls index = false)) ∧
    (∃ (s : State) (bd : Fin 4) (req : BitVec 16), (isMgmt req.toNat = true) ∧
      (s.getR Reg.MID_REQ_STAT_STATE bd = 1)) ∧
    (∃ (s : State) (bd : Fin 4) (req : BitVec 16), (isMgmt req.toNat = true) ∧
      (s.getR Reg.MID_REQ_STAT_STATE bd ≠ 1)) ∧
    ((State.reset.setR Reg.MID_REQ_STAT_STATE 0 1).midTaken 0 = false) ∧
    (∃ (s : State) (bd : Fin 4) (cls : Nat) (index : Nat), (cls = s.getR Reg.MID_REQ_UNIT_CLASS bd ∧ index = s.getR Reg.MID_REQ_UNIT_INDEX bd) ∧
      (s.getR Reg.MID_REQ_STAT_STATE bd = 1 ∧ s.midTaken bd = false) ∧
      (s.midEligible bd cls index = false ∧ s.due (s.getR Reg.MID_REQ_DL_T bd) = true)) ∧
    (State.reset.midEligible 0 4 1 = true ∧ State.reset.due 77 = false) ∧
    (∃ (s : State) (bd : Fin 4) (cls : Nat) (index : Nat), (cls = s.getR Reg.MID_REQ_UNIT_CLASS bd ∧ index = s.getR Reg.MID_REQ_UNIT_INDEX bd)) ∧
    (∃ (s : State) (bd : Fin 4) (cls : Nat) (index : Nat), (cls = s.getR Reg.MID_REQ_UNIT_CLASS bd ∧ index = s.getR Reg.MID_REQ_UNIT_INDEX bd) ∧
      (s.getR Reg.MID_REQ_STAT_STATE bd = 1 ∧ s.midTaken bd = false) ∧
      (s.midEligible bd cls index = true)) ∧
    (∃ (s : State) (bd : Fin 4) (cls : Fin 6) (index : Nat), (s.mid.find? (fun t => ofUnit bd cls index t && !t.ended) = none)) ∧
    (∃ (s : State) (t : State) (bd : Fin 4) (cls : Fin 6) (index : Nat) (fail : Bool) (bad : Bool) (detail : BitVec 32) (rows : List Nat) (x : MidTest) (a : State) (b : State), (s.mid.find? (fun t => ofUnit bd cls index t && !t.ended) = some x) ∧
      (bad = (fail || (decide (cls.val = 3) && !rows.isEmpty))) ∧
      (a = (s.modMid (fun l => l.filter (fun y => !ofUnit bd cls index y))).wrapAdd Reg.MID_CLASS_TESTED (bd * 6 + cls) 1) ∧
      (b = (if bad then a.satAdd Reg.MID_CLASS_FAILS (bd * 6 + cls) 1 else a)) ∧
      (t = (if x.req then (b.midEnd bd 2 (bit bad)).setR Reg.MID_REQ_DETAIL_V bd detail.toNat else b)) ∧
      (cls.val ≠ 3 ∨ s.repairsFirst (unitNo 0 bd index) = false)) ∧
    (∃ (s : State) (bd : Fin 4) (cls : Fin 6) (index : Nat) (x : MidTest), (s.mid.find? (fun t => ofUnit bd cls index t && !t.ended) = some x)) ∧
    (∃ (s : State) (bd : Fin 4) (cls : Fin 6) (index : Nat) (u : State), (s.mid.any (fun t => ofUnit bd cls index t && t.ended) = true) ∧
      (u = s.modMid (fun l => l.filter (fun y => !ofUnit bd cls index y)))) ∧
    (∃ (s : State) (bd : Fin 4) (cls : Fin 6) (index : Nat), (s.mid.any (fun t => ofUnit bd cls index t && t.ended) = false)) :=
  ⟨by decide,
   ⟨State.reset, 0, 0, 0, 0, 0, by decide, by decide, by decide⟩,
   ⟨State.reset, 0, 0, 5000, 0, by decide, by decide⟩,
   ⟨0, 0, 200, by decide⟩,
   ⟨State.reset, 0, 0, by decide⟩,
   ⟨State.reset, 0, 0, 0, 0, by decide, by decide⟩,
   ⟨(State.reset.modNoc (fun n => { n with clock := 65536 })).modDlk (fun d => { d with pend := [(0, 5, 0)] }), 0, 0, 0, 0, 5, 0, by decide, by first | decide | rfl, by decide⟩,
   ⟨State.reset.modDlk (fun d => { d with folds := [(0, 1, 0)] }), 0, 0, 0, 0, 1, 0, by decide, by first | decide | rfl, by first | decide | rfl⟩,
   by decide,
   by decide,
   ⟨0, 0, 0, by decide⟩,
   ⟨State.reset, 0, 4, 1, by decide, by decide⟩,
   ⟨State.reset, 0, 4, 100000, by decide⟩,
   ⟨State.reset.setR Reg.MID_REQ_STAT_STATE 0 1, 0, 0x2D20, by decide, by decide⟩,
   ⟨State.reset, 0, 0x2D20, by decide, by decide⟩,
   by decide,
   ⟨(State.reset.setR Reg.MID_REQ_STAT_STATE 0 1).setR Reg.MID_REQ_UNIT_CLASS 0 7, 0, 7, 0, by decide, by decide, by decide⟩,
   by decide,
   ⟨State.reset, 0, 0, 0, by decide⟩,
   ⟨((State.reset.setR Reg.MID_REQ_STAT_STATE 0 1).setR Reg.MID_REQ_UNIT_CLASS 0 4).setR Reg.MID_REQ_UNIT_INDEX 0 1, 0, 4, 1, by decide, by decide, by decide⟩,
   ⟨State.reset, 0, 0, 0, by decide⟩,
   ⟨State.reset.modMid (fun _ => [⟨0, 0, 0, true, false⟩]), _, 0, 0, 0, true, _, 0, [], ⟨0, 0, 0, true, false⟩, _, _, by decide, rfl, rfl, rfl, rfl, by decide⟩,
   ⟨State.reset.modMid (fun _ => [⟨0, 0, 0, true, false⟩]), 0, 0, 0, ⟨0, 0, 0, true, false⟩, by first | decide | rfl⟩,
   ⟨State.reset.modMid (fun _ => [⟨0, 0, 0, true, true⟩]), 0, 0, 0, (State.reset.modMid (fun _ => [⟨0, 0, 0, true, true⟩])).modMid (fun l => l.filter (fun y => !ofUnit (0 : Fin 4) (0 : Fin 6) 0 y)), by decide, rfl⟩,
   ⟨State.reset, 0, 0, 0, by decide⟩⟩
end

section
/-!
PROOF. The command at the front of the queue (R4, notes/assumptions/2), and what a write of a register field reaches (R13, R29).
-/

namespace Sys2Proof.Machine

/-- Settles O1: the queue with a command in front of it is a cons, whose tail the command runs with. -/
theorem stepRunsTheFrontCommand : Obligations.StepRunsTheFrontCommand := by
  unfold Obligations.StepRunsTheFrontCommand
  intro c s
  rfl

/-- Settles O7, by the laws of reading and writing fields: two elements share a word of the store only if both numbers agree. -/
theorem writesReachOneField : Obligations.WritesReachOneField := by
  unfold Obligations.WritesReachOneField
  refine ⟨State.getR_setR_self, fun s f g i j v hkey => ?other, fun f g i j hne => ?keys, fun s f i v => ?frame⟩
  case other => exact Map.get_set_ne _ _ _ _ hkey.symm
  case keys =>
    rcases hne with hid | hix
    · exact Field.key_ne_id f g i j hid.symm
    · exact Field.key_ne_ix f g i j hix.symm
  case frame => exact Leaves.setR f i v (List.mem_singleton_self _) Leaves.refl

end Sys2Proof.Machine
end

section
/-!
PROOF. The access codes of R4 bit by bit. The arithmetic by which the model cuts, merges and clears bits is that of the numbers' bits: what a merge takes
away and what it brings have no bit in common with what stays, so that its sum is a union.
-/

namespace Sys2Proof.Machine

/-- Numbers with no bit in common add without a carry. -/
theorem add_eq_or_of_and_eq_zero {a b : Nat} (h : a &&& b = 0) : a + b = a ||| b := by
  have hsum : a + b < 2 ^ (a + b) := Nat.lt_two_pow_self
  have hand : BitVec.ofNat (a + b) a &&& BitVec.ofNat (a + b) b = 0#(a + b) := by
    rw [← BitVec.ofNat_and, h]
  have hbv := congrArg BitVec.toNat (BitVec.add_eq_or_of_and_eq_zero _ _ hand)
  rwa [← BitVec.ofNat_add, ← BitVec.ofNat_or, BitVec.toNat_ofNat, BitVec.toNat_ofNat, Nat.mod_eq_of_lt hsum,
    Nat.mod_eq_of_lt (Nat.or_lt_two_pow (by omega) (by omega))] at hbv

theorem nbit_eq_testBit (v k : Nat) : nbit v k = v.testBit k := Nat.testBit_eq_decide_div_mod_eq.symm

theorem testBit_without (a b k : Nat) : (without a b).testBit k = (a.testBit k && !b.testBit k) := by
  have hdisj : (a ^^^ (a &&& b)) &&& (a &&& b) = 0 := Nat.eq_of_testBit_eq fun i => by cases ha : a.testBit i <;> simp [ha]
  have hunion : (a ^^^ (a &&& b)) ||| (a &&& b) = a := Nat.eq_of_testBit_eq fun i => by
    cases ha : a.testBit i <;> cases hb : b.testBit i <;> simp [ha, hb]
  have hxor : without a b = a ^^^ (a &&& b) :=
    Nat.sub_eq_of_eq_add ((add_eq_or_of_and_eq_zero hdisj).trans hunion).symm
  cases ha : a.testBit k <;> simp [hxor, ha]

theorem Slot.testBit_brought (x : Slot) (v k : Nat) :
    (x.brought v).testBit k = (decide (x.lo ≤ k) && decide (k < x.lo + x.bits) && v.testBit (k - x.lo + x.src)) := by
  rw [Slot.brought, Nat.testBit_mul_two_pow, Nat.testBit_mod_two_pow, Nat.testBit_div_two_pow]
  by_cases hk : x.lo ≤ k
  · have hlt : k - x.lo < x.bits ↔ k < x.lo + x.bits := by omega
    simp [hk, hlt]
  · simp [hk]

/-- The element's own bits at the place of the part, which a merge takes away. -/
def Slot.held (x : Slot) (old : Nat) : Nat := { x with src := x.lo }.brought old

theorem Slot.testBit_held (x : Slot) (old k : Nat) :
    (x.held old).testBit k = (decide (x.lo ≤ k) && decide (k < x.lo + x.bits) && old.testBit k) := by
  rw [Slot.held, Slot.testBit_brought]
  by_cases hk : x.lo ≤ k
  · simp [Nat.sub_add_cancel hk]
  · simp [hk]

theorem Slot.merged_eq_or (x : Slot) (old v : Nat) : x.merged old v = without old (x.held old) ||| x.brought v := by
  have hheld : old &&& x.held old = x.held old := by
    refine Nat.eq_of_testBit_eq fun k => ?_
    rw [Nat.testBit_and, Slot.testBit_held]
    cases old.testBit k <;> simp
  have hdisj : without old (x.held old) &&& x.brought v = 0 := by
    refine Nat.eq_of_testBit_eq fun k => ?_
    rw [Nat.testBit_and, testBit_without, Slot.testBit_held, Slot.testBit_brought]
    cases old.testBit k <;> cases decide (x.lo ≤ k) <;> cases decide (k < x.lo + x.bits) <;> simp
  rw [← add_eq_or_of_and_eq_zero hdisj, without, hheld]
  rfl

theorem Slot.testBit_merged (x : Slot) (old v k : Nat) :
    (x.merged old v).testBit k = if x.lo ≤ k ∧ k < x.lo + x.bits then v.testBit (k - x.lo + x.src) else old.testBit k := by
  rw [Slot.merged_eq_or, Nat.testBit_or, testBit_without, Slot.testBit_held, Slot.testBit_brought]
  by_cases hk : x.lo ≤ k ∧ k < x.lo + x.bits
  · simp [hk]
  · rw [not_and_or] at hk
    rcases hk with hk | hk <;> simp [hk]

/-- Settles O8: the code's arm of `putSlot`, and for the bits that a merge puts what a write brings beside what the element keeps. -/
theorem accessCodesActBitByBit : Obligations.AccessCodesActBitByBit := by
  unfold Obligations.AccessCodesActBitByBit
  simp only [nbit_eq_testBit]
  refine ⟨fun s x v h => ?rw, fun s x v h => ?w1c, fun s x v h => ?w1s, fun s x v h => ?kept, Slot.testBit_merged,
    Slot.testBit_brought, testBit_without⟩
  case rw => rcases h with h | h <;> simp only [State.putSlot, h]
  case w1c => simp only [State.putSlot, h]
  case w1s => simp only [State.putSlot, h]
  case kept => rcases h with h | h | h | h <;> simp only [State.putSlot, h]

end Sys2Proof.Machine
end

section
/-!
PROOF. Frame readback (R607, R619). DWN_RBK_READ is refused while a stream is read and verified, whatever the last full configuration has opened.
-/

namespace Sys2Proof.Machine

theorem regAddr_frameWindow (w : Fin 128) : regAddr (0x6000021000 + 4 * w.val) = .page .dwn 0 (0x1000 + 4 * w.val) := by
  have hw := w.isLt
  have hpage : (0x6000021000 + 4 * w.val - 0x6000000000) / 0x10000 = 2 := by omega
  have hoff : (0x6000021000 + 4 * w.val - 0x6000000000) % 0x10000 = 0x1000 + 4 * w.val := by omega
  rw [regAddr, if_pos (by omega)]
  dsimp only
  rw [if_neg (by omega), hpage, hoff]
  rfl

/-- DWN_RBK_READ of any word answers what the frame window shows (R619): its address decodes to DWN's page, and no other read action is taken. -/
theorem exec_dwnRbkRead (w : Fin 128) (req : BitVec 16) (s : State) : exec (.dwnRbkRead w req) s = .next (s.frameWord w) := by
  have hwindow : 0x1000 ≤ 0x1000 + 4 * w.val ∧ 0x1000 + 4 * w.val < 0x1200 := by omega
  change execDwnRbkRead w req s = .next (s.frameWord w)
  rw [execDwnRbkRead, State.busRead, if_neg (by simp), regAddr_frameWindow]
  simp [State.touchPage, State.read32, hwindow]

theorem frameWord_of_unverified {s : State} (h : s.unverified = true) (w : Nat) : s.frameWord w = s.respond 0 2 := by
  simp [State.frameWord, h]

/-- An unfused package, whose debug level is Full, after a full configuration that opened readback, while the next stream is read (DWN_STAT.PHASE 2). -/
def readingStream : State :=
  ((State.reset.modDawn (fun d => { d with readable := true })).setR Reg.DWN_STAT_STATE 0 1).setR Reg.DWN_STAT_PHASE 0 2

/-- Refutes O10: its clause for a word of the frame window asks only that a full configuration has opened readback and the level is Full. While the next
stream is read or verified the device refuses readback all the same (R607): in `readingStream` DWN_RBK_READ answers STATUS 2, where the clause has STATUS 0. -/
theorem not_registerReadCompletes : ¬ Obligations.RegisterReadCompletes := by
  unfold Obligations.RegisterReadCompletes
  rintro ⟨-, -, -, hopen, -⟩
  have hword := hopen readingStream 0 0 (by decide) (by decide)
  rw [exec_dwnRbkRead, frameWord_of_unverified (by decide)] at hword
  injection hword with hstate
  exact absurd (congrArg (fun t : State => t.resp.status) hstate) (by decide)

end Sys2Proof.Machine
end

section
/-!
PROOF. Every command leaves the queue of waiting commands, and every step keeps the register, memory and event tables in canonical form (R4, R27, R480).
-/

namespace Sys2Proof.Machine

@[simp] theorem State.modPending_tidy (s : State) (f : List Instr → List Instr) : (s.modPending f).tidy = s.tidy := rfl

theorem step_of_pending_nil {s : State} (h : s.pending = []) : step s = .next s.idle := by
  simp only [step, h]

theorem step_of_pending_cons {s : State} {c : Instr} {rest : List Instr} (h : s.pending = c :: rest) :
    step s = exec c (s.modPending fun _ => rest) := by
  simp only [step, h]

/-- What a command answers keeps the queue, and keeps the tables canonical: each arm of the dispatch is a meaning that does. -/
theorem exec_kept (c : Instr) (s : State) : KeptR s (exec c s) := by
  have h := Kept.refl s
  cases c with
  | registerWrite => exact execRegisterWrite_kept _ _ _ _ _ h
  | counterClearingRead => exact execCounterClearingRead_kept _ _ _ _ _ h
  | eventRaised => exact execEventRaised_kept _ _ _ _ _ h
  | eventRecordWrite => exact execEventRecordWrite_kept _ _ _ h
  | eventRingConfigWrite => exact execEventRingConfigWrite_kept _ _ _ h
  | eventRingRpWrite => exact execEventRingRpWrite_kept _ _ h
  | eventRingOvfClear => exact execEventRingOvfClear_kept _ _ h
  | sysidWrite => exact execSysidWrite_kept _ _ h
  | devRstDevice => exact execDevRstDevice_kept _ _ h
  | devRstWarm => exact execDevRstWarm_kept _ _ h
  | powerOnReset => exact execPowerOnReset_kept _ h
  | powerOnResetEnd => exact execPowerOnResetEnd_kept _ _ _ _ _ h
  | ramRestoreDone => exact execRamRestoreDone_kept _ _ h
  | timeCounterStart => exact execTimeCounterStart_kept _ h
  | deskewRecalibrate => exact execDeskewRecalibrate_kept _ _ _ h
  | tbsTimeLoRead => exact execTbsTimeLoRead_kept _ _ h
  | setTime => exact execSetTime_kept _ h
  | stepNow => exact execStepNow_kept _ h
  | roleWrite => exact execRoleWrite_kept _ _ h
  | syncFrameSend => exact execSyncFrameSend_kept _ h
  | syncFrameReceive => exact execSyncFrameReceive_kept _ _ _ _ h
  | syncLost => exact execSyncLost_kept _ h
  | holdoverLimit => exact execHoldoverLimit_kept _ h
  | trefLost => exact execTrefLost_kept _ h
  | trefRestored => exact execTrefRestored_kept _ h
  | timePllLockLost => exact execTimePllLockLost_kept _ h
  | timePllLockRegained => exact execTimePllLockRegained_kept _ h
  | timePllUnlock => exact execTimePllUnlock_kept _ h
  | fabCgApply => exact execFabCgApply_kept _ _ _ h
  | retuneCommit => exact execRetuneCommit_kept _ _ _ h
  | cgPllLocked => exact execCgPllLocked_kept _ _ _ h
  | clkgenUnlock => exact execClkgenUnlock_kept _ _ _ h
  | fabCgAbort => exact execFabCgAbort_kept _ _ _ h
  | fabCgEnable => exact execFabCgEnable_kept _ _ _ h
  | fabCgDisable => exact execFabCgDisable_kept _ _ _ h
  | pwclkSourceWrite => exact execPwclkSourceWrite_kept _ _ _ _ _ h
  | pwclkResume => exact execPwclkResume_kept _ _ h
  | fabRamRead => exact execFabRamRead_kept _ _ _ _ _ _ _ h
  | fabRamWrite => exact execFabRamWrite_kept _ _ _ _ _ _ h
  | macUpdate => exact execMacUpdate_kept _ _ _ _ _ h
  | fabRoTrim => exact execFabRoTrim_kept _ _ _ h
  | roTrimWindowEnd => exact execRoTrimWindowEnd_kept _ _ _ _ h
  | fabRoAbort => exact execFabRoAbort_kept _ _ _ h
  | fabRoFreqWrite => exact execFabRoFreqWrite_kept _ _ _ _ h
  | nvmFabricRead => exact execNvmFabricRead_kept _ _ _ h
  | nvmReadComplete => exact execNvmReadComplete_kept _ _ _ h
  | nvmFabricWrite => exact execNvmFabricWrite_kept _ _ _ _ h
  | nvmRegisterWrite => exact execNvmRegisterWrite_kept _ _ _ _ _ h
  | nvmWriteDrain => exact execNvmWriteDrain_kept _ _ _ h
  | nvmLockKey => exact execNvmLockKey_kept _ _ _ _ h
  | nvmLockTimeout => exact execNvmLockTimeout_kept _ _ h
  | spDataPush => exact execSpDataPush_kept _ _ _ _ h
  | spDataPop => exact execSpDataPop_kept _ _ _ _ h
  | spModeApply => exact execSpModeApply_kept _ _ _ h
  | spRouteApply => exact execSpRouteApply_kept _ _ _ h
  | spByteReceived => exact execSpByteReceived_kept _ _ _ _ _ h
  | spByteSent => exact execSpByteSent_kept _ _ _ _ h
  | outholdRelease => exact execOutholdRelease_kept _ _ h
  | wrholdRelease => exact execWrholdRelease_kept _ _ h
  | stholdRelease => exact execStholdRelease_kept _ _ h
  | dcqWrite => exact execDcqWrite_kept _ _ _ _ _ h
  | dcqEntryPresent => exact execDcqEntryPresent_kept _ _ _ _ h
  | dcqRead => exact execDcqRead_kept _ _ _ _ h
  | dcqRemovalReport => exact execDcqRemovalReport_kept _ _ _ _ h
  | xbarSelUpset => exact execXbarSelUpset_kept _ _ _ _ _ h
  | napTxPacket => exact execNapTxPacket_kept _ _ _ _ h
  | napRxDeliver => exact execNapRxDeliver_kept _ _ _ h
  | napMmRequest => exact execNapMmRequest_kept _ _ _ h
  | napMmAck => exact execNapMmAck_kept _ _ _ _ _ h
  | napMmTimeout => exact execNapMmTimeout_kept _ _ _ h
  | regionClkSelWrite => exact execRegionClkSelWrite_kept _ _ _ _ _ h
  | fabRgnIsoReq => exact execFabRgnIsoReq_kept _ _ _ h
  | fabRgnIsoExit => exact execFabRgnIsoExit_kept _ _ _ _ h
  | fabRgnIsoAbort => exact execFabRgnIsoAbort_kept _ _ _ h
  | isolationCommit => exact execIsolationCommit_kept _ _ _ h
  | isolationExitCommit => exact execIsolationExitCommit_kept _ _ _ h
  | routerPacketReceive => exact execRouterPacketReceive_kept _ _ _ h
  | packetDeliver => exact execPacketDeliver_kept _ _ h
  | wakeBufferDrain => exact execWakeBufferDrain_kept _ _ _ h
  | nocWakeTimeout => exact execNocWakeTimeout_kept _ _ _ h
  | nocWakeRefused => exact execNocWakeRefused_kept _ _ _ _ h
  | portQuietOff => exact execPortQuietOff_kept _ _ _ h
  | forcedCloseTimeout => exact execForcedCloseTimeout_kept _ _ _ h
  | routeUpdate => exact execRouteUpdate_kept _ _ h
  | routeUpdateAbort => exact execRouteUpdateAbort_kept _ _ h
  | routeEpochRelease => exact execRouteEpochRelease_kept _ h
  | thyAdmit => exact execThyAdmit_kept _ _ _ h
  | thySuspend => exact execThySuspend_kept _ _ _ _ h
  | thyResume => exact execThyResume_kept _ _ _ _ h
  | thyTeardown => exact execThyTeardown_kept _ _ _ _ h
  | thyReadmit => exact execThyReadmit_kept _ _ _ _ h
  | thyAbort => exact execThyAbort_kept _ _ h
  | thyTimeout => exact execThyTimeout_kept _ _ h
  | contractDrainEnd => exact execContractDrainEnd_kept _ _ h
  | ingressAccept => exact execIngressAccept_kept _ _ h
  | tioVectorPacket => exact execTioVectorPacket_kept _ _ h
  | tioVectorStart => exact execTioVectorStart_kept _ _ h
  | tioEdgeEvent => exact execTioEdgeEvent_kept _ _ _ h
  | tioStrobe => exact execTioStrobe_kept _ _ _ _ _ h
  | tioVectorEnd => exact execTioVectorEnd_kept _ _ h
  | tioResultComplete => exact execTioResultComplete_kept _ _ h
  | tioResultFlush => exact execTioResultFlush_kept _ _ h
  | tioStop => exact execTioStop_kept _ _ h
  | tioStopTakeEffect => exact execTioStopTakeEffect_kept _ _ h
  | tioSrst => exact execTioSrst_kept _ _ h
  | tioSupplyMismatch => exact execTioSupplyMismatch_kept _ _ h
  | tioCalibrate => exact execTioCalibrate_kept _ _ _ _ h
  | tioDelayApply => exact execTioDelayApply_kept _ _ _ h
  | lneCfgWrite => exact execLneCfgWrite_kept _ _ _ _ h
  | laneRefLost => exact execLaneRefLost_kept _ _ h
  | laneCdrLost => exact execLaneCdrLost_kept _ _ h
  | laneSlip => exact execLaneSlip_kept _ _ _ h
  | rawWordReceive => exact execRawWordReceive_kept _ _ _ _ h
  | rawWordTransmit => exact execRawWordTransmit_kept _ _ _ h
  | dclEnable => exact execDclEnable_kept _ _ h
  | dclDisable => exact execDclDisable_kept _ _ h
  | dclRetrainCmd => exact execDclRetrainCmd_kept _ _ h
  | dclBlockLock => exact execDclBlockLock_kept _ _ h
  | dclBlockLockLost => exact execDclBlockLockLost_kept _ _ h
  | dclErrorThreshold => exact execDclErrorThreshold_kept _ _ _ h
  | dclCap => exact execDclCap_kept _ _ _ _ _ _ h
  | dclRateReq => exact execDclRateReq_kept _ _ _ h
  | dclRateAck => exact execDclRateAck_kept _ _ _ h
  | dclRateSwitch => exact execDclRateSwitch_kept _ _ h
  | dclEq => exact execDclEq_kept _ _ _ _ _ h
  | dclTsReq => exact execDclTsReq_kept _ _ _ _ h
  | dclTsRsp => exact execDclTsRsp_kept _ _ _ _ _ h
  | dclLatinfo => exact execDclLatinfo_kept _ _ _ _ h
  | dclTimeHi => exact execDclTimeHi_kept _ _ _ _ h
  | dclTimeLo => exact execDclTimeLo_kept _ _ _ h
  | dclMap => exact execDclMap_kept _ _ _ h
  | dclStatus => exact execDclStatus_kept _ _ _ h
  | dclRetrainBlock l cause => exact execDclRetrainBlock_kept l cause s h
  | dclIdle => exact execDclIdle_kept _ _ h
  | dclCapxTimeout => exact execDclCapxTimeout_kept _ _ h
  | dclRelockTimeout => exact execDclRelockTimeout_kept _ _ h
  | dclEqtrainTimeout => exact execDclEqtrainTimeout_kept _ _ h
  | dclLatmeasTimeout => exact execDclLatmeasTimeout_kept _ _ h
  | dclTxPacket => exact execDclTxPacket_kept _ _ h
  | dclMessageTransmit => exact execDclMessageTransmit_kept _ _ h
  | dclStreamMessageReceive => exact execDclStreamMessageReceive_kept _ _ _ _ _ h
  | dclMapWrite => exact execDclMapWrite_kept _ _ _ _ h
  | dclStreamEntryWrite => exact execDclStreamEntryWrite_kept _ _ _ h
  | dclAsymWrite => exact execDclAsymWrite_kept _ _ _ h
  | pgeArm => exact execPgeArm_kept _ _ h
  | pgeAbort => exact execPgeAbort_kept _ _ h
  | pgeStop => exact execPgeStop_kept _ _ h
  | pgeSrst => exact execPgeSrst_kept _ _ h
  | pgeNop => exact execPgeNop_kept _ _ h
  | pgeHalt => exact execPgeHalt_kept _ _ h
  | pgeJmp => exact execPgeJmp_kept _ _ h
  | pgeCall => exact execPgeCall_kept _ _ h
  | pgeRet => exact execPgeRet_kept _ _ h
  | pgeBr => exact execPgeBr_kept _ _ h
  | pgeLdc => exact execPgeLdc_kept _ _ h
  | pgeDjnz => exact execPgeDjnz_kept _ _ h
  | pgeTset => exact execPgeTset_kept _ _ h
  | pgeSv => exact execPgeSv_kept _ _ h
  | pgeAv => exact execPgeAv_kept _ _ h
  | pgeWaitt => exact execPgeWaitt_kept _ _ h
  | pgeWaitf => exact execPgeWaitf_kept _ _ h
  | pgeSyncv => exact execPgeSyncv_kept _ _ h
  | pgeWaitEnd => exact execPgeWaitEnd_kept _ _ h
  | pgeWaitTimeout => exact execPgeWaitTimeout_kept _ _ h
  | pgeLdg => exact execPgeLdg_kept _ _ h
  | pgeSflag => exact execPgeSflag_kept _ _ h
  | pgeSvptr => exact execPgeSvptr_kept _ _ h
  | pgeEvt => exact execPgeEvt_kept _ _ h
  | pgeIllegalOpcode => exact execPgeIllegalOpcode_kept _ _ h
  | pgeRecordDelta => exact execPgeRecordDelta_kept _ _ h
  | pgeRecordToggle => exact execPgeRecordToggle_kept _ _ h
  | pgeRecordEnd => exact execPgeRecordEnd_kept _ _ h
  | pgeLeadClose => exact execPgeLeadClose_kept _ _ _ h
  | pgePacketInject => exact execPgePacketInject_kept _ _ _ h
  | pgeFetchResponse => exact execPgeFetchResponse_kept _ _ h
  | pgeBreachNotice => exact execPgeBreachNotice_kept _ _ h
  | fceArm => exact execFceArm_kept _ _ h
  | fceArmComplete => exact execFceArmComplete_kept _ _ h
  | fceEnd => exact execFceEnd_kept _ _ h
  | fceAbort => exact execFceAbort_kept _ _ h
  | fceSrst => exact execFceSrst_kept _ _ h
  | fceInputPacket => exact execFceInputPacket_kept _ _ h
  | fceTraceEntry => exact execFceTraceEntry_kept _ _ h
  | fceRecordProcess => exact execFceRecordProcess_kept _ _ _ h
  | fceAnalysisCommit => exact execFceAnalysisCommit_kept _ _ _ h
  | fceStatSnapshot => exact execFceStatSnapshot_kept _ _ h
  | fceStatPacketInject => exact execFceStatPacketInject_kept _ _ h
  | fceBreachNotice => exact execFceBreachNotice_kept _ _ h
  | mspParallel => exact execMspParallel_kept _ _ h
  | mspNop => exact execMspNop_kept _ _ h
  | mspHalt => exact execMspHalt_kept _ _ h
  | mspBr => exact execMspBr_kept _ _ h
  | mspCall => exact execMspCall_kept _ _ h
  | mspRet => exact execMspRet_kept _ _ h
  | mspBdnz => exact execMspBdnz_kept _ _ h
  | mspRepeat => exact execMspRepeat_kept _ _ h
  | mspWaitInbox => exact execMspWaitInbox_kept _ _ h
  | mspWaitTime => exact execMspWaitTime_kept _ _ _ h
  | mspWaitBarrier => exact execMspWaitBarrier_kept _ _ h
  | mspWaitChannel => exact execMspWaitChannel_kept _ _ h
  | mspWaitEnd => exact execMspWaitEnd_kept _ _ _ h
  | mspSend => exact execMspSend_kept _ _ h
  | mspSflg => exact execMspSflg_kept _ _ h
  | mspLdi => exact execMspLdi_kept _ _ h
  | mspMov => exact execMspMov_kept _ _ h
  | mspMovp => exact execMspMovp_kept _ _ h
  | mspMovs => exact execMspMovs_kept _ _ _ h
  | mspLd => exact execMspLd_kept _ _ h
  | mspSt => exact execMspSt_kept _ _ h
  | mspAdd => exact execMspAdd_kept _ _ h
  | mspSub => exact execMspSub_kept _ _ h
  | mspAnd => exact execMspAnd_kept _ _ h
  | mspOr => exact execMspOr_kept _ _ h
  | mspXor => exact execMspXor_kept _ _ h
  | mspAddi => exact execMspAddi_kept _ _ h
  | mspShift => exact execMspShift_kept _ _ h
  | mspCmp => exact execMspCmp_kept _ _ h
  | mspMin => exact execMspMin_kept _ _ h
  | mspMax => exact execMspMax_kept _ _ h
  | mspAbs => exact execMspAbs_kept _ _ h
  | mspMinix => exact execMspMinix_kept _ _ h
  | mspMaxix => exact execMspMaxix_kept _ _ h
  | mspMacd => exact execMspMacd_kept _ _ h
  | mspAcc => exact execMspAcc_kept _ _ h
  | mspSta => exact execMspSta_kept _ _ h
  | mspIllegal => exact execMspIllegal_kept _ _ h
  | mspGrpGo => exact execMspGrpGo_kept _ _ _ _ h
  | mspStartCycle => exact execMspStartCycle_kept _ _ h
  | mspGrpAbort => exact execMspGrpAbort_kept _ _ _ _ h
  | mspGrpStop => exact execMspGrpStop_kept _ _ _ _ h
  | mspGrpResume => exact execMspGrpResume_kept _ _ _ _ h
  | mspSrst => exact execMspSrst_kept _ _ h
  | mspInboxMessage => exact execMspInboxMessage_kept _ _ h
  | mspBreachNotice => exact execMspBreachNotice_kept _ _ h
  | mspMemoryAccess => exact execMspMemoryAccess_kept _ _ _ _ h
  | mspChannelInject => exact execMspChannelInject_kept _ _ _ h
  | spdAccess => exact execSpdAccess_kept _ _ _ h
  | spdAliasUpdate => exact execSpdAliasUpdate_kept _ _ _ h
  | spdOwnWrite => exact execSpdOwnWrite_kept _ _ _ _ _ h
  | spdHandoverCommit => exact execSpdHandoverCommit_kept _ _ _ h
  | spdHandoverAbort => exact execSpdHandoverAbort_kept _ _ _ _ h
  | spdInv => exact execSpdInv_kept _ _ _ _ h
  | eccInv => exact execEccInv_kept _ _ _ _ _ h
  | invalidateSweepEnd => exact execInvalidateSweepEnd_kept _ _ h
  | spdCopyStart => exact execSpdCopyStart_kept _ _ _ _ h
  | spdCopyStop => exact execSpdCopyStop_kept _ _ _ h
  | spdCopyResponse => exact execSpdCopyResponse_kept _ _ _ h
  | repairQueueRewrite => exact execRepairQueueRewrite_kept _ _ h
  | scrubPassStart => exact execScrubPassStart_kept _ _ h
  | rowRemapCommit => exact execRowRemapCommit_kept _ _ h
  | lpxDefaultTrainStart => exact execLpxDefaultTrainStart_kept _ h
  | lpxTrainingEnd => exact execLpxTrainingEnd_kept _ _ _ h
  | lpxInitPassEnd => exact execLpxInitPassEnd_kept _ _ h
  | lpxRetrain => exact execLpxRetrain_kept _ _ _ h
  | lpxAbort => exact execLpxAbort_kept _ _ h
  | lpxRetrainWaitTimeout => exact execLpxRetrainWaitTimeout_kept _ _ h
  | lpxDetWrite => exact execLpxDetWrite_kept _ _ _ h
  | lpxDetApply => exact execLpxDetApply_kept _ _ h
  | lpxMapWrite => exact execLpxMapWrite_kept _ _ _ h
  | lpxRefreshWindow => exact execLpxRefreshWindow_kept _ _ _ h
  | lpxMr4Update => exact execLpxMr4Update_kept _ _ _ _ h
  | lpxOscPass => exact execLpxOscPass_kept _ _ _ h
  | lpxAccess => exact execLpxAccess_kept _ _ _ _ h
  | lpxInlineWriteback => exact execLpxInlineWriteback_kept _ _ h
  | lpxIdlePowerDown => exact execLpxIdlePowerDown_kept _ _ _ h
  | pciePerstRise => exact execPciePerstRise_kept _ h
  | pcieLinkUp => exact execPcieLinkUp_kept _ _ _ _ _ h
  | pcieLinkDown => exact execPcieLinkDown_kept _ h
  | pcieHotReset => exact execPcieHotReset_kept _ _ h
  | pcieConfigRequest => exact execPcieConfigRequest_kept _ _ _ h
  | pcieHostRead => exact execPcieHostRead_kept _ _ _ _ _ h
  | pcieHostWrite => exact execPcieHostWrite_kept _ _ _ _ _ _ _ h
  | pcieDeviceResponse => exact execPcieDeviceResponse_kept _ h
  | pcieDmaStart => exact execPcieDmaStart_kept _ _ _ h
  | pcieDmaStop => exact execPcieDmaStop_kept _ _ h
  | pcieDmaResponse => exact execPcieDmaResponse_kept _ _ _ h
  | pcieMsixTrigger => exact execPcieMsixTrigger_kept _ _ _ h
  | pcieDoorbell => exact execPcieDoorbell_kept _ _ h
  | mbxH2dLenWrite => exact execMbxH2dLenWrite_kept _ _ h
  | mbxD2hLenWrite => exact execMbxD2hLenWrite_kept _ _ h
  | pciDbgGo => exact execPciDbgGo_kept _ _ _ _ h
  | pciStageGo => exact execPciStageGo_kept _ _ _ h
  | pciStageAbort => exact execPciStageAbort_kept _ _ h
  | pciFlr => exact execPciFlr_kept _ _ h
  | doeDiscovery => exact execDoeDiscovery_kept _ _ h
  | spdmGetVersion => exact execSpdmGetVersion_kept _ h
  | spdmGetCapabilities => exact execSpdmGetCapabilities_kept _ h
  | spdmNegotiateAlgorithms => exact execSpdmNegotiateAlgorithms_kept _ h
  | spdmGetDigests => exact execSpdmGetDigests_kept _ h
  | spdmGetCertificate => exact execSpdmGetCertificate_kept _ _ h
  | spdmChallenge => exact execSpdmChallenge_kept _ _ h
  | spdmGetMeasurements => exact execSpdmGetMeasurements_kept _ _ _ h
  | spdmChunkSend => exact execSpdmChunkSend_kept _ _ _ _ h
  | spdmChunkGet => exact execSpdmChunkGet_kept _ _ _ _ h
  | spdmUnsupportedRequest code => exact execSpdmUnsupportedRequest_kept code s h
  | spdmGetPqCert => exact execSpdmGetPqCert_kept _ h
  | spdmGetPqSig => exact execSpdmGetPqSig_kept _ h
  | mtimecmpMatch => exact execMtimecmpMatch_kept _ _ h
  | plicClaim => exact execPlicClaim_kept _ _ _ h
  | plicComplete => exact execPlicComplete_kept _ _ _ h
  | patchKeyWrite => exact execPatchKeyWrite_kept _ _ _ _ h
  | patchEnWrite => exact execPatchEnWrite_kept _ _ _ _ h
  | patchKeyTimeout => exact execPatchKeyTimeout_kept _ _ h
  | wdtKick => exact execWdtKick_kept _ _ _ _ h
  | wdtFirstExpiry => exact execWdtFirstExpiry_kept _ _ h
  | wdtSecondExpiry => exact execWdtSecondExpiry_kept _ _ h
  | hartResetCmd => exact execHartResetCmd_kept _ _ _ h
  | dmHaltreq => exact execDmHaltreq_kept _ _ h
  | dmHartHalted => exact execDmHartHalted_kept _ _ h
  | dmResumereq => exact execDmResumereq_kept _ _ h
  | dmNdmreset => exact execDmNdmreset_kept _ h
  | dmHartreset => exact execDmHartreset_kept _ _ h
  | dmAbstractCommand => exact execDmAbstractCommand_kept _ _ _ h
  | dmSystemBusAccess => exact execDmSystemBusAccess_kept _ _ _ _ _ _ h
  | dmSessionCloseWrite => exact execDmSessionCloseWrite_kept _ h
  | authNonce => exact execAuthNonce_kept _ h
  | authNonceReady => exact execAuthNonceReady_kept _ h
  | authGrant => exact execAuthGrant_kept _ _ h
  | authGrantResult => exact execAuthGrantResult_kept _ _ h
  | authDrop => exact execAuthDrop_kept _ h
  | authLockoutEnd => exact execAuthLockoutEnd_kept _ h
  | debugSessionTimeout => exact execDebugSessionTimeout_kept _ h
  | drwAttention => exact execDrwAttention_kept _ _ _ h
  | drwResetLow => exact execDrwResetLow_kept _ h
  | drwResetRelease => exact execDrwResetRelease_kept _ h
  | drwNop => exact execDrwNop_kept _ _ h
  | drwOpen => exact execDrwOpen_kept _ _ h
  | drwClose => exact execDrwClose_kept _ _ h
  | drwMaskSet => exact execDrwMaskSet_kept _ _ h
  | drwMaskClear => exact execDrwMaskClear_kept _ _ h
  | drwRead => exact execDrwRead_kept _ _ _ _ h
  | drwWrite => exact execDrwWrite_kept _ _ _ _ _ h
  | dawnBootStart => exact execDawnBootStart_kept _ _ _ _ _ h
  | dawnFlashStall => exact execDawnFlashStall_kept _ h
  | dawnStreamReadDone => exact execDawnStreamReadDone_kept _ _ h
  | dawnVerifyDone => exact execDawnVerifyDone_kept _ _ h
  | dwnGo => exact execDwnGo_kept _ _ _ h
  | dwnAbort => exact execDwnAbort_kept _ _ h
  | dawnApplyDone => exact execDawnApplyDone_kept _ _ h
  | dwnRelGo => exact execDwnRelGo_kept _ _ h
  | dwnRbkRead => exact execDwnRbkRead_kept _ _ _ h
  | dawnReadbackScan => exact execDawnReadbackScan_kept _ _ _ _ _ h
  | dawnReloadEnable => exact execDawnReloadEnable_kept _ _ _ h
  | dawnReloadHashDone => exact execDawnReloadHashDone_kept _ _ h
  | sgeNonceNew => exact execSgeNonceNew_kept _ _ h
  | sgeNonceReady => exact execSgeNonceReady_kept _ h
  | sgeGenkey => exact execSgeGenkey_kept _ _ _ h
  | sgeProvision => exact execSgeProvision_kept _ _ _ h
  | sgeEnroll => exact execSgeEnroll_kept _ _ _ h
  | sgeAddSlot => exact execSgeAddSlot_kept _ _ _ h
  | sgeRevoke => exact execSgeRevoke_kept _ _ _ h
  | sgeSetOsk => exact execSgeSetOsk_kept _ _ _ h
  | sgeSetLegacy => exact execSgeSetLegacy_kept _ _ _ h
  | sgeRetire => exact execSgeRetire_kept _ _ _ h
  | sgeCmdAbort => exact execSgeCmdAbort_kept _ _ h
  | sgeVerifyDone => exact execSgeVerifyDone_kept _ _ _ h
  | dskPwrOn => exact execDskPwrOn_kept _ _ _ h
  | dskPwrOff => exact execDskPwrOff_kept _ _ _ h
  | dskPwrAbort => exact execDskPwrAbort_kept _ _ h
  | powerRemoved => exact execPowerRemoved_kept _ _ h
  | powerDomainOpen => exact execPowerDomainOpen_kept _ _ _ h
  | dskForceKey => exact execDskForceKey_kept _ _ _ h
  | dskForceSet => exact execDskForceSet_kept _ _ _ h
  | dskForceLift => exact execDskForceLift_kept _ _ _ h
  | forceKeyTimeout => exact execForceKeyTimeout_kept _ h
  | sensorSample => exact execSensorSample_kept _ _ h
  | thermalTrip => exact execThermalTrip_kept _ h
  | thermStopClear => exact execThermStopClear_kept _ _ h
  | throttleApply => exact execThrottleApply_kept _ _ h
  | adcConversion => exact execAdcConversion_kept _ _ h
  | wakeTimerFire => exact execWakeTimerFire_kept _ h
  | dlkWireError => exact execDlkWireError_kept _ _ _ _ _ h
  | dlkUncorrectableCycle => exact execDlkUncorrectableCycle_kept _ _ _ _ _ h
  | dlkBlockError => exact execDlkBlockError_kept _ _ _ _ h
  | dlkSpareSwitch => exact execDlkSpareSwitch_kept _ _ _ _ h
  | dlkFoldCommit => exact execDlkFoldCommit_kept _ _ _ _ h
  | midAutoTest => exact execMidAutoTest_kept _ _ _ _ h
  | midReqGo => exact execMidReqGo_kept _ _ _ _ h
  | midReqAbort => exact execMidReqAbort_kept _ _ _ h
  | midDeadline => exact execMidDeadline_kept _ _ h
  | midTestStart => exact execMidTestStart_kept _ _ h
  | midTestEnd => exact execMidTestEnd_kept _ _ _ _ _ _ _ _ _ h
  | midUnitReleased => exact execMidUnitReleased_kept _ _ _ _ h
  | svpPinCfgWrite => exact execSvpPinCfgWrite_kept _ _ _ _ h
  | svpFunctionSwitch => exact execSvpFunctionSwitch_kept _ _ h
  | svpOutWrite => exact execSvpOutWrite_kept _ _ _ _ _ h
  | svpLockKey => exact execSvpLockKey_kept _ _ _ h
  | svpLockSet => exact execSvpLockSet_kept _ _ _ _ h
  | svpLockTimeout => exact execSvpLockTimeout_kept _ h
  | svpWakeEdge => exact execSvpWakeEdge_kept _ _ _ h
  | jtagBypass => exact execJtagBypass_kept _ h
  | jtagSamplePreload => exact execJtagSamplePreload_kept _ _ _ h
  | jtagExtest => exact execJtagExtest_kept _ _ _ h
  | jtagExtestPulse => exact execJtagExtestPulse_kept _ _ _ h
  | jtagExtestTrain => exact execJtagExtestTrain_kept _ _ _ h
  | jtagClamp => exact execJtagClamp_kept _ h
  | jtagHighz => exact execJtagHighz_kept _ h
  | jtagIdcode => exact execJtagIdcode_kept _ h
  | jtagTapReset => exact execJtagTapReset_kept _ h
  | regionClockRisingEdge => exact execRegionClockRisingEdge_kept _ _ _ _ _ h
  | scrubWordRead => exact execScrubWordRead_kept _ _ _ h
  | laneCdrLock => exact execLaneCdrLock_kept _ _ h
  | rawPcsLock => exact execRawPcsLock_kept _ _ _ h
  | vioTbSupplyInRange => exact execVioTbSupplyInRange_kept _ _ h
  | completionTimeout => exact execCompletionTimeout_kept _ _ _ h

/-- Settles O5: no command's meaning touches the queue, as `exec_kept` has it. -/
theorem commandsLeaveTheQueue : Obligations.CommandsLeaveTheQueue := by
  unfold Obligations.CommandsLeaveTheQueue
  intro c s t hexec
  exact ((exec_kept c s).kept t hexec).1

/-- Settles O4: the cycle on an empty queue and every command keep the tables canonical, and the queue is none of the tables. -/
theorem everyStepKeepsTheTablesCanonical : Obligations.EveryStepKeepsTheTablesCanonical := by
  unfold Obligations.EveryStepKeepsTheTablesCanonical
  intro s t htidy hstep
  cases hq : s.pending with
  | nil =>
    rw [step_of_pending_nil hq] at hstep
    exact ((KeptR.next (State.idle_kept s (Kept.refl s))).kept t hstep).2 htidy
  | cons c rest =>
    rw [step_of_pending_cons hq] at hstep
    exact ((exec_kept c _).kept t hstep).2 ((s.modPending_tidy _).trans htidy)

end Sys2Proof.Machine
end

section
/-!
PROOF. No command stops the device (R4, R5, R24): each meaning ends every branch in a next state. A meaning whose branches are choices by conditions is
handled where the arms are; one that takes apart what waits (a packet, a fetched word, a request) has a lemma here, with the branches of its definition.
-/

namespace Sys2Proof.Machine

/-- A command's answer is a next state: no fault and no refusal. -/
def Answers (o : Result) : Prop := ∃ t, o = .next t

theorem Answers.next (t : State) : Answers (.next t) := ⟨t, rfl⟩

theorem Answers.ite {c : Prop} [Decidable c] {a b : Result} (ha : Answers a) (hb : Answers b) :
    Answers (if c then a else b) := by
  split <;> assumption

theorem State.mspIns_answers (s : State) (m : Nat) (ok : Nat → Bool) (f : Nat → State → State) : Answers (s.mspIns m ok f) := by
  unfold State.mspIns
  split
  · exact .next _
  · exact .ite (.next _) (.ite (.next _) (.next _))

theorem State.drwFrame_answers (s : State) (fr : DrwFrame) (t : State) : Answers (s.drwFrame fr t) := by
  unfold State.drwFrame
  refine .ite (.next _) ?_
  split <;> exact .next _

theorem execRouterPacketReceive_answers (n : Nat) (fault : HopFault) (s : State) : Answers (execRouterPacketReceive n fault s) := by
  unfold execRouterPacketReceive
  split
  · exact .next _
  · split
    · exact .next _
    · exact .ite (.next _) (.ite (.next _) (.ite (.next _) (.next _)))

theorem execPacketDeliver_answers (n : Nat) (s : State) : Answers (execPacketDeliver n s) := by
  unfold execPacketDeliver
  split
  · exact .next _
  · split
    · exact .next _
    · exact .ite (.next _) (.ite (.next _) (.next _))

theorem execRouteEpochRelease_answers (s : State) : Answers (execRouteEpochRelease s) := by
  unfold execRouteEpochRelease
  refine .ite ?_ (.next _)
  extract_lets
  split <;> exact .next _

theorem execTioVectorPacket_answers (bank : Fin 20) (s : State) : Answers (execTioVectorPacket bank s) := by
  unfold execTioVectorPacket
  extract_lets
  split
  · exact .next _
  · exact .ite (.next _) (.ite (.next _) (.ite (.next _) (.ite (.next _) (.next _))))

theorem execTioVectorEnd_answers (bank : Fin 20) (s : State) : Answers (execTioVectorEnd bank s) := by
  unfold execTioVectorEnd
  extract_lets
  split
  · exact .next _
  · exact .ite (.next _) (.ite (.next _) (.ite (.next _) (.ite (.next _) (.ite (.next _) (.ite (.next _) (.next _))))))

theorem execTioResultComplete_answers (bank : Fin 20) (s : State) : Answers (execTioResultComplete bank s) := by
  unfold execTioResultComplete
  extract_lets
  split
  · exact .next _
  · exact .ite (.next _) (.ite (.next _) (.ite (.next _) (.next _)))

theorem execDclTxPacket_answers (engine : Fin 36) (s : State) : Answers (execDclTxPacket engine s) := by
  unfold execDclTxPacket
  extract_lets
  split
  · exact .next _
  · refine .ite (.next _) ?_
    extract_lets
    split
    · exact .next _
    · exact .ite (.next _) (.ite (.next _) (.ite (.next _) (.next _)))

theorem execPgeRet_answers (n : Fin 16) (s : State) : Answers (execPgeRet n s) := by
  unfold execPgeRet
  split
  · split <;> exact .next _
  · exact .next _

theorem execPgeSv_answers (n : Fin 16) (s : State) : Answers (execPgeSv n s) := by
  unfold execPgeSv
  split
  · exact .next _
  · refine .ite (.ite (.next _) ?_) (.next _)
    split <;> exact .next _

theorem execFceInputPacket_answers (n : Fin 16) (s : State) : Answers (execFceInputPacket n s) := by
  unfold execFceInputPacket
  split
  · exact .next _
  · extract_lets
    split
    · exact .next _
    · exact .ite (.next _) (.ite (.next _) (.next _))

theorem execMspSend_answers (m : Fin 128) (s : State) : Answers (execMspSend m s) := by
  unfold execMspSend
  split
  · exact .next _
  · exact .ite (.next _) (.ite (.next _) (.ite (.next _) (.ite (.next _) (.ite (.next _) (.ite (.next _) (.next _))))))

theorem execMspInboxMessage_answers (g : Fin 16) (s : State) : Answers (execMspInboxMessage g s) := by
  unfold execMspInboxMessage
  split
  · exact .next _
  · extract_lets
    split
    · exact .next _
    · exact .ite (.next _) (.next _)

theorem execSpdCopyResponse_answers (bd : Fin 4) (c : Fin 8) (s : State) : Answers (execSpdCopyResponse bd c s) := by
  unfold execSpdCopyResponse
  extract_lets
  split
  · split <;> exact .next _
  · split
    · exact .next _
    · refine .ite (.next _) (.ite ?_ (.next _))
      split <;> exact .next _

theorem execLpxTrainingEnd_answers (n : Fin 16) (out : TrainEnd) (s : State) : Answers (execLpxTrainingEnd n out s) := by
  unfold execLpxTrainingEnd
  refine .ite (.next _) ?_
  extract_lets
  split
  · exact .next _
  · exact .ite (.next _) (.next _)

theorem execLpxRetrainWaitTimeout_answers (n : Fin 16) (s : State) : Answers (execLpxRetrainWaitTimeout n s) := by
  unfold execLpxRetrainWaitTimeout
  refine .ite (.next _) ?_
  split
  · exact .next _
  · split <;> exact .next _

theorem execPcieConfigRequest_answers (func : Fin 34) (acc : CfgAccess) (s : State) : Answers (execPcieConfigRequest func acc s) := by
  unfold execPcieConfigRequest
  refine .ite (.next _) (.ite (.next _) ?_)
  extract_lets
  split <;> exact .next _

theorem execPcieDmaResponse_answers (c : Fin 8) (ev : DmaEvent) (s : State) : Answers (execPcieDmaResponse c ev s) := by
  unfold execPcieDmaResponse
  split
  · exact .next _
  · exact .next _
  · split <;> exact .next _

theorem execDrwAttention_answers (lowNs : Nat) (sync : Option (BitVec 16)) (s : State) : Answers (execDrwAttention lowNs sync s) := by
  unfold execDrwAttention
  refine .ite (.next _) (.ite (.next _) ?_)
  split <;> exact .next _

theorem execDawnBootStart_answers (dir quad : Option (Bool × Fin 4)) (hdr : Option LpxHdr) (bad : List (Nat × Nat × Nat)) (s : State) :
    Answers (execDawnBootStart dir quad hdr bad s) := by
  unfold execDawnBootStart
  refine .ite (.next _) (.ite (.next _) (.ite (.next _) ?_))
  extract_lets
  split
  · exact .next _
  · refine .ite (.next _) ?_
    split <;> exact .next _

theorem execDawnReadbackScan_answers (fd : Fin 8) (rgn_ : Fin 384) (index : BitVec 8) (found : FrameCheck) (s : State) :
    Answers (execDawnReadbackScan fd rgn_ index found s) := by
  unfold execDawnReadbackScan
  refine .ite (.next _) (.ite (.next _) ?_)
  split <;> exact .next _

theorem execSgeCmdAbort_answers (req : BitVec 16) (s : State) : Answers (execSgeCmdAbort req s) := by
  unfold execSgeCmdAbort
  refine .ite (.next _) ?_
  extract_lets
  split
  · exact .ite (.next _) (.next _)
  · exact .next _

theorem execSgeVerifyDone_answers (run : FuseRun) (rspOk : Bool) (s : State) : Answers (execSgeVerifyDone run rspOk s) := by
  unfold execSgeVerifyDone
  split
  · exact .next _
  · exact .ite (.next _) (.ite (.next _) (.ite (.next _) (.ite (.next _) (.ite (.next _) (.next _)))))

theorem execMidTestEnd_answers (bd : Fin 4) (cls : Fin 6) (index : Nat) (fail : Bool) (detail : BitVec 32) (rows : List Nat)
    (height : BitVec 8) (width : BitVec 8) (s : State) :
    Answers (execMidTestEnd bd cls index fail detail rows height width s) := by
  unfold execMidTestEnd
  split
  · exact .next _
  · exact .ite (.next _) (.ite (.next _) (.ite (.next _) (.ite (.next _) (.next _))))

/-- Every command answers a next state. The commands stand by the branches of their meanings: choices by conditions alone, the more of them the later; the MSP's
instructions and the debug wire's frames; one look at what may be waiting; the meanings with a lemma above; and last those that name one next state. -/
theorem exec_answers (c : Instr) (s : State) : Answers (exec c s) := by
  cases c with
  -- choices by conditions alone
  | devRstDevice | devRstWarm | powerOnResetEnd | syncFrameSend | timePllUnlock | retuneCommit | clkgenUnlock | fabCgAbort | fabCgDisable
  | fabRamRead | fabRamWrite | macUpdate | fabRoAbort | nvmLockKey | spDataPush | xbarSelUpset | napTxPacket | routeUpdate | thyAbort
  | tioStop | tioCalibrate | laneRefLost | laneSlip | rawWordReceive | rawWordTransmit | dclEnable | dclDisable | dclBlockLock
  | dclErrorThreshold | dclRateSwitch | dclEq | dclTimeLo | dclStreamEntryWrite | pgeAbort | fceEnd | fceAbort | fceAnalysisCommit
  | mspStartCycle | mspGrpAbort | spdAccess | spdAliasUpdate | spdHandoverCommit | spdInv | eccInv | lpxMapWrite | pcieLinkUp
  | pcieHotReset | mbxH2dLenWrite | mbxD2hLenWrite | pciFlr | hartResetCmd | drwResetRelease | dawnFlashStall | sgeNonceNew | dskForceLift
  | dlkWireError | dlkUncorrectableCycle | dlkBlockError | midUnitReleased | svpLockSet => exact .ite (.next _) (.next _)
  | deskewRecalibrate | setTime | roleWrite | fabCgApply | cgPllLocked | regionClkSelWrite | lneCfgWrite | dclRetrainCmd | pgeStop
  | mspGrpGo | spdOwnWrite | spdCopyStart | lpxRetrain | lpxAbort | lpxDetWrite | pcieHostWrite | pcieDmaStart | pcieDoorbell
  | patchEnWrite | wdtKick | dmSystemBusAccess | authGrant | drwResetLow | sgeGenkey | sgeProvision | sgeEnroll | sgeAddSlot | sgeRevoke
  | sgeSetOsk | sgeSetLegacy | sgeRetire | dskPwrOn | dskPwrOff | thermStopClear | svpPinCfgWrite | svpLockKey =>
    exact .ite (.next _) (.ite (.next _) (.next _))
  | syncFrameReceive | syncLost | isolationExitCommit | dclCap | fceStatSnapshot | scrubPassStart =>
    exact .ite (.ite (.next _) (.next _)) (.next _)
  | roTrimWindowEnd | spByteReceived | pgeArm | spdHandoverAbort | pcieHostRead | patchKeyWrite | dskPwrAbort | powerDomainOpen
  | dskForceKey | midReqGo | midReqAbort => exact .ite (.next _) (.ite (.next _) (.ite (.next _) (.next _)))
  | dclTsRsp => exact .ite (.ite (.next _) (.ite (.next _) (.next _))) (.next _)
  | fceArm | dskForceSet => exact .ite (.next _) (.ite (.next _) (.ite (.next _) (.ite (.next _) (.next _))))
  | dclMapWrite => exact .ite (.next _) (.ite (.next _) (.ite (.next _) (.ite (.next _) (.ite (.next _) (.next _)))))
  | midDeadline =>
    exact .ite (.next _) (.ite (.next _) (.ite (.ite (.next _) (.ite (.next _) (.next _))) (.ite (.ite (.next _) (.next _)) (.next _))))
  -- instructions of the MSP, and frames of the debug wire
  | mspParallel | mspNop | mspHalt | mspBr | mspCall | mspRet | mspBdnz | mspRepeat | mspWaitInbox | mspWaitTime | mspWaitBarrier
  | mspWaitChannel | mspSflg | mspLdi | mspMov | mspMovp | mspMovs | mspLd | mspSt | mspAdd | mspSub | mspAnd | mspOr | mspXor | mspAddi
  | mspShift | mspCmp | mspMin | mspMax | mspAbs | mspMinix | mspMaxix | mspMacd | mspAcc | mspSta | mspIllegal =>
    exact s.mspIns_answers _ _ _
  | drwNop | drwOpen | drwClose | drwMaskSet | drwMaskClear | drwRead | drwWrite => exact s.drwFrame_answers _ _
  -- one look at what may be waiting: an item, a packet, a word
  | eventRingOvfClear | thyTimeout | tioVectorStart | pgeCall | pgeDjnz =>
    unfold exec
    simp only [execEventRingOvfClear, execThyTimeout, execTioVectorStart, execPgeCall, execPgeDjnz]
    split
    · exact .ite (.next _) (.next _)
    · exact .next _
  | ramRestoreDone | nvmReadComplete | nvmWriteDrain | spDataPop | outholdRelease | wrholdRelease | stholdRelease | napMmTimeout
  | tioResultFlush | tioStopTakeEffect | dclMessageTransmit | dclAsymWrite | pgeNop | pgeHalt | pgeJmp | pgeBr | pgeLdc | pgeTset
  | pgeWaitt | pgeWaitf | pgeSyncv | pgeWaitEnd | pgeWaitTimeout | pgeLdg | pgeSflag | pgeSvptr | pgeEvt | pgeIllegalOpcode | pgeLeadClose
  | fceTraceEntry | fceRecordProcess | fceStatPacketInject | fceBreachNotice | mspWaitEnd | rowRemapCommit | pcieDeviceResponse
  | adcConversion | dlkSpareSwitch | dlkFoldCommit =>
    unfold exec
    simp only [execRamRestoreDone, execNvmReadComplete, execNvmWriteDrain, execSpDataPop, execOutholdRelease, execWrholdRelease,
      execStholdRelease, execNapMmTimeout, execTioResultFlush, execTioStopTakeEffect, execDclMessageTransmit, execDclAsymWrite, execPgeNop,
      execPgeHalt, execPgeJmp, execPgeBr, execPgeLdc, execPgeTset, execPgeWaitt, execPgeWaitf, execPgeSyncv, execPgeWaitEnd,
      execPgeWaitTimeout, execPgeLdg, execPgeSflag, execPgeSvptr, execPgeEvt, execPgeIllegalOpcode, execPgeLeadClose, execFceTraceEntry,
      execFceRecordProcess, execFceStatPacketInject, execFceBreachNotice, execMspWaitEnd, execRowRemapCommit, execPcieDeviceResponse,
      execAdcConversion, execDlkSpareSwitch, execDlkFoldCommit]
    split <;> exact .next _
  | spByteSent | tioEdgeEvent | dclStreamMessageReceive | pgeAv | pgePacketInject | pgeFetchResponse | pgeBreachNotice | mspBreachNotice
  | mspChannelInject | repairQueueRewrite | lpxDetApply | lpxInlineWriteback =>
    unfold exec
    simp only [execSpByteSent, execTioEdgeEvent, execDclStreamMessageReceive, execPgeAv, execPgePacketInject, execPgeFetchResponse,
      execPgeBreachNotice, execMspBreachNotice, execMspChannelInject, execRepairQueueRewrite, execLpxDetApply, execLpxInlineWriteback]
    split
    · exact .next _
    · exact .ite (.next _) (.next _)
  | napRxDeliver | napMmRequest | mspMemoryAccess | scrubWordRead =>
    unfold exec
    simp only [execNapRxDeliver, execNapMmRequest, execMspMemoryAccess, execScrubWordRead]
    split
    · exact .next _
    · exact .ite (.next _) (.ite (.next _) (.next _))
  -- meanings with a lemma of their own
  | routerPacketReceive => exact execRouterPacketReceive_answers _ _ _
  | packetDeliver => exact execPacketDeliver_answers _ _
  | routeEpochRelease => exact execRouteEpochRelease_answers _
  | tioVectorPacket => exact execTioVectorPacket_answers _ _
  | tioVectorEnd => exact execTioVectorEnd_answers _ _
  | tioResultComplete => exact execTioResultComplete_answers _ _
  | dclTxPacket => exact execDclTxPacket_answers _ _
  | pgeRet => exact execPgeRet_answers _ _
  | pgeSv => exact execPgeSv_answers _ _
  | fceInputPacket => exact execFceInputPacket_answers _ _
  | mspSend => exact execMspSend_answers _ _
  | mspInboxMessage => exact execMspInboxMessage_answers _ _
  | spdCopyResponse => exact execSpdCopyResponse_answers _ _ _
  | lpxTrainingEnd => exact execLpxTrainingEnd_answers _ _ _
  | lpxRetrainWaitTimeout => exact execLpxRetrainWaitTimeout_answers _ _
  | pcieConfigRequest => exact execPcieConfigRequest_answers _ _ _
  | pcieDmaResponse => exact execPcieDmaResponse_answers _ _ _
  | drwAttention => exact execDrwAttention_answers _ _ _
  | dawnBootStart => exact execDawnBootStart_answers _ _ _ _ _
  | dawnReadbackScan => exact execDawnReadbackScan_answers _ _ _ _ _
  | sgeCmdAbort => exact execSgeCmdAbort_answers _ _
  | sgeVerifyDone => exact execSgeVerifyDone_answers _ _ _
  | midTestEnd => exact execMidTestEnd_answers _ _ _ _ _ _ _ _ _
  -- one next state
  | _ => exact .next _

/-- Settles O6, by the branches of every command's meaning. -/
theorem everyCommandAnswers : Obligations.EveryCommandAnswers := by
  unfold Obligations.EveryCommandAnswers
  exact exec_answers

end Sys2Proof.Machine
end

section
/-!
PROOF. The event collector: what raising an event and writing a record do, and the registers of its ring (R26 to R31).
-/

namespace Sys2Proof.Machine

/-- Settles O3, by evaluation of the reset state. -/
theorem resetTablesAreCanonical : Obligations.ResetTablesAreCanonical := by
  unfold Obligations.ResetTablesAreCanonical
  exact ⟨by decide, rfl⟩

/-- A raise by a block: what EVENT_RAISED does of a code that is defined with its severity, from a source that may raise it. -/
theorem exec_eventRaised {s : State} {source code : BitVec 16} {severity : BitVec 4} (detail : BitVec 128)
    (hd : eventDefined code.toNat severity.toNat = true) (hs : eventSource source.toNat code.toNat = true) :
    exec (.eventRaised source code severity detail) s = .next (s.raise source.toNat code.toNat severity.toNat detail.toNat) := by
  change s.when _ _ = _
  simp [State.when, hd, hs]

theorem raiseIn_of_find_some {m : Map EventRec} {key : Nat} {r : EventRec} (h : Map.find m key = some r) (time sev detail : Nat) :
    raiseIn m key time sev detail = Map.put m key { r with repeats := min (r.repeats + 1) 4095 } := by
  simp [raiseIn, h]

theorem raiseIn_of_find_none {m : Map EventRec} {key : Nat} (h : Map.find m key = none) (time sev detail : Nat) :
    raiseIn m key time sev detail = Map.put m key (newEvent time sev detail) := by
  simp [raiseIn, h]

theorem find_raiseIn_ne (m : Map EventRec) {key k : Nat} (time sev detail : Nat) (h : k ≠ key) :
    Map.find (raiseIn m key time sev detail) k = Map.find m k := by
  unfold raiseIn
  split <;> exact Map.find_put_ne m _ h

theorem State.raise_events (s : State) (source code sev detail : Nat) :
    (s.raise source code sev detail).events = raiseIn s.events (evKey source code) s.time.toNat sev (detail % 2 ^ 128) := rfl

/-- Settles O11, by what a raise does to the table of records where one of that key is pending. -/
theorem repeatedEventCounts : Obligations.RepeatedEventCounts := by
  unfold Obligations.RepeatedEventCounts
  intro s source code severity detail r hr hd hs
  refine ⟨_, exec_eventRaised detail hd hs, ?_, fun k hk => ?_, Leaves.refl.raise _ _ _ _ (by simp)⟩
  · rw [State.raise_events, raiseIn_of_find_some hr]
    exact Map.find_put_self ..
  · exact find_raiseIn_ne _ _ _ _ hk

/-- The ring refuses a record where it is full or not enabled (R30). -/
theorem State.ringRefuses_iff (s : State) : s.ringRefuses = true ↔
    s.flag Reg.DEV_RING_EN 0 = false ∨ (s.getR Reg.DEV_RING_WP 0 + 1) % 2 ^ s.ringLog = s.getR Reg.DEV_RING_RP 0 := by
  simp [State.ringRefuses, State.ringFull]

theorem State.urgent_of_lt (s : State) {n : Nat} (h : n < 3) : s.urgent n = s := if_neg (by omega)

theorem State.urgent_of_le (s : State) {n : Nat} (h : 3 ≤ n) : s.urgent n = (s.irqEdge 1).msix 0 2 := if_pos h

theorem State.recordWrite_of_none {s : State} {source code : Nat} (h : Map.find s.events (evKey source code) = none) :
    s.recordWrite source code = s := by
  simp [State.recordWrite, h]

theorem State.recordWrite_of_refused {s : State} {source code : Nat} {r : EventRec}
    (h : Map.find s.events (evKey source code) = some r) (hr : s.ringRefuses = true) :
    s.recordWrite source code = ((s.dropEvent (evKey source code)).urgent r.severity).ringDiscard := by
  simp [State.recordWrite, h, hr]

theorem State.recordWrite_of_taken {s : State} {source code : Nat} {r : EventRec}
    (h : Map.find s.events (evKey source code) = some r) (hr : s.ringRefuses = false) :
    s.recordWrite source code = (((s.dropEvent (evKey source code)).urgent r.severity).ringStore source code r).getD s := by
  simp [State.recordWrite, h, hr]

/-- Settles O12, by the cases of a raise and of a record's write. -/
theorem eventCollectorCompletes : Obligations.EventCollectorCompletes := by
  unfold Obligations.EventCollectorCompletes
  refine ⟨?_, ?_, ?_, ?_, ?_, ?_, fun _ _ => rfl, fun _ => rfl⟩
  · intro s source code severity detail hn hd hs
    refine ⟨_, exec_eventRaised detail hd hs, ?_, fun k hk => ?_, Leaves.refl.raise _ _ _ _ (by simp)⟩
    · rw [State.raise_events, raiseIn_of_find_none hn, Nat.mod_eq_of_lt detail.isLt]
      exact Map.find_put_self ..
    · exact find_raiseIn_ne _ _ _ _ hk
  · intro s source code severity detail h
    change s.when _ _ = _
    rcases h with h | h <;> simp [State.when, h]
  · intro s source code r hr href hsev
    have hdis := State.recordWrite_of_refused hr (s.ringRefuses_iff.mpr href)
    rw [State.urgent_of_lt _ hsev] at hdis
    exact congrArg _ hdis
  · intro s source code r hr hen hfull hsev
    have hacc : s.ringRefuses = false := by
      rw [Bool.eq_false_iff, Ne, s.ringRefuses_iff]
      simp [hen, hfull]
    have hst := State.recordWrite_of_taken hr hacc
    rw [State.urgent_of_lt _ hsev] at hst
    exact congrArg _ hst
  · intro s source code r hr href hsev
    have hdis := State.recordWrite_of_refused hr href
    rw [State.urgent_of_le _ hsev] at hdis
    exact congrArg _ hdis
  · intro s source code hn
    exact congrArg _ (State.recordWrite_of_none hn)

theorem exec_eventRingConfigWrite (off : Nat) (value : BitVec 32) (s : State) :
    exec (.eventRingConfigWrite off value) s = .next (s.ringConfig off value.toNat) := rfl

/-- Settles O13, by the cases of `State.ringConfig`. -/
theorem ringConfigurationIsFrozenWhileEnabled : Obligations.RingConfigurationIsFrozenWhileEnabled := by
  unfold Obligations.RingConfigurationIsFrozenWhileEnabled
  simp only [exec_eventRingConfigWrite]
  refine ⟨fun s off value hen hoff => ?_, fun s value hen => ?_, fun s value hen hlog => ?_, fun s value hen hlog => ?_,
    fun s value hen => ⟨?_, ?_⟩⟩
  · rcases hoff with rfl | rfl <;> simp [State.ringConfig, hen]
  · simp [State.ringConfig, hen]
  · simp [State.ringConfig, hen, hlog]
  · simp [State.ringConfig, hen, hlog]
  · simp [State.ringConfig, hen]
  · simp [State.ringConfig, hen]

end Sys2Proof.Machine
end

section
/-!
PROOF. The shared memories hold what was last written (R19, R465 to R485, R503 to R507): an aligned address names one word, a write leaves the stored words of
all other addresses, and a merge under byte enables replaces the enabled bytes alone.
-/

namespace Sys2Proof.Machine

/-! ### Words -/

theorem State.word_putWord_self (s : State) (k : Nat) (w : MemWord) : (s.putWord k w).word k = w := by
  simp [State.putWord, State.word]

theorem State.word_putWord_ne (s : State) {j k : Nat} (w : MemWord) (h : j ≠ k) : (s.putWord k w).word j = s.word j :=
  Map.get_set_ne _ _ _ _ h

theorem State.word_congr {s t : State} (h : t.mem = s.mem) (k : Nat) : t.word k = s.word k := by
  simp [State.word, h]

theorem unitCls_unitNo (c : Nat) {bd i : Nat} (hb : bd < 32) (hi : i < 128) : unitCls (unitNo c bd i) = c := by
  unfold unitCls unitNo; omega

theorem unitBd_unitNo (c : Nat) {bd i : Nat} (hb : bd < 32) (hi : i < 128) : unitBd (unitNo c bd i) = bd := by
  unfold unitBd unitNo; omega

theorem unitIdx_unitNo (c : Nat) {bd i : Nat} (hi : i < 128) : unitIdx (unitNo c bd i) = i := by
  unfold unitIdx unitNo; omega

/-- An aligned address of a unit is the address of the word that it names (R19, R465). -/
theorem unitAddr_of_unitOf {a u w : Nat} (ha : a % 8 = 0) (h : unitOf a = some (u, w)) : unitAddr u w = a := by
  unfold unitOf at h
  by_cases h0 : 0x4000000000 ≤ a ∧ a < 0x4004000000
  · rw [if_pos h0] at h
    obtain ⟨rfl, rfl⟩ := h
    have hb : (a - 0x4000000000) / 0x1000000 < 32 := by omega
    have hi : (a - 0x4000000000) % 0x1000000 / 0x40000 < 128 := by omega
    simp only [unitAddr, unitCls_unitNo 0 hb hi, unitBd_unitNo 0 hb hi, unitIdx_unitNo 0 hi, if_true]
    omega
  rw [if_neg h0] at h
  by_cases h1 : 0x4100000000 ≤ a ∧ a < 0x4102000000
  · rw [if_pos h1] at h
    obtain ⟨rfl, rfl⟩ := h
    have hb : (a - 0x4100000000) / 0x800000 < 32 := by omega
    have hi : 8 * ((a - 0x4100000000) % 0x800000 / 0x200000) + (a - 0x4100000000) % 0x800000 % 0x200000 / 8 % 8 < 128 := by omega
    simp only [unitAddr, unitCls_unitNo 1 hb hi, unitBd_unitNo 1 hb hi, unitIdx_unitNo 1 hi, one_ne_zero, if_false, if_true]
    omega
  rw [if_neg h1] at h
  by_cases h2 : 0x4200000000 ≤ a ∧ a < 0x4202000000
  · rw [if_pos h2] at h
    by_cases h3 : (a - 0x4200000000) % 0x40000 / 0x10000 < 3
    · simp only [h3, if_true] at h
      obtain ⟨rfl, rfl⟩ := h
      have hb : (a - 0x4200000000) / 0x40000 / 32 < 32 := by omega
      have hi : 3 * ((a - 0x4200000000) / 0x40000 % 32) + (a - 0x4200000000) % 0x40000 / 0x10000 < 128 := by omega
      simp only [unitAddr, unitCls_unitNo 2 hb hi, unitBd_unitNo 2 hb hi, unitIdx_unitNo 2 hi, OfNat.ofNat_ne_zero, OfNat.ofNat_ne_one, if_false]
      omega
    · simp only [h3, if_false, reduceCtorEq] at h
  · simp only [h2, if_false, reduceCtorEq] at h

/-! ### What leaves the stored words -/

theorem State.suspectRow_mem (s : State) (u row : Nat) : (s.suspectRow u row).mem = s.mem := by
  unfold State.suspectRow
  extract_lets
  split_ifs <;> rfl

theorem State.trkCount_mem (s : State) (u w : Nat) : (s.trkCount u w).mem = s.mem := by
  unfold State.trkCount
  extract_lets
  split
  · exact (apply_ite State.mem ..).trans (by simp [State.suspectRow_mem, State.putTrk, State.setR])
  · split_ifs
    · rfl
    · exact State.suspectRow_mem _ _ _
    · rfl

theorem State.ceCount_mem (s : State) (u : Nat) : (s.ceCount u).mem = s.mem := by
  unfold State.ceCount
  split_ifs <;> rfl

/-- What an error that a partial write finds reports leaves every stored word. -/
theorem State.memCe_mem (s : State) (u w b req : Nat) : (s.memCe u w b req).mem = s.mem :=
  (State.trkCount_mem _ _ _).trans (State.ceCount_mem _ _)

/-! ### Merging bytes under enables -/

/-- The mask of one byte of a word. -/
theorem testBit_byteMask (i j : Nat) : (0xFF * 2 ^ (8 * i)).testBit j = decide (j / 8 = i) := by
  have h255 : (0xFF : Nat) = 2 ^ 8 - 1 := rfl
  rw [h255, ← Nat.shiftLeft_eq, Nat.testBit_shiftLeft, Nat.testBit_two_pow_sub_one, ← Bool.decide_and]
  exact decide_eq_decide.mpr (by omega)

/-- The bytes of a merge over the first n bytes. -/
theorem getLsbD_mergeUpTo (old new : BitVec 64) (be n j : Nat) (hj : j < 64) :
    ((List.range n).foldl (fun acc i =>
      if nbit be i then (acc &&& ~~~(BitVec.ofNat 64 (0xFF * 2 ^ (8 * i)))) ||| (new &&& BitVec.ofNat 64 (0xFF * 2 ^ (8 * i)))
      else acc) old).getLsbD j = if j / 8 < n ∧ nbit be (j / 8) = true then new.getLsbD j else old.getLsbD j := by
  induction n with
  | zero => simp
  | succ n ih =>
    rw [List.range_succ, List.foldl_append]
    simp only [List.foldl_cons, List.foldl_nil]
    by_cases hn : nbit be n = true
    · rw [if_pos hn]
      simp only [BitVec.getLsbD_or, BitVec.getLsbD_and, BitVec.getLsbD_not, BitVec.getLsbD_ofNat, hj, decide_true, Bool.true_and,
        testBit_byteMask, ih]
      by_cases hjn : j / 8 = n
      · simp [hjn, hn]
      · have : j / 8 < n + 1 ↔ j / 8 < n := by omega
        simp [hjn, this]
    · rw [if_neg hn, ih]
      by_cases hjn : j / 8 = n
      · simp [hjn, hn]
      · have : j / 8 < n + 1 ↔ j / 8 < n := by omega
        simp [this]

theorem getLsbD_mergeBytes (old new : BitVec 64) (be : Nat) {j : Nat} (hj : j < 64) :
    (mergeBytes old new be).getLsbD j = if nbit be (j / 8) then new.getLsbD j else old.getLsbD j := by
  have h8 : j / 8 < 8 := by omega
  unfold mergeBytes
  simp [getLsbD_mergeUpTo old new be 8 j hj, h8]

/-- Byte i of a word, as the number that a statement reads. -/
theorem byte_eq_of_getLsbD {x y : BitVec 64} {i : Nat} (h : ∀ j, j / 8 = i → x.getLsbD j = y.getLsbD j) :
    x.toNat / 2 ^ (8 * i) % 256 = y.toNat / 2 ^ (8 * i) % 256 := by
  refine Nat.eq_of_testBit_eq fun k => ?_
  rw [show (256 : Nat) = 2 ^ 8 from rfl, Nat.testBit_mod_two_pow, Nat.testBit_mod_two_pow, Nat.testBit_div_two_pow, Nat.testBit_div_two_pow]
  by_cases hk : k < 8
  · have := h (k + 8 * i) (by omega)
    simp only [BitVec.getLsbD] at this
    simp [this]
  · simp [hk]

/-- A byte of a merge is the new one where it is enabled, and else the old one. -/
theorem byte_mergeBytes (old new : BitVec 64) (be : Nat) {i : Nat} (hi : i < 8) :
    (mergeBytes old new be).toNat / 2 ^ (8 * i) % 256 =
      if nbit be i then new.toNat / 2 ^ (8 * i) % 256 else old.toNat / 2 ^ (8 * i) % 256 := by
  split
  next h =>
    exact byte_eq_of_getLsbD fun j hj => by rw [getLsbD_mergeBytes old new be (by omega), hj, if_pos h]
  next h =>
    exact byte_eq_of_getLsbD fun j hj => by rw [getLsbD_mergeBytes old new be (by omega), hj, if_neg h]

theorem mergeBytes_all (old new : BitVec 64) : mergeBytes old new 0xFF = new := by
  refine BitVec.eq_of_getLsbD_eq fun j hj => ?_
  have hb : nbit 0xFF (j / 8) = true := by
    have : ∀ i < 8, nbit 0xFF i = true := by decide
    exact this _ (by omega)
  rw [getLsbD_mergeBytes _ _ _ hj, if_pos hb]

/-! ### Reads and writes of a unit's word -/

theorem State.readWord_of_unit (s : State) {a u w : Nat} (req : Nat) (h : unitOf a = some (u, w)) :
    s.readWord a req = s.unitRead u w req none := by
  simp [State.readWord, h]

theorem State.writeWord_of_unit (s : State) {a u w : Nat} (req : Nat) (new : BitVec 64) (be : Nat) (poison : Bool) (win : Nat)
    (h : unitOf a = some (u, w)) : s.writeWord a req new be poison win = s.unitWrite u w req new be win poison := by
  simp [State.writeWord, h]

/-- A read of a valid word with no error or with stored poison delivers it as it is stored. -/
theorem State.unitRead_stored (s : State) {u w : Nat} (req : Nat) {d : BitVec 64} {p : Bool}
    (h : s.word (unitAddr u w / 8) = ⟨d, true, if p then .poison else .clean⟩) : (s.unitRead u w req none).1 = ⟨d, p⟩ := by
  cases p <;> simp [State.unitRead, h, upsetWord]

/-- A write of a unit's word changes no other stored word. -/
theorem State.unitWrite_word_ne (s : State) (u w req : Nat) (new : BitVec 64) (be win : Nat) (poison : Bool) {k : Nat}
    (h : k ≠ unitAddr u w / 8) : (s.unitWrite u w req new be win poison).word k = s.word k := by
  have put : ∀ (t : State) (x : MemWord), t.mem = s.mem → (t.putWord (unitAddr u w / 8) x).word k = s.word k :=
    fun t x ht => (t.word_putWord_ne x h).trans (State.word_congr ht k)
  unfold State.unitWrite
  extract_lets
  split
  · rfl
  split
  · exact put _ _ rfl
  split
  · exact put _ _ rfl
  split
  · exact put _ _ rfl
  split
  · exact put _ _ rfl
  · refine put _ _ ?_
    split
    · rfl
    · exact State.memCe_mem _ _ _ _ _
  · exact put _ _ rfl
  · exact put _ _ rfl

theorem State.unitWrite_full (s : State) (u w req : Nat) (new : BitVec 64) (poison : Bool) :
    s.unitWrite u w req new 0xFF 0 poison = (s.rqDrop u w).putWord (unitAddr u w / 8) ⟨new, true, if poison then .poison else .clean⟩ := by
  simp [State.unitWrite]

/-- A write under byte enables of a word with no error leaves it so, with the enabled bytes combined. -/
theorem State.unitWrite_clean (s : State) (u w req : Nat) (new : BitVec 64) {be : Nat} (win : Nat)
    (hv : (s.word (unitAddr u w / 8)).valid = true) (hm : (s.word (unitAddr u w / 8)).mark = .clean) (hbe : be ≠ 0) :
    s.unitWrite u w req new be win false
      = (s.rqDrop u w).putWord (unitAddr u w / 8) ⟨combine win (s.word (unitAddr u w / 8)).data new be, true, .clean⟩ := by
  by_cases hfull : be = 0xFF ∧ win = 0
  · obtain ⟨rfl, rfl⟩ := hfull
    rw [State.unitWrite_full]
    simp [combine, mergeBytes_all]
  · simp [State.unitWrite, hbe, hfull, hv, hm, corrected]

/-! ### Reads and writes of an LPDDR5X word -/

theorem unitOf_of_lpddr {a : Nat} (h : a < 0x4000000000) : unitOf a = none := by
  unfold unitOf
  rw [if_neg (by omega), if_neg (by omega), if_neg (by omega)]

theorem State.lp_modLp_self (s : State) (n : Nat) (f : Lpx → Lpx) : (s.modLp n f).lp n = f (s.lp n) := by
  simp [State.lp, State.modLp]

theorem State.lp_modLp_ne (s : State) {n m : Nat} (f : Lpx → Lpx) (h : m ≠ n) : (s.modLp n f).lp m = s.lp m :=
  Map.get_set_ne _ _ _ _ h

theorem State.lp_putWord (s : State) (k : Nat) (w : MemWord) (n : Nat) : (s.putWord k w).lp n = s.lp n := rfl

/-- Which channel serves an address depends on the registers and on which channels have answered nothing since their reset. -/
theorem State.lpxMap_congr {s t : State} (hr : t.regs = s.regs) (hl : ∀ m, (t.lp m).afterReset = (s.lp m).afterReset) (a : Nat) :
    t.lpxMap a = s.lpxMap a := by
  unfold State.lpxMap State.lpxInterleaveOk State.lpxServes State.flag State.getR
  simp only [hr, hl]

/-- A full write of a word of a channel with inline ECC. -/
theorem State.lpxWrite_full (s : State) (n loc addr req : Nat) (new : BitVec 64) (poison : Bool) (h : (s.lp n).inl = true) :
    s.lpxWrite n loc addr req new 0xFF poison = (s.modLp n (fun c => { c with wb := c.wb.filter (fun e => decide (e.1 ≠ loc)) })).putWord
      (lpxKey n loc) ⟨new, true, if poison then .poison else .clean⟩ := by
  simp [State.lpxWrite, h]

theorem State.lpxWrite_full_regs (s : State) {n : Nat} (loc addr req : Nat) (new : BitVec 64) (poison : Bool) (h : (s.lp n).inl = true) :
    (s.lpxWrite n loc addr req new 0xFF poison).regs = s.regs := by
  rw [State.lpxWrite_full _ _ _ _ _ _ _ h]; rfl

theorem State.lpxWrite_full_afterReset (s : State) {n : Nat} (loc addr req : Nat) (new : BitVec 64) (poison : Bool)
    (h : (s.lp n).inl = true) (m : Nat) :
    ((s.lpxWrite n loc addr req new 0xFF poison).lp m).afterReset = (s.lp m).afterReset := by
  rw [State.lpxWrite_full _ _ _ _ _ _ _ h, State.lp_putWord]
  by_cases hm : m = n
  · rw [hm, State.lp_modLp_self]
  · rw [State.lp_modLp_ne _ _ hm]

/-- A read of a valid word of a channel with inline ECC, without an error or with stored poison, delivers it as it is stored. -/
theorem State.lpxRead_stored (s : State) {n loc : Nat} (addr : Nat) {d : BitVec 64} {p : Bool} (hi : (s.lp n).inl = true)
    (h : s.word (lpxKey n loc) = ⟨d, true, if p then .poison else .clean⟩) : (s.lpxRead n loc addr none).1 = ⟨d, p⟩ := by
  cases p <;> simp [State.lpxRead, h, hi, upsetWord]

/-! ### The statement -/

/-- A word of a unit reads back as it was written in full (R480, R483). -/
theorem State.readWord_writeWord_unit (s : State) {a u w : Nat} (req req2 : Nat) (new : BitVec 64) (poison : Bool)
    (h : unitOf a = some (u, w)) : ((s.writeWord a req new 0xFF poison).readWord a req2).1 = ⟨new, poison⟩ := by
  rw [State.writeWord_of_unit _ _ _ _ _ _ h, State.readWord_of_unit _ _ h, State.unitWrite_full]
  exact State.unitRead_stored _ _ (State.word_putWord_self _ _ _)

/-- A word of a mapped channel with inline ECC reads back as it was written in full (R507). -/
theorem State.readWord_writeWord_lpddr (s : State) {a n loc : Nat} (req req2 : Nat) (new : BitVec 64) (poison : Bool)
    (hmap : s.lpxMap a = some (n, loc)) (ha : a < 0x4000000000) (hi : (s.lp n).inl = true) :
    ((s.writeWord a req new 0xFF poison).readWord a req2).1 = ⟨new, poison⟩ := by
  have hw : s.writeWord a req new 0xFF poison = s.lpxWrite n loc a req new 0xFF poison := by
    simp [State.writeWord, unitOf_of_lpddr ha, ha, hmap]
  have hserves := State.lpxMap_congr (s.lpxWrite_full_regs loc a req new poison hi) (s.lpxWrite_full_afterReset loc a req new poison hi) a
  have hr : ∀ t : State, t.lpxMap a = some (n, loc) → t.readWord a req2 = t.lpxRead n loc a none := fun t ht => by
    simp [State.readWord, unitOf_of_lpddr ha, ha, ht]
  rw [hw, hr _ (hserves.trans hmap)]
  refine State.lpxRead_stored _ a ?_ ?_ <;> rw [State.lpxWrite_full _ _ _ _ _ _ _ hi]
  · rw [State.lp_putWord, State.lp_modLp_self]
    exact hi
  · exact State.word_putWord_self _ _ _

/-- A byte of a combined write, by the window through which it came (R473, R474). -/
theorem byte_combine (win : Nat) (old new : BitVec 64) (be : Nat) {i : Nat} (hi : i < 8) :
    (combine win old new be).toNat / 2 ^ (8 * i) % 256 =
      if nbit be i = false then old.toNat / 2 ^ (8 * i) % 256
      else if win = 1 then (old ||| new).toNat / 2 ^ (8 * i) % 256
      else if win = 2 then (old &&& ~~~new).toNat / 2 ^ (8 * i) % 256
      else new.toNat / 2 ^ (8 * i) % 256 := by
  unfold combine
  split_ifs <;> simp_all [byte_mergeBytes]

/-- Settles O45: an aligned address is the address of its unit's word, so a write reaches that word and no other. -/
theorem memoryHoldsWhatWasWritten : Obligations.MemoryHoldsWhatWasWritten := by
  unfold Obligations.MemoryHoldsWhatWasWritten
  refine ⟨?_, ?_, fun s a req req2 n loc new poison ⟨hmap, ha⟩ hi => s.readWord_writeWord_lpddr req req2 new poison hmap ha hi⟩
  · intro s a req req2 be win new poison ha hu
    obtain ⟨⟨u, w⟩, h⟩ := Option.ne_none_iff_exists'.mp hu
    refine ⟨s.readWord_writeWord_unit req req2 new poison h, fun b hb _ hne => ?_⟩
    rw [State.writeWord_of_unit _ _ _ _ _ _ h]
    exact s.unitWrite_word_ne u w req new be win poison (by rw [unitAddr_of_unitOf ha h]; omega)
  · intro s a req req2 be win new ha hu ⟨hv, hm⟩ ⟨hbe, _⟩
    obtain ⟨⟨u, w⟩, h⟩ := Option.ne_none_iff_exists'.mp hu
    refine ⟨?_, fun i hi => byte_combine win _ new be hi⟩
    rw [← unitAddr_of_unitOf ha h] at hv hm
    rw [State.writeWord_of_unit _ _ _ _ _ _ h, State.readWord_of_unit _ _ h, State.unitWrite_clean _ _ _ _ _ _ hv hm hbe,
      unitAddr_of_unitOf ha h]
    exact State.unitRead_stored _ _ (by rw [unitAddr_of_unitOf ha h]; exact State.word_putWord_self _ _ _)

end Sys2Proof.Machine
end

section
/-!
SUPPORT. Frames by fields: the parts of the state and the register fields that an operation may write, where `Leaves` names single elements. `Within ps W s t`
is built along an operation's updates, one law each; the parts outside ps and the fields outside W are then read off.
-/

namespace Sys2Proof.Machine

/-- From s to t at most the parts ps and the fields that satisfy W are written. -/
def Within (ps : List Part) (W : Field → Prop) (s t : State) : Prop :=
  (∀ p, p ∉ ps → p.same s t) ∧
    ∀ (g : Field) (i : Nat), (∀ f, W f → g.id % Field.idBound ≠ f.id % Field.idBound) → t.getR g i = s.getR g i

/-- Every field may be written. -/
def anyField : Field → Prop := fun _ => True

/-- Every part but Tabirair time may be written. -/
def untimed : List Part :=
  [.free, .resp, .events, .tb, .fab, .ic, .noc, .thy, .mem, .chip, .lpx, .lanes, .tio, .pge, .fce, .dlk, .mid, .msp, .sage, .dawn, .pcie, .dbg]

/-- A table filtered by its keys lists what it did at a key that stays, and nothing at one that goes. -/
theorem Map.find_filter_key {α : Type} (p : Nat → Bool) (m : Map α) (k : Nat) :
    Map.find (m.filter (fun e => p e.1)) k = if p k then Map.find m k else none := by
  induction m with
  | nil => simp [Map.find]
  | cons e m ih =>
    obtain ⟨j, v⟩ := e
    by_cases hj : p j = true
    · rw [List.filter_cons_of_pos (by exact hj), Map.find, Map.find, ih]
      by_cases hk : k = j
      · simp [hk, hj]
      · simp [hk]
    · rw [List.filter_cons_of_neg (by exact hj), ih]
      by_cases hk : k = j
      · simp [hk, hj]
      · simp [Map.find, hk]

/-- The keys that a reset of fields `fs` in elements `lo` to `lo + n - 1` keeps. -/
def rangeKeeps (fs : List Field) (lo n k : Nat) : Bool :=
  !(fs.any (fun g => decide (g.id % Field.idBound = k % Field.idBound)) && decide (lo ≤ k / Field.idBound) && decide (k / Field.idBound < lo + n))

theorem State.resetRange_regs (s : State) (fs : List Field) (lo n : Nat) :
    (s.resetRange fs lo n).regs = s.regs.filter (fun e => rangeKeeps fs lo n e.1) := rfl

theorem Field.key_mod (f : Field) (i : Nat) : f.key i % Field.idBound = f.id % Field.idBound := by simp [Field.key, Nat.add_mul_mod_self_left]

theorem Field.key_div (f : Field) (i : Nat) : f.key i / Field.idBound = i := by
  rw [Field.key, Nat.add_mul_div_left _ _ (by decide), Nat.div_eq_of_lt (Nat.mod_lt _ (by decide)), Nat.zero_add]

variable {ps : List Part} {W : Field → Prop} {s t u : State}

theorem State.getR_resetRange_in (s : State) {fs : List Field} {f : Field} (hf : f ∈ fs) {lo n i : Nat} (hlo : lo ≤ i) (hi : i < lo + n) :
    (s.resetRange fs lo n).getR f i = f.rst i := by
  have hany : fs.any (fun g => decide (g.id % Field.idBound = f.id % Field.idBound)) = true := List.any_eq_true.2 ⟨f, hf, by simp⟩
  have hgoes : rangeKeeps fs lo n (f.key i) = false := by simp only [rangeKeeps, Field.key_mod, Field.key_div, hany, hlo, hi, decide_true, Bool.and_self,
    Bool.not_true]
  rw [State.getR, State.resetRange_regs, Map.get, Map.find_filter_key, hgoes]
  rfl

theorem State.getR_resetRange_id (s : State) {fs : List Field} (lo n : Nat) {f : Field} (i : Nat)
    (hf : ∀ g ∈ fs, f.id % Field.idBound ≠ g.id % Field.idBound) : (s.resetRange fs lo n).getR f i = s.getR f i := by
  have hany : fs.any (fun g => decide (g.id % Field.idBound = f.id % Field.idBound)) = false :=
    List.any_eq_false.2 fun g hg => by simpa using (hf g hg).symm
  have hstays : rangeKeeps fs lo n (f.key i) = true := by simp only [rangeKeeps, Field.key_mod, hany, Bool.false_and, Bool.not_false]
  rw [State.getR, State.resetRange_regs, Map.get, Map.find_filter_key, if_pos hstays]
  rfl

theorem Part.same_trans {p : Part} (h : p.same s t) (k : p.same t u) : p.same s u := by
  cases p <;> exact Eq.trans k h

theorem Within.refl (s : State) : Within ps W s s := ⟨fun p _ => by cases p <;> rfl, fun _ _ _ => rfl⟩

theorem Within.trans (h : Within ps W s t) (k : Within ps W t u) : Within ps W s u :=
  ⟨fun p hp => Part.same_trans (h.1 p hp) (k.1 p hp), fun g i hg => (k.2 g i hg).trans (h.2 g i hg)⟩

/-- A wider frame. -/
theorem Within.mono {qs : List Part} {V : Field → Prop} (h : Within ps W s t) (hp : ∀ p ∈ ps, p ∈ qs) (hW : ∀ f, W f → V f) : Within qs V s t :=
  ⟨fun p n => h.1 p (fun m => n (hp p m)), fun g i hg => h.2 g i (fun f hf => hg f (hW f hf))⟩

theorem Within.ite {c : Prop} [Decidable c] (ht : Within ps W s t) (hu : Within ps W s u) : Within ps W s (if c then t else u) := by
  split <;> assumption

theorem Within.foldl {α : Type} {f : State → α → State} (h : Within ps W s t) (hf : ∀ v a, Within ps W s v → Within ps W s (f v a)) (l : List α) :
    Within ps W s (l.foldl f t) := by
  induction l generalizing t with
  | nil => exact h
  | cons a l ih => exact ih (hf t a h)

/-- A field outside W reads as before. -/
theorem Within.getR_eq (h : Within ps W s t) (g : Field) (i : Nat) (hg : ∀ f, W f → g.id % Field.idBound ≠ f.id % Field.idBound) :
    t.getR g i = s.getR g i := h.2 g i hg

/-- A part outside ps is as before. -/
theorem Within.part_eq (h : Within ps W s t) (p : Part) (hp : p ∉ ps) : p.same s t := h.1 p hp

/-- The law of an update of one part that writes no register. -/
theorem Within.part {ps : List Part} (h : Within ps W s t) (p : Part) (hp : p ∈ ps) (hsame : ∀ q, q ≠ p → q.same t u) (hregs : u.regs = t.regs) :
    Within ps W s u :=
  h.trans ⟨fun q hq => hsame q (fun e => hq (e ▸ hp)), fun g i _ => by simp [State.getR, hregs]⟩

theorem Within.setR (h : Within ps W s t) (f : Field) (i v : Nat) (hf : W f) : Within ps W s (t.setR f i v) :=
  h.trans ⟨fun p _ => by cases p <;> rfl, fun g j hg => t.getR_setR_id f g i j v (hg f hf)⟩

theorem Within.modResp (h : Within ps W s t) (f : Resp → Resp) (hp : Part.resp ∈ ps) : Within ps W s (t.modResp f) :=
  h.part .resp hp (by intro q hq; cases q <;> first | rfl | exact absurd rfl hq) rfl

theorem Within.modEvents (h : Within ps W s t) (f : Map EventRec → Map EventRec) (hp : Part.events ∈ ps) : Within ps W s (t.modEvents f) :=
  h.part .events hp (by intro q hq; cases q <;> first | rfl | exact absurd rfl hq) rfl

theorem Within.modFab (h : Within ps W s t) (f : Fabric → Fabric) (hp : Part.fab ∈ ps) : Within ps W s (t.modFab f) :=
  h.part .fab hp (by intro q hq; cases q <;> first | rfl | exact absurd rfl hq) rfl

theorem Within.modIc (h : Within ps W s t) (f : Interconnect → Interconnect) (hp : Part.ic ∈ ps) : Within ps W s (t.modIc f) :=
  h.part .ic hp (by intro q hq; cases q <;> first | rfl | exact absurd rfl hq) rfl

theorem Within.modNoc (h : Within ps W s t) (f : Noc → Noc) (hp : Part.noc ∈ ps) : Within ps W s (t.modNoc f) :=
  h.part .noc hp (by intro q hq; cases q <;> first | rfl | exact absurd rfl hq) rfl

theorem Within.modThy (h : Within ps W s t) (f : Thyme → Thyme) (hp : Part.thy ∈ ps) : Within ps W s (t.modThy f) :=
  h.part .thy hp (by intro q hq; cases q <;> first | rfl | exact absurd rfl hq) rfl

theorem Within.modMem (h : Within ps W s t) (f : Map MemWord → Map MemWord) (hp : Part.mem ∈ ps) : Within ps W s (t.modMem f) :=
  h.part .mem hp (by intro q hq; cases q <;> first | rfl | exact absurd rfl hq) rfl

theorem Within.modChip (h : Within ps W s t) (f : OnChip → OnChip) (hp : Part.chip ∈ ps) : Within ps W s (t.modChip f) :=
  h.part .chip hp (by intro q hq; cases q <;> first | rfl | exact absurd rfl hq) rfl

theorem Within.modLpx (h : Within ps W s t) (f : Map Lpx → Map Lpx) (hp : Part.lpx ∈ ps) : Within ps W s (t.modLpx f) :=
  h.part .lpx hp (by intro q hq; cases q <;> first | rfl | exact absurd rfl hq) rfl

theorem Within.modLanes (h : Within ps W s t) (f : Lanes → Lanes) (hp : Part.lanes ∈ ps) : Within ps W s (t.modLanes f) :=
  h.part .lanes hp (by intro q hq; cases q <;> first | rfl | exact absurd rfl hq) rfl

theorem Within.modTio (h : Within ps W s t) (f : Tio → Tio) (hp : Part.tio ∈ ps) : Within ps W s (t.modTio f) :=
  h.part .tio hp (by intro q hq; cases q <;> first | rfl | exact absurd rfl hq) rfl

theorem Within.modPge (h : Within ps W s t) (f : Map Pge → Map Pge) (hp : Part.pge ∈ ps) : Within ps W s (t.modPge f) :=
  h.part .pge hp (by intro q hq; cases q <;> first | rfl | exact absurd rfl hq) rfl

theorem Within.modFce (h : Within ps W s t) (f : Map Fce → Map Fce) (hp : Part.fce ∈ ps) : Within ps W s (t.modFce f) :=
  h.part .fce hp (by intro q hq; cases q <;> first | rfl | exact absurd rfl hq) rfl

theorem Within.modMid (h : Within ps W s t) (f : List MidTest → List MidTest) (hp : Part.mid ∈ ps) : Within ps W s (t.modMid f) :=
  h.part .mid hp (by intro q hq; cases q <;> first | rfl | exact absurd rfl hq) rfl

theorem Within.modMsp (h : Within ps W s t) (f : Map Msp → Map Msp) (hp : Part.msp ∈ ps) : Within ps W s (t.modMsp f) :=
  h.part .msp hp (by intro q hq; cases q <;> first | rfl | exact absurd rfl hq) rfl

theorem Within.modSage (h : Within ps W s t) (f : Sage → Sage) (hp : Part.sage ∈ ps) : Within ps W s (t.modSage f) :=
  h.part .sage hp (by intro q hq; cases q <;> first | rfl | exact absurd rfl hq) rfl

theorem Within.modDawn (h : Within ps W s t) (f : Dawn → Dawn) (hp : Part.dawn ∈ ps) : Within ps W s (t.modDawn f) :=
  h.part .dawn hp (by intro q hq; cases q <;> first | rfl | exact absurd rfl hq) rfl

theorem Within.modPcie (h : Within ps W s t) (f : Pcie → Pcie) (hp : Part.pcie ∈ ps) : Within ps W s (t.modPcie f) :=
  h.part .pcie hp (by intro q hq; cases q <;> first | rfl | exact absurd rfl hq) rfl

theorem Within.modDbg (h : Within ps W s t) (f : Dbg → Dbg) (hp : Part.dbg ∈ ps) : Within ps W s (t.modDbg f) :=
  h.part .dbg hp (by intro q hq; cases q <;> first | rfl | exact absurd rfl hq) rfl

theorem Within.raise (h : Within ps W s t) (a b c d : Nat) (hp : Part.events ∈ ps) : Within ps W s (t.raise a b c d) :=
  h.modEvents _ hp

theorem Within.respond (h : Within ps W s t) (a b : Nat) (p : Bool) (hp : Part.resp ∈ ps) : Within ps W s (t.respond a b p) :=
  h.modResp _ hp

theorem Within.satAdd (h : Within ps W s t) (f : Field) (i n : Nat) (hf : W f) : Within ps W s (t.satAdd f i n) :=
  h.setR f i _ hf

theorem Within.wrapAdd (h : Within ps W s t) (f : Field) (i n : Nat) (hf : W f) : Within ps W s (t.wrapAdd f i n) :=
  h.setR f i _ hf

theorem Within.markCommit (h : Within ps W s t) (f : Field) (i : Nat) (hf : W f) : Within ps W s (t.markCommit f i) :=
  h.setR f i _ hf

theorem Within.resetFields (h : Within ps W s t) (fs : List Field) (i : Nat) (hf : ∀ f ∈ fs, W f) :
    Within ps W s (t.resetFields fs i) := by
  unfold State.resetFields
  induction fs generalizing t with
  | nil => exact h
  | cons f fs ih =>
    exact ih (h.setR f i _ (hf f (List.mem_cons_self ..))) (fun g hg => hf g (List.mem_cons_of_mem _ hg))

/-- A field put back at reset reads its reset value, where no later field of the list has its number. -/
theorem State.getR_resetFields (s : State) (l r : List Field) (f : Field) (i : Nat) (hr : ∀ g ∈ r, f.id % Field.idBound ≠ g.id % Field.idBound) :
    (s.resetFields (l ++ f :: r) i).getR f i = f.norm (f.rst i) := by
  have hrest : Within [] (fun g => g ∈ r) ((s.resetFields l i).setR f i (f.rst i)) (s.resetFields (l ++ f :: r) i) := by
    unfold State.resetFields
    rw [List.foldl_append, List.foldl_cons]
    exact (Within.refl _).resetFields r i (fun _ h => h)
  rw [hrest.getR_eq f i hr, State.getR_setR_self]

theorem Within.resetRange (h : Within ps W s t) (fs : List Field) (lo n : Nat) (hf : ∀ f ∈ fs, W f) :
    Within ps W s (t.resetRange fs lo n) :=
  h.trans ⟨fun p _ => by cases p <;> rfl, fun _ i hg => t.getR_resetRange_id lo n i fun f hm => hg f (hf f hm)⟩

theorem Within.setEach (h : Within ps W s t) (f : Field) (l : List Nat) (v : Nat) (hf : W f) :
    Within ps W s (t.setEach f l v) := h.foldl (fun _ i k => k.setR f i v hf) l

/-- Where every field may be written, so may the register store. -/
theorem Within.modRegs (h : Within ps anyField s t) (f : Map Nat → Map Nat) : Within ps anyField s (t.modRegs f) :=
  h.trans ⟨fun p _ => by cases p <;> rfl, fun g _ hg => absurd rfl (hg g trivial)⟩

theorem Within.irqEdge (h : Within ps W s t) (n : Nat) (hw : W Reg.PLIC_WAIT) (hp : W Reg.PLIC_PEND) :
    Within ps W s (t.irqEdge n) :=
  .ite h (.ite (h.satAdd _ _ _ hw) (h.setR _ _ _ hp))

theorem Within.irqLevel (h : Within ps W s t) (n : Nat) (v : Bool) (hl : W Reg.PLIC_LEVEL)
    (hp : W Reg.PLIC_PEND) : Within ps W s (t.irqLevel n v) :=
  .ite ((h.setR _ _ _ hl).setR _ _ _ hp) (h.setR _ _ _ hl)

theorem Within.enterSt (h : Within ps W s t) (f : Field) (i v src : Nat) (fin : List Nat) (hf : W f)
    (hw : W Reg.PLIC_WAIT) (hp : W Reg.PLIC_PEND) : Within ps W s (t.enterSt f i v src fin) :=
  .ite ((h.setR f i v hf).irqEdge src hw hp) (h.setR f i v hf)

theorem Within.modRegion (h : Within ps W s t) (rg : Nat) (f : RegionIc → RegionIc) (hp : Part.ic ∈ ps) :
    Within ps W s (t.modRegion rg f) := h.modIc _ hp

/-! ### Reads through other updates -/

theorem State.getR_congr (h : t.regs = s.regs) (f : Field) (i : Nat) : t.getR f i = s.getR f i := by simp [State.getR, h]

variable (s)

@[simp] theorem State.getR_raise (a b c d : Nat) (f : Field) (i : Nat) : (s.raise a b c d).getR f i = s.getR f i := rfl
@[simp] theorem State.getR_respond (a b : Nat) (p : Bool) (f : Field) (i : Nat) : (s.respond a b p).getR f i = s.getR f i := rfl
@[simp] theorem State.getR_modThy (k : Thyme → Thyme) (f : Field) (i : Nat) : (s.modThy k).getR f i = s.getR f i := rfl
@[simp] theorem State.getR_modFab (k : Fabric → Fabric) (f : Field) (i : Nat) : (s.modFab k).getR f i = s.getR f i := rfl

theorem State.when_true (t : State) {c : Bool} (h : c = true) : s.when c t = .next t := by simp [State.when, h]

theorem State.when_false (t : State) {c : Bool} (h : c = false) : s.when c t = .next s := by simp [State.when, h]

theorem State.when_self (c : Bool) : s.when c s = .next s := by simp [State.when]

end Sys2Proof.Machine
end

section
/-!
PROOF. The DCQ channels, select upsets and the network access point of a region (R154 to R169): each command by the conditions that its meaning looks at.
-/

namespace Sys2Proof.Machine

/-! ### DCQ channels -/

theorem State.dcq_modDcq_self (s : State) (c : Nat) (f : Dcq → Dcq) : (s.modDcq c f).dcq c = f (s.dcq c) := by
  simp [State.modDcq, State.dcq]

/-- A change of a channel leaves the rest of the interconnect, and every other part. -/
theorem State.modDcq_leaves (s : State) (c : Nat) (f : Dcq → Dcq) :
    (s.modDcq c f).ic.sels = s.ic.sels ∧ (s.modDcq c f).ic.xbar = s.ic.xbar ∧ (s.modDcq c f).ic.spines = s.ic.spines
      ∧ (s.modDcq c f).ic.regions = s.ic.regions ∧ Leaves [.ic] [] s (s.modDcq c f) :=
  ⟨rfl, rfl, rfl, rfl, Leaves.refl.modIc _ (by simp)⟩

theorem State.dcqWrite_unconfigured (s : State) (rg q : Nat) (data : BitVec 72) (h : (s.dcq (rg * 4 + q)).configured = false) :
    s.dcqWrite rg q data = s := by
  simp [State.dcqWrite, h]

/-- Nothing is lost at the writer of an isolated region, whose channel stays empty (R159). -/
theorem State.dcqWrite_isolated (s : State) (rg q : Nat) (data : BitVec 72) (hi : s.isolated rg = true)
    (hf : s.dcqFull (rg * 4 + q) = false) : s.dcqWrite rg q data = s := by
  simp [State.dcqWrite, hi, hf]

theorem State.dcqRead_present (s : State) (c : Nat) (h : 0 < (s.dcq c).present) :
    s.dcqRead c = s.modDcq c (fun d => { d with
      entries := d.entries.tail
      present := d.present - 1
      unreported := d.unreported + 1
      last := if 1 < d.present then d.entries.tail.head?.getD d.last else d.last }) := if_pos h

theorem State.dcqRead_empty (s : State) (c : Nat) (h : (s.dcq c).present = 0) : s.dcqRead c = s := if_neg (by omega)

/-! ### Select upsets -/

/-- The state in which a select has flipped one of its bits. -/
def State.selFlipped (s : State) (rg mux b : Nat) : State :=
  s.modIc (fun i => { i with sels := Map.set [] i.sels (muxKey rg (mux % 2 ^ 18)) (flipSel (Map.get [] s.ic.sels (muxKey rg (mux % 2 ^ 18))) b) })

/-- A select that is one-hot after its upset, or found bad before, makes no event (R161). -/
theorem exec_xbarSelUpset_quiet (s : State) (fd : Fin 8) (r : Fin 384) (mux b : Nat)
    (h : oneHot (flipSel (Map.get [] s.ic.sels (muxKey (rgn fd r) (mux % 2 ^ 18))) b) = true ∨ s.flag Reg.FAB_RGN_STAT_SELERR (rgn fd r) = true) :
    exec (.xbarSelUpset fd r mux b) s = .next (s.selFlipped (rgn fd r) mux b) := by
  change execXbarSelUpset fd r mux b s = _
  unfold execXbarSelUpset
  exact if_pos (by simpa using h)

theorem exec_xbarSelUpset_found (s : State) (fd : Fin 8) (r : Fin 384) (mux b : Nat)
    (hh : oneHot (flipSel (Map.get [] s.ic.sels (muxKey (rgn fd r) (mux % 2 ^ 18))) b) = false) (hs : s.flag Reg.FAB_RGN_STAT_SELERR (rgn fd r) = false) :
    exec (.xbarSelUpset fd r mux b) s = .next (((s.selFlipped (rgn fd r) mux b).setR Reg.FAB_RGN_STAT_SELERR (rgn fd r) 1).raise
      (napEp (rgn fd r)) 0x0920 2 (rgnDetail (rgn fd r))) := by
  change execXbarSelUpset fd r mux b s = _
  unfold execXbarSelUpset
  exact if_neg (by rw [hh, hs]; simp)

theorem State.selFlipped_leaves (s : State) (rg mux b : Nat) : Leaves [.ic, .events] [Reg.FAB_RGN_STAT_SELERR.key rg] s (s.selFlipped rg mux b) :=
  Leaves.refl.modIc _ (by simp)

theorem State.get_sels_selFlipped (s : State) (rg mux b : Nat) :
    Map.get [] (s.selFlipped rg mux b).ic.sels (muxKey rg (mux % 2 ^ 18)) = flipSel (Map.get [] s.ic.sels (muxKey rg (mux % 2 ^ 18))) b := by
  simp [State.selFlipped]

/-! ### The network access point -/

theorem execNapTxPacket_taken {s : State} {fd : Fin 8} {r : Fin 384} {p : Packet} (hl : s.edgeLive (rgn fd r) = true)
    (hc : s.regionClocked (rgn fd r) = true) (hw : s.napWithdrawn (rgn fd r) = false) (hr : s.txRoom (rgn fd r) (p.data.length + 1) = true) :
    execNapTxPacket fd r p s = .next (s.napSend (rgn fd r) p) := by
  simp [execNapTxPacket, hl, hc, hw, hr]

theorem State.napSend_eq (s : State) (rg : Nat) (p : Packet) :
    s.napSend rg p = if p.data.length = p.len then s.ingress { p with src := napEp rg, status := 0 }
      else s.raise (napEp rg) 0x0231 2 (p.flow + napEp rg * 2 ^ 16) := by
  by_cases h : p.data.length = p.len <;> simp [State.napSend, h]

/-- The request presented is answered by MM_ACK: with a decode error under MM_ERR, else with the word's bytes (R168). -/
theorem State.mmAck_cons {s : State} {rg : Nat} {m : MmReq} {rest : List MmReq} (err : Bool) (rdata : BitVec 64) (h : (s.region rg).mm = m :: rest) :
    s.mmAck rg err rdata = if err then (s.modRegion rg (fun x => { x with mm := rest })).decodeAnswer (napEp rg) m.pkt
      else (s.modRegion rg (fun x => { x with mm := rest })).injectAt (epRtr (napEp rg)) ((s.modRegion rg (fun x => { x with mm := rest })).served m.pkt
        (if m.pkt.kind = 1 then toFlits (rdata.toNat / 2 ^ (8 * (m.pkt.addr % 8)) % 256 ^ m.pkt.size) m.pkt.size false else [])) := by
  cases err <;> by_cases hk : m.pkt.kind = 1 <;> simp [State.mmAck, h, hk]

theorem State.mmAck_nil {s : State} {rg : Nat} (err : Bool) (rdata : BitVec 64) (h : (s.region rg).mm = []) : s.mmAck rg err rdata = s := by
  simp [State.mmAck, h]

/-- Settles O22, command by command, by the conditions that each meaning looks at. -/
theorem clockCrossingAndAccessPointCommandsComplete : Obligations.ClockCrossingAndAccessPointCommandsComplete := by
  unfold Obligations.ClockCrossingAndAccessPointCommandsComplete
  refine ⟨?dcqWrite, ?dcqWriteNot, ?present, ?read, ?report, ?dcqNone, ?upset, ?tx, ?txNot, ?rx, ?rxFull, ?rxNot, ?mmReq, ?mmReqNot, ?mmAck, ?mmAckNot,
    ?mmTimeout, ?mmTimeoutNot⟩
  case dcqWrite =>
    intro s fd r q data hconf hclk hiso
    change s.when _ _ = _
    rw [State.when_true _ _ hclk]
    simp [State.dcqWrite, hconf, hiso]
  case dcqWriteNot =>
    intro s fd r q data h
    change s.when _ _ = _
    rcases h with h | h | ⟨hi, hf⟩
    · exact s.when_false _ h
    · rw [State.dcqWrite_unconfigured _ _ _ _ h, State.when_self]
    · rw [State.dcqWrite_isolated _ _ _ _ hi hf, State.when_self]
  case present =>
    intro s fd r q hp hclk
    refine ⟨_, s.when_true _ (by simp [hp, hclk]), ?_, ?_, State.modDcq_leaves _ _ _⟩ <;> rw [State.dcq_modDcq_self]
  case read =>
    intro s fd r q hp hclk
    refine ⟨_, s.when_true _ hclk, ?_⟩
    rw [State.dcqRead_present _ _ hp]
    refine ⟨?_, ?_, ?_, State.modDcq_leaves _ _ _⟩ <;> rw [State.dcq_modDcq_self]
  case report =>
    intro s fd r q hu hclk
    exact s.when_true _ (by simp [hu, hclk])
  case dcqNone =>
    intro s fd r q
    refine ⟨fun h => s.when_false _ ?_, fun h => ?_, fun h => s.when_false _ ?_⟩
    · rcases h with h | h <;> simp [h]
    · rcases h with h | h
      · exact congrArg (s.when _) (s.dcqRead_empty _ h) |>.trans (s.when_self _)
      · exact s.when_false _ h
    · rcases h with h | h <;> simp [h]
  case upset =>
    intro s fd r mux b
    by_cases hq : oneHot (flipSel (Map.get [] s.ic.sels (muxKey (rgn fd r) (mux % 2 ^ 18))) b) = true ∨ s.flag Reg.FAB_RGN_STAT_SELERR (rgn fd r) = true
    · refine ⟨_, exec_xbarSelUpset_quiet s fd r mux b hq, s.get_sels_selFlipped _ _ _, fun hh hs => ?_, rfl, rfl, rfl, rfl, s.selFlipped_leaves _ _ _⟩
      rw [hh, hs] at hq
      simp at hq
    · simp only [not_or, Bool.not_eq_true] at hq
      exact ⟨_, exec_xbarSelUpset_found s fd r mux b hq.1 hq.2, s.get_sels_selFlipped _ _ _,
        fun _ _ => ⟨(State.getR_raise ..).trans (State.getR_setR_self ..), rfl⟩, rfl, rfl, rfl, rfl,
        ((s.selFlipped_leaves _ _ _).setR _ _ _ (by simp)).raise _ _ _ _ (by simp)⟩
  case tx =>
    intro s fd r p hl hc hw hr
    exact (execNapTxPacket_taken hl hc hw hr).trans (congrArg _ (s.napSend_eq _ _))
  case txNot =>
    intro s fd r p h
    change execNapTxPacket fd r p s = _
    unfold execNapTxPacket
    rcases h with h | h | h | h <;> simp [h]
  case rx =>
    intro s fd r p rest hn hi hroom
    change execNapRxDeliver fd r s = _
    simp [execNapRxDeliver, hn, hi, Nat.not_lt.mpr hroom]
  case rxFull =>
    intro s fd r p rest hn hi hc hroom
    change execNapRxDeliver fd r s = _
    simp [execNapRxDeliver, hn, hi, hc, hroom]
  case rxNot =>
    intro s fd r h
    change execNapRxDeliver fd r s = _
    unfold execNapRxDeliver
    rcases h with h | h
    · simp [h]
    · dsimp only
      split <;> simp [h]
  case mmReq =>
    intro s fd r p rest ht hi hm
    change execNapMmRequest fd r s = _
    by_cases hw : wordAccess p = true <;> simp [execNapMmRequest, ht, hi, hm, hw]
  case mmReqNot =>
    intro s fd r h
    change execNapMmRequest fd r s = _
    unfold execNapMmRequest
    rcases h with h | h | h
    · simp [h]
    · dsimp only
      split <;> simp [h]
    · dsimp only
      split <;> simp [h]
  case mmAck =>
    rintro s fd r m rest rdata t hc hl hm rfl
    have hack : ∀ err, exec (.napMmAck fd r err rdata) s = .next (s.mmAck (rgn fd r) err rdata) := fun err => s.when_true _ (by simp [hc, hl])
    simp only [hack, State.mmAck_cons _ _ hm, if_true, Bool.false_eq_true, if_false, and_self]
  case mmAckNot =>
    intro s fd r err rdata h
    change s.when _ _ = _
    rcases h with h | h | h
    · simp [State.when, h]
    · simp [State.when, h]
    · rw [State.mmAck_nil _ _ h, State.when_self]
  case mmTimeout =>
    intro s fd r m rest hm
    change execNapMmTimeout fd r s = _
    simp [execNapMmTimeout, hm]
  case mmTimeoutNot =>
    intro s fd r hm
    change execNapMmTimeout fd r s = _
    simp [execNapMmTimeout, hm]

end Sys2Proof.Machine
end

section
/-!
PROOF. The resets (R18, R32 to R36, R577, R730): what a device reset and a warm fabric reset do to Tabirair time, what power-on reset leaves, and what an
absorbed reset or a wrong key does.
-/

namespace Sys2Proof.Machine

variable {ps : List Part} {W : Field → Prop} {s t : State}

/-! ### Domains after a device reset (R33, R653, R750) -/

theorem Within.fabLine (h : Within ps W s t) (fd i : Nat) (hl : W Reg.PLIC_LEVEL)
    (hw : W Reg.PLIC_WAIT) (hp : W Reg.PLIC_PEND) : Within ps W s (t.fabLine fd i) :=
  .ite ((h.setR _ _ _ hl).irqEdge _ hw hp) (h.setR _ _ _ hl)

theorem Within.fabLines (h : Within ps W s t) (rg : Nat) (hl : W Reg.PLIC_LEVEL)
    (hw : W Reg.PLIC_WAIT) (hp : W Reg.PLIC_PEND) : Within ps W s (t.fabLines rg) :=
  .ite (h.foldl (fun _ _ k => k.fabLine _ _ hl hw hp) _) h

/-- The fields that show a region's isolation. -/
def causeFields : List Field := [Reg.FAB_RGN_STAT_CAUSE, Reg.FAB_RGN_STAT_ISOLATED, Reg.PLIC_LEVEL, Reg.PLIC_WAIT, Reg.PLIC_PEND]

theorem Within.setCauses (h : Within ps W s t) (rg : Nat) (l : List Nat) (hp : Part.ic ∈ ps)
    (hW : ∀ f ∈ causeFields, W f) : Within ps W s (t.setCauses rg l) :=
  (((h.modRegion rg _ hp).setR _ rg _ (hW _ (by simp [causeFields]))).setR _ rg _ (hW _ (by simp [causeFields]))).fabLines rg
    (hW _ (by simp [causeFields])) (hW _ (by simp [causeFields])) (hW _ (by simp [causeFields]))

theorem Within.napPort (h : Within ps W s t) (rg : Nat) (l : List Nat) (hW : W Reg.NOC_PSTATE) :
    Within ps W s (t.napPort rg l) := h.setR _ _ _ hW

theorem Within.holdBorders (h : Within ps W s t) (rg : Nat) (hi : Part.ic ∈ ps) (ht : Part.tio ∈ ps) :
    Within ps W s (t.holdBorders rg) := (h.modIc _ hi).modTio _ ht

/-- The fields that say what of a region is held. -/
def holdFields : List Field := [Reg.FAB_OUTHOLD, Reg.FAB_WRHOLD, Reg.FAB_STHOLD, Reg.FAB_RELP]

theorem Within.holdRegion (h : Within ps W s t) (rg : Nat) (hi : Part.ic ∈ ps) (ht : Part.tio ∈ ps)
    (hf : Part.fab ∈ ps) (hW : ∀ f ∈ holdFields, W f) : Within ps W s (t.holdRegion rg) := by
  unfold State.holdRegion
  have hb : Within ps W s (if t.outputsLive rg then t.holdBorders rg else t) := .ite (h.holdBorders rg hi ht) h
  exact ((((hb.setR _ rg _ (hW _ (by simp [holdFields]))).setR _ rg _ (hW _ (by simp [holdFields]))).setR _ rg _
    (hW _ (by simp [holdFields]))).setR _ rg _ (hW _ (by simp [holdFields]))).modFab _ hf

section
variable (h : Within untimed anyField s t)
include h

theorem Within.dropCore (k : Nat) : Within untimed anyField s (t.dropCore k) :=
  ((((((((h.modMem _ (by decide)).modMem _ (by decide)).modRegs _).modRegs _).modRegs _).modNoc _
    (by decide)).modRegs _).modRegs _ |>.modChip _ (by decide)).modMid _ (by decide)

theorem Within.dropLpx (n : Nat) : Within untimed anyField s (t.dropLpx n) :=
  ((Within.ite (h.raise _ _ _ _ (by decide)) h).modRegs _ |>.enterSt _ _ _ _ _ trivial trivial trivial).modLpx _ (by decide)

theorem Within.dropLanes (g : Nat) : Within untimed anyField s (t.dropLanes g) :=
  .ite ((h.modLanes _ (by decide)).modRegs _) (((h.modLanes _ (by decide)).modRegs _).modRegs _)

theorem Within.dropEngines (n : Nat) : Within untimed anyField s (t.dropEngines n) :=
  ((((h.modPge _ (by decide)).modFce _ (by decide)).modRegs _).modRegs _).setR _ _ _ trivial

theorem Within.dropMsps (g : Nat) : Within untimed anyField s (t.dropMsps g) :=
  (((h.modMsp _ (by decide)).modRegs _).modMem _ (by decide)).resetFields _ _ (fun _ _ => trivial)

theorem Within.dropBank (b : Nat) : Within untimed anyField s (t.dropBank b) :=
  (((h.modTio _ (by decide)).modRegs _).modRegs _).setR _ _ _ trivial

theorem Within.dropDomain (d : Nat) : Within untimed anyField s (t.dropDomain d) := by
  unfold State.dropDomain
  have hq : Within untimed anyField s (t.dropQueues d) := h.modNoc _ (by decide)
  have hheld : Within untimed anyField s ((quadRegions d).foldl (fun u rg => if (t.dropQueues d).configuredRegion rg then u.holdRegion rg
      else u) (t.dropQueues d)) :=
    hq.foldl (fun _ rg k => .ite (k.holdRegion rg (by decide) (by decide) (by decide) (fun _ _ => trivial)) k) _
  exact .ite hheld (.ite (hq.dropCore _) (.ite (hq.dropLpx _) (.ite (hq.dropLanes _)
    (.ite (hq.modRegs _) (.ite (hq.dropEngines _) (.ite (hq.dropMsps _) (.ite (hq.dropBank _)
    (.ite (hq.foldl (fun _ n k => (((k.setR _ n _ trivial).setR _ n _ trivial).setR _ n _ trivial).modDbg _ (by decide)) _)
    (.ite (((hq.setR _ _ _ trivial).setR _ _ _ trivial).modDbg _ (by decide)) hq)))))))))

theorem Within.cutPower (d : Nat) : Within untimed anyField s (t.cutPower d) := by
  unfold State.cutPower
  have hc : Within untimed anyField s ((domainEps d).foldl (fun u e => if u.portState e < 2 then u.setR Reg.NOC_PSTATE (portIx e) 2 else u) t) :=
    h.foldl (fun _ _ k => .ite (k.setR _ _ _ trivial) k) _
  refine ((((Within.dropDomain ?_ d).setR _ _ _ trivial).setR _ _ _ trivial).setR _ _ _ trivial).setR _ _ _ trivial
  exact .ite (hc.foldl (fun _ rg k => (k.setCauses rg _ (by decide) (fun _ _ => trivial)).napPort rg _ trivial) _) hc

theorem Within.resetDomains : Within untimed anyField s t.resetDomains := by
  unfold State.resetDomains
  have hd : Within untimed anyField s ((List.range 127).foldl (fun u d => if u.forced d then u.cutPower d
      else (((u.setR Reg.DSK_PSTATE d 0).setR Reg.PW_COMMIT d 0).setR Reg.PW_WAKE d 0).setR Reg.PW_FPEND d 0) t) :=
    h.foldl (fun _ d k => .ite (k.cutPower d) ((((k.setR _ _ _ trivial).setR _ _ _ trivial).setR _ _ _ trivial).setR _ _ _ trivial)) _
  exact .ite ((hd.setR _ _ _ trivial).setR _ _ _ trivial) hd

/-! ### Start-up (R592) -/

theorem Within.loadRole : Within untimed anyField s t.loadRole :=
  .ite (((((h.setR _ _ _ trivial).resetFields _ _ (fun _ _ => trivial)).setR _ _ _ trivial).setR _ _ _ trivial).setR _ _ _ trivial) (h.setR _ _ _ trivial)

theorem Within.applyFieldMap (w : MemWord) : Within untimed anyField s (t.applyFieldMap w) := by
  unfold State.applyFieldMap
  refine .ite h ?_
  split
  · exact h
  · exact .ite (h.satAdd _ _ _ trivial) (h.modChip _ (by decide))

theorem Within.applySparing : Within untimed anyField s t.applySparing :=
  (h.modChip _ (by decide)).foldl (fun _ e k => k.applyFieldMap e.2) _

theorem Within.deriveKeys : Within untimed anyField s t.deriveKeys := h.modSage _ (by decide)

theorem Within.startUp : Within untimed anyField s t.startUp := by
  unfold State.startUp
  exact (h.setR _ _ _ trivial).loadRole.applySparing.deriveKeys

end

theorem State.bare_time (s : State) (regs : Map Nat) : (s.bare regs).time = 0 := rfl

theorem State.bare_frac (s : State) (regs : Map Nat) : (s.bare regs).frac = 0 := rfl

/-- A device reset leaves the counter and its fraction at 0 (R32). -/
theorem State.deviceReset_time (s : State) (keep : Bool) : (s.deviceReset keep).time = 0 ∧ (s.deviceReset keep).frac = 0 := by
  unfold State.deviceReset
  extract_lets open_ c t u v
  let regs := c.regs.filter (fun e => keptKey e.1)
  have hu : Within untimed anyField t u :=
    ((((((Within.refl t).wrapAdd _ _ _ trivial).resetDomains.setR _ _ _ trivial).setR _ _ _ trivial).setR _ _ _ trivial).setR _ _ _ trivial
      |>.setR _ _ _ trivial |>.setR _ _ _ trivial).startUp
  have hv : Within untimed anyField t v := .ite ((hu.raise _ _ _ _ (by decide)).irqEdge _ trivial trivial) hu
  have ha : Within untimed anyField t v.alerts := ((hv.setR _ _ _ trivial).setR _ _ _ trivial).irqLevel _ _ trivial trivial
  exact ⟨(ha.part_eq .time (by decide)).trans (c.bare_time regs), (ha.part_eq .frac (by decide)).trans (c.bare_frac regs)⟩

/-! ### Warm fabric reset (R141) -/

theorem Within.askStep (h : Within untimed anyField s t) (rg step cause : Nat) : Within untimed anyField s (t.askStep rg step cause) :=
  .ite (h.holdRegion rg (by decide) (by decide) (by decide) (fun _ _ => trivial)) (.ite ((h.setR _ _ _ trivial).setR _ _ _ trivial) (h.setR _ _ _ trivial))

theorem Within.restartRel (h : Within untimed anyField s t) (l : List Nat) (cause : Nat) : Within untimed anyField s (t.restartRel l cause) :=
  .ite h (h.modFab _ (by decide))

theorem State.warmNow_within (s : State) : Within untimed anyField s s.warmNow := by
  have ht : Within untimed anyField s (((List.range 3072).filter (fun rg => !s.held rg)).foldl (fun u rg => u.askStep rg 3 0) s) :=
    (Within.refl s).foldl (fun _ rg k => k.askStep rg 3 0) _
  exact ((ht.modFab _ (by decide)).restartRel _ 0).setR _ _ _ trivial

/-! ### Power-on reset (R32, R730) -/

/-- Power-on reset leaves the registers of the fuses; any other field but POR_HELD and DRAM_GEN reads its reset value. -/
theorem State.getR_bare_fuse (s : State) (f : Field) (i : Nat) (hf : fuseFields.all (fun g => decide (g.id % Field.idBound ≠ f.id % Field.idBound)) = true) :
    (s.bare (s.regs.filter (fun e => inFields fuseFields (e.1 % Field.idBound)))).getR f i = f.rst i := by
  have hkey : inFields fuseFields (f.key i % Field.idBound) = false := by
    refine List.any_eq_false.2 fun g hg => ?_
    have hne := of_decide_eq_true (List.all_eq_true.1 hf g hg)
    have hlt := of_decide_eq_true (List.all_eq_true.1 (show fuseFields.all (fun g => decide (g.id < Field.idBound)) = true by decide) g hg)
    rw [Nat.mod_eq_of_lt hlt] at hne
    simpa [Field.key, Nat.add_mul_mod_self_left] using hne
  have hnone : Map.find (s.regs.filter (fun e => inFields fuseFields (e.1 % Field.idBound))) (f.key i) = none := by
    rw [Map.find_filter_key (fun k => inFields fuseFields (k % Field.idBound)), hkey]
    rfl
  exact congrArg (fun o => o.getD (f.rst i)) hnone

/-- Settles O14, by the frames of the two resets: a device reset starts from `bare`, whose counter is 0, and a warm reset writes no counter. -/
theorem resetCommandsComplete : Obligations.ResetCommandsComplete := by
  unfold Obligations.ResetCommandsComplete
  refine ⟨?_, ?_, ?_, ?_, ?_, ?_, ?_, ?_, ?_, ?_⟩
  case refine_1 =>
    intro s hp hl
    refine ⟨(s.deviceReset false).setR Reg.DEV_RST_CAUSE_SWDEV 0 1, ?_, ?_, (s.deviceReset_time false).1, (s.deviceReset_time false).2⟩
    · change Host.Outcome.next (s.deviceResetBy _ _) = _
      simp [State.deviceResetBy, hp, hl]
    · rw [State.getR_setR_self]; rfl
  case refine_2 =>
    intro s
    refine ⟨fun h => ⟨?_, ?_⟩, fun h hl => ⟨?_, ?_⟩⟩
    · exact congrArg Host.Outcome.next (if_pos h)
    · exact congrArg Host.Outcome.next (if_pos (show s.inReset = true by simp [State.inReset, h]))
    · change Host.Outcome.next (s.deviceResetBy _ _) = _
      simp [State.deviceResetBy, h, hl]
    · exact congrArg Host.Outcome.next (if_pos (show s.inReset = true by simp [State.inReset, hl]))
  case refine_3 =>
    intro s h
    refine ⟨s.warmNow, ?_, ?_, (s.warmNow_within).part_eq .time (by decide)⟩
    · change Host.Outcome.next s.warmReset = _
      rw [State.warmReset, if_neg (by simp [h])]
    · unfold State.warmNow
      exact State.getR_setR_self ..
  case refine_4 => exact fun s key h => ⟨if_neg h, if_neg h⟩
  case refine_5 =>
    intro s
    refine ⟨_, rfl, rfl, rfl, rfl, rfl, rfl, rfl, rfl, ?_, rfl⟩
    rw [State.wrapAdd, State.getR_setR_id _ _ _ _ _ _ (by decide), State.getR_setR_self]
    rfl
  case refine_6 =>
    intro s f i hf hne
    obtain ⟨hpor, hgen⟩ := hne
    refine ⟨_, rfl, ?_⟩
    rw [State.wrapAdd, State.getR_setR_id _ _ _ _ _ _ hgen, State.getR_setR_id _ _ _ _ _ _ hpor, s.getR_bare_fuse f i hf]
  case refine_7 =>
    intro s syncrole bootsrc pullUp vio hp hl
    exact if_pos (by simp [hp, hl])
  case refine_8 => exact fun _ => rfl
  case refine_9 =>
    intro s syncrole bootsrc pullUp vio h
    exact if_neg (by rcases h with h | h <;> simp [h])
  case refine_10 =>
    intro s value h
    exact s.when_true _ (by rw [h]; rfl)

end Sys2Proof.Machine
end

section
/-!
PROOF. The run of a fail-capture engine (R389 to R392, R415 to R421): each command by the state of the engine that it looks at.
-/

namespace Sys2Proof.Machine

/-- A state field reads what was entered: of the interrupt only the controller's fields change (R557). -/
theorem State.getR_enterSt_self (s : State) (f : Field) (i v src : Nat) (fin : List Nat) (hw : f.id % Field.idBound ≠ Reg.PLIC_WAIT.id % Field.idBound)
    (hp : f.id % Field.idBound ≠ Reg.PLIC_PEND.id % Field.idBound) : (s.enterSt f i v src fin).getR f i = f.norm v := by
  have hirq : Within [] (fun g => g ∈ [Reg.PLIC_WAIT, Reg.PLIC_PEND]) (s.setR f i v) (s.enterSt f i v src fin) :=
    .ite ((Within.refl _).irqEdge src (by simp) (by simp)) (.refl _)
  rw [hirq.getR_eq f i (by simpa using ⟨hw, hp⟩), State.getR_setR_self]

theorem State.enterSt_part (s : State) (f : Field) (i v src : Nat) (fin : List Nat) (p : Part) : p.same s (s.enterSt f i v src fin) :=
  ((Within.refl s).enterSt (W := anyField) (ps := []) f i v src fin trivial trivial trivial).part_eq p (by simp)

/-- What ARM leaves is the engine's part at rest but for its counters of statistics. -/
theorem State.fcx_fceClear (s : State) (n : Nat) : ((s.fceClear n).fcx n).buf = [] := by
  unfold State.fceClear State.modFcx State.fcx
  simp [State.modFce, fce0]

/-- An ARM that is accepted: the engine is BUSY, and its buffer is empty. -/
theorem State.armed_reads (u : State) (n : Nat) :
    (((u.fceClear n).setR Reg.FCE_STAT_REASON n 0).fceSt n 1).getR Reg.FCE_STAT_STATE n = 1
      ∧ ((((u.fceClear n).setR Reg.FCE_STAT_REASON n 0).fceSt n 1).fcx n).buf = [] := by
  refine ⟨State.getR_enterSt_self _ _ _ _ _ _ (by decide) (by decide), ?_⟩
  have hfce : (((u.fceClear n).setR Reg.FCE_STAT_REASON n 0).fceSt n 1).fce = (u.fceClear n).fce :=
    State.enterSt_part _ _ _ _ _ _ .fce
  rw [State.fcx, hfce]
  exact u.fcx_fceClear n

/-- A table read without an error, of a status other than tracked: its record has that status and its own lines (R417). -/
theorem State.fceRecordWrite_closed {s : State} {n key : Nat} {t0 : RauTable} (base i : Nat) (hfind : Map.find (s.fcx n).tables key = some t0)
    (hok : (s.readTable n t0).1.2 = false) (hst : (s.readTable n t0).1.1.status ≠ 0) :
    s.fceRecordWrite n base i key [] = (s.readTable n t0).2.fceRecordPut n base i key (s.readTable n t0).1.1 (s.readTable n t0).1.1.status
      (s.readTable n t0).1.1.rows (s.readTable n t0).1.1.cols false := by
  simp [State.fceRecordWrite, hfind, hok, hst]

/-- A tracked table that has a solution: its record has the table's lines and those of the solution (R414, R415, R417). -/
theorem State.fceRecordWrite_solved {s : State} {n key : Nat} {t0 : RauTable} {c : Cover} (base i : Nat) (hfind : Map.find (s.fcx n).tables key = some t0)
    (hok : (s.readTable n t0).1.2 = false) (hst : (s.readTable n t0).1.1.status = 0)
    (hc : (s.readTable n t0).2.fceSolve n (s.readTable n t0).1.1 = some c) :
    s.fceRecordWrite n base i key [] = (s.readTable n t0).2.fceRecordPut n base i key (s.readTable n t0).1.1 (bit (!(s.readTable n t0).2.fceExact n))
      (c.rows.foldl (fun l x => insertAsc x l) (s.readTable n t0).1.1.rows) (c.cols.foldl (fun l x => insertAsc x l) (s.readTable n t0).1.1.cols)
      (!(s.readTable n t0).2.fceExact n) := by
  simp [State.fceRecordWrite, hfind, hok, hst, hc]

/-- Settles O37, clause by clause: each is the branch of the command that the engine's state takes, and a record is that of the table as it was read. -/
theorem failCaptureRunCommandsComplete : Obligations.FailCaptureRunCommandsComplete := by
  unfold Obligations.FailCaptureRunCommandsComplete
  refine ⟨?arm, ?armFails, fun _ _ => rfl, ?armComplete, ?endAbortSrst, ?commit, ?commitOther, ?record⟩
  case arm =>
    rintro s u n rfl hbusy ⟨hdesc, hareas, hsout⟩
    refine ⟨?_, State.armed_reads _ _⟩
    change execFceArm n s = _
    simp only [execFceArm, hbusy, hdesc, hareas, hsout, Bool.not_true, Bool.false_eq_true, if_false]
  case armFails =>
    rintro s u n rfl
    change (_ → execFceArm n s = _) ∧ (_ → _ → execFceArm n s = _) ∧ (_ → _ → _ → execFceArm n s = _)
      ∧ (_ → _ → _ → _ → execFceArm n s = _)
    refine ⟨fun hb => ?_, fun hb hd => ?_, fun hb hd ha => ?_, fun hb hd ha hs => ?_⟩
    · simp only [execFceArm, hb, if_true]
    · simp only [execFceArm, hb, hd, Bool.not_false, Bool.false_eq_true, if_false, if_true]
    · simp only [execFceArm, hb, hd, ha, Bool.not_true, Bool.not_false, Bool.false_eq_true, if_false, if_true]
    · simp only [execFceArm, hb, hd, ha, hs, Bool.not_true, Bool.not_false, Bool.false_eq_true, if_false, if_true]
  case armComplete =>
    intro s n
    exact ⟨fun h => s.when_true _ (by simp [h]), fun h => s.when_false _ (by simp [h])⟩
  case endAbortSrst =>
    rintro s u n rfl
    have hlate : ∀ {v : State}, v.getR Reg.FCE_STAT_STATE n ≠ 6 → v = s.touchPair n → exec (.fceAbort n) s
        = v.when (decide (v.getR Reg.FCE_STAT_STATE n = 2) && v.inCommitCycle Reg.FCE_CMT n) (v.setR Reg.FCE_STAT_ABORT_LATE n 1) := by
      rintro v h rfl
      exact if_neg h
    refine ⟨fun h => if_pos h, fun h5 h3 => if_neg (by simp [h5, h3]), fun h => if_pos h, fun h hc => ?_, fun h hc => ?_, fun h6 h2 => ?_, rfl⟩
    · exact (hlate (by omega) rfl).trans (State.when_true _ _ (by simp [h, hc]))
    · exact (hlate (by omega) rfl).trans (State.when_false _ _ (by simp [hc]))
    · exact (hlate h6 rfl).trans (State.when_false _ _ (by simp [h2]))
  case commit =>
    rintro s t u n ue bank base h6 hbuf rfl rfl rfl rfl
    change execFceAnalysisCommit n ue s = _
    simp only [execFceAnalysisCommit, h6, hbuf, and_self, if_true, List.length_map]
  case commitOther =>
    intro s n ue h
    exact if_neg (by tauto)
  case record =>
    rintro s t n base i key t0 tb img hfind hok rfl rfl rfl
    exact ⟨s.fceRecordWrite_closed base i hfind hok, fun c hst hc => s.fceRecordWrite_solved base i hfind hok hst hc⟩

end Sys2Proof.Machine
end

section
/-!
PROOF. The commands of a measurement processor group (R445, R450 to R462): what a member's start, stop, resumption and reset leave, and each command by
the branch that the group's state takes.
-/

namespace Sys2Proof.Machine

variable {ps : List Part} {W : Field → Prop} {s t : State}

/-! ### A processor's parts and its state -/

@[simp] theorem State.mspx_modMspx_self (s : State) (m : Nat) (f : Msp → Msp) : (s.modMspx m f).mspx m = f (s.mspx m) := by
  simp [State.modMspx, State.mspx, State.modMsp]

theorem Within.modMspx (h : Within ps W s t) (m : Nat) (f : Msp → Msp) (hp : Part.msp ∈ ps) : Within ps W s (t.modMspx m f) :=
  h.modMsp _ hp

/-- The fields that a change of a processor's state writes. -/
def mspStFields : List Field := [Reg.MSP_STAT_STATE, Reg.PLIC_WAIT, Reg.PLIC_PEND]

theorem Within.mspSt (h : Within ps W s t) (m v : Nat) (hW : ∀ f ∈ mspStFields, W f) :
    Within ps W s (t.mspSt m v) :=
  h.enterSt _ _ _ _ _ (hW _ (by simp [mspStFields])) (hW _ (by simp [mspStFields])) (hW _ (by simp [mspStFields]))

theorem State.getR_mspSt_self (s : State) (m v : Nat) : (s.mspSt m v).getR Reg.MSP_STAT_STATE m = Reg.MSP_STAT_STATE.norm v :=
  State.getR_enterSt_self _ _ _ _ _ _ (by decide) (by decide)

theorem State.mspx_congr {m : Nat} (h : t.msp = s.msp) : t.mspx m = s.mspx m := by simp [State.mspx, h]

/-! ### A member starts (R457) -/

/-- What every start clears. -/
def mspStartFields : List Field :=
  [Reg.MSP_RC_V, Reg.MSP_STAT_ECAUSE, Reg.MSP_STAT_FLAG, Reg.MSP_STAT_DEPTH, Reg.MSP_STAT_WAITING, Reg.MSP_CYCLES_COUNT]

/-- What a start with CLR clears. -/
def mspClrFields : List Field :=
  [Reg.MSP_D_V, Reg.MSP_A_V, Reg.MSP_P_ADDR, Reg.MSP_M_V, Reg.MSP_SR_V, Reg.MSP_IX_V, Reg.MSP_POIS_D, Reg.MSP_POIS_P]

theorem Within.mspClr (h : Within ps W s t) (m : Nat) (hW : ∀ f ∈ mspClrFields, W f) :
    Within ps W s (t.mspClr m) := by
  simp only [mspClrFields, List.forall_mem_cons] at hW
  obtain ⟨hD, hA, hP, hM, hSR, hIX, hPD, hPP, -⟩ := hW
  exact (((h.resetRange _ _ _ (by simpa using hD)).resetRange _ _ _ (by simpa using hA)).resetRange _ _ _ (by simpa using ⟨hP, hM⟩)).resetFields _ _
    (by simpa using ⟨hSR, hIX, hPD, hPP⟩)

/-- A start's clearing of a member, before PC and the state. -/
def State.mspCleared (s : State) (m : Nat) (clr : Bool) : State :=
  let t := (s.resetFields mspStartFields m).modMspx m (fun k => { msp0 with timeHi := k.timeHi, queues := k.queues })
  if clr then t.mspClr m else t

theorem State.mspCleared_false (s : State) (m : Nat) : s.mspCleared m false
    = (s.resetFields mspStartFields m).modMspx m (fun k => { msp0 with timeHi := k.timeHi, queues := k.queues }) := rfl

theorem State.mspCleared_within (s : State) (m : Nat) (clr : Bool) :
    Within [] (fun f => f ∈ mspClrFields) (s.mspCleared m false) (s.mspCleared m clr) := by
  cases clr
  · exact .refl _
  · exact (Within.refl _).mspClr m (fun _ h => h)

theorem State.mspStart_within (s : State) (m : Nat) (clr : Bool) :
    Within [] (fun f => f ∈ Reg.MSP_PC_PC :: mspStFields) (s.mspCleared m clr) (s.mspStart m clr) :=
  ((Within.refl _).setR _ _ _ (by simp)).mspSt m 5 (fun _ h => List.mem_cons_of_mem _ h)

theorem State.mspStart_msp (s : State) (m : Nat) (clr : Bool) : (s.mspStart m clr).msp = (s.mspCleared m false).msp :=
  ((s.mspStart_within m clr).part_eq .msp (by decide)).trans ((s.mspCleared_within m clr).part_eq .msp (by decide))

/-- A start keeps no call, no repeat cache and no wait; the channels' packets stay. -/
theorem State.mspx_mspStart (s : State) (m : Nat) (clr : Bool) :
    (s.mspStart m clr).mspx m = { msp0 with timeHi := (s.mspx m).timeHi, queues := (s.mspx m).queues } := by
  rw [State.mspx_congr (s.mspStart_msp m clr)]
  have hfields : (s.resetFields mspStartFields m).mspx m = s.mspx m :=
    State.mspx_congr (((Within.refl (ps := []) (W := anyField) s).resetFields mspStartFields m (fun _ _ => trivial)).part_eq .msp (by decide))
  rw [State.mspCleared_false, State.mspx_modMspx_self, hfields]

theorem State.mspCleared_from (s : State) (m : Nat) : Within [.msp] (fun f => f ∈ mspStartFields) s (s.mspCleared m false) := by
  rw [State.mspCleared_false]
  exact ((Within.refl s).resetFields mspStartFields m (fun _ h => h)).modMspx m _ (by decide)

theorem State.mspStart_mem (s : State) (m : Nat) (clr : Bool) : (s.mspStart m clr).mem = s.mem :=
  ((s.mspStart_within m clr).part_eq .mem (by decide)).trans (((s.mspCleared_within m clr).part_eq .mem (by decide)).trans
    ((s.mspCleared_from m).part_eq .mem (by decide)))

theorem State.mspStart_depth (s : State) (m : Nat) (clr : Bool) : (s.mspStart m clr).getR Reg.MSP_STAT_DEPTH m = 0 := by
  rw [(s.mspStart_within m clr).getR_eq _ _ (by decide), (s.mspCleared_within m clr).getR_eq _ _ (by decide)]
  change (s.resetFields (mspStartFields.take 3 ++ Reg.MSP_STAT_DEPTH :: mspStartFields.drop 4) m).getR Reg.MSP_STAT_DEPTH m = 0
  rw [State.getR_resetFields s _ _ _ m (by decide)]
  simp [Field.norm, Reg.MSP_STAT_DEPTH]

/-- A start goes to ENTRY (R457). -/
theorem State.mspStart_pc (s : State) (m : Nat) (clr : Bool) : (s.mspStart m clr).getR Reg.MSP_PC_PC m = s.getR Reg.MSP_ENTRY_PC m % 2 ^ 14 := by
  have hst : Within [] (fun f => f ∈ mspStFields) ((s.mspCleared m clr).setR Reg.MSP_PC_PC m (s.getR Reg.MSP_ENTRY_PC m)) (s.mspStart m clr) :=
    (Within.refl _).mspSt m 5 (fun _ h => h)
  rw [hst.getR_eq _ _ (by decide), State.getR_setR_self]
  simp [Field.norm, Reg.MSP_PC_PC]

/-- A start without CLR keeps the D registers. -/
theorem State.mspStart_D (s : State) (m n : Nat) : (s.mspStart m false).mspD m n = s.mspD m n :=
  ((s.mspStart_within m false).getR_eq _ _ (by decide)).trans ((s.mspCleared_from m).getR_eq _ _ (by decide))

/-- A start with CLR has the D registers 0. -/
theorem State.mspStart_D_clr (s : State) (m : Nat) {n : Nat} (hn : n < 16) : (s.mspStart m true).mspD m n = 0 := by
  have hrest : Within [] (fun f => f ∈ mspClrFields.tail) ((s.mspCleared m false).resetRange [Reg.MSP_D_V] (m * 16) 16) (s.mspCleared m true) :=
    (((Within.refl _).resetRange _ _ _ (by simp [mspClrFields])).resetRange _ _ _ (by simp [mspClrFields])).resetFields _ _ (by simp [mspClrFields])
  have hD : (s.mspCleared m true).mspD m n = 0 :=
    (hrest.getR_eq _ _ (by decide)).trans (State.getR_resetRange_in _ (List.mem_singleton_self _) (by omega) (by omega))
  exact ((s.mspStart_within m true).getR_eq _ _ (by decide)).trans hD

/-! ### A member stops, runs on, or is reset (R445, R458) -/

theorem Within.mspLeave (h : Within ps W s t) (m st : Nat) (hp : Part.msp ∈ ps)
    (hW : ∀ f ∈ Reg.MSP_STAT_WAITING :: mspStFields, W f) : Within ps W s (t.mspLeave m st) :=
  ((h.mspSt m st fun f hf => hW f (List.mem_cons_of_mem _ hf)).setR _ _ _ (hW _ (List.mem_cons_self ..))).modMspx m _ hp

theorem State.getR_mspLeave_self (s : State) (m st : Nat) : (s.mspLeave m st).getR Reg.MSP_STAT_STATE m = Reg.MSP_STAT_STATE.norm st := by
  have hw : Within [.msp] (fun f => f ∈ [Reg.MSP_STAT_WAITING]) (s.mspSt m st) (s.mspLeave m st) :=
    ((Within.refl _).setR _ _ _ (by simp)).modMspx m _ (by decide)
  rw [hw.getR_eq _ _ (by decide), State.getR_mspSt_self]

theorem State.mspLeave_within (s : State) (m st : Nat) :
    Within [.msp] (fun f => f ∈ Reg.MSP_STAT_WAITING :: mspStFields) s (s.mspLeave m st) := (Within.refl s).mspLeave m st (by decide) (fun _ h => h)

theorem State.mspx_mspLeave (s : State) (m st : Nat) : ((s.mspLeave m st).mspx m).rep = none ∧ ((s.mspLeave m st).mspx m).wait = none := by
  unfold State.mspLeave
  rw [State.mspx_modMspx_self]
  exact ⟨rfl, rfl⟩

/-- A SEND's packet but for its data (R453, R454). -/
theorem State.mspPacket_fields (s : State) (m c : Nat) (x : MspSend) : ∃ data, (s.mspPacket m c x).1 =
    { dest := if s.flag Reg.MSP_CH_CFG_CLASS (m * 4 + c)
        then s.getR Reg.THY_CT_EP_DST (if s.flag Reg.MSP_CH_CFG_CLASS (m * 4 + c) then s.getR Reg.MSP_CH_CFG_FLOW (m * 4 + c) else 0)
        else s.getR Reg.MSP_CH_DEST_EP (m * 4 + c)
      src := mspEp (m / 8)
      prio := s.getR Reg.MSP_CH_CFG_PRIO (m * 4 + c)
      cls := s.flag Reg.MSP_CH_CFG_CLASS (m * 4 + c)
      flow := if s.flag Reg.MSP_CH_CFG_CLASS (m * 4 + c) then s.getR Reg.MSP_CH_CFG_FLOW (m * 4 + c) else 0
      len := flitsFor x.size
      kind := 0
      size := x.size
      user := m
      data := data } := ⟨_, rfl⟩

/-- Settles O44: what a member keeps is the frame of its start or of its leaving the run, and each command is the branch that the group's state takes. -/
theorem mspGroupCommandsComplete : Obligations.MspGroupCommandsComplete := by
  unfold Obligations.MspGroupCommandsComplete
  refine ⟨?go, fun _ _ _ _ => rfl, ?startCycle, ?start, ?abort, ?stopResume, ?stopped, ?message, ?nothing, ?unmatched, ?access, ?inject, ?packet⟩
  case go =>
    rintro s u t g mask clr rfl rfl
    change (_ → execMspGrpGo g mask clr s = _) ∧ (_ → _ → execMspGrpGo g mask clr s = _) ∧ (_ → _ → execMspGrpGo g mask clr s = _)
    refine ⟨fun he => ?_, fun he hb => ?_, fun he hb => ?_⟩
    · simp only [execMspGrpGo, he, if_true]
    · simp only [execMspGrpGo, he, hb, Bool.false_eq_true, if_false, if_true]
    · simp only [execMspGrpGo, he, hb, Bool.false_eq_true, if_false]
  case startCycle =>
    rintro s g mask a rfl rfl
    refine ⟨fun hm ha => if_pos ⟨hm, ha⟩, fun h => if_neg ?_⟩
    rintro ⟨hm, ha⟩
    rcases h with h | ⟨h0, hd⟩
    · exact hm h
    · rcases ha with ha | ha
      · exact h0 ha
      · rw [hd] at ha; cases ha
  case start =>
    intro s m clr
    refine ⟨State.getR_mspSt_self _ _ _, s.mspStart_pc m clr, s.mspStart_depth m clr, ?_, ?_, ?_, ?_, s.mspStart_mem m clr⟩
    · rw [s.mspx_mspStart]; rfl
    · rw [s.mspx_mspStart]
    · rintro rfl n hn
      exact s.mspStart_D_clr m hn
    · rintro rfl n -
      exact s.mspStart_D m n
  case abort =>
    rintro s u g mask clr rfl
    change (_ → execMspGrpAbort g mask clr s = _) ∧ (_ → _ → _ → execMspGrpAbort g mask clr s = _) ∧ (_ → _ → execMspGrpAbort g mask clr s = _)
    refine ⟨fun hp => ?_, fun hp h2 hc => ?_, fun hp h => ?_⟩
    · simp only [execMspGrpAbort, if_neg hp]
    · simp only [execMspGrpAbort, if_pos hp, h2, hc, and_self, if_true]
    · have hno : ¬ ((s.touchGroup g).getR Reg.MSP_GRP_STAT_STATE (8 * g.val) = 2 ∧ (s.touchGroup g).inCommitCycle Reg.GRP_CMT g = true) := by
        rcases h with h | h <;> simp [h]
      simp only [execMspGrpAbort, if_pos hp, if_neg hno]
  case stopResume =>
    rintro s u g m mask clr rfl
    exact ⟨rfl, rfl, rfl⟩
  case stopped =>
    intro s m
    have hleave : ∀ st, (s.mspLeave m st).mem = s.mem := fun st => (s.mspLeave_within m st).part_eq .mem (by decide)
    refine ⟨s.getR_mspLeave_self m 6, (s.mspLeave_within m 6).getR_eq _ _ (by decide), State.getR_mspSt_self _ _ _, s.getR_mspLeave_self m 0, ?_, ?_, ?_,
      hleave 6, ?_, hleave 0⟩
    · simp [State.mspSrst]
    · simpa [State.mspSrst] using (s.mspx_mspLeave m 0).1
    · simpa [State.mspSrst] using (s.mspx_mspLeave m 0).2
    · exact ((((Within.refl (ps := [.msp]) (W := anyField) s).setR _ _ _ trivial).modMspx m _ (by decide)).mspSt m 5
        (fun _ _ => trivial)).part_eq .mem (by decide)
  case message =>
    rintro s g p rest j i n hp hj rfl rfl
    change execMspInboxMessage g s = _
    simp only [execMspInboxMessage, hp, hj]
    split <;> rfl
  case nothing =>
    intro s g m lost upset c
    change (_ → execMspInboxMessage g s = _) ∧ (_ → execMspBreachNotice g s = _) ∧ (_ → execMspMemoryAccess g lost upset s = _)
      ∧ (_ → execMspChannelInject m c s = _)
    refine ⟨fun h => ?_, fun h => ?_, fun h => ?_, fun h => ?_⟩
    · simp only [execMspInboxMessage, h]
    · simp only [execMspBreachNotice, h]
    · simp only [execMspMemoryAccess, h]
    · simp only [execMspChannelInject, h]
  case unmatched =>
    intro s g p rest
    change (_ → _ → execMspInboxMessage g s = _) ∧ (_ → execMspBreachNotice g s = _)
    refine ⟨fun h hn => ?_, fun h => ?_⟩
    · simp only [execMspInboxMessage, h, hn]
    · simp only [execMspBreachNotice, h]
      split <;> rfl
  case access =>
    intro s g lost upset p rest hp
    change (_ → execMspMemoryAccess g lost upset s = _) ∧ (_ → _ → _ → execMspMemoryAccess g lost upset s = _)
      ∧ (_ → _ → _ → _ → execMspMemoryAccess g lost upset s = _) ∧ (_ → _ → _ → _ → execMspMemoryAccess g lost upset s = _)
    simp only [execMspMemoryAccess, hp]
    refine ⟨fun h => if_pos h, fun hin hg hd => ?_, fun hin hg hr hd => ?_, fun hin hg hr hd => ?_⟩
    · rw [if_neg (by simp [hin, hg]), if_pos hd]
    · rw [if_neg (by simp [hin, hg]), if_neg (by simp [hd]), if_neg (by simp [hr])]
    · rw [if_neg (by simp [hin, hg]), if_neg (by simp [hd]), if_pos hr]
  case inject =>
    rintro s m c x rest i flow r hq rfl rfl rfl
    change (_ → _ → execMspChannelInject m c s = _) ∧ (_ → execMspChannelInject m c s = _)
    simp only [execMspChannelInject, hq]
    refine ⟨fun hcls h => if_pos ?_, fun h => if_neg ?_⟩
    · rcases h with h | ⟨hw, ha, hc⟩
      · simp [hcls, h]
      · simp [hcls, hw, ha, hc]
    · rcases h with h | ⟨hf, h | h | h⟩ <;> simp [*]
  case packet =>
    intro s m c x
    obtain ⟨data, h⟩ := s.mspPacket_fields m c x
    rw [h]
    refine ⟨rfl, rfl, rfl, rfl, rfl, rfl, ?_⟩
    dsimp only
    split <;> rfl

end Sys2Proof.Machine
end

section
/-!
PROOF. Thyme's contract mailboxes (R227, R233 to R237, R246 to R248, R255, R257): the place of an operation in the queue, what an end of an operation and a
plan that takes effect leave, and the drain of a contract.
-/

namespace Sys2Proof.Machine

variable {ps : List Part} {W : Field → Prop} {s t : State}

/-! ### An operation takes its turn (R233, R235) -/

theorem State.thyTurn_busy {m op id m' op' id' : Nat} {rest : List (Nat × Nat × Nat)} {a : Bool} (f : Nat → State → State)
    (hb : s.getR Reg.THY_REQ_STAT_STATE m = 1) (hq : s.thy.queue = (m', op', id') :: rest) :
    s.thyTurn m op id a f = if a && decide (m' = m) && decide (op' = op) then f id' s else s := by
  simp [State.thyTurn, hb, hq]

theorem State.thyTurn_busy_first {m op id i : Nat} {rest : List (Nat × Nat × Nat)} (f : Nat → State → State)
    (hb : s.getR Reg.THY_REQ_STAT_STATE m = 1) (hq : s.thy.queue = (m, op, i) :: rest) : s.thyTurn m op id true f = f i s := by
  rw [State.thyTurn_busy f hb hq, if_pos (by simp)]

/-- A command that answers nothing, or that is not for the operation that waits first, leaves the state. -/
theorem State.thyTurn_busy_other {m op id : Nat} {a : Bool} (f : Nat → State → State) (hb : s.getR Reg.THY_REQ_STAT_STATE m = 1)
    (h : a = false ∨ s.thy.queue.head?.map (fun e => e.1) ≠ some m) : s.thyTurn m op id a f = s := by
  cases hq : s.thy.queue with
  | nil => simp [State.thyTurn, hb, hq]
  | cons e rest =>
    obtain ⟨m', op', id'⟩ := e
    rw [State.thyTurn_busy f hb hq, if_neg]
    rcases h with h | h
    · simp [h]
    · have hm : m' ≠ m := by simpa [hq] using h
      simp [hm]

theorem State.thyTurn_idle {m : Nat} (op id : Nat) (a : Bool) (f : Nat → State → State) (hi : s.getR Reg.THY_REQ_STAT_STATE m ≠ 1) :
    s.thyTurn m op id a f = if a && s.thy.queue.isEmpty then f id (s.boxStart m op id) else s.boxStart m op id := if_neg hi

theorem State.thyTurn_waits {m : Nat} (op id : Nat) {a : Bool} (f : Nat → State → State) (hi : s.getR Reg.THY_REQ_STAT_STATE m ≠ 1)
    (h : a = false ∨ s.thy.queue ≠ []) : s.thyTurn m op id a f = s.boxStart m op id := by
  rw [State.thyTurn_idle op id a f hi, if_neg]
  rcases h with h | h <;> simp [h]

theorem State.thyTurn_answered {m : Nat} (op id : Nat) (f : Nat → State → State) (hi : s.getR Reg.THY_REQ_STAT_STATE m ≠ 1)
    (h : s.thy.queue = []) : s.thyTurn m op id true f = f id (s.boxStart m op id) := by
  rw [State.thyTurn_idle op id true f hi, if_pos (by simp [h])]

theorem State.length_boxQueue (s : State) (x : Nat × Nat × Nat) : (s.boxQueue x).length = s.thy.queue.length + 1 := by
  have h := List.length_eq_length_filter_add (l := s.thy.queue) (fun e => decide (s.getR Reg.THY_ARR e.1 = s.cycle) && decide (x.1 < e.1))
  simp only [State.boxQueue, List.length_append, List.length_cons]
  omega

theorem State.boxStart_busy (s : State) (m op id : Nat) : (s.boxStart m op id).getR Reg.THY_REQ_STAT_STATE m = 1 := by
  simp (disch := decide) only [State.boxStart, State.getR_modThy, State.getR_setR_id, State.getR_setR_self]
  rfl

/-! ### An operation ends -/

/-- The fields that the success of an operation writes. -/
def boxDoneFields : List Field := [Reg.THY_REQ_STAT_STATE, Reg.PLIC_WAIT, Reg.PLIC_PEND, Reg.THY_REQ_STAT_ID, Reg.THY_CMT]

/-- An operation ends: after the state of the mailbox come the interrupt and the queue. -/
theorem State.boxEnd_within (s : State) (m st : Nat) :
    Within [.thy] (fun f => f ∈ [Reg.PLIC_WAIT, Reg.PLIC_PEND]) (s.setR Reg.THY_REQ_STAT_STATE m st) (s.boxEnd m st) :=
  ((Within.refl _).irqEdge _ (by simp) (by simp)).modThy _ (by decide)

theorem Within.boxDone (h : Within ps W s t) (m id : Nat) (hp : Part.thy ∈ ps) (hW : ∀ f ∈ boxDoneFields, W f) : Within ps W s (t.boxDone m id) := by
  simp only [boxDoneFields, List.forall_mem_cons] at hW
  obtain ⟨hst, hwait, hpend, hid, hcmt, -⟩ := hW
  exact ((((h.setR _ _ _ hst).irqEdge _ hwait hpend).modThy _ hp).setR _ _ _ hid).markCommit _ _ hcmt

theorem State.boxDone_within (s : State) (m id : Nat) : Within [.thy] (fun f => f ∈ boxDoneFields) s (s.boxDone m id) :=
  (Within.refl s).boxDone m id (by decide) (fun _ h => h)

theorem State.boxDone_state (s : State) (m id : Nat) : (s.boxDone m id).getR Reg.THY_REQ_STAT_STATE m = 2 := by
  have h : Within [] (fun f => f ∈ [Reg.THY_REQ_STAT_ID, Reg.THY_CMT]) (s.boxEnd m 2) (s.boxDone m id) :=
    ((Within.refl _).setR _ _ _ (by simp)).markCommit _ _ (by simp)
  rw [h.getR_eq _ _ (by decide), (s.boxEnd_within m 2).getR_eq _ _ (by decide), State.getR_setR_self]
  rfl

theorem State.boxDone_id (s : State) (m id : Nat) : (s.boxDone m id).getR Reg.THY_REQ_STAT_ID m = Reg.THY_REQ_STAT_ID.norm id := by
  rw [State.boxDone, State.markCommit, State.getR_setR_id _ _ _ _ _ _ (by decide), State.getR_setR_self]

theorem State.boxDone_contracts (s : State) (m id : Nat) : (s.boxDone m id).thy.contracts = s.thy.contracts := by
  have h : ((s.setR Reg.THY_REQ_STAT_STATE m 2).irqEdge (16 + m)).thy = s.thy :=
    ((Within.refl (ps := []) (W := anyField) (s.setR Reg.THY_REQ_STAT_STATE m 2)).irqEdge _ trivial trivial).part_eq .thy (by decide)
  have hd : (s.boxDone m id).thy.contracts = ((s.setR Reg.THY_REQ_STAT_STATE m 2).irqEdge (16 + m)).thy.contracts := rfl
  rw [hd, h]

theorem State.contract_congr (h : t.thy.contracts = s.thy.contracts) (i : Nat) : t.contract i = s.contract i := by
  rw [State.contract, State.contract, h]

@[simp] theorem State.contract_putContract_self (s : State) (i : Nat) (c : Contract) : (s.putContract i c).contract i = c := by
  simp [State.putContract, State.contract, State.modThy, Map.find_put_self]

/-! ### The contract table -/

theorem Within.thyCount (h : Within ps W s t) (hl : W Reg.THY_STAT_LIVE) (ha : W Reg.THY_STAT_ADMITTED) : Within ps W s t.thyCount :=
  (h.setR _ _ _ hl).setR _ _ _ ha

theorem State.cstate_setCstate_self (s : State) (i v : Nat) : (s.setCstate i v).cstate i = Reg.THY_CT_STAT_CSTATE.norm v := by
  have h : Within [] (fun f => f ∈ [Reg.THY_STAT_LIVE, Reg.THY_STAT_ADMITTED]) (s.setR Reg.THY_CT_STAT_CSTATE i v) (s.setCstate i v) :=
    (Within.refl _).thyCount (by simp) (by simp)
  exact (h.getR_eq _ _ (by decide)).trans (State.getR_setR_self ..)

/-- The fields that the loss of a contract writes in the pattern engines that send on it. -/
def outputLostFields : List Field := [Reg.PGE_STAT_STATE, Reg.PLIC_WAIT, Reg.PLIC_PEND, Reg.PGE_STAT_HCAUSE]

theorem Within.closeOutput (h : Within ps W s t) (n g : Nat) (hp : Part.pge ∈ ps) : Within ps W s (t.closeOutput n g) := by
  have hm : ∀ f, Within ps W s (t.modOut n g f) := fun f => h.modPge _ hp
  exact .ite h (.ite (hm _) (.ite (hm _) (hm _)))

theorem Within.pgeFail (h : Within ps W s t) (n cause : Nat) (hp : Part.pge ∈ ps) (hW : ∀ f ∈ outputLostFields, W f) :
    Within ps W s (t.pgeFail n cause) := by
  simp only [outputLostFields, List.forall_mem_cons] at hW
  obtain ⟨hst, hwait, hpend, hcause, -⟩ := hW
  have hs : Within ps W s ((t.pgeSt n 4).setR Reg.PGE_STAT_HCAUSE n cause) := (h.enterSt _ _ _ _ _ hst hwait hpend).setR _ _ _ hcause
  exact (hs.modPge _ hp).foldl (fun _ g k => k.closeOutput n g hp) _

theorem Within.pgeOutputLost (h : Within ps W s t) (id : Nat) (hp : Part.pge ∈ ps) (he : Part.events ∈ ps) (hW : ∀ f ∈ outputLostFields, W f) :
    Within ps W s (t.pgeOutputLost id) := by
  refine h.foldl (fun v n k => .ite ?_ k) _
  split
  · exact (k.pgeFail n 8 hp hW).raise _ _ _ _ he
  · exact k

/-! ### A plan takes effect (R236, R255) -/

theorem State.applyPlan_cstate (s : State) (i : Nat) (d : Desc) (p : Plan) : (s.applyPlan i d p).cstate i = 1 := State.cstate_setCstate_self _ _ _

theorem State.applyPlan_src (s : State) (i : Nat) (d : Desc) (p : Plan) :
    (s.applyPlan i d p).getR Reg.THY_CT_EP_SRC i = Reg.THY_CT_EP_SRC.norm d.src := by
  simp (disch := decide) only [State.applyPlan, State.setCstate, State.thyCount, State.getR_setR_id, State.getR_setR_self]

theorem State.applyPlan_bound (s : State) (i : Nat) (d : Desc) (p : Plan) :
    (s.applyPlan i d p).getR Reg.THY_CT_BOUND_TICKS i = Reg.THY_CT_BOUND_TICKS.norm p.bound := by
  simp (disch := decide) only [State.applyPlan, State.setCstate, State.thyCount, State.getR_setR_id, State.getR_setR_self]

theorem State.applyPlan_contract (s : State) (i : Nat) (d : Desc) (p : Plan) : ((s.applyPlan i d p).contract i).own = p.own := by
  have h : (s.applyPlan i d p).thy.contracts = (s.putContract i ⟨p.own, [], p.legs, flitsPer d, flitsPer d * d.period * frameTicks, s.noc.clock, 0,
    d.lat⟩).thy.contracts := rfl
  rw [State.contract_congr h, State.contract_putContract_self]

theorem State.boxPlan_within (s : State) (m : Nat) (p : Plan) :
    Within [] (fun f => f ∈ [Reg.THY_REQ_BOUND_TICKS, Reg.THY_REQ_SLOTS_FWD, Reg.THY_REQ_SLOTS_RSP, Reg.THY_REQ_RDETAIL_DETAIL]) s (s.boxPlan m p) :=
  ((((Within.refl s).setR _ _ _ (by simp)).setR _ _ _ (by simp)).setR _ _ _ (by simp)).setR _ _ _ (by simp)

theorem State.admitNow_granted {m : Nat} {p : Plan} (h : s.admitCheck (s.mailbox m) none = .inr p) : s.admitNow m
    = (((s.applyPlan s.freeId (s.mailbox m) p).boxPlan m p).boxDone m s.freeId).raise thymeEp 0x0301 0 (s.freeId + p.bound * 2 ^ 32) := by
  simp [State.admitNow, h]

/-- What an ADMIT that is granted leaves: the mailbox DONE with the free ID, whose contract is LIVE as the plan has it. -/
theorem State.admitNow_reads {m : Nat} {p : Plan} (h : s.admitCheck (s.mailbox m) none = .inr p) :
    (s.admitNow m).getR Reg.THY_REQ_STAT_STATE m = 2 ∧ (s.admitNow m).getR Reg.THY_REQ_STAT_ID m = Reg.THY_REQ_STAT_ID.norm s.freeId
      ∧ (s.admitNow m).cstate s.freeId = 1
      ∧ (s.admitNow m).getR Reg.THY_CT_EP_SRC s.freeId = Reg.THY_CT_EP_SRC.norm (s.getR Reg.THY_REQ_SRC_EP m)
      ∧ (s.admitNow m).getR Reg.THY_CT_BOUND_TICKS s.freeId = Reg.THY_CT_BOUND_TICKS.norm p.bound
      ∧ ((s.admitNow m).contract s.freeId).own = p.own := by
  rw [s.admitNow_granted h]
  have hread : ∀ f i, (∀ g ∈ boxDoneFields, f.id % Field.idBound ≠ g.id % Field.idBound) →
      (∀ g ∈ [Reg.THY_REQ_BOUND_TICKS, Reg.THY_REQ_SLOTS_FWD, Reg.THY_REQ_SLOTS_RSP, Reg.THY_REQ_RDETAIL_DETAIL],
        f.id % Field.idBound ≠ g.id % Field.idBound) →
      ((((s.applyPlan s.freeId (s.mailbox m) p).boxPlan m p).boxDone m s.freeId).raise thymeEp 0x0301 0 (s.freeId + p.bound * 2 ^ 32)).getR f i
        = (s.applyPlan s.freeId (s.mailbox m) p).getR f i := fun f i hd hp =>
    ((State.boxDone_within _ m _).getR_eq f i hd).trans ((State.boxPlan_within _ m p).getR_eq f i hp)
  refine ⟨State.boxDone_state _ _ _, State.boxDone_id _ _ _, ?_, ?_, ?_, ?_⟩
  · exact (hread _ _ (by decide) (by decide)).trans (State.applyPlan_cstate _ _ _ _)
  · exact (hread _ _ (by decide) (by decide)).trans (State.applyPlan_src _ _ _ _)
  · exact (hread _ _ (by decide) (by decide)).trans (State.applyPlan_bound _ _ _ _)
  · have hc : ((((s.applyPlan s.freeId (s.mailbox m) p).boxPlan m p).boxDone m s.freeId).raise thymeEp 0x0301 0 (s.freeId + p.bound * 2 ^ 32)).thy.contracts
        = (s.applyPlan s.freeId (s.mailbox m) p).thy.contracts := State.boxDone_contracts ((s.applyPlan s.freeId (s.mailbox m) p).boxPlan m p) m s.freeId
    rw [State.contract_congr hc, State.applyPlan_contract]

/-- Of the parts, an operation's start and a grant write Thyme's and the events. -/
theorem State.admitNow_within {m : Nat} {p : Plan} (h : s.admitCheck (s.mailbox m) none = .inr p) : Within [.thy, .events] anyField s (s.admitNow m) := by
  rw [s.admitNow_granted h]
  have hplan : Within [.thy, .events] anyField s (s.applyPlan s.freeId (s.mailbox m) p) := by
    unfold State.applyPlan State.setCstate State.putContract
    refine .thyCount ?_ trivial trivial
    iterate 19 refine .setR ?_ _ _ _ trivial
    exact (Within.refl (ps := [.thy, .events]) s).modThy _ (by decide)
  have hbox : Within [.thy, .events] anyField s ((s.applyPlan s.freeId (s.mailbox m) p).boxPlan m p) :=
    (((hplan.setR _ _ _ trivial).setR _ _ _ trivial).setR _ _ _ trivial).setR _ _ _ trivial
  exact (hbox.boxDone m _ (by decide) (fun _ _ => trivial)).raise _ _ _ _ (by decide)

theorem State.readmitNow_granted {m i : Nat} {p : Plan} (h3 : s.cstate i = 3) (he : s.admitEarly (s.stored i) (some i) = none)
    (ho : s.admitOn s.epoch (s.stored i) none = .inr p) :
    s.readmitNow m i = (((s.applyPlan i (s.stored i) p).boxPlan m p).boxDone m i).raise thymeEp 0x0305 0 i := by
  simp [State.readmitNow, h3, he, ho]

/-! ### A contract drains (R246) -/

theorem State.teardownNow_drains {m i : Nat} (h0 : s.cstate i ≠ 0) (h4 : s.cstate i ≠ 4) : s.teardownNow m i =
    (if s.cstate i = 1 then ((s.setCstate i 4).putContract i { s.contract i with drainAt := s.noc.clock }).pgeOutputLost i
      else (s.setCstate i 4).putContract i { s.contract i with drainAt := s.noc.clock }).boxDone m i := by
  simp [State.teardownNow, h0, h4]

theorem State.teardownNow_reads {m i : Nat} (h0 : s.cstate i ≠ 0) (h4 : s.cstate i ≠ 4) :
    (s.teardownNow m i).getR Reg.THY_REQ_STAT_STATE m = 2 ∧ (s.teardownNow m i).cstate i = 4
      ∧ ((s.teardownNow m i).contract i).drainAt = s.noc.clock ∧ (s.teardownNow m i).mem = s.mem ∧ (s.teardownNow m i).time = s.time := by
  rw [State.teardownNow_drains h0 h4]
  have hx : Within [.thy] (fun f => f ∈ [Reg.THY_CT_STAT_CSTATE, Reg.THY_STAT_LIVE, Reg.THY_STAT_ADMITTED]) s
      ((s.setCstate i 4).putContract i { s.contract i with drainAt := s.noc.clock }) :=
    (((Within.refl s).setR _ _ _ (by simp)).thyCount (by simp) (by simp)).modThy _ (by decide)
  generalize hxd : (s.setCstate i 4).putContract i { s.contract i with drainAt := s.noc.clock } = x at hx ⊢
  have hy : Within [.pge, .events] (fun f => f ∈ outputLostFields) x (if s.cstate i = 1 then x.pgeOutputLost i else x) :=
    .ite ((Within.refl x).pgeOutputLost i (by decide) (by decide) (fun _ h => h)) (.refl x)
  generalize (if s.cstate i = 1 then x.pgeOutputLost i else x) = y at hy ⊢
  have hd := y.boxDone_within m i
  refine ⟨State.boxDone_state _ _ _, ?_, ?_, ?_, ?_⟩
  · refine (hd.getR_eq _ _ (by decide)).trans ((hy.getR_eq _ _ (by decide)).trans ?_)
    rw [← hxd]
    exact (State.getR_modThy _ _ _ _).trans (State.cstate_setCstate_self s i 4)
  · have hc : (y.boxDone m i).thy.contracts = x.thy.contracts :=
      (State.boxDone_contracts _ _ _).trans (congrArg Thyme.contracts (hy.part_eq .thy (by decide)))
    rw [State.contract_congr hc, ← hxd, State.contract_putContract_self]
  · exact (hd.part_eq .mem (by decide)).trans ((hy.part_eq .mem (by decide)).trans (hx.part_eq .mem (by decide)))
  · exact (hd.part_eq .time (by decide)).trans ((hy.part_eq .time (by decide)).trans (hx.part_eq .time (by decide)))

/-- A contract at its drain's end (R246, R255): its fields at reset, its entry gone, THY_STAT counted anew. -/
def State.drained (s : State) (i : Nat) : State :=
  ((s.resetFields ctFields i).modThy (fun y => { y with contracts := Map.erase y.contracts i })).thyCount.raise thymeEp 0x0306 0 i

theorem State.drained_cstate (s : State) (i : Nat) : (s.drained i).cstate i = 0 := by
  have h : Within [.thy, .events] (fun f => f ∈ [Reg.THY_STAT_LIVE, Reg.THY_STAT_ADMITTED]) (s.resetFields ctFields i) (s.drained i) :=
    (((Within.refl _).modThy _ (by decide)).thyCount (by simp) (by simp)).raise _ _ _ _ (by decide)
  refine (h.getR_eq _ _ (by decide)).trans ?_
  change (s.resetFields (ctFields.take 13 ++ Reg.THY_CT_STAT_CSTATE :: ctFields.drop 14) i).getR _ i = 0
  rw [State.getR_resetFields s _ _ _ i (by decide)]
  simp [Field.norm, Reg.THY_CT_STAT_CSTATE]

theorem State.drained_thy (s : State) (i : Nat) : Map.find (s.drained i).thy.contracts i = none := by
  have h : (s.drained i).thy.contracts = Map.erase (s.resetFields ctFields i).thy.contracts i := rfl
  rw [h, Map.find_erase_self]

theorem State.drained_events (s : State) (i : Nat) :
    (s.drained i).events = raiseIn s.events (evKey thymeEp 0x0306) s.time.toNat 0 (i % 2 ^ 128) := by
  have h : Within [.thy] anyField s ((s.resetFields ctFields i).modThy (fun y => { y with contracts := Map.erase y.contracts i })).thyCount :=
    (((Within.refl s).resetFields _ _ (fun _ _ => trivial)).modThy _ (by decide)).thyCount trivial trivial
  rw [State.drained, State.raise_events, show _ = s.events from h.part_eq .events (by decide), show _ = s.time from h.part_eq .time (by decide)]

theorem State.drained_within (s : State) (i : Nat) : Within [.thy, .events] anyField s (s.drained i) :=
  ((((Within.refl s).resetFields _ _ (fun _ _ => trivial)).modThy _ (by decide)).thyCount trivial trivial).raise _ _ _ _ (by decide)

/-- Settles O26: an operation has its turn (`thyTurn`), its answer is the branch of the contract's state, and what a
grant, a drain and its end leave is read through their frames. -/
theorem contractCommandsComplete : Obligations.ContractCommandsComplete := by
  unfold Obligations.ContractCommandsComplete
  refine ⟨?waits, ?atOnce, ?busy, ?busyStays, ?started, ?admitted, ?answer, fun _ _ _ => rfl, ?resume, ?teardown, ?readmit, ?readmitted, ?abort, ?abortLate,
    ?stays, ?timeout, ?drainEnd⟩
  case waits =>
    intro s m id now hi h
    refine ⟨?_, ?_, ?_, ?_, ?_⟩ <;> exact congrArg Host.Outcome.next (State.thyTurn_waits _ _ _ hi h)
  case atOnce =>
    intro s m id hi h
    refine ⟨?_, ?_, ?_, ?_, ?_⟩ <;> exact congrArg Host.Outcome.next (State.thyTurn_answered _ _ _ hi h)
  case busy =>
    intro s m id op i rest hb hq
    refine ⟨?_, ?_, ?_, ?_, ?_⟩ <;> rintro rfl <;> exact congrArg Host.Outcome.next (State.thyTurn_busy_first _ hb hq)
  case busyStays =>
    intro s m id now hb h
    refine ⟨?_, ?_, ?_, ?_, ?_⟩ <;> exact congrArg Host.Outcome.next (State.thyTurn_busy_other _ hb h)
  case started =>
    intro s m op id
    exact ⟨s.boxStart_busy m op id, rfl, s.length_boxQueue _, by simp [State.boxQueue],
      ((((Leaves.refl.setR _ _ _ (by simp)).setR _ _ _ (by simp)).setR _ _ _ (by simp)).setR _ _ _ (by simp)).modThy _ (by simp)⟩
  case admitted =>
    rintro s u m p hi hq rfl hp
    refine ⟨_, congrArg Host.Outcome.next (State.thyTurn_answered _ _ _ hi hq), ?_⟩
    obtain ⟨hst, hid, hc, hsrc, hb, hown⟩ := State.admitNow_reads hp
    have hw := State.admitNow_within hp
    exact ⟨hst, hid, hc, hsrc, hb, hown, hw.part_eq .mem (by decide), hw.part_eq .time (by decide), hw.part_eq .noc (by decide)⟩
  case answer =>
    intro s m
    exact ⟨fun r h => by simp [State.admitNow, h], fun p h => s.admitNow_granted h⟩
  case resume =>
    intro s m i
    unfold State.resumeNow
    by_cases h3 : s.cstate i = 3
    · simp [h3]
    · by_cases h2 : s.cstate i = 2 <;> simp [h2, h3]
  case teardown =>
    intro s m i
    refine ⟨fun h => ?_, fun h0 h4 => State.teardownNow_reads h0 h4⟩
    rcases h with h | h <;> simp [State.teardownNow, h]
  case readmit =>
    intro s m i
    refine ⟨fun h => if_pos h, fun r h3 he => ?_, fun r h3 he ho => ?_, fun p h3 he ho => State.readmitNow_granted h3 he ho⟩
    · simp [State.readmitNow, h3, he]
    · simp [State.readmitNow, h3, he, ho]
  case readmitted =>
    rintro s u m id p hi hq rfl h3 he ho
    exact congrArg Host.Outcome.next ((State.thyTurn_answered _ _ _ hi hq).trans (State.readmitNow_granted h3 he ho))
  case abort => exact fun s m h => if_pos h
  case abortLate =>
    intro s m h hc
    exact (if_neg (by simp [h])).trans (s.when_true _ (by simp [h, State.inCommitCycle, hc]))
  case stays =>
    intro s m id
    refine ⟨fun h1 h => (if_neg h1).trans (s.when_false _ ?_), fun h => ?_, fun h => s.when_false _ ?_⟩
    · rcases h with h | h <;> simp [h]
    · change execThyTimeout m s = _
      unfold execThyTimeout
      split
      next heq =>
        obtain ⟨h1, h5⟩ := h _ heq
        rw [if_neg (by simp [h1, h5])]
      next => rfl
    · rcases h with h | h
      · simp [h]
      · simp [Nat.not_le.2 h]
  case timeout =>
    intro s m op id hq hop
    change execThyTimeout m s = _
    unfold execThyTimeout
    rw [hq]
    exact if_pos (by simpa using hop)
  case drainEnd =>
    intro s id h4 hb
    have hw := s.drained_within id.toNat
    exact ⟨s.drained id.toNat, s.when_true _ (by simp [h4, hb]), s.drained_cstate _, s.drained_thy _, s.drained_events _, hw.part_eq .mem (by decide),
      hw.part_eq .time (by decide), hw.part_eq .noc (by decide)⟩

end Sys2Proof.Machine
end

section
/-!
PROOF. The isolation of a region (R148, R149, R170 to R178): software's requests, exits and aborts, and what the two commit points leave. The frame of a NAP's
closing says that neither STAT_ISOLATED nor the time is touched by what the closing discards and answers.
-/

namespace Sys2Proof.Machine

variable {ps : List Part} {W : Field → Prop} {s t : State}

/-! ### The frame of a NAP's closing (R171) -/

/-- The fields that the breach of a contract writes. -/
def breachFields : List Field := [Reg.THY_CT_STAT_LAST_CAUSE, Reg.THY_CT_STAT_BREACHES]

theorem Within.enter (h : Within ps W s t) (r i : Nat) (p : Packet) (hn : Part.noc ∈ ps) : Within ps W s (t.enter r i p) := h.modNoc _ hn

theorem Within.decodeAnswer (h : Within ps W s t) (e : Nat) (p : Packet) (hn : Part.noc ∈ ps) (he : Part.events ∈ ps) :
    Within ps W s (t.decodeAnswer e p) := (h.raise _ _ _ _ he).modNoc _ hn

theorem Within.breachTo (h : Within ps W s t) (id cause det deadline : Nat) (toDst report : Bool) (hn : Part.noc ∈ ps) (ht : Part.thy ∈ ps)
    (he : Part.events ∈ ps) (hW : ∀ f ∈ breachFields, W f) : Within ps W s (t.breachTo id cause det deadline toDst report) := by
  simp only [breachFields, List.forall_mem_cons] at hW
  obtain ⟨hcause, hcount, -⟩ := hW
  have hsent : ∀ f r i p, Within ps W s (((t.setR Reg.THY_CT_STAT_LAST_CAUSE id cause).modThy f).enter r i p) := fun f r i p =>
    ((h.setR _ _ _ hcause).modThy f ht).enter r i p hn
  exact .ite (h.modNoc _ hn) (.ite (((hsent _ _ _ _).satAdd _ _ _ hcount).raise _ _ _ _ he) (hsent _ _ _ _))

theorem Within.breach (h : Within ps W s t) (id cause det deadline : Nat) (toSrc toDst : Bool) (hn : Part.noc ∈ ps) (ht : Part.thy ∈ ps)
    (he : Part.events ∈ ps) (hW : ∀ f ∈ breachFields, W f) : Within ps W s (t.breach id cause det deadline toSrc toDst) := by
  have hd : Within ps W s (if toDst then t.breachTo id cause det deadline true (!toSrc) else t) := .ite (h.breachTo _ _ _ _ _ _ hn ht he hW) h
  exact .ite h (.ite (hd.breachTo _ _ _ _ _ _ hn ht he hW) hd)

theorem Within.closedPort (h : Within ps W s t) (r : Nat) (p : Packet) (off : Bool) (hn : Part.noc ∈ ps) (ht : Part.thy ∈ ps)
    (he : Part.events ∈ ps) (hW : ∀ f ∈ breachFields, W f) : Within ps W s (t.closedPort r p off) := by
  have hcls : Within ps W s (if isRequest p then
      (if off then (t.raise (rtrSrc r) 0x0207 2 (nocDetail p 4 (epPort p.dest))).answerAt r p 3
        else ((t.unmappedAt (rtrSrc r) p).raise (rtrSrc r) 0x0207 2 (nocDetail p 4 (epPort p.dest))).answerAt r p 1)
      else t.raise (rtrSrc r) 0x0207 2 (nocDetail p 4 (epPort p.dest))) :=
    .ite (.ite ((h.raise _ _ _ _ he).enter _ _ _ hn) (((h.raise _ _ _ _ he).raise _ _ _ _ he).enter _ _ _ hn)) (h.raise _ _ _ _ he)
  exact .ite (hcls.breach _ _ _ _ _ _ hn ht he hW) (.ite ((h.raise _ _ _ _ he).enter _ _ _ hn) (.ite (h.raise _ _ _ _ he)
    ((h.raise _ _ _ _ he).enter _ _ _ hn)))

theorem Within.ingress (h : Within ps W s t) (p : Packet) (hn : Part.noc ∈ ps) (ht : Part.thy ∈ ps) (he : Part.events ∈ ps) :
    Within ps W s (t.ingress p) := by
  unfold State.ingress State.ingressWith
  refine .ite (h.enter _ _ _ hn) (.ite ?_ (.ite ((h.modThy _ ht).enter _ _ _ hn) (h.enter _ _ _ hn)))
  split
  · exact h.raise _ _ _ _ he
  · exact h

theorem Within.napSend (h : Within ps W s t) (rg : Nat) (p : Packet) (hn : Part.noc ∈ ps) (ht : Part.thy ∈ ps) (he : Part.events ∈ ps) :
    Within ps W s (t.napSend rg p) := .ite (h.raise _ _ _ _ he) (h.ingress _ hn ht he)

theorem Within.completeTx (h : Within ps W s t) (rg : Nat) (hi : Part.ic ∈ ps) (hn : Part.noc ∈ ps) (ht : Part.thy ∈ ps) (he : Part.events ∈ ps) :
    Within ps W s (t.completeTx rg) := by
  unfold State.completeTx
  split
  · exact h
  · exact (h.modRegion rg _ hi).napSend rg _ hn ht he

theorem Within.napClose (h : Within ps W s t) (rg : Nat) (hi : Part.ic ∈ ps) (hn : Part.noc ∈ ps) (ht : Part.thy ∈ ps) (he : Part.events ∈ ps)
    (hW : ∀ f ∈ breachFields, W f) : Within ps W s (t.napClose rg) := by
  have hempty := ((h.completeTx rg hi hn ht he).modNoc (fun n => { n with inbox := Map.set [] n.inbox (napEp rg) [] }) hn).modRegion rg
    (fun r => { r with mm := [], rx := dropPartial r.rx, rxWait := [] }) hi
  exact (hempty.foldl (fun _ _ k => k.decodeAnswer _ _ hn he) _).foldl (fun _ _ k => k.closedPort _ _ _ hn ht he hW) _

/-! ### Causes of isolation (R174, R177) -/

/-- The fields that follow STAT_ISOLATED where a cause begins or ends. -/
def isoLaterFields : List Field := [Reg.PLIC_LEVEL, Reg.PLIC_WAIT, Reg.PLIC_PEND, Reg.NOC_PSTATE]

/-- The fields that a cause's begin or end writes. -/
def isoFields : List Field := Reg.FAB_RGN_STAT_CAUSE :: Reg.FAB_RGN_STAT_ISOLATED :: isoLaterFields

theorem State.getR_isolated_setCauses (s : State) (rg : Nat) (l : List Nat) :
    (s.setCauses rg l).getR Reg.FAB_RGN_STAT_ISOLATED rg = bit (!l.isEmpty) := by
  have hlines : Within [] (fun f => f ∈ isoLaterFields) (((s.modRegion rg (fun r => { r with causes := l })).setR Reg.FAB_RGN_STAT_CAUSE rg
      (l.head?.getD 0)).setR Reg.FAB_RGN_STAT_ISOLATED rg (bit (!l.isEmpty))) (s.setCauses rg l) :=
    (Within.refl _).fabLines rg (by simp [isoLaterFields]) (by simp [isoLaterFields]) (by simp [isoLaterFields])
  rw [hlines.getR_eq _ _ (by decide), State.getR_setR_self]
  generalize (!l.isEmpty) = b
  cases b <;> rfl

theorem State.causes_setCauses (s : State) (rg : Nat) (l : List Nat) : ((s.setCauses rg l).region rg).causes = l := by
  have hlines : Within [] anyField (s.modRegion rg (fun r => { r with causes := l })) (s.setCauses rg l) :=
    (((Within.refl _).setR _ _ _ trivial).setR _ _ _ trivial).fabLines rg trivial trivial trivial
  rw [State.region, show (s.setCauses rg l).ic = _ from hlines.part_eq .ic (by decide)]
  simp [State.modRegion, State.modIc]

/-- The end of a cause takes it out of the region's causes (R174). -/
theorem State.causes_unisolate (s : State) (rg cause : Nat) :
    ((s.unisolate rg cause).region rg).causes = (s.region rg).causes.filter (fun c => !decide (c = cause)) := by
  have hic : Within [.events] anyField (s.setCauses rg ((s.region rg).causes.filter (fun c => !decide (c = cause)))) (s.unisolate rg cause) := by
    have hp := (Within.refl (ps := [.events]) (W := anyField) (s.setCauses rg ((s.region rg).causes.filter (fun c => !decide (c = cause))))).napPort rg
      ((s.region rg).causes.filter (fun c => !decide (c = cause))) trivial
    exact .ite (hp.raise _ _ _ _ (by decide)) hp
  rw [State.region, show (s.unisolate rg cause).ic = _ from hic.part_eq .ic (by decide)]
  exact s.causes_setCauses rg _

theorem Within.unisolate (h : Within ps W s t) (rg cause : Nat) (hi : Part.ic ∈ ps) (he : Part.events ∈ ps) (hW : ∀ f ∈ isoFields, W f) :
    Within ps W s (t.unisolate rg cause) := by
  have hp := (h.setCauses rg ((t.region rg).causes.filter (fun c => !decide (c = cause))) hi (fun f hf => hW f (by
    simp only [causeFields, isoFields, isoLaterFields, List.mem_cons, List.not_mem_nil] at hf ⊢; tauto))).napPort rg
      ((t.region rg).causes.filter (fun c => !decide (c = cause))) (hW _ (by simp [isoFields, isoLaterFields]))
  exact .ite (hp.raise _ _ _ _ he) hp

/-- The end of the last cause shows in STAT_ISOLATED. -/
theorem State.getR_isolated_unisolate (s : State) (rg cause : Nat) : (s.unisolate rg cause).getR Reg.FAB_RGN_STAT_ISOLATED rg
    = bit (!((s.region rg).causes.filter (fun c => !decide (c = cause))).isEmpty) := by
  have hport : Within [.events] (fun f => f ∈ isoLaterFields) (s.setCauses rg ((s.region rg).causes.filter (fun c => !decide (c = cause))))
      (s.unisolate rg cause) := by
    have hp := (Within.refl (ps := [.events]) (W := (fun f => f ∈ isoLaterFields)) (s.setCauses rg ((s.region rg).causes.filter
      (fun c => !decide (c = cause))))).napPort rg ((s.region rg).causes.filter (fun c => !decide (c = cause))) (by simp [isoLaterFields])
    exact .ite (hp.raise _ _ _ _ (by decide)) hp
  rw [hport.getR_eq _ _ (by decide), State.getR_isolated_setCauses]

/-- The parts that the begin of a cause may write. -/
def isolateParts : List Part := [.ic, .noc, .thy, .tio, .events]

/-- The fields that follow STAT_ISOLATED where a cause begins. -/
def isolateLaterFields : List Field := isoLaterFields ++ breachFields

/-- The begin of a cause shows in STAT_ISOLATED, and moves no time (R170 to R178). -/
theorem State.isolate_reads (s : State) (rg cause : Nat) :
    (s.isolate rg cause).getR Reg.FAB_RGN_STAT_ISOLATED rg = 1 ∧ (s.isolate rg cause).time = s.time := by
  unfold State.isolate
  extract_lets l
  have hafter : ∀ u : State, Within isolateParts (fun f => f ∈ isolateLaterFields) (u.setCauses rg l) ((u.setCauses rg l).napPort rg l)
      ∧ ∀ d, Within isolateParts (fun f => f ∈ isolateLaterFields) (u.setCauses rg l)
        (((((u.setCauses rg l).dcqFlush rg).napPort rg l).napClose rg).raise (napEp rg) 0x0921 0 d) := fun u =>
    ⟨(Within.refl _).napPort rg l (by simp [isoLaterFields, isolateLaterFields]), fun d =>
      ((((Within.refl _).modIc _ (by decide)).napPort rg l (by simp [isoLaterFields])).napClose rg (by decide) (by decide) (by decide)
        (by decide) (fun f hf => List.mem_append_right _ hf)).raise _ _ _ _ (by decide)⟩
  have hset : ∀ u : State, (u.setCauses rg l).getR Reg.FAB_RGN_STAT_ISOLATED rg = 1 ∧ (u.setCauses rg l).time = u.time := fun u =>
    ⟨u.getR_isolated_setCauses rg l,
      ((Within.refl (ps := [.ic]) (W := anyField) u).setCauses rg l (by decide) (fun _ _ => trivial)).part_eq .time (by decide)⟩
  split
  · obtain ⟨hi, ht⟩ := hset s
    exact ⟨((hafter s).1.getR_eq _ _ (by decide)).trans hi, ((hafter s).1.part_eq .time (by decide)).trans ht⟩
  · obtain ⟨hi, ht⟩ := hset (s.holdBorders rg)
    exact ⟨(((hafter _).2 _).getR_eq _ _ (by decide)).trans hi, (((hafter _).2 _).part_eq .time (by decide)).trans ht⟩

/-! ### Software's operations (R173 to R175) -/

theorem State.isoExit_reads (u : State) (rg : Nat) (h : u.getR Reg.FAB_RGN_STAT_STATE rg ≠ 1) :
    (u.isoExit rg).getR Reg.FAB_RGN_STAT_STATE rg = (if (u.region rg).causes.contains 1 then 1 else 4)
      ∧ (u.isoExit rg).getR Reg.FAB_RGN_STAT_REASON rg = (if (u.region rg).causes.contains 1 then 0 else 2) := by
  unfold State.isoExit
  rw [if_neg h]
  split
  · simp (disch := decide) only [State.isoWait, State.isoStart, State.getR_setR_id, State.getR_setR_self]
    exact ⟨rfl, rfl⟩
  · simp (disch := decide) only [State.isoEnd, State.getR_setR_id, State.getR_setR_self]
    exact ⟨rfl, rfl⟩

theorem State.isoExit_leaves (u : State) (rg : Nat) : Leaves [] [Reg.FAB_RGN_STAT_ABORT_LATE.key rg, Reg.FAB_RGN_STAT_REASON.key rg,
    Reg.FAB_RGN_STAT_STATE.key rg, Reg.RGN_ISOOP.key rg, Reg.RGN_ISOT.key rg] u (u.isoExit rg) := by
  have hstart : Leaves [] [Reg.FAB_RGN_STAT_ABORT_LATE.key rg, Reg.FAB_RGN_STAT_REASON.key rg, Reg.FAB_RGN_STAT_STATE.key rg, Reg.RGN_ISOOP.key rg,
      Reg.RGN_ISOT.key rg] u (u.isoStart rg) := (Leaves.refl.setR _ _ _ (by simp)).setR _ _ _ (by simp)
  exact .ite .refl (.ite (((hstart.setR _ _ _ (by simp)).setR _ _ _ (by simp)).setR _ _ _ (by simp)) ((hstart.setR _ _ _ (by simp)).setR _ _ _ (by simp)))

theorem State.isoExit_getR (u : State) (rg : Nat) (f : Field) (i : Nat) (hf : ∀ g ∈ [Reg.FAB_RGN_STAT_ABORT_LATE, Reg.FAB_RGN_STAT_REASON,
    Reg.FAB_RGN_STAT_STATE, Reg.RGN_ISOOP, Reg.RGN_ISOT], f.id % Field.idBound ≠ g.id % Field.idBound) : (u.isoExit rg).getR f i = u.getR f i := by
  have hstart := ((Within.refl (ps := []) (W := fun g => g ∈ [Reg.FAB_RGN_STAT_ABORT_LATE, Reg.FAB_RGN_STAT_REASON, Reg.FAB_RGN_STAT_STATE,
    Reg.RGN_ISOOP, Reg.RGN_ISOT]) u).setR Reg.FAB_RGN_STAT_ABORT_LATE rg 0 (by simp)).setR Reg.FAB_RGN_STAT_REASON rg 0 (by simp)
  have hexit : Within [] _ u (u.isoExit rg) := .ite (.refl u) (.ite (((hstart.setR _ _ _ (by simp)).setR _ _ _ (by simp)).setR _ _ _ (by simp))
    ((hstart.setR _ _ _ (by simp)).setR _ _ _ (by simp)))
  exact hexit.getR_eq f i hf

/-! ### The staged release of mode 1 (R174) -/

theorem Map.length_put_new {α : Type} (m : Map α) (k : Nat) (v : α) (h : ∀ e ∈ m, e.1 ≠ k) : (Map.put m k v).length = m.length + 1 := by
  induction m with
  | nil => rfl
  | cons e m ih =>
    obtain ⟨j, w⟩ := e
    have hj : k ≠ j := fun e => h (j, w) (List.mem_cons_self ..) e.symm
    rw [Map.put, if_neg hj]
    split
    · rfl
    · simp [ih fun e he => h e (List.mem_cons_of_mem _ he)]

/-- The number of a release is new. -/
theorem State.ne_newRel (s : State) : ∀ e ∈ s.fab.rels, e.1 ≠ s.newRel := by
  have hmax : ∀ (l : Map Release) (n : Nat), n ≤ l.foldl (fun m e => max m (e.1 + 1)) n
      ∧ ∀ e ∈ l, e.1 < l.foldl (fun m e => max m (e.1 + 1)) n := by
    intro l
    induction l with
    | nil => simp
    | cons x l ih =>
      intro n
      obtain ⟨hle, hlt⟩ := ih (max n (x.1 + 1))
      refine ⟨le_trans (le_max_left _ _) hle, fun e he => ?_⟩
      rcases List.mem_cons.1 he with rfl | he
      · exact lt_of_lt_of_le (Nat.lt_succ_self _) (le_trans (le_max_right _ _) hle)
      · exact hlt e he
  exact fun e he => Nat.ne_of_lt ((hmax s.fab.rels 0).2 e he)

theorem State.fab_modFab (s : State) (f : Fabric → Fabric) : (s.modFab f).fab = f s.fab := rfl

theorem State.fab_setR (s : State) (f : Field) (i v : Nat) : (s.setR f i v).fab = s.fab := rfl

theorem State.rels_restoreRam (s : State) (p : Nat → Bool) : (s.restoreRam p).fab.rels = s.fab.rels := rfl

/-- A region's hold shows in its three bits, and of its interconnect state touches only what its borders show. -/
theorem State.holdRegion_reads (s : State) (rg : Nat) :
    (s.holdRegion rg).getR Reg.FAB_WRHOLD rg = 1 ∧ (s.holdRegion rg).getR Reg.FAB_STHOLD rg = 1 ∧ (s.holdRegion rg).ic.regions = s.ic.regions
      ∧ (s.holdRegion rg).fab.rels = s.fab.rels := by
  unfold State.holdRegion
  extract_lets u t
  have hu : u.ic.regions = s.ic.regions ∧ u.fab = s.fab := by
    change (if s.outputsLive rg then s.holdBorders rg else s).ic.regions = _ ∧ (if s.outputsLive rg then s.holdBorders rg else s).fab = _
    split <;> exact ⟨rfl, rfl⟩
  obtain ⟨hic, hfab⟩ := hu
  have ht : Within [] anyField u t := ((((Within.refl u).setR _ _ _ trivial).setR _ _ _ trivial).setR _ _ _ trivial).setR _ _ _ trivial
  refine ⟨?_, ?_, ?_, ?_⟩
  · simp (disch := decide) only [State.getR_modFab, t, State.getR_setR_id, State.getR_setR_self]
    rfl
  · simp (disch := decide) only [State.getR_modFab, t, State.getR_setR_id, State.getR_setR_self]
    rfl
  · exact (congrArg Interconnect.regions (ht.part_eq .ic (by decide))).trans hic
  · rw [State.fab_modFab]
    dsimp only
    rw [show t.fab = u.fab from ht.part_eq .fab (by decide), hfab]

/-- What mode 1's exit commit leaves before software's cause ends: the region held but for its outputs, and release `k` under way. -/
def State.exitHeld (s : State) (rg k : Nat) (rel : Release) : State :=
  (((s.holdRegion rg).restoreRam (fun x => decide (x = rg))).setR Reg.FAB_OUTHOLD rg 0).modFab (fun f => { f with rels := Map.put f.rels k rel })

theorem State.exitHeld_within (s : State) (rg k : Nat) (rel : Release) :
    Within [.ic, .tio, .fab] (fun f => f ∈ holdFields) s (s.exitHeld rg k rel) :=
  (((((Within.refl s).holdRegion rg (by decide) (by decide) (by decide) (fun _ h => h)).modFab _ (by decide)).setR _ _ _ (by simp [holdFields])).modFab _
    (by decide))

theorem State.exitHeld_after (s : State) (rg k : Nat) (rel : Release) :
    Within [.fab] (fun f => f ∈ [Reg.FAB_OUTHOLD]) (s.holdRegion rg) (s.exitHeld rg k rel) :=
  (((Within.refl _).modFab _ (by decide)).setR _ _ _ (by simp)).modFab _ (by decide)

theorem State.exitHeld_reads (s : State) (rg k : Nat) (rel : Release) (hk : ∀ e ∈ s.fab.rels, e.1 ≠ k) :
    (s.exitHeld rg k rel).getR Reg.FAB_OUTHOLD rg = 0 ∧ (s.exitHeld rg k rel).getR Reg.FAB_WRHOLD rg = 1
      ∧ (s.exitHeld rg k rel).getR Reg.FAB_STHOLD rg = 1 ∧ (s.exitHeld rg k rel).region rg = s.region rg
      ∧ (s.exitHeld rg k rel).fab.rels.length = s.fab.rels.length + 1 := by
  obtain ⟨hwr, hst, hic, hrels⟩ := s.holdRegion_reads rg
  have hafter := s.exitHeld_after rg k rel
  refine ⟨?_, (hafter.getR_eq _ _ (by decide)).trans hwr, (hafter.getR_eq _ _ (by decide)).trans hst, ?_, ?_⟩
  · rw [State.exitHeld, State.getR_modFab, State.getR_setR_self]
    rfl
  · rw [State.region, show (s.exitHeld rg k rel).ic = (s.holdRegion rg).ic from hafter.part_eq .ic (by decide), hic]
    rfl
  · rw [State.exitHeld, State.fab_modFab]
    dsimp only
    rw [State.fab_setR, State.rels_restoreRam, hrels, Map.length_put_new _ _ _ hk]

/-- Settles O23: software's operations by the branch of STATE and of the region's causes, the two commit points through the frames of `isolate`, `unisolate`
and `holdRegion`. -/
theorem regionIsolationCommandsComplete : Obligations.RegionIsolationCommandsComplete := by
  unfold Obligations.RegionIsolationCommandsComplete
  refine ⟨?clkSel, ?req, ?reqAll, ?exit, ?abort, ?exitBusy, ?abortNothing, ?abortLate, ?commit, ?commitNothing, ?exitNotDue, ?exitCommit, ?exitStaged,
    fun s rg cause _ => s.causes_unisolate rg cause⟩
  case clkSel =>
    rintro s u fd r sel rfl
    change execRegionClkSelWrite fd r sel false s = _
    unfold execRegionClkSelWrite
    dsimp only
    simp only [Bool.false_eq_true, if_false]
    split_ifs <;> rfl
  case req =>
    rintro s u fd r rfl h1 hadm hiso
    have hat : ((s.touchRegion (rgn fd r)).isoStart (rgn fd r)).getR Reg.FAB_RGN_ISO_AT (rgn fd r)
        = (s.touchRegion (rgn fd r)).getR Reg.FAB_RGN_ISO_AT (rgn fd r) := by
      simp (disch := decide) only [State.isoStart, State.getR_setR_id]
    change Host.Outcome.next ((s.touchRegion (rgn fd r)).isoReq (rgn fd r)) = _
    rw [State.isoReq, if_neg h1, if_neg (by simp [hadm]), if_neg (by simp [hiso]), State.isoWait, hat]
    rfl
  case reqAll =>
    rintro s u fd r rfl
    change Host.Outcome.next ((s.touchRegion (rgn fd r)).isoReq (rgn fd r)) = _
    unfold State.isoReq
    dsimp only
    generalize ((s.touchRegion (rgn fd r)).admittedAt (napEp (rgn fd r))).isEmpty = b
    cases b <;> rfl
  case exit =>
    rintro s u fd r mode rfl h1
    change (s.touchRegion (rgn fd r)).getR _ _ ≠ 1 at h1
    change ∃ t, Host.Outcome.next (((s.touchRegion (rgn fd r)).setR Reg.FAB_RGN_ISO_EXITMODE (rgn fd r) (bit mode)).isoExit (rgn fd r)) = .next t ∧ _
    generalize s.touchRegion (rgn fd r) = u at h1 ⊢
    have h1' : (u.setR Reg.FAB_RGN_ISO_EXITMODE (rgn fd r) (bit mode)).getR Reg.FAB_RGN_STAT_STATE (rgn fd r) ≠ 1 := by
      rwa [State.getR_setR_id _ _ _ _ _ _ (by decide)]
    obtain ⟨hstate, hreason⟩ := State.isoExit_reads _ _ h1'
    refine ⟨_, rfl, ?_, hstate, hreason, (Leaves.refl.setR _ _ _ (by simp)).trans ((State.isoExit_leaves _ _).mono (by simp) (by simp))⟩
    rw [State.isoExit_getR _ _ _ _ (by decide), State.getR_setR_self]
    cases mode <;> rfl
  case abort => rintro s u fd r rfl h; exact congrArg Host.Outcome.next (if_pos h)
  case exitBusy =>
    rintro s u fd r mode rfl h1
    exact congrArg Host.Outcome.next (if_pos ((State.getR_setR_id _ _ _ _ _ _ (by decide)).trans h1))
  case abortNothing =>
    rintro s u fd r rfl h0 h
    refine congrArg Host.Outcome.next ((if_neg (not_not.2 h0)).trans (if_neg ?_))
    rintro ⟨h2, hc⟩
    rcases h with h | h
    · exact h h2
    · rw [h] at hc; cases hc
  case abortLate =>
    rintro s u fd r rfl h0 h2 hc
    exact congrArg Host.Outcome.next ((if_neg (not_not.2 h0)).trans (if_pos ⟨h2, decide_eq_true hc⟩))
  case commit =>
    intro s fd r hop hdue hpend
    have hlist : s.isoDue (rgn fd r) = [1] := by simp [State.isoDue, hop, hdue, hpend]
    obtain ⟨hiso, htime⟩ := s.isolate_reads (rgn fd r) 1
    change ∃ t, execIsolationCommit fd r s = .next t ∧ _
    simp only [execIsolationCommit, hlist, hop, List.foldl_cons, List.foldl_nil, show [1].contains 2 = false from rfl, show [1].contains 1 = true from rfl,
      Bool.false_eq_true, if_false, decide_true, Bool.and_self, if_true]
    generalize s.isolate (rgn fd r) 1 = u at hiso htime ⊢
    refine ⟨_, rfl, ?_, ?_, ?_, htime⟩
    · simp (disch := decide) only [State.markCommit, State.getR_setR_id, State.getR_setR_self]
      rfl
    · simp (disch := decide) only [State.markCommit, State.getR_setR_id, State.getR_setR_self]
      rfl
    · simp (disch := decide) only [State.markCommit, State.getR_setR_id]
      exact hiso
  case commitNothing =>
    intro s fd r h
    change execIsolationCommit fd r s = _
    simp [execIsolationCommit, h]
  case exitNotDue =>
    intro s fd r h
    refine if_neg ?_
    rintro ⟨h2, hd⟩
    rcases h with h | h
    · exact h h2
    · rw [h] at hd; cases hd
  case exitCommit =>
    intro s fd r h2 hd hm
    change execIsolationExitCommit fd r s = _
    simp only [execIsolationExitCommit, h2, hd, hm, and_self, if_true, Bool.false_and, Bool.false_eq_true, if_false]
    rfl
  case exitStaged =>
    intro s fd r h2 hd hm hc
    generalize hv : ((s.setR Reg.RGN_ISOOP (rgn fd r) 0).setR Reg.FAB_RGN_STAT_STATE (rgn fd r) 2).markCommit Reg.RGN_CMT (rgn fd r) = v
    have hvs : Within [] (fun f => f ∈ [Reg.RGN_ISOOP, Reg.FAB_RGN_STAT_STATE, Reg.RGN_CMT]) s v := by
      rw [← hv]
      exact (((Within.refl s).setR _ _ _ (by simp)).setR _ _ _ (by simp)).markCommit _ _ (by simp)
    have hst : v.getR Reg.FAB_RGN_STAT_STATE (rgn fd r) = 2 ∧ v.getR Reg.RGN_ISOOP (rgn fd r) = 0 := by
      rw [← hv]
      simp (disch := decide) only [State.markCommit, State.getR_setR_id, State.getR_setR_self]
      exact ⟨rfl, rfl⟩
    have hfab : v.fab = s.fab := hvs.part_eq .fab (by decide)
    generalize hrel : (⟨[rgn fd r], s.time, s.releaseS [rgn fd r], 1, false, 0, 1⟩ : Release) = rel
    have hexec : exec (.isolationExitCommit fd r) s = .next ((v.exitHeld (rgn fd r) s.newRel rel).unisolate (rgn fd r) 1) := by
      change execIsolationExitCommit fd r s = _
      simp only [execIsolationExitCommit, h2, hd, hm, hc, and_self, if_true, decide_true, Bool.and_self, hv, hrel]
      rfl
    have hnew : ∀ e ∈ v.fab.rels, e.1 ≠ s.newRel := by
      rw [hfab]
      exact s.ne_newRel
    obtain ⟨hout, hwr, hsh, hreg, hlen⟩ := v.exitHeld_reads (rgn fd r) s.newRel rel hnew
    have hw := v.exitHeld_within (rgn fd r) s.newRel rel
    generalize v.exitHeld (rgn fd r) s.newRel rel = w at hexec hout hwr hsh hreg hlen hw
    have hu : Within [.ic, .events] (fun f => f ∈ isoFields) w (w.unisolate (rgn fd r) 1) :=
      (Within.refl w).unisolate _ 1 (by decide) (by decide) (fun _ h => h)
    have hcauses : (w.region (rgn fd r)).causes = [1] := by
      rw [hreg, State.region, show v.ic = s.ic from hvs.part_eq .ic (by decide)]
      exact hc
    refine ⟨_, hexec, (hu.getR_eq _ _ (by decide)).trans ((hw.getR_eq _ _ (by decide)).trans hst.1),
      (hu.getR_eq _ _ (by decide)).trans ((hw.getR_eq _ _ (by decide)).trans hst.2), ?_, (hu.getR_eq _ _ (by decide)).trans hout,
      (hu.getR_eq _ _ (by decide)).trans hwr, (hu.getR_eq _ _ (by decide)).trans hsh, ?_, ?_, ?_⟩
    · rw [State.getR_isolated_unisolate, hcauses]
      rfl
    · rw [show (w.unisolate (rgn fd r) 1).fab = w.fab from hu.part_eq .fab (by decide), hlen, hfab]
    · exact (hu.part_eq .time (by decide)).trans ((hw.part_eq .time (by decide)).trans (hvs.part_eq .time (by decide)))
    · exact (hu.part_eq .mem (by decide)).trans ((hw.part_eq .mem (by decide)).trans (hvs.part_eq .mem (by decide)))

end Sys2Proof.Machine
end

section
/-!
PROOF. The PCIe controller's DMA channels, the debug mailbox and the staged operations (R38, R533 to R548, R573, R611 to R613): a channel that goes on passes a
chunk, finishes and issues, and each of the three is said once by what it looks at.
-/

namespace Sys2Proof.Machine

variable {ps : List Part} {W : Field → Prop} {s t : State}

/-! ### A channel's parts -/

@[simp] theorem State.dma_modDma_self (s : State) (c : Nat) (f : PcieDma → PcieDma) : (s.modDma c f).dma c = f (s.dma c) := by
  simp [State.modDma, State.dma, State.modPcie]

theorem State.frozen_congr (h : t.regs = s.regs) (f : Field) (req : Nat) : t.frozen f req = s.frozen f req := by
  simp only [State.frozen, State.flag, State.getR_congr h]

/-! ### A channel goes on (R533 to R535): passing a chunk -/

theorem State.dmaPass_ended {c : Nat} (h : s.getR Reg.PCI_DMA_STAT_STATE c ≠ 1) : s.dmaPass c = s := if_pos (.inl h)

theorem State.dmaPass_idle {c : Nat} (h : (s.dma c).ready = []) : s.dmaPass c = s := by simp [State.dmaPass, h]

/-- The next chunk is there with an error: the channel fails. -/
theorem State.dmaPass_error {c i err data : Nat} (h1 : s.getR Reg.PCI_DMA_STAT_STATE c = 1) (hw : (s.dma c).writing = none)
    (hr : (s.dma c).ready = [(i, err, data)]) (hi : s.dmaDone c = i) (he : err ≠ 0) :
    s.dmaPass c = (s.modDma c (fun k => { k with ready := k.ready.filter (fun e => !decide (e.1 = i)) })).dmaFail c err := by
  simp [State.dmaPass, h1, hw, hr, hi, he]

/-! ### Finishing -/

theorem State.dmaFinish_ended {c : Nat} (h : s.getR Reg.PCI_DMA_STAT_STATE c ≠ 1) : s.dmaFinish c = s := if_pos (.inl h)

/-- A channel that is not at LEN, with neither an FLR nor a STOP, does not end. -/
theorem State.dmaFinish_goes {c : Nat} (hf : (s.dma c).flr = false) (hlen : s.getR Reg.PCI_DMA_DONE_BYTES c ≠ s.getR Reg.PCI_DMA_LEN_BYTES c)
    (hs : (s.dma c).stopping = false) : s.dmaFinish c = s := by
  simp [State.dmaFinish, hf, hlen, hs]

/-- A stopped channel with nothing outstanding ends STOPPED. -/
theorem State.dmaFinish_stopped {c : Nat} (h1 : s.getR Reg.PCI_DMA_STAT_STATE c = 1) (hw : (s.dma c).writing = none) (hf : (s.dma c).flr = false)
    (hlen : s.getR Reg.PCI_DMA_DONE_BYTES c ≠ s.getR Reg.PCI_DMA_LEN_BYTES c) (hs : (s.dma c).stopping = true) (ho : (s.dma c).out = [])
    (hr : (s.dma c).ready = []) : s.dmaFinish c = s.dmaEnd c 6 false := by
  simp [State.dmaFinish, h1, hw, hf, hlen, hs, ho, hr]

/-! ### Issuing -/

theorem State.dmaMay_ended {c : Nat} (h : s.getR Reg.PCI_DMA_STAT_STATE c ≠ 1) : s.dmaMay c = false := by simp [State.dmaMay, h]

theorem State.dmaIssue_host {c : Nat} (hd : s.flag Reg.PCI_DMA_CFG_DIR c = false) :
    s.dmaIssue c = s.modDma c (fun k => { k with next := (s.dma c).next + 1, out := k.out ++ [(s.dma c).next] }) := if_pos (by rw [hd]; rfl)

/-- A channel with the first `m` chunks requested of the host. -/
def dmaRequested (r m : Nat) : PcieDma := { dma0 with next := m, out := List.range m, starter := r }

theorem State.dmaMay_requested {c r m : Nat} (h : s.dma c = dmaRequested r m) (h1 : s.getR Reg.PCI_DMA_STAT_STATE c = 1)
    (hfrz : s.frozen Reg.CTL_FRZ_PDMA r = false) :
    s.dmaMay c = (decide (512 * m < s.getR Reg.PCI_DMA_LEN_BYTES c) && decide (m < 16)) := by
  simp [State.dmaMay, h, h1, dmaRequested, dma0, hfrz, bit]

/-- Of `j` requests that a fresh host-to-device channel may make, it makes as many as there are chunks. -/
theorem State.dmaIssues_host {c r : Nat} (h1 : s.getR Reg.PCI_DMA_STAT_STATE c = 1) (hd : s.flag Reg.PCI_DMA_CFG_DIR c = false)
    (hfrz : s.frozen Reg.CTL_FRZ_PDMA r = false) (h0 : s.dma c = dmaRequested r 0) {j : Nat} (hj : j ≤ 16) :
    let t := (List.range j).foldl (fun t _ => if t.dmaMay c then t.dmaIssue c else t) s
    t.regs = s.regs ∧ Leaves [.pcie] [] s t ∧ t.dma c = dmaRequested r (min j (ceilDiv (s.getR Reg.PCI_DMA_LEN_BYTES c) 512)) := by
  induction j with
  | zero => exact ⟨rfl, .refl, by simpa using h0⟩
  | succ j ih =>
    obtain ⟨hregs, hleaves, hdma⟩ := ih (by omega)
    rw [List.range_succ, List.foldl_append, List.foldl_cons, List.foldl_nil]
    generalize (List.range j).foldl (fun t _ => if t.dmaMay c then t.dmaIssue c else t) s = t at hregs hleaves hdma ⊢
    have h1t : t.getR Reg.PCI_DMA_STAT_STATE c = 1 := (State.getR_congr hregs _ _).trans h1
    have hdt : t.flag Reg.PCI_DMA_CFG_DIR c = false := by rw [State.flag, State.getR_congr hregs]; exact hd
    have hmay := State.dmaMay_requested hdma h1t ((State.frozen_congr hregs _ _).trans hfrz)
    rw [State.getR_congr hregs] at hmay
    by_cases hlt : j < ceilDiv (s.getR Reg.PCI_DMA_LEN_BYTES c) 512
    · rw [min_eq_left hlt.le] at hdma hmay
      have hbytes : 512 * j < s.getR Reg.PCI_DMA_LEN_BYTES c := by
        rw [ceilDiv] at hlt
        omega
      rw [if_pos (by rw [hmay]; simpa using ⟨hbytes, by omega⟩), State.dmaIssue_host hdt]
      refine ⟨hregs, hleaves.modPcie _ (by simp), ?_⟩
      rw [State.dma_modDma_self, hdma, min_eq_left hlt]
      simp [dmaRequested, List.range_succ]
    · have hge : ceilDiv (s.getR Reg.PCI_DMA_LEN_BYTES c) 512 ≤ j := Nat.not_lt.1 hlt
      rw [min_eq_right hge] at hdma hmay
      have hbytes : ¬ 512 * ceilDiv (s.getR Reg.PCI_DMA_LEN_BYTES c) 512 < s.getR Reg.PCI_DMA_LEN_BYTES c := by
        rw [ceilDiv]
        omega
      rw [if_neg (by rw [hmay]; simp [hbytes]), min_eq_right (by omega)]
      exact ⟨hregs, hleaves, hdma⟩

/-! ### All three together -/

/-- The chunks that are there are passed on. -/
def State.dmaPasses (s : State) (c : Nat) : State := (List.range 16).foldl (fun t _ => t.dmaPass c) s

/-- The chunks that may be requested are. -/
def State.dmaIssues (s : State) (c : Nat) : State := (List.range 16).foldl (fun t _ => if t.dmaMay c then t.dmaIssue c else t) s

theorem State.dmaGo_eq (s : State) (c : Nat) : s.dmaGo c = ((s.dmaPasses c).dmaFinish c).dmaIssues c := rfl

/-- One pass whose outcome is left by a further one is all that happens. -/
theorem State.dmaPasses_of_fixed {c : Nat} (h : s.dmaPass c = t) (ht : t.dmaPass c = t) : s.dmaPasses c = t := by
  rw [State.dmaPasses, show List.range 16 = 0 :: (List.range 15).map Nat.succ from List.range_succ_eq_map, List.foldl_cons, h]
  exact List.foldl_fixed' (fun _ => ht) _

theorem State.dmaPasses_idle {c : Nat} (h : (s.dma c).ready = []) : s.dmaPasses c = s :=
  State.dmaPasses_of_fixed (State.dmaPass_idle h) (State.dmaPass_idle h)

theorem State.dmaIssues_ended {c : Nat} (h : s.getR Reg.PCI_DMA_STAT_STATE c ≠ 1) : s.dmaIssues c = s :=
  List.foldl_fixed' (fun _ => if_neg (by simp [State.dmaMay_ended h])) _

/-- A fresh host-to-device channel stays BUSY, with its first chunks requested (R533). -/
theorem State.dmaGo_fresh {c r : Nat} (h1 : s.getR Reg.PCI_DMA_STAT_STATE c = 1) (hd : s.flag Reg.PCI_DMA_CFG_DIR c = false)
    (hfrz : s.frozen Reg.CTL_FRZ_PDMA r = false) (h0 : s.dma c = dmaRequested r 0)
    (hlen : s.getR Reg.PCI_DMA_DONE_BYTES c ≠ s.getR Reg.PCI_DMA_LEN_BYTES c) :
    (s.dmaGo c).regs = s.regs ∧ Leaves [.pcie] [] s (s.dmaGo c)
      ∧ (s.dmaGo c).dma c = dmaRequested r (min 16 (ceilDiv (s.getR Reg.PCI_DMA_LEN_BYTES c) 512)) := by
  rw [State.dmaGo_eq, State.dmaPasses_idle (by rw [h0]; rfl), State.dmaFinish_goes (by rw [h0]; rfl) hlen (by rw [h0]; rfl)]
  exact State.dmaIssues_host h1 hd hfrz h0 le_rfl

/-! ### The end of a transfer (R534, R557) -/

theorem Within.msix (h : Within ps W s t) (fn v : Nat) (hp : Part.pcie ∈ ps) : Within ps W s (t.msix fn v) :=
  .ite h (.ite ((h.modPcie _ hp).modPcie _ hp) (h.modPcie _ hp))

/-- After the state of a transfer's end come the interrupt and the vector. -/
theorem State.dmaEnd_within (s : State) (c st : Nat) (irq : Bool) :
    Within [.pcie] (fun f => f ∈ [Reg.PLIC_WAIT, Reg.PLIC_PEND]) (s.setR Reg.PCI_DMA_STAT_STATE c st) (s.dmaEnd c st irq) := by
  have hirq := ((Within.refl (ps := [.pcie]) (W := fun f => f ∈ [Reg.PLIC_WAIT, Reg.PLIC_PEND]) (s.setR Reg.PCI_DMA_STAT_STATE c st)).modPcie
    (fun p => { p with dma := Map.set dma0 p.dma c { dma0 with starter := (Map.get dma0 p.dma c).starter } }) (by decide)).irqEdge (404 + c)
    (by simp) (by simp)
  exact .ite (hirq.msix _ _ (by decide)) hirq

theorem State.getR_dmaEnd_state (s : State) (c st : Nat) (irq : Bool) :
    (s.dmaEnd c st irq).getR Reg.PCI_DMA_STAT_STATE c = Reg.PCI_DMA_STAT_STATE.norm st := by
  rw [(s.dmaEnd_within c st irq).getR_eq _ _ (by decide), State.getR_setR_self]

/-- A stopped channel with nothing outstanding goes to STOPPED (R535). -/
theorem State.dmaGo_stopped {c : Nat} (h1 : s.getR Reg.PCI_DMA_STAT_STATE c = 1) (hw : (s.dma c).writing = none) (hf : (s.dma c).flr = false)
    (hlen : s.getR Reg.PCI_DMA_DONE_BYTES c ≠ s.getR Reg.PCI_DMA_LEN_BYTES c) (hs : (s.dma c).stopping = true) (ho : (s.dma c).out = [])
    (hr : (s.dma c).ready = []) : s.dmaGo c = s.dmaEnd c 6 false := by
  rw [State.dmaGo_eq, State.dmaPasses_idle hr, State.dmaFinish_stopped h1 hw hf hlen hs ho hr]
  exact State.dmaIssues_ended (by rw [State.getR_dmaEnd_state]; decide)

/-- A channel whose next chunk is there with an error goes to FAILED (R534). -/
theorem State.dmaGo_error {c i err data : Nat} (h1 : s.getR Reg.PCI_DMA_STAT_STATE c = 1) (hw : (s.dma c).writing = none)
    (hr : (s.dma c).ready = [(i, err, data)]) (hi : s.dmaDone c = i) (he : err ≠ 0) :
    s.dmaGo c = (s.modDma c (fun k => { k with ready := k.ready.filter (fun e => !decide (e.1 = i)) })).dmaFail c err := by
  generalize hu : (s.modDma c (fun k => { k with ready := k.ready.filter (fun e => !decide (e.1 = i)) })).dmaFail c err = u
  have hend : u.getR Reg.PCI_DMA_STAT_STATE c ≠ 1 := by
    rw [← hu, State.dmaFail, State.getR_dmaEnd_state]
    decide
  have hpass : s.dmaPasses c = u := State.dmaPasses_of_fixed ((State.dmaPass_error h1 hw hr hi he).trans hu) (State.dmaPass_ended hend)
  rw [State.dmaGo_eq, hpass, State.dmaFinish_ended hend, State.dmaIssues_ended hend]

/-- What a channel's failure leaves. -/
theorem State.dmaFail_reads (s : State) (c err : Nat) (he : err < 8) :
    (s.dmaFail c err).getR Reg.PCI_DMA_STAT_STATE c = 4 ∧ (s.dmaFail c err).getR Reg.PCI_DMA_STAT_ERR c = err
      ∧ (s.dmaFail c err).events = raiseIn s.events (evKey pcieEp 0x0E07) s.time.toNat 2
        (pcieDetail (s.dmaLocal c (s.dmaDone c)) err (s.getR Reg.PCI_DMA_CFG_FUNC c) 0 0 c % 2 ^ 128)
      ∧ (s.dmaFail c err).mem = s.mem := by
  unfold State.dmaFail
  generalize hv : (s.setR Reg.PCI_DMA_STAT_ERR c err).raise pcieEp 0x0E07 2
    (pcieDetail (s.dmaLocal c (s.dmaDone c)) err (s.getR Reg.PCI_DMA_CFG_FUNC c) 0 0 c) = v
  have hend := v.dmaEnd_within c 4 true
  refine ⟨State.getR_dmaEnd_state _ _ _ _, ?_, ?_, ?_⟩
  · rw [hend.getR_eq _ _ (by decide), State.getR_setR_id _ _ _ _ _ _ (by decide), ← hv, State.getR_raise, State.getR_setR_self]
    simp [Field.norm, Reg.PCI_DMA_STAT_ERR, Nat.mod_eq_of_lt he]
  · rw [show (v.dmaEnd c 4 true).events = v.events from hend.part_eq .events (by decide), ← hv]
    rfl
  · rw [show (v.dmaEnd c 4 true).mem = v.mem from hend.part_eq .mem (by decide), ← hv]
    rfl

/-! ### An answer of the host (R534) -/

theorem State.dmaHostAnswer_busy {c k i : Nat} (err data : Nat) (h1 : s.getR Reg.PCI_DMA_STAT_STATE c = 1)
    (hd : s.flag Reg.PCI_DMA_CFG_DIR c = false) (hk : (s.dma c).out[k]? = some i) : s.dmaHostAnswer c k err data = (s.modDma c (fun x =>
      { x with out := x.out.filter (fun j => !decide (j = i)), ready := x.ready ++ [(i, err, data % 2 ^ (8 * s.dmaLen c i))] })).dmaGo c := by
  simp [State.dmaHostAnswer, h1, hd, hk]

theorem State.dmaHostAnswer_other {c k : Nat} (err data : Nat)
    (h : (s.dma c).out[k]? = none ∨ s.flag Reg.PCI_DMA_CFG_DIR c = true ∨ s.getR Reg.PCI_DMA_STAT_STATE c ≠ 1) : s.dmaHostAnswer c k err data = s := by
  unfold State.dmaHostAnswer
  split
  · rfl
  · next i hi =>
    refine if_pos ?_
    rcases h with h | h | h
    · rw [h] at hi; cases hi
    · simp [h]
    · simp [h]

/-- An error for the chunk that comes next ends the transfer. -/
theorem State.dmaHostAnswer_error {c k i err : Nat} (data : Nat) (h1 : s.getR Reg.PCI_DMA_STAT_STATE c = 1) (hd : s.flag Reg.PCI_DMA_CFG_DIR c = false)
    (hk : (s.dma c).out[k]? = some i) (hi : s.dmaDone c = i) (hr : (s.dma c).ready = []) (hw : (s.dma c).writing = none) (he : err ≠ 0) (h8 : err < 8) :
    (s.dmaHostAnswer c k err data).getR Reg.PCI_DMA_STAT_STATE c = 4 ∧ (s.dmaHostAnswer c k err data).getR Reg.PCI_DMA_STAT_ERR c = err
      ∧ (s.dmaHostAnswer c k err data).events = raiseIn s.events (evKey pcieEp 0x0E07) s.time.toNat 2
        (pcieDetail (s.dmaLocal c i) err (s.getR Reg.PCI_DMA_CFG_FUNC c) 0 0 c % 2 ^ 128)
      ∧ (s.dmaHostAnswer c k err data).mem = s.mem := by
  rw [State.dmaHostAnswer_busy err data h1 hd hk]
  generalize hv : s.modDma c (fun x => { x with
    out := x.out.filter (fun j => !decide (j = i))
    ready := x.ready ++ [(i, err, data % 2 ^ (8 * s.dmaLen c i))] }) = v
  have hwv : (v.dma c).writing = none := by rw [← hv, State.dma_modDma_self]; exact hw
  have hrv : (v.dma c).ready = [(i, err, data % 2 ^ (8 * s.dmaLen c i))] := by rw [← hv, State.dma_modDma_self, hr]; rfl
  have hiv : v.dmaDone c = i := by rw [← hv]; exact hi
  have h1v : v.getR Reg.PCI_DMA_STAT_STATE c = 1 := by rw [← hv]; exact h1
  rw [State.dmaGo_error h1v hwv hrv hiv he]
  obtain ⟨hst, herr, hev, hmem⟩ := State.dmaFail_reads (v.modDma c (fun k => { k with ready := k.ready.filter (fun e => !decide (e.1 = i)) })) c err h8
  refine ⟨hst, herr, hev.trans ?_, hmem.trans ?_⟩
  · rw [← hi, ← hv]; rfl
  · rw [← hv]; rfl

/-! ### START and STOP (R533, R535) -/

/-- A channel that starts, before it goes on. -/
def State.dmaStarted (s : State) (c req : Nat) : State :=
  (((s.setR Reg.PCI_DMA_STAT_ERR c 0).setR Reg.PCI_DMA_DONE_BYTES c 0).setR Reg.PCI_DMA_STAT_STATE c 1).modDma c (fun _ => { dma0 with starter := req })

theorem State.getR_modDma (s : State) (c : Nat) (f : PcieDma → PcieDma) (g : Field) (i : Nat) : (s.modDma c f).getR g i = s.getR g i := rfl

theorem State.dmaStarted_reads (s : State) (c req : Nat) :
    (s.dmaStarted c req).getR Reg.PCI_DMA_STAT_STATE c = 1 ∧ (s.dmaStarted c req).getR Reg.PCI_DMA_STAT_ERR c = 0
      ∧ (s.dmaStarted c req).getR Reg.PCI_DMA_DONE_BYTES c = 0 ∧ (s.dmaStarted c req).dma c = dmaRequested req 0 := by
  refine ⟨?_, ?_, ?_, State.dma_modDma_self _ _ _⟩ <;>
    simp (disch := decide) only [State.dmaStarted, State.getR_modDma, State.getR_setR_id, State.getR_setR_self] <;> rfl

theorem State.dmaStarted_leaves (s : State) (c req : Nat) : Leaves [.pcie] [Reg.PCI_DMA_STAT_STATE.key c, Reg.PCI_DMA_STAT_ERR.key c,
    Reg.PCI_DMA_DONE_BYTES.key c] s (s.dmaStarted c req) :=
  (((Leaves.refl.setR _ _ _ (by simp)).setR _ _ _ (by simp)).setR _ _ _ (by simp)).modPcie _ (by simp)

theorem State.dmaStarted_within (s : State) (c req : Nat) :
    Within [.pcie] (fun f => f ∈ [Reg.PCI_DMA_STAT_STATE, Reg.PCI_DMA_STAT_ERR, Reg.PCI_DMA_DONE_BYTES]) s (s.dmaStarted c req) :=
  (((((Within.refl s).setR _ _ _ (by simp)).setR _ _ _ (by simp)).setR _ _ _ (by simp)).modPcie _ (by decide))

/-- A host-to-device channel that starts, and is not frozen, has its first chunks requested. -/
theorem State.dmaStarted_goes {c req : Nat} (hlen : 0 < s.getR Reg.PCI_DMA_LEN_BYTES c) (hd : s.flag Reg.PCI_DMA_CFG_DIR c = false)
    (hfrz : s.frozen Reg.CTL_FRZ_PDMA req = false) :
    ((s.dmaStarted c req).dmaGo c).regs = (s.dmaStarted c req).regs ∧ Leaves [.pcie] [] (s.dmaStarted c req) ((s.dmaStarted c req).dmaGo c)
      ∧ ((s.dmaStarted c req).dmaGo c).dma c = dmaRequested req (min 16 (ceilDiv (s.getR Reg.PCI_DMA_LEN_BYTES c) 512)) := by
  obtain ⟨hst, -, hdone, hdma⟩ := s.dmaStarted_reads c req
  have hw := s.dmaStarted_within c req
  have hdir : (s.dmaStarted c req).flag Reg.PCI_DMA_CFG_DIR c = false := by rw [State.flag, hw.getR_eq _ _ (by decide)]; exact hd
  have hfrz' : (s.dmaStarted c req).frozen Reg.CTL_FRZ_PDMA req = false := by
    rw [← hfrz]
    simp only [State.frozen, State.flag, hw.getR_eq Reg.CTL_FRZ_PDMA _ (by decide), hw.getR_eq Reg.HART_HALT _ (by decide)]
  have hlen' : (s.dmaStarted c req).getR Reg.PCI_DMA_LEN_BYTES c = s.getR Reg.PCI_DMA_LEN_BYTES c := hw.getR_eq _ _ (by decide)
  rw [← hlen']
  exact State.dmaGo_fresh hst hdir hfrz' hdma (by rw [hdone, hlen']; omega)

/-- A channel that a STOP ends at once. -/
def State.dmaStopped (s : State) (c : Nat) : State := (s.modDma c (fun k => { k with stopping := true })).dmaEnd c 6 false

theorem State.dmaGo_stopping {c : Nat} (h1 : s.getR Reg.PCI_DMA_STAT_STATE c = 1) (hw : (s.dma c).writing = none) (hf : (s.dma c).flr = false)
    (hlen : s.getR Reg.PCI_DMA_DONE_BYTES c ≠ s.getR Reg.PCI_DMA_LEN_BYTES c) (ho : (s.dma c).out = []) (hr : (s.dma c).ready = []) :
    (s.modDma c (fun k => { k with stopping := true })).dmaGo c = s.dmaStopped c :=
  State.dmaGo_stopped h1 (by simpa using hw) (by simpa using hf) hlen (by simp) (by simpa using ho) (by simpa using hr)

theorem State.dmaStopped_reads (s : State) (c : Nat) :
    (s.dmaStopped c).getR Reg.PCI_DMA_STAT_STATE c = 6 ∧ (s.dmaStopped c).getR Reg.PCI_DMA_DONE_BYTES c = s.getR Reg.PCI_DMA_DONE_BYTES c
      ∧ (s.dmaStopped c).events = s.events ∧ (s.dmaStopped c).mem = s.mem := by
  have hend := (s.modDma c (fun k => { k with stopping := true })).dmaEnd_within c 6 false
  exact ⟨State.getR_dmaEnd_state _ _ _ _, (hend.getR_eq _ _ (by decide)).trans (State.getR_setR_id _ _ _ _ _ _ (by decide)),
    hend.part_eq .events (by decide), hend.part_eq .mem (by decide)⟩

end Sys2Proof.Machine
end

section
/-!
PROOF. The debug mailbox and the staged operations of the PCI page and of Dawn (R38, R539, R544, R547, R573, R611 to R613): what the start and the end of an
operation leave, and by which check a GO or an ABORT goes which way.
-/

namespace Sys2Proof.Machine

variable {ps : List Part} {W : Field → Prop} {s t : State}

theorem Field.norm_of_lt {f : Field} {v : Nat} (ha : f.align = 0) (hv : v < 2 ^ f.width) : f.norm v = v := by
  simp [Field.norm, ha, Nat.mod_eq_of_lt hv]

/-! ### The debug mailbox (R539, R573) -/

/-- The request as the mailbox's registers keep it. -/
def State.dbgRequest (s : State) (addr : BitVec 7) (op : BitVec 2) (peek : Bool) : State :=
  ((s.setR Reg.PCI_DBG_REQ_ADDR 0 addr.toNat).setR Reg.PCI_DBG_REQ_OP 0 op.toNat).setR Reg.PCI_DBG_REQ_PEEK 0 (bit peek)

theorem State.dbgRequest_reads (s : State) (addr : BitVec 7) (op : BitVec 2) (peek : Bool) :
    (s.dbgRequest addr op peek).getR Reg.PCI_DBG_REQ_ADDR 0 = addr.toNat ∧ (s.dbgRequest addr op peek).getR Reg.PCI_DBG_REQ_OP 0 = op.toNat
      ∧ (s.dbgRequest addr op peek).flag Reg.PCI_DBG_REQ_PEEK 0 = peek
      ∧ (s.dbgRequest addr op peek).getR Reg.DBG_SESS_STATE 0 = s.getR Reg.DBG_SESS_STATE 0
      ∧ (s.dbgRequest addr op peek).getR Reg.PCI_DBG_DATA_V 0 = s.getR Reg.PCI_DBG_DATA_V 0 := by
  simp (disch := decide) only [State.dbgRequest, State.flag, State.getR_setR_id, State.getR_setR_self, and_true]
  refine ⟨Field.norm_of_lt rfl addr.isLt, Field.norm_of_lt rfl op.isLt, ?_⟩
  cases peek <;> rfl

/-! ### A staged operation starts (R39, R611, R625) -/

/-- The fields that PCI_STAGE_STAT mirrors into. -/
def mirrorFields : List Field := [Reg.PCI_STAGE_STAT_STATE, Reg.PCI_STAGE_STAT_ABORT_LATE, Reg.PCI_STAGE_STAT_CODE]

theorem Within.stageMirror (h : Within ps W s t) (hW : ∀ f ∈ mirrorFields, W f) : Within ps W s t.stageMirror := by
  simp only [mirrorFields, List.forall_mem_cons] at hW
  obtain ⟨hst, hlate, hcode, -⟩ := hW
  exact .ite (((h.setR _ _ _ hst).setR _ _ _ hlate).setR _ _ _ hcode) h

theorem State.getR_stageMirror_state (h : s.getR Reg.DWN_STAT_SRC 0 = 2) :
    s.stageMirror.getR Reg.PCI_STAGE_STAT_STATE 0 = Reg.PCI_STAGE_STAT_STATE.norm (s.getR Reg.DWN_STAT_STATE 0) := by
  rw [State.stageMirror, if_pos h]
  simp (disch := decide) only [State.getR_setR_id, State.getR_setR_self]

theorem State.stageMirror_other (h : s.getR Reg.DWN_STAT_SRC 0 ≠ 2) : s.stageMirror = s := if_neg h

/-- An operation's start before its mirror. -/
def State.opSet (s : State) (part : Bool) (src addr len : Nat) : State :=
  (((((((s.setR Reg.DWN_STAT_STATE 0 1).setR Reg.DWN_STAT_ABORT_LATE 0 0).setR Reg.DWN_STAT_PHASE 0 1).setR Reg.DWN_STAT_CODE 0 0).setR
    Reg.DWN_STAT_SRC 0 src).setR Reg.DWN_OP_ADDR 0 addr).setR Reg.DWN_OP_LEN 0 len).modDawn (fun d => { d with op := some ⟨part, src, none, false⟩ })

theorem State.opStart_eq (s : State) (part : Bool) (src addr len : Nat) : s.opStart part src addr len = (s.opSet part src addr len).stageMirror := rfl

/-- The fields of an operation's start. -/
def opFields : List Field :=
  [Reg.DWN_STAT_STATE, Reg.DWN_STAT_ABORT_LATE, Reg.DWN_STAT_PHASE, Reg.DWN_STAT_CODE, Reg.DWN_STAT_SRC, Reg.DWN_OP_ADDR, Reg.DWN_OP_LEN]

theorem State.opSet_within (s : State) (part : Bool) (src addr len : Nat) : Within [.dawn] (fun f => f ∈ opFields) s (s.opSet part src addr len) :=
  ((((((((Within.refl s).setR _ _ _ (by simp [opFields])).setR _ _ _ (by simp [opFields])).setR _ _ _ (by simp [opFields])).setR _ _ _
    (by simp [opFields])).setR _ _ _ (by simp [opFields])).setR _ _ _ (by simp [opFields])).setR _ _ _ (by simp [opFields])).modDawn _ (by decide)

theorem State.opSet_reads (s : State) (part : Bool) (src addr len : Nat) :
    (s.opSet part src addr len).getR Reg.DWN_STAT_STATE 0 = 1
      ∧ (s.opSet part src addr len).getR Reg.DWN_STAT_SRC 0 = Reg.DWN_STAT_SRC.norm src := by
  unfold State.opSet
  have hmod : ∀ (v : State) (f : Dawn → Dawn) (g : Field) (i : Nat), (v.modDawn f).getR g i = v.getR g i := fun _ _ _ _ => rfl
  simp (disch := decide) only [hmod, State.getR_setR_id, State.getR_setR_self]
  exact ⟨rfl, trivial⟩

/-- The fields of the buffered segments' banks. -/
def bufferFields : List Field := [Reg.BUF_OWN, Reg.SPD_OWN_EP, Reg.BUF_ON]

theorem Within.bufferBegin (h : Within ps W s t) (hW : ∀ f ∈ bufferFields, W f) : Within ps W s t.bufferBegin := by
  simp only [bufferFields, List.forall_mem_cons] at hW
  obtain ⟨hown, hep, hon, -⟩ := hW
  exact (h.foldl (fun _ _ k => (k.setR _ _ _ hown).setR _ _ _ hep) _).setR _ _ _ hon

theorem Within.bufferEnd (h : Within ps W s t) (hW : ∀ f ∈ bufferFields, W f) : Within ps W s t.bufferEnd := by
  simp only [bufferFields, List.forall_mem_cons] at hW
  obtain ⟨-, hep, hon, -⟩ := hW
  exact .ite ((h.foldl (fun _ _ k => k.setR _ _ _ hep) _).setR _ _ _ hon) h

/-- A GO that is carried out: the operation started, its source's banks taken, the first reading under way. -/
def State.stageStarted (s : State) (part : Bool) (src addr len : Nat) : State :=
  ((s.opStart part src addr len).bufferBegin).setR Reg.DWN_STAT_PHASE 0 2

theorem State.stageGo_starts {part : Bool} {addr len : Nat} (src : Nat) (hidle : s.getR Reg.DWN_STAT_STATE 0 ≠ 1 ∧ s.getR Reg.BOOT_STAGE 0 = 0)
    (hq : part = true ∨ s.quiet = true) (hok : s.sourceOk part addr len = true) : s.stageGo part src addr len = s.stageStarted part src addr len := by
  have hq' : (!part && !s.quiet) = false := by rcases hq with h | h <;> simp [h]
  simp [State.stageGo, State.stageStarted, hidle, hq', hok]

theorem State.stageGo_fails {part : Bool} {addr len : Nat} (src : Nat) (hidle : s.getR Reg.DWN_STAT_STATE 0 ≠ 1 ∧ s.getR Reg.BOOT_STAGE 0 = 0) :
    (part = false → s.quiet = false → s.stageGo part src addr len = (s.opStart part src addr len).opFail 12)
      ∧ (part = true → s.sourceOk part addr len = false → s.stageGo part src addr len = (s.opStart part src addr len).opFail 13) := by
  refine ⟨fun hp hq => ?_, fun hp hok => ?_⟩
  · simp [State.stageGo, hidle, hp, hq]
  · subst hp
    simp [State.stageGo, hidle, hok]

/-- After the registers of its start come an operation's mirror, its banks and its phase. -/
def laterFields : List Field := Reg.DWN_STAT_PHASE :: (bufferFields ++ mirrorFields)

theorem State.stageStarted_later (s : State) (part : Bool) (src addr len : Nat) :
    Within [] (fun f => f ∈ laterFields) (s.opSet part src addr len) (s.stageStarted part src addr len) := by
  have hm : Within [] (fun f => f ∈ laterFields) (s.opSet part src addr len) (s.opStart part src addr len) :=
    (Within.refl _).stageMirror (fun _ h => List.mem_cons_of_mem _ (List.mem_append_right _ h))
  exact (hm.bufferBegin (fun _ h => List.mem_cons_of_mem _ (List.mem_append_left _ h))).setR _ _ _ (List.mem_cons_self ..)

/-- What a GO that is carried out leaves. -/
theorem State.stageStarted_reads (s : State) (part : Bool) {src : Nat} (addr len : Nat) (hsrc : src < 4) :
    (s.stageStarted part src addr len).getR Reg.DWN_STAT_STATE 0 = 1 ∧ (s.stageStarted part src addr len).getR Reg.DWN_STAT_PHASE 0 = 2
      ∧ (s.stageStarted part src addr len).getR Reg.DWN_STAT_SRC 0 = src
      ∧ (s.stageStarted part src addr len).getR Reg.PCI_STAGE_STAT_STATE 0 = (if src = 2 then 1 else s.getR Reg.PCI_STAGE_STAT_STATE 0)
      ∧ (s.stageStarted part src addr len).dawn.op = some ⟨part, src, none, false⟩ := by
  have hlater := s.stageStarted_later part src addr len
  obtain ⟨hst, hs⟩ := s.opSet_reads part src addr len
  rw [Field.norm_of_lt rfl hsrc] at hs
  have hbuffer : Within [] (fun f => f ∈ Reg.DWN_STAT_PHASE :: bufferFields) (s.opStart part src addr len) (s.stageStarted part src addr len) :=
    ((Within.refl _).bufferBegin (fun _ h => List.mem_cons_of_mem _ h)).setR _ _ _ (List.mem_cons_self ..)
  refine ⟨(hlater.getR_eq _ _ (by decide)).trans hst, State.getR_setR_self .., (hlater.getR_eq _ _ (by decide)).trans hs, ?_, ?_⟩
  · rw [hbuffer.getR_eq _ _ (by decide), State.opStart_eq]
    split
    · next h => rw [State.getR_stageMirror_state (hs.trans h), hst]; rfl
    · next h => rw [State.stageMirror_other (by rwa [hs]), (s.opSet_within part src addr len).getR_eq _ _ (by decide)]
  · rw [show (s.stageStarted part src addr len).dawn = _ from hlater.part_eq .dawn (by decide)]
    rfl

theorem State.stageStarted_within (s : State) (part : Bool) (src addr len : Nat) :
    Within [.dawn] (fun f => f ∈ opFields ++ laterFields) s (s.stageStarted part src addr len) :=
  ((s.opSet_within part src addr len).mono (fun _ h => h) (fun _ h => List.mem_append_left _ h)).trans
    ((s.stageStarted_later part src addr len).mono (by simp) (fun _ h => List.mem_append_right _ h))

/-! ### A staged operation ends (R39, R613, R627) -/

/-- An operation's end before its mirror and its interrupts. -/
def State.opClosed (s : State) (st code : Nat) : State :=
  ((((s.bufferEnd.setR Reg.DWN_STAT_STATE 0 st).setR Reg.DWN_STAT_PHASE 0 0).setR Reg.DWN_STAT_CODE 0 code)).modDawn
    (fun d => { d with op := none, images := [] })

theorem State.opEnd_later (s : State) (st code : Nat) :
    Within [.pcie] (fun f => f ∈ Reg.PLIC_WAIT :: Reg.PLIC_PEND :: mirrorFields) (s.opClosed st code) (s.opEnd st code) := by
  have hirq := ((Within.refl (ps := [.pcie]) (W := fun f => f ∈ Reg.PLIC_WAIT :: Reg.PLIC_PEND :: mirrorFields) (s.opClosed st code)).stageMirror
    (fun _ h => by simp [h])).irqEdge 10 (by simp) (by simp)
  exact .ite ((hirq.irqEdge 412 (by simp) (by simp)).msix 0 3 (by decide)) hirq

theorem State.opEnd_reads (s : State) (st code : Nat) :
    (s.opEnd st code).getR Reg.DWN_STAT_STATE 0 = Reg.DWN_STAT_STATE.norm st ∧ (s.opEnd st code).getR Reg.DWN_STAT_CODE 0 = Reg.DWN_STAT_CODE.norm code
      ∧ (s.opEnd st code).dawn.op = none := by
  have hlater := s.opEnd_later st code
  have hmod : ∀ (v : State) (f : Dawn → Dawn) (g : Field) (i : Nat), (v.modDawn f).getR g i = v.getR g i := fun _ _ _ _ => rfl
  refine ⟨?_, ?_, ?_⟩
  · rw [hlater.getR_eq _ _ (by decide)]
    simp (disch := decide) only [State.opClosed, hmod, State.getR_setR_id, State.getR_setR_self]
  · rw [hlater.getR_eq _ _ (by decide)]
    simp (disch := decide) only [State.opClosed, hmod, State.getR_setR_self]
  · rw [show (s.opEnd st code).dawn = _ from hlater.part_eq .dawn (by decide)]
    rfl

/-- Of the parts, an operation's end writes Dawn's and the PCIe controller's. -/
theorem State.opEnd_within (s : State) (st code : Nat) : Within [.dawn, .pcie] anyField s (s.opEnd st code) :=
  (((((((Within.refl s).bufferEnd (fun _ _ => trivial)).setR _ _ _ trivial).setR _ _ _ trivial).setR _ _ _ trivial).modDawn _ (by decide))).trans
    ((s.opEnd_later st code).mono (by simp) (fun _ _ => trivial))

/-- A staged operation that fails before its commit point only ends (R616). -/
theorem State.opFail_uncommitted {part : Bool} {src : Nat} (code : Nat) (h : s.dawn.op = some ⟨part, src, none, false⟩) (hs : src ≠ 0) :
    s.opFail code = (s.raise dawnEp 0x0903 4 (s.dwnDetail code 0)).opEnd 4 code := by
  cases part <;> simp [State.opFail, h, hs]

theorem State.opStart_op (s : State) (part : Bool) (src addr len : Nat) : (s.opStart part src addr len).dawn.op = some ⟨part, src, none, false⟩ := by
  have hm : Within [] (fun f => f ∈ mirrorFields) (s.opSet part src addr len) (s.opStart part src addr len) := (Within.refl _).stageMirror (fun _ h => h)
  rw [show (s.opStart part src addr len).dawn = _ from hm.part_eq .dawn (by decide)]
  rfl

theorem State.opStart_fab (s : State) (part : Bool) (src addr len : Nat) : (s.opStart part src addr len).fab = s.fab := by
  have hm : Within [] (fun f => f ∈ mirrorFields) (s.opSet part src addr len) (s.opStart part src addr len) := (Within.refl _).stageMirror (fun _ h => h)
  exact (hm.part_eq .fab (by decide)).trans ((s.opSet_within part src addr len).part_eq .fab (by decide))

/-- A GO that fails a check at once: FAILED with the check's code, no operation in hand. -/
theorem State.opStart_opFail_reads (s : State) (part : Bool) {src code : Nat} (addr len : Nat) (hs : src ≠ 0) (hc : code < 256) :
    ((s.opStart part src addr len).opFail code).getR Reg.DWN_STAT_STATE 0 = 4
      ∧ ((s.opStart part src addr len).opFail code).getR Reg.DWN_STAT_CODE 0 = code ∧ ((s.opStart part src addr len).opFail code).dawn.op = none
      ∧ ((s.opStart part src addr len).opFail code).fab = s.fab := by
  rw [State.opFail_uncommitted code (s.opStart_op part src addr len) hs]
  generalize hv : (s.opStart part src addr len).raise dawnEp 0x0903 4 ((s.opStart part src addr len).dwnDetail code 0) = v
  obtain ⟨hst, hcode, hop⟩ := v.opEnd_reads 4 code
  refine ⟨hst, hcode.trans (Field.norm_of_lt rfl hc), hop, ?_⟩
  rw [show (v.opEnd 4 code).fab = v.fab from (v.opEnd_within 4 code).part_eq .fab (by decide), ← hv]
  exact s.opStart_fab part src addr len

/-- An ABORT before the commit point: the operation ends ABORTED with event 0x0904 (R613). -/
theorem State.stageAbort_uncommitted {o : DawnOp} (h : s.dawn.op = some o) (hc : o.committed = false) :
    s.stageAbort o.src = (s.raise dawnEp 0x0904 0 (s.dwnDetail 0 0)).opEnd 3 0 := by
  simp [State.stageAbort, h, hc]

theorem State.stageAbort_reads {o : DawnOp} (h : s.dawn.op = some o) (hc : o.committed = false) :
    (s.stageAbort o.src).getR Reg.DWN_STAT_STATE 0 = 3 ∧ (s.stageAbort o.src).dawn.op = none ∧ (s.stageAbort o.src).resp = s.resp
      ∧ (s.stageAbort o.src).events = raiseIn s.events (evKey dawnEp 0x0904) s.time.toNat 0 (s.dwnDetail 0 0 % 2 ^ 128)
      ∧ (s.stageAbort o.src).mem = s.mem ∧ (s.stageAbort o.src).fab = s.fab := by
  rw [State.stageAbort_uncommitted h hc]
  generalize hv : s.raise dawnEp 0x0904 0 (s.dwnDetail 0 0) = v
  obtain ⟨hst, -, hop⟩ := v.opEnd_reads 3 0
  have hend := v.opEnd_within 3 0
  refine ⟨hst, hop, (hend.part_eq .resp (by decide)).trans ?_, (hend.part_eq .events (by decide)).trans ?_, (hend.part_eq .mem (by decide)).trans ?_,
    (hend.part_eq .fab (by decide)).trans ?_⟩ <;> rw [← hv] <;> rfl

theorem State.stageAbort_other {src : Nat} (h : ∀ o ∈ s.dawn.op, o.src ≠ src) : s.stageAbort src = s := by
  unfold State.stageAbort
  split
  · rfl
  · next o ho => exact if_pos (h o ho)

/-! ### A management requester's writes of KIND -/

/-- A write of KIND, answered. -/
def State.kindWrite (s : State) (f : Field) (part : Bool) : State := (s.respond 0 0).setR f 0 (bit part)

theorem State.getR_kindWrite (s : State) {f g : Field} (part : Bool) (i : Nat) (hg : g.id % Field.idBound ≠ f.id % Field.idBound) :
    (s.kindWrite f part).getR g i = s.getR g i := (State.getR_setR_id _ _ _ _ _ _ hg).trans (State.getR_respond ..)

theorem State.flag_kindWrite (s : State) {f : Field} (ha : f.align = 0) (hw : f.width = 1) (part : Bool) : (s.kindWrite f part).flag f 0 = part := by
  rw [State.flag, State.kindWrite, State.getR_setR_self, Field.norm_of_lt ha (by rw [hw]; cases part <;> decide)]
  cases part <;> rfl

/-- What the checks of a GO look at. -/
def goFields : List Field :=
  [Reg.DWN_STAT_STATE, Reg.BOOT_STAGE, Reg.SPD_OWN_EP, Reg.THY_CT_STAT_CSTATE, Reg.PGE_STAT_STATE, Reg.FCE_STAT_STATE, Reg.MSP_STAT_STATE]

/-- A GO by a write of KIND is answered by the checks on the state before the write (R611, R612). -/
theorem State.stageGo_kindWrite (s : State) {f : Field} (part : Bool) (src addr len : Nat)
    (hf : ∀ g ∈ goFields, g.id % Field.idBound ≠ f.id % Field.idBound) (hidle : s.getR Reg.DWN_STAT_STATE 0 ≠ 1 ∧ s.getR Reg.BOOT_STAGE 0 = 0) :
    (part = true ∨ s.quiet = true → s.sourceOk part addr len = true →
        (s.kindWrite f part).stageGo part src addr len = (s.kindWrite f part).stageStarted part src addr len)
      ∧ (part = false → s.quiet = false → (s.kindWrite f part).stageGo part src addr len = ((s.kindWrite f part).opStart part src addr len).opFail 12)
      ∧ (part = true → s.sourceOk part addr len = false →
        (s.kindWrite f part).stageGo part src addr len = ((s.kindWrite f part).opStart part src addr len).opFail 13) := by
  simp only [goFields, List.forall_mem_cons] at hf
  obtain ⟨hst, hboot, hown, hct, hpge, hfce, hmsp, -⟩ := hf
  have hread : ∀ {g} i, g.id % Field.idBound ≠ f.id % Field.idBound → (s.kindWrite f part).getR g i = s.getR g i := fun i hg => s.getR_kindWrite part i hg
  have hquiet : (s.kindWrite f part).quiet = s.quiet := by
    have hids : (s.kindWrite f part).contractIds = s.contractIds := rfl
    simp only [State.quiet, hids, State.cstate, hread _ hct, hread _ hpge, hread _ hfce, hread _ hmsp]
    rfl
  have hsource : (s.kindWrite f part).sourceOk part addr len = s.sourceOk part addr len := by simp only [State.sourceOk, hread _ hown]
  have hidle' : (s.kindWrite f part).getR Reg.DWN_STAT_STATE 0 ≠ 1 ∧ (s.kindWrite f part).getR Reg.BOOT_STAGE 0 = 0 := by
    rwa [hread _ hst, hread _ hboot]
  rw [← hquiet, ← hsource]
  exact ⟨State.stageGo_starts src hidle', State.stageGo_fails src hidle'⟩

theorem exec_pciStageGo_mgmt (s : State) (part : Bool) {req : BitVec 16} (h : isMgmt req.toNat = true) : exec (.pciStageGo req part) s
    = .next ((s.kindWrite Reg.PCI_STAGE_CTL_KIND part).stageGo part 2 (s.getR Reg.PCI_STAGE_ADDR_ADDR 0) (s.getR Reg.PCI_STAGE_LEN_BYTES 0)) := by
  change Host.Outcome.next (if isMgmt req.toNat then (s.kindWrite Reg.PCI_STAGE_CTL_KIND part).pciStageGo else s.denied) = _
  rw [if_pos h, State.pciStageGo]
  rw [s.flag_kindWrite rfl rfl part, s.getR_kindWrite part 0 (by decide), s.getR_kindWrite part 0 (by decide)]

theorem exec_dwnGo_mgmt (s : State) (part : Bool) {req : BitVec 16} (h : isMgmt req.toNat = true) : exec (.dwnGo part req) s
    = .next ((s.kindWrite Reg.DWN_CTL_KIND part).stageGo part 1 (s.getR Reg.DWN_SRC_ADDR 0) (s.getR Reg.DWN_SRC_LEN_BYTES 0)) := by
  change Host.Outcome.next (if isMgmt req.toNat then (s.kindWrite Reg.DWN_CTL_KIND part).dwnGo else s.denied) = _
  rw [if_pos h, State.dwnGo]
  rw [s.flag_kindWrite rfl rfl part, s.getR_kindWrite part 0 (by decide), s.getR_kindWrite part 0 (by decide)]

/-- Settles O50: a DMA channel goes on by its three parts, the mailbox and the staged operations by the check that decides, each with what it leaves. -/
theorem pcieDmaStagingAndMailboxCommandsComplete : Obligations.PcieDmaStagingAndMailboxCommandsComplete := by
  unfold Obligations.PcieDmaStagingAndMailboxCommandsComplete
  refine ⟨?startRefused, ?busy, ?start, ?stop, ?fails, ?noChunk, ?answer, ?noDevice, ?device, ?debug, ?denied, ?mgmt, ?started, ?refused,
    fun s part src addr len h => if_pos h, fun s src h => State.stageAbort_other h, ?abort, ?abortLate⟩
  case startRefused =>
    intro s c req h1 h
    refine ⟨_, (if_neg h1).trans (if_pos h), ?_, ?_, ?_, ?_⟩
    · simp (disch := decide) only [State.getR_setR_id, State.getR_setR_self]
      rfl
    · rw [State.getR_setR_self]
      rfl
    · simp (disch := decide) only [State.getR_setR_id, State.getR_setR_self]
      rfl
    · exact (((Leaves.refl.setR _ _ _ (by simp)).setR _ _ _ (by simp)).setR _ _ _ (by simp)).setR _ _ _ (by simp)
  case busy =>
    intro s c req
    exact ⟨fun h => if_pos h, fun h => s.when_false _ (by simp [h])⟩
  case start =>
    intro s c req h1 hlen hrange hfn
    obtain ⟨hen, hbme⟩ := hfn
    have hexec : exec (.pcieDmaStart c req) s = .next (((((s.setR Reg.PCI_DMA_STAT_ERR c 0).setR Reg.PCI_DMA_DONE_BYTES c 0).setR Reg.PCI_DMA_STAT_STATE c
        1).modDma c (fun _ => { dma0 with starter := req.toNat })).dmaGo c) := (if_neg h1).trans (if_neg (by
      rw [hbme]; simp [hlen.ne', hrange, hen]))
    refine ⟨hexec, fun hd hfrz => ⟨_, hexec, ?_⟩⟩
    obtain ⟨hst, herr, hdone, -⟩ := s.dmaStarted_reads c req.toNat
    obtain ⟨hregs, hleaves, hdma⟩ := s.dmaStarted_goes hlen hd hfrz
    exact ⟨(State.getR_congr hregs _ _).trans hst, (State.getR_congr hregs _ _).trans herr, (State.getR_congr hregs _ _).trans hdone,
      congrArg PcieDma.out hdma, congrArg PcieDma.ready hdma, congrArg PcieDma.starter hdma,
      (s.dmaStarted_leaves c req.toNat).trans (hleaves.mono (by simp) (by simp))⟩
  case stop =>
    intro s c h1
    have hexec : exec (.pcieDmaStop c) s = .next ((s.modDma c (fun k => { k with stopping := true })).dmaGo c) := s.when_true _ (by simp [h1])
    refine ⟨hexec, fun ho hr hw hf hlen => ⟨s.dmaStopped c, ?_, s.dmaStopped_reads c⟩⟩
    rw [hexec, s.dmaGo_stopping h1 hw hf hlen ho hr]
  case fails =>
    intro s c k i data h1 hcfg hk hready
    obtain ⟨hd, -⟩ := hcfg
    obtain ⟨hk, hi⟩ := hk
    obtain ⟨hr, hw⟩ := hready
    obtain ⟨hst, herr, hev, hmem⟩ := State.dmaHostAnswer_error (err := 2) 0 h1 hd hk hi hr hw (by decide) (by decide)
    obtain ⟨hst4, herr4, -, hmem4⟩ := State.dmaHostAnswer_error (err := 4) data h1 hd hk hi hr hw (by decide) (by decide)
    exact ⟨_, _, rfl, rfl, hst, herr, hev, hmem, rfl, hst4, herr4, hmem4⟩
  case noChunk =>
    intro s c k data poison h
    exact ⟨congrArg Host.Outcome.next (State.dmaHostAnswer_other _ _ h), congrArg Host.Outcome.next (State.dmaHostAnswer_other _ _ h),
      congrArg Host.Outcome.next (State.dmaHostAnswer_other _ _ h)⟩
  case answer =>
    intro s c k i err data h1 hk
    exact ⟨State.dmaHostAnswer_busy err data h1.1 h1.2 hk, rfl, rfl, rfl, rfl⟩
  case noDevice =>
    intro s c h
    change execPcieDmaResponse c .device s = _
    simp [execPcieDmaResponse, h]
  case device =>
    intro s c k i data p rest h1 hk hp
    refine ⟨congrArg Host.Outcome.next (State.dmaHostAnswer_busy 0 data h1.1 h1.2 hk), ?_⟩
    change execPcieDmaResponse c .device s = _
    simp [execPcieDmaResponse, hp]
  case debug =>
    rintro s u t addr op peek rfl rfl
    obtain ⟨haddr, hop, hpeek, hsess, hdata⟩ := s.dbgRequest_reads addr op peek
    change (_ → Host.Outcome.next (s.dbgRequest addr op peek).pciDbg = _)
      ∧ (_ → _ → ∃ r, _ ∧ Host.Outcome.next (s.dbgRequest addr op peek).pciDbg = _)
      ∧ (_ → _ → Host.Outcome.next (s.dbgRequest addr op peek).pciDbg = _)
    unfold State.pciDbg
    rw [haddr, hop, hpeek, hsess, hdata]
    refine ⟨fun h => congrArg _ (if_pos h), fun h hop => ⟨_, rfl, congrArg _ ((if_neg h).trans (if_pos hop))⟩, fun h hop =>
      congrArg _ ((if_neg h).trans (if_neg (by omega)))⟩
  case denied =>
    intro s part req h
    have hno : ¬ isMgmt req.toNat = true := by simp [h]
    exact ⟨congrArg _ (if_neg hno), congrArg _ (if_neg hno), congrArg _ (if_neg hno), congrArg _ (if_neg hno)⟩
  case mgmt =>
    intro s part req h
    exact ⟨exec_pciStageGo_mgmt s part h, exec_dwnGo_mgmt s part h, congrArg _ (if_pos h), congrArg _ (if_pos h)⟩
  case started =>
    intro s part req h hidle hq
    refine ⟨fun hok => ?_, fun hok => ?_⟩
    · have hgo := (s.stageGo_kindWrite (f := Reg.PCI_STAGE_CTL_KIND) part 2 (s.getR Reg.PCI_STAGE_ADDR_ADDR 0) (s.getR Reg.PCI_STAGE_LEN_BYTES 0) (by decide)
        hidle).1 hq hok
      refine ⟨_, (exec_pciStageGo_mgmt s part h).trans (congrArg _ hgo), ?_⟩
      obtain ⟨hst, hph, hsrc, hmir, hop⟩ := (s.kindWrite Reg.PCI_STAGE_CTL_KIND part).stageStarted_reads part (src := 2) (s.getR Reg.PCI_STAGE_ADDR_ADDR 0)
        (s.getR Reg.PCI_STAGE_LEN_BYTES 0) (by decide)
      have hw := (s.kindWrite Reg.PCI_STAGE_CTL_KIND part).stageStarted_within part 2 (s.getR Reg.PCI_STAGE_ADDR_ADDR 0) (s.getR Reg.PCI_STAGE_LEN_BYTES 0)
      refine ⟨hst, hph, hsrc, hmir, ?_, hop, hw.part_eq .resp (by decide), hw.part_eq .mem (by decide), hw.part_eq .fab (by decide),
        hw.part_eq .events (by decide)⟩
      rw [State.flag, hw.getR_eq _ _ (by decide)]
      exact s.flag_kindWrite rfl rfl part
    · have hgo := (s.stageGo_kindWrite (f := Reg.DWN_CTL_KIND) part 1 (s.getR Reg.DWN_SRC_ADDR 0) (s.getR Reg.DWN_SRC_LEN_BYTES 0) (by decide) hidle).1 hq hok
      refine ⟨_, (exec_dwnGo_mgmt s part h).trans (congrArg _ hgo), ?_⟩
      obtain ⟨hst, hph, hsrc, hmir, hop⟩ := (s.kindWrite Reg.DWN_CTL_KIND part).stageStarted_reads part (src := 1) (s.getR Reg.DWN_SRC_ADDR 0)
        (s.getR Reg.DWN_SRC_LEN_BYTES 0) (by decide)
      have hw := (s.kindWrite Reg.DWN_CTL_KIND part).stageStarted_within part 1 (s.getR Reg.DWN_SRC_ADDR 0) (s.getR Reg.DWN_SRC_LEN_BYTES 0)
      exact ⟨hst, hph, hsrc, hmir.trans (s.getR_kindWrite part 0 (by decide)), hop, hw.part_eq .resp (by decide), hw.part_eq .mem (by decide),
        hw.part_eq .fab (by decide), hw.part_eq .events (by decide)⟩
  case refused =>
    intro s part req h hidle
    obtain ⟨-, hbusy, hsource⟩ := s.stageGo_kindWrite (f := Reg.DWN_CTL_KIND) part 1 (s.getR Reg.DWN_SRC_ADDR 0)
      (s.getR Reg.DWN_SRC_LEN_BYTES 0) (by decide) hidle
    exact ⟨fun hp hq => ⟨_, (exec_dwnGo_mgmt s part h).trans (congrArg _ (hbusy hp hq)), State.opStart_opFail_reads _ _ _ _ (by decide) (by decide)⟩,
      fun hp hok => ⟨_, (exec_dwnGo_mgmt s part h).trans (congrArg _ (hsource hp hok)), State.opStart_opFail_reads _ _ _ _ (by decide) (by decide)⟩⟩
  case abort =>
    intro s req o h ho hc
    have hresp : (s.respond 0 0).dawn.op = some o := ho
    refine ⟨fun hsrc => ?_, fun hsrc => ?_⟩
    · obtain ⟨hst, hop, hr, hev, hmem, hfab⟩ := State.stageAbort_reads hresp hc
      rw [hsrc] at hst hop hr hev hmem hfab
      exact ⟨_, congrArg Host.Outcome.next (if_pos h), hst, hop, hr, hev, hmem, hfab⟩
    · obtain ⟨hst, hop, hr, hev, hmem, hfab⟩ := State.stageAbort_reads hresp hc
      rw [hsrc] at hst hop hr hev hmem hfab
      exact ⟨_, congrArg Host.Outcome.next (if_pos h), hst, hop, hr, hev, hmem, hfab⟩
  case abortLate =>
    intro s src o ho hc
    obtain ⟨hc, rfl⟩ := hc
    simp [State.stageAbort, ho, hc]

end Sys2Proof.Machine
end

section
/-!
PROOF. The time-clock cycle on an empty queue (R47, R48, R195, R241): what the cycle does to the counter and the NoC clock, and that the end of a window
adds nothing where no channel owes an answer.
-/

namespace Sys2Proof.Machine

variable {s : State}

/-- Where no channel owes an answer, the end of the windows serves nothing. -/
theorem State.lpxWindowsEnd_of_none_owe (h : ∀ n < 16, s.lpxOwes n = false) : s.lpxWindowsEnd = s := by
  have hfold : ∀ l : List Nat, (∀ n ∈ l, s.lpxOwes n = false) →
      l.foldl (fun t n => if t.lpxOwes n then t.lpxResume n else t) s = s := by
    intro l hl
    induction l with
    | nil => rfl
    | cons n l ih =>
      rw [List.foldl_cons, hl n (List.mem_cons_self ..), if_neg Bool.false_ne_true]
      exact ih fun k hk => hl k (List.mem_cons_of_mem _ hk)
  exact hfold _ fun n hn => h n (List.mem_range.mp hn)

/-- The cycle without the end of a window: the clocks alone (R48, R195). -/
theorem step_of_none_owe (hq : s.pending = []) (h : ∀ n < 16, s.tick.lpxOwes n = false) : step s = .next s.tick := by
  rw [step_of_pending_nil hq, State.idle, State.lpxWindowsEnd_of_none_owe h]

theorem State.tick_running (h : s.flag Reg.T_RUNNING 0 = true) :
    s.tick.time = s.time + BitVec.ofInt 64 (((s.frac.toNat : Int) + 500 * 2 ^ 32 + signed 32 (s.getR Reg.TBS_RATE_RATE 0)) / 2 ^ 32)
      ∧ s.tick.frac = BitVec.ofInt 32 ((s.frac.toNat : Int) + 500 * 2 ^ 32 + signed 32 (s.getR Reg.TBS_RATE_RATE 0))
      ∧ s.tick.noc = { s.noc with clock := s.noc.clock + 500 } ∧ Leaves [.time, .frac, .noc] [] s s.tick := by
  rw [State.tick, State.tickTime, if_pos h]
  exact ⟨rfl, rfl, rfl, ((Leaves.refl.modFrac _ (by simp)).modTime _ (by simp)).modNoc _ (by simp)⟩

theorem State.tick_stopped (h : s.flag Reg.T_RUNNING 0 = false) : s.tick = s.modNoc (fun n => { n with clock := n.clock + 500 }) := by
  rw [State.tick, State.tickTime, if_neg (Bool.eq_false_iff.mp h)]

/-- Settles O2: a step on an empty queue is the clocks' cycle and then the end of the windows, and the counter's share of it depends on whether it runs. -/
theorem idleStepIsOneTimeClockCycle : Obligations.IdleStepIsOneTimeClockCycle := by
  unfold Obligations.IdleStepIsOneTimeClockCycle
  refine ⟨fun s hq hrun hnone => ⟨_, step_of_none_owe hq hnone, State.tick_running hrun⟩, fun s hq hstop hnone => ?stopped,
    fun s hq => step_of_pending_nil hq⟩
  case stopped => rw [step_of_none_owe hq hnone, State.tick_stopped hstop]

end Sys2Proof.Machine
end

section
/-!
PROOF. The counter's commands, the roles and the steps of Tabirair time (R50 to R57, R75 to R79): what a step and the entry to a role write.
-/

namespace Sys2Proof.Machine

variable {ps : List Part} {W : Field → Prop} {s t : State}

theorem Within.modTime (h : Within ps W s t) (f : BitVec 64 → BitVec 64) (hp : Part.time ∈ ps) : Within ps W s (t.modTime f) :=
  h.part .time hp (by intro q hq; cases q <;> first | rfl | exact absurd rfl hq) rfl

theorem Within.modFrac (h : Within ps W s t) (f : BitVec 32 → BitVec 32) (hp : Part.frac ∈ ps) : Within ps W s (t.modFrac f) :=
  h.part .frac hp (by intro q hq; cases q <;> first | rfl | exact absurd rfl hq) rfl

/-- The fields that a step of Tabirair time writes (R75, R86). -/
def stepFields : List Field := [Reg.T_STEP_OLD, Reg.T_STEP_NEW, Reg.T_STEP_SEEN, Reg.SYN_DIDSTEP, Reg.FAB_CG_STAT_ALIGNED]

/-- The clock side of a step: the event and the counter. -/
def State.clockStep (s : State) (new : Nat) : State :=
  ((s.raise tbsEp 0x1103 2 (s.time.toNat + new % 2 ^ 64 * 2 ^ 64)).modTime (fun _ => BitVec.ofNat 64 new)).modFrac (fun _ => 0)

/-- After the clock side a step writes registers alone. -/
theorem State.stepTime_clockStep (s : State) (new : Nat) : Within [] (fun f => f ∈ stepFields) (s.clockStep new) (s.stepTime new) :=
  (((((Within.refl _).setR _ _ _ (by simp [stepFields])).setR _ _ _ (by simp [stepFields])).setR _ _ _ (by simp [stepFields])).setR _ _ _
    (by simp [stepFields])).setEach _ _ _ (by simp [stepFields])

theorem State.stepTime_reads (s : State) (new : Nat) :
    (s.stepTime new).time = BitVec.ofNat 64 new ∧ (s.stepTime new).frac = 0
      ∧ (s.stepTime new).events = raiseIn s.events (evKey tbsEp 0x1103) s.time.toNat 2 ((s.time.toNat + new % 2 ^ 64 * 2 ^ 64) % 2 ^ 128)
      ∧ (s.stepTime new).mem = s.mem ∧ (s.stepTime new).resp = s.resp := by
  have h := s.stepTime_clockStep new
  exact ⟨h.part_eq .time (by decide), h.part_eq .frac (by decide), h.part_eq .events (by decide), h.part_eq .mem (by decide), h.part_eq .resp (by decide)⟩

/-! ### Roles (R57, R66, R79) -/

theorem State.role_setR (s : State) (v : Nat) : (s.setR Reg.TBS_SYNC_CTL_ROLE 0 v).role = min (v % 4) 2 := by
  rw [State.role, State.getR_setR_self]
  simp [Field.norm, Reg.TBS_SYNC_CTL_ROLE]

/-- The fields that the follower's machine forgets when it starts afresh. -/
def syncClearFields : List Field :=
  [Reg.SYN_HAVE, Reg.SYN_ACQ, Reg.SYN_LCK, Reg.SYN_STEPDUE, Reg.SYN_SET_PEND, Reg.TBS_HOLD_FRAMES, Reg.TBS_SYNC_STAT_SLEWING, Reg.SYN_HLRAISED]

theorem State.syncClear_within (s : State) : Within [] (fun f => f ∈ syncClearFields) s s.syncClear := (Within.refl s).resetFields _ _ (fun _ h => h)

theorem State.getR_setRate_zero (s : State) : (s.setRate 0).getR Reg.TBS_RATE_RATE 0 = 0 := by
  rw [State.setRate, State.getR_setR_self]
  decide

/-- Setting RATE writes RATE alone. -/
theorem State.setRate_within (s : State) (r : Int) : Within [] (fun f => f ∈ [Reg.TBS_RATE_RATE]) s (s.setRate r) :=
  (Within.refl s).setR _ _ _ (by simp)

/-- The entry to FREE (R66, R81), and that it writes registers alone, none of them ROLE. -/
theorem State.enterFree_reads (s : State) :
    s.enterFree.getR Reg.TBS_SYNC_STAT_SYNC_STATE 0 = 0 ∧ s.enterFree.getR Reg.TBS_SYNC_STAT_STEP_NEEDED 0 = 0
      ∧ s.enterFree.getR Reg.TBS_RATE_RATE 0 = 0
      ∧ Within [] (fun f => f ∈ Reg.TBS_SYNC_STAT_SYNC_STATE :: Reg.TBS_SYNC_STAT_STEP_NEEDED :: Reg.TBS_RATE_RATE :: syncClearFields) s s.enterFree := by
  refine ⟨?_, ?_, State.getR_setRate_zero _, ?_⟩
  · rw [State.enterFree, (State.setRate_within _ 0).getR_eq _ _ (by decide), State.getR_setR_id _ _ _ _ _ _ (by decide), State.getR_setR_self]
    rfl
  · rw [State.enterFree, (State.setRate_within _ 0).getR_eq _ _ (by decide), State.getR_setR_self]
    rfl
  · exact (((s.syncClear_within.mono (fun _ h => h) (fun f hf => by simp [hf])).setR _ _ _ (by simp)).setR _ _ _ (by simp)).setR _ _ _ (by simp)

/-- The entry to MASTER (R60, R66), and that it writes registers alone, none of them ROLE. -/
theorem State.enterMaster_reads (s : State) :
    s.enterMaster.getR Reg.TBS_SYNC_STAT_SYNC_STATE 0 = 5 ∧ s.enterMaster.getR Reg.SYN_STEPPED 0 = 1
      ∧ s.enterMaster.getR Reg.TBS_RATE_RATE 0 = 0
      ∧ Within [] (fun f => f ∈ Reg.TBS_SYNC_STAT_SYNC_STATE :: Reg.SYN_STEPPED :: Reg.TBS_RATE_RATE :: syncClearFields) s s.enterMaster := by
  refine ⟨?_, ?_, State.getR_setRate_zero _, ?_⟩
  · rw [State.enterMaster, (State.setRate_within _ 0).getR_eq _ _ (by decide), State.getR_setR_id _ _ _ _ _ _ (by decide), State.getR_setR_self]
    rfl
  · rw [State.enterMaster, (State.setRate_within _ 0).getR_eq _ _ (by decide), State.getR_setR_self]
    rfl
  · exact (((s.syncClear_within.mono (fun _ h => h) (fun f hf => by simp [hf])).setR _ _ _ (by simp)).setR _ _ _ (by simp)).setR _ _ _ (by simp)

/-- Settles O15: each command by the branch that its condition takes, with what a step and the entry to a role leave. -/
theorem timeCounterCommandsComplete : Obligations.TimeCounterCommandsComplete := by
  unfold Obligations.TimeCounterCommandsComplete
  refine ⟨?start, ?noStart, fun _ => ⟨rfl, rfl⟩, ?standalone, ?master, ?noSet, fun _ => rfl, ?toMaster, ?toFollower, fun s role h => if_pos h, ?roles⟩
  case start =>
    intro s hstop hres
    exact s.when_true _ (by simp [hstop, hres])
  case noStart =>
    intro s h
    refine s.when_false _ ?_
    rcases h with h | h <;> simp [h]
  case standalone =>
    intro s hrole hlock
    obtain ⟨htime, hfrac, hev, hmem, hresp⟩ := s.stepTime_reads (s.getR Reg.TBS_SETTIME 0)
    refine ⟨_, ?_, htime, hfrac, hev, hmem, hresp⟩
    change execSetTime s = _
    simp [execSetTime, hrole, hlock]
  case master =>
    intro s hrole hlock
    change execSetTime s = _
    simp [execSetTime, hrole, hlock]
  case noSet =>
    intro s h
    exact if_pos (by simpa using h)
  case toMaster =>
    intro s h
    obtain ⟨hst, hstep, hrate, hw⟩ := (s.setR Reg.TBS_SYNC_CTL_ROLE 0 1).enterMaster_reads
    have hnew : (s.setR Reg.TBS_SYNC_CTL_ROLE 0 1).role = 1 := s.role_setR 1
    refine ⟨_, (if_neg fun e => h (e.symm.trans hnew)).trans (if_pos hnew), ?_, hst, hstep, hrate,
      hw.part_eq .time (by decide), hw.part_eq .events (by decide),
      hw.part_eq .mem (by decide)⟩
    exact (hw.getR_eq _ _ (by decide)).trans (State.getR_setR_self _ _ _ _)
  case toFollower =>
    intro s h
    obtain ⟨hst, hneed, hrate, hw⟩ := (s.setR Reg.TBS_SYNC_CTL_ROLE 0 0).enterFree_reads
    have hnew : (s.setR Reg.TBS_SYNC_CTL_ROLE 0 0).role = 0 := s.role_setR 0
    refine ⟨_, (if_neg fun e => h (e.symm.trans hnew)).trans (if_neg fun e => absurd (e.symm.trans hnew) (by decide)), ?_, hst, hneed, hrate,
      hw.part_eq .time (by decide),
      hw.part_eq .events (by decide), hw.part_eq .mem (by decide)⟩
    exact (hw.getR_eq _ _ (by decide)).trans (State.getR_setR_self _ _ _ _)
  case roles => exact fun s => ⟨s.role_setR 3, s.role_setR 2, s.role_setR 1, s.role_setR 0⟩

end Sys2Proof.Machine
end

section
/-!
PROOF. Sync frames, the loss of sync and the holdover limit (R57 to R71): what a frame sent writes, what a good frame records before the state machine looks at
it, and each command by the branch that its condition takes.
-/

namespace Sys2Proof.Machine

variable {ps : List Part} {W : Field → Prop} {s t : State}

theorem Within.modTb (h : Within ps W s t) (f : TimeBase → TimeBase) (hp : Part.tb ∈ ps) : Within ps W s (t.modTb f) :=
  h.part .tb hp (by intro q hq; cases q <;> first | rfl | exact absurd rfl hq) rfl

@[simp] theorem State.getR_modTb (s : State) (k : TimeBase → TimeBase) (f : Field) (i : Nat) : (s.modTb k).getR f i = s.getR f i := rfl

/-! ### A frame goes out (R59, R60) -/

theorem State.putFrame_reads (s : State) (typ : Nat) :
    (s.putFrame typ).getR Reg.SYN_STEPPED 0 = 0 ∧ (s.putFrame typ).getR Reg.SYN_SEQ 0 = Reg.SYN_SEQ.norm (s.getR Reg.SYN_SEQ 0 + 1)
      ∧ Leaves [.tb] [Reg.SYN_STEPPED.key 0, Reg.SYN_SEQ.key 0] s (s.putFrame typ) := by
  refine ⟨State.getR_setR_self _ _ _ _, ?_, ((Leaves.refl.modTb _ (by simp)).wrapAdd _ _ _ (by simp)).setR _ _ _ (by simp)⟩
  exact (State.getR_setR_id _ _ _ _ _ _ (by decide)).trans (State.getR_setR_self _ _ _ _)

theorem exec_syncFrameSend_master (hrole : s.role = 1) (hrun : s.flag Reg.T_RUNNING 0 = true) (hlock : s.flag Reg.T_UNLOCK 0 = false) :
    exec .syncFrameSend s = .next ((if s.flag Reg.SYN_SET_PEND 0 then
      (s.masterStep (s.getR Reg.SYN_SET_VAL 0)).setR Reg.SYN_SET_PEND 0 0 else s).putFrame s.frameType) :=
  if_pos (by simp [hrole, hrun, hlock])

/-! ### A received character is a byte (R59, R61) -/

theorem decode8b10b_lt {c : BitVec 10} {rd k : Bool} {b : Nat} (h : decode8b10b c rd = some (k, b)) : b < 256 := by
  unfold decode8b10b at h
  split at h
  next b' hfind =>
    obtain ⟨rfl, rfl⟩ : true = k ∧ b' = b := by simpa using h
    have hall : ∀ v ∈ controlChars, v < 256 := by decide
    exact hall _ (List.mem_of_find?_eq_some hfind)
  next =>
    split at h
    next => cases h
    next x hx =>
      split at h
      next => cases h
      next y hy =>
        obtain ⟨rfl, rfl⟩ : false = k ∧ x + 32 * y = b := by simpa using h
        have hx32 := List.mem_range.mp (List.mem_of_find?_eq_some hx)
        have hy8 := List.mem_range.mp (List.mem_of_find?_eq_some hy)
        omega

theorem decodeChars_lt {l : List (BitVec 10)} {rd k : Bool} {b : Nat} (h : some (k, b) ∈ (decodeChars l rd).1) : b < 256 := by
  induction l generalizing rd with
  | nil => cases h
  | cons c l ih =>
    rcases List.mem_cons.mp h with h | h
    · exact decode8b10b_lt h.symm
    · exact ih h

theorem charOf_lt (code : BitVec 160) (n : Nat) : charOf code n < 256 := by
  unfold charOf
  cases h : (rxDecode code).getD n none with
  | none => decide
  | some c =>
    have hn : n < (rxDecode code).length := by
      by_contra hn
      rw [List.getD_eq_default _ _ (not_lt.mp hn)] at h
      cases h
    rw [List.getD_eq_getElem _ _ hn] at h
    have hmem : some (c.1, c.2) ∈ (decodeChars (rxChars code) (rxDisp code)).1 := by
      rw [Prod.mk.eta, ← h]
      exact List.getElem_mem hn
    exact decodeChars_lt hmem

/-- A number written in n bytes, the lowest first. -/
theorem foldl_bytes_lt {f : Nat → Nat} (h : ∀ i, f i < 256) (n : Nat) : (List.range n).foldl (fun v i => v + f i * 256 ^ i) 0 < 256 ^ n := by
  induction n with
  | zero => exact Nat.zero_lt_one
  | succ n ih =>
    rw [List.range_succ, List.foldl_append, List.foldl_cons, List.foldl_nil]
    have htop : (f n + 1) * 256 ^ n ≤ 256 * 256 ^ n := Nat.mul_le_mul_right _ (h n)
    rw [Nat.pow_succ]
    linarith

theorem frameTime_lt (code : BitVec 160) : frameTime code < 2 ^ 64 := foldl_bytes_lt (fun i => charOf_lt code (4 + i)) 8

/-! ### A good frame (R63, R66, R70) -/

/-- A gap between two frames ends what ACQUIRE and TRACK have counted (R66). -/
def State.afterGap (s : State) (gap : Bool) : State := if gap then (s.setR Reg.SYN_ACQ 0 0).setR Reg.SYN_LCK 0 0 else s

theorem State.afterGap_within (s : State) (gap : Bool) : Within [] (fun f => f ∈ [Reg.SYN_ACQ, Reg.SYN_LCK]) s (s.afterGap gap) :=
  .ite (((Within.refl s).setR _ _ _ (by simp)).setR _ _ _ (by simp)) (.refl s)

theorem State.afterGap_acq (gap : Bool) (h : s.getR Reg.SYN_ACQ 0 = 0) : (s.afterGap gap).getR Reg.SYN_ACQ 0 = 0 := by
  cases gap
  · exact h
  · exact (State.getR_setR_id _ _ _ _ _ _ (by decide)).trans (State.getR_setR_self _ _ _ _)

/-- The times and the RATE of a good frame, and what a gap before it ends. -/
def State.frameKept (s : State) (time seq now : Nat) (rate : Int) (gap : Bool) : State :=
  (((((s.afterGap gap).setR Reg.SYN_HAVE 0 1).setR Reg.SYN_LTIME 0 time).setR Reg.SYN_LSEQ 0 seq).setR Reg.SYN_LARR 0 now).modTb
    (fun b => { b with rates := (rate :: b.rates).take 1024 })

/-- What a good frame says of its master and of the phase. -/
def State.frameMaster (s : State) (code : BitVec 160) : State :=
  ((s.seeMaster (charOf code 2 % 64)).setR Reg.SYN_EPOCH 0 (charOf code 12)).setR Reg.TBS_PHASE_ERR_ERR 0
    (unsigned 32 (max (-(2 ^ 31 - 1)) (min (2 ^ 31 - 1) (s.phaseErr code))))

/-- What a good frame records before the state machine looks at it. -/
def State.frameRecorded (s : State) (code : BitVec 160) : State :=
  (s.frameMaster code).frameKept (frameTime code) (charOf code 3) s.time.toNat (signed 32 (s.getR Reg.TBS_RATE_RATE 0))
    (s.flag Reg.SYN_HAVE 0 && decide (s.since (s.getR Reg.SYN_LARR 0) > 480000))

theorem State.goodFrame_eq (s : State) (code : BitVec 160) : s.goodFrame code = (s.frameRecorded code).syncAdvance code (s.phaseErr code) := rfl

/-- The fields that `frameMaster` writes, and those of `frameKept`. -/
def masterFields : List Field := [Reg.SYN_MID, Reg.SYN_MSEEN, Reg.TBS_SYNC_STAT_MASTER_ID, Reg.SYN_EPOCH, Reg.TBS_PHASE_ERR_ERR]
def keptFields : List Field := [Reg.SYN_ACQ, Reg.SYN_LCK, Reg.SYN_HAVE, Reg.SYN_LTIME, Reg.SYN_LSEQ, Reg.SYN_LARR]

theorem State.frameMaster_within (s : State) (code : BitVec 160) : Within [.events] (fun f => f ∈ masterFields) s (s.frameMaster code) :=
  ((((((Within.refl s).raise _ _ _ _ (by simp)).ite (.refl s)).setR _ _ _ (by simp [masterFields])).setR _ _ _ (by simp [masterFields])).setR _ _ _
    (by simp [masterFields]) |>.setR _ _ _ (by simp [masterFields])).setR _ _ _ (by simp [masterFields])

theorem State.frameMaster_id (s : State) (code : BitVec 160) :
    (s.frameMaster code).getR Reg.TBS_SYNC_STAT_MASTER_ID 0 = charOf code 2 % 64 := by
  rw [State.frameMaster, State.getR_setR_id _ _ _ _ _ _ (by decide), State.getR_setR_id _ _ _ _ _ _ (by decide), State.seeMaster, State.getR_setR_self]
  simp [Field.norm, Reg.TBS_SYNC_STAT_MASTER_ID]

section

variable (s) (time seq now : Nat) (rate : Int) (gap : Bool)

theorem State.frameKept_within : Within [.tb] (fun f => f ∈ keptFields) s (s.frameKept time seq now rate gap) :=
  ((((((s.afterGap_within gap).mono (by simp) (by simp [keptFields])).setR _ _ _ (by simp [keptFields])).setR _ _ _ (by simp [keptFields])).setR _ _ _
    (by simp [keptFields])).setR _ _ _ (by simp [keptFields])).modTb _ (by simp)

theorem State.frameKept_time : (s.frameKept time seq now rate gap).getR Reg.SYN_LTIME 0 = Reg.SYN_LTIME.norm time := by
  rw [State.frameKept, State.getR_modTb, State.getR_setR_id _ _ _ _ _ _ (by decide), State.getR_setR_id _ _ _ _ _ _ (by decide), State.getR_setR_self]

theorem State.frameKept_acq {s : State} (h : s.getR Reg.SYN_ACQ 0 = 0) : (s.frameKept time seq now rate gap).getR Reg.SYN_ACQ 0 = 0 := by
  simp (disch := decide) only [State.frameKept, State.getR_modTb, State.getR_setR_id, State.afterGap_acq gap h]

end

theorem State.frameRecorded_within (s : State) (code : BitVec 160) :
    Within [.events, .tb] (fun f => f ∈ masterFields ++ keptFields) s (s.frameRecorded code) :=
  ((s.frameMaster_within code).mono (by simp) (fun _ h => List.mem_append_left _ h)).trans
    ((State.frameKept_within _ _ _ _ _ _).mono (by simp) (fun _ h => List.mem_append_right _ h))

theorem State.frameRecorded_reads (s : State) (code : BitVec 160) :
    (s.frameRecorded code).getR Reg.SYN_LTIME 0 = frameTime code
      ∧ (s.frameRecorded code).getR Reg.TBS_SYNC_STAT_MASTER_ID 0 = charOf code 2 % 64
      ∧ (s.getR Reg.SYN_ACQ 0 = 0 → (s.frameRecorded code).getR Reg.SYN_ACQ 0 = 0) :=
  ⟨(State.frameKept_time ..).trans (Field.norm_of_lt rfl (frameTime_lt code)),
    ((State.frameKept_within ..).getR_eq _ _ (by decide)).trans (s.frameMaster_id code),
    fun h => State.frameKept_acq _ _ _ _ _ (((s.frameMaster_within code).getR_eq _ _ (by decide)).trans h)⟩

/-- The state machine at a frame in FREE that does not complete ACQ_FRAMES (R66). -/
theorem State.syncAdvance_free (code : BitVec 160) (e : Int) (hfree : s.getR Reg.TBS_SYNC_STAT_SYNC_STATE 0 = 0) (hdue : s.flag Reg.SYN_STEPDUE 0 = false)
    (hacq : s.getR Reg.SYN_ACQ 0 = 0) (hmore : 2 ≤ s.getR Reg.TBS_SYNC_CFG_ACQ_FRAMES 0) :
    s.syncAdvance code e = ((s.setR Reg.SYN_STEPDUE 0 0).setR Reg.TBS_SYNC_STAT_SYNC_STATE 0 1).satAdd Reg.SYN_ACQ 0 1 := by
  have hst : (s.setR Reg.SYN_STEPDUE 0 0).getR Reg.TBS_SYNC_STAT_SYNC_STATE 0 = 0 := (State.getR_setR_id _ _ _ _ _ _ (by decide)).trans hfree
  have hcount : (((s.setR Reg.SYN_STEPDUE 0 0).setR Reg.TBS_SYNC_STAT_SYNC_STATE 0 1).satAdd Reg.SYN_ACQ 0 1).getR Reg.SYN_ACQ 0 = 1 := by
    rw [State.satAdd, State.getR_setR_self, State.getR_setR_id _ _ _ _ _ _ (by decide), State.getR_setR_id _ _ _ _ _ _ (by decide), hacq]
    rfl
  have hcfg : (((s.setR Reg.SYN_STEPDUE 0 0).setR Reg.TBS_SYNC_STAT_SYNC_STATE 0 1).satAdd Reg.SYN_ACQ 0 1).getR Reg.TBS_SYNC_CFG_ACQ_FRAMES 0
      = s.getR Reg.TBS_SYNC_CFG_ACQ_FRAMES 0 := by
    simp (disch := decide) only [State.satAdd, State.getR_setR_id]
  have hlt : 1 < max 1 (s.getR Reg.TBS_SYNC_CFG_ACQ_FRAMES 0) := by omega
  simp [State.syncAdvance, hdue, hst, hcount, hcfg, hlt]

/-- The first good frame: ACQUIRE begins, and what the frame recorded stands. -/
theorem State.goodFrame_first (code : BitVec 160) (hfree : s.getR Reg.TBS_SYNC_STAT_SYNC_STATE 0 = 0) (hdue : s.flag Reg.SYN_STEPDUE 0 = false)
    (hacq : s.getR Reg.SYN_ACQ 0 = 0) (hmore : 2 ≤ s.getR Reg.TBS_SYNC_CFG_ACQ_FRAMES 0) :
    (s.goodFrame code).getR Reg.TBS_SYNC_STAT_SYNC_STATE 0 = 1 ∧ (s.goodFrame code).getR Reg.SYN_ACQ 0 = 1
      ∧ (s.goodFrame code).getR Reg.SYN_LTIME 0 = frameTime code
      ∧ (s.goodFrame code).getR Reg.TBS_SYNC_STAT_MASTER_ID 0 = charOf code 2 % 64 ∧ (s.goodFrame code).time = s.time := by
  have hw := s.frameRecorded_within code
  obtain ⟨htime, hmaster, hcount⟩ := s.frameRecorded_reads code
  have hacq' := hcount hacq
  have hdue' : (s.frameRecorded code).flag Reg.SYN_STEPDUE 0 = false := by
    rw [State.flag, hw.getR_eq _ _ (by decide)]
    exact hdue
  rw [State.goodFrame_eq, State.syncAdvance_free code _ ((hw.getR_eq _ _ (by decide)).trans hfree) hdue' hacq'
    (by rw [hw.getR_eq _ _ (by decide)]; exact hmore)]
  have hlater : Within [] (fun f => f ∈ [Reg.SYN_STEPDUE, Reg.TBS_SYNC_STAT_SYNC_STATE, Reg.SYN_ACQ]) (s.frameRecorded code)
      ((((s.frameRecorded code).setR Reg.SYN_STEPDUE 0 0).setR Reg.TBS_SYNC_STAT_SYNC_STATE 0 1).satAdd Reg.SYN_ACQ 0 1) :=
    (((Within.refl _).setR _ _ _ (by simp)).setR _ _ _ (by simp)).satAdd _ _ _ (by simp)
  refine ⟨?_, ?_, (hlater.getR_eq _ _ (by decide)).trans htime, (hlater.getR_eq _ _ (by decide)).trans hmaster,
    (hlater.part_eq .time (by decide)).trans (hw.part_eq .time (by decide))⟩
  · exact (State.getR_setR_id _ _ _ _ _ _ (by decide)).trans (State.getR_setR_self _ _ _ _)
  · rw [State.satAdd, State.getR_setR_self, State.getR_setR_id _ _ _ _ _ _ (by decide), State.getR_setR_id _ _ _ _ _ _ (by decide), hacq']
    rfl

theorem State.enterHoldover_state (s : State) : s.enterHoldover.getR Reg.TBS_SYNC_STAT_SYNC_STATE 0 = 4 :=
  State.getR_setR_self _ Reg.TBS_SYNC_STAT_SYNC_STATE 0 4

/-! ### What a frame's checks decide (R57, R62) -/

section

variable (comma : BitVec 10) (body : BitVec 130) (check : BitVec 20)

/-- A follower whose counter runs judges the frame, before it carries the disparity on. -/
theorem exec_syncFrameReceive_follower (hrole : s.role = 0) (hrun : s.flag Reg.T_RUNNING 0 = true) :
    exec (.syncFrameReceive comma body check) s =
      (if frameCrcOk (frameCode comma body check) && s.frameFormOk (frameCode comma body check) then
        .next ((s.frameSeen (frameCode comma body check)).goodFrame (frameCode comma body check))
      else
        let t := if frameCrcOk (frameCode comma body check) then s.frameSeen (frameCode comma body check)
          else ((s.frameSeen (frameCode comma body check)).satAdd Reg.TBS_SYNC_ERRS_CRC 0 1).raise tbsEp 0x1105 1 0
        .next (if s.frameFormOk (frameCode comma body check) then t else t.satAdd Reg.TBS_SYNC_ERRS_SYMBOL 0 1)) :=
  if_pos (by simp [hrole, hrun])

end

/-- Settles O16: each command by the branch that its condition takes, and the first good frame by what it records. -/
theorem tabirairSyncCommandsComplete : Obligations.TabirairSyncCommandsComplete := by
  unfold Obligations.TabirairSyncCommandsComplete
  refine ⟨?send, ?sendStepped, ?roles, ?pins, ?wrongCrc, ?wrongForm, ?good, ?first, ?lost, ?limit⟩
  case send =>
    intro s hrole hrun hlock hpend
    obtain ⟨hstepped, hseq, hframe⟩ := s.putFrame_reads s.frameType
    refine ⟨s.putFrame s.frameType, _, ?_, rfl, rfl, rfl, rfl, hstepped, hseq, hframe⟩
    rw [exec_syncFrameSend_master hrole hrun hlock, hpend, if_neg Bool.false_ne_true]
  case sendStepped =>
    intro s hrole hrun hlock hpend
    rw [exec_syncFrameSend_master hrole hrun hlock, hpend, if_pos rfl, State.masterStep]
  case roles =>
    intro s comma body check
    exact ⟨fun h => if_neg (by simp [h]), fun h => if_neg (by simp [h])⟩
  case pins =>
    intro s
    exact ⟨fun h => if_pos (.inl h), fun h => if_pos (.inr (.inl h)), fun hrole hen hres => if_neg (by simp [hrole, hen, hres])⟩
  case wrongCrc =>
    intro s comma body check hrole hrun hcrc hform
    simp only [exec_syncFrameReceive_follower comma body check hrole hrun, hcrc, hform, Bool.false_and, Bool.false_eq_true, if_false, if_true]
    rfl
  case wrongForm =>
    intro s comma body check hrole hrun hcrc hform
    simp only [exec_syncFrameReceive_follower comma body check hrole hrun, hcrc, hform, Bool.and_false, Bool.false_eq_true, if_false, if_true]
  case good =>
    intro s comma body check hrole hrun hcrc hform
    simp only [exec_syncFrameReceive_follower comma body check hrole hrun, hcrc, hform, Bool.and_self, if_true]
  case first =>
    rintro s comma body check hrole hrun hcrc hform hfree hdue ⟨hacq, hmore⟩
    refine ⟨_, ?_, (s.frameSeen (frameCode comma body check)).goodFrame_first _ hfree hdue hacq hmore⟩
    simp only [exec_syncFrameReceive_follower comma body check hrole hrun, hcrc, hform, Bool.and_self, if_true]
  case lost =>
    intro s hrole hst hlate
    refine ⟨?_, s.enterHoldover_state⟩
    refine (if_pos ?_).trans (if_neg ?_)
    · rcases hst with h | h <;> simp [h, hrole, hlate]
    · rcases hst with h | h <;> simp [h]
  case limit =>
    intro s hst hlim hle hraised
    exact s.when_true _ (by simp [hst, hlim, hle, hraised])

end Sys2Proof.Machine
end

section
/-!
SUPPORT. A pattern engine's fetching (R362, R377, R378): what a request for a line or block writes, and that the sequencer's look at a served address that is
not held asks for it and no more.
-/

namespace Sys2Proof.Machine

variable {ps : List Part} {W : Field → Prop} {s t u : State} {n : Nat}

@[simp] theorem State.pgx_modPgx_self (s : State) (n : Nat) (f : Pge → Pge) : (s.modPgx n f).pgx n = f (s.pgx n) := by
  simp [State.modPgx, State.pgx, State.modPge]

@[simp] theorem State.getR_modPgx (s : State) (n : Nat) (k : Pge → Pge) (f : Field) (i : Nat) : (s.modPgx n k).getR f i = s.getR f i := rfl

theorem State.pgx_congr (h : t.pge = s.pge) (n : Nat) : t.pgx n = s.pgx n := by simp [State.pgx, h]

theorem Within.modPgx (h : Within ps W s t) (n : Nat) (f : Pge → Pge) (hp : Part.pge ∈ ps) : Within ps W s (t.modPgx n f) := h.modPge _ hp

/-! ### Which endpoint serves an address -/

/-- The fields that the map of the LPDDR5X range reads (R501). -/
def lpxMapFields : List Field := [Reg.LPX_MAP_MODE, Reg.LPX_ILFAIL, Reg.LPX_DEV_U, Reg.LPX_STAT_CSTATE]

theorem State.addrEp_congr (h : Within ps W s t) (hl : Part.lpx ∉ ps)
    (hf : ∀ g ∈ lpxMapFields, ∀ f, W f → g.id % Field.idBound ≠ f.id % Field.idBound)
    (a : Nat) : t.addrEp a = s.addrEp a := by
  have hlpx : ∀ m, t.lp m = s.lp m := fun m => congrArg (fun l => Map.get lpx0 l m) (h.part_eq .lpx hl)
  simp only [lpxMapFields, List.forall_mem_cons] at hf
  obtain ⟨hmode, hfail, hdev, hst, -⟩ := hf
  unfold State.addrEp State.lpxMap State.lpxInterleaveOk State.lpxServes State.flag
  simp only [hlpx, h.getR_eq _ _ hmode, h.getR_eq _ _ hfail, h.getR_eq _ _ hdev, h.getR_eq _ _ hst]

/-! ### Requests and what arrives -/

/-- From s to t engine n has asked for lines and blocks, or been given some: beside the network nothing else is written. -/
structure Fetched (n : Nat) (s t : State) : Prop where
  frame : Within [.noc, .thy, .events, .pge] (fun _ => False) s t
  engine : ∃ p l b, t.pgx n = { s.pgx n with pend := p, lines := l, blocks := b }

theorem Fetched.refl : Fetched n s s := ⟨.refl s, _, _, _, rfl⟩

theorem Fetched.trans (h : Fetched n s t) (k : Fetched n t u) : Fetched n s u := by
  obtain ⟨_, _, _, he⟩ := h.engine
  obtain ⟨p, l, b, ke⟩ := k.engine
  exact ⟨h.frame.trans k.frame, p, l, b, by rw [ke, he]⟩

theorem Fetched.getR_eq (h : Fetched n s t) (f : Field) (i : Nat) : t.getR f i = s.getR f i := h.frame.getR_eq f i fun _ h => h.elim

theorem Fetched.foldl {α : Type} {f : State → α → State} (hf : ∀ v a, Fetched n v (f v a)) (l : List α) : Fetched n s (l.foldl f s) := by
  induction l generalizing s with
  | nil => exact .refl
  | cons a l ih => exact (hf s a).trans ih

/-- What changes an engine's requests, lines and blocks alone. -/
theorem Fetched.modPgx {f : Pge → Pge} (hf : ∀ k, ∃ p l b, f k = { k with pend := p, lines := l, blocks := b }) : Fetched n s (s.modPgx n f) := by
  obtain ⟨p, l, b, he⟩ := hf (s.pgx n)
  exact ⟨(Within.refl s).modPgx n f (by decide), p, l, b, by rw [State.pgx_modPgx_self, he]⟩

theorem Fetched.pgeFill (vec : Bool) (l : PgeLine) : Fetched n s (s.pgeFill n vec l) :=
  .modPgx fun k => by cases vec <;> exact ⟨_, _, _, rfl⟩

theorem Fetched.ingress (q : Packet) : Fetched n s (s.ingress q) := by
  have h : Within [.noc, .thy, .events] (fun _ => False) s (s.ingress q) := (Within.refl s).ingress q (by decide) (by decide) (by decide)
  exact ⟨h.mono (by decide) (fun _ h => h), _, _, _, State.pgx_congr (h.part_eq .pge (by decide)) n⟩

theorem Fetched.raise (a b c d : Nat) : Fetched n s (s.raise a b c d) := ⟨(Within.refl s).raise _ _ _ _ (by decide), _, _, _, rfl⟩

theorem State.sendRead_served {addr d : Nat} (h : s.addrEp addr = some d) (src size prio tag : Nat) (flow : Option Nat) :
    s.sendRead src addr size prio tag flow = (s.ingress (request src d 1 addr size prio tag flow []), true) := by
  simp [State.sendRead, h]

theorem State.sendRead_unserved {addr : Nat} (h : s.addrEp addr = none) (src size prio tag : Nat) (flow : Option Nat) :
    s.sendRead src addr size prio tag flow = (s.raise src 0x0201 2 (addr % 2 ^ 48 + src % 2 ^ 16 * 2 ^ 48), false) := by
  simp [State.sendRead, h]

/-- What a request for a line or block can do: nothing where it is held or on its way; else a request to the endpoint that serves the address, or a bad line
(R378). -/
theorem State.pgeAsk_cases (s : State) (n a : Nat) (vec : Bool) :
    s.pgeAsk n a vec = s
      ∨ (∃ q, (s.addrEp (a % 2 ^ 48 / 64 * 64)).isSome = true
        ∧ s.pgeAsk n a vec = (s.ingress q).modPgx n (fun k => { k with pend := k.pend ++ [(a % 2 ^ 48 / 64 * 64, vec)] }))
      ∨ (∃ d, s.addrEp (a % 2 ^ 48 / 64 * 64) = none
        ∧ s.pgeAsk n a vec = (s.raise (pgeEp n) 0x0201 2 d).pgeFill n vec ⟨a % 2 ^ 48 / 64 * 64, [], [], true⟩) := by
  by_cases hheld : ((if vec then (s.pgeBlock n (a % 2 ^ 48 / 64 * 64)).isSome else (s.pgeLine n (a % 2 ^ 48 / 64 * 64)).isSome)
      || (s.pgx n).pend.contains (a % 2 ^ 48 / 64 * 64, vec)) = true
  · exact .inl (if_pos hheld)
  · right
    have hasks : s.pgeAsk n a vec = _ := if_neg hheld
    cases hserves : s.addrEp (a % 2 ^ 48 / 64 * 64) with
    | some d =>
      rw [State.sendRead_served hserves] at hasks
      exact .inl ⟨_, rfl, hasks.trans (if_pos rfl)⟩
    | none =>
      rw [State.sendRead_unserved hserves] at hasks
      exact .inr ⟨_, rfl, hasks.trans (if_neg Bool.false_ne_true)⟩

theorem Fetched.pgeAsk (a : Nat) (vec : Bool) : Fetched n s (s.pgeAsk n a vec) := by
  rcases s.pgeAsk_cases n a vec with h | ⟨q, -, h⟩ | ⟨d, -, h⟩ <;> rw [h]
  · exact .refl
  · exact (Fetched.ingress q).trans (.modPgx fun _ => ⟨_, _, _, rfl⟩)
  · exact (Fetched.raise _ _ _ _).trans (.pgeFill _ _)

theorem Fetched.pgeAhead : Fetched n s (s.pgeAhead n) := by
  have h : Fetched n s (s.modPgx n (fun k => { k with blocks := k.blocks.filter (fun e => decide (s.blockAhead n 0 / 64 ≤ e.1)) })) :=
    .modPgx fun _ => ⟨_, _, _, rfl⟩
  unfold State.pgeAhead
  dsimp only
  split
  · exact h.trans (.foldl (fun v a => .pgeAsk a true) _)
  · exact h

/-! ### The instruction cache -/

theorem State.pgeLine_congr (h : (t.pgx n).lines = (s.pgx n).lines) (a : Nat) : t.pgeLine n a = s.pgeLine n a := by
  simp [State.pgeLine, h]

theorem State.pgeLine_of_no_lines (h : (s.pgx n).lines = []) (a : Nat) : s.pgeLine n a = none := by
  simp [State.pgeLine, h, Map.find]

/-- A line that arrives leaves the cache's other sets. -/
theorem State.pgeLine_pgeFill (l : PgeLine) {a : Nat} (h : a / 64 % 128 ≠ l.addr / 64 % 128) : (s.pgeFill n false l).pgeLine n a = s.pgeLine n a := by
  have hset : Map.find ((s.pgeFill n false l).pgx n).lines (a / 64 % 128) = Map.find (s.pgx n).lines (a / 64 % 128) := by
    rw [State.pgeFill, State.pgx_modPgx_self]
    exact Map.find_put_ne _ _ h
  simp only [State.pgeLine, hset]

theorem State.pgeLine_request (q : Packet) (f : Pge → Pge) (hf : ∀ k, (f k).lines = k.lines) (a : Nat) :
    ((s.ingress q).modPgx n f).pgeLine n a = s.pgeLine n a := by
  have h : Within [.noc, .thy, .events] (fun _ => False) s (s.ingress q) := (Within.refl s).ingress q (by decide) (by decide) (by decide)
  refine State.pgeLine_congr ?_ a
  rw [State.pgx_modPgx_self, hf, State.pgx_congr (h.part_eq .pge (by decide))]

/-- A request for an address that is served leaves the cache. -/
theorem State.pgeLine_pgeAsk_served {a : Nat} (vec : Bool) (h : (s.addrEp (a % 2 ^ 48 / 64 * 64)).isSome = true) (b : Nat) :
    (s.pgeAsk n a vec).pgeLine n b = s.pgeLine n b := by
  rcases s.pgeAsk_cases n a vec with e | ⟨q, -, e⟩ | ⟨d, hnone, -⟩
  · rw [e]
  · rw [e, State.pgeLine_request q]
    exact fun _ => rfl
  · rw [hnone] at h
    cases h

/-- A request for an instruction line leaves the cache's other sets. -/
theorem State.pgeLine_pgeAsk_other {a b : Nat} (h : b / 64 % 128 ≠ a % 2 ^ 48 / 64 % 128) : (s.pgeAsk n a false).pgeLine n b = s.pgeLine n b := by
  rcases s.pgeAsk_cases n a false with e | ⟨q, -, e⟩ | ⟨d, -, e⟩
  · rw [e]
  · rw [e, State.pgeLine_request q]
    exact fun _ => rfl
  · rw [e, State.pgeLine_pgeFill _ (by rwa [Nat.mul_div_cancel _ (by decide)])]
    exact State.pgeLine_congr rfl b

theorem State.pgePcAddr_lt (s : State) (n : Nat) : s.pgePcAddr n < 2 ^ 48 := Nat.mod_lt _ (by decide)

/-- The sequencer's look at an address that is served and not held: it asks, and no bad line ends the run. -/
theorem Fetched.pgeLook (hnone : s.pgeLine n (s.pgePcAddr n) = none) (hserved : (s.addrEp (s.pgePcAddr n / 64 * 64)).isSome = true) :
    Fetched n s (s.pgeLook n) := by
  have hlt := s.pgePcAddr_lt n
  have hline : ((s.pgeAsk n (s.pgePcAddr n) false).pgeAsk n (s.pgePcAddr n + 64) false).pgeLine n (s.pgePcAddr n) = none := by
    rw [State.pgeLine_pgeAsk_other (by omega), State.pgeLine_pgeAsk_served _ (by rwa [Nat.mod_eq_of_lt hlt]), hnone]
  unfold State.pgeLook
  by_cases hruns : s.pgeRuns n = true
  · simp only [hruns, hnone, hline, Bool.not_true, Bool.false_eq_true, Option.isSome_none, if_false]
    exact (Fetched.pgeAsk _ _).trans (.pgeAsk _ _)
  · rw [if_pos (by simpa using hruns)]
    exact .refl

/-- The sequencer that has a good word at hand does not look further. -/
theorem State.pgeLook_held {l : PgeLine} (hl : s.pgeLine n (s.pgePcAddr n) = some l)
    (hgood : l.bad = false ∧ l.poison.contains (s.pgePcAddr n / 8 % 8) = false) : s.pgeLook n = s := by
  unfold State.pgeLook
  split
  · rfl
  · simp only [hl, hgood, Option.isSome_some, if_true, Bool.false_eq_true, if_false]

end Sys2Proof.Machine
end

section
/-!
PROOF. The run commands of a pattern engine (R348 to R361, R377, R378): what ARM and SRST clear, what ends a run, and each command by the branch that the
engine's state takes.
-/

namespace Sys2Proof.Machine

variable {ps : List Part} {ks : List Nat} {W : Field → Prop} {s t u : State} {n : Nat}

/-! ### The state of an engine -/

theorem State.getR_setEach (s : State) (f : Field) (l : List Nat) (v i : Nat) :
    (s.setEach f l v).getR f i = if i ∈ l then f.norm v else s.getR f i := by
  unfold State.setEach
  induction l generalizing s with
  | nil => rfl
  | cons a l ih =>
    rw [List.foldl_cons, ih]
    by_cases hl : i ∈ l
    · simp [hl]
    · by_cases ha : i = a
      · subst ha; simp [hl]
      · simp [hl, ha, State.getR_setR_ix _ _ _ _ _ _ ha]

theorem Leaves.enterSt (f : Field) (i v src : Nat) (fin : List Nat) (hf : f.key i ∈ ks) (hp : Reg.PLIC_PEND.key src ∈ ks)
    (hw : Reg.PLIC_WAIT.key src ∈ ks)
    (h : Leaves ps ks s t) : Leaves ps ks s (t.enterSt f i v src fin) := .ite ((h.setR f i v hf).irqEdge src hp hw) (h.setR f i v hf)

/-- The fields that a change of an engine's state writes. -/
def pgeStFields : List Field := [Reg.PGE_STAT_STATE, Reg.PLIC_WAIT, Reg.PLIC_PEND]

theorem Within.pgeSt (h : Within ps W s t) (n v : Nat) (hW : ∀ f ∈ pgeStFields, W f) : Within ps W s (t.pgeSt n v) :=
  h.enterSt _ _ _ _ _ (hW _ (by simp [pgeStFields])) (hW _ (by simp [pgeStFields])) (hW _ (by simp [pgeStFields]))

theorem State.pgeSt_within (s : State) (n v : Nat) : Within [] (fun f => f ∈ pgeStFields) s (s.pgeSt n v) := (Within.refl s).pgeSt n v (fun _ h => h)

theorem State.getR_pgeSt_self (s : State) (n v : Nat) : (s.pgeSt n v).getR Reg.PGE_STAT_STATE n = Reg.PGE_STAT_STATE.norm v :=
  State.getR_enterSt_self _ _ _ _ _ _ (by decide) (by decide)

/-! ### What ARM and SRST clear (R354, R361) -/

theorem State.latch_within (s : State) (n f : Nat) (v : Bool) : Within [] (fun g => g ∈ [Reg.PGE_LATCHED]) s (s.latch n f v) :=
  (Within.refl s).setR _ _ _ (by simp)

theorem State.getR_latch_false (f : Nat) (h : s.getR Reg.PGE_LATCHED n = 0) : (s.latch n f false).getR Reg.PGE_LATCHED n = 0 := by
  rw [State.latch, State.getR_setR_self, h]
  simp [clrBit, nbit, Field.norm]

/-- The fields that ARM and SRST clear before the counters and the decoder. -/
def pgeStatFields : List Field := [Reg.PGE_STAT_ABORT_LATE, Reg.PGE_STAT_HCAUSE, Reg.PGE_STAT_HCODE, Reg.PGE_STAT_DEPTH, Reg.PGE_LATCHED]

/-- The status and the counters of an engine cleared. -/
def State.pgeStatCleared (s : State) (n : Nat) : State :=
  (((((s.setR Reg.PGE_STAT_ABORT_LATE n 0).setR Reg.PGE_STAT_HCAUSE n 0).setR Reg.PGE_STAT_HCODE n 0).setR
    Reg.PGE_STAT_DEPTH n 0).setR Reg.PGE_LATCHED n 0).setEach Reg.PGE_C_COUNT ((List.range 4).map (fun c => n * 4 + c)) 0

/-- An engine without its run: the timeset stays, and the responses under way belong to no run. -/
def pgeAtRest (k : Pge) : Pge := { pge0 with ts := k.ts, gen := k.gen + 1 }

theorem State.pgeClear_eq (s : State) (n : Nat) : s.pgeClear n = ((s.pgeStatCleared n).modPgx n pgeAtRest).svReset n 0 := rfl

theorem State.pgeStatCleared_within (s : State) (n : Nat) :
    Within [] (fun f => f ∈ Reg.PGE_C_COUNT :: pgeStatFields) s (s.pgeStatCleared n) :=
  ((((((Within.refl s).setR _ _ _ (by simp [pgeStatFields])).setR _ _ _ (by simp [pgeStatFields])).setR _ _ _ (by simp [pgeStatFields])).setR _ _ _
    (by simp [pgeStatFields])).setR _ _ _ (by simp [pgeStatFields])).setEach _ _ _ (by simp)

theorem State.pgeStatCleared_reads (s : State) (n : Nat) :
    (s.pgeStatCleared n).getR Reg.PGE_STAT_HCAUSE n = 0 ∧ (s.pgeStatCleared n).getR Reg.PGE_STAT_DEPTH n = 0
      ∧ (s.pgeStatCleared n).getR Reg.PGE_LATCHED n = 0 ∧ ∀ c < 4, (s.pgeStatCleared n).getR Reg.PGE_C_COUNT (n * 4 + c) = 0 := by
  have hcount : ∀ v : State, Within [] (fun f => f ∈ [Reg.PGE_C_COUNT]) v (v.setEach Reg.PGE_C_COUNT ((List.range 4).map (fun c => n * 4 + c)) 0) :=
    fun v => (Within.refl v).setEach _ _ _ (by simp)
  refine ⟨?_, ?_, ?_, fun c hc => ?_⟩
  · rw [State.pgeStatCleared, (hcount _).getR_eq _ _ (by decide)]
    simp (disch := decide) only [State.getR_setR_id, State.getR_setR_self]
    rfl
  · rw [State.pgeStatCleared, (hcount _).getR_eq _ _ (by decide)]
    simp (disch := decide) only [State.getR_setR_id, State.getR_setR_self]
    rfl
  · rw [State.pgeStatCleared, (hcount _).getR_eq _ _ (by decide), State.getR_setR_self]
    rfl
  · rw [State.pgeStatCleared, State.getR_setEach, if_pos (List.mem_map.mpr ⟨c, List.mem_range.mpr hc, rfl⟩)]
    rfl

/-- The decoder at its start (R368). -/
def svStart (k : Pge) : Pge := { k with cv := pge0.cv, cm := pge0.cm, cts := 0, rep := 0, blocks := [], pend := k.pend.filter (fun e => !e.2) }

theorem State.svReset_eq (s : State) (n w : Nat) : s.svReset n w = ((s.setR Reg.PGE_VPTR_WORD n w).latch n 28 false).modPgx n svStart := rfl

theorem State.svReset_within (s : State) (n w : Nat) : Within [.pge] (fun f => f ∈ [Reg.PGE_VPTR_WORD, Reg.PGE_LATCHED]) s (s.svReset n w) :=
  (((Within.refl s).setR _ _ _ (by simp)).setR _ _ _ (by simp)).modPgx _ _ (by decide)

theorem State.svReset_reads (w : Nat) (h : s.getR Reg.PGE_LATCHED n = 0) :
    (s.svReset n w).getR Reg.PGE_LATCHED n = 0 ∧ (s.svReset n w).getR Reg.PGE_VPTR_WORD n = Reg.PGE_VPTR_WORD.norm w := by
  rw [State.svReset_eq, State.getR_modPgx, State.getR_modPgx]
  refine ⟨State.getR_latch_false _ ?_, ?_⟩
  · rw [State.getR_setR_id _ _ _ _ _ _ (by decide), h]
  · rw [(State.latch_within _ n 28 false).getR_eq _ _ (by decide), State.getR_setR_self]

theorem State.pgx_svReset (s : State) (n w : Nat) : (s.svReset n w).pgx n = svStart (s.pgx n) := State.pgx_modPgx_self _ _ _

/-- The fields that ARM and SRST clear. -/
def pgeClearFields : List Field := Reg.PGE_VPTR_WORD :: Reg.PGE_C_COUNT :: pgeStatFields

theorem State.pgeClear_within (s : State) (n : Nat) : Within [.pge] (fun f => f ∈ pgeClearFields) s (s.pgeClear n) := by
  rw [State.pgeClear_eq]
  exact (((s.pgeStatCleared_within n).mono (by simp) (fun f hf => List.mem_cons_of_mem _ hf)).modPgx n _ (by decide)).trans
    ((State.svReset_within _ n 0).mono (fun _ h => h) (by simp [pgeStatFields]))

theorem State.pgeClear_reads (s : State) (n : Nat) :
    (s.pgeClear n).getR Reg.PGE_STAT_HCAUSE n = 0 ∧ (s.pgeClear n).getR Reg.PGE_STAT_DEPTH n = 0 ∧ (s.pgeClear n).getR Reg.PGE_LATCHED n = 0
      ∧ (s.pgeClear n).getR Reg.PGE_VPTR_WORD n = 0 ∧ ∀ c < 4, (s.pgeClear n).getR Reg.PGE_C_COUNT (n * 4 + c) = 0 := by
  obtain ⟨hcause, hdepth, hlatched, hcount⟩ := s.pgeStatCleared_reads n
  have hw := ((s.pgeStatCleared n).modPgx n pgeAtRest).svReset_within n 0
  obtain ⟨hl, hv⟩ := State.svReset_reads (s := (s.pgeStatCleared n).modPgx n pgeAtRest) 0 ((State.getR_modPgx ..).trans hlatched)
  rw [State.pgeClear_eq]
  refine ⟨?_, ?_, hl, hv, fun c hc => ?_⟩
  · rw [hw.getR_eq _ _ (by decide), State.getR_modPgx, hcause]
  · rw [hw.getR_eq _ _ (by decide), State.getR_modPgx, hdepth]
  · rw [hw.getR_eq _ _ (by decide), State.getR_modPgx, hcount c hc]

theorem State.pgx_pgeClear (s : State) (n : Nat) : (s.pgeClear n).pgx n = pgeAtRest (s.pgx n) := by
  rw [State.pgeClear_eq, State.pgx_svReset, State.pgx_modPgx_self, State.pgx_congr ((s.pgeStatCleared_within n).part_eq .pge (by decide)) n]
  rfl

/-! ### ARM (R354) -/

/-- An engine's parts at ARM: the number of the first vector, and outputs with the packet lengths of their contracts. -/
def State.pgeArmParts (u : State) (n : Nat) (k : Pge) : Pge :=
  { k with
    num := u.getR Reg.PGE_VNUM0_VNUM n
    outs := (u.pgeOuts n).foldl (fun m g =>
      Map.set pgeOut0 m g { pgeOut0 with maxlen := u.getR Reg.THY_CT_CFG_MAXLEN (u.getR Reg.PGE_OUT_CFG_FLOW (n * 16 + g)) }) [] }

/-- The instruction at PC has done none of its vectors. -/
def pgeFresh (k : Pge) : Pge := { k with prog := 0 }

/-- The engine as ARM puts it, at ENTRY and before it looks at the word there. -/
def State.pgeArmSet (u : State) (n : Nat) : State :=
  (((((u.pgeClear n).modPgx n (u.pgeArmParts n)).setR Reg.PGE_VT_T n (u.getR Reg.PGE_START_AT_AT n)).pgeSt n 1).setR Reg.PGE_PC_PC n
    (u.getR Reg.PGE_ENTRY_PC n)).modPgx n pgeFresh

/-- The fields that ARM sets. -/
def pgeArmFields : List Field := Reg.PGE_VT_T :: Reg.PGE_PC_PC :: (pgeStFields ++ pgeClearFields)

theorem State.pgeArmSet_cleared (u : State) (n : Nat) :
    Within [.pge] (fun f => f ∈ Reg.PGE_VT_T :: Reg.PGE_PC_PC :: pgeStFields) (u.pgeClear n) (u.pgeArmSet n) :=
  ((((((Within.refl _).modPgx n _ (by decide)).setR _ _ _ (by simp)).pgeSt n 1
    (fun f hf => List.mem_cons_of_mem _ (List.mem_cons_of_mem _ hf))).setR _ _ _ (by simp)).modPgx n _ (by decide))

theorem State.pgeArmSet_within (u : State) (n : Nat) : Within [.pge] (fun f => f ∈ pgeArmFields) u (u.pgeArmSet n) :=
  ((u.pgeClear_within n).mono (fun _ h => h) (by simp [pgeArmFields, pgeStFields]; tauto)).trans
    ((u.pgeArmSet_cleared n).mono (fun _ h => h) (by simp [pgeArmFields, pgeStFields]))

theorem State.pgeArmSet_reads (u : State) (n : Nat) :
    (u.pgeArmSet n).getR Reg.PGE_STAT_STATE n = 1 ∧ (u.pgeArmSet n).getR Reg.PGE_PC_PC n = u.getR Reg.PGE_ENTRY_PC n % 2 ^ 32
      ∧ (u.pgeArmSet n).getR Reg.PGE_VT_T n = u.getR Reg.PGE_START_AT_AT n % 2 ^ 64 := by
  refine ⟨?_, ?_, ?_⟩
  · rw [State.pgeArmSet, State.getR_modPgx, State.getR_setR_id _ _ _ _ _ _ (by decide), State.getR_pgeSt_self]
    rfl
  · rw [State.pgeArmSet, State.getR_modPgx, State.getR_setR_self]
    simp [Field.norm, Reg.PGE_PC_PC]
  · rw [State.pgeArmSet, State.getR_modPgx, State.getR_setR_id _ _ _ _ _ _ (by decide), (State.pgeSt_within _ n 1).getR_eq _ _ (by decide),
      State.getR_setR_self]
    simp [Field.norm, Reg.PGE_VT_T]

theorem State.pgx_pgeArmSet (u : State) (n : Nat) :
    ((u.pgeArmSet n).pgx n).stack = [] ∧ ((u.pgeArmSet n).pgx n).num = u.getR Reg.PGE_VNUM0_VNUM n ∧ ((u.pgeArmSet n).pgx n).ending = 0
      ∧ ((u.pgeArmSet n).pgx n).lines = [] := by
  have hset : (((((u.pgeClear n).modPgx n (u.pgeArmParts n)).setR Reg.PGE_VT_T n (u.getR Reg.PGE_START_AT_AT n)).pgeSt n 1).setR Reg.PGE_PC_PC n
      (u.getR Reg.PGE_ENTRY_PC n)).pge = ((u.pgeClear n).modPgx n (u.pgeArmParts n)).pge :=
    ((((Within.refl (ps := []) (W := anyField) _).setR _ _ _ trivial).pgeSt n 1 (fun _ _ => trivial)).setR _ _ _ trivial).part_eq .pge (by decide)
  rw [State.pgeArmSet, State.pgx_modPgx_self, State.pgx_congr hset, State.pgx_modPgx_self, State.pgx_pgeClear]
  exact ⟨rfl, rfl, rfl, rfl⟩

theorem State.pgePcAddr_pgeArmSet (u : State) (n : Nat) :
    (u.pgeArmSet n).pgePcAddr n = (u.getR Reg.PGE_UBASE_ADDR n + 8 * (u.getR Reg.PGE_ENTRY_PC n % 2 ^ 32)) % 2 ^ 48 := by
  rw [State.pgePcAddr, (u.pgeArmSet_reads n).2.1, (u.pgeArmSet_within n).getR_eq _ _ (by decide)]

/-- An ARM that is accepted at an address that is served: beside what it sets, the engine asks for words and no more. -/
theorem State.fetched_pgeArmSet {n : Nat}
    (h : (u.addrEp ((u.getR Reg.PGE_UBASE_ADDR n + 8 * (u.getR Reg.PGE_ENTRY_PC n % 2 ^ 32)) % 2 ^ 48 / 64 * 64)).isSome = true) :
    Fetched n (u.pgeArmSet n) (((u.pgeArmSet n).pgeLook n).pgeAhead n) := by
  obtain ⟨-, -, -, hlines⟩ := u.pgx_pgeArmSet n
  refine (Fetched.pgeLook (State.pgeLine_of_no_lines hlines _) ?_).trans .pgeAhead
  rw [State.addrEp_congr (u.pgeArmSet_within n) (by decide) (by decide), State.pgePcAddr_pgeArmSet]
  exact h

/-! ### The end of a run (R354 to R356) -/

/-- An abort of a BUSY run. -/
theorem State.pgeAbort_reads (u : State) (n : Nat) :
    (u.pgeAbort n).getR Reg.PGE_STAT_STATE n = 3 ∧ (u.pgeAbort n).getR Reg.PGE_STAT_HCAUSE n = 11
      ∧ (u.pgeAbort n).events = raiseIn u.events (evKey (pgeEp n) 0x0609) u.time.toNat 0 (pgeDetail 0 11 0 (u.pgeNum n) % 2 ^ 128)
      ∧ Leaves [.pge, .events] [Reg.PGE_STAT_STATE.key n, Reg.PGE_STAT_HCAUSE.key n, Reg.PLIC_PEND.key (32 + n), Reg.PLIC_WAIT.key (32 + n)]
        u (u.pgeAbort n) := by
  refine ⟨?_, ?_, ?_, ?_⟩
  · rw [State.pgeAbort, State.getR_raise, State.getR_modPgx, State.getR_setR_id _ _ _ _ _ _ (by decide), State.getR_pgeSt_self]
    rfl
  · rw [State.pgeAbort, State.getR_raise, State.getR_modPgx, State.getR_setR_self]
    rfl
  · have hst := u.pgeSt_within n 3
    rw [State.pgeAbort, State.raise_events]
    change raiseIn (u.pgeSt n 3).events _ (u.pgeSt n 3).time.toNat _ _ = _
    rw [show (u.pgeSt n 3).events = u.events from hst.part_eq .events (by decide), show (u.pgeSt n 3).time = u.time from hst.part_eq .time (by decide)]
  · exact (((Leaves.refl.enterSt _ _ _ _ _ (by simp) (by simp) (by simp)).setR _ _ _ (by simp)).modPge _ (by simp)).raise _ _ _ _ (by simp)

/-- With an output that has not sent LAST no end is shown. -/
theorem State.pgeFinish_waits {g : Nat} (hg : g ∈ s.pgeOuts n) (h : (s.pgeOut n g).done = false) : s.pgeFinish n = s := by
  refine if_neg ?_
  have hall : (s.pgeOuts n).all (fun g => (s.pgeOut n g).done) = false := List.all_eq_false.mpr ⟨g, hg, by simp [h]⟩
  simp [hall]

theorem State.pgeFinish_within (s : State) (n : Nat) : Within [.events] (fun f => f ∈ pgeStFields) s (s.pgeFinish n) :=
  .ite (.ite (((s.pgeSt_within n 2).mono (by simp) (fun _ h => h)).raise _ _ _ _ (by simp))
    (.ite (((s.pgeSt_within n 6).mono (by simp) (fun _ h => h)).raise _ _ _ _ (by simp)) (.refl s))) (.refl s)

/-! ### Outputs -/

theorem State.pgeOut_modOut_self (s : State) (n g : Nat) (f : PgeOut → PgeOut) : (s.modOut n g f).pgeOut n g = f (s.pgeOut n g) := by
  simp [State.modOut, State.pgeOut]

theorem State.pgeOut_modOut_ne (s : State) (n : Nat) {g j : Nat} (f : PgeOut → PgeOut) (h : j ≠ g) : (s.modOut n g f).pgeOut n j = s.pgeOut n j := by
  rw [State.pgeOut, State.modOut, State.pgx_modPgx_self]
  exact Map.get_set_ne _ _ _ _ h

theorem State.pgeOut_congr (h : t.pge = s.pge) (n g : Nat) : t.pgeOut n g = s.pgeOut n g := by simp [State.pgeOut, State.pgx_congr h n]

/-- A change of each output of a list, which names none twice. -/
theorem State.pgeOut_foldl_modOut (s : State) (n : Nat) (f : PgeOut → PgeOut) {l : List Nat} (hl : l.Nodup) (g : Nat) :
    (l.foldl (fun v g => v.modOut n g f) s).pgeOut n g = if g ∈ l then f (s.pgeOut n g) else s.pgeOut n g := by
  induction l generalizing s with
  | nil => rfl
  | cons a l ih =>
    obtain ⟨hal, hl⟩ := List.nodup_cons.mp hl
    rw [List.foldl_cons, ih _ hl]
    by_cases hg : g = a
    · subst hg; simp [hal, State.pgeOut_modOut_self]
    · simp [hg, State.pgeOut_modOut_ne _ _ _ hg]

/-- A change of outputs leaves the sequencer's parts. -/
theorem State.pgx_foldl_modOut (s : State) (n : Nat) (f : PgeOut → PgeOut) (l : List Nat) :
    ((l.foldl (fun v g => v.modOut n g f) s).pgx n).stop = (s.pgx n).stop := by
  induction l generalizing s with
  | nil => rfl
  | cons a l ih => rw [List.foldl_cons, ih, State.modOut, State.pgx_modPgx_self]

theorem State.pgeOuts_nodup (s : State) (n : Nat) : (s.pgeOuts n).Nodup := List.nodup_range.filter _

/-! ### STOP (R356) -/

/-- The waiting packets without the vectors at or after STOP_AT, and the STOP noted. -/
def State.pgeStopped (u : State) (n : Nat) : State :=
  (u.pgeOuts n).foldl (fun v g => v.modOut n g (fun o => { o with pkts := o.pkts.filterMap (keepBefore (u.getR Reg.PGE_STOP_AT_AT n)) }))
    (u.modPgx n (fun k => { k with stop := some (u.getR Reg.PGE_STOP_AT_AT n) }))

theorem State.pgeStopped_leaves (u : State) (n : Nat) : Leaves [.pge] [] u (u.pgeStopped n) := by
  have hfold : ∀ (l : List Nat) (v : State), Leaves [.pge] [] u v →
      Leaves [.pge] [] u (l.foldl (fun v g => v.modOut n g (fun o => { o with pkts := o.pkts.filterMap (keepBefore (u.getR Reg.PGE_STOP_AT_AT n)) })) v) := by
    intro l v hv
    induction l generalizing v with
    | nil => exact hv
    | cons a l ih => exact ih _ (hv.modPge _ (by simp))
  exact hfold _ _ (Leaves.refl.modPge _ (by simp))

theorem State.pgeStopped_reads (u : State) (n : Nat) : ((u.pgeStopped n).pgx n).stop = some (u.getR Reg.PGE_STOP_AT_AT n)
    ∧ ∀ g ∈ u.pgeOuts n, ((u.pgeStopped n).pgeOut n g).pkts = (u.pgeOut n g).pkts.filterMap (keepBefore (u.getR Reg.PGE_STOP_AT_AT n)) := by
  refine ⟨?_, fun g hg => ?_⟩
  · rw [State.pgeStopped, State.pgx_foldl_modOut, State.pgx_modPgx_self]
  · rw [State.pgeStopped, State.pgeOut_foldl_modOut _ _ _ (u.pgeOuts_nodup n), if_pos hg, State.pgeOut, State.pgx_modPgx_self]
    rfl

/-- Vector time has not reached STOP_AT. -/
theorem State.stopNow_pgeStopped (h0 : u.getR Reg.PGE_STOP_AT_AT n ≠ 0)
    (hb : before (u.getR Reg.PGE_VT_T n) (u.getR Reg.PGE_STOP_AT_AT n) = true) : (u.pgeStopped n).stopNow n = false := by
  have hvt : (u.pgeStopped n).getR Reg.PGE_VT_T n = u.getR Reg.PGE_VT_T n :=
    congrArg (fun o : Option Nat => o.getD _) ((u.pgeStopped_leaves n).2.2 _ (by simp))
  simp [State.stopNow, (u.pgeStopped_reads n).1, h0, hvt, hb]

/-! ### PGE_PACKET_INJECT (R350, R351) -/

theorem State.ingressWith_modPge (s : State) (f : Map Pge → Map Pge) (q : Packet) : (s.modPge f).ingressWith q = (s.ingressWith q).modPge f := by
  unfold State.ingressWith
  by_cases hbest : (!q.cls) = true
  · rw [if_pos hbest, if_pos hbest]
    rfl
  rw [if_neg hbest, if_neg hbest]
  by_cases hother : (!s.admittedFlow q || decide (s.getR Reg.THY_CT_EP_DST q.flow ≠ q.dest)) = true
  · refine (if_pos hother).trans ?_
    rw [if_pos hother]
    split <;> rfl
  refine (if_neg hother).trans ?_
  rw [if_neg hother]
  by_cases hcredit : s.cstate q.flow = 1 ∧ (q.len + 1) * s.getR Reg.THY_CT_CFG_PERIOD q.flow * frameTicks ≤ s.creditNow q.flow
  · refine (if_pos hcredit).trans ?_
    rw [if_pos hcredit]
    rfl
  · refine (if_neg hcredit).trans ?_
    rw [if_neg hcredit]
    rfl

/-- What an engine holds is none of what the ingress looks at. -/
theorem State.ingress_modPge (s : State) (f : Map Pge → Map Pge) (q : Packet) : (s.modPge f).ingress q = (s.ingress q).modPge f :=
  s.ingressWith_modPge f _

/-- An output whose oldest packet has left. -/
def State.outSent (s : State) (n : Nat) (p : PgePkt) (rest : List PgePkt) (o : PgeOut) : PgeOut :=
  { o with
    pkts := rest
    sentEnd := some (((p.vecs.getLast?.getD ⟨0, 0, 0, 0⟩).start + s.pgePeriod n (p.vecs.getLast?.getD ⟨0, 0, 0, 0⟩).ts) % 2 ^ 64)
    sentNum := if p.term then o.sentNum else some ((p.num + p.vecs.length - 1) % 2 ^ 48)
    done := o.done || p.last }

/-- The packet is in the network and counted. -/
def State.pktSent (s : State) (n g : Nat) (p : PgePkt) (rest : List PgePkt) : State :=
  ((s.modOut n g (s.outSent n p rest)).ingress (s.pgePacket n g p)).wrapAdd Reg.PGE_OUT_PKTS_COUNT (n * 16 + g) 1

/-- The first packet of a BUSY run is its commit point (R354). -/
def State.pktCommits (s : State) (n g num : Nat) (busy : Bool) : State :=
  if busy then ((s.pgeSt n 5).markCommit Reg.PGE_CMT n).raise (pgeEp n) 0x0601 0 (pgeDetail 0 0 g num) else s

/-- A packet that leaves after its time is counted (R357). -/
def State.pktLate (s : State) (n g num : Nat) (late : Bool) : State :=
  if late then (s.satAdd Reg.PGE_ERRCNT_LATE n 1).raise (pgeEp n) 0x0605 2 (pgeDetail 0 0 g num) else s

/-- When a packet starts. -/
def PgePkt.start (p : PgePkt) : Nat := (p.vecs.head?.map (fun v => v.start)).getD 0

/-- A packet that is injected. -/
def State.pktInjected (s : State) (n g : Nat) (p : PgePkt) (rest : List PgePkt) : State :=
  ((s.pktSent n g p rest).pktCommits n g p.num (decide (s.getR Reg.PGE_STAT_STATE n = 1))).pktLate n g p.num
    (before (plusTicks p.start (-(s.getR Reg.PGE_LEAD_MIN_TICKS n : Int))) s.time.toNat)

theorem exec_pgePacketInject {g : Fin 16} {n : Fin 16} {p : PgePkt} {rest : List PgePkt} (h : (s.pgeOut n g).pkts = p :: rest) :
    exec (.pgePacketInject n g) s = .next (if !p.closed || (!p.term && !s.dueAt (plusTicks p.start (-(s.leadMax n : Int))))
      || !s.covers (s.getR Reg.PGE_OUT_CFG_FLOW (n.val * 16 + g.val)) ((s.pgePacket n g p).len + 1) then s
      else (s.pktInjected n g p rest).pgeFinish n) := by
  change execPgePacketInject n g s = _
  simp only [execPgePacketInject, h, State.pktInjected, State.pktLate, State.pktCommits, decide_eq_true_eq]
  exact (apply_ite Host.Outcome.next _ _ _).symm

/-- The fields that a packet's injection writes after the packet is sent. -/
def pktShownFields : List Field := Reg.PGE_CMT :: Reg.PGE_ERRCNT_LATE :: pgeStFields

theorem State.pktSent_within (s : State) (n g : Nat) (p : PgePkt) (rest : List PgePkt) :
    Within [.noc, .thy, .events, .pge] (fun f => f ∈ [Reg.PGE_OUT_PKTS_COUNT]) s (s.pktSent n g p rest) :=
  (((Within.refl s).modPgx n _ (by decide)).ingress _ (by decide) (by decide) (by decide)).wrapAdd _ _ _ (by simp)

theorem State.pktInjected_shown (s : State) (n g : Nat) (p : PgePkt) (rest : List PgePkt) :
    Within [.events] (fun f => f ∈ pktShownFields) (s.pktSent n g p rest) (s.pktInjected n g p rest) := by
  have hcommits : ∀ b, Within [.events] (fun f => f ∈ pktShownFields) (s.pktSent n g p rest) ((s.pktSent n g p rest).pktCommits n g p.num b) := fun b =>
    .ite ((((Within.refl _).pgeSt n 5 (fun f hf => List.mem_cons_of_mem _ (List.mem_cons_of_mem _ hf))).markCommit _ _ (by simp)).raise _ _ _ _
      (by decide)) (.refl _)
  exact .ite (((hcommits _).satAdd _ _ _ (by simp [pktShownFields])).raise _ _ _ _ (by decide)) (hcommits _)

/-- The run commits, or has: it is RUNNING. -/
theorem State.pktInjected_state {g : Nat} {p : PgePkt} {rest : List PgePkt} (h : s.getR Reg.PGE_STAT_STATE n = 1 ∨ s.getR Reg.PGE_STAT_STATE n = 5) :
    (s.pktInjected n g p rest).getR Reg.PGE_STAT_STATE n = 5 := by
  have hlate : ∀ v : State, ∀ b, Within [.events] (fun f => f ∈ [Reg.PGE_ERRCNT_LATE]) v (v.pktLate n g p.num b) := fun v b =>
    .ite (((Within.refl v).satAdd _ _ _ (by simp)).raise _ _ _ _ (by decide)) (.refl v)
  rw [State.pktInjected, (hlate _ _).getR_eq _ _ (by decide)]
  rcases h with h | h
  · rw [h, State.pktCommits, if_pos (decide_eq_true rfl), State.getR_raise, State.markCommit,
      State.getR_setR_id _ _ _ _ _ _ (by decide), State.getR_pgeSt_self]
    rfl
  · rw [h, State.pktCommits, if_neg (by decide), (s.pktSent_within n g p rest).getR_eq _ _ (by decide), h]

theorem State.pktSent_reads (s : State) (n g : Nat) (p : PgePkt) (rest : List PgePkt) :
    (s.pktSent n g p rest).pgeOut n g = s.outSent n p rest (s.pgeOut n g) ∧ (s.pktSent n g p rest).noc = (s.ingress (s.pgePacket n g p)).noc
      ∧ (s.pktSent n g p rest).getR Reg.PGE_OUT_PKTS_COUNT (n * 16 + g)
        = (s.wrapAdd Reg.PGE_OUT_PKTS_COUNT (n * 16 + g) 1).getR Reg.PGE_OUT_PKTS_COUNT (n * 16 + g) := by
  have hin : ∀ v : State, Within [.noc, .thy, .events] (fun _ => False) v (v.ingress (s.pgePacket n g p)) :=
    fun v => (Within.refl v).ingress _ (by decide) (by decide) (by decide)
  refine ⟨?_, ?_, ?_⟩
  · have hpge : (s.pktSent n g p rest).pge = (s.modOut n g (s.outSent n p rest)).pge := (hin _).part_eq .pge (by decide)
    rw [State.pgeOut_congr hpge, State.pgeOut_modOut_self]
  · have hingress : (s.modOut n g (s.outSent n p rest)).ingress (s.pgePacket n g p) = _ := s.ingress_modPge _ _
    have hnoc := congrArg State.noc hingress
    exact hnoc
  · rw [State.pktSent, State.wrapAdd, State.wrapAdd, State.getR_setR_self, State.getR_setR_self, (hin _).getR_eq _ _ (fun _ h => h.elim)]
    rfl

theorem State.mem_pgeOuts {g : Nat} : g ∈ s.pgeOuts n ↔ g < 16 ∧ s.flag Reg.PGE_OUT_CFG_EN (n * 16 + g) = true := by
  simp [State.pgeOuts]

/-- An ARM that is accepted. -/
theorem exec_pgeArm_accepted {n : Fin 16} (hu : u = s.touchPair n) (hidle : u.pgeActive n = false)
    (houts : (u.pgeOuts n).isEmpty = false ∧ (u.pgeOuts n).all (u.outputOk n) = true)
    (hfetch : fetchBase (u.getR Reg.PGE_UBASE_ADDR n) = true ∧ fetchBase (u.getR Reg.PGE_VBASE_ADDR n) = true ∧ u.fetchOk n = true) :
    exec (.pgeArm n) s = .next (((u.pgeArmSet n).pgeLook n).pgeAhead n) := by
  subst hu
  change execPgeArm n s = _
  simp only [execPgeArm, hidle, houts, hfetch, Bool.not_true, Bool.or_self, Bool.false_eq_true, if_false]
  rfl

/-- What an accepted ARM leaves, at an address that is served. -/
theorem State.pgeArmed_reads {n : Nat}
    (h : (u.addrEp ((u.getR Reg.PGE_UBASE_ADDR n + 8 * (u.getR Reg.PGE_ENTRY_PC n % 2 ^ 32)) % 2 ^ 48 / 64 * 64)).isSome = true)
    (ht : t = ((u.pgeArmSet n).pgeLook n).pgeAhead n) :
    t.getR Reg.PGE_STAT_STATE n = 1 ∧ t.getR Reg.PGE_PC_PC n = u.getR Reg.PGE_ENTRY_PC n % 2 ^ 32
      ∧ t.getR Reg.PGE_VT_T n = u.getR Reg.PGE_START_AT_AT n % 2 ^ 64 ∧ t.getR Reg.PGE_STAT_DEPTH n = 0 ∧ t.getR Reg.PGE_STAT_HCAUSE n = 0
      ∧ (∀ c < 4, t.getR Reg.PGE_C_COUNT (n * 4 + c) = 0) ∧ (t.pgx n).stack = [] ∧ (t.pgx n).num = u.getR Reg.PGE_VNUM0_VNUM n
      ∧ (t.pgx n).ending = 0 ∧ t.mem = u.mem ∧ t.time = u.time := by
  have hf := State.fetched_pgeArmSet h
  rw [← ht] at hf
  obtain ⟨hst, hpc, hvt⟩ := u.pgeArmSet_reads n
  obtain ⟨hcause, hdepth, -, -, hcount⟩ := u.pgeClear_reads n
  obtain ⟨hstack, hnum, hending, -⟩ := u.pgx_pgeArmSet n
  have hcleared := u.pgeArmSet_cleared n
  have hset := u.pgeArmSet_within n
  obtain ⟨p, l, b, he⟩ := hf.engine
  refine ⟨(hf.getR_eq _ _).trans hst, (hf.getR_eq _ _).trans hpc, (hf.getR_eq _ _).trans hvt, ?_, ?_, fun c hc => ?_, ?_, ?_, ?_,
    (hf.frame.part_eq .mem (by decide)).trans (hset.part_eq .mem (by decide)),
    (hf.frame.part_eq .time (by decide)).trans (hset.part_eq .time (by decide))⟩
  · rw [hf.getR_eq, hcleared.getR_eq _ _ (by decide), hdepth]
  · rw [hf.getR_eq, hcleared.getR_eq _ _ (by decide), hcause]
  · rw [hf.getR_eq, hcleared.getR_eq _ _ (by decide), hcount c hc]
  · rw [he, hstack]
  · rw [he, hnum]
  · rw [he, hending]

/-- What SRST leaves. -/
theorem State.pgeSrst_reads (u : State) (n : Nat) (ht : t = (((u.pgeClear n).pgeSt n 0).setR Reg.PGE_VT_T n 0).setR Reg.PGE_PC_PC n 0) :
    t.getR Reg.PGE_STAT_STATE n = 0 ∧ t.getR Reg.PGE_PC_PC n = 0 ∧ t.getR Reg.PGE_VT_T n = 0 ∧ t.getR Reg.PGE_STAT_DEPTH n = 0
      ∧ t.getR Reg.PGE_STAT_HCAUSE n = 0 ∧ t.getR Reg.PGE_LATCHED n = 0 ∧ t.getR Reg.PGE_VPTR_WORD n = 0 ∧ t.pgx n = pgeAtRest (u.pgx n)
      ∧ t.mem = u.mem ∧ t.time = u.time ∧ t.events = u.events := by
  subst ht
  have hlater : Within [] (fun f => f ∈ Reg.PGE_VT_T :: Reg.PGE_PC_PC :: pgeStFields) (u.pgeClear n)
      ((((u.pgeClear n).pgeSt n 0).setR Reg.PGE_VT_T n 0).setR Reg.PGE_PC_PC n 0) :=
    (((Within.refl _).pgeSt n 0 (fun f hf => List.mem_cons_of_mem _ (List.mem_cons_of_mem _ hf))).setR _ _ _ (by simp)).setR _ _ _ (by simp)
  have hclear := u.pgeClear_within n
  obtain ⟨hcause, hdepth, hlatched, hvptr, -⟩ := u.pgeClear_reads n
  refine ⟨?_, State.getR_setR_self _ _ _ _, ?_, ?_, ?_, ?_, ?_, ?_, (hlater.part_eq .mem (by decide)).trans (hclear.part_eq .mem (by decide)),
    (hlater.part_eq .time (by decide)).trans (hclear.part_eq .time (by decide)),
    (hlater.part_eq .events (by decide)).trans (hclear.part_eq .events (by decide))⟩
  · rw [State.getR_setR_id _ _ _ _ _ _ (by decide), State.getR_setR_id _ _ _ _ _ _ (by decide), State.getR_pgeSt_self]
    rfl
  · rw [State.getR_setR_id _ _ _ _ _ _ (by decide), State.getR_setR_self]
    rfl
  · rw [hlater.getR_eq _ _ (by decide), hdepth]
  · rw [hlater.getR_eq _ _ (by decide), hcause]
  · rw [hlater.getR_eq _ _ (by decide), hlatched]
  · rw [hlater.getR_eq _ _ (by decide), hvptr]
  · rw [State.pgx_congr (hlater.part_eq .pge (by decide)), State.pgx_pgeClear]

/-- What the injection of a packet that is not the run's last leaves. -/
theorem State.pktInjected_reads {g : Nat} {p : PgePkt} (rest : List PgePkt) (hlast : p.last = false)
    (hst : s.getR Reg.PGE_STAT_STATE n = 1 ∨ s.getR Reg.PGE_STAT_STATE n = 5) (hg : g < 16) (ht : t = (s.pktInjected n g p rest).pgeFinish n) :
    (t.pgeOut n g).pkts = rest
      ∧ (t.pgeOut n g).sentNum = (if p.term then (s.pgeOut n g).sentNum else some ((p.num + p.vecs.length - 1) % 2 ^ 48))
      ∧ t.noc = (s.ingress (s.pgePacket n g p)).noc
      ∧ t.getR Reg.PGE_OUT_PKTS_COUNT (n * 16 + g) = (s.wrapAdd Reg.PGE_OUT_PKTS_COUNT (n * 16 + g) 1).getR Reg.PGE_OUT_PKTS_COUNT (n * 16 + g)
      ∧ t.mem = s.mem ∧ t.time = s.time
      ∧ ((s.pgeOut n g).done = false → s.flag Reg.PGE_OUT_CFG_EN (n * 16 + g) = true → t.getR Reg.PGE_STAT_STATE n = 5) := by
  have hshown := s.pktInjected_shown n g p rest
  have hsent := s.pktSent_within n g p rest
  obtain ⟨hout, hnoc, hcount⟩ := s.pktSent_reads n g p rest
  have hlater : Within [.events] (fun f => f ∈ pktShownFields) (s.pktSent n g p rest) t :=
    ht ▸ hshown.trans ((State.pgeFinish_within _ n).mono (fun _ h => h) (fun f hf => List.mem_cons_of_mem _ (List.mem_cons_of_mem _ hf)))
  have hpge : t.pgeOut n g = s.outSent n p rest (s.pgeOut n g) := (State.pgeOut_congr (hlater.part_eq .pge (by decide)) n g).trans hout
  refine ⟨by rw [hpge]; rfl, by rw [hpge]; rfl, (hlater.part_eq .noc (by decide)).trans hnoc, (hlater.getR_eq _ _ (by decide)).trans hcount,
    (hlater.part_eq .mem (by decide)).trans (hsent.part_eq .mem (by decide)),
    (hlater.part_eq .time (by decide)).trans (hsent.part_eq .time (by decide)), fun hdone hen => ?_⟩
  have hmem : g ∈ (s.pktInjected n g p rest).pgeOuts n := by
    rw [State.mem_pgeOuts, State.flag, hshown.getR_eq _ _ (by decide), hsent.getR_eq _ _ (by decide)]
    exact ⟨hg, hen⟩
  have hopen : ((s.pktInjected n g p rest).pgeOut n g).done = false := by
    rw [State.pgeOut_congr (hshown.part_eq .pge (by decide)), hout]
    simp [State.outSent, hdone, hlast]
  rw [ht, State.pgeFinish_waits hmem hopen]
  exact State.pktInjected_state hst

/-- Settles O34: each command by the branch that the engine's state takes; an ARM's look at ENTRY asks for words and no more. -/
theorem patternRunCommandsComplete : Obligations.PatternRunCommandsComplete := by
  unfold Obligations.PatternRunCommandsComplete
  refine ⟨?arm, ?armRefused, ?abort, ?stop, ?stopNow, ?srst, ?leadClose, ?inject, ?injectNot, ?breach, ?response, ?nothing, fun s n l => State.pgeLook_held⟩
  case arm =>
    intro s u n hu hidle houts hfetch hserved
    exact ⟨_, exec_pgeArm_accepted hu hidle houts hfetch, State.pgeArmed_reads hserved rfl⟩
  case armRefused =>
    rintro s u n rfl
    change (_ → execPgeArm n s = _) ∧ (_ → _ → execPgeArm n s = _) ∧ (_ → _ → _ → _ → execPgeArm n s = _)
    refine ⟨fun hrun => ?_, fun hidle houts => ?_, fun hidle hsome hall hbase => ?_⟩
    · simp only [execPgeArm, hrun, if_true]
    · have hno : (((s.touchPair n).pgeOuts n).isEmpty || !((s.touchPair n).pgeOuts n).all ((s.touchPair n).outputOk n)) = true := by
        rcases houts with h | h <;> simp [h]
      simp only [execPgeArm, hidle, hno, Bool.false_eq_true, if_false, if_true]
    · have hyes : (((s.touchPair n).pgeOuts n).isEmpty || !((s.touchPair n).pgeOuts n).all ((s.touchPair n).outputOk n)) = false := by
        simp [hall, hsome]
      have hno : (!fetchBase ((s.touchPair n).getR Reg.PGE_UBASE_ADDR n) || !fetchBase ((s.touchPair n).getR Reg.PGE_VBASE_ADDR n)
          || !(s.touchPair n).fetchOk n) = true := by
        rcases hbase with h | h | h <;> simp [h]
      simp only [execPgeArm, hidle, hyes, hno, Bool.false_eq_true, if_false, if_true]
  case abort =>
    rintro s u n rfl
    have hlate : (s.touchPair n).getR Reg.PGE_STAT_STATE n ≠ 1 → exec (.pgeAbort n) s = (s.touchPair n).when _ _ := fun h => if_neg h
    obtain ⟨hst, hcause, hev, hframe⟩ := (s.touchPair n).pgeAbort_reads n
    refine ⟨fun h => if_pos h, fun h => ?_, fun h => ?_, fun h => ?_, hst, hcause, hev, hframe⟩
    · exact (hlate (by omega)).trans (State.when_true _ _ (by simp [h]))
    · exact (hlate (by omega)).trans (by simp [State.when, h])
    · exact (hlate (by omega)).trans (State.when_false _ _ (by rcases h with h | h <;> simp [h]))
  case stop =>
    rintro s u n rfl
    change (_ → execPgeStop n s = _) ∧ (_ → _ → execPgeStop n s = _) ∧ (_ → _ → _ → _ → ∃ t, execPgeStop n s = _ ∧ _)
    refine ⟨fun h => if_pos h, fun h1 h => ?_, fun h5 hend h0 hb => ⟨(s.touchPair n).pgeStopped n, ?_, ((s.touchPair n).pgeStopped_reads n).1,
      (s.touchPair n).pgeStopped_leaves n, ((s.touchPair n).pgeStopped_reads n).2⟩⟩
    · exact (if_neg h1).trans (if_neg (by omega))
    · refine (if_neg (by omega)).trans ((if_pos ⟨h5, hend⟩).trans (congrArg _ (if_neg ?_)))
      exact Bool.eq_false_iff.mp (State.stopNow_pgeStopped h0 hb)
  case stopNow =>
    rintro s u t n rfl ⟨h5, hend⟩ rfl hnow
    refine ⟨?_, fun hno hat => ?_, fun h1 hc => if_pos ⟨h1, hc⟩⟩
    · exact (if_neg (by omega)).trans ((if_pos ⟨h5, hend⟩).trans (congrArg _ (if_pos hnow)))
    · refine (if_neg ?_).trans (by rw [hat]; rfl)
      rintro ⟨h1, hc⟩
      rcases hno with h | h
      · exact h h1
      · rw [hc] at h; cases h
  case srst =>
    rintro s u n rfl
    obtain ⟨hst, hpc, hvt, hdepth, hcause, hlatched, hvptr, hpgx, hmem, htime, hev⟩ := State.pgeSrst_reads (s.touchPair n) n rfl
    exact ⟨_, rfl, hst, hpc, hvt, hdepth, hcause, hlatched, hvptr, by rw [hpgx]; rfl, by rw [hpgx]; rfl, by rw [hpgx]; rfl, hmem, htime, hev⟩
  case leadClose =>
    intro s n g
    change (∀ p, _ → execPgeLeadClose n g s = _) ∧ (_ → execPgeLeadClose n g s = _)
    refine ⟨fun p hp => ?_, fun h => ?_⟩
    · simp [execPgeLeadClose, hp, State.when]
    · simp [execPgeLeadClose, h]
  case inject =>
    rintro s n g p rest hp ⟨hclosed, hlast⟩ htime hcovers hst
    have hgo : exec (.pgePacketInject n g) s = .next ((s.pktInjected n g p rest).pgeFinish n) := by
      rw [exec_pgePacketInject hp, if_neg]
      rcases htime with h | h
      · simp [hclosed, h, hcovers]
      · have h' : s.dueAt (plusTicks p.start (-(s.leadMax n : Int))) = true := h
        simp [hclosed, h', hcovers]
    exact ⟨_, hgo, State.pktInjected_reads rest hlast hst g.isLt rfl⟩
  case injectNot =>
    intro s n g
    refine ⟨fun h => ?_, fun p hp h => ?_⟩
    · change execPgePacketInject n g s = _
      simp only [execPgePacketInject, h]
    · obtain ⟨rest, hrest⟩ := List.head?_eq_some_iff.mp hp
      rw [exec_pgePacketInject hrest, if_pos]
      rcases h with h | ⟨hterm, h⟩ | h
      · simp [h]
      · have h' : s.dueAt (plusTicks p.start (-(s.leadMax n : Int))) = false := h
        simp [hterm, h']
      · simp [h]
  case breach =>
    rintro s t n p rest hp rfl
    change execPgeBreachNotice n s = _
    simp only [execPgeBreachNotice, hp]
    exact (apply_ite Host.Outcome.next _ _ _).symm
  case response =>
    rintro s u n p rest hp rfl
    change execPgeFetchResponse n s = _
    simp only [execPgeFetchResponse, hp]
    by_cases hmine : p.tag / 2 = (s.pgx n).gen % 128 ∧ (s.pgx n).pend.contains (p.addr, decide (p.tag % 2 = 1)) = true
    · rw [if_pos hmine, if_neg (not_or.mpr ⟨not_not.mpr hmine.1, by rw [hmine.2]; decide⟩)]
      simp only [decide_eq_true_eq]
    · rw [if_neg hmine, if_pos]
      rcases not_and_or.mp hmine with h | h
      · exact .inl h
      · exact .inr (by rw [Bool.eq_false_iff.mpr h]; rfl)
  case nothing =>
    intro s n
    change (_ → execPgeBreachNotice n s = _) ∧ (_ → execPgeFetchResponse n s = _)
    refine ⟨fun h => ?_, fun h => ?_⟩
    · simp only [execPgeBreachNotice, h]
    · simp only [execPgeFetchResponse, h]

end Sys2Proof.Machine
end

section
/-!
PROOF. The control instructions of a measurement processor (R440 to R449, R453, R459, R460): what an instruction's word decides before its own meaning, what
a branch and an iteration leave, the release of a barrier, and each command by the branch that its operands take.
-/

namespace Sys2Proof.Machine

variable {ps : List Part} {ks : List Nat} {W : Field → Prop} {s t u : State} {m : Nat}

/-! ### The word at hand (R438, R447) -/

section

variable {w : Nat} {p : Bool} {ok : Nat → Bool} {f : Nat → State → State}

theorem State.mspIns_none (h : s.mspWord m = none) : s.mspIns m ok f = .next s := by
  simp [State.mspIns, h]

theorem State.mspIns_other (h : s.mspWord m = some ((w, p), t)) (hok : ok w = false) : s.mspIns m ok f = .next s := by
  simp [State.mspIns, h, hok]

theorem State.mspIns_poisoned (h : s.mspWord m = some ((w, true), t)) (hok : ok w = true) : s.mspIns m ok f = .next (t.mspExc m 7) := by
  simp [State.mspIns, h, hok]

theorem State.mspIns_runs (h : s.mspWord m = some ((w, false), t)) (hok : ok w = true) : s.mspIns m ok f = .next (f w t) := by
  simp [State.mspIns, h, hok]

end

/-- The test of a WAIT's word: its OP and its KIND. -/
def waitKind (k w : Nat) : Bool := decide (mspOp w = 0x07) && decide (fld w 24 2 = k)

theorem waitKind_true {w k : Nat} (hop : mspOp w = 0x07) (hk : w / 2 ^ 24 % 4 = k) : waitKind k w = true :=
  Bool.and_eq_true_iff.mpr ⟨decide_eq_true hop, decide_eq_true hk⟩

theorem waitKind_false {w k : Nat} (h : mspOp w ≠ 0x07 ∨ w / 2 ^ 24 % 4 ≠ k) : waitKind k w = false :=
  Bool.and_eq_false_iff.mpr (h.imp decide_eq_false decide_eq_false)

theorem fld_low (w n : Nat) : fld w 0 n = w % 2 ^ n := by simp [fld]

theorem State.mspStall_nil (s : State) (m : Nat) : s.mspStall m [] [] = 0 := by
  unfold State.mspStall
  split
  · simp [bit]
  · rfl

/-! ### What an instruction leaves -/

@[simp] theorem State.getR_modMspx (s : State) (m : Nat) (k : Msp → Msp) (f : Field) (i : Nat) : (s.modMspx m k).getR f i = s.getR f i := rfl

@[simp] theorem State.mspx_setR (s : State) (f : Field) (i v m : Nat) : (s.setR f i v).mspx m = s.mspx m := rfl

theorem Leaves.modMspx (m : Nat) (f : Msp → Msp) (hp : Part.msp ∈ ps) (h : Leaves ps ks s t) : Leaves ps ks s (t.modMspx m f) := h.modMsp _ hp

/-- What a short branch leaves beside PC and the cycles: the words from its target on are held (R434). -/
def mspLooped (tgt : Nat) (words : List (Nat × Bool)) (k : Msp) : Msp := { k with fresh := none, cacheLo := tgt, cache := words, ahead := none }

/-- A branch taken is a short one, or goes on at its target. -/
theorem State.mspTake_cases (s : State) (m tgt : Nat) : ∃ cycles words,
    s.mspTake m tgt = ((s.mspCycles m cycles).setR Reg.MSP_PC_PC m tgt).modMspx m (mspLooped tgt words)
      ∨ s.mspTake m tgt = ((s.mspCycles m cycles).mspGo m tgt).modMspx m (fun k => { k with fresh := none, ahead := none }) := by
  unfold State.mspTake
  extract_lets pc k short hit words t
  refine ⟨if hit then 1 else 2, words, ?_⟩
  by_cases h : short = true
  · exact .inl (if_pos h)
  · exact .inr (if_neg h)

theorem norm_pc {tgt : Nat} (h : tgt < 2 ^ 14) : Reg.MSP_PC_PC.norm tgt = tgt := Field.norm_of_lt rfl h

theorem State.mspTake_reads {tgt : Nat} (h : tgt < 2 ^ 14) :
    (s.mspTake m tgt).getR Reg.MSP_PC_PC m = tgt ∧ ((s.mspTake m tgt).mspx m).stack = (s.mspx m).stack
      ∧ Leaves [.msp] [Reg.MSP_PC_PC.key m, Reg.MSP_CYCLES_COUNT.key m] s (s.mspTake m tgt) := by
  obtain ⟨cycles, words, e | e⟩ := s.mspTake_cases m tgt <;> rw [e]
  · refine ⟨?_, ?_, (((Leaves.refl.wrapAdd _ _ _ (by simp)).setR _ _ _ (by simp)).modMspx _ _ (by simp))⟩
    · rw [State.getR_modMspx, State.getR_setR_self, norm_pc h]
    · rw [State.mspx_modMspx_self]
      rfl
  · refine ⟨?_, ?_, ((((Leaves.refl.wrapAdd _ _ _ (by simp)).setR _ _ _ (by simp)).modMspx _ _ (by simp)).modMspx _ _ (by simp))⟩
    · rw [State.getR_modMspx, State.mspGo, State.getR_modMspx, State.getR_setR_self, norm_pc h]
    · rw [State.mspx_modMspx_self, State.mspGo, State.mspx_modMspx_self]
      rfl

theorem State.mspJump_reads {tgt : Nat} (h : tgt < 2 ^ 14) :
    (s.mspJump m tgt).getR Reg.MSP_PC_PC m = tgt ∧ ((s.mspJump m tgt).mspx m).cache = []
      ∧ Leaves [.msp] [Reg.MSP_PC_PC.key m, Reg.MSP_CYCLES_COUNT.key m] s (s.mspJump m tgt) := by
  refine ⟨?_, ?_, (((Leaves.refl.wrapAdd _ _ _ (by simp)).setR _ _ _ (by simp)).modMspx _ _ (by simp))⟩
  · rw [State.mspJump, State.getR_modMspx, State.getR_setR_self, norm_pc h]
  · rw [State.mspJump, State.mspx_modMspx_self]

/-- An iteration that is not the last counts down. -/
theorem State.mspDone_iterates {x : Nat × Bool} (n : Nat) (hrep : (s.mspx m).rep = some x) (hrc : 1 < s.getR Reg.MSP_RC_V m) :
    s.mspDone m n = ((s.mspCycles m n).modMspx m (fun k => { k with fresh := none })).setR Reg.MSP_RC_V m (s.getR Reg.MSP_RC_V m - 1) := by
  simp only [State.mspDone, hrep]
  exact if_neg (by omega)

theorem State.mspDone_iterates_reads {x : Nat × Bool} (n : Nat) (hrep : (s.mspx m).rep = some x) (hrc : 1 < s.getR Reg.MSP_RC_V m) :
    (s.mspDone m n).getR Reg.MSP_PC_PC m = s.getR Reg.MSP_PC_PC m ∧ (s.mspDone m n).getR Reg.MSP_RC_V m = (s.getR Reg.MSP_RC_V m - 1) % 2 ^ 17
      ∧ ((s.mspDone m n).mspx m).rep = some x := by
  rw [State.mspDone_iterates n hrep hrc]
  refine ⟨?_, ?_, ?_⟩
  · rw [State.getR_setR_id _ _ _ _ _ _ (by decide), State.getR_modMspx]
    exact State.getR_setR_id _ _ _ _ _ _ (by decide)
  · rw [State.getR_setR_self]
    simp [Field.norm, Reg.MSP_RC_V]
  · rw [State.mspx_setR, State.mspx_modMspx_self]
    exact hrep

/-! ### What a processor's end of a WAIT leaves of the others -/

/-- From s to t no processor but m changes its parts. -/
def Solo (m : Nat) (s t : State) : Prop := ∀ j, j ≠ m → t.mspx j = s.mspx j

theorem Solo.refl : Solo m s s := fun _ _ => rfl

theorem Solo.modMspx (h : Solo m s t) (f : Msp → Msp) : Solo m s (t.modMspx m f) := fun j hj => (Map.get_set_ne _ _ _ _ hj).trans (h j hj)

/-- Where no processor's parts are written. -/
theorem Solo.within (h : Solo m s t) (hw : Within ps W t u) (hp : Part.msp ∉ ps) : Solo m s u :=
  fun j hj => (State.mspx_congr (hw.part_eq .msp hp)).trans (h j hj)

theorem Solo.setR (h : Solo m s t) (f : Field) (i v : Nat) : Solo m s (t.setR f i v) := h

theorem Solo.mspSt (h : Solo m s t) (n v : Nat) : Solo m s (t.mspSt n v) :=
  h.within ((Within.refl (ps := []) (W := anyField) t).mspSt n v (fun _ _ => trivial)) (by decide)

theorem Solo.mspGo (h : Solo m s t) (pc : Nat) : Solo m s (t.mspGo m pc) := (h.setR _ _ _).modMspx _

theorem Solo.mspLeave (h : Solo m s t) (st : Nat) : Solo m s (t.mspLeave m st) := ((h.mspSt m st).setR _ _ _).modMspx _

theorem Solo.mspResume (h : Solo m s t) : Solo m s (t.mspResume m) := ((h.setR _ _ _).modMspx _).mspSt m 5

theorem Solo.mspAfterRepeat (h : Solo m s t) : Solo m s (t.mspAfterRepeat m) := by
  have hstop : Solo m s (t.mspStopped m) := h.mspLeave 6
  unfold State.mspAfterRepeat
  dsimp only
  split
  · split
    · exact hstop.mspResume
    · exact hstop
  · exact h

theorem Solo.mspDone (h : Solo m s t) (n : Nat) : Solo m s (t.mspDone m n) := by
  have hcycles : Solo m s ((t.mspCycles m n).modMspx m (fun k => { k with fresh := none })) := Solo.modMspx (t := t.mspCycles m n) h _
  unfold State.mspDone
  dsimp only
  split
  · exact hcycles.mspGo _
  · split
    · exact ((Solo.modMspx (hcycles.setR _ _ _) _).mspGo _).mspAfterRepeat
    · exact hcycles.setR _ _ _

theorem State.mspWaitOver_solo (s : State) (m : Nat) (x : MspWait) : Solo m s (s.mspWaitOver m x) :=
  Solo.mspDone ((Solo.refl.modMspx _).setR _ _ _) _

/-! ### Barriers (R460) -/

/-- A release comes to member i of a group. -/
def State.barrierStep (g : Nat) (s : State) (i : Nat) : State :=
  match (s.mspx (8 * g + i)).wait with
  | some x => if x.kind = 2 then s.mspWaitOver (8 * g + i) x else s
  | none => s

theorem State.barrierRelease_eq (s : State) (g : Nat) : s.barrierRelease g = (List.range 8).foldl (State.barrierStep g) s := rfl

theorem State.foldl_barrierStep_idle {g : Nat} {l : List Nat} (h : ∀ j ∈ l, (s.mspx (8 * g + j)).wait = none) :
    l.foldl (State.barrierStep g) s = s := by
  induction l with
  | nil => rfl
  | cons a l ih =>
    have ha : State.barrierStep g s a = s := by simp [State.barrierStep, h a (List.mem_cons_self ..)]
    rw [List.foldl_cons, ha, ih fun j hj => h j (List.mem_cons_of_mem _ hj)]

section

variable {g i : Nat} {x : MspWait}

theorem State.barrierRelease_one (hi : i < 8) (hx : (s.mspx (8 * g + i)).wait = some x) (hk : x.kind = 2)
    (hothers : ∀ j, j < 8 → j ≠ i → (s.mspx (8 * g + j)).wait = none) : s.barrierRelease g = s.mspWaitOver (8 * g + i) x := by
  obtain ⟨l, r, hlr⟩ := List.append_of_mem (List.mem_range.mpr hi)
  have hnodup : (l ++ i :: r).Nodup := hlr ▸ List.nodup_range
  have hlt : ∀ j ∈ l ++ i :: r, j < 8 := fun j hj => List.mem_range.mp (hlr ▸ hj)
  obtain ⟨-, hr, hdisj⟩ := List.nodup_append.mp hnodup
  have hbefore : ∀ j ∈ l, (s.mspx (8 * g + j)).wait = none := fun j hj =>
    hothers j (hlt j (List.mem_append_left _ hj)) (hdisj j hj i (List.mem_cons_self ..))
  have hstep : State.barrierStep g s i = s.mspWaitOver (8 * g + i) x := by simp [State.barrierStep, hx, hk]
  have hafter : ∀ j ∈ r, ((s.mspWaitOver (8 * g + i) x).mspx (8 * g + j)).wait = none := fun j hj => by
    have hji : j ≠ i := fun e => (List.nodup_cons.mp hr).1 (e ▸ hj)
    rw [s.mspWaitOver_solo _ x (8 * g + j) (by omega)]
    exact hothers j (hlt j (List.mem_append_right _ (List.mem_cons_of_mem _ hj))) hji
  rw [State.barrierRelease_eq, hlr, List.foldl_append, State.foldl_barrierStep_idle hbefore, List.foldl_cons, hstep, State.foldl_barrierStep_idle hafter]

/-- A barrier at which one member waits is met where no other member runs. -/
theorem State.barrierMet_one (hi : i < 8) (hx : (s.mspx (8 * g + i)).wait = some x) (hk : x.kind = 2)
    (hothers : ∀ j, j < 8 → j ≠ i → (s.mspx (8 * g + j)).wait = none) :
    s.barrierMet g = true ↔ ∀ j, j < 8 → j ≠ i → nbit (s.getR Reg.MSP_GRP_BAR_MASK (8 * g)) j = true →
      s.getR Reg.MSP_STAT_STATE (8 * g + j) ≠ 5 := by
  unfold State.barrierMet
  rw [List.all_eq_true]
  refine ⟨fun h j hj hji hmask => ?_, fun h j hj => ?_⟩
  · simpa [hmask, hothers j hj hji] using h j (List.mem_range.mpr hj)
  · by_cases hji : j = i
    · subst hji
      simp [hx, hk]
    · by_cases hmask : nbit (s.getR Reg.MSP_GRP_BAR_MASK (8 * g)) j = true
      · simp [h j (List.mem_range.mp hj) hji hmask]
      · simp [hmask]

end

/-! ### SEND (R453) -/

theorem exec_mspSend_none {m : Fin 128} (h : s.mspWord m = none) : exec (.mspSend m) s = .next s := by
  change execMspSend m s = _
  simp only [execMspSend, h]

theorem exec_mspSend_other {m : Fin 128} {w : Nat} {p : Bool} (h : s.mspWord m = some ((w, p), t)) (hop : mspOp w ≠ 0x08) :
    exec (.mspSend m) s = .next s := by
  change execMspSend m s = _
  simp only [execMspSend, h, ne_eq, hop, not_false_iff, if_true]

theorem exec_mspSend_poisoned {m : Fin 128} {w : Nat} (h : s.mspWord m = some ((w, true), t)) (hop : mspOp w = 0x08) :
    exec (.mspSend m) s = .next (t.mspExc m 7) := by
  change execMspSend m s = _
  simp only [execMspSend, h]
  exact (if_neg (by simp [hop])).trans (if_pos trivial)

/-- No length or channel is refused. -/
theorem sendFits {size : Nat} {en : Bool} (hlo : 1 ≤ size) (hhi : size ≤ 1980) (hen : en = true) : ¬ (size = 0 ∨ 1980 < size ∨ en = false) := by
  rintro (h | h | h)
  · omega
  · omega
  · exact Bool.eq_false_iff.mp h hen

/-- A SEND's word that is not poisoned: what its operands decide. -/
theorem exec_mspSend_word {m : Fin 128} {w : Nat} (h : s.mspWord m = some ((w, false), t)) (hop : mspOp w = 0x08) :
    exec (.mspSend m) s = if t.dPois m (fld w 22 4) then .next (t.mspExc m 5)
      else if t.mspD m (fld w 22 4) = 0 ∨ 1980 < t.mspD m (fld w 22 4) ∨ t.flag Reg.MSP_CH_CFG_EN (m.val * 4 + fld w 16 2) = false then .next (t.mspExc m 4)
      else if t.pPois m (fld w 19 3) then .next (t.mspExc m 6)
      else if 2 ≤ (Map.get [] (t.mspx m).queues (fld w 16 2)).length then .next (s.modMspx m (fun k => { k with stall := some (k.stall.getD s.clockNow) }))
      else .next ((((t.wrapAdd Reg.MSP_SENDS (m.val / 8 * 8) 1).modMspx m (fun k => { k with
          queues := Map.set [] k.queues (fld w 16 2) (Map.get [] (t.mspx m).queues (fld w 16 2)
            ++ [⟨t.getR Reg.MSP_SENDS (m.val / 8 * 8), t.mspD m (fld w 22 4), t.mspP m (fld w 19 3) / 2, nbit w 18⟩]), stall := none })).setR
        Reg.MSP_CH_STAT_PEND (m.val * 4 + fld w 16 2) 1).mspDone m (1 + (((s.mspx m).stall.map s.cyclesSince).getD 0) + t.mspStall m [fld w 19 3] [])) := by
  change execMspSend m s = _
  simp only [execMspSend, h]
  exact (if_neg (by simp [hop])).trans (if_neg Bool.false_ne_true)

/-! ### The instructions whose word is not poisoned -/

section

variable {m : Fin 128} {w : Nat}

theorem exec_mspNop_runs (h : s.mspWord m = some ((w, false), t)) (hop : mspOp w = 0x00) : exec (.mspNop m) s = .next (t.mspDone m 1) := by
  refine (State.mspIns_runs h (decide_eq_true hop)).trans (congrArg _ ?_)
  simp only [List.any_nil, Bool.false_eq_true, if_false, State.mspStall_nil]

theorem exec_mspHalt_runs (h : s.mspWord m = some ((w, false), t)) (hop : mspOp w = 0x01) :
    exec (.mspHalt m) s = .next (((((t.mspCycles m 1).mspLeave m 2).setR Reg.MSP_HCODE_CODE m (w % 2 ^ 16)).setR Reg.MSP_PC_PC m
      (s.getR Reg.MSP_PC_PC m + 1)).raise (mspEp (m / 8)) 0x0802 0 (mspDetail m 0 (s.getR Reg.MSP_PC_PC m) (w % 2 ^ 16))) := by
  refine (State.mspIns_runs h (decide_eq_true hop)).trans (congrArg _ ?_)
  simp only [fld_low]

theorem exec_mspBr_runs (h : s.mspWord m = some ((w, false), t)) (hop : mspOp w = 0x02) :
    exec (.mspBr m) s = .next (if t.mspCond m (w / 2 ^ 22 % 16) then t.mspTake m (w % 2 ^ 14) else t.mspDone m 1) := by
  refine (State.mspIns_runs h (decide_eq_true hop)).trans (congrArg _ ?_)
  simp only [fld_low]
  rfl

theorem exec_mspCall_full (h : s.mspWord m = some ((w, false), t)) (hop : mspOp w = 0x03) (hl : 4 ≤ (t.mspx m).stack.length) :
    exec (.mspCall m) s = .next (t.mspExc m 3) :=
  (State.mspIns_runs h (decide_eq_true hop)).trans (congrArg _ (if_pos hl))

theorem exec_mspCall_room (h : s.mspWord m = some ((w, false), t)) (hop : mspOp w = 0x03) (hl : (t.mspx m).stack.length < 4) :
    exec (.mspCall m) s = .next (((t.modMspx m (fun k => { k with stack := (t.getR Reg.MSP_PC_PC m + 1) % 16384 :: (t.mspx m).stack })).setR
      Reg.MSP_STAT_DEPTH m ((t.mspx m).stack.length + 1)).mspJump m (w % 2 ^ 14)) := by
  refine (State.mspIns_runs h (decide_eq_true hop)).trans (congrArg _ ((if_neg (by omega)).trans ?_))
  simp only [fld_low]

theorem exec_mspRet_empty (h : s.mspWord m = some ((w, false), t)) (hop : mspOp w = 0x04) (hl : (t.mspx m).stack = []) :
    exec (.mspRet m) s = .next (t.mspExc m 3) := by
  refine (State.mspIns_runs h (decide_eq_true hop)).trans (congrArg _ ?_)
  simp only [hl]

theorem exec_mspRet_pops {a : Nat} {rest : List Nat} (h : s.mspWord m = some ((w, false), t)) (hop : mspOp w = 0x04)
    (hl : (t.mspx m).stack = a :: rest) :
    exec (.mspRet m) s = .next (((t.modMspx m (fun k => { k with stack := rest })).setR Reg.MSP_STAT_DEPTH m rest.length).mspJump m a) := by
  refine (State.mspIns_runs h (decide_eq_true hop)).trans (congrArg _ ?_)
  simp only [hl]

theorem exec_mspBdnz_bad (h : s.mspWord m = some ((w, false), t)) (hop : mspOp w = 0x05) (hd : t.dPois m (w / 2 ^ 22 % 16) = true) :
    exec (.mspBdnz m) s = .next (t.mspExc m 5) :=
  (State.mspIns_runs h (decide_eq_true hop)).trans (congrArg _ (if_pos hd))

/-- Counted down from 1, the register is left 0 and the branch is not taken. -/
theorem exec_mspBdnz_counts (h : s.mspWord m = some ((w, false), t)) (hop : mspOp w = 0x05) (hd : t.dPois m (w / 2 ^ 22 % 16) = false) :
    exec (.mspBdnz m) s = .next (if t.mspD m (w / 2 ^ 22 % 16) = 0 then t.mspDone m 1
      else if t.mspD m (w / 2 ^ 22 % 16) = 1 then (t.setD m (w / 2 ^ 22 % 16) 0).mspDone m 1
      else (t.setD m (w / 2 ^ 22 % 16) (t.mspD m (w / 2 ^ 22 % 16) - 1)).mspTake m (w % 2 ^ 14)) := by
  have hfld : fld w 22 4 = w / 2 ^ 22 % 16 := rfl
  refine (State.mspIns_runs h (decide_eq_true hop)).trans (congrArg _ ?_)
  simp only [fld_low, hfld, hd, Bool.false_eq_true, if_false]
  by_cases h1 : t.mspD m (w / 2 ^ 22 % 16) = 1
  · simp only [h1, if_true]
  · simp only [h1, if_false]

/-- The word that a REPEAT keeps: from the words held, else fetched. -/
def State.repeatNext (t : State) (m : Nat) : (Nat × Bool) × State :=
  match (t.mspx m).cached (t.getR Reg.MSP_PC_PC m + 1) with
  | some x => (x, t)
  | none => t.mspFetch m (t.getR Reg.MSP_PC_PC m + 1)

theorem exec_mspRepeat_bad (h : s.mspWord m = some ((w, false), t)) (hop : mspOp w = 0x06) (hr : nbit w 16 = true)
    (hd : t.dPois m (w / 2 ^ 22 % 16) = true) : exec (.mspRepeat m) s = .next (t.mspExc m 5) :=
  (State.mspIns_runs h (decide_eq_true hop)).trans (congrArg _ (if_pos (Bool.and_eq_true_iff.mpr ⟨hr, hd⟩)))

theorem exec_mspRepeat_keeps (h : s.mspWord m = some ((w, false), t)) (hop : mspOp w = 0x06)
    (hd : nbit w 16 = false ∨ t.dPois m (w / 2 ^ 22 % 16) = false) :
    exec (.mspRepeat m) s = .next (if (t.repeatNext m).1.2 = false ∧ notRepeatable (mspOp (t.repeatNext m).1.1) = true
      then (t.repeatNext m).2.mspExc m 2
      else (((t.repeatNext m).2.setR Reg.MSP_RC_V m ((if nbit w 16 then t.mspD m (w / 2 ^ 22 % 16) % 2 ^ 16 else w % 2 ^ 16) + 1)).mspDone m 1).modMspx m
        (fun k => { k with rep := some (t.repeatNext m).1 })) := by
  have hgood : ¬ (nbit w 16 && t.dPois m (fld w 22 4)) = true := Bool.eq_false_iff.mp (Bool.and_eq_false_iff.mpr hd)
  refine (State.mspIns_runs h (decide_eq_true hop)).trans (congrArg _ ((if_neg hgood).trans ?_))
  simp only [fld_low, Bool.and_eq_true, Bool.not_eq_true']
  rfl

/-! ### The waits (R459, R460) -/

/-- What a WAIT at hand waits for. -/
def State.waitOf (t : State) (m k w : Nat) : MspWait :=
  ⟨k, w / 2 ^ 20 % 16, t.mspD m (w / 2 ^ 20 % 16 / 2 * 2) + t.mspD m (w / 2 ^ 20 % 16 / 2 * 2 + 1) * 2 ^ 32, t.clockNow⟩

/-- The processor waits. -/
def State.waiting (t : State) (m : Nat) (x : MspWait) : State := (t.modMspx m (fun k => { k with wait := some x })).setR Reg.MSP_STAT_WAITING m 1

/-- A WAIT that is not at a barrier, and whose pair is not poisoned where it counts. -/
theorem State.mspWaitIns_runs {k : Nat} (lag : Nat) (h : s.mspWord m = some ((w, false), t)) (hk : waitKind k w = true) (h2 : k ≠ 2)
    (hpair : k = 1 → t.dPois m (w / 2 ^ 20 % 16 / 2 * 2) = false ∧ t.dPois m (w / 2 ^ 20 % 16 / 2 * 2 + 1) = false) :
    s.mspWaitIns m k lag = .next (if t.mspWaitHolds m lag (t.waitOf m k w) then t.mspDone m 1 else t.waiting m (t.waitOf m k w)) := by
  have hgood : ¬ (decide (k = 1) && (t.dPois m (fld w 20 4 / 2 * 2) || t.dPois m (fld w 20 4 / 2 * 2 + 1))) = true := by
    rw [Bool.and_eq_true_iff, Bool.or_eq_true, decide_eq_true_eq]
    rintro ⟨hk1, hp⟩
    obtain ⟨hlo, hhi⟩ := hpair hk1
    exact hp.elim (Bool.eq_false_iff.mp hlo) (Bool.eq_false_iff.mp hhi)
  exact (State.mspIns_runs h hk).trans (congrArg _ ((if_neg hgood).trans (if_neg h2)))

theorem exec_mspWaitTime_bad {lag : Fin 2561} (h : s.mspWord m = some ((w, false), t)) (hk : waitKind 1 w = true)
    (hp : t.dPois m (w / 2 ^ 20 % 16 / 2 * 2) = true ∨ t.dPois m (w / 2 ^ 20 % 16 / 2 * 2 + 1) = true) :
    exec (.mspWaitTime m lag) s = .next (t.mspExc m 5) :=
  (State.mspIns_runs h hk).trans (congrArg _ (if_pos (Bool.or_eq_true_iff.mpr hp)))

theorem exec_mspWaitBarrier_outside (h : s.mspWord m = some ((w, false), t)) (hk : waitKind 2 w = true)
    (hb : nbit (t.getR Reg.MSP_GRP_BAR_MASK (m.val / 8 * 8)) (m.val % 8) = false) : exec (.mspWaitBarrier m) s = .next (t.mspDone m 1) :=
  (State.mspIns_runs h hk).trans (congrArg _ (if_pos (congrArg not hb)))

theorem exec_mspWaitBarrier_member (h : s.mspWord m = some ((w, false), t)) (hk : waitKind 2 w = true)
    (hb : nbit (t.getR Reg.MSP_GRP_BAR_MASK (m.val / 8 * 8)) (m.val % 8) = true) :
    exec (.mspWaitBarrier m) s = .next (if (t.waiting m (t.waitOf m 2 w)).barrierMet (m.val / 8)
      then (t.waiting m (t.waitOf m 2 w)).barrierRelease (m.val / 8) else t.waiting m (t.waitOf m 2 w)) :=
  (State.mspIns_runs h hk).trans (congrArg _ (if_neg (Bool.eq_false_iff.mp (congrArg not hb))))

end

section

variable {x : MspWait}

theorem State.mspWaitHolds_inbox (s : State) (m lag : Nat) (hk : x.kind = 0) :
    s.mspWaitHolds m lag x = decide (s.getR Reg.MSP_IBX_PTR_WP (m / 8 * 128 + x.arg) ≠ s.getR Reg.MSP_IBX_PTR_RP (m / 8 * 128 + x.arg)) := if_pos hk

theorem State.mspWaitHolds_time (s : State) (m lag : Nat) (hk : x.kind = 1) : s.mspWaitHolds m lag x
    = (!s.flag Reg.T_UNLOCK 0 && decide ((BitVec.ofNat 64 (s.mspTime lag) - BitVec.ofNat 64 x.target).toNat < 2 ^ 63)) :=
  (if_neg (by omega)).trans (if_pos hk)

theorem State.mspWaitHolds_barrier (s : State) (m lag : Nat) (hk : x.kind = 2) : s.mspWaitHolds m lag x = s.barrierMet (m / 8) :=
  (if_neg (by omega)).trans ((if_neg (by omega)).trans (if_pos hk))

theorem State.mspWaitHolds_channel (s : State) (m lag : Nat) (hk : x.kind = 3) :
    s.mspWaitHolds m lag x = !s.flag Reg.MSP_CH_STAT_PEND (m * 4 + x.arg % 4) :=
  (if_neg (by omega)).trans ((if_neg (by omega)).trans (if_neg (by omega)))

variable {m : Fin 128} {lag : Fin 2561}

theorem exec_mspWaitEnd_none (h : (s.mspx m).wait = none) : exec (.mspWaitEnd m lag) s = .next s := by
  change execMspWaitEnd m lag s = _
  simp only [execMspWaitEnd, h]

theorem exec_mspWaitEnd_some (h : (s.mspx m).wait = some x) : exec (.mspWaitEnd m lag) s
    = s.when (decide (s.getR Reg.MSP_STAT_STATE m = 5) && s.mspWaitHolds m lag x) (if x.kind = 2 then s.barrierRelease (m.val / 8) else s.mspWaitOver m x) := by
  change execMspWaitEnd m lag s = _
  simp only [execMspWaitEnd, h]

end

/-- Settles O43. Each instruction's branch by its operands; a barrier that one member waits at is released by walking its group, in which no other
processor's parts change. -/
theorem mspControlCommandsComplete : Obligations.MspControlCommandsComplete := by
  unfold Obligations.MspControlCommandsComplete
  refine ⟨?noWord, ?noWait, ?poisoned, ?nopHaltBr, ?branch, ?callRet, ?callRetFail, ?bdnz, ?repeats, ?iteration, ?waitInbox, ?waitTimePoisoned,
    ?waitTime, ?barrierNonMember, ?barrierMember, ?barrierOne, ?waitEnd, ?waitsFor, ?send, ?sendFails⟩
  case noWord =>
    intro s t m w p
    refine ⟨fun h => ?_, ?_, ?_, ?_, ?_, ?_, ?_, ?_, exec_mspSend_other⟩
    · have hins := fun ok f => State.mspIns_none (ok := ok) (f := f) h
      exact ⟨hins _ _, hins _ _, hins _ _, hins _ _, hins _ _, hins _ _, hins _ _, exec_mspSend_none h⟩
    all_goals exact fun h hop => State.mspIns_other h (decide_eq_false hop)
  case noWait =>
    intro s t m lag w p
    refine ⟨fun h => ?_, ?_, ?_, ?_, ?_⟩
    · have hins := fun ok f => State.mspIns_none (ok := ok) (f := f) h
      exact ⟨hins _ _, hins _ _, hins _ _, hins _ _⟩
    all_goals exact fun h hop => State.mspIns_other h (waitKind_false hop)
  case poisoned =>
    intro s t m w lag h
    have hins := fun ok f => State.mspIns_poisoned (ok := ok) (f := f) h
    have hop := fun {c : Nat} (e : mspOp w = c) => decide_eq_true e
    refine ⟨?_, ?_, ?_, ?_, ?_, ?_, ?_, exec_mspSend_poisoned h, ?_, ?_, ?_, ?_⟩
    iterate 7 exact fun e => hins _ _ (hop e)
    all_goals exact fun e hk => hins _ _ (waitKind_true e hk)
  case nopHaltBr => exact fun s t m w h => ⟨exec_mspNop_runs h, exec_mspHalt_runs h, exec_mspBr_runs h, exec_mspBdnz_bad h⟩
  case branch =>
    intro s m tgt h
    obtain ⟨htakePc, hstack, htake⟩ := s.mspTake_reads (m := m) h
    obtain ⟨hjumpPc, hcache, hjump⟩ := s.mspJump_reads (m := m) h
    exact ⟨htakePc, hstack, htake.2.1 .mem (by simp), htake, hjumpPc, hcache, hjump⟩
  case callRet => exact fun s t m w h => ⟨exec_mspCall_room h, fun a rest => exec_mspRet_pops h⟩
  case callRetFail => exact fun s t m w h => ⟨exec_mspCall_full h, exec_mspRet_empty h⟩
  case bdnz => exact fun s t m w h hop hd => exec_mspBdnz_counts h hop hd
  case repeats =>
    rintro s t m w n nx h hop rfl rfl
    exact ⟨exec_mspRepeat_bad h hop, exec_mspRepeat_keeps h hop⟩
  case iteration => exact fun s m n x hrep hrc => State.mspDone_iterates_reads n hrep hrc
  case waitInbox =>
    rintro s t _ m w k h ⟨hop, hk⟩ rfl
    have hkind : waitKind k w = true := waitKind_true hop hk
    refine ⟨fun h0 => ?_, fun h3 => ?_⟩
    · subst h0
      refine (State.mspWaitIns_runs 0 h hkind (by decide) (by simp)).trans (congrArg _ ?_)
      rw [State.mspWaitHolds_inbox _ _ _ rfl]
      simp only [decide_eq_true_eq]
      rfl
    · subst h3
      refine (State.mspWaitIns_runs 0 h hkind (by decide) (by simp)).trans (congrArg _ ?_)
      have harg : (t.waitOf m 3 w).arg % 4 = w / 2 ^ 20 % 4 := Nat.mod_mod_of_dvd _ (by decide)
      rw [State.mspWaitHolds_channel _ _ _ rfl, harg]
      cases t.flag Reg.MSP_CH_STAT_PEND (m.val * 4 + w / 2 ^ 20 % 4)
      · rfl
      · rfl
  case waitTimePoisoned => exact fun s t m lag w h ⟨hop, hk⟩ hp => exec_mspWaitTime_bad h (waitKind_true hop hk) hp
  case waitTime =>
    rintro s t m lag w tgt h ⟨hop, hk⟩ hpair rfl
    have hrun := State.mspWaitIns_runs lag h (waitKind_true hop hk) (by decide) (fun _ => hpair)
    rw [State.mspWaitHolds_time _ _ _ rfl] at hrun
    refine ⟨fun hu hle => ?_, fun hno => ?_⟩
    · exact hrun.trans (congrArg _ (if_pos (Bool.and_eq_true_iff.mpr ⟨congrArg not hu, decide_eq_true hle⟩)))
    · exact hrun.trans (congrArg _ (if_neg (Bool.eq_false_iff.mp
        (Bool.and_eq_false_iff.mpr (hno.imp (congrArg not) fun hlt => decide_eq_false (Nat.not_lt.mpr hlt))))))
  case barrierNonMember => exact fun s t m w h ⟨hop, hk⟩ hb => exec_mspWaitBarrier_outside h (waitKind_true hop hk) hb
  case barrierMember =>
    rintro s t _ m w h ⟨hop, hk⟩ hb rfl
    have hrun := exec_mspWaitBarrier_member h (waitKind_true hop hk) hb
    exact ⟨fun hmet => hrun.trans (congrArg _ (if_neg (Bool.eq_false_iff.mp hmet))), fun hmet => hrun.trans (congrArg _ (if_pos hmet))⟩
  case barrierOne => exact fun s g i x hi ⟨hx, hk⟩ hothers => ⟨State.barrierMet_one hi hx hk hothers, State.barrierRelease_one hi hx hk hothers⟩
  case waitEnd =>
    intro s m lag x
    refine ⟨exec_mspWaitEnd_none, fun hx hno => ?_, fun hx hrun hholds => ?_⟩
    · exact (exec_mspWaitEnd_some hx).trans (State.when_false _ _ (Bool.and_eq_false_iff.mpr (hno.imp_left decide_eq_false)))
    · exact (exec_mspWaitEnd_some hx).trans (State.when_true _ _ (Bool.and_eq_true_iff.mpr ⟨decide_eq_true hrun, hholds⟩))
  case waitsFor =>
    exact fun s m lag x => ⟨s.mspWaitHolds_inbox m lag, s.mspWaitHolds_time m lag, s.mspWaitHolds_barrier m lag, s.mspWaitHolds_channel m lag, rfl⟩
  case send =>
    rintro s t m w size q h hop ⟨hd, hp⟩ ⟨rfl, hlo, hhi⟩ hen rfl
    have hrun := (exec_mspSend_word h hop).trans
      ((if_neg (Bool.eq_false_iff.mp hd)).trans ((if_neg (sendFits hlo hhi hen)).trans (if_neg (Bool.eq_false_iff.mp hp))))
    exact ⟨fun hfull => hrun.trans (if_pos hfull), fun hroom => hrun.trans (if_neg (Nat.not_le.mpr hroom))⟩
  case sendFails =>
    intro s t m w h hop
    have hrun := exec_mspSend_word h hop
    refine ⟨fun hd => hrun.trans (if_pos hd), fun hd hbad => ?_, fun hd h0 hhi hen hp => ?_⟩
    · exact hrun.trans ((if_neg (Bool.eq_false_iff.mp hd)).trans (if_pos hbad))
    · exact hrun.trans ((if_neg (Bool.eq_false_iff.mp hd)).trans ((if_neg (sendFits (Nat.pos_of_ne_zero h0) hhi hen)).trans (if_pos hp)))

end Sys2Proof.Machine
end

section
/-!
PROOF. The hard serial ports (R137, R138): each command by the length of the FIFO or the mode that it looks at, and what a change of a port shows of it in
its counts.
-/

namespace Sys2Proof.Machine

variable {ps : List Part} {ks : List Nat} {s t : State}

theorem Leaves.irqLevel (h : Leaves ps ks s t) (n : Nat) (v : Bool) (hl : Reg.PLIC_LEVEL.key n ∈ ks) (hp : Reg.PLIC_PEND.key n ∈ ks) :
    Leaves ps ks s (t.irqLevel n v) :=
  .ite ((h.setR _ _ _ hl).setR _ _ _ hp) (h.setR _ _ _ hl)

/-- A port's line writes only the interrupt controller's words. -/
theorem State.spLine_within (s : State) (i : Nat) : Within [] (fun f => f ∈ [Reg.PLIC_LEVEL, Reg.PLIC_PEND]) s (s.spLine i) :=
  (Within.refl s).irqLevel _ _ (by simp) (by simp)

/-- A changed port with its counts, before its line. -/
def State.spSet (s : State) (i : Nat) (p : SerialPort) : State :=
  (((s.modFab (fun b => { b with sps := Map.set sp0 b.sps i p })).setR Reg.FAB_SP_STAT_RXCNT i p.rx.length).setR
    Reg.FAB_SP_STAT_TXCNT i p.tx.length).setR Reg.FAB_SP_STAT_BUSY i (bit (spDrives p.mode && !p.tx.isEmpty))

theorem State.modSp_eq (s : State) (i : Nat) (f : SerialPort → SerialPort) : s.modSp i f = (s.spSet i (f (s.sp i))).spLine i := rfl

theorem State.modSp_reads (s : State) (i : Nat) (f : SerialPort → SerialPort) :
    (s.modSp i f).sp i = f (s.sp i) ∧ (s.modSp i f).getR Reg.FAB_SP_STAT_RXCNT i = Reg.FAB_SP_STAT_RXCNT.norm (f (s.sp i)).rx.length
      ∧ (s.modSp i f).getR Reg.FAB_SP_STAT_TXCNT i = Reg.FAB_SP_STAT_TXCNT.norm (f (s.sp i)).tx.length := by
  rw [State.modSp_eq]
  have hline := State.spLine_within (s.spSet i (f (s.sp i))) i
  refine ⟨?_, ?_, ?_⟩
  · rw [State.sp, show (State.spLine _ i).fab = _ from hline.part_eq .fab (by decide)]
    exact Map.get_set_self ..
  · rw [hline.getR_eq _ _ (by decide)]
    simp (disch := decide) only [State.spSet, State.getR_setR_id, State.getR_setR_self]
  · rw [hline.getR_eq _ _ (by decide)]
    simp (disch := decide) only [State.spSet, State.getR_setR_id, State.getR_setR_self]

theorem State.modSp_leaves (s : State) (i : Nat) (f : SerialPort → SerialPort) : Leaves [.fab] [Reg.FAB_SP_STAT_RXCNT.key i,
    Reg.FAB_SP_STAT_TXCNT.key i, Reg.FAB_SP_STAT_BUSY.key i, Reg.PLIC_LEVEL.key (448 + i), Reg.PLIC_PEND.key (448 + i)] s (s.modSp i f) :=
  ((((Leaves.refl.modFab _ (by simp)).setR _ _ _ (by simp)).setR _ _ _ (by simp)).setR _ _ _ (by simp)).irqLevel _ _ (by simp) (by simp)

/-- Settles O20, by the branch of each command: a full or an empty FIFO, a mode, a line error, BUSY. -/
theorem serialPortCommandsComplete : Obligations.SerialPortCommandsComplete := by
  unfold Obligations.SerialPortCommandsComplete
  refine ⟨?push, ?pop, ?popEmpty, ?received, ?sent, fun s fd p => rfl, ?route, ?changed⟩
  case push =>
    intro s fd p byte
    by_cases h : (s.sp (per8 fd p)).tx.length < 64
    · exact (if_neg (Nat.not_le.mpr h)).trans (congrArg _ (if_pos h).symm)
    · exact (if_pos (Nat.not_lt.mp h)).trans (congrArg _ (if_neg h).symm)
  case pop =>
    intro s fd p b rest h
    change execSpDataPop fd p true s = _ ∧ execSpDataPop fd p false s = _
    simp [execSpDataPop, h]
  case popEmpty =>
    intro s fd p peek h
    change execSpDataPop fd p peek s = _
    simp [execSpDataPop, h]
  case received =>
    intro s fd p byte hm
    exact ⟨(if_neg hm).trans (if_pos rfl), (if_neg hm).trans ((if_neg Bool.false_ne_true).trans (apply_ite Host.Outcome.next _ _ _).symm)⟩
  case sent =>
    intro s fd p b rest h hm
    change execSpByteSent fd p false s = _ ∧ execSpByteSent fd p true s = _
    simp [execSpByteSent, h, hm]
  case route =>
    intro s fd p
    change s.when (!s.flag Reg.FAB_SP_STAT_BUSY (per8 fd p)) _ = _
    cases s.flag Reg.FAB_SP_STAT_BUSY (per8 fd p)
    · rfl
    · rfl
  case changed =>
    intro s i f
    obtain ⟨hsp, hrx, htx⟩ := s.modSp_reads i f
    exact ⟨_, rfl, hsp, hrx, htx, s.modSp_leaves i f⟩

end Sys2Proof.Machine
end

section
/-!
PROOF. The user ring oscillators (R126 to R128) and the user NVM (R130 to R136): a trim by its STATE and window, the NVM's port by the clock of its region, its
buffer by the entry that is free.
-/

namespace Sys2Proof.Machine

variable {s : State}

/-! ### COUNT (R128) -/

theorem State.roBring_stopped {i : Nat} (h : s.flag Reg.FAB_RO_CTL_EN i = false) : s.roBring i = s.setR Reg.RO_AT i (s.noc.clock % 2 ^ 64) :=
  if_neg (by simp [h])

/-- COUNT of an oscillator that runs comes to a number that is not below the total before. -/
theorem State.roBring_running {i : Nat} (h : s.flag Reg.FAB_RO_CTL_EN i = true) :
    ∃ n, s.getR Reg.RO_TOTAL i ≤ n ∧ (s.roBring i).getR Reg.FAB_RO_COUNT_COUNT i = Reg.FAB_RO_COUNT_COUNT.norm n := by
  unfold State.roBring
  extract_lets x lo hi least total t
  rw [if_pos h]
  exact ⟨total, (le_max_left _ _).trans (Nat.le_add_right _ _), State.getR_setR_self ..⟩

/-! ### The user NVM -/

theorem State.nvmRead_buffered {fd a : Nat} {d : BitVec 64} (u : Option Upset) (h : nvmBuffered (s.nvm fd) a = some d) :
    s.nvmRead fd a u = ((d, false), s) := by
  simp [State.nvmRead, h]

theorem State.nvmRead_stored {fd a : Nat} (h : nvmBuffered (s.nvm fd) a = none) : s.nvmRead fd a none
    = ((nvmData (s.nvmWord fd a), nvmBad (s.nvmWord fd a)), if nvmBad (s.nvmWord fd a)
      then (s.putNvmWord fd a (s.nvmWord fd a)).raise (fdWinEp fd) 0x0122 4 (a + (4 + fd) * 2 ^ 16) else s.putNvmWord fd a (s.nvmWord fd a)) := by
  unfold State.nvmRead
  rw [h]
  rfl

theorem execNvmReadComplete_ready {fd : Fin 8} {a : Nat} {rest : List (Nat × Bool)} (u : Option Upset)
    (hc : s.regionClocked (nvmRegion fd) = true) (h : (s.nvm fd).reads = (a, false) :: rest) : execNvmReadComplete fd u s
    = .next ((s.nvmRead fd a u).2.modNvm fd (fun n => { n with
      reads := rest, valid := true, rdata := (s.nvmRead fd a u).1.1, poison := (s.nvmRead fd a u).1.2 })) := by
  simp only [execNvmReadComplete, h]
  exact s.when_true _ (by rw [hc]; rfl)

theorem execNvmReadComplete_waits {fd : Fin 8} {a : Nat} {rest : List (Nat × Bool)} (u : Option Upset)
    (h : (s.nvm fd).reads = (a, true) :: rest) : execNvmReadComplete fd u s = .next s := by
  simp only [execNvmReadComplete, h]
  exact s.when_false _ rfl

theorem execNvmReadComplete_unclocked {fd : Fin 8} (u : Option Upset) (hc : s.regionClocked (nvmRegion fd) = false) :
    execNvmReadComplete fd u s = .next s := by
  unfold execNvmReadComplete
  split
  · rfl
  · exact s.when_false _ (by simp [hc])

theorem State.nvmFabricWrite_free {fd : Nat} (a : Nat) (data : BitVec 64) (h : (s.nvm fd).buf.length < 4) : s.nvmFabricWrite fd a data
    = if a < min (s.getR Reg.FAB_NVM_WP_BOUND fd) 32768 then (s.setR Reg.FAB_NVM_STAT_WP_HIT fd 1).modNvm fd (fun n => { n with werrDue := true })
      else s.modNvm fd (fun n => { n with buf := n.buf ++ [⟨a, data⟩] }) := by
  rw [State.nvmFabricWrite, if_neg (Nat.not_le.mpr h)]
  simp only [State.nvmProtected, decide_eq_true_eq]

theorem State.nvmStalls_free {fd : Nat} (h : (s.nvm fd).buf.length < 4) (hs : (s.nvm fd).stall = []) : s.nvmStalls fd = false := by
  simp [State.nvmStalls, hs, h]

theorem State.nvmRegEnter_wide {fd byteAddr : Nat} (data : BitVec 64) (h : s.nvmProtected fd (byteAddr / 8 % 32768) = false) :
    s.nvmRegEnter fd byteAddr true data = s.modNvm fd (fun n => { n with buf := n.buf ++ [⟨byteAddr / 8 % 32768, data⟩] }) :=
  if_neg (by simp [h])

theorem State.nvmRegEnter_protected {fd byteAddr : Nat} (wide : Bool) (data : BitVec 64) (h : s.nvmProtected fd (byteAddr / 8 % 32768) = true) :
    s.nvmRegEnter fd byteAddr wide data = s.setR Reg.FAB_NVM_STAT_WP_HIT fd 1 := if_pos h

theorem State.nvmRegWrite_free {fd : Nat} (byteAddr : Nat) (wide : Bool) (data : BitVec 64) (h : s.nvmStalls fd = false) :
    s.nvmRegWrite fd byteAddr wide data = (s.nvmRegEnter fd byteAddr wide data).respond 0 0 := if_neg (by simp [h])

/-- Settles O19: a trim by its STATE, a read of the NVM by what is buffered and stored, a write by the entry that is free and the protection, the lock by the
stage of its sequence. -/
theorem oscillatorAndUserNvmCommandsComplete : Obligations.OscillatorAndUserNvmCommandsComplete := by
  unfold Obligations.OscillatorAndUserNvmCommandsComplete
  refine ⟨?trim, ?trimNot, ?window, ?abort, ?abortNot, fun s fd g freq => rfl, ?abortLate,
    ?count, fun s fd addr h => s.when_true _ h, ?unclocked, ?buffered, ?stored, ?bad,
    fun s fd a rest u h => execNvmReadComplete_waits u h, ?fabricWrite, ?registerWrite, ?registerWriteNot, ?drain, ?lock⟩
  case trim => exact fun s fd g hen hst => s.when_true _ (by simp [hen, hst])
  case trimNot =>
    intro s fd g h
    exact s.when_false _ (by rcases h with h | h <;> simp [h])
  case window =>
    intro s fd g h
    have hrun : ¬ s.getR Reg.FAB_RO_STAT_STATE (per8 fd g) ≠ 1 := not_not.mpr h
    refine ⟨(if_neg hrun).trans (if_pos rfl), (if_neg hrun).trans ((if_neg Bool.false_ne_true).trans ?_)⟩
    by_cases h7 : 7 ≤ s.getR Reg.RO_WIN (per8 fd g)
    · exact (if_pos (Nat.succ_le_succ h7)).trans (congrArg _ (if_pos h7).symm)
    · exact (if_neg (fun h8 => h7 (Nat.le_of_succ_le_succ h8))).trans (congrArg _ (if_neg h7).symm)
  case abort => exact fun s fd g h => if_pos h
  case abortNot =>
    intro s fd g h1 h2
    exact (if_neg h1).trans (s.when_false _ (by rcases h2 with h2 | h2 <;> simp [h2]))
  case abortLate =>
    intro s fd g h2 hc
    exact (if_neg (by rw [h2]; decide)).trans (s.when_true _ (by simp [h2, hc]))
  case count =>
    intro s i
    exact ⟨fun h => by rw [State.roBring_stopped h, State.getR_setR_id _ _ _ _ _ _ (by decide)], State.roBring_running⟩
  case unclocked =>
    exact fun s fd addr data u h => ⟨s.when_false _ h, s.when_false _ h, execNvmReadComplete_unclocked u h⟩
  case buffered =>
    intro s fd a rest d hc hr hb
    exact (execNvmReadComplete_ready none hc hr).trans (by rw [State.nvmRead_buffered none hb])
  case stored =>
    intro s fd a rest hc hr hb hbad
    refine (execNvmReadComplete_ready none hc hr).trans ?_
    rw [State.nvmRead_stored hb, hbad]
    rfl
  case bad =>
    intro s fd a rest hc hr hb hbad
    refine (execNvmReadComplete_ready none hc hr).trans ?_
    rw [State.nvmRead_stored hb, hbad]
    rfl
  case fabricWrite =>
    intro s fd addr data hc hfree
    exact (s.when_true _ hc).trans (congrArg _ (State.nvmFabricWrite_free _ _ hfree))
  case registerWrite =>
    intro s fd byteAddr data hp hfree hstall
    change Host.Outcome.next (s.nvmRegWrite fd byteAddr.toNat true data) = _
    rw [State.nvmRegWrite_free _ _ _ (State.nvmStalls_free hfree hstall), State.nvmRegEnter_wide data hp]
  case registerWriteNot =>
    intro s fd byteAddr wide data
    refine ⟨fun hs hp => ?_, fun hs => congrArg Host.Outcome.next (if_pos hs)⟩
    change Host.Outcome.next (s.nvmRegWrite fd byteAddr.toNat wide data) = _
    rw [State.nvmRegWrite_free _ _ _ hs, State.nvmRegEnter_protected _ _ hp]
  case drain =>
    rintro s fd bank w t h rfl
    change execNvmWriteDrain fd bank s = _
    simp only [execNvmWriteDrain, h]
  case lock =>
    intro s fd req
    refine ⟨fun h => (if_neg h).trans rfl, fun h => (if_pos h).trans rfl, ?_⟩
    change Host.Outcome.next (s.keyTimeout (8 + fd)) = _
    simp only [State.keyTimeout, State.keyLate, decide_eq_true_eq, State.keyIdle]

end Sys2Proof.Machine
end

section
/-!
PROOF. RAM blocks and MAC slices (R109 to R124, R140): a command of a region that its clock and WRHOLD let act, and what its reads, writes and edges leave in the
block's words, its stages and the slice's registers.
-/

namespace Sys2Proof.Machine

variable {s t : State}

/-! ### Commands that act, and held ones -/

theorem acts_of {rg : Nat} (hw : s.writesHeld rg = false) (hc : s.regionClocked rg = true) : ¬ (s.writesHeld rg || !s.regionClocked rg) = true := by
  simp [hw, hc]

theorem held_of {rg : Nat} (hw : s.writesHeld rg = true) : (s.writesHeld rg || !s.regionClocked rg) = true := by simp [hw]

/-! ### Words and blocks -/

theorem State.ram_modRam_self (s : State) (n : Nat) (f : RamBlk → RamBlk) : (s.modRam n f).ram n = f (s.ram n) := Map.get_set_self ..

theorem State.ramWord_putRamWord_self (s : State) (n w : Nat) (v : RamWord) : (s.putRamWord n w v).ramWord n w = v := Map.get_set_self ..

theorem State.ramWord_modRam (s : State) (n : Nat) (f : RamBlk → RamBlk) (m w : Nat) : (s.modRam n f).ramWord m w = s.ramWord m w := rfl

theorem State.getR_modRam (s : State) (n : Nat) (f : RamBlk → RamBlk) (g : Field) (i : Nat) : (s.modRam n f).getR g i = s.getR g i := rfl

/-- A write that covers no bit leaves a word that is valid. -/
theorem ramPut_none {v : RamWord} (hv : v.valid = true) (din : Nat × Nat) : ramPut v (0, 0) din = v := by
  obtain ⟨data, nine, mark, valid⟩ := v
  obtain rfl : valid = true := hv
  simp only [ramPut, BitVec.and_zero, BitVec.or_zero, BitVec.not_zero, BitVec.and_allOnes]
  rfl

/-! ### Reads (R111, R113, R116) -/

theorem State.ramSeen_now {n w : Nat} (h : Map.find s.fab.ramOld (n * 1024 + w) = none) : s.ramSeen n w = s.ramWord n w := by
  rw [State.ramSeen, h, Option.getD_none]

theorem State.ramSeen_before {n w : Nat} {old : RamWord} (h : Map.find s.fab.ramOld (n * 1024 + w) = some old) : s.ramSeen n w = old := by
  rw [State.ramSeen, h, Option.getD_some]

theorem ramRead_plain {k : RamBlk} (w addr : Nat) (v : RamWord) (h : k.ecc = false) : ramRead k w addr v = ⟨ramView w addr v, false, false, false⟩ := by
  simp [ramRead, h]

theorem ramRead_single {k : RamBlk} {v : RamWord} {j : Nat} (w addr : Nat) (h : k.ecc = true) (hi : k.invOnCfg = false) (hm : v.mark = some (.single j)) :
    ramRead k w addr v = ⟨(if j < 64 then v.data ^^^ BitVec.ofNat 64 (2 ^ j) else v.data).toNat, true, false, false⟩ := by
  simp [ramRead, h, hi, hm]

/-- A read without an upset, by the word that the port sees and what is found of it. -/
theorem State.ramReads_none {rg : Nat} {b : Fin 4} {port : RamPort} {addr wd : Nat} {o : RamOut} {v : RamWord}
    (hwd : ramWordOf (if port = .a then (s.ram (rg * 4 + b)).widthA else (s.ram (rg * 4 + b)).widthB) addr = wd)
    (hv : s.ramSeen (rg * 4 + b) wd = v)
    (ho : ramRead (s.ram (rg * 4 + b)) (if port = .a then (s.ram (rg * 4 + b)).widthA else (s.ram (rg * 4 + b)).widthB) addr v = o) :
    s.ramReads rg b port addr none = if o.ce || o.ue
      then ((if (Map.find s.fab.ramOld ((rg * 4 + b) * 1024 + wd)).isSome then s else s.putRamWord (rg * 4 + b) wd v).modRam (rg * 4 + b)
        (fun k => ramStage k port o)).ramError rg b port wd o.ue
      else (if (Map.find s.fab.ramOld ((rg * 4 + b) * 1024 + wd)).isSome then s else s.putRamWord (rg * 4 + b) wd v).modRam (rg * 4 + b)
        (fun k => ramStage k port o) := by
  subst hwd hv ho
  rfl

/-! ### Writes (R112 to R115) -/

theorem State.ramStore_writes {w : Nat} {r : RamWrite} {mask : Nat × Nat} (n : Nat) (h : mask ≠ (0, 0)) : s.ramStore n w r mask
    = (s.ramKeep n (ramWordOf w r.addr)).putRamWord n (ramWordOf w r.addr) (ramPut (s.ramWord n (ramWordOf w r.addr)) mask (ramDin w r)) := if_neg h

/-- A write leaves the state but for the words of the fabric. -/
theorem State.ramStore_leaves (s : State) (n w : Nat) (r : RamWrite) (mask : Nat × Nat) : Leaves [.fab] [] s (s.ramStore n w r mask) :=
  .ite .refl ((Leaves.refl.modFab _ (by simp)).modFab _ (by simp))

/-- A write leaves the rest of the fabric, and every other word. -/
theorem State.ramStore_keeps (s : State) (n w : Nat) (r : RamWrite) (mask : Nat × Nat) :
    (s.ramStore n w r mask).fab.cells = s.fab.cells ∧ (s.ramStore n w r mask).fab.ffs = s.fab.ffs ∧ (s.ramStore n w r mask).fab.macs = s.fab.macs
      ∧ ∀ k, k ≠ n * 1024 + ramWordOf w r.addr → Map.find (s.ramStore n w r mask).fab.ramWords k = Map.find s.fab.ramWords k := by
  unfold State.ramStore
  split
  · exact ⟨rfl, rfl, rfl, fun _ _ => rfl⟩
  · exact ⟨rfl, rfl, rfl, fun k hk => Map.find_set_ne _ _ _ hk⟩

theorem State.ramWord_ramStore {w : Nat} {r : RamWrite} {mask : Nat × Nat} (n : Nat) (h : mask ≠ (0, 0)) :
    (s.ramStore n w r mask).ramWord n (ramWordOf w r.addr) = ramPut (s.ramWord n (ramWordOf w r.addr)) mask (ramDin w r) := by
  rw [State.ramStore_writes n h, State.ramWord_putRamWord_self]

/-- A write to a valid word puts its bits there, none where its mask is empty. -/
theorem State.ramWord_ramStore_valid {n w : Nat} {r : RamWrite} (mask : Nat × Nat) (hv : (s.ramWord n (ramWordOf w r.addr)).valid = true) :
    (s.ramStore n w r mask).ramWord n (ramWordOf w r.addr) = ramPut (s.ramWord n (ramWordOf w r.addr)) mask (ramDin w r) := by
  by_cases h : mask = (0, 0)
  · rw [State.ramStore, if_pos h, h, ramPut_none hv]
  · exact State.ramWord_ramStore n h

/-- Port A's first stage after a write of its own (R112). -/
def ramStaged (k : RamBlk) (addr : Nat) (old new : RamWord) : Option RamOut :=
  match k.rdwA with
  | .writeFirst => some ⟨ramView k.widthA addr new, false, false, false⟩
  | .readFirst => some ⟨ramView k.widthA addr old, false, false, false⟩
  | .noChange => k.stA

theorem ramWriteShow_stA (k : RamBlk) (addr : Nat) (old new : RamWord) :
    (ramWriteShow k .a k.rdwA k.widthA addr old new).stA = ramStaged k addr old new := by
  unfold ramWriteShow ramStaged
  cases k.rdwA <;> rfl

/-- A write on port A alone. -/
theorem State.ramWrites_a (s : State) (n : Nat) (a : RamWrite) : s.ramWrites n (some a) none
    = (s.ramStore n (s.ram n).widthA a (ramMask (s.ram n).widthA (s.ram n).ecc a)).modRam n (fun k => ramWriteShow k .a k.rdwA k.widthA a.addr
      (s.ramWord n (ramWordOf k.widthA a.addr))
      ((s.ramStore n (s.ram n).widthA a (ramMask (s.ram n).widthA (s.ram n).ecc a)).ramWord n (ramWordOf k.widthA a.addr))) := rfl

/-- Two writes that overlap in one word (R113): port A's bits stand, port B's mask loses them, and COLL counts. -/
theorem State.ramWrites_overlap {n : Nat} {a c : RamWrite} (hw : ramWordOf (s.ram n).widthA a.addr = ramWordOf (s.ram n).widthB c.addr)
    (hm : ((ramMask (s.ram n).widthA (s.ram n).ecc a).1 &&& (ramMask (s.ram n).widthB (s.ram n).ecc c).1) ≠ 0) :
    ∃ f, s.ramWrites n (some a) (some c) = (((s.ramStore n (s.ram n).widthA a (ramMask (s.ram n).widthA (s.ram n).ecc a)).ramStore n (s.ram n).widthB c
      (maskSub (ramMask (s.ram n).widthB (s.ram n).ecc c).1 (ramMask (s.ram n).widthA (s.ram n).ecc a).1,
      maskSub (ramMask (s.ram n).widthB (s.ram n).ecc c).2 (ramMask (s.ram n).widthA (s.ram n).ecc a).2)).satAdd Reg.FAB_RAM_STAT_COLL n 1).modRam n f := by
  unfold State.ramWrites
  simp only [Option.map_some, Option.getD_some, hw, hm, ne_eq, not_false_eq_true, decide_true, Bool.true_or, Bool.and_self, if_true]
  exact ⟨_, rfl⟩

theorem State.ram_ramStore (s : State) (n w : Nat) (r : RamWrite) (mask : Nat × Nat) (m : Nat) : (s.ramStore n w r mask).ram m = s.ram m := by
  unfold State.ramStore
  split <;> rfl

theorem State.getR_ramStore (s : State) (n w : Nat) (r : RamWrite) (mask : Nat × Nat) (f : Field) (i : Nat) :
    (s.ramStore n w r mask).getR f i = s.getR f i := by
  unfold State.ramStore
  split <;> rfl

/-! ### MAC slices (R122 to R124) -/

theorem macEdge_clear {i : MacIn} (m : Mac) (casi : BitVec 64) (h : i.clr = true) :
    macEdge m i casi = { mac0 with pre := m.pre, sat := m.sat, prevAcc := m.acc, edges := m.edges + 1 } := if_pos h

theorem macEdge_hold {i : MacIn} (m : Mac) (casi : BitVec 64) (h : i.clr = false ∧ i.en = false) :
    macEdge m i casi = { m with prevAcc := m.acc, edges := m.edges + 1 } := (if_neg (by simp [h.1])).trans (if_pos (by simp [h.2]))

theorem macEdge_enabled {i : MacIn} (m : Mac) (casi : BitVec 64) (h : i.clr = false ∧ i.en = true) : macEdge m i casi = { m with
      ma := i.ma, mp := i.mp, mb := i.mb, ad := i.ad, op := i.op
      m := BitVec.ofInt 64 (macPre m * m.mb.toInt)
      mop := m.op
      acc := macFit m.sat (m.m.toInt + macAdd m.mop m.acc m.ad casi)
      ovf := macOver (m.m.toInt + macAdd m.mop m.acc m.ad casi)
      prevAcc := m.acc
      edges := m.edges + 1 } := (if_neg (by simp [h.1])).trans (if_neg (by simp [h.2]))

/-- A slice put into the fabric. -/
def State.putMac (s : State) (n : Nat) (m : Mac) : State := s.modFab (fun f => { f with macs := Map.set mac0 f.macs n m })

theorem State.mac_putMac_self (s : State) (n : Nat) (m : Mac) : (s.putMac n m).mac n = m := Map.get_set_self ..

theorem exec_macUpdate_acts {fd : Fin 8} {r : Fin 384} (slice : Fin 8) (i : MacIn) (hw : s.writesHeld (rgn fd r) = false)
    (hc : s.regionClocked (rgn fd r) = true) : exec (.macUpdate fd r slice i) s
    = .next (s.putMac (rgn fd r * 8 + slice) (macEdge (s.mac (rgn fd r * 8 + slice)) i (s.casi (rgn fd r) slice))) := if_neg (acts_of hw hc)

/-- Settles O18: a read by the word that its port sees, a write by its masks, an edge of a slice by CLR and EN. -/
theorem fabricRamAndMacCommandsComplete : Obligations.FabricRamAndMacCommandsComplete := by
  unfold Obligations.FabricRamAndMacCommandsComplete
  refine ⟨fun s fd r b port addr u hw hc => ?read, ?plain, ?before, ?single, ?writeA, ?overlap, fun s fd r b pa pb hw hc => ?write, ?clear, ?enabled, ?hold,
    fun s fd r b port addr u pa pb slice i hw => ?held⟩
  case read => exact if_neg (acts_of hw hc)
  case plain =>
    intro s fd r b port addr hw hc hecc hold
    refine (if_neg (acts_of hw hc)).trans (congrArg _ ?_)
    rw [State.ramReads_none rfl (State.ramSeen_now hold) (ramRead_plain _ _ _ hecc), hold]
    rfl
  case before =>
    intro s fd r b port addr old hw hc hecc hold
    refine (if_neg (acts_of hw hc)).trans (congrArg _ ?_)
    rw [State.ramReads_none rfl (State.ramSeen_before hold) (ramRead_plain _ _ _ hecc), hold]
    rfl
  case single =>
    intro s fd r b port addr j hw hc hecc hinv hwidth hold hmark
    have hwd : (if port = .a then (s.ram (rgn fd r * 4 + b)).widthA else (s.ram (rgn fd r * 4 + b)).widthB) = 64 := by
      rw [hwidth.1, hwidth.2, ite_self]
    refine (if_neg (acts_of hw hc)).trans (congrArg _ ?_)
    rw [State.ramReads_none (by rw [hwd]) (State.ramSeen_now hold) (ramRead_single _ _ hecc hinv hmark), hold]
    rfl
  case writeA =>
    intro s fd r b a hw hc hmask
    generalize hn : rgn fd r * 4 + b.val = n at hmask ⊢
    have hexec : exec (.fabRamWrite fd r b (some a) none) s = .next (s.ramWrites (rgn fd r * 4 + b) (some a) none) := if_neg (acts_of hw hc)
    rw [hn, State.ramWrites_a] at hexec
    have hword := State.ramWord_ramStore (s := s) (w := (s.ram n).widthA) (r := a) n hmask
    obtain ⟨hcells, hffs, hmacs, hwords⟩ := s.ramStore_keeps n (s.ram n).widthA a (ramMask (s.ram n).widthA (s.ram n).ecc a)
    refine ⟨_, hexec, ?_, hword, hwords, hcells, hffs, hmacs, (s.ramStore_leaves ..).modFab _ (by simp)⟩
    rw [State.ram_modRam_self, State.ram_ramStore, State.ramWord_modRam]
    exact ramWriteShow_stA ..
  case overlap =>
    intro s fd r b a c n hn hw hc hword hmask
    obtain ⟨f, hf⟩ := State.ramWrites_overlap hword hmask
    have hexec : exec (.fabRamWrite fd r b (some a) (some c)) s = .next (s.ramWrites (rgn fd r * 4 + b) (some a) (some c)) := if_neg (acts_of hw hc)
    rw [← hn, hf] at hexec
    have hma : ramMask (s.ram n).widthA (s.ram n).ecc a ≠ (0, 0) := fun h => hmask (by rw [h]; exact Nat.zero_and _)
    have hfirst := State.ramWord_ramStore (s := s) (w := (s.ram n).widthA) (r := a) n hma
    refine ⟨_, hexec, ?_, ?_, ?_⟩
    · rw [State.ramWord_modRam, ← hfirst, hword]
      exact State.ramWord_ramStore_valid _ (by rw [← hword, hfirst]; rfl)
    · rw [State.getR_modRam, State.satAdd, State.getR_setR_self, State.getR_ramStore, State.getR_ramStore]
      rfl
    · exact (((s.ramStore_leaves ..).mono (by simp) (by simp)).trans ((State.ramStore_leaves ..).mono (by simp) (by simp))).setR _ _ _ (by simp) |>.modFab _
        (by simp)
  case write => exact if_neg (acts_of hw hc)
  case clear =>
    intro s fd r slice i hw hc hclr
    rw [exec_macUpdate_acts slice i hw hc, macEdge_clear _ _ hclr]
    rfl
  case enabled =>
    rintro s fd r slice i _ rfl hw hc h
    have hexec := exec_macUpdate_acts slice i hw hc
    rw [macEdge_enabled _ _ h] at hexec
    refine ⟨_, hexec, ?_⟩
    rw [State.mac_putMac_self]
    exact ⟨rfl, rfl, rfl, rfl, rfl, rfl, rfl, rfl, rfl, fun k hk => Map.find_set_ne _ _ _ hk, rfl, rfl, rfl, Leaves.refl.modFab _ (by simp)⟩
  case hold =>
    rintro s fd r slice i _ rfl hw hc h
    rw [exec_macUpdate_acts slice i hw hc, macEdge_hold _ _ h]
    rfl
  case held => exact ⟨if_pos (held_of hw), if_pos (held_of hw), if_pos (held_of hw)⟩

end Sys2Proof.Machine
end

section
/-!
SUPPORT. The frames that Dawn's commands are read through (R172, R480 to R508, R591, R607, R611, R686 to R691): isolation, foreground access, memory writes,
the die links' start-up test, cleared frames.
-/

namespace Sys2Proof.Machine

variable {ps : List Part} {W : Field → Prop} {s t : State}

/-! ### Regions -/

theorem Within.isolate (h : Within ps W s t) (rg cause : Nat) (hi : Part.ic ∈ ps) (hn : Part.noc ∈ ps) (ht : Part.thy ∈ ps) (htio : Part.tio ∈ ps)
    (he : Part.events ∈ ps) (hW : ∀ f ∈ isoFields, W f) (hb : ∀ f ∈ breachFields, W f) : Within ps W s (t.isolate rg cause) := by
  have hport : W Reg.NOC_PSTATE := hW _ (by simp [isoFields, isoLaterFields])
  have hcause : ∀ f ∈ causeFields, W f := fun f hf => hW f (by
    simp only [causeFields, isoFields, isoLaterFields, List.mem_cons, List.not_mem_nil] at hf ⊢; tauto)
  exact .ite ((h.setCauses rg _ hi hcause).napPort rg _ hport)
    ((((((h.holdBorders rg hi htio).setCauses rg _ hi hcause).modIc _ hi).napPort rg _ hport).napClose rg hi hn ht he hb).raise _ _ _ _ he)

/-- The fields that show what became of a requested test. -/
def touchFields : List Field := [Reg.MID_REQ_STAT_STATE, Reg.MID_REQ_STAT_RESULT]

theorem Within.midTouch (h : Within ps W s t) (bd cls index : Nat) (hm : Part.mid ∈ ps) (he : Part.events ∈ ps) (hW : ∀ f ∈ touchFields, W f) :
    Within ps W s (t.midTouch bd cls index) := by
  simp only [touchFields, List.forall_mem_cons] at hW
  obtain ⟨hst, hres, -⟩ := hW
  have hended : ∀ f d, Within ps W s ((t.modMid f).raise (bdWinEp bd) 0x0C13 0 d) := fun f d => (h.modMid f hm).raise _ _ _ _ he
  unfold State.midTouch
  split
  · exact h
  · exact .ite (((hended _ _).setR _ _ _ hst).setR _ _ _ hres) (hended _ _)

theorem Within.touchRegions (h : Within ps W s t) (p : Nat → Bool) (hm : Part.mid ∈ ps) (he : Part.events ∈ ps) (hW : ∀ f ∈ touchFields, W f) :
    Within ps W s (t.touchRegions p) := h.foldl (fun _ _ k => .ite (k.midTouch _ _ _ hm he hW) k) _

/-! ### Memory writes -/

/-- The parts that a memory write may write. -/
def memParts : List Part := [.events, .mem, .chip, .lpx]

/-- The fields that count and show the errors of the memories, and their sweeps. -/
def memFields : List Field :=
  [Reg.ECC_TRK_LIVE, Reg.ECC_TRK_MISS, Reg.ECC_LAST_ADDR, Reg.ECC_LAST_HI_KIND, Reg.ECC_CE_SPD, Reg.ECC_CE_FM, Reg.ECC_CE_MSP_COUNT,
    Reg.LPX_ELAST_ADDR, Reg.LPX_ERR_INLINE_CE, Reg.ECC_INV_STAT_BUSY, Reg.SPD_INVBUSY_BANKS]

section
variable (h : Within memParts (fun f => f ∈ memFields) s t)
include h

theorem Within.suspectRow (u row : Nat) : Within memParts (fun f => f ∈ memFields) s (t.suspectRow u row) :=
  .ite ((h.raise _ _ _ _ (by decide)).modChip _ (by decide)) (.ite h ((h.raise _ _ _ _ (by decide)).modChip _ (by decide)))

theorem Within.putTrk (bd : Nat) (l : List TrkEntry) : Within memParts (fun f => f ∈ memFields) s (t.putTrk bd l) :=
  (h.modChip _ (by decide)).setR _ _ _ (by simp [memFields])

theorem Within.trkCount (u w : Nat) : Within memParts (fun f => f ∈ memFields) s (t.trkCount u w) := by
  unfold State.trkCount
  extract_lets bd row live others
  split
  · exact .ite ((h.putTrk _ _).suspectRow u row) (h.putTrk _ _)
  · exact .ite ((h.putTrk _ _).satAdd _ _ _ (by simp [memFields])) (.ite ((h.putTrk _ _).suspectRow u row) (h.putTrk _ _))

theorem Within.ceCount (u : Nat) : Within memParts (fun f => f ∈ memFields) s (t.ceCount u) :=
  .ite (h.satAdd _ _ _ (by simp [memFields])) (.ite (h.satAdd _ _ _ (by simp [memFields])) (h.satAdd _ _ _ (by simp [memFields])))

theorem Within.memCe (u w b req : Nat) : Within memParts (fun f => f ∈ memFields) s (t.memCe u w b req) :=
  ((((h.raise _ _ _ _ (by decide)).ceCount u).setR _ _ _ (by simp [memFields])).setR _ _ _ (by simp [memFields])).trkCount u w

theorem Within.unitWrite (u w req : Nat) (new : BitVec 64) (be win : Nat) (poison : Bool) :
    Within memParts (fun f => f ∈ memFields) s (t.unitWrite u w req new be win poison) := by
  have hd : Within memParts (fun f => f ∈ memFields) s (t.rqDrop u w) := h.modChip _ (by decide)
  have hput : ∀ k x, Within memParts (fun f => f ∈ memFields) s ((t.rqDrop u w).putWord k x) := fun k x => hd.modMem _ (by decide)
  unfold State.unitWrite
  refine .ite h (.ite (hput _ _) (.ite (hput _ _) (.ite (hput _ _) ?_)))
  split
  · exact hput _ _
  · exact Within.modMem (.ite hd (hd.memCe _ _ _ _)) _ (by decide)
  · exact (hd.raise _ _ _ _ (by decide)).modMem _ (by decide)
  · exact (hd.raise _ _ _ _ (by decide)).modMem _ (by decide)

theorem Within.lpxWrite (n loc addr req : Nat) (new : BitVec 64) (be : Nat) (poison : Bool) :
    Within memParts (fun f => f ∈ memFields) s (t.lpxWrite n loc addr req new be poison) := by
  have hl : ∀ f, Within memParts (fun f => f ∈ memFields) s (t.modLp n f) := fun f => h.modLpx _ (by decide)
  have hput : ∀ f k x, Within memParts (fun f => f ∈ memFields) s ((t.modLp n f).putWord k x) := fun f k x => (hl f).modMem _ (by decide)
  unfold State.lpxWrite
  refine .ite h (.ite (.ite (((hput _ _ _).setR _ _ _ (by simp [memFields])).raise _ _ _ _ (by decide)) (hput _ _ _))
    (.ite (hput _ _ _) (.ite (hput _ _ _) ?_)))
  split
  · exact hput _ _ _
  · exact ((((hl _).satAdd _ _ _ (by simp [memFields])).setR _ _ _ (by simp [memFields])).raise _ _ _ _ (by decide)).modMem _ (by decide)
  · exact ((hl _).raise _ _ _ _ (by decide)).modMem _ (by decide)
  · exact ((hl _).raise _ _ _ _ (by decide)).modMem _ (by decide)

theorem Within.writeWord (a req : Nat) (new : BitVec 64) (be : Nat) (poison : Bool) (win : Nat) :
    Within memParts (fun f => f ∈ memFields) s (t.writeWord a req new be poison win) := by
  unfold State.writeWord
  split
  · exact h.unitWrite _ _ _ _ _ _ _
  · refine .ite ?_ (.ite (h.modMem _ (by decide)) h)
    split
    · exact h.lpxWrite _ _ _ _ _ _ _
    · exact h

theorem Within.writeRange (a bytes data req : Nat) (poison : Bool) (win : Nat) :
    Within memParts (fun f => f ∈ memFields) s (t.writeRange a bytes data req poison win) := h.foldl (fun _ _ k => k.writeWord _ _ _ _ _ _) _

theorem Within.invalidate (u : Nat) : Within memParts (fun f => f ∈ memFields) s (t.invalidate u) :=
  (((h.modMem _ (by decide)).modChip _ (by decide)).setR _ _ _ (by simp [memFields])).setR _ _ _ (by simp [memFields])

end

/-! ### The start-up test of the die links (R691) -/

theorem Within.modDlk (h : Within ps W s t) (f : DieLinks → DieLinks) (hp : Part.dlk ∈ ps) : Within ps W s (t.modDlk f) :=
  h.part .dlk hp (by intro q hq; cases q <;> first | rfl | exact absurd rfl hq) rfl

/-- The parts that a die link's fold or withdrawal may write. -/
def linkParts : List Part := [.events, .ic, .noc, .thy, .pge, .dlk]

section
variable (h : Within linkParts anyField s t)
include h

theorem Within.suspendBreach (id : Nat) : Within linkParts anyField s (t.suspendBreach id) := by
  have hst : Within linkParts anyField s (t.setCstate id 3) := (h.setR _ _ _ trivial).thyCount trivial trivial
  exact .ite (hst.pgeOutputLost id (by decide) (by decide) (fun _ _ => trivial)) (.ite hst h)

theorem Within.linkBreach (id cause det deadline : Nat) (toSrc toDst : Bool) :
    Within linkParts anyField s ((t.suspendBreach id).breach id cause det deadline toSrc toDst) :=
  (h.suspendBreach id).breach _ _ _ _ _ _ (by decide) (by decide) (by decide) (fun _ _ => trivial)

theorem Within.foldBreach (ports : List (Nat × Nat)) (id : Nat) : Within linkParts anyField s (t.foldBreach ports id) := by
  unfold State.foldBreach
  refine .ite ?_ h
  split
  · exact h.linkBreach _ _ _ _ _ _
  · exact h.suspendBreach id

theorem Within.withdrawBreach (ports : List (Nat × Nat)) (id : Nat) : Within linkParts anyField s (t.withdrawBreach ports id) := by
  unfold State.withdrawBreach
  refine .ite ?_ h
  split
  · exact (h.linkBreach _ _ _ _ _ _).breach _ _ _ _ _ _ (by decide) (by decide) (by decide) (fun _ _ => trivial)
  · exact h

theorem Within.loseRoutes (l : List Nat) : Within linkParts anyField s (t.loseRoutes l) :=
  (h.modIc _ (by decide)).foldl (fun _ _ k => (k.setR _ _ _ trivial).raise _ _ _ _ (by decide)) _

theorem Within.putLink (l : DieLinkId) (v half : Nat) : Within linkParts anyField s (t.putLink l v half) := by
  cases l with
  | lateral p => exact (h.setEach _ _ _ trivial).setEach _ _ _ trivial
  | nap rg => exact (h.setR _ _ _ trivial).modDlk _ (by decide)
  | spine fd => exact (h.setR _ _ _ trivial).setR _ _ _ trivial

theorem Within.linkFold (l : DieLinkId) (half page i : Nat) : Within linkParts anyField s (t.linkFold l half page i) := by
  have hf := ((h.putLink l 1 half).modDlk (fun d => { d with folds := Map.erase d.folds (linkNo l) }) (by decide)).raise (dlkSrc page) 0x0C03 2
    (dlkDetail page i) (by decide)
  cases l with
  | lateral p => exact (hf.loseRoutes _).foldl (fun _ _ k => k.foldBreach _ _) _
  | nap rg => exact hf.foldl (fun _ _ k => k.foldBreach _ _) _
  | spine fd => exact hf.loseRoutes _

theorem Within.linkWithdraw (l : DieLinkId) (page i : Nat) : Within linkParts anyField s (t.linkWithdraw l page i) := by
  have hf := ((h.putLink l 2 (t.linkHalf l)).modDlk (fun d => { d with folds := Map.erase d.folds (linkNo l) }) (by decide)).raise (dlkSrc page) 0x0C04 4
    (dlkDetail page i) (by decide)
  cases l with
  | lateral p => exact (hf.loseRoutes _).foldl (fun _ _ k => k.withdrawBreach _ _) _
  | nap rg =>
    have hc := fun l => (hf.napPort rg l trivial).napClose rg (by decide) (by decide) (by decide) (by decide) (fun _ _ => trivial)
    exact (hc _).foldl (fun _ _ k => .ite (k.linkBreach _ _ _ _ _ _) k) _
  | spine fd => exact hf.loseRoutes _

theorem Within.exhaust (page i wire : Nat) : Within linkParts anyField s (t.exhaust page i wire) := by
  have hx := (h.setR Reg.DLK_GRP_EXHAUSTED (grpIx page i) 1 trivial).raise (dlkSrc page) 0x0C02 2 (dlkDetail page i wire) (by decide)
  unfold State.exhaust
  refine .ite h (.ite (hx.linkWithdraw _ _ _) (.ite ?_ hx))
  split
  · exact hx.modDlk _ (by decide)
  · exact .ite hx (hx.linkWithdraw _ _ _)

theorem Within.testWire (x : Nat × Nat × Nat) : Within linkParts anyField s (t.testWire x) :=
  .ite (.ite (h.exhaust _ _ _) (((((h.setR _ _ _ trivial).setR _ _ _ trivial).satAdd _ _ _ trivial).modDlk _ (by decide)).raise _ _ _ _ (by decide))) h

theorem Within.linkTest (bad : List (Nat × Nat × Nat)) : Within linkParts anyField s (t.linkTest bad) := by
  refine (h.foldl (fun _ x k => k.testWire x) bad).foldl (fun u x k => ?_) bad
  extract_lets l
  split
  · exact .ite (k.linkFold _ _ _ _) k
  · exact k

end

end Sys2Proof.Machine
end

section
/-!
PROOF. Dawn's operation in hand (R606 to R616): a stream read, verified, applied, failed. What a register write leaves stays empty on the way, so each of Dawn's
steps is its meaning's state with the words of BUS_HOOK clear.
-/

namespace Sys2Proof.Machine

variable {ps : List Part} {W : Field → Prop} {s t u : State} {o : DawnOp} {f : Stream}

/-! ### Nothing is left to a register write (R608) -/

/-- The words in which a register write leaves what it starts. -/
def hookFields : List Field := [Reg.BUS_HOOK, Reg.BUS_HREQ, Reg.BUS_HVAL]

theorem State.noHook_within (s : State) : Within [] (fun f => f ∈ hookFields) s s.noHook := (Within.refl s).resetFields _ _ (fun _ h => h)

theorem State.getR_noHook (s : State) (f : Field) (i : Nat) (hf : ∀ g ∈ hookFields, f.id % Field.idBound ≠ g.id % Field.idBound) :
    s.noHook.getR f i = s.getR f i := s.noHook_within.getR_eq f i hf

theorem State.noHook_hook (s : State) : s.noHook.getR Reg.BUS_HOOK 0 = 0 :=
  s.getR_resetFields [] [Reg.BUS_HREQ, Reg.BUS_HVAL] Reg.BUS_HOOK 0 (by decide)

theorem State.settle_quiet (h : s.getR Reg.BUS_HOOK 0 = 0) : s.settle = s.noHook := by
  rw [State.settle, h]
  rfl

/-- What leaves BUS_HOOK has nothing to settle. -/
theorem Within.settle (h : Within ps W s.noHook u) (hW : ∀ f, W f → Reg.BUS_HOOK.id % Field.idBound ≠ f.id % Field.idBound) : u.settle = u.noHook :=
  State.settle_quiet ((h.getR_eq _ _ hW).trans s.noHook_hook)

/-! ### The checks look at registers that these words are not among -/

theorem State.reading_noHook (s : State) : s.noHook.reading = s.reading := by
  simp (disch := decide) only [State.reading, State.getR_noHook]

theorem State.recordIn_noHook (s : State) (mask : List Nat) (r : RegRec) : s.noHook.recordIn mask r = s.recordIn mask r := by
  unfold State.recordIn
  split
  · simp (disch := decide) only [State.getR_noHook]
  · rfl

theorem State.readCode_noHook (s : State) (o : DawnOp) (f : Stream) : s.noHook.readCode o f = s.readCode o f := by
  simp (disch := decide) only [State.readCode, State.legacyCode, State.flag, State.recordIn_noHook, State.getR_noHook]
  rfl

theorem State.verifyCode_noHook (s : State) (f : Stream) (v : StreamCheck) : s.noHook.verifyCode f v = s.verifyCode f v := by
  simp (disch := decide) only [State.verifyCode, State.streamKey, State.slotLive, State.getR_noHook]
  rfl

theorem State.rigidNap_noHook (s : State) : s.noHook.rigidNap = s.rigidNap := by
  funext rg
  have hids : s.noHook.contractIds = s.contractIds := rfl
  simp (disch := decide) only [State.rigidNap, State.contractsAt, hids, State.cstate, State.flag, State.getR_noHook]
  rfl

theorem ite_lt_of {c : Prop} [Decidable c] {a b n : Nat} (ha : a < n) (hb : b < n) : (if c then a else b) < n := by split <;> assumption

theorem State.readCode_lt (s : State) (o : DawnOp) (f : Stream) : s.readCode o f < 256 :=
  ite_lt_of (ite_lt_of (by decide) (ite_lt_of (by decide) (ite_lt_of (by decide) (ite_lt_of (by decide) (by decide)))))
    (ite_lt_of (by decide) (ite_lt_of (by decide) (ite_lt_of (by decide) (ite_lt_of (by decide) (ite_lt_of (by decide) (by decide))))))

theorem State.verifyCode_lt (s : State) (f : Stream) (v : StreamCheck) : s.verifyCode f v < 256 :=
  ite_lt_of (by decide) (ite_lt_of (by decide) (ite_lt_of (by decide) (ite_lt_of (by decide) (by decide))))

/-! ### An operation fails (R610, R616) -/

/-- The fields that an operation's end writes. -/
def opEndFields : List Field :=
  Reg.DWN_STAT_STATE :: Reg.DWN_STAT_PHASE :: Reg.DWN_STAT_CODE :: Reg.PLIC_WAIT :: Reg.PLIC_PEND :: (bufferFields ++ mirrorFields)

theorem State.opEnd_frame (s : State) (st code : Nat) : Within [.dawn, .pcie] (fun f => f ∈ opEndFields) s (s.opEnd st code) :=
  ((((((Within.refl s).bufferEnd (fun _ h => by simp [opEndFields, h])).setR _ _ _ (by simp [opEndFields])).setR _ _ _ (by simp [opEndFields])).setR
    _ _ _ (by simp [opEndFields])).modDawn _ (by decide)).trans ((s.opEnd_later st code).mono (by simp) (fun f h => by
      simp only [List.mem_cons] at h
      rcases h with h | h | h <;> simp [opEndFields, h]))

/-- An operation's failure is recorded, and ends it. -/
def State.opFailed (s : State) (code : Nat) : State := (s.raise dawnEp 0x0903 4 (s.dwnDetail code 0)).opEnd 4 code

theorem State.opFailed_within (s : State) (code : Nat) : Within [.events, .dawn, .pcie] (fun f => f ∈ opEndFields) s (s.opFailed code) :=
  ((Within.refl s).raise _ _ _ _ (by decide)).trans ((State.opEnd_frame _ 4 code).mono (by simp) (fun _ h => h))

theorem State.opFailed_reads (s : State) {code : Nat} (hc : code < 256) : (s.opFailed code).getR Reg.DWN_STAT_STATE 0 = 4
    ∧ (s.opFailed code).getR Reg.DWN_STAT_CODE 0 = code ∧ (s.opFailed code).dawn.op = none := by
  obtain ⟨hst, hcode, hop⟩ := State.opEnd_reads (s := s.raise dawnEp 0x0903 4 (s.dwnDetail code 0)) 4 code
  exact ⟨hst, hcode.trans (Field.norm_of_lt rfl hc), hop⟩

/-- Before its commit point a staged operation that fails only ends. -/
theorem State.opFail_staged (code : Nat) (h : s.dawn.op = some o) (hs : o.src ≠ 0) (hc : o.committed = false) : s.opFail code = s.opFailed code := by
  unfold State.opFail
  rw [h]
  cases hp : o.part <;> simp [hs, hc, hp, State.opFailed]

/-- A boot that fails clears what it wrote, and goes on to the next entry. -/
theorem State.opFail_boot (code : Nat) (h : s.dawn.op = some o) (hs : o.src = 0) (hp : o.part = false) :
    s.opFail code = (((s.clearFrames (fun _ => true)).dropImages).opFailed code).bootNext code := by
  unfold State.opFail
  rw [h]
  simp [hs, hp, State.opFailed]

/-- What the failure of a partial configuration leaves of its regions: cleared, and isolated as never configured (R616). -/
def State.maskFailed (s : State) (m : List Nat) : State :=
  m.foldl (fun u rg => u.setCauses rg (5 :: (u.region rg).causes.filter (fun c => decide (c ≠ 2) && decide (c ≠ 5))))
    (s.clearFrames (fun rg => m.contains rg))

theorem State.opFail_part (code : Nat) (h : s.dawn.op = some o) (hs : o.src ≠ 0) (hp : o.part = true) (hc : o.committed = true) (hf : o.stream = some f) :
    s.opFail code = (s.maskFailed (maskOf f)).opFailed code := by
  unfold State.opFail
  rw [h]
  simp [hs, hp, hc, hf, State.opFailed, State.maskFailed]

/-! ### Frames cleared and written (R591, R609, R615) -/

theorem Within.clearFrames (h : Within ps W s t) (p : Nat → Bool) (hf : Part.fab ∈ ps) (hi : Part.ic ∈ ps) (ht : Part.tio ∈ ps)
    (hd : Part.dawn ∈ ps) : Within ps W s (t.clearFrames p) := (((h.modFab _ hf).modIc _ hi).modTio _ ht).modDawn _ hd

theorem outside_all {α : Type} (d : Nat) (m : Map α) : outside (fun _ => true) d m = [] := List.filter_eq_nil_iff.2 (by simp)

/-- With every region's frames cleared there is no frame, and no cell is configured. -/
theorem State.clearFrames_all (s : State) : (s.clearFrames (fun _ => true)).fab.cells = [] ∧ (s.clearFrames (fun _ => true)).dawn.frames = []
    ∧ (s.clearFrames (fun _ => true)).dawn.op = s.dawn.op :=
  ⟨outside_all 4096 _, List.filter_eq_nil_iff.2 (by simp), rfl⟩

theorem Within.applyItem (h : Within ps W s t) (it : CfgItem) (hf : Part.fab ∈ ps) (hi : Part.ic ∈ ps) (ht : Part.tio ∈ ps) :
    Within ps W s (t.applyItem it) := by
  cases it with
  | cell | carry | ram | ramWord | mac => exact h.modFab _ hf
  | select | spine | dcq => exact h.modIc _ hi
  | pad | padIn => exact h.modTio _ ht

theorem Within.writeFrames (h : Within ps W s t) (f : Stream) (hf : Part.fab ∈ ps) (hi : Part.ic ∈ ps) (ht : Part.tio ∈ ps) (hd : Part.dawn ∈ ps) :
    Within ps W s (t.writeFrames f) := (h.modDawn _ hd).foldl (fun _ it k => k.applyItem it hf hi ht) _

theorem Within.setCausesOf (h : Within ps W s t) (m : List Nat) (l : State → Nat → List Nat) (hi : Part.ic ∈ ps) (hW : ∀ f ∈ causeFields, W f) :
    Within ps W s (m.foldl (fun u rg => u.setCauses rg (l u rg)) t) := h.foldl (fun _ rg k => k.setCauses rg _ hi hW) m

theorem State.maskFailed_within (s : State) (m : List Nat) : Within [.fab, .ic, .tio, .dawn] (fun f => f ∈ causeFields) s (s.maskFailed m) :=
  ((Within.refl s).clearFrames _ (by decide) (by decide) (by decide) (by decide)).setCausesOf m _ (by decide) (fun _ h => h)

/-! ### A full configuration begins (R609) -/

/-- The parts that the begin of a full configuration writes. -/
def fullParts : List Part := [.mid, .events, .ic, .tio, .fab, .noc, .thy, .dawn]

/-- The fields that it writes in the regions. -/
def fullRegionFields : List Field := touchFields ++ (holdFields ++ (isoFields ++ breachFields))

/-- The fields that it writes. -/
def fullFields : List Field := fullRegionFields ++ [Reg.RBK_ON, Reg.BUF_ON, Reg.SPD_OWN_STATE, Reg.SPD_OWN_EP]

/-- Every region held and isolated under cause 5, with its pending tests settled. -/
def State.allHeld (s : State) : State :=
  (List.range 3072).foldl (fun u rg => (u.holdRegion rg).isolate rg 5) (s.touchRegions (fun _ => true))

/-- No frame, no cell, no release, nothing held back for a register write. -/
def State.allCleared (s : State) : State :=
  ((((s.clearFrames (fun _ => true)).modFab (fun f => { f with rels := [] })).modDawn (fun d => { d with readable := false, held := none, late := [] })).setR
    Reg.RBK_ON 0 0).setR Reg.BUF_ON 0 0

/-- Dawn takes a bank; one that an agent owned is being handed over. -/
def State.bankTaken (s : State) (b : Nat) : State :=
  (if s.getR Reg.SPD_OWN_STATE b = 1 then s.setR Reg.SPD_OWN_STATE b 3 else s).setR Reg.SPD_OWN_EP b dawnEp

theorem State.fullBegin_eq (s : State) : s.fullBegin = (List.range 256).foldl State.bankTaken s.allHeld.allCleared := rfl

theorem State.allHeld_within (s : State) : Within [.mid, .events, .ic, .tio, .fab, .noc, .thy] (fun f => f ∈ fullRegionFields) s s.allHeld :=
  ((Within.refl s).touchRegions _ (by decide) (by decide) (fun _ h => by simp [fullRegionFields, h])).foldl (fun _ rg k =>
    (k.holdRegion rg (by decide) (by decide) (by decide) (fun _ h => by simp [fullRegionFields, h])).isolate rg 5 (by decide) (by decide) (by decide)
      (by decide) (by decide) (fun _ h => by simp [fullRegionFields, h]) (fun _ h => by simp [fullRegionFields, h])) _

theorem State.allCleared_within (s : State) : Within fullParts (fun f => f ∈ fullFields) s s.allCleared :=
  (((((Within.refl s).clearFrames _ (by decide) (by decide) (by decide) (by decide)).modFab _ (by decide)).modDawn _ (by decide)).setR _ _ _
    (by simp [fullFields])).setR _ _ _ (by simp [fullFields])

/-- With every region's frames cleared there is no frame, no cell is configured and no release is pending; the operation in hand stays. -/
theorem State.allCleared_reads (s : State) : s.allCleared.fab.cells = [] ∧ s.allCleared.fab.rels = [] ∧ s.allCleared.dawn.frames = []
    ∧ s.allCleared.dawn.op = s.dawn.op := by
  obtain ⟨hcells, hframes, hop⟩ := s.clearFrames_all
  exact ⟨hcells, rfl, hframes, hop⟩

theorem Within.bankTaken (h : Within ps W s t) (b : Nat) (hst : W Reg.SPD_OWN_STATE) (hep : W Reg.SPD_OWN_EP) : Within ps W s (t.bankTaken b) :=
  Within.setR (.ite (h.setR _ _ _ hst) h) _ _ _ hep

/-- A full configuration's begin: no frame, no cell, no release; the operation in hand stays. -/
theorem State.fullBegin_reads (s : State) : s.fullBegin.fab.cells = [] ∧ s.fullBegin.fab.rels = [] ∧ s.fullBegin.dawn.frames = []
    ∧ s.fullBegin.dawn.op = s.dawn.op ∧ Within fullParts (fun f => f ∈ fullFields) s s.fullBegin := by
  rw [State.fullBegin_eq]
  have hbanks : Within [] (fun f => f ∈ [Reg.SPD_OWN_STATE, Reg.SPD_OWN_EP]) s.allHeld.allCleared
      ((List.range 256).foldl State.bankTaken s.allHeld.allCleared) := (Within.refl _).foldl (fun _ b k => k.bankTaken b (by simp) (by simp)) _
  have hfab : State.fab _ = s.allHeld.allCleared.fab := hbanks.part_eq .fab (by decide)
  have hdawn : State.dawn _ = s.allHeld.allCleared.dawn := hbanks.part_eq .dawn (by decide)
  have hop : s.allHeld.dawn.op = s.dawn.op := congrArg Dawn.op (s.allHeld_within.part_eq .dawn (by decide))
  obtain ⟨hcells, hrels, hframes, hkept⟩ := s.allHeld.allCleared_reads
  rw [hfab, hdawn]
  exact ⟨hcells, hrels, hframes, hkept.trans hop, ((s.allHeld_within.mono (by decide) (fun _ h => List.mem_append_left _ h)).trans
    s.allHeld.allCleared_within).trans (hbanks.mono (by simp) (by simp))⟩

/-! ### A release is scheduled (R617) -/

theorem State.scheduleRelease_within (s : State) (hold : Bool) (l : List Nat) (cause : Nat) (cores : Bool) :
    Within [.dawn, .fab] (fun f => f ∈ [Reg.DWN_STAT_PHASE]) s (s.scheduleRelease hold l cause cores) :=
  .ite (((Within.refl s).modDawn _ (by decide)).setR _ _ _ (by simp)) (((Within.refl s).modFab _ (by decide)).setR _ _ _ (by simp))

theorem State.scheduleRelease_phase (s : State) (hold : Bool) (l : List Nat) (cause : Nat) (cores : Bool) :
    (s.scheduleRelease hold l cause cores).getR Reg.DWN_STAT_PHASE 0 = if hold then 6 else 7 := by
  unfold State.scheduleRelease
  cases hold
  · exact State.getR_setR_self ..
  · exact State.getR_setR_self ..

/-! ### The commit of a full configuration (R608, R609) -/

/-- The parts that the commit of a full configuration without register records writes. -/
def commitParts : List Part := [.events, .mem, .chip, .lpx, .fab, .ic, .tio, .dawn]

/-- The fields that it writes before its end shows. -/
def commitFields : List Field := memFields ++ [Reg.FW_COUNT, Reg.FW_SEL, Reg.SPD_OWN_EP, Reg.DEV_SYSID_ID]

theorem Within.commitRange (h : Within commitParts (fun f => f ∈ commitFields) s t) (a bytes data req : Nat) :
    Within commitParts (fun f => f ∈ commitFields) s (t.writeRange a bytes data req) :=
  h.trans (((Within.refl t).writeRange a bytes data req false 0).mono (by decide) (fun _ k => List.mem_append_left _ k))

theorem Within.putFirmware (h : Within commitParts (fun f => f ∈ commitFields) s t) (n base size : Nat) (fw : Option (Nat × Nat)) :
    Within commitParts (fun f => f ∈ commitFields) s (t.putFirmware n base size fw) := by
  cases fw with
  | none => exact h
  | some x => exact ((h.commitRange _ _ _ _).setR _ _ _ (by simp [commitFields])).wrapAdd _ _ _ (by simp [commitFields])

theorem Within.sysidWrite (h : Within ps W s t) (value : BitVec 32) (hW : W Reg.DEV_SYSID_ID) : Within ps W s (took (execSysidWrite value t) t) :=
  .ite (h.setR _ _ _ hW) h

/-- The fields in which the end of a full configuration shows. -/
def commitShown : List Field :=
  [Reg.DEV_FEAT_STREAM_MIN, Reg.DWN_DIGEST_V, Reg.DWN_STAT_CONFIGURED, Reg.STREAM_SLOT, Reg.DWN_RELOAD_CTL_RELOAD_OK, Reg.SVP_FLASH, Reg.DWN_BOOT_NOCFG,
    Reg.DWN_STAT_PHASE]

/-- A boot's full configuration without register records is configured, with the stream's digest, and its release scheduled or held. -/
theorem State.fullCommit_reads (s : State) (hregs : f.regs = []) :
    (s.fullCommit f true).getR Reg.DWN_STAT_CONFIGURED 0 = 1 ∧ (s.fullCommit f true).getR Reg.DWN_DIGEST_V 0 = f.digest.toNat
      ∧ (s.fullCommit f true).getR Reg.DWN_BOOT_NOCFG 0 = 0
      ∧ (s.fullCommit f true).getR Reg.DWN_STAT_PHASE 0 = (if f.relHold && !f.legacy then 6 else 7)
      ∧ Within commitParts (fun g => g ∈ commitFields ++ commitShown) s (s.fullCommit f true) := by
  unfold State.fullCommit
  extract_lets t0 t1 t2 t3 t4 t5 t6 t7 t8 t9 t10 t11
  have h3 : Within commitParts (fun g => g ∈ commitFields) s t3 := by
    have h0 := (Within.refl (ps := commitParts) (W := fun g => g ∈ commitFields) s).writeFrames f (by decide) (by decide) (by decide) (by decide)
    have h1 : Within commitParts (fun g => g ∈ commitFields) s t1 := h0.foldl (fun _ _ k => k.commitRange _ _ _ _) _
    have h2 : Within commitParts (fun g => g ∈ commitFields) s t2 := .ite h1 (h1.wrapAdd _ _ _ (by simp [commitFields]))
    exact (h2.putFirmware _ _ _ _).putFirmware _ _ _ _
  have h4 : Within commitParts (fun g => g ∈ commitFields) s t4 := by
    change Within _ _ s ((f.regs.filter (fun r => !isTioRecord r)).foldl (fun u r => u.writeRecord r) t3)
    rw [hregs]
    exact h3
  have h5 : Within commitParts (fun g => g ∈ commitFields) s t5 := h4.foldl (fun _ b k => .ite (k.setR _ _ _ (by simp [commitFields])) k) _
  have h8 : Within commitParts (fun g => g ∈ commitFields) s t8 := by
    have h7 : Within commitParts (fun g => g ∈ commitFields) s t7 := (h5.modFab _ (by decide)).modDawn _ (by decide)
    exact .ite (h7.sysidWrite _ (by simp [commitFields])) h7
  have hflash : Within [] (fun g => g ∈ [Reg.SVP_FLASH]) t10 (if true then t10.setR Reg.SVP_FLASH 0 0 else t10) :=
    .ite ((Within.refl t10).setR _ _ _ (by simp)) (.refl t10)
  have h11 : Within [.events] (fun g => g ∈ [Reg.SVP_FLASH, Reg.DWN_BOOT_NOCFG]) t10 t11 :=
    ((hflash.mono (by simp) (by simp)).setR _ _ _ (by simp)).raise _ _ _ _ (by decide)
  have hrel := t11.scheduleRelease_within (f.relHold && !f.legacy) (List.range 3072) 5 (true && f.coreStart && !f.legacy)
  refine ⟨?_, ?_, ?_, t11.scheduleRelease_phase .., ?_⟩
  · rw [hrel.getR_eq _ _ (by decide), h11.getR_eq _ _ (by decide)]
    simp (disch := decide) only [t10, State.getR_setR_id, State.getR_setR_self]
    rfl
  · rw [hrel.getR_eq _ _ (by decide), h11.getR_eq _ _ (by decide)]
    simp (disch := decide) only [t10, t9, State.getR_setR_id, State.getR_setR_self]
    exact Field.norm_of_lt (f := Reg.DWN_DIGEST_V) rfl f.digest.isLt
  · rw [hrel.getR_eq _ _ (by decide)]
    exact (State.getR_raise ..).trans (State.getR_setR_self ..)
  · have h10 : Within commitParts (fun g => g ∈ commitFields ++ commitShown) s t10 :=
      (((((h8.mono (fun _ h => h) (fun _ h => List.mem_append_left _ h)).setR _ _ _ (by simp [commitShown])).setR _ _ _ (by simp [commitShown])).setR _ _ _
        (by simp [commitShown])).setR _ _ _ (by simp [commitShown])).setR _ _ _ (by simp [commitShown])
    exact (h10.trans (h11.mono (by decide) (by simp [commitShown]))).trans (hrel.mono (by decide) (by simp [commitShown]))

end Sys2Proof.Machine
end

section
/-!
PROOF. Dawn's boot (R592 to R599, R604, R624): the boot directory, an entry, a stalled flash, where a stream's bytes and zero words lie.
-/

namespace Sys2Proof.Machine

variable {ps : List Part} {W : Field → Prop} {s t u : State}

/-! ### A boot comes to nothing (R624) -/

/-- The fields that show that there is no configuration. -/
def noCfgFields : List Field := [Reg.DWN_BOOT_NOCFG, Reg.BOOT_STAGE, Reg.SVP_FLASH, Reg.SVP_PRECFG]

theorem State.noCfg_reads (s : State) : s.noCfg.getR Reg.DWN_BOOT_NOCFG 0 = 1 ∧ s.noCfg.getR Reg.BOOT_STAGE 0 = 0 := by
  unfold State.noCfg
  simp (disch := decide) only [State.getR_setR_id, State.getR_setR_self]
  exact ⟨rfl, rfl⟩

theorem State.bootFail_within (s : State) (code : Nat) : Within [.events] (fun f => f ∈ noCfgFields) s (s.bootFail code) :=
  (((((Within.refl s).setR _ _ _ (by simp [noCfgFields])).setR _ _ _ (by simp [noCfgFields])).setR _ _ _ (by simp [noCfgFields])).setR _ _ _
    (by simp [noCfgFields])).raise _ _ _ _ (by decide)

theorem State.bootFail_reads (s : State) (code : Nat) :
    (s.bootFail code).getR Reg.DWN_BOOT_NOCFG 0 = 1 ∧ (s.bootFail code).getR Reg.BOOT_STAGE 0 = 0 := s.noCfg_reads

/-! ### The boot directory (R592, R595 to R598) -/

/-- An octal flash has shown no directory: Dawn turns to quad mode. -/
def State.octalLost (s : State) (src : Nat) : State :=
  (((s.setR Reg.SVP_FLASH 0 (1 + src)).flashDoes (flashSteps src true)).setR Reg.DWN_BOOT_QUAD_FB 0 1).setR Reg.SVP_FLASH 0 3

/-- The quad fallback, reported. -/
def State.fallenBack (s : State) (src : Nat) : State := (s.octalLost src).raise dawnEp 0x0909 2 ((s.octalLost src).dwnDetail 0 0)

section
variable {hdr : Option LpxHdr} {bad : List (Nat × Nat × Nat)} {src : Nat}

theorem execDawnBootStart_entry {dir quad : Option (Bool × Fin 4)} (h : s.getR Reg.BOOT_STAGE 0 = 2) :
    execDawnBootStart dir quad hdr bad s = .next (s.bootEntry hdr) := if_pos h

theorem execDawnBootStart_idle {dir quad : Option (Bool × Fin 4)} (h2 : s.getR Reg.BOOT_STAGE 0 ≠ 2)
    (h : s.getR Reg.BOOT_STAGE 0 ≠ 1 ∨ s.inReset = true) : execDawnBootStart dir quad hdr bad s = .next s :=
  (if_neg h2).trans (if_pos h)

variable (hr : s.inReset = false) (h1 : s.getR Reg.BOOT_STAGE 0 = 1)
include hr h1

theorem execDawnBootStart_noFlash {dir quad : Option (Bool × Fin 4)} (h : s.getR Reg.DWN_BOOT_BOOTSRC 0 = 3) :
    execDawnBootStart dir quad hdr bad s = .next (s.linkTest bad).noCfg := by
  simp [execDawnBootStart, hr, h1, h]

theorem execDawnBootStart_found {d : Bool × Fin 4} {quad : Option (Bool × Fin 4)} (h : s.getR Reg.DWN_BOOT_BOOTSRC 0 < 3) :
    execDawnBootStart (some d) quad hdr bad s = .next ((((s.linkTest bad).setR Reg.SVP_FLASH 0 (1 + s.getR Reg.DWN_BOOT_BOOTSRC 0)).flashDoes
      (flashSteps (s.getR Reg.DWN_BOOT_BOOTSRC 0) d.1)).bootDir d.1 d.2 hdr) := by
  simp [execDawnBootStart, hr, h1, h.ne]

theorem execDawnBootStart_quadLost {quad : Option (Bool × Fin 4)} (h : s.getR Reg.DWN_BOOT_BOOTSRC 0 = 2) :
    execDawnBootStart none quad hdr bad s = .next ((((s.linkTest bad).setR Reg.SVP_FLASH 0 3).flashDoes (flashSteps 2 true)).bootFail 14) := by
  simp [execDawnBootStart, hr, h1, h]

variable (h : s.getR Reg.DWN_BOOT_BOOTSRC 0 = src) (hs : src < 2)
include h hs

theorem execDawnBootStart_quadFound (q : Bool × Fin 4) : execDawnBootStart none (some q) hdr bad s =
    .next ((((s.linkTest bad).fallenBack src).flashDoes (flashSteps 2 q.1)).bootDir q.1 q.2 hdr) := by
  have h2 : src ≠ 2 := by omega
  have h3 : src ≠ 3 := by omega
  simp [execDawnBootStart, State.fallenBack, State.octalLost, hr, h1, h, h2, h3]

theorem execDawnBootStart_bothLost : execDawnBootStart none none hdr bad s =
    .next ((((s.linkTest bad).fallenBack src).flashDoes (flashSteps 2 true)).bootFail 14) := by
  have h2 : src ≠ 2 := by omega
  have h3 : src ≠ 3 := by omega
  simp [execDawnBootStart, State.fallenBack, State.octalLost, hr, h1, h, h2, h3]

end

/-- No directory in octal nor in quad mode: the boot has failed, and the flash has been read both ways. -/
theorem State.fallenBack_fails {bad : List (Nat × Nat × Nat)} {src : Nat}
    (ht : t = (((s.linkTest bad).fallenBack src).flashDoes (flashSteps 2 true)).bootFail 14) :
    t.getR Reg.DWN_BOOT_QUAD_FB 0 = 1 ∧ t.getR Reg.DWN_BOOT_NOCFG 0 = 1 ∧ t.getR Reg.BOOT_STAGE 0 = 0
      ∧ t.dawn.flash = s.dawn.flash ++ flashSteps src true ++ flashSteps 2 true := by
  have hlinks : (s.linkTest bad).dawn = s.dawn := ((Within.refl s).linkTest bad).part_eq .dawn (by decide)
  rw [ht, ← hlinks]
  generalize s.linkTest bad = v
  have hend := ((v.fallenBack src).flashDoes (flashSteps 2 true)).bootFail_within 14
  have hback : (v.octalLost src).getR Reg.DWN_BOOT_QUAD_FB 0 = 1 := by
    simp (disch := decide) only [State.octalLost, State.getR_setR_id, State.getR_setR_self]
    rfl
  obtain ⟨hnocfg, hstage⟩ := ((v.fallenBack src).flashDoes (flashSteps 2 true)).bootFail_reads 14
  exact ⟨(hend.getR_eq _ _ (by decide)).trans hback, hnocfg, hstage, congrArg Dawn.flash (hend.part_eq .dawn (by decide))⟩

/-! ### An entry starts (R593) -/

/-- The fields that a boot entry's LPDDR5X header sets, and its training. -/
def headerFields : List Field :=
  [Reg.LPX_MAP_MAP_REJ, Reg.LPX_MAP_MODE, Reg.LPX_CFG_RATE, Reg.LPX_CFG_INLINE, Reg.LPX_STAT_CSTATE, Reg.PLIC_WAIT, Reg.PLIC_PEND]

/-- A boot entry's LPDDR5X settings. -/
def State.lpxHeader (s : State) (h : LpxHdr) : State :=
  (List.range 16).foldl (fun u n => (u.setR Reg.LPX_CFG_RATE n h.rate.toNat).setR Reg.LPX_CFG_INLINE n (bit h.inl)) (took (execLpxMapWrite h.mode false s) s)

theorem State.lpxMapTook_within (s : State) (mode : Bool) :
    Within [] (fun f => f ∈ [Reg.LPX_MAP_MAP_REJ, Reg.LPX_MAP_MODE]) s (took (execLpxMapWrite mode false s) s) := by
  unfold execLpxMapWrite
  extract_lets v equal
  split
  · exact (Within.refl s).setR _ _ _ (by simp)
  · exact (Within.refl s).setR _ _ _ (by simp)

theorem Within.lpxTrain (h : Within [.lpx] (fun f => f ∈ headerFields) s t) (n : Nat) : Within [.lpx] (fun f => f ∈ headerFields) s (t.lpxTrain n) :=
  (h.enterSt _ _ _ _ _ (by simp [headerFields]) (by simp [headerFields]) (by simp [headerFields])).modLpx _ (by decide)

theorem Within.lpxTrainAll (h : Within [.lpx] (fun f => f ∈ headerFields) s t) : Within [.lpx] (fun f => f ∈ headerFields) s t.lpxTrainAll :=
  h.foldl (fun _ n k => .ite (k.lpxTrain n) k) _

theorem State.lpxHeader_within (s : State) (h : LpxHdr) : Within [.lpx] (fun f => f ∈ headerFields) s (s.lpxHeader h) :=
  ((s.lpxMapTook_within h.mode).mono (by simp) (by simp [headerFields])).foldl
    (fun _ _ k => (k.setR _ _ _ (by simp [headerFields])).setR _ _ _ (by simp [headerFields])) _

/-- A boot entry's operation, in hand. -/
def State.bootBegun (s : State) : State := ((s.setR Reg.BOOT_STAGE 0 0).setR Reg.BOOT_STALLS 0 0).opStart false 0 0 0

theorem State.bootBegun_eq (s : State) : s.bootBegun = ((s.setR Reg.BOOT_STAGE 0 0).setR Reg.BOOT_STALLS 0 0).opSet false 0 0 0 := by
  obtain ⟨-, hsrc⟩ := State.opSet_reads ((s.setR Reg.BOOT_STAGE 0 0).setR Reg.BOOT_STALLS 0 0) false 0 0 0
  rw [State.bootBegun, State.opStart_eq, State.stageMirror_other (by rw [hsrc]; decide)]

theorem State.bootBegun_within (s : State) : Within [.dawn] (fun f => f ∈ Reg.BOOT_STAGE :: Reg.BOOT_STALLS :: opFields) s s.bootBegun := by
  rw [State.bootBegun_eq]
  exact (((Within.refl s).setR _ _ _ (by simp)).setR _ _ _ (by simp)).trans
    ((State.opSet_within _ false 0 0 0).mono (fun _ h => h) (fun f h => by simp [h]))

theorem State.bootBegun_reads (s : State) : s.bootBegun.getR Reg.DWN_STAT_STATE 0 = 1 ∧ s.bootBegun.getR Reg.DWN_STAT_SRC 0 = 0
    ∧ s.bootBegun.dawn.op = some ⟨false, 0, none, false⟩ := by
  rw [State.bootBegun_eq]
  obtain ⟨hst, hsrc⟩ := State.opSet_reads ((s.setR Reg.BOOT_STAGE 0 0).setR Reg.BOOT_STALLS 0 0) false 0 0 0
  exact ⟨hst, hsrc, rfl⟩

theorem State.bootEntry_some (s : State) (h : LpxHdr) :
    s.bootEntry (some h) = ((s.bootBegun.lpxHeader h).lpxTrainAll.fullBegin).setR Reg.DWN_STAT_PHASE 0 2 := rfl

theorem State.dawn_setR (s : State) (f : Field) (i v : Nat) : (s.setR f i v).dawn = s.dawn := rfl

/-- An entry with a header: its operation reads the stream, and configuration memory is clear. -/
theorem State.bootEntry_reads (s : State) (h : LpxHdr) :
    (s.bootEntry (some h)).getR Reg.DWN_STAT_STATE 0 = 1 ∧ (s.bootEntry (some h)).getR Reg.DWN_STAT_PHASE 0 = 2
      ∧ (s.bootEntry (some h)).getR Reg.DWN_STAT_SRC 0 = 0 ∧ (s.bootEntry (some h)).fab.cells = [] ∧ (s.bootEntry (some h)).dawn.frames = []
      ∧ (s.bootEntry (some h)).dawn.op = some ⟨false, 0, none, false⟩ := by
  rw [State.bootEntry_some]
  obtain ⟨hst, hsrc, hop⟩ := s.bootBegun_reads
  have hhdr := (s.bootBegun.lpxHeader_within h).lpxTrainAll
  generalize (s.bootBegun.lpxHeader h).lpxTrainAll = v at hhdr ⊢
  obtain ⟨hcells, -, hframes, hkept, hfull⟩ := v.fullBegin_reads
  have hdawn : v.dawn = s.bootBegun.dawn := hhdr.part_eq .dawn (by decide)
  rw [State.fab_setR, State.dawn_setR]
  refine ⟨?_, State.getR_setR_self .., ?_, hcells, hframes, hkept.trans ((congrArg Dawn.op hdawn).trans hop)⟩
  · rw [State.getR_setR_id _ _ _ _ _ _ (by decide), hfull.getR_eq _ _ (by decide), hhdr.getR_eq _ _ (by decide), hst]
  · rw [State.getR_setR_id _ _ _ _ _ _ (by decide), hfull.getR_eq _ _ (by decide), hhdr.getR_eq _ _ (by decide), hsrc]

/-! ### An entry without a header fails (R606, R624) -/

theorem State.dropImages_within (s : State) : Within (.dawn :: memParts) (fun f => f ∈ memFields) s s.dropImages := by
  refine Within.modDawn (((Within.refl (ps := memParts) (W := fun f => f ∈ memFields) s).foldl (fun v r k => ?_) _).mono
    (fun _ h => List.mem_cons_of_mem _ h) (fun _ h => h)) _ (by simp)
  refine .ite (k.writeRange _ _ _ _ _ _) ?_
  split
  · exact k.foldl (fun _ _ j => j.invalidate _) _
  · exact k.invalidate _
  · exact k

theorem State.bootNext_last (code : Nat) (h : s.getR Reg.BOOT_COUNT 0 ≤ s.getR Reg.DWN_BOOT_ENTRY 0 + 1) : s.bootNext code = s.bootFail code :=
  if_neg (by omega)

/-- The fields that a boot entry's start and failure write. -/
def bootFailFields : List Field := Reg.BOOT_STAGE :: Reg.BOOT_STALLS :: (opFields ++ (memFields ++ opEndFields))

/-- The last entry without a header: the operation has ended FAILED with code 1, and the boot has come to nothing. -/
theorem State.bootEntry_fails (h : s.getR Reg.BOOT_COUNT 0 ≤ s.getR Reg.DWN_BOOT_ENTRY 0 + 1) :
    (s.bootEntry none).getR Reg.DWN_STAT_STATE 0 = 4 ∧ (s.bootEntry none).getR Reg.DWN_STAT_CODE 0 = 1
      ∧ (s.bootEntry none).getR Reg.DWN_BOOT_NOCFG 0 = 1 := by
  obtain ⟨-, -, hop⟩ := s.bootBegun_reads
  have heq : s.bootEntry none = (((s.bootBegun.clearFrames (fun _ => true)).dropImages).opFailed 1).bootNext 1 := State.opFail_boot 1 hop rfl rfl
  have hdrop : Within (.fab :: .ic :: .tio :: .dawn :: memParts) (fun f => f ∈ bootFailFields) s (s.bootBegun.clearFrames (fun _ => true)).dropImages :=
    (Within.clearFrames (s.bootBegun_within.mono (by simp) (fun f hf => by
      simp only [List.mem_cons] at hf; rcases hf with hf | hf | hf <;> simp [bootFailFields, hf])) _ (by simp) (by simp) (by simp) (by simp)).trans
      ((State.dropImages_within _).mono (by decide) (fun f hf => by simp [bootFailFields, hf]))
  generalize (s.bootBegun.clearFrames (fun _ => true)).dropImages = v at heq hdrop
  have hfail := v.opFailed_within 1
  obtain ⟨hst, hcode, -⟩ := v.opFailed_reads (code := 1) (by decide)
  have hread : ∀ f : Field, (∀ g ∈ bootFailFields, f.id % Field.idBound ≠ g.id % Field.idBound) → (v.opFailed 1).getR f 0 = s.getR f 0 := fun f hf =>
    (hfail.getR_eq f 0 (fun g hg => hf g (by simp [bootFailFields, hg]))).trans (hdrop.getR_eq f 0 hf)
  rw [heq, State.bootNext_last 1 (by rw [hread _ (by decide), hread _ (by decide)]; exact h)]
  have hend := (v.opFailed 1).bootFail_within 1
  exact ⟨(hend.getR_eq _ _ (by decide)).trans hst, (hend.getR_eq _ _ (by decide)).trans hcode, ((v.opFailed 1).bootFail_reads 1).1⟩

/-! ### Where bytes and zero words lie (R597, R604) -/

theorem length_zeroWords (n i c d : Nat) : (zeroWords n i c d).length = n := by
  induction n generalizing i c d with
  | zero => rfl
  | succ n ih => simp only [zeroWords, apply_ite List.length, List.length_cons, ih, ite_self]

/-- A group of three words whose second one is stored. -/
theorem zeroWords_second {w : Nat} (hw : w < 2 ^ 64) : zeroWords 3 0 0 (2 + 256 * w) = [0, w, 0] := by
  have hg : (2 + 256 * w) % 256 = 2 := by omega
  have hr : (2 + 256 * w) / 256 = w := by omega
  have h0 : nbit 2 0 = false := by decide
  have h1 : nbit 2 1 = true := by decide
  have h2 : nbit 2 2 = false := by decide
  simpa [zeroWords, hg, hr, h0, h1, h2] using hw

theorem flashSteps_octal {src : Nat} (second : Bool) (h : src < 2) : flashSteps src second =
    [.command false 0x66, .command false 0x99, .command true 0x66, .command true 0x99, .command false 0x5A, .enterOctal] ++ dirReads src second := by
  rw [flashSteps, if_neg (by omega)]

theorem dirReads_octal {src : Nat} (h : src < 2) : dirReads src false = [.read 0xEE11 0] := by
  have h2 : src ≠ 2 := by omega
  simp [dirReads, flashPlace, h2]

/-- Where byte pairs alternate between two devices, the first two of four bytes lie in the first and the others in the second. -/
theorem flashPlace_pairs (a : Nat) : flashPlace 1 (4 * a) = (0, 2 * a) ∧ flashPlace 1 (4 * a + 1) = (0, 2 * a + 1)
    ∧ flashPlace 1 (4 * a + 2) = (1, 2 * a) ∧ flashPlace 1 (4 * a + 3) = (1, 2 * a + 1) := by
  simp only [flashPlace, if_true, Prod.mk.injEq]
  omega

/-! ### A stalled flash (R599) -/

theorem execDawnFlashStall_reading (hr : s.reading = true) (h0 : s.getR Reg.DWN_STAT_SRC 0 = 0) :
    execDawnFlashStall s = .next (if s.flag Reg.BOOT_STALLS 0 then s.opFail 14 else s.setR Reg.BOOT_STALLS 0 1) := by
  simp [execDawnFlashStall, hr, h0]

theorem execDawnFlashStall_other (h : s.reading = false ∨ s.getR Reg.DWN_STAT_SRC 0 ≠ 0) : execDawnFlashStall s = .next s := by
  rcases h with h | h <;> simp [execDawnFlashStall, h]

end Sys2Proof.Machine
end

section
/-!
PROOF. Dawn's commands on the operation in hand (R606 to R616): what the reading of a stream, its verification and its second reading come to.
-/

namespace Sys2Proof.Machine

variable {ps : List Part} {W : Field → Prop} {s t u v : State} {o : DawnOp} {f : Stream} {x : StreamCheck}

/-! ### A step whose state leaves BUS_HOOK alone -/

/-- What leaves BUS_HOOK ends in its own state, with the words of BUS_HOOK clear. -/
theorem Within.next_settle (h : Within ps W s.noHook u) (hW : ∀ f, W f → Reg.BUS_HOOK.id % Field.idBound ≠ f.id % Field.idBound) (hv : v = u) :
    (.next v.settle : Result) = .next u.noHook := by rw [hv, h.settle hW]

theorem Within.part_noHook (h : Within ps W s.noHook u) (p : Part) (hp : p ∉ ps) : p.same s u.noHook :=
  (((s.noHook_within.mono (V := anyField) (by simp) (fun _ _ => trivial)).trans (h.mono (fun _ k => k) (fun _ _ => trivial))).trans
    (u.noHook_within.mono (by simp) (fun _ _ => trivial))).part_eq p hp

/-! ### A stream has been read (R606, R607) -/

/-- A stream that is read passes on to its verification. -/
def State.readPassed (s : State) (o : DawnOp) (f : Stream) : State :=
  (s.modDawn (fun d => { d with op := some { o with stream := some f } })).setR Reg.DWN_STAT_PHASE 0 3

theorem State.readPassed_within (s : State) (o : DawnOp) (f : Stream) : Within [.dawn] (fun g => g ∈ [Reg.DWN_STAT_PHASE]) s (s.readPassed o f) :=
  ((Within.refl s).modDawn _ (by decide)).setR _ _ _ (by simp)

/-- A stream that asks for a higher feature level is reported. -/
def State.levelReported (s : State) (code : Nat) (f : Stream) : State :=
  if code = 2 then s.raise dawnEp 0x0901 4 (s.getR Reg.DEV_FEAT_PKG_FLEVEL 0 + f.minFlevel.toNat * 2 ^ 8) else s

theorem State.levelReported_within (s : State) (code : Nat) (f : Stream) : Within [.events] (fun g => g ∈ opEndFields) s (s.levelReported code f) :=
  .ite ((Within.refl s).raise _ _ _ _ (by decide)) (.refl s)

section
variable (hr : s.reading = true) (hop : s.dawn.op = some o) (hs : o.src ≠ 0)
include hr hop hs

theorem State.streamReadDone_passes (hl : f.legacy = false) (hc : s.readCode o f = 0) : s.streamReadDone f = s.readPassed o f := by
  simp [State.streamReadDone, State.streamRead, State.readPassed, hr, hop, hs, hl, hc]

theorem State.streamReadDone_fails (hn : o.committed = false) (hc : s.readCode o f ≠ 0) :
    s.streamReadDone f = (s.levelReported (s.readCode o f) f).opFailed (s.readCode o f) := by
  have hdawn : (s.levelReported (s.readCode o f) f).dawn = s.dawn := (s.levelReported_within _ f).part_eq .dawn (by decide)
  rw [← State.opFail_staged _ (by rw [hdawn, hop]) hs hn]
  simp [State.streamReadDone, State.streamRead, State.levelReported, hr, hop, hs, hc]

end

theorem State.exec_readDone_passes (hr : s.reading = true) (hop : s.dawn.op = some o) (hs : o.src ≠ 0) (hl : f.legacy = false) (hc : s.readCode o f = 0) :
    ∃ t, exec (.dawnStreamReadDone f) s = .next t ∧ t.getR Reg.DWN_STAT_PHASE 0 = 3 ∧ t.dawn.op = some { o with stream := some f }
      ∧ t.mem = s.mem ∧ t.fab = s.fab ∧ t.events = s.events ∧ t.dawn.frames = s.dawn.frames := by
  have hstep : s.noHook.streamReadDone f = s.noHook.readPassed o f :=
    State.streamReadDone_passes (s.reading_noHook.trans hr) hop hs hl ((s.readCode_noHook o f).trans hc)
  have hw := s.noHook.readPassed_within o f
  exact ⟨_, hw.next_settle (by decide) hstep, (State.getR_noHook _ _ _ (by decide)).trans (State.getR_setR_self ..), rfl,
    hw.part_noHook .mem (by decide), hw.part_noHook .fab (by decide), hw.part_noHook .events (by decide), rfl⟩

/-- What an operation that ends FAILED shows, through the end of its step. -/
theorem State.opFailed_noHook (s : State) {code : Nat} (hc : code < 256) :
    (s.opFailed code).noHook.getR Reg.DWN_STAT_STATE 0 = 4 ∧ (s.opFailed code).noHook.getR Reg.DWN_STAT_CODE 0 = code
      ∧ (s.opFailed code).noHook.dawn.op = none := by
  obtain ⟨hst, hcode, hop⟩ := s.opFailed_reads hc
  exact ⟨(State.getR_noHook _ _ _ (by decide)).trans hst, (State.getR_noHook _ _ _ (by decide)).trans hcode, hop⟩

theorem State.exec_readDone_fails (hr : s.reading = true) (hop : s.dawn.op = some o) (hs : o.src ≠ 0) (hn : o.committed = false)
    (hc : s.readCode o f ≠ 0) : ∃ t, exec (.dawnStreamReadDone f) s = .next t ∧ t.getR Reg.DWN_STAT_STATE 0 = 4
      ∧ t.getR Reg.DWN_STAT_CODE 0 = s.readCode o f ∧ t.dawn.op = none ∧ t.mem = s.mem ∧ t.fab = s.fab := by
  have hstep := State.streamReadDone_fails (f := f) (s.reading_noHook.trans hr) hop hs hn (by rwa [s.readCode_noHook o f])
  rw [s.readCode_noHook o f] at hstep
  have hw : Within [.events, .dawn, .pcie] (fun g => g ∈ opEndFields) s.noHook ((s.noHook.levelReported (s.readCode o f) f).opFailed (s.readCode o f)) :=
    ((State.levelReported_within _ _ f).mono (by decide) (fun _ h => h)).trans (State.opFailed_within _ _)
  obtain ⟨hst, hcode, hend⟩ := State.opFailed_noHook (s.noHook.levelReported (s.readCode o f) f) (s.readCode_lt o f)
  exact ⟨_, hw.next_settle (by decide) hstep, hst, hcode, hend, hw.part_noHook .mem (by decide), hw.part_noHook .fab (by decide)⟩

/-! ### Sage has verified the stream (R606 to R609, R612, R615) -/

theorem State.keyMismatch_within (s : State) (slot : Nat) (hashed : Bool) : Within [.events] (fun g => g ∈ opEndFields) s (s.keyMismatch slot hashed) :=
  .ite ((Within.refl s).raise _ _ _ _ (by decide)) (.refl s)

theorem State.rigidNap_keyMismatch (s : State) (slot : Nat) (hashed : Bool) : (s.keyMismatch slot hashed).rigidNap = s.rigidNap := by
  unfold State.keyMismatch
  split <;> rfl

theorem State.verifyDone_eq (hp : s.getR Reg.DWN_STAT_PHASE 0 = 3) (hop : s.dawn.op = some o) (hf : o.stream = some f) :
    s.verifyDone x = s.verified o f x := by
  simp [State.verifyDone, hop, hf, hp]

/-- The state in which a stream's verification acts: a key that does not match has been reported. -/
def State.keyChecked (s : State) (f : Stream) (x : StreamCheck) : State := s.noHook.keyMismatch f.slot.toNat x.hashed

theorem State.keyChecked_within (s : State) (f : Stream) (x : StreamCheck) : Within [.events] (fun g => g ∈ opEndFields) s.noHook (s.keyChecked f x) :=
  State.keyMismatch_within ..

theorem State.keyChecked_op (s : State) (f : Stream) (x : StreamCheck) : (s.keyChecked f x).dawn.op = s.dawn.op :=
  congrArg Dawn.op ((s.keyChecked_within f x).part_eq .dawn (by decide))

/-- The operation in hand has its commit point behind it, and the second reading follows. -/
def State.opCommits (s : State) (o : DawnOp) : State :=
  (s.modDawn (fun d => { d with op := some { o with committed := true } })).setR Reg.DWN_STAT_PHASE 0 5

theorem State.opCommits_within (s : State) (o : DawnOp) : Within [.dawn] (fun g => g ∈ [Reg.DWN_STAT_PHASE]) s (s.opCommits o) :=
  ((Within.refl _).modDawn _ (by decide)).setR _ _ _ (by simp)

theorem State.opCommits_reads (s : State) (o : DawnOp) : (s.opCommits o).fab = s.fab ∧ (s.opCommits o).dawn.frames = s.dawn.frames
    ∧ (s.opCommits o).dawn.op = some { o with committed := true } := ⟨rfl, rfl, rfl⟩

/-- A staged full configuration begins, committed. -/
def State.fullBegun (s : State) (o : DawnOp) : State := s.fullBegin.opCommits o

theorem State.fullBegun_within (s : State) (o : DawnOp) : Within fullParts (fun g => g ∈ Reg.DWN_STAT_PHASE :: fullFields) s (s.fullBegun o) := by
  obtain ⟨-, -, -, -, hfull⟩ := s.fullBegin_reads
  exact (hfull.mono (fun _ h => h) (fun _ h => List.mem_cons_of_mem _ h)).trans ((s.fullBegin.opCommits_within o).mono (by decide) (by simp))

theorem State.fullBegun_reads (s : State) (o : DawnOp) : (s.fullBegun o).fab.cells = [] ∧ (s.fullBegun o).fab.rels = [] ∧ (s.fullBegun o).dawn.frames = []
    ∧ (s.fullBegun o).dawn.op = some { o with committed := true } := by
  obtain ⟨hcells, hrels, hframes, -, -⟩ := s.fullBegin_reads
  obtain ⟨hfab, hkept, hop⟩ := s.fullBegin.opCommits_reads o
  rw [State.fullBegun, hfab, hkept]
  exact ⟨hcells, hrels, hframes, hop⟩

section
variable (hp : s.getR Reg.DWN_STAT_PHASE 0 = 3) (hop : s.dawn.op = some o) (hf : o.stream = some f)
include hp hop hf

theorem State.verifyDone_noHook : s.noHook.verifyDone x =
    if s.verifyCode f x ≠ 0 then (s.keyChecked f x).opFail (s.verifyCode f x)
    else if o.part then (s.keyChecked f x).partCommit f
    else if o.src = 0 then (s.keyChecked f x).fullCommit f true
    else (s.keyChecked f x).fullBegun o := by
  rw [State.verifyDone_eq ((State.getR_noHook _ _ _ (by decide)).trans hp) hop hf, State.verified, State.verifyCode_noHook]
  rfl

theorem State.exec_verifyDone_fails (hn : o.committed = false) (hs : o.src ≠ 0) (hc : s.verifyCode f x ≠ 0) :
    ∃ t, exec (.dawnVerifyDone x) s = .next t ∧ t.getR Reg.DWN_STAT_STATE 0 = 4 ∧ t.getR Reg.DWN_STAT_CODE 0 = s.verifyCode f x
      ∧ t.dawn.op = none ∧ t.fab = s.fab ∧ t.mem = s.mem := by
  have hstep : s.noHook.verifyDone x = (s.keyChecked f x).opFailed (s.verifyCode f x) := by
    rw [State.verifyDone_noHook hp hop hf, if_pos hc, State.opFail_staged _ ((s.keyChecked_op f x).trans hop) hs hn]
  have hw := ((s.keyChecked_within f x).mono (qs := [.events, .dawn, .pcie]) (by decide) (fun _ h => h)).trans
    ((s.keyChecked f x).opFailed_within (s.verifyCode f x))
  obtain ⟨hst, hcode, hend⟩ := (s.keyChecked f x).opFailed_noHook (s.verifyCode_lt f x)
  exact ⟨_, hw.next_settle (by decide) hstep, hst, hcode, hend, hw.part_noHook .fab (by decide), hw.part_noHook .mem (by decide)⟩

theorem State.exec_verifyDone_full (hs : o.src ≠ 0) (hpart : o.part = false) (hc : s.verifyCode f x = 0) :
    ∃ t, exec (.dawnVerifyDone x) s = .next t ∧ t.getR Reg.DWN_STAT_PHASE 0 = 5 ∧ t.dawn.op = some { o with committed := true }
      ∧ t.fab.cells = [] ∧ t.fab.rels = [] ∧ t.dawn.frames = [] := by
  have hstep : s.noHook.verifyDone x = (s.keyChecked f x).fullBegun o := by
    rw [State.verifyDone_noHook hp hop hf, if_neg (not_not.2 hc), if_neg (by simp [hpart]), if_neg hs]
  have hw := ((s.keyChecked_within f x).mono (qs := fullParts) (V := fun g => g ∈ Reg.DWN_STAT_PHASE :: (opEndFields ++ fullFields)) (by decide)
    (fun _ h => List.mem_cons_of_mem _ (List.mem_append_left _ h))).trans (((s.keyChecked f x).fullBegun_within o).mono (fun _ h => h) (fun g h => by
      rcases List.mem_cons.1 h with h | h <;> simp [h]))
  obtain ⟨hcells, hrels, hframes, hend⟩ := (s.keyChecked f x).fullBegun_reads o
  have hkept := (((s.keyChecked f x).fullBegun o).noHook_within)
  have hfab : ((s.keyChecked f x).fullBegun o).noHook.fab = _ := hkept.part_eq .fab (by decide)
  have hdawn : ((s.keyChecked f x).fullBegun o).noHook.dawn = _ := hkept.part_eq .dawn (by decide)
  refine ⟨_, hw.next_settle (by decide) hstep, (State.getR_noHook _ _ _ (by decide)).trans (State.getR_setR_self ..), ?_⟩
  rw [hfab, hdawn]
  exact ⟨hend, hcells, hrels, hframes⟩

theorem State.exec_verifyDone_rigid (hn : o.committed = false) (hs : o.src ≠ 0) (hpart : o.part = true) (hr : (maskOf f).any s.rigidNap = true)
    (hc : s.verifyCode f x = 0) : ∃ t, exec (.dawnVerifyDone x) s = .next t ∧ t.getR Reg.DWN_STAT_STATE 0 = 4 ∧ t.getR Reg.DWN_STAT_CODE 0 = 12
      ∧ t.fab = s.fab := by
  have hrigid : (s.keyChecked f x).rigidNap = s.rigidNap := (State.rigidNap_keyMismatch ..).trans s.rigidNap_noHook
  have hstep : s.noHook.verifyDone x = ((s.keyChecked f x).setR Reg.DWN_STAT_PHASE 0 4).opFailed 12 := by
    rw [State.verifyDone_noHook hp hop hf, if_neg (not_not.2 hc), if_pos hpart]
    exact (if_pos (by rw [hrigid]; exact hr)).trans (State.opFail_staged 12 ((s.keyChecked_op f x).trans hop) hs hn)
  have hw := (((s.keyChecked_within f x).setR Reg.DWN_STAT_PHASE 0 4 (by simp [opEndFields])).mono (qs := [.events, .dawn, .pcie]) (by decide)
    (fun _ h => h)).trans (((s.keyChecked f x).setR Reg.DWN_STAT_PHASE 0 4).opFailed_within 12)
  obtain ⟨hst, hcode, -⟩ := ((s.keyChecked f x).setR Reg.DWN_STAT_PHASE 0 4).opFailed_noHook (code := 12) (by decide)
  exact ⟨_, hw.next_settle (by decide) hstep, hst, hcode, hw.part_noHook .fab (by decide)⟩

theorem State.exec_verifyDone_boot (hs : o.src = 0) (hpart : o.part = false) (hregs : f.regs = []) (hc : s.verifyCode f x = 0) :
    ∃ t, exec (.dawnVerifyDone x) s = .next t ∧ t.getR Reg.DWN_STAT_CONFIGURED 0 = 1 ∧ t.getR Reg.DWN_DIGEST_V 0 = f.digest.toNat
      ∧ t.getR Reg.DWN_BOOT_NOCFG 0 = 0 ∧ t.getR Reg.DWN_STAT_PHASE 0 = (if f.relHold && !f.legacy then 6 else 7) := by
  have hstep : s.noHook.verifyDone x = (s.keyChecked f x).fullCommit f true := by
    rw [State.verifyDone_noHook hp hop hf, if_neg (not_not.2 hc), if_neg (by simp [hpart]), if_pos hs]
  obtain ⟨hconf, hdig, hboot, hphase, hfull⟩ := (s.keyChecked f x).fullCommit_reads hregs
  have hw := ((s.keyChecked_within f x).mono (qs := commitParts) (V := fun g => g ∈ opEndFields ++ (commitFields ++ commitShown)) (by decide)
    (fun _ h => List.mem_append_left _ h)).trans (hfull.mono (fun _ h => h) (fun _ h => List.mem_append_right _ h))
  exact ⟨_, hw.next_settle (by decide) hstep, (State.getR_noHook _ _ _ (by decide)).trans hconf, (State.getR_noHook _ _ _ (by decide)).trans hdig,
    (State.getR_noHook _ _ _ (by decide)).trans hboot, (State.getR_noHook _ _ _ (by decide)).trans hphase⟩

end

/-! ### A partial stream is applied (R615, R616) -/

/-- A region is held: neither its outputs nor its state may change. -/
def State.heldAt (s : State) (rg : Nat) : Prop := s.getR Reg.FAB_OUTHOLD rg = 1 ∧ s.getR Reg.FAB_STHOLD rg = 1

theorem State.heldAt_holdRegion (s : State) (rg : Nat) : (s.holdRegion rg).heldAt rg := by
  obtain ⟨-, hst, -, -⟩ := s.holdRegion_reads rg
  refine ⟨?_, hst⟩
  unfold State.holdRegion
  extract_lets v w
  rw [State.getR_modFab]
  simp (disch := decide) only [w, State.getR_setR_id, State.getR_setR_self]
  rfl

theorem State.heldAt_kept {j : Nat} (h : s.heldAt j) (rg : Nat) : (s.holdRegion rg).heldAt j := by
  by_cases hj : j = rg
  · rw [hj]
    exact s.heldAt_holdRegion rg
  · obtain ⟨hout, hst⟩ := h
    have hread : ∀ f, (s.holdRegion rg).getR f j = s.getR f j := by
      intro f
      have hb : (if s.outputsLive rg then s.holdBorders rg else s).getR f j = s.getR f j := by split <;> rfl
      unfold State.holdRegion
      extract_lets v w
      rw [State.getR_modFab]
      simp only [w, State.getR_setR_ix _ _ _ _ _ _ hj]
      exact hb
    exact ⟨(hread _).trans hout, (hread _).trans hst⟩

/-- Every region of a list is held. -/
def State.holdRegions (s : State) (m : List Nat) : State := m.foldl (fun u rg => u.holdRegion rg) s

theorem State.heldAt_holdRegions (s : State) {m : List Nat} {rg : Nat} (h : rg ∈ m ∨ s.heldAt rg) : (s.holdRegions m).heldAt rg := by
  unfold State.holdRegions
  induction m generalizing s with
  | nil => exact h.resolve_left (by simp)
  | cons a m ih =>
    refine ih (s.holdRegion a) ?_
    rcases h with h | h
    · rcases List.mem_cons.1 h with rfl | h
      · exact .inr (s.heldAt_holdRegion rg)
      · exact .inl h
    · exact .inr (State.heldAt_kept h a)

theorem State.holdRegions_within (s : State) (m : List Nat) : Within [.ic, .tio, .fab] (fun g => g ∈ holdFields) s (s.holdRegions m) :=
  (Within.refl s).foldl (fun _ rg k => k.holdRegion rg (by decide) (by decide) (by decide) (fun _ h => h)) m

theorem State.applyDone_eq {poison : Bool} (hp : s.getR Reg.DWN_STAT_PHASE 0 = 5) (hop : s.dawn.op = some o) (hf : o.stream = some f)
    (hc : o.committed = true) : s.applyDone poison = s.applied o f poison := by
  simp [State.applyDone, hop, hf, hc, hp]

/-- A partial stream without register records is in its regions. -/
def State.partWritten (s : State) (f : Stream) : State :=
  (((s.holdRegions (maskOf f)).writeFrames f).restoreRam (fun rg => (maskOf f).contains rg)).bufferEnd

theorem State.partWritten_within (s : State) (f : Stream) :
    Within [.ic, .tio, .fab, .dawn] (fun g => g ∈ bufferFields) (s.holdRegions (maskOf f)) (s.partWritten f) :=
  Within.bufferEnd (((Within.refl _).writeFrames f (by decide) (by decide) (by decide) (by decide)).modFab _ (by decide)) (fun _ h => h)

section
variable (hp : s.getR Reg.DWN_STAT_PHASE 0 = 5) (hop : s.dawn.op = some o) (hf : o.stream = some f) (hc : o.committed = true) (hpart : o.part = true)
  (hm : (maskOf f).all (fun rg => (s.region rg).causes.contains 2) = true)
include hp hop hf hc hpart hm

theorem State.applyDone_poisoned (hs : o.src ≠ 0) : s.applyDone true = ((s.holdRegions (maskOf f)).maskFailed (maskOf f)).opFailed 11 := by
  have hdawn : (s.holdRegions (maskOf f)).dawn = s.dawn := (s.holdRegions_within _).part_eq .dawn (by decide)
  rw [← State.opFail_part 11 (by rw [hdawn, hop]) hs hpart hc hf, State.applyDone_eq hp hop hf hc]
  exact (if_pos hpart).trans ((if_neg (by rw [hm]; decide)).trans (if_pos rfl))

theorem State.applyDone_applied (hregs : f.regs = []) : s.applyDone false = (s.partWritten f).scheduleRelease f.relHold (maskOf f) 2 false := by
  rw [State.applyDone_eq hp hop hf hc, State.applied, if_pos hpart, hregs]
  exact (if_neg (by rw [hm]; decide)).trans (if_neg (by decide))

theorem State.exec_applyDone_poisoned (hs : o.src ≠ 0) : ∃ t, exec (.dawnApplyDone true) s = .next t ∧ t.getR Reg.DWN_STAT_STATE 0 = 4
    ∧ t.getR Reg.DWN_STAT_CODE 0 = 11 ∧ t.mem = s.mem := by
  have hstep := State.applyDone_poisoned (s := s.noHook) ((State.getR_noHook _ _ _ (by decide)).trans hp) hop hf hc hpart hm hs
  have hw := (((s.noHook.holdRegions_within (maskOf f)).mono (qs := [.fab, .ic, .tio, .dawn, .events, .pcie])
    (V := fun g => g ∈ holdFields ++ (causeFields ++ opEndFields)) (by decide) (fun _ h => by simp [h])).trans
    ((State.maskFailed_within _ (maskOf f)).mono (by decide) (fun _ h => by simp [h]))).trans
    ((State.opFailed_within _ 11).mono (by decide) (fun _ h => by simp [h]))
  obtain ⟨hst, hcode, -⟩ := State.opFailed_noHook ((s.noHook.holdRegions (maskOf f)).maskFailed (maskOf f)) (code := 11) (by decide)
  exact ⟨_, hw.next_settle (by decide) hstep, hst, hcode, hw.part_noHook .mem (by decide)⟩

theorem State.exec_applyDone_applied (hregs : f.regs = []) : ∃ t, exec (.dawnApplyDone false) s = .next t
    ∧ t.getR Reg.DWN_STAT_PHASE 0 = (if f.relHold then 6 else 7) ∧ t.mem = s.mem ∧ (f.relHold = true → t.dawn.held = some ⟨maskOf f, 2, false⟩)
      ∧ (∀ rg ∈ maskOf f, t.flag Reg.FAB_OUTHOLD rg = true ∧ t.flag Reg.FAB_STHOLD rg = true) := by
  have hstep := State.applyDone_applied (s := s.noHook) ((State.getR_noHook _ _ _ (by decide)).trans hp) hop hf hc hpart hm hregs
  have hlater := ((s.noHook.partWritten_within f).mono (qs := [.ic, .tio, .fab, .dawn]) (V := fun g => g ∈ Reg.DWN_STAT_PHASE :: bufferFields) (by decide)
    (fun _ h => by simp [h])).trans (((s.noHook.partWritten f).scheduleRelease_within f.relHold (maskOf f) 2 false).mono (by decide) (by simp))
  have hw := ((s.noHook.holdRegions_within (maskOf f)).mono (qs := [.ic, .tio, .fab, .dawn])
    (V := fun g => g ∈ Reg.DWN_STAT_PHASE :: (holdFields ++ bufferFields)) (by decide) (fun _ h => by simp [h])).trans
    (hlater.mono (fun _ h => h) (fun g h => by rcases List.mem_cons.1 h with h | h <;> simp [h]))
  refine ⟨_, hw.next_settle (by decide) hstep, (State.getR_noHook _ _ _ (by decide)).trans (State.scheduleRelease_phase ..), hw.part_noHook .mem (by decide),
    fun hh => ?_, fun rg hrg => ?_⟩
  · rw [hh]
    rfl
  · obtain ⟨hout, hst⟩ := s.noHook.heldAt_holdRegions (m := maskOf f) (.inl hrg)
    have hread : ∀ g : Field, (∀ k ∈ hookFields ++ Reg.DWN_STAT_PHASE :: bufferFields, g.id % Field.idBound ≠ k.id % Field.idBound) →
        (s.noHook.holdRegions (maskOf f)).getR g rg = 1 → State.flag (State.noHook _) g rg = true := fun g hg h1 =>
      decide_eq_true (((State.getR_noHook _ _ _ (fun k hk => hg k (by simp [hk]))).trans
        (hlater.getR_eq g rg (fun k hk => hg k (List.mem_append_right _ hk)))).trans h1)
    exact ⟨hread _ (by decide) hout, hread _ (by decide) hst⟩

end

end Sys2Proof.Machine
end

section
/-!
PROOF. Releases in their steps, the readback of configuration memory and the reload image (R139 to R141, R617 to R621).
-/

namespace Sys2Proof.Machine

variable {ps : List Part} {W : Field → Prop} {s t u : State} {n : Nat} {r : Release}

/-! ### GO of a held release (R618) -/

/-- A held release has its time. -/
def State.relScheduled (s : State) (h : HeldRel) : State :=
  let rel : Release := ⟨h.regions, BitVec.ofNat 64 (s.getR Reg.DWN_REL_AT_AT 0), s.releaseS h.regions, 0, h.cores, 0, h.cause⟩
  ((s.modDawn (fun d => { d with held := none })).modFab (fun f => { f with rels := Map.put f.rels s.newRel rel })).setR Reg.DWN_STAT_PHASE 0 7

theorem State.relGo_refused {h : HeldRel} (hh : s.dawn.held = some h)
    (hc : (s.getR Reg.TBS_SYNC_STAT_SYNC_STATE 0 ≠ 3 ∧ s.getR Reg.TBS_SYNC_STAT_SYNC_STATE 0 ≠ 5 ∧ s.role ≠ 2)
      ∨ before (s.getR Reg.DWN_REL_AT_AT 0) (plusTicks s.time.toNat 1048576) = true) : s.relGo = s.setR Reg.DWN_REL_CTL_REJ 0 1 := by
  rw [State.relGo, hh]
  exact if_pos hc

theorem State.relGo_scheduled {h : HeldRel} (hh : s.dawn.held = some h) (hrole : s.role = 2)
    (hb : before (s.getR Reg.DWN_REL_AT_AT 0) (plusTicks s.time.toNat 1048576) = false) : s.relGo = s.relScheduled h := by
  rw [State.relGo, hh]
  exact if_neg (by simp [hrole, hb])

theorem State.relGo_none (hh : s.dawn.held = none) : s.relGo = s := by rw [State.relGo, hh]

theorem State.relScheduled_reads (s : State) (h : HeldRel) :
    (s.relScheduled h).getR Reg.DWN_STAT_PHASE 0 = 7 ∧ (s.relScheduled h).dawn.held = none
      ∧ (s.relScheduled h).rel s.newRel
        = some ⟨h.regions, BitVec.ofNat 64 (s.getR Reg.DWN_REL_AT_AT 0), s.releaseS h.regions, 0, h.cores, 0, h.cause⟩ :=
  ⟨State.getR_setR_self .., rfl, Map.find_put_self ..⟩

/-! ### The steps of a release (R139 to R141, R617) -/

theorem exec_release_none (h : s.rel n = none) : exec (.ramRestoreDone n) s = .next s ∧ exec (.outholdRelease n) s = .next s
    ∧ exec (.wrholdRelease n) s = .next s ∧ exec (.stholdRelease n) s = .next s := by
  refine ⟨?_, ?_, ?_, ?_⟩
  · change execRamRestoreDone n s = _
    rw [execRamRestoreDone, h]
  · change execOutholdRelease n s = _
    rw [execOutholdRelease, h]
  · change execWrholdRelease n s = _
    rw [execWrholdRelease, h]
  · change execStholdRelease n s = _
    rw [execStholdRelease, h]

section
variable (h : s.rel n = some r)
include h

theorem exec_ramRestoreDone : exec (.ramRestoreDone n) s = s.when (decide (r.restoring = 1))
    ((s.restoreRam (fun rg => r.regions.contains rg)).putRel n { r with restoring := 2 }).restored := by
  change execRamRestoreDone n s = _
  rw [execRamRestoreDone, h]

theorem exec_outholdRelease : exec (.outholdRelease n) s =
    s.when (decide (r.done = 0) && decide (r.restoring = 0) && s.dueAt (relTime r)) (s.outhold n r) := by
  change execOutholdRelease n s = _
  rw [execOutholdRelease, h]

theorem exec_wrholdRelease : exec (.wrholdRelease n) s =
    s.when (decide (r.done = 1) && s.dueAt (relTime r)) ((s.askAll r 1).putRel n { r with done := 2 }) := by
  change execWrholdRelease n s = _
  rw [execWrholdRelease, h]

theorem exec_stholdRelease : exec (.stholdRelease n) s = s.when (decide (r.done = 2) && s.dueAt (relTime r)) (s.sthold n r) := by
  change execStholdRelease n s = _
  rw [execStholdRelease, h]

end

theorem State.rel_putRel (s : State) (n : Nat) (r : Release) : (s.putRel n r).rel n = some r := Map.find_put_self ..

/-- The OUTHOLD step of a region's or a partial configuration's release. -/
theorem State.outhold_plain (h : r.cause ≠ 5) : s.outhold n r =
    ((if s.jumped r.tr.toNat then (s.askAll r 0).raise dawnEp 0x0906 3 (s.dwnDetail 0 r.tr.toNat) else s.askAll r 0)).putRel n { r with done := 1 } := by
  rw [State.outhold, if_neg h]

/-- What a full configuration left for its OUTHOLD step has followed it. -/
theorem State.outhold_full (h : r.cause = 5) : (s.outhold n r).flag Reg.RBK_ON 0 = true ∧ (s.outhold n r).getR Reg.SVP_PRECFG 0 = 0
    ∧ (s.outhold n r).dawn.late = [] := by
  rw [State.outhold, if_pos h, State.putRel]
  refine ⟨decide_eq_true ?_, ?_, rfl⟩
  · rw [State.getR_modFab, State.getR_setR_self]
    rfl
  · rw [State.getR_modFab, State.getR_setR_id _ _ _ _ _ _ (by decide), State.getR_setR_self]
    rfl

/-- A step that a region takes at its next edge is noted for it. -/
theorem Within.askStep_noted (h : Within ps W s t) (rg cause : Nat) {step : Nat} (hs : step ≠ 3) (hp : W Reg.FAB_RELP) (hc : W Reg.FAB_RELC) :
    Within ps W s (t.askStep rg step cause) := by
  rw [State.askStep, if_neg (by simp [hs])]
  exact .ite ((h.setR _ _ _ hp).setR _ _ _ hc) (h.setR _ _ _ hp)

theorem State.askAll_within (s : State) (r : Release) {step : Nat} (hs : step ≠ 3) :
    Within [] (fun f => f ∈ [Reg.FAB_RELP, Reg.FAB_RELC]) s (s.askAll r step) :=
  (Within.refl s).foldl (fun _ rg k => k.askStep_noted rg _ hs (by simp) (by simp)) _

/-! ### The STHOLD step ends a release (R617, R618) -/

/-- A release is over. -/
def State.relOver (s : State) (n : Nat) (r : Release) : State := (s.askAll r 2).modFab (fun f => { f with rels := Map.erase f.rels n })

theorem State.relOver_within (s : State) (n : Nat) (r : Release) : Within [.fab] (fun f => f ∈ [Reg.FAB_RELP, Reg.FAB_RELC]) s (s.relOver n r) :=
  ((s.askAll_within r (by decide)).mono (by simp) (fun _ h => h)).modFab _ (by decide)

theorem State.relOver_rels (s : State) (n : Nat) (r : Release) : (s.relOver n r).fab.rels = Map.erase s.fab.rels n := by
  have hfab : (s.askAll r 2).fab = s.fab := (s.askAll_within r (by decide)).part_eq .fab (by decide)
  rw [State.relOver, State.fab_modFab, hfab]

/-- The fields of the harts that start. -/
def hartFields : List Field := [Reg.HART_RUN, Reg.HART_PC]

theorem State.startCores_within (s : State) : Within [] (fun f => f ∈ hartFields) s s.startCores :=
  (Within.refl s).foldl (fun _ _ k => (k.setR _ _ _ (by simp [hartFields])).setR _ _ _ (by simp [hartFields])) _

/-- Started, a core runs from its boot address. -/
theorem State.startCores_reads (s : State) {k : Nat} (hk : k < 4) :
    s.startCores.getR Reg.HART_RUN k = 1 ∧ s.startCores.getR Reg.HART_PC k = Reg.HART_PC.norm (s.getR Reg.CTL_BOOT_ADDR k) := by
  have hrange : List.range 4 = [0, 1, 2, 3] := rfl
  have hone : Reg.HART_RUN.norm 1 = 1 := rfl
  simp only [State.startCores, hrange, List.foldl_cons, List.foldl_nil]
  interval_cases k <;> simp (disch := decide) only [State.getR_setR_id, State.getR_setR_ix, State.getR_setR_self, hone, and_self]

/-- A release is over, and its cores run. -/
def State.coresUp (s : State) (n : Nat) (r : Release) : State :=
  if r.cores && decide (s.pstate 125 = 0) then (s.relOver n r).startCores else s.relOver n r

theorem State.coresUp_within (s : State) (n : Nat) (r : Release) : Within [] (fun f => f ∈ hartFields) (s.relOver n r) (s.coresUp n r) :=
  .ite (State.startCores_within _) (.refl _)

/-- The release belongs to Dawn's operation in hand. -/
def State.relOwn (s : State) (r : Release) : Bool := s.dawn.op.isSome && (decide (r.cause = 2) || decide (r.cause = 5))

/-- A release's end is reported. -/
def State.relReported (s : State) (n : Nat) (r : Release) : State :=
  let t := if r.cause = 2 ∧ s.relOwn r = true then (s.coresUp n r).raise dawnEp 0x0902 0 (s.dwnDetail 0 0) else s.coresUp n r
  if r.cause = 1 then t else t.raise dawnEp 0x0905 0 ((if s.relOwn r then s.dwnDetail 0 0 else 0) + r.tr.toNat * 2 ^ 64)

theorem State.relReported_within (s : State) (n : Nat) (r : Release) : Within [.events] (fun f => f ∈ opEndFields) (s.coresUp n r) (s.relReported n r) := by
  have hfirst : Within [.events] (fun f => f ∈ opEndFields) (s.coresUp n r)
      (if r.cause = 2 ∧ s.relOwn r = true then (s.coresUp n r).raise dawnEp 0x0902 0 (s.dwnDetail 0 0) else s.coresUp n r) :=
    .ite ((Within.refl _).raise _ _ _ _ (by decide)) (.refl _)
  exact .ite hfirst (hfirst.raise _ _ _ _ (by decide))

theorem State.sthold_eq (s : State) (n : Nat) (r : Release) :
    s.sthold n r = if s.relOwn r then (s.relReported n r).opEnd 2 0 else s.relReported n r := rfl

theorem State.sthold_within (s : State) (n : Nat) (r : Release) :
    Within [.events, .dawn, .pcie] (fun f => f ∈ opEndFields) (s.coresUp n r) (s.sthold n r) := by
  rw [State.sthold_eq]
  have hw := (s.relReported_within n r).mono (qs := [.events, .dawn, .pcie]) (by decide) (fun _ h => h)
  exact .ite (hw.trans ((State.opEnd_frame _ 2 0).mono (by decide) (fun _ h => h))) hw

theorem State.sthold_rels (s : State) (n : Nat) (r : Release) : (s.sthold n r).fab.rels = Map.erase s.fab.rels n := by
  have hlast : (s.sthold n r).fab = (s.coresUp n r).fab := (s.sthold_within n r).part_eq .fab (by decide)
  have hcores : (s.coresUp n r).fab = (s.relOver n r).fab := (s.coresUp_within n r).part_eq .fab (by decide)
  rw [hlast, hcores, s.relOver_rels]

theorem State.sthold_mem (s : State) (n : Nat) (r : Release) : (s.sthold n r).mem = s.mem := by
  have hlast : (s.sthold n r).mem = (s.coresUp n r).mem := (s.sthold_within n r).part_eq .mem (by decide)
  have hcores : (s.coresUp n r).mem = (s.relOver n r).mem := (s.coresUp_within n r).part_eq .mem (by decide)
  exact (hlast.trans hcores).trans ((s.relOver_within n r).part_eq .mem (by decide))

theorem State.sthold_cores (hc : r.cores = true) (hp : s.pstate 125 = 0) {k : Nat} (hk : k < 4) :
    (s.sthold n r).flag Reg.HART_RUN k = true ∧ (s.sthold n r).getR Reg.HART_PC k = Reg.HART_PC.norm (s.getR Reg.CTL_BOOT_ADDR k) := by
  have hup : s.coresUp n r = (s.relOver n r).startCores := if_pos (by simp [hc, hp])
  have hlast := s.sthold_within n r
  rw [hup] at hlast
  obtain ⟨hrun, hpc⟩ := (s.relOver n r).startCores_reads hk
  refine ⟨decide_eq_true ((hlast.getR_eq _ _ (by decide)).trans hrun), (hlast.getR_eq _ _ (by decide)).trans ?_⟩
  rw [hpc, (s.relOver_within n r).getR_eq _ _ (by decide)]

theorem State.sthold_op (hc : r.cause = 2 ∨ r.cause = 5) (hop : s.dawn.op ≠ none) :
    (s.sthold n r).getR Reg.DWN_STAT_STATE 0 = 2 ∧ (s.sthold n r).getR Reg.DWN_STAT_CODE 0 = 0 ∧ (s.sthold n r).dawn.op = none := by
  have hown : s.relOwn r = true := by
    have hsome : s.dawn.op.isSome = true := Option.isSome_iff_ne_none.2 hop
    rcases hc with hc | hc <;> simp [State.relOwn, hsome, hc]
  rw [State.sthold_eq, if_pos hown]
  exact State.opEnd_reads _ 2 0

/-! ### What waits for a region's edge (R139, R141) -/

theorem State.regionSteps_single (s : State) (rg : Nat) :
    (s.getR Reg.FAB_RELP rg = 0 → s.regionSteps rg = s)
      ∧ (s.getR Reg.FAB_RELP rg = 1 → s.regionSteps rg =
        (((s.setR Reg.FAB_OUTHOLD rg 0).endIsolation rg (s.getR Reg.FAB_RELC rg)).setR Reg.FAB_JUST rg 1).setR Reg.FAB_RELP rg 0)
      ∧ (s.getR Reg.FAB_RELP rg = 2 → s.regionSteps rg = ((s.setR Reg.FAB_WRHOLD rg 0).setR Reg.FAB_JUST rg 2).setR Reg.FAB_RELP rg 0)
      ∧ (s.getR Reg.FAB_RELP rg = 4 → s.regionSteps rg = (((s.startFfs rg).dcqFlush rg).setR Reg.FAB_JUST rg 0).setR Reg.FAB_RELP rg 0)
      ∧ (s.getR Reg.FAB_RELP rg = 8 → s.regionSteps rg = ((s.holdRegion rg).setR Reg.FAB_JUST rg 0).setR Reg.FAB_RELP rg 0) := by
  refine ⟨fun h => ?_, fun h => ?_, fun h => ?_, fun h => ?_, fun h => ?_⟩ <;> rw [State.regionSteps, h] <;> rfl

/-! ### Readback (R620) -/

/-- A frame is checked: with the last one of a fabric die a scan is counted. -/
def State.scanned (s : State) (fd : Fin 8) (r : Fin 384) (index : BitVec 8) : State :=
  if r.val = 383 ∧ index = 255 then s.wrapAdd Reg.DWN_RBFD_SCANS_COUNT fd 1 else s

/-- What a frame's check finds: a single-bit error is counted and corrected, at a select too; a multi-bit error follows the region's policy. -/
def State.frameFound (s : State) (fd rg a : Nat) : FrameCheck → State
  | .clean => s
  | .single none => (s.satAdd Reg.DWN_RBFD_CNT_SBE fd 1).raise dawnEp 0x090A 1 (frameDetail a)
  | .single (some m) => ((s.satAdd Reg.DWN_RBFD_CNT_SBE fd 1).raise dawnEp 0x090A 1 (frameDetail a)).restoreSel rg m
  | .multi => s.frameMbu rg a

theorem execDawnReadbackScan_off {fd : Fin 8} {r : Fin 384} {index : BitVec 8} {found : FrameCheck}
    (h : s.flag Reg.RBK_ON 0 = false ∨ s.flag Reg.DWN_RBFD_CTL_EN fd = false) : execDawnReadbackScan fd r index found s = .next s :=
  if_pos (by rcases h with h | h <;> simp [h])

section
variable {fd : Fin 8} {r : Fin 384} {index : BitVec 8} {found : FrameCheck} (hon : s.flag Reg.RBK_ON 0 = true) (hen : s.flag Reg.DWN_RBFD_CTL_EN fd = true)
include hon hen

theorem execDawnReadbackScan_held (h : (s.region (rgn fd r)).causes.contains 2 = true ∨ (s.region (rgn fd r)).causes.contains 5 = true) :
    execDawnReadbackScan fd r index found s = .next (s.scanned fd r index) :=
  (if_neg (by simp [hon, hen])).trans (if_pos (by rcases h with h | h <;> rw [h] <;> simp))

/-- A frame of a region not held reports what it finds. -/
theorem execDawnReadbackScan_found (h2 : (s.region (rgn fd r)).causes.contains 2 = false) (h5 : (s.region (rgn fd r)).causes.contains 5 = false) :
    execDawnReadbackScan fd r index found s =
      .next ((s.scanned fd r index).frameFound fd (rgn fd r) (frameAddr (rgn fd r) index.toNat) found) := by
  refine (if_neg (by simp [hon, hen])).trans ((if_neg (by rw [h2, h5]; decide)).trans ?_)
  cases found with
  | clean => rfl
  | single m => cases m <;> rfl
  | multi => rfl

end

theorem State.frameMbu_count (s : State) (rg a : Nat) (h : s.getR Reg.FAB_RGN_RBK_POLICY rg = 0) :
    s.frameMbu rg a = (((s.satAdd Reg.DWN_RBFD_CNT_MBE (rg / 384) 1).setR Reg.DWN_RBFD_LAST_FRAME (rg / 384) a).setR Reg.FAB_RGN_RBK_MBE rg 1).raise dawnEp
      0x090B 4 (frameDetail a) := by
  rw [State.frameMbu, h]
  rfl

/-! ### The reload image (R621) -/

theorem norm_bit_of_width {f : Field} (ha : f.align = 0) (hw : f.width = 1) (b : Bool) : f.norm (bit b) = bit b :=
  Field.norm_of_lt ha (by rw [hw]; cases b <;> decide)

theorem decide_bit (b : Bool) : decide (bit b = 1) = b := by cases b <;> rfl

theorem State.reloadEnable_reads (s : State) (en : Bool) : (s.reloadEnable en).flag Reg.DWN_RELOAD_CTL_RELOAD_OK 0 = false
    ∧ (s.reloadEnable en).flag Reg.DWN_RELOAD_CTL_EN 0 = en ∧ (s.reloadEnable en).flag Reg.RELOAD_HASH 0 = en := by
  unfold State.reloadEnable State.flag
  simp (disch := decide) only [State.getR_setR_id, State.getR_setR_self]
  rw [norm_bit_of_width rfl rfl, norm_bit_of_width rfl rfl, decide_bit]
  exact ⟨rfl, rfl, rfl⟩

theorem State.reloadEnable_leaves (s : State) (en : Bool) :
    Leaves [.resp] [Reg.DWN_RELOAD_CTL_RELOAD_OK.key 0, Reg.DWN_RELOAD_CTL_EN.key 0, Reg.RELOAD_HASH.key 0] s ((s.respond 0 0).reloadEnable en) :=
  (((Leaves.refl.respond 0 0 false (by simp)).setR _ _ _ (by simp)).setR _ _ _ (by simp)).setR _ _ _ (by simp)

end Sys2Proof.Machine
end

section
/-!
PROOF. The next state of Dawn's commands, gathered from what each of them has been shown to do.
-/

namespace Sys2Proof.Machine

/-- Settles O51, command by command: boot, the operation in hand, releases, readback and reload, each from its own lemmas. -/
theorem dawnCommandsComplete : Obligations.DawnCommandsComplete := by
  unfold Obligations.DawnCommandsComplete
  refine ⟨?bootStart, ?bootEntry, ?bootNot, ?bootQuad, ?flash, ?stall, ?stallNot, ?steps, ?readDone, ?verifyDone, ?applyDone, ?relGo, ?relGoNot, ?ramDone,
    ?restored, ?stepNot, ?outhold, ?wrhold, ?sthold, ?askStep, ?regionSteps, ?scan, ?mbu, ?scanNot, ?reload⟩
  case bootStart =>
    intro s d dir quad hdr bad hr h1
    refine ⟨fun h => ⟨execDawnBootStart_noFlash hr h1 h, (s.linkTest bad).noCfg_reads.1⟩, fun h => execDawnBootStart_found (quad := quad) hr h1 h,
      fun h => execDawnBootStart_quadLost (quad := quad) hr h1 h, fun h => ⟨_, execDawnBootStart_bothLost hr h1 rfl h, State.fallenBack_fails rfl⟩⟩
  case bootEntry =>
    intro s dir quad hdr bad h2
    refine ⟨execDawnBootStart_entry h2, fun hh => ?_, fun hh hlast => ?_⟩
    · obtain ⟨h, rfl⟩ := Option.ne_none_iff_exists'.1 hh
      exact ⟨_, execDawnBootStart_entry h2, s.bootEntry_reads h⟩
    · rw [hh]
      exact ⟨_, execDawnBootStart_entry h2, State.bootEntry_fails hlast⟩
  case bootNot => exact fun s dir quad hdr bad h2 h => execDawnBootStart_idle h2 h
  case bootQuad =>
    rintro s t q hdr bad src ⟨hr, h1⟩ ⟨rfl, hs⟩ rfl
    exact execDawnBootStart_quadFound hr h1 rfl hs q
  case flash =>
    intro src a n second hs
    obtain ⟨h0, h1, h2, h3⟩ := flashPlace_pairs a
    exact ⟨flashSteps_octal second hs, rfl, rfl, dirReads_octal hs, h0, h1, h2, h3, rfl, rfl, length_zeroWords ..,
      zeroWords_second (Nat.mod_lt _ (by decide))⟩
  case stall => exact fun s hr h0 => execDawnFlashStall_reading hr h0
  case stallNot => exact fun s h => execDawnFlashStall_other h
  case steps =>
    intro s f v poison
    refine ⟨rfl, rfl, rfl, fun hop => ?_, fun hr => ?_, fun hp => ?_, fun hp => ?_⟩
    · simp [State.streamReadDone, State.verifyDone, State.applyDone, hop]
    · cases hop : s.dawn.op <;> simp [State.streamReadDone, hop, hr]
    · cases hop : s.dawn.op with
      | none => simp [State.verifyDone, hop]
      | some o => cases hf : o.stream <;> simp [State.verifyDone, hop, hf, hp]
    · cases hop : s.dawn.op with
      | none => simp [State.applyDone, hop]
      | some o => cases hf : o.stream <;> simp [State.applyDone, hop, hf, hp]
  case readDone =>
    rintro s o f hr ⟨hop, hs, hn⟩ hl
    exact ⟨State.exec_readDone_passes hr hop hs hl, State.exec_readDone_fails hr hop hs hn⟩
  case verifyDone =>
    rintro s o f v hp ⟨hop, hf, hn⟩
    refine ⟨fun hc hs => State.exec_verifyDone_fails hp hop hf hn hs hc, fun hc hs hpart => State.exec_verifyDone_full hp hop hf hs hpart hc,
      fun hc hpart hr hs => State.exec_verifyDone_rigid hp hop hf hn hs hpart hr hc, fun hc hpart hs hregs => ?_⟩
    obtain ⟨t, ht, hconf, hdig, hcfg, hphase⟩ := State.exec_verifyDone_boot hp hop hf hs hpart hregs hc
    exact ⟨t, ht, hconf, hdig, hcfg, fun hrel hl => by rw [hphase, hrel, hl]; rfl, fun hrel => by rw [hphase, hrel]; rfl⟩
  case applyDone =>
    rintro s o f hp ⟨hop, hf, hc⟩ ⟨hpart, hregs, hs⟩ hm
    exact ⟨State.exec_applyDone_poisoned hp hop hf hc hpart hm hs, State.exec_applyDone_applied hp hop hf hc hpart hm hregs⟩
  case relGo =>
    intro s req h hm hh
    have hexec : exec (.dwnRelGo req) s = .next (s.respond 0 0).relGo := congrArg Host.Outcome.next (if_pos hm)
    refine ⟨fun hc => ?_, fun hrole hb => ?_⟩
    · rw [hexec, State.relGo_refused (s := s.respond 0 0) hh hc]
    · rw [hexec, State.relGo_scheduled (s := s.respond 0 0) hh hrole hb]
      obtain ⟨hphase, hheld, hrel⟩ := (s.respond 0 0).relScheduled_reads h
      exact ⟨_, rfl, hphase, hheld, rfl, rfl, rfl, hrel⟩
  case relGoNot =>
    intro s req hh
    change execDwnRelGo req s = _
    rw [execDwnRelGo, State.relGo_none (s := s.respond 0 0) hh]
    rfl
  case ramDone =>
    rintro s n r ⟨h, hr⟩
    rw [exec_ramRestoreDone h, State.when_true _ _ (by simp [hr])]
  case restored => exact fun s => ⟨fun h => if_pos h, fun h => if_neg (by rw [h]; decide)⟩
  case stepNot =>
    intro s n
    refine ⟨exec_release_none, fun r h => ⟨fun hr => ?_, fun hr => ?_, fun hr => ?_, fun hr => ?_⟩⟩
    · rw [exec_ramRestoreDone h, State.when_false _ _ (by simp [hr])]
    · rw [exec_outholdRelease h, State.when_false _ _ (by rcases hr with hr | hr | hr <;> simp [hr])]
    · rw [exec_wrholdRelease h, State.when_false _ _ (by rcases hr with hr | hr <;> simp [hr])]
    · rw [exec_stholdRelease h, State.when_false _ _ (by rcases hr with hr | hr <;> simp [hr])]
  case outhold =>
    rintro s n r ⟨h, hd, hr⟩ hdue
    refine ⟨?_, State.outhold_plain, State.outhold_full, State.rel_putRel ..⟩
    rw [exec_outholdRelease h, State.when_true _ _ (by simp [hd, hr, hdue])]
  case wrhold =>
    rintro s n r ⟨h, hd⟩ hdue
    rw [exec_wrholdRelease h, State.when_true _ _ (by simp [hd, hdue])]
  case sthold =>
    rintro s n r ⟨h, hd⟩ hdue
    refine ⟨?_, s.sthold_rels n r, fun hc hp k hk => State.sthold_cores hc hp hk, State.sthold_op, s.sthold_mem n r⟩
    rw [exec_stholdRelease h, State.when_true _ _ (by simp [hd, hdue])]
  case askStep =>
    intro s rg cause
    refine ⟨rfl, rfl, rfl, fun h => ?_, fun h => ?_⟩ <;> simp [State.askStep, h]
  case regionSteps => exact State.regionSteps_single
  case scan =>
    rintro s t fd r index a ⟨hon, hen⟩ rfl rfl
    refine ⟨fun h found => execDawnReadbackScan_held hon hen h, fun h2 h5 => ⟨?_, ?_, fun m => ?_, ?_⟩⟩
    · exact execDawnReadbackScan_found (found := .clean) hon hen h2 h5
    · exact execDawnReadbackScan_found (found := (.single none)) hon hen h2 h5
    · exact execDawnReadbackScan_found (found := (.single (some m))) hon hen h2 h5
    · exact execDawnReadbackScan_found (found := .multi) hon hen h2 h5
  case mbu => exact State.frameMbu_count
  case scanNot => exact fun s fd r index found h => execDawnReadbackScan_off h
  case reload =>
    intro s en req digest
    refine ⟨fun hm => ?_, fun hm => ?_, fun hh => State.when_false _ _ hh, fun hh => State.when_true _ _ hh⟩
    · obtain ⟨hok, hen, hhash⟩ := (s.respond 0 0).reloadEnable_reads en
      exact ⟨_, congrArg Host.Outcome.next (if_pos hm), hok, hen, hhash, rfl, s.reloadEnable_leaves en⟩
    · exact congrArg Host.Outcome.next (if_neg (by rw [hm]; decide))

end Sys2Proof.Machine
end

section
/-!
PROOF. The routers (R181 to R223): what receiving a packet comes to, the turn of an output port, delivery, the wake buffer and the closing of ports.
-/

namespace Sys2Proof.Machine

variable {s : State} {n r input : Nat} {e : NetPkt} {p : Packet}

/-! ### A packet without a fault (R201 to R205) -/

theorem flippedBits_none (p : Packet) : flippedBits p {} = [] := rfl

theorem State.hopCe_none (s : State) (r input : Nat) (p : Packet) {f : HopFault} (hce : f.ce = []) (hw : f.wires = []) : s.hopCe r input p f = s := by
  simp [State.hopCe, lanesOf, wiresWith, hce, hw]

theorem State.hopChecks_none (s : State) (r input : Nat) (p : Packet) : s.hopChecks r input p {} = (p, s) := by
  simp only [State.hopChecks, flippedBits_none, List.filter_nil, List.isEmpty_nil, if_true, List.foldl_nil, List.contains_nil, Bool.false_eq_true, if_false,
    List.zipIdx_map_fst]

theorem seqError_none (hl : p.len ≠ 0) (hv : p.vc ≠ 3) : seqError p {} = false := by simp [seqError, flippedBits_none, hl, hv]

theorem State.setPkt_self (h : s.noc.net[n]? = some e) : s.setPkt n e = s := by
  obtain ⟨hlt, rfl⟩ := List.getElem?_eq_some_iff.1 h
  rw [State.setPkt, State.modNoc, List.set_getElem_self]

/-! ### ROUTER_PACKET_RECEIVE (R181 to R183, R216) -/

section
variable (h : s.noc.net[n]? = some e)
include h

theorem execRouterPacketReceive_past {d : Nat} (hp : e.place = .port d) (f : HopFault) : execRouterPacketReceive n f s = .next s := by
  simp only [execRouterPacketReceive, h, hp]

variable (hp : e.place = .router r input)
include hp

/-- A packet received earlier is routed again. -/
theorem execRouterPacketReceive_again (hout : e.out.isSome = true) (f : HopFault) : execRouterPacketReceive n f s = .next (s.forward n r e) := by
  simp only [execRouterPacketReceive, h, hp, hout, if_true]

variable (hout : e.out = none)
include hout

theorem execRouterPacketReceive_closing (hc : s.closingSource r input e.pkt = true) (f : HopFault) : execRouterPacketReceive n f s = .next s := by
  simp only [execRouterPacketReceive, h, hp, hout, hc, Option.isSome_none, Bool.false_eq_true, if_false, if_true]

variable (hc : s.closingSource r input e.pkt = false)
include hc

theorem execRouterPacketReceive_sound (hl : e.pkt.len ≠ 0) (hv : e.pkt.vc ≠ 3) : execRouterPacketReceive n {} s = .next (s.forward n r e) := by
  have hsame : ({ e with pkt := e.pkt, place := .router r input, out := none } : NetPkt) = e := by rw [← hp, ← hout]
  simp only [execRouterPacketReceive, h, hp, hout, hc, s.hopCe_none r input e.pkt (f := {}) rfl rfl, seqError_none hl hv, s.hopChecks_none, hsame,
    State.setPkt_self h, Option.isSome_none, List.filter_nil, List.isEmpty_nil, Bool.not_true, Bool.or_false, Bool.false_eq_true, if_false]

theorem execRouterPacketReceive_lostHeader :
    execRouterPacketReceive n { hdrUe := [2] } s = .next ((s.dropPkt n).dropHeader r input e [2]) := by
  have hbad : ([2].filter fun k => decide (k < 8)) = [2] := by decide
  simp only [execRouterPacketReceive, h, hp, hout, hc, s.hopCe_none r input e.pkt (f := { hdrUe := [2] }) rfl rfl, hbad, Option.isSome_none,
    List.isEmpty_cons, Bool.not_false, Bool.true_or, Bool.false_eq_true, if_false, if_true]

end

/-! ### Routing (R197, R200, R211, R212) -/

theorem State.forward_mesh {d : Nat} (h : s.hopOf r e.pkt = some d) (hd : d ≠ 4) :
    s.forward n r e = (s.setPkt n { e with out := some d }).outputTurn r d (epPort e.pkt.dest) := by
  simp only [State.forward, h, hd, if_false, State.await]

theorem State.forward_unreachable (h : s.hopOf r e.pkt = none) : s.forward n r e = (s.dropPkt n).unreachable r e.pkt := by
  simp only [State.forward, h]

/-- At its last router a packet for an OPEN port waits for it, unless held packets go before it (R212). -/
theorem State.forward_open (h : s.hopOf r e.pkt = some 4) (h31 : epPort e.pkt.dest ≠ 31) (h0 : s.portState (rtrEp r (epPort e.pkt.dest)) = 0)
    (hheld : e.pkt.cls = true ∨ heldFor ((s.portHeld r 4 (epPort e.pkt.dest)).wakeBuf r) (epPort e.pkt.dest) = []) : s.forward n r e =
      ((s.portHeld r 4 (epPort e.pkt.dest)).setPkt n { e with out := some 4 }).outputTurn r 4 (epPort e.pkt.dest) := by
  have hgo : (!e.pkt.cls && !(heldFor ((s.portHeld r 4 (epPort e.pkt.dest)).wakeBuf r) (epPort e.pkt.dest)).isEmpty) = false := by
    rcases hheld with h | h <;> simp [h]
  simp only [State.forward, h, if_true, State.atPort, h31, h0, hgo, Bool.false_and, Bool.false_eq_true, if_false, State.await]

/-! ### An output port's turn (R196) -/

section
variable {out lport : Nat} {u : State} (hu : u = s.portHeld r out lport)
include hu

theorem State.outputTurn_held (h : out = 4 ∧ (heldFor (u.wakeBuf r) lport).isEmpty = false) : s.outputTurn r out lport = u := by
  subst hu
  exact if_pos h

theorem State.outputTurn_none (h : u.choose r out lport = none) : s.outputTurn r out lport = u := by
  subst hu
  simp only [State.outputTurn, h, ite_self]

theorem State.outputTurn_sends {k : Nat} (hh : ¬(out = 4 ∧ (heldFor (u.wakeBuf r) lport).isEmpty = false)) (h : u.choose r out lport = some (k, e, n))
    (hf : u.foldDrops (outPort r (outNo out lport)) e.pkt = false) : s.outputTurn r out lport =
      (u.modNoc (fun x => { x with turns := Map.set 0 (Map.set 0 (Map.set 0 x.turns (turnKey (outPort r (outNo out lport)) k) (turnInput e))
        (turnKey (outPort r (outNo out lport)) (12 + e.pkt.vc)) (u.ncyc + flits e.pkt)) (turnKey (outPort r (outNo out lport)) 15) (u.ncyc + 1) })).send
        n r out lport e := by
  subst hu
  simp only [State.outputTurn, hh, h, hf, Bool.false_eq_true, if_false]

end

/-- A best-effort packet that alone waits for an unfolded port is chosen whatever the slot is for. -/
theorem State.choose_alone {out lport : Nat} (hall : s.candidates r out lport = [(e, n)]) (hvc : e.pkt.vc = 2) (hk : e.pkt.kind ≠ 6)
    (hfold : s.portFolded (outPort r (outNo out lport)) = false) (hfree : s.vcFree (outPort r (outNo out lport)) 2 = true) :
    ∃ k, s.choose r out lport = some (k, e, n) := by
  have howned : s.ownedBy (outPort r (outNo out lport)) s.nocSlot [(e, n)] = [] := by simp [State.ownedBy, hvc, hk]
  have hbg : bgFirst [(e, n)] = [] := by simp [bgFirst, ofVc, hvc]
  have hbe : ofVc 2 [(e, n)] = [(e, n)] := by simp [ofVc, hvc]
  have htop : topPrio [(e, n)] = [(e, n)] := by simp [topPrio]
  have hround : ∀ last, roundRobin last [(e, n)] = some (e, n) := fun _ => rfl
  have hnone : ∀ last, roundRobin last [] = none := fun _ => rfl
  by_cases h1 : slotKind false s.nocSlot = 1
  · refine ⟨0, ?_⟩
    simp [State.choose, hall, hfold, hvc, hfree, hbg, hbe, hround, hnone, h1]
  · refine ⟨1 + e.pkt.prio, ?_⟩
    simp [State.choose, hall, hfold, hvc, hfree, howned, hbg, hbe, htop, hround, hnone, h1]

/-! ### A packet is sent (R223) -/

theorem State.countFlits_noc (s : State) (r out : Nat) (p : Packet) : (s.countFlits r out p).noc = s.noc := by
  unfold State.countFlits
  split
  · rfl
  · split <;> rfl

theorem State.countFlits_leaves (s : State) (r out : Nat) (p : Packet) : Leaves [] [Reg.NOC_FLITS_CT_COUNT.key (pcIx r out),
    Reg.NOC_FLITS_BG_COUNT.key (pcIx r out), Reg.NOC_FLITS_BE_COUNT.key (pcIx r out)] s (s.countFlits r out p) :=
  (Leaves.refl.wrapAdd _ _ _ (by simp)).ite ((Leaves.refl.wrapAdd _ _ _ (by simp)).ite (Leaves.refl.wrapAdd _ _ _ (by simp)))

theorem State.lateCheck_bestEffort (h : e.pkt.cls = false) (s : State) (r : Nat) : s.lateCheck r e = (e, s) := if_neg (by simp [h])

/-- Where a packet stands once a router has sent it. -/
def sentTo (r out lport : Nat) (e : NetPkt) : Place :=
  if out = 4 then Place.port (rtrEp r lport) else match neighbour r out with | some q => Place.router q (opposite out) | none => e.place

theorem State.send_bestEffort {out lport : Nat} (h : e.pkt.cls = false) : s.send n r out lport e = ((s.dropPkt n).countFlits r out e.pkt).modNoc (fun x =>
    { x with net := x.net ++ [{ e with place := sentTo r out lport e, out := none, slot := s.nocSlot }] }) := by
  simp only [State.send, State.lateCheck_bestEffort h]
  rfl

theorem State.send_net {out lport : Nat} (h : e.pkt.cls = false) : (s.send n r out lport e).noc.net =
    s.noc.net.eraseIdx n ++ [{ e with place := sentTo r out lport e, out := none, slot := s.nocSlot }] := by
  rw [State.send_bestEffort h, State.modNoc_noc, State.countFlits_noc]
  rfl

theorem State.send_regs {out lport : Nat} (h : e.pkt.cls = false) : (s.send n r out lport e).regs = (s.countFlits r out e.pkt).regs := by
  rw [State.send_bestEffort h]
  unfold State.countFlits
  simp only [apply_ite State.regs, State.modNoc_regs]
  rfl

theorem State.send_leaves {out lport : Nat} (h : e.pkt.cls = false) : Leaves [.noc] [Reg.NOC_FLITS_CT_COUNT.key (pcIx r out),
    Reg.NOC_FLITS_BG_COUNT.key (pcIx r out), Reg.NOC_FLITS_BE_COUNT.key (pcIx r out)] s (s.send n r out lport e) := by
  rw [State.send_bestEffort h]
  have hdrop : Leaves [.noc] [Reg.NOC_FLITS_CT_COUNT.key (pcIx r out), Reg.NOC_FLITS_BG_COUNT.key (pcIx r out), Reg.NOC_FLITS_BE_COUNT.key (pcIx r out)]
      s (s.dropPkt n) := Leaves.refl.modNoc _ (by simp)
  exact (hdrop.trans ((State.countFlits_leaves _ _ _ _).mono (by simp) (fun _ h => h))).modNoc _ (by simp)

theorem State.dropHeader_lane2 (s : State) (r input : Nat) (e : NetPkt) : s.dropHeader r input e [2] =
    ((s.satAdd Reg.NOC_PERR_HDR (pcIx r (min input 4)) 1).raise (rtrSrc r) 0x0204 4 (nocDetail e.pkt (min input 4) 0 2)).dropReports r e.pkt true := rfl

/-! ### PACKET_DELIVER (R194, R206 to R208) -/

section
variable (h : s.noc.net[n]? = some e)
include h

theorem execPacketDeliver_before (hp : e.place = .router r input) : execPacketDeliver n s = .next s := by
  simp only [execPacketDeliver, h, hp]

theorem execPacketDeliver_behind (hq : (s.noc.net.take n).any (fun y => sameQueue y e) = true) : execPacketDeliver n s = .next s := by
  cases hp : e.place with
  | router r input => exact execPacketDeliver_before h hp
  | port d => simp only [execPacketDeliver, h, hp, hq, if_true]

theorem execPacketDeliver_first {d : Nat} (hp : e.place = .port d) (hq : (s.noc.net.take n).any (fun y => sameQueue y e) = false) :
    execPacketDeliver n s = .next (if epPort d ≠ 31 ∧ 2 ≤ s.portState d then s.atPort n (epRtr d) e else (s.dropPkt n).receive d e.pkt) := by
  simp only [execPacketDeliver, h, hp, hq, Bool.false_eq_true, if_false]
  split <;> rfl

end

/-- A sound packet of one of a NAP's own kinds joins its inbox, after the region has been looked at (R165). -/
theorem State.receive_nap {rg : Nat} (hk : kindOf (napEp rg) = .nap rg) (hcrc : crcFails p = false) (h6 : p.kind < 6) :
    s.receive (napEp rg) p = (s.touchRegion rg).toInbox (napEp rg) p := by
  have hne : p.kind ≠ 6 := by omega
  have hlt : p.kind < 8 := by omega
  simp only [State.receive, hk, hcrc, Bool.false_eq_true, if_false, State.accept, hne, false_and, State.serveKind, hlt, if_true]

/-! ### The wake buffer (R212, R214) -/

/-- The fields that draining a wake buffer writes. -/
def drainFields : List Field := [Reg.NOC_WAKE_OCC, Reg.NOC_WAKE_PKTS, Reg.NOC_FLITS_CT_COUNT, Reg.NOC_FLITS_BG_COUNT, Reg.NOC_FLITS_BE_COUNT]

/-- A port's held packets leave the wake buffer, and its wake is no longer asked for. -/
def State.wakeTaken (s : State) (r port : Nat) : State :=
  (s.putWake r (heldOther (s.wakeBuf r) port)).setR Reg.WAKE_REQ (portIx (rtrEp r port)) 0

theorem State.wakeBuf_putWake_self (s : State) (r : Nat) (l : List Packet) : (s.putWake r l).wakeBuf r = l := Map.get_set_self ..

theorem State.wakeBuf_wakeTaken (s : State) (r port : Nat) : (s.wakeTaken r port).wakeBuf r = heldOther (s.wakeBuf r) port :=
  State.wakeBuf_putWake_self ..

theorem heldFor_heldOther (l : List Packet) (port : Nat) : heldFor (heldOther l port) port = [] := by
  simp [heldFor, heldOther, List.filter_filter]

theorem State.drainWake_none {port : Nat} (h : heldFor (s.wakeBuf r) port = []) : s.drainWake r port = s.wakeTaken r port := by
  simp only [State.drainWake, h, List.foldl_nil, State.wakeTaken]

theorem State.drainWake_one {port : Nat} (h : heldFor (s.wakeBuf r) port = [p]) (hroom : s.rxRoom (rtrEp r port) p = true) : s.drainWake r port =
    ((s.wakeTaken r port).countFlits r 4 p).modNoc (fun n => { n with net := n.net ++ [⟨p, .port (rtrEp r port), false, none, 0⟩] }) := by
  have hgo : ((heldFor ((s.wakeTaken r port).wakeBuf r) port).isEmpty && (s.wakeTaken r port).rxRoom (rtrEp r port) p) = true := by
    rw [s.wakeBuf_wakeTaken, heldFor_heldOther]
    exact hroom
  simp only [State.drainWake, h, List.foldl_cons, List.foldl_nil]
  exact if_pos hgo

section
variable {ps : List Part} {W : Field → Prop} {t : State}

theorem Within.putWake (h : Within ps W s t) (r : Nat) (l : List Packet) (hn : Part.noc ∈ ps) (hW : ∀ f ∈ drainFields, W f) :
    Within ps W s (t.putWake r l) :=
  ((h.modNoc _ hn).setR _ _ _ (hW _ (by simp [drainFields]))).setR _ _ _ (hW _ (by simp [drainFields]))

theorem Within.countFlits (h : Within ps W s t) (r out : Nat) (p : Packet) (hW : ∀ f ∈ drainFields, W f) : Within ps W s (t.countFlits r out p) :=
  .ite (h.wrapAdd _ _ _ (hW _ (by simp [drainFields]))) (.ite (h.wrapAdd _ _ _ (hW _ (by simp [drainFields])))
    (h.wrapAdd _ _ _ (hW _ (by simp [drainFields]))))

end

theorem State.drainWake_within (s : State) (r port : Nat) : Within [.noc] (fun f => f ∈ drainFields) (s.wakeTaken r port) (s.drainWake r port) :=
  (Within.refl _).foldl (fun _ p k => .ite ((k.countFlits r 4 p (fun _ h => h)).modNoc _ (by decide)) (k.putWake r _ (by decide) (fun _ h => h))) _

theorem State.drainWake_asks (s : State) (r port : Nat) : (s.drainWake r port).getR Reg.WAKE_REQ (portIx (rtrEp r port)) = 0 := by
  rw [(s.drainWake_within r port).getR_eq _ _ (by decide), State.wakeTaken, State.getR_setR_self]
  rfl

theorem State.drainWake_same (s : State) (r port : Nat) {q : Part} (hq : q ∉ [Part.noc]) : q.same s (s.drainWake r port) := by
  have htaken : Within [.noc] anyField s (s.wakeTaken r port) := ((Within.refl s).putWake r _ (by decide) (fun _ _ => trivial)).setR _ _ _ trivial
  exact (htaken.trans ((s.drainWake_within r port).mono (fun _ h => h) (fun _ _ => trivial))).part_eq q hq

/-! ### Closing ports (R216, R218) -/

theorem State.portOff_hard {d : Nat} (h : ∀ rg, kindOf d ≠ .nap rg) : s.portOff d =
    (if s.flag Reg.PORT_FORCED (portIx d) then (s.setR Reg.NOC_PSTATE (portIx d) 2).setR Reg.PORT_REFUSE (portIx d) 2
      else s.setR Reg.NOC_PSTATE (portIx d) 2).pwTry (epDomain d) := by
  cases hk : kindOf d with
  | nap rg => exact absurd hk (h rg)
  | _ => simp only [State.portOff, hk]

/-- Settles O25, command by command: a packet received, a port's turn, a packet sent and delivered, the wake buffer, the closing ports. -/
theorem routerCommandsComplete : Obligations.RouterCommandsComplete := by
  unfold Obligations.RouterCommandsComplete
  refine ⟨?atOpen, ?onMesh, ?noRoute, ?stays, ?again, ?turn, ?alone, ?sent, ?lost, fun s r input e => s.dropHeader_lane2 r input e, ?deliver, ?behind,
    ?portGone, ?napTakes, fun s router port => ?drain, ?drained, ?timeout, ?wakeStays, ?refused, fun _ _ _ _ => ⟨rfl, fun _ => rfl⟩, ?quiet,
    fun s e => State.portOff_hard, ?quietStays, ?forced⟩
  case atOpen =>
    rintro s n r input e h hp hout hc ⟨hl, hv⟩ hhop h31 h0 hheld
    rw [← State.forward_open hhop h31 h0 hheld]
    exact execRouterPacketReceive_sound h hp hout hc hl hv
  case onMesh =>
    rintro s n r input d e h hp hout hc ⟨hl, hv⟩ hhop hd
    rw [← State.forward_mesh hhop hd]
    exact execRouterPacketReceive_sound h hp hout hc hl hv
  case noRoute =>
    rintro s n r input e h hp hout hc ⟨hl, hv⟩ hhop
    rw [← State.forward_unreachable hhop]
    exact execRouterPacketReceive_sound h hp hout hc hl hv
  case stays =>
    intro s n f
    refine ⟨fun h => ⟨?_, ?_⟩, fun e d h hp => execRouterPacketReceive_past h hp f,
      fun e r input h hp => ⟨execPacketDeliver_before h hp, fun hout hc => execRouterPacketReceive_closing h hp hout hc f⟩⟩
    · change execRouterPacketReceive n f s = _
      simp only [execRouterPacketReceive, h]
    · change execPacketDeliver n s = _
      simp only [execPacketDeliver, h]
  case again =>
    intro s n r input d e f h hp hout hhop hd
    rw [← State.forward_mesh hhop hd]
    exact execRouterPacketReceive_again h hp hout f
  case turn => exact fun s u r out lport hu => ⟨State.outputTurn_held hu, State.outputTurn_none hu, fun k e n => State.outputTurn_sends hu⟩
  case alone =>
    rintro s r out lport n e hall ⟨hvc, hk⟩ hfold hfree
    exact State.choose_alone hall hvc hk hfold hfree
  case sent =>
    rintro s n r out lport e u h rfl
    exact ⟨State.send_net h, State.send_regs h, State.send_leaves h⟩
  case lost => exact fun s n r input e h hp hout hc => execRouterPacketReceive_lostHeader h hp hout hc
  case deliver =>
    intro s n d x h hp hq hopen
    exact (execPacketDeliver_first h hp hq).trans (congrArg _ (if_neg (by omega)))
  case behind => exact fun s n x h hq => execPacketDeliver_behind h hq
  case portGone => exact fun s n d x h hp hq hgone => (execPacketDeliver_first h hp hq).trans (congrArg _ (if_pos hgone))
  case napTakes =>
    rintro s rg p hk ⟨hcrc, h6⟩
    exact State.receive_nap hk hcrc h6
  case drain =>
    by_cases h : s.portState (rtrEp router port) = 0
    · rw [if_pos h]
      exact s.when_true _ (by simp [h])
    · rw [if_neg h]
      exact s.when_false _ (by simp [h])
  case drained =>
    intro s router port p
    refine ⟨fun h => ?_, fun h hroom => ?_, s.drainWake_asks router port, s.drainWake_same router port (q := .mem) (by decide),
      s.drainWake_same router port (q := .events) (by decide), s.drainWake_same router port (q := .time) (by decide)⟩
    · rw [State.drainWake_none h]
      rfl
    · rw [State.drainWake_one h hroom]
      refine ⟨?_, ?_⟩
      · rw [State.modNoc_noc, State.countFlits_noc]
        rfl
      · change Map.get [] ((s.wakeTaken router port).countFlits router 4 p).noc.wake router = _
        rw [State.countFlits_noc]
        exact s.wakeBuf_wakeTaken router port
  case timeout => exact fun s router port hreq hopen => s.when_true _ (by simp [hreq, hopen])
  case wakeStays =>
    intro s router port thermal
    refine ⟨fun h => s.when_false _ ?_, fun h => s.when_false _ ?_, fun h => s.when_false _ ?_⟩
    · rcases h with h | h <;> simp [h]
    · rcases h with h | h
      · simp [h]
      · rw [h, Bool.and_false]
    · rcases h with h | h <;> simp [h]
  case refused => exact fun s router port thermal h2 hforbids => s.when_true _ (by rw [hforbids, h2]; rfl)
  case quiet => exact fun s router port h1 hbusy => s.when_true _ (by simp [h1, hbusy])
  case quietStays =>
    intro s router port h
    exact s.when_false _ (by rcases h with h | h <;> simp [h])
  case forced =>
    rintro s t router port h1 hf rfl
    exact s.when_true _ (by simp [h1, hf])

end Sys2Proof.Machine
end

section
/-!
PROOF. The ingress and the route updates (R189, R193, R199, R243 to R245): the CRC that a packet carries into the network, what an ingress makes of a packet,
and how the two banks of the routes take turns.
-/

namespace Sys2Proof.Machine

variable {s : State} {p : Packet}

/-! ### The end-to-end CRC (R193) -/

theorem crc32Byte_lt {c b : Nat} (hc : c < 2 ^ 32) (hb : b < 2 ^ 32) : crc32Byte c b < 2 ^ 32 := by
  refine List.foldlRecOn (List.range 8) _ (motive := fun x => x < 2 ^ 32) (Nat.xor_lt_two_pow hc hb) fun x hx _ _ => ?_
  have hhalf : x / 2 < 2 ^ 32 := by omega
  split
  · exact Nat.xor_lt_two_pow hhalf (by decide)
  · exact hhalf

theorem crc32On_lt {c : Nat} (v n : Nat) (hc : c < 2 ^ 32) : crc32On c v n < 2 ^ 32 :=
  List.foldlRecOn (List.range n) _ (motive := fun x => x < 2 ^ 32) hc fun _ hx i _ =>
    crc32Byte_lt hx (lt_trans (Nat.mod_lt (v / 256 ^ i) (by decide)) (by decide))

theorem packetCrc_lt (p : Packet) : packetCrc p < 2 ^ 32 := by
  refine Nat.xor_lt_two_pow (List.foldlRecOn p.data.zipIdx _ (motive := fun x => x < 2 ^ 32) (crc32On_lt _ _ (by decide)) ?_) (by decide)
  exact fun _ hx e _ => crc32On_lt _ _ hx

/-- A byte below n of a number is that of its low n bytes. -/
theorem byte_mod {n i : Nat} (v : Nat) (hi : i < n) : v % 256 ^ n / 256 ^ i % 256 = v / 256 ^ i % 256 := by
  have hpow : 256 ^ n = 256 ^ i * 256 ^ (n - i) := by rw [← pow_add, Nat.add_sub_cancel' hi.le]
  rw [hpow, Nat.mod_mul_right_div_self, Nat.mod_mod_of_dvd _ (dvd_pow_self 256 (by omega))]

/-- The CRC over n bytes reads no more of a number than they hold. -/
theorem crc32On_congr {v w n : Nat} (c : Nat) (h : v % 256 ^ n = w % 256 ^ n) : crc32On c v n = crc32On c w n := by
  refine List.foldl_ext _ _ _ fun x i hi => ?_
  rw [← byte_mod v (List.mem_range.1 hi), h, byte_mod w (List.mem_range.1 hi)]

/-- A last data flit with the CRC in its bits [511:480]. -/
def crcFlit (f : Flit) (c : Nat) : Flit := { f with bits := f.bits % 2 ^ 480 + c * 2 ^ 480 }

theorem crcFlit_crc (f : Flit) {c : Nat} (hc : c < 2 ^ 32) : (crcFlit f c).bits / 2 ^ 480 % 2 ^ 32 = c := by
  have hhigh : ∀ b, 0 < b → (f.bits % b + c * b) / b = c := fun b hb => by
    rw [Nat.add_mul_div_right _ _ hb, Nat.div_eq_of_lt (Nat.mod_lt _ hb), Nat.zero_add]
  rw [crcFlit, hhigh _ (Nat.two_pow_pos 480), Nat.mod_eq_of_lt hc]

theorem crcFlit_low (f : Flit) (c : Nat) : (crcFlit f c).bits % 256 ^ 60 = f.bits % 256 ^ 60 := by
  rw [crcFlit, Nat.pow_mul 2 8 60, Nat.add_mul_mod_self_right, Nat.mod_mod]

/-- The CRC over the first 60 bytes of a last flit does not read the place of the CRC. -/
theorem crc32On_crcFlit (x : Nat) (f : Flit) (c : Nat) : crc32On x (crcFlit f c).bits 60 = crc32On x f.bits 60 := crc32On_congr _ (crcFlit_low f c)

theorem length_sealPacket_data (p : Packet) : (sealPacket p).data.length = p.data.length :=
  (List.length_map ..).trans List.length_zipIdx

/-- The CRC goes into the last data flit alone. -/
theorem sealPacket_data_concat {l : List Flit} {f : Flit} (h : p.data = l ++ [f]) : (sealPacket p).data = l ++ [crcFlit f (packetCrc p)] := by
  have hfirst : l.zipIdx.map (fun e => if e.2 + 1 = p.data.length then crcFlit e.1 (packetCrc p) else e.1) = l := by
    conv_rhs => rw [← List.zipIdx_map_fst 0 l]
    refine List.map_congr_left fun e he => if_neg ?_
    have hlt : e.2 < 0 + l.length := List.snd_lt_add_of_mem_zipIdx he
    simp only [h, List.length_append, List.length_singleton]
    omega
  have hall : (sealPacket p).data = p.data.zipIdx.map (fun e => if e.2 + 1 = p.data.length then crcFlit e.1 (packetCrc p) else e.1) := rfl
  rw [hall]
  conv_lhs => rw [show p.data.zipIdx = l.zipIdx ++ [(f, l.length)] by rw [h, List.zipIdx_append]; simp]
  rw [List.map_append, hfirst]
  simp [h]

theorem packetCrc_concat {l : List Flit} {f : Flit} (h : p.data = l ++ [f]) : packetCrc p = crc32On (l.zipIdx.foldl (fun c e =>
    crc32On c e.1.bits (if e.2 + 1 = l.length + 1 then 60 else 64)) (crc32On 0xFFFFFFFF (hdrBits p) 64)) f.bits 60 ^^^ 0xFFFFFFFF := by
  simp only [packetCrc, h, List.zipIdx_append, List.foldl_append, List.length_append, List.length_singleton, List.zipIdx_singleton, List.foldl_cons,
    List.foldl_nil, Nat.zero_add, if_true]

theorem hdrBits_sealPacket (p : Packet) : hdrBits (sealPacket p) = hdrBits p := by simp only [hdrBits, hdrLow, sealPacket]

/-- The CRC does not read the place where it goes (R193). -/
theorem packetCrc_sealPacket {l : List Flit} {f : Flit} (h : p.data = l ++ [f]) : packetCrc (sealPacket p) = packetCrc p := by
  rw [packetCrc_concat (sealPacket_data_concat h), hdrBits_sealPacket, crc32On_crcFlit, packetCrc_concat h]

theorem packetIntact_sealPacket (hlen : p.data.length = p.len) (hpos : p.len ≠ 0) : packetIntact (sealPacket p) = true := by
  have hne : p.data ≠ [] := fun h => hpos (by rw [← hlen, h, List.length_nil])
  obtain ⟨l, f, h⟩ : ∃ l f, p.data = l ++ [f] := ⟨_, _, (List.dropLast_append_getLast hne).symm⟩
  have hcarried : carriedCrc (sealPacket p) = packetCrc p := by
    rw [carriedCrc, sealPacket_data_concat h, List.getLast?_concat, Option.map_some, Option.getD_some, crcFlit_crc f (packetCrc_lt p)]
  have hdata : (sealPacket p).data.length = (sealPacket p).len := (length_sealPacket_data p).trans hlen
  simp only [packetIntact, hcarried, packetCrc_sealPacket h, hdata, decide_true, Bool.and_self]

/-! ### The ingress (R189, R243 to R245) -/

theorem State.inject_noc (s : State) (p : Packet) : (s.inject p).noc =
    { s.noc with net := s.noc.net ++ [⟨sealPacket { p with epoch := s.epoch }, .router (epRtr p.src) 4, false, none, 0⟩] } := rfl

theorem State.ingress_bestEffort (h : p.cls = false) : s.ingress p = s.inject { p with
    srcDev := if p.xdev then s.getR Reg.DEV_SYSID_ID 0 else 0, vc := if 5 ≤ p.kind ∧ p.kind ≤ 7 then 1 else 2, deadline := 0 } := by
  rw [State.ingress, State.ingressWith, if_pos (by simp [h])]

/-- Contract traffic of this source and destination: with credit as such, else as best effort at the excess priority. -/
theorem State.ingressWith_admitted (hc : p.cls = true) (ha : s.admittedFlow p = true) (hd : s.getR Reg.THY_CT_EP_DST p.flow = p.dest) :
    s.ingressWith p = if s.cstate p.flow = 1 ∧ (p.len + 1) * s.getR Reg.THY_CT_CFG_PERIOD p.flow * frameTicks ≤ s.creditNow p.flow
      then (s.putContract p.flow { s.contract p.flow with
        credit := s.creditNow p.flow - (p.len + 1) * s.getR Reg.THY_CT_CFG_PERIOD p.flow * frameTicks
        creditAt := s.noc.clock }).inject { p with vc := 0, deadline := s.stamp p.flow }
      else s.inject { p with cls := false, prio := s.getR Reg.THY_CT_CFG_EXCESS_PRIO p.flow, deadline := 0, vc := 2 } := by
  rw [State.ingressWith, if_neg (by simp [hc]), if_neg (by simp [ha, hd])]

theorem State.ingressWith_refused (hc : p.cls = true) (h : s.admittedFlow p = false ∨ s.getR Reg.THY_CT_EP_DST p.flow ≠ p.dest) :
    s.ingressWith p = match kindOf p.src with
      | .nap _ => s.raise p.src 0x0231 2 (p.flow + p.src * 2 ^ 16)
      | _ => s := by
  have hno : (!s.admittedFlow p || decide (s.getR Reg.THY_CT_EP_DST p.flow ≠ p.dest)) = true := by rcases h with h | h <;> simp [h]
  exact (if_neg (by simp [hc])).trans (if_pos hno)

/-! ### What a route update leaves (R199, R254) -/

/-- The parts that a change of the contracts' paths writes. -/
def remapParts : List Part := [.noc, .thy, .events, .pge]

/-- From s to t the routes stay, and only the parts of a change of the contracts' paths are written. -/
def Rerouted (s t : State) : Prop := Within remapParts anyField s t ∧ t.noc.routes = s.noc.routes

theorem Rerouted.refl (s : State) : Rerouted s s := ⟨.refl s, rfl⟩

theorem Rerouted.trans {t u : State} (h : Rerouted s t) (k : Rerouted t u) : Rerouted s u := ⟨h.1.trans k.1, k.2.trans h.2⟩

theorem routes_ite {t u : State} {R : Map Nat} {c : Prop} [Decidable c] (ht : t.noc.routes = R) (hu : u.noc.routes = R) :
    (if c then t else u).noc.routes = R := by
  split <;> assumption

theorem State.breachTo_routes (s : State) (id cause det deadline : Nat) (toDst report : Bool) :
    (s.breachTo id cause det deadline toDst report).noc.routes = s.noc.routes := routes_ite rfl (routes_ite rfl rfl)

theorem State.breach_routes (s : State) (id cause det deadline : Nat) (toSrc toDst : Bool) :
    (s.breach id cause det deadline toSrc toDst).noc.routes = s.noc.routes := by
  have hdst : (if toDst then s.breachTo id cause det deadline true (!toSrc) else s).noc.routes = s.noc.routes := routes_ite (s.breachTo_routes ..) rfl
  exact routes_ite rfl (routes_ite ((State.breachTo_routes ..).trans hdst) hdst)

theorem State.breach_rerouted (s : State) (id cause det deadline : Nat) (toSrc toDst : Bool) : Rerouted s (s.breach id cause det deadline toSrc toDst) :=
  ⟨(Within.refl s).breach _ _ _ _ _ _ (by decide) (by decide) (by decide) (fun _ _ => trivial), s.breach_routes ..⟩

theorem State.suspendBreach_within (s : State) (id : Nat) : Within [.pge, .events] anyField s (s.suspendBreach id) := by
  have hput : ∀ v, Within [.pge, .events] anyField s (s.setCstate id v) := fun v => ((Within.refl s).setR _ _ _ trivial).thyCount trivial trivial
  exact .ite ((hput 3).pgeOutputLost id (by decide) (by decide) (fun _ _ => trivial)) (.ite (hput 3) (.refl s))

theorem State.suspendBreach_rerouted (s : State) (id : Nat) : Rerouted s (s.suspendBreach id) := by
  have hfew := s.suspendBreach_within id
  exact ⟨hfew.mono (by decide) (fun _ h => h), congrArg Noc.routes (hfew.part_eq .noc (by decide))⟩

theorem State.thymeBreach_rerouted (s : State) (id cause : Nat) : Rerouted s (s.thymeBreach id cause) := by
  unfold State.thymeBreach
  split
  · exact (s.suspendBreach_rerouted id).trans (State.breach_rerouted ..)
  · exact .refl s

theorem State.remap_rerouted (s : State) (bank id : Nat) : Rerouted s (s.remap bank id) := by
  unfold State.remap
  split
  · exact .refl s
  · dsimp only
    split
    · exact s.thymeBreach_rerouted id 9
    · split
      · exact .refl s
      · split
        · exact s.thymeBreach_rerouted id 9
        · exact ⟨((((Within.refl s).modThy _ (by decide)).setR _ _ _ trivial).setR _ _ _ trivial).setR _ _ _ trivial, rfl⟩

/-- What a committed update has written before the epoch flips. -/
def State.routesWritten (s : State) (changes : List RouteChange) : State :=
  s.contractIds.foldl (fun u id => u.remap (1 - s.epoch) id) (s.modNoc (fun n => { n with routes := writeBank n.routes s.epoch changes }))

theorem State.routeUpdate_eq (s : State) (changes : List RouteChange) : s.routeUpdate changes =
    (((s.routesWritten changes).setR Reg.NOC_EPOCH_INGRESS 0 (1 - s.epoch)).setR Reg.NOC_EPOCH_OLD_LIVE 0 1).setR Reg.NOC_COMMIT_AT 0 s.cycle := rfl

theorem State.routesWritten_rerouted (s : State) (changes : List RouteChange) :
    Rerouted (s.modNoc (fun n => { n with routes := writeBank n.routes s.epoch changes })) (s.routesWritten changes) :=
  List.foldlRecOn s.contractIds _ (motive := Rerouted _) (.refl _) fun u h id _ => h.trans (u.remap_rerouted _ id)

theorem State.routeUpdate_reads (s : State) (changes : List RouteChange) : (s.routeUpdate changes).getR Reg.NOC_EPOCH_OLD_LIVE 0 = 1
    ∧ (s.routeUpdate changes).getR Reg.NOC_EPOCH_INGRESS 0 = Reg.NOC_EPOCH_INGRESS.norm (1 - s.epoch)
    ∧ (s.routeUpdate changes).noc.routes = writeBank s.noc.routes s.epoch changes ∧ (s.routeUpdate changes).time = s.time := by
  obtain ⟨hw, hroutes⟩ := s.routesWritten_rerouted changes
  rw [State.routeUpdate_eq]
  refine ⟨?_, ?_, hroutes, hw.part_eq .time (by decide)⟩
  · rw [State.getR_setR_id _ _ _ _ _ _ (by decide), State.getR_setR_self]
    rfl
  · rw [State.getR_setR_id _ _ _ _ _ _ (by decide), State.getR_setR_id _ _ _ _ _ _ (by decide), State.getR_setR_self]

/-! ### The old epoch is released (R199) -/

/-- The old bank is idle: UPDATES counts, and no contract holds old slots. -/
def State.epochReleased (s : State) : State :=
  (((s.setR Reg.NOC_EPOCH_OLD_LIVE 0 0).wrapAdd Reg.NOC_EPOCH_UPDATES 0 1).raise (rtrEp 90 31) 0x020B 0
    ((s.cycle - s.getR Reg.NOC_COMMIT_AT 0) / 512 % 2 ^ 32 * 2 ^ 64)).modThy
      (fun y => { y with contracts := y.contracts.map (fun e => (e.1, { e.2 with old := [] })) })

theorem execRouteEpochRelease_stays (h : s.flag Reg.NOC_EPOCH_OLD_LIVE 0 = false ∨ s.oldEpochLeft = true) : execRouteEpochRelease s = .next s :=
  if_neg (by rcases h with h | h <;> simp [h])

section
variable (hl : s.flag Reg.NOC_EPOCH_OLD_LIVE 0 = true) (ho : s.oldEpochLeft = false)
include hl ho

theorem execRouteEpochRelease_last (hu : s.noc.updates = []) : execRouteEpochRelease s = .next s.epochReleased := by
  simp only [execRouteEpochRelease, hl, ho, hu, Bool.not_false, Bool.and_self, if_true]
  rfl

theorem execRouteEpochRelease_next {c : List RouteChange} {rest : List (List RouteChange)} (hu : s.noc.updates = c :: rest) :
    execRouteEpochRelease s = .next ((s.epochReleased.modNoc (fun n => { n with updates := rest })).routeUpdate c) := by
  simp only [execRouteEpochRelease, hl, ho, hu, Bool.not_false, Bool.and_self, if_true]
  rfl

end

theorem State.epochReleased_reads (s : State) : s.epochReleased.getR Reg.NOC_EPOCH_OLD_LIVE 0 = 0
    ∧ s.epochReleased.getR Reg.NOC_EPOCH_UPDATES 0 = Reg.NOC_EPOCH_UPDATES.norm (s.getR Reg.NOC_EPOCH_UPDATES 0 + 1) := by
  unfold State.epochReleased State.wrapAdd
  simp (disch := decide) only [State.getR_modThy, State.getR_raise, State.getR_setR_id, State.getR_setR_self, and_true]
  rfl

theorem State.epochReleased_leaves (s : State) :
    Leaves [.events, .thy] [Reg.NOC_EPOCH_OLD_LIVE.key 0, Reg.NOC_EPOCH_UPDATES.key 0] s s.epochReleased :=
  (((Leaves.refl.setR _ _ _ (by simp)).wrapAdd _ _ _ (by simp)).raise _ _ _ _ (by simp)).modThy _ (by simp)

theorem State.epochReleased_old (s : State) : ∀ e ∈ s.epochReleased.thy.contracts, e.2.old = [] := by
  intro e he
  obtain ⟨x, -, rfl⟩ := List.mem_map.1 he
  rfl

/-- Settles O27: what an ingress makes of a packet by its class and flow, and a route update by whether the old bank is live. -/
theorem ingressAndRouteUpdatesComplete : Obligations.IngressAndRouteUpdatesComplete := by
  unfold Obligations.IngressAndRouteUpdatesComplete
  refine ⟨fun s p h => congrArg _ (State.ingress_bestEffort h), ?enters, fun p l f => sealPacket_data_concat, fun p => packetIntact_sealPacket, ?contract,
    ?noEntry, ?update, fun s changes h => if_pos h, fun _ _ => rfl, fun s => execRouteEpochRelease_stays, ?releaseNext, ?release⟩
  case enters =>
    exact fun s p => ⟨_, rfl, rfl, rfl, length_sealPacket_data _, s.inject_noc p, Leaves.refl.modNoc _ (by simp)⟩
  case contract =>
    rintro s p q hc rfl ha hd
    exact congrArg Host.Outcome.next (State.ingressWith_admitted hc ha hd)
  case noEntry =>
    rintro s p q hc rfl h
    have hrefused := State.ingressWith_refused (p := { p with srcDev := if p.xdev then s.getR Reg.DEV_SYSID_ID 0 else 0 }) hc h
    refine (congrArg Host.Outcome.next hrefused).trans ?_
    cases kindOf p.src <;> rfl
  case update =>
    intro s changes h
    exact ⟨_, if_neg (by simp [h]), s.routeUpdate_reads changes⟩
  case releaseNext =>
    intro s u c rest hl ho hu h
    have hfirst : execRouteEpochRelease (s.modNoc (fun n => { n with updates := [] })) = .next (s.modNoc (fun n => { n with updates := [] })).epochReleased :=
      execRouteEpochRelease_last hl ho rfl
    obtain rfl := Host.Outcome.next.inj (hfirst.symm.trans h)
    exact execRouteEpochRelease_next hl ho hu
  case release =>
    intro s hl ho hu
    obtain ⟨hlive, hcount⟩ := s.epochReleased_reads
    exact ⟨_, execRouteEpochRelease_last hl ho hu, hlive, hcount, s.epochReleased_old, s.epochReleased_leaves⟩

end Sys2Proof.Machine
end

section
/-!
PROOF. The data commands of a fail-capture engine (R390, R394 to R405, R419): each command by what it takes and by the engine's state, a record by its place
in its input's order.
-/

namespace Sys2Proof.Machine

variable {s : State} {n : Nat} {r : FceRec} {ue : List Nat}

/-! ### Result packets (R390, R394) -/

section
variable {k : Fin 16} {p : Packet} {rest : List Packet}
  (htake : takeFirst (fun p => decide (p.kind ≠ 6)) (s.inbox (fceEp k)) = some (p, rest))
include htake

theorem execFceInputPacket_matched {q : Nat} (hk : p.kind = 0)
    (hq : (s.fceInputs k).find? (fun q => decide (s.getR Reg.FCE_IN_CFG_FLOW (k.val * 16 + q) = p.flow)) = some q) :
    execFceInputPacket k s = .next (if s.getR Reg.FCE_STAT_STATE k = 5
      then (if (s.fcx k).buf.length + (packetRecords q p).length ≤ 4096
        then (s.putInbox (fceEp k) rest).modFcx k (fun x => { x with buf := x.buf ++ packetRecords q p })
        else (s.putInbox (fceEp k) rest).raise (fceEp k) 0x0706 3 (fceDetail q 0 0 0 (packetRecords q p).length))
      else (s.putInbox (fceEp k) rest).satAdd Reg.FCE_ERR_OUTSIDE k (packetRecords q p).length) := by
  simp only [execFceInputPacket, htake, hk, true_and, hq]
  by_cases h5 : s.getR Reg.FCE_STAT_STATE k = 5
  · by_cases hfit : (s.fcx k).buf.length + (packetRecords q p).length ≤ 4096
    · simp [h5, hfit, Nat.not_lt.2 hfit]
    · simp [h5, hfit, Nat.lt_of_not_le hfit]
  · simp [h5]

/-- A packet that no input takes is counted UNMATCHED; one of another kind than 0 is rejected too (R208, R394). -/
theorem execFceInputPacket_unmatched
    (hq : (s.fceInputs k).find? (fun q => decide (p.kind = 0 ∧ s.getR Reg.FCE_IN_CFG_FLOW (k.val * 16 + q) = p.flow)) = none) :
    execFceInputPacket k s = .next (if p.kind = 0
      then ((s.putInbox (fceEp k) rest).satAdd Reg.FCE_ERR_UNMATCHED k 1).raise (fceEp k) 0x0705 2 (fceDetail 0 0 0 0 p.flow)
      else (((s.putInbox (fceEp k) rest).satAdd Reg.FCE_ERR_UNMATCHED k 1).raise (fceEp k) 0x0705 2 (fceDetail 0 0 0 0 p.flow)).kindReject (fceEp k) p) := by
  simp only [execFceInputPacket, htake, hq]

end

/-! ### Records in their order (R396) -/

/-- The number that an input expects next, for a record that starts its own order its own number. -/
def State.fceExpected (s : State) (n : Nat) (r : FceRec) : Nat := if r.timed then r.num else (s.fceIn n r.input).expected.getD r.num

theorem State.fceWant_getD (s : State) (n : Nat) (r : FceRec) :
    (if r.timed then none else (s.fceIn n r.input).expected).getD r.num = s.fceExpected n r := by
  unfold State.fceExpected
  split <;> rfl

/-- The largest number that an input has processed, once it has processed this record. -/
def State.fceDoneWith (s : State) (n : Nat) (r : FceRec) : Nat :=
  match (s.fceIn n r.input).done with
  | some d => if numLe r.num d then d else r.num
  | none => r.num

theorem State.fceRecord_taken (hp : r.poison = false) (hlast : nbit r.flags 8 = false) (hle : numLe (s.fceExpected n r) r.num = true) :
    s.fceRecord n r ue = (((if r.num = s.fceExpected n r then s else s.fceGap n r (s.fceExpected n r)).putIn n r.input
      ⟨some ((r.num + 1) % 2 ^ 48), some (s.fceDoneWith n r)⟩).fceEval n r ue).fceAutoEnd n := by
  simp only [State.fceRecord, hp, s.fceWant_getD, hle, hlast, Bool.false_eq_true, if_false, if_true]
  rfl

theorem State.fceRecord_poisoned {e : Nat} (ht : r.timed = false) (he : (s.fceIn n r.input).expected = some e) (hp : r.poison = true) :
    s.fceRecord n r ue = (s.fceGap n r e).putIn n r.input { (s.fceIn n r.input) with expected := some ((e + 1) % 2 ^ 48) } := by
  simp only [State.fceRecord, hp, ht, he, Bool.false_eq_true, if_false, if_true, Option.getD_some, Option.map_some]

theorem State.fceRecord_below {e : Nat} (ht : r.timed = false) (he : (s.fceIn n r.input).expected = some e) (hp : r.poison = false)
    (hne : r.num ≠ e) (hle : numLe e r.num = false) : s.fceRecord n r ue = s.fceGap n r e := by
  simp only [State.fceRecord, hp, ht, he, hle, hne, Bool.false_eq_true, if_false, Option.getD_some]

theorem State.fceEval_late (hl : nbit r.flags 1 = true) (ht : s.flag Reg.FCE_CTL_TRACE n = false) : s.fceEval n r ue =
    (s.fceMapped n r.input).foldl (fun u i => u.satAdd Reg.FCE_SITE_CNT_LATE (n * 1024 + i) 1) (s.fceIncomplete n (s.fceMapped n r.input)) := by
  simp only [State.fceEval, hl, ht, Bool.false_and, Bool.false_eq_true, if_false, if_true]

theorem State.not_stopped_of_mem_fceMapped {q i : Nat} (h : i ∈ s.fceMapped n q) : s.flag Reg.FCE_SITE_FLAGS_STOPPED (n * 1024 + i) = false := by
  simpa using List.of_mem_filter h

/-! ### A failing site (R401, R402, R405) -/

/-- A failing site without log and trace: its fails count, and unless it is STOPPED or shows FAIL already it shows its first fail. -/
theorem State.fceSite_plain {site : Nat} (dqs : List Nat) (hlog : s.flag Reg.FCE_LOG_CFG_EN n = false) (htrace : s.flag Reg.FCE_CTL_TRACE n = false)
    (hcal : nbit r.flags 2 = false) : s.fceSite n r none ue site dqs =
      (if s.flag Reg.FCE_SITE_FLAGS_STOPPED (n * 1024 + site) || s.flag Reg.FCE_SITE_FLAGS_FAIL (n * 1024 + site)
        then s.satAdd Reg.FCE_SITE_FAILCNT_COUNT (n * 1024 + site) dqs.length
        else (((s.satAdd Reg.FCE_SITE_FAILCNT_COUNT (n * 1024 + site) dqs.length).setR Reg.FCE_SITE_FLAGS_FAIL (n * 1024 + site) 1).setR
          Reg.FCE_SITE_FFV_VNUM (n * 1024 + site) r.num).setR Reg.FCE_SITE_FFT_T (n * 1024 + site) (2 ^ 64 - 1)) := by
  have hnolog : ∀ {t : State} {mask : Nat}, t.getR Reg.FCE_LOG_CFG_EN n = s.getR Reg.FCE_LOG_CFG_EN n → t.fceLog n r site none mask = t :=
    fun h => if_pos (by simpa [State.flag, h] using hlog)
  by_cases hstop : s.flag Reg.FCE_SITE_FLAGS_STOPPED (n * 1024 + site) = true
  · simp only [State.fceSite, hstop, Bool.true_or, if_true]
  · have hstop := Bool.eq_false_iff.2 hstop
    by_cases hfail : s.flag Reg.FCE_SITE_FLAGS_FAIL (n * 1024 + site) = true
    · simp only [State.fceSite, hstop, hfail, htrace, hcal, Bool.false_or, Bool.false_and, Bool.false_eq_true, if_false, if_true]
      exact hnolog (State.getR_setR_id _ _ _ _ _ _ (by decide))
    · have hfail := Bool.eq_false_iff.2 hfail
      simp only [State.fceSite, hstop, hfail, htrace, hcal, Bool.false_or, Bool.false_and, Bool.false_eq_true, if_false]
      refine hnolog ?_
      simp (disch := decide) only [State.satAdd, State.getR_setR_id]

/-! ### Snapshots (R419) -/

/-- The snapshot after this one is due one period later. -/
def State.snapMoved (s : State) (n : Nat) : State :=
  s.modFcx n (fun k => { k with snapAt := (k.snapAt + max 1 (s.getR Reg.FCE_SOUT_PER_PERIOD n) * frameTicks) % 2 ^ 64 })

theorem execFceStatSnapshot_due {k : Fin 16} (h5 : s.getR Reg.FCE_STAT_STATE k = 5) (hen : s.flag Reg.FCE_SOUT_EN k = true)
    (hdue : (s.fcx k).snapAt ≤ s.clockNow) : execFceStatSnapshot k s = .next (if (s.fcx k).stat.isEmpty
      then (s.snapMoved k).modFcx k (fun x => { x with stat := s.statPackets k (max 1 (s.getR Reg.FCE_SOUT_SPKT k)) (min 1024
        (s.getR Reg.FCE_SOUT_RANGE_SITE0 k + max 1 (min 1024 (s.getR Reg.FCE_SOUT_RANGE_NS k)))) 1024 (s.getR Reg.FCE_SOUT_RANGE_SITE0 k) })
      else if (s.fcx k).onceSkip then (s.snapMoved k).satAdd Reg.FCE_SOUT_PER_SKIPS k 1
      else (((s.snapMoved k).satAdd Reg.FCE_SOUT_PER_SKIPS k 1).modFcx k (fun x => { x with onceSkip := true })).raise (fceEp k) 0x070B 2 0) := by
  rw [execFceStatSnapshot, if_pos ⟨h5, hen, hdue⟩, State.snapMoved]
  split <;> rfl

/-- Settles O38, command by command: a packet, a trace entry, a record by its place in the order, a site's fails, a snapshot, a notice. -/
theorem failCaptureDataCommandsComplete : Obligations.FailCaptureDataCommandsComplete := by
  unfold Obligations.FailCaptureDataCommandsComplete
  refine ⟨fun s n p rest q htake => execFceInputPacket_matched htake, ?unmatched, ?otherKind, ?stays, ?traceEntry, ?record, ?taken, ?gap, ?left, ?site,
    ?snapshot, ?inject, ?breach⟩
  case unmatched =>
    intro s n p rest htake hk hq
    refine (execFceInputPacket_unmatched htake (by simpa [hk] using hq)).trans ?_
    rw [if_pos hk]
  case otherKind =>
    intro s n p rest htake hk
    refine (execFceInputPacket_unmatched htake (by simp [hk])).trans ?_
    rw [if_neg hk]
  case stays =>
    intro s n ue
    refine ⟨fun h => ?_, fun h => ?_, fun h => ?_, fun h => if_neg ?_, fun h => ?_, fun h => ?_⟩
    · change execFceInputPacket n s = _
      simp only [execFceInputPacket, h]
    · change execFceTraceEntry n s = _
      cases hl : (s.pgx n).trace with
      | nil => simp only [execFceTraceEntry, hl]
      | cons e rest =>
        simp only [execFceTraceEntry, hl]
        exact State.when_false _ _ (by simpa [hl] using h)
    · change execFceRecordProcess n ue s = _
      cases hl : (s.fcx n).buf with
      | nil => simp only [execFceRecordProcess, hl]
      | cons r rest =>
        simp only [execFceRecordProcess, hl]
        exact State.when_false _ _ (by simpa [hl] using h)
    · rintro ⟨h5, hen, hdue⟩
      rcases h with h | h | h
      · exact h h5
      · exact absurd hen (by simp [h])
      · omega
    · change execFceStatPacketInject n s = _
      simp only [execFceStatPacketInject, h]
    · change execFceBreachNotice n s = _
      simp only [execFceBreachNotice, h]
  case traceEntry =>
    intro s n e rest hl hroom
    change execFceTraceEntry n s = _
    simp only [execFceTraceEntry, hl]
    exact State.when_true _ _ (by simpa using hroom)
  case record =>
    intro s n ue r rest hl hst
    change execFceRecordProcess n ue s = _
    simp only [execFceRecordProcess, hl]
    exact State.when_true _ _ (by simpa using hst)
  case taken =>
    rintro s t n r ue e d ⟨hp, hlast⟩ rfl hle rfl rfl
    exact State.fceRecord_taken hp hlast hle
  case gap =>
    rintro s n e r ue ⟨ht, he⟩
    exact ⟨State.fceRecord_poisoned ht he, State.fceRecord_below ht he⟩
  case left => exact fun s n e r ue => ⟨rfl, State.fceEval_late, fun i => State.not_stopped_of_mem_fceMapped⟩
  case site =>
    rintro s n site r ue dqs ⟨hlog, htrace⟩ ⟨hcal, -⟩
    rw [State.fceSite_plain dqs hlog htrace hcal]
    exact ⟨fun h => by rw [h]; rfl, fun _ h => by rw [h, Bool.or_true]; rfl, fun hs h => by rw [hs, h]; rfl⟩
  case snapshot =>
    rintro s t n h5 hen hdue rfl
    have hnext := execFceStatSnapshot_due h5 hen hdue
    refine ⟨fun h => hnext.trans ?_, fun h ho => hnext.trans ?_, fun h ho => hnext.trans ?_⟩
    · rw [h]; rfl
    · simp only [List.isEmpty_iff, h, ho, if_true, if_false]; rfl
    · simp only [List.isEmpty_iff, h, ho, Bool.false_eq_true, if_false]; rfl
  case inject =>
    intro s n p rest hl
    change (_ → execFceStatPacketInject n s = _) ∧ (_ → execFceStatPacketInject n s = _)
    simp only [execFceStatPacketInject, hl]
    exact ⟨State.when_true _ _, State.when_false _ _⟩
  case breach =>
    intro s n p rest htake
    change execFceBreachNotice n s = _
    simp only [execFceBreachNotice, htake]

end Sys2Proof.Machine
end

section
/-!
PROOF. The power of an LPDDR5X channel that is in deterministic mode (R513, R656): with the power DET_ON ends, which the channel reports, so that
POWER_REMOVED raises two events there.
-/

namespace Sys2Proof.Machine

variable {s : State} {n : Nat}

/-! ### Events that stay pending -/

theorem find_raiseIn_self_ne_none (m : Map EventRec) (key time sev detail : Nat) : Map.find (raiseIn m key time sev detail) key ≠ none := by
  unfold raiseIn
  split <;> simp [Map.find_put_self]

theorem State.slotEnd_events (s : State) (d op st reason : Nat) : (s.slotEnd d op st reason).events = s.events := by
  unfold State.slotEnd
  split <;> rfl

/-! ### Fields that a loss of power leaves -/

/-- The keys that a reset of fields `fs` in pages `lo` to `lo + n - 1` keeps. -/
def pagesKeep (fs : List Field) (lo n k : Nat) : Bool :=
  !fs.any (fun g => decide (g.id % Field.idBound = k % Field.idBound) && decide (0 < g.perPage) && decide (lo ≤ k / Field.idBound / g.perPage)
    && decide (k / Field.idBound / g.perPage < lo + n))

theorem State.resetPages_regs (s : State) (fs : List Field) (lo n : Nat) :
    (s.resetPages fs lo n).regs = s.regs.filter (fun e => pagesKeep fs lo n e.1) := rfl

/-- A reset of pages leaves the fields that are not of its list. -/
theorem State.getR_resetPages_id (s : State) {fs : List Field} (lo n : Nat) {f : Field} (i : Nat)
    (hf : fs.all (fun g => decide (g.id % Field.idBound ≠ f.id % Field.idBound)) = true) : (s.resetPages fs lo n).getR f i = s.getR f i := by
  have hkeep : pagesKeep fs lo n (f.key i) = true := by
    rw [pagesKeep, Bool.not_eq_true', List.any_eq_false]
    intro g hg
    have hne := of_decide_eq_true (List.all_eq_true.1 hf g hg)
    simp [Field.key_mod, hne]
  rw [State.getR, State.resetPages_regs, Map.get, Map.find_filter_key, if_pos hkeep]
  rfl

/-- The fields of a channel that its loss of power resets. -/
def lpxLostFields : List Field :=
  (statusOf (Reg.ofBlk .lpx)).filter (fun f => !([Reg.LPX_STAT_CSTATE, Reg.LPX_DEV_U].any (fun k => decide (k.id = f.id))))

theorem State.dropLpx_det (h : s.flag Reg.LPX_STAT_DET_ON n = true) : s.dropLpx n =
    (((s.raise (lpxEp n) 0x0D07 0 (lpxDetail 0)).resetPages lpxLostFields n 1).lpxSt n 3).modLp n
      (fun c => { c with powerDown := [0, 1], waiting := [] }) := by
  unfold State.dropLpx
  rw [if_pos h]
  rfl

theorem State.dropLpx_events (h : s.flag Reg.LPX_STAT_DET_ON n = true) : (s.dropLpx n).events = (s.raise (lpxEp n) 0x0D07 0 (lpxDetail 0)).events := by
  rw [State.dropLpx_det h]
  exact State.enterSt_part ((s.raise (lpxEp n) 0x0D07 0 (lpxDetail 0)).resetPages lpxLostFields n 1) _ _ _ _ _ .events

theorem State.dropLpx_wake (h : s.flag Reg.LPX_STAT_DET_ON n = true) (d : Nat) : (s.dropLpx n).flag Reg.PW_WAKE d = s.flag Reg.PW_WAKE d := by
  have hst : ∀ u : State, Within [] (fun f => f ∈ [Reg.LPX_STAT_CSTATE, Reg.PLIC_WAIT, Reg.PLIC_PEND]) u (u.lpxSt n 3) := fun u =>
    (Within.refl u).enterSt _ _ _ _ _ (by simp) (by simp) (by simp)
  have hget : (s.dropLpx n).getR Reg.PW_WAKE d = s.getR Reg.PW_WAKE d := by
    rw [State.dropLpx_det h]
    exact ((hst _).getR_eq _ _ (by decide)).trans (State.getR_resetPages_id _ _ _ _ (by decide))
  rw [State.flag, State.flag, hget]

/-! ### POWER_REMOVED of a channel in deterministic mode -/

/-- A domain's power is gone: it is OFF with PWR_DOMAIN_OFF, and the slot's operation is DONE (R656). -/
def State.powerGone (s : State) (d : Nat) : State :=
  ((((s.dropDomain d).setR Reg.DSK_PSTATE d 2).setR Reg.PW_COMMIT d 0).slotEnd d 1 2).raise duskEp 0x0B01 0 (dskDetail d)

/-- The fields that say that a domain's power is gone. -/
def goneFields : List Field := [Reg.DSK_PSTATE, Reg.PW_COMMIT, Reg.DSK_PWR_STAT_STATE, Reg.DSK_PWR_STAT_REASON]

theorem State.powerGone_within (s : State) (d : Nat) : Within [.events] (fun f => f ∈ goneFields) (s.dropDomain d) (s.powerGone d) := by
  have hoff : Within [.events] (fun f => f ∈ goneFields) (s.dropDomain d) (((s.dropDomain d).setR Reg.DSK_PSTATE d 2).setR Reg.PW_COMMIT d 0) :=
    ((Within.refl _).setR _ _ _ (by simp [goneFields])).setR _ _ _ (by simp [goneFields])
  exact (Within.ite ((hoff.setR _ _ _ (by simp [goneFields])).setR _ _ _ (by simp [goneFields])) hoff).raise _ _ _ _ (by decide)

theorem exec_powerRemoved {d : Fin 128} (hp : s.pstate d = 1) (hc : s.flag Reg.PW_COMMIT d = true) :
    exec (.powerRemoved d) s = .next ((s.powerGone d).pwWaiting d) := s.when_true _ (by simp [hp, hc])

theorem State.pwWaiting_none {d : Nat} (h : s.flag Reg.PW_WAKE d = false) : s.pwWaiting d = s := if_pos (by simp [h])

section
variable (hn : n < 16)
include hn

theorem State.dropDomain_lpx (s : State) : s.dropDomain (36 + n) = (s.dropQueues (36 + n)).dropLpx n := by
  unfold State.dropDomain
  simp only [show ¬ 36 + n < 32 by omega, show ¬ 36 + n < 36 by omega, show 36 + n < 52 by omega, if_false, if_true, Nat.add_sub_cancel_left]

variable (h : s.flag Reg.LPX_STAT_DET_ON n = true)
include h

/-- LPX_DET_CHANGE is pending once the power is gone (R513). -/
theorem State.powerGone_reports : Map.find (s.powerGone (36 + n)).events (evKey (lpxEp n) 0x0D07) ≠ none := by
  have hkey : evKey (lpxEp n) 0x0D07 ≠ evKey duskEp 0x0B01 := by
    unfold evKey
    omega
  rw [State.powerGone, State.raise_events, find_raiseIn_ne _ _ _ _ hkey, State.slotEnd_events]
  change Map.find (s.dropDomain (36 + n)).events _ ≠ none
  rw [s.dropDomain_lpx hn, State.dropLpx_events (s := s.dropQueues (36 + n)) h]
  exact find_raiseIn_self_ne_none _ _ _ _ _

theorem State.powerGone_wake (d : Nat) : (s.powerGone (36 + n)).flag Reg.PW_WAKE d = s.flag Reg.PW_WAKE d := by
  rw [State.flag, (s.powerGone_within (36 + n)).getR_eq _ _ (by decide), s.dropDomain_lpx hn]
  exact State.dropLpx_wake (s := s.dropQueues (36 + n)) h d

end

/-- A channel in deterministic mode whose power-down has committed. -/
def detChannelClosing : State := ((State.reset.setR Reg.DSK_PSTATE 36 1).setR Reg.PW_COMMIT 36 1).setR Reg.LPX_STAT_DET_ON 0 1

/-- Refutes O58: the clause on POWER_REMOVED lists 0x0B01 as the only event raised, and a channel whose DET_ON ends with its power raises 0x0D07 too. -/
theorem not_powerCommandsComplete : ¬ Obligations.PowerCommandsComplete := by
  unfold Obligations.PowerCommandsComplete
  rintro ⟨-, -, -, -, -, -, -, hremoved, -⟩
  have hclosing : detChannelClosing.pstate 36 = 1 := by decide
  have hcommit : detChannelClosing.flag Reg.PW_COMMIT 36 = true := by decide
  have hdet : detChannelClosing.flag Reg.LPX_STAT_DET_ON 0 = true := by decide
  have hwake : detChannelClosing.flag Reg.PW_WAKE 36 = false := by decide
  obtain ⟨t, ht, -, -, -, hevents⟩ := (hremoved detChannelClosing 36 ⟨hclosing, hcommit⟩).1 hwake
  have hgone : exec (.powerRemoved 36) detChannelClosing = .next (detChannelClosing.powerGone 36) :=
    (exec_powerRemoved (d := 36) hclosing hcommit).trans
      (congrArg _ (State.pwWaiting_none ((State.powerGone_wake (n := 0) (by decide) hdet 36).trans hwake)))
  obtain rfl : detChannelClosing.powerGone 36 = t := Host.Outcome.next.inj (hgone.symm.trans ht)
  refine State.powerGone_reports (s := detChannelClosing) (n := 0) (by decide) hdet ?_
  rw [hevents, find_raiseIn_ne _ _ _ _ (by decide)]
  rfl

end Sys2Proof.Machine
end

section
/-!
PROOF. A channel that becomes READY (R513, R517): a DET that is not in force waits for the next frame start, whatever was pending before.
-/

namespace Sys2Proof.Machine

variable {s : State} {n : Nat}

theorem State.lp_lpxSt (s : State) (n v m : Nat) : (s.lpxSt n v).lp m = s.lp m :=
  congrArg (fun l => Map.get lpx0 l m) (State.enterSt_part s _ _ _ _ _ .lpx)

theorem State.inbox_lpxSt (s : State) (n v e : Nat) : (s.lpxSt n v).inbox e = s.inbox e :=
  congrArg (fun x : Noc => Map.get [] x.inbox e) (State.enterSt_part s _ _ _ _ _ .noc)

/-- Where nothing waits, the channel's parts stay when it serves again. -/
theorem State.lp_lpxResume_of_none_wait (hwaiting : (s.lp n).waiting = []) (hinbox : s.inbox (lpxEp n) = []) : (s.lpxResume n).lp n = s.lp n := by
  have hresume : s.lpxResume n = (s.putInbox (lpxEp n) []).modLp n (fun c => { c with waiting := [] }) := by
    simp [State.lpxResume, State.lpxRetry, hwaiting, hinbox, serveOrder]
  have hlp : (s.putInbox (lpxEp n) []).lp n = s.lp n := rfl
  rw [hresume, State.lp_modLp_self, hlp, ← hwaiting]

section
variable (hwaiting : (s.lp n).waiting = []) (hinbox : s.inbox (lpxEp n) = [])
include hwaiting hinbox

/-- The channel enters READY with its parts changed, but not what waits, and serves again. -/
theorem State.lp_ready_resume (f : Lpx → Lpx) (hf : (f (s.lp n)).waiting = (s.lp n).waiting) :
    (((s.lpxSt n 2).modLp n f).lpxResume n).lp n = f (s.lp n) := by
  have hlp : ((s.lpxSt n 2).modLp n f).lp n = f (s.lp n) := by rw [State.lp_modLp_self, State.lp_lpxSt]
  have hnone : (((s.lpxSt n 2).modLp n f).lp n).waiting = [] := by rw [hlp, hf, hwaiting]
  rw [State.lp_lpxResume_of_none_wait hnone ((s.inbox_lpxSt n 2 _).trans hinbox), hlp]

theorem State.lpxReady_detPend : ((s.lpxReady n).lp n).detPend =
    if s.flag Reg.LPX_CTL_DET n != s.flag Reg.LPX_STAT_DET_ON n then some (s.flag Reg.LPX_CTL_DET n) else none :=
  congrArg Lpx.detPend (State.lp_ready_resume hwaiting hinbox _ rfl)

end

/-- A channel that returns from a power-down in deterministic mode: DET is kept, DET_ON is off, and nothing is pending (R517). -/
def detChannelWaking : State := (State.reset.setR Reg.LPX_STAT_CSTATE 0 3).setR Reg.LPX_CTL_DET 0 1

/-- Refutes O48: its clause on a channel that becomes READY leaves the pending DET as it was. In `detChannelWaking` DET 1 is not in force and nothing is
pending: READY makes it wait for the next frame start, at which R517 has it take effect again, where the clause has nothing wait. -/
theorem not_dramCommandsComplete : ¬ Obligations.DramCommandsComplete := by
  unfold Obligations.DramCommandsComplete
  rintro ⟨-, -, -, -, -, -, -, hchannel, -⟩
  obtain ⟨-, -, -, -, -, -, hready⟩ := hchannel detChannelWaking 0 0 (by decide)
  have hwaiting : (detChannelWaking.lp 0).waiting = [] := by decide
  have hinbox : detChannelWaking.inbox (lpxEp 0) = [] := by decide
  have hwaits : ((detChannelWaking.lpxReady 0).lp 0).detPend = some true :=
    (State.lpxReady_detPend hwaiting hinbox).trans (by decide)
  have hkept : ((detChannelWaking.lpxReady 0).lp 0).detPend = none :=
    (congrArg (fun t : State => (t.lp 0).detPend) hready).trans (congrArg Lpx.detPend (State.lp_ready_resume hwaiting hinbox _ rfl))
  exact absurd (hwaits.symm.trans hkept) (by decide)

end Sys2Proof.Machine
end

section
/-!
PROOF. The parts of a timed I/O bank (R259 to R293): what a change of a bank's parts, of its run state and of its pins' drivers reads, and what each leaves.
-/

namespace Sys2Proof.Machine

variable {ps : List Part} {W : Field → Prop} {s t : State} {b : Nat}

theorem State.bank_congr (h : t.tio = s.tio) (b : Nat) : t.bank b = s.bank b := by rw [State.bank, State.bank, h]

@[simp] theorem State.bank_modBank_self (s : State) (b : Nat) (f : TioBank → TioBank) : (s.modBank b f).bank b = f (s.bank b) := by
  simp [State.modBank, State.bank, State.setR, State.modTio]

@[simp] theorem State.bank_setR (s : State) (f : Field) (i v b : Nat) : (s.setR f i v).bank b = s.bank b := rfl

theorem State.bank_modBank_ne (s : State) {k : Nat} (f : TioBank → TioBank) (h : k ≠ b) : (s.modBank b f).bank k = s.bank k :=
  Map.get_set_ne _ _ _ _ h

/-- A change of a bank depends on what it makes of the bank as it is. -/
theorem State.modBank_congr {f g : TioBank → TioBank} (h : f (s.bank b) = g (s.bank b)) : s.modBank b f = s.modBank b g := by
  simp only [State.modBank, h]

theorem State.modBank_leaves (s : State) (b : Nat) (f : TioBank → TioBank) :
    Leaves [.tio] [Reg.TIO_BANK_STAT_VBUF.key b, Reg.TIO_BANK_STAT_RBUF.key b] s (s.modBank b f) :=
  ((Leaves.refl.modTio _ (by simp)).setR _ _ _ (by simp)).setR _ _ _ (by simp)

/-- The fields that show the fills of a bank's buffers. -/
def fillFields : List Field := [Reg.TIO_BANK_STAT_VBUF, Reg.TIO_BANK_STAT_RBUF]

theorem Within.modBank (h : Within ps W s t) (b : Nat) (f : TioBank → TioBank) (hp : Part.tio ∈ ps) (hW : ∀ f ∈ fillFields, W f) :
    Within ps W s (t.modBank b f) :=
  ((h.modTio _ hp).setR _ _ _ (hW _ (by simp [fillFields]))).setR _ _ _ (hW _ (by simp [fillFields]))

theorem State.modBank_within (s : State) (b : Nat) (f : TioBank → TioBank) : Within [.tio] (fun f => f ∈ fillFields) s (s.modBank b f) :=
  (Within.refl s).modBank b f (by decide) (fun _ h => h)

theorem State.rstate_modBank (s : State) (b : Nat) (f : TioBank → TioBank) (k : Nat) : (s.modBank b f).rstate k = s.rstate k :=
  (s.modBank_within b f).getR_eq _ _ (by decide)

/-! ### The run state (R280) -/

/-- The fields that a change of a bank's run state writes. -/
def tioStFields : List Field := [Reg.TIO_BANK_STAT_RSTATE, Reg.PLIC_WAIT, Reg.PLIC_PEND]

theorem State.tioSt_within (s : State) (b v : Nat) : Within [] (fun f => f ∈ tioStFields) s (s.tioSt b v) :=
  (Within.refl s).enterSt _ _ _ _ _ (by simp [tioStFields]) (by simp [tioStFields]) (by simp [tioStFields])

theorem State.tioSt_part (s : State) (b v : Nat) (p : Part) : p.same s (s.tioSt b v) := s.enterSt_part _ _ _ _ _ p

theorem State.rstate_tioSt_self (s : State) {v : Nat} (b : Nat) (hv : v < 8) : (s.tioSt b v).rstate b = v :=
  (State.getR_enterSt_self _ _ _ _ _ _ (by decide) (by decide)).trans (Field.norm_of_lt rfl hv)

@[simp] theorem State.bank_tioSt (s : State) (b v k : Nat) : (s.tioSt b v).bank k = s.bank k := State.bank_congr (s.tioSt_part b v .tio) k

/-! ### Drivers, levels and edges (R272 to R274) -/

/-- The fields that putting a pin's driver and level writes. -/
def driveFields : List Field := [Reg.TIO_ON, Reg.TIO_LVL, Reg.TIO_EDGED, Reg.TIO_EDGE_T]

theorem Within.drivePin (h : Within ps W s t) (b pin : Nat) (on level : Bool) (time : Nat) (hW : ∀ f ∈ driveFields, W f) :
    Within ps W s (t.drivePin b pin on level time) :=
  .ite ((((h.setR _ _ _ (hW _ (by simp [driveFields]))).setR _ _ _ (hW _ (by simp [driveFields]))).setR _ _ _ (hW _ (by simp [driveFields]))).setR _ _ _
    (hW _ (by simp [driveFields]))) ((h.setR _ _ _ (hW _ (by simp [driveFields]))).setR _ _ _ (hW _ (by simp [driveFields])))

theorem Within.pinIdle (h : Within ps W s t) (b time p : Nat) (hW : ∀ f ∈ driveFields, W f) : Within ps W s (t.pinIdle b time p) :=
  .ite (h.drivePin _ _ _ _ _ hW) (.ite (h.drivePin _ _ _ _ _ hW) (.ite (h.drivePin _ _ _ _ _ hW) h))

theorem Within.pinsIdle (h : Within ps W s t) (b time : Nat) (hW : ∀ f ∈ driveFields, W f) : Within ps W s (t.pinsIdle b time) :=
  h.foldl (fun _ p k => k.pinIdle b time p hW) _

theorem State.drivePin_within (s : State) (b pin : Nat) (on level : Bool) (time : Nat) :
    Within [] (fun f => f ∈ driveFields) s (s.drivePin b pin on level time) :=
  (Within.refl s).drivePin b pin on level time (fun _ h => h)

theorem State.pinsIdle_within (s : State) (b time : Nat) : Within [] (fun f => f ∈ driveFields) s (s.pinsIdle b time) :=
  (Within.refl s).pinsIdle b time (fun _ h => h)

/-- An edge of a pin: its driver and level, and the edge's time. -/
theorem State.drivePin_edge {pin time : Nat} {on level : Bool}
    (h : s.flag Reg.TIO_ON (b * 32 + pin) ≠ on ∨ (on = true ∧ s.flag Reg.TIO_LVL (b * 32 + pin) ≠ level)) :
    (s.drivePin b pin on level time).getR Reg.TIO_ON (b * 32 + pin) = bit on
      ∧ (s.drivePin b pin on level time).getR Reg.TIO_LVL (b * 32 + pin) = bit level
      ∧ (s.drivePin b pin on level time).getR Reg.TIO_EDGE_T (b * 32 + pin) = Reg.TIO_EDGE_T.norm time := by
  have hedge : s.drivePin b pin on level time = ((((s.setR Reg.TIO_ON (b * 32 + pin) (bit on)).setR Reg.TIO_LVL (b * 32 + pin) (bit level)).setR
      Reg.TIO_EDGED (b * 32 + pin) 1).setR Reg.TIO_EDGE_T (b * 32 + pin) time) := if_pos (by simpa using h)
  rw [hedge]
  refine ⟨?_, ?_, State.getR_setR_self _ _ _ _⟩
  · simp (disch := decide) only [State.getR_setR_id, State.getR_setR_self]
    exact norm_bit_of_width rfl rfl on
  · simp (disch := decide) only [State.getR_setR_id, State.getR_setR_self]
    exact norm_bit_of_width rfl rfl level

/-- The pins rest: of the bank only the events of vectors that have run go (R274). -/
theorem State.bank_restPins (s : State) (b time : Nat) :
    (s.restPins b time).bank b = { s.bank b with evs := (s.bank b).evs.filter (fun e => (s.bank b).ahead.any (fun r => decide (r.vec.num = e.num))) } := by
  rw [State.restPins, State.bank_modBank_self, State.bank_congr ((s.pinsIdle_within b time).part_eq .tio (by simp))]

theorem State.restPins_same (s : State) (b time : Nat) {q : Part} (hq : q ∉ [Part.tio]) : q.same s (s.restPins b time) :=
  Part.same_trans ((s.pinsIdle_within b time).part_eq q (by simp)) ((State.modBank_within _ b _).part_eq q hq)

end Sys2Proof.Machine
end

section
/-!
PROOF. A bank's vectors (R268 to R281): a packet by what decides about it, a start by whether a step of time has jumped it, the edges of a pin's tick by whether
they come too close, a strobe, and the end of a vector by what follows it.
-/

namespace Sys2Proof.Machine

variable {s : State} {bank : Fin 20}

/-! ### Vector packets (R277 to R280) -/

theorem State.inbox_putInbox_self (s : State) (e : Nat) (l : List Packet) : (s.putInbox e l).inbox e = l := Map.get_set_self _ _ _ _

theorem State.chain_length (s : State) (b : Nat) (l : List TioVec) (t : Nat) : (s.chain b l t).1.length = l.length := by
  induction l generalizing t with
  | nil => rfl
  | cons v l ih => simp [State.chain, ih]

/-- The late ones of some vectors are counted (R279). -/
def State.lateCounted (s : State) (b : Nat) (vs : List TioVec) : State := vs.foldl (fun u v => if v.late then u.countLate b v.num else u) s

theorem State.countLate_within (s : State) (b num : Nat) : Within [.events] (fun f => f ∈ [Reg.TIO_BANK_LATE_COUNT]) s (s.countLate b num) :=
  ((Within.refl s).satAdd _ _ _ (by simp)).raise _ _ _ _ (by simp)

theorem State.lateCounted_within (s : State) (b : Nat) (vs : List TioVec) :
    Within [.events] (fun f => f ∈ [Reg.TIO_BANK_LATE_COUNT]) s (s.lateCounted b vs) :=
  (Within.refl s).foldl (fun u v h => .ite (h.trans (u.countLate_within b v.num)) h) vs

/-- The bank is ARMED where a packet begins a run. -/
def State.armedBy (s : State) (b : Nat) : State := if s.rstate b = 0 ∨ s.rstate b = 3 then s.tioSt b 1 else s

theorem State.armedBy_within (s : State) (b : Nat) : Within [] (fun f => f ∈ tioStFields) s (s.armedBy b) := .ite (s.tioSt_within b 1) (.refl s)

theorem State.rstate_armedBy (s : State) (b : Nat) : (s.armedBy b).rstate b = if s.rstate b = 0 ∨ s.rstate b = 3 then 1 else s.rstate b := by
  unfold State.armedBy
  split
  · exact s.rstate_tioSt_self b (by decide)
  · rfl

/-- A packet's vectors as the buffer takes them: with their starts, the late ones marked, and the first where it begins a run. -/
def State.takenVecs (s : State) (b : Nat) (p : Packet) : List TioVec :=
  ((s.chain b (packetVecs p) (((s.bank b).ref.map (fun r => r.2)).getD 0)).1.zipIdx).map (fun v => { v.1 with
    late := s.isLate v.1.start, head := ((decide (s.rstate b = 0) || decide (s.rstate b = 3)) || (s.bank b).first) && decide (v.2 = 0) })

theorem State.takenVecs_length (s : State) (b : Nat) (p : Packet) : (s.takenVecs b p).length = (packetVecs p).length := by
  simp [State.takenVecs, State.chain_length]

/-- A bank's parts with the vectors of a packet, the last of which is the reference of the next (R277). -/
def State.withPacket (s : State) (b : Nat) (p : Packet) (k : TioBank) : TioBank :=
  { k with
    buf := k.buf ++ s.takenVecs b p
    first := nbit p.user 120
    ref := some ((p.user / 2 ^ 72 % 2 ^ 48 + (s.takenVecs b p).length - 1) % 2 ^ 48,
      (s.chain b (packetVecs p) (((s.bank b).ref.map (fun r => r.2)).getD 0)).2) }

/-- What a packet that is taken leaves: its vectors in the buffer, the bank ARMED where they begin a run, and the late ones counted. -/
def State.packetTaken (s : State) (b : Nat) (p : Packet) (rest : List Packet) : State :=
  (((s.putInbox (tioEp b) rest).modBank b (s.withPacket b p)).armedBy b).lateCounted b (s.takenVecs b p)

theorem execTioVectorPacket_taken {p : Packet} {rest : List Packet} (hin : s.inbox (tioEp bank) = p :: rest) (hk : p.kind = 0)
    (hok : s.vectorOk bank p = true) (hst : (s.bank bank).stopping = false) (hfit : (s.bank bank).buf.length + (packetVecs p).length ≤ 2048) :
    execTioVectorPacket bank s = .next (s.packetTaken bank p rest) := by
  have hrun : ∀ f, ((s.putInbox (tioEp bank) rest).modBank bank f).rstate bank = s.rstate bank := fun f => State.rstate_modBank _ _ f _
  simp only [execTioVectorPacket, hin, hk, hok, hst, Nat.not_lt.2 hfit, State.packetTaken, State.armedBy, hrun, ne_eq, not_true_eq_false, Bool.not_true,
    Bool.false_eq_true, if_false, Bool.or_eq_true, decide_eq_true_eq]
  rfl

theorem State.packetTaken_reads (s : State) (b : Nat) (p : Packet) (rest : List Packet) :
    (s.packetTaken b p rest).rstate b = (if s.rstate b = 0 ∨ s.rstate b = 3 then 1 else s.rstate b) ∧ (s.packetTaken b p rest).inbox (tioEp b) = rest
      ∧ ((s.packetTaken b p rest).bank b).buf = (s.bank b).buf ++ s.takenVecs b p
      ∧ (s.packetTaken b p rest).mem = s.mem ∧ (s.packetTaken b p rest).time = s.time := by
  have hcounted := (((s.putInbox (tioEp b) rest).modBank b (s.withPacket b p)).armedBy b).lateCounted_within b (s.takenVecs b p)
  have hframe : Within [.events] anyField ((s.putInbox (tioEp b) rest).modBank b (s.withPacket b p)) (s.packetTaken b p rest) :=
    ((State.armedBy_within _ b).mono (by simp) (fun _ _ => trivial)).trans (hcounted.mono (fun _ h => h) (fun _ _ => trivial))
  have hnoc : (s.packetTaken b p rest).noc = (s.putInbox (tioEp b) rest).noc := hframe.part_eq .noc (by simp)
  have hsame : ((s.putInbox (tioEp b) rest).modBank b (s.withPacket b p)).rstate b = s.rstate b := State.rstate_modBank _ b _ b
  refine ⟨?_, ?_, ?_, hframe.part_eq .mem (by simp), hframe.part_eq .time (by simp)⟩
  · rw [← hsame, ← State.rstate_armedBy]
    exact hcounted.getR_eq _ _ (by decide)
  · rw [State.inbox, hnoc]
    exact s.inbox_putInbox_self _ rest
  · rw [State.bank_congr (hframe.part_eq .tio (by simp)), State.bank_modBank_self]
    rfl

/-! ### Vector starts (R269, R279, R283) -/

/-- A vector that a step of time has jumped starts late, without its events (R279). -/
def State.startedLate (s : State) (b : Nat) (v : TioVec) (rest : List TioVec) (ahead : List TioRun) : State :=
  let run := s.placedRun b { v with late := true }
  let c := s.chain b rest run.endT
  (((s.countLate b v.num).modBank b (fun k => { k with
    buf := c.1, ahead := ahead, runs := k.runs ++ [run], evs := k.evs.filter (fun e => !decide (e.num = v.num))
    ref := k.ref.map (fun r => (r.1, c.2)) })).setR Reg.TIO_BANK_VNUM_VNUM b v.num).tioSt b 2

theorem State.startedLate_reads (s : State) (b : Nat) (v : TioVec) (rest : List TioVec) (ahead : List TioRun) :
    (s.startedLate b v rest ahead).rstate b = 2 ∧ ((s.startedLate b v rest ahead).bank b).runs = (s.bank b).runs ++ [s.placedRun b { v with late := true }]
      ∧ ((s.startedLate b v rest ahead).bank b).evs = (s.bank b).evs.filter (fun e => !decide (e.num = v.num)) := by
  have hbank : (s.countLate b v.num).bank b = s.bank b := rfl
  simp [State.startedLate, hbank, State.rstate_tioSt_self]

theorem State.startedLate_same (s : State) (b : Nat) (v : TioVec) (rest : List TioVec) (ahead : List TioRun) {q : Part} (hq : q ∉ [Part.tio]) :
    q.same (s.countLate b v.num) (s.startedLate b v rest ahead) :=
  Part.same_trans ((((State.modBank_within _ b _).mono (fun _ h => h) (fun _ _ => trivial)).setR (W := anyField) _ _ _ trivial).part_eq q hq)
    (State.tioSt_part _ b 2 q)

/-- The model's test for a bank that starts nothing, in one that runs and has come to the time. -/
theorem State.not_waits_of_reached {b time : Nat} (hrun : s.rstate b = 1 ∨ s.rstate b = 2) (hreach : s.reached time = true) :
    ¬((s.rstate b ≠ 1 ∧ s.rstate b ≠ 2) ∨ (!s.reached time) = true) := by
  simp only [hreach, Bool.not_true, Bool.false_eq_true, or_false]
  omega

section
variable {u : State} {v : TioVec} {rest : List TioVec} {run : TioRun} {ahead : List TioRun} (hs : s = u.placeBuffered bank)
  (hbuf : (s.bank bank).buf = v :: rest) (hahead : (s.bank bank).ahead = run :: ahead) (hrun : s.rstate bank = 1 ∨ s.rstate bank = 2)
  (hreach : s.reached v.start = true)
include hs hbuf hahead hrun hreach

theorem execTioVectorStart_onTime (hjump : v.late = true ∨ s.jumped v.start = false) : execTioVectorStart bank u = .next
    (((((if v.late then s else (s.timedPins bank).foldl (fun u p => u.rangeCheck bank p v (s.periodAt bank v.ts v.start)) s).modBank bank
      (fun k => { k with buf := (s.chain bank rest run.endT).1, ahead := ahead, runs := k.runs ++ [{ run with uncal := run.uncal || s.uncal bank }],
                         ref := k.ref.map (fun r => (r.1, (s.chain bank rest run.endT).2)) })).setR Reg.TIO_BANK_VNUM_VNUM bank v.num).tioSt bank 2)) := by
  have hnojump : (!v.late && s.jumped v.start) = false := by rcases hjump with h | h <;> simp [h]
  have hstarts := State.not_waits_of_reached hrun hreach
  subst hs
  simp only [execTioVectorStart, hbuf, hahead, hnojump, if_neg hstarts, Bool.or_false, Bool.false_eq_true, if_false]

theorem execTioVectorStart_jumped (hlate : v.late = false) (hjump : s.jumped v.start = true) :
    execTioVectorStart bank u = .next (s.startedLate bank v rest ahead) := by
  have hstarts := State.not_waits_of_reached hrun hreach
  subst hs
  simp only [execTioVectorStart, hbuf, hahead, hlate, hjump, if_neg hstarts, Bool.not_false, Bool.and_self, Bool.or_true, if_true]
  rfl

end

/-- Where nothing is buffered, placed or reached, or the bank does not run, nothing starts. -/
theorem execTioVectorStart_waits {u : State} (h : ((u.placeBuffered bank).bank bank).buf = [] ∨ ((u.placeBuffered bank).bank bank).ahead = []
      ∨ ((u.placeBuffered bank).rstate bank ≠ 1 ∧ (u.placeBuffered bank).rstate bank ≠ 2)
      ∨ (∀ v, ((u.placeBuffered bank).bank bank).buf.head? = some v → (u.placeBuffered bank).reached v.start = false)) :
    execTioVectorStart bank u = .next (u.placeBuffered bank) := by
  cases hbuf : ((u.placeBuffered bank).bank bank).buf with
  | nil => simp only [execTioVectorStart, hbuf]
  | cons v rest =>
    cases hahead : ((u.placeBuffered bank).bank bank).ahead with
    | nil => simp only [execTioVectorStart, hbuf, hahead]
    | cons run ahead =>
      have hwaits : ((u.placeBuffered bank).rstate bank ≠ 1 ∧ (u.placeBuffered bank).rstate bank ≠ 2)
          ∨ (!(u.placeBuffered bank).reached v.start) = true := by
        rcases h with h | h | h | h
        · simp [h] at hbuf
        · simp [h] at hahead
        · exact .inl h
        · exact .inr (by simp [h v (by simp [hbuf])])
      simp only [execTioVectorStart, hbuf, hahead, if_pos hwaits]

/-! ### Edges (R271 to R273) -/

/-- MINW after the last edge of a pin. -/
def State.edgeFloor (s : State) (b pin : Nat) : Nat :=
  plusTicks (s.getR Reg.TIO_EDGE_T (b * 32 + pin)) (minw (s.getR Reg.TIO_BANK_CFG_IOSTD b))

/-- Driver and level `a` are an edge of the pin, and a time is closer than MINW to its last one. -/
def State.tooClose (s : State) (b pin : Nat) (a : Bool × Bool) (time : Nat) : Bool :=
  ((s.flag Reg.TIO_ON (b * 32 + pin) != a.1) || (a.1 && (s.flag Reg.TIO_LVL (b * 32 + pin) != a.2))) && s.flag Reg.TIO_EDGED (b * 32 + pin)
    && before time (s.edgeFloor b pin)

/-- The events of a tick leave the bank; of a squeezed edge the runs are marked. -/
def TioBank.edgesLeave (same : List TioEv) (pin time : Nat) (squeeze : Bool) (k : TioBank) : TioBank :=
  let mark := fun (r : TioRun) => if squeeze && same.any (fun f => decide (f.num = r.vec.num)) then { r with squeezed := true } else r
  { k with evs := k.evs.filter (fun f => !(decide (f.pin = pin) && decide (f.time = time))), runs := k.runs.map mark, ahead := k.ahead.map mark }

theorem TioBank.edgesLeave_inTime (same : List TioEv) (pin time : Nat) (k : TioBank) : k.edgesLeave same pin time false
    = { k with evs := k.evs.filter (fun f => !(decide (f.pin = pin) && decide (f.time = time))) } := by
  simp [TioBank.edgesLeave]

/-- The count and the event of an edge that moves to MINW after the last one. -/
def State.squeezeCounted (s : State) (b pin num : Nat) : State :=
  (s.satAdd Reg.TIO_PIN_ERR_SQUEEZE (b * 32 + pin) 1).raise (tioEp b) 0x0504 2 (tioDetail b pin num)

section
variable {u : State} {pin : Fin 32} {e : TioEv} {same : List TioEv} {a : Bool × Bool} (hs : s = u.placeBuffered bank)
  (hfirst : firstEv pin (s.bank bank).evs = some e) (hreach : s.reached e.time = true) (hfault : s.rstate bank ≠ 4)
  (hsame : same = (s.bank bank).evs.filter (fun f => decide (f.pin = pin.val) && decide (f.time = e.time)))
  (ha : a = afterEvs same (s.flag Reg.TIO_ON (bank.val * 32 + pin)) (s.flag Reg.TIO_LVL (bank.val * 32 + pin)))
include hs hfirst hreach hfault hsame ha

theorem execTioEdgeEvent_inTime (hfar : s.tooClose bank pin a e.time = false) : execTioEdgeEvent bank pin u = .next ((s.modBank bank (fun k => { k with
    evs := k.evs.filter (fun f => !(decide (f.pin = pin.val) && decide (f.time = e.time))) })).drivePin bank pin a.1 a.2 e.time) := by
  rw [← State.modBank_congr (TioBank.edgesLeave_inTime same pin e.time (s.bank bank))]
  unfold State.tooClose State.edgeFloor at hfar
  subst hs
  simp only [execTioEdgeEvent, hfirst, hreach, hfault, ← hsame, ← ha, hfar, Bool.not_true, decide_false, Bool.or_self, Bool.false_eq_true, if_false]
  rfl

theorem execTioEdgeEvent_squeezed (hnear : s.tooClose bank pin a e.time = true) : execTioEdgeEvent bank pin u = .next
    (((s.modBank bank (TioBank.edgesLeave same pin e.time true)).squeezeCounted bank pin e.num).drivePin bank pin a.1 a.2 (s.edgeFloor bank pin)) := by
  unfold State.tooClose State.edgeFloor at hnear
  subst hs
  simp only [execTioEdgeEvent, hfirst, hreach, hfault, ← hsame, ← ha, hnear, Bool.not_true, decide_false, Bool.or_self, Bool.false_eq_true, if_false,
    if_true]
  rfl

end

theorem execTioEdgeEvent_waits {u : State} {pin : Fin 32}
    (h : (∀ e, firstEv pin ((u.placeBuffered bank).bank bank).evs = some e → (u.placeBuffered bank).reached e.time = false)
      ∨ (u.placeBuffered bank).rstate bank = 4) : execTioEdgeEvent bank pin u = .next (u.placeBuffered bank) := by
  cases hfirst : firstEv pin ((u.placeBuffered bank).bank bank).evs with
  | none => simp only [execTioEdgeEvent, hfirst]
  | some e =>
    have hwaits : (!(u.placeBuffered bank).reached e.time || decide ((u.placeBuffered bank).rstate bank = 4)) = true := by
      rcases h with h | h
      · simp [h e hfirst]
      · simp [h]
    simp only [execTioEdgeEvent, hfirst, hwaits, if_true]

/-- An edge that moves to MINW after the last one: when it acts, what it drives, and its count. -/
theorem State.squeezed_reads (s : State) {f : TioBank → TioBank} {b pin num time : Nat} {on level : Bool}
    (h : s.flag Reg.TIO_ON (b * 32 + pin) ≠ on ∨ (on = true ∧ s.flag Reg.TIO_LVL (b * 32 + pin) ≠ level)) {t : State}
    (ht : t = ((s.modBank b f).squeezeCounted b pin num).drivePin b pin on level time) :
    t.getR Reg.TIO_EDGE_T (b * 32 + pin) = Reg.TIO_EDGE_T.norm time ∧ t.getR Reg.TIO_ON (b * 32 + pin) = bit on
      ∧ t.getR Reg.TIO_LVL (b * 32 + pin) = bit level
      ∧ t.getR Reg.TIO_PIN_ERR_SQUEEZE (b * 32 + pin)
        = (s.satAdd Reg.TIO_PIN_ERR_SQUEEZE (b * 32 + pin) 1).getR Reg.TIO_PIN_ERR_SQUEEZE (b * 32 + pin)
      ∧ t.events = raiseIn s.events (evKey (tioEp b) 0x0504) s.time.toNat 2 (tioDetail b pin num % 2 ^ 128) ∧ t.mem = s.mem ∧ t.time = s.time := by
  have hbank := s.modBank_within b f
  have hcounted : Within [.tio, .events] (fun f => f ∈ Reg.TIO_PIN_ERR_SQUEEZE :: fillFields) s ((s.modBank b f).squeezeCounted b pin num) :=
    ((hbank.mono (by simp) (fun _ h => List.mem_cons_of_mem _ h)).satAdd _ _ _ (by simp)).raise _ _ _ _ (by simp)
  have hedge : ((s.modBank b f).squeezeCounted b pin num).flag Reg.TIO_ON (b * 32 + pin) ≠ on
      ∨ (on = true ∧ ((s.modBank b f).squeezeCounted b pin num).flag Reg.TIO_LVL (b * 32 + pin) ≠ level) := by
    simpa only [State.flag, hcounted.getR_eq Reg.TIO_ON _ (by decide), hcounted.getR_eq Reg.TIO_LVL _ (by decide)] using h
  have hdriven := ((s.modBank b f).squeezeCounted b pin num).drivePin_within b pin on level time
  obtain ⟨hon, hlvl, hat⟩ := State.drivePin_edge (time := time) hedge
  rw [← ht] at hon hlvl hat hdriven
  have hevents : t.events = ((s.modBank b f).squeezeCounted b pin num).events := hdriven.part_eq .events (by simp)
  refine ⟨hat, hon, hlvl, ?_, hevents.trans (State.raise_events _ _ _ _ _),
    Part.same_trans (hcounted.part_eq .mem (by simp)) (hdriven.part_eq .mem (by simp)),
    Part.same_trans (hcounted.part_eq .time (by simp)) (hdriven.part_eq .time (by simp))⟩
  rw [hdriven.getR_eq _ _ (by decide), State.squeezeCounted, State.getR_raise, State.satAdd, State.satAdd, State.getR_setR_self, State.getR_setR_self,
    hbank.getR_eq _ _ (by decide)]

/-! ### Strobes (R286) -/

theorem strobeIn_length (pin : Nat) (high low : Bool) (ok : Nat → Bool) (l : List TioRun) : (strobeIn pin high low ok l).length = l.length := by
  induction l with
  | nil => rfl
  | cons r l ih =>
    unfold strobeIn
    split
    · split <;> rfl
    · simp [ih]

theorem strobeRun_fail {x : TioStrobe} {high low : Bool} {r : TioRun} (hw : x.window = false) (hc : r.vec.compared x.pin = true)
    (hbad : (r.vec.code x.pin = 3 ∧ high = false) ∨ (r.vec.code x.pin = 2 ∧ low = false)) :
    (strobeRun x high low r).fails = setBit r.fails x.pin ∧ (strobeRun x high low r).strobes = r.strobes.erase x
      ∧ (strobeRun x high low r).vec = r.vec := by
  have hfails : (decide (r.vec.code x.pin = 3) && !high || decide (r.vec.code x.pin = 2) && !low) = true := by simpa using hbad
  simp only [strobeRun, hw, hc, hfails, Bool.false_and, Bool.true_and, Bool.false_eq_true, if_false, if_true]
  split <;> exact ⟨rfl, rfl, rfl⟩

/-! ### Vector ends (R274, R280, R281) -/

/-- The first run that has not ended has ended. -/
def State.vectorPast (s : State) (b : Nat) : State := s.modBank b (fun k => { k with runs := endFirst k.runs })

/-- The bank is IDLE after the end of a run's last vector. -/
def State.runEnded (s : State) (b time : Nat) : State := (((s.vectorPast b).restPins b time).tioSt b 0).modBank b (fun k => { k with ref := none })

theorem execTioVectorEnd_found {r : TioRun} (h : (s.bank bank).runs.find? (fun r => !r.ended) = some r) :
    execTioVectorEnd bank s = .next (if s.reached r.endT = false then s
      else if s.rstate bank ≠ 2 ∨ s.restsAfter bank r = false then s.vectorPast bank
      else if (s.bank bank).evs.any (fun e => before e.time r.endT && !(s.bank bank).ahead.any (fun x => decide (x.vec.num = e.num))) then s
      else if (s.bank bank).stopping = true ∧ (s.bank bank).buf = [] then (s.vectorPast bank).runStopped bank
      else if r.vec.last = false then (s.vectorPast bank).restPins bank r.endT
      else if (s.bank bank).buf = [] then s.runEnded bank r.endT
      else ((s.vectorPast bank).restPins bank r.endT).tioSt bank 1) := by
  simp only [execTioVectorEnd, h, State.runEnded, State.vectorPast]
  cases hreach : s.reached r.endT
  · rfl
  by_cases hrun : s.rstate bank = 2
  swap
  · simp [hrun]
  cases hrests : s.restsAfter bank r
  · simp [hrun]
  cases hwaits : (s.bank bank).evs.any (fun e => before e.time r.endT && !(s.bank bank).ahead.any (fun x => decide (x.vec.num = e.num)))
  swap
  · simp [hrun]
  simp only [hrun, Bool.not_true, Bool.false_eq_true, Bool.true_eq_false, ne_eq, not_true_eq_false, or_self, if_false, Bool.and_eq_true,
    List.isEmpty_iff, ← apply_ite Host.Outcome.next]
  cases r.vec.last
  · rfl
  · by_cases hbuf : (s.bank bank).buf = [] <;> simp [hbuf]

theorem State.runEnded_reads (s : State) (b time : Nat) : (s.runEnded b time).rstate b = 0
    ∧ ((s.runEnded b time).bank b).runs = endFirst (s.bank b).runs ∧ ((s.runEnded b time).bank b).ref = none := by
  simp [State.runEnded, State.vectorPast, State.rstate_modBank, State.rstate_tioSt_self, State.bank_restPins]

theorem State.runEnded_same (s : State) (b time : Nat) {q : Part} (hq : q ∉ [Part.tio]) : q.same s (s.runEnded b time) :=
  Part.same_trans (Part.same_trans (Part.same_trans ((s.modBank_within b _).part_eq q hq) (State.restPins_same _ b time hq)) (State.tioSt_part _ b 0 q))
    ((State.modBank_within _ b _).part_eq q hq)

/-- Settles O28, command by command, by the branch that its conditions take and by what that branch reads. -/
theorem timedVectorCommandsComplete : Obligations.TimedVectorCommandsComplete := by
  unfold Obligations.TimedVectorCommandsComplete
  refine ⟨?rejected, ?passed, ?full, ?taken, ?onTime, ?jumped, ?nothing, ?edge, ?squeezed, ?strobe, ?strobeAhead,
    fun x high low r => strobeRun_fail, ?lastEnd, ?ends, fun s b f => ⟨s.bank_modBank_self b f, fun k => s.bank_modBank_ne f, s.modBank_leaves b f⟩⟩
  case rejected =>
    intro s bank p rest hin hk hok
    change execTioVectorPacket bank s = _
    simp [execTioVectorPacket, hin, hk, hok]
  case passed =>
    intro s bank p rest
    change (_ → execTioVectorPacket bank s = _) ∧ (_ → _ → execTioVectorPacket bank s = _) ∧ (_ → _ → _ → _ → execTioVectorPacket bank s = _)
    refine ⟨fun hin => ?_, fun hin hk => ?_, fun hin hk hok hst => ?_⟩
    · simp [execTioVectorPacket, hin]
    · simp [execTioVectorPacket, hin, hk]
    · simp [execTioVectorPacket, hin, hk, hok, hst]
  case full =>
    intro s bank p rest hin hk hok hst hfull
    change execTioVectorPacket bank s = _
    simp [execTioVectorPacket, hin, hk, hok, hst, hfull]
  case taken =>
    intro s bank p rest hin hk hok hst hfit
    obtain ⟨hrun, hinbox, hbuf, hmem, htime⟩ := s.packetTaken_reads bank p rest
    refine ⟨_, execTioVectorPacket_taken hin hk hok hst hfit, hrun, hinbox, ?_, ?_, hmem, htime⟩
    · rw [hbuf, List.length_append, State.takenVecs_length]
    · rw [hbuf, List.take_left]
  case onTime => exact fun u s bank v rest run ahead hs hbuf hahead hrun hreach => execTioVectorStart_onTime hs hbuf hahead hrun hreach
  case jumped =>
    intro u s bank v rest run ahead hs hbuf hahead hrun hreach ⟨hlate, hjump⟩
    obtain ⟨hst, hruns, hevs⟩ := s.startedLate_reads bank v rest ahead
    exact ⟨_, execTioVectorStart_jumped hs hbuf hahead hrun hreach hlate hjump, hst, hruns, hevs,
      s.startedLate_same bank v rest ahead (q := .events) (by simp), s.startedLate_same bank v rest ahead (q := .mem) (by simp),
      s.startedLate_same bank v rest ahead (q := .time) (by simp)⟩
  case nothing =>
    rintro u s bank pin rfl
    exact ⟨execTioVectorStart_waits, execTioEdgeEvent_waits⟩
  case edge =>
    rintro u s bank pin e same a edge hs hfirst hreach hfault hsame ha rfl hfar
    refine execTioEdgeEvent_inTime hs hfirst hreach hfault hsame ha ?_
    rcases hfar with h | h | h <;> simp only [State.tooClose, State.edgeFloor, h, Bool.false_and, Bool.and_false]
  case squeezed =>
    rintro u s bank pin e same a floor hs hfirst hreach hfault hsame ha hedge hedged rfl hnear
    have hclose : s.tooClose bank pin a e.time = true := by
      simp only [State.tooClose, State.edgeFloor, hedged, hnear, Bool.and_true]
      simpa using hedge
    exact ⟨_, execTioEdgeEvent_squeezed hs hfirst hreach hfault hsame ha hclose, s.squeezed_reads hedge rfl⟩
  case strobe =>
    rintro u s bank pin high low rfl hahead
    change execTioStrobe bank pin high low u = _
    refine congrArg Host.Outcome.next (State.modBank_congr ?_)
    have hlen := strobeIn_length pin high low
    simp [hahead, List.take_of_length_le, hlen]
  case strobeAhead =>
    rintro u s bank pin high low l rfl rfl
    exact congrArg Host.Outcome.next (State.modBank_congr rfl)
  case lastEnd =>
    rintro s bank r hfind hreach hrun hevs ⟨hst, hbuf, hlast⟩
    obtain ⟨hidle, hruns, href⟩ := s.runEnded_reads bank r.endT
    refine ⟨s.runEnded bank r.endT, ?_, hidle, hruns, href, s.runEnded_same bank r.endT (q := .mem) (by simp),
      s.runEnded_same bank r.endT (q := .time) (by simp), s.runEnded_same bank r.endT (q := .events) (by simp)⟩
    have hrests : s.restsAfter bank r = true := by simp [State.restsAfter, hlast]
    refine (execTioVectorEnd_found hfind).trans ?_
    simp only [hreach, hrun, hrests, hevs, hst, hbuf, hlast]
    rfl
  case ends =>
    rintro s t bank r rfl
    refine ⟨fun h => ?_, execTioVectorEnd_found⟩
    change execTioVectorEnd bank s = _
    simp only [execTioVectorEnd, h]

end Sys2Proof.Machine
end

section
/-!
PROOF. A bank's results, its stop, its reset, its supply, its calibration and its pins' delays (R260 to R266, R280 to R290): each command by the branch that its
conditions take, and what a stop, a reset and a fault leave.
-/

namespace Sys2Proof.Machine

variable {ps : List Part} {W : Field → Prop} {s t : State} {bank : Fin 20} {b : Nat}

/-! ### Result records (R287 to R290) -/

/-- The record of a run. -/
def State.resultRec (s : State) (b : Nat) (r : TioRun) : TioRec :=
  ⟨s.resultWord b r, r.vec.num, s.resultFlags b r, r.vec.start, s.clockNow, r.vec.head⟩

/-- The oldest run's record joins those that wait. -/
def State.recordKept (s : State) (b : Nat) (r : TioRun) (rest : List TioRun) : State :=
  (s.modBank b (fun k => { k with runs := rest })).modBank b (fun k => { k with res := k.res ++ [s.resultRec b r] })

theorem State.recordKept_reads (s : State) (b : Nat) (r : TioRun) (rest : List TioRun) :
    ((s.recordKept b r rest).bank b).res = (s.bank b).res ++ [s.resultRec b r] ∧ ((s.recordKept b r rest).bank b).runs = rest
      ∧ Leaves [.tio] [Reg.TIO_BANK_STAT_VBUF.key b, Reg.TIO_BANK_STAT_RBUF.key b] s (s.recordKept b r rest) := by
  refine ⟨?_, ?_, (s.modBank_leaves b _).trans (State.modBank_leaves _ b _)⟩ <;> simp [State.recordKept]

section
variable {r : TioRun} {rest : List TioRun} (hruns : (s.bank bank).runs = r :: rest)
include hruns

theorem execTioResultComplete_waits (h : r.ended = false ∨ r.strobes ≠ [] ∨ (s.bank bank).evs.any (fun e => decide (e.num = r.vec.num)) = true) :
    execTioResultComplete bank s = .next s := by
  have hwaits : (!r.ended || !r.strobes.isEmpty || (s.bank bank).evs.any (fun e => decide (e.num = r.vec.num))) = true := by
    rcases h with h | h | h <;> simp [h]
  simp only [execTioResultComplete, hruns, hwaits, if_true]

/-- A run that is past leaves, and what becomes of its record. -/
theorem execTioResultComplete_past (hended : r.ended = true) (hstrobes : r.strobes = [])
    (hevs : (s.bank bank).evs.any (fun e => decide (e.num = r.vec.num)) = false) : execTioResultComplete bank s = .next
      (if s.flag Reg.TIO_BANK_RSLT_EN bank = false then s.modBank bank (fun k => { k with runs := rest })
      else if 256 ≤ (s.bank bank).res.length then
        (s.modBank bank (fun k => { k with runs := rest })).raise (tioEp bank) 0x0508 3 (tioDetail bank 0 r.vec.num)
      else if s.rpkt bank ≤ (s.bank bank).res.length + 1 ∨ r.vec.last = true then (s.recordKept bank r rest).sendResults bank
      else s.recordKept bank r rest) := by
  have hlen : ((s.recordKept bank r rest).bank bank).res.length = (s.bank bank).res.length + 1 := by
    simp [(s.recordKept_reads bank r rest).1]
  simp only [execTioResultComplete, hruns, hended, hstrobes, hevs, Bool.not_true, List.isEmpty_nil, Bool.or_self, Bool.false_eq_true, if_false,
    Bool.not_eq_true', ← apply_ite Host.Outcome.next]
  change Host.Outcome.next (if _ then _ else if _ then _ else
    if (decide (s.rpkt bank ≤ ((s.recordKept bank r rest).bank bank).res.length) || r.vec.last) = true then _ else _) = _
  simp only [hlen, Bool.or_eq_true, decide_eq_true_eq]
  rfl

end

/-! ### Stops (R281) -/

theorem State.runStopped_bank (s : State) (b : Nat) :
    ((s.runStopped b).bank b).buf = (s.bank b).buf ∧ ((s.runStopped b).bank b).stopAt = (s.bank b).stopAt := by
  have hbank : (s.runStopped b).bank b
      = ((((s.restPins b s.time.toNat).modBank b (fun k => { k with stopping := false, ref := none })).tioSt b 3).bank b) := rfl
  simp [hbank, State.bank_restPins]

/-- A stop of a bank that is ARMED or RUNNING keeps the buffered vectors that start before it. -/
theorem State.stopEffect_bank (a : Option Nat) (h : s.rstate b = 1 ∨ s.rstate b = 2) :
    ((s.stopEffect b a).bank b).buf = (s.bank b).buf.filter (fun v => before v.start (a.getD s.time.toNat)) ∧ ((s.stopEffect b a).bank b).stopAt = none := by
  have hruns : ¬(s.rstate b ≠ 1 ∧ s.rstate b ≠ 2) := by omega
  simp only [State.stopEffect, if_neg hruns]
  split
  · simp [State.runStopped_bank]
  · simp

/-! ### Reset and supply (R262, R280, R282) -/

theorem Within.driversOff (h : Within ps W s t) (b : Nat) (hon : W Reg.TIO_ON) (hoff : W Reg.TIO_DROFF) : Within ps W s (t.driversOff b) :=
  (h.setEach _ _ _ hon).setR _ _ _ hoff

theorem State.on_driversOff (s : State) (b : Nat) {p : Nat} (hp : p < 32) : (s.driversOff b).getR Reg.TIO_ON (b * 32 + p) = 0 := by
  have hpin : b * 32 + p ∈ (List.range 32).map (fun p => b * 32 + p) := List.mem_map.2 ⟨p, List.mem_range.2 hp, rfl⟩
  rw [State.driversOff, State.getR_setR_id _ _ _ _ _ _ (by decide), State.getR_setEach, if_pos hpin]
  rfl

/-- The errors that the pins of a bank show are cleared. -/
def State.pinErrsCleared (s : State) (b : Nat) : State :=
  (s.setEach Reg.TIO_PIN_ERR_RANGE ((List.range 32).map (fun p => b * 32 + p)) 0).setEach Reg.TIO_PIN_ERR_SQUEEZE ((List.range 32).map (fun p => b * 32 + p)) 0

/-- What TIO_SRST leaves before the bank enters its state: nothing in the bank, and its pins at rest, or off while the supply is missing. -/
def State.bankEmptied (s : State) (b : Nat) : State :=
  let t := (s.modBank b (fun _ => tio0)).pinErrsCleared b
  if s.supplyBad b then t.driversOff b else (t.setR Reg.TIO_DROFF b 0).pinsIdle b s.time.toNat

theorem State.bankEmptied_within (s : State) (b : Nat) : Within [] anyField (s.modBank b (fun _ => tio0)) (s.bankEmptied b) := by
  have hcleared : Within [] anyField (s.modBank b (fun _ => tio0)) ((s.modBank b (fun _ => tio0)).pinErrsCleared b) :=
    ((Within.refl _).setEach _ _ _ trivial).setEach _ _ _ trivial
  exact .ite (hcleared.driversOff b trivial trivial) ((hcleared.setR _ _ _ trivial).pinsIdle b _ (fun _ _ => trivial))

theorem execTioSrst_eq (bank : Fin 20) (s : State) : execTioSrst bank s = .next ((s.bankEmptied bank).tioSt bank
    (if s.rstate bank = 4 ∧ (s.supplyBad bank = true ∨ s.flag Reg.T_UNLOCK 0 = true) then 4 else 0)) := by
  simp only [execTioSrst, Bool.and_eq_true, Bool.or_eq_true, decide_eq_true_eq]
  rfl

theorem State.bankEmptied_tioSt (s : State) (b v : Nat) : ((s.bankEmptied b).tioSt b v).bank b = tio0
    ∧ ((s.bankEmptied b).tioSt b v).mem = s.mem ∧ ((s.bankEmptied b).tioSt b v).time = s.time ∧ ((s.bankEmptied b).tioSt b v).events = s.events := by
  have hframe : ∀ q : Part, q.same (s.modBank b (fun _ => tio0)) ((s.bankEmptied b).tioSt b v) :=
    fun q => Part.same_trans ((s.bankEmptied_within b).part_eq q (by simp)) (State.tioSt_part _ b v q)
  refine ⟨?_, hframe .mem, hframe .time, hframe .events⟩
  rw [State.bank_congr (hframe .tio), State.bank_modBank_self]

theorem Within.tioFault (h : Within ps W s t) (b : Nat) (hp : Part.tio ∈ ps) (hf : ∀ f ∈ fillFields, W f) (hst : ∀ f ∈ tioStFields, W f) :
    Within ps W s (t.tioFault b) :=
  (h.modBank b _ hp hf).trans ((State.tioSt_within _ b 4).mono (by simp) hst)

/-- A bank without the supply that its mode requires (R262). -/
def State.supplyMissing (s : State) (b : Nat) : State :=
  (((s.driversOff b).setR Reg.TIO_BANK_STAT_SUPPLY_OK b 0).tioFault b).raise (tioEp b) 0x0507 4 (tioDetail b)

theorem State.supplyMissing_reads (s : State) (b : Nat) :
    (s.supplyMissing b).rstate b = 4 ∧ (s.supplyMissing b).getR Reg.TIO_BANK_STAT_SUPPLY_OK b = 0
      ∧ (∀ p < 32, (s.supplyMissing b).getR Reg.TIO_ON (b * 32 + p) = 0)
      ∧ (s.supplyMissing b).events = raiseIn s.events (evKey (tioEp b) 0x0507) s.time.toNat 4 (tioDetail b % 2 ^ 128)
      ∧ (s.supplyMissing b).mem = s.mem ∧ (s.supplyMissing b).time = s.time := by
  have hoff : Within [] anyField s ((s.driversOff b).setR Reg.TIO_BANK_STAT_SUPPLY_OK b 0) :=
    ((Within.refl s).driversOff b trivial trivial).setR _ _ _ trivial
  have hfault : Within [.tio] (fun f => f ∈ fillFields ++ tioStFields) ((s.driversOff b).setR Reg.TIO_BANK_STAT_SUPPLY_OK b 0)
      (((s.driversOff b).setR Reg.TIO_BANK_STAT_SUPPLY_OK b 0).tioFault b) :=
    (Within.refl _).tioFault b (by simp) (fun _ h => List.mem_append_left _ h) (fun _ h => List.mem_append_right _ h)
  have hsame : ∀ q : Part, q ∉ [Part.tio] → q.same s (((s.driversOff b).setR Reg.TIO_BANK_STAT_SUPPLY_OK b 0).tioFault b) :=
    fun q hq => Part.same_trans (hoff.part_eq q (by simp)) (hfault.part_eq q hq)
  have hevents : (((s.driversOff b).setR Reg.TIO_BANK_STAT_SUPPLY_OK b 0).tioFault b).events = s.events := hsame .events (by simp)
  have htime : (((s.driversOff b).setR Reg.TIO_BANK_STAT_SUPPLY_OK b 0).tioFault b).time = s.time := hsame .time (by simp)
  refine ⟨State.rstate_tioSt_self _ b (by decide), ?_, fun p hp => ?_, ?_, hsame .mem (by simp), htime⟩
  · exact (hfault.getR_eq _ _ (by decide)).trans (State.getR_setR_self _ _ _ _)
  · exact (hfault.getR_eq _ _ (by decide)).trans ((State.getR_setR_id _ _ _ _ _ _ (by decide)).trans (s.on_driversOff b hp))
  · rw [State.supplyMissing, State.raise_events, hevents, htime]

/-! ### Delays (R266) -/

theorem State.applyDelay_none {i : Nat} (h : s.dlyDue i = []) : s.applyDelay i = s := by
  simp only [State.applyDelay, h, List.getLast?_nil]

theorem State.applyDelay_reads {i j time o d : Nat} (h : (s.dlyDue i).getLast? = some (j, time, o, d)) :
    (s.applyDelay i).getR Reg.TIO_ODLY_ACT i = Reg.TIO_ODLY_ACT.norm o ∧ (s.applyDelay i).getR Reg.TIO_IDLY_ACT i = Reg.TIO_IDLY_ACT.norm d := by
  simp only [State.applyDelay, h]
  exact ⟨(State.getR_setR_id _ _ _ _ _ _ (by decide)).trans (State.getR_setR_self _ _ _ _), State.getR_setR_self _ _ _ _⟩

/-- Settles O29, command by command, by the branch that its conditions take and by what that branch reads. -/
theorem timedResultCommandsComplete : Obligations.TimedResultCommandsComplete := by
  unfold Obligations.TimedResultCommandsComplete
  refine ⟨?dropped, ?kept, ?sends, ?full, ?stays, ?flush, ?stop, ?takesEffect, fun s b a => State.stopEffect_bank a, ?srst, ?mismatch, ?noSupply,
    fun s bank => rfl, ?calibrate, ?delay, fun s bank pin h => s.when_false _ (by simpa using h)⟩
  case dropped =>
    rintro s bank r rest hruns ⟨hended, hstrobes⟩ hevs hen
    exact (execTioResultComplete_past hruns hended hstrobes hevs).trans (by rw [if_pos hen])
  case kept =>
    rintro s bank r rest hruns ⟨hended, hstrobes, hlast⟩ hevs hen ⟨hroom, hfew⟩
    refine ⟨s.recordKept bank r rest, (execTioResultComplete_past hruns hended hstrobes hevs).trans ?_, s.recordKept_reads bank r rest⟩
    simp [hen, hlast, Nat.not_le.2 hroom, Nat.not_le.2 hfew]
  case sends =>
    rintro s bank r rest hruns ⟨hended, hstrobes⟩ hevs hen hroom hsend
    refine (execTioResultComplete_past hruns hended hstrobes hevs).trans ?_
    rw [if_neg (by simp [hen]), if_neg (by omega), if_pos hsend]
    rfl
  case full =>
    rintro s bank r rest hruns ⟨hended, hstrobes⟩ hevs hen hfull
    refine (execTioResultComplete_past hruns hended hstrobes hevs).trans ?_
    rw [if_neg (by simp [hen]), if_pos hfull]
  case stays =>
    intro s bank
    change (_ → execTioResultComplete bank s = _) ∧ (_ → execTioResultFlush bank s = _) ∧ (_ → execTioStopTakeEffect bank s = _)
    refine ⟨fun h => ?_, fun h => ?_, fun h => ?_⟩
    · cases hruns : (s.bank bank).runs with
      | nil => simp only [execTioResultComplete, hruns]
      | cons r rest => exact execTioResultComplete_waits hruns (h r (by simp [hruns]))
    · cases hres : (s.bank bank).res with
      | nil => simp only [execTioResultFlush, hres]
      | cons r rest =>
        have hearly := h r (by simp [hres])
        simp only [execTioResultFlush, hres]
        exact s.when_false _ (by simpa using hearly)
    · cases hstop : (s.bank bank).stopAt with
      | none => simp only [execTioStopTakeEffect, hstop]
      | some a =>
        simp only [execTioStopTakeEffect, hstop]
        exact s.when_false _ (h a hstop)
  case flush =>
    intro s bank r rest hres hdue
    change execTioResultFlush bank s = _
    simp only [execTioResultFlush, hres]
    exact s.when_true _ (by simpa using hdue)
  case stop =>
    intro s bank
    change execTioStop bank s = _
    exact (apply_ite Host.Outcome.next _ _ _).symm
  case takesEffect =>
    intro s bank a hstop hdue
    change execTioStopTakeEffect bank s = _
    simp only [execTioStopTakeEffect, hstop]
    exact s.when_true _ hdue
  case srst =>
    intro s bank
    exact ⟨_, execTioSrst_eq bank s, State.rstate_tioSt_self _ _ (by split <;> decide), s.bankEmptied_tioSt bank _⟩
  case mismatch =>
    intro s bank hmode
    exact ⟨s.supplyMissing bank, s.when_true _ (by simpa using hmode), s.supplyMissing_reads bank⟩
  case noSupply =>
    intro s bank hmode
    refine s.when_false _ ?_
    rw [Bool.and_eq_false_iff, decide_eq_false_iff_not, decide_eq_false_iff_not]
    omega
  case calibrate =>
    rintro s u bank pin rfl
    exact ⟨rfl, rfl⟩
  case delay =>
    intro s bank pin h
    exact ⟨s.when_true _ (by simpa using h), State.applyDelay_none, fun _ _ _ => State.applyDelay_reads⟩

end Sys2Proof.Machine
end

section
/-!
PROOF. The parts of a DCL link (R309 to R323): what a change of its parts, of its state and of what is queued on it reads, and what each leaves.
-/

namespace Sys2Proof.Machine

variable {ps : List Part} {ks : List Nat} {W : Field → Prop} {s t : State} {l m : Nat}

theorem State.link_congr (h : t.lanes = s.lanes) (m : Nat) : t.link m = s.link m := by rw [State.link, State.link, h]

@[simp] theorem State.link_modLink_self (s : State) (l : Nat) (f : Link → Link) : (s.modLink l f).link l = f (s.link l) := Map.get_set_self _ _ _ _

theorem State.link_modLink_ne (s : State) (f : Link → Link) (h : m ≠ l) : (s.modLink l f).link m = s.link m := Map.get_set_ne _ _ _ _ h

@[simp] theorem State.link_setR (s : State) (f : Field) (i v m : Nat) : (s.setR f i v).link m = s.link m := rfl
@[simp] theorem State.link_raise (s : State) (a b c d m : Nat) : (s.raise a b c d).link m = s.link m := rfl
@[simp] theorem State.link_draw (s : State) (m : Nat) : s.draw.link m = s.link m := rfl
@[simp] theorem State.getR_modLink (s : State) (f : Link → Link) (g : Field) (i : Nat) : (s.modLink l f).getR g i = s.getR g i := rfl
@[simp] theorem State.lstate_modLink (s : State) (f : Link → Link) (m : Nat) : (s.modLink l f).lstate m = s.lstate m := rfl
@[simp] theorem State.lstate_raise (s : State) (a b c d m : Nat) : (s.raise a b c d).lstate m = s.lstate m := rfl

theorem Within.modLink (h : Within ps W s t) (l : Nat) (f : Link → Link) (hp : Part.lanes ∈ ps) : Within ps W s (t.modLink l f) := h.modLanes _ hp

theorem Leaves.modLink (h : Leaves ps ks s t) (l : Nat) (f : Link → Link) (hp : Part.lanes ∈ ps) : Leaves ps ks s (t.modLink l f) := h.modLanes _ hp

/-! ### The state of a link (R315) -/

/-- The fields that a change of a link's state writes. -/
def dclStFields : List Field := [Reg.DCL_STAT_LSTATE, Reg.PLIC_WAIT, Reg.PLIC_PEND]

theorem Within.dclSt (h : Within ps W s t) (l v : Nat) (hW : ∀ f ∈ dclStFields, W f) : Within ps W s (t.dclSt l v) :=
  h.enterSt _ _ _ _ _ (hW _ (by simp [dclStFields])) (hW _ (by simp [dclStFields])) (hW _ (by simp [dclStFields]))

theorem State.dclSt_within (s : State) (l v : Nat) : Within [] (fun f => f ∈ dclStFields) s (s.dclSt l v) := (Within.refl s).dclSt l v (fun _ h => h)

theorem State.dclSt_part (s : State) (l v : Nat) (p : Part) : p.same s (s.dclSt l v) := s.enterSt_part _ _ _ _ _ p

@[simp] theorem State.link_dclSt (s : State) (l v m : Nat) : (s.dclSt l v).link m = s.link m := State.link_congr (s.dclSt_part l v .lanes) m

theorem State.lstate_dclSt_self (s : State) {v : Nat} (l : Nat) (hv : v < 16) : (s.dclSt l v).lstate l = v :=
  (State.getR_enterSt_self _ _ _ _ _ _ (by decide) (by decide)).trans (Field.norm_of_lt rfl hv)

/-- A state that is neither UP, DETECT nor FAILED raises no interrupt. -/
theorem State.dclSt_quiet (s : State) {v : Nat} (l : Nat) (hv : [6, 1, 7].contains v = false) : s.dclSt l v = s.setR Reg.DCL_STAT_LSTATE l v :=
  if_neg (by rw [hv, Bool.false_and]; decide)

/-! ### Entry to DETECT (R315, R339) -/

/-- A link's parts at the entry to DETECT with ALIGN read as `a`. -/
def Link.detecting (a : Nat) (k : Link) : Link :=
  { k with
    align := (if a = 0 then 16 else a), lock := false, relock := false, capSame := 0, lastCap := 0, ackRcvd := false,
    ackSent := false, ownTrained := false, peerTrained := false, samples := [], lastRate := 0, capSent := 0, superframe := 0, period := 0, blocks := 0, errAt := [] }

theorem State.enterDetect_eq (s : State) (l : Nat) : s.enterDetect l =
    (((s.dclSt l 1).setR Reg.DCL_STAT_RATE_NOW l 0).setR Reg.LNE_STAT_RATE_NOW (l + 16) 0).modLink l (Link.detecting (s.getR Reg.DCL_CTL_ALIGN l)) := rfl

/-- The fields that an entry to DETECT writes. -/
def detectFields : List Field := Reg.DCL_STAT_RATE_NOW :: Reg.LNE_STAT_RATE_NOW :: dclStFields

theorem Within.enterDetect (h : Within ps W s t) (l : Nat) (hp : Part.lanes ∈ ps) (hW : ∀ f ∈ detectFields, W f) : Within ps W s (t.enterDetect l) :=
  (((h.dclSt l 1 (fun f hf => hW f (by simp [detectFields, hf]))).setR _ _ _ (hW _ (by simp [detectFields]))).setR _ _ _
    (hW _ (by simp [detectFields]))).modLink _ _ hp

theorem State.enterDetect_within (s : State) (l : Nat) : Within [.lanes] (fun f => f ∈ detectFields) s (s.enterDetect l) :=
  (Within.refl s).enterDetect l (by decide) (fun _ h => h)

theorem State.enterDetect_reads (s : State) (l : Nat) :
    (s.enterDetect l).lstate l = 1 ∧ (s.enterDetect l).getR Reg.DCL_STAT_RATE_NOW l = 0
      ∧ (s.enterDetect l).link l = (s.link l).detecting (s.getR Reg.DCL_CTL_ALIGN l) := by
  refine ⟨?_, ?_, ?_⟩
  · rw [State.enterDetect_eq, State.lstate_modLink, State.lstate]
    simp (disch := decide) only [State.getR_setR_id]
    exact s.lstate_dclSt_self l (by decide)
  · rw [State.enterDetect_eq, State.getR_modLink]
    simp (disch := decide) only [State.getR_setR_id, State.getR_setR_self]
    rfl
  · simp only [State.enterDetect_eq, State.link_modLink_self, State.link_setR, State.link_dclSt]

theorem State.link_enterDetect_ne (s : State) (h : m ≠ l) : (s.enterDetect l).link m = s.link m := by
  rw [State.enterDetect_eq, State.link_modLink_ne _ _ h, State.link_setR, State.link_setR, State.link_dclSt]

theorem State.enterDetect_lanes (s : State) (l : Nat) :
    (s.enterDetect l).lanes = { s.lanes with links := (s.enterDetect l).lanes.links } := by
  have hst : (s.dclSt l 1).lanes = s.lanes := s.dclSt_part l 1 .lanes
  rw [← hst]
  rfl

/-! ### Messages dropped, and what a link that leaves UP discards (R320, R334) -/

/-- The counters of dropped messages. -/
def dropFields : List Field := [Reg.DCL_STR_DROP_TX, Reg.DCL_STR_DROP_RX]

theorem Within.streamDrop (h : Within ps W s t) (n : Nat) (rx : Bool) (count : Nat) (hl : Part.lanes ∈ ps) (he : Part.events ∈ ps)
    (hW : ∀ f ∈ dropFields, W f) : Within ps W s (t.streamDrop n rx count) := by
  have hcount : ∀ f i c, f ∈ dropFields → Within ps W s (t.satAdd f i c) := fun f i c hf => h.satAdd f i c (hW f hf)
  have hfield : (if rx then Reg.DCL_STR_DROP_RX else Reg.DCL_STR_DROP_TX) ∈ dropFields := by cases rx <;> simp [dropFields]
  exact .ite (hcount _ _ _ hfield) (.ite ((hcount _ _ _ hfield).raise _ _ _ _ he) (((hcount _ _ _ hfield).raise _ _ _ _ he).modLanes _ hl))

/-- The lanes' parts differ at most in the outages that have been reported. -/
def State.sameButOutages (s t : State) : Prop := t.lanes = { s.lanes with outage := t.lanes.outage }

theorem State.streamDrop_lanes (s : State) (n : Nat) (rx : Bool) (count : Nat) : s.sameButOutages (s.streamDrop n rx count) :=
  iteInduction (motive := s.sameButOutages) (fun _ => rfl) (fun _ => iteInduction (motive := s.sameButOutages) (fun _ => rfl) (fun _ => rfl))

/-- The messages queued on a stream are dropped. -/
def State.txDropped (s : State) (n : Nat) : State :=
  (s.streamDrop n false (Map.get [] s.lanes.txq n).length).modLanes (fun x => { x with txq := Map.erase x.txq n })

/-- What has come in on a stream is dropped. -/
def State.rxDropped (s : State) (n : Nat) : State :=
  if (Map.get ⟨[], false⟩ s.lanes.rx n).part.isEmpty then s.modLanes (fun x => { x with rx := Map.erase x.rx n })
  else (s.modLanes (fun x => { x with rx := Map.erase x.rx n })).streamDrop n true 1

theorem State.dclFlush_eq (s : State) (l : Nat) : s.dclFlush l = (s.comingOn l).foldl State.rxDropped ((s.queuedOn l).foldl State.txDropped s) := rfl

theorem Within.txDropped (h : Within ps W s t) (n : Nat) (hl : Part.lanes ∈ ps) (he : Part.events ∈ ps) (hW : ∀ f ∈ dropFields, W f) :
    Within ps W s (t.txDropped n) := (h.streamDrop _ _ _ hl he hW).modLanes _ hl

theorem Within.rxDropped (h : Within ps W s t) (n : Nat) (hl : Part.lanes ∈ ps) (he : Part.events ∈ ps) (hW : ∀ f ∈ dropFields, W f) :
    Within ps W s (t.rxDropped n) := .ite (h.modLanes _ hl) ((h.modLanes _ hl).streamDrop _ _ _ hl he hW)

theorem Within.dclFlush (h : Within ps W s t) (l : Nat) (hl : Part.lanes ∈ ps) (he : Part.events ∈ ps) (hW : ∀ f ∈ dropFields, W f) :
    Within ps W s (t.dclFlush l) :=
  (h.foldl (fun _ n k => k.txDropped n hl he hW) _).foldl (fun _ n k => k.rxDropped n hl he hW) _

theorem State.dclFlush_within (s : State) (l : Nat) : Within [.lanes, .events] (fun f => f ∈ dropFields) s (s.dclFlush l) :=
  (Within.refl s).dclFlush l (by decide) (by decide) (fun _ h => h)

theorem State.txDropped_txq (s : State) (n : Nat) : (s.txDropped n).lanes.txq = Map.erase s.lanes.txq n := by
  rw [State.txDropped, State.modLanes_lanes, State.streamDrop_lanes]

theorem State.rxDropped_txq (s : State) (n : Nat) : (s.rxDropped n).lanes.txq = s.lanes.txq := by
  unfold State.rxDropped
  split
  · rfl
  · rw [State.streamDrop_lanes]
    rfl

theorem State.foldl_txDropped_txq (s : State) (q : List Nat) : (q.foldl State.txDropped s).lanes.txq = q.foldl Map.erase s.lanes.txq := by
  induction q generalizing s with
  | nil => rfl
  | cons n q ih => rw [List.foldl_cons, List.foldl_cons, ih, State.txDropped_txq]

theorem State.foldl_rxDropped_txq (s : State) (q : List Nat) : (q.foldl State.rxDropped s).lanes.txq = s.lanes.txq := by
  induction q generalizing s with
  | nil => rfl
  | cons n q ih => rw [List.foldl_cons, ih, State.rxDropped_txq]

theorem State.dclFlush_txq (s : State) (l : Nat) : (s.dclFlush l).lanes.txq = (s.queuedOn l).foldl Map.erase s.lanes.txq := by
  rw [State.dclFlush_eq, State.foldl_rxDropped_txq, State.foldl_txDropped_txq]

/-- A key that a table still lists after one has been erased is another one, and was listed before. -/
theorem Map.mem_keys_erase {α : Type} {n k : Nat} {m : Map α} (h : n ∈ (Map.erase m k).map (fun e => e.1)) :
    n ≠ k ∧ n ∈ m.map (fun e => e.1) := by
  induction m with
  | nil => simp [Map.erase] at h
  | cons e m ih =>
    obtain ⟨j, v⟩ := e
    by_cases hk : k = j
    · rw [Map.erase, if_pos hk] at h
      exact ⟨(ih h).1, List.mem_cons_of_mem _ (ih h).2⟩
    · rw [Map.erase, if_neg hk, List.map_cons, List.mem_cons] at h
      rcases h with h | h
      · exact ⟨fun hnk => hk (hnk ▸ h), by simp [h]⟩
      · exact ⟨(ih h).1, List.mem_cons_of_mem _ (ih h).2⟩

theorem Map.mem_keys_foldl_erase {α : Type} {n : Nat} {q : List Nat} {m : Map α} (h : n ∈ (q.foldl Map.erase m).map (fun e => e.1)) :
    n ∉ q ∧ n ∈ m.map (fun e => e.1) := by
  induction q generalizing m with
  | nil => exact ⟨List.not_mem_nil, h⟩
  | cons k q ih =>
    obtain ⟨hq, hm⟩ := ih h
    obtain ⟨hk, hm⟩ := Map.mem_keys_erase hm
    exact ⟨List.not_mem_cons_of_ne_of_not_mem hk hq, hm⟩

theorem State.queuedOn_congr (htxq : t.lanes.txq = s.lanes.txq) (hlane : ∀ n, t.getR Reg.DCL_STR_CFG_LANE n = s.getR Reg.DCL_STR_CFG_LANE n) (l : Nat) :
    t.queuedOn l = s.queuedOn l := by
  have hlink : ∀ n, t.streamLink n = s.streamLink n := fun n => by simp only [State.streamLink, hlane]
  simp only [State.queuedOn, htxq, hlink]

/-- No message is queued on a link that has left UP (R320). -/
theorem State.queuedOn_dclFlush (s : State) (l : Nat) : (s.dclFlush l).queuedOn l = [] := by
  have hlink : ∀ n, (s.dclFlush l).streamLink n = s.streamLink n := fun n => by
    simp only [State.streamLink, (s.dclFlush_within l).getR_eq Reg.DCL_STR_CFG_LANE _ (by decide)]
  rw [State.queuedOn, List.filter_eq_nil_iff]
  intro n hn
  rw [State.dclFlush_txq] at hn
  obtain ⟨hgone, hkey⟩ := Map.mem_keys_foldl_erase hn
  rw [hlink]
  exact fun hl => hgone (List.mem_filter.2 ⟨hkey, hl⟩)

end Sys2Proof.Machine
end

section
/-!
PROOF. A DCL link's control slot and bring-up (R309 to R317): what a slot's passing leaves and sends, how a target rate is chosen, and a command by whether the link
is in its state.
-/

namespace Sys2Proof.Machine

variable {s t : State} {l m : Nat}

/-! ### This end's control slot (R309, R313 to R315) -/

/-- A link's parts once it has sent a control block. -/
def State.slotSent (s : State) (l : Nat) (c : Nat × Nat) (x : Link) : Link :=
  { x with
    sent := (if (s.link l).superframe = 0 then [lineForm (s.getR Reg.DCL_STAT_RATE_NOW l) (.comma (s.link l).period (s.alignOf l))] else [])
      ++ [lineForm (s.getR Reg.DCL_STAT_RATE_NOW l) (controlBlock c)]
    superframe := if 16 * s.alignOf l ≤ (s.link l).superframe + 1 then 0 else x.superframe + 1
    period := if 16 * s.alignOf l ≤ (s.link l).superframe + 1 then (x.period + 1) % 2 ^ 32 else x.period
    capSent := if s.lstate l = 2 then x.capSent + 1 else x.capSent }

theorem State.slotPassed_of_none (h : s.controlNow l (s.link l).superframe = none) : s.slotPassed l = s := by simp only [State.slotPassed, h]

theorem State.slotPassed_of_some {c : Nat × Nat} (h : s.controlNow l (s.link l).superframe = some c) :
    s.slotPassed l = (s.modLink l (s.slotSent l c)).draw := by
  simp only [State.slotPassed, h, decide_eq_true_eq]
  rfl

/-- A slot's passing sends a control block or does nothing. -/
theorem State.slotPassed_cases (s : State) (l : Nat) : s.slotPassed l = s ∨ ∃ c, s.slotPassed l = (s.modLink l (s.slotSent l c)).draw := by
  cases h : s.controlNow l (s.link l).superframe with
  | none => exact .inl (State.slotPassed_of_none h)
  | some c => exact .inr ⟨c, State.slotPassed_of_some h⟩

theorem State.slotPassed_leaves (s : State) (l : Nat) : Leaves [.lanes, .free] [] s (s.slotPassed l) := by
  rcases s.slotPassed_cases l with h | ⟨c, h⟩ <;> rw [h]
  · exact .refl
  · exact (Leaves.refl.modLink _ _ (by decide)).draw (by decide)

theorem State.slotPassed_regs (s : State) (l : Nat) : (s.slotPassed l).regs = s.regs := by
  rcases s.slotPassed_cases l with h | ⟨c, h⟩ <;> rw [h]
  rfl

theorem State.link_slotPassed_ne (s : State) (h : m ≠ l) : (s.slotPassed l).link m = s.link m := by
  rcases s.slotPassed_cases l with hs | ⟨c, hs⟩ <;> rw [hs]
  rw [State.link_draw, State.link_modLink_ne _ _ h]

theorem State.slotPassed_lanes (s : State) (l : Nat) : (s.slotPassed l).lanes = { s.lanes with links := (s.slotPassed l).lanes.links } := by
  rcases s.slotPassed_cases l with h | ⟨c, h⟩ <;> rw [h]
  rfl

/-- Of a link's own parts a slot's passing changes what was sent and the counts of what has been sent. -/
theorem State.link_slotPassed (s : State) (l : Nat) : (s.slotPassed l).link l = { s.link l with
    sent := ((s.slotPassed l).link l).sent, superframe := ((s.slotPassed l).link l).superframe, period := ((s.slotPassed l).link l).period,
    capSent := ((s.slotPassed l).link l).capSent } := by
  rcases s.slotPassed_cases l with h | ⟨c, h⟩ <;> rw [h]
  rw [State.link_draw, State.link_modLink_self]
  rfl

/-- The CAPs seen, the target and the rates excluded are as before a slot's passing. -/
theorem State.rates_slotPassed (s : State) (l : Nat) :
    ((s.slotPassed l).link l).lastCap = (s.link l).lastCap ∧ ((s.slotPassed l).link l).capSame = (s.link l).capSame
      ∧ ((s.slotPassed l).link l).target = (s.link l).target ∧ ((s.slotPassed l).link l).excluded = (s.link l).excluded := by
  rw [State.link_slotPassed]
  exact ⟨rfl, rfl, rfl, rfl⟩

theorem State.slotPassed_part (s : State) (l : Nat) (p : Part) (hp : p ∉ [Part.lanes, .free]) : p.same s (s.slotPassed l) :=
  (s.slotPassed_leaves l).2.1 p hp

@[simp] theorem State.getR_slotPassed (s : State) (l : Nat) (f : Field) (i : Nat) : (s.slotPassed l).getR f i = s.getR f i :=
  State.getR_congr (s.slotPassed_regs l) f i

@[simp] theorem State.flag_slotPassed (s : State) (l : Nat) (f : Field) (i : Nat) : (s.slotPassed l).flag f i = s.flag f i := by simp [State.flag]

@[simp] theorem State.lstate_slotPassed (s : State) (l m : Nat) : (s.slotPassed l).lstate m = s.lstate m := s.getR_slotPassed l _ m

/-- A link in CAPX counts the CAP that it sends. -/
theorem State.capSent_slotPassed (h : s.lstate l = 2) : ((s.slotPassed l).link l).capSent = (s.link l).capSent + 1 := by
  have hcap : s.controlNow l (s.link l).superframe = some (0x01, s.ownCap l) := by simp only [State.controlNow, h]
  rw [State.slotPassed_of_some hcap, State.link_draw, State.link_modLink_self]
  exact if_pos h

theorem State.slotPassed_up (h : s.lstate l = 6) :
    s.slotPassed l = (s.modLink l (s.slotSent l (s.upControl l (s.link l).superframe))).draw :=
  State.slotPassed_of_some (by simp only [State.controlNow, h])

theorem State.slotPassed_idle (h : s.lstate l = 0 ∨ s.lstate l = 7) : s.slotPassed l = s := by
  refine State.slotPassed_of_none ?_
  rcases h with h | h <;> simp only [State.controlNow, h]

/-- From superframe 4 a link in UP sends RETRAIN while one is due, and IDLE else. -/
theorem State.upControl_late (s : State) (l : Nat) {sf : Nat} (h : 3 < sf) :
    s.upControl l sf = if (s.link l).retrainDue ≠ 0 then (0x0B, (s.link l).retrainDue) else (0x00, 0) := by
  obtain ⟨k, rfl⟩ : ∃ k, sf = k + 4 := ⟨sf - 4, by omega⟩
  rfl

/-! ### The rates (R315) -/

theorem State.rateOffered_congr (hmask : t.getR Reg.DCL_RATES_MASK l = s.getR Reg.DCL_RATES_MASK l)
    (hpeer : t.getR Reg.DCL_PEER_MASK l = s.getR Reg.DCL_PEER_MASK l) (hmax : t.getR Reg.DCL_CTL_MAXRATE l = s.getR Reg.DCL_CTL_MAXRATE l)
    (hex : (t.link l).excluded = (s.link l).excluded) (i : Nat) : t.rateOffered l i = s.rateOffered l i := by
  simp only [State.rateOffered, hmask, hpeer, hmax, hex]

/-- The target is the highest rate up to the bound that both ends offer. -/
theorem State.rateTarget_highest (bound : Nat) (h : s.rateOffered l 0 = true) :
    s.rateOffered l (s.rateTarget l bound) = true ∧ s.rateTarget l bound ≤ bound
      ∧ ∀ i, i ≤ bound → s.rateOffered l i = true → i ≤ s.rateTarget l bound := by
  have hoffered : ∀ i, i ∈ (List.range (bound + 1)).filter (fun i => s.rateOffered l i) ↔ i ≤ bound ∧ s.rateOffered l i = true := fun i => by
    rw [List.mem_filter, List.mem_range, Nat.lt_succ_iff]
  obtain ⟨hmem, hle⟩ := List.max?_eq_some_iff.1
    (rfl : (0 :: (List.range (bound + 1)).filter (fun i => s.rateOffered l i)).max? = some (s.rateTarget l bound))
  have htarget : s.rateTarget l bound ≤ bound ∧ s.rateOffered l (s.rateTarget l bound) = true := by
    rcases List.mem_cons.1 hmem with hzero | hmem
    · rw [show s.rateTarget l bound = 0 from hzero]
      exact ⟨Nat.zero_le _, h⟩
    · exact (hoffered _).1 hmem
  exact ⟨htarget.2, htarget.1, fun i hi ho => hle i (List.mem_cons_of_mem _ ((hoffered i).2 ⟨hi, ho⟩))⟩

theorem State.rateTarget_congr (h : ∀ i, t.rateOffered l i = s.rateOffered l i) (bound : Nat) : t.rateTarget l bound = s.rateTarget l bound := by
  simp only [State.rateTarget, h]

theorem State.dclStep_at (h : s.getR Reg.DCL_STAT_RATE_NOW l = (s.link l).target) :
    s.dclStep l = (s.dclSt l 5).modLink l (fun k => { k with samples := [], measFails := 0 }) := if_pos h

theorem State.dclStep_below (h : s.getR Reg.DCL_STAT_RATE_NOW l ≠ (s.link l).target) :
    s.dclStep l = (s.dclSt l 3).modLink l (fun k => { k with step := s.rateNext l, ackRcvd := false, ackSent := false }) := if_neg h

theorem State.dclStep_within (s : State) (l : Nat) : Within [.lanes] (fun f => f ∈ dclStFields) s (s.dclStep l) :=
  .ite (((Within.refl s).dclSt l 5 (fun _ h => h)).modLink _ _ (by decide)) (((Within.refl s).dclSt l 3 (fun _ h => h)).modLink _ _ (by decide))

theorem State.lstate_dclStep (s : State) (l : Nat) :
    (s.dclStep l).lstate l = if s.getR Reg.DCL_STAT_RATE_NOW l = (s.link l).target then 5 else 3 := by
  split
  next h => rw [State.dclStep_at h, State.lstate_modLink, State.lstate_dclSt_self _ _ (by decide)]
  next h => rw [State.dclStep_below h, State.lstate_modLink, State.lstate_dclSt_self _ _ (by decide)]

/-- A step towards the target leaves the target, the CAPs seen and the rates excluded. -/
theorem State.link_dclStep (s : State) (l : Nat) : ((s.dclStep l).link l).target = (s.link l).target ∧ ((s.dclStep l).link l).lastCap = (s.link l).lastCap
    ∧ ((s.dclStep l).link l).capSame = (s.link l).capSame ∧ ((s.dclStep l).link l).excluded = (s.link l).excluded := by
  by_cases h : s.getR Reg.DCL_STAT_RATE_NOW l = (s.link l).target
  · rw [State.dclStep_at h, State.link_modLink_self, State.link_dclSt]
    exact ⟨rfl, rfl, rfl, rfl⟩
  · rw [State.dclStep_below h, State.link_modLink_self, State.link_dclSt]
    exact ⟨rfl, rfl, rfl, rfl⟩

/-! ### CAP (R313, R315) -/

/-- The number that a CAP is told by. -/
def capWord (maxRate : BitVec 8) (mask : BitVec 16) (dev : BitVec 6) (lantum : Bool) : Nat :=
  maxRate.toNat + mask.toNat * 2 ^ 8 + dev.toNat * 2 ^ 24 + bit lantum * 2 ^ 30 + 2 ^ 32

/-- The CAPs alike with one that has come in. -/
def Link.capsAlike (k : Link) (cap : Nat) : Nat := if k.lastCap = cap then k.capSame + 1 else 1

/-- A CAP is held and counted. -/
def State.capHeld (s : State) (l : Nat) (maxRate : BitVec 8) (mask : BitVec 16) (dev : BitVec 6) (lantum : Bool) : State :=
  (((s.setR Reg.DCL_PEER_MASK l mask.toNat).setR Reg.DCL_PEER_DEVID l dev.toNat).setR Reg.DCL_PEER_LANTUM l (bit lantum)).modLink l
    (fun k => { k with capSame := (s.link l).capsAlike (capWord maxRate mask dev lantum), lastCap := capWord maxRate mask dev lantum })

/-- The target that a CAP settles, and the step towards it. -/
def State.capSettled (s : State) (l bound : Nat) : State := (s.modLink l (fun k => { k with target := s.rateTarget l bound })).dclStep l

theorem execDclCap_eq {l : Fin 144} (maxRate : BitVec 8) (mask : BitVec 16) (dev : BitVec 6) (lantum : Bool) (h : s.lstate l = 2) :
    execDclCap l maxRate mask dev lantum s = .next (if 3 ≤ (s.link l).capsAlike (capWord maxRate mask dev lantum) ∧ 3 ≤ (s.link l).capSent + 1
      then ((s.capHeld l maxRate mask dev lantum).capSettled l (min 12 maxRate.toNat)).slotPassed l
      else (s.capHeld l maxRate mask dev lantum).slotPassed l) := by
  rw [execDclCap, if_pos h, apply_ite Host.Outcome.next]
  rfl

theorem State.capHeld_reads (s : State) (l : Nat) (maxRate : BitVec 8) (mask : BitVec 16) (dev : BitVec 6) (lantum : Bool) :
    (s.capHeld l maxRate mask dev lantum).getR Reg.DCL_PEER_MASK l = mask.toNat % 2 ^ 13
      ∧ (s.capHeld l maxRate mask dev lantum).getR Reg.DCL_PEER_DEVID l = dev.toNat
      ∧ (s.capHeld l maxRate mask dev lantum).flag Reg.DCL_PEER_LANTUM l = lantum
      ∧ (s.capHeld l maxRate mask dev lantum).lstate l = s.lstate l := by
  unfold State.capHeld State.flag State.lstate
  simp (disch := decide) only [State.getR_modLink, State.getR_setR_id, State.getR_setR_self]
  refine ⟨by simp [Field.norm, Reg.DCL_PEER_MASK], Field.norm_of_lt rfl dev.isLt, ?_, trivial⟩
  rw [norm_bit_of_width rfl rfl, decide_bit]

theorem State.capSettled_within (s : State) (l bound : Nat) : Within [.lanes] (fun f => f ∈ dclStFields) s (s.capSettled l bound) :=
  ((Within.refl s).modLink _ _ (by decide)).trans (State.dclStep_within _ l)

theorem State.link_capSettled (s : State) (l bound : Nat) : ((s.capSettled l bound).link l).target = s.rateTarget l bound
    ∧ ((s.capSettled l bound).link l).lastCap = (s.link l).lastCap ∧ ((s.capSettled l bound).link l).capSame = (s.link l).capSame
    ∧ ((s.capSettled l bound).link l).excluded = (s.link l).excluded := by
  obtain ⟨htarget, hlast, hsame, hex⟩ := (s.modLink l (fun k => { k with target := s.rateTarget l bound })).link_dclStep l
  rw [State.link_modLink_self] at htarget hlast hsame hex
  exact ⟨htarget, hlast, hsame, hex⟩

end Sys2Proof.Machine
end

section
/-!
PROOF. The bring-up commands of a DCL link (R310 to R317): enable and disable, block lock, capabilities, rate steps, equalization, and the fallback from a rate.
-/

namespace Sys2Proof.Machine

variable {s t : State} {l : Fin 144} {n : Nat}

/-! ### Enable and disable (R315, R317, R320) -/

/-- A link that EN has just been set of. -/
def State.dclEnabled (s : State) (l : Nat) : State := (s.setR Reg.DCL_CTL_EN l 1).enterDetect l

theorem execDclEnable_off (h : s.flag Reg.DCL_CTL_EN l = false) : execDclEnable l s = .next (s.dclEnabled l) := if_neg (by simp [h])

theorem State.dclEnabled_leaves (s : State) (l : Nat) : Leaves [.lanes] [Reg.DCL_CTL_EN.key l, Reg.DCL_STAT_LSTATE.key l, Reg.DCL_STAT_RATE_NOW.key l,
    Reg.LNE_STAT_RATE_NOW.key (l + 16), Reg.PLIC_PEND.key (212 + l), Reg.PLIC_WAIT.key (212 + l)] s (s.dclEnabled l) := by
  rw [State.dclEnabled, State.enterDetect_eq]
  exact ((((Leaves.refl.setR _ _ _ (by simp)).enterSt _ _ _ _ _ (by simp) (by simp) (by simp)).setR _ _ _ (by simp)).setR _ _ _ (by simp)).modLink _ _
    (by decide)

theorem State.dclEnabled_reads (s : State) (l : Nat) : (s.dclEnabled l).flag Reg.DCL_CTL_EN l = true ∧ (s.dclEnabled l).lstate l = 1
    ∧ (s.dclEnabled l).getR Reg.DCL_STAT_RATE_NOW l = 0 ∧ (s.dclEnabled l).link l = (s.link l).detecting (s.getR Reg.DCL_CTL_ALIGN l) := by
  obtain ⟨hstate, hrate, hlink⟩ := (s.setR Reg.DCL_CTL_EN l 1).enterDetect_reads l
  rw [State.getR_setR_id _ _ _ _ _ _ (by decide), State.link_setR] at hlink
  refine ⟨?_, hstate, hrate, hlink⟩
  rw [State.dclEnabled, State.flag, (State.enterDetect_within _ l).getR_eq _ _ (by decide), State.getR_setR_self]
  rfl

/-- A link's parts once EN has been cleared. -/
def Link.disabled (k : Link) : Link := { k with excluded := [], attempts := 0, measFails := 0, lock := false, relock := false, retrainDue := 0 }

/-- A link that EN has just been cleared of. -/
def State.dclDisabled (s : State) (l : Nat) : State :=
  ((((s.setR Reg.DCL_CTL_EN l 0).dclSt l 0).dclFlush l).setR Reg.DCL_STAT_RATE_NOW l 0).modLink l Link.disabled

theorem execDclDisable_on (h : s.flag Reg.DCL_CTL_EN l = true) : execDclDisable l s = .next (s.dclDisabled l) := if_pos h

theorem State.dclDisabled_within (s : State) (l : Nat) : Within [.lanes, .events]
    (fun f => f ∈ Reg.DCL_CTL_EN :: Reg.DCL_STAT_RATE_NOW :: (dropFields ++ dclStFields)) s (s.dclDisabled l) :=
  (((((Within.refl s).setR _ _ _ (by simp)).dclSt l 0 (fun f hf => by simp [hf])).dclFlush l (by decide) (by decide) (fun f hf => by simp [hf])).setR _ _ _
    (by simp)).modLink _ _ (by decide)

theorem State.dclDisabled_reads (s : State) (l : Nat) : (s.dclDisabled l).flag Reg.DCL_CTL_EN l = false ∧ (s.dclDisabled l).lstate l = 0
    ∧ (s.dclDisabled l).getR Reg.DCL_STAT_RATE_NOW l = 0 ∧ ((s.dclDisabled l).link l).excluded = [] ∧ ((s.dclDisabled l).link l).attempts = 0
    ∧ (s.dclDisabled l).queuedOn l = [] := by
  refine ⟨?_, ?_, ?_, ?_, ?_, ?_⟩
  · rw [State.dclDisabled, State.flag, State.getR_modLink, State.getR_setR_id _ _ _ _ _ _ (by decide), (State.dclFlush_within _ l).getR_eq _ _ (by decide),
      (State.dclSt_within _ l 0).getR_eq _ _ (by decide), State.getR_setR_self]
    rfl
  · rw [State.dclDisabled, State.lstate, State.getR_modLink, State.getR_setR_id _ _ _ _ _ _ (by decide), (State.dclFlush_within _ l).getR_eq _ _ (by decide)]
    exact State.lstate_dclSt_self _ l (by decide)
  · rw [State.dclDisabled, State.getR_modLink, State.getR_setR_self]
    rfl
  · rw [State.dclDisabled, State.link_modLink_self]
    rfl
  · rw [State.dclDisabled, State.link_modLink_self]
    rfl
  · have hqueued : (s.dclDisabled l).queuedOn l = (((s.setR Reg.DCL_CTL_EN l 0).dclSt l 0).dclFlush l).queuedOn l :=
      State.queuedOn_congr (by rw [State.dclDisabled]; rfl)
        (fun n => by rw [State.dclDisabled, State.getR_modLink, State.getR_setR_id _ _ _ _ _ _ (by decide)]) l
    rw [hqueued, State.queuedOn_dclFlush]

/-! ### The step to a rate and back (R316, R317) -/

/-- A link's parts at a step's rate, whose last rate was `rate`. -/
def Link.relocking (rate : Nat) (k : Link) : Link :=
  { k with lock := false, relock := true, ownTrained := false, peerTrained := false, superframe := 0, period := 0, lastRate := if k.lock then rate else k.lastRate }

/-- A link and its lane at another rate, in a state. -/
def State.atRate (s : State) (l rate st : Nat) : State :=
  ((s.setR Reg.DCL_STAT_RATE_NOW l rate).setR Reg.LNE_STAT_RATE_NOW (l + 16) rate).dclSt l st

theorem State.atRate_reads (s : State) (l rate : Nat) {st : Nat} (hst : st < 16) : (s.atRate l rate st).lstate l = st
    ∧ (s.atRate l rate st).getR Reg.DCL_STAT_RATE_NOW l = rate % 16 ∧ (s.atRate l rate st).getR Reg.LNE_STAT_RATE_NOW (l + 16) = rate % 16 := by
  refine ⟨State.lstate_dclSt_self _ l hst, ?_, ?_⟩
  · rw [State.atRate, (State.dclSt_within _ l st).getR_eq _ _ (by decide), State.getR_setR_id _ _ _ _ _ _ (by decide), State.getR_setR_self]
    simp [Field.norm, Reg.DCL_STAT_RATE_NOW]
  · rw [State.atRate, (State.dclSt_within _ l st).getR_eq _ _ (by decide), State.getR_setR_self]
    simp [Field.norm, Reg.LNE_STAT_RATE_NOW]

theorem State.atRate_leaves (s : State) (l rate : Nat) {st : Nat} (hst : [6, 1, 7].contains st = false) :
    Leaves [] [Reg.DCL_STAT_LSTATE.key l, Reg.DCL_STAT_RATE_NOW.key l, Reg.LNE_STAT_RATE_NOW.key (l + 16)] s (s.atRate l rate st) := by
  rw [State.atRate, State.dclSt_quiet _ _ hst]
  exact ((Leaves.refl.setR _ _ _ (by simp)).setR _ _ _ (by simp)).setR _ _ _ (by simp)

@[simp] theorem State.link_atRate (s : State) (l rate st m : Nat) : (s.atRate l rate st).link m = s.link m := State.link_dclSt _ _ _ _

theorem execDclRateSwitch_eq (hst : s.lstate l = 3) (hack : (s.link l).ackRcvd = true ∧ (s.link l).ackSent = true) :
    execDclRateSwitch l s = .next ((s.atRate l (s.link l).step 4).modLink l (Link.relocking (s.getR Reg.DCL_STAT_RATE_NOW l))) :=
  if_pos (by simp [hst, hack.1, hack.2])

/-- A link's parts back at the last rate with lock, with a rate excluded. -/
def Link.fallenBack (bad : Nat) (k : Link) : Link :=
  { k with excluded := k.excluded ++ [bad], samples := [], measFails := 0, relock := false, superframe := 0, period := 0 }

/-- A link back at the last rate with lock, its target not yet chosen anew. -/
def State.fellBack (s : State) (l : Nat) : State := (s.atRate l (s.link l).lastRate 5).modLink l (Link.fallenBack (s.getR Reg.DCL_STAT_RATE_NOW l))

theorem State.rateFallback_eq (s : State) (l : Nat) : s.rateFallback l =
    ((s.fellBack l).modLink l (fun k => { k with target := (s.fellBack l).rateTarget l ((s.fellBack l).link l).target })).raise (laneSrc (l + 16)) 0x0407 2
      (laneDetail (l + 16) 0 0 (s.link l).lastRate ((s.fellBack l).rateTarget l ((s.fellBack l).link l).target)) := rfl

theorem State.link_fellBack (s : State) (l : Nat) : (s.fellBack l).link l = (s.link l).fallenBack (s.getR Reg.DCL_STAT_RATE_NOW l) := by
  rw [State.fellBack, State.link_modLink_self, State.link_atRate]

theorem State.link_rateFallback (s : State) (l : Nat) : (s.rateFallback l).link l =
    { (s.link l).fallenBack (s.getR Reg.DCL_STAT_RATE_NOW l) with target := (s.fellBack l).rateTarget l (s.link l).target } := by
  rw [State.rateFallback_eq, State.link_raise, State.link_modLink_self, State.link_fellBack]
  rfl

theorem State.rateTarget_rateFallback (s : State) (l bound : Nat) : (s.rateFallback l).rateTarget l bound = (s.fellBack l).rateTarget l bound := by
  have hregs : ∀ f i, (s.rateFallback l).getR f i = (s.fellBack l).getR f i := fun f i => by rw [State.rateFallback_eq, State.getR_raise, State.getR_modLink]
  exact State.rateTarget_congr (State.rateOffered_congr (hregs _ _) (hregs _ _) (hregs _ _) (by rw [State.link_rateFallback, State.link_fellBack])) bound

theorem State.fellBack_part (s : State) (l : Nat) (p : Part) (hp : p ≠ .lanes) : p.same s (s.fellBack l) :=
  (((s.atRate_leaves l _ (by decide)).mono (fun _ h => absurd h List.not_mem_nil) (fun _ h => h)).modLink l _ (List.mem_singleton_self _)).2.1 p
    (by simpa using hp)

theorem State.rateFallback_reads (s : State) (l : Nat) : (s.rateFallback l).lstate l = 5
    ∧ (s.rateFallback l).getR Reg.DCL_STAT_RATE_NOW l = (s.link l).lastRate % 16
    ∧ ((s.rateFallback l).link l).excluded = (s.link l).excluded ++ [s.getR Reg.DCL_STAT_RATE_NOW l]
    ∧ ((s.rateFallback l).link l).target = (s.rateFallback l).rateTarget l (s.link l).target
    ∧ (s.rateFallback l).events = raiseIn s.events (evKey (laneSrc (l + 16)) 0x0407) s.time.toNat 2
      (laneDetail (l + 16) 0 0 (s.link l).lastRate ((s.rateFallback l).link l).target % 2 ^ 128) := by
  obtain ⟨hstate, hrate, -⟩ := s.atRate_reads l (s.link l).lastRate (st := 5) (by decide)
  have hevents : (s.fellBack l).events = s.events := s.fellBack_part l .events (by decide)
  have htime : (s.fellBack l).time = s.time := s.fellBack_part l .time (by decide)
  have htarget : ((s.rateFallback l).link l).target = (s.fellBack l).rateTarget l ((s.fellBack l).link l).target := by
    rw [State.link_rateFallback, State.link_fellBack]
    rfl
  refine ⟨?_, ?_, by rw [State.link_rateFallback]; rfl, by rw [State.rateTarget_rateFallback, State.link_rateFallback], ?_⟩
  · rw [State.rateFallback_eq, State.lstate_raise, State.lstate_modLink, State.fellBack, State.lstate_modLink, hstate]
  · rw [State.rateFallback_eq, State.getR_raise, State.getR_modLink, State.fellBack, State.getR_modLink, hrate]
  · rw [htarget, State.rateFallback_eq, State.raise_events]
    rw [State.modLink, State.modLanes_events, State.modLanes_time, hevents, htime]

theorem State.rateFallback_part (s : State) (l : Nat) (p : Part) (hp : p ∉ [Part.lanes, .events]) : p.same s (s.rateFallback l) := by
  have hw : Within [.lanes, .events] anyField (s.fellBack l) (s.rateFallback l) := by
    rw [State.rateFallback_eq]
    exact ((Within.refl _).modLink _ _ (by decide)).raise _ _ _ _ (by decide)
  exact Part.same_trans (s.fellBack_part l p (fun h => hp (by simp [h]))) (hw.part_eq p hp)

theorem State.rateFallback_txq (s : State) (l : Nat) : (s.rateFallback l).lanes.txq = s.lanes.txq := by
  have hrate : (s.atRate l (s.link l).lastRate 5).lanes = s.lanes := (s.atRate_leaves l _ (by decide)).2.1 .lanes List.not_mem_nil
  rw [← hrate]
  rfl

/-! ### Equalization (R298, R313) -/

theorem State.eqMove_held (h : s.flag Reg.LNE_TXEQ_MANUAL (n + 16) = true) (r : Nat) : s.eqMove n r = s := if_pos h

theorem State.eqMove_moves (h : s.flag Reg.LNE_TXEQ_MANUAL (n + 16) = false) (r : Nat) :
    s.eqMove n r = s.modLink n (fun k => { k with taps := some (moveTaps (s.taps n) r) }) := if_neg (by simp [h])

/-! ### CAP (R313, R315) -/

theorem State.capHeld_part (s : State) (n : Nat) (maxRate : BitVec 8) (mask : BitVec 16) (dev : BitVec 6) (lantum : Bool) (p : Part) (hp : p ≠ .lanes) :
    p.same s (s.capHeld n maxRate mask dev lantum) :=
  ((((Within.refl (ps := [.lanes]) (W := anyField) s).setR _ _ _ trivial).setR _ _ _ trivial).setR _ _ _ trivial |>.modLink _ _ (by decide)).part_eq p
    (by simpa using hp)

theorem State.link_capHeld (s : State) (n : Nat) (maxRate : BitVec 8) (mask : BitVec 16) (dev : BitVec 6) (lantum : Bool) :
    ((s.capHeld n maxRate mask dev lantum).link n).lastCap = capWord maxRate mask dev lantum
      ∧ ((s.capHeld n maxRate mask dev lantum).link n).capSame = (s.link n).capsAlike (capWord maxRate mask dev lantum)
      ∧ ((s.capHeld n maxRate mask dev lantum).link n).capSent = (s.link n).capSent := by
  rw [State.capHeld, State.link_modLink_self]
  exact ⟨rfl, rfl, rfl⟩

/-- What the peer's registers show of a CAP once it is settled and this end's slot has passed is what they showed when it was held. -/
theorem State.getR_capSettled_slotPassed (s : State) (n bound : Nat) (f : Field) (hf : ∀ g ∈ dclStFields, f.id % Field.idBound ≠ g.id % Field.idBound) :
    ((s.capSettled n bound).slotPassed n).getR f n = s.getR f n := by
  rw [State.getR_slotPassed, (s.capSettled_within n bound).getR_eq _ _ hf]

theorem State.capSettled_slotPassed_part (s : State) (n bound : Nat) (p : Part) (hp : p ∉ [Part.lanes, .free]) :
    p.same s ((s.capSettled n bound).slotPassed n) :=
  Part.same_trans ((s.capSettled_within n bound).part_eq p (fun h => hp (List.mem_cons.2 (.inl (List.mem_singleton.1 h)))))
    ((s.capSettled n bound).slotPassed_part n p hp)

/-- Once a CAP is settled and this end's slot has passed: the CAPs are as they were held, the target is one that both ends offer, and the link steps towards it. -/
theorem State.capSettled_reads (s : State) (n bound : Nat) :
    (((s.capSettled n bound).slotPassed n).link n).lastCap = (s.link n).lastCap
      ∧ (((s.capSettled n bound).slotPassed n).link n).capSame = (s.link n).capSame
      ∧ (((s.capSettled n bound).slotPassed n).link n).target = ((s.capSettled n bound).slotPassed n).rateTarget n bound
      ∧ ((s.capSettled n bound).slotPassed n).lstate n = if ((s.capSettled n bound).slotPassed n).getR Reg.DCL_STAT_RATE_NOW n
        = (((s.capSettled n bound).slotPassed n).link n).target then 5 else 3 := by
  have hreg := s.getR_capSettled_slotPassed n bound
  obtain ⟨hlast, hsame, htarget, hex⟩ := (s.capSettled n bound).rates_slotPassed n
  obtain ⟨htarget', hlast', hsame', hex'⟩ := s.link_capSettled n bound
  have hgoal : ((s.capSettled n bound).slotPassed n).rateTarget n bound = s.rateTarget n bound :=
    State.rateTarget_congr (State.rateOffered_congr (hreg _ (by decide)) (hreg _ (by decide)) (hreg _ (by decide)) (hex.trans hex')) bound
  refine ⟨hlast.trans hlast', hsame.trans hsame', (htarget.trans htarget').trans hgoal.symm, ?_⟩
  rw [State.lstate_slotPassed, htarget, htarget', hreg _ (by decide), State.capSettled, State.lstate_dclStep, State.link_modLink_self, State.getR_modLink]

/-- Settles O31, command by command: by the state that the link is in, and by what the link's own parts then read. -/
theorem linkBringUpCommandsComplete : Obligations.LinkBringUpCommandsComplete := by
  unfold Obligations.LinkBringUpCommandsComplete
  refine ⟨?enable, ?disable, ?noChange, ?lock, ?noLock, ?stays, ?cap, ?target, ?note, ?switch, ?eq, ?taps, ?timeout, ?fallback, ?status, ?slot, ?idle⟩
  case enable =>
    intro s l hen
    obtain ⟨hflag, hst, hrate, hlink⟩ := s.dclEnabled_reads l
    exact ⟨s.dclEnabled l, execDclEnable_off hen, hflag, hst, hrate, by rw [hlink]; rfl, by rw [hlink]; rfl, fun m hm => State.link_enterDetect_ne _ hm,
      s.dclEnabled_leaves l⟩
  case disable =>
    intro s l hen
    obtain ⟨hflag, hst, hrate, hex, hatt, hq⟩ := s.dclDisabled_reads l
    have hw := s.dclDisabled_within l
    exact ⟨s.dclDisabled l, execDclDisable_on hen, hflag, hst, hrate, by rw [State.flag, State.flag, hw.getR_eq _ _ (by decide)], hex, hatt, hq,
      hw.part_eq .mem (by decide), hw.part_eq .time (by decide)⟩
  case noChange =>
    intro s l
    exact ⟨fun h => if_pos h, fun h => if_neg (by simp [h])⟩
  case lock =>
    rintro s l ⟨h0, h7⟩ hmode
    exact if_neg (by simp [h0, h7, hmode])
  case noLock =>
    intro s l h
    exact if_pos (by simpa [or_assoc] using h)
  case stays =>
    intro s l maxRate rate req mask dev a b
    refine ⟨fun h => if_neg h, fun h => ?noRate, fun h => if_neg ?noSwitch, fun h => ?noTraining, fun h => s.when_false _ ?noRelock⟩
    case noRate =>
      have hnot : (decide (s.lstate l = 3) && decide ((s.link l).step = rate.toNat)) = false := by rcases h with h | h <;> simp [h]
      exact ⟨s.when_false _ hnot, s.when_false _ hnot⟩
    case noSwitch => rcases h with h | h | h <;> simp [h]
    case noTraining =>
      have hnot : (decide (s.lstate l = 4) && !(s.link l).relock) = false := by rcases h with h | h <;> simp [h]
      exact ⟨if_neg (by simp [hnot]), s.when_false _ hnot⟩
    case noRelock => rcases h with h | h <;> simp [h]
  case cap =>
    intro s l maxRate mask dev lantum h
    obtain ⟨hmask, hdev, hlantum, hst⟩ := s.capHeld_reads l maxRate mask dev lantum
    obtain ⟨hword, halike, hsent⟩ := s.link_capHeld l maxRate mask dev lantum
    have hpart := s.capHeld_part l maxRate mask dev lantum
    have hexec := execDclCap_eq maxRate mask dev lantum h
    generalize s.capHeld l maxRate mask dev lantum = u at *
    by_cases hset : 3 ≤ (s.link l).capsAlike (capWord maxRate mask dev lantum) ∧ 3 ≤ (s.link l).capSent + 1
    · have hreg := u.getR_capSettled_slotPassed l (min 12 maxRate.toNat)
      have hsame := u.capSettled_slotPassed_part l (min 12 maxRate.toNat)
      obtain ⟨hlast, hcaps, htarget, hstate⟩ := u.capSettled_reads l (min 12 maxRate.toNat)
      rw [if_pos hset] at hexec
      refine ⟨_, hexec, (hreg _ (by decide)).trans hmask, (hreg _ (by decide)).trans hdev, ?_, hlast.trans hword, by rw [hcaps, hlast, halike, hword]; rfl,
        fun hnot => ?_, fun _ _ => ⟨htarget, hstate⟩, (hsame .mem (by decide)).trans (hpart .mem (by decide)),
        (hsame .time (by decide)).trans (hpart .time (by decide))⟩
      · rw [State.flag, hreg _ (by decide)]
        exact hlantum
      · rw [hcaps, halike] at hnot
        omega
    · obtain ⟨hlast, hcaps, -, -⟩ := u.rates_slotPassed l
      rw [if_neg hset] at hexec
      refine ⟨_, hexec, (u.getR_slotPassed l _ _).trans hmask, (u.getR_slotPassed l _ _).trans hdev, (u.flag_slotPassed l _ _).trans hlantum,
        hlast.trans hword, by rw [hcaps, hlast, halike, hword]; rfl, fun _ => ⟨(u.lstate_slotPassed l l).trans (hst.trans h), ?_⟩, fun h3 h2 => ?_,
        (u.slotPassed_part l .mem (by decide)).trans (hpart .mem (by decide)), (u.slotPassed_part l .time (by decide)).trans (hpart .time (by decide))⟩
      · rw [State.capSent_slotPassed (hst.trans h), hsent]
      · rw [hcaps, halike] at h3
        exact absurd ⟨h3, by omega⟩ hset
  case target => exact fun s l bound h => State.rateTarget_highest bound h
  case note =>
    intro s l rate hst hstep
    exact ⟨s.when_true _ (by simp [hst, hstep]), s.when_true _ (by simp [hst, hstep])⟩
  case switch =>
    intro s l hst hack
    obtain ⟨hstate, hrate, hlane⟩ := s.atRate_reads l (s.link l).step (st := 4) (by decide)
    refine ⟨_, execDclRateSwitch_eq hst hack, hrate, hlane, hstate, ?_, ?_, fun m hm => ?_, ?_⟩
    · rw [State.link_modLink_self]
      rfl
    · rw [State.link_modLink_self]
      rfl
    · rw [State.link_modLink_ne _ _ hm, State.link_atRate]
    · exact ((s.atRate_leaves l _ (by decide)).mono (by simp) (fun _ h => h)).modLink _ _ (by decide)
  case eq =>
    intro s l req peer own hst hlock
    refine (if_pos (by simp [hst, hlock])).trans ?_
    simp only [Bool.and_eq_true, apply_ite (fun u : State => u.slotPassed l)]
  case taps =>
    intro s l a b c
    refine ⟨fun h r => State.eqMove_held h r, fun h r => ?_, rfl, rfl, rfl, rfl, rfl, rfl, rfl⟩
    rw [State.eqMove_moves h]
    exact ⟨by rw [State.link_modLink_self], Leaves.refl.modLink _ _ (by decide)⟩
  case timeout =>
    intro s l h
    change s.when _ _ = _ ∧ s.when _ _ = _
    cases (s.link l).relock <;> simp [State.when, h]
  case fallback =>
    intro s l
    obtain ⟨hst, hrate, hex, htarget, hevents⟩ := s.rateFallback_reads l
    exact ⟨hst, hrate, hex, htarget, hevents, s.rateFallback_part l .mem (by decide), s.rateFallback_part l .time (by decide), s.rateFallback_txq l⟩
  case status => exact fun s l bits => ⟨rfl, rfl⟩
  case slot =>
    intro s l h
    have hlink : (s.slotPassed l).link l = s.slotSent l (s.upControl l (s.link l).superframe) (s.link l) := by
      rw [State.slotPassed_up h, State.link_draw, State.link_modLink_self]
    refine ⟨by rw [hlink]; rfl, by rw [hlink]; rfl, rfl, rfl, rfl, rfl, fun sf hsf => s.upControl_late l hsf, s.slotPassed_regs l, ?_, ?_, ?_⟩
    · exact s.slotPassed_part l .mem (by decide)
    · exact s.slotPassed_part l .events (by decide)
    · exact s.slotPassed_part l .time (by decide)
  case idle =>
    intro s l
    refine ⟨State.slotPassed_idle, s.slotPassed_leaves l, fun m hm => s.link_slotPassed_ne hm, ?_⟩
    rw [State.slotPassed_lanes]
    exact ⟨rfl, rfl, rfl, rfl⟩

end Sys2Proof.Machine
end

section
/-!
PROOF. The latency, network time, map and retrain commands of a DCL link (R311 to R328): a set of samples by its spread, an attempt by how many have failed, a
retrain by whether the link is in UP.
-/

namespace Sys2Proof.Machine

variable {ps : List Part} {W : Field → Prop} {s t : State} {l : Nat}

/-! ### Attempts that fail (R318) -/

/-- A link back in DETECT for another attempt. -/
def State.detectAgain (s : State) (l : Nat) : State := (s.enterDetect l).modLink l (fun k => { k with attempts := (s.link l).attempts + 1, measFails := 0 })

theorem State.attemptFail_early (h : ¬ 7 ≤ (s.link l).attempts) : s.attemptFail l = s.detectAgain l := if_neg (by omega)

theorem State.attemptFail_last (h : 7 ≤ (s.link l).attempts) : s.attemptFail l =
    ((s.detectAgain l).dclSt l 7).raise (laneSrc (l + 16)) 0x0408 4 (laneDetail (l + 16) 0 0 0 0 ((s.link l).attempts + 1)) := if_pos (by omega)

theorem State.detectAgain_within (s : State) (l : Nat) : Within [.lanes] (fun f => f ∈ detectFields) s (s.detectAgain l) :=
  (s.enterDetect_within l).modLink _ _ (by decide)

theorem State.detectAgain_reads (s : State) (l : Nat) : (s.detectAgain l).lstate l = 1 ∧ ((s.detectAgain l).link l).attempts = (s.link l).attempts + 1 :=
  ⟨by rw [State.detectAgain, State.lstate_modLink, (s.enterDetect_reads l).1], by rw [State.detectAgain, State.link_modLink_self]⟩

theorem State.attemptFail_within (s : State) (l : Nat) : Within [.lanes, .events] (fun f => f ∈ detectFields) s (s.attemptFail l) := by
  have hagain : Within [.lanes, .events] (fun f => f ∈ detectFields) s (s.detectAgain l) := (s.detectAgain_within l).mono (by decide) (fun _ h => h)
  by_cases h : 7 ≤ (s.link l).attempts
  · rw [State.attemptFail_last h]
    exact (hagain.dclSt l 7 (fun f hf => by simp [detectFields, hf])).raise _ _ _ _ (by decide)
  · rw [State.attemptFail_early h]
    exact hagain

theorem State.attemptFail_reads (s : State) (l : Nat) : (s.attemptFail l).lstate l = (if 7 ≤ (s.link l).attempts then 7 else 1)
    ∧ ((s.attemptFail l).link l).attempts = (s.link l).attempts + 1
    ∧ (s.attemptFail l).events = (if 7 ≤ (s.link l).attempts
      then raiseIn s.events (evKey (laneSrc (l + 16)) 0x0408) s.time.toNat 4 (laneDetail (l + 16) 0 0 0 0 ((s.link l).attempts + 1) % 2 ^ 128)
      else s.events) := by
  have hevents : (s.detectAgain l).events = s.events := (s.detectAgain_within l).part_eq .events (by decide)
  have htime : (s.detectAgain l).time = s.time := (s.detectAgain_within l).part_eq .time (by decide)
  obtain ⟨hstate, hatt⟩ := s.detectAgain_reads l
  by_cases h : 7 ≤ (s.link l).attempts
  · have hevents' : ((s.detectAgain l).dclSt l 7).events = s.events := (State.dclSt_part _ l 7 .events).trans hevents
    have htime' : ((s.detectAgain l).dclSt l 7).time = s.time := (State.dclSt_part _ l 7 .time).trans htime
    rw [State.attemptFail_last h, if_pos h, if_pos h, State.lstate_raise, State.link_raise, State.link_dclSt, State.raise_events, hevents', htime']
    exact ⟨State.lstate_dclSt_self _ l (by decide), hatt, rfl⟩
  · rw [State.attemptFail_early h, if_neg h, if_neg h]
    exact ⟨hstate, hatt, hevents⟩

theorem State.measFail_eq (s : State) (l : Nat) : s.measFail l = if 2 ≤ (s.link l).measFails then s.attemptFail l
    else s.modLink l (fun k => { k with samples := [], measFails := (s.link l).measFails + 1 }) := by
  have hthird : (s.link l).measFails + 1 ≥ 3 ↔ 2 ≤ (s.link l).measFails := by omega
  simp only [State.measFail, hthird]

/-! ### The measurement (R321) -/

theorem insertSorted_replicate (x : Int) (n : Nat) : insertSorted x (List.replicate n x) = List.replicate (n + 1) x := by
  cases n with
  | zero => rfl
  | succ n => exact if_pos (le_refl x)

theorem foldr_insertSorted_replicate (x : Int) (n : Nat) : (List.replicate n x).foldr insertSorted [] = List.replicate n x := by
  induction n with
  | zero => rfl
  | succ n ih => rw [List.replicate_succ, List.foldr_cons, ih, insertSorted_replicate, List.replicate_succ]

/-- A link's parts once its latency is accepted. -/
def Link.up (d : Int) (k : Link) : Link := { k with latency := some d, measFails := 0, attempts := 0, skewRaised := false, retrainDue := 0 }

/-- A link in UP with its latency held, its streams' outages not yet over. -/
def State.upMeasured (s : State) (l : Nat) (d : Int) (turn : Nat) : State :=
  (((s.setLat l d).setR Reg.DCL_TURN_TICKS l turn).dclSt l 6).modLink l (Link.up d)

/-- The outages of a link's streams are over. -/
def State.outagesOver (s : State) (l : Nat) : State :=
  s.modLanes (fun x => { x with outage := x.outage.filter (fun k => !decide (s.streamLink (k / 2) = some l)) })

@[simp] theorem State.getR_outagesOver (s : State) (l : Nat) (f : Field) (i : Nat) : (s.outagesOver l).getR f i = s.getR f i := rfl
@[simp] theorem State.link_outagesOver (s : State) (l m : Nat) : (s.outagesOver l).link m = s.link m := rfl

theorem Within.capacityCheck (h : Within ps W s t) (l : Nat) (hp : Part.events ∈ ps) : Within ps W s (t.capacityCheck l) :=
  h.foldl (fun _ _ k => .ite (k.raise _ _ _ _ hp) k) _

/-- Beside the events, a link that comes up is one in UP with its latency held. -/
theorem State.dclUp_within (s : State) (l : Nat) (d : Int) (turn : Nat) :
    Within [.events] (fun _ => False) ((s.upMeasured l d turn).outagesOver l) (s.dclUp l d turn) :=
  have hup := (Within.refl (ps := [.events]) (W := fun _ => False) ((s.upMeasured l d turn).outagesOver l)).raise
    (laneSrc (l + 16)) 0x0405 0 _ (by decide)
  .ite ((Within.ite (hup.raise _ _ _ _ (by decide)) hup).capacityCheck l (by decide)) (.ite (hup.raise _ _ _ _ (by decide)) hup)

theorem State.upMeasured_reads (s : State) (l : Nat) (d : Int) (turn : Nat) : (s.upMeasured l d turn).lstate l = 6
    ∧ (s.upMeasured l d turn).getR Reg.DCL_TURN_TICKS l = turn % 2 ^ 24 ∧ ((s.upMeasured l d turn).link l).latency = some d
    ∧ (s.upMeasured l d turn).getR Reg.DCL_LAT_TX_TICKS l = unsigned 24 (d + s.asym l) := by
  refine ⟨?_, ?_, by rw [State.upMeasured, State.link_modLink_self]; rfl, ?_⟩
  · rw [State.upMeasured, State.lstate_modLink, State.lstate_dclSt_self _ _ (by decide)]
  · rw [State.upMeasured, State.getR_modLink, (State.dclSt_within _ l 6).getR_eq _ _ (by decide), State.getR_setR_self]
    simp [Field.norm, Reg.DCL_TURN_TICKS]
  · rw [State.upMeasured, State.getR_modLink, (State.dclSt_within _ l 6).getR_eq _ _ (by decide), State.setLat]
    simp (disch := decide) only [State.getR_setR_id, State.getR_setR_self]
    refine Field.norm_of_lt rfl ?_
    change (_ % (2 ^ 24 : Int)).toNat < 2 ^ 24
    omega

theorem State.upMeasured_within (s : State) (l : Nat) (d : Int) (turn : Nat) : Within [.lanes] anyField s (s.upMeasured l d turn) :=
  (((((Within.refl s).setR _ _ _ trivial).setR _ _ _ trivial).setR _ _ _ trivial).dclSt l 6 (fun _ _ => trivial)).modLink _ _ (by decide)

theorem State.dclUp_part (s : State) (l : Nat) (d : Int) (turn : Nat) (p : Part) (hp : p ∉ [Part.lanes, .events]) : p.same s (s.dclUp l d turn) :=
  (((s.upMeasured_within l d turn).mono (qs := [.lanes, .events]) (by decide) (fun _ h => h)).modLanes _ (by decide) |>.trans
    ((s.dclUp_within l d turn).mono (by decide) (fun _ h => h.elim))).part_eq p hp

theorem State.dclUp_reads (s : State) (l : Nat) (d : Int) {turn : Nat} (hturn : turn < 2 ^ 24) : (s.dclUp l d turn).lstate l = 6
    ∧ (s.dclUp l d turn).getR Reg.DCL_TURN_TICKS l = turn ∧ ((s.dclUp l d turn).link l).latency = some d
    ∧ (s.dclUp l d turn).getR Reg.DCL_LAT_TX_TICKS l = unsigned 24 (d + s.asym l) := by
  have hreg : ∀ f, (s.dclUp l d turn).getR f l = (s.upMeasured l d turn).getR f l := fun f => by
    rw [(s.dclUp_within l d turn).getR_eq f l (fun _ h => h.elim), State.getR_outagesOver]
  obtain ⟨hstate, hturn', hlat, htx⟩ := s.upMeasured_reads l d turn
  rw [Nat.mod_eq_of_lt hturn] at hturn'
  refine ⟨(hreg _).trans hstate, (hreg _).trans hturn', ?_, (hreg _).trans htx⟩
  rw [State.link_congr ((s.dclUp_within l d turn).part_eq .lanes (by decide)), State.link_outagesOver, hlat]

/-- A link with one more sample. -/
def State.sampled (s : State) (l : Nat) (d : Int) : State := s.modLink l (fun k => { k with samples := (s.link l).samples ++ [d] })

theorem execDclTsRsp_early {l : Fin 144} {seq : BitVec 8} {turn : BitVec 24} {elapsed : BitVec 32} (h : s.lstate l = 5) (hlen : (s.link l).samples.length < 15)
    (hseq : seq.toNat = (s.link l).samples.length) :
    execDclTsRsp l seq turn elapsed s = .next ((s.sampled l ((elapsed.toNat : Int) - turn.toNat)).slotPassed l) := by
  refine (if_pos ⟨h, by omega⟩).trans (if_pos ?_)
  rw [List.length_append, List.length_singleton]
  omega

theorem execDclTsRsp_sixteenth {l : Fin 144} {seq : BitVec 8} {turn : BitVec 24} {elapsed : BitVec 32} {srt : List Int} (h : s.lstate l = 5)
    (hlen : (s.link l).samples.length = 15) (hseq : seq.toNat = 15)
    (hsrt : srt = ((s.link l).samples ++ [(elapsed.toNat : Int) - turn.toNat]).foldr insertSorted []) :
    execDclTsRsp l seq turn elapsed s = .next
      (if (srt.getLastD 0 - srt.headD 0) * 1000 ≤ 4000 + (if s.spread l then 5 * ((srt.getD 7 0 + srt.getD 8 0) / 2) else 0)
      then ((s.sampled l ((elapsed.toNat : Int) - turn.toNat)).dclUp l ((srt.getD 7 0 + srt.getD 8 0 + 2) / 4) turn.toNat).slotPassed l
      else ((s.sampled l ((elapsed.toNat : Int) - turn.toNat)).measFail l).slotPassed l) := by
  subst hsrt
  refine (if_pos ⟨h, by omega⟩).trans ((if_neg ?_).trans (apply_ite Host.Outcome.next _ _ _).symm)
  rw [List.length_append, List.length_singleton]
  omega

/-- Sixteen samples that are all alike are accepted. -/
theorem execDclTsRsp_alike {l : Fin 144} {seq : BitVec 8} {turn : BitVec 24} {elapsed : BitVec 32} {d : Int} (hd : d = (elapsed.toNat : Int) - turn.toNat)
    (h : s.lstate l = 5) (hsamples : (s.link l).samples = List.replicate 15 d) (hseq : seq.toNat = 15) (hle : 0 ≤ d) :
    execDclTsRsp l seq turn elapsed s = .next (((s.sampled l d).dclUp l ((d * 2 + 2) / 4) turn.toNat).slotPassed l) := by
  have hsrt : List.replicate 16 d = ((s.link l).samples ++ [d]).foldr insertSorted [] := by
    rw [hsamples, ← List.replicate_succ', foldr_insertSorted_replicate]
  rw [execDclTsRsp_sixteenth h (by rw [hsamples]; rfl) hseq (hd ▸ hsrt), ← hd]
  refine congrArg _ ((if_pos ?_).trans ?_)
  · change (d - d) * 1000 ≤ 4000 + (if s.spread l then 5 * ((d + d) / 2) else 0)
    split <;> omega
  · change ((s.sampled l d).dclUp l ((d + d + 2) / 4) turn.toNat).slotPassed l = _
    rw [mul_two]

/-! ### Network time and the map (R325, R328) -/

/-- How far the peer's time is from the counter. -/
def State.peerAhead (s : State) (l lo : Nat) : Int := (BitVec.ofNat 64 ((s.link l).peerHi * 2 ^ 32 + lo) - s.time).toInt

/-- The difference is shown. -/
def State.diffShown (s : State) (l lo : Nat) : State := s.setR Reg.DCL_TIMEDIFF_TICKS l (unsigned 32 (s.peerAhead l lo))

@[simp] theorem State.link_diffShown (s : State) (l lo m : Nat) : (s.diffShown l lo).link m = s.link m := by
  rw [State.diffShown, State.link_setR]

theorem State.timeDiff_eq (s : State) (l lo : Nat) : s.timeDiff l lo = if 64 < (s.peerAhead l lo).natAbs ∧ (s.link l).skewRaised = false then
    ((s.diffShown l lo).modLink l (fun k => { k with skewRaised := true })).raise (laneSrc (l + 16)) 0x040E 2
      (laneDetail (l + 16) 0 0 0 0 (unsigned 32 (s.peerAhead l lo))) else s.diffShown l lo := by
  simp only [State.timeDiff, Bool.and_eq_true, decide_eq_true_eq, Bool.not_eq_true']
  rfl

theorem State.timeDiff_leaves (s : State) (l lo : Nat) : Leaves [.lanes, .events] [Reg.DCL_TIMEDIFF_TICKS.key l] s (s.timeDiff l lo) := by
  have hshown : Leaves [.lanes, .events] [Reg.DCL_TIMEDIFF_TICKS.key l] s (s.diffShown l lo) := Leaves.refl.setR _ _ _ (List.mem_singleton_self _)
  rw [State.timeDiff_eq]
  exact .ite ((hshown.modLink _ _ (by decide)).raise _ _ _ _ (by decide)) hshown

theorem State.timeDiff_ticks (s : State) (l lo : Nat) :
    (s.timeDiff l lo).getR Reg.DCL_TIMEDIFF_TICKS l = unsigned 32 (s.peerAhead l lo) := by
  have hshown : (s.timeDiff l lo).getR Reg.DCL_TIMEDIFF_TICKS l = (s.diffShown l lo).getR Reg.DCL_TIMEDIFF_TICKS l := by
    rw [State.timeDiff_eq]
    split
    · rw [State.getR_raise, State.getR_modLink]
    · rfl
  rw [hshown, State.diffShown, State.getR_setR_self]
  refine Field.norm_of_lt rfl ?_
  change (_ % (2 ^ 32 : Int)).toNat < 2 ^ 32
  omega

/-- A difference of more than 64 ticks is reported once. -/
theorem State.timeDiff_reports (s : State) (l lo : Nat) :
    ((s.timeDiff l lo).link l).skewRaised = ((s.link l).skewRaised || decide (64 < (s.peerAhead l lo).natAbs))
      ∧ ((s.link l).skewRaised = true → (s.timeDiff l lo).events = s.events)
      ∧ ((s.link l).skewRaised = false → ((s.timeDiff l lo).link l).skewRaised = true → (s.timeDiff l lo).events
        = raiseIn s.events (evKey (laneSrc (l + 16)) 0x040E) s.time.toNat 2 (laneDetail (l + 16) 0 0 0 0 (unsigned 32 (s.peerAhead l lo)) % 2 ^ 128)) := by
  rw [State.timeDiff_eq]
  have hevents : (s.diffShown l lo).events = s.events := State.modRegs_events _ _
  have htime : (s.diffShown l lo).time = s.time := State.modRegs_time _ _
  by_cases h : 64 < (s.peerAhead l lo).natAbs ∧ (s.link l).skewRaised = false
  · rw [if_pos h, State.link_raise, State.link_modLink_self, State.raise_events]
    refine ⟨by simp [h.1], fun hr => absurd (hr.symm.trans h.2) (by decide), fun _ _ => ?_⟩
    rw [State.modLink, State.modLanes_events, State.modLanes_time, hevents, htime]
  · rw [if_neg h, State.link_diffShown]
    refine ⟨?_, fun _ => hevents, fun hr ht => absurd (ht.symm.trans hr) (by decide)⟩
    cases hr : (s.link l).skewRaised
    · simpa [hr] using h
    · rfl

/-- The check of the map against an ID that the peer has sent. -/
theorem State.mapCheck_of_some {id : Nat} (h : (s.link l).peerMap = some id) : s.mapCheck l =
    if s.flag Reg.DCL_STAT_MAP_OK l = true ∧ id ≠ s.getR Reg.DCL_RXMAPID_ID l then
      (s.setR Reg.DCL_STAT_MAP_OK l (bit (decide (id = s.getR Reg.DCL_RXMAPID_ID l)))).raise (laneSrc (l + 16)) 0x040A 3 (laneDetail (l + 16) 0 0 0 0 id)
    else s.setR Reg.DCL_STAT_MAP_OK l (bit (decide (id = s.getR Reg.DCL_RXMAPID_ID l))) := by
  simp only [State.mapCheck, h, Bool.and_eq_true, Bool.not_eq_true', decide_eq_false_iff_not]

/-- The peer's map ID is held and checked. -/
def State.mapHeld (s : State) (l id : Nat) : State := (s.modLink l (fun k => { k with peerMap := some id })).mapCheck l

theorem State.mapHeld_eq (s : State) (l id : Nat) : s.mapHeld l id =
    if s.flag Reg.DCL_STAT_MAP_OK l = true ∧ id ≠ s.getR Reg.DCL_RXMAPID_ID l then
      ((s.modLink l (fun k => { k with peerMap := some id })).setR Reg.DCL_STAT_MAP_OK l (bit (decide (id = s.getR Reg.DCL_RXMAPID_ID l)))).raise
        (laneSrc (l + 16)) 0x040A 3 (laneDetail (l + 16) 0 0 0 0 id)
    else (s.modLink l (fun k => { k with peerMap := some id })).setR Reg.DCL_STAT_MAP_OK l (bit (decide (id = s.getR Reg.DCL_RXMAPID_ID l))) :=
  State.mapCheck_of_some (by rw [State.link_modLink_self])

theorem State.mapHeld_leaves (s : State) (l id : Nat) : Leaves [.lanes, .events] [Reg.DCL_STAT_MAP_OK.key l] s (s.mapHeld l id) := by
  rw [State.mapHeld_eq]
  exact .ite (((Leaves.refl.modLink _ _ (by decide)).setR _ _ _ (List.mem_singleton_self _)).raise _ _ _ _ (by decide))
    ((Leaves.refl.modLink _ _ (by decide)).setR _ _ _ (List.mem_singleton_self _))

theorem State.mapHeld_reads (s : State) (l id : Nat) :
    (s.mapHeld l id).getR Reg.DCL_STAT_MAP_OK l = bit (decide (id = s.getR Reg.DCL_RXMAPID_ID l)) ∧ ((s.mapHeld l id).link l).peerMap = some id
      ∧ (s.mapHeld l id).events = if s.flag Reg.DCL_STAT_MAP_OK l = true ∧ id ≠ s.getR Reg.DCL_RXMAPID_ID l
        then raiseIn s.events (evKey (laneSrc (l + 16)) 0x040A) s.time.toNat 3 (laneDetail (l + 16) 0 0 0 0 id % 2 ^ 128) else s.events := by
  rw [State.mapHeld_eq]
  split
  · rw [State.getR_raise, State.getR_setR_self, norm_bit_of_width rfl rfl, State.link_raise, State.link_setR, State.link_modLink_self, State.raise_events]
    exact ⟨rfl, rfl, rfl⟩
  · rw [State.getR_setR_self, norm_bit_of_width rfl rfl, State.link_setR, State.link_modLink_self]
    exact ⟨rfl, rfl, rfl⟩

/-! ### Retrains (R319, R320) -/

/-- RCAUSE and RETRAINS show a retrain, which is reported. -/
def State.retrainShown (s : State) (l cause : Nat) : State :=
  ((s.setR Reg.DCL_STAT_RCAUSE l cause).wrapAdd Reg.DCL_STAT_RETRAINS l 1).raise (laneSrc (l + 16)) 0x0406 2
    (laneDetail (l + 16) 0 cause (s.getR Reg.DCL_STAT_RATE_NOW l))

/-- A link's parts at a retrain. -/
def State.retraining (s : State) (l cause : Nat) (k : Link) : Link :=
  { k with
    retrainDue := cause
    leftAt := s.ncyc + 1
    upRate := s.getR Reg.DCL_STAT_RATE_NOW l
    sent := if cause = 7 ∨ s.flag Reg.LNE_QREF_REF_OK ((l + 16) / 4) = false then k.sent
      else [lineForm (s.getR Reg.DCL_STAT_RATE_NOW l) (controlBlock (0x0B, cause))]
    measFails := 0
    attempts := 0 }

/-- A link that leaves UP, its messages discarded. -/
def State.leftUp (s : State) (l cause : Nat) : State := ((s.retrainShown l cause).dclSt l 1).dclFlush l

theorem State.dclRetrain_up (h : s.lstate l = 6) (cause : Nat) :
    s.dclRetrain l cause = ((s.leftUp l cause).enterDetect l).modLink l (s.retraining l cause) := if_neg (by simp [h])

theorem State.dclRetrain_not_up (h : s.lstate l ≠ 6) (cause : Nat) :
    s.dclRetrain l cause = (if (s.link l).leftAt = s.ncyc + 1 ∧ cause < s.getR Reg.DCL_STAT_RCAUSE l
      then (s.setR Reg.DCL_STAT_RCAUSE l cause).modLink l (fun k => { k with retrainDue := cause }) else s) := by
  refine (if_pos h).trans ?_
  simp only [Bool.and_eq_true, decide_eq_true_eq]

theorem State.leftUp_within (s : State) (l cause : Nat) :
    Within [.lanes, .events] (fun f => f ∈ dropFields ++ dclStFields) (s.retrainShown l cause) (s.leftUp l cause) :=
  ((Within.refl _).dclSt l 1 (fun f hf => by simp [hf])).dclFlush l (by decide) (by decide) (fun f hf => by simp [hf])

/-- What a retrain writes beside RCAUSE and RETRAINS. -/
theorem State.dclRetrain_within (h : s.lstate l = 6) (cause : Nat) :
    Within [.lanes, .events] (fun f => f ∈ dropFields ++ detectFields) (s.retrainShown l cause) (s.dclRetrain l cause) := by
  rw [State.dclRetrain_up h]
  exact (((s.leftUp_within l cause).mono (fun _ h => h) (fun f hf => by
    simp only [detectFields, List.mem_append, List.mem_cons] at hf ⊢
    tauto)).enterDetect l (by decide) (fun f hf => by simp [hf])).modLink _ _ (by decide)

theorem State.retrainShown_within (s : State) (l cause : Nat) :
    Within [.events] (fun f => f ∈ [Reg.DCL_STAT_RCAUSE, Reg.DCL_STAT_RETRAINS]) s (s.retrainShown l cause) :=
  (((Within.refl s).setR _ _ _ (by simp)).wrapAdd _ _ _ (by simp)).raise _ _ _ _ (by decide)

theorem State.dclRetrain_part (h : s.lstate l = 6) (cause : Nat) (p : Part) (hp : p ∉ [Part.lanes, .events]) : p.same s (s.dclRetrain l cause) :=
  Part.same_trans ((s.retrainShown_within l cause).part_eq p (fun he => hp (by simp [List.mem_singleton.1 he]))) ((State.dclRetrain_within h cause).part_eq p hp)

theorem State.retrainShown_reads (s : State) (l : Nat) {cause : Nat} (hc : cause < 8) : (s.retrainShown l cause).getR Reg.DCL_STAT_RCAUSE l = cause
    ∧ (s.retrainShown l cause).getR Reg.DCL_STAT_RETRAINS l = (s.getR Reg.DCL_STAT_RETRAINS l + 1) % 2 ^ Reg.DCL_STAT_RETRAINS.width := by
  unfold State.retrainShown State.wrapAdd
  simp (disch := decide) only [State.getR_raise, State.getR_setR_id, State.getR_setR_self]
  exact ⟨Field.norm_of_lt rfl hc, by simp [Field.norm, Reg.DCL_STAT_RETRAINS]⟩

theorem State.queuedOn_dclRetrain (h : s.lstate l = 6) (cause : Nat) : (s.dclRetrain l cause).queuedOn l = [] := by
  have hlanes : (s.dclRetrain l cause).lanes.txq = (s.leftUp l cause).lanes.txq := by
    rw [State.dclRetrain_up h, State.modLink, State.modLanes_lanes, State.enterDetect_lanes]
  have hstream : ∀ n, (s.dclRetrain l cause).getR Reg.DCL_STR_CFG_LANE n = (s.leftUp l cause).getR Reg.DCL_STR_CFG_LANE n := fun n => by
    rw [State.dclRetrain_up h, State.getR_modLink, (State.enterDetect_within _ l).getR_eq _ _ (by decide)]
  rw [State.queuedOn_congr hlanes hstream, State.leftUp, State.queuedOn_dclFlush]

theorem State.link_dclRetrain (h : s.lstate l = 6) (cause : Nat) :
    (s.dclRetrain l cause).link l = s.retraining l cause (((s.leftUp l cause).enterDetect l).link l) := by
  rw [State.dclRetrain_up h, State.link_modLink_self]

/-- What a retrain of a link in UP reads. -/
theorem State.dclRetrain_reads (h : s.lstate l = 6) {cause : Nat} (hc : cause < 8) : (s.dclRetrain l cause).lstate l = 1
    ∧ (s.dclRetrain l cause).getR Reg.DCL_STAT_RCAUSE l = cause
    ∧ (s.dclRetrain l cause).getR Reg.DCL_STAT_RETRAINS l = (s.getR Reg.DCL_STAT_RETRAINS l + 1) % 2 ^ Reg.DCL_STAT_RETRAINS.width
    ∧ (s.dclRetrain l cause).getR Reg.DCL_STAT_RATE_NOW l = 0 := by
  have hw := State.dclRetrain_within h cause
  obtain ⟨hcause, hcount⟩ := s.retrainShown_reads l hc
  obtain ⟨hstate, hrate, -⟩ := (s.leftUp l cause).enterDetect_reads l
  refine ⟨?_, (hw.getR_eq _ _ (by decide)).trans hcause, (hw.getR_eq _ _ (by decide)).trans hcount, ?_⟩
  · rw [State.dclRetrain_up h, State.lstate_modLink, hstate]
  · rw [State.dclRetrain_up h, State.getR_modLink, hrate]

/-! ### The commands -/

/-- Settles O32, command by command: by the state that the link is in, and by what the measurement, the map or the retrain then reads. -/
theorem latencyAndRetrainCommandsComplete : Obligations.LatencyAndRetrainCommandsComplete := by
  unfold Obligations.LatencyAndRetrainCommandsComplete
  refine ⟨?held, ?stays, ?sample, ?sixteenth, ?alike, ?timeout, ?attempt, ?time, ?map, ?causes, ?threshold, ?block, ?retrain, ?notUp⟩
  case held =>
    intro s l seq turn tx rx h
    have hst : (decide (s.lstate l = 5) || decide (s.lstate l = 6)) = true := by simpa using h
    exact ⟨s.when_true _ hst, s.when_true _ hst⟩
  case stays =>
    intro s l seq epoch turn tx rx elapsed hi lo id
    refine ⟨fun h5 h6 => ?noMeasure, fun h => if_neg ?_, fun h => s.when_false _ (by simpa using h), fun h => s.when_false _ (by simpa using h),
      fun h => ⟨s.when_false _ (by simpa using h), if_neg h, s.when_false _ (by simpa using h)⟩⟩
    case noMeasure =>
      have hst : (decide (s.lstate l = 5) || decide (s.lstate l = 6)) = false := by simp [h5, h6]
      exact ⟨s.when_false _ hst, s.when_false _ hst⟩
    · rintro ⟨h5, hseq⟩
      exact h.elim (fun hst => hst h5) (fun hne => hne hseq)
  case sample => exact fun s l seq turn elapsed h hlen hseq => execDclTsRsp_early h hlen hseq
  case sixteenth =>
    rintro s t l seq turn elapsed srt h ⟨hlen, hseq⟩ rfl hsrt
    exact execDclTsRsp_sixteenth h hlen hseq hsrt
  case alike =>
    intro s l seq turn elapsed h hsamples hseq hle _
    have hexec := execDclTsRsp_alike rfl h hsamples hseq (by omega)
    obtain ⟨hst, hturn, hlat, htx⟩ := (s.sampled l ((elapsed.toNat : Int) - turn.toNat)).dclUp_reads l
      ((((elapsed.toNat : Int) - turn.toNat) * 2 + 2) / 4) turn.isLt
    have hpart := (s.sampled l ((elapsed.toNat : Int) - turn.toNat)).dclUp_part l ((((elapsed.toNat : Int) - turn.toNat) * 2 + 2) / 4) turn.toNat
    refine ⟨_, hexec, (State.lstate_slotPassed _ l l).trans hst, (State.getR_slotPassed _ l _ _).trans hturn, ?_, (State.getR_slotPassed _ l _ _).trans htx,
      (State.slotPassed_part _ l .mem (by decide)).trans (hpart .mem (by decide)), (State.slotPassed_part _ l .time (by decide)).trans (hpart .time (by decide))⟩
    rw [State.link_slotPassed]
    exact hlat
  case timeout =>
    intro s l
    exact ⟨fun h => (s.when_true _ (by simpa using h)).trans (congrArg _ (s.measFail_eq l)), fun h => s.when_true _ (by simpa using h)⟩
  case attempt =>
    intro s l
    obtain ⟨hst, hatt, hevents⟩ := s.attemptFail_reads l
    exact ⟨hst, hatt, hevents, (s.attemptFail_within l).part_eq .mem (by decide), (s.attemptFail_within l).part_eq .time (by decide)⟩
  case time =>
    intro s l hi lo epoch h
    obtain ⟨hraised, hquiet, hreport⟩ := s.timeDiff_reports l lo.toNat
    exact ⟨s.when_true _ (by simpa using h), (if_pos h).trans (congrArg _ (apply_ite (fun u : State => u.slotPassed l) _ _ _)), s.timeDiff_ticks l lo.toNat,
      hraised, hquiet, hreport, s.timeDiff_leaves l lo.toNat⟩
  case map =>
    intro s l id h
    obtain ⟨hok, hid, hevents⟩ := s.mapHeld_reads l id.toNat
    exact ⟨s.mapHeld l id.toNat, s.when_true _ (by simpa using h), hok, hid, hevents, s.mapHeld_leaves l id.toNat⟩
  case causes =>
    intro s l cause
    exact ⟨fun h => if_pos h, fun h => (if_neg (by simp [h])).trans (if_pos h), fun h6 h7 => (if_neg h6).trans (if_neg h7), rfl, rfl⟩
  case threshold =>
    intro s l blocks
    exact (apply_ite Host.Outcome.next _ _ _).symm
  case block =>
    rintro s l gap e t rfl rfl
    exact ⟨rfl, rfl⟩
  case retrain =>
    intro s l cause h hc
    obtain ⟨hst, hcause, hcount, hrate⟩ := State.dclRetrain_reads h hc
    refine ⟨hst, hcause, hcount, hrate, State.queuedOn_dclRetrain h cause, ?_, ?_, State.dclRetrain_part h cause .mem (by decide),
      State.dclRetrain_part h cause .time (by decide)⟩
    · rw [State.link_dclRetrain h]
      rfl
    · rw [State.link_dclRetrain h]
      rfl
  case notUp => exact fun s l cause h => State.dclRetrain_not_up h cause

end Sys2Proof.Machine
end

section
/-!
PROOF. The stream commands of a DCL link (R326 to R335): a map write by its offset, a packet by what its stream is, a message by whether its stream may send or
receive, and the receiver block by block.
-/

namespace Sys2Proof.Machine

variable {s : State} {l : Fin 144} {off : BitVec 9} {value : BitVec 32}

/-! ### Map writes (R327, R328) -/

/-- A transmit map entry written. -/
def State.txEntry (s : State) (i v : Nat) : State :=
  (((s.setR Reg.DCL_TXMAP_S0 i v).setR Reg.DCL_TXMAP_V0 i (v / 2 ^ 12)).setR Reg.DCL_TXMAP_S1 i (v / 2 ^ 16)).setR Reg.DCL_TXMAP_V1 i (v / 2 ^ 28)

/-- A receive map entry written. -/
def State.rxEntry (s : State) (i v : Nat) : State :=
  (((s.setR Reg.DCL_RXMAP_S0 i v).setR Reg.DCL_RXMAP_V0 i (v / 2 ^ 12)).setR Reg.DCL_RXMAP_S1 i (v / 2 ^ 16)).setR Reg.DCL_RXMAP_V1 i (v / 2 ^ 28)

section
variable (h : (s.touchLane (l.val + 16)).lstate l = 0)
include h

theorem execDclMapWrite_txId (hoff : off.toNat = 0x2C) :
    execDclMapWrite l off value s = .next ((s.touchLane (l.val + 16)).setR Reg.DCL_TXMAPID_ID l value.toNat) :=
  (if_neg (not_not.2 h)).trans (if_pos hoff)

theorem execDclMapWrite_rxId (hoff : off.toNat = 0x30) :
    execDclMapWrite l off value s = .next (((s.touchLane (l.val + 16)).setR Reg.DCL_RXMAPID_ID l value.toNat).mapCheck l) :=
  (if_neg (not_not.2 h)).trans ((if_neg (by omega)).trans (if_pos hoff))

theorem execDclMapWrite_tx {k : Nat} (hk : k < 32) (hoff : off.toNat = 0x80 + 4 * k) :
    execDclMapWrite l off value s = .next ((s.touchLane (l.val + 16)).txEntry (l * 32 + k) value.toNat) := by
  have hindex : (off.toNat - 0x80) / 4 = k := by omega
  rw [← hindex]
  exact (if_neg (not_not.2 h)).trans ((if_neg (by omega)).trans ((if_neg (by omega)).trans (if_pos (by omega))))

theorem execDclMapWrite_rx {k : Nat} (hk : k < 32) (hoff : off.toNat = 0x100 + 4 * k) :
    execDclMapWrite l off value s = .next ((s.touchLane (l.val + 16)).rxEntry (l * 32 + k) value.toNat) := by
  have hindex : (off.toNat - 0x100) / 4 = k := by omega
  rw [← hindex]
  exact (if_neg (not_not.2 h)).trans ((if_neg (by omega)).trans ((if_neg (by omega)).trans ((if_neg (by omega)).trans (if_pos (by omega)))))

theorem execDclMapWrite_elsewhere (hid : off.toNat ≠ 0x2C ∧ off.toNat ≠ 0x30) (hoff : off.toNat < 0x80 ∨ 0x180 ≤ off.toNat) :
    execDclMapWrite l off value s = .next (s.touchLane (l.val + 16)) :=
  (if_neg (not_not.2 h)).trans ((if_neg hid.1).trans ((if_neg hid.2).trans ((if_neg (by omega)).trans (if_neg (by omega)))))

end

/-! ### Packets for a link's streams (R320, R331, R334, R335) -/

section
variable {engine : Fin 36} {p : Packet} {rest : List Packet} (hin : s.inbox (dclEp engine) = p :: rest)
include hin

theorem execDclTxPacket_rejected (hno : p.kind ≠ 0 ∨ s.cstate p.flow = 0 ∨ s.getR Reg.THY_CT_EP_DST p.flow ≠ dclEp engine
      ∨ s.flag Reg.THY_CT_STREAM_EN p.flow = false) :
    execDclTxPacket engine s = .next ((s.putInbox (dclEp engine) rest).kindReject (dclEp engine) p) := by
  simp only [execDclTxPacket, hin]
  exact if_pos hno

variable (hp : p.kind = 0 ∧ s.cstate p.flow ≠ 0 ∧ s.getR Reg.THY_CT_EP_DST p.flow = dclEp engine ∧ s.flag Reg.THY_CT_STREAM_EN p.flow = true)
include hp

theorem execDclTxPacket_offLink (hlink : s.streamLink (s.getR Reg.THY_CT_STREAM_INDEX p.flow) = none) :
    execDclTxPacket engine s = .next ((s.putInbox (dclEp engine) rest).streamDrop (s.getR Reg.THY_CT_STREAM_INDEX p.flow) false 1) := by
  obtain ⟨hkind, hlive, hdst, hstream⟩ := hp
  simp only [execDclTxPacket, hin, hlink]
  exact if_neg (by simp [hkind, hlive, hdst, hstream])

theorem execDclTxPacket_onLink {k n : Nat} (hn : s.getR Reg.THY_CT_STREAM_INDEX p.flow = n) (hlink : s.streamLink n = some k) :
    execDclTxPacket engine s = .next (if s.lstate k ≠ 6 then (s.putInbox (dclEp engine) rest).streamDrop n false 1
      else if s.getR Reg.DCL_STR_CFG_TYPE n = 4 ∧ ¬(p.xdev = true ∧ p.destDev = s.getR Reg.DCL_PEER_DEVID k)
      then ((s.putInbox (dclEp engine) rest).satAdd Reg.DCL_STR_DROP_TX n 1).raise (dclEp engine) 0x040D 2
        (laneDetail (s.getR Reg.DCL_STR_CFG_LANE n) n 0 0 0 p.destDev)
      else if 4 ≤ (s.txq n).length then (s.putInbox (dclEp engine) rest).streamDrop n false 1
      else (s.putInbox (dclEp engine) rest).putTxq n (s.txq n ++ [messageOf p])) := by
  obtain ⟨hkind, hlive, hdst, hstream⟩ := hp
  simp only [execDclTxPacket, hin, hn, hlink, apply_ite Host.Outcome.next, Bool.not_eq_true', ← Bool.not_eq_true, Bool.and_eq_true, decide_eq_true_eq]
  exact if_neg (by simp [hkind, hlive, hdst, hstream])

end

/-! ### Messages sent and received (R327 to R334) -/

theorem execDclMessageTransmit_sends {stream : BitVec 12} {m : StreamMsg} {rest : List StreamMsg} {k : Nat} (hq : s.txq stream.toNat = m :: rest)
    (hlink : s.streamLink stream.toNat = some k) (hup : s.lstate k = 6) (hdir : s.getR Reg.DCL_STR_CFG_DIR stream.toNat = 0)
    (hslots : 0 < s.nslots stream.toNat) : execDclMessageTransmit stream s = .next ((s.putTxq stream.toNat rest).modLanes (fun x => { x with
      sent := Map.set [] x.sent stream.toNat ((messageBlocks m).map (lineForm (s.getR Reg.DCL_STAT_RATE_NOW k))) })) := by
  simp only [execDclMessageTransmit, hq, hlink]
  exact s.when_true _ (by simp [hup, hdir, hslots])

/-- A stream that sends has a message, a link in UP, the transmit direction and slots. -/
theorem execDclMessageTransmit_stays {stream : BitVec 12} (h : s.txq stream.toNat = [] ∨ (∀ k, s.streamLink stream.toNat = some k → s.lstate k ≠ 6)
      ∨ s.getR Reg.DCL_STR_CFG_DIR stream.toNat ≠ 0 ∨ s.nslots stream.toNat = 0) : execDclMessageTransmit stream s = .next s := by
  cases hq : s.txq stream.toNat with
  | nil => simp only [execDclMessageTransmit, hq]
  | cons m rest =>
    have hno : (∀ k, s.streamLink stream.toNat = some k → s.lstate k ≠ 6) ∨ s.getR Reg.DCL_STR_CFG_DIR stream.toNat ≠ 0 ∨ s.nslots stream.toNat = 0 :=
      h.resolve_left (by simp [hq])
    cases hlink : s.streamLink stream.toNat with
    | none =>
      simp only [execDclMessageTransmit, hq, hlink]
      exact s.when_false _ rfl
    | some k =>
      simp only [execDclMessageTransmit, hq, hlink]
      refine s.when_false _ ?_
      rcases hno with hdown | hdir | hslots
      · simp [hdown k hlink]
      · simp [hdir]
      · simp [hslots]

theorem execDclStreamMessageReceive_stays {stream : BitVec 12} {blocks : List LineBlock} {ue : Bool} {corrected : BitVec 16}
    (h : (∀ k, s.streamLink stream.toNat = some k → s.lstate k ≠ 6) ∨ s.getR Reg.DCL_STR_CFG_DIR stream.toNat = 0 ∨ s.nslots stream.toNat = 0) :
    execDclStreamMessageReceive stream blocks ue corrected s = .next s := by
  cases hlink : s.streamLink stream.toNat with
  | none => simp only [execDclStreamMessageReceive, hlink]
  | some k =>
    simp only [execDclStreamMessageReceive, hlink]
    exact if_pos (h.imp_left (fun hdown => hdown k hlink))

/-! ### The receiver (R329, R330) -/

theorem headerLength_pos {q : List (Nat × Bool)} (h : headerGood q = true) : 0 < headerLength q := by
  simp only [headerGood, Bool.and_eq_true, decide_eq_true_eq] at h
  exact h.1.2

/-- From a good header on, a block joins the message until its length is reached. -/
theorem rxBlock_joins {r : StreamRx} {b : Nat × Bool} {q : List (Nat × Bool)} (hq : r.part ++ [b] = q) (hpart : r.part ≠ []) (hthree : 3 ≤ q.length)
    (hgood : q.length = 3 → headerGood q = true) : rxBlock r b =
    if q.length < 3 + ceilDiv (headerLength q) 8 then (⟨q, false⟩, none) else (streamRx0, some (.message (messageFrom q))) := by
  have hno : ¬(decide (q.length = 3) && !headerGood q) = true := by simpa using hgood
  subst hq
  unfold rxBlock
  rw [if_neg hpart, if_neg (by omega), if_neg hno]

/-- A good header is kept, and its payload is awaited. -/
theorem rxBlock_header {b c d : Nat × Bool} (h : headerGood [b, c, d] = true) : rxBlock ⟨[b, c], false⟩ d = (⟨[b, c, d], false⟩, none) := by
  have hlen := headerLength_pos h
  have hblocks : 0 < ceilDiv (headerLength [b, c, d]) 8 := Nat.div_pos (by omega) (by decide)
  have hthree : [b, c, d].length = 3 := rfl
  exact (rxBlock_joins (q := [b, c, d]) rfl (List.cons_ne_nil _ _) (by omega) (fun _ => h)).trans (if_pos (by omega))

/-- The last block of the payload completes the message. -/
theorem rxBlock_last {b c d x : Nat × Bool} {pay : List (Nat × Bool)} (h : pay.length + 1 = ceilDiv (headerLength ([b, c, d] ++ pay ++ [x])) 8) :
    rxBlock ⟨[b, c, d] ++ pay, false⟩ x = (streamRx0, some (.message (messageFrom ([b, c, d] ++ pay ++ [x])))) := by
  have hlen : ([b, c, d] ++ pay ++ [x]).length = pay.length + 4 := by simp
  exact (rxBlock_joins (q := [b, c, d] ++ pay ++ [x]) rfl (List.cons_ne_nil _ _) (by omega) (by omega)).trans (if_neg (by omega))

/-! ### The commands -/

/-- Settles O33, command by command, by the branch that its conditions take. -/
theorem streamCommandsComplete : Obligations.StreamCommandsComplete := by
  unfold Obligations.StreamCommandsComplete
  refine ⟨?map, ?mapRejected, ?mapElsewhere, ?entry, ?asym, ?packet, ?noStream, ?transmit, ?stays, ?receive, ?receiver, ?arrives⟩
  case map =>
    intro s l value h
    refine ⟨execDclMapWrite_txId h rfl, execDclMapWrite_rxId h rfl, fun k => ?_⟩
    exact ⟨execDclMapWrite_tx h k.isLt (by simp; omega), execDclMapWrite_rx h k.isLt (by simp; omega)⟩
  case mapRejected => exact fun s l off value h => if_pos h
  case mapElsewhere => exact fun s l off value h ⟨htx, hrx, hoff⟩ => execDclMapWrite_elsewhere h ⟨htx, hrx⟩ hoff
  case entry =>
    rintro s t stream value rfl
    change execDclStreamEntryWrite stream value s = _
    cases hc : s.streamContract stream.toNat with
    | none => exact if_neg (by simp [hc])
    | some id => exact if_pos (by simp [hc])
  case asym =>
    intro s l value
    change execDclAsymWrite l value s = _
    cases hlat : (s.link l).latency <;> simp only [execDclAsymWrite, hlat]
  case packet => exact fun s engine p rest k hin hp hlink => execDclTxPacket_onLink hin hp rfl hlink
  case noStream =>
    intro s engine p rest
    refine ⟨fun hin => ?_, fun hin hno => execDclTxPacket_rejected hin hno,
      fun hin hkind hlive hdst hstream hlink => execDclTxPacket_offLink hin ⟨hkind, hlive, hdst, hstream⟩ hlink⟩
    change execDclTxPacket engine s = _
    simp only [execDclTxPacket, hin]
  case transmit => exact fun s stream m rest k hq ⟨hlink, hup⟩ hdir hslots => execDclMessageTransmit_sends hq hlink hup hdir hslots
  case stays => exact fun s stream blocks ue corrected => ⟨execDclMessageTransmit_stays, execDclStreamMessageReceive_stays⟩
  case receive =>
    rintro s t u stream blocks ue corrected k d ⟨hlink, hup⟩ ⟨hdir, hslots⟩ rfl rfl rfl
    change execDclStreamMessageReceive stream blocks ue corrected s = _
    simp only [execDclStreamMessageReceive, hlink]
    exact if_neg (by simp [hup, hdir]; omega)
  case receiver => exact fun b c d pay x hgood hlen => ⟨rfl, rxBlock_header hgood, rxBlock_last hlen⟩
  case arrives =>
    rintro s t n k m rfl
    exact ⟨fun a h => if_pos (by simp [h]), fun h => if_neg (by simp [h]), fun h => if_neg (by simp [h])⟩

end Sys2Proof.Machine
end

section
/-!
PROOF. The loss of a CDR (R302) in the cycle in which the lane's link leaves UP by another cause (R319): of the causes of one cycle RCAUSE shows the lowest.
-/

namespace Sys2Proof.Machine

variable {s : State} {l : Nat}

theorem State.cdrLost_link (s : State) (l : Nat) : s.cdrLost (l + 16) = (s.setR Reg.LNE_STAT_CDR_LOCK (l + 16) 0).dclRetrain l 6 := by
  have hlane : ¬ l + 16 < 16 := by omega
  simp only [State.cdrLost, if_neg hlane, Nat.add_sub_cancel]

/-- A link that has left UP in this cycle by a higher cause takes the cause of its lost CDR. -/
theorem State.rcause_cdrLost (hdown : s.lstate l ≠ 6) (hleft : (s.link l).leftAt = s.ncyc + 1) (hcause : 6 < s.getR Reg.DCL_STAT_RCAUSE l) :
    (s.cdrLost (l + 16)).getR Reg.DCL_STAT_RCAUSE l = 6 := by
  have hdown' : (s.setR Reg.LNE_STAT_CDR_LOCK (l + 16) 0).lstate l ≠ 6 := by rwa [State.lstate, State.getR_setR_id _ _ _ _ _ _ (by decide)]
  have hcause' : 6 < (s.setR Reg.LNE_STAT_CDR_LOCK (l + 16) 0).getR Reg.DCL_STAT_RCAUSE l := by rwa [State.getR_setR_id _ _ _ _ _ _ (by decide)]
  rw [State.cdrLost_link, State.dclRetrain_not_up hdown', if_pos ⟨hleft, hcause'⟩, State.getR_modLink, State.getR_setR_self]
  rfl

/-- A retrain marks the cycle in which the link leaves UP. -/
theorem State.leftAt_dclRetrain (h : s.lstate l = 6) (cause : Nat) : ((s.dclRetrain l cause).link l).leftAt = (s.dclRetrain l cause).ncyc + 1 := by
  have hclock : (s.dclRetrain l cause).noc = s.noc := State.dclRetrain_part h cause .noc (by decide)
  rw [State.link_dclRetrain h, State.ncyc, hclock]
  rfl

/-- A link in UP. -/
def linkUp : State := State.reset.setR Reg.DCL_STAT_LSTATE 0 6

/-- Refutes O30: its clause on the loss of a CDR says that of a lane whose link is not in UP only CDR_LOCK changes. Where the link has left UP in the same cycle,
as by cause 7 when its lane group's power-down commits, RCAUSE falls from 7 to the cause 6 of the lost CDR (R319). -/
theorem not_laneCommandsComplete : ¬ Obligations.LaneCommandsComplete := by
  unfold Obligations.LaneCommandsComplete
  rintro ⟨-, -, -, -, -, hlost, -⟩
  have hup : linkUp.lstate 0 = 6 := by decide
  obtain ⟨hstate, hseven, -⟩ := State.dclRetrain_reads hup (cause := 7) (by decide)
  have hdown : (linkUp.dclRetrain 0 7).lstate 0 ≠ 6 := by rw [hstate]; decide
  have hsix := State.rcause_cdrLost hdown (State.leftAt_dclRetrain hup 7) (by rw [hseven]; decide)
  have hkept : (linkUp.dclRetrain 0 7).cdrLost (0 + 16) = (linkUp.dclRetrain 0 7).setR Reg.LNE_STAT_CDR_LOCK (0 + 16) 0 := hlost _ 16 (.inr hdown)
  rw [hkept, State.getR_setR_id _ _ _ _ _ _ (by decide), hseven] at hsix
  exact absurd hsix (by decide)

end Sys2Proof.Machine
end

section
/-!
PROOF. The sequencer's instructions of a pattern engine (R355, R358, R362 to R367, R381): an instruction's command by the word at PC, what HALT and a failure
leave, and what the end of a wait does.
-/

namespace Sys2Proof.Machine

variable {s : State} {n op w : Nat}

/-! ### The word at PC (R362, R364) -/

/-- A command that acts where the sequencer stands at a word of an opcode. -/
def State.pgeIns (s : State) (n op : Nat) (f : Nat → Result) : Result :=
  match s.pgeAt n op with
  | some w => f w
  | none => .next s

theorem State.pgeIns_some {f : Nat → Result} (h : s.pgeAt n op = some w) : s.pgeIns n op f = f w := by
  simp only [State.pgeIns, h]

theorem State.pgeIns_none {f : Nat → Result} (h : s.pgeAt n op = none) : s.pgeIns n op f = .next s := by
  simp only [State.pgeIns, h]

theorem State.pgeAt_of_word (h : s.pgeWord n = some w) (hop : fld w 58 6 = op) : s.pgeAt n op = some w := by
  simp only [State.pgeAt, h, hop, if_true]

/-! ### The end of a run (R355, R358) -/

/-- The sequencer's end and that of every output write the engine's parts alone. -/
theorem State.endRun_within (s : State) (n why : Nat) : Within [.pge] (fun _ => False) s (s.endRun n why) :=
  ((Within.refl s).modPgx n _ (by decide)).foldl (fun _ g h => h.closeOutput n g (by decide)) _

theorem State.closeForming_within (s : State) (n : Nat) : Within [.pge] (fun _ => False) s (s.closeForming n) :=
  (Within.refl s).foldl (fun _ _ h => h.modPgx n _ (by decide)) _

theorem State.ending_modOut (s : State) (n g : Nat) (f : PgeOut → PgeOut) : ((s.modOut n g f).pgx n).ending = (s.pgx n).ending := by
  rw [State.modOut, State.pgx_modPgx_self]

theorem State.ending_closeOutput (s : State) (n g : Nat) : ((s.closeOutput n g).pgx n).ending = (s.pgx n).ending := by
  unfold State.closeOutput
  simp only [apply_ite (fun t : State => (t.pgx n).ending), State.ending_modOut, ite_self]

theorem State.ending_endRun (s : State) (n why : Nat) : ((s.endRun n why).pgx n).ending = why := by
  have hclose : ∀ (l : List Nat) (v : State), ((l.foldl (fun t g => t.closeOutput n g) v).pgx n).ending = (v.pgx n).ending := by
    intro l
    induction l with
    | nil => exact fun _ => rfl
    | cons g l ih => exact fun v => (ih _).trans (v.ending_closeOutput n g)
  rw [State.endRun, hclose, State.pgx_modPgx_self]

/-- What a run that fails at an instruction leaves. -/
theorem State.pgeFault_reads (s : State) (n cause : Nat) :
    (s.pgeFault n cause).getR Reg.PGE_STAT_HCAUSE n = Reg.PGE_STAT_HCAUSE.norm cause ∧ (s.pgeFault n cause).getR Reg.PGE_STAT_STATE n = 4
      ∧ (s.pgeFault n cause).mem = s.mem := by
  have hend := ((s.pgeSt n 4).setR Reg.PGE_STAT_HCAUSE n cause).endRun_within n 3
  have hfail : Within [.pge] (fun f => f ∈ outputLostFields) s (s.pgeFail n cause) := (Within.refl s).pgeFail n cause (by decide) (fun _ h => h)
  refine ⟨?_, ?_, hfail.part_eq .mem (by decide)⟩
  · rw [State.pgeFault, State.getR_raise, State.pgeFail, hend.getR_eq _ _ (fun _ h => h.elim), State.getR_setR_self]
  · rw [State.pgeFault, State.getR_raise, State.pgeFail, hend.getR_eq _ _ (fun _ h => h.elim), State.getR_setR_id _ _ _ _ _ _ (by decide),
      State.getR_pgeSt_self]
    rfl

/-- HALT's code and cause, and the commit of a run that has formed no vector. -/
def State.pgeHaltShown (s : State) (n w : Nat) : State :=
  let t := ((s.setR Reg.PGE_STAT_HCODE n (fld w 0 16)).setR Reg.PGE_STAT_HCAUSE n 1).markCommit Reg.PGE_HALTC n
  if (s.pgx n).formed then t else ((t.pgeSt n 5).markCommit Reg.PGE_CMT n).raise (pgeEp n) 0x0601 0 (pgeDetail)

theorem State.pgeHalt_eq (s : State) (n w : Nat) : s.pgeHalt n w = (((s.pgeHaltShown n w).closeForming n).endRun n 1).pgeFinish n := rfl

/-- The fields that show a commit. -/
def pgeCommitFields : List Field := Reg.PGE_HALTC :: Reg.PGE_CMT :: pgeStFields

/-- Beside its code and its cause HALT shows a commit, and no more. -/
theorem State.pgeHaltShown_within (s : State) (n w : Nat) :
    Within [.events] (fun f => f ∈ pgeCommitFields) ((s.setR Reg.PGE_STAT_HCODE n (fld w 0 16)).setR Reg.PGE_STAT_HCAUSE n 1) (s.pgeHaltShown n w) := by
  have hmark := (Within.refl (ps := [.events]) (W := fun f => f ∈ pgeCommitFields)
    ((s.setR Reg.PGE_STAT_HCODE n (fld w 0 16)).setR Reg.PGE_STAT_HCAUSE n 1)).markCommit Reg.PGE_HALTC n (by simp [pgeCommitFields])
  exact .ite hmark (((hmark.pgeSt n 5 (fun _ h => List.mem_cons_of_mem _ (List.mem_cons_of_mem _ h))).markCommit _ _
    (by simp [pgeCommitFields])).raise _ _ _ _ (by decide))

/-- After its code and its cause HALT closes the outputs and shows the commit and the end. -/
theorem State.pgeHalt_within (s : State) (n w : Nat) :
    Within [.events, .pge] (fun f => f ∈ pgeCommitFields) ((s.setR Reg.PGE_STAT_HCODE n (fld w 0 16)).setR Reg.PGE_STAT_HCAUSE n 1) (s.pgeHalt n w) := by
  have hclosed := ((s.pgeHaltShown n w).closeForming_within n).trans (State.endRun_within _ n 1)
  exact (((s.pgeHaltShown_within n w).mono (by decide) (fun _ h => h)).trans (hclosed.mono (by decide) (fun _ h => h.elim))).trans
    ((State.pgeFinish_within _ n).mono (by decide) (fun _ h => List.mem_cons_of_mem _ (List.mem_cons_of_mem _ h)))

theorem State.pgeHalt_reads (s : State) (n w : Nat) :
    (s.pgeHalt n w).getR Reg.PGE_STAT_HCODE n = w % 2 ^ 16 ∧ (s.pgeHalt n w).getR Reg.PGE_STAT_HCAUSE n = 1 ∧ ((s.pgeHalt n w).pgx n).ending = 1
      ∧ (s.pgeHalt n w).getR Reg.PGE_PC_PC n = s.getR Reg.PGE_PC_PC n ∧ (s.pgeHalt n w).mem = s.mem ∧ (s.pgeHalt n w).time = s.time := by
  have hw := s.pgeHalt_within n w
  refine ⟨?_, ?_, ?_, ?_, hw.part_eq .mem (by decide), hw.part_eq .time (by decide)⟩
  · rw [hw.getR_eq _ _ (by decide), State.getR_setR_id _ _ _ _ _ _ (by decide), State.getR_setR_self, fld_low]
    simp [Field.norm, Reg.PGE_STAT_HCODE]
  · rw [hw.getR_eq _ _ (by decide), State.getR_setR_self]
    rfl
  · rw [State.pgeHalt_eq, State.pgx_congr ((State.pgeFinish_within _ n).part_eq .pge (by decide)), State.ending_endRun]
  · rw [hw.getR_eq _ _ (by decide), State.getR_setR_id _ _ _ _ _ _ (by decide), State.getR_setR_id _ _ _ _ _ _ (by decide)]

/-! ### Waits (R367) -/

theorem exec_pgeWaitEnd {n : Fin 16} {w : PgeWait} (hw : (s.pgx n).wait = some w) (hact : s.pgeActive n = true) :
    exec (.pgeWaitEnd n) s = s.when (s.waitHolds n w) (s.waitOver n false) := by
  change execPgeWaitEnd n s = _
  simp only [execPgeWaitEnd, hw, hact, Bool.true_and]

theorem exec_pgeWaitTimeout {n : Fin 16} {w : PgeWait} (hw : (s.pgx n).wait = some w) (hact : s.pgeActive n = true) :
    exec (.pgeWaitTimeout n) s = s.when (decide (w.timeout ≠ 0) && decide (w.timeout * 1024 ≤ s.elapsed w.since)) (s.waitOver n true) := by
  change execPgeWaitTimeout n s = _
  simp only [execPgeWaitTimeout, hw, hact, Bool.true_and]

/-- Settles O35: each command by the word at PC, a wait by its condition and its timeout. -/
theorem patternInstructionsComplete : Obligations.PatternInstructionsComplete := by
  unfold Obligations.PatternInstructionsComplete
  refine ⟨?nopJmpTset, ?elsewhere, fun s n op w => State.pgeAt_of_word, ?call, ?ret, ?stackFault, ?br, ?ldcDjnz, ?waitt, ?waits, ?waitEnds, ?ldg, ?sflagEvt,
    ?halt, ?illegal⟩
  case nopJmpTset =>
    intro s n w
    have hts : w % 16 = fld w 0 4 := (fld_low w 4).symm
    simp only [← fld_low w, hts]
    exact ⟨State.pgeIns_some, State.pgeIns_some, State.pgeIns_some⟩
  case elsewhere =>
    refine fun s n => ⟨State.pgeIns_none, State.pgeIns_none, State.pgeIns_none, State.pgeIns_none, State.pgeIns_none, State.pgeIns_none,
      State.pgeIns_none, State.pgeIns_none, State.pgeIns_none, State.pgeIns_none, State.pgeIns_none, State.pgeIns_none, State.pgeIns_none,
      State.pgeIns_none, State.pgeIns_none, fun h => ?_, fun h => ?_⟩
    · change execPgeWaitEnd n s = _ ∧ execPgeWaitTimeout n s = _
      simp only [execPgeWaitEnd, execPgeWaitTimeout, h, and_self]
    · change execPgeIllegalOpcode n s = _
      unfold execPgeIllegalOpcode
      split
      · next w hw => exact State.when_false _ _ (decide_eq_false (Nat.not_le.mpr (h w hw)))
      · rfl
  case call =>
    intro s n w hat hlen
    refine (State.pgeIns_some hat).trans ((if_neg (Nat.not_le.mpr hlen)).trans ?_)
    simp only [State.pgx_modPgx_self, List.length_cons, fld_low]
  case ret =>
    intro s n w a rest hat hstack
    refine (State.pgeIns_some hat).trans ?_
    rw [hstack]
  case stackFault =>
    refine fun s n w => ⟨fun hat hfull => (State.pgeIns_some hat).trans (if_pos hfull), fun hat hempty => (State.pgeIns_some hat).trans ?_⟩
    rw [hempty]
  case br =>
    intro s n w hat
    have hflag : w / 2 ^ 32 % 32 = fld w 32 5 := rfl
    refine (State.pgeIns_some hat).trans ?_
    simp only [beq_iff_eq, fld_low, hflag]
  case ldcDjnz =>
    intro s n w
    have hcounter : w / 2 ^ 32 % 4 = fld w 32 2 := rfl
    simp only [← fld_low w, hcounter]
    refine ⟨State.pgeIns_some, fun hat => (State.pgeIns_some hat).trans ((apply_ite Host.Outcome.next _ _ _).symm.trans ?_)⟩
    exact congrArg _ (ite_congr rfl (fun _ => rfl) (fun _ => ite_congr rfl (fun hone => by rw [hone]) (fun _ => rfl)))
  case waitt =>
    intro s n w hat
    simp only [← fld_low w]
    exact State.pgeIns_some hat
  case waits =>
    intro s n w
    simp only [← fld_low w]
    exact ⟨State.pgeIns_some, State.pgeIns_some⟩
  case waitEnds =>
    intro s n w hw hact
    rw [exec_pgeWaitEnd hw hact, exec_pgeWaitTimeout hw hact]
    refine ⟨State.when_true _ _, State.when_false _ _, fun h0 hle => State.when_true _ _ (by simp [h0, hle]), fun h => State.when_false _ _ ?_,
      fun _ => rfl⟩
    rcases h with hnone | hearly
    · simp [hnone]
    · simp [hearly]
  case ldg =>
    intro s n w hat
    simp only [← fld_low w]
    exact ⟨State.pgeIns_some hat, rfl, rfl, rfl⟩
  case sflagEvt =>
    intro s n w
    simp only [← fld_low w]
    exact ⟨State.pgeIns_some, State.pgeIns_some⟩
  case halt => exact fun s n w hat => ⟨_, State.pgeIns_some hat, s.pgeHalt_reads n w⟩
  case illegal =>
    intro s n w hw hop
    refine ⟨?_, s.pgeFault_reads n 2⟩
    change execPgeIllegalOpcode n s = _
    simp only [execPgeIllegalOpcode, hw]
    exact State.when_true _ _ (decide_eq_true hop)

end Sys2Proof.Machine
end

section
/-!
PROOF. The solution of a table (R415). Taking a line, whichever it is, leaves the cells off that line to the
spares that remain; both solvers only ever take lines, so what they answer completes the cover they began with. That the exact one takes no line too
many is shown against any cover within the spares: it holds a line through the first cell, and the solver has tried that line.
-/
namespace Sys2Proof.Machine

/-! ### Putting a line into a cover -/

@[simp] theorem mem_insertAsc {a x : Nat} {l : List Nat} : x ∈ insertAsc a l ↔ x = a ∨ x ∈ l := by
  induction l with
  | nil => simp [insertAsc]
  | cons b l ih =>
    simp only [insertAsc]
    split_ifs with hlt heq
    · exact List.mem_cons
    · simp [heq]
    · simp only [List.mem_cons, ih, or_left_comm]

theorem length_insertAsc_le (a : Nat) (l : List Nat) : (insertAsc a l).length ≤ l.length + 1 := by
  induction l with
  | nil => simp [insertAsc]
  | cons b l ih =>
    simp only [insertAsc]
    split_ifs
    · exact Nat.le_refl _
    · exact Nat.le_succ _
    · exact Nat.succ_le_succ ih

/-- A cover with one row more. -/
def Cover.addRow (c : Cover) (r : Nat) : Cover := { c with rows := insertAsc r c.rows }

/-- A cover with one column more. -/
def Cover.addCol (c : Cover) (q : Nat) : Cover := { c with cols := insertAsc q c.cols }

/-- The number of lines of a cover. -/
def Cover.lines (c : Cover) : Nat := c.rows.length + c.cols.length

theorem Cover.lines_addRow_le (c : Cover) (r : Nat) : (c.addRow r).lines ≤ c.lines + 1 := by
  have := length_insertAsc_le r c.rows
  simp only [lines, addRow]
  omega

theorem Cover.lines_addCol_le (c : Cover) (q : Nat) : (c.addCol q).lines ≤ c.lines + 1 := by
  have := length_insertAsc_le q c.cols
  simp only [lines, addCol]
  omega

/-- The cells that a row leaves to cover. -/
def offRow (r : Nat) (cells : List (Nat × Nat)) : List (Nat × Nat) := cells.filter (fun e => decide (e.1 ≠ r))

/-- The cells that a column leaves to cover. -/
def offCol (q : Nat) (cells : List (Nat × Nat)) : List (Nat × Nat) := cells.filter (fun e => decide (e.2 ≠ q))

@[simp] theorem mem_offRow {r : Nat} {cells : List (Nat × Nat)} {e : Nat × Nat} : e ∈ offRow r cells ↔ e ∈ cells ∧ e.1 ≠ r := by
  simp [offRow]

@[simp] theorem mem_offCol {q : Nat} {cells : List (Nat × Nat)} {e : Nat × Nat} : e ∈ offCol q cells ↔ e ∈ cells ∧ e.2 ≠ q := by
  simp [offCol]

/-! ### Covers that complete a partial one -/

/-- Every cell lies in one of the rows or one of the columns. -/
def CoversAll (cells : List (Nat × Nat)) (rows cols : List Nat) : Prop := ∀ e ∈ cells, e.1 ∈ rows ∨ e.2 ∈ cols

theorem CoversAll.eraseRow {r q : Nat} {l : List (Nat × Nat)} {rows cols : List Nat} (h : CoversAll ((r, q) :: l) rows cols) :
    CoversAll (offRow r l) (rows.erase r) cols := by
  intro e he
  obtain ⟨hmem, hne⟩ := mem_offRow.mp he
  exact (h e (List.mem_cons_of_mem _ hmem)).imp_left (List.mem_erase_of_ne hne).mpr

theorem CoversAll.eraseCol {r q : Nat} {l : List (Nat × Nat)} {rows cols : List Nat} (h : CoversAll ((r, q) :: l) rows cols) :
    CoversAll (offCol q l) rows (cols.erase q) := by
  intro e he
  obtain ⟨hmem, hne⟩ := mem_offCol.mp he
  exact (h e (List.mem_cons_of_mem _ hmem)).imp_right (List.mem_erase_of_ne hne).mpr

/-- d keeps the lines of c, covers the cells, and has at most sr rows and sc columns more than c. -/
structure Cover.Completes (c d : Cover) (cells : List (Nat × Nat)) (sr sc : Nat) : Prop where
  rows_subset : c.rows ⊆ d.rows
  cols_subset : c.cols ⊆ d.cols
  coversAll : CoversAll cells d.rows d.cols
  rows_le : d.rows.length ≤ c.rows.length + sr
  cols_le : d.cols.length ≤ c.cols.length + sc

theorem Cover.completes_nil (c : Cover) (sr sc : Nat) : c.Completes c [] sr sc :=
  ⟨List.Subset.refl _, List.Subset.refl _, by simp [CoversAll], Nat.le_add_right _ _, Nat.le_add_right _ _⟩

theorem Cover.Completes.of_addRow {c d : Cover} {cells : List (Nat × Nat)} {r sr sc : Nat} (hspare : sr ≠ 0)
    (h : (c.addRow r).Completes d (offRow r cells) (sr - 1) sc) : c.Completes d cells sr sc where
  rows_subset _ hx := h.rows_subset (mem_insertAsc.mpr (.inr hx))
  cols_subset := h.cols_subset
  coversAll e he := by
    by_cases her : e.1 = r
    · exact .inl (h.rows_subset (mem_insertAsc.mpr (.inl her)))
    · exact h.coversAll e (mem_offRow.mpr ⟨he, her⟩)
  rows_le := by
    have hinsert : (c.addRow r).rows.length ≤ c.rows.length + 1 := length_insertAsc_le r c.rows
    have := h.rows_le
    omega
  cols_le := h.cols_le

theorem Cover.Completes.of_addCol {c d : Cover} {cells : List (Nat × Nat)} {q sr sc : Nat} (hspare : sc ≠ 0)
    (h : (c.addCol q).Completes d (offCol q cells) sr (sc - 1)) : c.Completes d cells sr sc where
  rows_subset := h.rows_subset
  cols_subset _ hx := h.cols_subset (mem_insertAsc.mpr (.inr hx))
  coversAll e he := by
    by_cases heq : e.2 = q
    · exact .inr (h.cols_subset (mem_insertAsc.mpr (.inl heq)))
    · exact h.coversAll e (mem_offCol.mpr ⟨he, heq⟩)
  rows_le := h.rows_le
  cols_le := by
    have hinsert : (c.addCol q).cols.length ≤ c.cols.length + 1 := length_insertAsc_le q c.cols
    have := h.cols_le
    omega

/-! ### The better of two covers -/

theorem betterCover_eq_some {p : Bool} {a b : Option Cover} {d : Cover} (h : betterCover p a b = some d) : a = some d ∨ b = some d := by
  cases a with
  | none => exact .inr h
  | some x =>
    cases b with
    | none => exact .inl h
    | some y =>
      simp only [betterCover] at h
      split_ifs at h
      · exact .inr h
      · exact .inl h

/-- The rank of a cover begins with its lines, so a cover that ranks lower has no more of them. -/
theorem lines_le_of_rankLt {p : Bool} {x y : Cover} (h : lexLt (coverRank p x) (coverRank p y) = true) : x.lines ≤ y.lines := by
  simp only [coverRank, List.cons_append, lexLt, Bool.or_eq_true, Bool.and_eq_true, decide_eq_true_eq] at h
  exact h.elim Nat.le_of_lt (fun h => Nat.le_of_eq h.1)

theorem lines_le_of_not_rankLt {p : Bool} {x y : Cover} (h : ¬ lexLt (coverRank p x) (coverRank p y) = true) : y.lines ≤ x.lines := by
  simp only [coverRank, List.cons_append, lexLt, Bool.or_eq_true, decide_eq_true_eq, not_or] at h
  exact Nat.le_of_not_lt h.1

theorem betterCover_lines_le {p : Bool} {a b : Option Cover} {x : Cover} (h : a = some x ∨ b = some x) :
    ∃ d, betterCover p a b = some d ∧ d.lines ≤ x.lines := by
  match a, b, h with
  | none, _, .inr hb => exact ⟨x, hb, Nat.le_refl _⟩
  | some _, none, .inl ha => exact ⟨x, ha, Nat.le_refl _⟩
  | some y, some z, h =>
    simp only [betterCover]
    split_ifs with hrank
    · refine ⟨z, rfl, ?_⟩
      rcases h with ha | hb
      · exact Option.some.inj ha ▸ lines_le_of_rankLt hrank
      · exact Nat.le_of_eq (congrArg Cover.lines (Option.some.inj hb))
    · refine ⟨y, rfl, ?_⟩
      rcases h with ha | hb
      · exact Nat.le_of_eq (congrArg Cover.lines (Option.some.inj ha))
      · exact Option.some.inj hb ▸ lines_le_of_not_rankLt hrank

/-! ### The exact solution -/

theorem exactCover_nil (p : Bool) (k sr sc : Nat) (c : Cover) : exactCover p k [] sr sc c = some c := by
  cases k <;> rfl

theorem exactCover_cons (p : Bool) (k r q : Nat) (l : List (Nat × Nat)) (sr sc : Nat) (c : Cover) :
    exactCover p (k + 1) ((r, q) :: l) sr sc c = betterCover p (if sr = 0 then none else exactCover p k (offRow r l) (sr - 1) sc (c.addRow r))
      (if sc = 0 then none else exactCover p k (offCol q l) sr (sc - 1) (c.addCol q)) := rfl

theorem offRow_cons_self (r q : Nat) (l : List (Nat × Nat)) : offRow r ((r, q) :: l) = offRow r l := by
  simp [offRow]

theorem offCol_cons_self (r q : Nat) (l : List (Nat × Nat)) : offCol q ((r, q) :: l) = offCol q l := by
  simp [offCol]

theorem exactCover_completes {p : Bool} {k : Nat} {cells : List (Nat × Nat)} {sr sc : Nat} {c d : Cover}
    (h : exactCover p k cells sr sc c = some d) : c.Completes d cells sr sc := by
  induction k generalizing cells sr sc c with
  | zero =>
    cases cells with
    | nil => exact Option.some.inj h ▸ c.completes_nil sr sc
    | cons e l => exact nomatch h
  | succ k ih =>
    match cells with
    | [] => exact Option.some.inj h ▸ c.completes_nil sr sc
    | (r, q) :: l =>
      rw [exactCover_cons] at h
      rcases betterCover_eq_some h with hrow | hcol
      · obtain ⟨hspare, hrow⟩ := Option.ite_none_left_eq_some.mp hrow
        exact .of_addRow hspare (offRow_cons_self r q l ▸ ih hrow)
      · obtain ⟨hspare, hcol⟩ := Option.ite_none_left_eq_some.mp hcol
        exact .of_addCol hspare (offCol_cons_self r q l ▸ ih hcol)

/-- Beside any cover of the cells within the spares, the solver adds no more lines than that cover has. -/
theorem exactCover_lines_le (p : Bool) {k : Nat} {cells : List (Nat × Nat)} {sr sc : Nat} {rows cols : List Nat} (c : Cover) (hk : sr + sc ≤ k)
    (hrows : rows.length ≤ sr) (hcols : cols.length ≤ sc) (hcover : CoversAll cells rows cols) :
    ∃ d, exactCover p k cells sr sc c = some d ∧ d.lines ≤ c.lines + (rows.length + cols.length) := by
  induction k generalizing cells sr sc rows cols c with
  | zero =>
    cases cells with
    | nil => exact ⟨c, exactCover_nil .., Nat.le_add_right _ _⟩
    | cons e l =>
      have hline := hcover e List.mem_cons_self
      rw [List.length_eq_zero_iff.mp (by omega : rows.length = 0), List.length_eq_zero_iff.mp (by omega : cols.length = 0)] at hline
      simp at hline
  | succ k ih =>
    match cells with
    | [] => exact ⟨c, exactCover_nil .., Nat.le_add_right _ _⟩
    | (r, q) :: l =>
      rw [exactCover_cons]
      rcases hcover (r, q) List.mem_cons_self with hr | hq
      · have hpos : 0 < rows.length := List.length_pos_of_mem hr
        have herase : (rows.erase r).length = rows.length - 1 := List.length_erase_of_mem hr
        obtain ⟨x, hx, hxlines⟩ := ih (c.addRow r) (sr := sr - 1) (sc := sc) (by omega) (by omega) hcols hcover.eraseRow
        obtain ⟨d, hd, hdlines⟩ := betterCover_lines_le (p := p) (.inl ((if_neg (by omega : ¬ sr = 0)).trans hx))
        have := c.lines_addRow_le r
        exact ⟨d, hd, by omega⟩
      · have hpos : 0 < cols.length := List.length_pos_of_mem hq
        have herase : (cols.erase q).length = cols.length - 1 := List.length_erase_of_mem hq
        obtain ⟨x, hx, hxlines⟩ := ih (c.addCol q) (sr := sr) (sc := sc - 1) (by omega) hrows (by omega) hcover.eraseCol
        obtain ⟨d, hd, hdlines⟩ := betterCover_lines_le (p := p) (.inr ((if_neg (by omega : ¬ sc = 0)).trans hx))
        have := c.lines_addCol_le q
        exact ⟨d, hd, by omega⟩

/-- Settles O39: an answer completes the empty cover, and no cover within the spares has fewer lines. -/
theorem exactRepairIsACover : Obligations.ExactRepairIsACover := by
  unfold Obligations.ExactRepairIsACover
  constructor
  · intro p cells sr sc c h
    have hcompletes := exactCover_completes h
    refine ⟨hcompletes.coversAll, by simpa using hcompletes.rows_le, by simpa using hcompletes.cols_le, ?_⟩
    intro rows cols hrows hcols hcover
    obtain ⟨d, hd, hlines⟩ := exactCover_lines_le p ⟨[], []⟩ (Nat.le_refl _) hrows hcols hcover
    obtain rfl : c = d := Option.some.inj (h.symm.trans hd)
    simpa [Cover.lines] using hlines
  · rintro p cells sr sc rows cols ⟨hrows, hcols⟩ hcover
    obtain ⟨d, hd, -⟩ := exactCover_lines_le p ⟨[], []⟩ (Nat.le_refl _) hrows hcols hcover
    exact hd ▸ Option.some_ne_none d

/-! ### The heuristic solution -/

/-- A step of the heuristic solver takes some row or some column of which a spare is left. -/
theorem heurCover_cons {p : Bool} {k : Nat} {x : Nat × Nat} {l : List (Nat × Nat)} {sr sc : Nat} {c d : Cover}
    (h : heurCover p (k + 1) (x :: l) sr sc c = some d) :
    (∃ r, sr ≠ 0 ∧ heurCover p k (offRow r (x :: l)) (sr - 1) sc (c.addRow r) = some d)
    ∨ (∃ q, sc ≠ 0 ∧ heurCover p k (offCol q (x :: l)) sr (sc - 1) (c.addCol q) = some d) := by
  unfold heurCover at h
  extract_lets row col takeRow at h
  split_ifs at h
  · cases hbest : row with
    | none => simp [hbest] at h
    | some a =>
      simp only [hbest] at h
      exact .inl ⟨a.2, (Option.ite_none_left_eq_some.mp hbest).1, h⟩
  · cases hbest : col with
    | none => simp [hbest] at h
    | some b =>
      simp only [hbest] at h
      exact .inr ⟨b.2, (Option.ite_none_left_eq_some.mp hbest).1, h⟩

theorem heurCover_completes {p : Bool} {k : Nat} {cells : List (Nat × Nat)} {sr sc : Nat} {c d : Cover}
    (h : heurCover p k cells sr sc c = some d) : c.Completes d cells sr sc := by
  induction k generalizing cells sr sc c with
  | zero =>
    cases cells with
    | nil => exact Option.some.inj h ▸ c.completes_nil sr sc
    | cons e l => exact nomatch h
  | succ k ih =>
    cases cells with
    | nil => exact Option.some.inj h ▸ c.completes_nil sr sc
    | cons e l =>
      rcases heurCover_cons h with ⟨r, hspare, hrow⟩ | ⟨q, hspare, hcol⟩
      · exact .of_addRow hspare (ih hrow)
      · exact .of_addCol hspare (ih hcol)

/-- Settles O40: an answer completes the empty cover. -/
theorem heuristicRepairIsACover : Obligations.HeuristicRepairIsACover := by
  intro p cells sr sc c h
  have hcompletes := heurCover_completes h
  exact ⟨hcompletes.coversAll, by simpa using hcompletes.rows_le, by simpa using hcompletes.cols_le⟩

end Sys2Proof.Machine
end

section
/-!
PROOF. The arithmetic and signal instructions of a measurement processor (R430 to R449): what an instruction with operands does by their poison, what the
writes of registers, accumulators and flags leave, and each command by the branch that its operands take.
-/

namespace Sys2Proof.Machine

variable {ps : List Part} {ks : List Nat} {s t : State} {m : Nat}

/-! ### Instructions with operands (R438, R447) -/

section

variable {op w : Nat} {p : Bool} {srcs ptrs mods : Nat → List Nat} {f : Nat → State → State}

theorem State.mspSimple_none (h : s.mspWord m = none) : s.mspSimple m op srcs ptrs f mods = .next s := State.mspIns_none h

theorem State.mspSimple_other (h : s.mspWord m = some ((w, p), t)) (hop : mspOp w ≠ op) : s.mspSimple m op srcs ptrs f mods = .next s :=
  State.mspIns_other h (decide_eq_false hop)

theorem State.mspSimple_poisoned (h : s.mspWord m = some ((w, true), t)) (hop : mspOp w = op) :
    s.mspSimple m op srcs ptrs f mods = .next (t.mspExc m 7) :=
  State.mspIns_poisoned h (decide_eq_true hop)

theorem State.mspSimple_badOperand (h : s.mspWord m = some ((w, false), t)) (hop : mspOp w = op) (hd : (srcs w).any (t.dPois m) = true) :
    s.mspSimple m op srcs ptrs f mods = .next (t.mspExc m 5) :=
  (State.mspIns_runs h (decide_eq_true hop)).trans (congrArg _ (if_pos hd))

theorem State.mspSimple_badPointer (h : s.mspWord m = some ((w, false), t)) (hop : mspOp w = op) (hd : (srcs w).any (t.dPois m) = false)
    (hp : (ptrs w).any (t.pPois m) = true) : s.mspSimple m op srcs ptrs f mods = .next (t.mspExc m 6) :=
  (State.mspIns_runs h (decide_eq_true hop)).trans (congrArg _ ((if_neg (Bool.eq_false_iff.mp hd)).trans (if_pos hp)))

theorem State.mspSimple_runs (h : s.mspWord m = some ((w, false), t)) (hop : mspOp w = op) (hd : (srcs w).any (t.dPois m) = false)
    (hp : (ptrs w).any (t.pPois m) = false) :
    s.mspSimple m op srcs ptrs f mods = .next ((f w t).mspDone m (1 + t.mspStall m (ptrs w) (mods w))) :=
  (State.mspIns_runs h (decide_eq_true hop)).trans (congrArg _ ((if_neg (Bool.eq_false_iff.mp hd)).trans (if_neg (Bool.eq_false_iff.mp hp))))

/-- An instruction that makes no access takes one cycle. -/
theorem State.mspSimple_noAccess (h : s.mspWord m = some ((w, false), t)) (hop : mspOp w = op) (hd : (srcs w).any (t.dPois m) = false) :
    s.mspSimple m op srcs (fun _ => []) f = .next ((f w t).mspDone m 1) := by
  rw [State.mspSimple_runs h hop hd rfl, State.mspStall_nil]

end

/-! ### Bits -/

theorem clrBit_eq_without (v n : Nat) : clrBit v n = without v (2 ^ n) := by
  cases h : v.testBit n <;> simp [clrBit, without, nbit_eq_testBit, Nat.and_two_pow, h]

/-- A bit put into a number shows there, and the other bits stay. -/
theorem nbit_put (b : Bool) (v n k : Nat) : nbit (if b then setBit v n else clrBit v n) k = if k = n then b else nbit v k := by
  by_cases hk : k = n
  · subst hk
    cases b <;> simp [setBit, clrBit_eq_without, nbit_eq_testBit, testBit_without]
  · cases b <;> simp [setBit, clrBit_eq_without, nbit_eq_testBit, testBit_without, hk, Ne.symm hk]

theorem nbit_norm {f : Field} {k : Nat} (ha : f.align = 0) (v : Nat) (hk : k < f.width) : nbit (f.norm v) k = nbit v k := by
  simp [Field.norm, ha, nbit_eq_testBit, Nat.testBit_mod_two_pow, hk]

/-! ### Registers and flags (R430, R437) -/

theorem State.srBit_setSr (s : State) (m n : Nat) (b : Bool) {k : Nat} (hk : k < 7) :
    (s.setSr m n b).srBit m k = if k = n then b else s.srBit m k := by
  rw [State.setSr, State.srBit, State.getR_setR_self, nbit_norm rfl _ hk, nbit_put]
  rfl

theorem State.srBit_setD (s : State) (m n v : Nat) (p : Bool) (k : Nat) : (s.setD m n v p).srBit m k = s.srBit m k := by
  simp only [State.setD, State.srBit]
  rw [State.getR_setR_id _ _ _ _ _ _ (by decide), State.getR_setR_id _ _ _ _ _ _ (by decide)]

theorem State.mspD_setD (s : State) (m n v : Nat) (p : Bool) : (s.setD m n v p).mspD m n = v % 2 ^ 32 := by
  rw [State.setD, State.mspD, State.getR_setR_id _ _ _ _ _ _ (by decide), State.getR_setR_self]
  simp [Field.norm, Reg.MSP_D_V]

theorem State.dPois_setD (s : State) (m v : Nat) (p : Bool) {n : Nat} (hn : n < 16) : (s.setD m n v p).dPois m n = p := by
  rw [State.setD, State.dPois, State.getR_setR_self, nbit_norm rfl _ hn, nbit_put, if_pos rfl]

/-- The flags are SR's alone. -/
theorem Leaves.setFlags (v : Nat) (ov carry : Bool) (hk : Reg.MSP_SR_V.key m ∈ ks) (h : Leaves ps ks s t) :
    Leaves ps ks s (t.setFlags m v ov carry) :=
  (((h.setR _ _ _ hk).setR _ _ _ hk).setR _ _ _ hk).setR _ _ _ hk

/-- A register outside SR reads as before the flags are set. -/
theorem State.getR_setFlags (s : State) (m v : Nat) (ov carry : Bool) (f : Field) (i : Nat)
    (hf : f.id % Field.idBound ≠ Reg.MSP_SR_V.id % Field.idBound) : (s.setFlags m v ov carry).getR f i = s.getR f i := by
  simp only [State.setFlags, State.setSr, State.getR_setR_id _ _ _ _ _ _ hf]

theorem State.srBit_setFlags (s : State) (m v : Nat) (ov carry : Bool) :
    (s.setFlags m v ov carry).srBit m 0 = decide (v % 2 ^ 32 = 0) ∧ (s.setFlags m v ov carry).srBit m 1 = nbit v 31
      ∧ (s.setFlags m v ov carry).srBit m 2 = ov ∧ (s.setFlags m v ov carry).srBit m 3 = carry
      ∧ ∀ k, 4 ≤ k → k < 7 → (s.setFlags m v ov carry).srBit m k = s.srBit m k := by
  have hput {k : Nat} (hk : k < 7) : (s.setFlags m v ov carry).srBit m k = if k = 3 then carry else if k = 2 then ov else if k = 1 then nbit v 31
      else if k = 0 then decide (v % 2 ^ 32 = 0) else s.srBit m k := by
    simp only [State.setFlags, State.srBit_setSr _ _ _ _ hk]
  refine ⟨by simp [hput], by simp [hput], by simp [hput], by simp [hput], fun k h4 h7 => ?_⟩
  rw [hput h7, if_neg (by omega), if_neg (by omega), if_neg (by omega), if_neg (by omega)]

/-- A result in a register with its flags. -/
theorem State.setD_setFlags_leaves (s : State) (m d v x : Nat) (ov carry : Bool) :
    Leaves [] [Reg.MSP_D_V.key (m * 16 + d), Reg.MSP_POIS_D.key m, Reg.MSP_SR_V.key m] s ((s.setD m d v).setFlags m x ov carry) :=
  ((Leaves.refl.setR _ _ _ (by simp)).setR _ _ _ (by simp)).setFlags _ _ _ (by simp)

theorem State.mspD_setD_setFlags (s : State) (m d v x : Nat) (ov carry : Bool) : ((s.setD m d v).setFlags m x ov carry).mspD m d = v % 2 ^ 32 :=
  (State.getR_setFlags _ _ _ _ _ _ _ (by decide)).trans (s.mspD_setD m d v false)

theorem State.dPois_setD_setFlags (s : State) (m v x : Nat) (ov carry : Bool) {d : Nat} (hd : d < 16) :
    ((s.setD m d v).setFlags m x ov carry).dPois m d = false :=
  (congrArg (nbit · d) (State.getR_setFlags _ _ _ _ _ _ _ (by decide))).trans (s.dPois_setD m v false hd)

/-! ### The next instruction, and an exception (R447, R449) -/

theorem State.mspDone_next {fresh : Option Nat} (n : Nat) (hrep : (s.mspx m).rep = none) :
    s.mspDone m n fresh = ((s.mspCycles m n).modMspx m (fun k => { k with fresh := fresh })).mspGo m (s.getR Reg.MSP_PC_PC m + 1) := by
  simp only [State.mspDone, hrep]

theorem State.mspDone_next_reads (n : Nat) (hrep : (s.mspx m).rep = none) :
    (s.mspDone m n).getR Reg.MSP_PC_PC m = (s.getR Reg.MSP_PC_PC m + 1) % 2 ^ 14
      ∧ (s.mspDone m n).getR Reg.MSP_CYCLES_COUNT m = (s.getR Reg.MSP_CYCLES_COUNT m + n) % 2 ^ 32
      ∧ Leaves [.msp] [Reg.MSP_PC_PC.key m, Reg.MSP_CYCLES_COUNT.key m] s (s.mspDone m n) := by
  rw [State.mspDone_next n hrep]
  refine ⟨?_, ?_, ?_⟩
  · rw [State.mspGo, State.getR_modMspx, State.getR_setR_self]
    simp [Field.norm, Reg.MSP_PC_PC]
  · rw [State.mspGo, State.getR_modMspx, State.getR_setR_id _ _ _ _ _ _ (by decide), State.getR_modMspx, State.mspCycles, State.wrapAdd,
      State.getR_setR_self]
    simp [Field.norm, Reg.MSP_CYCLES_COUNT]
  · exact (((Leaves.refl.wrapAdd _ _ _ (by simp)).modMspx _ _ (by simp)).setR _ _ _ (by simp)).modMspx _ _ (by simp)

theorem State.mspExc_reads (s : State) (m : Nat) {c : Nat} (hc : c < 8) :
    (s.mspExc m c).getR Reg.MSP_STAT_STATE m = 4 ∧ (s.mspExc m c).getR Reg.MSP_STAT_ECAUSE m = c
      ∧ (s.mspExc m c).getR Reg.MSP_PC_PC m = s.getR Reg.MSP_PC_PC m ∧ (s.mspExc m c).mem = s.mem := by
  refine ⟨?_, ?_, ?_, ?_⟩
  · rw [State.mspExc, State.getR_raise, State.getR_setR_id _ _ _ _ _ _ (by decide), State.getR_mspLeave_self]
    rfl
  · rw [State.mspExc, State.getR_raise, State.getR_setR_self, Field.norm_of_lt rfl (hc.trans (by decide))]
  · rw [State.mspExc, State.getR_raise, State.getR_setR_id _ _ _ _ _ _ (by decide), (s.mspLeave_within m 4).getR_eq _ _ (by decide)]
  · exact (s.mspLeave_within m 4).part_eq .mem (by decide)

/-! ### Arithmetic (R436, R437) -/

theorem State.mspSum_reads (s : State) (m a b : Nat) {d : Nat} (hd : d < 16) :
    (s.mspSum m d a b).mspD m d = (a + b) % 2 ^ 32 ∧ (s.mspSum m d a b).dPois m d = false
      ∧ (s.mspSum m d a b).srBit m 0 = decide ((a + b) % 2 ^ 32 = 0) ∧ (s.mspSum m d a b).srBit m 1 = nbit ((a + b) % 2 ^ 32) 31
      ∧ (s.mspSum m d a b).srBit m 2 = decide (signed 32 a + signed 32 b ≠ signed 32 ((a + b) % 2 ^ 32))
      ∧ (s.mspSum m d a b).srBit m 3 = decide (2 ^ 32 ≤ a + b) ∧ (s.mspSum m d a b).srBit m 4 = s.srBit m 4
      ∧ (s.mspSum m d a b).srBit m 5 = s.srBit m 5 ∧ (s.mspSum m d a b).srBit m 6 = s.srBit m 6
      ∧ Leaves [] [Reg.MSP_D_V.key (m * 16 + d), Reg.MSP_POIS_D.key m, Reg.MSP_SR_V.key m] s (s.mspSum m d a b) := by
  unfold State.mspSum
  extract_lets v
  obtain ⟨hz, hn, hv, hc, hothers⟩ := (s.setD m d v).srBit_setFlags m v (decide (signed 32 a + signed 32 b ≠ signed 32 v)) (decide (2 ^ 32 ≤ a + b))
  simp only [State.srBit_setD] at hothers
  have hmod : v % 2 ^ 32 = v := Nat.mod_mod _ _
  rw [hmod] at hz
  exact ⟨(s.mspD_setD_setFlags ..).trans hmod, s.dPois_setD_setFlags _ _ _ _ _ hd, hz, hn, hv, hc, hothers 4 (by decide) (by decide),
    hothers 5 (by decide) (by decide), hothers 6 (by decide) (by decide), s.setD_setFlags_leaves ..⟩

theorem State.mspDiffFlags_reads (s : State) (m : Nat) {a b : Nat} (ha : a < 2 ^ 32) (hb : b < 2 ^ 32) :
    (s.mspDiffFlags m a b).srBit m 0 = decide (a = b) ∧ (s.mspDiffFlags m a b).srBit m 3 = decide (b ≤ a)
      ∧ (s.mspDiffFlags m a b).srBit m 2 = decide (signed 32 a - signed 32 b ≠ signed 32 ((a + 2 ^ 32 - b) % 2 ^ 32))
      ∧ Leaves [] [Reg.MSP_SR_V.key m] s (s.mspDiffFlags m a b) := by
  unfold State.mspDiffFlags
  extract_lets v
  obtain ⟨hz, -, hv, hc, -⟩ := s.srBit_setFlags m v (decide (signed 32 a - signed 32 b ≠ signed 32 v)) (decide (b ≤ a))
  have hzero : v % 2 ^ 32 = 0 ↔ a = b := by omega
  exact ⟨hz.trans (decide_eq_decide.mpr hzero), hc, hv, Leaves.refl.setFlags _ _ _ (by simp)⟩

theorem State.mspLogic_reads (s : State) (m d : Nat) {a : Nat} (ha : a < 2 ^ 32) :
    (s.mspLogic m d a).mspD m d = a ∧ (s.mspLogic m d a).srBit m 2 = false ∧ (s.mspLogic m d a).srBit m 3 = false
      ∧ (s.mspLogic m d a).srBit m 0 = decide (a = 0) ∧ (s.mspLogic m d a).srBit m 1 = nbit a 31 := by
  obtain ⟨hz, hn, hv, hc, -⟩ := (s.setD m d a).srBit_setFlags m a false false
  have hmod : a % 2 ^ 32 = a := Nat.mod_eq_of_lt ha
  rw [hmod] at hz
  exact ⟨(s.mspD_setD_setFlags ..).trans hmod, hv, hc, hz, hn⟩

section

variable {m : Fin 128} {w : Nat}

/-- The operands of a SHIFT are good: Da, and Db where it holds the amount. -/
theorem shiftSrcs_good {q : Nat → Bool} (ha : q (w / 2 ^ 18 % 16) = false) (hb : nbit w 11 = true → q (w / 2 ^ 14 % 16) = false) :
    (if nbit w 11 then aluSrcs w else [fld w 18 4]).any q = false := by
  have ha' : q (fld w 18 4) = false := ha
  split
  · next h =>
    have hb' : q (fld w 14 4) = false := hb h
    simp [aluSrcs, ha', hb']
  · simp [ha']

theorem exec_mspShift_bad (h : s.mspWord m = some ((w, false), t)) (hop : mspOp w = 0x16)
    (hd : (if nbit w 11 then aluSrcs w else [fld w 18 4]).any (t.dPois m) = true) : exec (.mspShift m) s = .next (t.mspExc m 5) :=
  State.mspSimple_badOperand h hop hd

theorem exec_mspShift_runs (h : s.mspWord m = some ((w, false), t)) (hop : mspOp w = 0x16) {n : Nat}
    (hn : n = (if nbit w 11 then t.mspD m (w / 2 ^ 14 % 16) % 32 else w % 32)) (ha : t.dPois m (w / 2 ^ 18 % 16) = false)
    (hb : nbit w 11 = true → t.dPois m (w / 2 ^ 14 % 16) = false) :
    exec (.mspShift m) s = .next (((t.setD m (w / 2 ^ 22 % 16) (shiftBy (w / 2 ^ 12 % 4) (t.mspD m (w / 2 ^ 18 % 16)) n).1).setFlags m
      (shiftBy (w / 2 ^ 12 % 4) (t.mspD m (w / 2 ^ 18 % 16)) n).1 false (shiftBy (w / 2 ^ 12 % 4) (t.mspD m (w / 2 ^ 18 % 16)) n).2).mspDone m 1) := by
  subst hn
  refine (State.mspSimple_noAccess h hop (shiftSrcs_good ha hb)).trans (congrArg _ ?_)
  simp only [fld_low]
  rfl

/-- ABS keeps the largest number for the most negative one, and shows LIMIT (R436). -/
theorem exec_mspAbs_runs (h : s.mspWord m = some ((w, false), t)) (hop : mspOp w = 0x1A) (ha : t.dPois m (w / 2 ^ 18 % 16) = false) :
    exec (.mspAbs m) s = .next (if t.mspD m (w / 2 ^ 18 % 16) = 2 ^ 31
      then ((t.mspLogic m (w / 2 ^ 22 % 16) (2 ^ 31 - 1)).setSr m 4 true).mspDone m 1
      else (t.mspLogic m (w / 2 ^ 22 % 16) (signed 32 (t.mspD m (w / 2 ^ 18 % 16))).natAbs).mspDone m 1) := by
  have hfld : fld w 18 4 = w / 2 ^ 18 % 16 := rfl
  refine (State.mspSimple_noAccess h hop (by simpa [hfld] using ha)).trans (congrArg _ ?_)
  dsimp only
  rw [hfld]
  by_cases hmin : t.mspD m (w / 2 ^ 18 % 16) = 2 ^ 31
  · simp only [hmin, if_true]
    rfl
  · simp only [hmin, if_false]
    rfl

end

/-- Settles O41: each instruction is the branch that its word's poison and its operands take, and a result's flags are the bits put into SR. -/
theorem mspArithmeticComplete : Obligations.MspArithmeticComplete := by
  unfold Obligations.MspArithmeticComplete
  refine ⟨?noWord, ?legal, ?illegal, ?poisoned, ?badOperand, ?twoOperands, ?oneOperand, ?shift, ?sum, ?difference, ?done⟩
  case noWord =>
    intro s t m w p
    refine ⟨fun h => ?_, ?_, ?_, ?_, ?_, ?_, ?_, ?_, ?_, ?_, ?_, ?_⟩
    · have hins := fun op srcs f => State.mspSimple_none (op := op) (srcs := srcs) (ptrs := fun _ => []) (mods := fun _ => []) (f := f) h
      exact ⟨hins _ _ _, hins _ _ _, hins _ _ _, hins _ _ _, hins _ _ _, hins _ _ _, hins _ _ _, hins _ _ _, hins _ _ _, hins _ _ _, hins _ _ _⟩
    all_goals exact fun h hop => State.mspSimple_other h hop
  case legal =>
    intro s t m w p
    refine ⟨State.mspIns_none, fun h hop => State.mspIns_other h (Bool.and_eq_false_iff.mpr ?_)⟩
    exact hop.imp (fun hlo => decide_eq_false (by omega)) fun hhi => decide_eq_false (by omega)
  case illegal =>
    intro s t m w p h ⟨hlo, hhi⟩
    have hok := Bool.and_eq_true_iff.mpr ⟨decide_eq_true hlo, decide_eq_true hhi⟩
    cases p
    · exact State.mspIns_runs h hok
    · exact State.mspIns_poisoned h hok
  case poisoned =>
    intro s t m w h
    refine ⟨?_, ?_, ?_, ?_, ?_, ?_, ?_, ?_, ?_, ?_, ?_⟩
    all_goals exact fun hop => State.mspSimple_poisoned h hop
  case badOperand =>
    intro s t m w h
    refine ⟨fun hd => ⟨?_, ?_, ?_, ?_, ?_, ?_, ?_, ?_, fun hop hn => exec_mspShift_bad h hop (by simpa [hn] using hd)⟩,
      fun hd => ⟨?_, ?_, fun hop hn => ?_⟩⟩
    iterate 8 exact fun hop => State.mspSimple_badOperand h hop hd
    iterate 2 exact fun hop => State.mspSimple_badOperand h hop (by simpa [fld] using hd)
    exact exec_mspShift_bad h hop (by simpa [hn, fld] using hd)
  case twoOperands =>
    rintro s t m w a b h hd ⟨rfl, rfl⟩
    refine ⟨?_, ?_, ?_, ?_, ?_, ?_, ?_, ?_⟩
    all_goals exact fun hop => State.mspSimple_noAccess h hop hd
  case oneOperand =>
    rintro s t m w a n h ⟨ha, hb⟩ rfl hn
    refine ⟨fun hop => ?_, fun hop => exec_mspShift_runs h hop hn ha hb, fun hop => exec_mspAbs_runs h hop ha⟩
    refine (State.mspSimple_noAccess h hop (by simpa [fld] using ha)).trans (congrArg _ ?_)
    simp only [fld_low]
    rfl
  case shift =>
    intro v n
    exact ⟨fun k => if_pos rfl, fun hn => ⟨if_neg hn, if_neg hn, if_neg hn, if_neg hn⟩⟩
  case sum => exact fun s m d a b hd => s.mspSum_reads m a b hd
  case difference =>
    rintro s m d a b ⟨-, ha, hb⟩
    obtain ⟨hz, hc, hv, hframe⟩ := s.mspDiffFlags_reads m ha hb
    exact ⟨hz, hc, hv, hframe, s.mspLogic_reads m d ha⟩
  case done =>
    intro s m n c hrep hc
    obtain ⟨hpc, hcycles, hframe⟩ := State.mspDone_next_reads n hrep
    exact ⟨hpc, hcycles, hframe, s.mspExc_reads m hc⟩

/-! ### Accumulators (R430, R435) -/

/-- An integer's 80 bits are the integer itself just where it lies within them. -/
theorem signed_unsigned_80 (v : Int) : signed 80 (unsigned 80 v) = v ↔ -(2 ^ 79) ≤ v ∧ v < 2 ^ 79 := by
  simp only [signed, unsigned]
  omega

theorem unsigned_lt (n : Nat) (v : Int) : unsigned n v < 2 ^ n := by
  have hpos : (0 : Int) < (2 ^ n : Nat) := by exact_mod_cast Nat.two_pow_pos n
  have := Int.emod_lt_of_pos v hpos
  have := Int.emod_nonneg v hpos.ne'
  unfold unsigned
  omega

/-- An accumulator is written as its bits, and AOVF shows that the result lies outside them (R435). -/
theorem State.setA_eq (s : State) (m a : Nat) (v : Int) : s.setA m a v = if -(2 ^ 79) ≤ v ∧ v < 2 ^ 79
    then s.setR Reg.MSP_A_V (m * 4 + a) (unsigned 80 v) else (s.setR Reg.MSP_A_V (m * 4 + a) (unsigned 80 v)).setSr m 5 true :=
  if_congr (signed_unsigned_80 v) rfl rfl

theorem State.mspA_setA (s : State) (m a : Nat) (v : Int) : (s.setA m a v).mspA m a = signed 80 (unsigned 80 v) := by
  have hput : (s.setR Reg.MSP_A_V (m * 4 + a) (unsigned 80 v)).getR Reg.MSP_A_V (m * 4 + a) = unsigned 80 v := by
    rw [State.getR_setR_self, Field.norm_of_lt rfl (unsigned_lt 80 v)]
  rw [State.setA_eq, State.mspA]
  split
  · rw [hput]
  · rw [State.setSr, State.getR_setR_id _ _ _ _ _ _ (by decide), hput]

theorem State.srBit_setA_inside {v : Int} (a : Nat) (hv : -(2 ^ 79) ≤ v ∧ v < 2 ^ 79) : (s.setA m a v).srBit m 5 = s.srBit m 5 := by
  rw [State.setA_eq, if_pos hv, State.srBit, State.getR_setR_id _ _ _ _ _ _ (by decide)]
  rfl

theorem State.srBit_setA_outside {v : Int} (a : Nat) (hv : ¬ (-(2 ^ 79) ≤ v ∧ v < 2 ^ 79)) : (s.setA m a v).srBit m 5 = true := by
  rw [State.setA_eq, if_neg hv, State.srBit_setSr _ _ _ _ (by decide), if_pos rfl]

section

variable {m : Fin 128} {w : Nat}

/-- Of the kinds of ACC, 4 and 5 have a D register for an operand. -/
theorem accSrcs_eq (w : Nat) : (if fld w 15 3 = 4 ∨ fld w 15 3 = 5 then [fld w 18 4] else [])
    = if w / 2 ^ 15 % 8 = 4 ∨ w / 2 ^ 15 % 8 = 5 then [w / 2 ^ 18 % 16] else [] := rfl

theorem exec_mspAcc_bad (h : s.mspWord m = some ((w, false), t)) (hop : mspOp w = 0x1E) (hk : w / 2 ^ 15 % 8 = 4 ∨ w / 2 ^ 15 % 8 = 5)
    (hd : t.dPois m (w / 2 ^ 18 % 16) = true) : exec (.mspAcc m) s = .next (t.mspExc m 5) :=
  State.mspSimple_badOperand h hop (by rw [accSrcs_eq, if_pos hk]; simpa using hd)

/-- What ACC of a kind writes: from the accumulator written, a second one, a D register and a shift amount (R435). -/
def accResult (k : Nat) (x y d : Int) (n : Nat) : Int :=
  if k = 0 then x + y else if k = 1 then x - y else if k = 2 then y else if k = 3 then 0 else if k = 4 then d
  else if k = 5 then x + d * 2 ^ 32 else if k = 6 then x / (2 ^ n : Nat) else x * (2 ^ n : Nat)

theorem exec_mspAcc_runs (h : s.mspWord m = some ((w, false), t)) (hop : mspOp w = 0x1E)
    (hd : w / 2 ^ 15 % 8 = 4 ∨ w / 2 ^ 15 % 8 = 5 → t.dPois m (w / 2 ^ 18 % 16) = false) :
    exec (.mspAcc m) s = .next ((t.setA m (w / 2 ^ 24 % 4) (accResult (w / 2 ^ 15 % 8) (t.mspA m (w / 2 ^ 24 % 4)) (t.mspA m (w / 2 ^ 22 % 4))
      (signed 32 (t.mspD m (w / 2 ^ 18 % 16))) (w % 64))).mspDone m 1) := by
  refine (State.mspSimple_noAccess h hop ?_).trans (congrArg _ ?_)
  · rw [accSrcs_eq]
    split
    · next hk => simpa using hd hk
    · rfl
  · simp only [fld_low]
    rfl

/-- STA keeps the accumulator, rounded and shifted right, within 32 or 64 bits, and shows in LIMIT where it had to (R436). -/
theorem exec_mspSta_runs (h : s.mspWord m = some ((w, false), t)) (hop : mspOp w = 0x1F) {r : Int} {c : Int × Bool}
    (hr : r = (if nbit w 19 = true ∧ w % 64 ≠ 0 then (2 ^ (w % 64 - 1) : Nat) else 0))
    (hc : c = clampTo (if nbit w 18 then 64 else 32) ((t.mspA m (w / 2 ^ 20 % 4) + r) / (2 ^ (w % 64) : Nat))) {u : State}
    (hu : u = if nbit w 18 then (t.setD m (w / 2 ^ 22 % 16 / 2 * 2) (unsigned 32 c.1)).setD m (w / 2 ^ 22 % 16 / 2 * 2 + 1) (unsigned 64 c.1 / 2 ^ 32)
      else t.setD m (w / 2 ^ 22 % 16) (unsigned 32 c.1)) :
    exec (.mspSta m) s = .next ((if c.2 then u.setSr m 4 true else u).mspDone m 1) := by
  subst hu hc hr
  refine (State.mspSimple_noAccess h hop rfl).trans (congrArg _ ?_)
  simp only [fld_low, Bool.and_eq_true, decide_eq_true_eq, Nat.cast_ite, Nat.cast_zero]
  rfl

/-! ### Accesses (R440, R442, R443) -/

/-- The pointer of MINIX and MAXIX, with XEN. -/
theorem indexedPtrs_any {q : Nat → Bool} (w : Nat) :
    (if nbit w 13 then [fld w 6 3] else []).any q = (nbit w 13 && q (w / 2 ^ 6 % 8)) := by
  cases nbit w 13 <;> simp [fld]

theorem parPtrs_eq (w : Nat) : parPtrs w = (if nbit w 17 then [w / 2 ^ 9 % 8] else []) ++ (if nbit w 8 then [w % 8] else []) := by
  simp only [parPtrs, fld_low]
  rfl

theorem parPtrs_any {q : Nat → Bool} (w : Nat) :
    (parPtrs w).any q = (nbit w 17 && q (w / 2 ^ 9 % 8) || nbit w 8 && q (w % 8)) := by
  rw [parPtrs_eq]
  cases nbit w 17 <;> cases nbit w 8 <;> simp

/-- The operands of the parallel format: none where it multiplies nothing. -/
theorem parSrcs_any {q : Nat → Bool} (w : Nat) :
    (if fld w 28 2 = 0 then [] else [fld w 22 4, fld w 18 4]).any q
      = (decide (w / 2 ^ 28 % 4 ≠ 0) && (q (w / 2 ^ 22 % 16) || q (w / 2 ^ 18 % 16))) := by
  change (if w / 2 ^ 28 % 4 = 0 then [] else [w / 2 ^ 22 % 16, w / 2 ^ 18 % 16]).any q = _
  by_cases h : w / 2 ^ 28 % 4 = 0
  · rw [if_pos h, decide_eq_false (not_not.mpr h)]
    rfl
  · rw [if_neg h, decide_eq_true h]
    simp

theorem dPair_any {q : Nat → Bool} (w : Nat) : [fld w 22 4, fld w 18 4].any q = (q (w / 2 ^ 22 % 16) || q (w / 2 ^ 18 % 16)) := by
  simp [fld]

theorem foldl_bumpP (u : State) (m : Nat) (b : Bool) (p : Nat) :
    (if b then [] else [p]).foldl (fun u p => u.bumpP m p) u = if b then u else u.bumpP m p := by
  cases b <;> rfl

theorem exec_mspLd_runs (h : s.mspWord m = some ((w, false), t)) (hop : mspOp w = 0x0E) (hp : t.pPois m (w / 2 ^ 19 % 8) = false)
    {a d : Nat} {md : List Nat} {r q : (Nat × Bool) × State} (ha : a = t.mspP m (w / 2 ^ 19 % 8) + w % 2 ^ 16) (hd : d = w / 2 ^ 22 % 16)
    (hmd : md = if nbit w 16 then [] else [w / 2 ^ 19 % 8]) (hr : r = t.mspLoad m a (nbit w 18)) (hq : q = t.mspLoad64 m a (nbit w 18)) :
    exec (.mspLd m) s = .next ((md.foldl (fun u p => u.bumpP m p) (if nbit w 17
      then (q.2.setD m (d / 2 * 2) (q.1.1 % 2 ^ 32) q.1.2).setD m (d / 2 * 2 + 1) (q.1.1 / 2 ^ 32) q.1.2
      else r.2.setD m d r.1.1 r.1.2)).mspDone m (1 + t.mspStall m [w / 2 ^ 19 % 8] md)) := by
  subst hr hq hmd hd ha
  refine (State.mspSimple_runs h hop rfl (by simpa [fld] using hp)).trans (congrArg _ ?_)
  rw [foldl_bumpP]
  simp only [fld_low]
  rfl

theorem exec_mspSt_runs (h : s.mspWord m = some ((w, false), t)) (hop : mspOp w = 0x0F) (hp : t.pPois m (w / 2 ^ 19 % 8) = false)
    {a d : Nat} {md : List Nat} (ha : a = t.mspP m (w / 2 ^ 19 % 8) + w % 2 ^ 16) (hd : d = w / 2 ^ 22 % 16)
    (hmd : md = if nbit w 16 then [] else [w / 2 ^ 19 % 8]) :
    exec (.mspSt m) s = .next ((md.foldl (fun u p => u.bumpP m p) (if nbit w 17
      then t.mspStore64 m a (nbit w 18) (t.mspD m (d / 2 * 2) + t.mspD m (d / 2 * 2 + 1) * 2 ^ 32) (t.dPois m (d / 2 * 2) || t.dPois m (d / 2 * 2 + 1))
      else t.mspStore m a (nbit w 18) (t.mspD m d) (t.dPois m d))).mspDone m (1 + t.mspStall m [w / 2 ^ 19 % 8] md)) := by
  subst hmd hd ha
  refine (State.mspSimple_runs h hop rfl (by simpa [fld] using hp)).trans (congrArg _ ?_)
  rw [foldl_bumpP]
  simp only [fld_low]
  rfl

/-- The parallel format multiplies, makes its X access, then its Y access, and moves each pointer once (R439, R443). -/
theorem exec_mspParallel_runs {u v : State} (h : s.mspWord m = some ((w, false), t)) (hop : mspOp w = 64)
    (hd : w / 2 ^ 28 % 4 ≠ 0 → t.dPois m (w / 2 ^ 22 % 16) = false ∧ t.dPois m (w / 2 ^ 18 % 16) = false)
    (hx : nbit w 17 = true → t.pPois m (w / 2 ^ 9 % 8) = false) (hy : nbit w 8 = true → t.pPois m (w % 8) = false)
    (hu : u = if nbit w 17 then (t.mspMul m (w / 2 ^ 28 % 4) (w / 2 ^ 26 % 4) (w / 2 ^ 22 % 16) (w / 2 ^ 18 % 16)).parAccess m (w / 2 ^ 12 % 16)
        (t.mspP m (w / 2 ^ 9 % 8)) (t.mspD m (w / 2 ^ 12 % 16)) (t.dPois m (w / 2 ^ 12 % 16)) false (nbit w 16)
      else t.mspMul m (w / 2 ^ 28 % 4) (w / 2 ^ 26 % 4) (w / 2 ^ 22 % 16) (w / 2 ^ 18 % 16))
    (hv : v = if nbit w 8 then u.parAccess m (w / 2 ^ 3 % 16) (t.mspP m (w % 8)) (t.mspD m (w / 2 ^ 3 % 16)) (t.dPois m (w / 2 ^ 3 % 16)) true (nbit w 7)
      else u) :
    exec (.mspParallel m) s = .next (((parPtrs w).eraseDups.foldl (fun x p => x.bumpP m p) v).mspDone m
      (1 + t.mspStall m (parPtrs w) (parPtrs w))) := by
  subst hv hu
  refine (State.mspSimple_runs h hop ?_ ?_).trans (congrArg _ ?_)
  · rw [parSrcs_any, Bool.and_eq_false_imp]
    exact fun hmul => Bool.or_eq_false_iff.mpr (hd (of_decide_eq_true hmul))
  · rw [parPtrs_any, Bool.or_eq_false_iff, Bool.and_eq_false_imp, Bool.and_eq_false_imp]
    exact ⟨hx, hy⟩
  · simp only [fld_low]
    rfl

/-! ### Moves (R431, R440, R442) -/

theorem exec_mspLdi_runs (h : s.mspWord m = some ((w, false), t)) (hop : mspOp w = 0x0A) : exec (.mspLdi m) s = .next
    ((if nbit w 16 then t.setD m (w / 2 ^ 22 % 16) (t.mspD m (w / 2 ^ 22 % 16) % 2 ^ 16 + w % 2 ^ 16 * 2 ^ 16) (t.dPois m (w / 2 ^ 22 % 16))
      else t.setD m (w / 2 ^ 22 % 16) (unsigned 32 (signed 16 (w % 2 ^ 16)))).mspDone m 1) := by
  refine (State.mspSimple_noAccess h hop rfl).trans (congrArg _ ?_)
  simp only [fld_low]
  rfl

theorem exec_mspSflg_runs (h : s.mspWord m = some ((w, false), t)) (hop : mspOp w = 0x09) :
    exec (.mspSflg m) s = .next ((t.setR Reg.MSP_STAT_FLAG m (w % 2)).mspDone m 1) := by
  refine (State.mspSimple_noAccess h hop rfl).trans (congrArg _ ?_)
  simp only [fld_low]
  rfl

theorem exec_mspMovs_bad {lag : Fin 2561} (h : s.mspWord m = some ((w, false), t)) (hop : mspOp w = 0x0D) (hto : nbit w 15 = true)
    (hd : t.dPois m (w / 2 ^ 22 % 16) = true) : exec (.mspMovs m lag) s = .next (t.mspExc m 5) :=
  (State.mspIns_runs h (decide_eq_true hop)).trans (congrArg _ ((if_pos hto).trans (if_pos hd)))

theorem exec_mspMovs_writes {lag : Fin 2561} (h : s.mspWord m = some ((w, false), t)) (hop : mspOp w = 0x0D) (hto : nbit w 15 = true)
    (hd : t.dPois m (w / 2 ^ 22 % 16) = false) :
    exec (.mspMovs m lag) s = .next ((t.putSpecial m (w / 2 ^ 16 % 64) (t.mspD m (w / 2 ^ 22 % 16))).mspDone m 1
      (if 48 ≤ w / 2 ^ 16 % 64 ∧ w / 2 ^ 16 % 64 < 56 then some (8 + (w / 2 ^ 16 % 64 - 48)) else none)) :=
  (State.mspIns_runs h (decide_eq_true hop)).trans (congrArg _ ((if_pos hto).trans (if_neg (Bool.eq_false_iff.mp hd))))

/-- A read of TIME_LO keeps the high half of the time (R431). -/
theorem exec_mspMovs_reads {lag : Fin 2561} (h : s.mspWord m = some ((w, false), t)) (hop : mspOp w = 0x0D) (hfrom : nbit w 15 = false) :
    exec (.mspMovs m lag) s = .next (if w / 2 ^ 16 % 64 = 4
      then ((t.modMspx m (fun k => { k with timeHi := t.mspTime lag / 2 ^ 32 })).setD m (w / 2 ^ 22 % 16) (t.mspTime lag % 2 ^ 32)).mspDone m 1
      else (t.setD m (w / 2 ^ 22 % 16) (t.mspSpecial m (w / 2 ^ 16 % 64) lag)).mspDone m 1) := by
  have hfld : fld w 16 6 = w / 2 ^ 16 % 64 := rfl
  refine (State.mspIns_runs h (decide_eq_true hop)).trans (congrArg _ ((if_neg (Bool.eq_false_iff.mp hfrom)).trans ?_))
  dsimp only
  rw [hfld]
  by_cases hlo : w / 2 ^ 16 % 64 = 4
  · simp only [hlo, if_true]
    rfl
  · simp only [hlo, if_false]
    rfl

end

/-! ### Special registers (R431) -/

section

variable (s : State) (m lag : Nat) {x : Nat} (v : Nat)

theorem State.mspSpecial_writePtr (hlo : 16 ≤ x) (hhi : x < 32) : s.mspSpecial m x lag = s.getR Reg.MSP_IBX_PTR_WP (m / 8 * 128 + (x - 16)) := by
  have : x ≠ 0 ∧ x ≠ 1 ∧ x ≠ 2 ∧ x ≠ 3 ∧ x ≠ 4 ∧ x ≠ 5 ∧ x ≠ 6 ∧ x ≠ 7 := by omega
  simp only [State.mspSpecial, this, hlo, hhi, and_self, if_true, if_false]

theorem State.mspSpecial_readPtr (hlo : 32 ≤ x) (hhi : x < 48) : s.mspSpecial m x lag = s.getR Reg.MSP_IBX_PTR_RP (m / 8 * 128 + (x - 32)) := by
  have : x ≠ 0 ∧ x ≠ 1 ∧ x ≠ 2 ∧ x ≠ 3 ∧ x ≠ 4 ∧ x ≠ 5 ∧ x ≠ 6 ∧ x ≠ 7 ∧ ¬ (16 ≤ x ∧ x < 32) := by omega
  simp only [State.mspSpecial, this, hlo, hhi, and_self, if_true, if_false]

theorem State.mspSpecial_modifier (hlo : 48 ≤ x) (hhi : x < 56) : s.mspSpecial m x lag = s.getR Reg.MSP_M_V (m * 8 + (x - 48)) := by
  have : x ≠ 0 ∧ x ≠ 1 ∧ x ≠ 2 ∧ x ≠ 3 ∧ x ≠ 4 ∧ x ≠ 5 ∧ x ≠ 6 ∧ x ≠ 7 ∧ ¬ (16 ≤ x ∧ x < 32) ∧ ¬ (32 ≤ x ∧ x < 48) := by omega
  simp only [State.mspSpecial, this, hlo, hhi, and_self, if_true, if_false]

theorem State.putSpecial_readPtr (hlo : 32 ≤ x) (hhi : x < 48) :
    s.putSpecial m x v = s.setR Reg.MSP_IBX_PTR_RP (m / 8 * 128 + (x - 32)) (v % s.ibxWords (m / 8 * 128 + (x - 32))) := by
  have : x ≠ 0 ∧ x ≠ 1 ∧ x ≠ 3 := by omega
  simp only [State.putSpecial, this, hlo, hhi, and_self, if_true, if_false]

theorem State.putSpecial_modifier (hlo : 48 ≤ x) (hhi : x < 56) : s.putSpecial m x v = s.setR Reg.MSP_M_V (m * 8 + (x - 48)) v := by
  have : x ≠ 0 ∧ x ≠ 1 ∧ x ≠ 3 ∧ ¬ (32 ≤ x ∧ x < 48) := by omega
  simp only [State.putSpecial, this, hlo, hhi, and_self, if_true, if_false]

/-- The read-only special registers, and the numbers that name none. -/
theorem State.putSpecial_readOnly (h : x = 2 ∨ (4 ≤ x ∧ x < 32) ∨ 56 ≤ x) : s.putSpecial m x v = s := by
  have : x ≠ 0 ∧ x ≠ 1 ∧ x ≠ 3 ∧ ¬ (32 ≤ x ∧ x < 48) ∧ ¬ (48 ≤ x ∧ x < 56) := by omega
  simp only [State.putSpecial, this, if_false]

end

/-- Settles O42: each instruction is the branch that its word's poison, its operands and its pointers take. -/
theorem mspSignalCommandsComplete : Obligations.MspSignalCommandsComplete := by
  unfold Obligations.MspSignalCommandsComplete
  refine ⟨?noWord, ?poisoned, ?badOperand, ?macd, ?acc, ?sta, fun _ _ _ => rfl, ?product, ?indexed, ?indexedWrites, ?ldiMovSflg, ?movp, ?movs, ?special,
    ?ldSt, ?parallel, ?access⟩
  case noWord =>
    intro s t m w p lag
    refine ⟨fun h => ?_, ?_, ?_, ?_, ?_, ?_, ?_, ?_, ?_, ?_, ?_, ?_, ?_, ?_⟩
    · have hins := fun ok f => State.mspIns_none (ok := ok) (f := f) h
      exact ⟨hins _ _, hins _ _, hins _ _, hins _ _, hins _ _, hins _ _, hins _ _, hins _ _, hins _ _, hins _ _, hins _ _, hins _ _, hins _ _⟩
    all_goals exact fun h hop => State.mspIns_other h (decide_eq_false hop)
  case poisoned =>
    intro s t m w lag h
    refine ⟨?_, ?_, ?_, ?_, ?_, ?_, ?_, ?_, ?_, ?_, ?_, ?_, ?_⟩
    all_goals exact fun hop => State.mspIns_poisoned h (decide_eq_true hop)
  case badOperand =>
    intro s t m w lag h
    refine ⟨fun hop hd => State.mspSimple_badOperand h hop hd, exec_mspAcc_bad h, fun hd => ⟨?_, ?_, fun hop hmul => ?_⟩, exec_mspMovs_bad h,
      fun hp => ⟨?_, ?_⟩, fun hv hm => ?_⟩
    · exact fun hop => State.mspSimple_badOperand h hop ((dPair_any w).trans (Bool.or_eq_true_iff.mpr hd))
    · exact fun hop => State.mspSimple_badOperand h hop ((dPair_any w).trans (Bool.or_eq_true_iff.mpr hd))
    · exact State.mspSimple_badOperand h hop ((parSrcs_any w).trans (Bool.and_eq_true_iff.mpr ⟨decide_eq_true hmul, Bool.or_eq_true_iff.mpr hd⟩))
    · exact fun hop => State.mspSimple_badPointer h hop rfl (by simpa [fld] using hp)
    · exact fun hop => State.mspSimple_badPointer h hop rfl (by simpa [fld] using hp)
    · have hgood := (dPair_any (q := t.dPois m) w).trans (Bool.or_eq_false_iff.mpr ⟨hv, hm⟩)
      have hpar : (if fld w 28 2 = 0 then [] else [fld w 22 4, fld w 18 4]).any (t.dPois m) = false := by
        rw [parSrcs_any, hv, hm]
        exact Bool.and_false _
      refine ⟨fun hx hp => ?_, fun hop hp => State.mspSimple_badPointer h hop hpar ((parPtrs_any w).trans (by simpa using hp))⟩
      have hptr := (indexedPtrs_any (q := t.pPois m) w).trans (Bool.and_eq_true_iff.mpr ⟨hx, hp⟩)
      exact ⟨fun hop => State.mspSimple_badPointer h hop hgood hptr, fun hop => State.mspSimple_badPointer h hop hgood hptr⟩
  case macd => exact fun s t m w h hop hd => State.mspSimple_noAccess h hop hd
  case acc =>
    rintro s t m w x y d h hop hd rfl rfl rfl
    have hrun := exec_mspAcc_runs h hop hd
    refine ⟨?_, ?_, ?_, ?_, ?_, ?_, ?_, ?_⟩
    all_goals exact fun hk => by rw [hrun, hk]; rfl
  case sta =>
    intro s t m w r c h hop hr hc
    exact ⟨fun hw => exec_mspSta_runs h hop hr hc (by rw [hw]; rfl), fun hw => exec_mspSta_runs h hop hr hc (by rw [hw]; rfl)⟩
  case product =>
    intro s m a da db v ha
    exact ⟨rfl, rfl, rfl, rfl, s.mspA_setA m a v,
      fun hlo hhi => ⟨(s.mspA_setA m a v).trans ((signed_unsigned_80 v).mpr ⟨hlo, hhi⟩), State.srBit_setA_inside a ⟨hlo, hhi⟩⟩,
      fun hv => State.srBit_setA_outside a (by omega)⟩
  case indexed =>
    rintro s t m w h ⟨hv, hm, hp⟩
    have hgood := (dPair_any (q := t.dPois m) w).trans (Bool.or_eq_false_iff.mpr ⟨hv, hm⟩)
    have hptr := (indexedPtrs_any (q := t.pPois m) w).trans (Bool.and_eq_false_imp.mpr hp)
    exact ⟨fun hop => State.mspSimple_runs h hop hgood hptr, fun hop => State.mspSimple_runs h hop hgood hptr⟩
  case indexedWrites =>
    rintro t u m w better rfl
    exact ⟨fun hx => if_neg (Bool.eq_false_iff.mp hx), fun hx => if_pos hx⟩
  case ldiMovSflg => exact fun s t m w h => ⟨exec_mspLdi_runs h, fun hop => State.mspSimple_noAccess h hop rfl, exec_mspSflg_runs h⟩
  case movp => exact fun s t m w h hop => State.mspIns_runs h (decide_eq_true hop)
  case movs => exact fun s t m lag w h hop => ⟨exec_mspMovs_reads h hop, exec_mspMovs_writes h hop⟩
  case special =>
    exact fun s m lag x v => ⟨rfl, rfl, rfl, rfl, rfl, rfl, s.mspSpecial_writePtr m lag,
      fun hlo hhi => ⟨s.mspSpecial_readPtr m lag hlo hhi, s.putSpecial_readPtr m v hlo hhi⟩,
      fun hlo hhi => ⟨s.mspSpecial_modifier m lag hlo hhi, s.putSpecial_modifier m v hlo hhi⟩, rfl, rfl, rfl, s.putSpecial_readOnly m v⟩
  case ldSt =>
    exact fun s t m w a d md r q h hp ha hd hmd hr hq =>
      ⟨fun hop => exec_mspLd_runs h hop hp ha hd hmd hr hq, fun hop => exec_mspSt_runs h hop hp ha hd hmd⟩
  case parallel => exact fun s t u v m w h hop hd ⟨hx, hy⟩ hu hv => exec_mspParallel_runs h hop hd hx hy hu hv
  case access => exact fun t m d a x p y => ⟨if_pos rfl, if_neg Bool.false_ne_true, parPtrs_eq a⟩

end Sys2Proof.Machine
end

section
/-!
PROOF. The background memory commands (R475, R482 to R490): a word's rewrite by its mark, and each command by what waits at its unit.
-/

namespace Sys2Proof.Machine

variable {s : State} {u w : Nat}

/-! ### A word's rewrite (R482, R483, R489) -/

theorem State.repairWord_leaves (quiet : Bool) (h : (s.word (unitAddr u w / 8)).valid = false ∨ (s.word (unitAddr u w / 8)).mark = .clean
    ∨ (s.word (unitAddr u w / 8)).mark = .poison) : s.repairWord u w quiet = s := by
  unfold State.repairWord
  rcases h with h | h | h <;> simp [h]

theorem State.repairWord_single {b : Nat} (quiet : Bool) (hv : (s.word (unitAddr u w / 8)).valid = true)
    (hm : (s.word (unitAddr u w / 8)).mark = .single b) : s.repairWord u w quiet = (if quiet then s else s.memCe u w b 0).putWord (unitAddr u w / 8)
      { s.word (unitAddr u w / 8) with data := corrected (s.word (unitAddr u w / 8)), mark := .clean } := by
  simp [State.repairWord, hv, hm]

theorem State.repairWord_multi (quiet : Bool) (hv : (s.word (unitAddr u w / 8)).valid = true)
    (hm : (s.word (unitAddr u w / 8)).mark = .multi) : s.repairWord u w quiet = (if quiet then s else s.memUe u w 0).putWord (unitAddr u w / 8)
      { s.word (unitAddr u w / 8) with mark := .poison } := by
  simp [State.repairWord, hv, hm]

theorem State.copyRowWord_multi (h : (s.word (unitAddr u w / 8)).mark = .multi) :
    s.copyRowWord u w = (s.repairWord u w (s.rqHas u w)).rqDrop u w := by
  simp [State.copyRowWord, h]

theorem State.copyRowWord_other (h : (s.word (unitAddr u w / 8)).mark ≠ .multi) : s.copyRowWord u w = s.repairWord u w true := by
  unfold State.copyRowWord
  split
  · contradiction
  · rfl

/-! ### The repair queue (R475, R482) -/

theorem exec_repairQueueRewrite_runs {ue : Bool} {rest : List (Nat × Bool)} (hq : s.rq u = (w, ue) :: rest) (hturn : s.remapTurn u = none) :
    exec (.repairQueueRewrite u) s = .next
      (((s.rqDrop u w).repairWord u w (!(!ue && decide ((s.word (unitAddr u w / 8)).mark = .multi)))).mspLoseUnit u 1) := by
  change execRepairQueueRewrite u s = _
  simp [execRepairQueueRewrite, hq, hturn]

theorem exec_repairQueueRewrite_stays (h : s.rq u = [] ∨ (s.remapTurn u).isSome = true) : exec (.repairQueueRewrite u) s = .next s := by
  change execRepairQueueRewrite u s = _
  unfold execRepairQueueRewrite
  split
  · rfl
  · next hq => exact if_pos (h.resolve_left (by simp [hq]))

/-! ### Scrubbing (R486) -/

/-- A pass of a unit is due: scrubbing is on, its PERIOD has passed, and Midnight does not test the bank. -/
def State.scrubDue (s : State) (u : Nat) : Bool :=
  s.flag Reg.ECC_SCRUB_EN (unitBd u) && unitOk u
    && decide (max 1 (s.getR Reg.ECC_SCRUB_PERIOD (unitBd u)) * 2 ^ 30 ≤ s.since (Map.get 0 s.chip.scrubAt u)) && !s.midBank u

theorem State.scrubDue_eq_false : s.scrubDue u = false ↔ s.flag Reg.ECC_SCRUB_EN (unitBd u) = false ∨ unitOk u = false ∨ s.midBank u = true
    ∨ s.since (Map.get 0 s.chip.scrubAt u) < max 1 (s.getR Reg.ECC_SCRUB_PERIOD (unitBd u)) * 2 ^ 30 := by
  simp only [State.scrubDue, Bool.and_eq_false_iff, Bool.not_eq_false', decide_eq_false_iff_not, not_le]
  tauto

/-- The unit's last start is now (R486). -/
def State.scrubStarts (s : State) (u : Nat) : State := s.modChip (fun c => { c with scrubAt := Map.set 0 c.scrubAt u s.time.toNat })

theorem exec_scrubPassStart_stays (h : s.scrubDue u = false) : exec (.scrubPassStart u) s = .next s :=
  if_neg (Bool.eq_false_iff.mp h)

theorem exec_scrubPassStart_begins (h : s.scrubDue u = true) (hp : Map.find s.chip.scrub u = none) :
    exec (.scrubPassStart u) s = .next ((s.scrubStarts u).modChip (fun c => { c with scrub := Map.put c.scrub u 0 })) :=
  (if_pos h).trans (if_neg (by simp [hp]))

theorem exec_scrubPassStart_skips (h : s.scrubDue u = true) (hp : (Map.find s.chip.scrub u).isSome = true) :
    exec (.scrubPassStart u) s = .next (if s.getR Reg.ECC_SCRUB_STAT_SKIPS (unitBd u) = 0
      then ((s.scrubStarts u).satAdd Reg.ECC_SCRUB_STAT_SKIPS (unitBd u) 1).raise (unitEp u) 0x0109 2 (memDetail 0 (unitCls u))
      else (s.scrubStarts u).satAdd Reg.ECC_SCRUB_STAT_SKIPS (unitBd u) 1) :=
  (if_pos h).trans (if_pos hp)

/-- The unit's word at hand after its scrub read (R486). -/
def State.scrubbed (s : State) (u w : Nat) (up : Option Upset) : State :=
  (if (s.word (unitAddr u w / 8)).valid then (s.putWord (unitAddr u w / 8) (upsetWord (s.word (unitAddr u w / 8)) up)).repairWord u w (s.rqHas u w)
    else s).mspLoseUnit u 1

theorem exec_scrubWordRead_noPass {up : Option Upset} (h : Map.find s.chip.scrub u = none) : exec (.scrubWordRead u up) s = .next s := by
  change execScrubWordRead u up s = _
  simp only [execScrubWordRead, h]

theorem exec_scrubWordRead_held {up : Option Upset} (h : s.midBank u = true ∨ s.repairsFirst u = true) : exec (.scrubWordRead u up) s = .next s := by
  change execScrubWordRead u up s = _
  unfold execScrubWordRead
  split
  · rfl
  · exact if_pos (Bool.or_eq_true_iff.mpr h)

theorem exec_scrubWordRead_runs {up : Option Upset} (h : Map.find s.chip.scrub u = some w) (hmid : s.midBank u = false)
    (hrep : s.repairsFirst u = false) : exec (.scrubWordRead u up) s = .next (if w + 1 < unitWords u
      then (s.scrubbed u w up).modChip (fun c => { c with scrub := Map.put c.scrub u (w + 1) })
      else ((s.scrubbed u w up).modChip (fun c => { c with scrub := Map.erase c.scrub u })).wrapAdd Reg.ECC_SCRUB_STAT_PASSES (unitBd u) 1) := by
  change execScrubWordRead u up s = _
  simp only [execScrubWordRead, h]
  exact (if_neg (by simp [hmid, hrep])).trans (apply_ite Host.Outcome.next _ _ _).symm

/-- Settles O47: a command is the branch that the unit's queue, suspect rows and pass take, and a rewrite the branch of the word's mark. -/
theorem memoryRepairCommandsComplete : Obligations.MemoryRepairCommandsComplete := by
  unfold Obligations.MemoryRepairCommandsComplete
  refine ⟨fun _ _ _ _ _ => ⟨exec_repairQueueRewrite_runs, exec_repairQueueRewrite_stays⟩, ?rewrite, ?passStart,
    fun _ _ h => exec_scrubPassStart_stays (State.scrubDue_eq_false.mpr h), ?wordRead, ?remap, ?copy⟩
  case rewrite =>
    rintro s u w quiet k rfl
    exact ⟨State.repairWord_leaves quiet, fun b => State.repairWord_single quiet, State.repairWord_multi quiet, fun hcls => if_neg hcls⟩
  case passStart =>
    rintro s t u hen ⟨hok, hmid⟩ hperiod rfl
    have hdue : s.scrubDue u = true := by
      rw [State.scrubDue, hen, hok, hmid, decide_eq_true hperiod]
      rfl
    exact ⟨exec_scrubPassStart_begins hdue, exec_scrubPassStart_skips hdue⟩
  case wordRead =>
    rintro s t u w up rfl
    exact ⟨exec_scrubWordRead_noPass, exec_scrubWordRead_held, exec_scrubWordRead_runs⟩
  case remap =>
    rintro s t u row spare rfl
    change (_ → execRowRemapCommit u s = _) ∧ (_ → execRowRemapCommit u s = _)
    refine ⟨fun h => ?_, fun h => ?_⟩
    · simp only [execRowRemapCommit, h]
    · simp only [execRowRemapCommit, h]
  case copy =>
    refine fun s u w row spare => ⟨State.copyRowWord_multi, State.copyRowWord_other, fun i h => ?_⟩
    unfold State.fieldMap
    simp only [h]

end Sys2Proof.Machine
end

section
/-!
PROOF. The source that a claim answers (R556): the search meets the sources in rising order and keeps the best of those it has met.
-/

namespace Sys2Proof.Machine

variable (s : State) (ctx : Nat)

/-- A source that a claim may answer: pending, enabled for the context, and of a priority above 0. -/
abbrev State.claimable (n : Nat) : Prop :=
  n ≠ 0 ∧ s.flag Reg.PLIC_PEND n = true ∧ s.plicEnabled ctx n = true ∧ 0 < s.getR Reg.PLIC_PRIO n

/-- The best of the sources below a number. -/
def State.bestBelow (k : Nat) : Nat :=
  (List.range k).foldl (fun best n =>
    if n ≠ 0 ∧ s.flag Reg.PLIC_PEND n = true ∧ s.plicEnabled ctx n = true ∧ 0 < s.getR Reg.PLIC_PRIO n
        ∧ (best = 0 ∨ s.getR Reg.PLIC_PRIO best < s.getR Reg.PLIC_PRIO n) then n else best) 0

theorem State.plicBest_eq_bestBelow : s.plicBest ctx = s.bestBelow ctx 1024 := rfl

theorem State.bestBelow_succ (k : Nat) : s.bestBelow ctx (k + 1) =
    if s.claimable ctx k ∧ (s.bestBelow ctx k = 0 ∨ s.getR Reg.PLIC_PRIO (s.bestBelow ctx k) < s.getR Reg.PLIC_PRIO k) then k
    else s.bestBelow ctx k := by
  simp only [State.bestBelow, List.range_succ, List.foldl_append, List.foldl_cons, List.foldl_nil, and_assoc]

/-- What the search has found once it has met the sources below k: none that a claim may answer, or the best of them. -/
def State.BestSource (k b : Nat) : Prop :=
  (b = 0 → ∀ m < k, ¬ s.claimable ctx m)
    ∧ (b ≠ 0 → b < k ∧ s.claimable ctx b
      ∧ ∀ m < k, s.claimable ctx m → s.getR Reg.PLIC_PRIO m < s.getR Reg.PLIC_PRIO b ∨ (s.getR Reg.PLIC_PRIO m = s.getR Reg.PLIC_PRIO b ∧ b ≤ m))

variable {s ctx} {k b : Nat}

/-- A source that beats the best one below it is the best. -/
theorem State.BestSource.succ_new (h : s.BestSource ctx k b) (hk : s.claimable ctx k)
    (hbeats : b = 0 ∨ s.getR Reg.PLIC_PRIO b < s.getR Reg.PLIC_PRIO k) : s.BestSource ctx (k + 1) k := by
  obtain ⟨hnone, hbest⟩ := h
  refine ⟨fun h0 => absurd h0 hk.1, fun _ => ⟨k.lt_succ_self, hk, fun m hm hc => ?_⟩⟩
  obtain hm | rfl := Nat.lt_succ_iff_lt_or_eq.mp hm
  · have hb : b ≠ 0 := fun h0 => hnone h0 m hm hc
    have hle := (hbest hb).2.2 m hm hc
    omega
  · exact .inr ⟨rfl, le_rfl⟩

/-- A source that cannot be claimed, or does not beat the best one below it, leaves it. -/
theorem State.BestSource.succ_old (h : s.BestSource ctx k b)
    (hk : ¬ (s.claimable ctx k ∧ (b = 0 ∨ s.getR Reg.PLIC_PRIO b < s.getR Reg.PLIC_PRIO k))) : s.BestSource ctx (k + 1) b := by
  obtain ⟨hnone, hbest⟩ := h
  refine ⟨fun h0 m hm hc => ?_, fun hb => ?_⟩
  · obtain hm | rfl := Nat.lt_succ_iff_lt_or_eq.mp hm
    · exact hnone h0 m hm hc
    · exact hk ⟨hc, .inl h0⟩
  · obtain ⟨hlt, hcb, hmax⟩ := hbest hb
    refine ⟨hlt.trans k.lt_succ_self, hcb, fun m hm hc => ?_⟩
    obtain hm | rfl := Nat.lt_succ_iff_lt_or_eq.mp hm
    · exact hmax m hm hc
    · have hge : ¬ s.getR Reg.PLIC_PRIO b < s.getR Reg.PLIC_PRIO m := fun h => hk ⟨hc, .inr h⟩
      omega

theorem State.bestBelow_bestSource (s : State) (ctx k : Nat) : s.BestSource ctx k (s.bestBelow ctx k) := by
  induction k with
  | zero => exact ⟨fun _ m hm => absurd hm m.not_lt_zero, fun h => absurd rfl h⟩
  | succ k ih =>
    rw [State.bestBelow_succ]
    split
    · next h => exact ih.succ_new h.1 h.2
    · next h => exact ih.succ_old h

/-- Settles O55, by induction on the sources that the search has met. -/
theorem aClaimAnswersTheBestSource : Obligations.AClaimAnswersTheBestSource := by
  unfold Obligations.AClaimAnswersTheBestSource
  intro s ctx
  obtain ⟨hnone, hbest⟩ := s.bestBelow_bestSource ctx 1024
  rw [← State.plicBest_eq_bestBelow] at hnone hbest
  refine ⟨fun h0 m hpos hm hp he => ?_, fun hb => ?_⟩
  · exact Nat.eq_zero_of_not_pos fun hprio => hnone h0 m hm ⟨hpos.ne', hp, he, hprio⟩
  · obtain ⟨hlt, ⟨-, hp, he, hprio⟩, hmax⟩ := hbest hb
    exact ⟨hlt, hp, he, hprio, fun m hpos hm hpm hem hprm => hmax m hm ⟨hpos.ne', hpm, hem, hprm⟩⟩

end Sys2Proof.Machine
end

section
/-!
PROOF. DOE discovery and the SPDM requests (R540 to R543, R648): a request by how far the negotiation has come, and then by what its answer needs.
-/

namespace Sys2Proof.Machine

variable {s : State}

theorem State.spdmReady_ready (h : s.sage.spdm = 3) (t : State) : s.spdmReady t = .next t := congrArg _ (if_pos h)

theorem State.spdmReady_early (h : s.sage.spdm ≠ 3) (t : State) : s.spdmReady t = .next (s.respond (0x7F + 0x04 * 2 ^ 8) 0) := congrArg _ (if_neg h)

theorem State.signs_of_lifecycle (h : s.getR Reg.SGE_LCS_STATE 0 = 1 ∨ s.getR Reg.SGE_LCS_STATE 0 = 2) : s.signs = true := by
  simpa [State.signs] using h

theorem State.signs_of_other_lifecycle (h1 : s.getR Reg.SGE_LCS_STATE 0 ≠ 1) (h2 : s.getR Reg.SGE_LCS_STATE 0 ≠ 2) : s.signs = false := by
  simp [State.signs, h1, h2]

/-! ### Measurements (R543) -/

/-- What an answer to GET_MEASUREMENTS carries: the count of blocks, all of them, or one. -/
def State.measured (s : State) (i : Nat) : Nat :=
  if i = 0 then 6
  else if i = 255 then (List.range 6).foldl (fun acc j => acc + s.measurement (j + 1) * 2 ^ (512 * j)) 0
  else s.measurement i

/-- Six blocks laid end to end, at places of which the first is 1. -/
theorem foldl_six_blocks (m place : Nat → Nat) (h0 : place 0 = 1) : (List.range 6).foldl (fun acc j => acc + m (j + 1) * place j) 0
    = m 1 + m 2 * place 1 + m 3 * place 2 + m 4 * place 3 + m 5 * place 4 + m 6 * place 5 := by
  simp [List.range_succ, h0]

theorem State.measured_all (s : State) : s.measured 255 = s.measurement 1 + s.measurement 2 * 2 ^ 512 + s.measurement 3 * 2 ^ 1024
    + s.measurement 4 * 2 ^ 1536 + s.measurement 5 * 2 ^ 2048 + s.measurement 6 * 2 ^ 2560 := by
  have hall := foldl_six_blocks s.measurement (fun j => 2 ^ (512 * j)) (pow_zero 2)
  rw [State.measured, if_neg (by decide), if_pos rfl]
  generalize s.measurement = m at hall ⊢
  simpa only [Nat.reduceMul] using hall

theorem State.measured_block (s : State) {i : Nat} (hlo : 1 ≤ i) (hhi : i ≤ 6) : s.measured i = s.measurement i := by
  unfold State.measured
  rw [if_neg (by omega), if_neg (by omega)]

theorem exec_spdmGetMeasurements_unsigned {index : BitVec 8} (h : s.sage.spdm = 3) (hi : index.toNat ≤ 6 ∨ index.toNat = 255) :
    exec (.spdmGetMeasurements index false) s = .next (s.respond (0x60 + s.measured index.toNat * 2 ^ 32) 0) := by
  refine (State.spdmReady_ready h _).trans (congrArg _ ?_)
  rw [if_neg (by simp), if_neg (by omega)]
  rfl

theorem exec_spdmGetMeasurements_signed {index : BitVec 8} (h : s.sage.spdm = 3) (hs : s.signs = true) (hi : index.toNat ≤ 6 ∨ index.toNat = 255) :
    exec (.spdmGetMeasurements index true) s
      = .next ((s.modSage (fun g => { g with kept := true })).respond (0x60 + s.measured index.toNat * 2 ^ 32) 0) := by
  refine (State.spdmReady_ready h _).trans (congrArg _ ?_)
  rw [if_neg (by simp [hs]), if_neg (by omega)]
  rfl

theorem exec_spdmGetMeasurements_noBlock {index : BitVec 8} {signed : Bool} (h : s.sage.spdm = 3) (hs : signed = true → s.signs = true)
    (hlo : 6 < index.toNat) (hne : index.toNat ≠ 255) :
    exec (.spdmGetMeasurements index signed) s = .next (s.respond (0x7F + 0x01 * 2 ^ 8) 0) := by
  refine (State.spdmReady_ready h _).trans (congrArg _ ?_)
  rw [if_neg (by cases signed <;> simp_all), if_pos ⟨hlo, hne⟩]
  rfl

theorem exec_spdmGetMeasurements_unsupported {index : BitVec 8} (h : s.sage.spdm = 3) (hs : s.signs = false) :
    exec (.spdmGetMeasurements index true) s = .next (s.respond (0x7F + 0x07 * 2 ^ 8) 0) := by
  refine (State.spdmReady_ready h _).trans (congrArg _ ?_)
  rw [if_pos (by simp [hs])]
  rfl

/-! ### Chunks (R541) -/

/-- The number that the next chunk under a handle is to bear. -/
def State.wantedChunk (s : State) (handle : Nat) : Nat :=
  match s.sage.sending with
  | some (h, n) => if h = handle then n else 0
  | none => 0

theorem exec_spdmChunkSend_next {handle : BitVec 8} {seq : BitVec 16} {last : Bool} (h : s.sage.spdm = 3)
    (hseq : seq.toNat = s.wantedChunk handle.toNat) : exec (.spdmChunkSend handle seq last) s = .next
      ((s.modSage (fun g => { g with sending := if last then none else some (handle.toNat, s.wantedChunk handle.toNat + 1) })).respond
        (0x05 + seq.toNat * 2 ^ 32) 0) :=
  (State.spdmReady_ready h _).trans (congrArg _ (if_neg (not_not.mpr hseq)))

theorem exec_spdmChunkSend_other {handle : BitVec 8} {seq : BitVec 16} {last : Bool} (h : s.sage.spdm = 3)
    (hseq : seq.toNat ≠ s.wantedChunk handle.toNat) : exec (.spdmChunkSend handle seq last) s = .next
      ((s.modSage (fun g => { g with sending := none })).respond (0x7F + 0x01 * 2 ^ 8) 0) :=
  (State.spdmReady_ready h _).trans (congrArg _ (if_pos hseq))

theorem exec_spdmChunkGet_none {handle : BitVec 8} {seq : BitVec 16} {last : Bool} (h : s.sage.spdm = 3) (hl : s.sage.large = none) :
    exec (.spdmChunkGet handle seq last) s = .next (s.respond (0x7F + 0x04 * 2 ^ 8) 0) := by
  refine (State.spdmReady_ready h _).trans (congrArg _ ?_)
  rw [hl]
  rfl

theorem exec_spdmChunkGet_some {handle : BitVec 8} {seq : BitVec 16} {last : Bool} {k n : Nat} (h : s.sage.spdm = 3)
    (hl : s.sage.large = some (k, n)) : exec (.spdmChunkGet handle seq last) s = .next (if k = handle.toNat ∧ n = seq.toNat
      then (s.modSage (fun g => { g with large := if last then none else some (k, n + 1) })).respond (0x06 + (seq.toNat + bit last * 2 ^ 16) * 2 ^ 32) 0
      else s.respond (0x7F + 0x01 * 2 ^ 8) 0) := by
  refine (State.spdmReady_ready h _).trans (congrArg _ ?_)
  rw [hl]
  rfl

/-! ### The requests -/

/-- Settles O53, request by request: by how far the negotiation has come, and then by what the answer needs. -/
theorem spdmCommandsComplete : Obligations.SpdmCommandsComplete := by
  unfold Obligations.SpdmCommandsComplete
  refine ⟨?start, fun s => ⟨rfl, rfl⟩, ?early, ?identity, ?measurements, ?chunkSend, ?chunkGet, ?large⟩
  case start =>
    refine fun s index code => ⟨?_, rfl, rfl⟩
    change Host.Outcome.next (s.respond (match index.toNat with | 0 => _ | 1 => _ | _ => _) 0) = _
    rcases index.toNat with _ | _ | n <;> rfl
  case early =>
    intro s slot index handle seq signed last h
    have hearly := State.spdmReady_early h
    exact ⟨_, rfl, hearly _, hearly _, hearly _, hearly _, hearly _, hearly _, hearly _, hearly _⟩
  case identity =>
    intro s slot h
    have hready := State.spdmReady_ready h
    refine ⟨hready _, hready _, fun h1 h2 => ?_, fun h12 => ?_⟩
    · exact (hready _).trans (congrArg _ (if_pos (by rw [State.signs_of_other_lifecycle h1 h2]; rfl)))
    · exact (hready _).trans (congrArg _ (if_neg (by rw [State.signs_of_lifecycle h12]; simp)))
  case measurements =>
    rintro s k index h rfl
    refine ⟨exec_spdmGetMeasurements_unsigned h (.inl (by decide)), exec_spdmGetMeasurements_unsigned h (.inl (by decide)),
      exec_spdmGetMeasurements_unsigned h (.inl (by decide)), exec_spdmGetMeasurements_noBlock h (by simp), fun hlo hhi => ?_, ?_,
      fun h1 h2 => exec_spdmGetMeasurements_unsupported h (State.signs_of_other_lifecycle h1 h2), fun h12 => ?signed⟩
    · rw [exec_spdmGetMeasurements_unsigned h (.inl hhi), State.measured_block s hlo hhi]
    · rw [← State.measured_all]
      exact exec_spdmGetMeasurements_unsigned h (.inr (by decide))
    case signed =>
      have hs := State.signs_of_lifecycle h12
      refine ⟨exec_spdmGetMeasurements_signed h hs (.inl (by decide)), fun hlo hhi => ?_, exec_spdmGetMeasurements_noBlock h (fun _ => hs), ?_⟩
      · rw [exec_spdmGetMeasurements_signed h hs (.inl hhi), State.measured_block s hlo hhi]
      · rw [← State.measured_all]
        exact exec_spdmGetMeasurements_signed h hs (.inr (by decide))
  case chunkSend =>
    rintro s handle seq last want h rfl
    exact ⟨exec_spdmChunkSend_next h, exec_spdmChunkSend_other h⟩
  case chunkGet =>
    intro s handle seq last h
    refine ⟨exec_spdmChunkGet_none h, fun k n hl => ?_⟩
    rw [exec_spdmChunkGet_some h hl]
    exact ⟨fun hk hn => congrArg _ (if_pos ⟨hk, hn⟩), fun hne => congrArg _ (if_neg (not_and_or.mpr hne))⟩
  case large =>
    rintro s k h rfl
    have hready := State.spdmReady_ready h
    refine ⟨hready _, fun hs hk => ?_, fun hs hk => ?_, fun hs => ?_⟩
    · exact (hready _).trans (by rw [hs, hk]; rfl)
    · exact (hready _).trans (by rw [hs, hk]; rfl)
    · exact (hready _).trans (by rw [hs]; rfl)

end Sys2Proof.Machine
end

section
/-!
PROOF. The DRW port (R566, R569, R573 to R582): an attention by its length and its sync, a request frame by its form and then by the session and the level, and
a reset low by whether the device is in reset and the mask is set.
-/

namespace Sys2Proof.Machine

variable {s : State}

/-! ### Attention and sync (R576, R578) -/

theorem exec_drwAttention_stays {low : Nat} {sync : Option (BitVec 16)} (h : s.dbg.frame = true ∨ low < 2000 ∨ 20000 ≤ low) :
    exec (.drwAttention low sync) s = .next s :=
  if_pos (by simpa [or_assoc] using h)

theorem exec_drwAttention_long {low : Nat} {sync : Option (BitVec 16)} (h : s.dbg.frame = false) (hlo : 12000 ≤ low) (hhi : low < 20000) :
    exec (.drwAttention low sync) s = .next (s.satAdd Reg.DBG_DRW_STAT_FERR 0 1) := by
  refine (if_neg ?_).trans (if_pos hlo)
  simp only [h, Bool.false_or, Bool.or_eq_true, decide_eq_true_eq]
  omega

theorem exec_drwAttention_sync {low : Nat} {sync : Option (BitVec 16)} (h : s.dbg.frame = false) (hlo : 2000 ≤ low) (hhi : low < 12000) :
    exec (.drwAttention low sync) s = match sync with
      | none => .next s.frameErr
      | some t => .next (if 64 ≤ t.toNat ∧ t.toNat ≤ 8000
          then (s.setR Reg.DBG_DRW_T_T 0 t.toNat).modDbg (fun d => { d with frame := true }) else (s.setR Reg.DBG_DRW_T_T 0 t.toNat).frameErr) := by
  refine ((if_neg ?_).trans (if_neg (by omega))).trans ?_
  · simp only [h, Bool.false_or, Bool.or_eq_true, decide_eq_true_eq]
    omega
  · cases sync <;> rfl

/-! ### Request frames (R582) -/

theorem State.drwFrame_outside (h : s.dbg.frame = false) (fr : DrwFrame) (t : State) : s.drwFrame fr t = .next s := by
  simp [State.drwFrame, h]

theorem State.drwFrame_ok (h : s.dbg.frame = true) (t : State) : s.drwFrame .ok t = .next t := by
  simp [State.drwFrame, h]

theorem State.drwFrame_bad (h : s.dbg.frame = true) (t : State) :
    s.drwFrame .bad t = .next ((s.respond 0 3).modDbg (fun d => { d with frame := false, reply := drwReply 0 3 false })) := by
  simp [State.drwFrame, h, State.drwAnswer]

theorem State.drwFrame_broken (h : s.dbg.frame = true) (t : State) :
    s.drwFrame .broken t = .next (((s.satAdd Reg.DBG_DRW_STAT_FERR 0 1).raise 0x2D4C 0x0F09 1 0).modDbg (fun d => { d with frame := false })) := by
  simp only [State.drwFrame, h, Bool.not_true, Bool.false_eq_true, if_false]
  rfl

/-- A DMI access on DRW outside DRW's session, in it where the level permits it, and where it does not (R569, R573). -/
theorem State.drwAccess_noSession (h : s.getR Reg.DBG_SESS_STATE 0 ≠ 1) (a v : Nat) (write peek : Bool) :
    s.drwAccess a v write peek = s.drwAnswer 0 1 (!write) := if_pos h

theorem State.drwAccess_refused {a v : Nat} {write : Bool} (h : s.getR Reg.DBG_SESS_STATE 0 = 1) (hok : s.dmiOk a v write = false) (peek : Bool) :
    s.drwAccess a v write peek = s.drwAnswer 0 1 (!write) := by
  simp [State.drwAccess, State.dmi, h, hok, bit]

theorem State.drwAccess_reads {a v : Nat} (h : s.getR Reg.DBG_SESS_STATE 0 = 1) (hok : s.dmiOk a v false = true) (peek : Bool) :
    s.drwAccess a v false peek = (if peek then s else s.dmReadDone a).drwAnswer (s.dmWord a % 2 ^ 32) 0 true := by
  simp [State.drwAccess, State.dmi, h, hok, bit]

theorem State.drwAccess_writes {a v : Nat} (h : s.getR Reg.DBG_SESS_STATE 0 = 1) (hok : s.dmiOk a v true = true) (peek : Bool) :
    s.drwAccess a v true peek = (s.dmWrite a (v % 2 ^ 32) peek).drwAnswer 0 0 := by
  simp [State.drwAccess, State.dmi, h, hok, bit]

/-- An answer carries data only to a read or NOP, and not with ACK 3 (R582). -/
theorem drwReply_short {ack : Nat} {word : Bool} (data : Nat) (hack : ack < 4) (h : word = false ∨ ack = 3) : drwReply data ack word = [ack, crc8 [ack]] := by
  rcases h with rfl | rfl
  · simp [drwReply, Nat.mod_eq_of_lt hack]
  · simp [drwReply]

theorem drwReply_word {ack : Nat} (data : Nat) (hack : ack < 4) (h : ack ≠ 3) : drwReply data ack true =
    [ack, byteAt data 0, byteAt data 1, byteAt data 2, byteAt data 3, crc8 [ack, byteAt data 0, byteAt data 1, byteAt data 2, byteAt data 3]] := by
  simp [drwReply, h, Nat.mod_eq_of_lt hack, List.range_succ]

/-! ### The commands -/

/-- Settles O57, command by command, by the branch that its conditions take. -/
theorem drwCommandsComplete : Obligations.DrwCommandsComplete := by
  unfold Obligations.DrwCommandsComplete
  refine ⟨?attention, fun s low x addr data peek fr => ⟨fun h => exec_drwAttention_stays (.inl h), fun h => ?outside⟩, ?malformed, ?session, ?mask, ?access,
    ?answer, ?reset⟩
  case attention =>
    intro s low t h
    refine ⟨fun hlow _ => exec_drwAttention_stays (.inr hlow), fun hlo hhi _ => exec_drwAttention_long h hlo hhi, fun hlo hhi h64 h8000 => ?_,
      fun hlo hhi hoff => ?_, fun hlo hhi => exec_drwAttention_sync h hlo hhi⟩
    · exact (exec_drwAttention_sync h hlo hhi).trans (congrArg _ (if_pos ⟨h64, h8000⟩))
    · exact (exec_drwAttention_sync h hlo hhi).trans (congrArg _ (if_neg (by omega)))
  case outside =>
    have hout := State.drwFrame_outside h fr
    exact ⟨hout _, hout _, hout _, hout _, hout _, hout _, hout _⟩
  case malformed =>
    intro s addr data peek h
    have hbad := State.drwFrame_bad h s
    have hbroken := State.drwFrame_broken h s
    exact ⟨_, _, rfl, rfl, hbad, hbad, hbad, hbad, hbad, hbad, hbad, hbroken, hbroken, hbroken, hbroken, hbroken, hbroken, hbroken⟩
  case session =>
    intro s h
    have hok := State.drwFrame_ok h
    refine ⟨hok _, fun h0 => ⟨(hok _).trans ?_, (hok _).trans ?_⟩, fun h1 => ⟨(hok _).trans ?_, (hok _).trans ?_⟩,
      fun h2 => ⟨(hok _).trans ?_, (hok _).trans ?_⟩⟩
    · rw [h0]; rfl
    · rw [h0]; rfl
    · rw [h1]; rfl
    · rw [h1]; rfl
    · rw [h2]; rfl
    · rw [h2]; rfl
  case mask =>
    intro s h
    have hok := State.drwFrame_ok h
    refine ⟨fun h1 => ⟨(hok _).trans (congrArg _ (if_pos h1)), fun hl => (hok _).trans (congrArg _ (if_pos ⟨hl, h1⟩)),
      fun hl => (hok _).trans (congrArg _ (if_neg fun hc => hl hc.1))⟩, fun h1 => ⟨?_, (hok _).trans (congrArg _ (if_neg h1))⟩⟩
    exact (hok _).trans (congrArg _ (if_neg fun hc => h1 hc.2))
  case access =>
    intro s addr data peek h
    have hok := State.drwFrame_ok h
    refine ⟨fun h1 => ⟨(hok _).trans ?_, (hok _).trans ?_⟩, fun h1 hd => ⟨(hok _).trans ?_, (hok _).trans ?_⟩, fun h1 hd => (hok _).trans ?_,
      fun h1 hd => (hok _).trans ?_, fun h1 hd => (hok _).trans ?_⟩
    · rw [State.drwAccess_noSession h1]; rfl
    · rw [State.drwAccess_noSession h1]; rfl
    · rw [State.drwAccess_reads h1 hd]; rfl
    · rw [State.drwAccess_reads h1 hd]; rfl
    · rw [State.drwAccess_refused h1 hd]; rfl
    · rw [State.drwAccess_writes h1 hd, Nat.mod_eq_of_lt data.isLt]
    · rw [State.drwAccess_refused h1 hd]; rfl
  case answer =>
    exact fun s data ack word hack => ⟨rfl, rfl, rfl, drwReply_short data (by decide) (.inr rfl), drwReply_short data hack (.inl rfl),
      drwReply_word data hack, rfl, rfl⟩
  case reset =>
    intro s
    change (_ → _ → execDrwResetLow s = _) ∧ (_ → _ → execDrwResetLow s = _) ∧ (_ → execDrwResetLow s = _) ∧ (_ → execDrwResetRelease s = _)
      ∧ (_ → _ → execDrwResetRelease s = _) ∧ (_ → _ → execDrwResetRelease s = _)
    unfold execDrwResetLow execDrwResetRelease
    refine ⟨fun hr hm => ?_, fun hr hm => ?_, fun hr => ?_, fun hl => ?_, fun hl hp => ?_, fun hl hp => ?_⟩
    · simp [hr, hm, debugEp, ep]
    · simp [hr, hm]
      rfl
    · simp [hr]
      rfl
    · simp [hl]
    · simp [hl, hp]
    · simp [hl, hp]

end Sys2Proof.Machine
end

section
/-!
PROOF. The scratchpad (R467 to R480): a request by what its check finds, the ownership writes by writer and state of the handover, invalidation by the unit a
word lies in, and a copy channel's commands by the state of the channel and what its oldest chunk has come back with.
-/

namespace Sys2Proof.Machine

variable {s : State}

/-! ### Requests (R467, R469, R473) -/

section
variable {r : MemReq} {up : Option Upset}

theorem exec_spdAccess (r : MemReq) (up : Option Upset) : exec (.spdAccess r up) s =
    if r.write = true ∧ spdWin r.addr ≠ 0 then .next s else .next (s.spdAccess r up) := rfl

theorem exec_spdAliasUpdate (r : MemReq) (up : Option Upset) : exec (.spdAliasUpdate r up) s =
    if r.write = true ∧ spdWin r.addr ≠ 0 then .next (s.spdAccess r up) else .next s := rfl

theorem State.spdAccess_refused {t : State} (h : s.dawnGuard (spdPlain r.addr) r.bytes r.req r.write = some t) : s.spdAccess r up = t.respond 0 2 := by
  rw [State.spdAccess, h]

variable (h : s.dawnGuard (spdPlain r.addr) r.bytes r.req r.write = none)
include h

theorem State.spdAccess_unmapped (hc : s.spdCheck r.addr r.bytes r.req = .unmapped) :
    s.spdAccess r up = (s.decodeError (spdEp 0 0) r.addr r.req).coreTakes r.req r.addr r.write := by
  rw [State.spdAccess, h, hc]

theorem State.spdAccess_wait (hc : s.spdCheck r.addr r.bytes r.req = .wait) :
    s.spdAccess r up = s.modChip (fun c => { c with waiting := c.waiting ++ [r] }) := by
  rw [State.spdAccess, h, hc]

theorem State.spdAccess_deny {b : Nat} (hc : s.spdCheck r.addr r.bytes r.req = .deny b) :
    s.spdAccess r up = ((s.spdTouch r.addr r.bytes).spdDeny b r.req r.addr false).respond 0 2 := by
  rw [State.spdAccess, h, hc]

theorem State.spdAccess_ok (hc : s.spdCheck r.addr r.bytes r.req = .ok) : s.spdAccess r up = (s.spdTouch r.addr r.bytes).spdServe r up := by
  rw [State.spdAccess, h, hc]

end

theorem State.spdServe_write {r : MemReq} {up : Option Upset} (h : r.write = true) : s.spdServe r up =
    ((s.strike (spdPlain r.addr) up).writeWords (spdPlain r.addr) r.bytes r.data r.req (fun _ => r.poison) (spdWin r.addr)).respond 0 0 := if_pos h

theorem State.spdServe_read {r : MemReq} {up : Option Upset} {x : List Rd × State} (h : r.write = false)
    (hx : x = s.readWords (spdPlain r.addr / 8 * 8) (wordsOf (spdPlain r.addr) r.bytes) r.req up) : s.spdServe r up =
    (x.2.respond (bytesOf (spdPlain r.addr) r.bytes x.1) 0 (x.1.any (fun w => w.poison))).coreTakes r.req r.addr false := by
  subst hx
  exact if_neg (by simp [h])

/-! ### Denials (R467, R468) -/

theorem State.spdDeny_bank (s : State) (bank req addr : Nat) (own : Bool) :
    (s.spdDeny bank req addr own).getR Reg.SPD_DENY_LAST_BANK (bank / 64) = bank % 64 := by
  have hset : Reg.SPD_DENY_LAST_BANK.norm (bank % 64) = bank % 64 := Field.norm_of_lt rfl (Nat.mod_lt _ (by decide))
  refine Eq.trans (State.getR_setR_id _ Reg.SPD_DENY_LAST_OWNWR _ _ _ _ (by decide)) ?_
  rw [State.getR_setR_self, hset]

theorem State.spdDeny_ownWr (s : State) (bank req addr : Nat) (own : Bool) :
    (s.spdDeny bank req addr own).flag Reg.SPD_DENY_LAST_OWNWR (bank / 64) = own := by
  have hset : (s.spdDeny bank req addr own).getR Reg.SPD_DENY_LAST_OWNWR (bank / 64) = Reg.SPD_DENY_LAST_OWNWR.norm (bit own) := State.getR_setR_self _ _ _ _
  rw [State.flag, hset]
  cases own <;> rfl

theorem State.spdDeny_leaves (s : State) (bank req addr : Nat) (own : Bool) :
    Leaves [.events] [Reg.SPD_DENY_COUNT.key (bank / 64), Reg.SPD_DENY_LAST_SRC.key (bank / 64), Reg.SPD_DENY_LAST_BANK.key (bank / 64),
      Reg.SPD_DENY_LAST_OWNWR.key (bank / 64)] s (s.spdDeny bank req addr own) :=
  ((((Leaves.refl.satAdd _ _ _ (by simp)).setR _ _ _ (by simp)).setR _ _ _ (by simp)).setR _ _ _ (by simp)).raise _ _ _ _ (by decide)

/-! ### Ownership and handover (R468 to R471) -/

section
variable {bd : Fin 4} {bank : Fin 64} {req : BitVec 16}

theorem exec_spdOwnWrite_denied {e : BitVec 16} (h : s.spdWriter (bd.val * 64 + bank.val) req.toNat = false) :
    exec (.spdOwnWrite bd bank e req) s = .next ((s.spdDeny (bd.val * 64 + bank.val) req.toNat 0 true).respond 0 2) :=
  if_pos (by simp [h])

theorem exec_spdHandoverAbort_denied (h : s.spdWriter (bd.val * 64 + bank.val) req.toNat = false) :
    exec (.spdHandoverAbort bd bank req) s = .next ((s.spdDeny (bd.val * 64 + bank.val) req.toNat 0 true).respond 0 2) :=
  if_pos (by simp [h])

theorem exec_spdHandoverCommit_stays (h : s.getR Reg.SPD_OWN_STATE (bd.val * 64 + bank.val) ≠ 1 ∨ s.midHolds bd 3 bank = true
    ∨ s.buffers (bd.val * 64 + bank.val) = true) : exec (.spdHandoverCommit bd bank) s = .next s :=
  if_neg (by
    rintro ⟨hst, hm, hb⟩
    simp [hst, hm, hb] at h)

/-- An abort with no handover in progress: late in the cycle of the commit, else nothing. -/
theorem exec_spdHandoverAbort_idle (hst : s.getR Reg.SPD_OWN_STATE (bd.val * 64 + bank.val) ≠ 1) (h : s.spdWriter (bd.val * 64 + bank.val) req.toNat = true) :
    exec (.spdHandoverAbort bd bank req) s = .next
      (if s.getR Reg.SPD_OWN_STATE (bd.val * 64 + bank.val) = 2 ∧ s.inCommitCycle Reg.SPD_CMT (bd.val * 64 + bank.val) = true
        then (s.setR Reg.SPD_OWN_ABORT_LATE (bd.val * 64 + bank.val) 1).respond 0 0 else s.respond 0 0) := by
  refine (if_neg (by simp [h])).trans ((if_neg hst).trans ?_)
  split_ifs <;> rfl

end

/-! ### Invalidation (R480) -/

theorem State.word_invalidate (s : State) (u k : Nat) : (s.invalidate u).word k = if inUnit u k then noWord else s.word k := by
  change Map.get noWord (s.mem.filter (fun e => !inUnit u e.1)) k = _
  rw [Map.get, Map.find_filter_key (fun k => !inUnit u k)]
  cases h : inUnit u k with
  | true => rfl
  | false => rfl

theorem inUnit_of_unitOf {a u v w : Nat} (h8 : a % 8 = 0) (h : unitOf a = some (v, w)) : inUnit u (a / 8) = decide (v = u) := by
  have ha : 8 * (a / 8) = a := Nat.mul_div_cancel' (Nat.dvd_of_mod_eq_zero h8)
  rw [inUnit, ha, h]

/-! ### Copy channels (R476 to R479) -/

theorem exec_spdCopyResponse {bd : Fin 4} {c : Fin 8} {k i : Nat} {more : List Nat} {p : Packet} {rest : List Packet} (hk : k = bd.val * 8 + c.val)
    (ho : (s.copy k).outstanding = i :: more)
    (hp : takeFirst (fun p => (decide (p.kind = 2) || decide (p.kind = 4)) && decide (p.tag = copyTag (s.copy k) i)) (s.inbox (copyEp k)) = some (p, rest)) :
    exec (.spdCopyResponse bd c) s =
      let t := (s.putInbox (copyEp k) rest).modCopy k (fun x => { x with outstanding := more })
      if p.status ≠ 0 then .next (t.copyFail k 3 p.status (1024 * i) (s.copyRemote k (1024 * i)))
      else if p.kind = 2 then
        match t.copyRead k i p with
        | some u => .next (u.copyGo k)
        | none => .next s
      else .next ((t.setR Reg.SPD_CPY_DONE_BYTES k (1024 * i + s.chunkLen k i)).copyGo k) := by
  subst hk
  change execSpdCopyResponse bd c s = _
  simp only [execSpdCopyResponse, ho, hp] <;> rfl

section
variable {k i : Nat} {p : Packet}

theorem State.copyRead_waits (h : s.spdCheck (s.copyLocal k (1024 * i)) (s.chunkLen k i) (s.getR Reg.SPD_CPY_REQ_EP k) = .wait) : s.copyRead k i p = none := by
  rw [State.copyRead, h]

theorem State.copyRead_denied {b : Nat} (h : s.spdCheck (s.copyLocal k (1024 * i)) (s.chunkLen k i) (s.getR Reg.SPD_CPY_REQ_EP k) = .deny b) : s.copyRead k i p =
    some ((s.spdDeny b (s.getR Reg.SPD_CPY_REQ_EP k) (s.copyLocal k (1024 * i)) false).copyFail k 2 0 (1024 * i) (s.copyLocal k (1024 * i))) := by
  rw [State.copyRead, h]

/-- A chunk with no poisoned word is written whole. -/
theorem State.copyRead_ok (h : s.spdCheck (s.copyLocal k (1024 * i)) (s.chunkLen k i) (s.getR Reg.SPD_CPY_REQ_EP k) = .ok)
    (hp : firstPoison (s.chunkWords k i p) = none) : s.copyRead k i p =
    some (((s.chunkWords k i p).zipIdx.foldl (fun u e => u.writeWord (s.copyLocal k (1024 * i) + 8 * e.2) (s.getR Reg.SPD_CPY_REQ_EP k) e.1.data)
      (s.spdTouch (s.copyLocal k (1024 * i)) (s.chunkLen k i))).setR Reg.SPD_CPY_DONE_BYTES k (1024 * i + s.chunkLen k i)) := by
  rw [State.copyRead, h]
  simp only [hp, Option.getD_none, List.take_length, lt_irrefl, if_false]

end

/-! ### The commands -/

/-- Settles O46, command by command, by the branch that its conditions take. -/
theorem scratchpadCommandsComplete : Obligations.ScratchpadCommandsComplete := by
  unfold Obligations.ScratchpadCommandsComplete
  refine ⟨?windows, fun s t r up h => State.spdAccess_refused h, ?request, fun s r up x hg hc hr hx => ?read, ?own, ?denial, ?handover, fun s e => ⟨rfl, rfl⟩, ?idle,
    ?inv, ?word, ?start, ?go, ?stop, ?response, ?unawaited, ?chunk⟩
  case windows =>
    intro s r up
    refine ⟨fun h => ?_, fun hw ha => ⟨?_, ?_⟩⟩
    · have hno : ¬ (r.write = true ∧ spdWin r.addr ≠ 0) := by
        rintro ⟨hw, ha⟩
        simp [hw, ha] at h
      exact ⟨(exec_spdAccess r up).trans (if_neg hno), (exec_spdAliasUpdate r up).trans (if_neg hno)⟩
    · exact (exec_spdAliasUpdate r up).trans (if_pos ⟨hw, ha⟩)
    · exact (exec_spdAccess r up).trans (if_pos ⟨hw, ha⟩)
  case request =>
    intro s r up b hg
    exact ⟨State.spdAccess_unmapped hg, State.spdAccess_wait hg, State.spdAccess_deny hg, fun hc hw => (State.spdAccess_ok hg hc).trans (State.spdServe_write hw)⟩
  case read => exact (State.spdAccess_ok hg hc).trans (State.spdServe_read hr hx)
  case own =>
    intro s bd bank e req
    refine ⟨exec_spdOwnWrite_denied, fun hw h1 => ?_, fun hw h1 => ?_⟩
    · exact (if_neg (by simp [hw])).trans (if_pos h1)
    · exact (if_neg (by simp [hw])).trans (if_neg h1)
  case denial => exact fun s bank req addr own => ⟨s.spdDeny_bank bank req addr own, s.spdDeny_ownWr bank req addr own, rfl, s.spdDeny_leaves bank req addr own⟩
  case handover =>
    rintro s t u bd bank req b after rfl h1 rfl rfl rfl
    refine ⟨fun hm hb => if_pos ⟨h1, hm, hb⟩, fun h => exec_spdHandoverCommit_stays (.inr h), fun hw => ?_, exec_spdHandoverAbort_denied⟩
    exact (if_neg (by simp [hw])).trans (if_pos h1)
  case idle =>
    intro s bd bank req h1
    refine ⟨exec_spdHandoverCommit_stays (.inl h1), ?_⟩
    cases hw : s.spdWriter (bd.val * 64 + bank.val) req.toNat with
    | true => exact exec_spdHandoverAbort_idle h1 hw
    | false => exact exec_spdHandoverAbort_denied hw
  case inv =>
    intro s bd bank cls unit req u
    refine ⟨?_, ?_, rfl⟩
    · split_ifs with hw
      · exact if_pos hw
      · exact if_neg hw
    · change execEccInv bd cls unit req s = _
      unfold execEccInv
      cases isMgmt req.toNat <;> rfl
  case word =>
    intro s a u w h8 hu
    refine ⟨?_, fun b v k hb8 hv hne => ?_⟩
    · rw [State.word_invalidate, inUnit_of_unitOf h8 hu]
      simp
    · rw [State.word_invalidate, inUnit_of_unitOf hb8 hv]
      simp [hne]
  case start =>
    rintro s t bd c req k rfl rfl
    refine ⟨fun h => if_pos h, fun h => (if_neg h).trans ?_⟩
    split_ifs <;> rfl
  case go =>
    rintro s t k rfl
    rfl
  case stop =>
    rintro s bd c k rfl
    exact ⟨fun h => State.when_true _ _ (decide_eq_true h), fun h => State.when_false _ _ (decide_eq_false h)⟩
  case response =>
    rintro s t bd c k i more p rest hk ho hp rfl
    have hexec := exec_spdCopyResponse hk ho hp
    refine ⟨fun h => hexec.trans (if_pos h), fun h0 h2 => hexec.trans ?_, fun h0 h2 hr => hexec.trans ?_, fun u h0 h2 hr => hexec.trans ?_⟩
    · simp only [h0, h2, ne_eq, not_true_eq_false, if_false]
    · simp only [h0, h2, hr, ne_eq, not_true_eq_false, if_false, if_true]
    · simp only [h0, h2, hr, ne_eq, not_true_eq_false, if_false, if_true]
  case unawaited =>
    rintro s bd c k rfl
    change (_ → execSpdCopyResponse bd c s = _) ∧ (∀ i more, _ → _ → execSpdCopyResponse bd c s = _)
    unfold execSpdCopyResponse
    refine ⟨fun ho => ?_, fun i more ho hp => ?_⟩
    · simp only [ho]
      split <;> rfl
    · simp only [ho, hp]
  case chunk =>
    rintro s k i p la ws rfl rfl
    exact ⟨State.copyRead_waits, fun b => State.copyRead_denied, State.copyRead_ok⟩

end Sys2Proof.Machine
end

section
/-!
SUPPORT. What the scratchpad copy channels and the DMA channels of PCIe may write when they go on (R477 to R479, R533 to R535, R585): the memories' error
machinery, the channels' own registers, and the interrupt that their end signals. The harts and the debug module are not part of it.
-/

namespace Sys2Proof.Machine

variable {s t : State}

/-- The channels' own fields, those of the errors that only their reads find, and the interrupt's. -/
def ownChannelFields : List Field :=
  [Reg.ECC_UE_SPD, Reg.ECC_UE_FM, Reg.ECC_UE_MSP, Reg.LPX_ERR2_UE, Reg.SPD_DENY_COUNT, Reg.SPD_DENY_LAST_SRC, Reg.SPD_DENY_LAST_BANK,
    Reg.SPD_DENY_LAST_OWNWR, Reg.SPD_CPY_STAT_STATE, Reg.SPD_CPY_STAT_ERR, Reg.SPD_CPY_STAT_RSTATUS, Reg.SPD_CPY_DONE_BYTES, Reg.SPD_CPY_EADDR_ADDR,
    Reg.PCI_DMA_STAT_STATE, Reg.PCI_DMA_STAT_ERR, Reg.PCI_DMA_DONE_BYTES, Reg.PLIC_WAIT, Reg.PLIC_PEND]

/-- The fields that channels write when they go on. -/
def channelFields : List Field := ownChannelFields ++ (memFields ++ touchFields)

theorem mem_channelFields {f : Field} (h : f ∈ ownChannelFields) : f ∈ channelFields := List.mem_append_left _ h

/-- The parts that a copy channel writes. -/
def copyParts : List Part := [.events, .noc, .thy, .mem, .chip, .lpx, .mid]

/-- The parts that a DMA channel writes. -/
def dmaParts : List Part := [.events, .noc, .thy, .pcie]

/-! ### Reads of the memories -/

section
variable (h : Within copyParts (fun f => f ∈ channelFields) s t)
include h

theorem Within.memWrites {u : State} (hu : Within memParts (fun f => f ∈ memFields) t u) : Within copyParts (fun f => f ∈ channelFields) s u :=
  h.trans (hu.mono (by decide) (fun _ hf => List.mem_append_right _ (List.mem_append_left _ hf)))

theorem Within.spdTouch (a n : Nat) : Within copyParts (fun f => f ∈ channelFields) s (t.spdTouch a n) :=
  h.foldl (fun _ _ k => k.midTouch _ _ _ (by decide) (by decide) (fun _ hf => List.mem_append_right _ (List.mem_append_right _ hf))) _

theorem Within.spdDeny (bank req addr : Nat) (own : Bool) : Within copyParts (fun f => f ∈ channelFields) s (t.spdDeny bank req addr own) :=
  ((((h.satAdd _ _ _ (mem_channelFields (by simp [ownChannelFields]))).setR _ _ _ (mem_channelFields (by simp [ownChannelFields]))).setR _ _ _
    (mem_channelFields (by simp [ownChannelFields]))).setR _ _ _ (mem_channelFields (by simp [ownChannelFields]))).raise _ _ _ _ (by decide)

theorem Within.memUe (u w req : Nat) : Within copyParts (fun f => f ∈ channelFields) s (t.memUe u w req) := by
  have hraised := h.raise (unitEp u) 0x0102 4 (memDetail (unitAddr u w) (unitCls u) 0 req) (by decide)
  have hcount : Within copyParts (fun f => f ∈ channelFields) s ((t.raise (unitEp u) 0x0102 4 (memDetail (unitAddr u w) (unitCls u) 0 req)).ueCount u) :=
    .ite (hraised.satAdd _ _ _ (mem_channelFields (by simp [ownChannelFields]))) (.ite (hraised.satAdd _ _ _ (mem_channelFields (by simp [ownChannelFields])))
      (hraised.satAdd _ _ _ (mem_channelFields (by simp [ownChannelFields]))))
  exact hcount.memWrites (((Within.refl _).setR _ _ _ (by simp [memFields])).setR _ _ _ (by simp [memFields]))

theorem Within.rqPush (u w : Nat) (ue : Bool) : Within copyParts (fun f => f ∈ channelFields) s (t.rqPush u w ue) :=
  .ite (h.modChip _ (by decide)) (.ite h (h.modChip _ (by decide)))

theorem Within.unitRead (u w req : Nat) (up : Option Upset) : Within copyParts (fun f => f ∈ channelFields) s (t.unitRead u w req up).2 := by
  unfold State.unitRead
  dsimp only
  have hput := h.modMem (fun m => Map.set noWord m (unitAddr u w / 8) (upsetWord (t.word (unitAddr u w / 8)) up)) (by decide)
  split
  · exact h
  · split
    · exact hput
    · split
      · exact hput
      · exact hput
      · exact .ite hput ((hput.memWrites ((Within.refl _).memCe _ _ _ _)).rqPush _ _ _)
      · exact (hput.memUe _ _ _).rqPush _ _ _

theorem Within.lpxRead (n loc addr : Nat) (up : Option Upset) : Within copyParts (fun f => f ∈ channelFields) s (t.lpxRead n loc addr up).2 := by
  unfold State.lpxRead
  extract_lets k inl w0 v0 v x
  have hx : Within copyParts (fun f => f ∈ channelFields) s x := .ite (h.modMem _ (by decide)) h
  have hlast : ∀ y : State, Within copyParts (fun f => f ∈ channelFields) s y → Within copyParts (fun f => f ∈ channelFields) s (y.lpxElast n addr) :=
    fun y hy => hy.memWrites ((Within.refl y).setR _ _ _ (by simp [memFields]))
  split
  · exact hx
  · split
    · exact hx
    · exact hx
    · exact ((hlast _ (hx.memWrites ((Within.refl x).satAdd _ _ _ (by simp [memFields])))).raise _ _ _ _ (by decide)).modLpx _ (by decide)
    · exact ((hlast _ (hx.satAdd _ _ _ (mem_channelFields (by simp [ownChannelFields])))).raise _ _ _ _ (by decide)).modLpx _ (by decide)

theorem Within.readWord (a req : Nat) (up : Option Upset) : Within copyParts (fun f => f ∈ channelFields) s (t.readWord a req up).2 := by
  unfold State.readWord
  split
  · exact h.unitRead _ _ _ _
  · split
    · split
      · exact h.lpxRead _ _ _ _
      · exact h
    · split
      · exact h
      · exact h

theorem Within.readWords (a n req : Nat) (up : Option Upset) : Within copyParts (fun f => f ∈ channelFields) s (t.readWords a n req up).2 := by
  unfold State.readWords
  generalize List.range n = l
  suffices hl : ∀ (acc : List Rd × State), Within copyParts (fun f => f ∈ channelFields) s acc.2 → Within copyParts (fun f => f ∈ channelFields) s
      (l.foldl (fun acc j => (acc.1 ++ [(acc.2.readWord (a + 8 * j) req (if j = 0 then up else none)).1],
        (acc.2.readWord (a + 8 * j) req (if j = 0 then up else none)).2)) acc).2 from hl ([], t) h
  induction l with
  | nil => exact fun _ hacc => hacc
  | cons j l ih => exact fun acc hacc => ih _ (hacc.readWord _ _ _)

end

/-! ### Requests into the network -/

theorem Within.sendRead {ps : List Part} {W : Field → Prop} (h : Within ps W s t) (src addr size prio tag : Nat) (flow : Option Nat) (hn : Part.noc ∈ ps)
    (ht : Part.thy ∈ ps) (he : Part.events ∈ ps) : Within ps W s (t.sendRead src addr size prio tag flow).1 := by
  unfold State.sendRead
  split
  · exact h.ingress _ hn ht he
  · exact h.raise _ _ _ _ he

theorem Within.sendWrite {ps : List Part} {W : Field → Prop} (h : Within ps W s t) (src addr size data prio tag : Nat) (flow : Option Nat) (poison : Bool)
    (hn : Part.noc ∈ ps) (ht : Part.thy ∈ ps) (he : Part.events ∈ ps) :
    Within ps W s (t.sendWrite src addr size data prio tag flow poison).1 := by
  unfold State.sendWrite
  split
  · exact h.ingress _ hn ht he
  · exact h.raise _ _ _ _ he

/-! ### Copy channels (R476 to R479) -/

section
variable (h : Within copyParts (fun f => f ∈ channelFields) s t)
include h

theorem Within.cpySt (k v : Nat) : Within copyParts (fun f => f ∈ channelFields) s (t.cpySt k v) :=
  h.enterSt _ _ _ _ _ (mem_channelFields (by simp [ownChannelFields])) (mem_channelFields (by simp [ownChannelFields])) (mem_channelFields (by simp [ownChannelFields]))

theorem Within.modCopy (k : Nat) (f : CopyCh → CopyCh) : Within copyParts (fun f => f ∈ channelFields) s (t.modCopy k f) := h.modChip _ (by decide)

theorem Within.copyFail (k err rstatus done eaddr : Nat) : Within copyParts (fun f => f ∈ channelFields) s (t.copyFail k err rstatus done eaddr) :=
  ((((((h.cpySt k 4).setR _ _ _ (mem_channelFields (by simp [ownChannelFields]))).setR _ _ _ (mem_channelFields (by simp [ownChannelFields]))).setR _ _ _ (mem_channelFields (by simp [ownChannelFields]))).setR _ _ _
    (mem_channelFields (by simp [ownChannelFields]))).modCopy _ _).raise _ _ _ _ (by decide)

end

theorem Within.copySent {r : State × Bool} (h : Within copyParts (fun f => f ∈ channelFields) s r.1) (k i ra : Nat) :
    Within copyParts (fun f => f ∈ channelFields) s (copySent r k i ra) := .ite (h.modCopy _ _) (h.copyFail _ _ _ _ _)

section
variable (h : Within copyParts (fun f => f ∈ channelFields) s t)
include h

theorem Within.copyWrite (k i la : Nat) (ws : List Rd) : Within copyParts (fun f => f ∈ channelFields) s (t.copyWrite k i la ws) := by
  unfold State.copyWrite
  split
  · exact h.copyFail _ _ _ _ _
  · exact Within.copySent (h.sendWrite _ _ _ _ _ _ _ _ (by decide) (by decide) (by decide)) _ _ _

theorem Within.copyOut (k i la n req : Nat) : Within copyParts (fun f => f ∈ channelFields) s (t.copyOut k i la n req) := by
  unfold State.copyOut
  split
  · exact ((h.spdTouch _ _).readWords _ _ _ _).copyWrite _ _ _ _
  · exact (h.spdDeny _ _ _ _).copyFail _ _ _ _ _
  · exact h.copyFail _ _ _ _ _
  · exact h

theorem Within.copyIssue (k : Nat) : Within copyParts (fun f => f ∈ channelFields) s (t.copyIssue k) :=
  .ite (h.copyOut _ _ _ _ _) (Within.copySent (h.sendRead _ _ _ _ _ _ (by decide) (by decide) (by decide)) _ _ _)

theorem Within.copyGo (k : Nat) : Within copyParts (fun f => f ∈ channelFields) s (t.copyGo k) := by
  unfold State.copyGo
  have hsent : Within copyParts (fun f => f ∈ channelFields) s ((List.range 4).foldl (fun t _ => if t.copyMay k then t.copyIssue k else t) t) :=
    h.foldl (fun _ _ x => .ite (x.copyIssue k) x) _
  exact .ite (.ite (hsent.cpySt k 6) (.ite ((hsent.cpySt k 2).setR _ _ _ (mem_channelFields (by simp [ownChannelFields]))) hsent)) hsent

end

/-! ### DMA channels (R533 to R535) -/

section
variable (h : Within dmaParts (fun f => f ∈ channelFields) s t)
include h

theorem Within.modDma (c : Nat) (f : PcieDma → PcieDma) : Within dmaParts (fun f => f ∈ channelFields) s (t.modDma c f) := h.modPcie _ (by decide)

theorem Within.dmaEnd (c st : Nat) (irq : Bool) : Within dmaParts (fun f => f ∈ channelFields) s (t.dmaEnd c st irq) := by
  have hend := ((h.setR Reg.PCI_DMA_STAT_STATE c st (mem_channelFields (by simp [ownChannelFields]))).modDma c (fun k => { dma0 with starter := k.starter })).irqEdge (404 + c)
    (mem_channelFields (by simp [ownChannelFields])) (mem_channelFields (by simp [ownChannelFields]))
  exact .ite (hend.msix _ _ (by decide)) hend

theorem Within.dmaFail (c err : Nat) : Within dmaParts (fun f => f ∈ channelFields) s (t.dmaFail c err) :=
  ((h.setR _ _ _ (mem_channelFields (by simp [ownChannelFields]))).raise _ _ _ _ (by decide)).dmaEnd _ _ _

theorem Within.dmaIssue (c : Nat) : Within dmaParts (fun f => f ∈ channelFields) s (t.dmaIssue c) := by
  have hsent := h.sendRead pcieEp (t.dmaLocal c (t.dma c).next) (t.dmaLen c (t.dma c).next) (t.getR Reg.PCI_DMA_CFG_PRIO c)
    (dmaTag c (t.dma c).next) none (by decide) (by decide) (by decide)
  exact .ite (h.modDma _ _) (.ite (hsent.modDma _ _) (hsent.modDma _ _))

theorem Within.dmaPass (c : Nat) : Within dmaParts (fun f => f ∈ channelFields) s (t.dmaPass c) := by
  unfold State.dmaPass
  dsimp only
  split
  · exact h
  · split
    · exact h
    · next e _ =>
      have hready := h.modDma c (fun k => { k with ready := k.ready.filter (fun e => !decide (e.1 = t.dmaDone c)) })
      have hsent := fun data => hready.sendWrite pcieEp (t.dmaLocal c (t.dmaDone c)) (t.dmaLen c (t.dmaDone c)) data (t.getR Reg.PCI_DMA_CFG_PRIO c)
        (dmaTag c (t.dmaDone c)) none false (by decide) (by decide) (by decide)
      exact .ite (hready.dmaFail _ _) (.ite (.ite ((hsent _).modDma _ _) ((hsent _).dmaFail _ _))
        ((hready.modPcie _ (by decide)).setR _ _ _ (mem_channelFields (by simp [ownChannelFields]))))

theorem Within.dmaFinish (c : Nat) : Within dmaParts (fun f => f ∈ channelFields) s (t.dmaFinish c) :=
  .ite h (.ite (h.dmaFail _ _) (.ite (h.dmaEnd _ _ _) (.ite (h.dmaEnd _ _ _) h)))

theorem Within.dmaGo (c : Nat) : Within dmaParts (fun f => f ∈ channelFields) s (t.dmaGo c) :=
  ((h.foldl (fun _ _ k => k.dmaPass c) _).dmaFinish c).foldl (fun _ _ k => .ite (k.dmaIssue c) k) _

end

end Sys2Proof.Machine
end

section
/-!
SUPPORT. Key sequences, harts and watchdogs (R563 to R568, R583 to R585): what the pause of a watchdog, a resumed or reset hart, and the end of a debug session may write, and
what the harts' halts read after them.
-/

namespace Sys2Proof.Machine

variable {ps : List Part} {W : Field → Prop} {s t : State}

/-- A list with a number in it, and without it. -/
theorem contains_listed (l : List Nat) (n : Nat) (on : Bool) : (listed l n on).contains n = on := by
  cases on with
  | false => simp [listed]
  | true =>
    by_cases h : n ∈ l <;> simp [listed, h]

theorem State.flag_congr {f : Field} {i : Nat} (h : t.getR f i = s.getR f i) : t.flag f i = s.flag f i :=
  congrArg (fun v => decide (v = 1)) h

theorem State.keyTimeout_eq (s : State) (q : Nat) : s.keyTimeout q = if 64 * 512 < s.keyAge q then s.setR Reg.KEY_STAGE q 0 else s := by
  simp [State.keyTimeout, State.keyLate, State.keyIdle]

/-! ### Watchdogs (R563, R564) -/

/-- The fields that a watchdog's pause writes. -/
def wdtFields : List Field := [Reg.CTL_WDT_STAT_COUNT, Reg.WDT_T, Reg.CTL_WDT_STAT_PAUSED]

theorem State.wdtEval_within (s : State) (w : Nat) : Within [] (fun f => f ∈ wdtFields) s (s.wdtEval w) :=
  have hcount : ∀ v, Within [] (fun f => f ∈ wdtFields) s (s.putCount w v) := fun v =>
    ((Within.refl s).setR _ _ _ (by simp [wdtFields])).setR _ _ _ (by simp [wdtFields])
  .ite ((hcount _).setR _ _ _ (by simp [wdtFields])) (.ite ((hcount _).setR _ _ _ (by simp [wdtFields])) (.refl s))

theorem State.wdtEvalAll_within (s : State) : Within [] (fun f => f ∈ wdtFields) s s.wdtEvalAll :=
  (Within.refl s).foldl (fun u w h => h.trans (u.wdtEval_within w)) _

/-! ### What a halt froze goes on (R585) -/

/-- The parts that channels write when they go on. -/
def runParts : List Part := [.events, .noc, .thy, .mem, .chip, .lpx, .mid, .pcie]

theorem State.unfreeze_within (s : State) : Within runParts (fun f => f ∈ channelFields) s s.unfreeze := by
  have hcopies : Within runParts (fun f => f ∈ channelFields) s
      ((List.range 32).foldl (fun u k => if u.getR Reg.SPD_CPY_STAT_STATE k = 1 then u.copyGo k else u) s) :=
    (Within.refl s).foldl (fun u k h => .ite (h.trans (((Within.refl u).copyGo k).mono (by decide) (fun _ hf => hf))) h) _
  exact hcopies.foldl (fun u c h => .ite (h.trans (((Within.refl u).dmaGo c).mono (by decide) (fun _ hf => hf))) h) _

/-- With no channel running nothing goes on. -/
theorem State.unfreeze_idle (hc : ∀ k < 32, s.getR Reg.SPD_CPY_STAT_STATE k ≠ 1) (hd : ∀ c < 8, s.getR Reg.PCI_DMA_STAT_STATE c ≠ 1) : s.unfreeze = s := by
  have hcopies : ∀ l : List Nat, (∀ k ∈ l, s.getR Reg.SPD_CPY_STAT_STATE k ≠ 1)
      → l.foldl (fun u k => if u.getR Reg.SPD_CPY_STAT_STATE k = 1 then u.copyGo k else u) s = s := by
    intro l hl
    induction l with
    | nil => rfl
    | cons k l ih =>
      obtain ⟨hk, hl⟩ := List.forall_mem_cons.mp hl
      rw [List.foldl_cons, if_neg hk, ih hl]
  have hdmas : ∀ l : List Nat, (∀ c ∈ l, s.getR Reg.PCI_DMA_STAT_STATE c ≠ 1)
      → l.foldl (fun u c => if u.getR Reg.PCI_DMA_STAT_STATE c = 1 then u.dmaGo c else u) s = s := by
    intro l hl
    induction l with
    | nil => rfl
    | cons c l ih =>
      obtain ⟨hk, hl⟩ := List.forall_mem_cons.mp hl
      rw [List.foldl_cons, if_neg hk, ih hl]
  unfold State.unfreeze
  rw [hcopies _ (fun k hk => hc k (List.mem_range.mp hk))]
  exact hdmas _ (fun c hk => hd c (List.mem_range.mp hk))

/-! ### A hart that resumes (R567) -/

/-- A halted hart runs again, before its watchdog and the channels that it froze go on. -/
def State.hartRuns (s : State) (n : Nat) : State :=
  (((s.setR Reg.HART_HALT n 0).setR Reg.HART_RESV n 0).hregsDrop n).modDbg (fun d => { d with resumeack := listed d.resumeack n true })

theorem State.hartResume_halted {n : Nat} (h : s.flag Reg.HART_HALT n = true) : s.hartResume n = ((s.hartRuns n).wdtEval n).unfreeze := if_pos h

theorem State.hartResume_running {n : Nat} (h : s.flag Reg.HART_HALT n = false) : s.hartResume n = s := if_neg (by simp [h])

/-- The fields that channels and watchdogs write when a hart runs again. -/
def goOnFields : List Field := wdtFields ++ channelFields

theorem State.goesOn_within (s : State) (n : Nat) : Within runParts (fun f => f ∈ goOnFields) s (s.wdtEval n).unfreeze :=
  ((s.wdtEval_within n).mono (by simp) (fun _ hf => List.mem_append_left _ hf)).trans
    ((State.unfreeze_within _).mono (fun _ hp => hp) (fun _ hf => List.mem_append_right _ hf))

/-- The fields that a hart's resumption writes. -/
def resumeFields : List Field := [Reg.HART_HALT, Reg.HART_RESV] ++ goOnFields

theorem State.hartResume_within (s : State) (n : Nat) : Within (.dbg :: runParts) (fun f => f ∈ resumeFields) s (s.hartResume n) := by
  have hruns : Within (.dbg :: runParts) (fun f => f ∈ resumeFields) s (s.hartRuns n) :=
    (((Within.refl s).setR _ _ _ (by simp [resumeFields])).setR _ _ _ (by simp [resumeFields])).modDbg _ (by decide) |>.modDbg _ (by decide)
  exact .ite (hruns.trans (((s.hartRuns n).goesOn_within n).mono (by decide) (fun _ hf => List.mem_append_right _ hf))) (.refl s)

theorem State.getR_halt_goesOn (s : State) (n m : Nat) : ((s.wdtEval n).unfreeze).getR Reg.HART_HALT m = s.getR Reg.HART_HALT m :=
  (s.goesOn_within n).getR_eq _ _ (by decide)

theorem State.flag_halt_hartResume (s : State) (n m : Nat) :
    (s.hartResume n).flag Reg.HART_HALT m = (s.flag Reg.HART_HALT m && decide (m ≠ n)) := by
  cases h : s.flag Reg.HART_HALT n with
  | false =>
    rw [State.hartResume_running h]
    by_cases hm : m = n
    · simp [hm, h]
    · simp [hm]
  | true =>
    rw [State.hartResume_halted h, State.flag, State.getR_halt_goesOn]
    change decide (((s.setR Reg.HART_HALT n 0).setR Reg.HART_RESV n 0).getR Reg.HART_HALT m = 1) = _
    rw [State.getR_setR_id _ _ _ _ _ _ (by decide)]
    by_cases hm : m = n
    · rw [hm, State.getR_setR_self]
      simp [Field.norm]
    · rw [State.getR_setR_ix _ _ _ _ _ _ hm]
      simp [State.flag, hm]

/-- Of the harts of a list none is halted after each has been resumed. -/
theorem State.flag_halt_resumeAll (s : State) (l : List Nat) (m : Nat) :
    (l.foldl (fun u n => u.hartResume n) s).flag Reg.HART_HALT m = (s.flag Reg.HART_HALT m && decide (m ∉ l)) := by
  induction l generalizing s with
  | nil => simp
  | cons n l ih =>
    rw [List.foldl_cons, ih, State.flag_halt_hartResume]
    simp [Bool.and_assoc]

/-! ### The end of a session (R574) -/

/-- The grant, the exchange and the mask of a session are gone. -/
def State.sessionCleared (s : State) : State :=
  ((s.setR Reg.DBG_GRANTED 0 0).modDbg (fun d =>
    { d with forming := false, verifying := false, nonce := none, nonceLeft := 0, grantLeft := 0, result := 0 })).setR Reg.DBG_SESS_MASK 0 0

/-- An open session's end: what it held is gone, and the halted harts resume. -/
def State.sessionEnded (s : State) : State := (List.range 6).foldl (fun u n => u.hartResume n) s.sessionCleared

theorem State.sessionClose_open (h : s.getR Reg.DBG_SESS_STATE 0 ≠ 0) : s.sessionClose =
    (((s.sessionEnded.setR Reg.DBG_SESS_STATE 0 0).wdtEvalAll).raise debugEp 0x0F06 0 (dbgDetail 0 s.transport)).irqEdge 11 := if_neg h

theorem State.sessionClose_none (h : s.getR Reg.DBG_SESS_STATE 0 = 0) : s.sessionClose = s := if_pos h

/-- The fields that the end of a session writes. -/
def sessionFields : List Field := [Reg.DBG_GRANTED, Reg.DBG_SESS_MASK, Reg.DBG_SESS_STATE] ++ resumeFields

theorem State.sessionCleared_within (s : State) :
    Within [.dbg] (fun f => f ∈ [Reg.DBG_GRANTED, Reg.DBG_SESS_MASK]) s s.sessionCleared :=
  (((Within.refl s).setR _ _ _ (by simp)).modDbg _ (by decide)).setR _ _ _ (by simp)

theorem State.sessionEnded_within (s : State) : Within (.dbg :: runParts) (fun f => f ∈ sessionFields) s s.sessionEnded :=
  (s.sessionCleared_within.mono (by decide) (fun f hf => List.mem_append_left resumeFields
    (show f ∈ [Reg.DBG_GRANTED, Reg.DBG_SESS_MASK] ++ [Reg.DBG_SESS_STATE] from List.mem_append_left _ hf))).foldl
    (fun u n h => h.trans ((u.hartResume_within n).mono (fun _ hp => hp) (fun _ hf => List.mem_append_right _ hf))) _

/-- What a session's end does after its state word: the watchdogs' pause, the event and the interrupt. -/
theorem State.sessionClose_after (h : s.getR Reg.DBG_SESS_STATE 0 ≠ 0) : Within [.events] (fun f => f ∈ wdtFields ++ [Reg.PLIC_PEND, Reg.PLIC_WAIT])
    (s.sessionEnded.setR Reg.DBG_SESS_STATE 0 0) s.sessionClose := by
  rw [State.sessionClose_open h]
  exact (((State.wdtEvalAll_within _).mono (by simp) (fun _ hf => List.mem_append_left _ hf)).raise _ _ _ _ (by decide)).irqEdge _
    (by simp [wdtFields]) (by simp [wdtFields])

theorem State.sessionClose_within (s : State) : Within (.dbg :: runParts) (fun f => f ∈ sessionFields) s s.sessionClose := by
  have hmem : ∀ f ∈ goOnFields, f ∈ sessionFields := fun _ hf => List.mem_append_right _ (List.mem_append_right _ hf)
  have hplic : ∀ f ∈ ownChannelFields, f ∈ sessionFields := fun _ hf => hmem _ (List.mem_append_right _ (mem_channelFields hf))
  exact .ite (.refl s) ((((s.sessionEnded_within.setR _ _ _ (by simp [sessionFields])).trans
    ((State.wdtEvalAll_within _).mono (by simp) (fun f hf => hmem f (List.mem_append_left _ hf)))).raise _ _ _ _ (by decide)).irqEdge _
    (hplic _ (by simp [ownChannelFields])) (hplic _ (by simp [ownChannelFields])))

end Sys2Proof.Machine
end

section
/-!
PROOF. The debug module's commands (R565 to R574, R583, R584): the key sequences that a halt returns to idle, an abstract command by what stops it, a system bus
access by what stops it, the end of a session, and a grant by its code.
-/

namespace Sys2Proof.Machine

variable {s t : State}

/-! ### The key sequences that a hart began (R584) -/

/-- Key sequence q returns to idle where hart n began it. -/
def State.abortKey (s : State) (n q : Nat) : State :=
  if s.keyStage q ≠ 0 ∧ s.getR Reg.KEY_REQ q = hartEp n then ((s.keyIdle q).seqAborted q).raise debugEp 0x0F0B 2 (dbgDetail n 0 0 0 (2 ^ q)) else s

theorem State.abortKeys_eq_foldl (s : State) (n : Nat) : s.abortKeys n = (List.range 16).foldl (fun u q => u.abortKey n q) s := rfl

/-- The fields that say which key sequences were ended. -/
def abortedFields : List Field :=
  [Reg.DBG_SEQ_ABORT_SVP, Reg.DBG_SEQ_ABORT_FORCE, Reg.DBG_SEQ_ABORT_SPATCH, Reg.DBG_SEQ_ABORT_DPATCH, Reg.DBG_SEQ_ABORT_NVM]

theorem State.seqAborted_within (s : State) (q : Nat) : Within [] (fun f => f ∈ abortedFields) s (s.seqAborted q) := by
  have hset : ∀ f v, f ∈ abortedFields → Within [] (fun f => f ∈ abortedFields) s (s.setR f 0 v) := fun f v hf => (Within.refl s).setR f 0 v hf
  exact .ite (hset _ _ (by simp [abortedFields])) (.ite (hset _ _ (by simp [abortedFields])) (.ite (hset _ _ (by simp [abortedFields]))
    (.ite (hset _ _ (by simp [abortedFields])) (hset _ _ (by simp [abortedFields])))))

theorem State.abortKey_within (s : State) (n q : Nat) : Within [.events] (fun f => f ∈ Reg.KEY_STAGE :: abortedFields) s (s.abortKey n q) :=
  .ite ((((Within.refl s).setR _ _ _ (by simp)).trans ((State.seqAborted_within _ q).mono (by simp) (fun _ hf => List.mem_cons_of_mem _ hf))).raise
    _ _ _ _ (by decide)) (.refl s)

theorem State.abortKeys_within (s : State) (n : Nat) : Within [.events] (fun f => f ∈ Reg.KEY_STAGE :: abortedFields) s (s.abortKeys n) :=
  (Within.refl s).foldl (fun u q h => h.trans (u.abortKey_within n q)) _

/-- The stage of a key sequence reads the clock and the sequence's own words. -/
theorem State.keyStage_congr {q : Nat} (hn : t.noc = s.noc) (ht : t.getR Reg.KEY_T q = s.getR Reg.KEY_T q)
    (hs : t.getR Reg.KEY_STAGE q = s.getR Reg.KEY_STAGE q) : t.keyStage q = s.keyStage q := by
  unfold State.keyStage State.keyLate State.keyAge State.clockNow
  rw [hn, ht, hs]

theorem State.keyStage_of_idle {q : Nat} (h : s.getR Reg.KEY_STAGE q = 0) : s.keyStage q = 0 := by
  simp [State.keyStage, h]

theorem State.keyStage_abortKey (s : State) (n p q : Nat) :
    (s.abortKey n p).keyStage q = if q = p ∧ s.getR Reg.KEY_REQ q = hartEp n then 0 else s.keyStage q := by
  unfold State.abortKey
  split
  · next h =>
    have hab : Within [.events] (fun f => f ∈ abortedFields) (s.keyIdle p)
        (((s.keyIdle p).seqAborted p).raise debugEp 0x0F0B 2 (dbgDetail n 0 0 0 (2 ^ p))) :=
      ((State.seqAborted_within _ p).mono (by simp) (fun _ hf => hf)).raise _ _ _ _ (by decide)
    rw [State.keyStage_congr (s := s.keyIdle p) (hab.part_eq .noc (by decide)) (hab.getR_eq _ _ (by decide)) (hab.getR_eq _ _ (by decide))]
    by_cases hq : q = p
    · rw [if_pos ⟨hq, hq ▸ h.2⟩]
      exact State.keyStage_of_idle (by rw [hq, State.keyIdle, State.getR_setR_self]; rfl)
    · rw [if_neg (fun hc => hq hc.1)]
      exact State.keyStage_congr rfl (State.getR_setR_id _ _ _ _ _ _ (by decide)) (State.getR_setR_ix _ _ _ _ _ _ hq)
  · next h =>
    by_cases hq : q = p ∧ s.getR Reg.KEY_REQ q = hartEp n
    · obtain ⟨rfl, hr⟩ := hq
      rw [if_pos ⟨rfl, hr⟩]
      exact not_not.mp fun h0 => h ⟨h0, hr⟩
    · rw [if_neg hq]

theorem State.keyStage_abortKeys_list (s : State) (n q : Nat) (l : List Nat) :
    (l.foldl (fun u p => u.abortKey n p) s).keyStage q = if q ∈ l ∧ s.getR Reg.KEY_REQ q = hartEp n then 0 else s.keyStage q := by
  induction l generalizing s with
  | nil => simp
  | cons p l ih =>
    have hreq : (s.abortKey n p).getR Reg.KEY_REQ q = s.getR Reg.KEY_REQ q := (s.abortKey_within n p).getR_eq _ _ (by decide)
    rw [List.foldl_cons, ih, hreq, State.keyStage_abortKey]
    by_cases hp : q = p
    · subst hp
      by_cases hr : s.getR Reg.KEY_REQ q = hartEp n <;> simp [hr]
    · simp [hp]

theorem State.keyStage_abortKeys (s : State) (n : Nat) {q : Nat} (hq : q < 16) :
    (s.abortKeys n).keyStage q = if s.getR Reg.KEY_REQ q = hartEp n then 0 else s.keyStage q := by
  rw [State.abortKeys_eq_foldl, State.keyStage_abortKeys_list]
  simp [hq]

/-- With no key sequence begun a halt ends none. -/
theorem State.abortKeys_idle (n : Nat) (h : ∀ q < 16, s.keyStage q = 0) : s.abortKeys n = s := by
  have hid : ∀ l : List Nat, (∀ q ∈ l, s.keyStage q = 0) → l.foldl (fun u q => u.abortKey n q) s = s := by
    intro l hl
    induction l with
    | nil => rfl
    | cons q l ih =>
      obtain ⟨hq, hl⟩ := List.forall_mem_cons.mp hl
      have hself : s.abortKey n q = s := if_neg (fun hc => hc.1 hq)
      rw [List.foldl_cons, hself, ih hl]
  exact hid _ (fun q hq => h q (List.mem_range.mp hq))

/-! ### A hart halts (R567, R583) -/

/-- A running hart has just halted: its reservation and the request for its halt are gone. -/
def State.hartStops (s : State) (n : Nat) : State :=
  ((s.setR Reg.HART_HALT n 1).setR Reg.HART_RESV n 0).modDbg (fun d => { d with haltreq := listed d.haltreq n false })

theorem State.hartStops_within (s : State) (n : Nat) : Within [.dbg] (fun f => f ∈ [Reg.HART_HALT, Reg.HART_RESV]) s (s.hartStops n) :=
  (((Within.refl s).setR _ _ _ (by simp)).setR _ _ _ (by simp)).modDbg _ (by decide)

/-- What a halt does to the key sequences and the watchdog. -/
theorem State.afterStop_within (s : State) (n : Nat) :
    Within [.events] (fun f => f ∈ (Reg.KEY_STAGE :: abortedFields) ++ wdtFields) s ((s.abortKeys n).wdtEval n) :=
  ((s.abortKeys_within n).mono (fun _ hp => hp) (fun _ hf => List.mem_append_left _ hf)).trans
    ((State.wdtEval_within _ n).mono (by simp) (fun _ hf => List.mem_append_right _ hf))

theorem State.keyStage_afterStop (s : State) (n : Nat) {q : Nat} (hq : q < 16) :
    (((s.hartStops n).abortKeys n).wdtEval n).keyStage q = if s.getR Reg.KEY_REQ q = hartEp n then 0 else s.keyStage q := by
  have hstop := s.hartStops_within n
  have hwdt := ((s.hartStops n).abortKeys n).wdtEval_within n
  rw [State.keyStage_congr (hwdt.part_eq .noc (by decide)) (hwdt.getR_eq _ _ (by decide)) (hwdt.getR_eq _ _ (by decide)), State.keyStage_abortKeys _ _ hq,
    hstop.getR_eq _ _ (by decide), State.keyStage_congr (hstop.part_eq .noc (by decide)) (hstop.getR_eq _ _ (by decide)) (hstop.getR_eq _ _ (by decide))]

theorem exec_dmHartHalted (n : Fin 6) : exec (.dmHartHalted n) s =
    s.when (s.flag Reg.HART_RUN n && !s.flag Reg.HART_HALT n) (((s.hartStops n).abortKeys n).wdtEval n) := rfl

theorem exec_dmHartHalted_runs {n : Fin 6} (h : s.flag Reg.HART_RUN n = true ∧ s.flag Reg.HART_HALT n = false) :
    exec (.dmHartHalted n) s = .next (((s.hartStops n).abortKeys n).wdtEval n) :=
  (exec_dmHartHalted n).trans (State.when_true _ _ (by simp [h]))

theorem exec_dmHartHalted_stays {n : Fin 6} (h : s.flag Reg.HART_RUN n = false ∨ s.flag Reg.HART_HALT n = true) : exec (.dmHartHalted n) s = .next s :=
  (exec_dmHartHalted n).trans (State.when_false _ _ (by rcases h with h | h <;> simp [h]))

/-! ### Abstract commands (R565, R569) -/

/-- A command that no hart supports. -/
abbrev unsupported (n cmd : Nat) : Prop :=
  cmd / 2 ^ 24 ≠ 0 ∨ nbit cmd 19 = true ∨ (nbit cmd 17 = true ∧ cmd / 2 ^ 20 % 8 ≠ if n < 4 then 3 else 2)

/-- The command register holds a command. -/
abbrev State.commanded (s : State) (cmd : Nat) : State := s.modDbg (fun d => { d with command := cmd })

/-- What an abstract command that may run does: its transfer, then the program buffer. -/
def State.cmdRuns (s : State) (cmd : Nat) (exc : Bool) : State :=
  let t := if nbit cmd 17 then (s.commanded cmd).transfer s.dbg.hartsel (cmd % 65536) (nbit cmd 16) else s.commanded cmd
  if nbit cmd 18 then
    let u := (t.hregsDrop s.dbg.hartsel).setR Reg.HART_RESV s.dbg.hartsel 0
    if exc then u.cmderr 3 else u
  else t

theorem State.abstractCmd_held {cmd : Nat} {exc : Bool} (h : s.dbg.cmderr ≠ 0) : s.abstractCmd cmd exc = s := if_pos h

/-- An abstract command by the first of its checks that fails. -/
theorem State.abstractCmd_eq {cmd : Nat} (exc : Bool) (hcmd : cmd < 2 ^ 32) (h0 : s.dbg.cmderr = 0) : s.abstractCmd cmd exc =
    if unsupported s.dbg.hartsel cmd then (s.commanded cmd).cmderr 2
    else if s.dbg.hartsel ≥ 6 ∨ s.flag Reg.HART_RUN s.dbg.hartsel = false then (s.commanded cmd).cmderr 4
    else if s.flag Reg.HART_HALT s.dbg.hartsel = false
        ∧ (nbit cmd 16 || nbit cmd 18 || !nbit cmd 17 || !counterReg (cmd % 65536) || decide (4 ≤ s.dbg.hartsel)) = true then (s.commanded cmd).cmderr 4
    else if nbit cmd 17 = true ∧ hartReg s.dbg.hartsel (cmd % 65536) = false then (s.commanded cmd).cmderr 3
    else s.cmdRuns cmd exc := by
  have hbyte : cmd / 2 ^ 24 % 256 = cmd / 2 ^ 24 := Nat.mod_eq_of_lt (by omega)
  have hgo : s.abstractCmd cmd exc = _ := if_neg (not_not.mpr h0)
  rw [hgo, hbyte]
  rfl

section
variable {cmd : Nat} {exc : Bool} (hcmd : cmd < 2 ^ 32) (h0 : s.dbg.cmderr = 0)
include hcmd h0

theorem State.abstractCmd_unsupported (hu : unsupported s.dbg.hartsel cmd) : s.abstractCmd cmd exc = (s.commanded cmd).cmderr 2 := by
  rw [State.abstractCmd_eq exc hcmd h0, if_pos hu]

variable (hu : ¬ unsupported s.dbg.hartsel cmd)
include hu

theorem State.abstractCmd_noHart (hn : 6 ≤ s.dbg.hartsel ∨ s.flag Reg.HART_RUN s.dbg.hartsel = false) :
    s.abstractCmd cmd exc = (s.commanded cmd).cmderr 4 := by
  rw [State.abstractCmd_eq exc hcmd h0, if_neg hu, if_pos hn]

variable (hn : s.dbg.hartsel < 6) (hrun : s.flag Reg.HART_RUN s.dbg.hartsel = true)
include hn hrun

theorem State.abstractCmd_running (hhalt : s.flag Reg.HART_HALT s.dbg.hartsel = false) (hbad : nbit cmd 16 = true ∨ nbit cmd 18 = true ∨ nbit cmd 17 = false
    ∨ counterReg (cmd % 65536) = false ∨ 4 ≤ s.dbg.hartsel) : s.abstractCmd cmd exc = (s.commanded cmd).cmderr 4 := by
  rw [State.abstractCmd_eq exc hcmd h0, if_neg hu, if_neg (by simp [hrun, hn]), if_pos ⟨hhalt, by simpa [or_assoc] using hbad⟩]

variable (hok : s.flag Reg.HART_HALT s.dbg.hartsel = true ∨ (nbit cmd 16 = false ∧ nbit cmd 18 = false ∧ nbit cmd 17 = true
  ∧ counterReg (cmd % 65536) = true ∧ s.dbg.hartsel < 4))
include hok

theorem State.abstractCmd_meetsHart : s.abstractCmd cmd exc =
    if nbit cmd 17 = true ∧ hartReg s.dbg.hartsel (cmd % 65536) = false then (s.commanded cmd).cmderr 3 else s.cmdRuns cmd exc := by
  rw [State.abstractCmd_eq exc hcmd h0, if_neg hu, if_neg (by simp [hrun, hn]), if_neg]
  rcases hok with h | ⟨h16, h18, h17, hc, h4⟩
  · simp [h]
  · simp [h16, h18, h17, hc, h4]

theorem State.abstractCmd_noReg (h17 : nbit cmd 17 = true) (hr : hartReg s.dbg.hartsel (cmd % 65536) = false) :
    s.abstractCmd cmd exc = (s.commanded cmd).cmderr 3 := by
  rw [State.abstractCmd_meetsHart hcmd h0 hu hn hrun hok, if_pos ⟨h17, hr⟩]

theorem State.abstractCmd_runs (hr : nbit cmd 17 = true → hartReg s.dbg.hartsel (cmd % 65536) = true) : s.abstractCmd cmd exc = s.cmdRuns cmd exc := by
  rw [State.abstractCmd_meetsHart hcmd h0 hu hn hrun hok, if_neg (fun hc => by simp [hr hc.1] at hc)]

end

/-! ### Transfers (R565) -/

/-- A write of a core's register other than zero and dcsr keeps the two data words. -/
theorem State.transfer_write {n r : Nat} (hn : n < 4) (h0 : r ≠ 0x1000) (hd : r ≠ 0x7B0) : s.transfer n r true =
    s.modDbg (fun d => { d with hregs := Map.put d.hregs (n * 65536 + r) (Map.get 0 s.dbg.data 0 + Map.get 0 s.dbg.data 1 * 2 ^ 32) }) := by
  simp [State.transfer, hn, h0, hd, hartNorm]

/-- A read of a halted core's register other than zero and dcsr. -/
theorem State.transfer_read {n r : Nat} (hn : n < 4) (h0 : r ≠ 0x1000) (hd : r ≠ 0x7B0) (hh : s.flag Reg.HART_HALT n = true) : s.transfer n r false =
    s.draw.modDbg (fun d => { d with
      data := Map.set 0 (Map.set 0 d.data 0 (s.hartRead n r % 2 ^ 32)) 1 (s.hartRead n r / 2 ^ 32 % 2 ^ 32)
      hregs := Map.put d.hregs (n * 65536 + r) (s.hartRead n r) }) := by
  simp [State.transfer, hn, h0, hd, hh, hartNorm]

theorem State.hartRead_of_some {n r v : Nat} (h0 : r ≠ 0x1000) (h : Map.find s.dbg.hregs (n * 65536 + r) = some v) : s.hartRead n r = v := by
  simp [State.hartRead, h0, h]

theorem State.hartRead_of_none {n r : Nat} (h0 : r ≠ 0x1000) (h : Map.find s.dbg.hregs (n * 65536 + r) = none) :
    s.hartRead n r = (Config.freeWord s.free).toNat := by
  simp [State.hartRead, h0, h]

/-! ### Access Register of a control core's general register (R565) -/

section
variable {r : Nat} {write : Bool}

/-- The command word of a 64-bit transfer of register r. -/
def accessReg (write : Bool) (r : Nat) : Nat := 3 * 2 ^ 20 + 2 ^ 17 + bit write * 2 ^ 16 + r

variable (hr : r < 0x1040)
include hr

theorem accessReg_reg : accessReg write r % 65536 = r := by
  cases write <;> simp [accessReg, bit] <;> omega

theorem nbit_accessReg_16 : nbit (accessReg write r) 16 = write := by
  cases write <;> simp [accessReg, bit, nbit] <;> omega

theorem nbit_accessReg_17 : nbit (accessReg write r) 17 = true := by
  cases write <;> simp [accessReg, bit, nbit] <;> omega

theorem nbit_accessReg_18 : nbit (accessReg write r) 18 = false := by
  cases write <;> simp [accessReg, bit, nbit] <;> omega

theorem accessReg_supported {n : Nat} (hn : n < 4) : ¬ unsupported n (accessReg write r) := by
  have h19 : nbit (accessReg write r) 19 = false := by
    cases write <;> simp [accessReg, bit, nbit] <;> omega
  have hsize : accessReg write r / 2 ^ 20 % 8 = 3 ∧ accessReg write r / 2 ^ 24 = 0 := by
    cases write <;> simp [accessReg, bit] <;> omega
  simp only [unsupported, h19, hsize, if_pos hn]
  simp

end

theorem hartReg_core {n r : Nat} (hn : n < 4) (hlo : 0x1000 < r) (hhi : r < 0x1040) : hartReg n r = true := by
  have h5 : ¬ n = 5 := by omega
  simp only [hartReg, if_neg h5, Bool.or_eq_true, Bool.and_eq_true, decide_eq_true_eq]
  omega

theorem exec_dmAbstractCommand {cmd : BitVec 32} (exc : Bool) (h : s.cmdAllowed cmd.toNat = true) :
    exec (.dmAbstractCommand cmd exc) s = .next (s.abstractCmd cmd.toNat exc) := State.when_true _ _ h

/-- A halted core's general register is transferred. -/
theorem exec_accessReg {cmd : BitVec 32} {r : Nat} {write : Bool} (exc : Bool) (hc : cmd.toNat = accessReg write r) (hl : s.level = 2) (h0 : s.dbg.cmderr = 0)
    (hn : s.dbg.hartsel < 4) (hrun : s.flag Reg.HART_RUN s.dbg.hartsel = true) (hhalt : s.flag Reg.HART_HALT s.dbg.hartsel = true)
    (hlo : 0x1000 < r) (hhi : r < 0x1040) :
    exec (.dmAbstractCommand cmd exc) s = .next ((s.commanded cmd.toNat).transfer s.dbg.hartsel r write) := by
  have hu : ¬ unsupported s.dbg.hartsel cmd.toNat := hc ▸ accessReg_supported hhi hn
  have hreg : cmd.toNat % 65536 = r := hc ▸ accessReg_reg hhi
  have h16 : nbit cmd.toNat 16 = write := hc ▸ nbit_accessReg_16 hhi
  have h17 : nbit cmd.toNat 17 = true := hc ▸ nbit_accessReg_17 hhi
  have h18 : nbit cmd.toNat 18 = false := hc ▸ nbit_accessReg_18 hhi
  refine (exec_dmAbstractCommand exc (by simp [State.cmdAllowed, hl])).trans (congrArg _ ?_)
  rw [State.abstractCmd_runs cmd.isLt h0 hu (by omega) hrun (.inl hhalt) (fun _ => hreg ▸ hartReg_core hn hlo hhi)]
  simp [State.cmdRuns, h16, h17, h18, hreg]

/-! ### How a system bus access starts (R566, R569) -/

section
variable (write peek : Bool)

theorem State.sbStart_held (h : s.dbg.sbBusyErr = true ∨ s.dbg.sberror ≠ 0) : s.sbStart write peek = s :=
  if_pos (by simpa using h)

variable (hb : s.dbg.sbBusyErr = false) (he : s.dbg.sberror = 0) (hsz : s.dbg.sbaccess ≤ 3)
include hb he hsz

theorem State.sbStart_misaligned (ha : s.dbg.sbaddr % 2 ^ s.dbg.sbaccess ≠ 0) : s.sbStart write peek = s.sbErr 3 := by
  simp only [State.sbStart, hb, he, Nat.not_lt.mpr hsz, ne_eq, not_true_eq_false, decide_false, Bool.or_self, Bool.false_eq_true, if_false]
  rw [if_pos ha]

variable (ha : s.dbg.sbaddr % 2 ^ s.dbg.sbaccess = 0)
include ha

theorem State.sbStart_level (hl : s.level ≠ 2) : s.sbStart true peek = s.sbErr 7 := by
  simp [State.sbStart, hb, he, Nat.not_lt.mpr hsz, ha, hl]

theorem State.sbStart_writes (hl : s.level = 2) : s.sbStart true peek =
    if (s.sendWrite debugEp s.dbg.sbaddr (2 ^ s.dbg.sbaccess) (s.dbg.sbdata % 2 ^ (8 * 2 ^ s.dbg.sbaccess)) 0 0 none).2
    then (s.sendWrite debugEp s.dbg.sbaddr (2 ^ s.dbg.sbaccess) (s.dbg.sbdata % 2 ^ (8 * 2 ^ s.dbg.sbaccess)) 0 0 none).1.modDbg
      (fun x => { x with sbBusy := some (true, s.dbg.sbaddr, 2 ^ s.dbg.sbaccess) })
    else (s.sendWrite debugEp s.dbg.sbaddr (2 ^ s.dbg.sbaccess) (s.dbg.sbdata % 2 ^ (8 * 2 ^ s.dbg.sbaccess)) 0 0 none).1.sbErr 2 := by
  simp only [State.sbStart, hb, he, Nat.not_lt.mpr hsz, ha, hl, ne_eq, not_true_eq_false, decide_false, Bool.or_self, Bool.and_false, Bool.false_eq_true,
    if_false, if_true]

theorem State.sbStart_reads : s.sbStart false peek =
    if (s.sendRead debugEp s.dbg.sbaddr (2 ^ s.dbg.sbaccess) 0 (if peek = true ∨ s.level ≠ 2 then 128 else 0) none).2
    then (s.sendRead debugEp s.dbg.sbaddr (2 ^ s.dbg.sbaccess) 0 (if peek = true ∨ s.level ≠ 2 then 128 else 0) none).1.modDbg
      (fun x => { x with sbBusy := some (false, s.dbg.sbaddr, 2 ^ s.dbg.sbaccess) })
    else (s.sendRead debugEp s.dbg.sbaddr (2 ^ s.dbg.sbaccess) 0 (if peek = true ∨ s.level ≠ 2 then 128 else 0) none).1.sbErr 2 := by
  simp only [State.sbStart, hb, he, Nat.not_lt.mpr hsz, ha, ne_eq, not_true_eq_false, decide_false, Bool.or_self, Bool.false_and, Bool.false_eq_true,
    if_false, Bool.or_eq_true, decide_eq_true_eq]

end

/-! ### The end of a session (R574) -/

theorem State.sessionEnded_idle (h : ∀ n < 6, s.flag Reg.HART_HALT n = false) : s.sessionEnded = s.sessionCleared := by
  have hid : ∀ l : List Nat, (∀ n ∈ l, n < 6) → l.foldl (fun u n => u.hartResume n) s.sessionCleared = s.sessionCleared := by
    intro l hl
    induction l with
    | nil => rfl
    | cons n l ih =>
      obtain ⟨hn, hl⟩ := List.forall_mem_cons.mp hl
      have hrun : s.sessionCleared.flag Reg.HART_HALT n = false :=
        (State.flag_congr (s.sessionCleared_within.getR_eq Reg.HART_HALT n (by decide))).trans (h n hn)
      rw [List.foldl_cons, State.hartResume_running hrun, ih hl]
  exact hid _ (fun n hn => List.mem_range.mp hn)

/-- After a session's end no hart is halted. -/
theorem State.flag_halt_sessionClose (h : s.getR Reg.DBG_SESS_STATE 0 ≠ 0) {n : Nat} (hn : n < 6) : s.sessionClose.flag Reg.HART_HALT n = false := by
  have hread : s.sessionClose.getR Reg.HART_HALT n = s.sessionEnded.getR Reg.HART_HALT n :=
    ((State.sessionClose_after h).getR_eq _ _ (by decide)).trans (State.getR_setR_id _ _ _ _ _ _ (by decide))
  rw [State.flag, hread]
  exact (State.flag_halt_resumeAll s.sessionCleared (List.range 6) n).trans (by simp [hn])

theorem State.sessionClose_state (h : s.getR Reg.DBG_SESS_STATE 0 ≠ 0) : s.sessionClose.getR Reg.DBG_SESS_STATE 0 = 0 :=
  ((State.sessionClose_after h).getR_eq _ _ (by decide)).trans (State.getR_setR_self _ _ _ _)

section
variable (h : s.getR Reg.DBG_SESS_STATE 0 ≠ 0) (hhalt : ∀ n < 6, s.flag Reg.HART_HALT n = false)
include h hhalt

/-- With no hart halted, what a session's end does after what it clears. -/
theorem State.sessionClose_afterClear : Within [.events] (fun f => f ∈ wdtFields ++ [Reg.PLIC_PEND, Reg.PLIC_WAIT])
    (s.sessionCleared.setR Reg.DBG_SESS_STATE 0 0) s.sessionClose :=
  State.sessionEnded_idle hhalt ▸ State.sessionClose_after h

theorem State.sessionClose_granted : s.sessionClose.getR Reg.DBG_GRANTED 0 = 0 := by
  rw [(State.sessionClose_afterClear h hhalt).getR_eq _ _ (by decide), State.getR_setR_id _ _ _ _ _ _ (by decide), State.sessionCleared,
    State.getR_setR_id _ _ _ _ _ _ (by decide)]
  exact State.getR_setR_self s Reg.DBG_GRANTED 0 0

theorem State.sessionClose_mask : s.sessionClose.getR Reg.DBG_SESS_MASK 0 = 0 := by
  rw [(State.sessionClose_afterClear h hhalt).getR_eq _ _ (by decide), State.getR_setR_id _ _ _ _ _ _ (by decide), State.sessionCleared,
    State.getR_setR_self]
  rfl

theorem State.sessionClose_dbg : s.sessionClose.dbg = s.sessionCleared.dbg :=
  (State.sessionClose_afterClear h hhalt).part_eq .dbg (by decide)

theorem State.sessionClose_mem : s.sessionClose.mem = s.mem :=
  ((State.sessionClose_afterClear h hhalt).part_eq .mem (by decide)).trans (s.sessionCleared_within.part_eq .mem (by decide))

theorem State.sessionClose_events :
    s.sessionClose.events = raiseIn s.events (evKey debugEp 0x0F06) s.time.toNat 0 (dbgDetail 0 s.transport % 2 ^ 128) := by
  have hwdt := (s.sessionCleared.setR Reg.DBG_SESS_STATE 0 0).wdtEvalAll_within
  have hev : (s.sessionCleared.setR Reg.DBG_SESS_STATE 0 0).wdtEvalAll.events = s.events := hwdt.part_eq .events (by decide)
  have htime : (s.sessionCleared.setR Reg.DBG_SESS_STATE 0 0).wdtEvalAll.time = s.time := hwdt.part_eq .time (by decide)
  have hplic := (Within.refl ((s.sessionCleared.setR Reg.DBG_SESS_STATE 0 0).wdtEvalAll.raise debugEp 0x0F06 0 (dbgDetail 0 s.transport))).irqEdge
    (ps := []) (W := fun f => f ∈ [Reg.PLIC_PEND, Reg.PLIC_WAIT]) 11 (by simp) (by simp)
  rw [State.sessionClose_open h, State.sessionEnded_idle hhalt]
  exact (hplic.part_eq .events (by decide)).trans (by rw [State.raise_events, hev, htime])

end

/-! ### Grants (R570 to R572) -/

/-- The fields that the level in effect reads. -/
theorem State.level_congr (hst : t.getR Reg.SGE_LCS_STATE 0 = s.getR Reg.SGE_LCS_STATE 0) (hret : t.getR Reg.SGE_LCS_RETURN 0 = s.getR Reg.SGE_LCS_RETURN 0)
    (hg : t.getR Reg.DBG_GRANTED 0 = s.getR Reg.DBG_GRANTED 0) : t.level = s.level := by
  unfold State.level State.defaultLevel State.flag
  rw [hst, hret, hg]

/-- The nonce has served its grant, and a mismatch of the named slot has been raised. -/
def State.grantTaken (s : State) (g : GrantFacts) : State := (s.modDbg (fun d => { d with nonce := none })).keyMismatch g.keysel g.hashed

theorem State.keyMismatch_raises (s : State) (n : Nat) (h : Bool) : Within [.events] (fun _ => False) s (s.keyMismatch n h) :=
  .ite ((Within.refl s).raise _ _ _ _ (by decide)) (.refl s)

theorem State.keyMismatch_dbg (s : State) (n : Nat) (h : Bool) : (s.keyMismatch n h).dbg = s.dbg :=
  (s.keyMismatch_raises n h).part_eq .dbg (by decide)

theorem State.grantTaken_getR (s : State) (g : GrantFacts) (f : Field) (i : Nat) : (s.grantTaken g).getR f i = s.getR f i :=
  (State.keyMismatch_raises _ _ _).getR_eq f i (fun _ h => h.elim)

theorem State.grantTaken_mem (s : State) (g : GrantFacts) : (s.grantTaken g).mem = s.mem :=
  (State.keyMismatch_raises _ _ _).part_eq .mem (by decide)

theorem State.grantTaken_nonce (s : State) (g : GrantFacts) : (s.grantTaken g).dbg.nonce = none := by
  rw [State.grantTaken, State.keyMismatch_dbg]
  rfl

theorem exec_authGrantResult (g : GrantFacts) : exec (.authGrantResult g) s =
    s.when s.dbg.verifying (if s.grantCode g = 0 then (s.grantTaken g).grantAccept g.level else (s.grantTaken g).grantReject (s.grantCode g)) := rfl

theorem exec_authGrantResult_accepts {g : GrantFacts} (hv : s.dbg.verifying = true) (h : s.grantCode g = 0) :
    exec (.authGrantResult g) s = .next ((s.grantTaken g).grantAccept g.level) :=
  ((exec_authGrantResult g).trans (State.when_true _ _ hv)).trans (congrArg _ (if_pos h))

theorem exec_authGrantResult_rejects {g : GrantFacts} (hv : s.dbg.verifying = true) (h : s.grantCode g ≠ 0) :
    exec (.authGrantResult g) s = .next ((s.grantTaken g).grantReject (s.grantCode g)) :=
  ((exec_authGrantResult g).trans (State.when_true _ _ hv)).trans (congrArg _ (if_neg h))

/-- An accepted grant's level and cleared count, before its result. -/
def State.granted (s : State) (level : Nat) : State :=
  ((if s.getR Reg.SGE_LCS_STATE 0 = 3 then s.setR Reg.SGE_LCS_RETURN 0 1 else s).setR Reg.DBG_GRANTED 0 level).setR Reg.DBG_SESS_FAILS 0 0

theorem State.grantAccept_eq (s : State) (level : Nat) : s.grantAccept level =
    (((s.granted level).authResult 0).wdtEvalAll).raise debugEp 0x0F07 0 (dbgDetail 0 s.transport (s.granted level).level) := rfl

theorem State.granted_within (s : State) (level : Nat) :
    Within [] (fun f => f ∈ [Reg.SGE_LCS_RETURN, Reg.DBG_GRANTED, Reg.DBG_SESS_FAILS]) s (s.granted level) :=
  ((Within.ite ((Within.refl s).setR _ _ _ (by simp)) (.refl s)).setR _ _ _ (by simp)).setR _ _ _ (by simp)

theorem State.granted_getR (s : State) (level : Fin 4) : (s.granted level).getR Reg.DBG_GRANTED 0 = level := by
  rw [State.granted, State.getR_setR_id _ _ _ _ _ _ (by decide), State.getR_setR_self]
  exact Field.norm_of_lt rfl level.isLt

theorem State.granted_returns (level : Nat) (h : s.getR Reg.SGE_LCS_STATE 0 = 3) : (s.granted level).getR Reg.SGE_LCS_RETURN 0 = 1 := by
  rw [State.granted, if_pos h, State.getR_setR_id _ _ _ _ _ _ (by decide), State.getR_setR_id _ _ _ _ _ _ (by decide), State.getR_setR_self]
  rfl

/-- What follows an accepted grant's fields and its result: the watchdogs' pause and the event. -/
theorem State.grantAccept_after (s : State) (level : Nat) :
    Within [.events] (fun f => f ∈ wdtFields) ((s.granted level).authResult 0) (s.grantAccept level) := by
  rw [State.grantAccept_eq]
  exact ((State.wdtEvalAll_within _).mono (by simp) (fun _ hf => hf)).raise _ _ _ _ (by decide)

theorem State.grantAccept_within (s : State) (level : Nat) :
    Within [.dbg, .events] (fun f => f ∈ wdtFields) (s.granted level) (s.grantAccept level) :=
  ((Within.refl _).modDbg _ (by decide)).trans ((s.grantAccept_after level).mono (by decide) (fun _ hf => hf))

theorem State.grantAccept_dbg (s : State) (level : Nat) : (s.grantAccept level).dbg = ((s.granted level).authResult 0).dbg :=
  (s.grantAccept_after level).part_eq .dbg (by decide)

theorem State.grantAccept_level (s : State) (level : Nat) : (s.grantAccept level).level = (s.granted level).level :=
  have h := s.grantAccept_within level
  State.level_congr (h.getR_eq _ _ (by decide)) (h.getR_eq _ _ (by decide)) (h.getR_eq _ _ (by decide))

/-- The count of rejections in a row, and whether it has come to four. -/
theorem State.grantReject_within (s : State) (code : Nat) :
    Within [.dbg, .events] (fun f => f ∈ [Reg.DBG_SESS_FAILS, Reg.DBG_LOCKED]) s (s.grantReject code) := by
  have hres : Within [.dbg, .events] (fun f => f ∈ [Reg.DBG_SESS_FAILS, Reg.DBG_LOCKED]) s (s.authResult code) := (Within.refl s).modDbg _ (by decide)
  have hcount := Within.ite (c := s.flag Reg.DBG_LOCKED 0 = true) hres (hres.satAdd Reg.DBG_SESS_FAILS 0 1 (by simp))
  exact (Within.ite (hcount.setR Reg.DBG_LOCKED 0 1 (by simp)) hcount).raise _ _ _ _ (by decide)

theorem State.grantReject_dbg (s : State) (code : Nat) : (s.grantReject code).dbg = (s.authResult code).dbg := by
  simp only [State.grantReject]
  split_ifs <;> rfl

/-- A rejection outside the lockout: the fourth in a row begins it. -/
theorem State.grantReject_counts {code : Nat} (hl : s.flag Reg.DBG_LOCKED 0 = false) :
    s.grantReject code = (if 4 ≤ ((s.authResult code).satAdd Reg.DBG_SESS_FAILS 0 1).getR Reg.DBG_SESS_FAILS 0
      then ((s.authResult code).satAdd Reg.DBG_SESS_FAILS 0 1).setR Reg.DBG_LOCKED 0 1
      else (s.authResult code).satAdd Reg.DBG_SESS_FAILS 0 1).raise debugEp 0x0F08 2 (dbgDetail 0 s.transport s.level code) := by
  have hcond : ¬ s.flag Reg.DBG_LOCKED 0 = true := by simp [hl]
  simp only [State.grantReject, if_neg hcond]

theorem State.getR_fails_counted (s : State) (code : Nat) (h : s.getR Reg.DBG_SESS_FAILS 0 ≤ 3) :
    ((s.authResult code).satAdd Reg.DBG_SESS_FAILS 0 1).getR Reg.DBG_SESS_FAILS 0 = s.getR Reg.DBG_SESS_FAILS 0 + 1 := by
  have hwidth : Reg.DBG_SESS_FAILS.width = 3 := rfl
  have hres : (s.authResult code).getR Reg.DBG_SESS_FAILS 0 = s.getR Reg.DBG_SESS_FAILS 0 := rfl
  rw [State.satAdd, State.getR_setR_self, hres, hwidth, Nat.min_eq_left (by omega), Field.norm_of_lt rfl (by rw [hwidth]; omega)]

theorem State.grantReject_fourth {code : Nat} (hl : s.flag Reg.DBG_LOCKED 0 = false) (h : s.getR Reg.DBG_SESS_FAILS 0 = 3) :
    (s.grantReject code).getR Reg.DBG_SESS_FAILS 0 = 4 ∧ (s.grantReject code).flag Reg.DBG_LOCKED 0 = true := by
  have hcount := s.getR_fails_counted code h.le
  rw [State.grantReject_counts hl, if_pos (by rw [hcount, h])]
  refine ⟨?_, decide_eq_true (State.getR_setR_self ((s.authResult code).satAdd Reg.DBG_SESS_FAILS 0 1) Reg.DBG_LOCKED 0 1)⟩
  have hlocked := State.getR_setR_id ((s.authResult code).satAdd Reg.DBG_SESS_FAILS 0 1) Reg.DBG_LOCKED Reg.DBG_SESS_FAILS 0 0 1 (by decide)
  exact hlocked.trans (by rw [hcount, h])

theorem State.grantReject_early {code : Nat} (hl : s.flag Reg.DBG_LOCKED 0 = false) (h : s.getR Reg.DBG_SESS_FAILS 0 < 3) :
    (s.grantReject code).getR Reg.DBG_SESS_FAILS 0 = s.getR Reg.DBG_SESS_FAILS 0 + 1 ∧ (s.grantReject code).flag Reg.DBG_LOCKED 0 = false := by
  have hcount := s.getR_fails_counted code h.le
  rw [State.grantReject_counts hl, if_neg (by rw [hcount]; omega)]
  refine ⟨hcount, Eq.trans ?_ hl⟩
  exact State.flag_congr (State.getR_setR_id (s.authResult code) Reg.DBG_SESS_FAILS Reg.DBG_LOCKED 0 0 _ (by decide))

/-! ### The commands -/

theorem exec_authNonce : exec .authNonce s = .next s.authNonce := rfl

/-- Settles O56, command by command, by the branch that its conditions take. -/
theorem debugModuleCommandsComplete : Obligations.DebugModuleCommandsComplete := by
  unfold Obligations.DebugModuleCommandsComplete
  refine ⟨?full, ?below, ?halts, fun s n h => exec_dmHartHalted_stays h, ?abstract, ?access, ?bus, ?start, ?close, ?resumes, ?nonce, ?grant, ?unawaited,
    ?whole, ?result, fun s => rfl⟩
  case full =>
    intro s harts hl
    have hl' : decide (s.level = 2) = true := decide_eq_true hl
    refine ⟨State.when_true _ _ hl', State.when_true _ _ hl', State.when_true _ _ hl', fun hp hr => ?_, fun hp => ?_, fun hp hr => ?_⟩
    · refine (State.when_true _ _ hl').trans (congrArg _ ?_)
      rw [State.deviceResetBy, if_neg (by simp [hp]), if_neg (by simp [hr])]
    · refine (State.when_true _ _ hl').trans (congrArg _ ?_)
      rw [State.deviceResetBy, if_pos hp]
    · refine (State.when_true _ _ hl').trans (congrArg _ ?_)
      rw [State.deviceResetBy, if_neg (by simp [hp]), if_pos hr]
  case below =>
    intro s harts hl
    have hl' : decide (s.level = 2) = false := decide_eq_false hl
    exact ⟨State.when_false _ _ hl', State.when_false _ _ hl', State.when_false _ _ hl', State.when_false _ _ hl'⟩
  case halts =>
    intro s n h
    have hstop := s.hartStops_within n
    have hafter := (s.hartStops n).afterStop_within n
    refine ⟨_, exec_dmHartHalted_runs h, ?_, ?_, ?_, fun q hq _ hr => ?_, fun q hq hr => ?_, fun hidle => ?_, ?_, fun m hm => ?_⟩
    · refine decide_eq_true ((hafter.getR_eq _ _ (by decide)).trans ?_)
      exact (State.getR_setR_id (s.setR Reg.HART_HALT n 1) Reg.HART_RESV Reg.HART_HALT n n 0 (by decide)).trans (State.getR_setR_self _ _ _ _)
    · exact (hafter.getR_eq _ _ (by decide)).trans (State.getR_setR_self (s.setR Reg.HART_HALT n 1) Reg.HART_RESV n 0)
    · rw [hafter.part_eq .dbg (by decide)]
      exact contains_listed s.dbg.haltreq n false
    · rw [State.keyStage_afterStop _ _ hq, if_pos hr]
    · rw [State.keyStage_afterStop _ _ hq, if_neg hr]
    · have hkeys : ∀ q < 16, (s.hartStops n).keyStage q = 0 := fun q hq =>
        (State.keyStage_congr (hstop.part_eq .noc (by decide)) (hstop.getR_eq _ _ (by decide)) (hstop.getR_eq _ _ (by decide))).trans (hidle q hq)
      rw [State.abortKeys_idle n hkeys]
      exact (State.wdtEval_within (s.hartStops n) n).part_eq .events (by decide)
    · exact (hafter.part_eq .mem (by decide)).trans (hstop.part_eq .mem (by decide))
    · refine (hafter.getR_eq _ _ (by decide)).trans ?_
      exact (State.getR_setR_id (s.setR Reg.HART_HALT n 1) Reg.HART_RESV Reg.HART_HALT n m 0 (by decide)).trans (State.getR_setR_ix _ _ _ _ _ _ hm)
  case abstract =>
    rintro s t cmd exc n rfl rfl
    have hcmd := cmd.isLt
    refine ⟨exec_dmAbstractCommand exc, fun h => State.when_false _ _ h, State.abstractCmd_held, State.abstractCmd_unsupported hcmd, fun h0 hu =>
      ⟨State.abstractCmd_noHart hcmd h0 hu, fun hn hrun hhalt => ⟨fun h17 hr => ?_, fun h17 hr h18 => ?_, fun h17 hr h18 => ⟨_, rfl, ?_⟩,
        fun h17 h18 => ⟨_, rfl, ?_⟩, fun h17 h18 => ?_⟩, fun hn hrun hhalt h17 h16 h18 hc hr => ?_, State.abstractCmd_running hcmd h0 hu⟩⟩
    · exact State.abstractCmd_noReg hcmd h0 hu hn hrun (.inl hhalt) h17 hr
    · rw [State.abstractCmd_runs hcmd h0 hu hn hrun (.inl hhalt) (fun _ => hr)]
      simp [State.cmdRuns, h17, h18]
    · rw [State.abstractCmd_runs hcmd h0 hu hn hrun (.inl hhalt) (fun _ => hr)]
      simp [State.cmdRuns, h17, h18]
    · rw [State.abstractCmd_runs hcmd h0 hu hn hrun (.inl hhalt) (by simp [h17])]
      simp [State.cmdRuns, h17, h18]
    · rw [State.abstractCmd_runs hcmd h0 hu hn hrun (.inl hhalt) (by simp [h17])]
      simp [State.cmdRuns, h17, h18]
    · rw [State.abstractCmd_runs hcmd h0 hu (by omega) hrun (.inr ⟨h16, h18, h17, hc, hn⟩) (fun _ => hr)]
      simp [State.cmdRuns, h17, h18, h16]
  case access =>
    rintro s r exc write cmd ⟨hl, h0, hn⟩ ⟨hrun, hhalt⟩ ⟨hlo, hhi⟩ hc
    have hexec := exec_accessReg exc hc hl h0 hn hrun hhalt hlo hhi
    have hne0 : r ≠ 0x1000 := by omega
    have hned : r ≠ 0x7B0 := by omega
    refine ⟨?_, ?_⟩
    · rintro rfl
      rw [hexec, State.transfer_write hn hne0 hned]
      rfl
    · rintro rfl
      rw [State.transfer_read (s := s.commanded cmd.toNat) hn hne0 hned hhalt] at hexec
      refine ⟨_, (s.commanded cmd.toNat).hartRead s.dbg.hartsel r, hexec, ?_, Map.get_set_self _ _ _ _, h0, fun v hv => State.hartRead_of_some hne0 hv,
        fun hv => State.hartRead_of_none hne0 hv, rfl, ?_⟩
      · exact (Map.get_set_ne _ _ _ _ (by decide)).trans (Map.get_set_self _ _ _ _)
      · exact ((Leaves.refl.modDbg _ (by decide)).draw (by decide)).modDbg _ (by decide)
  case bus =>
    rintro s u addr size write peek data rfl
    change (_ → execDmSystemBusAccess _ _ _ _ _ s = _) ∧ (_ → _ → execDmSystemBusAccess _ _ _ _ _ s = _) ∧ (_ → _ → execDmSystemBusAccess _ _ _ _ _ s = _)
    refine ⟨fun hl => if_pos hl, fun hl hb => ?_, fun hl hb => ?_⟩
    · exact (if_neg hl).trans (if_pos (Option.isSome_iff_ne_none.mpr hb))
    · exact (if_neg hl).trans (if_neg (by simp [State.sbIsBusy, hb]))
  case start =>
    rintro s write peek n ⟨rfl, hsz⟩
    exact ⟨State.sbStart_held write peek, fun hb he ha => State.sbStart_misaligned write peek hb he hsz ha,
      fun hb he ha hl => State.sbStart_level peek hb he hsz ha hl, fun hb he ha hl => ⟨_, rfl, State.sbStart_writes peek hb he hsz ha hl⟩,
      fun hb he ha => ⟨_, rfl, State.sbStart_reads peek hb he hsz ha⟩⟩
  case close =>
    intro s h hhalt
    have hdbg := State.sessionClose_dbg h hhalt
    exact ⟨_, rfl, rfl, State.sessionClose_state h, State.sessionClose_granted h hhalt, State.sessionClose_mask h hhalt, by rw [hdbg]; rfl, by rw [hdbg]; rfl,
      by rw [hdbg]; rfl, State.sessionClose_events h hhalt, State.sessionClose_mem h hhalt⟩
  case resumes =>
    intro s
    refine ⟨rfl, rfl, fun h => ⟨_, rfl, fun n hn => State.flag_halt_sessionClose h hn⟩, fun h => ?_⟩
    have hself := State.sessionClose_none h
    exact ⟨congrArg _ hself, congrArg _ hself⟩
  case nonce =>
    intro s
    refine ⟨fun h => exec_authNonce.trans (congrArg _ ?_), fun h hl => exec_authNonce.trans (congrArg _ ?_), fun h hl => exec_authNonce.trans (congrArg _ ?_),
      fun h => State.when_false _ _ h, fun h => State.when_true _ _ h⟩
    · simp [State.authNonce, h]
    · simp [State.authNonce, h, hl]
    · simp [State.authNonce, h, hl]
  case grant =>
    intro s len h
    have hopen : ¬ (!s.authOpen) = true := by simp [h]
    refine ⟨fun h4 hlo hhi => ?_, fun hbad => ?_, State.when_true _ _ h⟩
    · exact (if_neg hopen).trans (if_pos (by simp [grantLenOk, h4, hlo, hhi]))
    · refine (if_neg hopen).trans (if_neg ?_)
      simp only [grantLenOk, Bool.and_eq_true, decide_eq_true_eq]
      omega
  case unawaited =>
    intro s len g
    refine ⟨fun h => ⟨if_pos (by simp [h]), State.when_false _ _ h⟩, fun h => State.when_false _ _ h⟩
  case whole =>
    rintro s t g h rfl
    exact State.when_true _ _ h
  case result =>
    intro s g hv
    refine ⟨fun h => ⟨_, exec_authGrantResult_accepts hv h, ?_⟩, fun h hl => ⟨_, exec_authGrantResult_rejects hv h, ?_⟩⟩
    · have hdbg := (s.grantTaken g).grantAccept_dbg g.level
      have hgranted := (s.grantTaken g).granted_within g.level
      have hafter := (s.grantTaken g).grantAccept_within g.level
      refine ⟨?_, ?_, ?_, ?_, ?_, fun h3 => ?_, ?_⟩
      · exact (hafter.getR_eq _ _ (by decide)).trans ((s.grantTaken g).granted_getR g.level)
      · exact (hafter.getR_eq _ _ (by decide)).trans (State.getR_setR_self _ _ _ _)
      · rw [hdbg]
        exact (congrArg Dbg.nonce (hgranted.part_eq .dbg (by decide))).trans (s.grantTaken_nonce g)
      · rw [hdbg]
        rfl
      · rw [hdbg, State.grantAccept_level]
        rfl
      · refine decide_eq_true ((hafter.getR_eq _ _ (by decide)).trans (State.granted_returns g.level ?_))
        rw [State.grantTaken_getR, h3]
      · exact ((hafter.part_eq .mem (by decide)).trans (hgranted.part_eq .mem (by decide))).trans (s.grantTaken_mem g)
    · have hdbg := (s.grantTaken g).grantReject_dbg (s.grantCode g)
      have hrej := (s.grantTaken g).grantReject_within (s.grantCode g)
      have hfails := s.grantTaken_getR g Reg.DBG_SESS_FAILS 0
      have hlocked : (s.grantTaken g).flag Reg.DBG_LOCKED 0 = false := (State.flag_congr (s.grantTaken_getR g Reg.DBG_LOCKED 0)).trans hl
      refine ⟨?_, ?_, ?_, ?_, fun h3 => State.grantReject_fourth hlocked (hfails.trans h3), fun h3 => ?_, ?_⟩
      · exact (hrej.getR_eq _ _ (by decide)).trans (s.grantTaken_getR g _ _)
      · rw [hdbg]
        exact s.grantTaken_nonce g
      · rw [hdbg]
        rfl
      · rw [hdbg]
        exact congrArg (· + s.grantCode g * 256) (State.level_congr (s.grantTaken_getR g _ _) (s.grantTaken_getR g _ _) (s.grantTaken_getR g _ _))
      · rw [← hfails]
        exact State.grantReject_early hlocked (hfails ▸ h3)
      · exact (hrej.part_eq .mem (by decide)).trans (s.grantTaken_mem g)

end Sys2Proof.Machine
end

section
/-!
PROOF. Timer, interrupt controller, patch units, watchdogs and hart resets (R554 to R564, R586 to R589): each command by the branch that its conditions take, and
what a hart's reset leaves, where no channel waits for the hart to go on.
-/

namespace Sys2Proof.Machine

variable {s t : State}

/-! ### Interrupt controller (R556) -/

theorem exec_plicClaim (ctx : Fin 8) (peek : Bool) : exec (.plicClaim ctx peek) s = .next (if peek || decide (s.plicBest ctx = 0) then s.respond (s.plicBest ctx) 0
    else ((s.respond (s.plicBest ctx) 0).setR Reg.PLIC_PEND (s.plicBest ctx) 0).setR Reg.PLIC_BUSY (s.plicBest ctx) 1) := rfl

theorem exec_plicComplete_stays {ctx : Fin 8} {id : BitVec 32}
    (h : 1024 ≤ id.toNat ∨ s.flag Reg.PLIC_BUSY id.toNat = false ∨ s.plicEnabled ctx id.toNat = false) : exec (.plicComplete ctx id) s = .next s := by
  refine State.when_false _ _ ?_
  simp only [Bool.and_eq_false_iff, decide_eq_false_iff_not, Nat.not_lt]
  tauto

theorem State.plicRelease_waits {n : Nat} (h : 0 < s.getR Reg.PLIC_WAIT n) : s.plicRelease n =
    ((s.setR Reg.PLIC_BUSY n 0).setR Reg.PLIC_WAIT n (s.getR Reg.PLIC_WAIT n - 1)).setR Reg.PLIC_PEND n 1 := if_pos h

theorem State.plicRelease_level {n : Nat} (hw : s.getR Reg.PLIC_WAIT n = 0) (hl : s.flag Reg.PLIC_LEVEL n = true) (hn : n < 512) :
    s.plicRelease n = (s.setR Reg.PLIC_BUSY n 0).setR Reg.PLIC_PEND n 1 := by
  simp [State.plicRelease, hw, hl, hn]

theorem State.plicRelease_low {n : Nat} (hw : s.getR Reg.PLIC_WAIT n = 0) (hl : s.flag Reg.PLIC_LEVEL n = false) :
    s.plicRelease n = s.setR Reg.PLIC_BUSY n 0 := by
  simp [State.plicRelease, hw, hl]

theorem State.plicRelease_leaves (s : State) (n : Nat) :
    Leaves [] [Reg.PLIC_BUSY.key n, Reg.PLIC_PEND.key n, Reg.PLIC_WAIT.key n] s (s.plicRelease n) := by
  have hopen : Leaves [] [Reg.PLIC_BUSY.key n, Reg.PLIC_PEND.key n, Reg.PLIC_WAIT.key n] s (s.setR Reg.PLIC_BUSY n 0) := Leaves.refl.setR _ _ _ (by simp)
  exact .ite ((hopen.setR _ _ _ (by simp)).setR _ _ _ (by simp)) (.ite (hopen.setR _ _ _ (by simp)) hopen)

theorem State.getR_busy_plicRelease (s : State) (n : Nat) : (s.plicRelease n).getR Reg.PLIC_BUSY n = 0 := by
  have hopen : (s.setR Reg.PLIC_BUSY n 0).getR Reg.PLIC_BUSY n = 0 := State.getR_setR_self _ _ _ _
  have hrest : Within [] (fun f => f ∈ [Reg.PLIC_WAIT, Reg.PLIC_PEND]) (s.setR Reg.PLIC_BUSY n 0) (s.plicRelease n) :=
    .ite (((Within.refl _).setR _ _ _ (by simp)).setR _ _ _ (by simp)) (.ite ((Within.refl _).setR _ _ _ (by simp)) (.refl _))
  exact (hrest.getR_eq _ _ (by decide)).trans hopen

/-- A flag that has just been set. -/
theorem State.flag_setR_one (s : State) {f : Field} (n : Nat) (h : f.norm 1 = 1) : (s.setR f n 1).flag f n = true :=
  decide_eq_true ((State.getR_setR_self _ _ _ _).trans h)

/-! ### Patch units (R560 to R562) -/

theorem State.patchUnit_some {o u : Nat} (h : s.patchUnit false o = some u) :
    u < 16 ∧ nbit (s.getR Reg.CTL_SPATCH_EN 0) u = true ∧ s.getR Reg.CTL_SPATCH_MATCH u = o / 16 % 2 ^ 19 := by
  have hmem := List.mem_of_find?_eq_some h
  have hmatch := List.find?_some h
  simp only [Bool.false_eq_true, if_false, Bool.and_eq_true, decide_eq_true_eq] at hmatch
  exact ⟨List.mem_range.mp hmem, hmatch⟩

section
variable {dusk : Bool} {key mask req : BitVec 16}

theorem exec_patchKeyWrite_refused (h : s.patchWriter dusk req.toNat = false) : exec (.patchKeyWrite dusk key req) s = .next (s.respond 0 2) :=
  if_pos (by simp [h])

theorem exec_patchEnWrite_refused (h : s.patchWriter dusk req.toNat = false) : exec (.patchEnWrite dusk mask req) s = .next (s.respond 0 2) :=
  if_pos (by simp [h])

variable (h : s.patchWriter dusk req.toNat = true)
include h

theorem exec_patchKeyWrite : exec (.patchKeyWrite dusk key req) s =
    if s.keyStage (if dusk then 3 else 2) = 1 ∧ key = 0xA11E then .next ((s.respond 0 0).keyAt (if dusk then 3 else 2) 2 0)
    else if s.keyStage (if dusk then 3 else 2) = 0 ∧ key = 0x5EED then .next ((s.respond 0 0).keyAt (if dusk then 3 else 2) 1 req.toNat)
    else .next ((s.respond 0 0).keyIdle (if dusk then 3 else 2)) := if_neg (by simp [h])

theorem exec_patchEnWrite {f : Field} (hf : f = if dusk then Reg.CTL_DPATCH_EN else Reg.CTL_SPATCH_EN) : exec (.patchEnWrite dusk mask req) s =
    if s.keyStage (if dusk then 3 else 2) ≠ 2 ∨ s.getR f 0 = mask.toNat then .next ((s.respond 0 0).keyIdle (if dusk then 3 else 2))
    else .next ((((s.respond 0 0).keyIdle (if dusk then 3 else 2)).setR f 0 mask.toNat).raise debugEp 0x0F0C 0
      (dbgDetail (if dusk then 5 else 4) 0 0 0 mask.toNat)) := by
  subst hf
  exact if_neg (by simp [h])

end

/-! ### Watchdogs (R563, R564) -/

theorem State.putCount_leaves (s : State) (w v : Nat) : Leaves [] [Reg.CTL_WDT_STAT_COUNT.key w, Reg.WDT_T.key w] s (s.putCount w v) :=
  (Leaves.refl.setR _ _ _ (by simp)).setR _ _ _ (by simp)

theorem State.getR_putCount (s : State) (w v : Nat) : (s.putCount w v).getR Reg.CTL_WDT_STAT_COUNT w = Reg.CTL_WDT_STAT_COUNT.norm v := by
  rw [State.putCount, State.getR_setR_id _ _ _ _ _ _ (by decide), State.getR_setR_self]

/-- A watchdog that has run out starts its count again at the other stage. -/
def State.wdtWarns (s : State) (w : Nat) : State := (s.putCount w (s.wdtPeriod w)).setR Reg.CTL_WDT_STAT_STAGE w 1

theorem exec_wdtFirstExpiry (w : Fin 6) : exec (.wdtFirstExpiry w) s = s.when (s.wdtRunOut w && !s.flag Reg.CTL_WDT_STAT_STAGE w)
    (if w.val < 4 then ((s.wdtWarns w).irqEdge (4 + w)).raise debugEp 0x0F01 2 (dbgDetail w) else s.wdtWarns w) := rfl

theorem State.wdtWarns_leaves (s : State) (w : Nat) :
    Leaves [] [Reg.CTL_WDT_STAT_STAGE.key w, Reg.CTL_WDT_STAT_COUNT.key w, Reg.WDT_T.key w] s (s.wdtWarns w) :=
  ((s.putCount_leaves w _).mono (by simp) (by simp)).setR _ _ _ (by simp)

/-- What a first expiry does after the count has started again: a core's warning. -/
theorem State.wdtWarned_within (s : State) (w : Nat) : Within [.events] (fun f => f ∈ [Reg.PLIC_PEND, Reg.PLIC_WAIT]) (s.wdtWarns w)
    (if w < 4 then ((s.wdtWarns w).irqEdge (4 + w)).raise debugEp 0x0F01 2 (dbgDetail w) else s.wdtWarns w) :=
  .ite (((Within.refl _).irqEdge _ (by simp) (by simp)).raise _ _ _ _ (by decide)) (.refl _)

theorem State.wdtWarns_within (s : State) (w : Nat) : Within [] (fun f => f ∈ [Reg.CTL_WDT_STAT_STAGE, Reg.CTL_WDT_STAT_COUNT, Reg.WDT_T]) s (s.wdtWarns w) :=
  (((Within.refl s).setR _ _ _ (by simp)).setR _ _ _ (by simp)).setR _ _ _ (by simp)

theorem State.wdtWarned_events (s : State) (w : Fin 6) :
    (if w.val < 4 then ((s.wdtWarns w).irqEdge (4 + w)).raise debugEp 0x0F01 2 (dbgDetail w) else s.wdtWarns w).events
      = if w.val < 4 then raiseIn s.events (evKey debugEp 0x0F01) s.time.toNat 2 w.val else s.events := by
  have hirq := (s.wdtWarns_within w).mono (qs := []) (V := fun f => f ∈ [Reg.CTL_WDT_STAT_STAGE, Reg.CTL_WDT_STAT_COUNT, Reg.WDT_T, Reg.PLIC_PEND, Reg.PLIC_WAIT])
    (by simp) (by simp) |>.irqEdge (4 + w) (by simp) (by simp)
  have hdetail : dbgDetail w % 2 ^ 128 = w.val := by
    have hw : dbgDetail w = w.val := by
      simp only [dbgDetail]
      omega
    rw [hw]
    exact Nat.mod_eq_of_lt (w.isLt.trans (by decide))
  have hev : ((s.wdtWarns w).irqEdge (4 + w)).events = s.events := hirq.part_eq .events (by decide)
  have htime : ((s.wdtWarns w).irqEdge (4 + w)).time = s.time := hirq.part_eq .time (by decide)
  split
  · rw [State.raise_events, hdetail, hev, htime]
  · rfl

theorem State.wdtWarned_leaves (s : State) (w : Nat) : Leaves [.events] [Reg.CTL_WDT_STAT_STAGE.key w, Reg.CTL_WDT_STAT_COUNT.key w, Reg.WDT_T.key w,
    Reg.PLIC_PEND.key (4 + w), Reg.PLIC_WAIT.key (4 + w)] s
    (if w < 4 then ((s.wdtWarns w).irqEdge (4 + w)).raise debugEp 0x0F01 2 (dbgDetail w) else s.wdtWarns w) := by
  have hwarns := (s.wdtWarns_leaves w).mono (qs := [.events]) (js := [Reg.CTL_WDT_STAT_STAGE.key w, Reg.CTL_WDT_STAT_COUNT.key w, Reg.WDT_T.key w,
    Reg.PLIC_PEND.key (4 + w), Reg.PLIC_WAIT.key (4 + w)]) (by simp) (by simp)
  exact .ite ((hwarns.irqEdge _ (by simp) (by simp)).raise _ _ _ _ (by decide)) hwarns

/-- An idle source becomes pending. -/
theorem State.irqEdge_idle {n : Nat} (hn : n ≠ 0) (hp : s.flag Reg.PLIC_PEND n = false) (hb : s.flag Reg.PLIC_BUSY n = false) :
    s.irqEdge n = s.setR Reg.PLIC_PEND n 1 := by
  simp [State.irqEdge, hn, hp, hb]

theorem exec_wdtSecondExpiry (w : Fin 6) : exec (.wdtSecondExpiry w) s = s.when (s.wdtRunOut w && s.flag Reg.CTL_WDT_STAT_STAGE w)
    (if w.val < 4 then ((if s.flag Reg.CTL_WDT_CFG_ACTION w then (List.range 4).foldl (fun t h => t.hartReset h) s else s.hartReset w).raise
      debugEp 0x0F02 4 (dbgDetail w))
    else (s.hartReset w).raise debugEp (if w.val = 4 then 0x0F03 else 0x0F04) 4 (dbgDetail w)) := rfl

theorem State.hartReset_all (s : State) :
    (List.range 4).foldl (fun t h => t.hartReset h) s = (((s.hartReset 0).hartReset 1).hartReset 2).hartReset 3 := by
  simp [List.range_succ]

theorem State.wdtRunOut_false {w : Nat} (h : s.wdtCount w ≠ 0 ∨ s.flag Reg.CTL_WDT_CFG_EN w = false ∨ s.flag Reg.CTL_WDT_STAT_PAUSED w = true) :
    s.wdtRunOut w = false := by
  rcases h with h | h | h <;> simp [State.wdtRunOut, h]

/-! ### What a hart's reset leaves (R563, R568) -/

/-- A hart's state is gone, and its halt. -/
def State.hartGone (s : State) (n : Nat) : State := ((s.setR Reg.HART_HALT n 0).setR Reg.HART_RESV n 0).hregsDrop n

/-- A core restarts at its boot address. -/
def State.coreRestarts (s : State) (n boot : Nat) : State :=
  if n < 4 then (s.resetFields [Reg.HART_MCAUSE, Reg.HART_MTVAL] n).setR Reg.HART_PC n boot else s

/-- The debug module notes a reset, and the watchdog's stage and lock go. -/
def State.resetNoted (s : State) (n : Nat) : State :=
  ((s.modDbg (fun d => { d with havereset := listed d.havereset n true, haltreq := listed d.haltreq n (d.resetHalt.contains n) })).setR
    Reg.CTL_WDT_STAT_STAGE n 0).setR Reg.WDT_OPEN n 1

/-- A hart's reset until its watchdog starts again. -/
def State.hartFresh (s : State) (n : Nat) : State := ((s.hartGone n).coreRestarts n (s.getR Reg.CTL_BOOT_ADDR n)).resetNoted n

theorem State.hartReset_eq (s : State) (n : Nat) : s.hartReset n = (((s.hartFresh n).wdtEval n).putCount n (s.wdtPeriod n)).unfreeze := by
  rfl

theorem State.hartGone_within (s : State) (n : Nat) : Within [.dbg] (fun f => f ∈ [Reg.HART_HALT, Reg.HART_RESV]) s (s.hartGone n) :=
  (((Within.refl s).setR _ _ _ (by simp)).setR _ _ _ (by simp)).modDbg _ (by decide)

theorem State.coreRestarts_within (s : State) (n boot : Nat) :
    Within [] (fun f => f ∈ [Reg.HART_MCAUSE, Reg.HART_MTVAL, Reg.HART_PC]) s (s.coreRestarts n boot) :=
  .ite (((Within.refl s).resetFields _ _ (by simp)).setR _ _ _ (by simp)) (.refl s)

theorem State.resetNoted_within (s : State) (n : Nat) :
    Within [.dbg] (fun f => f ∈ [Reg.CTL_WDT_STAT_STAGE, Reg.WDT_OPEN]) s (s.resetNoted n) :=
  (((Within.refl s).modDbg _ (by decide)).setR _ _ _ (by simp)).setR _ _ _ (by simp)

/-- The fields that a hart's reset writes until its watchdog starts again. -/
def freshFields : List Field :=
  [Reg.HART_HALT, Reg.HART_RESV, Reg.HART_MCAUSE, Reg.HART_MTVAL, Reg.HART_PC, Reg.CTL_WDT_STAT_STAGE, Reg.WDT_OPEN]

theorem State.hartFresh_within (s : State) (n : Nat) : Within [.dbg] (fun f => f ∈ freshFields) s (s.hartFresh n) :=
  (((s.hartGone_within n).mono (fun _ hp => hp) (by simp [freshFields])).trans
    ((State.coreRestarts_within _ _ _).mono (by simp) (by simp [freshFields]))).trans
    ((State.resetNoted_within _ _).mono (fun _ hp => hp) (by simp [freshFields]))

/-- The watchdog of a reset hart. -/
theorem State.wdtRestart_within (s : State) (n v : Nat) : Within [] (fun f => f ∈ wdtFields) s ((s.wdtEval n).putCount n v) :=
  ((s.wdtEval_within n).setR _ _ _ (by simp [wdtFields])).setR _ _ _ (by simp [wdtFields])

/-- A watchdog that its hart does not hold is not paused. -/
theorem State.flag_paused_wdtEval {n : Nat} (h : s.wdtHeld n = false) : (s.wdtEval n).flag Reg.CTL_WDT_STAT_PAUSED n = false := by
  unfold State.wdtEval
  rw [h]
  cases hp : s.flag Reg.CTL_WDT_STAT_PAUSED n with
  | false => simpa using hp
  | true => exact decide_eq_false (by simp [Field.norm])

theorem State.wdtHeld_running {n : Nat} (h : s.flag Reg.HART_HALT n = false) : s.wdtHeld n = false := by
  unfold State.wdtHeld
  by_cases h4 : n = 4
  · simp [← h4, h]
  · simp [h, h4]

theorem State.flag_paused_restart {n v : Nat} (h : s.wdtHeld n = false) :
    ((s.wdtEval n).putCount n v).flag Reg.CTL_WDT_STAT_PAUSED n = false := by
  rw [State.flag, State.putCount, State.getR_setR_id _ _ _ _ _ _ (by decide), State.getR_setR_id _ _ _ _ _ _ (by decide)]
  exact State.flag_paused_wdtEval h

section
variable {n : Nat} (hc : ∀ k < 32, s.getR Reg.SPD_CPY_STAT_STATE k ≠ 1) (hd : ∀ c < 8, s.getR Reg.PCI_DMA_STAT_STATE c ≠ 1)
include hc hd

/-- With no channel running a hart's reset ends with its watchdog. -/
theorem State.hartReset_idle : s.hartReset n = ((s.hartFresh n).wdtEval n).putCount n (s.wdtPeriod n) := by
  have hrest := (s.hartFresh n).wdtRestart_within n (s.wdtPeriod n)
  have hfresh := s.hartFresh_within n
  rw [State.hartReset_eq]
  refine State.unfreeze_idle (fun k hk => ?_) (fun c hcn => ?_)
  · rw [hrest.getR_eq _ _ (by decide), hfresh.getR_eq _ _ (by decide)]
    exact hc k hk
  · rw [hrest.getR_eq _ _ (by decide), hfresh.getR_eq _ _ (by decide)]
    exact hd c hcn

theorem State.hartReset_after : Within [] (fun f => f ∈ wdtFields) (s.hartFresh n) (s.hartReset n) :=
  State.hartReset_idle hc hd ▸ State.wdtRestart_within _ _ _

end

theorem State.getR_halt_hartFresh (s : State) (n m : Nat) : (s.hartFresh n).getR Reg.HART_HALT m = (s.setR Reg.HART_HALT n 0).getR Reg.HART_HALT m := by
  rw [State.hartFresh, (State.resetNoted_within _ _).getR_eq _ _ (by decide), (State.coreRestarts_within _ _ _).getR_eq _ _ (by decide)]
  exact State.getR_setR_id (s.setR Reg.HART_HALT n 0) Reg.HART_RESV Reg.HART_HALT n m 0 (by decide)

theorem State.getR_resv_hartFresh (s : State) (n : Nat) : (s.hartFresh n).getR Reg.HART_RESV n = 0 := by
  rw [State.hartFresh, (State.resetNoted_within _ _).getR_eq _ _ (by decide), (State.coreRestarts_within _ _ _).getR_eq _ _ (by decide)]
  exact State.getR_setR_self (s.setR Reg.HART_HALT n 0) Reg.HART_RESV n 0

theorem State.flag_halt_hartFresh (s : State) (n : Nat) : (s.hartFresh n).flag Reg.HART_HALT n = false := by
  rw [State.flag, State.getR_halt_hartFresh, State.getR_setR_self]
  rfl

theorem State.flag_stage_hartFresh (s : State) (n : Nat) : (s.hartFresh n).flag Reg.CTL_WDT_STAT_STAGE n = false := by
  rw [State.flag, State.hartFresh, State.resetNoted, State.getR_setR_id _ _ _ _ _ _ (by decide), State.getR_setR_self]
  rfl

theorem State.dbg_hartFresh (s : State) (n : Nat) : (s.hartFresh n).dbg =
    { (s.hartGone n).dbg with havereset := listed s.dbg.havereset n true, haltreq := listed s.dbg.haltreq n (s.dbg.resetHalt.contains n) } := by
  have hcore : ((s.hartGone n).coreRestarts n (s.getR Reg.CTL_BOOT_ADDR n)).dbg = (s.hartGone n).dbg :=
    (State.coreRestarts_within _ _ _).part_eq .dbg (by decide)
  change (fun d : Dbg => { d with havereset := listed d.havereset n true, haltreq := listed d.haltreq n (d.resetHalt.contains n) })
    ((s.hartGone n).coreRestarts n (s.getR Reg.CTL_BOOT_ADDR n)).dbg = _
  rw [hcore]
  rfl

section
variable {n : Nat} (hn : n < 4)
include hn

theorem State.getR_pc_hartFresh (s : State) : (s.hartFresh n).getR Reg.HART_PC n = Reg.HART_PC.norm (s.getR Reg.CTL_BOOT_ADDR n) := by
  rw [State.hartFresh, (State.resetNoted_within _ _).getR_eq _ _ (by decide), State.coreRestarts, if_pos hn, State.getR_setR_self]

theorem State.getR_mcause_hartFresh (s : State) : (s.hartFresh n).getR Reg.HART_MCAUSE n = 0 := by
  rw [State.hartFresh, (State.resetNoted_within _ _).getR_eq _ _ (by decide), State.coreRestarts, if_pos hn, State.getR_setR_id _ _ _ _ _ _ (by decide)]
  exact (State.getR_resetFields _ [] [Reg.HART_MTVAL] Reg.HART_MCAUSE n (by decide)).trans (by simp [Reg.HART_MCAUSE, Field.norm])

theorem State.getR_mtval_hartFresh (s : State) : (s.hartFresh n).getR Reg.HART_MTVAL n = 0 := by
  rw [State.hartFresh, (State.resetNoted_within _ _).getR_eq _ _ (by decide), State.coreRestarts, if_pos hn, State.getR_setR_id _ _ _ _ _ _ (by decide)]
  exact (State.getR_resetFields _ [Reg.HART_MCAUSE] [] Reg.HART_MTVAL n (by decide)).trans (by simp [Reg.HART_MTVAL, Field.norm])

end

theorem State.getR_pc_hartFresh_other (s : State) {n m : Nat} (h : m ≠ n) : (s.hartFresh n).getR Reg.HART_PC m = s.getR Reg.HART_PC m := by
  rw [State.hartFresh, (State.resetNoted_within _ _).getR_eq _ _ (by decide), State.coreRestarts]
  split
  · rw [State.getR_setR_ix _ _ _ _ _ _ h, ((Within.refl (s.hartGone n)).resetFields (W := fun f => f ∈ [Reg.HART_MCAUSE, Reg.HART_MTVAL]) (ps := [])
      [Reg.HART_MCAUSE, Reg.HART_MTVAL] n (fun _ hf => hf)).getR_eq _ _ (by decide), (s.hartGone_within n).getR_eq _ _ (by decide)]
  · exact (s.hartGone_within n).getR_eq _ _ (by decide)

/-! ### The commands -/

/-- Settles O54, command by command, by the branch that its conditions take. -/
theorem interruptPatchAndWatchdogCommandsComplete : Obligations.InterruptPatchAndWatchdogCommandsComplete := by
  unfold Obligations.InterruptPatchAndWatchdogCommandsComplete
  refine ⟨fun s hart => rfl, ?claim, ?complete, fun s ctx id h => exec_plicComplete_stays h, ?notifies, ?patched, ?patchKey, ?patchEn, ?patchOther, ?kick,
    ?first, ?second, ?count, ?resetCmd, ?reset⟩
  case claim =>
    intro s ctx
    exact ⟨exec_plicClaim ctx true, fun h => (exec_plicClaim ctx false).trans (by simp [h]), fun h => (exec_plicClaim ctx false).trans (by simp [h])⟩
  case complete =>
    rintro s ctx id ⟨hid, hbusy⟩ hen
    refine ⟨_, State.when_true _ _ (by simp [hid, hbusy, hen]), State.getR_busy_plicRelease _ _, fun hw => ?_, fun hw hl hn => ?_, fun hw hl => ?_,
      State.plicRelease_leaves _ _⟩
    · rw [State.plicRelease_waits hw, State.getR_setR_id _ _ _ _ _ _ (by decide), State.getR_setR_self]
      exact ⟨State.flag_setR_one _ _ rfl, rfl⟩
    · rw [State.plicRelease_level hw hl hn]
      exact State.flag_setR_one _ _ rfl
    · rw [State.plicRelease_low hw hl]
      exact State.getR_setR_id _ _ _ _ _ _ (by decide)
  case notifies =>
    intro s ctx
    exact ⟨fun h => by simp [State.plicNotifies, h], fun h => by simp [State.plicNotifies, h]⟩
  case patched =>
    intro s dusk o w
    refine ⟨fun h => ?_, fun u h => ?_, fun u h => State.patchUnit_some h⟩
    · simp [State.patchedWord, h]
    · simp [State.patchedWord, h]
  case patchKey =>
    rintro s dusk req key q rfl hw
    refine ⟨fun h0 => ?_, fun h1 => ?_, fun h0 h1 => ?_⟩
    · rw [exec_patchKeyWrite hw, if_neg (by simp [h0]), if_pos ⟨h0, rfl⟩]
      rfl
    · rw [exec_patchKeyWrite hw, if_pos ⟨h1, rfl⟩]
      rfl
    · rw [exec_patchKeyWrite hw, if_neg (by tauto), if_neg (by tauto)]
      rfl
  case patchEn =>
    rintro s dusk mask req q f rfl hf hw
    refine ⟨fun h2 hm => ?_, fun h => ?_⟩
    · rw [exec_patchEnWrite hw hf, if_neg (by simp [h2, hm])]
      rfl
    · rw [exec_patchEnWrite hw hf, if_pos h]
      rfl
  case patchOther =>
    intro s dusk key mask req
    refine ⟨fun h => ⟨exec_patchKeyWrite_refused h, exec_patchEnWrite_refused h⟩, ?_⟩
    exact congrArg Host.Outcome.next (s.keyTimeout_eq _)
  case kick =>
    intro s w key req
    refine ⟨fun h => if_pos (by simp [h]), fun h hk => (if_neg (by simp [h])).trans (if_neg hk), fun h => ⟨_, (if_neg (by simp [h])).trans (if_pos rfl), ?_⟩⟩
    have hkick := (s.respond 0 0).putCount_leaves w (s.wdtPeriod w)
    refine ⟨?_, State.getR_setR_self _ _ _ _, rfl, ?_⟩
    · exact (State.getR_setR_id _ _ _ _ _ _ (by decide)).trans (State.getR_putCount _ _ _)
    · exact ((Leaves.refl.respond _ _ _ (by decide)).trans (hkick.mono (by simp) (by simp))).setR _ _ _ (by simp)
  case first =>
    rintro s w ⟨hen, hpause, hstage⟩ h0
    refine ⟨_, (exec_wdtFirstExpiry w).trans (State.when_true _ _ (by simp [State.wdtRunOut, hen, hpause, hstage, h0])), ?_⟩
    have hwarned := s.wdtWarned_within w
    refine ⟨?_, ?_, fun hw hp hb => ?_, ?_, ?_⟩
    · exact (State.flag_congr (hwarned.getR_eq _ _ (by decide))).trans (State.flag_setR_one _ _ rfl)
    · exact (hwarned.getR_eq _ _ (by decide)).trans ((State.getR_setR_id _ _ _ _ _ _ (by decide)).trans (State.getR_putCount _ _ _))
    · rw [if_pos hw]
      have hidle := s.wdtWarns_within w
      rw [State.irqEdge_idle (s := s.wdtWarns w) (by omega) ((State.flag_congr (hidle.getR_eq _ _ (by decide))).trans hp)
        ((State.flag_congr (hidle.getR_eq _ _ (by decide))).trans hb)]
      exact State.flag_setR_one (s.wdtWarns w) (f := Reg.PLIC_PEND) (4 + w.val) rfl
    · exact s.wdtWarned_events w
    · exact s.wdtWarned_leaves w
  case second =>
    rintro s w ⟨hen, hpause, hstage⟩ h0
    have hrun := (exec_wdtSecondExpiry w).trans (State.when_true s _ (by simp [State.wdtRunOut, hen, hpause, hstage, h0]))
    refine ⟨fun hw => hrun.trans ?_, fun hw ha => hrun.trans ?_, fun hw ha => hrun.trans ?_⟩
    · rw [if_neg (by omega)]
      rfl
    · rw [if_pos hw, if_neg (by simp [ha])]
      rfl
    · rw [if_pos hw, if_pos ha, State.hartReset_all]
      rfl
  case count =>
    intro s w
    refine ⟨fun h => ?_, fun h => (exec_wdtFirstExpiry w).trans (State.when_false _ _ (by simp [h])),
      fun h => (exec_wdtSecondExpiry w).trans (State.when_false _ _ (by simp [h])), fun hen hp => ?_, fun hp => ?_⟩
    · have hout : s.wdtRunOut w = false := State.wdtRunOut_false h
      exact ⟨(exec_wdtFirstExpiry w).trans (State.when_false _ _ (by simp [hout])), (exec_wdtSecondExpiry w).trans (State.when_false _ _ (by simp [hout]))⟩
    · simp [State.wdtCount, hen, hp]
    · simp [State.wdtCount, hp]
  case resetCmd =>
    exact fun s hart req => ⟨fun h => if_neg (by simp [h]), fun h => if_pos h⟩
  case reset =>
    intro s n hn hc hd
    have hafter := State.hartReset_after (n := n) hc hd
    have hfresh := s.hartFresh_within n
    have hdbg : (s.hartReset n).dbg = (s.hartFresh n).dbg := hafter.part_eq .dbg (by decide)
    refine ⟨?_, ?_, fun h4 => ?_, ?_, ?_, fun h4 => ⟨?_, ?_, ?_⟩, ?_, ?_, fun m hm => ⟨?_, ?_⟩, ?_, ?_, ?_⟩
    · exact (State.flag_congr (hafter.getR_eq _ _ (by decide))).trans (s.flag_halt_hartFresh n)
    · exact (hafter.getR_eq _ _ (by decide)).trans (s.getR_resv_hartFresh n)
    · exact (hafter.getR_eq _ _ (by decide)).trans (s.getR_pc_hartFresh h4)
    · rw [hdbg, State.dbg_hartFresh]
      exact contains_listed s.dbg.havereset n true
    · rw [hdbg, State.dbg_hartFresh]
      exact contains_listed s.dbg.haltreq n _
    · exact (hafter.getR_eq _ _ (by decide)).trans (s.getR_mcause_hartFresh h4)
    · exact (hafter.getR_eq _ _ (by decide)).trans (s.getR_mtval_hartFresh h4)
    · exact (hafter.getR_eq _ _ (by decide)).trans (hfresh.getR_eq _ _ (by decide))
    · exact (State.flag_congr (hafter.getR_eq _ _ (by decide))).trans (s.flag_stage_hartFresh n)
    · rw [State.hartReset_idle hc hd]
      exact State.flag_paused_restart (State.wdtHeld_running (s.flag_halt_hartFresh n))
    · exact (hafter.getR_eq _ _ (by decide)).trans ((s.getR_halt_hartFresh n m).trans (State.getR_setR_ix _ _ _ _ _ _ hm))
    · exact (hafter.getR_eq _ _ (by decide)).trans (s.getR_pc_hartFresh_other hm)
    · exact (hafter.part_eq .mem (by decide)).trans (hfresh.part_eq .mem (by decide))
    · exact (hafter.part_eq .events (by decide)).trans (hfresh.part_eq .events (by decide))
    · exact (hafter.part_eq .resp (by decide)).trans (hfresh.part_eq .resp (by decide))

end Sys2Proof.Machine
end

section
/-!
PROOF. The PCIe host link (R521 to R532, R536 to R538, R545, R546): the link's state, the configuration requests, the host's requests by whether their function
answers, the hot reset, and the end of a function-level reset, after which no channel or session that ends with it changes the function's settings.
-/

namespace Sys2Proof.Machine

variable {s t : State}

/-! ### The functions' settings and the host's reads, which channels leave alone -/

/-- What a function-level reset puts back beside the channels and vectors: bus mastering, D3hot, MSI-X enables, the reads in progress, NumVFs. -/
def State.hostSide (s : State) : List Nat × List Nat × List Nat × List HostRead × Nat :=
  (s.pcie.bme, s.pcie.d3, s.pcie.msixOn, s.pcie.reads, s.pcie.numVfs)

theorem State.pcie_raise (s : State) (a b c d : Nat) : (s.raise a b c d).pcie = s.pcie := rfl

theorem State.hostSide_congr (h : t.pcie = s.pcie) : t.hostSide = s.hostSide := by
  simp only [State.hostSide, h]

theorem State.hostSide_setR (s : State) (f : Field) (i v : Nat) : (s.setR f i v).hostSide = s.hostSide := rfl

theorem State.hostSide_foldl {α : Type} {f : State → α → State} (hf : ∀ u a, (f u a).hostSide = u.hostSide) (l : List α) (s : State) :
    (l.foldl f s).hostSide = s.hostSide := by
  induction l generalizing s with
  | nil => rfl
  | cons a l ih => exact (ih _).trans (hf s a)

theorem State.hostSide_msix (s : State) (fn v : Nat) : (s.msix fn v).hostSide = s.hostSide := by
  simp only [State.msix]
  split_ifs <;> rfl

theorem State.hostSide_irqEdge (s : State) (n : Nat) : (s.irqEdge n).hostSide = s.hostSide :=
  State.hostSide_congr ((Within.refl s).irqEdge (ps := []) (W := anyField) n trivial trivial |>.part_eq .pcie (by decide))

theorem State.hostSide_sendRead (s : State) (src addr size prio tag : Nat) (flow : Option Nat) :
    (s.sendRead src addr size prio tag flow).1.hostSide = s.hostSide :=
  State.hostSide_congr ((Within.refl s).sendRead (ps := [.noc, .thy, .events]) (W := anyField) src addr size prio tag flow (by decide) (by decide) (by decide)
    |>.part_eq .pcie (by decide))

theorem State.hostSide_sendWrite (s : State) (src addr size data prio tag : Nat) (flow : Option Nat) (poison : Bool) :
    (s.sendWrite src addr size data prio tag flow poison).1.hostSide = s.hostSide :=
  State.hostSide_congr ((Within.refl s).sendWrite (ps := [.noc, .thy, .events]) (W := anyField) src addr size data prio tag flow poison (by decide) (by decide)
    (by decide) |>.part_eq .pcie (by decide))

theorem State.hostSide_dmaEnd (s : State) (c st : Nat) (irq : Bool) : (s.dmaEnd c st irq).hostSide = s.hostSide := by
  have hend : (((s.setR Reg.PCI_DMA_STAT_STATE c st).modDma c (fun k => { dma0 with starter := k.starter })).irqEdge (404 + c)).hostSide = s.hostSide :=
    State.hostSide_irqEdge _ _
  simp only [State.dmaEnd]
  split_ifs
  · exact (State.hostSide_msix _ _ _).trans hend
  · exact hend

theorem State.hostSide_dmaFail (s : State) (c err : Nat) : (s.dmaFail c err).hostSide = s.hostSide := State.hostSide_dmaEnd _ _ _ _

theorem State.hostSide_dmaIssue (s : State) (c : Nat) : (s.dmaIssue c).hostSide = s.hostSide := by
  simp only [State.dmaIssue]
  split_ifs
  · rfl
  · exact State.hostSide_sendRead _ _ _ _ _ _ _
  · exact State.hostSide_sendRead _ _ _ _ _ _ _

theorem State.hostSide_dmaPass (s : State) (c : Nat) : (s.dmaPass c).hostSide = s.hostSide := by
  simp only [State.dmaPass]
  split
  · rfl
  · split
    · rfl
    · split_ifs
      · exact State.hostSide_dmaFail _ _ _
      · exact State.hostSide_sendWrite _ _ _ _ _ _ _ _ _
      · exact (State.hostSide_dmaFail _ _ _).trans (State.hostSide_sendWrite _ _ _ _ _ _ _ _ _)
      · rfl

theorem State.hostSide_dmaFinish (s : State) (c : Nat) : (s.dmaFinish c).hostSide = s.hostSide := by
  simp only [State.dmaFinish]
  split_ifs
  · rfl
  · exact State.hostSide_dmaFail _ _ _
  · exact State.hostSide_dmaEnd _ _ _ _
  · exact State.hostSide_dmaEnd _ _ _ _
  · rfl

theorem State.hostSide_dmaGo (s : State) (c : Nat) : (s.dmaGo c).hostSide = s.hostSide := by
  have hissue : ∀ (u : State) (a : Nat), (if u.dmaMay c then u.dmaIssue c else u).hostSide = u.hostSide := by
    intro u a
    split
    · exact State.hostSide_dmaIssue u c
    · rfl
  exact (State.hostSide_foldl hissue _ _).trans
    ((State.hostSide_dmaFinish _ c).trans (State.hostSide_foldl (fun u _ => u.hostSide_dmaPass c) _ _))

/-! ### The end of a session and of a staged operation -/

theorem State.hostSide_unfreeze (s : State) : s.unfreeze.hostSide = s.hostSide := by
  have hcopy : ∀ (u : State) (k : Nat), (if u.getR Reg.SPD_CPY_STAT_STATE k = 1 then u.copyGo k else u).hostSide = u.hostSide := by
    intro u k
    split
    · exact State.hostSide_congr (((Within.refl u).copyGo k).part_eq .pcie (by decide))
    · rfl
  have hdma : ∀ (u : State) (c : Nat), (if u.getR Reg.PCI_DMA_STAT_STATE c = 1 then u.dmaGo c else u).hostSide = u.hostSide := by
    intro u c
    split
    · exact State.hostSide_dmaGo u c
    · rfl
  exact (State.hostSide_foldl hdma _ _).trans (State.hostSide_foldl hcopy _ _)

theorem State.hostSide_hartResume (s : State) (n : Nat) : (s.hartResume n).hostSide = s.hostSide := by
  cases h : s.flag Reg.HART_HALT n with
  | false => rw [State.hartResume_running h]
  | true =>
    rw [State.hartResume_halted h, State.hostSide_unfreeze]
    exact State.hostSide_congr (((s.hartRuns n).wdtEval_within n).part_eq .pcie (by decide))

theorem State.hostSide_sessionClose (s : State) : s.sessionClose.hostSide = s.hostSide := by
  by_cases h : s.getR Reg.DBG_SESS_STATE 0 = 0
  · rw [State.sessionClose_none h]
  · have hafter : s.sessionClose.hostSide = (s.sessionEnded.setR Reg.DBG_SESS_STATE 0 0).hostSide :=
      State.hostSide_congr ((State.sessionClose_after h).part_eq .pcie (by decide))
    rw [hafter, State.hostSide_setR, State.sessionEnded, State.hostSide_foldl State.hostSide_hartResume]
    exact State.hostSide_congr (s.sessionCleared_within.part_eq .pcie (by decide))

/-- An operation has ended, before what the PCI page signals of it. -/
def State.opEnded (s : State) (st code : Nat) : State :=
  (((((s.bufferEnd.setR Reg.DWN_STAT_STATE 0 st).setR Reg.DWN_STAT_PHASE 0 0).setR Reg.DWN_STAT_CODE 0 code).modDawn (fun d =>
    { d with op := none, images := [] })).stageMirror).irqEdge 10

theorem State.opEnd_eq (s : State) (st code : Nat) : s.opEnd st code =
    if (s.opEnded st code).getR Reg.DWN_STAT_SRC 0 = 2 then ((s.opEnded st code).irqEdge 412).msix 0 3 else s.opEnded st code := rfl

theorem State.opEnded_within (s : State) (st code : Nat) : Within [.dawn] anyField s (s.opEnded st code) :=
  (((((((Within.refl s).bufferEnd (fun _ _ => trivial)).setR _ _ _ trivial).setR _ _ _ trivial).setR _ _ _ trivial).modDawn _ (by decide)).stageMirror
    (fun _ _ => trivial)).irqEdge _ trivial trivial

theorem State.hostSide_opEnd (s : State) (st code : Nat) : (s.opEnd st code).hostSide = s.hostSide := by
  have hended : (s.opEnded st code).hostSide = s.hostSide := State.hostSide_congr ((s.opEnded_within st code).part_eq .pcie (by decide))
  rw [State.opEnd_eq]
  split_ifs
  · rw [State.hostSide_msix, State.hostSide_irqEdge, hended]
  · exact hended

theorem State.hostSide_stageAbort (s : State) (src : Nat) : (s.stageAbort src).hostSide = s.hostSide := by
  unfold State.stageAbort
  split
  · rfl
  · split_ifs
    · rfl
    · exact State.hostSide_congr (((Within.refl s).setR Reg.DWN_STAT_ABORT_LATE 0 1 trivial).stageMirror (ps := []) (W := anyField) (fun _ _ => trivial)
        |>.part_eq .pcie (by decide))
    · exact State.hostSide_opEnd _ _ _

/-- The fields that an abort of a staged operation writes. -/
def abortFields : List Field := Reg.DWN_STAT_ABORT_LATE :: opEndFields

theorem State.stageAbort_within (s : State) (src : Nat) : Within [.dawn, .pcie, .events] (fun f => f ∈ abortFields) s (s.stageAbort src) := by
  have hopEnd : ∀ f ∈ opEndFields, f ∈ abortFields := fun _ hf => List.mem_cons_of_mem _ hf
  unfold State.stageAbort
  split
  · exact .refl s
  · exact .ite (.refl s) (.ite (((Within.refl s).setR _ _ _ (by simp [abortFields])).stageMirror (fun f hf => hopEnd f (by simp [opEndFields, hf])))
      (((Within.refl s).raise _ _ _ _ (by decide)).trans ((State.opEnd_frame _ _ _).mono (by simp) hopEnd)))

/-! ### The link (R521 to R524) -/

theorem Leaves.setEach {ps : List Part} {ks : List Nat} (h : Leaves ps ks s t) (f : Field) (l : List Nat) (v : Nat) (hl : ∀ i ∈ l, f.key i ∈ ks) :
    Leaves ps ks s (t.setEach f l v) := by
  unfold State.setEach
  induction l generalizing t with
  | nil => exact h
  | cons i l ih => exact ih (h.setR f i v (hl i (List.mem_cons_self ..))) (fun j hj => hl j (List.mem_cons_of_mem _ hj))

/-- The link is up, before its events. -/
def State.linkShown (s : State) (rate : Fin 6) (width : Fin 5) (flit : Bool) : State :=
  (((((s.setEach Reg.LNE_CFG_MODE (List.range 16) 5).setR Reg.PCI_STAT_LINK_UP 0 1).setR Reg.PCI_STAT_RATE 0 rate).setR Reg.PCI_STAT_WIDTH 0 (2 ^ width.val)).setR
    Reg.PCI_STAT_FLIT 0 (bit (flit || decide (rate.val = 5))))

theorem exec_pcieLinkUp_stays {rate : Fin 6} {width : Fin 5} {flit degraded : Bool} (h : s.pcie.perst = false ∨ s.flag Reg.PCI_STAT_LINK_UP 0 = true) :
    exec (.pcieLinkUp rate width flit degraded) s = .next s := if_pos (by rcases h with h | h <;> simp [h])

theorem State.linkShown_leaves (s : State) (rate : Fin 6) (width : Fin 5) (flit : Bool) :
    Leaves [.events] ([Reg.PCI_STAT_LINK_UP.key 0, Reg.PCI_STAT_RATE.key 0, Reg.PCI_STAT_WIDTH.key 0, Reg.PCI_STAT_FLIT.key 0]
      ++ (List.range 16).map (fun lane => Reg.LNE_CFG_MODE.key lane)) s (s.linkShown rate width flit) :=
  ((((Leaves.refl.setEach _ _ _ (fun _ hi => List.mem_append_right _ (List.mem_map_of_mem hi))).setR _ _ _ (by simp)).setR _ _ _ (by simp)).setR _ _ _
    (by simp)).setR _ _ _ (by simp)

theorem State.linkShown_up (s : State) (rate : Fin 6) (width : Fin 5) (flit : Bool) : (s.linkShown rate width flit).getR Reg.PCI_STAT_LINK_UP 0 = 1 := by
  rw [State.linkShown, State.getR_setR_id _ _ _ _ _ _ (by decide), State.getR_setR_id _ _ _ _ _ _ (by decide), State.getR_setR_id _ _ _ _ _ _ (by decide),
    State.getR_setR_self]
  rfl

theorem State.linkShown_rate (s : State) (rate : Fin 6) (width : Fin 5) (flit : Bool) : (s.linkShown rate width flit).getR Reg.PCI_STAT_RATE 0 = rate.val := by
  rw [State.linkShown, State.getR_setR_id _ _ _ _ _ _ (by decide), State.getR_setR_id _ _ _ _ _ _ (by decide), State.getR_setR_self]
  exact Field.norm_of_lt rfl (rate.isLt.trans (by decide))

theorem State.linkShown_width (s : State) (rate : Fin 6) (width : Fin 5) (flit : Bool) :
    (s.linkShown rate width flit).getR Reg.PCI_STAT_WIDTH 0 = 2 ^ width.val := by
  rw [State.linkShown, State.getR_setR_id _ _ _ _ _ _ (by decide), State.getR_setR_self]
  exact Field.norm_of_lt rfl (Nat.pow_lt_pow_right (by decide) width.isLt)

theorem State.linkShown_flit (s : State) (rate : Fin 6) (width : Fin 5) (flit : Bool) :
    (s.linkShown rate width flit).getR Reg.PCI_STAT_FLIT 0 = bit (flit || decide (rate.val = 5)) := by
  rw [State.linkShown, State.getR_setR_self]
  cases flit || decide (rate.val = 5) <;> rfl

theorem State.linkShown_mode (s : State) (rate : Fin 6) (width : Fin 5) (flit : Bool) {lane : Nat} (hl : lane < 16) :
    (s.linkShown rate width flit).getR Reg.LNE_CFG_MODE lane = 5 := by
  rw [State.linkShown, State.getR_setR_id _ _ _ _ _ _ (by decide), State.getR_setR_id _ _ _ _ _ _ (by decide), State.getR_setR_id _ _ _ _ _ _ (by decide),
    State.getR_setR_id _ _ _ _ _ _ (by decide), State.getR_setEach, if_pos (List.mem_range.mpr hl)]
  rfl

theorem State.linkShown_within (s : State) (rate : Fin 6) (width : Fin 5) (flit : Bool) : Within [] anyField s (s.linkShown rate width flit) :=
  (((((Within.refl s).setEach _ _ _ trivial).setR _ _ _ trivial).setR _ _ _ trivial).setR _ _ _ trivial).setR _ _ _ trivial

theorem State.linkShown_events (s : State) (rate : Fin 6) (width : Fin 5) (flit : Bool) :
    (s.linkShown rate width flit).events = s.events ∧ (s.linkShown rate width flit).time = s.time :=
  have h := s.linkShown_within rate width flit
  ⟨h.part_eq .events (by decide), h.part_eq .time (by decide)⟩

/-- A link of fewer than 16 lanes. -/
theorem width_narrow (width : Fin 5) : 2 ^ width.val < 16 ↔ width.val < 4 := by
  revert width
  decide

/-- A link's entry to L0 is an event, a degraded or narrow one a second. -/
def State.linkRaised (s : State) (degraded : Bool) (width detail : Nat) : State :=
  if degraded = true ∨ width < 4 then (s.raise pcieEp 0x0E01 0 detail).raise pcieEp 0x0E03 2 detail else s.raise pcieEp 0x0E01 0 detail

theorem State.linkRaised_within (s : State) (degraded : Bool) (width detail : Nat) :
    Within [.events] (fun _ => False) s (s.linkRaised degraded width detail) :=
  .ite (((Within.refl s).raise _ _ _ _ (by decide)).raise _ _ _ _ (by decide)) ((Within.refl s).raise _ _ _ _ (by decide))

theorem State.linkRaised_leaves (s : State) (degraded : Bool) (width detail : Nat) : Leaves [.events] [] s (s.linkRaised degraded width detail) :=
  .ite ((Leaves.refl.raise _ _ _ _ (by decide)).raise _ _ _ _ (by decide)) (Leaves.refl.raise _ _ _ _ (by decide))

theorem State.getR_linkRaised (s : State) (degraded : Bool) (width detail : Nat) (f : Field) (i : Nat) :
    (s.linkRaised degraded width detail).getR f i = s.getR f i :=
  (s.linkRaised_within degraded width detail).getR_eq f i (fun _ h => h.elim)

theorem State.linkRaised_events (s : State) (degraded : Bool) (width detail : Nat) : (s.linkRaised degraded width detail).events =
    if degraded = true ∨ width < 4 then
      raiseIn (raiseIn s.events (evKey pcieEp 0x0E01) s.time.toNat 0 (detail % 2 ^ 128)) (evKey pcieEp 0x0E03) s.time.toNat 2 (detail % 2 ^ 128)
    else raiseIn s.events (evKey pcieEp 0x0E01) s.time.toNat 0 (detail % 2 ^ 128) := by
  unfold State.linkRaised
  split <;> rfl

theorem exec_pcieLinkUp {rate : Fin 6} {width : Fin 5} {flit degraded : Bool} (hp : s.pcie.perst = true) (hl : s.flag Reg.PCI_STAT_LINK_UP 0 = false) :
    exec (.pcieLinkUp rate width flit degraded) s =
      .next ((s.linkShown rate width flit).linkRaised degraded width (pcieDetail 0 0 0 rate (2 ^ width.val))) := by
  refine (if_neg (by simp [hp, hl])).trans (congrArg Host.Outcome.next ?_)
  simp only [Bool.or_eq_true, decide_eq_true_eq, width_narrow]
  rfl

/-! ### Hot reset (R33, R545) -/

/-- The PCIe page's fields and state put back, but PERST_N. -/
def State.hotCleared (s : State) : State :=
  (s.modRegs (fun m => m.filter (fun e => !(decide (Reg.porTop ≤ e.1 % Field.idBound) && decide (e.1 % Field.idBound < Reg.hotTop))))).modPcie
    (fun _ => { State.reset.pcie with perst := s.pcie.perst })

theorem State.hotReset_held (h : s.inReset = true) : s.hotReset = s := if_pos h

/-- A hot reset with HOT_WARM 0 and no session of PF0. -/
theorem State.hotReset_alone (hr : s.inReset = false) (hw : s.flag Reg.DEV_RST_CFG_HOT_WARM 0 = false) (hs : s.getR Reg.DBG_SESS_STATE 0 ≠ 2) :
    s.hotReset = ((s.hotCleared.pcieLines).setR Reg.DEV_RST_CAUSE_HOT 0 1).raise pcieEp 0x0E04 0 (pcieDetail 0) := by
  have hnow : s.hotReset = s.hotNow := if_neg (by simp [hr])
  have hcond : ¬ s.flag Reg.DEV_RST_CFG_HOT_WARM 0 = true := by simp [hw]
  rw [hnow]
  simp only [State.hotNow, if_neg hs, if_neg hcond]
  rfl

theorem State.pcieLines_within (s : State) : Within [] (fun f => f ∈ [Reg.PLIC_LEVEL, Reg.PLIC_PEND]) s s.pcieLines :=
  ((Within.refl s).irqLevel _ _ (by simp) (by simp)).irqLevel _ _ (by simp) (by simp)

/-- What a hot reset does after what it puts back: the interrupt lines and its cause. -/
theorem State.hotCaused_within (s : State) :
    Within [] (fun f => f ∈ [Reg.PLIC_LEVEL, Reg.PLIC_PEND, Reg.DEV_RST_CAUSE_HOT]) s.hotCleared ((s.hotCleared.pcieLines).setR Reg.DEV_RST_CAUSE_HOT 0 1) :=
  ((State.pcieLines_within _).mono (by simp) (by simp)).setR _ _ _ (by simp)

/-- A field of the PCIe hot class has been put back. -/
theorem State.getR_hotCleared (s : State) {f : Field} (i : Nat) (hlo : Reg.porTop ≤ f.id) (hhi : f.id < Reg.hotTop) : s.hotCleared.getR f i = f.rst i := by
  have hid : f.id % Field.idBound = f.id := Nat.mod_eq_of_lt (hhi.trans (by decide))
  have hkey : f.key i % Field.idBound = f.id := by rw [Field.key_mod, hid]
  change Map.get (f.rst i) (s.regs.filter (fun e => !(decide (Reg.porTop ≤ e.1 % Field.idBound) && decide (e.1 % Field.idBound < Reg.hotTop)))) (f.key i) = _
  rw [Map.get, Map.find_filter_key (fun k => !(decide (Reg.porTop ≤ k % Field.idBound) && decide (k % Field.idBound < Reg.hotTop))), hkey]
  simp [hlo, hhi]

/-- The fields that a hot reset writes after it are not of the class. -/
theorem hot_ne_caused {f : Field} (hlo : Reg.porTop ≤ f.id) (hhi : f.id < Reg.hotTop) :
    ∀ g ∈ [Reg.PLIC_LEVEL, Reg.PLIC_PEND, Reg.DEV_RST_CAUSE_HOT], f.id % Field.idBound ≠ g.id % Field.idBound := by
  have hid : f.id % Field.idBound = f.id := Nat.mod_eq_of_lt (hhi.trans (by decide))
  rw [hid]
  simp only [List.forall_mem_cons, List.not_mem_nil, false_imp_iff, implies_true, and_true]
  exact ⟨fun h => absurd (h ▸ hhi) (by decide), fun h => absurd (h ▸ hhi) (by decide), fun h => absurd (h ▸ hlo) (by decide)⟩

/-! ### Host requests (R526 to R532) -/

section
variable {fn : Fin 34} {bar2 : Bool} {off bytes : Nat}

theorem exec_pcieHostRead (hl : s.flag Reg.PCI_STAT_LINK_UP 0 = true) : exec (.pcieHostRead fn bar2 off bytes) s =
    if !s.fnAnswers fn || !inBar bar2 fn off bytes then .next (s.respond 0 cplUr)
    else if bar2 then .next (s.windowRead fn off bytes) else .next (s.bar0Read fn off bytes) := if_neg (by simp [hl])

theorem exec_pcieHostRead_serves (hl : s.flag Reg.PCI_STAT_LINK_UP 0 = true) (ha : s.fnAnswers fn = true) (hb : inBar bar2 fn off bytes = true) :
    exec (.pcieHostRead fn bar2 off bytes) s = if bar2 then .next (s.windowRead fn off bytes) else .next (s.bar0Read fn off bytes) :=
  (exec_pcieHostRead hl).trans (if_neg (by simp [ha, hb]))

theorem exec_pcieHostWrite_stays {data : Nat} {poison : Bool}
    (h : s.flag Reg.PCI_STAT_LINK_UP 0 = false ∨ s.fnAnswers fn = false ∨ inBar bar2 fn off bytes = false) :
    exec (.pcieHostWrite fn bar2 off bytes data poison) s = .next s := if_pos (by rcases h with h | h | h <;> simp [h])

theorem exec_pcieHostWrite_serves {data : Nat} {poison : Bool} (hl : s.flag Reg.PCI_STAT_LINK_UP 0 = true) (ha : s.fnAnswers fn = true)
    (hb : inBar bar2 fn off bytes = true) : exec (.pcieHostWrite fn bar2 off bytes data poison) s =
    if bar2 then .next (s.windowWrite fn off bytes data poison) else .next (s.bar0Write fn off bytes data poison) :=
  if_neg (by simp [hl, ha, hb])

/-- An aligned word of BAR0 beyond PF0's page. -/
theorem State.bar0Read_word (hfn : 0 < fn.val) (h4 : off % 4 = 0) : s.bar0Read fn off 4 = s.respond (s.bar0Word fn off) 0 := by
  simp [State.bar0Read, wordSized, Nat.ne_of_gt hfn, h4, cplOk]

/-- An aligned word of the PCI page through PF0's BAR0. -/
theorem State.bar0Read_page (hoff : off < 0x10000) (h4 : off % 4 = 0) : s.bar0Read 0 off 4 =
    (s.busRead pkgEp (0x6000070000 + off) false false pcieEp).respond (s.busRead pkgEp (0x6000070000 + off) false false pcieEp).resp.data
      (cplStatus (s.busRead pkgEp (0x6000070000 + off) false false pcieEp).resp.status) (s.busRead pkgEp (0x6000070000 + off) false false pcieEp).resp.poison := by
  simp [State.bar0Read, wordSized, hoff, h4, pciPage]

/-- A read's part that does not reach a multiple of 512 is one. -/
theorem cut512_one {a : Nat} (h : a % 512 ≤ 504) : cut512 2 a 8 = [(a, 8)] := by
  have hmin : min 8 (512 - a % 512) = 8 := by omega
  simp [cut512, hmin]

/-- A host read is answered with a decode error, before its completion. -/
def State.pastTop (s : State) (fn a : Nat) : State :=
  (s.modPcie (fun p => { p with reads := [⟨fn, p.seq, true, [⟨a, 8, some (1, 0, false)⟩]⟩], seq := p.seq + 1, cpls := [] })).raise pcieEp 0x0201 2
    (a % 2 ^ 48 + pcieEp * 2 ^ 48)

theorem State.pastTop_events (s : State) (fn a : Nat) : (s.pastTop fn a).events =
    raiseIn s.events (evKey pcieEp 0x0201) s.time.toNat 2 (a % 2 ^ 48 + 0x05A0 * 2 ^ 48) := by
  have hep : pcieEp = 0x05A0 := rfl
  have hdetail : (a % 2 ^ 48 + pcieEp * 2 ^ 48) % 2 ^ 128 = a % 2 ^ 48 + 0x05A0 * 2 ^ 48 := by
    rw [hep]
    exact Nat.mod_eq_of_lt (by omega)
  rw [State.pastTop, State.raise_events, hdetail]
  rfl

/-- A read of one part past the top of the address space is answered at once, where no other read or write is in progress. -/
theorem State.windowRead_pastTop {a : Nat} (ha : s.winBase fn + off = a) (h512 : a % 512 ≤ 504) (htop : 2 ^ 48 ≤ a) (hreads : s.pcie.reads = [])
    (hwrites : s.pcie.writes = []) : s.windowRead fn off 8 = (s.pastTop fn a).completeReads := by
  have hparts : cut512 (8 / 512 + 2) (s.winBase fn + off) 8 = [(a, 8)] := ha ▸ cut512_one (ha ▸ h512)
  have hpart : ∀ u : State, u.sendPart fn ⟨a, 8, none⟩ = (u.raise pcieEp 0x0201 2 (a % 2 ^ 48 + pcieEp * 2 ^ 48), ⟨a, 8, some (1, 0, false)⟩) :=
    fun u => if_pos htop
  simp [State.windowRead, hparts, State.issueReads, hreads, State.mayIssue, hwrites, hpart, State.pastTop, State.modPcie, State.raise, State.modEvents]

theorem State.completeReads_pastTop (s : State) (a : Nat) : (s.pastTop fn a).completeReads =
    ((((s.pastTop fn a).modResp (fun _ => ⟨0, 1, false⟩)).modPcie (fun x => { x with cpls := x.cpls ++ [⟨0, 1, false⟩] })).modPcie (fun p => { p with reads := [] })) := by
  have hreads : (s.pastTop fn a).pcie.reads = [⟨fn, s.pcie.seq, true, [⟨a, 8, some (1, 0, false)⟩]⟩] := rfl
  simp [State.completeReads, hreads, State.completeParts, cplStatus, cplOk, cplUr]

end

/-- The doorbell at the start of a function's BAR0 (R526, R537). -/
theorem State.bar0Write_doorbell {fn : Fin 34} {data : Nat} (hfn : fn.val ≠ 0) : s.bar0Write fn 0 4 data false = took (execPcieDoorbell fn s) s := by
  simp [State.bar0Write, wordSized, hfn, State.bar0Put, bar0]

theorem exec_pcieDoorbell {fn : Fin 34} (hfn : fn.val ≠ 0) (hen : s.fnEnabled fn = true) : execPcieDoorbell fn s =
    .next (if fn.val = 1 then (s.setR Reg.PCI_DB_PF1 0 1).pcieLines
      else (s.setR Reg.PCI_DB_VF 0 (setBit (s.getR Reg.PCI_DB_VF 0) (fn.val - 2))).pcieLines) := by
  simp only [execPcieDoorbell, hfn, hen, Bool.true_eq_false, or_self, if_false]
  split_ifs <;> rfl

theorem State.fnEnabled_of_answers {fn : Nat} (h : s.fnAnswers fn = true) : s.fnEnabled fn = true := by
  simp only [State.fnAnswers, Bool.and_eq_true] at h
  exact h.1

theorem exec_pcieDeviceResponse : exec .pcieDeviceResponse s =
    match takeFirst (fun p => (decide (p.kind = 2) || decide (p.kind = 4)) && decide (p.tag < 128)) (s.inbox pcieEp) with
    | none => .next s
    | some (p, rest) => .next ((((s.putInbox pcieEp rest).modPcie (fun x => { x with cpls := [] })).hostResponse p).issueReads) := rfl

/-! ### MSI-X (R536) -/

theorem State.msix_beyond {fn v : Nat} (h : msixCount fn ≤ v) : s.msix fn v = s := if_pos h

theorem State.msix_closed {fn v : Nat} (h : v < msixCount fn) (ho : s.msixOpen fn v = false) :
    s.msix fn v = s.putMsix fn v { s.msixVec fn v with pending := true } := by
  simp [State.msix, Nat.not_le.mpr h, ho]

theorem State.msix_open {fn v : Nat} (h : v < msixCount fn) (ho : s.msixOpen fn v = true) :
    s.msix fn v = (s.putMsix fn v { s.msixVec fn v with pending := false }).modPcie (fun p =>
      { p with tlp := some ⟨fn, (s.msixVec fn v).addr, 4, (s.msixVec fn v).data⟩ }) := by
  simp [State.msix, Nat.not_le.mpr h, ho]

/-! ### Function-level reset (R546) -/

/-- A function's settings, vectors and reads are put back. -/
def State.flrCleared (s : State) (fn : Nat) : State :=
  s.modPcie (fun p => { p with
    reads := p.reads.filter (fun r => !decide (r.fn = fn))
    bme := listed p.bme fn false
    d3 := listed p.d3 fn false
    msixOn := listed p.msixOn fn false
    msixMask := listed p.msixMask fn false
    numVfs := if fn = 1 then 0 else p.numVfs
    msix := p.msix.filter (fun e => !decide (e.1 / 64 = fn)) })

/-- A function's channels have failed, and its settings are put back. -/
def State.flrSettings (s : State) (fn : Nat) : State := (s.dmaFlr fn).flrCleared fn

theorem State.flrCleared_pcie (s : State) (fn : Nat) : (s.flrCleared fn).pcie.bme = listed s.pcie.bme fn false
    ∧ (s.flrCleared fn).pcie.d3 = listed s.pcie.d3 fn false ∧ (s.flrCleared fn).pcie.msixOn = listed s.pcie.msixOn fn false
    ∧ (s.flrCleared fn).pcie.reads = s.pcie.reads.filter (fun r => !decide (r.fn = fn))
    ∧ (s.flrCleared fn).pcie.numVfs = if fn = 1 then 0 else s.pcie.numVfs := ⟨rfl, rfl, rfl, rfl, rfl⟩

/-- The function's doorbell is cleared. -/
def State.flrDoorbell (s : State) (fn : Nat) : State :=
  if fn = 1 then s.setR Reg.PCI_DB_PF1 0 0 else if 2 ≤ fn then s.setR Reg.PCI_DB_VF 0 (clrBit (s.getR Reg.PCI_DB_VF 0) (fn - 2)) else s

/-- The fields of the mailboxes. -/
def mailboxFields : List Field :=
  [Reg.PCI_MBX_H2D_LEN, Reg.PCI_MBX_H2D_FULL, Reg.PCI_MBX_H2D_REJ, Reg.PCI_MBX_D2H_LEN, Reg.PCI_MBX_D2H_FULL, Reg.PCI_MBX_D2H_REJ]

/-- PF0's mailboxes are put back, and its debug session and staged operation end. -/
def State.flrMailbox (s : State) (session : Bool) : State :=
  (if session then (s.resetFields mailboxFields 0).sessionClose else s.resetFields mailboxFields 0).stageAbort 2

/-- The state that a function-level reset leaves, before the interrupt lines and its event. -/
def State.flrDone (s : State) (fn : Nat) : State :=
  if fn = 0 then ((s.flrSettings fn).flrDoorbell fn).flrMailbox (decide (s.getR Reg.DBG_SESS_STATE 0 = 2)) else (s.flrSettings fn).flrDoorbell fn

theorem exec_pciFlr {fn : Fin 34} (h : s.fnEnabled fn = true) :
    exec (.pciFlr fn) s = .next ((s.flrDone fn).pcieLines.raise pcieEp 0x0E05 0 (pcieDetail 0 0 fn)) := by
  refine (if_neg (by simp [h])).trans (congrArg (fun u : State => Host.Outcome.next (u.pcieLines.raise pcieEp 0x0E05 0 (pcieDetail 0 0 fn))) ?_)
  simp only [State.flrDone, State.flrMailbox, decide_eq_true_eq]
  rfl

theorem Within.dmaFlr (h : Within dmaParts (fun f => f ∈ channelFields) s t) (fn : Nat) :
    Within dmaParts (fun f => f ∈ channelFields) s (t.dmaFlr fn) :=
  h.foldl (fun _ c k => .ite ((k.modDma c _).dmaFinish c) k) _

theorem State.flrSettings_within (s : State) (fn : Nat) : Within dmaParts (fun f => f ∈ channelFields) s (s.flrSettings fn) := by
  unfold State.flrSettings State.flrCleared
  exact ((Within.refl s).dmaFlr fn).modPcie _ (by decide)

theorem State.hostSide_flrDoorbell (s : State) (fn : Nat) : (s.flrDoorbell fn).hostSide = s.hostSide := by
  unfold State.flrDoorbell
  split_ifs <;> rfl

theorem State.flrMailbox_eq (s : State) (session : Bool) : ∃ u : State, s.flrMailbox session = u.stageAbort 2 ∧ u.hostSide = s.hostSide
    ∧ Within (.dbg :: runParts) (fun f => f ∈ sessionFields) (s.resetFields mailboxFields 0) u := by
  have hreset : (s.resetFields mailboxFields 0).hostSide = s.hostSide :=
    State.hostSide_congr (((Within.refl s).resetFields (ps := []) (W := anyField) _ 0 (fun _ _ => trivial)).part_eq .pcie (by decide))
  cases session with
  | false => exact ⟨_, rfl, hreset, .refl _⟩
  | true => exact ⟨_, rfl, (State.hostSide_sessionClose _).trans hreset, State.sessionClose_within _⟩

theorem State.hostSide_flrMailbox (s : State) (session : Bool) : (s.flrMailbox session).hostSide = s.hostSide := by
  obtain ⟨u, hu, hside, -⟩ := s.flrMailbox_eq session
  rw [hu, State.hostSide_stageAbort, hside]

/-- After PF0's reset its mailboxes are empty. -/
theorem State.flag_flrMailbox (s : State) (session : Bool) :
    (s.flrMailbox session).flag Reg.PCI_MBX_H2D_FULL 0 = false ∧ (s.flrMailbox session).flag Reg.PCI_MBX_D2H_FULL 0 = false := by
  obtain ⟨u, hu, -, hclose⟩ := s.flrMailbox_eq session
  have habort := u.stageAbort_within 2
  have hh2d : (s.resetFields mailboxFields 0).getR Reg.PCI_MBX_H2D_FULL 0 = 0 :=
    (State.getR_resetFields s [Reg.PCI_MBX_H2D_LEN] [Reg.PCI_MBX_H2D_REJ, Reg.PCI_MBX_D2H_LEN, Reg.PCI_MBX_D2H_FULL, Reg.PCI_MBX_D2H_REJ]
      Reg.PCI_MBX_H2D_FULL 0 (by decide))
  have hd2h : (s.resetFields mailboxFields 0).getR Reg.PCI_MBX_D2H_FULL 0 = 0 :=
    (State.getR_resetFields s [Reg.PCI_MBX_H2D_LEN, Reg.PCI_MBX_H2D_FULL, Reg.PCI_MBX_H2D_REJ, Reg.PCI_MBX_D2H_LEN] [Reg.PCI_MBX_D2H_REJ]
      Reg.PCI_MBX_D2H_FULL 0 (by decide))
  rw [hu]
  refine ⟨decide_eq_false ?_, decide_eq_false ?_⟩
  · rw [habort.getR_eq _ _ (by decide), hclose.getR_eq _ _ (by decide), hh2d]
    decide
  · rw [habort.getR_eq _ _ (by decide), hclose.getR_eq _ _ (by decide), hd2h]
    decide

theorem State.hostSide_flrDone (s : State) (fn : Nat) : (s.flrDone fn).hostSide = (s.flrSettings fn).hostSide := by
  unfold State.flrDone
  split
  · rw [State.hostSide_flrMailbox, State.hostSide_flrDoorbell]
  · rw [State.hostSide_flrDoorbell]

theorem State.getR_pf1_flrDone (s : State) : (s.flrDone 1).getR Reg.PCI_DB_PF1 0 = 0 := by
  rw [State.flrDone, if_neg (by decide), State.flrDoorbell, if_pos rfl, State.getR_setR_self]
  rfl

theorem State.getR_vf_flrDone (s : State) {fn : Nat} (h : 2 ≤ fn) :
    (s.flrDone fn).getR Reg.PCI_DB_VF 0 = clrBit (s.getR Reg.PCI_DB_VF 0) (fn - 2) % 2 ^ 32 := by
  have hwidth : Reg.PCI_DB_VF.width = 32 := rfl
  have halign : Reg.PCI_DB_VF.align = 0 := rfl
  rw [State.flrDone, if_neg (by omega), State.flrDoorbell, if_neg (by omega), if_pos h, State.getR_setR_self, (s.flrSettings_within fn).getR_eq _ _ (by decide),
    Field.norm, hwidth, halign]
  simp

/-! ### The commands -/

/-- Settles O49, command by command, by the branch that its conditions take. -/
theorem pcieLinkAndFunctionCommandsComplete : Obligations.PcieLinkAndFunctionCommandsComplete := by
  unfold Obligations.PcieLinkAndFunctionCommandsComplete
  refine ⟨fun s => rfl, ?linkUp, fun s rate width flit degraded h => exec_pcieLinkUp_stays h, fun s h => ⟨State.when_true _ _ h, State.when_true _ _ h⟩,
    fun s => rfl, fun s => ⟨State.hotReset_held, fun h => ⟨State.when_false _ _ h, State.when_false _ _ h⟩⟩, ?hot, ?config, ?down, ?read, ?top, ?write,
    ?response, ?noResponse, ?putFailed, ?msix, ?doorbell, ?noDoorbell, ?h2d, ?d2h, ?flr, fun s fn h => if_pos (by simp [h])⟩
  case linkUp =>
    intro s rate width flit degraded hp hl
    obtain ⟨hev, htime⟩ := s.linkShown_events rate width flit
    refine ⟨_, exec_pcieLinkUp hp hl, ?_, ?_, ?_, ?_, ?_, fun lane hlane => ?_, ?_⟩
    · rw [State.getR_linkRaised, State.linkShown_up]
    · rw [State.getR_linkRaised, State.linkShown_rate]
    · rw [State.getR_linkRaised, State.linkShown_width]
    · rw [State.getR_linkRaised, State.linkShown_flit]
    · rw [State.linkRaised_events, hev, htime]
    · rw [State.getR_linkRaised, State.linkShown_mode _ _ _ _ hlane]
    · exact (s.linkShown_leaves rate width flit).trans ((State.linkRaised_leaves _ _ _ _).mono (by simp) (by simp))
  case hot =>
    rintro s f i hr hw hs ⟨hlo, hhi⟩
    have hcaused := s.hotCaused_within
    rw [State.hotReset_alone hr hw hs]
    refine ⟨?_, hcaused.part_eq .pcie (by decide), State.getR_setR_self s.hotCleared.pcieLines Reg.DEV_RST_CAUSE_HOT 0 1, hcaused.part_eq .mem (by decide),
      hcaused.part_eq .dawn (by decide), hcaused.part_eq .fab (by decide), hcaused.part_eq .noc (by decide), hcaused.part_eq .thy (by decide), ?_⟩
    · exact (hcaused.getR_eq f i (hot_ne_caused hlo hhi)).trans (s.getR_hotCleared i hlo hhi)
    · have hev : ((s.hotCleared.pcieLines).setR Reg.DEV_RST_CAUSE_HOT 0 1).events = s.events := hcaused.part_eq .events (by decide)
      have htime : ((s.hotCleared.pcieLines).setR Reg.DEV_RST_CAUSE_HOT 0 1).time = s.time := hcaused.part_eq .time (by decide)
      rw [State.raise_events, hev, htime]
  case config =>
    intro s fn on mask k acc hl
    have hup : ¬ (!s.flag Reg.PCI_STAT_LINK_UP 0) = true := by simp [hl]
    refine ⟨fun h => (if_neg hup).trans (if_pos (by simp [h])), fun h => ?_⟩
    have hon : ¬ (!s.fnEnabled fn) = true := by simp [h]
    exact ⟨(if_neg hup).trans (if_neg hon), (if_neg hup).trans (if_neg hon), (if_neg hup).trans (if_neg hon), (if_neg hup).trans (if_neg hon),
      (if_neg hup).trans (if_neg hon), (if_neg hup).trans (if_neg hon), (if_neg hup).trans (if_neg hon)⟩
  case down =>
    intro s fn acc bar2 poison off bytes data h
    exact ⟨if_pos (by simp [h]), if_pos (by simp [h]), exec_pcieHostWrite_stays (.inl h)⟩
  case read =>
    intro s fn bar2 off bytes hl
    refine ⟨fun h => ⟨?_, fun data poison => exec_pcieHostWrite_stays (.inr h)⟩, fun ha hb => exec_pcieHostRead_serves hl ha hb,
      fun ha hb => exec_pcieHostRead_serves hl ha hb, fun ha hb hfn h4 ho => ?_, fun ha hfn ho h4 ho4 => ⟨_, rfl, ?_⟩⟩
    · exact (exec_pcieHostRead hl).trans (if_pos (by rcases h with h | h <;> simp [h]))
    · subst h4
      exact (exec_pcieHostRead_serves hl ha hb).trans (congrArg Host.Outcome.next (State.bar0Read_word hfn ho))
    · subst h4
      have hin : inBar false fn off 4 = true := by
        simp only [inBar, Bool.false_eq_true, if_false, bar0Size, hfn, if_true, decide_eq_true_eq]
        omega
      refine (exec_pcieHostRead_serves hl ha hin).trans (congrArg Host.Outcome.next ?_)
      rw [hfn]
      exact State.bar0Read_page ho ho4
  case top =>
    rintro s fn off hl ha ⟨hsz, h504⟩ ⟨htop, hbase⟩ ⟨hreads, hwrites⟩
    have hin : inBar true fn off 8 = true := by simp [inBar, hsz]
    have hread := State.windowRead_pastTop (s := s) (fn := fn) (off := off) rfl (by omega) htop hreads hwrites
    rw [State.completeReads_pastTop] at hread
    exact ⟨_, (exec_pcieHostRead_serves hl ha hin).trans (congrArg Host.Outcome.next hread), rfl, rfl,
      (s.pastTop_events fn _).trans rfl,
      ((((Leaves.refl.modPcie _ (by decide)).raise _ _ _ _ (by decide)).modResp _ (by decide)).modPcie _ (by decide)).modPcie _ (by decide)⟩
  case write =>
    intro s fn off bytes data poison hl ha
    have hdoor : inBar false fn 0 4 = true := by
      simp only [inBar, Bool.false_eq_true, if_false, bar0Size, decide_eq_true_eq]
      split <;> omega
    have hring : fn.val ≠ 0 → exec (.pcieHostWrite fn false 0 4 data false) s = .next (if fn.val = 1 then (s.setR Reg.PCI_DB_PF1 0 1).pcieLines
        else (s.setR Reg.PCI_DB_VF 0 (setBit (s.getR Reg.PCI_DB_VF 0) (fn.val - 2))).pcieLines) := fun hfn => by
      refine (exec_pcieHostWrite_serves hl ha hdoor).trans (congrArg _ ?_)
      rw [State.bar0Write_doorbell hfn, exec_pcieDoorbell hfn (State.fnEnabled_of_answers ha)]
      rfl
    refine ⟨fun hb => exec_pcieHostWrite_serves hl ha hb, fun hb => exec_pcieHostWrite_serves hl ha hb, fun h1 => ?_, fun h2 => ?_⟩
    · rw [hring (by omega), if_pos h1]
    · rw [hring (by omega), if_neg (by omega)]
  case response =>
    intro s p rest h
    rw [exec_pcieDeviceResponse, h]
  case noResponse =>
    intro s h
    rw [exec_pcieDeviceResponse, h]
  case putFailed => exact fun s fn addr st => ⟨rfl, rfl, (Leaves.refl.raise _ _ _ _ (by decide)).modPcie _ (by decide)⟩
  case msix =>
    intro s fn vec
    refine ⟨fun h => congrArg Host.Outcome.next (State.msix_beyond h), fun h ho => congrArg Host.Outcome.next (State.msix_closed h ho),
      fun h ho => ⟨_, congrArg Host.Outcome.next (State.msix_open h ho), rfl, ?_, (Leaves.refl.modPcie _ (by decide)).modPcie _ (by decide)⟩⟩
    exact congrArg MsixVec.pending (Map.get_set_self msix0 s.pcie.msix (fn.toNat * 64 + vec.toNat) { s.msixVec fn.toNat vec.toNat with pending := false })
  case doorbell => exact fun s fn hfn hen => exec_pcieDoorbell hfn hen
  case noDoorbell => exact fun s fn h => if_pos h
  case h2d => exact fun s len => ⟨fun h => if_pos h, fun h => if_neg (by simp [h])⟩
  case d2h => exact fun s len => ⟨fun h => if_pos h, fun h => if_neg (by simp [h])⟩
  case flr =>
    intro s fn hen
    have hlines := (s.flrDone fn).pcieLines_within
    have hside : (s.flrDone fn).pcieLines.hostSide = ((s.dmaFlr fn).flrCleared fn).hostSide :=
      (State.hostSide_congr (hlines.part_eq .pcie (by decide))).trans (s.hostSide_flrDone fn)
    simp only [State.hostSide, Prod.mk.injEq] at hside
    obtain ⟨hbme, hd3, hmsix, hreads, hvfs⟩ := hside
    obtain ⟨hbme0, hd30, hmsix0, hreads0, hvfs0⟩ := (s.dmaFlr fn).flrCleared_pcie fn
    rw [hbme0] at hbme
    rw [hd30] at hd3
    rw [hmsix0] at hmsix
    rw [hreads0] at hreads
    rw [hvfs0] at hvfs
    refine ⟨⟨_, exec_pciFlr hen⟩, _, exec_pciFlr hen, ?_, ?_, ?_, fun r hr => ?_, fun h1 => ⟨?_, ?_⟩, fun h2 => ?_, fun h0 => ⟨?_, ?_⟩⟩
    · rw [State.pcie_raise, hbme, contains_listed]
    · rw [State.pcie_raise, hd3, contains_listed]
    · rw [State.pcie_raise, hmsix, contains_listed]
    · rw [State.pcie_raise, hreads] at hr
      simpa using (List.mem_filter.mp hr).2
    · rw [State.getR_raise, hlines.getR_eq _ _ (by decide), h1, State.getR_pf1_flrDone]
    · rw [State.pcie_raise, hvfs, if_pos h1]
    · rw [State.getR_raise, hlines.getR_eq _ _ (by decide), State.getR_vf_flrDone s h2]
    · rw [State.flag, State.getR_raise, hlines.getR_eq _ _ (by decide), h0]
      exact (State.flag_flrMailbox _ _).1
    · rw [State.flag, State.getR_raise, hlines.getR_eq _ _ (by decide), h0]
      exact (State.flag_flrMailbox _ _).2

end Sys2Proof.Machine
end

section
/-!
PROOF. The service pins and the JTAG port (R584, R704 to R717, R744, R745): a pin's configuration and its effective function, the lock sequence, and the
instructions of the TAP, of which only one that is left while it controls the balls resets the device.
-/

namespace Sys2Proof.Machine

variable {s t : State}

/-! ### Pin configuration (R704, R705, R714) -/

section
variable {n : Fin 64} {value : BitVec 32} {req : BitVec 16}

theorem exec_svpPinCfgWrite_refused (h : isMgmt req.toNat = false) : exec (.svpPinCfgWrite n value req) s = .next (s.respond 0 2) :=
  if_pos (by simp [h])

theorem exec_svpPinCfgWrite_locked (h : isMgmt req.toNat = true) (hl : s.flag Reg.SVP_PIN_CFG_LOCKED n = true) :
    exec (.svpPinCfgWrite n value req) s = .next (s.respond 0 0) :=
  (if_neg (by simp [h])).trans (if_pos hl)

/-- The fields that a pin takes of a written word. -/
def pinFields (func v : Nat) : List (Field × Nat) :=
  [(Reg.SVP_PIN_CFG_FUNC, func), (Reg.SVP_PIN_CFG_THR, v / 2 ^ 3), (Reg.SVP_PIN_CFG_HYS, v / 2 ^ 4), (Reg.SVP_PIN_CFG_PULL, v / 2 ^ 5),
    (Reg.SVP_PIN_CFG_DRIVE, v / 2 ^ 7), (Reg.SVP_PIN_CFG_SLEW, v / 2 ^ 9), (Reg.SVP_PIN_CFG_OD, v / 2 ^ 10), (Reg.SVP_PIN_CFG_WPOL, v / 2 ^ 11)]

/-- Put values into fields of one element. -/
def State.setFields (s : State) (l : List (Field × Nat)) (i : Nat) : State := l.foldl (fun u e => u.setR e.1 i e.2) s

/-- The function that a written word selects: the codes of claims read back as 7. -/
def pinFunc (v : Nat) : Nat := if v % 8 = 0 ∨ v % 8 = 1 ∨ v % 8 = 3 ∨ v % 8 = 4 then 7 else v % 8

theorem exec_svpPinCfgWrite (h : isMgmt req.toNat = true) (hl : s.flag Reg.SVP_PIN_CFG_LOCKED n = false) :
    exec (.svpPinCfgWrite n value req) s = .next ((s.respond 0 0).setFields (pinFields (pinFunc value.toNat) value.toNat) n) :=
  (if_neg (by simp [h])).trans (if_neg (by simp [hl]))

end

theorem pinFunc_eq (v : Nat) : pinFunc v = if v % 8 ∈ [0, 1, 3, 4] then 7 else v % 8 := by
  simp [pinFunc]

theorem Leaves.setFields {ps : List Part} {ks : List Nat} (h : Leaves ps ks s t) (l : List (Field × Nat)) (i : Nat) (hl : ∀ e ∈ l, e.1.key i ∈ ks) :
    Leaves ps ks s (t.setFields l i) := by
  unfold State.setFields
  induction l generalizing t with
  | nil => exact h
  | cons e l ih => exact ih (h.setR e.1 i e.2 (hl e (List.mem_cons_self ..))) (fun x hx => hl x (List.mem_cons_of_mem _ hx))

theorem State.getR_setFields_other (s : State) (l : List (Field × Nat)) (i : Nat) (f : Field)
    (hl : f.id % Field.idBound ∉ l.map (fun e => e.1.id % Field.idBound)) : (s.setFields l i).getR f i = s.getR f i := by
  unfold State.setFields
  induction l generalizing s with
  | nil => rfl
  | cons e l ih =>
    simp only [List.map_cons, List.mem_cons, not_or] at hl
    exact (ih _ hl.2).trans (State.getR_setR_id _ _ _ _ _ _ hl.1)

/-- Of fields with distinct numbers each reads what was put into it. -/
theorem State.getR_setFields (s : State) {l : List (Field × Nat)} (i : Nat) {f : Field} {v : Nat} (hd : (l.map (fun e => e.1.id % Field.idBound)).Nodup)
    (hm : (f, v) ∈ l) : (s.setFields l i).getR f i = f.norm v := by
  induction l generalizing s with
  | nil => exact absurd hm (List.not_mem_nil)
  | cons e l ih =>
    obtain ⟨hnew, hd⟩ := List.nodup_cons.mp hd
    obtain rfl | hm := List.mem_cons.mp hm
    · exact ((s.setR f i v).getR_setFields_other l i f hnew).trans (State.getR_setR_self _ _ _ _)
    · exact ih (s.setR e.1 i e.2) hd hm

theorem Field.norm_of_align {f : Field} (v : Nat) (ha : f.align = 0) : f.norm v = v % 2 ^ f.width := by
  simp [Field.norm, ha]

theorem pinFields_nodup (func v : Nat) : ((pinFields func v).map (fun e => e.1.id % Field.idBound)).Nodup := by
  change ((pinFields 0 0).map (fun e => e.1.id % Field.idBound)).Nodup
  decide

theorem State.getR_pinFields (s : State) (n func v : Nat) {f : Field} {x : Nat} (hm : (f, x) ∈ pinFields func v) (ha : f.align = 0) :
    (s.setFields (pinFields func v) n).getR f n = x % 2 ^ f.width :=
  (s.getR_setFields n (pinFields_nodup func v) hm).trans (Field.norm_of_align x ha)

/-! ### The effective function (R706) -/

/-- A pin that no one claims has its software selection. -/
theorem State.svpEdge_unclaimed {n : Nat} (hd : s.domOff 32 = false) (hc : s.hardClaim n = none) (hp : s.portClaims n = [])
    (hf : s.flag Reg.SVP_PRECFG 0 = false) :
    s.svpEdge n = (s.setR Reg.SVP_PIN_CFG_EFUNC n (s.svpFunc n)).setR Reg.SVP_EL n (s.svpFields n (s.svpFunc n)) := by
  have hw : s.svpWinner n = (s.svpFunc n, none) := by simp [State.svpWinner, hc, hp]
  simp [State.svpEdge, hd, hw, hp, hf]

/-! ### The lock (R713) -/

/-- The pins that a value names are locked. -/
def State.lockPins (s : State) (m : Nat) (l : List Nat) : State := l.foldl (fun u n => if nbit m n then u.setR Reg.SVP_PIN_CFG_LOCKED n 1 else u) s

theorem State.lockPins_within (s : State) (m : Nat) (l : List Nat) : Within [] (fun f => f ∈ [Reg.SVP_PIN_CFG_LOCKED]) s (s.lockPins m l) :=
  (Within.refl s).foldl (fun _ _ h => .ite (h.setR _ _ _ (by simp)) h) l

theorem State.flag_lockPins (s : State) (m : Nat) (l : List Nat) (n : Nat) : (s.lockPins m l).flag Reg.SVP_PIN_CFG_LOCKED n =
    (s.flag Reg.SVP_PIN_CFG_LOCKED n || (decide (n ∈ l) && nbit m n)) := by
  induction l generalizing s with
  | nil => simp [State.lockPins]
  | cons p l ih =>
    have hstep : (if nbit m p then s.setR Reg.SVP_PIN_CFG_LOCKED p 1 else s).flag Reg.SVP_PIN_CFG_LOCKED n =
        (s.flag Reg.SVP_PIN_CFG_LOCKED n || (decide (n = p) && nbit m p)) := by
      cases hp : nbit m p with
      | false => simp
      | true =>
        by_cases hn : n = p
        · subst hn
          simp only [if_true, decide_true, Bool.true_and, Bool.or_true]
          exact decide_eq_true (State.getR_setR_self s Reg.SVP_PIN_CFG_LOCKED n 1)
        · simp [State.flag, State.getR_setR_ix _ _ _ _ _ _ hn, hn]
    refine (ih _).trans ?_
    rw [hstep]
    by_cases hn : n = p
    · subst hn
      cases nbit m n <;> simp
    · simp [hn]

theorem exec_svpLockSet {part : Fin 3} {value : BitVec 64} {req : BitVec 16} (h2 : s.keyStage 0 = 2) (hr : s.getR Reg.KEY_REQ 0 = req.toNat) :
    exec (.svpLockSet part value req) s = .next ((((s.respond 0 0).keyIdle 0).lockPins (partValue part value) (List.range 64)).raise svpEp 0x1002 0
      (partValue part value + req.toNat * 2 ^ 112)) := if_pos ⟨h2, hr⟩

/-! ### The TAP (R744, R745) -/

/-- An instruction that leaves none of the boundary instructions resets nothing. -/
theorem State.jtagSelect_quiet {ir : Nat} (h : s.getR Reg.JTAG_IR 0 < 3 ∨ s.getR Reg.JTAG_IR 0 = ir) : s.jtagSelect ir = s.setR Reg.JTAG_IR 0 ir := by
  refine if_neg ?_
  simp only [boundaryIr, decide_eq_true_eq]
  omega

/-- Leaving a boundary instruction outside a reset is a device reset. -/
theorem State.jtagSelect_resets {ir : Nat} (h : 3 ≤ s.getR Reg.JTAG_IR 0) (hne : s.getR Reg.JTAG_IR 0 ≠ ir) (hr : s.inReset = false) :
    s.jtagSelect ir = ((s.setR Reg.JTAG_IR 0 ir).deviceReset false).setR Reg.DEV_RST_CAUSE_JTAG 0 1 := by
  have hsel : s.jtagSelect ir = (s.setR Reg.JTAG_IR 0 ir).deviceResetBy Reg.DEV_RST_CAUSE_JTAG := if_pos ⟨decide_eq_true h, hne⟩
  simp only [State.inReset, Bool.or_eq_false_iff] at hr
  have hpor : (s.setR Reg.JTAG_IR 0 ir).flag Reg.POR_HELD 0 = false := (State.flag_congr (State.getR_setR_id _ _ _ _ _ _ (by decide))).trans hr.1
  have hlow : (s.setR Reg.JTAG_IR 0 ir).dbg.resetLow = false := hr.2
  rw [hsel, State.deviceResetBy, if_neg (by simp [hpor]), if_neg (by simp [hlow])]

theorem exec_jtagIdcode : exec .jtagIdcode s = .next ((s.jtagSelect 0).respond (s.jtagSelect 0).idcode 0) := rfl

theorem State.jtagScan_eq (s : State) (ir pins load : Nat) :
    s.jtagScan ir pins load = ((s.jtagSelect ir).setR Reg.JTAG_BSR 0 load).respond (pins % 2 ^ 4096) 0 := rfl

/-! ### The commands -/

/-- Settles O24, command by command, by the branch that its conditions take. -/
theorem servicePinAndJtagCommandsComplete : Obligations.ServicePinAndJtagCommandsComplete := by
  unfold Obligations.ServicePinAndJtagCommandsComplete
  refine ⟨?cfg, fun s n value req => ⟨exec_svpPinCfgWrite_refused, exec_svpPinCfgWrite_locked⟩,
    fun s n hd hc hp hf => congrArg Host.Outcome.next (State.svpEdge_unclaimed hd hc hp hf), fun s oe part value req => rfl, ?key, ?lock, ?wake, ?idcode,
    ?sample, ?extest, ?leave⟩
  case cfg =>
    intro s n value req hm hl
    have hread := fun {f : Field} {x : Nat} => (s.respond 0 0).getR_pinFields n (pinFunc value.toNat) value.toNat (f := f) (x := x)
    refine ⟨_, exec_svpPinCfgWrite hm hl, ?_, ?_, hread (by simp [pinFields]) rfl, hread (by simp [pinFields]) rfl, hread (by simp [pinFields]) rfl,
      hread (by simp [pinFields]) rfl, hread (by simp [pinFields]) rfl, hread (by simp [pinFields]) rfl, hread (by simp [pinFields]) rfl, ?_⟩
    · rfl
    · rw [hread (f := Reg.SVP_PIN_CFG_FUNC) (x := pinFunc value.toNat) (by simp [pinFields]) rfl, ← pinFunc_eq]
      refine Nat.mod_eq_of_lt ?_
      change pinFunc value.toNat < 8
      unfold pinFunc
      split <;> omega
    · exact (Leaves.refl.respond _ _ _ (by decide)).setFields _ _ (by simp [pinFields])
  case key =>
    intro s req
    refine ⟨fun h0 => ?_, fun h1 hr => ?_, ?_⟩
    · exact (if_pos h0).trans rfl
    · have hne : ¬ s.keyStage 0 = 0 := by omega
      exact (if_neg hne).trans (if_pos ⟨h1, rfl, hr⟩)
    · exact congrArg Host.Outcome.next (s.keyTimeout_eq 0)
  case lock =>
    intro s part value req h2 hr
    have hpins := ((s.respond 0 0).keyIdle 0).lockPins_within (partValue part value) (List.range 64)
    have hev : (((s.respond 0 0).keyIdle 0).lockPins (partValue part value) (List.range 64)).events = s.events := hpins.part_eq .events (by decide)
    have htime : (((s.respond 0 0).keyIdle 0).lockPins (partValue part value) (List.range 64)).time = s.time := hpins.part_eq .time (by decide)
    refine ⟨_, exec_svpLockSet h2 hr, fun n hn => ?_, ?_, hpins.part_eq .resp (by decide), ?_, hpins.part_eq .mem (by decide), htime⟩
    · have hlocked : ((s.respond 0 0).keyIdle 0).flag Reg.SVP_PIN_CFG_LOCKED n = s.flag Reg.SVP_PIN_CFG_LOCKED n :=
        State.flag_congr (State.getR_setR_id _ _ _ _ _ _ (by decide))
      refine (State.flag_lockPins _ _ _ n).trans ?_
      simp [hlocked, hn]
    · exact (hpins.getR_eq _ _ (by decide)).trans (State.getR_setR_self _ _ _ _)
    · rw [State.raise_events, hev, htime]
      rfl
  case wake =>
    intro s n rising h5 hne
    exact State.when_true _ _ (by simp [h5, hne])
  case idcode =>
    intro s h
    have hsel := fun ir => State.jtagSelect_quiet (s := s) (ir := ir) (.inl h)
    refine ⟨?_, congrArg (fun u : State => Host.Outcome.next (u.respond 0 0)) (hsel 1), congrArg Host.Outcome.next (hsel 0)⟩
    rw [exec_jtagIdcode, hsel, State.idcode, State.getR_setR_id _ _ _ _ _ _ (by decide)]
  case sample =>
    intro s pins load h
    refine congrArg Host.Outcome.next ?_
    rw [State.jtagScan_eq, State.jtagSelect_quiet (.inl h)]
  case extest =>
    intro s pins load
    have hscan : ∀ ir, s.getR Reg.JTAG_IR 0 < 3 ∨ s.getR Reg.JTAG_IR 0 = ir → Host.Outcome.next (s.jtagScan ir pins load) =
        (Host.Outcome.next (((s.setR Reg.JTAG_IR 0 ir).setR Reg.JTAG_BSR 0 load).respond (pins % 2 ^ 4096) 0) : Result) := fun ir h => by
      rw [State.jtagScan_eq, State.jtagSelect_quiet h]
    exact ⟨hscan 3, hscan 4, hscan 5, fun h => congrArg (fun u : State => Host.Outcome.next (u.respond 0 0)) (State.jtagSelect_quiet h),
      fun h => congrArg (fun u : State => Host.Outcome.next (u.respond 0 0)) (State.jtagSelect_quiet h)⟩
  case leave =>
    intro s h hr
    refine ⟨_, congrArg Host.Outcome.next (State.jtagSelect_resets h (by omega) hr), State.getR_setR_self _ _ _ _, ?_⟩
    exact (State.deviceReset_time (s.setR Reg.JTAG_IR 0 0) false).1

end Sys2Proof.Machine
end

section
/-!
SUPPORT. An agent's own write (R24, R505, R644): what it may write of the state, and that it moves no clock.
-/

namespace Sys2Proof.Machine

variable {ps : List Part} {s t u : State}

/-! ### Packets that enter the network move no clock -/

theorem State.clock_ingressWith (s : State) (p : Packet) : (s.ingressWith p).noc.clock = s.noc.clock := by
  unfold State.ingressWith
  split
  · rfl
  · split
    · split <;> rfl
    · dsimp only
      split <;> rfl

theorem State.clock_ingress (s : State) (p : Packet) : (s.ingress p).noc.clock = s.noc.clock := State.clock_ingressWith _ _

theorem State.clock_sendWrite (s : State) (src addr size data prio tag : Nat) (flow : Option Nat) (poison : Bool) :
    (s.sendWrite src addr size data prio tag flow poison).1.noc.clock = s.noc.clock := by
  unfold State.sendWrite
  split
  · exact State.clock_ingress _ _
  · rfl

/-! ### What a memory does for an agent -/

/-- The parts that a memory writes for an agent. -/
def agentParts : List Part := [.resp, .events, .mem, .chip, .lpx, .mid]

section
variable (h : Within agentParts anyField s t)
include h

theorem Within.agentMemory (hu : Within memParts (fun f => f ∈ memFields) t u) : Within agentParts anyField s u :=
  h.trans (hu.mono (by decide) (fun _ _ => trivial))

theorem Within.agentWords (a bytes data req : Nat) (poisonAt : Nat → Bool) (win : Nat) :
    Within agentParts anyField s (t.writeWords a bytes data req poisonAt win) :=
  h.foldl (fun _ _ k => k.agentMemory ((Within.refl _).writeWord _ _ _ _ _ _)) _

theorem Within.agentTouch (a n : Nat) : Within agentParts anyField s (t.spdTouch a n) :=
  h.foldl (fun _ _ k => k.midTouch _ _ _ (by decide) (by decide) (fun _ _ => trivial)) _

theorem Within.agentDeny (bank req addr : Nat) (own : Bool) : Within agentParts anyField s (t.spdDeny bank req addr own) :=
  ((((h.satAdd _ _ _ trivial).setR _ _ _ trivial).setR _ _ _ trivial).setR _ _ _ trivial).raise _ _ _ _ (by decide)

theorem Within.agentLpxRead (n loc addr : Nat) (up : Option Upset) : Within agentParts anyField s (t.lpxRead n loc addr up).2 := by
  unfold State.lpxRead
  extract_lets k inl w0 v0 v x
  have hx : Within agentParts anyField s x := .ite (h.modMem _ (by decide)) h
  split
  · exact hx
  · split
    · exact hx
    · exact hx
    · exact (((hx.satAdd _ _ _ trivial).setR _ _ _ trivial).raise _ _ _ _ (by decide)).modLpx _ (by decide)
    · exact (((hx.satAdd _ _ _ trivial).setR _ _ _ trivial).raise _ _ _ _ (by decide)).modLpx _ (by decide)

theorem Within.lpxReword (a : Nat) : Within agentParts anyField s (t.lpxReword a) := by
  unfold State.lpxReword
  split
  · exact h
  · next n loc _ =>
    extract_lets k v put
    have hput : ∀ w, Within agentParts anyField s (put w) := fun w => ((h.agentLpxRead n loc a none).modMem _ (by decide)).modLpx _ (by decide)
    split
    · exact h
    · split
      · exact hput _
      · exact hput _
      · exact h

theorem Within.lpxMerge (a n : Nat) : Within agentParts anyField s (t.lpxMerge a n) :=
  h.foldl (fun _ _ k => .ite k (k.lpxReword _)) _

theorem Within.agentDecodeError (source addr req : Nat) : Within agentParts anyField s (t.decodeError source addr req) :=
  (h.respond _ _ _ (by decide)).raise _ _ _ _ (by decide)

end

theorem State.dawnGuard_within {a n req : Nat} {write : Bool} (h : s.dawnGuard a n req write = some t) : Within agentParts anyField s t := by
  unfold State.dawnGuard at h
  split_ifs at h
  · exact Option.some.inj h ▸ .refl s
  · exact Option.some.inj h ▸ (Within.refl s).raise _ _ _ _ (by decide)

theorem State.agentMem_within {src a n v : Nat} (h : s.agentMem src a n v = some t) : Within agentParts anyField s t := by
  unfold State.agentMem at h
  split at h
  · next x hg => exact Option.some.inj h ▸ State.dawnGuard_within hg
  · split_ifs at h
    · split at h
      · exact Option.some.inj h ▸ (Within.refl s).agentDecodeError _ _ _
      · exact absurd h (by simp)
      · exact Option.some.inj h ▸ ((Within.refl s).agentTouch _ _).agentDeny _ _ _ _
      · exact Option.some.inj h ▸ ((Within.refl s).agentTouch _ _).agentWords _ _ _ _ _ _
    · split at h
      · exact Option.some.inj h ▸ (Within.refl s).agentDecodeError _ _ _
      · exact absurd h (by simp)
      · next c loc _ =>
        have hwake : Within agentParts anyField s (s.lpxWakeRank c loc) := (Within.refl s).modLpx _ (by decide)
        exact Option.some.inj h ▸ (hwake.lpxMerge _ _).agentWords _ _ _ _ _ _
    · exact Option.some.inj h ▸ (Within.refl s).agentWords _ _ _ _ _ _

/-- An agent's own write leaves Sage's state and the clock as they are. -/
theorem State.agentPut_keeps {src a n v : Nat} (h : s.agentPut src a n v = some t) : t.sage = s.sage ∧ t.noc.clock = s.noc.clock := by
  unfold State.agentPut at h
  split_ifs at h
  · obtain ⟨x, hx, rfl⟩ := Option.map_eq_some_iff.mp h
    have hmem := (State.agentMem_within hx).modResp (fun _ => s.resp) (by decide)
    exact ⟨hmem.part_eq .sage (by decide), congrArg Noc.clock (hmem.part_eq .noc (by decide))⟩
  · obtain rfl := Option.some.inj h
    have hsend := (Within.refl s).sendWrite (ps := [.noc, .thy, .events]) (W := anyField) src a n v 0 0 none false (by decide) (by decide) (by decide)
    exact ⟨hsend.part_eq .sage (by decide), State.clock_sendWrite _ _ _ _ _ _ _ _ _⟩

end Sys2Proof.Machine
end

section
/-!
PROOF. Sage (R628 to R650): nonces, the start of a signed command, its end by the first check that fails, what its fuses leave, its effect by its kind, and its abort.
-/

namespace Sys2Proof.Machine

variable {s t : State}

/-! ### The start of a command (R643, R644) -/

theorem exec_sgeNonceNew {req : BitVec 16} (h : isMgmt req.toNat = true) : exec (.sgeNonceNew req) s = .next
    (((s.nonceDrop.setR Reg.SGE_NONCE_STAT_BUSY 0 1).respond 0 0).modSage (fun g =>
      { g with cmd := g.cmd.map (fun c => { c with facts := { c.facts with nonce := false } }) })) := if_neg (by simp [h])

/-- A command is in verification. -/
def State.cmdGoes (s : State) (op : Nat) (f : CmdFacts) : State :=
  ((((((s.respond 0 0).setR Reg.SGE_CMD_STAT_STATE 0 1).setR Reg.SGE_CMD_STAT_ABORT_LATE 0 0).setR Reg.SGE_CMD_STAT_CODE 0 0).setR
    Reg.SGE_CMD_STAT_OP 0 op).setR Reg.SGE_GOING 0 0).modSage (fun g => { g with cmd := some ⟨op, f⟩ })

theorem State.sageGo_starts {req : Nat} (op : Nat) (f : CmdFacts) (h : isMgmt req = true)
    (hst : s.getR Reg.SGE_CMD_STAT_STATE 0 ≠ 1 ∨ s.flag Reg.SGE_GOING 0 = true) : s.sageGo op f req = .next (s.cmdGoes op f) := by
  refine (if_neg (by simp [h])).trans (if_neg ?_)
  rintro ⟨h1, hg⟩
  simp [h1, hg] at hst

theorem State.sageGo_stays {req : Nat} (op : Nat) (f : CmdFacts)
    (h : isMgmt req = false ∨ (s.getR Reg.SGE_CMD_STAT_STATE 0 = 1 ∧ s.flag Reg.SGE_GOING 0 = false)) :
    s.sageGo op f req = .next (s.respond 0 (if isMgmt req then 0 else 2)) := by
  cases hm : isMgmt req with
  | false => exact if_pos (by simp [hm])
  | true => exact (if_neg (by simp [hm])).trans (if_pos (h.resolve_left (by simp [hm])))

theorem State.cmdGoes_leaves (s : State) (op : Nat) (f : CmdFacts) : Leaves [.resp, .sage] [Reg.SGE_CMD_STAT_STATE.key 0, Reg.SGE_CMD_STAT_CODE.key 0,
    Reg.SGE_CMD_STAT_OP.key 0, Reg.SGE_CMD_STAT_ABORT_LATE.key 0, Reg.SGE_GOING.key 0] s (s.cmdGoes op f) :=
  ((((((Leaves.refl.respond _ _ _ (by decide)).setR _ _ _ (by simp)).setR _ _ _ (by simp)).setR _ _ _ (by simp)).setR _ _ _ (by simp)).setR _ _ _
    (by simp)).modSage _ (by decide)

/-- What the command's status shows at its start. -/
theorem State.cmdGoes_status (s : State) {op : Nat} (f : CmdFacts) (hop : op ≤ 8) : (s.cmdGoes op f).getR Reg.SGE_CMD_STAT_STATE 0 = 1
    ∧ (s.cmdGoes op f).getR Reg.SGE_CMD_STAT_CODE 0 = 0 ∧ (s.cmdGoes op f).getR Reg.SGE_CMD_STAT_OP 0 = op
    ∧ (s.cmdGoes op f).getR Reg.SGE_CMD_STAT_ABORT_LATE 0 = 0 ∧ (s.cmdGoes op f).flag Reg.SGE_GOING 0 = false := by
  have h5 := State.getR_setR_id ((((((s.respond 0 0).setR Reg.SGE_CMD_STAT_STATE 0 1).setR Reg.SGE_CMD_STAT_ABORT_LATE 0 0).setR Reg.SGE_CMD_STAT_CODE 0 0).setR
    Reg.SGE_CMD_STAT_OP 0 op)) Reg.SGE_GOING
  have h4 := State.getR_setR_id (((((s.respond 0 0).setR Reg.SGE_CMD_STAT_STATE 0 1).setR Reg.SGE_CMD_STAT_ABORT_LATE 0 0).setR Reg.SGE_CMD_STAT_CODE 0 0))
    Reg.SGE_CMD_STAT_OP
  have h3 := State.getR_setR_id ((((s.respond 0 0).setR Reg.SGE_CMD_STAT_STATE 0 1).setR Reg.SGE_CMD_STAT_ABORT_LATE 0 0)) Reg.SGE_CMD_STAT_CODE
  have h2 := State.getR_setR_id (((s.respond 0 0).setR Reg.SGE_CMD_STAT_STATE 0 1)) Reg.SGE_CMD_STAT_ABORT_LATE
  refine ⟨?_, ?_, ?_, ?_, ?_⟩
  · refine (h5 _ 0 0 0 (by decide)).trans ?_
    rw [h4 _ _ _ _ (by decide), h3 _ _ _ _ (by decide), h2 _ _ _ _ (by decide), State.getR_setR_self]
    rfl
  · refine (h5 _ 0 0 0 (by decide)).trans ?_
    rw [h4 _ _ _ _ (by decide), State.getR_setR_self]
    rfl
  · refine (h5 _ 0 0 0 (by decide)).trans ?_
    rw [State.getR_setR_self]
    exact Field.norm_of_lt rfl (Nat.lt_of_le_of_lt hop (by decide))
  · refine (h5 _ 0 0 0 (by decide)).trans ?_
    rw [h4 _ _ _ _ (by decide), h3 _ _ _ _ (by decide), State.getR_setR_self]
    rfl
  · exact decide_eq_false (by
      have hread := State.getR_setR_self ((((((s.respond 0 0).setR Reg.SGE_CMD_STAT_STATE 0 1).setR Reg.SGE_CMD_STAT_ABORT_LATE 0 0).setR
        Reg.SGE_CMD_STAT_CODE 0 0).setR Reg.SGE_CMD_STAT_OP 0 op)) Reg.SGE_GOING 0 0
      exact fun h => absurd (hread.symm.trans h) (by decide))

/-! ### The end of a command (R643, R644, R650) -/

theorem State.sageSignal_within (s : State) : Within [] (fun f => f ∈ [Reg.PLIC_LEVEL, Reg.PLIC_PEND]) s s.sageSignal :=
  ((Within.refl s).irqLevel _ _ (by simp) (by simp)).setR _ _ _ (by simp)

/-- The nonce that a command names lapses. -/
def State.nonceUsed (s : State) (c : SageCmd) : State := if c.facts.read && c.facts.nonce then s.nonceDrop else s

theorem State.nonceUsed_within (s : State) (c : SageCmd) : Within [] (fun f => f ∈ [Reg.SGE_NONCE_STAT_VALID, Reg.SGE_NONCE_V]) s (s.nonceUsed c) :=
  .ite (((Within.refl s).setR _ _ _ (by simp)).setR _ _ _ (by simp)) (.refl s)

/-- A command's status shows its end, and Sage has none. -/
def State.cmdShown (s : State) (c : SageCmd) (code : Nat) : State :=
  (((s.nonceUsed c).setR Reg.SGE_CMD_STAT_STATE 0 (if code = 0 then 2 else 4)).setR Reg.SGE_CMD_STAT_CODE 0 code).modSage (fun g => { g with cmd := none })

theorem State.cmdEnd_eq (s : State) (c : SageCmd) (code : Nat) : s.cmdEnd c code = ((s.cmdShown c code).sageSignal).raise sageEp
    (if code = 0 then 0x0A01 else if code = 11 then 0x0A06 else 0x0A02) (if code = 0 then 0 else if code = 11 then 4 else 2)
    (sageDetail code c.op (cmdSlot c)) := rfl

theorem State.cmdEnd_after (s : State) (c : SageCmd) (code : Nat) :
    Within [.events] (fun f => f ∈ [Reg.PLIC_LEVEL, Reg.PLIC_PEND]) (s.cmdShown c code) (s.cmdEnd c code) := by
  rw [State.cmdEnd_eq]
  exact ((State.sageSignal_within _).mono (by simp) (fun _ hf => hf)).raise _ _ _ _ (by decide)

/-- The fields that a command's end writes. -/
def cmdEndFields : List Field :=
  [Reg.SGE_NONCE_STAT_VALID, Reg.SGE_NONCE_V, Reg.SGE_CMD_STAT_STATE, Reg.SGE_CMD_STAT_CODE, Reg.PLIC_LEVEL, Reg.PLIC_PEND]

theorem State.cmdEnd_within (s : State) (c : SageCmd) (code : Nat) : Within [.sage, .events] (fun f => f ∈ cmdEndFields) s (s.cmdEnd c code) :=
  (((((s.nonceUsed_within c).mono (by simp) (by simp [cmdEndFields])).setR _ _ _ (by simp [cmdEndFields])).setR _ _ _ (by simp [cmdEndFields])).modSage _
    (by decide)).trans ((s.cmdEnd_after c code).mono (by simp) (by simp [cmdEndFields]))

theorem State.cmdEnd_state (s : State) (c : SageCmd) (code : Nat) : (s.cmdEnd c code).getR Reg.SGE_CMD_STAT_STATE 0 = if code = 0 then 2 else 4 := by
  rw [(s.cmdEnd_after c code).getR_eq _ _ (by decide)]
  refine (State.getR_setR_id _ Reg.SGE_CMD_STAT_CODE _ _ _ _ (by decide)).trans ?_
  rw [State.getR_setR_self]
  split <;> rfl

theorem State.cmdEnd_code (s : State) (c : SageCmd) {code : Nat} (h : code ≤ 12) : (s.cmdEnd c code).getR Reg.SGE_CMD_STAT_CODE 0 = code := by
  rw [(s.cmdEnd_after c code).getR_eq _ _ (by decide)]
  refine (State.getR_setR_self _ Reg.SGE_CMD_STAT_CODE _ _).trans (Field.norm_of_lt rfl (Nat.lt_of_le_of_lt h (by decide)))

theorem State.cmdEnd_sage (s : State) (c : SageCmd) (code : Nat) : (s.cmdEnd c code).sage = { s.sage with cmd := none } := by
  rw [(s.cmdEnd_after c code).part_eq .sage (by decide)]
  exact congrArg (fun g : Sage => { g with cmd := none }) ((s.nonceUsed_within c).part_eq .sage (by decide))

/-- The nonce that a command names is void at its end. -/
theorem State.cmdEnd_nonce (s : State) {c : SageCmd} (code : Nat) (hr : c.facts.read = true) (hn : c.facts.nonce = true) :
    (s.cmdEnd c code).flag Reg.SGE_NONCE_STAT_VALID 0 = false := by
  have hused : s.nonceUsed c = s.nonceDrop := if_pos (by simp [hr, hn])
  have hread : (s.cmdShown c code).getR Reg.SGE_NONCE_STAT_VALID 0 = 0 := by
    refine (State.getR_setR_id _ Reg.SGE_CMD_STAT_CODE _ _ _ _ (by decide)).trans ?_
    rw [State.getR_setR_id _ _ _ _ _ _ (by decide), hused, State.nonceDrop, State.getR_setR_id _ _ _ _ _ _ (by decide), State.getR_setR_self]
    rfl
  rw [State.flag, (s.cmdEnd_after c code).getR_eq _ _ (by decide), hread]
  rfl

/-- The codes of a command are those of R644. -/
theorem State.cmdCode_le (s : State) (c : SageCmd) : s.cmdCode c ≤ 12 := by
  simp only [State.cmdCode]
  split_ifs <;> decide

/-! ### Verification (R637, R644) -/

/-- Sage has found whether the slot that a command names hashes to its fuses. -/
def State.cmdTaken (s : State) (c : SageCmd) : State :=
  if c.facts.read && c.facts.formed && decide (c.op ≠ 3) then s.keyMismatch c.facts.keysel c.facts.hashed else s

theorem State.cmdTaken_within (s : State) (c : SageCmd) : Within [.events] (fun _ => False) s (s.cmdTaken c) :=
  .ite (.ite ((Within.refl s).raise _ _ _ _ (by decide)) (.refl s)) (.refl s)

theorem State.cmdTaken_getR (s : State) (c : SageCmd) (f : Field) (i : Nat) : (s.cmdTaken c).getR f i = s.getR f i :=
  (s.cmdTaken_within c).getR_eq f i (fun _ h => h.elim)

theorem exec_sgeVerifyDone {c : SageCmd} (run : FuseRun) (rspOk : Bool) (h : s.sage.cmd = some c) : exec (.sgeVerifyDone run rspOk) s =
    if s.cmdCode c ≠ 0 then .next ((s.cmdTaken c).cmdEnd c (s.cmdCode c))
    else if run = .cut ∧ usesFuse c.op then .next ((s.cmdTaken c).cmdBroken c .cut)
    else if run ≠ .ok ∧ usesFuse c.op then .next (((s.cmdTaken c).cmdBroken c run).cmdEnd c 11)
    else if c.op = 1 ∧ !rspOk then .next (((s.cmdTaken c).modSage (fun g => { g with keys := true })).cmdEnd c 12)
    else if c.op = 1 ∧ (s.cmdTaken c).sageRefused = true then .next (((s.cmdTaken c).cmdEffect c).cmdEnd c 12)
    else .next ((((s.cmdTaken c).cmdEffect c).cmdEnd c 0).markCommit Reg.SGE_CMT 0) := by
  change execSgeVerifyDone run rspOk s = _
  simp only [execSgeVerifyDone, h] <;> rfl

theorem exec_sgeVerifyDone_none {run : FuseRun} {rspOk : Bool} (h : s.sage.cmd = none) : exec (.sgeVerifyDone run rspOk) s = .next s := by
  change execSgeVerifyDone run rspOk s = _
  simp only [execSgeVerifyDone, h]

theorem usesFuse_true {op : Nat} (h1 : op ≠ 1) (h6 : op ≠ 6) : usesFuse op = true := by
  simp [usesFuse, h1, h6]

/-! ### Effects (R642) -/

theorem State.sageAnswer_keeps (s : State) (v : Nat) : (s.sageAnswer v).sage = s.sage ∧ (s.sageAnswer v).noc.clock = s.noc.clock := by
  unfold State.sageAnswer
  cases h : s.agentPut sageEp (s.getR Reg.SGE_RSP_ADDR_ADDR 0) 436 v with
  | some t => exact State.agentPut_keeps h
  | none =>
    have hsend := (Within.refl s).sendWrite (ps := [.noc, .thy, .events]) (W := anyField) sageEp (s.getR Reg.SGE_RSP_ADDR_ADDR 0) 436 v 0 0 none false (by decide)
      (by decide) (by decide)
    exact ⟨hsend.part_eq .sage (by decide), State.clock_sendWrite _ _ _ _ _ _ _ _ _⟩

/-- The fields of the lifecycle and the slots that a command's effect writes. -/
def lcsFields : List Field :=
  [Reg.SGE_LCS_STATE, Reg.SGE_LCS_VALID, Reg.SGE_LCS_REVOKED, Reg.SGE_LCS_OSK, Reg.SGE_LCS_LIVE, Reg.SGE_LCS_LEGACY_OK]

section
variable {c : SageCmd}

theorem State.cmdEffect_genkey (h : c.op = 1) : s.cmdEffect c = (s.modSage (fun g => { g with keys := true })).sageAnswer
    (s.identityPub % 2 ^ 3072 + 0x01000100 * 2 ^ 3072 + s.identityPub / 2 ^ 3104 % 2 ^ 384 * 2 ^ 3104) := by
  simp only [State.cmdEffect, h]

theorem State.cmdEffect_provision (h : c.op = 2) : s.cmdEffect c = (s.modSage (fun g => { g with chains := true })).lcsAdvance 2 1 := by
  simp only [State.cmdEffect, h]

theorem State.cmdEffect_enroll (h : c.op = 3) : s.cmdEffect c =
    ((if c.facts.osk then (s.lcsBit Reg.SGE_LCS_VALID 0).lcsBit Reg.SGE_LCS_OSK 0 else s.lcsBit Reg.SGE_LCS_VALID 0).showLive).lcsAdvance 3 2 := by
  simp only [State.cmdEffect, h]

theorem State.cmdEffect_addSlot (h : c.op = 4) : s.cmdEffect c = (s.lcsBit Reg.SGE_LCS_VALID (cmdSlot c)).showLive := by
  simp only [State.cmdEffect, h]

theorem State.cmdEffect_revoke (h : c.op = 5) : s.cmdEffect c =
    ((s.lcsBit Reg.SGE_LCS_REVOKED (cmdSlot c)).showLive).raise sageEp 0x0A04 0 (sageDetail 0 5 (cmdSlot c)) := by
  simp only [State.cmdEffect, h]

theorem State.cmdEffect_setOsk (h : c.op = 6) : s.cmdEffect c = s.lcsBit Reg.SGE_LCS_OSK (cmdSlot c) := by
  simp only [State.cmdEffect, h]

theorem State.cmdEffect_setLegacy (h : c.op = 7) : s.cmdEffect c = s.setR Reg.SGE_LCS_LEGACY_OK 0 1 := by
  simp only [State.cmdEffect, h]

theorem State.cmdEffect_retire (h : c.op = 8) : s.cmdEffect c = (s.lcsAdvance 8 3).sageErase := by
  simp only [State.cmdEffect, h]

end

theorem State.lcsAdvance_within (s : State) (op st : Nat) : Within [.events] (fun f => f ∈ [Reg.SGE_LCS_STATE]) s (s.lcsAdvance op st) :=
  ((Within.refl s).setR _ _ _ (by simp)).raise _ _ _ _ (by decide)

theorem State.lcsAdvance_state (s : State) (op : Nat) {st : Nat} (h : st < 4) : (s.lcsAdvance op st).getR Reg.SGE_LCS_STATE 0 = st :=
  (State.getR_raise _ _ _ _ _ _ _).trans ((State.getR_setR_self _ _ _ _).trans (Field.norm_of_lt rfl h))

theorem State.lcsBit_within (s : State) (f : Field) (n : Nat) : Within [] (fun g => g ∈ [f]) s (s.lcsBit f n) :=
  (Within.refl s).setR _ _ _ (by simp)

theorem State.lcsBit_getR (s : State) (f : Field) (n : Nat) : (s.lcsBit f n).getR f 0 = f.norm (setBit (s.getR f 0) n) :=
  State.getR_setR_self _ _ _ _

theorem State.showLive_within (s : State) : Within [] (fun f => f ∈ [Reg.SGE_LCS_LIVE]) s s.showLive :=
  (Within.refl s).setR _ _ _ (by simp)

theorem State.sageErase_within (s : State) : Within [.sage] (fun f => f ∈ [Reg.SGE_LCS_OSK, Reg.SGE_LCS_LIVE]) s s.sageErase :=
  (((Within.refl s).modSage _ (by decide)).setR _ _ _ (by simp)).setR _ _ _ (by simp)

/-- ENROLL has made slot 0 VALID. -/
def State.enrolled (s : State) (c : SageCmd) : State :=
  if c.facts.osk then (s.lcsBit Reg.SGE_LCS_VALID 0).lcsBit Reg.SGE_LCS_OSK 0 else s.lcsBit Reg.SGE_LCS_VALID 0

theorem State.enrolled_within (s : State) (c : SageCmd) : Within [] (fun f => f ∈ [Reg.SGE_LCS_VALID, Reg.SGE_LCS_OSK]) s (s.enrolled c) :=
  .ite (((Within.refl s).setR _ _ _ (by simp)).setR _ _ _ (by simp)) ((Within.refl s).setR _ _ _ (by simp))

theorem State.enrolled_valid (s : State) (c : SageCmd) :
    (s.enrolled c).getR Reg.SGE_LCS_VALID 0 = Reg.SGE_LCS_VALID.norm (setBit (s.getR Reg.SGE_LCS_VALID 0) 0) := by
  unfold State.enrolled
  split
  · exact (State.getR_setR_id _ Reg.SGE_LCS_OSK _ _ _ _ (by decide)).trans (s.lcsBit_getR _ _)
  · exact s.lcsBit_getR _ _

/-- A command but GENKEY writes Sage's state and its lifecycle fields alone. -/
theorem State.cmdEffect_within (s : State) {c : SageCmd} (h : c.op ≠ 1) : Within [.sage, .events] (fun f => f ∈ lcsFields) s (s.cmdEffect c) := by
  have sub {ps l} {t u : State} (hw : Within ps (fun f => f ∈ l) t u) (hp : ps ⊆ [.sage, .events]) (hl : l ⊆ lcsFields) :
      Within [.sage, .events] (fun f => f ∈ lcsFields) t u := hw.mono hp (fun _ hf => hl hf)
  unfold State.cmdEffect
  split
  case h_1 h1 => exact absurd h1 h
  case h_2 => exact ((Within.refl s).modSage _ (by decide)).trans (sub (State.lcsAdvance_within _ _ _) (by decide) (by simp [lcsFields]))
  case h_3 =>
    exact ((sub (s.enrolled_within c) (by decide) (by simp [lcsFields])).trans (sub (State.showLive_within _) (by decide) (by simp [lcsFields]))).trans
      (sub (State.lcsAdvance_within _ _ _) (by decide) (by simp [lcsFields]))
  case h_4 => exact (sub (s.lcsBit_within _ _) (by decide) (by simp [lcsFields])).trans (sub (State.showLive_within _) (by decide) (by simp [lcsFields]))
  case h_5 =>
    exact ((sub (s.lcsBit_within _ _) (by decide) (by simp [lcsFields])).trans (sub (State.showLive_within _) (by decide) (by simp [lcsFields]))).raise _ _ _ _ (by decide)
  case h_6 => exact sub (s.lcsBit_within _ _) (by decide) (by simp [lcsFields])
  case h_7 => exact (Within.refl s).setR _ _ _ (by simp [lcsFields])
  case h_8 => exact (sub (s.lcsAdvance_within _ _) (by decide) (by simp [lcsFields])).trans (sub (State.sageErase_within _) (by decide) (by simp [lcsFields]))

/-- No command's effect moves the NoC clock. -/
theorem State.cmdEffect_cycle (s : State) (c : SageCmd) : (s.cmdEffect c).cycle = s.cycle := by
  have hclock : (s.cmdEffect c).noc.clock = s.noc.clock := by
    by_cases h : c.op = 1
    · rw [State.cmdEffect_genkey h]
      exact (State.sageAnswer_keeps _ _).2
    · exact congrArg Noc.clock ((s.cmdEffect_within h).part_eq .noc (by decide))
  rw [State.cycle, hclock, State.cycle]

/-- A command has taken effect, and has ended with no error. -/
def State.cmdDone (s : State) (c : SageCmd) : State := ((s.cmdEffect c).cmdEnd c 0).setR Reg.SGE_CMT 0 s.cycle

theorem State.markCommit_cmdDone (s : State) (c : SageCmd) : ((s.cmdEffect c).cmdEnd c 0).markCommit Reg.SGE_CMT 0 = s.cmdDone c := by
  have hcycle : ((s.cmdEffect c).cmdEnd c 0).cycle = s.cycle := by
    rw [State.cycle, ((s.cmdEffect c).cmdEnd_within c 0).part_eq .noc (by decide)]
    exact s.cmdEffect_cycle c
  rw [State.markCommit, hcycle, State.cmdDone]

theorem State.cmdTaken_cycle (s : State) (c : SageCmd) : (s.cmdTaken c).cycle = s.cycle := by
  rw [State.cycle, (s.cmdTaken_within c).part_eq .noc (by decide), State.cycle]

theorem State.cmdDone_getR (s : State) (c : SageCmd) (f : Field) 
    (hf : ∀ g ∈ Reg.SGE_CMT :: cmdEndFields, f.id % Field.idBound ≠ g.id % Field.idBound) :
    (s.cmdDone c).getR f 0 = (s.cmdEffect c).getR f 0 := by
  have hend : Within [.sage, .events] (fun f => f ∈ Reg.SGE_CMT :: cmdEndFields) (s.cmdEffect c) (s.cmdDone c) :=
    (((s.cmdEffect c).cmdEnd_within c 0).mono (by simp) (fun _ h => List.mem_cons_of_mem _ h)).setR _ _ _ (by simp)
  exact hend.getR_eq f 0 hf

theorem State.cmdDone_state (s : State) (c : SageCmd) :
    (s.cmdDone c).getR Reg.SGE_CMD_STAT_STATE 0 = 2 ∧ (s.cmdDone c).getR Reg.SGE_CMD_STAT_CODE 0 = 0 :=
  ⟨(State.getR_setR_id _ Reg.SGE_CMT _ _ _ _ (by decide)).trans ((s.cmdEffect c).cmdEnd_state c 0),
    (State.getR_setR_id _ Reg.SGE_CMT _ _ _ _ (by decide)).trans ((s.cmdEffect c).cmdEnd_code c (by decide))⟩

theorem State.cmdDone_sage (s : State) (c : SageCmd) : (s.cmdDone c).sage = { (s.cmdEffect c).sage with cmd := none } :=
  (s.cmdEffect c).cmdEnd_sage c 0

theorem State.cmdDone_mem (s : State) {c : SageCmd} (h : c.op ≠ 1) : (s.cmdDone c).mem = s.mem :=
  (((s.cmdEffect c).cmdEnd_within c 0).part_eq .mem (by decide)).trans ((s.cmdEffect_within h).part_eq .mem (by decide))

/-- What a command's effect shows, by its kind. -/
theorem State.cmdEffect_shows (s : State) (c : SageCmd) : (c.op = 1 → (s.cmdEffect c).sage.keys = true)
    ∧ (c.op = 2 → (s.cmdEffect c).getR Reg.SGE_LCS_STATE 0 = 1 ∧ (s.cmdEffect c).sage.chains = true)
    ∧ (c.op = 3 → (s.cmdEffect c).getR Reg.SGE_LCS_STATE 0 = 2
      ∧ (s.cmdEffect c).getR Reg.SGE_LCS_VALID 0 = Reg.SGE_LCS_VALID.norm (setBit (s.getR Reg.SGE_LCS_VALID 0) 0))
    ∧ (c.op = 4 → (s.cmdEffect c).getR Reg.SGE_LCS_VALID 0 = Reg.SGE_LCS_VALID.norm (setBit (s.getR Reg.SGE_LCS_VALID 0) (cmdSlot c)))
    ∧ (c.op = 5 → (s.cmdEffect c).getR Reg.SGE_LCS_REVOKED 0 = Reg.SGE_LCS_REVOKED.norm (setBit (s.getR Reg.SGE_LCS_REVOKED 0) (cmdSlot c)))
    ∧ (c.op = 6 → (s.cmdEffect c).getR Reg.SGE_LCS_OSK 0 = Reg.SGE_LCS_OSK.norm (setBit (s.getR Reg.SGE_LCS_OSK 0) (cmdSlot c)))
    ∧ (c.op = 7 → (s.cmdEffect c).getR Reg.SGE_LCS_LEGACY_OK 0 = 1)
    ∧ (c.op = 8 → (s.cmdEffect c).getR Reg.SGE_LCS_STATE 0 = 3 ∧ (s.cmdEffect c).sage.keys = false ∧ (s.cmdEffect c).sage.chains = false
      ∧ (s.cmdEffect c).sage.store = false ∧ (s.cmdEffect c).getR Reg.SGE_LCS_OSK 0 = 0) := by
  refine ⟨fun h => ?_, fun h => ?_, fun h => ?_, fun h => ?_, fun h => ?_, fun h => ?_, fun h => ?_, fun h => ?_⟩
  · rw [State.cmdEffect_genkey h, (State.sageAnswer_keeps _ _).1]
    rfl
  · rw [State.cmdEffect_provision h]
    exact ⟨State.lcsAdvance_state _ _ (by decide), congrArg Sage.chains ((State.lcsAdvance_within _ _ _).part_eq .sage (by decide))⟩
  · rw [State.cmdEffect_enroll h]
    refine ⟨State.lcsAdvance_state _ _ (by decide), ((State.lcsAdvance_within _ _ _).getR_eq _ _ (by decide)).trans ?_⟩
    exact ((State.showLive_within _).getR_eq _ _ (by decide)).trans (s.enrolled_valid c)
  · rw [State.cmdEffect_addSlot h]
    exact ((State.showLive_within _).getR_eq _ _ (by decide)).trans (s.lcsBit_getR _ _)
  · rw [State.cmdEffect_revoke h, State.getR_raise]
    exact ((State.showLive_within _).getR_eq _ _ (by decide)).trans (s.lcsBit_getR _ _)
  · rw [State.cmdEffect_setOsk h]
    exact s.lcsBit_getR _ _
  · rw [State.cmdEffect_setLegacy h]
    exact (State.getR_setR_self _ _ _ _).trans rfl
  · rw [State.cmdEffect_retire h]
    refine ⟨((State.sageErase_within _).getR_eq _ _ (by decide)).trans (State.lcsAdvance_state _ _ (by decide)), rfl, rfl, rfl, ?_⟩
    exact ((State.showLive_within _).getR_eq _ _ (by decide)).trans ((State.getR_setR_self _ _ _ _).trans rfl)

/-! ### The end of verification (R642 to R645) -/

/-- A command that passes every check names a key that its kind can have. -/
theorem keyselOk_of_cmdCode {c : SageCmd} (h : s.cmdCode c = 0) : keyselOk c.op c.facts.keysel.val = true := by
  by_contra hk
  simp only [State.cmdCode] at h
  split_ifs at h with hread hform
  simp [hk] at hform

/-- GENKEY names no slot, so no slot's keys are found wrong. -/
theorem State.cmdTaken_genkey {c : SageCmd} (h : s.cmdCode c = 0) (hop : c.op = 1) : s.cmdTaken c = s := by
  have hk : c.facts.keysel.val = 15 := by
    have := keyselOk_of_cmdCode h
    simpa [keyselOk, hop] using this
  have hmatch : s.keyMismatch c.facts.keysel c.facts.hashed = s := if_neg (by simp [hk])
  rw [State.cmdTaken, hmatch, ite_self]

/-- How verification ends, by the code, the fuses and the response. -/
theorem sageVerifyDone_ends {c : SageCmd} (hc : s.sage.cmd = some c) (run : FuseRun) (rspOk : Bool) :
    (s.cmdCode c ≠ 0 → exec (.sgeVerifyDone run rspOk) s = .next ((s.cmdTaken c).cmdEnd c (s.cmdCode c)))
    ∧ (s.cmdCode c = 0 → run = .cut → c.op ≠ 1 → c.op ≠ 6 → exec (.sgeVerifyDone run rspOk) s = .next ((s.cmdTaken c).cmdBroken c .cut))
    ∧ (s.cmdCode c = 0 → run = .fails ∨ run = .stateFails → c.op ≠ 1 → c.op ≠ 6 →
      exec (.sgeVerifyDone run rspOk) s = .next (((s.cmdTaken c).cmdBroken c run).cmdEnd c 11))
    ∧ (s.cmdCode c = 0 → c.op = 1 → rspOk = false →
      exec (.sgeVerifyDone run rspOk) s = .next (((s.cmdTaken c).modSage (fun g => { g with keys := true })).cmdEnd c 12))
    ∧ (s.cmdCode c = 0 → c.op = 1 → rspOk = true → exec (.sgeVerifyDone run rspOk) s = .next
      (if (s.cmdTaken c).sageRefused then ((s.cmdTaken c).cmdEffect c).cmdEnd c 12
        else (((s.cmdTaken c).cmdEffect c).cmdEnd c 0).setR Reg.SGE_CMT 0 s.cycle))
    ∧ (s.cmdCode c = 0 → c.op ≠ 1 → run = .ok ∨ c.op = 6 →
      exec (.sgeVerifyDone run rspOk) s = .next ((((s.cmdTaken c).cmdEffect c).cmdEnd c 0).setR Reg.SGE_CMT 0 s.cycle)) := by
  rw [exec_sgeVerifyDone run rspOk hc, State.markCommit_cmdDone, State.cmdDone, State.cmdTaken_cycle]
  have hfuse1 : c.op = 1 → usesFuse c.op = false := fun h => by simp [usesFuse, h]
  refine ⟨fun h => if_pos h, fun h hrun h1 h6 => ?_, fun h hrun h1 h6 => ?_, fun h h1 hr => ?_, fun h h1 hr => ?_, fun h h1 hrun => ?_⟩
  · rw [if_neg (not_not.mpr h), if_pos ⟨hrun, usesFuse_true h1 h6⟩]
  · have hcut : run ≠ .cut ∧ run ≠ .ok := by rcases hrun with rfl | rfl <;> decide
    rw [if_neg (not_not.mpr h), if_neg (fun k => hcut.1 k.1), if_pos ⟨hcut.2, usesFuse_true h1 h6⟩]
  · rw [if_neg (not_not.mpr h), hfuse1 h1, if_neg (by simp), if_neg (by simp), if_pos (by simp [h1, hr])]
  · rw [if_neg (not_not.mpr h), hfuse1 h1, if_neg (by simp), if_neg (by simp), if_neg (by simp [hr])]
    by_cases href : (s.cmdTaken c).sageRefused = true
    · rw [if_pos ⟨h1, href⟩, if_pos href]
    · rw [if_neg (fun k => href k.2), if_neg href]
  · have hfuse : run = .ok ∨ usesFuse c.op = false := hrun.imp_right (fun h6 => by simp [usesFuse, h6])
    have hcut : ¬ (run = .cut ∧ usesFuse c.op = true) := fun k => hfuse.elim (fun e => by simp [e] at k) (fun e => by simp [e] at k)
    have hfails : ¬ (run ≠ .ok ∧ usesFuse c.op = true) := fun k => hfuse.elim k.1 (fun e => by simp [e] at k)
    rw [if_neg (not_not.mpr h), if_neg hcut, if_neg hfails, if_neg (by simp [h1]), if_neg (by simp [h1])]

/-- Verification ends with no error: the command has taken effect. -/
theorem sageVerifyDone_done {c : SageCmd} (hc : s.sage.cmd = some c) (hcode : s.cmdCode c = 0) (href : c.op = 1 → s.sageRefused = false) :
    exec (.sgeVerifyDone .ok true) s = .next ((s.cmdTaken c).cmdDone c) := by
  obtain ⟨-, -, -, -, hgenkey, hother⟩ := sageVerifyDone_ends hc .ok true
  rw [State.cmdDone, State.cmdTaken_cycle]
  by_cases h1 : c.op = 1
  · refine (hgenkey hcode h1 rfl).trans ?_
    rw [if_neg (by rw [State.cmdTaken_genkey hcode h1, href h1]; decide)]
  · exact hother hcode h1 (.inl rfl)

/-! ### Power or a fuse fails ADD_SLOT (R645) -/

theorem State.cmdBroken_addSlot (s : State) {c : SageCmd} {run : FuseRun} (hop : c.op = 4) (hrun : run = .fails ∨ run = .cut) :
    s.cmdBroken c run = s.lcsBit Reg.SGE_LCS_SPOILED (cmdSlot c) := by
  rcases hrun with rfl | rfl <;> exact if_pos (.inr hop)

/-! ### Aborts (R38, R644) -/

theorem exec_sgeCmdAbort_none {req : BitVec 16} (h : isMgmt req.toNat = true) (hc : s.sage.cmd = none) : exec (.sgeCmdAbort req) s =
    if s.flag Reg.SGE_GOING 0 then .next ((((s.respond 0 0).setR Reg.SGE_GOING 0 0).setR Reg.SGE_CMD_STAT_STATE 0 3).sageSignal)
    else .next (if s.getR Reg.SGE_CMD_STAT_STATE 0 = 2 ∧ s.inCommitCycle Reg.SGE_CMT 0 = true then (s.respond 0 0).setR Reg.SGE_CMD_STAT_ABORT_LATE 0 1
      else s.respond 0 0) := by
  change execSgeCmdAbort req s = _
  have hcmd : (s.respond 0 0).sage.cmd = none := hc
  simp only [execSgeCmdAbort, h, hc, Bool.not_true, Bool.false_eq_true, if_false]

/-- A command in verification is aborted. -/
def State.cmdAborted (s : State) (c : SageCmd) : State :=
  ((((s.respond 0 0).nonceUsed c).setR Reg.SGE_CMD_STAT_STATE 0 3).modSage (fun g => { g with cmd := none })).sageSignal

/-- An aborted command shows ABORTED; its nonce lapses, and nothing else of Sage's changes. -/
theorem State.cmdAborted_shows (s : State) (c : SageCmd) : (s.cmdAborted c).getR Reg.SGE_CMD_STAT_STATE 0 = 3
    ∧ (s.cmdAborted c).sage = { s.sage with cmd := none } ∧ (s.cmdAborted c).resp = ⟨0, 0, false⟩ ∧ (s.cmdAborted c).mem = s.mem
    ∧ (s.cmdAborted c).events = s.events ∧ (s.cmdAborted c).getR Reg.SGE_LCS_STATE 0 = s.getR Reg.SGE_LCS_STATE 0 := by
  have hused := (s.respond 0 0).nonceUsed_within c
  have hsignal := State.sageSignal_within ((((s.respond 0 0).nonceUsed c).setR Reg.SGE_CMD_STAT_STATE 0 3).modSage (fun g => { g with cmd := none }))
  refine ⟨(hsignal.getR_eq _ _ (by decide)).trans (State.getR_setR_self ((s.respond 0 0).nonceUsed c) Reg.SGE_CMD_STAT_STATE 0 3),
    (hsignal.part_eq .sage (by decide)).trans (congrArg (fun g : Sage => { g with cmd := none }) (hused.part_eq .sage (by decide))),
    (hsignal.part_eq .resp (by decide)).trans (hused.part_eq .resp (by decide)), (hsignal.part_eq .mem (by decide)).trans (hused.part_eq .mem (by decide)),
    (hsignal.part_eq .events (by decide)).trans (hused.part_eq .events (by decide)), (hsignal.getR_eq _ _ (by decide)).trans ?_⟩
  exact (State.getR_setR_id ((s.respond 0 0).nonceUsed c) Reg.SGE_CMD_STAT_STATE Reg.SGE_LCS_STATE 0 0 3 (by decide)).trans
    (hused.getR_eq Reg.SGE_LCS_STATE 0 (by decide))

theorem exec_sgeCmdAbort {req : BitVec 16} {c : SageCmd} (h : isMgmt req.toNat = true) (hc : s.sage.cmd = some c) :
    exec (.sgeCmdAbort req) s = .next (s.cmdAborted c) := by
  change execSgeCmdAbort req s = _
  simp only [execSgeCmdAbort, h, hc, Bool.not_true, Bool.false_eq_true, if_false] <;> rfl

theorem exec_sgeCmdAbort_refused {req : BitVec 16} (h : isMgmt req.toNat = false) : exec (.sgeCmdAbort req) s = .next (s.respond 0 2) :=
  if_pos (by simp [h])

/-! ### Nonces (R643) -/

/-- Sage forms a nonce, and every earlier one is void. -/
def State.nonceAsked (s : State) : State :=
  ((s.nonceDrop.setR Reg.SGE_NONCE_STAT_BUSY 0 1).respond 0 0).modSage (fun g =>
    { g with cmd := g.cmd.map (fun c => { c with facts := { c.facts with nonce := false } }) })

theorem State.nonceAsked_shows (s : State) : s.nonceAsked.getR Reg.SGE_NONCE_STAT_BUSY 0 = 1 ∧ s.nonceAsked.getR Reg.SGE_NONCE_STAT_VALID 0 = 0
    ∧ s.nonceAsked.getR Reg.SGE_NONCE_V 0 = 0 := by
  have hbusy := State.getR_setR_id s.nonceDrop Reg.SGE_NONCE_STAT_BUSY
  refine ⟨(State.getR_setR_self s.nonceDrop Reg.SGE_NONCE_STAT_BUSY 0 1).trans rfl, (hbusy _ 0 0 1 (by decide)).trans ?_, (hbusy _ 0 0 1 (by decide)).trans ?_⟩
  · rw [State.nonceDrop, State.getR_setR_id _ _ _ _ _ _ (by decide), State.getR_setR_self]
    rfl
  · exact (State.getR_setR_self _ _ _ _).trans rfl

theorem State.nonceAsked_leaves (s : State) :
    Leaves [.resp, .sage] [Reg.SGE_NONCE_STAT_BUSY.key 0, Reg.SGE_NONCE_STAT_VALID.key 0, Reg.SGE_NONCE_V.key 0] s s.nonceAsked :=
  ((((Leaves.refl.setR _ _ _ (by simp)).setR _ _ _ (by simp)).setR _ _ _ (by simp)).respond _ _ _ (by decide)).modSage _ (by decide)

/-- Sage has formed a nonce. -/
def State.nonceMade (s : State) : State :=
  (((s.setR Reg.SGE_NONCE_STAT_BUSY 0 0).setR Reg.SGE_NONCE_STAT_VALID 0 1).setR Reg.SGE_NONCE_V 0 (Config.freeNonce s.free).toNat).draw

theorem State.nonceMade_shows (s : State) : s.nonceMade.getR Reg.SGE_NONCE_STAT_BUSY 0 = 0 ∧ s.nonceMade.getR Reg.SGE_NONCE_STAT_VALID 0 = 1
    ∧ s.nonceMade.getR Reg.SGE_NONCE_V 0 = (Config.freeNonce s.free).toNat := by
  have hvalue := State.getR_setR_id ((s.setR Reg.SGE_NONCE_STAT_BUSY 0 0).setR Reg.SGE_NONCE_STAT_VALID 0 1) Reg.SGE_NONCE_V
  refine ⟨(hvalue _ 0 0 _ (by decide)).trans ?_, (hvalue _ 0 0 _ (by decide)).trans ?_, (State.getR_setR_self _ _ _ _).trans ?_⟩
  · rw [State.getR_setR_id _ _ _ _ _ _ (by decide), State.getR_setR_self]
    rfl
  · exact (State.getR_setR_self _ _ _ _).trans rfl
  · exact Field.norm_of_lt rfl (Config.freeNonce s.free).isLt

theorem State.nonceMade_leaves (s : State) :
    Leaves [.free] [Reg.SGE_NONCE_STAT_BUSY.key 0, Reg.SGE_NONCE_STAT_VALID.key 0, Reg.SGE_NONCE_V.key 0] s s.nonceMade :=
  ((((Leaves.refl.setR _ _ _ (by simp)).setR _ _ _ (by simp)).setR _ _ _ (by simp))).draw (by decide)

theorem State.flag_of_getR {f : Field} {i n : Nat} (h : s.getR f i = n) : s.flag f i = decide (n = 1) := by
  rw [State.flag, h]

/-! ### The statement -/

/-- Settles O52. -/
theorem sageCommandsComplete : Obligations.SageCommandsComplete := by
  refine ⟨fun s req => ⟨fun hreq => ?_, fun hreq => if_pos (by simp [hreq]), fun h => State.when_false _ _ h, fun h => ?_⟩, fun s f req hreq hst => ?_,
    fun s f req h => ?_, fun s run rspOk h => exec_sgeVerifyDone_none h, fun s t run rspOk c hc ht => ?_, fun s run rspOk c hc hcode => ?_,
    fun s c hc hcode hop href => ?_, fun s c hc hcode hop => ?_, fun s req hreq hc => ?_, fun s req hreq => exec_sgeCmdAbort_refused hreq,
    fun s req c hc => ⟨fun hreq => exec_sgeCmdAbort_refused hreq, fun hreq => ?_⟩⟩
  · obtain ⟨hbusy, hvalid, hv⟩ := s.nonceAsked_shows
    exact ⟨s.nonceAsked, exec_sgeNonceNew hreq, State.flag_of_getR hbusy, State.flag_of_getR hvalid, hv, rfl, s.nonceAsked_leaves⟩
  · obtain ⟨hbusy, hvalid, hv⟩ := s.nonceMade_shows
    exact ⟨s.nonceMade, State.when_true _ _ h, State.flag_of_getR hbusy, State.flag_of_getR hvalid, hv, rfl, s.nonceMade_leaves⟩
  · refine ⟨(s.cmdGoes · f), s.sageGo_starts 1 f hreq hst, s.sageGo_starts 2 f hreq hst, s.sageGo_starts 3 f hreq hst, s.sageGo_starts 4 f hreq hst,
      s.sageGo_starts 5 f hreq hst, s.sageGo_starts 6 f hreq hst, s.sageGo_starts 7 f hreq hst, s.sageGo_starts 8 f hreq hst, fun op _ hop => ?_⟩
    obtain ⟨hstate, hcode, hshow, hlate, hgoing⟩ := s.cmdGoes_status f hop
    exact ⟨hstate, hcode, hshow, hlate, hgoing, rfl, rfl, s.cmdGoes_leaves op f⟩
  · exact ⟨_, rfl, s.sageGo_stays 1 f h, s.sageGo_stays 2 f h, s.sageGo_stays 3 f h, s.sageGo_stays 4 f h, s.sageGo_stays 5 f h, s.sageGo_stays 6 f h,
      s.sageGo_stays 7 f h, s.sageGo_stays 8 f h⟩
  · obtain rfl : t = s.cmdTaken c := ht
    exact sageVerifyDone_ends hc run rspOk
  · refine ⟨_, (exec_sgeVerifyDone run rspOk hc).trans (if_pos hcode), (State.cmdEnd_state _ _ _).trans (if_neg hcode),
      State.cmdEnd_code _ _ (s.cmdCode_le c), ?_, ?_, ?_, ?_, State.cmdEnd_nonce _ _⟩
    · rw [State.cmdEnd_sage, (s.cmdTaken_within c).part_eq .sage (by decide)]
    · exact ((State.cmdEnd_within _ _ _).getR_eq _ _ (by decide)).trans (s.cmdTaken_getR _ _ _)
    · exact ((State.cmdEnd_within _ _ _).getR_eq _ _ (by decide)).trans (s.cmdTaken_getR _ _ _)
    · exact ((State.cmdEnd_within _ _ _).part_eq .mem (by decide)).trans ((s.cmdTaken_within c).part_eq .mem (by decide))
  · refine ⟨(s.cmdTaken c).cmdDone c, sageVerifyDone_done hc hcode href, (State.cmdDone_state _ _).1, (State.cmdDone_state _ _).2, ?_⟩
    obtain ⟨h1, h2, h3, h4, h5, h6, h7, h8⟩ := (s.cmdTaken c).cmdEffect_shows c
    simp only [State.cmdTaken_getR] at h3 h4 h5 h6
    have hread f hf := (s.cmdTaken c).cmdDone_getR c f hf
    rw [State.flag, State.cmdDone_sage, hread _ (by decide), hread _ (by decide), hread _ (by decide), hread _ (by decide), hread _ (by decide)]
    exact ⟨rfl, h1, h2, h3, h4, h5, h6, fun h => decide_eq_true (h7 h), h8,
      fun h => (State.cmdDone_mem _ h).trans ((s.cmdTaken_within c).part_eq .mem (by decide))⟩
  · obtain ⟨-, -, hfails, -, -, -⟩ := sageVerifyDone_ends hc .fails true
    obtain ⟨-, hcut, -, -, -, -⟩ := sageVerifyDone_ends hc .cut true
    have hop1 : c.op ≠ 1 := by omega
    have hop6 : c.op ≠ 6 := by omega
    have hspoil : ((s.cmdTaken c).lcsBit Reg.SGE_LCS_SPOILED (cmdSlot c)).getR Reg.SGE_LCS_SPOILED 0
        = Reg.SGE_LCS_SPOILED.norm (setBit (s.getR Reg.SGE_LCS_SPOILED 0) (cmdSlot c)) := by rw [State.lcsBit_getR, State.cmdTaken_getR]
    have hkeep (f : Field) (hf) : ((s.cmdTaken c).lcsBit Reg.SGE_LCS_SPOILED (cmdSlot c)).getR f 0 = s.getR f 0 :=
      ((State.lcsBit_within _ _ _).getR_eq f 0 hf).trans (s.cmdTaken_getR c f 0)
    refine ⟨⟨_, hfails hcode (.inl rfl) hop1 hop6, State.cmdEnd_state _ _ _, State.cmdEnd_code _ _ (by decide), ?_⟩, ⟨_, hcut hcode rfl hop1 hop6, ?_⟩⟩
    · rw [State.cmdBroken_addSlot _ hop (.inl rfl), (State.cmdEnd_within _ _ _).getR_eq _ _ (by decide), (State.cmdEnd_within _ _ _).getR_eq _ _ (by decide),
        (State.cmdEnd_within _ _ _).getR_eq _ _ (by decide)]
      exact ⟨hspoil, hkeep _ (by decide), hkeep _ (by decide)⟩
    · rw [State.cmdBroken_addSlot _ hop (.inr rfl)]
      exact ⟨hspoil, hkeep _ (by decide), hkeep _ (by decide)⟩
  · rw [exec_sgeCmdAbort_none hreq hc]
    exact ⟨fun h => if_pos h, fun h h2 hcmt => (if_neg (by simp [h])).trans (congrArg Host.Outcome.next (if_pos ⟨h2, decide_eq_true hcmt⟩)),
      fun h hno => (if_neg (by simp [h])).trans (congrArg Host.Outcome.next (if_neg (fun k => hno.elim (· k.1) (· (of_decide_eq_true k.2)))))⟩
  · exact ⟨s.cmdAborted c, exec_sgeCmdAbort hreq hc, s.cmdAborted_shows c⟩

end Sys2Proof.Machine
end

section
/-!
PROOF. The thermal commands (R662 to R679): a sensor's filter, a die's thresholds, the trip, the end of an orderly stop, throttling, conversions and the wake timer.
-/

namespace Sys2Proof.Machine

variable {s t : State}

/-! ### One sensor's filter (R663, R665) -/

/-- A raw reading after the median of three. -/
def State.medianed (s : State) (i : Nat) (x : Int) : Int :=
  if s.flag Reg.DSK_SENS_CFG_MED i && decide (2 ≤ s.getR Reg.SENS_N i) then
    median3 x (signed 16 (s.getR Reg.SENS_R1 i)) (signed 16 (s.getR Reg.SENS_R2 i)) else x

/-- A raw reading after both filters. -/
def State.filtered (s : State) (i : Nat) (x : Int) : Int :=
  if s.getR Reg.SENS_N i = 0 then s.medianed i x
  else signed 16 (s.getR Reg.DSK_SENS_VAL i) + Int.fdiv (s.medianed i x - signed 16 (s.getR Reg.DSK_SENS_VAL i)) (2 ^ s.getR Reg.DSK_SENS_CFG_K i)

/-- A sensor holds its raw readings and the filtered one. -/
def State.sensed (s : State) (i : Nat) (x : Int) : State :=
  (((s.setR Reg.SENS_R2 i (s.getR Reg.SENS_R1 i)).setR Reg.SENS_R1 i (unsigned 16 x)).setR Reg.SENS_N i (min 3 (s.getR Reg.SENS_N i + 1))).setR
    Reg.DSK_SENS_VAL i (unsigned 16 (s.filtered i x))

theorem State.sensorStep_eq (s : State) (i : Nat) (x : Int) : s.sensorStep i x =
    ((s.sensed i x).setR Reg.DSK_SENS_HIST_MAX i (unsigned 16 (if s.getR Reg.SENS_N i = 0 then s.filtered i x
      else max (signed 16 (s.getR Reg.DSK_SENS_HIST_MAX i)) (s.filtered i x)))).setR Reg.DSK_SENS_HIST_MIN i
      (unsigned 16 (if s.getR Reg.SENS_N i = 0 then s.filtered i x else min (signed 16 (s.getR Reg.DSK_SENS_HIST_MIN i)) (s.filtered i x))) := rfl

theorem State.sensorStep_val (s : State) (i : Nat) (x : Int) : (s.sensorStep i x).getR Reg.DSK_SENS_VAL i = unsigned 16 (s.filtered i x) := by
  rw [State.sensorStep_eq, State.getR_setR_id _ _ _ _ _ _ (by decide), State.getR_setR_id _ _ _ _ _ _ (by decide), State.sensed, State.getR_setR_self]
  exact Field.norm_of_lt rfl (unsigned_lt 16 _)

/-- A first sample shows as it is, and is both extremes. -/
theorem State.sensorStep_first {i : Nat} (x : Int) (h : s.getR Reg.SENS_N i = 0) : (s.sensorStep i x).getR Reg.DSK_SENS_VAL i = unsigned 16 x
    ∧ (s.sensorStep i x).getR Reg.DSK_SENS_HIST_MAX i = unsigned 16 x ∧ (s.sensorStep i x).getR Reg.DSK_SENS_HIST_MIN i = unsigned 16 x := by
  have hf : s.filtered i x = x := by simp [State.filtered, State.medianed, h]
  refine ⟨(s.sensorStep_val i x).trans (congrArg _ hf), ?_, ?_⟩
  · rw [State.sensorStep_eq, State.getR_setR_id _ _ _ _ _ _ (by decide), State.getR_setR_self, if_pos h, hf]
    exact Field.norm_of_lt rfl (unsigned_lt 16 _)
  · rw [State.sensorStep_eq, State.getR_setR_self, if_pos h, hf]
    exact Field.norm_of_lt rfl (unsigned_lt 16 _)

theorem State.sensorStep_leaves (s : State) (i : Nat) (x : Int) : Leaves [] [Reg.SENS_R1.key i, Reg.SENS_R2.key i, Reg.SENS_N.key i, Reg.DSK_SENS_VAL.key i,
    Reg.DSK_SENS_HIST_MAX.key i, Reg.DSK_SENS_HIST_MIN.key i] s (s.sensorStep i x) :=
  (((((Leaves.refl.setR _ _ _ (by simp)).setR _ _ _ (by simp)).setR _ _ _ (by simp)).setR _ _ _ (by simp)).setR _ _ _ (by simp)).setR _ _ _ (by simp)

/-! ### A die's thresholds (R671 to R673) -/

/-- A die is at WARN. -/
def State.warned (s : State) (d : Nat) : State :=
  (s.setR Reg.DSK_ZSTAT_WARN 0 (setBit (s.getR Reg.DSK_ZSTAT_WARN 0) d)).raise duskEp 0x0B05 2 (dskDetail 0 0 d (s.getR Reg.DSK_ZTEMP_GOV d))

/-- A die's zone is in range. -/
def State.inRange (s : State) (d : Nat) : State := s.setR Reg.THERM_RNG 0 (clrBit (s.getR Reg.THERM_RNG 0) d)

/-- Whether every zone is in range shows. -/
def State.showRange (s : State) : State := s.setR Reg.DSK_ZSTAT_RANGE 0 (bit (decide (s.getR Reg.THERM_RNG 0 ≠ 0)))

theorem State.thresholds_warn {d : Nat} (hw : nbit (s.getR Reg.DSK_ZSTAT_WARN 0) d = false) (hlo : (16 * s.thrWarn : Nat) ≤ s.gov d)
    (hhi : s.gov d < (16 * s.thrCrit : Nat)) (hz : s.zone d ≤ 1600) : s.thresholds d = ((s.warned d).inRange d).showRange := by
  have hcrit : ¬ 16 * (s.thrCrit : Int) ≤ s.gov d := by omega
  unfold State.thresholds
  extract_lets g w temp t r u v
  have ht : t = s.warned d := if_pos (by simpa [w, g, hw] using hlo)
  have hu : u = t.inRange d := if_neg (not_lt.mpr hz)
  have hv : v = u.showRange := rfl
  rw [if_neg (by simp [g, hcrit]), hv, hu, ht]

/-! ### The trip (R674) -/

/-- A field is none of a list. -/
abbrev notOf (l : List Field) (f : Field) : Prop := ∀ g ∈ l, g.id % Field.idBound ≠ f.id % Field.idBound

theorem notOf_anti {l m : List Field} (h : ∀ g ∈ l, g ∈ m) (f : Field) (hf : notOf m f) : notOf l f := fun g hg => hf g (h g hg)

/-- What shows a trip and the slot's operation. -/
def tripFields : List Field := [Reg.DSK_ZSTAT_THERM_STOP, Reg.DSK_ZSTAT_TRIP, Reg.TRIP_T, Reg.DSK_PWR_STAT_STATE, Reg.DSK_PWR_STAT_REASON]

/-- What a domain's loss of power leaves. -/
def poweredFields : List Field := Reg.DSK_PSTATE :: tripFields

section
variable {ps : List Part} {W : Field → Prop}

theorem Within.getR_notOf {l : List Field} {g : Field} (h : Within ps (notOf l) s t) (i : Nat) (hg : g ∈ l) : t.getR g i = s.getR g i :=
  h.getR_eq g i (fun _ hf => hf g hg)

theorem Within.resetPages (h : Within ps W s t) (fs : List Field) (lo n : Nat) (hf : ∀ f ∈ fs, W f) : Within ps W s (t.resetPages fs lo n) :=
  h.trans ⟨fun p _ => by cases p <;> rfl, fun _ _ hg => State.getR_resetPages_id _ _ _ _
    (List.all_eq_true.mpr fun f hm => decide_eq_true (hg f (hf f hm)).symm)⟩

end

theorem mem_of_statusOf {fs : List Field} {f : Field} (h : f ∈ statusOf fs) : f ∈ fs := (List.mem_filter.mp h).1

section
variable (h : Within untimed (notOf poweredFields) s t)
include h

theorem Within.lostPages (b : Blk) (lo n : Nat) (hb : ∀ f ∈ Reg.ofBlk b, notOf poweredFields f) :
    Within untimed (notOf poweredFields) s (t.resetPages (statusOf (Reg.ofBlk b)) lo n) :=
  h.resetPages _ _ _ (fun _ hf => hb _ (mem_of_statusOf hf))

theorem Within.lostCore (k : Nat) : Within untimed (notOf poweredFields) s (t.dropCore k) :=
  (((((((((h.modMem _ (by decide)).modMem _ (by decide)).resetPages _ _ _ (by decide)).resetPages _ _ _ (by decide)).resetPages _ _ _ (by decide)).modNoc _
    (by decide)).resetRange _ _ _ (by decide)).resetRange _ _ _ (by decide)).modChip _ (by decide)).modMid _ (by decide)

theorem Within.lostLpx (n : Nat) : Within untimed (notOf poweredFields) s (t.dropLpx n) :=
  (((Within.ite (h.raise _ _ _ _ (by decide)) h).resetPages lpxLostFields _ _ (by decide)).enterSt _ _ _ _ _ (by decide) (by decide) (by decide)).modLpx _
    (by decide)

theorem Within.lostLanes (g : Nat) : Within untimed (notOf poweredFields) s (t.dropLanes g) :=
  .ite ((h.modLanes _ (by decide)).lostPages .lnq _ _ (by decide)) (((h.modLanes _ (by decide)).lostPages .lnq _ _ (by decide)).lostPages .dcl _ _ (by decide))

theorem Within.lostEngines (n : Nat) : Within untimed (notOf poweredFields) s (t.dropEngines n) :=
  ((((h.modPge _ (by decide)).modFce _ (by decide)).lostPages .pge _ _ (by decide)).lostPages .fce _ _ (by decide)).setR _ _ _ (by decide)

theorem Within.lostMsps (g : Nat) : Within untimed (notOf poweredFields) s (t.dropMsps g) :=
  (((h.modMsp _ (by decide)).resetPages _ _ _ (by decide)).modMem _ (by decide)).resetFields _ _ (by decide)

theorem Within.lostBank (b : Nat) : Within untimed (notOf poweredFields) s (t.dropBank b) :=
  (((h.modTio _ (by decide)).lostPages .tio _ _ (by decide)).resetRange _ _ _ (by decide)).setR _ _ _ (by decide)

/-- A domain that loses its power leaves the state of every domain, and what shows a trip. -/
theorem Within.lostDomain (d : Nat) : Within untimed (notOf poweredFields) s (t.dropDomain d) := by
  unfold State.dropDomain
  have hq : Within untimed (notOf poweredFields) s (t.dropQueues d) := h.modNoc _ (by decide)
  have hheld : Within untimed (notOf poweredFields) s ((quadRegions d).foldl (fun u rg => if (t.dropQueues d).configuredRegion rg then u.holdRegion rg
      else u) (t.dropQueues d)) :=
    hq.foldl (fun _ rg k => .ite (k.holdRegion rg (by decide) (by decide) (by decide) (by decide)) k) _
  exact .ite hheld (.ite (hq.lostCore _) (.ite (hq.lostLpx _) (.ite (hq.lostLanes _)
    (.ite (hq.lostPages .pci _ _ (by decide)) (.ite (hq.lostEngines _) (.ite (hq.lostMsps _) (.ite (hq.lostBank _)
    (.ite (hq.foldl (fun _ n k => (((k.setR _ n _ (by decide)).setR _ n _ (by decide)).setR _ n _ (by decide)).modDbg _ (by decide)) _)
    (.ite (((hq.setR _ _ _ (by decide)).setR _ _ _ (by decide)).modDbg _ (by decide)) hq)))))))))

end

/-- A domain's ports are OFF and its regions isolated, and it has lost its state. -/
def State.cutOff (s : State) (d : Nat) : State :=
  let t := (domainEps d).foldl (fun u e => if u.portState e < 2 then u.setR Reg.NOC_PSTATE (portIx e) 2 else u) s
  let t := if d < 32 then (quadRegions d).foldl (fun u rg =>
      let l := if (u.region rg).causes.contains 4 then (u.region rg).causes else 4 :: (u.region rg).causes
      (u.setCauses rg l).napPort rg l) t else t
  t.dropDomain d

theorem State.cutPower_eq (s : State) (d : Nat) : s.cutPower d =
    ((((s.cutOff d).setR Reg.DSK_PSTATE d 2).setR Reg.PW_COMMIT d 0).setR Reg.PW_WAKE d 0).setR Reg.PW_WAKERS d 0 := rfl

theorem State.cutOff_within (s : State) (d : Nat) : Within untimed (notOf poweredFields) s (s.cutOff d) := by
  unfold State.cutOff
  have hports : Within untimed (notOf poweredFields) s
      ((domainEps d).foldl (fun u e => if u.portState e < 2 then u.setR Reg.NOC_PSTATE (portIx e) 2 else u) s) :=
    (Within.refl s).foldl (fun _ _ k => .ite (k.setR _ _ _ (by decide)) k) _
  refine Within.lostDomain ?_ d
  exact .ite (hports.foldl (fun _ rg k => (k.setCauses rg _ (by decide) (by decide)).napPort rg _ (by decide)) _) hports

/-- Power goes from one domain alone. -/
theorem State.cutPower_pstate (s : State) (d j : Nat) : (s.cutPower d).pstate j = if j = d then 2 else s.pstate j := by
  have hoff : (s.cutPower d).pstate j = ((s.cutOff d).setR Reg.DSK_PSTATE d 2).getR Reg.DSK_PSTATE j := by
    rw [State.pstate, State.cutPower_eq, State.getR_setR_id _ _ _ _ _ _ (by decide), State.getR_setR_id _ _ _ _ _ _ (by decide),
      State.getR_setR_id _ _ _ _ _ _ (by decide)]
  rw [hoff]
  split
  case isTrue h => exact h ▸ (State.getR_setR_self _ _ _ _).trans rfl
  case isFalse h =>
    rw [State.getR_setR_ix _ _ _ _ _ _ h]
    exact (s.cutOff_within d).getR_notOf _ (by simp [poweredFields])

theorem State.cutPower_within (s : State) (d : Nat) : Within untimed (notOf tripFields) s (s.cutPower d) := by
  rw [State.cutPower_eq]
  have hoff := (s.cutOff_within d).mono (qs := untimed) (V := notOf tripFields) (fun _ hp => hp) (notOf_anti (fun _ hg => List.mem_cons_of_mem _ hg))
  exact (((hoff.setR _ _ _ (by decide)).setR _ _ _ (by decide)).setR _ _ _ (by decide)).setR _ _ _ (by decide)

/-- Power goes from the first n domains. -/
def State.cutFirst (s : State) (n : Nat) : State := (List.range n).foldl (fun u d => u.cutPower d) s

theorem State.cutFirst_succ (s : State) (n : Nat) : s.cutFirst (n + 1) = (s.cutFirst n).cutPower n := by
  rw [State.cutFirst, List.range_succ, List.foldl_append]
  rfl

theorem State.cutFirst_pstate (s : State) (n : Nat) : ∀ d < n, (s.cutFirst n).pstate d = 2 := by
  induction n with
  | zero => exact fun d hd => absurd hd (Nat.not_lt_zero d)
  | succ n ih =>
    intro d hd
    rw [State.cutFirst_succ, State.cutPower_pstate]
    split
    case isTrue => rfl
    case isFalse h => exact ih d (by omega)

theorem State.cutFirst_within (s : State) (n : Nat) : Within untimed (notOf tripFields) s (s.cutFirst n) :=
  (Within.refl s).foldl (fun v d k => k.trans (v.cutPower_within d)) _

/-! ### Alerts (R675) -/

theorem State.alerts_within (s : State) : Within [] (fun f => f ∈ [Reg.ALERT, Reg.PLIC_LEVEL, Reg.PLIC_PEND]) s s.alerts :=
  (((Within.refl s).setR _ _ _ (by simp)).setR _ _ _ (by simp)).irqLevel _ _ (by simp) (by simp)

/-- A stop or a trip drives the second alert. -/
theorem State.alerts_thermal (h : s.thermal = true) : s.alerts.flag Reg.ALERT 1 = true := by
  have hline : Within [] (fun f => f ∈ [Reg.PLIC_LEVEL, Reg.PLIC_PEND])
      ((s.setR Reg.ALERT 0 (bit (decide (s.getR Reg.DSK_ZSTAT_WARN 0 ≠ 0) || s.polAlert 0))).setR Reg.ALERT 1 (bit (s.thermal || s.polAlert 1))) s.alerts :=
    (Within.refl _).irqLevel _ _ (by simp) (by simp)
  refine decide_eq_true ((hline.getR_eq _ _ (by decide)).trans ((State.getR_setR_self _ _ _ _).trans ?_))
  rw [h, Bool.true_or]
  rfl

/-! ### The trip's last part (R674) -/

/-- A trip shows, at the present time. -/
def State.tripped (s : State) : State := ((s.setR Reg.DSK_ZSTAT_TRIP 0 1).setR Reg.TRIP_T 0 s.time.toNat).setR Reg.TRIP_OVER 0 0

/-- The slot's operation fails by the trip. -/
def State.slotFails (s : State) : State := (s.setR Reg.DSK_PWR_STAT_STATE 0 4).setR Reg.DSK_PWR_STAT_REASON 0 5

/-- Every domain is cut by the trip, and the slot's operation has failed. -/
def State.tripCut (s : State) : State := if s.getR Reg.DSK_PWR_STAT_STATE 0 = 1 then (s.tripped.cutFirst 127).slotFails else s.tripped.cutFirst 127

theorem exec_thermalTrip (s : State) : exec .thermalTrip s = .next s.tripCut.alerts := rfl

theorem State.tripCut_after (s : State) :
    Within [] (fun f => f ∈ [Reg.DSK_PWR_STAT_STATE, Reg.DSK_PWR_STAT_REASON]) (s.tripped.cutFirst 127) s.tripCut :=
  .ite (((Within.refl _).setR _ _ _ (by simp)).setR _ _ _ (by simp)) (.refl _)

theorem State.tripCut_pstate (s : State) {d : Nat} (hd : d < 127) : s.tripCut.pstate d = 2 :=
  (s.tripCut_after.getR_eq _ _ (by decide)).trans (State.cutFirst_pstate _ _ d hd)

theorem State.tripCut_trip (s : State) : s.tripCut.getR Reg.DSK_ZSTAT_TRIP 0 = 1 ∧ s.tripCut.getR Reg.TRIP_T 0 = s.time.toNat := by
  have hshow (f : Field) (hf) (hg) : s.tripCut.getR f 0 = s.tripped.getR f 0 :=
    (s.tripCut_after.getR_eq f 0 hf).trans ((State.cutFirst_within _ _).getR_notOf 0 hg)
  constructor
  · rw [hshow _ (by decide) (by simp [tripFields]), State.tripped, State.getR_setR_id _ _ _ _ _ _ (by decide), State.getR_setR_id _ _ _ _ _ _ (by decide),
      State.getR_setR_self]
    rfl
  · rw [hshow _ (by decide) (by simp [tripFields]), State.tripped, State.getR_setR_id _ _ _ _ _ _ (by decide), State.getR_setR_self]
    exact Field.norm_of_lt rfl s.time.isLt

theorem State.tripCut_slot (h : s.getR Reg.DSK_PWR_STAT_STATE 0 = 1) :
    s.tripCut.getR Reg.DSK_PWR_STAT_STATE 0 = 4 ∧ s.tripCut.getR Reg.DSK_PWR_STAT_REASON 0 = 5 := by
  have hcut : s.tripCut = (s.tripped.cutFirst 127).slotFails := if_pos h
  rw [hcut, State.slotFails, State.getR_setR_id _ _ _ _ _ _ (by decide), State.getR_setR_self, State.getR_setR_self]
  exact ⟨rfl, rfl⟩

/-! ### The end of an orderly stop (R673) -/

/-- The fields that the end of a domain's force writes. -/
def liftFields : List Field := [Reg.PW_FORCE, Reg.DSK_PSTATE_FORCED, Reg.PW_FPEND, Reg.PORT_REFUSE, Reg.PORT_FORCED]

/-- What is left of a domain's force once a source lifts its own. -/
def State.forceLeft (s : State) (d src : Nat) : Nat :=
  if nbit (s.getR Reg.PW_FORCE d) (src - 1) then s.getR Reg.PW_FORCE d - src else s.getR Reg.PW_FORCE d

theorem State.forceLift_after (s : State) (d src : Nat) : Within [] (fun f => f ∈ [Reg.DSK_PSTATE_FORCED, Reg.PW_FPEND, Reg.PORT_REFUSE, Reg.PORT_FORCED])
    (s.setR Reg.PW_FORCE d (s.forceLeft d src)) (s.forceLift d src) := by
  have hshown : Within [] (fun f => f ∈ [Reg.DSK_PSTATE_FORCED, Reg.PW_FPEND, Reg.PORT_REFUSE, Reg.PORT_FORCED])
      (s.setR Reg.PW_FORCE d (s.forceLeft d src))
      ((s.setR Reg.PW_FORCE d (s.forceLeft d src)).setR Reg.DSK_PSTATE_FORCED d (bit (decide (s.forceLeft d src ≠ 0)))) :=
    (Within.refl _).setR _ _ _ (by simp)
  exact .ite ((hshown.setR _ _ _ (by simp)).foldl (fun _ _ k => (k.setR _ _ _ (by simp)).setR _ _ _ (by simp)) _) hshown

theorem State.forceLift_within (s : State) (d src : Nat) : Within [] (fun f => f ∈ liftFields) s (s.forceLift d src) :=
  ((Within.refl s).setR _ _ _ (by simp [liftFields])).trans ((s.forceLift_after d src).mono (by simp) (fun _ hf => List.mem_cons_of_mem _ hf))

theorem State.forceLift_other (s : State) {d j : Nat} (src : Nat) (h : j ≠ d) : (s.forceLift d src).getR Reg.PW_FORCE j = s.getR Reg.PW_FORCE j :=
  ((s.forceLift_after d src).getR_eq _ _ (by decide)).trans (State.getR_setR_ix _ _ _ _ _ _ h)

theorem State.forceLift_same (s : State) (d src : Nat) : (s.forceLift d src).getR Reg.PW_FORCE d = Reg.PW_FORCE.norm (s.forceLeft d src) :=
  ((s.forceLift_after d src).getR_eq _ _ (by decide)).trans (State.getR_setR_self _ _ _ _)

/-- A domain that nothing forces stays so. -/
theorem State.forceLift_zero {j : Nat} (d : Nat) (h : s.getR Reg.PW_FORCE j = 0) : (s.forceLift d 2).getR Reg.PW_FORCE j = 0 := by
  by_cases hj : j = d
  · rw [hj] at h
    rw [hj, State.forceLift_same, State.forceLeft, h]
    rfl
  · rw [State.forceLift_other _ _ hj, h]

/-- A domain that the stop alone forces is free once the stop lifts its force. -/
theorem State.forceLift_two {d : Nat} (h : s.getR Reg.PW_FORCE d = 2) : (s.forceLift d 2).getR Reg.PW_FORCE d = 0 := by
  rw [State.forceLift_same, State.forceLeft, h]
  rfl

/-- The stop lifts its force from domains in turn. -/
def State.forcesLift (s : State) (l : List Nat) : State := l.foldl (fun v d => v.forceLift d 2) s

theorem State.forcesLift_within (s : State) (l : List Nat) : Within [] (fun f => f ∈ liftFields) s (s.forcesLift l) :=
  (Within.refl s).foldl (fun v d k => k.trans (v.forceLift_within d 2)) _

theorem State.forcesLift_zero {j : Nat} (l : List Nat) (h : s.getR Reg.PW_FORCE j = 0) : (s.forcesLift l).getR Reg.PW_FORCE j = 0 := by
  induction l generalizing s with
  | nil => exact h
  | cons d l ih => exact ih (State.forceLift_zero d h)

theorem State.forcesLift_two {j : Nat} {l : List Nat} (hj : j ∈ l) (h : s.getR Reg.PW_FORCE j = 2) : (s.forcesLift l).getR Reg.PW_FORCE j = 0 := by
  induction l generalizing s with
  | nil => exact absurd hj List.not_mem_nil
  | cons d l ih =>
    by_cases hd : j = d
    · exact State.forcesLift_zero l (hd ▸ State.forceLift_two (hd ▸ h))
    · exact ih (List.mem_of_ne_of_mem hd hj) ((State.forceLift_other _ _ hd).trans h)

/-- The orderly stop is over. -/
def State.stopCleared (s : State) : State := (((s.respond 0 0).setR Reg.DSK_ZSTAT_THERM_STOP 0 0).setR Reg.DSK_ZSTAT_CRIT 0 0)

/-- The end of an orderly stop: its forces lifted, and its alert. -/
def State.stopOver (s : State) : State := (s.stopCleared.forcesLift stopDomains).alerts

/-- The orderly stop may end. -/
def State.stopMayEnd (s : State) : Bool := s.flag Reg.DSK_ZSTAT_THERM_STOP 0 && decide (s.getR Reg.DSK_ZSTAT_WARN 0 = 0)
  && (List.range 12).all (fun d => decide (s.zone d < (16 * s.thrWarn : Nat)))

theorem State.stopMayEnd_iff (s : State) : s.stopMayEnd = true ↔
    s.flag Reg.DSK_ZSTAT_THERM_STOP 0 = true ∧ s.getR Reg.DSK_ZSTAT_WARN 0 = 0 ∧ ∀ d < 12, s.zone d < (16 * s.thrWarn : Nat) := by
  simp only [State.stopMayEnd, Bool.and_eq_true, decide_eq_true_eq, List.all_eq_true, List.mem_range, and_assoc]

theorem exec_thermStopClear {req : BitVec 16} (hreq : s.dskWriter req.toNat = true) :
    exec (.thermStopClear req) s = if s.stopMayEnd then .next s.stopOver else .next (s.respond 0 0) :=
  if_neg (by simp [hreq])

theorem State.stopOver_within (s : State) : Within [] (fun f => f ∈ Reg.ALERT :: Reg.PLIC_LEVEL :: Reg.PLIC_PEND :: liftFields) s.stopCleared s.stopOver :=
  ((State.forcesLift_within _ _).mono (by simp) (by simp +contextual)).trans
    ((State.alerts_within _).mono (by simp) (by simp +contextual))

theorem State.stopOver_forced {d : Nat} (hd : d ∈ stopDomains) (h : s.getR Reg.PW_FORCE d = 2) : s.stopOver.forced d = false := by
  have hclear : s.stopCleared.getR Reg.PW_FORCE d = 2 := by
    rw [State.stopCleared, State.getR_setR_id _ _ _ _ _ _ (by decide), State.getR_setR_id _ _ _ _ _ _ (by decide)]
    exact h
  have hread : s.stopOver.getR Reg.PW_FORCE d = 0 := ((State.alerts_within _).getR_eq _ _ (by decide)).trans (State.forcesLift_two hd hclear)
  simp [State.forced, hread]

theorem State.stopOver_shows (s : State) : s.stopOver.flag Reg.DSK_ZSTAT_THERM_STOP 0 = false ∧ s.stopOver.getR Reg.DSK_ZSTAT_CRIT 0 = 0
    ∧ ∀ d, s.stopOver.pstate d = s.pstate d := by
  refine ⟨decide_eq_false ?_, ?_, fun d => ?_⟩
  · rw [s.stopOver_within.getR_eq _ _ (by decide), State.stopCleared, State.getR_setR_id _ _ _ _ _ _ (by decide), State.getR_setR_self]
    decide
  · rw [s.stopOver_within.getR_eq _ _ (by decide), State.stopCleared, State.getR_setR_self]
    rfl
  · refine (s.stopOver_within.getR_eq _ _ (by decide)).trans ?_
    rw [State.stopCleared, State.getR_setR_id _ _ _ _ _ _ (by decide), State.getR_setR_id _ _ _ _ _ _ (by decide)]
    rfl

/-! ### Conversions (R666) -/

/-- The next enabled channel of the converter. -/
def State.adcNext (s : State) : Option Nat :=
  ((List.range 16).map (fun i => (s.getR Reg.ADC_NEXT 0 + i) % 16)).find? (fun j => nbit (s.getR Reg.DSK_ADC_CFG_EN 0) j)

theorem exec_adcConversion_none {code : BitVec 12} (h : s.adcNext = none) : exec (.adcConversion code) s = .next s := by
  change execAdcConversion code s = _
  simp only [execAdcConversion, State.adcNext] at h ⊢
  simp only [h]

theorem exec_adcConversion {code : BitVec 12} {j : Nat} (h : s.adcNext = some j) :
    exec (.adcConversion code) s = .next ((s.setR Reg.DSK_ADC_CODE j (s.adcCode j code.toNat)).setR Reg.ADC_NEXT 0 ((j + 1) % 16)) := by
  change execAdcConversion code s = _
  simp only [execAdcConversion, State.adcNext] at h ⊢
  simp only [h]

theorem State.adcNext_none (h : s.getR Reg.DSK_ADC_CFG_EN 0 = 0) : s.adcNext = none :=
  List.find?_eq_none.mpr fun j _ => by simp [h, nbit]

/-! ### What thresholds and a trip show -/

/-- A die at WARN, in range and below CRIT: its bit, and the event. -/
theorem State.thresholds_shows {d : Nat} (hw : nbit (s.getR Reg.DSK_ZSTAT_WARN 0) d = false) (hlo : (16 * s.thrWarn : Nat) ≤ s.gov d)
    (hhi : s.gov d < (16 * s.thrCrit : Nat)) (hz : s.zone d ≤ 1600) :
    (s.thresholds d).getR Reg.DSK_ZSTAT_WARN 0 = Reg.DSK_ZSTAT_WARN.norm (setBit (s.getR Reg.DSK_ZSTAT_WARN 0) d)
    ∧ (s.thresholds d).events = raiseIn s.events (evKey 0x2D34 0x0B05) s.time.toNat 2 (dskDetail 0 0 d (s.getR Reg.DSK_ZTEMP_GOV d) % 2 ^ 128)
    ∧ Leaves [.events] [Reg.DSK_ZSTAT_WARN.key 0, Reg.THERM_RNG.key 0, Reg.DSK_ZSTAT_RANGE.key 0] s (s.thresholds d) := by
  rw [State.thresholds_warn hw hlo hhi hz]
  refine ⟨?_, State.raise_events _ _ _ _ _, (((Leaves.refl.setR _ _ _ (by simp)).raise _ _ _ _ (by decide)).setR _ _ _ (by simp)).setR _ _ _ (by simp)⟩
  rw [State.showRange, State.getR_setR_id _ _ _ _ _ _ (by decide), State.inRange, State.getR_setR_id _ _ _ _ _ _ (by decide), State.warned,
    State.getR_raise, State.getR_setR_self]

/-- What a trip shows once its alert is driven. -/
theorem State.tripCut_alerts (s : State) : s.tripCut.alerts.flag Reg.DSK_ZSTAT_TRIP 0 = true ∧ (∀ d < 127, s.tripCut.alerts.pstate d = 2)
    ∧ s.tripCut.alerts.flag Reg.ALERT 1 = true ∧ s.tripCut.alerts.getR Reg.TRIP_T 0 = s.time.toNat
    ∧ (s.getR Reg.DSK_PWR_STAT_STATE 0 = 1 → s.tripCut.alerts.getR Reg.DSK_PWR_STAT_STATE 0 = 4 ∧ s.tripCut.alerts.getR Reg.DSK_PWR_STAT_REASON 0 = 5) := by
  obtain ⟨htrip, htime⟩ := s.tripCut_trip
  have halert := s.tripCut.alerts_within
  refine ⟨decide_eq_true ((halert.getR_eq _ _ (by decide)).trans htrip), fun d hd => (halert.getR_eq _ _ (by decide)).trans (s.tripCut_pstate hd),
    State.alerts_thermal (by simp [State.thermal, State.flag, htrip]), (halert.getR_eq _ _ (by decide)).trans htime, fun h => ?_⟩
  rw [halert.getR_eq _ _ (by decide), halert.getR_eq _ _ (by decide)]
  exact State.tripCut_slot h

/-! ### The statement -/

/-- Settles O59. -/
theorem thermalCommandsComplete : Obligations.ThermalCommandsComplete := by
  refine ⟨fun s t x ht => ?_, fun s i x => ⟨s.sensorStep_first x, fun hn hm => ?_, fun hn hm hk => ?_, s.sensorStep_leaves i x⟩,
    fun s d hd hg hz => State.thresholds_shows hd.2 hg.1 hg.2 hz, fun s => ⟨_, exec_thermalTrip s, s.tripCut_alerts⟩,
    fun s req hreq => ⟨fun h => ?_, fun hstop hwarn hzone => ?_⟩, fun s d hd hne => State.when_true _ _ (by simp [hd, hne]),
    fun s d h => State.when_false _ _ (by rcases h with h | h <;> simp [h]),
    fun s code j => ⟨fun h => exec_adcConversion_none (State.adcNext_none h), fun h => exec_adcConversion h⟩,
    fun s hen hdue => State.when_true _ _ (by simp [hen, hdue]), fun s h => State.when_false _ _ (by rcases h with h | h | h <;> simp [h])⟩
  · rw [ht]
    rfl
  · rw [State.sensorStep_val, State.filtered, if_neg hn, State.medianed, hm]
    rfl
  · rw [State.sensorStep_val, State.filtered, if_neg (by omega), State.medianed, hm, if_pos (by simpa using hn), hk]
    simp
  · refine (exec_thermStopClear hreq).trans (if_neg fun k => ?_)
    obtain ⟨hstop, hwarn, hzone⟩ := s.stopMayEnd_iff.mp k
    rcases h with h | h | ⟨d, hd, hle⟩
    · exact absurd (h.symm.trans hstop) (by decide)
    · exact h hwarn
    · exact absurd (hzone d hd) (not_lt.mpr hle)
  · obtain ⟨hstopped, hcrit, hpstate⟩ := s.stopOver_shows
    exact ⟨s.stopOver, (exec_thermStopClear hreq).trans (if_pos (s.stopMayEnd_iff.mpr ⟨hstop, hwarn, hzone⟩)), hstopped, hcrit, s.stopOver_within.part_eq .resp (by decide),
      s.stopOver_within.part_eq .events (by decide), hpstate, fun _ hd h => State.stopOver_forced hd h⟩

end Sys2Proof.Machine
end

section
/-!
PROOF. The die links' errors, spares and folds (R681 to R687), and Midnight's automatic and requested tests (R696 to R700).
-/

namespace Sys2Proof.Machine

variable {s : State}

theorem State.getR_satAdd (s : State) {f : Field} (i n : Nat) (ha : f.align = 0) : (s.satAdd f i n).getR f i = min (s.getR f i + n) (2 ^ f.width - 1) := by
  refine (State.getR_setR_self _ _ _ _).trans (Field.norm_of_lt ha ?_)
  exact Nat.lt_of_le_of_lt (Nat.min_le_right _ _) (Nat.sub_lt (Nat.two_pow_pos _) Nat.one_pos)

/-! ### Counted errors (R683) -/

theorem State.countError_leaves (s : State) (page i key : Nat) (f : Field) :
    Leaves [.dlk] [f.key page, Reg.DLK_GRP_COUNT.key (grpIx page i)] s (s.countError page i key f) :=
  ((Leaves.refl.satAdd _ _ _ (by simp)).satAdd _ _ _ (by simp)).modDlk _ (by decide)

theorem State.countError_page (s : State) (page i key : Nat) {f : Field} (hf : f.id % Field.idBound ≠ Reg.DLK_GRP_COUNT.id % Field.idBound)
    (ha : f.align = 0) : (s.countError page i key f).getR f page = min (s.getR f page + 1) (2 ^ f.width - 1) :=
  (State.getR_setR_id _ Reg.DLK_GRP_COUNT _ _ _ _ hf).trans (s.getR_satAdd page 1 ha)

theorem State.countError_group (s : State) (page i key : Nat) {f : Field} (hf : Reg.DLK_GRP_COUNT.id % Field.idBound ≠ f.id % Field.idBound) :
    (s.countError page i key f).getR Reg.DLK_GRP_COUNT (grpIx page i) = min (s.getR Reg.DLK_GRP_COUNT (grpIx page i) + 1) 0xFFFF := by
  refine ((s.satAdd f page 1).getR_satAdd (f := Reg.DLK_GRP_COUNT) (grpIx page i) 1 rfl).trans ?_
  rw [State.satAdd, State.getR_setR_id _ _ _ _ _ _ hf]
  rfl

section
variable {bd p : Fin 4} {group page : Nat} (hp : page = bd.val * 8 + p.val)
include hp

theorem exec_dlkWireError {wire : Nat} (hg : groupOk page group = true) (hw : wireOk page wire = true) (ha : s.groupActive page group = true) :
    exec (.dlkWireError bd p group wire) s = .next (if s.dlkThresh page ≤ (s.wireCount page (wireKey page group wire)).1
      then (s.countError page group (wireKey page group wire) Reg.DLK_ERR_CE).wireFails page group wire
      else s.countError page group (wireKey page group wire) Reg.DLK_ERR_CE) := by
  subst hp
  exact if_pos (by simp [hg, hw, ha])

theorem exec_dlkWireError_stays {wire : Nat} (h : groupOk page group = false ∨ s.groupActive page group = false ∨ wireOk page wire = false) :
    exec (.dlkWireError bd p group wire) s = .next s := by
  subst hp
  exact if_neg (by rcases h with h | h | h <;> simp [h])

theorem exec_dlkUncorrectableCycle_stays {hit : List (Nat × Nat)} (h : groupOk page group = false ∨ s.groupActive page group = false) :
    exec (.dlkUncorrectableCycle bd p group hit) s = .next s := by
  subst hp
  exact if_neg (by rcases h with h | h <;> simp [h])

theorem exec_dlkBlockError_stays (h : groupOk page group = false ∨ s.groupActive page group = false) : exec (.dlkBlockError bd p group) s = .next s := by
  subst hp
  exact if_neg (by rcases h with h | h <;> simp [h])

end

/-! ### Wires that fail (R684 to R686) -/

section
variable {page i wire : Nat} (hp : Map.find s.dlk.pend (grpIx page i) = none)
include hp

theorem State.wireFails_none : s.wireFails page i wire =
    if s.flag Reg.DLK_GRP_SPARED (grpIx page i) then s.exhaust page i wire
    else s.modDlk (fun d => { d with pend := Map.put d.pend (grpIx page i) (wire, s.ncyc) }) := by
  simp only [State.wireFails, hp]

theorem State.wireFails_spare (hs : s.flag Reg.DLK_GRP_SPARED (grpIx page i) = false) :
    Map.find (s.wireFails page i wire).dlk.pend (grpIx page i) = some (wire, s.ncyc) ∧ Leaves [.dlk] [] s (s.wireFails page i wire) := by
  rw [State.wireFails_none hp, if_neg (by simp [hs])]
  exact ⟨Map.find_put_self _ _ _, Leaves.refl.modDlk _ (by decide)⟩

end

/-- A group is exhausted, and its link is to fold. -/
def State.foldDue (s : State) (page i wire : Nat) : State :=
  ((s.setR Reg.DLK_GRP_EXHAUSTED (grpIx page i) 1).raise (dlkSrc page) 0x0C02 2 (dlkDetail page i wire)).modDlk (fun d =>
    { d with folds := Map.put d.folds (linkNo (linkOf page i)) (i % 2, s.ncyc) })

theorem State.exhaust_foldDue {page i : Nat} (wire : Nat) (he : s.flag Reg.DLK_GRP_EXHAUSTED (grpIx page i) = false) (hl : s.linkState (linkOf page i) = 0)
    (hf : Map.find s.dlk.folds (linkNo (linkOf page i)) = none) : s.exhaust page i wire = s.foldDue page i wire := by
  simp only [State.exhaust, he, hl, hf, Bool.false_eq_true, if_false, if_true, Nat.zero_ne_one] <;> rfl

theorem State.foldDue_shows (s : State) (page i wire : Nat) : (s.foldDue page i wire).flag Reg.DLK_GRP_EXHAUSTED (grpIx page i) = true
    ∧ (s.foldDue page i wire).events = raiseIn s.events (evKey (dlkSrc page) 0x0C02) s.time.toNat 2 (dlkDetail page i wire % 2 ^ 128)
    ∧ Map.find (s.foldDue page i wire).dlk.folds (linkNo (linkOf page i)) = some (i % 2, s.ncyc) :=
  ⟨decide_eq_true ((State.getR_setR_self s Reg.DLK_GRP_EXHAUSTED (grpIx page i) 1).trans rfl), State.raise_events _ _ _ _ _, Map.find_put_self _ _ _⟩

/-! ### Further errors (R681 to R683) -/

theorem State.furtherError_counts {page i : Nat} (h : (s.wireCount page (wireKey page i 127)).1 < s.dlkThresh page) :
    s.furtherError page i = s.countError page i (wireKey page i 127) Reg.DLK_ERR_UE := if_neg (Nat.not_le.mpr h)

/-- The routes of a spine bundle whose signal a cycle lost repeat the value before. -/
def State.spineRepeats (s : State) (page group : Nat) (hit : List (Nat × Nat)) : State :=
  (s.modIc (fun i => { i with spines := i.spines.map (fun e =>
    match hit.find? (fun h => decide (h.1 = e.1)) with
    | some h => if (spineDirs (linkOf page group)).any (fun d => e.2.links.contains d) then (e.1, repeatStage e.2 h.2) else e
    | none => e) })).raise (dlkSrc page) 0x0C05 4 (dlkDetail page group)

section
variable {bd p : Fin 4} {group page : Nat} (hp : page = bd.val * 8 + p.val) (hg : groupOk page group = true) (ha : s.groupActive page group = true)
include hp hg ha

theorem exec_dlkUncorrectableCycle (hit : List (Nat × Nat)) : exec (.dlkUncorrectableCycle bd p group hit) s =
    .next ((if isSpine page group then s.spineRepeats page group hit else s).furtherError page group) := by
  subst hp
  exact if_pos (by simp [hg, ha])

theorem exec_dlkBlockError : exec (.dlkBlockError bd p group) s =
    .next ((if isSpine page group then s.raise (dlkSrc page) 0x0C05 4 (dlkDetail page group) else s).furtherError page group) := by
  subst hp
  exact if_pos (by simp [hg, ha])

end

/-! ### Spares and folds (R684, R686) -/

theorem State.spare_shows (s : State) (page i : Nat) {wire : Nat} (hw : wire < 64) : (s.spare page i wire).getR Reg.DLK_GRP_WIRE (grpIx page i) = wire
    ∧ (s.spare page i wire).flag Reg.DLK_GRP_SPARED (grpIx page i) = true
    ∧ (s.spare page i wire).getR Reg.DLK_STAT_SPARED page = min (s.getR Reg.DLK_STAT_SPARED page + 1) 0xFFFF
    ∧ (s.spare page i wire).events = raiseIn s.events (evKey (dlkSrc page) 0x0C01) s.time.toNat 1 (dlkDetail page i wire % 2 ^ 128)
    ∧ Leaves [.dlk, .events] [Reg.DLK_GRP_WIRE.key (grpIx page i), Reg.DLK_GRP_SPARED.key (grpIx page i), Reg.DLK_STAT_SPARED.key page] s
      (s.spare page i wire) := by
  have hcount := State.getR_setR_id ((s.setR Reg.DLK_GRP_WIRE (grpIx page i) wire).setR Reg.DLK_GRP_SPARED (grpIx page i) 1) Reg.DLK_STAT_SPARED
  refine ⟨(hcount _ _ _ _ (by decide)).trans ?_, decide_eq_true ((hcount _ _ _ _ (by decide)).trans ((State.getR_setR_self _ _ _ _).trans rfl)), ?_,
    State.raise_events _ _ _ _ _, ?_⟩
  · rw [State.getR_setR_id _ _ _ _ _ _ (by decide), State.getR_setR_self]
    exact Field.norm_of_lt rfl hw
  · refine (State.getR_satAdd _ page 1 (f := Reg.DLK_STAT_SPARED) rfl).trans ?_
    rw [State.getR_setR_id _ _ _ _ _ _ (by decide), State.getR_setR_id _ _ _ _ _ _ (by decide)]
    rfl
  · exact ((((Leaves.refl.setR _ _ _ (by simp)).setR _ _ _ (by simp)).satAdd _ _ _ (by simp)).modDlk _ (by decide)).raise _ _ _ _ (by decide)

section
variable {bd p : Fin 4} {group page : Nat} (hp : page = bd.val * 8 + p.val)
include hp

theorem exec_dlkSpareSwitch {w t : Nat} (h : Map.find s.dlk.pend (grpIx page group) = some (w, t)) : exec (.dlkSpareSwitch bd p group) s =
    s.when (groupOk page group && s.groupActive page group && decide (t + 128 ≤ s.ncyc)) (s.spare page group w) := by
  subst hp
  change execDlkSpareSwitch bd p group s = _
  simp only [execDlkSpareSwitch, h]

theorem exec_dlkSpareSwitch_none (h : Map.find s.dlk.pend (grpIx page group) = none) : exec (.dlkSpareSwitch bd p group) s = .next s := by
  subst hp
  change execDlkSpareSwitch bd p group s = _
  simp only [execDlkSpareSwitch, h]

theorem exec_dlkSpareSwitch_stays (h : groupOk page group = false ∨ s.groupActive page group = false) : exec (.dlkSpareSwitch bd p group) s = .next s := by
  cases hf : Map.find s.dlk.pend (grpIx page group) with
  | none => exact exec_dlkSpareSwitch_none hp hf
  | some x => exact (exec_dlkSpareSwitch hp hf).trans (State.when_false _ _ (by rcases h with h | h <;> simp [h]))

theorem exec_dlkFoldCommit {q t : Nat} (h : Map.find s.dlk.folds (linkNo (linkOf page group)) = some (q, t)) : exec (.dlkFoldCommit bd p group) s =
    s.when (groupOk page group && decide (s.linkState (linkOf page group) = 0) && decide (t ≤ s.ncyc) && decide (s.ncyc % 2 = 0))
      (s.linkFold (linkOf page group) (1 - q) page group) := by
  subst hp
  change execDlkFoldCommit bd p group s = _
  simp only [execDlkFoldCommit, h]

theorem exec_dlkFoldCommit_none (h : Map.find s.dlk.folds (linkNo (linkOf page group)) = none) : exec (.dlkFoldCommit bd p group) s = .next s := by
  subst hp
  change execDlkFoldCommit bd p group s = _
  simp only [execDlkFoldCommit, h]

theorem exec_dlkFoldCommit_stays (h : groupOk page group = false ∨ s.linkState (linkOf page group) ≠ 0 ∨ s.ncyc % 2 ≠ 0) :
    exec (.dlkFoldCommit bd p group) s = .next s := by
  cases hf : Map.find s.dlk.folds (linkNo (linkOf page group)) with
  | none => exact exec_dlkFoldCommit_none hp hf
  | some x => exact (exec_dlkFoldCommit hp hf).trans (State.when_false _ _ (by rcases h with h | h | h <;> simp [h]))

end

/-! ### Requests of a test (R699, R701) -/

/-- A request as a GO leaves it: BUSY where its unit exists, else FAILED with RESULT 5. -/
def State.reqGone (s : State) (bd : Nat) (force : Bool) : State :=
  let t := ((s.setR Reg.MID_REQ_CTL_FORCE bd (bit force)).respond 0 0).setR Reg.MID_REQ_STAT_ABORT_LATE bd 0
  if midUnit bd (s.getR Reg.MID_REQ_UNIT_CLASS bd) (s.getR Reg.MID_REQ_UNIT_INDEX bd) then t.midEnd bd 1 0 else t.midEnd bd 4 5

theorem State.midEnd_state (s : State) (bd : Nat) {st : Nat} (result : Nat) (h : st < 8) : (s.midEnd bd st result).getR Reg.MID_REQ_STAT_STATE bd = st := by
  rw [State.midEnd, State.getR_setR_id _ _ _ _ _ _ (by decide), State.getR_setR_self]
  exact Field.norm_of_lt rfl h

theorem State.midEnd_result (s : State) (bd st : Nat) {result : Nat} (h : result < 16) : (s.midEnd bd st result).getR Reg.MID_REQ_STAT_RESULT bd = result :=
  (State.getR_setR_self _ _ _ _).trans (Field.norm_of_lt rfl h)

theorem State.midEnd_within (s : State) (bd st result : Nat) :
    Within [] (fun f => f ∈ [Reg.MID_REQ_STAT_STATE, Reg.MID_REQ_STAT_RESULT]) s (s.midEnd bd st result) :=
  ((Within.refl s).setR _ _ _ (by simp)).setR _ _ _ (by simp)

/-- A request's FORCE is taken, and no abort of it was late. -/
def State.reqForced (s : State) (bd : Nat) (force : Bool) : State :=
  ((s.setR Reg.MID_REQ_CTL_FORCE bd (bit force)).respond 0 0).setR Reg.MID_REQ_STAT_ABORT_LATE bd 0

theorem State.reqForced_force (s : State) (bd : Nat) (force : Bool) : (s.reqForced bd force).flag Reg.MID_REQ_CTL_FORCE bd = force := by
  have hread : (s.reqForced bd force).getR Reg.MID_REQ_CTL_FORCE bd = Reg.MID_REQ_CTL_FORCE.norm (bit force) :=
    (State.getR_setR_id _ Reg.MID_REQ_STAT_ABORT_LATE _ _ _ _ (by decide)).trans (State.getR_setR_self s _ _ _)
  rw [State.flag, hread]
  cases force <;> rfl

theorem State.reqGone_eq (s : State) (bd : Nat) (force : Bool) : s.reqGone bd force = (s.reqForced bd force).midEnd bd
    (if midUnit bd (s.getR Reg.MID_REQ_UNIT_CLASS bd) (s.getR Reg.MID_REQ_UNIT_INDEX bd) then 1 else 4)
    (if midUnit bd (s.getR Reg.MID_REQ_UNIT_CLASS bd) (s.getR Reg.MID_REQ_UNIT_INDEX bd) then 0 else 5) := by
  unfold State.reqGone State.reqForced
  split <;> rfl

theorem State.reqGone_shows (s : State) (bd : Nat) (force : Bool) :
    (s.reqGone bd force).getR Reg.MID_REQ_STAT_STATE bd = (if midUnit bd (s.getR Reg.MID_REQ_UNIT_CLASS bd) (s.getR Reg.MID_REQ_UNIT_INDEX bd) then 1 else 4)
    ∧ (s.reqGone bd force).getR Reg.MID_REQ_STAT_RESULT bd = (if midUnit bd (s.getR Reg.MID_REQ_UNIT_CLASS bd) (s.getR Reg.MID_REQ_UNIT_INDEX bd) then 0 else 5)
    ∧ (s.reqGone bd force).getR Reg.MID_REQ_STAT_ABORT_LATE bd = 0 ∧ (s.reqGone bd force).flag Reg.MID_REQ_CTL_FORCE bd = force
    ∧ (s.reqGone bd force).resp = ⟨0, 0, false⟩
    ∧ Leaves [.resp] [Reg.MID_REQ_STAT_STATE.key bd, Reg.MID_REQ_STAT_RESULT.key bd, Reg.MID_REQ_STAT_ABORT_LATE.key bd, Reg.MID_REQ_CTL_FORCE.key bd] s
      (s.reqGone bd force) := by
  rw [State.reqGone_eq]
  refine ⟨State.midEnd_state _ _ _ (by split <;> decide), State.midEnd_result _ _ _ (by split <;> decide), ?_, ?_, rfl, ?_⟩
  · refine ((State.midEnd_within _ _ _ _).getR_eq _ _ (by decide)).trans ?_
    exact (State.getR_setR_self _ _ _ _).trans rfl
  · exact (State.flag_congr ((State.midEnd_within _ _ _ _).getR_eq _ _ (by decide))).trans (s.reqForced_force bd force)
  · exact ((((Leaves.refl.setR _ _ _ (by simp)).respond _ _ _ (by decide)).setR _ _ _ (by simp)).setR _ _ _ (by simp)).setR _ _ _ (by simp)

section
variable {bd : Fin 4} {force : Bool} {req : BitVec 16}

theorem exec_midReqGo (h : isMgmt req.toNat = true) : exec (.midReqGo bd force req) s = if s.getR Reg.MID_REQ_STAT_STATE bd = 1
    then .next ((s.setR Reg.MID_REQ_CTL_FORCE bd (bit force)).respond 0 0) else .next (s.reqGone bd force) := by
  refine (if_neg (by simp [h])).trans (if_congr Iff.rfl rfl ?_)
  unfold State.reqGone
  exact (apply_ite Host.Outcome.next _ _ _).symm

theorem exec_midReqAbort (h : isMgmt req.toNat = true) : exec (.midReqAbort bd req) s = if s.getR Reg.MID_REQ_STAT_STATE bd ≠ 1 then .next (s.respond 0 0)
    else if s.midTaken bd then .next ((s.respond 0 0).setR Reg.MID_REQ_STAT_ABORT_LATE bd 1) else .next ((s.respond 0 0).setR Reg.MID_REQ_STAT_STATE bd 3) :=
  if_neg (by simp [h])

end

/-! ### The deadline (R699) -/

theorem State.midDefer_shows (s : State) (bd : Nat) {cls index : Nat} (hc : cls = s.getR Reg.MID_REQ_UNIT_CLASS bd)
    (hi : index = s.getR Reg.MID_REQ_UNIT_INDEX bd) : (s.midDefer bd 2).getR Reg.MID_REQ_STAT_STATE bd = 4
    ∧ (s.midDefer bd 2).getR Reg.MID_REQ_STAT_RESULT bd = 2
    ∧ (s.midDefer bd 2).events = raiseIn s.events (evKey (bdWinEp bd) 0x0C12) s.time.toNat 2 (midDetail cls index 2 % 2 ^ 128)
    ∧ Leaves [.events] [Reg.MID_REQ_STAT_STATE.key bd, Reg.MID_REQ_STAT_RESULT.key bd] s (s.midDefer bd 2) := by
  subst hc hi
  exact ⟨(State.getR_raise _ _ _ _ _ _ _).trans (s.midEnd_state bd 2 (by decide)), (State.getR_raise _ _ _ _ _ _ _).trans (s.midEnd_result bd 4 (by decide)),
    State.raise_events _ _ _ _ _, ((Leaves.refl.setR _ _ _ (by simp)).setR _ _ _ (by simp)).raise _ _ _ _ (by decide)⟩

section
variable {bd : Fin 4}

/-- What a deadline that has come does to a unit of a class. -/
def State.deadlineActs (s : State) (bd : Fin 4) (cls index : Nat) : State :=
  if s.flag Reg.MID_REQ_CTL_FORCE bd = false ∨ s.pstate (midDomain bd cls index) ≠ 0 then s.midDefer bd 2
  else if cls = 1 ∨ cls = 2 then
    if s.midHolds bd cls index then s
    else if s.midFree bd cls index then (s.midOffline cls (4 * bd + index)).midTake bd cls index true
    else s.midDefer bd 3
  else if cls = 3 then
    if s.getR Reg.SPD_OWN_STATE (bd.val * 64 + index) = 1 ∨ 96 ≤ epRouter (s.getR Reg.SPD_OWN_EP (bd.val * 64 + index)) then s
    else ((s.setR Reg.SPD_NEWEP (bd.val * 64 + index) 0xFFFC).setR Reg.SPD_OWN_STATE (bd.val * 64 + index) 1).setR Reg.SPD_OWN_ABORT_LATE
      (bd.val * 64 + index) 0
  else s.midDefer bd 2

/-- The deadline of a request has come, and its unit is neither taken nor eligible. -/
def State.midLate (s : State) (bd : Fin 4) (cls index : Nat) : Bool :=
  decide (s.getR Reg.MID_REQ_STAT_STATE bd = 1) && !s.midTaken bd && !s.midEligible bd cls index && s.due (s.getR Reg.MID_REQ_DL_T bd)

variable {cls index : Nat} (hc : cls = s.getR Reg.MID_REQ_UNIT_CLASS bd) (hi : index = s.getR Reg.MID_REQ_UNIT_INDEX bd)
include hc hi

theorem exec_midDeadline (h : s.midLate bd cls index = true) : exec (.midDeadline bd) s = .next (s.deadlineActs bd cls index) := by
  subst hc hi
  refine (if_neg (by simpa [State.midLate, State.midAsked] using h)).trans ?_
  unfold State.deadlineActs
  simp only [apply_ite Host.Outcome.next]
  refine if_congr ?_ rfl rfl
  rw [Bool.or_eq_true, Bool.not_eq_true']
  exact or_congr Iff.rfl decide_eq_true_iff

theorem exec_midDeadline_stays (h : s.midLate bd cls index = false) : exec (.midDeadline bd) s = .next s := by
  subst hc hi
  exact if_pos ((Bool.not_eq_true' _).mpr h)

theorem exec_midTestStart : exec (.midTestStart bd) s = s.when (decide (s.getR Reg.MID_REQ_STAT_STATE bd = 1) && !s.midTaken bd && s.midEligible bd cls index)
    (s.midTake bd cls index true) := by
  subst hc hi
  rfl

end

/-! ### The end of a test (R475, R700) -/

/-- Midnight lets a unit go. -/
def State.midLeft (s : State) (bd cls index : Nat) : State := s.modMid (fun l => l.filter (fun y => !ofUnit bd cls index y))

theorem State.midLeft_holds (s : State) (bd cls index : Nat) : (s.midLeft bd cls index).midHolds bd cls index = false :=
  List.any_eq_false.mpr fun _ hx => by simpa using (List.mem_filter.mp hx).2

/-- A test that has ended is counted, and its failure. -/
def State.testCounted (s : State) (bd cls index : Nat) (bad : Bool) : State :=
  if bad then ((s.midLeft bd cls index).wrapAdd Reg.MID_CLASS_TESTED (bd * 6 + cls) 1).satAdd Reg.MID_CLASS_FAILS (bd * 6 + cls) 1
  else (s.midLeft bd cls index).wrapAdd Reg.MID_CLASS_TESTED (bd * 6 + cls) 1

/-- The request of a test shows its result. -/
def State.testShown (s : State) (bd cls index : Nat) (bad req : Bool) (detail : Nat) : State :=
  if req then ((s.testCounted bd cls index bad).midEnd bd 2 (bit bad)).setR Reg.MID_REQ_DETAIL_V bd detail else s.testCounted bd cls index bad

/-- A pass is reported. -/
def State.testPassed (s : State) (bd cls index : Nat) (bad req : Bool) (detail : Nat) : State :=
  if bad then s.testShown bd cls index bad req detail
  else (s.testShown bd cls index bad req detail).raise (bdWinEp bd) 0x0C10 0 (midDetail cls index 0)

/-- The fields that a test's end writes for every class. -/
def testFields : List Field :=
  [Reg.MID_CLASS_TESTED, Reg.MID_CLASS_FAILS, Reg.MID_REQ_STAT_STATE, Reg.MID_REQ_STAT_RESULT, Reg.MID_REQ_DETAIL_V]

section
variable (s : State) (bd cls index : Nat) (bad req : Bool) (detail : Nat)

theorem State.testCounted_within : Within [] (fun f => f ∈ testFields) (s.midLeft bd cls index) (s.testCounted bd cls index bad) :=
  .ite (((Within.refl _).wrapAdd _ _ _ (by simp [testFields])).satAdd _ _ _ (by simp [testFields])) ((Within.refl _).wrapAdd _ _ _ (by simp [testFields]))

theorem State.testShown_within : Within [] (fun f => f ∈ testFields) (s.midLeft bd cls index) (s.testShown bd cls index bad req detail) :=
  .ite ((((s.testCounted_within bd cls index bad).setR _ _ _ (by simp [testFields])).setR _ _ _ (by simp [testFields])).setR _ _ _ (by simp [testFields]))
    (s.testCounted_within bd cls index bad)

theorem State.testPassed_within : Within [.events] (fun f => f ∈ testFields) (s.midLeft bd cls index) (s.testPassed bd cls index bad req detail) := by
  have hshown := (s.testShown_within bd cls index bad req detail).mono (qs := [.events]) (by simp) (fun _ hf => hf)
  exact .ite hshown (hshown.raise _ _ _ _ (by decide))

theorem State.testPassed_mem : (s.testPassed bd cls index bad req detail).mem = s.mem := (s.testPassed_within bd cls index bad req detail).part_eq .mem (by decide)

theorem State.testPassed_mid : (s.testPassed bd cls index bad req detail).mid = (s.midLeft bd cls index).mid :=
  (s.testPassed_within bd cls index bad req detail).part_eq .mid (by decide)

/-- The request of a test shows its end, its result and its detail. -/
theorem State.testPassed_request (hd : detail < 2 ^ 32) : (s.testPassed bd cls index bad true detail).getR Reg.MID_REQ_STAT_STATE bd = 2
    ∧ (s.testPassed bd cls index bad true detail).getR Reg.MID_REQ_STAT_RESULT bd = bit bad
    ∧ (s.testPassed bd cls index bad true detail).getR Reg.MID_REQ_DETAIL_V bd = detail := by
  have hshown : Within [.events] (fun _ => False) (((s.testCounted bd cls index bad).midEnd bd 2 (bit bad)).setR Reg.MID_REQ_DETAIL_V bd detail)
      (s.testPassed bd cls index bad true detail) := .ite (.refl _) ((Within.refl _).raise _ _ _ _ (by decide))
  have hread f i := hshown.getR_eq f i (fun _ h => h.elim)
  rw [hread, hread, hread, State.getR_setR_id _ _ _ _ _ _ (by decide), State.getR_setR_id _ _ _ _ _ _ (by decide), State.getR_setR_self]
  exact ⟨State.midEnd_state _ _ _ (by decide), State.midEnd_result _ _ _ (by cases bad <;> decide), Field.norm_of_lt rfl hd⟩

/-- A pass is the only event of a test's end that is no failure. -/
theorem State.testPassed_events : (s.testPassed bd cls index bad req detail).events =
    if bad then s.events else raiseIn s.events (evKey (bdWinEp bd) 0x0C10) s.time.toNat 0 (midDetail cls index 0 % 2 ^ 128) := by
  have hshown := s.testShown_within bd cls index bad req detail
  unfold State.testPassed
  split
  case isTrue => exact hshown.part_eq .events (by decide)
  case isFalse =>
    rw [State.raise_events, hshown.part_eq .events (by decide), hshown.part_eq .time (by decide)]
    rfl

end

/-- The fields that name the faulty units. -/
def faultFields : List Field := [Reg.MID_FAULTY_REGIONS, Reg.MID_FAULTY_PAIR, Reg.MID_FAULTY_GROUP]

/-- A failing unit is marked. -/
def State.midMarked (s : State) (bd cls index : Nat) : State :=
  match cls with
  | 0 => s.satAdd Reg.MID_FAULTY_REGIONS bd 1
  | 1 => s.setR Reg.MID_FAULTY_PAIR bd (setBit (s.getR Reg.MID_FAULTY_PAIR bd) index)
  | _ => s.setR Reg.MID_FAULTY_GROUP bd (setBit (s.getR Reg.MID_FAULTY_GROUP bd) index)

theorem State.midMarked_within (s : State) (bd cls index : Nat) : Within [] (fun f => f ∈ faultFields) s (s.midMarked bd cls index) := by
  unfold State.midMarked
  split
  case h_1 => exact (Within.refl s).satAdd _ _ _ (by simp [faultFields])
  case h_2 => exact (Within.refl s).setR _ _ _ (by simp [faultFields])
  case h_3 => exact (Within.refl s).setR _ _ _ (by simp [faultFields])

theorem State.midFault_eq (s : State) (bd cls index : Nat) :
    s.midFault bd cls index = (s.midMarked bd cls index).raise (bdWinEp bd) 0x0C11 4 (midDetail cls index 1) := by
  match cls with
  | 0 => rfl
  | 1 => rfl
  | _ + 2 => rfl

theorem State.midFault_within (s : State) (bd cls index : Nat) : Within [.events] (fun f => f ∈ faultFields) s (s.midFault bd cls index) := by
  rw [State.midFault_eq]
  exact ((s.midMarked_within bd cls index).mono (by simp) (fun _ hf => hf)).raise _ _ _ _ (by decide)

theorem State.midFault_events (s : State) (bd cls index : Nat) : (s.midFault bd cls index).events =
    raiseIn s.events (evKey (bdWinEp bd) 0x0C11) s.time.toNat 4 (midDetail cls index 1 % 2 ^ 128) := by
  have hmark := s.midMarked_within bd cls index
  rw [State.midFault_eq, State.raise_events, hmark.part_eq .events (by decide), hmark.part_eq .time (by decide)]

theorem State.midHolds_congr {s t : State} (h : t.mid = s.mid) (bd cls index : Nat) : t.midHolds bd cls index = s.midHolds bd cls index := by
  rw [State.midHolds, State.midHolds, h]

section
variable {bd : Fin 4} {cls : Fin 6} {index : Nat} {fail : Bool} {detail : BitVec 32} {rows : List Nat} {height width : BitVec 8} {x : MidTest}

/-- What a test's end does by the class of its unit. -/
theorem exec_midTestEnd (h : s.mid.find? (fun t => ofUnit bd cls index t && !t.ended) = some x)
    (hr : cls.val ≠ 3 ∨ s.repairsFirst (unitNo 0 bd index) = false) {bad : Bool} (hb : bad = (fail || (decide (cls.val = 3) && !rows.isEmpty)))
    {u : State} (hu : u = s.testPassed bd cls index bad x.req detail.toNat) : exec (.midTestEnd bd cls index fail detail rows height width) s =
    if cls.val = 3 then .next ((rows.foldl (fun v r => if r < unitWords (unitNo 0 bd index) / 16 then v.suspectRow (unitNo 0 bd index) r else v) u).invalidate
      (unitNo 0 bd index))
    else if cls.val = 5 then .next ((u.setR Reg.LNE_EYE_HEIGHT (40 * bd + index) height.toNat).setR Reg.LNE_EYE_WIDTH (40 * bd + index) width.toNat)
    else if cls.val < 3 ∧ bad then .next (u.midFault bd cls index)
    else .next u := by
  subst hu hb
  have hfirst : ¬ (cls.val = 3 ∧ s.repairsFirst (unitNo 0 bd index) = true) := fun k => hr.elim (· k.1) (fun hn => by simp [hn] at k)
  change execMidTestEnd bd cls index fail detail rows height width s = _
  simp only [execMidTestEnd, h, hfirst, if_false] <;> rfl

theorem exec_midTestEnd_repairs (h : s.mid.find? (fun t => ofUnit bd cls index t && !t.ended) = some x) (hc : cls.val = 3)
    (hr : s.repairsFirst (unitNo 0 bd index) = true) : exec (.midTestEnd bd cls index fail detail rows height width) s = .next s := by
  change execMidTestEnd bd cls index fail detail rows height width s = _
  simp only [execMidTestEnd, h]
  exact if_pos ⟨hc, hr⟩

theorem exec_midTestEnd_none (h : s.mid.find? (fun t => ofUnit bd cls index t && !t.ended) = none) :
    exec (.midTestEnd bd cls index fail detail rows height width) s = .next s := by
  change execMidTestEnd bd cls index fail detail rows height width s = _
  simp only [execMidTestEnd, h]

/-- A failing region, pair or group is marked faulty, and its request shows the failure. -/
theorem midTestEnd_fault (h : s.mid.find? (fun t => ofUnit bd cls index t && !t.ended) = some x) (hc : cls.val < 3) (hf : fail = true) :
    ∃ t, exec (.midTestEnd bd cls index fail detail rows height width) s = .next t ∧ t.midHolds bd cls index = false
      ∧ (x.req = true → t.getR Reg.MID_REQ_STAT_STATE bd = 2 ∧ t.getR Reg.MID_REQ_STAT_RESULT bd = 1 ∧ t.getR Reg.MID_REQ_DETAIL_V bd = detail.toNat)
      ∧ t.events = raiseIn s.events (evKey (bdWinEp bd) 0x0C11) s.time.toNat 4 (midDetail cls index 1 % 2 ^ 128) ∧ t.mem = s.mem := by
  have hfault := (s.testPassed bd cls index true x.req detail.toNat).midFault_within bd cls index
  have htest := s.testPassed_within bd cls index true x.req detail.toNat
  refine ⟨(s.testPassed bd cls index true x.req detail.toNat).midFault bd cls index, ?_, ?_, fun hx => ?_, ?_,
    (hfault.part_eq .mem (by decide)).trans (s.testPassed_mem _ _ _ _ _ _)⟩
  · exact (exec_midTestEnd h (.inl (by omega)) (bad := true) (by simp [hf]) rfl).trans
      ((if_neg (by omega)).trans ((if_neg (by omega)).trans (if_pos ⟨hc, rfl⟩)))
  · exact (State.midHolds_congr ((hfault.part_eq .mid (by decide)).trans (s.testPassed_mid _ _ _ _ _ _)) _ _ _).trans (s.midLeft_holds _ _ _)
  · rw [hfault.getR_eq _ _ (by decide), hfault.getR_eq _ _ (by decide), hfault.getR_eq _ _ (by decide), hx]
    exact s.testPassed_request bd cls index true _ detail.isLt
  · rw [State.midFault_events, State.testPassed_events, htest.part_eq .time (by decide)]
    rfl

/-- A unit but a bank or a lane that passes is let go, and its request shows the pass. -/
theorem midTestEnd_pass (h : s.mid.find? (fun t => ofUnit bd cls index t && !t.ended) = some x)
    (hc : cls.val = 0 ∨ cls.val = 1 ∨ cls.val = 2 ∨ cls.val = 4) (hf : fail = false) :
    ∃ t, exec (.midTestEnd bd cls index fail detail rows height width) s = .next t ∧ t.midHolds bd cls index = false
      ∧ (x.req = true → t.getR Reg.MID_REQ_STAT_STATE bd = 2 ∧ t.getR Reg.MID_REQ_STAT_RESULT bd = 0)
      ∧ t.events = raiseIn s.events (evKey (bdWinEp bd) 0x0C10) s.time.toNat 0 (midDetail cls index 0 % 2 ^ 128) ∧ t.mem = s.mem := by
  have hne : cls.val ≠ 3 ∧ cls.val ≠ 5 := by omega
  refine ⟨s.testPassed bd cls index false x.req detail.toNat, ?_, ?_, fun hx => ?_, s.testPassed_events _ _ _ _ _ _, s.testPassed_mem _ _ _ _ _ _⟩
  · exact (exec_midTestEnd h (.inl hne.1) (bad := false) (by simp [hf, hne.1]) rfl).trans
      ((if_neg hne.1).trans ((if_neg hne.2).trans (if_neg (by simp))))
  · exact (State.midHolds_congr (s.testPassed_mid _ _ _ _ _ _) _ _ _).trans (s.midLeft_holds _ _ _)
  · rw [hx]
    obtain ⟨hstate, hresult, -⟩ := s.testPassed_request bd cls index false _ detail.isLt
    exact ⟨hstate, hresult⟩

/-- The eye of a lane is shown. -/
theorem midTestEnd_eye (h : s.mid.find? (fun t => ofUnit bd cls index t && !t.ended) = some x) (hc : cls.val = 5) :
    ∃ t, exec (.midTestEnd bd cls index fail detail rows height width) s = .next t ∧ t.getR Reg.LNE_EYE_HEIGHT (40 * bd.val + index) = height.toNat
      ∧ t.getR Reg.LNE_EYE_WIDTH (40 * bd.val + index) = width.toNat ∧ t.mem = s.mem := by
  have hne : cls.val ≠ 3 := by omega
  refine ⟨_, (exec_midTestEnd h (.inl hne) rfl rfl).trans ((if_neg hne).trans (if_pos hc)), ?_, ?_, s.testPassed_mem _ _ _ _ _ _⟩
  · rw [State.getR_setR_id _ _ _ _ _ _ (by decide), State.getR_setR_self]
    exact Field.norm_of_lt rfl height.isLt
  · rw [State.getR_setR_self]
    exact Field.norm_of_lt rfl width.isLt

/-- A bank with no failing row is invalidated. -/
theorem midTestEnd_bank (h : s.mid.find? (fun t => ofUnit bd cls index t && !t.ended) = some x) (hc : cls.val = 3)
    (hr : s.repairsFirst (unitNo 0 bd index) = false) (hrows : rows = []) :
    ∃ t : State, exec (.midTestEnd bd cls index fail detail rows height width) s = .next (t.invalidate (unitNo 0 bd index)) ∧ t.mem = s.mem := by
  subst hrows
  exact ⟨_, (exec_midTestEnd h (.inr hr) rfl rfl).trans (if_pos hc), s.testPassed_mem _ _ _ _ _ _⟩

end

/-! ### The statement -/

section
variable {bd : Fin 4} {cls index : Nat}

/-- What the deadline of a request that is late does, by FORCE, the unit's domain and its class. -/
theorem midDeadline_acts (hc : cls = s.getR Reg.MID_REQ_UNIT_CLASS bd) (hi : index = s.getR Reg.MID_REQ_UNIT_INDEX bd) (h : s.midLate bd cls index = true) :
    (s.flag Reg.MID_REQ_CTL_FORCE bd = false ∨ s.pstate (midDomain bd cls index) ≠ 0 → exec (.midDeadline bd) s = .next (s.midDefer bd 2))
    ∧ (s.flag Reg.MID_REQ_CTL_FORCE bd = true → s.pstate (midDomain bd cls index) = 0 →
      (cls = 1 ∨ cls = 2 → exec (.midDeadline bd) s = .next (if s.midHolds bd cls index then s
        else if s.midFree bd cls index then (s.midOffline cls (4 * bd + index)).midTake bd cls index true else s.midDefer bd 3))
      ∧ (cls = 3 → exec (.midDeadline bd) s = .next (if s.getR Reg.SPD_OWN_STATE (bd.val * 64 + index) = 1 ∨
        96 ≤ epRouter (s.getR Reg.SPD_OWN_EP (bd.val * 64 + index)) then s
        else ((s.setR Reg.SPD_NEWEP (bd.val * 64 + index) 0xFFFC).setR Reg.SPD_OWN_STATE (bd.val * 64 + index) 1).setR Reg.SPD_OWN_ABORT_LATE
          (bd.val * 64 + index) 0))
      ∧ (cls = 0 ∨ 4 ≤ cls → exec (.midDeadline bd) s = .next (s.midDefer bd 2))) := by
  rw [exec_midDeadline hc hi h, State.deadlineActs]
  refine ⟨fun k => congrArg _ (if_pos k), fun hforce hon => ?_⟩
  have hacts : ¬ (s.flag Reg.MID_REQ_CTL_FORCE bd = false ∨ s.pstate (midDomain bd cls index) ≠ 0) := by simp [hforce, hon]
  rw [if_neg hacts]
  refine ⟨fun k => congrArg _ (if_pos k), fun k => ?_, fun k => ?_⟩
  · rw [if_neg (by omega), if_pos k]
  · rw [if_neg (by omega), if_neg (by omega)]

end

/-- Settles O60. -/
theorem dieLinkAndMidnightCommandsComplete : Obligations.DieLinkAndMidnightCommandsComplete := by
  refine ⟨?wire, ?inactive, ?noWire, ?fails, ?further, ?spare, ?fold, ?notDue, ?auto, ?notAuto, ?goBusy, ?go, ?abort, ?deadline, ?idle, ?start, ?endNone, ?endAny,
    ?testEnd, ?released, ?notReleased⟩
  case wire =>
    rintro s bd p group wire page hp ⟨hg, hw⟩ ha
    refine ⟨fun h => ⟨_, (exec_dlkWireError hp hg hw ha).trans (congrArg _ (if_neg (Nat.not_le.mpr h))), s.countError_page page group _ (by decide) rfl,
      s.countError_group page group _ (by decide), s.countError_leaves page group _ _⟩, fun h => (exec_dlkWireError hp hg hw ha).trans (congrArg _ (if_pos h))⟩
  case inactive =>
    intro s bd p group wire page hit hp h
    exact ⟨exec_dlkWireError_stays hp (h.imp_right .inl), exec_dlkUncorrectableCycle_stays hp h, exec_dlkBlockError_stays hp h⟩
  case noWire =>
    intro s bd p group wire h
    exact exec_dlkWireError_stays rfl (.inr (.inr h))
  case fails =>
    intro s page i wire hp
    refine ⟨fun hs => State.wireFails_spare hp hs, fun hs he hl hf => ?_⟩
    rw [State.wireFails_none hp, if_pos hs, State.exhaust_foldDue wire he hl hf]
    exact s.foldDue_shows page i wire
  case further =>
    rintro s bd p group page hit hp ⟨hg, ha⟩
    refine ⟨fun h => ?_, fun h => ?_, fun h => ⟨s.spineRepeats page group hit, ?_, State.raise_events _ _ _ _ _,
      (Leaves.refl.modIc _ (by decide)).raise _ _ _ _ (by decide)⟩, fun h => ?_⟩
    · rw [exec_dlkUncorrectableCycle hp hg ha, exec_dlkBlockError hp hg ha, h]
      exact ⟨rfl, rfl⟩
    · rw [exec_dlkBlockError hp hg ha, h]
      rfl
    · rw [exec_dlkUncorrectableCycle hp hg ha, h]
      rfl
    · rw [State.furtherError_counts h]
      exact ⟨s.countError_page page group _ (by decide) rfl, s.countError_leaves page group _ _⟩
  case spare =>
    rintro s bd p group page wire t hp ⟨hf, ht⟩ ⟨hg, ha, hw⟩
    exact ⟨_, (exec_dlkSpareSwitch hp hf).trans (State.when_true _ _ (by simp [hg, ha, ht])), s.spare_shows page group hw⟩
  case fold =>
    rintro s bd p group page q t hp ⟨hf, ht⟩ ⟨hg, hl, he⟩
    exact (exec_dlkFoldCommit hp hf).trans (State.when_true _ _ (by simp [hg, hl, he, ht]))
  case notDue =>
    intro s bd p group page hp
    refine ⟨fun h => ⟨exec_dlkSpareSwitch_stays hp (.inl h), exec_dlkFoldCommit_stays hp (.inl h)⟩, fun h => ?_, fun w t hf ht => ?_, fun h => ?_,
      fun q t hf ht => ?_⟩
    · exact h.elim (exec_dlkSpareSwitch_none hp) (fun ha => exec_dlkSpareSwitch_stays hp (.inr ha))
    · exact (exec_dlkSpareSwitch hp hf).trans (State.when_false _ _ (by simp [Nat.not_le.mpr ht]))
    · exact h.elim (exec_dlkFoldCommit_none hp) (fun hl => exec_dlkFoldCommit_stays hp (.inr hl))
    · exact (exec_dlkFoldCommit hp hf).trans (State.when_false _ _ (by simp [Nat.not_le.mpr ht]))
  case auto =>
    intro s bd cls index hn he
    exact State.when_true _ _ (by simp [hn, he])
  case notAuto =>
    intro s bd cls index h
    exact State.when_false _ _ (by rcases h with h | h <;> simp [h])
  case goBusy =>
    intro s bd force req hreq hst
    exact (exec_midReqGo hreq).trans (if_pos hst)
  case go =>
    intro s bd force req hreq hst
    exact ⟨_, (exec_midReqGo hreq).trans (if_neg hst), s.reqGone_shows bd force⟩
  case abort =>
    intro s bd force req
    refine ⟨fun h => ⟨if_pos (by simp [h]), if_pos (by simp [h])⟩, fun hreq hst => (exec_midReqAbort hreq).trans (if_pos hst), fun hreq hst ht => ?_,
      fun hreq hst ht => ?_⟩
    · exact (exec_midReqAbort hreq).trans ((if_neg (not_not.mpr hst)).trans (if_pos ht))
    · exact (exec_midReqAbort hreq).trans ((if_neg (not_not.mpr hst)).trans (if_neg (by simp [ht])))
  case deadline =>
    rintro s bd cls index ⟨hc, hi⟩ ⟨hst, ht⟩ ⟨he, hdue⟩
    obtain ⟨hdefer, hforced⟩ := midDeadline_acts hc hi (by simp [State.midLate, hst, ht, he, hdue])
    refine ⟨fun hf => ⟨_, hdefer (.inl hf), s.midDefer_shows bd hc hi⟩, hdefer, fun hf hon hcls hh => ?_, fun hf hon hcls hh hfree => ?_,
      fun hf hon hcls hh hfree => ?_, fun hf hon hcls hst hep => ?_, fun hf hon hcls h => ?_, fun hf hon hcls => (hforced hf hon).2.2 hcls⟩
    · exact ((hforced hf hon).1 hcls).trans (congrArg _ (if_pos hh))
    · exact ((hforced hf hon).1 hcls).trans (congrArg _ ((if_neg (by simp [hh])).trans (if_pos hfree)))
    · exact ((hforced hf hon).1 hcls).trans (congrArg _ ((if_neg (by simp [hh])).trans (if_neg (by simp [hfree]))))
    · exact ((hforced hf hon).2.1 hcls).trans (congrArg _ (if_neg (fun k => k.elim hst (Nat.not_le.mpr hep))))
    · exact ((hforced hf hon).2.1 hcls).trans (congrArg _ (if_pos h))
  case idle =>
    rintro s bd cls index ⟨hc, hi⟩
    refine ⟨fun h => ⟨exec_midDeadline_stays hc hi ?_, (exec_midTestStart hc hi).trans (State.when_false _ _ ?_)⟩, fun h => exec_midDeadline_stays hc hi ?_,
      fun h => (exec_midTestStart hc hi).trans (State.when_false _ _ (by simp [h]))⟩
    · rcases h with h | h <;> simp [State.midLate, h]
    · rcases h with h | h <;> simp [h]
    · rcases h with h | h <;> simp [State.midLate, h]
  case start =>
    rintro s bd cls index ⟨hc, hi⟩ ⟨hst, ht⟩ he
    exact (exec_midTestStart hc hi).trans (State.when_true _ _ (by simp [hst, ht, he]))
  case endNone =>
    intro s bd cls index fail detail rows height width h
    exact exec_midTestEnd_none h
  case endAny =>
    intro s t bd cls index fail bad detail rows height width x a b h hbad ha hb ht hr
    have hu : (if bad then t else t.raise (bdWinEp bd) 0x0C10 0 (midDetail cls index 0)) = s.testPassed bd cls index bad x.req detail.toNat := by
      subst ht hb ha
      rfl
    refine ⟨_, rfl, fun hc => ?_, fun hc => ?_, fun hc hbd => ?_, fun hc => ?_⟩
    · exact (exec_midTestEnd h hr hbad hu).trans (if_pos hc)
    · exact (exec_midTestEnd h hr hbad hu).trans ((if_neg (by omega)).trans (if_pos hc))
    · exact (exec_midTestEnd h hr hbad hu).trans ((if_neg (by omega)).trans ((if_neg (by omega)).trans (if_pos ⟨hc, hbd⟩)))
    · exact (exec_midTestEnd h hr hbad hu).trans ((if_neg (by omega)).trans ((if_neg (by omega)).trans
        (if_neg (fun k => hc.elim (fun h4 => by omega) (fun h3 => by simp [h3.2] at k)))))
  case testEnd =>
    intro s bd cls index fail detail rows height width x h
    exact ⟨midTestEnd_fault h, midTestEnd_pass h, midTestEnd_eye h, exec_midTestEnd_repairs h, midTestEnd_bank h⟩
  case released =>
    rintro s bd cls index u h rfl
    exact ⟨fun hc => (if_pos h).trans (congrArg _ (if_pos hc)), fun hc => (if_pos h).trans (congrArg _ (if_neg hc))⟩
  case notReleased =>
    intro s bd cls index h
    exact if_neg (by simp [h])

end Sys2Proof.Machine
end
